-- ==== Sys2Proof/Word.lean ====
section
/-! DEFINITION. The word types of the WZ1024 register space and of its serial data. -/

namespace Sys2Proof

/-- A register word: registers are 32 bits wide and accessed as aligned words (R5, R27). -/
abbrev Word := BitVec 32

/-- A byte of memory or of a message payload (R5). -/
abbrev Byte := BitVec 8

end Sys2Proof
end

