-- ==== Sys2Proof/Syntax.lean ====
section
/-! DEFINITION. The commands of the block: who sends register accesses, what messages carry, and one constructor for each row
of the table of operations and events. -/

namespace Sys2Proof

/-- The masters of R60. -/
inductive Master where
  | host (link : Fin 6)
  | bench
  | mgt
  | saf
  | grd
  | pair
  | cmp
  | pe (engine : Fin 4)
  | scrub
  | splice
  | diag
  | dly
  | ingest
deriving DecidableEq, Repr

/-- The master ID of R60. -/
def Master.id : Master → Nat
  | .host link => link + 1
  | .bench => 0x08
  | .mgt => 0x09
  | .saf => 0x0A
  | .grd => 0x0B
  | .pair => 0x0C
  | .cmp => 0x10
  | .pe engine => 0x11 + engine
  | .scrub => 0x18
  | .splice => 0x19
  | .diag => 0x1A
  | .dly => 0x1B
  | .ingest => 0x1C

/-- A DRAM transfer as it completes (R328, R329): requester and master, the pair, and for each of its two blocks whether
it takes part, its data, tag and poison flag in a write, and the bits of the stored block that have flipped since it was
last accessed; for a compositor read, the row pair being produced. -/
structure Transfer where
  req : Nat
  master : Nat
  pair : Nat
  write : Bool
  mask : Nat
  data0 : Nat
  data1 : Nat
  tag0 : Nat
  tag1 : Nat
  poison0 : Bool
  poison1 : Bool
  flips0 : Nat
  flips1 : Nat
  rowPair : Nat
deriving DecidableEq, Repr

/-- A requester as it shows itself in a port cycle: a request, its slack, and the pair of its head transfer (R347,
R348). -/
structure PortRequest where
  req : Bool
  slack : Nat
  pair : Nat
deriving DecidableEq, Repr

/-- A Dudun packet as a port receives it (R266): whether its CRC is valid and its length right, its header fields, and
its payload words of 64 bits. -/
structure Packet where
  crcOk : Bool
  type : Nat
  looped : Bool
  dst : Nat
  epoch : Nat
  owner : Nat
  tag : Nat
  words : List Nat
deriving DecidableEq, Repr

/-- A successful MR4 read (R336, R458): the refresh-rate code of each die, and the rate that the hotter die requires: 0
nominal, 1 twice, 2 four times. -/
structure Mr4 where
  die0 : Nat
  die1 : Nat
  rate : Nat
deriving DecidableEq, Repr

/-- The commands of the block: one constructor for each row of the table of operations and events. -/
inductive Instr where
  /-- REGISTER_WRITE (R34) -/
  | registerWrite (m : Master) (addr : BitVec 32) (data : BitVec 32)
  /-- RC_READ (R34) -/
  | rcRead (m : Master) (addr : BitVec 32)
  /-- NOW_LO_READ (R135) -/
  | nowLoRead (m : Master)
  /-- PAGE_COMMIT_GO (R36) -/
  | pageCommitGo (m : Master) (page : Fin 128) (boundary : Fin 4)
  /-- COMMIT_GROUP (R41) -/
  | commitGroup (m : Master) (boundary : Fin 4)
  /-- GROUP_SNAPSHOT (R59) -/
  | groupSnapshot (m : Master)
  /-- LOCK_LEASE (R45) -/
  | lockLease (m : Master) (page : Fin 128) (lease : BitVec 24)
  /-- LOCK_RELEASE (R45) -/
  | lockRelease (m : Master) (page : Fin 128)
  /-- LOCK_BREAK (R46) -/
  | lockBreak (m : Master) (page : Fin 128)
  /-- LEASE_EXPIRY (R46) -/
  | leaseExpiry (page : Fin 128)
  /-- NONE (R48) -/
  | cmdNone (m : Master) (page : Fin 128)
  /-- DISCARD_SHADOW (R48) -/
  | discardShadow (m : Master) (page : Fin 128)
  /-- CLEAR_COUNTERS (R564) -/
  | clearCounters (m : Master) (page : Fin 128)
  /-- EVT_CLEAR (R52) -/
  | evtClear (m : Master) (page : Fin 128) (bits : BitVec 32)
  /-- EVT_FORCE (R54) -/
  | evtForce (m : Master) (page : Fin 128) (bits : BitVec 32)
  /-- EVT_ENABLE_WRITE (R53) -/
  | evtEnableWrite (m : Master) (page : Fin 128) (bits : BitVec 32)
  /-- SNAPSHOT_TAKE (R58) -/
  | snapshotTake (m : Master) (page : Fin 128)
  /-- SNAPSHOT_DONE (R57) -/
  | snapshotDone (page : Fin 128)
  /-- FRAME_BOUNDARY (R146) -/
  | frameBoundary (produced : Nat) (missed : List Nat)
  /-- SLOT_BOUNDARY (R146) -/
  | slotBoundary (slot : Fin 4)
  /-- BLANKING_START (R151) -/
  | blankingStart
  /-- CUE (R151) -/
  | cue
  /-- PE_TILE_DONE (R159) -/
  | peTileDone (tile : Fin 16) (late : List Nat)
  /-- TILE_SIGNATURE_DEADLINE (R159) -/
  | tileSignatureDeadline (tile : Fin 16)
  /-- LANE_ENABLE (R82) -/
  | laneEnable (link : Fin 6)
  /-- SEEK_DWELL_END (R82) -/
  | seekDwellEnd (link : Fin 6)
  /-- SEEK_MESSAGE_RX (R79) -/
  | seekMessageRx (lane : Fin 24) (swapped : Bool)
  /-- LEADER_MESSAGE_RX (R81) -/
  | leaderMessageRx (lane : Fin 24) (codeOk : Bool) (swapped : Bool) (bytes : List (BitVec 8))
  /-- TRAIN_TIMEOUT (R82) -/
  | trainTimeout (link : Fin 6)
  /-- LANE_LOCK (R82) -/
  | laneLock (link : Fin 6)
  /-- TRAINING_FRAME_RX (R82) -/
  | trainingFrameRx (lane : Fin 24) (ready : Bool) (confirm : Bool) (fail : Bool) (d2 : Int) (d1 : Int) (d0 : Int) (dp
      : Int) (skew : Nat)
  /-- FOM_WINDOW_DONE (R76) -/
  | fomWindowDone (lane : Fin 24) (fom : BitVec 10) (ffe : Nat) (dfe : Nat) (step : Option Bool)
  /-- CONFIRM_MEASURE_DONE (R82) -/
  | confirmMeasureDone (lane : Fin 24) (errs : Nat) (bits : Nat)
  /-- FOM_FAIL (R82) -/
  | fomFail (lane : Fin 24)
  /-- LOSS_OF_SIGNAL (R87) -/
  | lossOfSignal (lane : Fin 24) (signal : Bool)
  /-- RUN_STABLE (R84) -/
  | runStable (link : Fin 6)
  /-- RETRAIN (R567) -/
  | retrain (m : Master) (lane : Fin 24)
  /-- TEST_ENTER (R99) -/
  | testEnter (m : Master) (lane : Fin 24)
  /-- INJECT (R95) -/
  | inject (m : Master) (lane : Fin 24) (length : BitVec 8)
  /-- TEST_EXIT (R99) -/
  | testExit (m : Master) (lane : Fin 24)
  /-- RESET_CEILING (R99) -/
  | resetCeiling (m : Master) (lane : Fin 24)
  /-- SENTINEL_CELL_RX (R91) -/
  | sentinelCellRx (lane : Fin 24) (payload : BitVec 256)
  /-- MARKER_RX (R103) -/
  | markerRx (lane : Fin 24) (marker : BitVec 288) (skew : Nat)
  /-- VIDEO_BURST_RX (R112) -/
  | videoBurstRx (link : Fin 6) (cells : List (BitVec 288))
  /-- INGEST_BLOCK_WRITE (R115) -/
  | ingestBlockWrite
  /-- CTL_READ (R118) -/
  | ctlRead (link : Fin 6) (cells : List (BitVec 288))
  /-- CTL_WRITE (R118) -/
  | ctlWrite (link : Fin 6) (cells : List (BitVec 288))
  /-- CTL_MAILBOX (R118) -/
  | ctlMailbox (link : Fin 6) (cells : List (BitVec 288))
  /-- REPLAY_ENTRY_EXPIRY (R119) -/
  | replayEntryExpiry (link : Fin 6)
  /-- UPWARD_MESSAGE_RX (R125) -/
  | upwardMessageRx (link : Fin 6) (cells : List (BitVec 288))
  /-- AUTH_PROOF_RX (R127) -/
  | authProofRx (link : Fin 6) (cell : BitVec 288)
  /-- AUTH_CHALLENGE_RX (R128) -/
  | authChallengeRx (link : Fin 6) (cell : BitVec 288)
  /-- AUTH_TIMEOUT (R127) -/
  | authTimeout (link : Fin 6)
  /-- AUTH_RETRY (R127) -/
  | authRetry (link : Fin 6)
  /-- REVERT_HOLDOFF (R126) -/
  | revertHoldoff
  /-- SWITCH_UPSTREAM (R133) -/
  | switchUpstream (m : Master) (link : Fin 6)
  /-- KEY_LOAD (R129) -/
  | keyLoad (m : Master) (link : Fin 6)
  /-- KEY_CLEAR (R133) -/
  | keyClear (m : Master) (link : Fin 6)
  /-- TIME_SYNC_RX (R138) -/
  | timeSyncRx (link : Fin 6) (sub : BitVec 16) (cell : BitVec 288)
  /-- TIME_PHASE_RX (R149) -/
  | timePhaseRx (link : Fin 6) (sub : BitVec 16) (cell : BitVec 288)
  /-- SYNC_CELL_TX (R137) -/
  | syncCellTx (link : Fin 6) (sub : BitVec 16)
  /-- PHASE_CELL_TX (R149) -/
  | phaseCellTx
  /-- PARENT_LOST (R139) -/
  | parentLost
  /-- HOLDOVER_EXPIRY (R140) -/
  | holdoverExpiry
  /-- SET_TIME (R142) -/
  | setTime (m : Master)
  /-- STILL_EXIT (R158) -/
  | stillExit (m : Master)
  /-- CLAP_RESTART (R148) -/
  | clapRestart (m : Master) (clap : Fin 4)
  /-- CLAP_EDGE (R148) -/
  | clapEdge (clap : Fin 4) (sub : BitVec 16)
  /-- RETIRE_FENCE (R189) -/
  | retireFence (layers : BitVec 8) (windows : BitVec 16)
  /-- OVL_SIGNATURE_POST (R182) -/
  | ovlSignaturePost
  /-- LIB_DATA_WRITE (R178) -/
  | libDataWrite (m : Master) (data : BitVec 32)
  /-- LIB_DATA_READ (R178) -/
  | libDataRead (m : Master)
  /-- SEAL (R179) -/
  | ovlSeal (m : Master)
  /-- UNSEAL (R204) -/
  | ovlUnseal (m : Master)
  /-- CAPTURE (R196) -/
  | capture (m : Master)
  /-- CAP_DONE (R196) -/
  | capDone
  /-- DRAM_TRANSFER (R329) -/
  | dramTransfer (transfer : Transfer)
  /-- REBUILD_START (R219) -/
  | rebuildStart
  /-- WEAR_PHASE_DONE (R223) -/
  | wearPhaseDone
  /-- REBUILD_DONE (R220) -/
  | rebuildDone
  /-- WEAR_PERIOD_EXPIRY (R219) -/
  | wearPeriodExpiry
  /-- TEMP_STALE (R216) -/
  | tempStale (tile : Fin 16)
  /-- BUILD_FACTORY (R226) -/
  | buildFactory (m : Master)
  /-- BUILD_FACTORY_DONE (R226) -/
  | buildFactoryDone
  /-- LOAD_FACTORY (R226) -/
  | loadFactory (m : Master)
  /-- LOAD_FACTORY_DONE (R226) -/
  | loadFactoryDone
  /-- SEAL_FACTORY (R227) -/
  | sealFactory (m : Master)
  /-- WRITE_USER (R228) -/
  | writeUser (m : Master) (tiles : BitVec 16)
  /-- WRITE_USER_DONE (R228) -/
  | writeUserDone
  /-- APPLY_USER (R228) -/
  | applyUser (m : Master)
  /-- RESTORE_FACTORY (R228) -/
  | restoreFactory (m : Master)
  /-- USER_COPY_DONE (R228) -/
  | userCopyDone
  /-- REBUILD (R219) -/
  | cadRebuild (m : Master)
  /-- DOSE_RESET (R236) -/
  | doseReset (m : Master) (tiles : BitVec 16)
  /-- VERIFY (R249) -/
  | matteVerify (m : Master) (copy : Fin 2)
  /-- VERIFY_DONE (R256) -/
  | verifyDone
  /-- MATTE_SEAL_WRITE (R249) -/
  | matteSealWrite (m : Master) (copy : Fin 2) (tile : Fin 16) (crc : BitVec 32)
  /-- PROXY_TAP_CODE (R406) -/
  | proxyTapCode (zone : Fin 64) (take : Fin 4) (lam : Nat)
  /-- TALLY_RESP_RX (R281) -/
  | tallyRespRx (tile : Fin 16) (packet : Packet)
  /-- ACK_RX (R284) -/
  | ackRx (tile : Fin 16) (packet : Packet)
  /-- QUERY_RESP_RX (R277) -/
  | queryRespRx (tile : Fin 16) (packet : Packet)
  /-- DIAG_RESP_RX (R307) -/
  | diagRespRx (tile : Fin 16) (packet : Packet)
  /-- EVENT_RX (R379) -/
  | eventRx (tile : Fin 16) (packet : Packet)
  /-- ENUM_LOOPED_RX (R277) -/
  | enumLoopedRx (tile : Fin 16) (packet : Packet)
  /-- RESPONSE_TIMEOUT (R281) -/
  | responseTimeout (tile : Fin 16) (type : BitVec 8)
  /-- DELIVERY_DONE (R280) -/
  | deliveryDone (tile : Fin 16)
  /-- ENUMERATE (R277) -/
  | enumerate (m : Master) (tile : Fin 16)
  /-- CLAIM (R287) -/
  | dudClaim (m : Master) (tile : Fin 16) (lo : BitVec 8) (hi : BitVec 8)
  /-- QUERY (R296) -/
  | dudQuery (m : Master) (tile : Fin 16)
  /-- SEND_CONFIG (R296) -/
  | sendConfig (m : Master) (tile : Fin 16) (count : BitVec 4)
  /-- READMIT (R288) -/
  | readmit (m : Master) (tile : Fin 16)
  /-- AUTO_READMIT (R288) -/
  | autoReadmit (tile : Fin 16)
  /-- HB_FORCE_WRITE (R265) -/
  | hbForceWrite (m : Master) (tile : Fin 16) (force : Bool)
  /-- IDLE_FRAMESET (R493) -/
  | idleFrameset (tile : Fin 16)
  /-- HEADROOM_STEP (R292) -/
  | headroomStep
  /-- RAIL_POLL (R291) -/
  | railPoll
  /-- PMB_ALERT (R291) -/
  | pmbAlert (segment : Fin 4) (low : Bool)
  /-- PMBUS_TRANSACTION_DONE (R293) -/
  | pmbusTransactionDone (segment : Fin 4) (result : Fin 4) (data : BitVec 16)
  /-- PMBUS_RETRY (R293) -/
  | pmbusRetry (segment : Fin 4)
  /-- READ_STATUS (R299) -/
  | readStatus (m : Master)
  /-- DIAG_VISIT (R305) -/
  | diagVisit (tile : Fin 16) (sink : Fin 128) (rows : BitVec 64) (last : Bool)
  /-- DIAG_REPORT_WRITE (R317) -/
  | diagReportWrite
  /-- INIT_MAP (R323) -/
  | initMap (m : Master) (tiles : BitVec 16)
  /-- INIT_MAP_DONE (R319) -/
  | initMapDone
  /-- BUILD_LIST (R323) -/
  | buildList (m : Master)
  /-- BUILD_LIST_DONE (R319) -/
  | buildListDone
  /-- RELEARN (R323) -/
  | relearn (m : Master) (tiles : BitVec 16)
  /-- CLEAR_VERDICT (R323) -/
  | clearVerdict (m : Master) (emitter : BitVec 23)
  /-- REFRESH_DUE (R335) -/
  | refreshDue (mr4 : Option Mr4)
  /-- ROW_IDLE_TIMEOUT (R331) -/
  | rowIdleTimeout (bank : Nat)
  /-- SWITCH_SET (R339) -/
  | switchSet (m : Master) (set : Fin 2)
  /-- SWITCH_WINDOW_OPEN (R339) -/
  | switchWindowOpen
  /-- TRAIN_SET (R340) -/
  | trainSet (m : Master) (set : Fin 2)
  /-- TRAINING_DONE (R333) -/
  | trainingDone (failed : BitVec 4) (step : BitVec 4)
  /-- SCRUB_NOW (R341) -/
  | scrubNow (m : Master)
  /-- SCRUB_VISIT (R341) -/
  | scrubVisit (upsets : List (Nat × Nat))
  /-- SCRUB_REPAIR_VISIT (R344) -/
  | scrubRepairVisit (upsets : List (Nat × Nat))
  /-- SRAM_PATROL (R345) -/
  | sramPatrol (upsets : List (Nat × Nat × Nat × Bool))
  /-- ARB_CFG_WRITE (R352) -/
  | arbCfgWrite (m : Master) (requester : Fin 12) (data : BitVec 32)
  /-- ERROR_REPORT (R373) -/
  | errorReport (src : Fin 133) (cls : Fin 5) (typ : Fin 6) (space : Fin 4) (addr : BitVec 32) (owner : BitVec 6)
      (synd : BitVec 19) (kind : Fin 3) (count : BitVec 8)
  /-- BROKEN_WIRE (R368) -/
  | brokenWire (src : Fin 133)
  /-- CAPT_ACK_WRITE (R372) -/
  | captAckWrite (m : Master) (seq : BitVec 16)
  /-- CHK_DATA_BYTE (R377) -/
  | chkDataByte (m : Master) (chan : Fin 8) (data : BitVec 8)
  /-- CHK_DATA_HALF (R377) -/
  | chkDataHalf (m : Master) (chan : Fin 8) (data : BitVec 16)
  /-- CHK_DATA_WORD (R377) -/
  | chkDataWord (m : Master) (chan : Fin 8) (data : BitVec 32)
  /-- CHK_SEAL (R378) -/
  | chkSeal (m : Master) (chan : Fin 8)
  /-- RESTART (R378) -/
  | chkRestart (m : Master) (chan : Fin 8)
  /-- REEL_WR_DATA (R381) -/
  | reelWrData (m : Master) (reel : Fin 16) (data : BitVec 32)
  /-- REEL_WRITE_RESUME (R381) -/
  | reelWriteResume (reel : Fin 16)
  /-- END (R380) -/
  | reelEnd (m : Master) (reel : Fin 16)
  /-- ABORT (R380) -/
  | reelAbort (m : Master) (reel : Fin 16)
  /-- REEL_RD_DATA (R382) -/
  | reelRdData (m : Master) (reel : Fin 16)
  /-- MARK (R382) -/
  | reelMark (m : Master) (reel : Fin 16)
  /-- REWIND (R382) -/
  | reelRewind (m : Master) (reel : Fin 16)
  /-- RELEASE (R382) -/
  | reelRelease (m : Master) (reel : Fin 16)
  /-- FLUSH (R392) -/
  | reelFlush (m : Master) (reel : Fin 16)
  /-- PTR_RESET (R385) -/
  | ptrReset (reel : Fin 16)
  /-- SAFE_IN_CHANGE (R400) -/
  | safeInChange (input : Fin 4) (pinB : Bool) (high : Bool)
  /-- SAFE_IN_DEMAND (R400) -/
  | safeInDemand (input : Fin 4) (pinB : Bool)
  /-- IN_DISC (R401) -/
  | inDisc (input : Fin 4)
  /-- SAFETY_FRAME_RX (R402) -/
  | safetyFrameRx (link : Fin 6) (cell : BitVec 288)
  /-- WATCHDOG (R402) -/
  | watchdog (conn : Fin 2)
  /-- STATUS_FRAME_TX (R404) -/
  | statusFrameTx
  /-- TAP_SILENT (R407) -/
  | tapSilent (engine : Fin 4)
  /-- MATTE_SIG_CHECK (R408) -/
  | matteSigCheck
  /-- OVL_SIG_CHECK (R409) -/
  | ovlSigCheck (frame : BitVec 16) (sig : BitVec 32)
  /-- FB_CHANGE (R412) -/
  | fbChange (group : Fin 4) (isOpen : Bool)
  /-- FB_DISAGREE (R412) -/
  | fbDisagree (group : Fin 4)
  /-- FB_CLOSE_TIMEOUT (R394) -/
  | fbCloseTimeout (group : Fin 4)
  /-- FB_OPEN_TIMEOUT (R394) -/
  | fbOpenTimeout (group : Fin 4)
  /-- TEST_PULSE (R411) -/
  | testPulse (group : Fin 4) (mid : Bool) (outp : Bool) (coil : Nat)
  /-- SAFE_RESET_EDGE (R414) -/
  | safeResetEdge (high : Bool)
  /-- RESET_REJECTED (R414) -/
  | resetRejected
  /-- SAFE_XIN_LOW (R420) -/
  | safeXinLow
  /-- CLEAR_LOCKOUT (R427) -/
  | clearLockout (m : Master) (groups : BitVec 4)
  /-- HANDOVER_BEGIN (R422) -/
  | handoverBegin (m : Master)
  /-- HANDOVER_END (R423) -/
  | handoverEnd (m : Master)
  /-- SAF_TRIP (R427) -/
  | safTrip (m : Master) (groups : BitVec 4)
  /-- HANDOVER_EXPIRED (R423) -/
  | handoverExpired
  /-- GRD_ALIVE_WRITE (R425) -/
  | grdAliveWrite (m : Master) (count : BitVec 8)
  /-- SAF_SILENT (R425) -/
  | safSilent
  /-- SELF_TEST_START (R429) -/
  | selfTestStart (group : Fin 4)
  /-- SELF_TEST_DONE (R429) -/
  | selfTestDone (group : Fin 4) (ok : Bool)
  /-- SAFE_OUT_CURRENT_LIMIT (R558) -/
  | safeOutCurrentLimit (group : Fin 4)
  /-- DOMAIN_REQ_ON (R436) -/
  | domainReqOn (m : Master) (domain : BitVec 5)
  /-- DOMAIN_REQ_RET (R435) -/
  | domainReqRet (m : Master) (domain : BitVec 5)
  /-- DOMAIN_REQ_OFF (R435) -/
  | domainReqOff (m : Master) (domain : BitVec 5)
  /-- DOMAIN_REQ_ILLEGAL (R434) -/
  | domainReqIllegal (m : Master) (domain : BitVec 5) (target : Fin 4)
  /-- ENTRY_ABANDON (R441) -/
  | entryAbandon (domain : Fin 19)
  /-- DOMAIN_ENTRY_DONE (R438) -/
  | domainEntryDone (domain : Fin 19)
  /-- DOMAIN_EXIT_DONE (R439) -/
  | domainExitDone (domain : Fin 19)
  /-- SIGNAL_DETECT (R443) -/
  | signalDetect (link : Fin 6)
  /-- WAKE_TIMER (R443) -/
  | wakeTimer
  /-- LP_ENTER (R444) -/
  | lpEnter
  /-- BROWNOUT (R446) -/
  | brownout
  /-- THM_DEMAND (R448) -/
  | thmDemand (m : Master) (sensors : BitVec 12) (mr4 : Bool)
  /-- GUARD_DEMAND (R448) -/
  | guardDemand
  /-- THM_CONVERSION_DONE (R449) -/
  | thmConversionDone (values : List (BitVec 16)) (biasBad : BitVec 12)
  /-- SCAL_CHECK (R464) -/
  | scalCheck
  /-- RUN (R474) -/
  | scalRun (m : Master) (units : BitVec 21)
  /-- SCAL_RUN_START (R465) -/
  | scalRunStart
  /-- SCAL_MEMBER_DONE (R465) -/
  | scalMemberDone (hits : List Nat) (reaches : Bool) (raw2 : Nat) (rawRef : Nat)
  /-- SCAL_RUN_DONE (R465) -/
  | scalRunDone
  /-- MADC_CONVERSION (R462) -/
  | madcConversion (channel : Fin 12) (raw : BitVec 16)
  /-- REFIN_GATE (R468) -/
  | refinGate (offset : Int)
  /-- REFIN_LOSS (R468) -/
  | refinLoss
  /-- OSC_COUNT_DONE (R463) -/
  | oscCountDone (ends : BitVec 19)
  /-- MIRROR_HEARTBEAT_RX (R491) -/
  | mirrorHeartbeatRx (mgen : BitVec 32) (slot : Fin 4) (state : Fin 8) (ready : Bool) (inhibit : Bool) (groups :
      BitVec 12) (epoch : BitVec 16) (frame : BitVec 16) (primary : Bool)
  /-- MIRROR_COMMIT_RX (R485) -/
  | mirrorCommitRx (mgen : BitVec 32) (page : Fin 128) (gen : BitVec 16) (boundary : Fin 4) (group : Bool) (entries :
      List (BitVec 12 × BitVec 32))
  /-- MIRROR_OUTCOME_RX (R486) -/
  | mirrorOutcomeRx (mgen : BitVec 32) (page : Fin 128) (state : Fin 8)
  /-- OUTCOME_WAIT_EXPIRY (R486) -/
  | outcomeWaitExpiry (page : Fin 128)
  /-- MIRROR_BLOCK_RX (R487) -/
  | mirrorBlockRx (mgen : BitVec 32) (block : BitVec 27) (tag : BitVec 8) (poison : Bool) (data : BitVec 256)
  /-- MIRROR_REBUILD_RX (R488) -/
  | mirrorRebuildRx (mgen : BitVec 32) (buffer : Fin 2) (gen : BitVec 16) (ceilings : Vector (BitVec 16) 16) (frame :
      BitVec 16)
  /-- MIRROR_LIST_RX (R488) -/
  | mirrorListRx (mgen : BitVec 32) (emitter : BitVec 23) (short : Bool) (remove : Bool) (frame : BitVec 16)
  /-- MIRROR_COMMAND_RX (R488) -/
  | mirrorCommandRx (mgen : BitVec 32) (page : Fin 128) (opcode : BitVec 8) (arg : BitVec 24)
  /-- MIRROR_SPLIT_RX (R500) -/
  | mirrorSplitRx (mgen : BitVec 32) (tile : Fin 16) (lo : BitVec 8) (hi : BitVec 8) (join : Bool)
  /-- MIRROR_YIELD_RX (R494) -/
  | mirrorYieldRx (mgen : BitVec 32) (cause : Fin 8)
  /-- MIRROR_TAKEN_RX (R499) -/
  | mirrorTakenRx (mgen : BitVec 32)
  /-- MIRROR_RESYNC_RX (R503) -/
  | mirrorResyncRx (mgen : BitVec 32) (ends : Bool)
  /-- MIRROR_DIAGRESP_RX (R501) -/
  | mirrorDiagrespRx (mgen : BitVec 32) (tile : Fin 16) (sink : Fin 128) (frame : BitVec 16) (words : Vector (BitVec
      64) 13)
  /-- HEARTBEAT_MISS (R492) -/
  | heartbeatMiss
  /-- TAKEOVER (R496) -/
  | takeover (slot : Fin 4)
  /-- TAIL_PACKET_RX (R490) -/
  | tailPacketRx (tile : Fin 16) (targets : BitVec 128) (packet : Packet)
  /-- PAIR_LEASE_RENEW (R483) -/
  | pairLeaseRenew
  /-- RESYNC (R502) -/
  | resync (m : Master)
  /-- RESYNC_COPY_DONE (R502) -/
  | resyncCopyDone
  /-- SWITCHOVER (R507) -/
  | switchover (m : Master)
  /-- UPDATE_START (R519) -/
  | updateStart (m : Master) (target : Fin 4)
  /-- UPDATE_ABORT (R519) -/
  | updateAbort (m : Master)
  /-- UPDATE_BLOCK (R517) -/
  | updateBlock
  /-- ACTIVATE (R520) -/
  | fwActivate (m : Master)
  /-- ACTIVATE_DONE (R520) -/
  | activateDone
  /-- HANDOVER (R520) -/
  | fwHandover (m : Master) (target : Fin 4) (version : BitVec 16)
  /-- FW_ALIVE_WRITE (R520) -/
  | fwAliveWrite (m : Master) (count : BitVec 8)
  /-- HANDOVER_REVERT (R520) -/
  | handoverRevert
  /-- CONFIRM (R522) -/
  | fwConfirm (m : Master)
  /-- SVN_ADVANCE (R522) -/
  | svnAdvance (m : Master) (target : Fin 4)
  /-- REVOKE_KEY (R530) -/
  | revokeKey (m : Master) (key : Fin 4)
  /-- CKPT_NOW (R530) -/
  | ckptNow (m : Master)
  /-- WEAR_CHECKPOINT (R524) -/
  | wearCheckpoint
  /-- DIAG_CHECKPOINT (R526) -/
  | diagCheckpoint
  /-- FLASH_OP_ISSUE (R515) -/
  | flashOpIssue
  /-- FLASH_OP_DONE (R512) -/
  | flashOpDone (ok : Bool)
  /-- HOLD_TIMEOUT (R515) -/
  | holdTimeout
  /-- DAILIES_PERIOD (R528) -/
  | dailiesPeriod
  /-- READ (R532) -/
  | dlyRead (m : Master)
  /-- DLY_MARK (R532) -/
  | dlyMark (m : Master) (note : BitVec 16)
  /-- POWER_ON_RESET (R533) -/
  | powerOnReset (straps : BitVec 3)
  /-- NRESET (R533) -/
  | nreset (straps : BitVec 3)
  /-- DEVICE_RESET (R547) -/
  | deviceReset (m : Master)
  /-- MGT_RESTART (R536) -/
  | mgtRestart (m : Master)
  /-- MGT_HALT (R366) -/
  | mgtHalt (addr : BitVec 32)
  /-- LOADER_STEP_DONE (R539) -/
  | loaderStepDone
  /-- BENCH_ACCESS (R544) -/
  | benchAccess (write : Bool) (addr : BitVec 32) (data : BitVec 32)
  /-- BENCH_DATA_WRITE (R545) -/
  | benchDataWrite (data : BitVec 32)
  /-- BENCH_START (R545) -/
  | benchStart (target : Fin 4)
  /-- PORT_CYCLE (R349) -/
  | portCycle (requests : List PortRequest)
  /-- BROKEN_WIRE_CLEAR (R368) -/
  | brokenWireClear (src : Fin 133)
  /-- SAFE_XIN_HIGH (R395) -/
  | safeXinHigh
  /-- SAFE_RESET_LOW_HELD (R395) -/
  | safeResetLowHeld
  /-- PRBS_LOCK (R92) -/
  | prbsLock (lane : Fin 24)
  /-- PRBS_LOCK_LOSS (R92) -/
  | prbsLockLoss (lane : Fin 24) (errs : Nat)
  /-- RING_LOCK_LOSS (R286) -/
  | ringLockLoss (tile : Fin 16)
  /-- LIB_SEAL_DONE (R179) -/
  | libSealDone
  /-- INJECT_DONE (R95) -/
  | injectDone (lane : Fin 24) (errs : Nat)
  /-- POWER_DOWN (R554) -/
  | powerDown
deriving DecidableEq, Repr

end Sys2Proof
end

