-- ==== Sys2Proof/Machine/Aes.lean ====
section
/-! DEFINITION. AES-128 and AES-CMAC (NIST SP 800-38B), which R107, R128 and R129 name: the substitution box, the
cipher on 16 bytes, and the 16-byte MAC. -/

namespace Sys2Proof.Machine

/-- The AES substitution box, first half. -/
def sboxLow : List Nat :=
  [0x63, 0x7C, 0x77, 0x7B, 0xF2, 0x6B, 0x6F, 0xC5, 0x30, 0x01, 0x67, 0x2B, 0xFE, 0xD7, 0xAB, 0x76] ++
  [0xCA, 0x82, 0xC9, 0x7D, 0xFA, 0x59, 0x47, 0xF0, 0xAD, 0xD4, 0xA2, 0xAF, 0x9C, 0xA4, 0x72, 0xC0] ++
  [0xB7, 0xFD, 0x93, 0x26, 0x36, 0x3F, 0xF7, 0xCC, 0x34, 0xA5, 0xE5, 0xF1, 0x71, 0xD8, 0x31, 0x15] ++
  [0x04, 0xC7, 0x23, 0xC3, 0x18, 0x96, 0x05, 0x9A, 0x07, 0x12, 0x80, 0xE2, 0xEB, 0x27, 0xB2, 0x75] ++
  [0x09, 0x83, 0x2C, 0x1A, 0x1B, 0x6E, 0x5A, 0xA0, 0x52, 0x3B, 0xD6, 0xB3, 0x29, 0xE3, 0x2F, 0x84] ++
  [0x53, 0xD1, 0x00, 0xED, 0x20, 0xFC, 0xB1, 0x5B, 0x6A, 0xCB, 0xBE, 0x39, 0x4A, 0x4C, 0x58, 0xCF] ++
  [0xD0, 0xEF, 0xAA, 0xFB, 0x43, 0x4D, 0x33, 0x85, 0x45, 0xF9, 0x02, 0x7F, 0x50, 0x3C, 0x9F, 0xA8] ++
  [0x51, 0xA3, 0x40, 0x8F, 0x92, 0x9D, 0x38, 0xF5, 0xBC, 0xB6, 0xDA, 0x21, 0x10, 0xFF, 0xF3, 0xD2]

/-- The AES substitution box, second half. -/
def sboxHigh : List Nat :=
  [0xCD, 0x0C, 0x13, 0xEC, 0x5F, 0x97, 0x44, 0x17, 0xC4, 0xA7, 0x7E, 0x3D, 0x64, 0x5D, 0x19, 0x73] ++
  [0x60, 0x81, 0x4F, 0xDC, 0x22, 0x2A, 0x90, 0x88, 0x46, 0xEE, 0xB8, 0x14, 0xDE, 0x5E, 0x0B, 0xDB] ++
  [0xE0, 0x32, 0x3A, 0x0A, 0x49, 0x06, 0x24, 0x5C, 0xC2, 0xD3, 0xAC, 0x62, 0x91, 0x95, 0xE4, 0x79] ++
  [0xE7, 0xC8, 0x37, 0x6D, 0x8D, 0xD5, 0x4E, 0xA9, 0x6C, 0x56, 0xF4, 0xEA, 0x65, 0x7A, 0xAE, 0x08] ++
  [0xBA, 0x78, 0x25, 0x2E, 0x1C, 0xA6, 0xB4, 0xC6, 0xE8, 0xDD, 0x74, 0x1F, 0x4B, 0xBD, 0x8B, 0x8A] ++
  [0x70, 0x3E, 0xB5, 0x66, 0x48, 0x03, 0xF6, 0x0E, 0x61, 0x35, 0x57, 0xB9, 0x86, 0xC1, 0x1D, 0x9E] ++
  [0xE1, 0xF8, 0x98, 0x11, 0x69, 0xD9, 0x8E, 0x94, 0x9B, 0x1E, 0x87, 0xE9, 0xCE, 0x55, 0x28, 0xDF] ++
  [0x8C, 0xA1, 0x89, 0x0D, 0xBF, 0xE6, 0x42, 0x68, 0x41, 0x99, 0x2D, 0x0F, 0xB0, 0x54, 0xBB, 0x16]

/-- The AES substitution of a byte. -/
def sbox (b : Nat) : Nat := if b < 128 then sboxLow.getD b 0 else sboxHigh.getD (b - 128) 0

/-- Multiplication by x in GF(2⁸) with x⁸ + x⁴ + x³ + x + 1. -/
def xtime (b : Nat) : Nat := if b < 128 then 2 * b else (2 * b) ^^^ 0x11B

/-- The exclusive or of two byte strings. -/
def xorBytes (a b : List Nat) : List Nat := List.zipWith (· ^^^ ·) a b

/-- The next round key from the last 16 bytes. -/
def nextRoundKey (rcon : Nat) (k : List Nat) : List Nat :=
  let w0 := k.take 4
  let w1 := (k.drop 4).take 4
  let w2 := (k.drop 8).take 4
  let w3 := k.drop 12
  let t := xorBytes [sbox (w3.getD 1 0), sbox (w3.getD 2 0), sbox (w3.getD 3 0), sbox (w3.getD 0 0)] [rcon, 0, 0, 0]
  let v0 := xorBytes w0 t
  let v1 := xorBytes w1 v0
  let v2 := xorBytes w2 v1
  v0 ++ v1 ++ v2 ++ xorBytes w3 v2

/-- The rows of the column-major state shift. -/
def shiftRows (s : List Nat) : List Nat :=
  (List.range 16).map (fun i => s.getD ((i + 4 * (i % 4)) % 16) 0)

/-- One column mixes. -/
def mixColumn (a b c d : Nat) : List Nat :=
  [xtime a ^^^ xtime b ^^^ b ^^^ c ^^^ d, a ^^^ xtime b ^^^ xtime c ^^^ c ^^^ d,
   a ^^^ b ^^^ xtime c ^^^ xtime d ^^^ d, xtime a ^^^ a ^^^ b ^^^ c ^^^ xtime d]

/-- The four columns mix. -/
def mixColumns : List Nat → List Nat
  | a :: b :: c :: d :: r => mixColumn a b c d ++ mixColumns r
  | _ => []

/-- The rounds after the first key addition, by the list of round constants. -/
def aesRounds (s k : List Nat) : List Nat → List Nat
  | [] => s
  | rc :: rest =>
    let k := nextRoundKey rc k
    let s := shiftRows (s.map sbox)
    aesRounds (xorBytes (if rest.isEmpty then s else mixColumns s) k) k rest

/-- AES-128 of a 16-byte block under a 16-byte key. -/
def aes128 (key block : List Nat) : List Nat :=
  aesRounds (xorBytes block key) key [0x01, 0x02, 0x04, 0x08, 0x10, 0x20, 0x40, 0x80, 0x1B, 0x36]

/-- Doubling in the field of CMAC, on a 128-bit big-endian number. -/
def cmacDouble (v : Nat) : Nat := if v < 2 ^ 127 then 2 * v else (2 * v) % 2 ^ 128 ^^^ 0x87

/-- A number as 16 bytes, most significant first. -/
def beBytes16 (v : Nat) : List Nat := (List.range 16).map (fun i => v / 256 ^ (15 - i) % 256)

/-- Bytes as a number, most significant first. -/
def ofBeBytes (bs : List Nat) : Nat := bs.foldl (fun v b => v * 256 + b % 256) 0

/-- The CBC chain of CMAC over whole blocks and the prepared last block; `n` bounds the number of blocks. -/
def cmacChain (key : List Nat) (x : List Nat) (k1 k2 : Nat) (msg : List Nat) : Nat → List Nat
  | 0 => x
  | n + 1 =>
    if msg.length ≤ 16 then
      let last :=
        if msg.length = 16 then xorBytes msg (beBytes16 k1)
        else xorBytes (msg ++ 0x80 :: List.replicate (15 - msg.length) 0) (beBytes16 k2)
      aes128 key (xorBytes x last)
    else cmacChain key (aes128 key (xorBytes x (msg.take 16))) k1 k2 (msg.drop 16) n

/-- AES-128 CMAC of a message, 16 bytes. The key is a 16-byte number, key byte 0 least significant (R129). -/
def cmac (key : Nat) (msg : List Nat) : List Nat :=
  let kb := (List.range 16).map (fun i => key / 256 ^ i % 256)
  let k1 := cmacDouble (ofBeBytes (aes128 kb (List.replicate 16 0)))
  cmacChain kb (List.replicate 16 0) k1 (cmacDouble k1) msg (msg.length / 16 + 1)

end Sys2Proof.Machine
end

