-- ==== Sys2Proof/Machine/Codes.lean ====
section
/-! DEFINITION. The two codes of chapter 12: the BC288 block code (R361 to R363) and CRC-32C (R376). -/

namespace Sys2Proof.Machine

/-! ### BC288 (R361 to R363) -/

/-- *m*₁(x) = x⁹ + x⁴ + 1. -/
def bchM1 : Nat := 0x211

/-- *m*₃(x), the minimal polynomial of α³. -/
def bchM3 : Nat := 0x259

/-- The product of two polynomials over GF(2), bit *i* the coefficient of xⁱ; `n` bounds the degree of `b`. -/
def clmul (a b : Nat) : Nat → Nat
  | 0 => 0
  | n + 1 => (if b >>> n % 2 = 1 then a <<< n else 0) ^^^ clmul a b n

/-- *g*(x) = (x + 1) × *m*₁(x) × *m*₃(x), of degree 19. -/
def bchG : Nat := clmul (clmul 3 bchM1 10) bchM3 10

/-- The remainder modulo *g* of a polynomial of degree below 19 + `n`. -/
def bchMod (v : Nat) : Nat → Nat
  | 0 => v
  | n + 1 => bchMod (if v >>> (19 + n) % 2 = 1 then v ^^^ (bchG <<< n) else v) n

/-- The 19 check bits of a message of 269 bits: x¹⁹ × *u*(x) modulo *g*(x). -/
def bchCheck (u : Nat) : Nat := bchMod (u <<< 19) 269

/-- The codeword of 256 data bits and 13 tag bits. -/
def bchEncode (data tag : Nat) : Nat :=
  let u := data % 2 ^ 256 + (tag % 2 ^ 13) * 2 ^ 256
  u <<< 19 ||| bchCheck u

/-- Multiplication by α in GF(2⁹). -/
def gfAlpha (x : Nat) : Nat := if x * 2 < 512 then x * 2 else (x * 2) ^^^ bchM1

/-- The product in GF(2⁹), by the bits of `y` from the highest of `n`. -/
def gfMulAux (x y : Nat) : Nat → Nat
  | 0 => 0
  | n + 1 =>
    let r := gfMulAux x (y >>> 1) n
    gfAlpha r ^^^ (if y % 2 = 1 then x else 0)

/-- The product in GF(2⁹). -/
def gfMul (x y : Nat) : Nat := gfMulAux x y 9

/-- The powers α⁰ to α²⁸⁷ that stand for the positions of a codeword. -/
def alphaPowers : List Nat := (List.range 287).foldl (fun l _ => gfAlpha (l.headD 1) :: l) [1] |>.reverse

/-- The syndrome of 288 received bits: *S*₁, *S*₃ and the parity *P* (R363). -/
def bchSyndrome (c : Nat) : Nat × Nat × Nat :=
  (alphaPowers.zipIdx).foldl (fun acc e =>
    if c >>> e.2 % 2 = 1 then
      (acc.1 ^^^ e.1, acc.2.1 ^^^ gfMul e.1 (gfMul e.1 e.1), (acc.2.2 + 1) % 2)
    else acc) (0, 0, 0)

/-- The syndrome as reported: *S*₁ in [8:0], *S*₃ in [17:9], *P* in [18]. -/
def syndWord (y : Nat × Nat × Nat) : Nat := y.1 + y.2.1 * 2 ^ 9 + y.2.2 * 2 ^ 18

/-- The outcomes of a decoder (R363). -/
inductive Decoded where
  | clean (data tag : Nat)
  | corrected (data tag synd : Nat)
  | uncorrectable (synd : Nat)
deriving DecidableEq, Repr

/-- Data and tag of a codeword. -/
def bchSplit (c : Nat) : Nat × Nat := (c >>> 19 % 2 ^ 256, c >>> 275 % 2 ^ 13)

/-- The decoder: a block is corrected only when exactly one pattern of weight 1 or 2 yields the syndrome and the
parity (R363). Two patterns cannot, since the minimum distance is 6. -/
def bchDecode (c : Nat) : Decoded :=
  let y := bchSyndrome c
  let fixWith (pat : Nat) : Decoded :=
    let d := bchSplit (c ^^^ pat)
    .corrected d.1 d.2 (syndWord y)
  if y = (0, 0, 0) then
    let d := bchSplit c
    .clean d.1 d.2
  else if y.2.2 = 1 then
    match alphaPowers.findIdx? (fun x => x = y.1 ∧ gfMul x (gfMul x x) = y.2.1) with
    | some i => fixWith (1 <<< i)
    | none => .uncorrectable (syndWord y)
  else
    match alphaPowers.findIdx? (fun x =>
      let z := x ^^^ y.1
      z ≠ x ∧ alphaPowers.contains z ∧ (gfMul x (gfMul x x)) ^^^ (gfMul z (gfMul z z)) = y.2.1) with
    | some i =>
      match alphaPowers.findIdx? (fun x => x = alphaPowers.getD i 0 ^^^ y.1) with
      | some j => fixWith (1 <<< i ||| 1 <<< j)
      | none => .uncorrectable (syndWord y)
    | none => .uncorrectable (syndWord y)

/-- The check word that stands beside a block in a memory: tag in [12:0], check bits in [31:13] (R362). -/
def checkWord (data tag : Nat) : Nat :=
  tag % 2 ^ 13 + bchCheck (data % 2 ^ 256 + (tag % 2 ^ 13) * 2 ^ 256) * 2 ^ 13

/-! ### CRC-32C (R376) -/

/-- Eight steps of the reflected Castagnoli polynomial. -/
def crcStep (r : Nat) : Nat → Nat
  | 0 => r
  | n + 1 => crcStep (if r % 2 = 1 then (r / 2) ^^^ 0x82F63B78 else r / 2) n

/-- One byte into the register. -/
def crcByte (r b : Nat) : Nat := crcStep (r ^^^ (b % 256)) 8

/-- Bytes into the register, first byte first. -/
def crcBytes (r : Nat) (bs : List Nat) : Nat := bs.foldl crcByte r

/-- The seeded CRC-32C of some bytes. -/
def crc32cSeeded (seed : Nat) (bs : List Nat) : Nat := crcBytes seed bs ^^^ 0xFFFFFFFF

/-- The CRC-32C of some bytes. -/
def crc32c (bs : List Nat) : Nat := crc32cSeeded 0xFFFFFFFF bs

/-- The `n` bytes of a number, least significant first (R5). -/
def leBytes (v : Nat) : Nat → List Nat
  | 0 => []
  | n + 1 => v % 256 :: leBytes (v / 256) n

/-- The number of some bytes, least significant first. -/
def ofLeBytes : List Nat → Nat
  | [] => 0
  | b :: r => b % 256 + 256 * ofLeBytes r

end Sys2Proof.Machine
end

