-- ==== Sys2Proof/Config.lean ====
section
/-! DEFINITION. What an implementation fixes and what the spec leaves open: constants without a body, so that no proof
can see what they are. -/

namespace Sys2Proof.Config

/-- The free values: the `n`-th value that the spec leaves open in a run, at the width it has. -/
opaque freeValue (w : Nat) : Nat → BitVec w

/-- The Lanczos coefficients of R176, S1.14, by taps of the axis, source and destination size, phase and tap. Log 22. -/
opaque lanczos (taps src dst phase : Nat) : Nat → BitVec 16

/-- The tile signature of R159 over a tile's codes, whose byte order the spec does not state. Log 23. -/
opaque tileSignature (seed : Nat) : List Nat → BitVec 32

/-- What the ROM revision of the silicon is (R30). -/
opaque pageRev : BitVec 8

end Sys2Proof.Config
end

