-- ==== Sys2Proof/Machine/Geometry.lean ====
section
/-! DEFINITION. The pixel field (chapter 01): tiles, quadrants, sinks, channels and emitter indices. -/

namespace Sys2Proof.Machine

/-- The tile of pixel (x, y): tiles of 256 × 256 pixels, counted row by row. -/
def tileOfPixel (x y : Nat) : Nat := 4 * (y / 256) + x / 256

/-- The quadrant, and pixel engine, of pixel (x, y) (R11). -/
def quadrantOfPixel (x y : Nat) : Nat := 2 * (y / 512) + x / 512

/-- The port group, and pixel engine, of a tile (R11). -/
def portGroup (t : Nat) : Nat := 2 * (t / 8) + t % 4 / 2

/-- The four tiles of a quadrant, in the order of R11's table. -/
def tilesOfQuadrant (q : Nat) : List Nat :=
  let t := 8 * (q / 2) + 2 * (q % 2)
  [t, t + 1, t + 4, t + 5]

/-- The number of a tile inside its quadrant (R232). -/
def localTile (t : Nat) : Nat := 2 * (t / 4 % 2) + t % 2

/-- Sinks per ring of a build (R22). -/
def sinksPerRing (dual : Bool) : Nat := if dual then 128 else 64

/-- Pixels across a sink (R18). -/
def sinkWidth (dual : Bool) : Nat := if dual then 8 else 16

/-- Sink columns of a tile (R18). -/
def sinkCols (dual : Bool) : Nat := 256 / sinkWidth dual

/-- The address of the sink at sink row `sr` and sink column `sc`: the serpentine of R19. -/
def sinkAddr (dual : Bool) (sr sc : Nat) : Nat :=
  let n := sinkCols dual
  if sr % 2 = 0 then n * sr + sc else n * sr + (n - 1 - sc)

/-- An emitter's place on the rings: tile, sink, scan row and column channel. -/
structure Emitter where
  tile : Nat
  sink : Nat
  row : Nat
  chan : Nat
deriving DecidableEq, Repr

/-- An emitter's place in the picture: pixel, bank and colour. -/
structure PixelEmitter where
  x : Nat
  y : Nat
  bank : Nat
  colour : Nat
deriving DecidableEq, Repr

/-- The ring coordinates of an emitter (R18 to R20). -/
def ringOf (dual : Bool) (e : PixelEmitter) : Emitter :=
  let lx := e.x % 256
  let ly := e.y % 256
  let wc := sinkWidth dual
  let u := lx % wc
  { tile := tileOfPixel e.x e.y
    sink := sinkAddr dual (ly / 64) (lx / wc)
    row := ly % 64
    chan := if dual then 6 * u + 3 * e.bank + e.colour else 3 * u + e.colour }

/-- The inverse mapping: the procedure "emitter position from ring coordinates" (R20). -/
def pixelOf (dual : Bool) (e : Emitter) : PixelEmitter :=
  let n := sinkCols dual
  let sr := e.sink / n
  let k := e.sink % n
  let sc := if sr % 2 = 0 then k else n - 1 - k
  let u := if dual then e.chan / 6 else e.chan / 3
  { x := 256 * (e.tile % 4) + sinkWidth dual * sc + u
    y := 256 * (e.tile / 4) + 64 * sr + e.row
    bank := if dual then e.chan % 6 / 3 else 0
    colour := e.chan % 3 }

/-- The emitter index (R21). -/
def emitterIndex (dual : Bool) (e : Emitter) : Nat :=
  ((e.tile * sinksPerRing dual + e.sink) * 64 + e.row) * 48 + e.chan

/-- The emitter of an index (R21 read backwards). -/
def emitterOf (dual : Bool) (i : Nat) : Emitter :=
  { chan := i % 48
    row := i / 48 % 64
    sink := i / 3072 % sinksPerRing dual
    tile := i / 3072 / sinksPerRing dual }

/-- Emitters of a section (R22). -/
def emittersOf (dual : Bool) : Nat := 16 * sinksPerRing dual * 3072

/-- The pixel index (R21). -/
def pixelIndex (x y : Nat) : Nat := 1024 * y + x

/-! ### The calibration region (R213) -/

/-- Blocks of the region (R213). -/
def regionBlocks : Nat := 11403264

/-- Offsets of the parts of the region, in blocks (R213). -/
def offFactory : Nat := 0
def offUser (u : Nat) : Nat := if u = 0 then 0x240000 else 0x480000
def offEff (b : Nat) : Nat := if b = 0 then 0x6C0000 else 0x7E0000
def offWear : Nat := 0x900000
def offResidual : Nat := 0xA80000

end Sys2Proof.Machine
end

