-- ==== Sys2Proof/Machine/Fields.lean ====
section
/-! DEFINITION. The fields of the block registers, named PAGE.REGISTER.FIELD as in R7, with the offset and the
bits that the register table of each page's chapter gives them (R5). `i` is the number of a repeated register and
`j` the number of a field repeated inside one word. -/

namespace Sys2Proof.Machine

/-- A field: the register's offset in its page, the field's lowest bit and its width. -/
structure Fld where
  off : Nat
  lo : Nat
  w : Nat
deriving DecidableEq, Repr

/-- The mask of the field's bits in its register. -/
def Fld.mask (f : Fld) : Nat := (2 ^ f.w - 1) <<< f.lo

/-! `SYS`: chapter 01, 02, 18 -/

def SYS.COMMIT_GROUP.GO : Fld := ⟨0x080, 0, 1⟩
def SYS.COMMIT_GROUP.BOUNDARY : Fld := ⟨0x080, 1, 2⟩
def SYS.COMMIT_GROUP.OP : Fld := ⟨0x080, 3, 1⟩
def SYS.GROUP_MASK.PAGES (i : Nat) : Fld := ⟨0x084 + 4 * i, 0, 32⟩
def SYS.GROUP_STAT.STATE : Fld := ⟨0x094, 0, 4⟩
def SYS.GROUP_STAT.FIRST_FAIL : Fld := ⟨0x094, 4, 7⟩
def SYS.GROUP_STAT.GEN : Fld := ⟨0x094, 16, 16⟩
def SYS.GROUP_FAIL.PAGES (i : Nat) : Fld := ⟨0x098 + 4 * i, 0, 32⟩
def SYS.IRQ_SUM.PAGES (i : Nat) : Fld := ⟨0x0A8 + 4 * i, 0, 32⟩
def SYS.IRQ_CTL.NIRQ_EN : Fld := ⟨0x0B8, 0, 1⟩
def SYS.IRQ_CTL.MGT_EN : Fld := ⟨0x0B8, 1, 1⟩
def SYS.IRQ_CTL.NOTICE_EN : Fld := ⟨0x0B8, 2, 1⟩
def SYS.FIELD_CFG.AIM : Fld := ⟨0x0C0, 0, 1⟩
def SYS.FIELD_CFG.TILE_EN : Fld := ⟨0x0C0, 16, 16⟩
def SYS.FIELD_STAT.TILE_LIVE : Fld := ⟨0x0C4, 0, 16⟩
def SYS.FIELD_STAT.AIM_NOW : Fld := ⟨0x0C4, 16, 1⟩
def SYS.FIELD_STAT.REFUSE_TILE : Fld := ⟨0x0C4, 20, 4⟩
def SYS.FIELD_STAT.LAST_REFUSE : Fld := ⟨0x0C4, 24, 4⟩
def SYS.RESET_CTL.MGT_AUTO : Fld := ⟨0x0D0, 0, 1⟩
def SYS.RESET_STAT.CAUSE : Fld := ⟨0x0D4, 0, 3⟩
def SYS.RESET_STAT.MGT_CAUSE : Fld := ⟨0x0D4, 3, 2⟩
def SYS.RESET_STAT.MGT_RESTARTS : Fld := ⟨0x0D4, 8, 8⟩
def SYS.RESET_STAT.DEVICE_RESETS : Fld := ⟨0x0D4, 16, 16⟩
def SYS.BOOT_STAT.STRAPS : Fld := ⟨0x0D8, 0, 3⟩
def SYS.BOOT_STAT.ROM : Fld := ⟨0x0D8, 3, 3⟩
def SYS.BOOT_STAT.MGT_FALLBACK : Fld := ⟨0x0D8, 6, 1⟩
def SYS.BOOT_STAT.SAF_FALLBACK : Fld := ⟨0x0D8, 7, 1⟩
def SYS.BOOT_STAT.MGT_OK : Fld := ⟨0x0D8, 8, 1⟩
def SYS.BOOT_STAT.SAF_OK : Fld := ⟨0x0D8, 9, 1⟩
def SYS.BOOT_STAT.MGT_FAIL : Fld := ⟨0x0D8, 10, 4⟩
def SYS.BOOT_STAT.SAF_FAIL : Fld := ⟨0x0D8, 14, 4⟩
def SYS.BOOT_STAT.FIRST_BOOT : Fld := ⟨0x0D8, 18, 1⟩
def SYS.BOOT_STAT.BENCH_OFF : Fld := ⟨0x0D8, 19, 1⟩
def SYS.BOOT_STAT.STRAP_BAD : Fld := ⟨0x0D8, 20, 1⟩
def SYS.BENCH_CTL.TARGET : Fld := ⟨0x0DC, 0, 2⟩
def SYS.BENCH_CTL.START : Fld := ⟨0x0DC, 2, 1⟩
def SYS.BENCH_CTL.WORDS : Fld := ⟨0x0DC, 12, 20⟩
def SYS.BENCH_DATA.WORD : Fld := ⟨0x0E0, 0, 32⟩

/-! `TIME`: chapter 05 -/

def TIME.NOW_LO.NS : Fld := ⟨0x040, 0, 32⟩
def TIME.NOW_HI.NS : Fld := ⟨0x044, 0, 32⟩
def TIME.NOW_FRAC.FRAC : Fld := ⟨0x048, 0, 16⟩
def TIME.SYNC_STAT.STATE : Fld := ⟨0x04C, 0, 3⟩
def TIME.SYNC_STAT.PARENT : Fld := ⟨0x04C, 3, 1⟩
def TIME.SYNC_STAT.PARENT_VALID : Fld := ⟨0x04C, 4, 1⟩
def TIME.SYNC_STAT.HOPS : Fld := ⟨0x04C, 5, 5⟩
def TIME.SYNC_STAT.ROOT_ID : Fld := ⟨0x04C, 16, 9⟩
def TIME.OFFSET.PS : Fld := ⟨0x050, 0, 32⟩
def TIME.PATH_DELAY.PS : Fld := ⟨0x054, 0, 32⟩
def TIME.ROOT_CFG.ROOT_ID : Fld := ⟨0x058, 0, 9⟩
def TIME.ROOT_CFG.USE_REFIN : Fld := ⟨0x058, 16, 1⟩
def TIME.ASYM.LINK0 : Fld := ⟨0x05C, 0, 16⟩
def TIME.ASYM.LINK1 : Fld := ⟨0x05C, 16, 16⟩
def TIME.LOCK_CFG.THR_PS : Fld := ⟨0x060, 0, 10⟩
def TIME.LOCK_CFG.HOLDOVER_MS : Fld := ⟨0x060, 16, 12⟩
def TIME.SET_LO.NS : Fld := ⟨0x064, 0, 32⟩
def TIME.SET_HI.NS : Fld := ⟨0x068, 0, 32⟩
def TIME.PERIOD.NS : Fld := ⟨0x06C, 0, 26⟩
def TIME.PERIOD_FRAC.FRAC : Fld := ⟨0x070, 0, 16⟩
def TIME.MODE.TAKES : Fld := ⟨0x074, 0, 2⟩
def TIME.MODE.SCAN_MUL : Fld := ⟨0x074, 8, 5⟩
def TIME.APPLY_AT_LO.NS : Fld := ⟨0x078, 0, 32⟩
def TIME.APPLY_AT_HI.NS : Fld := ⟨0x07C, 0, 32⟩
def TIME.ORIGIN_LO.NS : Fld := ⟨0x080, 0, 32⟩
def TIME.ORIGIN_HI.NS : Fld := ⟨0x084, 0, 32⟩
def TIME.FRAME.NUMBER : Fld := ⟨0x088, 0, 16⟩
def TIME.BLANK.US : Fld := ⟨0x08C, 0, 12⟩
def TIME.CUE_ROW.ROW : Fld := ⟨0x090, 0, 10⟩
def TIME.STILL_AFTER.FRAMES : Fld := ⟨0x094, 0, 8⟩
def TIME.STILL_AFTER.FREEZE_FRAMES : Fld := ⟨0x094, 8, 8⟩
def TIME.CLAP_CFG.EN (j : Nat) : Fld := ⟨0x098, 8 * j, 1⟩
def TIME.CLAP_CFG.POL (j : Nat) : Fld := ⟨0x098, 1 + 8 * j, 1⟩
def TIME.CLAP_CFG.AVG (j : Nat) : Fld := ⟨0x098, 2 + 8 * j, 4⟩
def TIME.SLOT.START (i : Nat) : Fld := ⟨0x0A0 + 8 * i, 0, 8⟩
def TIME.SLOT.WEIGHT (i : Nat) : Fld := ⟨0x0A0 + 8 * i, 8, 9⟩
def TIME.SLOT.FOLLOW (i : Nat) : Fld := ⟨0x0A0 + 8 * i, 17, 1⟩
def TIME.SLOT.CLAP (i : Nat) : Fld := ⟨0x0A0 + 8 * i, 18, 2⟩
def TIME.SLOT_OFS.NS (i : Nat) : Fld := ⟨0x0A4 + 8 * i, 0, 32⟩
def TIME.SLOT_PHASE.PHASE (i : Nat) : Fld := ⟨0x0C0 + 4 * i, 0, 32⟩
def TIME.CLAP_PHASE.PHASE (i : Nat) : Fld := ⟨0x0D0 + 4 * i, 0, 32⟩
def TIME.CLAP_STAT.LOCK : Fld := ⟨0x0E0, 0, 4⟩
def TIME.CLAP_STAT.LOST : Fld := ⟨0x0E0, 4, 4⟩
def TIME.CLAP_STAT.CONFLICT : Fld := ⟨0x0E0, 8, 4⟩
def TIME.SLATE.FRAME (i : Nat) : Fld := ⟨0x0F0 + 4 * i, 0, 16⟩
def TIME.SLATE.TAKE (i : Nat) : Fld := ⟨0x0F0 + 4 * i, 16, 2⟩
def TIME.SLATE.LIVE (i : Nat) : Fld := ⟨0x0F0 + 4 * i, 18, 1⟩
def TIME.SLATE.ALIVE (i : Nat) : Fld := ⟨0x0F0 + 4 * i, 24, 8⟩
def TIME.STILL_STAT.STILL : Fld := ⟨0x100, 0, 1⟩
def TIME.STILL_STAT.UNCHANGED : Fld := ⟨0x100, 8, 8⟩
def TIME.STILL_STAT.ENTRIES : Fld := ⟨0x100, 16, 16⟩
def TIME.FREEZE_STAT.TILES : Fld := ⟨0x104, 0, 16⟩
def TIME.FREEZE_STAT.COUNT : Fld := ⟨0x104, 16, 16⟩
def TIME.RASTER_CNT.LATE : Fld := ⟨0x108, 0, 16⟩
def TIME.RASTER_CNT.UNDERRUN : Fld := ⟨0x108, 16, 16⟩
def TIME.MODE_STAT.STAGE : Fld := ⟨0x10C, 0, 2⟩
def TIME.MODE_STAT.LIT_GEN : Fld := ⟨0x10C, 16, 16⟩

/-! `FLT`: chapter 12 -/

def FLT.CAPT_STAT.VALID : Fld := ⟨0x040, 0, 1⟩
def FLT.CAPT_STAT.BROKEN : Fld := ⟨0x040, 1, 1⟩
def FLT.CAPT_STAT.CLASS : Fld := ⟨0x040, 2, 3⟩
def FLT.CAPT_STAT.TYPE : Fld := ⟨0x040, 5, 3⟩
def FLT.CAPT_STAT.SOURCE : Fld := ⟨0x040, 8, 8⟩
def FLT.CAPT_STAT.MASTER : Fld := ⟨0x040, 16, 6⟩
def FLT.CAPT_STAT.SPACE : Fld := ⟨0x040, 22, 2⟩
def FLT.CAPT_STAT.COUNT : Fld := ⟨0x040, 24, 8⟩
def FLT.CAPT_ADDR.ADDR : Fld := ⟨0x044, 0, 32⟩
def FLT.CAPT_TIME_LO.NS : Fld := ⟨0x048, 0, 32⟩
def FLT.CAPT_TIME_HI.NS : Fld := ⟨0x04C, 0, 32⟩
def FLT.CAPT_SYND.SYNDROME : Fld := ⟨0x050, 0, 19⟩
def FLT.CAPT_SYND.KIND : Fld := ⟨0x050, 19, 2⟩
def FLT.CAPT_SEQ.SEQ : Fld := ⟨0x054, 0, 16⟩
def FLT.CAPT_SEQ.MERGE_CNT : Fld := ⟨0x054, 16, 16⟩
def FLT.CAPT_ACK.SEQ : Fld := ⟨0x058, 0, 16⟩
def FLT.MERGE_SRC.SOURCES (i : Nat) : Fld := ⟨0x060 + 4 * i, 0, 32⟩
def FLT.BROKEN.SOURCES (i : Nat) : Fld := ⟨0x080 + 4 * i, 0, 32⟩
def FLT.CLASS_CNT.COUNT (i : Nat) : Fld := ⟨0x0A0 + 4 * i, 0, 32⟩
def FLT.REACT.IRQ (i : Nat) : Fld := ⟨0x0C0 + 4 * i, 0, 1⟩
def FLT.REACT.BLOCK_RESET (i : Nat) : Fld := ⟨0x0C0 + 4 * i, 1, 1⟩
def FLT.REACT.SAFE_DARK (i : Nat) : Fld := ⟨0x0C0 + 4 * i, 2, 1⟩
def FLT.MISC.NO_RESET : Fld := ⟨0x0E0, 0, 16⟩
def FLT.SRC_CNT.COUNT (i : Nat) : Fld := ⟨0x100 + 4 * i, 0, 32⟩

/-! `PWR`: chapter 14 -/

def PWR.REQ.DOMAIN : Fld := ⟨0x040, 0, 5⟩
def PWR.REQ.STATE : Fld := ⟨0x040, 5, 2⟩
def PWR.REQ_STAT.DOMAIN : Fld := ⟨0x044, 0, 5⟩
def PWR.REQ_STAT.OUTCOME : Fld := ⟨0x044, 5, 3⟩
def PWR.REQ_STAT.REASON : Fld := ⟨0x044, 8, 4⟩
def PWR.REQ_STAT.MASTER : Fld := ⟨0x044, 12, 6⟩
def PWR.REFUSE_CNT.COUNT : Fld := ⟨0x048, 0, 32⟩
def PWR.LAST_REFUSER.DOMAIN : Fld := ⟨0x04C, 0, 5⟩
def PWR.LAST_REFUSER.REASON : Fld := ⟨0x04C, 8, 4⟩
def PWR.LAST_REFUSER.WHO : Fld := ⟨0x04C, 16, 8⟩
def PWR.LP_CTL.LP_EN : Fld := ⟨0x050, 0, 1⟩
def PWR.LP_CTL.LP_NOW : Fld := ⟨0x050, 1, 1⟩
def PWR.BO_STAT.BO_CNT : Fld := ⟨0x054, 0, 16⟩
def PWR.BO_MASK.DOMAINS : Fld := ⟨0x058, 0, 19⟩
def PWR.BO_TIME_LO.NS : Fld := ⟨0x05C, 0, 32⟩
def PWR.BO_TIME_HI.NS : Fld := ⟨0x060, 0, 32⟩
def PWR.LINK_WAKE.EN : Fld := ⟨0x064, 0, 6⟩
def PWR.LINK_WAKE.SEEN : Fld := ⟨0x064, 8, 6⟩
def PWR.WAKE_AT_LO.NS : Fld := ⟨0x068, 0, 32⟩
def PWR.WAKE_AT_HI.NS : Fld := ⟨0x06C, 0, 32⟩
def PWR.WAKE_MASK.DOMAINS : Fld := ⟨0x070, 1, 18⟩
def PWR.WAKE_MASK.ARMED : Fld := ⟨0x070, 31, 1⟩
def PWR.DOM_STAT.STATE (i : Nat) : Fld := ⟨0x100 + 4 * i, 0, 2⟩
def PWR.DOM_STAT.BUSY (i : Nat) : Fld := ⟨0x100 + 4 * i, 2, 1⟩
def PWR.DOM_STAT.TARGET (i : Nat) : Fld := ⟨0x100 + 4 * i, 3, 2⟩
def PWR.DOM_STAT.QVALID (i : Nat) : Fld := ⟨0x100 + 4 * i, 5, 1⟩
def PWR.DOM_STAT.QSTATE (i : Nat) : Fld := ⟨0x100 + 4 * i, 6, 2⟩
def PWR.DOM_STAT.LOST (i : Nat) : Fld := ⟨0x100 + 4 * i, 8, 1⟩
def PWR.DOM_STAT.STEP (i : Nat) : Fld := ⟨0x100 + 4 * i, 9, 4⟩
def PWR.DOM_STAT.HELD (i : Nat) : Fld := ⟨0x100 + 4 * i, 13, 1⟩
def PWR.DOM_STAT.TRANSITIONS (i : Nat) : Fld := ⟨0x100 + 4 * i, 16, 16⟩

/-! `THM`: chapter 14 -/

def THM.DEMAND.SENSORS : Fld := ⟨0x040, 0, 12⟩
def THM.DEMAND.MR4 : Fld := ⟨0x040, 12, 1⟩
def THM.STAT.BUSY : Fld := ⟨0x044, 0, 1⟩
def THM.STAT.WARN : Fld := ⟨0x044, 1, 1⟩
def THM.STAT.DERATE : Fld := ⟨0x044, 2, 1⟩
def THM.STAT.TRIP : Fld := ⟨0x044, 3, 1⟩
def THM.STAT.BROKEN : Fld := ⟨0x044, 4, 1⟩
def THM.STAT.CONVERSIONS : Fld := ⟨0x044, 16, 16⟩
def THM.CFG.EN : Fld := ⟨0x048, 0, 12⟩
def THM.CFG.GUARD_MS : Fld := ⟨0x048, 16, 12⟩
def THM.DEMAND_CNT.REG : Fld := ⟨0x04C, 0, 8⟩
def THM.DEMAND_CNT.SCAL : Fld := ⟨0x04C, 8, 8⟩
def THM.DEMAND_CNT.PWR : Fld := ⟨0x04C, 16, 8⟩
def THM.DEMAND_CNT.GAF : Fld := ⟨0x04C, 24, 8⟩
def THM.TILE_LIM.WARN : Fld := ⟨0x050, 0, 8⟩
def THM.TILE_LIM.DERATE : Fld := ⟨0x050, 8, 8⟩
def THM.TILE_LIM.TRIP : Fld := ⟨0x050, 16, 8⟩
def THM.TILE_LIM.HYST : Fld := ⟨0x050, 24, 4⟩
def THM.TILE_STAT0.WARN : Fld := ⟨0x054, 0, 16⟩
def THM.TILE_STAT0.DERATE : Fld := ⟨0x054, 16, 16⟩
def THM.TILE_STAT1.TRIP : Fld := ⟨0x058, 0, 16⟩
def THM.TS_LIM.WARN (i : Nat) : Fld := ⟨0x060 + 8 * i, 0, 8⟩
def THM.TS_LIM.DERATE (i : Nat) : Fld := ⟨0x060 + 8 * i, 8, 8⟩
def THM.TS_LIM.TRIP (i : Nat) : Fld := ⟨0x060 + 8 * i, 16, 8⟩
def THM.TS_LIM.HYST (i : Nat) : Fld := ⟨0x060 + 8 * i, 24, 4⟩
def THM.TS_RISE.RISE (i : Nat) : Fld := ⟨0x064 + 8 * i, 0, 8⟩
def THM.TS.VALUE (i : Nat) : Fld := ⟨0x0C0 + 4 * i, 0, 16⟩
def THM.TS.VALID (i : Nat) : Fld := ⟨0x0C0 + 4 * i, 16, 1⟩
def THM.TS.BROKEN (i : Nat) : Fld := ⟨0x0C0 + 4 * i, 17, 1⟩
def THM.TS.KIND (i : Nat) : Fld := ⟨0x0C0 + 4 * i, 18, 2⟩
def THM.TS.WARN (i : Nat) : Fld := ⟨0x0C0 + 4 * i, 20, 1⟩
def THM.TS.DERATE (i : Nat) : Fld := ⟨0x0C0 + 4 * i, 21, 1⟩
def THM.TS.TRIP (i : Nat) : Fld := ⟨0x0C0 + 4 * i, 22, 1⟩
def THM.TS.RISE (i : Nat) : Fld := ⟨0x0C0 + 4 * i, 23, 1⟩
def THM.MR4.DIE0 : Fld := ⟨0x0F0, 0, 5⟩
def THM.MR4.DIE1 : Fld := ⟨0x0F0, 8, 5⟩
def THM.MR4.VALID : Fld := ⟨0x0F0, 16, 1⟩
def THM.MR4.FAIL : Fld := ⟨0x0F0, 17, 1⟩
def THM.BROKEN_CNT.COUNT : Fld := ⟨0x0F4, 0, 32⟩
def THM.RISE_CNT.COUNT : Fld := ⟨0x0F8, 0, 32⟩
def THM.TS_RATE.RATE (i : Nat) : Fld := ⟨0x100 + 4 * i, 0, 16⟩
def THM.LAST_CONV_LO.NS : Fld := ⟨0x130, 0, 32⟩
def THM.LAST_CONV_HI.NS : Fld := ⟨0x134, 0, 32⟩

/-! `SCAL`: chapter 15 -/

def SCAL.CTL.EN : Fld := ⟨0x040, 0, 1⟩
def SCAL.CTL.REFIN_SEL : Fld := ⟨0x040, 1, 2⟩
def SCAL.CTL.VREF_EN : Fld := ⟨0x040, 3, 1⟩
def SCAL.CTL.TEMP_DELTA : Fld := ⟨0x040, 8, 8⟩
def SCAL.CTL.CHECK_MS : Fld := ⟨0x040, 16, 12⟩
def SCAL.STAT.REFIN_VALID : Fld := ⟨0x044, 0, 1⟩
def SCAL.STAT.VREF_VALID : Fld := ⟨0x044, 1, 1⟩
def SCAL.STAT.TIME_UNTRACED : Fld := ⟨0x044, 2, 1⟩
def SCAL.STAT.VOLT_UNTRACED : Fld := ⟨0x044, 3, 1⟩
def SCAL.STAT.BUSY : Fld := ⟨0x044, 4, 1⟩
def SCAL.STAT.UNIT : Fld := ⟨0x044, 5, 5⟩
def SCAL.STAT.FIRST_PASS : Fld := ⟨0x044, 10, 1⟩
def SCAL.PENDING.UNITS : Fld := ⟨0x048, 0, 21⟩
def SCAL.FAILED.UNITS : Fld := ⟨0x04C, 0, 21⟩
def SCAL.SPARE.IG : Fld := ⟨0x050, 0, 8⟩
def SCAL.SPARE.MADC : Fld := ⟨0x050, 8, 1⟩
def SCAL.REFIN_PPM.OFFSET : Fld := ⟨0x054, 0, 32⟩
def SCAL.MADC_CAL.OFFSET : Fld := ⟨0x058, 0, 16⟩
def SCAL.MADC_CAL.GAIN : Fld := ⟨0x058, 16, 16⟩
def SCAL.RUN_CNT.RUNS : Fld := ⟨0x05C, 0, 16⟩
def SCAL.RUN_CNT.FAILS : Fld := ⟨0x05C, 16, 16⟩
def SCAL.UNIT_STAT.TEMP (i : Nat) : Fld := ⟨0x080 + 4 * i, 0, 16⟩
def SCAL.UNIT_STAT.UNTRACED (i : Nat) : Fld := ⟨0x080 + 4 * i, 16, 1⟩
def SCAL.UNIT_STAT.FAILED (i : Nat) : Fld := ⟨0x080 + 4 * i, 17, 1⟩
def SCAL.UNIT_STAT.RUNS (i : Nat) : Fld := ⟨0x080 + 4 * i, 20, 12⟩
def SCAL.MADC_RES.VALUE (i : Nat) : Fld := ⟨0x100 + 4 * i, 0, 16⟩
def SCAL.MADC_RES.VALID (i : Nat) : Fld := ⟨0x100 + 4 * i, 16, 1⟩

/-! `SAF`: chapter 13 -/

def SAF.CTL.GROUP_EN : Fld := ⟨0x040, 0, 4⟩
def SAF.CTL.PAIR_EN : Fld := ⟨0x040, 4, 1⟩
def SAF.CTL.RX0_EN : Fld := ⟨0x040, 5, 1⟩
def SAF.CTL.RX1_EN : Fld := ⟨0x040, 6, 1⟩
def SAF.CTL.TX_EN : Fld := ⟨0x040, 7, 1⟩
def SAF.IN_CFG.EN (j : Nat) : Fld := ⟨0x044, 8 * j, 1⟩
def SAF.IN_CFG.MAP (j : Nat) : Fld := ⟨0x044, 1 + 8 * j, 4⟩
def SAF.IN_TIMING.FILTER_US : Fld := ⟨0x048, 0, 12⟩
def SAF.IN_TIMING.DISC_MS : Fld := ⟨0x048, 16, 10⟩
def SAF.OUT_TIMING.TP_PERIOD_MS : Fld := ⟨0x04C, 0, 12⟩
def SAF.OUT_TIMING.TP_US : Fld := ⟨0x04C, 16, 10⟩
def SAF.FB_TIMING.FB_OPEN_MS : Fld := ⟨0x050, 0, 10⟩
def SAF.FB_TIMING.FB_CLOSE_MS : Fld := ⟨0x050, 16, 10⟩
def SAF.GROUP_STAT.STATE (j : Nat) : Fld := ⟨0x054, 3 * j, 3⟩
def SAF.GROUP_STAT.PERMIT : Fld := ⟨0x054, 12, 4⟩
def SAF.GROUP_STAT.HANDOVER : Fld := ⟨0x054, 16, 1⟩
def SAF.TRIP_INFO.CAUSE : Fld := ⟨0x058, 0, 5⟩
def SAF.TRIP_INFO.GROUPS : Fld := ⟨0x058, 8, 4⟩
def SAF.LOCK_CAUSE.CAUSE (j : Nat) : Fld := ⟨0x05C, 8 * j, 5⟩
def SAF.IN_STAT.PIN_A : Fld := ⟨0x060, 0, 4⟩
def SAF.IN_STAT.PIN_B : Fld := ⟨0x060, 4, 4⟩
def SAF.IN_STAT.DEMAND : Fld := ⟨0x060, 8, 4⟩
def SAF.IN_STAT.DISC : Fld := ⟨0x060, 12, 4⟩
def SAF.IN_STAT.RESET_PIN : Fld := ⟨0x060, 16, 1⟩
def SAF.IN_STAT.XIN : Fld := ⟨0x060, 17, 1⟩
def SAF.OUT_STAT.SW_A (j : Nat) : Fld := ⟨0x064, 4 * j, 1⟩
def SAF.OUT_STAT.SW_B (j : Nat) : Fld := ⟨0x064, 1 + 4 * j, 1⟩
def SAF.OUT_STAT.MID (j : Nat) : Fld := ⟨0x064, 2 + 4 * j, 1⟩
def SAF.OUT_STAT.OUT (j : Nat) : Fld := ⟨0x064, 3 + 4 * j, 1⟩
def SAF.OUT_STAT.FB : Fld := ⟨0x064, 16, 4⟩
def SAF.RX_ID.CONN_ID (i : Nat) : Fld := ⟨0x070 + 16 * i, 0, 32⟩
def SAF.RX_SEED.SEED (i : Nat) : Fld := ⟨0x074 + 16 * i, 0, 32⟩
def SAF.RX_CFG.WD_MS (i : Nat) : Fld := ⟨0x078 + 16 * i, 0, 10⟩
def SAF.RX_CFG.MAP (i : Nat) : Fld := ⟨0x078 + 16 * i, 12, 4⟩
def SAF.RX_CFG.WIN_MAX_US (i : Nat) : Fld := ⟨0x078 + 16 * i, 16, 16⟩
def SAF.RX_STAT.LAST_SEQ (i : Nat) : Fld := ⟨0x07C + 16 * i, 0, 16⟩
def SAF.RX_STAT.DEMAND (i : Nat) : Fld := ⟨0x07C + 16 * i, 16, 4⟩
def SAF.RX_STAT.FRESH (i : Nat) : Fld := ⟨0x07C + 16 * i, 20, 1⟩
def SAF.RX_STAT.ALIVE (i : Nat) : Fld := ⟨0x07C + 16 * i, 21, 1⟩
def SAF.TX_ID.CONN_ID : Fld := ⟨0x090, 0, 32⟩
def SAF.TX_SEED.SEED : Fld := ⟨0x094, 0, 32⟩
def SAF.TX_CFG.PERIOD_MS : Fld := ⟨0x098, 0, 10⟩
def SAF.TX_CFG.WINDOW_US : Fld := ⟨0x098, 16, 16⟩
def SAF.TX_STAT.SEQ : Fld := ⟨0x09C, 0, 16⟩
def SAF.MSG_STAT.SYMBOL : Fld := ⟨0x0A0, 0, 6⟩
def SAF.MSG_STAT.SCALE : Fld := ⟨0x0A0, 6, 2⟩
def SAF.MSG_STAT.TAKES : Fld := ⟨0x0A0, 8, 4⟩
def SAF.MSG_STAT.PRESET : Fld := ⟨0x0A0, 12, 4⟩
def SAF.MSG_STAT.SIG_OK : Fld := ⟨0x0A0, 16, 1⟩
def SAF.RX_CNT.ACCEPTED : Fld := ⟨0x0A4, 0, 16⟩
def SAF.RX_CNT.DUP : Fld := ⟨0x0A4, 16, 16⟩
def SAF.RX_REJ.CRC : Fld := ⟨0x0A8, 0, 16⟩
def SAF.RX_REJ.SEQ : Fld := ⟨0x0A8, 16, 16⟩
def SAF.RX_REJ2.TIME : Fld := ⟨0x0AC, 0, 16⟩
def SAF.RX_REJ2.MAC_FORMAT : Fld := ⟨0x0AC, 16, 16⟩
def SAF.TRIP_CNT.TRIPS : Fld := ⟨0x0B0, 0, 16⟩
def SAF.TRIP_CNT.LOCKOUTS : Fld := ⟨0x0B0, 16, 16⟩
def SAF.RESET_CNT.QUALIFIED : Fld := ⟨0x0B4, 0, 16⟩
def SAF.RESET_CNT.REJECTED : Fld := ⟨0x0B4, 16, 16⟩
def SAF.PRESET_POS.X (i : Nat) : Fld := ⟨0x100 + 16 * i, 0, 16⟩
def SAF.PRESET_POS.Y (i : Nat) : Fld := ⟨0x100 + 16 * i, 16, 16⟩
def SAF.PRESET_RG.R (i : Nat) : Fld := ⟨0x104 + 16 * i, 0, 16⟩
def SAF.PRESET_RG.G (i : Nat) : Fld := ⟨0x104 + 16 * i, 16, 16⟩
def SAF.PRESET_B.B (i : Nat) : Fld := ⟨0x108 + 16 * i, 0, 16⟩

/-! `GRD`: chapter 13 -/

def GRD.CTL.GROUP_EN : Fld := ⟨0x040, 0, 4⟩
def GRD.CTL.PAIR_EN : Fld := ⟨0x040, 4, 1⟩
def GRD.IN_MAP.MAP (j : Nat) : Fld := ⟨0x044, 4 * j, 4⟩
def GRD.IN_MAP.EN : Fld := ⟨0x044, 16, 4⟩
def GRD.TIMING.FILTER_US : Fld := ⟨0x048, 0, 12⟩
def GRD.TIMING.DISC_MS : Fld := ⟨0x048, 16, 10⟩
def GRD.CONN.WD0_MS : Fld := ⟨0x04C, 0, 10⟩
def GRD.CONN.WD1_MS : Fld := ⟨0x04C, 10, 10⟩
def GRD.CONN.MAP0 : Fld := ⟨0x04C, 20, 4⟩
def GRD.CONN.MAP1 : Fld := ⟨0x04C, 24, 4⟩
def GRD.CONN.EN0 : Fld := ⟨0x04C, 28, 1⟩
def GRD.CONN.EN1 : Fld := ⟨0x04C, 29, 1⟩
def GRD.STAT.PERMIT : Fld := ⟨0x050, 0, 4⟩
def GRD.STAT.BLANK : Fld := ⟨0x050, 4, 4⟩
def GRD.STAT.HANDOVER : Fld := ⟨0x050, 8, 1⟩
def GRD.STAT.SAF_OK : Fld := ⟨0x050, 9, 1⟩
def GRD.STAT.XIN : Fld := ⟨0x050, 10, 1⟩
def GRD.STAT.XOUT : Fld := ⟨0x050, 11, 1⟩
def GRD.STAT.LAST_CAUSE : Fld := ⟨0x050, 16, 5⟩
def GRD.ALIVE.COUNT : Fld := ⟨0x054, 0, 8⟩
def GRD.TRIP_ZONE.ZONE : Fld := ⟨0x058, 0, 6⟩
def GRD.TRIP_ZONE.TAKE : Fld := ⟨0x058, 6, 2⟩
def GRD.TRIP_ZONE.FRAME : Fld := ⟨0x058, 8, 16⟩
def GRD.TRIP_ZONE.PIXEL : Fld := ⟨0x058, 24, 1⟩
def GRD.TRIP_ZONE.VALID : Fld := ⟨0x058, 25, 1⟩
def GRD.TRIP_SUM_LO.SUM : Fld := ⟨0x05C, 0, 32⟩
def GRD.TRIP_SUM_HI.SUM : Fld := ⟨0x060, 0, 16⟩
def GRD.ZT_CRC.CRC : Fld := ⟨0x064, 0, 32⟩
def GRD.CNT.TRIPS : Fld := ⟨0x068, 0, 16⟩
def GRD.CNT.TAP_LATE : Fld := ⟨0x068, 16, 16⟩

/-! `FW`: chapter 17 -/

def FW.STAT.MGT_BANK : Fld := ⟨0x040, 0, 1⟩
def FW.STAT.SAF_BANK : Fld := ⟨0x040, 1, 1⟩
def FW.STAT.MGT_BOOT : Fld := ⟨0x040, 2, 1⟩
def FW.STAT.SAF_BOOT : Fld := ⟨0x040, 3, 1⟩
def FW.STAT.MGT_TRIAL : Fld := ⟨0x040, 4, 1⟩
def FW.STAT.SAF_TRIAL : Fld := ⟨0x040, 5, 1⟩
def FW.STAT.HOLD_WAIT : Fld := ⟨0x040, 6, 1⟩
def FW.STAT.REVERTED : Fld := ⟨0x040, 7, 1⟩
def FW.STAT.STATE : Fld := ⟨0x040, 8, 3⟩
def FW.STAT.TARGET : Fld := ⟨0x040, 11, 2⟩
def FW.UPD_EXPECT.OFFSET : Fld := ⟨0x044, 0, 32⟩
def FW.UPD_CNT.DUPS : Fld := ⟨0x048, 0, 16⟩
def FW.UPD_CNT.REJECTS : Fld := ⟨0x048, 16, 16⟩
def FW.UPD_INFO.SESSION : Fld := ⟨0x04C, 0, 16⟩
def FW.UPD_INFO.LAST_REJECT : Fld := ⟨0x04C, 16, 4⟩
def FW.UPD_INFO.LAST_FAIL : Fld := ⟨0x04C, 20, 4⟩
def FW.VER_MGT.VERSION : Fld := ⟨0x050, 0, 32⟩
def FW.VER_SAF.VERSION : Fld := ⟨0x054, 0, 32⟩
def FW.VER_NEW.VERSION : Fld := ⟨0x058, 0, 32⟩
def FW.HOLDUP_C.C_UF : Fld := ⟨0x05C, 0, 20⟩
def FW.HOLDUP_V.DIV : Fld := ⟨0x060, 0, 16⟩
def FW.HOLDUP_V.VMIN_MV : Fld := ⟨0x060, 16, 16⟩
def FW.HOLDUP_NEED.PROG_MJ : Fld := ⟨0x064, 0, 16⟩
def FW.HOLDUP_NEED.ERASE_MJ : Fld := ⟨0x064, 16, 16⟩
def FW.HOLDUP_E.E_MJ : Fld := ⟨0x068, 0, 32⟩
def FW.HOLD_CNT.WAITS : Fld := ⟨0x06C, 0, 16⟩
def FW.HOLD_CNT.TIMEOUTS : Fld := ⟨0x06C, 16, 16⟩
def FW.HOLD_TIMEOUT.S : Fld := ⟨0x070, 0, 12⟩
def FW.ALIVE.COUNT : Fld := ⟨0x074, 0, 8⟩
def FW.BG_CFG.WEAR_MIN : Fld := ⟨0x078, 0, 8⟩
def FW.BG_CFG.DIAG_MIN : Fld := ⟨0x078, 8, 8⟩
def FW.BG_CFG.WEAR_EN : Fld := ⟨0x078, 16, 1⟩
def FW.BG_CFG.DIAG_EN : Fld := ⟨0x078, 17, 1⟩
def FW.CKPT_STAT.NEXT_SLICE : Fld := ⟨0x07C, 0, 7⟩
def FW.CKPT_STAT.COUNT : Fld := ⟨0x07C, 16, 16⟩
def FW.FLASH_WEAR.MAX_ERASE : Fld := ⟨0x080, 0, 24⟩
def FW.FLASH_ERR.PROG : Fld := ⟨0x084, 0, 16⟩
def FW.FLASH_ERR.ERASE : Fld := ⟨0x084, 16, 16⟩
def FW.OTP_SVN.MGT : Fld := ⟨0x088, 0, 16⟩
def FW.OTP_SVN.SAF : Fld := ⟨0x088, 16, 16⟩
def FW.OTP_KEYS.REVOKED : Fld := ⟨0x08C, 0, 4⟩
def FW.PACK_FACTORY.BYTES : Fld := ⟨0x090, 0, 25⟩
def FW.PACK_USER.BYTES : Fld := ⟨0x094, 0, 25⟩

/-! `PAIR`: chapter 16 -/

def PAIR.CFG.ROLE : Fld := ⟨0x040, 0, 2⟩
def PAIR.CFG.AUTO_RESYNC : Fld := ⟨0x040, 2, 1⟩
def PAIR.CFG.PARTNER_ID : Fld := ⟨0x040, 16, 9⟩
def PAIR.IDENT.DEVICE_ID : Fld := ⟨0x044, 0, 9⟩
def PAIR.TIMING.MISS_SLOTS : Fld := ⟨0x048, 0, 4⟩
def PAIR.TIMING.SILENCE_US : Fld := ⟨0x048, 4, 12⟩
def PAIR.TIMING.OFS_LIMIT_PS : Fld := ⟨0x048, 16, 12⟩
def PAIR.RESYNC.MBPS : Fld := ⟨0x04C, 0, 11⟩
def PAIR.MRANGE.BASE (i : Nat) : Fld := ⟨0x050 + 8 * i, 0, 27⟩
def PAIR.MRANGE.EN (i : Nat) : Fld := ⟨0x050 + 8 * i, 31, 1⟩
def PAIR.MSIZE.BLOCKS (i : Nat) : Fld := ⟨0x054 + 8 * i, 0, 27⟩
def PAIR.STAT.STATE : Fld := ⟨0x080, 0, 3⟩
def PAIR.STAT.READY : Fld := ⟨0x080, 3, 1⟩
def PAIR.STAT.INHIBIT : Fld := ⟨0x080, 4, 1⟩
def PAIR.STAT.NR_REASON : Fld := ⟨0x080, 8, 4⟩
def PAIR.STAT.PARTNER_STATE : Fld := ⟨0x080, 12, 3⟩
def PAIR.MGEN_TX.MGEN : Fld := ⟨0x084, 0, 32⟩
def PAIR.MGEN_RX.MGEN : Fld := ⟨0x088, 0, 32⟩
def PAIR.OFFSET_PS.PS : Fld := ⟨0x08C, 0, 32⟩
def PAIR.CNT.TAKEOVERS : Fld := ⟨0x090, 0, 16⟩
def PAIR.CNT.RESYNCS : Fld := ⟨0x090, 16, 16⟩
def PAIR.CNT2.HB_MISS : Fld := ⟨0x094, 0, 16⟩
def PAIR.CNT2.VERIFY_ERR : Fld := ⟨0x094, 16, 16⟩
def PAIR.RESYNC_STAT.BLOCKS : Fld := ⟨0x098, 0, 24⟩
def PAIR.RESYNC_STAT.BUSY : Fld := ⟨0x098, 31, 1⟩
def PAIR.LAST_TAKE.CAUSE : Fld := ⟨0x09C, 0, 2⟩
def PAIR.LAST_TAKE.SLOT : Fld := ⟨0x09C, 2, 2⟩
def PAIR.LAST_TAKE.FRAME : Fld := ⟨0x09C, 16, 16⟩

/-! `ARB`: chapter 11 -/

def ARB.CTL.PREEMPT_EN : Fld := ⟨0x040, 0, 1⟩
def ARB.PORT_STAT.STALLED : Fld := ⟨0x044, 0, 1⟩
def ARB.PORT_STAT.CAUSE : Fld := ⟨0x044, 1, 2⟩
def ARB.PORT_STAT.LAST_STARVE : Fld := ⟨0x044, 4, 4⟩
def ARB.VOID_CNT.COUNT : Fld := ⟨0x048, 0, 32⟩
def ARB.STALL_CNT.COUNT : Fld := ⟨0x04C, 0, 32⟩
def ARB.CFG.PRIO (i : Nat) : Fld := ⟨0x100 + 16 * i, 0, 3⟩
def ARB.CFG.WM (i : Nat) : Fld := ⟨0x100 + 16 * i, 16, 11⟩
def ARB.STAT.REQ (i : Nat) : Fld := ⟨0x104 + 16 * i, 0, 1⟩
def ARB.STAT.URGENT (i : Nat) : Fld := ⟨0x104 + 16 * i, 1, 1⟩
def ARB.STAT.SLACK (i : Nat) : Fld := ⟨0x104 + 16 * i, 16, 11⟩
def ARB.GRANTS.COUNT (i : Nat) : Fld := ⟨0x108 + 16 * i, 0, 32⟩
def ARB.WAIT.PREEMPTED (i : Nat) : Fld := ⟨0x10C + 16 * i, 0, 16⟩
def ARB.WAIT.WAIT_MAX_NS (i : Nat) : Fld := ⟨0x10C + 16 * i, 16, 16⟩

/-! `MEM`: chapter 11 -/

def MEM.CTL.SCRUB_EN : Fld := ⟨0x040, 0, 1⟩
def MEM.STAT.STATE : Fld := ⟨0x044, 0, 3⟩
def MEM.STAT.SET : Fld := ⟨0x044, 3, 1⟩
def MEM.STAT.TRAINED_A : Fld := ⟨0x044, 4, 1⟩
def MEM.STAT.TRAINED_B : Fld := ⟨0x044, 5, 1⟩
def MEM.STAT.WRITTEN : Fld := ⟨0x044, 6, 1⟩
def MEM.STAT.DERATE : Fld := ⟨0x044, 7, 2⟩
def MEM.STAT.TRAIN_FAIL_CH : Fld := ⟨0x044, 9, 4⟩
def MEM.STAT.TRAIN_FAIL_STEP : Fld := ⟨0x044, 13, 3⟩
def MEM.BANKMAP.MASK (i : Nat) : Fld := ⟨0x048 + 4 * i, 0, 15⟩
def MEM.CHANMAP.M0 : Fld := ⟨0x058, 0, 15⟩
def MEM.CHANMAP.M1 : Fld := ⟨0x058, 16, 15⟩
def MEM.REFRESH.INTERVAL_NS : Fld := ⟨0x05C, 0, 13⟩
def MEM.REFRESH_T.RFC_NS : Fld := ⟨0x060, 0, 10⟩
def MEM.REFRESH_T.RPAB_NS : Fld := ⟨0x060, 16, 8⟩
def MEM.SCRUB_CFG.PERIOD_H : Fld := ⟨0x064, 0, 8⟩
def MEM.SCRUB_CFG.SRAM_PERIOD_S : Fld := ⟨0x064, 16, 12⟩
def MEM.SCRUB_STAT.POS : Fld := ⟨0x068, 0, 21⟩
def MEM.SCRUB_STAT.REPAIR : Fld := ⟨0x068, 21, 7⟩
def MEM.SCRUB_CNT.PASSES : Fld := ⟨0x06C, 0, 16⟩
def MEM.SCRUB_CNT.CANCELLED : Fld := ⟨0x06C, 16, 16⟩
def MEM.CORR_CNT.COUNT : Fld := ⟨0x070, 0, 32⟩
def MEM.UNCORR_CNT.COUNT : Fld := ⟨0x074, 0, 32⟩
def MEM.MISC_CNT.RANGE : Fld := ⟨0x078, 0, 16⟩
def MEM.MISC_CNT.OFFLINE : Fld := ⟨0x078, 16, 16⟩
def MEM.TS_RATE.RATE (i : Nat) : Fld := ⟨0x080 + 16 * i, 0, 2⟩
def MEM.TS_CORE.RCD_NS (i : Nat) : Fld := ⟨0x084 + 16 * i, 0, 8⟩
def MEM.TS_CORE.RP_NS (i : Nat) : Fld := ⟨0x084 + 16 * i, 8, 8⟩
def MEM.TS_CORE.RAS_NS (i : Nat) : Fld := ⟨0x084 + 16 * i, 16, 8⟩
def MEM.TS_CORE.RL_NS (i : Nat) : Fld := ⟨0x084 + 16 * i, 24, 8⟩
def MEM.TS_MISC.WL_NS (i : Nat) : Fld := ⟨0x088 + 16 * i, 0, 8⟩
def MEM.TS_MISC.RRD_NS (i : Nat) : Fld := ⟨0x088 + 16 * i, 8, 8⟩
def MEM.TS_MISC.FAW_NS (i : Nat) : Fld := ⟨0x088 + 16 * i, 16, 8⟩
def MEM.TS_MISC.WR_NS (i : Nat) : Fld := ⟨0x088 + 16 * i, 24, 8⟩
def MEM.TS_CALC.TAHEAD (i : Nat) : Fld := ⟨0x08C + 16 * i, 0, 16⟩
def MEM.TS_CALC.TACC (i : Nat) : Fld := ⟨0x08C + 16 * i, 16, 16⟩

/-! `CMP`: chapter 06 -/

def CMP.COMMIT_STAT.DEFERS : Fld := ⟨0x040, 0, 16⟩
def CMP.COMMIT_STAT.ABANDONS : Fld := ⟨0x040, 16, 16⟩
def CMP.DEFER_LIMIT.LIMIT : Fld := ⟨0x044, 0, 4⟩
def CMP.ORDER_CTL.PROG : Fld := ⟨0x048, 0, 4⟩
def CMP.ORDER.POS (i : Nat) (j : Nat) : Fld := ⟨0x04C + 4 * i, 4 * j, 4⟩
def CMP.MON_CFG.DEST : Fld := ⟨0x060, 0, 2⟩
def CMP.MON_CFG.TAKE : Fld := ⟨0x060, 2, 2⟩
def CMP.MON_CFG.WIN : Fld := ⟨0x060, 4, 4⟩
def CMP.MON_CFG.ONESHOT : Fld := ⟨0x060, 8, 1⟩
def CMP.CAP_BASE.BASE : Fld := ⟨0x064, 0, 27⟩
def CMP.CAP_CFG.TAG : Fld := ⟨0x068, 0, 8⟩
def CMP.CAP_STAT.FRAME : Fld := ⟨0x06C, 0, 16⟩
def CMP.CAP_STAT.BUSY : Fld := ⟨0x06C, 16, 1⟩
def CMP.UNDERRUN_CNT.ROWS (i : Nat) : Fld := ⟨0x070 + 4 * i, 0, 32⟩
def CMP.EARLY_ADDR.BLOCK : Fld := ⟨0x080, 0, 27⟩
def CMP.EARLY_INFO.LAYER : Fld := ⟨0x084, 0, 4⟩
def CMP.EARLY_INFO.EXPECTED : Fld := ⟨0x084, 4, 8⟩
def CMP.EARLY_INFO.FOUND : Fld := ⟨0x084, 12, 8⟩
def CMP.EARLY_INFO.VALID : Fld := ⟨0x084, 31, 1⟩
def CMP.EARLY_CNT.COUNT : Fld := ⟨0x088, 0, 32⟩
def CMP.POISON_CNT.COUNT : Fld := ⟨0x08C, 0, 32⟩
def CMP.LEAF_ERR_CNT.COUNT : Fld := ⟨0x090, 0, 32⟩
def CMP.MON_DROP.LINK : Fld := ⟨0x094, 0, 16⟩
def CMP.MON_DROP.CAP : Fld := ⟨0x094, 16, 16⟩
def CMP.READ_RATE.MBPS : Fld := ⟨0x098, 0, 16⟩
def CMP.WIN_BUSY.BUSY : Fld := ⟨0x09C, 0, 16⟩

/-! `LYR`: chapter 06 -/

def LYR.CTL.TAKE_EN : Fld := ⟨0x040, 0, 4⟩
def LYR.CTL.SRC_MODE : Fld := ⟨0x040, 4, 1⟩
def LYR.CTL.FORMAT : Fld := ⟨0x040, 8, 4⟩
def LYR.CTL.ENC : Fld := ⟨0x040, 12, 2⟩
def LYR.CTL.PRIM : Fld := ⟨0x040, 14, 1⟩
def LYR.CTL.PREMUL : Fld := ⟨0x040, 15, 1⟩
def LYR.CTL.BLEND : Fld := ⟨0x040, 16, 2⟩
def LYR.CTL.SCALER : Fld := ⟨0x040, 18, 2⟩
def LYR.CTL.FILTER : Fld := ⟨0x040, 20, 2⟩
def LYR.CTL.READY_SRC : Fld := ⟨0x040, 22, 2⟩
def LYR.CTL.GALPHA : Fld := ⟨0x040, 24, 8⟩
def LYR.SURF_BASE.BASE : Fld := ⟨0x044, 0, 27⟩
def LYR.SURF_GEOM.WIDTH : Fld := ⟨0x048, 0, 15⟩
def LYR.SURF_GEOM.HEIGHT : Fld := ⟨0x048, 16, 15⟩
def LYR.SURF_STRIDE.BLOCKS : Fld := ⟨0x04C, 0, 16⟩
def LYR.SURF_STRIDE.TAG : Fld := ⟨0x04C, 24, 8⟩
def LYR.META_BASE.BASE : Fld := ⟨0x050, 0, 27⟩
def LYR.META_STRIDE.BLOCKS : Fld := ⟨0x054, 0, 16⟩
def LYR.SRC_POS.X : Fld := ⟨0x058, 0, 15⟩
def LYR.SRC_POS.Y : Fld := ⟨0x058, 16, 15⟩
def LYR.SRC_SIZE.W : Fld := ⟨0x05C, 0, 15⟩
def LYR.SRC_SIZE.H : Fld := ⟨0x05C, 16, 15⟩
def LYR.DST_POS.X : Fld := ⟨0x060, 0, 16⟩
def LYR.DST_POS.Y : Fld := ⟨0x060, 16, 16⟩
def LYR.DST_SIZE.W : Fld := ⟨0x064, 0, 15⟩
def LYR.DST_SIZE.H : Fld := ⟨0x064, 16, 15⟩
def LYR.WIN_MASK.MASK : Fld := ⟨0x068, 0, 16⟩
def LYR.WIN_MASK.READY_WIN : Fld := ⟨0x068, 16, 4⟩
def LYR.FILL_RG.R : Fld := ⟨0x06C, 0, 16⟩
def LYR.FILL_RG.G : Fld := ⟨0x06C, 16, 16⟩
def LYR.FILL_B.B : Fld := ⟨0x070, 0, 16⟩
def LYR.READY.FLAG : Fld := ⟨0x074, 0, 1⟩
def LYR.RETIRE.SEQ : Fld := ⟨0x078, 0, 16⟩
def LYR.RETIRE_BASE.BASE : Fld := ⟨0x07C, 0, 27⟩
def LYR.SEL.WIN (j : Nat) : Fld := ⟨0x080, 8 * j, 4⟩
def LYR.SEL.VALID (j : Nat) : Fld := ⟨0x080, 4 + 8 * j, 1⟩
def LYR.PAL_RG.R (i : Nat) : Fld := ⟨0x800 + 8 * i, 0, 16⟩
def LYR.PAL_RG.G (i : Nat) : Fld := ⟨0x800 + 8 * i, 16, 16⟩
def LYR.PAL_BA.B (i : Nat) : Fld := ⟨0x804 + 8 * i, 0, 16⟩
def LYR.PAL_BA.A (i : Nat) : Fld := ⟨0x804 + 8 * i, 16, 16⟩

/-! `OVL`: chapter 06 -/

def OVL.CTL.TAKE_EN : Fld := ⟨0x040, 0, 4⟩
def OVL.CTL.SYMBOL : Fld := ⟨0x040, 8, 6⟩
def OVL.CTL.SCALE : Fld := ⟨0x040, 16, 2⟩
def OVL.POS.X : Fld := ⟨0x044, 0, 16⟩
def OVL.POS.Y : Fld := ⟨0x044, 16, 16⟩
def OVL.COLOUR_RG.R : Fld := ⟨0x048, 0, 16⟩
def OVL.COLOUR_RG.G : Fld := ⟨0x048, 16, 16⟩
def OVL.COLOUR_B.B : Fld := ⟨0x04C, 0, 16⟩
def OVL.HB_POS.X : Fld := ⟨0x050, 0, 10⟩
def OVL.HB_POS.Y : Fld := ⟨0x050, 16, 10⟩
def OVL.HB_COL0.R : Fld := ⟨0x054, 0, 10⟩
def OVL.HB_COL0.G : Fld := ⟨0x054, 10, 10⟩
def OVL.HB_COL0.B : Fld := ⟨0x054, 20, 10⟩
def OVL.HB_COL1.R : Fld := ⟨0x058, 0, 10⟩
def OVL.HB_COL1.G : Fld := ⟨0x058, 10, 10⟩
def OVL.HB_COL1.B : Fld := ⟨0x058, 20, 10⟩
def OVL.SIG.CRC : Fld := ⟨0x05C, 0, 32⟩
def OVL.SIG_FRAME.FRAME : Fld := ⟨0x060, 0, 16⟩
def OVL.SIG_FRAME.HB_PHASE : Fld := ⟨0x060, 16, 1⟩
def OVL.SIG_FRAME.DRAWN : Fld := ⟨0x060, 17, 1⟩
def OVL.LIB_ADDR.WORD : Fld := ⟨0x064, 0, 16⟩
def OVL.LIB_DATA.DATA : Fld := ⟨0x068, 0, 32⟩
def OVL.LIB_SEAL.CRC : Fld := ⟨0x06C, 0, 32⟩
def OVL.LIB_STAT.SEALED : Fld := ⟨0x070, 0, 1⟩
def OVL.LIB_STAT.SEAL_FAIL : Fld := ⟨0x070, 1, 1⟩
def OVL.LIB_STAT.SYMBOLS : Fld := ⟨0x070, 8, 7⟩

/-! `MATTE`: chapter 08 -/

def MATTE.CTL.ACTIVE : Fld := ⟨0x040, 0, 1⟩
def MATTE.STAT.VERIFIED0 : Fld := ⟨0x044, 0, 1⟩
def MATTE.STAT.VERIFIED1 : Fld := ⟨0x044, 1, 1⟩
def MATTE.STAT.VERIFY_BUSY : Fld := ⟨0x044, 2, 1⟩
def MATTE.STAT.MATTE_OK : Fld := ⟨0x044, 3, 1⟩
def MATTE.STAT.FAIL_TILE : Fld := ⟨0x044, 8, 4⟩
def MATTE.BASE.BASE : Fld := ⟨0x048, 0, 27⟩
def MATTE.TAG.TAG : Fld := ⟨0x04C, 0, 8⟩
def MATTE.GAIN.A (i : Nat) : Fld := ⟨0x050 + 4 * i, 0, 16⟩
def MATTE.GAIN.B (i : Nat) : Fld := ⟨0x050 + 4 * i, 16, 16⟩
def MATTE.PROXY_W0.R : Fld := ⟨0x060, 0, 16⟩
def MATTE.PROXY_W0.G : Fld := ⟨0x060, 16, 16⟩
def MATTE.PROXY_W1.B : Fld := ⟨0x064, 0, 16⟩
def MATTE.BORROW.GAIN : Fld := ⟨0x068, 0, 16⟩
def MATTE.BORROW.TAKES : Fld := ⟨0x068, 16, 4⟩
def MATTE.ZONE_SEAL.CRC : Fld := ⟨0x06C, 0, 32⟩
def MATTE.SEAL.CRC (i : Nat) : Fld := ⟨0x080 + 4 * i, 0, 32⟩
def MATTE.ZCAP.CAP (i : Nat) : Fld := ⟨0x100 + 8 * i, 0, 20⟩
def MATTE.ZCAP.EN (i : Nat) : Fld := ⟨0x100 + 8 * i, 31, 1⟩
def MATTE.ZCOUNT.COUNT (i : Nat) : Fld := ⟨0x104 + 8 * i, 0, 22⟩
def MATTE.READ_SIG.CRC (i : Nat) : Fld := ⟨0x300 + 4 * i, 0, 32⟩
def MATTE.READ_STAT.FRAME : Fld := ⟨0x340, 0, 16⟩
def MATTE.READ_STAT.VALID : Fld := ⟨0x340, 16, 16⟩
def MATTE.CAP_ACT.COUNT : Fld := ⟨0x344, 0, 32⟩
def MATTE.READ_ERR.COUNT : Fld := ⟨0x348, 0, 32⟩
def MATTE.BORROW_CNT.PIXEL_BANKS : Fld := ⟨0x34C, 0, 23⟩

/-! `CAD`: chapter 07 -/

def CAD.CTL.SOURCE : Fld := ⟨0x040, 0, 1⟩
def CAD.CTL.WEAR_POLICY : Fld := ⟨0x040, 1, 2⟩
def CAD.CTL.BORROW : Fld := ⟨0x040, 3, 1⟩
def CAD.CTL.DOSE_EN : Fld := ⟨0x040, 4, 1⟩
def CAD.STAT.FACTORY_SEALED : Fld := ⟨0x044, 0, 1⟩
def CAD.STAT.FACTORY_OK : Fld := ⟨0x044, 1, 1⟩
def CAD.STAT.REBUILD_BUSY : Fld := ⟨0x044, 2, 1⟩
def CAD.STAT.COPY_BUSY : Fld := ⟨0x044, 3, 1⟩
def CAD.STAT.LIVE_USER : Fld := ⟨0x044, 4, 1⟩
def CAD.STAT.EFF_GEN : Fld := ⟨0x044, 16, 16⟩
def CAD.REGION.BASE : Fld := ⟨0x048, 0, 27⟩
def CAD.REGION_TAG.TAG : Fld := ⟨0x04C, 0, 8⟩
def CAD.STAGE.BASE : Fld := ⟨0x050, 0, 27⟩
def CAD.STAGE_CFG.TAG : Fld := ⟨0x054, 0, 8⟩
def CAD.T_REF.T_LO : Fld := ⟨0x058, 0, 16⟩
def CAD.T_REF.T_HI : Fld := ⟨0x058, 16, 16⟩
def CAD.REBUILD.DELTA : Fld := ⟨0x05C, 0, 8⟩
def CAD.REBUILD.MIN_MS : Fld := ⟨0x05C, 16, 12⟩
def CAD.GAMUT.GA (i : Nat) : Fld := ⟨0x060 + 4 * i, 0, 16⟩
def CAD.GAMUT.GB (i : Nat) : Fld := ⟨0x060 + 4 * i, 16, 16⟩
def CAD.TGT_R.X : Fld := ⟨0x074, 0, 16⟩
def CAD.TGT_R.Y : Fld := ⟨0x074, 16, 16⟩
def CAD.TGT_G.X : Fld := ⟨0x078, 0, 16⟩
def CAD.TGT_G.Y : Fld := ⟨0x078, 16, 16⟩
def CAD.TGT_B.X : Fld := ⟨0x07C, 0, 16⟩
def CAD.TGT_B.Y : Fld := ⟨0x07C, 16, 16⟩
def CAD.TGT_W.X : Fld := ⟨0x080, 0, 16⟩
def CAD.TGT_W.Y : Fld := ⟨0x080, 16, 16⟩
def CAD.TGT_Y.UCD : Fld := ⟨0x084, 0, 32⟩
def CAD.WHITE_MAX.LIMIT : Fld := ⟨0x088, 0, 16⟩
def CAD.WEAR_CFG.DOSE_PERIOD_S : Fld := ⟨0x08C, 0, 8⟩
def CAD.WEAR_CFG.WEAR_PERIOD_S : Fld := ⟨0x08C, 8, 16⟩
def CAD.CAP_RG.R : Fld := ⟨0x090, 0, 16⟩
def CAD.CAP_RG.G : Fld := ⟨0x090, 16, 16⟩
def CAD.CAP_B.B : Fld := ⟨0x094, 0, 16⟩
def CAD.CEIL_LIM.MIN : Fld := ⟨0x098, 0, 16⟩
def CAD.CEIL_LIM.MAX : Fld := ⟨0x098, 16, 16⟩
def CAD.TEMP_STALE.TILES : Fld := ⟨0x09C, 0, 16⟩
def CAD.CEILING.CA (i : Nat) : Fld := ⟨0x0A0 + 4 * i, 0, 16⟩
def CAD.CEILING.CB (i : Nat) : Fld := ⟨0x0A0 + 4 * i, 16, 16⟩
def CAD.DOSE_TEMP.KA (i : Nat) : Fld := ⟨0x0C0 + 4 * i, 0, 16⟩
def CAD.DOSE_TEMP.KB (i : Nat) : Fld := ⟨0x0C0 + 4 * i, 16, 16⟩
def CAD.LIMITED.EMITTERS : Fld := ⟨0x0E0, 0, 23⟩
def CAD.COEF_SAT.COUNT : Fld := ⟨0x0E4, 0, 32⟩
def CAD.RECORD_LOST.COUNT : Fld := ⟨0x0E8, 0, 32⟩
def CAD.FAIL_INFO.PIXEL : Fld := ⟨0x0EC, 0, 20⟩
def CAD.FAIL_INFO.BANK : Fld := ⟨0x0EC, 20, 1⟩
def CAD.WEAR_LUT.NODE0 (i : Nat) : Fld := ⟨0x600 + 4 * i, 0, 16⟩
def CAD.WEAR_LUT.NODE1 (i : Nat) : Fld := ⟨0x600 + 4 * i, 16, 16⟩

/-! `GAF`: chapter 09 -/

def GAF.CTL.LOOP_EN : Fld := ⟨0x040, 0, 1⟩
def GAF.CTL.PEC_EN : Fld := ⟨0x040, 1, 4⟩
def GAF.CTL.FAST : Fld := ⟨0x040, 5, 4⟩
def GAF.CTL.PHASE_EN : Fld := ⟨0x040, 9, 1⟩
def GAF.TIMING.STEP_MS : Fld := ⟨0x044, 0, 12⟩
def GAF.TIMING.POLL_MS : Fld := ⟨0x044, 16, 12⟩
def GAF.HEADROOM.MARGIN_MV : Fld := ⟨0x048, 0, 12⟩
def GAF.HEADROOM.DEADBAND_MV : Fld := ⟨0x048, 12, 12⟩
def GAF.SLEW.UP_MV : Fld := ⟨0x04C, 0, 12⟩
def GAF.SLEW.DN_MV : Fld := ⟨0x04C, 12, 12⟩
def GAF.LOW.LOW_MV : Fld := ⟨0x050, 0, 12⟩
def GAF.PHASE.STEP : Fld := ⟨0x054, 0, 8⟩
def GAF.PHASE.ROW_STAGGER : Fld := ⟨0x054, 8, 1⟩
def GAF.PMB_STAT.BUSY : Fld := ⟨0x058, 0, 4⟩
def GAF.PMB_STAT.ALERT : Fld := ⟨0x058, 4, 4⟩
def GAF.PMB_STAT.FAULT : Fld := ⟨0x058, 8, 4⟩
def GAF.PMB_ERR.NACK : Fld := ⟨0x05C, 0, 16⟩
def GAF.PMB_ERR.PEC : Fld := ⟨0x05C, 16, 16⟩
def GAF.HR_LOW_CNT.COUNT : Fld := ⟨0x060, 0, 32⟩
def GAF.RAIL_CFG.ADDR (i : Nat) : Fld := ⟨0x100 + 16 * i, 0, 7⟩
def GAF.RAIL_CFG.EN (i : Nat) : Fld := ⟨0x100 + 16 * i, 7, 1⟩
def GAF.RAIL_CFG.EXP (i : Nat) : Fld := ⟨0x100 + 16 * i, 8, 5⟩
def GAF.RAIL_CFG.START_MV (i : Nat) : Fld := ⟨0x100 + 16 * i, 16, 16⟩
def GAF.RAIL_LIM.VMIN_MV (i : Nat) : Fld := ⟨0x104 + 16 * i, 0, 16⟩
def GAF.RAIL_LIM.VMAX_MV (i : Nat) : Fld := ⟨0x104 + 16 * i, 16, 16⟩
def GAF.RAIL_NOW.VOUT_MV (i : Nat) : Fld := ⟨0x108 + 16 * i, 0, 16⟩
def GAF.RAIL_NOW.IOUT (i : Nat) : Fld := ⟨0x108 + 16 * i, 16, 16⟩
def GAF.RAIL_STAT.STATUS_WORD (i : Nat) : Fld := ⟨0x10C + 16 * i, 0, 16⟩
def GAF.RAIL_STAT.FAULT (i : Nat) : Fld := ⟨0x10C + 16 * i, 29, 1⟩
def GAF.RAIL_STAT.LIMIT (i : Nat) : Fld := ⟨0x10C + 16 * i, 30, 1⟩
def GAF.RAIL_STAT.HR_VALID (i : Nat) : Fld := ⟨0x10C + 16 * i, 31, 1⟩
def GAF.RAIL_TARGET.TARGET_MV (i : Nat) : Fld := ⟨0x300 + 4 * i, 0, 16⟩

/-! `DIAG`: chapter 10 -/

def DIAG.CTL.EN : Fld := ⟨0x040, 0, 1⟩
def DIAG.CTL.PROBE_EN : Fld := ⟨0x040, 1, 1⟩
def DIAG.CTL.DRIFT_EN : Fld := ⟨0x040, 2, 1⟩
def DIAG.STAT.MAP_OK : Fld := ⟨0x044, 0, 1⟩
def DIAG.STAT.CMD_RUN : Fld := ⟨0x044, 1, 1⟩
def DIAG.STAT.PROBE_BLOCKED : Fld := ⟨0x044, 2, 1⟩
def DIAG.STAT.SWEEPS : Fld := ⟨0x044, 16, 16⟩
def DIAG.MAP_BASE.BASE : Fld := ⟨0x048, 0, 27⟩
def DIAG.MAP_TAG.TAG : Fld := ⟨0x04C, 0, 8⟩
def DIAG.TIMING.SWEEP_S : Fld := ⟨0x050, 0, 4⟩
def DIAG.TIMING.PROBE_PERIOD_S : Fld := ⟨0x050, 8, 8⟩
def DIAG.TIMING.STALE_S : Fld := ⟨0x050, 16, 8⟩
def DIAG.PROBE_CFG.TAKE : Fld := ⟨0x054, 0, 2⟩
def DIAG.REPORT.QUEUE : Fld := ⟨0x058, 0, 4⟩
def DIAG.VF_TC.R : Fld := ⟨0x05C, 0, 10⟩
def DIAG.VF_TC.G : Fld := ⟨0x05C, 10, 10⟩
def DIAG.VF_TC.B : Fld := ⟨0x05C, 20, 10⟩
def DIAG.VF_OFS_R.OFS1 : Fld := ⟨0x060, 0, 10⟩
def DIAG.VF_OFS_R.OFS2 : Fld := ⟨0x060, 10, 10⟩
def DIAG.VF_OFS_R.OFS3 : Fld := ⟨0x060, 20, 10⟩
def DIAG.VF_OFS_G.OFS1 : Fld := ⟨0x064, 0, 10⟩
def DIAG.VF_OFS_G.OFS2 : Fld := ⟨0x064, 10, 10⟩
def DIAG.VF_OFS_G.OFS3 : Fld := ⟨0x064, 20, 10⟩
def DIAG.VF_OFS_B.OFS1 : Fld := ⟨0x068, 0, 10⟩
def DIAG.VF_OFS_B.OFS2 : Fld := ⟨0x068, 10, 10⟩
def DIAG.VF_OFS_B.OFS3 : Fld := ⟨0x068, 20, 10⟩
def DIAG.DRIFT.R : Fld := ⟨0x06C, 0, 10⟩
def DIAG.DRIFT.G : Fld := ⟨0x06C, 10, 10⟩
def DIAG.DRIFT.B : Fld := ⟨0x06C, 20, 10⟩
def DIAG.CNT_OK.COUNT : Fld := ⟨0x070, 0, 23⟩
def DIAG.CNT_OPEN.COUNT : Fld := ⟨0x074, 0, 23⟩
def DIAG.CNT_SHORT.COUNT : Fld := ⟨0x078, 0, 23⟩
def DIAG.CNT_DEGRADED.COUNT : Fld := ⟨0x07C, 0, 23⟩
def DIAG.CNT_UNVERIFIED.COUNT : Fld := ⟨0x080, 0, 23⟩
def DIAG.PROBES.COUNT : Fld := ⟨0x084, 0, 32⟩
def DIAG.MISS.PROBE_MISS : Fld := ⟨0x088, 0, 16⟩
def DIAG.MISS.RESP_MISS : Fld := ⟨0x088, 16, 16⟩
def DIAG.DROPS.REPORT_DROP : Fld := ⟨0x08C, 0, 16⟩
def DIAG.DROPS.LIST_OVF : Fld := ⟨0x08C, 16, 16⟩
def DIAG.MAP_ERR_CNT.COUNT : Fld := ⟨0x090, 0, 32⟩
def DIAG.LIST_STAT.COUNT : Fld := ⟨0x094, 0, 13⟩
def DIAG.LIST_STAT.FULL : Fld := ⟨0x094, 16, 1⟩
def DIAG.LIST_IDX.INDEX : Fld := ⟨0x098, 0, 12⟩
def DIAG.LIST_ENTRY.EMITTER : Fld := ⟨0x09C, 0, 23⟩
def DIAG.LIST_ENTRY.SHORT : Fld := ⟨0x09C, 23, 1⟩
def DIAG.LIST_ENTRY.VALID : Fld := ⟨0x09C, 31, 1⟩

/-! `DLY`: chapter 17 -/

def DLY.CTL.EN : Fld := ⟨0x040, 0, 1⟩
def DLY.CTL.PERIOD_S : Fld := ⟨0x040, 8, 8⟩
def DLY.CTL.QUEUE : Fld := ⟨0x040, 16, 4⟩
def DLY.CTL.QUEUE_EN : Fld := ⟨0x040, 20, 1⟩
def DLY.SEQ.SEQ : Fld := ⟨0x044, 0, 32⟩
def DLY.RING.HEAD : Fld := ⟨0x048, 0, 16⟩
def DLY.RING.WRAPS : Fld := ⟨0x048, 16, 16⟩
def DLY.READ_IDX.SLOT : Fld := ⟨0x04C, 0, 16⟩
def DLY.CNT.WRITTEN : Fld := ⟨0x050, 0, 16⟩
def DLY.CNT.SKIPPED : Fld := ⟨0x050, 16, 16⟩
def DLY.READ_DATA.WORD (i : Nat) : Fld := ⟨0x080 + 4 * i, 0, 32⟩

/-! `PE`: chapter 07 -/

def PE.CTL.DITHER : Fld := ⟨0x040, 0, 1⟩
def PE.STAT.EFF_VALID : Fld := ⟨0x044, 0, 1⟩
def PE.STAT.EFF_BUF : Fld := ⟨0x044, 1, 1⟩
def PE.STAT.EFF_GEN : Fld := ⟨0x044, 16, 16⟩
def PE.TILE_PHI.PHI (i : Nat) : Fld := ⟨0x048 + 4 * i, 0, 12⟩
def PE.TILE_PHI.TEMP (i : Nat) : Fld := ⟨0x048 + 4 * i, 16, 16⟩
def PE.GAMUT_CLIP.COUNT : Fld := ⟨0x058, 0, 32⟩
def PE.DRIVE_SAT.COUNT : Fld := ⟨0x05C, 0, 32⟩
def PE.READ_ERR.COUNT : Fld := ⟨0x060, 0, 32⟩
def PE.TILE_SIG.CRC (i : Nat) : Fld := ⟨0x064 + 4 * i, 0, 32⟩
def PE.SIG_FRAME.FRAME : Fld := ⟨0x074, 0, 16⟩
def PE.PROBE_SEL.X : Fld := ⟨0x078, 0, 10⟩
def PE.PROBE_SEL.Y : Fld := ⟨0x078, 10, 10⟩
def PE.PROBE_SEL.BANK : Fld := ⟨0x078, 20, 1⟩
def PE.PROBE_SEL.TAKE : Fld := ⟨0x078, 21, 2⟩
def PE.PROBE_T.VALUE (i : Nat) : Fld := ⟨0x07C + 4 * i, 0, 24⟩
def PE.PROBE_D.VALUE (i : Nat) : Fld := ⟨0x088 + 4 * i, 0, 20⟩
def PE.PROBE_Q.ON_TIME (i : Nat) : Fld := ⟨0x094 + 4 * i, 0, 16⟩
def PE.PROBE_Q.RANGE (i : Nat) : Fld := ⟨0x094 + 4 * i, 16, 2⟩
def PE.PROBE_Q.RESID (i : Nat) : Fld := ⟨0x094 + 4 * i, 18, 4⟩
def PE.PROBE_STAT.FRAME : Fld := ⟨0x0A0, 0, 16⟩
def PE.PROBE_STAT.VALID : Fld := ⟨0x0A0, 16, 1⟩

/-! `CHK`: chapter 12 -/

def CHK.CTL.CHECK_EN : Fld := ⟨0x040, 0, 1⟩
def CHK.SEED.SEED : Fld := ⟨0x044, 0, 32⟩
def CHK.DATA_B.BYTE : Fld := ⟨0x048, 0, 8⟩
def CHK.DATA_H.HALF : Fld := ⟨0x04C, 0, 16⟩
def CHK.DATA_W.WORD : Fld := ⟨0x050, 0, 32⟩
def CHK.ALIVE.COUNT : Fld := ⟨0x054, 0, 8⟩
def CHK.EXPECT.CRC : Fld := ⟨0x058, 0, 32⟩
def CHK.RESULT.CRC : Fld := ⟨0x05C, 0, 32⟩
def CHK.RAW.CRC : Fld := ⟨0x060, 0, 32⟩
def CHK.STAT.BUSY : Fld := ⟨0x064, 0, 1⟩
def CHK.STAT.MATCH : Fld := ⟨0x064, 1, 1⟩
def CHK.STAT.ALIVE_USED : Fld := ⟨0x064, 8, 8⟩
def CHK.STAT.BYTES : Fld := ⟨0x064, 16, 16⟩
def CHK.SEALS.SEALS : Fld := ⟨0x068, 0, 16⟩
def CHK.SEALS.MISMATCH : Fld := ⟨0x068, 16, 16⟩

/-! `REEL`: chapter 12 -/

def REEL.CFG.BASE : Fld := ⟨0x040, 0, 16⟩
def REEL.CFG.SIZE : Fld := ⟨0x040, 16, 16⟩
def REEL.BIND.PRODUCER : Fld := ⟨0x044, 0, 6⟩
def REEL.BIND.CONSUMER : Fld := ⟨0x044, 8, 6⟩
def REEL.BIND.PROD_HW : Fld := ⟨0x044, 16, 1⟩
def REEL.BIND.CONS_HW : Fld := ⟨0x044, 17, 1⟩
def REEL.FILL.USED : Fld := ⟨0x048, 0, 16⟩
def REEL.FILL.PACKETS : Fld := ⟨0x048, 16, 16⟩
def REEL.WR_DATA.WORD : Fld := ⟨0x04C, 0, 32⟩
def REEL.WR_CTL.END : Fld := ⟨0x050, 0, 1⟩
def REEL.WR_CTL.ABORT : Fld := ⟨0x050, 1, 1⟩
def REEL.WR_STAT.SPACE : Fld := ⟨0x054, 0, 16⟩
def REEL.WR_STAT.OPEN_LEN : Fld := ⟨0x054, 16, 16⟩
def REEL.RD_HEAD.LEN : Fld := ⟨0x058, 0, 11⟩
def REEL.RD_HEAD.POISON : Fld := ⟨0x058, 16, 1⟩
def REEL.RD_DATA.WORD : Fld := ⟨0x05C, 0, 32⟩
def REEL.RD_CTL.MARK : Fld := ⟨0x060, 0, 1⟩
def REEL.RD_CTL.REWIND : Fld := ⟨0x060, 1, 1⟩
def REEL.RD_CTL.RELEASE : Fld := ⟨0x060, 2, 1⟩
def REEL.RD_STAT.POS : Fld := ⟨0x064, 0, 11⟩
def REEL.RD_STAT.MARKED : Fld := ⟨0x064, 11, 1⟩
def REEL.RD_STAT.POISON : Fld := ⟨0x064, 12, 1⟩
def REEL.CNT.PACKETS_IN : Fld := ⟨0x068, 0, 16⟩
def REEL.CNT.ABORTS : Fld := ⟨0x068, 16, 16⟩
def REEL.CNT2.RESETS : Fld := ⟨0x06C, 0, 16⟩
def REEL.CNT2.TOO_LONG : Fld := ⟨0x06C, 16, 16⟩

/-! `LINK`: chapter 04 -/

def LINK.LINK_STAT.STATE : Fld := ⟨0x040, 0, 3⟩
def LINK.LINK_STAT.RATE : Fld := ⟨0x040, 3, 2⟩
def LINK.LINK_STAT.SNF : Fld := ⟨0x040, 5, 1⟩
def LINK.LINK_STAT.ACTIVE : Fld := ⟨0x040, 6, 1⟩
def LINK.LINK_STAT.AUTH_RESULT : Fld := ⟨0x040, 8, 3⟩
def LINK.LINK_STAT.PARTNER_ID : Fld := ⟨0x040, 16, 9⟩
def LINK.LINK_STAT.SKEW : Fld := ⟨0x040, 25, 7⟩
def LINK.POLICY.VIDEO_UNAUTH : Fld := ⟨0x044, 0, 1⟩
def LINK.POLICY.CTL_NOKEY : Fld := ⟨0x044, 1, 1⟩
def LINK.POLICY.SNF_REQ : Fld := ⟨0x044, 2, 1⟩
def LINK.POLICY.FWD_EN : Fld := ⟨0x044, 3, 1⟩
def LINK.POLICY.FWD_SRC : Fld := ⟨0x044, 4, 2⟩
def LINK.POLICY.TIME_CHECK : Fld := ⟨0x044, 6, 1⟩
def LINK.FILTER.LO : Fld := ⟨0x048, 0, 9⟩
def LINK.FILTER.HI : Fld := ⟨0x048, 16, 9⟩
def LINK.CTL_WINDOW.MS : Fld := ⟨0x04C, 0, 12⟩
def LINK.CELLS_RX_LO.COUNT : Fld := ⟨0x050, 0, 32⟩
def LINK.CELLS_RX_HI.COUNT : Fld := ⟨0x054, 0, 32⟩
def LINK.CELL_CORR.COUNT : Fld := ⟨0x058, 0, 32⟩
def LINK.CELL_UNCORR.COUNT : Fld := ⟨0x05C, 0, 32⟩
def LINK.VID_DROP.COUNT : Fld := ⟨0x060, 0, 32⟩
def LINK.VID_REJECT.WINDOW : Fld := ⟨0x064, 0, 16⟩
def LINK.VID_REJECT.HANDLE : Fld := ⟨0x064, 16, 16⟩
def LINK.CTL_DROP.MAC : Fld := ⟨0x068, 0, 16⟩
def LINK.CTL_DROP.MALFORMED : Fld := ⟨0x068, 16, 16⟩
def LINK.CTL_STAT.STALE : Fld := ⟨0x06C, 0, 16⟩
def LINK.CTL_STAT.REPLAY : Fld := ⟨0x06C, 16, 16⟩
def LINK.FWD.UNROUTED : Fld := ⟨0x070, 0, 16⟩
def LINK.FWD.UP_OVF : Fld := ⟨0x070, 16, 16⟩
def LINK.INGEST_OVF.COUNT : Fld := ⟨0x074, 0, 32⟩
def LINK.AUTH_CNT.OK : Fld := ⟨0x078, 0, 16⟩
def LINK.AUTH_CNT.FAIL : Fld := ⟨0x078, 16, 16⟩
def LINK.MISC.WRONG_TYPE : Fld := ⟨0x07C, 0, 16⟩
def LINK.UPSEL.PREF : Fld := ⟨0x0A4, 0, 1⟩
def LINK.UPSEL.REVERT : Fld := ⟨0x0A4, 1, 1⟩
def LINK.UPSEL.LOSS_FRAMES : Fld := ⟨0x0A4, 4, 4⟩
def LINK.UPSEL.HOLDOFF_MS : Fld := ⟨0x0A4, 16, 12⟩
def LINK.UPSEL_STAT.ACTIVE : Fld := ⟨0x0A8, 0, 1⟩
def LINK.UPSEL_STAT.NONE : Fld := ⟨0x0A8, 1, 1⟩
def LINK.UPSEL_STAT.LAST_CAUSE : Fld := ⟨0x0A8, 8, 3⟩
def LINK.UPSEL_STAT.SWITCHES : Fld := ⟨0x0A8, 16, 16⟩
def LINK.KEY_STAT.PRESENT : Fld := ⟨0x0AC, 0, 1⟩
def LINK.KEY_STAT.KCV : Fld := ⟨0x0AC, 8, 24⟩
def LINK.AUTH_KEY.KEY (i : Nat) : Fld := ⟨0x0B0 + 4 * i, 0, 32⟩
def LINK.WIN_BASE.BASE (i : Nat) : Fld := ⟨0x100 + 8 * i, 0, 27⟩
def LINK.WIN_BASE.TAKE (i : Nat) : Fld := ⟨0x100 + 8 * i, 27, 2⟩
def LINK.WIN_BASE.EN (i : Nat) : Fld := ⟨0x100 + 8 * i, 31, 1⟩
def LINK.WIN_CFG.SIZE (i : Nat) : Fld := ⟨0x104 + 8 * i, 0, 24⟩
def LINK.WIN_CFG.TAG (i : Nat) : Fld := ⟨0x104 + 8 * i, 24, 8⟩
def LINK.WIN_STAT.FRAME (i : Nat) : Fld := ⟨0x180 + 4 * i, 0, 16⟩
def LINK.WIN_STAT.COMPLETIONS (i : Nat) : Fld := ⟨0x180 + 4 * i, 16, 16⟩

/-! `LANE`: chapter 03 -/

def LANE.LANE_CFG.ENABLE : Fld := ⟨0x040, 0, 1⟩
def LANE.LANE_CFG.RATE_CAP : Fld := ⟨0x040, 1, 2⟩
def LANE.LANE_CFG.PRECODE_RX : Fld := ⟨0x040, 3, 1⟩
def LANE.LANE_CFG.FIR_MODE : Fld := ⟨0x040, 4, 1⟩
def LANE.TX_FIR_SET.CM2 : Fld := ⟨0x044, 0, 7⟩
def LANE.TX_FIR_SET.CM1 : Fld := ⟨0x044, 8, 7⟩
def LANE.TX_FIR_SET.C0 : Fld := ⟨0x044, 16, 7⟩
def LANE.TX_FIR_SET.CP1 : Fld := ⟨0x044, 24, 7⟩
def LANE.TX_FIR.CM2 : Fld := ⟨0x048, 0, 7⟩
def LANE.TX_FIR.CM1 : Fld := ⟨0x048, 8, 7⟩
def LANE.TX_FIR.C0 : Fld := ⟨0x048, 16, 7⟩
def LANE.TX_FIR.CP1 : Fld := ⟨0x048, 24, 7⟩
def LANE.RX_EQ.CTLE : Fld := ⟨0x04C, 0, 4⟩
def LANE.RX_EQ.FM1 : Fld := ⟨0x04C, 4, 8⟩
def LANE.RX_EQ.F0 : Fld := ⟨0x04C, 12, 8⟩
def LANE.RX_EQ.FP1 : Fld := ⟨0x04C, 20, 8⟩
def LANE.DFE.TAP (i : Nat) (j : Nat) : Fld := ⟨0x050 + 4 * i, 8 * j, 8⟩
def LANE.ADAPT_CTL.FREEZE : Fld := ⟨0x05C, 0, 1⟩
def LANE.FOM.NOW : Fld := ⟨0x060, 0, 10⟩
def LANE.FOM.MIN : Fld := ⟨0x060, 16, 10⟩
def LANE.FOM_THR.CONFIRM : Fld := ⟨0x064, 0, 10⟩
def LANE.FOM_THR.LOW : Fld := ⟨0x064, 10, 10⟩
def LANE.FOM_THR.FAIL : Fld := ⟨0x064, 20, 10⟩
def LANE.TRAIN_STAT.STATE : Fld := ⟨0x068, 0, 3⟩
def LANE.TRAIN_STAT.RATE : Fld := ⟨0x068, 3, 2⟩
def LANE.TRAIN_STAT.CEILING : Fld := ⟨0x068, 5, 2⟩
def LANE.TRAIN_STAT.POL_INV : Fld := ⟨0x068, 7, 1⟩
def LANE.TRAIN_STAT.FAIL_STATE : Fld := ⟨0x068, 8, 3⟩
def LANE.TRAIN_STAT.FAIL_REASON : Fld := ⟨0x068, 11, 5⟩
def LANE.TRAIN_STAT.ATTEMPTS : Fld := ⟨0x068, 16, 8⟩
def LANE.DWELL.MS : Fld := ⟨0x06C, 0, 10⟩
def LANE.PARTNER.DEVICE_ID : Fld := ⟨0x070, 0, 9⟩
def LANE.PARTNER.LINK : Fld := ⟨0x070, 9, 3⟩
def LANE.PARTNER.POSITION : Fld := ⟨0x070, 12, 2⟩
def LANE.PARTNER.MAX_RATE : Fld := ⟨0x070, 14, 2⟩
def LANE.PARTNER.PRECODE_REQ : Fld := ⟨0x070, 16, 1⟩
def LANE.PARTNER.SNF_CAP : Fld := ⟨0x070, 17, 1⟩
def LANE.PRBS_CTL.GEN_EN : Fld := ⟨0x074, 0, 1⟩
def LANE.PRBS_CTL.CHK_EN : Fld := ⟨0x074, 1, 1⟩
def LANE.PRBS_CTL.GEN_POLY : Fld := ⟨0x074, 2, 2⟩
def LANE.PRBS_CTL.CHK_POLY : Fld := ⟨0x074, 4, 2⟩
def LANE.PRBS_CTL.LOOPBACK : Fld := ⟨0x074, 6, 2⟩
def LANE.PRBS_CTL.RATE : Fld := ⟨0x074, 8, 2⟩
def LANE.PRBS_CTL.PRECODE : Fld := ⟨0x074, 10, 1⟩
def LANE.PRBS_STAT.LOCK : Fld := ⟨0x078, 0, 1⟩
def LANE.PRBS_STAT.LOCK_LOSS : Fld := ⟨0x078, 16, 16⟩
def LANE.PRBS_ERR.COUNT : Fld := ⟨0x07C, 0, 32⟩
def LANE.PRBS_BITS_LO.COUNT : Fld := ⟨0x080, 0, 32⟩
def LANE.PRBS_BITS_HI.COUNT : Fld := ⟨0x084, 0, 32⟩
def LANE.TRAIN_CNT.FAILS : Fld := ⟨0x088, 0, 16⟩
def LANE.TRAIN_CNT.RUNS : Fld := ⟨0x088, 16, 16⟩
def LANE.SENT_STAT.SYNC : Fld := ⟨0x090, 0, 1⟩
def LANE.SENT_STAT.SYNC_LOSS : Fld := ⟨0x090, 16, 16⟩
def LANE.SENT_ERR.COUNT : Fld := ⟨0x094, 0, 32⟩
def LANE.SENT_BITS_LO.COUNT : Fld := ⟨0x098, 0, 32⟩
def LANE.SENT_BITS_HI.COUNT : Fld := ⟨0x09C, 0, 32⟩

/-! `DUD`: chapter 09 -/

def DUD.CTL.ROLE : Fld := ⟨0x040, 0, 2⟩
def DUD.CTL.SPLIT_EN : Fld := ⟨0x040, 2, 1⟩
def DUD.CTL.AUTO_READMIT : Fld := ⟨0x040, 3, 1⟩
def DUD.CTL.RETRY_EN : Fld := ⟨0x040, 4, 1⟩
def DUD.CTL.RUN : Fld := ⟨0x040, 8, 4⟩
def DUD.CTL.MISS_FRAMES : Fld := ⟨0x040, 12, 4⟩
def DUD.WATCH.US : Fld := ⟨0x044, 0, 20⟩
def DUD.STAT.STATE : Fld := ⟨0x048, 0, 3⟩
def DUD.STAT.SPLIT : Fld := ⟨0x048, 3, 1⟩
def DUD.STAT.SINKS : Fld := ⟨0x048, 8, 8⟩
def DUD.STAT.LIVE_CNT : Fld := ⟨0x048, 16, 8⟩
def DUD.STAT.FAULT_AT : Fld := ⟨0x048, 24, 8⟩
def DUD.OWN.EPOCH : Fld := ⟨0x04C, 0, 16⟩
def DUD.OWN.OWNS : Fld := ⟨0x04C, 16, 1⟩
def DUD.RING.RTT_NS : Fld := ⟨0x050, 0, 16⟩
def DUD.RING.D_US : Fld := ⟨0x050, 16, 16⟩
def DUD.CAPS.MIN_ROW : Fld := ⟨0x054, 0, 16⟩
def DUD.CAPS.MAX_TAKES : Fld := ⟨0x054, 16, 3⟩
def DUD.CAPS.MAX_SCAN_MUL : Fld := ⟨0x054, 19, 5⟩
def DUD.SPLIT.LO : Fld := ⟨0x058, 0, 8⟩
def DUD.SPLIT.HI : Fld := ⟨0x058, 8, 8⟩
def DUD.CNT_RETRY.COUNT : Fld := ⟨0x05C, 0, 32⟩
def DUD.CNT_CRC.PORT : Fld := ⟨0x060, 0, 16⟩
def DUD.CNT_CRC.SINKS : Fld := ⟨0x060, 16, 16⟩
def DUD.CNT_MISC.MARK_MISS : Fld := ⟨0x064, 0, 16⟩
def DUD.CNT_MISC.STALE_REJ : Fld := ⟨0x064, 16, 16⟩
def DUD.HB.FORCE : Fld := ⟨0x068, 0, 1⟩
def DUD.HB.STATIC : Fld := ⟨0x068, 1, 1⟩
def DUD.HB.GRD : Fld := ⟨0x068, 2, 1⟩
def DUD.HB.OE : Fld := ⟨0x068, 3, 1⟩
def DUD.LIVE.SINKS (i : Nat) : Fld := ⟨0x070 + 4 * i, 0, 32⟩
def DUD.LOST.SINKS (i : Nat) : Fld := ⟨0x080 + 4 * i, 0, 32⟩
def DUD.RESULT.SINKS (i : Nat) : Fld := ⟨0x090 + 4 * i, 0, 32⟩
def DUD.SC_MASK.SINKS (i : Nat) : Fld := ⟨0x0A0 + 4 * i, 0, 32⟩
def DUD.SC_REG.REG (i : Nat) : Fld := ⟨0x0B0 + 8 * i, 0, 16⟩
def DUD.SC_DATA.DATA (i : Nat) : Fld := ⟨0x0B4 + 8 * i, 0, 32⟩
def DUD.TEMP.MAX : Fld := ⟨0x0F0, 0, 16⟩
def DUD.SINK_A.TEMP (i : Nat) : Fld := ⟨0x400 + 8 * i, 0, 16⟩
def DUD.SINK_A.HR_RED (i : Nat) : Fld := ⟨0x400 + 8 * i, 16, 8⟩
def DUD.SINK_A.HR_GB (i : Nat) : Fld := ⟨0x400 + 8 * i, 24, 8⟩
def DUD.SINK_B.LIVE (i : Nat) : Fld := ⟨0x404 + 8 * i, 0, 1⟩
def DUD.SINK_B.LOST (i : Nat) : Fld := ⟨0x404 + 8 * i, 1, 1⟩
def DUD.SINK_B.OT (i : Nat) : Fld := ⟨0x404 + 8 * i, 2, 1⟩
def DUD.SINK_B.DSYNC_LOSS (i : Nat) : Fld := ⟨0x404 + 8 * i, 3, 1⟩
def DUD.SINK_B.MARK_MISS (i : Nat) : Fld := ⟨0x404 + 8 * i, 4, 1⟩
def DUD.SINK_B.REPEAT (i : Nat) : Fld := ⟨0x404 + 8 * i, 5, 1⟩
def DUD.SINK_B.MISSES (i : Nat) : Fld := ⟨0x404 + 8 * i, 8, 8⟩

end Sys2Proof.Machine
end

