-- ==== Sys2Proof/Machine/RegTable.lean ====
section
/-! DEFINITION. The pages of the register space and the register tables of their chapters: which offsets exist, the
access code of every bit, the reset values, and which bits are snapshot counters. -/

namespace Sys2Proof.Machine

/-- The kinds of page that the block table of Scope and Conventions lists. -/
inductive PageType where
  | sys
  | time
  | flt
  | pwr
  | thm
  | scal
  | saf
  | grd
  | fw
  | pair
  | arb
  | mem
  | cmp
  | lyr
  | ovl
  | matte
  | cad
  | gaf
  | diag
  | dly
  | pe
  | chk
  | reel
  | link
  | lane
  | dud
deriving DecidableEq, Repr

/-- One register of a page, or `n` registers `stride` bytes apart. The masks name the bits with each access code of
R34; a bit in none of them is reserved (R29). -/
structure Reg where
  off : Nat
  n : Nat := 1
  stride : Nat := 0
  /-- Reset words: one for all instances, or one for each. -/
  rst : List Nat := [0]
  rw : Nat := 0
  rws : Nat := 0
  wo : Nat := 0
  w1c : Nat := 0
  rc : Nat := 0
  ro : Nat := 0
  /-- Snapshot counters (R57). -/
  snap : Nat := 0
  /-- Snapshot registers, which return to their reset value at a snapshot and at CLEAR_COUNTERS (R564). -/
  sreg : Nat := 0
  /-- Counts that saturate and are not snapshot counters (R564). -/
  cnt : Nat := 0
deriving DecidableEq, Repr

/-- The mechanisms of `PAGE_CAP` (R31). -/
structure Cap where
  shadow : Bool
  lockable : Bool
  cmd : Bool
  bndImm : Bool
  bndSlot : Bool
  group : Bool
  snap : Bool
  evtImpl : Nat
deriving DecidableEq, Repr

/-- `PAGE_CAP` of every kind of page, as its chapter gives it. -/
def PageType.cap : PageType → Cap
  | .sys => ⟨true, true, true, false, false, true, true, 0x0001⟩ /- R66 -/
  | .time => ⟨true, true, true, false, false, true, true, 0x7FFF⟩ /- R160 -/
  | .flt => ⟨false, false, false, false, false, false, true, 0x007F⟩ /- R386 -/
  | .pwr => ⟨false, false, false, false, false, false, true, 0x003F⟩ /- R456 -/
  | .thm => ⟨true, true, false, true, false, true, true, 0x003F⟩ /- R458 -/
  | .scal => ⟨true, true, true, true, false, true, true, 0x003F⟩ /- R473 -/
  | .saf => ⟨true, true, true, true, false, false, true, 0x01FF⟩ /- R425 -/
  | .grd => ⟨true, true, false, true, false, false, true, 0x0007⟩ /- R428 -/
  | .fw => ⟨true, true, true, true, false, false, true, 0x00FF⟩ /- R529 -/
  | .pair => ⟨true, true, true, true, false, true, true, 0x00FF⟩ /- R505 -/
  | .arb => ⟨false, false, false, false, false, false, true, 0x0001⟩ /- R360 -/
  | .mem => ⟨true, true, true, true, false, true, true, 0x003F⟩ /- R356 -/
  | .cmp => ⟨true, true, true, false, false, true, true, 0x01FF⟩ /- R198 -/
  | .lyr => ⟨true, true, true, false, false, true, true, 0x0003⟩ /- R198 -/
  | .ovl => ⟨true, true, true, false, false, true, true, 0x0003⟩ /- R198 -/
  | .matte => ⟨true, true, true, false, false, true, true, 0x0007⟩ /- R254 -/
  | .cad => ⟨true, true, true, false, false, true, true, 0x007F⟩ /- R234 -/
  | .gaf => ⟨true, true, true, true, false, true, true, 0x000F⟩ /- R298 -/
  | .diag => ⟨true, true, true, false, false, true, true, 0x003F⟩ /- R321 -/
  | .dly => ⟨true, true, true, true, false, true, true, 0x0003⟩ /- R531 -/
  | .pe => ⟨true, true, false, false, false, true, true, 0x0003⟩ /- R232 -/
  | .chk => ⟨false, true, true, false, false, false, true, 0x0003⟩ /- R388 -/
  | .reel => ⟨true, true, true, true, false, true, true, 0x000F⟩ /- R390 -/
  | .link => ⟨true, true, true, true, false, true, true, 0x00FF⟩ /- R131 -/
  | .lane => ⟨true, true, true, true, false, true, true, 0x007F⟩ /- R97 -/
  | .dud => ⟨true, true, true, false, false, true, true, 0x01FF⟩ /- R294 -/

/-- The block registers of the `SYS` pages. -/
def SYS.regs : List Reg := [
  { off := 0x080, rw := 0xE, wo := 1 } /- COMMIT_GROUP, R43 -/,
  { off := 0x084, n := 4, stride := 4, rw := 0xFFFFFFFF } /- GROUP_MASK, R43 -/,
  { off := 0x094, ro := 0xFFFF07FF } /- GROUP_STAT, R43 -/,
  { off := 0x098, n := 4, stride := 4, ro := 0xFFFFFFFF } /- GROUP_FAIL, R43 -/,
  { off := 0x0A8, n := 4, stride := 4, ro := 0xFFFFFFFF } /- IRQ_SUM, R63 -/,
  { off := 0x0B8, rst := [2], rw := 7 } /- IRQ_CTL, R64 -/,
  { off := 0x0C0, rst := [1], rws := 0xFFFF0001 } /- FIELD_CFG, R17 -/,
  { off := 0x0C4, rst := [0x10000], ro := 0xFF1FFFF } /- FIELD_STAT, R17 -/,
  { off := 0x0D0, rst := [1], rw := 1 } /- RESET_CTL, R546 -/,
  { off := 0x0D4, ro := 0xFFFFFF1F, cnt := 0xFFFFFF00 } /- RESET_STAT, R546 -/,
  { off := 0x0D8, ro := 0x1FFFFF } /- BOOT_STAT, R546 -/,
  { off := 0x0DC, rw := 3, wo := 4, ro := 0xFFFFF000 } /- BENCH_CTL, R546 -/,
  { off := 0x0E0, wo := 0xFFFFFFFF } /- BENCH_DATA, R546 -/]

/-- The block registers of the `TIME` pages, part 1. -/
def TIME.regs1 : List Reg := [
  { off := 0x040, ro := 0xFFFFFFFF } /- NOW_LO, R160 -/,
  { off := 0x044, ro := 0xFFFFFFFF } /- NOW_HI, R160 -/,
  { off := 0x048, ro := 0xFFFF } /- NOW_FRAC, R160 -/,
  { off := 0x04C, rst := [0x3E0], ro := 0x1FF03FF } /- SYNC_STAT, R160 -/,
  { off := 0x050, ro := 0xFFFFFFFF } /- OFFSET, R160 -/,
  { off := 0x054, ro := 0xFFFFFFFF } /- PATH_DELAY, R160 -/,
  { off := 0x058, rws := 0x101FF } /- ROOT_CFG, R160 -/,
  { off := 0x05C, rws := 0xFFFFFFFF } /- ASYM, R160 -/,
  { off := 0x060, rst := [0x3E800C8], rws := 0xFFF03FF } /- LOCK_CFG, R160 -/,
  { off := 0x064, rw := 0xFFFFFFFF } /- SET_LO, R160 -/,
  { off := 0x068, rw := 0xFFFFFFFF } /- SET_HI, R160 -/,
  { off := 0x06C, rst := [0x7F2815], rws := 0x3FFFFFF } /- PERIOD, R160 -/,
  { off := 0x070, rst := [0x5555], rws := 0xFFFF } /- PERIOD_FRAC, R160 -/,
  { off := 0x074, rst := [0x100], rws := 0x1F03 } /- MODE, R160 -/,
  { off := 0x078, rws := 0xFFFFFFFF } /- APPLY_AT_LO, R160 -/,
  { off := 0x07C, rws := 0xFFFFFFFF } /- APPLY_AT_HI, R160 -/,
  { off := 0x080, ro := 0xFFFFFFFF } /- ORIGIN_LO, R160 -/,
  { off := 0x084, ro := 0xFFFFFFFF } /- ORIGIN_HI, R160 -/]

/-- The block registers of the `TIME` pages, part 2. -/
def TIME.regs2 : List Reg := [
  { off := 0x088, ro := 0xFFFF } /- FRAME, R160 -/,
  { off := 0x08C, rst := [0x32], rws := 0xFFF } /- BLANK, R160 -/,
  { off := 0x090, rw := 0x3FF } /- CUE_ROW, R160 -/,
  { off := 0x094, rst := [0x200], rws := 0xFFFF } /- STILL_AFTER, R160 -/,
  { off := 0x098, rst := [0x10101010], rws := 0x3F3F3F3F } /- CLAP_CFG, R160 -/,
  { off := 0x0A0, n := 4, stride := 8, rst := [0x10000, 0, 0, 0], rws := 0xFFFFF } /- SLOT, R160 -/,
  { off := 0x0A4, n := 4, stride := 8, rws := 0xFFFFFFFF } /- SLOT_OFS, R160 -/,
  { off := 0x0C0, n := 4, stride := 4, ro := 0xFFFFFFFF } /- SLOT_PHASE, R160 -/,
  { off := 0x0D0, n := 4, stride := 4, ro := 0xFFFFFFFF } /- CLAP_PHASE, R160 -/,
  { off := 0x0E0, ro := 0xFFF } /- CLAP_STAT, R160 -/,
  { off := 0x0F0, n := 4, stride := 4, rst := [0, 0x10000, 0x20000, 0x30000], ro := 0xFF07FFFF } /- SLATE, R160 -/,
  { off := 0x100, ro := 0xFFFFFF01, snap := 0xFFFF0000 } /- STILL_STAT, R160 -/,
  { off := 0x104, rc := 0xFFFF, ro := 0xFFFF0000, snap := 0xFFFF0000 } /- FREEZE_STAT, R160 -/,
  { off := 0x108, ro := 0xFFFFFFFF, snap := 0xFFFFFFFF } /- RASTER_CNT, R160 -/,
  { off := 0x10C, ro := 0xFFFF0003 } /- MODE_STAT, R160 -/]

/-- The block registers of the `TIME` pages. -/
def TIME.regs : List Reg := TIME.regs1 ++ TIME.regs2

/-- The block registers of the `FLT` pages. -/
def FLT.regs : List Reg := [
  { off := 0x040, ro := 0xFFFFFFFF } /- CAPT_STAT, R386 -/,
  { off := 0x044, ro := 0xFFFFFFFF } /- CAPT_ADDR, R386 -/,
  { off := 0x048, ro := 0xFFFFFFFF } /- CAPT_TIME_LO, R386 -/,
  { off := 0x04C, ro := 0xFFFFFFFF } /- CAPT_TIME_HI, R386 -/,
  { off := 0x050, ro := 0x1FFFFF } /- CAPT_SYND, R386 -/,
  { off := 0x054, ro := 0xFFFFFFFF } /- CAPT_SEQ, R386 -/,
  { off := 0x058, wo := 0xFFFF } /- CAPT_ACK, R386 -/,
  { off := 0x060, n := 5, stride := 4, ro := 0xFFFFFFFF } /- MERGE_SRC, R386 -/,
  { off := 0x080, n := 5, stride := 4, ro := 0xFFFFFFFF } /- BROKEN, R386 -/,
  { off := 0x0A0, n := 5, stride := 4, ro := 0xFFFFFFFF, snap := 0xFFFFFFFF } /- CLASS_CNT, R386 -/,
  { off := 0x0C0, n := 3, stride := 4, rst := [0, 1, 1], rw := 7 } /- REACT0 to REACT2, R386 -/,
  { off := 0x0CC, rst := [5], rw := 3, ro := 4 } /- REACT3, R386 -/,
  { off := 0x0D0, rst := [3], rw := 7 } /- REACT4, R386 -/,
  { off := 0x0E0, ro := 0xFFFF, snap := 0xFFFF } /- MISC, R386 -/,
  { off := 0x100, n := 5, stride := 4, ro := 0xFFFFFFFF, snap := 0xFFFFFFFF } /- SRC_CNT, R386 -/]

/-- The block registers of the `PWR` pages. -/
def PWR.regs : List Reg := [
  { off := 0x040, wo := 0x7F } /- REQ, R456 -/,
  { off := 0x044, ro := 0x3FFFF } /- REQ_STAT, R456 -/,
  { off := 0x048, ro := 0xFFFFFFFF, snap := 0xFFFFFFFF } /- REFUSE_CNT, R456 -/,
  { off := 0x04C, ro := 0xFF0F1F } /- LAST_REFUSER, R456 -/,
  { off := 0x050, rw := 1, ro := 2 } /- LP_CTL, R456 -/,
  { off := 0x054, ro := 0xFFFF } /- BO_STAT, R456 -/,
  { off := 0x058, ro := 0x7FFFF } /- BO_MASK, R456 -/,
  { off := 0x05C, ro := 0xFFFFFFFF } /- BO_TIME_LO, R456 -/,
  { off := 0x060, ro := 0xFFFFFFFF } /- BO_TIME_HI, R456 -/,
  { off := 0x064, rw := 0x3F, w1c := 0x3F00 } /- LINK_WAKE, R456 -/,
  { off := 0x068, rw := 0xFFFFFFFF } /- WAKE_AT_LO, R456 -/,
  { off := 0x06C, rw := 0xFFFFFFFF } /- WAKE_AT_HI, R456 -/,
  { off := 0x070, rw := 0x8007FFFE } /- WAKE_MASK, R456 -/,
  { off := 0x100, n := 19, stride := 4, rst := [0, 0, 0, 2, 2, 2, 2, 2, 2, 2, 2, 2, 2, 2, 2, 2, 2, 2, 2], ro := 0xFFFF3FFF, snap := 0xFFFF0000 } /- DOM_STAT, R456 -/]

/-- The block registers of the `THM` pages. -/
def THM.regs : List Reg := [
  { off := 0x040, wo := 0x1FFF } /- DEMAND, R458 -/,
  { off := 0x044, ro := 0xFFFF001F, snap := 0xFFFF0000 } /- STAT, R458 -/,
  { off := 0x048, rst := [0x640FFF], rws := 0xFFF0FFF } /- CFG, R458 -/,
  { off := 0x04C, ro := 0xFFFFFFFF, snap := 0xFFFFFFFF } /- DEMAND_CNT, R458 -/,
  { off := 0x050, rst := [0x36E5F55], rws := 0xFFFFFFF } /- TILE_LIM, R458 -/,
  { off := 0x054, ro := 0xFFFFFFFF } /- TILE_STAT0, R458 -/,
  { off := 0x058, ro := 0xFFFF } /- TILE_STAT1, R458 -/,
  { off := 0x060, n := 12, stride := 8, rst := [0x36E645F], rws := 0xFFFFFFF } /- TS_LIM, R458 -/,
  { off := 0x064, n := 12, stride := 8, rst := [0xA], rws := 0xFF } /- TS_RISE, R458 -/,
  { off := 0x0C0, n := 12, stride := 4, ro := 0xFFFFFF } /- TS, R458 -/,
  { off := 0x0F0, ro := 0x31F1F } /- MR4, R458 -/,
  { off := 0x0F4, ro := 0xFFFFFFFF, snap := 0xFFFFFFFF } /- BROKEN_CNT, R458 -/,
  { off := 0x0F8, ro := 0xFFFFFFFF, snap := 0xFFFFFFFF } /- RISE_CNT, R458 -/,
  { off := 0x100, n := 12, stride := 4, ro := 0xFFFF } /- TS_RATE, R458 -/,
  { off := 0x130, ro := 0xFFFFFFFF } /- LAST_CONV_LO, R458 -/,
  { off := 0x134, ro := 0xFFFFFFFF } /- LAST_CONV_HI, R458 -/]

/-- The block registers of the `SCAL` pages. -/
def SCAL.regs : List Reg := [
  { off := 0x040, rst := [0x3E82001], rws := 0xFFFFF0F } /- CTL, R473 -/,
  { off := 0x044, rst := [0xC], ro := 0x7FF } /- STAT, R473 -/,
  { off := 0x048, rst := [0x1FFFFF], ro := 0x1FFFFF } /- PENDING, R473 -/,
  { off := 0x04C, ro := 0x1FFFFF } /- FAILED, R473 -/,
  { off := 0x050, ro := 0x1FF } /- SPARE, R473 -/,
  { off := 0x054, ro := 0xFFFFFFFF } /- REFIN_PPM, R473 -/,
  { off := 0x058, rst := [0x80000000], ro := 0xFFFFFFFF } /- MADC_CAL, R473 -/,
  { off := 0x05C, ro := 0xFFFFFFFF, snap := 0xFFFFFFFF } /- RUN_CNT, R473 -/,
  { off := 0x080, n := 21, stride := 4, ro := 0xFFF3FFFF } /- UNIT_STAT, R473 -/,
  { off := 0x100, n := 12, stride := 4, ro := 0x1FFFF } /- MADC_RES, R473 -/]

/-- The block registers of the `SAF` pages, part 1. -/
def SAF.regs1 : List Reg := [
  { off := 0x040, rws := 0xFF } /- CTL, R425 -/,
  { off := 0x044, rws := 0x1F1F1F1F } /- IN_CFG, R425 -/,
  { off := 0x048, rst := [0x6401F4], rws := 0x3FF0FFF } /- IN_TIMING, R425 -/,
  { off := 0x04C, rst := [0x12C03E8], rws := 0x3FF0FFF } /- OUT_TIMING, R425 -/,
  { off := 0x050, rst := [0x640064], rws := 0x3FF03FF } /- FB_TIMING, R425 -/,
  { off := 0x054, ro := 0x1FFFF } /- GROUP_STAT, R425 -/,
  { off := 0x058, ro := 0xF1F } /- TRIP_INFO, R425 -/,
  { off := 0x05C, ro := 0x1F1F1F1F } /- LOCK_CAUSE, R425 -/,
  { off := 0x060, ro := 0x3FFFF } /- IN_STAT, R425 -/,
  { off := 0x064, ro := 0xFFFFF } /- OUT_STAT, R425 -/,
  { off := 0x070, n := 2, stride := 16, rws := 0xFFFFFFFF } /- RX_ID, R425 -/,
  { off := 0x074, n := 2, stride := 16, rws := 0xFFFFFFFF } /- RX_SEED, R425 -/,
  { off := 0x078, n := 2, stride := 16, rst := [0x4E200032], rws := 0xFFFFF3FF } /- RX_CFG, R425 -/,
  { off := 0x07C, n := 2, stride := 16, rst := [0x100000], ro := 0x3FFFFF } /- RX_STAT, R425 -/,
  { off := 0x090, rws := 0xFFFFFFFF } /- TX_ID, R425 -/,
  { off := 0x094, rws := 0xFFFFFFFF } /- TX_SEED, R425 -/,
  { off := 0x098, rst := [0x4E20000A], rws := 0xFFFF03FF } /- TX_CFG, R425 -/,
  { off := 0x09C, ro := 0xFFFF } /- TX_STAT, R425 -/]

/-- The block registers of the `SAF` pages, part 2. -/
def SAF.regs2 : List Reg := [
  { off := 0x0A0, ro := 0x1FFFF } /- MSG_STAT, R425 -/,
  { off := 0x0A4, ro := 0xFFFFFFFF, snap := 0xFFFFFFFF } /- RX_CNT, R425 -/,
  { off := 0x0A8, ro := 0xFFFFFFFF, snap := 0xFFFFFFFF } /- RX_REJ, R425 -/,
  { off := 0x0AC, ro := 0xFFFFFFFF, snap := 0xFFFFFFFF } /- RX_REJ2, R425 -/,
  { off := 0x0B0, ro := 0xFFFFFFFF, snap := 0xFFFFFFFF } /- TRIP_CNT, R425 -/,
  { off := 0x0B4, ro := 0xFFFFFFFF, snap := 0xFFFFFFFF } /- RESET_CNT, R425 -/,
  { off := 0x100, n := 16, stride := 16, rws := 0xFFFFFFFF } /- PRESET_POS, R425 -/,
  { off := 0x104, n := 16, stride := 16, rws := 0xFFFFFFFF } /- PRESET_RG, R425 -/,
  { off := 0x108, n := 16, stride := 16, rws := 0xFFFF } /- PRESET_B, R425 -/]

/-- The block registers of the `SAF` pages. -/
def SAF.regs : List Reg := SAF.regs1 ++ SAF.regs2

/-- The block registers of the `GRD` pages. -/
def GRD.regs : List Reg := [
  { off := 0x040, rws := 0x1F } /- CTL, R428 -/,
  { off := 0x044, rws := 0xFFFFF } /- IN_MAP, R428 -/,
  { off := 0x048, rst := [0x6401F4], rws := 0x3FF0FFF } /- TIMING, R428 -/,
  { off := 0x04C, rst := [0xC832], rws := 0x3FFFFFFF } /- CONN, R428 -/,
  { off := 0x050, rst := [0xF0], ro := 0x1F0FFF } /- STAT, R428 -/,
  { off := 0x054, rw := 0xFF } /- ALIVE, R428 -/,
  { off := 0x058, ro := 0x3FFFFFF } /- TRIP_ZONE, R428 -/,
  { off := 0x05C, ro := 0xFFFFFFFF } /- TRIP_SUM_LO, R428 -/,
  { off := 0x060, ro := 0xFFFF } /- TRIP_SUM_HI, R428 -/,
  { off := 0x064, ro := 0xFFFFFFFF } /- ZT_CRC, R428 -/,
  { off := 0x068, ro := 0xFFFFFFFF, snap := 0xFFFFFFFF } /- CNT, R428 -/]

/-- The block registers of the `FW` pages, part 1. -/
def FW.regs1 : List Reg := [
  { off := 0x040, ro := 0x1FFF } /- STAT, R529 -/,
  { off := 0x044, ro := 0xFFFFFFFF } /- UPD_EXPECT, R529 -/,
  { off := 0x048, ro := 0xFFFFFFFF, snap := 0xFFFFFFFF } /- UPD_CNT, R529 -/,
  { off := 0x04C, ro := 0xFFFFFF } /- UPD_INFO, R529 -/,
  { off := 0x050, ro := 0xFFFFFFFF } /- VER_MGT, R529 -/,
  { off := 0x054, ro := 0xFFFFFFFF } /- VER_SAF, R529 -/,
  { off := 0x058, ro := 0xFFFFFFFF } /- VER_NEW, R529 -/,
  { off := 0x05C, rws := 0xFFFFF } /- HOLDUP_C, R529 -/,
  { off := 0x060, rst := [0x100], rws := 0xFFFFFFFF } /- HOLDUP_V, R529 -/,
  { off := 0x064, rws := 0xFFFFFFFF } /- HOLDUP_NEED, R529 -/,
  { off := 0x068, ro := 0xFFFFFFFF } /- HOLDUP_E, R529 -/,
  { off := 0x06C, ro := 0xFFFFFFFF, snap := 0xFFFFFFFF } /- HOLD_CNT, R529 -/,
  { off := 0x070, rst := [0x258], rws := 0xFFF } /- HOLD_TIMEOUT, R529 -/,
  { off := 0x074, rw := 0xFF } /- ALIVE, R529 -/,
  { off := 0x078, rst := [0x33C0F], rws := 0x3FFFF } /- BG_CFG, R529 -/,
  { off := 0x07C, ro := 0xFFFF007F, cnt := 0xFFFF0000 } /- CKPT_STAT, R529 -/,
  { off := 0x080, ro := 0xFFFFFF } /- FLASH_WEAR, R529 -/,
  { off := 0x084, ro := 0xFFFFFFFF, snap := 0xFFFFFFFF } /- FLASH_ERR, R529 -/]

/-- The block registers of the `FW` pages, part 2. -/
def FW.regs2 : List Reg := [
  { off := 0x088, ro := 0xFFFFFFFF } /- OTP_SVN, R529 -/,
  { off := 0x08C, ro := 0xF } /- OTP_KEYS, R529 -/,
  { off := 0x090, ro := 0x1FFFFFF } /- PACK_FACTORY, R529 -/,
  { off := 0x094, ro := 0x1FFFFFF } /- PACK_USER, R529 -/]

/-- The block registers of the `FW` pages. -/
def FW.regs : List Reg := FW.regs1 ++ FW.regs2

/-- The block registers of the `PAIR` pages. -/
def PAIR.regs : List Reg := [
  { off := 0x040, rst := [4], rws := 0x1FF0007 } /- CFG, R505 -/,
  { off := 0x044, rws := 0x1FF } /- IDENT, R505 -/,
  { off := 0x048, rst := [0x1F412C3], rws := 0xFFFFFFF } /- TIMING, R505 -/,
  { off := 0x04C, rst := [0x190], rws := 0x7FF } /- RESYNC, R505 -/,
  { off := 0x050, n := 4, stride := 8, rws := 0x87FFFFFF } /- MRANGE, R505 -/,
  { off := 0x054, n := 4, stride := 8, rws := 0x7FFFFFF } /- MSIZE, R505 -/,
  { off := 0x080, ro := 0x7F1F } /- STAT, R505 -/,
  { off := 0x084, ro := 0xFFFFFFFF } /- MGEN_TX, R505 -/,
  { off := 0x088, ro := 0xFFFFFFFF } /- MGEN_RX, R505 -/,
  { off := 0x08C, ro := 0xFFFFFFFF } /- OFFSET_PS, R505 -/,
  { off := 0x090, ro := 0xFFFFFFFF, snap := 0xFFFFFFFF } /- CNT, R505 -/,
  { off := 0x094, ro := 0xFFFFFFFF, snap := 0xFFFFFFFF } /- CNT2, R505 -/,
  { off := 0x098, ro := 0x80FFFFFF } /- RESYNC_STAT, R505 -/,
  { off := 0x09C, ro := 0xFFFF000F } /- LAST_TAKE, R505 -/]

/-- The block registers of the `ARB` pages. -/
def ARB.regs : List Reg := [
  { off := 0x040, rst := [1], rw := 1 } /- CTL, R360 -/,
  { off := 0x044, ro := 0xF7 } /- PORT_STAT, R360 -/,
  { off := 0x048, ro := 0xFFFFFFFF, snap := 0xFFFFFFFF } /- VOID_CNT, R360 -/,
  { off := 0x04C, ro := 0xFFFFFFFF, snap := 0xFFFFFFFF } /- STALL_CNT, R360 -/,
  { off := 0x100, n := 12, stride := 16, rst := [0x1000006, 0xC00006, 0x400003, 0x800007, 0x800007, 0x800007, 0x800007, 2, 0x100002, 0x80004, 0x200005, 0], rw := 0x7FF0007 } /- CFG, R360 -/,
  { off := 0x104, n := 12, stride := 16, ro := 0x7FF0003 } /- STAT, R360 -/,
  { off := 0x108, n := 12, stride := 16, ro := 0xFFFFFFFF, snap := 0xFFFFFFFF } /- GRANTS, R360 -/,
  { off := 0x10C, n := 12, stride := 16, ro := 0xFFFFFFFF, snap := 0xFFFFFFFF, sreg := 0xFFFF0000 } /- WAIT, R360 -/]

/-- The block registers of the `MEM` pages. -/
def MEM.regs : List Reg := [
  { off := 0x040, rst := [1], rw := 1 } /- CTL, R356 -/,
  { off := 0x044, ro := 0xFFFF } /- STAT, R356 -/,
  { off := 0x048, n := 4, stride := 4, rst := [0x111, 0x222, 0x444, 0x888], rws := 0x7FFF } /- BANKMAP, R356 -/,
  { off := 0x058, rst := [0x22221111], rws := 0x7FFF7FFF } /- CHANMAP, R356 -/,
  { off := 0x05C, rst := [0xF40], rws := 0x1FFF } /- REFRESH, R356 -/,
  { off := 0x060, rst := [0x140118], rws := 0xFF03FF } /- REFRESH_T, R356 -/,
  { off := 0x064, rst := [0x3C0018], rws := 0xFFF00FF } /- SCRUB_CFG, R356 -/,
  { off := 0x068, ro := 0xFFFFFFF } /- SCRUB_STAT, R356 -/,
  { off := 0x06C, ro := 0xFFFFFFFF, snap := 0xFFFFFFFF } /- SCRUB_CNT, R356 -/,
  { off := 0x070, ro := 0xFFFFFFFF, snap := 0xFFFFFFFF } /- CORR_CNT, R356 -/,
  { off := 0x074, ro := 0xFFFFFFFF, snap := 0xFFFFFFFF } /- UNCORR_CNT, R356 -/,
  { off := 0x078, ro := 0xFFFFFFFF, snap := 0xFFFFFFFF } /- MISC_CNT, R356 -/,
  { off := 0x080, n := 2, stride := 16, rst := [0, 2], rws := 3 } /- TS_RATE, R356 -/,
  { off := 0x084, n := 2, stride := 16, rst := [0x192A1412, 0x242A1412], rws := 0xFFFFFFFF } /- TS_CORE, R356 -/,
  { off := 0x088, n := 2, stride := 16, rst := [0x2214050C, 0x22140514], rws := 0xFFFFFFFF } /- TS_MISC, R356 -/,
  { off := 0x08C, n := 2, stride := 16, rst := [0x3250285, 0x47402D0], ro := 0xFFFFFFFF } /- TS_CALC, R356 -/]

/-- The block registers of the `CMP` pages. -/
def CMP.regs : List Reg := [
  { off := 0x040, ro := 0xFFFFFFFF, snap := 0xFFFFFFFF } /- COMMIT_STAT, R198 -/,
  { off := 0x044, rst := [2], rw := 0xF } /- DEFER_LIMIT, R198 -/,
  { off := 0x048, rws := 0xF } /- ORDER_CTL, R198 -/,
  { off := 0x04C, n := 4, stride := 4, rst := [0x76543210], rws := 0xFFFFFFFF } /- ORDER, R198 -/,
  { off := 0x060, rws := 0x1FF } /- MON_CFG, R198 -/,
  { off := 0x064, rws := 0x7FFFFFF } /- CAP_BASE, R198 -/,
  { off := 0x068, rws := 0xFF } /- CAP_CFG, R198 -/,
  { off := 0x06C, ro := 0x1FFFF } /- CAP_STAT, R198 -/,
  { off := 0x070, n := 4, stride := 4, ro := 0xFFFFFFFF, snap := 0xFFFFFFFF } /- UNDERRUN_CNT, R198 -/,
  { off := 0x080, ro := 0x7FFFFFF } /- EARLY_ADDR, R198 -/,
  { off := 0x084, w1c := 0x80000000, ro := 0xFFFFF } /- EARLY_INFO, R198 -/,
  { off := 0x088, ro := 0xFFFFFFFF, snap := 0xFFFFFFFF } /- EARLY_CNT, R198 -/,
  { off := 0x08C, ro := 0xFFFFFFFF, snap := 0xFFFFFFFF } /- POISON_CNT, R198 -/,
  { off := 0x090, ro := 0xFFFFFFFF, snap := 0xFFFFFFFF } /- LEAF_ERR_CNT, R198 -/,
  { off := 0x094, ro := 0xFFFFFFFF, snap := 0xFFFFFFFF } /- MON_DROP, R198 -/,
  { off := 0x098, ro := 0xFFFF } /- READ_RATE, R198 -/,
  { off := 0x09C, ro := 0xFFFF } /- WIN_BUSY, R198 -/]

/-- The block registers of the `LYR` pages, part 1. -/
def LYR.regs1 : List Reg := [
  { off := 0x040, rst := [0xFF008000], rws := 0xFFFFFF1F } /- CTL, R201 -/,
  { off := 0x044, rws := 0x7FFFFFF } /- SURF_BASE, R201 -/,
  { off := 0x048, rws := 0x7FFF7FFF } /- SURF_GEOM, R201 -/,
  { off := 0x04C, rws := 0xFF00FFFF } /- SURF_STRIDE, R201 -/,
  { off := 0x050, rws := 0x7FFFFFF } /- META_BASE, R201 -/,
  { off := 0x054, rws := 0xFFFF } /- META_STRIDE, R201 -/,
  { off := 0x058, rws := 0x7FFF7FFF } /- SRC_POS, R201 -/,
  { off := 0x05C, rws := 0x7FFF7FFF } /- SRC_SIZE, R201 -/,
  { off := 0x060, rws := 0xFFFFFFFF } /- DST_POS, R201 -/,
  { off := 0x064, rws := 0x7FFF7FFF } /- DST_SIZE, R201 -/,
  { off := 0x068, rws := 0xFFFFF } /- WIN_MASK, R201 -/,
  { off := 0x06C, rws := 0xFFFFFFFF } /- FILL_RG, R201 -/,
  { off := 0x070, rws := 0xFFFF } /- FILL_B, R201 -/,
  { off := 0x074, rw := 1 } /- READY, R201 -/,
  { off := 0x078, ro := 0xFFFF } /- RETIRE, R201 -/,
  { off := 0x07C, ro := 0x7FFFFFF } /- RETIRE_BASE, R201 -/,
  { off := 0x080, ro := 0x1F1F1F1F } /- SEL, R201 -/,
  { off := 0x800, n := 256, stride := 8, rws := 0xFFFFFFFF } /- PAL_RG, R201 -/]

/-- The block registers of the `LYR` pages, part 2. -/
def LYR.regs2 : List Reg := [
  { off := 0x804, n := 256, stride := 8, rws := 0xFFFFFFFF } /- PAL_BA, R201 -/]

/-- The block registers of the `LYR` pages. -/
def LYR.regs : List Reg := LYR.regs1 ++ LYR.regs2

/-- The block registers of the `OVL` pages. -/
def OVL.regs : List Reg := [
  { off := 0x040, rws := 0x33F0F } /- CTL, R203 -/,
  { off := 0x044, rws := 0xFFFFFFFF } /- POS, R203 -/,
  { off := 0x048, rws := 0xFFFFFFFF } /- COLOUR_RG, R203 -/,
  { off := 0x04C, rws := 0xFFFF } /- COLOUR_B, R203 -/,
  { off := 0x050, rws := 0x3FF03FF } /- HB_POS, R203 -/,
  { off := 0x054, rws := 0x3FFFFFFF } /- HB_COL0, R203 -/,
  { off := 0x058, rst := [0x3FFFFFF], rws := 0x3FFFFFFF } /- HB_COL1, R203 -/,
  { off := 0x05C, ro := 0xFFFFFFFF } /- SIG, R203 -/,
  { off := 0x060, ro := 0x3FFFF } /- SIG_FRAME, R203 -/,
  { off := 0x064, rw := 0xFFFF } /- LIB_ADDR, R203 -/,
  { off := 0x068, rw := 0xFFFFFFFF } /- LIB_DATA, R203 -/,
  { off := 0x06C, rw := 0xFFFFFFFF } /- LIB_SEAL, R203 -/,
  { off := 0x070, ro := 0x7F03 } /- LIB_STAT, R203 -/]

/-- The block registers of the `MATTE` pages. -/
def MATTE.regs : List Reg := [
  { off := 0x040, rws := 1 } /- CTL, R254 -/,
  { off := 0x044, ro := 0xF0F } /- STAT, R254 -/,
  { off := 0x048, rws := 0x7FFFFFF } /- BASE, R254 -/,
  { off := 0x04C, rws := 0xFF } /- TAG, R254 -/,
  { off := 0x050, n := 4, stride := 4, rst := [0x80008000], rws := 0xFFFFFFFF } /- GAIN, R254 -/,
  { off := 0x060, rst := [0xAD914340], rws := 0xFFFFFFFF } /- PROXY_W0, R254 -/,
  { off := 0x064, rst := [0xF2E], rws := 0xFFFF } /- PROXY_W1, R254 -/,
  { off := 0x068, rst := [0xF8000], rws := 0xFFFFF } /- BORROW, R254 -/,
  { off := 0x06C, rw := 0xFFFFFFFF } /- ZONE_SEAL, R254 -/,
  { off := 0x080, n := 32, stride := 4, rw := 0xFFFFFFFF } /- SEAL, R254 -/,
  { off := 0x100, n := 64, stride := 8, rst := [0xFFFFF], rws := 0x800FFFFF } /- ZCAP, R254 -/,
  { off := 0x104, n := 64, stride := 8, ro := 0x3FFFFF } /- ZCOUNT, R254 -/,
  { off := 0x300, n := 16, stride := 4, ro := 0xFFFFFFFF } /- READ_SIG, R254 -/,
  { off := 0x340, ro := 0xFFFFFFFF } /- READ_STAT, R254 -/,
  { off := 0x344, ro := 0xFFFFFFFF, snap := 0xFFFFFFFF } /- CAP_ACT, R254 -/,
  { off := 0x348, ro := 0xFFFFFFFF, snap := 0xFFFFFFFF } /- READ_ERR, R254 -/,
  { off := 0x34C, ro := 0x7FFFFF } /- BORROW_CNT, R254 -/]

/-- The block registers of the `CAD` pages, part 1. -/
def CAD.regs1 : List Reg := [
  { off := 0x040, rst := [0x10], rws := 0x1F } /- CTL, R234 -/,
  { off := 0x044, ro := 0xFFFF001F } /- STAT, R234 -/,
  { off := 0x048, rws := 0x7FFFFFF } /- REGION, R234 -/,
  { off := 0x04C, rws := 0xFF } /- REGION_TAG, R234 -/,
  { off := 0x050, rws := 0x7FFFFFF } /- STAGE, R234 -/,
  { off := 0x054, rws := 0xFF } /- STAGE_CFG, R234 -/,
  { off := 0x058, rst := [0x4B000F0], rws := 0xFFFFFFFF } /- T_REF, R234 -/,
  { off := 0x05C, rst := [0x3E80004], rws := 0xFFF00FF } /- REBUILD, R234 -/,
  { off := 0x060, n := 5, stride := 4, rst := [0x2000, 0, 0x2000, 0, 0x2000], rws := 0xFFFFFFFF } /- GAMUT, R234 -/,
  { off := 0x074, rws := 0xFFFFFFFF } /- TGT_R, R234 -/,
  { off := 0x078, rws := 0xFFFFFFFF } /- TGT_G, R234 -/,
  { off := 0x07C, rws := 0xFFFFFFFF } /- TGT_B, R234 -/,
  { off := 0x080, rws := 0xFFFFFFFF } /- TGT_W, R234 -/,
  { off := 0x084, rws := 0xFFFFFFFF } /- TGT_Y, R234 -/,
  { off := 0x088, rst := [0x6666], rws := 0xFFFF } /- WHITE_MAX, R234 -/,
  { off := 0x08C, rst := [0x3C10], rws := 0xFFFFFF } /- WEAR_CFG, R234 -/,
  { off := 0x090, rst := [0xA000A000], rws := 0xFFFFFFFF } /- CAP_RG, R234 -/,
  { off := 0x094, rst := [0xA000], rws := 0xFFFF } /- CAP_B, R234 -/]

/-- The block registers of the `CAD` pages, part 2. -/
def CAD.regs2 : List Reg := [
  { off := 0x098, rst := [0x80004000], rws := 0xFFFFFFFF } /- CEIL_LIM, R234 -/,
  { off := 0x09C, ro := 0xFFFF } /- TEMP_STALE, R234 -/,
  { off := 0x0A0, n := 8, stride := 4, rst := [0x80008000], ro := 0xFFFFFFFF } /- CEILING, R234 -/,
  { off := 0x0C0, n := 8, stride := 4, rst := [0x10001000], rws := 0xFFFFFFFF } /- DOSE_TEMP, R234 -/,
  { off := 0x0E0, ro := 0x7FFFFF } /- LIMITED, R234 -/,
  { off := 0x0E4, ro := 0xFFFFFFFF, snap := 0xFFFFFFFF } /- COEF_SAT, R234 -/,
  { off := 0x0E8, ro := 0xFFFFFFFF, snap := 0xFFFFFFFF } /- RECORD_LOST, R234 -/,
  { off := 0x0EC, ro := 0x1FFFFF } /- FAIL_INFO, R234 -/,
  { off := 0x600, n := 576, stride := 4, rst := [0x80008000], rws := 0xFFFFFFFF } /- WEAR_LUT, R234 -/]

/-- The block registers of the `CAD` pages. -/
def CAD.regs : List Reg := CAD.regs1 ++ CAD.regs2

/-- The block registers of the `GAF` pages. -/
def GAF.regs : List Reg := [
  { off := 0x040, rst := [0x3FE], rws := 0x3FF } /- CTL, R298 -/,
  { off := 0x044, rst := [0x140064], rws := 0xFFF0FFF } /- TIMING, R298 -/,
  { off := 0x048, rst := [0x320C8], rws := 0xFFFFFF } /- HEADROOM, R298 -/,
  { off := 0x04C, rst := [0x14064], rws := 0xFFFFFF } /- SLEW, R298 -/,
  { off := 0x050, rst := [0x32], rws := 0xFFF } /- LOW, R298 -/,
  { off := 0x054, rst := [0x125], rws := 0x1FF } /- PHASE, R298 -/,
  { off := 0x058, ro := 0xFFF } /- PMB_STAT, R298 -/,
  { off := 0x05C, ro := 0xFFFFFFFF, snap := 0xFFFFFFFF } /- PMB_ERR, R298 -/,
  { off := 0x060, ro := 0xFFFFFFFF, snap := 0xFFFFFFFF } /- HR_LOW_CNT, R298 -/,
  { off := 0x100, n := 32, stride := 16, rst := [0x1400], rws := 0xFFFF1FFF } /- RAIL_CFG, R298 -/,
  { off := 0x104, n := 32, stride := 16, rws := 0xFFFFFFFF } /- RAIL_LIM, R298 -/,
  { off := 0x108, n := 32, stride := 16, ro := 0xFFFFFFFF } /- RAIL_NOW, R298 -/,
  { off := 0x10C, n := 32, stride := 16, ro := 0xE000FFFF } /- RAIL_STAT, R298 -/,
  { off := 0x300, n := 32, stride := 4, ro := 0xFFFF } /- RAIL_TARGET, R298 -/]

/-- The block registers of the `DIAG` pages, part 1. -/
def DIAG.regs1 : List Reg := [
  { off := 0x040, rst := [6], rws := 7 } /- CTL, R321 -/,
  { off := 0x044, ro := 0xFFFF0007 } /- STAT, R321 -/,
  { off := 0x048, rws := 0x7FFFFFF } /- MAP_BASE, R321 -/,
  { off := 0x04C, rws := 0xFF } /- MAP_TAG, R321 -/,
  { off := 0x050, rst := [0x180801], rws := 0xFFFF0F } /- TIMING, R321 -/,
  { off := 0x054, rws := 3 } /- PROBE_CFG, R321 -/,
  { off := 0x058, rst := [3], rws := 0xF } /- REPORT, R321 -/,
  { off := 0x05C, rst := [0x3D0F43E0], rws := 0x3FFFFFFF } /- VF_TC, R321 -/,
  { off := 0x060, rst := [0x388EC3D8], rws := 0x3FFFFFFF } /- VF_OFS_R, R321 -/,
  { off := 0x064, rst := [0x388EC3D8], rws := 0x3FFFFFFF } /- VF_OFS_G, R321 -/,
  { off := 0x068, rst := [0x388EC3D8], rws := 0x3FFFFFFF } /- VF_OFS_B, R321 -/,
  { off := 0x06C, rst := [0x9625896], rws := 0x3FFFFFFF } /- DRIFT, R321 -/,
  { off := 0x070, ro := 0x7FFFFF } /- CNT_OK, R321 -/,
  { off := 0x074, ro := 0x7FFFFF } /- CNT_OPEN, R321 -/,
  { off := 0x078, ro := 0x7FFFFF } /- CNT_SHORT, R321 -/,
  { off := 0x07C, ro := 0x7FFFFF } /- CNT_DEGRADED, R321 -/,
  { off := 0x080, ro := 0x7FFFFF } /- CNT_UNVERIFIED, R321 -/,
  { off := 0x084, ro := 0xFFFFFFFF, snap := 0xFFFFFFFF } /- PROBES, R321 -/]

/-- The block registers of the `DIAG` pages, part 2. -/
def DIAG.regs2 : List Reg := [
  { off := 0x088, ro := 0xFFFFFFFF, snap := 0xFFFFFFFF } /- MISS, R321 -/,
  { off := 0x08C, ro := 0xFFFFFFFF, snap := 0xFFFFFFFF } /- DROPS, R321 -/,
  { off := 0x090, ro := 0xFFFFFFFF, snap := 0xFFFFFFFF } /- MAP_ERR_CNT, R321 -/,
  { off := 0x094, ro := 0x11FFF } /- LIST_STAT, R321 -/,
  { off := 0x098, rw := 0xFFF } /- LIST_IDX, R321 -/,
  { off := 0x09C, ro := 0x80FFFFFF } /- LIST_ENTRY, R321 -/]

/-- The block registers of the `DIAG` pages. -/
def DIAG.regs : List Reg := DIAG.regs1 ++ DIAG.regs2

/-- The block registers of the `DLY` pages. -/
def DLY.regs : List Reg := [
  { off := 0x040, rst := [0x3C01], rws := 0x1FFF01 } /- CTL, R531 -/,
  { off := 0x044, ro := 0xFFFFFFFF } /- SEQ, R531 -/,
  { off := 0x048, ro := 0xFFFFFFFF, cnt := 0xFFFF0000 } /- RING, R531 -/,
  { off := 0x04C, rw := 0xFFFF } /- READ_IDX, R531 -/,
  { off := 0x050, ro := 0xFFFFFFFF, snap := 0xFFFFFFFF } /- CNT, R531 -/,
  { off := 0x080, n := 32, stride := 4, ro := 0xFFFFFFFF } /- READ_DATA, R531 -/]

/-- The block registers of the `PE` pages. -/
def PE.regs : List Reg := [
  { off := 0x040, rst := [1], rws := 1 } /- CTL, R232 -/,
  { off := 0x044, ro := 0xFFFF0003 } /- STAT, R232 -/,
  { off := 0x048, n := 4, stride := 4, ro := 0xFFFF0FFF } /- TILE_PHI, R232 -/,
  { off := 0x058, ro := 0xFFFFFFFF, snap := 0xFFFFFFFF } /- GAMUT_CLIP, R232 -/,
  { off := 0x05C, ro := 0xFFFFFFFF, snap := 0xFFFFFFFF } /- DRIVE_SAT, R232 -/,
  { off := 0x060, ro := 0xFFFFFFFF, snap := 0xFFFFFFFF } /- READ_ERR, R232 -/,
  { off := 0x064, n := 4, stride := 4, ro := 0xFFFFFFFF } /- TILE_SIG, R232 -/,
  { off := 0x074, ro := 0xFFFF } /- SIG_FRAME, R232 -/,
  { off := 0x078, rw := 0x7FFFFF } /- PROBE_SEL, R232 -/,
  { off := 0x07C, n := 3, stride := 4, ro := 0xFFFFFF } /- PROBE_T, R232 -/,
  { off := 0x088, n := 3, stride := 4, ro := 0xFFFFF } /- PROBE_D, R232 -/,
  { off := 0x094, n := 3, stride := 4, ro := 0x3FFFFF } /- PROBE_Q, R232 -/,
  { off := 0x0A0, ro := 0x1FFFF } /- PROBE_STAT, R232 -/]

/-- The block registers of the `CHK` pages. -/
def CHK.regs : List Reg := [
  { off := 0x040, rw := 1 } /- CTL, R388 -/,
  { off := 0x044, rst := [0xFFFFFFFF], rw := 0xFFFFFFFF } /- SEED, R388 -/,
  { off := 0x048, wo := 0xFF } /- DATA_B, R388 -/,
  { off := 0x04C, wo := 0xFFFF } /- DATA_H, R388 -/,
  { off := 0x050, wo := 0xFFFFFFFF } /- DATA_W, R388 -/,
  { off := 0x054, rw := 0xFF } /- ALIVE, R388 -/,
  { off := 0x058, rw := 0xFFFFFFFF } /- EXPECT, R388 -/,
  { off := 0x05C, ro := 0xFFFFFFFF } /- RESULT, R388 -/,
  { off := 0x060, ro := 0xFFFFFFFF } /- RAW, R388 -/,
  { off := 0x064, ro := 0xFFFFFF03, cnt := 0xFFFF0000 } /- STAT, R388 -/,
  { off := 0x068, ro := 0xFFFFFFFF, snap := 0xFFFFFFFF } /- SEALS, R388 -/]

/-- The block registers of the `REEL` pages. -/
def REEL.regs : List Reg := [
  { off := 0x040, rst := [0x10000000], rws := 0xFFFFFFFF } /- CFG, R390 -/,
  { off := 0x044, rws := 0x3F3F, ro := 0x30000 } /- BIND, R390 -/,
  { off := 0x048, ro := 0xFFFFFFFF } /- FILL, R390 -/,
  { off := 0x04C, wo := 0xFFFFFFFF } /- WR_DATA, R390 -/,
  { off := 0x050, wo := 3 } /- WR_CTL, R390 -/,
  { off := 0x054, rst := [0x1000], ro := 0xFFFFFFFF } /- WR_STAT, R390 -/,
  { off := 0x058, ro := 0x107FF } /- RD_HEAD, R390 -/,
  { off := 0x05C, ro := 0xFFFFFFFF } /- RD_DATA, R390 -/,
  { off := 0x060, wo := 7 } /- RD_CTL, R390 -/,
  { off := 0x064, ro := 0x1FFF } /- RD_STAT, R390 -/,
  { off := 0x068, ro := 0xFFFFFFFF, snap := 0xFFFFFFFF } /- CNT, R390 -/,
  { off := 0x06C, ro := 0xFFFFFFFF, snap := 0xFFFFFFFF } /- CNT2, R390 -/]

/-- The block registers of the `LINK` pages, part 1. -/
def LINK.regs1 : List Reg := [
  { off := 0x040, ro := 0xFFFF077F } /- LINK_STAT, R131 -/,
  { off := 0x044, rst := [0x42], rws := 0x7F } /- POLICY, R131 -/,
  { off := 0x048, rws := 0x1FF01FF } /- FILTER, R131 -/,
  { off := 0x04C, rst := [0x7D0], rws := 0xFFF } /- CTL_WINDOW, R131 -/,
  { off := 0x050, ro := 0xFFFFFFFF, snap := 0xFFFFFFFF } /- CELLS_RX_LO, R131 -/,
  { off := 0x054, ro := 0xFFFFFFFF, snap := 0xFFFFFFFF } /- CELLS_RX_HI, R131 -/,
  { off := 0x058, ro := 0xFFFFFFFF, snap := 0xFFFFFFFF } /- CELL_CORR, R131 -/,
  { off := 0x05C, ro := 0xFFFFFFFF, snap := 0xFFFFFFFF } /- CELL_UNCORR, R131 -/,
  { off := 0x060, ro := 0xFFFFFFFF, snap := 0xFFFFFFFF } /- VID_DROP, R131 -/,
  { off := 0x064, ro := 0xFFFFFFFF, snap := 0xFFFFFFFF } /- VID_REJECT, R131 -/,
  { off := 0x068, ro := 0xFFFFFFFF, snap := 0xFFFFFFFF } /- CTL_DROP, R131 -/,
  { off := 0x06C, ro := 0xFFFFFFFF, snap := 0xFFFFFFFF } /- CTL_STAT, R131 -/,
  { off := 0x070, ro := 0xFFFFFFFF, snap := 0xFFFFFFFF } /- FWD, R131 -/,
  { off := 0x074, ro := 0xFFFFFFFF, snap := 0xFFFFFFFF } /- INGEST_OVF, R131 -/,
  { off := 0x078, ro := 0xFFFFFFFF, snap := 0xFFFFFFFF } /- AUTH_CNT, R131 -/,
  { off := 0x07C, ro := 0xFFFF, snap := 0xFFFF } /- MISC, R131 -/,
  { off := 0x0A4, rst := [0x3E80020], rws := 0xFFF00F3 } /- UPSEL, R131 -/,
  { off := 0x0A8, ro := 0xFFFF0703, snap := 0xFFFF0000 } /- UPSEL_STAT, R131 -/]

/-- The block registers of the `LINK` pages, part 2. -/
def LINK.regs2 : List Reg := [
  { off := 0x0AC, ro := 0xFFFFFF01 } /- KEY_STAT, R131 -/,
  { off := 0x0B0, n := 4, stride := 4, wo := 0xFFFFFFFF } /- AUTH_KEY, R131 -/,
  { off := 0x100, n := 16, stride := 8, rws := 0x9FFFFFFF } /- WIN_BASE, R131 -/,
  { off := 0x104, n := 16, stride := 8, rws := 0xFFFFFFFF } /- WIN_CFG, R131 -/,
  { off := 0x180, n := 16, stride := 4, ro := 0xFFFFFFFF } /- WIN_STAT, R131 -/]

/-- The block registers of the `LINK` pages. -/
def LINK.regs : List Reg := LINK.regs1 ++ LINK.regs2

/-- The block registers of the `LANE` pages, part 1. -/
def LANE.regs1 : List Reg := [
  { off := 0x040, rst := [0xE], rws := 0x1F } /- LANE_CFG, R97 -/,
  { off := 0x044, rst := [0x7C387C00], rws := 0x7F7F7F7F } /- TX_FIR_SET, R97 -/,
  { off := 0x048, ro := 0x7F7F7F7F } /- TX_FIR, R97 -/,
  { off := 0x04C, ro := 0xFFFFFFF } /- RX_EQ, R97 -/,
  { off := 0x050, n := 3, stride := 4, ro := 0xFFFFFFFF } /- DFE, R97 -/,
  { off := 0x05C, rw := 1 } /- ADAPT_CTL, R97 -/,
  { off := 0x060, rst := [0x3FF0000], ro := 0x3FF03FF, snap := 0x3FF0000, sreg := 0x3FF0000 } /- FOM, R97 -/,
  { off := 0x064, rst := [0x7823096], rws := 0x3FFFFFFF } /- FOM_THR, R97 -/,
  { off := 0x068, rst := [0x60], ro := 0xFFFFFF } /- TRAIN_STAT, R97 -/,
  { off := 0x06C, ro := 0x3FF } /- DWELL, R97 -/,
  { off := 0x070, ro := 0x3FFFF } /- PARTNER, R97 -/,
  { off := 0x074, rst := [0x33C], rws := 0x7FF } /- PRBS_CTL, R97 -/,
  { off := 0x078, ro := 0xFFFF0001, snap := 0xFFFF0000 } /- PRBS_STAT, R97 -/,
  { off := 0x07C, ro := 0xFFFFFFFF, snap := 0xFFFFFFFF } /- PRBS_ERR, R97 -/,
  { off := 0x080, ro := 0xFFFFFFFF, snap := 0xFFFFFFFF } /- PRBS_BITS_LO, R97 -/,
  { off := 0x084, ro := 0xFFFFFFFF, snap := 0xFFFFFFFF } /- PRBS_BITS_HI, R97 -/,
  { off := 0x088, ro := 0xFFFFFFFF, snap := 0xFFFFFFFF } /- TRAIN_CNT, R97 -/,
  { off := 0x090, ro := 0xFFFF0001, snap := 0xFFFF0000 } /- SENT_STAT, R97 -/]

/-- The block registers of the `LANE` pages, part 2. -/
def LANE.regs2 : List Reg := [
  { off := 0x094, ro := 0xFFFFFFFF, snap := 0xFFFFFFFF } /- SENT_ERR, R97 -/,
  { off := 0x098, ro := 0xFFFFFFFF, snap := 0xFFFFFFFF } /- SENT_BITS_LO, R97 -/,
  { off := 0x09C, ro := 0xFFFFFFFF, snap := 0xFFFFFFFF } /- SENT_BITS_HI, R97 -/]

/-- The block registers of the `LANE` pages. -/
def LANE.regs : List Reg := LANE.regs1 ++ LANE.regs2

/-- The block registers of the `DUD` pages, part 1. -/
def DUD.regs1 : List Reg := [
  { off := 0x040, rst := [0x2718], rws := 0xFF1F } /- CTL, R294 -/,
  { off := 0x044, rst := [0x186A0], rws := 0xFFFFF } /- WATCH, R294 -/,
  { off := 0x048, rst := [0xFF000000], ro := 0xFFFFFF0F } /- STAT, R294 -/,
  { off := 0x04C, ro := 0x1FFFF } /- OWN, R294 -/,
  { off := 0x050, ro := 0xFFFFFFFF } /- RING, R294 -/,
  { off := 0x054, ro := 0xFFFFFF } /- CAPS, R294 -/,
  { off := 0x058, ro := 0xFFFF } /- SPLIT, R294 -/,
  { off := 0x05C, ro := 0xFFFFFFFF, snap := 0xFFFFFFFF } /- CNT_RETRY, R294 -/,
  { off := 0x060, ro := 0xFFFFFFFF, snap := 0xFFFFFFFF } /- CNT_CRC, R294 -/,
  { off := 0x064, ro := 0xFFFFFFFF, snap := 0xFFFFFFFF } /- CNT_MISC, R294 -/,
  { off := 0x068, rst := [2], rw := 1, ro := 0xE } /- HB, R294 -/,
  { off := 0x070, n := 4, stride := 4, ro := 0xFFFFFFFF } /- LIVE, R294 -/,
  { off := 0x080, n := 4, stride := 4, ro := 0xFFFFFFFF } /- LOST, R294 -/,
  { off := 0x090, n := 4, stride := 4, ro := 0xFFFFFFFF } /- RESULT, R294 -/,
  { off := 0x0A0, n := 4, stride := 4, rw := 0xFFFFFFFF } /- SC_MASK, R294 -/,
  { off := 0x0B0, n := 8, stride := 8, rw := 0xFFFF } /- SC_REG, R294 -/,
  { off := 0x0B4, n := 8, stride := 8, rw := 0xFFFFFFFF } /- SC_DATA, R294 -/,
  { off := 0x0F0, ro := 0xFFFF } /- TEMP, R294 -/]

/-- The block registers of the `DUD` pages, part 2. -/
def DUD.regs2 : List Reg := [
  { off := 0x400, n := 128, stride := 8, rst := [0xFFFF0000], ro := 0xFFFFFFFF } /- SINK_A, R294 -/,
  { off := 0x404, n := 128, stride := 8, ro := 0xFF3F } /- SINK_B, R294 -/]

/-- The block registers of the `DUD` pages. -/
def DUD.regs : List Reg := DUD.regs1 ++ DUD.regs2

/-- The register table of every kind of page. -/
def PageType.regs : PageType → List Reg
  | .sys => SYS.regs
  | .time => TIME.regs
  | .flt => FLT.regs
  | .pwr => PWR.regs
  | .thm => THM.regs
  | .scal => SCAL.regs
  | .saf => SAF.regs
  | .grd => GRD.regs
  | .fw => FW.regs
  | .pair => PAIR.regs
  | .arb => ARB.regs
  | .mem => MEM.regs
  | .cmp => CMP.regs
  | .lyr => LYR.regs
  | .ovl => OVL.regs
  | .matte => MATTE.regs
  | .cad => CAD.regs
  | .gaf => GAF.regs
  | .diag => DIAG.regs
  | .dly => DLY.regs
  | .pe => PE.regs
  | .chk => CHK.regs
  | .reel => REEL.regs
  | .link => LINK.regs
  | .lane => LANE.regs
  | .dud => DUD.regs

/-- The block table of Scope and Conventions: the kind and the instance of a page number. -/
def pageOf (p : Nat) : Option (PageType × Nat) :=
  if p = 0x00 then some (.sys, 0) else if p = 0x01 then some (.time, 0) else if p = 0x02 then some (.flt, 0)
  else if p = 0x03 then some (.pwr, 0) else if p = 0x04 then some (.thm, 0) else if p = 0x05 then some (.scal, 0)
  else if p = 0x06 then some (.saf, 0) else if p = 0x07 then some (.grd, 0) else if p = 0x08 then some (.fw, 0)
  else if p = 0x09 then some (.pair, 0) else if p = 0x0A then some (.arb, 0) else if p = 0x0B then some (.mem, 0)
  else if p = 0x10 then some (.cmp, 0) else if 0x11 ≤ p ∧ p ≤ 0x18 then some (.lyr, p - 0x11)
  else if p = 0x19 then some (.ovl, 0) else if p = 0x1A then some (.matte, 0) else if p = 0x1B then some (.cad, 0)
  else if p = 0x1C then some (.gaf, 0) else if p = 0x1D then some (.diag, 0) else if p = 0x1E then some (.dly, 0)
  else if 0x20 ≤ p ∧ p ≤ 0x23 then some (.pe, p - 0x20) else if 0x28 ≤ p ∧ p ≤ 0x2F then some (.chk, p - 0x28)
  else if 0x30 ≤ p ∧ p ≤ 0x3F then some (.reel, p - 0x30) else if 0x40 ≤ p ∧ p ≤ 0x45 then some (.link, p - 0x40)
  else if 0x50 ≤ p ∧ p ≤ 0x67 then some (.lane, p - 0x50) else if 0x70 ≤ p ∧ p ≤ 0x7F then some (.dud, p - 0x70)
  else none

/-- The page number of instance 0 of a kind of page. -/
def PageType.base : PageType → Nat
  | .sys => 0x00
  | .time => 0x01
  | .flt => 0x02
  | .pwr => 0x03
  | .thm => 0x04
  | .scal => 0x05
  | .saf => 0x06
  | .grd => 0x07
  | .fw => 0x08
  | .pair => 0x09
  | .arb => 0x0A
  | .mem => 0x0B
  | .cmp => 0x10
  | .lyr => 0x11
  | .ovl => 0x19
  | .matte => 0x1A
  | .cad => 0x1B
  | .gaf => 0x1C
  | .diag => 0x1D
  | .dly => 0x1E
  | .pe => 0x20
  | .chk => 0x28
  | .reel => 0x30
  | .link => 0x40
  | .lane => 0x50
  | .dud => 0x70

/-- Every page number that the block table lists. -/
def allPages : List Nat := (List.range 0x80).filter (fun p => (pageOf p).isSome)

/-- The register of a table that lies at an offset, with the number of the instance. -/
def regAt (rs : List Reg) (off : Nat) : Option (Reg × Nat) :=
  match rs with
  | [] => none
  | r :: rest =>
    if r.off ≤ off ∧ (if r.n = 1 then off = r.off else (off - r.off) % r.stride = 0 ∧ (off - r.off) / r.stride < r.n) then
      some (r, if r.n = 1 then 0 else (off - r.off) / r.stride)
    else regAt rest off

/-- The reset word of instance `i` of a table entry. -/
def Reg.resetOf (r : Reg) (i : Nat) : Nat :=
  match r.rst with
  | [v] => v
  | vs => vs.getD i 0

/-- Page number of SYS. -/
def pgSys : Nat := 0x00
/-- Page number of TIME. -/
def pgTime : Nat := 0x01
/-- Page number of FLT. -/
def pgFlt : Nat := 0x02
/-- Page number of PWR. -/
def pgPwr : Nat := 0x03
/-- Page number of THM. -/
def pgThm : Nat := 0x04
/-- Page number of SCAL. -/
def pgScal : Nat := 0x05
/-- Page number of SAF. -/
def pgSaf : Nat := 0x06
/-- Page number of GRD. -/
def pgGrd : Nat := 0x07
/-- Page number of FW. -/
def pgFw : Nat := 0x08
/-- Page number of PAIR. -/
def pgPair : Nat := 0x09
/-- Page number of ARB. -/
def pgArb : Nat := 0x0A
/-- Page number of MEM. -/
def pgMem : Nat := 0x0B
/-- Page number of CMP. -/
def pgCmp : Nat := 0x10
/-- Page numbers of LYR. -/
def pgLyr (i : Nat) : Nat := 0x11 + i % 8
/-- Page number of OVL. -/
def pgOvl : Nat := 0x19
/-- Page number of MATTE. -/
def pgMatte : Nat := 0x1A
/-- Page number of CAD. -/
def pgCad : Nat := 0x1B
/-- Page number of GAF. -/
def pgGaf : Nat := 0x1C
/-- Page number of DIAG. -/
def pgDiag : Nat := 0x1D
/-- Page number of DLY. -/
def pgDly : Nat := 0x1E
/-- Page numbers of PE. -/
def pgPe (i : Nat) : Nat := 0x20 + i % 4
/-- Page numbers of CHK. -/
def pgChk (i : Nat) : Nat := 0x28 + i % 8
/-- Page numbers of REEL. -/
def pgReel (i : Nat) : Nat := 0x30 + i % 16
/-- Page numbers of LINK. -/
def pgLink (i : Nat) : Nat := 0x40 + i % 6
/-- Page numbers of LANE. -/
def pgLane (i : Nat) : Nat := 0x50 + i % 24
/-- Page numbers of DUD. -/
def pgDud (i : Nat) : Nat := 0x70 + i % 16

end Sys2Proof.Machine
end

