-- ==== Sys2Proof/Machine/SMap.lean ====
section
/-! DEFINITION. Sparse maps in one canonical form: register files, DRAM, flash and every other store
that is addressed by number. -/

namespace Sys2Proof.Machine

/-- A sparse store: its listed entries by rising key; every other key reads as the store's default. -/
abbrev SMap (V : Type) := List (Nat × V)

/-- The entry listed under a key. -/
def SMap.find? {V : Type} (m : SMap V) (k : Nat) : Option V :=
  match m with
  | [] => none
  | (k', v) :: r => if k' = k then some v else SMap.find? r k

/-- Reading a key: an unlisted key reads as the default. -/
def SMap.read {V : Type} (d : V) (m : SMap V) (k : Nat) : V := (SMap.find? m k).getD d

/-- Listing an entry, at its place in the order. -/
def SMap.put {V : Type} (m : SMap V) (k : Nat) (v : V) : SMap V :=
  match m with
  | [] => [(k, v)]
  | (k', v') :: r =>
    if k < k' then (k, v) :: (k', v') :: r
    else if k' = k then (k, v) :: r
    else (k', v') :: SMap.put r k v

/-- Unlisting a key. -/
def SMap.del {V : Type} (m : SMap V) (k : Nat) : SMap V := m.filter (fun e => e.1 != k)

/-- Writing a key: writing the default unlists it, so that equal stores are equal data. -/
def SMap.write {V : Type} [DecidableEq V] (d : V) (m : SMap V) (k : Nat) (v : V) : SMap V :=
  if v = d then SMap.del m k else SMap.put m k v

/-- Keeping the entries outside `lo ≤ key < hi`. -/
def SMap.clear {V : Type} (m : SMap V) (lo hi : Nat) : SMap V :=
  m.filter (fun e => e.1 < lo || hi ≤ e.1)

/-- The entries with `lo ≤ key < hi`. -/
def SMap.range {V : Type} (m : SMap V) (lo hi : Nat) : SMap V :=
  m.filter (fun e => lo ≤ e.1 && e.1 < hi)

/-- The keys rise strictly and no entry equals the default of its key. -/
def SMap.wf {V : Type} [DecidableEq V] (d : Nat → V) : SMap V → Bool
  | [] => true
  | (k, v) :: r =>
    decide (v ≠ d k) && r.all (fun e => decide (k < e.1)) && SMap.wf d r

end Sys2Proof.Machine
end

