-- ==== Sys2Proof/Machine/State.lean ====
section
/-! DEFINITION. The state of the WZ1024: every register page with its header, and behind the pages the state that the
chapters give each block. Times are whole nanoseconds of the model's own clock `mono`, which starts at
the last power-on or device reset, unless a field says otherwise. -/

namespace Sys2Proof.Machine

/-! ### Register pages (chapter 02) -/

/-- A command that a page is executing (R48, R50). -/
structure Running where
  opcode : Nat
  arg : Nat
  issuer : Nat
deriving DecidableEq, Repr

/-- A commit that has validated and waits for its boundary (R37, R38): the boundary kind of R35, the deferrals so far,
and whether it belongs to the pending group of R41. -/
structure PendCommit where
  boundary : Nat
  defers : Nat
  inGroup : Bool
  /-- A COMMIT message has told the partner of it (R485). -/
  mirrored : Bool := false
deriving DecidableEq, Repr

/-- The common header of a page (R30 to R58) as far as it is state. -/
structure Hdr where
  view : Bool := false
  /-- Master ID of the lock's holder (R44). -/
  owner : Option Nat := none
  /-- The instant at which the lease runs out. -/
  leaseEnd : Nat := 0
  boundary : Nat := 0
  commitState : Nat := 0
  commitReason : Nat := 0
  gen : Nat := 0
  pend : Option PendCommit := none
  dirty : Bool := false
  /-- An RWS register has been written since the pending commit was captured. -/
  dirtyAfter : Bool := false
  lost : Bool := false
  cmdState : Nat := 0
  cmdOpcode : Nat := 0
  cmdReason : Nat := 0
  cmdIssuer : Nat := 0
  run : Option Running := none
  evt : Word := 0
  evtEn : Word := 0
  missCount : Nat := 0
  missBit : Nat := 0
  usage : Nat := 0
  fault : Nat := 0
  usageCopy : Nat := 0
  faultCopy : Nat := 0
  snapBusy : Bool := false
  snapSeq : Nat := 0
deriving DecidableEq, Repr

/-- A group commit that waits for its boundary (R41, R42). -/
structure GroupPend where
  pages : List Nat
  boundary : Nat
  defers : Nat
deriving DecidableEq, Repr

/-- The register file: values in effect, shadows, captured pending sets and snapshot copies, keyed by
`0x1000 × page + offset`, and the page headers, keyed by page number. -/
structure Pages where
  eff : SMap Word := []
  shd : SMap Word := []
  pnd : SMap Word := []
  snp : SMap Word := []
  hdr : SMap Hdr := []
  group : Option GroupPend := none
deriving DecidableEq, Repr

/-- A register access as a master issued it, and whether it is an entry of a CONTROL request (R27, R60, R61, R118). -/
structure Access where
  master : Nat
  write : Bool
  addr : Nat
  data : Word
  ctl : Bool := false
deriving DecidableEq, Repr

/-! ### Serial lanes (chapter 03) and links (chapter 04) -/

/-- What a lane's receiver took from the last accepted leader message (R80). -/
structure LeaderInfo where
  version : Nat
  deviceId : Nat
  link : Nat
  position : Nat
  ack : Bool
  maxRate : Nat
  precode : Bool
  snf : Bool
  challenge : Nat
deriving DecidableEq, Repr

/-- A lane's receiver and transmitter beside its page (R72 to R95, R103, R105). -/
structure LaneSt where
  signal : Bool := false
  lock : Bool := false
  validRun : Nat := 0
  ackRun : Nat := 0
  leader : Option LeaderInfo := none
  readySent : Bool := false
  readyRcvd : Bool := false
  passed : Bool := false
  confRcvd : Bool := false
  /-- FOM windows since TUNE was entered: instant and value, latest first (R82). -/
  fomHist : List (Nat × Nat) := []
  /-- A window of CONFIRM fell below CONFIRM. -/
  fomBad : Bool := false
  /-- Since when every window of RUN fell below FAIL (R77). -/
  failSince : Option Nat := none
  /-- A CTLE step on trial: the step before it, its direction and the FOM before it (R75). -/
  trial : Option (Nat × Bool × Nat) := none
  blockUp : Nat := 0
  blockDown : Nat := 0
  aligned : Bool := false
  goodMarkers : Nat := 0
  badMarkers : Nat := 0
  badSkew : Nat := 0
  skew : Nat := 0
  /-- The checker's lock, and the instant up to which its bits are counted (R92). -/
  countedTo : Option Nat := none
  /-- Bits of an INJECT burst in progress (R95). -/
  inject : Option Nat := none
  /-- The sentinel checker's last 31 bits, newest in bit 0 (R91). -/
  sentinel : Option Nat := none
deriving DecidableEq, Repr

/-- The training state machine of a link (R82). The state itself stands in `TRAIN_STAT` of its lanes. -/
structure TrainSt where
  since : Nat := 0
  dwellEnd : Nat := 0
  dwellOver : Bool := true
  agreed : Nat := 0
  ownNonce : Nat := 0
  partnerNonce : Nat := 0
  lastRunPartner : Option Nat := none
  runSince : Nat := 0
deriving DecidableEq, Repr

/-- An entry of the replay cache (R119). -/
structure Replay where
  txn : Nat
  reqTime : Nat
  op : Nat
  resp : List (Nat × Nat)
  at_ : Nat
deriving DecidableEq, Repr

/-- An open VIDEO burst (R110 to R113): the links it is forwarded on; whether it is addressed to this device and, if it is
written, its first block and tag; its window, FRAME, EOF and COUNT; and the data cells seen. -/
structure Burst where
  fwd : List Nat
  addressed : Bool
  write : Option (Nat × Nat)
  win : Nat
  frame : Nat
  eof : Bool
  count : Nat
  seen : Nat
deriving DecidableEq, Repr

/-- A CONTROL request in execution (R118): its TXN, REQ_TIME, OP and STOP, the entries to come as address and data, and
the results so far as data and status. -/
structure CtlRun where
  txn : Nat
  reqTime : Nat
  op : Nat
  stop : Bool
  todo : List (Nat × Nat)
  done : List (Nat × Nat)
deriving DecidableEq, Repr

/-- A link beside its page (R112 to R128). -/
structure LinkSt where
  /-- When UP_AUTH_WAIT was entered or the running exchange started, and the key it uses (R127, R129). -/
  authSince : Nat := 0
  authKey : Option Nat := none
  exchanging : Bool := false
  ownNonce : Nat := 0
  partnerNonce : Nat := 0
  replay : List Replay := []
  /-- A burst for this device has arrived since the last boundary (R126). -/
  burstSeen : Bool := false
  /-- Open bursts by handle (R110). -/
  bursts : SMap (Option Burst) := []
  /-- Accepted requests that have not ended, oldest first: an access of the first is held (R61, R118). -/
  ctl : List CtlRun := []
deriving DecidableEq, Repr

/-- A block that waits in the INGEST buffer (R115), with the window it completes, if it is the last of an EOF burst. -/
structure IngestBlk where
  block : Nat
  data : Nat
  tag : Nat
  link : Nat
  completes : Option (Nat × Nat)
deriving DecidableEq, Repr

/-- What the links share: the installation key in non-volatile storage, the LINK4 session key, upstream selection, the
upward queue and the INGEST buffer. A queued message is its priority, its origin and its cells. -/
structure TransportSt where
  key : Option Nat := none
  session : Option Nat := none
  commandPending : Bool := false
  lossRun : Nat := 0
  prefUsableSince : Option Nat := none
  upward : List (Nat × List Nat) := []
  ingest : List IngestBlk := []
deriving DecidableEq, Repr

/-! ### System time, slots and takes (chapter 05) -/

/-- What a device knows of the SYNC cells of one link (R137 to R139): its own last SYNC cells with their timestamps,
latest first, the last cell received, and how many cells in a row the link has missed. Timestamps count 2⁻¹⁶ ns. -/
structure SyncSt where
  txSeq : Nat := 0
  sent : List (Nat × Nat) := []
  rxAt : Nat := 0
  rxSeq : Nat := 0
  rxSeen : Bool := false
  hops : Nat := 31
  rootId : Nat := 0
  locked : Bool := false
  /-- Last offset measured on the link, in ps (R139, R491). -/
  offset : Int := 0
deriving DecidableEq, Repr

/-- A clapper input (R148): the accepted phases in the average, latest first, in 2⁻¹⁶ ns after the boundary. -/
structure ClapSt where
  phases : List Nat := []
  rejects : Nat := 0
  noEdge : Nat := 0
  counted : Bool := false
deriving DecidableEq, Repr

/-- A set of slot phases that waits for its frame (R149); a phase counts 1/64 ns. -/
structure PhaseSet where
  applyFrame : Nat
  valid : Nat
  phases : List Nat
deriving DecidableEq, Repr

/-- System time and what hangs on it. `sys` and `origin` count 2⁻¹⁶ ns. -/
structure TimeSt where
  sys : Nat := 0
  origin : Nat := 0
  /-- Boundaries since ORIGIN, and the frame number at ORIGIN (R145). -/
  k : Int := 0
  frame0 : Nat := 0
  syncs : SMap SyncSt := []
  goodRun : Nat := 0
  badRun : Nat := 0
  lastExchange : Nat := 0
  holdover : Nat := 0
  claps : SMap ClapSt := []
  /-- The latest start taken up for each followed slot, in 1/64 ns, keyed by slot (R148). -/
  latest : SMap (Option Nat) := []
  /-- The followed starts in force, in 1/64 ns, keyed by slot (R149). -/
  phases : SMap (Option Nat) := []
  phaseSets : List PhaseSet := []
  phaseLast : Option PhaseSet := none
  modeGen : Nat := 0
  /-- Something failed a condition of R157 since the last boundary. -/
  disturbed : Bool := false
  stillExit : Bool := false
  /-- Frames delivered in still mode are none; the last frame computed before it (R157). -/
  frameDone : Bool := false
  /-- Some port delivers codes in this frame, so that FRAME_DONE is awaited. -/
  frameAwaited : Bool := false
  frameLate : Bool := false
  underrun : Bool := false
  /-- Latest signature of each tile, the run of equal ones, and the seed of the last frame (R159). -/
  sigs : SMap Nat := []
  sigRun : SMap Nat := []
  sigSeen : Nat := 0
  seed : Nat := 0
  /-- The seed changed at the last boundary. -/
  seedChanged : Bool := false
  /-- Blanking of the present frame has begun (R151). -/
  blanking : Bool := false
  /-- Start of the present frame on the model's clock. -/
  boundaryAt : Nat := 0
deriving DecidableEq, Repr

/-! ### Composition (chapter 06) -/

/-- A window completion (R114): the window, the instant its last block was written or dropped, and its FRAME. -/
structure Completion where
  window : Nat
  at_ : Nat
  frame : Nat
deriving DecidableEq, Repr

/-- A window's latest latched completion (R23, R166): its place in the order of completions, and its FRAME. -/
structure Latched where
  order : Nat
  frame : Nat
deriving DecidableEq, Repr

/-- A window selection in force for a frame, with the window's values in force at the boundary (R166). -/
structure WinSel where
  window : Nat
  base : Nat
  size : Nat
  tag : Nat
deriving DecidableEq, Repr

/-- The compositor beside its pages. -/
structure CmpSt where
  /-- Completions that no boundary has latched yet, oldest first (R23). -/
  waiting : List Completion := []
  /-- The latest latched completion of each window. -/
  latched : SMap (Option Latched) := []
  /-- Completions counted so far, which orders them in time. -/
  order : Nat := 0
  /-- The windows that latched a new completion at the last boundary (R184, R156). -/
  newly : Nat := 0
  /-- Selections for this frame, keyed 4 × layer + take (R166). -/
  sels : SMap (Option WinSel) := []
  /-- Replaced MEMORY-mode surfaces whose last read is outstanding, by layer (R189). -/
  retiring : SMap (Option Nat) := []
  /-- The row pair from which a layer is transparent in this frame, by layer; 512: none (R187). -/
  gone : SMap Nat := []
  /-- Layers whose tag mismatch has counted in this frame (R187). -/
  early : Nat := 0
  /-- Composite pixels of this frame that were not ready, as take × 2²⁰ + pixel index (R192). -/
  late : List Nat := []
  /-- Row pairs of this frame that were produced by its end (R192). -/
  produced : Nat := 512
  /-- The last composite pixel supplied, keyed 4 × engine + take, each channel 24 bits (R192). -/
  last : SMap Nat := []
  /-- Takes composed in the frame before this one. -/
  takesBefore : Nat := 0
  /-- Takes of the frame being composed. -/
  takesNow : Nat := 0
  /-- CAPTURE has been issued and no frame has been captured for it yet (R196). -/
  armed : Bool := false
  /-- The frame that the capture in progress takes (R196). -/
  capturing : Option Nat := none
  /-- The overlay library: 65,536 words of protected SRAM (R178). -/
  lib : SMap Word := []
deriving DecidableEq, Repr

/-! ### Photometric correction (chapter 07) -/

/-- A rebuild in progress (R218 to R220): the phases of its tiles are fixed, and the buffer it writes is named. -/
structure Rebuild where
  wear : Bool
  wearDone : Bool
  buffer : Nat
  start : Nat
  /-- The instant at which every record of the new buffer was written. -/
  written : Option Nat
  /-- MGT started it (R536). -/
  mgt : Bool := false
  /-- It reads the staging copy, which becomes live with it (R228). -/
  swap : Bool := false
deriving DecidableEq, Repr

/-- What a caddy copy in progress copies (R228). -/
inductive CopyKind where
  | writeUser (tiles : Nat)
  | restore
  | back
deriving DecidableEq, Repr

/-- CAD and the pixel engines beside their pages. -/
structure CadSt where
  /-- Tile temperatures in 1/16 °C, as 16-bit fields, and when each tile last had a valid report (R216). -/
  temp : SMap Nat := []
  tempAt : SMap (Option Nat) := []
  /-- The latest valid temperature of each sink, keyed 128 × tile + sink. -/
  sinkTemp : SMap (Option Nat) := []
  /-- Temperatures used at the last rebuild. -/
  tempUsed : SMap Nat := []
  rebuild : Option Rebuild := none
  /-- A trigger waits: none, or whether its rebuild includes a wear phase (R219). -/
  due : Option Bool := none
  /-- The waiting trigger is of class Content. -/
  dueContent : Bool := false
  /-- A command of MGT is the trigger that waits (R536). -/
  dueMgt : Bool := false
  lastStart : Option Nat := none
  lastWear : Nat := 0
  /-- The LFSR of each engine (R221). -/
  lfsr : SMap (BitVec 64) := []
  /-- The dose frame of the present period: the start of the period, the offset, and whether it has been taken. -/
  dosePeriod : Nat := 0
  doseOffset : Nat := 0
  doseTaken : Bool := false
  /-- The present frame is the dose frame. -/
  doseNow : Bool := false
  doseStarted : Bool := false
  /-- The factory caddy failed its check at load (R227). -/
  factoryBad : Bool := false
  copy : Option CopyKind := none
  /-- APPLY_USER or RESTORE_FACTORY waits for its exchange (R228). -/
  exchange : Bool := false
  /-- The factory caddy has been loaded into DRAM (R229). -/
  sourceLoaded : Bool := false
  /-- The one-time-programmable bit FACTORY_SEALED, and the sixteen values stored with the caddy in flash (R227). -/
  seals : SMap Nat := []
  /-- Drive values d′ of the last frame computed, keyed 4 × emitter + take (R221). -/
  drive : SMap Nat := []
  /-- Codes of the frame being computed and of the frame handed to the ports: 4 × *n* + *r*, keyed 4 × emitter + take;
  an unlisted emitter has n = 0, r = 3 (R211, R229). -/
  codes : SMap Nat := []
  shown : SMap Nat := []
  /-- Tiles that are computed in this frame, and those whose codes of it are complete (R16, R159). -/
  computing : Nat := 0
  done : Nat := 0
  /-- Tiles whose residuals read 0 in this frame (R212). -/
  freshTiles : Nat := 0
  /-- DRIVE_SAT moved in this frame, by engine (R233). -/
  satSeen : Nat := 0
deriving DecidableEq, Repr

/-! ### Mattes (chapter 08) -/

/-- What a tap shows to GRD: the engine's own frame is the frame number (R253). -/
structure MatteSt where
  /-- Members of each zone in a verified copy, keyed 64 × copy + zone (R249). -/
  counts : SMap Nat := []
  /-- Borrowing pixel-banks of the frame being computed and of the frame before it (R241). -/
  borrowNow : Nat := 0
  borrowSeen : Bool := false
deriving DecidableEq, Repr

/-! ### Dudun rings and tile supplies (chapter 09) -/

/-- What a port knows of a sink beside its registers (R274, R275, R277). -/
structure SinkSt where
  serial : Nat := 0
  epoch : Nat := 0
  owned : Bool := false
  owner : Nat := 0
  side : Nat := 0
  minRow : Nat := 0
  maxTakes : Nat := 4
  maxMul : Nat := 31
  cols : Nat := 48
  rows : Nat := 64
deriving DecidableEq, Repr

/-- What a port is doing on its ring beside delivery (R277, R284, R287, R288, R296). -/
inductive RingOpKind where
  | enumerate
  /-- CLAIM of a range of sinks, by command or at PAIR's direction (R287, R496, R500). -/
  | claim (lo hi : Nat) (byCommand : Bool)
  | query (byCommand : Bool)
  /-- SEND_CONFIG with its entries, as (REG, DATA). -/
  | sendConfig (entries : List (Nat × Nat))
  | readmit (byCommand : Bool)
  /-- The slot map of a new mode (R283), with APPLY. -/
  | slotMap (apply : Nat)
  /-- Watch and phases sent anew after a commit (R289, R294). -/
  | config
  | dark
deriving DecidableEq, Repr

/-- A ring operation: its phase, the sinks asked (none: they are not known yet), those that have answered OK, those that
have answered otherwise, and whether the command has been sent a second time (R284). -/
structure RingOp where
  kind : RingOpKind
  phase : Nat := 0
  targets : Option Nat := none
  answered : Nat := 0
  refused : Nat := 0
  retried : Bool := false
  sentAt : Nat := 0
  /-- RTT as measured by the QUERY (R277). -/
  rtt : Nat := 0
  rttSink : Option Nat := none
  /-- The NEXT_ADDR of the looped ENUM (R277). -/
  looped : Option Nat := none
  /-- Sinks that have passed the earlier phases (R288). -/
  passed : Nat := 0
deriving DecidableEq, Repr

/-- A port beside its page. Sets of sinks are 128-bit masks. -/
structure DudSt where
  live : Nat := 0
  lost : Nat := 0
  /-- Sinks that the port owns. -/
  owned : Nat := 0
  sinks : SMap SinkSt := []
  /-- Operations in progress, oldest first. -/
  ops : List RingOp := []
  /-- The frame whose codes the port delivers, with its T (R280). -/
  delivering : Option Nat := none
  takes : Nat := 1
  /-- The tally round: 0 none, 1, 2; sinks awaited, sinks found incomplete, and the groups each of these lacks (R281). -/
  round : Nat := 0
  awaited : Nat := 0
  incomplete : Nat := 0
  missing : SMap Nat := []
  /-- Every live sink is complete for the frame delivered. -/
  complete : Bool := false
  /-- Readmitted sinks that rejoin at the next boundary (R288). -/
  rejoin : Nat := 0
  /-- The tile was disabled at the last boundary: DARK goes out at the next (R16). -/
  darkDue : Bool := false
  /-- The range that the partner owns is claimed back at the next boundary (R500). -/
  joinDue : Bool := false
  /-- Block lock of the port's receiver (R262). -/
  locked : Bool := true
  /-- When the last packet was sent or received (R493, R494). -/
  lastTx : Nat := 0
  lastRx : Nat := 0
deriving DecidableEq, Repr

/-- A PMBus transaction (R291): the rail, the command code, the data of a write, and whether it has been retried; an
alert answer names no rail. -/
structure PmbTxn where
  rail : Nat
  code : Nat
  data : Nat := 0
  /-- Issued by READ_STATUS (R299). -/
  byCommand : Bool := false
  retry : Bool := false
  alert : Bool := false
  /-- When its first attempt failed (R293). -/
  failedAt : Nat := 0
deriving DecidableEq, Repr

/-- The gaffer beside its page. -/
structure GafSt where
  /-- Least valid headroom since the last step, by rail; 0xFFFF: none (R292). -/
  headroom : SMap Nat := []
  /-- Transactions of each segment, oldest first; the first is on the bus (R290, R291). -/
  queues : SMap (List PmbTxn) := []
  /-- Failed transactions that wait for their retry (R293). -/
  retries : List PmbTxn := []
  /-- A read of the running READ_STATUS has failed twice (R299). -/
  readFailed : Bool := false
  lastStep : Nat := 0
  lastPoll : Nat := 0
  lastStatus : Nat := 0
deriving DecidableEq, Repr


/-! ### Emitter diagnosis (chapter 10) -/

/-- An emitter that waits for a probe (R311, R312). -/
structure DueProbe where
  emitter : Nat
  age : Nat
  second : Bool
deriving DecidableEq, Repr

/-- An unanswered DIAG_REQ: the sink, its rows, and the frame in which it was sent (R307, R312). -/
structure DiagReq where
  tile : Nat
  sink : Nat
  rows : Nat
  frame : Nat
deriving DecidableEq, Repr

/-- A change to the fault list: the emitter, its new code (0: it leaves), when it was posted (R315), and for a change that
the partner mirrored, the frame whose boundary applies it (R488). -/
structure ListChange where
  emitter : Nat
  code : Nat
  at_ : Nat
  frame : Option Nat := none
deriving DecidableEq, Repr

/-- The codes that were lit or are to be lit with a frame (R306), keyed as `CadSt.codes`. -/
structure HeldCodes where
  frame : Nat
  codes : SMap Nat
deriving DecidableEq, Repr

/-- DIAG beside its page. -/
structure DiagSt where
  /-- The fault list in force: code 1 or 2 by emitter (R315). -/
  inForce : SMap Nat := []
  /-- Changes that no boundary has applied yet, oldest first. -/
  posted : List ListChange := []
  held : List HeldCodes := []
  requests : List DiagReq := []
  due : List DueProbe := []
  /-- The frame of the pulse in flight, by emitter (R312). -/
  inFlight : SMap (Option Nat) := []
  /-- PROBE packets sent in this frame, by port (R311). -/
  probesSent : SMap Nat := []
  reports : List (List Nat) := []
  /-- Rows visited in the present sweep, as masks keyed 128 × tile + sink. -/
  visited : SMap Nat := []
  /-- What each sink did in the present sweep, keyed 128 × tile + sink: requests asked and answered, CRC errors and OT
  reports of its tallies (R316). -/
  asked : SMap Nat := []
  answered : SMap Nat := []
  crcSeen : SMap Nat := []
  otSeen : SMap Nat := []
  /-- Frames in which a sink reported OT (R307). -/
  otFrame : SMap (Option Nat) := []
  /-- The MATTE values in force during the frame before this one (R310), keyed by address. -/
  mattePrev : SMap Word := []
  /-- Tiles that INIT_MAP has covered since the last commit of MAP_BASE or MAP_TAG (R319). -/
  covered : Nat := 0
  /-- Tiles on which INIT_MAP runs (R309). -/
  initTiles : Nat := 0
deriving DecidableEq, Repr

/-! ### Memory and arbitration (chapter 11) -/

/-- DRAM: bytes by byte address, and per block of 32 bytes the surface tag, the POISON bit and the bits of the stored
BC288 codeword that have flipped since it was written (R325, R326, R361, R362). -/
structure DramSt where
  bytes : List Host.Cell := []
  tags : SMap Nat := []
  poison : SMap Bool := []
  flips : SMap Nat := []
deriving DecidableEq, Repr

/-- MEM beside its page. -/
structure MemSt where
  /-- Admitted transfers of each channel, oldest first, as pair numbers (R331). -/
  queues : SMap (List Nat) := []
  /-- The open row of each bank, keyed 16 × channel + bank, and when it was last used (R331). -/
  rows : SMap (Option Nat) := []
  rowUsed : SMap Nat := []
  /-- Check columns in each channel's check cache, latest first (R328). -/
  checkCache : SMap (List Nat) := []
  /-- End of the refresh stall in progress, and when the next refresh falls due (R335). -/
  stallEnd : Nat := 0
  refreshDue : Nat := 0
  /-- The last DQS oscillator reading (R334). -/
  dqsRead : Option Nat := none
  /-- A demand for an MR4 read waits for the next refresh stall (R336, R449). -/
  mr4Due : Bool := false
  /-- Boundaries that SWITCH_SET has waited (R339). -/
  windowWait : Nat := 0
  /-- The set that TRAIN_SET trains (R340). -/
  training : Option Nat := none
  /-- The repair queue, and corrected pairs that wait for their write-back
  (R341 to R344). -/
  repair : List Nat := []
  writeBack : List Nat := []
deriving DecidableEq, Repr

/-- What occupies the port in a cycle (R348 to R350). -/
inductive PortUse where
  | idle
  | first (req : Nat)
  | second (req : Nat)
deriving DecidableEq, Repr

/-- What ARB has decided for the next cycle. -/
inductive Grant where
  | none_
  /-- A new grant, with the rank at which the requester won. -/
  | grant (req rank : Nat)
  | keep (req : Nat)
deriving DecidableEq, Repr

/-- ARB beside its page. -/
structure ArbSt where
  /-- Requests and URGENT states seen in the cycle before, by requester (R349). -/
  seenReq : Nat := 0
  seenUrgent : Nat := 0
  use : PortUse := .idle
  decided : Grant := .none_
  /-- Round-robin pointers, keyed 8 × URGENT + PRIO. -/
  pointers : SMap Nat := []
  /-- When each requester was first seen URGENT, for its latency (R354, R355). -/
  urgentAt : SMap (Option Nat) := []
  /-- Requesters whose STARVE stands. -/
  starved : Nat := 0
  /-- Sixteenths of a nanosecond that the port clock is ahead of the model's clock. -/
  sub : Nat := 0
  /-- The next of SCRUB, SPLICE and DLY (R346). -/
  bgTurn : Nat := 0
deriving DecidableEq, Repr

/-! ### Faults, check channels and reels (chapter 12) -/

/-- One error as a source records it (R369). Classes: 0 CORR, 1 DROP, 2 USAGE, 3 SAFETY, 4 FATAL. -/
structure ErrRec where
  src : Nat
  cls : Nat
  typ : Nat := 0
  space : Nat := 0
  addr : Nat := 0
  master : Nat := 0
  synd : Nat := 0
  kind : Nat := 0
  count : Nat := 1
deriving DecidableEq, Repr

/-- What stands behind the FLT page: the errors that sources with a broken wire hold back, one record for each source and
class (R367, R368). -/
structure FltSt where
  held : List ErrRec := []
deriving DecidableEq, Repr

/-- A check-value channel: the CRC register (R377). -/
structure ChkSt where
  crc : Nat := 0xFFFFFFFF
deriving DecidableEq, Repr

/-- A reel: its positions, as word offsets in its region, each held twice, the second copy as the complement of the first
(R385); the open packet; the committed packets' lengths, oldest first; the read position and the mark. -/
structure ReelSt where
  rd : BitVec 16 := 0
  wr : BitVec 16 := 0
  cm : BitVec 16 := 0
  rdC : BitVec 16 := 0xFFFF
  wrC : BitVec 16 := 0xFFFF
  cmC : BitVec 16 := 0xFFFF
  openLen : Nat := 0
  /-- After TOO_LONG, words up to the next END or ABORT are discarded (R381). -/
  discard : Bool := false
  packets : List Nat := []
  pos : Nat := 0
  mark : Option Nat := none
  poisonRead : Bool := false
  /-- SRAM blocks of the head whose poison has been reported (R384). -/
  poisonSeen : List Nat := []
  /-- Packets of a hardware producer that wait for space (R381). -/
  stalled : List (List Nat) := []
deriving DecidableEq, Repr

/-- The queue SRAM: 65,536 words, and the numbers of its poisoned blocks of eight words (R364, R384). -/
structure QueueSram where
  words : SMap Word := []
  poison : List Nat := []
deriving DecidableEq, Repr


/-! ### Safety (chapter 13) -/

/-- The group states of R394. -/
inductive GState where
  | start | safe | ready | closing | permit | opening | lockout
deriving DecidableEq, Repr

/-- A contactor group (R394, R410 to R412). -/
structure GroupSt where
  state : GState := .start
  /-- When the group entered its state; in OPENING, the trip instant. -/
  since : Nat := 0
  /-- The lockout cause with which an OPENING ends in LOCKOUT (R398); 0 none. -/
  lockCause : Nat := 0
  /-- Switches A and B closed (R410). -/
  swA : Bool := false
  swB : Bool := false
  /-- Readbacks (R410): high. -/
  mid : Bool := false
  outp : Bool := false
  /-- FB reads high: the contactor shows open (R412). -/
  fbOpen : Bool := false
  fbSince : Nat := 0
  /-- A self-test is running since this instant (R429). -/
  testing : Option Nat := none
deriving DecidableEq, Repr

/-- A demand input (R400, R401): the raw levels of its two pins, and since when a pin is low and the pins differ. -/
structure InputSt where
  pinA : Bool := false
  pinB : Bool := false
  lowA : Nat := 0
  lowB : Nat := 0
  differ : Nat := 0
  /-- When the commit that set its EN applied. -/
  enSince : Nat := 0
  demA : Bool := false
  demB : Bool := false
deriving DecidableEq, Repr

/-- A receive connection (R402): the last acceptance, and whether it was alive at HANDOVER_BEGIN. -/
structure ConnSt where
  lastAccept : Nat := 0
  wasAlive : Bool := false
deriving DecidableEq, Repr

/-- What SAF and GRD hold beside their pages. -/
structure SafeSt where
  groups : SMap GroupSt := []
  inputs : SMap InputSt := []
  conns : SMap ConnSt := []
  /-- SAFE_RESET after its debounce (R414): level, the last edges, the groups in READY at the rising edge, whether the
  rise followed 50 ms of low, and whether the present high was rejected. -/
  rstHigh : Bool := false
  rstRise : Nat := 0
  rstFall : Nat := 0
  rstReady : Nat := 0
  rstQual : Bool := false
  rstRejected : Bool := false
  rstLowHeld : Bool := false
  xinHigh : Bool := false
  /-- The end of an open handover window, 50 ms after HANDOVER_BEGIN (R422, R423). -/
  handover : Option Nat := none
  /-- A valid ALIVE write has landed since HANDOVER_BEGIN (R423). -/
  aliveInWindow : Bool := false
  /-- GRD times ALIVE: the last ALIVE write, or none while the next write counts as a first write (R425). -/
  aliveAt : Option Nat := none
  lastStatus : Nat := 0
  msgRefused : Bool := false
  /-- The payload of the MESSAGE whose commit waits for its boundary (R403). -/
  msgNext : Option Nat := none
  /-- The payload of a MESSAGE that waits until the OVL page has no commit pending (R403). -/
  msgWait : Option Nat := none
  /-- The frame from which SAF checks the message in force (R409). -/
  msgFrom : Nat := 0
  /-- Running sums of the zones, keyed 4 × zone + take (R405). -/
  sums : SMap Nat := []
  /-- ZCAP and ZCOUNT as in force at the last boundary, keyed by zone: EN in bit 31 of the first (R405). -/
  zcap : SMap Nat := []
  zcount : SMap Nat := []
  /-- Engines whose end-of-frame mark has come in this frame (R407). -/
  marks : Nat := 0
  /-- Groups in PERMIT at the last boundary, and at the one before it (R569). -/
  permitNow : Nat := 0
  permitPrev : Nat := 0
deriving DecidableEq, Repr

/-! ### Power domains and temperature (chapter 14) -/

/-- A transition of a domain (R438, R439, R570): the state it ends in, the state it comes from, when it started, and for an
entry that will be abandoned who asked for it. -/
structure Trans where
  target : Nat
  source : Nat
  start : Nat
  /-- Marked LOST by a brown-out: the exit runs as from OFF (R446). -/
  lost : Bool := false
  abandon : Option Nat := none
deriving DecidableEq, Repr

/-- PWR beside its page. -/
structure PwrSt where
  trans : SMap (Option Trans) := []
  /-- Queued requests: state and requester (R442). -/
  queued : SMap (Option (Nat × Nat)) := []
  /-- Held exits and their requesters (R436). -/
  held : SMap (Option Nat) := []
  /-- When the last domain left ON (R444). -/
  allOffAt : Nat := 0
  lastGuard : Nat := 0
deriving DecidableEq, Repr

/-- THM beside its page: the sensors of the running conversion, and the union of the demands that wait (R449). -/
structure ThmSt where
  converting : Nat := 0
  waiting : Option (Nat × Bool) := none
  /-- Reference readings for the rates, with their times (R453). -/
  ref : SMap (Option (Nat × Nat)) := []
deriving DecidableEq, Repr

/-! ### Self-calibration (chapter 15) -/

/-- The trim of an island's oscillator and its temperature coefficient, and the temperature the trim in use follows (R455,
R463). -/
structure OscSt where
  trim : Nat
  coef : Nat
  temp : Nat
deriving DecidableEq, Repr

/-- A run of a unit (R465): the next step, 0 for the spare and 1 + *m* for member *m*, and what it has found. -/
structure ScalRun where
  unit : Nat
  next : Nat := 0
  failed : Bool := false
  counted : Bool := false
  cal : Option (Nat × Nat) := none
deriving DecidableEq, Repr

/-- SCAL beside its page. -/
structure ScalSt where
  run : Option ScalRun := none
  /-- Units that have completed a run since reset, and when each last ran. -/
  completed : Nat := 0
  lastRun : SMap Nat := []
  /-- Interpolator tables in 1/64 ps: members 0 to 63, then the spares of IG0 to IG7 (R461). -/
  tables : SMap (List Nat) := []
  /-- Spares, bit *g* for IG*g* and bit 8 for the MADC, whose last calibration was good. -/
  spareGood : Nat := 0
  /-- The member that a spare replaces for good, by group. -/
  replaced : SMap (Option Nat) := []
  oscs : SMap (Option OscSt) := []
  /-- Islands whose trim update waits for their domain (R455). -/
  trimDue : Nat := 0
  /-- The reading that the bandgap curvature correction follows (R455). -/
  bandgapTemp : Option Nat := none
  refinGood : Nat := 0
  vrefGood : Nat := 0
  vrefBad : Nat := 0
  /-- Units that the running RUN command waits for, and whether one has failed (R474). -/
  cmdUnits : Nat := 0
  cmdFailed : Bool := false
  lastCheck : Nat := 0
deriving DecidableEq, Repr

/-! ### Pairs (chapter 16) -/

/-- A MIRROR message (R480), without MGEN. -/
inductive Mirror where
  | heartbeat (slot state ready inhibit groups epoch litGen frame : Nat)
  | commit (page gen boundary : Nat) (group : Bool) (entries : List (Nat × Nat)) (frame : Nat)
  | outcome (page gen state frame : Nat)
  | block (block tag : Nat) (poison : Bool) (data : Nat)
  | rebuild (buf gen : Nat) (ceilings : List Nat) (frame : Nat)
  | list_ (emitter : Nat) (short remove : Bool) (frame : Nat)
  | command (page opcode arg : Nat)
  | split (tile lo hi : Nat) (join : Bool)
  | yield_ (cause source : Nat)
  | taken (epoch : Nat)
  | resync (end_ : Bool)
  | diagResp (tile sink : Nat) (words : List Nat)
deriving DecidableEq, Repr

/-- What the partner's last HEARTBEAT showed (R480): its SLOT, STATE, READY, INHIBIT, group states, EPOCH and FRAME, and
whether it showed the role PRIMARY (R478). -/
structure PartnerSt where
  slot : Nat
  state : Nat
  ready : Bool
  inhibit : Bool
  groups : Nat
  epoch : Nat
  frame : Nat
  primary : Bool
deriving DecidableEq, Repr

/-- A mirrored commit that waits on the partner (R484 to R486): GEN and BOUNDARY as carried, whether it came in a group, its
entries as offset and value, and the boundary whose OUTCOME it waits for. -/
structure MirrorPend where
  gen : Nat
  boundary : Nat
  group : Bool
  entries : List (Nat × Nat)
  since : Option Nat := none
deriving DecidableEq, Repr

/-- A takeover under way (R496): its cause as LAST_TAKE shows it, and when step 1 was met. -/
structure TakeSt where
  cause : Nat
  found : Nat
deriving DecidableEq, Repr

/-- PAIR beside its page. -/
structure PairSt where
  /-- MIRROR messages that wait for LINK4, in the order in which they will leave (R481). -/
  queue : List Mirror := []
  partner : Option PartnerSt := none
  /-- The slot boundary whose HEARTBEAT has not arrived, and the heartbeats missed in a row (R492, R494). -/
  hbDue : Option Nat := none
  missRun : Nat := 0
  /-- Tiles whose QUERY under R478 is under way, and whether a sink has shown another owner. -/
  asking : Nat := 0
  foreign : Bool := false
  /-- After RESYNC with END = 1: heartbeats in a row that have met R491 (R503). -/
  goodRun : Option Nat := none
  /-- A gap or a divergence has been met since the resynchronisation began (R503). -/
  diverged : Bool := false
  take : Option TakeSt := none
  /-- When SWITCHOVER was accepted, and whether its YIELD has been sent (R507). -/
  switchAt : Option Nat := none
  yielded : Bool := false
  /-- Heartbeats since RESYNC with END = 1 was sent that still showed SYNCING (R503). -/
  endRun : Nat := 0
  /-- Mirrored commits that wait, by page (R484, R485). -/
  commits : SMap (Option MirrorPend) := []
  /-- A REBUILD that waits: FRAME, EFF_BUF, EFF_GEN and the ceilings (R488). -/
  rebuild : Option (Nat × Nat × Nat × List Nat) := none
  /-- A VERIFY that PAIR has issued (R488). -/
  verifying : Bool := false
  /-- Groups that a TAIL port has seen for each sink in this frame, keyed 128 × tile + sink (R490). -/
  tailSeen : SMap Nat := []
deriving DecidableEq, Repr

/-! ### Firmware, flash and background work (chapter 17) -/

/-- A copy of the directory (R514): its sequence, and for each processor its boot slot (0 A, 1 B) and TRIAL. -/
structure DirCopy where
  seq : Nat
  mgtSlot : Nat
  mgtTrial : Bool
  safSlot : Nat
  safTrial : Bool
deriving DecidableEq, Repr

/-- A copy of the key store (R514, R542): its sequence, the installation key, and the identity record's DEVICE_ID, ROLE
and PARTNER_ID. -/
structure KeyCopy where
  seq : Nat
  key : Option Nat
  ident : Option (Nat × Nat × Nat)
deriving DecidableEq, Repr

/-- An entry of the wear journal (R525): slice, location, that location's erase count, sequence number, and the CRC-32C of
the slice data. -/
structure JournalEntry where
  slice : Nat
  loc : Nat
  erases : Nat
  seq : Nat
  crc : Nat
deriving DecidableEq, Repr

/-- A package of R527: the CRC-32C of each tile's records, the 36-byte records keyed 2 × pixel + bank, and for the factory
package each emitter's BIN. -/
structure Package where
  crcs : List Nat
  records : SMap Nat
  bins : SMap Nat
deriving DecidableEq, Repr

/-- A flash operation (R512): the erase of the sector at an address; the program of a page; the program of a directory
copy, a key-store copy or a journal entry, whose bytes the spec does not lay out; and the program of a page of a packed
package, whose packed form it leaves open, with the last page of a package. -/
inductive FlashOp where
  | erase (addr : Nat)
  | program (addr : Nat) (data : List Nat)
  | dir (copy : Nat) (d : DirCopy)
  | keys (copy : Nat) (k : KeyCopy)
  | entry (pos : Nat) (e : JournalEntry)
  | packPage (user : Bool)
  | packLast (user : Bool) (p : Package)
deriving DecidableEq, Repr

/-- What asked for a flash operation. -/
inductive FlashJob where
  | update
  | trial
  | confirm
  | wear (slice loc : Nat)
  | diag (copy : Nat)
  | pack (user : Bool)
  | daily
  | keys
deriving DecidableEq, Repr

/-- An update session (R519): its target and number, the master that opened it, the delta stream received, and how many
bytes of output have been handed to the flash. -/
structure Session where
  target : Nat
  issuer : Nat
  delta : List Nat := []
  queued : Nat := 0
  /-- END has been met, and the last page waits for the flash. -/
  ended : Bool := false
deriving DecidableEq, Repr

/-- FW and DLY beside their pages. -/
structure FwSt where
  /-- Flash operations that wait, oldest first, each with what asked for it (R512). -/
  queue : List (FlashJob × FlashOp) := []
  /-- The first operation has been issued to the flash. -/
  issued : Bool := false
  /-- Since when the first operation waits for hold-up energy (R515). -/
  waitSince : Option Nat := none
  session : Option Session := none
  /-- A handover waits for its step 5: its target and its deadline (R520). -/
  handover : Option (Nat × Nat) := none
  /-- Jobs of CKPT_NOW that have not ended. -/
  ckptJobs : Nat := 0
  lastWear : Nat := 0
  lastDiag : Nat := 0
  lastDaily : Nat := 0
  /-- The restoration of R540 step 7 waits for MEM. -/
  restoreDue : Bool := false
deriving DecidableEq, Repr

/-- The QSPI flash (R512, R513): bytes, where an erased byte reads 0xFF, and the parts whose layout the spec leaves open. -/
structure FlashSt where
  bytes : SMap Nat := []
  dirs : SMap (Option DirCopy) := []
  keys : SMap (Option KeyCopy) := []
  /-- Keyed by position in the journal's ring of 4,096 entries. -/
  journal : SMap (Option JournalEntry) := []
  factory : Option Package := none
  user : Option Package := none
  /-- Erase counts of the wear locations. -/
  erases : SMap Nat := []
  /-- The DIAG copy written last. -/
  diagNewer : Option Nat := none
deriving DecidableEq, Repr

/-- One-time-programmable storage: the key hashes and revocations and minimum SVNs (R511, R529), BENCH_OFF (R543) and
FACTORY_SEALED (R227). -/
structure OtpSt where
  keyHash : SMap Nat := []
  revoked : Nat := 0
  svnMgt : Nat := 0
  svnSaf : Nat := 0
  benchOff : Bool := false
  factorySealed : Bool := false
deriving DecidableEq, Repr

/-! ### Reset and bring-up (chapter 18) -/

/-- The boot loader and the processors. -/
structure BootSt where
  /-- The last step of R539 that is complete, 1 to 6, and when; none once the loader has ended. -/
  loader : Option (Nat × Nat) := some (1, 0)
  /-- The loader runs steps 3 and 4 for MGT alone (R536). -/
  mgtOnly : Bool := false
  /-- The board supplies are present (R554). -/
  powered : Bool := true
  /-- A processor fetches instructions. -/
  mgtRunning : Bool := false
  safRunning : Bool := false
  /-- Slots that the processors run from (0 A, 1 B), and none for an image of the bench port (R538, R545). -/
  mgtSlot : Option Nat := none
  safSlot : Option Nat := none
  /-- Instruction banks, as images with their headers (R509, R510): keyed 2 × (target − 1) + bank. -/
  banks : SMap (List Nat) := []
  /-- Words stored by the bench port, for MGT and for SAF, in order (R545). -/
  benchMgt : List Nat := []
  benchSaf : List Nat := []
  /-- The 16-bit version at the start of each processor's data area (R520), by target. -/
  stateVer : SMap Nat := []
deriving DecidableEq, Repr


/-! ### What leaves the device -/

/-- A message, packet or level that the device puts out, as far as a rule says what it holds. -/
inductive Out where
  /-- A NOTICE on the links it leaves on (R64, R120). -/
  | notice (links words : List Nat)
  /-- A CONTROL response on a link (R118 to R120): TXN, OP, and the entries as data and status. -/
  | response (link txn op : Nat) (entries : List (Nat × Nat))
  /-- A cell that the device forms or forwards on a link, as its 288-bit codeword (R106, R122). -/
  | cell (link word : Nat)
  | safetyFrame (body : List Nat)
  /-- A packet of a port (R266): tile, TYPE, targets as a 128-bit mask, EPOCH, OWNER, TAG and payload words. -/
  | ring (tile type targets epoch owner tag : Nat) (words : List Nat)
  /-- A PMBus transaction of a segment (R291). -/
  | pmbus (segment : Nat) (t : PmbTxn)
  /-- A VIDEO burst of the monitor on LINK5 (R195): WIN, OFFSET, FRAME, EOF, take, and the 128 data blocks. -/
  | monitor (win offset frame eof take : Nat) (blocks : List Nat)
  | mirror (mgen : Nat) (m : Mirror)
  /-- What a register access returns to its master (R28): its status of R28, and the word of a read. -/
  | access (master status data : Nat)
deriving DecidableEq, Repr

/-! ### The whole machine -/

/-- The state of the WZ1024. -/
structure State where
  /-- Commands that wait, first in, first out (the model's queue). -/
  pending : List Instr := []
  /-- Nanoseconds since the last power-on or device reset (the model's clock). -/
  mono : Nat := 0
  /-- The number of free values used so far (the model's own counter). -/
  free : Nat := 0
  pages : Pages := {}
  lanes : SMap LaneSt := []
  trains : SMap TrainSt := []
  links : SMap LinkSt := []
  transport : TransportSt := {}
  time : TimeSt := {}
  cmp : CmpSt := {}
  cad : CadSt := {}
  matte : MatteSt := {}
  duds : SMap DudSt := []
  gaf : GafSt := {}
  diag : DiagSt := {}
  dram : DramSt := {}
  mem : MemSt := {}
  arb : ArbSt := {}
  flt : FltSt := {}
  chks : SMap ChkSt := []
  reels : SMap ReelSt := []
  sram : QueueSram := {}
  safe : SafeSt := {}
  pwr : PwrSt := {}
  thm : ThmSt := {}
  scal : ScalSt := {}
  pair : PairSt := {}
  fw : FwSt := {}
  flash : FlashSt := {}
  otp : OtpSt := {}
  boot : BootSt := {}
  /-- Accesses that have not completed, oldest first: of each master one that is held, and those behind it (R61, R431). -/
  waiting : List Access := []
  /-- What the device has put out, oldest first. -/
  out : List Out := []
deriving DecidableEq, Repr

/-- The machine right after reset: the power-on reset has ended and the loader has made its first step, with BOOT[2:0] = 0;
every register at its reset value, every memory without an entry (R533, R534, R539). -/
def State.reset : State := {}

/-- No command faults: what goes wrong is a status, a flag or a state of the block. -/
inductive Fault
deriving DecidableEq, Repr

/-- Why a command is not run. -/
inductive Refusal where
  /-- Raised by the dispatch for a command whose meaning is not written; safe: nothing is proved of it. -/
  | notModelled (mnemonic : String)
deriving DecidableEq, Repr

end Sys2Proof.Machine
end

