-- ==== Sys2Proof/Machine/Ops.lean ====
section
/-! DEFINITION. The shared operations on State: registers and their fields, page headers, event flags and the interrupt
summary, counters, the clock, free values and outgoing messages. Chapter 02 unless a docstring says otherwise. -/

namespace Sys2Proof.Machine

/-! ### Numbers -/

/-- The bits `lo` to `lo + w - 1` of a number. -/
def bitsOf (v lo w : Nat) : Nat := (v >>> lo) % 2 ^ w

/-- Replacing those bits. -/
def putBits (v lo w x : Nat) : Nat :=
  (v >>> (lo + w)) <<< (lo + w) ||| ((x % 2 ^ w) <<< lo) ||| (v % 2 ^ lo)

/-- A `w`-bit two's-complement field as an integer. -/
def sgn (w v : Nat) : Int := if v < 2 ^ (w - 1) then (v : Int) else (v : Int) - (2 ^ w : Nat)

/-- An integer as a `w`-bit two's-complement field. -/
def unsgn (w : Nat) (i : Int) : Nat := (i % (2 ^ w : Nat)).toNat

/-- An integer held within `lo` to `hi`. -/
def clampI (lo hi i : Int) : Int := if i < lo then lo else if hi < i then hi else i

/-- The rounding shift of R205: ties toward +∞. -/
def rshift (x : Int) (s : Nat) : Int := if s = 0 then x else (x + 2 ^ (s - 1)).shiftRight s

/-- Division rounded up. -/
def ceilDiv (a b : Nat) : Nat := (a + b - 1) / b

/-- A Boolean as a bit. -/
def b2n (b : Bool) : Nat := if b then 1 else 0

/-- Whether bit `i` of a number is set. -/
def bit (v i : Nat) : Bool := v >>> i % 2 = 1

/-- The mask of a list of bit numbers. -/
def maskOf (l : List Nat) : Nat := l.foldl (fun m i => m ||| 1 <<< i) 0

/-- The numbers below `n` whose bit is set. -/
def bitsSet (v n : Nat) : List Nat := (List.range n).filter (fun i => bit v i)

/-! ### Registers -/

/-- The links that a field of a LINK page serves (R131): on any other link the field resets to 0 and reads 0. -/
def linkServed (n off : Nat) : Nat :=
  let up := n = 0 ∨ n = 1
  let ctl := up ∨ n = 5
  let fwd := n = 2 ∨ n = 3
  if off = 0x040 then 0xFFFFFFFF - (if up then 0 else 0x40)
  else if off = 0x044 then 0xFFFFFFFF - (if ctl then 0 else 0x42) - (if fwd then 0 else 0x38)
  else if off = 0x048 then (if fwd then 0xFFFFFFFF else 0)
  else if off = 0x04C then (if ctl then 0xFFFFFFFF else 0)
  else if off = 0x074 then (if up then 0xFFFFFFFF else 0)
  else 0xFFFFFFFF

/-- Offsets from which the pages LINK1 to LINK5 have no registers: the rest stands on LINK0 alone (R132). -/
def linkTail : Nat := 0x0A4

/-- The reset word of a reel's register that depends on the reel's number (R379, R390). -/
def reelReset (q off : Nat) (dflt : Nat) : Nat :=
  if off = 0x040 then 4096 * q + 4096 * 0x10000
  else if off = 0x044 then
    match q with
    | 0 => 0x10900
    | 1 => 0x1909
    | 2 => 0x10900
    | 3 => 0x91A
    | 4 => 0x10900
    | _ => 0
  else dflt

/-- The register that lies at an address of the register space, given as `0x1000 × page + offset`. -/
def regOf (a : Nat) : Option (Reg × Nat) :=
  match pageOf (a / 0x1000) with
  | some (ty, inst) => if ty = .link && inst != 0 && linkTail ≤ a % 0x1000 then none else regAt ty.regs (a % 0x1000)
  | none => none

/-- The word an address holds at reset. -/
def resetWord (a : Nat) : Word :=
  match pageOf (a / 0x1000) with
  | some (ty, inst) =>
    match regAt ty.regs (a % 0x1000) with
    | some (r, i) =>
      let v := r.resetOf i
      BitVec.ofNat 32
        (if ty = .reel then reelReset inst (a % 0x1000) v
         else if ty = .link then v &&& linkServed inst (a % 0x1000)
         else if ty = .time && a % 0x1000 = 0x04C then 4
         else v)
    | none => 0
  | none => 0

/-- The RWS bits of the register at an address. -/
def rwsMask (a : Nat) : Nat :=
  match regOf a with
  | some (r, _) => r.rws
  | none => 0

/-- The address of a register of a page. -/
def addrOf (p off : Nat) : Nat := 0x1000 * p + off % 0x1000

/-- The word in effect at an address. -/
def State.word (s : State) (a : Nat) : Word := SMap.read (resetWord a) s.pages.eff a

/-- Setting the word in effect. -/
def State.setWord (s : State) (a : Nat) (w : Word) : State :=
  { s with pages := { s.pages with eff := SMap.write (resetWord a) s.pages.eff a w } }

/-- The shadow at an address (its RWS bits). -/
def State.shadow (s : State) (a : Nat) : Word :=
  SMap.read (resetWord a &&& BitVec.ofNat 32 (rwsMask a)) s.pages.shd a

/-- Setting a shadow. -/
def State.setShadow (s : State) (a : Nat) (w : Word) : State :=
  { s with pages := { s.pages with
      shd := SMap.write (resetWord a &&& BitVec.ofNat 32 (rwsMask a)) s.pages.shd a w } }

/-- The captured value at an address. -/
def State.captured (s : State) (a : Nat) : Word :=
  SMap.read (resetWord a &&& BitVec.ofNat 32 (rwsMask a)) s.pages.pnd a

/-- The snapshot copy at an address; until the first snapshot it reads 0 (R57). -/
def State.snapWord (s : State) (a : Nat) : Word := SMap.read 0 s.pages.snp a

/-- Setting a snapshot copy. -/
def State.setSnapWord (s : State) (a : Nat) (w : Word) : State :=
  { s with pages := { s.pages with snp := SMap.write 0 s.pages.snp a w } }

/-- A field in effect. -/
def State.fget (s : State) (p : Nat) (f : Fld) : Nat :=
  bitsOf (s.word (addrOf p f.off)).toNat f.lo f.w

/-- A one-bit field in effect. -/
def State.fbit (s : State) (p : Nat) (f : Fld) : Bool := s.fget p f = 1

/-- A signed field in effect. -/
def State.fgetI (s : State) (p : Nat) (f : Fld) : Int := sgn f.w (s.fget p f)

/-- Setting a field in effect. -/
def State.fset (s : State) (p : Nat) (f : Fld) (v : Nat) : State :=
  s.setWord (addrOf p f.off)
    (BitVec.ofNat 32 (putBits (s.word (addrOf p f.off)).toNat f.lo f.w v))

/-- Setting a one-bit field. -/
def State.fsetB (s : State) (p : Nat) (f : Fld) (b : Bool) : State := s.fset p f (b2n b)

/-- Setting a signed field. -/
def State.fsetI (s : State) (p : Nat) (f : Fld) (i : Int) : State := s.fset p f (unsgn f.w i)

/-- Adding to a count that saturates. -/
def State.fadd (s : State) (p : Nat) (f : Fld) (n : Nat) : State :=
  s.fset p f (min (s.fget p f + n) (2 ^ f.w - 1))

/-- Adding 1 to a count that saturates. -/
def State.finc (s : State) (p : Nat) (f : Fld) : State := s.fadd p f 1

/-- Adding 1 to a count that wraps. -/
def State.fwrap (s : State) (p : Nat) (f : Fld) : State := s.fset p f (s.fget p f + 1)

/-- Setting a 64-bit value in a pair of registers, low half first. -/
def State.fset64 (s : State) (p : Nat) (lo hi : Fld) (v : Nat) : State :=
  (s.fset p lo v).fset p hi (v / 2 ^ 32)

/-- A 64-bit value from a pair of registers. -/
def State.fget64 (s : State) (p : Nat) (lo hi : Fld) : Nat := s.fget p lo + 2 ^ 32 * s.fget p hi

/-- Adding to a 64-bit count in a pair of registers. -/
def State.fadd64 (s : State) (p : Nat) (lo hi : Fld) (n : Nat) : State :=
  s.fset64 p lo hi (min (s.fget64 p lo hi + n) (2 ^ 64 - 1))

/-- A field of the shadow copy. -/
def State.sget (s : State) (p : Nat) (f : Fld) : Nat :=
  bitsOf (s.shadow (addrOf p f.off)).toNat f.lo f.w

/-- A one-bit field of the shadow copy. -/
def State.sbit (s : State) (p : Nat) (f : Fld) : Bool := s.sget p f = 1

/-- A signed field of the shadow copy. -/
def State.sgetI (s : State) (p : Nat) (f : Fld) : Int := sgn f.w (s.sget p f)

/-- A field of the captured set. -/
def State.pget (s : State) (p : Nat) (f : Fld) : Nat :=
  bitsOf (s.captured (addrOf p f.off)).toNat f.lo f.w

/-! ### Headers -/

/-- The header of a page. -/
def State.hdr (s : State) (p : Nat) : Hdr := SMap.read {} s.pages.hdr p

/-- Setting a header. -/
def State.setHdr (s : State) (p : Nat) (h : Hdr) : State :=
  { s with pages := { s.pages with hdr := SMap.write {} s.pages.hdr p h } }

/-- The mechanisms a page implements. -/
def capOf (p : Nat) : Option Cap := (pageOf p).map (fun e => e.1.cap)

/-! ### The clock and outgoing messages -/

/-- The clock runs to an instant: the system count runs with it (R135). -/
def State.advanceTo (s : State) (t : Nat) : State :=
  if s.mono < t then
    { s with
      mono := t
      time := { s.time with sys := (s.time.sys + (t - s.mono) * 2 ^ 16) % 2 ^ 80 } }
  else s

/-- Sending a message out of the device. -/
def State.emit (s : State) (o : Out) : State := { s with out := s.out ++ [o] }

/-- A free value: what the spec leaves open, fresh at every use. -/
def State.fresh (s : State) (w : Nat) : BitVec w × State :=
  (Config.freeValue w s.free, { s with free := s.free + 1 })

/-- System time in whole nanoseconds (R135). -/
def State.now (s : State) : Nat := s.time.sys / 2 ^ 16

/-- A quotient whose rounding the spec leaves open: exact where it is exact, else one of the two numbers next to it. -/
def State.roundFree (s : State) (num : Int) (den : Nat) : Int × State :=
  if num % den = 0 then (num / den, s)
  else
    let (b, s) := s.fresh 1
    (num / den + b.toNat, s)

/-- A value as a field of 16 bits; what a value outside its range leaves there the spec does not state. -/
def State.fit16 (s : State) (lo hi v : Int) : Nat × State :=
  if lo ≤ v ∧ v ≤ hi then (unsgn 16 v, s)
  else
    let (x, s) := s.fresh 16
    (x.toNat, s)

/-! ### Interrupt summary (R63 to R65, R120) -/

/-- A page requests an interrupt while a flag and its enable are both set (R63). -/
def State.irqOf (s : State) (p : Nat) : Bool := (s.hdr p).evt &&& (s.hdr p).evtEn != 0

/-- `SYS.IRQ_SUM`*m*: bit *b* stands for page 32 × *m* + *b* (R63). -/
def State.irqSum (s : State) (m : Nat) : Nat :=
  maskOf ((List.range 32).filter (fun b => s.irqOf (32 * m + b)))

/-- Some page requests an interrupt. -/
def State.irqAny (s : State) : Bool := allPages.any s.irqOf

/-- nIRQ is driven low while any summary bit is set and NIRQ_EN = 1 (R64, R65). -/
def State.nIrqLow (s : State) : Bool := s.fbit pgSys SYS.IRQ_CTL.NIRQ_EN && s.irqAny

/-- MGT's interrupt (R64). -/
def State.mgtIrq (s : State) : Bool := s.fbit pgSys SYS.IRQ_CTL.MGT_EN && s.irqAny

/-- The no-key exception of a link (R127): no key is held and, upstream and on LINK5, CTL_NOKEY = 1; downstream, its source
feed is under the exception. -/
def State.noKey (s : State) (n : Nat) : Bool :=
  let own (m : Nat) : Bool := s.transport.key.isNone && s.fbit (pgLink m) LINK.POLICY.CTL_NOKEY
  if n = 0 || n = 1 || n = 5 then own n
  else if n = 2 || n = 3 then
    match s.fget (pgLink n) LINK.POLICY.FWD_SRC with
    | 0 => own (s.fget (pgLink 0) LINK.UPSEL_STAT.ACTIVE)
    | 1 => own 0
    | 2 => own 1
    | _ => false
  else false

/-- CONTROL is exchanged on a link: it is UP_TRUSTED, or it is untrusted under the no-key exception (R127). -/
def State.ctlOk (s : State) (n : Nat) : Bool :=
  let st := s.fget (pgLink n) LINK.LINK_STAT.STATE
  st = 2 || (st = 3 && s.noKey n)

/-- On a rising summary bit with NOTICE_EN = 1, a NOTICE with the four summary words goes upstream (R64, R120). -/
def State.noticeIfRisen (s : State) (was : Bool) (p : Nat) : State :=
  if s.fbit pgSys SYS.IRQ_CTL.NOTICE_EN && !was && s.irqOf p then
    s.emit (.notice ([0, 1].filter s.ctlOk) [s.irqSum 0, s.irqSum 1, s.irqSum 2, s.irqSum 3])
  else s

/-- Changing a page's flags or enables, and what the summary makes of it. -/
def State.setEvtRegs (s : State) (p : Nat) (h : Hdr) : State :=
  (s.setHdr p h).noticeIfRisen (s.irqOf p) p

/-- The flags that a page implements: bits 0 to 5 where the mechanism exists on every page, and the block bits of
EVT_IMPL (R31, R51). -/
def evtImpl (p : Nat) : Word :=
  match capOf p with
  | some c => BitVec.ofNat 32 (0x3F + c.evtImpl * 0x100)
  | none => 0

/-- A hardware set of flag `b` of page `p`: a set that finds the flag set counts as missed (R51, R52, R55). -/
def State.evt (s : State) (p b : Nat) : State :=
  let h := s.hdr p
  if h.evt.getLsbD b then
    s.setHdr p { h with missCount := min (h.missCount + 1) 0xFFFF, missBit := b }
  else s.setEvtRegs p { h with evt := h.evt ||| BitVec.ofNat 32 (1 <<< b) }

/-- Setting several flags, lowest first. -/
def State.evts (s : State) (p : Nat) (bs : List Nat) : State := bs.foldl (fun s b => s.evt p b) s

/-- `PAGE_ERR_CNT.USAGE` of a page counts, and event ERR is set because the register moved (R51, R56). -/
def State.usage (s : State) (p : Nat) : State :=
  let h := s.hdr p
  if h.usage < 0xFFFF then (s.setHdr p { h with usage := h.usage + 1 }).evt p 5 else s

/-- `PAGE_ERR_CNT.FAULT` of a page counts a report of its block to the fault collector (R56). -/
def State.faultCount (s : State) (p n : Nat) : State :=
  let h := s.hdr p
  if h.fault < 0xFFFF then (s.setHdr p { h with fault := min (h.fault + n) 0xFFFF }).evt p 5 else s

/-! ### Snapshots (R56 to R58) and counters (R564) -/

/-- A change of every listed word of a page, register by register of its table. -/
def mapRegs (rs : List Reg) (f : Reg → Nat → State → State) (s : State) : State :=
  rs.foldl (fun s r => (List.range r.n).foldl (fun s i => f r i s) s) s

/-- The address of instance `i` of a register of page `p`. -/
def regAddr (p : Nat) (r : Reg) (i : Nat) : Nat := addrOf p (r.off + r.stride * i)

/-- The copy of every snapshot counter, in one cycle; a snapshot register then starts again from its reset value
(R57, R97, R360). -/
def State.copyCounters (s : State) (p : Nat) : State :=
  match pageOf p with
  | none => s
  | some (ty, _) =>
    let s := mapRegs (ty.regs.filter (fun r => r.snap != 0)) (fun r i s =>
      let a := regAddr p r i
      let live := s.word a
      let s := s.setSnapWord a (live &&& BitVec.ofNat 32 r.snap)
      s.setWord a ((live &&& BitVec.ofNat 32 (0xFFFFFFFF - r.sreg)) ||| (resetWord a &&& BitVec.ofNat 32 r.sreg))) s
    let h := s.hdr p
    s.setHdr p { h with usageCopy := h.usage, faultCopy := h.fault }

/-- CLEAR_COUNTERS: every counter of R564 to 0, every snapshot register to its reset value, with their copies. -/
def State.clearCounters (s : State) (p : Nat) : State :=
  match pageOf p with
  | none => s
  | some (ty, _) =>
    let s := mapRegs (ty.regs.filter (fun r => r.snap ||| r.cnt != 0)) (fun r i s =>
      let a := regAddr p r i
      let s := s.setWord a
        ((s.word a &&& BitVec.ofNat 32 (0xFFFFFFFF - (r.snap ||| r.cnt))) ||| (resetWord a &&& BitVec.ofNat 32 r.sreg))
      s.setSnapWord a (resetWord a &&& BitVec.ofNat 32 r.sreg)) s
    let h := s.hdr p
    s.setHdr p { h with missCount := 0, missBit := 0, usage := 0, fault := 0, usageCopy := 0, faultCopy := 0 }

/-! ### Shadows and pages as a whole -/

/-- Reloading every shadow of a page from the value in effect and clearing DIRTY (R46, R48). -/
def State.reloadShadows (s : State) (p : Nat) : State :=
  let lo := addrOf p 0
  let hi := addrOf (p + 1) 0
  let s := { s with pages := { s.pages with shd := SMap.clear s.pages.shd lo hi } }
  let s := (SMap.range s.pages.eff lo hi).foldl
    (fun s e => if rwsMask e.1 = 0 then s else s.setShadow e.1 (e.2 &&& BitVec.ofNat 32 (rwsMask e.1))) s
  s.setHdr p { s.hdr p with dirty := false, dirtyAfter := false }

/-- Capturing the shadows of a page into its pending set (R37). -/
def State.capture (s : State) (p : Nat) : State :=
  let lo := addrOf p 0
  let hi := addrOf (p + 1) 0
  { s with pages := { s.pages with
      pnd := SMap.clear s.pages.pnd lo hi ++ [] |> fun m =>
        (SMap.range s.pages.shd lo hi).foldl (fun m e => SMap.put m e.1 e.2) m } }

/-- Dropping the pending set of a page (R38). -/
def State.dropCapture (s : State) (p : Nat) : State :=
  { s with pages := { s.pages with pnd := SMap.clear s.pages.pnd (addrOf p 0) (addrOf (p + 1) 0) } }

/-- The whole pending set takes effect in one cycle (R37). -/
def State.mergeCapture (s : State) (p : Nat) : State :=
  let lo := addrOf p 0
  let hi := addrOf (p + 1) 0
  let keys := (SMap.range s.pages.eff lo hi).map (·.1) ++ (SMap.range s.pages.pnd lo hi).map (·.1)
  let s := keys.foldl (fun s a =>
    if rwsMask a = 0 then s
    else s.setWord a ((s.word a &&& BitVec.ofNat 32 (0xFFFFFFFF - rwsMask a)) ||| s.captured a)) s
  s.dropCapture p

/-- Every register, shadow, pending set, copy and header of a page returns to its reset value (R47, R533). -/
def State.resetPage (s : State) (p : Nat) : State :=
  let lo := addrOf p 0
  let hi := addrOf (p + 1) 0
  { s with pages := { s.pages with
      eff := SMap.clear s.pages.eff lo hi
      shd := SMap.clear s.pages.shd lo hi
      pnd := SMap.clear s.pages.pnd lo hi
      snp := SMap.clear s.pages.snp lo hi
      hdr := SMap.del s.pages.hdr p } }

/-! ### Locks (R44 to R46) -/

/-- Whether a master holds a page's lock. -/
def State.holds (s : State) (m p : Nat) : Bool := (s.hdr p).owner == some m

/-- A lock breaks: the shadows reload, DIRTY clears, the lock is free, LOCK_BROKEN is raised; a validated commit is not
affected (R46). -/
def State.breakLock (s : State) (p : Nat) : State :=
  if (s.hdr p).owner.isSome then
    let s := s.reloadShadows p
    (s.setHdr p { s.hdr p with owner := none, leaseEnd := 0 }).evt p 2
  else s

/-- Every lock that a master holds breaks, because the master is reset (R46). -/
def State.breakLocksOf (s : State) (m : Nat) : State :=
  allPages.foldl (fun s p => if s.holds m p then s.breakLock p else s) s

/-! ### Commands (R48 to R50) -/

/-- A command ends: its outcome is recorded and CMD_DONE or CMD_FAILED is raised (R50, R51). -/
def State.cmdEnd (s : State) (p opcode issuer st reason : Nat) : State :=
  (s.setHdr p { s.hdr p with
    cmdState := st, cmdOpcode := opcode, cmdReason := reason, cmdIssuer := issuer }).evt p (if st = 2 then 3 else 4)

/-- The running command of a page ends DONE. -/
def State.cmdDone (s : State) (p : Nat) : State :=
  match (s.hdr p).run with
  | none => s
  | some r => (s.setHdr p { s.hdr p with run := none }).cmdEnd p r.opcode r.issuer 2 0

/-- The running command of a page ends FAILED with a reason. -/
def State.cmdFail (s : State) (p reason : Nat) : State :=
  match (s.hdr p).run with
  | none => s
  | some r => (s.setHdr p { s.hdr p with run := none }).cmdEnd p r.opcode r.issuer 6 reason

/-- A command starts to execute. -/
def State.cmdStart (s : State) (p opcode arg issuer : Nat) : State :=
  s.setHdr p { s.hdr p with
    run := some ⟨opcode, arg, issuer⟩, cmdState := 1, cmdOpcode := opcode, cmdReason := 0, cmdIssuer := issuer }

/-- Whether the running command of a page has an opcode. -/
def State.running (s : State) (p opcode : Nat) : Bool :=
  match (s.hdr p).run with
  | some r => r.opcode == opcode
  | none => false

/-! ### Ports -/

/-- A port (chapter 09). -/
def State.dud (s : State) (t : Nat) : DudSt := SMap.read {} s.duds t

/-- Setting a port. -/
def State.setDud (s : State) (t : Nat) (d : DudSt) : State := { s with duds := SMap.write {} s.duds t d }

/-! ### Domains (R430, R431) -/

/-- The power domain a page lies in (R430). -/
def domainOf (p : Nat) : Nat :=
  match pageOf p with
  | some (.saf, _) => 1
  | some (.fw, _) | some (.pair, _) | some (.gaf, _) | some (.dly, _) | some (.chk, _) | some (.reel, _) => 2
  | some (.cmp, _) | some (.lyr, _) | some (.ovl, _) => 3
  | some (.pe, q) => 4 + q
  | some (.mem, _) | some (.arb, _) | some (.cad, _) | some (.matte, _) | some (.diag, _) => 8
  | some (.link, n) => 9 + n
  | some (.lane, n) => 9 + n / 4
  | some (.dud, t) => 15 + portGroup t
  | _ => 0

/-- Whether a domain is ON, with no transition running: its blocks work (R436, R438). -/
def State.domOn (s : State) (d : Nat) : Bool :=
  s.fget pgPwr (PWR.DOM_STAT.STATE d) = 0 && s.fget pgPwr (PWR.DOM_STAT.BUSY d) = 0

end Sys2Proof.Machine
end

