-- ==== Sys2Proof/Machine/Mirror.lean ====
section
/-! DEFINITION. Sending MIRROR messages to the partner (R480, R481). -/

namespace Sys2Proof.Machine

/-- The states of R477. -/
def State.pairState (s : State) : Nat := s.fget pgPair PAIR.STAT.STATE
def State.pairActive (s : State) : Bool := s.pairState = 4
def State.pairShadow (s : State) : Bool := s.pairState = 3

/-- The device follows its partner: SYNCING or SHADOW (R477, R489). -/
def State.pairFollows (s : State) : Bool := s.pairState = 2 || s.pairState = 3

/-- LINK4 is UP_TRUSTED (R480). -/
def State.link4Trusted (s : State) : Bool := s.fget (pgLink 4) LINK.LINK_STAT.STATE = 2

/-- Cells that a message takes (R480). -/
def Mirror.cells : Mirror → Nat
  | .commit _ _ _ _ es _ => 1 + (es.length + 2) / 3
  | .block .. => 3
  | .rebuild .. => 3
  | .diagResp .. => 6
  | _ => 1

/-- HEARTBEAT, YIELD and TAKEN leave ahead of every queued message (R481). -/
def Mirror.ahead : Mirror → Bool
  | .heartbeat .. => true
  | .yield_ .. => true
  | .taken _ => true
  | _ => false

/-- A HEARTBEAT: it tells of one slot boundary and does not wait (R492). -/
def Mirror.heartbeatMsg : Mirror → Bool
  | .heartbeat .. => true
  | _ => false

/-- A message leaves: MGEN increments (R481). -/
def State.sendMirror (s : State) (m : Mirror) : State :=
  let g := (s.fget pgPair PAIR.MGEN_TX.MGEN + 1) % 2 ^ 32
  (s.fset pgPair PAIR.MGEN_TX.MGEN g).emit (.mirror g m)

/-- Every queued message leaves while LINK4 is UP_TRUSTED (R480, R481). -/
def State.flushMirror (s : State) : State :=
  if s.link4Trusted then
    let q := s.pair.queue
    q.foldl State.sendMirror { s with pair := { s.pair with queue := [] } }
  else s

/-- The queue with one more message: one that leaves ahead stands behind others of its kind (R481). -/
def enqueueMirror (q : List Mirror) (m : Mirror) : List Mirror :=
  if m.ahead then q.takeWhile Mirror.ahead ++ m :: q.dropWhile Mirror.ahead else q ++ [m]

/-- A message that finds LINK4 down is queued; one that does not fit is dropped, which makes a gap in MGEN, and raises
DIVERGED (R481). -/
def State.queueMirror (s : State) (m : Mirror) : State :=
  let used := s.pair.queue.foldl (fun n e => n + e.cells) 0
  if used + m.cells ≤ 65536 then
    { s with pair := { s.pair with queue := enqueueMirror s.pair.queue m } }
  else
    (s.fset pgPair PAIR.MGEN_TX.MGEN ((s.fget pgPair PAIR.MGEN_TX.MGEN + 1) % 2 ^ 32)).evt pgPair 11

/-- Sending a message: at once over an UP_TRUSTED LINK4, else it is queued, or for a HEARTBEAT not sent (R480, R481). -/
def State.mirror (s : State) (m : Mirror) : State :=
  if s.link4Trusted then s.flushMirror.sendMirror m
  else if m.heartbeatMsg then s
  else s.queueMirror m

/-- A message that only the ACTIVE device sends. -/
def State.mirrorActive (s : State) (m : Mirror) : State := if s.pairActive then s.mirror m else s

end Sys2Proof.Machine
end

