-- ==== Sys2Proof/Machine/Ring.lean ====
section
/-! DEFINITION. The Dudun rings as a port drives them (R266 to R274, R283, R284, R289): packets sent, ring state shown,
and the start of a ring operation. -/

namespace Sys2Proof.Machine

/-- *P* of a pair of register values, in 2⁻¹⁶ ns. -/
def periodOf (ns frac : Nat) : Nat := ns * 65536 + frac

/-- *P* in force, in 2⁻¹⁶ ns (R145). -/
def State.period (s : State) : Nat := periodOf (s.fget pgTime TIME.PERIOD.NS) (s.fget pgTime TIME.PERIOD_FRAC.FRAC)

/-- The frame number in force. -/
def State.frame (s : State) : Nat := s.fget pgTime TIME.FRAME.NUMBER

/-- The frame of the first boundary at least 4 µs from now, which puts a change in force that is posted now (R220, R315). -/
def State.postFrame (s : State) : Nat :=
  let next := s.time.boundaryAt + s.period / 65536
  (s.frame + (if s.mono + 4000 ≤ next then 1 else 2)) % 65536

/-- The build is dual-aim. -/
def State.dual (s : State) : Bool := s.fbit pgSys SYS.FIELD_STAT.AIM_NOW

/-- Takes in force, T. -/
def State.takes (s : State) : Nat := s.fget pgTime TIME.MODE.TAKES + 1

/-- A tile is live (R17). -/
def State.tileLive (s : State) (t : Nat) : Bool := bit (s.fget pgSys SYS.FIELD_STAT.TILE_LIVE) t

/-- Some tile is live (R17). -/
def State.anyTileLive (s : State) : Bool := s.fget pgSys SYS.FIELD_STAT.TILE_LIVE != 0

/-- The device ID in force (R475). -/
def State.deviceId (s : State) : Nat := s.fget pgPair PAIR.IDENT.DEVICE_ID

/-- Setting `TILE_LIVE` of a tile. -/
def State.setTileLive (s : State) (t : Nat) (b : Bool) : State :=
  let v := s.fget pgSys SYS.FIELD_STAT.TILE_LIVE
  s.fset pgSys SYS.FIELD_STAT.TILE_LIVE (if b then v ||| 1 <<< t else v &&& (0xFFFF - 1 <<< t))

/-! ### Sets of sinks -/

/-- The sinks of a mask, ascending. -/
def sinksOf (m : Nat) : List Nat := bitsSet m 128

/-- The mask of addresses `lo` to `hi`. -/
def sinkRange (lo hi : Nat) : Nat := if hi < lo then 0 else (2 ^ (hi - lo + 1) - 1) <<< lo

/-- The sinks of `a` that are not in `b`. -/
def without (a b : Nat) : Nat := a &&& (2 ^ 128 - 1 - b % 2 ^ 128)

/-- Writing a set of sinks into four registers. -/
def State.setMask (s : State) (p : Nat) (f : Nat → Fld) (m : Nat) : State :=
  (List.range 4).foldl (fun s i => s.fset p (f i) (m >>> (32 * i))) s

/-- Reading a set of sinks from four registers. -/
def State.getMask (s : State) (p : Nat) (f : Nat → Fld) : Nat :=
  (List.range 4).foldl (fun m i => m + s.fget p (f i) <<< (32 * i)) 0

/-! ### What a port shows (R285, R294) -/

/-- The port has enumerated its ring (R277). -/
def State.enumerated (s : State) (t : Nat) : Bool := s.fget (pgDud t) DUD.STAT.SINKS != 0

/-- The state of an enumerated ring (R285, R294). -/
def State.ringStateOf (s : State) (t : Nat) : Nat :=
  let d := s.dud t
  if d.lost != 0 then (if d.live != 0 then 5 else 6)
  else if s.tileLive t then 4 else 3

/-- The registers that follow from the sets of sinks; entering LIVE raises RING_LIVE. -/
def State.showRing (s : State) (t : Nat) : State :=
  let p := pgDud t
  let d := s.dud t
  let s := ((s.setMask p DUD.LIVE.SINKS d.live).setMask p DUD.LOST.SINKS d.lost).fset p DUD.STAT.LIVE_CNT
    (sinksOf d.live).length
  let s := s.fset p DUD.STAT.FAULT_AT ((sinksOf d.lost).headD 0xFF)
  let s := s.fsetB p DUD.OWN.OWNS (d.owned != 0)
  let s := (List.range 128).foldl (fun s i =>
    (s.fsetB p (DUD.SINK_B.LIVE i) (bit d.live i)).fsetB p (DUD.SINK_B.LOST i) (bit d.lost i)) s
  if s.enumerated t && s.fget p DUD.STAT.STATE != 2 then
    let st := s.ringStateOf t
    let was := s.fget p DUD.STAT.STATE
    let s := s.fset p DUD.STAT.STATE st
    if st = 4 && was != 4 then s.evt p 8 else s
  else s

/-! ### Packets -/

/-- A command goes out with the port's epoch and the device ID; what TAG it carries the spec leaves to the port. A
DEMOTED device sends only IDLE (R499). -/
def State.ringSend (s : State) (t type targets : Nat) (words : List Nat) : State :=
  if s.pairState = 5 || targets = 0 || !s.domOn (15 + portGroup t) then s
  else
    let (tag, s) := s.fresh 7
    (s.setDud t { s.dud t with lastTx := s.mono }).emit
      (.ring t type targets (s.fget (pgDud t) DUD.OWN.EPOCH) s.deviceId tag.toNat words)

/-- WEIGHT*j* / 256 × *P*, rounded to 1/64 ns (R270). -/
def State.slotLength (s : State) (j : Nat) : Nat :=
  if j < s.takes then (s.fget pgTime (TIME.SLOT.WEIGHT j) * s.period + 131072) / 262144 else 0

/-- The payload of SLOTMAP (R270). -/
def State.slotMapWords (s : State) (apply : Nat) : List Nat :=
  [apply % 65536 + (s.takes - 1) * 2 ^ 16 + s.fget pgTime TIME.MODE.SCAN_MUL * 2 ^ 18, s.period] ++
    (List.range 4).map s.slotLength

/-- PWM_PHASE of a sink and ROW_PHASE of a tile (R289). -/
def State.pwmPhase (s : State) (a : Nat) : Nat :=
  if s.fbit pgGaf GAF.CTL.PHASE_EN then a * s.fget pgGaf GAF.PHASE.STEP % 256 else 0
def State.rowPhase (s : State) (t : Nat) : Nat :=
  if s.fbit pgGaf GAF.CTL.PHASE_EN && s.fbit pgGaf GAF.PHASE.ROW_STAGGER then 64 * (t % 4) else 0

/-- One entry of CONFIG (R271). -/
def configWord (e : Nat × Nat) : Nat := e.1 % 65536 + e.2 % 2 ^ 32 * 2 ^ 32

/-- CONFIG with watch and phases, to each sink of a set (R277, R289). -/
def State.sendSinkConfig (s : State) (t targets : Nat) : State :=
  (sinksOf targets).foldl (fun s a => s.ringSend t 0x03 (1 <<< a)
    ([(1, s.pwmPhase a), (2, s.rowPhase t), (3, s.fget (pgDud t) DUD.WATCH.US)].map configWord)) s

/-- A code as DRIVE carries it (R269). -/
def driveCode (v : Nat) : Nat := v / 4 % 65536 + v % 4 * 65536

/-- The payload of DRIVE for 16 rows of a take of a sink (R269); codes are kept as 4 × *n* + *r*. -/
def State.driveWords (s : State) (t a frame j g : Nat) : List Nat :=
  let n := sinksPerRing s.dual
  let base := ((t * n + a) * 64 + 16 * g) * 48
  let bitsN := (List.range 768).foldr (fun i v => driveCode (SMap.read 3 s.cad.shown (4 * (base + i) + j)) + v * 2 ^ 18) 0
  (frame % 65536 + j * 2 ^ 16 + g * 2 ^ 18) :: (List.range 216).map (fun w => bitsOf bitsN (64 * w) 64)

/-- The DRIVE packets of a schedule: sinks ascending, takes, groups; of each sink the groups that a mask names, bit
4 × *j* + *g* (R280, R281). -/
def driveList (takes : Nat) (sinks : List (Nat × Nat)) : List (Nat × Nat × Nat) :=
  sinks.flatMap (fun e => ((List.range (4 * takes)).filter (fun i => bit e.2 i)).map (fun i => (e.1, i / 4, i % 4)))

/-- Sending DRIVE packets. -/
def State.sendDrives (s : State) (t frame : Nat) (l : List (Nat × Nat × Nat)) : State :=
  l.foldl (fun s e => s.ringSend t 0x01 (1 <<< e.1) (s.driveWords t e.1 frame e.2.1 e.2.2)) s

/-- FRAME_DONE: every live ring has every live sink complete for the frame delivered (R151, R281). -/
def State.frameDoneCheck (s : State) : State :=
  if s.time.frameAwaited && !s.time.frameDone &&
      (List.range 16).all (fun t => (s.dud t).delivering.isNone || (s.dud t).complete) then
    { s with time := { s.time with frameDone := true } }.evt pgTime 13
  else s

/-! ### Operations -/

/-- The request type whose answers an operation awaits. -/
def RingOp.expects (o : RingOp) : Nat :=
  match o.kind with
  | .enumerate => if o.phase ≤ 1 then 0x08 else if o.phase = 2 then 0x02 else 0x03
  | .claim .. => if o.phase = 0 then 0x08 else 0x06
  | .query _ => 0x08
  | .sendConfig _ => 0x03
  | .readmit _ => if o.phase = 0 then 0x08 else if o.phase = 1 then 0x06 else if o.phase = 2 then 0x02 else 0x03
  | .slotMap _ => 0x02
  | .config => 0x03
  | .dark => 0x0B

/-- The request of an operation's phase goes to some sinks; when they are not known yet, to every sink. -/
def State.sendPhase (s : State) (t : Nat) (o : RingOp) (targets : Option Nat) : State :=
  let m := targets.getD (2 ^ 128 - 1)
  match o.expects with
  | 0x02 =>
    match o.kind with
    | .slotMap a => s.ringSend t 0x02 m (s.slotMapWords a)
    | _ =>
      let (a, s) := s.fresh 16
      s.ringSend t 0x02 m (s.slotMapWords a.toNat)
  | 0x03 =>
    match o.kind with
    | .sendConfig es => s.ringSend t 0x03 m (es.map configWord)
    | _ => s.sendSinkConfig t m
  | ty => s.ringSend t ty m []

/-- An operation starts, or a phase of it: the request goes out (R284). -/
def State.startPhase (s : State) (t : Nat) (o : RingOp) : State :=
  let s := s.sendPhase t o o.targets
  let d := s.dud t
  s.setDud t { d with ops := d.ops ++ [{ o with
    answered := 0, refused := 0, retried := false, sentAt := s.mono, rttSink := none }] }

/-- An operation on a set of sinks starts, if the set is not empty. -/
def State.startOn (s : State) (t : Nat) (k : RingOpKind) (targets : Nat) : State :=
  if targets = 0 then s else s.startPhase t { kind := k, targets := some targets }

/-- The sinks of a ring as enumerated. -/
def State.allSinks (s : State) (t : Nat) : Nat := 2 ^ s.fget (pgDud t) DUD.STAT.SINKS - 1

/-- The highest epoch that is known for some sinks or is the port's own (R276). -/
def State.topEpoch (s : State) (t m : Nat) : Nat :=
  (sinksOf m).foldl (fun e a => max e (SMap.read {} (s.dud t).sinks a).epoch) (s.fget (pgDud t) DUD.OWN.EPOCH)

end Sys2Proof.Machine
end

