-- ==== Sys2Proof/Machine/Check.lean ====
section
/-! DEFINITION. Reading the values that a commit would put in force (R36, R183). -/

namespace Sys2Proof.Machine

/-- A field as it would stand when the pages `ps` commit together: from the shadow on those pages, else in force. -/
def State.vget (s : State) (ps : List Nat) (p : Nat) (f : Fld) : Nat :=
  if ps.contains p then s.sget p f else s.fget p f

/-- A one-bit field of the same view. -/
def State.vbit (s : State) (ps : List Nat) (p : Nat) (f : Fld) : Bool := s.vget ps p f = 1

/-- A signed field of the same view. -/
def State.vgetI (s : State) (ps : List Nat) (p : Nat) (f : Fld) : Int := sgn f.w (s.vget ps p f)

/-- Whether a commit of `p` changes a field. -/
def State.changes (s : State) (p : Nat) (f : Fld) : Bool := s.sget p f != s.fget p f

/-- The reasons whose conditions hold. -/
def reasons (l : List (Bool × Nat)) : List Nat := (l.filter (·.1)).map (·.2)

/-- Whether two block ranges, given by first block and length, overlap. -/
def overlaps (a n b m : Nat) : Bool := a < b + m && b < a + n

end Sys2Proof.Machine
end

