-- ==== Sys2Proof/Machine/SafeCore.lean ====
section
/-! DEFINITION. The permit and the contactor groups (R393 to R399, R404, R418): group states, trips, safe-dark, the
READY conditions and the STATUS frame. -/

namespace Sys2Proof.Machine

/-- The code of a group state (R394). -/
def GState.code : GState → Nat
  | .start => 0
  | .safe => 1
  | .ready => 2
  | .closing => 3
  | .permit => 4
  | .opening => 5
  | .lockout => 6

/-- A contactor group. -/
def State.group (s : State) (g : Nat) : GroupSt := SMap.read {} s.safe.groups g

/-- Setting a contactor group. -/
def State.setGroup (s : State) (g : Nat) (x : GroupSt) : State :=
  { s with safe := { s.safe with groups := SMap.write {} s.safe.groups g x } }

/-- A demand input. -/
def State.input (s : State) (n : Nat) : InputSt := SMap.read {} s.safe.inputs n

/-- Setting a demand input. -/
def State.setInput (s : State) (n : Nat) (x : InputSt) : State :=
  { s with safe := { s.safe with inputs := SMap.write {} s.safe.inputs n x } }

/-- A receive connection. -/
def State.conn (s : State) (c : Nat) : ConnSt := SMap.read {} s.safe.conns c

/-- Setting a receive connection. -/
def State.setConn (s : State) (c : Nat) (x : ConnSt) : State :=
  { s with safe := { s.safe with conns := SMap.write {} s.safe.conns c x } }

/-- The groups, 0 to 3, in a state. -/
def State.groupsIn (s : State) (st : GState) : Nat :=
  maskOf ((List.range 4).filter (fun g => (s.group g).state = st))

/-- Light is permitted for a tile while its group is in PERMIT (R394). -/
def State.lightTile (s : State) (t : Nat) : Bool := (s.group (t / 4)).state = .permit

/-- Light is permitted for the device while any group is in PERMIT (R394). -/
def State.lightAny (s : State) : Bool := s.groupsIn .permit != 0

/-- A group is enabled while its bit is set in force on both pages (R394, R429). -/
def State.groupEn (s : State) (g : Nat) : Bool :=
  bit (s.fget pgSaf SAF.CTL.GROUP_EN) g && bit (s.fget pgGrd GRD.CTL.GROUP_EN) g

/-- PAIR_EN in force on either channel: either channel alone can take light away (R420). -/
def State.pairEn (s : State) : Bool := s.fbit pgSaf SAF.CTL.PAIR_EN || s.fbit pgGrd GRD.CTL.PAIR_EN

/-! ### Inputs and connections -/

/-- An input is used by SAF. -/
def State.inEnSaf (s : State) (n : Nat) : Bool := s.fbit pgSaf (SAF.IN_CFG.EN n)

/-- An input is used by GRD. -/
def State.inEnGrd (s : State) (n : Nat) : Bool := bit (s.fget pgGrd GRD.IN_MAP.EN) n

/-- The groups that an input demands of, over the channels that use it (R397). -/
def State.inGroups (s : State) (n : Nat) : Nat :=
  (if s.inEnSaf n then s.fget pgSaf (SAF.IN_CFG.MAP n) else 0) |||
  (if s.inEnGrd n then s.fget pgGrd (GRD.IN_MAP.MAP n) else 0)

/-- Whether either channel uses an input. -/
def State.inEn (s : State) (n : Nat) : Bool := s.inEnSaf n || s.inEnGrd n

/-- A demand of an input: a filtered low pin or a latched discrepancy (R400, R401). -/
def State.inDemand (s : State) (n : Nat) : Bool :=
  s.inEn n && (bit (s.fget pgSaf SAF.IN_STAT.DEMAND) n || bit (s.fget pgSaf SAF.IN_STAT.DISC) n)

/-- A receive connection is enabled on SAF (R402). -/
def State.rxEn (s : State) (c : Nat) : Bool :=
  if c = 0 then s.fbit pgSaf SAF.CTL.RX0_EN else s.fbit pgSaf SAF.CTL.RX1_EN

/-- A receive connection's watchdog runs on GRD. -/
def State.rxEnGrd (s : State) (c : Nat) : Bool :=
  if c = 0 then s.fbit pgGrd GRD.CONN.EN0 else s.fbit pgGrd GRD.CONN.EN1

/-- The groups that a connection serves on GRD. -/
def State.rxMapGrd (s : State) (c : Nat) : Nat :=
  if c = 0 then s.fget pgGrd GRD.CONN.MAP0 else s.fget pgGrd GRD.CONN.MAP1

/-- The groups a connection serves, over the channels that have it enabled. -/
def State.rxGroups (s : State) (c : Nat) : Nat :=
  (if s.rxEn c then s.fget pgSaf (SAF.RX_CFG.MAP c) else 0) ||| (if s.rxEnGrd c then s.rxMapGrd c else 0)

/-! ### SAFE_XOUT and the STATUS frame -/

/-- SAFE_XOUT is high only with PAIR_EN in force, no group in OPENING or LOCKOUT, no persisting demand other than
PARTNER, and outside reset (R418). -/
def State.xoutHigh (s : State) : Bool :=
  s.fbit pgSaf SAF.CTL.PAIR_EN && s.fbit pgGrd GRD.CTL.PAIR_EN &&
  s.groupsIn .opening = 0 && s.groupsIn .lockout = 0 &&
  (List.range 4).all (fun n => !s.inDemand n) &&
  (List.range 2).all (fun c => !(s.rxEn c && s.fget pgSaf (SAF.RX_STAT.DEMAND c) != 0))

/-- The body of a STATUS frame, bytes 0 to 23 (R402, R404). -/
def State.statusBody (s : State) (seq : Nat) : List Nat :=
  let payload := (List.range 4).foldl (fun v g => v + (s.group g).state.code * 8 ^ g) 0 +
    s.fget pgSaf SAF.TRIP_INFO.CAUSE * 2 ^ 12 + s.fget pgSaf SAF.MSG_STAT.SYMBOL * 2 ^ 17 +
    b2n s.safe.msgRefused * 2 ^ 23
  let head := leBytes (s.fget pgSaf SAF.TX_ID.CONN_ID) 4 ++ leBytes seq 2 ++ [3, 0] ++
    leBytes (s.now % 2 ^ 48) 6 ++ leBytes (s.fget pgSaf SAF.TX_CFG.WINDOW_US) 2 ++ leBytes payload 4
  head ++ leBytes (crc32cSeeded (s.fget pgSaf SAF.TX_SEED.SEED) head) 4

/-- SAF sends a STATUS frame when TX_EN = 1: its SEQ advances (R404). -/
def State.sendStatus (s : State) : State :=
  if s.fbit pgSaf SAF.CTL.TX_EN && s.domOn 1 then
    let seq := (s.fget pgSaf SAF.TX_STAT.SEQ + 1) % 65536
    let body := s.statusBody seq
    let s := (s.fset pgSaf SAF.TX_STAT.SEQ seq).emit (.safetyFrame body)
    { s with safe := { s.safe with lastStatus := s.mono, msgRefused := false } }
  else s

/-- A change of group state sends a STATUS frame within 1 ms (R399, R404). -/
def State.statusIfMoved (s old : State) : State :=
  if (List.range 4).any (fun g => (s.group g).state ≠ (old.group g).state) then s.sendStatus else s

/-! ### Trips (R397 to R399) -/

/-- The lockout causes of R397's table. -/
def isLockoutCause (c : Nat) : Bool :=
  c = 2 || c = 5 || c = 6 || c = 7 || c = 8 || c = 12 || c = 13 || c = 15 || c = 16 || c = 19

/-- A group enters LOCKOUT, by any path (R398). -/
def State.enterLockout (s : State) (g cause : Nat) : State :=
  let s := s.setGroup g { s.group g with
    state := .lockout, since := s.mono, lockCause := 0, swA := false, swB := false }
  let s := (s.fset pgSaf (SAF.LOCK_CAUSE.CAUSE g) cause).finc pgSaf SAF.TRIP_CNT.LOCKOUTS
  s.evt pgSaf 10

/-- The tiles of a group. -/
def tilesOfGroup (g : Nat) : List Nat := [4 * g, 4 * g + 1, 4 * g + 2, 4 * g + 3]

/-- The port stops delivering: the frame in delivery is not resumed, and TILE_LIVE clears (R17). -/
def State.stopPort (s : State) (t : Nat) : State :=
  let s := s.setTileLive t false
  s.setDud t { s.dud t with
    delivering := none, round := 0, awaited := 0, incomplete := 0, missing := [], complete := false }
    |>.frameDoneCheck

/-- The operations of a port are abandoned; an ENUMERATE leaves it IDLE (R374, R565). -/
def State.abandonRing (s : State) (t : Nat) : State :=
  let s := s.stopPort t
  let s := s.setDud t { s.dud t with ops := [] }
  if s.fget (pgDud t) DUD.STAT.STATE = 2 then s.fset (pgDud t) DUD.STAT.STATE 1 else s.showRing t

/-- The device enters a state of R477. -/
def State.setPairState (s : State) (st : Nat) : State :=
  if s.pairState = st then s else (s.fset pgPair PAIR.STAT.STATE st).evt pgPair 8

/-- The device lets go of every sink of a port. -/
def State.disown (s : State) (t : Nat) : State :=
  let s := s.abandonRing t
  let s := s.setDud t { s.dud t with live := 0, lost := 0, owned := 0, rejoin := 0, joinDue := false, darkDue := false }
  ((s.fset (pgDud t) DUD.STAT.SPLIT 0).fset (pgDud t) DUD.SPLIT.LO 0).fset (pgDud t) DUD.SPLIT.HI 0 |>.showRing t

/-- A superseded owner withdraws: DSYNC and PMBus are released, and no MIRROR message is sent apart from HEARTBEAT
(R477, R499). -/
def State.demote (s : State) : State :=
  if s.pairActive then
    let s := (List.range 16).foldl State.disown s
    let s := { s with
      pair := { s.pair with queue := [] }
      gaf := { s.gaf with queues := [], retries := [] } }
    (s.fset pgPair PAIR.RESYNC_STAT.BUSY 0).setPairState 5
  else s

/-- Safe-dark of a tile: DARK goes to the live sinks of its port, no DRIVE packet follows until R569 allows it, and
TILE_LIVE clears (R17, R399). -/
def State.darkTile (s : State) (t : Nat) : State :=
  let s := (s.stopPort t).startOn t .dark (s.dud t).live
  s.showRing t

/-- A group opens: its tiles are blank and dark, both switches off (R399). -/
def State.openGroup (s : State) (g lockCause : Nat) : State :=
  let s := s.setGroup g { s.group g with
    state := .opening, since := s.mono, lockCause := lockCause, swA := false, swB := false }
  let keep := 0xF - 1 <<< g
  let s := { s with
    safe := { s.safe with permitNow := s.safe.permitNow &&& keep, permitPrev := s.safe.permitPrev &&& keep }
    time := { s.time with disturbed := true } }
  (tilesOfGroup g).foldl State.darkTile s

/-- What a cause does to one group (R398). -/
def State.tripGroup (lock : Bool) (cause : Nat) (s : State) (g : Nat) : State :=
  let x := s.group g
  match x.state with
  | .ready | .closing | .permit => s.openGroup g (if lock then cause else 0)
  | .opening => if lock && x.lockCause = 0 then s.setGroup g { x with lockCause := cause } else s
  | .safe => if lock && s.groupEn g then s.enterLockout g cause else s
  | .start | .lockout => s

/-- Which channels' records name the cause: the detecting channels', and the other's by the hard-wired line (R398). -/
def State.recordTrip (s : State) (cause moved : Nat) : State :=
  let s := (s.finc pgSaf SAF.TRIP_CNT.TRIPS).finc pgGrd GRD.CNT.TRIPS
  let s := (s.fset pgSaf SAF.TRIP_INFO.CAUSE cause).fset pgSaf SAF.TRIP_INFO.GROUPS moved
  let s := s.fset pgGrd GRD.STAT.LAST_CAUSE cause
  (s.evt pgSaf 8).evt pgGrd 8

/-- A cause meets the groups of a mask (R397, R398): a trip is counted and recorded only when a group enters OPENING. -/
def State.tripWith (s : State) (lock : Bool) (cause groups : Nat) : State :=
  let moved := groups &&& (s.groupsIn .ready ||| s.groupsIn .closing ||| s.groupsIn .permit)
  let s' := (bitsSet groups 4).foldl (State.tripGroup lock cause) s
  let s' := if moved != 0 then s'.recordTrip cause moved else s'
  s'.statusIfMoved s

/-- A cause with the outcome of R397's table. -/
def State.trip (s : State) (cause groups : Nat) : State := s.tripWith (isLockoutCause cause) cause groups

/-! ### OPENING ends, READY comes and goes (R394, R395) -/

/-- FB shows open in OPENING: the group enters SAFE, or LOCKOUT when a lockout cause met it (R394). -/
def State.openingDone (s : State) (g : Nat) : State :=
  let x := s.group g
  if x.state = .opening && x.fbOpen then
    if x.lockCause = 0 then s.setGroup g { x with state := .safe, since := s.mono }
    else s.enterLockout g x.lockCause
  else s

/-- The GRD values in force agree with the SAF values in force (R426). -/
def State.grdAgrees (s : State) : Bool :=
  s.fget pgSaf SAF.CTL.GROUP_EN = s.fget pgGrd GRD.CTL.GROUP_EN &&
  s.fget pgSaf SAF.CTL.PAIR_EN = s.fget pgGrd GRD.CTL.PAIR_EN &&
  (List.range 4).all (fun n => s.inEnSaf n = s.inEnGrd n &&
    s.fget pgSaf (SAF.IN_CFG.MAP n) = s.fget pgGrd (GRD.IN_MAP.MAP n)) &&
  s.fget pgSaf SAF.IN_TIMING.FILTER_US = s.fget pgGrd GRD.TIMING.FILTER_US &&
  s.fget pgSaf SAF.IN_TIMING.DISC_MS = s.fget pgGrd GRD.TIMING.DISC_MS &&
  (List.range 2).all (fun c => s.rxEn c = s.rxEnGrd c &&
    s.fget pgSaf (SAF.RX_CFG.MAP c) = s.rxMapGrd c &&
    s.fget pgSaf (SAF.RX_CFG.WD_MS c) = (if c = 0 then s.fget pgGrd GRD.CONN.WD0_MS else s.fget pgGrd GRD.CONN.WD1_MS))

/-- System time is locked (R140, R395): the device is LOCKED, in HOLDOVER or ROOT. -/
def State.timeLocked (s : State) : Bool :=
  let st := s.fget pgTime TIME.SYNC_STAT.STATE
  st = 2 || st = 3 || st = 4

/-- The copy of the matte in force has been verified, and MATTE_OK = 1 (R249, R395). -/
def State.matteReady (s : State) : Bool :=
  s.fbit pgMatte MATTE.STAT.MATTE_OK &&
  (if s.fget pgMatte MATTE.CTL.ACTIVE = 0 then s.fbit pgMatte MATTE.STAT.VERIFIED0
   else s.fbit pgMatte MATTE.STAT.VERIFIED1)

/-- SAF runs: its domain is ON and its image has been started (R396). -/
def State.safRuns (s : State) : Bool := s.domOn 1 && s.boot.safRunning

/-- The conditions of R395 for a group, without the 50 ms of low SAFE_RESET. -/
def State.readyHolds (s : State) (g : Nat) : Bool :=
  s.groupEn g && s.safRuns &&
  (List.range 4).all (fun n => !(bit (s.inGroups n) g && s.inDemand n)) &&
  (List.range 2).all (fun c => !(bit (s.rxGroups c) g &&
    (!s.fbit pgSaf (SAF.RX_STAT.ALIVE c) || bit (s.fget pgSaf (SAF.RX_STAT.DEMAND c)) g))) &&
  (s.group g).fbOpen && !(s.group g).mid && !(s.group g).outp &&
  s.timeLocked && s.matteReady && (!s.pairEn || s.safe.xinHigh) && s.grdAgrees && s.safe.handover.isNone

/-- SAFE_RESET has been low for at least 50 ms (R395). -/
def State.resetLowLong (s : State) : Bool :=
  !s.safe.rstHigh && (s.safe.rstLowHeld || s.safe.rstFall + 50000000 ≤ s.mono)

/-- One group between SAFE and READY (R394, R395). -/
def State.evalGroup (s : State) (g : Nat) : State :=
  let x := s.group g
  match x.state with
  | .safe =>
    if s.readyHolds g && s.resetLowLong then
      (s.setGroup g { x with state := .ready, since := s.mono }).evt pgSaf 11
    else s
  | .ready => if s.readyHolds g then s else s.setGroup g { x with state := .safe, since := s.mono }
  | _ => s

/-- Every group is judged: OPENING that shows open ends, and SAFE and READY follow the conditions of R395. -/
def State.evalGroups (s : State) : State :=
  let s' := (List.range 4).foldl State.openingDone s
  let s' := (List.range 4).foldl State.evalGroup s'
  s'.statusIfMoved s

/-- The hard blank on a tile, from any of its sources (R265, R396). -/
def State.blanked (s : State) (t : Nat) : Bool :=
  !s.lightTile t || s.fbit (pgDud t) DUD.HB.FORCE || !s.domOn (15 + portGroup t)

end Sys2Proof.Machine
end

