-- ==== Sys2Proof/Machine/Flt.lean ====
section
/-! DEFINITION. The fault collector (R365 to R375): reports, first-error capture, classes and reactions. -/

namespace Sys2Proof.Machine

/-- Whether a source's pair is broken (R368). -/
def State.wireBroken (s : State) (src : Nat) : Bool := bit (s.fget pgFlt (FLT.BROKEN.SOURCES (src / 32))) (src % 32)

/-- A report while a capture is held is merged (R371). -/
def State.mergeReport (s : State) (e : ErrRec) : State :=
  let s := s.fadd pgFlt FLT.CAPT_SEQ.MERGE_CNT e.count
  let f := FLT.MERGE_SRC.SOURCES (e.src / 32)
  s.fset pgFlt f (s.fget pgFlt f ||| 1 <<< (e.src % 32))

/-- The first report is captured: the record, the time and the sequence number (R370). -/
def State.captureReport (s : State) (e : ErrRec) (broken : Bool) : State :=
  let s := (((((s.fset pgFlt FLT.CAPT_STAT.VALID 1).fsetB pgFlt FLT.CAPT_STAT.BROKEN broken).fset pgFlt
    FLT.CAPT_STAT.CLASS e.cls).fset pgFlt FLT.CAPT_STAT.TYPE e.typ).fset pgFlt FLT.CAPT_STAT.SOURCE e.src).fset
    pgFlt FLT.CAPT_STAT.MASTER e.master
  let s := ((s.fset pgFlt FLT.CAPT_STAT.SPACE e.space).fset pgFlt FLT.CAPT_STAT.COUNT e.count).fset
    pgFlt FLT.CAPT_ADDR.ADDR e.addr
  let s := (s.fset64 pgFlt FLT.CAPT_TIME_LO.NS FLT.CAPT_TIME_HI.NS s.now).fset pgFlt FLT.CAPT_SYND.SYNDROME e.synd
  let s := (s.fset pgFlt FLT.CAPT_SYND.KIND e.kind).fwrap pgFlt FLT.CAPT_SEQ.SEQ
  s.evt pgFlt 14

/-- A report counts COUNT errors in its class, in its source's count and in its page's FAULT (R373, R386, R387). -/
def State.countReport (s : State) (e : ErrRec) : State :=
  let s := s.fadd pgFlt (FLT.CLASS_CNT.COUNT e.cls) e.count
  if e.src < 0x80 then s.faultCount e.src e.count
  else if e.src < 0x85 then s.fadd pgFlt (FLT.SRC_CNT.COUNT (e.src - 0x80)) e.count
  else s

/-- The sources that are never block-reset (R374). -/
def neverReset (src : Nat) : Bool :=
  src = 0 || src = 1 || src = 2 || src = 3 || src = 4 || src = 6 || src = 7 || src = 0xB || src = 0xA || src = 9 ||
  src = 0x80 || src = 0x84

/-- A FATAL report signals PAIR: the ACTIVE device of a pair sends YIELD with the source (R373, R494). -/
def State.signalPair (s : State) (src : Nat) : State := s.mirrorActive (.yield_ 1 src)

/-- A block reset abandons the block's work in flight and empties its internal queues; its page, locks and counters stay
(R374). The reason of a command abandoned so is a free value. -/
def State.blockReset (s : State) (src : Nat) : State :=
  let (reason, s) := s.fresh 8
  let s := s.cmdFail src reason.toNat
  match pageOf src with
  | some (.cmp, _) =>
    { s with cmp := { s.cmp with capturing := none, armed := false, gone := [], late := [] } }.fset pgCmp CMP.CAP_STAT.BUSY 0
  | some (.pe, q) =>
    let perTile := 4 * 3072 * sinksPerRing (s.fbit pgSys SYS.FIELD_STAT.AIM_NOW)
    { s with cad := { s.cad with codes := s.cad.codes.filter (fun e => portGroup (e.1 / perTile) != q) } }
  | some (.cad, _) =>
    ({ s with cad := { s.cad with rebuild := none, copy := none, exchange := false } }.fset pgCad
      CAD.STAT.REBUILD_BUSY 0).fset pgCad CAD.STAT.COPY_BUSY 0
  | some (.matte, _) => s.fset pgMatte MATTE.STAT.VERIFY_BUSY 0
  | some (.scal, _) =>
    ({ s with scal := { s.scal with run := none, cmdUnits := 0, cmdFailed := false } }.fset pgScal SCAL.STAT.BUSY 0).fset
      pgScal SCAL.STAT.UNIT 0
  | some (.dud, t) => s.abandonRing t
  | some (.gaf, _) => { s with gaf := { s.gaf with queues := [], retries := [] } }
  | some (.diag, _) =>
    { s with diag := { s.diag with
        requests := [], due := [], inFlight := [], reports := [], initTiles := 0 } }.fset pgDiag DIAG.STAT.CMD_RUN 0
  | some (.link, n) =>
    let s := { s with links := SMap.del s.links n }
    if n = 0 then { s with transport := { s.transport with ingest := [] } } else s
  | some (.chk, c) => { s with chks := SMap.del s.chks c }
  | some (.reel, q) => { s with reels := SMap.del s.reels q }
  | _ =>
    if src = 0x81 then { s with transport := { s.transport with ingest := [] } }
    else if src = 0x82 then { s with mem := { s.mem with writeBack := [] } }
    else s

/-- The reactions of a report's class (R373). A SAFETY report from a broken wire trips with a lockout (R397). -/
def State.react (s : State) (e : ErrRec) (broken : Bool) : State :=
  let s := if e.cls = 3 || s.fget pgFlt (FLT.REACT.SAFE_DARK e.cls) = 1 then s.tripWith broken 14 0xF else s
  let s := if e.cls = 4 then s.signalPair e.src else s
  let s := if s.fget pgFlt (FLT.REACT.IRQ e.cls) = 1 then s.evt pgFlt (8 + e.cls) else s
  if s.fget pgFlt (FLT.REACT.BLOCK_RESET e.cls) = 1 then
    if neverReset e.src then s.finc pgFlt FLT.MISC.NO_RESET else s.blockReset e.src
  else s

/-- FLT takes in a report: captured or merged, counted, and reacted to, in every case (R370 to R373). -/
def State.intake (s : State) (e : ErrRec) (broken : Bool) : State :=
  let s := if s.fbit pgFlt FLT.CAPT_STAT.VALID then s.mergeReport e else s.captureReport e broken
  (s.countReport e).react e broken

/-- Collecting an error at its source by class: the first record stands, COUNT grows to at most 255 (R367). -/
def collectErr (l : List ErrRec) (e : ErrRec) : List ErrRec :=
  match l with
  | [] => [{ e with count := min e.count 255 }]
  | x :: r =>
    if x.src = e.src ∧ x.cls = e.cls then { x with count := min (x.count + e.count) 255 } :: r
    else x :: collectErr r e

/-- The order in which collected reports are sent (R367). -/
def sendOrder (l : List ErrRec) : List ErrRec :=
  [3, 4, 1, 2, 0].flatMap (fun c => l.filter (fun e => e.cls = c))

/-- A block reports an error: a source with a broken wire holds it back, any other hands it over at once
(R367, R368). -/
def State.report (s : State) (e : ErrRec) : State :=
  if s.wireBroken e.src then { s with flt := { s.flt with held := collectErr s.flt.held e } }
  else s.intake e false

/-- A report of class DROP without an address. -/
def State.reportDrop (s : State) (src : Nat) : State := s.report { src := src, cls := 1 }

/-- A report of class USAGE: the block was misused. -/
def State.reportUsage (s : State) (src master typ space addr : Nat) : State :=
  s.report { src := src, cls := 2, typ := typ, space := space, addr := addr, master := master }

/-- A source's wire breaks (R368); one that is broken already stays so. -/
def State.breakWire (s : State) (src : Nat) : State :=
  if s.wireBroken src then s
  else
    let f := FLT.BROKEN.SOURCES (src / 32)
    let s := s.fset pgFlt f (s.fget pgFlt f ||| 1 <<< (src % 32))
    (s.evt pgFlt 13).intake { src := src, cls := 3 } true

/-- A source's wire works again: the bit clears, and the errors it held are taken in R367's order (R368). -/
def State.mendWire (s : State) (src : Nat) : State :=
  let f := FLT.BROKEN.SOURCES (src / 32)
  let s := s.fset pgFlt f (s.fget pgFlt f &&& (0xFFFFFFFF - 1 <<< (src % 32)))
  let mine := s.flt.held.filter (fun e => e.src = src)
  let s := { s with flt := { s.flt with held := s.flt.held.filter (fun e => e.src ≠ src) } }
  (sendOrder mine).foldl (fun s e => s.intake e false) s

/-- A write to CAPT_ACK with the present SEQ releases the capture (R372). -/
def State.captAck (s : State) (seq : Nat) : State :=
  if seq = s.fget pgFlt FLT.CAPT_SEQ.SEQ then
    let s := (s.fset pgFlt FLT.CAPT_STAT.VALID 0).fset pgFlt FLT.CAPT_SEQ.MERGE_CNT 0
    (List.range 5).foldl (fun s m => s.fset pgFlt (FLT.MERGE_SRC.SOURCES m) 0) s
  else s

end Sys2Proof.Machine
end

