-- ==== Sys2Proof/Machine/Reel.lean ====
section
/-! DEFINITION. The packet queues (R379 to R385, R392) and the check-value channels (R377, R378). -/

namespace Sys2Proof.Machine

/-- A reel. -/
def State.reel (s : State) (q : Nat) : ReelSt := SMap.read {} s.reels q

/-- Setting a reel. -/
def State.setReel (s : State) (q : Nat) (r : ReelSt) : State := { s with reels := SMap.write {} s.reels q r }

/-- Setting a position together with its complement (R385). -/
def ReelSt.withRd (r : ReelSt) (v : Nat) : ReelSt := { r with rd := BitVec.ofNat 16 v, rdC := ~~~ BitVec.ofNat 16 v }
def ReelSt.withWr (r : ReelSt) (v : Nat) : ReelSt := { r with wr := BitVec.ofNat 16 v, wrC := ~~~ BitVec.ofNat 16 v }
def ReelSt.withCm (r : ReelSt) (v : Nat) : ReelSt := { r with cm := BitVec.ofNat 16 v, cmC := ~~~ BitVec.ofNat 16 v }

/-- The duplicated positions agree (R385). -/
def ReelSt.pointersOk (r : ReelSt) : Bool := r.rdC = ~~~ r.rd && r.wrC = ~~~ r.wr && r.cmC = ~~~ r.cm

/-- Words of a region in force. -/
def State.reelSize (s : State) (q : Nat) : Nat := s.fget (pgReel q) REEL.CFG.SIZE

/-- The SRAM word of an offset in a reel's region. -/
def State.reelAddr (s : State) (q off : Nat) : Nat :=
  s.fget (pgReel q) REEL.CFG.BASE + off % s.reelSize q

/-- Words occupied, the open packet included from its first word (R380, R390). -/
def ReelSt.used (r : ReelSt) : Nat :=
  r.packets.foldl (fun n l => n + l + 1) 0 + (if r.openLen = 0 then 0 else r.openLen + 1)

/-- Free words. -/
def State.reelSpace (s : State) (q : Nat) : Nat := s.reelSize q - (s.reel q).used

/-- One word of the queue SRAM. -/
def State.setSram (s : State) (a : Nat) (w : Word) : State :=
  { s with sram := { s.sram with words := SMap.write 0 s.sram.words a w } }

/-- Rewinding the open packet: the write position returns to the packet's start, and CNT.ABORTS counts (R380). -/
def State.reelRewind (s : State) (q : Nat) : State :=
  let r := s.reel q
  (s.setReel q ({ r with openLen := 0 }.withWr r.cm.toNat)).finc (pgReel q) REEL.CNT.ABORTS

/-- Whether the next word would exceed a packet's limits (R381). -/
def State.reelTooLong (s : State) (q : Nat) : Bool :=
  (s.reel q).openLen + 1 > 1024 || (s.reel q).openLen + 1 > s.reelSize q - 1

/-- Whether the next word finds no free space; the first word of a packet brings its header word along (R380, R381). -/
def State.reelFull (s : State) (q : Nat) : Bool :=
  !(s.reel q).discard && !s.reelTooLong q &&
  s.reelSpace q < (if (s.reel q).openLen = 0 then 2 else 1)

/-- A word enters the open packet; one too many rewinds the packet, and the words that follow up to END or ABORT are
discarded (R381). -/
def State.reelWord (s : State) (q : Nat) (w : Word) : State :=
  let r := s.reel q
  if r.discard then s
  else if s.reelTooLong q then
    let s := s.reelRewind q
    let s := (s.setReel q { s.reel q with discard := true }).finc (pgReel q) REEL.CNT2.TOO_LONG
    s.evt (pgReel q) 10
  else
    let at_ := r.cm.toNat + 1 + r.openLen
    let s := s.setSram (s.reelAddr q at_) w
    s.setReel q ({ r with openLen := r.openLen + 1 }.withWr ((at_ + 1) % s.reelSize q))

/-- END commits the open packet; on none it counts as USAGE; after TOO_LONG it commits nothing (R380, R381, R383). -/
def State.reelEnd (s : State) (q : Nat) : State :=
  let r := s.reel q
  if r.discard then s.setReel q { r with discard := false }
  else if r.openLen = 0 then s.usage (pgReel q)
  else
    let s := s.setSram (s.reelAddr q r.cm.toNat) (BitVec.ofNat 32 r.openLen)
    let s := s.setReel q ({ r with openLen := 0, packets := r.packets ++ [r.openLen] }.withCm r.wr.toNat)
    (s.finc (pgReel q) REEL.CNT.PACKETS_IN).evt (pgReel q) 8

/-- ABORT rewinds the open packet and ends the discarding after TOO_LONG (R380, R381). -/
def State.reelAbort (s : State) (q : Nat) : State :=
  let s := s.reelRewind q
  s.setReel q { s.reel q with discard := false }

/-- A whole packet goes into a reel, word by word, and is committed. -/
def State.reelPacket (s : State) (q : Nat) (ws : List Nat) : State :=
  (ws.foldl (fun s w => s.reelWord q (BitVec.ofNat 32 w)) s).reelEnd q

/-- A hardware producer offers a packet: one that is not the reel's producer has it discarded and counted; without
space it stalls (R379, R381). -/
def State.reelPush (s : State) (q master : Nat) (ws : List Nat) : State :=
  if !s.fbit (pgReel q) REEL.BIND.PROD_HW && s.fget (pgReel q) REEL.BIND.PRODUCER ≠ master then
    s.finc (pgReel q) REEL.CNT.ABORTS
  else if ws.isEmpty then s
  else
    let r := s.reel q
    if r.stalled.isEmpty && (ws.length > 1024 || ws.length > s.reelSize q - 1 || ws.length + 1 ≤ s.reelSpace q) then
      s.reelPacket q ws
    else s.setReel q { r with stalled := r.stalled ++ [ws] }

/-- The oldest stalled packet of a hardware producer proceeds once it fits. -/
def State.reelUnstall (s : State) (q : Nat) : State :=
  let r := s.reel q
  match r.stalled with
  | [] => s
  | ws :: rest =>
    if ws.length + 1 ≤ s.reelSpace q then (s.setReel q { r with stalled := rest }).reelPacket q ws else s

/-- The SRAM blocks of a reel's head. -/
def State.headBlocks (s : State) (q : Nat) : List Nat :=
  let r := s.reel q
  match r.packets with
  | [] => []
  | l :: _ => (List.range (l + 1)).map (fun i => s.reelAddr q (r.rd.toNat + i) / 8)

/-- A block of the head is known to be poisoned (R384). -/
def State.headPoison (s : State) (q : Nat) : Bool := (s.headBlocks q).any (fun b => s.sram.poison.contains b)

/-- A read of RD_DATA: the head's next word; beyond LEN it returns 0 and counts as USAGE; a poisoned word reads as 0,
sets POISON, and is reported once per block as DROP (R382, R384). -/
def State.reelRead (s : State) (q : Nat) : Word × State :=
  let r := s.reel q
  match r.packets with
  | [] => (0, s.usage (pgReel q))
  | l :: _ =>
    if l ≤ r.pos then (0, s.usage (pgReel q))
    else
      let a := s.reelAddr q (r.rd.toNat + 1 + r.pos)
      let r' := { r with pos := r.pos + 1 }
      if s.sram.poison.contains (a / 8) then
        let seen := r.poisonSeen.contains (a / 8)
        let s := (s.setReel q { r' with poisonRead := true, poisonSeen := a / 8 :: r.poisonSeen }).evt (pgReel q) 11
        (0, if seen then s else s.report { src := pgReel q, cls := 1, typ := 1, space := 3, addr := a, kind := 2 })
      else (SMap.read 0 s.sram.words a, s.setReel q r')

/-- RD_CTL MARK (R382). -/
def State.reelMark (s : State) (q : Nat) : State := s.setReel q { s.reel q with mark := some (s.reel q).pos }

/-- RD_CTL REWIND (R382). -/
def State.reelRewindRead (s : State) (q : Nat) : State :=
  s.setReel q { s.reel q with pos := (s.reel q).mark.getD 0 }

/-- RD_CTL RELEASE frees the head, read or not (R382). -/
def State.reelRelease (s : State) (q : Nat) : State :=
  let r := s.reel q
  match r.packets with
  | [] => s
  | l :: rest =>
    s.setReel q ({ r with packets := rest, pos := 0, mark := none, poisonRead := false, poisonSeen := [] }.withRd
      ((r.rd.toNat + l + 1) % s.reelSize q))

/-- The reel is emptied: positions at BASE, every packet and the open packet discarded, the mark cleared
(R385, R392). -/
def State.reelEmpty (s : State) (q : Nat) : State := s.setReel q {}

/-- A mismatch of the duplicated positions resets the reel and is reported (R385). -/
def State.reelPtrReset (s : State) (q : Nat) : State :=
  let s := ((s.reelEmpty q).finc (pgReel q) REEL.CNT2.RESETS).evt (pgReel q) 9
  s.reportDrop (pgReel q)

/-! ### Check-value channels -/

/-- A channel. -/
def State.chk (s : State) (c : Nat) : ChkSt := SMap.read {} s.chks c

/-- Setting a channel. -/
def State.setChk (s : State) (c : Nat) (x : ChkSt) : State := { s with chks := SMap.write {} s.chks c x }

/-- Bytes into a channel; they are processed before the next command (R377). -/
def State.chkFeed (s : State) (c : Nat) (bs : List Nat) : State :=
  (s.setChk c { crc := crcBytes (s.chk c).crc bs }).fadd (pgChk c) CHK.STAT.BYTES bs.length

/-- The SEAL command (R378). -/
def State.chkSeal (s : State) (c : Nat) : State :=
  let p := pgChk c
  let r := (s.chk c).crc
  let alive := s.fget p CHK.ALIVE.COUNT
  let result := crcByte r alive ^^^ 0xFFFFFFFF
  let s := ((s.fset p CHK.RAW.CRC (r ^^^ 0xFFFFFFFF)).fset p CHK.RESULT.CRC result).fset p CHK.STAT.ALIVE_USED alive
  let s :=
    if s.fbit p CHK.CTL.CHECK_EN then
      if result = s.fget p CHK.EXPECT.CRC then s.fset p CHK.STAT.MATCH 1
      else ((s.fset p CHK.STAT.MATCH 0).finc p CHK.SEALS.MISMATCH).evt p 9
    else s
  let s := (s.fset p CHK.ALIVE.COUNT (alive + 1)).setChk c { crc := s.fget p CHK.SEED.SEED }
  ((s.fset p CHK.STAT.BYTES 0).finc p CHK.SEALS.SEALS).evt p 8

/-- The RESTART command (R378). -/
def State.chkRestart (s : State) (c : Nat) : State :=
  (s.setChk c { crc := s.fget (pgChk c) CHK.SEED.SEED }).fset (pgChk c) CHK.STAT.BYTES 0

end Sys2Proof.Machine
end

