-- ==== Sys2Proof/Machine/Scal.lean ====
section
/-! DEFINITION. Self-calibration (R460 to R474) and the compensation of the islands (R455). -/

namespace Sys2Proof.Machine

/-! ### Units (R447, R460) -/

/-- The sensor of a unit (R460). -/
def sensorOf (u : Nat) : Nat :=
  if u < 2 then 10 else if u < 5 then u + 4 else if u < 8 then u + 1 else if u = 8 then 11 else u - 9

/-- Islands, numbered PE0 to PE3, DUDG0 to DUDG3, CMP, MEM, ARB, INGEST, LINK0 to LINK5, MGT, SAF, GRD, FLT, AON, that a
sensor compensates (R447). -/
def islandsOf (n : Nat) : List Nat :=
  if n < 4 then [n, 4 + n]
  else match n with
    | 4 => [8]
    | 5 => [9, 10, 11]
    | 6 => [12, 13]
    | 7 => [14, 15]
    | 8 => [16, 17]
    | 9 => [18, 19]
    | 10 => [20, 21]
    | _ => [22]

/-- The domain of an island. -/
def islandDomain (i : Nat) : Nat :=
  if i < 4 then 4 + i else if i < 8 then 11 + i else if i = 8 then 3 else if i < 12 then 8 else if i < 18 then i - 3
  else if i = 18 then 2 else if i = 19 then 1 else 0

/-- The domain of interpolator `i` (R460). -/
def interpDomain (i : Nat) : Nat :=
  if i < 16 then 15 + portGroup i else if i < 40 then 9 + (i - 16) / 4 else 9 + (i - 40) / 4

/-- Setting pending bits (R464). -/
def State.scalPend (s : State) (m : Nat) : State :=
  s.fset pgScal SCAL.PENDING.UNITS (s.fget pgScal SCAL.PENDING.UNITS ||| m % 2 ^ 21)

/-- The units of a sensor. -/
def unitsOf (n : Nat) : List Nat := (List.range 21).filter (fun u => sensorOf u = n)

/-- The interpolator units with a member in a domain that has come ON run again, and trims that waited are taken (R455,
R464). -/
def State.scalDomainOn (s : State) (d : Nat) : State :=
  let units := (List.range 64).filter (fun i => interpDomain i = d)
  let s := s.scalPend (maskOf (units.map (· / 8)))
  let here := maskOf ((List.range 23).filter (fun i => islandDomain i = d))
  { s with scal := { s.scal with trimDue := s.scal.trimDue &&& (0x7FFFFF - here) } }

/-- A valid reading of a sensor updates the trims of its islands; TS11 moves the bandgap correction, which follows the
median of the others while TS11 is broken (R455). -/
def State.compensate (s : State) (n value : Nat) : State :=
  let s := (islandsOf n).foldl (fun s i =>
    let s := match SMap.read none s.scal.oscs i with
      | some o => { s with scal := { s.scal with oscs := SMap.write none s.scal.oscs i (some { o with temp := value }) } }
      | none => s
    if s.domOn (islandDomain i) then s
    else { s with scal := { s.scal with trimDue := s.scal.trimDue ||| 1 <<< i } }) s
  if n = 11 then { s with scal := { s.scal with bandgapTemp := some value } } else s

/-- What a sensor's valid reading sets pending: drift beyond TEMP_DELTA since the last completed run (R464). -/
def State.scalReading (s : State) (n value : Nat) : State :=
  let t := sgn 16 value
  let us := (unitsOf n).filter (fun u => bit s.scal.completed u &&
    s.fget pgScal SCAL.CTL.TEMP_DELTA < (t - s.fgetI pgScal (SCAL.UNIT_STAT.TEMP u)).natAbs)
  s.scalPend (maskOf us)

/-- A unit whose sensor is broken runs once in 60 s (R464). -/
def State.scalBroken (s : State) (n : Nat) : State :=
  s.scalPend (maskOf ((unitsOf n).filter (fun u => SMap.read 0 s.scal.lastRun u + 60000000000 ≤ s.mono)))

/-! ### Runs (R465 to R467) -/

/-- Members of a unit that are in the run: skipped are interpolators whose domain is not ON (R466). -/
def State.scalMembers (s : State) (u : Nat) : List Nat :=
  if u < 8 then ((List.range 8).map (fun k => 8 * u + k)).filter (fun i => s.domOn (interpDomain i)) else [0]

/-- SCAL_RUN_START: the pending unit with the lowest number starts (R465). -/
def State.scalRunStart (s : State) : State :=
  match s.scal.run, (bitsSet (s.fget pgScal SCAL.PENDING.UNITS) 21).head? with
  | none, some u =>
    if !s.fbit pgScal SCAL.CTL.EN then s
    else
      let s := s.fset pgScal SCAL.PENDING.UNITS (s.fget pgScal SCAL.PENDING.UNITS &&& (0x1FFFFF - 1 <<< u))
      let n := sensorOf u
      let s := if s.fbit pgThm (THM.TS.VALID n) && !s.fbit pgThm (THM.TS.BROKEN n) then
          s.fset pgScal (SCAL.UNIT_STAT.TEMP u) (s.fget pgThm (THM.TS.VALUE n))
        else s
      let s := (s.fset pgScal SCAL.STAT.BUSY 1).fset pgScal SCAL.STAT.UNIT u
      { s with scal := { s.scal with run := some { unit := u } } }
  | _, _ => s

/-- The table of an interpolator from its hits (R461): 1,562.5 ps × (hits in taps 0 to *k* − 1) / 2²⁰, in 1/64 ps. -/
def State.interpTable (s : State) (hits : List Nat) : List Nat × State :=
  let r := hits.foldl (fun (a : Nat × List Nat × State) h =>
    let (v, s) := a.2.2.roundFree (100000 * a.1) 1048576
    (a.1 + h, v.toNat :: a.2.1, s)) (0, [], s)
  (r.2.1.reverse, r.2.2)

/-- A member has failed while its group's spare is good: the spare replaces it for good (R467). -/
def State.useSpare (s : State) (g m : Nat) : State :=
  let s := { s with scal := { s.scal with
    replaced := SMap.write none s.scal.replaced g (some m), spareGood := s.scal.spareGood &&& (0x1FF - 1 <<< g) } }
  let s := if g < 8 then s.fset pgScal SCAL.SPARE.IG (s.fget pgScal SCAL.SPARE.IG ||| 1 <<< g)
    else s.fset pgScal SCAL.SPARE.MADC 1
  s.evt pgScal 12

/-- What a member's calibration does to the run: a failed member is reported and perhaps replaced (R467). -/
def State.memberResult (s : State) (r : ScalRun) (m : Nat) (ok : Bool) : State :=
  let g := r.unit
  if ok then { s with scal := { s.scal with run := some { r with next := r.next + 1 } } }
  else if r.next ≠ 0 && bit s.scal.spareGood g then
    let s := (s.useSpare g m).reportDrop 5
    { s with scal := { s.scal with run := some { r with next := r.next + 1, failed := true } } }
  else
    let s := s.report { src := 5, cls := if g = 8 && r.next ≠ 0 then 3 else 1 }
    { s with scal := { s.scal with run := some { r with next := r.next + 1, failed := true } } }

/-- OFFSET and GAIN of a MADC calibration: the raw code of channel 2 and of the reference; none: outside their limits
(R467, R472). -/
def State.madcCal (s : State) (raw2 rawRef : Nat) : Option (Nat × Nat) :=
  let nominal := if s.fbit pgScal SCAL.STAT.VREF_VALID then 5368709 else 3145728
  if 256 < raw2 ∨ rawRef ≤ raw2 then none
  else
    let d := (rawRef - raw2) * 100
    let gain := (32768 * nominal * 2 + d) / (2 * d)
    if 32768 * 98 ≤ gain * 100 ∧ gain * 100 ≤ 32768 * 102 then some (raw2, gain) else none

/-- SCAL_MEMBER_DONE: the spare or the next member of the running unit has been calibrated: the hits of its taps and
whether its line spans the clock period, or for the MADC its two raw codes (R461, R465, R472). -/
def State.scalMemberDone (s : State) (hits : List Nat) (reaches : Bool) (raw2 rawRef : Nat) : State :=
  match s.scal.run with
  | none => s
  | some r =>
    let ms := s.scalMembers r.unit
    if 9 ≤ r.unit || ms.length < r.next then s
    else
      let m := if r.next = 0 then 0 else ms.getD (r.next - 1) 0
      if r.unit < 8 then
        let ok := reaches && hits.length = 1024 && hits.all (· ≠ 0)
        let key := if r.next = 0 then 64 + r.unit else m
        let s := if ok then
            let (t, s) := s.interpTable hits
            { s with scal := { s.scal with tables := SMap.write [] s.scal.tables key t } }
          else s
        let s := if r.next = 0 && SMap.read none s.scal.replaced r.unit = none then
            let v := s.scal.spareGood
            { s with scal := { s.scal with
              spareGood := if ok then v ||| 1 <<< r.unit else v &&& (0x1FF - 1 <<< r.unit) } }
          else s
        s.memberResult r m ok
      else
        let cal := s.madcCal raw2 rawRef
        let s := if r.next = 0 && SMap.read none s.scal.replaced 8 = none then
            let v := s.scal.spareGood
            { s with scal := { s.scal with spareGood := if cal.isSome then v ||| 0x100 else v &&& 0xFF } }
          else s
        s.memberResult { r with cal := if cal.isSome then cal else r.cal } m cal.isSome

/-- OSC_COUNT_DONE: the 10 ms count of the running oscillator unit ends; `ends` names the islands, in the order of R447,
whose trim would lie at the end of its range. What trim and coefficient the count gives the spec leaves open (R463,
R467). -/
def State.oscCountDone (s : State) (ends : Nat) : State :=
  match s.scal.run with
  | none => s
  | some r =>
    if r.unit < 9 || r.counted then s
    else
      let n := r.unit - 9
      let isl := (islandsOf n).zipIdx.filter (fun e => s.domOn (islandDomain e.1))
      let s := isl.foldl (fun s e =>
        if bit ends e.2 then s.reportDrop 5
        else
          let (t, s) := s.fresh 16
          let (c, s) := s.fresh 16
          let o : OscSt := ⟨t.toNat, c.toNat, s.fget pgThm (THM.TS.VALUE n)⟩
          { s with scal := { s.scal with oscs := SMap.write none s.scal.oscs e.1 (some o) } }) s
      let bad := isl.any (fun e => bit ends e.2)
      { s with scal := { s.scal with run := some { r with counted := true, failed := bad } } }

/-- The RUN command ends when every run it waits for has ended (R474). -/
def State.scalCmdCheck (s : State) : State :=
  if s.running pgScal 0x10 && s.scal.cmdUnits = 0 then
    if s.scal.cmdFailed then s.cmdFail pgScal 0x30 else s.cmdDone pgScal
  else s

/-- The run of a unit used an internal reference (R470). -/
def State.untraced (s : State) (u : Nat) : Bool :=
  s.fbit pgScal (if u = 8 then SCAL.STAT.VOLT_UNTRACED else SCAL.STAT.TIME_UNTRACED)

/-- SCAL_RUN_DONE: the run in progress, all of its members done, ends (R465, R467). -/
def State.scalRunDone (s : State) : State :=
  match s.scal.run with
  | none => s
  | some r =>
    let u := r.unit
    let past := if u < 9 then (s.scalMembers u).length < r.next else r.counted
    if !past then s
    else
      let f := s.fget pgScal SCAL.FAILED.UNITS
      let s := s.fset pgScal SCAL.FAILED.UNITS (if r.failed then f ||| 1 <<< u else f &&& (0x1FFFFF - 1 <<< u))
      let s := (s.fsetB pgScal (SCAL.UNIT_STAT.FAILED u) r.failed).fsetB pgScal (SCAL.UNIT_STAT.UNTRACED u) (s.untraced u)
      let s := (s.fwrap pgScal (SCAL.UNIT_STAT.RUNS u)).finc pgScal SCAL.RUN_CNT.RUNS
      let s := if r.failed then s.finc pgScal SCAL.RUN_CNT.FAILS else s
      let s := match r.cal with
        | some (o, g) => (s.fset pgScal SCAL.MADC_CAL.OFFSET o).fset pgScal SCAL.MADC_CAL.GAIN g
        | none => s
      let s := (s.fset pgScal SCAL.STAT.BUSY 0).fset pgScal SCAL.STAT.UNIT 0
      let done := s.scal.completed ||| 1 <<< u
      let first := done = 0x1FFFFF && s.scal.completed ≠ 0x1FFFFF
      let asked := bit s.scal.cmdUnits u
      let s := { s with scal := { s.scal with
        run := none
        completed := done
        lastRun := SMap.write 0 s.scal.lastRun u s.mono
        cmdUnits := s.scal.cmdUnits &&& (0x1FFFFF - 1 <<< u)
        cmdFailed := s.scal.cmdFailed || (asked && r.failed) } }
      let s := s.evt pgScal (if r.failed then 9 else 8)
      let s := if first then (s.fset pgScal SCAL.STAT.FIRST_PASS 1).evt pgScal 13 else s
      s.scalCmdCheck

/-! ### References (R462, R468 to R470) -/

/-- A reference becomes valid or invalid: `osc` for REFIN and the oscillators, else VREF_IN and the MADC (R470). -/
def State.refValid (s : State) (osc valid : Bool) : State :=
  let f := if osc then SCAL.STAT.REFIN_VALID else SCAL.STAT.VREF_VALID
  if s.fbit pgScal f = valid then s
  else
    let u := if osc then SCAL.STAT.TIME_UNTRACED else SCAL.STAT.VOLT_UNTRACED
    let s := ((s.fsetB pgScal f valid).fsetB pgScal u (!valid)).evt pgScal (if valid then 11 else 10)
    let s := match s.scal.run with
      | some r =>
        if (if osc then 9 ≤ r.unit else r.unit = 8) then
          { (s.fset pgScal SCAL.STAT.BUSY 0).fset pgScal SCAL.STAT.UNIT 0 with scal := { s.scal with run := none } }
        else s
      | none => s
    s.scalPend (if osc then 0x1FFE00 else 0x100)

/-- REFIN_GATE: a gate of 100 ms ends with an offset in 0.001 ppm (R468). -/
def State.refinGate (s : State) (ofs : Int) : State :=
  let sel := s.fget pgScal SCAL.CTL.REFIN_SEL
  if sel = 0 then s
  else
    let s := s.fsetI pgScal SCAL.REFIN_PPM.OFFSET ofs
    if 200000 < ofs.natAbs then { s.refValid true false with scal := { (s.refValid true false).scal with refinGood := 0 } }
    else
      let n := min (s.scal.refinGood + 1) 3
      let s := { s with scal := { s.scal with refinGood := n } }
      if n = 3 then s.refValid true true else s

/-- REFIN_LOSS: no edge for 1 µs (R468). -/
def State.refinLoss (s : State) : State :=
  let s := s.refValid true false
  { s with scal := { s.scal with refinGood := 0 } }

/-- A conversion of VREF_IN against the bandgap: within 2.048 V ± 1 % of the value implied by it (R469). -/
def State.vrefCheck (s : State) : State :=
  if !s.fbit pgScal SCAL.CTL.VREF_EN then s
  else
    let v := s.fget pgScal (SCAL.MADC_RES.VALUE 0)
    let b := s.fget pgScal (SCAL.MADC_RES.VALUE 1)
    let ok := s.fbit pgScal (SCAL.MADC_RES.VALID 1) && 2048 * 99 * b ≤ 1200 * 100 * v && 1200 * 100 * v ≤ 2048 * 101 * b
    let good := if ok then min (s.scal.vrefGood + 1) 3 else 0
    let bad := if ok then 0 else min (s.scal.vrefBad + 1) 3
    let s := { s with scal := { s.scal with vrefGood := good, vrefBad := bad } }
    if good = 3 then s.refValid false true else if bad = 3 then s.refValid false false else s

/-- MADC_CONVERSION of a channel: the corrected result is posted (R462). -/
def State.madcConversion (s : State) (c raw : Nat) : State :=
  let v := rshift (((raw : Int) - s.fgetI pgScal SCAL.MADC_CAL.OFFSET) * s.fget pgScal SCAL.MADC_CAL.GAIN) 15
  let (x, s) := s.fit16 0 65535 v
  let s := (s.fset pgScal (SCAL.MADC_RES.VALUE c) x).fset pgScal (SCAL.MADC_RES.VALID c) 1
  if c = 0 then s.vrefCheck else s

/-! ### Commits and the command (R473, R474) -/

/-- The block commit reason of R474. -/
def State.scalReasons (s : State) (ps : List Nat) : List Nat :=
  let g (f : Fld) := s.vget ps pgScal f
  reasons [(g SCAL.CTL.REFIN_SEL = 3 || g SCAL.CTL.TEMP_DELTA < 4 || g SCAL.CTL.CHECK_MS < 100, 0x10)]

/-- A SCAL commit has applied: a reference that is no longer selected is invalid (R468, R469). -/
def State.scalApplied (s old : State) : State :=
  let s := if s.fget pgScal SCAL.CTL.REFIN_SEL ≠ old.fget pgScal SCAL.CTL.REFIN_SEL then s.refinLoss else s
  if s.fbit pgScal SCAL.CTL.VREF_EN then s
  else { s.refValid false false with scal := { (s.refValid false false).scal with vrefGood := 0, vrefBad := 0 } }

/-- The RUN command (R474). -/
def State.scalRun (s : State) (arg : Nat) : State :=
  let m := if arg = 0 then 0x1FFFFF else arg % 2 ^ 21
  let s := s.scalPend m
  { s with scal := { s.scal with cmdUnits := m, cmdFailed := false } }.scalCmdCheck

end Sys2Proof.Machine
end

