-- ==== Sys2Proof/Machine/Thm.lean ====
section
/-! DEFINITION. Temperature sensing (R447 to R454, R458, R459). -/

namespace Sys2Proof.Machine

/-! ### Demands (R448, R449) -/

/-- A conversion starts for some sensors, and asks MEM for an MR4 read while MEM is READY (R449). -/
def State.convert (s : State) (sensors : Nat) (mr4 : Bool) : State :=
  let s := s.fset pgThm THM.STAT.BUSY 1
  let s := { s with thm := { s.thm with converting := sensors &&& s.fget pgThm THM.CFG.EN } }
  if mr4 && s.domOn 8 && s.fget pgMem MEM.STAT.STATE = 2 then { s with mem := { s.mem with mr4Due := true } } else s

/-- A demand of a source: it starts a conversion, or waits for the next (R448, R449). -/
def State.demand (s : State) (src : Fld) (sensors : Nat) (mr4 : Bool) : State :=
  let s := s.finc pgThm src
  if s.fbit pgThm THM.STAT.BUSY then
    let w := match s.thm.waiting with
      | some (m, r) => (m ||| sensors, r || mr4)
      | none => (sensors, mr4)
    { s with thm := { s.thm with waiting := some w } }
  else s.convert sensors mr4

/-- GUARD_DEMAND: every GUARD_MS while any domain is ON (R448). -/
def State.guardDemand (s : State) : State :=
  let s := s.advanceTo (s.pwr.lastGuard + s.fget pgThm THM.CFG.GUARD_MS * 1000000)
  let s := { s with pwr := { s.pwr with lastGuard := s.mono } }
  if (List.range 18).any (fun d => s.domOn (d + 1)) then
    s.demand THM.DEMAND_CNT.PWR (s.fget pgThm THM.CFG.EN) (s.domOn 8)
  else s

/-- SCAL_CHECK: every CHECK_MS SCAL demands the sensors of all enabled units (R464). -/
def State.scalCheck (s : State) : State :=
  let s := s.advanceTo (s.scal.lastCheck + s.fget pgScal SCAL.CTL.CHECK_MS * 1000000)
  let s := { s with scal := { s.scal with lastCheck := s.mono } }
  if s.fbit pgScal SCAL.CTL.EN then s.demand THM.DEMAND_CNT.SCAL 0xFFF false else s

/-! ### Levels (R452) -/

/-- A level is held by a reading: reached at or above it, until a reading lies below it less HYST; in 1/16 °C. -/
def levelHeld (was : Bool) (t level hyst : Int) : Bool := 16 * level ≤ t || (was && 16 * (level - hyst) ≤ t)

/-- STAT shows a level that any sensor or tile holds (R458). -/
def State.thmStat (s : State) : State :=
  let any (f : Nat → Fld) := (List.range 12).any (fun n => s.fbit pgThm (f n))
  let s := (s.fsetB pgThm THM.STAT.WARN (any THM.TS.WARN || s.fget pgThm THM.TILE_STAT0.WARN != 0)).fsetB pgThm
    THM.STAT.DERATE (any THM.TS.DERATE || s.fget pgThm THM.TILE_STAT0.DERATE != 0)
  (s.fsetB pgThm THM.STAT.TRIP (any THM.TS.TRIP || s.fget pgThm THM.TILE_STAT1.TRIP != 0)).fsetB pgThm
    THM.STAT.BROKEN (any THM.TS.BROKEN)

/-- A reading at or above TRIP is reported as SAFETY, every time (R452). -/
def State.tripReport (s : State) (t level : Int) : State :=
  if 16 * level ≤ t then s.report { src := 4, cls := 3 } else s

/-- A level of a sensor as a signed whole number of °C. -/
def State.level (s : State) (f : Fld) : Int := s.fgetI pgThm f

/-- A reading of a die sensor is judged against its levels; a steep rise counts as reaching DERATE (R452, R453). -/
def State.judge (s : State) (n : Nat) (t : Int) (rise : Bool) : State :=
  let h : Int := s.fget pgThm (THM.TS_LIM.HYST n)
  let step (s : State) (f : Fld) (l : Int) (force : Bool) (e : Nat) : State :=
    let was := s.fbit pgThm f
    let now := levelHeld was t l h || force
    let s := s.fsetB pgThm f now
    if now && !was then s.evt pgThm e else s
  let s := step s (THM.TS.WARN n) (s.level (THM.TS_LIM.WARN n)) false 8
  let s := step s (THM.TS.DERATE n) (s.level (THM.TS_LIM.DERATE n)) rise 9
  let s := step s (THM.TS.TRIP n) (s.level (THM.TS_LIM.TRIP n)) false 10
  s.thmStat.tripReport t (s.level (THM.TS_LIM.TRIP n))

/-- A bit per tile. -/
def State.tileBit (s : State) (f : Fld) (t : Nat) (b : Bool) : State :=
  s.fset pgThm f (if b then s.fget pgThm f ||| 1 <<< t else s.fget pgThm f &&& (0xFFFF - 1 <<< t))

/-- The hottest sink temperature of a tile is judged against TILE_LIM (R447, R452). -/
def State.judgeTile (s : State) (t : Nat) : State :=
  let v := s.fgetI (pgDud t) DUD.TEMP.MAX
  let h : Int := s.fget pgThm THM.TILE_LIM.HYST
  let step (s : State) (f : Fld) (l : Int) (e : Nat) : State :=
    let was := bit (s.fget pgThm f) t
    let now := levelHeld was v l h
    let s := s.tileBit f t now
    if now && !was then s.evt pgThm e else s
  let s := step s THM.TILE_STAT0.WARN (s.level THM.TILE_LIM.WARN) 8
  let s := step s THM.TILE_STAT0.DERATE (s.level THM.TILE_LIM.DERATE) 9
  let s := step s THM.TILE_STAT1.TRIP (s.level THM.TILE_LIM.TRIP) 10
  s.thmStat.tripReport v (s.level THM.TILE_LIM.TRIP)

/-! ### Readings (R449 to R453) -/

/-- The rate of a valid reading against the sensor's reference, at least 10 ms older; the second component tells whether
it exceeds the limit (R453). -/
def State.rate (s : State) (n value : Nat) : State × Bool :=
  match SMap.read none s.thm.ref n with
  | none => ({ s with thm := { s.thm with ref := SMap.write none s.thm.ref n (some (value, s.mono)) } }, false)
  | some (r, at_) =>
    let dt := s.mono - at_
    if dt < 10000000 then (s, false)
    else
      let num := (sgn 16 value - sgn 16 r) * 1000000000
      let rise := (s.fget pgThm (THM.TS_RISE.RISE n) : Int) * 16 * dt < num
      let (v, s) := s.roundFree num dt
      let (x, s) := s.fit16 (-32768) 32767 v
      let s := (s.fset pgThm (THM.TS_RATE.RATE n) x).fsetB pgThm (THM.TS.RISE n) rise
      let s := { s with thm := { s.thm with ref := SMap.write none s.thm.ref n (some (value, s.mono)) } }
      if rise then ((s.finc pgThm THM.RISE_CNT.COUNT).evt pgThm 12, true) else (s, false)

/-- The median of the valid readings of TS0 to TS10, for a broken TS11 (R455). -/
def State.bandgapMedian (s : State) : State :=
  let vals := ((List.range 11).filter (fun n => s.fbit pgThm (THM.TS.VALID n) && !s.fbit pgThm (THM.TS.BROKEN n))).map
    (fun n => s.fgetI pgThm (THM.TS.VALUE n))
  let sorted := vals.foldl (fun l x => l.takeWhile (· ≤ x) ++ x :: l.dropWhile (· ≤ x)) []
  match sorted[(sorted.length - 1) / 2]? with
  | some v => { s with scal := { s.scal with bandgapTemp := some (unsgn 16 v) } }
  | none => s

/-- One reading: the value in 1/16 °C, and whether its bias check failed (R450 to R453). -/
def State.reading (s : State) (n value : Nat) (biasBad : Bool) : State :=
  let t := sgn 16 value
  let kind := if biasBad then 1 else if t < -800 then 2 else if 2400 < t then 3 else 0
  let s := (s.fset pgThm (THM.TS.VALID n) 1).fset pgThm (THM.TS.KIND n) kind
  let s := s.fsetB pgThm (THM.TS.BROKEN n) (kind ≠ 0)
  if kind = 0 then
    let s := s.fset pgThm (THM.TS.VALUE n) value
    let (s, rise) := s.rate n value
    ((s.judge n t rise).compensate n value).scalReading n value
  else
    let s := { s with thm := { s.thm with ref := SMap.write none s.thm.ref n none } }
    let s := ((s.fset pgThm (THM.TS.VALUE n) 0x960).finc pgThm THM.BROKEN_CNT.COUNT).evt pgThm 11
    let s := (s.judge n 2400 false).scalBroken n
    if n = 11 then s.bandgapMedian else s

/-- THM_CONVERSION_DONE: the running conversion completes with the readings of its sensors, by number, and the sensors
whose bias check failed; then the demands that wait are served (R449). -/
def State.conversionDone (s : State) (values : List Nat) (biasBad : Nat) : State :=
  if !s.fbit pgThm THM.STAT.BUSY then s
  else
    let s := (bitsSet s.thm.converting 12).foldl (fun s n => s.reading n (values.getD n 0) (bit biasBad n)) s
    let s := (s.fset64 pgThm THM.LAST_CONV_LO.NS THM.LAST_CONV_HI.NS s.now).finc pgThm THM.STAT.CONVERSIONS
    let s := { s.fset pgThm THM.STAT.BUSY 0 with thm := { s.thm with converting := 0 } }
    let s := s.evt pgThm 13
    match s.thm.waiting with
    | some (m, r) => { s with thm := { s.thm with waiting := none } }.convert m r
    | none => s

/-- The block commit reasons of R454. -/
def State.thmReasons (s : State) (ps : List Nat) : List Nat :=
  let g (f : Fld) := s.vget ps pgThm f
  let gi (f : Fld) := s.vgetI ps pgThm f
  let badOrder (w d t : Fld) : Bool := gi d < gi w || gi t < gi d || 140 < gi t
  let guardMs := g THM.CFG.GUARD_MS
  reasons [(badOrder THM.TILE_LIM.WARN THM.TILE_LIM.DERATE THM.TILE_LIM.TRIP || (List.range 12).any (fun n =>
      badOrder (THM.TS_LIM.WARN n) (THM.TS_LIM.DERATE n) (THM.TS_LIM.TRIP n)), 0x10),
    (s.lightAny && (s.fget pgThm THM.CFG.EN &&& (0xFFF - g THM.CFG.EN)) != 0, 0x11),
    (guardMs < 10 || g THM.TILE_LIM.HYST = 0 || (List.range 12).any (fun n => g (THM.TS_LIM.HYST n) = 0 ||
      g (THM.TS_RISE.RISE n) = 0), 0x12)]

end Sys2Proof.Machine
end

