-- ==== Sys2Proof/Machine/Gaf.lean ====
section
/-! DEFINITION. The gaffer (R289 to R293, R298, R299): rails, headroom steps and the PMBus segments. -/

namespace Sys2Proof.Machine

/-- The gaffer sends: its device is unpaired or ACTIVE (R477, R489). -/
def State.gafferRuns (s : State) : Bool := (s.pairState = 0 || s.pairActive) && s.domOn 2

/-- A rail is enabled. -/
def State.railEn (s : State) (u : Nat) : Bool := s.fbit pgGaf (GAF.RAIL_CFG.EN u)

/-- The enabled rails of a segment (R290). -/
def State.segRails (s : State) (i : Nat) : List Nat := ((List.range 8).map (fun k => 8 * i + k)).filter s.railEn

/-- The block commit reasons of R299. -/
def State.gafReasons (s : State) (ps : List Nat) : List Nat :=
  let g (f : Fld) := s.vget ps pgGaf f
  let en := (List.range 32).filter (fun u => g (GAF.RAIL_CFG.EN u) = 1)
  let step := g GAF.TIMING.STEP_MS
  let poll := g GAF.TIMING.POLL_MS
  reasons [(en.any (fun u => g (GAF.RAIL_LIM.VMAX_MV u) < g (GAF.RAIL_LIM.VMIN_MV u) || 15000 < g (GAF.RAIL_LIM.VMAX_MV u) ||
      g (GAF.RAIL_CFG.START_MV u) < g (GAF.RAIL_LIM.VMIN_MV u) || g (GAF.RAIL_LIM.VMAX_MV u) < g (GAF.RAIL_CFG.START_MV u)), 0x10),
    (en.any (fun u => g (GAF.RAIL_CFG.ADDR u) = 0x0C ||
      en.any (fun v => v ≠ u && v / 8 = u / 8 && g (GAF.RAIL_CFG.ADDR v) = g (GAF.RAIL_CFG.ADDR u))), 0x11),
    (step < 10 || poll < 5, 0x12),
    (g GAF.PHASE.STEP % 2 = 0, 0x13)]

/-! ### Numbers on the bus -/

/-- LINEAR16 of a voltage: round(mV × 2^(−EXP) / 1,000) (R291). -/
def linear16 (mv : Nat) (exp : Int) : Nat :=
  if exp ≤ 0 then (mv * 2 ^ exp.natAbs + 500) / 1000 else (mv + 500 * 2 ^ exp.natAbs) / (1000 * 2 ^ exp.natAbs)

/-- A conversion to an unsigned field of 16 bits: mantissa × factor × 2^exponent, rounded as the spec leaves open. -/
def State.scaled (s : State) (m : Int) (exp : Int) : Nat × State :=
  let (v, s) := if exp ≤ 0 then s.roundFree m (2 ^ exp.natAbs) else (m * 2 ^ exp.natAbs, s)
  s.fit16 0 65535 v

/-- LINEAR16 in mV. -/
def State.fromLinear16 (s : State) (code : Nat) (exp : Int) : Nat × State := s.scaled (code * 1000) exp

/-- LINEAR11 in 10 mA: a signed exponent in [15:11] and a signed mantissa in [10:0]. -/
def State.fromLinear11 (s : State) (v : Nat) : Nat × State :=
  s.scaled (sgn 11 (bitsOf v 0 11) * 100) (sgn 5 (bitsOf v 11 5))

/-! ### Segments (R290, R291) -/

/-- The transactions of a segment. -/
def State.segQueue (s : State) (i : Nat) : List PmbTxn := SMap.read [] s.gaf.queues i

/-- PMB_STAT follows the queues and the rails: BUSY and FAULT (R298). -/
def State.gafShow (s : State) : State :=
  let s := s.fset pgGaf GAF.PMB_STAT.BUSY (maskOf ((List.range 4).filter (fun i => !(s.segQueue i).isEmpty)))
  s.fset pgGaf GAF.PMB_STAT.FAULT (maskOf ((List.range 4).filter (fun i =>
    (List.range 8).any (fun k => s.fbit pgGaf (GAF.RAIL_STAT.FAULT (8 * i + k))))))

/-- Setting a segment's queue; the transaction that comes to its front goes onto the bus. -/
def State.setSegQueue (s : State) (i : Nat) (q : List PmbTxn) : State :=
  let was := (s.segQueue i).head?
  let s := { s with gaf := { s.gaf with queues := SMap.write [] s.gaf.queues i q } }
  let s := match q.head? with
    | some x => if was = some x then s else s.emit (.pmbus i x)
    | none => s
  s.gafShow

/-- A transaction waits for its segment; one that already waits is not repeated. -/
def State.pmbus (s : State) (x : PmbTxn) : State :=
  if !s.gafferRuns then s
  else
    let i := x.rail / 8
    let q := s.segQueue i
    if q.contains x then s else s.setSegQueue i (q ++ [x])

/-- A transaction goes ahead of those that wait, behind the one on the bus (R291). -/
def State.pmbusAhead (s : State) (i : Nat) (x : PmbTxn) : State :=
  if !s.gafferRuns then s
  else match s.segQueue i with
    | [] => s.setSegQueue i [x]
    | y :: r => s.setSegQueue i (y :: x :: r)

/-- The target in force is written (R291, R292); a code that does not fit LINEAR16 the spec leaves open. -/
def State.writeVout (s : State) (u : Nat) : State :=
  let c := linear16 (s.fget pgGaf (GAF.RAIL_TARGET.TARGET_MV u)) (s.fgetI pgGaf (GAF.RAIL_CFG.EXP u))
  let (v, s) := s.fit16 0 65535 c
  s.pmbus { rail := u, code := 0x21, data := v }

/-! ### Headroom (R292) -/

/-- A headroom report of a sink for a rail (R274, R292). -/
def State.headroom (s : State) (u h : Nat) : State :=
  if h = 0xFFFF then s
  else
    let least := min h (SMap.read 0xFFFF s.gaf.headroom u)
    let s := { s with gaf := { s.gaf with headroom := SMap.write 0xFFFF s.gaf.headroom u least } }
    if h < s.fget pgGaf GAF.LOW.LOW_MV then
      ((s.finc pgGaf GAF.HR_LOW_CNT.COUNT).evt pgGaf 8).reportDrop pgGaf
    else s

/-- The headroom step for one rail (R292). A rail with FAULT holds its target (R293). -/
def State.railStep (s : State) (u : Nat) : State :=
  let h := SMap.read 0xFFFF s.gaf.headroom u
  let s := s.fsetB pgGaf (GAF.RAIL_STAT.HR_VALID u) (h ≠ 0xFFFF)
  if h = 0xFFFF || s.fbit pgGaf (GAF.RAIL_STAT.FAULT u) then s
  else
    let f (x : Fld) : Int := s.fget pgGaf x
    let t0 := f (GAF.RAIL_TARGET.TARGET_MV u)
    let e := (h : Int) - f GAF.HEADROOM.MARGIN_MV
    let t1 := if e < 0 then t0 + min (-e) (f GAF.SLEW.UP_MV)
      else if f GAF.HEADROOM.DEADBAND_MV < e then t0 - min e (f GAF.SLEW.DN_MV) else t0
    let vmax := f (GAF.RAIL_LIM.VMAX_MV u)
    let t2 := min (max t1 (f (GAF.RAIL_LIM.VMIN_MV u))) vmax
    let lim := t2 = vmax && e < 0
    let s := (s.fset pgGaf (GAF.RAIL_TARGET.TARGET_MV u) t2.toNat).fsetB pgGaf (GAF.RAIL_STAT.LIMIT u) lim
    let s := if lim then (s.evt pgGaf 9).reportDrop pgGaf else s
    let exp := s.fgetI pgGaf (GAF.RAIL_CFG.EXP u)
    if linear16 t0.toNat exp ≠ linear16 t2.toNat exp then s.writeVout u else s

/-- HEADROOM_STEP: every STEP_MS, for each enabled rail of a live tile (R292). -/
def State.headroomStep (s : State) : State :=
  let s := s.advanceTo (s.gaf.lastStep + s.fget pgGaf GAF.TIMING.STEP_MS * 1000000)
  let s' := if s.fbit pgGaf GAF.CTL.LOOP_EN && s.gafferRuns then
      (List.range 32).foldl (fun s u => if s.railEn u && s.tileLive (u / 2) then s.railStep u else s) s
    else s
  let s' := if s.fbit pgGaf GAF.CTL.LOOP_EN && s.domOn 2 then s'.demand THM.DEMAND_CNT.GAF 0xF false else s'
  { s' with gaf := { s'.gaf with headroom := [], lastStep := s.mono } }

/-- RAIL_POLL: every POLL_MS READ_VOUT and READ_IOUT of each enabled rail, and STATUS_WORD once a second (R291). -/
def State.railPoll (s : State) : State :=
  let s := s.advanceTo (s.gaf.lastPoll + s.fget pgGaf GAF.TIMING.POLL_MS * 1000000)
  let status := s.gaf.lastStatus + 1000000000 ≤ s.mono
  let now := s.mono
  let s := (List.range 32).foldl (fun s u =>
    if s.railEn u then
      let s := (s.pmbus { rail := u, code := 0x8B }).pmbus { rail := u, code := 0x8C }
      if status then s.pmbus { rail := u, code := 0x79 } else s
    else s) s
  { s with gaf := { s.gaf with lastPoll := now, lastStatus := if status then now else s.gaf.lastStatus } }

/-- PMB_ALERT goes low or high: low, the Alert Response Address is read ahead of any poll; a device that does not run the
gaffer ignores it (R291, R479). -/
def State.pmbAlert (s : State) (i : Nat) (low : Bool) : State :=
  if !s.gafferRuns then s
  else
    let v := s.fget pgGaf GAF.PMB_STAT.ALERT
    let s := s.fset pgGaf GAF.PMB_STAT.ALERT (if low then v ||| 1 <<< i else v &&& (0xF - 1 <<< i))
    if low && !bit v i then s.pmbusAhead i { rail := 8 * i, code := 0x0C, alert := true } else s

/-- A rail faults: FAULT is set, the target is held, RAIL_FAULT is raised and reported as DROP (R293). -/
def State.railFault (s : State) (u : Nat) : State :=
  ((s.fset pgGaf (GAF.RAIL_STAT.FAULT u) 1).evt pgGaf 10).gafShow.reportDrop pgGaf

/-- The STATUS_WORD bits that count as a fault: 15, 14, 13, 6, 5, 4 and 2 (R293). -/
def statusBad (w : Nat) : Bool := w &&& 0xE074 != 0

/-- READ_STATUS ends when none of its reads waits any longer (R299). -/
def State.readStatusCheck (s : State) : State :=
  let open_ := (List.range 4).any (fun i => (s.segQueue i).any (·.byCommand)) || s.gaf.retries.any (·.byCommand)
  if s.running pgGaf 0x10 && !open_ then
    if s.gaf.readFailed then s.cmdFail pgGaf 0x30 else s.cmdDone pgGaf
  else s

/-- READ_STATUS (R299). -/
def State.readStatus (s : State) : State :=
  let rails := (List.range 32).filter s.railEn
  let s := { s with gaf := { s.gaf with readFailed := !rails.isEmpty && !s.gafferRuns } }
  (rails.foldl (fun s u => s.pmbus { rail := u, code := 0x79, byCommand := true }) s).readStatusCheck

/-- What a successful transaction brings (R291, R293). -/
def State.pmbusOk (s : State) (i : Nat) (x : PmbTxn) (data : Nat) : State :=
  if x.alert then
    match (s.segRails i).find? (fun u => s.fget pgGaf (GAF.RAIL_CFG.ADDR u) = data) with
    | some u => (s.pmbusAhead i { rail := u, code := 0x79 }).evt pgGaf 11
    | none => s.finc pgGaf GAF.PMB_ERR.NACK
  else if x.code = 0x8B then
    let (v, s) := s.fromLinear16 data (s.fgetI pgGaf (GAF.RAIL_CFG.EXP x.rail))
    s.fset pgGaf (GAF.RAIL_NOW.VOUT_MV x.rail) v
  else if x.code = 0x8C then
    let (v, s) := s.fromLinear11 data
    s.fset pgGaf (GAF.RAIL_NOW.IOUT x.rail) v
  else if x.code = 0x79 then
    let s := s.fset pgGaf (GAF.RAIL_STAT.STATUS_WORD x.rail) data
    if statusBad data then (if s.railEn x.rail then s.railFault x.rail else s)
    else (s.fset pgGaf (GAF.RAIL_STAT.FAULT x.rail) 0).gafShow
  else s

/-- PMBUS_TRANSACTION_DONE: the transaction on a segment ends; result 0: acknowledged, 1: not acknowledged, 2: PEC failed,
3: clock-low timeout (R293). -/
def State.pmbusDone (s : State) (i result data : Nat) : State :=
  match s.segQueue i with
  | [] => s
  | x :: r =>
    let s := s.setSegQueue i r
    let s := if result = 1 then s.finc pgGaf GAF.PMB_ERR.NACK else if result = 2 then s.finc pgGaf GAF.PMB_ERR.PEC else s
    let s :=
      if result = 0 then s.pmbusOk i x data
      else if !x.retry then
        { s with gaf := { s.gaf with retries := s.gaf.retries ++ [{ x with retry := true, failedAt := s.mono }] } }
      else
        let s := if x.byCommand then { s with gaf := { s.gaf with readFailed := true } } else s
        if x.alert then s else s.railFault x.rail
    s.readStatusCheck

/-- PMBUS_RETRY: the oldest failed transaction of a segment is tried again, 1 ms after it failed (R293). -/
def State.pmbusRetry (s : State) (i : Nat) : State :=
  match s.gaf.retries.find? (fun x => x.rail / 8 = i) with
  | none => s
  | some x =>
    let s := s.advanceTo (x.failedAt + 1000000)
    let s := { s with gaf := { s.gaf with retries := s.gaf.retries.erase x } }
    s.pmbusAhead i x

/-- A GAF commit has applied: rails are enabled with START_MV and switched, and changed phases go to the sinks
(R289, R291, R292). -/
def State.gafApplied (s old : State) : State :=
  let s := (List.range 32).foldl (fun s u =>
    if s.railEn u && !old.railEn u then
      let s := s.fset pgGaf (GAF.RAIL_TARGET.TARGET_MV u) (s.fget pgGaf (GAF.RAIL_CFG.START_MV u))
      (s.writeVout u).pmbus { rail := u, code := 0x01, data := 0x80 }
    else if !s.railEn u && old.railEn u then s.pmbus { rail := u, code := 0x01, data := 0x00 }
    else s) s
  (List.range 16).foldl (fun s t =>
    if s.pwmPhase 1 ≠ old.pwmPhase 1 || s.rowPhase t ≠ old.rowPhase t then s.startOn t .config (s.dud t).live else s) s

end Sys2Proof.Machine
end

