-- ==== Sys2Proof/Machine/Curves.lean ====
section
/-! DEFINITION. The transfer curves of R206 at the nodes of R207. The logarithm and the exponential are evaluated with 128
fractional bits, far beyond the distance of any node from a rounding boundary of U4.20 (DEDUCED, log 21). -/

namespace Sys2Proof.Machine

/-- Fractional bits of the evaluation. -/
def fxBits : Nat := 128

/-- The first `n` terms of the series of artanh, from *z*^(2*k* + 1) / (2*k* + 1) on. -/
def artanhSum (z2 : Int) : Nat → Nat → Int → Int
  | 0, _, _ => 0
  | n + 1, k, p => p / (2 * k + 1 : Nat) + artanhSum z2 n (k + 1) (p * z2 / 2 ^ fxBits)

/-- ln ((1 + *z*) / (1 − *z*)) for *z* = `a / b`. -/
def lnRatio (a b : Int) : Int :=
  let z := a * 2 ^ fxBits / b
  2 * artanhSum (z * z / 2 ^ fxBits) 60 0 z

/-- ln 2. -/
def lnTwo : Int := lnRatio 1 3

/-- ln (`num / den`) of two positive numbers. -/
def lnFx (num den : Nat) : Int :=
  let up := den.log2 - num.log2
  let down := num.log2 - den.log2
  let n : Int := (num * 2 ^ up : Nat)
  let d : Int := (den * 2 ^ down : Nat)
  lnRatio (n - d) (n + d) + ((down : Int) - up) * lnTwo

/-- The first `n` terms of the series of the exponential, from *r*^*k* / *k*! on. -/
def expSum (r : Int) : Nat → Nat → Int → Int
  | 0, _, _ => 0
  | n + 1, k, p => p + expSum r n (k + 1) (p * r / 2 ^ fxBits / (k + 1 : Nat))

/-- e to a power. -/
def expFx (y : Int) : Int :=
  let k := y / lnTwo
  let v := expSum (y - k * lnTwo) 40 0 (2 ^ fxBits)
  if 0 ≤ k then v * 2 ^ k.toNat else v / 2 ^ (-k).toNat

/-- A value in units of 2⁻²⁰, rounded to nearest. -/
def nodeOf (v : Int) : Nat := ((v + 2 ^ (fxBits - 21)) / 2 ^ (fxBits - 20)).toNat

/-- Node *i* of PQ, *L* / 1,000 cd/m² (R206). -/
def pqNode (i : Nat) : Nat :=
  if i = 0 then 0
  else
    let p := expFx (lnFx i 1024 * 32 / 2523)
    let num := p - 3424 * 2 ^ fxBits / 4096
    let den := 32 * 2413 * 2 ^ fxBits / 4096 - 32 * 2392 * p / 4096
    if num ≤ 0 then 0 else nodeOf (10 * expFx (lnFx num.toNat den.toNat * 16384 / 2610))

/-- Node *i* of the scene light of HLG (R206): the square part up to *V* = 0.5, rounded to nearest, and the exponential part
above it. -/
def hlgNode (i : Nat) : Nat :=
  if i ≤ 512 then (2 * i * i + 3) / 6
  else nodeOf ((expFx ((i * 100000000 - 1024 * 55991073 : Int) * 2 ^ fxBits / (1024 * 17883277)) +
    28466892 * 2 ^ fxBits / 100000000) / 12)

end Sys2Proof.Machine
end

