-- ==== Sys2Proof/Machine/Dram.lean ====
section
/-! DEFINITION. DRAM as its requesters see it (R325 to R330, R361 to R365): bytes, surface tags, poison and bit flips. -/

namespace Sys2Proof.Machine

/-- Blocks that a requester can address: 3.5 GiB (R325). -/
def dramBlocks : Nat := 117440512

/-- What a byte of DRAM reads as before anything has been written to it (DESIGN CHOICE, log 3). -/
def dramDefault : Byte := 0

/-- The canonical form of DRAM: in each of its stores addresses rise strictly, and nothing that an unlisted address reads as
is listed. -/
def Memory.wf (m : DramSt) : Bool :=
  SMap.wf (fun _ => dramDefault) m.bytes && SMap.wf (fun _ => 0) m.tags && SMap.wf (fun _ => false) m.poison &&
  SMap.wf (fun _ => 0) m.flips

/-- One stored byte. -/
def State.byte (s : State) (a : Nat) : Nat := (SMap.read dramDefault s.dram.bytes a).toNat

/-- Storing one byte. -/
def State.setByte (s : State) (a v : Nat) : State :=
  { s with dram := { s.dram with bytes := SMap.write dramDefault s.dram.bytes a (BitVec.ofNat 8 v) } }

/-- The stored tag bits of a block: the surface tag and POISON (R362). -/
def State.tagBits (s : State) (b : Nat) : Nat :=
  SMap.read 0 s.dram.tags b + 256 * b2n (SMap.read false s.dram.poison b)

/-- Setting the surface tag and POISON of a block; fresh check bits leave no flips (R328, R365). -/
def State.setTag (s : State) (b tag : Nat) (poison : Bool) : State :=
  { s with dram := { s.dram with
      tags := SMap.write 0 s.dram.tags b (tag % 256)
      poison := SMap.write false s.dram.poison b poison
      flips := SMap.del s.dram.flips b } }

/-- The stored data of a block, before decoding, as a 256-bit number. -/
def State.rawBlock (s : State) (b : Nat) : Nat :=
  ofLeBytes ((List.range 32).map (fun i => s.byte (32 * b + i)))

/-- A block as delivered to a reader: poisoned, or with its data and surface tag. -/
structure BlockView where
  poisoned : Bool
  data : Nat
  tag : Nat
deriving DecidableEq, Repr

/-- MEM serves reads (R338, R353). -/
def State.memOnline (s : State) : Bool :=
  let st := s.fget pgMem MEM.STAT.STATE
  s.domOn 8 && (st = 2 || st = 3 || st = 1)

/-- The codeword of a block as it stands in the array. -/
def State.storedWord (s : State) (b : Nat) : Nat :=
  bchEncode (s.rawBlock b) (s.tagBits b) ^^^ SMap.read 0 s.dram.flips b

/-- What the decoder makes of a block (R329, R363). -/
def State.decodeBlock (s : State) (b : Nat) : Decoded :=
  if SMap.read 0 s.dram.flips b = 0 then .clean (s.rawBlock b) (s.tagBits b) else bchDecode (s.storedWord b)

/-- A block as a reader receives it (R329, R330, R338, R365). -/
def State.block (s : State) (b : Nat) : BlockView :=
  if dramBlocks ≤ b || !s.memOnline then ⟨true, 0, 0⟩
  else
    match s.decodeBlock b with
    | .clean d t => ⟨bit t 8, d, t % 256⟩
    | .corrected d t _ => ⟨bit t 8, d, t % 256⟩
    | .uncorrectable _ => ⟨true, 0, 0⟩

/-- A byte as a reader with an expected surface tag receives it: none when its block is poisoned or has another tag. -/
def State.readByte (s : State) (tag a : Nat) : Option Nat :=
  let v := s.block (a / 32)
  if v.poisoned || v.tag ≠ tag then none else some (bitsOf v.data (8 * (a % 32)) 8)

/-- Consecutive bytes, least significant first, as a number; none when any of their blocks cannot be used. -/
def State.readNat (s : State) (tag a : Nat) : Nat → Option Nat
  | 0 => some 0
  | n + 1 =>
    match s.readByte tag a, s.readNat tag (a + 1) n with
    | some b, some r => some (b + 256 * r)
    | _, _ => none

/-- A whole block written. -/
def State.writeBlock (s : State) (b data tag : Nat) (poison : Bool) : State :=
  ((leBytes data 32).zipIdx.foldl (fun s e => s.setByte (32 * b + e.2) e.1) s).setTag b tag poison

/-- A block written by a requester whose write reaches MEM: outside the address space or while MEM is not serving, it is
discarded (R330, R338). -/
def State.putBlock (s : State) (b data tag : Nat) (poison : Bool) : State :=
  if dramBlocks ≤ b || !s.memOnline then s
  else (s.fset pgMem MEM.STAT.WRITTEN 1).writeBlock b data tag poison

/-! ### Mirrored ranges (R487) -/

/-- A block lies in a mirrored range. -/
def State.mirrored (s : State) (b : Nat) : Bool :=
  let inside (base n : Nat) : Bool := base ≤ b && b < base + n
  inside (s.fget pgCad CAD.REGION.BASE) offResidual ||
  inside (s.fget pgMatte MATTE.BASE.BASE) 262144 ||
  inside (s.fget pgDiag DIAG.MAP_BASE.BASE) 786432 ||
  (List.range 4).any (fun r => s.fbit pgPair (PAIR.MRANGE.EN r) &&
    inside (s.fget pgPair (PAIR.MRANGE.BASE r)) (s.fget pgPair (PAIR.MSIZE.BLOCKS r)))

/-- A write admitted by the port: on the ACTIVE device it is mirrored, on a partner that follows, writes into a mirrored
range other than the mirror's own are discarded (R487). A write to a pair that SCRUB has read cancels its write-back
(R343). -/
def State.admitWrite (s : State) (master b data tag : Nat) (poison : Bool) : State :=
  if s.pairFollows && s.mirrored b && master ≠ 0x0C then s
  else
    let s :=
      if master ≠ 0x18 && s.mem.writeBack.contains (b / 2) then
        { s with mem := { s.mem with writeBack := s.mem.writeBack.filter (· ≠ b / 2) } }.finc pgMem MEM.SCRUB_CNT.CANCELLED
      else s
    let s := s.putBlock b data tag poison
    if s.mirrored b then s.mirrorActive (.block b tag poison data) else s

/-! ### Writes of parts of a block (R328) -/

/-- The data of a block `b` with bytes from byte address `a` on in their places. -/
def mergeBytes (data b a : Nat) (bs : List Nat) : Nat :=
  bs.zipIdx.foldl (fun d e => if (a + e.2) / 32 = b then putBits d (8 * ((a + e.2) % 32)) 8 e.1 else d) data

/-- The blocks that `n` bytes from byte address `a` on lie in. -/
def blocksAt (a n : Nat) : List Nat := (List.range ((a + n - 1) / 32 + 1 - a / 32)).map (fun i => a / 32 + i)

/-- Bytes written in place by a requester that keeps the rest of each block (R328, R487). -/
def State.writeBytes (s : State) (master tag a : Nat) (bs : List Nat) (poison : Bool) : State :=
  (blocksAt a bs.length).foldl (fun s b => s.admitWrite master b (mergeBytes (s.rawBlock b) b a bs) tag poison) s

/-- A number written as `n` bytes. -/
def State.writeNat (s : State) (master tag a v n : Nat) : State := s.writeBytes master tag a (leBytes v n) false

end Sys2Proof.Machine
end

