-- ==== Sys2Proof/Machine/Pixel.lean ====
section
/-! DEFINITION. The picture of one take (R163 to R182, R205 to R207): reading and decoding surfaces, LEAF, colour
decoding, scaling, blending and the safety overlay. Colour is U4.20, alpha U1.15. -/

namespace Sys2Proof.Machine

/-- The largest U4.20 value, 16 − 2⁻²⁰ (R171). -/
def maxU420 : Nat := 0xFFFFFF

/-- Saturation in U4.20. -/
def satU (x : Int) : Nat := (clampI 0 maxU420 x).toNat

/-- Division rounded to nearest, ties up. -/
def divRound (a b : Nat) : Nat := (2 * a + b) / (2 * b)

/-! ### Formats (R165) -/

/-- Bits per pixel of a FORMAT code; 0 for a code that is not listed. -/
def bppOf (f : Nat) : Nat :=
  if f = 0 ∨ f = 8 then 32 else if f = 1 ∨ f = 9 then 48 else if f = 2 ∨ f = 10 then 64
  else if f = 3 ∨ f = 4 then 8 else 0

/-- Whether a FORMAT is LEAF-compressed. -/
def isLeaf (f : Nat) : Bool := f = 8 || f = 9 || f = 10

/-- Blocks of a LEAF segment's slot (R168). -/
def leafSlot (f : Nat) : Nat := if f = 8 then 8 else if f = 9 then 12 else 16

/-- A normalised value: a numerator over a denominator. -/
structure Norm where
  num : Nat
  den : Nat
deriving DecidableEq, Repr

/-- A binary16 pattern in units of 2⁻²⁴: NaN and negatives read 0 (R165). -/
def half24 (h : Nat) : Nat :=
  let e := h / 1024 % 32
  let m := h % 1024
  if h / 32768 = 1 then 0
  else if e = 31 then (if m = 0 then 2 ^ 40 else 0)
  else if e = 0 then m else (1024 + m) * 2 ^ (e - 1)

/-- A normalised value as U4.20 with no curve (ENC 0). -/
def Norm.linear (n : Norm) : Nat := min (divRound (n.num * 2 ^ 20) n.den) maxU420

/-- V₁₆ of R207. -/
def Norm.v16 (n : Norm) : Nat := min (divRound (min n.num n.den * 65536) n.den) 65535

/-- The largest *n* with *n*⁵ × `c` ≤ `b`, below 2²⁵. -/
def fifthRoot (b c : Nat) : Nat → Nat → Nat
  | 0, lo => lo
  | k + 1, lo => if (lo + 2 ^ k) ^ 5 * c ≤ b then fifthRoot b c k (lo + 2 ^ k) else fifthRoot b c k lo

/-- The node of a curve that is a fifth root, rounded to nearest in U4.20: (b / c)^(1/5) in units of 2⁻²⁰. -/
def rootNode (b c : Nat) : Nat := (fifthRoot (b * 2 ^ 105) c 26 0 + 1) / 2

/-- Node *i* of a curve (R206, R207); gamma 2.4 is evaluated exactly. -/
def curveNode (enc i : Nat) : Nat :=
  if enc = 1 then rootNode (i ^ 12) (2 ^ 120) else if enc = 2 then pqNode i else hlgNode i

/-- Node *i* of the second HLG table, *Y*^0.2 (R207). -/
def ysNode (i : Nat) : Nat := rootNode i 1024

/-- Interpolation between nodes (R207). -/
def interp (node : Nat → Nat) (v16 : Nat) : Nat :=
  let i := v16 / 64
  let f := v16 % 64
  satU ((node i : Int) + rshift (((node (i + 1) : Int) - node i) * f) 6)

/-- A pixel in linear light: three channels and alpha. -/
structure Px where
  r : Nat
  g : Nat
  b : Nat
  a : Nat
deriving DecidableEq, Repr

/-- Rounded product of a channel and an alpha. -/
def mulA (x a : Nat) : Nat := satU (rshift ((x : Int) * a) 15)

/-- BT.709 to BT.2020 (R172), S2.13. -/
def toBt2020 (r g b : Nat) : Nat × Nat × Nat :=
  let row (x y z : Int) := satU (rshift (x * r + y * g + z * b) 13)
  (row 5140 2698 355, row 566 7533 93, row 134 721 7337)

/-- Decoding to linear light and primary conversion, steps 4 and 5 of R171. -/
def decodeColour (enc : Nat) (bt709 : Bool) (r g b : Norm) : Nat × Nat × Nat :=
  let c :=
    if enc = 0 then (r.linear, g.linear, b.linear)
    else
      let f (n : Norm) := interp (curveNode enc) n.v16
      if enc = 3 then
        let e := (f r, f g, f b)
        let ys := if bt709 then divRound (2126 * e.1 + 7152 * e.2.1 + 722 * e.2.2) 10000
          else divRound (2627 * e.1 + 6780 * e.2.1 + 593 * e.2.2) 10000
        let k := interp ysNode (Norm.v16 ⟨ys, 2 ^ 20⟩)
        let m (x : Nat) := satU (rshift ((x : Int) * k) 20)
        (m e.1, m e.2.1, m e.2.2)
      else (f r, f g, f b)
  if bt709 then toBt2020 c.1 c.2.1 c.2.2 else c

/-! ### Layers and their surfaces -/

/-- Where a layer reads its surface in a take: the first block, the block after the last that it may read, and the
expected tag (R166, R167). -/
structure Surface where
  base : Nat
  metaBase : Nat
  limit : Nat
  tag : Nat
deriving DecidableEq, Repr

/-- The surface of a layer for a take; none while the layer is transparent in it. -/
def State.surface (s : State) (l j : Nat) : Option Surface :=
  let p := pgLyr l
  let b := s.fget p LYR.SURF_BASE.BASE
  let m := s.fget p LYR.META_BASE.BASE
  if s.fget p LYR.CTL.SRC_MODE = 0 then some ⟨b, m, dramBlocks, s.fget p LYR.SURF_STRIDE.TAG⟩
  else match SMap.read none s.cmp.sels (4 * l + j) with
    | some w => some ⟨w.base + b, w.base + m, w.base + w.size, w.tag⟩
    | none => none

/-- A block of a layer's surface: none when it lies past the limit, is poisoned, or has another tag. -/
def State.surfBlock (s : State) (f : Surface) (b : Nat) : Option Nat :=
  let v := s.block b
  if f.limit ≤ b || v.poisoned || v.tag ≠ f.tag then none else some v.data

/-- `n` bytes from a byte of the surface. -/
def State.surfBytes (s : State) (f : Surface) (a : Nat) : Nat → Option Nat
  | 0 => some 0
  | n + 1 =>
    match s.surfBlock f (a / 32), s.surfBytes f (a + 1) n with
    | some d, some r => some (bitsOf d (8 * (a % 32)) 8 + 256 * r)
    | _, _ => none

/-! ### LEAF (R168 to R170) -/

/-- Channel widths of a LEAF format, in the order R, G, B, A. -/
def leafWidths (f : Nat) : List Nat := if f = 8 then [10, 10, 10, 2] else if f = 9 then [12, 12, 12] else [16, 16, 16, 16]

/-- Channels of a pixel as the uncompressed format holds it. -/
def splitPixel (f v : Nat) : List Nat :=
  if f = 8 ∨ f = 0 then [bitsOf v 0 10, bitsOf v 10 10, bitsOf v 20 10, bitsOf v 30 2]
  else if f = 9 ∨ f = 1 then [bitsOf v 4 12, bitsOf v 20 12, bitsOf v 36 12]
  else [bitsOf v 0 16, bitsOf v 16 16, bitsOf v 32 16, bitsOf v 48 16]

/-- The inverse of the zig-zag mapping. -/
def unzigzag (z : Nat) : Int := if z % 2 = 0 then (z / 2 : Nat) else -(((z + 1) / 2 : Nat) : Int)

/-- Residuals of one channel of a group, each of `w` bits, added up modulo 2ⁿ from the pixel before. -/
def leafResiduals (bits n w : Nat) : Nat → Nat → Nat → List Nat
  | 0, _, _ => []
  | k + 1, pos, prev =>
    let v := unsgn n ((prev : Int) + unzigzag (bitsOf bits pos w))
    v :: leafResiduals bits n w k (pos + w) v

/-- One group: for each channel a 5-bit width and its residuals. None when a width exceeds its channel's. -/
def leafGroup (bits count : Nat) : List Nat → List Nat → Nat → Option (List (List Nat) × Nat)
  | n :: ns, p :: ps, pos =>
    let w := bitsOf bits pos 5
    if n < w then none
    else
      let vs := leafResiduals bits n w count (pos + 5) p
      match leafGroup bits count ns ps (pos + 5 + w * count) with
      | some (r, e) => some (vs :: r, e)
      | none => none
  | _, _, pos => some ([], pos)

/-- The pixels of a group from its channels. -/
def transposeGroup (cs : List (List Nat)) (count : Nat) : List (List Nat) :=
  (List.range count).map (fun i => cs.map (fun c => c.getD i 0))

/-- Groups of eight until `left` pixels are decoded; the last pixel decoded is the predecessor of the next group. -/
def leafGroups (bits limit : Nat) (ns : List Nat) : Nat → Nat → List Nat → Nat → Option (List (List Nat))
  | 0, _, _, pos => if pos ≤ limit then some [] else none
  | fuel + 1, left, prev, pos =>
    if left = 0 then (if pos ≤ limit then some [] else none)
    else
      let count := min left 8
      match leafGroup bits count ns prev pos with
      | none => none
      | some (cs, e) =>
        let px := transposeGroup cs count
        match leafGroups bits limit ns fuel (left - count) (px.getLastD prev) e with
        | some r => some (px ++ r)
        | none => none

/-- A segment of `len` pixels from its descriptor and the bits of its blocks: none when it is corrupt (R169, R170). -/
def leafSegment (f desc len bits : Nat) : Option (List (List Nat)) :=
  let used := desc % 32
  let mode := desc / 32 % 4
  let b := bppOf f
  if used = 0 ∨ leafSlot f < used ∨ 2 ≤ mode ∨ 128 ≤ desc then none
  else if mode = 0 then
    if len * b ≤ used * 256 then some ((List.range len).map (fun i => splitPixel f (bitsOf bits (i * b) b))) else none
  else
    let first := splitPixel f (bitsOf bits 0 b)
    match leafGroups bits (used * 256) (leafWidths f) 8 (len - 1) first b with
    | some r => some (first :: r)
    | none => none

/-- The block of a segment's descriptor byte. -/
def State.leafMetaBlock (s : State) (l : Nat) (f : Surface) (y seg : Nat) : Nat :=
  f.metaBase + y * s.fget (pgLyr l) LYR.META_STRIDE.BLOCKS + seg / 32

/-- Pixels in segment `seg` of a row. -/
def leafLen (width seg : Nat) : Nat := min 64 (width - 64 * seg)

/-- What a LEAF segment decodes to; none when it cannot be shown. -/
def State.leafPixels (s : State) (l : Nat) (f : Surface) (y seg : Nat) : Option (List (List Nat)) :=
  let p := pgLyr l
  let fmt := s.fget p LYR.CTL.FORMAT
  match s.surfBlock f (s.leafMetaBlock l f y seg) with
  | none => none
  | some d =>
    let desc := bitsOf d (8 * (seg % 32)) 8
    let base := f.base + y * s.fget p LYR.SURF_STRIDE.BLOCKS + seg * leafSlot fmt
    match s.surfBytes f (32 * base) (32 * min (desc % 32) (leafSlot fmt)) with
    | some bits => leafSegment fmt desc (leafLen (s.fget p LYR.SURF_GEOM.WIDTH) seg) bits
    | none => none

/-- The raw channels of a surface pixel, steps 1 and 2 of R171; none: transparent. -/
def State.rawPixel (s : State) (l : Nat) (f : Surface) (x y : Nat) : Option (List Nat) :=
  let p := pgLyr l
  let fmt := s.fget p LYR.CTL.FORMAT
  if isLeaf fmt then
    match s.leafPixels l f y (x / 64) with
    | some px => some (px.getD (x % 64) [])
    | none => none
  else
    let b := bppOf fmt / 8
    match s.surfBytes f (32 * (f.base + y * s.fget p LYR.SURF_STRIDE.BLOCKS) + x * b) b with
    | some v => some (if b = 1 then [v] else splitPixel fmt v)
    | none => none

/-- Steps 3 to 6 of R171: normalisation, decoding, conversion and premultiplication. -/
def State.decodePixel (s : State) (l : Nat) (cs : List Nat) : Px :=
  let p := pgLyr l
  let fmt := s.fget p LYR.CTL.FORMAT
  let enc := s.fget p LYR.CTL.ENC
  let bt709 := s.fbit p LYR.CTL.PRIM
  let c (i : Nat) := cs.getD i 0
  let (rgb, a) :=
    if fmt = 4 then
      ((s.fget p LYR.FILL_RG.R * 256, s.fget p LYR.FILL_RG.G * 256, s.fget p LYR.FILL_B.B * 256),
        divRound (c 0 * 32768) 255)
    else if fmt = 3 then
      let n (f : Fld) : Norm := ⟨s.fget p f, 65535⟩
      (decodeColour enc bt709 (n (LYR.PAL_RG.R (c 0))) (n (LYR.PAL_RG.G (c 0))) (n (LYR.PAL_BA.B (c 0))),
        divRound (s.fget p (LYR.PAL_BA.A (c 0)) * 32768) 65535)
    else if fmt = 2 ∨ fmt = 10 then
      let n (i : Nat) : Norm := ⟨half24 (c i), 2 ^ 24⟩
      (decodeColour enc bt709 (n 0) (n 1) (n 2), divRound (min (half24 (c 3)) (2 ^ 24) * 32768) (2 ^ 24))
    else if fmt = 1 ∨ fmt = 9 then
      (decodeColour enc bt709 ⟨c 0, 4095⟩ ⟨c 1, 4095⟩ ⟨c 2, 4095⟩, 32768)
    else (decodeColour enc bt709 ⟨c 0, 1023⟩ ⟨c 1, 1023⟩ ⟨c 2, 1023⟩, divRound (c 3 * 32768) 3)
  if s.fbit p LYR.CTL.PREMUL then ⟨rgb.1, rgb.2.1, rgb.2.2, a⟩
  else ⟨mulA rgb.1 a, mulA rgb.2.1 a, mulA rgb.2.2 a, a⟩

/-- A source pixel of a layer, premultiplied; coordinates outside the source rectangle repeat its edge (R176). -/
def State.sourcePixel (s : State) (l : Nat) (f : Surface) (u v : Int) : Option Px :=
  let p := pgLyr l
  let x := s.fget p LYR.SRC_POS.X + (clampI 0 ((s.fget p LYR.SRC_SIZE.W : Int) - 1) u).toNat
  let y := s.fget p LYR.SRC_POS.Y + (clampI 0 ((s.fget p LYR.SRC_SIZE.H : Int) - 1) v).toNat
  match s.rawPixel l f x y with
  | some cs => some (s.decodePixel l cs)
  | none => none

/-! ### Scaling (R176) -/

/-- The sampling position of destination pixel `i`, in 1/64 of a source pixel, to nearest. -/
def samplePos (i src dst : Nat) : Int :=
  (((2 * i + 1) * src * 64 : Nat) - (64 * dst : Nat) + (dst : Nat) : Int) / (2 * dst : Nat)

/-- The taps of an axis at a phase: offsets from the base pixel with their S1.14 coefficients, which sum to 16,384. -/
def tapsOf (filter n src dst phase : Nat) : List (Int × Int) :=
  if filter = 1 then [(0, 256 * (64 - phase : Int)), (1, 256 * (phase : Int))]
  else if filter = 2 then [(if phase < 32 then 0 else 1, 16384)]
  else
    let c := (List.range n).map (fun t => (Config.lanczos n src dst phase t).toInt)
    let rest := (c.zipIdx.filter (fun e => e.2 ≠ n / 2 - 1)).foldl (fun a e => a + e.1) 0
    c.zipIdx.map (fun e => ((e.2 : Int) - (n / 2 - 1 : Nat), if e.2 = n / 2 - 1 then 16384 - rest else e.1))

/-- The weighted sum of source pixels about a position; none when a pixel with a weight is transparent. -/
def State.scaleSum (s : State) (l : Nat) (f : Surface) (bx by_ : Int) (hs : List (Int × Int)) :
    List (Int × Int) → Option (Int × Int × Int × Int)
  | [] => some (0, 0, 0, 0)
  | v :: vs =>
    let row := hs.foldl (fun acc h =>
      match acc, s.sourcePixel l f (bx + h.1) (by_ + v.1) with
      | some (r, g, b, a), some px =>
        let w := h.2 * v.2
        some (r + w * px.r, g + w * px.g, b + w * px.b, a + w * px.a)
      | acc, none => if h.2 * v.2 = 0 then acc else none
      | none, _ => none) (some (0, 0, 0, 0))
    match row, s.scaleSum l f bx by_ hs vs with
    | some (r, g, b, a), some (r', g', b', a') => some (r + r', g + g', b + b', a + a')
    | _, _ => none

/-- A layer's pixel at offset (i, k) of its destination rectangle, after step 7. -/
def State.scaledPixel (s : State) (l : Nat) (f : Surface) (i k : Nat) : Option Px :=
  let p := pgLyr l
  if s.fget p LYR.CTL.SCALER = 0 then s.sourcePixel l f i k
  else
    let (sw, sh) := (s.fget p LYR.SRC_SIZE.W, s.fget p LYR.SRC_SIZE.H)
    let (dw, dh) := (s.fget p LYR.DST_SIZE.W, s.fget p LYR.DST_SIZE.H)
    let filter := s.fget p LYR.CTL.FILTER
    let (px, py) := (samplePos i sw dw, samplePos k sh dh)
    let hs := tapsOf filter 8 sw dw (px % 64).toNat
    let vs := tapsOf filter 6 sh dh (py % 64).toNat
    match s.scaleSum l f (px / 64) (py / 64) hs vs with
    | some (r, g, b, a) =>
      some ⟨satU (rshift r 28), satU (rshift g 28), satU (rshift b 28), (clampI 0 32768 (rshift a 28)).toNat⟩
    | none => none

/-! ### Blending (R174) and the stack (R163, R164) -/

/-- Step 8: global alpha. -/
def galpha (g x : Nat) : Nat := divRound (x * g) 255

/-- One channel of the blend. -/
def blendChannel (mode sc a d : Nat) : Nat :=
  if mode = 0 then sc
  else if mode = 1 then satU ((sc : Int) + rshift ((d : Int) * (32768 - a)) 15)
  else satU ((d : Int) + sc)

/-- Blending layer `l` into a composite pixel of take `j`. -/
def State.blendLayer (s : State) (j x y : Nat) (d : Nat × Nat × Nat) (l : Nat) : Nat × Nat × Nat :=
  let p := pgLyr l
  let i := (x : Int) - s.fgetI p LYR.DST_POS.X
  let k := (y : Int) - s.fgetI p LYR.DST_POS.Y
  let inside := 0 ≤ i && i < s.fget p LYR.DST_SIZE.W && 0 ≤ k && k < s.fget p LYR.DST_SIZE.H
  if !inside || SMap.read 512 s.cmp.gone l ≤ y % 512 then d
  else
    match s.surface l j with
    | none => d
    | some f =>
      match s.scaledPixel l f i.toNat k.toNat with
      | none => d
      | some px =>
        let g := s.fget p LYR.CTL.GALPHA
        let m := s.fget p LYR.CTL.BLEND
        let a := galpha g px.a
        (blendChannel m (galpha g px.r) a d.1, blendChannel m (galpha g px.g) a d.2.1,
          blendChannel m (galpha g px.b) a d.2.2)

/-- The layers of a take, lowest first (R163, R164). -/
def State.stackOf (s : State) (j : Nat) : List Nat :=
  let order := if bit (s.fget pgCmp CMP.ORDER_CTL.PROG) j then
      ((List.range 8).map (fun i => s.fget pgCmp (CMP.ORDER.POS j i))).filter (fun l => l < 8)
    else List.range 8
  order.filter (fun l => bit (s.fget (pgLyr l) LYR.CTL.TAKE_EN) j)

/-! ### The overlay (R178 to R181) -/

/-- A library word. -/
def State.libWord (s : State) (i : Nat) : Nat := (SMap.read 0 s.cmp.lib (i % 65536)).toNat

/-- The directory entry of a symbol: offset, width and height (R179). -/
def State.symbol (s : State) (n : Nat) : Nat × Nat × Nat :=
  let w1 := s.libWord (2 * n + 1)
  (bitsOf (s.libWord (2 * n)) 0 16, bitsOf w1 0 11, bitsOf w1 16 11)

/-- Words of a bitmap row. -/
def rowWords (w : Nat) : Nat := (w + 31) / 32

/-- The overlay on a composite pixel: the symbol's set bits and the heartbeat marker. -/
def State.drawOverlay (s : State) (frame j x y : Nat) (d : Nat × Nat × Nat) : Nat × Nat × Nat :=
  if !bit (s.fget pgOvl OVL.CTL.TAKE_EN) j then d
  else
    let (hx, hy) := (s.fget pgOvl OVL.HB_POS.X, s.fget pgOvl OVL.HB_POS.Y)
    if hx ≤ x ∧ x ≤ hx + 1 ∧ hy ≤ y ∧ y ≤ hy + 1 then
      let c (f : Fld) := s.fget pgOvl f * 4096
      if frame % 2 = 0 then (c OVL.HB_COL0.R, c OVL.HB_COL0.G, c OVL.HB_COL0.B)
      else (c OVL.HB_COL1.R, c OVL.HB_COL1.G, c OVL.HB_COL1.B)
    else
      let (off, w, h) := s.symbol (s.fget pgOvl OVL.CTL.SYMBOL)
      let k := 2 ^ s.fget pgOvl OVL.CTL.SCALE
      let i := ((x : Int) - s.fgetI pgOvl OVL.POS.X) / k
      let n := ((y : Int) - s.fgetI pgOvl OVL.POS.Y) / k
      if 0 ≤ i ∧ i < w ∧ 0 ≤ n ∧ n < h ∧ bit (s.libWord (off + n.toNat * rowWords w + i.toNat / 32)) (i.toNat % 32) then
        (s.fget pgOvl OVL.COLOUR_RG.R * 256, s.fget pgOvl OVL.COLOUR_RG.G * 256, s.fget pgOvl OVL.COLOUR_B.B * 256)
      else d

/-- The composite pixel of take `j` at (x, y) (R163). -/
def State.compositePixel (s : State) (j x y : Nat) : Nat × Nat × Nat :=
  s.drawOverlay (s.fget pgTime TIME.FRAME.NUMBER) j x y ((s.stackOf j).foldl (s.blendLayer j x y) (0, 0, 0))

/-- The pixel that the same engine is supplied just before (x, y) of a take, in the order of R163: rows of the engine's
half from the top, left to right; none before its first. -/
def pixelBefore (x y : Nat) : Option (Nat × Nat) :=
  if x % 512 ≠ 0 then some (x - 1, y) else if y % 512 ≠ 0 then some (x + 511, y - 1) else none

/-- The composite that the engines and the monitor are supplied: a pixel that was not ready is replaced by the last one
supplied to the engine for the take, or by black (R192). -/
def State.supplied (s : State) (j : Nat) : Nat → Nat → Nat → Nat × Nat × Nat
  | 0, x, y => s.compositePixel j x y
  | fuel + 1, x, y =>
    if s.cmp.produced ≤ y % 512 || s.cmp.late.contains (j * 2 ^ 20 + pixelIndex x y) then
      match pixelBefore x y with
      | some (x', y') => s.supplied j fuel x' y'
      | none =>
        if s.cmp.takesBefore ≤ j then (0, 0, 0)
        else
          let v := SMap.read 0 s.cmp.last (4 * quadrantOfPixel x y + j)
          (bitsOf v 0 24, bitsOf v 24 24, bitsOf v 48 24)
    else s.compositePixel j x y

/-- The composite of take `j` at (x, y) as the engine receives it. -/
def State.composite (s : State) (j x y : Nat) : Nat × Nat × Nat := s.supplied j (512 * 512) x y

/-- A U4.20 value as binary16, to nearest, ties to even (R194). -/
def toHalf (v : Nat) : Nat :=
  let e := Nat.log2 v
  if e < 6 then v * 16
  else if e ≤ 10 then (e - 5) * 1024 + (v * 2 ^ (10 - e) - 1024)
  else
    let sh := e - 10
    let q := v / 2 ^ sh
    let r := v % 2 ^ sh
    let q := if 2 ^ (sh - 1) < r ∨ (r = 2 ^ (sh - 1) ∧ q % 2 = 1) then q + 1 else q
    (e - 5) * 1024 + (q - 1024)

/-- A composite pixel as the monitor writes it: RGBA16F with A = 1.0 (R194). -/
def halfPixel (c : Nat × Nat × Nat) : Nat :=
  toHalf c.1 + toHalf c.2.1 * 2 ^ 16 + toHalf c.2.2 * 2 ^ 32 + 0x3C00 * 2 ^ 48

end Sys2Proof.Machine
end

