-- ==== Sys2Proof/Machine/Engine.lean ====
section
/-! DEFINITION. The pixel engines (R208 to R212, R239 to R246, R251): from the composite to drive codes, tile by tile. -/

namespace Sys2Proof.Machine

/-! ### The calibration region (R213) -/

/-- The region's first byte and its tag. -/
def State.regionByte (s : State) (off : Nat) : Nat := 32 * (s.fget pgCad CAD.REGION.BASE + off)
def State.regionTag (s : State) : Nat := s.fget pgCad CAD.REGION_TAG.TAG

/-- The byte of a caddy record of pixel-bank (p, b). -/
def State.caddyAt (s : State) (off p b : Nat) : Nat := s.regionByte off + (2 * p + b) * 36

/-- The byte of an effective record of pixel-bank (p, b) in a buffer. -/
def State.effAt (s : State) (buf p b : Nat) : Nat := s.regionByte (offEff buf) + (2 * p + b) * 18

/-- The byte of an emitter's wear record. -/
def State.wearAt (s : State) (e : Nat) : Nat := s.regionByte offWear + 8 * e

/-- The byte that holds the residual of emitter `e` and take `j`; nibble `j` mod 2 of it. -/
def State.residAt (s : State) (e j : Nat) : Nat := s.regionByte offResidual + 2 * e + j / 2

/-! ### Stage 2 and stage 3 -/

/-- Coefficient `i` of the gamut matrix. -/
def State.gamut (s : State) (i : Nat) : Int :=
  s.fgetI pgCad (if i % 2 = 0 then CAD.GAMUT.GA (i / 2) else CAD.GAMUT.GB (i / 2))

/-- Stage 2 (R209): one target channel before it is held. -/
def State.stage2Raw (s : State) (c : Nat × Nat × Nat) (i : Nat) : Int :=
  rshift (s.gamut (3 * i) * c.1 + s.gamut (3 * i + 1) * c.2.1 + s.gamut (3 * i + 2) * c.2.2) 13

/-- A list of three channels as a triple. -/
def triple (f : Nat → Nat) : Nat × Nat × Nat := (f 0, f 1, f 2)

/-- One channel of a triple. -/
def chan (t : Nat × Nat × Nat) (i : Nat) : Nat := if i = 0 then t.1 else if i = 1 then t.2.1 else t.2.2

/-- Stage 2 (R209). -/
def State.stage2 (s : State) (c : Nat × Nat × Nat) : Nat × Nat × Nat :=
  triple (fun i => (clampI 0 0xFFFFFF (s.stage2Raw c i)).toNat)

/-- The effective matrix of a pixel-bank as the engine reads it: none when a block of its record is poisoned or has
another tag (R230). -/
def State.effMatrix (s : State) (p b : Nat) : Option Nat :=
  s.readNat s.regionTag (s.effAt (s.fget (pgPe 0) PE.STAT.EFF_BUF) p b) 18

/-- Stage 3 (R210): one emitter before it is held. -/
def stage3Raw (m : Nat) (t : Nat × Nat × Nat) (e : Nat) : Int :=
  let c (k : Nat) := sgn 16 (bitsOf m (16 * (3 * e + k)) 16)
  rshift (c 0 * t.1 + c 1 * t.2.1 + c 2 * t.2.2) 13

/-- Stage 3 (R210, R230). -/
def State.stage3 (s : State) (p b : Nat) (t : Nat × Nat × Nat) : Nat × Nat × Nat :=
  match s.effMatrix p b with
  | none => (0, 0, 0)
  | some m => triple (fun e => (clampI 0 0xFFFFF (stage3Raw m t e)).toNat)

/-! ### Stage 4 (R239 to R247) -/

/-- The verdict in force of an emitter is OPEN or SHORT: the fault list in force holds it (R240, R241, R315). -/
def State.openOrShort (s : State) (e : Nat) : Bool := SMap.read 0 s.diag.inForce e != 0

/-- The matte copy in force begins here. -/
def State.matteByte (s : State) (m p b : Nat) : Nat :=
  32 * (s.fget pgMatte MATTE.BASE.BASE + m * 131072) + (2 * p + b) * 2

/-- The matte entry of a pixel-bank; none when its block cannot be used (R247). -/
def State.matteEntry (s : State) (p b : Nat) : Option Nat :=
  s.readNat (s.fget pgMatte MATTE.TAG.TAG) (s.matteByte (s.fget pgMatte MATTE.CTL.ACTIVE) p b) 2

/-- A member of an enabled zone: the zone. -/
def State.zoneOf (s : State) (entry : Nat) : Option Nat :=
  let z := bitsOf entry 8 6
  if bit entry 14 && s.fbit pgMatte (MATTE.ZCAP.EN z) then some z else none

/-- What the matte makes of a pixel-bank: dark, unlimited, or its limit (R244, R247, R248). -/
inductive Limit where
  | dark
  | free
  | cap (lim : Nat)
deriving DecidableEq, Repr

/-- The case of R239 and R244 for a pixel-bank. -/
def State.limitOf (s : State) (p b : Nat) : Limit :=
  if !s.fbit pgMatte MATTE.STAT.MATTE_OK then .dark
  else match s.matteEntry p b with
    | none => .dark
    | some e =>
      let a := e % 256
      let zc := (s.zoneOf e).map (fun z => s.fget pgMatte (MATTE.ZCAP.CAP z))
      if a = 0 then .dark
      else match zc with
        | some c => if c < 16 then .dark else .cap (min (4112 * a) c)
        | none => if a = 255 then .free else .cap (4112 * a)

/-- The gain of a bank in a take (R238). -/
def State.gain (s : State) (j b : Nat) : Nat := s.fget pgMatte (if b = 0 then MATTE.GAIN.A j else MATTE.GAIN.B j)

/-- A proxy weight (R245). -/
def State.weight (s : State) (c : Nat) : Nat :=
  if c = 0 then s.fget pgMatte MATTE.PROXY_W0.R else if c = 1 then s.fget pgMatte MATTE.PROXY_W0.G
  else s.fget pgMatte MATTE.PROXY_W1.B

/-- The emitter of a pixel, bank and colour. -/
def State.emitterAt (s : State) (x y b c : Nat) : Nat := emitterIndex s.dual (ringOf s.dual ⟨x, y, b, c⟩)

/-- Both banks of a pixel after stage 3, for a take: drive by bank. -/
abbrev Banks := (Nat × Nat × Nat) × (Nat × Nat × Nat)

/-- The drive of a bank after the bank gain (R239). -/
def State.gained (s : State) (j b : Nat) (d : Nat × Nat × Nat) : Nat × Nat × Nat :=
  triple (fun c => (rshift ((chan d c : Int) * s.gain j b) 15).toNat)

/-- One bank of a pair. -/
def bankOf (d : Banks) (b : Nat) : Nat × Nat × Nat := if b = 0 then d.1 else d.2

/-- Borrowing runs (R240). -/
def State.borrowOn (s : State) : Bool := s.dual && s.fbit pgCad CAD.CTL.BORROW

/-- The receiver of colour `c` in bank `b` borrows in take `j` (R240). -/
def State.borrows (s : State) (j x y b c : Nat) : Bool :=
  s.borrowOn && s.openOrShort (s.emitterAt x y (1 - b) c) && !s.openOrShort (s.emitterAt x y b c) &&
  bit (s.fget pgMatte MATTE.BORROW.TAKES) j && s.gain j b != 0

/-- Drive after borrowing (R240). -/
def State.borrowed (s : State) (j x y b : Nat) (d : Banks) : Nat × Nat × Nat :=
  let own := s.gained j b (bankOf d b)
  let other := s.gained j (1 - b) (bankOf d (1 - b))
  triple (fun c =>
    if s.borrowOn && s.openOrShort (s.emitterAt x y b c) then 0
    else if s.borrows j x y b c then
      (clampI 0 0xFFFFF (chan own c + rshift ((chan other c : Int) * s.fget pgMatte MATTE.BORROW.GAIN) 15)).toNat
    else chan own c)

/-- The result of stage 4 for a pixel-bank: none when it is dark by rule, else *d*′; and whether it was scaled or made
dark (R239). -/
def State.stage4 (s : State) (j x y b : Nat) (d : Banks) : Option (Nat × Nat × Nat) × Bool :=
  let v := s.borrowed j x y b d
  match s.limitOf (pixelIndex x y) b with
  | .dark => (none, true)
  | .free => (some v, false)
  | .cap l =>
    let lim := l - 15
    let sum := s.weight 0 * v.1 + s.weight 1 * v.2.1 + s.weight 2 * v.2.2
    if lim * 65536 < sum then
      let k := lim * 4294967296 / sum
      (some (triple (fun c => chan v c * k / 65536)), true)
    else (some v, false)

/-! ### Stage 5 (R211) -/

/-- A code with its residual: on-time *n*, range *r* and the new *ρ*. -/
structure Quant where
  n : Nat
  r : Nat
  rho : Nat
deriving DecidableEq, Repr

/-- The procedure "quantise one drive value" (R211). -/
def quantise (d rho : Nat) : Quant :=
  let v := min (d + rho) 1048575
  if v < 16384 then ⟨4 * v, 3, 0⟩
  else if v < 65536 then ⟨v, 2, 0⟩
  else if v < 262144 then ⟨v / 4, 1, v % 4⟩
  else ⟨v / 16, 0, v % 16⟩

/-- The delivered drive of a code (R245). -/
def delivered (n r : Nat) : Nat := n * 16 / 4 ^ r

/-- The luminance proxy of a pixel-bank's codes (R245). -/
def State.proxy (s : State) (q : List (Nat × Nat)) : Nat :=
  (q.zipIdx.foldl (fun a e => a + s.weight e.2 * delivered e.1.1 e.1.2) 0) / 65536

/-- The residual an engine reads (R211, R212). -/
def State.residual (s : State) (e j t : Nat) : Nat :=
  if !s.fbit (pgPe (portGroup t)) PE.CTL.DITHER || bit s.cad.freshTiles t then 0
  else match s.readByte s.regionTag (s.residAt e j) with
    | some v => bitsOf v (4 * (j % 2)) 4
    | none => 0

/-- Writing a residual back (R211). -/
def State.putResidual (s : State) (e j t rho : Nat) : State :=
  if s.fbit (pgPe (portGroup t)) PE.CTL.DITHER then
    let a := s.residAt e j
    s.writeBytes (0x11 + portGroup t) s.regionTag a [putBits (s.byte a) (4 * (j % 2)) 4 rho] false
  else s

/-- Recording a code, its drive value and its residual. -/
def State.putCode (s : State) (e j t d : Nat) (q : Quant) : State :=
  { s.putResidual e j t q.rho with cad := { s.cad with
      drive := SMap.write 0 s.cad.drive (4 * e + j) d
      codes := SMap.write 3 s.cad.codes (4 * e + j) (4 * q.n + q.r) } }

/-! ### A pixel, a tile -/

/-- Banks that the build has. -/
def State.banks (s : State) : List Nat := if s.dual then [0, 1] else [0]

/-- The pixel that PROBE_SEL names, in its bank and take, is captured (R232). -/
def State.probe (s : State) (pe x y b j : Nat) (t d : Nat × Nat × Nat) (q : Nat → Quant) : State :=
  let p := pgPe pe
  if s.fget p PE.PROBE_SEL.X = x && s.fget p PE.PROBE_SEL.Y = y && s.fget p PE.PROBE_SEL.BANK = b &&
      s.fget p PE.PROBE_SEL.TAKE = j then
    let s := [0, 1, 2].foldl (fun s c =>
      let s := (s.fset p (PE.PROBE_T.VALUE c) (chan t c)).fset p (PE.PROBE_D.VALUE c) (chan d c)
      ((s.fset p (PE.PROBE_Q.ON_TIME c) (q c).n).fset p (PE.PROBE_Q.RANGE c) (q c).r).fset p (PE.PROBE_Q.RESID c)
        (q c).rho) s
    (s.fset p PE.PROBE_STAT.FRAME s.frame).fset p PE.PROBE_STAT.VALID 1
  else s

/-- Stages 4 and 5 of a pixel-bank in a take (R208). -/
def State.peBank (s : State) (j x y : Nat) (t : Nat × Nat × Nat) (d : Banks) (b : Nat) : State :=
  let tile := tileOfPixel x y
  let pe := quadrantOfPixel x y
  let em (c : Nat) := s.emitterAt x y b c
  if !s.fbit (pgPe pe) PE.STAT.EFF_VALID then
    [0, 1, 2].foldl (fun s c => s.putCode (em c) j tile 0 ⟨0, 3, 0⟩) s
  else
    let (r4, act) := s.stage4 j x y b d
    let s := if act then s.finc pgMatte MATTE.CAP_ACT.COUNT else s
    let q (c : Nat) : Quant := match r4 with
      | none => ⟨0, 3, 0⟩
      | some v => quantise (chan v c) (s.residual (em c) j tile)
    let dv : Nat × Nat × Nat := r4.getD (0, 0, 0)
    let s' := [0, 1, 2].foldl (fun s c => s.putCode (em c) j tile (chan dv c) (q c)) s
    s'.probe pe x y b j t dv q

/-- One pixel in one take: stages 1 to 5, with the counts of R209 and R210. -/
def State.pePixel (s : State) (j x y : Nat) : State :=
  let pe := quadrantOfPixel x y
  let p := pixelIndex x y
  let c := s.composite j x y
  let t := s.stage2 c
  let clipped := [0, 1, 2].any (fun i => s.stage2Raw c i < 0 || 0xFFFFFF < s.stage2Raw c i)
  let s := if clipped then s.finc (pgPe pe) PE.GAMUT_CLIP.COUNT else s
  let sat := s.banks.any (fun b => match s.effMatrix p b with
    | some m => [0, 1, 2].any (fun e => 0xFFFFF < stage3Raw m t e)
    | none => false)
  let s := if sat && s.fbit (pgPe pe) PE.STAT.EFF_VALID then
      let s := s.finc (pgPe pe) PE.DRIVE_SAT.COUNT
      { s with cad := { s.cad with satSeen := s.cad.satSeen ||| 1 <<< pe } }
    else s
  let d : Banks := (s.stage3 p 0 t, s.stage3 p 1 t)
  s.banks.foldl (fun s b => s.peBank j x y t d b) s

/-- The pixels of a tile, row by row. -/
def tilePixels (t : Nat) : List (Nat × Nat) :=
  (List.range 65536).map (fun i => (256 * (t % 4) + i % 256, 256 * (t / 4) + i / 256))

/-- The codes of a tile as recorded, by emitter and take. -/
def State.tileCodes (s : State) (t : Nat) : List Nat :=
  let n := sinksPerRing s.dual * 3072
  (List.range n).flatMap (fun i => (List.range s.takes).map (fun j => SMap.read 3 s.cad.codes (4 * (t * n + i) + j)))

/-- The bytes of a tile's matte entries in the order of R249; the second component tells whether a block could not be
used. -/
def State.tileMatte (s : State) (m t : Nat) : List Nat × Bool :=
  let es := (tilePixels t).flatMap (fun e => [0, 1].map (fun b =>
    s.readNat (s.fget pgMatte MATTE.TAG.TAG) (s.matteByte m (pixelIndex e.1 e.2) b) 2))
  (es.flatMap (fun e => leBytes (e.getD 0) 2), es.any Option.isNone)

/-- Pixel-banks of a tile that borrow in a take of the frame (R241). -/
def State.tileBorrowers (s : State) (t : Nat) : Nat :=
  ((tilePixels t).flatMap (fun e => s.banks.filter (fun b =>
    (List.range s.takes).any (fun j => [0, 1, 2].any (fun c => s.borrows j e.1 e.2 b c))))).length

/-- A whole tile: the codes of every take. -/
def State.peTile (s : State) (t : Nat) : State :=
  (tilePixels t).foldl (fun s e => (List.range s.takes).foldl (fun s j => s.pePixel j e.1 e.2) s) s

end Sys2Proof.Machine
end

