-- ==== Sys2Proof/Machine/Cmp.lean ====
section
/-! DEFINITION. The compositor's pages (R164 to R204): commit checks, readiness, window selection, retire fences,
damage, captures, the monitor and the overlay library. -/

namespace Sys2Proof.Machine

/-! ### Commit checks (R199) -/

/-- Blocks of one row of a layer's surface. -/
def rowBlocks (fmt w : Nat) : Nat := if isLeaf fmt then ceilDiv w 64 * leafSlot fmt else ceilDiv (w * bppOf fmt) 256

/-- Blocks from a base to the end of `h` rows with a stride. -/
def extent (h stride row : Nat) : Nat := (h - 1) * stride + row

/-- The windows that a mask binds. -/
def boundWindows (mask : Nat) : List Nat := bitsSet mask 16

/-- An ingest window is enabled in force. -/
def State.winEn (s : State) (w : Nat) : Bool := s.fbit (pgLink 0) (LINK.WIN_BASE.EN w)

/-- A window's take in force. -/
def State.winTake (s : State) (w : Nat) : Nat := s.fget (pgLink 0) (LINK.WIN_BASE.TAKE w)

/-- A window's size in force. -/
def State.winSize (s : State) (w : Nat) : Nat := s.fget (pgLink 0) (LINK.WIN_CFG.SIZE w)

/-- FORMAT of R165, R174, R175, R176 and R184. -/
def State.lyrFormatBad (s : State) (ps : List Nat) (p : Nat) : Bool :=
  bppOf (s.vget ps p LYR.CTL.FORMAT) = 0 || s.vget ps p LYR.CTL.BLEND = 3 || s.vget ps p LYR.CTL.SCALER = 3 ||
  s.vget ps p LYR.CTL.FILTER = 3 || s.vget ps p LYR.CTL.READY_SRC = 3

/-- LINEBUF of R177. -/
def State.lyrLinebufBad (s : State) (ps : List Nat) (p : Nat) : Bool :=
  let fmt := s.vget ps p LYR.CTL.FORMAT
  s.vget ps p LYR.CTL.SCALER != 0 &&
    (if fmt = 2 ∨ fmt = 10 then 3072 else 4096) < s.vget ps p LYR.SRC_SIZE.W

/-- SCALER_BUSY of R175. -/
def State.lyrScalerBusy (s : State) (ps : List Nat) (l : Nat) : Bool :=
  let sc := s.vget ps (pgLyr l) LYR.CTL.SCALER
  (sc = 1 || sc = 2) && (List.range 8).any (fun m => m != l && s.vget ps (pgLyr m) LYR.CTL.SCALER = sc)

/-- SCALE_RANGE of R175 and R176. -/
def State.lyrScaleBad (s : State) (ps : List Nat) (p : Nat) : Bool :=
  let axis (src dst : Nat) : Bool :=
    if s.vget ps p LYR.CTL.SCALER = 0 then src != dst else !(src ≤ 4 * dst && dst ≤ 16 * src)
  axis (s.vget ps p LYR.SRC_SIZE.W) (s.vget ps p LYR.DST_SIZE.W) ||
  axis (s.vget ps p LYR.SRC_SIZE.H) (s.vget ps p LYR.DST_SIZE.H)

/-- SURF_RANGE of R167 and R168. -/
def State.lyrRangeBad (s : State) (ps : List Nat) (p : Nat) : Bool :=
  let g (f : Fld) := s.vget ps p f
  let fmt := g LYR.CTL.FORMAT
  let (w, h) := (g LYR.SURF_GEOM.WIDTH, g LYR.SURF_GEOM.HEIGHT)
  let row := rowBlocks fmt w
  let surfEnd := g LYR.SURF_BASE.BASE + extent h (g LYR.SURF_STRIDE.BLOCKS) row
  let metaEnd := g LYR.META_BASE.BASE + extent h (g LYR.META_STRIDE.BLOCKS) (ceilDiv (ceilDiv w 64) 32)
  let last := if isLeaf fmt then max surfEnd metaEnd else surfEnd
  !(1 ≤ w && w ≤ 16384 && 1 ≤ h && h ≤ 16384) || g LYR.SURF_STRIDE.BLOCKS < row ||
  g LYR.SRC_SIZE.W = 0 || g LYR.SRC_SIZE.H = 0 ||
  w < g LYR.SRC_POS.X + g LYR.SRC_SIZE.W || h < g LYR.SRC_POS.Y + g LYR.SRC_SIZE.H ||
  g LYR.DST_SIZE.W = 0 || g LYR.DST_SIZE.H = 0 ||
  (if g LYR.CTL.SRC_MODE = 0 then dramBlocks < last
   else (boundWindows (g LYR.WIN_MASK.MASK)).any (fun k => s.winSize k < last))

/-- WIN_BIND of R199 and R184. -/
def State.lyrBindBad (s : State) (ps : List Nat) (p : Nat) : Bool :=
  let ws := boundWindows (s.vget ps p LYR.WIN_MASK.MASK)
  (s.vget ps p LYR.CTL.SRC_MODE = 1 &&
    (ws.isEmpty || ws.any (fun w => !s.winEn w) ||
      (List.range 4).any (fun j => 3 < (ws.filter (fun w => s.winTake w = j)).length))) ||
  (s.vget ps p LYR.CTL.READY_SRC = 1 && !s.winEn (s.vget ps p LYR.WIN_MASK.READY_WIN))

/-- Bytes that a layer reads in one frame (R186). -/
def State.lyrBytes (s : State) (ps : List Nat) (l : Nat) : Nat :=
  let g (f : Fld) := s.vget ps (pgLyr l) f
  let fmt := g LYR.CTL.FORMAT
  let (x, w, h) := (g LYR.SRC_POS.X, g LYR.SRC_SIZE.W, g LYR.SRC_SIZE.H)
  if w = 0 ∨ h = 0 then 0
  else
    let blocks :=
      if isLeaf fmt then
        let (a, b) := (x / 64, (x + w - 1) / 64)
        h * ((b - a + 1) * leafSlot fmt) + h * (b / 32 - a / 32 + 1)
      else h * (((x + w) * bppOf fmt - 1) / 256 - x * bppOf fmt / 256 + 1)
    let takes := (bitsSet (g LYR.CTL.TAKE_EN) 4).length
    32 * blocks * (if takes = 0 then 0 else if g LYR.CTL.SRC_MODE = 1 then takes else 1)

/-- Bytes that all layers read in one frame. -/
def State.readBytes (s : State) (ps : List Nat) : Nat :=
  (List.range 8).foldl (fun n l => n + s.lyrBytes ps l) 0

/-- The read rate exceeds 12,800 MB/s (R186). -/
def State.budgetBad (s : State) (ps : List Nat) : Bool :=
  12800000000 * s.period < s.readBytes ps * 1000000000 * 65536

/-- The reasons against a commit of LYR*l* (R199). -/
def State.lyrReasons (s : State) (ps : List Nat) (l : Nat) : List Nat :=
  let p := pgLyr l
  reasons [(s.lyrFormatBad ps p, 0x10), (s.lyrLinebufBad ps p, 0x11), (s.lyrScalerBusy ps l, 0x12),
    (s.lyrScaleBad ps p, 0x13), (s.lyrRangeBad ps p, 0x14), (s.lyrBindBad ps p, 0x15), (s.budgetBad ps, 0x17)]

/-- A layer stands at two positions of an order table (R164). -/
def State.orderDup (s : State) (ps : List Nat) (j : Nat) : Bool :=
  let pos := ((List.range 8).map (fun i => s.vget ps pgCmp (CMP.ORDER.POS j i))).filter (fun l => l < 8)
  (List.range 8).any (fun l => 1 < pos.count l)

/-- The reasons against a commit of CMP (R199). -/
def State.cmpReasons (s : State) (ps : List Nat) : List Nat :=
  reasons [(dramBlocks < s.vget ps pgCmp CMP.CAP_BASE.BASE + 262144, 0x14),
    ((List.range 4).any (fun j => s.orderDup ps j), 0x16), (s.budgetBad ps, 0x17)]

/-- The reasons against a commit of OVL (R180, R181, R199); the symbol is judged with TAKE_EN = 0 too (DEDUCED, log 64). -/
def State.ovlReasons (s : State) (ps : List Nat) : List Nat :=
  let g (f : Fld) := s.vget ps pgOvl f
  let drawn := g OVL.CTL.TAKE_EN != 0
  let (_, w, h) := s.symbol (g OVL.CTL.SYMBOL)
  let k := 2 ^ g OVL.CTL.SCALE
  let (x, y) := (s.vgetI ps pgOvl OVL.POS.X, s.vgetI ps pgOvl OVL.POS.Y)
  reasons [(drawn && !s.fbit pgOvl OVL.LIB_STAT.SEALED, 0x18), (w = 0, 0x19),
    (!(0 ≤ x && x + w * k ≤ 1024 && 0 ≤ y && y + h * k ≤ 1024), 0x1A),
    (1022 < g OVL.HB_POS.X || 1022 < g OVL.HB_POS.Y, 0x1B),
    (g OVL.HB_COL0.R = g OVL.HB_COL1.R && g OVL.HB_COL0.G = g OVL.HB_COL1.G && g OVL.HB_COL0.B = g OVL.HB_COL1.B, 0x1C)]

/-! ### Readiness and what a commit does when it applies -/

/-- The readiness of a captured LYR commit at a boundary (R184). -/
def State.lyrReady (s : State) (l : Nat) : Bool :=
  let p := pgLyr l
  let src := s.pget p LYR.CTL.READY_SRC
  if src = 1 then bit s.cmp.newly (s.pget p LYR.WIN_MASK.READY_WIN)
  else if src = 2 then s.fbit p LYR.READY.FLAG
  else true

/-- The composition pages (R183). -/
def compositionPages : List Nat := pgCmp :: pgOvl :: (List.range 8).map pgLyr

/-- A LYR commit has applied: with READY_SRC = 2 the FLAG clears, and a MEMORY-mode surface that was replaced or turned
off waits for its fence (R184, R189). -/
def State.lyrApplied (s old : State) (l : Nat) : State :=
  let p := pgLyr l
  let s := if s.fget p LYR.CTL.READY_SRC = 2 then s.fset p LYR.READY.FLAG 0 else s
  let was := old.fget p LYR.CTL.TAKE_EN != 0 && old.fget p LYR.CTL.SRC_MODE = 0
  let same := s.fget p LYR.CTL.TAKE_EN != 0 && s.fget p LYR.CTL.SRC_MODE = 0 &&
    s.fget p LYR.SURF_BASE.BASE = old.fget p LYR.SURF_BASE.BASE
  if was && !same then
    { s with cmp := { s.cmp with retiring := SMap.write none s.cmp.retiring l (some (old.fget p LYR.SURF_BASE.BASE)) } }
  else s

/-- `CMP.READ_RATE` shows the rate in force (R186). -/
def State.setReadRate (s : State) : State :=
  s.fset pgCmp CMP.READ_RATE.MBPS (min (s.readBytes [] * 1000 * 65536 / (max s.period 1)) 0xFFFF)

/-! ### Windows (R23, R166, R190) -/

/-- Completions whose last block was written at least 4 µs before the boundary are latched (R23). -/
def State.latchWindows (s : State) (at_ : Nat) : State :=
  let old := s.cmp.waiting.filter (fun c => c.at_ + 4000 ≤ at_)
  let rest := s.cmp.waiting.filter (fun c => !(c.at_ + 4000 ≤ at_ : Bool))
  let c := old.foldl (fun (m : CmpSt) c =>
    { m with
      order := m.order + 1
      latched := SMap.write none m.latched c.window (some ⟨m.order + 1, c.frame⟩)
      newly := m.newly ||| 1 <<< c.window }) { s.cmp with newly := 0 }
  { s with cmp := { c with waiting := rest } }

/-- Among windows, the one whose latched completion was the latest to complete. -/
def State.latest (s : State) (ws : List Nat) : Option Nat :=
  ws.foldl (fun best w =>
    match SMap.read none s.cmp.latched w with
    | none => best
    | some c =>
      match best.bind (fun b => SMap.read none s.cmp.latched b) with
      | some b => if b.order < c.order then some w else best
      | none => some w) none

/-- The window a layer selects for a take (R154, R166). -/
def State.selectFor (s : State) (l j : Nat) : Option Nat :=
  let ws := (boundWindows (s.fget (pgLyr l) LYR.WIN_MASK.MASK)).filter s.winEn
  let own (k : Nat) := s.latest (ws.filter (fun w => s.winTake w = k))
  match own j with
  | some w => some w
  | none => own 0

/-- One selection, recorded in SEL with the window's values in force (R166). -/
def State.selectOne (s : State) (l j : Nat) : State :=
  let p := pgLyr l
  let on := s.fget p LYR.CTL.SRC_MODE = 1 && bit (s.fget p LYR.CTL.TAKE_EN) j
  let sel := if on then s.selectFor l j else none
  let rec_ := sel.map (fun w => (⟨w, s.fget (pgLink 0) (LINK.WIN_BASE.BASE w), s.winSize w,
    s.fget (pgLink 0) (LINK.WIN_CFG.TAG w)⟩ : WinSel))
  let s := { s with cmp := { s.cmp with sels := SMap.write none s.cmp.sels (4 * l + j) rec_ } }
  (s.fset p (LYR.SEL.WIN j) (sel.getD 0)).fsetB p (LYR.SEL.VALID j) sel.isSome

/-- Every layer selects its windows for the frame that begins, and the windows selected become busy (R166, R190). -/
def State.selectWindows (s : State) : State :=
  let s := (List.range 8).foldl (fun s l => (List.range 4).foldl (fun s j => s.selectOne l j) s) s
  let now := s.cmp.sels.foldl (fun m e => match e.2 with | some w => m ||| 1 <<< w.window | none => m) 0
  s.fset pgCmp CMP.WIN_BUSY.BUSY (s.fget pgCmp CMP.WIN_BUSY.BUSY ||| now)

/-- The windows that some layer has selected for this frame. -/
def State.selectedMask (s : State) : Nat :=
  s.cmp.sels.foldl (fun m e => match e.2 with | some w => m ||| 1 <<< w.window | none => m) 0

/-- The last reads of replaced surfaces and windows have returned (R189, R190). -/
def State.retireFence (s : State) (layers windows : Nat) : State :=
  let s := (bitsSet layers 8).foldl (fun s l =>
    match SMap.read none s.cmp.retiring l with
    | none => s
    | some b =>
      let p := pgLyr l
      let s := { s with cmp := { s.cmp with retiring := SMap.write none s.cmp.retiring l none } }
      ((s.fwrap p LYR.RETIRE.SEQ).fset p LYR.RETIRE_BASE.BASE b).evt p 8) s
  let fall := windows &&& s.fget pgCmp CMP.WIN_BUSY.BUSY &&& (0xFFFF - s.selectedMask % 0x10000)
  if fall = 0 then s
  else (s.fset pgCmp CMP.WIN_BUSY.BUSY (s.fget pgCmp CMP.WIN_BUSY.BUSY - fall)).evt pgCmp 16

/-! ### Damage (R170, R187, R188) -/

/-- The rows of its surface that a layer reads, with the layer's surface in a take. -/
def State.lyrReads (s : State) (l : Nat) : List Surface :=
  (bitsSet (s.fget (pgLyr l) LYR.CTL.TAKE_EN) 4).filterMap (fun j => s.surface l j)

/-- A block belongs to a layer's pixel data. -/
def State.lyrPixelBlock (s : State) (l : Nat) (f : Surface) (b : Nat) : Bool :=
  let p := pgLyr l
  let row := rowBlocks (s.fget p LYR.CTL.FORMAT) (s.fget p LYR.SURF_GEOM.WIDTH)
  let stride := max (s.fget p LYR.SURF_STRIDE.BLOCKS) 1
  f.base ≤ b && b < f.limit && (b - f.base) / stride < s.fget p LYR.SURF_GEOM.HEIGHT && (b - f.base) % stride < row

/-- A block belongs to a layer's LEAF metadata. -/
def State.lyrMetaBlock (s : State) (l : Nat) (f : Surface) (b : Nat) : Bool :=
  let p := pgLyr l
  let row := ceilDiv (ceilDiv (s.fget p LYR.SURF_GEOM.WIDTH) 64) 32
  let stride := max (s.fget p LYR.META_STRIDE.BLOCKS) 1
  isLeaf (s.fget p LYR.CTL.FORMAT) && f.metaBase ≤ b && b < f.limit &&
    (b - f.metaBase) / stride < s.fget p LYR.SURF_GEOM.HEIGHT && (b - f.metaBase) % stride < row

/-- A surface-tag mismatch of layer `l` at a block, while row pair `pair` is produced (R187). -/
def State.earlyRelease (s : State) (l b expected found pair : Nat) : State :=
  let s := { s with cmp := { s.cmp with gone := SMap.write 512 s.cmp.gone l (min pair (SMap.read 512 s.cmp.gone l)) } }
  if bit s.cmp.early l then s
  else
    let s := { s with cmp := { s.cmp with early := s.cmp.early ||| 1 <<< l } }
    let s :=
      if s.fbit pgCmp CMP.EARLY_INFO.VALID then s
      else
        (((s.fset pgCmp CMP.EARLY_ADDR.BLOCK b).fset pgCmp CMP.EARLY_INFO.LAYER l).fset pgCmp CMP.EARLY_INFO.EXPECTED
          expected |>.fset pgCmp CMP.EARLY_INFO.FOUND found).fset pgCmp CMP.EARLY_INFO.VALID 1
    let s := ((s.finc pgCmp CMP.EARLY_CNT.COUNT).evt pgCmp 10).evt (pgLyr l) 9
    s.reportUsage pgCmp 0x10 1 2 b

/-- A corrupt LEAF segment (R170). -/
def State.leafError (s : State) : State :=
  ((s.finc pgCmp CMP.LEAF_ERR_CNT.COUNT).evt pgCmp 13).reportDrop pgCmp

/-- A descriptor byte alone makes its segment corrupt. -/
def descCorrupt (fmt desc : Nat) : Bool :=
  desc % 32 = 0 || leafSlot fmt < desc % 32 || 2 ≤ desc / 32 % 4 || 128 ≤ desc

/-- Corrupt descriptors among those of a metadata block. -/
def State.corruptDescs (s : State) (l : Nat) (f : Surface) (b data : Nat) : Nat :=
  let p := pgLyr l
  let segs := ceilDiv (s.fget p LYR.SURF_GEOM.WIDTH) 64
  let first := 32 * ((b - f.metaBase) % max (s.fget p LYR.META_STRIDE.BLOCKS) 1)
  ((List.range (min 32 (segs - first))).filter (fun i =>
    descCorrupt (s.fget p LYR.CTL.FORMAT) (bitsOf data (8 * i) 8))).length

/-- The segment that begins at a block has a good descriptor and a corrupt stream. -/
def State.streamCorrupt (s : State) (l : Nat) (f : Surface) (b : Nat) : Bool :=
  let p := pgLyr l
  let fmt := s.fget p LYR.CTL.FORMAT
  let stride := max (s.fget p LYR.SURF_STRIDE.BLOCKS) 1
  let y := (b - f.base) / stride
  let o := (b - f.base) % stride
  isLeaf fmt && o % leafSlot fmt = 0 &&
    (match s.surfBlock f (s.leafMetaBlock l f y (o / leafSlot fmt)) with
     | some d =>
       let desc := bitsOf d (8 * (o / leafSlot fmt % 32)) 8
       !descCorrupt fmt desc &&
         (match s.surfBytes f (32 * b) (32 * (desc % 32)) with
          | some bits =>
            (leafSegment fmt desc (leafLen (s.fget p LYR.SURF_GEOM.WIDTH) (o / leafSlot fmt)) bits).isNone
          | none => false)
     | none => false)

/-- The compositor has received block `b` while it produces row pair `pair`: tags, poison and LEAF (R170, R187, R188). -/
def State.cmpReceive (s : State) (b pair : Nat) : State :=
  let v := s.block b
  let readers := (List.range 8).filterMap (fun l =>
    ((s.lyrReads l).find? (fun f => s.lyrPixelBlock l f b || s.lyrMetaBlock l f b)).map (fun f => (l, f)))
  let s := readers.foldl (fun s e =>
    if !v.poisoned && v.tag ≠ e.2.tag then s.earlyRelease e.1 b e.2.tag v.tag pair else s) s
  let s :=
    if v.poisoned && !readers.isEmpty then
      ((s.finc pgCmp CMP.POISON_CNT.COUNT).evt pgCmp 12).report
        { src := pgCmp, cls := 1, typ := 1, space := 2, addr := b, master := 0x10 }
    else s
  readers.foldl (fun s e =>
    if v.poisoned || v.tag ≠ e.2.tag then s
    else
      let n := if s.lyrMetaBlock e.1 e.2 b then s.corruptDescs e.1 e.2 b v.data else 0
      let n := if s.lyrPixelBlock e.1 e.2 b && s.streamCorrupt e.1 e.2 b then n + 1 else n
      (List.range n).foldl (fun s _ => s.leafError) s) s

/-! ### Underrun (R192) -/

/-- Rows of a take with at least one substituted pixel in the frame that ends. -/
def State.underrunRows (s : State) (j : Nat) : Nat :=
  ((List.range 1024).filter (fun y => s.cmp.produced ≤ y % 512 ||
    s.cmp.late.any (fun v => v / 2 ^ 20 = j && v % 2 ^ 20 / 1024 = y))).length

/-- The frame ends: rows with substituted pixels are counted; UNDERRUN is raised and reported; the flag stands for R151
(R192). -/
def State.countUnderrun (s : State) : State :=
  let rows := (List.range s.cmp.takesNow).map (fun j => (j, s.underrunRows j))
  if rows.all (fun e => e.2 = 0) then s
  else
    let s := rows.foldl (fun s e => s.fadd pgCmp (CMP.UNDERRUN_CNT.ROWS e.1) e.2) s
    let s := (s.evt pgCmp 11).reportDrop pgCmp
    { s with time := { s.time with underrun := true } }

/-- The last composite pixels supplied to each engine for each take are kept for the next frame (R192). -/
def State.keepLast (s : State) : State :=
  let keys := (List.range 4).flatMap (fun q => (List.range s.cmp.takesNow).map (fun j => (q, j)))
  let last := keys.foldl (fun m e =>
    let (x, y) := (512 * (e.1 % 2) + 511, 512 * (e.1 / 2) + 511)
    let c := s.composite e.2 x y
    SMap.write 0 m (4 * e.1 + e.2) (c.1 + c.2.1 * 2 ^ 24 + c.2.2 * 2 ^ 48)) s.cmp.last
  { s with cmp := { s.cmp with last := last } }

/-! ### Monitor and capture (R194 to R197) -/

/-- Monitor destinations in force. -/
def State.monLink (s : State) : Bool := s.fget pgCmp CMP.MON_CFG.DEST % 2 = 1
def State.monCapture (s : State) : Bool := 2 ≤ s.fget pgCmp CMP.MON_CFG.DEST

/-- Block `i`, 0 to 255, of monitor row `y`: four pixels (R194). -/
def State.monBlock (s : State) (y i : Nat) : Nat :=
  (List.range 4).foldl (fun v n =>
    v + halfPixel (s.composite (s.fget pgCmp CMP.MON_CFG.TAKE) (4 * i + n) y) * 2 ^ (64 * n)) 0

/-- LINK5 takes monitor bursts (R195). -/
def State.link5Open (s : State) : Bool :=
  let st := s.fget (pgLink 5) LINK.LINK_STAT.STATE
  st = 2 || (st = 3 && s.fbit (pgLink 5) LINK.POLICY.VIDEO_UNAUTH)

/-- One of a row's two bursts (R195). -/
def State.monBurst (s : State) (y half : Nat) : State :=
  s.emit (.monitor (s.fget pgCmp CMP.MON_CFG.WIN) (y * 256 + 128 * half) s.frame
    (b2n (y = 1023 && half = 1)) (s.fget pgCmp CMP.MON_CFG.TAKE)
    ((List.range 128).map (fun i => s.monBlock y (128 * half + i))))

/-- The monitor's bursts of the frame that ends; `missed` bursts found LINK5 busy and were dropped (R195, R197). -/
def State.monitorFrame (s : State) (missed : List Nat) : State :=
  if !s.monLink || s.cmp.takesNow = 0 then s
  else
    let all := List.range 2048
    let drop := if s.link5Open then missed.filter (fun b => b < 2048) else all
    let s := (all.filter (fun b => !drop.contains b)).foldl (fun s b => s.monBurst (b / 2) (b % 2)) s
    if drop.isEmpty then s else (s.fadd pgCmp CMP.MON_DROP.LINK drop.length).evt pgCmp 15

/-- A capture still running when its frame has ended and its writes have fallen behind is abandoned (R197). -/
def State.dropFrameCapture (s : State) : State :=
  match s.cmp.capturing with
  | none => s
  | some _ =>
    let s := { s with cmp := { s.cmp with capturing := none } }
    ((s.fset pgCmp CMP.CAP_STAT.BUSY 0).finc pgCmp CMP.MON_DROP.CAP).evt pgCmp 15

/-- A capture starts with the frame that begins (R196). -/
def State.startCapture (s : State) : State :=
  if s.monCapture && (!s.fbit pgCmp CMP.MON_CFG.ONESHOT || s.cmp.armed) then
    let s := { s with cmp := { s.cmp with capturing := some s.frame, armed := false } }
    s.fset pgCmp CMP.CAP_STAT.BUSY 1
  else s

/-- The capture of the present frame is complete: its 262,144 blocks are in DRAM (R196). -/
def State.capDone (s : State) : State :=
  match s.cmp.capturing with
  | none => s
  | some f =>
    let base := s.fget pgCmp CMP.CAP_BASE.BASE
    let tag := s.fget pgCmp CMP.CAP_CFG.TAG
    let s' := (List.range 262144).foldl (fun (t : State) i => t.putBlock (base + i) (s.monBlock (i / 256) (i % 256)) tag false) s
    let s' := { s' with cmp := { s'.cmp with capturing := none } }
    ((s'.fset pgCmp CMP.CAP_STAT.BUSY 0).fset pgCmp CMP.CAP_STAT.FRAME f).evt pgCmp 14

/-! ### The overlay library (R178, R179, R182, R204) -/

/-- A write of LIB_DATA (R178). -/
def State.libWrite (s : State) (w : Word) : State :=
  let a := s.fget pgOvl OVL.LIB_ADDR.WORD
  { s with cmp := { s.cmp with lib := SMap.write 0 s.cmp.lib a w } }.fwrap pgOvl OVL.LIB_ADDR.WORD

/-- A read of LIB_DATA. -/
def State.libRead (s : State) : Word × State :=
  (SMap.read 0 s.cmp.lib (s.fget pgOvl OVL.LIB_ADDR.WORD), s.fwrap pgOvl OVL.LIB_ADDR.WORD)

/-- Entry `n` of the directory is present. -/
def State.symbolPresent (s : State) (n : Nat) : Bool := (s.symbol n).2.1 != 0

/-- A present entry's bitmap lies within words 128 to 65,535, and its size is in range (R179). -/
def State.symbolOk (s : State) (n : Nat) : Bool :=
  let (off, w, h) := s.symbol n
  128 ≤ off && off + h * rowWords w ≤ 65536 && w ≤ 1024 && 1 ≤ h && h ≤ 1024

/-- The CRC-32C of the library. -/
def State.libCrc (s : State) : Nat := crc32c ((List.range 65536).flatMap (fun i => leBytes (s.libWord i) 4))

/-- The SEAL command's check is complete (R179). -/
def State.libSealDone (s : State) : State :=
  if !s.running pgOvl 0x10 then s
  else
    let crcOk := s.libCrc = s.fget pgOvl OVL.LIB_SEAL.CRC
    let present := (List.range 64).filter s.symbolPresent
    let dirOk := present.all s.symbolOk
    if crcOk && dirOk then
      let s := ((s.fset pgOvl OVL.LIB_STAT.SEALED 1).fset pgOvl OVL.LIB_STAT.SEAL_FAIL 0).fset pgOvl
        OVL.LIB_STAT.SYMBOLS present.length
      (s.evt pgOvl 8).cmdDone pgOvl
    else
      ((s.fset pgOvl OVL.LIB_STAT.SEAL_FAIL 1).evt pgOvl 9).cmdFail pgOvl (if crcOk then 0x25 else 0x24)

/-- Bitmap words of the symbol drawn. -/
def State.symbolWords (s : State) : List Nat :=
  let (off, w, h) := s.symbol (s.fget pgOvl OVL.CTL.SYMBOL)
  (List.range (h * rowWords w)).map (fun i => s.libWord (off + i))

/-- The overlay signature of the present frame (R182). -/
def State.overlaySig (s : State) : Nat :=
  let g (f : Fld) := s.fget pgOvl f
  crc32c (leBytes s.frame 2 ++ [g OVL.CTL.SYMBOL, g OVL.CTL.SCALE] ++ leBytes (g OVL.POS.X) 2 ++ leBytes (g OVL.POS.Y) 2 ++
    leBytes (s.word (addrOf pgOvl 0x048)).toNat 4 ++ leBytes (g OVL.COLOUR_B.B) 2 ++ [s.frame % 2] ++
    leBytes (g OVL.HB_POS.X) 2 ++ leBytes (g OVL.HB_POS.Y) 2 ++ s.symbolWords.flatMap (fun w => leBytes w 4))

/-- Some take below T draws the overlay. -/
def State.overlayDrawn (s : State) : Bool := s.fget pgOvl OVL.CTL.TAKE_EN % 2 ^ s.takes != 0

/-- The compositor posts the overlay signature of the frame (R182). -/
def State.postOverlaySig (s : State) : State :=
  let s := (s.fset pgOvl OVL.SIG_FRAME.FRAME s.frame).fset pgOvl OVL.SIG_FRAME.HB_PHASE (s.frame % 2)
  if s.overlayDrawn then (s.fset pgOvl OVL.SIG.CRC s.overlaySig).fset pgOvl OVL.SIG_FRAME.DRAWN 1
  else s.fset pgOvl OVL.SIG_FRAME.DRAWN 0

end Sys2Proof.Machine
end

