-- ==== Sys2Proof/Machine/Cad.lean ====
section
/-! DEFINITION. Calibration (R213 to R229, R234 to R237): temperatures, rebuilds, wear, doses and caddies. -/

namespace Sys2Proof.Machine

/-! ### Commit checks (R235) -/

/-- Blocks that a staging area may need: 6,291,456 binning records of 16 bytes (R225). -/
def stageBlocks : Nat := 3145728

/-- The reasons against a commit of CAD. -/
def State.cadReasons (s : State) (ps : List Nat) : List Nat :=
  let g (f : Fld) := s.vget ps pgCad f
  let base := g CAD.REGION.BASE
  let stage := g CAD.STAGE.BASE
  reasons [(dramBlocks < base + regionBlocks, 0x10),
    (s.vgetI ps pgCad CAD.T_REF.T_HI - s.vgetI ps pgCad CAD.T_REF.T_LO < 160 || g CAD.REBUILD.DELTA = 0, 0x11),
    (g CAD.CEIL_LIM.MAX < g CAD.CEIL_LIM.MIN || 0x8000 < g CAD.CEIL_LIM.MAX || g CAD.CTL.WEAR_POLICY = 3, 0x12),
    (g CAD.REBUILD.MIN_MS < 100 || g CAD.WEAR_CFG.DOSE_PERIOD_S = 0 || g CAD.WEAR_CFG.WEAR_PERIOD_S = 0, 0x13),
    (dramBlocks < stage + stageBlocks || overlaps stage stageBlocks base regionBlocks, 0x14),
    ((s.changes pgCad CAD.REGION.BASE || s.changes pgCad CAD.REGION_TAG.TAG) && s.anyTileLive, 0x15),
    (g CAD.CTL.SOURCE = 0 && s.cad.factoryBad, 0x16)]

/-! ### Triggers (R219) -/

/-- Every enabled tile has a valid temperature and the source caddy has loaded (R229). -/
def State.rebuildReady (s : State) : Bool :=
  s.cad.sourceLoaded &&
  (bitsSet (s.fget pgSys SYS.FIELD_CFG.TILE_EN) 16).all (fun t => (SMap.read none s.cad.tempAt t).isSome)

/-- A periodic trigger: held while a rebuild runs (R219). -/
def State.periodicTrigger (s : State) (wear : Bool) : State :=
  { s with cad := { s.cad with due := some (wear || s.cad.due.getD false) } }

/-- A content trigger: it abandons a rebuild that runs, and the new one has a wear phase when the abandoned one had
(R219). -/
def State.contentTrigger (s : State) : State :=
  match s.cad.rebuild with
  | some r =>
    if r.written.isSome then
      { s with cad := { s.cad with due := some (s.cad.due.getD false), dueContent := true } }
    else
      let s := { s with cad := { s.cad with
        rebuild := none, due := some (r.wear || s.cad.due.getD false), dueContent := true } }
      (s.fset pgCad CAD.STAT.REBUILD_BUSY 0).evt pgCad 9
  | none => { s with cad := { s.cad with due := some (s.cad.due.getD false), dueContent := true } }

/-- The tile temperature in 1/16 °C (R216). -/
def State.tileTemp (s : State) (t : Nat) : Int := sgn 16 (SMap.read 0 s.cad.temp t)

/-- The interpolation factor φ of a temperature (R217). -/
def State.phiOf (s : State) (temp : Int) : Nat :=
  let lo := s.fgetI pgCad CAD.T_REF.T_LO
  let hi := s.fgetI pgCad CAD.T_REF.T_HI
  (clampI 0 4095 (((temp - lo) * 8192 + (hi - lo)) / (2 * (hi - lo)))).toNat

/-- A rebuild may start now (R219, R229). -/
def State.rebuildMayStart (s : State) : Bool :=
  s.cad.due.isSome && s.cad.rebuild.isNone && !s.pairFollows && (s.fbit (pgPe 0) PE.STAT.EFF_VALID || s.rebuildReady) &&
  (s.cad.dueContent || (match s.cad.lastStart with
    | some t => t + 1000000 * s.fget pgCad CAD.REBUILD.MIN_MS ≤ s.mono
    | none => true))

/-- A rebuild starts: it fixes φ of every tile (R217, R218). -/
def State.rebuildStart (s : State) : State :=
  if s.rebuildMayStart then
    let wear := s.cad.due.getD false
    let r : Rebuild := ⟨wear, !wear, 1 - s.fget (pgPe 0) PE.STAT.EFF_BUF, s.mono, none, s.cad.dueMgt, s.cad.exchange⟩
    let s := { s with cad := { s.cad with
      rebuild := some r, due := none, dueContent := false, dueMgt := false, lastStart := some s.mono, tempUsed := s.cad.temp } }
    let s := (List.range 16).foldl (fun s t =>
      let p := pgPe (portGroup t)
      (s.fset p (PE.TILE_PHI.PHI (localTile t)) (s.phiOf (s.tileTemp t))).fset p (PE.TILE_PHI.TEMP (localTile t))
        (SMap.read 0 s.cad.temp t)) s
    s.fset pgCad CAD.STAT.REBUILD_BUSY 1
  else s

/-! ### Wear (R215, R221 to R224) -/

/-- A wear record as CAD reads it (R215, R224). -/
def State.wearRecord (s : State) (e : Nat) : Option Nat := s.readNat s.regionTag (s.wearAt e) 8

/-- The colour of an emitter. -/
def State.colourOf (s : State) (e : Nat) : Nat := (pixelOf s.dual (emitterOf s.dual e)).colour

/-- A node of the wear table (R223). -/
def State.wearNode (s : State) (c bin n : Nat) : Nat :=
  let x := (c * 16 + bin) * 24 + n
  s.fget pgCad (if x % 2 = 0 then CAD.WEAR_LUT.NODE0 (x / 2) else CAD.WEAR_LUT.NODE1 (x / 2))

/-- GAIN of a dose (R223). -/
def State.wearGain (s : State) (c bin dose : Nat) : Nat :=
  let (n, base, width) := if dose < 1024 then (0, 0, 1024) else (dose.log2 - 9, 2 ^ dose.log2, 2 ^ dose.log2)
  let f := (dose - base) * 65536 / width
  let a := s.wearNode c bin n
  ((a : Int) + rshift (((s.wearNode c bin (n + 1) : Int) - a) * f) 16).toNat

/-- CAP of a colour. -/
def State.capColour (s : State) (c : Nat) : Nat :=
  s.fget pgCad (if c = 0 then CAD.CAP_RG.R else if c = 1 then CAD.CAP_RG.G else CAD.CAP_B.B)

/-- A tile's ceiling in force. -/
def State.ceiling (s : State) (t : Nat) : Nat :=
  s.fget pgCad (if t % 2 = 0 then CAD.CEILING.CA (t / 2) else CAD.CEILING.CB (t / 2))

/-- Setting a tile's ceiling. -/
def State.setCeiling (s : State) (t v : Nat) : State :=
  s.fset pgCad (if t % 2 = 0 then CAD.CEILING.CA (t / 2) else CAD.CEILING.CB (t / 2)) v

/-- Emitters of a tile, ascending. -/
def State.tileEmitters (s : State) (t : Nat) : List Nat :=
  let n := sinksPerRing s.dual * 3072
  (List.range n).map (fun i => t * n + i)

/-- GAIN of every emitter whose record can be read. -/
def State.setGains (s : State) (es : List Nat) : State :=
  es.foldl (fun s e =>
    match s.wearRecord e with
    | none => s
    | some v =>
      let g := s.wearGain (s.colourOf e) (bitsOf v 48 4) (bitsOf v 0 32)
      s.writeNat 9 s.regionTag (s.wearAt e) (putBits v 32 16 g) 8) s

/-- The least CAP / GAIN over emitters, skipping OPEN and SHORT, as a U1.15 quotient truncated; none when no emitter
counts. -/
def State.leastRatio (s : State) (es : List Nat) : Option Nat :=
  es.foldl (fun m e =>
    match s.wearRecord e with
    | none => m
    | some v =>
      let g := bitsOf v 32 16
      if s.openOrShort e || g = 0 then m
      else
        let q := s.capColour (s.colourOf e) * 32768 / g
        some (match m with | some k => min k q | none => q)) none

/-- The ceiling that WEAR_POLICY gives a tile (R223). -/
def State.ceilingOf (s : State) (t : Nat) : Nat :=
  let lo := s.fget pgCad CAD.CEIL_LIM.MIN
  let hi := s.fget pgCad CAD.CEIL_LIM.MAX
  let hold (m : Option Nat) := min hi (max lo (m.getD 0xFFFF))
  if s.fget pgCad CAD.CTL.WEAR_POLICY = 0 then hold (s.leastRatio (s.tileEmitters t))
  else if s.fget pgCad CAD.CTL.WEAR_POLICY = 1 then
    hold (s.leastRatio ((bitsSet (s.fget pgSys SYS.FIELD_CFG.TILE_EN) 16).flatMap s.tileEmitters))
  else hi

/-- The factor *h* of an emitter, and whether it is held below GAIN × ceiling (R223, R224). -/
def State.factor (s : State) (e : Nat) : Nat × Bool :=
  let c := s.ceiling (emitterOf s.dual e).tile
  match s.wearRecord e with
  | none => (c, false)
  | some v =>
    if bit v 53 then (c, false)
    else
      let g := (rshift ((bitsOf v 32 16 : Int) * c) 15).toNat
      let cap := s.capColour (s.colourOf e)
      (min g cap, cap < g)

/-- LIMITED and EXCLUDED of every emitter (R215). -/
def State.setWearFlags (s : State) (es : List Nat) : State :=
  es.foldl (fun s e =>
    match s.wearRecord e with
    | none => s
    | some v =>
      let v := putBits v 53 1 (b2n (s.openOrShort e))
      let s := s.writeNat 9 s.regionTag (s.wearAt e) v 8
      s.writeNat 9 s.regionTag (s.wearAt e) (putBits v 52 1 (b2n (s.factor e).2)) 8) s

/-- The wear phase of a rebuild is complete (R223). -/
def State.wearPhase (s : State) : State :=
  let all := List.range (emittersOf s.dual)
  let s := s.setGains all
  let old := (List.range 16).map s.ceiling
  let new := (List.range 16).map s.ceilingOf
  let s := new.zipIdx.foldl (fun s e => s.setCeiling e.2 e.1) s
  let s := s.setWearFlags all
  let was := s.fget pgCad CAD.LIMITED.EMITTERS
  let n := (all.filter (fun e => match s.wearRecord e with | some v => bit v 52 | none => false)).length
  let s := s.fset pgCad CAD.LIMITED.EMITTERS n
  let s := if old ≠ new then s.evt pgCad 12 else s
  let atMin := (old.zip new).any (fun e => e.1 ≠ e.2 && e.2 = s.fget pgCad CAD.CEIL_LIM.MIN)
  if was < n || atMin then s.evt pgCad 11 else s

/-- WEAR_PHASE_DONE. -/
def State.wearPhaseDone (s : State) : State :=
  match s.cad.rebuild with
  | some r =>
    if r.wear && !r.wearDone then
      let s := s.wearPhase
      { s with cad := { s.cad with rebuild := some { r with wearDone := true }, lastWear := s.mono } }
    else s
  | none => s

/-- The temperature factor *K* (R222). -/
def State.doseK (s : State) (temp : Int) : Int :=
  let k (i : Nat) : Nat := s.fget pgCad (if i % 2 = 0 then CAD.DOSE_TEMP.KA (i / 2) else CAD.DOSE_TEMP.KB (i / 2))
  if temp < 0 then k 0
  else if 2400 ≤ temp then k 15
  else
    let i := temp.toNat / 160
    k i + (((k (i + 1) : Int) - k i) * (temp - 160 * i) + 80) / 160

/-- One bit of the LFSR x⁶⁴ + x⁶³ + x⁶¹ + x⁶⁰ + 1 (R221). -/
def lfsrStep (x : BitVec 64) : BitVec 64 :=
  let b := x.getLsbD 63 ^^ x.getLsbD 62 ^^ x.getLsbD 60 ^^ x.getLsbD 59
  (x <<< 1) ||| (if b then 1 else 0)

/-- Forty bits. -/
def lfsr40 (x : BitVec 64) : BitVec 64 := (List.range 40).foldl (fun x _ => lfsrStep x) x

/-- The LFSR of an engine runs 40 steps (R221). -/
def State.lfsrRun (s : State) (q : Nat) : State :=
  { s with cad := { s.cad with
      lfsr := SMap.write (BitVec.allOnes 64) s.cad.lfsr q (lfsr40 (SMap.read (BitVec.allOnes 64) s.cad.lfsr q)) } }

/-- The random bits of an engine. -/
def State.lfsrBits (s : State) (q : Nat) : Nat := (SMap.read (BitVec.allOnes 64) s.cad.lfsr q).toNat % 2 ^ 40

/-- The dose of an emitter whose record reads `v` grows by the drives of the frame (R221). -/
def State.doseAdd (s : State) (e t v : Nat) : State :=
  let x := (List.range s.takes).foldl (fun x j =>
    x + SMap.read 0 s.cad.drive (4 * e + j) * s.fget pgTime (TIME.SLOT.WEIGHT j)) 0
  let k := (s.doseK (s.tileTemp t)).toNat
  let inc := (x * k * s.fget pgCad CAD.WEAR_CFG.DOSE_PERIOD_S + s.lfsrBits (portGroup t)) / 2 ^ 40
  s.writeNat 9 s.regionTag (s.wearAt e) (putBits v 0 32 (min (bitsOf v 0 32 + inc) 0xFFFFFFFF)) 8

/-- The dose of one emitter in the dose frame (R221). -/
def State.doseOne (s : State) (e : Nat) : State :=
  let t := (emitterOf s.dual e).tile
  let s := s.lfsrRun (portGroup t)
  if !s.lightTile t || !s.tileLive t then s
  else match s.wearRecord e with
    | none => s
    | some v => s.doseAdd e t v

/-- The dose frame that ends is added up, and the next one is placed: in each period, at a pseudo-random offset that the
spec does not fix (R221). -/
def State.doseBoundary (s : State) : State :=
  let s := if s.cad.doseNow then
      let s := (List.range (emittersOf s.dual)).foldl State.doseOne s
      { s with cad := { s.cad with doseNow := false } }
    else s
  if !s.fbit pgCad CAD.CTL.DOSE_EN || s.pairFollows then s
  else
    let period := 1000000000 * s.fget pgCad CAD.WEAR_CFG.DOSE_PERIOD_S
    let s :=
      if !s.cad.doseStarted || s.cad.dosePeriod + period ≤ s.mono then
        let (v, s) := s.fresh 40
        { s with cad := { s.cad with
            dosePeriod := if s.cad.doseStarted then s.cad.dosePeriod + period else s.mono
            doseOffset := v.toNat % max period 1, doseTaken := false, doseStarted := true } }
      else s
    let wearRuns := match s.cad.rebuild with | some r => r.wear && !r.wearDone | none => false
    if !s.cad.doseTaken && !wearRuns && s.cad.dosePeriod + s.cad.doseOffset ≤ s.mono then
      { s with cad := { s.cad with doseTaken := true, doseNow := true } }
    else s

/-! ### Rebuilds (R218, R220) -/

/-- The user copy that a rebuild reads: the staging copy when it becomes live with it, else the live copy (R228). -/
def State.sourceUser (s : State) (swap : Bool) : Nat :=
  let l := s.fget pgCad CAD.STAT.LIVE_USER
  if swap then 1 - l else l

/-- The block offset of the source caddy (R218). -/
def State.sourceOffset (s : State) (swap : Bool) : Nat :=
  if s.fget pgCad CAD.CTL.SOURCE = 0 then offFactory else offUser (s.sourceUser swap)

/-- One effective coefficient before saturation (R217, R218). -/
def effCoef (lo hi : Int) (phi h : Nat) : Int :=
  rshift ((lo + ((hi - lo) * phi + 2048) / 4096) * h) 15

/-- The effective record of a pixel-bank is written: from the source record, φ of its tile and the factors of its three
emitters (R218). A record that cannot be read is passed on poisoned (R365). -/
def State.rebuildRecord (s : State) (swap : Bool) (buf x y b : Nat) : State :=
  let p := pixelIndex x y
  let t := tileOfPixel x y
  let dst := s.effAt buf p b
  match s.readNat s.regionTag (s.caddyAt (s.sourceOffset swap) p b) 36 with
  | none =>
    s.writeBytes 9 s.regionTag dst (leBytes 0 18) true
  | some v =>
    let phi := s.fget (pgPe (portGroup t)) (PE.TILE_PHI.PHI (localTile t))
    let raw := (List.range 9).map (fun i =>
      effCoef (sgn 16 (bitsOf v (16 * i) 16)) (sgn 16 (bitsOf v (144 + 16 * i) 16)) phi
        (s.factor (s.emitterAt x y b (i / 3))).1)
    let sat := (raw.filter (fun c => c < -32768 || 32767 < c)).length
    let word := raw.zipIdx.foldl (fun w e => w + unsgn 16 (clampI (-32768) 32767 e.1) * 2 ^ (16 * e.2)) 0
    (s.fadd pgCad CAD.COEF_SAT.COUNT sat).writeNat 9 s.regionTag dst word 18

/-- Every record of the new buffer is written (R218, R220); the ACTIVE device of a pair tells its partner (R488). -/
def State.rebuildDone (s : State) : State :=
  match s.cad.rebuild with
  | some r =>
    if r.wearDone && r.written.isNone then
      let s := (List.range 1048576).foldl (fun s i =>
        s.banks.foldl (fun s b => s.rebuildRecord r.swap r.buffer (i % 1024) (i / 1024) b) s) s
      let s := { s with cad := { s.cad with rebuild := some { r with written := some s.mono } } }
      s.mirrorActive (.rebuild r.buffer ((s.fget pgCad CAD.STAT.EFF_GEN + 1) % 65536) ((List.range 16).map s.ceiling)
        s.postFrame)
    else s
  | none => s

/-- The new effective buffer is in force: on every engine and on CAD (R220, R229). -/
def State.effSwitch (s : State) (buf : Nat) : State :=
  let gen := (s.fget pgCad CAD.STAT.EFF_GEN + 1) % 65536
  let s := (List.range 4).foldl (fun s q =>
    ((s.fset (pgPe q) PE.STAT.EFF_VALID 1).fset (pgPe q) PE.STAT.EFF_BUF buf).fset (pgPe q) PE.STAT.EFF_GEN gen) s
  let s := (s.fset pgCad CAD.STAT.EFF_GEN gen).evt pgCad 8
  { s with time := { s.time with disturbed := true } }

/-- The exchange of the user copies with the rebuild that read the staging copy; it ends APPLY_USER or RESTORE_FACTORY and
starts the copy back (R228). -/
def State.exchangeUsers (s : State) (swap : Bool) : State :=
  if swap && s.cad.exchange then
    let s := s.fset pgCad CAD.STAT.LIVE_USER (1 - s.fget pgCad CAD.STAT.LIVE_USER)
    let s := { s with cad := { s.cad with exchange := false, copy := some .back } }
    (s.fset pgCad CAD.STAT.COPY_BUSY 1).cmdDone pgCad
  else s

/-- At a boundary, a buffer written at least 4 µs before comes into force (R220). -/
def State.rebuildBoundary (s : State) : State :=
  match s.cad.rebuild with
  | some r =>
    match r.written with
    | some w =>
      if w + 4000 ≤ s.mono then
        let s := { s with cad := { s.cad with rebuild := none } }
        ((s.fset pgCad CAD.STAT.REBUILD_BUSY 0).effSwitch r.buffer).exchangeUsers r.swap
      else s
    | none => s
  | none => s

/-! ### Temperatures (R216) -/

/-- Insertion into a sorted list. -/
def insertSorted (x : Int) : List Int → List Int
  | [] => [x]
  | y :: r => if x ≤ y then x :: y :: r else y :: insertSorted x r

/-- The lower middle value. -/
def median (l : List Int) : Option Int :=
  let m := l.foldl (fun a x => insertSorted x a) []
  m[(m.length - 1) / 2]?

/-- A valid temperature of a sink: the tile's temperature is taken anew, and a difference beyond DELTA triggers a
rebuild (R216, R219). -/
def State.sinkTemperature (s : State) (t a temp : Nat) : State :=
  let s := { s with cad := { s.cad with sinkTemp := SMap.write none s.cad.sinkTemp (128 * t + a) (some temp) } }
  let vals := (SMap.range s.cad.sinkTemp (128 * t) (128 * (t + 1))).filterMap (fun e => e.2.map (sgn 16))
  match median vals with
  | none => s
  | some m =>
    let s := { s with cad := { s.cad with
      temp := SMap.write 0 s.cad.temp t (unsgn 16 m), tempAt := SMap.write none s.cad.tempAt t (some s.mono) } }
    let s := s.fset pgCad CAD.TEMP_STALE.TILES (s.fget pgCad CAD.TEMP_STALE.TILES &&& (0xFFFF - 1 <<< t))
    let used := sgn 16 (SMap.read 0 s.cad.tempUsed t)
    if (s.fget pgCad CAD.REBUILD.DELTA : Int) < (m - used).natAbs then s.periodicTrigger false else s

/-- A tile has had no valid report for 10 s (R216). -/
def State.tempStale (s : State) (t : Nat) : State :=
  match SMap.read none s.cad.tempAt t with
  | none => s
  | some at_ =>
    let s := s.advanceTo (at_ + 10000000000)
    if bit (s.fget pgCad CAD.TEMP_STALE.TILES) t then s
    else (s.fset pgCad CAD.TEMP_STALE.TILES (s.fget pgCad CAD.TEMP_STALE.TILES ||| 1 <<< t)).evt pgCad 10

/-! ### Caddies (R214, R225 to R228) -/

/-- A white drive of a record exceeds WHITE_MAX at either temperature (R226). -/
def State.whiteBad (s : State) (rec_ : Nat) : Bool :=
  (List.range 6).any (fun r =>
    let c (k : Nat) := sgn 16 (bitsOf rec_ (16 * (3 * r + k)) 16)
    (s.fget pgCad CAD.WHITE_MAX.LIMIT : Int) < 4 * (c 0 + c 1 + c 2))

/-- The staging record of a pixel-bank (R214). -/
def State.stageRecord (s : State) (p b : Nat) : Option Nat :=
  s.readNat (s.fget pgCad CAD.STAGE_CFG.TAG) (32 * s.fget pgCad CAD.STAGE.BASE + (2 * p + b) * 36) 36

/-- The outcome of preparing a record: the record, or a failure reason. -/
inductive RecOut where
  | ok (rec_ : Nat)
  | fail (reason : Nat)
deriving DecidableEq, Repr

/-- A precomputed record (R226, R228). -/
def State.loadRecord (s : State) (p b : Nat) : RecOut :=
  match s.stageRecord p b with
  | none => .fail 0x32
  | some v => if s.whiteBad v then .fail 0x31 else .ok v

/-- The pixel-banks of tiles, in pixel-index order, bank A before bank B. -/
def State.pixelBanks (s : State) (tiles : Nat) : List (Nat × Nat) :=
  ((List.range 1048576).filter (fun p => bit tiles (tileOfPixel (p % 1024) (p / 1024)))).flatMap
    (fun p => s.banks.map (fun b => (p, b)))

/-- The first failing pixel-bank of a copy. -/
def firstFail (f : Nat → Nat → RecOut) : List (Nat × Nat) → Option (Nat × Nat × Nat)
  | [] => none
  | (p, b) :: r => match f p b with | .fail k => some (p, b, k) | .ok _ => firstFail f r

/-- Writing prepared records into a caddy. -/
def State.storeRecords (s : State) (off : Nat) (f : Nat → Nat → RecOut) (l : List (Nat × Nat)) : State :=
  l.foldl (fun t e => match f e.1 e.2 with
    | .ok v => t.writeNat 9 s.regionTag (s.caddyAt off e.1 e.2) v 36
    | .fail _ => t) s

/-- A copy of records ends: it fails at the first bad record with FAIL_INFO, or it is stored whole. -/
def State.copyEnd (s : State) (off : Nat) (f : Nat → Nat → RecOut) (l : List (Nat × Nat)) :
    Option (Nat × Nat × Nat) → State × Option Nat
  | some (p, b, k) => ((s.fset pgCad CAD.FAIL_INFO.PIXEL p).fset pgCad CAD.FAIL_INFO.BANK b, some k)
  | none => (s.storeRecords off f l, none)

/-- A copy of the records of some tiles. -/
def State.copyRecords (s : State) (off tiles : Nat) (f : Nat → Nat → RecOut) : State × Option Nat :=
  s.copyEnd off f (s.pixelBanks tiles) (firstFail f (s.pixelBanks tiles))

/-- Ending the running CAD command with an optional failure. -/
def State.cadEnd (s : State) (r : Option Nat) : State :=
  match r with
  | some k => s.cmdFail pgCad k
  | none => s.cmdDone pgCad

/-- WRITE_USER_DONE (R228). -/
def State.writeUserDone (s : State) : State :=
  match s.cad.copy with
  | some (.writeUser tiles) =>
    let r := s.copyRecords (offUser (1 - s.fget pgCad CAD.STAT.LIVE_USER)) tiles s.loadRecord
    let s := { r.1 with cad := { r.1.cad with copy := none } }
    (s.fset pgCad CAD.STAT.COPY_BUSY 0).cadEnd r.2
  | _ => s

/-- The staging copy is to become live through a rebuild (R228). -/
def State.applyUser (s : State) : State := { s with cad := { s.cad with exchange := true } }.contentTrigger

/-- A whole caddy is copied over another, block by block (R228). -/
def State.copyCaddy (s : State) (src dst : Nat) : State :=
  let base := s.fget pgCad CAD.REGION.BASE
  (List.range 2359296).foldl (fun (t : State) i =>
    let v := s.block (base + src + i)
    t.admitWrite 9 (base + dst + i) v.data s.regionTag (v.poisoned || v.tag != s.regionTag)) s

/-- USER_COPY_DONE: the factory caddy has been copied and RESTORE_FACTORY proceeds as APPLY_USER, or the copy back after
an exchange ends (R228). -/
def State.userCopyDone (s : State) : State :=
  let live := s.fget pgCad CAD.STAT.LIVE_USER
  match s.cad.copy with
  | some .restore =>
    let s := s.copyCaddy offFactory (offUser (1 - live))
    ({ s with cad := { s.cad with copy := none } }.fset pgCad CAD.STAT.COPY_BUSY 0).applyUser
  | some .back =>
    let s := s.copyCaddy (offUser live) (offUser (1 - live))
    { s with cad := { s.cad with copy := none } }.fset pgCad CAD.STAT.COPY_BUSY 0
  | _ => s

/-! ### The factory build (R226) -/

/-- A column of tristimulus values. -/
structure Xyz where
  x : Rat
  y : Rat
  z : Rat

/-- XYZ of a chromaticity in U0.16 at a luminance; none for y = 0. -/
def xyzOf (cx cy : Nat) (lum : Rat) : Option Xyz :=
  if cy = 0 then none
  else
    let x : Rat := (cx : Rat) / 65536
    let y : Rat := (cy : Rat) / 65536
    some ⟨lum * x / y, lum, lum * (1 - x - y) / y⟩

/-- The determinant of three columns. -/
def det3 (a b c : Xyz) : Rat :=
  a.x * (b.y * c.z - b.z * c.y) - b.x * (a.y * c.z - a.z * c.y) + c.x * (a.y * b.z - a.z * b.y)

/-- Solving [a b c] · v = w; none when the columns are dependent. -/
def solve3 (a b c w : Xyz) : Option (Rat × Rat × Rat) :=
  let d := det3 a b c
  if d = 0 then none else some (det3 w b c / d, det3 a w c / d, det3 a b w / d)

/-- A column scaled. -/
def Xyz.scale (k : Rat) (a : Xyz) : Xyz := ⟨k * a.x, k * a.y, k * a.z⟩

/-- The target columns *T* (R226); none for a target that does not span a triangle or whose white lies outside it. -/
def State.targetColumns (s : State) : Option (Xyz × Xyz × Xyz) :=
  let col (fx fy : Fld) := xyzOf (s.fget pgCad fx) (s.fget pgCad fy) 1
  match col CAD.TGT_R.X CAD.TGT_R.Y, col CAD.TGT_G.X CAD.TGT_G.Y, col CAD.TGT_B.X CAD.TGT_B.Y,
      xyzOf (s.fget pgCad CAD.TGT_W.X) (s.fget pgCad CAD.TGT_W.Y) (s.fget pgCad CAD.TGT_Y.UCD : Rat) with
  | some r, some g, some b, some w =>
    match solve3 r g b w with
    | some (k, l, m) => if k < 0 ∨ l < 0 ∨ m < 0 then none else some (r.scale k, g.scale l, b.scale m)
    | none => none
  | _, _, _, _ => none

/-- Rounding a rational to S2.13, ties away from zero. -/
def toS213 (q : Rat) : Int :=
  let v := q * 8192
  if 0 ≤ v then (v + 1 / 2).floor else -((-v + 1 / 2).floor)

/-- A binning record of an emitter (R225). -/
def State.binning (s : State) (e : Nat) : Option Nat :=
  s.readNat (s.fget pgCad CAD.STAGE_CFG.TAG) (32 * s.fget pgCad CAD.STAGE.BASE + 16 * e) 16

/-- The nine coefficients of a pixel-bank at one temperature, from the records of its emitters, in the order of R214;
none when one has no place in S2.13 (R226). -/
def matrixOf (t : Xyz × Xyz × Xyz) (recs : Nat → Nat) (hi : Bool) : Option (List Int) :=
  let at_ (e : Nat) : Option Xyz :=
    let v := recs e
    if hi then xyzOf (bitsOf v 64 16) (bitsOf v 80 16) (bitsOf v 96 24 : Rat)
    else xyzOf (bitsOf v 0 16) (bitsOf v 16 16) (bitsOf v 32 24 : Rat)
  match at_ 0, at_ 1, at_ 2 with
  | some r, some g, some b =>
    match solve3 r g b t.1, solve3 r g b t.2.1, solve3 r g b t.2.2 with
    | some c0, some c1, some c2 =>
      let m := [c0.1, c1.1, c2.1, c0.2.1, c1.2.1, c2.2.1, c0.2.2, c1.2.2, c2.2.2].map toS213
      if m.all (fun c => -32768 ≤ c && c ≤ 32767) then some m else none
    | _, _, _ => none
  | _, _, _ => none

/-- The factory record of a pixel-bank from binning records (R225, R226). -/
def State.buildRecord (s : State) (t : Xyz × Xyz × Xyz) (p b : Nat) : RecOut :=
  let em (c : Nat) := s.binning (s.emitterAt (p % 1024) (p / 1024) b c)
  match em 0, em 1, em 2 with
  | some r, some g, some bl =>
    let recs (c : Nat) := if c = 0 then r else if c = 1 then g else bl
    if !(bit r 124 && bit g 124 && bit bl 124) then .ok 0
    else match matrixOf t recs false, matrixOf t recs true with
      | some lo, some hi =>
        let v := (lo ++ hi).zipIdx.foldl (fun w e => w + unsgn 16 e.1 * 2 ^ (16 * e.2)) 0
        if s.whiteBad v then .fail 0x31 else .ok v
      | _, _ => .fail 0x33
  | _, _, _ => .fail 0x32

/-- BIN of every emitter is copied into its wear record (R225). -/
def State.copyBins (s : State) : State :=
  (List.range (emittersOf s.dual)).foldl (fun t e =>
    match s.binning e, t.wearRecord e with
    | some v, some w => t.writeNat 9 s.regionTag (s.wearAt e) (putBits w 48 4 (bitsOf v 120 4)) 8
    | some v, none => t.writeNat 9 s.regionTag (s.wearAt e) (putBits (0x8000 * 2 ^ 32) 48 4 (bitsOf v 120 4)) 8
    | none, _ => t) s

/-- A factory caddy has been built or loaded: with SOURCE = 0 it is a content trigger (R219). -/
def State.factoryChanged (s : State) (r : Option Nat) : State :=
  match r with
  | some k => s.cmdFail pgCad k
  | none =>
    let s := { s with cad := { s.cad with sourceLoaded := true } }
    (if s.fget pgCad CAD.CTL.SOURCE = 0 then s.contentTrigger else s).cmdDone pgCad

/-- BUILD_FACTORY_DONE (R226). -/
def State.buildFactoryDone (s : State) : State :=
  if !s.running pgCad 0x10 then s
  else match s.targetColumns with
    | none => s.cmdFail pgCad 0x30
    | some t =>
      let r := s.copyRecords offFactory 0xFFFF (s.buildRecord t)
      (if r.2.isNone then r.1.copyBins else r.1).factoryChanged r.2

/-- LOAD_FACTORY_DONE (R226). -/
def State.loadFactoryDone (s : State) : State :=
  if !s.running pgCad 0x11 then s
  else
    let r := s.copyRecords offFactory 0xFFFF s.loadRecord
    r.1.factoryChanged r.2

/-- The CRC-32C of a tile's factory records (R227). -/
def State.factoryCrc (s : State) (t : Nat) : Nat :=
  crc32c ((tilePixels t).flatMap (fun e => [0, 1].flatMap (fun b =>
    leBytes ((s.readNat s.regionTag (s.caddyAt offFactory (pixelIndex e.1 e.2) b) 36).getD 0) 36)))

/-- SEAL_FACTORY (R227). -/
def State.sealFactory (s : State) : State :=
  let seals := (List.range 16).foldl (fun m t => SMap.write 0 m t (s.factoryCrc t)) s.cad.seals
  { s with cad := { s.cad with seals := seals } }.fset pgCad CAD.STAT.FACTORY_SEALED 1

/-- The loaded factory caddy is checked against the stored values (R227). -/
def State.checkFactory (s : State) : State :=
  if !s.fbit pgCad CAD.STAT.FACTORY_SEALED then s
  else if (List.range 16).all (fun t => s.factoryCrc t = SMap.read 0 s.cad.seals t) then
    { s with cad := { s.cad with factoryBad := false } }.fset pgCad CAD.STAT.FACTORY_OK 1
  else
    ({ s with cad := { s.cad with factoryBad := true } }.fset pgCad CAD.STAT.FACTORY_OK 0).evt pgCad 13

/-- DOSE_RESET (R236). -/
def State.doseReset (s : State) (tiles : Nat) : State :=
  let s := ((bitsSet tiles 16).flatMap s.tileEmitters).foldl (fun s e =>
    match s.wearRecord e with
    | some v => s.writeNat 9 s.regionTag (s.wearAt e) (putBits (putBits v 0 32 0) 32 16 0x8000) 8
    | none => s.writeNat 9 s.regionTag (s.wearAt e) (0x8000 * 2 ^ 32) 8) s
  s.contentTrigger

/-- An applied CAD commit that changes SOURCE, T_REF, WEAR_POLICY, CAP, CEIL_LIM or WEAR_LUT is a content trigger
(R219). -/
def State.cadApplied (s old : State) : State :=
  let fs := [CAD.CTL.SOURCE, CAD.T_REF.T_LO, CAD.T_REF.T_HI, CAD.CTL.WEAR_POLICY, CAD.CAP_RG.R, CAD.CAP_RG.G, CAD.CAP_B.B,
    CAD.CEIL_LIM.MIN, CAD.CEIL_LIM.MAX]
  let lut := (List.range 576).any (fun i =>
    s.word (addrOf pgCad (0x600 + 4 * i)) ≠ old.word (addrOf pgCad (0x600 + 4 * i)))
  if fs.any (fun f => s.fget pgCad f != old.fget pgCad f) || lut then s.contentTrigger else s

end Sys2Proof.Machine
end

