-- ==== Sys2Proof/Machine/Matte.lean ====
section
/-! DEFINITION. Mattes and their seals (R238, R242 to R257), and a pixel engine's end of a tile (R159, R251). -/

namespace Sys2Proof.Machine

/-- The bytes of the zone table with the values a commit would put in force (R250). -/
def State.zoneTable (s : State) (ps : List Nat) : List Nat :=
  let g (f : Fld) := s.vget ps pgMatte f
  (List.range 64).flatMap (fun z => leBytes (g (MATTE.ZCAP.CAP z) + 2 ^ 31 * g (MATTE.ZCAP.EN z)) 4) ++
    leBytes (g MATTE.PROXY_W0.R + 65536 * g MATTE.PROXY_W0.G) 4 ++ leBytes (g MATTE.PROXY_W1.B) 4

/-- The CRC-32C of the zone table (R250). -/
def State.zoneCrc (s : State) (ps : List Nat) : Nat := crc32c (s.zoneTable ps)

/-- A copy is verified. -/
def State.verified (s : State) (m : Nat) : Bool :=
  if m = 0 then s.fbit pgMatte MATTE.STAT.VERIFIED0 else s.fbit pgMatte MATTE.STAT.VERIFIED1

/-- Setting VERIFIED of a copy. -/
def State.setVerified (s : State) (m : Nat) (b : Bool) : State :=
  if m = 0 then s.fsetB pgMatte MATTE.STAT.VERIFIED0 b else s.fsetB pgMatte MATTE.STAT.VERIFIED1 b

/-- The reasons against a commit of MATTE (R255). -/
def State.matteReasons (s : State) (ps : List Nat) : List Nat :=
  let g (f : Fld) := s.vget ps pgMatte f
  let sum := g MATTE.PROXY_W0.R + g MATTE.PROXY_W0.G + g MATTE.PROXY_W1.B
  let base := g MATTE.BASE.BASE
  reasons [((List.range 4).any (fun j => 0x8000 < g (MATTE.GAIN.A j) || 0x8000 < g (MATTE.GAIN.B j)), 0x10),
    (65536 < sum || sum < 32768, 0x11),
    (dramBlocks < base + 262144 || overlaps base 262144 (s.fget pgCad CAD.REGION.BASE) regionBlocks, 0x12),
    (!s.verified (g MATTE.CTL.ACTIVE), 0x13),
    (s.zoneCrc ps != s.fget pgMatte MATTE.ZONE_SEAL.CRC, 0x14),
    ((s.changes pgMatte MATTE.BASE.BASE || s.changes pgMatte MATTE.TAG.TAG) && s.anyTileLive, 0x15)]

/-- VERIFIED of a copy clears because of a SEAL write or a change of BASE or TAG (R248, R249, R257). -/
def State.unverify (s : State) (m : Nat) : State :=
  if s.verified m then (s.setVerified m false).evt pgMatte 10 else s

/-- A MATTE commit has applied: a change of BASE or TAG makes the section dark; otherwise a verified copy ends the dark
state (R248). -/
def State.matteApplied (s old : State) : State :=
  if s.fget pgMatte MATTE.BASE.BASE != old.fget pgMatte MATTE.BASE.BASE ||
      s.fget pgMatte MATTE.TAG.TAG != old.fget pgMatte MATTE.TAG.TAG then
    ((s.unverify 0).unverify 1).fset pgMatte MATTE.STAT.MATTE_OK 0
  else if s.verified (s.fget pgMatte MATTE.CTL.ACTIVE) then s.fset pgMatte MATTE.STAT.MATTE_OK 1
  else s

/-- A SAF write to a SEAL register (R249): index 16 × copy + tile. -/
def State.sealWrite (s : State) (i : Nat) (w : Nat) : State :=
  (s.fset pgMatte (MATTE.SEAL.CRC i) w).unverify (i / 16)

/-- What VERIFY finds in a tile: none when it passes (R249, R256). -/
def State.verifyTile (s : State) (m t : Nat) : Option Nat :=
  let es := (tilePixels t).flatMap (fun e => [0, 1].map (fun b =>
    s.readNat (s.fget pgMatte MATTE.TAG.TAG) (s.matteByte m (pixelIndex e.1 e.2) b) 2))
  if es.any Option.isNone then some 0x32
  else if es.any (fun e => bit (e.getD 0) 15) then some 0x31
  else if crc32c (es.flatMap (fun e => leBytes (e.getD 0) 2)) ≠ s.fget pgMatte (MATTE.SEAL.CRC (16 * m + t)) then some 0x30
  else none

/-- Members of a zone in a copy (R249): pixel-banks that the build has. -/
def State.zoneMembers (s : State) (m z : Nat) : Nat :=
  ((s.pixelBanks 0xFFFF).filter (fun e =>
    match s.readNat (s.fget pgMatte MATTE.TAG.TAG) (s.matteByte m e.1 e.2) 2 with
    | some v => bit v 14 && bitsOf v 8 6 = z
    | none => false)).length

/-- VERIFY_DONE (R249, R256). -/
def State.verifyDone (s : State) : State :=
  match (s.hdr pgMatte).run with
  | some r =>
    if r.opcode ≠ 0x10 then s
    else
      let m := r.arg % 2
      let s := s.fset pgMatte MATTE.STAT.VERIFY_BUSY 0
      match (List.range 16).findSome? (fun t => (s.verifyTile m t).map (fun k => (t, k))) with
      | some (t, k) => ((s.setVerified m false).fset pgMatte MATTE.STAT.FAIL_TILE t).cmdFail pgMatte k
      | none =>
        let counts := (List.range 64).foldl (fun c z => SMap.write 0 c (64 * m + z) (s.zoneMembers m z)) s.matte.counts
        let s := { s with matte := { s.matte with counts := counts } }
        ((s.setVerified m true).cmdDone pgMatte).mirrorActive (.command pgMatte 0x10 m)
  | none => s

/-- At a boundary: ZCOUNT of the copy in force, the values handed to GRD, and the borrowing count of the frame that
ends (R241, R249, R253). -/
def State.matteBoundary (s : State) : State :=
  let m := s.fget pgMatte MATTE.CTL.ACTIVE
  let s := (List.range 64).foldl (fun s z => s.fset pgMatte (MATTE.ZCOUNT.COUNT z) (SMap.read 0 s.matte.counts (64 * m + z))) s
  let cap := (List.range 64).foldl (fun c z => SMap.write 0 c z
    (s.fget pgMatte (MATTE.ZCAP.CAP z) + 2 ^ 31 * s.fget pgMatte (MATTE.ZCAP.EN z))) s.safe.zcap
  let cnt := (List.range 64).foldl (fun c z => SMap.write 0 c z (s.fget pgMatte (MATTE.ZCOUNT.COUNT z))) s.safe.zcount
  { s with safe := { s.safe with zcap := cap, zcount := cnt } }

/-- The count of borrowing pixel-banks of the frame that ends is shown (R241). -/
def State.borrowBoundary (s : State) : State :=
  if s.matte.borrowSeen then
    let n := s.matte.borrowNow
    let moved := n ≠ s.fget pgMatte MATTE.BORROW_CNT.PIXEL_BANKS
    let s := { s.fset pgMatte MATTE.BORROW_CNT.PIXEL_BANKS n with matte := { s.matte with
      borrowNow := 0, borrowSeen := false } }
    if moved then s.evt pgMatte 9 else s
  else s

/-! ### A tile is finished (R159, R251) -/

/-- A tile has frozen: FREEZE_STAT, FREEZE, and a FATAL report of its engine (R159). -/
def State.freeze (s : State) (t : Nat) : State :=
  let s := s.fset pgTime TIME.FREEZE_STAT.TILES (s.fget pgTime TIME.FREEZE_STAT.TILES ||| 1 <<< t)
  let s := (s.finc pgTime TIME.FREEZE_STAT.COUNT).evt pgTime 18
  s.report { src := pgPe (portGroup t), cls := 4 }

/-- A signature is posted, and the freeze detector compares it with the frame before (R159). -/
def State.postSignature (s : State) (t : Nat) : State :=
  let p := pgPe (portGroup t)
  let sig := (Config.tileSignature s.time.seed (s.tileCodes t)).toNat
  let same := bit s.time.sigSeen t && sig = SMap.read 0 s.time.sigs t && s.time.seedChanged
  let run := if same then SMap.read 0 s.time.sigRun t + 1 else 1
  let s := (s.fset p (PE.TILE_SIG.CRC (localTile t)) sig).fset p PE.SIG_FRAME.FRAME s.frame
  let s := { s with time := { s.time with
    sigs := SMap.write 0 s.time.sigs t sig
    sigRun := SMap.write 0 s.time.sigRun t run
    sigSeen := s.time.sigSeen ||| 1 <<< t } }
  let ff := s.fget pgTime TIME.STILL_AFTER.FREEZE_FRAMES
  if ff ≠ 0 ∧ run = ff + 1 then s.freeze t else s

/-- The matte read signature of a tile is posted (R251). -/
def State.postReadSig (s : State) (t : Nat) : State :=
  let (bs, bad) := s.tileMatte (s.fget pgMatte MATTE.CTL.ACTIVE) t
  let s := s.fset pgMatte (MATTE.READ_SIG.CRC t) (crc32c bs)
  let v := s.fget pgMatte MATTE.READ_STAT.VALID
  let v := if bad then v &&& (0xFFFF - 1 <<< t) else v ||| 1 <<< t
  (s.fset pgMatte MATTE.READ_STAT.VALID v).fset pgMatte MATTE.READ_STAT.FRAME s.frame

/-- A tile is computed in this frame. -/
def State.tileComputed (s : State) (t : Nat) : Bool :=
  bit s.cad.computing t && !bit s.cad.done t && !s.fbit pgTime TIME.STILL_STAT.STILL && s.domOn (4 + portGroup t)

/-- PE_TILE_DONE: the codes of a tile are complete; `late` names composite pixels that were not ready for it (R192),
each as take × 2²⁰ + pixel index. The engine's last tile brings its end-of-frame mark (R407). -/
def State.peTileDone (s : State) (t : Nat) (late : List Nat) : State :=
  if !s.tileComputed t then s
  else
    let s := { s with cmp := { s.cmp with late := s.cmp.late ++ late.filter (fun v =>
      v / 2 ^ 20 < s.takes && tileOfPixel (v % 1024) (v % 2 ^ 20 / 1024) = t) } }
    let s := { s with matte := { s.matte with borrowNow := s.matte.borrowNow + s.tileBorrowers t, borrowSeen := true } }
    let s := (s.peTile t).postSignature t |>.postReadSig t
    let s := { s with cad := { s.cad with done := s.cad.done ||| 1 <<< t } }
    let q := portGroup t
    if (tilesOfQuadrant q).all (fun u => !bit s.cad.computing u || bit s.cad.done u) then
      let s := if bit s.cad.satSeen q then s.evt (pgPe q) 9 else s
      { s with safe := { s.safe with marks := s.safe.marks ||| 1 <<< q } }
    else s

/-- TILE_SIGNATURE_DEADLINE: a tile with no signature 0.92 × *P* after the boundary has frozen (R159). -/
def State.signatureDeadline (s : State) (t : Nat) : State :=
  if bit s.cad.computing t && !bit s.cad.done t && !s.fbit pgTime TIME.STILL_STAT.STILL then
    (s.advanceTo (s.time.boundaryAt + s.period * 92 / 100 / 65536)).freeze t
  else s

end Sys2Proof.Machine
end

