-- ==== Sys2Proof/Machine/Mem.lean ====
section
/-! DEFINITION. Memory (R326 to R345, R356 to R359) and the port arbiter (R346 to R355, R360). -/

namespace Sys2Proof.Machine

/-! ### Mapping and timing sets (R327, R332) -/

/-- Parity of a number. -/
def parity (v : Nat) : Nat := (bitsSet v 32).length % 2

/-- The row group of a block, and its offset (R326). -/
def rowGroup (b : Nat) : Nat := b / 56
def groupOffset (b : Nat) : Nat := b % 56

/-- Channel of a row group (R327). -/
def State.channelOf (s : State) (g : Nat) : Nat :=
  let row := g / 64
  let b0 := (bitsOf g 0 1 + parity (row &&& s.fget pgMem MEM.CHANMAP.M0)) % 2
  let b1 := (bitsOf g 1 1 + parity (row &&& s.fget pgMem MEM.CHANMAP.M1)) % 2
  b0 + 2 * b1

/-- Bank of a row group (R327). -/
def State.bankOf (s : State) (g : Nat) : Nat :=
  (List.range 4).foldl (fun v i =>
    v + 2 ^ i * ((bitsOf g (2 + i) 1 + parity (g / 64 &&& s.fget pgMem (MEM.BANKMAP.MASK i))) % 2)) 0

/-- Whether a set is trained. -/
def State.trained (s : State) (k : Nat) : Bool :=
  if k = 0 then s.fbit pgMem MEM.STAT.TRAINED_A else s.fbit pgMem MEM.STAT.TRAINED_B

/-- Setting TRAINED of a set. -/
def State.setTrained (s : State) (k : Nat) (b : Bool) : State :=
  if k = 0 then s.fsetB pgMem MEM.STAT.TRAINED_A b else s.fsetB pgMem MEM.STAT.TRAINED_B b

/-- Sixteen beats at a rate code, in 0.1 ns. -/
def burst16 (rate : Nat) : Nat := if rate = 0 then 25 else if rate = 1 then 50 else 100

/-- The port cycle at a rate code, in sixteenths of a nanosecond. -/
def portCycle (rate : Nat) : Nat := if rate = 0 then 10 else if rate = 1 then 20 else 40

/-- TS_CALC of a set follows its registers (R332). -/
def State.calcSet (s : State) (k : Nat) : State :=
  let g (f : Nat → Fld) := s.fget pgMem (f k)
  let t := burst16 (g MEM.TS_RATE.RATE)
  (s.fset pgMem (MEM.TS_CALC.TAHEAD k) (10 * (g MEM.TS_CORE.RAS_NS + g MEM.TS_CORE.RP_NS) + t)).fset pgMem
    (MEM.TS_CALC.TACC k)
    (10 * (g MEM.TS_CORE.RP_NS + g MEM.TS_CORE.RCD_NS + g MEM.TS_CORE.RL_NS) + 3 * t + 100)

/-- The fields of a timing set. -/
def setFields (k : Nat) : List Fld :=
  [MEM.TS_RATE.RATE k, MEM.TS_CORE.RCD_NS k, MEM.TS_CORE.RP_NS k, MEM.TS_CORE.RAS_NS k, MEM.TS_CORE.RL_NS k,
    MEM.TS_MISC.WL_NS k, MEM.TS_MISC.RRD_NS k, MEM.TS_MISC.FAW_NS k, MEM.TS_MISC.WR_NS k]

/-- The reasons against a commit of MEM (R357). -/
def State.memReasons (s : State) (ps : List Nat) : List Nat :=
  let g (f : Fld) := s.vget ps pgMem f
  let ts := g MEM.REFRESH_T.RFC_NS + g MEM.REFRESH_T.RPAB_NS
  let i := g MEM.REFRESH.INTERVAL_NS
  let maps := [MEM.CHANMAP.M0, MEM.CHANMAP.M1] ++ (List.range 4).map MEM.BANKMAP.MASK
  let sets := [0, 1].flatMap (fun k => (setFields k).tail)
  reasons [(s.fbit pgMem MEM.STAT.WRITTEN && maps.any (s.changes pgMem), 0x10),
    (g (MEM.TS_RATE.RATE 0) = 3 || g (MEM.TS_RATE.RATE 1) = 3 || sets.any (fun f => g f = 0), 0x11),
    ((setFields (s.fget pgMem MEM.STAT.SET)).any (s.changes pgMem), 0x12),
    (3904 < i || i < 10 * ts, 0x13),
    (g MEM.SCRUB_CFG.PERIOD_H = 0 || g MEM.SCRUB_CFG.SRAM_PERIOD_S = 0, 0x14)]

/-- A MEM commit has applied: a changed set is no longer trained (R332). -/
def State.memApplied (s old : State) : State :=
  let s := [0, 1].foldl (fun s k =>
    if (setFields k).any (fun f => s.fget pgMem f != old.fget pgMem f) then s.setTrained k false else s) s
  (s.calcSet 0).calcSet 1

/-! ### Reports of MEM (R329, R330, R338) -/

/-- A requester's report of a block, from MEM. -/
def memErr (cls b master synd kind : Nat) : ErrRec :=
  { src := pgMem, cls := cls, typ := 5, space := 2, addr := b, master := master, synd := synd, kind := kind }

/-- A request while MEM does not serve: OFFLINE; in FAILED it is also reported as FATAL (R333, R338). -/
def State.memOffline (s : State) (b master : Nat) : State :=
  let s := s.finc pgMem MEM.MISC_CNT.OFFLINE
  if s.fget pgMem MEM.STAT.STATE = 5 then s.report (memErr 4 b master 0 0) else s

/-- A request above the last block (R330). -/
def State.memRange (s : State) (b master : Nat) : State :=
  ((s.finc pgMem MEM.MISC_CNT.RANGE).evt pgMem 13).report (memErr 2 b master 0 0)

/-- A row group enters the repair queue unless it is full (R344). -/
def State.queueRepair (s : State) (g : Nat) : State :=
  if s.mem.repair.length < 64 && !s.mem.repair.contains g then
    let r := s.mem.repair ++ [g]
    { s with mem := { s.mem with repair := r } }.fset pgMem MEM.SCRUB_STAT.REPAIR r.length
  else s

/-- MEM has read a block: it is counted and reported under BC288 (R329, R363). -/
def State.memDecode (s : State) (b master : Nat) : State :=
  match s.decodeBlock b with
  | .clean _ _ => s
  | .corrected _ _ y =>
    ((s.finc pgMem MEM.CORR_CNT.COUNT).report (memErr 0 b master y 1)).queueRepair (rowGroup b)
  | .uncorrectable y =>
    ((s.finc pgMem MEM.UNCORR_CNT.COUNT).evt pgMem 12).report (memErr 1 b master y 2)

/-- Bits of a stored block flip. -/
def State.flip (s : State) (b pat : Nat) : State :=
  { s with dram := { s.dram with
      flips := SMap.write 0 s.dram.flips b ((SMap.read 0 s.dram.flips b ^^^ pat) % 2 ^ 288) } }

/-! ### Transfers (R328 to R331) -/

/-- The bank key of a row group. -/
def State.bankKey (s : State) (g : Nat) : Nat := 16 * s.channelOf g + s.bankOf g

/-- A transfer opens its row, enters its check column into the channel's cache and leaves the queue (R328, R331). -/
def State.touchRow (s : State) (pair : Nat) : State :=
  let g := rowGroup (2 * pair)
  let c := s.channelOf g
  let col := 8 * g + groupOffset (2 * pair) / 8
  let cache := SMap.read [] s.mem.checkCache c
  let q := SMap.read [] s.mem.queues c
  { s with mem := { s.mem with
      rows := SMap.write none s.mem.rows (s.bankKey g) (some (g / 64))
      rowUsed := SMap.write 0 s.mem.rowUsed (s.bankKey g) s.mono
      checkCache := SMap.write [] s.mem.checkCache c ((col :: cache.filter (· ≠ col)).take 64)
      queues := SMap.write [] s.mem.queues c (q.erase pair) } }

/-- The part of the calibration region, or another structure, that a block belongs to, as its reader counts damage. -/
def State.peDamage (s : State) (q b : Nat) : State :=
  let base := s.fget pgCad CAD.REGION.BASE
  let m := s.fget pgMatte MATTE.BASE.BASE
  let v := s.block b
  let bad (tag : Nat) : Bool := v.poisoned || v.tag != tag
  let rep (src : Nat) (s : State) := s.report { src := src, cls := 1, typ := 1, space := 2, addr := b, master := 0x11 + q }
  if m ≤ b && b < m + 262144 then
    if bad (s.fget pgMatte MATTE.TAG.TAG) then
      rep pgMatte ((s.finc pgMatte MATTE.READ_ERR.COUNT).evt pgMatte 8)
    else s
  else if base + offResidual ≤ b && b < base + regionBlocks then
    if bad s.regionTag then rep (pgPe q) (s.finc (pgPe q) PE.READ_ERR.COUNT) else s
  else if base + offEff 0 ≤ b && b < base + offWear then
    if bad s.regionTag then rep (pgPe q) ((s.finc (pgPe q) PE.READ_ERR.COUNT).evt (pgPe q) 8) else s
  else s

/-- CAD reads a damaged block of wear records: its four records are lost for the phase (R224). -/
def State.cadDamage (s : State) (b : Nat) : State :=
  let base := s.fget pgCad CAD.REGION.BASE
  let v := s.block b
  if base + offWear ≤ b && b < base + offResidual && (v.poisoned || v.tag != s.regionTag) then
    ((s.fadd pgCad CAD.RECORD_LOST.COUNT 4).evt pgCad 14).report
      { src := pgCad, cls := 1, typ := 1, space := 2, addr := b, master := 9 }
  else s

/-- DIAG reads a damaged block of its map: the eight records are rewritten (R303). -/
def State.diagDamage (s : State) (b : Nat) : State :=
  let base := s.fget pgDiag DIAG.MAP_BASE.BASE
  let tag := s.fget pgDiag DIAG.MAP_TAG.TAG
  let v := s.block b
  if base ≤ b && b < base + 786432 && (v.poisoned || v.tag != tag) then
    let data := (List.range 8).foldl (fun d i =>
      d + (SMap.read 0 s.diag.inForce (8 * (b - base) + i) + 255 * 4) * 2 ^ (32 * i)) 0
    ((((s.admitWrite 0x1A b data tag false).finc pgDiag DIAG.MAP_ERR_CNT.COUNT).evt pgDiag 13).report
      { src := pgDiag, cls := 1, typ := 1, space := 2, addr := b, master := 0x1A })
  else s

/-- The reader of a block does with it what its chapter says (R366). -/
def State.consume (s : State) (t : Transfer) (b : Nat) : State :=
  if t.req = 1 then s.cmpReceive b t.rowPair
  else if 3 ≤ t.req ∧ t.req ≤ 6 then s.peDamage (t.req - 3) b
  else if t.req = 7 then s.cadDamage b
  else if t.req = 8 then s.diagDamage b
  else s

/-- One block of a transfer; a reader receives a block that MEM does not serve poisoned (R329, R330, R338). -/
def State.transferBlock (s : State) (t : Transfer) (b data tag : Nat) (poison : Bool) (flips : Nat) : State :=
  if dramBlocks ≤ b || !s.memOnline then if t.write then s else s.consume t b
  else if t.write then s.admitWrite t.master b data tag poison
  else
    let s := s.flip b flips
    (s.memDecode b t.master).consume t b

/-- What MEM makes of a request: one above the last block counts and is reported, as is one that MEM does not serve; any
other opens its row (R328, R330, R331, R338). -/
def State.requestCheck (s : State) (t : Transfer) : State :=
  let b := 2 * t.pair + b2n (!bit t.mask 0)
  if dramBlocks ≤ b then s.memRange b t.master
  else if !s.memOnline then s.memOffline b t.master
  else s.touchRow t.pair

/-- The latency of a requester that was seen URGENT ends (R354, R355). -/
def State.endWait (s : State) (r : Nat) : State :=
  match SMap.read none s.arb.urgentAt r with
  | none => s
  | some at_ =>
    let w := min (s.mono - at_) 0xFFFF
    let s := { s with arb := { s.arb with urgentAt := SMap.write none s.arb.urgentAt r none } }
    s.fset pgArb (ARB.WAIT.WAIT_MAX_NS r) (max w (s.fget pgArb (ARB.WAIT.WAIT_MAX_NS r)))

/-- DRAM_TRANSFER. -/
def State.dramTransfer (s : State) (t : Transfer) : State :=
  let s := s.requestCheck t
  let s := if bit t.mask 0 then s.transferBlock t (2 * t.pair) t.data0 t.tag0 t.poison0 t.flips0 else s
  let s := if bit t.mask 1 then s.transferBlock t (2 * t.pair + 1) t.data1 t.tag1 t.poison1 t.flips1 else s
  s.endWait t.req

/-- ROW_IDLE_TIMEOUT: the row of a bank, idle for 200 ns, is closed (R331). -/
def State.rowIdle (s : State) (key : Nat) : State :=
  match SMap.read none s.mem.rows key with
  | none => s
  | some _ =>
    let s := s.advanceTo (SMap.read 0 s.mem.rowUsed key + 200)
    { s with mem := { s.mem with rows := SMap.write none s.mem.rows key none } }

/-! ### Refresh (R334 to R336) -/

/-- The effective refresh interval. -/
def State.refreshInterval (s : State) : Nat := s.fget pgMem MEM.REFRESH.INTERVAL_NS / 2 ^ s.fget pgMem MEM.STAT.DERATE

/-- An MR4 read ends, or fails: THM shows it, and MEM takes the derate factor that the hotter die requires (R336,
R458). -/
def State.mr4 (s : State) (m : Option Mr4) : State :=
  let s := (s.fsetB pgThm THM.MR4.VALID m.isSome).fsetB pgThm THM.MR4.FAIL m.isNone
  let s := match m with
    | some v => (s.fset pgThm THM.MR4.DIE0 v.die0).fset pgThm THM.MR4.DIE1 v.die1
    | none => s
  let code := match m with
    | some v => min v.rate 2
    | none => 2
  let old := s.fget pgMem MEM.STAT.DERATE
  let s := { s with mem := { s.mem with mr4Due := false } }
  if old = code then s else (s.fset pgMem MEM.STAT.DERATE code).evt pgMem 10

/-- REFRESH_DUE: the stall begins; MR4 is read when a demand waits for it; the oscillators are read at most once per
100 ms (R334, R335). -/
def State.refresh (s : State) (mr4 : Option Mr4) : State :=
  if s.fget pgMem MEM.STAT.STATE ≠ 2 then s
  else
    let s := s.advanceTo s.mem.refreshDue
    let ts := s.fget pgMem MEM.REFRESH_T.RPAB_NS + s.fget pgMem MEM.REFRESH_T.RFC_NS
    let dqs := match s.mem.dqsRead with
      | some t => if t + 100000000 ≤ s.mono then some s.mono else some t
      | none => some s.mono
    let s := s.finc pgArb ARB.STALL_CNT.COUNT
    let s := if s.mem.mr4Due then s.mr4 mr4 else s
    { s with mem := { s.mem with
        stallEnd := s.mono + ts, refreshDue := s.mono + s.refreshInterval, dqsRead := dqs, rows := [] } }

/-! ### Sets (R333, R338 to R340) -/

/-- Composition of the frame has ended, or the device is in still mode, and the engines have written their last codes
(R339). -/
def State.windowOpen (s : State) : Bool :=
  s.time.blanking && s.mono + 12000 ≤ s.time.boundaryAt + s.period / 65536 &&
  (s.fbit pgTime TIME.STILL_STAT.STILL || (List.range 16).all (fun t => !bit s.cad.computing t || bit s.cad.done t))

/-- A window completes: its FRAME and count, the event, and a completion that waits for its latch (R23, R114). -/
def State.windowDone (s : State) (w frame : Nat) : State :=
  let s := ((s.fset (pgLink 0) (LINK.WIN_STAT.FRAME w) frame).fwrap (pgLink 0) (LINK.WIN_STAT.COMPLETIONS w)).evt
    (pgLink 0) 14
  { s with cmp := { s.cmp with waiting := s.cmp.waiting ++ [⟨w, s.mono, frame⟩] } }

/-- The oldest block that waits in the INGEST buffer is written (R115). -/
def State.ingestOne (s : State) : State :=
  match s.transport.ingest with
  | [] => s
  | b :: r =>
    let s := { s with transport := { s.transport with ingest := r } }.admitWrite 0x1C b.block b.data b.tag false
    match b.completes with
    | some (w, frame) => s.windowDone w frame
    | none => s

/-- Every block that waits in the INGEST buffer is written (R339). -/
def State.drainIngest (s : State) : State := s.transport.ingest.foldl (fun s _ => s.ingestOne) s

/-- SWITCH_WINDOW_OPEN: the switch runs through self-refresh; grants stop and resume within it (R339). -/
def State.switchWindow (s : State) : State :=
  match (s.hdr pgMem).run with
  | some r =>
    if r.opcode = 0x10 && s.windowOpen then
      let s := { s.drainIngest with mem := { s.mem with queues := [], rows := [], windowWait := 0 } }
      let s := s.fset pgMem MEM.STAT.SET (r.arg % 2)
      let s := { s with mem := { s.mem with refreshDue := s.mono + s.refreshInterval } }
      (s.evt pgMem 9).cmdDone pgMem
    else s
  | none => s

/-- At a boundary a waiting SWITCH_SET has seen one more frame without a window (R339). -/
def State.windowBoundary (s : State) : State :=
  if s.running pgMem 0x10 then
    let n := s.mem.windowWait + 1
    if 64 ≤ n then { s with mem := { s.mem with windowWait := 0 } }.cmdFail pgMem 0x30
    else { s with mem := { s.mem with windowWait := n } }
  else s

/-- TRAINING_DONE: of the set in training; `failCh` names the channels that failed, and `step` the step (R333, R340). -/
def State.trainingDone (s : State) (failCh step : Nat) : State :=
  match s.mem.training with
  | none => s
  | some k =>
    let s := { s with mem := { s.mem with training := none } }
    let startUp := !s.running pgMem 0x11
    if failCh % 16 = 0 then
      let s := ((s.setTrained k true).fset pgMem MEM.STAT.TRAIN_FAIL_CH 0).fset pgMem MEM.STAT.TRAIN_FAIL_STEP 0
      let s := s.fset pgMem MEM.STAT.STATE 2
      let s := { s with mem := { s.mem with refreshDue := s.mono + s.refreshInterval } }
      if startUp then s else s.cmdDone pgMem
    else
      let s := (s.fset pgMem MEM.STAT.TRAIN_FAIL_CH failCh).fset pgMem MEM.STAT.TRAIN_FAIL_STEP step
      let s := (s.setTrained k false).evt pgMem 8
      let s := s.fset pgMem MEM.STAT.STATE (if startUp && k = 0 then 5 else 2)
      let s := if startUp && k = 0 then s.report { src := pgMem, cls := 4 } else s
      if startUp then s else s.cmdFail pgMem 0x31

/-- The MEM domain has come ON: set A trains at a first start, and a retained MEM returns to READY (R333, R338). -/
def State.memStart (s : State) : State :=
  if s.trained (s.fget pgMem MEM.STAT.SET) then
    let s := s.fset pgMem MEM.STAT.STATE 2
    { s with mem := { s.mem with refreshDue := s.mono + s.refreshInterval } }
  else { s with mem := { s.mem with training := some 0 } }.fset pgMem MEM.STAT.STATE 1

/-! ### Scrub (R341 to R345) -/

/-- Blocks of a row group. -/
def groupBlocks (g : Nat) : List Nat := ((List.range 56).map (fun i => 56 * g + i)).filter (fun b => b < dramBlocks)

/-- A pair's corrected blocks are written back with fresh check words (R342). -/
def State.writeBackPair (s : State) (p : Nat) : State :=
  [2 * p, 2 * p + 1].foldl (fun s b =>
    match s.decodeBlock b with
    | .corrected d t _ => s.admitWrite 0x18 b d (t % 256) (bit t 8)
    | _ => s) s

/-- The write-backs that no other writer has cancelled are carried out. -/
def State.flushWriteBack (s : State) : State :=
  let q := s.mem.writeBack
  q.foldl State.writeBackPair { s with mem := { s.mem with writeBack := [] } }

/-- SCRUB reads a row group: each pair with a corrected block and none uncorrectable waits for its write-back. -/
def State.scrubGroup (s : State) (g : Nat) : State :=
  let s := s.flushWriteBack
  let s := (groupBlocks g).foldl (fun s b => s.memDecode b 0x18) s
  let isCorr (b : Nat) : Bool := match s.decodeBlock b with | .corrected .. => true | _ => false
  let isBad (b : Nat) : Bool := match s.decodeBlock b with | .uncorrectable _ => true | _ => false
  let pairs := ((List.range 28).map (fun i => 28 * g + i)).filter (fun p =>
    (isCorr (2 * p) || isCorr (2 * p + 1)) && !isBad (2 * p) && !isBad (2 * p + 1))
  { s with mem := { s.mem with writeBack := pairs } }

/-- Flips that the array has suffered. -/
def State.flips (s : State) (l : List (Nat × Nat)) : State := l.foldl (fun s e => s.flip e.1 e.2) s

/-- SCRUB_VISIT: the next row group of the ordered pass (R341). -/
def State.scrubVisit (s : State) (upsets : List (Nat × Nat)) : State :=
  if !s.fbit pgMem MEM.CTL.SCRUB_EN || s.fget pgMem MEM.STAT.STATE ≠ 2 then s
  else
    let s := s.flips upsets
    let g := s.fget pgMem MEM.SCRUB_STAT.POS
    let s := s.scrubGroup g
    let s := s.fset pgMem MEM.SCRUB_STAT.POS (g + 1)
    if g + 1 = 2097152 then (s.finc pgMem MEM.SCRUB_CNT.PASSES).evt pgMem 11 else s

/-- SCRUB_REPAIR_VISIT: the oldest entry of the repair queue (R344). -/
def State.scrubRepair (s : State) (upsets : List (Nat × Nat)) : State :=
  match s.mem.repair with
  | [] => s
  | g :: r =>
    if s.fget pgMem MEM.STAT.STATE ≠ 2 then s
    else
      let s := { s.flips upsets with mem := { s.mem with repair := r } }
      (s.fset pgMem MEM.SCRUB_STAT.REPAIR r.length).scrubGroup g

/-- SRAM_PATROL: the upset blocks of protected SRAMs that SCRUB meets, each with its source, its word address, its
syndrome and whether it could be corrected; an uncorrectable block of the queue SRAM is poisoned (R345, R364). -/
def State.sramPatrol (s : State) (upsets : List (Nat × Nat × Nat × Bool)) : State :=
  upsets.foldl (fun s e =>
    let (src, a, y, ok) := e
    let s :=
      if !ok && (match pageOf src with | some (.reel, _) => true | _ => false) then
        { s with sram := { s.sram with poison := (a / 8) :: s.sram.poison.filter (· ≠ a / 8) } }
      else s
    s.report { src := src, cls := if ok then 0 else 1, typ := 1, space := 3, addr := a, master := 0x18, synd := y, kind := if ok then 1 else 2 }) s

/-! ### The arbiter (R346 to R353) -/

/-- Grants are withheld, with the cause of R353. -/
def State.portCause (s : State) : Nat :=
  if s.fget pgMem MEM.STAT.STATE = 3 then 2
  else if s.fget pgMem MEM.STAT.STATE ≠ 2 || !s.domOn 8 then 3
  else if s.mono < s.mem.stallEnd then 1
  else 0

/-- A requester's rank in a decision: its URGENT state seen in the cycle before and its PRIO in force (R349). -/
def State.rank (s : State) (r : Nat) : Nat := 8 * b2n (bit s.arb.seenUrgent r) + s.fget pgArb (ARB.CFG.PRIO r)

/-- The channel queue of a requester's head transfer has room (R348). -/
def State.queueRoom (s : State) (reqs : List PortRequest) (r : Nat) : Bool :=
  match reqs[r]? with
  | some q => (SMap.read [] s.mem.queues (s.channelOf (rowGroup (2 * q.pair)))).length < 8
  | none => false

/-- The contenders of a decision: requests seen in the cycle before, with room. -/
def State.contenders (s : State) (reqs : List PortRequest) : List Nat :=
  (List.range 12).filter (fun r => bit s.arb.seenReq r && s.queueRoom reqs r)

/-- The winner: highest rank, then the first at or after the rank's pointer (R349). -/
def State.winner (s : State) (cs : List Nat) : Option Nat :=
  let top := cs.foldl (fun m r => max m (s.rank r)) 0
  let eq := cs.filter (fun r => s.rank r = top)
  let ptr := SMap.read 0 s.arb.pointers top
  match eq.find? (fun r => ptr ≤ r) with
  | some r => some r
  | none => eq.head?

/-- The decision for the next cycle (R349, R350). -/
def State.decide_ (s : State) (reqs : List PortRequest) : Grant :=
  let cs := s.contenders reqs
  match s.arb.use with
  | .first x =>
    let above := cs.filter (fun r => r ≠ x && bit s.arb.seenUrgent r && s.rank x < s.rank r)
    if s.fbit pgArb ARB.CTL.PREEMPT_EN then
      match s.winner above with
      | some r => .grant r (s.rank r)
      | none => .keep x
    else .keep x
  | _ =>
    match s.winner cs with
    | some r => .grant r (s.rank r)
    | none => .none_

/-- The port in this cycle follows the decision of the last: a grant without a request is void; a kept holder's transfer
is admitted (R348, R351). -/
def State.occupy (s : State) (reqs : List PortRequest) : State :=
  match s.arb.decided with
  | .none_ => { s with arb := { s.arb with use := .idle } }
  | .keep x =>
    let pair := match reqs[x]? with | some q => q.pair | none => 0
    let c := s.channelOf (rowGroup (2 * pair))
    let s := { s with
      arb := { s.arb with use := .second x }
      mem := { s.mem with queues := SMap.write [] s.mem.queues c (SMap.read [] s.mem.queues c ++ [pair]) } }
    s.finc pgArb (ARB.GRANTS.COUNT x)
  | .grant x k =>
    if (match reqs[x]? with | some q => q.req | none => false) then
      let s := { s with arb := { s.arb with
        use := .first x
        pointers := SMap.write 0 s.arb.pointers k ((x + 1) % 12)
        bgTurn := if x = 11 then (s.arb.bgTurn + 1) % 3 else s.arb.bgTurn } }
      s
    else { s with arb := { s.arb with use := .idle } }.finc pgArb ARB.VOID_CNT.COUNT

/-- A requester is URGENT (R347). -/
def State.urgent (s : State) (q : PortRequest) (r : Nat) : Bool := q.req && q.slack < s.fget pgArb (ARB.CFG.WM r)

/-- What ARB sees of the requesters in this cycle, for the decisions of the next (R347, R349). -/
def State.observe (s : State) (reqs : List PortRequest) : State :=
  (reqs.zipIdx.filter (fun e => e.2 < 12)).foldl (fun s e =>
    let (q, r) := e
    let u := s.urgent q r
    let starve := u && q.slack = 0
    let s := ((s.fsetB pgArb (ARB.STAT.REQ r) q.req).fsetB pgArb (ARB.STAT.URGENT r) u).fset pgArb (ARB.STAT.SLACK r)
      (min q.slack 2047)
    let s := if starve && !bit s.arb.starved r then
        (s.fset pgArb ARB.PORT_STAT.LAST_STARVE r).evt pgArb 8 else s
    let ua := SMap.read none s.arb.urgentAt r
    { s with arb := { s.arb with
        seenReq := putBits s.arb.seenReq r 1 (b2n q.req)
        seenUrgent := putBits s.arb.seenUrgent r 1 (b2n u)
        starved := putBits s.arb.starved r 1 (b2n starve)
        urgentAt := SMap.write none s.arb.urgentAt r (if u && ua.isNone then some s.mono else ua) } }) s

/-- The port clock runs one cycle. -/
def State.portTick (s : State) : State :=
  let n := s.arb.sub + portCycle (s.fget pgMem (MEM.TS_RATE.RATE (s.fget pgMem MEM.STAT.SET)))
  { s with arb := { s.arb with sub := n % 16 } }.advanceTo (s.mono + n / 16)

/-- A cycle without grants: a transfer that holds only its first cycle takes its second (R335, R353). -/
def State.stalledCycle (s : State) (reqs : List PortRequest) : State :=
  match s.arb.use with
  | .first x =>
    let s := { s with arb := { s.arb with decided := .keep x } }.occupy reqs
    { s with arb := { s.arb with decided := .none_ } }
  | _ => { s with arb := { s.arb with use := .idle, decided := .none_ } }

/-- A cycle with grants: the port follows the last decision, and ARB decides for the next cycle (R349, R350). -/
def State.grantCycle (s : State) (reqs : List PortRequest) : State :=
  let s := s.occupy reqs
  let d := s.decide_ reqs
  let s := match s.arb.use, d with
    | .first x, .grant _ _ => s.finc pgArb (ARB.WAIT.PREEMPTED x)
    | _, _ => s
  { s with arb := { s.arb with decided := d } }

/-- PORT_CYCLE (R349). -/
def State.portStep (s : State) (reqs : List PortRequest) : State :=
  let cause := s.portCause
  let s := (s.fsetB pgArb ARB.PORT_STAT.STALLED (cause != 0)).fset pgArb ARB.PORT_STAT.CAUSE cause
  let s := if cause ≠ 0 then s.stalledCycle reqs else s.grantCycle reqs
  (s.observe reqs).portTick

end Sys2Proof.Machine
end

