-- ==== Sys2Proof/Machine/Dud.lean ====
section
/-! DEFINITION. What a Dudun port makes of the packets it receives, of timeouts and of its commands (R275 to R288,
R294 to R297, R500). -/

namespace Sys2Proof.Machine

/-! ### Sinks -/

/-- What a port knows of a sink. -/
def State.sink (s : State) (t a : Nat) : SinkSt := SMap.read {} (s.dud t).sinks a

/-- Recording what a port knows of a sink. -/
def State.setSink (s : State) (t a : Nat) (k : SinkSt) : State :=
  s.setDud t { s.dud t with sinks := SMap.write {} (s.dud t).sinks a k }

/-- The range that SPLIT shows (R287). -/
def State.splitRange (s : State) (t : Nat) : Nat :=
  if s.fbit (pgDud t) DUD.STAT.SPLIT then sinkRange (s.fget (pgDud t) DUD.SPLIT.LO) (s.fget (pgDud t) DUD.SPLIT.HI) else 0

/-- A response shows an epoch above the port's own: an ACTIVE device withdraws (R499). -/
def State.checkEpoch (s : State) (t a epoch : Nat) : State :=
  if s.fget (pgDud t) DUD.OWN.EPOCH < epoch && !bit (s.splitRange t) a then s.demote else s

/-- A packet arrives: one whose CRC or length fails is dropped and counted (R266). -/
def State.rxOk (s : State) (t : Nat) (p : Packet) : Bool × State :=
  let s := s.setDud t { s.dud t with lastRx := s.mono, locked := true }
  if p.crcOk then (true, s) else (false, s.finc (pgDud t) DUD.CNT_CRC.PORT)

/-- The header block of a packet (R266). -/
def packetHeader (k : Packet) : Nat :=
  k.type % 64 + b2n k.looped * 2 ^ 6 + k.dst % 256 * 2 ^ 8 + k.words.length % 4096 * 2 ^ 16 + k.epoch % 2 ^ 16 * 2 ^ 32 +
    k.owner % 512 * 2 ^ 48 + k.tag % 128 * 2 ^ 57

/-- An EVENT, or a response that no command awaits, goes to REEL2: a word with the tile, then header and payload, each
64-bit word as two words, the lower first (R379). -/
def State.toReel2 (s : State) (t : Nat) (k : Packet) : State :=
  s.reelPush 2 (pgDud t) (t :: (packetHeader k :: k.words).flatMap (fun w => [w % 2 ^ 32, w / 2 ^ 32 % 2 ^ 32]))

/-! ### Lost sinks (R285, R287, R500) -/

/-- The lost sinks of an ACTIVE device's port with SPLIT_EN form a range that ends at the far end: SPLIT shows it, and the
partner hears of it (R287, R500). -/
def State.offerSplit (s : State) (t : Nat) : State :=
  let p := pgDud t
  let d := s.dud t
  let n := s.fget p DUD.STAT.SINKS
  let l := sinksOf d.lost
  let lo := l.headD 0
  let hi := l.getLastD 0
  let tail := s.fget p DUD.CTL.ROLE = 2
  if s.pairActive && s.fbit p DUD.CTL.SPLIT_EN && !s.fbit p DUD.STAT.SPLIT && d.lost != 0 && d.lost = sinkRange lo hi &&
      (if tail then lo = 0 else hi + 1 = n) then
    (((s.fset p DUD.STAT.SPLIT 1).fset p DUD.SPLIT.LO lo).fset p DUD.SPLIT.HI hi).mirrorActive (.split t lo hi false)
  else s

/-- Live sinks become lost, all of a set together (R285). -/
def State.loseSinks (s : State) (t m : Nat) : State :=
  let d := s.dud t
  let m := m &&& d.live
  if m = 0 then s
  else
    let s := (sinksOf m).foldl (fun s a => s.ringSend t 0x0B (1 <<< a) []) s
    let d := s.dud t
    let s := s.setDud t { d with
      live := without d.live m, lost := d.lost ||| m, awaited := without d.awaited m,
      incomplete := without d.incomplete m }
    let s := if (s.dud t).live = 0 then s.stopPort t else s
    let s := ((s.showRing t).evt (pgDud t) 10).evt (pgDud t) 9
    let s := s.offerSplit t
    s.report { src := pgDud t, cls := 1, count := (sinksOf m).length }

/-! ### Tally rounds (R280, R281) -/

/-- TALLY goes to some sinks, and a round begins. -/
def State.tallyRound (s : State) (t r m : Nat) : State :=
  let s := s.ringSend t 0x0A m []
  s.setDud t { s.dud t with round := r, awaited := m, incomplete := 0 }

/-- DELIVERY_DONE: the last DRIVE packet has been sent, and TALLY goes to every live sink (R280). -/
def State.deliveryDone (s : State) (t : Nat) : State :=
  let d := s.dud t
  if d.round = 0 && d.live != 0 && !d.complete && s.domOn (15 + portGroup t) then s.tallyRound t 1 d.live else s

/-- DRIVE packets that end before blanking begins, of a list sent from now on with its gaps (R281, R282). -/
def State.fitBlanking (s : State) (t : Nat) (l : List (Nat × Nat × Nat)) : List (Nat × Nat × Nat) :=
  let run := max 1 (s.fget (pgDud t) DUD.CTL.RUN)
  let endNs := s.time.boundaryAt + s.period / 65536 - 1000 * s.fget pgTime TIME.BLANK.US
  (l.zipIdx.filter (fun e => s.mono * 100 + 528 * 220 * (e.2 + 1 + e.2 / run) ≤ endNs * 100)).map (·.1)

/-- The rounds of a frame are over: misses are counted, sinks are lost, and the frame is complete when every sink still
live is (R281). -/
def State.endRounds (s : State) (t : Nat) : State :=
  let p := pgDud t
  let bad := (s.dud t).incomplete &&& (s.dud t).live
  let s := (sinksOf bad).foldl (fun s a => s.finc p (DUD.SINK_B.MISSES a)) s
  let lost := maskOf ((sinksOf bad).filter (fun a => s.fget p DUD.CTL.MISS_FRAMES ≤ s.fget p (DUD.SINK_B.MISSES a)))
  let s := s.setDud t { s.dud t with round := 0, awaited := 0, missing := [] }
  let s := s.loseSinks t lost
  let d := s.dud t
  (s.setDud t { d with incomplete := 0, complete := without bad lost = 0 }).frameDoneCheck

/-- A round has every answer it will get (R281). -/
def State.roundOver (s : State) (t : Nat) : State :=
  let d := s.dud t
  if d.round = 0 || d.awaited != 0 then s
  else if d.round = 1 && d.incomplete &&& d.live != 0 then
    let m := d.incomplete &&& d.live
    match d.delivering with
    | none => s.tallyRound t 2 m
    | some k =>
      if s.fbit (pgDud t) DUD.CTL.RETRY_EN then
        let all := 2 ^ (4 * d.takes) - 1
        let l := s.fitBlanking t (driveList d.takes ((sinksOf m).map (fun a => (a, SMap.read all d.missing a))))
        ((s.sendDrives t k l).fadd (pgDud t) DUD.CNT_RETRY.COUNT l.length).tallyRound t 2 m
      else s.endRounds t
  else s.endRounds t

/-- The groups that a TALLY_RESP shows missing for the frame in delivery, bit 4 × *j* + *g* (R274, R281). -/
def missingGroups (k takes w0 : Nat) : Nat :=
  let all := 2 ^ (4 * takes) - 1
  if bitsOf w0 0 16 = k % 65536 then all - (bitsOf w0 16 16 &&& all) else all

/-- Headroom in 10 mV as SINK_A shows it (R294). -/
def hrShown (h : Nat) : Nat := if h = 0xFFFF then 0xFF else if 2540 ≤ h then 0xFE else h / 10

/-- What a TALLY_RESP tells of its sink beside the groups (R274, R285, R294, R297, R316); headroom and temperature count
only on a device that is unpaired or ACTIVE (R501). -/
def State.tallyReport (s : State) (t a w0 w1 : Nat) : State :=
  let p := pgDud t
  let ot := bit w0 49
  let was := s.fbit p (DUD.SINK_B.OT a)
  let s := (((s.fsetB p (DUD.SINK_B.OT a) ot).fsetB p (DUD.SINK_B.DSYNC_LOSS a) (bit w0 50)).fsetB p
    (DUD.SINK_B.MARK_MISS a) (bit w0 51)).fsetB p (DUD.SINK_B.REPEAT a) (bit w0 52)
  let s := (s.fset p (DUD.SINK_A.HR_RED a) (hrShown (bitsOf w1 0 16))).fset p (DUD.SINK_A.HR_GB a) (hrShown (bitsOf w1 16 16))
  let crc := bitsOf w1 32 16
  let stale := bitsOf w1 48 16
  let s := ((s.fadd p DUD.CNT_CRC.SINKS crc).fadd p DUD.CNT_MISC.STALE_REJ stale).fadd p DUD.CNT_MISC.MARK_MISS (b2n (bit w0 51))
  let s := if ot && !was then s.evt p 14 else s
  let s := if bit w0 50 then s.evt p 15 else s
  let s := if bit w0 51 then s.evt p 16 else s
  let s := if stale != 0 then s.evt p 13 else s
  let key := 128 * t + a
  let g := s.diag
  let s := { s with diag := { g with
    crcSeen := if crc = 0 then g.crcSeen else SMap.write 0 g.crcSeen key (SMap.read 0 g.crcSeen key + crc)
    otSeen := if ot then SMap.write 0 g.otSeen key (SMap.read 0 g.otSeen key + 1) else g.otSeen
    otFrame := if ot then SMap.write none g.otFrame key (some s.frame) else g.otFrame } }
  let s :=
    if bit w0 48 && s.gafferRuns then
      let temp := bitsOf w0 32 16
      let s := (s.fset p (DUD.SINK_A.TEMP a) temp).sinkTemperature t a temp
      let all := (SMap.range s.cad.sinkTemp (128 * t) (128 * (t + 1))).filterMap (fun e => e.2.map (sgn 16))
      (s.fsetI p DUD.TEMP.MAX (all.foldl max (all.headD 0))).judgeTile t
    else s
  if s.gafferRuns then (s.headroom (2 * t) (bitsOf w1 0 16)).headroom (2 * t + 1) (bitsOf w1 16 16) else s

/-- TALLY_RESP_RX (R281). -/
def State.tallyRx (s : State) (t : Nat) (k : Packet) : State :=
  let (ok, s) := s.rxOk t k
  if !ok || 128 ≤ k.dst then s
  else
    let a := k.dst
    let s := s.checkEpoch t a k.epoch
    if !bit (s.dud t).live a then s.toReel2 t k
    else
      let w0 := k.words.getD 0 0
      let s := s.tallyReport t a w0 (k.words.getD 1 0)
      let d := s.dud t
      if d.round = 0 || !bit d.awaited a then s.toReel2 t k
      else
        let miss := match d.delivering with
          | some f => missingGroups f d.takes w0
          | none => 0
        let d := { d with awaited := without d.awaited (1 <<< a) }
        let s :=
          if miss = 0 then (s.setDud t d).fset (pgDud t) (DUD.SINK_B.MISSES a) 0
          else s.setDud t { d with incomplete := d.incomplete ||| 1 <<< a, missing := SMap.write 0 d.missing a miss }
        s.roundOver t

/-- The response timeout of a tally: the sinks awaited are silent (R281). -/
def State.tallyTimeout (s : State) (t : Nat) : State :=
  let d := s.dud t
  if d.round = 0 || d.awaited = 0 then s
  else
    let all := 2 ^ (4 * d.takes) - 1
    let miss := (sinksOf d.awaited).foldl (fun m a => SMap.write 0 m a all) d.missing
    (s.setDud t { d with incomplete := d.incomplete ||| d.awaited, awaited := 0, missing := miss }).roundOver t

/-! ### Delivery time and capabilities (R277, R282) -/

/-- Twice D of R282 in hundredths of a nanosecond, halved: D in hundredths of a nanosecond, for T takes. -/
def State.deliveryTime (s : State) (t takes : Nat) : Nat :=
  let p := pgDud t
  let n := 4 * takes * s.fget p DUD.STAT.SINKS
  let run := max 1 (s.fget p DUD.CTL.RUN)
  528 * 220 * (n + ceilDiv n run) + 2 * (100 * s.fget p DUD.RING.RTT_NS + 5 * 528 * s.fget p DUD.STAT.SINKS)

/-- `RING.D_US` for the mode in force (R282). -/
def State.showD (s : State) (t : Nat) : State :=
  s.fset (pgDud t) DUD.RING.D_US (min 0xFFFF (ceilDiv (s.deliveryTime t s.takes) 100000))

/-- CAPS from the sinks of a set (R277). -/
def State.showCaps (s : State) (t m : Nat) : State :=
  let p := pgDud t
  let ks := (sinksOf m).map (s.sink t)
  if ks.isEmpty then s
  else ((s.fset p DUD.CAPS.MIN_ROW (ks.foldl (fun v k => max v k.minRow) 0)).fset p DUD.CAPS.MAX_TAKES
    (ks.foldl (fun v k => min v k.maxTakes) 7)).fset p DUD.CAPS.MAX_SCAN_MUL (ks.foldl (fun v k => min v k.maxMul) 31)

/-- RTT as a QUERY has measured it (R277). -/
def State.showRtt (s : State) (t : Nat) (o : RingOp) : State :=
  if o.rttSink.isSome then s.fset (pgDud t) DUD.RING.RTT_NS (min 0xFFFF o.rtt) else s

/-! ### Operations (R277, R284, R287, R288, R296) -/

/-- RESULT shows the targets that answered OK (R284). -/
def State.showResult (s : State) (t m : Nat) : State := s.setMask (pgDud t) DUD.RESULT.SINKS m

/-- An ENUMERATE fails: the port stands in IDLE without sinks (R568). -/
def State.enumFail (s : State) (t reason : Nat) : State :=
  let s := s.setDud t { s.dud t with live := 0, lost := 0, owned := 0, rejoin := 0 }
  let s := (s.fset (pgDud t) DUD.STAT.SINKS 0).fset (pgDud t) DUD.STAT.STATE 1
  (s.showRing t).cmdFail (pgDud t) reason

/-- The sinks that answer are those at addresses 0 to S − 1 without gaps (R277). -/
def gapless (m : Nat) : Bool := m != 0 && m = 2 ^ (sinksOf m).length - 1

/-- The first failing check of R568 on some answers, without the looped ENUM. -/
def State.ringCheck (s : State) (t m : Nat) (addresses : Bool) : Option Nat :=
  if m = 0 then some 0x31
  else if (sinksOf m).any (fun a => (s.sink t a).cols ≠ 48 || (s.sink t a).rows ≠ 64) then some 0x32
  else if addresses && !gapless m then some 0x33
  else none

/-- A port has its ring: the sinks and what they can do are shown (R277). -/
def State.ringFound (s : State) (t : Nat) (o : RingOp) (m : Nat) : State :=
  let s := s.fset (pgDud t) DUD.STAT.SINKS (sinksOf m).length
  ((s.showRtt t o).showCaps t m).showD t

/-- A phase of ENUMERATE has its answers (R277, R568). -/
def State.enumPhase (s : State) (t : Nat) (o : RingOp) : State :=
  let p := pgDud t
  let m := o.answered
  match o.phase with
  | 0 =>
    match s.ringCheck t m false with
    | some r => s.enumFail t r
    | none =>
      let e := s.topEpoch t m + 1
      if 0xFFFF < e then s.enumFail t 0x34
      else
        let s := (s.fset p DUD.OWN.EPOCH e).ringSend t 0x07 (2 ^ 128 - 1) [0]
        s.startPhase t { o with phase := 1 }
  | 1 =>
    match s.ringCheck t m true with
    | some r => s.enumFail t r
    | none =>
      if s.fget p DUD.CTL.ROLE = 0 && o.looped ≠ some (sinksOf m).length then s.enumFail t 0x33
      else
        let s := s.ringFound t o m
        s.startPhase t { o with phase := 2, targets := some m }
  | 2 =>
    if o.targets = some m then s.startPhase t { o with phase := 3 } else s.enumFail t 0x30
  | _ =>
    if o.targets = some m then
      let s := s.setDud t { s.dud t with live := m, lost := 0, owned := m, rejoin := 0 }
      ((s.fset p DUD.STAT.STATE 3).showRing t).cmdDone p
    else s.enumFail t 0x30

/-- Ending an operation that a command started. -/
def State.endOp (s : State) (t : Nat) (byCommand ok : Bool) : State :=
  if byCommand then (if ok then s.cmdDone (pgDud t) else s.cmdFail (pgDud t) 0x30) else s

/-- After the CLAIM of a takeover: TALLY to every claimed sink for the frame in delivery, and a QUERY and a second CLAIM for
those that failed (R496). -/
def State.takeoverTally (s : State) (t : Nat) (o : RingOp) : State :=
  let rest := without (o.targets.getD 0) o.answered
  let s := if rest = 0 then s else s.startPhase t { kind := .claim 0 127 false, targets := some rest }
  if o.answered = 0 || !s.lightTile t then s
  else
    let s := s.setDud t { s.dud t with
      delivering := some ((s.frame + 65535) % 65536), takes := s.takes, complete := false }
    let s := { s with time := { s.time with frameAwaited := true } }
    ((s.setTileLive t true).showRing t).tallyRound t 1 o.answered

/-- A phase of CLAIM has its answers (R276, R287). -/
def State.claimPhase (s : State) (t : Nat) (o : RingOp) (byCommand : Bool) : State :=
  let p := pgDud t
  let m := o.targets.getD 0
  if o.phase = 0 then
    let e := s.topEpoch t m + 1
    if 0xFFFF < e then (if byCommand then s.cmdFail p 0x34 else s)
    else (s.fset p DUD.OWN.EPOCH e).startPhase t { o with phase := 1 }
  else
    let d := s.dud t
    let s := s.setDud t { d with
      live := d.live ||| o.answered, lost := without d.lost o.answered, owned := d.owned ||| o.answered }
    let back := s.splitRange t
    let s := if back != 0 && back &&& o.answered = back then
        ((s.fset p DUD.STAT.SPLIT 0).fset p DUD.SPLIT.LO 0).fset p DUD.SPLIT.HI 0
      else s
    let s := s.showRing t
    let s := if o.answered != 0 then s.evt p 12 else s
    let s := if o.passed = 0 then s else s.takeoverTally t o
    s.endOp t byCommand (o.targets = some o.answered)

/-- In LINKING a QUERY tells whether another device owns a sink: after the last ring's answers a PRIMARY enters ACTIVE, or
stays with PARTNER_OWNS (R478). -/
def State.linkingAnswer (s : State) (t answered : Nat) : State :=
  if s.pairState = 1 && bit s.pair.asking t then
    let other := (sinksOf answered).any (fun a => (s.sink t a).owned && (s.sink t a).owner ≠ s.deviceId)
    let asking := s.pair.asking - 1 <<< t
    let foreign := s.pair.foreign || other
    let s := { s with pair := { s.pair with asking := asking, foreign := foreign } }
    if asking ≠ 0 then s
    else if foreign then s.fset pgPair PAIR.STAT.NR_REASON 6
    else (s.setPairState 4).fset pgPair PAIR.STAT.NR_REASON 0
  else s

/-- A QUERY has its answers: CAPS, RTT and epochs are refreshed, and a TAIL port may come to READY (R277, R296). -/
def State.queryPhase (s : State) (t : Nat) (o : RingOp) (byCommand : Bool) : State :=
  let p := pgDud t
  let s := (((s.showRtt t o).showCaps t o.answered).showD t).linkingAnswer t o.answered
  if s.fget p DUD.CTL.ROLE = 2 && !s.enumerated t then
    match s.ringCheck t o.answered true with
    | some _ => s.endOp t byCommand false
    | none =>
      let s := (s.ringFound t o o.answered).fset p DUD.STAT.STATE 3
      (s.showRing t).endOp t byCommand true
  else s.endOp t byCommand (if o.targets.isSome then o.targets = some o.answered else o.answered != 0)

/-- A phase of readmission has its answers: the sinks that have passed go on (R288). -/
def State.readmitPhase (s : State) (t : Nat) (o : RingOp) (byCommand : Bool) : State :=
  let own := s.fget (pgDud t) DUD.OWN.EPOCH
  let split := s.splitRange t
  let s := if o.phase = 0 && split != 0 && split &&& o.answered = split && !(s.dud t).joinDue then
      (s.setDud t { s.dud t with joinDue := true }).mirrorActive
        (.split t (s.fget (pgDud t) DUD.SPLIT.LO) (s.fget (pgDud t) DUD.SPLIT.HI) true)
    else s
  let ok := if o.phase = 0 then
      maskOf ((sinksOf o.answered).filter (fun a => bit o.passed a &&
        ((s.sink t a).epoch ≤ own || !(s.sink t a).owned)))
    else o.answered
  if ok = 0 then s.endOp t byCommand false
  else if o.phase < 3 then s.startPhase t { o with phase := o.phase + 1, targets := some ok }
  else
    let d := s.dud t
    let s := s.setDud t { d with rejoin := d.rejoin ||| ok }
    s.endOp t byCommand ((s.dud t).rejoin = (s.dud t).lost)

/-- A phase of an operation has every answer it will get (R284). -/
def State.phaseEnd (s : State) (t : Nat) (o : RingOp) : State :=
  let s := s.showResult t o.answered
  match o.kind with
  | .enumerate => s.enumPhase t o
  | .claim _ _ c => s.claimPhase t o c
  | .query c => s.queryPhase t o c
  | .sendConfig _ => s.endOp t true (o.targets = some o.answered)
  | .readmit c => s.readmitPhase t o c
  | .slotMap _ => s.loseSinks t (without (o.targets.getD 0) o.answered)
  | .config => s
  | .dark => s

/-- Whether every target of a phase has answered. -/
def RingOp.full (o : RingOp) : Bool :=
  match o.targets with
  | some m => without m (o.answered ||| o.refused) = 0
  | none => false

/-- The first operation that awaits an answer of a type from a sink, with those before and after it. -/
def findOp (type a : Nat) : List RingOp → Option (List RingOp × RingOp × List RingOp)
  | [] => none
  | o :: r =>
    if o.expects = type && (match o.targets with
        | some m => bit m a
        | none => true) && !bit (o.answered ||| o.refused) a then some ([], o, r)
    else (findOp type a r).map (fun e => (o :: e.1, e.2))

/-- An answer for an operation comes in: OK or not, with a change that the operation notes (R284). -/
def State.opAnswer (s : State) (t type : Nat) (k : Packet) (ok : Bool) (f : RingOp → RingOp) : State :=
  let a := k.dst
  match findOp type a (s.dud t).ops with
  | none => s.toReel2 t k
  | some (pre, o, post) =>
    let o := f (if ok then { o with answered := o.answered ||| 1 <<< a } else { o with refused := o.refused ||| 1 <<< a })
    if o.full then (s.setDud t { s.dud t with ops := pre ++ post }).phaseEnd t o
    else s.setDud t { s.dud t with ops := pre ++ o :: post }

/-- The first operation that awaits answers of a type. -/
def findType (type : Nat) : List RingOp → Option (List RingOp × RingOp × List RingOp)
  | [] => none
  | o :: r => if o.expects = type then some ([], o, r) else (findType type r).map (fun e => (o :: e.1, e.2))

/-- The response timeout of a command: targets without an answer are sent it once more, by mask; the second time the phase
ends (R284). -/
def State.opTimeout (s : State) (t type : Nat) : State :=
  match findType type (s.dud t).ops with
  | none => s
  | some (pre, o, post) =>
    let silent := without (o.targets.getD 0) (o.answered ||| o.refused)
    if o.targets.isSome && silent != 0 && !o.retried then
      let s := s.sendPhase t o (some silent)
      s.setDud t { s.dud t with ops := pre ++ { o with retried := true } :: post }
    else (s.setDud t { s.dud t with ops := pre ++ post }).phaseEnd t o

/-- ACK_RX (R284). -/
def State.ackRx (s : State) (t : Nat) (k : Packet) : State :=
  let (ok, s) := s.rxOk t k
  if !ok || 128 ≤ k.dst then s
  else
    let w := k.words.getD 0 0
    (s.checkEpoch t k.dst k.epoch).opAnswer t (bitsOf w 8 8) k (bitsOf w 0 8 = 0) id

/-- What a QUERY_RESP records of its sink (R274, R277): the SERIAL is recorded at enumeration only. -/
def State.recordSink (s : State) (t : Nat) (k : Packet) (serial : Bool) : State :=
  let w0 := k.words.getD 0 0
  let w1 := k.words.getD 1 0
  let old := s.sink t k.dst
  s.setSink t k.dst { old with
    serial := if serial then k.words.getD 2 0 else old.serial
    epoch := k.epoch, owned := bit w1 16, owner := k.owner, side := bitsOf w1 17 1, minRow := bitsOf w1 0 16
    cols := bitsOf w0 40 8, rows := bitsOf w0 48 8, maxTakes := bitsOf w0 56 3, maxMul := bitsOf w0 59 5 }

/-- QUERY_RESP_RX (R277, R288): identity, capability, ownership and epoch. RTT is taken at the response of the farthest
sink: the highest address, or sink 0 for a TAIL port. -/
def State.queryRx (s : State) (t : Nat) (k : Packet) : State :=
  let (ok, s) := s.rxOk t k
  if !ok || 128 ≤ k.dst then s
  else
    let a := k.dst
    let tail := s.fget (pgDud t) DUD.CTL.ROLE = 2
    let fresh := s.fget (pgDud t) DUD.STAT.STATE = 2 || (tail && !s.enumerated t)
    let same := (s.sink t a).serial = k.words.getD 2 0
    let s := (s.recordSink t k fresh).checkEpoch t a k.epoch
    let now := s.mono
    s.opAnswer t 0x08 k true (fun o =>
      let far := match o.rttSink with
        | none => true
        | some b => if tail then a ≤ b else b ≤ a
      let o := if far then { o with rtt := now - o.sentAt, rttSink := some a } else o
      if same then { o with passed := o.passed ||| 1 <<< a } else o)

/-- ENUM_LOOPED_RX: the looped ENUM returns with its NEXT_ADDR (R277). -/
def State.enumLooped (s : State) (t : Nat) (k : Packet) : State :=
  let (ok, s) := s.rxOk t k
  if !ok then s
  else s.setDud t { s.dud t with ops := (s.dud t).ops.map (fun o =>
    if o.kind = .enumerate ∧ o.phase = 1 then { o with looped := some (k.words.getD 0 0 % 256) } else o) }

/-- RESPONSE_TIMEOUT for a request type (R281, R284). -/
def State.responseTimeout (s : State) (t type : Nat) : State :=
  if type = 0x0A then s.tallyTimeout t else s.opTimeout t type

/-- EVENT_RX: an EVENT of a sink goes to REEL2 (R379). -/
def State.eventRx (s : State) (t : Nat) (k : Packet) : State :=
  let (ok, s) := s.rxOk t k
  if ok then s.toReel2 t k else s

/-! ### Commands (R296) -/

/-- ENUMERATE starts: no sink is live or lost while it runs (R277). -/
def State.enumerateStart (s : State) (t : Nat) : State :=
  let s := (s.stopPort t).setDud t { (s.stopPort t).dud t with ops := [], live := 0, lost := 0, owned := 0, rejoin := 0 }
  let s := (s.fset (pgDud t) DUD.STAT.SINKS 0).fset (pgDud t) DUD.STAT.STATE 2
  (s.showRing t).startPhase t { kind := .enumerate }

/-- A QUERY starts: to the live sinks; without any, to those enumerated; else to whichever answers (R284). -/
def State.queryStart (s : State) (t : Nat) (byCommand : Bool) : State :=
  let d := s.dud t
  let m := if d.live != 0 then some d.live else if s.enumerated t then some (s.allSinks t) else none
  s.startPhase t { kind := .query byCommand, targets := m }

/-- A CLAIM starts: QUERY first, then the masked CLAIM (R287, R296). -/
def State.claimStart (s : State) (t lo hi : Nat) (byCommand : Bool) : State :=
  let m := sinkRange lo hi &&& s.allSinks t
  if m = 0 then s.endOp t byCommand false
  else s.startPhase t { kind := .claim lo hi byCommand, targets := some m }

/-- A readmission starts: READMIT queries every lost sink, the port itself those that do not wait to rejoin (R288). -/
def State.readmitStart (s : State) (t : Nat) (byCommand : Bool) : State :=
  let m := if byCommand then (s.dud t).lost else without (s.dud t).lost (s.dud t).rejoin
  if m = 0 then s else s.startPhase t { kind := .readmit byCommand, targets := some m }

/-- SEND_CONFIG; how many entries a count outside 1 to 8 stands for the spec leaves open (R296). -/
def State.sendConfigStart (s : State) (t n : Nat) : State :=
  let p := pgDud t
  let m := s.getMask p DUD.SC_MASK.SINKS
  if m = 0 then s.cmdFail p 0x35
  else
    let (f, s) := s.fresh 3
    let n := if 1 ≤ n ∧ n ≤ 8 then n else f.toNat + 1
    s.startOn t (.sendConfig ((List.range n).map (fun i => (s.fget p (DUD.SC_REG.REG i), s.fget p (DUD.SC_DATA.DATA i))))) m

/-- AUTO_READMIT: once a second a QUERY goes to each lost sink (R288). -/
def State.autoReadmit (s : State) (t : Nat) : State :=
  if s.fbit (pgDud t) DUD.CTL.AUTO_READMIT && s.domOn (15 + portGroup t) &&
      !(s.dud t).ops.any (fun o => o.kind = .readmit false || o.kind = .readmit true) then s.readmitStart t false
  else s

/-- The pair mode of a device: it has a partner (R476). -/
def State.paired (s : State) : Bool := s.fget pgPair PAIR.CFG.ROLE != 0

/-- IDLE_FRAMESET: a HEAD port of the ACTIVE device that has sent nothing for 100 µs names the next frame (R493). -/
def State.idleFrameset (s : State) (t : Nat) : State :=
  if s.pairActive && s.fget (pgDud t) DUD.CTL.ROLE = 1 then
    let s := s.advanceTo ((s.dud t).lastTx + 100000)
    s.ringSend t 0x09 (2 ^ 128 - 1) [(s.frame + 1) % 65536]
  else s

/-- RING_LOCK_LOSS: the receiver of a port loses block lock; no answer comes in any more, and the timeouts decide
(R262, R286). -/
def State.ringLockLoss (s : State) (t : Nat) : State := s.setDud t { s.dud t with locked := false }

/-- The block commit reasons of R295. -/
def State.dudReasons (s : State) (ps : List Nat) (t : Nat) : List Nat :=
  let p := pgDud t
  let g (f : Fld) := s.vget ps p f
  let en := bit (s.vget ps pgSys SYS.FIELD_CFG.TILE_EN) t
  reasons [(g DUD.CTL.ROLE = 3 || (g DUD.CTL.ROLE ≠ s.fget p DUD.CTL.ROLE && en), 0x10),
    (g DUD.WATCH.US < 84000 || 1000000 < g DUD.WATCH.US, 0x11),
    (g DUD.CTL.RUN = 0 || g DUD.CTL.MISS_FRAMES = 0, 0x12)]

/-- A DUD commit has applied: a changed WATCH_US goes to every live sink (R294). -/
def State.dudApplied (s old : State) (t : Nat) : State :=
  let s := if s.fget (pgDud t) DUD.WATCH.US ≠ old.fget (pgDud t) DUD.WATCH.US then s.startOn t .config (s.dud t).live else s
  s.showD t

/-! ### At a boundary (R16, R280, R288, R500, R569) -/

/-- Readmitted sinks rejoin the schedule (R288). -/
def State.rejoinSinks (s : State) (t : Nat) : State :=
  let d := s.dud t
  let m := d.rejoin &&& d.lost
  if m = 0 then s
  else
    let s := s.setDud t { d with live := d.live ||| m, lost := without d.lost m, owned := d.owned ||| m, rejoin := 0 }
    let s := (sinksOf m).foldl (fun s a => s.fset (pgDud t) (DUD.SINK_B.MISSES a) 0) s
    (s.showRing t).evt (pgDud t) 11

/-- A port at the boundary that opens frame `n`: a disabled tile goes dark, readmitted sinks rejoin, and the codes of frame
`n` − 1 are delivered when their boundary found the group in PERMIT; `codes` tells whether they are complete, `takes` is
the T they were computed with (R16, R280, R569). -/
def State.portBoundary (s : State) (t n takes : Nat) (codes : Bool) : State :=
  let d := s.dud t
  let s := s.setDud t { d with
    delivering := none, round := 0, awaited := 0, incomplete := 0, missing := [], complete := false }
  let s := s.rejoinSinks t
  let s := if (s.dud t).joinDue && s.pairShadow then s.disown t
    else if (s.dud t).joinDue then
      (s.setDud t { s.dud t with joinDue := false }).claimStart t (s.fget (pgDud t) DUD.SPLIT.LO)
        (s.fget (pgDud t) DUD.SPLIT.HI) false
    else s
  if (s.dud t).darkDue then
    let s := ((s.stopPort t).startOn t .dark (s.dud t).live)
    (s.setDud t { s.dud t with darkDue := false }).showRing t
  else if codes && (s.dud t).live != 0 && s.domOn (15 + portGroup t) && bit s.safe.permitPrev (t / 4) &&
      s.lightTile t && (s.pairState = 0 || s.pairState = 3 || s.pairState = 4) then
    let k := (n + 65535) % 65536
    let s := s.setDud t { s.dud t with delivering := some k, takes := takes }
    let s := { s with time := { s.time with frameAwaited := true } }
    let s := (s.setTileLive t true).showRing t
    s.sendDrives t k (driveList takes ((sinksOf (s.dud t).live).map (fun a => (a, 2 ^ (4 * takes) - 1))))
  else s

/-- FRAMESET in the blanking of every frame, and the slot map of a new mode with its APPLY (R283). -/
def State.portBlanking (s : State) (t : Nat) (apply : Option Nat) : State :=
  let d := s.dud t
  let st := s.fget (pgDud t) DUD.STAT.STATE
  if d.live = 0 || !s.domOn (15 + portGroup t) || st < 3 || 5 < st then s
  else
    let s := s.ringSend t 0x09 (2 ^ 128 - 1) [(s.frame + 1) % 65536]
    match apply with
    | some a => s.startOn t (.slotMap a) d.live
    | none => s

end Sys2Proof.Machine
end

