-- ==== Sys2Proof/Machine/Diag.lean ====
section
/-! DEFINITION. Emitter diagnosis (R300 to R324, R501): the status map, results and verdicts, probes, the fault list and
its reports. -/

namespace Sys2Proof.Machine

/-! ### Emitters and the map (R301 to R303) -/

/-- The index of an emitter by tile, sink, row and channel (R21). -/
def State.emIdx (s : State) (t a row c : Nat) : Nat := emitterIndex s.dual ⟨t, a, row, c⟩

/-- The key of a sink. -/
def sinkKey (t a : Nat) : Nat := 128 * t + a

/-- The map block of an emitter. -/
def State.mapBlock (s : State) (e : Nat) : Nat := s.fget pgDiag DIAG.MAP_BASE.BASE + e / 8

/-- The record of an emitter; none while MEM does not serve. A damaged block is rewritten first (R303). -/
def State.record (s : State) (e : Nat) : Option Nat × State :=
  if !s.memOnline then (none, s)
  else
    let s := s.diagDamage (s.mapBlock e)
    (s.readNat (s.fget pgDiag DIAG.MAP_TAG.TAG) (32 * s.fget pgDiag DIAG.MAP_BASE.BASE + 4 * e) 4, s)

/-- Writing the record of an emitter. -/
def State.setRecord (s : State) (e v : Nat) : State :=
  let b := s.mapBlock e
  s.admitWrite 0x1A b (putBits (s.block b).data (32 * (e % 8)) 32 v) (s.fget pgDiag DIAG.MAP_TAG.TAG) false

/-- The fields of a record (R301). -/
def recCode (v : Nat) : Nat := bitsOf v 0 2
def recAge (v : Nat) : Nat := bitsOf v 2 8
def recSuspect (v : Nat) : Nat := bitsOf v 10 2
def recPend (v : Nat) : Bool := bit v 12
def recBase (v : Nat) : Nat := bitsOf v 16 12

/-- A record of its fields. -/
def recOf (code age suspect : Nat) (pend : Bool) (base : Nat) : Nat :=
  code % 4 + age % 256 * 4 + suspect % 4 * 2 ^ 10 + b2n pend * 2 ^ 12 + base % 4096 * 2 ^ 16

/-- The record of INIT_MAP: CODE 0, AGE 255, PEND 0, BASE 0. -/
def recInit : Nat := recOf 0 255 0 false 0

/-- The verdict of a record (R302). -/
def State.verdict (s : State) (v : Nat) : Nat :=
  if recCode v = 1 || recCode v = 2 then recCode v
  else if s.fget pgDiag DIAG.TIMING.STALE_S ≤ recAge v then 4 else recCode v

/-! ### Reports (R316 to R318) -/

/-- A report is held until its reel takes it; with 256 held it is dropped and counted (R317). -/
def State.diagReport (s : State) (kind t a row c w1 : Nat) : State :=
  if 256 ≤ s.diag.reports.length then s.finc pgDiag DIAG.DROPS.REPORT_DROP
  else
    let w := [kind + t * 2 ^ 4 + a * 2 ^ 8 + row * 2 ^ 16 + c * 2 ^ 22, w1 % 2 ^ 32, s.now % 2 ^ 32, s.now / 2 ^ 32 % 2 ^ 32]
    { s with diag := { s.diag with reports := s.diag.reports ++ [w] } }

/-- A change of verdict is reported, except into or out of UNVERIFIED (R318). -/
def State.reportVerdict (s : State) (e old new : Nat) : State :=
  if old = new || old = 4 || new = 4 then s
  else
    let m := emitterOf s.dual e
    (s.diagReport 1 m.tile m.sink m.row m.chan (e + old * 2 ^ 23 + new * 2 ^ 26)).evt pgDiag 8

/-- DIAG_REPORT_WRITE: the oldest held report goes to its reel when the queue has room (R317). -/
def State.diagReportWrite (s : State) : State :=
  match s.diag.reports with
  | [] => s
  | r :: rest =>
    let q := s.fget pgDiag DIAG.REPORT.QUEUE
    if 5 ≤ s.reelSpace q then
      ({ s with diag := { s.diag with reports := rest } }).reelPush q 0x1A r
    else s

/-! ### The fault list (R315) -/

/-- The list with every posted change. -/
def State.listAhead (s : State) : SMap Nat :=
  s.diag.posted.foldl (fun l c => SMap.write 0 l c.emitter c.code) s.diag.inForce

/-- A change is posted, and mirrored (R315, R488). -/
def State.postChange (s : State) (e code : Nat) (now : Bool) : State :=
  let c : ListChange := { emitter := e, code := code, at_ := if now then 0 else s.mono }
  let s := { s with diag := { s.diag with posted := s.diag.posted ++ [c] } }
  s.mirrorActive (.list_ e (code = 2) (code = 0) (if now then (s.frame + 1) % 65536 else s.postFrame))

/-- An emitter confirmed OPEN or SHORT is posted into the list, if the list has room (R315). -/
def State.postInto (s : State) (e code : Nat) (now : Bool) : State :=
  let l := s.listAhead
  if SMap.read 0 l e = code then s
  else if l.length < 4096 || SMap.read 0 l e != 0 then s.postChange e code now
  else
    let m := emitterOf s.dual e
    let s := (s.finc pgDiag DIAG.DROPS.LIST_OVF).evt pgDiag 9
    (s.diagReport 5 m.tile m.sink 0 0 e).reportDrop pgDiag

/-- An emitter is posted out of the list. -/
def State.postOut (s : State) (e : Nat) (now : Bool) : State :=
  if SMap.read 0 s.listAhead e = 0 then s else s.postChange e 0 now

/-- The list follows a CODE. -/
def State.postCode (s : State) (e code : Nat) : State :=
  if code = 1 || code = 2 then s.postInto e code false else s.postOut e false

/-- At the boundary that opens frame `n`: changes posted at least 4 µs before it come into force (R315, R488). -/
def State.listBoundary (s : State) (n : Nat) : State :=
  let applies (c : ListChange) : Bool := match c.frame with
    | some f => f = n
    | none => c.at_ + 4000 ≤ s.mono
  let ready := s.diag.posted.filter applies
  let l := ready.foldl (fun l c => SMap.write 0 l c.emitter c.code) s.diag.inForce
  let s := { s with diag := { s.diag with inForce := l, posted := s.diag.posted.filter (fun c => !applies c) } }
  (s.fset pgDiag DIAG.LIST_STAT.COUNT l.length).fsetB pgDiag DIAG.LIST_STAT.FULL (l.length = 4096)

/-- LIST_ENTRY shows the entry that LIST_IDX names (R321). -/
def State.listEntry (s : State) : Nat :=
  match s.diag.inForce[s.fget pgDiag DIAG.LIST_IDX.INDEX]? with
  | some (e, code) => e + b2n (code = 2) * 2 ^ 23 + 2 ^ 31
  | none => 0

/-! ### Results (R304 to R308, R312) -/

/-- The window code *W*ⱼ (R304): ⌈150 ns × 65,536 × 64 / LENGTHⱼ⌉, with LENGTH counted in 1/64 ns. -/
def State.windowCode (s : State) (j : Nat) : Nat := ceilDiv (150 * 65536 * 64 * 64) (s.slotLength j)

/-- The range to which a measurement of frame `f`, requested in frame `req`, is attributed (R306). -/
def State.attributed (s : State) (e f req : Nat) : Option Nat :=
  if (f + 1) % 65536 ≠ req ∧ f ≠ req then none
  else match s.diag.held.find? (fun h => h.frame = f) with
    | none => none
    | some h =>
      let codes := (List.range s.takes).map (fun j => (j, SMap.read 3 h.codes (4 * e + j)))
      let lit := (codes.filter (fun c => s.windowCode c.1 ≤ c.2 / 4)).map (fun c => c.2 % 4)
      match lit with
      | [] => none
      | r :: rest => if rest.all (· = r) then some r else none

/-- OFS*c*,*r* (R307, R321). -/
def State.vfOfs (s : State) (c r : Nat) : Int :=
  if r = 0 then 0
  else s.fgetI pgDiag ⟨0x060 + 4 * c, 10 * (r - 1), 10⟩

/-- The normalised voltage *V*ₙ (R307). -/
def State.normalised (s : State) (t c r vf : Nat) : Int :=
  let tc := s.fgetI pgDiag ⟨0x05C, 10 * c, 10⟩
  (vf : Int) - s.vfOfs c r - rshift (tc * (s.tileTemp t - 400)) 8

/-- The kinds of a result (R301): 0 PASS, 1 OPEN, 2 SHORT, 3 DRIFT; with the baseline that an attributed PASS learns. -/
def State.classify (s : State) (e flag vf base : Nat) (range : Option Nat) : Option Nat × Nat :=
  let m := emitterOf s.dual e
  let c := (pixelOf s.dual m).colour
  if flag = 2 then (some 1, base)
  else if flag = 3 then (some 2, base)
  else if flag = 1 then (none, base)
  else match range with
    | none => (some 0, base)
    | some r =>
      let v := s.normalised m.tile c r vf
      if base = 0 then (some 0, if 1 ≤ v ∧ v ≤ 4095 then v.toNat else 0)
      else if !s.fbit pgDiag DIAG.CTL.DRIFT_EN then (some 0, base)
      else if (v - base).natAbs ≤ s.fget pgDiag ⟨0x06C, 10 * c, 10⟩ then (some 0, base)
      else (some 3, base)

/-- The procedure "apply one result of kind k" on a record (R308); the codes of kinds and targets agree. -/
def applyResult (v k base : Nat) : Nat :=
  if recCode v = k then recOf (recCode v) 0 0 false base
  else if recPend v && recSuspect v = k then recOf k 0 0 false base
  else recOf (recCode v) 0 k true base

/-- One result reaches its record; a change of CODE is posted and reported (R308, R315, R318). -/
def State.result (s : State) (e flag vf : Nat) (range : Option Nat) : State :=
  let (v, s) := s.record e
  match v with
  | none => s
  | some v =>
    let (k, base) := s.classify e flag vf (recBase v) range
    match k with
    | none => s
    | some k =>
      let new := applyResult v k base
      let s := s.setRecord e new
      if recCode new = recCode v then s
      else (s.postCode e (recCode new)).reportVerdict e (recCode v) (recCode new)

/-! ### Probes (R310 to R312) -/

/-- The state as it stood with the MATTE values of the frame before this one (R310). -/
def State.withMattePrev (s : State) : State :=
  let lo := addrOf pgMatte 0
  let hi := addrOf (pgMatte + 1) 0
  { s with pages := { s.pages with
      eff := s.diag.mattePrev.foldl (fun m e => SMap.put m e.1 e.2) (SMap.clear s.pages.eff lo hi) } }

/-- The probe-take condition of R310. -/
def State.probeTakeOk (s : State) : Bool :=
  let j := s.fget pgDiag DIAG.PROBE_CFG.TAKE
  j < s.takes && !s.fbit pgTime (TIME.SLOT.FOLLOW j) && s.fget pgTime TIME.MODE_STAT.STAGE = 0

/-- An emitter is eligible for a probe in the next frame (R310). -/
def State.eligible (s : State) (e : Nat) : Bool :=
  let m := emitterOf s.dual e
  let px := pixelOf s.dual m
  let old := s.withMattePrev
  let dark := match old.limitOf (pixelIndex px.x px.y) px.bank with
    | .dark => true
    | _ => false
  let zone := match old.matteEntry (pixelIndex px.x px.y) px.bank with
    | some v => (old.zoneOf v).isSome
    | none => true
  s.fbit pgDiag DIAG.CTL.PROBE_EN && s.lightTile m.tile && bit (s.dud m.tile).live m.sink &&
    bit (s.fget pgSys SYS.FIELD_CFG.TILE_EN) m.tile && s.probeTakeOk && !dark && !zone &&
    old.gain (s.fget pgDiag DIAG.PROBE_CFG.TAKE) px.bank != 0

/-- The order in which due emitters wait: second probes first, then by AGE, highest first (R311). -/
def dueBefore (a b : DueProbe) : Bool := (a.second && !b.second) || (a.second = b.second && b.age < a.age)

/-- Inserting a due emitter at its place. -/
def insertDue (x : DueProbe) : List DueProbe → List DueProbe
  | [] => [x]
  | y :: r => if dueBefore x y then x :: y :: r else y :: insertDue x r

/-- Marking an emitter due, once. -/
def State.markDue (s : State) (e age : Nat) (second : Bool) : State :=
  let l := s.diag.due.filter (fun d => d.emitter ≠ e)
  { s with diag := { s.diag with due := insertDue ⟨e, age, second⟩ l } }

/-- The payload of PROBE (R272, R311). -/
def State.probeWords (s : State) (f : Nat) (es : List Emitter) : List Nat :=
  let j := s.fget pgDiag DIAG.PROBE_CFG.TAKE
  let entries := es.zipIdx.foldl (fun n e => n + (e.1.row + e.1.chan * 64) * 2 ^ (16 * e.2)) 0
  (f + j * 2 ^ 16 + s.slotLength j / 128 * 2 ^ 32) ::
    (List.range (ceilDiv es.length 4)).map (fun w => bitsOf entries (64 * w) 64)

/-- One PROBE packet: the due emitters of the sink of the first of them, at most 64 (R311). -/
def State.sendProbe (s : State) (t : Nat) (d : DueProbe) : State :=
  let m := emitterOf s.dual d.emitter
  let f := (s.frame + 1) % 65536
  let free (x : DueProbe) : Bool :=
    let n := emitterOf s.dual x.emitter
    n.tile = t && n.sink = m.sink && SMap.read none s.diag.inFlight x.emitter ≠ some f && s.eligible x.emitter
  let xs := (s.diag.due.filter free).take 64
  if xs.isEmpty then s
  else
    let s := s.ringSend t 0x04 (1 <<< m.sink) (s.probeWords f (xs.map (fun x => emitterOf s.dual x.emitter)))
    let g := s.diag
    { s with diag := { g with
        due := g.due.filter (fun (x : DueProbe) => !xs.contains x)
        inFlight := xs.foldl (fun l (x : DueProbe) => SMap.write none l x.emitter (some f)) g.inFlight
        probesSent := SMap.write 0 g.probesSent t (SMap.read 0 g.probesSent t + 1) } }.fadd pgDiag DIAG.PROBES.COUNT xs.length

/-- The due emitters of a tile are probed, as far as 32 packets a frame allow; one that is not eligible is not probed, and
it ages (R310, R311). -/
def State.sendProbes (s : State) (t : Nat) : State :=
  let mine (d : DueProbe) : Bool := (emitterOf s.dual d.emitter).tile = t
  let s := { s with diag := { s.diag with due := s.diag.due.filter (fun d => !mine d || s.eligible d.emitter) } }
  (s.diag.due.filter mine).foldl (fun s d =>
    if s.diag.due.contains d && SMap.read 0 s.diag.probesSent t < 32 then s.sendProbe t d else s) s

/-! ### Requests and responses (R273, R305, R307, R312) -/

/-- DIAG_REQ for some rows of a sink. -/
def State.diagRequest (s : State) (t a rows : Nat) : State :=
  if rows = 0 then s
  else
    let s := s.ringSend t 0x05 (1 <<< a) [rows]
    let g := s.diag
    { s with diag := { g with
        requests := g.requests ++ [⟨t, a, rows, s.frame⟩]
        asked := SMap.write 0 g.asked (sinkKey t a) (SMap.read 0 g.asked (sinkKey t a) + 1) } }

/-- Rows in masks of at most 8. -/
def rowMasks (rows : List Nat) : List Nat :=
  (List.range (ceilDiv rows.length 8)).map (fun i => maskOf ((rows.drop (8 * i)).take 8))

/-- One entry of a DIAG_RESP of frame `f`, requested in frame `req` (R307, R312). -/
def State.diagEntry (s : State) (e f req entry : Nat) : State :=
  let flag := bitsOf entry 12 2
  let vf := bitsOf entry 0 12
  match SMap.read none s.diag.inFlight e with
  | some p =>
    if p = f then
      let s := { s with diag := { s.diag with inFlight := SMap.write none s.diag.inFlight e none } }
      if flag = 1 then s.finc pgDiag DIAG.MISS.PROBE_MISS
      else
        let s := s.result e flag vf (some 3)
        let (v, s) := s.record e
        match v with
        | some v => if recPend v && (recSuspect v = 1 || recSuspect v = 2) then s.markDue e (recAge v) true else s
        | none => s
    else s.result e flag vf (s.attributed e f req)
  | none => s.result e flag vf (s.attributed e f req)

/-- A response that names a frame more than 4 frames before its request (R307). -/
def staleFrame (f req : Nat) : Bool :=
  let d := (req + 65536 - f) % 65536
  4 < d && d < 32768

/-- A DIAG_RESP of a sink is taken in (R307, R309, R501). -/
def State.diagTake (s : State) (t a req : Nat) (words : List Nat) : State :=
  let w0 := words.getD 0 0
  let row := bitsOf w0 0 6
  let f := bitsOf w0 6 16
  let s := { s with diag := { s.diag with
    answered := SMap.write 0 s.diag.answered (sinkKey t a) (SMap.read 0 s.diag.answered (sinkKey t a) + 1) } }
  if bit s.diag.initTiles t || staleFrame f req || SMap.read none s.diag.otFrame (sinkKey t a) = some f then s
  else
    let s := (List.range 48).foldl (fun s c =>
      s.diagEntry (s.emIdx t a row c) f req (bitsOf (words.getD (1 + c / 4) 0) (16 * (c % 4)) 16)) s
    s.sendProbes t

/-- DIAG_RESP_RX: a response that DIAG awaits; a SHADOW device passes it to its partner instead (R307, R501). -/
def State.diagRx (s : State) (t : Nat) (k : Packet) : State :=
  let (ok, s) := s.rxOk t k
  if !ok || 128 ≤ k.dst then s
  else
    let a := k.dst
    let s := s.checkEpoch t a k.epoch
    let row := bitsOf (k.words.getD 0 0) 0 6
    match s.diag.requests.find? (fun r => r.tile = t ∧ r.sink = a ∧ bit r.rows row) with
    | none => s.toReel2 t k
    | some r =>
      let r' := { r with rows := r.rows &&& (2 ^ 64 - 1 - 1 <<< row) }
      let rest := s.diag.requests.erase r
      let s := { s with diag := { s.diag with requests := if r'.rows = 0 then rest else r' :: rest } }
      if s.pairShadow then s.mirror (.diagResp t a k.words) else s.diagTake t a r.frame k.words

/-- The response timeout of DIAG_REQ: the oldest request of the port is unanswered (R281, R321). -/
def State.diagTimeout (s : State) (t : Nat) : State :=
  match s.diag.requests.find? (fun r => r.tile = t) with
  | none => s
  | some r => { s with diag := { s.diag with requests := s.diag.requests.erase r } }.finc pgDiag DIAG.MISS.RESP_MISS

/-! ### Visits (R305, R308, R310) -/

/-- The rows of a visit age, and an emitter that the full list left out is posted when it has room; due emitters are
marked (R308, R310, R315). -/
def State.visitEmitter (s : State) (asked : Bool) (e : Nat) : State :=
  let (v, s) := s.record e
  match v with
  | none => s
  | some v =>
    let sweep := s.fget pgDiag DIAG.TIMING.SWEEP_S
    let age := min (recAge v + sweep) 255
    let s := s.setRecord e (recOf (recCode v) age (recSuspect v) (recPend v) (recBase v))
    let s := if (recCode v = 1 || recCode v = 2) && SMap.read 0 s.listAhead e = 0 && s.listAhead.length < 4096 then
        s.postInto e (recCode v) false
      else s
    if asked && s.fget pgDiag DIAG.TIMING.PROBE_PERIOD_S ≤ age + sweep && s.eligible e then s.markDue e age false else s

/-- The end of a sweep: sink faults, the counts of R318, and SWEEP_DONE (R316, R318). -/
def State.sweepEnd (s : State) : State :=
  let sinks := (List.range 2048).filter (fun k => k % 128 < sinksPerRing s.dual)
  let fault (s : State) (kind k count : Nat) : State :=
    if count = 0 then s else (s.diagReport kind (k / 128) (k % 128) 0 0 (min count 0xFFFF)).evt pgDiag 10
  let s := sinks.foldl (fun s k =>
    let asked := SMap.read 0 s.diag.asked k
    let s := fault s 2 k (if SMap.read 0 s.diag.answered k = 0 then asked else 0)
    let s := fault s 3 k (SMap.read 0 s.diag.crcSeen k)
    fault s 4 k (SMap.read 0 s.diag.otSeen k)) s
  let es := s.diag.visited.flatMap (fun r => (bitsSet r.2 64).flatMap (fun row =>
    (List.range 48).map (fun c => s.emIdx (r.1 / 128) (r.1 % 128) row c)))
  let counts := es.foldl (fun (l : SMap Nat) e => match (s.record e).1 with
    | some v => SMap.write 0 l (s.verdict v) (SMap.read 0 l (s.verdict v) + 1)
    | none => l) []
  let s := [DIAG.CNT_OK.COUNT, DIAG.CNT_OPEN.COUNT, DIAG.CNT_SHORT.COUNT, DIAG.CNT_DEGRADED.COUNT,
    DIAG.CNT_UNVERIFIED.COUNT].zipIdx.foldl (fun s f => s.fset pgDiag f.1 (SMap.read 0 counts f.2)) s
  let s := { s with diag := { s.diag with visited := [], asked := [], answered := [], crcSeen := [], otSeen := [] } }
  (s.fwrap pgDiag DIAG.STAT.SWEEPS).evt pgDiag 12

/-- Visits are made by a device that is unpaired, ACTIVE, or owns a split range (R305, R489, R501). -/
def State.diagVisits (s : State) : Bool :=
  s.fbit pgDiag DIAG.CTL.EN && (s.pairState = 0 || s.pairActive || s.pairShadow)

/-- DIAG_VISIT: at most 8 rows of a sink of an enabled tile; `last` ends the sweep (R305). -/
def State.diagVisit (s : State) (t a rows : Nat) (last : Bool) : State :=
  if !s.diagVisits || !bit (s.fget pgSys SYS.FIELD_CFG.TILE_EN) t || sinksPerRing s.dual ≤ a || 8 < (bitsSet rows 64).length ||
      (s.pairShadow && !bit (s.dud t).live a) then s
  else
    let s :=
      if bit s.diag.initTiles t then s
      else
        let asked := bit (s.dud t).live a && s.domOn (15 + portGroup t)
        let s := { s with diag := { s.diag with
          visited := SMap.write 0 s.diag.visited (sinkKey t a) (SMap.read 0 s.diag.visited (sinkKey t a) ||| rows) } }
        let s := (bitsSet rows 64).foldl (fun s row =>
          (List.range 48).foldl (fun s c => s.visitEmitter asked (s.emIdx t a row c)) s) s
        if asked then (s.diagRequest t a rows).sendProbes t else s
    if last then s.sweepEnd else s

/-! ### Commands (R319, R323) -/

/-- The emitters of some tiles. -/
def State.emittersOfTiles (s : State) (tiles : Nat) : List Nat :=
  let n := sinksPerRing s.dual * 3072
  (bitsSet tiles 16).flatMap (fun t => (List.range n).map (fun i => t * n + i))

/-- INIT_MAP_DONE (R319, R323). -/
def State.initMapDone (s : State) : State :=
  if !s.running pgDiag 0x10 then s
  else
    let tiles := s.diag.initTiles
    let s := (s.emittersOfTiles tiles).foldl (fun s e => (s.setRecord e recInit).postOut e true) s
    let covered := s.diag.covered ||| tiles
    let s := { s with diag := { s.diag with covered := covered, initTiles := 0 } }
    let s := if covered = 0xFFFF then s.fset pgDiag DIAG.STAT.MAP_OK 1 else s
    (s.fset pgDiag DIAG.STAT.CMD_RUN 0).cmdDone pgDiag

/-- BUILD_LIST_DONE (R319, R323). -/
def State.buildListDone (s : State) : State :=
  if !s.running pgDiag 0x11 then s
  else
    let s := (s.emittersOfTiles 0xFFFF).foldl (fun s e =>
      let (v, s) := s.record e
      match v with
      | some v => if recCode v = 1 || recCode v = 2 then s.postInto e (recCode v) true else s.postOut e true
      | none => s) s
    ((s.fset pgDiag DIAG.STAT.MAP_OK 1).fset pgDiag DIAG.STAT.CMD_RUN 0).cmdDone pgDiag

/-- RELEARN (R323). -/
def State.relearn (s : State) (tiles : Nat) : State :=
  (s.emittersOfTiles tiles).foldl (fun s e =>
    let (v, s) := s.record e
    match v with
    | some v =>
      let new := recOf (if recCode v = 3 then 0 else recCode v) (recAge v) 0 false 0
      (s.setRecord e new).reportVerdict e (s.verdict v) (s.verdict new)
    | none => s) s

/-- CLEAR_VERDICT (R323). -/
def State.clearVerdict (s : State) (e : Nat) : State :=
  let (v, s) := s.record e
  match v with
  | some v => (s.setRecord e (recOf 0 255 0 false (recBase v))).postOut e true
  | none => s.postOut e true

/-! ### Commits and boundaries -/

/-- The block commit reasons of R322. -/
def State.diagReasons (s : State) (ps : List Nat) : List Nat :=
  let g (f : Fld) := s.vget ps pgDiag f
  let base := g DIAG.MAP_BASE.BASE
  let sw := g DIAG.TIMING.SWEEP_S
  let pp := g DIAG.TIMING.PROBE_PERIOD_S
  let st := g DIAG.TIMING.STALE_S
  let take := g DIAG.PROBE_CFG.TAKE
  reasons [(dramBlocks < base + 786432 || overlaps base 786432 (s.fget pgCad CAD.REGION.BASE) regionBlocks ||
      overlaps base 786432 (s.fget pgMatte MATTE.BASE.BASE) 262144, 0x10),
    ((s.changes pgDiag DIAG.MAP_BASE.BASE || s.changes pgDiag DIAG.MAP_TAG.TAG) && s.anyTileLive, 0x11),
    (sw < 1 || 8 < sw || pp < 2 || 120 < pp || st < 2 || 254 < st || st ≤ pp + sw ||
      pp * 2048 * 1000000000 * 65536 < 3072 * sinksPerRing s.dual * s.period, 0x12),
    (s.takes ≤ take || s.fbit pgTime (TIME.SLOT.FOLLOW take), 0x13),
    (g DIAG.CTL.EN = 1 && !s.fbit pgDiag DIAG.CTL.EN && !s.fbit pgDiag DIAG.STAT.MAP_OK, 0x14),
    (g DIAG.DRIFT.R = 0 || g DIAG.DRIFT.G = 0 || g DIAG.DRIFT.B = 0, 0x15)]

/-- A DIAG commit has applied: a new place of the map has to be covered anew (R319). -/
def State.diagApplied (s old : State) : State :=
  if s.fget pgDiag DIAG.MAP_BASE.BASE ≠ old.fget pgDiag DIAG.MAP_BASE.BASE ||
      s.fget pgDiag DIAG.MAP_TAG.TAG ≠ old.fget pgDiag DIAG.MAP_TAG.TAG then
    { s.fset pgDiag DIAG.STAT.MAP_OK 0 with diag := { s.diag with covered := 0 } }
  else s

/-- PROBE_BLOCKED follows the probe-take condition (R321, R324). -/
def State.probeBlocked (s : State) : State :=
  let b := !s.probeTakeOk
  let was := s.fbit pgDiag DIAG.STAT.PROBE_BLOCKED
  let s := s.fsetB pgDiag DIAG.STAT.PROBE_BLOCKED b
  if b && !was then s.evt pgDiag 11 else s

/-- Rows probed in the frame before `n` are requested in it (R312). -/
def State.probeRequests (s : State) (n : Nat) : State :=
  let hot := (s.diag.inFlight.filter (fun e => e.2 = some ((n + 65535) % 65536))).map (fun e => emitterOf s.dual e.1)
  (List.range 2048).foldl (fun s k =>
    let rows := (List.range 64).filter (fun r => hot.any (fun m => sinkKey m.tile m.sink = k && m.row = r))
    (rowMasks rows).foldl (fun s m => s.diagRequest (k / 128) (k % 128) m) s) s

/-- DIAG before the commits of a boundary: MATTE values of the frame that ends are kept (R310). -/
def State.keepMatte (s : State) : State :=
  { s with diag := { s.diag with mattePrev := SMap.range s.pages.eff (addrOf pgMatte 0) (addrOf (pgMatte + 1) 0) } }

/-- DIAG at the boundary that opens frame `n`, after the commits: the list, the codes that the ports send in this frame and
that are lit in frame `n` + 1, and the rows probed before (R306, R312, R315). -/
def State.diagBoundary (s : State) (n : Nat) : State :=
  let s := s.listBoundary n
  let s :=
    if (List.range 16).any (fun t => (s.dud t).delivering.isSome) then
      { s with diag := { s.diag with held := (⟨(n + 1) % 65536, s.cad.shown⟩ :: s.diag.held).take 4 } }
    else s
  let s := { s with diag := { s.diag with probesSent := [] } }
  let s := s.probeBlocked
  if s.diagVisits then (List.range 16).foldl State.sendProbes (s.probeRequests n) else s

end Sys2Proof.Machine
end

