-- ==== Sys2Proof/Machine/Fw.lean ====
section
/-! DEFINITION. FW (R509 to R527, R529, R530): images and their check, the flash and the hold-up check, updates, handovers,
checkpoints and packages. -/

namespace Sys2Proof.Machine

/-! ### Images (R510, R511) -/

/-- A little-endian field of an image's header. -/
def imgField (img : List Nat) (off n : Nat) : Nat := ofLeBytes ((img.drop off).take n)

/-- The size of an instruction bank of a target (R509). -/
def bankSize (t : Nat) : Nat := if t = 1 then 384 * 1024 else 128 * 1024

/-- The size of a slot of a target (R513). -/
def slotSize (t : Nat) : Nat := if t = 1 then 512 * 1024 else 256 * 1024

/-- The flash address of a slot of a target (R513). -/
def slotAddr (t slot : Nat) : Nat := if t = 1 then 0x40000 + slot * 0x80000 else 0x140000 + slot * 0x40000

/-- OTP_SVN of a target. -/
def OtpSt.svn (o : OtpSt) (t : Nat) : Nat := if t = 1 then o.svnMgt else o.svnSaf

/-- The first check of R511 that an image fails. -/
def imageFail (o : OtpSt) (t : Nat) (img : List Nat) : Option Nat :=
  let f := imgField img
  let body := (img.drop 256).take (f 20 4)
  let key := f 5 1
  if (img.take 4 != [0x4E, 0x56, 0x46, 0x49]) || f 4 1 != t || bankSize t < f 20 4 || img.length < 256 + f 20 4 ||
      f 20 4 ≤ f 24 4 || f 28 36 != 0 || f 224 32 != 0 then some 1
  else if 3 < key || ofBeBytes (sha256 ((img.drop 96).take 64)) != SMap.read 0 o.keyHash key || bit o.revoked key then some 2
  else if f 16 4 < o.svn t then some 3
  else if sha256 body != (img.drop 64).take 32 then some 4
  else if !ecdsaOk (f 96 32) (f 128 32) (f 160 32) (f 192 32) (ofBeBytes (sha256 (img.take 160))) then some 5
  else none

/-- A byte of the flash. -/
def FlashSt.byte (f : FlashSt) (a : Nat) : Nat := SMap.read 0xFF f.bytes a

/-- Bytes of the flash. -/
def FlashSt.read (f : FlashSt) (a n : Nat) : List Nat := (List.range n).map (fun i => f.byte (a + i))

/-- The image of a slot: its header and, where its LENGTH is one that a bank holds, its body. -/
def FlashSt.image (f : FlashSt) (t slot : Nat) : List Nat :=
  let h := f.read (slotAddr t slot) 256
  if imgField h 20 4 ≤ bankSize t then h ++ f.read (slotAddr t slot + 256) (imgField h 20 4) else h

/-- The slot from which a processor runs. -/
def State.runSlot (s : State) (t : Nat) : Option Nat := if t = 1 then s.boot.mgtSlot else s.boot.safSlot

/-- Setting the slot from which a processor runs. -/
def State.setRunSlot (s : State) (t : Nat) (v : Option Nat) : State :=
  if t = 1 then { s with boot := { s.boot with mgtSlot := v } } else { s with boot := { s.boot with safSlot := v } }

/-- The inactive slot of a target (R519); without a running slot it is slot A. -/
def State.inactiveSlot (s : State) (t : Nat) : Nat :=
  match s.runSlot t with
  | some k => 1 - k
  | none => 0

/-- The bank that a processor fetches (R509). -/
def State.bankNow (s : State) (t : Nat) : Nat := s.fget pgFw (if t = 1 then FW.STAT.MGT_BANK else FW.STAT.SAF_BANK)

/-- The image in a bank. -/
def State.bankImage (s : State) (t bank : Nat) : List Nat := SMap.read [] s.boot.banks (2 * (t - 1) + bank)

/-- Loading an image into a bank. -/
def State.setBank (s : State) (t bank : Nat) (img : List Nat) : State :=
  { s with boot := { s.boot with banks := SMap.write [] s.boot.banks (2 * (t - 1) + bank) img } }

/-- VERSION of the image a processor runs. -/
def State.showVersion (s : State) (t : Nat) : State :=
  s.fset pgFw (if t = 1 then FW.VER_MGT.VERSION else FW.VER_SAF.VERSION) (imgField (s.bankImage t (s.bankNow t)) 12 4)

/-! ### Directory and key store (R514) -/

/-- The copy in force of two, by sequence. -/
def newerOf {V : Type} (seq : V → Nat) (a b : Option V) : Option (Nat × V) :=
  match a, b with
  | none, none => none
  | some x, none => some (0, x)
  | none, some y => some (1, y)
  | some x, some y => if seq x < seq y then some (1, y) else some (0, x)

/-- The directory copy in force. -/
def FlashSt.dirNow (f : FlashSt) : Option (Nat × DirCopy) :=
  newerOf DirCopy.seq (SMap.read none f.dirs 0) (SMap.read none f.dirs 1)

/-- The key-store copy in force. -/
def FlashSt.keysNow (f : FlashSt) : Option (Nat × KeyCopy) :=
  newerOf KeyCopy.seq (SMap.read none f.keys 0) (SMap.read none f.keys 1)

/-! ### The hold-up check and the flash (R512, R515) -/

/-- The hold-up energy in mJ as a quotient, from the latest result of MADC channel 3 (R515): its numerator. -/
def State.holdupNum (s : State) : Int :=
  let v := s.fget pgScal (SCAL.MADC_RES.VALUE 3) * s.fget pgFw FW.HOLDUP_V.DIV
  let m := s.fget pgFw FW.HOLDUP_V.VMIN_MV
  (s.fget pgFw FW.HOLDUP_C.C_UF : Int) * (25 * 1000000 * (v * v : Nat) - 4 * 2 ^ 48 * (m * m : Nat))

/-- Its denominator. -/
def holdupDen : Nat := 4 * 2 ^ 48 * 1000000 * 2000

/-- `HOLDUP_E` shows *E*. -/
def State.showHoldup (s : State) : State :=
  let (e, s) := s.roundFree s.holdupNum holdupDen
  s.fsetI pgFw FW.HOLDUP_E.E_MJ e

/-- The need of an operation. -/
def State.holdupNeed (s : State) : FlashOp → Nat
  | .erase _ => s.fget pgFw FW.HOLDUP_NEED.ERASE_MJ
  | _ => s.fget pgFw FW.HOLDUP_NEED.PROG_MJ

/-- Changing FW's own state. -/
def State.setFw (s : State) (f : FwSt → FwSt) : State := { s with fw := f s.fw }

/-- FLASH_OP_ISSUE: the first operation that waits is issued when the hold-up energy suffices; else its wait begins
(R515). -/
def State.flashIssue (s : State) : State :=
  match s.fw.queue with
  | [] => s
  | (_, op) :: _ =>
    if s.fw.issued then s
    else
      let s := s.showHoldup
      if (s.holdupNeed op * holdupDen : Nat) ≤ s.holdupNum then
        (s.setFw (fun f => { f with issued := true, waitSince := none })).fset pgFw FW.STAT.HOLD_WAIT 0
      else if s.fw.waitSince.isSome then s
      else
        let now := s.mono
        (((s.setFw (fun f => { f with waitSince := some now })).fset pgFw FW.STAT.HOLD_WAIT 1).finc pgFw
          FW.HOLD_CNT.WAITS).evt pgFw 13

/-- Operations join the queue (R512). -/
def State.flashQueue (s : State) (j : FlashJob) (ops : List FlashOp) : State :=
  s.setFw (fun f => { f with queue := f.queue ++ ops.map (fun o => (j, o)) })

/-- A job has operations in the queue. -/
def State.jobQueued (s : State) (p : FlashJob → Bool) : Bool := s.fw.queue.any (fun e => p e.1)

/-- The operations of a job that have not been issued leave the queue. -/
def State.jobDrop (s : State) (p : FlashJob → Bool) : State :=
  s.setFw (fun f =>
    match f.queue with
    | [] => f
    | x :: r =>
      if f.issued then { f with queue := x :: r.filter (fun e => !p e.1) }
      else if p x.1 then { f with queue := r.filter (fun e => !p e.1), waitSince := none }
      else { f with queue := x :: r.filter (fun e => !p e.1) })

/-- The erase of a sector of 64 KiB (R513). -/
def FlashSt.erase (f : FlashSt) (a : Nat) : FlashSt :=
  let f := { f with bytes := SMap.clear f.bytes a (a + 0x10000) }
  if a < 0x20000 then { f with dirs := SMap.write none f.dirs (a / 0x10000) none }
  else if a < 0x40000 then { f with keys := SMap.write none f.keys (a / 0x10000 - 2) none }
  else if 0x200000 ≤ a ∧ a < 0x220000 then
    let j := (a - 0x200000) / 0x10000
    { f with journal := SMap.clear f.journal (2048 * j) (2048 * j + 2048) }
  else if 0x220000 ≤ a ∧ a < 0xF20000 then
    let l := (a - 0x220000) / 0x20000
    if (a - 0x220000) % 0x20000 = 0 then { f with erases := SMap.write 0 f.erases l (SMap.read 0 f.erases l + 1) } else f
  else if 0x1000000 ≤ a ∧ a < 0x2400000 then { f with factory := none }
  else if 0x2400000 ≤ a ∧ a < 0x3800000 then { f with user := none }
  else f

/-- What a finished operation leaves in the flash. -/
def FlashSt.apply (f : FlashSt) : FlashOp → FlashSt
  | .erase a => f.erase a
  | .program a d =>
    { f with bytes := (d.zipIdx).foldl (fun m e => SMap.write 0xFF m (a + e.2) (e.1 % 256)) f.bytes }
  | .dir c d => { f with dirs := SMap.write none f.dirs c (some d) }
  | .keys c k => { f with keys := SMap.write none f.keys c (some k) }
  | .entry i e => { f with journal := SMap.write none f.journal i (some e) }
  | .packPage _ => f
  | .packLast user p => if user then { f with user := some p } else { f with factory := some p }

/-- The operations that write new bytes in whole pages from an address on. -/
def pageOps (a : Nat) (d : List Nat) : List FlashOp :=
  (List.range ((d.length + 255) / 256)).map (fun i => .program (a + 256 * i) ((d.drop (256 * i)).take 256))

/-- A directory change writes the other copy with the sequence plus 1 (R514). -/
def State.writeDir (s : State) (j : FlashJob) (g : DirCopy → DirCopy) : State :=
  let (c, d) := s.flash.dirNow.getD (1, ⟨0, 0, false, 0, false⟩)
  let d' := g d
  s.flashQueue j [.erase ((1 - c) * 0x10000), .dir (1 - c) { d' with seq := (d.seq + 1) % 2 ^ 32 }]

/-- A key-store change writes the other copy (R514, R542). -/
def State.writeKeys (s : State) (g : KeyCopy → KeyCopy) : State :=
  let (c, k) := s.flash.keysNow.getD (1, ⟨0, none, none⟩)
  let k' := g k
  s.flashQueue .keys [.erase (0x20000 + (1 - c) * 0x10000), .keys (1 - c) { k' with seq := (k.seq + 1) % 2 ^ 32 }]

/-! ### Updates (R516 to R519) -/

/-- What a delta stream has come to (R518): the output so far, and whether it has failed or ended. -/
structure DeltaOut where
  out : List Nat
  fail : Option Nat := none
  ended : Bool := false

/-- The operations of a delta stream on a base image, from the bytes received (R518). -/
def deltaOps (base : List Nat) (limit : Nat) (out l : List Nat) : Nat → DeltaOut
  | 0 => ⟨out, none, false⟩
  | n + 1 =>
    match l with
    | [] => ⟨out, none, false⟩
    | op :: r =>
      let arg (i : Nat) : Nat := ofLeBytes ((r.drop (4 * i)).take 4)
      let need := if op = 0x00 then 0 else if op = 0x03 then 4 else 8
      if op = 0x00 then
        if out.length = limit then ⟨out, none, true⟩ else ⟨out, some 0x35, false⟩
      else if 3 < op then ⟨out, some 0x34, false⟩
      else if r.length < need then ⟨out, none, false⟩
      else
        let d := r.drop need
        let src := arg 0
        let len := if op = 0x03 then arg 0 else arg 1
        if limit < out.length + len then ⟨out, some 0x35, false⟩
        else if op ≠ 0x03 ∧ base.length < src + len then ⟨out, some 0x34, false⟩
        else if op = 0x01 then deltaOps base limit (out ++ (base.drop src).take len) d n
        else
          let here := d.take len
          let bytes := if op = 0x02 then List.zipWith (fun a b => (a + b) % 256) ((base.drop src).take len) here else here
          if here.length < len then ⟨out ++ bytes, none, false⟩
          else deltaOps base limit (out ++ bytes) (d.drop len) n

/-- A delta stream from its header on: base VERSION, the first 8 bytes of the base's BODY_HASH, and the new slot length
(R518). -/
def deltaRun (base : List Nat) (slot : Nat) (l : List Nat) : DeltaOut :=
  if l.length < 16 then ⟨[], none, false⟩
  else if imgField l 0 4 ≠ imgField base 12 4 ∨ (l.drop 4).take 8 ≠ (base.drop 64).take 8 then ⟨[], some 0x33, false⟩
  else if slot < imgField l 12 4 then ⟨[], some 0x35, false⟩
  else deltaOps base (imgField l 12 4) [] (l.drop 16) l.length

/-- An update ends FAILED; its reason stands as that of the UPDATE_START that opened it (R518, R530). -/
def State.updateFail (s : State) (reason : Nat) : State :=
  match s.fw.session with
  | none => s
  | some x =>
    let s := (s.setFw (fun f => { f with session := none })).jobDrop (fun j => j = .update)
    (s.fset pgFw FW.STAT.STATE 4).cmdEnd pgFw 0x10 x.issuer 6 reason

/-- The new slot is complete: it is checked under R511 (R518). -/
def State.updateVerify (s : State) : State :=
  match s.fw.session with
  | none => s
  | some x =>
    let img := s.flash.image x.target (s.inactiveSlot x.target)
    let s := s.setFw (fun f => { f with session := none })
    match imageFail s.otp x.target img with
    | none => ((s.fset pgFw FW.STAT.STATE 2).fset pgFw FW.VER_NEW.VERSION (imgField img 12 4)).evt pgFw 9
    | some r => ((s.fset pgFw FW.STAT.STATE 4).fset pgFw FW.UPD_INFO.LAST_FAIL r).evt pgFw 10

/-- UPDATE_START is refused (R530). -/
def State.updateRefused (s : State) : Option Nat :=
  if s.fget pgFw FW.STAT.STATE = 3 || s.jobQueued (fun j => j = .update) then some 0x20 else none

/-- UPDATE_START (R519). -/
def State.updateStart (s : State) (target issuer : Nat) : State :=
  let s := s.setFw (fun f => { f with session := some { target := target, issuer := issuer } })
  let s := (s.fwrap pgFw FW.UPD_INFO.SESSION).fset pgFw FW.UPD_EXPECT.OFFSET 0
  (s.fset pgFw FW.STAT.STATE 1).fset pgFw FW.STAT.TARGET target

/-- UPDATE_ABORT ends the session (R519). -/
def State.updateAbort (s : State) : State :=
  ((s.setFw (fun f => { f with session := none })).jobDrop (fun j => j = .update)).fset pgFw FW.STAT.STATE 0

/-- SPLICE takes the head of a reel: its words, the packet released (R382, R517). -/
def State.takePacket (s : State) (q : Nat) : List Nat × State :=
  let l := ((s.reel q).packets).headD 0
  let (ws, s) := (List.range l).foldl (fun (a : List Nat × State) _ =>
    let (w, s) := a.2.reelRead q
    (a.1 ++ [w.toNat], s)) (([] : List Nat), s)
  (ws, s.reelRelease q)

/-- A rejected update block (R517). -/
def State.blockReject (s : State) (reason : Nat) : State :=
  ((s.finc pgFw FW.UPD_CNT.REJECTS).fset pgFw FW.UPD_INFO.LAST_REJECT reason).evt pgFw 8

/-- The output of an update that has not been handed to the flash: whole pages, and at END the last one; each sector is
erased before its first page (R518). -/
def State.updateWrite (s : State) (x : Session) (o : DeltaOut) : State :=
  let base := slotAddr x.target (s.inactiveSlot x.target)
  let upTo := if o.ended then (o.out.length + 255) / 256 else o.out.length / 256
  let pages := (List.range upTo).filter (fun i => x.queued ≤ 256 * i)
  let ops := pages.flatMap (fun i =>
    (if i % 256 = 0 then [FlashOp.erase (base + 256 * i)] else []) ++
      [FlashOp.program (base + 256 * i) ((o.out.drop (256 * i)).take 256)])
  let s := s.setFw (fun f => { f with session := some { x with queued := 256 * upTo, ended := o.ended } })
  let s := s.flashQueue .update ops
  if o.ended && !s.jobQueued (fun j => j = .update) then s.updateVerify else s

/-- UPDATE_BLOCK: SPLICE takes an update block from REEL1 (R516 to R518). -/
def State.updateBlock (s : State) : State :=
  if ((s.reel 1).packets).isEmpty then s
  else
    let (ws, s) := s.takePacket 1
    let w (i : Nat) : Nat := ws.getD i 0
    let len := w 2 % 4096
    let bytes := (ws.drop 4).flatMap (fun v => leBytes v 4)
    let data := bytes.take len
    match s.fw.session with
    | none => s.blockReject 1
    | some x =>
      if x.ended || w 0 % 65536 ≠ s.fget pgFw FW.UPD_INFO.SESSION || bitsOf (w 0) 16 2 ≠ x.target then s.blockReject 1
      else if ws.length < 4 || w 0 / 2 ^ 18 ≠ 0 || w 2 / 4096 ≠ 0 || len = 0 || 4080 < len ||
          ws.length ≠ 4 + (len + 3) / 4 || (bytes.drop len).any (· ≠ 0) then s.blockReject 2
      else if crc32c data ≠ w 3 then s.blockReject 3
      else
        let expect := s.fget pgFw FW.UPD_EXPECT.OFFSET
        if expect < w 1 then s.blockReject 4
        else if w 1 + len ≤ expect then s.finc pgFw FW.UPD_CNT.DUPS
        else
          let x := { x with delta := x.delta ++ data.drop (expect - w 1) }
          let s := (s.fset pgFw FW.UPD_EXPECT.OFFSET (w 1 + len)).setFw (fun f => { f with session := some x })
          let base := match s.runSlot x.target with
            | some k => s.flash.image x.target k
            | none => []
          let o := deltaRun base (slotSize x.target) x.delta
          match o.fail with
          | some r => s.updateFail r
          | none => s.updateWrite x o

/-! ### Handover (R520 to R522) -/

/-- ACTIVATE_DONE: the verified slot is in the other bank and has been checked again. -/
def State.activateDone (s : State) : State :=
  if !s.running pgFw 0x12 then s
  else
    let t := s.fget pgFw FW.STAT.TARGET
    let img := s.flash.image t (s.inactiveSlot t)
    match imageFail s.otp t img with
    | none => ((s.setBank t (1 - s.bankNow t) img).fset pgFw FW.STAT.STATE 3).cmdDone pgFw
    | some r => (s.fset pgFw FW.UPD_INFO.LAST_FAIL r).cmdFail pgFw 0x30

/-- TRIAL of a target. -/
def trialFld (t : Nat) : Fld := if t = 1 then FW.STAT.MGT_TRIAL else FW.STAT.SAF_TRIAL

/-- The directory's TRIAL of a target. -/
def DirCopy.setTrial (t : Nat) (b : Bool) (d : DirCopy) : DirCopy :=
  if t = 1 then { d with mgtTrial := b } else { d with safTrial := b }

/-- HANDOVER is refused (R520, R521, R530). -/
def State.handoverRefused (s : State) (t version : Nat) : Option Nat :=
  let img := s.bankImage t (1 - s.bankNow t)
  if s.fget pgFw FW.STAT.STATE ≠ 3 || s.fget pgFw FW.STAT.TARGET ≠ t then some 0x23
  else if t = 2 && s.safe.handover.isNone then some 0x24
  else if version < imgField img 8 2 || imgField img 10 2 < version then some 0x25
  else none

/-- Fetch moves to a processor's other bank. -/
def State.flipBank (s : State) (t : Nat) : State :=
  let s := s.fset pgFw (if t = 1 then FW.STAT.MGT_BANK else FW.STAT.SAF_BANK) (1 - s.bankNow t)
  (s.setRunSlot t (some (s.inactiveSlot t))).showVersion t

/-- HANDOVER, step 4 (R520), with the version that the old image wrote into its state block: MGT has 100 ms for step 5, SAF the rest of its window of R423. -/
def State.fwHandover (s : State) (t version : Nat) : State :=
  let s := { s with boot := { s.boot with stateVer := SMap.write 0 s.boot.stateVer t version } }
  let due := if t = 1 then s.mono + 100000000 else s.safe.handover.getD s.mono
  let s := (s.flipBank t).setFw (fun f => { f with handover := some (t, due) })
  let s := ((s.fset pgFw (trialFld t) 1).fset pgFw FW.STAT.STATE 0).fset pgFw FW.STAT.REVERTED 0
  (s.evt pgFw 11).writeDir .trial (DirCopy.setTrial t true)

/-- Fetch returns to the old bank (R520). -/
def State.revert (s : State) (t : Nat) : State :=
  let s := (s.flipBank t).setFw (fun f => { f with handover := none })
  let s := (s.fset pgFw (trialFld t) 0).fset pgFw FW.STAT.REVERTED 1
  (s.evt pgFw 12).writeDir .trial (DirCopy.setTrial t false)

/-- HANDOVER_REVERT: step 5 has been missed (R520). -/
def State.handoverRevert (s : State) : State :=
  match s.fw.handover with
  | some (t, due) => (s.advanceTo due).revert t
  | none => s

/-- Step 5 of a handover of a target is met (R520). -/
def State.handoverHolds (s : State) (t : Nat) : State :=
  match s.fw.handover with
  | some (t', _) => if t' = t then s.setFw (fun f => { f with handover := none }) else s
  | none => s

/-- FW_ALIVE_WRITE (R520): only MGT's own write shows that its new image runs. -/
def State.fwAlive (s : State) (m v : Nat) : State :=
  let s := s.fset pgFw FW.ALIVE.COUNT v
  if m = 9 then s.handoverHolds 1 else s

/-- Some processor is on TRIAL. -/
def State.onTrial (s : State) : Bool := s.fbit pgFw FW.STAT.MGT_TRIAL || s.fbit pgFw FW.STAT.SAF_TRIAL

/-- CONFIRM starts to write the directory: the slots on trial become boot slots (R522). -/
def State.confirm (s : State) : State :=
  let m := s.fbit pgFw FW.STAT.MGT_TRIAL
  let f := s.fbit pgFw FW.STAT.SAF_TRIAL
  let a := s.boot.mgtSlot
  let b := s.boot.safSlot
  s.writeDir .confirm (fun d =>
    let d := if m then { d with mgtSlot := a.getD d.mgtSlot, mgtTrial := false } else d
    if f then { d with safSlot := b.getD d.safSlot, safTrial := false } else d)

/-- STAT shows the boot slots of the directory in force (R514, R529). -/
def State.showDir (s : State) : State :=
  match s.flash.dirNow with
  | some (_, d) => (s.fset pgFw FW.STAT.MGT_BOOT d.mgtSlot).fset pgFw FW.STAT.SAF_BOOT d.safSlot
  | none => s

/-- OTP registers show their storage (R529). -/
def State.showOtp (s : State) : State :=
  let s := ((s.fset pgFw FW.OTP_SVN.MGT s.otp.svnMgt).fset pgFw FW.OTP_SVN.SAF s.otp.svnSaf).fset pgFw FW.OTP_KEYS.REVOKED
    s.otp.revoked
  (s.fsetB pgSys SYS.BOOT_STAT.BENCH_OFF s.otp.benchOff).fsetB pgCad CAD.STAT.FACTORY_SEALED s.otp.factorySealed

/-- SVN_ADVANCE (R522). -/
def State.svnAdvance (s : State) (t : Nat) : State :=
  let v := imgField (s.bankImage t (s.bankNow t)) 16 4 % 65536
  let o := s.otp
  let o := if t = 1 then { o with svnMgt := max o.svnMgt v } else { o with svnSaf := max o.svnSaf v }
  { s with otp := o }.showOtp

/-- The key of a running image (R530). -/
def State.keyInUse (s : State) (k : Nat) : Bool :=
  (s.boot.mgtRunning && imgField (s.bankImage 1 (s.bankNow 1)) 5 1 = k) ||
  (s.boot.safRunning && imgField (s.bankImage 2 (s.bankNow 2)) 5 1 = k)

/-- REVOKE_KEY (R530). -/
def State.revokeKey (s : State) (k : Nat) : State :=
  { s with otp := { s.otp with revoked := s.otp.revoked ||| 1 <<< k } }.showOtp

/-! ### Checkpoints (R524 to R526) -/

/-- The dose code of a dose: the largest code that does not exceed it (R524). -/
def doseCode (d : Nat) : Nat :=
  if d < 2048 then d
  else
    let x := d.log2 - 10
    x * 2048 + (d / 2 ^ (x - 1) - 2048)

/-- The dose of a code. -/
def doseOf (c : Nat) : Nat :=
  let x := c / 2048
  if x = 0 then c else (2048 + c % 2048) * 2 ^ (x - 1)

/-- A wear record that cannot be read (R224). -/
def State.recordLost (s : State) : State :=
  ((s.finc pgCad CAD.RECORD_LOST.COUNT).evt pgCad 14).reportDrop pgCad

/-- The dose code of one record is added; the code of a record that cannot be read is a free value. -/
def State.addCode (s : State) (codes : List Nat) : Option Nat → List Nat × State
  | some v => (codes ++ [doseCode (bitsOf v 0 32)], s)
  | none =>
    let r := s.recordLost.fresh 16
    (codes ++ [r.1.toNat], r.2)

/-- The dose code of one emitter is added. -/
def State.codeStep (first : Nat) (a : List Nat × State) (i : Nat) : List Nat × State :=
  a.2.addCode a.1 (a.2.wearRecord (first + i))

/-- The dose codes of the emitters from the first on. -/
def State.codesFrom (s : State) (first count : Nat) : List Nat × State :=
  (List.range count).foldl (State.codeStep first) (([] : List Nat), s)

/-- The dose codes of a slice, in order of *e*. -/
def State.sliceCodes (s : State) (k : Nat) : List Nat × State :=
  s.codesFrom (65536 * k) 65536

/-- The newest journal entry of a slice, but for some sequence numbers on. -/
def FlashSt.newest (f : FlashSt) (k below : Nat) : Option JournalEntry :=
  f.journal.foldl (fun m e =>
    match e.2, m with
    | some x, none => if x.slice = k ∧ x.seq < below then some x else none
    | some x, some y => if x.slice = k ∧ x.seq < below ∧ y.seq < x.seq then some x else some y
    | none, m => m) none

/-- The latest sequence number of the journal, and where it stands. -/
def FlashSt.journalEnd (f : FlashSt) : Option (Nat × Nat) :=
  f.journal.foldl (fun m e =>
    match e.2, m with
    | some x, none => some (x.seq, e.1)
    | some x, some (q, i) => if q < x.seq then some (x.seq, e.1) else some (q, i)
    | none, m => m) none

/-- The sequence number of the next journal entry, and where it goes. -/
def FlashSt.nextEntry (f : FlashSt) : Nat × Nat :=
  match f.journalEnd with
  | some x => (x.1 + 1, (x.2 + 1) % 4096)
  | none => (0, 0)

/-- The free wear location with the lowest erase count, the lowest number among equals (R525). -/
def FlashSt.freeLoc (f : FlashSt) : Nat :=
  let used := (List.range 96).filterMap (fun k => (f.newest k (2 ^ 40)).map (·.loc))
  let free := (List.range 104).filter (fun l => !used.contains l)
  free.foldl (fun m l => if SMap.read 0 f.erases l < SMap.read 0 f.erases m then l else m) (free.headD 0)

/-- The codes of a slice are written at a free wear location, and their journal entry after them (R524, R525). -/
def State.wearWrite (s : State) (k : Nat) (codes : List Nat) : State :=
  let data := codes.flatMap (fun c => leBytes c 2)
  let l := s.flash.freeLoc
  let a := 0x220000 + 0x20000 * l
  let n := s.flash.nextEntry
  let e : JournalEntry := ⟨k, l, SMap.read 0 s.flash.erases l + 1, n.1, crc32c data⟩
  let now := s.mono
  let s := s.setFw (fun f => { f with lastWear := now })
  s.flashQueue (.wear k l) ([.erase a, .erase (a + 0x10000)] ++ pageOps a data ++
    (if n.2 % 2048 = 0 then [.erase (0x200000 + n.2 / 2048 * 0x10000)] else []) ++ [.entry n.2 e])

/-- A wear checkpoint of the next slice starts: its location is erased and programmed, and the journal entry follows
(R524, R525). -/
def State.wearStart (s : State) : State :=
  let k := s.fget pgFw FW.CKPT_STAT.NEXT_SLICE
  let r := s.sliceCodes k
  r.2.wearWrite k r.1

/-- The records of a DIAG checkpoint: OPEN and SHORT first, each part by *e* (R526). -/
def State.diagRecords (s : State) : List (Nat × Nat) :=
  let tag := s.fget pgDiag DIAG.MAP_TAG.TAG
  let all := (List.range (emittersOf s.dual)).filterMap (fun e =>
    match s.readNat tag (32 * s.fget pgDiag DIAG.MAP_BASE.BASE + 4 * e) 4 with
    | some v => if recCode v = 0 then none else some (e, v)
    | none => none)
  (all.filter (fun x => recCode x.2 ≠ 3) ++ all.filter (fun x => recCode x.2 = 3)).take 16383

/-- A DIAG checkpoint starts on the older copy (R526). -/
def State.diagCkptStart (s : State) : State :=
  let c := match s.flash.diagNewer with
    | some n => 1 - n
    | none => 0
  let rs := s.diagRecords
  let body := rs.flatMap (fun x => leBytes x.1 4 ++ leBytes x.2 4) ++ leBytes rs.length 4
  let a := 0x1C0000 + 0x20000 * c
  let now := s.mono
  let s := s.setFw (fun f => { f with lastDiag := now })
  s.flashQueue (.diag c) ([.erase a, .erase (a + 0x10000)] ++ pageOps a (body ++ leBytes (crc32c body) 4))

/-- A checkpoint is under way. -/
def State.ckptBusy (s : State) : Bool :=
  s.jobQueued (fun j => match j with | .wear _ _ => true | .diag _ => true | _ => false)

/-- WEAR_CHECKPOINT: WEAR_MIN has elapsed (R523, R524). -/
def State.wearCheckpoint (s : State) : State :=
  let s := s.advanceTo (s.fw.lastWear + s.fget pgFw FW.BG_CFG.WEAR_MIN * 60000000000)
  if s.fbit pgFw FW.BG_CFG.WEAR_EN && s.domOn 2 && s.memOnline &&
      !s.jobQueued (fun j => match j with | .wear _ _ => true | _ => false) then s.wearStart else s

/-- DIAG_CHECKPOINT: DIAG_MIN has elapsed (R523, R526). -/
def State.diagCheckpoint (s : State) : State :=
  let s := s.advanceTo (s.fw.lastDiag + s.fget pgFw FW.BG_CFG.DIAG_MIN * 60000000000)
  if s.fbit pgFw FW.BG_CFG.DIAG_EN && s.domOn 2 && s.memOnline &&
      !s.jobQueued (fun j => match j with | .diag _ => true | _ => false) then s.diagCkptStart else s

/-- CKPT_NOW: both checkpoints start (R530). -/
def State.ckptNow (s : State) : State := (s.wearStart.diagCkptStart).setFw (fun f => { f with ckptJobs := 2 })

/-- A checkpoint has ended (R530). -/
def State.ckptEnd (s : State) (reason : Option Nat) : State :=
  let s := match reason with
    | none => (s.finc pgFw FW.CKPT_STAT.COUNT).evt pgFw 15
    | some _ => s
  if s.fw.ckptJobs = 0 then s
  else
    match reason with
    | some r => (s.setFw (fun f => { f with ckptJobs := 0 })).cmdFail pgFw r
    | none =>
      let s := s.setFw (fun f => { f with ckptJobs := f.ckptJobs - 1 })
      if s.fw.ckptJobs = 0 then s.cmdDone pgFw else s

/-! ### Packages (R527) -/

/-- The records of a caddy as a package holds them. -/
def State.packOf (s : State) (off : Nat) (bins : Bool) : Package :=
  let crcs := (List.range 16).map (fun t => crc32c ((tilePixels t).flatMap (fun e => [0, 1].flatMap (fun b =>
    leBytes ((s.readNat s.regionTag (s.caddyAt off (pixelIndex e.1 e.2) b) 36).getD 0) 36))))
  let records := (List.range 0x200000).foldl (fun m i =>
    SMap.write 0 m i ((s.readNat s.regionTag (s.regionByte off + 36 * i) 36).getD 0)) ([] : SMap Nat)
  let bs := if bins then (List.range (emittersOf s.dual)).foldl (fun m e =>
      SMap.write 0 m e (((s.wearRecord e).map (fun v => bitsOf v 48 4)).getD 0)) ([] : SMap Nat)
    else []
  ⟨crcs, records, bs⟩

/-- A package is written: the size of its packed form is a free value; one above 20 MiB is not written (R527). -/
def State.packStart (s : State) (user : Bool) (p : Package) : State :=
  let (n, s) := s.fresh 25
  let s := s.fset pgFw (if user then FW.PACK_USER.BYTES else FW.PACK_FACTORY.BYTES) n.toNat
  if 20 * 2 ^ 20 < n.toNat then s
  else
    let a := if user then 0x2400000 else 0x1000000
    let pages := (n.toNat + 255) / 256
    s.flashQueue (.pack user)
      ((List.range ((n.toNat + 65535) / 65536)).map (fun i => .erase (a + 0x10000 * i)) ++
        List.replicate (pages - 1) (.packPage user) ++ [.packLast user p])

/-- SEAL_FACTORY with its one-time-programmable bit and the factory package (R227, R527). -/
def State.sealAndPack (s : State) : State :=
  let s := s.sealFactory
  { s with otp := { s.otp with factorySealed := true } }.packStart false (s.packOf offFactory true)

/-- The user backup after the copy-back of an exchange (R527). -/
def State.userBackup (s : State) : State :=
  s.packStart true (s.packOf (offUser (s.fget pgCad CAD.STAT.LIVE_USER)) false)

/-! ### Ends of flash operations (R512, R515) -/

/-- The last operation of a job has succeeded. -/
def State.jobDone (s : State) (j : FlashJob) : State :=
  match j with
  | .update => if (s.fw.session.map (·.ended)).getD false then s.updateVerify else s
  | .trial => s
  | .confirm =>
    let s := (s.fset pgFw FW.STAT.MGT_TRIAL 0).fset pgFw FW.STAT.SAF_TRIAL 0
    s.showDir.cmdDone pgFw
  | .wear k l =>
    let s := s.fset pgFw FW.CKPT_STAT.NEXT_SLICE ((k + 1) % 96)
    let s := s.fset pgFw FW.FLASH_WEAR.MAX_ERASE (max (s.fget pgFw FW.FLASH_WEAR.MAX_ERASE) (SMap.read 0 s.flash.erases l))
    s.ckptEnd none
  | .diag c => ({ s with flash := { s.flash with diagNewer := some c } }).ckptEnd none
  | .pack _ => s
  | .daily => s
  | .keys => s

/-- A job ends FAILED with a reason: 0x31 FLASH or 0x32 HOLDUP. -/
def State.jobFail (s : State) (j : FlashJob) (reason : Nat) : State :=
  let s := s.jobDrop (fun x => x = j)
  match j with
  | .update => s.updateFail reason
  | .confirm => s.cmdFail pgFw reason
  | .wear _ _ => s.ckptEnd (some reason)
  | .diag _ => s.ckptEnd (some reason)
  | .daily => (s.finc pgDly DLY.CNT.SKIPPED).evt pgDly 9
  | _ => s

/-- A dailies record has been written (R528, R532). -/
def State.dailyWritten (s : State) : State :=
  let h := s.fget pgDly DLY.RING.HEAD
  let s := if h = 0xFFFF then s.finc pgDly DLY.RING.WRAPS else s
  ((s.fset pgDly DLY.RING.HEAD ((h + 1) % 65536)).finc pgDly DLY.CNT.WRITTEN).evt pgDly 8

/-- FLASH_OP_DONE: the operation on the flash ends, and its status reports success or failure (R512). -/
def State.flashDone (s : State) (ok : Bool) : State :=
  if !s.fw.issued then s
  else
    match s.fw.queue with
    | [] => s
    | (j, op) :: r =>
      let s := s.setFw (fun f => { f with queue := r, issued := false })
      if ok then
        let s := { s with flash := s.flash.apply op }
        if j = .daily then
          match op with
          | .program _ _ => s.dailyWritten
          | _ => s
        else if r.any (fun e => e.1 = j) then s else s.jobDone j
      else
        let s := s.finc pgFw (match op with | .erase _ => FW.FLASH_ERR.ERASE | _ => FW.FLASH_ERR.PROG)
        ((s.evt pgFw 14).reportDrop pgFw).jobFail j 0x31

/-- HOLD_TIMEOUT: the wait for hold-up energy has lasted HOLD_TIMEOUT (R515). -/
def State.holdTimeout (s : State) : State :=
  match s.fw.waitSince, s.fw.queue with
  | some t, (j, _) :: r =>
    let s := s.advanceTo (t + s.fget pgFw FW.HOLD_TIMEOUT.S * 1000000000)
    let s := s.setFw (fun f => { f with queue := r, waitSince := none })
    ((s.fset pgFw FW.STAT.HOLD_WAIT 0).finc pgFw FW.HOLD_CNT.TIMEOUTS).jobFail j 0x32
  | _, _ => s

/-! ### Restoration (R524 to R527, R540, R541) -/

/-- A package's records return to a caddy copy. -/
def State.restoreCaddy (s : State) (off : Nat) (p : Package) : State :=
  (List.range 0x200000).foldl (fun s i =>
    s.writeNat 9 s.regionTag (s.regionByte off + 36 * i) (SMap.read 0 p.records i) 36) s

/-- The dose codes that a slice restores: those of its newest entry whose data passes its CRC and whose location has not
been reused, else none (R525). -/
def State.sliceRestore (s : State) (k : Nat) : Option (List Nat) :=
  let codesOf (e : JournalEntry) : Option (List Nat) :=
    let d := s.flash.read (0x220000 + 0x20000 * e.loc) 131072
    if crc32c d = e.crc then some ((List.range 65536).map (fun i => d.getD (2 * i) 0 + 256 * d.getD (2 * i + 1) 0)) else none
  match s.flash.newest k (2 ^ 40) with
  | none => some (List.replicate 65536 0)
  | some e =>
    match codesOf e with
    | some l => some l
    | none =>
      match s.flash.newest k e.seq with
      | none => none
      | some e' => codesOf e'

/-- The wear records as start-up leaves them (R524, R525). -/
def State.restoreWear (s : State) : State :=
  (List.range 96).foldl (fun s k =>
    let (codes, s) := match s.sliceRestore k with
      | some l => (l, s)
      | none => (List.replicate 65536 0, s.recordLost)
    (codes.zipIdx).foldl (fun s c =>
      let e := 65536 * k + c.2
      let bin := match s.flash.factory with
        | some p => SMap.read 0 p.bins e
        | none => 0
      s.writeNat 9 s.regionTag (s.wearAt e) (doseOf c.1 + 0x8000 * 2 ^ 32 + bin * 2 ^ 48) 8) s) s

/-- The status map as start-up leaves it (R526); BUILD_LIST follows. -/
def State.restoreDiag (s : State) : State :=
  let s := (List.range (emittersOf s.dual)).foldl (fun s e => s.setRecord e recInit) s
  match s.flash.diagNewer with
  | none => s
  | some c =>
    let d := s.flash.read (0x1C0000 + 0x20000 * c) 0x20000
    let n := (List.range 16384).find? (fun n => ofLeBytes ((d.drop (8 * n)).take 4) = n &&
      crc32c (d.take (8 * n + 4)) = ofLeBytes ((d.drop (8 * n + 4)).take 4))
    (List.range (n.getD 0)).foldl (fun s i =>
      s.setRecord (ofLeBytes ((d.drop (8 * i)).take 4)) (ofLeBytes ((d.drop (8 * i + 4)).take 4))) s

/-- MGT restores the calibration once MEM is READY after a start that is a warm restart (R540 step 7, R541): the packages,
the wear records, and the status map, with BUILD_LIST. -/
def State.restore (s : State) : State :=
  if !s.fw.restoreDue || !s.memOnline then s
  else
    let s := s.setFw (fun f => { f with restoreDue := false })
    let s := match s.flash.factory with
      | some p =>
        let s := s.restoreCaddy offFactory p
        { s with cad := { s.cad with sourceLoaded := true } }.checkFactory
      | none => s
    let s := match s.flash.user with
      | some p => s.restoreCaddy (offUser (s.fget pgCad CAD.STAT.LIVE_USER)) p
      | none => s
    let s := s.restoreWear.restoreDiag
    if (s.hdr pgDiag).run.isSome then s
    else (s.cmdStart pgDiag 0x11 0 9).fset pgDiag DIAG.STAT.CMD_RUN 1

/-! ### Commits (R530) -/

/-- The block commit reason of R530. -/
def State.fwReasons (s : State) (ps : List Nat) : List Nat :=
  let g (f : Fld) := s.vget ps pgFw f
  let out (v lo hi : Nat) : Bool := v < lo || hi < v
  reasons [(g FW.HOLD_TIMEOUT.S = 0 || out (g FW.BG_CFG.WEAR_MIN) 5 60 || out (g FW.BG_CFG.DIAG_MIN) 10 240, 0x10)]

end Sys2Proof.Machine
end

