-- ==== Sys2Proof/Machine/LinkCore.lean ====
section
/-! DEFINITION. A link's state, its trust, its partner's authentication and the choice of the active upstream (R87, R106,
R107, R125 to R129, R133). -/

namespace Sys2Proof.Machine

/-- A link. -/
def State.link (s : State) (n : Nat) : LinkSt := SMap.read {} s.links n

/-- Setting a link. -/
def State.setLink (s : State) (n : Nat) (l : LinkSt) : State := { s with links := SMap.write {} s.links n l }

/-- The state of LINK_STAT: 0 DOWN, 1 UP_AUTH_WAIT, 2 UP_TRUSTED, 3 UP_UNTRUSTED. -/
def State.linkState (s : State) (n : Nat) : Nat := s.fget (pgLink n) LINK.LINK_STAT.STATE

/-! ### Upstream selection (R126) -/

/-- VIDEO of a link is written (R112): the link is UP_TRUSTED, or UP_UNTRUSTED with VIDEO_UNAUTH = 1. Such an upstream is
usable (DEDUCED, log 31). -/
def State.usable (s : State) (n : Nat) : Bool :=
  s.linkState n = 2 || (s.linkState n = 3 && s.fbit (pgLink n) LINK.POLICY.VIDEO_UNAUTH)

/-- The active upstream. -/
def State.activeUp (s : State) : Nat := s.fget (pgLink 0) LINK.UPSEL_STAT.ACTIVE

/-- Data cells of an open burst that have not arrived: counted when the burst ends early (R113). -/
def Burst.missing (b : Burst) : Nat := if b.addressed then b.count - b.seen else 0

/-- A burst ends early (R110, R113, R126). -/
def State.truncate (s : State) (n h : Nat) : State :=
  let l := s.link n
  match SMap.read none l.bursts h with
  | none => s
  | some b =>
    (s.setLink n { l with bursts := SMap.write none l.bursts h none }).fadd (pgLink n) LINK.VID_DROP.COUNT b.missing

/-- Every open burst of a link ends early. -/
def State.truncateAll (s : State) (n : Nat) : State := (List.range 16).foldl (fun s h => s.truncate n h) s

/-- The marks of the active upstream on both pages. -/
def State.showActive (s : State) : State :=
  let a := s.activeUp
  let s := (s.fsetB (pgLink 0) LINK.LINK_STAT.ACTIVE (a = 0)).fsetB (pgLink 1) LINK.LINK_STAT.ACTIVE (a = 1)
  s.fsetB (pgLink 0) LINK.UPSEL_STAT.NONE (!s.usable 0 && !s.usable 1)

/-- A switch of the active upstream with its cause (R126). -/
def State.switchUp (s : State) (cause : Nat) : State :=
  let a := s.activeUp
  let s := if cause = 1 then s.truncateAll a else s
  let s := { s with transport := { s.transport with commandPending := false, lossRun := 0 } }
  let s := ((s.fset (pgLink 0) LINK.UPSEL_STAT.ACTIVE (1 - a)).fset (pgLink 0) LINK.UPSEL_STAT.LAST_CAUSE cause).finc
    (pgLink 0) LINK.UPSEL_STAT.SWITCHES
  ((s.evt (pgLink 0) 12).evt (pgLink 1) 12).showActive

/-- Since when the preferred upstream has been usable. -/
def State.trackPref (s : State) : State :=
  let u := s.usable (s.fget (pgLink 0) LINK.UPSEL.PREF)
  { s with transport := { s.transport with
      prefUsableSince := if u then some (s.transport.prefUsableSince.getD s.mono) else none } }

/-- Cause DOWN at once, and the marks, after a change of a link's state or policy (R126). -/
def State.evalUp (s : State) : State :=
  let s := s.trackPref
  let a := s.activeUp
  let lost := s.linkState a = 0 || (s.linkState a = 3 && !s.fbit (pgLink a) LINK.POLICY.VIDEO_UNAUTH)
  if lost && s.usable (1 - a) then s.switchUp 1 else s.showActive

/-- A new frame begins on a link: no burst has arrived in it yet. -/
def State.unseeBurst (s : State) (n : Nat) : State := s.setLink n { s.link n with burstSeen := false }

/-- At a frame boundary: causes DOWN, COMMAND, LOSS and REVERT, in this order (R126). -/
def State.boundaryUp (s : State) : State :=
  let a := s.activeUp
  let other := 1 - a
  let seen (n : Nat) : Bool := (s.link n).burstSeen
  let run := if !seen a && seen other then s.transport.lossRun + 1 else 0
  let s := ({ s with transport := { s.transport with lossRun := run } }.unseeBurst 0).unseeBurst 1
  let s := s.evalUp
  if s.activeUp ≠ a then s
  else
    let frames := s.fget (pgLink 0) LINK.UPSEL.LOSS_FRAMES
    let pref := s.fget (pgLink 0) LINK.UPSEL.PREF
    let held := match s.transport.prefUsableSince with
      | some t => t + s.fget (pgLink 0) LINK.UPSEL.HOLDOFF_MS * 1000000 ≤ s.mono
      | none => false
    if s.transport.commandPending && s.usable other then s.switchUp 4
    else
      let s := { s with transport := { s.transport with commandPending := false } }
      if frames ≠ 0 && frames ≤ run then s.switchUp 2
      else if s.fbit (pgLink 0) LINK.UPSEL.REVERT && a ≠ pref && held then s.switchUp 3
      else s

/-- REVERT_HOLDOFF: the preferred upstream has been usable for HOLDOFF_MS (R126). -/
def State.revertHoldoff (s : State) : State :=
  match s.transport.prefUsableSince with
  | some t => s.advanceTo (t + s.fget (pgLink 0) LINK.UPSEL.HOLDOFF_MS * 1000000)
  | none => s

/-! ### A link's state -/

/-- A change of LINK_STAT.STATE: a packet of REEL4 tells it, and the upstreams are judged (R126, R379). -/
def State.setLinkState (s : State) (n st auth : Nat) : State :=
  let old := s.linkState n
  let s := (s.fset (pgLink n) LINK.LINK_STAT.STATE st).fset (pgLink n) LINK.LINK_STAT.AUTH_RESULT auth
  let s :=
    if old = st then s
    else
      let reason := s.fget (pgLane (4 * n)) LANE.TRAIN_STAT.FAIL_REASON
      s.reelPush 4 0 [n + st * 8 + reason * 64 + auth * 2 ^ 11, s.now % 2 ^ 32, s.now / 2 ^ 32]
  s.evalUp

/-! ### Authentication (R127, R128) -/

/-- A single-cell message's tag: TYPE, FIRST and LAST (R106). -/
def singleTag (type : Nat) : Nat := type + 32 + 64

/-- The body of an AUTH cell. -/
def authBody (sender partner kind value : Nat) : Nat :=
  sender % 512 + partner % 512 * 2 ^ 9 + kind * 2 ^ 18 + value % 2 ^ 128 * 2 ^ 64

/-- An AUTH cell as this device sends it: the body of R128's table, which leaves bits [63:20] 0 (log 32). -/
def State.sendAuth (s : State) (n kind value : Nat) : State :=
  let body := authBody s.deviceId (s.fget (pgLink n) LINK.LINK_STAT.PARTNER_ID) kind value
  s.emit (.cell n (bchEncode body (singleTag 2)))

/-- The message that a proof covers: "NVAU", both IDs, the partner's nonce and the sender's own (R128). -/
def proofMessage (sender partner partnerNonce ownNonce : Nat) : List Nat :=
  [0x4E, 0x56, 0x41, 0x55] ++ leBytes sender 2 ++ leBytes partner 2 ++ leBytes partnerNonce 16 ++ leBytes ownNonce 16

/-- This device's proof to its partner. -/
def State.sendProof (s : State) (n : Nat) : State :=
  let l := s.link n
  match l.authKey with
  | some k =>
    let m := proofMessage s.deviceId (s.fget (pgLink n) LINK.LINK_STAT.PARTNER_ID) l.partnerNonce l.ownNonce
    s.sendAuth n 0 (ofLeBytes (cmac k m))
  | none => s

/-- An exchange ends without a valid proof (R127). -/
def State.authFail (s : State) (n result : Nat) : State :=
  let s := s.setLink n { s.link n with exchanging := false, authSince := s.mono }
  let s := (s.finc (pgLink n) LINK.AUTH_CNT.FAIL).setLinkState n 3 result
  s.evt (pgLink n) 11

/-- The session key of LINK4: "NVSK", then the nonces of the lower-ID and of the higher-ID side (R128). -/
def State.sessionKey (s : State) (n key : Nat) : Nat :=
  let l := s.link n
  let lower := s.deviceId < s.fget (pgLink n) LINK.LINK_STAT.PARTNER_ID
  let a := if lower then l.ownNonce else l.partnerNonce
  let b := if lower then l.partnerNonce else l.ownNonce
  ofLeBytes (cmac key ([0x4E, 0x56, 0x53, 0x4B] ++ leBytes a 16 ++ leBytes b 16))

/-- A valid proof makes the link UP_TRUSTED; on LINK4 the session key is taken and queued MIRROR messages leave
(R127, R128, R481). -/
def State.authOk (s : State) (n key : Nat) : State :=
  let s := if n = 4 then { s with transport := { s.transport with session := some (s.sessionKey n key) } } else s
  let s := s.setLink n { s.link n with exchanging := false }
  let s := ((s.finc (pgLink n) LINK.AUTH_CNT.OK).setLinkState n 2 1).evt (pgLink n) 10
  if n = 4 then s.flushMirror else s

/-- AUTH_PROOF_RX: the body of the partner's proof is judged (R127). -/
def State.authProof (s : State) (n body : Nat) : State :=
  let l := s.link n
  if s.linkState n = 0 || !l.exchanging then s
  else
    match l.authKey with
    | none => s.authFail n 5
    | some k =>
      let partner := s.fget (pgLink n) LINK.LINK_STAT.PARTNER_ID
      if bitsOf body 0 9 ≠ partner then s.authFail n 4
      else
        let m := proofMessage partner s.deviceId l.ownNonce l.partnerNonce
        if bitsOf body 9 9 = s.deviceId && ofLeBytes (cmac k m) = bitsOf body 64 128 then s.authOk n k
        else s.authFail n 2

/-- AUTH_CHALLENGE_RX: the partner's fresh nonce serves the next proofs, and this side's proof answers it (R127, R128). -/
def State.authChallenge (s : State) (n body : Nat) : State :=
  if s.linkState n = 0 then s
  else (s.setLink n { s.link n with partnerNonce := bitsOf body 64 128 }).sendProof n

/-- AUTH_TIMEOUT: no valid proof within 10 ms (R127). -/
def State.authTimeout (s : State) (n : Nat) : State :=
  let l := s.link n
  if s.linkState n = 0 || !l.exchanging then s
  else (s.advanceTo (l.authSince + 10000000)).authFail n (if l.authKey.isNone then 5 else 3)

/-- AUTH_RETRY: an untrusted link repeats the exchange every 1 s, starting with a CHALLENGE (R127). -/
def State.authRetry (s : State) (n : Nat) : State :=
  let l := s.link n
  if s.linkState n ≠ 3 || l.exchanging then s
  else
    let s := s.advanceTo (l.authSince + 1000000000)
    let (nonce, s) := s.fresh 128
    let s := s.setLink n { l with
      ownNonce := nonce.toNat, exchanging := true, authKey := s.transport.key, authSince := s.mono }
    s.sendAuth n 1 nonce.toNat

/-! ### UP and DOWN -/

/-- A link enters UP, and with it UP_AUTH_WAIT; its proof leaves (R127, R129). -/
def State.linkUp (s : State) (n rate : Nat) (snf : Bool) (partner ownNonce partnerNonce : Nat) : State :=
  let s := ((s.fset (pgLink n) LINK.LINK_STAT.RATE rate).fsetB (pgLink n) LINK.LINK_STAT.SNF snf).fset (pgLink n)
    LINK.LINK_STAT.PARTNER_ID partner
  let s := s.setLink n { s.link n with
    authSince := s.mono, authKey := s.transport.key, exchanging := true
    ownNonce := ownNonce, partnerNonce := partnerNonce }
  let s := (s.setLinkState n 1 0).evt (pgLink n) 8
  s.sendProof n

/-- A link leaves UP: open bursts end, and locks of its host master break (R46, R87). -/
def State.linkDown (s : State) (n : Nat) : State :=
  let s := s.truncateAll n
  let s := s.setLink n { s.link n with exchanging := false, bursts := [] }
  let s := ((s.fset (pgLink n) LINK.LINK_STAT.RATE 0).fset (pgLink n) LINK.LINK_STAT.SNF 0).setLinkState n 0 0
  (s.evt (pgLink n) 9).breakLocksOf (n + 1)

/-! ### Commands (R129, R133) -/

/-- The key check value: the first 3 bytes of AES-128 under the key of a zero block (R129). -/
def keyCheck (key : Nat) : Nat := ofLeBytes ((aes128 (leBytes key 16) (List.replicate 16 0)).take 3)

/-- What KEY_STAT shows. -/
def State.showKey (s : State) : State :=
  match s.transport.key with
  | some k => (s.fset (pgLink 0) LINK.KEY_STAT.PRESENT 1).fset (pgLink 0) LINK.KEY_STAT.KCV (keyCheck k)
  | none => (s.fset (pgLink 0) LINK.KEY_STAT.PRESENT 0).fset (pgLink 0) LINK.KEY_STAT.KCV 0

/-- Who may load a key: MGT, BENCH, a host master on an UP_TRUSTED link, and while no key is held a host master on a link
under the no-key exception (R129). -/
def State.mayLoadKey (s : State) (m : Nat) : Bool :=
  m = 9 || m = 8 || (1 ≤ m && m ≤ 6 && (s.linkState (m - 1) = 2 || (s.transport.key.isNone && s.noKey (m - 1))))

/-- KEY_LOAD: the key is taken from AUTH_KEY0 to AUTH_KEY3, which are zeroed (R133). -/
def State.keyLoad (s : State) : State :=
  let f := LINK.AUTH_KEY.KEY
  let k := (List.range 4).foldl (fun v i => v + s.fget (pgLink 0) (f i) * 2 ^ (32 * i)) 0
  let s := (List.range 4).foldl (fun s i => s.fset (pgLink 0) (f i) 0) s
  { s with transport := { s.transport with key := some k } }.showKey

/-- KEY_CLEAR: the key is erased (R133). -/
def State.keyClear (s : State) : State := { s with transport := { s.transport with key := none } }.showKey

end Sys2Proof.Machine
end

