-- ==== Sys2Proof/Machine/Lanes.lean ====
section
/-! DEFINITION. Serial lanes (chapter 03): the training state machine of a link, equalisation and the figure of merit,
alignment and skew, the sentinel checker and the PRBS checker. -/

namespace Sys2Proof.Machine

/-- A lane. -/
def State.lane (s : State) (l : Nat) : LaneSt := SMap.read {} s.lanes l

/-- Setting a lane. -/
def State.setLane (s : State) (l : Nat) (x : LaneSt) : State := { s with lanes := SMap.write {} s.lanes l x }

/-- The training state machine of a link. -/
def State.train (s : State) (n : Nat) : TrainSt := SMap.read {} s.trains n

/-- Setting it. -/
def State.setTrain (s : State) (n : Nat) (x : TrainSt) : State := { s with trains := SMap.write {} s.trains n x }

/-- The lanes of a link (R67). -/
def lanesOf (n : Nat) : List Nat := [4 * n, 4 * n + 1, 4 * n + 2, 4 * n + 3]

/-- The state that a lane shows (R82): 0 OFF, 1 SEEK, 2 LEADER, 3 CHANGE, 4 TUNE, 5 CONFIRM, 6 RUN, 7 TEST. -/
def State.laneState (s : State) (l : Nat) : Nat := s.fget (pgLane l) LANE.TRAIN_STAT.STATE

/-- The state of a link's machine: TEST while any of its lanes is in TEST (R82, R86). -/
def State.trainState (s : State) (n : Nat) : Nat :=
  if (lanesOf n).any (fun l => s.laneState l = 7) then 7 else s.laneState (4 * n)

/-- The rate code in use. -/
def State.trainRate (s : State) (n : Nat) : Nat := s.fget (pgLane (4 * n)) LANE.TRAIN_STAT.RATE

/-- The ceiling of R83. -/
def State.rateCeiling (s : State) (n : Nat) : Nat := s.fget (pgLane (4 * n)) LANE.TRAIN_STAT.CEILING

/-- The count *k*. -/
def State.attempts (s : State) (n : Nat) : Nat := s.fget (pgLane (4 * n)) LANE.TRAIN_STAT.ATTEMPTS

/-- A field on all four lane pages of a link. -/
def State.allLanes (s : State) (n : Nat) (f : Fld) (v : Nat) : State :=
  (lanesOf n).foldl (fun s l => s.fset (pgLane l) f v) s

/-- A link-wide event is raised on each of the four lane pages (R100). -/
def State.lanesEvt (s : State) (n b : Nat) : State := (lanesOf n).foldl (fun s l => s.evt (pgLane l) b) s

/-- A change of every lane's receiver. -/
def State.mapLanes (s : State) (n : Nat) (f : LaneSt → LaneSt) : State :=
  (lanesOf n).foldl (fun s l => s.setLane l (f (s.lane l))) s

/-! ### Dwell and the states (R82 to R84) -/

/-- The dwell in ms after *k* failed attempts. -/
def dwellMs (k : Nat) : Nat := if k = 0 then 0 else min (2 ^ (k - 1)) 1000

/-- What a lane forgets when it enters SEEK. -/
def LaneSt.restart (x : LaneSt) : LaneSt := { signal := x.signal, inject := none }

/-- Entering SEEK: base rate, polarity undecided, a dwell of the length that *k* gives (R73, R82). -/
def State.enterSeek (s : State) (n : Nat) : State :=
  let ms := dwellMs (s.attempts n)
  let s := ((s.allLanes n LANE.TRAIN_STAT.STATE 1).allLanes n LANE.TRAIN_STAT.RATE 0).allLanes n LANE.TRAIN_STAT.POL_INV 0
  let s := (s.allLanes n LANE.DWELL.MS ms).mapLanes n LaneSt.restart
  s.setTrain n { s.train n with since := s.mono, dwellEnd := s.mono + ms * 1000000, dwellOver := ms = 0 }

/-- A link leaves RUN: it becomes DOWN (R87, R100). -/
def State.leaveRun (s : State) (n : Nat) : State :=
  if s.trainState n = 6 then
    let s := (lanesOf n).foldl (fun s l => s.fset (pgLane l) LANE.SENT_STAT.SYNC 0) s
    (s.linkDown n).lanesEvt n 9
  else s

/-- The ceiling is lowered below the present rate (R83). -/
def State.lowerCeiling (s : State) (n : Nat) : State :=
  let c := min (s.rateCeiling n) (s.trainRate n - 1)
  if c < s.rateCeiling n then (s.allLanes n LANE.TRAIN_STAT.CEILING c).lanesEvt n 11 else s

/-- The record of a state and a reason (R82, R567). -/
def State.recordFail (s : State) (n reason : Nat) : State :=
  (s.allLanes n LANE.TRAIN_STAT.FAIL_STATE (s.trainState n)).allLanes n LANE.TRAIN_STAT.FAIL_REASON reason

/-- "Fail" (R82): the record, *k*, SEEK and its dwell. -/
def State.trainFail (s : State) (n reason : Nat) (lower : Bool) : State :=
  let s := if lower then s.lowerCeiling n else s
  let s := (lanesOf n).foldl (fun s l => s.finc (pgLane l) LANE.TRAIN_CNT.FAILS) (s.recordFail n reason)
  let s := (s.lanesEvt n 10).leaveRun n
  (s.allLanes n LANE.TRAIN_STAT.ATTEMPTS (min (s.attempts n + 1) 255)).enterSeek n

/-- A commanded restart (R567). -/
def State.commandedRestart (s : State) (n reason : Nat) : State :=
  (((s.recordFail n reason).leaveRun n).allLanes n LANE.TRAIN_STAT.ATTEMPTS 0).enterSeek n

/-- The lanes of a link that are not in TEST enter OFF (R85, R86). -/
def State.enterOff (s : State) (n : Nat) : State :=
  let s := s.leaveRun n
  (lanesOf n).foldl (fun s l =>
    if s.laneState l = 7 then s
    else
      let s := ((s.fset (pgLane l) LANE.TRAIN_STAT.STATE 0).fset (pgLane l) LANE.TRAIN_STAT.RATE 0).fset (pgLane l)
        LANE.DWELL.MS 0
      s.setLane l (s.lane l).restart) s

/-- Every lane of a link may train: ENABLE = 1, the domain ON, none in TEST (R82). -/
def State.mayTrain (s : State) (n : Nat) : Bool :=
  s.domOn (9 + n) &&
  (lanesOf n).all (fun l => s.fbit (pgLane l) LANE.LANE_CFG.ENABLE && s.laneState l != 7)

/-- LANE_ENABLE: OFF is left for SEEK with *k* = 0 (R82). -/
def State.laneEnable (s : State) (n : Nat) : State :=
  if s.mayTrain n && s.trainState n = 0 then (s.allLanes n LANE.TRAIN_STAT.ATTEMPTS 0).enterSeek n else s

/-- Setting a transmitter's taps in use. -/
def State.setTaps (s : State) (l : Nat) (cm2 cm1 c0 cp1 : Int) : State :=
  (((s.fsetI (pgLane l) LANE.TX_FIR.CM2 cm2).fsetI (pgLane l) LANE.TX_FIR.CM1 cm1).fsetI (pgLane l)
    LANE.TX_FIR.C0 c0).fsetI (pgLane l) LANE.TX_FIR.CP1 cp1

/-- A legal set of taps (R74). -/
def legalTaps (cm2 cm1 c0 cp1 : Int) : Bool :=
  32 ≤ c0 && cm2.natAbs + cm1.natAbs + c0.natAbs + cp1.natAbs ≤ 64

/-- The set that a transmitter applies at the start of a PAM4 rate (R74). -/
def State.startTaps (s : State) (l : Nat) : State :=
  if s.fbit (pgLane l) LANE.LANE_CFG.FIR_MODE then
    s.setTaps l (s.fgetI (pgLane l) LANE.TX_FIR_SET.CM2) (s.fgetI (pgLane l) LANE.TX_FIR_SET.CM1)
      (s.fgetI (pgLane l) LANE.TX_FIR_SET.C0) (s.fgetI (pgLane l) LANE.TX_FIR_SET.CP1)
  else s.setTaps l 0 (-4) 56 (-4)

/-- What a lane forgets when it enters a state at a PAM4 rate. -/
def LaneSt.entering (x : LaneSt) : LaneSt :=
  { x with
    readySent := false, readyRcvd := false, passed := false, confRcvd := false, fomHist := [], fomBad := false
    failSince := none, badSkew := 0, badMarkers := 0 }

/-- Entering a state of the climb. -/
def State.enterClimb (s : State) (n st : Nat) : State :=
  let s := (s.allLanes n LANE.TRAIN_STAT.STATE st).mapLanes n LaneSt.entering
  s.setTrain n { s.train n with since := s.mono }

/-- Entering CHANGE toward a rate (R74, R82). -/
def State.enterChange (s : State) (n rate : Nat) : State :=
  let s := (s.allLanes n LANE.TRAIN_STAT.RATE rate).enterClimb n 3
  let s := s.mapLanes n (fun x => { x with lock := false, aligned := false })
  (lanesOf n).foldl State.startTaps s

/-- SNF_REQ on both sides, with SNF_CAP of both (R124). The leader message carries SNF_CAP alone, so the partner's SNF_REQ is a
free value (log 33). -/
def State.agreeSnf (s : State) (n : Nat) : Bool × State :=
  let cap := s.fbit (pgLane (4 * n)) LANE.PARTNER.SNF_CAP
  if cap && s.fbit (pgLink n) LINK.POLICY.SNF_REQ then
    let (b, s) := s.fresh 1
    (b = 1, s)
  else (false, s)

/-- Entering RUN: the link is UP (R68, R82, R91, R127). -/
def State.enterRun (s : State) (n : Nat) : State :=
  let s := (s.enterClimb n 6).mapLanes n (fun x => { x with sentinel := none, aligned := true })
  let s := (lanesOf n).foldl (fun s l => s.finc (pgLane l) LANE.TRAIN_CNT.RUNS) s
  let partner := s.fget (pgLane (4 * n)) LANE.PARTNER.DEVICE_ID
  let t := s.train n
  let s := s.setTrain n { t with runSince := s.mono, lastRunPartner := some partner }
  let r := s.agreeSnf n
  (r.2.linkUp n (r.2.trainRate n) r.1 partner t.ownNonce t.partnerNonce).lanesEvt n 8

/-! ### Base-rate messages (R79 to R82) -/

/-- The dwell has elapsed. -/
def State.dwellOver (s : State) (n : Nat) : Bool := (s.train n).dwellOver || (s.train n).dwellEnd ≤ s.mono

/-- SEEK is left for LEADER when its condition holds; the attempt's nonce is drawn (R80, R82). -/
def State.trySeek (s : State) (n : Nat) : State :=
  if s.trainState n = 1 && s.dwellOver n &&
      (lanesOf n).all (fun l => (s.lane l).signal && (s.lane l).lock && 4 ≤ (s.lane l).validRun) then
    let (nonce, s) := s.fresh 128
    let s := s.allLanes n LANE.TRAIN_STAT.STATE 2
    (s.mapLanes n (fun x => { x with leader := none, ackRun := 0 })).setTrain n { s.train n with
      since := s.mono, ownNonce := nonce.toNat }
  else s

/-- SEEK_DWELL_END (R82). -/
def State.seekDwellEnd (s : State) (n : Nat) : State :=
  if s.trainState n = 1 then
    let s := s.advanceTo (s.train n).dwellEnd
    (s.setTrain n { s.train n with dwellOver := true }).trySeek n
  else s

/-- A valid message has arrived on a lane: signal, lock, comma alignment and polarity stand, and the run grows
(R73, R79). -/
def State.countMessage (s : State) (l : Nat) (swapped ack : Bool) : State :=
  let x := s.lane l
  let s := s.setLane l { x with
    signal := true, lock := true, validRun := x.validRun + 1, ackRun := if ack then x.ackRun + 1 else 0 }
  if s.trainState (l / 4) = 1 then s.fsetB (pgLane l) LANE.TRAIN_STAT.POL_INV swapped else s

/-- SEEK_MESSAGE_RX: in LEADER it fails the attempt with PARTNER_RESTART (R82). -/
def State.seekMessage (s : State) (l : Nat) (swapped : Bool) : State :=
  let n := l / 4
  if s.trainState n = 1 then (s.countMessage l swapped false).trySeek n
  else if s.trainState n = 2 then s.trainFail n 3 false
  else s

/-- A leader message's fields (R80), from its 32 bytes as a number. -/
def leaderOf (m : Nat) : LeaderInfo :=
  { version := bitsOf m 8 8
    deviceId := bitsOf m 16 9
    link := bitsOf m 25 3
    position := bitsOf m 28 2
    ack := bit m 30
    maxRate := bitsOf m 32 2
    precode := bit m 34
    snf := bit m 35
    challenge := bitsOf m 64 128 }

/-- What PARTNER shows (R97). -/
def State.showPartner (s : State) (l : Nat) (i : LeaderInfo) : State :=
  let p := pgLane l
  (((((s.fset p LANE.PARTNER.DEVICE_ID i.deviceId).fset p LANE.PARTNER.LINK i.link).fset p LANE.PARTNER.POSITION
    i.position).fset p LANE.PARTNER.MAX_RATE i.maxRate).fsetB p LANE.PARTNER.PRECODE_REQ i.precode).fsetB p
    LANE.PARTNER.SNF_CAP i.snf

/-- The checks of R81 on what the four lanes received, in order. -/
def leaderCheck (infos : List LeaderInfo) (ownId cap ceiling : Nat) : Option Nat :=
  let a := infos.headD ⟨1, 0, 0, 0, false, 0, false, false, 0⟩
  if infos.any (fun i => i.version ≠ 1) then some 5
  else if infos.any (fun i => i.deviceId ≠ a.deviceId || i.link ≠ a.link || i.challenge ≠ a.challenge) then some 6
  else if (infos.map (·.position)) ≠ [0, 1, 2, 3] then some 7
  else if a.deviceId = ownId then some 8
  else if infos.any (fun i => min (min i.maxRate cap) ceiling = 0) then some 9
  else none

/-- LEADER is left when 8 consecutive valid messages with ACK = 1 have come on every lane (R81 to R83). -/
def State.tryLeader (s : State) (n : Nat) : State :=
  let infos := (lanesOf n).filterMap (fun l => (s.lane l).leader)
  if s.trainState n = 2 && infos.length = 4 && (lanesOf n).all (fun l => 8 ≤ (s.lane l).ackRun) then
    let a := infos.headD ⟨1, 0, 0, 0, false, 0, false, false, 0⟩
    let other : Bool := match (s.train n).lastRunPartner with
      | some p => a.deviceId != p
      | none => false
    let s := if other then s.allLanes n LANE.TRAIN_STAT.CEILING 3 else s
    let cap := s.fget (pgLane (4 * n)) LANE.LANE_CFG.RATE_CAP
    match leaderCheck infos s.deviceId cap (s.rateCeiling n) with
    | some reason => s.trainFail n reason false
    | none =>
      let rate := infos.foldl (fun r i => min r i.maxRate) (min cap (s.rateCeiling n))
      (s.setTrain n { s.train n with agreed := rate, partnerNonce := a.challenge }).enterChange n 1
  else s

/-- LEADER_MESSAGE_RX: a base-rate message of 32 bytes, with whether its code groups decoded (R79 to R82). -/
def State.leaderMessage (s : State) (l : Nat) (codeOk swapped : Bool) (bytes : List Nat) : State :=
  let n := l / 4
  let st := s.trainState n
  if st ≠ 1 ∧ st ≠ 2 then s
  else if !codeOk then s.setLane l { s.lane l with validRun := 0, ackRun := 0 }
  else if bytes.length ≠ 32 || crc32c (bytes.take 28) ≠ ofLeBytes (bytes.drop 28) then s
  else if bytes.headD 0 = 0x53 then s.seekMessage l swapped
  else if bytes.headD 0 ≠ 0x4C then s
  else
    let i := leaderOf (ofLeBytes bytes)
    let s := (s.countMessage l swapped i.ack).showPartner l i
    let s := s.setLane l { s.lane l with leader := some i }
    if st = 1 then
      (s.setTrain n { s.train n with
        dwellOver := true, dwellEnd := min (s.train n).dwellEnd s.mono }).trySeek n
    else s.tryLeader n

/-! ### Timeouts, loss and stability -/

/-- How long a state may last from its entry, in ns (R82). -/
def trainLimit : Nat → Option Nat
  | 1 => some 10000000
  | 2 => some 20000000
  | 3 => some 1000000
  | 4 => some 50000000
  | 5 => some 5000000
  | _ => none

/-- TRAIN_TIMEOUT (R82, R83). -/
def State.trainTimeout (s : State) (n : Nat) : State :=
  let st := s.trainState n
  match trainLimit st with
  | none => s
  | some d => (s.advanceTo ((if st = 1 then (s.train n).dwellEnd else (s.train n).since) + d)).trainFail n 2 (st = 4)

/-- Loss of signal or of lock on a lane (R82, R85, R87). -/
def State.lossOfSignal (s : State) (l : Nat) (signal : Bool) : State :=
  let n := l / 4
  let s := s.setLane l { s.lane l with
    signal := (s.lane l).signal && signal, lock := false, aligned := false, validRun := 0, ackRun := 0 }
  let st := s.trainState n
  if st = 2 || st = 4 || st = 5 || st = 6 then s.trainFail n 1 false else s

/-- LANE_LOCK: lock and marker alignment at the new rate on every lane (R82). -/
def State.laneLock (s : State) (n : Nat) : State :=
  if s.trainState n = 3 then
    (s.mapLanes n (fun x => { x with signal := true, lock := true, aligned := true })).enterClimb n 4
  else s

/-- RUN_STABLE: 1 s in RUN without a break (R84). -/
def State.runStable (s : State) (n : Nat) : State :=
  if s.trainState n = 6 then
    (s.advanceTo ((s.train n).runSince + 1000000000)).allLanes n LANE.TRAIN_STAT.ATTEMPTS 0
  else s

/-! ### Skew (R105) -/

/-- A lane's skew as measured at a marker; two in a row above 64 ns fail the attempt (R105). -/
def State.laneSkew (s : State) (l skew : Nat) : State :=
  let n := l / 4
  let x := s.lane l
  let s := s.setLane l { x with skew := skew, badSkew := if 64 < skew then x.badSkew + 1 else 0 }
  let worst := (lanesOf n).foldl (fun m l => max m (s.lane l).skew) 0
  let s := s.fset (pgLink n) LINK.LINK_STAT.SKEW (min worst 127)
  if 2 ≤ (s.lane l).badSkew then s.trainFail n 16 false else s

/-- Whether a marker has the pattern and a valid CRC (R103). -/
def markerOk (m : Nat) : Bool :=
  bitsOf m 0 64 = 0xA5C35A3C96E10F78 && crc32c (leBytes (bitsOf m 0 256) 32) = bitsOf m 256 32

/-- MARKER_RX: an alignment marker in RUN (R103, R105). -/
def State.markerRx (s : State) (l marker skew : Nat) : State :=
  if s.laneState l ≠ 6 then s
  else
    let x := s.lane l
    if markerOk marker then
      let good := x.goodMarkers + 1
      (s.setLane l { x with goodMarkers := good, badMarkers := 0, aligned := x.aligned || 2 ≤ good }).laneSkew l skew
    else
      let bad := x.badMarkers + 1
      let s := s.setLane l { x with goodMarkers := 0, badMarkers := bad }
      if 3 ≤ bad then s.lossOfSignal l true else s

/-! ### Training frames (R74, R82) -/

/-- A coefficient request: a legal set is taken, and any other request is answered AT_LIMIT (R74). -/
def State.coefRequest (s : State) (l : Nat) (d2 d1 d0 dp : Int) : State :=
  if s.fbit (pgLane l) LANE.LANE_CFG.FIR_MODE then s
  else
    let a := s.fgetI (pgLane l) LANE.TX_FIR.CM2 + d2
    let b := s.fgetI (pgLane l) LANE.TX_FIR.CM1 + d1
    let c := s.fgetI (pgLane l) LANE.TX_FIR.C0 + d0
    let d := s.fgetI (pgLane l) LANE.TX_FIR.CP1 + dp
    if legalTaps a b c d then s.setTaps l a b c d else s

/-- TUNE is left when READY has been sent and received on every lane (R82). -/
def State.tryTune (s : State) (n : Nat) : State :=
  if s.trainState n = 4 && (lanesOf n).all (fun l => (s.lane l).readySent && (s.lane l).readyRcvd) then
    s.enterClimb n 5
  else s

/-- CONFIRM is left when every lane has passed and the partner confirms every lane (R82). -/
def State.tryConfirm (s : State) (n : Nat) : State :=
  if s.trainState n = 5 && (lanesOf n).all (fun l => (s.lane l).passed && (s.lane l).confRcvd) then
    if s.trainRate n = (s.train n).agreed then s.enterRun n else s.enterChange n (s.trainRate n + 1)
  else s

/-- TRAINING_FRAME_RX: the partner's flags and coefficient requests, and the skew of the frame's marker (R82, R105). -/
def State.trainingFrame (s : State) (l : Nat) (ready confirm fail : Bool) (d2 d1 d0 dp : Int) (skew : Nat) : State :=
  let n := l / 4
  let st := s.trainState n
  if st ≠ 3 ∧ st ≠ 4 ∧ st ≠ 5 then s
  else if st = 5 && fail then s.trainFail n 4 true
  else
    let s := if st = 4 then s.coefRequest l d2 d1 d0 dp else s
    let x := s.lane l
    let s := s.setLane l { x with
      readyRcvd := x.readyRcvd || (st = 4 && ready), confRcvd := x.confRcvd || (st = 5 && confirm) }
    let s := s.laneSkew l skew
    if s.trainState n = st then (s.tryTune n).tryConfirm n else s

/-! ### Equalisation and the figure of merit (R75 to R77) -/

/-- Windows of the last 2 ms, and the last one before them. -/
def keepHist (now : Nat) (l : List (Nat × Nat)) : List (Nat × Nat) :=
  let inside := l.takeWhile (fun e => now < e.1 + 2000000)
  inside ++ (l.drop inside.length).take 1

/-- READY = 1: FOM is at least CONFIRM and has risen less than 0.3 dB over the last 2 ms (R82). -/
def State.readyNow (s : State) (l fom : Nat) : Bool :=
  match (s.lane l).fomHist.getLast? with
  | some (t, v) => t + 2000000 ≤ s.mono && s.fget (pgLane l) LANE.FOM_THR.CONFIRM ≤ fom && fom < v + 3
  | none => false

/-- The CTLE step that the last window tried is kept or reverted (R75). -/
def State.judgeStep (s : State) (l fom : Nat) : State :=
  let x := s.lane l
  let x := { x with blockUp := x.blockUp - 1, blockDown := x.blockDown - 1 }
  match x.trial with
  | none => s.setLane l x
  | some (before, up, was) =>
    let x := { x with trial := none }
    if was ≤ fom + 2 then s.setLane l x
    else
      (s.setLane l { x with
        blockUp := if up then 64 else x.blockUp, blockDown := if up then x.blockDown else 64 }).fset (pgLane l)
        LANE.RX_EQ.CTLE before

/-- The receiver tries a CTLE step (R75). -/
def State.tryStep (s : State) (l fom : Nat) (up : Bool) : State :=
  let x := s.lane l
  let c := s.fget (pgLane l) LANE.RX_EQ.CTLE
  if (up && (x.blockUp ≠ 0 || c = 15)) || (!up && (x.blockDown ≠ 0 || c = 0)) then s
  else (s.setLane l { x with trial := some (c, up, fom) }).fset (pgLane l) LANE.RX_EQ.CTLE (if up then c + 1 else c - 1)

/-- The FFE and DFE taps that adaptation has reached. -/
def State.showEq (s : State) (l ffe dfe : Nat) : State :=
  let p := pgLane l
  let s := ((s.fset p LANE.RX_EQ.FM1 ffe).fset p LANE.RX_EQ.F0 (ffe >>> 8)).fset p LANE.RX_EQ.FP1 (ffe >>> 16)
  (List.range 12).foldl (fun s i => s.fset p (LANE.DFE.TAP (i / 4) (i % 4)) (dfe >>> (8 * i))) s

/-- FOM_WINDOW_DONE: a window ends with its figure of merit, the taps that adaptation has reached, and the CTLE step that the
receiver tries next, if any (R75 to R77, R82). -/
def State.fomWindow (s : State) (l fom ffe dfe : Nat) (step : Option Bool) : State :=
  let p := pgLane l
  let st := s.laneState l
  let fom := min fom 1023
  if st = 0 then s
  else
    let s := s.fset p LANE.FOM.NOW fom
    let s := s.fset p LANE.FOM.MIN (min fom (s.fget p LANE.FOM.MIN))
    let frozen := s.fbit p LANE.ADAPT_CTL.FREEZE
    let s :=
      if (st = 4 || st = 6 || st = 7) && !frozen then
        let s := (s.judgeStep l fom).showEq l ffe dfe
        match step with
        | some up => s.tryStep l fom up
        | none => s
      else s
    if st = 4 then
      let x := s.lane l
      let s := s.setLane l { x with fomHist := keepHist s.mono ((s.mono, fom) :: x.fomHist) }
      let s := if s.readyNow l fom then s.setLane l { s.lane l with readySent := true } else s
      s.tryTune (l / 4)
    else if st = 5 then
      if fom < s.fget p LANE.FOM_THR.CONFIRM then s.setLane l { s.lane l with fomBad := true } else s
    else if st = 6 then
      let s := if fom < s.fget p LANE.FOM_THR.LOW then s.evt p 12 else s
      let x := s.lane l
      s.setLane l { x with
        failSince := if fom < s.fget p LANE.FOM_THR.FAIL then some (x.failSince.getD s.mono) else none }
    else s

/-- CONFIRM_MEASURE_DONE: the 1 ms measurement of a lane, with the errors in the training pattern (R82, R83). -/
def State.confirmMeasure (s : State) (l errs bits : Nat) : State :=
  let n := l / 4
  if s.trainState n ≠ 5 then s
  else
    let s := s.advanceTo ((s.train n).since + 1000000)
    if !(s.lane l).fomBad && errs * 1000000 ≤ bits then
      (s.setLane l { s.lane l with passed := true }).tryConfirm n
    else s.trainFail n 10 true

/-- FOM_FAIL: every window of 1 ms fell below FAIL (R77, R82). -/
def State.fomFail (s : State) (l : Nat) : State :=
  match (s.lane l).failSince with
  | some t => if s.trainState (l / 4) = 6 then (s.advanceTo (t + 1000000)).trainFail (l / 4) 11 false else s
  | none => s

/-! ### Sentinel counters (R90, R91) -/

/-- The next bit of PRBS31 after 31 bits, the newest in bit 0, and the 31 bits that follow (R90). -/
def prbs31 (h : Nat) : Nat × Nat :=
  let b := (h >>> 30 + h >>> 27) % 2
  (b, (h * 2 + b) % 2 ^ 31)

/-- Bits of a cell compared with the continuation, first bit first: the differing bits and the state after them. -/
def prbsCompare (h v : Nat) : Nat → Nat × Nat
  | 0 => (0, h)
  | k + 1 =>
    let (b, h') := prbs31 h
    let (e, h'') := prbsCompare h' (v / 2) k
    (e + (if b = v % 2 then 0 else 1), h'')

/-- Seeding from the first 31 bits of a cell: the state after its 256 bits. -/
def prbsSeed (v : Nat) : Nat :=
  let h := (List.range 31).foldl (fun h i => h * 2 + v >>> i % 2) 0
  (prbsCompare h 0 225).2

/-- SENTINEL_CELL_RX: the 256 payload bits of a sentinel slot as received (R91). -/
def State.sentinelRx (s : State) (l v : Nat) : State :=
  let p := pgLane l
  if l < 16 ∨ 19 < l ∨ s.laneState l ≠ 6 then s
  else
    let x := s.lane l
    match x.sentinel with
    | none => (s.setLane l { x with sentinel := some (prbsSeed v) }).fset p LANE.SENT_STAT.SYNC 1
    | some h =>
      let (errs, h') := prbsCompare h v 256
      if 64 < errs then
        ((s.setLane l { x with sentinel := some (prbsSeed v) }).finc p LANE.SENT_STAT.SYNC_LOSS).evt p 14
      else
        ((s.setLane l { x with sentinel := some h' }).fadd p LANE.SENT_ERR.COUNT errs).fadd64 p
          LANE.SENT_BITS_LO.COUNT LANE.SENT_BITS_HI.COUNT 256

/-! ### TEST (R92 to R95, R99, R566) -/

/-- Bits that a lane carries in the first `t` ns, at a rate code (R70). -/
def bitsIn (rate t : Nat) : Nat :=
  t * (match rate with
    | 0 => 12500
    | 1 => 265625
    | 2 => 531250
    | _ => 1062500) / 10000

/-- The checker's count runs up to the present (R92). -/
def State.prbsCatch (s : State) (l : Nat) : State :=
  let p := pgLane l
  let x := s.lane l
  match x.countedTo with
  | some t =>
    let r := s.fget p LANE.TRAIN_STAT.RATE
    (s.setLane l { x with countedTo := some s.mono }).fadd64 p LANE.PRBS_BITS_LO.COUNT LANE.PRBS_BITS_HI.COUNT
      (bitsIn r s.mono - bitsIn r t)
  | none => s

/-- The checker stops counting. -/
def State.prbsStop (s : State) (l : Nat) : State :=
  let s := s.prbsCatch l
  (s.setLane l { s.lane l with countedTo := none }).fset (pgLane l) LANE.PRBS_STAT.LOCK 0

/-- PRBS_LOCK (R92). -/
def State.prbsLock (s : State) (l : Nat) : State :=
  if s.laneState l = 7 && s.fbit (pgLane l) LANE.PRBS_CTL.CHK_EN && !s.fbit (pgLane l) LANE.PRBS_STAT.LOCK then
    (s.setLane l { s.lane l with countedTo := some s.mono }).fset (pgLane l) LANE.PRBS_STAT.LOCK 1
  else s

/-- PRBS_LOCK_LOSS: with the differing bits compared up to the loss (R92). -/
def State.prbsLoss (s : State) (l errs : Nat) : State :=
  if s.fbit (pgLane l) LANE.PRBS_STAT.LOCK then
    let s := (s.prbsStop l).fadd (pgLane l) LANE.PRBS_ERR.COUNT errs
    (s.finc (pgLane l) LANE.PRBS_STAT.LOCK_LOSS).evt (pgLane l) 13
  else s

/-- INJECT_DONE: the burst has left the generator; a checker on the lane's own path counts its *L* bits, and on any other path
`errs` bits come back to it (R94, R95). -/
def State.injectDone (s : State) (l errs : Nat) : State :=
  match (s.lane l).inject with
  | none => s
  | some len =>
    let lb := s.fget (pgLane l) LANE.PRBS_CTL.LOOPBACK
    let s := s.setLane l { s.lane l with inject := none }
    let s :=
      if s.fbit (pgLane l) LANE.PRBS_STAT.LOCK then
        s.fadd (pgLane l) LANE.PRBS_ERR.COUNT (if lb = 1 || lb = 2 then len else errs)
      else s
    if s.running (pgLane l) 0x12 then s.cmdDone (pgLane l) else s

/-- A lane leaves TEST for OFF (R566). -/
def State.leaveTest (s : State) (l : Nat) : State :=
  let s := s.prbsStop l
  let s := s.setLane l { s.lane l with inject := none }
  let s := if s.running (pgLane l) 0x12 then s.cmdFail (pgLane l) 0x23 else s
  (s.fset (pgLane l) LANE.TRAIN_STAT.STATE 0).fset (pgLane l) LANE.TRAIN_STAT.RATE 0

/-- The reasons for which lanes rest in OFF beside a lane in TEST or a disabled lane (R86). -/
def State.showPeers (s : State) (n : Nat) : State :=
  let test := (lanesOf n).any (fun l => s.laneState l = 7)
  let disabled := (lanesOf n).any (fun l => !s.fbit (pgLane l) LANE.LANE_CFG.ENABLE)
  (lanesOf n).foldl (fun s l =>
    if s.laneState l ≠ 0 then s
    else if disabled && s.fbit (pgLane l) LANE.LANE_CFG.ENABLE && !test then
      s.fset (pgLane l) LANE.TRAIN_STAT.FAIL_REASON 15
    else if test then
      s.fset (pgLane l) LANE.TRAIN_STAT.FAIL_REASON (if s.fbit (pgLane l) LANE.LANE_CFG.ENABLE then 14 else 15)
    else s) s

/-- TEST_ENTER (R86, R93, R99). -/
def State.testEnter (s : State) (l : Nat) : State :=
  let n := l / 4
  let s := s.enterOff n
  let s := (s.fset (pgLane l) LANE.TRAIN_STAT.STATE 7).fset (pgLane l) LANE.TRAIN_STAT.RATE
    (s.fget (pgLane l) LANE.PRBS_CTL.RATE)
  let s := if s.fbit (pgLane l) LANE.LANE_CFG.FIR_MODE then s.startTaps l else s
  s.showPeers n

/-- TEST_EXIT (R99). -/
def State.testExit (s : State) (l : Nat) : State :=
  let n := l / 4
  ((s.leaveTest l).showPeers n).laneEnable n

/-- RESET_CEILING (R83, R99). -/
def State.resetCeiling (s : State) (n : Nat) : State := s.allLanes n LANE.TRAIN_STAT.CEILING 3

/-! ### Commits (R84, R85, R88, R97, R98) -/

/-- The reasons of R98 for a commit of a lane page; `ps` are the pages that commit together. -/
def State.laneReasons (s : State) (ps : List Nat) (l : Nat) : List Nat :=
  let p := pgLane l
  let en := s.sget p LANE.LANE_CFG.ENABLE
  let cap := s.sget p LANE.LANE_CFG.RATE_CAP
  let equal := (lanesOf (l / 4)).all (fun m =>
    s.vget (if (lanesOf (l / 4)).all (fun m => ps.contains (pgLane m)) then ps else [p]) (pgLane m)
      LANE.LANE_CFG.ENABLE = en &&
    s.vget (if (lanesOf (l / 4)).all (fun m => ps.contains (pgLane m)) then ps else [p]) (pgLane m)
      LANE.LANE_CFG.RATE_CAP = cap)
  let prbs := [LANE.PRBS_CTL.GEN_EN, LANE.PRBS_CTL.CHK_EN, LANE.PRBS_CTL.GEN_POLY, LANE.PRBS_CTL.CHK_POLY,
    LANE.PRBS_CTL.LOOPBACK, LANE.PRBS_CTL.RATE, LANE.PRBS_CTL.PRECODE]
  reasons [
    (cap = 0, 0x10),
    (!equal, 0x11),
    (!legalTaps (s.sgetI p LANE.TX_FIR_SET.CM2) (s.sgetI p LANE.TX_FIR_SET.CM1) (s.sgetI p LANE.TX_FIR_SET.C0)
      (s.sgetI p LANE.TX_FIR_SET.CP1), 0x12),
    (s.laneState l ≠ 7 && prbs.any (s.changes p), 0x13),
    (s.sbit p LANE.PRBS_CTL.GEN_EN && s.sget p LANE.PRBS_CTL.LOOPBACK = 3, 0x14),
    (s.sget p LANE.FOM_THR.LOW < s.sget p LANE.FOM_THR.FAIL ||
      s.sget p LANE.FOM_THR.CONFIRM < s.sget p LANE.FOM_THR.LOW, 0x15)]

/-- Whether a field of a lane page differs between two states. -/
def movedBetween (s old : State) (p : Nat) (fs : List Fld) : Bool := fs.any (fun f => s.fget p f != old.fget p f)

/-- A commit has applied on lanes of link `n` (R84, R85, R88, R566). -/
def State.lanesApplied (s old : State) (n : Nat) : State :=
  let st := s.trainState n
  let firs := [LANE.TX_FIR_SET.CM2, LANE.TX_FIR_SET.CM1, LANE.TX_FIR_SET.C0, LANE.TX_FIR_SET.CP1]
  let hard := [LANE.LANE_CFG.PRECODE_RX, LANE.LANE_CFG.FIR_MODE] ++ firs
  let moved := (lanesOf n).any (fun l =>
    movedBetween s old (pgLane l) (hard ++ [LANE.LANE_CFG.ENABLE, LANE.LANE_CFG.RATE_CAP]))
  let restart := (lanesOf n).any (fun l =>
    movedBetween s old (pgLane l) hard || s.fget (pgLane l) LANE.LANE_CFG.RATE_CAP < s.fget (pgLane l)
      LANE.TRAIN_STAT.RATE)
  let disabled := (lanesOf n).any (fun l => !s.fbit (pgLane l) LANE.LANE_CFG.ENABLE)
  let s := (lanesOf n).foldl (fun s l =>
    if s.laneState l = 7 then
      if !s.fbit (pgLane l) LANE.LANE_CFG.ENABLE then s.leaveTest l
      else
        let s := if s.fbit (pgLane l) LANE.PRBS_CTL.CHK_EN then s.prbsCatch l else s.prbsStop l
        s.fset (pgLane l) LANE.TRAIN_STAT.RATE (s.fget (pgLane l) LANE.PRBS_CTL.RATE)
    else s) s
  if disabled then (s.enterOff n).showPeers n
  else if st = 0 || st = 7 || !moved then s.showPeers n
  else
    let s := s.allLanes n LANE.TRAIN_STAT.ATTEMPTS 0
    if restart then s.commandedRestart n 13 else s

/-- The domain of a link leaves ON: every lane enters OFF, the lanes in TEST too (R67, R85, R566). -/
def State.lanesDomainOff (s : State) (n : Nat) : State :=
  let s := (lanesOf n).foldl (fun s l => if s.laneState l = 7 then s.leaveTest l else s) s
  s.enterOff n

end Sys2Proof.Machine
end

