-- ==== Sys2Proof/Machine/Links.lean ====
section
/-! DEFINITION. Moasis cells on a link (chapter 04): checking, VIDEO ingest, forwarding, upward traffic and the commit
checks of the LINK pages. -/

namespace Sys2Proof.Machine

/-- A cell as its receiver takes it (R106, R108). -/
structure CellView where
  type : Nat
  take : Nat
  first : Bool
  last : Bool
  handle : Nat
  tag : Nat
  body : Nat
deriving DecidableEq, Repr

/-- The fields of a cell's tag bits (R106). -/
def cellView (data tag : Nat) : CellView :=
  { type := bitsOf tag 0 3, take := bitsOf tag 3 2, first := bit tag 5, last := bit tag 6, handle := bitsOf tag 7 4
    tag := tag, body := data }

/-- The fields of a cell before correction, which forwarding goes by (R122). -/
def rawView (word : Nat) : CellView := cellView (bchSplit word).1 (bchSplit word).2

/-- A cell is counted, checked and corrected; an uncorrectable cell is dropped (R108, R363, R366). -/
def State.checkCell (s : State) (n word : Nat) : Option CellView × State :=
  let p := pgLink n
  match bchDecode word with
  | .clean d t =>
    let v := cellView d t
    (some v, if v.type = 0 then s else s.fadd64 p LINK.CELLS_RX_LO.COUNT LINK.CELLS_RX_HI.COUNT 1)
  | .corrected d t y =>
    let s := (s.fadd64 p LINK.CELLS_RX_LO.COUNT LINK.CELLS_RX_HI.COUNT 1).finc p LINK.CELL_CORR.COUNT
    (some (cellView d t), s.report { src := p, cls := 0, synd := y, kind := 1 })
  | .uncorrectable y =>
    let s := (s.fadd64 p LINK.CELLS_RX_LO.COUNT LINK.CELLS_RX_HI.COUNT 1).finc p LINK.CELL_UNCORR.COUNT
    (none, s.report { src := p, cls := 1, synd := y, kind := 2 })

/-- Whether a link accepts a cell type (R101); `up` says that a CONTROL cell is an upward message. -/
def linkAccepts (n type : Nat) : Bool :=
  match type with
  | 0 => true
  | 1 => n = 0 || n = 1
  | 2 => n ≠ 4
  | 3 => n ≠ 4 && n ≠ 5
  | 4 => n ≠ 5
  | 5 => n = 4
  | 6 => n = 4
  | _ => false

/-- A cell of a type that its link does not accept (R101). -/
def State.wrongType (s : State) (n : Nat) : State := s.finc (pgLink n) LINK.MISC.WRONG_TYPE

/-! ### Forwarding downstream (R121, R122) -/

/-- The source feed of a downstream link (R121). -/
def State.sourceFeed (s : State) (d : Nat) : Nat :=
  match s.fget (pgLink d) LINK.POLICY.FWD_SRC with
  | 1 => 0
  | 2 => 1
  | _ => s.activeUp

/-- The enabled downstream links of a feed whose filter meets a range of IDs. -/
def State.routes (s : State) (n lo hi : Nat) : List Nat :=
  [2, 3].filter (fun d =>
    s.fbit (pgLink d) LINK.POLICY.FWD_EN && s.sourceFeed d = n &&
    lo ≤ s.fget (pgLink d) LINK.FILTER.HI && s.fget (pgLink d) LINK.FILTER.LO ≤ hi)

/-- Whether a downstream link sends VIDEO (R122, R127). -/
def State.sendsVideo (s : State) (d : Nat) : Bool :=
  s.linkState d = 2 || (s.linkState d ≠ 0 && s.fbit (pgLink d) LINK.POLICY.VIDEO_UNAUTH)

/-- A cell goes out on some links as it was received (R122). -/
def State.forwardCell (s : State) (ds : List Nat) (word : Nat) : State := ds.foldl (fun s d => s.emit (.cell d word)) s

/-- A range on the active upstream that lies neither in this device nor in any enabled filter counts as UNROUTED
(R121). -/
def State.unrouted (s : State) (n lo hi : Nat) : State :=
  let id := s.deviceId
  let any := [2, 3].any (fun d => s.fbit (pgLink d) LINK.POLICY.FWD_EN &&
    lo ≤ s.fget (pgLink d) LINK.FILTER.HI && s.fget (pgLink d) LINK.FILTER.LO ≤ hi)
  if n = s.activeUp && !(lo ≤ id && id ≤ hi) && !any then s.finc (pgLink n) LINK.FWD.UNROUTED else s

/-! ### VIDEO (R110 to R115) -/

/-- A burst with its last data cell seen completes its window, if it is written and has EOF (R114). -/
def Burst.completes (b : Burst) : Option (Nat × Nat) :=
  if b.write.isSome && b.eof && b.seen + 1 = b.count then some (b.win, b.frame) else none

/-- INGEST stops accepting blocks while its buffer is full, and during a switch or training of MEM (R115, R339, R340). -/
def State.ingestFull (s : State) : Bool :=
  1024 ≤ s.transport.ingest.length || s.mem.training.isSome

/-- One data cell of an open burst: written, dropped at the full buffer, dropped as uncorrectable, or past COUNT
(R112 to R115). -/
def State.burstData (s : State) (n : Nat) (b : Burst) (data : Option Nat) : State :=
  let drop (s : State) : State := if b.addressed then s.finc (pgLink n) LINK.VID_DROP.COUNT else s
  if b.count ≤ b.seen then drop s
  else
    let fin (s : State) : State :=
      match b.completes with
      | some (w, f) => s.windowDone w f
      | none => s
    match b.write, data with
    | some (first, tag), some d =>
      if s.ingestFull then
        fin (drop ((s.finc (pgLink n) LINK.INGEST_OVF.COUNT).evt (pgLink n) 15))
      else
        { s with transport := { s.transport with
            ingest := s.transport.ingest ++ [⟨first + b.seen, d, tag, n, b.completes⟩] } }
    | _, _ => fin (drop s)

/-- A burst header: where it is forwarded, and whether this device writes it (R111, R112, R121). -/
def State.burstOpen (s : State) (n word : Nat) (view : Option CellView) : Burst × State :=
  let raw := rawView word
  let fwd := (s.routes n (bitsOf raw.body 0 9) (bitsOf raw.body 9 9)).filter s.sendsVideo
  match view with
  | none => (⟨fwd, false, none, 0, 0, false, 0, 0⟩, s)
  | some v =>
    let lo := bitsOf v.body 0 9
    let hi := bitsOf v.body 9 9
    let w := bitsOf v.body 18 4
    let off := bitsOf v.body 32 24
    let count := bitsOf v.body 56 8
    let s := s.unrouted n lo hi
    let mine := lo ≤ s.deviceId && s.deviceId ≤ hi && count ≠ 0
    let p := pgLink 0
    let winOk := s.fbit p (LINK.WIN_BASE.EN w) && v.take = s.fget p (LINK.WIN_BASE.TAKE w) &&
      off + count ≤ s.fget p (LINK.WIN_CFG.SIZE w)
    let s := if mine then s.setLink n { s.link n with burstSeen := true } else s
    let s := if mine && !winOk then s.finc (pgLink n) LINK.VID_REJECT.WINDOW else s
    let write := if mine && winOk && n = s.activeUp && s.usable n then
        some (s.fget p (LINK.WIN_BASE.BASE w) + off, s.fget p (LINK.WIN_CFG.TAG w)) else none
    (⟨fwd, mine, write, w, bitsOf v.body 64 16, bit v.body 22, count, 0⟩, s)

/-- One VIDEO cell. An uncorrectable cell is taken at the place that its tag bits name (R110, R113, R122). -/
def State.videoCell (s : State) (n word : Nat) : State :=
  let (view, s) := s.checkCell n word
  let v := view.getD (rawView word)
  if v.type = 0 then s
  else if v.type ≠ 1 || !linkAccepts n 1 then s.wrongType n
  else
    let put (s : State) (b : Option Burst) : State :=
      s.setLink n { s.link n with bursts := SMap.write none (s.link n).bursts v.handle b }
    if v.first then
      let s :=
        if (SMap.read none (s.link n).bursts v.handle).isSome then
          (s.finc (pgLink n) LINK.VID_REJECT.HANDLE).truncate n v.handle
        else s
      let (b, s) := s.burstOpen n word view
      let s := s.forwardCell b.fwd word
      if view.isNone && b.fwd.isEmpty then s
      else if v.last then (put s (some b)).truncate n v.handle
      else put s (some b)
    else
      match SMap.read none (s.link n).bursts v.handle with
      | none => s.finc (pgLink n) LINK.VID_REJECT.HANDLE
      | some b =>
        let s := (s.forwardCell b.fwd word).burstData n b (view.map (·.body))
        let s := put s (some { b with seen := b.seen + 1 })
        if v.last then s.truncate n v.handle else s

/-- VIDEO_BURST_RX: cells of bursts in the link's order. On a link that is not UP nothing arrives; before trust VIDEO flows
only with VIDEO_UNAUTH = 1 (R127). -/
def State.videoRx (s : State) (n : Nat) (cells : List Nat) : State :=
  let st := s.linkState n
  if st = 0 || (st = 1 && !s.fbit (pgLink n) LINK.POLICY.VIDEO_UNAUTH) then s
  else cells.foldl (fun s c => s.videoCell n c) s

/-! ### Upward traffic (R125) -/

/-- Cells that wait in the upward queue. -/
def State.upwardCells (s : State) : Nat := s.transport.upward.foldl (fun k m => k + m.2.length) 0

/-- A message enters the upward queue of 256 cells, or is dropped and counted (R125). -/
def State.pushUpward (s : State) (n prio : Nat) (cells : List Nat) : State :=
  if s.upwardCells + cells.length ≤ 256 then
    { s with transport := { s.transport with upward := s.transport.upward ++ [(prio, cells)] } }
  else s.finc (pgLink n) LINK.FWD.UP_OVF

/-- The message that leaves next: SAFETY first, then in order of arrival (R125). -/
def nextUpward (q : List (Nat × List Nat)) : Option (Nat × List Nat) :=
  match q.find? (fun m => m.1 = 0) with
  | some m => some m
  | none => q.head?

/-- The upstream on which an upward message leaves: the active one, else the other; SAFETY needs UP_TRUSTED (R125). -/
def State.upwardLink (s : State) (prio : Nat) : Option Nat :=
  let ok (n : Nat) : Bool := if prio = 0 then s.linkState n = 2 else s.ctlOk n
  let a := s.activeUp
  if ok a then some a else if ok (1 - a) then some (1 - a) else none

/-- One queued message leaves, or is dropped where no upstream takes it (R125). -/
def State.flushUpward (s : State) : State :=
  match nextUpward s.transport.upward with
  | none => s
  | some m =>
    let s := { s with transport := { s.transport with upward := s.transport.upward.erase m } }
    match s.upwardLink m.1 with
    | some n => m.2.foldl (fun s c => s.emit (.cell n c)) s
    | none => s.finc (pgLink s.activeUp) LINK.FWD.UP_OVF

/-- Checking one more cell of a message: the views so far, and whether all could be used. -/
def State.checkNext (n : Nat) (x : List CellView × Bool × State) (c : Nat) : List CellView × Bool × State :=
  let y := x.2.2.checkCell n c
  (x.1 ++ y.1.toList, x.2.1 && y.1.isSome, y.2)

/-- Checking every cell of a message: the views of those that can be used, and whether all could. -/
def State.checkCells (s : State) (n : Nat) (cells : List Nat) : List CellView × Bool × State :=
  cells.foldl (State.checkNext n) ([], true, s)

/-- UPWARD_MESSAGE_RX: a CONTROL response or notice, or a SAFETY cell, from a child (R101, R125). -/
def State.upwardRx (s : State) (n : Nat) (cells : List Nat) : State :=
  if s.linkState n = 0 || cells.isEmpty then s
  else
    let (vs, ok, s) := s.checkCells n cells
    let v := vs.headD (cellView 0 0)
    if !ok then s
    else if !(n = 2 || n = 3) || (v.type ≠ 2 && v.type ≠ 3) || (v.type = 2 && !bit v.body 28) then s.wrongType n
    else
      let again := vs.map (fun v => bchEncode v.body v.tag)
      if v.type = 3 then
        if s.linkState n = 2 then s.pushUpward n 0 again else s
      else if s.ctlOk n then s.pushUpward n 2 again
      else s

/-! ### Commits (R131, R132) -/

/-- The reasons of R132. -/
def State.linkReasons (s : State) (n : Nat) : List Nat :=
  let p := pgLink n
  let unserved (off : Nat) : Bool :=
    (s.shadow (addrOf p off)).toNat &&& (0xFFFFFFFF - linkServed n off) != 0
  let wins := List.range 16
  let on (w : Nat) : Bool := s.sbit p (LINK.WIN_BASE.EN w)
  let base (w : Nat) : Nat := s.sget p (LINK.WIN_BASE.BASE w)
  let size (w : Nat) : Nat := s.sget p (LINK.WIN_CFG.SIZE w)
  reasons [
    ((n = 2 || n = 3) && s.sget p LINK.FILTER.HI < s.sget p LINK.FILTER.LO, 0x10),
    (unserved 0x044 || unserved 0x048 || unserved 0x04C ||
      ((n = 2 || n = 3) && s.sget p LINK.POLICY.FWD_SRC = 3), 0x11),
    ((n = 0 || n = 1 || n = 5) && s.sget p LINK.CTL_WINDOW.MS = 0, 0x12),
    (n = 0 && wins.any (fun w => on w && (size w = 0 || dramBlocks < base w + size w)), 0x13),
    (n = 0 && wins.any (fun w => on w && wins.any (fun v => v < w && on v &&
      overlaps (base w) (size w) (base v) (size v))), 0x14)]

/-- A commit of a LINK page has applied. -/
def State.linkApplied (s old : State) (n : Nat) : State :=
  let s :=
    if n = 0 && s.fget (pgLink 0) LINK.UPSEL.PREF ≠ old.fget (pgLink 0) LINK.UPSEL.PREF then
      { s with transport := { s.transport with prefUsableSince := none } }
    else s
  s.evalUp

/-! ### TIME, SAFETY and AUTH cells -/

/-- A single-cell message of a type on a link: its body and tag, if it can be used (R101, R108, R109). -/
def State.singleCell (s : State) (n type word : Nat) : Option CellView × State :=
  if s.linkState n = 0 then (none, s)
  else
    let (v, s) := s.checkCell n word
    match v with
    | none => (none, s)
    | some v =>
      if v.type ≠ type || !linkAccepts n type then (none, s.wrongType n)
      else if !v.first || !v.last then (none, s)
      else (some v, s)

/-- AUTH_PROOF_RX and AUTH_CHALLENGE_RX: an AUTH cell in a local slot (R104, R127, R128). -/
def State.authRx (s : State) (n word : Nat) : State :=
  if s.linkState n = 0 then s
  else
    match s.checkCell n word with
    | (none, s) => s
    | (some v, s) =>
      if v.type ≠ 2 then s
      else
        match bitsOf v.body 18 2 with
        | 0 => s.authProof n v.body
        | 1 => s.authChallenge n v.body
        | _ => s

end Sys2Proof.Machine
end

