-- ==== Sys2Proof/Machine/Time.lean ====
section
/-! DEFINITION. System time, its distribution and lock, the clapper inputs and slot phases, modes and still mode
(chapter 05). -/

namespace Sys2Proof.Machine

/-! ### The count and its boundaries (R135, R145) -/

/-- The clock runs until the count reaches a value, in 2⁻¹⁶ ns. -/
def State.advanceSys (s : State) (v : Nat) : State :=
  if s.time.sys < v then s.advanceTo (s.mono + ceilDiv (v - s.time.sys) 65536) else s

/-- The system time of a boundary after ORIGIN, in 2⁻¹⁶ ns. -/
def State.boundarySys (s : State) (k : Int) : Nat := ((s.time.origin : Int) + k * s.period).toNat

/-- The frame number of the boundary *k* after ORIGIN. -/
def State.frameAt (s : State) (k : Int) : Nat := (((s.time.frame0 : Int) + k) % 65536).toNat

/-- A step of the count: the next boundary is the first one later than the stepped count (R145). -/
def State.stepCount (s : State) (v : Nat) : State :=
  let k := ((v : Int) - s.time.origin) / (max 1 s.period : Nat)
  let s := { s with time := { s.time with sys := v % 2 ^ 80, k := k } }
  s.fset pgTime TIME.FRAME.NUMBER (s.frameAt k)

/-- The boundary of the next frame arrives: its number is in force and BOUNDARY is raised (R145, R146, R151). -/
def State.openFrame (s : State) : State :=
  let k := s.time.k + 1
  let s := s.advanceSys (s.boundarySys k)
  let s := { s with time := { s.time with k := k, boundaryAt := s.mono, blanking := false } }
  (s.fset pgTime TIME.FRAME.NUMBER (s.frameAt k)).evt pgTime 11

/-! ### Synchronisation states (R139, R140, R143) -/

/-- What a link's SYNC cells tell. -/
def State.sync (s : State) (n : Nat) : SyncSt := SMap.read {} s.time.syncs n

/-- Setting it. -/
def State.setSync (s : State) (n : Nat) (x : SyncSt) : State :=
  { s with time := { s.time with syncs := SMap.write {} s.time.syncs n x } }

/-- The state of R140: 0 UNLOCKED, 1 ACQUIRE, 2 LOCKED, 3 HOLDOVER, 4 ROOT. -/
def State.syncState (s : State) : Nat := s.fget pgTime TIME.SYNC_STAT.STATE

/-- Entering a state; leaving LOCKED or ROOT raises LOCK_LOST, entering LOCKED raises LOCKED, and the READY conditions are
judged again (R140, R395). -/
def State.setSyncState (s : State) (st : Nat) : State :=
  let old := s.syncState
  if old = st then s
  else
    let s := s.fset pgTime TIME.SYNC_STAT.STATE st
    let s := if old = 2 || old = 4 then s.evt pgTime 9 else s
    let s := if st = 2 then s.evt pgTime 8 else s
    let s := { s with time := { s.time with goodRun := 0, badRun := 0 } }
    let s := if st = 3 then { s with time := { s.time with holdover := s.mono } } else s
    s.evalGroups

/-- A change of the root that the device sees (R143). -/
def State.showRoot (s : State) (id : Nat) : State :=
  if s.fget pgTime TIME.SYNC_STAT.ROOT_ID = id then s else (s.fset pgTime TIME.SYNC_STAT.ROOT_ID id).evt pgTime 10

/-- A link from which time can be followed (R139). -/
def State.eligible139 (s : State) (n : Nat) : Bool :=
  let x := s.sync n
  s.linkState n = 2 && x.rxSeen && x.locked && x.rootId = s.fget pgTime TIME.ROOT_CFG.ROOT_ID

/-- The eligible link that is chosen: the lower HOPS, and on equal HOPS the active upstream (R139). -/
def State.chooseParent (s : State) : Option Nat :=
  match s.eligible139 0, s.eligible139 1 with
  | false, false => none
  | true, false => some 0
  | false, true => some 1
  | true, true =>
    if (s.sync 0).hops < (s.sync 1).hops then some 0
    else if (s.sync 1).hops < (s.sync 0).hops then some 1
    else some s.activeUp

/-- The parent that is followed. -/
def State.parent (s : State) : Option Nat :=
  if s.fbit pgTime TIME.SYNC_STAT.PARENT_VALID then some (s.fget pgTime TIME.SYNC_STAT.PARENT) else none

/-- Following a parent, or none: the registers show it (R139). -/
def State.follow (s : State) (p : Option Nat) : State :=
  match p with
  | some n =>
    let s := ((s.fset pgTime TIME.SYNC_STAT.PARENT n).fset pgTime TIME.SYNC_STAT.PARENT_VALID 1).fset pgTime
      TIME.SYNC_STAT.HOPS (min ((s.sync n).hops + 1) 30)
    s.showRoot (s.sync n).rootId
  | none => (s.fset pgTime TIME.SYNC_STAT.PARENT_VALID 0).fset pgTime TIME.SYNC_STAT.HOPS 31

/-- The root, the parent and the state as the IDs and the links now stand (R139, R140, R143). -/
def State.evalSync (s : State) : State :=
  let root := s.fget pgTime TIME.ROOT_CFG.ROOT_ID
  if s.deviceId = root then
    let s := (s.fset pgTime TIME.SYNC_STAT.PARENT_VALID 0).fset pgTime TIME.SYNC_STAT.HOPS 0
    (s.showRoot root).setSyncState 4
  else
    match s.parent.filter s.eligible139 with
    | some n => s.follow (some n)
    | none =>
      let p := s.chooseParent
      let had := s.parent.isSome
      let s := s.follow p
      match s.syncState, p with
      | 0, some _ => s.setSyncState 1
      | 3, some _ => s.setSyncState 1
      | 4, some _ => s.setSyncState 1
      | 4, none => s.setSyncState 0
      | 1, none => s.setSyncState 0
      | 1, some _ => if had then { s with time := { s.time with goodRun := 0 } } else s
      | 2, none => s.setSyncState 3
      | _, _ => s

/-- PARENT_LOST: the parent has missed 3 SYNC cells, or is no longer eligible (R139). -/
def State.parentLost (s : State) : State :=
  match s.parent with
  | some n => (s.setSync n { s.sync n with rxSeen := false }).evalSync
  | none => s.evalSync

/-- HOLDOVER_EXPIRY (R140). -/
def State.holdoverExpiry (s : State) : State :=
  if s.syncState = 3 then
    (s.advanceTo (s.time.holdover + s.fget pgTime TIME.LOCK_CFG.HOLDOVER_MS * 1000000)).setSyncState 0
  else s

/-! ### SYNC cells (R136 to R138, R141) -/

/-- A difference of two timestamps, signed, in 2⁻¹⁶ ns. -/
def stampDiff (a b : Nat) : Int := sgn 80 ((a + 2 ^ 80 - b % 2 ^ 80) % 2 ^ 80)

/-- The own timestamp of a cell that crosses the pins now, with its fraction (R136). -/
def State.stamp (s : State) (sub : Nat) : Nat := s.time.sys / 65536 * 65536 + sub % 65536

/-- The count is steered by part of an offset: how much of it, the loop of R138 does not say. -/
def State.steer (s : State) (off : Int) (limit : Nat) : State :=
  let (v, s) := s.fresh 64
  let d : Int := (v.toNat % (min off.natAbs limit + 1) : Nat)
  { s with time := { s.time with sys := ((s.time.sys : Int) - (if off < 0 then -d else d)).toNat % 2 ^ 80 } }

/-- One exchange with the time parent (R138, R140, R141): `num` is the offset in units of 1/131072 ps. -/
def State.exchange (s : State) (num delayNum : Int) : State :=
  let (ps, s) := s.roundFree num 131072
  let (dly, s) := s.roundFree delayNum 131072
  let s := s.fsetI pgTime TIME.OFFSET.PS (clampI (-2147483648) 2147483647 ps)
  let s := s.fset pgTime TIME.PATH_DELAY.PS (clampI 0 4294967295 dly).toNat
  let thr := s.fget pgTime TIME.LOCK_CFG.THR_PS * 131072
  let off := num / 2000
  let gap := s.mono - s.time.lastExchange
  let s := { s with time := { s.time with lastExchange := s.mono } }
  match s.syncState with
  | 1 =>
    let good := if num.natAbs ≤ thr then s.time.goodRun + 1 else 0
    let s := { s with time := { s.time with goodRun := good } }
    let s :=
      if 1000000 * 131072 < num.natAbs then
        if s.anyTileLive then s.steer off (20 * 65536 * gap / 1000000)
        else s.stepCount ((s.time.sys : Int) - off).toNat
      else s.steer off off.natAbs
    if 1000 ≤ good then s.setSyncState 2 else s
  | 2 =>
    let bad := if 4 * thr < num.natAbs then s.time.badRun + 1 else 0
    let s := { s with time := { s.time with badRun := bad } }
    let s := s.steer off off.natAbs
    if 16 ≤ bad then s.setSyncState 1 else s
  | _ => s

/-- TIME_SYNC_RX: a SYNC cell and the fraction of its timestamp (R136 to R139). -/
def State.syncRx (s : State) (n sub : Nat) (body : Nat) : State :=
  let x := s.sync n
  let t1 := bitsOf body 32 80
  let t2 := s.stamp sub
  let t4 := bitsOf body 112 80
  let asym : Int :=
    if n = 0 then s.fgetI pgTime TIME.ASYM.LINK0 else if n = 1 then s.fgetI pgTime TIME.ASYM.LINK1 else 0
  let sent := x.sent.find? (fun e => e.1 = bitsOf body 208 16)
  let x := { x with
    rxAt := t2, rxSeq := bitsOf body 192 16, rxSeen := true, hops := bitsOf body 22 5
    rootId := bitsOf body 13 9, locked := bit body 27 }
  match sent with
  | none => (s.setSync n x).evalSync
  | some (_, t3) =>
    let a := stampDiff t2 t1
    let b := stampDiff t4 t3
    let num := 1000 * (a - b) - 65536 * asym
    let s := (s.setSync n { x with offset := num / 131072 }).evalSync
    if s.parent = some n then s.exchange num (1000 * (a + b)) else s

/-- SYNC_CELL_TX: a SYNC cell leaves on a link, with the fraction of its timestamp (R137). -/
def State.syncTx (s : State) (n sub : Nat) : State :=
  if s.linkState n = 0 || !linkAccepts n 4 then s
  else
    let x := s.sync n
    let t := s.stamp sub
    let st := s.syncState
    let body := s.deviceId * 2 ^ 4 + s.fget pgTime TIME.ROOT_CFG.ROOT_ID * 2 ^ 13 +
      s.fget pgTime TIME.SYNC_STAT.HOPS * 2 ^ 22 + b2n (st = 4 || st = 2) * 2 ^ 27 + t / 65536 * 2 ^ 32 +
      t % 65536 * 2 ^ 96 + x.rxAt / 65536 * 2 ^ 112 + x.rxAt % 65536 * 2 ^ 176 + x.txSeq * 2 ^ 192 + x.rxSeq * 2 ^ 208
    let s := s.setSync n { x with txSeq := (x.txSeq + 1) % 65536, sent := ((x.txSeq, t) :: x.sent).take 16 }
    s.emit (.cell n (bchEncode body (singleTag 4)))

/-! ### Slot phases (R148, R149) -/

/-- A PHASE cell. -/
def State.phaseCell (s : State) (p : PhaseSet) : Nat :=
  let phase (j : Nat) : Nat := p.phases.getD j 0 % 2 ^ 32
  bchEncode (1 + s.deviceId * 2 ^ 4 + s.fget pgTime TIME.ROOT_CFG.ROOT_ID * 2 ^ 13 + p.applyFrame * 2 ^ 48 +
    p.valid * 2 ^ 64 + phase 0 * 2 ^ 96 + phase 1 * 2 ^ 128 + phase 2 * 2 ^ 160 + phase 3 * 2 ^ 192) (singleTag 4)

/-- A PHASE set goes out on the downstream links that are UP. -/
def State.sendPhases (s : State) (p : PhaseSet) : State :=
  ([2, 3].filter (fun d => s.linkState d != 0)).foldl (fun s d => s.emit (.cell d (s.phaseCell p))) s

/-- PHASE_CELL_TX: the root sends its latest set (R149). -/
def State.phaseTx (s : State) : State :=
  match s.time.phaseLast with
  | some p => if s.syncState = 4 then s.sendPhases p else s
  | none => s

/-- TIME_PHASE_RX: a set from the time parent is taken, and passed on downstream unchanged (R149). -/
def State.phaseRx (s : State) (n body : Nat) : State :=
  if s.parent ≠ some n then s
  else
    let p : PhaseSet := ⟨bitsOf body 48 16, bitsOf body 64 4, (List.range 4).map (fun j => bitsOf body (96 + 32 * j) 32)⟩
    let s := { s with time := { s.time with phaseSets := s.time.phaseSets ++ [p], phaseLast := some p } }
    s.sendPhases p

/-- A frame number has reached another within a half-range of 32,768 (R149). -/
def frameReached (now at_ : Nat) : Bool := (now + 65536 - at_ % 65536) % 65536 < 32768

/-- The nominal start of a slot, rounded to 1/64 ns (R147). -/
def State.nominal (s : State) (j : Nat) : Nat := (s.fget pgTime (TIME.SLOT.START j) * s.period + 131072) / 262144

/-- SLOT_PHASE of every slot: a followed slot stands at its start in force, any other at its nominal start (R149). -/
def State.showPhases (s : State) : State :=
  (List.range 4).foldl (fun s j =>
    let v := if s.fbit pgTime (TIME.SLOT.FOLLOW j) then (SMap.read none s.time.phases j).getD (s.nominal j)
      else s.nominal j
    s.fset pgTime (TIME.SLOT_PHASE.PHASE j) v) s

/-- The sets whose frame has come apply at a boundary, oldest first (R149). -/
def State.applyPhases (s : State) : State :=
  let f := s.frame
  let due := s.time.phaseSets.filter (fun p => frameReached f p.applyFrame)
  let phases := due.foldl (fun m p => (bitsSet p.valid 4).foldl (fun m j =>
    SMap.write none m j (some (p.phases.getD j 0))) m) s.time.phases
  { s with time := { s.time with
      phases := phases, phaseSets := s.time.phaseSets.filter (fun p => !frameReached f p.applyFrame) } }.showPhases

/-- A clapper input. -/
def State.clap (s : State) (c : Nat) : ClapSt := SMap.read {} s.time.claps c

/-- Setting it. -/
def State.setClap (s : State) (c : Nat) (x : ClapSt) : State :=
  { s with time := { s.time with claps := SMap.write {} s.time.claps c x } }

/-- A bit of CLAP_STAT. -/
def State.setBitOf (s : State) (f : Fld) (i : Nat) (b : Bool) : State :=
  s.fset pgTime f (putBits (s.fget pgTime f) i 1 (b2n b))

/-- The slots below T that follow an input. -/
def State.followers (s : State) (c : Nat) : List Nat :=
  (List.range s.takes).filter (fun j => s.fbit pgTime (TIME.SLOT.FOLLOW j) && s.fget pgTime (TIME.SLOT.CLAP j) = c)

/-- The average of an input restarts or is discarded: LOCK drops, and its slots' CONFLICT bits clear (R148). -/
def State.restartClap (s : State) (c : Nat) (phases : List Nat) : State :=
  let s := s.setClap c { s.clap c with phases := phases, rejects := 0 }
  let s := s.setBitOf TIME.CLAP_STAT.LOCK c false
  (s.followers c).foldl (fun s j => s.setBitOf TIME.CLAP_STAT.CONFLICT j false) s

/-- The sum and number of the phases in an average. -/
def ClapSt.sum (x : ClapSt) : Nat := x.phases.foldl (· + ·) 0

/-- CLAP_PHASE: the average, rounded to 1/64 ns. -/
def State.showClap (s : State) (c : Nat) : State :=
  let x := s.clap c
  let n := x.phases.length
  s.fset pgTime (TIME.CLAP_PHASE.PHASE c) (if n = 0 then 0 else (2 * x.sum + 1024 * n) / (2048 * n))

/-- The latest position of a slot, in units of 2⁻²⁴ ns (R148). -/
def State.latestStart (s : State) (j : Nat) : Nat :=
  let nominal := s.fget pgTime (TIME.SLOT.START j) * s.period
  if s.fbit pgTime (TIME.SLOT.FOLLOW j) then
    match SMap.read none s.time.latest j with
    | some v => v * 2 ^ 18
    | none => nominal
  else nominal

/-- The length of a slot in units of 2⁻²⁴ ns. -/
def State.slotSpan (s : State) (j : Nat) : Nat := s.fget pgTime (TIME.SLOT.WEIGHT j) * s.period

/-- A derived start of slot `j`, in 1/64 ns, is taken up when its slot lies inside the frame and overlaps no other; then a set
of phases is due two frames on. Otherwise the slot keeps its position in CONFLICT (R148, R149). -/
def State.deriveStart (s : State) (j : Nat) (x : ClapSt) : State :=
  let n := x.phases.length
  let p := s.period
  let num := ((x.sum : Int) + n * s.fgetI pgTime (TIME.SLOT_OFS.NS j) * 65536) % ((max 1 (n * p) : Nat) : Int)
  let start := (2 * num.toNat + 1024 * n) / (2048 * n)
  let a := start * 2 ^ 18
  let fits := a + s.slotSpan j ≤ 256 * p && (List.range s.takes).all (fun i =>
    i = j || a + s.slotSpan j ≤ s.latestStart i || s.latestStart i + s.slotSpan i ≤ a)
  if fits then
    let old := SMap.read none s.time.latest j
    let s := s.setBitOf TIME.CLAP_STAT.CONFLICT j false
    if old = some start then s
    else
      let latest := SMap.write none s.time.latest j (some start)
      let valid := maskOf ((List.range 4).filter (fun i => (SMap.read none latest i).isSome))
      let set : PhaseSet := ⟨(s.frame + 2) % 65536, valid, (List.range 4).map (fun i => (SMap.read none latest i).getD 0)⟩
      let rest := s.time.phaseSets.filter (fun q => q.applyFrame ≠ set.applyFrame)
      { s with time := { s.time with latest := latest, phaseSets := rest ++ [set], phaseLast := some set } }
  else if bit (s.fget pgTime TIME.CLAP_STAT.CONFLICT) j then s
  else (s.setBitOf TIME.CLAP_STAT.CONFLICT j true).evt pgTime 21

/-- An accepted phase enters the average; while LOCK shows, starts are derived from it (R148). -/
def State.acceptPhase (s : State) (c phase : Nat) : State :=
  let len := 2 ^ s.fget pgTime (TIME.CLAP_CFG.AVG c)
  let x := s.clap c
  let x := { x with phases := (phase :: x.phases).take len, rejects := 0 }
  let s := s.setClap c x
  let s := if len ≤ x.phases.length then s.setBitOf TIME.CLAP_STAT.LOCK c true else s
  let s := s.showClap c
  if bit (s.fget pgTime TIME.CLAP_STAT.LOCK) c then (s.followers c).foldl (fun s j => s.deriveStart j x) s else s

/-- CLAP_EDGE: a qualifying edge, with the fraction of its time (R148). -/
def State.clapEdge (s : State) (c sub : Nat) : State :=
  if s.syncState ≠ 4 || !s.fbit pgTime (TIME.CLAP_CFG.EN c) || (s.clap c).counted then s
  else
    let s := s.setClap c { s.clap c with counted := true, noEdge := 0 }
    let lost := bit (s.fget pgTime TIME.CLAP_STAT.LOST) c
    let s := s.setBitOf TIME.CLAP_STAT.LOST c false
    let phase := s.stamp sub - s.boundarySys s.time.k
    let x := s.clap c
    let n := x.phases.length
    let far := n ≠ 0 && 65536000 * n < ((phase * n : Nat) - (x.sum : Int)).natAbs
    if lost then s.acceptPhase c phase
    else if bit (s.fget pgTime TIME.CLAP_STAT.LOCK) c && far then
      if x.rejects + 1 < 4 then s.setClap c { x with rejects := x.rejects + 1 }
      else ((s.restartClap c [phase]).showClap c).evt pgTime 20
    else s.acceptPhase c phase

/-- At a boundary, an enabled input without a counted edge for 4 frames is lost (R148). -/
def State.clapBoundary (s : State) : State :=
  if s.syncState ≠ 4 then s
  else
    (List.range 4).foldl (fun s c =>
      if !s.fbit pgTime (TIME.CLAP_CFG.EN c) then s
      else
        let x := s.clap c
        if x.counted then s.setClap c { x with counted := false }
        else
          let s := s.setClap c { x with noEdge := x.noEdge + 1 }
          if x.noEdge + 1 = 4 then
            (((s.restartClap c []).showClap c).setBitOf TIME.CLAP_STAT.LOST c true).evt pgTime 19
          else s) s

/-! ### Commits (R150, R152, R153) -/

/-- The registers of a mode (R152). -/
def modeFields : List Fld :=
  [TIME.PERIOD.NS, TIME.PERIOD_FRAC.FRAC, TIME.MODE.TAKES, TIME.MODE.SCAN_MUL, TIME.BLANK.US] ++
    (List.range 4).flatMap (fun j => [TIME.SLOT.START j, TIME.SLOT.WEIGHT j, TIME.SLOT.FOLLOW j, TIME.SLOT.CLAP j,
      TIME.SLOT_OFS.NS j])

/-- The fields whose change R150 holds against the budgets: *P*, T, M, a slot or BLANK. -/
def budgetFields : List Fld := modeFields

/-- The sinks of enabled tiles. -/
def State.enabledSinks (s : State) (ps : List Nat) : List SinkSt :=
  ((List.range 16).filter (fun t => bit (s.vget ps pgSys SYS.FIELD_CFG.TILE_EN) t)).flatMap (fun t =>
    (sinksOf ((s.dud t).live ||| (s.dud t).lost)).map (s.sink t))

/-- The reasons of R150 and R152 for a commit of TIME. -/
def State.timeReasons (s : State) (ps : List Nat) : List Nat :=
  let g (f : Fld) : Nat := s.vget ps pgTime f
  let p := periodOf (g TIME.PERIOD.NS) (g TIME.PERIOD_FRAC.FRAC)
  let takes := g TIME.MODE.TAKES + 1
  let mul := g TIME.MODE.SCAN_MUL
  let blank := g TIME.BLANK.US
  let changed := budgetFields.any (s.changes pgTime)
  let start (j : Nat) : Nat := g (TIME.SLOT.START j)
  let weight (j : Nat) : Nat := g (TIME.SLOT.WEIGHT j)
  let slotBad := (List.range takes).any (fun j => weight j = 0 || 256 < start j + weight j ||
    (List.range takes).any (fun i => i < j && overlaps (start i) (weight i) (start j) (weight j)))
  let ranges := g TIME.LOCK_CFG.THR_PS < 10 || (List.range 4).any (fun c => 8 < g (TIME.CLAP_CFG.AVG c)) ||
    (List.range 4).any (fun j => p ≤ (s.vgetI ps pgTime (TIME.SLOT_OFS.NS j)).natAbs * 65536)
  let sinks := s.enabledSinks ps
  let minRow := sinks.foldl (fun v k => max v k.minRow) 0
  let ring := (List.range 16).any (fun t => bit (s.vget ps pgSys SYS.FIELD_CFG.TILE_EN) t &&
    (100 * p : Int) - (100 * 65536 * (blank * 1000 + 2000) : Nat) < (s.deliveryTime t takes * 65536 : Nat))
  let at_ := s.vget ps pgTime TIME.APPLY_AT_LO.NS + 2 ^ 32 * s.vget ps pgTime TIME.APPLY_AT_HI.NS
  reasons [
    (changed && (240 * p < 1000000000 * 65536 || 1000000000 * 65536 < 24 * p), 0x10),
    (changed && 960 * p < takes * 1000000000 * 65536, 0x11),
    ((changed && slotBad) || ranges, 0x12),
    (changed && (mul = 0 || p < minRow * 16384 * mul * 65536), 0x13),
    (changed && sinks.any (fun k => k.maxTakes < takes || k.maxMul < mul), 0x14),
    (changed && ring, 0x15),
    (s.now + 10000000000 < at_, 0x16),
    (changed && (blank < 50 || p < 8 * blank * 1000 * 65536), 0x17),
    (s.fget pgTime TIME.MODE_STAT.STAGE ≠ 0 && modeFields.any (s.changes pgTime), 0x18)]

/-- A TIME commit has applied: a new mode enters STAGE 1 with ORIGIN at this boundary; a cleared input is discarded; a changed
ROOT_ID elects (R143, R145, R148, R153). -/
def State.timeApplied (s old : State) : State :=
  let mode := movedBetween s old pgTime modeFields
  let s :=
    if mode then
      let b := old.boundarySys old.time.k
      let s := { s with time := { s.time with
        origin := b, k := 0, frame0 := s.frame, modeGen := (s.hdr pgTime).gen } }
      let s := s.fset64 pgTime TIME.ORIGIN_LO.NS TIME.ORIGIN_HI.NS (b / 65536)
      let s := s.fset pgTime TIME.MODE_STAT.STAGE 1
      let changed := (List.range 4).filter (fun j =>
        movedBetween s old pgTime [TIME.SLOT.FOLLOW j, TIME.SLOT.CLAP j])
      let drop (m : SMap (Option Nat)) : SMap (Option Nat) := changed.foldl (fun m j => SMap.write none m j none) m
      { s with time := { s.time with latest := drop s.time.latest, phases := drop s.time.phases } }.showPhases
    else s
  let s := (List.range 4).foldl (fun s c =>
    if old.fbit pgTime (TIME.CLAP_CFG.EN c) && !s.fbit pgTime (TIME.CLAP_CFG.EN c) then
      let s := (s.restartClap c []).setClap c {}
      (s.showClap c).setBitOf TIME.CLAP_STAT.LOST c false
    else s) s
  s.evalSync

/-- The stages of a mode at a boundary (R153). -/
def State.stageBoundary (s : State) : State :=
  match s.fget pgTime TIME.MODE_STAT.STAGE with
  | 1 => s.fset pgTime TIME.MODE_STAT.STAGE 2
  | 2 => ((s.fset pgTime TIME.MODE_STAT.STAGE 0).fset pgTime TIME.MODE_STAT.LIT_GEN s.time.modeGen).evt pgTime 22
  | _ => s

/-! ### Slates and still mode (R156 to R158) -/

/-- The slate of a take at a boundary (R156); `newly` names the windows that latched a new completion. -/
def State.slate (s : State) (j : Nat) : State :=
  let wins := (List.range 16).filter (fun w => s.winTake w = j)
  let s := match s.latest wins with
    | some w =>
      match SMap.read none s.cmp.latched w with
      | some l => s.fset pgTime (TIME.SLATE.FRAME j) l.frame
      | none => s
    | none => s
  let live := j < s.takes && (List.range 8).any (fun l => bit (s.fget (pgLyr l) LYR.CTL.TAKE_EN) j)
  let s := s.fsetB pgTime (TIME.SLATE.LIVE j) live
  if wins.any (fun w => bit s.cmp.newly w) then s.fwrap pgTime (TIME.SLATE.ALIVE j) else s

/-- The four slates as bytes, which seed the tile signatures (R159). -/
def State.slateWords (s : State) : List Nat := (List.range 4).map (fun j => (s.word (addrOf pgTime (0x0F0 + 4 * j))).toNat)

/-- Slates, and the seed of this frame's signatures (R156, R159). -/
def State.slateBoundary (s : State) : State :=
  let old := s.slateWords
  let s := (List.range 4).foldl State.slate s
  let s := if s.slateWords = old then s else { s with time := { s.time with disturbed := true } }
  let seed := crc32c (s.slateWords.flatMap (fun w => leBytes w 4))
  { s with time := { s.time with seed := seed, seedChanged := seed ≠ s.time.seed } }

/-- Still mode at a boundary (R157, R158). -/
def State.stillBoundary (s : State) : State :=
  let n := s.fget pgTime TIME.STILL_AFTER.FRAMES
  let still := s.fbit pgTime TIME.STILL_STAT.STILL
  let met := !s.time.disturbed && !s.time.frameLate && !s.time.underrun &&
    s.fget pgOvl OVL.CTL.TAKE_EN % 2 ^ s.takes = 0
  let exit := s.time.stillExit
  let s := { s with time := { s.time with disturbed := false, stillExit := false, frameLate := false, underrun := false } }
  if !met || exit then
    let s := s.fset pgTime TIME.STILL_STAT.UNCHANGED 0
    if still then (s.fset pgTime TIME.STILL_STAT.STILL 0).evt pgTime 17 else s
  else
    let s := s.finc pgTime TIME.STILL_STAT.UNCHANGED
    if !still && n ≠ 0 && n ≤ s.fget pgTime TIME.STILL_STAT.UNCHANGED then
      ((s.fset pgTime TIME.STILL_STAT.STILL 1).finc pgTime TIME.STILL_STAT.ENTRIES).evt pgTime 16
    else s

/-! ### Commands (R142, R161) -/

/-- SET_TIME: the count steps to SET_LO and SET_HI (R142). -/
def State.setTime (s : State) : State := s.stepCount (s.fget64 pgTime TIME.SET_LO.NS TIME.SET_HI.NS * 65536)

/-- CLAP_RESTART: the average of an input restarts from its next counted edge (R148). -/
def State.clapRestart (s : State) (c : Nat) : State := (s.restartClap c []).showClap c

/-- A read of NOW_LO latches NOW_HI and NOW_FRAC (R135). -/
def State.readNow (s : State) : Word × State :=
  let s := (s.fset pgTime TIME.NOW_HI.NS (s.now / 2 ^ 32)).fset pgTime TIME.NOW_FRAC.FRAC (s.time.sys % 65536)
  (BitVec.ofNat 32 s.now, s)

end Sys2Proof.Machine
end

