-- ==== Sys2Proof/Machine/PairCore.lean ====
section
/-! DEFINITION. PAIR: mirrored pages, readiness, inhibition, heartbeats, locks, and the resolution of LINKING (R475 to
R495). -/

namespace Sys2Proof.Machine

/-! ### Mirrored pages (R482) -/

/-- The pages of which every RWS register is mirrored. -/
def wholePages : List Nat :=
  [pgCmp] ++ (List.range 8).map pgLyr ++ [pgMatte, pgCad] ++ (List.range 4).map pgPe ++ [pgDiag]

/-- The pages of which some registers are mirrored. -/
def partPages : List Nat := [pgSys, pgTime, pgLink 0]

/-- A page is mirrored. -/
def mirroredPage (p : Nat) : Bool := wholePages.contains p || partPages.contains p

/-- The registers that COMMIT messages carry for a page, by offset. -/
def carries (p off : Nat) : Bool :=
  if wholePages.contains p then true
  else if p = pgSys then off = SYS.FIELD_CFG.AIM.off
  else if p = pgTime then
    [TIME.PERIOD.NS, TIME.PERIOD_FRAC.FRAC, TIME.MODE.TAKES, TIME.APPLY_AT_LO.NS, TIME.APPLY_AT_HI.NS, TIME.BLANK.US,
      TIME.STILL_AFTER.FRAMES].any (fun f => f.off = off) ||
    (List.range 4).any (fun j => (TIME.SLOT.START j).off = off || (TIME.SLOT_OFS.NS j).off = off)
  else if p = pgLink 0 then
    (List.range 16).any (fun w => (LINK.WIN_BASE.BASE w).off = off || (LINK.WIN_CFG.SIZE w).off = off)
  else false

/-- The addresses of a page that hold RWS bits. -/
def rwsAddrs (p : Nat) : List Nat :=
  match pageOf p with
  | some (ty, _) =>
    (ty.regs.filter (fun r => r.rws != 0)).flatMap (fun r => (List.range r.n).map (fun i => regAddr p r i))
  | none => []

/-- The addresses of a page that COMMIT messages carry. -/
def carriedAddrs (p : Nat) : List Nat := (rwsAddrs p).filter (fun a => carries p (a % 0x1000))

/-- The carried registers of a page as offset and value, of some copy of them. -/
def entriesOf (p : Nat) (v : Nat → Word) : List (Nat × Nat) := (carriedAddrs p).map (fun a => (a % 0x1000, (v a).toNat))

/-- The RWS bits in force at an address. -/
def State.rwsWord (s : State) (a : Nat) : Word := s.word a &&& BitVec.ofNat 32 (rwsMask a)

/-- A captured set changes a carried register. -/
def State.changesCarried (s : State) (p : Nat) : Bool := (carriedAddrs p).any (fun a => s.captured a != s.rwsWord a)

/-! ### READY and INHIBIT (R491, R495) -/

/-- Changing PAIR's own state. -/
def State.setPair (s : State) (f : PairSt → PairSt) : State := { s with pair := f s.pair }

/-- READY is lost, and NR_REASON keeps the first cause; a divergence raises DIVERGED, and what is found while a
resynchronisation runs makes it start again (R491, R503). -/
def State.clearReady (s : State) (reason : Nat) : State :=
  if s.pairFollows then
    let s := s.setPair (fun x => { x with diverged := true, goodRun := none })
    let s := if s.fbit pgPair PAIR.STAT.READY || s.fget pgPair PAIR.STAT.NR_REASON = 0 then
        (s.fset pgPair PAIR.STAT.READY 0).fset pgPair PAIR.STAT.NR_REASON reason
      else s
    if reason = 3 then s.evt pgPair 11 else s
  else s

/-- The device is ready. -/
def State.pairReady (s : State) : Bool := s.fbit pgPair PAIR.STAT.READY

/-- Synchronisation is good enough for readiness (R491). -/
def State.offsetOk (s : State) : Bool :=
  (s.syncState = 2 || s.syncState = 4) &&
    ((s.fgetI pgPair PAIR.OFFSET_PS.PS).natAbs ≤ s.fget pgPair PAIR.TIMING.OFS_LIMIT_PS)

/-- OFFSET_PS shows the offset measured on LINK4, saturating (R505). -/
def State.showOffset (s : State) : State :=
  s.fsetI pgPair PAIR.OFFSET_PS.PS (clampI (-(2 ^ 31)) (2 ^ 31 - 1) (s.sync 4).offset)

/-- The conditions of R491 that hold at every moment. -/
def State.readyCheck (s : State) : State :=
  let s := s.showOffset
  if s.pairShadow && s.pairReady then
    if !s.link4Trusted && s.fget pgPair PAIR.TIMING.MISS_SLOTS ≤ s.pair.missRun then s.clearReady 1
    else if !s.offsetOk then s.clearReady 4
    else s
  else s

/-- A group state of a HEARTBEAT, by group. -/
def groupCode (groups g : Nat) : Nat := bitsOf groups (3 * g) 3

/-- Takeover is inhibited (R495); a group of the partner in START is not enabled (R429). -/
def State.inhibited (s : State) : Bool :=
  !s.safe.xinHigh ||
  (List.range 4).any (fun g => s.groupEn g && (s.group g).state ≠ .permit) ||
  (match s.pair.partner with
    | some h => h.inhibit || (List.range 4).any (fun g => groupCode h.groups g ≠ 0 && groupCode h.groups g ≠ 4)
    | none => false)

/-- The states of the four groups, 3 bits each (R394, R480). -/
def State.groupCodes (s : State) : Nat := (List.range 4).foldl (fun n g => n + (s.group g).state.code <<< (3 * g)) 0

/-- The highest epoch that the device holds on its rings. -/
def State.epochHeld (s : State) : Nat := (List.range 16).foldl (fun e t => max e (s.fget (pgDud t) DUD.OWN.EPOCH)) 0

/-- A HEARTBEAT leaves after a slot boundary (R480, R492). -/
def State.heartbeat (s : State) (slot : Nat) : State :=
  if s.pairState = 0 then s
  else s.mirror (.heartbeat slot s.pairState (b2n s.pairReady) (b2n s.inhibited) s.groupCodes s.epochHeld
    (s.fget pgTime TIME.MODE_STAT.LIT_GEN) s.frame)

/-! ### PAIR's locks (R483) -/

/-- The lease that PAIR takes, in ns. -/
def pairLease : Nat := 16777215000

/-- PAIR takes the lock of every page that is mirrored as a whole; another holder's lock breaks. -/
def State.pairLock (s : State) : State :=
  wholePages.foldl (fun s p =>
    let s := if s.holds 0xC p then s else s.breakLock p
    s.setHdr p { s.hdr p with owner := some 0xC, leaseEnd := s.mono + pairLease }) s

/-- PAIR_LEASE_RENEW (R483). -/
def State.leaseRenew (s : State) : State :=
  if s.pairFollows then
    wholePages.foldl (fun s p => if s.holds 0xC p then s.setHdr p { s.hdr p with leaseEnd := s.mono + pairLease } else s) s
  else s

/-- PAIR releases its locks (R45, R483). -/
def State.pairUnlock (s : State) : State :=
  wholePages.foldl (fun s p => if s.holds 0xC p then s.setHdr p { s.hdr p with owner := none, leaseEnd := 0 } else s) s

/-! ### LINKING (R478) -/

/-- The enabled paired rings: enabled tiles whose port has a role in the pair (R476, R478). -/
def State.pairedRings (s : State) : List Nat :=
  (List.range 16).filter (fun t =>
    bit (s.fget pgSys SYS.FIELD_CFG.TILE_EN) t && (s.fget (pgDud t) DUD.CTL.ROLE = 1 || s.fget (pgDud t) DUD.CTL.ROLE = 2))

/-- QUERY on every enabled paired ring (R478). -/
def State.askRings (s : State) : State :=
  let rings := s.pairedRings
  let s := s.setPair (fun x => { x with asking := maskOf rings, foreign := false })
  rings.foldl (fun s t => s.queryStart t false) s

/-- A device in LINKING resolves its state (R478); with no enabled paired ring there is nothing to ask. -/
def State.resolveLinking (s : State) : State :=
  if s.pairState ≠ 1 || s.pair.asking ≠ 0 || s.fget pgPair PAIR.CFG.ROLE ≠ 1 then s
  else
    let seen := if s.link4Trusted then s.pair.partner else none
    match seen with
    | some h => if h.state = 4 || (h.primary && h.state = 1) then s else s.askRings
    | none => s.askRings

/-- LINK4 has left UP_TRUSTED while a resynchronisation ran (R477). -/
def State.link4Lost (s : State) : State :=
  if s.pairState = 2 && !s.link4Trusted then
    ((s.setPair (fun x => { x with goodRun := none, commits := [], rebuild := none })).pairUnlock).setPairState 1
  else s

/-! ### Commits of PAIR (R475, R476, R506) -/

/-- The reasons of R506. -/
def State.pairReasons (s : State) (ps : List Nat) : List Nat :=
  let g (f : Fld) : Nat := s.vget ps pgPair f
  let role := g PAIR.CFG.ROLE
  let want := if role = 0 then 0 else role
  let wiring := role = 3 || (List.range 16).any (fun t =>
    bit (s.vget ps pgSys SYS.FIELD_CFG.TILE_EN) t && s.vget ps (pgDud t) DUD.CTL.ROLE ≠ want)
  let range := g PAIR.TIMING.MISS_SLOTS < 2 || g PAIR.TIMING.SILENCE_US < 150 || g PAIR.TIMING.OFS_LIMIT_PS < 50 ||
    g PAIR.RESYNC.MBPS < 50 || 2000 < g PAIR.RESYNC.MBPS ||
    (List.range 4).any (fun r => g (PAIR.MRANGE.EN r) = 1 && dramBlocks < g (PAIR.MRANGE.BASE r) + g (PAIR.MSIZE.BLOCKS r))
  reasons [
    (g PAIR.IDENT.DEVICE_ID ≠ s.deviceId && (List.range 6).any (fun n => s.trainState n ≠ 0), 0x10),
    (wiring, 0x11),
    (role ≠ 0 && g PAIR.CFG.PARTNER_ID = g PAIR.IDENT.DEVICE_ID, 0x12),
    (range, 0x13),
    (role ≠ s.fget pgPair PAIR.CFG.ROLE && (s.pairState = 2 || s.pairState = 3 || s.pairState = 4), 0x14)]

/-- What a changed role makes of the state (R477). -/
def State.roleApplied (s old : State) : State :=
  let role := s.fget pgPair PAIR.CFG.ROLE
  if role = old.fget pgPair PAIR.CFG.ROLE then s
  else
    let s := s.setPair (fun x => { x with asking := 0, partner := none })
    if role = 0 then s.setPairState 0
    else if s.pairState = 5 then s
    else (s.setPairState 1).resolveLinking

end Sys2Proof.Machine
end

