-- ==== Sys2Proof/Machine/Safe.lean ====
section
/-! DEFINITION. What happens to the two safety channels (chapter 13): inputs, safety frames, the zone checks, contactor
outputs and feedback, restart, handover, self-test, and the commits of SAF and GRD. -/

namespace Sys2Proof.Machine

/-- Every group. -/
def allGroups : Nat := 0xF

/-- Setting bit `i` of a field. -/
def State.setBit (s : State) (p : Nat) (f : Fld) (i : Nat) (b : Bool) : State :=
  s.fset p f (putBits (s.fget p f) i 1 (b2n b))

/-! ### Demand inputs (R400, R401) -/

/-- FILTER_US and DISC_MS as the channels that use an input hold them: the first to elapse decides. -/
def State.filterNs (s : State) (n : Nat) : Nat :=
  1000 * (if !s.inEnGrd n then s.fget pgSaf SAF.IN_TIMING.FILTER_US
    else if !s.inEnSaf n then s.fget pgGrd GRD.TIMING.FILTER_US
    else min (s.fget pgSaf SAF.IN_TIMING.FILTER_US) (s.fget pgGrd GRD.TIMING.FILTER_US))
def State.discNs (s : State) (n : Nat) : Nat :=
  1000000 * (if !s.inEnGrd n then s.fget pgSaf SAF.IN_TIMING.DISC_MS
    else if !s.inEnSaf n then s.fget pgGrd GRD.TIMING.DISC_MS
    else min (s.fget pgSaf SAF.IN_TIMING.DISC_MS) (s.fget pgGrd GRD.TIMING.DISC_MS))

/-- What IN_STAT shows of an input. -/
def State.showInput (s : State) (n : Nat) : State :=
  let x := s.input n
  let s := (s.setBit pgSaf SAF.IN_STAT.PIN_A n (x.pinA || (!x.demA && bit (s.fget pgSaf SAF.IN_STAT.PIN_A) n))).setBit
    pgSaf SAF.IN_STAT.PIN_B n (x.pinB || (!x.demB && bit (s.fget pgSaf SAF.IN_STAT.PIN_B) n))
  s.setBit pgSaf SAF.IN_STAT.DEMAND n (x.demA || x.demB)

/-- SAFE_IN_CHANGE: a pin changes level (R400). -/
def State.safeInChange (s : State) (n : Nat) (pinB high : Bool) : State :=
  let x := s.input n
  let differed := x.pinA != x.pinB
  let x := if pinB then
      { x with pinB := high, lowB := if x.pinB && !high then s.mono else x.lowB, demB := x.demB && !high }
    else { x with pinA := high, lowA := if x.pinA && !high then s.mono else x.lowA, demA := x.demA && !high }
  let x := { x with differ := if (x.pinA != x.pinB) && !differed then s.mono else x.differ }
  ((s.setInput n x).showInput n).evalGroups

/-- SAFE_IN_DEMAND: a pin has been low for FILTER_US (R400). -/
def State.safeInDemand (s : State) (n : Nat) (pinB : Bool) : State :=
  let x := s.input n
  if !s.inEn n || (if pinB then x.pinB else x.pinA) then s
  else
    let s := s.advanceTo (max (if pinB then x.lowB else x.lowA) x.enSince + s.filterNs n)
    let x := if pinB then { x with demB := true } else { x with demA := true }
    (((s.setInput n x).showInput n).trip 1 (s.inGroups n)).evalGroups

/-- IN_DISC: the pins have differed for DISC_MS (R401). -/
def State.inDisc (s : State) (n : Nat) : State :=
  let x := s.input n
  if !s.inEn n || x.pinA = x.pinB then s
  else
    let s := s.advanceTo (max x.differ x.enSince + s.discNs n)
    ((s.setBit pgSaf SAF.IN_STAT.DISC n true).trip 2 (s.inGroups n)).evalGroups

/-! ### Safety frames (R402, R403) -/

/-- A rejection that RX_REJECT tells (R402). -/
def State.rxReject (s : State) (f : Fld) : State := (s.finc pgSaf f).evt pgSaf 12

/-- The enabled connection that a CONN_ID names. -/
def State.rxNamed (s : State) (id : Nat) : Option Nat :=
  ([0, 1].filter (fun c => s.rxEn c && s.fget pgSaf (SAF.RX_ID.CONN_ID c) = id)).head?

/-- The reserved bits of check 4 of R402. -/
def safetyReserved (body : Nat) : Bool :=
  bitsOf body 56 8 = 0 &&
  (if bitsOf body 48 4 = 1 then bitsOf body 128 32 = 0 else bitsOf body 144 16 = 0)

/-- What an accepted frame does before its message: sequence, liveness, demand and trip (R402, R403). -/
def State.rxAccept (s : State) (c body : Nat) : State :=
  let demand := bitsOf body 52 4
  let s := ((s.fset pgSaf (SAF.RX_STAT.LAST_SEQ c) (bitsOf body 32 16)).fset pgSaf (SAF.RX_STAT.FRESH c) 0).fset pgSaf
    (SAF.RX_STAT.ALIVE c) 1
  let s := (s.fset pgSaf (SAF.RX_STAT.DEMAND c) demand).finc pgSaf SAF.RX_CNT.ACCEPTED
  let s := s.setConn c { s.conn c with lastAccept := s.mono }
  let groups := demand &&& s.fget pgSaf (SAF.RX_CFG.MAP c)
  (if groups = 0 then s else s.trip 3 groups).evalGroups

/-- The checks 2 to 6 of R402; an accepted MESSAGE hands its PAYLOAD on. -/
def State.rxChecks (s : State) (body : Nat) : Option Nat × State :=
  match s.rxNamed (bitsOf body 0 32) with
  | none => (none, s)
  | some c =>
    let kind := bitsOf body 48 4
    let age := sgn 48 ((s.now % 2 ^ 48 + 2 ^ 48 - bitsOf body 64 48) % 2 ^ 48)
    let window := min (bitsOf body 112 16) (s.fget pgSaf (SAF.RX_CFG.WIN_MAX_US c)) * 1000
    let step := (bitsOf body 32 16 + 65536 - s.fget pgSaf (SAF.RX_STAT.LAST_SEQ c)) % 65536
    let fresh := s.fbit pgSaf (SAF.RX_STAT.FRESH c)
    if crc32cSeeded (s.fget pgSaf (SAF.RX_SEED.SEED c)) (leBytes body 20) ≠ bitsOf body 160 32 then
      (none, s.rxReject SAF.RX_REJ.CRC)
    else if !(kind = 1 || kind = 2) || !safetyReserved body then (none, s.rxReject SAF.RX_REJ2.MAC_FORMAT)
    else if !s.timeLocked || !(-100000 ≤ age && age ≤ window) then (none, s.rxReject SAF.RX_REJ2.TIME)
    else if !fresh && step = 0 then (none, s.finc pgSaf SAF.RX_CNT.DUP)
    else if !fresh && 1024 < step then (none, s.rxReject SAF.RX_REJ.SEQ)
    else (if kind = 2 then some (bitsOf body 128 32) else none, s.rxAccept c body)

/-- The link MAC of a SAFETY cell verifies (R107). -/
def State.safetyMacOk (s : State) (v : CellView) : Bool :=
  match s.transport.key with
  | none => false
  | some k => ofLeBytes ((cmac k (leBytes v.tag 2 ++ leBytes v.body 24)).take 8) = bitsOf v.body 192 64

/-- SAFETY_FRAME_RX up to the message: forwarding, the link MAC and the checks of R402; a child's frame goes upward. In a
handover window, and without a running SAF, no frame is evaluated (R121, R125, R402, R422). -/
def State.safetyRx (s : State) (n word : Nat) : Option Nat × State :=
  if n = 2 || n = 3 then (none, s.upwardRx n [word])
  else
    let ok : Bool := s.linkState n = 2 && (rawView word).type = 3
    let s := s.forwardCell ([2, 3].filter (fun d =>
      ok && s.fbit (pgLink d) LINK.POLICY.FWD_EN && s.sourceFeed d = n && s.linkState d = 2)) word
    match s.singleCell n 3 word with
    | (none, s) => (none, s)
    | (some v, s) =>
      if s.linkState n ≠ 2 || !s.safRuns || s.safe.handover.isSome then (none, s)
      else if !s.safetyMacOk v then (none, s.rxReject SAF.RX_REJ2.MAC_FORMAT)
      else s.rxChecks v.body

/-- WATCHDOG: a connection has accepted no frame for WD_MS (R402). -/
def State.watchdog (s : State) (c : Nat) : State :=
  if !s.fbit pgSaf (SAF.RX_STAT.ALIVE c) || s.safe.handover.isSome then s
  else
    let saf := s.fget pgSaf (SAF.RX_CFG.WD_MS c)
    let grd := if c = 0 then s.fget pgGrd GRD.CONN.WD0_MS else s.fget pgGrd GRD.CONN.WD1_MS
    let wd := if !s.rxEnGrd c then saf else if !s.rxEn c then grd else min saf grd
    let s := s.advanceTo ((s.conn c).lastAccept + wd * 1000000)
    let s := s.fset pgSaf (SAF.RX_STAT.ALIVE c) 0
    let s := if s.rxEn c || s.rxEnGrd c then s.evt pgSaf 13 else s
    (s.trip 4 (s.rxGroups c)).evalGroups

/-- STATUS_FRAME_TX: the period has elapsed (R404). -/
def State.statusTx (s : State) : State :=
  if s.fbit pgSaf SAF.CTL.TX_EN then
    (s.advanceTo (s.safe.lastStatus + s.fget pgSaf SAF.TX_CFG.PERIOD_MS * 1000000)).sendStatus
  else s

/-! ### SF2 and SF3 (R405 to R409) -/

/-- What TRIP_ZONE and TRIP_SUM show of an SF2 trip (R406). -/
def State.recordZone (s : State) (z j : Nat) (pixel : Bool) (sum : Nat) : State :=
  let s := ((s.fset pgGrd GRD.TRIP_ZONE.ZONE z).fset pgGrd GRD.TRIP_ZONE.TAKE j).fset pgGrd GRD.TRIP_ZONE.FRAME s.frame
  let s := (s.fsetB pgGrd GRD.TRIP_ZONE.PIXEL pixel).fset pgGrd GRD.TRIP_ZONE.VALID 1
  (s.fset pgGrd GRD.TRIP_SUM_LO.SUM sum).fset pgGrd GRD.TRIP_SUM_HI.SUM (sum / 2 ^ 32)

/-- GRD trips with PIXEL_CAP or ZONE_SUM, and records it when it takes a group into OPENING (R398, R406). -/
def State.tripZone (s : State) (z j : Nat) (pixel : Bool) (sum : Nat) : State :=
  let moves := s.groupsIn .ready ||| s.groupsIn .closing ||| s.groupsIn .permit
  (if moves = 0 then s else s.recordZone z j pixel sum).trip (if pixel then 6 else 5) allGroups

/-- A zone's running sum and λ are compared with the caps; when both comparisons fail, the lower code is recorded (R398,
R406). -/
def State.tapJudge (s : State) (z j lam cap sum : Nat) : State :=
  if cap * SMap.read 0 s.safe.zcount z < sum then s.tripZone z j false sum
  else if cap < lam then s.tripZone z j true lam
  else s

/-- PROXY_TAP_CODE: λ of a member of a zone in a take (R405, R406). -/
def State.tapCode (s : State) (z j lam : Nat) : State :=
  let cap := SMap.read 0 s.safe.zcap z
  let key := 4 * z + j
  let sum := (SMap.read 0 s.safe.sums key + lam) % 2 ^ 48
  if bit cap 31 then
    { s with safe := { s.safe with sums := SMap.write 0 s.safe.sums key sum } }.tapJudge z j lam (cap % 2 ^ 31) sum
  else s

/-- TAP_SILENT: an engine that computes a live tile has sent no end-of-frame mark by 0.92 × *P* + 10 µs (R407). -/
def State.tapSilent (s : State) (q : Nat) : State :=
  if s.fbit pgTime TIME.STILL_STAT.STILL || bit s.safe.marks q ||
      !(tilesOfQuadrant q).any (fun t => bit s.cad.computing t && s.tileLive t) then s
  else
    let s := s.advanceTo (s.time.boundaryAt + s.period * 92 / 100 / 65536 + 10000)
    (s.finc pgGrd GRD.CNT.TAP_LATE).trip 7 allGroups

/-- The zone table at a boundary: GRD posts its CRC and compares it with the seal; without MEM the check is skipped. The
sums start at 0 (R405, R407). -/
def State.zoneBoundary (s : State) : State :=
  let s := { s with safe := { s.safe with sums := [], marks := 0 } }
  if s.domOn 8 then
    let crc := s.zoneCrc []
    let s := s.fset pgGrd GRD.ZT_CRC.CRC crc
    if crc = s.fget pgMatte MATTE.ZONE_SEAL.CRC then s else s.trip 8 allGroups
  else s

/-- MATTE_SIG_CHECK: the read signatures of the live tiles against the seals of the copy in force (R408). -/
def State.matteSigCheck (s : State) : State :=
  if !s.safRuns || s.safe.handover.isSome then s
  else
    let m := s.fget pgMatte MATTE.CTL.ACTIVE
    let f := s.fget pgMatte MATTE.READ_STAT.FRAME
    let missing := !s.fbit pgTime TIME.STILL_STAT.STILL && f ≠ s.frame && f ≠ (s.frame + 65535) % 65536
    let bad := (List.range 16).any (fun t => s.tileLive t &&
      (missing || !bit (s.fget pgMatte MATTE.READ_STAT.VALID) t ||
        s.fget pgMatte (MATTE.READ_SIG.CRC t) ≠ s.fget pgMatte (MATTE.SEAL.CRC (16 * m + t))))
    if bad then s.trip 9 allGroups else s

/-- OVL_SIG_CHECK: SAF's check of frame *k* with the signature that SAF has computed itself (R409). -/
def State.ovlSigCheck (s : State) (k sig : Nat) : State :=
  if !s.safRuns || s.safe.handover.isSome || s.fget pgSaf SAF.MSG_STAT.TAKES = 0 ||
      32768 ≤ (k + 65536 - s.safe.msgFrom) % 65536 then s
  else
    let sigBad := !s.fbit pgOvl OVL.SIG_FRAME.DRAWN || s.fget pgOvl OVL.SIG_FRAME.FRAME ≠ k || s.fget pgOvl OVL.SIG.CRC ≠ sig
    let hbBad := s.fget pgOvl OVL.SIG_FRAME.HB_PHASE ≠ k % 2
    let s := s.fsetB pgSaf SAF.MSG_STAT.SIG_OK (!sigBad && !hbBad)
    if sigBad then s.trip 10 allGroups else if hbBad then s.trip 11 allGroups else s

/-! ### Contactor outputs and feedback (R394, R410 to R412) -/

/-- FB_CHANGE: a feedback input changes; CLOSING that shows closed enters PERMIT, and OPENING that shows open ends
(R394, R396, R412). -/
def State.fbChange (s : State) (g : Nat) (isOpen : Bool) : State :=
  let s := s.setGroup g { s.group g with fbOpen := isOpen, fbSince := s.mono }
  if (s.group g).state = .closing && !isOpen then
    let s' := s.setGroup g { s.group g with state := .permit, since := s.mono, mid := true, outp := true }
    let s' := ({ s' with time := { s'.time with disturbed := true } }).evt pgSaf 9
    s'.statusIfMoved s
  else s.evalGroups

/-- FB_DISAGREE: feedback has disagreed for more than 10 ms in PERMIT or SAFE (R412). -/
def State.fbDisagree (s : State) (g : Nat) : State :=
  let x := s.group g
  if s.groupEn g && ((x.state = .permit && x.fbOpen) || (x.state = .safe && !x.fbOpen)) then
    (s.advanceTo (max x.fbSince x.since + 10000000)).trip 12 (1 <<< g)
  else s

/-- FB_CLOSE_TIMEOUT: FB has not shown closed within FB_CLOSE_MS (R394). -/
def State.fbCloseTimeout (s : State) (g : Nat) : State :=
  let x := s.group g
  if x.state = .closing then
    ((s.advanceTo (x.since + s.fget pgSaf SAF.FB_TIMING.FB_CLOSE_MS * 1000000)).trip 12 (1 <<< g)).evalGroups
  else s

/-- FB_OPEN_TIMEOUT: FB has not shown open within FB_OPEN_MS after the trip (R394). -/
def State.fbOpenTimeout (s : State) (g : Nat) : State :=
  let x := s.group g
  if x.state = .opening && !x.fbOpen then
    let s' := (s.advanceTo (x.since + s.fget pgSaf SAF.FB_TIMING.FB_OPEN_MS * 1000000)).enterLockout g 12
    s'.statusIfMoved s
  else s

/-- TEST_PULSE: a switch pulse of a group that is on, or the readbacks of a group that is off: MID and OUT as read, and the
coil current in mA outside the pulse (R411). -/
def State.testPulse (s : State) (g : Nat) (mid outp : Bool) (coil : Nat) : State :=
  let x := s.group g
  if x.state = .closing || x.state = .permit then
    if outp || coil < 5 then (s.trip 13 (1 <<< g)).evalGroups else s
  else
    let s := s.setGroup g { x with mid := mid, outp := outp }
    (if mid || outp then s.trip 13 (1 <<< g) else s).evalGroups

/-- SAFE_OUT_CURRENT_LIMIT: a limit of over 100 µs opens both switches and trips the group (R397, R558). -/
def State.currentLimit (s : State) (g : Nat) : State :=
  (((s.setGroup g { s.group g with swA := false, swB := false }).trip 13 (1 <<< g))).evalGroups

/-! ### Restart (R413 to R415) -/

/-- SAFE_RESET_EDGE: a debounced edge (R414, R415). -/
def State.resetEdge (s : State) (high : Bool) : State :=
  let s := s.fsetB pgSaf SAF.IN_STAT.RESET_PIN high
  if high = s.safe.rstHigh then s
  else if high then
    let qual := s.resetLowLong
    { s with safe := { s.safe with
        rstHigh := true, rstRise := s.mono, rstReady := s.groupsIn .ready, rstQual := qual
        rstRejected := false, rstLowHeld := false } }
  else
    let held := s.mono - s.safe.rstRise
    let ok := s.safe.rstQual && !s.safe.rstRejected && 50000000 ≤ held && held ≤ 3000000000
    let tooLong := 3000000000 < held && !s.safe.rstRejected
    let go := s.safe.rstReady &&& s.groupsIn .ready
    let s := { s with safe := { s.safe with rstHigh := false, rstFall := s.mono, rstQual := false } }
    let s := if tooLong then (s.finc pgSaf SAF.RESET_CNT.REJECTED).evt pgSaf 14 else s
    if ok then
      let s := s.finc pgSaf SAF.RESET_CNT.QUALIFIED
      let s' := (bitsSet go 4).foldl (fun s g => s.setGroup g { s.group g with
        state := .closing, since := s.mono, swA := true, swB := true }) s
      s'.statusIfMoved s
    else s

/-- RESET_REJECTED: SAFE_RESET has been high for longer than 3,000 ms (R414). -/
def State.resetRejected (s : State) : State :=
  if s.safe.rstHigh && !s.safe.rstRejected then
    let s := s.advanceTo (s.safe.rstRise + 3000000001)
    let s := { s with safe := { s.safe with rstRejected := true } }
    (s.finc pgSaf SAF.RESET_CNT.REJECTED).evt pgSaf 14
  else s

/-- SAFE_RESET_LOW_HELD: SAFE_RESET has been low for 50 ms (R395, R414). -/
def State.resetLowHeld (s : State) : State :=
  if s.safe.rstHigh then s
  else
    let s := s.advanceTo (s.safe.rstFall + 50000000)
    { s with safe := { s.safe with rstLowHeld := true } }.evalGroups

/-! ### Pair mode (R418, R420) -/

/-- SAFE_XIN_LOW: low for 40 ns (R420). -/
def State.xinLow (s : State) : State :=
  let s := { s with safe := { s.safe with xinHigh := false } }
  let s := (s.fset pgSaf SAF.IN_STAT.XIN 0).fset pgGrd GRD.STAT.XIN 0
  if s.pairEn then (s.trip 17 allGroups).evalGroups else s

/-- SAFE_XIN_HIGH (R395). -/
def State.xinUp (s : State) : State :=
  let s := { s with safe := { s.safe with xinHigh := true } }
  ((s.fset pgSaf SAF.IN_STAT.XIN 1).fset pgGrd GRD.STAT.XIN 1).evalGroups

/-! ### Commands of SAF (R422, R423, R427) -/

/-- The named groups that are in LOCKOUT. -/
def State.lockedOf (s : State) (groups : Nat) : Nat := groups &&& s.groupsIn .lockout

/-- CLEAR_LOCKOUT is refused: NOT_LOCKED first, then CAUSE_PRESENT (R427). -/
def State.clearRefused (s : State) (groups : Nat) : Option Nat :=
  let m := s.lockedOf groups
  if m = 0 then some 0x21
  else if (List.range 4).any (fun n => s.inEn n && s.inGroups n &&& m != 0 && (s.input n).pinA != (s.input n).pinB) ||
      (bitsSet m 4).any (fun g => !(s.group g).fbOpen || (s.group g).mid || (s.group g).outp) then some 0x20
  else none

/-- CLEAR_LOCKOUT (R427). -/
def State.clearLockout (s : State) (groups : Nat) : State :=
  let m := s.lockedOf groups
  let s' := (bitsSet m 4).foldl (fun s g =>
    (s.setGroup g { s.group g with state := .safe, since := s.mono }).fset pgSaf (SAF.LOCK_CAUSE.CAUSE g) 0) s
  let s' := (List.range 4).foldl (fun s n =>
    let mapped := s.fget pgSaf (SAF.IN_CFG.MAP n) ||| s.fget pgGrd (GRD.IN_MAP.MAP n)
    if mapped &&& m != 0 then s.setBit pgSaf SAF.IN_STAT.DISC n false else s) s'
  (s'.statusIfMoved s).evalGroups

/-- HANDOVER_BEGIN is refused (R422). -/
def State.handoverBlocked (s : State) : Bool :=
  s.fget pgSaf SAF.MSG_STAT.TAKES != 0 || s.groupsIn .closing != 0 || s.groupsIn .opening != 0 || s.safe.handover.isSome

/-- HANDOVER_BEGIN opens a window of 50 ms (R422, R423). -/
def State.handoverBegin (s : State) : State :=
  let s := { s with safe := { s.safe with handover := some (s.mono + 50000000), aliveInWindow := false } }
  let s := (List.range 2).foldl (fun s c => s.setConn c { s.conn c with wasAlive := s.fbit pgSaf (SAF.RX_STAT.ALIVE c) }) s
  (((s.fset pgSaf SAF.GROUP_STAT.HANDOVER 1).fset pgGrd GRD.STAT.HANDOVER 1).evt pgSaf 15).evalGroups

/-- The window closes: GRD times ALIVE again, and the watchdogs of the connections that were alive restart (R423). -/
def State.closeWindow (s : State) : State :=
  let s := { s with safe := { s.safe with
    handover := none, aliveAt := s.safe.aliveAt.map (fun _ => s.mono), aliveInWindow := false } }
  let s := (List.range 2).foldl (fun s c =>
    if (s.conn c).wasAlive then s.setConn c { s.conn c with lastAccept := s.mono } else s) s
  (s.fset pgSaf SAF.GROUP_STAT.HANDOVER 0).fset pgGrd GRD.STAT.HANDOVER 0

/-- A HANDOVER trip closes the window in the same cycle; the next ALIVE write counts again as a first one (R423, R425). -/
def State.handoverTrip (s : State) : State :=
  let s := s.closeWindow
  let s := { s with safe := { s.safe with aliveAt := none } }
  (s.trip 16 allGroups).evalGroups

/-- HANDOVER_EXPIRED (R423). -/
def State.handoverExpired (s : State) : State :=
  match s.safe.handover with
  | some t => ((s.advanceTo t).evt pgGrd 10).handoverTrip
  | none => s

/-- A commit of MATTE or OVL that applies in a window trips (R423). -/
def State.commitInWindow (s : State) : State := if s.safe.handover.isSome then s.handoverTrip else s

/-! ### ALIVE (R425) -/

/-- A wrong or missing ALIVE write (R425). -/
def State.safSilent (s : State) : State :=
  let s := { s with safe := { s.safe with aliveAt := none } }
  (((s.fset pgGrd GRD.STAT.SAF_OK 0).evt pgGrd 9).trip 15 allGroups).evalGroups

/-- GRD_ALIVE_WRITE: a SAF write of GRD.ALIVE (R423, R425). -/
def State.aliveWrite (s : State) (v : Nat) : State :=
  let old := s.fget pgGrd GRD.ALIVE.COUNT
  let first := s.safe.aliveAt.isNone
  let next := v % 256 = (old + 1) % 256
  let s := s.fset pgGrd GRD.ALIVE.COUNT v
  if first || next then
    let s := { s with safe := { s.safe with
      aliveAt := some s.mono, aliveInWindow := s.safe.aliveInWindow || (s.safe.handover.isSome && next) } }
    s.fset pgGrd GRD.STAT.SAF_OK 1
  else s.safSilent

/-- SAF_SILENT: no valid ALIVE write within 1 ms, outside a handover window (R422, R425). -/
def State.aliveTimeout (s : State) : State :=
  match s.safe.aliveAt with
  | some t => if s.safe.handover.isSome then s else (s.advanceTo (t + 1000000)).safSilent
  | none => s

/-! ### Self-test (R429) -/

/-- SELF_TEST_START. -/
def State.selfTestStart (s : State) (g : Nat) : State :=
  let x := s.group g
  if x.state = .start && x.testing.isNone && s.groupEn g && s.fbit pgGrd GRD.STAT.SAF_OK then
    s.setGroup g { x with testing := some s.mono }
  else s

/-- SELF_TEST_DONE: `stageOk` says that the switches, the readbacks and the coil current passed (R394, R429). -/
def State.selfTestDone (s : State) (g : Nat) (stageOk : Bool) : State :=
  let x := s.group g
  if x.testing.isNone || x.state != .start then s
  else
    let s := s.setGroup g { x with testing := none }
    let agree := (List.range 4).all (fun n => !s.inEn n || (s.input n).pinA = (s.input n).pinB)
    if stageOk && x.fbOpen && agree then
      (s.setGroup g { s.group g with state := .safe, since := s.mono, mid := false, outp := false }).statusIfMoved s
        |>.evalGroups
    else (s.enterLockout g 19).statusIfMoved s

/-! ### Commits (R423, R426) -/

/-- Groups in CLOSING, PERMIT or OPENING. -/
def State.activeGroups (s : State) : Nat := s.groupsIn .closing ||| s.groupsIn .permit ||| s.groupsIn .opening

/-- A field of a page is changed by a commit of it, as a mask of the groups it concerns. -/
def State.concerned (s : State) (p : Nat) (l : List (Fld × Nat)) : Nat :=
  l.foldl (fun m e => if s.changes p e.1 then m ||| e.2 else m) 0

/-- The fields of SAF with the groups they concern (R426). -/
def State.safConcern (s : State) : Nat :=
  let p := pgSaf
  let both (f : Fld) : Nat := s.fget p f ||| s.sget p f
  let ins := (List.range 4).flatMap (fun n =>
    [(SAF.IN_CFG.EN n, both (SAF.IN_CFG.MAP n)), (SAF.IN_CFG.MAP n, both (SAF.IN_CFG.MAP n))])
  let rx := (List.range 2).flatMap (fun c =>
    [SAF.RX_ID.CONN_ID c, SAF.RX_SEED.SEED c, SAF.RX_CFG.WD_MS c, SAF.RX_CFG.MAP c, SAF.RX_CFG.WIN_MAX_US c,
     if c = 0 then SAF.CTL.RX0_EN else SAF.CTL.RX1_EN].map (fun f => (f, both (SAF.RX_CFG.MAP c))))
  let all := [SAF.CTL.PAIR_EN, SAF.IN_TIMING.FILTER_US, SAF.IN_TIMING.DISC_MS, SAF.OUT_TIMING.TP_PERIOD_MS,
    SAF.OUT_TIMING.TP_US, SAF.FB_TIMING.FB_OPEN_MS, SAF.FB_TIMING.FB_CLOSE_MS].map (fun f => (f, allGroups))
  s.concerned p (ins ++ rx ++ all) ||| (s.fget p SAF.CTL.GROUP_EN ^^^ s.sget p SAF.CTL.GROUP_EN)

/-- A value outside a range. -/
def outside (v lo hi : Nat) : Bool := v < lo || hi < v

/-- The reasons of R426 for SAF. -/
def State.safReasons (s : State) : List Nat :=
  let g (f : Fld) : Nat := s.sget pgSaf f
  let id (c : Nat) : Nat := g (SAF.RX_ID.CONN_ID c)
  let en (c : Nat) : Bool := g (if c = 0 then SAF.CTL.RX0_EN else SAF.CTL.RX1_EN) = 1
  reasons [
    (s.safConcern &&& s.activeGroups != 0, 0x10),
    (outside (g SAF.IN_TIMING.FILTER_US) 100 2000 || outside (g SAF.IN_TIMING.DISC_MS) 10 1000 ||
      outside (g SAF.OUT_TIMING.TP_PERIOD_MS) 100 4095 || outside (g SAF.OUT_TIMING.TP_US) 100 1000 ||
      outside (g SAF.FB_TIMING.FB_OPEN_MS) 10 100 || outside (g SAF.FB_TIMING.FB_CLOSE_MS) 10 1000 ||
      (List.range 2).any (fun c => outside (g (SAF.RX_CFG.WD_MS c)) 10 1000 || g (SAF.RX_CFG.WIN_MAX_US c) = 0) ||
      outside (g SAF.TX_CFG.PERIOD_MS) 1 1000 || g SAF.TX_CFG.WINDOW_US = 0, 0x11),
    ((en 0 && en 1 && id 0 = id 1) || (en 0 && id 0 = 0) || (en 1 && id 1 = 0), 0x12)]

/-- The fields of GRD with the groups they concern (R426). -/
def State.grdConcern (s : State) : Nat :=
  let p := pgGrd
  let both (f : Fld) : Nat := s.fget p f ||| s.sget p f
  let ins := (List.range 4).map (fun n => (GRD.IN_MAP.MAP n, both (GRD.IN_MAP.MAP n)))
  let enMoved := s.fget p GRD.IN_MAP.EN ^^^ s.sget p GRD.IN_MAP.EN
  let inEn := (bitsSet enMoved 4).foldl (fun m n => m ||| both (GRD.IN_MAP.MAP n)) 0
  let conn := [(GRD.CONN.WD0_MS, both GRD.CONN.MAP0), (GRD.CONN.MAP0, both GRD.CONN.MAP0),
    (GRD.CONN.EN0, both GRD.CONN.MAP0), (GRD.CONN.WD1_MS, both GRD.CONN.MAP1),
    (GRD.CONN.MAP1, both GRD.CONN.MAP1), (GRD.CONN.EN1, both GRD.CONN.MAP1)]
  let all := [GRD.CTL.PAIR_EN, GRD.TIMING.FILTER_US, GRD.TIMING.DISC_MS].map (fun f => (f, allGroups))
  s.concerned p (ins ++ conn ++ all) ||| inEn ||| (s.fget p GRD.CTL.GROUP_EN ^^^ s.sget p GRD.CTL.GROUP_EN)

/-- The reasons of R426 for GRD. -/
def State.grdReasons (s : State) : List Nat :=
  let g (f : Fld) : Nat := s.sget pgGrd f
  let v (f : Fld) : Nat := s.fget pgSaf f
  let same := g GRD.CTL.GROUP_EN = v SAF.CTL.GROUP_EN && g GRD.CTL.PAIR_EN = v SAF.CTL.PAIR_EN &&
    (List.range 4).all (fun n => (b2n (bit (g GRD.IN_MAP.EN) n)) = v (SAF.IN_CFG.EN n) &&
      g (GRD.IN_MAP.MAP n) = v (SAF.IN_CFG.MAP n)) &&
    g GRD.TIMING.FILTER_US = v SAF.IN_TIMING.FILTER_US && g GRD.TIMING.DISC_MS = v SAF.IN_TIMING.DISC_MS &&
    g GRD.CONN.EN0 = v SAF.CTL.RX0_EN && g GRD.CONN.EN1 = v SAF.CTL.RX1_EN &&
    g GRD.CONN.MAP0 = v (SAF.RX_CFG.MAP 0) && g GRD.CONN.MAP1 = v (SAF.RX_CFG.MAP 1) &&
    g GRD.CONN.WD0_MS = v (SAF.RX_CFG.WD_MS 0) && g GRD.CONN.WD1_MS = v (SAF.RX_CFG.WD_MS 1)
  reasons [
    (s.grdConcern &&& s.activeGroups != 0, 0x10),
    (outside (g GRD.TIMING.FILTER_US) 100 2000 || outside (g GRD.TIMING.DISC_MS) 10 1000 ||
      outside (g GRD.CONN.WD0_MS) 10 1000 || outside (g GRD.CONN.WD1_MS) 10 1000, 0x11),
    (!same, 0x13)]

/-- A commit of SAF or GRD has applied: newly enabled inputs are timed from now, a newly enabled connection is FRESH, and
SAFE_XIN counts from now (R401, R402, R420, R425). -/
def State.safApplied (s old : State) : State :=
  let s := (List.range 4).foldl (fun s n =>
    let s := if s.inEn n && !old.inEn n then s.setInput n { s.input n with enSince := s.mono } else s
    if s.inEn n then s else
      ((s.setInput n { s.input n with demA := false, demB := false }).setBit pgSaf SAF.IN_STAT.DEMAND n false)) s
  let s := (List.range 2).foldl (fun s c =>
    if s.rxEn c && !old.rxEn c then
      ((s.fset pgSaf (SAF.RX_STAT.FRESH c) 1).fset pgSaf (SAF.RX_STAT.ALIVE c) 0).fset pgSaf (SAF.RX_STAT.DEMAND c) 0
    else s) s
  let s := if s.pairEn && !old.pairEn && !s.safe.xinHigh then s.trip 17 allGroups else s
  s.evalGroups

/-! ### What the status registers show (R394, R410, R418, R428) -/

/-- The words that SAF and GRD compute from their state when they are read. -/
def State.safeWord (s : State) (a : Nat) : Option Nat :=
  let w := (s.word a).toNat
  let states := (List.range 4).foldl (fun v g => v + (s.group g).state.code * 8 ^ g) 0
  let permit := s.groupsIn .permit
  if a = addrOf pgSaf 0x054 then
    some (states + (if s.safRuns then permit else 0) * 2 ^ 12 + b2n s.safe.handover.isSome * 2 ^ 16)
  else if a = addrOf pgSaf 0x064 then
    some ((List.range 4).foldl (fun v g =>
      let x := s.group g
      v + (b2n x.swA + 2 * b2n x.swB + 4 * b2n x.mid + 8 * b2n x.outp) * 16 ^ g + b2n x.fbOpen * 2 ^ (16 + g)) 0)
  else if a = addrOf pgGrd 0x050 then
    some (putBits (putBits (putBits (putBits w 0 4 permit) 4 4 (15 - permit)) 8 1 (b2n s.safe.handover.isSome)) 11 1
      (b2n s.xoutHigh))
  else none

end Sys2Proof.Machine
end

