-- ==== Sys2Proof/Machine/Dly.lean ====
section
/-! DEFINITION. DLY (R528, R531, R532): the dailies records, their ring in flash, and their reels. -/

namespace Sys2Proof.Machine

/-- The highest valid die reading and its sensor (R528); with none valid the spec gives no value. -/
def State.dieMax (s : State) : Option (Nat × Nat) :=
  (List.range 12).foldl (fun m n =>
    if s.fbit pgThm (THM.TS.VALID n) && !s.fbit pgThm (THM.TS.BROKEN n) then
      match m with
      | none => some (s.fget pgThm (THM.TS.VALUE n), n)
      | some (v, k) =>
        if sgn 16 v < s.fgetI pgThm (THM.TS.VALUE n) then some (s.fget pgThm (THM.TS.VALUE n), n) else some (v, k)
    else m) none

/-- The 128 bytes of a record (R528). -/
def State.dailyRecord (s : State) (seq kind note : Nat) : List Nat × State :=
  let (die, s) := match s.dieMax with
    | some d => (d, s)
    | none =>
      let (a, s) := s.fresh 16
      let (b, s) := s.fresh 8
      ((a.toNat, b.toNat), s)
  let (e, s) := s.roundFree s.holdupNum holdupDen
  let links := (List.range 6).foldl (fun n i => n + s.linkState i <<< (3 * i)) 0 + s.activeUp <<< 18
  let rails := ((List.range 32).filter s.railEn).foldl (fun n u => n + s.fget pgGaf (GAF.RAIL_NOW.IOUT u)) 0
  let body := leBytes s.now 8 ++ leBytes seq 4 ++ leBytes (s.deviceId + kind <<< 9) 2 ++ leBytes s.frame 2 ++ leBytes note 2 ++
    [0, 0] ++
    leBytes (s.fget pgDiag DIAG.CNT_OK.COUNT) 4 ++ leBytes (s.fget pgDiag DIAG.CNT_OPEN.COUNT) 4 ++
    leBytes (s.fget pgDiag DIAG.CNT_SHORT.COUNT) 4 ++ leBytes (s.fget pgDiag DIAG.CNT_DEGRADED.COUNT) 4 ++
    leBytes (s.fget pgDiag DIAG.CNT_UNVERIFIED.COUNT) 4 ++
    (List.range 5).flatMap (fun i => leBytes (s.fget pgFlt (FLT.CLASS_CNT.COUNT i)) 4) ++
    leBytes die.1 2 ++ [die.2, 0] ++
    (List.range 16).flatMap (fun t => leBytes (s.fget (pgDud t) DUD.TEMP.MAX) 2) ++
    leBytes links 4 ++ [s.pairState + b2n (s.fbit pgPair PAIR.STAT.READY) <<< 3] ++ leBytes s.groupCodes 2 ++
    [b2n (s.fbit pgScal SCAL.STAT.TIME_UNTRACED) + b2n (s.fbit pgScal SCAL.STAT.VOLT_UNTRACED) <<< 1] ++
    leBytes (s.fget pgSys SYS.FIELD_STAT.TILE_LIVE + b2n (s.fbit pgTime TIME.STILL_STAT.STILL) <<< 16) 4 ++
    leBytes rails 4 ++ leBytes (unsgn 32 e) 4 ++
    leBytes (s.fget pgMem MEM.CORR_CNT.COUNT) 4 ++ leBytes (s.fget pgMem MEM.UNCORR_CNT.COUNT) 4
  (body ++ leBytes (crc32c body) 4, s)

/-- A record is formed: it goes to the next slot of the ring, whose sector is erased as the ring enters it, and with
QUEUE_EN to a reel (R528). -/
def State.dailyForm (s : State) (kind note : Nat) : State :=
  let seq := (s.fget pgDly DLY.SEQ.SEQ + 1) % 2 ^ 32
  let (bytes, s) := s.dailyRecord seq kind note
  let s := s.fset pgDly DLY.SEQ.SEQ seq
  let queued := (s.fw.queue.filter (fun e => e.1 = .daily && (match e.2 with | .program _ _ => true | _ => false))).length
  let slot := (s.fget pgDly DLY.RING.HEAD + queued) % 65536
  let a := 0x3800000 + 128 * slot
  let s := s.flashQueue .daily ((if slot % 512 = 0 then [FlashOp.erase a] else []) ++ [.program a bytes])
  if s.fbit pgDly DLY.CTL.QUEUE_EN then
    s.reelPush (s.fget pgDly DLY.CTL.QUEUE) 0x1B
      ((List.range 32).map (fun i => ofLeBytes ((bytes.drop (4 * i)).take 4)))
  else s

/-- A record still waiting at the end of its period is dropped (R528). -/
def State.dailySkip (s : State) : State :=
  let waits := if s.fw.issued then s.fw.queue.drop 1 else s.fw.queue
  if waits.any (fun e => e.1 = .daily) then ((s.jobDrop (fun j => j = .daily)).finc pgDly DLY.CNT.SKIPPED).evt pgDly 9 else s

/-- DAILIES_PERIOD (R528). -/
def State.dailiesPeriod (s : State) : State :=
  if s.fbit pgDly DLY.CTL.EN && s.domOn 2 then
    let s := s.advanceTo (s.fw.lastDaily + s.fget pgDly DLY.CTL.PERIOD_S * 1000000000)
    let now := s.mono
    ((s.dailySkip).setFw (fun f => { f with lastDaily := now })).dailyForm 0 0
  else s

/-- A record of the ring as READ finds it: its bytes, and whether its CRC is good. -/
def FlashSt.daily (f : FlashSt) (slot : Nat) : List Nat × Bool :=
  let d := f.read (0x3800000 + 128 * slot) 128
  (d, crc32c (d.take 124) = ofLeBytes (d.drop 124))

/-- READ: a slot that holds an erased record is EMPTY (R532). -/
def State.dailyRead (s : State) : State :=
  let (d, ok) := s.flash.daily (s.fget pgDly DLY.READ_IDX.SLOT)
  if d.all (· = 0xFF) then s.cmdFail pgDly 0x30
  else if !ok then s.cmdFail pgDly 0x31
  else
    ((List.range 32).foldl (fun s i =>
      s.fset pgDly (DLY.READ_DATA.WORD i) (ofLeBytes ((d.drop (4 * i)).take 4))) s).cmdDone pgDly

/-- The slots of the ring that hold anything. -/
def FlashSt.dailySlots (f : FlashSt) : List Nat :=
  (SMap.range f.bytes 0x3800000 0x4000000).foldl (fun l e =>
    let k := (e.1 - 0x3800000) / 128
    if l.headD 65536 = k then l else k :: l) []

/-- At start-up the ring head follows the valid record with the highest SEQ (R528). -/
def State.dailyStart (s : State) : State :=
  let best := s.flash.dailySlots.foldl (fun m k =>
    let (d, ok) := s.flash.daily k
    let q := ofLeBytes ((d.drop 8).take 4)
    match m with
    | none => if ok then some (q, k) else none
    | some (q', k') => if ok && q' < q then some (q, k) else some (q', k')) none
  let s := match best with
    | some (q, k) => (s.fset pgDly DLY.SEQ.SEQ q).fset pgDly DLY.RING.HEAD ((k + 1) % 65536)
    | none => s
  let now := s.mono
  let s := s.setFw (fun f => { f with lastDaily := now, lastWear := now, lastDiag := now })
  if s.fbit pgDly DLY.CTL.EN then s.dailyForm 2 0 else s

/-- The block commit reason of R531. -/
def State.dlyReasons (s : State) (ps : List Nat) : List Nat :=
  reasons [(s.vget ps pgDly DLY.CTL.PERIOD_S < 10, 0x10)]

end Sys2Proof.Machine
end

