-- ==== Sys2Proof/Machine/Pwr.lean ====
section
/-! DEFINITION. PWR (R430 to R446, R565, R570): requests, the transitions of a domain, wakes, the always-on regulator and
brown-outs. The fixed delays are taken at their limits. -/

namespace Sys2Proof.Machine

/-- The transition that a domain runs. -/
def State.trans (s : State) (d : Nat) : Option Trans := SMap.read none s.pwr.trans d

/-- A domain's transition starts, changes or ends: `DOM_STAT` shows it. -/
def State.setTrans (s : State) (d : Nat) (t : Option Trans) : State :=
  let s := { s with pwr := { s.pwr with trans := SMap.write none s.pwr.trans d t } }
  (s.fsetB pgPwr (PWR.DOM_STAT.BUSY d) t.isSome).fset pgPwr (PWR.DOM_STAT.TARGET d) ((t.map (·.target)).getD 0)

/-- The request that a domain has queued: state and requester. -/
def State.queuedReq (s : State) (d : Nat) : Option (Nat × Nat) := SMap.read none s.pwr.queued d

/-- A request is queued, replaced or cleared. -/
def State.setQueued (s : State) (d : Nat) (q : Option (Nat × Nat)) : State :=
  let s := { s with pwr := { s.pwr with queued := SMap.write none s.pwr.queued d q } }
  (s.fsetB pgPwr (PWR.DOM_STAT.QVALID d) q.isSome).fset pgPwr (PWR.DOM_STAT.QSTATE d) ((q.map (·.1)).getD 0)

/-- An exit is held or starts. -/
def State.setHeld (s : State) (d : Nat) (h : Option Nat) : State :=
  let s := { s with pwr := { s.pwr with held := SMap.write none s.pwr.held d h } }
  s.fsetB pgPwr (PWR.DOM_STAT.HELD d) h.isSome

/-- `DOM_STAT.STATE` of a domain: 0 ON, 1 RET, 2 OFF. -/
def State.domState (s : State) (d : Nat) : Nat := s.fget pgPwr (PWR.DOM_STAT.STATE d)

/-- The switchable domains. -/
def domains : List Nat := (List.range 18).map (· + 1)

/-! ### Delays (R438, R439, R570) -/

/-- Step 2 of an entry. -/
def quiesceNs (d : Nat) : Nat := if d = 8 then 1500 else 10000

/-- Step 7 of an entry, by class. -/
def dischargeNs (d : Nat) : Nat := if d = 8 then 30000 else if 2 ≤ d ∧ d ≤ 7 then 50000 else 20000

/-- Step 3 of an exit, by class. -/
def railNs (d : Nat) : Nat := if d = 8 then 40000 else if 2 ≤ d ∧ d ≤ 7 then 60000 else 20000

/-- The abort points A, B and C of an entry, after its start; a transition from RET has none. -/
def Trans.abortPoints (t : Trans) (d : Nat) : List Nat :=
  if t.source = 0 && t.target != 0 then
    [quiesceNs d + 100, quiesceNs d + 200, quiesceNs d + (if t.target = 1 then 500 else 300)]
  else []

/-- When the rail switches of an entry open, after its start. -/
def Trans.pointC (t : Trans) (d : Nat) : Nat :=
  if t.source = 0 then quiesceNs d + (if t.target = 1 then 500 else 300) else 100

/-- How long a transition takes. -/
def Trans.length (t : Trans) (d : Nat) : Nat :=
  if t.target = 0 then railNs d + 200 + 2000 + 100 + 1000 else t.pointC d + dischargeNs d

/-- The step in progress after a time; an exit that first brings the regulator to normal mode starts with step 2. -/
def Trans.step (t : Trans) (d now : Nat) : Nat :=
  let e := now - t.start
  if t.target = 0 then
    if now < t.start then 2
    else if e < railNs d then 3
    else if e < railNs d + 200 then 4
    else if e < railNs d + 2200 then 5
    else if e < railNs d + 2300 then 6
    else 7
  else if t.pointC d ≤ e then 7
  else if t.source != 0 || t.pointC d ≤ e + 100 then 6
  else if e < quiesceNs d then 2
  else if e < quiesceNs d + 100 then 3
  else if e < quiesceNs d + 200 then 4
  else 5

/-- `DOM_STAT.STEP` as it reads (R456). -/
def State.domStep (s : State) (d : Nat) : Nat :=
  match s.trans d with
  | some t => t.step d s.mono
  | none => 0

/-! ### The always-on regulator (R444) -/

/-- Every switchable domain has left ON. -/
def State.noneOn (s : State) : Bool := domains.all (fun d => s.domState d != 0)

/-- Low-power mode is entered (R444): allowed, no domain ON, no transition running or queued. -/
def State.lpEnter (s : State) : State :=
  if s.fbit pgPwr PWR.LP_CTL.LP_EN && !s.fbit pgPwr PWR.LP_CTL.LP_NOW && s.noneOn &&
      domains.all (fun d => (s.trans d).isNone && (s.queuedReq d).isNone) then
    ((s.advanceTo (s.pwr.allOffAt + 10000)).fset pgPwr PWR.LP_CTL.LP_NOW 1).evt pgPwr 12
  else s

/-- Low-power mode is left (R444, R446). -/
def State.lpLeave (s : State) : State :=
  if s.fbit pgPwr PWR.LP_CTL.LP_NOW then (s.fset pgPwr PWR.LP_CTL.LP_NOW 0).evt pgPwr 13 else s

/-! ### What a domain loses (R47, R431, R565) -/

/-- The pages of a domain. -/
def pagesOfDomain (d : Nat) : List Nat := allPages.filter (fun p => domainOf p = d)

/-- What a running command of a page leaves undone when it is abandoned (R565). -/
def State.stopWork (s : State) (p : Nat) : State :=
  match pageOf p with
  | some (.cmp, _) =>
    { s with cmp := { s.cmp with armed := false, capturing := none } }
  | some (.cad, _) =>
    { s with cad := { s.cad with copy := none, exchange := false } }.fset pgCad CAD.STAT.COPY_BUSY 0
  | some (.matte, _) => s.fset pgMatte MATTE.STAT.VERIFY_BUSY 0
  | some (.diag, _) =>
    { s with diag := { s.diag with initTiles := 0 } }.fset pgDiag DIAG.STAT.CMD_RUN 0
  | some (.mem, _) => { s with mem := { s.mem with windowWait := 0, training := none } }
  | some (.dud, t) => s.abandonRing t
  | some (.fw, _) =>
    (s.setFw (fun f => { f with ckptJobs := 0 })).jobDrop (fun j =>
      match j with | .wear _ _ => true | .diag _ => true | .confirm => true | _ => false)
  | _ => s

/-- A page's running command is abandoned with POWER (R565). -/
def State.abandonCmd (s : State) (p : Nat) : State :=
  if (s.hdr p).run.isSome then (s.stopWork p).cmdFail p 0xFF else s

/-- Step 2 of an entry (R438). -/
def State.quiesce (s : State) (d : Nat) : State :=
  let s := (pagesOfDomain d).foldl State.abandonCmd s
  let s := if 9 ≤ d ∧ d ≤ 14 then s.lanesDomainOff (d - 9) else s
  let s := if 15 ≤ d then (List.range 16).foldl (fun s t => if portGroup t = d - 15 then s.abandonRing t else s) s else s
  if d = 8 ∧ s.fget pgMem MEM.STAT.STATE ≠ 5 then s.fset pgMem MEM.STAT.STATE 4 else s

/-- MEM answers again after RET or an abandoned entry (R338, R441). -/
def State.memResume (s : State) : State := if s.fget pgMem MEM.STAT.STATE = 5 then s else s.memStart

/-- The masters that stand in a domain (R44, R432). -/
def mastersOf (d : Nat) : List Nat :=
  if d = 1 then [0xA] else if d = 2 then [9, 0xC] else []

/-- The state of a domain's blocks beside their pages returns to its reset value (R47). -/
def State.clearDomain (s : State) (d : Nat) : State :=
  if d = 1 then
    { s with
      waiting := s.waiting.filter (fun a => a.master != 0xA)
      safe := { s.safe with
        conns := [], lastStatus := 0, msgRefused := false, msgNext := none, msgFrom := 0, aliveAt := none }
      boot := { s.boot with
        safRunning := false, safSlot := none, banks := SMap.clear s.boot.banks 2 4, benchSaf := [],
        stateVer := SMap.del s.boot.stateVer 2 } }
  else if d = 2 then
    { s with
      reels := []
      chks := []
      sram := {}
      gaf := {}
      pair := {}
      fw := {}
      waiting := s.waiting.filter (fun a => a.master != 9 && a.master != 0xC)
      boot := { s.boot with
        mgtRunning := false, mgtSlot := none, banks := SMap.clear s.boot.banks 0 2, benchMgt := [],
        stateVer := SMap.del s.boot.stateVer 1 } }
  else if d = 3 then { s with cmp := {} }
  else if d ≤ 7 then
    { s with cad := { s.cad with lfsr := SMap.del s.cad.lfsr (d - 4) } }
  else if d = 8 then
    { s with
      mem := {}
      arb := {}
      cad := { seals := s.cad.seals }
      matte := {}
      diag := {}
      transport := { s.transport with ingest := [] } }
  else if d ≤ 14 then
    let n := d - 9
    let s := (lanesOf n).foldl (fun s l => s.setLane l { signal := (s.lane l).signal }) s
    let s := { s with links := SMap.del s.links n, trains := SMap.del s.trains n }
    if n = 4 then { s with transport := { s.transport with session := none } }
    else if n = 0 then { s with transport := { s.transport with commandPending := false, prefUsableSince := none } }
    else s
  else (List.range 16).foldl (fun s t => if portGroup t = d - 15 then s.setDud t {} else s) s

/-- A domain has lost its state: its pages are at their reset values, its blocks forget, and the locks that its masters
hold elsewhere break (R47, R431, R432). -/
def State.domainLost (s : State) (d : Nat) : State :=
  let safBank := s.fget pgFw FW.STAT.SAF_BANK
  let safTrial := s.fget pgFw FW.STAT.SAF_TRIAL
  let s := (pagesOfDomain d).foldl State.resetPage s
  let s := ((mastersOf d).foldl State.breakLocksOf s).clearDomain d
  let s := if d = 2 then ((s.fset pgFw FW.STAT.SAF_BANK safBank).fset pgFw FW.STAT.SAF_TRIAL safTrial).showVersion 2
    else if d = 1 then ((s.fset pgFw FW.STAT.SAF_BANK 0).fset pgFw FW.STAT.SAF_TRIAL 0).showVersion 2
    else s
  let s := if d = 9 then s.showKey else s
  let s := if d = 1 then s.fset pgSys SYS.BOOT_STAT.SAF_OK 0 else if d = 2 then s.fset pgSys SYS.BOOT_STAT.MGT_OK 0 else s
  s.showOtp

/-! ### Requests (R434 to R437, R442) -/

/-- `REQ_STAT` records a request and its outcome; the requester of a wake is no master and shows as 0 (R456). -/
def State.reqRecord (s : State) (d outcome reason who : Nat) : State :=
  (((s.fset pgPwr PWR.REQ_STAT.DOMAIN d).fset pgPwr PWR.REQ_STAT.OUTCOME outcome).fset pgPwr PWR.REQ_STAT.REASON reason).fset
    pgPwr PWR.REQ_STAT.MASTER (if who < 0x40 then who else 0)

/-- `REFUSE_CNT` and `LAST_REFUSER` (R437). -/
def State.refuseCount (s : State) (d reason who : Nat) : State :=
  (((s.finc pgPwr PWR.REFUSE_CNT.COUNT).fset pgPwr PWR.LAST_REFUSER.DOMAIN d).fset pgPwr PWR.LAST_REFUSER.REASON reason).fset
    pgPwr PWR.LAST_REFUSER.WHO who

/-- A refused entry or illegal request (R437, R457). -/
def State.refuseReq (s : State) (d reason refuser who : Nat) : State :=
  ((s.refuseCount d reason refuser).evt pgPwr 9).reqRecord d 6 reason who

/-- The domain that a domain needs (R430). -/
def parentOf (d : Nat) : Option Nat := if 3 ≤ d ∧ d ≤ 7 then some 8 else none

/-- The tiles whose TILE_EN bit keeps a domain ON (R435). -/
def tilesOfDomain (d : Nat) : List Nat :=
  if d = 3 then List.range 16
  else if 4 ≤ d ∧ d ≤ 7 then tilesOfQuadrant (d - 4)
  else if 15 ≤ d then tilesOfQuadrant (d - 15)
  else []

/-- Whether a domain counts as ON for R435: ON, in a transition, or with an exit held (R436). -/
def State.countsOn (s : State) (d : Nat) : Bool :=
  s.domState d = 0 || (s.trans d).isSome || (SMap.read none s.pwr.held d).isSome

/-- The checks of an entry request (R435): reason and refuser of the first that fails. -/
def State.entryCheck (s : State) (d : Nat) : Option (Nat × Nat) :=
  match domains.find? (fun c => parentOf c = some d && s.countsOn c) with
  | some c => some (1, c)
  | none =>
    if d = 1 && s.lightAny then some (3, 6)
    else if d = 1 && (s.fget pgSaf SAF.CTL.GROUP_EN != 0 || s.fget pgGrd GRD.CTL.GROUP_EN != 0) then some (4, 6)
    else if (tilesOfDomain d).any (fun t => bit (s.fget pgSys SYS.FIELD_CFG.TILE_EN) t) then some (5, 0)
    else none

/-- An entry starts (R438, R570). -/
def State.startEntry (s : State) (d target : Nat) : State :=
  let src := s.domState d
  let s := s.setTrans d (some { target := target, source := src, start := s.mono })
  if src = 0 then s.quiesce d else s

/-- An exit starts; it first brings the regulator to normal mode (R439, R444). -/
def State.startExit (s : State) (d : Nat) : State :=
  let lp := s.fbit pgPwr PWR.LP_CTL.LP_NOW
  (s.setTrans d (some { target := 0, source := s.domState d, start := s.mono + (if lp then 5000 else 0) })).lpLeave

/-- A request while no transition runs and no exit is held (R434 to R436). -/
def State.idleReq (s : State) (who d st : Nat) : State :=
  let cur := s.domState d
  if st = cur then s.reqRecord d 5 0 who
  else if st = 0 then
    match parentOf d with
    | some p =>
      match s.trans p with
      | some t =>
        if t.target = 0 then (s.setHeld d (some who)).reqRecord d 7 0 who
        else s.reqRecord d 6 2 who
      | none =>
        if s.domState p = 0 then (s.startExit d).reqRecord d 1 0 who
        else s.reqRecord d 6 2 who
    | none => (s.startExit d).reqRecord d 1 0 who
  else if st = 1 ∧ cur = 2 then s.refuseReq d 6 who who
  else
    match s.entryCheck d with
    | some (reason, refuser) => s.refuseReq d reason refuser who
    | none => (s.startEntry d st).reqRecord d 1 0 who

/-- A request that waits for a running transition: queued, or in place of the one queued (R442). -/
def State.enqueueReq (s : State) (who d st : Nat) : State :=
  (s.setQueued d (some (st, who))).reqRecord d (if (s.queuedReq d).isSome then 3 else 2) 0 who

/-- A request for a state of a switchable domain (R434 to R442). A held exit counts as an exit. -/
def State.request (s : State) (who d st : Nat) : State :=
  match s.trans d with
  | none =>
    if (SMap.read none s.pwr.held d).isSome then
      if st = 0 then (s.setQueued d none).reqRecord d 5 0 who else s.enqueueReq who d st
    else s.idleReq who d st
  | some t =>
    if t.target = 0 || t.abandon.isSome then
      if st = 0 then (s.setQueued d none).reqRecord d 5 0 who else s.enqueueReq who d st
    else if st = 0 && t.source = 0 && s.mono - t.start < t.pointC d then
      ((s.setTrans d (some { t with abandon := some who })).setQueued d none).reqRecord d 4 0 who
    else if st = t.target then (s.setQueued d none).reqRecord d 5 0 who
    else if t.target = 2 && st = 1 then s.refuseReq d 7 who who
    else s.enqueueReq who d st

/-- A write to `PWR.REQ` (R434): illegal domains and states are refused, the rest are requests. -/
def State.domainReq (s : State) (who d st : Nat) : State :=
  if d = 0 || 18 < d || st = 3 then s.refuseReq d 6 who who else s.request who d st

/-! ### Ends of transitions (R431, R438 to R442) -/

/-- A queued request runs, and is checked now (R442). -/
def State.runQueued (s : State) (d : Nat) : State :=
  match s.queuedReq d with
  | some (st, who) => (s.setQueued d none).request who d st
  | none => s

/-- Leases that ran out in RET break in the first cycle after the return (R432). -/
def State.breakExpired (s : State) (d : Nat) : State :=
  (pagesOfDomain d).foldl (fun s p => if (s.hdr p).owner.isSome && (s.hdr p).leaseEnd ≤ s.mono then s.breakLock p else s) s

/-- The exits that waited for a parent start (R436). -/
def State.startHeld (s : State) (d : Nat) : State :=
  domains.foldl (fun s c =>
    if parentOf c = some d && (SMap.read none s.pwr.held c).isSome then (s.setHeld c none).startExit c else s) s

/-- The outside activity of a domain's blocks starts again (R441, R443). -/
def State.restartActivity (s : State) (d : Nat) : State :=
  let s := if d = 8 then s.memResume else s
  if 9 ≤ d ∧ d ≤ 14 then s.laneEnable (d - 9) else s

/-- ENTRY_ABANDON: at the next abort point an entry with a wake or an ON request pending is undone, and the domain is ON
again as before the request (R441). -/
def State.entryAbandon (s : State) (d : Nat) : State :=
  match s.trans d with
  | none => s
  | some t =>
    match t.abandon with
    | none => s
    | some who =>
      let s := match (t.abortPoints d).find? (fun e => s.mono - t.start ≤ e) with
        | some e => s.advanceTo (t.start + e)
        | none => s
      let s := (s.refuseCount d 8 who).evt pgPwr 10
      (((s.setTrans d none).restartActivity d).breakExpired d).runQueued d

/-- DOMAIN_ENTRY_DONE (R431, R433, R438). -/
def State.entryDone (s : State) (d : Nat) : State :=
  match s.trans d with
  | none => s
  | some t =>
    if t.target = 0 || t.abandon.isSome then s
    else
      let s := s.advanceTo (t.start + t.length d)
      let target := if t.lost then 2 else t.target
      let s := (s.fset pgPwr (PWR.DOM_STAT.STATE d) target).finc pgPwr (PWR.DOM_STAT.TRANSITIONS d)
      let s := if target = 2 then s.domainLost d else s
      let s := if d = 8 ∧ target = 2 ∧ !t.lost then { s with dram := {} } else s
      let s := if d = 8 ∧ target = 2 then s.fset pgMem MEM.STAT.STATE 0 else s
      let s := (s.setTrans d none).evt pgPwr 8
      let s := if s.noneOn then { s with pwr := { s.pwr with allOffAt := s.mono } } else s
      s.runQueued d

/-- DOMAIN_EXIT_DONE (R432, R436, R439, R442). -/
def State.exitDone (s : State) (d : Nat) : State :=
  match s.trans d with
  | none => s
  | some t =>
    if t.target != 0 then s
    else
      let s := s.advanceTo (t.start + t.length d)
      let lost := s.fbit pgPwr (PWR.DOM_STAT.LOST d)
      let s := (s.fset pgPwr (PWR.DOM_STAT.STATE d) 0).finc pgPwr (PWR.DOM_STAT.TRANSITIONS d)
      let s := if lost then
          (pagesOfDomain d).foldl (fun s p => s.setHdr p { s.hdr p with lost := true }) (s.fset pgPwr (PWR.DOM_STAT.LOST d) 0)
        else s
      let s := ((s.setTrans d none).evt pgPwr 8).scalDomainOn d
      (((s.breakExpired d).restartActivity d).startHeld d).runQueued d

/-! ### Wakes (R443) -/

/-- A wake: an exit request that a domain already ON does not notice; only a refusal is shown in `REQ_STAT` (R436). -/
def State.wake (s : State) (who d : Nat) : State :=
  if s.domState d = 0 && (s.trans d).isNone then s
  else
    let t := s.request who d 0
    if t.fget pgPwr PWR.REQ_STAT.OUTCOME = 6 then t
    else
      let a := addrOf pgPwr PWR.REQ_STAT.DOMAIN.off
      t.setWord a (s.word a)

/-- SIGNAL_DETECT on a link in RET whose LINK_WAKE.EN bit is set (R443). -/
def State.signalDetect (s : State) (n : Nat) : State :=
  if bit (s.fget pgPwr PWR.LINK_WAKE.EN) n && s.domState (9 + n) = 1 then
    let s := s.fset pgPwr PWR.LINK_WAKE.SEEN (s.fget pgPwr PWR.LINK_WAKE.SEEN ||| 1 <<< n)
    s.wake (0x40 + n) (9 + n)
  else s

/-- WAKE_TIMER: system time reaches WAKE_AT; MEM is woken first (R443). -/
def State.wakeTimer (s : State) : State :=
  if s.fbit pgPwr PWR.WAKE_MASK.ARMED then
    let due := s.fget64 pgPwr PWR.WAKE_AT_LO.NS PWR.WAKE_AT_HI.NS
    let s := s.advanceTo (s.mono + (due - s.now))
    let s := s.fset pgPwr PWR.WAKE_MASK.ARMED 0
    let mask := s.fget pgPwr PWR.WAKE_MASK.DOMAINS * 2
    (8 :: domains.filter (· != 8)).foldl (fun s d => if bit mask d then s.wake 0x48 d else s) s
  else s

/-! ### Brown-outs (R446) -/

/-- Whether a domain's state is held only in retention. -/
def State.onlyRetained (s : State) (d : Nat) : Bool :=
  match s.trans d with
  | none => s.domState d = 1
  | some t =>
    let e := s.mono - t.start
    if t.target = 0 then t.source = 1 && (s.mono < t.start || e < railNs d + 200)
    else t.source = 1 || (t.target = 1 && quiesceNs d + 400 ≤ e)

/-- A domain marked by a brown-out: STATE reads OFF and LOST is set; an entry ends in OFF, an exit runs as from OFF. -/
def State.markLost (s : State) (d : Nat) : State :=
  let s := ((s.fset pgPwr (PWR.DOM_STAT.STATE d) 2).fset pgPwr (PWR.DOM_STAT.LOST d) 1).domainLost d
  match s.trans d with
  | none => s
  | some t => s.setTrans d (some { t with lost := true, source := if t.target = 0 then 2 else t.source,
                                          target := if t.target = 0 then 0 else 2 })

/-- BROWNOUT (R446). -/
def State.brownout (s : State) : State :=
  let s := (s.fset pgPwr PWR.LP_CTL.LP_EN 0).lpLeave
  let marked := domains.filter s.onlyRetained
  let s := marked.foldl State.markLost s
  let s := ((s.finc pgPwr PWR.BO_STAT.BO_CNT).fset pgPwr PWR.BO_MASK.DOMAINS (maskOf marked)).fset64
    pgPwr PWR.BO_TIME_LO.NS PWR.BO_TIME_HI.NS s.now
  (s.evt pgPwr 11).reportDrop pgPwr

end Sys2Proof.Machine
end

