-- ==== Sys2Proof/Machine/Boot.lean ====
section
/-! DEFINITION. Resets, the boot loader and the bench port's image load (R533 to R547), and loss of supply (R554). -/

namespace Sys2Proof.Machine

/-! ### Resets (R533 to R535) -/

/-- What no reset touches: non-volatile storage, the levels that stand at the input pins, the queue of commands and what
has left the device. Everything else is as at power-on, and the clock of the model starts again. -/
def State.cleared (s : State) : State :=
  { pending := s.pending
    free := s.free
    out := s.out
    flash := s.flash
    otp := s.otp
    cad := { seals := s.cad.seals }
    transport := { key := s.transport.key }
    lanes := (List.range 24).foldl (fun m l => SMap.write {} m l { signal := (SMap.read {} s.lanes l).signal }) []
    safe := {
      groups := (List.range 4).foldl (fun m g => SMap.write {} m g { fbOpen := (s.group g).fbOpen }) []
      inputs := (List.range 4).foldl (fun m n =>
        let x := SMap.read {} s.safe.inputs n
        SMap.write {} m n { pinA := x.pinA, pinB := x.pinB }) []
      rstHigh := s.safe.rstHigh
      xinHigh := s.safe.xinHigh } }

/-- BOOT[2:0] is sampled as nRESET rises or the power-on reset ends (R537). -/
def State.sampleStraps (s : State) (pins : Nat) : State :=
  (s.fset pgSys SYS.BOOT_STAT.STRAPS pins).fsetB pgSys SYS.BOOT_STAT.STRAP_BAD (4 ≤ pins % 8)

/-- POWER_ON_RESET: every register, memory and domain is cleared (R533). -/
def State.powerOnReset (s : State) (pins : Nat) : State := (s.cleared.showOtp.showKey).sampleStraps pins

/-- A device reset: `BO_STAT`, `BO_MASK`, `BO_TIME` and the counts in `RESET_STAT` stay (R533). -/
def State.deviceReset (s : State) (cause : Nat) (pins : Nat) : State :=
  let t := (s.cleared.showOtp.showKey).sampleStraps pins
  let t := [PWR.BO_STAT.BO_CNT.off, PWR.BO_MASK.DOMAINS.off, PWR.BO_TIME_LO.NS.off, PWR.BO_TIME_HI.NS.off].foldl
    (fun t o => (t.setWord (addrOf pgPwr o) (s.word (addrOf pgPwr o))).setSnapWord (addrOf pgPwr o)
      (s.snapWord (addrOf pgPwr o))) t
  let t := t.fset pgSys SYS.RESET_STAT.DEVICE_RESETS (s.fget pgSys SYS.RESET_STAT.DEVICE_RESETS)
  (t.fset pgSys SYS.RESET_STAT.CAUSE cause).finc pgSys SYS.RESET_STAT.DEVICE_RESETS

/-- NRESET: nRESET has been low for 1 µs and rises (R533, R537). -/
def State.nreset (s : State) (pins : Nat) : State := s.deviceReset 1 pins

/-- DEVICE_RESET by command: the straps of the last nRESET or power-on stay (R537, R547). -/
def State.commandedReset (s : State) (m : Nat) : State :=
  s.deviceReset (if m = 8 then 3 else 2) (s.fget pgSys SYS.BOOT_STAT.STRAPS)

/-- POWER_DOWN: without supply nothing is kept and nothing runs; both switches of every SAFE_OUT are open and DSYNC shows
no transition (R554). -/
def State.powerDown (s : State) : State := { s.cleared with boot := { loader := none, powered := false } }

/-- A step of a device that has its supplies; without them nothing runs (R554). -/
def State.live (s : State) (f : State → State) : State := if s.boot.powered then f s else s

/-! ### The loader (R536 to R539, R541) -/

/-- The strap mode: 0 FLASH, 1 FLASH_OTHER, 2 BENCH_LOAD, 3 BENCH_HOLD (R537). -/
def State.strapMode (s : State) : Nat := min (s.fget pgSys SYS.BOOT_STAT.STRAPS) 3

/-- ROM of BOOT_STAT. -/
def State.rom (s : State) : Nat := s.fget pgSys SYS.BOOT_STAT.ROM

/-- BOOT_STAT's fields of a target. -/
def failFld (t : Nat) : Fld := if t = 1 then SYS.BOOT_STAT.MGT_FAIL else SYS.BOOT_STAT.SAF_FAIL
def fallbackFld (t : Nat) : Fld := if t = 1 then SYS.BOOT_STAT.MGT_FALLBACK else SYS.BOOT_STAT.SAF_FALLBACK
def okFld (t : Nat) : Fld := if t = 1 then SYS.BOOT_STAT.MGT_OK else SYS.BOOT_STAT.SAF_OK

/-- The loader's progress. -/
def State.setLoader (s : State) (l : Option (Nat × Nat)) : State := { s with boot := { s.boot with loader := l } }

/-- A processor runs its image from ENTRY, or halts. -/
def State.setRunning (s : State) (t : Nat) (b : Bool) : State :=
  let s := if t = 1 then { s with boot := { s.boot with mgtRunning := b } }
    else { s with boot := { s.boot with safRunning := b } }
  (s.fsetB pgSys (okFld t) b).showVersion t

/-- A valid image is in the bank that a processor fetches. -/
def State.loaded (s : State) (t : Nat) : Bool := !(s.bankImage t (s.bankNow t)).isEmpty

/-- An image is in bank 0, from a slot or from the bench port. -/
def State.loadBank (s : State) (t : Nat) (img : List Nat) (slot : Option Nat) : State :=
  (((s.setBank t 0 img).fset pgFw (if t = 1 then FW.STAT.MGT_BANK else FW.STAT.SAF_BANK) 0).setRunSlot t slot).fset pgFw
    (trialFld t) 0

/-- The procedure of R538 for one processor, and how many slots it has tried. -/
def State.loadOne (s : State) (t : Nat) : State × Nat :=
  match s.flash.dirNow with
  | none => (s, 0)
  | some (_, d) =>
    let boot := if t = 1 then d.mgtSlot else d.safSlot
    let slot := if s.strapMode = 1 then 1 - boot else boot
    let img := s.flash.image t slot
    match imageFail s.otp t img with
    | none => (s.loadBank t img (some slot), 1)
    | some r =>
      let s := s.fset pgSys (failFld t) r
      let img := s.flash.image t (1 - slot)
      match imageFail s.otp t img with
      | none => ((s.fset pgSys (fallbackFld t) 1).loadBank t img (some (1 - slot)), 2)
      | some _ => (s, 2)

/-- Step 2: the SCAL units start their first runs, since none has completed one (R464). -/
def State.loaderStep2 (s : State) : State :=
  ((s.fset pgScal SCAL.PENDING.UNITS (2 ^ 21 - 1)).advanceTo 50000).setLoader (some (2, 50000))

/-- Step 3: the directory and the key store are read; without an image to load the loader ends and waits for the bench port
(R514, R538, R541). -/
def State.loaderStep3 (s : State) (at_ : Nat) : State :=
  let s := s.advanceTo (at_ + 5000000)
  let s := match s.flash.keysNow with
    | some (_, k) => { s with transport := { s.transport with key := k.key } }.showKey
    | none => s
  let ident := match s.flash.keysNow with
    | some (_, k) => k.ident.isSome
    | none => false
  let dir := s.flash.dirNow.isSome
  let s := (s.showDir.showOtp).fsetB pgSys SYS.BOOT_STAT.FIRST_BOOT (!dir || !ident)
  if s.strapMode = 2 || !dir then
    let s := s.fset pgSys SYS.BOOT_STAT.ROM (if s.strapMode = 2 then 2 else 3)
    { s with boot := { s.boot with loader := none, mgtOnly := false } }
  else s.setLoader (some (3, s.mono))

/-- What start-up does when the processors start: the dailies find their ring (R528), and a warm restart restores the
calibration (R541). -/
def State.started (s : State) : State :=
  let warm := !s.fbit pgSys SYS.BOOT_STAT.FIRST_BOOT
  (s.setFw (fun f => { f with restoreDue := warm })).dailyStart

/-- An MGT restart ends: MGT starts at ENTRY, or is held (R536, R547). -/
def State.mgtReloaded (s : State) : State :=
  let s := { s with boot := { s.boot with loader := none, mgtOnly := false } }
  if s.strapMode = 3 then s.fset pgSys SYS.BOOT_STAT.ROM 4
  else if s.loaded 1 then ((s.setRunning 1 true).evt pgSys 8).dailyStart
  else s

/-- Step 4, MGT's image; an MGT restart ends with it (R536). -/
def State.loaderStep4 (s : State) (at_ : Nat) : State :=
  let r := s.loadOne 1
  let t := r.1.advanceTo (at_ + r.2 * 60000000)
  if t.boot.mgtOnly then t.mgtReloaded else t.setLoader (some (4, t.mono))

/-- Step 5, SAF's image. -/
def State.loaderStep5 (s : State) (at_ : Nat) : State :=
  let r := s.loadOne 2
  let t := r.1.advanceTo (at_ + r.2 * 30000000)
  t.setLoader (some (5, t.mono))

/-- Step 6: both processors start, or are held (R538, R539). -/
def State.loaderStep6 (s : State) (at_ : Nat) : State :=
  let s := (s.advanceTo (at_ + 10000)).setLoader none
  if s.strapMode = 3 then s.fset pgSys SYS.BOOT_STAT.ROM 4
  else
    let s := s.fset pgSys SYS.BOOT_STAT.ROM 1
    let s := if s.loaded 1 then (s.setRunning 1 true).started else s
    if s.loaded 2 then (s.setRunning 2 true).evalGroups else s

/-- LOADER_STEP_DONE: the next step of R539 completes, at its limit. -/
def State.loaderStep (s : State) : State :=
  match s.boot.loader with
  | some (1, _) => s.loaderStep2
  | some (2, t) => s.loaderStep3 t
  | some (3, t) => s.loaderStep4 t
  | some (4, t) => s.loaderStep5 t
  | some (5, t) => s.loaderStep6 t
  | _ => s

/-! ### MGT restarts (R536) and halts (R366, R520) -/

/-- A rebuild or a caddy copy that MGT had started is abandoned (R536). -/
def State.abandonMgt (s : State) : State :=
  let s := match s.cad.rebuild with
    | some r =>
      if r.mgt && r.written.isNone then
        { s with cad := { s.cad with rebuild := none } }.fset pgCad CAD.STAT.REBUILD_BUSY 0
      else s
    | none => s
  match (s.hdr pgCad).run with
  | some r => if r.issuer = 9 then s.abandonCmd pgCad else s
  | none => s

/-- An MGT restart: its locks break, its domain resets, and the loader runs steps 3 and 4 for MGT alone. A request during
a device reset's loader run is discarded (R535, R536). -/
def State.mgtRestart (s : State) (cause : Nat) : State :=
  let s := s.abandonMgt
  let s := (s.breakLocksOf 9).domainLost 2
  let s := (s.fset pgSys SYS.RESET_STAT.MGT_CAUSE cause).finc pgSys SYS.RESET_STAT.MGT_RESTARTS
  { s with boot := { s.boot with loader := some (2, s.mono), mgtOnly := true } }

/-- MGT_HALT: a poisoned instruction fetch. On trial it counts as a missed step 5; else MGT halts, and with MGT_AUTO it
restarts (R366, R520, R533). -/
def State.mgtHalt (s : State) (addr : Nat) : State :=
  if !s.boot.mgtRunning then s
  else
    let s := s.report { src := 0x80, cls := 4, typ := 3, space := 3, addr := addr, master := 9 }
    if s.fbit pgFw FW.STAT.MGT_TRIAL then s.revert 1
    else
      let s := s.setRunning 1 false
      if s.fbit pgSys SYS.RESET_CTL.MGT_AUTO then s.mgtRestart 3 else s

/-! ### The bench port (R543 to R545) -/

/-- The bench port serves from loader step 2 onward (R543). -/
def State.benchServes (s : State) : Bool :=
  match s.boot.loader with
  | some (1, _) => false
  | _ => true

/-- The loader waits for images over the bench port. -/
def State.benchLoads (s : State) : Bool := s.rom = 2 || s.rom = 3

/-- Words stored for a target. -/
def State.benchWords (s : State) (t : Nat) : List Nat :=
  if t = 1 then s.boot.benchMgt else if t = 2 then s.boot.benchSaf else []

/-- Storing the words of a target; WORDS counts them for the target named. -/
def State.setBenchWords (s : State) (t : Nat) (ws : List Nat) : State :=
  let s := if t = 1 then { s with boot := { s.boot with benchMgt := ws } }
    else if t = 2 then { s with boot := { s.boot with benchSaf := ws } }
    else s
  s.fset pgSys SYS.BENCH_CTL.WORDS (s.benchWords (s.fget pgSys SYS.BENCH_CTL.TARGET)).length

/-- BENCH_DATA_WRITE: the next word of the image, as long as header and body have room (R545). -/
def State.benchData (s : State) (w : Nat) : State :=
  let t := s.fget pgSys SYS.BENCH_CTL.TARGET
  let ws := s.benchWords t
  if (t = 1 || t = 2) && ws.length < 64 + bankSize t / 4 then s.setBenchWords t (ws ++ [w]) else s

/-- BENCH_START: the image is checked and started, or in HOLD both processors are released (R545). -/
def State.benchStart (s : State) : State :=
  if s.rom = 4 then
    let s := s.fset pgSys SYS.BOOT_STAT.ROM 1
    let s := if s.loaded 1 && !s.boot.mgtRunning then (s.setRunning 1 true).started else s
    if s.loaded 2 then (s.setRunning 2 true).evalGroups else s
  else
    let t := s.fget pgSys SYS.BENCH_CTL.TARGET
    if t = 1 || t = 2 then
      let img := (s.benchWords t).flatMap (fun w => leBytes w 4)
      let s := s.setBenchWords t []
      match imageFail s.otp t img with
      | some r => s.fset pgSys (failFld t) r
      | none =>
        let s := (s.loadBank t img none).setRunning t true
        let s := if t = 1 then s.started else s.evalGroups
        if s.boot.mgtRunning && s.boot.safRunning then s.fset pgSys SYS.BOOT_STAT.ROM 1 else s
    else s

end Sys2Proof.Machine
end

