-- ==== Sys2Proof/Machine/Commit.lean ====
section
/-! DEFINITION. Commits (R35 to R43, R46, R48, R59): validation, capture, boundaries, deferral and abandonment, groups, and
what a commit does to its block. -/

namespace Sys2Proof.Machine

/-! ### Checks of SYS and of the reels (R15, R66, R391) -/

/-- The first case of R15 against a commit of FIELD_CFG: the common or block reason, the code of LAST_REFUSE and the lowest
tile. A tile would be enabled when its bit rises, or when the build it is enabled under changes. -/
def State.fieldCheck (s : State) (ps : List Nat) : Option (Nat × Nat × Nat) :=
  let aim := s.vget ps pgSys SYS.FIELD_CFG.AIM
  let en := s.vget ps pgSys SYS.FIELD_CFG.TILE_EN
  let moved := aim ≠ s.fget pgSys SYS.FIELD_CFG.AIM
  let rising := (List.range 16).filter (fun t => bit en t && (moved || !bit (s.fget pgSys SYS.FIELD_CFG.TILE_EN) t))
  match rising.find? (fun t => !s.domOn (4 + portGroup t) || !s.domOn (15 + portGroup t)) with
  | some t => some (4, 3, t)
  | none =>
    if moved && s.lightAny then some (0x10, 1, s.fget pgSys SYS.FIELD_STAT.REFUSE_TILE)
    else
      (rising.find? (fun t => s.fget (pgDud t) DUD.STAT.SINKS ≠ sinksPerRing (aim = 1))).map (fun t => (0x11, 2, t))

/-- The reasons of R391. -/
def State.reelReasons (s : State) (q : Nat) : List Nat :=
  let p := pgReel q
  let base := s.sget p REEL.CFG.BASE
  let size := s.sget p REEL.CFG.SIZE
  let other (r : Nat) : Bool := r ≠ q &&
    overlaps base size (s.fget (pgReel r) REEL.CFG.BASE) (s.fget (pgReel r) REEL.CFG.SIZE)
  reasons [
    (65536 < base + size || base % 8 ≠ 0 || size % 8 ≠ 0 || size < 64 || 16384 < size, 0x10),
    ((List.range 16).any other, 0x11),
    ((s.changes p REEL.CFG.BASE || s.changes p REEL.CFG.SIZE) && (s.reel q).used ≠ 0, 0x12),
    ((s.changes p REEL.BIND.PRODUCER && s.fbit p REEL.BIND.PROD_HW) ||
      (s.changes p REEL.BIND.CONSUMER && s.fbit p REEL.BIND.CONS_HW), 0x13)]

/-- The block reasons against a commit of a page, when the pages `ps` commit together. -/
def State.blockReasons (s : State) (ps : List Nat) (p : Nat) : List Nat :=
  match pageOf p with
  | some (.sys, _) => ((s.fieldCheck ps).map (·.1)).toList
  | some (.time, _) => s.timeReasons ps
  | some (.thm, _) => s.thmReasons ps
  | some (.scal, _) => s.scalReasons ps
  | some (.saf, _) => s.safReasons
  | some (.grd, _) => s.grdReasons
  | some (.fw, _) => s.fwReasons ps
  | some (.pair, _) => s.pairReasons ps
  | some (.mem, _) => s.memReasons ps
  | some (.cmp, _) => s.cmpReasons ps
  | some (.lyr, l) => s.lyrReasons ps l
  | some (.ovl, _) => s.ovlReasons ps
  | some (.matte, _) => s.matteReasons ps
  | some (.cad, _) => s.cadReasons ps
  | some (.gaf, _) => s.gafReasons ps
  | some (.dly, _) => s.dlyReasons ps
  | some (.diag, _) => s.diagReasons ps
  | some (.reel, q) => s.reelReasons q
  | some (.lane, l) => s.laneReasons ps l
  | some (.link, n) => s.linkReasons n
  | some (.dud, t) => s.dudReasons ps t
  | _ => []

/-- The lowest reason of a list (R36). -/
def lowest : List Nat → Option Nat
  | [] => none
  | r :: rs =>
    match lowest rs with
    | some m => some (min r m)
    | none => some r

/-- Whether `PAGE_CAP` allows a boundary (R31, R36). -/
def allowsBoundary (p b : Nat) : Bool :=
  match capOf p with
  | some c => b = 0 || (b = 1 && c.bndSlot) || (b = 2 && c.bndImm)
  | none => false

/-! ### Validation (R36) -/

/-- The checks of R36 after that of the lock. -/
def State.contentCheck (s : State) (ps : List Nat) (p b : Nat) : Option Nat :=
  if (s.hdr p).pend.isSome then some 2
  else if !allowsBoundary p b then some 3
  else if !s.domOn (domainOf p) then some 4
  else lowest (s.blockReasons ps p)

/-- The checks of R36 in their order: the reason of the first that fails. -/
def State.commitCheck (s : State) (ps : List Nat) (m p b : Nat) : Option Nat :=
  if !s.holds m p then some 1 else s.contentCheck ps p b

/-- A refused request: it is recorded and COMMIT_FAILED is raised; a page without shadows has nowhere to record it. SYS
also records the case of R15 (R36, R40, R66). -/
def State.refuseCommit (s : State) (ps : List Nat) (p reason : Nat) : State :=
  match capOf p with
  | none => s
  | some c =>
    if !c.shadow then s
    else
      let s :=
        if p = pgSys && (reason = 4 || 0x10 ≤ reason) then
          match s.fieldCheck ps with
          | some (_, code, t) => (s.fset pgSys SYS.FIELD_STAT.LAST_REFUSE code).fset pgSys SYS.FIELD_STAT.REFUSE_TILE t
          | none => s
        else s
      (s.setHdr p { s.hdr p with commitState := 3, commitReason := reason }).evt p 1

/-! ### Capture (R37, R485) -/

/-- The frame that a COMMIT message names (R480). -/
def State.commitFrame (s : State) (b : Nat) : Nat := if b = 0 then (s.frame + 1) % 65536 else s.frame

/-- The partner is told of a validated commit of a mirrored page, on SYS, TIME and LINK0 of one that changes a carried
register (R484, R485). -/
def State.tellCommit (s : State) (p b : Nat) (group : Bool) : State :=
  s.mirrorActive (.commit p (((s.hdr p).gen + 1) % 65536) b group (entriesOf p s.captured) (s.commitFrame b))

/-- Whether a captured commit is mirrored. -/
def State.mirrors (s : State) (p : Nat) : Bool :=
  s.pairActive && (wholePages.contains p || (partPages.contains p && s.changesCarried p))

/-- A validated commit captures the shadows (R37). -/
def State.captureCommit (s : State) (p b : Nat) (group : Bool) : State :=
  let s := s.capture p
  let m := s.mirrors p
  let s := if m then s.tellCommit p b group else s
  s.setHdr p { s.hdr p with
    pend := some ⟨b, 0, group, m⟩, commitState := 1, commitReason := 0, dirtyAfter := false }

/-! ### What an applied commit does to its block -/

/-- A reel whose region has changed stands empty at its new BASE (R389, R391). -/
def State.reelApplied (s old : State) (q : Nat) : State :=
  if s.word (addrOf (pgReel q) REEL.CFG.BASE.off) ≠ old.word (addrOf (pgReel q) REEL.CFG.BASE.off) then s.reelEmpty q else s

/-- The build and the record of R15 follow an applied FIELD_CFG. -/
def State.fieldApplied (s : State) : State :=
  (s.fset pgSys SYS.FIELD_STAT.AIM_NOW (s.fget pgSys SYS.FIELD_CFG.AIM)).fset pgSys SYS.FIELD_STAT.LAST_REFUSE 0

/-- An applied PAIR commit: the role, and what MGT writes to the key store (R477, R542). -/
def State.pairApplied (s old : State) : State :=
  let s := s.roleApplied old
  let ident := (s.deviceId, s.fget pgPair PAIR.CFG.ROLE, s.fget pgPair PAIR.CFG.PARTNER_ID)
  if s.boot.mgtRunning && [PAIR.CFG.ROLE.off, PAIR.IDENT.DEVICE_ID.off].any (fun o =>
      s.word (addrOf pgPair o) ≠ old.word (addrOf pgPair o)) then
    s.writeKeys (fun k => { k with ident := some ident })
  else s

/-- The message of SAF whose commit has applied is in force (R403, R409). -/
def State.messageApplied (s : State) : State :=
  match s.safe.msgNext with
  | none => s
  | some v =>
    let s := { s with safe := { s.safe with msgNext := none, msgFrom := s.frame } }
    let s := (s.fset pgSaf SAF.MSG_STAT.SYMBOL (bitsOf v 0 6)).fset pgSaf SAF.MSG_STAT.SCALE (bitsOf v 6 2)
    ((s.fset pgSaf SAF.MSG_STAT.TAKES (bitsOf v 8 4)).fset pgSaf SAF.MSG_STAT.PRESET (bitsOf v 12 4)).evt pgSaf 16

/-- What the block of a page makes of an applied commit, given the state before it. -/
def State.pageApplied (s old : State) (p : Nat) : State :=
  match pageOf p with
  | some (.sys, _) => s.fieldApplied
  | some (.time, _) => s.timeApplied old
  | some (.scal, _) => s.scalApplied old
  | some (.saf, _) => s.safApplied old
  | some (.grd, _) => s.safApplied old
  | some (.pair, _) => s.pairApplied old
  | some (.mem, _) => s.memApplied old
  | some (.lyr, l) => s.lyrApplied old l
  | some (.ovl, _) => s.messageApplied.commitInWindow
  | some (.matte, _) => (s.matteApplied old).commitInWindow
  | some (.cad, _) => s.cadApplied old
  | some (.gaf, _) => s.gafApplied old
  | some (.diag, _) => s.diagApplied old
  | some (.reel, q) => s.reelApplied old q
  | some (.link, n) => s.linkApplied old n
  | some (.dud, t) => s.dudApplied old t
  | _ => s

/-- Pages whose applied commit interrupts a still (R157). -/
def disturbs (p : Nat) : Bool :=
  match pageOf p with
  | some (.time, _) | some (.cmp, _) | some (.lyr, _) | some (.ovl, _) | some (.matte, _) | some (.cad, _) | some (.pe, _) =>
    true
  | _ => false

/-- The links of which a lane page is among some pages. -/
def linksOfLanes (ps : List Nat) : List Nat :=
  (List.range 6).filter (fun n => (lanesOf n).any (fun l => ps.contains (pgLane l)))

/-- Every block takes up what has applied. -/
def State.blocksApplied (s old : State) (ps : List Nat) : State :=
  let s := ps.foldl (fun s p => s.pageApplied old p) s
  let s := (linksOfLanes ps).foldl (fun s n => s.lanesApplied old n) s
  if ps.any disturbs then { s with time := { s.time with disturbed := true } } else s

/-! ### Applying (R37, R40, R484) -/

/-- The captured set of a page takes effect; on a device that follows its partner a local commit leaves the carried
registers alone (R37, R484). -/
def State.mergePage (s : State) (p : Nat) : State :=
  if s.pairFollows && partPages.contains p then
    let s := (carriedAddrs p).foldl (fun s a =>
      { s with pages := { s.pages with
          pnd := SMap.write (resetWord a &&& BitVec.ofNat 32 (rwsMask a)) s.pages.pnd a (s.rwsWord a) } }) s
    s.mergeCapture p
  else s.mergeCapture p

/-- The header of a page after a commit has applied. -/
def Hdr.applied (h : Hdr) : Hdr :=
  { h with
    pend := none, commitState := 2, commitReason := 0, gen := (h.gen + 1) % 65536, lost := false
    dirty := h.dirtyAfter, dirtyAfter := false }

/-- The pending sets of some pages take effect together (R37, R41). -/
def State.applyPages (s : State) (ps : List Nat) : State :=
  let old := s
  let s := ps.foldl (fun s p => let s := s.mergePage p; s.setHdr p (s.hdr p).applied) s
  let s := ps.foldl (fun s p => s.evt p 0) s
  s.blocksApplied old ps

/-- The partner is told what a boundary made of a mirrored commit (R486). -/
def State.tellOutcome (s : State) (p st : Nat) (mirrored : Bool) : State :=
  if mirrored then
    s.mirrorActive (.outcome p (if st = 2 then (s.hdr p).gen else ((s.hdr p).gen + 1) % 65536) st s.frame)
  else s

/-- A pending commit of a page is mirrored. -/
def State.isMirrored (s : State) (p : Nat) : Bool :=
  match (s.hdr p).pend with
  | some d => d.mirrored
  | none => false

/-- Applying at a boundary, with the OUTCOMEs. -/
def State.applyAtBoundary (s : State) (ps : List Nat) : State :=
  let told := ps.filter s.isMirrored
  let s := s.applyPages ps
  told.foldl (fun s p => s.tellOutcome p 2 true) s

/-! ### Readiness, deferral and abandonment (R38, R42, R185, R391) -/

/-- The readiness of a pending commit at its boundary. -/
def State.commitReady (s : State) (p : Nat) : Bool :=
  match pageOf p with
  | some (.lyr, l) => s.lyrReady l
  | some (.reel, q) =>
    (s.pget p REEL.CFG.BASE = s.fget p REEL.CFG.BASE && s.pget p REEL.CFG.SIZE = s.fget p REEL.CFG.SIZE) || (s.reel q).used = 0
  | _ => true

/-- The deferrals that a page's chapter allows, for a page that has a limit of its own. -/
def State.deferLimit (s : State) (p : Nat) : Option Nat :=
  if compositionPages.contains p then some (s.fget pgCmp CMP.DEFER_LIMIT.LIMIT)
  else
    match pageOf p with
    | some (.reel, _) => some 0
    | _ => none

/-- A pending commit is deferred to the next boundary of its kind (R38, R185). -/
def State.deferCommit (s : State) (p : Nat) : State :=
  match (s.hdr p).pend with
  | none => s
  | some d =>
    let s := s.setHdr p { s.hdr p with pend := some { d with defers := d.defers + 1 }, commitState := 4 }
    let s := if compositionPages.contains p then (s.finc pgCmp CMP.COMMIT_STAT.DEFERS).evt pgCmp 8 else s
    s.tellOutcome p 4 d.mirrored

/-- A pending commit is abandoned (R38, R185). -/
def State.abandonCommit (s : State) (p reason : Nat) : State :=
  match (s.hdr p).pend with
  | none => s
  | some d =>
    let s := (s.dropCapture p).setHdr p { s.hdr p with pend := none, commitState := 5, commitReason := reason }
    let s := s.evt p 1
    let s := if compositionPages.contains p then (s.finc pgCmp CMP.COMMIT_STAT.ABANDONS).evt pgCmp 9 else s
    s.tellOutcome p 5 d.mirrored

/-- A commit of a page alone that is not ready at its boundary. -/
def State.lateCommit (s : State) (p : Nat) : State :=
  match (s.hdr p).pend with
  | none => s
  | some d => if d.defers < (s.deferLimit p).getD 0 then s.deferCommit p else s.abandonCommit p 7

/-! ### One page (R35 to R37) -/

/-- A commit request that has passed its checks; an immediate one applies at once. -/
def State.acceptCommit (s : State) (p b : Nat) : State :=
  let s := s.captureCommit p b false
  if b = 2 then s.applyPages [p] else s

/-- PAGE_COMMIT_GO: the request is validated at once (R36, R37). -/
def State.commitGo (s : State) (m p b : Nat) : State :=
  match s.commitCheck [p] m p b with
  | some r => s.refuseCommit [p] p r
  | none => s.acceptCommit p b

/-! ### Groups (R41 to R43) -/

/-- The page numbers selected in `GROUP_MASK0` to `GROUP_MASK3`. -/
def State.groupSelected (s : State) : List Nat :=
  (List.range 4).flatMap (fun m => (bitsSet (s.fget pgSys (SYS.GROUP_MASK.PAGES m)) 32).map (fun b => 32 * m + b))

/-- `GROUP_FAIL0` to `GROUP_FAIL3`. -/
def State.setGroupFail (s : State) (ps : List Nat) : State :=
  (List.range 4).foldl (fun s m =>
    s.fset pgSys (SYS.GROUP_FAIL.PAGES m) (maskOf ((ps.filter (fun p => p / 32 = m)).map (· % 32)))) s

/-- A page's own reason against a group commit (R41). -/
def State.groupCheck (s : State) (ps : List Nat) (m p b : Nat) : Option Nat :=
  match capOf p with
  | some c => if c.group then s.commitCheck ps m p b else some 6
  | none => some 6

/-- A group has applied. -/
def State.groupApplied (s : State) : State :=
  let s := { s with pages := { s.pages with group := none } }
  (s.fset pgSys SYS.GROUP_STAT.STATE 2).fwrap pgSys SYS.GROUP_STAT.GEN

/-- COMMIT_GROUP: every selected page validates, then all capture or none does (R41, R43). -/
def State.groupGo (s : State) (m b : Nat) : State :=
  if s.pages.group.isSome then s.fset pgSys SYS.GROUP_STAT.STATE 3
  else
    let ps := s.groupSelected
    let fails := ps.filter (fun p => (s.groupCheck ps m p b).isSome)
    if fails.isEmpty then
      let s := ps.foldl (fun s p => s.captureCommit p b true) (s.setGroupFail [])
      if b = 2 then (s.applyPages ps).groupApplied
      else { s with pages := { s.pages with group := some ⟨ps, b, 0⟩ } }.fset pgSys SYS.GROUP_STAT.STATE 1
    else
      let s' := ps.foldl (fun t p => t.refuseCommit ps p ((s.groupCheck ps m p b).getD 5)) s
      ((s'.setGroupFail fails).fset pgSys SYS.GROUP_STAT.STATE 3).fset pgSys SYS.GROUP_STAT.FIRST_FAIL (fails.headD 0)

/-- A group that is not ready at its boundary (R42). -/
def State.lateGroup (s : State) (g : GroupPend) : State :=
  let limits := g.pages.filterMap s.deferLimit
  let limit := limits.foldl min (limits.headD 0)
  if g.defers < limit then
    let s := g.pages.foldl State.deferCommit s
    { s with pages := { s.pages with group := some { g with defers := g.defers + 1 } } }.fset pgSys SYS.GROUP_STAT.STATE 4
  else
    let own := g.pages.filter (fun p => (s.deferLimit p).isSome)
    let s := g.pages.foldl (fun s p => s.abandonCommit p (if own.contains p then 7 else 5)) s
    let s := { s with pages := { s.pages with group := none } }.setGroupFail own
    (s.fset pgSys SYS.GROUP_STAT.STATE 5).fset pgSys SYS.GROUP_STAT.FIRST_FAIL (own.headD 0)

/-! ### Boundaries (R35, R37, R38, R42, R152) -/

/-- A pending TIME commit waits until APPLY_AT (R152). -/
def State.commitDue (s : State) (p : Nat) : Bool :=
  p ≠ pgTime || s.pget pgTime TIME.APPLY_AT_LO.NS + 2 ^ 32 * s.pget pgTime TIME.APPLY_AT_HI.NS ≤ s.now

/-- The pages whose own pending commit meets a boundary of a kind. -/
def State.pendingAt (s : State) (kind : Nat) : List Nat :=
  allPages.filter (fun p =>
    match (s.hdr p).pend with
    | some d => d.boundary = kind && !d.inGroup && s.commitDue p
    | none => false)

/-- Every commit that waits for a boundary of a kind meets it: those that are ready take effect together (R37, R38, R42). -/
def State.boundaryCommits (s : State) (kind : Nat) : State :=
  let ps := s.pendingAt kind
  let now := ps.filter s.commitReady
  let late := ps.filter (fun p => !s.commitReady p)
  match s.pages.group with
  | some g =>
    if g.boundary = kind && g.pages.all s.commitDue then
      if g.pages.all s.commitReady then late.foldl State.lateCommit (s.applyAtBoundary (now ++ g.pages)).groupApplied
      else (late.foldl State.lateCommit (s.applyAtBoundary now)).lateGroup g
    else late.foldl State.lateCommit (s.applyAtBoundary now)
  | none => late.foldl State.lateCommit (s.applyAtBoundary now)

/-! ### SAF's message (R180, R403, R409) -/

/-- SAF commits the OVL page with what a MESSAGE commands; a refusal leaves the message in force. -/
def State.messageCommit (s : State) (v : Nat) : State :=
  let k := bitsOf v 12 4
  let put (s : State) (f : Fld) (x : Nat) : State :=
    s.setShadow (addrOf pgOvl f.off)
      (BitVec.ofNat 32 (putBits (s.shadow (addrOf pgOvl f.off)).toNat f.lo f.w x))
  let s := put (put s OVL.POS.X (s.fget pgSaf (SAF.PRESET_POS.X k))) OVL.POS.Y (s.fget pgSaf (SAF.PRESET_POS.Y k))
  let s := put (put s OVL.COLOUR_RG.R (s.fget pgSaf (SAF.PRESET_RG.R k))) OVL.COLOUR_RG.G (s.fget pgSaf (SAF.PRESET_RG.G k))
  let s := put s OVL.COLOUR_B.B (s.fget pgSaf (SAF.PRESET_B.B k))
  let s := put (put (put s OVL.CTL.SYMBOL (bitsOf v 0 6)) OVL.CTL.SCALE (bitsOf v 6 2)) OVL.CTL.TAKE_EN (bitsOf v 8 4)
  match s.contentCheck [pgOvl] pgOvl 0 with
  | none =>
    let s := s.captureCommit pgOvl 0 false
    { s with safe := { s.safe with msgNext := some v } }
  | some r =>
    let s := s.refuseCommit [pgOvl] pgOvl r
    { s with safe := { s.safe with msgRefused := true } }.sendStatus.evt pgSaf 16

/-- A MESSAGE has been accepted: it is committed, or waits for a commit of OVL that is pending. -/
def State.message (s : State) (v : Nat) : State :=
  if (s.hdr pgOvl).pend.isSome then { s with safe := { s.safe with msgWait := some v } } else s.messageCommit v

/-- A MESSAGE that waited is committed once OVL is free. -/
def State.messageWaiting (s : State) : State :=
  match s.safe.msgWait with
  | some v => if (s.hdr pgOvl).pend.isSome then s else { s with safe := { s.safe with msgWait := none } }.messageCommit v
  | none => s

/-! ### Leases (R46, R432) -/

/-- LEASE_EXPIRY: a lease runs out, up to 2 µs late; on a page in RET the lock breaks at its return (R46, R432). -/
def State.leaseExpiry (s : State) (p : Nat) : State :=
  let h := s.hdr p
  if h.owner.isSome then
    let s := s.advanceTo h.leaseEnd
    if s.domOn (domainOf p) then s.breakLock p else s
  else s

/-- DISCARD_SHADOW (R33, R48). -/
def State.discardShadow (s : State) (p : Nat) : State :=
  let s := s.reloadShadows p
  s.setHdr p { s.hdr p with lost := false }

/-! ### Snapshots (R57 to R59) -/

/-- A snapshot completes: the copies are taken, BUSY clears and SEQ advances. -/
def State.snapshot (s : State) (p : Nat) : State :=
  let s := match pageOf p with
    | some (.lane, l) => s.prbsCatch l
    | _ => s
  let s := s.copyCounters p
  s.setHdr p { s.hdr p with snapBusy := false, snapSeq := ((s.hdr p).snapSeq + 1) % 65536 }

/-- SNAPSHOT_DONE (R57). -/
def State.snapshotDone (s : State) (p : Nat) : State := if (s.hdr p).snapBusy then s.snapshot p else s

/-- GROUP_SNAPSHOT: every selected page at one instant; pages that are not ON are skipped and recorded (R59). -/
def State.groupSnapshot (s : State) : State :=
  let ps := s.groupSelected
  let skip := ps.filter (fun p => (capOf p).isNone || !s.domOn (domainOf p))
  (ps.filter (fun p => (capOf p).isSome && s.domOn (domainOf p))).foldl State.snapshot (s.setGroupFail skip)

end Sys2Proof.Machine
end

