-- ==== Sys2Proof/Machine/Pair.lean ====
section
/-! DEFINITION. PAIR: messages from the partner, takeover, switchover and resynchronisation (R481, R484 to R488, R490 to
R503, R507). -/

namespace Sys2Proof.Machine

/-! ### What holds at every moment -/

/-- The consequences of a changed link or synchronisation: a lost LINK4 ends SYNCING, READY is judged again, and queued
messages leave (R477, R481, R491). -/
def State.settle (s : State) : State := (s.link4Lost.readyCheck).flushMirror

/-- A MIRROR message arrives over an UP_TRUSTED LINK4: a gap in MGEN clears READY (R480, R481). -/
def State.mirrorRx (s : State) (mgen : Nat) (f : State → State) : State :=
  if s.link4Trusted then
    let gap := mgen ≠ (s.fget pgPair PAIR.MGEN_RX.MGEN + 1) % 2 ^ 32
    let s := s.fset pgPair PAIR.MGEN_RX.MGEN mgen
    f (if gap then s.clearReady 2 else s)
  else s

/-! ### Mirrored commits (R484 to R486) -/

/-- A mirrored commit that waits. -/
def State.mirrorPend (s : State) (p : Nat) : Option MirrorPend := SMap.read none s.pair.commits p
def State.setMirrorPend (s : State) (p : Nat) (c : Option MirrorPend) : State :=
  s.setPair (fun x => { x with commits := SMap.write none x.commits p c })

/-- The shadows of a page as the message has them: the entries, and every other register as in force. -/
def State.withEntries (s : State) (p : Nat) (c : MirrorPend) : State :=
  let s := s.reloadShadows p
  let s := (c.entries.filter (fun e => carries p e.1)).foldl (fun s e =>
    let a := addrOf p e.1
    if rwsMask a = 0 then s else s.setShadow a (BitVec.ofNat 32 (e.2 &&& rwsMask a))) s
  s.setHdr p { s.hdr p with pend := none }

/-- The pages that wait in the same mirrored group. -/
def State.mirrorGroup (s : State) : List (Nat × MirrorPend) :=
  s.pair.commits.filterMap (fun e => match e.2 with
    | some c => if c.group then some (e.1, c) else none
    | none => none)

/-- The checks of R36 with PAIR as requester. The immediate commits of a resynchronisation apply whatever boundaries the page
allows (R485, R502). -/
def State.mirrorCheck (s : State) (p : Nat) (c : MirrorPend) : Option Nat :=
  let g := if c.group then s.mirrorGroup else []
  let all := (p, c) :: g.filter (fun e => e.1 ≠ p)
  let t := all.foldl (fun t e => t.withEntries e.1 e.2) s
  t.contentCheck (all.map (·.1)) p (if s.pairState = 2 && c.boundary = 2 then 0 else c.boundary)

/-- The carried registers of a page take the values of a message. -/
def State.putEntries (s : State) (p : Nat) (c : MirrorPend) : State :=
  (c.entries.filter (fun e => carries p e.1)).foldl (fun s e =>
    let a := addrOf p e.1
    let m := BitVec.ofNat 32 (rwsMask a)
    let v := BitVec.ofNat 32 e.2 &&& m
    if rwsMask a = 0 then s
    else (s.setWord a ((s.word a &&& BitVec.ofNat 32 (0xFFFFFFFF - rwsMask a)) ||| v)).setShadow a v) s

/-- The header after a mirrored commit has applied; a local pending commit of the page stays. The commits of a
resynchronisation bring the partner's GEN (R484, R486). -/
def Hdr.mirrorApplied (h : Hdr) (whole syncing : Bool) (gen : Nat) : Hdr :=
  { h with
    commitState := 2, commitReason := 0, lost := false
    gen := if whole && syncing then gen else (h.gen + 1) % 65536
    dirty := h.dirty && !whole }

/-- Every carried register reads in force as the message has it (R484). -/
def State.carriedAgree (s : State) (p : Nat) (c : MirrorPend) : Bool :=
  (c.entries.filter (fun e => carries p e.1)).all (fun e =>
    let a := addrOf p e.1
    (s.rwsWord a).toNat = e.2 &&& rwsMask a)

/-- A mirrored commit applies; a GEN that differs, or a register that does, clears READY (R484, R486). -/
def State.mirrorApply (s : State) (p : Nat) (c : MirrorPend) : State :=
  let old := s
  let whole := wholePages.contains p
  let s := s.putEntries p c
  let s := (s.setHdr p ((s.hdr p).mirrorApplied whole (s.pairState = 2) c.gen)).evt p 0
  let s := s.blocksApplied old [p]
  let ok := if whole then (s.hdr p).gen = c.gen else s.carriedAgree p c
  if ok then s else s.clearReady 3

/-- MIRROR_COMMIT_RX: a commit of the ACTIVE device is validated, and an immediate one applies at once. The pages of a
group are judged together, when the OUTCOME comes (R485). -/
def State.mirrorCommitRx (s : State) (p : Nat) (c : MirrorPend) : State :=
  if !s.pairFollows || !mirroredPage p then s
  else
    let refuse (r : Nat) : State := (s.refuseCommit [p] p r).clearReady 3
    if (s.mirrorPend p).isSome then refuse 2
    else if c.group && c.boundary ≠ 2 then
      (s.setMirrorPend p (some c)).setHdr p { s.hdr p with commitState := 1, commitReason := 0 }
    else
      match s.mirrorCheck p c with
      | some r => refuse r
      | none =>
        if c.boundary = 2 then s.mirrorApply p c
        else (s.setMirrorPend p (some c)).setHdr p { s.hdr p with commitState := 1, commitReason := 0 }

/-- A mirrored commit is abandoned (R486). -/
def State.mirrorAbandon (s : State) (p : Nat) : State :=
  let s := (s.setMirrorPend p none).setHdr p { s.hdr p with commitState := 5, commitReason := 7 }
  let s := s.evt p 1
  if compositionPages.contains p then (s.finc pgCmp CMP.COMMIT_STAT.ABANDONS).evt pgCmp 9 else s

/-- A mirrored commit is deferred to the next boundary of its kind (R486). -/
def State.mirrorDefer (s : State) (p : Nat) (c : MirrorPend) : State :=
  let s := (s.setMirrorPend p (some { c with since := none })).setHdr p { s.hdr p with commitState := 4 }
  if compositionPages.contains p then (s.finc pgCmp CMP.COMMIT_STAT.DEFERS).evt pgCmp 8 else s

/-- MIRROR_OUTCOME_RX: the partner does what the ACTIVE device has done; an OUTCOME without its commit is a divergence
(R486). -/
def State.outcomeRx (s : State) (p st : Nat) : State :=
  if !s.pairFollows then s
  else
    match s.mirrorPend p with
    | none => s.clearReady 3
    | some c =>
      if st = 2 then
        match (if c.group then s.mirrorCheck p c else none) with
        | none => (s.setMirrorPend p none).mirrorApply p c
        | some _ => (s.mirrorAbandon p).clearReady 3
      else if st = 4 then s.mirrorDefer p c
      else s.mirrorAbandon p

/-- A boundary of a kind comes to the mirrored commits that wait for it; one of TIME not before its APPLY_AT (R152, R486). -/
def State.mirrorBoundary (s : State) (kind : Nat) : State :=
  let due (p : Nat) (c : MirrorPend) : Bool :=
    let v (f : Fld) : Nat := ((c.entries.find? (fun e => e.1 = f.off)).map (·.2)).getD 0
    p ≠ pgTime || v TIME.APPLY_AT_LO.NS + 2 ^ 32 * v TIME.APPLY_AT_HI.NS ≤ s.now
  s.setPair (fun x => { x with commits := x.commits.map (fun e => match e.2 with
    | some c => if c.boundary = kind && c.since.isNone && due e.1 c then (e.1, some { c with since := some s.mono }) else e
    | none => e) })

/-- OUTCOME_WAIT_EXPIRY: 8 µs after the boundary without an OUTCOME the commit is abandoned (R486). -/
def State.outcomeExpiry (s : State) (p : Nat) : State :=
  match s.mirrorPend p with
  | some c =>
    match c.since with
    | some b => ((s.advanceTo (b + 8000)).mirrorAbandon p).clearReady 3
    | none => s
  | none => s

/-! ### Blocks, buffers and lists (R487, R488) -/

/-- MIRROR_BLOCK_RX: a block of the mirrored ranges, written through requester 10 (R487). -/
def State.mirrorBlockRx (s : State) (b tag : Nat) (poison : Bool) (data : Nat) : State :=
  if s.pairFollows && b < dramBlocks then s.admitWrite 0xC b data tag poison else s

/-- A message for a boundary that has passed (R488). -/
def State.framePassed (s : State) (frame : Nat) : Bool :=
  let d := (frame + 65536 - s.frame) % 65536
  d = 0 || 32768 ≤ d

/-- MIRROR_REBUILD_RX (R488). -/
def State.mirrorRebuildRx (s : State) (buf gen : Nat) (ceilings : List Nat) (frame : Nat) : State :=
  if !s.pairFollows then s
  else if s.framePassed frame then s.clearReady 3
  else s.setPair (fun x => { x with rebuild := some (frame, buf, gen, ceilings) })

/-- A REBUILD that waits for the boundary of frame `n` comes into force: the buffer, its generation and the ceilings
(R488). -/
def State.mirrorRebuildBoundary (s : State) (n : Nat) : State :=
  match s.pair.rebuild with
  | some (f, buf, gen, cs) =>
    if f ≠ n then s
    else
      let s := s.setPair (fun x => { x with rebuild := none })
      let s := (cs.zipIdx).foldl (fun s e => if e.2 < 16 then s.setCeiling e.2 e.1 else s) s
      (s.fset pgCad CAD.STAT.EFF_GEN ((gen + 65535) % 65536)).effSwitch buf
  | none => s

/-- MIRROR_LIST_RX: a change to the fault list at its boundary (R488). -/
def State.mirrorListRx (s : State) (e : Nat) (short remove : Bool) (frame : Nat) : State :=
  if !s.pairFollows then s
  else if s.framePassed frame then s.clearReady 3
  else
    let c : ListChange := ⟨e, if remove then 0 else if short then 2 else 1, s.mono, some frame⟩
    { s with diag := { s.diag with posted := s.diag.posted ++ [c] } }

/-! ### SPLIT and DIAGRESP (R500, R501) -/

/-- MIRROR_SPLIT_RX: a ready SHADOW device claims a range, or gives it up at the next boundary (R500). -/
def State.splitRx (s : State) (t lo hi : Nat) (join : Bool) : State :=
  if !s.pairShadow then s
  else if join then s.setDud t { s.dud t with joinDue := true }
  else if s.pairReady then s.claimStart t lo hi false
  else s

/-- MIRROR_DIAGRESP_RX: the ACTIVE device takes the response as its own (R501). -/
def State.diagRespRx (s : State) (t a frame : Nat) (words : List Nat) : State :=
  if s.pairActive then s.diagTake t a frame words else s

/-! ### Takeover (R494 to R499) -/

/-- A takeover cause at a device that could take over: an inhibited one is discarded, a second one joins (R494, R495,
R498). -/
def State.takeCause (s : State) (cause : Nat) : State :=
  if !s.pairShadow || !s.pairReady then s
  else if s.inhibited then s.evt pgPair 14
  else if s.pair.take.isSome then s
  else s.setPair (fun x => { x with take := some ⟨cause, s.mono⟩ })

/-- MIRROR_YIELD_RX: CAUSE 1 is FATAL, 2 SWITCHOVER (R480, R494). -/
def State.yieldRx (s : State) (cause : Nat) : State := s.takeCause (if cause = 2 then 3 else 1)

/-- MIRROR_TAKEN_RX (R499). -/
def State.takenRx (s : State) : State := s.demote

/-- Every TAIL port of an enabled paired ring has received nothing for SILENCE_US (R494). -/
def State.ringsSilent (s : State) : Bool :=
  s.pairedRings.all (fun t => s.fget (pgDud t) DUD.CTL.ROLE ≠ 2 ||
    (s.dud t).lastRx + 1000 * s.fget pgPair PAIR.TIMING.SILENCE_US ≤ s.mono)

/-- HEARTBEAT_MISS: 20 µs after a slot boundary without a HEARTBEAT (R492, R494). -/
def State.heartbeatMiss (s : State) : State :=
  match s.pair.hbDue with
  | none => s
  | some t =>
    let s := s.advanceTo (t + 20000)
    let s := s.setPair (fun x => { x with hbDue := none, missRun := x.missRun + 1 })
    let s := (s.finc pgPair PAIR.CNT2.HB_MISS).evt pgPair 10
    if s.fget pgPair PAIR.TIMING.MISS_SLOTS ≤ s.pair.missRun && s.pairShadow && s.pairReady then
      if s.ringsSilent then s.takeCause 2 else s.clearReady 1
    else s

/-- A group of the device has left PERMIT, so that a takeover under way is abandoned (R497). -/
def State.tripped (s : State) : Bool := (List.range 4).any (fun g => s.groupEn g && (s.group g).state ≠ .permit)

/-- The mirrored commits that wait become the new ACTIVE device's own; where a local commit of the page waits too, the
mirrored one stays beside it and applies at its boundary (R484, R496). -/
def State.adoptCommits (s : State) : State :=
  let own := s.pair.commits.filterMap (fun e => e.2.map (fun c => (e.1, c)))
  let mine := own.filter (fun e => (s.hdr e.1).pend.isNone)
  let s := mine.foldl (fun s e =>
    let s := (s.withEntries e.1 e.2).capture e.1
    (s.setHdr e.1 { s.hdr e.1 with pend := some ⟨e.2.boundary, 0, e.2.group, false⟩ }).setMirrorPend e.1 none) s
  match mine.filter (·.2.group) with
  | [] => s
  | e :: es =>
    if s.pages.group.isSome then s
    else { s with pages := { s.pages with group := some ⟨(e :: es).map (·.1), e.2.boundary, 0⟩ } }

/-- What stays in `PairSt.commits` on an ACTIVE device applies at its boundary (R484, R496). -/
def State.adoptedBoundary (s : State) (kind : Nat) : State :=
  if s.pairActive then
    (s.pair.commits.filterMap (fun e => e.2.map (fun c => (e.1, c)))).foldl (fun s e =>
      if e.2.boundary = kind then (s.setMirrorPend e.1 none).mirrorApply e.1 e.2 else s) s
  else s

/-- TAKEOVER at S, the first slot boundary at least 2 µs after its cause: the device drives the rings, claims them at a new
epoch and tells its partner (R496, R497). -/
def State.takeover (s : State) (slot : Nat) : State :=
  match s.pair.take with
  | none => s
  | some k =>
    if s.mono < k.found + 2000 then s
    else
      let s := s.setPair (fun x => { x with take := none })
      if !s.pairShadow || s.tripped then s
      else
        let e := 1 + max ((s.pair.partner.map (·.epoch)).getD 0) s.epochHeld
        let s := s.pairUnlock.adoptCommits
        let s := s.setPair (fun x => { x with missRun := 0, goodRun := none, endRun := 0, yielded := false, switchAt := none })
        let s := s.fset pgPair PAIR.STAT.READY 0
        let s := s.pairedRings.foldl (fun s t =>
          if s.fget (pgDud t) DUD.CTL.ROLE = 2 then
            (s.fset (pgDud t) DUD.OWN.EPOCH e).startPhase t
              { kind := .claim 0 127 false, phase := 1, targets := some (s.allSinks t), passed := 1 }
          else s.fset (pgDud t) DUD.OWN.EPOCH e) s
        let s := s.pairedRings.foldl (fun s t =>
          if s.fget (pgDud t) DUD.CTL.ROLE = 2 then s
          else s.startPhase t { kind := .claim 0 127 false, phase := 1, targets := some (s.allSinks t), passed := 1 }) s
        let s := (s.setPairState 4).mirror (.taken (e % 65536))
        let s := ((s.fset pgPair PAIR.LAST_TAKE.CAUSE k.cause).fset pgPair PAIR.LAST_TAKE.SLOT slot).fset pgPair
          PAIR.LAST_TAKE.FRAME s.frame
        (s.finc pgPair PAIR.CNT.TAKEOVERS).evt pgPair 9

/-! ### SWITCHOVER (R507) -/

/-- Why SWITCHOVER is refused. -/
def State.switchoverRefused (s : State) : Option Nat :=
  if !s.pairActive then some 0x20
  else if !(s.link4Trusted && (s.pair.partner.map (fun h => h.state = 3 && h.ready)).getD false) then some 0x21
  else if s.inhibited then some 0x22
  else none

/-- The ACTIVE device gives the rings up and waits: it holds no sink, drives nothing and follows (R477, R507). -/
def State.enterShadow (s : State) : State :=
  let s := (List.range 16).foldl State.disown s
  let s := { s with gaf := { s.gaf with queues := [], retries := [] } }
  ((s.fset pgPair PAIR.RESYNC_STAT.BUSY 0).setPairState 3).pairLock

/-- A slot boundary comes to a SWITCHOVER: at the first at least 20 µs after it, YIELD leaves; at the next, the device
enters SHADOW (R494, R507). -/
def State.switchoverSlot (s : State) : State :=
  match s.pair.switchAt with
  | none => s
  | some t =>
    if !s.pairActive then (s.setPair (fun x => { x with switchAt := none, yielded := false })).cmdDone pgPair
    else if s.pair.yielded then
      (s.enterShadow.setPair (fun x => { x with switchAt := none, yielded := false })).cmdDone pgPair
    else if t + 20000 ≤ s.mono then (s.setPair (fun x => { x with yielded := true })).mirror (.yield_ 2 0)
    else s

/-- A slot boundary of the pair: a heartbeat missed before is counted, a takeover or a switchover that is due happens, and the
HEARTBEAT of the boundary leaves (R492, R496, R507). -/
def State.pairSlot (s : State) (slot : Nat) : State :=
  let s := match s.pair.hbDue with
    | some t => if t + 20000 ≤ s.mono then s.heartbeatMiss else s
    | none => s
  let s := (s.takeover slot).switchoverSlot.heartbeat slot
  let seen := (s.pair.partner.map (fun h => h.slot = slot && h.frame = s.frame)).getD false
  if s.pairState = 0 || seen then s else s.setPair (fun x => { x with hbDue := some s.mono })

/-! ### Resynchronisation (R502, R503) -/

/-- The mirrored pages in the order of R482. -/
def mirrorOrder : List Nat := partPages ++ wholePages

/-- A resynchronisation starts: everything that is mirrored is sent, and from now on every change (R502). -/
def State.resyncStart (s : State) : State :=
  let s := ((s.fset pgPair PAIR.RESYNC_STAT.BUSY 1).fset pgPair PAIR.RESYNC_STAT.BLOCKS 0).mirror (.resync false)
  let s := mirrorOrder.foldl (fun s p =>
    s.mirror (.commit p (s.hdr p).gen 2 false (entriesOf p s.rwsWord) s.frame)) s
  let next := (s.frame + 1) % 65536
  let s := if s.fbit (pgPe 0) PE.STAT.EFF_VALID then
      s.mirror (.rebuild (s.fget (pgPe 0) PE.STAT.EFF_BUF) (s.fget pgCad CAD.STAT.EFF_GEN) ((List.range 16).map s.ceiling)
        next)
    else s
  let s := s.diag.inForce.foldl (fun s e => s.mirror (.list_ e.1 (e.2 = 2) false next)) s
  s.setPair (fun x => { x with endRun := 0 })

/-- The mirrored ranges, as first block and size (R487). -/
def State.mirrorRanges (s : State) : List (Nat × Nat) :=
  [(s.fget pgCad CAD.REGION.BASE, offResidual), (s.fget pgMatte MATTE.BASE.BASE, 262144),
    (s.fget pgDiag DIAG.MAP_BASE.BASE, 786432)] ++
  ((List.range 4).filter (fun r => s.fbit pgPair (PAIR.MRANGE.EN r))).map (fun r =>
    (s.fget pgPair (PAIR.MRANGE.BASE r), s.fget pgPair (PAIR.MSIZE.BLOCKS r)))

/-- RESYNC_COPY_DONE: every block of the mirrored ranges has been sent, and RESYNC with END = 1 follows (R502). -/
def State.resyncCopyDone (s : State) : State :=
  if !s.fbit pgPair PAIR.RESYNC_STAT.BUSY || !s.pairActive then s
  else
    let n := s.mirrorRanges.foldl (fun n r => n + r.2) 0
    let s := s.mirrorRanges.foldl (fun s r => (List.range r.2).foldl (fun s i =>
      let v := s.block (r.1 + i)
      s.mirror (.block (r.1 + i) v.tag v.poisoned v.data)) s) s
    let s := ((s.fset pgPair PAIR.RESYNC_STAT.BLOCKS (min n (2 ^ 24 - 1))).fset pgPair PAIR.RESYNC_STAT.BUSY 0).mirror
      (.resync true)
    (s.finc pgPair PAIR.CNT.RESYNCS).evt pgPair 12

/-- MIRROR_RESYNC_RX: the device follows its partner from the first RESYNC; after END = 1 its heartbeats are judged
(R483, R503). -/
def State.resyncRx (s : State) (end_ : Bool) : State :=
  if s.pairState = 0 || s.pairState = 4 then s
  else if end_ then
    if s.pairState = 2 && !s.pair.diverged then s.setPair (fun x => { x with goodRun := some 0 }) else s
  else
    let fresh := s.pairState ≠ 2
    let s := s.setPair (fun x => { x with
      diverged := false, goodRun := none, asking := 0, take := none, switchAt := none, yielded := false })
    let s := ((s.fset pgPair PAIR.STAT.READY 0).setPairState 2).pairLock
    if fresh then (s.pairedRings.filter (fun t => s.fget (pgDud t) DUD.CTL.ROLE = 2)).foldl (fun s t => s.queryStart t false) s
    else s

/-- Two heartbeats in a row that meet R491 end SYNCING (R503). -/
def State.resyncProgress (s : State) (ok : Bool) : State :=
  match s.pair.goodRun with
  | none => s
  | some n =>
    if s.pairState ≠ 2 then s
    else if !ok then s.setPair (fun x => { x with goodRun := some 0 })
    else if n = 0 then s.setPair (fun x => { x with goodRun := some 1 })
    else
      let s := s.setPair (fun x => { x with goodRun := none, missRun := 0 })
      ((s.setPairState 3).fset pgPair PAIR.STAT.READY 1).fset pgPair PAIR.STAT.NR_REASON 0

/-- Whether the ACTIVE device starts a resynchronisation by what a HEARTBEAT shows: by AUTO_RESYNC, or anew because the
partner does not come out of SYNCING (R502, R503). -/
def State.resyncByHeartbeat (s : State) (h : PartnerSt) : State :=
  if !s.pairActive || s.fbit pgPair PAIR.RESYNC_STAT.BUSY then s
  else if h.state = 2 then
    if 2 ≤ s.pair.endRun then s.resyncStart else s.setPair (fun x => { x with endRun := x.endRun + 1 })
  else if s.fbit pgPair PAIR.CFG.AUTO_RESYNC && (h.state = 1 || h.state = 5 || (h.state = 3 && !h.ready)) then s.resyncStart
  else s

/-- MIRROR_HEARTBEAT_RX (R478, R491, R495, R503). -/
def State.heartbeatRx (s : State) (h : PartnerSt) : State :=
  if s.pairState = 0 then s
  else
    let s := s.setPair (fun x => { x with partner := some h, hbDue := none, missRun := 0 })
    let s := (s.fset pgPair PAIR.STAT.PARTNER_STATE h.state).showOffset
    let inStep := h.frame = s.frame
    let s := if s.pairShadow && !inStep then s.clearReady 5 else s
    let s := (s.readyCheck.resyncProgress (inStep && s.offsetOk)).resyncByHeartbeat h
    let s := if s.pairState = 1 && s.fget pgPair PAIR.CFG.ROLE = 1 && h.primary && h.state = 1 then s.evt pgPair 15 else s
    s.resolveLinking

/-! ### What a TAIL port sees (R490) -/

/-- A failed check of a packet or a frame. -/
def State.verifyErr (s : State) : State := (s.finc pgPair PAIR.CNT2.VERIFY_ERR).evt pgPair 13

/-- TAIL_PACKET_RX: a packet from the ACTIVE device passes a TAIL port (R490, R494). -/
def State.tailPacket (s : State) (t targets : Nat) (k : Packet) : State :=
  if s.fget (pgDud t) DUD.CTL.ROLE ≠ 2 then s
  else
    let s := s.setDud t { s.dud t with lastRx := s.mono }
    if !s.pairShadow then s
    else if !k.crcOk then s.verifyErr
    else
      let s := match s.pair.partner with
        | some h => if k.owner = s.fget pgPair PAIR.CFG.PARTNER_ID && k.epoch = h.epoch then s else s.verifyErr
        | none => s
      if k.type = 0x01 then
        let w := k.words.headD 0
        let g := 1 <<< (4 * bitsOf w 16 2 + bitsOf w 18 2)
        (sinksOf targets).foldl (fun s a =>
          s.setPair (fun x => { x with
            tailSeen := SMap.write 0 x.tailSeen (128 * t + a) (SMap.read 0 x.tailSeen (128 * t + a) ||| g) })) s
      else s

/-- At a boundary every sink of a paired ring must have received four groups of every take; while a frame was delivered
(R490). -/
def State.tailBoundary (s : State) : State :=
  let all := 2 ^ (4 * s.takes) - 1
  let s' := if s.pairShadow then
      s.pairedRings.foldl (fun s t =>
        if s.fget (pgDud t) DUD.CTL.ROLE = 2 && (SMap.range s.pair.tailSeen (128 * t) (128 * (t + 1))) ≠ [] then
          (sinksOf (without (s.allSinks t) (s.dud t).owned)).foldl (fun s a =>
            if SMap.read 0 s.pair.tailSeen (128 * t + a) &&& all = all then s else s.verifyErr) s
        else s) s
    else s
  s'.setPair (fun x => { x with tailSeen := [] })

end Sys2Proof.Machine
end

