-- ==== Sys2Proof/Machine/Cmd.lean ====
section
/-! DEFINITION. Page commands (R48 to R50): which opcodes a page has, when each is refused, and what each starts. The
chapter of a page decides its opcodes from 0x10 on. -/

namespace Sys2Proof.Machine

/-- How many block opcodes a kind of page has, from 0x10 upward. -/
def PageType.opcodes : PageType → Nat
  | .sys => 2 /- R547 -/
  | .time => 3 /- R160 -/
  | .scal => 1 /- R474 -/
  | .saf => 4 /- R427 -/
  | .fw => 8 /- R530 -/
  | .pair => 2 /- R507 -/
  | .mem => 3 /- R357 -/
  | .cmp => 1 /- R200 -/
  | .ovl => 2 /- R204 -/
  | .matte => 1 /- R256 -/
  | .cad => 8 /- R235 -/
  | .gaf => 1 /- R299 -/
  | .diag => 4 /- R323 -/
  | .dly => 2 /- R532 -/
  | .chk => 2 /- R389 -/
  | .reel => 1 /- R392 -/
  | .link => 3 /- R133 -/
  | .lane => 5 /- R99 -/
  | .dud => 5 /- R296 -/
  | .flt | .pwr | .thm | .grd | .arb | .lyr | .pe => 0

/-- Masters that may change what keeps the device safe: BENCH, MGT and SAF. -/
def privileged (m : Nat) : Bool := m = 8 || m = 9 || m = 0xA

/-! ### Masters that a chapter denies a command (R49) -/

/-- The command completes with ACCESS. -/
def State.cmdDenied (s : State) (m p opcode arg : Nat) : Bool :=
  match pageOf p with
  | some (.sys, _) => (opcode = 0x10 && !(m = 8 || m = 9)) || (opcode = 0x11 && !(m = 8 || m = 0xA))
  | some (.fw, _) => if opcode = 0x13 && arg % 4 = 2 then m != 0xA else !(m = 8 || m = 9)
  | some (.ovl, _) => (opcode = 0x10 || opcode = 0x11) && m != 0xA
  | some (.link, n) =>
    (opcode = 0x12 && !(m = 8 || m = 9)) ||
    (opcode = 0x11 && n = 0 && s.transport.key.isNone && !s.mayLoadKey m)
  | some (.dud, t) =>
    (opcode = 0x11 || opcode = 0x13 || opcode = 0x14) && !s.pairActive && s.pairedRings.contains t && m != 0xC
  | _ => false

/-! ### Refusals in a state (R49) -/

/-- The first reason of a list whose condition holds. -/
def firstReason (l : List (Bool × Nat)) : Option Nat := (reasons l).head?

/-- Some tile of a mask is live. -/
def State.someLive (s : State) (tiles : Nat) : Bool := s.fget pgSys SYS.FIELD_STAT.TILE_LIVE &&& (tiles % 65536) != 0

/-- The device is the time root (R137). -/
def State.isRoot (s : State) : Bool := s.syncState = 4

/-- LANE (R99). -/
def State.laneRefused (s : State) (l opcode : Nat) : Option Nat :=
  let test := s.laneState l = 7
  if opcode = 0x10 then firstReason [(s.laneState l = 0 || test, 0x20)]
  else if opcode = 0x11 then firstReason [(test || !s.fbit (pgLane l) LANE.LANE_CFG.ENABLE, 0x21)]
  else if opcode = 0x12 then firstReason [(!test || !s.fbit (pgLane l) LANE.PRBS_CTL.GEN_EN, 0x22)]
  else if opcode = 0x13 then firstReason [(!test, 0x23)]
  else none

/-- LINK (R133). -/
def State.linkRefused (s : State) (m n opcode : Nat) : Option Nat :=
  if opcode = 0x10 then firstReason [(2 ≤ n, 0x22), (!s.usable (1 - s.activeUp), 0x20)]
  else if opcode = 0x11 then firstReason [(n ≠ 0, 0x22), (s.transport.key.isSome && !s.mayLoadKey m, 0x21)]
  else firstReason [(n ≠ 0, 0x22)]

/-- TIME (R160). -/
def State.timeRefused (s : State) (opcode : Nat) : Option Nat :=
  if opcode = 0x10 then firstReason [(!s.isRoot, 0x20), (s.anyTileLive, 0x21)]
  else if opcode = 0x11 then firstReason [(!s.fbit pgTime TIME.STILL_STAT.STILL, 0x22)]
  else firstReason [(!s.isRoot, 0x20)]

/-- CAD (R235). -/
def State.cadRefused (s : State) (opcode arg : Nat) : Option Nat :=
  let busy := s.fbit pgCad CAD.STAT.COPY_BUSY
  let sealed_ := s.fbit pgCad CAD.STAT.FACTORY_SEALED
  if opcode = 0x10 || opcode = 0x11 then firstReason [(sealed_, 0x20), (busy, 0x21)]
  else if opcode = 0x12 then firstReason [(sealed_, 0x20)]
  else if opcode = 0x13 || opcode = 0x14 then firstReason [(busy, 0x21)]
  else if opcode = 0x15 then firstReason [(busy, 0x21), (s.cad.factoryBad, 0x22)]
  else if opcode = 0x16 then firstReason [(!s.fbit (pgPe 0) PE.STAT.EFF_VALID && !s.rebuildReady, 0x24)]
  else firstReason [(s.someLive arg, 0x23)]

/-- DUD (R296). -/
def State.dudRefused (s : State) (t opcode : Nat) : Option Nat :=
  if opcode = 0x10 then firstReason [(s.tileLive t, 0x20), (s.fget (pgDud t) DUD.CTL.ROLE = 2, 0x21)]
  else if opcode = 0x11 || opcode = 0x13 then firstReason [(!s.enumerated t, 0x22)]
  else if opcode = 0x14 then firstReason [((s.dud t).lost = 0, 0x23)]
  else none

/-- DIAG (R323). -/
def State.diagRefused (s : State) (opcode arg : Nat) : Option Nat :=
  let busy := s.fbit pgDiag DIAG.STAT.CMD_RUN
  if opcode = 0x10 then firstReason [(s.someLive arg, 0x20), (busy, 0x21)]
  else if opcode = 0x11 then firstReason [(s.fbit pgDiag DIAG.CTL.EN, 0x22), (busy, 0x21)]
  else if opcode = 0x12 then firstReason [(busy, 0x21)]
  else firstReason [(16 * 3072 * sinksPerRing s.dual ≤ arg % 2 ^ 23, 0x23)]

/-- MEM (R357). -/
def State.memRefused (s : State) (opcode arg : Nat) : Option Nat :=
  let same := arg % 2 = s.fget pgMem MEM.STAT.SET
  if opcode = 0x10 then firstReason [(!s.trained (arg % 2), 0x20), (same, 0x21)]
  else if opcode = 0x11 then firstReason [(s.anyTileLive, 0x22), (same, 0x23)]
  else firstReason [(!s.fbit pgMem MEM.CTL.SCRUB_EN, 0x24)]

/-- FW (R530). -/
def State.fwRefused (s : State) (opcode arg : Nat) : Option Nat :=
  let t := arg % 4
  if opcode = 0x10 then s.updateRefused
  else if opcode = 0x11 then firstReason [(s.fw.session.isNone, 0x21)]
  else if opcode = 0x12 then firstReason [(s.fget pgFw FW.STAT.STATE ≠ 2, 0x22)]
  else if opcode = 0x13 then s.handoverRefused t (SMap.read 0 s.boot.stateVer t)
  else if opcode = 0x14 then firstReason [(!s.onTrial, 0x26)]
  else if opcode = 0x15 then firstReason [((t = 1 || t = 2) && s.fbit pgFw (trialFld t), 0x26)]
  else if opcode = 0x16 then firstReason [(s.keyInUse t, 0x27)]
  else firstReason [(s.ckptBusy, 0x28)]

/-- A commit that waits changes the base or the tag of the mattes (R256). -/
def State.mattePending (s : State) : Bool :=
  (s.hdr pgMatte).pend.isSome &&
    (s.pget pgMatte MATTE.BASE.BASE ≠ s.fget pgMatte MATTE.BASE.BASE ||
     s.pget pgMatte MATTE.TAG.TAG ≠ s.fget pgMatte MATTE.TAG.TAG)

/-- Why a legal command is refused in the present state of its page. -/
def State.cmdRefused (s : State) (m p opcode arg : Nat) : Option Nat :=
  if opcode < 0x10 then none
  else match pageOf p with
  | some (.sys, _) =>
    if opcode = 0x10 then firstReason [(m = 9 && s.lightAny, 0x20)]
    else firstReason [(s.rom = 0 || s.boot.mgtOnly, 0x21)]
  | some (.time, _) => s.timeRefused opcode
  | some (.scal, _) => firstReason [(!s.fbit pgScal SCAL.CTL.EN, 0x20)]
  | some (.saf, _) =>
    if opcode = 0x10 then s.clearRefused (arg % 16)
    else if opcode = 0x11 then firstReason [(s.handoverBlocked, 0x22)]
    else if opcode = 0x12 then firstReason [(s.safe.handover.isNone, 0x23), (!s.safe.aliveInWindow, 0x24)]
    else none
  | some (.fw, _) => s.fwRefused opcode arg
  | some (.pair, _) =>
    if opcode = 0x10 then s.switchoverRefused
    else firstReason [(!s.pairActive, 0x20), (!s.link4Trusted, 0x23)]
  | some (.mem, _) => s.memRefused opcode arg
  | some (.cmp, _) => firstReason [(!s.monCapture, 0x20), (s.fbit pgCmp CMP.CAP_STAT.BUSY, 0x21)]
  | some (.ovl, _) =>
    if opcode = 0x10 then firstReason [(s.fbit pgOvl OVL.LIB_STAT.SEALED, 0x23)]
    else firstReason [(s.fget pgOvl OVL.CTL.TAKE_EN ≠ 0, 0x22)]
  | some (.matte, _) => firstReason [(s.mattePending, 0x20)]
  | some (.cad, _) => s.cadRefused opcode arg
  | some (.diag, _) => s.diagRefused opcode arg
  | some (.dly, _) => if opcode = 0x11 then firstReason [(!s.fbit pgDly DLY.CTL.EN, 0x20)] else none
  | some (.link, n) => s.linkRefused m n opcode
  | some (.lane, l) => s.laneRefused l opcode
  | some (.dud, t) => s.dudRefused t opcode
  | _ => none

/-! ### What a command does when it starts -/

/-- LANE (R95, R99, R567). -/
def State.laneCmd (s : State) (l opcode arg : Nat) : State :=
  let p := pgLane l
  let n := l / 4
  if opcode = 0x10 then (s.commandedRestart n 12).cmdDone p
  else if opcode = 0x11 then (s.testEnter l).cmdDone p
  else if opcode = 0x12 then s.setLane l { s.lane l with inject := some (max 1 (arg % 256)) }
  else if opcode = 0x13 then (s.testExit l).cmdDone p
  else (s.resetCeiling n).cmdDone p

/-- LINK (R126, R129, R133): a changed key is kept in the key store. -/
def State.linkCmd (s : State) (n opcode : Nat) : State :=
  let p := pgLink n
  if opcode = 0x10 then ({ s with transport := { s.transport with commandPending := true } }).cmdDone p
  else
    let s := if opcode = 0x11 then s.keyLoad else s.keyClear
    let key := s.transport.key
    (s.writeKeys (fun k => { k with key := key })).cmdDone p

/-- A trigger of R219 by a command: an MGT restart abandons the rebuild of one that MGT gave (R536). -/
def State.cadTrigger (s : State) (m : Nat) (f : State → State) : State :=
  let s := f s
  if m = 9 then { s with cad := { s.cad with dueMgt := s.cad.due.isSome } } else s

/-- CAD (R226 to R228, R235, R236). -/
def State.cadCmd (s : State) (m opcode arg : Nat) : State :=
  let copy (k : CopyKind) : State :=
    { s with cad := { s.cad with copy := some k } }.fset pgCad CAD.STAT.COPY_BUSY 1
  if opcode = 0x12 then s.sealAndPack.cmdDone pgCad
  else if opcode = 0x13 then copy (.writeUser (arg % 65536))
  else if opcode = 0x14 then s.cadTrigger m State.applyUser
  else if opcode = 0x15 then copy .restore
  else if opcode = 0x16 then (s.cadTrigger m (fun s => s.periodicTrigger false)).cmdDone pgCad
  else if opcode = 0x17 then (s.cadTrigger m (fun s => s.doseReset (arg % 65536))).cmdDone pgCad
  else s

/-- DUD (R296). -/
def State.dudCmd (s : State) (t opcode arg : Nat) : State :=
  if opcode = 0x10 then s.enumerateStart t
  else if opcode = 0x11 then s.claimStart t (arg % 256) (arg / 256 % 256) true
  else if opcode = 0x12 then s.queryStart t true
  else if opcode = 0x13 then s.sendConfigStart t (arg % 16)
  else s.readmitStart t true

/-- DIAG (R323). -/
def State.diagCmd (s : State) (opcode arg : Nat) : State :=
  if opcode = 0x10 then
    { s with diag := { s.diag with initTiles := arg % 65536 } }.fset pgDiag DIAG.STAT.CMD_RUN 1
  else if opcode = 0x11 then s.fset pgDiag DIAG.STAT.CMD_RUN 1
  else if opcode = 0x12 then (s.relearn (arg % 65536)).cmdDone pgDiag
  else (s.clearVerdict (arg % 2 ^ 23)).cmdDone pgDiag

/-- MEM (R339 to R341). -/
def State.memCmd (s : State) (opcode arg : Nat) : State :=
  if opcode = 0x10 then { s with mem := { s.mem with windowWait := 0 } }
  else if opcode = 0x11 then { s with mem := { s.mem with training := some (arg % 2) } }.fset pgMem MEM.STAT.STATE 1
  else (s.fset pgMem MEM.SCRUB_STAT.POS 0).cmdDone pgMem

/-- FW (R519 to R530); a target of ARG that names no processor leaves everything as it is. -/
def State.fwCmd (s : State) (m opcode arg : Nat) : State :=
  let t := arg % 4
  let named := t = 1 || t = 2
  if opcode = 0x10 then (if named then s.updateStart t m else s).cmdDone pgFw
  else if opcode = 0x11 then s.updateAbort.cmdDone pgFw
  else if opcode = 0x12 then s
  else if opcode = 0x13 then (s.fwHandover t (SMap.read 0 s.boot.stateVer t)).cmdDone pgFw
  else if opcode = 0x14 then s.confirm
  else if opcode = 0x15 then (if named then s.svnAdvance t else s).cmdDone pgFw
  else if opcode = 0x16 then (s.revokeKey t).cmdDone pgFw
  else s.ckptNow

/-- SAF (R422, R423, R427); HANDOVER_END is step 5 of R520 for SAF. -/
def State.safCmd (s : State) (opcode arg : Nat) : State :=
  (if opcode = 0x10 then s.clearLockout (arg % 16)
   else if opcode = 0x11 then s.handoverBegin
   else if opcode = 0x12 then (s.closeWindow.evalGroups).handoverHolds 2
   else (s.trip 18 (arg % 16)).evalGroups).cmdDone pgSaf

/-- An accepted command runs: at once, or it stays running until what it started has ended. -/
def State.cmdRun (s : State) (m p opcode arg : Nat) : State :=
  if opcode = 0x00 then s.cmdDone p
  else if opcode = 0x01 then (s.discardShadow p).cmdDone p
  else if opcode = 0x02 then (s.clearCounters p).cmdDone p
  else match pageOf p with
  | some (.sys, _) => if opcode = 0x10 then (s.cmdDone p).commandedReset m else (s.cmdDone p).mgtRestart (if m = 8 then 2 else 1)
  | some (.time, _) =>
    (if opcode = 0x10 then s.setTime
     else if opcode = 0x11 then { s with time := { s.time with stillExit := true } }
     else s.clapRestart (arg % 4)).cmdDone p
  | some (.scal, _) => s.scalRun arg
  | some (.saf, _) => s.safCmd opcode arg
  | some (.fw, _) => s.fwCmd m opcode arg
  | some (.pair, _) =>
    if opcode = 0x10 then s.setPair (fun x => { x with switchAt := some s.mono, yielded := false })
    else s.resyncStart.cmdDone p
  | some (.mem, _) => s.memCmd opcode arg
  | some (.cmp, _) => { s with cmp := { s.cmp with armed := true } }.cmdDone p
  | some (.ovl, _) => if opcode = 0x10 then s else (s.fset pgOvl OVL.LIB_STAT.SEALED 0).cmdDone p
  | some (.matte, _) => s.fset pgMatte MATTE.STAT.VERIFY_BUSY 1
  | some (.cad, _) => s.cadCmd m opcode arg
  | some (.gaf, _) => s.readStatus
  | some (.diag, _) => s.diagCmd opcode arg
  | some (.dly, _) => if opcode = 0x10 then s.dailyRead else (s.dailyForm 1 (arg % 65536)).cmdDone p
  | some (.chk, c) => (if opcode = 0x10 then s.chkSeal c else s.chkRestart c).cmdDone p
  | some (.reel, q) => (s.reelEmpty q).cmdDone p
  | some (.link, n) => s.linkCmd n opcode
  | some (.lane, l) => s.laneCmd l opcode arg
  | some (.dud, t) => s.dudCmd t opcode arg
  | _ => s.cmdDone p

/-- A page has an opcode (R48). -/
def cmdKnown (p opcode : Nat) : Bool :=
  opcode ≤ 2 ||
  (match pageOf p with
    | some (ty, _) => 0x10 ≤ opcode && opcode < 0x10 + ty.opcodes
    | none => false)

/-- A write to PAGE_CMD that its page takes: refused with BUSY, ILLEGAL or a state, or accepted (R49, R50). -/
def State.cmdWrite (s : State) (m p opcode arg : Nat) : State :=
  if (s.hdr p).run.isSome then
    ((s.setHdr p { s.hdr p with cmdState := 5, cmdOpcode := opcode, cmdIssuer := m }).usage p).evt p 4
  else if !cmdKnown p opcode then (s.usage p).cmdEnd p opcode m 4 0
  else
    match s.cmdRefused m p opcode arg with
    | some r => (s.usage p).cmdEnd p opcode m 3 r
    | none => (s.cmdStart p opcode arg m).cmdRun m p opcode arg

/-- MIRROR_COMMAND_RX: PAIR issues the command; a VERIFY that it cannot start is one that fails (R488). -/
def State.mirrorCommandRx (s : State) (p opcode arg : Nat) : State :=
  if s.pairFollows && p = pgMatte && opcode = 0x10 then
    let s := s.cmdWrite 0xC p opcode arg
    match (s.hdr p).run with
    | some r => if r.issuer = 0xC then s.setPair (fun x => { x with verifying := true }) else s.clearReady 3
    | none => s.clearReady 3
  else s

/-- VERIFY_DONE, and what a failure means to PAIR (R256, R488). -/
def State.verifyEnd (s : State) : State :=
  let was := s.running pgMatte 0x10
  let t := s.verifyDone
  if was && t.pair.verifying then
    let t := t.setPair (fun x => { x with verifying := false })
    if (t.hdr pgMatte).cmdState = 2 then t else t.clearReady 3
  else t

end Sys2Proof.Machine
end

