-- ==== Sys2Proof/Machine/Bus.lean ====
section
/-! DEFINITION. Register accesses: what a read returns, what a write does, and the status each completes with (R26 to R35,
R45 to R49, R51 to R58, R563, and the access rules of the chapters). -/

namespace Sys2Proof.Machine

/-! ### Reading -/

/-- A word with one field replaced. -/
def withField (v : Nat) (f : Fld) (x : Nat) : Nat := putBits v f.lo f.w x

/-- A reel's registers that show its state (R380, R382, R384, R390). -/
def State.reelShow (s : State) (q off : Nat) (w : Nat) : Nat :=
  let r := s.reel q
  if off = REEL.FILL.USED.off then r.used + r.packets.length * 2 ^ 16
  else if off = REEL.WR_STAT.SPACE.off then s.reelSpace q + r.openLen * 2 ^ 16
  else if off = REEL.RD_HEAD.LEN.off then r.packets.headD 0 + b2n (s.headPoison q) * 2 ^ 16
  else if off = REEL.RD_STAT.POS.off then r.pos + b2n r.mark.isSome * 2 ^ 11 + b2n r.poisonRead * 2 ^ 12
  else w

/-- The heartbeat register of a port: what blanks it now (R276, R294, R417). -/
def State.hbShow (s : State) (t w : Nat) : Nat :=
  let oe := s.domOn (15 + portGroup t) && (s.fget (pgDud t) DUD.CTL.ROLE = 0 || s.pairActive)
  withField (withField (withField w DUD.HB.STATIC (b2n (s.blanked t))) DUD.HB.GRD (b2n (!s.lightTile t))) DUD.HB.OE (b2n oe)

/-- The word that stands at an address, with the fields that show a state of the block as it is now. -/
def State.shownWord (s : State) (a : Nat) : Nat :=
  let w := (s.word a).toNat
  let off := a % 0x1000
  match pageOf (a / 0x1000) with
  | some (.sys, _) => if 0x0A8 ≤ off && off ≤ 0x0B4 then s.irqSum ((off - 0x0A8) / 4) else w
  | some (.pwr, _) =>
    match (List.range 19).find? (fun d => (PWR.DOM_STAT.STEP d).off = off) with
    | some d => withField w (PWR.DOM_STAT.STEP d) (s.domStep d)
    | none => w
  | some (.saf, _) | some (.grd, _) => (s.safeWord a).getD w
  | some (.pair, _) => if off = PAIR.STAT.INHIBIT.off then withField w PAIR.STAT.INHIBIT (b2n s.inhibited) else w
  | some (.reel, q) => s.reelShow q off w
  | some (.dud, t) => if off = DUD.HB.OE.off then s.hbShow t w else w
  | some (.diag, _) => if off = DIAG.LIST_ENTRY.VALID.off then s.listEntry else w
  | _ => w

/-- The bits that a register of a page has on this page: on LINK pages those that serve the link (R131). -/
def servedBits (a : Nat) : Nat :=
  match pageOf (a / 0x1000) with
  | some (.link, n) => linkServed n (a % 0x1000)
  | _ => 0xFFFFFFFF

/-- What a read of a block register returns: RWS fields by VIEW, snapshot counters from their copy, WO and reserved bits 0
(R29, R32, R34, R57). -/
def State.blockWord (s : State) (a : Nat) (r : Reg) : Nat :=
  let live := s.shownWord a &&& ((r.rw ||| r.w1c ||| r.ro ||| r.rc) &&& (0xFFFFFFFF ^^^ r.snap))
  let copy := (s.snapWord a).toNat &&& r.snap
  let shadowed := (if (s.hdr (a / 0x1000)).view then s.word a else s.shadow a).toNat &&& r.rws
  (live ||| copy ||| shadowed) &&& servedBits a

/-- `PAGE_ID` (R30). -/
def pageId (p : Nat) : Nat :=
  match pageOf p with
  | some (_, i) => Config.pageRev.toNat + 0x100 + i * 2 ^ 16 + ((p - i) % 256) * 2 ^ 24
  | none => 0

/-- `PAGE_CAP` (R31). -/
def Cap.word (c : Cap) : Nat :=
  b2n c.shadow + 2 * b2n c.lockable + 4 * b2n c.cmd + 8 * b2n c.bndImm + 16 * b2n c.bndSlot + 32 * b2n c.group +
    64 * b2n c.snap + c.evtImpl * 2 ^ 16

/-- A commit of a page has validated and waits for its boundary (R33, R484). -/
def State.commitWaits (s : State) (p : Nat) : Bool := (s.hdr p).pend.isSome || (s.mirrorPend p).isSome

/-- The header registers (R30 to R35, R44, R50 to R58). -/
def State.headerWord (s : State) (p off : Nat) (c : Cap) : Nat :=
  let h := s.hdr p
  match off with
  | 0x000 => pageId p
  | 0x004 => c.word
  | 0x008 => b2n h.view
  | 0x00C =>
    b2n h.owner.isSome + 2 * b2n (s.commitWaits p) + 4 * b2n h.run.isSome + 8 * b2n h.dirty + 16 * b2n h.lost
  | 0x010 => h.evt.toNat
  | 0x014 => h.evtEn.toNat
  | 0x01C => h.missCount + h.missBit * 2 ^ 16
  | 0x024 => h.cmdState + h.cmdOpcode * 2 ^ 8 + h.cmdReason * 2 ^ 16 + h.cmdIssuer * 2 ^ 24
  | 0x028 =>
    match h.owner with
    | some m => m + 64 + (h.leaseEnd - s.mono) / 1000 * 2 ^ 8
    | none => 0
  | 0x02C => 2 * h.boundary
  | 0x030 => h.commitState + h.commitReason * 2 ^ 4 + h.gen * 2 ^ 16
  | 0x034 => h.usageCopy + h.faultCopy * 2 ^ 16
  | 0x038 => 2 * b2n h.snapBusy + h.snapSeq * 2 ^ 16
  | _ => 0

/-- A header register that the page has (R26, R563). -/
def headerExists (off : Nat) (c : Cap) : Bool :=
  match off with
  | 0x020 | 0x024 => c.cmd
  | 0x028 => c.lockable
  | 0x02C | 0x030 => c.shadow
  | _ => off < 0x03C

/-- A read of a header register; reading PAGE_EVT_MISS clears it (R55). -/
def State.readHeader (s : State) (p off : Nat) (c : Cap) : Nat × State :=
  (s.headerWord p off c,
    if off = 0x01C then s.setHdr p { s.hdr p with missCount := 0, missBit := 0 } else s)

/-- A read of a block register, with what the read itself does (R34, R153, R178, R382). -/
def State.readBlock (s : State) (a : Nat) (r : Reg) : Nat × State :=
  match pageOf (a / 0x1000) with
  | some (.time, _) =>
    if a % 0x1000 = TIME.NOW_LO.NS.off then ((s.readNow).1.toNat, (s.readNow).2)
    else (s.blockWord a r, s.setWord a (s.word a &&& BitVec.ofNat 32 (0xFFFFFFFF ^^^ r.rc)))
  | some (.ovl, _) =>
    if a % 0x1000 = OVL.LIB_DATA.DATA.off then ((s.libRead).1.toNat, (s.libRead).2)
    else (s.blockWord a r, s.setWord a (s.word a &&& BitVec.ofNat 32 (0xFFFFFFFF ^^^ r.rc)))
  | some (.reel, q) =>
    if a % 0x1000 = REEL.RD_DATA.WORD.off then ((s.reelRead q).1.toNat, (s.reelRead q).2)
    else (s.blockWord a r, s.setWord a (s.word a &&& BitVec.ofNat 32 (0xFFFFFFFF ^^^ r.rc)))
  | _ => (s.blockWord a r, s.setWord a (s.word a &&& BitVec.ofNat 32 (0xFFFFFFFF ^^^ r.rc)))

/-! ### Registers that a chapter denies a master (status ACCESS, R28) -/

/-- An access of a reel's data and control registers is the named end's alone (R379). -/
def State.reelDenied (s : State) (m q off : Nat) : Bool :=
  let p := pgReel q
  if off = REEL.WR_DATA.WORD.off || off = REEL.WR_CTL.END.off then
    s.fbit p REEL.BIND.PROD_HW || s.fget p REEL.BIND.PRODUCER ≠ m
  else if off = REEL.RD_DATA.WORD.off || off = REEL.RD_CTL.MARK.off then
    s.fbit p REEL.BIND.CONS_HW || s.fget p REEL.BIND.CONSUMER ≠ m
  else false

/-- SYS (R545, R546). -/
def State.sysDenied (s : State) (m : Nat) (write : Bool) (off v : Nat) : Bool :=
  let loads := s.benchLoads || s.rom = 4
  if off = SYS.RESET_CTL.MGT_AUTO.off then write && !privileged m
  else if off = SYS.BENCH_CTL.START.off then m ≠ 8 || (write && bit v 2 && !loads)
  else if off = SYS.BENCH_DATA.WORD.off then m ≠ 8 || (write && !loads)
  else false

/-- A write that breaks a lock comes from MGT or BENCH, and never on SAF and GRD (R46, R425). -/
def lockDenied (m p v : Nat) : Bool :=
  ((p = pgSaf || p = pgGrd || p = pgOvl) && m ≠ 0xA) || (bit v 7 && (p = pgSaf || p = pgGrd || !(m = 8 || m = 9)))

/-- The chapter of a page denies a master an access (R178, R249, R294, R377, R379, R386, R425, R434, R484, R529, R546). -/
def State.denied (s : State) (m p : Nat) (write : Bool) (off v : Nat) : Bool :=
  (write && off = 0x028 && lockDenied m p v) ||
  (write && s.pairFollows && partPages.contains p && m ≠ 0xC && carries p off) ||
  (match pageOf p with
    | some (.sys, _) => s.sysDenied m write off v
    | some (.flt, _) => write && 0x0C0 ≤ off && off ≤ 0x0CC && !privileged m
    | some (.pwr, _) => write && off = PWR.REQ.DOMAIN.off && v % 32 = 1 && !(m = 8 || m = 0xA)
    | some (.saf, _) => write && (0x040 ≤ off || off = 0x020) && m ≠ 0xA
    | some (.grd, _) => write && 0x040 ≤ off && m ≠ 0xA
    | some (.fw, _) => write && !privileged m
    | some (.ovl, _) =>
      if off = OVL.LIB_DATA.DATA.off then m ≠ 0xA || (write && s.fbit pgOvl OVL.LIB_STAT.SEALED)
      else write && (off = OVL.LIB_ADDR.WORD.off || off = OVL.LIB_SEAL.CRC.off) && m ≠ 0xA
    | some (.matte, _) => write && (off = MATTE.ZONE_SEAL.CRC.off || (0x080 ≤ off && off < 0x100)) && m ≠ 0xA
    | some (.chk, _) =>
      write && (s.hdr p).owner.isSome && !s.holds m p &&
        [CHK.SEED.SEED.off, CHK.DATA_B.BYTE.off, CHK.DATA_H.HALF.off, CHK.DATA_W.WORD.off, CHK.ALIVE.COUNT.off,
          CHK.EXPECT.CRC.off].contains off
    | some (.reel, q) => s.reelDenied m q off
    | some (.dud, _) => write && off = DUD.HB.FORCE.off && !privileged m
    | _ => false)

/-! ### Writing the header -/

/-- PAGE_LOCK_WRITE (R45, R46). -/
def State.lockWrite (s : State) (m p v : Nat) : State :=
  let lease := v / 2 ^ 8 % 2 ^ 24
  let h := s.hdr p
  if bit v 7 then s.breakLock p
  else if h.owner = none then
    if lease = 0 then s else s.setHdr p { h with owner := some m, leaseEnd := s.mono + lease * 1000 }
  else if h.owner = some m then
    if lease = 0 then s.setHdr p { h with owner := none, leaseEnd := 0 }
    else s.setHdr p { h with leaseEnd := s.mono + lease * 1000 }
  else s

/-- PAGE_COMMIT_GO: with GO = 0 the write has no effect (R35, R36). -/
def State.commitWrite (s : State) (m p v : Nat) : State :=
  if bit v 0 then
    (if s.holds m p then s.setHdr p { s.hdr p with boundary := bitsOf v 1 2 } else s).commitGo m p (bitsOf v 1 2)
  else s

/-- PAGE_EVT_CLEAR, PAGE_EVT_FORCE and the enables (R51 to R54, R63). -/
def State.evtClear (s : State) (p v : Nat) : State :=
  s.setEvtRegs p { s.hdr p with evt := (s.hdr p).evt &&& ~~~ BitVec.ofNat 32 v }
def State.evtForce (s : State) (p v : Nat) : State := s.evts p (bitsSet (v &&& (evtImpl p).toNat) 32)
def State.evtEnable (s : State) (p v : Nat) : State :=
  s.setEvtRegs p { s.hdr p with evtEn := BitVec.ofNat 32 v &&& evtImpl p }

/-- A write to PAGE_SNAP: TAKE starts a snapshot (R58). -/
def State.snapTake (s : State) (p v : Nat) : State :=
  if bit v 0 then s.setHdr p { s.hdr p with snapBusy := true } else s

/-- The read-only bits of a header register that has writable ones. -/
def headerRo (off : Nat) : Nat := if off = 0x028 then 0x7F else if off = 0x038 then 0xFFFF0002 else 0

/-- A header register without a writable field. -/
def headerFixed (off : Nat) : Bool :=
  [0x000, 0x004, 0x00C, 0x01C, 0x024, 0x030, 0x034].contains off

/-- A write to a header register: its status and its effect. -/
def State.writeHeader (s : State) (m p off v : Nat) : Nat × State :=
  let ro := if v &&& headerRo off = 0 then 0 else 3
  let other : Bool := (s.hdr p).owner.isSome && !s.holds m p
  if headerFixed off then (3, s)
  else match off with
  | 0x008 => (0, s.setHdr p { s.hdr p with view := bit v 0 })
  | 0x010 => (0, s.evtClear p v)
  | 0x014 => (0, s.evtEnable p v)
  | 0x018 => (0, s.evtForce p v)
  | 0x020 =>
    if other then (4, s)
    else if s.cmdDenied m p (v % 256) (v / 256 % 2 ^ 24) then (5, s)
    else (0, s.cmdWrite m p (v % 256) (v / 256 % 2 ^ 24))
  | 0x028 => if other && !bit v 7 then (4, s) else (ro, s.lockWrite m p v)
  | 0x02C => (if s.holds m p then 0 else 4, s.commitWrite m p v)
  | 0x038 => (ro, s.snapTake p v)
  | _ => (0, s)

/-! ### Writing a block register -/

/-- The writable bits take their values: RW and kept WO bits at once, W1C bits clear, RWS bits in the shadow (R34). -/
def State.storeBlock (s : State) (a v : Nat) (r : Reg) : State :=
  let p := a / 0x1000
  let v := v &&& servedBits a
  let keep := if (List.range 4).any (fun i => a = addrOf (pgLink 0) (LINK.AUTH_KEY.KEY i).off) then r.wo else 0
  let direct := (r.rw ||| keep) &&& servedBits a
  let clear := v &&& r.w1c
  let w := (s.word a).toNat
  let w' := ((w &&& (0xFFFFFFFF ^^^ direct)) ||| (v &&& direct)) &&& (0xFFFFFFFF ^^^ clear)
  let s := s.setWord a (BitVec.ofNat 32 w')
  if r.rws = 0 then s
  else
    let s := s.setShadow a (BitVec.ofNat 32 (v &&& r.rws))
    s.setHdr p { s.hdr p with dirty := true, dirtyAfter := (s.hdr p).pend.isSome || (s.hdr p).dirtyAfter }

/-- A write to COMMIT_GROUP with GO = 1 (R41, R43, R59). -/
def State.groupWrite (s : State) (m v : Nat) : State :=
  if bit v 0 then (if bit v 3 then s.groupSnapshot else s.groupGo m (bitsOf v 1 2)) else s

/-- A write to BENCH_CTL: WORDS follows the target named; START checks and starts (R545, R546). -/
def State.benchCtl (s : State) (v : Nat) : State :=
  let t := s.fget pgSys SYS.BENCH_CTL.TARGET
  let s := s.fset pgSys SYS.BENCH_CTL.WORDS (s.benchWords t).length
  if bit v 2 then s.benchStart else s

/-- A write to BENCH_DATA: in HOLD there is no image to store (R545). -/
def State.benchWord (s : State) (v : Nat) : State := if s.benchLoads then s.benchData v else s

/-- The operations that a write to RD_CTL names, done one after the other (R382). -/
def State.reelReadOp (s : State) (q b : Nat) : State :=
  if b = 0 then s.reelMark q else if b = 1 then s.reelRewindRead q else (s.reelRelease q).reelUnstall q

/-- A write to RD_CTL; the order of several operations in one write is left open. -/
def State.reelRdCtl (s : State) (q v : Nat) : State :=
  let ops := bitsSet v 3
  if ops.length ≤ 1 then ops.foldl (fun s b => s.reelReadOp q b) s
  else
    let r := s.fresh 3
    let k := r.1.toNat
    let order := if bit k 0 then ops.reverse else ops
    let order := if bit k 1 then order.drop 1 ++ order.take 1 else order
    let order := if bit k 2 then order.drop 1 ++ order.take 1 else order
    order.foldl (fun s b => s.reelReadOp q b) r.2

/-- A write to WR_CTL; the order of END and ABORT in one write is left open (R380). -/
def State.reelWrCtl (s : State) (q v : Nat) : State :=
  match bit v 0, bit v 1 with
  | true, false => s.reelEnd q
  | false, true => s.reelAbort q
  | true, true =>
    let r := s.fresh 1
    if r.1 = 0 then (r.2.reelEnd q).reelAbort q else (r.2.reelAbort q).reelEnd q
  | false, false => s

/-- What a write of a block register does in its block, after its fields have taken their values. -/
def State.blockHook (s : State) (m p off v : Nat) : State :=
  match pageOf p with
  | some (.sys, _) =>
    if off = SYS.COMMIT_GROUP.GO.off then s.groupWrite m v
    else if off = SYS.BENCH_CTL.START.off then s.benchCtl v
    else if off = SYS.BENCH_DATA.WORD.off then s.benchWord v
    else s
  | some (.flt, _) => if off = FLT.CAPT_ACK.SEQ.off then s.captAck (v % 2 ^ 16) else s
  | some (.pwr, _) => if off = PWR.REQ.DOMAIN.off then s.domainReq m (bitsOf v 0 5) (bitsOf v 5 2) else s
  | some (.thm, _) => if off = THM.DEMAND.MR4.off then s.demand THM.DEMAND_CNT.REG (bitsOf v 0 12) (bit v 12) else s
  | some (.grd, _) => if off = GRD.ALIVE.COUNT.off then s.aliveWrite (v % 256) else s
  | some (.fw, _) => if off = FW.ALIVE.COUNT.off then s.fwAlive m (v % 256) else s
  | some (.chk, c) =>
    if off = CHK.DATA_B.BYTE.off then s.chkFeed c (leBytes v 1)
    else if off = CHK.DATA_H.HALF.off then s.chkFeed c (leBytes v 2)
    else if off = CHK.DATA_W.WORD.off then s.chkFeed c (leBytes v 4)
    else s
  | some (.reel, q) =>
    if off = REEL.WR_DATA.WORD.off then s.reelWord q (BitVec.ofNat 32 v)
    else if off = REEL.WR_CTL.END.off then s.reelWrCtl q v
    else if off = REEL.RD_CTL.MARK.off then s.reelRdCtl q v
    else s
  | some (.ovl, _) => if off = OVL.LIB_DATA.DATA.off then s.libWrite (BitVec.ofNat 32 v) else s
  | some (.matte, _) => if 0x080 ≤ off && off < 0x100 then s.sealWrite ((off - 0x080) / 4) v else s
  | _ => s

/-- The registers whose operation itself stores what is written. -/
def hookStores (p off : Nat) : Bool :=
  (p = pgGrd && off = GRD.ALIVE.COUNT.off) || (p = pgFw && off = FW.ALIVE.COUNT.off) ||
  (p = pgOvl && off = OVL.LIB_DATA.DATA.off) || (p = pgMatte && 0x080 ≤ off && off < 0x100)

/-- A write to a block register: its status and its effect (R28, R34). -/
def State.writeBlockReg (s : State) (m a v : Nat) (r : Reg) : Nat × State :=
  let p := a / 0x1000
  let off := a % 0x1000
  if r.rws ≠ 0 && !s.holds m p then (4, s)
  else if r.rw ||| r.rws ||| r.wo ||| r.w1c = 0 then (3, s)
  else
    let t := if hookStores p off then s else s.storeBlock a v r
    (if v &&& (r.ro ||| r.rc) = 0 then 0 else 3, t.blockHook m p off v)

/-! ### One access -/

/-- The status of an access that is refused before it reaches a register, in the order of the checks (R26 to R28, R431,
R543). -/
def State.accessCheck (s : State) (a : Access) : Option Nat :=
  let rel := a.addr - 0x02000000
  let p := rel / 0x1000
  let off := rel % 0x1000
  let inSpace : Bool := 0x02000000 ≤ a.addr && a.addr ≤ 0x0207FFFF
  if a.addr % 4 ≠ 0 then some 2
  else
    match (if inSpace then capOf p else none) with
    | none => some 1
    | some c =>
      if (off < 0x040 && !headerExists off c) || (0x040 ≤ off && (regOf rel).isNone) then some 1
      else if a.master = 8 && s.otp.benchOff && (a.write || p ≠ pgSys) then some 5
      else if !s.domOn (domainOf p) then some 6
      else if s.denied a.master p a.write off a.data.toNat then some 5
      else none

/-- An access waits: the page's domain is in a transition, or a reel's open packet finds no space (R381, R431). -/
def State.accessHeld (s : State) (a : Access) : Bool :=
  let rel := a.addr - 0x02000000
  let p := rel / 0x1000
  match s.accessCheck a with
  | some 6 => s.fbit pgPwr (PWR.DOM_STAT.BUSY (domainOf p))
  | some _ => false
  | none =>
    match pageOf p with
    | some (.reel, q) => a.write && rel % 0x1000 = REEL.WR_DATA.WORD.off && s.reelFull q
    | _ => false

/-- The count of an access that completes with a status other than OK (R28). -/
def State.countStatus (s : State) (a : Access) (st : Nat) : State :=
  let p := (a.addr - 0x02000000) / 0x1000
  let inSpace : Bool := 0x02000000 ≤ a.addr && a.addr ≤ 0x0207FFFF
  if st = 0 then s
  else if st = 1 then s.usage pgSys
  else if !inSpace || (capOf p).isNone then s
  else if st = 6 && s.fget pgPwr (PWR.DOM_STAT.STATE (domainOf p)) = 2 then s
  else s.usage p

/-- An access to a header register of a page that is there. -/
def State.headerAccess (s : State) (a : Access) (p off : Nat) : Option Cap → Nat × Nat × State
  | none => (1, 0, s)
  | some c =>
    if a.write then
      let r := s.writeHeader a.master p off a.data.toNat
      (r.1, 0, r.2)
    else
      let r := s.readHeader p off c
      (0, r.1, r.2)

/-- An access to a block register that is there. -/
def State.blockAccess (s : State) (a : Access) (rel : Nat) : Option Reg → Nat × Nat × State
  | none => (1, 0, s)
  | some r =>
    if a.write then
      let x := s.writeBlockReg a.master rel a.data.toNat r
      (x.1, 0, x.2)
    else
      let x := s.readBlock rel r
      (0, x.1, x.2)

/-- An access to the register space that the checks let through, at an offset from its base. -/
def State.accessAt (s : State) (a : Access) (rel : Nat) : Nat × Nat × State :=
  if rel % 0x1000 < 0x040 then s.headerAccess a (rel / 0x1000) (rel % 0x1000) (capOf (rel / 0x1000))
  else s.blockAccess a rel ((regOf rel).map (·.1))

/-- An access that the checks let through: its status, the word of a read, and its effect. -/
def State.accessReg (s : State) (a : Access) : Nat × Nat × State := s.accessAt a (a.addr - 0x02000000)

/-- An access after its checks: it is refused with their status, or reaches its register. -/
def State.accessChecked (s : State) (a : Access) : Option Nat → Nat × Nat × State
  | some st => (st, 0, s)
  | none => s.accessReg a

/-- What an access came to is counted on its page (R28). -/
def State.counted (a : Access) (r : Nat × Nat × State) : Nat × Nat × State :=
  (r.1, r.2.1, r.2.2.countStatus a r.1)

/-- An access completes: its status, the word of a read, and the state after it (R28). -/
def State.perform (s : State) (a : Access) : Nat × Nat × State :=
  State.counted a (s.accessChecked a (s.accessCheck a))

/-- Some access of a master waits (R61). -/
def State.waits (s : State) (m : Nat) : Bool := s.waiting.any (fun a => a.master = m)

/-- The link of a host master (R60). -/
def hostLink (m : Nat) : Option Nat := if 1 ≤ m && m ≤ 6 then some (m - 1) else none


end Sys2Proof.Machine
end

