-- ==== Sys2Proof/Machine/Ctl.lean ====
section
/-! DEFINITION. Accesses from their master to their end: the order of one master's accesses (R61), accesses that are held
(R381, R385, R431), and CONTROL requests over the links (R116 to R122). -/

namespace Sys2Proof.Machine

/-! ### The result of an access goes to its master (R28, R118) -/

/-- The oldest CONTROL request of a link takes the result of its next entry. -/
def State.ctlResult (s : State) (n data st : Nat) : State :=
  match (s.link n).ctl with
  | [] => s
  | r :: rest => s.setLink n { s.link n with ctl := { r with todo := r.todo.tail, done := r.done ++ [(data, st)] } :: rest }

/-- An access of a CONTROL request answers in its response, every other one on its master's bus. -/
def State.deliver (s : State) (a : Access) (st data : Nat) : State :=
  if a.ctl then s.ctlResult (a.master - 1) data st else s.emit (.access a.master st data)

/-- A held write of a reel's WR_DATA that heads its master's accesses. -/
def State.heldWrite (s : State) (q : Nat) (a : Access) : Bool :=
  a.write && a.addr = 0x02000000 + addrOf (pgReel q) REEL.WR_DATA.WORD.off &&
    s.waiting.find? (fun b => b.master = a.master) = some a

/-- Emptying a reel completes the writes held on it; their words are discarded (R385, R392). -/
def State.dropHeldWrites (s : State) (q : Nat) : State :=
  (s.waiting.filter (s.heldWrite q)).foldl
    (fun s a => { s with waiting := s.waiting.erase a }.deliver a 0 0) s

/-- The reel that an access flushes (R392). -/
def Access.flushes (a : Access) : Option Nat :=
  if a.write && a.data.toNat % 256 = 0x10 then
    (List.range 16).find? (fun q => a.addr = 0x02000000 + addrOf (pgReel q) 0x020)
  else none

/-- An access that is not held: its status, the word of a read, and the state after it. -/
def State.doAccess (s : State) (a : Access) : Nat × Nat × State :=
  let r := s.perform a
  match (if r.1 = 0 then a.flushes else none) with
  | some q => (r.1, r.2.1, r.2.2.dropHeldWrites q)
  | none => r

/-! ### CONTROL requests in execution (R118 to R120) -/

/-- The response leaves on the link of the request, unless the link is DOWN, and is kept for a replay (R119, R120). -/
def State.ctlFinish (s : State) (n : Nat) (r : CtlRun) (rest : List CtlRun) : State :=
  let l := s.link n
  let cache := l.replay.map (fun e => if e.txn = r.txn && e.reqTime = r.reqTime then { e with resp := r.done } else e)
  let s := s.setLink n { l with ctl := rest, replay := cache }
  if s.linkState n = 0 then s else s.emit (.response n r.txn r.op r.done)

/-- One step of the oldest request of a link: its next entry executes, is held or is skipped, or the response leaves. -/
def State.ctlAdvance (s : State) (n : Nat) : Option State :=
  match (s.link n).ctl with
  | [] => none
  | r :: rest =>
    if s.waits (n + 1) then none
    else
      match r.todo with
      | [] => some (s.ctlFinish n r rest)
      | e :: _ =>
        if r.stop && r.done.any (fun d => d.2 != 0) then
          some (s.setLink n { s.link n with
            ctl := { r with todo := [], done := r.done ++ r.todo.map (fun _ => (0, 7)) } :: rest })
        else
          let a : Access := { master := n + 1, write := r.op = 1, addr := e.1, data := BitVec.ofNat 32 e.2, ctl := true }
          if s.accessHeld a then some { s with waiting := s.waiting ++ [a] }
          else
            let x := s.doAccess a
            some (x.2.2.deliver a x.1 x.2.1)

/-- The requests of a link run until one is held or none is left; `k` bounds the steps. -/
def State.ctlDrive (n : Nat) : Nat → State → State
  | 0, s => s
  | k + 1, s =>
    match s.ctlAdvance n with
    | some t => State.ctlDrive n k t
    | none => s

/-- More steps than the requests of a link can take: a step for each entry, its skipping and its response. -/
def State.ctlSteps (s : State) (n : Nat) : Nat :=
  (s.link n).ctl.foldl (fun k r => k + r.todo.length + 3) 1

/-- The requests of a link run. -/
def State.ctlRun (s : State) (n : Nat) : State := State.ctlDrive n (s.ctlSteps n) s

/-! ### Held accesses (R61, R381, R431) -/

/-- The first waiting access that nothing holds any more completes; its master's request goes on. -/
def State.resumeOne (s : State) : Option State :=
  match s.waiting.find? (fun a => s.waiting.find? (fun b => b.master = a.master) = some a && !s.accessHeld a) with
  | none => none
  | some a =>
    let x := { s with waiting := s.waiting.erase a }.doAccess a
    let t := x.2.2.deliver a x.1 x.2.1
    some (if a.ctl then t.ctlRun (a.master - 1) else t)

/-- At most `k` waiting accesses complete. -/
def State.resumeN : Nat → State → State
  | 0, s => s
  | k + 1, s =>
    match s.resumeOne with
    | some t => State.resumeN k t
    | none => s

/-- The accesses that can complete do, in the order of their masters (R61). -/
def State.resume (s : State) : State :=
  let runs := (List.range 6).foldl (fun k n => k + s.ctlSteps n) 0
  (List.range 6).foldl (fun s n => s.ctlRun n) (State.resumeN (s.waiting.length + runs) s)

/-- A master issues an access: it waits behind an access of the same master that is held (R61). -/
def State.issue (s : State) (m : Nat) (write : Bool) (addr : Nat) (data : Nat) : State :=
  let a : Access := { master := m, write := write, addr := addr, data := BitVec.ofNat 32 data }
  if s.waits m || s.accessHeld a then { s with waiting := s.waiting ++ [a] }
  else
    let x := s.doAccess a
    let t := x.2.2.deliver a x.1 x.2.1
    if a.flushes.isSome then t.resume else t

/-- A write to a register of a page. -/
def State.writeReg (s : State) (m p off v : Nat) : State := s.issue m true (0x02000000 + addrOf p off) v

/-- A read of a register of a page. -/
def State.readReg (s : State) (m p off : Nat) : State := s.issue m false (0x02000000 + addrOf p off) 0

/-- A page command with its argument (R48). -/
def State.command (s : State) (m p opcode arg : Nat) : State := s.writeReg m p 0x020 (opcode + arg % 2 ^ 24 * 256)

/-- REEL_WRITE_RESUME: what is held on a reel that has space again completes (R381). -/
def State.reelResume (s : State) (q : Nat) : State := (s.reelUnstall q).resume

/-- PTR_RESET: the duplicated positions disagree; held writes complete (R385). -/
def State.reelFault (s : State) (q : Nat) : State := ((s.reelPtrReset q).dropHeldWrites q).resume

/-! ### CONTROL requests as they arrive (R116, R117, R119, R121) -/

/-- A well-formed request (R109, R116). -/
structure Request where
  txn : Nat
  op : Nat
  stop : Bool
  count : Nat
  reqTime : Nat
deriving DecidableEq, Repr

/-- The contents of a message in order: bits [191:64] of its first cell, all the bits of the others, in units of `w` bits. -/
def ctlUnits (vs : List CellView) (w : Nat) : List Nat :=
  match vs with
  | [] => []
  | v :: r =>
    (List.range (128 / w)).map (fun i => bitsOf v.body (64 + w * i) w) ++
      r.flatMap (fun v => (List.range (192 / w)).map (fun i => bitsOf v.body (w * i) w))

/-- The cells that a request of an operation needs. -/
def ctlCells (op count : Nat) : Nat :=
  if op = 2 then 1 + ceilDiv (count - 4) 6 else 1 + ceilDiv (count - 2) 3

/-- The request of a message, if it is well formed: one message of its handle, a request of a defined operation, of the
length that COUNT gives (R109, R116). -/
def ctlRequest (vs : List CellView) : Option Request :=
  match vs with
  | [] => none
  | v :: r =>
    let op := bitsOf v.body 25 3
    let count := bitsOf v.body 32 8 + 1
    let framed := v.first && r.all (fun c => !c.first && c.handle = v.handle) && (vs.getLast?.map (·.last)).getD false &&
      vs.dropLast.all (fun c => !c.last)
    if framed && !bit v.body 28 && op ≤ 2 && (op = 2 || count ≤ 16) && vs.length = ctlCells op count then
      some ⟨bitsOf v.body 0 16, op, bit v.body 29, count, bitsOf v.body 40 24⟩
    else none

/-- The time check of R117. -/
def State.ctlTimely (s : State) (n reqTime : Nat) : Bool :=
  !s.fbit (pgLink n) LINK.POLICY.TIME_CHECK || !s.timeLocked ||
    (let d := sgn 24 (unsgn 24 ((bitsOf s.now 20 24 : Int) - reqTime))
     d.natAbs ≤ s.fget (pgLink n) LINK.CTL_WINDOW.MS * 1000000 / 1048576)

/-- How long a replay entry lives, in ns (R119). -/
def State.replayLife (s : State) (n : Nat) : Nat := 2 * s.fget (pgLink n) LINK.CTL_WINDOW.MS * 1000000

/-- REPLAY_ENTRY_EXPIRY: the oldest entry of a link has lived its time (R119). -/
def State.replayExpiry (s : State) (n : Nat) : State :=
  match (s.link n).replay with
  | [] => s
  | e :: r =>
    let s := s.advanceTo (e.at_ + s.replayLife n)
    s.setLink n { s.link n with replay := r }

/-- A MAILBOX request: one packet in REEL0, or FULL; with the domain of the reels not ON the status is DOMAIN (R118). -/
def State.ctlMailbox (s : State) (n : Nat) (q : Request) (words : List Nat) : State :=
  let full : Bool := s.reelSpace 0 < words.length + 1
  let st := if !s.domOn (domainOf (pgReel 0)) then 6 else if full then 8 else 0
  let s := if st = 0 then s.reelPacket 0 words else s
  let l := s.link n
  s.setLink n { l with ctl := l.ctl ++ [⟨q.txn, q.reqTime, 2, false, [], [(0, st)]⟩] }

/-- An accepted request: it enters the replay cache of 32 and executes (R118, R119). -/
def State.ctlAccept (s : State) (n : Nat) (q : Request) (vs : List CellView) : State :=
  let l := s.link n
  let kept := l.replay.filter (fun e => e.txn ≠ q.txn)
  let kept := kept.drop (kept.length - 31)
  let s := s.setLink n { l with replay := kept ++ [⟨q.txn, q.reqTime, q.op, [], s.mono⟩] }
  let s :=
    if q.op = 2 then s.ctlMailbox n q ((ctlUnits vs 32).take q.count)
    else
      let es := ((ctlUnits vs 64).take q.count).map (fun e => (e % 2 ^ 32, e / 2 ^ 32))
      let l := s.link n
      s.setLink n { l with ctl := l.ctl ++ [⟨q.txn, q.reqTime, q.op, q.stop, es, []⟩] }
  s.ctlRun n

/-- A request that has passed the checks of its cells: STALE, a replay, or new (R117, R119). -/
def State.ctlTake (s : State) (n : Nat) (q : Request) (vs : List CellView) : State :=
  if !s.ctlTimely n q.reqTime then
    let entries := List.replicate (if q.op = 2 then 1 else q.count) (0, 9)
    (s.finc (pgLink n) LINK.CTL_STAT.STALE).emit (.response n q.txn q.op entries)
  else
    let live := (s.link n).replay.filter (fun e => s.mono < e.at_ + s.replayLife n)
    let s := s.setLink n { s.link n with replay := live }
    match live.find? (fun e => e.txn = q.txn && e.reqTime = q.reqTime) with
    | some e =>
      let s := s.finc (pgLink n) LINK.CTL_STAT.REPLAY
      if e.resp.isEmpty then s else s.emit (.response n e.txn e.op e.resp)
    | none => s.ctlAccept n q vs

/-- A request that is dropped without a response (R117). -/
def State.ctlDrop (s : State) (n : Nat) (f : Fld) : State := (s.finc (pgLink n) f).evt (pgLink n) 13

/-- The device of a request, and whether it is this one, by the header as received (R121, R122). -/
def ctlDev (cells : List Nat) : Nat := bitsOf (rawView (cells.headD 0)).body 16 9

/-- A CONTROL request arrives: it is forwarded as received, and taken if it is addressed to this device (R101, R108, R117,
R121, R122, R127). -/
def State.ctlRx (s : State) (n : Nat) (cells : List Nat) : State :=
  if s.linkState n = 0 || cells.isEmpty then s
  else
    let x := s.checkCells n cells
    let vs := x.1
    let s := x.2.2
    if vs.any (fun v => v.type ≠ 2) || !(n = 0 || n = 1 || n = 5) then s.wrongType n
    else if !s.ctlOk n then s
    else
      let dev := ctlDev cells
      let s := (s.routes n dev dev).filter s.ctlOk |>.foldl (fun s d => cells.foldl (fun s c => s.emit (.cell d c)) s) s
      let s := s.unrouted n dev dev
      if dev ≠ s.deviceId then s
      else if !x.2.1 then s.ctlDrop n LINK.CTL_DROP.MALFORMED
      else if !s.noKey n && !vs.all s.safetyMacOk then s.ctlDrop n LINK.CTL_DROP.MAC
      else
        match ctlRequest vs with
        | none => s.ctlDrop n LINK.CTL_DROP.MALFORMED
        | some q => s.ctlTake n q vs

end Sys2Proof.Machine
end

