-- ==== Sys2Proof/Machine/Boundary.lean ====
section
/-! DEFINITION. The raster of a frame (R23, R145, R146, R151, R153): what a frame boundary, a slot boundary, the start of
blanking and the cue do in every block. -/

namespace Sys2Proof.Machine

/-! ### The frame that ends -/

/-- The tiles whose codes of the frame that ends are complete; in still mode none is computed (R16, R157). -/
def State.tilesReady (s : State) : Nat :=
  if s.fbit pgTime TIME.STILL_STAT.STILL then 0 else s.cad.done &&& s.cad.computing

/-- UNDERRUN of R151 follows the compositor's report. -/
def State.underrunEvent (s : State) : State :=
  if s.time.underrun then (s.finc pgTime TIME.RASTER_CNT.UNDERRUN).evt pgTime 15 else s

/-- The frame ends: `produced` row pairs of it were composed, and `missed` monitor bursts found LINK5 busy. Its codes go to the
ports, and its last pixels, its doses and its counts are kept (R151, R192, R195, R197, R211, R221, R241, R310). -/
def State.endFrame (s : State) (produced : Nat) (missed : List Nat) : State :=
  let s := { s with cmp := { s.cmp with produced := min produced 512 } }
  let s := ((s.countUnderrun.underrunEvent.monitorFrame missed).keepLast).dropFrameCapture
  let s := if s.fbit pgTime TIME.STILL_STAT.STILL then s else { s with cad := { s.cad with shown := s.cad.codes } }
  let s := (s.doseBoundary.borrowBoundary).keepMatte
  { s with time := { s.time with frameAwaited := false, frameDone := false } }

/-! ### The commits of a boundary (R35, R37, R152, R484, R486) -/

/-- A boundary of a kind comes to every commit that waits for it: the device's own, those taken over and those mirrored. -/
def State.commitsAt (s : State) (kind : Nat) : State :=
  ((s.boundaryCommits kind).adoptedBoundary kind).mirrorBoundary kind

/-! ### The frame that begins -/

/-- The groups that this boundary finds in PERMIT (R569). -/
def State.permitBoundary (s : State) : State :=
  { s with safe := { s.safe with permitPrev := s.safe.permitNow, permitNow := s.groupsIn .permit } }

/-- Composition of the frame that begins; still mode and a CMP domain that is not ON compose nothing (R166, R186, R193,
R196). -/
def State.composeBoundary (s : State) : State :=
  let on : Bool := s.domOn 3
  let s := if on then s.selectWindows.setReadRate else s
  let takes := if on && !s.fbit pgTime TIME.STILL_STAT.STILL then s.takes else 0
  let s := { s with cmp := { s.cmp with
    takesBefore := s.cmp.takesNow, takesNow := takes, gone := [], early := 0, late := [], produced := 512 } }
  if takes = 0 then s else s.startCapture

/-- Tiles whose residuals read 0: those newly enabled, all in the first frame of a mode, and those of an engine whose DITHER
has changed (R212). -/
def State.freshBoundary (s old : State) : Nat :=
  let en := s.fget pgSys SYS.FIELD_CFG.TILE_EN
  let was := old.fget pgSys SYS.FIELD_CFG.TILE_EN
  let engines := (List.range 16).filter (fun t =>
    s.fget (pgPe (portGroup t)) PE.CTL.DITHER ≠ old.fget (pgPe (portGroup t)) PE.CTL.DITHER)
  if s.fget pgTime TIME.MODE_STAT.STAGE = 1 then 0xFFFF
  else without en was ||| maskOf engines

/-- The tiles of the frame that begins; a tile disabled at this boundary goes dark at the next (R16, R212). -/
def State.tileBoundary (s old : State) (ready : Nat) : State :=
  let en := s.fget pgSys SYS.FIELD_CFG.TILE_EN
  let was := old.fget pgSys SYS.FIELD_CFG.TILE_EN
  let s := (List.range 16).foldl (fun s t =>
    if bit was t && !bit en t && (s.dud t).live != 0 then s.setDud t { s.dud t with darkDue := true } else s) s
  { s with cad := { s.cad with
    computing := en, done := 0, satSeen := 0
    freshTiles := s.freshBoundary old ||| without s.cad.freshTiles ready } }

/-- Every port at the boundary that opens frame `n`; `takes` is the T of the frame before (R16, R280). -/
def State.portsBoundary (s : State) (n takes ready : Nat) : State :=
  (List.range 16).foldl (fun s t => s.portBoundary t n takes (bit ready t)) s

/-- The slot boundary of B(*k*) for the pair: the slot of take 0 when it starts there, and slot 0 when none does (R146,
R492). -/
def State.slotAtBoundary (s : State) : Nat :=
  ((List.range s.takes).find? (fun j => s.fget pgTime (TIME.SLOT_PHASE.PHASE j) = 0)).getD 0

/-- What the boundary does once its commits have applied. -/
def State.afterCommits (s old : State) (takes ready : Nat) : State :=
  let n := s.frame
  let s := s.messageWaiting.boundaryUp
  let s := (s.slateBoundary.applyPhases).clapBoundary
  let s := (s.rebuildBoundary.mirrorRebuildBoundary n).stillBoundary
  let s := (s.composeBoundary.matteBoundary).zoneBoundary
  let s := s.windowBoundary.portsBoundary n takes ready
  let s := (s.diagBoundary n).tileBoundary old ready
  (s.evalGroups.resolveLinking).tailBoundary

/-- FRAME_BOUNDARY: B(*k*) arrives (R146). -/
def State.frameBoundary (s : State) (produced : Nat) (missed : List Nat) : State :=
  let takes := s.takes
  let ready := s.tilesReady
  let s := (s.endFrame produced missed).openFrame
  let s := (s.permitBoundary.latchWindows s.mono).stageBoundary
  let t := (s.commitsAt 0).commitsAt 1
  let t := t.afterCommits s takes ready
  (t.pairSlot t.slotAtBoundary).settle

/-- SLOT_BOUNDARY: the slot of take `j` starts, at its position in force. A slot that starts with the frame has its boundary
in B(*k*) (R146). -/
def State.slotBoundary (s : State) (j : Nat) : State :=
  let start := s.fget pgTime (TIME.SLOT_PHASE.PHASE j)
  if s.takes ≤ j || start = 0 then s
  else
    let s := s.advanceSys (s.boundarySys s.time.k + start * 1024)
    ((s.commitsAt 1).pairSlot j).settle

/-- FRAME_LATE: the codes that are delivered have not been acknowledged by the start of blanking (R151). -/
def State.frameLate (s : State) : State :=
  if s.time.frameAwaited && !s.time.frameDone then
    ({ s with time := { s.time with frameLate := true } }.finc pgTime TIME.RASTER_CNT.LATE).evt pgTime 14
  else s

/-- The frame has reached its blanking. -/
def State.beginBlanking (s : State) : State := { s with time := { s.time with blanking := true } }

/-- The frame at which the sinks switch to the slot map sent in this blanking: the next, in STAGE 2 (R153). -/
def State.slotMapApply (s : State) : Option Nat :=
  if s.fget pgTime TIME.MODE_STAT.STAGE = 2 then some ((s.frame + 1) % 65536) else none

/-- BLANKING_START: FRAMESET goes to every ring, and in STAGE 2 the slot map of the new mode, to be switched to at the next
boundary (R151, R153, R283). -/
def State.blankingStart (s : State) : State :=
  if s.time.blanking then s
  else
    let t := ((s.advanceSys (s.boundarySys (s.time.k + 1) - s.fget pgTime TIME.BLANK.US * 65536000)).beginBlanking).frameLate
    (List.range 16).foldl (fun s t => s.portBlanking t s.slotMapApply) t

/-- CUE: both engines that own CUE_ROW have written its codes (R151). -/
def State.cue (s : State) : State :=
  if s.fbit pgTime TIME.STILL_STAT.STILL then s else s.evt pgTime 12

/-! ### An idle step -/

/-- With no command waiting, one nanosecond of the model's clock passes and the next queued upward message leaves (DESIGN
CHOICE, log 1); without power nothing happens (R554). -/
def State.idle (s : State) : State := s.live fun s => (s.advanceTo (s.mono + 1)).flushUpward

end Sys2Proof.Machine
end

