-- ==== Sys2Proof/Machine/ExecColour.lean ====
section
/-! DEFINITION. What each command does: photometric correction and mattes (chapters 07 and 08). -/

namespace Sys2Proof.Machine

/-- WEAR_PERIOD_S has elapsed since the last wear phase: a periodic trigger with a wear phase (R219). -/
def State.wearPeriod (s : State) : State :=
  (s.advanceTo (s.cad.lastWear + s.fget pgCad CAD.WEAR_CFG.WEAR_PERIOD_S * 1000000000)).periodicTrigger true

/-- A caddy copy ends; the copy-back after an exchange is followed by the user backup (R228, R527). -/
def State.userCopied (s : State) : State :=
  match s.cad.copy with
  | some .back => s.userCopyDone.userBackup
  | _ => s.userCopyDone

/-- REBUILD_START (R219). A rebuild starts after its trigger, no earlier than MIN_MS after the previous start for a
periodic trigger. -/
def execRebuildStart (s : State) : Host.Outcome State Fault Refusal :=
  .next (s.live fun s => s.rebuildStart)

/-- WEAR_PHASE_DONE (R223). The wear phase sets GAIN, ceilings and factors of every emitter. -/
def execWearPhaseDone (s : State) : Host.Outcome State Fault Refusal :=
  .next (s.live fun s => s.wearPhaseDone)

/-- REBUILD_DONE (R220). Every record of the new effective buffer is written and waits for a boundary. -/
def execRebuildDone (s : State) : Host.Outcome State Fault Refusal :=
  .next (s.live fun s => s.rebuildDone)

/-- WEAR_PERIOD_EXPIRY (R219). WEAR_PERIOD_S has elapsed and a periodic rebuild with a wear phase is triggered. -/
def execWearPeriodExpiry (s : State) : Host.Outcome State Fault Refusal :=
  .next (s.live fun s => s.wearPeriod)

/-- TEMP_STALE (R216). A tile with no valid sink temperature for 10 s keeps its last value and raises TEMP_STALE. -/
def execTempStale (tile : Fin 16) (s : State) : Host.Outcome State Fault Refusal :=
  .next (s.live fun s => s.tempStale tile)

/-- BUILD_FACTORY (R226). CAD command 0x10 derives the factory caddy from binning records. -/
def execBuildFactory (m : Master) (s : State) : Host.Outcome State Fault Refusal :=
  .next (s.live fun s => s.command m.id pgCad 0x10 0)

/-- BUILD_FACTORY_DONE (R226). The factory build ends DONE or FAILED. -/
def execBuildFactoryDone (s : State) : Host.Outcome State Fault Refusal :=
  .next (s.live fun s => s.buildFactoryDone)

/-- LOAD_FACTORY (R226). CAD command 0x11 copies precomputed records into the factory caddy. -/
def execLoadFactory (m : Master) (s : State) : Host.Outcome State Fault Refusal :=
  .next (s.live fun s => s.command m.id pgCad 0x11 0)

/-- LOAD_FACTORY_DONE (R226). The factory load ends DONE or FAILED. -/
def execLoadFactoryDone (s : State) : Host.Outcome State Fault Refusal :=
  .next (s.live fun s => s.loadFactoryDone)

/-- SEAL_FACTORY (R227). CAD command 0x12 seals the factory caddy with per-tile CRCs and sets the OTP bit. -/
def execSealFactory (m : Master) (s : State) : Host.Outcome State Fault Refusal :=
  .next (s.live fun s => s.command m.id pgCad 0x12 0)

/-- WRITE_USER (R228). CAD command 0x13 copies staging records of the named tiles into the staging copy. -/
def execWriteUser (m : Master) (tiles : BitVec 16) (s : State) : Host.Outcome State Fault Refusal :=
  .next (s.live fun s => s.command m.id pgCad 0x13 tiles.toNat)

/-- WRITE_USER_DONE (R228). The copy into the staging user copy ends DONE or FAILED. -/
def execWriteUserDone (s : State) : Host.Outcome State Fault Refusal :=
  .next (s.live fun s => s.writeUserDone)

/-- APPLY_USER (R228). CAD command 0x14 makes the staging copy live through a rebuild. -/
def execApplyUser (m : Master) (s : State) : Host.Outcome State Fault Refusal :=
  .next (s.live fun s => s.command m.id pgCad 0x14 0)

/-- RESTORE_FACTORY (R228). CAD command 0x15 copies the factory caddy over the staging copy, then proceeds as
APPLY_USER. -/
def execRestoreFactory (m : Master) (s : State) : Host.Outcome State Fault Refusal :=
  .next (s.live fun s => s.command m.id pgCad 0x15 0)

/-- USER_COPY_DONE (R228). A caddy copy or the copy-back after an exchange ends and COPY_BUSY clears. -/
def execUserCopyDone (s : State) : Host.Outcome State Fault Refusal :=
  .next (s.live fun s => s.userCopied)

/-- REBUILD (R219). CAD command 0x16 is a periodic rebuild trigger. -/
def execCadRebuild (m : Master) (s : State) : Host.Outcome State Fault Refusal :=
  .next (s.live fun s => s.command m.id pgCad 0x16 0)

/-- DOSE_RESET (R236). CAD command 0x17 sets DOSE and GAIN of the named tiles and triggers a content rebuild. -/
def execDoseReset (m : Master) (tiles : BitVec 16) (s : State) : Host.Outcome State Fault Refusal :=
  .next (s.live fun s => s.command m.id pgCad 0x17 tiles.toNat)

/-- VERIFY (R249). MATTE command 0x10 checks a matte copy against its seals. -/
def execMatteVerify (m : Master) (copy : Fin 2) (s : State) : Host.Outcome State Fault Refusal :=
  .next (s.live fun s => s.command m.id pgMatte 0x10 copy)

/-- VERIFY_DONE (R256). VERIFY ends DONE, setting VERIFIED and zone counts, or FAILED. -/
def execVerifyDone (s : State) : Host.Outcome State Fault Refusal :=
  .next (s.live fun s => s.verifyEnd.settle)

/-- MATTE_SEAL_WRITE (R249). A SAF write to a SEAL register of a copy clears that copy's VERIFIED bit. -/
def execMatteSealWrite (m : Master) (copy : Fin 2) (tile : Fin 16) (crc : BitVec 32) (s : State) : Host.Outcome State
    Fault Refusal :=
  .next (s.live fun s => s.writeReg m.id pgMatte (MATTE.SEAL.CRC (16 * copy + tile)).off crc.toNat)

/-- PROXY_TAP_CODE (R406). GRD receives λ of a zone member from a tap, adds it to the zone sum and trips on PIXEL_CAP or
ZONE_SUM. -/
def execProxyTapCode (zone : Fin 64) (take : Fin 4) (lam : Nat) (s : State) : Host.Outcome State Fault Refusal :=
  .next (s.live fun s => s.tapCode zone take lam)

end Sys2Proof.Machine
end

