-- ==== Sys2Proof/Machine/ExecCompose.lean ====
section
/-! DEFINITION. What each command does: composition and the overlay library (chapter 06). -/

namespace Sys2Proof.Machine

/-- RETIRE_FENCE (R189). The last read of a replaced surface returns, RETIRE.SEQ increments and RETIRED is raised. -/
def execRetireFence (layers : BitVec 8) (windows : BitVec 16) (s : State) : Host.Outcome State Fault Refusal :=
  .next (s.live fun s => s.retireFence layers.toNat windows.toNat)

/-- OVL_SIGNATURE_POST (R182). The compositor posts the overlay signature and SIG_FRAME for the frame. -/
def execOvlSignaturePost (s : State) : Host.Outcome State Fault Refusal :=
  .next (s.live fun s => s.postOverlaySig)

/-- LIB_DATA_WRITE (R178). A SAF write to LIB_DATA stores one word at LIB_ADDR and increments LIB_ADDR. -/
def execLibDataWrite (m : Master) (data : BitVec 32) (s : State) : Host.Outcome State Fault Refusal :=
  .next (s.live fun s => s.writeReg m.id pgOvl OVL.LIB_DATA.DATA.off data.toNat)

/-- LIB_DATA_READ (R178). A SAF read of LIB_DATA returns one word and increments LIB_ADDR. -/
def execLibDataRead (m : Master) (s : State) : Host.Outcome State Fault Refusal :=
  .next (s.live fun s => s.readReg m.id pgOvl OVL.LIB_DATA.DATA.off)

/-- SEAL (R179). OVL command 0x10 checks the library CRC and directory and seals the library. -/
def execOvlSeal (m : Master) (s : State) : Host.Outcome State Fault Refusal :=
  .next (s.live fun s => s.command m.id pgOvl 0x10 0)

/-- UNSEAL (R204). OVL command 0x11 clears SEALED so library writes are allowed again. -/
def execOvlUnseal (m : Master) (s : State) : Host.Outcome State Fault Refusal :=
  .next (s.live fun s => s.command m.id pgOvl 0x11 0)

/-- CAPTURE (R196). CMP command 0x10 captures the next whole frame. -/
def execCapture (m : Master) (s : State) : Host.Outcome State Fault Refusal :=
  .next (s.live fun s => s.command m.id pgCmp 0x10 0)

/-- CAP_DONE (R196). A capture frame completes, CAP_STAT.FRAME is set and CAP_DONE is raised. -/
def execCapDone (s : State) : Host.Outcome State Fault Refusal :=
  .next (s.live fun s => s.capDone)

/-- LIB_SEAL_DONE (R179). The SEAL command's CRC of the library completes within 1 ms, and the command ends DONE with
the library sealed or FAILED. -/
def execLibSealDone (s : State) : Host.Outcome State Fault Refusal :=
  .next (s.live fun s => s.libSealDone)

end Sys2Proof.Machine
end

