-- ==== Sys2Proof/Machine/ExecDiag.lean ====
section
/-! DEFINITION. What each command does: emitter diagnosis (chapter 10). -/

namespace Sys2Proof.Machine

/-- DIAG_VISIT (R305). DIAG visits rows of a sink, ageing records, sending DIAG_REQ and marking emitters due for probes.
-/
def execDiagVisit (tile : Fin 16) (sink : Fin 128) (rows : BitVec 64) (last : Bool) (s : State) : Host.Outcome State
    Fault Refusal :=
  .next (s.live fun s => s.diagVisit tile sink rows.toNat last)

/-- DIAG_REPORT_WRITE (R317). A held report is written to its reel when the queue has room. -/
def execDiagReportWrite (s : State) : Host.Outcome State Fault Refusal :=
  .next (s.live fun s => s.diagReportWrite)

/-- INIT_MAP (R323). DIAG command 0x10 resets every record of the named tiles. -/
def execInitMap (m : Master) (tiles : BitVec 16) (s : State) : Host.Outcome State Fault Refusal :=
  .next (s.live fun s => s.command m.id pgDiag 0x10 tiles.toNat)

/-- INIT_MAP_DONE (R319). INIT_MAP completes and MAP_OK may become 1. -/
def execInitMapDone (s : State) : Host.Outcome State Fault Refusal :=
  .next (s.live fun s => s.initMapDone)

/-- BUILD_LIST (R323). DIAG command 0x11 rebuilds the fault list from the map. -/
def execBuildList (m : Master) (s : State) : Host.Outcome State Fault Refusal :=
  .next (s.live fun s => s.command m.id pgDiag 0x11 0)

/-- BUILD_LIST_DONE (R319). BUILD_LIST completes, MAP_OK becomes 1 and the list is in force at the next boundary. -/
def execBuildListDone (s : State) : Host.Outcome State Fault Refusal :=
  .next (s.live fun s => s.buildListDone)

/-- RELEARN (R323). DIAG command 0x12 clears baselines and DEGRADED verdicts of the named tiles. -/
def execRelearn (m : Master) (tiles : BitVec 16) (s : State) : Host.Outcome State Fault Refusal :=
  .next (s.live fun s => s.command m.id pgDiag 0x12 tiles.toNat)

/-- CLEAR_VERDICT (R323). DIAG command 0x13 resets the record of one emitter. -/
def execClearVerdict (m : Master) (emitter : BitVec 23) (s : State) : Host.Outcome State Fault Refusal :=
  .next (s.live fun s => s.command m.id pgDiag 0x13 emitter.toNat)

end Sys2Proof.Machine
end

