-- ==== Sys2Proof/Machine/ExecFirmware.lean ====
section
/-! DEFINITION. What each command does: firmware, updates and background work (chapter 17). -/

namespace Sys2Proof.Machine

/-- Before HANDOVER a processor leaves the version of its state at the start of its data area (R520). -/
def State.stateVersion (s : State) (t v : Nat) : State :=
  { s with boot := { s.boot with stateVer := SMap.write 0 s.boot.stateVer t v } }

/-- UPDATE_START (R519). FW command 0x10 opens an update session for a target. -/
def execUpdateStart (m : Master) (target : Fin 4) (s : State) : Host.Outcome State Fault Refusal :=
  .next (s.live fun s => s.command m.id pgFw 0x10 target)

/-- UPDATE_ABORT (R519). FW command 0x11 ends the session. -/
def execUpdateAbort (m : Master) (s : State) : Host.Outcome State Fault Refusal :=
  .next (s.live fun s => s.command m.id pgFw 0x11 0)

/-- UPDATE_BLOCK (R517). SPLICE takes an update block from REEL1 and applies, ignores or rejects it. -/
def execUpdateBlock (s : State) : Host.Outcome State Fault Refusal :=
  .next (s.live fun s => s.updateBlock)

/-- ACTIVATE (R520). FW command 0x12 loads the verified slot into the other bank. -/
def execFwActivate (m : Master) (s : State) : Host.Outcome State Fault Refusal :=
  .next (s.live fun s => s.command m.id pgFw 0x12 0)

/-- ACTIVATE_DONE (R520). The image is in the other bank and checked, and STATE reads LOADED. -/
def execActivateDone (s : State) : Host.Outcome State Fault Refusal :=
  .next (s.live fun s => s.activateDone)

/-- HANDOVER (R520). FW command 0x13 moves fetch to the new bank at ENTRY. -/
def execFwHandover (m : Master) (target : Fin 4) (version : BitVec 16) (s : State) : Host.Outcome State Fault Refusal :=
  .next (s.live fun s => (s.stateVersion target version.toNat).command m.id pgFw 0x13 target)

/-- FW_ALIVE_WRITE (R520). The new MGT image writes FW.ALIVE and the handover holds. -/
def execFwAliveWrite (m : Master) (count : BitVec 8) (s : State) : Host.Outcome State Fault Refusal :=
  .next (s.live fun s => s.writeReg m.id pgFw FW.ALIVE.COUNT.off count.toNat)

/-- HANDOVER_REVERT (R520). Step 5 missed: fetch returns to the old bank and REVERTED is raised. -/
def execHandoverRevert (s : State) : Host.Outcome State Fault Refusal :=
  .next (s.live fun s => s.handoverRevert)

/-- CONFIRM (R522). FW command 0x14 makes the new slot the boot slot and clears TRIAL. -/
def execFwConfirm (m : Master) (s : State) : Host.Outcome State Fault Refusal :=
  .next (s.live fun s => s.command m.id pgFw 0x14 0)

/-- SVN_ADVANCE (R522). FW command 0x15 raises OTP_SVN to the confirmed image's SVN. -/
def execSvnAdvance (m : Master) (target : Fin 4) (s : State) : Host.Outcome State Fault Refusal :=
  .next (s.live fun s => s.command m.id pgFw 0x15 target)

/-- REVOKE_KEY (R530). FW command 0x16 sets an OTP_KEYS revocation bit. -/
def execRevokeKey (m : Master) (key : Fin 4) (s : State) : Host.Outcome State Fault Refusal :=
  .next (s.live fun s => s.command m.id pgFw 0x16 key)

/-- CKPT_NOW (R530). FW command 0x17 writes the next wear slice and the DIAG checkpoint now. -/
def execCkptNow (m : Master) (s : State) : Host.Outcome State Fault Refusal :=
  .next (s.live fun s => s.command m.id pgFw 0x17 0)

/-- WEAR_CHECKPOINT (R524). Every WEAR_MIN a wear slice is written to flash and journalled. -/
def execWearCheckpoint (s : State) : Host.Outcome State Fault Refusal :=
  .next (s.live fun s => s.wearCheckpoint)

/-- DIAG_CHECKPOINT (R526). Every DIAG_MIN the non-OK status records are written to the older DIAG copy. -/
def execDiagCheckpoint (s : State) : Host.Outcome State Fault Refusal :=
  .next (s.live fun s => s.diagCheckpoint)

/-- FLASH_OP_ISSUE (R515). A waiting program or erase is issued once hold-up energy suffices. -/
def execFlashOpIssue (s : State) : Host.Outcome State Fault Refusal :=
  .next (s.live fun s => s.flashIssue)

/-- FLASH_OP_DONE (R512). A flash program or erase ends, and a failure raises FLASH_FAIL. -/
def execFlashOpDone (ok : Bool) (s : State) : Host.Outcome State Fault Refusal :=
  .next (s.live fun s => s.flashDone ok)

/-- HOLD_TIMEOUT (R515). A hold-up wait lasting HOLD_TIMEOUT ends the operation FAILED with HOLDUP. -/
def execHoldTimeout (s : State) : Host.Outcome State Fault Refusal :=
  .next (s.live fun s => s.holdTimeout)

/-- DAILIES_PERIOD (R528). Every PERIOD_S DLY forms and writes a dailies record. -/
def execDailiesPeriod (s : State) : Host.Outcome State Fault Refusal :=
  .next (s.live fun s => s.dailiesPeriod)

/-- READ (R532). DLY command 0x10 loads the record at READ_IDX into READ_DATA. -/
def execDlyRead (m : Master) (s : State) : Host.Outcome State Fault Refusal :=
  .next (s.live fun s => s.command m.id pgDly 0x10 0)

/-- DLY_MARK (R532). DLY command 0x11 forms a record of KIND 1 with the given NOTE. -/
def execDlyMark (m : Master) (note : BitVec 16) (s : State) : Host.Outcome State Fault Refusal :=
  .next (s.live fun s => s.command m.id pgDly 0x11 note.toNat)

end Sys2Proof.Machine
end

