-- ==== Sys2Proof/Machine/ExecLanes.lean ====
section
/-! DEFINITION. What each command does: serial lanes: training, adaptation, tests and loss (chapter 03). -/

namespace Sys2Proof.Machine

/-- LANE_ENABLE (R82). A link leaves OFF for SEEK with k = 0 once ENABLE is 1 on all four lanes, the domain is ON and no
lane is in TEST. -/
def execLaneEnable (link : Fin 6) (s : State) : Host.Outcome State Fault Refusal :=
  .next (s.live fun s => (s.laneEnable link).settle)

/-- SEEK_DWELL_END (R82). The dwell in SEEK elapses and the lanes may enter LEADER. -/
def execSeekDwellEnd (link : Fin 6) (s : State) : Host.Outcome State Fault Refusal :=
  .next (s.live fun s => (s.seekDwellEnd link).settle)

/-- SEEK_MESSAGE_RX (R79). A valid SEEK message arrives; in LEADER it fails the attempt with PARTNER_RESTART. -/
def execSeekMessageRx (lane : Fin 24) (swapped : Bool) (s : State) : Host.Outcome State Fault Refusal :=
  .next (s.live fun s => (s.seekMessage lane swapped).settle)

/-- LEADER_MESSAGE_RX (R81). A valid leader message arrives; consecutive valid messages advance SEEK to LEADER and
LEADER to CHANGE after the checks of R81. -/
def execLeaderMessageRx (lane : Fin 24) (codeOk : Bool) (swapped : Bool) (bytes : List (BitVec 8)) (s : State) :
    Host.Outcome State Fault Refusal :=
  .next (s.live fun s => (s.leaderMessage lane codeOk swapped (bytes.map BitVec.toNat)).settle)

/-- TRAIN_TIMEOUT (R82). A training state reaches its timeout and the attempt fails with TIMEOUT. -/
def execTrainTimeout (link : Fin 6) (s : State) : Host.Outcome State Fault Refusal :=
  .next (s.live fun s => (s.trainTimeout link).settle)

/-- LANE_LOCK (R82). CDR lock and marker alignment at the new rate on every lane take the link from CHANGE to TUNE. -/
def execLaneLock (link : Fin 6) (s : State) : Host.Outcome State Fault Refusal :=
  .next (s.live fun s => (s.laneLock link).settle)

/-- TRAINING_FRAME_RX (R82). A training frame carries the partner's READY, CONFIRM or FAIL flags and coefficient
requests. -/
def execTrainingFrameRx (lane : Fin 24) (ready : Bool) (confirm : Bool) (fail : Bool) (d2 : Int) (d1 : Int) (d0 : Int)
    (dp : Int) (skew : Nat) (s : State) : Host.Outcome State Fault Refusal :=
  .next (s.live fun s => (s.trainingFrame lane ready confirm fail d2 d1 d0 dp skew).settle)

/-- FOM_WINDOW_DONE (R76). A figure-of-merit window completes, FOM.NOW is posted and the CTLE step is kept or reverted.
-/
def execFomWindowDone (lane : Fin 24) (fom : BitVec 10) (ffe : Nat) (dfe : Nat) (step : Option Bool) (s : State) :
    Host.Outcome State Fault Refusal :=
  .next (s.live fun s => (s.fomWindow lane fom.toNat ffe dfe step).settle)

/-- CONFIRM_MEASURE_DONE (R82). The 1 ms measurement in CONFIRM ends and passes or fails the lane. -/
def execConfirmMeasureDone (lane : Fin 24) (errs : Nat) (bits : Nat) (s : State) : Host.Outcome State Fault Refusal :=
  .next (s.live fun s => (s.confirmMeasure lane errs bits).settle)

/-- FOM_FAIL (R82). FOM below FAIL in every window for 1 ms ends RUN with FOM_FAIL. -/
def execFomFail (lane : Fin 24) (s : State) : Host.Outcome State Fault Refusal :=
  .next (s.live fun s => (s.fomFail lane).settle)

/-- LOSS_OF_SIGNAL (R87). Loss of signal or lock on a lane fails the attempt with LOS, and a link in RUN goes DOWN. -/
def execLossOfSignal (lane : Fin 24) (signal : Bool) (s : State) : Host.Outcome State Fault Refusal :=
  .next (s.live fun s => (s.lossOfSignal lane signal).settle)

/-- RUN_STABLE (R84). A link that has stayed in RUN for 1 s without a break resets k to 0. -/
def execRunStable (link : Fin 6) (s : State) : Host.Outcome State Fault Refusal :=
  .next (s.live fun s => s.runStable link)

/-- RETRAIN (R567). Command 0x10 restarts the link with reason COMMAND and k = 0. -/
def execRetrain (m : Master) (lane : Fin 24) (s : State) : Host.Outcome State Fault Refusal :=
  .next (s.live fun s => (s.command m.id (pgLane lane) 0x10 0).settle)

/-- TEST_ENTER (R99). Command 0x11 puts the lane into TEST and its peers into OFF with PEER_TEST. -/
def execTestEnter (m : Master) (lane : Fin 24) (s : State) : Host.Outcome State Fault Refusal :=
  .next (s.live fun s => (s.command m.id (pgLane lane) 0x11 0).settle)

/-- INJECT (R95). Command 0x12 inverts L consecutive PRBS generator bits. -/
def execInject (m : Master) (lane : Fin 24) (length : BitVec 8) (s : State) : Host.Outcome State Fault Refusal :=
  .next (s.live fun s => s.command m.id (pgLane lane) 0x12 length.toNat)

/-- TEST_EXIT (R99). Command 0x13 takes the lane out of TEST and the link to SEEK when all four lanes are enabled. -/
def execTestExit (m : Master) (lane : Fin 24) (s : State) : Host.Outcome State Fault Refusal :=
  .next (s.live fun s => (s.command m.id (pgLane lane) 0x13 0).settle)

/-- RESET_CEILING (R99). Command 0x14 returns the link's ceiling to 3. -/
def execResetCeiling (m : Master) (lane : Fin 24) (s : State) : Host.Outcome State Fault Refusal :=
  .next (s.live fun s => s.command m.id (pgLane lane) 0x14 0)

/-- SENTINEL_CELL_RX (R91). A sentinel slot is compared with the PRBS31 continuation, counting errors or declaring loss
of synchronisation. -/
def execSentinelCellRx (lane : Fin 24) (payload : BitVec 256) (s : State) : Host.Outcome State Fault Refusal :=
  .next (s.live fun s => (s.sentinelRx lane payload.toNat).settle)

/-- MARKER_RX (R103). An alignment marker aligns the lane, measures skew, and three bad markers count as loss of lock.
-/
def execMarkerRx (lane : Fin 24) (marker : BitVec 288) (skew : Nat) (s : State) : Host.Outcome State Fault Refusal :=
  .next (s.live fun s => (s.markerRx lane marker.toNat skew).settle)

/-- PRBS_LOCK (R92). The PRBS checker in TEST sees 64 consecutive bits without error, declares LOCK and starts counting.
-/
def execPrbsLock (lane : Fin 24) (s : State) : Host.Outcome State Fault Refusal :=
  .next (s.live fun s => s.prbsLock lane)

/-- PRBS_LOCK_LOSS (R92). 32 of 64 consecutive bits differ, so the checker drops LOCK, increments LOCK_LOSS, raises
PRBS_LOCK_LOSS and reseeds. -/
def execPrbsLockLoss (lane : Fin 24) (errs : Nat) (s : State) : Host.Outcome State Fault Refusal :=
  .next (s.live fun s => s.prbsLoss lane errs)

/-- INJECT_DONE (R95). The last inverted bit of an INJECT burst leaves the generator and the command ends, so a further
INJECT is no longer refused BUSY. -/
def execInjectDone (lane : Fin 24) (errs : Nat) (s : State) : Host.Outcome State Fault Refusal :=
  .next (s.live fun s => s.injectDone lane errs)

end Sys2Proof.Machine
end

