-- ==== Sys2Proof/Machine/ExecLinks.lean ====
section
/-! DEFINITION. What each command does: link transport: VIDEO, CONTROL, upward traffic and authentication (chapter 04).
-/

namespace Sys2Proof.Machine

/-- VIDEO_BURST_RX (R112). A VIDEO burst is checked, forwarded by filter and, when addressed and accepted, written to
its ingest window. -/
def execVideoBurstRx (link : Fin 6) (cells : List (BitVec 288)) (s : State) : Host.Outcome State Fault Refusal :=
  .next (s.live fun s => s.videoRx link (cells.map BitVec.toNat))

/-- INGEST_BLOCK_WRITE (R115). A block waiting in the INGEST buffer is written to DRAM when the port grants it. -/
def execIngestBlockWrite (s : State) : Host.Outcome State Fault Refusal :=
  .next (s.live fun s => s.ingestOne)

/-- CTL_READ (R118). An accepted CONTROL request with OP = 0 executes its reads and returns a response. -/
def execCtlRead (link : Fin 6) (cells : List (BitVec 288)) (s : State) : Host.Outcome State Fault Refusal :=
  .next (s.live fun s => (s.ctlRx link (cells.map BitVec.toNat)).settle)

/-- CTL_WRITE (R118). An accepted CONTROL request with OP = 1 executes its writes and returns a response. -/
def execCtlWrite (link : Fin 6) (cells : List (BitVec 288)) (s : State) : Host.Outcome State Fault Refusal :=
  .next (s.live fun s => (s.ctlRx link (cells.map BitVec.toNat)).settle)

/-- CTL_MAILBOX (R118). An accepted CONTROL request with OP = 2 places its words as one packet in REEL0. -/
def execCtlMailbox (link : Fin 6) (cells : List (BitVec 288)) (s : State) : Host.Outcome State Fault Refusal :=
  .next (s.live fun s => s.ctlRx link (cells.map BitVec.toNat))

/-- REPLAY_ENTRY_EXPIRY (R119). A replay-cache entry expires after twice CTL_WINDOW.MS. -/
def execReplayEntryExpiry (link : Fin 6) (s : State) : Host.Outcome State Fault Refusal :=
  .next (s.live fun s => s.replayExpiry link)

/-- UPWARD_MESSAGE_RX (R125). An upward message from a child enters the upward queue or is dropped when it does not fit.
-/
def execUpwardMessageRx (link : Fin 6) (cells : List (BitVec 288)) (s : State) : Host.Outcome State Fault Refusal :=
  .next (s.live fun s => s.upwardRx link (cells.map BitVec.toNat))

/-- AUTH_PROOF_RX (R127). An AUTH PROOF is verified and makes the link UP_TRUSTED or UP_UNTRUSTED. -/
def execAuthProofRx (link : Fin 6) (cell : BitVec 288) (s : State) : Host.Outcome State Fault Refusal :=
  .next (s.live fun s => (s.authRx link cell.toNat).settle)

/-- AUTH_CHALLENGE_RX (R128). An AUTH CHALLENGE supplies a fresh nonce for the next proofs. -/
def execAuthChallengeRx (link : Fin 6) (cell : BitVec 288) (s : State) : Host.Outcome State Fault Refusal :=
  .next (s.live fun s => (s.authRx link cell.toNat).settle)

/-- AUTH_TIMEOUT (R127). No valid proof within 10 ms makes the link UP_UNTRUSTED with AUTH_FAIL. -/
def execAuthTimeout (link : Fin 6) (s : State) : Host.Outcome State Fault Refusal :=
  .next (s.live fun s => (s.authTimeout link).settle)

/-- AUTH_RETRY (R127). An UP_UNTRUSTED link repeats the exchange every 1 s, starting with a CHALLENGE. -/
def execAuthRetry (link : Fin 6) (s : State) : Host.Outcome State Fault Refusal :=
  .next (s.live fun s => (s.authRetry link).settle)

/-- REVERT_HOLDOFF (R126). PREF has been usable for HOLDOFF_MS and the revert takes effect at the next boundary. -/
def execRevertHoldoff (s : State) : Host.Outcome State Fault Refusal :=
  .next (s.live fun s => s.revertHoldoff)

/-- SWITCH_UPSTREAM (R133). Command 0x10 requests cause COMMAND of R126. -/
def execSwitchUpstream (m : Master) (link : Fin 6) (s : State) : Host.Outcome State Fault Refusal :=
  .next (s.live fun s => s.command m.id (pgLink link) 0x10 0)

/-- KEY_LOAD (R129). Command 0x11 loads AUTH_KEY0 to AUTH_KEY3 as the installation key and zeroes them. -/
def execKeyLoad (m : Master) (link : Fin 6) (s : State) : Host.Outcome State Fault Refusal :=
  .next (s.live fun s => s.command m.id (pgLink link) 0x11 0)

/-- KEY_CLEAR (R133). Command 0x12 erases the installation key. -/
def execKeyClear (m : Master) (link : Fin 6) (s : State) : Host.Outcome State Fault Refusal :=
  .next (s.live fun s => s.command m.id (pgLink link) 0x12 0)

end Sys2Proof.Machine
end

