-- ==== Sys2Proof/Machine/ExecMemory.lean ====
section
/-! DEFINITION. What each command does: memory, arbitration and fault collection (chapters 11 and 12). -/

namespace Sys2Proof.Machine

/-- DRAM_TRANSFER (R329). An admitted transfer completes, and every block is checked and corrected or poisoned under
BC288. -/
def execDramTransfer (transfer : Transfer) (s : State) : Host.Outcome State Fault Refusal :=
  .next (s.live fun s => s.dramTransfer transfer)

/-- REFRESH_DUE (R335). The refresh interval elapses and an all-bank refresh stall begins. -/
def execRefreshDue (mr4 : Option Mr4) (s : State) : Host.Outcome State Fault Refusal :=
  .next (s.live fun s => s.refresh mr4)

/-- ROW_IDLE_TIMEOUT (R331). A row idle for 200 ns is closed. -/
def execRowIdleTimeout (bank : Nat) (s : State) : Host.Outcome State Fault Refusal :=
  .next (s.live fun s => s.rowIdle bank)

/-- SWITCH_SET (R339). MEM command 0x10 waits for a switch window to change the set in force. -/
def execSwitchSet (m : Master) (set : Fin 2) (s : State) : Host.Outcome State Fault Refusal :=
  .next (s.live fun s => s.command m.id pgMem 0x10 set)

/-- SWITCH_WINDOW_OPEN (R339). A switch window opens and the frequency switch runs through self-refresh to SET_SWITCHED.
-/
def execSwitchWindowOpen (s : State) : Host.Outcome State Fault Refusal :=
  .next (s.live fun s => s.switchWindow)

/-- TRAIN_SET (R340). MEM command 0x11 trains the set not in force. -/
def execTrainSet (m : Master) (set : Fin 2) (s : State) : Host.Outcome State Fault Refusal :=
  .next (s.live fun s => s.command m.id pgMem 0x11 set)

/-- TRAINING_DONE (R333). Training of a set completes or fails with TRAIN_FAIL. -/
def execTrainingDone (failed : BitVec 4) (step : BitVec 4) (s : State) : Host.Outcome State Fault Refusal :=
  .next (s.live fun s => (s.trainingDone failed.toNat step.toNat).restore)

/-- SCRUB_NOW (R341). MEM command 0x12 restarts the ordered pass at row group 0. -/
def execScrubNow (m : Master) (s : State) : Host.Outcome State Fault Refusal :=
  .next (s.live fun s => s.command m.id pgMem 0x12 0)

/-- SCRUB_VISIT (R341). SCRUB reads the next row group and writes back corrected pairs. -/
def execScrubVisit (upsets : List (Nat × Nat)) (s : State) : Host.Outcome State Fault Refusal :=
  .next (s.live fun s => s.scrubVisit upsets)

/-- SCRUB_REPAIR_VISIT (R344). SCRUB visits a row group from the repair queue. -/
def execScrubRepairVisit (upsets : List (Nat × Nat)) (s : State) : Host.Outcome State Fault Refusal :=
  .next (s.live fun s => s.scrubRepair upsets)

/-- SRAM_PATROL (R345). SCRUB reads every protected SRAM once per SRAM period. -/
def execSramPatrol (upsets : List (Nat × Nat × Nat × Bool)) (s : State) : Host.Outcome State Fault Refusal :=
  .next (s.live fun s => s.sramPatrol upsets)

/-- ARB_CFG_WRITE (R352). A write to ARB CFGi changes priority or watermark from the next decision. -/
def execArbCfgWrite (m : Master) (requester : Fin 12) (data : BitVec 32) (s : State) : Host.Outcome State Fault Refusal
    :=
  .next (s.live fun s => s.writeReg m.id pgArb (ARB.CFG.PRIO requester).off data.toNat)

/-- PORT_CYCLE (R349). In every port cycle ARB decides the next grant from the requests, URGENT states and slacks,
keeping, preempting or voiding a holder and raising STARVE. -/
def execPortCycle (requests : List PortRequest) (s : State) : Host.Outcome State Fault Refusal :=
  .next (s.live fun s => s.portStep requests)

/-- ERROR_REPORT (R373). FLT takes in a report, captures or merges it, counts it and applies the class reactions. -/
def execErrorReport (src : Fin 133) (cls : Fin 5) (typ : Fin 6) (space : Fin 4) (addr : BitVec 32) (owner : BitVec 6)
    (synd : BitVec 19) (kind : Fin 3) (count : BitVec 8) (s : State) : Host.Outcome State Fault Refusal :=
  .next (s.live fun s => s.report ⟨src, cls, typ, space, addr.toNat, owner.toNat, synd.toNat, kind, count.toNat⟩)

/-- BROKEN_WIRE (R368). An error pair reading 00 or 11 sets BROKEN and is taken as a SAFETY error. -/
def execBrokenWire (src : Fin 133) (s : State) : Host.Outcome State Fault Refusal :=
  .next (s.live fun s => s.breakWire src)

/-- BROKEN_WIRE_CLEAR (R368). An error pair that reads 01 or 10 on 3 consecutive samples clears its BROKEN bit, and the
errors held at the source can be taken again. -/
def execBrokenWireClear (src : Fin 133) (s : State) : Host.Outcome State Fault Refusal :=
  .next (s.live fun s => s.mendWire src)

/-- CAPT_ACK_WRITE (R372). A write to CAPT_ACK with the current SEQ releases the capture. -/
def execCaptAckWrite (m : Master) (seq : BitVec 16) (s : State) : Host.Outcome State Fault Refusal :=
  .next (s.live fun s => s.writeReg m.id pgFlt FLT.CAPT_ACK.SEQ.off seq.toNat)

end Sys2Proof.Machine
end

