-- ==== Sys2Proof/Machine/ExecPages.lean ====
section
/-! DEFINITION. What each command does: register accesses, commits, locks, common commands, event flags and snapshots
(chapter 02). -/

namespace Sys2Proof.Machine

/-- REGISTER_WRITE (R34). A write to a register that has no row of its own; its effect follows its access code after the
checks of R26 to R29 and R563. -/
def execRegisterWrite (m : Master) (addr : BitVec 32) (data : BitVec 32) (s : State) : Host.Outcome State Fault Refusal
    :=
  .next (s.live fun s => s.issue m.id true addr.toNat data.toNat)

/-- RC_READ (R34). A read of an RC field returns its value and clears it; an increment in the same cycle applies after
the clear. -/
def execRcRead (m : Master) (addr : BitVec 32) (s : State) : Host.Outcome State Fault Refusal :=
  .next (s.live fun s => s.issue m.id false addr.toNat 0)

/-- NOW_LO_READ (R135). A read of TIME.NOW_LO latches NOW_HI and NOW_FRAC in the same cycle. -/
def execNowLoRead (m : Master) (s : State) : Host.Outcome State Fault Refusal :=
  .next (s.live fun s => s.readReg m.id pgTime TIME.NOW_LO.NS.off)

/-- PAGE_COMMIT_GO (R36). A write of PAGE_COMMIT with GO = 1 validates the request at once and captures the shadows into
a pending set. -/
def execPageCommitGo (m : Master) (page : Fin 128) (boundary : Fin 4) (s : State) : Host.Outcome State Fault Refusal :=
  .next (s.live fun s => s.writeReg m.id page 0x02C (1 + 2 * boundary))

/-- COMMIT_GROUP (R41). A write of SYS.COMMIT_GROUP with GO = 1 and OP = 0 validates every selected page and captures
all pending sets, or refuses them all. -/
def execCommitGroup (m : Master) (boundary : Fin 4) (s : State) : Host.Outcome State Fault Refusal :=
  .next (s.live fun s => s.writeReg m.id pgSys SYS.COMMIT_GROUP.GO.off (1 + 2 * boundary))

/-- GROUP_SNAPSHOT (R59). A write of SYS.COMMIT_GROUP with GO = 1 and OP = 1 snapshots every selected page at one
instant, skipping pages that are not ON. -/
def execGroupSnapshot (m : Master) (s : State) : Host.Outcome State Fault Refusal :=
  .next (s.live fun s => s.writeReg m.id pgSys SYS.COMMIT_GROUP.GO.off 9)

/-- LOCK_LEASE (R45). A write of PAGE_LOCK with LEASE other than 0 takes a free lock or restarts the owner's lease, or
completes NOT_OWNER. -/
def execLockLease (m : Master) (page : Fin 128) (lease : BitVec 24) (s : State) : Host.Outcome State Fault Refusal :=
  .next (s.live fun s => s.writeReg m.id page 0x028 (lease.toNat * 256))

/-- LOCK_RELEASE (R45). A write of PAGE_LOCK with LEASE = 0 by the owner frees the lock without raising an event. -/
def execLockRelease (m : Master) (page : Fin 128) (s : State) : Host.Outcome State Fault Refusal :=
  .next (s.live fun s => s.writeReg m.id page 0x028 0)

/-- LOCK_BREAK (R46). A write of PAGE_LOCK with BREAK = 1 by MGT or BENCH breaks the lock and reloads the shadows. -/
def execLockBreak (m : Master) (page : Fin 128) (s : State) : Host.Outcome State Fault Refusal :=
  .next (s.live fun s => s.writeReg m.id page 0x028 0x80)

/-- LEASE_EXPIRY (R46). A lock's lease runs out; the shadows reload from the values in effect, the lock is freed and
LOCK_BROKEN is raised. -/
def execLeaseExpiry (page : Fin 128) (s : State) : Host.Outcome State Fault Refusal :=
  .next (s.live fun s => s.leaseExpiry page)

/-- NONE (R48). Common command 0x00 has no effect and completes DONE. -/
def execCmdNone (m : Master) (page : Fin 128) (s : State) : Host.Outcome State Fault Refusal :=
  .next (s.live fun s => s.command m.id page 0x00 0)

/-- DISCARD_SHADOW (R48). Common command 0x01 reloads every shadow from the value in effect and clears DIRTY. -/
def execDiscardShadow (m : Master) (page : Fin 128) (s : State) : Host.Outcome State Fault Refusal :=
  .next (s.live fun s => s.command m.id page 0x01 0)

/-- CLEAR_COUNTERS (R564). Common command 0x02 sets every counter of the page, and every snapshot copy, to 0 in one
cycle. -/
def execClearCounters (m : Master) (page : Fin 128) (s : State) : Host.Outcome State Fault Refusal :=
  .next (s.live fun s => s.command m.id page 0x02 0)

/-- EVT_CLEAR (R52). A W1C write to PAGE_EVT clears flags, and a set in the same cycle wins. -/
def execEvtClear (m : Master) (page : Fin 128) (bits : BitVec 32) (s : State) : Host.Outcome State Fault Refusal :=
  .next (s.live fun s => s.writeReg m.id page 0x010 bits.toNat)

/-- EVT_FORCE (R54). A write to PAGE_EVT_FORCE sets the implemented flags as a hardware set would, including the miss
count. -/
def execEvtForce (m : Master) (page : Fin 128) (bits : BitVec 32) (s : State) : Host.Outcome State Fault Refusal :=
  .next (s.live fun s => s.writeReg m.id page 0x018 bits.toNat)

/-- EVT_ENABLE_WRITE (R53). A write to PAGE_EVT_EN changes which flags take part in the interrupt summary. -/
def execEvtEnableWrite (m : Master) (page : Fin 128) (bits : BitVec 32) (s : State) : Host.Outcome State Fault Refusal
    :=
  .next (s.live fun s => s.writeReg m.id page 0x014 bits.toNat)

/-- SNAPSHOT_TAKE (R58). A write of PAGE_SNAP with TAKE = 1 starts a copy of every snapshot counter of the page. -/
def execSnapshotTake (m : Master) (page : Fin 128) (s : State) : Host.Outcome State Fault Refusal :=
  .next (s.live fun s => s.writeReg m.id page 0x038 1)

/-- SNAPSHOT_DONE (R57). The snapshot copy completes within 2 µs, BUSY clears and SEQ increments. -/
def execSnapshotDone (page : Fin 128) (s : State) : Host.Outcome State Fault Refusal :=
  .next (s.live fun s => s.snapshotDone page)

end Sys2Proof.Machine
end

