-- ==== Sys2Proof/Machine/ExecPair.lean ====
section
/-! DEFINITION. What each command does: pairs of devices (chapter 16). -/

namespace Sys2Proof.Machine

/-- MIRROR_HEARTBEAT_RX (R491). A HEARTBEAT from the partner updates its state, epoch and readiness checks. -/
def execMirrorHeartbeatRx (mgen : BitVec 32) (slot : Fin 4) (state : Fin 8) (ready : Bool) (inhibit : Bool) (groups :
    BitVec 12) (epoch : BitVec 16) (frame : BitVec 16) (primary : Bool) (s : State) : Host.Outcome State Fault Refusal :=
  .next (s.live fun s => (s.mirrorRx mgen.toNat (fun s => s.heartbeatRx ⟨slot, state, ready, inhibit, groups.toNat,
    epoch.toNat, frame.toNat, primary⟩)).settle)

/-- MIRROR_COMMIT_RX (R485). A mirrored COMMIT is validated on the partner with PAIR as requester. -/
def execMirrorCommitRx (mgen : BitVec 32) (page : Fin 128) (gen : BitVec 16) (boundary : Fin 4) (group : Bool) (entries
    : List (BitVec 12 × BitVec 32)) (s : State) : Host.Outcome State Fault Refusal :=
  .next (s.live fun s => (s.mirrorRx mgen.toNat (fun s => s.mirrorCommitRx page ⟨gen.toNat, boundary, group,
    entries.map (fun e => (e.1.toNat, e.2.toNat)), none⟩)).settle)

/-- MIRROR_OUTCOME_RX (R486). An OUTCOME makes the partner apply, defer or abandon its pending commit. -/
def execMirrorOutcomeRx (mgen : BitVec 32) (page : Fin 128) (state : Fin 8) (s : State) : Host.Outcome State Fault
    Refusal :=
  .next (s.live fun s => (s.mirrorRx mgen.toNat (fun s => s.outcomeRx page state)).settle)

/-- OUTCOME_WAIT_EXPIRY (R486). No OUTCOME by 8 µs after the boundary abandons the commit and clears READY. -/
def execOutcomeWaitExpiry (page : Fin 128) (s : State) : Host.Outcome State Fault Refusal :=
  .next (s.live fun s => (s.outcomeExpiry page).settle)

/-- MIRROR_BLOCK_RX (R487). A mirrored BLOCK is written through requester 10. -/
def execMirrorBlockRx (mgen : BitVec 32) (block : BitVec 27) (tag : BitVec 8) (poison : Bool) (data : BitVec 256) (s :
    State) : Host.Outcome State Fault Refusal :=
  .next (s.live fun s => (s.mirrorRx mgen.toNat (fun s => s.mirrorBlockRx block.toNat tag.toNat poison
    data.toNat)).settle)

/-- MIRROR_REBUILD_RX (R488). A REBUILD message applies the effective buffer and ceilings at its boundary. -/
def execMirrorRebuildRx (mgen : BitVec 32) (buffer : Fin 2) (gen : BitVec 16) (ceilings : Vector (BitVec 16) 16) (frame
    : BitVec 16) (s : State) : Host.Outcome State Fault Refusal :=
  .next (s.live fun s => (s.mirrorRx mgen.toNat (fun s => s.mirrorRebuildRx buffer gen.toNat (ceilings.toList.map
    BitVec.toNat) frame.toNat)).settle)

/-- MIRROR_LIST_RX (R488). A LIST message changes the fault list at its boundary. -/
def execMirrorListRx (mgen : BitVec 32) (emitter : BitVec 23) (short : Bool) (remove : Bool) (frame : BitVec 16) (s :
    State) : Host.Outcome State Fault Refusal :=
  .next (s.live fun s => (s.mirrorRx mgen.toNat (fun s => s.mirrorListRx emitter.toNat short remove
    frame.toNat)).settle)

/-- MIRROR_COMMAND_RX (R488). A COMMAND message makes the partner's PAIR issue the same command. -/
def execMirrorCommandRx (mgen : BitVec 32) (page : Fin 128) (opcode : BitVec 8) (arg : BitVec 24) (s : State) :
    Host.Outcome State Fault Refusal :=
  .next (s.live fun s => (s.mirrorRx mgen.toNat (fun s => s.mirrorCommandRx page opcode.toNat arg.toNat)).settle)

/-- MIRROR_SPLIT_RX (R500). A SPLIT message makes a ready SHADOW device claim or release a range. -/
def execMirrorSplitRx (mgen : BitVec 32) (tile : Fin 16) (lo : BitVec 8) (hi : BitVec 8) (join : Bool) (s : State) :
    Host.Outcome State Fault Refusal :=
  .next (s.live fun s => (s.mirrorRx mgen.toNat (fun s => s.splitRx tile lo.toNat hi.toNat join)).settle)

/-- MIRROR_YIELD_RX (R494). A YIELD from the ACTIVE device is a takeover cause for a ready SHADOW device. -/
def execMirrorYieldRx (mgen : BitVec 32) (cause : Fin 8) (s : State) : Host.Outcome State Fault Refusal :=
  .next (s.live fun s => (s.mirrorRx mgen.toNat (fun s => s.yieldRx cause)).settle)

/-- MIRROR_TAKEN_RX (R499). TAKEN makes the ACTIVE device enter DEMOTED. -/
def execMirrorTakenRx (mgen : BitVec 32) (s : State) : Host.Outcome State Fault Refusal :=
  .next (s.live fun s => (s.mirrorRx mgen.toNat (fun s => s.takenRx)).settle)

/-- MIRROR_RESYNC_RX (R503). A RESYNC message starts or ends a resynchronisation on the partner. -/
def execMirrorResyncRx (mgen : BitVec 32) (ends : Bool) (s : State) : Host.Outcome State Fault Refusal :=
  .next (s.live fun s => (s.mirrorRx mgen.toNat (fun s => s.resyncRx ends)).settle)

/-- MIRROR_DIAGRESP_RX (R501). A DIAGRESP message is applied as if the ACTIVE port had received it. -/
def execMirrorDiagrespRx (mgen : BitVec 32) (tile : Fin 16) (sink : Fin 128) (frame : BitVec 16) (words : Vector (BitVec
    64) 13) (s : State) : Host.Outcome State Fault Refusal :=
  .next (s.live fun s => (s.mirrorRx mgen.toNat (fun s => s.diagRespRx tile sink frame.toNat (words.toList.map
    BitVec.toNat))).settle)

/-- HEARTBEAT_MISS (R492). A HEARTBEAT not arrived 20 µs after a slot boundary counts as missed. -/
def execHeartbeatMiss (s : State) : Host.Outcome State Fault Refusal :=
  .next (s.live fun s => s.heartbeatMiss.settle)

/-- TAKEOVER (R496). At slot boundary S the new ACTIVE device drives DSYNC, claims every ring and sends TAKEN. -/
def execTakeover (slot : Fin 4) (s : State) : Host.Outcome State Fault Refusal :=
  .next (s.live fun s => (s.takeover slot).settle)

/-- TAIL_PACKET_RX (R490). A TAIL port in SHADOW checks each packet from the ACTIVE device. -/
def execTailPacketRx (tile : Fin 16) (targets : BitVec 128) (packet : Packet) (s : State) : Host.Outcome State Fault
    Refusal :=
  .next (s.live fun s => (s.tailPacket tile targets.toNat packet).settle)

/-- PAIR_LEASE_RENEW (R483). PAIR renews its locks on the mirrored pages before expiry. -/
def execPairLeaseRenew (s : State) : Host.Outcome State Fault Refusal :=
  .next (s.live fun s => s.leaseRenew)

/-- RESYNC (R502). PAIR command 0x11 starts a resynchronisation of the partner. -/
def execResync (m : Master) (s : State) : Host.Outcome State Fault Refusal :=
  .next (s.live fun s => (s.command m.id pgPair 0x11 0).settle)

/-- RESYNC_COPY_DONE (R502). Every block of the mirrored ranges is copied and RESYNC with END = 1 is sent. -/
def execResyncCopyDone (s : State) : Host.Outcome State Fault Refusal :=
  .next (s.live fun s => s.resyncCopyDone.settle)

/-- SWITCHOVER (R507). PAIR command 0x10 yields the rings to the partner at a slot boundary. -/
def execSwitchover (m : Master) (s : State) : Host.Outcome State Fault Refusal :=
  .next (s.live fun s => (s.command m.id pgPair 0x10 0).settle)

end Sys2Proof.Machine
end

