-- ==== Sys2Proof/Machine/ExecPower.lean ====
section
/-! DEFINITION. What each command does: power domains, temperature and self-calibration (chapters 14 and 15). -/

namespace Sys2Proof.Machine

/-- A conversion of the MADC; that of the hold-up voltage lets a waiting flash operation be tried (R462, R515). -/
def State.madcPosted (s : State) (c raw : Nat) : State :=
  let s := s.madcConversion c raw
  if c = 3 && s.fw.waitSince.isSome then s.flashIssue else s

/-- DOMAIN_REQ_ON (R436). A PWR.REQ write with STATE ON requests an exit, held, queued, or aborting an entry. -/
def execDomainReqOn (m : Master) (domain : BitVec 5) (s : State) : Host.Outcome State Fault Refusal :=
  .next (s.live fun s => s.writeReg m.id pgPwr PWR.REQ.DOMAIN.off domain.toNat)

/-- DOMAIN_REQ_RET (R435). A PWR.REQ write with STATE RET requests an entry to retention after the checks of R435. -/
def execDomainReqRet (m : Master) (domain : BitVec 5) (s : State) : Host.Outcome State Fault Refusal :=
  .next (s.live fun s => s.writeReg m.id pgPwr PWR.REQ.DOMAIN.off (domain.toNat + 32))

/-- DOMAIN_REQ_OFF (R435). A PWR.REQ write with STATE OFF requests an entry to OFF after the checks of R435. -/
def execDomainReqOff (m : Master) (domain : BitVec 5) (s : State) : Host.Outcome State Fault Refusal :=
  .next (s.live fun s => s.writeReg m.id pgPwr PWR.REQ.DOMAIN.off (domain.toNat + 64))

/-- DOMAIN_REQ_ILLEGAL (R434). A PWR.REQ write with STATE 3 or an illegal domain is refused with ILLEGAL. -/
def execDomainReqIllegal (m : Master) (domain : BitVec 5) (target : Fin 4) (s : State) : Host.Outcome State Fault
    Refusal :=
  .next (s.live fun s => s.writeReg m.id pgPwr PWR.REQ.DOMAIN.off (domain.toNat + 32 * target))

/-- ENTRY_ABANDON (R441). An entry reaching an abort point with a wake or ON pending is undone and the domain is ON
again. -/
def execEntryAbandon (domain : Fin 19) (s : State) : Host.Outcome State Fault Refusal :=
  .next (s.live fun s => (s.entryAbandon domain).resume)

/-- DOMAIN_ENTRY_DONE (R438). The rail is discharged, STATE reads RET or OFF and DOM_CHANGED is raised. -/
def execDomainEntryDone (domain : Fin 19) (s : State) : Host.Outcome State Fault Refusal :=
  .next (s.live fun s => (s.entryDone domain).resume)

/-- DOMAIN_EXIT_DONE (R439). Reset is released, STATE reads ON, held accesses complete and queued requests run. -/
def execDomainExitDone (domain : Fin 19) (s : State) : Host.Outcome State Fault Refusal :=
  .next (s.live fun s => (s.exitDone domain).resume)

/-- SIGNAL_DETECT (R443). A partner transmission of 2 µs wakes a link in RET. -/
def execSignalDetect (link : Fin 6) (s : State) : Host.Outcome State Fault Refusal :=
  .next (s.live fun s => s.signalDetect link)

/-- WAKE_TIMER (R443). TIME.NOW_NS reaches WAKE_AT and the domains in WAKE_MASK are woken. -/
def execWakeTimer (s : State) : Host.Outcome State Fault Refusal :=
  .next (s.live fun s => s.wakeTimer)

/-- LP_ENTER (R444). 10 µs after the last domain leaves ON the AON regulator enters low-power mode. -/
def execLpEnter (s : State) : Host.Outcome State Fault Refusal :=
  .next (s.live fun s => s.lpEnter)

/-- BROWNOUT (R446). The AON rail falls below threshold, retained domains are marked OFF and LOST, and DROP is reported.
-/
def execBrownout (s : State) : Host.Outcome State Fault Refusal :=
  .next (s.live fun s => s.brownout.resume)

/-- THM_DEMAND (R448). A write to THM.DEMAND requests conversion of sensors and an MR4 read. -/
def execThmDemand (m : Master) (sensors : BitVec 12) (mr4 : Bool) (s : State) : Host.Outcome State Fault Refusal :=
  .next (s.live fun s => s.writeReg m.id pgThm THM.DEMAND.MR4.off (sensors.toNat + 4096 * b2n mr4))

/-- GUARD_DEMAND (R448). Every GUARD_MS while any domain is ON, PWR demands every enabled sensor. -/
def execGuardDemand (s : State) : Host.Outcome State Fault Refusal :=
  .next (s.live fun s => s.guardDemand)

/-- THM_CONVERSION_DONE (R449). A conversion completes, readings are judged against levels and rates, and compensation
is updated. -/
def execThmConversionDone (values : List (BitVec 16)) (biasBad : BitVec 12) (s : State) : Host.Outcome State Fault
    Refusal :=
  .next (s.live fun s => s.conversionDone (values.map BitVec.toNat) biasBad.toNat)

/-- SCAL_CHECK (R464). Every CHECK_MS SCAL demands the sensors of all enabled units. -/
def execScalCheck (s : State) : Host.Outcome State Fault Refusal :=
  .next (s.live fun s => s.scalCheck)

/-- RUN (R474). SCAL command 0x10 sets the pending bits of the named units. -/
def execScalRun (m : Master) (units : BitVec 21) (s : State) : Host.Outcome State Fault Refusal :=
  .next (s.live fun s => s.command m.id pgScal 0x10 units.toNat)

/-- SCAL_RUN_START (R465). The lowest pending unit starts a run and records its temperature. -/
def execScalRunStart (s : State) : Host.Outcome State Fault Refusal :=
  .next (s.live fun s => s.scalRunStart)

/-- SCAL_MEMBER_DONE (R465). A member or spare finishes its calibration and a handover follows at an idle point. -/
def execScalMemberDone (hits : List Nat) (reaches : Bool) (raw2 : Nat) (rawRef : Nat) (s : State) : Host.Outcome State
    Fault Refusal :=
  .next (s.live fun s => s.scalMemberDone hits reaches raw2 rawRef)

/-- SCAL_RUN_DONE (R465). A run ends with RUN_DONE or RUN_FAIL. -/
def execScalRunDone (s : State) : Host.Outcome State Fault Refusal :=
  .next (s.live fun s => s.scalRunDone)

/-- MADC_CONVERSION (R462). The MADC converts a channel and posts its corrected result. -/
def execMadcConversion (channel : Fin 12) (raw : BitVec 16) (s : State) : Host.Outcome State Fault Refusal :=
  .next (s.live fun s => s.madcPosted channel raw.toNat)

/-- REFIN_GATE (R468). A 100 ms gate of REFIN against REFCLK ends and updates REFIN validity. -/
def execRefinGate (offset : Int) (s : State) : Host.Outcome State Fault Refusal :=
  .next (s.live fun s => s.refinGate offset)

/-- REFIN_LOSS (R468). No REFIN edge for 1 µs makes REFIN invalid. -/
def execRefinLoss (s : State) : Host.Outcome State Fault Refusal :=
  .next (s.live fun s => s.refinLoss)

/-- OSC_COUNT_DONE (R463). A 10 ms oscillator count ends and sets the trim and coefficient. -/
def execOscCountDone (ends : BitVec 19) (s : State) : Host.Outcome State Fault Refusal :=
  .next (s.live fun s => s.oscCountDone ends.toNat)

end Sys2Proof.Machine
end

