-- ==== Sys2Proof/Machine/ExecQueues.lean ====
section
/-! DEFINITION. What each command does: check-value channels and reels (chapter 12). -/

namespace Sys2Proof.Machine

/-- CHK_DATA_BYTE (R377). A write to CHK DATA_B feeds one byte, held while the channel is busy. -/
def execChkDataByte (m : Master) (chan : Fin 8) (data : BitVec 8) (s : State) : Host.Outcome State Fault Refusal :=
  .next (s.live fun s => s.writeReg m.id (pgChk chan) CHK.DATA_B.BYTE.off data.toNat)

/-- CHK_DATA_HALF (R377). A write to CHK DATA_H feeds two bytes, held while the channel is busy. -/
def execChkDataHalf (m : Master) (chan : Fin 8) (data : BitVec 16) (s : State) : Host.Outcome State Fault Refusal :=
  .next (s.live fun s => s.writeReg m.id (pgChk chan) CHK.DATA_H.HALF.off data.toNat)

/-- CHK_DATA_WORD (R377). A write to CHK DATA_W feeds four bytes, held while the channel is busy. -/
def execChkDataWord (m : Master) (chan : Fin 8) (data : BitVec 32) (s : State) : Host.Outcome State Fault Refusal :=
  .next (s.live fun s => s.writeReg m.id (pgChk chan) CHK.DATA_W.WORD.off data.toNat)

/-- CHK_SEAL (R378). CHK command 0x10 posts RAW and RESULT, compares with EXPECT and advances ALIVE. -/
def execChkSeal (m : Master) (chan : Fin 8) (s : State) : Host.Outcome State Fault Refusal :=
  .next (s.live fun s => s.command m.id (pgChk chan) 0x10 0)

/-- RESTART (R378). CHK command 0x11 reloads the register from SEED and discards the bytes fed. -/
def execChkRestart (m : Master) (chan : Fin 8) (s : State) : Host.Outcome State Fault Refusal :=
  .next (s.live fun s => s.command m.id (pgChk chan) 0x11 0)

/-- REEL_WR_DATA (R381). A write to REEL WR_DATA adds a word to the open packet, held when the reel is full. -/
def execReelWrData (m : Master) (reel : Fin 16) (data : BitVec 32) (s : State) : Host.Outcome State Fault Refusal :=
  .next (s.live fun s => s.writeReg m.id (pgReel reel) REEL.WR_DATA.WORD.off data.toNat)

/-- REEL_WRITE_RESUME (R381). A held producer write completes when a release frees space. -/
def execReelWriteResume (reel : Fin 16) (s : State) : Host.Outcome State Fault Refusal :=
  .next (s.live fun s => s.reelResume reel)

/-- END (R380). WR_CTL END commits the open packet so the consumer sees it in the next cycle. -/
def execReelEnd (m : Master) (reel : Fin 16) (s : State) : Host.Outcome State Fault Refusal :=
  .next (s.live fun s => s.writeReg m.id (pgReel reel) REEL.WR_CTL.END.off 1)

/-- ABORT (R380). WR_CTL ABORT rewinds the open packet. -/
def execReelAbort (m : Master) (reel : Fin 16) (s : State) : Host.Outcome State Fault Refusal :=
  .next (s.live fun s => s.writeReg m.id (pgReel reel) REEL.WR_CTL.END.off 2)

/-- REEL_RD_DATA (R382). A read of REEL RD_DATA returns the head's next word and advances the position. -/
def execReelRdData (m : Master) (reel : Fin 16) (s : State) : Host.Outcome State Fault Refusal :=
  .next (s.live fun s => s.readReg m.id (pgReel reel) REEL.RD_DATA.WORD.off)

/-- MARK (R382). RD_CTL MARK records the read position in the head. -/
def execReelMark (m : Master) (reel : Fin 16) (s : State) : Host.Outcome State Fault Refusal :=
  .next (s.live fun s => s.writeReg m.id (pgReel reel) REEL.RD_CTL.MARK.off 1)

/-- REWIND (R382). RD_CTL REWIND returns the read position to the mark or to word 0. -/
def execReelRewind (m : Master) (reel : Fin 16) (s : State) : Host.Outcome State Fault Refusal :=
  .next (s.live fun s => s.writeReg m.id (pgReel reel) REEL.RD_CTL.MARK.off 2)

/-- RELEASE (R382). RD_CTL RELEASE frees the head and makes the next packet the head. -/
def execReelRelease (m : Master) (reel : Fin 16) (s : State) : Host.Outcome State Fault Refusal :=
  .next (s.live fun s => s.writeReg m.id (pgReel reel) REEL.RD_CTL.MARK.off 4)

/-- FLUSH (R392). REEL command 0x10 empties the reel without a report. -/
def execReelFlush (m : Master) (reel : Fin 16) (s : State) : Host.Outcome State Fault Refusal :=
  .next (s.live fun s => s.command m.id (pgReel reel) 0x10 0)

/-- PTR_RESET (R385). A mismatch of duplicated reel pointers resets the reel and reports DROP. -/
def execPtrReset (reel : Fin 16) (s : State) : Host.Outcome State Fault Refusal :=
  .next (s.live fun s => s.reelFault reel)

end Sys2Proof.Machine
end

