-- ==== Sys2Proof/Machine/ExecRaster.lean ====
section
/-! DEFINITION. What each command does: boundaries, blanking and the raster of a frame (chapters 01, 05 and 06). -/

namespace Sys2Proof.Machine

/-- FRAME_BOUNDARY (R146). A frame boundary B(k) arrives and reaches every island. -/
def execFrameBoundary (produced : Nat) (missed : List Nat) (s : State) : Host.Outcome State Fault Refusal :=
  .next (s.live fun s => s.frameBoundary produced missed)

/-- SLOT_BOUNDARY (R146). The start of a slot of a take below T arrives. -/
def execSlotBoundary (slot : Fin 4) (s : State) : Host.Outcome State Fault Refusal :=
  .next (s.live fun s => s.slotBoundary slot)

/-- BLANKING_START (R151). Blanking of a frame begins; FRAMESET and slot maps are sent and FRAME_LATE is raised when
FRAME_DONE has not occurred. -/
def execBlankingStart (s : State) : Host.Outcome State Fault Refusal :=
  .next (s.live fun s => s.blankingStart)

/-- CUE (R151). Both engines that own CUE_ROW have written the codes of all takes for that row. -/
def execCue (s : State) : Host.Outcome State Fault Refusal :=
  .next (s.live fun s => s.cue)

/-- PE_TILE_DONE (R159). A pixel engine finishes a tile's codes and posts its signature, its matte read signature and
its end-of-frame mark. -/
def execPeTileDone (tile : Fin 16) (late : List Nat) (s : State) : Host.Outcome State Fault Refusal :=
  .next (s.live fun s => s.peTileDone tile late)

/-- TILE_SIGNATURE_DEADLINE (R159). A tile with no signature by 0.92 × P after the boundary has frozen, and FREEZE is
reported as FATAL. -/
def execTileSignatureDeadline (tile : Fin 16) (s : State) : Host.Outcome State Fault Refusal :=
  .next (s.live fun s => s.signatureDeadline tile)

end Sys2Proof.Machine
end

