-- ==== Sys2Proof/Machine/ExecReset.lean ====
section
/-! DEFINITION. What each command does: resets, boot and the bench port (chapters 18 and 19). -/

namespace Sys2Proof.Machine

/-- A bench access: the port serves from loader step 2 onward (R543, R544). -/
def State.bench (s : State) (write : Bool) (addr data : Nat) : State :=
  if s.benchServes then s.issue 8 write addr (if write then data else 0) else s

/-- POWER_ON_RESET (R533). The AON supply rises through its threshold and every register, memory and domain is cleared.
-/
def execPowerOnReset (straps : BitVec 3) (s : State) : Host.Outcome State Fault Refusal :=
  .next (s.powerOnReset straps.toNat)

/-- NRESET (R533). nRESET low for 1 µs causes a device reset and the loader runs on its release. -/
def execNreset (straps : BitVec 3) (s : State) : Host.Outcome State Fault Refusal :=
  .next (s.live fun s => s.nreset straps.toNat)

/-- DEVICE_RESET (R547). SYS command 0x10 starts a device reset within 2 µs. -/
def execDeviceReset (m : Master) (s : State) : Host.Outcome State Fault Refusal :=
  .next (s.live fun s => s.command m.id pgSys 0x10 0)

/-- MGT_RESTART (R536). SYS command 0x11 restarts MGT, breaking its locks and reloading its image. -/
def execMgtRestart (m : Master) (s : State) : Host.Outcome State Fault Refusal :=
  .next (s.live fun s => s.command m.id pgSys 0x11 0)

/-- MGT_HALT (R366). A poisoned MGT instruction fetch halts MGT and restarts it when MGT_AUTO = 1. -/
def execMgtHalt (addr : BitVec 32) (s : State) : Host.Outcome State Fault Refusal :=
  .next (s.live fun s => s.mgtHalt addr.toNat)

/-- LOADER_STEP_DONE (R539). A loader step completes: straps, directory, an image loaded and checked, or processors
started. -/
def execLoaderStepDone (s : State) : Host.Outcome State Fault Refusal :=
  .next (s.live fun s => s.loaderStep)

/-- BENCH_ACCESS (R544). A bench SPI frame performs one register read or write as master 0x08. -/
def execBenchAccess (write : Bool) (addr : BitVec 32) (data : BitVec 32) (s : State) : Host.Outcome State Fault Refusal
    :=
  .next (s.live fun s => s.bench write addr.toNat data.toNat)

/-- BENCH_DATA_WRITE (R545). A write to SYS.BENCH_DATA stores the next image word for the target processor. -/
def execBenchDataWrite (data : BitVec 32) (s : State) : Host.Outcome State Fault Refusal :=
  .next (s.live fun s => s.bench true (0x02000000 + addrOf pgSys SYS.BENCH_DATA.WORD.off) data.toNat)

/-- BENCH_START (R545). BENCH_CTL START checks and starts a bench-loaded image, or releases both processors in HOLD. -/
def execBenchStart (target : Fin 4) (s : State) : Host.Outcome State Fault Refusal :=
  .next (s.live fun s => s.bench true (0x02000000 + addrOf pgSys SYS.BENCH_CTL.START.off) (target + 4))

/-- POWER_DOWN (R554). Board supplies are removed or fall out of range; below 1.5 V on VDD18 both switches of every
SAFE_OUT open, and DSYNC outputs go to high impedance. -/
def execPowerDown (s : State) : Host.Outcome State Fault Refusal :=
  .next (s.powerDown)

end Sys2Proof.Machine
end

