-- ==== Sys2Proof/Machine/ExecRings.lean ====
section
/-! DEFINITION. What each command does: dudun rings and tile supplies (chapter 09). -/

namespace Sys2Proof.Machine

/-- A response timeout of a port: that of a DIAG_REQ is the visit's own (R281, R305). -/
def State.portTimeout (s : State) (t type : Nat) : State :=
  if type = 0x05 then s.diagTimeout t else s.responseTimeout t type

/-- TALLY_RESP_RX (R281). A TALLY_RESP reports a sink's groups, temperature and headroom, and completes or continues the
frame. -/
def execTallyRespRx (tile : Fin 16) (packet : Packet) (s : State) : Host.Outcome State Fault Refusal :=
  .next (s.live fun s => s.tallyRx tile packet)

/-- ACK_RX (R284). An ACK from a sink sets its RESULT bit and may complete a multi-sink command. -/
def execAckRx (tile : Fin 16) (packet : Packet) (s : State) : Host.Outcome State Fault Refusal :=
  .next (s.live fun s => s.ackRx tile packet)

/-- QUERY_RESP_RX (R277). A QUERY_RESP supplies sink identity, capability, ownership and epoch. -/
def execQueryRespRx (tile : Fin 16) (packet : Packet) (s : State) : Host.Outcome State Fault Refusal :=
  .next (s.live fun s => s.queryRx tile packet)

/-- DIAG_RESP_RX (R307). A DIAG_RESP is classified per entry and each result updates its emitter record. -/
def execDiagRespRx (tile : Fin 16) (packet : Packet) (s : State) : Host.Outcome State Fault Refusal :=
  .next (s.live fun s => s.diagRx tile packet)

/-- EVENT_RX (R379). An EVENT packet from a sink is passed to REEL2. -/
def execEventRx (tile : Fin 16) (packet : Packet) (s : State) : Host.Outcome State Fault Refusal :=
  .next (s.live fun s => s.eventRx tile packet)

/-- ENUM_LOOPED_RX (R277). The looped ENUM returns and its NEXT_ADDR is checked against S. -/
def execEnumLoopedRx (tile : Fin 16) (packet : Packet) (s : State) : Host.Outcome State Fault Refusal :=
  .next (s.live fun s => s.enumLooped tile packet)

/-- RESPONSE_TIMEOUT (R281). The response timeout expires; missing packets are resent once or the command is retried by
mask. -/
def execResponseTimeout (tile : Fin 16) (type : BitVec 8) (s : State) : Host.Outcome State Fault Refusal :=
  .next (s.live fun s => s.portTimeout tile type.toNat)

/-- DELIVERY_DONE (R280). The last DRIVE packet of the frame is sent and TALLY goes to every live sink. -/
def execDeliveryDone (tile : Fin 16) (s : State) : Host.Outcome State Fault Refusal :=
  .next (s.live fun s => s.deliveryDone tile)

/-- ENUMERATE (R277). DUD command 0x10 queries, addresses and configures the ring's sinks. -/
def execEnumerate (m : Master) (tile : Fin 16) (s : State) : Host.Outcome State Fault Refusal :=
  .next (s.live fun s => s.command m.id (pgDud tile) 0x10 0)

/-- CLAIM (R287). DUD command 0x11 queries and claims a range of sinks at a new epoch. -/
def execDudClaim (m : Master) (tile : Fin 16) (lo : BitVec 8) (hi : BitVec 8) (s : State) : Host.Outcome State Fault
    Refusal :=
  .next (s.live fun s => s.command m.id (pgDud tile) 0x11 (lo.toNat + 256 * hi.toNat))

/-- QUERY (R296). DUD command 0x12 broadcasts QUERY and refreshes CAPS, RTT and epochs. -/
def execDudQuery (m : Master) (tile : Fin 16) (s : State) : Host.Outcome State Fault Refusal :=
  .next (s.live fun s => s.command m.id (pgDud tile) 0x12 0)

/-- SEND_CONFIG (R296). DUD command 0x13 sends a CONFIG of the SC entries to the sinks in SC_MASK. -/
def execSendConfig (m : Master) (tile : Fin 16) (count : BitVec 4) (s : State) : Host.Outcome State Fault Refusal :=
  .next (s.live fun s => s.command m.id (pgDud tile) 0x13 count.toNat)

/-- READMIT (R288). DUD command 0x14 attempts readmission of lost sinks at once. -/
def execReadmit (m : Master) (tile : Fin 16) (s : State) : Host.Outcome State Fault Refusal :=
  .next (s.live fun s => s.command m.id (pgDud tile) 0x14 0)

/-- AUTO_READMIT (R288). Every 1 s the port queries each lost sink and readmits those that match. -/
def execAutoReadmit (tile : Fin 16) (s : State) : Host.Outcome State Fault Refusal :=
  .next (s.live fun s => s.autoReadmit tile)

/-- HB_FORCE_WRITE (R265). A write of DUD HB.FORCE drives or releases the hard blank. -/
def execHbForceWrite (m : Master) (tile : Fin 16) (force : Bool) (s : State) : Host.Outcome State Fault Refusal :=
  .next (s.live fun s => s.writeReg m.id (pgDud tile) DUD.HB.FORCE.off (b2n force))

/-- IDLE_FRAMESET (R493). A HEAD port with nothing to send for 100 µs sends a FRAMESET. -/
def execIdleFrameset (tile : Fin 16) (s : State) : Host.Outcome State Fault Refusal :=
  .next (s.live fun s => s.idleFrameset tile)

/-- HEADROOM_STEP (R292). Every STEP_MS the gaffer moves each enabled rail's target toward the headroom margin. -/
def execHeadroomStep (s : State) : Host.Outcome State Fault Refusal :=
  .next (s.live fun s => s.headroomStep)

/-- RAIL_POLL (R291). Every POLL_MS the gaffer reads READ_VOUT and READ_IOUT, and every 1 s STATUS_WORD. -/
def execRailPoll (s : State) : Host.Outcome State Fault Refusal :=
  .next (s.live fun s => s.railPoll)

/-- PMB_ALERT (R291). A low PMB ALERT is answered by the Alert Response Address and STATUS_WORD read. -/
def execPmbAlert (segment : Fin 4) (low : Bool) (s : State) : Host.Outcome State Fault Refusal :=
  .next (s.live fun s => s.pmbAlert segment low)

/-- PMBUS_TRANSACTION_DONE (R293). A PMBus transaction ends, and a failure schedules a retry or sets RAIL FAULT. -/
def execPmbusTransactionDone (segment : Fin 4) (result : Fin 4) (data : BitVec 16) (s : State) : Host.Outcome State
    Fault Refusal :=
  .next (s.live fun s => s.pmbusDone segment result data.toNat)

/-- PMBUS_RETRY (R293). A failed transaction is retried once after 1 ms. -/
def execPmbusRetry (segment : Fin 4) (s : State) : Host.Outcome State Fault Refusal :=
  .next (s.live fun s => s.pmbusRetry segment)

/-- READ_STATUS (R299). GAF command 0x10 reads STATUS_WORD of every enabled rail. -/
def execReadStatus (m : Master) (s : State) : Host.Outcome State Fault Refusal :=
  .next (s.live fun s => s.command m.id pgGaf 0x10 0)

/-- RING_LOCK_LOSS (R286). A Dudun port receiver loses block lock, at 16 invalid sync headers in 64; on a TAIL port this
is reported to PAIR. -/
def execRingLockLoss (tile : Fin 16) (s : State) : Host.Outcome State Fault Refusal :=
  .next (s.live fun s => s.ringLockLoss tile)

end Sys2Proof.Machine
end

