-- ==== Sys2Proof/Machine/ExecSafety.lean ====
section
/-! DEFINITION. What each command does: safety functions (chapter 13). -/

namespace Sys2Proof.Machine

/-- A SAFETY cell; an accepted frame with a message commands the overlay (R402, R403). -/
def State.safetyFrame (s : State) (n word : Nat) : State :=
  match s.safetyRx n word with
  | (some v, s) => s.message v
  | (none, s) => s

/-- SAFE_IN_CHANGE (R400). A SAFE_IN pin changes level and starts or stops its filter and discrepancy timing. -/
def execSafeInChange (input : Fin 4) (pinB : Bool) (high : Bool) (s : State) : Host.Outcome State Fault Refusal :=
  .next (s.live fun s => s.safeInChange input pinB high)

/-- SAFE_IN_DEMAND (R400). A pin low for FILTER_US becomes a demand and trips the input's groups. -/
def execSafeInDemand (input : Fin 4) (pinB : Bool) (s : State) : Host.Outcome State Fault Refusal :=
  .next (s.live fun s => s.safeInDemand input pinB)

/-- IN_DISC (R401). Pins differing for DISC_MS latch a discrepancy that locks the groups out. -/
def execInDisc (input : Fin 4) (s : State) : Host.Outcome State Fault Refusal :=
  .next (s.live fun s => s.inDisc input)

/-- SAFETY_FRAME_RX (R402). A safety frame is checked, and an accepted frame sets the connection's demand and may
command the overlay. -/
def execSafetyFrameRx (link : Fin 6) (cell : BitVec 288) (s : State) : Host.Outcome State Fault Refusal :=
  .next (s.live fun s => s.safetyFrame link cell.toNat)

/-- WATCHDOG (R402). A receive connection with no accepted frame for WD_MS trips its groups. -/
def execWatchdog (conn : Fin 2) (s : State) : Host.Outcome State Fault Refusal :=
  .next (s.live fun s => s.watchdog conn)

/-- STATUS_FRAME_TX (R404). SAF sends a STATUS frame every PERIOD_MS and within 1 ms of a group-state change. -/
def execStatusFrameTx (s : State) : Host.Outcome State Fault Refusal :=
  .next (s.live fun s => s.statusTx)

/-- TAP_SILENT (R407). No end-of-frame mark from an engine by 0.92 × P + 10 µs trips every group. -/
def execTapSilent (engine : Fin 4) (s : State) : Host.Outcome State Fault Refusal :=
  .next (s.live fun s => s.tapSilent engine)

/-- MATTE_SIG_CHECK (R408). SAF's deadline to compare READ_SIG with the seals passes or trips with MATTE_SIG. -/
def execMatteSigCheck (s : State) : Host.Outcome State Fault Refusal :=
  .next (s.live fun s => s.matteSigCheck)

/-- OVL_SIG_CHECK (R409). SAF checks the overlay signature and heartbeat of each frame before it is lit. -/
def execOvlSigCheck (frame : BitVec 16) (sig : BitVec 32) (s : State) : Host.Outcome State Fault Refusal :=
  .next (s.live fun s => s.ovlSigCheck frame.toNat sig.toNat)

/-- FB_CHANGE (R412). A feedback input changes, moving CLOSING to PERMIT or OPENING to SAFE. -/
def execFbChange (group : Fin 4) (isOpen : Bool) (s : State) : Host.Outcome State Fault Refusal :=
  .next (s.live fun s => s.fbChange group isOpen)

/-- FB_DISAGREE (R412). Feedback disagreeing for more than 10 ms in PERMIT or SAFE trips with FEEDBACK. -/
def execFbDisagree (group : Fin 4) (s : State) : Host.Outcome State Fault Refusal :=
  .next (s.live fun s => s.fbDisagree group)

/-- FB_CLOSE_TIMEOUT (R394). FB not closed within FB_CLOSE_MS takes CLOSING to OPENING with FEEDBACK. -/
def execFbCloseTimeout (group : Fin 4) (s : State) : Host.Outcome State Fault Refusal :=
  .next (s.live fun s => s.fbCloseTimeout group)

/-- FB_OPEN_TIMEOUT (R394). FB not open within FB_OPEN_MS takes OPENING to LOCKOUT with FEEDBACK. -/
def execFbOpenTimeout (group : Fin 4) (s : State) : Host.Outcome State Fault Refusal :=
  .next (s.live fun s => s.fbOpenTimeout group)

/-- TEST_PULSE (R411). A switch is opened for TP_US and the readback and coil current are checked. -/
def execTestPulse (group : Fin 4) (mid : Bool) (outp : Bool) (coil : Nat) (s : State) : Host.Outcome State Fault Refusal
    :=
  .next (s.live fun s => s.testPulse group mid outp coil)

/-- SAFE_RESET_EDGE (R414). A debounced SAFE_RESET edge qualifies, rejects or ignores a pulse, and a qualified fall
moves READY groups to CLOSING. -/
def execSafeResetEdge (high : Bool) (s : State) : Host.Outcome State Fault Refusal :=
  .next (s.live fun s => s.resetEdge high)

/-- RESET_REJECTED (R414). A SAFE_RESET high longer than 3,000 ms raises RESET_REJECTED. -/
def execResetRejected (s : State) : Host.Outcome State Fault Refusal :=
  .next (s.live fun s => s.resetRejected)

/-- SAFE_RESET_LOW_HELD (R395). SAFE_RESET has been low for 50 ms, which meets the READY condition and re-arms pulse
qualification. -/
def execSafeResetLowHeld (s : State) : Host.Outcome State Fault Refusal :=
  .next (s.live fun s => s.resetLowHeld)

/-- SAFE_XIN_LOW (R420). SAFE_XIN low for 40 ns trips every group with PARTNER. -/
def execSafeXinLow (s : State) : Host.Outcome State Fault Refusal :=
  .next (s.live fun s => s.xinLow.settle)

/-- SAFE_XIN_HIGH (R395). SAFE_XIN returns high, which meets a READY condition and ends the takeover inhibit. -/
def execSafeXinHigh (s : State) : Host.Outcome State Fault Refusal :=
  .next (s.live fun s => s.xinUp.settle)

/-- CLEAR_LOCKOUT (R427). SAF command 0x10 returns named groups from LOCKOUT to SAFE. -/
def execClearLockout (m : Master) (groups : BitVec 4) (s : State) : Host.Outcome State Fault Refusal :=
  .next (s.live fun s => s.command m.id pgSaf 0x10 groups.toNat)

/-- HANDOVER_BEGIN (R422). SAF command 0x11 opens a handover window with GRD alone carrying safety. -/
def execHandoverBegin (m : Master) (s : State) : Host.Outcome State Fault Refusal :=
  .next (s.live fun s => s.command m.id pgSaf 0x11 0)

/-- HANDOVER_END (R423). SAF command 0x12 closes the window after a valid ALIVE write. -/
def execHandoverEnd (m : Master) (s : State) : Host.Outcome State Fault Refusal :=
  .next (s.live fun s => s.command m.id pgSaf 0x12 0)

/-- SAF_TRIP (R427). SAF command 0x13 trips the named groups with cause SOFTWARE. -/
def execSafTrip (m : Master) (groups : BitVec 4) (s : State) : Host.Outcome State Fault Refusal :=
  .next (s.live fun s => s.command m.id pgSaf 0x13 groups.toNat)

/-- HANDOVER_EXPIRED (R423). 50 ms after HANDOVER_BEGIN without END, GRD trips every group with HANDOVER. -/
def execHandoverExpired (s : State) : Host.Outcome State Fault Refusal :=
  .next (s.live fun s => s.handoverExpired)

/-- GRD_ALIVE_WRITE (R425). A SAF write to GRD.ALIVE is checked against the previous value and restarts the 1 ms timing.
-/
def execGrdAliveWrite (m : Master) (count : BitVec 8) (s : State) : Host.Outcome State Fault Refusal :=
  .next (s.live fun s => s.writeReg m.id pgGrd GRD.ALIVE.COUNT.off count.toNat)

/-- SAF_SILENT (R425). No valid ALIVE write within 1 ms trips every group and clears SAF_OK. -/
def execSafSilent (s : State) : Host.Outcome State Fault Refusal :=
  .next (s.live fun s => s.aliveTimeout)

/-- SELF_TEST_START (R429). A group whose GROUP_EN is set on both pages with SAF_OK = 1 starts its self-test. -/
def execSelfTestStart (group : Fin 4) (s : State) : Host.Outcome State Fault Refusal :=
  .next (s.live fun s => s.selfTestStart group)

/-- SELF_TEST_DONE (R429). The self-test ends and takes the group to SAFE or LOCKOUT. -/
def execSelfTestDone (group : Fin 4) (ok : Bool) (s : State) : Host.Outcome State Fault Refusal :=
  .next (s.live fun s => s.selfTestDone group ok)

/-- SAFE_OUT_CURRENT_LIMIT (R558). A SAFE_OUT current limit lasting over 100 µs opens both switches and trips with
OUTPUT_STAGE. -/
def execSafeOutCurrentLimit (group : Fin 4) (s : State) : Host.Outcome State Fault Refusal :=
  .next (s.live fun s => s.currentLimit group)

end Sys2Proof.Machine
end

