-- ==== Sys2Proof/Machine/ExecTime.lean ====
section
/-! DEFINITION. What each command does: system time and the clapper inputs (chapter 05). -/

namespace Sys2Proof.Machine

/-- A TIME cell on a link, by its KIND; other kinds are ignored (R136, R138, R149). -/
def State.timeCell (s : State) (n sub word : Nat) : State :=
  match s.singleCell n 4 word with
  | (none, s) => s
  | (some v, s) =>
    match bitsOf v.body 0 4 with
    | 0 => s.syncRx n sub v.body
    | 1 => s.phaseRx n v.body
    | _ => s

/-- TIME_SYNC_RX (R138). A SYNC cell is timestamped and, from the parent, yields an offset and delay that steer the
count. -/
def execTimeSyncRx (link : Fin 6) (sub : BitVec 16) (cell : BitVec 288) (s : State) : Host.Outcome State Fault Refusal
    :=
  .next (s.live fun s => (s.timeCell link sub.toNat cell.toNat).settle)

/-- TIME_PHASE_RX (R149). A PHASE cell from the parent is taken and passed on downstream. -/
def execTimePhaseRx (link : Fin 6) (sub : BitVec 16) (cell : BitVec 288) (s : State) : Host.Outcome State Fault Refusal
    :=
  .next (s.live fun s => (s.timeCell link sub.toNat cell.toNat).settle)

/-- SYNC_CELL_TX (R137). A SYNC cell is sent in the first local slot of every marker period on each link that accepts
TIME. -/
def execSyncCellTx (link : Fin 6) (sub : BitVec 16) (s : State) : Host.Outcome State Fault Refusal :=
  .next (s.live fun s => s.syncTx link sub.toNat)

/-- PHASE_CELL_TX (R149). The root sends a newly taken-up phase set, repeated at least once every 64 marker periods. -/
def execPhaseCellTx (s : State) : Host.Outcome State Fault Refusal :=
  .next (s.live fun s => s.phaseTx)

/-- PARENT_LOST (R139). The parent misses 3 SYNC cells or stops being eligible, and the parent or sync state changes. -/
def execParentLost (s : State) : Host.Outcome State Fault Refusal :=
  .next (s.live fun s => s.parentLost.settle)

/-- HOLDOVER_EXPIRY (R140). HOLDOVER lasting HOLDOVER_MS takes the device to UNLOCKED. -/
def execHoldoverExpiry (s : State) : Host.Outcome State Fault Refusal :=
  .next (s.live fun s => s.holdoverExpiry.settle)

/-- SET_TIME (R142). Command 0x10 steps the root's count to SET_LO and SET_HI. -/
def execSetTime (m : Master) (s : State) : Host.Outcome State Fault Refusal :=
  .next (s.live fun s => (s.command m.id pgTime 0x10 0).settle)

/-- STILL_EXIT (R158). Command 0x11 ends still mode at the next boundary. -/
def execStillExit (m : Master) (s : State) : Host.Outcome State Fault Refusal :=
  .next (s.live fun s => s.command m.id pgTime 0x11 0)

/-- CLAP_RESTART (R148). Command 0x12 restarts the average of a clapper input from its next counted edge. -/
def execClapRestart (m : Master) (clap : Fin 4) (s : State) : Host.Outcome State Fault Refusal :=
  .next (s.live fun s => s.command m.id pgTime 0x12 clap)

/-- CLAP_EDGE (R148). A qualifying clapper edge is counted, accepted or not, and may derive a new slot start. -/
def execClapEdge (clap : Fin 4) (sub : BitVec 16) (s : State) : Host.Outcome State Fault Refusal :=
  .next (s.live fun s => s.clapEdge clap sub.toNat)

end Sys2Proof.Machine
end

