-- ==== Sys2Proof/Machine/Dispatch.lean ====
section
/-! DEFINITION. The dispatch: one arm for each command, each a call of its meaning. -/

namespace Sys2Proof.Machine

/-- The effect of a command on everything but the queue. -/
def exec (i : Instr) (s : State) : Host.Outcome State Fault Refusal :=
  match i with
  | .registerWrite m addr data => Sys2Proof.Machine.execRegisterWrite m addr data s
  | .rcRead m addr => Sys2Proof.Machine.execRcRead m addr s
  | .nowLoRead m => Sys2Proof.Machine.execNowLoRead m s
  | .pageCommitGo m page boundary => Sys2Proof.Machine.execPageCommitGo m page boundary s
  | .commitGroup m boundary => Sys2Proof.Machine.execCommitGroup m boundary s
  | .groupSnapshot m => Sys2Proof.Machine.execGroupSnapshot m s
  | .lockLease m page lease => Sys2Proof.Machine.execLockLease m page lease s
  | .lockRelease m page => Sys2Proof.Machine.execLockRelease m page s
  | .lockBreak m page => Sys2Proof.Machine.execLockBreak m page s
  | .leaseExpiry page => Sys2Proof.Machine.execLeaseExpiry page s
  | .cmdNone m page => Sys2Proof.Machine.execCmdNone m page s
  | .discardShadow m page => Sys2Proof.Machine.execDiscardShadow m page s
  | .clearCounters m page => Sys2Proof.Machine.execClearCounters m page s
  | .evtClear m page bits => Sys2Proof.Machine.execEvtClear m page bits s
  | .evtForce m page bits => Sys2Proof.Machine.execEvtForce m page bits s
  | .evtEnableWrite m page bits => Sys2Proof.Machine.execEvtEnableWrite m page bits s
  | .snapshotTake m page => Sys2Proof.Machine.execSnapshotTake m page s
  | .snapshotDone page => Sys2Proof.Machine.execSnapshotDone page s
  | .frameBoundary produced missed => Sys2Proof.Machine.execFrameBoundary produced missed s
  | .slotBoundary slot => Sys2Proof.Machine.execSlotBoundary slot s
  | .blankingStart => Sys2Proof.Machine.execBlankingStart s
  | .cue => Sys2Proof.Machine.execCue s
  | .peTileDone tile late => Sys2Proof.Machine.execPeTileDone tile late s
  | .tileSignatureDeadline tile => Sys2Proof.Machine.execTileSignatureDeadline tile s
  | .laneEnable link => Sys2Proof.Machine.execLaneEnable link s
  | .seekDwellEnd link => Sys2Proof.Machine.execSeekDwellEnd link s
  | .seekMessageRx lane swapped => Sys2Proof.Machine.execSeekMessageRx lane swapped s
  | .leaderMessageRx lane codeOk swapped bytes => Sys2Proof.Machine.execLeaderMessageRx lane codeOk swapped bytes s
  | .trainTimeout link => Sys2Proof.Machine.execTrainTimeout link s
  | .laneLock link => Sys2Proof.Machine.execLaneLock link s
  | .trainingFrameRx lane ready confirm fail d2 d1 d0 dp skew => Sys2Proof.Machine.execTrainingFrameRx lane ready confirm fail d2 d1 d0 dp skew s
  | .fomWindowDone lane fom ffe dfe step => Sys2Proof.Machine.execFomWindowDone lane fom ffe dfe step s
  | .confirmMeasureDone lane errs bits => Sys2Proof.Machine.execConfirmMeasureDone lane errs bits s
  | .fomFail lane => Sys2Proof.Machine.execFomFail lane s
  | .lossOfSignal lane signal => Sys2Proof.Machine.execLossOfSignal lane signal s
  | .runStable link => Sys2Proof.Machine.execRunStable link s
  | .retrain m lane => Sys2Proof.Machine.execRetrain m lane s
  | .testEnter m lane => Sys2Proof.Machine.execTestEnter m lane s
  | .inject m lane length => Sys2Proof.Machine.execInject m lane length s
  | .testExit m lane => Sys2Proof.Machine.execTestExit m lane s
  | .resetCeiling m lane => Sys2Proof.Machine.execResetCeiling m lane s
  | .sentinelCellRx lane payload => Sys2Proof.Machine.execSentinelCellRx lane payload s
  | .markerRx lane marker skew => Sys2Proof.Machine.execMarkerRx lane marker skew s
  | .videoBurstRx link cells => Sys2Proof.Machine.execVideoBurstRx link cells s
  | .ingestBlockWrite => Sys2Proof.Machine.execIngestBlockWrite s
  | .ctlRead link cells => Sys2Proof.Machine.execCtlRead link cells s
  | .ctlWrite link cells => Sys2Proof.Machine.execCtlWrite link cells s
  | .ctlMailbox link cells => Sys2Proof.Machine.execCtlMailbox link cells s
  | .replayEntryExpiry link => Sys2Proof.Machine.execReplayEntryExpiry link s
  | .upwardMessageRx link cells => Sys2Proof.Machine.execUpwardMessageRx link cells s
  | .authProofRx link cell => Sys2Proof.Machine.execAuthProofRx link cell s
  | .authChallengeRx link cell => Sys2Proof.Machine.execAuthChallengeRx link cell s
  | .authTimeout link => Sys2Proof.Machine.execAuthTimeout link s
  | .authRetry link => Sys2Proof.Machine.execAuthRetry link s
  | .revertHoldoff => Sys2Proof.Machine.execRevertHoldoff s
  | .switchUpstream m link => Sys2Proof.Machine.execSwitchUpstream m link s
  | .keyLoad m link => Sys2Proof.Machine.execKeyLoad m link s
  | .keyClear m link => Sys2Proof.Machine.execKeyClear m link s
  | .timeSyncRx link sub cell => Sys2Proof.Machine.execTimeSyncRx link sub cell s
  | .timePhaseRx link sub cell => Sys2Proof.Machine.execTimePhaseRx link sub cell s
  | .syncCellTx link sub => Sys2Proof.Machine.execSyncCellTx link sub s
  | .phaseCellTx => Sys2Proof.Machine.execPhaseCellTx s
  | .parentLost => Sys2Proof.Machine.execParentLost s
  | .holdoverExpiry => Sys2Proof.Machine.execHoldoverExpiry s
  | .setTime m => Sys2Proof.Machine.execSetTime m s
  | .stillExit m => Sys2Proof.Machine.execStillExit m s
  | .clapRestart m clap => Sys2Proof.Machine.execClapRestart m clap s
  | .clapEdge clap sub => Sys2Proof.Machine.execClapEdge clap sub s
  | .retireFence layers windows => Sys2Proof.Machine.execRetireFence layers windows s
  | .ovlSignaturePost => Sys2Proof.Machine.execOvlSignaturePost s
  | .libDataWrite m data => Sys2Proof.Machine.execLibDataWrite m data s
  | .libDataRead m => Sys2Proof.Machine.execLibDataRead m s
  | .ovlSeal m => Sys2Proof.Machine.execOvlSeal m s
  | .ovlUnseal m => Sys2Proof.Machine.execOvlUnseal m s
  | .capture m => Sys2Proof.Machine.execCapture m s
  | .capDone => Sys2Proof.Machine.execCapDone s
  | .dramTransfer transfer => Sys2Proof.Machine.execDramTransfer transfer s
  | .rebuildStart => Sys2Proof.Machine.execRebuildStart s
  | .wearPhaseDone => Sys2Proof.Machine.execWearPhaseDone s
  | .rebuildDone => Sys2Proof.Machine.execRebuildDone s
  | .wearPeriodExpiry => Sys2Proof.Machine.execWearPeriodExpiry s
  | .tempStale tile => Sys2Proof.Machine.execTempStale tile s
  | .buildFactory m => Sys2Proof.Machine.execBuildFactory m s
  | .buildFactoryDone => Sys2Proof.Machine.execBuildFactoryDone s
  | .loadFactory m => Sys2Proof.Machine.execLoadFactory m s
  | .loadFactoryDone => Sys2Proof.Machine.execLoadFactoryDone s
  | .sealFactory m => Sys2Proof.Machine.execSealFactory m s
  | .writeUser m tiles => Sys2Proof.Machine.execWriteUser m tiles s
  | .writeUserDone => Sys2Proof.Machine.execWriteUserDone s
  | .applyUser m => Sys2Proof.Machine.execApplyUser m s
  | .restoreFactory m => Sys2Proof.Machine.execRestoreFactory m s
  | .userCopyDone => Sys2Proof.Machine.execUserCopyDone s
  | .cadRebuild m => Sys2Proof.Machine.execCadRebuild m s
  | .doseReset m tiles => Sys2Proof.Machine.execDoseReset m tiles s
  | .matteVerify m copy => Sys2Proof.Machine.execMatteVerify m copy s
  | .verifyDone => Sys2Proof.Machine.execVerifyDone s
  | .matteSealWrite m copy tile crc => Sys2Proof.Machine.execMatteSealWrite m copy tile crc s
  | .proxyTapCode zone take lam => Sys2Proof.Machine.execProxyTapCode zone take lam s
  | .tallyRespRx tile packet => Sys2Proof.Machine.execTallyRespRx tile packet s
  | .ackRx tile packet => Sys2Proof.Machine.execAckRx tile packet s
  | .queryRespRx tile packet => Sys2Proof.Machine.execQueryRespRx tile packet s
  | .diagRespRx tile packet => Sys2Proof.Machine.execDiagRespRx tile packet s
  | .eventRx tile packet => Sys2Proof.Machine.execEventRx tile packet s
  | .enumLoopedRx tile packet => Sys2Proof.Machine.execEnumLoopedRx tile packet s
  | .responseTimeout tile type => Sys2Proof.Machine.execResponseTimeout tile type s
  | .deliveryDone tile => Sys2Proof.Machine.execDeliveryDone tile s
  | .enumerate m tile => Sys2Proof.Machine.execEnumerate m tile s
  | .dudClaim m tile lo hi => Sys2Proof.Machine.execDudClaim m tile lo hi s
  | .dudQuery m tile => Sys2Proof.Machine.execDudQuery m tile s
  | .sendConfig m tile count => Sys2Proof.Machine.execSendConfig m tile count s
  | .readmit m tile => Sys2Proof.Machine.execReadmit m tile s
  | .autoReadmit tile => Sys2Proof.Machine.execAutoReadmit tile s
  | .hbForceWrite m tile force => Sys2Proof.Machine.execHbForceWrite m tile force s
  | .idleFrameset tile => Sys2Proof.Machine.execIdleFrameset tile s
  | .headroomStep => Sys2Proof.Machine.execHeadroomStep s
  | .railPoll => Sys2Proof.Machine.execRailPoll s
  | .pmbAlert segment low => Sys2Proof.Machine.execPmbAlert segment low s
  | .pmbusTransactionDone segment result data => Sys2Proof.Machine.execPmbusTransactionDone segment result data s
  | .pmbusRetry segment => Sys2Proof.Machine.execPmbusRetry segment s
  | .readStatus m => Sys2Proof.Machine.execReadStatus m s
  | .diagVisit tile sink rows last => Sys2Proof.Machine.execDiagVisit tile sink rows last s
  | .diagReportWrite => Sys2Proof.Machine.execDiagReportWrite s
  | .initMap m tiles => Sys2Proof.Machine.execInitMap m tiles s
  | .initMapDone => Sys2Proof.Machine.execInitMapDone s
  | .buildList m => Sys2Proof.Machine.execBuildList m s
  | .buildListDone => Sys2Proof.Machine.execBuildListDone s
  | .relearn m tiles => Sys2Proof.Machine.execRelearn m tiles s
  | .clearVerdict m emitter => Sys2Proof.Machine.execClearVerdict m emitter s
  | .refreshDue mr4 => Sys2Proof.Machine.execRefreshDue mr4 s
  | .rowIdleTimeout bank => Sys2Proof.Machine.execRowIdleTimeout bank s
  | .switchSet m set => Sys2Proof.Machine.execSwitchSet m set s
  | .switchWindowOpen => Sys2Proof.Machine.execSwitchWindowOpen s
  | .trainSet m set => Sys2Proof.Machine.execTrainSet m set s
  | .trainingDone failed step => Sys2Proof.Machine.execTrainingDone failed step s
  | .scrubNow m => Sys2Proof.Machine.execScrubNow m s
  | .scrubVisit upsets => Sys2Proof.Machine.execScrubVisit upsets s
  | .scrubRepairVisit upsets => Sys2Proof.Machine.execScrubRepairVisit upsets s
  | .sramPatrol upsets => Sys2Proof.Machine.execSramPatrol upsets s
  | .arbCfgWrite m requester data => Sys2Proof.Machine.execArbCfgWrite m requester data s
  | .errorReport src cls typ space addr owner synd kind count => Sys2Proof.Machine.execErrorReport src cls typ space addr owner synd kind count s
  | .brokenWire src => Sys2Proof.Machine.execBrokenWire src s
  | .captAckWrite m seq => Sys2Proof.Machine.execCaptAckWrite m seq s
  | .chkDataByte m chan data => Sys2Proof.Machine.execChkDataByte m chan data s
  | .chkDataHalf m chan data => Sys2Proof.Machine.execChkDataHalf m chan data s
  | .chkDataWord m chan data => Sys2Proof.Machine.execChkDataWord m chan data s
  | .chkSeal m chan => Sys2Proof.Machine.execChkSeal m chan s
  | .chkRestart m chan => Sys2Proof.Machine.execChkRestart m chan s
  | .reelWrData m reel data => Sys2Proof.Machine.execReelWrData m reel data s
  | .reelWriteResume reel => Sys2Proof.Machine.execReelWriteResume reel s
  | .reelEnd m reel => Sys2Proof.Machine.execReelEnd m reel s
  | .reelAbort m reel => Sys2Proof.Machine.execReelAbort m reel s
  | .reelRdData m reel => Sys2Proof.Machine.execReelRdData m reel s
  | .reelMark m reel => Sys2Proof.Machine.execReelMark m reel s
  | .reelRewind m reel => Sys2Proof.Machine.execReelRewind m reel s
  | .reelRelease m reel => Sys2Proof.Machine.execReelRelease m reel s
  | .reelFlush m reel => Sys2Proof.Machine.execReelFlush m reel s
  | .ptrReset reel => Sys2Proof.Machine.execPtrReset reel s
  | .safeInChange input pinB high => Sys2Proof.Machine.execSafeInChange input pinB high s
  | .safeInDemand input pinB => Sys2Proof.Machine.execSafeInDemand input pinB s
  | .inDisc input => Sys2Proof.Machine.execInDisc input s
  | .safetyFrameRx link cell => Sys2Proof.Machine.execSafetyFrameRx link cell s
  | .watchdog conn => Sys2Proof.Machine.execWatchdog conn s
  | .statusFrameTx => Sys2Proof.Machine.execStatusFrameTx s
  | .tapSilent engine => Sys2Proof.Machine.execTapSilent engine s
  | .matteSigCheck => Sys2Proof.Machine.execMatteSigCheck s
  | .ovlSigCheck frame sig => Sys2Proof.Machine.execOvlSigCheck frame sig s
  | .fbChange group isOpen => Sys2Proof.Machine.execFbChange group isOpen s
  | .fbDisagree group => Sys2Proof.Machine.execFbDisagree group s
  | .fbCloseTimeout group => Sys2Proof.Machine.execFbCloseTimeout group s
  | .fbOpenTimeout group => Sys2Proof.Machine.execFbOpenTimeout group s
  | .testPulse group mid outp coil => Sys2Proof.Machine.execTestPulse group mid outp coil s
  | .safeResetEdge high => Sys2Proof.Machine.execSafeResetEdge high s
  | .resetRejected => Sys2Proof.Machine.execResetRejected s
  | .safeXinLow => Sys2Proof.Machine.execSafeXinLow s
  | .clearLockout m groups => Sys2Proof.Machine.execClearLockout m groups s
  | .handoverBegin m => Sys2Proof.Machine.execHandoverBegin m s
  | .handoverEnd m => Sys2Proof.Machine.execHandoverEnd m s
  | .safTrip m groups => Sys2Proof.Machine.execSafTrip m groups s
  | .handoverExpired => Sys2Proof.Machine.execHandoverExpired s
  | .grdAliveWrite m count => Sys2Proof.Machine.execGrdAliveWrite m count s
  | .safSilent => Sys2Proof.Machine.execSafSilent s
  | .selfTestStart group => Sys2Proof.Machine.execSelfTestStart group s
  | .selfTestDone group ok => Sys2Proof.Machine.execSelfTestDone group ok s
  | .safeOutCurrentLimit group => Sys2Proof.Machine.execSafeOutCurrentLimit group s
  | .domainReqOn m domain => Sys2Proof.Machine.execDomainReqOn m domain s
  | .domainReqRet m domain => Sys2Proof.Machine.execDomainReqRet m domain s
  | .domainReqOff m domain => Sys2Proof.Machine.execDomainReqOff m domain s
  | .domainReqIllegal m domain target => Sys2Proof.Machine.execDomainReqIllegal m domain target s
  | .entryAbandon domain => Sys2Proof.Machine.execEntryAbandon domain s
  | .domainEntryDone domain => Sys2Proof.Machine.execDomainEntryDone domain s
  | .domainExitDone domain => Sys2Proof.Machine.execDomainExitDone domain s
  | .signalDetect link => Sys2Proof.Machine.execSignalDetect link s
  | .wakeTimer => Sys2Proof.Machine.execWakeTimer s
  | .lpEnter => Sys2Proof.Machine.execLpEnter s
  | .brownout => Sys2Proof.Machine.execBrownout s
  | .thmDemand m sensors mr4 => Sys2Proof.Machine.execThmDemand m sensors mr4 s
  | .guardDemand => Sys2Proof.Machine.execGuardDemand s
  | .thmConversionDone values biasBad => Sys2Proof.Machine.execThmConversionDone values biasBad s
  | .scalCheck => Sys2Proof.Machine.execScalCheck s
  | .scalRun m units => Sys2Proof.Machine.execScalRun m units s
  | .scalRunStart => Sys2Proof.Machine.execScalRunStart s
  | .scalMemberDone hits reaches raw2 rawRef => Sys2Proof.Machine.execScalMemberDone hits reaches raw2 rawRef s
  | .scalRunDone => Sys2Proof.Machine.execScalRunDone s
  | .madcConversion channel raw => Sys2Proof.Machine.execMadcConversion channel raw s
  | .refinGate offset => Sys2Proof.Machine.execRefinGate offset s
  | .refinLoss => Sys2Proof.Machine.execRefinLoss s
  | .oscCountDone ends => Sys2Proof.Machine.execOscCountDone ends s
  | .mirrorHeartbeatRx mgen slot state ready inhibit groups epoch frame primary => Sys2Proof.Machine.execMirrorHeartbeatRx mgen slot state ready inhibit groups epoch frame primary s
  | .mirrorCommitRx mgen page gen boundary group entries => Sys2Proof.Machine.execMirrorCommitRx mgen page gen boundary group entries s
  | .mirrorOutcomeRx mgen page state => Sys2Proof.Machine.execMirrorOutcomeRx mgen page state s
  | .outcomeWaitExpiry page => Sys2Proof.Machine.execOutcomeWaitExpiry page s
  | .mirrorBlockRx mgen block tag poison data => Sys2Proof.Machine.execMirrorBlockRx mgen block tag poison data s
  | .mirrorRebuildRx mgen buffer gen ceilings frame => Sys2Proof.Machine.execMirrorRebuildRx mgen buffer gen ceilings frame s
  | .mirrorListRx mgen emitter short remove frame => Sys2Proof.Machine.execMirrorListRx mgen emitter short remove frame s
  | .mirrorCommandRx mgen page opcode arg => Sys2Proof.Machine.execMirrorCommandRx mgen page opcode arg s
  | .mirrorSplitRx mgen tile lo hi join => Sys2Proof.Machine.execMirrorSplitRx mgen tile lo hi join s
  | .mirrorYieldRx mgen cause => Sys2Proof.Machine.execMirrorYieldRx mgen cause s
  | .mirrorTakenRx mgen => Sys2Proof.Machine.execMirrorTakenRx mgen s
  | .mirrorResyncRx mgen ends => Sys2Proof.Machine.execMirrorResyncRx mgen ends s
  | .mirrorDiagrespRx mgen tile sink frame words => Sys2Proof.Machine.execMirrorDiagrespRx mgen tile sink frame words s
  | .heartbeatMiss => Sys2Proof.Machine.execHeartbeatMiss s
  | .takeover slot => Sys2Proof.Machine.execTakeover slot s
  | .tailPacketRx tile targets packet => Sys2Proof.Machine.execTailPacketRx tile targets packet s
  | .pairLeaseRenew => Sys2Proof.Machine.execPairLeaseRenew s
  | .resync m => Sys2Proof.Machine.execResync m s
  | .resyncCopyDone => Sys2Proof.Machine.execResyncCopyDone s
  | .switchover m => Sys2Proof.Machine.execSwitchover m s
  | .updateStart m target => Sys2Proof.Machine.execUpdateStart m target s
  | .updateAbort m => Sys2Proof.Machine.execUpdateAbort m s
  | .updateBlock => Sys2Proof.Machine.execUpdateBlock s
  | .fwActivate m => Sys2Proof.Machine.execFwActivate m s
  | .activateDone => Sys2Proof.Machine.execActivateDone s
  | .fwHandover m target version => Sys2Proof.Machine.execFwHandover m target version s
  | .fwAliveWrite m count => Sys2Proof.Machine.execFwAliveWrite m count s
  | .handoverRevert => Sys2Proof.Machine.execHandoverRevert s
  | .fwConfirm m => Sys2Proof.Machine.execFwConfirm m s
  | .svnAdvance m target => Sys2Proof.Machine.execSvnAdvance m target s
  | .revokeKey m key => Sys2Proof.Machine.execRevokeKey m key s
  | .ckptNow m => Sys2Proof.Machine.execCkptNow m s
  | .wearCheckpoint => Sys2Proof.Machine.execWearCheckpoint s
  | .diagCheckpoint => Sys2Proof.Machine.execDiagCheckpoint s
  | .flashOpIssue => Sys2Proof.Machine.execFlashOpIssue s
  | .flashOpDone ok => Sys2Proof.Machine.execFlashOpDone ok s
  | .holdTimeout => Sys2Proof.Machine.execHoldTimeout s
  | .dailiesPeriod => Sys2Proof.Machine.execDailiesPeriod s
  | .dlyRead m => Sys2Proof.Machine.execDlyRead m s
  | .dlyMark m note => Sys2Proof.Machine.execDlyMark m note s
  | .powerOnReset straps => Sys2Proof.Machine.execPowerOnReset straps s
  | .nreset straps => Sys2Proof.Machine.execNreset straps s
  | .deviceReset m => Sys2Proof.Machine.execDeviceReset m s
  | .mgtRestart m => Sys2Proof.Machine.execMgtRestart m s
  | .mgtHalt addr => Sys2Proof.Machine.execMgtHalt addr s
  | .loaderStepDone => Sys2Proof.Machine.execLoaderStepDone s
  | .benchAccess write addr data => Sys2Proof.Machine.execBenchAccess write addr data s
  | .benchDataWrite data => Sys2Proof.Machine.execBenchDataWrite data s
  | .benchStart target => Sys2Proof.Machine.execBenchStart target s
  | .portCycle requests => Sys2Proof.Machine.execPortCycle requests s
  | .brokenWireClear src => Sys2Proof.Machine.execBrokenWireClear src s
  | .safeXinHigh => Sys2Proof.Machine.execSafeXinHigh s
  | .safeResetLowHeld => Sys2Proof.Machine.execSafeResetLowHeld s
  | .prbsLock lane => Sys2Proof.Machine.execPrbsLock lane s
  | .prbsLockLoss lane errs => Sys2Proof.Machine.execPrbsLockLoss lane errs s
  | .ringLockLoss tile => Sys2Proof.Machine.execRingLockLoss tile s
  | .libSealDone => Sys2Proof.Machine.execLibSealDone s
  | .injectDone lane errs => Sys2Proof.Machine.execInjectDone lane errs s
  | .powerDown => Sys2Proof.Machine.execPowerDown s

end Sys2Proof.Machine
end

