-- ==== Sys2Proof/Safety.lean ====
section
/-! DEFINITION. What counts as a sound and a safe state: canonical stores, switches that close only on the way to the permit,
and storage that is programmed once. -/

namespace Sys2Proof.Machine

/-- The register file is canonical: values in effect and shadows differ from what an unlisted address reads as, and addresses
rise strictly. -/
def Pages.wf (p : Pages) : Bool :=
  SMap.wf resetWord p.eff && SMap.wf (fun a => resetWord a &&& BitVec.ofNat 32 (rwsMask a)) p.shd &&
  SMap.wf (fun _ => 0) p.snp && SMap.wf (fun _ => {}) p.hdr

/-- Every store that is addressed by number holds its canonical form: the register file, DRAM and the queue SRAM. -/
def State.Canonical (s : State) : Prop := s.pages.wf = true ∧ Memory.wf s.dram = true ∧ SMap.wf (fun _ => 0) s.sram.words = true

/-- A switch of SAFE_OUT is closed only while its group is in CLOSING or PERMIT (R396, R410). -/
def GroupSt.switchesOk (x : GroupSt) : Prop := x.swA = true ∨ x.swB = true → x.state = .closing ∨ x.state = .permit

/-- The switches of all four groups are as R410 wants them. -/
def State.SwitchesOk (s : State) : Prop := ∀ g, (s.group g).switchesOk

/-- One-time-programmable storage: every bit that is set stays set, no minimum SVN falls, and no key hash changes (R511,
R529). -/
def OtpSt.Before (a b : OtpSt) : Prop :=
  a.keyHash = b.keyHash ∧ a.revoked ||| b.revoked = b.revoked ∧ a.svnMgt ≤ b.svnMgt ∧ a.svnSaf ≤ b.svnSaf ∧
  (a.benchOff = true → b.benchOff = true) ∧ (a.factorySealed = true → b.factorySealed = true)

/-- A state that every step keeps: the stores are canonical and the switches are safe. -/
def State.Inv (s : State) : Prop := s.Canonical ∧ s.SwitchesOk

/-! ### When an access and a command go through -/

/-- A write by a master to a register of a page reaches the register at once: the device has its supplies, no earlier access of
the master waits, no check of R26 to R28 or of the page's chapter refuses it, and nothing holds it (R27, R61, R431, R554). -/
def State.writes (s : State) (m p off v : Nat) : Bool :=
  let a : Access := { master := m, write := true, addr := 0x02000000 + addrOf p off, data := BitVec.ofNat 32 v }
  s.boot.powered && !s.waits m && (s.accessCheck a).isNone && !s.accessHeld a

/-- The same of a read. -/
def State.reads (s : State) (m p off : Nat) : Bool :=
  let a : Access := { master := m, write := false, addr := 0x02000000 + addrOf p off, data := 0 }
  s.boot.powered && !s.waits m && (s.accessCheck a).isNone && !s.accessHeld a

/-- A page takes a command and executes it: the write of PAGE_CMD reaches it, no other master holds the page's lock, no command
runs on it, and it neither denies nor refuses the command (R44, R48, R49). -/
def State.accepts (s : State) (m p opcode arg : Nat) : Bool :=
  s.writes m p 0x020 (opcode + 256 * arg) && ((s.hdr p).owner.isNone || s.holds m p) && !s.cmdDenied m p opcode arg &&
    (s.hdr p).run.isNone && cmdKnown p opcode && (s.cmdRefused m p opcode arg).isNone

/-- A command of a page has ended DONE: its outcome is recorded, the page is free for the next one, and CMD_DONE is set
(R50, R51). -/
def State.Done (t : State) (p opcode m : Nat) : Prop :=
  (t.hdr p).run = none ∧ (t.hdr p).cmdState = 2 ∧ (t.hdr p).cmdOpcode = opcode ∧ (t.hdr p).cmdReason = 0 ∧
  (t.hdr p).cmdIssuer = m ∧ (t.hdr p).evt.getLsbD 3 = true

/-- A command of a page is executing (R50). -/
def State.Runs (t : State) (p opcode arg m : Nat) : Prop :=
  (t.hdr p).run = some ⟨opcode, arg, m⟩ ∧ (t.hdr p).cmdState = 1 ∧ (t.hdr p).cmdOpcode = opcode ∧ (t.hdr p).cmdIssuer = m

/-- The last thing that the device has put out. -/
def State.Answers (t : State) (o : Out) : Prop := t.out.getLast? = some o

/-! ### What a command leaves alone -/

/-- The parts of the machine: the fields of State, and of its register file the pending group commit and the pages of each
kind. -/
inductive Part where
  | pending
  | mono
  | free
  | lanes
  | trains
  | links
  | transport
  | time
  | cmp
  | cad
  | matte
  | duds
  | gaf
  | diag
  | dram
  | mem
  | arb
  | flt
  | chks
  | reels
  | sram
  | safe
  | pwr
  | thm
  | scal
  | pair
  | fw
  | flash
  | otp
  | boot
  | waiting
  | out
  | commitGroup
  | page (ty : PageType)
deriving DecidableEq, Repr

/-- The number of a kind of page among the parts. -/
def PageType.num : PageType → Nat
  | .sys => 0
  | .time => 1
  | .flt => 2
  | .pwr => 3
  | .thm => 4
  | .scal => 5
  | .saf => 6
  | .grd => 7
  | .fw => 8
  | .pair => 9
  | .arb => 10
  | .mem => 11
  | .cmp => 12
  | .lyr => 13
  | .ovl => 14
  | .matte => 15
  | .cad => 16
  | .gaf => 17
  | .diag => 18
  | .dly => 19
  | .pe => 20
  | .chk => 21
  | .reel => 22
  | .link => 23
  | .lane => 24
  | .dud => 25

/-- The number of a part. -/
def Part.num : Part → Nat
  | .pending => 0
  | .mono => 1
  | .free => 2
  | .lanes => 3
  | .trains => 4
  | .links => 5
  | .transport => 6
  | .time => 7
  | .cmp => 8
  | .cad => 9
  | .matte => 10
  | .duds => 11
  | .gaf => 12
  | .diag => 13
  | .dram => 14
  | .mem => 15
  | .arb => 16
  | .flt => 17
  | .chks => 18
  | .reels => 19
  | .sram => 20
  | .safe => 21
  | .pwr => 22
  | .thm => 23
  | .scal => 24
  | .pair => 25
  | .fw => 26
  | .flash => 27
  | .otp => 28
  | .boot => 29
  | .waiting => 30
  | .out => 31
  | .commitGroup => 32
  | .page ty => 40 + ty.num

/-- Two states have the same header and the same registers on a page: values in effect, shadows, captured values and snapshot
copies. -/
def State.SamePage (p : Nat) (s t : State) : Prop :=
  t.hdr p = s.hdr p ∧ ∀ off, t.word (addrOf p off) = s.word (addrOf p off) ∧ t.shadow (addrOf p off) = s.shadow (addrOf p off) ∧
    t.captured (addrOf p off) = s.captured (addrOf p off) ∧ t.snapWord (addrOf p off) = s.snapWord (addrOf p off)

/-- Two states agree in a part. -/
def Part.Same (s t : State) : Part → Prop
  | .pending => t.pending = s.pending
  | .mono => t.mono = s.mono
  | .free => t.free = s.free
  | .lanes => t.lanes = s.lanes
  | .trains => t.trains = s.trains
  | .links => t.links = s.links
  | .transport => t.transport = s.transport
  | .time => t.time = s.time
  | .cmp => t.cmp = s.cmp
  | .cad => t.cad = s.cad
  | .matte => t.matte = s.matte
  | .duds => t.duds = s.duds
  | .gaf => t.gaf = s.gaf
  | .diag => t.diag = s.diag
  | .dram => t.dram = s.dram
  | .mem => t.mem = s.mem
  | .arb => t.arb = s.arb
  | .flt => t.flt = s.flt
  | .chks => t.chks = s.chks
  | .reels => t.reels = s.reels
  | .sram => t.sram = s.sram
  | .safe => t.safe = s.safe
  | .pwr => t.pwr = s.pwr
  | .thm => t.thm = s.thm
  | .scal => t.scal = s.scal
  | .pair => t.pair = s.pair
  | .fw => t.fw = s.fw
  | .flash => t.flash = s.flash
  | .otp => t.otp = s.otp
  | .boot => t.boot = s.boot
  | .waiting => t.waiting = s.waiting
  | .out => t.out = s.out
  | .commitGroup => t.pages.group = s.pages.group
  | .page ty => ∀ p, (pageOf p).map Prod.fst = some ty → State.SamePage p s t

/-- A set of parts as the bits of a number. -/
def partsMask (l : List Part) : Nat := l.foldl (fun m p => m ||| 1 <<< p.num) 0

/-- Two states agree in every part that is not in a set. -/
def State.SameOutside (m : Nat) (s t : State) : Prop := ∀ p : Part, m.testBit p.num = false → p.Same s t

/-- Two states agree in every part but those listed. -/
def State.SameBut (l : List Part) (s t : State) : Prop := State.SameOutside (partsMask l) s t

/-! ### Outcomes that several statements share -/

/-- The lock of a page has broken: it has no owner, its shadows stand at the values in effect, DIRTY is clear, LOCK_BROKEN is
set; its validated commit and every value in effect are as they were (R46). -/
def State.Broken (p : Nat) (s t : State) : Prop :=
  (t.hdr p).owner = none ∧ (t.hdr p).dirty = false ∧ (t.hdr p).evt.getLsbD 2 = true ∧ (t.hdr p).pend = (s.hdr p).pend ∧
  (∀ off, t.shadow (addrOf p off) = t.word (addrOf p off) &&& BitVec.ofNat 32 (rwsMask (addrOf p off))) ∧
  (∀ a, t.word a = s.word a) ∧ ∀ q, q ≠ p → State.SamePage q s t

/-- The training of a link has failed: the four lanes record the state and the reason, count the attempt and rest in SEEK at
the base rate for the dwell of R84; a link that was in RUN is DOWN (R82, R87). -/
def State.AttemptFailed (n reason : Nat) (s t : State) : Prop :=
  (∀ l ∈ lanesOf n, t.laneState l = 1 ∧ t.fget (pgLane l) LANE.TRAIN_STAT.RATE = 0 ∧
    t.fget (pgLane l) LANE.TRAIN_STAT.FAIL_STATE = s.trainState n ∧
    t.fget (pgLane l) LANE.TRAIN_STAT.FAIL_REASON = reason ∧
    t.fget (pgLane l) LANE.TRAIN_STAT.ATTEMPTS = min (s.attempts n + 1) 255 ∧
    t.fget (pgLane l) LANE.DWELL.MS = dwellMs (min (s.attempts n + 1) 255) ∧ (t.hdr (pgLane l)).evt.getLsbD 10 = true) ∧
  (s.trainState n = 6 → t.linkState n = 0)

/-- A CONTROL request for this device arrives on a link that takes CONTROL: its cells can be used and are authentic, and it is
well formed. `u` is the state once its cells are counted and forwarded (R101, R108, R116, R117, R121, R127). -/
def State.Requested (s : State) (n : Nat) (cells : List Nat) (u : State) (vs : List CellView) (q : Request) : Prop :=
  s.linkState n ≠ 0 ∧ cells ≠ [] ∧ (n = 0 ∨ n = 1 ∨ n = 5) ∧ ∃ w, s.checkCells n cells = (vs, true, w) ∧
    (∀ v ∈ vs, v.type = 2) ∧ w.ctlOk n = true ∧ ctlDev cells = w.deviceId ∧
    u = { w with out := w.out ++
      ((w.routes n (ctlDev cells) (ctlDev cells)).filter w.ctlOk).flatMap (fun d => cells.map (Out.cell d)) } ∧
    (w.noKey n = true ∨ vs.all u.safetyMacOk = true) ∧ ctlRequest vs = some q

/-- A command of a page has ended FAILED with a reason (R50, R51). -/
def State.Failed (t : State) (p opcode m reason : Nat) : Prop :=
  (t.hdr p).run = none ∧ (t.hdr p).cmdState = 6 ∧ (t.hdr p).cmdOpcode = opcode ∧ (t.hdr p).cmdReason = reason ∧
  (t.hdr p).cmdIssuer = m ∧ (t.hdr p).evt.getLsbD 4 = true

/-- A cause has met the groups of a mask (R398): a group in READY, CLOSING or PERMIT is OPENING with its switches off, and keeps a
lockout cause for its end; one that is OPENING keeps the first lockout cause; an enabled one in SAFE is locked out by a lockout
cause; any other group is as it was. Only when a group has moved are the cause and the groups recorded and counted. -/
def State.Tripped (lock : Bool) (cause groups : Nat) (s t : State) : Prop :=
  (∀ g, g < 4 → bit groups g = true →
    ((s.group g).state = .ready ∨ (s.group g).state = .closing ∨ (s.group g).state = .permit →
      (t.group g).state = .opening ∧ (t.group g).swA = false ∧ (t.group g).swB = false ∧ (t.group g).since = s.mono ∧
      (t.group g).lockCause = if lock = true then cause else 0) ∧
    ((s.group g).state = .opening → (t.group g).state = .opening ∧
      (t.group g).lockCause = if lock = true ∧ (s.group g).lockCause = 0 then cause else (s.group g).lockCause) ∧
    ((s.group g).state = .safe → lock = true → s.groupEn g = true → (t.group g).state = .lockout ∧
      (t.group g).swA = false ∧ (t.group g).swB = false ∧ t.fget pgSaf (SAF.LOCK_CAUSE.CAUSE g) = cause) ∧
    ((s.group g).state = .safe → lock = false ∨ s.groupEn g = false → t.group g = s.group g) ∧
    ((s.group g).state = .start ∨ (s.group g).state = .lockout → t.group g = s.group g)) ∧
  (∀ g, bit groups g = false → t.group g = s.group g) ∧
  (groups &&& (s.groupsIn .ready ||| s.groupsIn .closing ||| s.groupsIn .permit) ≠ 0 →
    t.fget pgSaf SAF.TRIP_INFO.CAUSE = cause ∧
    t.fget pgSaf SAF.TRIP_INFO.GROUPS = groups &&& (s.groupsIn .ready ||| s.groupsIn .closing ||| s.groupsIn .permit) ∧
    t.fget pgSaf SAF.TRIP_CNT.TRIPS = min (s.fget pgSaf SAF.TRIP_CNT.TRIPS + 1) 65535 ∧
    t.fget pgGrd GRD.STAT.LAST_CAUSE = cause ∧ t.fget pgGrd GRD.CNT.TRIPS = min (s.fget pgGrd GRD.CNT.TRIPS + 1) 65535 ∧
    (t.hdr pgSaf).evt.getLsbD 8 = true ∧ (t.hdr pgGrd).evt.getLsbD 8 = true) ∧
  (groups &&& (s.groupsIn .ready ||| s.groupsIn .closing ||| s.groupsIn .permit) = 0 →
    t.word (addrOf pgSaf 0x058) = s.word (addrOf pgSaf 0x058) ∧
    t.fget pgSaf SAF.TRIP_CNT.TRIPS = s.fget pgSaf SAF.TRIP_CNT.TRIPS ∧
    t.fget pgGrd GRD.STAT.LAST_CAUSE = s.fget pgGrd GRD.STAT.LAST_CAUSE ∧
    t.fget pgGrd GRD.CNT.TRIPS = s.fget pgGrd GRD.CNT.TRIPS)

/-- All the pages. -/
def anyPage : List Part :=
  [.page .sys, .page .time, .page .flt, .page .pwr, .page .thm, .page .scal, .page .saf, .page .grd, .page .fw, .page .pair,
    .page .arb, .page .mem, .page .cmp, .page .lyr, .page .ovl, .page .matte, .page .cad, .page .gaf, .page .diag, .page .dly,
    .page .pe, .page .chk, .page .reel, .page .link, .page .lane, .page .dud]

/-- A MIRROR message has come in over LINK4: MGEN_RX holds its MGEN; where that does not follow the last one, a device that
follows its partner has lost READY, and NR_REASON keeps its first cause (R481, R491). -/
def State.Heard (mgen : Nat) (s t : State) : Prop :=
  t.fget pgPair PAIR.MGEN_RX.MGEN = mgen ∧ t.pairState = s.pairState ∧
  (mgen = (s.fget pgPair PAIR.MGEN_RX.MGEN + 1) % 2 ^ 32 ∨ s.pairFollows = false →
    t.pair = s.pair ∧ t.word (addrOf pgPair 0x080) = s.word (addrOf pgPair 0x080)) ∧
  (mgen ≠ (s.fget pgPair PAIR.MGEN_RX.MGEN + 1) % 2 ^ 32 → s.pairFollows = true →
    t.pair = { s.pair with diverged := true, goodRun := none } ∧ t.pairReady = false ∧
    t.fget pgPair PAIR.STAT.NR_REASON = if s.pairReady = true ∨ s.fget pgPair PAIR.STAT.NR_REASON = 0 then 2
      else s.fget pgPair PAIR.STAT.NR_REASON) ∧
  State.SameBut [.pair, .out, .page .pair] s t

/-- A device is as after power-on, but for what no reset touches: the commands that wait, non-volatile storage, the key, the levels
at the pins, and what has left the device (R533, R537). Five pages show more than their reset values. -/
def State.Cleared (s t : State) : Prop :=
  t = { State.reset with pending := s.pending, out := t.out, free := s.free, flash := s.flash, otp := s.otp, pages := t.pages,
                         cad := { seals := s.cad.seals }, transport := { key := s.transport.key }, lanes := t.lanes,
                         safe := t.safe } ∧
  (∀ p, p ≠ pgSys → p ≠ pgPwr → p ≠ pgFw → p ≠ pgCad → p ≠ pgLink 0 → State.SamePage p State.reset t) ∧
  (∀ p, t.hdr p = {}) ∧ t.pages.group = none ∧
  (∀ l, l < 24 → SMap.read {} t.lanes l = { signal := (SMap.read {} s.lanes l).signal }) ∧
  ∀ g, (t.group g).state = .start ∧ (t.group g).swA = false ∧ (t.group g).swB = false

/-- A device reset keeps the counts of resets and what the brownout registers hold, and records its cause (R533). -/
def State.ResetBy (cause straps : Nat) (s t : State) : Prop :=
  State.Cleared s t ∧ t.fget pgSys SYS.RESET_STAT.CAUSE = cause ∧
  t.fget pgSys SYS.RESET_STAT.DEVICE_RESETS = min (s.fget pgSys SYS.RESET_STAT.DEVICE_RESETS + 1) 65535 ∧
  t.fget pgSys SYS.BOOT_STAT.STRAPS = straps ∧ (t.fbit pgSys SYS.BOOT_STAT.STRAP_BAD = decide (4 ≤ straps)) ∧
  ∀ o ∈ [PWR.BO_STAT.BO_CNT.off, PWR.BO_MASK.DOMAINS.off, PWR.BO_TIME_LO.NS.off, PWR.BO_TIME_HI.NS.off],
    t.word (addrOf pgPwr o) = s.word (addrOf pgPwr o)

end Sys2Proof.Machine
end

