-- ==== Sys2Proof/Certificates/Slice0/Obligations.lean ====
section
/-! DEFINITION. The statements for the provers: what each command does to the state, what it leaves alone, and what holds of every
step. Where a statement speaks of a write, a read or a command that goes through, it is State.writes, State.reads or
State.accepts of Sys2Proof/Safety.lean. -/

open Sys2Proof Sys2Proof.Machine

/-- The block takes its commands one at a time, first in, first out: a step runs the front command on the state with the rest of
the queue. With none waiting it idles, as log 1 chooses: one nanosecond of the model's clock passes and the next queued
upward message may leave; without supplies nothing happens (R554). What an empty queue does is the model's choice, log 1. -/
def Obligations.AStepRunsTheFrontCommand : Prop :=
  (∀ (c : Instr) (s : State), step { s with pending := c :: s.pending } = exec c s) ∧
  (∀ (c : Instr) (rest : List Instr) (s : State), s.pending = c :: rest → step s = exec c { s with pending := rest }) ∧
  ∀ s : State, s.pending = [] → ∃ t : State, step s = .next t ∧ (s.Inv → t.pending = []) ∧
    (s.boot.powered = false → t = s) ∧ (s.boot.powered = true → t.mono = s.mono + 1)

/-- R554 and what no rule lets a command do: every command answers a next state and leaves the commands behind it alone; a
device without its supplies keeps its state under every command but the return of the supplies and their further loss. -/
def Obligations.EveryCommandAnswers : Prop :=
  ∀ (c : Instr) (s : State),
    (∃ t : State, exec c s = .next t ∧ (s.Inv → t.pending = s.pending)) ∧
    (s.boot.powered = false → (∀ straps, c ≠ .powerOnReset straps) → c ≠ .powerDown → exec c s = .next s)

/-- R394, R533: after reset every store is in its canonical form, every group is in START with both its switches open, no key is
held, no command waits, and no page has an owner or a command running. -/
def Obligations.ResetIsSafe : Prop :=
  State.reset.Inv ∧ State.reset.pending = [] ∧ State.reset.transport.key = none ∧
  (∀ g, (State.reset.group g).state = .start ∧ (State.reset.group g).swA = false ∧ (State.reset.group g).swB = false) ∧
  ∀ p, (State.reset.hdr p).owner = none ∧ (State.reset.hdr p).run = none

/-- R396, R410: from every state whose stores are canonical and in which a switch of SAFE_OUT is closed only in CLOSING or
PERMIT, every step leads to such a state again, whatever the command. -/
def Obligations.EveryStepKeepsTheInvariant : Prop :=
  ∀ s t : State, s.Inv → step s = .next t → t.Inv

/-- R511, R522, R529, R530: one-time-programmable storage only moves one way. No step clears a bit of it, lowers a minimum SVN,
takes back a revocation or changes a key hash. -/
def Obligations.ProgrammedStorageStays : Prop :=
  ∀ s t : State, s.Inv → step s = .next t → OtpSt.Before s.otp t.otp

/-- R413: no state other than READY leads to light, and READY leads to light only through a qualified SAFE_RESET pulse. A group
is found in CLOSING after a command only if it was there, or if it stood in READY, was in READY at the rising edge too, and
the command is the falling edge of a pulse that R414 qualifies; it is found in PERMIT only if it was there or stood in
CLOSING before its feedback changed. No other command, whatever it is, brings a group nearer to light. -/
def Obligations.LightComesOnlyByResetAndFeedback : Prop :=
  ∀ (c : Instr) (s t : State), s.Inv → exec c s = .next t → ∀ g,
    ((t.group g).state = .closing → (s.group g).state = .closing ∨
      (s.group g).state = .ready ∧ c = .safeResetEdge false ∧ s.safe.rstHigh = true ∧ s.safe.rstQual = true ∧
        s.safe.rstRejected = false ∧ bit s.safe.rstReady g = true ∧ 50000000 ≤ s.mono - s.safe.rstRise ∧
        s.mono - s.safe.rstRise ≤ 3000000000) ∧
    ((t.group g).state = .permit → (s.group g).state = .permit ∨
      (s.group g).state = .closing ∧ ∃ k isOpen, c = .fbChange k isOpen)

/-- R45: what a write to PAGE_LOCK without BREAK does. A free lock and the writer's own take a lease; the owner's lease of 0
frees the lock and raises no event; a lock that another master holds turns the write away with NOT_OWNER. Nothing else
changes, so no request is queued. -/
def Obligations.LocksAreTakenKeptAndReleased : Prop :=
  (∀ (s : State) (m : Master) (p : Fin 128) (lease : BitVec 24),
    s.writes m.id p 0x028 (lease.toNat * 256) = true → lease ≠ 0 →
    (s.hdr p).owner = none ∨ (s.hdr p).owner = some m.id →
    exec (.lockLease m p lease) s = .next ((s.setHdr p { s.hdr p with
      owner := some m.id, leaseEnd := s.mono + lease.toNat * 1000 }).emit (.access m.id 0 0))) ∧
  ((∀ (s : State) (m : Master) (p : Fin 128), s.writes m.id p 0x028 0 = true → (s.hdr p).owner = some m.id →
    exec (.lockRelease m p) s =
      .next ((s.setHdr p { s.hdr p with owner := none, leaseEnd := 0 }).emit (.access m.id 0 0))) ∧
  (∀ (s : State) (m : Master) (p : Fin 128) (lease : BitVec 24) (o : Nat),
    s.writes m.id p 0x028 (lease.toNat * 256) = true → (s.hdr p).owner = some o → o ≠ m.id →
    exec (.lockLease m p lease) s = .next ((s.usage p).emit (.access m.id 4 0))) ∧
  (∀ (s : State) (m : Master) (p : Fin 128) (o : Nat), s.writes m.id p 0x028 0 = true → (s.hdr p).owner = some o → o ≠ m.id →
    exec (.lockRelease m p) s = .next ((s.usage p).emit (.access m.id 4 0))))

/-- R46: a lock that breaks, by BREAK or by the end of its lease, leaves no owner and raises LOCK_BROKEN; the shadows reload
from the values in effect and DIRTY clears; a commit that has validated stays, and no value in effect changes. -/
def Obligations.LockBreaks : Prop :=
  (∀ (s : State) (m : Master) (p : Fin 128), s.writes m.id p 0x028 0x80 = true → (s.hdr p).owner ≠ none →
    s.pages.wf = true →
    ∃ t, exec (.lockBreak m p) s = .next t ∧ State.Broken p s t ∧ t.Answers (.access m.id 0 0)) ∧
  (∀ (s : State) (p : Fin 128), s.boot.powered = true → (s.hdr p).owner ≠ none → s.domOn (domainOf p) = true →
    s.pages.wf = true →
    ∃ t, exec (.leaseExpiry p) s = .next t ∧ State.Broken p s t ∧ t.mono = max s.mono (s.hdr p).leaseEnd)

/-- R48, R50, R564: NONE has no effect, DISCARD_SHADOW reloads every shadow of its page and clears DIRTY, and CLEAR_COUNTERS
sets the page's counts to 0; each ends DONE, answers OK, and leaves every other page and every block alone. R52 to R54: a
write to PAGE_EVT clears the flags it names, a write to PAGE_EVT_FORCE sets those that the page implements, and a write to
PAGE_EVT_EN replaces the enables; nothing else of the page and no other page changes. -/
def Obligations.CommonCommandsAndFlagsTakeEffect : Prop :=
  (∀ (s : State) (m : Master) (p : Fin 128) (ty : PageType), (pageOf p).map Prod.fst = some ty →
    (s.accepts m.id p 0x00 0 = true → ∃ t, exec (.cmdNone m p) s = .next t ∧ t.Done p 0x00 m.id ∧
      t.Answers (.access m.id 0 0) ∧ (∀ a, t.word a = s.word a ∧ t.shadow a = s.shadow a) ∧
      State.SameBut [.out, .page ty] s t) ∧
    (s.accepts m.id p 0x01 0 = true → s.pages.wf = true → ∃ t, exec (.discardShadow m p) s = .next t ∧
      t.Done p 0x01 m.id ∧ t.Answers (.access m.id 0 0) ∧ (t.hdr p).dirty = false ∧
      (∀ off, t.shadow (addrOf p off) = t.word (addrOf p off) &&& BitVec.ofNat 32 (rwsMask (addrOf p off))) ∧
      (∀ a, t.word a = s.word a) ∧ State.SameBut [.out, .page ty] s t) ∧
    (s.accepts m.id p 0x02 0 = true → ∃ t, exec (.clearCounters m p) s = .next t ∧ t.Done p 0x02 m.id ∧
      t.Answers (.access m.id 0 0) ∧ (t.hdr p).usage = 0 ∧ (t.hdr p).fault = 0 ∧ (t.hdr p).usageCopy = 0 ∧
      (t.hdr p).faultCopy = 0 ∧ (∀ r i off, regOf (addrOf p off) = some (r, i) → off < 0x1000 →
        t.word (addrOf p off) &&& BitVec.ofNat 32 ((r.snap ||| r.cnt) &&& (0xFFFFFFFF - r.sreg)) = 0) ∧
      State.SameBut [.out, .page ty] s t)) ∧
  (∀ (s : State) (m : Master) (p : Fin 128) (ty : PageType) (bits : BitVec 32), (pageOf p).map Prod.fst = some ty →
    (s.writes m.id p 0x010 bits.toNat = true → ∃ t, exec (.evtClear m p bits) s = .next t ∧
      t.hdr p = { s.hdr p with evt := (s.hdr p).evt &&& ~~~ bits } ∧ t.Answers (.access m.id 0 0) ∧
      (∀ a, t.word a = s.word a) ∧ State.SameBut [.out, .page ty] s t) ∧
    (s.writes m.id p 0x018 bits.toNat = true → ∃ t, exec (.evtForce m p bits) s = .next t ∧
      (∀ i, i < 32 → (t.hdr p).evt.getLsbD i = ((s.hdr p).evt.getLsbD i || (bits.getLsbD i && (evtImpl p).getLsbD i))) ∧
      t.Answers (.access m.id 0 0) ∧ (∀ a, t.word a = s.word a) ∧ State.SameBut [.out, .page ty] s t) ∧
    (s.writes m.id p 0x014 bits.toNat = true → ∃ t, exec (.evtEnableWrite m p bits) s = .next t ∧
      t.hdr p = { s.hdr p with evtEn := bits &&& evtImpl p } ∧ t.Answers (.access m.id 0 0) ∧
      (∀ a, t.word a = s.word a) ∧ State.SameBut [.out, .page ty] s t))

/-- R57 to R59: PAGE_SNAP.TAKE raises BUSY; the completed snapshot has copied every snapshot counter in one cycle, clears BUSY
and counts SEQ on; a group snapshot takes every selected page that is ON at once and passes over the others. R34, R55, R135:
reading an RC field returns its value and leaves it 0, so it is with the counts of PAGE_EVT_MISS; reading NOW_LO returns the
low half of the time and latches the rest of it. -/
def Obligations.SnapshotsAndReadsCopyOut : Prop :=
  ((∀ (s : State) (m : Master) (p : Fin 128), s.writes m.id p 0x038 1 = true →
    exec (.snapshotTake m p) s =
      .next ((s.setHdr p { s.hdr p with snapBusy := true }).emit (.access m.id 0 0))) ∧
  (∀ (s : State) (p : Fin 128) (ty : PageType), (pageOf p).map Prod.fst = some ty → s.boot.powered = true →
    (s.hdr p).snapBusy = true → ∃ t, exec (.snapshotDone p) s = .next t ∧
      t.hdr p = { s.hdr p with
        usageCopy := (s.hdr p).usage, faultCopy := (s.hdr p).fault, snapBusy := false
        snapSeq := ((s.hdr p).snapSeq + 1) % 65536 } ∧
      (ty ≠ .lane → ∀ r i off, regOf (addrOf p off) = some (r, i) → off < 0x1000 → r.snap ≠ 0 →
        t.snapWord (addrOf p off) = s.word (addrOf p off) &&& BitVec.ofNat 32 r.snap) ∧
      (∀ a, t.shadow a = s.shadow a) ∧ State.SameBut [.lanes, .page ty] s t) ∧
  (∀ (s : State) (m : Master), s.writes m.id pgSys SYS.COMMIT_GROUP.GO.off 9 = true →
    ∃ t, exec (.groupSnapshot m) s = .next t ∧ t.Answers (.access m.id 0 0) ∧
      ∀ p, ((t.hdr p).snapBusy, (t.hdr p).snapSeq) =
        if s.groupSelected.contains p && (capOf p).isSome && s.domOn (domainOf p) then
          (false, ((s.hdr p).snapSeq + 1) % 65536)
        else ((s.hdr p).snapBusy, (s.hdr p).snapSeq))) ∧
  ((∀ (s : State) (m : Master) (addr : BitVec 32) (off : Nat) (r : Reg) (i : Nat),
    addr.toNat = 0x02000000 + addrOf pgTime off → 0x040 ≤ off → off < 0x1000 → off ≠ TIME.NOW_LO.NS.off →
    regOf (addrOf pgTime off) = some (r, i) → (r.snap ||| r.rws) &&& r.rc = 0 → s.reads m.id pgTime off = true →
    ∃ t v, exec (.rcRead m addr) s = .next t ∧ t.Answers (.access m.id 0 v) ∧
      v &&& r.rc = (s.word (addrOf pgTime off)).toNat &&& r.rc ∧
      t.word (addrOf pgTime off) = s.word (addrOf pgTime off) &&& ~~~ BitVec.ofNat 32 r.rc ∧
      (∀ a, a ≠ addrOf pgTime off → t.word a = s.word a) ∧ State.SameBut [.out, .page .time] s t) ∧
  (∀ (s : State) (m : Master) (addr : BitVec 32) (p : Nat) (ty : PageType), (pageOf p).map Prod.fst = some ty →
    addr.toNat = 0x02000000 + addrOf p 0x01C → s.reads m.id p 0x01C = true →
    exec (.rcRead m addr) s = .next ((s.setHdr p { s.hdr p with missCount := 0, missBit := 0 }).emit
      (.access m.id 0 ((s.hdr p).missCount + (s.hdr p).missBit * 2 ^ 16)))) ∧
  (∀ (s : State) (m : Master), s.reads m.id pgTime TIME.NOW_LO.NS.off = true →
    ∃ t, exec (.nowLoRead m) s = .next t ∧ t.Answers (.access m.id 0 (s.now % 2 ^ 32)) ∧
      t.fget pgTime TIME.NOW_HI.NS = s.now / 2 ^ 32 % 2 ^ 32 ∧ t.fget pgTime TIME.NOW_FRAC.FRAC = s.time.sys % 65536 ∧
      State.SameBut [.out, .page .time] s t))

/-- R29, R34: a write to a register that does nothing else puts what is written into the register's RW bits at once and into the
shadow of its RWS bits, clears the W1C bits that are written as 1, sets DIRTY for RWS bits and changes no other bit; a
master that does not hold the page's lock is turned away from a register with RWS bits. -/
def Obligations.WritesFollowAccessCodes : Prop :=
  ∀ (s : State) (m : Master) (p off : Nat) (ty : PageType) (r : Reg) (i : Nat) (addr data : BitVec 32),
    addr.toNat = 0x02000000 + addrOf p off → 0x040 ≤ off → off < 0x1000 → (pageOf p).map Prod.fst = some ty →
    regOf (addrOf p off) = some (r, i) → r.wo = 0 → hookStores p off = false →
    (∀ u : State, u.blockHook m.id p off data.toNat = u) → s.writes m.id p off data.toNat = true →
    (r.rws = 0 ∨ s.holds m.id p = true → r.rw ||| r.rws ||| r.w1c ≠ 0 → data &&& BitVec.ofNat 32 (r.ro ||| r.rc) = 0 →
      ∃ t, exec (.registerWrite m addr data) s = .next t ∧ t.Answers (.access m.id 0 0) ∧
      (∀ b, b < 32 → (t.word (addrOf p off)).getLsbD b =
        if r.w1c.testBit b && data.getLsbD b && (servedBits (addrOf p off)).testBit b then false
        else if r.rw.testBit b && (servedBits (addrOf p off)).testBit b then data.getLsbD b
        else (s.word (addrOf p off)).getLsbD b) ∧
      (if r.rws = 0 then ∀ a, t.shadow a = s.shadow a
       else t.shadow (addrOf p off) = data &&& BitVec.ofNat 32 (servedBits (addrOf p off) &&& r.rws) ∧
         (t.hdr p).dirty = true) ∧
      (∀ a, a ≠ addrOf p off → t.word a = s.word a ∧ t.shadow a = s.shadow a) ∧
      State.SameBut [.out, .page ty] s t) ∧
    (r.rws ≠ 0 → s.holds m.id p = false →
      exec (.registerWrite m addr data) s = .next ((s.usage p).emit (.access m.id 4 0)))

/-- R35 to R37, R40: the holder of the lock that writes GO has its request validated at once; a valid one captures every shadow
into the pending set and changes no value in effect, an immediate one is applied as it is captured, and a refused one is
recorded with its reason and raises COMMIT_FAILED. Another master gets NOT_OWNER. -/
def Obligations.CommitIsCapturedOrRefused : Prop :=
  ∀ (s u : State) (m : Master) (p : Fin 128) (b : Fin 4) (ty : PageType), (pageOf p).map Prod.fst = some ty →
    s.writes m.id p 0x02C (1 + 2 * b) = true →
    (s.holds m.id p = true → u = s.setHdr p { s.hdr p with boundary := b } →
      (u.commitCheck [p.val] m.id p b = none → b ≠ 2 → s.pages.wf = true →
        ∃ t mirrored, exec (.pageCommitGo m p b) s = .next t ∧ t.Answers (.access m.id 0 0) ∧
          t.hdr p = { u.hdr p with
            pend := some ⟨b, 0, false, mirrored⟩, commitState := 1, commitReason := 0, dirtyAfter := false } ∧
          (∀ off, t.captured (addrOf p off) = s.shadow (addrOf p off)) ∧
          (∀ off, t.word (addrOf p off) = s.word (addrOf p off)) ∧ (∀ a, t.shadow a = s.shadow a) ∧
          State.SameBut [.pair, .out, .page .pair, .page ty] s t) ∧
      (u.commitCheck [p.val] m.id p b = none → b = 2 →
        exec (.pageCommitGo m p b) s =
          .next (((u.captureCommit p 2 false).applyPages [p.val]).emit (.access m.id 0 0))) ∧
      (∀ reason, u.commitCheck [p.val] m.id p b = some reason →
        ∃ t, exec (.pageCommitGo m p b) s = .next t ∧ t.Answers (.access m.id 0 0) ∧
          (t.hdr p).commitState = 3 ∧ (t.hdr p).commitReason = reason ∧ (t.hdr p).evt.getLsbD 1 = true ∧
          (t.hdr p).pend = (s.hdr p).pend ∧ (∀ a, t.shadow a = s.shadow a ∧ t.captured a = s.captured a) ∧
          State.SameBut [.out, .page .sys, .page ty] s t)) ∧
    (s.holds m.id p = false → ∃ t, exec (.pageCommitGo m p b) s = .next t ∧ t.Answers (.access m.id 4 0) ∧
      (t.hdr p).pend = (s.hdr p).pend ∧ (t.hdr p).commitState = 3 ∧ (t.hdr p).commitReason = 1)

/-- R41, R43: a group commit captures every selected page, or none: where every page passes its checks each of them holds a
pending set of the group and GROUP_STAT shows it waiting; where one fails none is captured, the group is refused, and where
a group already waits the request is refused. -/
def Obligations.GroupCommitIsAllOrNothing : Prop :=
  ∀ (s u : State) (m : Master) (b : Fin 4) (r : Reg) (i : Nat),
    regOf (addrOf pgSys SYS.COMMIT_GROUP.GO.off) = some (r, i) →
    u = s.storeBlock (addrOf pgSys SYS.COMMIT_GROUP.GO.off) (1 + 2 * b) r →
    s.writes m.id pgSys SYS.COMMIT_GROUP.GO.off (1 + 2 * b) = true →
    (u.pages.group = none → (∀ p ∈ u.groupSelected, u.groupCheck u.groupSelected m.id p b = none) → b ≠ 2 →
      ∃ t, exec (.commitGroup m b) s = .next t ∧ t.Answers (.access m.id 0 0) ∧
        t.pages.group = some ⟨u.groupSelected, b, 0⟩ ∧ t.fget pgSys SYS.GROUP_STAT.STATE = 1 ∧
        (∀ p ∈ u.groupSelected, (∃ mirrored, (t.hdr p).pend = some ⟨b, 0, true, mirrored⟩) ∧ (t.hdr p).commitState = 1) ∧
        (∀ p, p ∉ u.groupSelected → p ≠ pgPair → t.hdr p = s.hdr p) ∧ ∀ a, t.shadow a = s.shadow a) ∧
    (u.pages.group = none → (∃ p ∈ u.groupSelected, u.groupCheck u.groupSelected m.id p b ≠ none) →
      ∃ t, exec (.commitGroup m b) s = .next t ∧ t.pages.group = none ∧ t.fget pgSys SYS.GROUP_STAT.STATE = 3 ∧
        (∀ p, (t.hdr p).pend = (s.hdr p).pend) ∧ ∀ a, t.captured a = s.captured a) ∧
    (u.pages.group ≠ none → ∃ t, exec (.commitGroup m b) s = .next t ∧ t.pages.group = s.pages.group ∧
      t.fget pgSys SYS.GROUP_STAT.STATE = 3 ∧ ∀ p, t.hdr p = s.hdr p)

/-- R16, R145, R146, R151: at B(k) the frame that runs ends and the next one opens with the next frame number and BOUNDARY; then
the windows latch, the mode advances, every commit that waits for a frame or slot boundary meets it, and each block begins
the frame. A slot of a take below T starts after its phase, and commits that wait for slots meet it; a slot of phase 0
starts with the frame itself. R151, R153, R157, R283: blanking begins once in a frame, raises FRAME_LATE where the codes
that were delivered are not acknowledged and sends FRAMESET on the rings; CUE is raised for each frame that is composed, and
for none in still mode. -/
def Obligations.FramesOpenBlankAndCue : Prop :=
  ((∀ (s : State) (produced : Nat) (missed : List Nat), s.boot.powered = true →
    ∃ e o t, e = s.endFrame produced missed ∧ o = e.openFrame ∧ o.time.k = e.time.k + 1 ∧ (o.hdr pgTime).evt.getLsbD 11 = true ∧
      o.fget pgTime TIME.FRAME.NUMBER = o.frameAt o.time.k ∧ o.time.blanking = false ∧ o.time.boundaryAt = o.mono ∧
      t = (((((o.permitBoundary).latchWindows o.mono).stageBoundary).commitsAt 0).commitsAt 1).afterCommits
        (((o.permitBoundary).latchWindows o.mono).stageBoundary) s.takes s.tilesReady ∧
      exec (.frameBoundary produced missed) s = .next (t.pairSlot t.slotAtBoundary).settle) ∧
  (∀ (s : State) (j : Fin 4), s.boot.powered = true →
    ((j < s.takes ∧ s.fget pgTime (TIME.SLOT_PHASE.PHASE j) ≠ 0) →
      ∃ o, exec (.slotBoundary j) s = .next ((o.commitsAt 1).pairSlot j).settle ∧
        (s.time.sys ≤ s.boundarySys s.time.k + s.fget pgTime (TIME.SLOT_PHASE.PHASE j) * 1024 →
          s.boundarySys s.time.k + s.fget pgTime (TIME.SLOT_PHASE.PHASE j) * 1024 < 2 ^ 80 - 65536 →
          s.boundarySys s.time.k + s.fget pgTime (TIME.SLOT_PHASE.PHASE j) * 1024 ≤ o.time.sys ∧
          o.time.sys < s.boundarySys s.time.k + s.fget pgTime (TIME.SLOT_PHASE.PHASE j) * 1024 + 65536) ∧
        State.SameBut [.mono, .time] s o) ∧
    ((s.takes ≤ j ∨ s.fget pgTime (TIME.SLOT_PHASE.PHASE j) = 0) → exec (.slotBoundary j) s = .next s))) ∧
  ((∀ s : State, s.boot.powered = true → s.time.blanking = false →
    ∃ t, exec .blankingStart s = .next t ∧ t.time.blanking = true ∧ s.mono ≤ t.mono ∧
      (s.time.frameAwaited = true ∧ s.time.frameDone = false →
        t.time.frameLate = true ∧ (t.hdr pgTime).evt.getLsbD 14 = true) ∧
      (¬ (s.time.frameAwaited = true ∧ s.time.frameDone = false) →
        t.time.frameLate = s.time.frameLate ∧ t.hdr pgTime = s.hdr pgTime) ∧
      State.SameBut [.mono, .time, .free, .duds, .out, .page .time] s t) ∧
  (∀ s : State, s.boot.powered = true → s.time.blanking = true → exec .blankingStart s = .next s) ∧
  (∀ s : State, s.boot.powered = true →
    ∃ t, exec .cue s = .next t ∧
      (s.fbit pgTime TIME.STILL_STAT.STILL = false → (t.hdr pgTime).evt.getLsbD 12 = true) ∧
      (s.fbit pgTime TIME.STILL_STAT.STILL = true → t = s) ∧ (∀ a, t.word a = s.word a) ∧
      State.SameBut [.out, .page .time] s t))

/-- R159, R192, R241, R251: a tile that is due is computed pixel by pixel, posts its signature and its matte read signature and
counts as done, and the last tile of its quadrant leaves the engine's end-of-frame mark; a tile without a signature at the
deadline has frozen, is counted, raises FREEZE and is reported as FATAL. Another tile changes nothing. -/
def Obligations.TilesAreDoneOrFrozen : Prop :=
  ∀ (s : State) (tile : Fin 16) (late : List Nat), s.boot.powered = true →
    (s.tileComputed tile = true → ∃ u v,
      u = { s with
        cmp := { s.cmp with late := s.cmp.late ++ late.filter (fun v =>
          v / 2 ^ 20 < s.takes && tileOfPixel (v % 1024) (v % 2 ^ 20 / 1024) = tile) } } ∧
      v = ((({ u with
        matte := { u.matte with borrowNow := u.matte.borrowNow + u.tileBorrowers tile, borrowSeen := true } } : State).peTile
          tile).postSignature tile).postReadSig tile ∧
      ∃ t, exec (.peTileDone tile late) s = .next t ∧ t.cad.done = v.cad.done ||| 1 <<< tile.val ∧
        ((tilesOfQuadrant (portGroup tile)).all (fun q => !bit v.cad.computing q || bit (v.cad.done ||| 1 <<< tile.val) q) =
          true → t.safe.marks = v.safe.marks ||| 1 <<< portGroup tile) ∧
        ((tilesOfQuadrant (portGroup tile)).all (fun q => !bit v.cad.computing q || bit (v.cad.done ||| 1 <<< tile.val) q) =
          false → t.safe = v.safe) ∧
        State.SameBut [.cad, .safe, .out, .page .pe] v t) ∧
    (s.tileComputed tile = false → exec (.peTileDone tile late) s = .next s) ∧
    ((bit s.cad.computing tile && !bit s.cad.done tile && !s.fbit pgTime TIME.STILL_STAT.STILL) = true →
      ∃ u, exec (.tileSignatureDeadline tile) s = .next (u.report { src := pgPe (portGroup tile), cls := 4 }) ∧
        bit (u.fget pgTime TIME.FREEZE_STAT.TILES) tile = true ∧
        u.fget pgTime TIME.FREEZE_STAT.COUNT = min (s.fget pgTime TIME.FREEZE_STAT.COUNT + 1) 65535 ∧
        (u.hdr pgTime).evt.getLsbD 18 = true ∧ u.mono = max s.mono (s.time.boundaryAt + s.period * 92 / 100 / 65536) ∧
        State.SameBut [.mono, .time, .out, .page .time] s u) ∧
    ((bit s.cad.computing tile && !bit s.cad.done tile && !s.fbit pgTime TIME.STILL_STAT.STILL) = false →
      exec (.tileSignatureDeadline tile) s = .next s)

/-- R142, R145, R148, R158: SET_TIME steps the count of the root to SET_LO and SET_HI and numbers the frame that this instant
lies in, STILL_EXIT ends still mode at the next boundary, and CLAP_RESTART empties the average of its input; each ends DONE. -/
def Obligations.TimeCommandsTakeEffect : Prop :=
  ∀ (s : State) (m : Master),
    (s.accepts m.id pgTime 0x10 0 = true → ∃ t, exec (.setTime m) s = .next t.settle ∧ t.Done pgTime 0x10 m.id ∧
      t.Answers (.access m.id 0 0) ∧
      t.time.sys = s.fget64 pgTime TIME.SET_LO.NS TIME.SET_HI.NS * 65536 % 2 ^ 80 ∧
      (0 < s.period → s.time.origin ≤ s.fget64 pgTime TIME.SET_LO.NS TIME.SET_HI.NS * 65536 →
        t.boundarySys t.time.k ≤ s.fget64 pgTime TIME.SET_LO.NS TIME.SET_HI.NS * 65536 ∧
        s.fget64 pgTime TIME.SET_LO.NS TIME.SET_HI.NS * 65536 < t.boundarySys (t.time.k + 1)) ∧
      t.fget pgTime TIME.FRAME.NUMBER = t.frameAt t.time.k ∧ State.SameBut [.time, .out, .page .time] s t) ∧
    (s.accepts m.id pgTime 0x11 0 = true → ∃ t, exec (.stillExit m) s = .next t ∧ t.Done pgTime 0x11 m.id ∧
      t.Answers (.access m.id 0 0) ∧ t.time = { s.time with stillExit := true } ∧ (∀ a, t.word a = s.word a) ∧
      State.SameBut [.time, .out, .page .time] s t) ∧
    (∀ c : Fin 4, s.accepts m.id pgTime 0x12 c = true → ∃ t, exec (.clapRestart m c) s = .next t ∧
      t.Done pgTime 0x12 m.id ∧ t.Answers (.access m.id 0 0) ∧ (t.clap c).phases = [] ∧
      t.fget pgTime (TIME.CLAP_PHASE.PHASE c) = 0 ∧ bit (t.fget pgTime TIME.CLAP_STAT.LOCK) c = false ∧
      (∀ d, d ≠ c.val → t.clap d = s.clap d) ∧ State.SameBut [.time, .out, .page .time] s t)

/-- R136 to R141, R149: a SYNC cell that arrives is stamped and its sender's hops, root and lock are kept, and the cell of the
time parent moves the count; a PHASE cell of the parent is taken and passed on downstream, one of another link changes
nothing; other kinds of TIME cell are ignored. R137, R149: a SYNC cell leaves on a link that is UP and accepts TIME, under
the next sequence number and with the time at which it leaves; the root sends its latest set of phases on every downstream
link that is UP. -/
def Obligations.TimeCellsComeAndGo : Prop :=
  (∀ (s u : State) (link : Fin 6) (sub : BitVec 16) (cell : BitVec 288) (v : CellView), s.boot.powered = true →
    s.singleCell link 4 cell.toNat = (some v, u) →
    (bitsOf v.body 0 4 = 0 →
      exec (.timeSyncRx link sub cell) s = .next (u.syncRx link sub.toNat v.body).settle ∧
      ((u.syncRx link sub.toNat v.body).sync link).rxSeen = true ∧
      ((u.syncRx link sub.toNat v.body).sync link).hops = bitsOf v.body 22 5 ∧
      ((u.syncRx link sub.toNat v.body).sync link).rootId = bitsOf v.body 13 9 ∧
      ((u.syncRx link sub.toNat v.body).sync link).locked = bit v.body 27 ∧
      ((u.syncRx link sub.toNat v.body).sync link).rxAt = u.time.sys / 65536 * 65536 + sub.toNat ∧
      State.SameBut [.free, .time, .safe, .out, .page .time, .page .saf] u (u.syncRx link sub.toNat v.body)) ∧
    (bitsOf v.body 0 4 = 1 →
      ∃ t, exec (.timePhaseRx link sub cell) s = .next t.settle ∧
        (u.parent = some link.val →
          t.time.phaseLast = some ⟨bitsOf v.body 48 16, bitsOf v.body 64 4,
            [bitsOf v.body 96 32, bitsOf v.body 128 32, bitsOf v.body 160 32, bitsOf v.body 192 32]⟩ ∧
          t.time.phaseSets = u.time.phaseSets ++ t.time.phaseLast.toList) ∧
        (u.parent ≠ some link.val → t = u) ∧ State.SameBut [.time, .out] u t) ∧
    (bitsOf v.body 0 4 ≠ 0 ∧ bitsOf v.body 0 4 ≠ 1 → exec (.timeSyncRx link sub cell) s = .next u.settle)) ∧
  (∀ s : State, s.boot.powered = true →
    (∀ (link : Fin 6) (sub : BitVec 16),
      (s.linkState link ≠ 0 ∧ linkAccepts link 4 = true ∧ s.time.sys < 2 ^ 80 →
        ∃ t body, exec (.syncCellTx link sub) s = .next t ∧ t.Answers (.cell link (bchEncode body (singleTag 4))) ∧
          bitsOf body 4 9 = s.deviceId ∧ bitsOf body 32 64 = s.time.sys / 65536 % 2 ^ 64 ∧
          bitsOf body 96 16 = sub.toNat ∧ (t.sync link).txSeq = ((s.sync link).txSeq + 1) % 65536 ∧
          (∀ l, l ≠ link.val → t.sync l = s.sync l) ∧ State.SameBut [.time, .out] s t) ∧
      (s.linkState link = 0 ∨ linkAccepts link 4 = false → exec (.syncCellTx link sub) s = .next s)) ∧
    (∀ p, s.time.phaseLast = some p → s.syncState = 4 →
      exec .phaseCellTx s = .next { s with
        out := s.out ++ ([2, 3].filter (fun d => s.linkState d != 0)).map (fun d => Out.cell d (s.phaseCell p)) }) ∧
    (s.time.phaseLast = none ∨ s.syncState ≠ 4 → exec .phaseCellTx s = .next s))

/-- R139, R140, R148: a lost parent is judged no longer to be heard; HOLDOVER ends in UNLOCKED when its time is over; the root
counts the first edge of an enabled clapper input in a frame, and no other device counts one. -/
def Obligations.SynchronisationIsLostInTime : Prop :=
  ∀ s : State, s.boot.powered = true →
    (s.parent = none → exec .parentLost s = .next s.evalSync.settle) ∧
    (∀ n, s.parent = some n → exec .parentLost s = .next ((s.setSync n { s.sync n with rxSeen := false }).evalSync).settle) ∧
    (s.syncState = 3 → ∃ t, exec .holdoverExpiry s = .next t.settle ∧ t.syncState = 0 ∧
      t.mono = max s.mono (s.time.holdover + s.fget pgTime TIME.LOCK_CFG.HOLDOVER_MS * 1000000) ∧
      State.SameBut [.mono, .time, .safe, .out, .page .time, .page .saf] s t) ∧
    (s.syncState ≠ 3 → exec .holdoverExpiry s = .next s.settle) ∧
    (∀ (c : Fin 4) (sub : BitVec 16),
      (s.syncState = 4 ∧ s.fbit pgTime (TIME.CLAP_CFG.EN c) = true ∧ (s.clap c).counted = false →
        ∃ t, exec (.clapEdge c sub) s = .next t ∧ (t.clap c).counted = true ∧ (t.clap c).noEdge = 0 ∧
          bit (t.fget pgTime TIME.CLAP_STAT.LOST) c = false ∧ State.SameBut [.time, .out, .page .time] s t) ∧
      (s.syncState ≠ 4 ∨ s.fbit pgTime (TIME.CLAP_CFG.EN c) = false ∨ (s.clap c).counted = true →
        exec (.clapEdge c sub) s = .next s))

/-- R79 to R82: a link whose lanes may train leaves OFF for SEEK with k = 0; SEEK lasts its dwell and ends in LEADER once every
lane has signal, lock and four valid messages in a row; a SEEK message counts on its lane and in LEADER restarts the link;
lock on every lane takes CHANGE to TUNE. Where the state does not fit, nothing happens. -/
def Obligations.LinkClimbs : Prop :=
  ∀ (s : State) (n : Fin 6), s.boot.powered = true →
    (s.mayTrain n = true → s.trainState n = 0 → ∃ t : State, exec (.laneEnable n) s = .next t.settle ∧
      (∀ l ∈ lanesOf n, t.laneState l = 1 ∧ t.fget (pgLane l) LANE.TRAIN_STAT.RATE = 0 ∧
        t.fget (pgLane l) LANE.TRAIN_STAT.ATTEMPTS = 0 ∧ t.fget (pgLane l) LANE.DWELL.MS = 0) ∧
      (t.train n).dwellOver = true ∧ State.SameBut [.lanes, .trains, .page .lane] s t) ∧
    (s.mayTrain n = false ∨ s.trainState n ≠ 0 → exec (.laneEnable n) s = .next s.settle) ∧
    (s.trainState n = 1 → ∃ t : State, exec (.seekDwellEnd n) s = .next t.settle ∧ t.mono = max s.mono (s.train n).dwellEnd ∧
      (t.train n).dwellOver = true ∧
      ((∀ l ∈ lanesOf n, (s.lane l).signal = true ∧ (s.lane l).lock = true ∧ 4 ≤ (s.lane l).validRun) →
        ∀ l ∈ lanesOf n, t.laneState l = 2) ∧
      (¬ (∀ l ∈ lanesOf n, (s.lane l).signal = true ∧ (s.lane l).lock = true ∧ 4 ≤ (s.lane l).validRun) →
        ∀ a, t.word a = s.word a) ∧
      State.SameBut [.mono, .free, .lanes, .trains, .time, .page .lane] s t) ∧
    (s.trainState n ≠ 1 → exec (.seekDwellEnd n) s = .next s.settle) ∧
    (s.trainState n = 3 → ∃ t : State, exec (.laneLock n) s = .next t.settle ∧
      (∀ l ∈ lanesOf n, t.laneState l = 4 ∧ (t.lane l).signal = true ∧ (t.lane l).lock = true ∧
        (t.lane l).aligned = true) ∧ (t.train n).since = s.mono ∧ State.SameBut [.lanes, .trains, .page .lane] s t) ∧
    (s.trainState n ≠ 3 → exec (.laneLock n) s = .next s.settle)

/-- R73, R79 to R82: base-rate messages. A SEEK message in SEEK counts on its lane and in LEADER fails the attempt with
PARTNER_RESTART; a leader message shows who the partner is; a message with bad code groups breaks the run of valid ones, and
one whose length or CRC is wrong is nothing. -/
def Obligations.BaseRateMessagesAreHeard : Prop :=
  ∀ (s : State) (lane : Fin 24) (swapped : Bool) (bytes : List (BitVec 8)), s.boot.powered = true →
    (s.trainState (lane / 4) = 1 → ∃ t : State, exec (.seekMessageRx lane swapped) s = .next t.settle ∧
      (t.lane lane).signal = true ∧ (t.lane lane).lock = true ∧ (t.lane lane).validRun = (s.lane lane).validRun + 1 ∧
      State.SameBut [.free, .lanes, .trains, .page .lane] s t) ∧
    (s.trainState (lane / 4) = 2 → ∃ t : State, exec (.seekMessageRx lane swapped) s = .next t.settle ∧
      State.AttemptFailed (lane / 4) 3 s t) ∧
    (s.trainState (lane / 4) ≠ 1 ∧ s.trainState (lane / 4) ≠ 2 →
      exec (.seekMessageRx lane swapped) s = .next s.settle ∧
      ∀ codeOk, exec (.leaderMessageRx lane codeOk swapped bytes) s = .next s.settle) ∧
    (s.trainState (lane / 4) = 1 ∨ s.trainState (lane / 4) = 2 →
      exec (.leaderMessageRx lane false swapped bytes) s =
        .next (s.setLane lane { s.lane lane with validRun := 0, ackRun := 0 }).settle ∧
      (bytes.length ≠ 32 ∨ crc32c ((bytes.map BitVec.toNat).take 28) ≠ ofLeBytes ((bytes.map BitVec.toNat).drop 28) →
        exec (.leaderMessageRx lane true swapped bytes) s = .next s.settle) ∧
      (bytes.length = 32 → crc32c ((bytes.map BitVec.toNat).take 28) = ofLeBytes ((bytes.map BitVec.toNat).drop 28) →
        bytes.head? = some 0x53#8 →
        exec (.leaderMessageRx lane true swapped bytes) s = exec (.seekMessageRx lane swapped) s) ∧
      (bytes.length = 32 → crc32c ((bytes.map BitVec.toNat).take 28) = ofLeBytes ((bytes.map BitVec.toNat).drop 28) →
        bytes.head? = some 0x4C#8 → ∃ t : State, exec (.leaderMessageRx lane true swapped bytes) s = .next t.settle ∧
        t.fget (pgLane lane) LANE.PARTNER.DEVICE_ID = (leaderOf (ofLeBytes (bytes.map BitVec.toNat))).deviceId ∧
        t.fget (pgLane lane) LANE.PARTNER.LINK = (leaderOf (ofLeBytes (bytes.map BitVec.toNat))).link ∧
        (s.trainState (lane / 4) = 1 → (t.train (lane / 4)).dwellOver = true)))

/-- R74, R76, R82, R83, R105: at a PAM4 rate. The partner's flags in a training frame count on their lane and may end TUNE and
CONFIRM, FAIL in CONFIRM fails the attempt; the 1 ms measurement passes a lane or fails the attempt; each window posts its
figure of merit and the lowest so far. -/
def Obligations.Pam4TrainingProceeds : Prop :=
  ∀ (s : State) (lane : Fin 24), s.boot.powered = true →
    (∀ (ready confirm fail : Bool) (d2 d1 d0 dp : Int) (skew : Nat),
      (s.trainState (lane / 4) = 5 → fail = true → ∃ t : State,
        exec (.trainingFrameRx lane ready confirm fail d2 d1 d0 dp skew) s = .next t.settle ∧
        State.AttemptFailed (lane / 4) 4 s t) ∧
      (s.trainState (lane / 4) ∈ [3, 4, 5] → (s.trainState (lane / 4) = 5 → fail = false) → ∃ u v : State,
        (u.lane lane).readyRcvd = ((s.lane lane).readyRcvd || (s.trainState (lane / 4) == 4 && ready)) ∧
        (u.lane lane).confRcvd = ((s.lane lane).confRcvd || (s.trainState (lane / 4) == 5 && confirm)) ∧
        (∀ l, l ≠ lane.val → u.lane l = s.lane l) ∧ State.SameBut [.lanes, .page .lane] s u ∧ v = u.laneSkew lane skew ∧
        exec (.trainingFrameRx lane ready confirm fail d2 d1 d0 dp skew) s =
          .next (if v.trainState (lane / 4) = s.trainState (lane / 4) then (v.tryTune (lane / 4)).tryConfirm (lane / 4)
            else v).settle) ∧
      (s.trainState (lane / 4) ∉ [3, 4, 5] →
        exec (.trainingFrameRx lane ready confirm fail d2 d1 d0 dp skew) s = .next s.settle)) ∧
    (∀ errs bits : Nat,
      (s.trainState (lane / 4) = 5 → (s.lane lane).fomBad = false → errs * 1000000 ≤ bits → ∃ u : State,
        exec (.confirmMeasureDone lane errs bits) s = .next (u.tryConfirm (lane / 4)).settle ∧
        u.lane lane = { s.lane lane with passed := true } ∧
        u.mono = max s.mono ((s.train (lane / 4)).since + 1000000) ∧ State.SameBut [.mono, .lanes, .time] s u) ∧
      (s.trainState (lane / 4) = 5 → (s.lane lane).fomBad = true ∨ bits < errs * 1000000 → ∃ t : State,
        exec (.confirmMeasureDone lane errs bits) s = .next t.settle ∧ State.AttemptFailed (lane / 4) 10 s t) ∧
      (s.trainState (lane / 4) ≠ 5 → exec (.confirmMeasureDone lane errs bits) s = .next s.settle)) ∧
    (∀ (fom : BitVec 10) (ffe dfe : Nat) (step : Option Bool),
      (s.laneState lane ≠ 0 → ∃ t : State, exec (.fomWindowDone lane fom ffe dfe step) s = .next t.settle ∧
        t.fget (pgLane lane) LANE.FOM.NOW = fom.toNat ∧
        t.fget (pgLane lane) LANE.FOM.MIN = min fom.toNat (s.fget (pgLane lane) LANE.FOM.MIN) ∧
        (s.laneState lane = 6 → fom.toNat < s.fget (pgLane lane) LANE.FOM_THR.LOW →
          (t.hdr (pgLane lane)).evt.getLsbD 12 = true) ∧
        State.SameBut [.lanes, .trains, .out, .page .lane] s t) ∧
      (s.laneState lane = 0 → exec (.fomWindowDone lane fom ffe dfe step) s = .next s.settle))

/-- R77, R82 to R84, R87, R103: what ends an attempt. A timeout, a loss of signal or lock, 1 ms of bad windows and three bad
markers in a row fail the attempt with the reason of each; a second in RUN without a break returns k to 0. -/
def Obligations.AttemptsFailWithTheirReason : Prop :=
  ∀ (s : State), s.boot.powered = true →
    (∀ (n : Fin 6) (d : Nat), trainLimit (s.trainState n) = some d → ∃ t : State, exec (.trainTimeout n) s = .next t.settle ∧
      State.AttemptFailed n 2 s t ∧
      t.mono = max s.mono ((if s.trainState n = 1 then (s.train n).dwellEnd else (s.train n).since) + d)) ∧
    (∀ n : Fin 6, trainLimit (s.trainState n) = none → exec (.trainTimeout n) s = .next s.settle) ∧
    (∀ (lane : Fin 24) (signal : Bool),
      (s.trainState (lane / 4) ∈ [2, 4, 5, 6] → ∃ t : State, exec (.lossOfSignal lane signal) s = .next t.settle ∧
        State.AttemptFailed (lane / 4) 1 s t) ∧
      (s.trainState (lane / 4) ∉ [2, 4, 5, 6] → exec (.lossOfSignal lane signal) s =
        .next (s.setLane lane { s.lane lane with
          signal := (s.lane lane).signal && signal
          lock := false, aligned := false, validRun := 0, ackRun := 0 }).settle)) ∧
    (∀ (lane : Fin 24) (since : Nat), (s.lane lane).failSince = some since → s.trainState (lane / 4) = 6 →
      ∃ t : State, exec (.fomFail lane) s = .next t.settle ∧ State.AttemptFailed (lane / 4) 11 s t ∧
        t.mono = max s.mono (since + 1000000)) ∧
    (∀ n : Fin 6, s.trainState n = 6 → ∃ t : State, exec (.runStable n) s = .next t ∧
      (∀ l ∈ lanesOf n, t.fget (pgLane l) LANE.TRAIN_STAT.ATTEMPTS = 0) ∧
      t.mono = max s.mono ((s.train n).runSince + 1000000000) ∧ State.SameBut [.mono, .time, .page .lane] s t) ∧
    (∀ (lane : Fin 24) (marker : BitVec 288) (skew : Nat), s.laneState lane = 6 →
      (markerOk marker.toNat = true → exec (.markerRx lane marker skew) s =
        .next ((s.setLane lane { s.lane lane with
          goodMarkers := (s.lane lane).goodMarkers + 1, badMarkers := 0
          aligned := (s.lane lane).aligned || 1 ≤ (s.lane lane).goodMarkers }).laneSkew lane skew).settle) ∧
      (markerOk marker.toNat = false → (s.lane lane).badMarkers < 2 → exec (.markerRx lane marker skew) s =
        .next (s.setLane lane { s.lane lane with
          goodMarkers := 0, badMarkers := (s.lane lane).badMarkers + 1 }).settle) ∧
      (markerOk marker.toNat = false → 2 ≤ (s.lane lane).badMarkers → s.trainState (lane / 4) = 6 → ∃ t : State,
        exec (.markerRx lane marker skew) s = .next t.settle ∧ State.AttemptFailed (lane / 4) 1 s t))

/-- R86, R93, R95, R99, R566, R567: lane commands. RETRAIN restarts the link with k = 0 and records COMMAND; TEST_ENTER puts its
lane into TEST at the rate of PRBS_CTL and its peers into OFF; INJECT runs until its burst has left; TEST_EXIT leaves TEST;
RESET_CEILING returns the ceiling to 3 on the link's lanes. -/
def Obligations.LaneCommandsTakeEffect : Prop :=
  ∀ (s : State) (m : Master) (lane : Fin 24),
    (s.accepts m.id (pgLane lane) 0x10 0 = true → ∃ t : State, exec (.retrain m lane) s = .next t.settle ∧
      t.Done (pgLane lane) 0x10 m.id ∧ t.Answers (.access m.id 0 0) ∧
      ∀ l ∈ lanesOf (lane / 4), t.laneState l = 1 ∧ t.fget (pgLane l) LANE.TRAIN_STAT.ATTEMPTS = 0 ∧
        t.fget (pgLane l) LANE.TRAIN_STAT.FAIL_REASON = 12 ∧ t.fget (pgLane l) LANE.DWELL.MS = 0) ∧
    (s.accepts m.id (pgLane lane) 0x11 0 = true → ∃ t : State, exec (.testEnter m lane) s = .next t.settle ∧
      t.Done (pgLane lane) 0x11 m.id ∧ t.Answers (.access m.id 0 0) ∧ t.laneState lane = 7 ∧
      t.fget (pgLane lane) LANE.TRAIN_STAT.RATE = s.fget (pgLane lane) LANE.PRBS_CTL.RATE ∧
      ∀ l ∈ lanesOf (lane / 4), l ≠ lane.val → s.laneState l ≠ 7 → t.laneState l = 0 ∧
        t.fget (pgLane l) LANE.TRAIN_STAT.FAIL_REASON = if s.fbit (pgLane l) LANE.LANE_CFG.ENABLE then 14 else 15) ∧
    (∀ length : BitVec 8, s.accepts m.id (pgLane lane) 0x12 length.toNat = true →
      ∃ t : State, exec (.inject m lane length) s = .next t ∧ t.Runs (pgLane lane) 0x12 length.toNat m.id ∧
        t.Answers (.access m.id 0 0) ∧ t.lane lane = { s.lane lane with inject := some (max 1 length.toNat) } ∧
        (∀ a, t.word a = s.word a) ∧ State.SameBut [.lanes, .out, .page .lane] s t) ∧
    (s.accepts m.id (pgLane lane) 0x13 0 = true → ∃ t : State, exec (.testExit m lane) s = .next t.settle ∧
      t.Done (pgLane lane) 0x13 m.id ∧ t.Answers (.access m.id 0 0) ∧ (t.lane lane).countedTo = none ∧
      ((s.domOn (9 + lane / 4) = true ∧ ∀ l ∈ lanesOf (lane / 4), s.fbit (pgLane l) LANE.LANE_CFG.ENABLE = true ∧
        (l ≠ lane.val → s.laneState l = 0)) → ∀ l ∈ lanesOf (lane / 4), t.laneState l = 1) ∧
      ((∃ l ∈ lanesOf (lane / 4), s.fbit (pgLane l) LANE.LANE_CFG.ENABLE = false ∨ l ≠ lane.val ∧ s.laneState l = 7) →
        t.laneState lane = 0)) ∧
    (s.accepts m.id (pgLane lane) 0x14 0 = true → ∃ t : State, exec (.resetCeiling m lane) s = .next t ∧
      t.Done (pgLane lane) 0x14 m.id ∧ t.Answers (.access m.id 0 0) ∧
      (∀ l ∈ lanesOf (lane / 4), t.fget (pgLane l) LANE.TRAIN_STAT.CEILING = 3) ∧
      State.SameBut [.out, .page .lane] s t)

/-- R91 to R95: what the checkers of a lane count. The sentinel checker seeds itself, adds the bits that differ or seeds itself
again after more than 64; the PRBS checker locks in TEST, and a loss of lock is counted and raises PRBS_LOCK_LOSS; the end
of INJECT's burst ends the command. -/
def Obligations.CheckersCount : Prop :=
  ∀ (s : State) (lane : Fin 24), s.boot.powered = true →
    (∀ payload : BitVec 256, 16 ≤ lane.val → lane.val ≤ 19 → s.laneState lane = 6 →
      ∃ t : State, exec (.sentinelCellRx lane payload) s = .next t.settle ∧
        ((s.lane lane).sentinel = none → t.fget (pgLane lane) LANE.SENT_STAT.SYNC = 1 ∧
          (t.lane lane).sentinel = some (prbsSeed payload.toNat)) ∧
        (∀ h, (s.lane lane).sentinel = some h →
          (64 < (prbsCompare h payload.toNat 256).1 → (t.hdr (pgLane lane)).evt.getLsbD 14 = true ∧
            (t.lane lane).sentinel = some (prbsSeed payload.toNat) ∧
            t.fget (pgLane lane) LANE.SENT_STAT.SYNC_LOSS = min (s.fget (pgLane lane) LANE.SENT_STAT.SYNC_LOSS + 1) 65535) ∧
          ((prbsCompare h payload.toNat 256).1 ≤ 64 →
            (t.lane lane).sentinel = some (prbsCompare h payload.toNat 256).2 ∧
            t.fget (pgLane lane) LANE.SENT_ERR.COUNT =
              min (s.fget (pgLane lane) LANE.SENT_ERR.COUNT + (prbsCompare h payload.toNat 256).1) (2 ^ 32 - 1))) ∧
        State.SameBut [.lanes, .out, .page .lane] s t) ∧
    (s.laneState lane = 7 → s.fbit (pgLane lane) LANE.PRBS_CTL.CHK_EN = true →
      s.fbit (pgLane lane) LANE.PRBS_STAT.LOCK = false → ∃ t : State, exec (.prbsLock lane) s = .next t ∧
        t.fbit (pgLane lane) LANE.PRBS_STAT.LOCK = true ∧ (t.lane lane).countedTo = some s.mono ∧
        State.SameBut [.lanes, .page .lane] s t) ∧
    (∀ errs : Nat, s.fbit (pgLane lane) LANE.PRBS_STAT.LOCK = true → ∃ t : State, exec (.prbsLockLoss lane errs) s = .next t ∧
      t.fbit (pgLane lane) LANE.PRBS_STAT.LOCK = false ∧ (t.lane lane).countedTo = none ∧
      t.fget (pgLane lane) LANE.PRBS_STAT.LOCK_LOSS = min (s.fget (pgLane lane) LANE.PRBS_STAT.LOCK_LOSS + 1) 65535 ∧
      t.fget (pgLane lane) LANE.PRBS_ERR.COUNT = min (s.fget (pgLane lane) LANE.PRBS_ERR.COUNT + errs) (2 ^ 32 - 1) ∧
      (t.hdr (pgLane lane)).evt.getLsbD 13 = true ∧ State.SameBut [.lanes, .out, .page .lane] s t) ∧
    (∀ (errs len : Nat), (s.lane lane).inject = some len → ∃ t : State, exec (.injectDone lane errs) s = .next t ∧
      t.lane lane = { s.lane lane with inject := none } ∧
      (∀ arg i, (s.hdr (pgLane lane)).run = some ⟨0x12, arg, i⟩ → t.Done (pgLane lane) 0x12 i) ∧
      State.SameBut [.lanes, .out, .page .lane] s t)

/-- R110 to R115, R122, R127: VIDEO cells are taken one by one in the link's order, and none on a link that is DOWN or still
unauthenticated without VIDEO_UNAUTH; the oldest block of the INGEST buffer is written to DRAM and completes its window
where it is the last of a frame's burst. -/
def Obligations.VideoIsTakenInOrder : Prop :=
  ∀ s : State, s.boot.powered = true →
    (∀ (link : Fin 6) (cells : List (BitVec 288)),
      (s.linkState link = 0 ∨ s.linkState link = 1 ∧ s.fbit (pgLink link) LINK.POLICY.VIDEO_UNAUTH = false →
        exec (.videoBurstRx link cells) s = .next s) ∧
      (s.linkState link ≠ 0 → (s.linkState link = 1 → s.fbit (pgLink link) LINK.POLICY.VIDEO_UNAUTH = true) →
        exec (.videoBurstRx link cells) s = .next (cells.foldl (fun t c => t.videoCell link c.toNat) s))) ∧
    (s.transport.ingest = [] → exec .ingestBlockWrite s = .next s) ∧
    (∀ b r, s.transport.ingest = b :: r → ∃ t u : State, exec .ingestBlockWrite s = .next t ∧
      u = ({ s with transport := { s.transport with ingest := r } } : State).admitWrite 0x1C b.block b.data b.tag false ∧
      t.transport.ingest = r ∧ (b.completes = none → t = u) ∧
      (∀ w frame, b.completes = some (w, frame) →
        t.cmp.waiting = u.cmp.waiting ++ [⟨w, s.mono, frame⟩] ∧ (t.hdr (pgLink 0)).evt.getLsbD 14 = true) ∧
      State.SameBut [.transport, .cmp, .dram, .mem, .pair, .out, .page .pair, .page .mem, .page .link] s t)

/-- R117 to R119: a CONTROL request outside its time window is answered STALE and changes nothing else, one that has been taken
before is answered again and not executed again, and any other is entered in the replay cache and executed. -/
def Obligations.ControlRequestsAreTakenOnce : Prop :=
  ∀ (s u : State) (link : Fin 6) (cells : List (BitVec 288)) (vs : List CellView) (q : Request) (c : Instr),
    s.boot.powered = true → s.Requested link (cells.map BitVec.toNat) u vs q →
    (q.op = 0 ∧ c = .ctlRead link cells) ∨ (q.op = 1 ∧ c = .ctlWrite link cells) →
    (u.ctlTimely link q.reqTime = false → exec c s = .next (((u.finc (pgLink link) LINK.CTL_STAT.STALE).emit
      (.response link q.txn q.op (List.replicate q.count (0, 9)))).settle)) ∧
    (u.ctlTimely link q.reqTime = true →
      (∀ e, ((u.link link).replay.filter (fun e => u.mono < e.at_ + u.replayLife link)).find?
          (fun e => e.txn = q.txn && e.reqTime = q.reqTime) = some e → e.resp ≠ [] →
        ∃ t : State, exec c s = .next t.settle ∧ t.Answers (.response link e.txn e.op e.resp) ∧
          State.SameBut [.links, .out, .page .link] u t) ∧
      (((u.link link).replay.filter (fun e => u.mono < e.at_ + u.replayLife link)).find?
          (fun e => e.txn = q.txn && e.reqTime = q.reqTime) = none →
        ∃ t : State, exec c s = .next (t.ctlRun link).settle ∧
          (∃ r : CtlRun, (t.link link).ctl = (u.link link).ctl ++ [r] ∧ r.txn = q.txn ∧ r.op = q.op ∧ r.done = [] ∧
            r.todo.length ≤ q.count) ∧
          (∃ e ∈ (t.link link).replay, e.txn = q.txn ∧ e.reqTime = q.reqTime) ∧ (t.link link).replay.length ≤ 32 ∧
          State.SameBut [.links] u t))

/-- R117 to R119, R125: a MAILBOX request puts its words into REEL0 as one packet where there is space and answers FULL where
there is none; an entry of the replay cache lives for twice CTL_WINDOW.MS; a child's message enters the upward queue. -/
def Obligations.MailboxAndUpwardTraffic : Prop :=
  (∀ (s u : State) (link : Fin 6) (cells : List (BitVec 288)) (vs : List CellView) (q : Request),
    s.boot.powered = true → s.Requested link (cells.map BitVec.toNat) u vs q → q.op = 2 →
    u.ctlTimely link q.reqTime = true → (∀ e ∈ (u.link link).replay, e.txn ≠ q.txn) → u.domOn (domainOf (pgReel 0)) = true →
    ∃ t : State, exec (.ctlMailbox link cells) s = .next (t.ctlRun link) ∧
      (u.reelSpace 0 < ((ctlUnits vs 32).take q.count).length + 1 →
        (t.link link).ctl = (u.link link).ctl ++ [⟨q.txn, q.reqTime, 2, false, [], [(0, 8)]⟩] ∧ t.reels = u.reels ∧
        t.sram = u.sram) ∧
      (((ctlUnits vs 32).take q.count).length + 1 ≤ u.reelSpace 0 →
        ∃ v : State, State.SameBut [.links] u v ∧ (v.reelPacket 0 ((ctlUnits vs 32).take q.count)).reels = t.reels ∧
          (v.reelPacket 0 ((ctlUnits vs 32).take q.count)).sram = t.sram)) ∧
  (∀ (s : State) (link : Fin 6), s.boot.powered = true →
    ((s.link link).replay = [] → exec (.replayEntryExpiry link) s = .next s) ∧
    (∀ e r, (s.link link).replay = e :: r → ∃ t : State, exec (.replayEntryExpiry link) s = .next t ∧
      t.link link = { s.link link with replay := r } ∧
      t.mono = max s.mono (e.at_ + 2 * s.fget (pgLink link) LINK.CTL_WINDOW.MS * 1000000) ∧
      State.SameBut [.mono, .links, .time] s t)) ∧
  (∀ (s u : State) (link : Fin 6) (cells : List (BitVec 288)) (v : CellView) (vs : List CellView), s.boot.powered = true →
    s.linkState link ≠ 0 → cells ≠ [] → s.checkCells link (cells.map BitVec.toNat) = (v :: vs, true, u) →
    ((link.val = 2 ∨ link.val = 3) → v.type = 3 → u.linkState link = 2 → exec (.upwardMessageRx link cells) s =
      .next (u.pushUpward link 0 ((v :: vs).map (fun v => bchEncode v.body v.tag)))) ∧
    ((link.val = 2 ∨ link.val = 3) → v.type = 2 → bit v.body 28 = true → u.ctlOk link = true →
      exec (.upwardMessageRx link cells) s =
        .next (u.pushUpward link 2 ((v :: vs).map (fun v => bchEncode v.body v.tag)))) ∧
    (link.val ≠ 2 ∧ link.val ≠ 3 ∨ v.type ≠ 2 ∧ v.type ≠ 3 ∨ v.type = 2 ∧ bit v.body 28 = false →
      exec (.upwardMessageRx link cells) s = .next (u.finc (pgLink link) LINK.MISC.WRONG_TYPE)))

/-- R127, R128: a valid proof in the running exchange makes the link UP_TRUSTED and raises AUTH_OK, a wrong one or none within
10 ms makes it UP_UNTRUSTED and raises AUTH_FAIL; a challenge supplies the nonce of the next proofs; an untrusted link
starts again after a second. -/
def Obligations.LinksAreAuthenticated : Prop :=
  ∀ (s : State) (link : Fin 6), s.boot.powered = true →
    (∀ (u : State) (cell : BitVec 288) (v : CellView), s.linkState link ≠ 0 → s.checkCell link cell.toNat = (some v, u) →
      v.type = 2 →
      (bitsOf v.body 18 2 = 0 → u.linkState link ≠ 0 → (u.link link).exchanging = true → ∃ t : State,
        exec (.authProofRx link cell) s = .next t.settle ∧
        (∀ k, (u.link link).authKey = some k → bitsOf v.body 0 9 = u.fget (pgLink link) LINK.LINK_STAT.PARTNER_ID →
          bitsOf v.body 9 9 = u.deviceId →
          ofLeBytes (cmac k (proofMessage (u.fget (pgLink link) LINK.LINK_STAT.PARTNER_ID) u.deviceId
            (u.link link).ownNonce (u.link link).partnerNonce)) = bitsOf v.body 64 128 →
          t.linkState link = 2 ∧ (t.hdr (pgLink link)).evt.getLsbD 10 = true ∧ (t.link link).exchanging = false) ∧
        (∀ k, (u.link link).authKey = some k → bitsOf v.body 0 9 ≠ u.fget (pgLink link) LINK.LINK_STAT.PARTNER_ID →
          t.linkState link = 3 ∧ t.fget (pgLink link) LINK.LINK_STAT.AUTH_RESULT = 4 ∧
          (t.hdr (pgLink link)).evt.getLsbD 11 = true) ∧
        ((u.link link).authKey = none → t.linkState link = 3 ∧
          t.fget (pgLink link) LINK.LINK_STAT.AUTH_RESULT = 5)) ∧
      (bitsOf v.body 18 2 = 1 → u.linkState link ≠ 0 → ∃ t : State, exec (.authChallengeRx link cell) s = .next t.settle ∧
        t.link link = { u.link link with partnerNonce := bitsOf v.body 64 128 } ∧
        ((u.link link).authKey = none → t.out = u.out) ∧
        ((u.link link).authKey ≠ none → ∃ word, t.Answers (.cell link word)) ∧ State.SameBut [.links, .out] u t)) ∧
    (s.linkState link ≠ 0 ∧ (s.link link).exchanging = true → ∃ t : State, exec (.authTimeout link) s = .next t.settle ∧
      t.linkState link = 3 ∧ (t.link link).exchanging = false ∧ t.mono = max s.mono ((s.link link).authSince + 10000000) ∧
      t.fget (pgLink link) LINK.LINK_STAT.AUTH_RESULT = (if (s.link link).authKey = none then 5 else 3) ∧
      (t.hdr (pgLink link)).evt.getLsbD 11 = true) ∧
    (s.linkState link = 0 ∨ (s.link link).exchanging = false → exec (.authTimeout link) s = .next s.settle) ∧
    (s.linkState link = 3 ∧ (s.link link).exchanging = false → ∃ (t : State) (word : Nat),
      exec (.authRetry link) s = .next t.settle ∧
      t.Answers (.cell link word) ∧ (t.link link).exchanging = true ∧ (t.link link).authKey = s.transport.key ∧
      (t.link link).ownNonce = (Config.freeValue 128 s.free).toNat ∧
      t.mono = max s.mono ((s.link link).authSince + 1000000000) ∧
      State.SameBut [.mono, .free, .links, .time, .out] s t)

/-- R126, R129, R133: SWITCH_UPSTREAM asks for a switch of cause COMMAND; KEY_LOAD takes the installation key from AUTH_KEY0 to
AUTH_KEY3, zeroes them and shows the key; KEY_CLEAR erases it. The revert becomes due HOLDOFF_MS after the preferred
upstream was first usable. -/
def Obligations.LinkCommandsTakeEffect : Prop :=
  ∀ (s : State) (m : Master) (link : Fin 6),
    (s.accepts m.id (pgLink link) 0x10 0 = true → ∃ t : State, exec (.switchUpstream m link) s = .next t ∧
      t.Done (pgLink link) 0x10 m.id ∧ t.Answers (.access m.id 0 0) ∧
      t.transport = { s.transport with commandPending := true } ∧ (∀ a, t.word a = s.word a) ∧
      State.SameBut [.transport, .out, .page .link] s t) ∧
    (s.accepts m.id (pgLink link) 0x11 0 = true → ∃ t : State, exec (.keyLoad m link) s = .next t ∧
      t.Done (pgLink link) 0x11 m.id ∧ t.Answers (.access m.id 0 0) ∧
      t.transport.key = some (s.fget (pgLink 0) (LINK.AUTH_KEY.KEY 0) + s.fget (pgLink 0) (LINK.AUTH_KEY.KEY 1) * 2 ^ 32 +
        s.fget (pgLink 0) (LINK.AUTH_KEY.KEY 2) * 2 ^ 64 + s.fget (pgLink 0) (LINK.AUTH_KEY.KEY 3) * 2 ^ 96) ∧
      (∀ i, i < 4 → t.fget (pgLink 0) (LINK.AUTH_KEY.KEY i) = 0) ∧ t.fget (pgLink 0) LINK.KEY_STAT.PRESENT = 1 ∧
      State.SameBut [.transport, .fw, .out, .page .link] s t) ∧
    (s.accepts m.id (pgLink link) 0x12 0 = true → ∃ t : State, exec (.keyClear m link) s = .next t ∧
      t.Done (pgLink link) 0x12 m.id ∧ t.Answers (.access m.id 0 0) ∧ t.transport.key = none ∧
      t.fget (pgLink 0) LINK.KEY_STAT.PRESENT = 0 ∧ t.fget (pgLink 0) LINK.KEY_STAT.KCV = 0 ∧
      State.SameBut [.transport, .fw, .out, .page .link] s t) ∧
    (s.boot.powered = true →
      (∀ since, s.transport.prefUsableSince = some since → exec .revertHoldoff s =
        .next (s.advanceTo (since + s.fget (pgLink 0) LINK.UPSEL.HOLDOFF_MS * 1000000))) ∧
      (s.transport.prefUsableSince = none → exec .revertHoldoff s = .next s))

/-- R178, R179, R204: LIB_DATA reads and writes the library word at LIB_ADDR and moves on by one; SEAL runs until the check of
the library is complete and then seals it, or fails with the reason of what was wrong; UNSEAL opens it again. -/
def Obligations.OverlayLibraryIsSealed : Prop :=
  ∀ (s : State) (m : Master),
    (∀ data : BitVec 32, s.writes m.id pgOvl OVL.LIB_DATA.DATA.off data.toNat = true → ∃ t : State,
      exec (.libDataWrite m data) s = .next t ∧ t.Answers (.access m.id 0 0) ∧
      (∀ a, SMap.read 0 t.cmp.lib a =
        if a = s.fget pgOvl OVL.LIB_ADDR.WORD then data else SMap.read 0 s.cmp.lib a) ∧
      t.fget pgOvl OVL.LIB_ADDR.WORD = (s.fget pgOvl OVL.LIB_ADDR.WORD + 1) % 65536 ∧
      State.SameBut [.cmp, .out, .page .ovl] s t) ∧
    (s.reads m.id pgOvl OVL.LIB_DATA.DATA.off = true → ∃ t : State, exec (.libDataRead m) s = .next t ∧
      t.Answers (.access m.id 0 (SMap.read 0 s.cmp.lib (s.fget pgOvl OVL.LIB_ADDR.WORD)).toNat) ∧
      t.fget pgOvl OVL.LIB_ADDR.WORD = (s.fget pgOvl OVL.LIB_ADDR.WORD + 1) % 65536 ∧
      State.SameBut [.out, .page .ovl] s t) ∧
    (s.accepts m.id pgOvl 0x10 0 = true →
      ∃ t : State, exec (.ovlSeal m) s = .next t ∧ t.Runs pgOvl 0x10 0 m.id ∧ t.Answers (.access m.id 0 0) ∧
        (∀ a, t.word a = s.word a) ∧ State.SameBut [.out, .page .ovl] s t) ∧
    (s.accepts m.id pgOvl 0x11 0 = true →
      ∃ t : State, exec (.ovlUnseal m) s = .next t ∧ t.Done pgOvl 0x11 m.id ∧ t.Answers (.access m.id 0 0) ∧
        t.fbit pgOvl OVL.LIB_STAT.SEALED = false ∧ State.SameBut [.out, .page .ovl] s t) ∧
    (∀ arg i, s.boot.powered = true → (s.hdr pgOvl).run = some ⟨0x10, arg, i⟩ → ∃ t : State,
      exec .libSealDone s = .next t ∧
      (s.libCrc = s.fget pgOvl OVL.LIB_SEAL.CRC → ((List.range 64).filter s.symbolPresent).all s.symbolOk = true →
        t.Done pgOvl 0x10 i ∧ t.fbit pgOvl OVL.LIB_STAT.SEALED = true ∧ (t.hdr pgOvl).evt.getLsbD 8 = true ∧
        t.fget pgOvl OVL.LIB_STAT.SYMBOLS = ((List.range 64).filter s.symbolPresent).length) ∧
      (s.libCrc ≠ s.fget pgOvl OVL.LIB_SEAL.CRC → t.Failed pgOvl 0x10 i 0x24) ∧
      (s.libCrc = s.fget pgOvl OVL.LIB_SEAL.CRC → ((List.range 64).filter s.symbolPresent).all s.symbolOk = false →
        t.Failed pgOvl 0x10 i 0x25) ∧ State.SameBut [.out, .page .ovl] s t) ∧
    (s.boot.powered = true → s.running pgOvl 0x10 = false → exec .libSealDone s = .next s)

/-- R182, R189, R190, R196: a fence retires the surfaces whose last read has returned and frees the windows that no layer reads;
the overlay signature of the frame is posted; CAPTURE arms a capture of the next whole frame, which ends with its blocks in
DRAM and CAP_DONE. -/
def Obligations.FencesSignaturesAndCaptures : Prop :=
  ∀ s : State,
    (∀ (layers : BitVec 8) (windows : BitVec 16), s.boot.powered = true →
      ∃ t : State, exec (.retireFence layers windows) s = .next t ∧
        (∀ (l : Nat) (b : Nat), layers.getLsbD l = true → SMap.read none s.cmp.retiring l = some b →
          SMap.read none t.cmp.retiring l = none ∧ t.fget (pgLyr l) LYR.RETIRE_BASE.BASE = b % 2 ^ 27 ∧
          t.fget (pgLyr l) LYR.RETIRE.SEQ = (s.fget (pgLyr l) LYR.RETIRE.SEQ + 1) % 65536 ∧
          (t.hdr (pgLyr l)).evt.getLsbD 8 = true) ∧
        (∀ l, l < 8 → layers.getLsbD l = false ∨ SMap.read none s.cmp.retiring l = none →
          State.SamePage (pgLyr l) s t) ∧
        (∀ w, w < 16 → bit (t.fget pgCmp CMP.WIN_BUSY.BUSY) w =
          (bit (s.fget pgCmp CMP.WIN_BUSY.BUSY) w && !(windows.getLsbD w && !bit s.selectedMask w))) ∧
        State.SameBut [.cmp, .out, .page .lyr, .page .cmp] s t) ∧
    (s.boot.powered = true → ∃ t : State, exec .ovlSignaturePost s = .next t ∧
      t.fget pgOvl OVL.SIG_FRAME.FRAME = s.frame % 65536 ∧ t.fget pgOvl OVL.SIG_FRAME.HB_PHASE = s.frame % 2 ∧
      t.fbit pgOvl OVL.SIG_FRAME.DRAWN = s.overlayDrawn ∧
      (s.overlayDrawn = true → t.fget pgOvl OVL.SIG.CRC = s.overlaySig % 2 ^ 32) ∧ State.SameBut [.page .ovl] s t) ∧
    (∀ m : Master, s.accepts m.id pgCmp 0x10 0 = true → ∃ t : State, exec (.capture m) s = .next t ∧
      t.Done pgCmp 0x10 m.id ∧ t.Answers (.access m.id 0 0) ∧ t.cmp = { s.cmp with armed := true } ∧
      (∀ a, t.word a = s.word a) ∧ State.SameBut [.cmp, .out, .page .cmp] s t) ∧
    (∀ frame, s.boot.powered = true → s.cmp.capturing = some frame → ∃ t : State, exec .capDone s = .next t ∧
      t.cmp = { s.cmp with capturing := none } ∧ t.fget pgCmp CMP.CAP_STAT.FRAME = frame % 65536 ∧
      t.fget pgCmp CMP.CAP_STAT.BUSY = 0 ∧ (t.hdr pgCmp).evt.getLsbD 14 = true ∧
      t.dram = ((List.range 262144).foldl (fun (u : State) i => u.putBlock (s.fget pgCmp CMP.CAP_BASE.BASE + i)
        (s.monBlock (i / 256) (i % 256)) (s.fget pgCmp CMP.CAP_CFG.TAG) false) s).dram ∧
      State.SameBut [.cmp, .dram, .out, .page .mem, .page .cmp] s t) ∧
    (s.boot.powered = true → s.cmp.capturing = none → exec .capDone s = .next s)

/-- R216 to R220, R223: a trigger that is due starts a rebuild once it may start, with the tile factors of the temperatures in
hand; its wear phase and then its records end it, and the buffer waits for a boundary. WEAR_PERIOD_S is a trigger with a
wear phase, and a tile without a valid temperature for 10 s is stale. -/
def Obligations.RebuildsRun : Prop :=
  ∀ s : State, s.boot.powered = true →
    (s.rebuildMayStart = true → ∃ t : State, exec .rebuildStart s = .next t ∧
      t.cad = { s.cad with
        rebuild := some ⟨s.cad.due.getD false, !s.cad.due.getD false, 1 - s.fget (pgPe 0) PE.STAT.EFF_BUF, s.mono, none,
          s.cad.dueMgt, s.cad.exchange⟩
        due := none, dueContent := false, dueMgt := false, lastStart := some s.mono, tempUsed := s.cad.temp } ∧
      t.fget pgCad CAD.STAT.REBUILD_BUSY = 1 ∧
      (∀ k, k < 16 → t.fget (pgPe (portGroup k)) (PE.TILE_PHI.PHI (localTile k)) = s.phiOf (s.tileTemp k)) ∧
      State.SameBut [.cad, .page .pe, .page .cad] s t) ∧
    (s.rebuildMayStart = false → exec .rebuildStart s = .next s) ∧
    (∀ r, s.cad.rebuild = some r → r.wear = true → r.wearDone = false → ∃ t : State, exec .wearPhaseDone s = .next t ∧
      t.cad = { s.wearPhase.cad with rebuild := some { r with wearDone := true }, lastWear := s.mono } ∧
      t.pages = s.wearPhase.pages ∧ t.dram = s.wearPhase.dram ∧
      State.SameBut [.cad, .dram, .mem, .pair, .out, .page .pair, .page .mem, .page .cad] s t) ∧
    (∀ r, s.cad.rebuild = some r → r.wearDone = true → r.written = none → ∃ t : State, exec .rebuildDone s = .next t ∧
      t.cad = { s.cad with rebuild := some { r with written := some s.mono } } ∧
      t.dram = ((List.range 1048576).foldl (fun u i =>
        u.banks.foldl (fun u b => u.rebuildRecord r.swap r.buffer (i % 1024) (i / 1024) b) u) s).dram ∧
      State.SameBut [.cad, .dram, .mem, .pair, .out, .page .pair, .page .mem, .page .cad] s t) ∧
    (∃ t : State, exec .wearPeriodExpiry s = .next t ∧ t.cad = { s.cad with due := some true } ∧
      t.mono = max s.mono (s.cad.lastWear + s.fget pgCad CAD.WEAR_CFG.WEAR_PERIOD_S * 1000000000) ∧
      State.SameBut [.mono, .time, .cad] s t) ∧
    (∀ (k : Fin 16) (at_ : Nat), SMap.read none s.cad.tempAt k = some at_ → ∃ t : State, exec (.tempStale k) s = .next t ∧
      bit (t.fget pgCad CAD.TEMP_STALE.TILES) k = true ∧ t.mono = max s.mono (at_ + 10000000000) ∧
      (bit (s.fget pgCad CAD.TEMP_STALE.TILES) k = false → (t.hdr pgCad).evt.getLsbD 10 = true) ∧
      State.SameBut [.mono, .time, .out, .page .cad] s t)

/-- R219, R226 to R228, R236: the commands of CAD. A build, a load and a copy run until their records are written; SEAL_FACTORY
seals the factory caddy for good; APPLY_USER, REBUILD and DOSE_RESET make a rebuild due, and the first of them ends with the
rebuild that takes the staging copy. -/
def Obligations.CalibrationCommandsTakeEffect : Prop :=
  ∀ (s : State) (m : Master),
    (s.accepts m.id pgCad 0x10 0 = true → exec (.buildFactory m) s =
      .next ((s.cmdStart pgCad 0x10 0 m.id).emit (.access m.id 0 0))) ∧
    (s.accepts m.id pgCad 0x11 0 = true → exec (.loadFactory m) s =
      .next ((s.cmdStart pgCad 0x11 0 m.id).emit (.access m.id 0 0))) ∧
    (s.accepts m.id pgCad 0x12 0 = true → ∃ t : State, exec (.sealFactory m) s = .next t ∧ t.Done pgCad 0x12 m.id ∧
      t.Answers (.access m.id 0 0) ∧ t.fbit pgCad CAD.STAT.FACTORY_SEALED = true ∧ t.otp = { s.otp with
        factorySealed := true } ∧ (∀ k, k < 16 → SMap.read 0 t.cad.seals k = s.factoryCrc k) ∧
      State.SameBut [.free, .cad, .fw, .otp, .out, .page .fw, .page .cad] s t) ∧
    (∀ tiles : BitVec 16, s.accepts m.id pgCad 0x13 tiles.toNat = true → ∃ t : State, exec (.writeUser m tiles) s = .next t ∧
      t.Runs pgCad 0x13 tiles.toNat m.id ∧ t.Answers (.access m.id 0 0) ∧
      t.cad = { s.cad with copy := some (.writeUser tiles.toNat) } ∧ t.fget pgCad CAD.STAT.COPY_BUSY = 1 ∧
      State.SameBut [.cad, .out, .page .cad] s t) ∧
    (s.accepts m.id pgCad 0x14 0 = true → ∃ t : State, exec (.applyUser m) s = .next t ∧ t.Runs pgCad 0x14 0 m.id ∧
      t.Answers (.access m.id 0 0) ∧ t.cad.exchange = true ∧ t.cad.due.isSome = true ∧ t.cad.dueContent = true ∧
      State.SameBut [.cad, .out, .page .cad] s t) ∧
    (s.accepts m.id pgCad 0x15 0 = true → ∃ t : State, exec (.restoreFactory m) s = .next t ∧ t.Runs pgCad 0x15 0 m.id ∧
      t.Answers (.access m.id 0 0) ∧ t.cad = { s.cad with copy := some .restore } ∧
      t.fget pgCad CAD.STAT.COPY_BUSY = 1 ∧ State.SameBut [.cad, .out, .page .cad] s t) ∧
    (s.accepts m.id pgCad 0x16 0 = true → ∃ t : State, exec (.cadRebuild m) s = .next t ∧ t.Done pgCad 0x16 m.id ∧
      t.Answers (.access m.id 0 0) ∧ t.cad.due = some (s.cad.due.getD false) ∧ (∀ a, t.word a = s.word a) ∧
      State.SameBut [.cad, .out, .page .cad] s t) ∧
    (∀ tiles : BitVec 16, s.accepts m.id pgCad 0x17 tiles.toNat = true → ∃ t : State, exec (.doseReset m tiles) s = .next t ∧
      t.Done pgCad 0x17 m.id ∧ t.Answers (.access m.id 0 0) ∧ t.cad.due.isSome = true ∧ t.cad.dueContent = true ∧
      t.dram = (s.doseReset tiles.toNat).dram ∧
      State.SameBut [.cad, .dram, .mem, .pair, .out, .page .pair, .page .mem, .page .cad] s t)

/-- R226, R228: how the long commands of CAD end. A build or a load fails at the first bad record and names it, or its factory
caddy stands and, where it is the source, makes a rebuild due; a user copy is stored or fails in the same way; a restored
factory caddy goes live as APPLY_USER does. -/
def Obligations.CaddyCopiesEnd : Prop :=
  ∀ (s : State) (arg i : Nat), s.boot.powered = true →
    ((s.hdr pgCad).run = some ⟨0x10, arg, i⟩ → ∃ t : State, exec .buildFactoryDone s = .next t ∧
      (s.targetColumns = none → t.Failed pgCad 0x10 i 0x30) ∧
      (∀ c, s.targetColumns = some c →
        (firstFail (s.buildRecord c) (s.pixelBanks 0xFFFF) = none → t.Done pgCad 0x10 i ∧ t.cad.sourceLoaded = true) ∧
        (∀ p b k, firstFail (s.buildRecord c) (s.pixelBanks 0xFFFF) = some (p, b, k) → t.Failed pgCad 0x10 i k ∧
          t.dram = s.dram)) ∧
      State.SameBut [.cad, .dram, .mem, .pair, .out, .page .pair, .page .mem, .page .cad] s t) ∧
    ((s.hdr pgCad).run = some ⟨0x11, arg, i⟩ → ∃ t : State, exec .loadFactoryDone s = .next t ∧
      (firstFail s.loadRecord (s.pixelBanks 0xFFFF) = none → t.Done pgCad 0x11 i ∧ t.cad.sourceLoaded = true ∧
        (s.fget pgCad CAD.CTL.SOURCE = 0 → t.cad.dueContent = true)) ∧
      (∀ p b k, firstFail s.loadRecord (s.pixelBanks 0xFFFF) = some (p, b, k) → t.Failed pgCad 0x11 i k ∧ t.dram = s.dram) ∧
      State.SameBut [.cad, .dram, .mem, .pair, .out, .page .pair, .page .mem, .page .cad] s t) ∧
    (∀ tiles, (s.hdr pgCad).run = some ⟨0x13, arg, i⟩ → s.cad.copy = some (.writeUser tiles) → ∃ t : State,
      exec .writeUserDone s = .next t ∧ t.cad = { s.cad with copy := none } ∧ t.fget pgCad CAD.STAT.COPY_BUSY = 0 ∧
      (firstFail s.loadRecord (s.pixelBanks tiles) = none → t.Done pgCad 0x13 i) ∧
      (∀ p b k, firstFail s.loadRecord (s.pixelBanks tiles) = some (p, b, k) → t.Failed pgCad 0x13 i k ∧ t.dram = s.dram) ∧
      State.SameBut [.cad, .dram, .mem, .pair, .out, .page .pair, .page .mem, .page .cad] s t) ∧
    (s.cad.copy = some .restore → ∃ t : State, exec .userCopyDone s = .next t ∧ t.cad.copy = none ∧
      t.cad.exchange = true ∧ t.cad.due.isSome = true ∧ t.cad.dueContent = true ∧ t.fget pgCad CAD.STAT.COPY_BUSY = 0 ∧
      t.dram = (s.copyCaddy offFactory (offUser (1 - s.fget pgCad CAD.STAT.LIVE_USER))).dram) ∧
    (s.cad.copy = some .back → ∃ t : State, exec .userCopyDone s = .next t.userBackup ∧
      t.cad = { s.cad with copy := none } ∧ t.fget pgCad CAD.STAT.COPY_BUSY = 0)

/-- R249, R251, R256, R405, R406: VERIFY runs until its copy has been read; the copy is then verified, or it fails with the
reason and the tile. A write of a SEAL takes the copy's VERIFIED away. A luminance from a tap adds to its zone, and over the
zone's cap or the pixel cap it trips the safety section. -/
def Obligations.MattesAreVerified : Prop :=
  ∀ s : State,
    (∀ (m : Master) (copy : Fin 2), s.accepts m.id pgMatte 0x10 copy = true → ∃ t : State,
      exec (.matteVerify m copy) s = .next t ∧ t.Runs pgMatte 0x10 copy m.id ∧ t.Answers (.access m.id 0 0) ∧
      t.fbit pgMatte MATTE.STAT.VERIFY_BUSY = true ∧ State.SameBut [.out, .page .matte] s t) ∧
    (∀ (copy : Fin 2) (i : Nat), s.boot.powered = true → (s.hdr pgMatte).run = some ⟨0x10, copy, i⟩ → ∃ t : State,
      exec .verifyDone s = .next t.settle ∧ t.fbit pgMatte MATTE.STAT.VERIFY_BUSY = false ∧
      ((List.range 16).all (fun k => (s.verifyTile copy k).isNone) = true →
        t.Done pgMatte 0x10 i ∧ t.verified copy = true) ∧
      (∀ k r, (List.range 16).findSome? (fun k => (s.verifyTile copy k).map (fun r => (k, r))) = some (k, r) →
        t.Failed pgMatte 0x10 i r ∧ t.verified copy = false ∧ t.fget pgMatte MATTE.STAT.FAIL_TILE = k) ∧
      State.SameBut [.matte, .pair, .out, .page .pair, .page .matte] s t) ∧
    (∀ (m : Master) (copy : Fin 2) (tile : Fin 16) (crc : BitVec 32),
      s.writes m.id pgMatte (MATTE.SEAL.CRC (16 * copy + tile)).off crc.toNat = true → ∃ t : State,
        exec (.matteSealWrite m copy tile crc) s = .next t ∧ t.Answers (.access m.id 0 0) ∧ t.verified copy = false ∧
        t.verified (1 - copy.val) = s.verified (1 - copy.val) ∧
        t.fget pgMatte (MATTE.SEAL.CRC (16 * copy + tile)) = crc.toNat ∧
        (s.verified copy = true → (t.hdr pgMatte).evt.getLsbD 10 = true) ∧ State.SameBut [.out, .page .matte] s t) ∧
    (∀ (zone : Fin 64) (take : Fin 4) (lam cap sum : Nat) (u : State), s.boot.powered = true →
      cap = SMap.read 0 s.safe.zcap zone % 2 ^ 31 → sum = (SMap.read 0 s.safe.sums (4 * zone + take) + lam) % 2 ^ 48 →
      u = { s with safe := { s.safe with sums := SMap.write 0 s.safe.sums (4 * zone + take) sum } } →
      (bit (SMap.read 0 s.safe.zcap zone) 31 = false → exec (.proxyTapCode zone take lam) s = .next s) ∧
      (bit (SMap.read 0 s.safe.zcap zone) 31 = true →
        exec (.proxyTapCode zone take lam) s = .next (
          if cap * SMap.read 0 s.safe.zcount zone < sum then u.tripZone zone take false sum
          else if cap < lam then u.tripZone zone take true lam
          else u)))

/-- R266: a packet whose CRC or length fails is dropped and counted, whatever it is; all it tells is that the ring's port
receives. R274, R277, R280, R281, R284, R307, R379: what a port makes of a good packet. An ACK or a QUERY_RESP counts for
the oldest operation that awaits it, and the operation stays until its last target has answered; a QUERY_RESP is recorded;
the looped ENUM is kept with its NEXT_ADDR; an EVENT goes to REEL2; a TALLY_RESP of a live sink is taken down and then
counts for its round; a DIAG_RESP is taken in by the request it answers. -/
def Obligations.RingPacketsAreTaken : Prop :=
  (∀ (s : State) (tile : Fin 16) (k : Packet), s.boot.powered = true → k.crcOk = false → ∃ t : State,
    (∀ c ∈ [Instr.tallyRespRx tile k, .ackRx tile k, .queryRespRx tile k, .diagRespRx tile k, .eventRx tile k,
      .enumLoopedRx tile k], exec c s = .next t) ∧
    t.dud tile = { s.dud tile with lastRx := s.mono, locked := true } ∧
    (∀ n : Fin 16, n ≠ tile → t.dud n = s.dud n) ∧
    t.fget (pgDud tile) DUD.CNT_CRC.PORT = min (s.fget (pgDud tile) DUD.CNT_CRC.PORT + 1) 65535 ∧
    State.SameBut [.duds, .page .dud] s t) ∧
  (∀ (s : State) (tile : Fin 16) (k : Packet) (u : State), s.boot.powered = true → k.crcOk = true →
    u = s.setDud tile { s.dud tile with lastRx := s.mono, locked := true } →
    (k.dst < 128 → k.epoch ≤ s.fget (pgDud tile) DUD.OWN.EPOCH →
      (∀ pre o post o', findOp (bitsOf (k.words.getD 0 0) 8 8) k.dst (s.dud tile).ops = some (pre, o, post) →
        o' = (if bitsOf (k.words.getD 0 0) 0 8 = 0 then { o with answered := o.answered ||| 1 <<< k.dst }
          else { o with refused := o.refused ||| 1 <<< k.dst }) → o'.full = false →
        exec (.ackRx tile k) s = .next (u.setDud tile { u.dud tile with ops := pre ++ o' :: post })) ∧
      (∀ pre o post, findOp 8 k.dst (s.dud tile).ops = some (pre, o, post) → o.targets = none → ∃ t : State,
        exec (.queryRespRx tile k) s = .next t ∧
        (t.sink tile k.dst).epoch = k.epoch ∧ (t.sink tile k.dst).owner = k.owner ∧
        (t.sink tile k.dst).owned = bit (k.words.getD 1 0) 16 ∧ (t.sink tile k.dst).cols = bitsOf (k.words.getD 0 0) 40 8 ∧
        (t.sink tile k.dst).rows = bitsOf (k.words.getD 0 0) 48 8 ∧
        (s.fget (pgDud tile) DUD.STAT.STATE = 2 → (t.sink tile k.dst).serial = k.words.getD 2 0) ∧
        (∃ o' : RingOp, (t.dud tile).ops = pre ++ o' :: post ∧ o'.kind = o.kind ∧ o'.phase = o.phase ∧
          o'.answered = o.answered ||| 1 <<< k.dst ∧ o'.refused = o.refused) ∧ State.SameBut [.duds] s t) ∧
      (bit (s.dud tile).live k.dst = true → ∀ v : State, v = u.tallyReport tile k.dst (k.words.getD 0 0) (k.words.getD 1 0) →
        ((v.dud tile).round = 0 ∨ bit (v.dud tile).awaited k.dst = false →
          exec (.tallyRespRx tile k) s = .next (v.toReel2 tile k)) ∧
        (∀ f, (v.dud tile).round ≠ 0 → bit (v.dud tile).awaited k.dst = true → (v.dud tile).delivering = some f →
          exec (.tallyRespRx tile k) s = .next (State.roundOver (
            if missingGroups f (v.dud tile).takes (k.words.getD 0 0) = 0 then
              (v.setDud tile { v.dud tile with
                awaited := without (v.dud tile).awaited (1 <<< k.dst) }).fset (pgDud tile) (DUD.SINK_B.MISSES k.dst) 0
            else v.setDud tile { v.dud tile with
              awaited := without (v.dud tile).awaited (1 <<< k.dst)
              incomplete := (v.dud tile).incomplete ||| 1 <<< k.dst
              missing := SMap.write 0 (v.dud tile).missing k.dst
                (missingGroups f (v.dud tile).takes (k.words.getD 0 0)) }) tile))) ∧
      (bit (s.dud tile).live k.dst = false → exec (.tallyRespRx tile k) s = .next (u.toReel2 tile k)) ∧
      (∀ r, s.diag.requests.find? (fun r => r.tile = tile.val ∧ r.sink = k.dst ∧
          bit r.rows (bitsOf (k.words.getD 0 0) 0 6)) = some r → s.pairShadow = false →
        exec (.diagRespRx tile k) s = .next ({ u with diag := { u.diag with
          requests :=
            if r.rows &&& (2 ^ 64 - 1 - 1 <<< bitsOf (k.words.getD 0 0) 0 6) = 0 then s.diag.requests.erase r
            else { r with rows := r.rows &&& (2 ^ 64 - 1 - 1 <<< bitsOf (k.words.getD 0 0) 0 6) } ::
              s.diag.requests.erase r } }.diagTake tile k.dst r.frame k.words))) ∧
    exec (.eventRx tile k) s = .next (u.toReel2 tile k) ∧
    (∃ t : State, exec (.enumLoopedRx tile k) s = .next t ∧
      (∀ o ∈ (t.dud tile).ops, o.kind = .enumerate → o.phase = 1 → o.looped = some (k.words.getD 0 0 % 256)) ∧
      (t.dud tile).ops.length = (s.dud tile).ops.length ∧ State.SameBut [.duds] s t))

/-- R280, R281, R284, R286, R288, R493: a delivery that ends sends TALLY to the live sinks and opens the first round; a silent
target is sent its command once more and then the phase ends without it; lost sinks are queried once a second; an idle HEAD
port sends FRAMESET; a port that loses lock has lost nothing yet. -/
def Obligations.PortsActInTime : Prop :=
  ∀ (s : State) (tile : Fin 16), s.boot.powered = true → s.pairState ≠ 5 → s.domOn (15 + portGroup tile) = true →
    ((s.dud tile).round = 0 → (s.dud tile).live ≠ 0 → (s.dud tile).complete = false → ∃ t : State,
      exec (.deliveryDone tile) s = .next t ∧ (t.dud tile).round = 1 ∧ (t.dud tile).awaited = (s.dud tile).live ∧
      (t.dud tile).incomplete = 0 ∧ (∃ tag, t.Answers (.ring tile 0x0A (s.dud tile).live
        (s.fget (pgDud tile) DUD.OWN.EPOCH) s.deviceId tag [])) ∧ State.SameBut [.free, .duds, .out] s t) ∧
    (∀ (type : BitVec 8) pre o post m, type ≠ 0x05 → type ≠ 0x0A →
      findType type.toNat (s.dud tile).ops = some (pre, o, post) → o.targets = some m →
      (without m (o.answered ||| o.refused) ≠ 0 → o.retried = false → ∃ t : State,
        exec (.responseTimeout tile type) s = .next t ∧ (t.dud tile).ops = pre ++ { o with retried := true } :: post ∧
        State.SameBut [.free, .duds, .out] s t) ∧
      (o.retried = true → exec (.responseTimeout tile type) s =
        .next ((s.setDud tile { s.dud tile with ops := pre ++ post }).phaseEnd tile o))) ∧
    (s.fbit (pgDud tile) DUD.CTL.AUTO_READMIT = true → without (s.dud tile).lost (s.dud tile).rejoin ≠ 0 →
      (s.dud tile).ops = [] → ∃ t : State, exec (.autoReadmit tile) s = .next t ∧
      (t.dud tile).ops = [⟨.readmit false, 0, some (without (s.dud tile).lost (s.dud tile).rejoin), 0, 0, false, s.mono, 0,
        none, none, 0⟩] ∧
      (∃ tag, t.Answers (.ring tile 0x08 (without (s.dud tile).lost (s.dud tile).rejoin)
        (s.fget (pgDud tile) DUD.OWN.EPOCH) s.deviceId tag [])) ∧ State.SameBut [.free, .duds, .out] s t) ∧
    (s.pairActive = true → s.fget (pgDud tile) DUD.CTL.ROLE = 1 → ∃ t : State, exec (.idleFrameset tile) s = .next t ∧
      t.mono = max s.mono ((s.dud tile).lastTx + 100000) ∧ (t.dud tile).lastTx = t.mono ∧
      (∃ tag, t.Answers (.ring tile 0x09 (2 ^ 128 - 1) (s.fget (pgDud tile) DUD.OWN.EPOCH) s.deviceId tag
        [(s.frame + 1) % 65536])) ∧ State.SameBut [.mono, .free, .time, .duds, .out] s t) ∧
    (∃ t : State, exec (.ringLockLoss tile) s = .next t ∧ t.dud tile = { s.dud tile with locked := false } ∧
      (∀ n : Fin 16, n ≠ tile → t.dud n = s.dud n) ∧ State.SameBut [.duds] s t)

/-- R265, R277, R284, R287, R288, R296: the commands of DUD. Each runs from its first request on: ENUMERATE with no sink of the
ring live or lost; CLAIM, QUERY, SEND_CONFIG and READMIT as an operation of the port on their sinks. HB.FORCE drives the
hard blank of the tile. -/
def Obligations.RingCommandsStart : Prop :=
  ∀ (s : State) (m : Master) (tile : Fin 16),
    (s.accepts m.id (pgDud tile) 0x10 0 = true → ∃ t : State, exec (.enumerate m tile) s = .next t ∧
      t.Runs (pgDud tile) 0x10 0 m.id ∧ t.Answers (.access m.id 0 0) ∧ (t.dud tile).live = 0 ∧ (t.dud tile).lost = 0 ∧
      (t.dud tile).owned = 0 ∧ (t.dud tile).ops = [{ kind := .enumerate, sentAt := s.mono }] ∧
      t.fget (pgDud tile) DUD.STAT.STATE = 2 ∧ t.fget (pgDud tile) DUD.STAT.SINKS = 0 ∧ t.tileLive tile = false ∧
      State.SameBut [.free, .time, .duds, .out, .page .sys, .page .time, .page .dud] s t) ∧
    (∀ (lo hi : BitVec 8) (a : Nat), a = sinkRange lo.toNat hi.toNat &&& s.allSinks tile →
      s.accepts m.id (pgDud tile) 0x11 (lo.toNat + 256 * hi.toNat) = true → ∃ t : State,
      exec (.dudClaim m tile lo hi) s = .next t ∧ t.Answers (.access m.id 0 0) ∧
      (a ≠ 0 → t.Runs (pgDud tile) 0x11 (lo.toNat + 256 * hi.toNat) m.id ∧ (t.dud tile).ops = (s.dud tile).ops ++
        [{ kind := .claim lo.toNat hi.toNat true, sentAt := s.mono, targets := some a }]) ∧
      (a = 0 → t.Failed (pgDud tile) 0x11 m.id 0x30 ∧ t.duds = s.duds) ∧
      State.SameBut [.free, .duds, .out, .page .dud] s t) ∧
    (s.accepts m.id (pgDud tile) 0x12 0 = true → ∃ t : State, exec (.dudQuery m tile) s = .next t ∧
      t.Runs (pgDud tile) 0x12 0 m.id ∧ t.Answers (.access m.id 0 0) ∧
      (t.dud tile).ops = (s.dud tile).ops ++ [⟨.query true, 0, if (s.dud tile).live ≠ 0 then some (s.dud tile).live
          else if s.enumerated tile = true then some (s.allSinks tile) else none, 0, 0, false, s.mono, 0, none, none, 0⟩] ∧
      State.SameBut [.free, .duds, .out, .page .dud] s t) ∧
    (∀ count : BitVec 4, s.accepts m.id (pgDud tile) 0x13 count.toNat = true → ∃ t : State,
      exec (.sendConfig m tile count) s = .next t ∧ t.Answers (.access m.id 0 0) ∧
      (s.getMask (pgDud tile) DUD.SC_MASK.SINKS ≠ 0 → t.Runs (pgDud tile) 0x13 count.toNat m.id ∧
        ∃ n, 1 ≤ n ∧ n ≤ 8 ∧ (1 ≤ count.toNat → count.toNat ≤ 8 → n = count.toNat) ∧
          (t.dud tile).ops = (s.dud tile).ops ++ [⟨.sendConfig ((List.range n).map (fun i =>
            (s.fget (pgDud tile) (DUD.SC_REG.REG i), s.fget (pgDud tile) (DUD.SC_DATA.DATA i)))), 0,
            some (s.getMask (pgDud tile) DUD.SC_MASK.SINKS), 0, 0, false, s.mono, 0, none, none, 0⟩]) ∧
      (s.getMask (pgDud tile) DUD.SC_MASK.SINKS = 0 → t.Failed (pgDud tile) 0x13 m.id 0x35 ∧ t.duds = s.duds) ∧
      State.SameBut [.free, .duds, .out, .page .dud] s t) ∧
    (s.accepts m.id (pgDud tile) 0x14 0 = true → ∃ t : State, exec (.readmit m tile) s = .next t ∧
      t.Runs (pgDud tile) 0x14 0 m.id ∧ t.Answers (.access m.id 0 0) ∧
      (t.dud tile).ops = (s.dud tile).ops ++ [{ kind := .readmit true, sentAt := s.mono, targets := some (s.dud tile).lost }] ∧
      State.SameBut [.free, .duds, .out, .page .dud] s t) ∧
    (∀ force : Bool, s.writes m.id (pgDud tile) DUD.HB.FORCE.off (b2n force) = true → ∃ t : State,
      exec (.hbForceWrite m tile force) s = .next t ∧ t.Answers (.access m.id 0 0) ∧
      t.fbit (pgDud tile) DUD.HB.FORCE = force ∧
      t.blanked tile = (!s.lightTile tile || force || !s.domOn (15 + portGroup tile)) ∧
      (∀ a, a ≠ addrOf (pgDud tile) DUD.HB.FORCE.off → t.word a = s.word a) ∧ State.SameBut [.out, .page .dud] s t)

/-- R290 to R293, R299: the gaffer. A headroom step comes STEP_MS after the last and clears what the sinks reported; a poll
comes POLL_MS after the last; PMB_ALERT shows the line; the transaction on a segment ends and, failing for the first time,
waits 1 ms to be tried again; READ_STATUS runs. -/
def Obligations.RailsAreRun : Prop :=
  ∀ s : State,
    (s.boot.powered = true → ∃ t : State, exec .headroomStep s = .next t ∧
      t.mono = max s.mono (s.gaf.lastStep + s.fget pgGaf GAF.TIMING.STEP_MS * 1000000) ∧ t.gaf.headroom = [] ∧
      t.gaf.lastStep = t.mono ∧ (s.fbit pgGaf GAF.CTL.LOOP_EN = false →
        State.SameBut [.mono, .time, .gaf] s t)) ∧
    (s.boot.powered = true → ∃ t : State, exec .railPoll s = .next t ∧
      t.mono = max s.mono (s.gaf.lastPoll + s.fget pgGaf GAF.TIMING.POLL_MS * 1000000) ∧ t.gaf.lastPoll = t.mono ∧
      t.gaf.lastStatus = (if s.gaf.lastStatus + 1000000000 ≤ t.mono then t.mono else s.gaf.lastStatus) ∧
      (s.gafferRuns = true → ∀ u, u < 32 → s.railEn u = true →
        (t.segQueue (u / 8)).contains { rail := u, code := 0x8B } = true ∧
        (t.segQueue (u / 8)).contains { rail := u, code := 0x8C } = true ∧
        (s.gaf.lastStatus + 1000000000 ≤ t.mono → (t.segQueue (u / 8)).contains { rail := u, code := 0x79 } = true)) ∧
      State.SameBut [.mono, .time, .gaf, .out, .page .gaf] s t) ∧
    (∀ (i : Fin 4) (low : Bool), s.boot.powered = true → s.gafferRuns = true → ∃ t : State,
      exec (.pmbAlert i low) s = .next t ∧
      (∀ j, j < 4 → bit (t.fget pgGaf GAF.PMB_STAT.ALERT) j =
        (if j = i.val then low else bit (s.fget pgGaf GAF.PMB_STAT.ALERT) j)) ∧
      (low = true → bit (s.fget pgGaf GAF.PMB_STAT.ALERT) i = false →
        t.segQueue i = match s.segQueue i with
          | [] => [{ rail := 8 * i, code := 0x0C, alert := true }]
          | x :: r => x :: { rail := 8 * i, code := 0x0C, alert := true } :: r) ∧
      (low = false ∨ bit (s.fget pgGaf GAF.PMB_STAT.ALERT) i = true → t.gaf = s.gaf) ∧
      State.SameBut [.gaf, .out, .page .gaf] s t) ∧
    (∀ (i : Fin 4) (result : Fin 4) (data : BitVec 16) (x : PmbTxn) (r : List PmbTxn), s.boot.powered = true →
      s.segQueue i = x :: r → result ≠ 0 → x.retry = false → ∃ t : State,
      exec (.pmbusTransactionDone i result data) s = .next t ∧ t.segQueue i = r ∧
      t.gaf.retries = s.gaf.retries ++ [{ x with retry := true, failedAt := s.mono }] ∧
      (result = 1 → t.fget pgGaf GAF.PMB_ERR.NACK = min (s.fget pgGaf GAF.PMB_ERR.NACK + 1) 65535) ∧
      (result = 2 → t.fget pgGaf GAF.PMB_ERR.PEC = min (s.fget pgGaf GAF.PMB_ERR.PEC + 1) 65535) ∧
      State.SameBut [.gaf, .out, .page .gaf] s t) ∧
    (∀ (i : Fin 4) (x : PmbTxn), s.boot.powered = true → s.gafferRuns = true →
      s.gaf.retries.find? (fun x => x.rail / 8 = i.val) = some x → ∃ t : State,
      exec (.pmbusRetry i) s = .next t ∧ t.mono = max s.mono (x.failedAt + 1000000) ∧
      t.gaf.retries = s.gaf.retries.erase x ∧ (t.segQueue i).contains x = true ∧
      State.SameBut [.mono, .time, .gaf, .out, .page .gaf] s t) ∧
    (∀ m : Master, s.accepts m.id pgGaf 0x10 0 = true → s.gafferRuns = true →
      (∃ u, u < 32 ∧ s.railEn u = true) → ∃ t : State, exec (.readStatus m) s = .next t ∧
      t.Runs pgGaf 0x10 0 m.id ∧ t.Answers (.access m.id 0 0) ∧ t.gaf.readFailed = false ∧
      (∀ u, u < 32 → s.railEn u = true →
        (t.segQueue (u / 8)).contains { rail := u, code := 0x79, byCommand := true } = true) ∧
      State.SameBut [.gaf, .out, .page .gaf] s t)

/-- R301, R305, R309, R316 to R319, R323: DIAG at work. A visit outside what R305 allows is none; one of a tile on which
INIT_MAP runs touches no record; any other is noted, ages its records and asks a live sink. A held report goes to its reel
when it fits. INIT_MAP and BUILD_LIST run until they are done: every record of the named tiles then stands at its initial
value, or the list follows the map. RELEARN and CLEAR_VERDICT work on the records at once. -/
def Obligations.TheStatusMapIsKept : Prop :=
  ∀ s : State,
    (∀ (tile : Fin 16) (sink : Fin 128) (rows : BitVec 64) (last : Bool), s.boot.powered = true →
      (s.diagVisits = false ∨ bit (s.fget pgSys SYS.FIELD_CFG.TILE_EN) tile = false ∨ sinksPerRing s.dual ≤ sink ∨
          8 < (bitsSet rows.toNat 64).length ∨ (s.pairShadow = true ∧ bit (s.dud tile).live sink = false) →
        exec (.diagVisit tile sink rows last) s = .next s) ∧
      (s.diagVisits = true → bit (s.fget pgSys SYS.FIELD_CFG.TILE_EN) tile = true → sink < sinksPerRing s.dual →
        (bitsSet rows.toNat 64).length ≤ 8 → (s.pairShadow = true → bit (s.dud tile).live sink = true) →
        ∃ u : State, exec (.diagVisit tile sink rows last) s = .next (if last = true then u.sweepEnd else u) ∧
          (bit s.diag.initTiles tile = true → u = s) ∧
          (bit s.diag.initTiles tile = false → ∃ (v : State) (vis : SMap Nat),
            vis = SMap.write 0 s.diag.visited (sinkKey tile sink)
              (SMap.read 0 s.diag.visited (sinkKey tile sink) ||| rows.toNat) ∧
            v = (bitsSet rows.toNat 64).foldl (fun w row => (List.range 48).foldl (fun w c => w.visitEmitter
                (bit (s.dud tile).live sink && s.domOn (15 + portGroup tile)) (w.emIdx tile sink row c)) w)
              { s with diag := { s.diag with visited := vis } } ∧
            u = if (bit (s.dud tile).live sink && s.domOn (15 + portGroup tile)) = true then
                (v.diagRequest tile sink rows.toNat).sendProbes tile else v))) ∧
    (∀ r rest, s.boot.powered = true → s.diag.reports = r :: rest →
      (5 ≤ s.reelSpace (s.fget pgDiag DIAG.REPORT.QUEUE) → ∃ t : State, exec .diagReportWrite s = .next t ∧
        t = ({ s with diag := { s.diag with reports := rest } }.reelPush (s.fget pgDiag DIAG.REPORT.QUEUE) 0x1A r) ∧
        t.diag.reports = rest ∧ State.SameBut [.diag, .reels, .sram, .out, .page .reel] s t) ∧
      (s.reelSpace (s.fget pgDiag DIAG.REPORT.QUEUE) < 5 → exec .diagReportWrite s = .next s)) ∧
    (∀ (m : Master) (tiles : BitVec 16), s.accepts m.id pgDiag 0x10 tiles.toNat = true → ∃ t : State,
      exec (.initMap m tiles) s = .next t ∧ t.Runs pgDiag 0x10 tiles.toNat m.id ∧ t.Answers (.access m.id 0 0) ∧
      t.diag = { s.diag with initTiles := tiles.toNat } ∧ t.fget pgDiag DIAG.STAT.CMD_RUN = 1 ∧
      State.SameBut [.diag, .out, .page .diag] s t) ∧
    (∀ arg i, s.boot.powered = true → (s.hdr pgDiag).run = some ⟨0x10, arg, i⟩ → ∃ t : State,
      exec .initMapDone s = .next t ∧ t.Done pgDiag 0x10 i ∧ t.diag.initTiles = 0 ∧
      t.diag.covered = s.diag.covered ||| s.diag.initTiles ∧ t.fget pgDiag DIAG.STAT.CMD_RUN = 0 ∧
      t.fbit pgDiag DIAG.STAT.MAP_OK = (s.fbit pgDiag DIAG.STAT.MAP_OK ||
        (s.diag.covered ||| s.diag.initTiles) == 0xFFFF) ∧
      (s.memOnline = true → s.fget pgDiag DIAG.MAP_BASE.BASE + 786432 ≤ dramBlocks → s.pairFollows = false →
        ∀ e ∈ s.emittersOfTiles s.diag.initTiles, (t.block (s.mapBlock e)).poisoned = false ∧
          bitsOf (t.block (s.mapBlock e)).data (32 * (e % 8)) 32 = recInit) ∧
      State.SameBut [.diag, .dram, .mem, .pair, .out, .page .pair, .page .mem, .page .diag] s t) ∧
    (s.boot.powered = true → s.running pgDiag 0x10 = false → exec .initMapDone s = .next s) ∧
    (∀ m : Master, s.accepts m.id pgDiag 0x11 0 = true → ∃ t : State, exec (.buildList m) s = .next t ∧
      t.Runs pgDiag 0x11 0 m.id ∧ t.Answers (.access m.id 0 0) ∧ t.fget pgDiag DIAG.STAT.CMD_RUN = 1 ∧
      State.SameBut [.out, .page .diag] s t) ∧
    (s.boot.powered = true → s.running pgDiag 0x11 = true → ∃ t : State, exec .buildListDone s = .next t ∧
      (t.hdr pgDiag).run = none ∧ t.fbit pgDiag DIAG.STAT.MAP_OK = true ∧ t.fget pgDiag DIAG.STAT.CMD_RUN = 0) ∧
    (s.boot.powered = true → s.running pgDiag 0x11 = false → exec .buildListDone s = .next s) ∧
    (∀ (m : Master) (tiles : BitVec 16), s.accepts m.id pgDiag 0x12 tiles.toNat = true → exec (.relearn m tiles) s =
      .next ((((s.cmdStart pgDiag 0x12 tiles.toNat m.id).relearn tiles.toNat).cmdDone pgDiag).emit (.access m.id 0 0))) ∧
    (∀ (m : Master) (e : BitVec 23), s.accepts m.id pgDiag 0x13 e.toNat = true → exec (.clearVerdict m e) s =
      .next ((((s.cmdStart pgDiag 0x13 e.toNat m.id).clearVerdict e.toNat).cmdDone pgDiag).emit (.access m.id 0 0)))

/-- R328 to R331, R338, R354: an admitted transfer. A write to a DRAM that serves puts data, tag and poison into the blocks of
its mask and leaves every other block alone; a read takes the upsets that come with it and checks each block for its reader;
a transfer above the last block, or one that MEM does not serve, counts and writes nothing. -/
def Obligations.TransfersReachTheirBlocks : Prop :=
  ∀ (s : State) (x : Transfer), s.boot.powered = true →
    (s.memOnline = true → 2 * x.pair + 1 < dramBlocks → x.write = true → s.pairFollows = false → ∃ t : State,
      exec (.dramTransfer x) s = .next t ∧
      (bit x.mask 0 = true → t.block (2 * x.pair) = ⟨x.poison0, x.data0 % 2 ^ 256, x.tag0 % 256⟩) ∧
      (bit x.mask 1 = true → t.block (2 * x.pair + 1) = ⟨x.poison1, x.data1 % 2 ^ 256, x.tag1 % 256⟩) ∧
      (∀ b, (b = 2 * x.pair → bit x.mask 0 = false) → (b = 2 * x.pair + 1 → bit x.mask 1 = false) → t.block b = s.block b) ∧
      SMap.read none t.mem.rows (s.bankKey (rowGroup (2 * x.pair))) = some (rowGroup (2 * x.pair) / 64) ∧
      SMap.read 0 t.mem.rowUsed (s.bankKey (rowGroup (2 * x.pair))) = s.mono ∧
      SMap.read none t.arb.urgentAt x.req = none ∧
      State.SameBut [.dram, .mem, .arb, .pair, .out, .page .pair, .page .mem, .page .arb] s t) ∧
    (s.memOnline = true → 2 * x.pair + 1 < dramBlocks → x.write = false → ∃ u v : State,
      u = (if bit x.mask 0 = true then
        (((s.touchRow x.pair).flip (2 * x.pair) x.flips0).memDecode (2 * x.pair) x.master).consume x (2 * x.pair)
        else s.touchRow x.pair) ∧
      (u.memOnline = true → v = (if bit x.mask 1 = true then
        ((u.flip (2 * x.pair + 1) x.flips1).memDecode (2 * x.pair + 1) x.master).consume x (2 * x.pair + 1) else u) ∧
        exec (.dramTransfer x) s = .next (v.endWait x.req))) ∧
    (dramBlocks ≤ 2 * x.pair → x.write = true → exec (.dramTransfer x) s =
      .next ((s.memRange (2 * x.pair + b2n (!bit x.mask 0)) x.master).endWait x.req)) ∧
    (s.memOnline = false → 2 * x.pair + 1 < dramBlocks → x.write = true →
      ∃ u : State, u = s.memOffline (2 * x.pair + b2n (!bit x.mask 0)) x.master ∧
        (u.memOnline = false → exec (.dramTransfer x) s = .next (u.endWait x.req)))

/-- R331, R333 to R336, R339, R340: refresh, rows and timing sets. A refresh begins its stall at its time, closes every row and
takes the derate of an MR4 read that was due; a row idle for 200 ns closes; SWITCH_SET runs until a window opens, which puts
the other set in force; TRAIN_SET runs until training is over, which the set passes or fails. -/
def Obligations.RefreshAndSetsProceed : Prop :=
  ∀ s : State,
    (∀ mr4 : Option Mr4, s.boot.powered = true → s.fget pgMem MEM.STAT.STATE = 2 → ∃ t : State,
      exec (.refreshDue mr4) s = .next t ∧ t.mono = max s.mono s.mem.refreshDue ∧ t.mem.rows = [] ∧ t.mem.mr4Due = false ∧
      t.mem.stallEnd = t.mono + s.fget pgMem MEM.REFRESH_T.RPAB_NS + s.fget pgMem MEM.REFRESH_T.RFC_NS ∧
      t.mem.refreshDue = t.mono + t.refreshInterval ∧
      t.fget pgArb ARB.STALL_CNT.COUNT = min (s.fget pgArb ARB.STALL_CNT.COUNT + 1) (2 ^ 32 - 1) ∧
      (s.mem.mr4Due = true → t.fbit pgThm THM.MR4.VALID = mr4.isSome ∧ t.fbit pgThm THM.MR4.FAIL = mr4.isNone ∧
        t.fget pgMem MEM.STAT.DERATE = (match mr4 with | some v => min v.rate 2 | none => 2)) ∧
      (s.mem.mr4Due = false → t.fget pgMem MEM.STAT.DERATE = s.fget pgMem MEM.STAT.DERATE) ∧
      State.SameBut [.mono, .time, .mem, .out, .page .thm, .page .arb, .page .mem] s t) ∧
    (∀ mr4, s.boot.powered = true → s.fget pgMem MEM.STAT.STATE ≠ 2 → exec (.refreshDue mr4) s = .next s) ∧
    (∀ bank row : Nat, s.boot.powered = true → SMap.read none s.mem.rows bank = some row → ∃ t : State,
      exec (.rowIdleTimeout bank) s = .next t ∧ t.mono = max s.mono (SMap.read 0 s.mem.rowUsed bank + 200) ∧
      (∀ k, SMap.read none t.mem.rows k = if k = bank then none else SMap.read none s.mem.rows k) ∧
      State.SameBut [.mono, .time, .mem] s t) ∧
    (∀ bank, s.boot.powered = true → SMap.read none s.mem.rows bank = none → exec (.rowIdleTimeout bank) s = .next s) ∧
    (∀ (m : Master) (set : Fin 2), s.accepts m.id pgMem 0x10 set = true → ∃ t : State, exec (.switchSet m set) s = .next t ∧
      t.Runs pgMem 0x10 set m.id ∧ t.Answers (.access m.id 0 0) ∧ t.mem = { s.mem with windowWait := 0 } ∧
      State.SameBut [.mem, .out, .page .mem] s t) ∧
    (∀ (set : Fin 2) i, s.boot.powered = true → (s.hdr pgMem).run = some ⟨0x10, set, i⟩ →
      (s.windowOpen = true → ∃ t : State, exec .switchWindowOpen s = .next t ∧ t.Done pgMem 0x10 i ∧
        t.fget pgMem MEM.STAT.SET = set ∧ t.transport.ingest = [] ∧ t.mem.rows = [] ∧ t.mem.queues = [] ∧
        (t.hdr pgMem).evt.getLsbD 9 = true ∧
        State.SameBut [.transport, .cmp, .dram, .mem, .pair, .out, .page .pair, .page .mem, .page .link] s t) ∧
      (s.windowOpen = false → exec .switchWindowOpen s = .next s)) ∧
    (∀ (m : Master) (set : Fin 2), s.accepts m.id pgMem 0x11 set = true → ∃ t : State, exec (.trainSet m set) s = .next t ∧
      t.Runs pgMem 0x11 set m.id ∧ t.Answers (.access m.id 0 0) ∧ t.mem = { s.mem with training := some set } ∧
      t.fget pgMem MEM.STAT.STATE = 1 ∧ State.SameBut [.mem, .out, .page .mem] s t) ∧
    (∀ (k : Fin 2) (failed step : BitVec 4) i, s.boot.powered = true → s.mem.training = some k.val →
      (s.hdr pgMem).run = some ⟨0x11, k, i⟩ → ∃ u : State, exec (.trainingDone failed step) s = .next u.restore ∧
        u.trained k = (failed == 0) ∧ u.mem.training = none ∧ u.fget pgMem MEM.STAT.STATE = 2 ∧
        u.fget pgMem MEM.STAT.TRAIN_FAIL_CH = failed.toNat ∧
        (failed = 0 → u.Done pgMem 0x11 i) ∧ (failed ≠ 0 → u.Failed pgMem 0x11 i 0x31 ∧
          u.fget pgMem MEM.STAT.TRAIN_FAIL_STEP = step.toNat % 8 ∧ (u.hdr pgMem).evt.getLsbD 8 = true) ∧
        State.SameBut [.mem, .out, .page .mem] s u) ∧
    (∀ (failed step : BitVec 4), s.boot.powered = true → s.mem.training = none →
      exec (.trainingDone failed step) s = .next s.restore)

/-- R341 to R345: the scrubber. SCRUB_NOW starts the ordered pass again; a visit reads the next row group of the pass, and a
repair visit the oldest of the repair queue; a patrol of the protected SRAMs reports every upset block that it meets and
poisons one of the queue SRAM that could not be corrected. -/
def Obligations.ScrubbingGoesOn : Prop :=
  ∀ s : State,
    (∀ m : Master, s.accepts m.id pgMem 0x12 0 = true → ∃ t : State, exec (.scrubNow m) s = .next t ∧
      t.Done pgMem 0x12 m.id ∧ t.Answers (.access m.id 0 0) ∧ t.fget pgMem MEM.SCRUB_STAT.POS = 0 ∧
      State.SameBut [.out, .page .mem] s t) ∧
    (∀ l : List (Nat × Nat), s.boot.powered = true →
      (s.fbit pgMem MEM.CTL.SCRUB_EN = true → s.fget pgMem MEM.STAT.STATE = 2 → ∃ u t : State,
        u = (s.flips l).scrubGroup (s.fget pgMem MEM.SCRUB_STAT.POS) ∧ exec (.scrubVisit l) s = .next t ∧
        t.fget pgMem MEM.SCRUB_STAT.POS = (s.fget pgMem MEM.SCRUB_STAT.POS + 1) % 2097152 ∧
        (s.fget pgMem MEM.SCRUB_STAT.POS = 2097151 → (t.hdr pgMem).evt.getLsbD 11 = true ∧
          t.fget pgMem MEM.SCRUB_CNT.PASSES = min (u.fget pgMem MEM.SCRUB_CNT.PASSES + 1) 65535) ∧
        State.SameBut [.out, .page .mem] u t) ∧
      (s.fbit pgMem MEM.CTL.SCRUB_EN = false ∨ s.fget pgMem MEM.STAT.STATE ≠ 2 → exec (.scrubVisit l) s = .next s) ∧
      (∀ g r, s.mem.repair = g :: r → s.fget pgMem MEM.STAT.STATE = 2 → ∃ u : State,
        exec (.scrubRepairVisit l) s = .next (u.scrubGroup g) ∧ u.mem = { s.mem with repair := r } ∧
        u.dram = (s.flips l).dram ∧ u.fget pgMem MEM.SCRUB_STAT.REPAIR = r.length % 128 ∧
        State.SameBut [.dram, .mem, .page .mem] s u) ∧
      (s.mem.repair = [] ∨ s.fget pgMem MEM.STAT.STATE ≠ 2 → exec (.scrubRepairVisit l) s = .next s)) ∧
    (s.boot.powered = true → exec (.sramPatrol []) s = .next s) ∧
    (∀ (src a y : Nat) (ok : Bool) (l : List (Nat × Nat × Nat × Bool)), s.boot.powered = true → ∃ u v : State,
      exec (.sramPatrol ((src, a, y, ok) :: l)) s = exec (.sramPatrol l) v ∧
      v = u.report { src := src, cls := if ok then 0 else 1, typ := 1, space := 3, addr := a, master := 0x18,
                     synd := y, kind := if ok then 1 else 2 } ∧
      u.sram.words = s.sram.words ∧
      (∀ b, u.sram.poison.contains b = (s.sram.poison.contains b || (b == a / 8 && !ok &&
        decide ((pageOf src).map Prod.fst = some .reel)))) ∧ State.SameBut [.sram] s u)

/-- R347 to R353: the arbiter. A write of CFG is in force for the next decision. In every port cycle the port follows the
decision of the cycle before and ARB decides for the next, or grants are withheld for the cause that PORT_STAT shows; each
requester's request and URGENT state are seen for the next decision, and the port clock runs on by one cycle of the rate in
force. -/
def Obligations.ThePortIsArbitrated : Prop :=
  ∀ s : State,
    (∀ (m : Master) (r : Fin 12) (data : BitVec 32),
      s.writes m.id pgArb (ARB.CFG.PRIO r).off data.toNat = true → ∃ t : State,
      exec (.arbCfgWrite m r data) s = .next t ∧ t.Answers (.access m.id 0 0) ∧
      t.fget pgArb (ARB.CFG.PRIO r) = data.toNat % 8 ∧ t.fget pgArb (ARB.CFG.WM r) = data.toNat / 2 ^ 16 % 2 ^ 11 ∧
      (∀ a, a ≠ addrOf pgArb (ARB.CFG.PRIO r).off → t.word a = s.word a) ∧ State.SameBut [.out, .page .arb] s t) ∧
    (∀ l : List PortRequest, s.boot.powered = true → ∃ t : State, exec (.portCycle l) s = .next t ∧
      t.fbit pgArb ARB.PORT_STAT.STALLED = (s.portCause != 0) ∧ t.fget pgArb ARB.PORT_STAT.CAUSE = s.portCause ∧
      (∀ q r, l[r]? = some q → r < 12 → t.fbit pgArb (ARB.STAT.REQ r) = q.req ∧
        t.fbit pgArb (ARB.STAT.URGENT r) = (q.req && decide (q.slack < s.fget pgArb (ARB.CFG.WM r))) ∧
        t.fget pgArb (ARB.STAT.SLACK r) = min q.slack 2047 ∧
        bit t.arb.seenReq r = q.req ∧
        bit t.arb.seenUrgent r = (q.req && decide (q.slack < s.fget pgArb (ARB.CFG.WM r)))) ∧
      (s.portCause = 0 → t.arb.decided = (s.occupy l).decide_ l ∧ t.arb.use = (s.occupy l).arb.use) ∧
      (s.portCause ≠ 0 → t.arb.decided = .none_ ∧
        t.arb.use = match s.arb.use with
          | .first x => .second x
          | _ => .idle) ∧
      t.arb.sub = (s.arb.sub + portCycle (s.fget pgMem (MEM.TS_RATE.RATE (s.fget pgMem MEM.STAT.SET)))) % 16 ∧
      t.mono = s.mono + (s.arb.sub + portCycle (s.fget pgMem (MEM.TS_RATE.RATE (s.fget pgMem MEM.STAT.SET)))) / 16 ∧
      State.SameBut [.mono, .time, .mem, .arb, .out, .page .arb] s t)

/-- R365 to R375: the fault collector. A report from a source whose wire is sound is captured, or merged into the capture that
stands, counted, and reacted to by its class; one from a source whose wire is broken waits there, collected by class. A wire
that breaks is a SAFETY error of its source; one that works again hands over what waited. CAPT_ACK with the present SEQ
releases the capture. -/
def Obligations.ErrorsAreCollected : Prop :=
  ∀ (s : State) (src : Fin 133),
    (∀ (cls : Fin 5) (typ : Fin 6) (space : Fin 4) (addr : BitVec 32) (owner : BitVec 6) (synd : BitVec 19) (kind : Fin 3)
        (count : BitVec 8), s.boot.powered = true →
      (s.wireBroken src = true → ∃ t : State, exec (.errorReport src cls typ space addr owner synd kind count) s = .next t ∧
        t.flt.held = collectErr s.flt.held ⟨src, cls, typ, space, addr.toNat, owner.toNat, synd.toNat, kind, count.toNat⟩ ∧
        State.SameBut [.flt] s t) ∧
      (s.wireBroken src = false → ∃ u : State,
        exec (.errorReport src cls typ space addr owner synd kind count) s = .next
          (u.react ⟨src, cls, typ, space, addr.toNat, owner.toNat, synd.toNat, kind, count.toNat⟩ false) ∧
        u.fget pgFlt (FLT.CLASS_CNT.COUNT cls) =
          min (s.fget pgFlt (FLT.CLASS_CNT.COUNT cls) + count.toNat) (2 ^ 32 - 1) ∧
        (s.fbit pgFlt FLT.CAPT_STAT.VALID = false → u.fbit pgFlt FLT.CAPT_STAT.VALID = true ∧
          u.fget pgFlt FLT.CAPT_STAT.CLASS = cls ∧ u.fget pgFlt FLT.CAPT_STAT.TYPE = typ ∧
          u.fget pgFlt FLT.CAPT_STAT.SOURCE = src ∧ u.fget pgFlt FLT.CAPT_STAT.MASTER = owner.toNat ∧
          u.fget pgFlt FLT.CAPT_STAT.SPACE = space ∧ u.fget pgFlt FLT.CAPT_STAT.COUNT = count.toNat ∧
          u.fget pgFlt FLT.CAPT_ADDR.ADDR = addr.toNat ∧ u.fget pgFlt FLT.CAPT_SYND.SYNDROME = synd.toNat ∧
          u.fget pgFlt FLT.CAPT_SYND.KIND = kind ∧
          u.fget64 pgFlt FLT.CAPT_TIME_LO.NS FLT.CAPT_TIME_HI.NS = s.now % 2 ^ 64 ∧
          u.fget pgFlt FLT.CAPT_SEQ.SEQ = (s.fget pgFlt FLT.CAPT_SEQ.SEQ + 1) % 65536 ∧
          (u.hdr pgFlt).evt.getLsbD 14 = true) ∧
        (s.fbit pgFlt FLT.CAPT_STAT.VALID = true →
          u.fget pgFlt FLT.CAPT_SEQ.MERGE_CNT = min (s.fget pgFlt FLT.CAPT_SEQ.MERGE_CNT + count.toNat) 65535 ∧
          bit (u.fget pgFlt (FLT.MERGE_SRC.SOURCES (src / 32))) (src % 32) = true ∧
          u.word (addrOf pgFlt 0x040) = s.word (addrOf pgFlt 0x040)))) ∧
    (s.boot.powered = true → s.wireBroken src = true → exec (.brokenWire src) s = .next s) ∧
    (s.boot.powered = true → s.wireBroken src = false → ∃ u : State,
      exec (.brokenWire src) s = .next (u.intake { src := src, cls := 3 } true) ∧ u.wireBroken src = true ∧
      (u.hdr pgFlt).evt.getLsbD 13 = true ∧ (∀ n, n < 133 → n ≠ src.val → u.wireBroken n = s.wireBroken n) ∧
      State.SameBut [.out, .page .flt] s u) ∧
    (s.boot.powered = true → ∃ u : State, exec (.brokenWireClear src) s = .next
        ((sendOrder (s.flt.held.filter (fun e => e.src = src.val))).foldl (fun w e => w.intake e false) u) ∧
      u.wireBroken src = false ∧ u.flt.held = s.flt.held.filter (fun e => e.src ≠ src.val) ∧
      (∀ n, n < 133 → n ≠ src.val → u.wireBroken n = s.wireBroken n) ∧ State.SameBut [.flt, .page .flt] s u) ∧
    (∀ (m : Master) (seq : BitVec 16), s.writes m.id pgFlt FLT.CAPT_ACK.SEQ.off seq.toNat = true → ∃ t : State,
      exec (.captAckWrite m seq) s = .next t ∧ t.Answers (.access m.id 0 0) ∧
      (seq.toNat = s.fget pgFlt FLT.CAPT_SEQ.SEQ → t.fbit pgFlt FLT.CAPT_STAT.VALID = false ∧
        t.fget pgFlt FLT.CAPT_SEQ.MERGE_CNT = 0 ∧ ∀ n, n < 5 → t.fget pgFlt (FLT.MERGE_SRC.SOURCES n) = 0) ∧
      (seq.toNat ≠ s.fget pgFlt FLT.CAPT_SEQ.SEQ → ∀ a, t.word a = s.word a) ∧ State.SameBut [.out, .page .flt] s t)

/-- R397, R398, R407 to R409, R420, R423, R425, R427, R558: what a trip does to the groups it concerns, and the commands that
are trips: SAF's TRIP, a current limit, a lost ALIVE, an expired handover window, a silent engine, a wrong signature of the
matte or the overlay, and a low SAFE_XIN; each also leaves what its own record says, and where its condition does not hold
it is nothing. -/
def Obligations.TripsFollowTheirCause : Prop :=
  ∀ s : State,
    (∀ (lock : Bool) (cause groups : Nat), cause < 32 → groups < 16 →
      State.Tripped lock cause groups s (s.tripWith lock cause groups)) ∧
    (∀ (m : Master) (groups : BitVec 4), s.accepts m.id pgSaf 0x13 groups.toNat = true → ∃ u t : State,
      u = (s.tripWith false 18 groups.toNat).evalGroups ∧ exec (.safTrip m groups) s = .next t ∧ t.safe = u.safe ∧
      t.duds = u.duds ∧ (∀ a, t.word a = u.word a) ∧ t.Done pgSaf 0x13 m.id ∧ t.Answers (.access m.id 0 0)) ∧
    (s.boot.powered = true →
      (∀ g : Fin 4, ∃ u : State, exec (.safeOutCurrentLimit g) s = .next (u.tripWith true 13 (1 <<< g.val)).evalGroups ∧
        u.group g = { s.group g with swA := false, swB := false } ∧ (∀ h, h ≠ g.val → u.group h = s.group h) ∧
        State.SameBut [.safe] s u) ∧
      (∀ a, s.safe.aliveAt = some a → s.safe.handover = none → ∃ u : State,
        exec .safSilent s = .next (u.tripWith true 15 15).evalGroups ∧ u.mono = max s.mono (a + 1000000) ∧
        u.safe = { s.safe with aliveAt := none } ∧ u.fbit pgGrd GRD.STAT.SAF_OK = false ∧
        (u.hdr pgGrd).evt.getLsbD 9 = true ∧ State.SameBut [.mono, .time, .safe, .out, .page .grd] s u) ∧
      (s.safe.aliveAt = none ∨ s.safe.handover.isSome = true → exec .safSilent s = .next s) ∧
      (∀ e, s.safe.handover = some e → ∃ u : State, exec .handoverExpired s = .next (u.tripWith true 16 15).evalGroups ∧
        u.mono = max s.mono e ∧ u.safe.handover = none ∧ u.safe.aliveAt = none ∧ u.safe.groups = s.safe.groups ∧
        u.fbit pgSaf SAF.GROUP_STAT.HANDOVER = false ∧ u.fbit pgGrd GRD.STAT.HANDOVER = false ∧
        (u.hdr pgGrd).evt.getLsbD 10 = true ∧
        State.SameBut [.mono, .time, .safe, .out, .page .saf, .page .grd] s u) ∧
      (s.safe.handover = none → exec .handoverExpired s = .next s) ∧
      (∀ q : Fin 4,
        (s.fbit pgTime TIME.STILL_STAT.STILL = false → bit s.safe.marks q = false →
          (∃ k ∈ tilesOfQuadrant q, bit s.cad.computing k = true ∧ s.tileLive k = true) → ∃ u : State,
          exec (.tapSilent q) s = .next (u.tripWith true 7 15) ∧
          u.mono = max s.mono (s.time.boundaryAt + s.period * 92 / 100 / 65536 + 10000) ∧
          u.fget pgGrd GRD.CNT.TAP_LATE = min (s.fget pgGrd GRD.CNT.TAP_LATE + 1) 65535 ∧
          State.SameBut [.mono, .time, .page .grd] s u) ∧
        (s.fbit pgTime TIME.STILL_STAT.STILL = true ∨ bit s.safe.marks q = true ∨
          (∀ k ∈ tilesOfQuadrant q, bit s.cad.computing k = false ∨ s.tileLive k = false) →
          exec (.tapSilent q) s = .next s)) ∧
      (s.safRuns = true → s.safe.handover = none →
        (∀ k, k < 16 → s.tileLive k = true →
          s.fget pgMatte MATTE.READ_STAT.FRAME = s.frame ∧ bit (s.fget pgMatte MATTE.READ_STAT.VALID) k = true ∧
          s.fget pgMatte (MATTE.READ_SIG.CRC k) = s.fget pgMatte (MATTE.SEAL.CRC (16 * s.fget pgMatte MATTE.CTL.ACTIVE + k))) →
        exec .matteSigCheck s = .next s) ∧
      (s.safRuns = true → s.safe.handover = none →
        (∃ k, k < 16 ∧ s.tileLive k = true ∧ (bit (s.fget pgMatte MATTE.READ_STAT.VALID) k = false ∨
          s.fget pgMatte (MATTE.READ_SIG.CRC k) ≠ s.fget pgMatte (MATTE.SEAL.CRC (16 * s.fget pgMatte MATTE.CTL.ACTIVE + k)))) →
        exec .matteSigCheck s = .next (s.tripWith false 9 15)) ∧
      (∀ (k : BitVec 16) (sig : BitVec 32), s.safRuns = true → s.safe.handover = none →
        s.fget pgSaf SAF.MSG_STAT.TAKES ≠ 0 → (k.toNat + 65536 - s.safe.msgFrom) % 65536 < 32768 → ∃ u : State,
        State.SameBut [.page .saf] s u ∧
        u.fbit pgSaf SAF.MSG_STAT.SIG_OK = (s.fbit pgOvl OVL.SIG_FRAME.DRAWN &&
          s.fget pgOvl OVL.SIG_FRAME.FRAME == k.toNat && s.fget pgOvl OVL.SIG.CRC == sig.toNat &&
          s.fget pgOvl OVL.SIG_FRAME.HB_PHASE == k.toNat % 2) ∧
        exec (.ovlSigCheck k sig) s = .next (
          if s.fbit pgOvl OVL.SIG_FRAME.DRAWN = false ∨ s.fget pgOvl OVL.SIG_FRAME.FRAME ≠ k.toNat ∨
            s.fget pgOvl OVL.SIG.CRC ≠ sig.toNat then u.tripWith false 10 15
          else if s.fget pgOvl OVL.SIG_FRAME.HB_PHASE ≠ k.toNat % 2 then u.tripWith false 11 15
          else u)) ∧
      (∃ u : State, u.safe = { s.safe with xinHigh := false } ∧ u.fget pgSaf SAF.IN_STAT.XIN = 0 ∧
        u.fget pgGrd GRD.STAT.XIN = 0 ∧ State.SameBut [.safe, .page .saf, .page .grd] s u ∧
        exec .safeXinLow s = .next
          (if s.pairEn = true then (u.tripWith false 17 15).evalGroups else u).settle))

/-- R400 to R404: demand inputs, safety frames and the STATUS frame. A pin that changes starts its filter anew and ends its own
demand; one that has been low for FILTER_US, or that has differed from the other for DISC_MS, trips the groups of its input.
A frame is checked in the order of R402, and an accepted one makes its connection alive with its demand; a connection
without one for WD_MS is no longer alive and trips its groups. STATUS goes out a period after the last. -/
def Obligations.InputsAndFramesAreWatched : Prop :=
  ∀ s : State, s.boot.powered = true →
    (∀ (n : Fin 4) (pinB high : Bool), ∃ u : State, exec (.safeInChange n pinB high) s = .next u.evalGroups ∧
      (u.input n).pinA = (if pinB = true then (s.input n).pinA else high) ∧
      (u.input n).pinB = (if pinB = true then high else (s.input n).pinB) ∧
      (u.input n).demA = ((s.input n).demA && (pinB || !high)) ∧
      (u.input n).demB = ((s.input n).demB && (!pinB || !high)) ∧
      (pinB = false → (s.input n).pinA = true → high = false → (u.input n).lowA = s.mono) ∧
      (pinB = true → (s.input n).pinB = true → high = false → (u.input n).lowB = s.mono) ∧
      bit (u.fget pgSaf SAF.IN_STAT.DEMAND) n = ((u.input n).demA || (u.input n).demB) ∧
      (∀ k, k ≠ n.val → u.input k = s.input k) ∧ State.SameBut [.safe, .page .saf] s u) ∧
    (∀ (n : Fin 4) (pinB : Bool),
      (s.inEn n = true → (if pinB = true then (s.input n).pinB else (s.input n).pinA) = false → ∃ u : State,
        exec (.safeInDemand n pinB) s = .next (u.tripWith false 1 (s.inGroups n)).evalGroups ∧
        u.mono = max s.mono (max (if pinB = true then (s.input n).lowB else (s.input n).lowA) (s.input n).enSince +
          s.filterNs n) ∧
        (pinB = true → (u.input n).demB = true) ∧ (pinB = false → (u.input n).demA = true) ∧
        bit (u.fget pgSaf SAF.IN_STAT.DEMAND) n = true ∧ State.SameBut [.mono, .time, .safe, .page .saf] s u) ∧
      (s.inEn n = false ∨ (if pinB = true then (s.input n).pinB else (s.input n).pinA) = true →
        exec (.safeInDemand n pinB) s = .next s)) ∧
    (∀ n : Fin 4,
      (s.inEn n = true → (s.input n).pinA ≠ (s.input n).pinB → ∃ u : State,
        exec (.inDisc n) s = .next (u.tripWith true 2 (s.inGroups n)).evalGroups ∧
        u.mono = max s.mono (max (s.input n).differ (s.input n).enSince + s.discNs n) ∧
        bit (u.fget pgSaf SAF.IN_STAT.DISC) n = true ∧ State.SameBut [.mono, .time, .page .saf] s u) ∧
      (s.inEn n = false ∨ (s.input n).pinA = (s.input n).pinB → exec (.inDisc n) s = .next s)) ∧
    (∀ (n : Fin 6) (cell : BitVec 288),
      (n.val = 2 ∨ n.val = 3 → exec (.safetyFrameRx n cell) s = .next (s.upwardRx n [cell.toNat])) ∧
      (∀ w : State, n.val ≠ 2 → n.val ≠ 3 → w = s.forwardCell ([2, 3].filter (fun d =>
          (s.linkState n = 2 && (rawView cell.toNat).type = 3) && s.fbit (pgLink d) LINK.POLICY.FWD_EN &&
            s.sourceFeed d = n && s.linkState d = 2)) cell.toNat →
        (∀ u, w.singleCell n 3 cell.toNat = (none, u) → exec (.safetyFrameRx n cell) s = .next u) ∧
        (∀ v u, w.singleCell n 3 cell.toNat = (some v, u) →
          (u.linkState n ≠ 2 ∨ u.safRuns = false ∨ u.safe.handover.isSome = true →
            exec (.safetyFrameRx n cell) s = .next u) ∧
          (u.linkState n = 2 → u.safRuns = true → u.safe.handover = none →
            (u.safetyMacOk v = false → exec (.safetyFrameRx n cell) s = .next (u.rxReject SAF.RX_REJ2.MAC_FORMAT)) ∧
            (u.safetyMacOk v = true → u.rxNamed (bitsOf v.body 0 32) = none → exec (.safetyFrameRx n cell) s = .next u) ∧
            (∀ c, u.safetyMacOk v = true → u.rxNamed (bitsOf v.body 0 32) = some c →
              (crc32cSeeded (u.fget pgSaf (SAF.RX_SEED.SEED c)) (leBytes v.body 20) ≠ bitsOf v.body 160 32 →
                exec (.safetyFrameRx n cell) s = .next (u.rxReject SAF.RX_REJ.CRC)) ∧
              (crc32cSeeded (u.fget pgSaf (SAF.RX_SEED.SEED c)) (leBytes v.body 20) = bitsOf v.body 160 32 →
                (bitsOf v.body 48 4 ≠ 1 ∧ bitsOf v.body 48 4 ≠ 2 ∨ safetyReserved v.body = false →
                  exec (.safetyFrameRx n cell) s = .next (u.rxReject SAF.RX_REJ2.MAC_FORMAT)) ∧
                (bitsOf v.body 48 4 = 1 ∨ bitsOf v.body 48 4 = 2 → safetyReserved v.body = true →
                  ∀ (age : Int) (step : Nat), age = sgn 48 ((u.now % 2 ^ 48 + 2 ^ 48 - bitsOf v.body 64 48) % 2 ^ 48) →
                    step = (bitsOf v.body 32 16 + 65536 - u.fget pgSaf (SAF.RX_STAT.LAST_SEQ c)) % 65536 →
                    (u.timeLocked = false ∨ age < -100000 ∨
                        ((min (bitsOf v.body 112 16) (u.fget pgSaf (SAF.RX_CFG.WIN_MAX_US c)) * 1000 : Nat) : Int) < age →
                      exec (.safetyFrameRx n cell) s = .next (u.rxReject SAF.RX_REJ2.TIME)) ∧
                    (u.timeLocked = true → -100000 ≤ age →
                      age ≤ ((min (bitsOf v.body 112 16) (u.fget pgSaf (SAF.RX_CFG.WIN_MAX_US c)) * 1000 : Nat) : Int) →
                      (u.fbit pgSaf (SAF.RX_STAT.FRESH c) = false → step = 0 →
                        exec (.safetyFrameRx n cell) s = .next (u.finc pgSaf SAF.RX_CNT.DUP)) ∧
                      (u.fbit pgSaf (SAF.RX_STAT.FRESH c) = false → 1024 < step →
                        exec (.safetyFrameRx n cell) s = .next (u.rxReject SAF.RX_REJ.SEQ)) ∧
                      (u.fbit pgSaf (SAF.RX_STAT.FRESH c) = true ∨ (1 ≤ step ∧ step ≤ 1024) → ∃ x : State,
                        x.fget pgSaf (SAF.RX_STAT.LAST_SEQ c) = bitsOf v.body 32 16 ∧
                        x.fbit pgSaf (SAF.RX_STAT.FRESH c) = false ∧ x.fbit pgSaf (SAF.RX_STAT.ALIVE c) = true ∧
                        x.fget pgSaf (SAF.RX_STAT.DEMAND c) = bitsOf v.body 52 4 ∧ (x.conn c).lastAccept = u.mono ∧
                        State.SameBut [.safe, .page .saf] u x ∧
                        ∃ y : State, y = State.evalGroups (
                          if bitsOf v.body 52 4 &&& u.fget pgSaf (SAF.RX_CFG.MAP c) = 0 then x
                          else x.tripWith false 3 (bitsOf v.body 52 4 &&& u.fget pgSaf (SAF.RX_CFG.MAP c))) ∧
                          exec (.safetyFrameRx n cell) s = .next
                            (if bitsOf v.body 48 4 = 2 then y.message (bitsOf v.body 128 32) else y)))))))))) ∧
    (∀ c : Fin 2,
      (s.fbit pgSaf (SAF.RX_STAT.ALIVE c) = true → s.safe.handover = none → ∃ u : State,
        exec (.watchdog c) s = .next (u.tripWith false 4 (s.rxGroups c)).evalGroups ∧
        u.fbit pgSaf (SAF.RX_STAT.ALIVE c) = false ∧
        (s.rxEn c = true ∨ s.rxEnGrd c = true → (u.hdr pgSaf).evt.getLsbD 13 = true) ∧
        (s.rxEn c = true → s.rxEnGrd c = false →
          u.mono = max s.mono ((s.conn c).lastAccept + s.fget pgSaf (SAF.RX_CFG.WD_MS c) * 1000000)) ∧
        State.SameBut [.mono, .time, .out, .page .saf] s u) ∧
      (s.fbit pgSaf (SAF.RX_STAT.ALIVE c) = false ∨ s.safe.handover.isSome = true → exec (.watchdog c) s = .next s)) ∧
    (s.fbit pgSaf SAF.CTL.TX_EN = false → exec .statusFrameTx s = .next s) ∧
    (s.fbit pgSaf SAF.CTL.TX_EN = true → s.domOn 1 = true → ∃ t u : State, exec .statusFrameTx s = .next t ∧
      u = s.advanceTo (s.safe.lastStatus + s.fget pgSaf SAF.TX_CFG.PERIOD_MS * 1000000) ∧ t.mono = u.mono ∧
      t.fget pgSaf SAF.TX_STAT.SEQ = (s.fget pgSaf SAF.TX_STAT.SEQ + 1) % 65536 ∧
      t.Answers (.safetyFrame (u.statusBody ((s.fget pgSaf SAF.TX_STAT.SEQ + 1) % 65536))) ∧
      t.safe = { s.safe with lastStatus := t.mono, msgRefused := false } ∧
      State.SameBut [.mono, .time, .safe, .out, .page .saf] s t)

/-- R394 to R396, R411, R412, R414, R415, R429: feedback, the output stage, the self-test and SAFE_RESET move the groups.
CLOSING that shows closed enters PERMIT; OPENING that shows open ends in SAFE or LOCKOUT; disagreeing or late feedback and
bad readbacks trip or lock out; a passed self-test enters SAFE; and a qualified fall of SAFE_RESET takes the groups that
were READY at its rise, and are so still, to CLOSING with both switches on. -/
def Obligations.FeedbackAndRestartMoveGroups : Prop :=
  ∀ s : State, s.boot.powered = true →
    (∀ (g : Fin 4) (isOpen : Bool),
      ((s.group g).state = .closing → isOpen = false → ∃ t : State, exec (.fbChange g isOpen) s = .next t ∧
        t.group g = { s.group g with fbOpen := false, fbSince := s.mono, state := .permit, since := s.mono,
                                     mid := true, outp := true } ∧
        (∀ h, h ≠ g.val → t.group h = s.group h) ∧ (t.hdr pgSaf).evt.getLsbD 9 = true ∧
        t.time = { s.time with disturbed := true } ∧ State.SameBut [.time, .safe, .out, .page .saf] s t) ∧
      ((s.group g).state ≠ .closing ∨ isOpen = true → ∃ u : State, exec (.fbChange g isOpen) s = .next u.evalGroups ∧
        u.group g = { s.group g with fbOpen := isOpen, fbSince := s.mono } ∧
        (∀ h, h ≠ g.val → u.group h = s.group h) ∧ State.SameBut [.safe] s u ∧
        ((s.group g).state = .opening → isOpen = true →
          ((s.group g).lockCause = 0 → (u.evalGroups.group g).state = .safe ∨ (u.evalGroups.group g).state = .ready) ∧
          ((s.group g).lockCause ≠ 0 → (u.evalGroups.group g).state = .lockout ∧
            u.evalGroups.fget pgSaf (SAF.LOCK_CAUSE.CAUSE g) = (s.group g).lockCause % 32)))) ∧
    (∀ g : Fin 4,
      (s.groupEn g = true → ((s.group g).state = .permit ∧ (s.group g).fbOpen = true ∨
          (s.group g).state = .safe ∧ (s.group g).fbOpen = false) → ∃ u : State,
        exec (.fbDisagree g) s = .next (u.tripWith true 12 (1 <<< g.val)) ∧
        u.mono = max s.mono (max (s.group g).fbSince (s.group g).since + 10000000) ∧ State.SameBut [.mono, .time] s u) ∧
      (s.groupEn g = false ∨ ((s.group g).state = .permit → (s.group g).fbOpen = false) ∧
          ((s.group g).state = .safe → (s.group g).fbOpen = true) → exec (.fbDisagree g) s = .next s) ∧
      ((s.group g).state = .closing → ∃ u : State,
        exec (.fbCloseTimeout g) s = .next (u.tripWith true 12 (1 <<< g.val)).evalGroups ∧
        u.mono = max s.mono ((s.group g).since + s.fget pgSaf SAF.FB_TIMING.FB_CLOSE_MS * 1000000) ∧
        State.SameBut [.mono, .time] s u) ∧
      ((s.group g).state ≠ .closing → exec (.fbCloseTimeout g) s = .next s) ∧
      ((s.group g).state = .opening → (s.group g).fbOpen = false → ∃ t : State,
        exec (.fbOpenTimeout g) s = .next t ∧ (t.group g).state = .lockout ∧ (t.group g).swA = false ∧
        (t.group g).swB = false ∧ t.fget pgSaf (SAF.LOCK_CAUSE.CAUSE g) = 12 ∧
        t.mono = max s.mono ((s.group g).since + s.fget pgSaf SAF.FB_TIMING.FB_OPEN_MS * 1000000) ∧
        (∀ h, h ≠ g.val → t.group h = s.group h) ∧ State.SameBut [.mono, .time, .safe, .out, .page .saf] s t) ∧
      ((s.group g).state ≠ .opening ∨ (s.group g).fbOpen = true → exec (.fbOpenTimeout g) s = .next s)) ∧
    (∀ (g : Fin 4) (mid outp : Bool) (coil : Nat),
      ((s.group g).state = .closing ∨ (s.group g).state = .permit →
        exec (.testPulse g mid outp coil) s = .next (
          if outp = true ∨ coil < 5 then (s.tripWith true 13 (1 <<< g.val)).evalGroups else s)) ∧
      ((s.group g).state ≠ .closing → (s.group g).state ≠ .permit → ∃ u : State,
        u.group g = { s.group g with mid := mid, outp := outp } ∧ (∀ h, h ≠ g.val → u.group h = s.group h) ∧
        State.SameBut [.safe] s u ∧ exec (.testPulse g mid outp coil) s = .next
          (if mid = true ∨ outp = true then u.tripWith true 13 (1 <<< g.val) else u).evalGroups)) ∧
    (∀ g : Fin 4,
      ((s.group g).state = .start → (s.group g).testing = none → s.groupEn g = true → s.fbit pgGrd GRD.STAT.SAF_OK = true →
        ∃ t : State, exec (.selfTestStart g) s = .next t ∧ t.group g = { s.group g with testing := some s.mono } ∧
        (∀ h, h ≠ g.val → t.group h = s.group h) ∧ State.SameBut [.safe] s t) ∧
      ((s.group g).state ≠ .start ∨ (s.group g).testing.isSome = true ∨ s.groupEn g = false ∨
          s.fbit pgGrd GRD.STAT.SAF_OK = false → exec (.selfTestStart g) s = .next s) ∧
      (∀ ok : Bool,
        ((s.group g).testing = none ∨ (s.group g).state ≠ .start → exec (.selfTestDone g ok) s = .next s) ∧
        ((s.group g).testing.isSome = true → (s.group g).state = .start → ∃ t : State,
          exec (.selfTestDone g ok) s = .next t ∧ (t.group g).testing = none ∧
          (ok = true → (s.group g).fbOpen = true →
            (∀ n, n < 4 → s.inEn n = true → (s.input n).pinA = (s.input n).pinB) →
            (t.group g).state = .safe ∨ (t.group g).state = .ready) ∧
          (ok = false ∨ (s.group g).fbOpen = false →
            (t.group g).state = .lockout ∧ t.fget pgSaf (SAF.LOCK_CAUSE.CAUSE g) = 19) ∧
          State.SameBut [.safe, .out, .page .saf] s t))) ∧
    (∀ high : Bool, ∃ t : State, exec (.safeResetEdge high) s = .next t ∧
      t.fbit pgSaf SAF.IN_STAT.RESET_PIN = high ∧ t.safe.rstHigh = high ∧
      (high = s.safe.rstHigh → t.safe = s.safe) ∧
      (high = true → s.safe.rstHigh = false → t.safe.rstRise = s.mono ∧ t.safe.rstReady = s.groupsIn .ready ∧
        t.safe.rstQual = s.resetLowLong ∧ t.safe.rstRejected = false ∧ t.safe.groups = s.safe.groups) ∧
      (high = false → s.safe.rstHigh = true → t.safe.rstFall = s.mono ∧
        (∀ g, t.group g =
          if s.safe.rstQual = true ∧ s.safe.rstRejected = false ∧ s.safe.rstRise + 50000000 ≤ s.mono ∧
            s.mono ≤ s.safe.rstRise + 3000000000 ∧ g < 4 ∧ bit s.safe.rstReady g = true ∧ (s.group g).state = .ready then
            { s.group g with state := .closing, since := s.mono, swA := true, swB := true }
          else s.group g) ∧
        (s.safe.rstRise + 3000000000 < s.mono → s.safe.rstRejected = false → (t.hdr pgSaf).evt.getLsbD 14 = true ∧
          t.fget pgSaf SAF.RESET_CNT.REJECTED = min (s.fget pgSaf SAF.RESET_CNT.REJECTED + 1) 65535)) ∧
      State.SameBut [.safe, .out, .page .saf] s t) ∧
    (s.safe.rstHigh = true → s.safe.rstRejected = false → ∃ t : State, exec .resetRejected s = .next t ∧
      t.mono = max s.mono (s.safe.rstRise + 3000000001) ∧ t.safe = { s.safe with rstRejected := true } ∧
      t.fget pgSaf SAF.RESET_CNT.REJECTED = min (s.fget pgSaf SAF.RESET_CNT.REJECTED + 1) 65535 ∧
      (t.hdr pgSaf).evt.getLsbD 14 = true ∧ State.SameBut [.mono, .time, .safe, .out, .page .saf] s t) ∧
    (s.safe.rstHigh = false ∨ s.safe.rstRejected = true → exec .resetRejected s = .next s) ∧
    (s.safe.rstHigh = false → ∃ u : State, exec .safeResetLowHeld s = .next u.evalGroups ∧
      u.mono = max s.mono (s.safe.rstFall + 50000000) ∧ u.safe = { s.safe with rstLowHeld := true } ∧
      State.SameBut [.mono, .time, .safe] s u) ∧
    (s.safe.rstHigh = true → exec .safeResetLowHeld s = .next s) ∧
    (∃ u : State, exec .safeXinHigh s = .next u.evalGroups.settle ∧ u.safe = { s.safe with xinHigh := true } ∧
      u.fget pgSaf SAF.IN_STAT.XIN = 1 ∧ u.fget pgGrd GRD.STAT.XIN = 1 ∧
      State.SameBut [.safe, .page .saf, .page .grd] s u)

/-- R422, R423, R425, R427: the commands of SAF and its ALIVE write. CLEAR_LOCKOUT takes the named groups that are locked out to
SAFE with no cause left; HANDOVER_BEGIN opens a window of 50 ms, in which no group is READY; HANDOVER_END closes it; an
ALIVE write that follows the last, or is a first one, keeps SAF_OK, and any other trips every group. -/
def Obligations.SafetyCommandsTakeEffect : Prop :=
  ∀ (s : State) (m : Master),
    (∀ groups : BitVec 4, s.accepts m.id pgSaf 0x10 groups.toNat = true → ∃ t : State,
      exec (.clearLockout m groups) s = .next t ∧ t.Done pgSaf 0x10 m.id ∧ t.Answers (.access m.id 0 0) ∧
      (∀ g, g < 4 → bit groups.toNat g = true → (s.group g).state = .lockout →
        ((t.group g).state = .safe ∨ (t.group g).state = .ready) ∧ t.fget pgSaf (SAF.LOCK_CAUSE.CAUSE g) = 0) ∧
      (∀ g, (s.group g).state = .start ∨ (s.group g).state = .closing ∨ (s.group g).state = .permit ∨
        ((s.group g).state = .lockout ∧ bit groups.toNat g = false) → t.group g = s.group g) ∧
      State.SameBut [.safe, .out, .page .saf] s t) ∧
    (s.accepts m.id pgSaf 0x11 0 = true → ∃ t : State, exec (.handoverBegin m) s = .next t ∧ t.Done pgSaf 0x11 m.id ∧
      t.Answers (.access m.id 0 0) ∧ t.safe.handover = some (s.mono + 50000000) ∧ t.safe.aliveInWindow = false ∧
      t.fbit pgSaf SAF.GROUP_STAT.HANDOVER = true ∧ t.fbit pgGrd GRD.STAT.HANDOVER = true ∧
      (t.hdr pgSaf).evt.getLsbD 15 = true ∧ (∀ g, g < 4 → (t.group g).state ≠ .ready) ∧
      (∀ g, (s.group g).state = .permit → t.group g = s.group g) ∧
      State.SameBut [.safe, .out, .page .saf, .page .grd] s t) ∧
    (s.accepts m.id pgSaf 0x12 0 = true → ∃ t : State, exec (.handoverEnd m) s = .next t ∧ t.Done pgSaf 0x12 m.id ∧
      t.Answers (.access m.id 0 0) ∧ t.safe.handover = none ∧ t.fbit pgSaf SAF.GROUP_STAT.HANDOVER = false ∧
      t.fbit pgGrd GRD.STAT.HANDOVER = false ∧ t.safe.aliveAt = s.safe.aliveAt.map (fun _ => s.mono) ∧
      (∀ c, c < 2 → (s.conn c).wasAlive = true → (t.conn c).lastAccept = s.mono) ∧
      State.SameBut [.safe, .fw, .out, .page .saf, .page .grd] s t) ∧
    (∀ count : BitVec 8, s.writes m.id pgGrd GRD.ALIVE.COUNT.off count.toNat = true →
      (s.safe.aliveAt = none ∨ count.toNat = (s.fget pgGrd GRD.ALIVE.COUNT + 1) % 256 → ∃ t : State,
        exec (.grdAliveWrite m count) s = .next t ∧ t.Answers (.access m.id 0 0) ∧
        t.fget pgGrd GRD.ALIVE.COUNT = count.toNat ∧ t.fbit pgGrd GRD.STAT.SAF_OK = true ∧
        t.safe = { s.safe with
          aliveAt := some s.mono
          aliveInWindow := s.safe.aliveInWindow ||
            (s.safe.handover.isSome && count.toNat == (s.fget pgGrd GRD.ALIVE.COUNT + 1) % 256) } ∧
        State.SameBut [.safe, .out, .page .grd] s t) ∧
      (s.safe.aliveAt.isSome = true → count.toNat ≠ (s.fget pgGrd GRD.ALIVE.COUNT + 1) % 256 → ∃ u : State,
        exec (.grdAliveWrite m count) s = .next ((u.tripWith true 15 15).evalGroups.emit (.access m.id 0 0)) ∧
        u.fget pgGrd GRD.ALIVE.COUNT = count.toNat ∧ u.fbit pgGrd GRD.STAT.SAF_OK = false ∧
        u.safe = { s.safe with aliveAt := none } ∧ State.SameBut [.safe, .out, .page .grd] s u))

/-- R377, R378: the check-value channels. What is written to a data register is fed in, the least significant byte first; SEAL
posts the value of what was fed and the value with ALIVE, compares it where CHECK_EN says so, and starts again from SEED, as
RESTART does. -/
def Obligations.CheckValuesAreSealed : Prop :=
  ∀ (s : State) (m : Master) (c : Fin 8),
    (∀ data : BitVec 8, s.writes m.id (pgChk c) CHK.DATA_B.BYTE.off data.toNat = true → ∃ t : State,
      exec (.chkDataByte m c data) s = .next t ∧ t.Answers (.access m.id 0 0) ∧
      (t.chk c).crc = crcBytes (s.chk c).crc [data.toNat] ∧
      t.fget (pgChk c) CHK.STAT.BYTES = min (s.fget (pgChk c) CHK.STAT.BYTES + 1) 65535 ∧
      State.SameBut [.chks, .out, .page .chk] s t) ∧
    (∀ data : BitVec 16, s.writes m.id (pgChk c) CHK.DATA_H.HALF.off data.toNat = true → ∃ t : State,
      exec (.chkDataHalf m c data) s = .next t ∧ t.Answers (.access m.id 0 0) ∧
      (t.chk c).crc = crcBytes (s.chk c).crc (leBytes data.toNat 2) ∧
      t.fget (pgChk c) CHK.STAT.BYTES = min (s.fget (pgChk c) CHK.STAT.BYTES + 2) 65535 ∧
      State.SameBut [.chks, .out, .page .chk] s t) ∧
    (∀ data : BitVec 32, s.writes m.id (pgChk c) CHK.DATA_W.WORD.off data.toNat = true → ∃ t : State,
      exec (.chkDataWord m c data) s = .next t ∧ t.Answers (.access m.id 0 0) ∧
      (t.chk c).crc = crcBytes (s.chk c).crc (leBytes data.toNat 4) ∧
      t.fget (pgChk c) CHK.STAT.BYTES = min (s.fget (pgChk c) CHK.STAT.BYTES + 4) 65535 ∧
      State.SameBut [.chks, .out, .page .chk] s t) ∧
    (∀ result : Nat, result = crcByte (s.chk c).crc (s.fget (pgChk c) CHK.ALIVE.COUNT) ^^^ 0xFFFFFFFF →
      s.accepts m.id (pgChk c) 0x10 0 = true → ∃ t : State, exec (.chkSeal m c) s = .next t ∧
      t.Done (pgChk c) 0x10 m.id ∧ t.Answers (.access m.id 0 0) ∧
      t.fget (pgChk c) CHK.RAW.CRC = ((s.chk c).crc ^^^ 0xFFFFFFFF) % 2 ^ 32 ∧
      t.fget (pgChk c) CHK.RESULT.CRC = result % 2 ^ 32 ∧
      t.fget (pgChk c) CHK.STAT.ALIVE_USED = s.fget (pgChk c) CHK.ALIVE.COUNT ∧
      t.fget (pgChk c) CHK.ALIVE.COUNT = (s.fget (pgChk c) CHK.ALIVE.COUNT + 1) % 256 ∧
      (s.fbit (pgChk c) CHK.CTL.CHECK_EN = true →
        t.fbit (pgChk c) CHK.STAT.MATCH = (result == s.fget (pgChk c) CHK.EXPECT.CRC) ∧
        (result ≠ s.fget (pgChk c) CHK.EXPECT.CRC → (t.hdr (pgChk c)).evt.getLsbD 9 = true ∧
          t.fget (pgChk c) CHK.SEALS.MISMATCH = min (s.fget (pgChk c) CHK.SEALS.MISMATCH + 1) 65535)) ∧
      (s.fbit (pgChk c) CHK.CTL.CHECK_EN = false → t.fbit (pgChk c) CHK.STAT.MATCH = s.fbit (pgChk c) CHK.STAT.MATCH) ∧
      (t.chk c).crc = s.fget (pgChk c) CHK.SEED.SEED ∧ t.fget (pgChk c) CHK.STAT.BYTES = 0 ∧
      t.fget (pgChk c) CHK.SEALS.SEALS = min (s.fget (pgChk c) CHK.SEALS.SEALS + 1) 65535 ∧
      (t.hdr (pgChk c)).evt.getLsbD 8 = true ∧ State.SameBut [.chks, .out, .page .chk] s t) ∧
    (s.accepts m.id (pgChk c) 0x11 0 = true → ∃ t : State, exec (.chkRestart m c) s = .next t ∧
      t.Done (pgChk c) 0x11 m.id ∧ t.Answers (.access m.id 0 0) ∧ (t.chk c).crc = s.fget (pgChk c) CHK.SEED.SEED ∧
      t.fget (pgChk c) CHK.STAT.BYTES = 0 ∧ t.fget (pgChk c) CHK.ALIVE.COUNT = s.fget (pgChk c) CHK.ALIVE.COUNT ∧
      State.SameBut [.chks, .out, .page .chk] s t)

/-- R380 to R382, R384, R385, R392: the packet queues. A word enters the open packet, unless it is one too many, which rewinds
the packet; END commits it and ABORT rewinds it; RD_DATA reads the head word by word, MARK and REWIND move within it,
RELEASE frees it; FLUSH and a mismatch of the positions empty the reel; a write that waited for space completes when there
is some. -/
def Obligations.ReelsHoldPackets : Prop :=
  ∀ (s : State) (m : Master) (q : Fin 16) (r : ReelSt), r = s.reel q →
    (∀ data : BitVec 32, s.writes m.id (pgReel q) REEL.WR_DATA.WORD.off data.toNat = true → ∃ t : State,
      exec (.reelWrData m q data) s = .next t ∧ t.Answers (.access m.id 0 0) ∧
      (r.discard = true → t.reels = s.reels ∧ t.sram = s.sram) ∧
      (r.discard = false → s.reelTooLong q = true → (t.reel q).openLen = 0 ∧ (t.reel q).discard = true ∧
        (t.reel q).wr = r.cm ∧ (t.reel q).packets = r.packets ∧ (t.hdr (pgReel q)).evt.getLsbD 10 = true ∧
        t.fget (pgReel q) REEL.CNT2.TOO_LONG = min (s.fget (pgReel q) REEL.CNT2.TOO_LONG + 1) 65535 ∧ t.sram = s.sram) ∧
      (r.discard = false → s.reelTooLong q = false → (t.reel q).openLen = r.openLen + 1 ∧
        (t.reel q).packets = r.packets ∧ (t.reel q).cm = r.cm ∧
        (∀ a, SMap.read 0 t.sram.words a =
          if a = s.reelAddr q (r.cm.toNat + 1 + r.openLen) then data else SMap.read 0 s.sram.words a)) ∧
      State.SameBut [.reels, .sram, .out, .page .reel] s t) ∧
    (s.writes m.id (pgReel q) REEL.WR_CTL.END.off 1 = true → ∃ t : State, exec (.reelEnd m q) s = .next t ∧
      t.Answers (.access m.id 0 0) ∧
      (r.discard = true → t.reel q = { r with discard := false } ∧ t.sram = s.sram) ∧
      (r.discard = false → r.openLen = 0 → t.reels = s.reels ∧
        (t.hdr (pgReel q)).usage = min ((s.hdr (pgReel q)).usage + 1) (max 65535 (s.hdr (pgReel q)).usage)) ∧
      (r.discard = false → r.openLen ≠ 0 → (t.reel q).packets = r.packets ++ [r.openLen] ∧ (t.reel q).openLen = 0 ∧
        (t.reel q).cm = r.wr ∧ (t.hdr (pgReel q)).evt.getLsbD 8 = true ∧
        t.fget (pgReel q) REEL.CNT.PACKETS_IN = min (s.fget (pgReel q) REEL.CNT.PACKETS_IN + 1) 65535 ∧
        (∀ a, SMap.read 0 t.sram.words a =
          if a = s.reelAddr q r.cm.toNat then BitVec.ofNat 32 r.openLen else SMap.read 0 s.sram.words a)) ∧
      State.SameBut [.reels, .sram, .out, .page .reel] s t) ∧
    (s.writes m.id (pgReel q) REEL.WR_CTL.END.off 2 = true → ∃ t : State, exec (.reelAbort m q) s = .next t ∧
      t.Answers (.access m.id 0 0) ∧ (t.reel q).openLen = 0 ∧ (t.reel q).wr = r.cm ∧ (t.reel q).discard = false ∧
      (t.reel q).packets = r.packets ∧
      t.fget (pgReel q) REEL.CNT.ABORTS = min (s.fget (pgReel q) REEL.CNT.ABORTS + 1) 65535 ∧
      State.SameBut [.reels, .out, .page .reel] s t) ∧
    (s.reads m.id (pgReel q) REEL.RD_DATA.WORD.off = true →
      (r.packets.headD 0 ≤ r.pos → ∃ t : State, exec (.reelRdData m q) s = .next t ∧ t.Answers (.access m.id 0 0) ∧
        t.reels = s.reels ∧ State.SameBut [.out, .page .reel] s t) ∧
      (∀ a, r.pos < r.packets.headD 0 → a = s.reelAddr q (r.rd.toNat + 1 + r.pos) →
        (s.sram.poison.contains (a / 8) = false → ∃ t : State, exec (.reelRdData m q) s = .next t ∧
          t.Answers (.access m.id 0 (SMap.read 0 s.sram.words a).toNat) ∧ t.reel q = { r with pos := r.pos + 1 } ∧
          (∀ n, n ≠ q.val → t.reel n = s.reel n) ∧ State.SameBut [.reels, .out] s t) ∧
        (s.sram.poison.contains (a / 8) = true → ∃ u : State,
          u.reel q = { r with pos := r.pos + 1, poisonRead := true, poisonSeen := a / 8 :: r.poisonSeen } ∧
          (u.hdr (pgReel q)).evt.getLsbD 11 = true ∧ State.SameBut [.reels, .out, .page .reel] s u ∧
          exec (.reelRdData m q) s = .next (State.emit (
            if r.poisonSeen.contains (a / 8) = true then u
            else u.report { src := pgReel q, cls := 1, typ := 1, space := 3, addr := a, kind := 2 })
            (.access m.id 0 0))))) ∧
    (s.writes m.id (pgReel q) REEL.RD_CTL.MARK.off 1 = true → ∃ t : State, exec (.reelMark m q) s = .next t ∧
      t.Answers (.access m.id 0 0) ∧ t.reel q = { r with mark := some r.pos } ∧
      (∀ n, n ≠ q.val → t.reel n = s.reel n) ∧ State.SameBut [.reels, .out] s t) ∧
    (s.writes m.id (pgReel q) REEL.RD_CTL.MARK.off 2 = true → ∃ t : State, exec (.reelRewind m q) s = .next t ∧
      t.Answers (.access m.id 0 0) ∧ t.reel q = { r with pos := r.mark.getD 0 } ∧
      (∀ n, n ≠ q.val → t.reel n = s.reel n) ∧ State.SameBut [.reels, .out] s t) ∧
    (s.writes m.id (pgReel q) REEL.RD_CTL.MARK.off 4 = true → ∃ u : State,
      exec (.reelRelease m q) s = .next ((u.reelUnstall q).emit (.access m.id 0 0)) ∧
      (r.packets = [] → u.reels = s.reels) ∧
      (∀ l rest, r.packets = l :: rest → (u.reel q).packets = rest ∧ (u.reel q).pos = 0 ∧ (u.reel q).mark = none ∧
        (u.reel q).poisonRead = false ∧ (u.reel q).poisonSeen = [] ∧ (u.reel q).openLen = r.openLen ∧
        (u.reel q).rd = BitVec.ofNat 16 ((r.rd.toNat + l + 1) % s.reelSize q)) ∧
      (∀ n, n ≠ q.val → u.reel n = s.reel n) ∧ State.SameBut [.reels] s u) ∧
    (s.accepts m.id (pgReel q) 0x10 0 = true → ∃ u : State, exec (.reelFlush m q) s = .next u.resume ∧ u.reel q = {} ∧
      u.Done (pgReel q) 0x10 m.id ∧ u.Answers (.access m.id 0 0) ∧
      State.SameBut [.reels, .links, .waiting, .out, .page .reel] s u) ∧
    (s.boot.powered = true → ∃ u : State,
      exec (.ptrReset q) s = .next ((u.reportDrop (pgReel q)).dropHeldWrites q).resume ∧ u.reel q = {} ∧
      u.fget (pgReel q) REEL.CNT2.RESETS = min (s.fget (pgReel q) REEL.CNT2.RESETS + 1) 65535 ∧
      (u.hdr (pgReel q)).evt.getLsbD 9 = true ∧ State.SameBut [.reels, .out, .page .reel] s u) ∧
    (∀ (a : Access) (data : BitVec 32), s.boot.powered = true → r.stalled = [] →
      a = { master := m.id, write := true, addr := 0x02000000 + addrOf (pgReel q) REEL.WR_DATA.WORD.off, data := data } →
      s.waiting = [a] → s.accessCheck a = none → s.accessHeld a = false → r.discard = false →
      s.reelTooLong q = false → (∀ n, n < 6 → (s.link n).ctl = []) → ∃ t : State,
      exec (.reelWriteResume q) s = .next t ∧ t.waiting = [] ∧ t.Answers (.access m.id 0 0) ∧
      (t.reel q).openLen = r.openLen + 1 ∧ (t.reel q).packets = r.packets ∧
      State.SameBut [.reels, .sram, .waiting, .out, .page .reel] s t)

/-- R434 to R437, R440 to R443: a request for a state of a power domain. A domain or a state that is not there is refused; with
no transition in the way a request for the present state is done at once, an exit starts, or is refused while its parent is
not on, and an entry starts unless a check of R435 refuses it; during a transition a request waits in the queue or, while
the entry can still be undone, turns it back. SIGNAL_DETECT and WAKE_TIMER wake in the same way. -/
def Obligations.DomainsAreRequested : Prop :=
  ∀ (s : State) (m : Master) (d : BitVec 5),
    (∀ (k : Fin 4) (c : Instr), c ∈ [Instr.domainReqOn m d, .domainReqRet m d, .domainReqOff m d, .domainReqIllegal m d k] →
      (c = .domainReqOn m d → k = 0) → (c = .domainReqRet m d → k = 1) → (c = .domainReqOff m d → k = 2) →
      s.writes m.id pgPwr PWR.REQ.DOMAIN.off (d.toNat + 32 * k) = true →
      (d.toNat = 0 ∨ 18 < d.toNat ∨ k = 3 → ∃ t : State, exec c s = .next t ∧ t.Answers (.access m.id 0 0) ∧
        t.fget pgPwr PWR.REQ_STAT.DOMAIN = d.toNat ∧ t.fget pgPwr PWR.REQ_STAT.OUTCOME = 6 ∧
        t.fget pgPwr PWR.REQ_STAT.REASON = 6 ∧ t.fget pgPwr PWR.REQ_STAT.MASTER = m.id ∧
        t.fget pgPwr PWR.REFUSE_CNT.COUNT = min (s.fget pgPwr PWR.REFUSE_CNT.COUNT + 1) (2 ^ 32 - 1) ∧
        t.fget pgPwr PWR.LAST_REFUSER.WHO = m.id ∧ (t.hdr pgPwr).evt.getLsbD 9 = true ∧
        State.SameBut [.out, .page .pwr] s t) ∧
      (1 ≤ d.toNat → d.toNat ≤ 18 → k ≠ 3 → ∃ t : State, exec c s = .next t ∧ t.Answers (.access m.id 0 0) ∧
        t.fget pgPwr PWR.REQ_STAT.DOMAIN = d.toNat ∧ t.fget pgPwr PWR.REQ_STAT.MASTER = m.id ∧
        (s.trans d.toNat = none → SMap.read none s.pwr.held d.toNat = none →
          (s.domState d.toNat = k → t.fget pgPwr PWR.REQ_STAT.OUTCOME = 5 ∧ State.SameBut [.out, .page .pwr] s t) ∧
          (k = 0 → s.domState d.toNat ≠ 0 →
            (parentOf d.toNat = none ∨ (s.trans 8 = none ∧ s.domState 8 = 0) →
              t.fget pgPwr PWR.REQ_STAT.OUTCOME = 1 ∧
              t.trans d.toNat = some { target := 0, source := s.domState d.toNat,
                                       start := s.mono + if s.fbit pgPwr PWR.LP_CTL.LP_NOW then 5000 else 0 } ∧
              t.fbit pgPwr PWR.LP_CTL.LP_NOW = false ∧ State.SameBut [.pwr, .out, .page .pwr] s t) ∧
            (parentOf d.toNat = some 8 → s.trans 8 = none → s.domState 8 ≠ 0 →
              t.fget pgPwr PWR.REQ_STAT.OUTCOME = 6 ∧ t.fget pgPwr PWR.REQ_STAT.REASON = 2 ∧ t.pwr = s.pwr)) ∧
          (k ≠ 0 → s.domState d.toNat = 0 →
            (s.entryCheck d.toNat = none → t.fget pgPwr PWR.REQ_STAT.OUTCOME = 1 ∧
              t.trans d.toNat = some { target := k, source := 0, start := s.mono } ∧
              t.fbit pgPwr (PWR.DOM_STAT.BUSY d.toNat) = true) ∧
            (∀ reason who, s.entryCheck d.toNat = some (reason, who) → t.fget pgPwr PWR.REQ_STAT.OUTCOME = 6 ∧
              t.fget pgPwr PWR.REQ_STAT.REASON = reason ∧ t.fget pgPwr PWR.LAST_REFUSER.WHO = who ∧
              State.SameBut [.out, .page .pwr] s t))) ∧
        (∀ x, s.trans d.toNat = some x →
          (x.target = 0 ∨ x.abandon.isSome = true → k ≠ 0 → t.queuedReq d.toNat = some (k.val, m.id) ∧
            t.trans d.toNat = some x ∧
            t.fget pgPwr PWR.REQ_STAT.OUTCOME = if (s.queuedReq d.toNat).isSome = true then 3 else 2) ∧
          (x.target ≠ 0 → x.abandon = none → x.source = 0 → s.mono - x.start < x.pointC d.toNat → k = 0 →
            t.trans d.toNat = some { x with abandon := some m.id } ∧ t.queuedReq d.toNat = none ∧
            t.fget pgPwr PWR.REQ_STAT.OUTCOME = 4) ∧
          (x.target = k → x.abandon = none → t.trans d.toNat = some x ∧ t.queuedReq d.toNat = none ∧
            t.fget pgPwr PWR.REQ_STAT.OUTCOME = 5) ∧
          State.SameBut [.pwr, .out, .page .pwr] s t))) ∧
    (∀ n : Fin 6, s.boot.powered = true →
      (bit (s.fget pgPwr PWR.LINK_WAKE.EN) n = false ∨ s.domState (9 + n) ≠ 1 → exec (.signalDetect n) s = .next s) ∧
      (bit (s.fget pgPwr PWR.LINK_WAKE.EN) n = true → s.domState (9 + n) = 1 → s.trans (9 + n) = none →
        SMap.read none s.pwr.held (9 + n) = none → ∃ t : State, exec (.signalDetect n) s = .next t ∧
        bit (t.fget pgPwr PWR.LINK_WAKE.SEEN) n = true ∧
        t.trans (9 + n) = some { target := 0, source := 1,
                                 start := s.mono + if s.fbit pgPwr PWR.LP_CTL.LP_NOW then 5000 else 0 } ∧
        t.word (addrOf pgPwr 0x044) = s.word (addrOf pgPwr 0x044) ∧ State.SameBut [.pwr, .out, .page .pwr] s t)) ∧
    (s.boot.powered = true → s.fbit pgPwr PWR.WAKE_MASK.ARMED = false → exec .wakeTimer s = .next s) ∧
    (s.boot.powered = true → s.fbit pgPwr PWR.WAKE_MASK.ARMED = true → ∃ u : State,
      u.mono = s.mono + (s.fget64 pgPwr PWR.WAKE_AT_LO.NS PWR.WAKE_AT_HI.NS - s.now) ∧
      u.fbit pgPwr PWR.WAKE_MASK.ARMED = false ∧ State.SameBut [.mono, .time, .page .pwr] s u ∧
      exec .wakeTimer s = .next ((8 :: domains.filter (· != 8)).foldl (fun w k =>
        if 1 ≤ k && bit (s.fget pgPwr PWR.WAKE_MASK.DOMAINS) (k - 1) then w.wake 0x48 k else w) u))

/-- R431, R433, R438, R439, R441, R442, R444, R446, R570: transitions end. An entry ends in its state at its time, and a domain
in RET keeps everything; an exit ends in ON and shows LOST on the pages of a domain that had lost its state; an entry that
is undone leaves the domain ON; then what the end lets go on goes on. The always-on regulator goes into low-power mode when
all is off, and a brown-out takes every domain that was only retained. -/
def Obligations.TransitionsEnd : Prop :=
  ∀ s : State, s.boot.powered = true →
    (∀ d : Fin 19, s.trans d = none → exec (.domainEntryDone d) s = .next s.resume ∧
      exec (.domainExitDone d) s = .next s.resume ∧ exec (.entryAbandon d) s = .next s.resume) ∧
    (∀ (d : Fin 19) (x : Trans), 1 ≤ d.val → s.trans d = some x →
      (x.target ≠ 0 → x.abandon = none → ∃ u : State, exec (.domainEntryDone d) s = .next (u.runQueued d).resume ∧
        u.trans d = none ∧ u.domState d = (if x.lost = true then 2 else x.target) % 4 ∧
        u.mono = max s.mono (x.start + x.length d) ∧ u.fbit pgPwr (PWR.DOM_STAT.BUSY d) = false ∧
        (u.hdr pgPwr).evt.getLsbD 8 = true ∧
        (x.lost = false → x.target = 1 → State.SameBut [.mono, .time, .pwr, .out, .page .pwr] s u) ∧
        (d = 8 → x.lost = false → x.target = 2 → u.dram = {} ∧ u.mem = {})) ∧
      (x.target = 0 → ∃ u : State,
        exec (.domainExitDone d) s = .next
          (((((u.scalDomainOn d).breakExpired d).restartActivity d).startHeld d).runQueued d).resume ∧
        u.trans d = none ∧ u.domState d = 0 ∧ u.fbit pgPwr (PWR.DOM_STAT.LOST d) = false ∧
        u.mono = max s.mono (x.start + x.length d) ∧ (u.hdr pgPwr).evt.getLsbD 8 = true ∧
        (s.fbit pgPwr (PWR.DOM_STAT.LOST d) = true → ∀ p ∈ pagesOfDomain d, (u.hdr p).lost = true) ∧
        (s.fbit pgPwr (PWR.DOM_STAT.LOST d) = false → State.SameBut [.mono, .time, .pwr, .out, .page .pwr] s u)) ∧
      (∀ who, x.abandon = some who → ∃ u : State,
        exec (.entryAbandon d) s = .next (((u.restartActivity d).breakExpired d).runQueued d).resume ∧
        u.trans d = none ∧ u.fget pgPwr PWR.LAST_REFUSER.REASON = 8 ∧ (u.hdr pgPwr).evt.getLsbD 10 = true ∧
        u.domState d = s.domState d ∧ s.mono ≤ u.mono ∧ State.SameBut [.mono, .time, .pwr, .out, .page .pwr] s u)) ∧
    (s.fbit pgPwr PWR.LP_CTL.LP_EN = true → s.fbit pgPwr PWR.LP_CTL.LP_NOW = false →
      (∀ d, 1 ≤ d → d ≤ 18 → s.domState d ≠ 0 ∧ s.trans d = none ∧ s.queuedReq d = none) → ∃ t : State,
      exec .lpEnter s = .next t ∧ t.fbit pgPwr PWR.LP_CTL.LP_NOW = true ∧ t.mono = max s.mono (s.pwr.allOffAt + 10000) ∧
      (t.hdr pgPwr).evt.getLsbD 12 = true ∧ State.SameBut [.mono, .time, .out, .page .pwr] s t) ∧
    (s.fbit pgPwr PWR.LP_CTL.LP_EN = false ∨ s.fbit pgPwr PWR.LP_CTL.LP_NOW = true ∨
      (∃ d, 1 ≤ d ∧ d ≤ 18 ∧ (s.domState d = 0 ∨ s.trans d ≠ none ∨ s.queuedReq d ≠ none)) → exec .lpEnter s = .next s) ∧
    (∃ u : State, exec .brownout s = .next (u.reportDrop pgPwr).resume ∧ u.fbit pgPwr PWR.LP_CTL.LP_EN = false ∧
      u.fbit pgPwr PWR.LP_CTL.LP_NOW = false ∧ (u.hdr pgPwr).evt.getLsbD 11 = true ∧
      u.fget pgPwr PWR.BO_STAT.BO_CNT = min (s.fget pgPwr PWR.BO_STAT.BO_CNT + 1) 65535 ∧
      u.fget pgPwr PWR.BO_MASK.DOMAINS = maskOf (domains.filter s.onlyRetained) % 2 ^ 19 ∧
      (∀ d, 1 ≤ d → d ≤ 18 → s.trans d = none → s.domState d = 1 →
        u.domState d = 2 ∧ u.fbit pgPwr (PWR.DOM_STAT.LOST d) = true) ∧
      (∀ d, 1 ≤ d → d ≤ 18 → s.onlyRetained d = false → u.domState d = s.domState d ∧ u.trans d = s.trans d) ∧
      u.mono = s.mono ∧ u.dram = s.dram ∧ u.otp = s.otp ∧ u.flash = s.flash)

/-- R448 to R453, R464: conversions on demand. A demand counts with its source and starts a conversion of the enabled sensors it
names, or waits for the one that runs; the guard and SCAL demand in their periods; a conversion that ends takes the readings
of its sensors and serves the demands that wait. -/
def Obligations.ConversionsFollowDemands : Prop :=
  ∀ s : State,
    (∀ (m : Master) (sensors : BitVec 12) (mr4 : Bool),
      s.writes m.id pgThm THM.DEMAND.MR4.off (sensors.toNat + 4096 * b2n mr4) = true → ∃ t : State,
      exec (.thmDemand m sensors mr4) s = .next t ∧ t.Answers (.access m.id 0 0) ∧
      t.fget pgThm THM.DEMAND_CNT.REG = min (s.fget pgThm THM.DEMAND_CNT.REG + 1) 255 ∧
      t.fbit pgThm THM.STAT.BUSY = true ∧
      (s.fbit pgThm THM.STAT.BUSY = false →
        t.thm = { s.thm with converting := sensors.toNat &&& s.fget pgThm THM.CFG.EN } ∧
        (mr4 = true → s.domOn 8 = true → s.fget pgMem MEM.STAT.STATE = 2 → t.mem = { s.mem with mr4Due := true })) ∧
      (s.fbit pgThm THM.STAT.BUSY = true → t.mem = s.mem ∧
        t.thm = { s.thm with waiting := some (match s.thm.waiting with
          | some (k, r) => (k ||| sensors.toNat, r || mr4)
          | none => (sensors.toNat, mr4)) }) ∧ State.SameBut [.mem, .thm, .out, .page .thm] s t) ∧
    (s.boot.powered = true → ∃ t : State, exec .guardDemand s = .next t ∧
      t.mono = max s.mono (s.pwr.lastGuard + s.fget pgThm THM.CFG.GUARD_MS * 1000000) ∧
      t.pwr = { s.pwr with lastGuard := t.mono } ∧
      ((∀ d, 1 ≤ d → d ≤ 18 → s.domOn d = false) → t.thm = s.thm ∧ t.pages = s.pages) ∧
      ((∃ d, 1 ≤ d ∧ d ≤ 18 ∧ s.domOn d = true) → t.fbit pgThm THM.STAT.BUSY = true ∧
        t.fget pgThm THM.DEMAND_CNT.PWR = min (s.fget pgThm THM.DEMAND_CNT.PWR + 1) 255 ∧
        (s.fbit pgThm THM.STAT.BUSY = false → t.thm.converting = s.fget pgThm THM.CFG.EN)) ∧
      State.SameBut [.mono, .time, .mem, .pwr, .thm, .page .thm] s t) ∧
    (s.boot.powered = true → ∃ t : State, exec .scalCheck s = .next t ∧
      t.mono = max s.mono (s.scal.lastCheck + s.fget pgScal SCAL.CTL.CHECK_MS * 1000000) ∧
      t.scal = { s.scal with lastCheck := t.mono } ∧
      (s.fbit pgScal SCAL.CTL.EN = false → t.thm = s.thm ∧ t.pages = s.pages) ∧
      (s.fbit pgScal SCAL.CTL.EN = true → t.fbit pgThm THM.STAT.BUSY = true ∧
        t.fget pgThm THM.DEMAND_CNT.SCAL = min (s.fget pgThm THM.DEMAND_CNT.SCAL + 1) 255 ∧
        (s.fbit pgThm THM.STAT.BUSY = false → t.thm.converting = s.fget pgThm THM.CFG.EN)) ∧
      State.SameBut [.mono, .time, .mem, .thm, .scal, .page .thm] s t) ∧
    (∀ (values : List (BitVec 16)) (bad : BitVec 12), s.boot.powered = true →
      (s.fbit pgThm THM.STAT.BUSY = false → exec (.thmConversionDone values bad) s = .next s) ∧
      (s.fbit pgThm THM.STAT.BUSY = true → ∃ u t : State, exec (.thmConversionDone values bad) s = .next t ∧
        u = (bitsSet s.thm.converting 12).foldl (fun w n =>
          w.reading n ((values.map BitVec.toNat).getD n 0) (bit bad.toNat n)) s ∧
        (t.hdr pgThm).evt.getLsbD 13 = true ∧ t.fget64 pgThm THM.LAST_CONV_LO.NS THM.LAST_CONV_HI.NS = u.now % 2 ^ 64 ∧
        t.fget pgThm THM.STAT.CONVERSIONS = min (u.fget pgThm THM.STAT.CONVERSIONS + 1) 65535 ∧
        t.fbit pgThm THM.STAT.BUSY = u.thm.waiting.isSome ∧ t.thm.waiting = none ∧
        t.thm.converting = (match u.thm.waiting with
          | some (k, _) => k &&& u.fget pgThm THM.CFG.EN
          | none => 0) ∧ State.SameBut [.mem, .thm, .out, .page .thm] u t) ∧
      ∀ n value, n < 12 → -800 ≤ sgn 16 value → sgn 16 value ≤ 2400 → value < 65536 →
        sgn 16 value < 16 * s.level (THM.TS_LIM.TRIP n) → ∃ w : State,
        s.reading n value false = w.scalReading n value ∧ w.fget pgThm (THM.TS.VALUE n) = value ∧
        w.fbit pgThm (THM.TS.VALID n) = true ∧ w.fbit pgThm (THM.TS.BROKEN n) = false)

/-- R461 to R470, R474: self-calibration. RUN sets its units pending; the lowest pending unit runs, member by member, and its
run ends with its mark in FAILED; an oscillator unit counts once. A conversion of the MADC posts its corrected code; a gate
that is off by more than 200 ppm, or a loss, takes REFIN's validity away, and three good gates bring it. -/
def Obligations.SelfCalibrationRuns : Prop :=
  ∀ s : State,
    (∀ (m : Master) (units : BitVec 21) (k : Nat), s.accepts m.id pgScal 0x10 units.toNat = true →
      k = (if units = 0 then 0x1FFFFF else units.toNat) → ∃ t : State, exec (.scalRun m units) s = .next t ∧
      t.Runs pgScal 0x10 units.toNat m.id ∧ t.Answers (.access m.id 0 0) ∧
      t.fget pgScal SCAL.PENDING.UNITS = s.fget pgScal SCAL.PENDING.UNITS ||| k ∧
      t.scal = { s.scal with cmdUnits := k, cmdFailed := false } ∧ State.SameBut [.scal, .out, .page .scal] s t) ∧
    (∀ u, s.boot.powered = true → s.scal.run = none → s.fbit pgScal SCAL.CTL.EN = true →
      (bitsSet (s.fget pgScal SCAL.PENDING.UNITS) 21).head? = some u → ∃ t : State, exec .scalRunStart s = .next t ∧
      t.scal = { s.scal with run := some { unit := u } } ∧ bit (t.fget pgScal SCAL.PENDING.UNITS) u = false ∧
      (∀ v, v < 21 → v ≠ u → bit (t.fget pgScal SCAL.PENDING.UNITS) v = bit (s.fget pgScal SCAL.PENDING.UNITS) v) ∧
      t.fbit pgScal SCAL.STAT.BUSY = true ∧ t.fget pgScal SCAL.STAT.UNIT = u ∧
      (s.fbit pgThm (THM.TS.VALID (sensorOf u)) = true → s.fbit pgThm (THM.TS.BROKEN (sensorOf u)) = false →
        t.fget pgScal (SCAL.UNIT_STAT.TEMP u) = s.fget pgThm (THM.TS.VALUE (sensorOf u))) ∧
      State.SameBut [.scal, .page .scal] s t) ∧
    (s.boot.powered = true → s.scal.run.isSome = true ∨ s.fget pgScal SCAL.PENDING.UNITS = 0 ∨
      s.fbit pgScal SCAL.CTL.EN = false → exec .scalRunStart s = .next s) ∧
    (∀ (r : ScalRun) (hits : List Nat) (reaches : Bool) (raw2 rawRef : Nat), s.boot.powered = true → s.scal.run = some r →
      (r.unit < 8 → r.next ≤ (s.scalMembers r.unit).length → hits.length = 1024 → (∀ h ∈ hits, h ≠ 0) → reaches = true →
        ∃ t : State, exec (.scalMemberDone hits reaches raw2 rawRef) s = .next t ∧
        t.scal.run = some { r with next := r.next + 1 } ∧
        (SMap.read [] t.scal.tables (if r.next = 0 then 64 + r.unit else (s.scalMembers r.unit).getD (r.next - 1) 0)).length =
          1024 ∧
        (r.next = 0 → SMap.read none s.scal.replaced r.unit = none → bit t.scal.spareGood r.unit = true) ∧
        State.SameBut [.free, .scal] s t) ∧
      (r.unit = 8 → r.next ≤ (s.scalMembers 8).length → (s.madcCal raw2 rawRef).isSome = true → ∃ t : State,
        exec (.scalMemberDone hits reaches raw2 rawRef) s = .next t ∧
        t.scal.run = some { r with next := r.next + 1, cal := s.madcCal raw2 rawRef } ∧ State.SameBut [.scal] s t) ∧
      (r.unit < 8 → r.next ≤ (s.scalMembers r.unit).length → reaches = false → r.next ≠ 0 →
        bit s.scal.spareGood r.unit = true → ∃ u v : State,
        exec (.scalMemberDone hits reaches raw2 rawRef) s = .next v ∧
        u = (s.useSpare r.unit ((s.scalMembers r.unit).getD (r.next - 1) 0)).reportDrop 5 ∧
        v = { u with scal := { u.scal with run := some { r with next := r.next + 1, failed := true } } }) ∧
      (9 ≤ r.unit ∨ (s.scalMembers r.unit).length < r.next →
        exec (.scalMemberDone hits reaches raw2 rawRef) s = .next s) ∧
      (∀ ends : BitVec 19, 9 ≤ r.unit → r.counted = false →
        ((islandsOf (r.unit - 9)).zipIdx.all (fun e => !(s.domOn (islandDomain e.1) && bit ends.toNat e.2))) = true →
        ∃ t : State, exec (.oscCountDone ends) s = .next t ∧ t.scal.run = some { r with counted := true, failed := false } ∧
        (∀ i ∈ islandsOf (r.unit - 9), s.domOn (islandDomain i) = true → ∃ o, SMap.read none t.scal.oscs i = some o ∧
          o.temp = s.fget pgThm (THM.TS.VALUE (r.unit - 9))) ∧ State.SameBut [.free, .scal] s t) ∧
      (∀ ends : BitVec 19, r.unit < 9 ∨ r.counted = true → exec (.oscCountDone ends) s = .next s) ∧
      (r.unit < 21 → (if r.unit < 9 then (s.scalMembers r.unit).length < r.next else r.counted = true) → ∃ t : State,
        exec .scalRunDone s = .next t ∧ t.scal.run = none ∧
        bit (t.fget pgScal SCAL.FAILED.UNITS) r.unit = r.failed ∧
        t.fbit pgScal (SCAL.UNIT_STAT.FAILED r.unit) = r.failed ∧
        t.fget pgScal (SCAL.UNIT_STAT.RUNS r.unit) = (s.fget pgScal (SCAL.UNIT_STAT.RUNS r.unit) + 1) % 4096 ∧
        t.fget pgScal SCAL.RUN_CNT.RUNS = min (s.fget pgScal SCAL.RUN_CNT.RUNS + 1) 65535 ∧
        bit t.scal.completed r.unit = true ∧ SMap.read 0 t.scal.lastRun r.unit = s.mono ∧
        t.fbit pgScal SCAL.STAT.BUSY = false ∧ (t.hdr pgScal).evt.getLsbD (if r.failed = true then 9 else 8) = true ∧
        (∀ o g, r.cal = some (o, g) → t.fget pgScal SCAL.MADC_CAL.OFFSET = o % 65536 ∧
          t.fget pgScal SCAL.MADC_CAL.GAIN = g % 65536) ∧ State.SameBut [.scal, .out, .page .scal] s t) ∧
      ((if r.unit < 9 then r.next ≤ (s.scalMembers r.unit).length else r.counted = false) →
        exec .scalRunDone s = .next s)) ∧
    (∀ (c : Fin 12) (raw : BitVec 16) (v : Int), s.boot.powered = true →
      v = rshift (((raw.toNat : Int) - s.fgetI pgScal SCAL.MADC_CAL.OFFSET) * s.fget pgScal SCAL.MADC_CAL.GAIN) 15 →
      (c ≠ 3 ∨ s.fw.waitSince = none) → ∃ t : State, exec (.madcConversion c raw) s = .next t ∧
        t.fbit pgScal (SCAL.MADC_RES.VALID c) = true ∧
        (0 ≤ v → v ≤ 65535 → (t.fget pgScal (SCAL.MADC_RES.VALUE c) : Int) = v ∧ t.free = s.free) ∧
        State.SameBut [.free, .scal, .out, .page .scal] s t) ∧
    (∀ ofs : Int, s.boot.powered = true →
      (s.fget pgScal SCAL.CTL.REFIN_SEL = 0 → exec (.refinGate ofs) s = .next s) ∧
      (s.fget pgScal SCAL.CTL.REFIN_SEL ≠ 0 → ∃ t : State, exec (.refinGate ofs) s = .next t ∧
        t.fget pgScal SCAL.REFIN_PPM.OFFSET = unsgn 32 ofs ∧
        (200000 < ofs.natAbs → t.fbit pgScal SCAL.STAT.REFIN_VALID = false ∧ t.scal.refinGood = 0) ∧
        (ofs.natAbs ≤ 200000 → t.scal.refinGood = min (s.scal.refinGood + 1) 3 ∧
          t.fbit pgScal SCAL.STAT.REFIN_VALID = (s.fbit pgScal SCAL.STAT.REFIN_VALID || decide (2 ≤ s.scal.refinGood))) ∧
        State.SameBut [.scal, .out, .page .scal] s t)) ∧
    (s.boot.powered = true → ∃ t : State, exec .refinLoss s = .next t ∧
      t.fbit pgScal SCAL.STAT.REFIN_VALID = false ∧ t.scal.refinGood = 0 ∧
      (s.fbit pgScal SCAL.STAT.REFIN_VALID = true → t.fbit pgScal SCAL.STAT.TIME_UNTRACED = true ∧
        (t.hdr pgScal).evt.getLsbD 10 = true ∧ t.fget pgScal SCAL.PENDING.UNITS =
          s.fget pgScal SCAL.PENDING.UNITS ||| 0x1FFE00 ∧
        (∀ r, s.scal.run = some r → t.scal.run = if 9 ≤ r.unit then none else some r)) ∧
      State.SameBut [.scal, .out, .page .scal] s t)

/-- R480, R481, R485 to R488, R491, R494, R499 to R501, R503: MIRROR messages. Over a LINK4 that is not trusted none is heard.
Over a trusted one each updates MGEN_RX and has its effect: HEARTBEAT shows the partner and ends a resynchronisation, COMMIT
and OUTCOME follow the partner's commits, BLOCK, REBUILD and LIST its memory, buffer and fault list, COMMAND its VERIFY,
SPLIT and YIELD hand rings over, TAKEN demotes, RESYNC begins and ends a resynchronisation, DIAGRESP is taken as the
device's own. -/
def Obligations.MirrorMessagesAreFollowed : Prop :=
  ∀ (s : State) (mgen : BitVec 32), s.boot.powered = true →
    (s.link4Trusted = false →
      (∀ a b c d e f g h, exec (.mirrorHeartbeatRx mgen a b c d e f g h) s = .next s.settle) ∧
      (∀ a b c d e, exec (.mirrorCommitRx mgen a b c d e) s = .next s.settle) ∧
      (∀ a b, exec (.mirrorOutcomeRx mgen a b) s = .next s.settle) ∧
      (∀ a b c d, exec (.mirrorBlockRx mgen a b c d) s = .next s.settle ∧
        ∀ v w x y, exec (.mirrorRebuildRx mgen v w x y) s = .next s.settle) ∧
      (∀ a b c d, exec (.mirrorListRx mgen a b c d) s = .next s.settle) ∧
      (∀ a b c, exec (.mirrorCommandRx mgen a b c) s = .next s.settle) ∧
      (∀ a b c d, exec (.mirrorSplitRx mgen a b c d) s = .next s.settle) ∧
      (∀ a, exec (.mirrorYieldRx mgen a) s = .next s.settle) ∧ exec (.mirrorTakenRx mgen) s = .next s.settle ∧
      (∀ a, exec (.mirrorResyncRx mgen a) s = .next s.settle) ∧
      ∀ a b c d, exec (.mirrorDiagrespRx mgen a b c d) s = .next s.settle) ∧
    (s.link4Trusted = true → ∃ u : State, State.Heard mgen.toNat s u ∧
      (∀ (slot : Fin 4) (st : Fin 8) ready inhibit (groups : BitVec 12) (epoch frame : BitVec 16) primary,
        (s.pairState = 0 →
          exec (.mirrorHeartbeatRx mgen slot st ready inhibit groups epoch frame primary) s = .next u.settle) ∧
        (s.pairState ≠ 0 → ∃ t : State,
          exec (.mirrorHeartbeatRx mgen slot st ready inhibit groups epoch frame primary) s = .next t.settle ∧
          t.pair.partner = some ⟨slot, st, ready, inhibit, groups.toNat, epoch.toNat, frame.toNat, primary⟩ ∧
          t.pair.hbDue = none ∧ t.pair.missRun = 0 ∧ t.fget pgPair PAIR.STAT.PARTNER_STATE = st ∧
          (s.pairState = 3 → frame.toNat ≠ s.frame → t.pairReady = false) ∧
          (s.pairState = 2 → u.pair.goodRun = some 1 → frame.toNat = s.frame → u.showOffset.offsetOk = true →
            t.pairState = 3 ∧ t.pairReady = true ∧ t.fget pgPair PAIR.STAT.NR_REASON = 0) ∧
          State.SameBut [.free, .duds, .pair, .out, .page .pair, .page .dud] s t)) ∧
      (∀ (p : Fin 128) (gen : BitVec 16) (boundary : Fin 4) (group : Bool) (entries : List (BitVec 12 × BitVec 32)) c,
        c = { gen := gen.toNat, boundary := boundary, group := group,
              entries := entries.map (fun e => (e.1.toNat, e.2.toNat)) } →
        (s.pairFollows = false ∨ mirroredPage p = false →
          exec (.mirrorCommitRx mgen p gen boundary group entries) s = .next u.settle) ∧
        (s.pairFollows = true → mirroredPage p = true →
          ((u.mirrorPend p).isSome = true → exec (.mirrorCommitRx mgen p gen boundary group entries) s =
            .next ((u.refuseCommit [↑p] p 2).clearReady 3).settle) ∧
          (u.mirrorPend p = none → group = true ∧ boundary.val ≠ 2 ∨ u.mirrorCheck p c = none ∧ boundary.val ≠ 2 → ∃ t : State,
            exec (.mirrorCommitRx mgen p gen boundary group entries) s = .next t.settle ∧ t.mirrorPend p = some c ∧
            (t.hdr p).commitState = 1 ∧ (t.hdr p).commitReason = 0 ∧
            ∀ q, q ≠ p.val → t.hdr q = u.hdr q ∧ t.mirrorPend q = u.mirrorPend q) ∧
          (u.mirrorPend p = none → boundary.val = 2 → u.mirrorCheck p c = none →
            exec (.mirrorCommitRx mgen p gen boundary group entries) s = .next (u.mirrorApply p c).settle) ∧
          (∀ r, u.mirrorPend p = none → group = false ∨ boundary.val = 2 → u.mirrorCheck p c = some r →
            exec (.mirrorCommitRx mgen p gen boundary group entries) s =
              .next ((u.refuseCommit [↑p] p r).clearReady 3).settle))) ∧
      (∀ (p : Fin 128) (st : Fin 8),
        (s.pairFollows = false → exec (.mirrorOutcomeRx mgen p st) s = .next u.settle) ∧
        (s.pairFollows = true → u.mirrorPend p = none →
          exec (.mirrorOutcomeRx mgen p st) s = .next (u.clearReady 3).settle) ∧
        (∀ c, s.pairFollows = true → u.mirrorPend p = some c →
          (st.val = 2 → c.group = false ∨ u.mirrorCheck p c = none →
            exec (.mirrorOutcomeRx mgen p st) s = .next ((u.setMirrorPend p none).mirrorApply p c).settle) ∧
          (st.val = 2 → c.group = true → u.mirrorCheck p c ≠ none →
            exec (.mirrorOutcomeRx mgen p st) s = .next ((u.mirrorAbandon p).clearReady 3).settle) ∧
          (st.val = 4 → exec (.mirrorOutcomeRx mgen p st) s = .next (u.mirrorDefer p c).settle ∧
            (u.mirrorDefer p c).mirrorPend p = some { c with since := none } ∧
            ((u.mirrorDefer p c).hdr p).commitState = 4) ∧
          (st.val ≠ 2 → st.val ≠ 4 → exec (.mirrorOutcomeRx mgen p st) s = .next (u.mirrorAbandon p).settle ∧
            (u.mirrorAbandon p).mirrorPend p = none ∧ ((u.mirrorAbandon p).hdr p).commitState = 5 ∧
            ((u.mirrorAbandon p).hdr p).commitReason = 7))) ∧
      (∀ (block : BitVec 27) (tag : BitVec 8) poison (data : BitVec 256), exec (.mirrorBlockRx mgen block tag poison data) s =
        .next (if s.pairFollows = true ∧ block.toNat < dramBlocks then
          (u.admitWrite 0xC block.toNat data.toNat tag.toNat poison).settle else u.settle)) ∧
      (∀ (buffer : Fin 2) (gen : BitVec 16) (ceilings : Vector (BitVec 16) 16) (frame : BitVec 16) v,
        v = some (frame.toNat, buffer.val, gen.toNat, ceilings.toList.map BitVec.toNat) →
        exec (.mirrorRebuildRx mgen buffer gen ceilings frame) s = .next (if s.pairFollows = false then u.settle
          else if s.framePassed frame.toNat = true then (u.clearReady 3).settle
          else State.settle { u with pair := { u.pair with rebuild := v } })) ∧
      (∀ (e : BitVec 23) (short remove : Bool) (frame : BitVec 16) c,
        c = ⟨e.toNat, if remove then 0 else if short then 2 else 1, s.mono, some frame.toNat⟩ → exec (.mirrorListRx mgen e short remove frame) s =
        .next (if s.pairFollows = false then u.settle
          else if s.framePassed frame.toNat = true then (u.clearReady 3).settle
          else State.settle { u with diag := { u.diag with posted := u.diag.posted ++ [c] } })) ∧
      (∀ (p : Fin 128) (opcode : BitVec 8) (arg : BitVec 24),
        (s.pairFollows = false ∨ p.val ≠ pgMatte ∨ opcode ≠ 0x10 →
          exec (.mirrorCommandRx mgen p opcode arg) s = .next u.settle) ∧
        (s.pairFollows = true → p.val = pgMatte → opcode = 0x10 → (s.hdr pgMatte).run = none →
          (s.mattePending = false → ∃ t : State, exec (.mirrorCommandRx mgen p opcode arg) s = .next t.settle ∧
            t.Runs pgMatte 0x10 arg.toNat 0xC ∧ t.fget pgMatte MATTE.STAT.VERIFY_BUSY = 1 ∧ t.pair.verifying = true) ∧
          (s.mattePending = true → ∃ t : State, exec (.mirrorCommandRx mgen p opcode arg) s = .next (t.clearReady 3).settle ∧
            (t.hdr pgMatte).run = none ∧ (t.hdr pgMatte).cmdState = 3 ∧ (t.hdr pgMatte).cmdReason = 0x20 ∧
            (t.hdr pgMatte).cmdIssuer = 0xC))) ∧
      (∀ (tile : Fin 16) (lo hi : BitVec 8) (join : Bool), exec (.mirrorSplitRx mgen tile lo hi join) s =
        .next (if s.pairShadow = false then u.settle
          else if join = true then (u.setDud tile { u.dud tile with joinDue := true }).settle
          else if u.pairReady = true then (u.claimStart tile lo.toNat hi.toNat false).settle else u.settle)) ∧
      (∀ cause : Fin 8, exec (.mirrorYieldRx mgen cause) s =
        .next (if s.pairShadow = false ∨ u.pairReady = false then u.settle
          else if s.inhibited = true then (u.evt pgPair 14).settle
          else if s.pair.take.isSome = true then u.settle
          else State.settle { u with pair := { u.pair with take := some ⟨if cause.val = 2 then 3 else 1, s.mono⟩ } })) ∧
      (∃ t : State, exec (.mirrorTakenRx mgen) s = .next t.settle ∧ (s.pairActive = false → t = u) ∧
        (s.pairActive = true → t.pairState = 5 ∧ t.fget pgPair PAIR.RESYNC_STAT.BUSY = 0 ∧ t.pair.queue = [] ∧
          t.gaf = { u.gaf with queues := [], retries := [] } ∧
          (∀ n, n < 16 → (t.dud n).live = 0 ∧ (t.dud n).owned = 0 ∧ (t.dud n).lost = 0) ∧
          (t.hdr pgPair).evt.getLsbD 8 = true)) ∧
      (∀ ends : Bool,
        (s.pairState = 0 ∨ s.pairState = 4 → exec (.mirrorResyncRx mgen ends) s = .next u.settle) ∧
        (s.pairState ≠ 0 → s.pairState ≠ 4 → ends = true → exec (.mirrorResyncRx mgen ends) s =
          .next (if s.pairState = 2 ∧ u.pair.diverged = false then
            State.settle { u with pair := { u.pair with goodRun := some 0 } } else u.settle)) ∧
        (s.pairState ≠ 0 → s.pairState ≠ 4 → ends = false → ∃ t : State,
          exec (.mirrorResyncRx mgen ends) s = .next t.settle ∧ t.pairState = 2 ∧ t.pairReady = false ∧
          t.pair.diverged = false ∧ t.pair.goodRun = none ∧ t.pair.take = none ∧ t.pair.switchAt = none ∧
          ∀ p ∈ wholePages, (t.hdr p).owner = some 0xC ∧ (t.hdr p).leaseEnd = s.mono + pairLease)) ∧
      (∀ (tile : Fin 16) (sink : Fin 128) (frame : BitVec 16) (words : Vector (BitVec 64) 13),
        exec (.mirrorDiagrespRx mgen tile sink frame words) s =
          .next (if s.pairActive = true then (u.diagTake tile sink frame.toNat (words.toList.map BitVec.toNat)).settle
            else u.settle)))

/-- R483, R486, R490, R492, R494, R496, R502, R507: PAIR's own time and commands. A commit whose OUTCOME does not come is
abandoned; a missing HEARTBEAT is counted; a takeover takes the rings at a new epoch; a TAIL port checks what it passes;
PAIR renews its locks; RESYNC and SWITCHOVER are taken, and a copy that has been sent ends with RESYNC END. -/
def Obligations.PairTakesOverAndResynchronises : Prop :=
  ∀ s : State,
    (∀ (p : Fin 128) c b, s.boot.powered = true → s.mirrorPend p = some c → c.since = some b → ∃ t : State,
      exec (.outcomeWaitExpiry p) s = .next (t.clearReady 3).settle ∧ t.mono = max s.mono (b + 8000) ∧
      t.mirrorPend p = none ∧ (t.hdr p).commitState = 5 ∧ (t.hdr p).commitReason = 7 ∧ (t.hdr p).evt.getLsbD 1 = true) ∧
    (∀ p : Fin 128, s.boot.powered = true → (∀ c, s.mirrorPend p = some c → c.since = none) →
      exec (.outcomeWaitExpiry p) s = .next s.settle) ∧
    (∀ d, s.boot.powered = true → s.pair.hbDue = some d → ∃ t : State, exec .heartbeatMiss s = .next t.settle ∧
      t.mono = max s.mono (d + 20000) ∧ t.pair.hbDue = none ∧ t.pair.missRun = s.pair.missRun + 1 ∧
      t.fget pgPair PAIR.CNT2.HB_MISS = min (s.fget pgPair PAIR.CNT2.HB_MISS + 1) 65535 ∧
      (t.hdr pgPair).evt.getLsbD 10 = true) ∧
    (s.boot.powered = true → s.pair.hbDue = none → exec .heartbeatMiss s = .next s.settle) ∧
    (∀ (slot : Fin 4) k, s.boot.powered = true → s.pair.take = some k → k.found + 2000 ≤ s.mono → ∃ t : State,
      exec (.takeover slot) s = .next t.settle ∧ t.pair.take = none ∧
      (s.pairShadow = false ∨ s.tripped = true → t = { s with pair := { s.pair with take := none } }) ∧
      (s.pairShadow = true → s.tripped = false → t.pairState = 4 ∧ t.pairReady = false ∧
        t.fget pgPair PAIR.LAST_TAKE.CAUSE = k.cause % 4 ∧ t.fget pgPair PAIR.LAST_TAKE.SLOT = slot ∧
        t.fget pgPair PAIR.LAST_TAKE.FRAME = s.frame ∧
        t.fget pgPair PAIR.CNT.TAKEOVERS = min (s.fget pgPair PAIR.CNT.TAKEOVERS + 1) 65535 ∧
        (∀ n ∈ s.pairedRings, s.fget (pgDud n) DUD.CTL.ROLE = 2 → t.fget (pgDud n) DUD.OWN.EPOCH =
          (1 + max ((s.pair.partner.map (·.epoch)).getD 0) s.epochHeld) % 65536) ∧
        (t.hdr pgPair).evt.getLsbD 9 = true)) ∧
    (∀ slot : Fin 4, s.boot.powered = true → (∀ k, s.pair.take = some k → s.mono < k.found + 2000) →
      exec (.takeover slot) s = .next s.settle) ∧
    (∀ (tile : Fin 16) (targets : BitVec 128) (k : Packet), s.boot.powered = true →
      (s.fget (pgDud tile) DUD.CTL.ROLE ≠ 2 → exec (.tailPacketRx tile targets k) s = .next s.settle) ∧
      (s.fget (pgDud tile) DUD.CTL.ROLE = 2 → ∃ t : State, exec (.tailPacketRx tile targets k) s = .next t.settle ∧
        (t.dud tile).lastRx = s.mono ∧
        (s.pairShadow = true → k.crcOk = false →
          t.fget pgPair PAIR.CNT2.VERIFY_ERR = min (s.fget pgPair PAIR.CNT2.VERIFY_ERR + 1) 65535 ∧
          (t.hdr pgPair).evt.getLsbD 13 = true) ∧
        (∀ h, s.pairShadow = true → k.crcOk = true → s.pair.partner = some h →
          (k.owner = s.fget pgPair PAIR.CFG.PARTNER_ID ∧ k.epoch = h.epoch →
            t.fget pgPair PAIR.CNT2.VERIFY_ERR = s.fget pgPair PAIR.CNT2.VERIFY_ERR) ∧
          (¬(k.owner = s.fget pgPair PAIR.CFG.PARTNER_ID ∧ k.epoch = h.epoch) →
            t.fget pgPair PAIR.CNT2.VERIFY_ERR = min (s.fget pgPair PAIR.CNT2.VERIFY_ERR + 1) 65535)) ∧
        State.SameBut [.duds, .pair, .out, .page .pair] s t)) ∧
    (s.boot.powered = true → ∃ t : State, exec .pairLeaseRenew s = .next t ∧
      (∀ p, (t.hdr p).leaseEnd = if s.pairFollows = true ∧ wholePages.contains p = true ∧ s.holds 0xC p = true
        then s.mono + pairLease else (s.hdr p).leaseEnd) ∧
      ∀ p, (t.hdr p).owner = (s.hdr p).owner) ∧
    (∀ m : Master, s.accepts m.id pgPair 0x11 0 = true → ∃ t : State, exec (.resync m) s = .next t.settle ∧
      t.Done pgPair 0x11 m.id ∧ t.Answers (.access m.id 0 0) ∧ t.fget pgPair PAIR.RESYNC_STAT.BUSY = 1 ∧
      t.fget pgPair PAIR.RESYNC_STAT.BLOCKS = 0 ∧ t.pair.endRun = 0 ∧ State.SameBut [.pair, .out, .page .pair] s t) ∧
    (s.boot.powered = true → s.fbit pgPair PAIR.RESYNC_STAT.BUSY = true → s.pairActive = true → ∃ t : State,
      exec .resyncCopyDone s = .next t.settle ∧ t.fget pgPair PAIR.RESYNC_STAT.BUSY = 0 ∧
      t.fget pgPair PAIR.RESYNC_STAT.BLOCKS = min (s.mirrorRanges.foldl (fun n r => n + r.2) 0) (2 ^ 24 - 1) ∧
      t.fget pgPair PAIR.CNT.RESYNCS = min (s.fget pgPair PAIR.CNT.RESYNCS + 1) 65535 ∧
      (t.hdr pgPair).evt.getLsbD 12 = true ∧ State.SameBut [.pair, .out, .page .pair] s t) ∧
    (s.boot.powered = true → s.fbit pgPair PAIR.RESYNC_STAT.BUSY = false ∨ s.pairActive = false →
      exec .resyncCopyDone s = .next s.settle) ∧
    (∀ m : Master, s.accepts m.id pgPair 0x10 0 = true → ∃ t : State, exec (.switchover m) s = .next t.settle ∧
      t.Runs pgPair 0x10 0 m.id ∧ t.Answers (.access m.id 0 0) ∧
      t.pair = { s.pair with switchAt := some s.mono, yielded := false } ∧ State.SameBut [.pair, .out, .page .pair] s t)

/-- R511, R517 to R522, R529, R530: updates. UPDATE_START opens a session and UPDATE_ABORT ends it; an update block is taken
from REEL1 and rejected, ignored or applied; ACTIVATE loads the verified slot into the other bank; HANDOVER moves fetch
there, and returns when the new image does not show itself; CONFIRM writes the boot slots; SVN_ADVANCE and REVOKE_KEY
program OTP. -/
def Obligations.UpdatesGoInOrder : Prop :=
  ∀ (s : State) (m : Master),
    (∀ tg : Fin 4, s.accepts m.id pgFw 0x10 tg = true → ∃ t : State, exec (.updateStart m tg) s = .next t ∧
      t.Done pgFw 0x10 m.id ∧ t.Answers (.access m.id 0 0) ∧
      (tg.val = 1 ∨ tg.val = 2 → t.fw = { s.fw with session := some { target := tg, issuer := m.id } } ∧
        t.fget pgFw FW.UPD_INFO.SESSION = (s.fget pgFw FW.UPD_INFO.SESSION + 1) % 65536 ∧
        t.fget pgFw FW.UPD_EXPECT.OFFSET = 0 ∧ t.fget pgFw FW.STAT.STATE = 1 ∧ t.fget pgFw FW.STAT.TARGET = tg) ∧
      (tg.val = 0 ∨ tg.val = 3 → t.fw = s.fw ∧ ∀ a, t.word a = s.word a) ∧ State.SameBut [.fw, .out, .page .fw] s t) ∧
    (s.accepts m.id pgFw 0x11 0 = true → ∃ t : State, exec (.updateAbort m) s = .next t ∧
      t.Done pgFw 0x11 m.id ∧ t.Answers (.access m.id 0 0) ∧ t.fw.session = none ∧ t.fget pgFw FW.STAT.STATE = 0 ∧
      t.fw.queue = (if s.fw.issued = true then
        s.fw.queue.take 1 ++ (s.fw.queue.drop 1).filter (fun e => e.1 ≠ .update)
        else s.fw.queue.filter (fun e => e.1 ≠ .update)) ∧ State.SameBut [.fw, .out, .page .fw] s t) ∧
    (s.boot.powered = true → (s.reel 1).packets = [] → exec .updateBlock s = .next s) ∧
    (∀ (ws : List Nat) (u : State) (w : Nat → Nat) (bytes data : List Nat), s.boot.powered = true → (s.reel 1).packets ≠ [] →
      s.takePacket 1 = (ws, u) → w = (fun i => ws.getD i 0) → bytes = (ws.drop 4).flatMap (fun v => leBytes v 4) →
      data = bytes.take (w 2 % 4096) →
      (u.fw.session = none → exec .updateBlock s = .next (u.blockReject 1)) ∧
      (∀ x, u.fw.session = some x →
        (x.ended = true ∨ w 0 % 65536 ≠ u.fget pgFw FW.UPD_INFO.SESSION ∨ bitsOf (w 0) 16 2 ≠ x.target →
          exec .updateBlock s = .next (u.blockReject 1)) ∧
        (x.ended = false → w 0 % 65536 = u.fget pgFw FW.UPD_INFO.SESSION → bitsOf (w 0) 16 2 = x.target →
          ∀ bad, bad = (ws.length < 4 ∨ w 0 / 2 ^ 18 ≠ 0 ∨ w 2 / 4096 ≠ 0 ∨ w 2 % 4096 = 0 ∨ 4080 < w 2 % 4096 ∨
            ws.length ≠ 4 + (w 2 % 4096 + 3) / 4 ∨ ∃ b ∈ bytes.drop (w 2 % 4096), b ≠ 0) →
          (bad → exec .updateBlock s = .next (u.blockReject 2)) ∧
          (¬bad → crc32c data ≠ w 3 → exec .updateBlock s = .next (u.blockReject 3)) ∧
          (¬bad → crc32c data = w 3 → u.fget pgFw FW.UPD_EXPECT.OFFSET < w 1 →
            exec .updateBlock s = .next (u.blockReject 4)) ∧
          (¬bad → crc32c data = w 3 → w 1 + w 2 % 4096 ≤ u.fget pgFw FW.UPD_EXPECT.OFFSET →
            exec .updateBlock s = .next (u.finc pgFw FW.UPD_CNT.DUPS)) ∧
          (∀ (y : Session) (v : State) (base : List Nat) (o : DeltaOut), ¬bad → crc32c data = w 3 →
            w 1 ≤ u.fget pgFw FW.UPD_EXPECT.OFFSET → u.fget pgFw FW.UPD_EXPECT.OFFSET < w 1 + w 2 % 4096 →
            y = { x with delta := x.delta ++ data.drop (u.fget pgFw FW.UPD_EXPECT.OFFSET - w 1) } →
            v = (u.fset pgFw FW.UPD_EXPECT.OFFSET (w 1 + w 2 % 4096)).setFw (fun f => { f with session := some y }) →
            base = (match v.runSlot x.target with | some k => v.flash.image x.target k | none => []) →
            o = deltaRun base (slotSize x.target) y.delta →
            (∀ r, o.fail = some r → exec .updateBlock s = .next (v.updateFail r) ∧ (v.updateFail r).fw.session = none ∧
              (v.updateFail r).fget pgFw FW.STAT.STATE = 4 ∧ ((v.updateFail r).hdr pgFw).cmdReason = r) ∧
            (o.fail = none → exec .updateBlock s = .next (v.updateWrite y o)))))) ∧
    (∀ (u : State) r, r < 16 →
      (u.blockReject r).fget pgFw FW.UPD_CNT.REJECTS = min (u.fget pgFw FW.UPD_CNT.REJECTS + 1) 65535 ∧
      (u.blockReject r).fget pgFw FW.UPD_INFO.LAST_REJECT = r ∧ ((u.blockReject r).hdr pgFw).evt.getLsbD 8 = true ∧
      (u.blockReject r).fw = u.fw) ∧
    (s.accepts m.id pgFw 0x12 0 = true → ∃ t : State, exec (.fwActivate m) s = .next t ∧ t.Runs pgFw 0x12 0 m.id ∧
      t.Answers (.access m.id 0 0) ∧ (∀ a, t.word a = s.word a) ∧ State.SameBut [.out, .page .fw] s t) ∧
    (∀ tg img arg i, s.boot.powered = true → (s.hdr pgFw).run = some ⟨0x12, arg, i⟩ → tg = s.fget pgFw FW.STAT.TARGET →
      img = s.flash.image tg (s.inactiveSlot tg) → ∃ t : State, exec .activateDone s = .next t ∧
      (imageFail s.otp tg img = none → t.Done pgFw 0x12 i ∧ t.fget pgFw FW.STAT.STATE = 3 ∧
        t.bankImage tg (1 - s.bankNow tg) = img) ∧
      (∀ r, imageFail s.otp tg img = some r → t.Failed pgFw 0x12 i 0x30 ∧ t.fget pgFw FW.UPD_INFO.LAST_FAIL = r ∧
        t.boot = s.boot) ∧ State.SameBut [.boot, .out, .page .fw] s t) ∧
    (s.boot.powered = true → s.running pgFw 0x12 = false → exec .activateDone s = .next s) ∧
    (∀ (tg : Fin 4) (version : BitVec 16), (s.stateVersion tg version.toNat).accepts m.id pgFw 0x13 tg = true → ∃ t : State,
      exec (.fwHandover m tg version) s = .next t ∧ t.Done pgFw 0x13 m.id ∧ t.Answers (.access m.id 0 0) ∧
      SMap.read 0 t.boot.stateVer tg = version.toNat ∧ t.bankNow tg = 1 - s.bankNow tg ∧
      t.runSlot tg = some (s.inactiveSlot tg) ∧ t.fget pgFw (trialFld tg) = 1 ∧ t.fget pgFw FW.STAT.STATE = 0 ∧
      t.fget pgFw FW.STAT.REVERTED = 0 ∧ (t.hdr pgFw).evt.getLsbD 11 = true ∧
      t.fget pgFw (if tg.val = 1 then FW.VER_MGT.VERSION else FW.VER_SAF.VERSION) =
        imgField (s.bankImage tg (1 - s.bankNow tg)) 12 4 % 2 ^ 32 ∧
      t.fw.handover = some (↑tg, if tg.val = 1 then s.mono + 100000000 else s.safe.handover.getD s.mono) ∧
      State.SameBut [.fw, .boot, .out, .page .fw] s t) ∧
    (∀ count : BitVec 8, s.writes m.id pgFw FW.ALIVE.COUNT.off count.toNat = true → ∃ t : State,
      exec (.fwAliveWrite m count) s = .next t ∧ t.Answers (.access m.id 0 0) ∧
      t.fget pgFw FW.ALIVE.COUNT = count.toNat ∧
      (∀ due, m.id = 9 → s.fw.handover = some (1, due) → t.fw = { s.fw with handover := none }) ∧
      (m.id ≠ 9 ∨ (∀ due, s.fw.handover ≠ some (1, due)) → t.fw = s.fw) ∧ State.SameBut [.fw, .out, .page .fw] s t) ∧
    (∀ tg due, s.boot.powered = true → s.fw.handover = some (tg, due) → ∃ t : State, exec .handoverRevert s = .next t ∧
      t.mono = max s.mono due ∧ t.bankNow tg = 1 - s.bankNow tg ∧ t.runSlot tg = some (s.inactiveSlot tg) ∧
      t.fget pgFw (trialFld tg) = 0 ∧ t.fget pgFw FW.STAT.REVERTED = 1 ∧ (t.hdr pgFw).evt.getLsbD 12 = true ∧
      t.fw.handover = none ∧ State.SameBut [.mono, .time, .fw, .boot, .out, .page .fw] s t) ∧
    (s.boot.powered = true → s.fw.handover = none → exec .handoverRevert s = .next s) ∧
    (∀ c d d', s.accepts m.id pgFw 0x14 0 = true → s.flash.dirNow.getD (1, ⟨0, 0, false, 0, false⟩) = (c, d) →
      d'.mgtSlot = (if s.fbit pgFw FW.STAT.MGT_TRIAL = true then s.boot.mgtSlot.getD d.mgtSlot else d.mgtSlot) →
      d'.safSlot = (if s.fbit pgFw FW.STAT.SAF_TRIAL = true then s.boot.safSlot.getD d.safSlot else d.safSlot) →
      d'.mgtTrial = (d.mgtTrial && !s.fbit pgFw FW.STAT.MGT_TRIAL) →
      d'.safTrial = (d.safTrial && !s.fbit pgFw FW.STAT.SAF_TRIAL) → d'.seq = (d.seq + 1) % 2 ^ 32 →
      ∃ t : State, exec (.fwConfirm m) s = .next t ∧ t.Runs pgFw 0x14 0 m.id ∧ t.Answers (.access m.id 0 0) ∧
        t.fw.queue = s.fw.queue ++ [(.confirm, .erase ((1 - c) * 0x10000)), (.confirm, .dir (1 - c) d')] ∧
        State.SameBut [.fw, .out, .page .fw] s t) ∧
    (∀ tg : Fin 4, s.accepts m.id pgFw 0x15 tg = true → ∃ (t : State) (v : Nat), exec (.svnAdvance m tg) s = .next t ∧
      t.Done pgFw 0x15 m.id ∧ t.Answers (.access m.id 0 0) ∧ v = imgField (s.bankImage tg (s.bankNow tg)) 16 4 % 65536 ∧
      t.otp.svnMgt = (if tg.val = 1 then max s.otp.svnMgt v else s.otp.svnMgt) ∧
      t.otp.svnSaf = (if tg.val = 2 then max s.otp.svnSaf v else s.otp.svnSaf) ∧
      t.otp = { s.otp with svnMgt := t.otp.svnMgt, svnSaf := t.otp.svnSaf } ∧
      (tg.val = 1 → t.fget pgFw FW.OTP_SVN.MGT = t.otp.svnMgt % 65536) ∧
      (tg.val = 2 → t.fget pgFw FW.OTP_SVN.SAF = t.otp.svnSaf % 65536) ∧
      State.SameBut [.otp, .out, .page .sys, .page .fw, .page .cad] s t) ∧
    (∀ k : Fin 4, s.accepts m.id pgFw 0x16 k = true → ∃ t : State, exec (.revokeKey m k) s = .next t ∧
      t.Done pgFw 0x16 m.id ∧ t.Answers (.access m.id 0 0) ∧ t.otp = { s.otp with revoked := s.otp.revoked ||| 1 <<< k.val } ∧
      t.fget pgFw FW.OTP_KEYS.REVOKED = (s.otp.revoked ||| 1 <<< k.val) % 16 ∧
      State.SameBut [.otp, .out, .page .sys, .page .fw, .page .cad] s t)

/-- R512, R515, R523 to R528, R530, R532: the flash and the work behind it. An operation is issued once the hold-up energy
suffices, ends well or not, or waits too long; checkpoints of the wear and of the status map queue what they write, by their
period or by CKPT_NOW; DLY forms its records by period and by MARK, and READ shows one. -/
def Obligations.FlashAndDailiesWork : Prop :=
  ∀ s : State,
    (s.boot.powered = true → s.fw.queue = [] ∨ s.fw.issued = true → exec .flashOpIssue s = .next s) ∧
    (∀ j op r u, s.boot.powered = true → s.fw.queue = (j, op) :: r → s.fw.issued = false → u = s.showHoldup →
      ((s.holdupNeed op * holdupDen : Nat) ≤ s.holdupNum → ∃ t : State, exec .flashOpIssue s = .next t ∧
        t.fw = { s.fw with issued := true, waitSince := none } ∧ t.fget pgFw FW.STAT.HOLD_WAIT = 0 ∧
        State.SameBut [.free, .fw, .out, .page .fw] s t) ∧
      (s.holdupNum < (s.holdupNeed op * holdupDen : Nat) → s.fw.waitSince = none → ∃ t : State,
        exec .flashOpIssue s = .next t ∧ t.fw = { s.fw with waitSince := some s.mono } ∧
        t.fget pgFw FW.STAT.HOLD_WAIT = 1 ∧
        t.fget pgFw FW.HOLD_CNT.WAITS = min (s.fget pgFw FW.HOLD_CNT.WAITS + 1) 65535 ∧
        (t.hdr pgFw).evt.getLsbD 13 = true ∧ State.SameBut [.free, .fw, .out, .page .fw] s t) ∧
      (s.holdupNum < (s.holdupNeed op * holdupDen : Nat) → s.fw.waitSince.isSome = true → exec .flashOpIssue s = .next u)) ∧
    (∀ ok, s.boot.powered = true → s.fw.issued = false ∨ s.fw.queue = [] → exec (.flashOpDone ok) s = .next s) ∧
    (∀ j op r u, s.boot.powered = true → s.fw.issued = true → s.fw.queue = (j, op) :: r →
      u = { s with fw := { s.fw with queue := r, issued := false }, flash := s.flash.apply op } →
      (j ≠ .daily → (r.any (fun e => e.1 = j)) = true → exec (.flashOpDone true) s = .next u) ∧
      (j ≠ .daily → (r.any (fun e => e.1 = j)) = false → exec (.flashOpDone true) s = .next (u.jobDone j)) ∧
      (∀ a d, j = .daily → op = .program a d → ∃ t : State, exec (.flashOpDone true) s = .next t ∧
        t.fget pgDly DLY.RING.HEAD = (s.fget pgDly DLY.RING.HEAD + 1) % 65536 ∧
        t.fget pgDly DLY.RING.WRAPS = (if s.fget pgDly DLY.RING.HEAD = 0xFFFF then
          min (s.fget pgDly DLY.RING.WRAPS + 1) 65535 else s.fget pgDly DLY.RING.WRAPS) ∧
        t.fget pgDly DLY.CNT.WRITTEN = min (s.fget pgDly DLY.CNT.WRITTEN + 1) 65535 ∧
        (t.hdr pgDly).evt.getLsbD 8 = true ∧ State.SameBut [.out, .page .dly] u t) ∧
      (j = .daily → (∀ a d, op ≠ .program a d) → exec (.flashOpDone true) s = .next u) ∧
      (∃ v : State, exec (.flashOpDone false) s = .next (((v.evt pgFw 14).reportDrop pgFw).jobFail j 0x31) ∧
        v.fw = u.fw ∧
        (∀ a, op = .erase a → v.fget pgFw FW.FLASH_ERR.ERASE = min (s.fget pgFw FW.FLASH_ERR.ERASE + 1) 65535 ∧
          v.fget pgFw FW.FLASH_ERR.PROG = s.fget pgFw FW.FLASH_ERR.PROG) ∧
        ((∀ a, op ≠ .erase a) → v.fget pgFw FW.FLASH_ERR.PROG = min (s.fget pgFw FW.FLASH_ERR.PROG + 1) 65535 ∧
          v.fget pgFw FW.FLASH_ERR.ERASE = s.fget pgFw FW.FLASH_ERR.ERASE) ∧
        State.SameBut [.fw, .page .fw] s v)) ∧
    (∀ (u : State) arg i, (u.hdr pgFw).run = some ⟨0x14, arg, i⟩ → (u.jobDone .confirm).Done pgFw 0x14 i ∧
      (u.jobDone .confirm).fget pgFw FW.STAT.MGT_TRIAL = 0 ∧ (u.jobDone .confirm).fget pgFw FW.STAT.SAF_TRIAL = 0) ∧
    (∀ j t0 op r, s.boot.powered = true → s.fw.waitSince = some t0 → s.fw.queue = (j, op) :: r → ∃ v : State,
      exec .holdTimeout s = .next (v.jobFail j 0x32) ∧ v.mono = max s.mono (t0 + s.fget pgFw FW.HOLD_TIMEOUT.S * 1000000000) ∧
      v.fw = { s.fw with queue := r, waitSince := none } ∧ v.fget pgFw FW.STAT.HOLD_WAIT = 0 ∧
      v.fget pgFw FW.HOLD_CNT.TIMEOUTS = min (s.fget pgFw FW.HOLD_CNT.TIMEOUTS + 1) 65535 ∧
      State.SameBut [.mono, .time, .fw, .out, .page .fw] s v) ∧
    (s.boot.powered = true → s.fw.waitSince = none ∨ s.fw.queue = [] → exec .holdTimeout s = .next s) ∧
    (∀ m : Master, s.accepts m.id pgFw 0x17 0 = true → ∃ (t : State) (l c : Nat) (a b : List FlashOp),
      exec (.ckptNow m) s = .next t ∧ t.Runs pgFw 0x17 0 m.id ∧ t.Answers (.access m.id 0 0) ∧ t.fw.ckptJobs = 2 ∧
      a ≠ [] ∧ b ≠ [] ∧ t.fw.queue = s.fw.queue ++ a.map (fun o => (.wear (s.fget pgFw FW.CKPT_STAT.NEXT_SLICE) l, o)) ++
        b.map (fun o => (.diag c, o)) ∧ t.fw.lastWear = s.mono ∧ t.fw.lastDiag = s.mono) ∧
    (∀ due, s.boot.powered = true → due = s.fw.lastWear + s.fget pgFw FW.BG_CFG.WEAR_MIN * 60000000000 → ∀ go,
      go = (s.fbit pgFw FW.BG_CFG.WEAR_EN && s.domOn 2 && s.memOnline &&
        !s.jobQueued (fun j => match j with | .wear _ _ => true | _ => false)) →
      (go = true → ∃ (t : State) (l : Nat) (a : List FlashOp), exec .wearCheckpoint s = .next t ∧ a ≠ [] ∧
        t.fw.queue = s.fw.queue ++ a.map (fun o => (.wear (s.fget pgFw FW.CKPT_STAT.NEXT_SLICE) l, o)) ∧
        t.mono = max s.mono due ∧ t.fw.lastWear = max s.mono due) ∧
      (go = false → exec .wearCheckpoint s = .next (s.advanceTo due))) ∧
    (∀ due, s.boot.powered = true → due = s.fw.lastDiag + s.fget pgFw FW.BG_CFG.DIAG_MIN * 60000000000 → ∀ go,
      go = (s.fbit pgFw FW.BG_CFG.DIAG_EN && s.domOn 2 && s.memOnline &&
        !s.jobQueued (fun j => match j with | .diag _ => true | _ => false)) →
      (go = true → ∃ (t : State) (c : Nat) (a : List FlashOp), exec .diagCheckpoint s = .next t ∧ a ≠ [] ∧
        t.fw.queue = s.fw.queue ++ a.map (fun o => (.diag c, o)) ∧ t.mono = max s.mono due ∧
        t.fw.lastDiag = max s.mono due ∧ State.SameBut [.mono, .time, .fw] s t) ∧
      (go = false → exec .diagCheckpoint s = .next (s.advanceTo due))) ∧
    (∀ due, s.boot.powered = true → due = s.fw.lastDaily + s.fget pgDly DLY.CTL.PERIOD_S * 1000000000 →
      ((s.fbit pgDly DLY.CTL.EN && s.domOn 2) = true → ∃ (t : State) (bytes : List Nat) (slot : Nat),
        exec .dailiesPeriod s = .next t ∧ t.mono = max s.mono due ∧ t.fw.lastDaily = max s.mono due ∧
        t.fget pgDly DLY.SEQ.SEQ = (s.fget pgDly DLY.SEQ.SEQ + 1) % 2 ^ 32 ∧
        t.fw.queue.getLast? = some (.daily, .program (0x3800000 + 128 * slot) bytes) ∧ bytes.length = 128 ∧
        crc32c (bytes.take 124) = ofLeBytes (bytes.drop 124) ∧ slot < 65536) ∧
      ((s.fbit pgDly DLY.CTL.EN && s.domOn 2) = false → exec .dailiesPeriod s = .next s)) ∧
    (∀ (m : Master) (d : List Nat) (ok : Bool), s.accepts m.id pgDly 0x10 0 = true →
      s.flash.daily (s.fget pgDly DLY.READ_IDX.SLOT) = (d, ok) → ∃ t : State, exec (.dlyRead m) s = .next t ∧
      t.Answers (.access m.id 0 0) ∧ (d.all (· = 0xFF) = true → t.Failed pgDly 0x10 m.id 0x30) ∧
      (d.all (· = 0xFF) = false → ok = false → t.Failed pgDly 0x10 m.id 0x31) ∧
      (d.all (· = 0xFF) = false → ok = true → t.Done pgDly 0x10 m.id ∧
        ∀ i, i < 32 → t.fget pgDly (DLY.READ_DATA.WORD i) = ofLeBytes ((d.drop (4 * i)).take 4) % 2 ^ 32) ∧
      State.SameBut [.out, .page .dly] s t) ∧
    (∀ (m : Master) (note : BitVec 16), s.accepts m.id pgDly 0x11 note.toNat = true →
      ∃ (t : State) (bytes : List Nat) (slot : Nat), exec (.dlyMark m note) s = .next t ∧ t.Done pgDly 0x11 m.id ∧
        t.Answers (.access m.id 0 0) ∧ t.fget pgDly DLY.SEQ.SEQ = (s.fget pgDly DLY.SEQ.SEQ + 1) % 2 ^ 32 ∧
        t.fw.queue.getLast? = some (.daily, .program (0x3800000 + 128 * slot) bytes) ∧ bytes.length = 128 ∧
        (bytes.drop 16).take 2 = leBytes note.toNat 2)

/-- R366, R533 to R539, R543 to R547, R554: resets and starts. A power-on reset clears the device, nRESET and DEVICE_RESET do so
but for a few counts; MGT_RESTART and a halt restart MGT alone; each step of the loader has its effect; the bench port
accesses registers, stores an image and starts it; loss of supply opens every switch. -/
def Obligations.ResetsAndStarts : Prop :=
  ∀ s : State,
    (∀ straps : BitVec 3, ∃ t : State, exec (.powerOnReset straps) s = .next t ∧ State.Cleared s t ∧ t.out = s.out ∧
      State.SamePage pgPwr State.reset t ∧ t.fget pgSys SYS.RESET_STAT.CAUSE = 0 ∧
      t.fget pgSys SYS.RESET_STAT.DEVICE_RESETS = 0 ∧ t.fget pgSys SYS.BOOT_STAT.STRAPS = straps.toNat ∧
      t.fbit pgSys SYS.BOOT_STAT.STRAP_BAD = decide (4 ≤ straps.toNat)) ∧
    (∀ straps : BitVec 3, s.boot.powered = true → ∃ t : State, exec (.nreset straps) s = .next t ∧
      State.ResetBy 1 straps.toNat s t ∧ t.out = s.out) ∧
    (∀ m : Master, s.accepts m.id pgSys 0x10 0 = true → ∃ t : State, exec (.deviceReset m) s = .next t ∧
      State.ResetBy (if m.id = 8 then 3 else 2) (s.fget pgSys SYS.BOOT_STAT.STRAPS) s t ∧ t.Answers (.access m.id 0 0)) ∧
    (∃ t : State, exec .powerDown s = .next t ∧ t.boot.powered = false ∧ t.boot.loader = none ∧ t.pending = s.pending ∧
      t.flash = s.flash ∧ t.otp = s.otp ∧ t.out = s.out ∧ t.dram = State.reset.dram ∧ t.waiting = [] ∧
      ∀ g, (t.group g).swA = false ∧ (t.group g).swB = false) ∧
    (∀ m : Master, s.accepts m.id pgSys 0x11 0 = true → ∃ t : State, exec (.mgtRestart m) s = .next t ∧
      t.Answers (.access m.id 0 0) ∧ t.Done pgSys 0x11 m.id ∧ (∀ p ∈ allPages, (t.hdr p).owner ≠ some 9) ∧
      t.fget pgSys SYS.RESET_STAT.MGT_CAUSE = (if m.id = 8 then 2 else 1) ∧
      t.fget pgSys SYS.RESET_STAT.MGT_RESTARTS = min (s.fget pgSys SYS.RESET_STAT.MGT_RESTARTS + 1) 255 ∧
      t.fget pgSys SYS.BOOT_STAT.MGT_OK = 0 ∧ t.boot.loader = some (2, s.mono) ∧ t.boot.mgtOnly = true) ∧
    (∀ addr : BitVec 32, s.boot.powered = true → s.boot.mgtRunning = false → exec (.mgtHalt addr) s = .next s) ∧
    (∀ (addr : BitVec 32) (u : State), s.boot.powered = true → s.boot.mgtRunning = true →
      u = s.report { src := 0x80, cls := 4, typ := 3, space := 3, addr := addr.toNat, master := 9 } →
      (u.fbit pgFw FW.STAT.MGT_TRIAL = true → exec (.mgtHalt addr) s = .next (u.revert 1)) ∧
      (u.fbit pgFw FW.STAT.MGT_TRIAL = false → ∃ v : State, v.boot = { u.boot with mgtRunning := false } ∧
        v.fget pgSys SYS.BOOT_STAT.MGT_OK = 0 ∧ State.SameBut [.boot, .page .sys, .page .fw] u v ∧
        exec (.mgtHalt addr) s = .next (if u.fbit pgSys SYS.RESET_CTL.MGT_AUTO = true then v.mgtRestart 3 else v))) ∧
    (s.boot.powered = true →
      (s.boot.loader = none → exec .loaderStepDone s = .next s) ∧
      (∀ at_, s.boot.loader = some (1, at_) → ∃ t : State, exec .loaderStepDone s = .next t ∧ t.mono = max s.mono 50000 ∧
        t.boot.loader = some (2, 50000) ∧ t.fget pgScal SCAL.PENDING.UNITS = 2 ^ 21 - 1 ∧
        State.SameBut [.mono, .time, .boot, .page .scal] s t) ∧
      (∀ at_, s.boot.loader = some (2, at_) → ∃ t : State, exec .loaderStepDone s = .next t ∧
        t.mono = max s.mono (at_ + 5000000) ∧ (∀ c k, s.flash.keysNow = some (c, k) → t.transport.key = k.key) ∧
        t.fbit pgSys SYS.BOOT_STAT.FIRST_BOOT =
          (s.flash.dirNow.isNone || !((s.flash.keysNow.map (fun k => k.2.ident.isSome)).getD false)) ∧
        (s.strapMode = 2 → t.boot.loader = none ∧ t.rom = 2) ∧
        (s.strapMode ≠ 2 → s.flash.dirNow = none → t.boot.loader = none ∧ t.rom = 3) ∧
        (∀ c d, s.strapMode ≠ 2 → s.flash.dirNow = some (c, d) → t.boot.loader = some (3, t.mono) ∧
          t.fget pgFw FW.STAT.MGT_BOOT = d.mgtSlot % 2 ∧ t.fget pgFw FW.STAT.SAF_BOOT = d.safSlot % 2)) ∧
      (∀ at_ u n, s.boot.loader = some (3, at_) → s.boot.mgtOnly = false → s.loadOne 1 = (u, n) → ∃ t : State,
        exec .loaderStepDone s = .next t ∧ t.mono = max s.mono (at_ + n * 60000000) ∧ t.boot.loader = some (4, t.mono) ∧
        State.SameBut [.mono, .time, .boot] u t) ∧
      (∀ at_ u n, s.boot.loader = some (3, at_) → s.boot.mgtOnly = true → s.loadOne 1 = (u, n) → ∃ t : State,
        exec .loaderStepDone s = .next t ∧ t.boot.loader = none ∧ t.boot.mgtOnly = false ∧
        (s.strapMode = 3 → t.rom = 4) ∧
        (s.strapMode ≠ 3 → u.loaded 1 = true → t.boot.mgtRunning = true ∧ t.fget pgSys SYS.BOOT_STAT.MGT_OK = 1 ∧
          (t.hdr pgSys).evt.getLsbD 8 = true)) ∧
      (∀ at_ u n, s.boot.loader = some (4, at_) → s.loadOne 2 = (u, n) → ∃ t : State,
        exec .loaderStepDone s = .next t ∧ t.mono = max s.mono (at_ + n * 30000000) ∧ t.boot.loader = some (5, t.mono) ∧
        State.SameBut [.mono, .time, .boot] u t) ∧
      (∀ at_, s.boot.loader = some (5, at_) → ∃ t : State, exec .loaderStepDone s = .next t ∧ t.boot.loader = none ∧
        (s.strapMode = 3 → t.rom = 4 ∧ t.boot.mgtRunning = s.boot.mgtRunning ∧ t.boot.safRunning = s.boot.safRunning) ∧
        (s.strapMode ≠ 3 → t.rom = 1 ∧ (s.loaded 1 = true → t.boot.mgtRunning = true) ∧
          (s.loaded 2 = true → t.boot.safRunning = true)))) ∧
    (∀ tg, tg = 1 ∨ tg = 2 → (s.flash.dirNow = none → s.loadOne tg = (s, 0)) ∧
      (∀ c d slot, s.flash.dirNow = some (c, d) →
        slot = (if s.strapMode = 1 then 1 - (if tg = 1 then d.mgtSlot else d.safSlot)
          else if tg = 1 then d.mgtSlot else d.safSlot) → ∀ (u : State) n, s.loadOne tg = (u, n) →
        (imageFail s.otp tg (s.flash.image tg slot) = none → n = 1 ∧ u.bankNow tg = 0 ∧
          u.bankImage tg 0 = s.flash.image tg slot ∧ u.runSlot tg = some slot ∧ u.fget pgFw (trialFld tg) = 0) ∧
        (∀ r, imageFail s.otp tg (s.flash.image tg slot) = some r → n = 2 ∧ u.fget pgSys (failFld tg) = r ∧
          (imageFail s.otp tg (s.flash.image tg (1 - slot)) = none → u.bankImage tg 0 = s.flash.image tg (1 - slot) ∧
            u.fget pgSys (fallbackFld tg) = 1 ∧ u.runSlot tg = some (1 - slot)) ∧
          (imageFail s.otp tg (s.flash.image tg (1 - slot)) ≠ none → u.boot = s.boot)))) ∧
    (∀ (addr data : BitVec 32), s.boot.powered = true →
      (s.benchServes = false → ∀ w, exec (.benchAccess w addr data) s = .next s) ∧
      (s.benchServes = true →
        (∃ t : State, exec (.benchAccess true addr data) s = .next t ∧ exec (.registerWrite .bench addr data) s = .next t) ∧
        ∃ t : State, exec (.benchAccess false addr data) s = .next t ∧ exec (.rcRead .bench addr) s = .next t)) ∧
    (∀ (data : BitVec 32) tg, s.benchServes = true →
      s.writes 8 pgSys SYS.BENCH_DATA.WORD.off data.toNat = true → tg = s.fget pgSys SYS.BENCH_CTL.TARGET → ∃ t : State,
        exec (.benchDataWrite data) s = .next t ∧ t.Answers (.access 8 0 0) ∧
        (s.rom ≠ 4 → tg = 1 ∨ tg = 2 → (s.benchWords tg).length < 64 + bankSize tg / 4 →
          t.benchWords tg = s.benchWords tg ++ [data.toNat] ∧
          t.fget pgSys SYS.BENCH_CTL.WORDS = (s.benchWords tg).length + 1) ∧
        (s.rom = 4 ∨ ¬(tg = 1 ∨ tg = 2) ∨ 64 + bankSize tg / 4 ≤ (s.benchWords tg).length → t.boot = s.boot) ∧
        State.SameBut [.boot, .out, .page .sys] s t) ∧
    (∀ tg : Fin 4, s.benchServes = true → s.writes 8 pgSys SYS.BENCH_CTL.START.off (tg + 4) = true → ∃ t : State,
      exec (.benchStart tg) s = .next t ∧ t.Answers (.access 8 0 0) ∧ t.fget pgSys SYS.BENCH_CTL.TARGET = tg ∧
      (s.rom = 4 → t.rom = 1 ∧ (s.loaded 1 = true → t.boot.mgtRunning = true) ∧
        (s.loaded 2 = true → t.boot.safRunning = true)) ∧
      (∀ img, s.rom ≠ 4 → tg.val = 1 ∨ tg.val = 2 → img = (s.benchWords tg).flatMap (fun w => leBytes w 4) →
        t.benchWords tg = [] ∧
        (∀ r, imageFail s.otp tg img = some r → t.fget pgSys (failFld tg) = r ∧
          t.boot.mgtRunning = s.boot.mgtRunning ∧ t.boot.safRunning = s.boot.safRunning) ∧
        (imageFail s.otp tg img = none → t.bankImage tg 0 = img ∧ t.runSlot tg = none ∧
          (if tg.val = 1 then t.boot.mgtRunning else t.boot.safRunning) = true)))
end

