-- ==== Sys2Proof/Laws/SMap.lean ====
section
/-! SUPPORT. Sparse stores: reading what was written, and the canonical form that every change keeps. -/

namespace Sys2Proof.Machine

variable {V : Type} [DecidableEq V] {d : Nat → V} {m : SMap V} {k k' : Nat} {v x : V}

/-! ### Reading after a change -/

omit [DecidableEq V] in
theorem SMap.find?_put_self (m : SMap V) (k : Nat) (v : V) : SMap.find? (SMap.put m k v) k = some v := by
  induction m with
  | nil => simp [put, find?]
  | cons e r ih =>
    obtain ⟨a, b⟩ := e
    by_cases h1 : k < a
    · simp [put, h1, find?]
    · by_cases h2 : a = k
      · simp [put, h2, find?]
      · simp [put, h1, h2, find?, ih]

omit [DecidableEq V] in
theorem SMap.find?_put_other (m : SMap V) (h : k' ≠ k) (v : V) :
    SMap.find? (SMap.put m k v) k' = SMap.find? m k' := by
  induction m with
  | nil => simp [put, find?, Ne.symm h]
  | cons e r ih =>
    obtain ⟨a, b⟩ := e
    by_cases h1 : k < a
    · simp [put, h1, find?, Ne.symm h]
    · by_cases h2 : a = k
      · subst h2
        simp [put, find?, Ne.symm h]
      · simp only [put, if_neg h1, if_neg h2, find?, ih]

omit [DecidableEq V] in
theorem SMap.find?_del_self (m : SMap V) (k : Nat) : SMap.find? (SMap.del m k) k = none := by
  induction m with
  | nil => rfl
  | cons e r ih =>
    obtain ⟨a, b⟩ := e
    by_cases h : a = k
    · simpa [del, h] using ih
    · simpa [del, h, find?] using ih

omit [DecidableEq V] in
theorem SMap.find?_del_other (m : SMap V) (h : k' ≠ k) : SMap.find? (SMap.del m k) k' = SMap.find? m k' := by
  induction m with
  | nil => rfl
  | cons e r ih =>
    obtain ⟨a, b⟩ := e
    unfold del at ih ⊢
    by_cases h2 : a = k
    · subst h2
      rw [List.filter_cons_of_neg (by simp), ih]
      simp [find?, Ne.symm h]
    · rw [List.filter_cons_of_pos (by simpa using h2)]
      simp only [find?, ih]

/-- A key that has been written reads as what was written. -/
@[simp] theorem SMap.read_write_self (x : V) (m : SMap V) (k : Nat) (v : V) :
    SMap.read x (SMap.write x m k v) k = v := by
  unfold read write
  split
  · next h => rw [find?_del_self, h]; rfl
  · rw [find?_put_self]; rfl

/-- Writing a key leaves every other key alone. -/
theorem SMap.read_write_other (x y : V) (m : SMap V) (h : k' ≠ k) (v : V) :
    SMap.read y (SMap.write x m k v) k' = SMap.read y m k' := by
  unfold read write
  split
  · rw [find?_del_other m h]
  · rw [find?_put_other m h]

/-! ### The canonical form -/

omit [DecidableEq V] in
theorem SMap.mem_put {e : Nat × V} (h : e ∈ SMap.put m k v) : e = (k, v) ∨ e ∈ m := by
  induction m with
  | nil => simpa [put] using h
  | cons a r ih =>
    obtain ⟨p, q⟩ := a
    by_cases h1 : k < p
    · simpa [put, h1] using h
    · by_cases h2 : p = k
      · simp only [put, if_neg h1, if_pos h2, List.mem_cons] at h
        rcases h with h | h
        · exact .inl h
        · exact .inr (List.mem_cons_of_mem _ h)
      · simp only [put, if_neg h1, if_neg h2, List.mem_cons] at h
        rcases h with h | h
        · exact .inr (by simp [h])
        · rcases ih h with h | h
          · exact .inl h
          · exact .inr (List.mem_cons_of_mem _ h)

/-- The canonical form, entry by entry. -/
theorem SMap.wf_cons {e : Nat × V} :
    SMap.wf d (e :: m) = true ↔ e.2 ≠ d e.1 ∧ (∀ a ∈ m, e.1 < a.1) ∧ SMap.wf d m = true := by
  obtain ⟨a, b⟩ := e
  simp [wf, and_assoc]

theorem SMap.put_wf (h : SMap.wf d m = true) (hv : v ≠ d k) : SMap.wf d (SMap.put m k v) = true := by
  induction m with
  | nil => simp [put, wf, hv]
  | cons a r ih =>
    obtain ⟨p, q⟩ := a
    have h' := wf_cons.mp h
    by_cases h1 : k < p
    · rw [put, if_pos h1]
      refine wf_cons.mpr ⟨hv, fun a ha => ?_, h⟩
      rcases List.mem_cons.mp ha with rfl | ha
      · exact h1
      · exact Nat.lt_trans h1 (h'.2.1 a ha)
    · by_cases h2 : p = k
      · rw [put, if_neg h1, if_pos h2]
        exact wf_cons.mpr ⟨hv, fun a ha => by have := h'.2.1 a ha; simp only at this ⊢; omega, h'.2.2⟩
      · rw [put, if_neg h1, if_neg h2]
        refine wf_cons.mpr ⟨h'.1, fun a ha => ?_, ih h'.2.2⟩
        rcases mem_put ha with rfl | ha
        · simp only; omega
        · exact h'.2.1 a ha

theorem SMap.filter_wf (h : SMap.wf d m = true) (p : Nat × V → Bool) : SMap.wf d (m.filter p) = true := by
  induction m with
  | nil => rfl
  | cons a r ih =>
    have h' := wf_cons.mp h
    by_cases hp : p a
    · rw [List.filter_cons_of_pos hp]
      exact wf_cons.mpr ⟨h'.1, fun e he => h'.2.1 e (List.mem_filter.mp he).1, ih h'.2.2⟩
    · rw [List.filter_cons_of_neg hp]
      exact ih h'.2.2

theorem SMap.del_wf (h : SMap.wf d m = true) (k : Nat) : SMap.wf d (SMap.del m k) = true := filter_wf h _

theorem SMap.clear_wf (h : SMap.wf d m = true) (lo hi : Nat) : SMap.wf d (SMap.clear m lo hi) = true := filter_wf h _

/-- A write keeps the canonical form. -/
theorem SMap.write_wf (h : SMap.wf d m = true) (k : Nat) (v : V) : SMap.wf d (SMap.write (d k) m k v) = true := by
  unfold write
  split
  · exact del_wf h k
  · next hv => exact put_wf h hv

/-- A canonical store lists nothing that reads as the default of its key. -/
theorem SMap.wf_mem (h : SMap.wf d m = true) {e : Nat × V} (he : e ∈ m) : e.2 ≠ d e.1 := by
  induction m with
  | nil => cases he
  | cons a r ih =>
    have h' := wf_cons.mp h
    rcases List.mem_cons.mp he with rfl | he
    · exact h'.1
    · exact ih h'.2.2 he

end Sys2Proof.Machine
end

