-- ==== Sys2Proof/Laws/Frame.lean ====
section
/-! SUPPORT. What a command leaves alone: a set of parts as a mask, and one lemma for each way of changing a state. The files
of Laws/Frame/ apply them, one lemma for each function. -/

namespace Sys2Proof.Machine

variable {o s t : State} {m n k : Nat}

/-! ### Masks -/

/-- A set within a set within a third. -/
theorem mask_trans (h : m ||| n = n) (h' : n ||| k = k) : m ||| k = k := by
  rw [← h', ← Nat.or_assoc, h]

theorem mask_testBit (h : m ||| n = n) (i : Nat) (hi : n.testBit i = false) : m.testBit i = false := by
  have := Nat.testBit_or m n i
  rw [h, hi] at this
  simpa using this.symm

/-- The mask of the page that a number names. -/
def pageMask (p : Nat) : Nat :=
  match pageOf p with
  | some (ty, _) => 1 <<< (40 + ty.num)
  | none => 0

/-- The mask of all pages. -/
def pagesMask : Nat := (2 ^ 26 - 1) <<< 40

/-- The mask of all parts. -/
def fullMask : Nat := 2 ^ 66 - 1

theorem pageMask_any (p : Nat) (h : pagesMask ||| m = m) : pageMask p ||| m = m := by
  refine mask_trans ?_ h
  unfold pageMask
  split
  · next ty i e => cases ty <;> rfl
  · exact Nat.zero_or _

theorem pageOf_lyr (i : Nat) : pageOf (pgLyr i) = some (.lyr, i % 8) := by
  have : i % 8 < 8 := Nat.mod_lt _ (by decide)
  unfold pgLyr
  generalize i % 8 = j at *
  interval_cases j <;> rfl

theorem pageMask_lyr (i : Nat) (h : 1 <<< (40 + PageType.num .lyr) ||| m = m) : pageMask (pgLyr i) ||| m = m := by
  unfold pageMask
  rw [pageOf_lyr]
  exact h

theorem pageOf_pe (i : Nat) : pageOf (pgPe i) = some (.pe, i % 4) := by
  have : i % 4 < 4 := Nat.mod_lt _ (by decide)
  unfold pgPe
  generalize i % 4 = j at *
  interval_cases j <;> rfl

theorem pageMask_pe (i : Nat) (h : 1 <<< (40 + PageType.num .pe) ||| m = m) : pageMask (pgPe i) ||| m = m := by
  unfold pageMask
  rw [pageOf_pe]
  exact h

theorem pageOf_chk (i : Nat) : pageOf (pgChk i) = some (.chk, i % 8) := by
  have : i % 8 < 8 := Nat.mod_lt _ (by decide)
  unfold pgChk
  generalize i % 8 = j at *
  interval_cases j <;> rfl

theorem pageMask_chk (i : Nat) (h : 1 <<< (40 + PageType.num .chk) ||| m = m) : pageMask (pgChk i) ||| m = m := by
  unfold pageMask
  rw [pageOf_chk]
  exact h

theorem pageOf_reel (i : Nat) : pageOf (pgReel i) = some (.reel, i % 16) := by
  have : i % 16 < 16 := Nat.mod_lt _ (by decide)
  unfold pgReel
  generalize i % 16 = j at *
  interval_cases j <;> rfl

theorem pageMask_reel (i : Nat) (h : 1 <<< (40 + PageType.num .reel) ||| m = m) : pageMask (pgReel i) ||| m = m := by
  unfold pageMask
  rw [pageOf_reel]
  exact h

theorem pageOf_link (i : Nat) : pageOf (pgLink i) = some (.link, i % 6) := by
  have : i % 6 < 6 := Nat.mod_lt _ (by decide)
  unfold pgLink
  generalize i % 6 = j at *
  interval_cases j <;> rfl

theorem pageMask_link (i : Nat) (h : 1 <<< (40 + PageType.num .link) ||| m = m) : pageMask (pgLink i) ||| m = m := by
  unfold pageMask
  rw [pageOf_link]
  exact h

theorem pageOf_lane (i : Nat) : pageOf (pgLane i) = some (.lane, i % 24) := by
  have : i % 24 < 24 := Nat.mod_lt _ (by decide)
  unfold pgLane
  generalize i % 24 = j at *
  interval_cases j <;> rfl

theorem pageMask_lane (i : Nat) (h : 1 <<< (40 + PageType.num .lane) ||| m = m) : pageMask (pgLane i) ||| m = m := by
  unfold pageMask
  rw [pageOf_lane]
  exact h

theorem pageOf_dud (i : Nat) : pageOf (pgDud i) = some (.dud, i % 16) := by
  have : i % 16 < 16 := Nat.mod_lt _ (by decide)
  unfold pgDud
  generalize i % 16 = j at *
  interval_cases j <;> rfl

theorem pageMask_dud (i : Nat) (h : 1 <<< (40 + PageType.num .dud) ||| m = m) : pageMask (pgDud i) ||| m = m := by
  unfold pageMask
  rw [pageOf_dud]
  exact h

theorem pageMask_sys (h : 1 <<< (40 + PageType.num .sys) ||| m = m) : pageMask pgSys ||| m = m := h

theorem pageMask_time (h : 1 <<< (40 + PageType.num .time) ||| m = m) : pageMask pgTime ||| m = m := h

theorem pageMask_flt (h : 1 <<< (40 + PageType.num .flt) ||| m = m) : pageMask pgFlt ||| m = m := h

theorem pageMask_pwr (h : 1 <<< (40 + PageType.num .pwr) ||| m = m) : pageMask pgPwr ||| m = m := h

theorem pageMask_thm (h : 1 <<< (40 + PageType.num .thm) ||| m = m) : pageMask pgThm ||| m = m := h

theorem pageMask_scal (h : 1 <<< (40 + PageType.num .scal) ||| m = m) : pageMask pgScal ||| m = m := h

theorem pageMask_saf (h : 1 <<< (40 + PageType.num .saf) ||| m = m) : pageMask pgSaf ||| m = m := h

theorem pageMask_grd (h : 1 <<< (40 + PageType.num .grd) ||| m = m) : pageMask pgGrd ||| m = m := h

theorem pageMask_fw (h : 1 <<< (40 + PageType.num .fw) ||| m = m) : pageMask pgFw ||| m = m := h

theorem pageMask_pair (h : 1 <<< (40 + PageType.num .pair) ||| m = m) : pageMask pgPair ||| m = m := h

theorem pageMask_arb (h : 1 <<< (40 + PageType.num .arb) ||| m = m) : pageMask pgArb ||| m = m := h

theorem pageMask_mem (h : 1 <<< (40 + PageType.num .mem) ||| m = m) : pageMask pgMem ||| m = m := h

theorem pageMask_cmp (h : 1 <<< (40 + PageType.num .cmp) ||| m = m) : pageMask pgCmp ||| m = m := h

theorem pageMask_ovl (h : 1 <<< (40 + PageType.num .ovl) ||| m = m) : pageMask pgOvl ||| m = m := h

theorem pageMask_matte (h : 1 <<< (40 + PageType.num .matte) ||| m = m) : pageMask pgMatte ||| m = m := h

theorem pageMask_cad (h : 1 <<< (40 + PageType.num .cad) ||| m = m) : pageMask pgCad ||| m = m := h

theorem pageMask_gaf (h : 1 <<< (40 + PageType.num .gaf) ||| m = m) : pageMask pgGaf ||| m = m := h

theorem pageMask_diag (h : 1 <<< (40 + PageType.num .diag) ||| m = m) : pageMask pgDiag ||| m = m := h

theorem pageMask_dly (h : 1 <<< (40 + PageType.num .dly) ||| m = m) : pageMask pgDly ||| m = m := h

@[simp] theorem addrOf_page (p off : Nat) : addrOf p off / 0x1000 = p := by
  unfold addrOf
  omega

theorem pageMask_addr {p off : Nat} (h : pageMask p ||| m = m) : pageMask (addrOf p off / 0x1000) ||| m = m := by
  rw [addrOf_page]
  exact h

theorem addrOf_of_page (a : Nat) : addrOf (a / 0x1000) (a % 0x1000) = a := by
  unfold addrOf
  omega

/-! ### Agreement -/

theorem State.SamePage.refl (p : Nat) (s : State) : State.SamePage p s s := ⟨rfl, fun _ => ⟨rfl, rfl, rfl, rfl⟩⟩

theorem State.SamePage.trans {p : Nat} {a b c : State} (h : State.SamePage p a b) (h' : State.SamePage p b c) :
    State.SamePage p a c :=
  ⟨h'.1.trans h.1, fun off => ⟨(h'.2 off).1.trans (h.2 off).1, (h'.2 off).2.1.trans (h.2 off).2.1,
    (h'.2 off).2.2.1.trans (h.2 off).2.2.1, (h'.2 off).2.2.2.trans (h.2 off).2.2.2⟩⟩

theorem State.samePage_of_pages (p : Nat) (h : t.pages = s.pages) : State.SamePage p s t := by
  unfold State.SamePage State.hdr State.word State.shadow State.captured State.snapWord
  rw [h]
  exact ⟨rfl, fun _ => ⟨rfl, rfl, rfl, rfl⟩⟩

theorem Part.Same.refl (p : Part) (s : State) : p.Same s s := by
  cases p <;> first | rfl | exact fun p _ => State.SamePage.refl p s

theorem Part.Same.trans {a b c : State} {p : Part} (h : p.Same a b) (h' : p.Same b c) : p.Same a c := by
  cases p with
  | page ty => exact fun p hp => (h p hp).trans (h' p hp)
  | _ => exact Eq.trans h' h

theorem State.SameOutside.refl (m : Nat) (s : State) : State.SameOutside m s s := fun p _ => Part.Same.refl p s

theorem State.SameOutside.trans {a b c : State} (h : State.SameOutside m a b) (h' : State.SameOutside m b c) :
    State.SameOutside m a c := fun p hp => (h p hp).trans (h' p hp)

theorem State.SameOutside.mono (h : State.SameOutside m s t) (hm : m ||| n = n) : State.SameOutside n s t :=
  fun p hp => h p (mask_testBit hm _ hp)

/-- A further change that leaves alone what lies outside a smaller set. -/
theorem State.SameOutside.step (h : State.SameOutside m o s) (hm : n ||| m = m) (h' : State.SameOutside n s t) :
    State.SameOutside m o t := h.trans (h'.mono hm)

/-- The fields of one state where a mask has their bit, those of another elsewhere. -/
def State.blend (m : Nat) (t s : State) : State :=
  ⟨cond (m.testBit 0) t.pending s.pending, cond (m.testBit 1) t.mono s.mono, cond (m.testBit 2) t.free s.free,
   s.pages, cond (m.testBit 3) t.lanes s.lanes, cond (m.testBit 4) t.trains s.trains, cond (m.testBit 5) t.links
   s.links, cond (m.testBit 6) t.transport s.transport, cond (m.testBit 7) t.time s.time, cond (m.testBit 8) t.cmp
   s.cmp, cond (m.testBit 9) t.cad s.cad, cond (m.testBit 10) t.matte s.matte, cond (m.testBit 11) t.duds s.duds,
   cond (m.testBit 12) t.gaf s.gaf, cond (m.testBit 13) t.diag s.diag, cond (m.testBit 14) t.dram s.dram, cond
   (m.testBit 15) t.mem s.mem, cond (m.testBit 16) t.arb s.arb, cond (m.testBit 17) t.flt s.flt, cond (m.testBit
   18) t.chks s.chks, cond (m.testBit 19) t.reels s.reels, cond (m.testBit 20) t.sram s.sram, cond (m.testBit 21)
   t.safe s.safe, cond (m.testBit 22) t.pwr s.pwr, cond (m.testBit 23) t.thm s.thm, cond (m.testBit 24) t.scal
   s.scal, cond (m.testBit 25) t.pair s.pair, cond (m.testBit 26) t.fw s.fw, cond (m.testBit 27) t.flash s.flash,
   cond (m.testBit 28) t.otp s.otp, cond (m.testBit 29) t.boot s.boot, cond (m.testBit 30) t.waiting s.waiting,
   cond (m.testBit 31) t.out s.out⟩

theorem State.blend_same (m : Nat) (t s : State) : State.SameOutside m s (State.blend m t s) := by
  intro p hp
  cases p with
  | page ty => exact fun p _ => State.samePage_of_pages p rfl
  | commitGroup => rfl
  | _ => simp only [Part.num] at hp; simp only [Part.Same, State.blend, hp, cond_false]

/-- A change of whole fields, said by its result. -/
theorem State.SameOutside.upd (n : Nat) (h : State.SameOutside m o s) (hm : n ||| m = m) (e : t = State.blend n t s) :
    State.SameOutside m o t := h.step hm (e ▸ State.blend_same n t s)

theorem State.SameOutside.any (h : fullMask ||| m = m) : State.SameOutside m s t := by
  intro p hp
  have := mask_testBit h _ hp
  cases p with
  | page ty => cases ty <;> exact absurd this (by decide)
  | _ => exact absurd this (by decide)

theorem State.SameOutside.ite {a b : State} {c : Prop} [Decidable c] (ha : State.SameOutside m o a)
    (hb : State.SameOutside m o b) : State.SameOutside m o (if c then a else b) := by
  split <;> assumption

/-! The same for results in which a state stands beside other values. -/

theorem State.SameOutside.ite1 {α : Type} {a b : State × α} {c : Prop} [Decidable c] (ha : State.SameOutside m o a.1)
    (hb : State.SameOutside m o b.1) : State.SameOutside m o (if c then a else b).1 := by
  split <;> assumption

theorem State.SameOutside.ite2 {α : Type} {a b : α × State} {c : Prop} [Decidable c] (ha : State.SameOutside m o a.2)
    (hb : State.SameOutside m o b.2) : State.SameOutside m o (if c then a else b).2 := by
  split <;> assumption

theorem State.SameOutside.ite22 {α β : Type} {a b : α × β × State} {c : Prop} [Decidable c]
    (ha : State.SameOutside m o a.2.2) (hb : State.SameOutside m o b.2.2) :
    State.SameOutside m o (if c then a else b).2.2 := by
  split <;> assumption

theorem State.SameOutside.of_eq1 {α : Type} {p q : State × α} (e : p = q) (h : State.SameOutside m o p.1) :
    State.SameOutside m o q.1 := e ▸ h

theorem State.SameOutside.of_eq2 {α : Type} {p q : α × State} (e : p = q) (h : State.SameOutside m o p.2) :
    State.SameOutside m o q.2 := e ▸ h

theorem State.SameOutside.of_eq22 {α β : Type} {p q : α × β × State} (e : p = q) (h : State.SameOutside m o p.2.2) :
    State.SameOutside m o q.2.2 := e ▸ h

theorem State.SameOutside.pr1 {α : Type} {a : α} (h : State.SameOutside m o s) : State.SameOutside m o (s, a).1 := h

theorem State.SameOutside.pr2 {α : Type} {a : α} (h : State.SameOutside m o s) : State.SameOutside m o (a, s).2 := h

theorem State.SameOutside.pr22 {α β : Type} {a : α} {b : β} (h : State.SameOutside m o s) :
    State.SameOutside m o (a, b, s).2.2 := h

theorem State.SameOutside.foldl {α : Type} {l : List α} {f : State → α → State} (h : State.SameOutside m o s)
    (k : ∀ a s, State.SameOutside m o s → State.SameOutside m o (f s a)) : State.SameOutside m o (l.foldl f s) := by
  induction l generalizing s with
  | nil => exact h
  | cons a l ih => exact ih (k a s h)

/-- A loop whose steps may use that their element is one of the list. -/
theorem State.SameOutside.foldlMem {α : Type} {l : List α} {f : State → α → State} (h : State.SameOutside m o s)
    (k : ∀ a ∈ l, ∀ s, State.SameOutside m o s → State.SameOutside m o (f s a)) : State.SameOutside m o (l.foldl f s) := by
  induction l generalizing s with
  | nil => exact h
  | cons a l ih =>
    exact ih (k a (List.mem_cons_self ..) s h) fun b hb => k b (List.mem_cons_of_mem _ hb)

/-- A loop that carries a state beside other values. -/
theorem State.SameOutside.foldlP {α β : Type} (p : β → Prop) {l : List α} {f : β → α → β} {b : β} (h : p b)
    (k : ∀ a b, p b → p (f b a)) : p (l.foldl f b) := by
  induction l generalizing b with
  | nil => exact h
  | cons a l ih => exact ih (k a b h)

/-! ### The register file -/

/-- A change of the register file that keeps the pending group and every page but one. -/
theorem State.SameOutside.of_page {g : Pages} {q : Nat} (h : State.SameOutside m o s) (hm : pageMask q ||| m = m)
    (hg : g.group = s.pages.group)
    (hp : ∀ p, p ≠ q → State.SamePage p s { s with pages := g }) : State.SameOutside m o { s with pages := g } := by
  refine h.step hm fun p hb => ?_
  cases p with
  | page ty =>
    intro p e
    refine hp p fun e' => ?_
    subst e'
    unfold pageMask at hb
    cases hq : pageOf p with
    | none => rw [hq] at e; cases e
    | some x =>
      rw [hq] at e hb
      cases e
      simp [Part.num, Nat.testBit_shiftLeft] at hb
  | commitGroup => exact hg
  | _ => rfl

/-- A change of the pending group commit. -/
theorem State.SameOutside.upd_group {g : Option GroupPend} (h : State.SameOutside m o s) (hm : 1 <<< 32 ||| m = m) :
    State.SameOutside m o { s with pages := { s.pages with group := g } } := by
  refine h.step hm fun p hp => ?_
  cases p with
  | page ty => exact fun p _ => ⟨rfl, fun _ => ⟨rfl, rfl, rfl, rfl⟩⟩
  | commitGroup => exact absurd hp (by decide)
  | _ => rfl

/-! A change of whole fields: one lemma for each set of fields that some function changes at once. -/

theorem State.SameOutside.set_arb (h : State.SameOutside m o s) (k : 65536 ||| m = m) :
    State.SameOutside m o { s with arb := x_arb } :=
  State.SameOutside.upd 65536 h k rfl

theorem State.SameOutside.set_boot (h : State.SameOutside m o s) (k : 536870912 ||| m = m) :
    State.SameOutside m o { s with boot := x_boot } :=
  State.SameOutside.upd 536870912 h k rfl

theorem State.SameOutside.set_cad (h : State.SameOutside m o s) (k : 512 ||| m = m) :
    State.SameOutside m o { s with cad := x_cad } :=
  State.SameOutside.upd 512 h k rfl

theorem State.SameOutside.set_chks (h : State.SameOutside m o s) (k : 262144 ||| m = m) :
    State.SameOutside m o { s with chks := x_chks } :=
  State.SameOutside.upd 262144 h k rfl

theorem State.SameOutside.set_cmp (h : State.SameOutside m o s) (k : 256 ||| m = m) :
    State.SameOutside m o { s with cmp := x_cmp } :=
  State.SameOutside.upd 256 h k rfl

theorem State.SameOutside.set_diag (h : State.SameOutside m o s) (k : 8192 ||| m = m) :
    State.SameOutside m o { s with diag := x_diag } :=
  State.SameOutside.upd 8192 h k rfl

theorem State.SameOutside.set_dram (h : State.SameOutside m o s) (k : 16384 ||| m = m) :
    State.SameOutside m o { s with dram := x_dram } :=
  State.SameOutside.upd 16384 h k rfl

theorem State.SameOutside.set_duds (h : State.SameOutside m o s) (k : 2048 ||| m = m) :
    State.SameOutside m o { s with duds := x_duds } :=
  State.SameOutside.upd 2048 h k rfl

theorem State.SameOutside.set_flash (h : State.SameOutside m o s) (k : 134217728 ||| m = m) :
    State.SameOutside m o { s with flash := x_flash } :=
  State.SameOutside.upd 134217728 h k rfl

theorem State.SameOutside.set_flt (h : State.SameOutside m o s) (k : 131072 ||| m = m) :
    State.SameOutside m o { s with flt := x_flt } :=
  State.SameOutside.upd 131072 h k rfl

theorem State.SameOutside.set_free (h : State.SameOutside m o s) (k : 4 ||| m = m) :
    State.SameOutside m o { s with free := x_free } :=
  State.SameOutside.upd 4 h k rfl

theorem State.SameOutside.set_fw (h : State.SameOutside m o s) (k : 67108864 ||| m = m) :
    State.SameOutside m o { s with fw := x_fw } :=
  State.SameOutside.upd 67108864 h k rfl

theorem State.SameOutside.set_gaf (h : State.SameOutside m o s) (k : 4096 ||| m = m) :
    State.SameOutside m o { s with gaf := x_gaf } :=
  State.SameOutside.upd 4096 h k rfl

theorem State.SameOutside.set_gaf_chks_reels_sram_pair_fw_boot_waiting (h : State.SameOutside m o s) (k : 1713115136 ||| m = m) :
    State.SameOutside m o { s with gaf := x_gaf, chks := x_chks, reels := x_reels, sram := x_sram, pair := x_pair, fw := x_fw, boot := x_boot, waiting := x_waiting } :=
  State.SameOutside.upd 1713115136 h k rfl

theorem State.SameOutside.set_gaf_pair (h : State.SameOutside m o s) (k : 33558528 ||| m = m) :
    State.SameOutside m o { s with gaf := x_gaf, pair := x_pair } :=
  State.SameOutside.upd 33558528 h k rfl

theorem State.SameOutside.set_lanes (h : State.SameOutside m o s) (k : 8 ||| m = m) :
    State.SameOutside m o { s with lanes := x_lanes } :=
  State.SameOutside.upd 8 h k rfl

theorem State.SameOutside.set_links (h : State.SameOutside m o s) (k : 32 ||| m = m) :
    State.SameOutside m o { s with links := x_links } :=
  State.SameOutside.upd 32 h k rfl

theorem State.SameOutside.set_matte (h : State.SameOutside m o s) (k : 1024 ||| m = m) :
    State.SameOutside m o { s with matte := x_matte } :=
  State.SameOutside.upd 1024 h k rfl

theorem State.SameOutside.set_mem (h : State.SameOutside m o s) (k : 32768 ||| m = m) :
    State.SameOutside m o { s with mem := x_mem } :=
  State.SameOutside.upd 32768 h k rfl

theorem State.SameOutside.set_mem_arb (h : State.SameOutside m o s) (k : 98304 ||| m = m) :
    State.SameOutside m o { s with mem := x_mem, arb := x_arb } :=
  State.SameOutside.upd 98304 h k rfl

theorem State.SameOutside.set_mono_time (h : State.SameOutside m o s) (k : 130 ||| m = m) :
    State.SameOutside m o { s with mono := x_mono, time := x_time } :=
  State.SameOutside.upd 130 h k rfl

theorem State.SameOutside.set_otp (h : State.SameOutside m o s) (k : 268435456 ||| m = m) :
    State.SameOutside m o { s with otp := x_otp } :=
  State.SameOutside.upd 268435456 h k rfl

theorem State.SameOutside.set_out (h : State.SameOutside m o s) (k : 2147483648 ||| m = m) :
    State.SameOutside m o { s with out := x_out } :=
  State.SameOutside.upd 2147483648 h k rfl

theorem State.SameOutside.set_pair (h : State.SameOutside m o s) (k : 33554432 ||| m = m) :
    State.SameOutside m o { s with pair := x_pair } :=
  State.SameOutside.upd 33554432 h k rfl

theorem State.SameOutside.set_pending (h : State.SameOutside m o s) (k : 1 ||| m = m) :
    State.SameOutside m o { s with pending := x_pending } :=
  State.SameOutside.upd 1 h k rfl

theorem State.SameOutside.set_pwr (h : State.SameOutside m o s) (k : 4194304 ||| m = m) :
    State.SameOutside m o { s with pwr := x_pwr } :=
  State.SameOutside.upd 4194304 h k rfl

theorem State.SameOutside.set_reels (h : State.SameOutside m o s) (k : 524288 ||| m = m) :
    State.SameOutside m o { s with reels := x_reels } :=
  State.SameOutside.upd 524288 h k rfl

theorem State.SameOutside.set_safe (h : State.SameOutside m o s) (k : 2097152 ||| m = m) :
    State.SameOutside m o { s with safe := x_safe } :=
  State.SameOutside.upd 2097152 h k rfl

theorem State.SameOutside.set_safe_boot_waiting (h : State.SameOutside m o s) (k : 1612709888 ||| m = m) :
    State.SameOutside m o { s with safe := x_safe, boot := x_boot, waiting := x_waiting } :=
  State.SameOutside.upd 1612709888 h k rfl

theorem State.SameOutside.set_scal (h : State.SameOutside m o s) (k : 16777216 ||| m = m) :
    State.SameOutside m o { s with scal := x_scal } :=
  State.SameOutside.upd 16777216 h k rfl

theorem State.SameOutside.set_sram (h : State.SameOutside m o s) (k : 1048576 ||| m = m) :
    State.SameOutside m o { s with sram := x_sram } :=
  State.SameOutside.upd 1048576 h k rfl

theorem State.SameOutside.set_thm (h : State.SameOutside m o s) (k : 8388608 ||| m = m) :
    State.SameOutside m o { s with thm := x_thm } :=
  State.SameOutside.upd 8388608 h k rfl

theorem State.SameOutside.set_time (h : State.SameOutside m o s) (k : 128 ||| m = m) :
    State.SameOutside m o { s with time := x_time } :=
  State.SameOutside.upd 128 h k rfl

theorem State.SameOutside.set_time_safe (h : State.SameOutside m o s) (k : 2097280 ||| m = m) :
    State.SameOutside m o { s with time := x_time, safe := x_safe } :=
  State.SameOutside.upd 2097280 h k rfl

theorem State.SameOutside.set_trains (h : State.SameOutside m o s) (k : 16 ||| m = m) :
    State.SameOutside m o { s with trains := x_trains } :=
  State.SameOutside.upd 16 h k rfl

theorem State.SameOutside.set_trains_links (h : State.SameOutside m o s) (k : 48 ||| m = m) :
    State.SameOutside m o { s with trains := x_trains, links := x_links } :=
  State.SameOutside.upd 48 h k rfl

theorem State.SameOutside.set_transport (h : State.SameOutside m o s) (k : 64 ||| m = m) :
    State.SameOutside m o { s with transport := x_transport } :=
  State.SameOutside.upd 64 h k rfl

theorem State.SameOutside.set_transport_cad_matte_diag_mem_arb (h : State.SameOutside m o s) (k : 108096 ||| m = m) :
    State.SameOutside m o { s with transport := x_transport, cad := x_cad, matte := x_matte, diag := x_diag, mem := x_mem, arb := x_arb } :=
  State.SameOutside.upd 108096 h k rfl

theorem State.SameOutside.set_waiting (h : State.SameOutside m o s) (k : 1073741824 ||| m = m) :
    State.SameOutside m o { s with waiting := x_waiting } :=
  State.SameOutside.upd 1073741824 h k rfl

theorem addrOf_ne {p q off off' : Nat} (h : p ≠ q) : addrOf p off ≠ addrOf q off' := fun e =>
  h (by rw [← addrOf_page p off, ← addrOf_page q off', e])

theorem SMap.find?_filter {V : Type} (m : SMap V) (f : Nat × V → Bool) {k : Nat} (h : ∀ v, f (k, v) = true) :
    SMap.find? (m.filter f) k = SMap.find? m k := by
  induction m with
  | nil => rfl
  | cons e r ih =>
    obtain ⟨a, b⟩ := e
    by_cases ha : a = k
    · subst ha
      rw [List.filter_cons_of_pos (h b)]
      simp [SMap.find?]
    · cases hf : f (a, b) <;> simp [hf, SMap.find?, ha, ih]

/-- Clearing the keys of one page leaves the entries of the others. -/
theorem SMap.read_clear_other {V : Type} (d : V) (m : SMap V) {p q : Nat} (h : p ≠ q) (off : Nat) :
    SMap.read d (SMap.clear m (addrOf q 0) (addrOf (q + 1) 0)) (addrOf p off) = SMap.read d m (addrOf p off) := by
  unfold SMap.read SMap.clear
  rw [SMap.find?_filter]
  intro v
  have : addrOf p off < addrOf q 0 ∨ addrOf (q + 1) 0 ≤ addrOf p off := by
    unfold addrOf
    omega
  simpa using this

theorem SMap.mem_range {V : Type} {m : SMap V} {q : Nat} {e : Nat × V}
    (h : e ∈ SMap.range m (addrOf q 0) (addrOf (q + 1) 0)) : e.1 / 0x1000 = q := by
  unfold SMap.range at h
  have h := (List.mem_filter.mp h).2
  rw [Bool.and_eq_true] at h
  have h1 := of_decide_eq_true h.1
  have h2 := of_decide_eq_true h.2
  unfold addrOf at h1 h2
  omega

end Sys2Proof.Machine
end

