-- ==== Sys2Proof/Laws/Frame/Ops.lean ====
section
/-! SUPPORT. What every command leaves alone: one lemma for each function of Machine/Ops.lean that changes the state. -/

namespace Sys2Proof.Machine

variable {o s : State} {m : Nat}

theorem State.setWord_same (h : State.SameOutside m o s) (_ : 0 ||| m = m) (ka1 : pageMask (b1 / 0x1000) ||| m = m) :
    State.SameOutside m o (State.setWord s b1 b2) :=
  h.of_page ka1 rfl fun _ hp => ⟨rfl, fun _ => ⟨SMap.read_write_other _ _ _ (addrOf_of_page b1 ▸ addrOf_ne hp) _, rfl, rfl, rfl⟩⟩

theorem State.setShadow_same (h : State.SameOutside m o s) (_ : 0 ||| m = m) (ka1 : pageMask (b1 / 0x1000) ||| m = m) :
    State.SameOutside m o (State.setShadow s b1 b2) :=
  h.of_page ka1 rfl fun _ hp => ⟨rfl, fun _ => ⟨rfl, SMap.read_write_other _ _ _ (addrOf_of_page b1 ▸ addrOf_ne hp) _, rfl, rfl⟩⟩

theorem State.setSnapWord_same (h : State.SameOutside m o s) (_ : 0 ||| m = m) (ka1 : pageMask (b1 / 0x1000) ||| m = m) :
    State.SameOutside m o (State.setSnapWord s b1 b2) :=
  h.of_page ka1 rfl fun _ hp => ⟨rfl, fun _ => ⟨rfl, rfl, rfl, SMap.read_write_other _ _ _ (addrOf_of_page b1 ▸ addrOf_ne hp) _⟩⟩

theorem State.fset_same (h : State.SameOutside m o s) (k : 0 ||| m = m) (kp1 : pageMask b1 ||| m = m) :
    State.SameOutside m o (State.fset s b1 b2 b3) := by
  unfold State.fset
  exact (State.setWord_same h (mask_trans rfl k) (pageMask_addr kp1))

theorem State.fsetB_same (h : State.SameOutside m o s) (k : 0 ||| m = m) (kp1 : pageMask b1 ||| m = m) :
    State.SameOutside m o (State.fsetB s b1 b2 b3) := by
  unfold State.fsetB
  exact (State.fset_same h (mask_trans rfl k) kp1)

theorem State.fsetI_same (h : State.SameOutside m o s) (k : 0 ||| m = m) (kp1 : pageMask b1 ||| m = m) :
    State.SameOutside m o (State.fsetI s b1 b2 b3) := by
  unfold State.fsetI
  exact (State.fset_same h (mask_trans rfl k) kp1)

theorem State.fadd_same (h : State.SameOutside m o s) (k : 0 ||| m = m) (kp1 : pageMask b1 ||| m = m) :
    State.SameOutside m o (State.fadd s b1 b2 b3) := by
  unfold State.fadd
  exact (State.fset_same h (mask_trans rfl k) kp1)

theorem State.finc_same (h : State.SameOutside m o s) (k : 0 ||| m = m) (kp1 : pageMask b1 ||| m = m) :
    State.SameOutside m o (State.finc s b1 b2) := by
  unfold State.finc
  exact (State.fadd_same h (mask_trans rfl k) kp1)

theorem State.fwrap_same (h : State.SameOutside m o s) (k : 0 ||| m = m) (kp1 : pageMask b1 ||| m = m) :
    State.SameOutside m o (State.fwrap s b1 b2) := by
  unfold State.fwrap
  exact (State.fset_same h (mask_trans rfl k) kp1)

theorem State.fset64_same (h : State.SameOutside m o s) (k : 0 ||| m = m) (kp1 : pageMask b1 ||| m = m) :
    State.SameOutside m o (State.fset64 s b1 b2 b3 b4) := by
  unfold State.fset64
  exact (State.fset_same (State.fset_same h (mask_trans rfl k) kp1) (mask_trans rfl k) kp1)

theorem State.fadd64_same (h : State.SameOutside m o s) (k : 0 ||| m = m) (kp1 : pageMask b1 ||| m = m) :
    State.SameOutside m o (State.fadd64 s b1 b2 b3 b4) := by
  unfold State.fadd64
  exact (State.fset64_same h (mask_trans rfl k) kp1)

theorem State.setHdr_same (h : State.SameOutside m o s) (_ : 0 ||| m = m) (kp1 : pageMask b1 ||| m = m) :
    State.SameOutside m o (State.setHdr s b1 b2) :=
  h.of_page kp1 rfl fun _ hp => ⟨SMap.read_write_other _ _ _ hp _, fun _ => ⟨rfl, rfl, rfl, rfl⟩⟩

theorem State.advanceTo_same (h : State.SameOutside m o s) (k : 130 ||| m = m) :
    State.SameOutside m o (State.advanceTo s b1) := by
  unfold State.advanceTo
  extract_lets -merge -useContext -underBinder x0
  exact (State.SameOutside.ite (State.SameOutside.set_mono_time h (mask_trans rfl k)) h)

theorem State.emit_same (h : State.SameOutside m o s) (k : 2147483648 ||| m = m) :
    State.SameOutside m o (State.emit s b1) := by
  unfold State.emit
  exact (State.SameOutside.set_out h (mask_trans rfl k))

theorem State.fresh_same (h : State.SameOutside m o s) (k : 4 ||| m = m) :
    State.SameOutside m o (State.fresh s b1).2 := by
  unfold State.fresh
  exact (State.SameOutside.pr2 (State.SameOutside.set_free h (mask_trans rfl k)))

theorem State.roundFree_same (h : State.SameOutside m o s) (k : 4 ||| m = m) :
    State.SameOutside m o (State.roundFree s b1 b2).2 := by
  unfold State.roundFree
  exact (State.SameOutside.ite2 (State.SameOutside.pr2 h) (by
    split
    · rename_i x0 x1 x2 x3
      have h4 : State.SameOutside m o x2 := State.SameOutside.of_eq2 x3 (State.fresh_same h (mask_trans rfl k))
      exact (State.SameOutside.pr2 h4)))

theorem State.fit16_same (h : State.SameOutside m o s) (k : 4 ||| m = m) :
    State.SameOutside m o (State.fit16 s b1 b2 b3).2 := by
  unfold State.fit16
  exact (State.SameOutside.ite2 (State.SameOutside.pr2 h) (by
    split
    · rename_i x0 x1 x2 x3
      have h4 : State.SameOutside m o x2 := State.SameOutside.of_eq2 x3 (State.fresh_same h (mask_trans rfl k))
      exact (State.SameOutside.pr2 h4)))

theorem State.noticeIfRisen_same (h : State.SameOutside m o s) (k : 2147483648 ||| m = m) :
    State.SameOutside m o (State.noticeIfRisen s b1 b2) := by
  unfold State.noticeIfRisen
  exact (State.SameOutside.ite (State.emit_same h (mask_trans rfl k)) h)

theorem State.setEvtRegs_same (h : State.SameOutside m o s) (k : 2147483648 ||| m = m) (kp1 : pageMask b1 ||| m = m) :
    State.SameOutside m o (State.setEvtRegs s b1 b2) := by
  unfold State.setEvtRegs
  exact (State.noticeIfRisen_same (State.setHdr_same h (mask_trans rfl k) kp1) (mask_trans rfl k))

theorem State.evt_same (h : State.SameOutside m o s) (k : 2147483648 ||| m = m) (kp1 : pageMask b1 ||| m = m) :
    State.SameOutside m o (State.evt s b1 b2) := by
  unfold State.evt
  extract_lets -merge -useContext -underBinder x0
  exact (State.SameOutside.ite (State.setHdr_same h (mask_trans rfl k) kp1) (State.setEvtRegs_same h (mask_trans rfl k) kp1))

theorem State.evts_same (h : State.SameOutside m o s) (k : 2147483648 ||| m = m) (kp1 : pageMask b1 ||| m = m) :
    State.SameOutside m o (State.evts s b1 b2) := by
  unfold State.evts
  exact (State.SameOutside.foldl h (fun a2 s0 h1 => (State.evt_same h1 (mask_trans rfl k) kp1)))

theorem State.usage_same (h : State.SameOutside m o s) (k : 2147483648 ||| m = m) (kp1 : pageMask b1 ||| m = m) :
    State.SameOutside m o (State.usage s b1) := by
  unfold State.usage
  extract_lets -merge -useContext -underBinder x0
  exact (State.SameOutside.ite (State.evt_same (State.setHdr_same h (mask_trans rfl k) kp1) (mask_trans rfl k) kp1) h)

theorem State.faultCount_same (h : State.SameOutside m o s) (k : 2147483648 ||| m = m) (kp1 : pageMask b1 ||| m = m) :
    State.SameOutside m o (State.faultCount s b1 b2) := by
  unfold State.faultCount
  extract_lets -merge -useContext -underBinder x0
  exact (State.SameOutside.ite (State.evt_same (State.setHdr_same h (mask_trans rfl k) kp1) (mask_trans rfl k) kp1) h)

theorem mapRegs_same {f : Reg → Nat → State → State} (h : State.SameOutside m o s)
    (k : ∀ r i s, State.SameOutside m o s → State.SameOutside m o (f r i s)) : State.SameOutside m o (mapRegs l f s) :=
  State.SameOutside.foldl h fun r _ h => State.SameOutside.foldl h fun i s h => k r i s h

theorem State.copyCounters_same (h : State.SameOutside m o s) (k : 0 ||| m = m) (kp1 : pageMask b1 ||| m = m) :
    State.SameOutside m o (State.copyCounters s b1) := by
  unfold State.copyCounters
  split
  · exact h
  · exact State.setHdr_same (mapRegs_same h fun r i s h =>
      State.setWord_same (State.setSnapWord_same h k (pageMask_addr kp1)) k (pageMask_addr kp1)) k kp1

theorem State.clearCounters_same (h : State.SameOutside m o s) (k : 0 ||| m = m) (kp1 : pageMask b1 ||| m = m) :
    State.SameOutside m o (State.clearCounters s b1) := by
  unfold State.clearCounters
  split
  · exact h
  · exact State.setHdr_same (mapRegs_same h fun r i s h =>
      State.setSnapWord_same (State.setWord_same h k (pageMask_addr kp1)) k (pageMask_addr kp1)) k kp1

theorem State.reloadShadows_same (h : State.SameOutside m o s) (k : 0 ||| m = m) (kp1 : pageMask b1 ||| m = m) :
    State.SameOutside m o (State.reloadShadows s b1) := by
  unfold State.reloadShadows
  refine State.setHdr_same (State.SameOutside.foldlMem ?_ fun e he s h => State.SameOutside.ite h
    (State.setShadow_same h k (SMap.mem_range he ▸ kp1))) k kp1
  exact h.of_page kp1 rfl fun p hp => ⟨rfl, fun off => ⟨rfl, SMap.read_clear_other _ _ hp off, rfl, rfl⟩⟩

theorem SMap.read_puts_other (d : Word) (l : SMap Word) (x : SMap Word) {p q : Nat} (h : p ≠ q)
    (hl : ∀ e ∈ l, e.1 / 0x1000 = q) (off : Nat) :
    SMap.read d (l.foldl (fun x e => SMap.put x e.1 e.2) x) (addrOf p off) = SMap.read d x (addrOf p off) := by
  induction l generalizing x with
  | nil => rfl
  | cons e r ih =>
    rw [List.foldl_cons, ih _ fun a ha => hl a (List.mem_cons_of_mem _ ha)]
    unfold SMap.read
    rw [SMap.find?_put_other]
    intro e'
    have := hl e (List.mem_cons_self ..)
    rw [← e', addrOf_page] at this
    exact h this

theorem State.capture_same (h : State.SameOutside m o s) (_ : 0 ||| m = m) (kp1 : pageMask b1 ||| m = m) :
    State.SameOutside m o (State.capture s b1) := by
  refine h.of_page kp1 rfl fun p hp => ⟨rfl, fun off => ⟨rfl, rfl, ?_, rfl⟩⟩
  show SMap.read _ ((SMap.range _ _ _).foldl _ _) _ = _
  rw [SMap.read_puts_other _ _ _ hp fun e he => SMap.mem_range he]
  rw [List.append_nil]
  exact SMap.read_clear_other _ _ hp off

theorem State.dropCapture_same (h : State.SameOutside m o s) (_ : 0 ||| m = m) (kp1 : pageMask b1 ||| m = m) :
    State.SameOutside m o (State.dropCapture s b1) :=
  h.of_page kp1 rfl fun _ hp => ⟨rfl, fun off => ⟨rfl, rfl, SMap.read_clear_other _ _ hp off, rfl⟩⟩

theorem State.mergeCapture_same (h : State.SameOutside m o s) (k : 0 ||| m = m) (kp1 : pageMask b1 ||| m = m) :
    State.SameOutside m o (State.mergeCapture s b1) := by
  unfold State.mergeCapture
  refine State.dropCapture_same (State.SameOutside.foldlMem h fun a ha s h => State.SameOutside.ite h
    (State.setWord_same h k ?_)) k kp1
  have : a / 0x1000 = b1 := by
    rcases List.mem_append.mp ha with ha | ha <;>
    · obtain ⟨e, he, rfl⟩ := List.mem_map.mp ha
      exact SMap.mem_range he
  exact this ▸ kp1

theorem State.resetPage_same (h : State.SameOutside m o s) (_ : 0 ||| m = m) (kp1 : pageMask b1 ||| m = m) :
    State.SameOutside m o (State.resetPage s b1) := by
  refine h.of_page kp1 rfl fun _ hp => ⟨?_, fun off => ⟨SMap.read_clear_other _ _ hp off, SMap.read_clear_other _ _ hp off,
    SMap.read_clear_other _ _ hp off, SMap.read_clear_other _ _ hp off⟩⟩
  unfold State.hdr SMap.read
  exact congrArg (Option.getD · _) (SMap.find?_del_other _ hp)

theorem State.breakLock_same (h : State.SameOutside m o s) (k : 2147483648 ||| m = m) (kp1 : pageMask b1 ||| m = m) :
    State.SameOutside m o (State.breakLock s b1) := by
  unfold State.breakLock
  extract_lets -merge -useContext -underBinder x0 x1
  have h2 : State.SameOutside m o x0 := (State.reloadShadows_same h (mask_trans rfl k) kp1)
  exact (State.SameOutside.ite (State.evt_same (State.setHdr_same h2 (mask_trans rfl k) kp1) (mask_trans rfl k) kp1) h)

theorem State.breakLocksOf_same (h : State.SameOutside m o s) (k : 73786975197474062336 ||| m = m) :
    State.SameOutside m o (State.breakLocksOf s b1) := by
  unfold State.breakLocksOf
  exact (State.SameOutside.foldl h (fun a2 s0 h1 => (State.SameOutside.ite (State.breakLock_same h1 (mask_trans rfl k) (pageMask_any _ (mask_trans rfl k))) h1)))

theorem State.cmdEnd_same (h : State.SameOutside m o s) (k : 2147483648 ||| m = m) (kp1 : pageMask b1 ||| m = m) :
    State.SameOutside m o (State.cmdEnd s b1 b2 b3 b4 b5) := by
  unfold State.cmdEnd
  extract_lets -merge -useContext -underBinder x0
  exact (State.evt_same (State.setHdr_same h (mask_trans rfl k) kp1) (mask_trans rfl k) kp1)

theorem State.cmdDone_same (h : State.SameOutside m o s) (k : 2147483648 ||| m = m) (kp1 : pageMask b1 ||| m = m) :
    State.SameOutside m o (State.cmdDone s b1) := by
  unfold State.cmdDone
  split
  · rename_i x0 x1
    exact h
  · rename_i x2 x3 x4
    extract_lets -merge -useContext -underBinder x5
    exact (State.cmdEnd_same (State.setHdr_same h (mask_trans rfl k) kp1) (mask_trans rfl k) kp1)

theorem State.cmdFail_same (h : State.SameOutside m o s) (k : 2147483648 ||| m = m) (kp1 : pageMask b1 ||| m = m) :
    State.SameOutside m o (State.cmdFail s b1 b2) := by
  unfold State.cmdFail
  split
  · rename_i x0 x1
    exact h
  · rename_i x2 x3 x4
    extract_lets -merge -useContext -underBinder x5
    exact (State.cmdEnd_same (State.setHdr_same h (mask_trans rfl k) kp1) (mask_trans rfl k) kp1)

theorem State.cmdStart_same (h : State.SameOutside m o s) (k : 0 ||| m = m) (kp1 : pageMask b1 ||| m = m) :
    State.SameOutside m o (State.cmdStart s b1 b2 b3 b4) := by
  unfold State.cmdStart
  extract_lets -merge -useContext -underBinder x0
  exact (State.setHdr_same h (mask_trans rfl k) kp1)

theorem State.setDud_same (h : State.SameOutside m o s) (k : 2048 ||| m = m) :
    State.SameOutside m o (State.setDud s b1 b2) := by
  unfold State.setDud
  exact (State.SameOutside.set_duds h (mask_trans rfl k))

end Sys2Proof.Machine
end

