-- ==== Sys2Proof/Laws/Access.lean ====
section
/-! SUPPORT. Accesses and commands that go through: what `issue` comes to when nothing waits and no check refuses. -/

namespace Sys2Proof.Machine

variable {s : State} {m p off v opcode arg : Nat}

theorem State.live_on (h : s.boot.powered = true) (f : State → State) : s.live f = f s := if_pos h

theorem State.writes_powered (h : s.writes m p off v = true) : s.boot.powered = true := by
  simp only [State.writes, Bool.and_eq_true] at h
  exact h.1.1.1

theorem State.reads_powered (h : s.reads m p off = true) : s.boot.powered = true := by
  simp only [State.reads, Bool.and_eq_true] at h
  exact h.1.1.1

theorem State.accepts_powered (h : s.accepts m p opcode arg = true) : s.boot.powered = true := by
  simp only [State.accepts, Bool.and_eq_true] at h
  exact State.writes_powered h.1.1.1.1.1

theorem addrOf_rel (p off : Nat) : 0x02000000 + addrOf p off - 0x02000000 = addrOf p off := Nat.add_sub_cancel_left ..

theorem addrOf_off (p off : Nat) : addrOf p off % 0x1000 = off % 0x1000 := by
  unfold addrOf
  omega

/-- An access that the checks let through reaches its register; this one does not flush a reel. -/
theorem State.doAccess_eq {a : Access} {r : Nat × Nat × State} (hc : s.accessCheck a = none) (hf : a.flushes = none)
    (hr : s.accessAt a (a.addr - 0x02000000) = r) : s.doAccess a = State.counted a r := by
  unfold State.doAccess
  simp only [hf, ite_self]
  unfold State.perform
  rw [hc]
  unfold State.accessChecked State.accessReg
  rw [hr]

/-- An access that nothing holds completes; this one does not flush a reel. -/
theorem State.issue_once {data addr : Nat} {w : Bool} {a : Access} (e : a = ⟨m, w, addr, BitVec.ofNat 32 data, false⟩)
    (hw : s.waits m = false) (hh : s.accessHeld a = false) (hf : a.flushes = none) :
    s.issue m w addr data = (s.doAccess a).2.2.deliver a (s.doAccess a).1 (s.doAccess a).2.1 := by
  unfold State.issue
  rw [← e]
  simp only [hw, hh, hf, Bool.or_self, Bool.false_eq_true, if_false, Option.isSome_none]

/-- An access that nothing holds and no check refuses answers with its status. -/
theorem State.issue_eq {data addr : Nat} {w : Bool} {a : Access} {r : Nat × Nat × State}
    (e : a = ⟨m, w, addr, BitVec.ofNat 32 data, false⟩) (hw : s.waits m = false) (hh : s.accessHeld a = false)
    (hc : s.accessCheck a = none) (hf : a.flushes = none) (hr : s.accessAt a (a.addr - 0x02000000) = r) :
    s.issue m w addr data = (r.2.2.countStatus a r.1).emit (.access m r.1 r.2.1) := by
  rw [State.issue_once e hw hh hf, State.doAccess_eq hc hf hr]
  unfold State.deliver
  have hctl : a.ctl = false := by rw [e]
  have hm : a.master = m := by rw [e]
  rw [hctl, hm]
  rfl

/-- The access of a register write. -/
def writeAccess (m p off v : Nat) : Access :=
  { master := m, write := true, addr := 0x02000000 + addrOf p off, data := BitVec.ofNat 32 v }

/-- The access of a register read. -/
def readAccess (m p off : Nat) : Access := { master := m, write := false, addr := 0x02000000 + addrOf p off, data := 0 }

theorem writeAccess_rel : (writeAccess m p off v).addr - 0x02000000 = addrOf p off := addrOf_rel p off

theorem readAccess_rel : (readAccess m p off).addr - 0x02000000 = addrOf p off := addrOf_rel p off

/-- A write that reaches its register answers with its status; it does not flush a reel. -/
theorem State.writeReg_eq {r : Nat × Nat × State} (h : s.writes m p off v = true)
    (hf : (writeAccess m p off v).flushes = none) (hr : s.accessAt (writeAccess m p off v) (addrOf p off) = r) :
    s.writeReg m p off v = (r.2.2.countStatus (writeAccess m p off v) r.1).emit (.access m r.1 r.2.1) := by
  simp only [State.writes, Bool.and_eq_true, Bool.not_eq_true', Option.isNone_iff_eq_none] at h
  obtain ⟨⟨⟨-, hw⟩, hc⟩, hh⟩ := h
  exact State.issue_eq (a := writeAccess m p off v) rfl hw hh hc hf (writeAccess_rel ▸ hr)

/-- The same of a read. -/
theorem State.readReg_eq {r : Nat × Nat × State} (h : s.reads m p off = true)
    (hr : s.accessAt (readAccess m p off) (addrOf p off) = r) :
    s.readReg m p off = (r.2.2.countStatus (readAccess m p off) r.1).emit (.access m r.1 r.2.1) := by
  simp only [State.reads, Bool.and_eq_true, Bool.not_eq_true', Option.isNone_iff_eq_none] at h
  obtain ⟨⟨⟨-, hw⟩, hc⟩, hh⟩ := h
  exact State.issue_eq (data := 0) (a := readAccess m p off) rfl hw hh hc rfl (readAccess_rel ▸ hr)

theorem State.accessCheck_cap {a : Access} (h : s.accessCheck a = none) :
    ∃ c, capOf ((a.addr - 0x02000000) / 0x1000) = some c := by
  unfold State.accessCheck at h
  simp only at h
  split at h
  · cases h
  · split at h
    · cases h
    · next c e =>
      split at e
      · exact ⟨c, e⟩
      · cases e

/-- A command that its page takes starts and runs; the write answers OK. -/
theorem State.command_eq (h : s.accepts m p opcode arg = true) (ho : opcode < 256) (ha : arg < 2 ^ 24)
    (hf : opcode ≠ 0x10 ∨ ∀ q < 16, p ≠ pgReel q) :
    s.command m p opcode arg = ((s.cmdStart p opcode arg m).cmdRun m p opcode arg).emit (.access m 0 0) := by
  simp only [State.accepts, Bool.and_eq_true, Bool.not_eq_true', Option.isNone_iff_eq_none, Bool.or_eq_true] at h
  obtain ⟨⟨⟨⟨⟨hw, hl⟩, hd⟩, hr⟩, hk⟩, hn⟩ := h
  have hv : opcode + 256 * arg < 2 ^ 32 := by omega
  have hb : (BitVec.ofNat 32 (opcode + 256 * arg)).toNat = opcode + 256 * arg := by
    rw [BitVec.toNat_ofNat]; exact Nat.mod_eq_of_lt hv
  have e1 : (opcode + 256 * arg) % 256 = opcode := by omega
  have e2 : (opcode + 256 * arg) / 256 % 2 ^ 24 = arg := by omega
  have hflush : (writeAccess m p 0x020 (opcode + 256 * arg)).flushes = none := by
    unfold Access.flushes writeAccess
    rw [hb, e1]
    rcases hf with hf | hf
    · simp [hf]
    · split
      · refine List.find?_eq_none.mpr fun q hq => ?_
        have hq := List.mem_range.mp hq
        have := hf q hq
        simp only [decide_eq_true_eq]
        intro e
        have e : addrOf p 0x020 = addrOf (pgReel q) 0x020 := Nat.add_left_cancel e
        exact addrOf_ne this e
      · rfl
  have hc := hw
  simp only [State.writes, Bool.and_eq_true, Option.isNone_iff_eq_none] at hc
  obtain ⟨c, hcap⟩ := State.accessCheck_cap hc.1.2
  simp only [addrOf_rel, addrOf_page] at hcap
  have ecmd : s.command m p opcode arg = s.writeReg m p 0x020 (opcode + 256 * arg) := by
    unfold State.command
    rw [Nat.mod_eq_of_lt ha, Nat.mul_comm]
  rw [ecmd]
  have hx : s.accessAt (writeAccess m p 0x020 (opcode + 256 * arg)) (addrOf p 0x020)
      = (0, 0, (s.cmdStart p opcode arg m).cmdRun m p opcode arg) := by
    unfold State.accessAt
    rw [addrOf_off, addrOf_page, hcap]
    simp only [State.headerAccess]
    have hother : ((s.hdr p).owner.isSome && !s.holds m p) = false := by
      rcases hl with hl | hl
      · rw [hl]; rfl
      · rw [hl]; simp
    have : s.writeHeader m p 0x20 (opcode + 256 * arg) = (0, (s.cmdStart p opcode arg m).cmdRun m p opcode arg) := by
      unfold State.writeHeader
      simp only [headerFixed, List.contains_cons]
      simp (config := { decide := true }) only [hother, Bool.false_eq_true, if_false, e1, e2, hd]
      unfold State.cmdWrite
      simp [hr, hk, hn]
    rw [if_pos (by decide), show (0x20 % 0x1000 : Nat) = 0x20 from rfl]
    simp only [writeAccess, hb, if_true, this]
  exact State.writeReg_eq hw hflush hx

theorem writeAccess_flushes (ho : off < 0x1000) (h : off ≠ 0x020) : (writeAccess m p off v).flushes = none := by
  unfold Access.flushes writeAccess
  simp only
  split
  · refine List.find?_eq_none.mpr fun q _ => ?_
    simp only [decide_eq_true_eq]
    intro e
    have e : addrOf p off = addrOf (pgReel q) 0x020 := Nat.add_left_cancel e
    have := congrArg (· % 0x1000) e
    simp only [addrOf_off] at this
    omega
  · rfl

theorem writeAccess_data (hv : v < 2 ^ 32) : (writeAccess m p off v).data.toNat = v := by
  show (BitVec.ofNat 32 v).toNat = v
  rw [BitVec.toNat_ofNat]
  exact Nat.mod_eq_of_lt hv

/-- A write of a header register. -/
theorem State.writeHeader_eq (h : s.writes m p off v = true) (ho : off < 0x040) (hn : off ≠ 0x020) (hv : v < 2 ^ 32) :
    s.writeReg m p off v = ((s.writeHeader m p off v).2.countStatus (writeAccess m p off v) (s.writeHeader m p off v).1).emit
      (.access m (s.writeHeader m p off v).1 0) := by
  have hc := h
  simp only [State.writes, Bool.and_eq_true, Option.isNone_iff_eq_none] at hc
  obtain ⟨c, hcap⟩ := State.accessCheck_cap hc.1.2
  simp only [addrOf_rel, addrOf_page] at hcap
  have hx : s.accessAt (writeAccess m p off v) (addrOf p off) =
      ((s.writeHeader m p off v).1, 0, (s.writeHeader m p off v).2) := by
    unfold State.accessAt
    rw [addrOf_off, addrOf_page, hcap, Nat.mod_eq_of_lt (by omega), if_pos ho]
    unfold State.headerAccess
    simp only [writeAccess_data hv]
    rfl
  exact State.writeReg_eq h (writeAccess_flushes (by omega) hn) hx

/-- A write of a block register. -/
theorem State.writeBlock_eq {r : Reg} {i : Nat} (h : s.writes m p off v = true) (ho : 0x040 ≤ off) (ho' : off < 0x1000)
    (hr : regOf (addrOf p off) = some (r, i)) (hv : v < 2 ^ 32) :
    s.writeReg m p off v = ((s.writeBlockReg m (addrOf p off) v r).2.countStatus (writeAccess m p off v)
      (s.writeBlockReg m (addrOf p off) v r).1).emit (.access m (s.writeBlockReg m (addrOf p off) v r).1 0) := by
  have hx : s.accessAt (writeAccess m p off v) (addrOf p off) =
      ((s.writeBlockReg m (addrOf p off) v r).1, 0, (s.writeBlockReg m (addrOf p off) v r).2) := by
    unfold State.accessAt
    rw [addrOf_off, Nat.mod_eq_of_lt ho', if_neg (by omega), hr]
    unfold State.blockAccess
    simp only [Option.map_some, writeAccess_data hv]
    rfl
  exact State.writeReg_eq h (writeAccess_flushes ho' (by omega)) hx

/-- A write whose value sets no read-only bit answers OK, after the register's own operation. -/
theorem State.writeBlock_ok {r : Reg} {i : Nat} (h : s.writes m p off v = true) (ho : 0x040 ≤ off) (ho' : off < 0x1000)
    (hr : regOf (addrOf p off) = some (r, i)) (hv : v < 2 ^ 32) (hs : r.rws = 0 ∨ s.holds m p = true)
    (hw : r.rw ||| r.rws ||| r.wo ||| r.w1c ≠ 0) (hz : v &&& (r.ro ||| r.rc) = 0) :
    s.writeReg m p off v = ((if hookStores p off then s else s.storeBlock (addrOf p off) v r).blockHook m p off v).emit
      (.access m 0 0) := by
  have hx : s.writeBlockReg m (addrOf p off) v r =
      (0, (if hookStores p off then s else s.storeBlock (addrOf p off) v r).blockHook m p off v) := by
    unfold State.writeBlockReg
    simp only [addrOf_page, addrOf_off, Nat.mod_eq_of_lt ho', hz, if_true]
    rw [if_neg, if_neg hw]
    rcases hs with hs | hs
    · simp [hs]
    · simp [hs]
  rw [State.writeBlock_eq h ho ho' hr hv, hx]
  rfl

/-- A read of a block register. -/
theorem State.readBlock_eq {r : Reg} {i : Nat} (h : s.reads m p off = true) (ho : 0x040 ≤ off) (ho' : off < 0x1000)
    (hr : regOf (addrOf p off) = some (r, i)) :
    s.readReg m p off = (s.readBlock (addrOf p off) r).2.emit (.access m 0 (s.readBlock (addrOf p off) r).1) := by
  have hx : s.accessAt (readAccess m p off) (addrOf p off) =
      (0, (s.readBlock (addrOf p off) r).1, (s.readBlock (addrOf p off) r).2) := by
    unfold State.accessAt
    rw [addrOf_off, Nat.mod_eq_of_lt ho', if_neg (by omega), hr]
    rfl
  rw [State.readReg_eq h hx]
  rfl

end Sys2Proof.Machine
end

