-- ==== Sys2Proof/Laws/Bits.lean ====
section
/-! SUPPORT. Bits of numbers, masks and fields. -/

namespace Sys2Proof.Machine

/-- A bit of a number is its bit in core's sense. -/
theorem bit_eq_testBit (v i : Nat) : bit v i = v.testBit i := by
  unfold bit
  rw [Nat.testBit_eq_decide_div_mod_eq, Nat.shiftRight_eq_div_pow]

@[simp] theorem bit_or (a b i : Nat) : bit (a ||| b) i = (bit a i || bit b i) := by
  simp [bit_eq_testBit]

@[simp] theorem bit_and (a b i : Nat) : bit (a &&& b) i = (bit a i && bit b i) := by
  simp [bit_eq_testBit]

theorem bit_one_shiftLeft (a i : Nat) : bit (1 <<< a) i = decide (a = i) := by
  rw [bit_eq_testBit, Nat.one_shiftLeft, Nat.testBit_two_pow]

/-- A mask has exactly the bits of its list. -/
theorem bit_maskOf (l : List Nat) (i : Nat) : bit (maskOf l) i = decide (i ∈ l) := by
  have key : ∀ (l : List Nat) (m : Nat), bit (l.foldl (fun m i => m ||| 1 <<< i) m) i = (bit m i || decide (i ∈ l)) := by
    intro l
    induction l with
    | nil => intro m; simp
    | cons a l ih =>
      intro m
      rw [List.foldl_cons, ih, bit_or, bit_one_shiftLeft]
      by_cases h : i = a
      · subst h; simp
      · simp [h, Ne.symm h]
  have h0 : bit 0 i = false := by simp [bit_eq_testBit]
  unfold maskOf
  rw [key, h0, Bool.false_or]

/-- The groups in a state are those that are in it. -/
theorem mem_groupsIn {s : State} {st : GState} {g : Nat} (h : bit (s.groupsIn st) g = true) :
    g < 4 ∧ (s.group g).state = st := by
  unfold State.groupsIn at h
  rw [bit_maskOf, decide_eq_true_eq, List.mem_filter] at h
  exact ⟨by simpa using h.1, by simpa using h.2⟩

theorem mem_bitsSet {v n i : Nat} (h : i ∈ bitsSet v n) : i < n ∧ bit v i = true := by
  unfold bitsSet at h
  rw [List.mem_filter] at h
  exact ⟨by simpa using h.1, h.2⟩

end Sys2Proof.Machine
end

