-- ==== Sys2Proof/Laws/Frame/Mirror.lean ====
section
/-! SUPPORT. What every command leaves alone: one lemma for each function of Machine/Mirror.lean that changes the state. -/

namespace Sys2Proof.Machine

variable {o s : State} {m : Nat}

theorem State.sendMirror_same (h : State.SameOutside m o s) (k : 562952100904960 ||| m = m) :
    State.SameOutside m o (State.sendMirror s b1) := by
  unfold State.sendMirror
  extract_lets -merge -useContext -underBinder x0
  exact (State.emit_same (State.fset_same h (mask_trans rfl k) (pageMask_pair (mask_trans rfl k))) (mask_trans rfl k))

theorem State.flushMirror_same (h : State.SameOutside m o s) (k : 562952134459392 ||| m = m) :
    State.SameOutside m o (State.flushMirror s) := by
  unfold State.flushMirror
  extract_lets -merge -useContext -underBinder x0 x1
  exact (State.SameOutside.ite (State.SameOutside.foldl (State.SameOutside.set_pair h (mask_trans rfl k)) (fun a4 s2 h3 => (State.sendMirror_same h3 (mask_trans rfl k)))) h)

theorem State.queueMirror_same (h : State.SameOutside m o s) (k : 562952134459392 ||| m = m) :
    State.SameOutside m o (State.queueMirror s b1) := by
  unfold State.queueMirror
  extract_lets -merge -useContext -underBinder x0 x1
  exact (State.SameOutside.ite (State.SameOutside.set_pair h (mask_trans rfl k)) (State.evt_same (State.fset_same h (mask_trans rfl k) (pageMask_pair (mask_trans rfl k))) (mask_trans rfl k) (pageMask_pair (mask_trans rfl k))))

theorem State.mirror_same (h : State.SameOutside m o s) (k : 562952134459392 ||| m = m) :
    State.SameOutside m o (State.mirror s b1) := by
  unfold State.mirror
  exact (State.SameOutside.ite (State.sendMirror_same (State.flushMirror_same h (mask_trans rfl k)) (mask_trans rfl k)) (State.SameOutside.ite h (State.queueMirror_same h (mask_trans rfl k))))

theorem State.mirrorActive_same (h : State.SameOutside m o s) (k : 562952134459392 ||| m = m) :
    State.SameOutside m o (State.mirrorActive s b1) := by
  unfold State.mirrorActive
  exact (State.SameOutside.ite (State.mirror_same h (mask_trans rfl k)) h)

end Sys2Proof.Machine
end

