-- ==== Sys2Proof/Laws/Frame/Ring.lean ====
section
/-! SUPPORT. What every command leaves alone: one lemma for each function of Machine/Ring.lean that changes the state. -/

namespace Sys2Proof.Machine

variable {o s : State} {m : Nat}

theorem State.setTileLive_same (h : State.SameOutside m o s) (k : 1099511627776 ||| m = m) :
    State.SameOutside m o (State.setTileLive s b1 b2) := by
  unfold State.setTileLive
  extract_lets -merge -useContext -underBinder x0
  exact (State.fset_same h (mask_trans rfl k) (pageMask_sys (mask_trans rfl k)))

theorem State.setMask_same (h : State.SameOutside m o s) (k : 0 ||| m = m) (kp1 : pageMask b1 ||| m = m) :
    State.SameOutside m o (State.setMask s b1 b2 b3) := by
  unfold State.setMask
  exact (State.SameOutside.foldl h (fun a2 s0 h1 => (State.fset_same h1 (mask_trans rfl k) kp1)))

theorem State.showRing_same (h : State.SameOutside m o s) (k : 36893488149566586880 ||| m = m) :
    State.SameOutside m o (State.showRing s b1) := by
  unfold State.showRing
  extract_lets -merge -useContext -underBinder x0 x1 x2 x3 x4 x5 x6 x7 x8
  have h9 : State.SameOutside m o x2 := (State.fset_same (State.setMask_same (State.setMask_same h (mask_trans rfl k) (pageMask_dud _ (mask_trans rfl k))) (mask_trans rfl k) (pageMask_dud _ (mask_trans rfl k))) (mask_trans rfl k) (pageMask_dud _ (mask_trans rfl k)))
  have h10 : State.SameOutside m o x3 := (State.fset_same h9 (mask_trans rfl k) (pageMask_dud _ (mask_trans rfl k)))
  have h11 : State.SameOutside m o x4 := (State.fsetB_same h10 (mask_trans rfl k) (pageMask_dud _ (mask_trans rfl k)))
  have h12 : State.SameOutside m o x5 := (State.SameOutside.foldl h11 (fun a15 s13 h14 => (State.fsetB_same (State.fsetB_same h14 (mask_trans rfl k) (pageMask_dud _ (mask_trans rfl k))) (mask_trans rfl k) (pageMask_dud _ (mask_trans rfl k)))))
  have h16 : State.SameOutside m o x8 := (State.fset_same h12 (mask_trans rfl k) (pageMask_dud _ (mask_trans rfl k)))
  exact (State.SameOutside.ite (State.SameOutside.ite (State.evt_same h16 (mask_trans rfl k) (pageMask_dud _ (mask_trans rfl k))) h16) h12)

theorem State.ringSend_same (h : State.SameOutside m o s) (k : 2147485700 ||| m = m) :
    State.SameOutside m o (State.ringSend s b1 b2 b3 b4) := by
  unfold State.ringSend
  exact (State.SameOutside.ite h (by
    split
    · rename_i x0 x1 x2 x3
      have h4 : State.SameOutside m o x2 := State.SameOutside.of_eq2 x3 (State.fresh_same h (mask_trans rfl k))
      extract_lets -merge -useContext -underBinder x5
      exact (State.emit_same (State.setDud_same h4 (mask_trans rfl k)) (mask_trans rfl k))))

theorem State.sendSinkConfig_same (h : State.SameOutside m o s) (k : 2147485700 ||| m = m) :
    State.SameOutside m o (State.sendSinkConfig s b1 b2) := by
  unfold State.sendSinkConfig
  exact (State.SameOutside.foldl h (fun a2 s0 h1 => (State.ringSend_same h1 (mask_trans rfl k))))

theorem State.sendDrives_same (h : State.SameOutside m o s) (k : 2147485700 ||| m = m) :
    State.SameOutside m o (State.sendDrives s b1 b2 b3) := by
  unfold State.sendDrives
  exact (State.SameOutside.foldl h (fun a2 s0 h1 => (State.ringSend_same h1 (mask_trans rfl k))))

theorem State.frameDoneCheck_same (h : State.SameOutside m o s) (k : 2201170739328 ||| m = m) :
    State.SameOutside m o (State.frameDoneCheck s) := by
  unfold State.frameDoneCheck
  extract_lets -merge -useContext -underBinder x0
  exact (State.SameOutside.ite (State.evt_same (State.SameOutside.set_time h (mask_trans rfl k)) (mask_trans rfl k) (pageMask_time (mask_trans rfl k))) h)

theorem State.sendPhase_same (h : State.SameOutside m o s) (k : 2147485700 ||| m = m) :
    State.SameOutside m o (State.sendPhase s b1 b2 b3) := by
  unfold State.sendPhase
  extract_lets -merge -useContext -underBinder x0
  split
  · rename_i x1 x2
    split
    · rename_i x3 x4 x5
      exact (State.ringSend_same h (mask_trans rfl k))
    · rename_i x6 x7
      split
      · rename_i x8 x9 x10 x11
        have h12 : State.SameOutside m o x10 := State.SameOutside.of_eq2 x11 (State.fresh_same h (mask_trans rfl k))
        exact (State.ringSend_same h12 (mask_trans rfl k))
  · rename_i x13 x14
    split
    · rename_i x15 x16 x17
      exact (State.ringSend_same h (mask_trans rfl k))
    · rename_i x18 x19
      exact (State.sendSinkConfig_same h (mask_trans rfl k))
  · rename_i x20 x21 x22
    exact (State.ringSend_same h (mask_trans rfl k))

theorem State.startPhase_same (h : State.SameOutside m o s) (k : 2147485700 ||| m = m) :
    State.SameOutside m o (State.startPhase s b1 b2) := by
  unfold State.startPhase
  extract_lets -merge -useContext -underBinder x0 x1
  have h2 : State.SameOutside m o x0 := (State.sendPhase_same h (mask_trans rfl k))
  exact (State.setDud_same h2 (mask_trans rfl k))

theorem State.startOn_same (h : State.SameOutside m o s) (k : 2147485700 ||| m = m) :
    State.SameOutside m o (State.startOn s b1 b2 b3) := by
  unfold State.startOn
  exact (State.SameOutside.ite h (State.startPhase_same h (mask_trans rfl k)))

end Sys2Proof.Machine
end

