-- ==== Sys2Proof/Laws/Frame/Dram.lean ====
section
/-! SUPPORT. What every command leaves alone: one lemma for each function of Machine/Dram.lean that changes the state. -/

namespace Sys2Proof.Machine

variable {o s : State} {m : Nat}

theorem State.setByte_same (h : State.SameOutside m o s) (k : 16384 ||| m = m) :
    State.SameOutside m o (State.setByte s b1 b2) := by
  unfold State.setByte
  extract_lets -merge -useContext -underBinder x0
  exact (State.SameOutside.set_dram h (mask_trans rfl k))

theorem State.setTag_same (h : State.SameOutside m o s) (k : 16384 ||| m = m) :
    State.SameOutside m o (State.setTag s b1 b2 b3) := by
  unfold State.setTag
  extract_lets -merge -useContext -underBinder x0
  exact (State.SameOutside.set_dram h (mask_trans rfl k))

theorem State.writeBlock_same (h : State.SameOutside m o s) (k : 16384 ||| m = m) :
    State.SameOutside m o (State.writeBlock s b1 b2 b3 b4) := by
  unfold State.writeBlock
  exact (State.setTag_same (State.SameOutside.foldl h (fun a2 s0 h1 => (State.setByte_same h1 (mask_trans rfl k)))) (mask_trans rfl k))

theorem State.putBlock_same (h : State.SameOutside m o s) (k : 2251799813701632 ||| m = m) :
    State.SameOutside m o (State.putBlock s b1 b2 b3 b4) := by
  unfold State.putBlock
  exact (State.SameOutside.ite h (State.writeBlock_same (State.fset_same h (mask_trans rfl k) (pageMask_mem (mask_trans rfl k))) (mask_trans rfl k)))

theorem State.admitWrite_same (h : State.SameOutside m o s) (k : 2814751948193792 ||| m = m) :
    State.SameOutside m o (State.admitWrite s b1 b2 b3 b4 b5) := by
  unfold State.admitWrite
  extract_lets -merge -useContext -underBinder x0 x1 x2
  have h3 : State.SameOutside m o x1 := (State.SameOutside.ite (State.finc_same (State.SameOutside.set_mem h (mask_trans rfl k)) (mask_trans rfl k) (pageMask_mem (mask_trans rfl k))) h)
  have h4 : State.SameOutside m o x2 := (State.putBlock_same h3 (mask_trans rfl k))
  exact (State.SameOutside.ite h (State.SameOutside.ite (State.mirrorActive_same h4 (mask_trans rfl k)) h4))

theorem State.writeBytes_same (h : State.SameOutside m o s) (k : 2814751948193792 ||| m = m) :
    State.SameOutside m o (State.writeBytes s b1 b2 b3 b4 b5) := by
  unfold State.writeBytes
  exact (State.SameOutside.foldl h (fun a2 s0 h1 => (State.admitWrite_same h1 (mask_trans rfl k))))

theorem State.writeNat_same (h : State.SameOutside m o s) (k : 2814751948193792 ||| m = m) :
    State.SameOutside m o (State.writeNat s b1 b2 b3 b4 b5) := by
  unfold State.writeNat
  exact (State.writeBytes_same h (mask_trans rfl k))

end Sys2Proof.Machine
end

