-- ==== Sys2Proof/Laws/Frame/Engine.lean ====
section
/-! SUPPORT. What every command leaves alone: one lemma for each function of Machine/Engine.lean that changes the state. -/

namespace Sys2Proof.Machine

variable {o s : State} {m : Nat}

theorem State.putResidual_same (h : State.SameOutside m o s) (k : 2814751948193792 ||| m = m) :
    State.SameOutside m o (State.putResidual s b1 b2 b3 b4) := by
  unfold State.putResidual
  extract_lets -merge -useContext -underBinder x0
  exact (State.SameOutside.ite (State.writeBytes_same h (mask_trans rfl k)) h)

theorem State.putCode_same (h : State.SameOutside m o s) (k : 2814751948194304 ||| m = m) :
    State.SameOutside m o (State.putCode s b1 b2 b3 b4 b5) := by
  unfold State.putCode
  extract_lets -merge -useContext -underBinder x0 x1
  have h2 : State.SameOutside m o x0 := (State.putResidual_same h (mask_trans rfl k))
  exact (State.SameOutside.set_cad h2 (mask_trans rfl k))

theorem State.probe_same (h : State.SameOutside m o s) (k : 1152921504606846976 ||| m = m) :
    State.SameOutside m o (State.probe s b1 b2 b3 b4 b5 b6 b7 b8) := by
  unfold State.probe
  extract_lets -merge -useContext -underBinder x0 x1
  have h2 : State.SameOutside m o x1 := (State.SameOutside.foldl h (fun a5 s3 h4 => (by
    extract_lets -merge -useContext -underBinder x6
    have h7 : State.SameOutside m o x6 := (State.fset_same (State.fset_same h4 (mask_trans rfl k) (pageMask_pe _ (mask_trans rfl k))) (mask_trans rfl k) (pageMask_pe _ (mask_trans rfl k)))
    exact (State.fset_same (State.fset_same (State.fset_same h7 (mask_trans rfl k) (pageMask_pe _ (mask_trans rfl k))) (mask_trans rfl k) (pageMask_pe _ (mask_trans rfl k))) (mask_trans rfl k) (pageMask_pe _ (mask_trans rfl k))))))
  exact (State.SameOutside.ite (State.fset_same (State.fset_same h2 (mask_trans rfl k) (pageMask_pe _ (mask_trans rfl k))) (mask_trans rfl k) (pageMask_pe _ (mask_trans rfl k))) h)

theorem State.peBank_same (h : State.SameOutside m o s) (k : 1191765053574005248 ||| m = m) :
    State.SameOutside m o (State.peBank s b1 b2 b3 b4 b5 b6) := by
  unfold State.peBank
  extract_lets -merge -useContext -underBinder x0 x1 x2
  exact (State.SameOutside.ite (State.SameOutside.foldl h (fun a5 s3 h4 => (State.putCode_same h4 (mask_trans rfl k)))) (by
    split
    · rename_i x6 x7 x8 x9
      extract_lets -merge -useContext -underBinder x10 x11 x12 x13
      have h14 : State.SameOutside m o x10 := (State.SameOutside.ite (State.finc_same h (mask_trans rfl k) (pageMask_matte (mask_trans rfl k))) h)
      have h15 : State.SameOutside m o x13 := (State.SameOutside.foldl h14 (fun a18 s16 h17 => (State.putCode_same h17 (mask_trans rfl k))))
      exact (State.probe_same h15 (mask_trans rfl k))))

theorem State.pePixel_same (h : State.SameOutside m o s) (k : 1191765053574005248 ||| m = m) :
    State.SameOutside m o (State.pePixel s b1 b2 b3) := by
  unfold State.pePixel
  extract_lets -merge -useContext -underBinder x0 x1 x2 x3 x4 x5 x6 x7 x8 x9 x10
  have h11 : State.SameOutside m o x5 := (State.SameOutside.ite (State.finc_same h (mask_trans rfl k) (pageMask_pe _ (mask_trans rfl k))) h)
  have h12 : State.SameOutside m o x7 := (State.finc_same h11 (mask_trans rfl k) (pageMask_pe _ (mask_trans rfl k)))
  have h13 : State.SameOutside m o x9 := (State.SameOutside.ite (State.SameOutside.set_cad h12 (mask_trans rfl k)) h11)
  exact (State.SameOutside.foldl h13 (fun a16 s14 h15 => (State.peBank_same h15 (mask_trans rfl k))))

theorem State.peTile_same (h : State.SameOutside m o s) (k : 1191765053574005248 ||| m = m) :
    State.SameOutside m o (State.peTile s b1) := by
  unfold State.peTile
  exact (State.SameOutside.foldl h (fun a2 s0 h1 => (State.SameOutside.foldl h1 (fun a5 s3 h4 => (State.pePixel_same h4 (mask_trans rfl k))))))

end Sys2Proof.Machine
end

