-- ==== Sys2Proof/Laws/Frame/SafeCore.lean ====
section
/-! SUPPORT. What every command leaves alone: one lemma for each function of Machine/SafeCore.lean that changes the state. -/

namespace Sys2Proof.Machine

variable {o s : State} {m : Nat}

theorem State.setGroup_same (h : State.SameOutside m o s) (k : 2097152 ||| m = m) :
    State.SameOutside m o (State.setGroup s b1 b2) := by
  unfold State.setGroup
  extract_lets -merge -useContext -underBinder x0
  subst x0
  exact (State.SameOutside.set_safe h (mask_trans rfl k))

theorem State.setInput_same (h : State.SameOutside m o s) (k : 2097152 ||| m = m) :
    State.SameOutside m o (State.setInput s b1 b2) := by
  unfold State.setInput
  extract_lets -merge -useContext -underBinder x0
  subst x0
  exact (State.SameOutside.set_safe h (mask_trans rfl k))

theorem State.setConn_same (h : State.SameOutside m o s) (k : 2097152 ||| m = m) :
    State.SameOutside m o (State.setConn s b1 b2) := by
  unfold State.setConn
  extract_lets -merge -useContext -underBinder x0
  subst x0
  exact (State.SameOutside.set_safe h (mask_trans rfl k))

theorem State.sendStatus_same (h : State.SameOutside m o s) (k : 70370893758464 ||| m = m) :
    State.SameOutside m o (State.sendStatus s) := by
  unfold State.sendStatus
  extract_lets -merge -useContext -underBinder x0 x1 x2 x3
  have h4 : State.SameOutside m o x2 := (State.emit_same (State.fset_same h (mask_trans rfl k) (pageMask_saf (mask_trans rfl k))) (mask_trans rfl k))
  subst x3
  exact (State.SameOutside.ite (State.SameOutside.set_safe h4 (mask_trans rfl k)) h)

theorem State.statusIfMoved_same (h : State.SameOutside m o s) (k : 70370893758464 ||| m = m) :
    State.SameOutside m o (State.statusIfMoved s b1) := by
  unfold State.statusIfMoved
  exact (State.SameOutside.ite (State.sendStatus_same h (mask_trans rfl k)) h)

theorem State.enterLockout_same (h : State.SameOutside m o s) (k : 70370893758464 ||| m = m) :
    State.SameOutside m o (State.enterLockout s b1 b2) := by
  unfold State.enterLockout
  extract_lets -merge -useContext -underBinder x0 x1 x2
  have h3 : State.SameOutside m o x1 := (State.setGroup_same h (mask_trans rfl k))
  have h4 : State.SameOutside m o x2 := (State.finc_same (State.fset_same h3 (mask_trans rfl k) (pageMask_saf (mask_trans rfl k))) (mask_trans rfl k) (pageMask_saf (mask_trans rfl k)))
  exact (State.evt_same h4 (mask_trans rfl k) (pageMask_saf (mask_trans rfl k)))

theorem State.stopPort_same (h : State.SameOutside m o s) (k : 3300682369152 ||| m = m) :
    State.SameOutside m o (State.stopPort s b1) := by
  unfold State.stopPort
  extract_lets -merge -useContext -underBinder x0 x1
  have h2 : State.SameOutside m o x0 := (State.setTileLive_same h (mask_trans rfl k))
  exact (State.frameDoneCheck_same (State.setDud_same h2 (mask_trans rfl k)) (mask_trans rfl k))

theorem State.abandonRing_same (h : State.SameOutside m o s) (k : 36893491448101472384 ||| m = m) :
    State.SameOutside m o (State.abandonRing s b1) := by
  unfold State.abandonRing
  extract_lets -merge -useContext -underBinder x0 x1 x2
  have h3 : State.SameOutside m o x0 := (State.stopPort_same h (mask_trans rfl k))
  have h4 : State.SameOutside m o x2 := (State.setDud_same h3 (mask_trans rfl k))
  exact (State.SameOutside.ite (State.fset_same h4 (mask_trans rfl k) (pageMask_dud _ (mask_trans rfl k))) (State.showRing_same h4 (mask_trans rfl k)))

theorem State.setPairState_same (h : State.SameOutside m o s) (k : 562952100904960 ||| m = m) :
    State.SameOutside m o (State.setPairState s b1) := by
  unfold State.setPairState
  exact (State.SameOutside.ite h (State.evt_same (State.fset_same h (mask_trans rfl k) (pageMask_pair (mask_trans rfl k))) (mask_trans rfl k) (pageMask_pair (mask_trans rfl k))))

theorem State.disown_same (h : State.SameOutside m o s) (k : 36893491448101472384 ||| m = m) :
    State.SameOutside m o (State.disown s b1) := by
  unfold State.disown
  extract_lets -merge -useContext -underBinder x0 x1 x2
  have h3 : State.SameOutside m o x0 := (State.abandonRing_same h (mask_trans rfl k))
  have h4 : State.SameOutside m o x2 := (State.setDud_same h3 (mask_trans rfl k))
  exact (State.showRing_same (State.fset_same (State.fset_same (State.fset_same h4 (mask_trans rfl k) (pageMask_dud _ (mask_trans rfl k))) (mask_trans rfl k) (pageMask_dud _ (mask_trans rfl k))) (mask_trans rfl k) (pageMask_dud _ (mask_trans rfl k))) (mask_trans rfl k))

theorem State.demote_same (h : State.SameOutside m o s) (k : 36894054398088452224 ||| m = m) :
    State.SameOutside m o (State.demote s) := by
  unfold State.demote
  extract_lets -merge -useContext -underBinder x0 x1 x2 x3
  have h4 : State.SameOutside m o x0 := (State.SameOutside.foldl h (fun a7 s5 h6 => (State.disown_same h6 (mask_trans rfl k))))
  have h8 : State.SameOutside m o x3 := (State.SameOutside.set_gaf_pair h4 (mask_trans rfl k))
  exact (State.SameOutside.ite (State.setPairState_same (State.fset_same h8 (mask_trans rfl k) (pageMask_pair (mask_trans rfl k))) (mask_trans rfl k)) h)

theorem State.darkTile_same (h : State.SameOutside m o s) (k : 36893491448101472388 ||| m = m) :
    State.SameOutside m o (State.darkTile s b1) := by
  unfold State.darkTile
  extract_lets -merge -useContext -underBinder x0
  have h1 : State.SameOutside m o x0 := (State.startOn_same (State.stopPort_same h (mask_trans rfl k)) (mask_trans rfl k))
  exact (State.showRing_same h1 (mask_trans rfl k))

theorem State.openGroup_same (h : State.SameOutside m o s) (k : 36893491448103569540 ||| m = m) :
    State.SameOutside m o (State.openGroup s b1 b2) := by
  unfold State.openGroup
  extract_lets -merge -useContext -underBinder x0 x1 x2 x3 x4 x5
  have h6 : State.SameOutside m o x1 := (State.setGroup_same h (mask_trans rfl k))
  subst x4
  have h7 : State.SameOutside m o x5 := (State.SameOutside.set_time_safe h6 (mask_trans rfl k))
  exact (State.SameOutside.foldl h7 (fun a10 s8 h9 => (State.darkTile_same h9 (mask_trans rfl k))))

theorem State.tripGroup_same (h : State.SameOutside m o s) (k : 36893561816847747204 ||| m = m) :
    State.SameOutside m o (State.tripGroup b0 b1 s b3) := by
  unfold State.tripGroup
  extract_lets -merge -useContext -underBinder x0
  split
  · rename_i x1 x2
    exact (State.openGroup_same h (mask_trans rfl k))
  · rename_i x3 x4
    exact (State.openGroup_same h (mask_trans rfl k))
  · rename_i x5 x6
    exact (State.openGroup_same h (mask_trans rfl k))
  · rename_i x7 x8
    exact (State.SameOutside.ite (State.setGroup_same h (mask_trans rfl k)) h)
  · rename_i x9 x10
    exact (State.SameOutside.ite (State.enterLockout_same h (mask_trans rfl k)) h)
  · rename_i x11 x12
    exact h
  · rename_i x13 x14
    exact h

theorem State.recordTrip_same (h : State.SameOutside m o s) (k : 211108380016640 ||| m = m) :
    State.SameOutside m o (State.recordTrip s b1 b2) := by
  unfold State.recordTrip
  extract_lets -merge -useContext -underBinder x0 x1 x2
  have h3 : State.SameOutside m o x0 := (State.finc_same (State.finc_same h (mask_trans rfl k) (pageMask_saf (mask_trans rfl k))) (mask_trans rfl k) (pageMask_grd (mask_trans rfl k)))
  have h4 : State.SameOutside m o x1 := (State.fset_same (State.fset_same h3 (mask_trans rfl k) (pageMask_saf (mask_trans rfl k))) (mask_trans rfl k) (pageMask_saf (mask_trans rfl k)))
  have h5 : State.SameOutside m o x2 := (State.fset_same h4 (mask_trans rfl k) (pageMask_grd (mask_trans rfl k)))
  exact (State.evt_same (State.evt_same h5 (mask_trans rfl k) (pageMask_saf (mask_trans rfl k))) (mask_trans rfl k) (pageMask_grd (mask_trans rfl k)))

theorem State.tripWith_same (h : State.SameOutside m o s) (k : 36893702554336102532 ||| m = m) :
    State.SameOutside m o (State.tripWith s b1 b2 b3) := by
  unfold State.tripWith
  extract_lets -merge -useContext -underBinder x0 x1 x2
  have h3 : State.SameOutside m o x1 := (State.SameOutside.foldl h (fun a6 s4 h5 => (State.tripGroup_same h5 (mask_trans rfl k))))
  have h7 : State.SameOutside m o x2 := (State.SameOutside.ite (State.recordTrip_same h3 (mask_trans rfl k)) h3)
  exact (State.statusIfMoved_same h7 (mask_trans rfl k))

theorem State.trip_same (h : State.SameOutside m o s) (k : 36893702554336102532 ||| m = m) :
    State.SameOutside m o (State.trip s b1 b2) := by
  unfold State.trip
  exact (State.tripWith_same h (mask_trans rfl k))

theorem State.openingDone_same (h : State.SameOutside m o s) (k : 70370893758464 ||| m = m) :
    State.SameOutside m o (State.openingDone s b1) := by
  unfold State.openingDone
  extract_lets -merge -useContext -underBinder x0
  exact (State.SameOutside.ite (State.SameOutside.ite (State.setGroup_same h (mask_trans rfl k)) (State.enterLockout_same h (mask_trans rfl k))) h)

theorem State.evalGroup_same (h : State.SameOutside m o s) (k : 70370893758464 ||| m = m) :
    State.SameOutside m o (State.evalGroup s b1) := by
  unfold State.evalGroup
  extract_lets -merge -useContext -underBinder x0
  split
  · rename_i x1 x2
    exact (State.SameOutside.ite (State.evt_same (State.setGroup_same h (mask_trans rfl k)) (mask_trans rfl k) (pageMask_saf (mask_trans rfl k))) h)
  · rename_i x3 x4
    exact (State.SameOutside.ite h (State.setGroup_same h (mask_trans rfl k)))
  · rename_i x5 x6 x7
    exact h

theorem State.evalGroups_same (h : State.SameOutside m o s) (k : 70370893758464 ||| m = m) :
    State.SameOutside m o (State.evalGroups s) := by
  unfold State.evalGroups
  extract_lets -merge -useContext -underBinder x0 x1
  have h2 : State.SameOutside m o x0 := (State.SameOutside.foldl h (fun a5 s3 h4 => (State.openingDone_same h4 (mask_trans rfl k))))
  have h6 : State.SameOutside m o x1 := (State.SameOutside.foldl h2 (fun a9 s7 h8 => (State.evalGroup_same h8 (mask_trans rfl k))))
  exact (State.statusIfMoved_same h6 (mask_trans rfl k))

end Sys2Proof.Machine
end

