-- ==== Sys2Proof/Laws/Frame/Flt.lean ====
section
/-! SUPPORT. What every command leaves alone: one lemma for each function of Machine/Flt.lean that changes the state. -/

namespace Sys2Proof.Machine

variable {o s : State} {m : Nat}

theorem State.mergeReport_same (h : State.SameOutside m o s) (k : 4398046511104 ||| m = m) :
    State.SameOutside m o (State.mergeReport s b1) := by
  unfold State.mergeReport
  extract_lets -merge -useContext -underBinder x0 x1
  have h2 : State.SameOutside m o x0 := (State.fadd_same h (mask_trans rfl k) (pageMask_flt (mask_trans rfl k)))
  exact (State.fset_same h2 (mask_trans rfl k) (pageMask_flt (mask_trans rfl k)))

theorem State.captureReport_same (h : State.SameOutside m o s) (k : 4400193994752 ||| m = m) :
    State.SameOutside m o (State.captureReport s b1 b2) := by
  unfold State.captureReport
  extract_lets -merge -useContext -underBinder x0 x1 x2 x3
  have h4 : State.SameOutside m o x0 := (State.fset_same (State.fset_same (State.fset_same (State.fset_same (State.fsetB_same (State.fset_same h (mask_trans rfl k) (pageMask_flt (mask_trans rfl k))) (mask_trans rfl k) (pageMask_flt (mask_trans rfl k))) (mask_trans rfl k) (pageMask_flt (mask_trans rfl k))) (mask_trans rfl k) (pageMask_flt (mask_trans rfl k))) (mask_trans rfl k) (pageMask_flt (mask_trans rfl k))) (mask_trans rfl k) (pageMask_flt (mask_trans rfl k)))
  have h5 : State.SameOutside m o x1 := (State.fset_same (State.fset_same (State.fset_same h4 (mask_trans rfl k) (pageMask_flt (mask_trans rfl k))) (mask_trans rfl k) (pageMask_flt (mask_trans rfl k))) (mask_trans rfl k) (pageMask_flt (mask_trans rfl k)))
  have h6 : State.SameOutside m o x2 := (State.fset_same (State.fset64_same h5 (mask_trans rfl k) (pageMask_flt (mask_trans rfl k))) (mask_trans rfl k) (pageMask_flt (mask_trans rfl k)))
  have h7 : State.SameOutside m o x3 := (State.fwrap_same (State.fset_same h6 (mask_trans rfl k) (pageMask_flt (mask_trans rfl k))) (mask_trans rfl k) (pageMask_flt (mask_trans rfl k)))
  exact (State.evt_same h7 (mask_trans rfl k) (pageMask_flt (mask_trans rfl k)))

theorem State.countReport_same (h : State.SameOutside m o s) (k : 73786975197474062336 ||| m = m) :
    State.SameOutside m o (State.countReport s b1) := by
  unfold State.countReport
  extract_lets -merge -useContext -underBinder x0
  have h1 : State.SameOutside m o x0 := (State.fadd_same h (mask_trans rfl k) (pageMask_flt (mask_trans rfl k)))
  exact (State.SameOutside.ite (State.faultCount_same h1 (mask_trans rfl k) (pageMask_any _ (mask_trans rfl k))) (State.SameOutside.ite (State.fadd_same h1 (mask_trans rfl k) (pageMask_flt (mask_trans rfl k))) h1))

theorem State.signalPair_same (h : State.SameOutside m o s) (k : 562952134459392 ||| m = m) :
    State.SameOutside m o (State.signalPair s b1) := by
  unfold State.signalPair
  exact (State.mirrorActive_same h (mask_trans rfl k))

theorem State.blockReset_same (h : State.SameOutside m o s) (k : 37294346999327144932 ||| m = m) (kp1 : pageMask b1 ||| m = m) :
    State.SameOutside m o (State.blockReset s b1) := by
  unfold State.blockReset
  split
  · rename_i x0 x1 x2 x3
    have h4 : State.SameOutside m o x2 := State.SameOutside.of_eq2 x3 (State.fresh_same h (mask_trans rfl k))
    extract_lets -merge -useContext -underBinder x5
    have h6 : State.SameOutside m o x5 := (State.cmdFail_same h4 (mask_trans rfl k) kp1)
    split
    · rename_i x7 x8 x9
      extract_lets -merge -useContext -underBinder x10
      exact (State.fset_same (State.SameOutside.set_cmp h6 (mask_trans rfl k)) (mask_trans rfl k) (pageMask_cmp (mask_trans rfl k)))
    · rename_i x11 x12 x13
      extract_lets -merge -useContext -underBinder x14 x15
      exact (State.SameOutside.set_cad h6 (mask_trans rfl k))
    · rename_i x16 x17 x18
      extract_lets -merge -useContext -underBinder x19
      exact (State.fset_same (State.fset_same (State.SameOutside.set_cad h6 (mask_trans rfl k)) (mask_trans rfl k) (pageMask_cad (mask_trans rfl k))) (mask_trans rfl k) (pageMask_cad (mask_trans rfl k)))
    · rename_i x20 x21 x22
      exact (State.fset_same h6 (mask_trans rfl k) (pageMask_matte (mask_trans rfl k)))
    · rename_i x23 x24 x25
      extract_lets -merge -useContext -underBinder x26
      exact (State.fset_same (State.fset_same (State.SameOutside.set_scal h6 (mask_trans rfl k)) (mask_trans rfl k) (pageMask_scal (mask_trans rfl k))) (mask_trans rfl k) (pageMask_scal (mask_trans rfl k)))
    · rename_i x27 x28 x29
      exact (State.abandonRing_same h6 (mask_trans rfl k))
    · rename_i x30 x31 x32
      extract_lets -merge -useContext -underBinder x33
      exact (State.SameOutside.set_gaf h6 (mask_trans rfl k))
    · rename_i x34 x35 x36
      extract_lets -merge -useContext -underBinder x37
      exact (State.fset_same (State.SameOutside.set_diag h6 (mask_trans rfl k)) (mask_trans rfl k) (pageMask_diag (mask_trans rfl k)))
    · rename_i x38 x39 x40
      extract_lets -merge -useContext -underBinder x41 x42
      have h43 : State.SameOutside m o x41 := (State.SameOutside.set_links h6 (mask_trans rfl k))
      exact (State.SameOutside.ite (State.SameOutside.set_transport h43 (mask_trans rfl k)) h43)
    · rename_i x44 x45 x46
      exact (State.SameOutside.set_chks h6 (mask_trans rfl k))
    · rename_i x47 x48 x49
      exact (State.SameOutside.set_reels h6 (mask_trans rfl k))
    · rename_i x50 x51 x52 x53 x54 x55 x56 x57 x58 x59 x60 x61
      extract_lets -merge -useContext -underBinder x62 x63
      exact (State.SameOutside.ite (State.SameOutside.set_transport h6 (mask_trans rfl k)) (State.SameOutside.ite (State.SameOutside.set_mem h6 (mask_trans rfl k)) h6))

theorem State.react_same (h : State.SameOutside m o s) (k : 73786975197527325668 ||| m = m) :
    State.SameOutside m o (State.react s b1 b2) := by
  unfold State.react
  extract_lets -merge -useContext -underBinder x0 x1 x2
  have h3 : State.SameOutside m o x0 := (State.SameOutside.ite (State.tripWith_same h (mask_trans rfl k)) h)
  have h4 : State.SameOutside m o x1 := (State.SameOutside.ite (State.signalPair_same h3 (mask_trans rfl k)) h3)
  have h5 : State.SameOutside m o x2 := (State.SameOutside.ite (State.evt_same h4 (mask_trans rfl k) (pageMask_flt (mask_trans rfl k))) h4)
  exact (State.SameOutside.ite (State.SameOutside.ite (State.finc_same h5 (mask_trans rfl k) (pageMask_flt (mask_trans rfl k))) (State.blockReset_same h5 (mask_trans rfl k) (pageMask_any _ (mask_trans rfl k)))) h5)

theorem State.intake_same (h : State.SameOutside m o s) (k : 73786975197527325668 ||| m = m) :
    State.SameOutside m o (State.intake s b1 b2) := by
  unfold State.intake
  extract_lets -merge -useContext -underBinder x0
  have h1 : State.SameOutside m o x0 := (State.SameOutside.ite (State.mergeReport_same h (mask_trans rfl k)) (State.captureReport_same h (mask_trans rfl k)))
  exact (State.react_same (State.countReport_same h1 (mask_trans rfl k)) (mask_trans rfl k))

theorem State.report_same (h : State.SameOutside m o s) (k : 73786975197527456740 ||| m = m) :
    State.SameOutside m o (State.report s b1) := by
  unfold State.report
  extract_lets -merge -useContext -underBinder x0
  exact (State.SameOutside.ite (State.SameOutside.set_flt h (mask_trans rfl k)) (State.intake_same h (mask_trans rfl k)))

theorem State.reportDrop_same (h : State.SameOutside m o s) (k : 73786975197527456740 ||| m = m) :
    State.SameOutside m o (State.reportDrop s b1) := by
  unfold State.reportDrop
  exact (State.report_same h (mask_trans rfl k))

theorem State.reportUsage_same (h : State.SameOutside m o s) (k : 73786975197527456740 ||| m = m) :
    State.SameOutside m o (State.reportUsage s b1 b2 b3 b4 b5) := by
  unfold State.reportUsage
  exact (State.report_same h (mask_trans rfl k))

theorem State.breakWire_same (h : State.SameOutside m o s) (k : 73786975197527325668 ||| m = m) :
    State.SameOutside m o (State.breakWire s b1) := by
  unfold State.breakWire
  extract_lets -merge -useContext -underBinder x0 x1
  have h2 : State.SameOutside m o x1 := (State.fset_same h (mask_trans rfl k) (pageMask_flt (mask_trans rfl k)))
  exact (State.SameOutside.ite h (State.intake_same (State.evt_same h2 (mask_trans rfl k) (pageMask_flt (mask_trans rfl k))) (mask_trans rfl k)))

theorem State.mendWire_same (h : State.SameOutside m o s) (k : 73786975197527456740 ||| m = m) :
    State.SameOutside m o (State.mendWire s b1) := by
  unfold State.mendWire
  extract_lets -merge -useContext -underBinder x0 x1 x2 x3 x4
  have h5 : State.SameOutside m o x1 := (State.fset_same h (mask_trans rfl k) (pageMask_flt (mask_trans rfl k)))
  have h6 : State.SameOutside m o x4 := (State.SameOutside.set_flt h5 (mask_trans rfl k))
  exact (State.SameOutside.foldl h6 (fun a9 s7 h8 => (State.intake_same h8 (mask_trans rfl k))))

theorem State.captAck_same (h : State.SameOutside m o s) (k : 4398046511104 ||| m = m) :
    State.SameOutside m o (State.captAck s b1) := by
  unfold State.captAck
  extract_lets -merge -useContext -underBinder x0
  have h1 : State.SameOutside m o x0 := (State.fset_same (State.fset_same h (mask_trans rfl k) (pageMask_flt (mask_trans rfl k))) (mask_trans rfl k) (pageMask_flt (mask_trans rfl k)))
  exact (State.SameOutside.ite (State.SameOutside.foldl h1 (fun a4 s2 h3 => (State.fset_same h3 (mask_trans rfl k) (pageMask_flt (mask_trans rfl k))))) h)

end Sys2Proof.Machine
end

