-- ==== Sys2Proof/Laws/Frame/Reel.lean ====
section
/-! SUPPORT. What every command leaves alone: one lemma for each function of Machine/Reel.lean that changes the state. -/

namespace Sys2Proof.Machine

variable {o s : State} {m : Nat}

theorem State.setReel_same (h : State.SameOutside m o s) (k : 524288 ||| m = m) :
    State.SameOutside m o (State.setReel s b1 b2) := by
  unfold State.setReel
  exact (State.SameOutside.set_reels h (mask_trans rfl k))

theorem State.setSram_same (h : State.SameOutside m o s) (k : 1048576 ||| m = m) :
    State.SameOutside m o (State.setSram s b1 b2) := by
  unfold State.setSram
  extract_lets -merge -useContext -underBinder x0
  subst x0
  exact (State.SameOutside.set_sram h (mask_trans rfl k))

theorem State.reelRewind_same (h : State.SameOutside m o s) (k : 4611686018427912192 ||| m = m) :
    State.SameOutside m o (State.reelRewind s b1) := by
  unfold State.reelRewind
  extract_lets -merge -useContext -underBinder x0
  exact (State.finc_same (State.setReel_same h (mask_trans rfl k)) (mask_trans rfl k) (pageMask_reel _ (mask_trans rfl k)))

theorem State.reelWord_same (h : State.SameOutside m o s) (k : 4611686020576444416 ||| m = m) :
    State.SameOutside m o (State.reelWord s b1 b2) := by
  unfold State.reelWord
  extract_lets -merge -useContext -underBinder x0 x1 x2 x3 x4 x5
  have h6 : State.SameOutside m o x1 := (State.reelRewind_same h (mask_trans rfl k))
  have h7 : State.SameOutside m o x3 := (State.finc_same (State.setReel_same h6 (mask_trans rfl k)) (mask_trans rfl k) (pageMask_reel _ (mask_trans rfl k)))
  have h8 : State.SameOutside m o x5 := (State.setSram_same h (mask_trans rfl k))
  exact (State.SameOutside.ite h (State.SameOutside.ite (State.evt_same h7 (mask_trans rfl k) (pageMask_reel _ (mask_trans rfl k))) (State.setReel_same h8 (mask_trans rfl k))))

theorem State.reelEnd_same (h : State.SameOutside m o s) (k : 4611686020576444416 ||| m = m) :
    State.SameOutside m o (State.reelEnd s b1) := by
  unfold State.reelEnd
  extract_lets -merge -useContext -underBinder x0 x1 x2
  have h3 : State.SameOutside m o x1 := (State.setSram_same h (mask_trans rfl k))
  have h4 : State.SameOutside m o x2 := (State.setReel_same h3 (mask_trans rfl k))
  exact (State.SameOutside.ite (State.setReel_same h (mask_trans rfl k)) (State.SameOutside.ite (State.usage_same h (mask_trans rfl k) (pageMask_reel _ (mask_trans rfl k))) (State.evt_same (State.finc_same h4 (mask_trans rfl k) (pageMask_reel _ (mask_trans rfl k))) (mask_trans rfl k) (pageMask_reel _ (mask_trans rfl k)))))

theorem State.reelAbort_same (h : State.SameOutside m o s) (k : 4611686018427912192 ||| m = m) :
    State.SameOutside m o (State.reelAbort s b1) := by
  unfold State.reelAbort
  extract_lets -merge -useContext -underBinder x0 x1
  have h2 : State.SameOutside m o x0 := (State.reelRewind_same h (mask_trans rfl k))
  exact (State.setReel_same h2 (mask_trans rfl k))

theorem State.reelPacket_same (h : State.SameOutside m o s) (k : 4611686020576444416 ||| m = m) :
    State.SameOutside m o (State.reelPacket s b1 b2) := by
  unfold State.reelPacket
  exact (State.reelEnd_same (State.SameOutside.foldl h (fun a2 s0 h1 => (State.reelWord_same h1 (mask_trans rfl k)))) (mask_trans rfl k))

theorem State.reelPush_same (h : State.SameOutside m o s) (k : 4611686020576444416 ||| m = m) :
    State.SameOutside m o (State.reelPush s b1 b2 b3) := by
  unfold State.reelPush
  extract_lets -merge -useContext -underBinder x0
  exact (State.SameOutside.ite (State.finc_same h (mask_trans rfl k) (pageMask_reel _ (mask_trans rfl k))) (State.SameOutside.ite h (State.SameOutside.ite (State.reelPacket_same h (mask_trans rfl k)) (State.setReel_same h (mask_trans rfl k)))))

theorem State.reelUnstall_same (h : State.SameOutside m o s) (k : 4611686020576444416 ||| m = m) :
    State.SameOutside m o (State.reelUnstall s b1) := by
  unfold State.reelUnstall
  extract_lets -merge -useContext -underBinder x0
  split
  · rename_i x1 x2
    exact h
  · rename_i x3 x4 x5 x6
    exact (State.SameOutside.ite (State.reelPacket_same (State.setReel_same h (mask_trans rfl k)) (mask_trans rfl k)) h)

theorem State.reelRead_same (h : State.SameOutside m o s) (k : 73786975197527456740 ||| m = m) :
    State.SameOutside m o (State.reelRead s b1).2 := by
  unfold State.reelRead
  extract_lets -merge -useContext -underBinder x0
  split
  · rename_i x1 x2
    exact (State.SameOutside.pr2 (State.usage_same h (mask_trans rfl k) (pageMask_reel _ (mask_trans rfl k))))
  · rename_i x3 x4 x5 x6
    extract_lets -merge -useContext -underBinder x7 x8 x9 x10
    have h11 : State.SameOutside m o x10 := (State.evt_same (State.setReel_same h (mask_trans rfl k)) (mask_trans rfl k) (pageMask_reel _ (mask_trans rfl k)))
    exact (State.SameOutside.ite2 (State.SameOutside.pr2 (State.usage_same h (mask_trans rfl k) (pageMask_reel _ (mask_trans rfl k)))) (State.SameOutside.ite2 (State.SameOutside.pr2 (State.SameOutside.ite h11 (State.report_same h11 (mask_trans rfl k)))) (State.SameOutside.pr2 (State.setReel_same h (mask_trans rfl k)))))

theorem State.reelMark_same (h : State.SameOutside m o s) (k : 524288 ||| m = m) :
    State.SameOutside m o (State.reelMark s b1) := by
  unfold State.reelMark
  extract_lets -merge -useContext -underBinder x0
  exact (State.setReel_same h (mask_trans rfl k))

theorem State.reelRewindRead_same (h : State.SameOutside m o s) (k : 524288 ||| m = m) :
    State.SameOutside m o (State.reelRewindRead s b1) := by
  unfold State.reelRewindRead
  extract_lets -merge -useContext -underBinder x0
  exact (State.setReel_same h (mask_trans rfl k))

theorem State.reelRelease_same (h : State.SameOutside m o s) (k : 524288 ||| m = m) :
    State.SameOutside m o (State.reelRelease s b1) := by
  unfold State.reelRelease
  extract_lets -merge -useContext -underBinder x0
  split
  · rename_i x1 x2
    exact h
  · rename_i x3 x4 x5 x6
    exact (State.setReel_same h (mask_trans rfl k))

theorem State.reelEmpty_same (h : State.SameOutside m o s) (k : 524288 ||| m = m) :
    State.SameOutside m o (State.reelEmpty s b1) := by
  unfold State.reelEmpty
  exact (State.setReel_same h (mask_trans rfl k))

theorem State.reelPtrReset_same (h : State.SameOutside m o s) (k : 73786975197527456740 ||| m = m) :
    State.SameOutside m o (State.reelPtrReset s b1) := by
  unfold State.reelPtrReset
  extract_lets -merge -useContext -underBinder x0
  have h1 : State.SameOutside m o x0 := (State.evt_same (State.finc_same (State.reelEmpty_same h (mask_trans rfl k)) (mask_trans rfl k) (pageMask_reel _ (mask_trans rfl k))) (mask_trans rfl k) (pageMask_reel _ (mask_trans rfl k)))
  exact (State.reportDrop_same h1 (mask_trans rfl k))

theorem State.setChk_same (h : State.SameOutside m o s) (k : 262144 ||| m = m) :
    State.SameOutside m o (State.setChk s b1 b2) := by
  unfold State.setChk
  exact (State.SameOutside.set_chks h (mask_trans rfl k))

theorem State.chkFeed_same (h : State.SameOutside m o s) (k : 2305843009213956096 ||| m = m) :
    State.SameOutside m o (State.chkFeed s b1 b2) := by
  unfold State.chkFeed
  exact (State.fadd_same (State.setChk_same h (mask_trans rfl k)) (mask_trans rfl k) (pageMask_chk _ (mask_trans rfl k)))

theorem State.chkSeal_same (h : State.SameOutside m o s) (k : 2305843011361439744 ||| m = m) :
    State.SameOutside m o (State.chkSeal s b1) := by
  unfold State.chkSeal
  extract_lets -merge -useContext -underBinder x0 x1 x2 x3 x4 x5 x6
  have h7 : State.SameOutside m o x4 := (State.fset_same (State.fset_same (State.fset_same h (mask_trans rfl k) (pageMask_chk _ (mask_trans rfl k))) (mask_trans rfl k) (pageMask_chk _ (mask_trans rfl k))) (mask_trans rfl k) (pageMask_chk _ (mask_trans rfl k)))
  have h8 : State.SameOutside m o x5 := (State.SameOutside.ite (State.SameOutside.ite (State.fset_same h7 (mask_trans rfl k) (pageMask_chk _ (mask_trans rfl k))) (State.evt_same (State.finc_same (State.fset_same h7 (mask_trans rfl k) (pageMask_chk _ (mask_trans rfl k))) (mask_trans rfl k) (pageMask_chk _ (mask_trans rfl k))) (mask_trans rfl k) (pageMask_chk _ (mask_trans rfl k)))) h7)
  have h9 : State.SameOutside m o x6 := (State.setChk_same (State.fset_same h8 (mask_trans rfl k) (pageMask_chk _ (mask_trans rfl k))) (mask_trans rfl k))
  exact (State.evt_same (State.finc_same (State.fset_same h9 (mask_trans rfl k) (pageMask_chk _ (mask_trans rfl k))) (mask_trans rfl k) (pageMask_chk _ (mask_trans rfl k))) (mask_trans rfl k) (pageMask_chk _ (mask_trans rfl k)))

theorem State.chkRestart_same (h : State.SameOutside m o s) (k : 2305843009213956096 ||| m = m) :
    State.SameOutside m o (State.chkRestart s b1) := by
  unfold State.chkRestart
  exact (State.fset_same (State.setChk_same h (mask_trans rfl k)) (mask_trans rfl k) (pageMask_chk _ (mask_trans rfl k)))

end Sys2Proof.Machine
end

