-- ==== Sys2Proof/Laws/Frame/Cmp.lean ====
section
/-! SUPPORT. What every command leaves alone: one lemma for each function of Machine/Cmp.lean that changes the state. -/

namespace Sys2Proof.Machine

variable {o s : State} {m : Nat}

theorem State.lyrApplied_same (h : State.SameOutside m o s) (k : 9007199254741248 ||| m = m) :
    State.SameOutside m o (State.lyrApplied s b1 b2) := by
  unfold State.lyrApplied
  extract_lets -merge -useContext -underBinder x0 x1 x2 x3 x4
  have h5 : State.SameOutside m o x1 := (State.SameOutside.ite (State.fset_same h (mask_trans rfl k) (pageMask_lyr _ (mask_trans rfl k))) h)
  exact (State.SameOutside.ite (State.SameOutside.set_cmp h5 (mask_trans rfl k)) h5)

theorem State.setReadRate_same (h : State.SameOutside m o s) (k : 4503599627370496 ||| m = m) :
    State.SameOutside m o (State.setReadRate s) := by
  unfold State.setReadRate
  exact (State.fset_same h (mask_trans rfl k) (pageMask_cmp (mask_trans rfl k)))

theorem State.latchWindows_same (h : State.SameOutside m o s) (k : 256 ||| m = m) :
    State.SameOutside m o (State.latchWindows s b1) := by
  unfold State.latchWindows
  extract_lets -merge -useContext -underBinder x0 x1 x2 x3
  exact (State.SameOutside.set_cmp h (mask_trans rfl k))

theorem State.selectOne_same (h : State.SameOutside m o s) (k : 9007199254741248 ||| m = m) :
    State.SameOutside m o (State.selectOne s b1 b2) := by
  unfold State.selectOne
  extract_lets -merge -useContext -underBinder x0 x1 x2 x3 x4 x5
  have h6 : State.SameOutside m o x5 := (State.SameOutside.set_cmp h (mask_trans rfl k))
  exact (State.fsetB_same (State.fset_same h6 (mask_trans rfl k) (pageMask_lyr _ (mask_trans rfl k))) (mask_trans rfl k) (pageMask_lyr _ (mask_trans rfl k)))

theorem State.selectWindows_same (h : State.SameOutside m o s) (k : 13510798882111744 ||| m = m) :
    State.SameOutside m o (State.selectWindows s) := by
  unfold State.selectWindows
  extract_lets -merge -useContext -underBinder x0 x1
  have h2 : State.SameOutside m o x0 := (State.SameOutside.foldl h (fun a5 s3 h4 => (State.SameOutside.foldl h4 (fun a8 s6 h7 => (State.selectOne_same h7 (mask_trans rfl k))))))
  exact (State.fset_same h2 (mask_trans rfl k) (pageMask_cmp (mask_trans rfl k)))

theorem State.retireFence_same (h : State.SameOutside m o s) (k : 13510801029595392 ||| m = m) :
    State.SameOutside m o (State.retireFence s b1 b2) := by
  unfold State.retireFence
  extract_lets -merge -useContext -underBinder x0 x1
  have h2 : State.SameOutside m o x0 := (State.SameOutside.foldl h (fun a5 s3 h4 => (by
    split
    · rename_i x6 x7
      exact h4
    · rename_i x8 x9 x10
      extract_lets -merge -useContext -underBinder x11 x12 x13
      have h14 : State.SameOutside m o x13 := (State.SameOutside.set_cmp h4 (mask_trans rfl k))
      exact (State.evt_same (State.fset_same (State.fwrap_same h14 (mask_trans rfl k) (pageMask_lyr _ (mask_trans rfl k))) (mask_trans rfl k) (pageMask_lyr _ (mask_trans rfl k))) (mask_trans rfl k) (pageMask_lyr _ (mask_trans rfl k))))))
  exact (State.SameOutside.ite h2 (State.evt_same (State.fset_same h2 (mask_trans rfl k) (pageMask_cmp (mask_trans rfl k))) (mask_trans rfl k) (pageMask_cmp (mask_trans rfl k))))

theorem State.earlyRelease_same (h : State.SameOutside m o s) (k : 73786975197527456740 ||| m = m) :
    State.SameOutside m o (State.earlyRelease s b1 b2 b3 b4 b5) := by
  unfold State.earlyRelease
  extract_lets -merge -useContext -underBinder x0 x1 x2 x3 x4 x5
  have h6 : State.SameOutside m o x1 := (State.SameOutside.set_cmp h (mask_trans rfl k))
  have h7 : State.SameOutside m o x3 := (State.SameOutside.set_cmp h6 (mask_trans rfl k))
  have h8 : State.SameOutside m o x4 := (State.SameOutside.ite h7 (State.fset_same (State.fset_same (State.fset_same (State.fset_same (State.fset_same h7 (mask_trans rfl k) (pageMask_cmp (mask_trans rfl k))) (mask_trans rfl k) (pageMask_cmp (mask_trans rfl k))) (mask_trans rfl k) (pageMask_cmp (mask_trans rfl k))) (mask_trans rfl k) (pageMask_cmp (mask_trans rfl k))) (mask_trans rfl k) (pageMask_cmp (mask_trans rfl k))))
  have h9 : State.SameOutside m o x5 := (State.evt_same (State.evt_same (State.finc_same h8 (mask_trans rfl k) (pageMask_cmp (mask_trans rfl k))) (mask_trans rfl k) (pageMask_cmp (mask_trans rfl k))) (mask_trans rfl k) (pageMask_lyr _ (mask_trans rfl k)))
  exact (State.SameOutside.ite h6 (State.reportUsage_same h9 (mask_trans rfl k)))

theorem State.leafError_same (h : State.SameOutside m o s) (k : 73786975197527456740 ||| m = m) :
    State.SameOutside m o (State.leafError s) := by
  unfold State.leafError
  exact (State.reportDrop_same (State.evt_same (State.finc_same h (mask_trans rfl k) (pageMask_cmp (mask_trans rfl k))) (mask_trans rfl k) (pageMask_cmp (mask_trans rfl k))) (mask_trans rfl k))

theorem State.cmpReceive_same (h : State.SameOutside m o s) (k : 73786975197527456740 ||| m = m) :
    State.SameOutside m o (State.cmpReceive s b1 b2) := by
  unfold State.cmpReceive
  extract_lets -merge -useContext -underBinder x0 x1 x2 x3
  have h4 : State.SameOutside m o x2 := (State.SameOutside.foldl h (fun a7 s5 h6 => (State.SameOutside.ite (State.earlyRelease_same h6 (mask_trans rfl k)) h6)))
  have h8 : State.SameOutside m o x3 := (State.SameOutside.ite (State.report_same (State.evt_same (State.finc_same h4 (mask_trans rfl k) (pageMask_cmp (mask_trans rfl k))) (mask_trans rfl k) (pageMask_cmp (mask_trans rfl k))) (mask_trans rfl k)) h4)
  exact (State.SameOutside.foldl h8 (fun a11 s9 h10 => (by
    extract_lets -merge -useContext -underBinder x12 x13
    exact (State.SameOutside.ite h10 (State.SameOutside.foldl h10 (fun a16 s14 h15 => (State.leafError_same h15 (mask_trans rfl k))))))))

theorem State.countUnderrun_same (h : State.SameOutside m o s) (k : 73786975197527456740 ||| m = m) :
    State.SameOutside m o (State.countUnderrun s) := by
  unfold State.countUnderrun
  extract_lets -merge -useContext -underBinder x0 x1 x2 x3
  have h4 : State.SameOutside m o x1 := (State.SameOutside.foldl h (fun a7 s5 h6 => (State.fadd_same h6 (mask_trans rfl k) (pageMask_cmp (mask_trans rfl k)))))
  have h8 : State.SameOutside m o x2 := (State.reportDrop_same (State.evt_same h4 (mask_trans rfl k) (pageMask_cmp (mask_trans rfl k))) (mask_trans rfl k))
  exact (State.SameOutside.ite h (State.SameOutside.set_time h8 (mask_trans rfl k)))

theorem State.keepLast_same (h : State.SameOutside m o s) (k : 256 ||| m = m) :
    State.SameOutside m o (State.keepLast s) := by
  unfold State.keepLast
  extract_lets -merge -useContext -underBinder x0 x1 x2
  exact (State.SameOutside.set_cmp h (mask_trans rfl k))

theorem State.monBurst_same (h : State.SameOutside m o s) (k : 2147483648 ||| m = m) :
    State.SameOutside m o (State.monBurst s b1 b2) := by
  unfold State.monBurst
  exact (State.emit_same h (mask_trans rfl k))

theorem State.monitorFrame_same (h : State.SameOutside m o s) (k : 4503601774854144 ||| m = m) :
    State.SameOutside m o (State.monitorFrame s b1) := by
  unfold State.monitorFrame
  extract_lets -merge -useContext -underBinder x0 x1 x2
  have h3 : State.SameOutside m o x2 := (State.SameOutside.foldl h (fun a6 s4 h5 => (State.monBurst_same h5 (mask_trans rfl k))))
  exact (State.SameOutside.ite h (State.SameOutside.ite h3 (State.evt_same (State.fadd_same h3 (mask_trans rfl k) (pageMask_cmp (mask_trans rfl k))) (mask_trans rfl k) (pageMask_cmp (mask_trans rfl k)))))

theorem State.dropFrameCapture_same (h : State.SameOutside m o s) (k : 4503601774854400 ||| m = m) :
    State.SameOutside m o (State.dropFrameCapture s) := by
  unfold State.dropFrameCapture
  split
  · rename_i x0 x1
    exact h
  · rename_i x2 x3 x4
    extract_lets -merge -useContext -underBinder x5 x6
    have h7 : State.SameOutside m o x6 := (State.SameOutside.set_cmp h (mask_trans rfl k))
    exact (State.evt_same (State.finc_same (State.fset_same h7 (mask_trans rfl k) (pageMask_cmp (mask_trans rfl k))) (mask_trans rfl k) (pageMask_cmp (mask_trans rfl k))) (mask_trans rfl k) (pageMask_cmp (mask_trans rfl k)))

theorem State.startCapture_same (h : State.SameOutside m o s) (k : 4503599627370752 ||| m = m) :
    State.SameOutside m o (State.startCapture s) := by
  unfold State.startCapture
  extract_lets -merge -useContext -underBinder x0 x1
  have h2 : State.SameOutside m o x1 := (State.SameOutside.set_cmp h (mask_trans rfl k))
  exact (State.SameOutside.ite (State.fset_same h2 (mask_trans rfl k) (pageMask_cmp (mask_trans rfl k))) h)

theorem State.capDone_same (h : State.SameOutside m o s) (k : 6755401588556032 ||| m = m) :
    State.SameOutside m o (State.capDone s) := by
  unfold State.capDone
  split
  · rename_i x0 x1
    exact h
  · rename_i x2 x3 x4
    extract_lets -merge -useContext -underBinder x5 x6 x7 x8 x9
    have h10 : State.SameOutside m o x7 := (State.SameOutside.foldl h (fun a13 s11 h12 => (State.putBlock_same h12 (mask_trans rfl k))))
    have h14 : State.SameOutside m o x9 := (State.SameOutside.set_cmp h10 (mask_trans rfl k))
    exact (State.evt_same (State.fset_same (State.fset_same h14 (mask_trans rfl k) (pageMask_cmp (mask_trans rfl k))) (mask_trans rfl k) (pageMask_cmp (mask_trans rfl k))) (mask_trans rfl k) (pageMask_cmp (mask_trans rfl k)))

theorem State.libWrite_same (h : State.SameOutside m o s) (k : 18014398509482240 ||| m = m) :
    State.SameOutside m o (State.libWrite s b1) := by
  unfold State.libWrite
  extract_lets -merge -useContext -underBinder x0 x1
  exact (State.fwrap_same (State.SameOutside.set_cmp h (mask_trans rfl k)) (mask_trans rfl k) (pageMask_ovl (mask_trans rfl k)))

theorem State.libRead_same (h : State.SameOutside m o s) (k : 18014398509481984 ||| m = m) :
    State.SameOutside m o (State.libRead s).2 := by
  unfold State.libRead
  exact (State.SameOutside.pr2 (State.fwrap_same h (mask_trans rfl k) (pageMask_ovl (mask_trans rfl k))))

theorem State.libSealDone_same (h : State.SameOutside m o s) (k : 18014400656965632 ||| m = m) :
    State.SameOutside m o (State.libSealDone s) := by
  unfold State.libSealDone
  extract_lets -merge -useContext -underBinder x0 x1 x2 x3
  have h4 : State.SameOutside m o x3 := (State.fset_same (State.fset_same (State.fset_same h (mask_trans rfl k) (pageMask_ovl (mask_trans rfl k))) (mask_trans rfl k) (pageMask_ovl (mask_trans rfl k))) (mask_trans rfl k) (pageMask_ovl (mask_trans rfl k)))
  exact (State.SameOutside.ite h (State.SameOutside.ite (State.cmdDone_same (State.evt_same h4 (mask_trans rfl k) (pageMask_ovl (mask_trans rfl k))) (mask_trans rfl k) (pageMask_ovl (mask_trans rfl k))) (State.cmdFail_same (State.evt_same (State.fset_same h (mask_trans rfl k) (pageMask_ovl (mask_trans rfl k))) (mask_trans rfl k) (pageMask_ovl (mask_trans rfl k))) (mask_trans rfl k) (pageMask_ovl (mask_trans rfl k)))))

theorem State.postOverlaySig_same (h : State.SameOutside m o s) (k : 18014398509481984 ||| m = m) :
    State.SameOutside m o (State.postOverlaySig s) := by
  unfold State.postOverlaySig
  extract_lets -merge -useContext -underBinder x0
  have h1 : State.SameOutside m o x0 := (State.fset_same (State.fset_same h (mask_trans rfl k) (pageMask_ovl (mask_trans rfl k))) (mask_trans rfl k) (pageMask_ovl (mask_trans rfl k)))
  exact (State.SameOutside.ite (State.fset_same (State.fset_same h1 (mask_trans rfl k) (pageMask_ovl (mask_trans rfl k))) (mask_trans rfl k) (pageMask_ovl (mask_trans rfl k))) (State.fset_same h1 (mask_trans rfl k) (pageMask_ovl (mask_trans rfl k))))

end Sys2Proof.Machine
end

