-- ==== Sys2Proof/Laws/Frame/Cad.lean ====
section
/-! SUPPORT. What every command leaves alone: one lemma for each function of Machine/Cad.lean that changes the state. -/

namespace Sys2Proof.Machine

variable {o s : State} {m : Nat}

theorem State.periodicTrigger_same (h : State.SameOutside m o s) (k : 512 ||| m = m) :
    State.SameOutside m o (State.periodicTrigger s b1) := by
  unfold State.periodicTrigger
  extract_lets -merge -useContext -underBinder x0
  exact (State.SameOutside.set_cad h (mask_trans rfl k))

theorem State.contentTrigger_same (h : State.SameOutside m o s) (k : 72057596185412096 ||| m = m) :
    State.SameOutside m o (State.contentTrigger s) := by
  unfold State.contentTrigger
  split
  · rename_i x0 x1 x2
    extract_lets -merge -useContext -underBinder x3 x4 x5
    have h6 : State.SameOutside m o x5 := (State.SameOutside.set_cad h (mask_trans rfl k))
    exact (State.SameOutside.ite (State.SameOutside.set_cad h (mask_trans rfl k)) (State.evt_same (State.fset_same h6 (mask_trans rfl k) (pageMask_cad (mask_trans rfl k))) (mask_trans rfl k) (pageMask_cad (mask_trans rfl k))))
  · rename_i x7 x8
    extract_lets -merge -useContext -underBinder x9
    exact (State.SameOutside.set_cad h (mask_trans rfl k))

theorem State.rebuildStart_same (h : State.SameOutside m o s) (k : 1224979098644775424 ||| m = m) :
    State.SameOutside m o (State.rebuildStart s) := by
  unfold State.rebuildStart
  extract_lets -merge -useContext -underBinder x0 x1 x2 x3 x4
  have h5 : State.SameOutside m o x3 := (State.SameOutside.set_cad h (mask_trans rfl k))
  have h6 : State.SameOutside m o x4 := (State.SameOutside.foldl h5 (fun a9 s7 h8 => (by
    extract_lets -merge -useContext -underBinder x10
    exact (State.fset_same (State.fset_same h8 (mask_trans rfl k) (pageMask_pe _ (mask_trans rfl k))) (mask_trans rfl k) (pageMask_pe _ (mask_trans rfl k))))))
  exact (State.SameOutside.ite (State.fset_same h6 (mask_trans rfl k) (pageMask_cad (mask_trans rfl k))) h)

theorem State.setCeiling_same (h : State.SameOutside m o s) (k : 72057594037927936 ||| m = m) :
    State.SameOutside m o (State.setCeiling s b1 b2) := by
  unfold State.setCeiling
  exact (State.fset_same h (mask_trans rfl k) (pageMask_cad (mask_trans rfl k)))

theorem State.setGains_same (h : State.SameOutside m o s) (k : 2814751948193792 ||| m = m) :
    State.SameOutside m o (State.setGains s b1) := by
  unfold State.setGains
  exact (State.SameOutside.foldl h (fun a2 s0 h1 => (by
    split
    · rename_i x3 x4
      exact h1
    · rename_i x5 x6 x7
      extract_lets -merge -useContext -underBinder x8
      exact (State.writeNat_same h1 (mask_trans rfl k)))))

theorem State.setWearFlags_same (h : State.SameOutside m o s) (k : 2814751948193792 ||| m = m) :
    State.SameOutside m o (State.setWearFlags s b1) := by
  unfold State.setWearFlags
  exact (State.SameOutside.foldl h (fun a2 s0 h1 => (by
    split
    · rename_i x3 x4
      exact h1
    · rename_i x5 x6 x7
      extract_lets -merge -useContext -underBinder x8 x9
      have h10 : State.SameOutside m o x9 := (State.writeNat_same h1 (mask_trans rfl k))
      exact (State.writeNat_same h10 (mask_trans rfl k)))))

theorem State.wearPhase_same (h : State.SameOutside m o s) (k : 74872345986121728 ||| m = m) :
    State.SameOutside m o (State.wearPhase s) := by
  unfold State.wearPhase
  extract_lets -merge -useContext -underBinder x0 x1 x2 x3 x4 x5 x6 x7 x8 x9 x10
  have h11 : State.SameOutside m o x1 := (State.setGains_same h (mask_trans rfl k))
  have h12 : State.SameOutside m o x4 := (State.SameOutside.foldl h11 (fun a15 s13 h14 => (State.setCeiling_same h14 (mask_trans rfl k))))
  have h16 : State.SameOutside m o x5 := (State.setWearFlags_same h12 (mask_trans rfl k))
  have h17 : State.SameOutside m o x8 := (State.fset_same h16 (mask_trans rfl k) (pageMask_cad (mask_trans rfl k)))
  have h18 : State.SameOutside m o x9 := (State.SameOutside.ite (State.evt_same h17 (mask_trans rfl k) (pageMask_cad (mask_trans rfl k))) h17)
  exact (State.SameOutside.ite (State.evt_same h18 (mask_trans rfl k) (pageMask_cad (mask_trans rfl k))) h18)

theorem State.wearPhaseDone_same (h : State.SameOutside m o s) (k : 74872345986122240 ||| m = m) :
    State.SameOutside m o (State.wearPhaseDone s) := by
  unfold State.wearPhaseDone
  split
  · rename_i x0 x1 x2
    extract_lets -merge -useContext -underBinder x3 x4
    have h5 : State.SameOutside m o x3 := (State.wearPhase_same h (mask_trans rfl k))
    exact (State.SameOutside.ite (State.SameOutside.set_cad h5 (mask_trans rfl k)) h)
  · rename_i x6 x7
    exact h

theorem State.lfsrRun_same (h : State.SameOutside m o s) (k : 512 ||| m = m) :
    State.SameOutside m o (State.lfsrRun s b1) := by
  unfold State.lfsrRun
  extract_lets -merge -useContext -underBinder x0
  exact (State.SameOutside.set_cad h (mask_trans rfl k))

theorem State.doseAdd_same (h : State.SameOutside m o s) (k : 2814751948193792 ||| m = m) :
    State.SameOutside m o (State.doseAdd s b1 b2 b3) := by
  unfold State.doseAdd
  extract_lets -merge -useContext -underBinder x0 x1 x2
  exact (State.writeNat_same h (mask_trans rfl k))

theorem State.doseOne_same (h : State.SameOutside m o s) (k : 2814751948194304 ||| m = m) :
    State.SameOutside m o (State.doseOne s b1) := by
  unfold State.doseOne
  extract_lets -merge -useContext -underBinder x0 x1
  have h2 : State.SameOutside m o x1 := (State.lfsrRun_same h (mask_trans rfl k))
  exact (State.SameOutside.ite h2 (by
    split
    · rename_i x3 x4
      exact h2
    · rename_i x5 x6 x7
      exact (State.doseAdd_same h2 (mask_trans rfl k))))

theorem State.doseBoundary_same (h : State.SameOutside m o s) (k : 2814751948194308 ||| m = m) :
    State.SameOutside m o (State.doseBoundary s) := by
  unfold State.doseBoundary
  extract_lets -merge -useContext -underBinder x0 x1 x2 x3 x4 x5 x6
  have h7 : State.SameOutside m o x0 := (State.SameOutside.foldl h (fun a10 s8 h9 => (State.doseOne_same h9 (mask_trans rfl k))))
  have h11 : State.SameOutside m o x2 := (State.SameOutside.ite (State.SameOutside.set_cad h7 (mask_trans rfl k)) h)
  have h12 : State.SameOutside m o x4 := (State.SameOutside.ite (by
    split
    · rename_i x13 x14 x15 x16
      have h17 : State.SameOutside m o x15 := State.SameOutside.of_eq2 x16 (State.fresh_same h11 (mask_trans rfl k))
      extract_lets -merge -useContext -underBinder x18
      exact (State.SameOutside.set_cad h17 (mask_trans rfl k))) h11)
  exact (State.SameOutside.ite h11 (State.SameOutside.ite (State.SameOutside.set_cad h12 (mask_trans rfl k)) h12))

theorem State.rebuildRecord_same (h : State.SameOutside m o s) (k : 74872345986121728 ||| m = m) :
    State.SameOutside m o (State.rebuildRecord s b1 b2 b3 b4 b5) := by
  unfold State.rebuildRecord
  extract_lets -merge -useContext -underBinder x0 x1 x2
  split
  · rename_i x3 x4
    exact (State.writeBytes_same h (mask_trans rfl k))
  · rename_i x5 x6 x7
    extract_lets -merge -useContext -underBinder x8 x9 x10 x11
    exact (State.writeNat_same (State.fadd_same h (mask_trans rfl k) (pageMask_cad (mask_trans rfl k))) (mask_trans rfl k))

theorem State.rebuildDone_same (h : State.SameOutside m o s) (k : 74872345986122240 ||| m = m) :
    State.SameOutside m o (State.rebuildDone s) := by
  unfold State.rebuildDone
  split
  · rename_i x0 x1 x2
    extract_lets -merge -useContext -underBinder x3 x4 x5
    have h6 : State.SameOutside m o x3 := (State.SameOutside.foldl h (fun a9 s7 h8 => (State.SameOutside.foldl h8 (fun a12 s10 h11 => (State.rebuildRecord_same h11 (mask_trans rfl k))))))
    have h13 : State.SameOutside m o x5 := (State.SameOutside.set_cad h6 (mask_trans rfl k))
    exact (State.SameOutside.ite (State.mirrorActive_same h13 (mask_trans rfl k)) h)
  · rename_i x14 x15
    exact h

theorem State.effSwitch_same (h : State.SameOutside m o s) (k : 1224979100792258688 ||| m = m) :
    State.SameOutside m o (State.effSwitch s b1) := by
  unfold State.effSwitch
  extract_lets -merge -useContext -underBinder x0 x1 x2 x3
  have h4 : State.SameOutside m o x1 := (State.SameOutside.foldl h (fun a7 s5 h6 => (State.fset_same (State.fset_same (State.fset_same h6 (mask_trans rfl k) (pageMask_pe _ (mask_trans rfl k))) (mask_trans rfl k) (pageMask_pe _ (mask_trans rfl k))) (mask_trans rfl k) (pageMask_pe _ (mask_trans rfl k)))))
  have h8 : State.SameOutside m o x2 := (State.evt_same (State.fset_same h4 (mask_trans rfl k) (pageMask_cad (mask_trans rfl k))) (mask_trans rfl k) (pageMask_cad (mask_trans rfl k)))
  exact (State.SameOutside.set_time h8 (mask_trans rfl k))

theorem State.exchangeUsers_same (h : State.SameOutside m o s) (k : 72057596185412096 ||| m = m) :
    State.SameOutside m o (State.exchangeUsers s b1) := by
  unfold State.exchangeUsers
  extract_lets -merge -useContext -underBinder x0 x1 x2
  have h3 : State.SameOutside m o x0 := (State.fset_same h (mask_trans rfl k) (pageMask_cad (mask_trans rfl k)))
  have h4 : State.SameOutside m o x2 := (State.SameOutside.set_cad h3 (mask_trans rfl k))
  exact (State.SameOutside.ite (State.cmdDone_same (State.fset_same h4 (mask_trans rfl k) (pageMask_cad (mask_trans rfl k))) (mask_trans rfl k) (pageMask_cad (mask_trans rfl k))) h)

theorem State.rebuildBoundary_same (h : State.SameOutside m o s) (k : 1224979100792259200 ||| m = m) :
    State.SameOutside m o (State.rebuildBoundary s) := by
  unfold State.rebuildBoundary
  split
  · rename_i x0 x1 x2
    split
    · rename_i x3 x4 x5
      extract_lets -merge -useContext -underBinder x6 x7
      have h8 : State.SameOutside m o x7 := (State.SameOutside.set_cad h (mask_trans rfl k))
      exact (State.SameOutside.ite (State.exchangeUsers_same (State.effSwitch_same (State.fset_same h8 (mask_trans rfl k) (pageMask_cad (mask_trans rfl k))) (mask_trans rfl k)) (mask_trans rfl k)) h)
    · rename_i x9 x10
      exact h
  · rename_i x11 x12
    exact h

theorem State.sinkTemperature_same (h : State.SameOutside m o s) (k : 72057594037928448 ||| m = m) :
    State.SameOutside m o (State.sinkTemperature s b1 b2 b3) := by
  unfold State.sinkTemperature
  extract_lets -merge -useContext -underBinder x0 x1 x2
  have h3 : State.SameOutside m o x1 := (State.SameOutside.set_cad h (mask_trans rfl k))
  split
  · rename_i x4 x5
    exact h3
  · rename_i x6 x7 x8
    extract_lets -merge -useContext -underBinder x9 x10 x11 x12
    have h13 : State.SameOutside m o x10 := (State.SameOutside.set_cad h3 (mask_trans rfl k))
    have h14 : State.SameOutside m o x11 := (State.fset_same h13 (mask_trans rfl k) (pageMask_cad (mask_trans rfl k)))
    exact (State.SameOutside.ite (State.periodicTrigger_same h14 (mask_trans rfl k)) h14)

theorem State.tempStale_same (h : State.SameOutside m o s) (k : 72057596185411714 ||| m = m) :
    State.SameOutside m o (State.tempStale s b1) := by
  unfold State.tempStale
  split
  · rename_i x0 x1
    exact h
  · rename_i x2 x3 x4
    extract_lets -merge -useContext -underBinder x5
    have h6 : State.SameOutside m o x5 := (State.advanceTo_same h (mask_trans rfl k))
    exact (State.SameOutside.ite h6 (State.evt_same (State.fset_same h6 (mask_trans rfl k) (pageMask_cad (mask_trans rfl k))) (mask_trans rfl k) (pageMask_cad (mask_trans rfl k))))

theorem State.storeRecords_same (h : State.SameOutside m o s) (k : 2814751948193792 ||| m = m) :
    State.SameOutside m o (State.storeRecords s b1 b2 b3) := by
  unfold State.storeRecords
  exact (State.SameOutside.foldl h (fun a2 s0 h1 => (by
    split
    · rename_i x3 x4 x5
      exact (State.writeNat_same h1 (mask_trans rfl k))
    · rename_i x6 x7 x8
      exact h1)))

theorem State.copyEnd_same (h : State.SameOutside m o s) (k : 74872345986121728 ||| m = m) :
    State.SameOutside m o (State.copyEnd s b1 b2 b3 b4).1 := by
  unfold State.copyEnd
  split
  · rename_i x0 x1 x2 x3
    exact (State.SameOutside.pr1 (State.fset_same (State.fset_same h (mask_trans rfl k) (pageMask_cad (mask_trans rfl k))) (mask_trans rfl k) (pageMask_cad (mask_trans rfl k))))
  · rename_i x4
    exact (State.SameOutside.pr1 (State.storeRecords_same h (mask_trans rfl k)))

theorem State.copyRecords_same (h : State.SameOutside m o s) (k : 74872345986121728 ||| m = m) :
    State.SameOutside m o (State.copyRecords s b1 b2 b3).1 := by
  unfold State.copyRecords
  exact (State.copyEnd_same h (mask_trans rfl k))

theorem State.cadEnd_same (h : State.SameOutside m o s) (k : 72057596185411584 ||| m = m) :
    State.SameOutside m o (State.cadEnd s b1) := by
  unfold State.cadEnd
  split
  · rename_i x0 x1
    exact (State.cmdFail_same h (mask_trans rfl k) (pageMask_cad (mask_trans rfl k)))
  · rename_i x2
    exact (State.cmdDone_same h (mask_trans rfl k) (pageMask_cad (mask_trans rfl k)))

theorem State.writeUserDone_same (h : State.SameOutside m o s) (k : 74872345986122240 ||| m = m) :
    State.SameOutside m o (State.writeUserDone s) := by
  unfold State.writeUserDone
  split
  · rename_i x0 x1 x2
    extract_lets -merge -useContext -underBinder x3 x4 x5 x6
    subst x3
    have h7 : State.SameOutside m o x4 := (State.copyRecords_same h (mask_trans rfl k))
    have h8 : State.SameOutside m o x6 := (State.SameOutside.set_cad h7 (mask_trans rfl k))
    exact (State.cadEnd_same (State.fset_same h8 (mask_trans rfl k) (pageMask_cad (mask_trans rfl k))) (mask_trans rfl k))
  · rename_i x9 x10
    exact h

theorem State.applyUser_same (h : State.SameOutside m o s) (k : 72057596185412096 ||| m = m) :
    State.SameOutside m o (State.applyUser s) := by
  unfold State.applyUser
  extract_lets -merge -useContext -underBinder x0
  exact (State.contentTrigger_same (State.SameOutside.set_cad h (mask_trans rfl k)) (mask_trans rfl k))

theorem State.copyCaddy_same (h : State.SameOutside m o s) (k : 2814751948193792 ||| m = m) :
    State.SameOutside m o (State.copyCaddy s b1 b2) := by
  unfold State.copyCaddy
  extract_lets -merge -useContext -underBinder x0
  exact (State.SameOutside.foldl h (fun a3 s1 h2 => (by
    extract_lets -merge -useContext -underBinder x4
    exact (State.admitWrite_same h2 (mask_trans rfl k)))))

theorem State.userCopyDone_same (h : State.SameOutside m o s) (k : 74872345986122240 ||| m = m) :
    State.SameOutside m o (State.userCopyDone s) := by
  unfold State.userCopyDone
  extract_lets -merge -useContext -underBinder x0
  split
  · rename_i x1 x2
    extract_lets -merge -useContext -underBinder x3 x4
    have h5 : State.SameOutside m o x3 := (State.copyCaddy_same h (mask_trans rfl k))
    exact (State.applyUser_same (State.fset_same (State.SameOutside.set_cad h5 (mask_trans rfl k)) (mask_trans rfl k) (pageMask_cad (mask_trans rfl k))) (mask_trans rfl k))
  · rename_i x6 x7
    extract_lets -merge -useContext -underBinder x8 x9
    have h10 : State.SameOutside m o x8 := (State.copyCaddy_same h (mask_trans rfl k))
    exact (State.fset_same (State.SameOutside.set_cad h10 (mask_trans rfl k)) (mask_trans rfl k) (pageMask_cad (mask_trans rfl k)))
  · rename_i x11 x12 x13
    exact h

theorem State.copyBins_same (h : State.SameOutside m o s) (k : 2814751948193792 ||| m = m) :
    State.SameOutside m o (State.copyBins s) := by
  unfold State.copyBins
  exact (State.SameOutside.foldl h (fun a2 s0 h1 => (by
    split
    · rename_i x3 x4 x5 x6 x7 x8
      exact (State.writeNat_same h1 (mask_trans rfl k))
    · rename_i x9 x10 x11 x12 x13
      exact (State.writeNat_same h1 (mask_trans rfl k))
    · rename_i x14 x15 x16
      exact h1)))

theorem State.factoryChanged_same (h : State.SameOutside m o s) (k : 72057596185412096 ||| m = m) :
    State.SameOutside m o (State.factoryChanged s b1) := by
  unfold State.factoryChanged
  split
  · rename_i x0 x1
    exact (State.cmdFail_same h (mask_trans rfl k) (pageMask_cad (mask_trans rfl k)))
  · rename_i x2
    extract_lets -merge -useContext -underBinder x3 x4
    have h5 : State.SameOutside m o x4 := (State.SameOutside.set_cad h (mask_trans rfl k))
    exact (State.cmdDone_same (State.SameOutside.ite (State.contentTrigger_same h5 (mask_trans rfl k)) h5) (mask_trans rfl k) (pageMask_cad (mask_trans rfl k)))

theorem State.buildFactoryDone_same (h : State.SameOutside m o s) (k : 74872345986122240 ||| m = m) :
    State.SameOutside m o (State.buildFactoryDone s) := by
  unfold State.buildFactoryDone
  exact (State.SameOutside.ite h (by
    split
    · rename_i x0 x1
      exact (State.cmdFail_same h (mask_trans rfl k) (pageMask_cad (mask_trans rfl k)))
    · rename_i x2 x3 x4
      extract_lets -merge -useContext -underBinder x5
      subst x5
      exact (State.factoryChanged_same (State.SameOutside.ite (State.copyBins_same (State.copyRecords_same h (mask_trans rfl k)) (mask_trans rfl k)) (State.copyRecords_same h (mask_trans rfl k))) (mask_trans rfl k))))

theorem State.loadFactoryDone_same (h : State.SameOutside m o s) (k : 74872345986122240 ||| m = m) :
    State.SameOutside m o (State.loadFactoryDone s) := by
  unfold State.loadFactoryDone
  extract_lets -merge -useContext -underBinder x0
  subst x0
  exact (State.SameOutside.ite h (State.factoryChanged_same (State.copyRecords_same h (mask_trans rfl k)) (mask_trans rfl k)))

theorem State.sealFactory_same (h : State.SameOutside m o s) (k : 72057594037928448 ||| m = m) :
    State.SameOutside m o (State.sealFactory s) := by
  unfold State.sealFactory
  extract_lets -merge -useContext -underBinder x0 x1
  exact (State.fset_same (State.SameOutside.set_cad h (mask_trans rfl k)) (mask_trans rfl k) (pageMask_cad (mask_trans rfl k)))

theorem State.checkFactory_same (h : State.SameOutside m o s) (k : 72057596185412096 ||| m = m) :
    State.SameOutside m o (State.checkFactory s) := by
  unfold State.checkFactory
  extract_lets -merge -useContext -underBinder x0 x1
  exact (State.SameOutside.ite h (State.SameOutside.ite (State.fset_same (State.SameOutside.set_cad h (mask_trans rfl k)) (mask_trans rfl k) (pageMask_cad (mask_trans rfl k))) (State.evt_same (State.fset_same (State.SameOutside.set_cad h (mask_trans rfl k)) (mask_trans rfl k) (pageMask_cad (mask_trans rfl k))) (mask_trans rfl k) (pageMask_cad (mask_trans rfl k)))))

theorem State.doseReset_same (h : State.SameOutside m o s) (k : 74872345986122240 ||| m = m) :
    State.SameOutside m o (State.doseReset s b1) := by
  unfold State.doseReset
  extract_lets -merge -useContext -underBinder x0
  have h1 : State.SameOutside m o x0 := (State.SameOutside.foldl h (fun a4 s2 h3 => (by
    split
    · rename_i x5 x6 x7
      exact (State.writeNat_same h3 (mask_trans rfl k))
    · rename_i x8 x9
      exact (State.writeNat_same h3 (mask_trans rfl k)))))
  exact (State.contentTrigger_same h1 (mask_trans rfl k))

theorem State.cadApplied_same (h : State.SameOutside m o s) (k : 72057596185412096 ||| m = m) :
    State.SameOutside m o (State.cadApplied s b1) := by
  unfold State.cadApplied
  extract_lets -merge -useContext -underBinder x0 x1
  exact (State.SameOutside.ite (State.contentTrigger_same h (mask_trans rfl k)) h)

end Sys2Proof.Machine
end

