-- ==== Sys2Proof/Laws/Frame/Matte.lean ====
section
/-! SUPPORT. What every command leaves alone: one lemma for each function of Machine/Matte.lean that changes the state. -/

namespace Sys2Proof.Machine

variable {o s : State} {m : Nat}

theorem State.setVerified_same (h : State.SameOutside m o s) (k : 36028797018963968 ||| m = m) :
    State.SameOutside m o (State.setVerified s b1 b2) := by
  unfold State.setVerified
  exact (State.SameOutside.ite (State.fsetB_same h (mask_trans rfl k) (pageMask_matte (mask_trans rfl k))) (State.fsetB_same h (mask_trans rfl k) (pageMask_matte (mask_trans rfl k))))

theorem State.unverify_same (h : State.SameOutside m o s) (k : 36028799166447616 ||| m = m) :
    State.SameOutside m o (State.unverify s b1) := by
  unfold State.unverify
  exact (State.SameOutside.ite (State.evt_same (State.setVerified_same h (mask_trans rfl k)) (mask_trans rfl k) (pageMask_matte (mask_trans rfl k))) h)

theorem State.matteApplied_same (h : State.SameOutside m o s) (k : 36028799166447616 ||| m = m) :
    State.SameOutside m o (State.matteApplied s b1) := by
  unfold State.matteApplied
  exact (State.SameOutside.ite (State.fset_same (State.unverify_same (State.unverify_same h (mask_trans rfl k)) (mask_trans rfl k)) (mask_trans rfl k) (pageMask_matte (mask_trans rfl k))) (State.SameOutside.ite (State.fset_same h (mask_trans rfl k) (pageMask_matte (mask_trans rfl k))) h))

theorem State.sealWrite_same (h : State.SameOutside m o s) (k : 36028799166447616 ||| m = m) :
    State.SameOutside m o (State.sealWrite s b1 b2) := by
  unfold State.sealWrite
  exact (State.unverify_same (State.fset_same h (mask_trans rfl k) (pageMask_matte (mask_trans rfl k))) (mask_trans rfl k))

theorem State.verifyDone_same (h : State.SameOutside m o s) (k : 36591749153424384 ||| m = m) :
    State.SameOutside m o (State.verifyDone s) := by
  unfold State.verifyDone
  split
  · rename_i x0 x1 x2
    extract_lets -merge -useContext -underBinder x3 x4
    have h5 : State.SameOutside m o x4 := (State.fset_same h (mask_trans rfl k) (pageMask_matte (mask_trans rfl k)))
    exact (State.SameOutside.ite h (by
    split
    · rename_i x6 x7 x8 x9
      exact (State.cmdFail_same (State.fset_same (State.setVerified_same h5 (mask_trans rfl k)) (mask_trans rfl k) (pageMask_matte (mask_trans rfl k))) (mask_trans rfl k) (pageMask_matte (mask_trans rfl k)))
    · rename_i x10 x11
      extract_lets -merge -useContext -underBinder x12 x13 x14
      have h15 : State.SameOutside m o x14 := (State.SameOutside.set_matte h5 (mask_trans rfl k))
      exact (State.mirrorActive_same (State.cmdDone_same (State.setVerified_same h15 (mask_trans rfl k)) (mask_trans rfl k) (pageMask_matte (mask_trans rfl k))) (mask_trans rfl k))))
  · rename_i x16 x17
    exact h

theorem State.matteBoundary_same (h : State.SameOutside m o s) (k : 36028797021061120 ||| m = m) :
    State.SameOutside m o (State.matteBoundary s) := by
  unfold State.matteBoundary
  extract_lets -merge -useContext -underBinder x0 x1 x2 x3 x4
  have h5 : State.SameOutside m o x1 := (State.SameOutside.foldl h (fun a8 s6 h7 => (State.fset_same h7 (mask_trans rfl k) (pageMask_matte (mask_trans rfl k)))))
  subst x4
  exact (State.SameOutside.set_safe h5 (mask_trans rfl k))

theorem State.borrowBoundary_same (h : State.SameOutside m o s) (k : 36028799166448640 ||| m = m) :
    State.SameOutside m o (State.borrowBoundary s) := by
  unfold State.borrowBoundary
  extract_lets -merge -useContext -underBinder x0 x1 x2 x3 x4
  have h5 : State.SameOutside m o x2 := (State.fset_same h (mask_trans rfl k) (pageMask_matte (mask_trans rfl k)))
  have h6 : State.SameOutside m o x4 := (State.SameOutside.set_matte h5 (mask_trans rfl k))
  exact (State.SameOutside.ite (State.SameOutside.ite (State.evt_same h6 (mask_trans rfl k) (pageMask_matte (mask_trans rfl k))) h6) h)

theorem State.freeze_same (h : State.SameOutside m o s) (k : 73786975197527456740 ||| m = m) :
    State.SameOutside m o (State.freeze s b1) := by
  unfold State.freeze
  extract_lets -merge -useContext -underBinder x0 x1
  have h2 : State.SameOutside m o x0 := (State.fset_same h (mask_trans rfl k) (pageMask_time (mask_trans rfl k)))
  have h3 : State.SameOutside m o x1 := (State.evt_same (State.finc_same h2 (mask_trans rfl k) (pageMask_time (mask_trans rfl k))) (mask_trans rfl k) (pageMask_time (mask_trans rfl k)))
  exact (State.report_same h3 (mask_trans rfl k))

theorem State.postSignature_same (h : State.SameOutside m o s) (k : 73786975197527456740 ||| m = m) :
    State.SameOutside m o (State.postSignature s b1) := by
  unfold State.postSignature
  extract_lets -merge -useContext -underBinder x0 x1 x2 x3 x4 x5 x6 x7
  have h8 : State.SameOutside m o x4 := (State.fset_same (State.fset_same h (mask_trans rfl k) (pageMask_pe _ (mask_trans rfl k))) (mask_trans rfl k) (pageMask_pe _ (mask_trans rfl k)))
  have h9 : State.SameOutside m o x6 := (State.SameOutside.set_time h8 (mask_trans rfl k))
  exact (State.SameOutside.ite (State.freeze_same h9 (mask_trans rfl k)) h9)

theorem State.postReadSig_same (h : State.SameOutside m o s) (k : 36028797018963968 ||| m = m) :
    State.SameOutside m o (State.postReadSig s b1) := by
  unfold State.postReadSig
  split
  · rename_i x0 x1 x2 x3
    extract_lets -merge -useContext -underBinder x4 x5 x6
    have h7 : State.SameOutside m o x4 := (State.fset_same h (mask_trans rfl k) (pageMask_matte (mask_trans rfl k)))
    exact (State.fset_same (State.fset_same h7 (mask_trans rfl k) (pageMask_matte (mask_trans rfl k))) (mask_trans rfl k) (pageMask_matte (mask_trans rfl k)))

theorem State.peTileDone_same (h : State.SameOutside m o s) (k : 73786975197527474148 ||| m = m) :
    State.SameOutside m o (State.peTileDone s b1 b2) := by
  unfold State.peTileDone
  extract_lets -merge -useContext -underBinder x0 x1 x2 x3 x4 x5 x6 x7 x8 x9
  have h10 : State.SameOutside m o x1 := (State.SameOutside.set_cmp h (mask_trans rfl k))
  have h11 : State.SameOutside m o x3 := (State.SameOutside.set_matte h10 (mask_trans rfl k))
  have h12 : State.SameOutside m o x4 := (State.postReadSig_same (State.postSignature_same (State.peTile_same h11 (mask_trans rfl k)) (mask_trans rfl k)) (mask_trans rfl k))
  have h13 : State.SameOutside m o x6 := (State.SameOutside.set_cad h12 (mask_trans rfl k))
  have h14 : State.SameOutside m o x8 := (State.SameOutside.ite (State.evt_same h13 (mask_trans rfl k) (pageMask_pe _ (mask_trans rfl k))) h13)
  subst x9
  exact (State.SameOutside.ite h (State.SameOutside.ite (State.SameOutside.set_safe h14 (mask_trans rfl k)) h13))

theorem State.signatureDeadline_same (h : State.SameOutside m o s) (k : 73786975197527456742 ||| m = m) :
    State.SameOutside m o (State.signatureDeadline s b1) := by
  unfold State.signatureDeadline
  exact (State.SameOutside.ite (State.freeze_same (State.advanceTo_same h (mask_trans rfl k)) (mask_trans rfl k)) h)

end Sys2Proof.Machine
end

