-- ==== Sys2Proof/Laws/Frame/Mem.lean ====
section
/-! SUPPORT. What every command leaves alone: one lemma for each function of Machine/Mem.lean that changes the state. -/

namespace Sys2Proof.Machine

variable {o s : State} {m : Nat}

theorem State.setTrained_same (h : State.SameOutside m o s) (k : 2251799813685248 ||| m = m) :
    State.SameOutside m o (State.setTrained s b1 b2) := by
  unfold State.setTrained
  exact (State.SameOutside.ite (State.fsetB_same h (mask_trans rfl k) (pageMask_mem (mask_trans rfl k))) (State.fsetB_same h (mask_trans rfl k) (pageMask_mem (mask_trans rfl k))))

theorem State.calcSet_same (h : State.SameOutside m o s) (k : 2251799813685248 ||| m = m) :
    State.SameOutside m o (State.calcSet s b1) := by
  unfold State.calcSet
  extract_lets -merge -useContext -underBinder x0 x1
  exact (State.fset_same (State.fset_same h (mask_trans rfl k) (pageMask_mem (mask_trans rfl k))) (mask_trans rfl k) (pageMask_mem (mask_trans rfl k)))

theorem State.memApplied_same (h : State.SameOutside m o s) (k : 2251799813685248 ||| m = m) :
    State.SameOutside m o (State.memApplied s b1) := by
  unfold State.memApplied
  extract_lets -merge -useContext -underBinder x0
  have h1 : State.SameOutside m o x0 := (State.SameOutside.foldl h (fun a4 s2 h3 => (State.SameOutside.ite (State.setTrained_same h3 (mask_trans rfl k)) h3)))
  exact (State.calcSet_same (State.calcSet_same h1 (mask_trans rfl k)) (mask_trans rfl k))

theorem State.memOffline_same (h : State.SameOutside m o s) (k : 73786975197527456740 ||| m = m) :
    State.SameOutside m o (State.memOffline s b1 b2) := by
  unfold State.memOffline
  extract_lets -merge -useContext -underBinder x0
  have h1 : State.SameOutside m o x0 := (State.finc_same h (mask_trans rfl k) (pageMask_mem (mask_trans rfl k)))
  exact (State.SameOutside.ite (State.report_same h1 (mask_trans rfl k)) h1)

theorem State.memRange_same (h : State.SameOutside m o s) (k : 73786975197527456740 ||| m = m) :
    State.SameOutside m o (State.memRange s b1 b2) := by
  unfold State.memRange
  exact (State.report_same (State.evt_same (State.finc_same h (mask_trans rfl k) (pageMask_mem (mask_trans rfl k))) (mask_trans rfl k) (pageMask_mem (mask_trans rfl k))) (mask_trans rfl k))

theorem State.queueRepair_same (h : State.SameOutside m o s) (k : 2251799813718016 ||| m = m) :
    State.SameOutside m o (State.queueRepair s b1) := by
  unfold State.queueRepair
  extract_lets -merge -useContext -underBinder x0 x1
  exact (State.SameOutside.ite (State.fset_same (State.SameOutside.set_mem h (mask_trans rfl k)) (mask_trans rfl k) (pageMask_mem (mask_trans rfl k))) h)

theorem State.memDecode_same (h : State.SameOutside m o s) (k : 73786975197527456740 ||| m = m) :
    State.SameOutside m o (State.memDecode s b1 b2) := by
  unfold State.memDecode
  split
  · rename_i x0 x1 x2 x3
    exact h
  · rename_i x4 x5 x6 x7 x8
    exact (State.queueRepair_same (State.report_same (State.finc_same h (mask_trans rfl k) (pageMask_mem (mask_trans rfl k))) (mask_trans rfl k)) (mask_trans rfl k))
  · rename_i x9 x10 x11
    exact (State.report_same (State.evt_same (State.finc_same h (mask_trans rfl k) (pageMask_mem (mask_trans rfl k))) (mask_trans rfl k) (pageMask_mem (mask_trans rfl k))) (mask_trans rfl k))

theorem State.flip_same (h : State.SameOutside m o s) (k : 16384 ||| m = m) :
    State.SameOutside m o (State.flip s b1 b2) := by
  unfold State.flip
  extract_lets -merge -useContext -underBinder x0
  exact (State.SameOutside.set_dram h (mask_trans rfl k))

theorem State.touchRow_same (h : State.SameOutside m o s) (k : 32768 ||| m = m) :
    State.SameOutside m o (State.touchRow s b1) := by
  unfold State.touchRow
  extract_lets -merge -useContext -underBinder x0 x1 x2 x3 x4 x5
  exact (State.SameOutside.set_mem h (mask_trans rfl k))

theorem State.peDamage_same (h : State.SameOutside m o s) (k : 73786975197527456740 ||| m = m) :
    State.SameOutside m o (State.peDamage s b1 b2) := by
  unfold State.peDamage
  extract_lets -merge -useContext -underBinder x0 x1 x2 x3 x4
  exact (State.SameOutside.ite (State.SameOutside.ite (State.report_same (State.evt_same (State.finc_same h (mask_trans rfl k) (pageMask_matte (mask_trans rfl k))) (mask_trans rfl k) (pageMask_matte (mask_trans rfl k))) (mask_trans rfl k)) h) (State.SameOutside.ite (State.SameOutside.ite (State.report_same (State.finc_same h (mask_trans rfl k) (pageMask_pe _ (mask_trans rfl k))) (mask_trans rfl k)) h) (State.SameOutside.ite (State.SameOutside.ite (State.report_same (State.evt_same (State.finc_same h (mask_trans rfl k) (pageMask_pe _ (mask_trans rfl k))) (mask_trans rfl k) (pageMask_pe _ (mask_trans rfl k))) (mask_trans rfl k)) h) h)))

theorem State.cadDamage_same (h : State.SameOutside m o s) (k : 73786975197527456740 ||| m = m) :
    State.SameOutside m o (State.cadDamage s b1) := by
  unfold State.cadDamage
  extract_lets -merge -useContext -underBinder x0 x1
  exact (State.SameOutside.ite (State.report_same (State.evt_same (State.fadd_same h (mask_trans rfl k) (pageMask_cad (mask_trans rfl k))) (mask_trans rfl k) (pageMask_cad (mask_trans rfl k))) (mask_trans rfl k)) h)

theorem State.diagDamage_same (h : State.SameOutside m o s) (k : 73786975197527473124 ||| m = m) :
    State.SameOutside m o (State.diagDamage s b1) := by
  unfold State.diagDamage
  extract_lets -merge -useContext -underBinder x0 x1 x2 x3
  exact (State.SameOutside.ite (State.report_same (State.evt_same (State.finc_same (State.admitWrite_same h (mask_trans rfl k)) (mask_trans rfl k) (pageMask_diag (mask_trans rfl k))) (mask_trans rfl k) (pageMask_diag (mask_trans rfl k))) (mask_trans rfl k)) h)

theorem State.consume_same (h : State.SameOutside m o s) (k : 73786975197527473124 ||| m = m) :
    State.SameOutside m o (State.consume s b1 b2) := by
  unfold State.consume
  exact (State.SameOutside.ite (State.cmpReceive_same h (mask_trans rfl k)) (State.SameOutside.ite (State.peDamage_same h (mask_trans rfl k)) (State.SameOutside.ite (State.cadDamage_same h (mask_trans rfl k)) (State.SameOutside.ite (State.diagDamage_same h (mask_trans rfl k)) h))))

theorem State.transferBlock_same (h : State.SameOutside m o s) (k : 73786975197527473124 ||| m = m) :
    State.SameOutside m o (State.transferBlock s b1 b2 b3 b4 b5 b6) := by
  unfold State.transferBlock
  extract_lets -merge -useContext -underBinder x0
  have h1 : State.SameOutside m o x0 := (State.flip_same h (mask_trans rfl k))
  exact (State.SameOutside.ite (State.SameOutside.ite h (State.consume_same h (mask_trans rfl k))) (State.SameOutside.ite (State.admitWrite_same h (mask_trans rfl k)) (State.consume_same (State.memDecode_same h1 (mask_trans rfl k)) (mask_trans rfl k))))

theorem State.requestCheck_same (h : State.SameOutside m o s) (k : 73786975197527456740 ||| m = m) :
    State.SameOutside m o (State.requestCheck s b1) := by
  unfold State.requestCheck
  extract_lets -merge -useContext -underBinder x0
  exact (State.SameOutside.ite (State.memRange_same h (mask_trans rfl k)) (State.SameOutside.ite (State.memOffline_same h (mask_trans rfl k)) (State.touchRow_same h (mask_trans rfl k))))

theorem State.endWait_same (h : State.SameOutside m o s) (k : 1125899906908160 ||| m = m) :
    State.SameOutside m o (State.endWait s b1) := by
  unfold State.endWait
  split
  · rename_i x0 x1
    exact h
  · rename_i x2 x3 x4
    extract_lets -merge -useContext -underBinder x5 x6 x7
    have h8 : State.SameOutside m o x7 := (State.SameOutside.set_arb h (mask_trans rfl k))
    exact (State.fset_same h8 (mask_trans rfl k) (pageMask_arb (mask_trans rfl k)))

theorem State.dramTransfer_same (h : State.SameOutside m o s) (k : 73786975197527538660 ||| m = m) :
    State.SameOutside m o (State.dramTransfer s b1) := by
  unfold State.dramTransfer
  extract_lets -merge -useContext -underBinder x0 x1 x2
  have h3 : State.SameOutside m o x0 := (State.requestCheck_same h (mask_trans rfl k))
  have h4 : State.SameOutside m o x1 := (State.SameOutside.ite (State.transferBlock_same h3 (mask_trans rfl k)) h3)
  have h5 : State.SameOutside m o x2 := (State.SameOutside.ite (State.transferBlock_same h4 (mask_trans rfl k)) h4)
  exact (State.endWait_same h5 (mask_trans rfl k))

theorem State.rowIdle_same (h : State.SameOutside m o s) (k : 32898 ||| m = m) :
    State.SameOutside m o (State.rowIdle s b1) := by
  unfold State.rowIdle
  split
  · rename_i x0 x1
    exact h
  · rename_i x2 x3 x4
    extract_lets -merge -useContext -underBinder x5 x6
    have h7 : State.SameOutside m o x5 := (State.advanceTo_same h (mask_trans rfl k))
    exact (State.SameOutside.set_mem h7 (mask_trans rfl k))

theorem State.mr4_same (h : State.SameOutside m o s) (k : 2269394147246080 ||| m = m) :
    State.SameOutside m o (State.mr4 s b1) := by
  unfold State.mr4
  extract_lets -merge -useContext -underBinder x0 x1 x2 x3 x4 x5
  have h6 : State.SameOutside m o x0 := (State.fsetB_same (State.fsetB_same h (mask_trans rfl k) (pageMask_thm (mask_trans rfl k))) (mask_trans rfl k) (pageMask_thm (mask_trans rfl k)))
  have h7 : State.SameOutside m o x1 := by
    unfold x1
    split
    · rename_i x8 x9
      exact (State.fset_same (State.fset_same h6 (mask_trans rfl k) (pageMask_thm (mask_trans rfl k))) (mask_trans rfl k) (pageMask_thm (mask_trans rfl k)))
    · rename_i x10
      exact h6
  have h11 : State.SameOutside m o x5 := (State.SameOutside.set_mem h7 (mask_trans rfl k))
  exact (State.SameOutside.ite h11 (State.evt_same (State.fset_same h11 (mask_trans rfl k) (pageMask_mem (mask_trans rfl k))) (mask_trans rfl k) (pageMask_mem (mask_trans rfl k))))

theorem State.refresh_same (h : State.SameOutside m o s) (k : 3395294054088834 ||| m = m) :
    State.SameOutside m o (State.refresh s b1) := by
  unfold State.refresh
  extract_lets -merge -useContext -underBinder x0 x1 x2 x3 x4 x5
  have h6 : State.SameOutside m o x0 := (State.advanceTo_same h (mask_trans rfl k))
  have h7 : State.SameOutside m o x3 := (State.finc_same h6 (mask_trans rfl k) (pageMask_arb (mask_trans rfl k)))
  have h8 : State.SameOutside m o x4 := (State.SameOutside.ite (State.mr4_same h7 (mask_trans rfl k)) h7)
  exact (State.SameOutside.ite h (State.SameOutside.set_mem h8 (mask_trans rfl k)))

theorem State.windowDone_same (h : State.SameOutside m o s) (k : 9223372039002259712 ||| m = m) :
    State.SameOutside m o (State.windowDone s b1 b2) := by
  unfold State.windowDone
  extract_lets -merge -useContext -underBinder x0 x1
  have h2 : State.SameOutside m o x0 := (State.evt_same (State.fwrap_same (State.fset_same h (mask_trans rfl k) (pageMask_link _ (mask_trans rfl k))) (mask_trans rfl k) (pageMask_link _ (mask_trans rfl k))) (mask_trans rfl k) (pageMask_link _ (mask_trans rfl k)))
  exact (State.SameOutside.set_cmp h2 (mask_trans rfl k))

theorem State.ingestOne_same (h : State.SameOutside m o s) (k : 9226186788802969920 ||| m = m) :
    State.SameOutside m o (State.ingestOne s) := by
  unfold State.ingestOne
  split
  · rename_i x0 x1
    exact h
  · rename_i x2 x3 x4 x5
    extract_lets -merge -useContext -underBinder x6 x7
    have h8 : State.SameOutside m o x7 := (State.admitWrite_same (State.SameOutside.set_transport h (mask_trans rfl k)) (mask_trans rfl k))
    split
    · rename_i x9 x10 x11 x12
      exact (State.windowDone_same h8 (mask_trans rfl k))
    · rename_i x13 x14
      exact h8

theorem State.drainIngest_same (h : State.SameOutside m o s) (k : 9226186788802969920 ||| m = m) :
    State.SameOutside m o (State.drainIngest s) := by
  unfold State.drainIngest
  exact (State.SameOutside.foldl h (fun a2 s0 h1 => (State.ingestOne_same h1 (mask_trans rfl k))))

theorem State.switchWindow_same (h : State.SameOutside m o s) (k : 9226186788802969920 ||| m = m) :
    State.SameOutside m o (State.switchWindow s) := by
  unfold State.switchWindow
  split
  · rename_i x0 x1 x2
    extract_lets -merge -useContext -underBinder x3 x4 x5 x6 x7 x8
    have h9 : State.SameOutside m o x3 := (State.drainIngest_same h (mask_trans rfl k))
    have h10 : State.SameOutside m o x5 := (State.SameOutside.set_mem h9 (mask_trans rfl k))
    have h11 : State.SameOutside m o x6 := (State.fset_same h10 (mask_trans rfl k) (pageMask_mem (mask_trans rfl k)))
    have h12 : State.SameOutside m o x8 := (State.SameOutside.set_mem h11 (mask_trans rfl k))
    exact (State.SameOutside.ite (State.cmdDone_same (State.evt_same h12 (mask_trans rfl k) (pageMask_mem (mask_trans rfl k))) (mask_trans rfl k) (pageMask_mem (mask_trans rfl k))) h)
  · rename_i x13 x14
    exact h

theorem State.windowBoundary_same (h : State.SameOutside m o s) (k : 2251801961201664 ||| m = m) :
    State.SameOutside m o (State.windowBoundary s) := by
  unfold State.windowBoundary
  extract_lets -merge -useContext -underBinder x0 x1 x2
  exact (State.SameOutside.ite (State.SameOutside.ite (State.cmdFail_same (State.SameOutside.set_mem h (mask_trans rfl k)) (mask_trans rfl k) (pageMask_mem (mask_trans rfl k))) (State.SameOutside.set_mem h (mask_trans rfl k))) h)

theorem State.trainingDone_same (h : State.SameOutside m o s) (k : 73786975197527456740 ||| m = m) :
    State.SameOutside m o (State.trainingDone s b1 b2) := by
  unfold State.trainingDone
  split
  · rename_i x0 x1
    exact h
  · rename_i x2 x3 x4
    extract_lets -merge -useContext -underBinder x5 x6 x7 x8 x9 x10 x11 x12 x13 x14 x15
    have h16 : State.SameOutside m o x6 := (State.SameOutside.set_mem h (mask_trans rfl k))
    have h17 : State.SameOutside m o x8 := (State.fset_same (State.fset_same (State.setTrained_same h16 (mask_trans rfl k)) (mask_trans rfl k) (pageMask_mem (mask_trans rfl k))) (mask_trans rfl k) (pageMask_mem (mask_trans rfl k)))
    have h18 : State.SameOutside m o x9 := (State.fset_same h17 (mask_trans rfl k) (pageMask_mem (mask_trans rfl k)))
    have h19 : State.SameOutside m o x11 := (State.SameOutside.set_mem h18 (mask_trans rfl k))
    have h20 : State.SameOutside m o x12 := (State.fset_same (State.fset_same h16 (mask_trans rfl k) (pageMask_mem (mask_trans rfl k))) (mask_trans rfl k) (pageMask_mem (mask_trans rfl k)))
    have h21 : State.SameOutside m o x13 := (State.evt_same (State.setTrained_same h20 (mask_trans rfl k)) (mask_trans rfl k) (pageMask_mem (mask_trans rfl k)))
    have h22 : State.SameOutside m o x14 := (State.fset_same h21 (mask_trans rfl k) (pageMask_mem (mask_trans rfl k)))
    have h23 : State.SameOutside m o x15 := (State.SameOutside.ite (State.report_same h22 (mask_trans rfl k)) h22)
    exact (State.SameOutside.ite (State.SameOutside.ite h19 (State.cmdDone_same h19 (mask_trans rfl k) (pageMask_mem (mask_trans rfl k)))) (State.SameOutside.ite h23 (State.cmdFail_same h23 (mask_trans rfl k) (pageMask_mem (mask_trans rfl k)))))

theorem State.memStart_same (h : State.SameOutside m o s) (k : 2251799813718016 ||| m = m) :
    State.SameOutside m o (State.memStart s) := by
  unfold State.memStart
  extract_lets -merge -useContext -underBinder x0 x1 x2
  have h3 : State.SameOutside m o x0 := (State.fset_same h (mask_trans rfl k) (pageMask_mem (mask_trans rfl k)))
  exact (State.SameOutside.ite (State.SameOutside.set_mem h3 (mask_trans rfl k)) (State.fset_same (State.SameOutside.set_mem h (mask_trans rfl k)) (mask_trans rfl k) (pageMask_mem (mask_trans rfl k))))

theorem State.writeBackPair_same (h : State.SameOutside m o s) (k : 2814751948193792 ||| m = m) :
    State.SameOutside m o (State.writeBackPair s b1) := by
  unfold State.writeBackPair
  exact (State.SameOutside.foldl h (fun a2 s0 h1 => (by
    split
    · rename_i x3 x4 x5 x6 x7
      exact (State.admitWrite_same h1 (mask_trans rfl k))
    · rename_i x8 x9
      exact h1)))

theorem State.flushWriteBack_same (h : State.SameOutside m o s) (k : 2814751948193792 ||| m = m) :
    State.SameOutside m o (State.flushWriteBack s) := by
  unfold State.flushWriteBack
  extract_lets -merge -useContext -underBinder x0 x1
  exact (State.SameOutside.foldl (State.SameOutside.set_mem h (mask_trans rfl k)) (fun a4 s2 h3 => (State.writeBackPair_same h3 (mask_trans rfl k))))

theorem State.scrubGroup_same (h : State.SameOutside m o s) (k : 73786975197527473124 ||| m = m) :
    State.SameOutside m o (State.scrubGroup s b1) := by
  unfold State.scrubGroup
  extract_lets -merge -useContext -underBinder x0 x1 x2 x3 x4 x5
  have h6 : State.SameOutside m o x0 := (State.flushWriteBack_same h (mask_trans rfl k))
  have h7 : State.SameOutside m o x1 := (State.SameOutside.foldl h6 (fun a10 s8 h9 => (State.memDecode_same h9 (mask_trans rfl k))))
  exact (State.SameOutside.set_mem h7 (mask_trans rfl k))

theorem State.flips_same (h : State.SameOutside m o s) (k : 16384 ||| m = m) :
    State.SameOutside m o (State.flips s b1) := by
  unfold State.flips
  exact (State.SameOutside.foldl h (fun a2 s0 h1 => (State.flip_same h1 (mask_trans rfl k))))

theorem State.scrubVisit_same (h : State.SameOutside m o s) (k : 73786975197527473124 ||| m = m) :
    State.SameOutside m o (State.scrubVisit s b1) := by
  unfold State.scrubVisit
  extract_lets -merge -useContext -underBinder x0 x1 x2 x3
  have h4 : State.SameOutside m o x0 := (State.flips_same h (mask_trans rfl k))
  have h5 : State.SameOutside m o x2 := (State.scrubGroup_same h4 (mask_trans rfl k))
  have h6 : State.SameOutside m o x3 := (State.fset_same h5 (mask_trans rfl k) (pageMask_mem (mask_trans rfl k)))
  exact (State.SameOutside.ite h (State.SameOutside.ite (State.evt_same (State.finc_same h6 (mask_trans rfl k) (pageMask_mem (mask_trans rfl k))) (mask_trans rfl k) (pageMask_mem (mask_trans rfl k))) h6))

theorem State.scrubRepair_same (h : State.SameOutside m o s) (k : 73786975197527473124 ||| m = m) :
    State.SameOutside m o (State.scrubRepair s b1) := by
  unfold State.scrubRepair
  split
  · rename_i x0 x1
    exact h
  · rename_i x2 x3 x4 x5
    extract_lets -merge -useContext -underBinder x6 x7 x8
    have h9 : State.SameOutside m o x6 := (State.flips_same h (mask_trans rfl k))
    have h10 : State.SameOutside m o x8 := (State.SameOutside.set_mem h9 (mask_trans rfl k))
    exact (State.SameOutside.ite h (State.scrubGroup_same (State.fset_same h10 (mask_trans rfl k) (pageMask_mem (mask_trans rfl k))) (mask_trans rfl k)))

theorem State.sramPatrol_same (h : State.SameOutside m o s) (k : 73786975197528505316 ||| m = m) :
    State.SameOutside m o (State.sramPatrol s b1) := by
  unfold State.sramPatrol
  exact (State.SameOutside.foldl h (fun a2 s0 h1 => (by
    split
    · rename_i x3 x4 x5 x6 x7
      extract_lets -merge -useContext -underBinder x8 x9
      subst x8
      have h10 : State.SameOutside m o x9 := (State.SameOutside.ite (State.SameOutside.set_sram h1 (mask_trans rfl k)) h1)
      exact (State.report_same h10 (mask_trans rfl k)))))

theorem State.occupy_same (h : State.SameOutside m o s) (k : 1125899906940928 ||| m = m) :
    State.SameOutside m o (State.occupy s b1) := by
  unfold State.occupy
  split
  · rename_i x0 x1
    extract_lets -merge -useContext -underBinder x2
    exact (State.SameOutside.set_arb h (mask_trans rfl k))
  · rename_i x3 x4 x5
    extract_lets -merge -useContext -underBinder x6 x7 x8 x9 x10
    have h11 : State.SameOutside m o x10 := (State.SameOutside.set_mem_arb h (mask_trans rfl k))
    exact (State.finc_same h11 (mask_trans rfl k) (pageMask_arb (mask_trans rfl k)))
  · rename_i x12 x13 x14 x15
    extract_lets -merge -useContext -underBinder x16 x17 x18
    have h19 : State.SameOutside m o x17 := (State.SameOutside.set_arb h (mask_trans rfl k))
    exact (State.SameOutside.ite h19 (State.finc_same (State.SameOutside.set_arb h (mask_trans rfl k)) (mask_trans rfl k) (pageMask_arb (mask_trans rfl k))))

theorem State.observe_same (h : State.SameOutside m o s) (k : 1125902054391808 ||| m = m) :
    State.SameOutside m o (State.observe s b1) := by
  unfold State.observe
  exact (State.SameOutside.foldl h (fun a2 s0 h1 => (by
    split
    · rename_i x3 x4 x5
      extract_lets -merge -useContext -underBinder x6 x7 x8 x9 x10 x11
      have h12 : State.SameOutside m o x8 := (State.fset_same (State.fsetB_same (State.fsetB_same h1 (mask_trans rfl k) (pageMask_arb (mask_trans rfl k))) (mask_trans rfl k) (pageMask_arb (mask_trans rfl k))) (mask_trans rfl k) (pageMask_arb (mask_trans rfl k)))
      have h13 : State.SameOutside m o x9 := (State.SameOutside.ite (State.evt_same (State.fset_same h12 (mask_trans rfl k) (pageMask_arb (mask_trans rfl k))) (mask_trans rfl k) (pageMask_arb (mask_trans rfl k))) h12)
      exact (State.SameOutside.set_arb h13 (mask_trans rfl k)))))

theorem State.portTick_same (h : State.SameOutside m o s) (k : 65666 ||| m = m) :
    State.SameOutside m o (State.portTick s) := by
  unfold State.portTick
  extract_lets -merge -useContext -underBinder x0 x1
  exact (State.advanceTo_same (State.SameOutside.set_arb h (mask_trans rfl k)) (mask_trans rfl k))

theorem State.stalledCycle_same (h : State.SameOutside m o s) (k : 1125899906940928 ||| m = m) :
    State.SameOutside m o (State.stalledCycle s b1) := by
  unfold State.stalledCycle
  split
  · rename_i x0 x1 x2
    extract_lets -merge -useContext -underBinder x3 x4 x5
    have h6 : State.SameOutside m o x4 := (State.occupy_same (State.SameOutside.set_arb h (mask_trans rfl k)) (mask_trans rfl k))
    exact (State.SameOutside.set_arb h6 (mask_trans rfl k))
  · rename_i x7 x8
    extract_lets -merge -useContext -underBinder x9
    exact (State.SameOutside.set_arb h (mask_trans rfl k))

theorem State.grantCycle_same (h : State.SameOutside m o s) (k : 1125899906940928 ||| m = m) :
    State.SameOutside m o (State.grantCycle s b1) := by
  unfold State.grantCycle
  extract_lets -merge -useContext -underBinder x0 x1 x2 x3
  have h4 : State.SameOutside m o x0 := (State.occupy_same h (mask_trans rfl k))
  have h5 : State.SameOutside m o x2 := by
    unfold x2
    split
    · rename_i x6 x7 x8 x9 x10 x11 x12
      exact (State.finc_same h4 (mask_trans rfl k) (pageMask_arb (mask_trans rfl k)))
    · rename_i x13 x14 x15
      exact h4
  exact (State.SameOutside.set_arb h5 (mask_trans rfl k))

theorem State.portStep_same (h : State.SameOutside m o s) (k : 1125902054424706 ||| m = m) :
    State.SameOutside m o (State.portStep s b1) := by
  unfold State.portStep
  extract_lets -merge -useContext -underBinder x0 x1 x2
  have h3 : State.SameOutside m o x1 := (State.fset_same (State.fsetB_same h (mask_trans rfl k) (pageMask_arb (mask_trans rfl k))) (mask_trans rfl k) (pageMask_arb (mask_trans rfl k)))
  have h4 : State.SameOutside m o x2 := (State.SameOutside.ite (State.stalledCycle_same h3 (mask_trans rfl k)) (State.grantCycle_same h3 (mask_trans rfl k)))
  exact (State.portTick_same (State.observe_same h4 (mask_trans rfl k)) (mask_trans rfl k))

end Sys2Proof.Machine
end

