-- ==== Sys2Proof/Laws/Frame/Scal.lean ====
section
/-! SUPPORT. What every command leaves alone: one lemma for each function of Machine/Scal.lean that changes the state. -/

namespace Sys2Proof.Machine

variable {o s : State} {m : Nat}

theorem State.scalPend_same (h : State.SameOutside m o s) (k : 35184372088832 ||| m = m) :
    State.SameOutside m o (State.scalPend s b1) := by
  unfold State.scalPend
  exact (State.fset_same h (mask_trans rfl k) (pageMask_scal (mask_trans rfl k)))

theorem State.scalDomainOn_same (h : State.SameOutside m o s) (k : 35184388866048 ||| m = m) :
    State.SameOutside m o (State.scalDomainOn s b1) := by
  unfold State.scalDomainOn
  extract_lets -merge -useContext -underBinder x0 x1 x2 x3
  have h4 : State.SameOutside m o x1 := (State.scalPend_same h (mask_trans rfl k))
  exact (State.SameOutside.set_scal h4 (mask_trans rfl k))

theorem State.compensate_same (h : State.SameOutside m o s) (k : 16777216 ||| m = m) :
    State.SameOutside m o (State.compensate s b1 b2) := by
  unfold State.compensate
  extract_lets -merge -useContext -underBinder x0 x1
  have h2 : State.SameOutside m o x0 := (State.SameOutside.foldl h (fun a5 s3 h4 => (by
    extract_lets -merge -useContext -underBinder x6 x7
    have h8 : State.SameOutside m o x6 := by
      unfold x6
      split
      · rename_i x9 x10 x11
        extract_lets -merge -useContext -underBinder x12
        exact (State.SameOutside.set_scal h4 (mask_trans rfl k))
      · rename_i x13 x14
        exact h4
    exact (State.SameOutside.ite h8 (State.SameOutside.set_scal h8 (mask_trans rfl k))))))
  exact (State.SameOutside.ite (State.SameOutside.set_scal h2 (mask_trans rfl k)) h2)

theorem State.scalReading_same (h : State.SameOutside m o s) (k : 35184372088832 ||| m = m) :
    State.SameOutside m o (State.scalReading s b1 b2) := by
  unfold State.scalReading
  extract_lets -merge -useContext -underBinder x0 x1
  exact (State.scalPend_same h (mask_trans rfl k))

theorem State.scalBroken_same (h : State.SameOutside m o s) (k : 35184372088832 ||| m = m) :
    State.SameOutside m o (State.scalBroken s b1) := by
  unfold State.scalBroken
  exact (State.scalPend_same h (mask_trans rfl k))

theorem State.scalRunStart_same (h : State.SameOutside m o s) (k : 35184388866048 ||| m = m) :
    State.SameOutside m o (State.scalRunStart s) := by
  unfold State.scalRunStart
  split
  · rename_i x0 x1 x2 x3 x4
    extract_lets -merge -useContext -underBinder x5 x6 x7 x8 x9
    have h10 : State.SameOutside m o x5 := (State.fset_same h (mask_trans rfl k) (pageMask_scal (mask_trans rfl k)))
    have h11 : State.SameOutside m o x7 := (State.SameOutside.ite (State.fset_same h10 (mask_trans rfl k) (pageMask_scal (mask_trans rfl k))) h10)
    have h12 : State.SameOutside m o x8 := (State.fset_same (State.fset_same h11 (mask_trans rfl k) (pageMask_scal (mask_trans rfl k))) (mask_trans rfl k) (pageMask_scal (mask_trans rfl k)))
    exact (State.SameOutside.ite h (State.SameOutside.set_scal h12 (mask_trans rfl k)))
  · rename_i x13 x14 x15
    exact h

theorem State.interpTable_same (h : State.SameOutside m o s) (k : 4 ||| m = m) :
    State.SameOutside m o (State.interpTable s b1).2 :=
  State.SameOutside.foldlP (fun x : Nat × List Nat × State => State.SameOutside m o x.2.2) (l := b1) h
    fun _ _ h => State.roundFree_same h k

theorem State.useSpare_same (h : State.SameOutside m o s) (k : 35186536349696 ||| m = m) :
    State.SameOutside m o (State.useSpare s b1 b2) := by
  unfold State.useSpare
  extract_lets -merge -useContext -underBinder x0 x1 x2
  have h3 : State.SameOutside m o x1 := (State.SameOutside.set_scal h (mask_trans rfl k))
  have h4 : State.SameOutside m o x2 := (State.SameOutside.ite (State.fset_same h3 (mask_trans rfl k) (pageMask_scal (mask_trans rfl k))) (State.fset_same h3 (mask_trans rfl k) (pageMask_scal (mask_trans rfl k))))
  exact (State.evt_same h4 (mask_trans rfl k) (pageMask_scal (mask_trans rfl k)))

theorem State.memberResult_same (h : State.SameOutside m o s) (k : 73786975197527456740 ||| m = m) :
    State.SameOutside m o (State.memberResult s b1 b2 b3) := by
  unfold State.memberResult
  extract_lets -merge -useContext -underBinder x0 x1 x2 x3 x4 x5
  have h6 : State.SameOutside m o x2 := (State.reportDrop_same (State.useSpare_same h (mask_trans rfl k)) (mask_trans rfl k))
  have h7 : State.SameOutside m o x4 := (State.report_same h (mask_trans rfl k))
  exact (State.SameOutside.ite (State.SameOutside.set_scal h (mask_trans rfl k)) (State.SameOutside.ite (State.SameOutside.set_scal h6 (mask_trans rfl k)) (State.SameOutside.set_scal h7 (mask_trans rfl k))))

theorem State.scalMemberDone_same (h : State.SameOutside m o s) (k : 73786975197527456740 ||| m = m) :
    State.SameOutside m o (State.scalMemberDone s b1 b2 b3 b4) := by
  unfold State.scalMemberDone
  split
  · rename_i x0 x1
    exact h
  · rename_i x2 x3 x4
    extract_lets -merge -useContext -underBinder x5 x6 x7 x8 x9 x10 x11 x12 x13 x14 x15 x16
    have h17 : State.SameOutside m o x9 := (State.SameOutside.ite (by
    split
    · rename_i x18 x19 x20 x21
      have h22 : State.SameOutside m o x20 := State.SameOutside.of_eq2 x21 (State.interpTable_same h (mask_trans rfl k))
      extract_lets -merge -useContext -underBinder x23
      exact (State.SameOutside.set_scal h22 (mask_trans rfl k))) h)
    have h24 : State.SameOutside m o x12 := (State.SameOutside.ite (State.SameOutside.set_scal h17 (mask_trans rfl k)) h17)
    have h25 : State.SameOutside m o x16 := (State.SameOutside.ite (State.SameOutside.set_scal h (mask_trans rfl k)) h)
    exact (State.SameOutside.ite h (State.SameOutside.ite (State.memberResult_same h24 (mask_trans rfl k)) (State.memberResult_same h25 (mask_trans rfl k))))

theorem State.oscCountDone_same (h : State.SameOutside m o s) (k : 73786975197527456740 ||| m = m) :
    State.SameOutside m o (State.oscCountDone s b1) := by
  unfold State.oscCountDone
  split
  · rename_i x0 x1
    exact h
  · rename_i x2 x3 x4
    extract_lets -merge -useContext -underBinder x5 x6 x7 x8 x9
    have h10 : State.SameOutside m o x7 := (State.SameOutside.foldl h (fun a13 s11 h12 => (State.SameOutside.ite (State.reportDrop_same h12 (mask_trans rfl k)) (by
    split
    · rename_i x14 x15 x16 x17
      have h18 : State.SameOutside m o x16 := State.SameOutside.of_eq2 x17 (State.fresh_same h12 (mask_trans rfl k))
      split
      · rename_i x19 x20 x21 x22
        have h23 : State.SameOutside m o x21 := State.SameOutside.of_eq2 x22 (State.fresh_same h18 (mask_trans rfl k))
        extract_lets -merge -useContext -underBinder x24 x25
        exact (State.SameOutside.set_scal h23 (mask_trans rfl k))))))
    exact (State.SameOutside.ite h (State.SameOutside.set_scal h10 (mask_trans rfl k)))

theorem State.scalCmdCheck_same (h : State.SameOutside m o s) (k : 35186519572480 ||| m = m) :
    State.SameOutside m o (State.scalCmdCheck s) := by
  unfold State.scalCmdCheck
  exact (State.SameOutside.ite (State.SameOutside.ite (State.cmdFail_same h (mask_trans rfl k) (pageMask_scal (mask_trans rfl k))) (State.cmdDone_same h (mask_trans rfl k) (pageMask_scal (mask_trans rfl k)))) h)

theorem State.scalRunDone_same (h : State.SameOutside m o s) (k : 35186536349696 ||| m = m) :
    State.SameOutside m o (State.scalRunDone s) := by
  unfold State.scalRunDone
  split
  · rename_i x0 x1
    exact h
  · rename_i x2 x3 x4
    extract_lets -merge -useContext -underBinder x5 x6 x7 x8 x9 x10 x11 x12 x13 x14 x15 x16 x17 x18 x19 x20
    have h21 : State.SameOutside m o x8 := (State.fset_same h (mask_trans rfl k) (pageMask_scal (mask_trans rfl k)))
    have h22 : State.SameOutside m o x9 := (State.fsetB_same (State.fsetB_same h21 (mask_trans rfl k) (pageMask_scal (mask_trans rfl k))) (mask_trans rfl k) (pageMask_scal (mask_trans rfl k)))
    have h23 : State.SameOutside m o x10 := (State.finc_same (State.fwrap_same h22 (mask_trans rfl k) (pageMask_scal (mask_trans rfl k))) (mask_trans rfl k) (pageMask_scal (mask_trans rfl k)))
    have h24 : State.SameOutside m o x11 := (State.SameOutside.ite (State.finc_same h23 (mask_trans rfl k) (pageMask_scal (mask_trans rfl k))) h23)
    have h25 : State.SameOutside m o x12 := by
      unfold x12
      split
      · rename_i x26 x27 x28 x29
        exact (State.fset_same (State.fset_same h24 (mask_trans rfl k) (pageMask_scal (mask_trans rfl k))) (mask_trans rfl k) (pageMask_scal (mask_trans rfl k)))
      · rename_i x30 x31
        exact h24
    have h32 : State.SameOutside m o x13 := (State.fset_same (State.fset_same h25 (mask_trans rfl k) (pageMask_scal (mask_trans rfl k))) (mask_trans rfl k) (pageMask_scal (mask_trans rfl k)))
    have h33 : State.SameOutside m o x18 := (State.SameOutside.set_scal h32 (mask_trans rfl k))
    have h34 : State.SameOutside m o x19 := (State.evt_same h33 (mask_trans rfl k) (pageMask_scal (mask_trans rfl k)))
    have h35 : State.SameOutside m o x20 := (State.SameOutside.ite (State.evt_same (State.fset_same h34 (mask_trans rfl k) (pageMask_scal (mask_trans rfl k))) (mask_trans rfl k) (pageMask_scal (mask_trans rfl k))) h34)
    exact (State.SameOutside.ite h (State.scalCmdCheck_same h35 (mask_trans rfl k)))

theorem State.refValid_same (h : State.SameOutside m o s) (k : 35186536349696 ||| m = m) :
    State.SameOutside m o (State.refValid s b1 b2) := by
  unfold State.refValid
  extract_lets -merge -useContext -underBinder x0 x1 x2 x3
  have h4 : State.SameOutside m o x2 := (State.evt_same (State.fsetB_same (State.fsetB_same h (mask_trans rfl k) (pageMask_scal (mask_trans rfl k))) (mask_trans rfl k) (pageMask_scal (mask_trans rfl k))) (mask_trans rfl k) (pageMask_scal (mask_trans rfl k)))
  have h5 : State.SameOutside m o x3 := by
    unfold x3
    split
    · rename_i x6 x7 x8
      extract_lets -merge -useContext -underBinder x9 x10
      have h11 : State.SameOutside m o x9 := (State.fset_same (State.fset_same h4 (mask_trans rfl k) (pageMask_scal (mask_trans rfl k))) (mask_trans rfl k) (pageMask_scal (mask_trans rfl k)))
      exact (State.SameOutside.ite (State.SameOutside.set_scal h11 (mask_trans rfl k)) h4)
    · rename_i x12 x13
      exact h4
  exact (State.SameOutside.ite h (State.scalPend_same h5 (mask_trans rfl k)))

theorem State.refinGate_same (h : State.SameOutside m o s) (k : 35186536349696 ||| m = m) :
    State.SameOutside m o (State.refinGate s b1) := by
  unfold State.refinGate
  extract_lets -merge -useContext -underBinder x0 x1 x2 x3 x4 x5 x6
  have h7 : State.SameOutside m o x1 := (State.fsetI_same h (mask_trans rfl k) (pageMask_scal (mask_trans rfl k)))
  have h8 : State.SameOutside m o x2 := (State.refValid_same h7 (mask_trans rfl k))
  have h9 : State.SameOutside m o x6 := (State.SameOutside.set_scal h7 (mask_trans rfl k))
  exact (State.SameOutside.ite h (State.SameOutside.ite (State.SameOutside.set_scal h8 (mask_trans rfl k)) (State.SameOutside.ite (State.refValid_same h9 (mask_trans rfl k)) h9)))

theorem State.refinLoss_same (h : State.SameOutside m o s) (k : 35186536349696 ||| m = m) :
    State.SameOutside m o (State.refinLoss s) := by
  unfold State.refinLoss
  extract_lets -merge -useContext -underBinder x0 x1
  have h2 : State.SameOutside m o x0 := (State.refValid_same h (mask_trans rfl k))
  exact (State.SameOutside.set_scal h2 (mask_trans rfl k))

theorem State.vrefCheck_same (h : State.SameOutside m o s) (k : 35186536349696 ||| m = m) :
    State.SameOutside m o (State.vrefCheck s) := by
  unfold State.vrefCheck
  extract_lets -merge -useContext -underBinder x0 x1 x2 x3 x4 x5 x6
  have h7 : State.SameOutside m o x6 := (State.SameOutside.set_scal h (mask_trans rfl k))
  exact (State.SameOutside.ite h (State.SameOutside.ite (State.refValid_same h7 (mask_trans rfl k)) (State.SameOutside.ite (State.refValid_same h7 (mask_trans rfl k)) h7)))

theorem State.madcConversion_same (h : State.SameOutside m o s) (k : 35186536349700 ||| m = m) :
    State.SameOutside m o (State.madcConversion s b1 b2) := by
  unfold State.madcConversion
  extract_lets -merge -useContext -underBinder x0
  split
  · rename_i x1 x2 x3 x4
    have h5 : State.SameOutside m o x3 := State.SameOutside.of_eq2 x4 (State.fit16_same h (mask_trans rfl k))
    extract_lets -merge -useContext -underBinder x6
    have h7 : State.SameOutside m o x6 := (State.fset_same (State.fset_same h5 (mask_trans rfl k) (pageMask_scal (mask_trans rfl k))) (mask_trans rfl k) (pageMask_scal (mask_trans rfl k)))
    exact (State.SameOutside.ite (State.vrefCheck_same h7 (mask_trans rfl k)) h7)

theorem State.scalApplied_same (h : State.SameOutside m o s) (k : 35186536349696 ||| m = m) :
    State.SameOutside m o (State.scalApplied s b1) := by
  unfold State.scalApplied
  extract_lets -merge -useContext -underBinder x0 x1 x2
  have h3 : State.SameOutside m o x0 := (State.SameOutside.ite (State.refinLoss_same h (mask_trans rfl k)) h)
  have h4 : State.SameOutside m o x1 := (State.refValid_same h3 (mask_trans rfl k))
  exact (State.SameOutside.ite h3 (State.SameOutside.set_scal h4 (mask_trans rfl k)))

theorem State.scalRun_same (h : State.SameOutside m o s) (k : 35186536349696 ||| m = m) :
    State.SameOutside m o (State.scalRun s b1) := by
  unfold State.scalRun
  extract_lets -merge -useContext -underBinder x0 x1 x2
  have h3 : State.SameOutside m o x1 := (State.scalPend_same h (mask_trans rfl k))
  exact (State.scalCmdCheck_same (State.SameOutside.set_scal h3 (mask_trans rfl k)) (mask_trans rfl k))

end Sys2Proof.Machine
end

