-- ==== Sys2Proof/Laws/Frame/Thm.lean ====
section
/-! SUPPORT. What every command leaves alone: one lemma for each function of Machine/Thm.lean that changes the state. -/

namespace Sys2Proof.Machine

variable {o s : State} {m : Nat}

theorem State.convert_same (h : State.SameOutside m o s) (k : 17592194465792 ||| m = m) :
    State.SameOutside m o (State.convert s b1 b2) := by
  unfold State.convert
  extract_lets -merge -useContext -underBinder x0 x1 x2 x3
  have h4 : State.SameOutside m o x0 := (State.fset_same h (mask_trans rfl k) (pageMask_thm (mask_trans rfl k)))
  have h5 : State.SameOutside m o x2 := (State.SameOutside.set_thm h4 (mask_trans rfl k))
  exact (State.SameOutside.ite (State.SameOutside.set_mem h5 (mask_trans rfl k)) h5)

theorem State.demand_same (h : State.SameOutside m o s) (k : 17592194465792 ||| m = m) :
    State.SameOutside m o (State.demand s b1 b2 b3) := by
  unfold State.demand
  extract_lets -merge -useContext -underBinder x0 x1 x2
  have h3 : State.SameOutside m o x0 := (State.finc_same h (mask_trans rfl k) (pageMask_thm (mask_trans rfl k)))
  exact (State.SameOutside.ite (State.SameOutside.set_thm h3 (mask_trans rfl k)) (State.convert_same h3 (mask_trans rfl k)))

theorem State.guardDemand_same (h : State.SameOutside m o s) (k : 17592198660226 ||| m = m) :
    State.SameOutside m o (State.guardDemand s) := by
  unfold State.guardDemand
  extract_lets -merge -useContext -underBinder x0 x1 x2
  have h3 : State.SameOutside m o x0 := (State.advanceTo_same h (mask_trans rfl k))
  have h4 : State.SameOutside m o x2 := (State.SameOutside.set_pwr h3 (mask_trans rfl k))
  exact (State.SameOutside.ite (State.demand_same h4 (mask_trans rfl k)) h4)

theorem State.scalCheck_same (h : State.SameOutside m o s) (k : 17592211243138 ||| m = m) :
    State.SameOutside m o (State.scalCheck s) := by
  unfold State.scalCheck
  extract_lets -merge -useContext -underBinder x0 x1 x2
  have h3 : State.SameOutside m o x0 := (State.advanceTo_same h (mask_trans rfl k))
  have h4 : State.SameOutside m o x2 := (State.SameOutside.set_scal h3 (mask_trans rfl k))
  exact (State.SameOutside.ite (State.demand_same h4 (mask_trans rfl k)) h4)

theorem State.thmStat_same (h : State.SameOutside m o s) (k : 17592186044416 ||| m = m) :
    State.SameOutside m o (State.thmStat s) := by
  unfold State.thmStat
  extract_lets -merge -useContext -underBinder x0 x1
  have h2 : State.SameOutside m o x1 := (State.fsetB_same (State.fsetB_same h (mask_trans rfl k) (pageMask_thm (mask_trans rfl k))) (mask_trans rfl k) (pageMask_thm (mask_trans rfl k)))
  exact (State.fsetB_same (State.fsetB_same h2 (mask_trans rfl k) (pageMask_thm (mask_trans rfl k))) (mask_trans rfl k) (pageMask_thm (mask_trans rfl k)))

theorem State.tripReport_same (h : State.SameOutside m o s) (k : 73786975197527456740 ||| m = m) :
    State.SameOutside m o (State.tripReport s b1 b2) := by
  unfold State.tripReport
  exact (State.SameOutside.ite (State.report_same h (mask_trans rfl k)) h)

theorem State.judge_same (h : State.SameOutside m o s) (k : 73786975197527456740 ||| m = m) :
    State.SameOutside m o (State.judge s b1 b2 b3) := by
  unfold State.judge
  extract_lets -merge -useContext -underBinder x0 x1 x2 x3 x4
  have h5 : State.SameOutside m o x2 := by
    unfold x2
    try unfold x1
    extract_lets -merge -useContext -underBinder x6 x7 x8
    have h9 : State.SameOutside m o x8 := (State.fsetB_same h (mask_trans rfl k) (pageMask_thm (mask_trans rfl k)))
    exact (State.SameOutside.ite (State.evt_same h9 (mask_trans rfl k) (pageMask_thm (mask_trans rfl k))) h9)
  have h10 : State.SameOutside m o x3 := by
    unfold x3
    try unfold x1
    extract_lets -merge -useContext -underBinder x11 x12 x13
    have h14 : State.SameOutside m o x13 := (State.fsetB_same h5 (mask_trans rfl k) (pageMask_thm (mask_trans rfl k)))
    exact (State.SameOutside.ite (State.evt_same h14 (mask_trans rfl k) (pageMask_thm (mask_trans rfl k))) h14)
  have h15 : State.SameOutside m o x4 := by
    unfold x4
    try unfold x1
    extract_lets -merge -useContext -underBinder x16 x17 x18
    have h19 : State.SameOutside m o x18 := (State.fsetB_same h10 (mask_trans rfl k) (pageMask_thm (mask_trans rfl k)))
    exact (State.SameOutside.ite (State.evt_same h19 (mask_trans rfl k) (pageMask_thm (mask_trans rfl k))) h19)
  exact (State.tripReport_same (State.thmStat_same h15 (mask_trans rfl k)) (mask_trans rfl k))

theorem State.tileBit_same (h : State.SameOutside m o s) (k : 17592186044416 ||| m = m) :
    State.SameOutside m o (State.tileBit s b1 b2 b3) := by
  unfold State.tileBit
  exact (State.fset_same h (mask_trans rfl k) (pageMask_thm (mask_trans rfl k)))

theorem State.judgeTile_same (h : State.SameOutside m o s) (k : 73786975197527456740 ||| m = m) :
    State.SameOutside m o (State.judgeTile s b1) := by
  unfold State.judgeTile
  extract_lets -merge -useContext -underBinder x0 x1 x2 x3 x4 x5
  have h6 : State.SameOutside m o x3 := by
    unfold x3
    try unfold x2
    extract_lets -merge -useContext -underBinder x7 x8 x9
    have h10 : State.SameOutside m o x9 := (State.tileBit_same h (mask_trans rfl k))
    exact (State.SameOutside.ite (State.evt_same h10 (mask_trans rfl k) (pageMask_thm (mask_trans rfl k))) h10)
  have h11 : State.SameOutside m o x4 := by
    unfold x4
    try unfold x2
    extract_lets -merge -useContext -underBinder x12 x13 x14
    have h15 : State.SameOutside m o x14 := (State.tileBit_same h6 (mask_trans rfl k))
    exact (State.SameOutside.ite (State.evt_same h15 (mask_trans rfl k) (pageMask_thm (mask_trans rfl k))) h15)
  have h16 : State.SameOutside m o x5 := by
    unfold x5
    try unfold x2
    extract_lets -merge -useContext -underBinder x17 x18 x19
    have h20 : State.SameOutside m o x19 := (State.tileBit_same h11 (mask_trans rfl k))
    exact (State.SameOutside.ite (State.evt_same h20 (mask_trans rfl k) (pageMask_thm (mask_trans rfl k))) h20)
  exact (State.tripReport_same (State.thmStat_same h16 (mask_trans rfl k)) (mask_trans rfl k))

theorem State.rate_same (h : State.SameOutside m o s) (k : 17594341916676 ||| m = m) :
    State.SameOutside m o (State.rate s b1 b2).1 := by
  unfold State.rate
  split
  · rename_i x0 x1
    extract_lets -merge -useContext -underBinder x2
    exact (State.SameOutside.pr1 (State.SameOutside.set_thm h (mask_trans rfl k)))
  · rename_i x3 x4 x5 x6
    extract_lets -merge -useContext -underBinder x7 x8 x9
    exact (State.SameOutside.ite1 (State.SameOutside.pr1 h) (by
    split
    · rename_i x10 x11 x12 x13
      have h14 : State.SameOutside m o x12 := State.SameOutside.of_eq2 x13 (State.roundFree_same h (mask_trans rfl k))
      split
      · rename_i x15 x16 x17 x18
        have h19 : State.SameOutside m o x17 := State.SameOutside.of_eq2 x18 (State.fit16_same h14 (mask_trans rfl k))
        extract_lets -merge -useContext -underBinder x20 x21 x22
        have h23 : State.SameOutside m o x20 := (State.fsetB_same (State.fset_same h19 (mask_trans rfl k) (pageMask_thm (mask_trans rfl k))) (mask_trans rfl k) (pageMask_thm (mask_trans rfl k)))
        have h24 : State.SameOutside m o x22 := (State.SameOutside.set_thm h23 (mask_trans rfl k))
        exact (State.SameOutside.ite1 (State.SameOutside.pr1 (State.evt_same (State.finc_same h24 (mask_trans rfl k) (pageMask_thm (mask_trans rfl k))) (mask_trans rfl k) (pageMask_thm (mask_trans rfl k)))) (State.SameOutside.pr1 h24))))

theorem State.bandgapMedian_same (h : State.SameOutside m o s) (k : 16777216 ||| m = m) :
    State.SameOutside m o (State.bandgapMedian s) := by
  unfold State.bandgapMedian
  extract_lets -merge -useContext -underBinder x0 x1
  split
  · rename_i x2 x3 x4
    extract_lets -merge -useContext -underBinder x5
    exact (State.SameOutside.set_scal h (mask_trans rfl k))
  · rename_i x6 x7
    exact h

theorem State.reading_same (h : State.SameOutside m o s) (k : 73786975197535845348 ||| m = m) :
    State.SameOutside m o (State.reading s b1 b2 b3) := by
  unfold State.reading
  extract_lets -merge -useContext -underBinder x0 x1 x2 x3 x4 x5 x6 x7 x8
  have h9 : State.SameOutside m o x2 := (State.fset_same (State.fset_same h (mask_trans rfl k) (pageMask_thm (mask_trans rfl k))) (mask_trans rfl k) (pageMask_thm (mask_trans rfl k)))
  have h10 : State.SameOutside m o x3 := (State.fsetB_same h9 (mask_trans rfl k) (pageMask_thm (mask_trans rfl k)))
  have h11 : State.SameOutside m o x4 := (State.fset_same h10 (mask_trans rfl k) (pageMask_thm (mask_trans rfl k)))
  have h12 : State.SameOutside m o x6 := (State.SameOutside.set_thm h10 (mask_trans rfl k))
  have h13 : State.SameOutside m o x7 := (State.evt_same (State.finc_same (State.fset_same h12 (mask_trans rfl k) (pageMask_thm (mask_trans rfl k))) (mask_trans rfl k) (pageMask_thm (mask_trans rfl k))) (mask_trans rfl k) (pageMask_thm (mask_trans rfl k)))
  have h14 : State.SameOutside m o x8 := (State.scalBroken_same (State.judge_same h13 (mask_trans rfl k)) (mask_trans rfl k))
  exact (State.SameOutside.ite (by
    split
    · rename_i x15 x16 x17 x18
      have h19 : State.SameOutside m o x16 := State.SameOutside.of_eq1 x18 (State.rate_same h11 (mask_trans rfl k))
      exact (State.scalReading_same (State.compensate_same (State.judge_same h19 (mask_trans rfl k)) (mask_trans rfl k)) (mask_trans rfl k))) (State.SameOutside.ite (State.bandgapMedian_same h14 (mask_trans rfl k)) h14))

theorem State.conversionDone_same (h : State.SameOutside m o s) (k : 73786975197535845348 ||| m = m) :
    State.SameOutside m o (State.conversionDone s b1 b2) := by
  unfold State.conversionDone
  extract_lets -merge -useContext -underBinder x0 x1 x2 x3 x4 x5
  have h6 : State.SameOutside m o x0 := (State.SameOutside.foldl h (fun a9 s7 h8 => (State.reading_same h8 (mask_trans rfl k))))
  have h10 : State.SameOutside m o x1 := (State.finc_same (State.fset64_same h6 (mask_trans rfl k) (pageMask_thm (mask_trans rfl k))) (mask_trans rfl k) (pageMask_thm (mask_trans rfl k)))
  have h11 : State.SameOutside m o x2 := (State.fset_same h10 (mask_trans rfl k) (pageMask_thm (mask_trans rfl k)))
  have h12 : State.SameOutside m o x4 := (State.SameOutside.set_thm h11 (mask_trans rfl k))
  have h13 : State.SameOutside m o x5 := (State.evt_same h12 (mask_trans rfl k) (pageMask_thm (mask_trans rfl k)))
  exact (State.SameOutside.ite h (by
    split
    · rename_i x14 x15 x16 x17
      extract_lets -merge -useContext -underBinder x18
      exact (State.convert_same (State.SameOutside.set_thm h13 (mask_trans rfl k)) (mask_trans rfl k))
    · rename_i x19 x20
      exact h13))

end Sys2Proof.Machine
end

