-- ==== Sys2Proof/Laws/Frame/Gaf.lean ====
section
/-! SUPPORT. What every command leaves alone: one lemma for each function of Machine/Gaf.lean that changes the state. -/

namespace Sys2Proof.Machine

variable {o s : State} {m : Nat}

theorem State.scaled_same (h : State.SameOutside m o s) (k : 4 ||| m = m) :
    State.SameOutside m o (State.scaled s b1 b2).2 := by
  unfold State.scaled
  split
  · rename_i x0 x1 x2 x3
    have h4 : State.SameOutside m o x2 := State.SameOutside.of_eq2 x3 (State.SameOutside.ite2 (State.roundFree_same h (mask_trans rfl k)) (State.SameOutside.pr2 h))
    exact (State.fit16_same h4 (mask_trans rfl k))

theorem State.fromLinear16_same (h : State.SameOutside m o s) (k : 4 ||| m = m) :
    State.SameOutside m o (State.fromLinear16 s b1 b2).2 := by
  unfold State.fromLinear16
  exact (State.scaled_same h (mask_trans rfl k))

theorem State.fromLinear11_same (h : State.SameOutside m o s) (k : 4 ||| m = m) :
    State.SameOutside m o (State.fromLinear11 s b1).2 := by
  unfold State.fromLinear11
  exact (State.scaled_same h (mask_trans rfl k))

theorem State.gafShow_same (h : State.SameOutside m o s) (k : 144115188075855872 ||| m = m) :
    State.SameOutside m o (State.gafShow s) := by
  unfold State.gafShow
  extract_lets -merge -useContext -underBinder x0
  have h1 : State.SameOutside m o x0 := (State.fset_same h (mask_trans rfl k) (pageMask_gaf (mask_trans rfl k)))
  exact (State.fset_same h1 (mask_trans rfl k) (pageMask_gaf (mask_trans rfl k)))

theorem State.setSegQueue_same (h : State.SameOutside m o s) (k : 144115190223343616 ||| m = m) :
    State.SameOutside m o (State.setSegQueue s b1 b2) := by
  unfold State.setSegQueue
  extract_lets -merge -useContext -underBinder x0 x1 x2 x3
  have h4 : State.SameOutside m o x2 := (State.SameOutside.set_gaf h (mask_trans rfl k))
  have h5 : State.SameOutside m o x3 := by
    unfold x3
    split
    · rename_i x6 x7 x8
      exact (State.SameOutside.ite h4 (State.emit_same h4 (mask_trans rfl k)))
    · rename_i x9 x10
      exact h4
  exact (State.gafShow_same h5 (mask_trans rfl k))

theorem State.pmbus_same (h : State.SameOutside m o s) (k : 144115190223343616 ||| m = m) :
    State.SameOutside m o (State.pmbus s b1) := by
  unfold State.pmbus
  extract_lets -merge -useContext -underBinder x0 x1
  exact (State.SameOutside.ite h (State.SameOutside.ite h (State.setSegQueue_same h (mask_trans rfl k))))

theorem State.pmbusAhead_same (h : State.SameOutside m o s) (k : 144115190223343616 ||| m = m) :
    State.SameOutside m o (State.pmbusAhead s b1 b2) := by
  unfold State.pmbusAhead
  exact (State.SameOutside.ite h (by
    split
    · rename_i x0 x1
      exact (State.setSegQueue_same h (mask_trans rfl k))
    · rename_i x2 x3 x4 x5
      exact (State.setSegQueue_same h (mask_trans rfl k))))

theorem State.writeVout_same (h : State.SameOutside m o s) (k : 144115190223343620 ||| m = m) :
    State.SameOutside m o (State.writeVout s b1) := by
  unfold State.writeVout
  extract_lets -merge -useContext -underBinder x0
  split
  · rename_i x1 x2 x3 x4
    have h5 : State.SameOutside m o x3 := State.SameOutside.of_eq2 x4 (State.fit16_same h (mask_trans rfl k))
    exact (State.pmbus_same h5 (mask_trans rfl k))

theorem State.headroom_same (h : State.SameOutside m o s) (k : 73786975197527456740 ||| m = m) :
    State.SameOutside m o (State.headroom s b1 b2) := by
  unfold State.headroom
  extract_lets -merge -useContext -underBinder x0 x1 x2
  have h3 : State.SameOutside m o x2 := (State.SameOutside.set_gaf h (mask_trans rfl k))
  exact (State.SameOutside.ite h (State.SameOutside.ite (State.reportDrop_same (State.evt_same (State.finc_same h3 (mask_trans rfl k) (pageMask_gaf (mask_trans rfl k))) (mask_trans rfl k) (pageMask_gaf (mask_trans rfl k))) (mask_trans rfl k)) h3))

theorem State.railStep_same (h : State.SameOutside m o s) (k : 73786975197527456740 ||| m = m) :
    State.SameOutside m o (State.railStep s b1) := by
  unfold State.railStep
  extract_lets -merge -useContext -underBinder x0 x1 x2 x3 x4 x5 x6 x7 x8 x9 x10 x11
  have h12 : State.SameOutside m o x1 := (State.fsetB_same h (mask_trans rfl k) (pageMask_gaf (mask_trans rfl k)))
  have h13 : State.SameOutside m o x9 := (State.fsetB_same (State.fset_same h12 (mask_trans rfl k) (pageMask_gaf (mask_trans rfl k))) (mask_trans rfl k) (pageMask_gaf (mask_trans rfl k)))
  have h14 : State.SameOutside m o x10 := (State.SameOutside.ite (State.reportDrop_same (State.evt_same h13 (mask_trans rfl k) (pageMask_gaf (mask_trans rfl k))) (mask_trans rfl k)) h13)
  exact (State.SameOutside.ite h12 (State.SameOutside.ite (State.writeVout_same h14 (mask_trans rfl k)) h14))

theorem State.headroomStep_same (h : State.SameOutside m o s) (k : 73786975197535845350 ||| m = m) :
    State.SameOutside m o (State.headroomStep s) := by
  unfold State.headroomStep
  extract_lets -merge -useContext -underBinder x0 x1 x2 x3
  have h4 : State.SameOutside m o x0 := (State.advanceTo_same h (mask_trans rfl k))
  have h5 : State.SameOutside m o x1 := (State.SameOutside.ite (State.SameOutside.foldl h4 (fun a8 s6 h7 => (State.SameOutside.ite (State.railStep_same h7 (mask_trans rfl k)) h7))) h4)
  have h9 : State.SameOutside m o x2 := (State.SameOutside.ite (State.demand_same h5 (mask_trans rfl k)) h5)
  exact (State.SameOutside.set_gaf h9 (mask_trans rfl k))

theorem State.railPoll_same (h : State.SameOutside m o s) (k : 144115190223343746 ||| m = m) :
    State.SameOutside m o (State.railPoll s) := by
  unfold State.railPoll
  extract_lets -merge -useContext -underBinder x0 x1 x2 x3 x4
  have h5 : State.SameOutside m o x0 := (State.advanceTo_same h (mask_trans rfl k))
  have h6 : State.SameOutside m o x3 := (State.SameOutside.foldl h5 (fun a9 s7 h8 => (by
    extract_lets -merge -useContext -underBinder x10
    have h11 : State.SameOutside m o x10 := (State.pmbus_same (State.pmbus_same h8 (mask_trans rfl k)) (mask_trans rfl k))
    exact (State.SameOutside.ite (State.SameOutside.ite (State.pmbus_same h11 (mask_trans rfl k)) h11) h8))))
  exact (State.SameOutside.set_gaf h6 (mask_trans rfl k))

theorem State.pmbAlert_same (h : State.SameOutside m o s) (k : 144115190223343616 ||| m = m) :
    State.SameOutside m o (State.pmbAlert s b1 b2) := by
  unfold State.pmbAlert
  extract_lets -merge -useContext -underBinder x0 x1
  have h2 : State.SameOutside m o x1 := (State.fset_same h (mask_trans rfl k) (pageMask_gaf (mask_trans rfl k)))
  exact (State.SameOutside.ite h (State.SameOutside.ite (State.pmbusAhead_same h2 (mask_trans rfl k)) h2))

theorem State.railFault_same (h : State.SameOutside m o s) (k : 73786975197527456740 ||| m = m) :
    State.SameOutside m o (State.railFault s b1) := by
  unfold State.railFault
  exact (State.reportDrop_same (State.gafShow_same (State.evt_same (State.fset_same h (mask_trans rfl k) (pageMask_gaf (mask_trans rfl k))) (mask_trans rfl k) (pageMask_gaf (mask_trans rfl k))) (mask_trans rfl k)) (mask_trans rfl k))

theorem State.readStatusCheck_same (h : State.SameOutside m o s) (k : 144115190223339520 ||| m = m) :
    State.SameOutside m o (State.readStatusCheck s) := by
  unfold State.readStatusCheck
  extract_lets -merge -useContext -underBinder x0
  exact (State.SameOutside.ite (State.SameOutside.ite (State.cmdFail_same h (mask_trans rfl k) (pageMask_gaf (mask_trans rfl k))) (State.cmdDone_same h (mask_trans rfl k) (pageMask_gaf (mask_trans rfl k)))) h)

theorem State.readStatus_same (h : State.SameOutside m o s) (k : 144115190223343616 ||| m = m) :
    State.SameOutside m o (State.readStatus s) := by
  unfold State.readStatus
  extract_lets -merge -useContext -underBinder x0 x1 x2
  have h3 : State.SameOutside m o x2 := (State.SameOutside.set_gaf h (mask_trans rfl k))
  exact (State.readStatusCheck_same (State.SameOutside.foldl h3 (fun a6 s4 h5 => (State.pmbus_same h5 (mask_trans rfl k)))) (mask_trans rfl k))

theorem State.pmbusOk_same (h : State.SameOutside m o s) (k : 73786975197527456740 ||| m = m) :
    State.SameOutside m o (State.pmbusOk s b1 b2 b3) := by
  unfold State.pmbusOk
  extract_lets -merge -useContext -underBinder x0
  have h1 : State.SameOutside m o x0 := (State.fset_same h (mask_trans rfl k) (pageMask_gaf (mask_trans rfl k)))
  exact (State.SameOutside.ite (by
    split
    · rename_i x2 x3 x4
      exact (State.evt_same (State.pmbusAhead_same h (mask_trans rfl k)) (mask_trans rfl k) (pageMask_gaf (mask_trans rfl k)))
    · rename_i x5 x6
      exact (State.finc_same h (mask_trans rfl k) (pageMask_gaf (mask_trans rfl k)))) (State.SameOutside.ite (by
    split
    · rename_i x7 x8 x9 x10
      have h11 : State.SameOutside m o x9 := State.SameOutside.of_eq2 x10 (State.fromLinear16_same h (mask_trans rfl k))
      exact (State.fset_same h11 (mask_trans rfl k) (pageMask_gaf (mask_trans rfl k)))) (State.SameOutside.ite (by
    split
    · rename_i x12 x13 x14 x15
      have h16 : State.SameOutside m o x14 := State.SameOutside.of_eq2 x15 (State.fromLinear11_same h (mask_trans rfl k))
      exact (State.fset_same h16 (mask_trans rfl k) (pageMask_gaf (mask_trans rfl k)))) (State.SameOutside.ite (State.SameOutside.ite (State.SameOutside.ite (State.railFault_same h1 (mask_trans rfl k)) h1) (State.gafShow_same (State.fset_same h1 (mask_trans rfl k) (pageMask_gaf (mask_trans rfl k))) (mask_trans rfl k))) h))))

theorem State.pmbusDone_same (h : State.SameOutside m o s) (k : 73786975197527456740 ||| m = m) :
    State.SameOutside m o (State.pmbusDone s b1 b2 b3) := by
  unfold State.pmbusDone
  split
  · rename_i x0 x1
    exact h
  · rename_i x2 x3 x4 x5
    extract_lets -merge -useContext -underBinder x6 x7 x8 x9 x10 x11
    have h12 : State.SameOutside m o x6 := (State.setSegQueue_same h (mask_trans rfl k))
    have h13 : State.SameOutside m o x7 := (State.SameOutside.ite (State.finc_same h12 (mask_trans rfl k) (pageMask_gaf (mask_trans rfl k))) (State.SameOutside.ite (State.finc_same h12 (mask_trans rfl k) (pageMask_gaf (mask_trans rfl k))) h12))
    have h14 : State.SameOutside m o x10 := (State.SameOutside.ite (State.SameOutside.set_gaf h13 (mask_trans rfl k)) h13)
    have h15 : State.SameOutside m o x11 := (State.SameOutside.ite (State.pmbusOk_same h13 (mask_trans rfl k)) (State.SameOutside.ite (State.SameOutside.set_gaf h13 (mask_trans rfl k)) (State.SameOutside.ite h14 (State.railFault_same h14 (mask_trans rfl k)))))
    exact (State.readStatusCheck_same h15 (mask_trans rfl k))

theorem State.pmbusRetry_same (h : State.SameOutside m o s) (k : 144115190223343746 ||| m = m) :
    State.SameOutside m o (State.pmbusRetry s b1) := by
  unfold State.pmbusRetry
  split
  · rename_i x0 x1
    exact h
  · rename_i x2 x3 x4
    extract_lets -merge -useContext -underBinder x5 x6 x7
    have h8 : State.SameOutside m o x5 := (State.advanceTo_same h (mask_trans rfl k))
    have h9 : State.SameOutside m o x7 := (State.SameOutside.set_gaf h8 (mask_trans rfl k))
    exact (State.pmbusAhead_same h9 (mask_trans rfl k))

theorem State.gafApplied_same (h : State.SameOutside m o s) (k : 144115190223345668 ||| m = m) :
    State.SameOutside m o (State.gafApplied s b1) := by
  unfold State.gafApplied
  extract_lets -merge -useContext -underBinder x0
  have h1 : State.SameOutside m o x0 := (State.SameOutside.foldl h (fun a4 s2 h3 => (by
    extract_lets -merge -useContext -underBinder x5
    have h6 : State.SameOutside m o x5 := (State.fset_same h3 (mask_trans rfl k) (pageMask_gaf (mask_trans rfl k)))
    exact (State.SameOutside.ite (State.pmbus_same (State.writeVout_same h6 (mask_trans rfl k)) (mask_trans rfl k)) (State.SameOutside.ite (State.pmbus_same h3 (mask_trans rfl k)) h3)))))
  exact (State.SameOutside.foldl h1 (fun a9 s7 h8 => (State.SameOutside.ite (State.startOn_same h8 (mask_trans rfl k)) h8)))

end Sys2Proof.Machine
end

