-- ==== Sys2Proof/Laws/Frame/Dud.lean ====
section
/-! SUPPORT. What every command leaves alone: one lemma for each function of Machine/Dud.lean that changes the state. -/

namespace Sys2Proof.Machine

variable {o s : State} {m : Nat}

theorem State.setSink_same (h : State.SameOutside m o s) (k : 2048 ||| m = m) :
    State.SameOutside m o (State.setSink s b1 b2 b3) := by
  unfold State.setSink
  extract_lets -merge -useContext -underBinder x0
  exact (State.setDud_same h (mask_trans rfl k))

theorem State.checkEpoch_same (h : State.SameOutside m o s) (k : 36894054398088452224 ||| m = m) :
    State.SameOutside m o (State.checkEpoch s b1 b2 b3) := by
  unfold State.checkEpoch
  exact (State.SameOutside.ite (State.demote_same h (mask_trans rfl k)) h)

theorem State.rxOk_same (h : State.SameOutside m o s) (k : 36893488147419105280 ||| m = m) :
    State.SameOutside m o (State.rxOk s b1 b2).2 := by
  unfold State.rxOk
  extract_lets -merge -useContext -underBinder x0 x1
  have h2 : State.SameOutside m o x1 := (State.setDud_same h (mask_trans rfl k))
  exact (State.SameOutside.ite2 (State.SameOutside.pr2 h2) (State.SameOutside.pr2 (State.finc_same h2 (mask_trans rfl k) (pageMask_dud _ (mask_trans rfl k)))))

theorem State.toReel2_same (h : State.SameOutside m o s) (k : 4611686020576444416 ||| m = m) :
    State.SameOutside m o (State.toReel2 s b1 b2) := by
  unfold State.toReel2
  exact (State.reelPush_same h (mask_trans rfl k))

theorem State.offerSplit_same (h : State.SameOutside m o s) (k : 36894051099553562624 ||| m = m) :
    State.SameOutside m o (State.offerSplit s b1) := by
  unfold State.offerSplit
  extract_lets -merge -useContext -underBinder x0 x1 x2 x3 x4 x5 x6
  exact (State.SameOutside.ite (State.mirrorActive_same (State.fset_same (State.fset_same (State.fset_same h (mask_trans rfl k) (pageMask_dud _ (mask_trans rfl k))) (mask_trans rfl k) (pageMask_dud _ (mask_trans rfl k))) (mask_trans rfl k) (pageMask_dud _ (mask_trans rfl k))) (mask_trans rfl k)) h)

theorem State.loseSinks_same (h : State.SameOutside m o s) (k : 73786975197527456740 ||| m = m) :
    State.SameOutside m o (State.loseSinks s b1 b2) := by
  unfold State.loseSinks
  extract_lets -merge -useContext -underBinder x0 x1 x2 x3 x4 x5 x6 x7
  have h8 : State.SameOutside m o x2 := (State.SameOutside.foldl h (fun a11 s9 h10 => (State.ringSend_same h10 (mask_trans rfl k))))
  have h12 : State.SameOutside m o x4 := (State.setDud_same h8 (mask_trans rfl k))
  have h13 : State.SameOutside m o x5 := (State.SameOutside.ite (State.stopPort_same h12 (mask_trans rfl k)) h12)
  have h14 : State.SameOutside m o x6 := (State.evt_same (State.evt_same (State.showRing_same h13 (mask_trans rfl k)) (mask_trans rfl k) (pageMask_dud _ (mask_trans rfl k))) (mask_trans rfl k) (pageMask_dud _ (mask_trans rfl k)))
  have h15 : State.SameOutside m o x7 := (State.offerSplit_same h14 (mask_trans rfl k))
  exact (State.SameOutside.ite h (State.report_same h15 (mask_trans rfl k)))

theorem State.tallyRound_same (h : State.SameOutside m o s) (k : 2147485700 ||| m = m) :
    State.SameOutside m o (State.tallyRound s b1 b2 b3) := by
  unfold State.tallyRound
  extract_lets -merge -useContext -underBinder x0 x1
  have h2 : State.SameOutside m o x0 := (State.ringSend_same h (mask_trans rfl k))
  exact (State.setDud_same h2 (mask_trans rfl k))

theorem State.deliveryDone_same (h : State.SameOutside m o s) (k : 2147485700 ||| m = m) :
    State.SameOutside m o (State.deliveryDone s b1) := by
  unfold State.deliveryDone
  extract_lets -merge -useContext -underBinder x0
  exact (State.SameOutside.ite (State.tallyRound_same h (mask_trans rfl k)) h)

theorem State.endRounds_same (h : State.SameOutside m o s) (k : 73786975197527456740 ||| m = m) :
    State.SameOutside m o (State.endRounds s b1) := by
  unfold State.endRounds
  extract_lets -merge -useContext -underBinder x0 x1 x2 x3 x4 x5 x6 x7
  have h8 : State.SameOutside m o x2 := (State.SameOutside.foldl h (fun a11 s9 h10 => (State.finc_same h10 (mask_trans rfl k) (pageMask_dud _ (mask_trans rfl k)))))
  have h12 : State.SameOutside m o x5 := (State.setDud_same h8 (mask_trans rfl k))
  have h13 : State.SameOutside m o x6 := (State.loseSinks_same h12 (mask_trans rfl k))
  exact (State.frameDoneCheck_same (State.setDud_same h13 (mask_trans rfl k)) (mask_trans rfl k))

theorem State.roundOver_same (h : State.SameOutside m o s) (k : 73786975197527456740 ||| m = m) :
    State.SameOutside m o (State.roundOver s b1) := by
  unfold State.roundOver
  extract_lets -merge -useContext -underBinder x0 x1
  exact (State.SameOutside.ite h (State.SameOutside.ite (by
    split
    · rename_i x2 x3
      exact (State.tallyRound_same h (mask_trans rfl k))
    · rename_i x4 x5 x6
      extract_lets -merge -useContext -underBinder x7 x8
      exact (State.SameOutside.ite (State.tallyRound_same (State.fadd_same (State.sendDrives_same h (mask_trans rfl k)) (mask_trans rfl k) (pageMask_dud _ (mask_trans rfl k))) (mask_trans rfl k)) (State.endRounds_same h (mask_trans rfl k)))) (State.endRounds_same h (mask_trans rfl k))))

theorem State.tallyReport_same (h : State.SameOutside m o s) (k : 73786975197527456740 ||| m = m) :
    State.SameOutside m o (State.tallyReport s b1 b2 b3 b4) := by
  unfold State.tallyReport
  extract_lets -merge -useContext -underBinder x0 x1 x2 x3 x4 x5 x6 x7 x8 x9 x10 x11 x12 x13 x14 x15 x16 x17 x18
  have h19 : State.SameOutside m o x3 := (State.fsetB_same (State.fsetB_same (State.fsetB_same (State.fsetB_same h (mask_trans rfl k) (pageMask_dud _ (mask_trans rfl k))) (mask_trans rfl k) (pageMask_dud _ (mask_trans rfl k))) (mask_trans rfl k) (pageMask_dud _ (mask_trans rfl k))) (mask_trans rfl k) (pageMask_dud _ (mask_trans rfl k)))
  have h20 : State.SameOutside m o x4 := (State.fset_same (State.fset_same h19 (mask_trans rfl k) (pageMask_dud _ (mask_trans rfl k))) (mask_trans rfl k) (pageMask_dud _ (mask_trans rfl k)))
  have h21 : State.SameOutside m o x7 := (State.fadd_same (State.fadd_same (State.fadd_same h20 (mask_trans rfl k) (pageMask_dud _ (mask_trans rfl k))) (mask_trans rfl k) (pageMask_dud _ (mask_trans rfl k))) (mask_trans rfl k) (pageMask_dud _ (mask_trans rfl k)))
  have h22 : State.SameOutside m o x8 := (State.SameOutside.ite (State.evt_same h21 (mask_trans rfl k) (pageMask_dud _ (mask_trans rfl k))) h21)
  have h23 : State.SameOutside m o x9 := (State.SameOutside.ite (State.evt_same h22 (mask_trans rfl k) (pageMask_dud _ (mask_trans rfl k))) h22)
  have h24 : State.SameOutside m o x10 := (State.SameOutside.ite (State.evt_same h23 (mask_trans rfl k) (pageMask_dud _ (mask_trans rfl k))) h23)
  have h25 : State.SameOutside m o x11 := (State.SameOutside.ite (State.evt_same h24 (mask_trans rfl k) (pageMask_dud _ (mask_trans rfl k))) h24)
  have h26 : State.SameOutside m o x14 := (State.SameOutside.set_diag h25 (mask_trans rfl k))
  have h27 : State.SameOutside m o x16 := (State.sinkTemperature_same (State.fset_same h26 (mask_trans rfl k) (pageMask_dud _ (mask_trans rfl k))) (mask_trans rfl k))
  have h28 : State.SameOutside m o x18 := (State.SameOutside.ite (State.judgeTile_same (State.fsetI_same h27 (mask_trans rfl k) (pageMask_dud _ (mask_trans rfl k))) (mask_trans rfl k)) h26)
  exact (State.SameOutside.ite (State.headroom_same (State.headroom_same h28 (mask_trans rfl k)) (mask_trans rfl k)) h28)

theorem State.tallyRx_same (h : State.SameOutside m o s) (k : 73786975197528505316 ||| m = m) :
    State.SameOutside m o (State.tallyRx s b1 b2) := by
  unfold State.tallyRx
  split
  · rename_i x0 x1 x2 x3
    have h4 : State.SameOutside m o x2 := State.SameOutside.of_eq2 x3 (State.rxOk_same h (mask_trans rfl k))
    extract_lets -merge -useContext -underBinder x5 x6 x7 x8 x9 x10 x11 x12
    have h13 : State.SameOutside m o x6 := (State.checkEpoch_same h4 (mask_trans rfl k))
    have h14 : State.SameOutside m o x8 := (State.tallyReport_same h13 (mask_trans rfl k))
    have h15 : State.SameOutside m o x12 := (State.SameOutside.ite (State.fset_same (State.setDud_same h14 (mask_trans rfl k)) (mask_trans rfl k) (pageMask_dud _ (mask_trans rfl k))) (State.setDud_same h14 (mask_trans rfl k)))
    exact (State.SameOutside.ite h4 (State.SameOutside.ite (State.toReel2_same h13 (mask_trans rfl k)) (State.SameOutside.ite (State.toReel2_same h14 (mask_trans rfl k)) (State.roundOver_same h15 (mask_trans rfl k)))))

theorem State.tallyTimeout_same (h : State.SameOutside m o s) (k : 73786975197527456740 ||| m = m) :
    State.SameOutside m o (State.tallyTimeout s b1) := by
  unfold State.tallyTimeout
  extract_lets -merge -useContext -underBinder x0 x1 x2
  exact (State.SameOutside.ite h (State.roundOver_same (State.setDud_same h (mask_trans rfl k)) (mask_trans rfl k)))

theorem State.showD_same (h : State.SameOutside m o s) (k : 36893488147419103232 ||| m = m) :
    State.SameOutside m o (State.showD s b1) := by
  unfold State.showD
  exact (State.fset_same h (mask_trans rfl k) (pageMask_dud _ (mask_trans rfl k)))

theorem State.showCaps_same (h : State.SameOutside m o s) (k : 36893488147419103232 ||| m = m) :
    State.SameOutside m o (State.showCaps s b1 b2) := by
  unfold State.showCaps
  extract_lets -merge -useContext -underBinder x0 x1
  exact (State.SameOutside.ite h (State.fset_same (State.fset_same (State.fset_same h (mask_trans rfl k) (pageMask_dud _ (mask_trans rfl k))) (mask_trans rfl k) (pageMask_dud _ (mask_trans rfl k))) (mask_trans rfl k) (pageMask_dud _ (mask_trans rfl k))))

theorem State.showRtt_same (h : State.SameOutside m o s) (k : 36893488147419103232 ||| m = m) :
    State.SameOutside m o (State.showRtt s b1 b2) := by
  unfold State.showRtt
  exact (State.SameOutside.ite (State.fset_same h (mask_trans rfl k) (pageMask_dud _ (mask_trans rfl k))) h)

theorem State.showResult_same (h : State.SameOutside m o s) (k : 36893488147419103232 ||| m = m) :
    State.SameOutside m o (State.showResult s b1 b2) := by
  unfold State.showResult
  exact (State.setMask_same h (mask_trans rfl k) (pageMask_dud _ (mask_trans rfl k)))

theorem State.enumFail_same (h : State.SameOutside m o s) (k : 36893488149566588928 ||| m = m) :
    State.SameOutside m o (State.enumFail s b1 b2) := by
  unfold State.enumFail
  extract_lets -merge -useContext -underBinder x0 x1 x2
  have h3 : State.SameOutside m o x1 := (State.setDud_same h (mask_trans rfl k))
  have h4 : State.SameOutside m o x2 := (State.fset_same (State.fset_same h3 (mask_trans rfl k) (pageMask_dud _ (mask_trans rfl k))) (mask_trans rfl k) (pageMask_dud _ (mask_trans rfl k)))
  exact (State.cmdFail_same (State.showRing_same h4 (mask_trans rfl k)) (mask_trans rfl k) (pageMask_dud _ (mask_trans rfl k)))

theorem State.ringFound_same (h : State.SameOutside m o s) (k : 36893488147419103232 ||| m = m) :
    State.SameOutside m o (State.ringFound s b1 b2 b3) := by
  unfold State.ringFound
  extract_lets -merge -useContext -underBinder x0
  have h1 : State.SameOutside m o x0 := (State.fset_same h (mask_trans rfl k) (pageMask_dud _ (mask_trans rfl k)))
  exact (State.showD_same (State.showCaps_same (State.showRtt_same h1 (mask_trans rfl k)) (mask_trans rfl k)) (mask_trans rfl k))

theorem State.enumPhase_same (h : State.SameOutside m o s) (k : 36893488149566588932 ||| m = m) :
    State.SameOutside m o (State.enumPhase s b1 b2) := by
  unfold State.enumPhase
  extract_lets -merge -useContext -underBinder x0 x1
  split
  · rename_i x2 x3
    split
    · rename_i x4 x5 x6
      exact (State.enumFail_same h (mask_trans rfl k))
    · rename_i x7 x8
      extract_lets -merge -useContext -underBinder x9 x10
      have h11 : State.SameOutside m o x10 := (State.ringSend_same (State.fset_same h (mask_trans rfl k) (pageMask_dud _ (mask_trans rfl k))) (mask_trans rfl k))
      exact (State.SameOutside.ite (State.enumFail_same h (mask_trans rfl k)) (State.startPhase_same h11 (mask_trans rfl k)))
  · rename_i x12 x13
    split
    · rename_i x14 x15 x16
      exact (State.enumFail_same h (mask_trans rfl k))
    · rename_i x17 x18
      extract_lets -merge -useContext -underBinder x19
      have h20 : State.SameOutside m o x19 := (State.ringFound_same h (mask_trans rfl k))
      exact (State.SameOutside.ite (State.enumFail_same h (mask_trans rfl k)) (State.startPhase_same h20 (mask_trans rfl k)))
  · rename_i x21 x22
    exact (State.SameOutside.ite (State.startPhase_same h (mask_trans rfl k)) (State.enumFail_same h (mask_trans rfl k)))
  · rename_i x23 x24 x25 x26
    extract_lets -merge -useContext -underBinder x27 x28
    have h29 : State.SameOutside m o x28 := (State.setDud_same h (mask_trans rfl k))
    exact (State.SameOutside.ite (State.cmdDone_same (State.showRing_same (State.fset_same h29 (mask_trans rfl k) (pageMask_dud _ (mask_trans rfl k))) (mask_trans rfl k)) (mask_trans rfl k) (pageMask_dud _ (mask_trans rfl k))) (State.enumFail_same h (mask_trans rfl k)))

theorem State.endOp_same (h : State.SameOutside m o s) (k : 36893488149566586880 ||| m = m) :
    State.SameOutside m o (State.endOp s b1 b2 b3) := by
  unfold State.endOp
  exact (State.SameOutside.ite (State.SameOutside.ite (State.cmdDone_same h (mask_trans rfl k) (pageMask_dud _ (mask_trans rfl k))) (State.cmdFail_same h (mask_trans rfl k) (pageMask_dud _ (mask_trans rfl k)))) h)

theorem State.takeoverTally_same (h : State.SameOutside m o s) (k : 36893489249078216836 ||| m = m) :
    State.SameOutside m o (State.takeoverTally s b1 b2) := by
  unfold State.takeoverTally
  extract_lets -merge -useContext -underBinder x0 x1 x2 x3 x4 x5
  have h6 : State.SameOutside m o x1 := (State.SameOutside.ite h (State.startPhase_same h (mask_trans rfl k)))
  have h7 : State.SameOutside m o x3 := (State.setDud_same h6 (mask_trans rfl k))
  have h8 : State.SameOutside m o x5 := (State.SameOutside.set_time h7 (mask_trans rfl k))
  exact (State.SameOutside.ite h6 (State.tallyRound_same (State.showRing_same (State.setTileLive_same h8 (mask_trans rfl k)) (mask_trans rfl k)) (mask_trans rfl k)))

theorem State.claimPhase_same (h : State.SameOutside m o s) (k : 36893489249078216836 ||| m = m) :
    State.SameOutside m o (State.claimPhase s b1 b2 b3) := by
  unfold State.claimPhase
  extract_lets -merge -useContext -underBinder x0 x1 x2 x3 x4 x5 x6 x7 x8 x9
  have h10 : State.SameOutside m o x4 := (State.setDud_same h (mask_trans rfl k))
  have h11 : State.SameOutside m o x6 := (State.SameOutside.ite (State.fset_same (State.fset_same (State.fset_same h10 (mask_trans rfl k) (pageMask_dud _ (mask_trans rfl k))) (mask_trans rfl k) (pageMask_dud _ (mask_trans rfl k))) (mask_trans rfl k) (pageMask_dud _ (mask_trans rfl k))) h10)
  have h12 : State.SameOutside m o x7 := (State.showRing_same h11 (mask_trans rfl k))
  have h13 : State.SameOutside m o x8 := (State.SameOutside.ite (State.evt_same h12 (mask_trans rfl k) (pageMask_dud _ (mask_trans rfl k))) h12)
  have h14 : State.SameOutside m o x9 := (State.SameOutside.ite h13 (State.takeoverTally_same h13 (mask_trans rfl k)))
  exact (State.SameOutside.ite (State.SameOutside.ite (State.SameOutside.ite (State.cmdFail_same h (mask_trans rfl k) (pageMask_dud _ (mask_trans rfl k))) h) (State.startPhase_same (State.fset_same h (mask_trans rfl k) (pageMask_dud _ (mask_trans rfl k))) (mask_trans rfl k))) (State.endOp_same h14 (mask_trans rfl k)))

theorem State.linkingAnswer_same (h : State.SameOutside m o s) (k : 562952134459392 ||| m = m) :
    State.SameOutside m o (State.linkingAnswer s b1 b2) := by
  unfold State.linkingAnswer
  extract_lets -merge -useContext -underBinder x0 x1 x2 x3 x4
  have h5 : State.SameOutside m o x4 := (State.SameOutside.set_pair h (mask_trans rfl k))
  exact (State.SameOutside.ite (State.SameOutside.ite h5 (State.SameOutside.ite (State.fset_same h5 (mask_trans rfl k) (pageMask_pair (mask_trans rfl k))) (State.fset_same (State.setPairState_same h5 (mask_trans rfl k)) (mask_trans rfl k) (pageMask_pair (mask_trans rfl k))))) h)

theorem State.queryPhase_same (h : State.SameOutside m o s) (k : 36894051099553562624 ||| m = m) :
    State.SameOutside m o (State.queryPhase s b1 b2 b3) := by
  unfold State.queryPhase
  extract_lets -merge -useContext -underBinder x0 x1
  have h2 : State.SameOutside m o x1 := (State.linkingAnswer_same (State.showD_same (State.showCaps_same (State.showRtt_same h (mask_trans rfl k)) (mask_trans rfl k)) (mask_trans rfl k)) (mask_trans rfl k))
  exact (State.SameOutside.ite (by
    split
    · rename_i x3 x4 x5
      exact (State.endOp_same h2 (mask_trans rfl k))
    · rename_i x6 x7
      extract_lets -merge -useContext -underBinder x8
      have h9 : State.SameOutside m o x8 := (State.fset_same (State.ringFound_same h2 (mask_trans rfl k)) (mask_trans rfl k) (pageMask_dud _ (mask_trans rfl k)))
      exact (State.endOp_same (State.showRing_same h9 (mask_trans rfl k)) (mask_trans rfl k))) (State.endOp_same h2 (mask_trans rfl k)))

theorem State.readmitPhase_same (h : State.SameOutside m o s) (k : 36894051099553564676 ||| m = m) :
    State.SameOutside m o (State.readmitPhase s b1 b2 b3) := by
  unfold State.readmitPhase
  extract_lets -merge -useContext -underBinder x0 x1 x2 x3 x4 x5 x6
  have h7 : State.SameOutside m o x3 := (State.SameOutside.ite (State.mirrorActive_same (State.setDud_same h (mask_trans rfl k)) (mask_trans rfl k)) h)
  have h8 : State.SameOutside m o x6 := (State.setDud_same h7 (mask_trans rfl k))
  exact (State.SameOutside.ite (State.endOp_same h7 (mask_trans rfl k)) (State.SameOutside.ite (State.startPhase_same h7 (mask_trans rfl k)) (State.endOp_same h8 (mask_trans rfl k))))

theorem State.phaseEnd_same (h : State.SameOutside m o s) (k : 73786975197527456740 ||| m = m) :
    State.SameOutside m o (State.phaseEnd s b1 b2) := by
  unfold State.phaseEnd
  extract_lets -merge -useContext -underBinder x0
  have h1 : State.SameOutside m o x0 := (State.showResult_same h (mask_trans rfl k))
  split
  · rename_i x2 x3
    exact (State.enumPhase_same h1 (mask_trans rfl k))
  · rename_i x4 x5 x6 x7 x8
    exact (State.claimPhase_same h1 (mask_trans rfl k))
  · rename_i x9 x10 x11
    exact (State.queryPhase_same h1 (mask_trans rfl k))
  · rename_i x12 x13 x14
    exact (State.endOp_same h1 (mask_trans rfl k))
  · rename_i x15 x16 x17
    exact (State.readmitPhase_same h1 (mask_trans rfl k))
  · rename_i x18 x19 x20
    exact (State.loseSinks_same h1 (mask_trans rfl k))
  · rename_i x21 x22
    exact h1
  · rename_i x23 x24
    exact h1

theorem State.opAnswer_same (h : State.SameOutside m o s) (k : 73786975197528505316 ||| m = m) :
    State.SameOutside m o (State.opAnswer s b1 b2 b3 b4 b5) := by
  unfold State.opAnswer
  extract_lets -merge -useContext -underBinder x0
  split
  · rename_i x1 x2
    exact (State.toReel2_same h (mask_trans rfl k))
  · rename_i x3 x4 x5 x6 x7
    extract_lets -merge -useContext -underBinder x8 x9 x10
    exact (State.SameOutside.ite (State.phaseEnd_same (State.setDud_same h (mask_trans rfl k)) (mask_trans rfl k)) (State.setDud_same h (mask_trans rfl k)))

theorem State.opTimeout_same (h : State.SameOutside m o s) (k : 73786975197527456740 ||| m = m) :
    State.SameOutside m o (State.opTimeout s b1 b2) := by
  unfold State.opTimeout
  split
  · rename_i x0 x1
    exact h
  · rename_i x2 x3 x4 x5 x6
    extract_lets -merge -useContext -underBinder x7 x8 x9 x10
    have h11 : State.SameOutside m o x8 := (State.sendPhase_same h (mask_trans rfl k))
    exact (State.SameOutside.ite (State.setDud_same h11 (mask_trans rfl k)) (State.phaseEnd_same (State.setDud_same h (mask_trans rfl k)) (mask_trans rfl k)))

theorem State.ackRx_same (h : State.SameOutside m o s) (k : 73786975197528505316 ||| m = m) :
    State.SameOutside m o (State.ackRx s b1 b2) := by
  unfold State.ackRx
  split
  · rename_i x0 x1 x2 x3
    have h4 : State.SameOutside m o x2 := State.SameOutside.of_eq2 x3 (State.rxOk_same h (mask_trans rfl k))
    extract_lets -merge -useContext -underBinder x5
    exact (State.SameOutside.ite h4 (State.opAnswer_same (State.checkEpoch_same h4 (mask_trans rfl k)) (mask_trans rfl k)))

theorem State.recordSink_same (h : State.SameOutside m o s) (k : 2048 ||| m = m) :
    State.SameOutside m o (State.recordSink s b1 b2 b3) := by
  unfold State.recordSink
  extract_lets -merge -useContext -underBinder x0 x1 x2
  exact (State.setSink_same h (mask_trans rfl k))

theorem State.queryRx_same (h : State.SameOutside m o s) (k : 73786975197528505316 ||| m = m) :
    State.SameOutside m o (State.queryRx s b1 b2) := by
  unfold State.queryRx
  split
  · rename_i x0 x1 x2 x3
    have h4 : State.SameOutside m o x2 := State.SameOutside.of_eq2 x3 (State.rxOk_same h (mask_trans rfl k))
    extract_lets -merge -useContext -underBinder x5 x6 x7 x8 x9 x10
    have h11 : State.SameOutside m o x9 := (State.checkEpoch_same (State.recordSink_same h4 (mask_trans rfl k)) (mask_trans rfl k))
    exact (State.SameOutside.ite h4 (State.opAnswer_same h11 (mask_trans rfl k)))

theorem State.enumLooped_same (h : State.SameOutside m o s) (k : 36893488147419105280 ||| m = m) :
    State.SameOutside m o (State.enumLooped s b1 b2) := by
  unfold State.enumLooped
  split
  · rename_i x0 x1 x2 x3
    have h4 : State.SameOutside m o x2 := State.SameOutside.of_eq2 x3 (State.rxOk_same h (mask_trans rfl k))
    extract_lets -merge -useContext -underBinder x5
    exact (State.SameOutside.ite h4 (State.setDud_same h4 (mask_trans rfl k)))

theorem State.responseTimeout_same (h : State.SameOutside m o s) (k : 73786975197527456740 ||| m = m) :
    State.SameOutside m o (State.responseTimeout s b1 b2) := by
  unfold State.responseTimeout
  exact (State.SameOutside.ite (State.tallyTimeout_same h (mask_trans rfl k)) (State.opTimeout_same h (mask_trans rfl k)))

theorem State.eventRx_same (h : State.SameOutside m o s) (k : 41505174167995549696 ||| m = m) :
    State.SameOutside m o (State.eventRx s b1 b2) := by
  unfold State.eventRx
  split
  · rename_i x0 x1 x2 x3
    have h4 : State.SameOutside m o x2 := State.SameOutside.of_eq2 x3 (State.rxOk_same h (mask_trans rfl k))
    exact (State.SameOutside.ite (State.toReel2_same h4 (mask_trans rfl k)) h4)

theorem State.enumerateStart_same (h : State.SameOutside m o s) (k : 36893491448101472388 ||| m = m) :
    State.SameOutside m o (State.enumerateStart s b1) := by
  unfold State.enumerateStart
  extract_lets -merge -useContext -underBinder x0 x1 x2
  have h3 : State.SameOutside m o x1 := (State.setDud_same (State.stopPort_same h (mask_trans rfl k)) (mask_trans rfl k))
  have h4 : State.SameOutside m o x2 := (State.fset_same (State.fset_same h3 (mask_trans rfl k) (pageMask_dud _ (mask_trans rfl k))) (mask_trans rfl k) (pageMask_dud _ (mask_trans rfl k)))
  exact (State.startPhase_same (State.showRing_same h4 (mask_trans rfl k)) (mask_trans rfl k))

theorem State.queryStart_same (h : State.SameOutside m o s) (k : 2147485700 ||| m = m) :
    State.SameOutside m o (State.queryStart s b1 b2) := by
  unfold State.queryStart
  extract_lets -merge -useContext -underBinder x0 x1
  exact (State.startPhase_same h (mask_trans rfl k))

theorem State.claimStart_same (h : State.SameOutside m o s) (k : 36893488149566588932 ||| m = m) :
    State.SameOutside m o (State.claimStart s b1 b2 b3 b4) := by
  unfold State.claimStart
  extract_lets -merge -useContext -underBinder x0
  exact (State.SameOutside.ite (State.endOp_same h (mask_trans rfl k)) (State.startPhase_same h (mask_trans rfl k)))

theorem State.readmitStart_same (h : State.SameOutside m o s) (k : 2147485700 ||| m = m) :
    State.SameOutside m o (State.readmitStart s b1 b2) := by
  unfold State.readmitStart
  extract_lets -merge -useContext -underBinder x0
  exact (State.SameOutside.ite h (State.startPhase_same h (mask_trans rfl k)))

theorem State.sendConfigStart_same (h : State.SameOutside m o s) (k : 36893488149566588932 ||| m = m) :
    State.SameOutside m o (State.sendConfigStart s b1 b2) := by
  unfold State.sendConfigStart
  extract_lets -merge -useContext -underBinder x0 x1
  exact (State.SameOutside.ite (State.cmdFail_same h (mask_trans rfl k) (pageMask_dud _ (mask_trans rfl k))) (by
    split
    · rename_i x2 x3 x4 x5
      have h6 : State.SameOutside m o x4 := State.SameOutside.of_eq2 x5 (State.fresh_same h (mask_trans rfl k))
      extract_lets -merge -useContext -underBinder x7
      exact (State.startOn_same h6 (mask_trans rfl k))))

theorem State.autoReadmit_same (h : State.SameOutside m o s) (k : 2147485700 ||| m = m) :
    State.SameOutside m o (State.autoReadmit s b1) := by
  unfold State.autoReadmit
  exact (State.SameOutside.ite (State.readmitStart_same h (mask_trans rfl k)) h)

theorem State.idleFrameset_same (h : State.SameOutside m o s) (k : 2147485830 ||| m = m) :
    State.SameOutside m o (State.idleFrameset s b1) := by
  unfold State.idleFrameset
  extract_lets -merge -useContext -underBinder x0
  have h1 : State.SameOutside m o x0 := (State.advanceTo_same h (mask_trans rfl k))
  exact (State.SameOutside.ite (State.ringSend_same h1 (mask_trans rfl k)) h)

theorem State.ringLockLoss_same (h : State.SameOutside m o s) (k : 2048 ||| m = m) :
    State.SameOutside m o (State.ringLockLoss s b1) := by
  unfold State.ringLockLoss
  extract_lets -merge -useContext -underBinder x0
  exact (State.setDud_same h (mask_trans rfl k))

theorem State.dudApplied_same (h : State.SameOutside m o s) (k : 36893488149566588932 ||| m = m) :
    State.SameOutside m o (State.dudApplied s b1 b2) := by
  unfold State.dudApplied
  extract_lets -merge -useContext -underBinder x0
  have h1 : State.SameOutside m o x0 := (State.SameOutside.ite (State.startOn_same h (mask_trans rfl k)) h)
  exact (State.showD_same h1 (mask_trans rfl k))

theorem State.rejoinSinks_same (h : State.SameOutside m o s) (k : 36893488149566588928 ||| m = m) :
    State.SameOutside m o (State.rejoinSinks s b1) := by
  unfold State.rejoinSinks
  extract_lets -merge -useContext -underBinder x0 x1 x2 x3
  have h4 : State.SameOutside m o x2 := (State.setDud_same h (mask_trans rfl k))
  have h5 : State.SameOutside m o x3 := (State.SameOutside.foldl h4 (fun a8 s6 h7 => (State.fset_same h7 (mask_trans rfl k) (pageMask_dud _ (mask_trans rfl k)))))
  exact (State.SameOutside.ite h (State.evt_same (State.showRing_same h5 (mask_trans rfl k)) (mask_trans rfl k) (pageMask_dud _ (mask_trans rfl k))))

theorem State.portBoundary_same (h : State.SameOutside m o s) (k : 36893491448101472388 ||| m = m) :
    State.SameOutside m o (State.portBoundary s b1 b2 b3 b4) := by
  unfold State.portBoundary
  extract_lets -merge -useContext -underBinder x0 x1 x2 x3 x4 x5 x6 x7 x8 x9 x10 x11 x12
  have h13 : State.SameOutside m o x1 := (State.setDud_same h (mask_trans rfl k))
  have h14 : State.SameOutside m o x2 := (State.rejoinSinks_same h13 (mask_trans rfl k))
  have h15 : State.SameOutside m o x4 := (State.SameOutside.ite (State.disown_same h14 (mask_trans rfl k)) (State.SameOutside.ite (State.claimStart_same (State.setDud_same h14 (mask_trans rfl k)) (mask_trans rfl k)) h14))
  have h16 : State.SameOutside m o x5 := (State.startOn_same (State.stopPort_same h15 (mask_trans rfl k)) (mask_trans rfl k))
  have h17 : State.SameOutside m o x9 := (State.setDud_same h15 (mask_trans rfl k))
  have h18 : State.SameOutside m o x11 := (State.SameOutside.set_time h17 (mask_trans rfl k))
  have h19 : State.SameOutside m o x12 := (State.showRing_same (State.setTileLive_same h18 (mask_trans rfl k)) (mask_trans rfl k))
  exact (State.SameOutside.ite (State.showRing_same (State.setDud_same h16 (mask_trans rfl k)) (mask_trans rfl k)) (State.SameOutside.ite (State.sendDrives_same h19 (mask_trans rfl k)) h15))

theorem State.portBlanking_same (h : State.SameOutside m o s) (k : 2147485700 ||| m = m) :
    State.SameOutside m o (State.portBlanking s b1 b2) := by
  unfold State.portBlanking
  extract_lets -merge -useContext -underBinder x0 x1 x2
  have h3 : State.SameOutside m o x2 := (State.ringSend_same h (mask_trans rfl k))
  exact (State.SameOutside.ite h (by
    split
    · rename_i x4 x5
      exact (State.startOn_same h3 (mask_trans rfl k))
    · rename_i x6
      exact h3))

end Sys2Proof.Machine
end

