-- ==== Sys2Proof/Laws/Frame/Diag.lean ====
section
/-! SUPPORT. What every command leaves alone: one lemma for each function of Machine/Diag.lean that changes the state. -/

namespace Sys2Proof.Machine

variable {o s : State} {m : Nat}

theorem State.record_same (h : State.SameOutside m o s) (k : 73786975197527473124 ||| m = m) :
    State.SameOutside m o (State.record s b1).2 := by
  unfold State.record
  extract_lets -merge -useContext -underBinder x0
  have h1 : State.SameOutside m o x0 := (State.diagDamage_same h (mask_trans rfl k))
  exact (State.SameOutside.ite2 (State.SameOutside.pr2 h) (State.SameOutside.pr2 h1))

theorem State.setRecord_same (h : State.SameOutside m o s) (k : 2814751948193792 ||| m = m) :
    State.SameOutside m o (State.setRecord s b1 b2) := by
  unfold State.setRecord
  extract_lets -merge -useContext -underBinder x0
  exact (State.admitWrite_same h (mask_trans rfl k))

theorem State.diagReport_same (h : State.SameOutside m o s) (k : 288230376151719936 ||| m = m) :
    State.SameOutside m o (State.diagReport s b1 b2 b3 b4 b5 b6) := by
  unfold State.diagReport
  extract_lets -merge -useContext -underBinder x0 x1
  exact (State.SameOutside.ite (State.finc_same h (mask_trans rfl k) (pageMask_diag (mask_trans rfl k))) (State.SameOutside.set_diag h (mask_trans rfl k)))

theorem State.reportVerdict_same (h : State.SameOutside m o s) (k : 288230378299203584 ||| m = m) :
    State.SameOutside m o (State.reportVerdict s b1 b2 b3) := by
  unfold State.reportVerdict
  extract_lets -merge -useContext -underBinder x0
  exact (State.SameOutside.ite h (State.evt_same (State.diagReport_same h (mask_trans rfl k)) (mask_trans rfl k) (pageMask_diag (mask_trans rfl k))))

theorem State.diagReportWrite_same (h : State.SameOutside m o s) (k : 4611686020576452608 ||| m = m) :
    State.SameOutside m o (State.diagReportWrite s) := by
  unfold State.diagReportWrite
  split
  · rename_i x0 x1
    exact h
  · rename_i x2 x3 x4 x5
    extract_lets -merge -useContext -underBinder x6 x7
    exact (State.SameOutside.ite (State.reelPush_same (State.SameOutside.set_diag h (mask_trans rfl k)) (mask_trans rfl k)) h)

theorem State.postChange_same (h : State.SameOutside m o s) (k : 562952134467584 ||| m = m) :
    State.SameOutside m o (State.postChange s b1 b2 b3) := by
  unfold State.postChange
  extract_lets -merge -useContext -underBinder x0 x1 x2
  have h3 : State.SameOutside m o x2 := (State.SameOutside.set_diag h (mask_trans rfl k))
  exact (State.mirrorActive_same h3 (mask_trans rfl k))

theorem State.postInto_same (h : State.SameOutside m o s) (k : 73786975197527456740 ||| m = m) :
    State.SameOutside m o (State.postInto s b1 b2 b3) := by
  unfold State.postInto
  extract_lets -merge -useContext -underBinder x0 x1 x2
  have h3 : State.SameOutside m o x2 := (State.evt_same (State.finc_same h (mask_trans rfl k) (pageMask_diag (mask_trans rfl k))) (mask_trans rfl k) (pageMask_diag (mask_trans rfl k)))
  exact (State.SameOutside.ite h (State.SameOutside.ite (State.postChange_same h (mask_trans rfl k)) (State.reportDrop_same (State.diagReport_same h3 (mask_trans rfl k)) (mask_trans rfl k))))

theorem State.postOut_same (h : State.SameOutside m o s) (k : 562952134467584 ||| m = m) :
    State.SameOutside m o (State.postOut s b1 b2) := by
  unfold State.postOut
  exact (State.SameOutside.ite h (State.postChange_same h (mask_trans rfl k)))

theorem State.postCode_same (h : State.SameOutside m o s) (k : 73786975197527456740 ||| m = m) :
    State.SameOutside m o (State.postCode s b1 b2) := by
  unfold State.postCode
  exact (State.SameOutside.ite (State.postInto_same h (mask_trans rfl k)) (State.postOut_same h (mask_trans rfl k)))

theorem State.listBoundary_same (h : State.SameOutside m o s) (k : 288230376151719936 ||| m = m) :
    State.SameOutside m o (State.listBoundary s b1) := by
  unfold State.listBoundary
  extract_lets -merge -useContext -underBinder x0 x1 x2 x3 x4
  have h5 : State.SameOutside m o x4 := (State.SameOutside.set_diag h (mask_trans rfl k))
  exact (State.fsetB_same (State.fset_same h5 (mask_trans rfl k) (pageMask_diag (mask_trans rfl k))) (mask_trans rfl k) (pageMask_diag (mask_trans rfl k)))

theorem State.result_same (h : State.SameOutside m o s) (k : 73786975197527473124 ||| m = m) :
    State.SameOutside m o (State.result s b1 b2 b3 b4) := by
  unfold State.result
  split
  · rename_i x0 x1 x2 x3
    have h4 : State.SameOutside m o x2 := State.SameOutside.of_eq2 x3 (State.record_same h (mask_trans rfl k))
    split
    · rename_i x5
      exact h4
    · rename_i x6 x7
      split
      · rename_i x8 x9 x10 x11
        split
        · rename_i x12
          exact h4
        · rename_i x13 x14
          extract_lets -merge -useContext -underBinder x15 x16
          have h17 : State.SameOutside m o x16 := (State.setRecord_same h4 (mask_trans rfl k))
          exact (State.SameOutside.ite h17 (State.reportVerdict_same (State.postCode_same h17 (mask_trans rfl k)) (mask_trans rfl k)))

theorem State.markDue_same (h : State.SameOutside m o s) (k : 8192 ||| m = m) :
    State.SameOutside m o (State.markDue s b1 b2 b3) := by
  unfold State.markDue
  extract_lets -merge -useContext -underBinder x0 x1
  exact (State.SameOutside.set_diag h (mask_trans rfl k))

theorem State.sendProbe_same (h : State.SameOutside m o s) (k : 288230378299205636 ||| m = m) :
    State.SameOutside m o (State.sendProbe s b1 b2) := by
  unfold State.sendProbe
  extract_lets -merge -useContext -underBinder x0 x1 x2 x3 x4 x5
  have h6 : State.SameOutside m o x4 := (State.ringSend_same h (mask_trans rfl k))
  exact (State.SameOutside.ite h (State.fadd_same (State.SameOutside.set_diag h6 (mask_trans rfl k)) (mask_trans rfl k) (pageMask_diag (mask_trans rfl k))))

theorem State.sendProbes_same (h : State.SameOutside m o s) (k : 288230378299205636 ||| m = m) :
    State.SameOutside m o (State.sendProbes s b1) := by
  unfold State.sendProbes
  extract_lets -merge -useContext -underBinder x0 x1 x2
  have h3 : State.SameOutside m o x2 := (State.SameOutside.set_diag h (mask_trans rfl k))
  exact (State.SameOutside.foldl h3 (fun a6 s4 h5 => (State.SameOutside.ite (State.sendProbe_same h5 (mask_trans rfl k)) h5)))

theorem State.diagRequest_same (h : State.SameOutside m o s) (k : 2147493892 ||| m = m) :
    State.SameOutside m o (State.diagRequest s b1 b2 b3) := by
  unfold State.diagRequest
  extract_lets -merge -useContext -underBinder x0 x1
  have h2 : State.SameOutside m o x0 := (State.ringSend_same h (mask_trans rfl k))
  exact (State.SameOutside.ite h (State.SameOutside.set_diag h2 (mask_trans rfl k)))

theorem State.diagEntry_same (h : State.SameOutside m o s) (k : 73786975197527473124 ||| m = m) :
    State.SameOutside m o (State.diagEntry s b1 b2 b3 b4) := by
  unfold State.diagEntry
  extract_lets -merge -useContext -underBinder x0 x1
  split
  · rename_i x2 x3 x4
    extract_lets -merge -useContext -underBinder x5 x6 x7
    have h8 : State.SameOutside m o x6 := (State.SameOutside.set_diag h (mask_trans rfl k))
    have h9 : State.SameOutside m o x7 := (State.result_same h8 (mask_trans rfl k))
    exact (State.SameOutside.ite (State.SameOutside.ite (State.finc_same h8 (mask_trans rfl k) (pageMask_diag (mask_trans rfl k))) (by
    split
    · rename_i x10 x11 x12 x13
      have h14 : State.SameOutside m o x12 := State.SameOutside.of_eq2 x13 (State.record_same h9 (mask_trans rfl k))
      split
      · rename_i x15 x16
        exact (State.SameOutside.ite (State.markDue_same h14 (mask_trans rfl k)) h14)
      · rename_i x17
        exact h14)) (State.result_same h (mask_trans rfl k)))
  · rename_i x18 x19
    exact (State.result_same h (mask_trans rfl k))

theorem State.diagTake_same (h : State.SameOutside m o s) (k : 73786975197527473124 ||| m = m) :
    State.SameOutside m o (State.diagTake s b1 b2 b3 b4) := by
  unfold State.diagTake
  extract_lets -merge -useContext -underBinder x0 x1 x2 x3 x4 x5
  have h6 : State.SameOutside m o x4 := (State.SameOutside.set_diag h (mask_trans rfl k))
  have h7 : State.SameOutside m o x5 := (State.SameOutside.foldl h6 (fun a10 s8 h9 => (State.diagEntry_same h9 (mask_trans rfl k))))
  exact (State.SameOutside.ite h6 (State.sendProbes_same h7 (mask_trans rfl k)))

theorem State.diagRx_same (h : State.SameOutside m o s) (k : 73786975197528521700 ||| m = m) :
    State.SameOutside m o (State.diagRx s b1 b2) := by
  unfold State.diagRx
  split
  · rename_i x0 x1 x2 x3
    have h4 : State.SameOutside m o x2 := State.SameOutside.of_eq2 x3 (State.rxOk_same h (mask_trans rfl k))
    extract_lets -merge -useContext -underBinder x5 x6 x7
    have h8 : State.SameOutside m o x6 := (State.checkEpoch_same h4 (mask_trans rfl k))
    exact (State.SameOutside.ite h4 (by
    split
    · rename_i x9 x10
      exact (State.toReel2_same h8 (mask_trans rfl k))
    · rename_i x11 x12 x13
      extract_lets -merge -useContext -underBinder x14 x15 x16 x17
      have h18 : State.SameOutside m o x17 := (State.SameOutside.set_diag h8 (mask_trans rfl k))
      exact (State.SameOutside.ite (State.mirror_same h18 (mask_trans rfl k)) (State.diagTake_same h18 (mask_trans rfl k)))))

theorem State.diagTimeout_same (h : State.SameOutside m o s) (k : 288230376151719936 ||| m = m) :
    State.SameOutside m o (State.diagTimeout s b1) := by
  unfold State.diagTimeout
  split
  · rename_i x0 x1
    exact h
  · rename_i x2 x3 x4
    extract_lets -merge -useContext -underBinder x5
    exact (State.finc_same (State.SameOutside.set_diag h (mask_trans rfl k)) (mask_trans rfl k) (pageMask_diag (mask_trans rfl k)))

theorem State.visitEmitter_same (h : State.SameOutside m o s) (k : 73786975197527473124 ||| m = m) :
    State.SameOutside m o (State.visitEmitter s b1 b2) := by
  unfold State.visitEmitter
  split
  · rename_i x0 x1 x2 x3
    have h4 : State.SameOutside m o x2 := State.SameOutside.of_eq2 x3 (State.record_same h (mask_trans rfl k))
    split
    · rename_i x5
      exact h4
    · rename_i x6 x7
      extract_lets -merge -useContext -underBinder x8 x9 x10 x11
      have h12 : State.SameOutside m o x10 := (State.setRecord_same h4 (mask_trans rfl k))
      have h13 : State.SameOutside m o x11 := (State.SameOutside.ite (State.postInto_same h12 (mask_trans rfl k)) h12)
      exact (State.SameOutside.ite (State.markDue_same h13 (mask_trans rfl k)) h13)

theorem State.sweepEnd_same (h : State.SameOutside m o s) (k : 288230378299203584 ||| m = m) :
    State.SameOutside m o (State.sweepEnd s) := by
  unfold State.sweepEnd
  extract_lets -merge -useContext -underBinder x0 x1 x2 x3 x4 x5 x6 x7
  have h8 : State.SameOutside m o x2 := (State.SameOutside.foldl h (fun a11 s9 h10 => (by
    extract_lets -merge -useContext -underBinder x12 x13 x14
    have h15 : State.SameOutside m o x13 := (State.SameOutside.ite h10 (State.evt_same (State.diagReport_same h10 (mask_trans rfl k)) (mask_trans rfl k) (pageMask_diag (mask_trans rfl k))))
    have h16 : State.SameOutside m o x14 := (State.SameOutside.ite h15 (State.evt_same (State.diagReport_same h15 (mask_trans rfl k)) (mask_trans rfl k) (pageMask_diag (mask_trans rfl k))))
    try unfold x1
    exact (State.SameOutside.ite h16 (State.evt_same (State.diagReport_same h16 (mask_trans rfl k)) (mask_trans rfl k) (pageMask_diag (mask_trans rfl k)))))))
  have h17 : State.SameOutside m o x5 := (State.SameOutside.foldl h8 (fun a20 s18 h19 => (State.fset_same h19 (mask_trans rfl k) (pageMask_diag (mask_trans rfl k)))))
  have h21 : State.SameOutside m o x7 := (State.SameOutside.set_diag h17 (mask_trans rfl k))
  exact (State.evt_same (State.fwrap_same h21 (mask_trans rfl k) (pageMask_diag (mask_trans rfl k))) (mask_trans rfl k) (pageMask_diag (mask_trans rfl k)))

theorem State.diagVisit_same (h : State.SameOutside m o s) (k : 73786975197527473124 ||| m = m) :
    State.SameOutside m o (State.diagVisit s b1 b2 b3 b4) := by
  unfold State.diagVisit
  extract_lets -merge -useContext -underBinder x0 x1 x2 x3 x4
  have h5 : State.SameOutside m o x2 := (State.SameOutside.set_diag h (mask_trans rfl k))
  have h6 : State.SameOutside m o x3 := (State.SameOutside.foldl h5 (fun a9 s7 h8 => (State.SameOutside.foldl h8 (fun a12 s10 h11 => (State.visitEmitter_same h11 (mask_trans rfl k))))))
  have h13 : State.SameOutside m o x4 := (State.SameOutside.ite h (State.SameOutside.ite (State.sendProbes_same (State.diagRequest_same h6 (mask_trans rfl k)) (mask_trans rfl k)) h6))
  exact (State.SameOutside.ite h (State.SameOutside.ite (State.sweepEnd_same h13 (mask_trans rfl k)) h13))

theorem State.initMapDone_same (h : State.SameOutside m o s) (k : 291045128099913728 ||| m = m) :
    State.SameOutside m o (State.initMapDone s) := by
  unfold State.initMapDone
  extract_lets -merge -useContext -underBinder x0 x1 x2 x3 x4 x5
  have h6 : State.SameOutside m o x1 := (State.SameOutside.foldl h (fun a9 s7 h8 => (State.postOut_same (State.setRecord_same h8 (mask_trans rfl k)) (mask_trans rfl k))))
  have h10 : State.SameOutside m o x4 := (State.SameOutside.set_diag h6 (mask_trans rfl k))
  have h11 : State.SameOutside m o x5 := (State.SameOutside.ite (State.fset_same h10 (mask_trans rfl k) (pageMask_diag (mask_trans rfl k))) h10)
  exact (State.SameOutside.ite h (State.cmdDone_same (State.fset_same h11 (mask_trans rfl k) (pageMask_diag (mask_trans rfl k))) (mask_trans rfl k) (pageMask_diag (mask_trans rfl k))))

theorem State.buildListDone_same (h : State.SameOutside m o s) (k : 73786975197527473124 ||| m = m) :
    State.SameOutside m o (State.buildListDone s) := by
  unfold State.buildListDone
  extract_lets -merge -useContext -underBinder x0
  have h1 : State.SameOutside m o x0 := (State.SameOutside.foldl h (fun a4 s2 h3 => (by
    split
    · rename_i x5 x6 x7 x8
      have h9 : State.SameOutside m o x7 := State.SameOutside.of_eq2 x8 (State.record_same h3 (mask_trans rfl k))
      split
      · rename_i x10 x11
        exact (State.SameOutside.ite (State.postInto_same h9 (mask_trans rfl k)) (State.postOut_same h9 (mask_trans rfl k)))
      · rename_i x12
        exact h9)))
  exact (State.SameOutside.ite h (State.cmdDone_same (State.fset_same (State.fset_same h1 (mask_trans rfl k) (pageMask_diag (mask_trans rfl k))) (mask_trans rfl k) (pageMask_diag (mask_trans rfl k))) (mask_trans rfl k) (pageMask_diag (mask_trans rfl k))))

theorem State.relearn_same (h : State.SameOutside m o s) (k : 73786975197527473124 ||| m = m) :
    State.SameOutside m o (State.relearn s b1) := by
  unfold State.relearn
  exact (State.SameOutside.foldl h (fun a2 s0 h1 => (by
    split
    · rename_i x3 x4 x5 x6
      have h7 : State.SameOutside m o x5 := State.SameOutside.of_eq2 x6 (State.record_same h1 (mask_trans rfl k))
      split
      · rename_i x8 x9
        extract_lets -merge -useContext -underBinder x10
        exact (State.reportVerdict_same (State.setRecord_same h7 (mask_trans rfl k)) (mask_trans rfl k))
      · rename_i x11
        exact h7)))

theorem State.clearVerdict_same (h : State.SameOutside m o s) (k : 73786975197527473124 ||| m = m) :
    State.SameOutside m o (State.clearVerdict s b1) := by
  unfold State.clearVerdict
  split
  · rename_i x0 x1 x2 x3
    have h4 : State.SameOutside m o x2 := State.SameOutside.of_eq2 x3 (State.record_same h (mask_trans rfl k))
    split
    · rename_i x5 x6
      exact (State.postOut_same (State.setRecord_same h4 (mask_trans rfl k)) (mask_trans rfl k))
    · rename_i x7
      exact (State.postOut_same h4 (mask_trans rfl k))

theorem State.diagApplied_same (h : State.SameOutside m o s) (k : 288230376151719936 ||| m = m) :
    State.SameOutside m o (State.diagApplied s b1) := by
  unfold State.diagApplied
  extract_lets -merge -useContext -underBinder x0 x1
  have h2 : State.SameOutside m o x0 := (State.fset_same h (mask_trans rfl k) (pageMask_diag (mask_trans rfl k)))
  exact (State.SameOutside.ite (State.SameOutside.set_diag h2 (mask_trans rfl k)) h)

theorem State.probeBlocked_same (h : State.SameOutside m o s) (k : 288230378299195392 ||| m = m) :
    State.SameOutside m o (State.probeBlocked s) := by
  unfold State.probeBlocked
  extract_lets -merge -useContext -underBinder x0 x1 x2
  have h3 : State.SameOutside m o x2 := (State.fsetB_same h (mask_trans rfl k) (pageMask_diag (mask_trans rfl k)))
  exact (State.SameOutside.ite (State.evt_same h3 (mask_trans rfl k) (pageMask_diag (mask_trans rfl k))) h3)

theorem State.probeRequests_same (h : State.SameOutside m o s) (k : 2147493892 ||| m = m) :
    State.SameOutside m o (State.probeRequests s b1) := by
  unfold State.probeRequests
  extract_lets -merge -useContext -underBinder x0
  exact (State.SameOutside.foldl h (fun a3 s1 h2 => (by
    extract_lets -merge -useContext -underBinder x4
    exact (State.SameOutside.foldl h2 (fun a7 s5 h6 => (State.diagRequest_same h6 (mask_trans rfl k)))))))

theorem State.keepMatte_same (h : State.SameOutside m o s) (k : 8192 ||| m = m) :
    State.SameOutside m o (State.keepMatte s) := by
  unfold State.keepMatte
  extract_lets -merge -useContext -underBinder x0
  exact (State.SameOutside.set_diag h (mask_trans rfl k))

theorem State.diagBoundary_same (h : State.SameOutside m o s) (k : 288230378299205636 ||| m = m) :
    State.SameOutside m o (State.diagBoundary s b1) := by
  unfold State.diagBoundary
  extract_lets -merge -useContext -underBinder x0 x1 x2 x3 x4 x5
  have h6 : State.SameOutside m o x0 := (State.listBoundary_same h (mask_trans rfl k))
  have h7 : State.SameOutside m o x2 := (State.SameOutside.ite (State.SameOutside.set_diag h6 (mask_trans rfl k)) h6)
  have h8 : State.SameOutside m o x4 := (State.SameOutside.set_diag h7 (mask_trans rfl k))
  have h9 : State.SameOutside m o x5 := (State.probeBlocked_same h8 (mask_trans rfl k))
  exact (State.SameOutside.ite (State.SameOutside.foldl (State.probeRequests_same h9 (mask_trans rfl k)) (fun a12 s10 h11 => (State.sendProbes_same h11 (mask_trans rfl k)))) h9)

end Sys2Proof.Machine
end

