-- ==== Sys2Proof/Laws/Frame/LinkCore.lean ====
section
/-! SUPPORT. What every command leaves alone: one lemma for each function of Machine/LinkCore.lean that changes the state. -/

namespace Sys2Proof.Machine

variable {o s : State} {m : Nat}

theorem State.setLink_same (h : State.SameOutside m o s) (k : 32 ||| m = m) :
    State.SameOutside m o (State.setLink s b1 b2) := by
  unfold State.setLink
  exact (State.SameOutside.set_links h (mask_trans rfl k))

theorem State.truncate_same (h : State.SameOutside m o s) (k : 9223372036854775840 ||| m = m) :
    State.SameOutside m o (State.truncate s b1 b2) := by
  unfold State.truncate
  extract_lets -merge -useContext -underBinder x0
  split
  · rename_i x1 x2
    exact h
  · rename_i x3 x4 x5
    exact (State.fadd_same (State.setLink_same h (mask_trans rfl k)) (mask_trans rfl k) (pageMask_link _ (mask_trans rfl k)))

theorem State.truncateAll_same (h : State.SameOutside m o s) (k : 9223372036854775840 ||| m = m) :
    State.SameOutside m o (State.truncateAll s b1) := by
  unfold State.truncateAll
  exact (State.SameOutside.foldl h (fun a2 s0 h1 => (State.truncate_same h1 (mask_trans rfl k))))

theorem State.showActive_same (h : State.SameOutside m o s) (k : 9223372036854775808 ||| m = m) :
    State.SameOutside m o (State.showActive s) := by
  unfold State.showActive
  extract_lets -merge -useContext -underBinder x0 x1
  have h2 : State.SameOutside m o x1 := (State.fsetB_same (State.fsetB_same h (mask_trans rfl k) (pageMask_link _ (mask_trans rfl k))) (mask_trans rfl k) (pageMask_link _ (mask_trans rfl k)))
  exact (State.fsetB_same h2 (mask_trans rfl k) (pageMask_link _ (mask_trans rfl k)))

theorem State.switchUp_same (h : State.SameOutside m o s) (k : 9223372039002259552 ||| m = m) :
    State.SameOutside m o (State.switchUp s b1) := by
  unfold State.switchUp
  extract_lets -merge -useContext -underBinder x0 x1 x2 x3 x4
  have h5 : State.SameOutside m o x1 := (State.SameOutside.ite (State.truncateAll_same h (mask_trans rfl k)) h)
  have h6 : State.SameOutside m o x3 := (State.SameOutside.set_transport h5 (mask_trans rfl k))
  have h7 : State.SameOutside m o x4 := (State.finc_same (State.fset_same (State.fset_same h6 (mask_trans rfl k) (pageMask_link _ (mask_trans rfl k))) (mask_trans rfl k) (pageMask_link _ (mask_trans rfl k))) (mask_trans rfl k) (pageMask_link _ (mask_trans rfl k)))
  exact (State.showActive_same (State.evt_same (State.evt_same h7 (mask_trans rfl k) (pageMask_link _ (mask_trans rfl k))) (mask_trans rfl k) (pageMask_link _ (mask_trans rfl k))) (mask_trans rfl k))

theorem State.trackPref_same (h : State.SameOutside m o s) (k : 64 ||| m = m) :
    State.SameOutside m o (State.trackPref s) := by
  unfold State.trackPref
  extract_lets -merge -useContext -underBinder x0 x1
  exact (State.SameOutside.set_transport h (mask_trans rfl k))

theorem State.evalUp_same (h : State.SameOutside m o s) (k : 9223372039002259552 ||| m = m) :
    State.SameOutside m o (State.evalUp s) := by
  unfold State.evalUp
  extract_lets -merge -useContext -underBinder x0 x1 x2
  have h3 : State.SameOutside m o x0 := (State.trackPref_same h (mask_trans rfl k))
  exact (State.SameOutside.ite (State.switchUp_same h3 (mask_trans rfl k)) (State.showActive_same h3 (mask_trans rfl k)))

theorem State.unseeBurst_same (h : State.SameOutside m o s) (k : 32 ||| m = m) :
    State.SameOutside m o (State.unseeBurst s b1) := by
  unfold State.unseeBurst
  extract_lets -merge -useContext -underBinder x0
  exact (State.setLink_same h (mask_trans rfl k))

theorem State.boundaryUp_same (h : State.SameOutside m o s) (k : 9223372039002259552 ||| m = m) :
    State.SameOutside m o (State.boundaryUp s) := by
  unfold State.boundaryUp
  extract_lets -merge -useContext -underBinder x0 x1 x2 x3 x4 x5 x6 x7 x8 x9 x10 x11
  have h12 : State.SameOutside m o x5 := (State.unseeBurst_same (State.unseeBurst_same (State.SameOutside.set_transport h (mask_trans rfl k)) (mask_trans rfl k)) (mask_trans rfl k))
  have h13 : State.SameOutside m o x6 := (State.evalUp_same h12 (mask_trans rfl k))
  have h14 : State.SameOutside m o x11 := (State.SameOutside.set_transport h13 (mask_trans rfl k))
  exact (State.SameOutside.ite h13 (State.SameOutside.ite (State.switchUp_same h13 (mask_trans rfl k)) (State.SameOutside.ite (State.switchUp_same h14 (mask_trans rfl k)) (State.SameOutside.ite (State.switchUp_same h14 (mask_trans rfl k)) h14))))

theorem State.revertHoldoff_same (h : State.SameOutside m o s) (k : 130 ||| m = m) :
    State.SameOutside m o (State.revertHoldoff s) := by
  unfold State.revertHoldoff
  split
  · rename_i x0 x1 x2
    exact (State.advanceTo_same h (mask_trans rfl k))
  · rename_i x3 x4
    exact h

theorem State.setLinkState_same (h : State.SameOutside m o s) (k : 13835058057431220320 ||| m = m) :
    State.SameOutside m o (State.setLinkState s b1 b2 b3) := by
  unfold State.setLinkState
  extract_lets -merge -useContext -underBinder x0 x1 x2 x3
  have h4 : State.SameOutside m o x1 := (State.fset_same (State.fset_same h (mask_trans rfl k) (pageMask_link _ (mask_trans rfl k))) (mask_trans rfl k) (pageMask_link _ (mask_trans rfl k)))
  have h5 : State.SameOutside m o x3 := (State.SameOutside.ite h4 (State.reelPush_same h4 (mask_trans rfl k)))
  exact (State.evalUp_same h5 (mask_trans rfl k))

theorem State.sendAuth_same (h : State.SameOutside m o s) (k : 2147483648 ||| m = m) :
    State.SameOutside m o (State.sendAuth s b1 b2 b3) := by
  unfold State.sendAuth
  extract_lets -merge -useContext -underBinder x0
  exact (State.emit_same h (mask_trans rfl k))

theorem State.sendProof_same (h : State.SameOutside m o s) (k : 2147483648 ||| m = m) :
    State.SameOutside m o (State.sendProof s b1) := by
  unfold State.sendProof
  extract_lets -merge -useContext -underBinder x0
  split
  · rename_i x1 x2 x3
    extract_lets -merge -useContext -underBinder x4
    exact (State.sendAuth_same h (mask_trans rfl k))
  · rename_i x5 x6
    exact h

theorem State.authFail_same (h : State.SameOutside m o s) (k : 13835058057431220320 ||| m = m) :
    State.SameOutside m o (State.authFail s b1 b2) := by
  unfold State.authFail
  extract_lets -merge -useContext -underBinder x0 x1 x2
  have h3 : State.SameOutside m o x1 := (State.setLink_same h (mask_trans rfl k))
  have h4 : State.SameOutside m o x2 := (State.setLinkState_same (State.finc_same h3 (mask_trans rfl k) (pageMask_link _ (mask_trans rfl k))) (mask_trans rfl k))
  exact (State.evt_same h4 (mask_trans rfl k) (pageMask_link _ (mask_trans rfl k)))

theorem State.authOk_same (h : State.SameOutside m o s) (k : 13835621007418196064 ||| m = m) :
    State.SameOutside m o (State.authOk s b1 b2) := by
  unfold State.authOk
  extract_lets -merge -useContext -underBinder x0 x1 x2 x3 x4
  have h5 : State.SameOutside m o x1 := (State.SameOutside.ite (State.SameOutside.set_transport h (mask_trans rfl k)) h)
  have h6 : State.SameOutside m o x3 := (State.setLink_same h5 (mask_trans rfl k))
  have h7 : State.SameOutside m o x4 := (State.evt_same (State.setLinkState_same (State.finc_same h6 (mask_trans rfl k) (pageMask_link _ (mask_trans rfl k))) (mask_trans rfl k)) (mask_trans rfl k) (pageMask_link _ (mask_trans rfl k)))
  exact (State.SameOutside.ite (State.flushMirror_same h7 (mask_trans rfl k)) h7)

theorem State.authProof_same (h : State.SameOutside m o s) (k : 13835621007418196064 ||| m = m) :
    State.SameOutside m o (State.authProof s b1 b2) := by
  unfold State.authProof
  extract_lets -merge -useContext -underBinder x0
  exact (State.SameOutside.ite h (by
    split
    · rename_i x1 x2
      exact (State.authFail_same h (mask_trans rfl k))
    · rename_i x3 x4 x5
      extract_lets -merge -useContext -underBinder x6 x7
      exact (State.SameOutside.ite (State.authFail_same h (mask_trans rfl k)) (State.SameOutside.ite (State.authOk_same h (mask_trans rfl k)) (State.authFail_same h (mask_trans rfl k))))))

theorem State.authChallenge_same (h : State.SameOutside m o s) (k : 2147483680 ||| m = m) :
    State.SameOutside m o (State.authChallenge s b1 b2) := by
  unfold State.authChallenge
  extract_lets -merge -useContext -underBinder x0
  exact (State.SameOutside.ite h (State.sendProof_same (State.setLink_same h (mask_trans rfl k)) (mask_trans rfl k)))

theorem State.authTimeout_same (h : State.SameOutside m o s) (k : 13835058057431220450 ||| m = m) :
    State.SameOutside m o (State.authTimeout s b1) := by
  unfold State.authTimeout
  extract_lets -merge -useContext -underBinder x0
  exact (State.SameOutside.ite h (State.authFail_same (State.advanceTo_same h (mask_trans rfl k)) (mask_trans rfl k)))

theorem State.authRetry_same (h : State.SameOutside m o s) (k : 2147483814 ||| m = m) :
    State.SameOutside m o (State.authRetry s b1) := by
  unfold State.authRetry
  extract_lets -merge -useContext -underBinder x0 x1
  have h2 : State.SameOutside m o x1 := (State.advanceTo_same h (mask_trans rfl k))
  exact (State.SameOutside.ite h (by
    split
    · rename_i x3 x4 x5 x6
      have h7 : State.SameOutside m o x5 := State.SameOutside.of_eq2 x6 (State.fresh_same h2 (mask_trans rfl k))
      extract_lets -merge -useContext -underBinder x8
      have h9 : State.SameOutside m o x8 := (State.setLink_same h7 (mask_trans rfl k))
      exact (State.sendAuth_same h9 (mask_trans rfl k))))

theorem State.linkUp_same (h : State.SameOutside m o s) (k : 13835058057431220320 ||| m = m) :
    State.SameOutside m o (State.linkUp s b1 b2 b3 b4 b5 b6) := by
  unfold State.linkUp
  extract_lets -merge -useContext -underBinder x0 x1 x2 x3
  have h4 : State.SameOutside m o x0 := (State.fset_same (State.fsetB_same (State.fset_same h (mask_trans rfl k) (pageMask_link _ (mask_trans rfl k))) (mask_trans rfl k) (pageMask_link _ (mask_trans rfl k))) (mask_trans rfl k) (pageMask_link _ (mask_trans rfl k)))
  have h5 : State.SameOutside m o x2 := (State.setLink_same h4 (mask_trans rfl k))
  have h6 : State.SameOutside m o x3 := (State.evt_same (State.setLinkState_same h5 (mask_trans rfl k)) (mask_trans rfl k) (pageMask_link _ (mask_trans rfl k)))
  exact (State.sendProof_same h6 (mask_trans rfl k))

theorem State.linkDown_same (h : State.SameOutside m o s) (k : 73786975197475635296 ||| m = m) :
    State.SameOutside m o (State.linkDown s b1) := by
  unfold State.linkDown
  extract_lets -merge -useContext -underBinder x0 x1 x2 x3
  have h4 : State.SameOutside m o x0 := (State.truncateAll_same h (mask_trans rfl k))
  have h5 : State.SameOutside m o x2 := (State.setLink_same h4 (mask_trans rfl k))
  have h6 : State.SameOutside m o x3 := (State.setLinkState_same (State.fset_same (State.fset_same h5 (mask_trans rfl k) (pageMask_link _ (mask_trans rfl k))) (mask_trans rfl k) (pageMask_link _ (mask_trans rfl k))) (mask_trans rfl k))
  exact (State.breakLocksOf_same (State.evt_same h6 (mask_trans rfl k) (pageMask_link _ (mask_trans rfl k))) (mask_trans rfl k))

theorem State.showKey_same (h : State.SameOutside m o s) (k : 9223372036854775808 ||| m = m) :
    State.SameOutside m o (State.showKey s) := by
  unfold State.showKey
  split
  · rename_i x0 x1 x2
    exact (State.fset_same (State.fset_same h (mask_trans rfl k) (pageMask_link _ (mask_trans rfl k))) (mask_trans rfl k) (pageMask_link _ (mask_trans rfl k)))
  · rename_i x3 x4
    exact (State.fset_same (State.fset_same h (mask_trans rfl k) (pageMask_link _ (mask_trans rfl k))) (mask_trans rfl k) (pageMask_link _ (mask_trans rfl k)))

theorem State.keyLoad_same (h : State.SameOutside m o s) (k : 9223372036854775872 ||| m = m) :
    State.SameOutside m o (State.keyLoad s) := by
  unfold State.keyLoad
  extract_lets -merge -useContext -underBinder x0 x1 x2 x3
  have h4 : State.SameOutside m o x2 := (State.SameOutside.foldl h (fun a7 s5 h6 => (State.fset_same h6 (mask_trans rfl k) (pageMask_link _ (mask_trans rfl k)))))
  exact (State.showKey_same (State.SameOutside.set_transport h4 (mask_trans rfl k)) (mask_trans rfl k))

theorem State.keyClear_same (h : State.SameOutside m o s) (k : 9223372036854775872 ||| m = m) :
    State.SameOutside m o (State.keyClear s) := by
  unfold State.keyClear
  extract_lets -merge -useContext -underBinder x0
  exact (State.showKey_same (State.SameOutside.set_transport h (mask_trans rfl k)) (mask_trans rfl k))

end Sys2Proof.Machine
end

