-- ==== Sys2Proof/Laws/Frame/Lanes.lean ====
section
/-! SUPPORT. What every command leaves alone: one lemma for each function of Machine/Lanes.lean that changes the state. -/

namespace Sys2Proof.Machine

variable {o s : State} {m : Nat}

theorem State.setLane_same (h : State.SameOutside m o s) (k : 8 ||| m = m) :
    State.SameOutside m o (State.setLane s b1 b2) := by
  unfold State.setLane
  exact (State.SameOutside.set_lanes h (mask_trans rfl k))

theorem State.setTrain_same (h : State.SameOutside m o s) (k : 16 ||| m = m) :
    State.SameOutside m o (State.setTrain s b1 b2) := by
  unfold State.setTrain
  exact (State.SameOutside.set_trains h (mask_trans rfl k))

theorem State.allLanes_same (h : State.SameOutside m o s) (k : 18446744073709551616 ||| m = m) :
    State.SameOutside m o (State.allLanes s b1 b2 b3) := by
  unfold State.allLanes
  exact (State.SameOutside.foldl h (fun a2 s0 h1 => (State.fset_same h1 (mask_trans rfl k) (pageMask_lane _ (mask_trans rfl k)))))

theorem State.lanesEvt_same (h : State.SameOutside m o s) (k : 18446744075857035264 ||| m = m) :
    State.SameOutside m o (State.lanesEvt s b1 b2) := by
  unfold State.lanesEvt
  exact (State.SameOutside.foldl h (fun a2 s0 h1 => (State.evt_same h1 (mask_trans rfl k) (pageMask_lane _ (mask_trans rfl k)))))

theorem State.mapLanes_same (h : State.SameOutside m o s) (k : 8 ||| m = m) :
    State.SameOutside m o (State.mapLanes s b1 b2) := by
  unfold State.mapLanes
  exact (State.SameOutside.foldl h (fun a2 s0 h1 => (State.setLane_same h1 (mask_trans rfl k))))

theorem State.enterSeek_same (h : State.SameOutside m o s) (k : 18446744073709551640 ||| m = m) :
    State.SameOutside m o (State.enterSeek s b1) := by
  unfold State.enterSeek
  extract_lets -merge -useContext -underBinder x0 x1 x2 x3
  have h4 : State.SameOutside m o x1 := (State.allLanes_same (State.allLanes_same (State.allLanes_same h (mask_trans rfl k)) (mask_trans rfl k)) (mask_trans rfl k))
  have h5 : State.SameOutside m o x2 := (State.mapLanes_same (State.allLanes_same h4 (mask_trans rfl k)) (mask_trans rfl k))
  exact (State.setTrain_same h5 (mask_trans rfl k))

theorem State.leaveRun_same (h : State.SameOutside m o s) (k : 73786975197475635296 ||| m = m) :
    State.SameOutside m o (State.leaveRun s b1) := by
  unfold State.leaveRun
  extract_lets -merge -useContext -underBinder x0
  have h1 : State.SameOutside m o x0 := (State.SameOutside.foldl h (fun a4 s2 h3 => (State.fset_same h3 (mask_trans rfl k) (pageMask_lane _ (mask_trans rfl k)))))
  exact (State.SameOutside.ite (State.lanesEvt_same (State.linkDown_same h1 (mask_trans rfl k)) (mask_trans rfl k)) h)

theorem State.lowerCeiling_same (h : State.SameOutside m o s) (k : 18446744075857035264 ||| m = m) :
    State.SameOutside m o (State.lowerCeiling s b1) := by
  unfold State.lowerCeiling
  extract_lets -merge -useContext -underBinder x0
  exact (State.SameOutside.ite (State.lanesEvt_same (State.allLanes_same h (mask_trans rfl k)) (mask_trans rfl k)) h)

theorem State.recordFail_same (h : State.SameOutside m o s) (k : 18446744073709551616 ||| m = m) :
    State.SameOutside m o (State.recordFail s b1 b2) := by
  unfold State.recordFail
  exact (State.allLanes_same (State.allLanes_same h (mask_trans rfl k)) (mask_trans rfl k))

theorem State.trainFail_same (h : State.SameOutside m o s) (k : 73786975197475635320 ||| m = m) :
    State.SameOutside m o (State.trainFail s b1 b2 b3) := by
  unfold State.trainFail
  extract_lets -merge -useContext -underBinder x0 x1 x2
  have h3 : State.SameOutside m o x0 := (State.SameOutside.ite (State.lowerCeiling_same h (mask_trans rfl k)) h)
  have h4 : State.SameOutside m o x1 := (State.SameOutside.foldl (State.recordFail_same h3 (mask_trans rfl k)) (fun a7 s5 h6 => (State.finc_same h6 (mask_trans rfl k) (pageMask_lane _ (mask_trans rfl k)))))
  have h8 : State.SameOutside m o x2 := (State.leaveRun_same (State.lanesEvt_same h4 (mask_trans rfl k)) (mask_trans rfl k))
  exact (State.enterSeek_same (State.allLanes_same h8 (mask_trans rfl k)) (mask_trans rfl k))

theorem State.commandedRestart_same (h : State.SameOutside m o s) (k : 73786975197475635320 ||| m = m) :
    State.SameOutside m o (State.commandedRestart s b1 b2) := by
  unfold State.commandedRestart
  exact (State.enterSeek_same (State.allLanes_same (State.leaveRun_same (State.recordFail_same h (mask_trans rfl k)) (mask_trans rfl k)) (mask_trans rfl k)) (mask_trans rfl k))

theorem State.enterOff_same (h : State.SameOutside m o s) (k : 73786975197475635304 ||| m = m) :
    State.SameOutside m o (State.enterOff s b1) := by
  unfold State.enterOff
  extract_lets -merge -useContext -underBinder x0
  have h1 : State.SameOutside m o x0 := (State.leaveRun_same h (mask_trans rfl k))
  exact (State.SameOutside.foldl h1 (fun a4 s2 h3 => (by
    extract_lets -merge -useContext -underBinder x5
    have h6 : State.SameOutside m o x5 := (State.fset_same (State.fset_same (State.fset_same h3 (mask_trans rfl k) (pageMask_lane _ (mask_trans rfl k))) (mask_trans rfl k) (pageMask_lane _ (mask_trans rfl k))) (mask_trans rfl k) (pageMask_lane _ (mask_trans rfl k)))
    exact (State.SameOutside.ite h3 (State.setLane_same h6 (mask_trans rfl k))))))

theorem State.laneEnable_same (h : State.SameOutside m o s) (k : 18446744073709551640 ||| m = m) :
    State.SameOutside m o (State.laneEnable s b1) := by
  unfold State.laneEnable
  exact (State.SameOutside.ite (State.enterSeek_same (State.allLanes_same h (mask_trans rfl k)) (mask_trans rfl k)) h)

theorem State.setTaps_same (h : State.SameOutside m o s) (k : 18446744073709551616 ||| m = m) :
    State.SameOutside m o (State.setTaps s b1 b2 b3 b4 b5) := by
  unfold State.setTaps
  exact (State.fsetI_same (State.fsetI_same (State.fsetI_same (State.fsetI_same h (mask_trans rfl k) (pageMask_lane _ (mask_trans rfl k))) (mask_trans rfl k) (pageMask_lane _ (mask_trans rfl k))) (mask_trans rfl k) (pageMask_lane _ (mask_trans rfl k))) (mask_trans rfl k) (pageMask_lane _ (mask_trans rfl k)))

theorem State.startTaps_same (h : State.SameOutside m o s) (k : 18446744073709551616 ||| m = m) :
    State.SameOutside m o (State.startTaps s b1) := by
  unfold State.startTaps
  exact (State.SameOutside.ite (State.setTaps_same h (mask_trans rfl k)) (State.setTaps_same h (mask_trans rfl k)))

theorem State.enterClimb_same (h : State.SameOutside m o s) (k : 18446744073709551640 ||| m = m) :
    State.SameOutside m o (State.enterClimb s b1 b2) := by
  unfold State.enterClimb
  extract_lets -merge -useContext -underBinder x0 x1
  have h2 : State.SameOutside m o x0 := (State.mapLanes_same (State.allLanes_same h (mask_trans rfl k)) (mask_trans rfl k))
  exact (State.setTrain_same h2 (mask_trans rfl k))

theorem State.enterChange_same (h : State.SameOutside m o s) (k : 18446744073709551640 ||| m = m) :
    State.SameOutside m o (State.enterChange s b1 b2) := by
  unfold State.enterChange
  extract_lets -merge -useContext -underBinder x0 x1
  have h2 : State.SameOutside m o x0 := (State.enterClimb_same (State.allLanes_same h (mask_trans rfl k)) (mask_trans rfl k))
  have h3 : State.SameOutside m o x1 := (State.mapLanes_same h2 (mask_trans rfl k))
  exact (State.SameOutside.foldl h3 (fun a6 s4 h5 => (State.startTaps_same h5 (mask_trans rfl k))))

theorem State.agreeSnf_same (h : State.SameOutside m o s) (k : 4 ||| m = m) :
    State.SameOutside m o (State.agreeSnf s b1).2 := by
  unfold State.agreeSnf
  extract_lets -merge -useContext -underBinder x0
  exact (State.SameOutside.ite2 (by
    split
    · rename_i x1 x2 x3 x4
      have h5 : State.SameOutside m o x3 := State.SameOutside.of_eq2 x4 (State.fresh_same h (mask_trans rfl k))
      exact (State.SameOutside.pr2 h5)) (State.SameOutside.pr2 h))

theorem State.enterRun_same (h : State.SameOutside m o s) (k : 32281802131140771964 ||| m = m) :
    State.SameOutside m o (State.enterRun s b1) := by
  unfold State.enterRun
  extract_lets -merge -useContext -underBinder x0 x1 x2 x3 x4 x5
  have h6 : State.SameOutside m o x0 := (State.mapLanes_same (State.enterClimb_same h (mask_trans rfl k)) (mask_trans rfl k))
  have h7 : State.SameOutside m o x1 := (State.SameOutside.foldl h6 (fun a10 s8 h9 => (State.finc_same h9 (mask_trans rfl k) (pageMask_lane _ (mask_trans rfl k)))))
  have h11 : State.SameOutside m o x4 := (State.setTrain_same h7 (mask_trans rfl k))
  subst x5
  exact (State.lanesEvt_same (State.linkUp_same (State.agreeSnf_same h11 (mask_trans rfl k)) (mask_trans rfl k)) (mask_trans rfl k))

theorem State.trySeek_same (h : State.SameOutside m o s) (k : 18446744073709551644 ||| m = m) :
    State.SameOutside m o (State.trySeek s b1) := by
  unfold State.trySeek
  exact (State.SameOutside.ite (by
    split
    · rename_i x0 x1 x2 x3
      have h4 : State.SameOutside m o x2 := State.SameOutside.of_eq2 x3 (State.fresh_same h (mask_trans rfl k))
      extract_lets -merge -useContext -underBinder x5 x6
      have h7 : State.SameOutside m o x5 := (State.allLanes_same h4 (mask_trans rfl k))
      exact (State.setTrain_same (State.mapLanes_same h7 (mask_trans rfl k)) (mask_trans rfl k))) h)

theorem State.seekDwellEnd_same (h : State.SameOutside m o s) (k : 18446744073709551774 ||| m = m) :
    State.SameOutside m o (State.seekDwellEnd s b1) := by
  unfold State.seekDwellEnd
  extract_lets -merge -useContext -underBinder x0 x1
  have h2 : State.SameOutside m o x0 := (State.advanceTo_same h (mask_trans rfl k))
  exact (State.SameOutside.ite (State.trySeek_same (State.setTrain_same h2 (mask_trans rfl k)) (mask_trans rfl k)) h)

theorem State.countMessage_same (h : State.SameOutside m o s) (k : 18446744073709551624 ||| m = m) :
    State.SameOutside m o (State.countMessage s b1 b2 b3) := by
  unfold State.countMessage
  extract_lets -merge -useContext -underBinder x0 x1
  have h2 : State.SameOutside m o x1 := (State.setLane_same h (mask_trans rfl k))
  exact (State.SameOutside.ite (State.fsetB_same h2 (mask_trans rfl k) (pageMask_lane _ (mask_trans rfl k))) h2)

theorem State.seekMessage_same (h : State.SameOutside m o s) (k : 73786975197475635324 ||| m = m) :
    State.SameOutside m o (State.seekMessage s b1 b2) := by
  unfold State.seekMessage
  extract_lets -merge -useContext -underBinder x0
  exact (State.SameOutside.ite (State.trySeek_same (State.countMessage_same h (mask_trans rfl k)) (mask_trans rfl k)) (State.SameOutside.ite (State.trainFail_same h (mask_trans rfl k)) h))

theorem State.showPartner_same (h : State.SameOutside m o s) (k : 18446744073709551616 ||| m = m) :
    State.SameOutside m o (State.showPartner s b1 b2) := by
  unfold State.showPartner
  extract_lets -merge -useContext -underBinder x0
  exact (State.fsetB_same (State.fsetB_same (State.fset_same (State.fset_same (State.fset_same (State.fset_same h (mask_trans rfl k) (pageMask_lane _ (mask_trans rfl k))) (mask_trans rfl k) (pageMask_lane _ (mask_trans rfl k))) (mask_trans rfl k) (pageMask_lane _ (mask_trans rfl k))) (mask_trans rfl k) (pageMask_lane _ (mask_trans rfl k))) (mask_trans rfl k) (pageMask_lane _ (mask_trans rfl k))) (mask_trans rfl k) (pageMask_lane _ (mask_trans rfl k)))

theorem State.tryLeader_same (h : State.SameOutside m o s) (k : 73786975197475635320 ||| m = m) :
    State.SameOutside m o (State.tryLeader s b1) := by
  unfold State.tryLeader
  extract_lets -merge -useContext -underBinder x0 x1 x2 x3 x4
  have h5 : State.SameOutside m o x3 := (State.SameOutside.ite (State.allLanes_same h (mask_trans rfl k)) h)
  exact (State.SameOutside.ite (by
    split
    · rename_i x6 x7 x8
      exact (State.trainFail_same h5 (mask_trans rfl k))
    · rename_i x9 x10
      extract_lets -merge -useContext -underBinder x11 x12
      exact (State.enterChange_same (State.setTrain_same h5 (mask_trans rfl k)) (mask_trans rfl k))) h)

theorem State.leaderMessage_same (h : State.SameOutside m o s) (k : 73786975197475635324 ||| m = m) :
    State.SameOutside m o (State.leaderMessage s b1 b2 b3 b4) := by
  unfold State.leaderMessage
  extract_lets -merge -useContext -underBinder x0 x1 x2 x3 x4 x5 x6 x7
  have h8 : State.SameOutside m o x4 := (State.showPartner_same (State.countMessage_same h (mask_trans rfl k)) (mask_trans rfl k))
  have h9 : State.SameOutside m o x6 := (State.setLane_same h8 (mask_trans rfl k))
  exact (State.SameOutside.ite h (State.SameOutside.ite (State.setLane_same h (mask_trans rfl k)) (State.SameOutside.ite h (State.SameOutside.ite (State.seekMessage_same h (mask_trans rfl k)) (State.SameOutside.ite h (State.SameOutside.ite (State.trySeek_same (State.setTrain_same h9 (mask_trans rfl k)) (mask_trans rfl k)) (State.tryLeader_same h9 (mask_trans rfl k))))))))

theorem State.trainTimeout_same (h : State.SameOutside m o s) (k : 73786975197475635450 ||| m = m) :
    State.SameOutside m o (State.trainTimeout s b1) := by
  unfold State.trainTimeout
  extract_lets -merge -useContext -underBinder x0
  split
  · rename_i x1 x2
    exact h
  · rename_i x3 x4 x5
    exact (State.trainFail_same (State.advanceTo_same h (mask_trans rfl k)) (mask_trans rfl k))

theorem State.lossOfSignal_same (h : State.SameOutside m o s) (k : 73786975197475635320 ||| m = m) :
    State.SameOutside m o (State.lossOfSignal s b1 b2) := by
  unfold State.lossOfSignal
  extract_lets -merge -useContext -underBinder x0 x1 x2 x3
  have h4 : State.SameOutside m o x2 := (State.setLane_same h (mask_trans rfl k))
  exact (State.SameOutside.ite (State.trainFail_same h4 (mask_trans rfl k)) h4)

theorem State.laneLock_same (h : State.SameOutside m o s) (k : 18446744073709551640 ||| m = m) :
    State.SameOutside m o (State.laneLock s b1) := by
  unfold State.laneLock
  exact (State.SameOutside.ite (State.enterClimb_same (State.mapLanes_same h (mask_trans rfl k)) (mask_trans rfl k)) h)

theorem State.runStable_same (h : State.SameOutside m o s) (k : 18446744073709551746 ||| m = m) :
    State.SameOutside m o (State.runStable s b1) := by
  unfold State.runStable
  exact (State.SameOutside.ite (State.allLanes_same (State.advanceTo_same h (mask_trans rfl k)) (mask_trans rfl k)) h)

theorem State.laneSkew_same (h : State.SameOutside m o s) (k : 73786975197475635320 ||| m = m) :
    State.SameOutside m o (State.laneSkew s b1 b2) := by
  unfold State.laneSkew
  extract_lets -merge -useContext -underBinder x0 x1 x2 x3 x4
  have h5 : State.SameOutside m o x2 := (State.setLane_same h (mask_trans rfl k))
  have h6 : State.SameOutside m o x4 := (State.fset_same h5 (mask_trans rfl k) (pageMask_link _ (mask_trans rfl k)))
  exact (State.SameOutside.ite (State.trainFail_same h6 (mask_trans rfl k)) h6)

theorem State.markerRx_same (h : State.SameOutside m o s) (k : 73786975197475635320 ||| m = m) :
    State.SameOutside m o (State.markerRx s b1 b2 b3) := by
  unfold State.markerRx
  extract_lets -merge -useContext -underBinder x0 x1 x2 x3
  have h4 : State.SameOutside m o x3 := (State.setLane_same h (mask_trans rfl k))
  exact (State.SameOutside.ite h (State.SameOutside.ite (State.laneSkew_same (State.setLane_same h (mask_trans rfl k)) (mask_trans rfl k)) (State.SameOutside.ite (State.lossOfSignal_same h4 (mask_trans rfl k)) h4)))

theorem State.coefRequest_same (h : State.SameOutside m o s) (k : 18446744073709551616 ||| m = m) :
    State.SameOutside m o (State.coefRequest s b1 b2 b3 b4 b5) := by
  unfold State.coefRequest
  extract_lets -merge -useContext -underBinder x0 x1 x2 x3
  exact (State.SameOutside.ite h (State.SameOutside.ite (State.setTaps_same h (mask_trans rfl k)) h))

theorem State.tryTune_same (h : State.SameOutside m o s) (k : 18446744073709551640 ||| m = m) :
    State.SameOutside m o (State.tryTune s b1) := by
  unfold State.tryTune
  exact (State.SameOutside.ite (State.enterClimb_same h (mask_trans rfl k)) h)

theorem State.tryConfirm_same (h : State.SameOutside m o s) (k : 32281802131140771964 ||| m = m) :
    State.SameOutside m o (State.tryConfirm s b1) := by
  unfold State.tryConfirm
  exact (State.SameOutside.ite (State.SameOutside.ite (State.enterRun_same h (mask_trans rfl k)) (State.enterChange_same h (mask_trans rfl k))) h)

theorem State.trainingFrame_same (h : State.SameOutside m o s) (k : 73786975197475635324 ||| m = m) :
    State.SameOutside m o (State.trainingFrame s b1 b2 b3 b4 b5 b6 b7 b8 b9) := by
  unfold State.trainingFrame
  extract_lets -merge -useContext -underBinder x0 x1 x2 x3 x4 x5
  have h6 : State.SameOutside m o x2 := (State.SameOutside.ite (State.coefRequest_same h (mask_trans rfl k)) h)
  have h7 : State.SameOutside m o x4 := (State.setLane_same h6 (mask_trans rfl k))
  have h8 : State.SameOutside m o x5 := (State.laneSkew_same h7 (mask_trans rfl k))
  exact (State.SameOutside.ite h (State.SameOutside.ite (State.trainFail_same h (mask_trans rfl k)) (State.SameOutside.ite (State.tryConfirm_same (State.tryTune_same h8 (mask_trans rfl k)) (mask_trans rfl k)) h8)))

theorem State.judgeStep_same (h : State.SameOutside m o s) (k : 18446744073709551624 ||| m = m) :
    State.SameOutside m o (State.judgeStep s b1 b2) := by
  unfold State.judgeStep
  extract_lets -merge -useContext -underBinder x0 x1
  split
  · rename_i x2 x3
    exact (State.setLane_same h (mask_trans rfl k))
  · rename_i x4 x5 x6 x7 x8
    extract_lets -merge -useContext -underBinder x9
    exact (State.SameOutside.ite (State.setLane_same h (mask_trans rfl k)) (State.fset_same (State.setLane_same h (mask_trans rfl k)) (mask_trans rfl k) (pageMask_lane _ (mask_trans rfl k))))

theorem State.tryStep_same (h : State.SameOutside m o s) (k : 18446744073709551624 ||| m = m) :
    State.SameOutside m o (State.tryStep s b1 b2 b3) := by
  unfold State.tryStep
  extract_lets -merge -useContext -underBinder x0 x1
  exact (State.SameOutside.ite h (State.fset_same (State.setLane_same h (mask_trans rfl k)) (mask_trans rfl k) (pageMask_lane _ (mask_trans rfl k))))

theorem State.showEq_same (h : State.SameOutside m o s) (k : 18446744073709551616 ||| m = m) :
    State.SameOutside m o (State.showEq s b1 b2 b3) := by
  unfold State.showEq
  extract_lets -merge -useContext -underBinder x0 x1
  have h2 : State.SameOutside m o x1 := (State.fset_same (State.fset_same (State.fset_same h (mask_trans rfl k) (pageMask_lane _ (mask_trans rfl k))) (mask_trans rfl k) (pageMask_lane _ (mask_trans rfl k))) (mask_trans rfl k) (pageMask_lane _ (mask_trans rfl k)))
  exact (State.SameOutside.foldl h2 (fun a5 s3 h4 => (State.fset_same h4 (mask_trans rfl k) (pageMask_lane _ (mask_trans rfl k)))))

theorem State.fomWindow_same (h : State.SameOutside m o s) (k : 18446744075857035288 ||| m = m) :
    State.SameOutside m o (State.fomWindow s b1 b2 b3 b4 b5) := by
  unfold State.fomWindow
  extract_lets -merge -useContext -underBinder x0 x1 x2 x3 x4 x5 x6 x7 x8 x9 x10 x11 x12 x13 x14
  have h15 : State.SameOutside m o x3 := (State.fset_same h (mask_trans rfl k) (pageMask_lane _ (mask_trans rfl k)))
  have h16 : State.SameOutside m o x4 := (State.fset_same h15 (mask_trans rfl k) (pageMask_lane _ (mask_trans rfl k)))
  have h17 : State.SameOutside m o x6 := (State.showEq_same (State.judgeStep_same h16 (mask_trans rfl k)) (mask_trans rfl k))
  have h18 : State.SameOutside m o x7 := (State.SameOutside.ite (by
    split
    · rename_i x19 x20
      exact (State.tryStep_same h17 (mask_trans rfl k))
    · rename_i x21
      exact h17) h16)
  have h22 : State.SameOutside m o x9 := (State.setLane_same h18 (mask_trans rfl k))
  have h23 : State.SameOutside m o x11 := (State.SameOutside.ite (State.setLane_same h22 (mask_trans rfl k)) h22)
  have h24 : State.SameOutside m o x13 := (State.SameOutside.ite (State.evt_same h18 (mask_trans rfl k) (pageMask_lane _ (mask_trans rfl k))) h18)
  exact (State.SameOutside.ite h (State.SameOutside.ite (State.tryTune_same h23 (mask_trans rfl k)) (State.SameOutside.ite (State.SameOutside.ite (State.setLane_same h18 (mask_trans rfl k)) h18) (State.SameOutside.ite (State.setLane_same h24 (mask_trans rfl k)) h18))))

theorem State.confirmMeasure_same (h : State.SameOutside m o s) (k : 73786975197475635454 ||| m = m) :
    State.SameOutside m o (State.confirmMeasure s b1 b2 b3) := by
  unfold State.confirmMeasure
  extract_lets -merge -useContext -underBinder x0 x1 x2
  have h3 : State.SameOutside m o x1 := (State.advanceTo_same h (mask_trans rfl k))
  exact (State.SameOutside.ite h (State.SameOutside.ite (State.tryConfirm_same (State.setLane_same h3 (mask_trans rfl k)) (mask_trans rfl k)) (State.trainFail_same h3 (mask_trans rfl k))))

theorem State.fomFail_same (h : State.SameOutside m o s) (k : 73786975197475635450 ||| m = m) :
    State.SameOutside m o (State.fomFail s b1) := by
  unfold State.fomFail
  split
  · rename_i x0 x1 x2
    exact (State.SameOutside.ite (State.trainFail_same (State.advanceTo_same h (mask_trans rfl k)) (mask_trans rfl k)) h)
  · rename_i x3 x4
    exact h

theorem State.sentinelRx_same (h : State.SameOutside m o s) (k : 18446744075857035272 ||| m = m) :
    State.SameOutside m o (State.sentinelRx s b1 b2) := by
  unfold State.sentinelRx
  extract_lets -merge -useContext -underBinder x0 x1
  exact (State.SameOutside.ite h (by
    split
    · rename_i x2 x3
      exact (State.fset_same (State.setLane_same h (mask_trans rfl k)) (mask_trans rfl k) (pageMask_lane _ (mask_trans rfl k)))
    · rename_i x4 x5 x6
      split
      · rename_i x7 x8 x9 x10
        exact (State.SameOutside.ite (State.evt_same (State.finc_same (State.setLane_same h (mask_trans rfl k)) (mask_trans rfl k) (pageMask_lane _ (mask_trans rfl k))) (mask_trans rfl k) (pageMask_lane _ (mask_trans rfl k))) (State.fadd64_same (State.fadd_same (State.setLane_same h (mask_trans rfl k)) (mask_trans rfl k) (pageMask_lane _ (mask_trans rfl k))) (mask_trans rfl k) (pageMask_lane _ (mask_trans rfl k))))))

theorem State.prbsCatch_same (h : State.SameOutside m o s) (k : 18446744073709551624 ||| m = m) :
    State.SameOutside m o (State.prbsCatch s b1) := by
  unfold State.prbsCatch
  extract_lets -merge -useContext -underBinder x0 x1
  split
  · rename_i x2 x3 x4
    extract_lets -merge -useContext -underBinder x5
    exact (State.fadd64_same (State.setLane_same h (mask_trans rfl k)) (mask_trans rfl k) (pageMask_lane _ (mask_trans rfl k)))
  · rename_i x6 x7
    exact h

theorem State.prbsStop_same (h : State.SameOutside m o s) (k : 18446744073709551624 ||| m = m) :
    State.SameOutside m o (State.prbsStop s b1) := by
  unfold State.prbsStop
  extract_lets -merge -useContext -underBinder x0 x1
  have h2 : State.SameOutside m o x0 := (State.prbsCatch_same h (mask_trans rfl k))
  exact (State.fset_same (State.setLane_same h2 (mask_trans rfl k)) (mask_trans rfl k) (pageMask_lane _ (mask_trans rfl k)))

theorem State.prbsLock_same (h : State.SameOutside m o s) (k : 18446744073709551624 ||| m = m) :
    State.SameOutside m o (State.prbsLock s b1) := by
  unfold State.prbsLock
  extract_lets -merge -useContext -underBinder x0
  exact (State.SameOutside.ite (State.fset_same (State.setLane_same h (mask_trans rfl k)) (mask_trans rfl k) (pageMask_lane _ (mask_trans rfl k))) h)

theorem State.prbsLoss_same (h : State.SameOutside m o s) (k : 18446744075857035272 ||| m = m) :
    State.SameOutside m o (State.prbsLoss s b1 b2) := by
  unfold State.prbsLoss
  extract_lets -merge -useContext -underBinder x0
  have h1 : State.SameOutside m o x0 := (State.fadd_same (State.prbsStop_same h (mask_trans rfl k)) (mask_trans rfl k) (pageMask_lane _ (mask_trans rfl k)))
  exact (State.SameOutside.ite (State.evt_same (State.finc_same h1 (mask_trans rfl k) (pageMask_lane _ (mask_trans rfl k))) (mask_trans rfl k) (pageMask_lane _ (mask_trans rfl k))) h)

theorem State.injectDone_same (h : State.SameOutside m o s) (k : 18446744075857035272 ||| m = m) :
    State.SameOutside m o (State.injectDone s b1 b2) := by
  unfold State.injectDone
  split
  · rename_i x0 x1
    exact h
  · rename_i x2 x3 x4
    extract_lets -merge -useContext -underBinder x5 x6 x7 x8
    have h9 : State.SameOutside m o x7 := (State.setLane_same h (mask_trans rfl k))
    have h10 : State.SameOutside m o x8 := (State.SameOutside.ite (State.fadd_same h9 (mask_trans rfl k) (pageMask_lane _ (mask_trans rfl k))) h9)
    exact (State.SameOutside.ite (State.cmdDone_same h10 (mask_trans rfl k) (pageMask_lane _ (mask_trans rfl k))) h10)

theorem State.leaveTest_same (h : State.SameOutside m o s) (k : 18446744075857035272 ||| m = m) :
    State.SameOutside m o (State.leaveTest s b1) := by
  unfold State.leaveTest
  extract_lets -merge -useContext -underBinder x0 x1 x2 x3
  have h4 : State.SameOutside m o x0 := (State.prbsStop_same h (mask_trans rfl k))
  have h5 : State.SameOutside m o x2 := (State.setLane_same h4 (mask_trans rfl k))
  have h6 : State.SameOutside m o x3 := (State.SameOutside.ite (State.cmdFail_same h5 (mask_trans rfl k) (pageMask_lane _ (mask_trans rfl k))) h5)
  exact (State.fset_same (State.fset_same h6 (mask_trans rfl k) (pageMask_lane _ (mask_trans rfl k))) (mask_trans rfl k) (pageMask_lane _ (mask_trans rfl k)))

theorem State.showPeers_same (h : State.SameOutside m o s) (k : 18446744073709551616 ||| m = m) :
    State.SameOutside m o (State.showPeers s b1) := by
  unfold State.showPeers
  extract_lets -merge -useContext -underBinder x0 x1
  exact (State.SameOutside.foldl h (fun a4 s2 h3 => (State.SameOutside.ite h3 (State.SameOutside.ite (State.fset_same h3 (mask_trans rfl k) (pageMask_lane _ (mask_trans rfl k))) (State.SameOutside.ite (State.fset_same h3 (mask_trans rfl k) (pageMask_lane _ (mask_trans rfl k))) h3)))))

theorem State.testEnter_same (h : State.SameOutside m o s) (k : 73786975197475635304 ||| m = m) :
    State.SameOutside m o (State.testEnter s b1) := by
  unfold State.testEnter
  extract_lets -merge -useContext -underBinder x0 x1 x2 x3
  have h4 : State.SameOutside m o x1 := (State.enterOff_same h (mask_trans rfl k))
  have h5 : State.SameOutside m o x2 := (State.fset_same (State.fset_same h4 (mask_trans rfl k) (pageMask_lane _ (mask_trans rfl k))) (mask_trans rfl k) (pageMask_lane _ (mask_trans rfl k)))
  have h6 : State.SameOutside m o x3 := (State.SameOutside.ite (State.startTaps_same h5 (mask_trans rfl k)) h5)
  exact (State.showPeers_same h6 (mask_trans rfl k))

theorem State.testExit_same (h : State.SameOutside m o s) (k : 18446744075857035288 ||| m = m) :
    State.SameOutside m o (State.testExit s b1) := by
  unfold State.testExit
  extract_lets -merge -useContext -underBinder x0
  exact (State.laneEnable_same (State.showPeers_same (State.leaveTest_same h (mask_trans rfl k)) (mask_trans rfl k)) (mask_trans rfl k))

theorem State.resetCeiling_same (h : State.SameOutside m o s) (k : 18446744073709551616 ||| m = m) :
    State.SameOutside m o (State.resetCeiling s b1) := by
  unfold State.resetCeiling
  exact (State.allLanes_same h (mask_trans rfl k))

theorem State.lanesApplied_same (h : State.SameOutside m o s) (k : 73786975197475635320 ||| m = m) :
    State.SameOutside m o (State.lanesApplied s b1 b2) := by
  unfold State.lanesApplied
  extract_lets -merge -useContext -underBinder x0 x1 x2 x3 x4 x5 x6 x7
  have h8 : State.SameOutside m o x6 := (State.SameOutside.foldl h (fun a11 s9 h10 => (by
    extract_lets -merge -useContext -underBinder x12
    have h13 : State.SameOutside m o x12 := (State.SameOutside.ite (State.prbsCatch_same h10 (mask_trans rfl k)) (State.prbsStop_same h10 (mask_trans rfl k)))
    exact (State.SameOutside.ite (State.SameOutside.ite (State.leaveTest_same h10 (mask_trans rfl k)) (State.fset_same h13 (mask_trans rfl k) (pageMask_lane _ (mask_trans rfl k)))) h10))))
  have h14 : State.SameOutside m o x7 := (State.allLanes_same h8 (mask_trans rfl k))
  exact (State.SameOutside.ite (State.showPeers_same (State.enterOff_same h8 (mask_trans rfl k)) (mask_trans rfl k)) (State.SameOutside.ite (State.showPeers_same h8 (mask_trans rfl k)) (State.SameOutside.ite (State.commandedRestart_same h14 (mask_trans rfl k)) h14)))

theorem State.lanesDomainOff_same (h : State.SameOutside m o s) (k : 73786975197475635304 ||| m = m) :
    State.SameOutside m o (State.lanesDomainOff s b1) := by
  unfold State.lanesDomainOff
  extract_lets -merge -useContext -underBinder x0
  have h1 : State.SameOutside m o x0 := (State.SameOutside.foldl h (fun a4 s2 h3 => (State.SameOutside.ite (State.leaveTest_same h3 (mask_trans rfl k)) h3)))
  exact (State.enterOff_same h1 (mask_trans rfl k))

end Sys2Proof.Machine
end

