-- ==== Sys2Proof/Laws/Frame/Links.lean ====
section
/-! SUPPORT. What every command leaves alone: one lemma for each function of Machine/Links.lean that changes the state. -/

namespace Sys2Proof.Machine

variable {o s : State} {m : Nat}

theorem State.checkCell_same (h : State.SameOutside m o s) (k : 73786975197527456740 ||| m = m) :
    State.SameOutside m o (State.checkCell s b1 b2).2 := by
  unfold State.checkCell
  extract_lets -merge -useContext -underBinder x0
  split
  · rename_i x1 x2 x3 x4
    extract_lets -merge -useContext -underBinder x5
    exact (State.SameOutside.pr2 (State.SameOutside.ite h (State.fadd64_same h (mask_trans rfl k) (pageMask_link _ (mask_trans rfl k)))))
  · rename_i x6 x7 x8 x9 x10
    extract_lets -merge -useContext -underBinder x11
    have h12 : State.SameOutside m o x11 := (State.finc_same (State.fadd64_same h (mask_trans rfl k) (pageMask_link _ (mask_trans rfl k))) (mask_trans rfl k) (pageMask_link _ (mask_trans rfl k)))
    exact (State.SameOutside.pr2 (State.report_same h12 (mask_trans rfl k)))
  · rename_i x13 x14 x15
    extract_lets -merge -useContext -underBinder x16
    have h17 : State.SameOutside m o x16 := (State.finc_same (State.fadd64_same h (mask_trans rfl k) (pageMask_link _ (mask_trans rfl k))) (mask_trans rfl k) (pageMask_link _ (mask_trans rfl k)))
    exact (State.SameOutside.pr2 (State.report_same h17 (mask_trans rfl k)))

theorem State.wrongType_same (h : State.SameOutside m o s) (k : 9223372036854775808 ||| m = m) :
    State.SameOutside m o (State.wrongType s b1) := by
  unfold State.wrongType
  exact (State.finc_same h (mask_trans rfl k) (pageMask_link _ (mask_trans rfl k)))

theorem State.forwardCell_same (h : State.SameOutside m o s) (k : 2147483648 ||| m = m) :
    State.SameOutside m o (State.forwardCell s b1 b2) := by
  unfold State.forwardCell
  exact (State.SameOutside.foldl h (fun a2 s0 h1 => (State.emit_same h1 (mask_trans rfl k))))

theorem State.unrouted_same (h : State.SameOutside m o s) (k : 9223372036854775808 ||| m = m) :
    State.SameOutside m o (State.unrouted s b1 b2 b3) := by
  unfold State.unrouted
  extract_lets -merge -useContext -underBinder x0 x1
  exact (State.SameOutside.ite (State.finc_same h (mask_trans rfl k) (pageMask_link _ (mask_trans rfl k))) h)

theorem State.burstData_same (h : State.SameOutside m o s) (k : 9223372039002259776 ||| m = m) :
    State.SameOutside m o (State.burstData s b1 b2 b3) := by
  unfold State.burstData
  extract_lets -merge -useContext -underBinder x0 x1
  exact (State.SameOutside.ite (State.SameOutside.ite (State.finc_same h (mask_trans rfl k) (pageMask_link _ (mask_trans rfl k))) h) (by
    split
    · rename_i x2 x3 x4 x5 x6 x7
      extract_lets -merge -useContext -underBinder x8
      exact (State.SameOutside.ite (by
    try unfold x1
    split
    · rename_i x9 x10 x11 x12
      exact (State.windowDone_same (State.SameOutside.ite (State.finc_same (State.evt_same (State.finc_same h (mask_trans rfl k) (pageMask_link _ (mask_trans rfl k))) (mask_trans rfl k) (pageMask_link _ (mask_trans rfl k))) (mask_trans rfl k) (pageMask_link _ (mask_trans rfl k))) (State.evt_same (State.finc_same h (mask_trans rfl k) (pageMask_link _ (mask_trans rfl k))) (mask_trans rfl k) (pageMask_link _ (mask_trans rfl k)))) (mask_trans rfl k))
    · rename_i x13 x14
      try unfold x0
      exact (State.SameOutside.ite (State.finc_same (State.evt_same (State.finc_same h (mask_trans rfl k) (pageMask_link _ (mask_trans rfl k))) (mask_trans rfl k) (pageMask_link _ (mask_trans rfl k))) (mask_trans rfl k) (pageMask_link _ (mask_trans rfl k))) (State.evt_same (State.finc_same h (mask_trans rfl k) (pageMask_link _ (mask_trans rfl k))) (mask_trans rfl k) (pageMask_link _ (mask_trans rfl k))))) (State.SameOutside.set_transport h (mask_trans rfl k)))
    · rename_i x15 x16 x17 x18
      try unfold x1
      split
      · rename_i x19 x20 x21 x22
        exact (State.windowDone_same (State.SameOutside.ite (State.finc_same h (mask_trans rfl k) (pageMask_link _ (mask_trans rfl k))) h) (mask_trans rfl k))
      · rename_i x23 x24
        try unfold x0
        exact (State.SameOutside.ite (State.finc_same h (mask_trans rfl k) (pageMask_link _ (mask_trans rfl k))) h)))

theorem State.burstOpen_same (h : State.SameOutside m o s) (k : 9223372036854775840 ||| m = m) :
    State.SameOutside m o (State.burstOpen s b1 b2 b3).2 := by
  unfold State.burstOpen
  extract_lets -merge -useContext -underBinder x0 x1
  split
  · rename_i x2
    exact (State.SameOutside.pr2 h)
  · rename_i x3 x4
    extract_lets -merge -useContext -underBinder x5 x6 x7 x8 x9 x10 x11 x12 x13 x14 x15 x16 x17
    have h18 : State.SameOutside m o x10 := (State.unrouted_same h (mask_trans rfl k))
    have h19 : State.SameOutside m o x15 := (State.SameOutside.ite (State.setLink_same h18 (mask_trans rfl k)) h18)
    have h20 : State.SameOutside m o x16 := (State.SameOutside.ite (State.finc_same h19 (mask_trans rfl k) (pageMask_link _ (mask_trans rfl k))) h19)
    exact (State.SameOutside.pr2 h20)

theorem State.videoCell_same (h : State.SameOutside m o s) (k : 73786975197527456740 ||| m = m) :
    State.SameOutside m o (State.videoCell s b1 b2) := by
  unfold State.videoCell
  split
  · rename_i x0 x1 x2 x3
    have h4 : State.SameOutside m o x2 := State.SameOutside.of_eq2 x3 (State.checkCell_same h (mask_trans rfl k))
    extract_lets -merge -useContext -underBinder x5 x6 x7
    have h8 : State.SameOutside m o x7 := (State.SameOutside.ite (State.truncate_same (State.finc_same h4 (mask_trans rfl k) (pageMask_link _ (mask_trans rfl k))) (mask_trans rfl k)) h4)
    exact (State.SameOutside.ite h4 (State.SameOutside.ite (State.wrongType_same h4 (mask_trans rfl k)) (State.SameOutside.ite (by
    split
    · rename_i x9 x10 x11 x12
      have h13 : State.SameOutside m o x11 := State.SameOutside.of_eq2 x12 (State.burstOpen_same h8 (mask_trans rfl k))
      extract_lets -merge -useContext -underBinder x14
      have h15 : State.SameOutside m o x14 := (State.forwardCell_same h13 (mask_trans rfl k))
      exact (State.SameOutside.ite h15 (State.SameOutside.ite (State.truncate_same (by
    try unfold x6
    extract_lets -merge -useContext -underBinder x16
    exact (State.setLink_same h15 (mask_trans rfl k))) (mask_trans rfl k)) (by
    try unfold x6
    extract_lets -merge -useContext -underBinder x17
    exact (State.setLink_same h15 (mask_trans rfl k)))))) (by
    split
    · rename_i x18 x19
      exact (State.finc_same h4 (mask_trans rfl k) (pageMask_link _ (mask_trans rfl k)))
    · rename_i x20 x21 x22
      extract_lets -merge -useContext -underBinder x23 x24
      have h25 : State.SameOutside m o x23 := (State.burstData_same (State.forwardCell_same h4 (mask_trans rfl k)) (mask_trans rfl k))
      have h26 : State.SameOutside m o x24 := by
        unfold x24
        try unfold x6
        extract_lets -merge -useContext -underBinder x27
        exact (State.setLink_same h25 (mask_trans rfl k))
      exact (State.SameOutside.ite (State.truncate_same h26 (mask_trans rfl k)) h26)))))

theorem State.videoRx_same (h : State.SameOutside m o s) (k : 73786975197527456740 ||| m = m) :
    State.SameOutside m o (State.videoRx s b1 b2) := by
  unfold State.videoRx
  extract_lets -merge -useContext -underBinder x0
  exact (State.SameOutside.ite h (State.SameOutside.foldl h (fun a3 s1 h2 => (State.videoCell_same h2 (mask_trans rfl k)))))

theorem State.pushUpward_same (h : State.SameOutside m o s) (k : 9223372036854775872 ||| m = m) :
    State.SameOutside m o (State.pushUpward s b1 b2 b3) := by
  unfold State.pushUpward
  extract_lets -merge -useContext -underBinder x0
  exact (State.SameOutside.ite (State.SameOutside.set_transport h (mask_trans rfl k)) (State.finc_same h (mask_trans rfl k) (pageMask_link _ (mask_trans rfl k))))

theorem State.flushUpward_same (h : State.SameOutside m o s) (k : 9223372039002259520 ||| m = m) :
    State.SameOutside m o (State.flushUpward s) := by
  unfold State.flushUpward
  split
  · rename_i x0 x1
    exact h
  · rename_i x2 x3 x4
    extract_lets -merge -useContext -underBinder x5 x6
    have h7 : State.SameOutside m o x6 := (State.SameOutside.set_transport h (mask_trans rfl k))
    split
    · rename_i x8 x9 x10
      exact (State.SameOutside.foldl h7 (fun a13 s11 h12 => (State.emit_same h12 (mask_trans rfl k))))
    · rename_i x14 x15
      exact (State.finc_same h7 (mask_trans rfl k) (pageMask_link _ (mask_trans rfl k)))

theorem State.checkCells_same (h : State.SameOutside m o s) (k : 73786975197527456740 ||| m = m) :
    State.SameOutside m o (State.checkCells s b1 b2).2.2 :=
  State.SameOutside.foldlP (fun x : List CellView × Bool × State => State.SameOutside m o x.2.2) h
    fun _ _ h => by simp only [State.checkNext]; exact State.checkCell_same h k

theorem State.upwardRx_same (h : State.SameOutside m o s) (k : 73786975197527456740 ||| m = m) :
    State.SameOutside m o (State.upwardRx s b1 b2) := by
  unfold State.upwardRx
  exact (State.SameOutside.ite h (by
    split
    · rename_i x0 x1 x2 x3 x4
      have h5 : State.SameOutside m o x3 := State.SameOutside.of_eq22 x4 (State.checkCells_same h (mask_trans rfl k))
      extract_lets -merge -useContext -underBinder x6 x7
      exact (State.SameOutside.ite h5 (State.SameOutside.ite (State.wrongType_same h5 (mask_trans rfl k)) (State.SameOutside.ite (State.SameOutside.ite (State.pushUpward_same h5 (mask_trans rfl k)) h5) (State.SameOutside.ite (State.pushUpward_same h5 (mask_trans rfl k)) h5))))))

theorem State.linkApplied_same (h : State.SameOutside m o s) (k : 9223372039002259552 ||| m = m) :
    State.SameOutside m o (State.linkApplied s b1 b2) := by
  unfold State.linkApplied
  extract_lets -merge -useContext -underBinder x0 x1
  have h2 : State.SameOutside m o x1 := (State.SameOutside.ite (State.SameOutside.set_transport h (mask_trans rfl k)) h)
  exact (State.evalUp_same h2 (mask_trans rfl k))

theorem State.singleCell_same (h : State.SameOutside m o s) (k : 73786975197527456740 ||| m = m) :
    State.SameOutside m o (State.singleCell s b1 b2 b3).2 := by
  unfold State.singleCell
  exact (State.SameOutside.ite2 (State.SameOutside.pr2 h) (by
    split
    · rename_i x0 x1 x2 x3
      have h4 : State.SameOutside m o x2 := State.SameOutside.of_eq2 x3 (State.checkCell_same h (mask_trans rfl k))
      split
      · rename_i x5
        exact (State.SameOutside.pr2 h4)
      · rename_i x6 x7
        exact (State.SameOutside.ite2 (State.SameOutside.pr2 (State.wrongType_same h4 (mask_trans rfl k))) (State.SameOutside.ite2 (State.SameOutside.pr2 h4) (State.SameOutside.pr2 h4)))))

theorem State.authRx_same (h : State.SameOutside m o s) (k : 73786975197528505316 ||| m = m) :
    State.SameOutside m o (State.authRx s b1 b2) := by
  unfold State.authRx
  exact (State.SameOutside.ite h (by
    split
    · rename_i x0 x1 x2
      have h3 : State.SameOutside m o x1 := State.SameOutside.of_eq2 x2 (State.checkCell_same h (mask_trans rfl k))
      exact h3
    · rename_i x4 x5 x6 x7
      have h8 : State.SameOutside m o x6 := State.SameOutside.of_eq2 x7 (State.checkCell_same h (mask_trans rfl k))
      exact (State.SameOutside.ite h8 (by
    split
    · rename_i x9 x10
      exact (State.authProof_same h8 (mask_trans rfl k))
    · rename_i x11 x12
      exact (State.authChallenge_same h8 (mask_trans rfl k))
    · rename_i x13 x14 x15
      exact h8))))

end Sys2Proof.Machine
end

