-- ==== Sys2Proof/Laws/Frame/Time.lean ====
section
/-! SUPPORT. What every command leaves alone: one lemma for each function of Machine/Time.lean that changes the state. -/

namespace Sys2Proof.Machine

variable {o s : State} {m : Nat}

theorem State.advanceSys_same (h : State.SameOutside m o s) (k : 130 ||| m = m) :
    State.SameOutside m o (State.advanceSys s b1) := by
  unfold State.advanceSys
  exact (State.SameOutside.ite (State.advanceTo_same h (mask_trans rfl k)) h)

theorem State.stepCount_same (h : State.SameOutside m o s) (k : 2199023255680 ||| m = m) :
    State.SameOutside m o (State.stepCount s b1) := by
  unfold State.stepCount
  extract_lets -merge -useContext -underBinder x0 x1 x2
  have h3 : State.SameOutside m o x2 := (State.SameOutside.set_time h (mask_trans rfl k))
  exact (State.fset_same h3 (mask_trans rfl k) (pageMask_time (mask_trans rfl k)))

theorem State.openFrame_same (h : State.SameOutside m o s) (k : 2201170739330 ||| m = m) :
    State.SameOutside m o (State.openFrame s) := by
  unfold State.openFrame
  extract_lets -merge -useContext -underBinder x0 x1 x2 x3
  have h4 : State.SameOutside m o x1 := (State.advanceSys_same h (mask_trans rfl k))
  have h5 : State.SameOutside m o x3 := (State.SameOutside.set_time h4 (mask_trans rfl k))
  exact (State.evt_same (State.fset_same h5 (mask_trans rfl k) (pageMask_time (mask_trans rfl k))) (mask_trans rfl k) (pageMask_time (mask_trans rfl k)))

theorem State.setSync_same (h : State.SameOutside m o s) (k : 128 ||| m = m) :
    State.SameOutside m o (State.setSync s b1 b2) := by
  unfold State.setSync
  extract_lets -merge -useContext -underBinder x0
  exact (State.SameOutside.set_time h (mask_trans rfl k))

theorem State.setSyncState_same (h : State.SameOutside m o s) (k : 72569917014144 ||| m = m) :
    State.SameOutside m o (State.setSyncState s b1) := by
  unfold State.setSyncState
  extract_lets -merge -useContext -underBinder x0 x1 x2 x3 x4 x5 x6 x7
  have h8 : State.SameOutside m o x1 := (State.fset_same h (mask_trans rfl k) (pageMask_time (mask_trans rfl k)))
  have h9 : State.SameOutside m o x2 := (State.SameOutside.ite (State.evt_same h8 (mask_trans rfl k) (pageMask_time (mask_trans rfl k))) h8)
  have h10 : State.SameOutside m o x3 := (State.SameOutside.ite (State.evt_same h9 (mask_trans rfl k) (pageMask_time (mask_trans rfl k))) h9)
  have h11 : State.SameOutside m o x5 := (State.SameOutside.set_time h10 (mask_trans rfl k))
  have h12 : State.SameOutside m o x7 := (State.SameOutside.ite (State.SameOutside.set_time h11 (mask_trans rfl k)) h11)
  exact (State.SameOutside.ite h (State.evalGroups_same h12 (mask_trans rfl k)))

theorem State.showRoot_same (h : State.SameOutside m o s) (k : 2201170739200 ||| m = m) :
    State.SameOutside m o (State.showRoot s b1) := by
  unfold State.showRoot
  exact (State.SameOutside.ite h (State.evt_same (State.fset_same h (mask_trans rfl k) (pageMask_time (mask_trans rfl k))) (mask_trans rfl k) (pageMask_time (mask_trans rfl k))))

theorem State.follow_same (h : State.SameOutside m o s) (k : 2201170739200 ||| m = m) :
    State.SameOutside m o (State.follow s b1) := by
  unfold State.follow
  split
  · rename_i x0 x1
    extract_lets -merge -useContext -underBinder x2
    have h3 : State.SameOutside m o x2 := (State.fset_same (State.fset_same (State.fset_same h (mask_trans rfl k) (pageMask_time (mask_trans rfl k))) (mask_trans rfl k) (pageMask_time (mask_trans rfl k))) (mask_trans rfl k) (pageMask_time (mask_trans rfl k)))
    exact (State.showRoot_same h3 (mask_trans rfl k))
  · rename_i x4
    exact (State.fset_same (State.fset_same h (mask_trans rfl k) (pageMask_time (mask_trans rfl k))) (mask_trans rfl k) (pageMask_time (mask_trans rfl k)))

theorem State.evalSync_same (h : State.SameOutside m o s) (k : 72569917014144 ||| m = m) :
    State.SameOutside m o (State.evalSync s) := by
  unfold State.evalSync
  extract_lets -merge -useContext -underBinder x0 x1
  have h2 : State.SameOutside m o x1 := (State.fset_same (State.fset_same h (mask_trans rfl k) (pageMask_time (mask_trans rfl k))) (mask_trans rfl k) (pageMask_time (mask_trans rfl k)))
  exact (State.SameOutside.ite (State.setSyncState_same (State.showRoot_same h2 (mask_trans rfl k)) (mask_trans rfl k)) (by
    split
    · rename_i x3 x4 x5
      exact (State.follow_same h (mask_trans rfl k))
    · rename_i x6 x7
      extract_lets -merge -useContext -underBinder x8 x9 x10
      have h11 : State.SameOutside m o x10 := (State.follow_same h (mask_trans rfl k))
      split
      · rename_i x12 x13 x14 x15 x16
        exact (State.setSyncState_same h11 (mask_trans rfl k))
      · rename_i x17 x18 x19 x20 x21
        exact (State.setSyncState_same h11 (mask_trans rfl k))
      · rename_i x22 x23 x24 x25 x26
        exact (State.setSyncState_same h11 (mask_trans rfl k))
      · rename_i x27 x28 x29 x30
        exact (State.setSyncState_same h11 (mask_trans rfl k))
      · rename_i x31 x32 x33 x34
        exact (State.setSyncState_same h11 (mask_trans rfl k))
      · rename_i x35 x36 x37 x38 x39
        extract_lets -merge -useContext -underBinder x40
        exact (State.SameOutside.ite (State.SameOutside.set_time h11 (mask_trans rfl k)) h11)
      · rename_i x41 x42 x43 x44
        exact (State.setSyncState_same h11 (mask_trans rfl k))
      · rename_i x45 x46 x47 x48 x49 x50 x51 x52 x53
        exact h11))

theorem State.parentLost_same (h : State.SameOutside m o s) (k : 72569917014144 ||| m = m) :
    State.SameOutside m o (State.parentLost s) := by
  unfold State.parentLost
  split
  · rename_i x0 x1 x2
    extract_lets -merge -useContext -underBinder x3
    exact (State.evalSync_same (State.setSync_same h (mask_trans rfl k)) (mask_trans rfl k))
  · rename_i x4 x5
    exact (State.evalSync_same h (mask_trans rfl k))

theorem State.holdoverExpiry_same (h : State.SameOutside m o s) (k : 72569917014146 ||| m = m) :
    State.SameOutside m o (State.holdoverExpiry s) := by
  unfold State.holdoverExpiry
  exact (State.SameOutside.ite (State.setSyncState_same (State.advanceTo_same h (mask_trans rfl k)) (mask_trans rfl k)) h)

theorem State.steer_same (h : State.SameOutside m o s) (k : 132 ||| m = m) :
    State.SameOutside m o (State.steer s b1 b2) := by
  unfold State.steer
  split
  · rename_i x0 x1 x2 x3
    have h4 : State.SameOutside m o x2 := State.SameOutside.of_eq2 x3 (State.fresh_same h (mask_trans rfl k))
    extract_lets -merge -useContext -underBinder x5 x6
    exact (State.SameOutside.set_time h4 (mask_trans rfl k))

theorem State.exchange_same (h : State.SameOutside m o s) (k : 72569917014148 ||| m = m) :
    State.SameOutside m o (State.exchange s b1 b2) := by
  unfold State.exchange
  split
  · rename_i x0 x1 x2 x3
    have h4 : State.SameOutside m o x2 := State.SameOutside.of_eq2 x3 (State.roundFree_same h (mask_trans rfl k))
    split
    · rename_i x5 x6 x7 x8
      have h9 : State.SameOutside m o x7 := State.SameOutside.of_eq2 x8 (State.roundFree_same h4 (mask_trans rfl k))
      extract_lets -merge -useContext -underBinder x10 x11 x12 x13 x14 x15 x16
      have h17 : State.SameOutside m o x10 := (State.fsetI_same h9 (mask_trans rfl k) (pageMask_time (mask_trans rfl k)))
      have h18 : State.SameOutside m o x11 := (State.fset_same h17 (mask_trans rfl k) (pageMask_time (mask_trans rfl k)))
      have h19 : State.SameOutside m o x16 := (State.SameOutside.set_time h18 (mask_trans rfl k))
      split
      · rename_i x20 x21
        extract_lets -merge -useContext -underBinder x22 x23 x24 x25
        have h26 : State.SameOutside m o x24 := (State.SameOutside.set_time h19 (mask_trans rfl k))
        have h27 : State.SameOutside m o x25 := (State.SameOutside.ite (State.SameOutside.ite (State.steer_same h26 (mask_trans rfl k)) (State.stepCount_same h26 (mask_trans rfl k))) (State.steer_same h26 (mask_trans rfl k)))
        exact (State.SameOutside.ite (State.setSyncState_same h27 (mask_trans rfl k)) h27)
      · rename_i x28 x29
        extract_lets -merge -useContext -underBinder x30 x31 x32 x33
        have h34 : State.SameOutside m o x32 := (State.SameOutside.set_time h19 (mask_trans rfl k))
        have h35 : State.SameOutside m o x33 := (State.steer_same h34 (mask_trans rfl k))
        exact (State.SameOutside.ite (State.setSyncState_same h35 (mask_trans rfl k)) h35)
      · rename_i x36 x37 x38
        exact h19

theorem State.syncRx_same (h : State.SameOutside m o s) (k : 72569917014148 ||| m = m) :
    State.SameOutside m o (State.syncRx s b1 b2 b3) := by
  unfold State.syncRx
  extract_lets x t1 t2 t4 asym sent y
  clear_value sent
  split
  · exact State.evalSync_same (State.setSync_same h (mask_trans rfl k)) (mask_trans rfl k)
  · extract_lets u num t
    have ht : State.SameOutside m o t := State.evalSync_same (State.setSync_same h (mask_trans rfl k)) (mask_trans rfl k)
    exact State.SameOutside.ite (State.exchange_same ht k) ht

theorem State.syncTx_same (h : State.SameOutside m o s) (k : 2147483776 ||| m = m) :
    State.SameOutside m o (State.syncTx s b1 b2) := by
  unfold State.syncTx
  extract_lets -merge -useContext -underBinder x0 x1 x2 x3 x4
  have h5 : State.SameOutside m o x4 := (State.setSync_same h (mask_trans rfl k))
  exact (State.SameOutside.ite h (State.emit_same h5 (mask_trans rfl k)))

theorem State.sendPhases_same (h : State.SameOutside m o s) (k : 2147483648 ||| m = m) :
    State.SameOutside m o (State.sendPhases s b1) := by
  unfold State.sendPhases
  exact (State.SameOutside.foldl h (fun a2 s0 h1 => (State.emit_same h1 (mask_trans rfl k))))

theorem State.phaseTx_same (h : State.SameOutside m o s) (k : 2147483648 ||| m = m) :
    State.SameOutside m o (State.phaseTx s) := by
  unfold State.phaseTx
  split
  · rename_i x0 x1 x2
    exact (State.SameOutside.ite (State.sendPhases_same h (mask_trans rfl k)) h)
  · rename_i x3 x4
    exact h

theorem State.phaseRx_same (h : State.SameOutside m o s) (k : 2147483776 ||| m = m) :
    State.SameOutside m o (State.phaseRx s b1 b2) := by
  unfold State.phaseRx
  extract_lets -merge -useContext -underBinder x0 x1 x2
  have h3 : State.SameOutside m o x2 := (State.SameOutside.set_time h (mask_trans rfl k))
  exact (State.SameOutside.ite h (State.sendPhases_same h3 (mask_trans rfl k)))

theorem State.showPhases_same (h : State.SameOutside m o s) (k : 2199023255552 ||| m = m) :
    State.SameOutside m o (State.showPhases s) := by
  unfold State.showPhases
  exact (State.SameOutside.foldl h (fun a2 s0 h1 => (by
    extract_lets -merge -useContext -underBinder x3
    exact (State.fset_same h1 (mask_trans rfl k) (pageMask_time (mask_trans rfl k))))))

theorem State.applyPhases_same (h : State.SameOutside m o s) (k : 2199023255680 ||| m = m) :
    State.SameOutside m o (State.applyPhases s) := by
  unfold State.applyPhases
  extract_lets -merge -useContext -underBinder x0 x1 x2 x3
  exact (State.showPhases_same (State.SameOutside.set_time h (mask_trans rfl k)) (mask_trans rfl k))

theorem State.setClap_same (h : State.SameOutside m o s) (k : 128 ||| m = m) :
    State.SameOutside m o (State.setClap s b1 b2) := by
  unfold State.setClap
  extract_lets -merge -useContext -underBinder x0
  exact (State.SameOutside.set_time h (mask_trans rfl k))

theorem State.setBitOf_same (h : State.SameOutside m o s) (k : 2199023255552 ||| m = m) :
    State.SameOutside m o (State.setBitOf s b1 b2 b3) := by
  unfold State.setBitOf
  exact (State.fset_same h (mask_trans rfl k) (pageMask_time (mask_trans rfl k)))

theorem State.restartClap_same (h : State.SameOutside m o s) (k : 2199023255680 ||| m = m) :
    State.SameOutside m o (State.restartClap s b1 b2) := by
  unfold State.restartClap
  extract_lets -merge -useContext -underBinder x0 x1 x2
  have h3 : State.SameOutside m o x1 := (State.setClap_same h (mask_trans rfl k))
  have h4 : State.SameOutside m o x2 := (State.setBitOf_same h3 (mask_trans rfl k))
  exact (State.SameOutside.foldl h4 (fun a7 s5 h6 => (State.setBitOf_same h6 (mask_trans rfl k))))

theorem State.showClap_same (h : State.SameOutside m o s) (k : 2199023255552 ||| m = m) :
    State.SameOutside m o (State.showClap s b1) := by
  unfold State.showClap
  extract_lets -merge -useContext -underBinder x0 x1
  exact (State.fset_same h (mask_trans rfl k) (pageMask_time (mask_trans rfl k)))

theorem State.deriveStart_same (h : State.SameOutside m o s) (k : 2201170739328 ||| m = m) :
    State.SameOutside m o (State.deriveStart s b1 b2) := by
  unfold State.deriveStart
  extract_lets -merge -useContext -underBinder x0 x1 x2 x3 x4 x5 x6 x7 x8 x9 x10 x11 x12
  have h13 : State.SameOutside m o x7 := (State.setBitOf_same h (mask_trans rfl k))
  exact (State.SameOutside.ite (State.SameOutside.ite h13 (State.SameOutside.set_time h13 (mask_trans rfl k))) (State.SameOutside.ite h (State.evt_same (State.setBitOf_same h (mask_trans rfl k)) (mask_trans rfl k) (pageMask_time (mask_trans rfl k)))))

theorem State.acceptPhase_same (h : State.SameOutside m o s) (k : 2201170739328 ||| m = m) :
    State.SameOutside m o (State.acceptPhase s b1 b2) := by
  unfold State.acceptPhase
  extract_lets -merge -useContext -underBinder x0 x1 x2 x3 x4 x5
  have h6 : State.SameOutside m o x3 := (State.setClap_same h (mask_trans rfl k))
  have h7 : State.SameOutside m o x4 := (State.SameOutside.ite (State.setBitOf_same h6 (mask_trans rfl k)) h6)
  have h8 : State.SameOutside m o x5 := (State.showClap_same h7 (mask_trans rfl k))
  exact (State.SameOutside.ite (State.SameOutside.foldl h8 (fun a11 s9 h10 => (State.deriveStart_same h10 (mask_trans rfl k)))) h8)

theorem State.clapEdge_same (h : State.SameOutside m o s) (k : 2201170739328 ||| m = m) :
    State.SameOutside m o (State.clapEdge s b1 b2) := by
  unfold State.clapEdge
  extract_lets -merge -useContext -underBinder x0 x1 x2 x3 x4 x5 x6 x7
  have h8 : State.SameOutside m o x1 := (State.setClap_same h (mask_trans rfl k))
  have h9 : State.SameOutside m o x3 := (State.setBitOf_same h8 (mask_trans rfl k))
  exact (State.SameOutside.ite h (State.SameOutside.ite (State.acceptPhase_same h9 (mask_trans rfl k)) (State.SameOutside.ite (State.SameOutside.ite (State.setClap_same h9 (mask_trans rfl k)) (State.evt_same (State.showClap_same (State.restartClap_same h9 (mask_trans rfl k)) (mask_trans rfl k)) (mask_trans rfl k) (pageMask_time (mask_trans rfl k)))) (State.acceptPhase_same h9 (mask_trans rfl k)))))

theorem State.clapBoundary_same (h : State.SameOutside m o s) (k : 2201170739328 ||| m = m) :
    State.SameOutside m o (State.clapBoundary s) := by
  unfold State.clapBoundary
  exact (State.SameOutside.ite h (State.SameOutside.foldl h (fun a2 s0 h1 => (by
    extract_lets -merge -useContext -underBinder x3 x4
    have h5 : State.SameOutside m o x4 := (State.setClap_same h1 (mask_trans rfl k))
    exact (State.SameOutside.ite h1 (State.SameOutside.ite (State.setClap_same h1 (mask_trans rfl k)) (State.SameOutside.ite (State.evt_same (State.setBitOf_same (State.showClap_same (State.restartClap_same h5 (mask_trans rfl k)) (mask_trans rfl k)) (mask_trans rfl k)) (mask_trans rfl k) (pageMask_time (mask_trans rfl k))) h5)))))))

theorem State.timeApplied_same (h : State.SameOutside m o s) (k : 72569917014144 ||| m = m) :
    State.SameOutside m o (State.timeApplied s b1) := by
  unfold State.timeApplied
  extract_lets -merge -useContext -underBinder x0 x1 x2 x3 x4 x5 x6 x7 x8 x9 x10
  have h11 : State.SameOutside m o x3 := (State.SameOutside.set_time h (mask_trans rfl k))
  have h12 : State.SameOutside m o x4 := (State.fset64_same h11 (mask_trans rfl k) (pageMask_time (mask_trans rfl k)))
  have h13 : State.SameOutside m o x5 := (State.fset_same h12 (mask_trans rfl k) (pageMask_time (mask_trans rfl k)))
  have h14 : State.SameOutside m o x9 := (State.SameOutside.ite (State.showPhases_same (State.SameOutside.set_time h13 (mask_trans rfl k)) (mask_trans rfl k)) h)
  have h15 : State.SameOutside m o x10 := (State.SameOutside.foldl h14 (fun a18 s16 h17 => (by
    extract_lets -merge -useContext -underBinder x19
    have h20 : State.SameOutside m o x19 := (State.setClap_same (State.restartClap_same h17 (mask_trans rfl k)) (mask_trans rfl k))
    exact (State.SameOutside.ite (State.setBitOf_same (State.showClap_same h20 (mask_trans rfl k)) (mask_trans rfl k)) h17))))
  exact (State.evalSync_same h15 (mask_trans rfl k))

theorem State.stageBoundary_same (h : State.SameOutside m o s) (k : 2201170739200 ||| m = m) :
    State.SameOutside m o (State.stageBoundary s) := by
  unfold State.stageBoundary
  split
  · rename_i x0 x1
    exact (State.fset_same h (mask_trans rfl k) (pageMask_time (mask_trans rfl k)))
  · rename_i x2 x3
    exact (State.evt_same (State.fset_same (State.fset_same h (mask_trans rfl k) (pageMask_time (mask_trans rfl k))) (mask_trans rfl k) (pageMask_time (mask_trans rfl k))) (mask_trans rfl k) (pageMask_time (mask_trans rfl k)))
  · rename_i x4 x5 x6
    exact h

theorem State.slate_same (h : State.SameOutside m o s) (k : 2199023255552 ||| m = m) :
    State.SameOutside m o (State.slate s b1) := by
  unfold State.slate
  extract_lets -merge -useContext -underBinder x0 x1 x2 x3
  have h4 : State.SameOutside m o x1 := by
    unfold x1
    split
    · rename_i x5 x6 x7
      split
      · rename_i x8 x9 x10
        exact (State.fset_same h (mask_trans rfl k) (pageMask_time (mask_trans rfl k)))
      · rename_i x11 x12
        exact h
    · rename_i x13 x14
      exact h
  have h15 : State.SameOutside m o x3 := (State.fsetB_same h4 (mask_trans rfl k) (pageMask_time (mask_trans rfl k)))
  exact (State.SameOutside.ite (State.fwrap_same h15 (mask_trans rfl k) (pageMask_time (mask_trans rfl k))) h15)

theorem State.slateBoundary_same (h : State.SameOutside m o s) (k : 2199023255680 ||| m = m) :
    State.SameOutside m o (State.slateBoundary s) := by
  unfold State.slateBoundary
  extract_lets -merge -useContext -underBinder x0 x1 x2 x3 x4 x5
  have h6 : State.SameOutside m o x1 := (State.SameOutside.foldl h (fun a9 s7 h8 => (State.slate_same h8 (mask_trans rfl k))))
  have h10 : State.SameOutside m o x3 := (State.SameOutside.ite h6 (State.SameOutside.set_time h6 (mask_trans rfl k)))
  exact (State.SameOutside.set_time h10 (mask_trans rfl k))

theorem State.stillBoundary_same (h : State.SameOutside m o s) (k : 2201170739328 ||| m = m) :
    State.SameOutside m o (State.stillBoundary s) := by
  unfold State.stillBoundary
  extract_lets -merge -useContext -underBinder x0 x1 x2 x3 x4 x5 x6 x7
  have h8 : State.SameOutside m o x5 := (State.SameOutside.set_time h (mask_trans rfl k))
  have h9 : State.SameOutside m o x6 := (State.fset_same h8 (mask_trans rfl k) (pageMask_time (mask_trans rfl k)))
  have h10 : State.SameOutside m o x7 := (State.finc_same h8 (mask_trans rfl k) (pageMask_time (mask_trans rfl k)))
  exact (State.SameOutside.ite (State.SameOutside.ite (State.evt_same (State.fset_same h9 (mask_trans rfl k) (pageMask_time (mask_trans rfl k))) (mask_trans rfl k) (pageMask_time (mask_trans rfl k))) h9) (State.SameOutside.ite (State.evt_same (State.finc_same (State.fset_same h10 (mask_trans rfl k) (pageMask_time (mask_trans rfl k))) (mask_trans rfl k) (pageMask_time (mask_trans rfl k))) (mask_trans rfl k) (pageMask_time (mask_trans rfl k))) h10))

theorem State.setTime_same (h : State.SameOutside m o s) (k : 2199023255680 ||| m = m) :
    State.SameOutside m o (State.setTime s) := by
  unfold State.setTime
  exact (State.stepCount_same h (mask_trans rfl k))

theorem State.clapRestart_same (h : State.SameOutside m o s) (k : 2199023255680 ||| m = m) :
    State.SameOutside m o (State.clapRestart s b1) := by
  unfold State.clapRestart
  exact (State.showClap_same (State.restartClap_same h (mask_trans rfl k)) (mask_trans rfl k))

theorem State.readNow_same (h : State.SameOutside m o s) (k : 2199023255552 ||| m = m) :
    State.SameOutside m o (State.readNow s).2 := by
  unfold State.readNow
  extract_lets -merge -useContext -underBinder x0
  have h1 : State.SameOutside m o x0 := (State.fset_same (State.fset_same h (mask_trans rfl k) (pageMask_time (mask_trans rfl k))) (mask_trans rfl k) (pageMask_time (mask_trans rfl k)))
  exact (State.SameOutside.pr2 h1)

end Sys2Proof.Machine
end

