-- ==== Sys2Proof/Laws/Frame/Safe.lean ====
section
/-! SUPPORT. What every command leaves alone: one lemma for each function of Machine/Safe.lean that changes the state. -/

namespace Sys2Proof.Machine

variable {o s : State} {m : Nat}

theorem State.setBit_same (h : State.SameOutside m o s) (k : 0 ||| m = m) (kp1 : pageMask b1 ||| m = m) :
    State.SameOutside m o (State.setBit s b1 b2 b3 b4) := by
  unfold State.setBit
  exact (State.fset_same h (mask_trans rfl k) kp1)

theorem State.showInput_same (h : State.SameOutside m o s) (k : 70368744177664 ||| m = m) :
    State.SameOutside m o (State.showInput s b1) := by
  unfold State.showInput
  extract_lets -merge -useContext -underBinder x0 x1
  have h2 : State.SameOutside m o x1 := (State.setBit_same (State.setBit_same h (mask_trans rfl k) (pageMask_saf (mask_trans rfl k))) (mask_trans rfl k) (pageMask_saf (mask_trans rfl k)))
  exact (State.setBit_same h2 (mask_trans rfl k) (pageMask_saf (mask_trans rfl k)))

theorem State.safeInChange_same (h : State.SameOutside m o s) (k : 70370893758464 ||| m = m) :
    State.SameOutside m o (State.safeInChange s b1 b2 b3) := by
  unfold State.safeInChange
  extract_lets -merge -useContext -underBinder x0 x1 x2 x3
  exact (State.evalGroups_same (State.showInput_same (State.setInput_same h (mask_trans rfl k)) (mask_trans rfl k)) (mask_trans rfl k))

theorem State.safeInDemand_same (h : State.SameOutside m o s) (k : 36893702554336102534 ||| m = m) :
    State.SameOutside m o (State.safeInDemand s b1 b2) := by
  unfold State.safeInDemand
  extract_lets -merge -useContext -underBinder x0 x1 x2
  have h3 : State.SameOutside m o x1 := (State.advanceTo_same h (mask_trans rfl k))
  exact (State.SameOutside.ite h (State.evalGroups_same (State.trip_same (State.showInput_same (State.setInput_same h3 (mask_trans rfl k)) (mask_trans rfl k)) (mask_trans rfl k)) (mask_trans rfl k)))

theorem State.inDisc_same (h : State.SameOutside m o s) (k : 36893702554336102534 ||| m = m) :
    State.SameOutside m o (State.inDisc s b1) := by
  unfold State.inDisc
  extract_lets -merge -useContext -underBinder x0 x1
  have h2 : State.SameOutside m o x1 := (State.advanceTo_same h (mask_trans rfl k))
  exact (State.SameOutside.ite h (State.evalGroups_same (State.trip_same (State.setBit_same h2 (mask_trans rfl k) (pageMask_saf (mask_trans rfl k))) (mask_trans rfl k)) (mask_trans rfl k)))

theorem State.rxReject_same (h : State.SameOutside m o s) (k : 70370891661312 ||| m = m) :
    State.SameOutside m o (State.rxReject s b1) := by
  unfold State.rxReject
  exact (State.evt_same (State.finc_same h (mask_trans rfl k) (pageMask_saf (mask_trans rfl k))) (mask_trans rfl k) (pageMask_saf (mask_trans rfl k)))

theorem State.rxAccept_same (h : State.SameOutside m o s) (k : 36893702554336102532 ||| m = m) :
    State.SameOutside m o (State.rxAccept s b1 b2) := by
  unfold State.rxAccept
  extract_lets -merge -useContext -underBinder x0 x1 x2 x3 x4 x5
  have h6 : State.SameOutside m o x1 := (State.fset_same (State.fset_same (State.fset_same h (mask_trans rfl k) (pageMask_saf (mask_trans rfl k))) (mask_trans rfl k) (pageMask_saf (mask_trans rfl k))) (mask_trans rfl k) (pageMask_saf (mask_trans rfl k)))
  have h7 : State.SameOutside m o x2 := (State.finc_same (State.fset_same h6 (mask_trans rfl k) (pageMask_saf (mask_trans rfl k))) (mask_trans rfl k) (pageMask_saf (mask_trans rfl k)))
  have h8 : State.SameOutside m o x4 := (State.setConn_same h7 (mask_trans rfl k))
  exact (State.evalGroups_same (State.SameOutside.ite h8 (State.trip_same h8 (mask_trans rfl k))) (mask_trans rfl k))

theorem State.rxChecks_same (h : State.SameOutside m o s) (k : 36893702554336102532 ||| m = m) :
    State.SameOutside m o (State.rxChecks s b1).2 := by
  unfold State.rxChecks
  split
  · rename_i x0 x1
    exact (State.SameOutside.pr2 h)
  · rename_i x2 x3 x4
    extract_lets -merge -useContext -underBinder x5 x6 x7 x8 x9
    exact (State.SameOutside.ite2 (State.SameOutside.pr2 (State.rxReject_same h (mask_trans rfl k))) (State.SameOutside.ite2 (State.SameOutside.pr2 (State.rxReject_same h (mask_trans rfl k))) (State.SameOutside.ite2 (State.SameOutside.pr2 (State.rxReject_same h (mask_trans rfl k))) (State.SameOutside.ite2 (State.SameOutside.pr2 (State.finc_same h (mask_trans rfl k) (pageMask_saf (mask_trans rfl k)))) (State.SameOutside.ite2 (State.SameOutside.pr2 (State.rxReject_same h (mask_trans rfl k))) (State.SameOutside.pr2 (State.rxAccept_same h (mask_trans rfl k))))))))

theorem State.safetyRx_same (h : State.SameOutside m o s) (k : 73786975197527456740 ||| m = m) :
    State.SameOutside m o (State.safetyRx s b1 b2).2 := by
  unfold State.safetyRx
  extract_lets -merge -useContext -underBinder x0 x1
  have h2 : State.SameOutside m o x1 := (State.forwardCell_same h (mask_trans rfl k))
  exact (State.SameOutside.ite2 (State.SameOutside.pr2 (State.upwardRx_same h (mask_trans rfl k))) (by
    split
    · rename_i x3 x4 x5
      have h6 : State.SameOutside m o x4 := State.SameOutside.of_eq2 x5 (State.singleCell_same h2 (mask_trans rfl k))
      exact (State.SameOutside.pr2 h6)
    · rename_i x7 x8 x9 x10
      have h11 : State.SameOutside m o x9 := State.SameOutside.of_eq2 x10 (State.singleCell_same h2 (mask_trans rfl k))
      exact (State.SameOutside.ite2 (State.SameOutside.pr2 h11) (State.SameOutside.ite2 (State.SameOutside.pr2 (State.rxReject_same h11 (mask_trans rfl k))) (State.rxChecks_same h11 (mask_trans rfl k))))))

theorem State.watchdog_same (h : State.SameOutside m o s) (k : 36893702554336102534 ||| m = m) :
    State.SameOutside m o (State.watchdog s b1) := by
  unfold State.watchdog
  extract_lets -merge -useContext -underBinder x0 x1 x2 x3 x4 x5
  have h6 : State.SameOutside m o x3 := (State.advanceTo_same h (mask_trans rfl k))
  have h7 : State.SameOutside m o x4 := (State.fset_same h6 (mask_trans rfl k) (pageMask_saf (mask_trans rfl k)))
  have h8 : State.SameOutside m o x5 := (State.SameOutside.ite (State.evt_same h7 (mask_trans rfl k) (pageMask_saf (mask_trans rfl k))) h7)
  exact (State.SameOutside.ite h (State.evalGroups_same (State.trip_same h8 (mask_trans rfl k)) (mask_trans rfl k)))

theorem State.statusTx_same (h : State.SameOutside m o s) (k : 70370893758594 ||| m = m) :
    State.SameOutside m o (State.statusTx s) := by
  unfold State.statusTx
  exact (State.SameOutside.ite (State.sendStatus_same (State.advanceTo_same h (mask_trans rfl k)) (mask_trans rfl k)) h)

theorem State.recordZone_same (h : State.SameOutside m o s) (k : 140737488355328 ||| m = m) :
    State.SameOutside m o (State.recordZone s b1 b2 b3 b4) := by
  unfold State.recordZone
  extract_lets -merge -useContext -underBinder x0 x1
  have h2 : State.SameOutside m o x0 := (State.fset_same (State.fset_same (State.fset_same h (mask_trans rfl k) (pageMask_grd (mask_trans rfl k))) (mask_trans rfl k) (pageMask_grd (mask_trans rfl k))) (mask_trans rfl k) (pageMask_grd (mask_trans rfl k)))
  have h3 : State.SameOutside m o x1 := (State.fset_same (State.fsetB_same h2 (mask_trans rfl k) (pageMask_grd (mask_trans rfl k))) (mask_trans rfl k) (pageMask_grd (mask_trans rfl k)))
  exact (State.fset_same (State.fset_same h3 (mask_trans rfl k) (pageMask_grd (mask_trans rfl k))) (mask_trans rfl k) (pageMask_grd (mask_trans rfl k)))

theorem State.tripZone_same (h : State.SameOutside m o s) (k : 36893702554336102532 ||| m = m) :
    State.SameOutside m o (State.tripZone s b1 b2 b3 b4) := by
  unfold State.tripZone
  extract_lets -merge -useContext -underBinder x0
  exact (State.trip_same (State.SameOutside.ite h (State.recordZone_same h (mask_trans rfl k))) (mask_trans rfl k))

theorem State.tapJudge_same (h : State.SameOutside m o s) (k : 36893702554336102532 ||| m = m) :
    State.SameOutside m o (State.tapJudge s b1 b2 b3 b4 b5) := by
  unfold State.tapJudge
  exact (State.SameOutside.ite (State.tripZone_same h (mask_trans rfl k)) (State.SameOutside.ite (State.tripZone_same h (mask_trans rfl k)) h))

theorem State.tapCode_same (h : State.SameOutside m o s) (k : 36893702554336102532 ||| m = m) :
    State.SameOutside m o (State.tapCode s b1 b2 b3) := by
  unfold State.tapCode
  extract_lets -merge -useContext -underBinder x0 x1 x2 x3
  subst x3
  exact (State.SameOutside.ite (State.tapJudge_same (State.SameOutside.set_safe h (mask_trans rfl k)) (mask_trans rfl k)) h)

theorem State.tapSilent_same (h : State.SameOutside m o s) (k : 36893702554336102534 ||| m = m) :
    State.SameOutside m o (State.tapSilent s b1) := by
  unfold State.tapSilent
  extract_lets -merge -useContext -underBinder x0
  have h1 : State.SameOutside m o x0 := (State.advanceTo_same h (mask_trans rfl k))
  exact (State.SameOutside.ite h (State.trip_same (State.finc_same h1 (mask_trans rfl k) (pageMask_grd (mask_trans rfl k))) (mask_trans rfl k)))

theorem State.zoneBoundary_same (h : State.SameOutside m o s) (k : 36893702554336102532 ||| m = m) :
    State.SameOutside m o (State.zoneBoundary s) := by
  unfold State.zoneBoundary
  extract_lets -merge -useContext -underBinder x0 x1 x2 x3
  subst x0
  have h4 : State.SameOutside m o x1 := (State.SameOutside.set_safe h (mask_trans rfl k))
  have h5 : State.SameOutside m o x3 := (State.fset_same h4 (mask_trans rfl k) (pageMask_grd (mask_trans rfl k)))
  exact (State.SameOutside.ite (State.SameOutside.ite h5 (State.trip_same h5 (mask_trans rfl k))) h4)

theorem State.matteSigCheck_same (h : State.SameOutside m o s) (k : 36893702554336102532 ||| m = m) :
    State.SameOutside m o (State.matteSigCheck s) := by
  unfold State.matteSigCheck
  extract_lets -merge -useContext -underBinder x0 x1 x2 x3
  exact (State.SameOutside.ite h (State.SameOutside.ite (State.trip_same h (mask_trans rfl k)) h))

theorem State.ovlSigCheck_same (h : State.SameOutside m o s) (k : 36893702554336102532 ||| m = m) :
    State.SameOutside m o (State.ovlSigCheck s b1 b2) := by
  unfold State.ovlSigCheck
  extract_lets -merge -useContext -underBinder x0 x1 x2
  have h3 : State.SameOutside m o x2 := (State.fsetB_same h (mask_trans rfl k) (pageMask_saf (mask_trans rfl k)))
  exact (State.SameOutside.ite h (State.SameOutside.ite (State.trip_same h3 (mask_trans rfl k)) (State.SameOutside.ite (State.trip_same h3 (mask_trans rfl k)) h3)))

theorem State.fbChange_same (h : State.SameOutside m o s) (k : 70370893758592 ||| m = m) :
    State.SameOutside m o (State.fbChange s b1 b2) := by
  unfold State.fbChange
  extract_lets -merge -useContext -underBinder x0 x1 x2 x3 x4 x5
  have h6 : State.SameOutside m o x1 := (State.setGroup_same h (mask_trans rfl k))
  have h7 : State.SameOutside m o x3 := (State.setGroup_same h6 (mask_trans rfl k))
  have h8 : State.SameOutside m o x5 := (State.evt_same (State.SameOutside.set_time h7 (mask_trans rfl k)) (mask_trans rfl k) (pageMask_saf (mask_trans rfl k)))
  exact (State.SameOutside.ite (State.statusIfMoved_same h8 (mask_trans rfl k)) (State.evalGroups_same h6 (mask_trans rfl k)))

theorem State.fbDisagree_same (h : State.SameOutside m o s) (k : 36893702554336102534 ||| m = m) :
    State.SameOutside m o (State.fbDisagree s b1) := by
  unfold State.fbDisagree
  extract_lets -merge -useContext -underBinder x0
  exact (State.SameOutside.ite (State.trip_same (State.advanceTo_same h (mask_trans rfl k)) (mask_trans rfl k)) h)

theorem State.fbCloseTimeout_same (h : State.SameOutside m o s) (k : 36893702554336102534 ||| m = m) :
    State.SameOutside m o (State.fbCloseTimeout s b1) := by
  unfold State.fbCloseTimeout
  extract_lets -merge -useContext -underBinder x0
  exact (State.SameOutside.ite (State.evalGroups_same (State.trip_same (State.advanceTo_same h (mask_trans rfl k)) (mask_trans rfl k)) (mask_trans rfl k)) h)

theorem State.fbOpenTimeout_same (h : State.SameOutside m o s) (k : 70370893758594 ||| m = m) :
    State.SameOutside m o (State.fbOpenTimeout s b1) := by
  unfold State.fbOpenTimeout
  extract_lets -merge -useContext -underBinder x0 x1
  have h2 : State.SameOutside m o x1 := (State.enterLockout_same (State.advanceTo_same h (mask_trans rfl k)) (mask_trans rfl k))
  exact (State.SameOutside.ite (State.statusIfMoved_same h2 (mask_trans rfl k)) h)

theorem State.testPulse_same (h : State.SameOutside m o s) (k : 36893702554336102532 ||| m = m) :
    State.SameOutside m o (State.testPulse s b1 b2 b3 b4) := by
  unfold State.testPulse
  extract_lets -merge -useContext -underBinder x0 x1
  have h2 : State.SameOutside m o x1 := (State.setGroup_same h (mask_trans rfl k))
  exact (State.SameOutside.ite (State.SameOutside.ite (State.evalGroups_same (State.trip_same h (mask_trans rfl k)) (mask_trans rfl k)) h) (State.evalGroups_same (State.SameOutside.ite (State.trip_same h2 (mask_trans rfl k)) h2) (mask_trans rfl k)))

theorem State.currentLimit_same (h : State.SameOutside m o s) (k : 36893702554336102532 ||| m = m) :
    State.SameOutside m o (State.currentLimit s b1) := by
  unfold State.currentLimit
  extract_lets -merge -useContext -underBinder x0
  exact (State.evalGroups_same (State.trip_same (State.setGroup_same h (mask_trans rfl k)) (mask_trans rfl k)) (mask_trans rfl k))

theorem State.resetEdge_same (h : State.SameOutside m o s) (k : 70370893758464 ||| m = m) :
    State.SameOutside m o (State.resetEdge s b1) := by
  unfold State.resetEdge
  extract_lets -merge -useContext -underBinder x0 x1 x2 x3 x4 x5 x6 x7 x8 x9 x10 x11
  have h12 : State.SameOutside m o x0 := (State.fsetB_same h (mask_trans rfl k) (pageMask_saf (mask_trans rfl k)))
  subst x2
  subst x7
  have h13 : State.SameOutside m o x8 := (State.SameOutside.set_safe h12 (mask_trans rfl k))
  have h14 : State.SameOutside m o x9 := (State.SameOutside.ite (State.evt_same (State.finc_same h13 (mask_trans rfl k) (pageMask_saf (mask_trans rfl k))) (mask_trans rfl k) (pageMask_saf (mask_trans rfl k))) h13)
  have h15 : State.SameOutside m o x10 := (State.finc_same h14 (mask_trans rfl k) (pageMask_saf (mask_trans rfl k)))
  have h16 : State.SameOutside m o x11 := (State.SameOutside.foldl h15 (fun a19 s17 h18 => (by
    extract_lets -merge -useContext -underBinder x20
    exact (State.setGroup_same h18 (mask_trans rfl k)))))
  exact (State.SameOutside.ite h12 (State.SameOutside.ite (State.SameOutside.set_safe h12 (mask_trans rfl k)) (State.SameOutside.ite (State.statusIfMoved_same h16 (mask_trans rfl k)) h14)))

theorem State.resetRejected_same (h : State.SameOutside m o s) (k : 70370893758594 ||| m = m) :
    State.SameOutside m o (State.resetRejected s) := by
  unfold State.resetRejected
  extract_lets -merge -useContext -underBinder x0 x1 x2
  have h3 : State.SameOutside m o x0 := (State.advanceTo_same h (mask_trans rfl k))
  subst x1
  have h4 : State.SameOutside m o x2 := (State.SameOutside.set_safe h3 (mask_trans rfl k))
  exact (State.SameOutside.ite (State.evt_same (State.finc_same h4 (mask_trans rfl k) (pageMask_saf (mask_trans rfl k))) (mask_trans rfl k) (pageMask_saf (mask_trans rfl k))) h)

theorem State.resetLowHeld_same (h : State.SameOutside m o s) (k : 70370893758594 ||| m = m) :
    State.SameOutside m o (State.resetLowHeld s) := by
  unfold State.resetLowHeld
  extract_lets -merge -useContext -underBinder x0 x1
  have h2 : State.SameOutside m o x0 := (State.advanceTo_same h (mask_trans rfl k))
  subst x1
  exact (State.SameOutside.ite h (State.evalGroups_same (State.SameOutside.set_safe h2 (mask_trans rfl k)) (mask_trans rfl k)))

theorem State.xinLow_same (h : State.SameOutside m o s) (k : 36893702554336102532 ||| m = m) :
    State.SameOutside m o (State.xinLow s) := by
  unfold State.xinLow
  extract_lets -merge -useContext -underBinder x0 x1 x2
  subst x0
  have h3 : State.SameOutside m o x1 := (State.SameOutside.set_safe h (mask_trans rfl k))
  have h4 : State.SameOutside m o x2 := (State.fset_same (State.fset_same h3 (mask_trans rfl k) (pageMask_saf (mask_trans rfl k))) (mask_trans rfl k) (pageMask_grd (mask_trans rfl k)))
  exact (State.SameOutside.ite (State.evalGroups_same (State.trip_same h4 (mask_trans rfl k)) (mask_trans rfl k)) h4)

theorem State.xinUp_same (h : State.SameOutside m o s) (k : 211108382113792 ||| m = m) :
    State.SameOutside m o (State.xinUp s) := by
  unfold State.xinUp
  extract_lets -merge -useContext -underBinder x0 x1
  subst x0
  have h2 : State.SameOutside m o x1 := (State.SameOutside.set_safe h (mask_trans rfl k))
  exact (State.evalGroups_same (State.fset_same (State.fset_same h2 (mask_trans rfl k) (pageMask_saf (mask_trans rfl k))) (mask_trans rfl k) (pageMask_grd (mask_trans rfl k))) (mask_trans rfl k))

theorem State.clearLockout_same (h : State.SameOutside m o s) (k : 70370893758464 ||| m = m) :
    State.SameOutside m o (State.clearLockout s b1) := by
  unfold State.clearLockout
  extract_lets -merge -useContext -underBinder x0 x1 x2
  have h3 : State.SameOutside m o x1 := (State.SameOutside.foldl h (fun a6 s4 h5 => (by
    extract_lets -merge -useContext -underBinder x7
    exact (State.fset_same (State.setGroup_same h5 (mask_trans rfl k)) (mask_trans rfl k) (pageMask_saf (mask_trans rfl k))))))
  have h8 : State.SameOutside m o x2 := (State.SameOutside.foldl h3 (fun a11 s9 h10 => (by
    extract_lets -merge -useContext -underBinder x12
    exact (State.SameOutside.ite (State.setBit_same h10 (mask_trans rfl k) (pageMask_saf (mask_trans rfl k))) h10))))
  exact (State.evalGroups_same (State.statusIfMoved_same h8 (mask_trans rfl k)) (mask_trans rfl k))

theorem State.handoverBegin_same (h : State.SameOutside m o s) (k : 211108382113792 ||| m = m) :
    State.SameOutside m o (State.handoverBegin s) := by
  unfold State.handoverBegin
  extract_lets -merge -useContext -underBinder x0 x1 x2
  subst x0
  have h3 : State.SameOutside m o x1 := (State.SameOutside.set_safe h (mask_trans rfl k))
  have h4 : State.SameOutside m o x2 := (State.SameOutside.foldl h3 (fun a7 s5 h6 => (by
    extract_lets -merge -useContext -underBinder x8
    exact (State.setConn_same h6 (mask_trans rfl k)))))
  exact (State.evalGroups_same (State.evt_same (State.fset_same (State.fset_same h4 (mask_trans rfl k) (pageMask_saf (mask_trans rfl k))) (mask_trans rfl k) (pageMask_grd (mask_trans rfl k))) (mask_trans rfl k) (pageMask_saf (mask_trans rfl k))) (mask_trans rfl k))

theorem State.closeWindow_same (h : State.SameOutside m o s) (k : 211106234630144 ||| m = m) :
    State.SameOutside m o (State.closeWindow s) := by
  unfold State.closeWindow
  extract_lets -merge -useContext -underBinder x0 x1 x2
  subst x0
  have h3 : State.SameOutside m o x1 := (State.SameOutside.set_safe h (mask_trans rfl k))
  have h4 : State.SameOutside m o x2 := (State.SameOutside.foldl h3 (fun a7 s5 h6 => (by
    extract_lets -merge -useContext -underBinder x8
    exact (State.SameOutside.ite (State.setConn_same h6 (mask_trans rfl k)) h6))))
  exact (State.fset_same (State.fset_same h4 (mask_trans rfl k) (pageMask_saf (mask_trans rfl k))) (mask_trans rfl k) (pageMask_grd (mask_trans rfl k)))

theorem State.handoverTrip_same (h : State.SameOutside m o s) (k : 36893702554336102532 ||| m = m) :
    State.SameOutside m o (State.handoverTrip s) := by
  unfold State.handoverTrip
  extract_lets -merge -useContext -underBinder x0 x1 x2
  have h3 : State.SameOutside m o x0 := (State.closeWindow_same h (mask_trans rfl k))
  subst x1
  have h4 : State.SameOutside m o x2 := (State.SameOutside.set_safe h3 (mask_trans rfl k))
  exact (State.evalGroups_same (State.trip_same h4 (mask_trans rfl k)) (mask_trans rfl k))

theorem State.handoverExpired_same (h : State.SameOutside m o s) (k : 36893702554336102534 ||| m = m) :
    State.SameOutside m o (State.handoverExpired s) := by
  unfold State.handoverExpired
  split
  · rename_i x0 x1 x2
    exact (State.handoverTrip_same (State.evt_same (State.advanceTo_same h (mask_trans rfl k)) (mask_trans rfl k) (pageMask_grd (mask_trans rfl k))) (mask_trans rfl k))
  · rename_i x3 x4
    exact h

theorem State.commitInWindow_same (h : State.SameOutside m o s) (k : 36893702554336102532 ||| m = m) :
    State.SameOutside m o (State.commitInWindow s) := by
  unfold State.commitInWindow
  exact (State.SameOutside.ite (State.handoverTrip_same h (mask_trans rfl k)) h)

theorem State.safSilent_same (h : State.SameOutside m o s) (k : 36893702554336102532 ||| m = m) :
    State.SameOutside m o (State.safSilent s) := by
  unfold State.safSilent
  extract_lets -merge -useContext -underBinder x0 x1
  subst x0
  have h2 : State.SameOutside m o x1 := (State.SameOutside.set_safe h (mask_trans rfl k))
  exact (State.evalGroups_same (State.trip_same (State.evt_same (State.fset_same h2 (mask_trans rfl k) (pageMask_grd (mask_trans rfl k))) (mask_trans rfl k) (pageMask_grd (mask_trans rfl k))) (mask_trans rfl k)) (mask_trans rfl k))

theorem State.aliveWrite_same (h : State.SameOutside m o s) (k : 36893702554336102532 ||| m = m) :
    State.SameOutside m o (State.aliveWrite s b1) := by
  unfold State.aliveWrite
  extract_lets -merge -useContext -underBinder x0 x1 x2 x3 x4 x5
  have h6 : State.SameOutside m o x3 := (State.fset_same h (mask_trans rfl k) (pageMask_grd (mask_trans rfl k)))
  subst x4
  have h7 : State.SameOutside m o x5 := (State.SameOutside.set_safe h6 (mask_trans rfl k))
  exact (State.SameOutside.ite (State.fset_same h7 (mask_trans rfl k) (pageMask_grd (mask_trans rfl k))) (State.safSilent_same h6 (mask_trans rfl k)))

theorem State.aliveTimeout_same (h : State.SameOutside m o s) (k : 36893702554336102534 ||| m = m) :
    State.SameOutside m o (State.aliveTimeout s) := by
  unfold State.aliveTimeout
  split
  · rename_i x0 x1 x2
    exact (State.SameOutside.ite h (State.safSilent_same (State.advanceTo_same h (mask_trans rfl k)) (mask_trans rfl k)))
  · rename_i x3 x4
    exact h

theorem State.selfTestStart_same (h : State.SameOutside m o s) (k : 2097152 ||| m = m) :
    State.SameOutside m o (State.selfTestStart s b1) := by
  unfold State.selfTestStart
  extract_lets -merge -useContext -underBinder x0
  exact (State.SameOutside.ite (State.setGroup_same h (mask_trans rfl k)) h)

theorem State.selfTestDone_same (h : State.SameOutside m o s) (k : 70370893758464 ||| m = m) :
    State.SameOutside m o (State.selfTestDone s b1 b2) := by
  unfold State.selfTestDone
  extract_lets -merge -useContext -underBinder x0 x1 x2 x3
  have h4 : State.SameOutside m o x1 := (State.setGroup_same h (mask_trans rfl k))
  exact (State.SameOutside.ite h (State.SameOutside.ite (State.evalGroups_same (State.statusIfMoved_same (State.setGroup_same h4 (mask_trans rfl k)) (mask_trans rfl k)) (mask_trans rfl k)) (State.statusIfMoved_same (State.enterLockout_same h4 (mask_trans rfl k)) (mask_trans rfl k))))

theorem State.safApplied_same (h : State.SameOutside m o s) (k : 36893702554336102532 ||| m = m) :
    State.SameOutside m o (State.safApplied s b1) := by
  unfold State.safApplied
  extract_lets -merge -useContext -underBinder x0 x1 x2
  have h3 : State.SameOutside m o x0 := (State.SameOutside.foldl h (fun a6 s4 h5 => (by
    extract_lets -merge -useContext -underBinder x7 x8 x9
    have h10 : State.SameOutside m o x8 := (State.SameOutside.ite (State.setInput_same h5 (mask_trans rfl k)) h5)
    exact (State.SameOutside.ite h10 (State.setBit_same (State.setInput_same h10 (mask_trans rfl k)) (mask_trans rfl k) (pageMask_saf (mask_trans rfl k)))))))
  have h11 : State.SameOutside m o x1 := (State.SameOutside.foldl h3 (fun a14 s12 h13 => (State.SameOutside.ite (State.fset_same (State.fset_same (State.fset_same h13 (mask_trans rfl k) (pageMask_saf (mask_trans rfl k))) (mask_trans rfl k) (pageMask_saf (mask_trans rfl k))) (mask_trans rfl k) (pageMask_saf (mask_trans rfl k))) h13)))
  have h15 : State.SameOutside m o x2 := (State.SameOutside.ite (State.trip_same h11 (mask_trans rfl k)) h11)
  exact (State.evalGroups_same h15 (mask_trans rfl k))

end Sys2Proof.Machine
end

