-- ==== Sys2Proof/Laws/Frame/PairCore.lean ====
section
/-! SUPPORT. What every command leaves alone: one lemma for each function of Machine/PairCore.lean that changes the state. -/

namespace Sys2Proof.Machine

variable {o s : State} {m : Nat}

theorem State.setPair_same (h : State.SameOutside m o s) (k : 33554432 ||| m = m) :
    State.SameOutside m o (State.setPair s b1) := by
  unfold State.setPair
  exact (State.SameOutside.set_pair h (mask_trans rfl k))

theorem State.clearReady_same (h : State.SameOutside m o s) (k : 562952134459392 ||| m = m) :
    State.SameOutside m o (State.clearReady s b1) := by
  unfold State.clearReady
  extract_lets -merge -useContext -underBinder x0 x1
  have h2 : State.SameOutside m o x0 := (State.setPair_same h (mask_trans rfl k))
  have h3 : State.SameOutside m o x1 := (State.SameOutside.ite (State.fset_same (State.fset_same h2 (mask_trans rfl k) (pageMask_pair (mask_trans rfl k))) (mask_trans rfl k) (pageMask_pair (mask_trans rfl k))) h2)
  exact (State.SameOutside.ite (State.SameOutside.ite (State.evt_same h3 (mask_trans rfl k) (pageMask_pair (mask_trans rfl k))) h3) h)

theorem State.showOffset_same (h : State.SameOutside m o s) (k : 562949953421312 ||| m = m) :
    State.SameOutside m o (State.showOffset s) := by
  unfold State.showOffset
  exact (State.fsetI_same h (mask_trans rfl k) (pageMask_pair (mask_trans rfl k)))

theorem State.readyCheck_same (h : State.SameOutside m o s) (k : 562952134459392 ||| m = m) :
    State.SameOutside m o (State.readyCheck s) := by
  unfold State.readyCheck
  extract_lets -merge -useContext -underBinder x0
  have h1 : State.SameOutside m o x0 := (State.showOffset_same h (mask_trans rfl k))
  exact (State.SameOutside.ite (State.SameOutside.ite (State.clearReady_same h1 (mask_trans rfl k)) (State.SameOutside.ite (State.clearReady_same h1 (mask_trans rfl k)) h1)) h1)

theorem State.heartbeat_same (h : State.SameOutside m o s) (k : 562952134459392 ||| m = m) :
    State.SameOutside m o (State.heartbeat s b1) := by
  unfold State.heartbeat
  exact (State.SameOutside.ite h (State.mirror_same h (mask_trans rfl k)))

theorem State.pairLock_same (h : State.SameOutside m o s) (k : 73786975197474062336 ||| m = m) :
    State.SameOutside m o (State.pairLock s) := by
  unfold State.pairLock
  exact (State.SameOutside.foldl h (fun a2 s0 h1 => (by
    extract_lets -merge -useContext -underBinder x3 x4
    have h5 : State.SameOutside m o x3 := (State.SameOutside.ite h1 (State.breakLock_same h1 (mask_trans rfl k) (pageMask_any _ (mask_trans rfl k))))
    exact (State.setHdr_same h5 (mask_trans rfl k) (pageMask_any _ (mask_trans rfl k))))))

theorem State.leaseRenew_same (h : State.SameOutside m o s) (k : 73786975195326578688 ||| m = m) :
    State.SameOutside m o (State.leaseRenew s) := by
  unfold State.leaseRenew
  exact (State.SameOutside.ite (State.SameOutside.foldl h (fun a2 s0 h1 => (by
    extract_lets -merge -useContext -underBinder x3
    exact (State.SameOutside.ite (State.setHdr_same h1 (mask_trans rfl k) (pageMask_any _ (mask_trans rfl k))) h1)))) h)

theorem State.pairUnlock_same (h : State.SameOutside m o s) (k : 73786975195326578688 ||| m = m) :
    State.SameOutside m o (State.pairUnlock s) := by
  unfold State.pairUnlock
  exact (State.SameOutside.foldl h (fun a2 s0 h1 => (by
    extract_lets -merge -useContext -underBinder x3
    exact (State.SameOutside.ite (State.setHdr_same h1 (mask_trans rfl k) (pageMask_any _ (mask_trans rfl k))) h1))))

theorem State.askRings_same (h : State.SameOutside m o s) (k : 2181040132 ||| m = m) :
    State.SameOutside m o (State.askRings s) := by
  unfold State.askRings
  extract_lets -merge -useContext -underBinder x0 x1
  have h2 : State.SameOutside m o x1 := (State.setPair_same h (mask_trans rfl k))
  exact (State.SameOutside.foldl h2 (fun a5 s3 h4 => (State.queryStart_same h4 (mask_trans rfl k))))

theorem State.resolveLinking_same (h : State.SameOutside m o s) (k : 2181040132 ||| m = m) :
    State.SameOutside m o (State.resolveLinking s) := by
  unfold State.resolveLinking
  refine State.SameOutside.ite h ?_
  extract_lets x
  clear_value x
  split
  · exact State.SameOutside.ite h (State.askRings_same h k)
  · exact State.askRings_same h k

theorem State.link4Lost_same (h : State.SameOutside m o s) (k : 73786975197507616768 ||| m = m) :
    State.SameOutside m o (State.link4Lost s) := by
  unfold State.link4Lost
  exact (State.SameOutside.ite (State.setPairState_same (State.pairUnlock_same (State.setPair_same h (mask_trans rfl k)) (mask_trans rfl k)) (mask_trans rfl k)) h)

theorem State.roleApplied_same (h : State.SameOutside m o s) (k : 562952134461444 ||| m = m) :
    State.SameOutside m o (State.roleApplied s b1) := by
  unfold State.roleApplied
  extract_lets -merge -useContext -underBinder x0 x1
  have h2 : State.SameOutside m o x1 := (State.setPair_same h (mask_trans rfl k))
  exact (State.SameOutside.ite h (State.SameOutside.ite (State.setPairState_same h2 (mask_trans rfl k)) (State.SameOutside.ite h2 (State.resolveLinking_same (State.setPairState_same h2 (mask_trans rfl k)) (mask_trans rfl k)))))

end Sys2Proof.Machine
end

