-- ==== Sys2Proof/Laws/Frame/Fw.lean ====
section
/-! SUPPORT. What every command leaves alone: one lemma for each function of Machine/Fw.lean that changes the state. -/

namespace Sys2Proof.Machine

variable {o s : State} {m : Nat}

theorem State.setRunSlot_same (h : State.SameOutside m o s) (k : 536870912 ||| m = m) :
    State.SameOutside m o (State.setRunSlot s b1 b2) := by
  unfold State.setRunSlot
  extract_lets -merge -useContext -underBinder x0 x1
  exact (State.SameOutside.ite (State.SameOutside.set_boot h (mask_trans rfl k)) (State.SameOutside.set_boot h (mask_trans rfl k)))

theorem State.setBank_same (h : State.SameOutside m o s) (k : 536870912 ||| m = m) :
    State.SameOutside m o (State.setBank s b1 b2 b3) := by
  unfold State.setBank
  extract_lets -merge -useContext -underBinder x0
  exact (State.SameOutside.set_boot h (mask_trans rfl k))

theorem State.showVersion_same (h : State.SameOutside m o s) (k : 281474976710656 ||| m = m) :
    State.SameOutside m o (State.showVersion s b1) := by
  unfold State.showVersion
  exact (State.fset_same h (mask_trans rfl k) (pageMask_fw (mask_trans rfl k)))

theorem State.showHoldup_same (h : State.SameOutside m o s) (k : 281474976710660 ||| m = m) :
    State.SameOutside m o (State.showHoldup s) := by
  unfold State.showHoldup
  split
  · rename_i x0 x1 x2 x3
    have h4 : State.SameOutside m o x2 := State.SameOutside.of_eq2 x3 (State.roundFree_same h (mask_trans rfl k))
    exact (State.fsetI_same h4 (mask_trans rfl k) (pageMask_fw (mask_trans rfl k)))

theorem State.setFw_same (h : State.SameOutside m o s) (k : 67108864 ||| m = m) :
    State.SameOutside m o (State.setFw s b1) := by
  unfold State.setFw
  exact (State.SameOutside.set_fw h (mask_trans rfl k))

theorem State.flashIssue_same (h : State.SameOutside m o s) (k : 281477191303172 ||| m = m) :
    State.SameOutside m o (State.flashIssue s) := by
  unfold State.flashIssue
  split
  · rename_i x0 x1
    exact h
  · rename_i x2 x3 x4 x5 x6
    extract_lets -merge -useContext -underBinder x7 x8
    have h9 : State.SameOutside m o x7 := (State.showHoldup_same h (mask_trans rfl k))
    exact (State.SameOutside.ite h (State.SameOutside.ite (State.fset_same (State.setFw_same h9 (mask_trans rfl k)) (mask_trans rfl k) (pageMask_fw (mask_trans rfl k))) (State.SameOutside.ite h9 (State.evt_same (State.finc_same (State.fset_same (State.setFw_same h9 (mask_trans rfl k)) (mask_trans rfl k) (pageMask_fw (mask_trans rfl k))) (mask_trans rfl k) (pageMask_fw (mask_trans rfl k))) (mask_trans rfl k) (pageMask_fw (mask_trans rfl k))))))

theorem State.flashQueue_same (h : State.SameOutside m o s) (k : 67108864 ||| m = m) :
    State.SameOutside m o (State.flashQueue s b1 b2) := by
  unfold State.flashQueue
  exact (State.setFw_same h (mask_trans rfl k))

theorem State.jobDrop_same (h : State.SameOutside m o s) (k : 67108864 ||| m = m) :
    State.SameOutside m o (State.jobDrop s b1) := by
  unfold State.jobDrop
  exact (State.setFw_same h (mask_trans rfl k))

theorem State.writeDir_same (h : State.SameOutside m o s) (k : 67108864 ||| m = m) :
    State.SameOutside m o (State.writeDir s b1 b2) := by
  unfold State.writeDir
  split
  · rename_i x0 x1 x2 x3
    extract_lets -merge -useContext -underBinder x4
    exact (State.flashQueue_same h (mask_trans rfl k))

theorem State.writeKeys_same (h : State.SameOutside m o s) (k : 67108864 ||| m = m) :
    State.SameOutside m o (State.writeKeys s b1) := by
  unfold State.writeKeys
  split
  · rename_i x0 x1 x2 x3
    extract_lets -merge -useContext -underBinder x4
    exact (State.flashQueue_same h (mask_trans rfl k))

theorem State.updateFail_same (h : State.SameOutside m o s) (k : 281477191303168 ||| m = m) :
    State.SameOutside m o (State.updateFail s b1) := by
  unfold State.updateFail
  split
  · rename_i x0 x1
    exact h
  · rename_i x2 x3 x4
    extract_lets -merge -useContext -underBinder x5
    have h6 : State.SameOutside m o x5 := (State.jobDrop_same (State.setFw_same h (mask_trans rfl k)) (mask_trans rfl k))
    exact (State.cmdEnd_same (State.fset_same h6 (mask_trans rfl k) (pageMask_fw (mask_trans rfl k))) (mask_trans rfl k) (pageMask_fw (mask_trans rfl k)))

theorem State.updateVerify_same (h : State.SameOutside m o s) (k : 281477191303168 ||| m = m) :
    State.SameOutside m o (State.updateVerify s) := by
  unfold State.updateVerify
  split
  · rename_i x0 x1
    exact h
  · rename_i x2 x3 x4
    extract_lets -merge -useContext -underBinder x5 x6
    have h7 : State.SameOutside m o x6 := (State.setFw_same h (mask_trans rfl k))
    split
    · rename_i x8 x9
      exact (State.evt_same (State.fset_same (State.fset_same h7 (mask_trans rfl k) (pageMask_fw (mask_trans rfl k))) (mask_trans rfl k) (pageMask_fw (mask_trans rfl k))) (mask_trans rfl k) (pageMask_fw (mask_trans rfl k)))
    · rename_i x10 x11 x12
      exact (State.evt_same (State.fset_same (State.fset_same h7 (mask_trans rfl k) (pageMask_fw (mask_trans rfl k))) (mask_trans rfl k) (pageMask_fw (mask_trans rfl k))) (mask_trans rfl k) (pageMask_fw (mask_trans rfl k)))

theorem State.updateStart_same (h : State.SameOutside m o s) (k : 281475043819520 ||| m = m) :
    State.SameOutside m o (State.updateStart s b1 b2) := by
  unfold State.updateStart
  extract_lets -merge -useContext -underBinder x0 x1
  have h2 : State.SameOutside m o x0 := (State.setFw_same h (mask_trans rfl k))
  have h3 : State.SameOutside m o x1 := (State.fset_same (State.fwrap_same h2 (mask_trans rfl k) (pageMask_fw (mask_trans rfl k))) (mask_trans rfl k) (pageMask_fw (mask_trans rfl k)))
  exact (State.fset_same (State.fset_same h3 (mask_trans rfl k) (pageMask_fw (mask_trans rfl k))) (mask_trans rfl k) (pageMask_fw (mask_trans rfl k)))

theorem State.updateAbort_same (h : State.SameOutside m o s) (k : 281475043819520 ||| m = m) :
    State.SameOutside m o (State.updateAbort s) := by
  unfold State.updateAbort
  exact (State.fset_same (State.jobDrop_same (State.setFw_same h (mask_trans rfl k)) (mask_trans rfl k)) (mask_trans rfl k) (pageMask_fw (mask_trans rfl k)))

theorem State.takePacket_same (h : State.SameOutside m o s) (k : 73786975197527456740 ||| m = m) :
    State.SameOutside m o (State.takePacket s b1).2 :=
  State.reelRelease_same (State.SameOutside.foldlP (fun x : List Nat × State => State.SameOutside m o x.2) h
    fun _ _ h => State.reelRead_same h k) (mask_trans rfl k)

theorem State.blockReject_same (h : State.SameOutside m o s) (k : 281477124194304 ||| m = m) :
    State.SameOutside m o (State.blockReject s b1) := by
  unfold State.blockReject
  exact (State.evt_same (State.fset_same (State.finc_same h (mask_trans rfl k) (pageMask_fw (mask_trans rfl k))) (mask_trans rfl k) (pageMask_fw (mask_trans rfl k))) (mask_trans rfl k) (pageMask_fw (mask_trans rfl k)))

theorem State.updateWrite_same (h : State.SameOutside m o s) (k : 281477191303168 ||| m = m) :
    State.SameOutside m o (State.updateWrite s b1 b2) := by
  unfold State.updateWrite
  extract_lets -merge -useContext -underBinder x0 x1 x2 x3 x4 x5
  have h6 : State.SameOutside m o x4 := (State.setFw_same h (mask_trans rfl k))
  have h7 : State.SameOutside m o x5 := (State.flashQueue_same h6 (mask_trans rfl k))
  exact (State.SameOutside.ite (State.updateVerify_same h7 (mask_trans rfl k)) h7)

theorem State.updateBlock_same (h : State.SameOutside m o s) (k : 73786975197594565604 ||| m = m) :
    State.SameOutside m o (State.updateBlock s) := by
  unfold State.updateBlock
  exact (State.SameOutside.ite h (by
    split
    · rename_i x0 x1 x2 x3
      have h4 : State.SameOutside m o x2 := State.SameOutside.of_eq2 x3 (State.takePacket_same h (mask_trans rfl k))
      extract_lets -merge -useContext -underBinder x5 x6 x7 x8
      split
      · rename_i x9 x10
        exact (State.blockReject_same h4 (mask_trans rfl k))
      · rename_i x11 x12 x13
        extract_lets -merge -useContext -underBinder x14 x15 x16 x17 x18
        have h19 : State.SameOutside m o x16 := (State.setFw_same (State.fset_same h4 (mask_trans rfl k) (pageMask_fw (mask_trans rfl k))) (mask_trans rfl k))
        exact (State.SameOutside.ite (State.blockReject_same h4 (mask_trans rfl k)) (State.SameOutside.ite (State.blockReject_same h4 (mask_trans rfl k)) (State.SameOutside.ite (State.blockReject_same h4 (mask_trans rfl k)) (State.SameOutside.ite (State.blockReject_same h4 (mask_trans rfl k)) (State.SameOutside.ite (State.finc_same h4 (mask_trans rfl k) (pageMask_fw (mask_trans rfl k))) (by
    split
    · rename_i x20 x21 x22
      exact (State.updateFail_same h19 (mask_trans rfl k))
    · rename_i x23 x24
      exact (State.updateWrite_same h19 (mask_trans rfl k))))))))))

theorem State.activateDone_same (h : State.SameOutside m o s) (k : 281477661065216 ||| m = m) :
    State.SameOutside m o (State.activateDone s) := by
  unfold State.activateDone
  extract_lets -merge -useContext -underBinder x0 x1
  exact (State.SameOutside.ite h (by
    split
    · rename_i x2 x3
      exact (State.cmdDone_same (State.fset_same (State.setBank_same h (mask_trans rfl k)) (mask_trans rfl k) (pageMask_fw (mask_trans rfl k))) (mask_trans rfl k) (pageMask_fw (mask_trans rfl k)))
    · rename_i x4 x5 x6
      exact (State.cmdFail_same (State.fset_same h (mask_trans rfl k) (pageMask_fw (mask_trans rfl k))) (mask_trans rfl k) (pageMask_fw (mask_trans rfl k)))))

theorem State.flipBank_same (h : State.SameOutside m o s) (k : 281475513581568 ||| m = m) :
    State.SameOutside m o (State.flipBank s b1) := by
  unfold State.flipBank
  extract_lets -merge -useContext -underBinder x0
  have h1 : State.SameOutside m o x0 := (State.fset_same h (mask_trans rfl k) (pageMask_fw (mask_trans rfl k)))
  exact (State.showVersion_same (State.setRunSlot_same h1 (mask_trans rfl k)) (mask_trans rfl k))

theorem State.fwHandover_same (h : State.SameOutside m o s) (k : 281477728174080 ||| m = m) :
    State.SameOutside m o (State.fwHandover s b1 b2) := by
  unfold State.fwHandover
  extract_lets -merge -useContext -underBinder x0 x1 x2 x3 x4
  have h5 : State.SameOutside m o x1 := (State.SameOutside.set_boot h (mask_trans rfl k))
  have h6 : State.SameOutside m o x3 := (State.setFw_same (State.flipBank_same h5 (mask_trans rfl k)) (mask_trans rfl k))
  have h7 : State.SameOutside m o x4 := (State.fset_same (State.fset_same (State.fset_same h6 (mask_trans rfl k) (pageMask_fw (mask_trans rfl k))) (mask_trans rfl k) (pageMask_fw (mask_trans rfl k))) (mask_trans rfl k) (pageMask_fw (mask_trans rfl k)))
  exact (State.writeDir_same (State.evt_same h7 (mask_trans rfl k) (pageMask_fw (mask_trans rfl k))) (mask_trans rfl k))

theorem State.revert_same (h : State.SameOutside m o s) (k : 281477728174080 ||| m = m) :
    State.SameOutside m o (State.revert s b1) := by
  unfold State.revert
  extract_lets -merge -useContext -underBinder x0 x1
  have h2 : State.SameOutside m o x0 := (State.setFw_same (State.flipBank_same h (mask_trans rfl k)) (mask_trans rfl k))
  have h3 : State.SameOutside m o x1 := (State.fset_same (State.fset_same h2 (mask_trans rfl k) (pageMask_fw (mask_trans rfl k))) (mask_trans rfl k) (pageMask_fw (mask_trans rfl k)))
  exact (State.writeDir_same (State.evt_same h3 (mask_trans rfl k) (pageMask_fw (mask_trans rfl k))) (mask_trans rfl k))

theorem State.handoverRevert_same (h : State.SameOutside m o s) (k : 281477728174210 ||| m = m) :
    State.SameOutside m o (State.handoverRevert s) := by
  unfold State.handoverRevert
  split
  · rename_i x0 x1 x2 x3
    exact (State.revert_same (State.advanceTo_same h (mask_trans rfl k)) (mask_trans rfl k))
  · rename_i x4 x5
    exact h

theorem State.handoverHolds_same (h : State.SameOutside m o s) (k : 67108864 ||| m = m) :
    State.SameOutside m o (State.handoverHolds s b1) := by
  unfold State.handoverHolds
  split
  · rename_i x0 x1 x2 x3
    exact (State.SameOutside.ite (State.setFw_same h (mask_trans rfl k)) h)
  · rename_i x4 x5
    exact h

theorem State.fwAlive_same (h : State.SameOutside m o s) (k : 281475043819520 ||| m = m) :
    State.SameOutside m o (State.fwAlive s b1 b2) := by
  unfold State.fwAlive
  extract_lets -merge -useContext -underBinder x0
  have h1 : State.SameOutside m o x0 := (State.fset_same h (mask_trans rfl k) (pageMask_fw (mask_trans rfl k)))
  exact (State.SameOutside.ite (State.handoverHolds_same h1 (mask_trans rfl k)) h1)

theorem State.confirm_same (h : State.SameOutside m o s) (k : 67108864 ||| m = m) :
    State.SameOutside m o (State.confirm s) := by
  unfold State.confirm
  extract_lets -merge -useContext -underBinder x0 x1 x2 x3
  exact (State.writeDir_same h (mask_trans rfl k))

theorem State.showDir_same (h : State.SameOutside m o s) (k : 281474976710656 ||| m = m) :
    State.SameOutside m o (State.showDir s) := by
  unfold State.showDir
  split
  · rename_i x0 x1 x2 x3
    exact (State.fset_same (State.fset_same h (mask_trans rfl k) (pageMask_fw (mask_trans rfl k))) (mask_trans rfl k) (pageMask_fw (mask_trans rfl k)))
  · rename_i x4 x5
    exact h

theorem State.showOtp_same (h : State.SameOutside m o s) (k : 72340168526266368 ||| m = m) :
    State.SameOutside m o (State.showOtp s) := by
  unfold State.showOtp
  extract_lets -merge -useContext -underBinder x0
  have h1 : State.SameOutside m o x0 := (State.fset_same (State.fset_same (State.fset_same h (mask_trans rfl k) (pageMask_fw (mask_trans rfl k))) (mask_trans rfl k) (pageMask_fw (mask_trans rfl k))) (mask_trans rfl k) (pageMask_fw (mask_trans rfl k)))
  exact (State.fsetB_same (State.fsetB_same h1 (mask_trans rfl k) (pageMask_sys (mask_trans rfl k))) (mask_trans rfl k) (pageMask_cad (mask_trans rfl k)))

theorem State.svnAdvance_same (h : State.SameOutside m o s) (k : 72340168794701824 ||| m = m) :
    State.SameOutside m o (State.svnAdvance s b1) := by
  unfold State.svnAdvance
  extract_lets -merge -useContext -underBinder x0 x1 x2
  exact (State.showOtp_same (State.SameOutside.set_otp h (mask_trans rfl k)) (mask_trans rfl k))

theorem State.revokeKey_same (h : State.SameOutside m o s) (k : 72340168794701824 ||| m = m) :
    State.SameOutside m o (State.revokeKey s b1) := by
  unfold State.revokeKey
  extract_lets -merge -useContext -underBinder x0
  exact (State.showOtp_same (State.SameOutside.set_otp h (mask_trans rfl k)) (mask_trans rfl k))

theorem State.recordLost_same (h : State.SameOutside m o s) (k : 73786975197527456740 ||| m = m) :
    State.SameOutside m o (State.recordLost s) := by
  unfold State.recordLost
  exact (State.reportDrop_same (State.evt_same (State.finc_same h (mask_trans rfl k) (pageMask_cad (mask_trans rfl k))) (mask_trans rfl k) (pageMask_cad (mask_trans rfl k))) (mask_trans rfl k))

theorem State.addCode_same (h : State.SameOutside m o s) (k : 73786975197527456740 ||| m = m) :
    State.SameOutside m o (State.addCode s b1 b2).2 := by
  unfold State.addCode
  split
  · rename_i x0 x1
    exact (State.SameOutside.pr2 h)
  · rename_i x2
    extract_lets -merge -useContext -underBinder x3
    subst x3
    exact (State.SameOutside.pr2 (State.fresh_same (State.recordLost_same h (mask_trans rfl k)) (mask_trans rfl k)))

theorem State.codesFrom_same (h : State.SameOutside m o s) (k : 73786975197527456740 ||| m = m) :
    State.SameOutside m o (State.codesFrom s b1 b2).2 :=
  State.SameOutside.foldlP (fun x : List Nat × State => State.SameOutside m o x.2) h fun _ _ h => State.addCode_same h k

theorem State.sliceCodes_same (h : State.SameOutside m o s) (k : 73786975197527456740 ||| m = m) :
    State.SameOutside m o (State.sliceCodes s b1).2 := by
  unfold State.sliceCodes
  exact (State.codesFrom_same h (mask_trans rfl k))

theorem State.wearWrite_same (h : State.SameOutside m o s) (k : 67108864 ||| m = m) :
    State.SameOutside m o (State.wearWrite s b1 b2) := by
  unfold State.wearWrite
  extract_lets -merge -useContext -underBinder x0 x1 x2 x3 x4 x5 x6
  have h7 : State.SameOutside m o x6 := (State.setFw_same h (mask_trans rfl k))
  exact (State.flashQueue_same h7 (mask_trans rfl k))

theorem State.wearStart_same (h : State.SameOutside m o s) (k : 73786975197594565604 ||| m = m) :
    State.SameOutside m o (State.wearStart s) := by
  unfold State.wearStart
  extract_lets -merge -useContext -underBinder x0 x1
  subst x1
  exact (State.wearWrite_same (State.sliceCodes_same h (mask_trans rfl k)) (mask_trans rfl k))

theorem State.diagCkptStart_same (h : State.SameOutside m o s) (k : 67108864 ||| m = m) :
    State.SameOutside m o (State.diagCkptStart s) := by
  unfold State.diagCkptStart
  extract_lets -merge -useContext -underBinder x0 x1 x2 x3 x4 x5
  have h6 : State.SameOutside m o x5 := (State.setFw_same h (mask_trans rfl k))
  exact (State.flashQueue_same h6 (mask_trans rfl k))

theorem State.wearCheckpoint_same (h : State.SameOutside m o s) (k : 73786975197594565606 ||| m = m) :
    State.SameOutside m o (State.wearCheckpoint s) := by
  unfold State.wearCheckpoint
  extract_lets -merge -useContext -underBinder x0
  have h1 : State.SameOutside m o x0 := (State.advanceTo_same h (mask_trans rfl k))
  exact (State.SameOutside.ite (State.wearStart_same h1 (mask_trans rfl k)) h1)

theorem State.diagCheckpoint_same (h : State.SameOutside m o s) (k : 67108994 ||| m = m) :
    State.SameOutside m o (State.diagCheckpoint s) := by
  unfold State.diagCheckpoint
  extract_lets -merge -useContext -underBinder x0
  have h1 : State.SameOutside m o x0 := (State.advanceTo_same h (mask_trans rfl k))
  exact (State.SameOutside.ite (State.diagCkptStart_same h1 (mask_trans rfl k)) h1)

theorem State.ckptNow_same (h : State.SameOutside m o s) (k : 73786975197594565604 ||| m = m) :
    State.SameOutside m o (State.ckptNow s) := by
  unfold State.ckptNow
  exact (State.setFw_same (State.diagCkptStart_same (State.wearStart_same h (mask_trans rfl k)) (mask_trans rfl k)) (mask_trans rfl k))

theorem State.ckptEnd_same (h : State.SameOutside m o s) (k : 281477191303168 ||| m = m) :
    State.SameOutside m o (State.ckptEnd s b1) := by
  unfold State.ckptEnd
  extract_lets -merge -useContext -underBinder x0
  have h1 : State.SameOutside m o x0 := by
    unfold x0
    split
    · rename_i x2
      exact (State.evt_same (State.finc_same h (mask_trans rfl k) (pageMask_fw (mask_trans rfl k))) (mask_trans rfl k) (pageMask_fw (mask_trans rfl k)))
    · rename_i x3 x4
      exact h
  exact (State.SameOutside.ite h1 (by
    split
    · rename_i x5 x6
      exact (State.cmdFail_same (State.setFw_same h1 (mask_trans rfl k)) (mask_trans rfl k) (pageMask_fw (mask_trans rfl k)))
    · rename_i x7
      extract_lets -merge -useContext -underBinder x8
      have h9 : State.SameOutside m o x8 := (State.setFw_same h1 (mask_trans rfl k))
      exact (State.SameOutside.ite (State.cmdDone_same h9 (mask_trans rfl k) (pageMask_fw (mask_trans rfl k))) h9)))

theorem State.packStart_same (h : State.SameOutside m o s) (k : 281475043819524 ||| m = m) :
    State.SameOutside m o (State.packStart s b1 b2) := by
  unfold State.packStart
  split
  · rename_i x0 x1 x2 x3
    have h4 : State.SameOutside m o x2 := State.SameOutside.of_eq2 x3 (State.fresh_same h (mask_trans rfl k))
    extract_lets -merge -useContext -underBinder x5 x6 x7
    have h8 : State.SameOutside m o x5 := (State.fset_same h4 (mask_trans rfl k) (pageMask_fw (mask_trans rfl k)))
    exact (State.SameOutside.ite h8 (State.flashQueue_same h8 (mask_trans rfl k)))

theorem State.sealAndPack_same (h : State.SameOutside m o s) (k : 72339069350183428 ||| m = m) :
    State.SameOutside m o (State.sealAndPack s) := by
  unfold State.sealAndPack
  extract_lets -merge -useContext -underBinder x0 x1
  have h2 : State.SameOutside m o x0 := (State.sealFactory_same h (mask_trans rfl k))
  exact (State.packStart_same (State.SameOutside.set_otp h2 (mask_trans rfl k)) (mask_trans rfl k))

theorem State.userBackup_same (h : State.SameOutside m o s) (k : 281475043819524 ||| m = m) :
    State.SameOutside m o (State.userBackup s) := by
  unfold State.userBackup
  exact (State.packStart_same h (mask_trans rfl k))

theorem State.jobDone_same (h : State.SameOutside m o s) (k : 281477325520896 ||| m = m) :
    State.SameOutside m o (State.jobDone s b1) := by
  unfold State.jobDone
  split
  · rename_i x0
    exact (State.SameOutside.ite (State.updateVerify_same h (mask_trans rfl k)) h)
  · rename_i x1
    exact h
  · rename_i x2
    extract_lets -merge -useContext -underBinder x3
    have h4 : State.SameOutside m o x3 := (State.fset_same (State.fset_same h (mask_trans rfl k) (pageMask_fw (mask_trans rfl k))) (mask_trans rfl k) (pageMask_fw (mask_trans rfl k)))
    exact (State.cmdDone_same (State.showDir_same h4 (mask_trans rfl k)) (mask_trans rfl k) (pageMask_fw (mask_trans rfl k)))
  · rename_i x5 x6 x7
    extract_lets -merge -useContext -underBinder x8 x9
    have h10 : State.SameOutside m o x8 := (State.fset_same h (mask_trans rfl k) (pageMask_fw (mask_trans rfl k)))
    have h11 : State.SameOutside m o x9 := (State.fset_same h10 (mask_trans rfl k) (pageMask_fw (mask_trans rfl k)))
    exact (State.ckptEnd_same h11 (mask_trans rfl k))
  · rename_i x12 x13
    extract_lets -merge -useContext -underBinder x14
    exact (State.ckptEnd_same (State.SameOutside.set_flash h (mask_trans rfl k)) (mask_trans rfl k))
  · rename_i x15 x16
    exact h
  · rename_i x17
    exact h
  · rename_i x18
    exact h

theorem State.jobFail_same (h : State.SameOutside m o s) (k : 576742229494726656 ||| m = m) :
    State.SameOutside m o (State.jobFail s b1 b2) := by
  unfold State.jobFail
  extract_lets -merge -useContext -underBinder x0
  have h1 : State.SameOutside m o x0 := (State.jobDrop_same h (mask_trans rfl k))
  split
  · rename_i x2
    exact (State.updateFail_same h1 (mask_trans rfl k))
  · rename_i x3
    exact (State.cmdFail_same h1 (mask_trans rfl k) (pageMask_fw (mask_trans rfl k)))
  · rename_i x4 x5 x6
    exact (State.ckptEnd_same h1 (mask_trans rfl k))
  · rename_i x7 x8
    exact (State.ckptEnd_same h1 (mask_trans rfl k))
  · rename_i x9
    exact (State.evt_same (State.finc_same h1 (mask_trans rfl k) (pageMask_dly (mask_trans rfl k))) (mask_trans rfl k) (pageMask_dly (mask_trans rfl k)))
  · rename_i x10 x11 x12 x13 x14 x15
    exact h1

theorem State.dailyWritten_same (h : State.SameOutside m o s) (k : 576460754450907136 ||| m = m) :
    State.SameOutside m o (State.dailyWritten s) := by
  unfold State.dailyWritten
  extract_lets -merge -useContext -underBinder x0 x1
  have h2 : State.SameOutside m o x1 := (State.SameOutside.ite (State.finc_same h (mask_trans rfl k) (pageMask_dly (mask_trans rfl k))) h)
  exact (State.evt_same (State.finc_same (State.fset_same h2 (mask_trans rfl k) (pageMask_dly (mask_trans rfl k))) (mask_trans rfl k) (pageMask_dly (mask_trans rfl k))) (mask_trans rfl k) (pageMask_dly (mask_trans rfl k)))

theorem State.flashDone_same (h : State.SameOutside m o s) (k : 73786975197728783332 ||| m = m) :
    State.SameOutside m o (State.flashDone s b1) := by
  unfold State.flashDone
  exact (State.SameOutside.ite h (by
    split
    · rename_i x0 x1
      exact h
    · rename_i x2 x3 x4 x5 x6
      extract_lets -merge -useContext -underBinder x7 x8 x9
      have h10 : State.SameOutside m o x7 := (State.setFw_same h (mask_trans rfl k))
      have h11 : State.SameOutside m o x8 := (State.SameOutside.set_flash h10 (mask_trans rfl k))
      have h12 : State.SameOutside m o x9 := (State.finc_same h10 (mask_trans rfl k) (pageMask_fw (mask_trans rfl k)))
      exact (State.SameOutside.ite (State.SameOutside.ite (by
    split
    · rename_i x13 x14 x15
      exact (State.dailyWritten_same h11 (mask_trans rfl k))
    · rename_i x16 x17
      exact h11) (State.SameOutside.ite h11 (State.jobDone_same h11 (mask_trans rfl k)))) (State.jobFail_same (State.reportDrop_same (State.evt_same h12 (mask_trans rfl k) (pageMask_fw (mask_trans rfl k))) (mask_trans rfl k)) (mask_trans rfl k)))))

theorem State.holdTimeout_same (h : State.SameOutside m o s) (k : 576742229494726786 ||| m = m) :
    State.SameOutside m o (State.holdTimeout s) := by
  unfold State.holdTimeout
  split
  · rename_i x0 x1 x2 x3 x4 x5 x6 x7
    extract_lets -merge -useContext -underBinder x8 x9
    have h10 : State.SameOutside m o x8 := (State.advanceTo_same h (mask_trans rfl k))
    have h11 : State.SameOutside m o x9 := (State.setFw_same h10 (mask_trans rfl k))
    exact (State.jobFail_same (State.finc_same (State.fset_same h11 (mask_trans rfl k) (pageMask_fw (mask_trans rfl k))) (mask_trans rfl k) (pageMask_fw (mask_trans rfl k))) (mask_trans rfl k))
  · rename_i x12 x13 x14
    exact h

theorem State.restoreCaddy_same (h : State.SameOutside m o s) (k : 2814751948193792 ||| m = m) :
    State.SameOutside m o (State.restoreCaddy s b1 b2) := by
  unfold State.restoreCaddy
  exact (State.SameOutside.foldl h (fun a2 s0 h1 => (State.writeNat_same h1 (mask_trans rfl k))))

theorem State.restoreWear_same (h : State.SameOutside m o s) (k : 73786975197527473124 ||| m = m) :
    State.SameOutside m o (State.restoreWear s) := by
  unfold State.restoreWear
  exact (State.SameOutside.foldl h (fun a2 s0 h1 => (by
    split
    · rename_i x3 x4 x5 x6
      have h7 : State.SameOutside m o x5 := State.SameOutside.of_eq2 x6 (by
    split
    · rename_i x8 x9 x10
      exact (State.SameOutside.pr2 h1)
    · rename_i x11 x12
      exact (State.SameOutside.pr2 (State.recordLost_same h1 (mask_trans rfl k))))
      exact (State.SameOutside.foldl h7 (fun a15 s13 h14 => (by
    extract_lets -merge -useContext -underBinder x16 x17
    exact (State.writeNat_same h14 (mask_trans rfl k))))))))

theorem State.restoreDiag_same (h : State.SameOutside m o s) (k : 2814751948193792 ||| m = m) :
    State.SameOutside m o (State.restoreDiag s) := by
  unfold State.restoreDiag
  extract_lets -merge -useContext -underBinder x0
  have h1 : State.SameOutside m o x0 := (State.SameOutside.foldl h (fun a4 s2 h3 => (State.setRecord_same h3 (mask_trans rfl k))))
  split
  · rename_i x5 x6
    exact h1
  · rename_i x7 x8 x9
    extract_lets -merge -useContext -underBinder x10 x11
    exact (State.SameOutside.foldl h1 (fun a14 s12 h13 => (State.setRecord_same h13 (mask_trans rfl k))))

theorem State.restore_same (h : State.SameOutside m o s) (k : 73786975197594581988 ||| m = m) :
    State.SameOutside m o (State.restore s) := by
  unfold State.restore
  extract_lets -merge -useContext -underBinder x0 x1 x2 x3
  have h4 : State.SameOutside m o x0 := (State.setFw_same h (mask_trans rfl k))
  have h5 : State.SameOutside m o x1 := by
    unfold x1
    split
    · rename_i x6 x7 x8
      extract_lets -merge -useContext -underBinder x9 x10
      have h11 : State.SameOutside m o x9 := (State.restoreCaddy_same h4 (mask_trans rfl k))
      exact (State.checkFactory_same (State.SameOutside.set_cad h11 (mask_trans rfl k)) (mask_trans rfl k))
    · rename_i x12 x13
      exact h4
  have h14 : State.SameOutside m o x2 := by
    unfold x2
    split
    · rename_i x15 x16 x17
      exact (State.restoreCaddy_same h5 (mask_trans rfl k))
    · rename_i x18 x19
      exact h5
  have h20 : State.SameOutside m o x3 := (State.restoreDiag_same (State.restoreWear_same h14 (mask_trans rfl k)) (mask_trans rfl k))
  exact (State.SameOutside.ite h (State.SameOutside.ite h20 (State.fset_same (State.cmdStart_same h20 (mask_trans rfl k) (pageMask_diag (mask_trans rfl k))) (mask_trans rfl k) (pageMask_diag (mask_trans rfl k)))))

end Sys2Proof.Machine
end

