-- ==== Sys2Proof/Laws/Frame/Pwr.lean ====
section
/-! SUPPORT. What every command leaves alone: one lemma for each function of Machine/Pwr.lean that changes the state. -/

namespace Sys2Proof.Machine

variable {o s : State} {m : Nat}

theorem State.setTrans_same (h : State.SameOutside m o s) (k : 8796097216512 ||| m = m) :
    State.SameOutside m o (State.setTrans s b1 b2) := by
  unfold State.setTrans
  extract_lets -merge -useContext -underBinder x0 x1
  have h2 : State.SameOutside m o x1 := (State.SameOutside.set_pwr h (mask_trans rfl k))
  exact (State.fset_same (State.fsetB_same h2 (mask_trans rfl k) (pageMask_pwr (mask_trans rfl k))) (mask_trans rfl k) (pageMask_pwr (mask_trans rfl k)))

theorem State.setQueued_same (h : State.SameOutside m o s) (k : 8796097216512 ||| m = m) :
    State.SameOutside m o (State.setQueued s b1 b2) := by
  unfold State.setQueued
  extract_lets -merge -useContext -underBinder x0 x1
  have h2 : State.SameOutside m o x1 := (State.SameOutside.set_pwr h (mask_trans rfl k))
  exact (State.fset_same (State.fsetB_same h2 (mask_trans rfl k) (pageMask_pwr (mask_trans rfl k))) (mask_trans rfl k) (pageMask_pwr (mask_trans rfl k)))

theorem State.setHeld_same (h : State.SameOutside m o s) (k : 8796097216512 ||| m = m) :
    State.SameOutside m o (State.setHeld s b1 b2) := by
  unfold State.setHeld
  extract_lets -merge -useContext -underBinder x0 x1
  have h2 : State.SameOutside m o x1 := (State.SameOutside.set_pwr h (mask_trans rfl k))
  exact (State.fsetB_same h2 (mask_trans rfl k) (pageMask_pwr (mask_trans rfl k)))

theorem State.lpEnter_same (h : State.SameOutside m o s) (k : 8798240505986 ||| m = m) :
    State.SameOutside m o (State.lpEnter s) := by
  unfold State.lpEnter
  exact (State.SameOutside.ite (State.evt_same (State.fset_same (State.advanceTo_same h (mask_trans rfl k)) (mask_trans rfl k) (pageMask_pwr (mask_trans rfl k))) (mask_trans rfl k) (pageMask_pwr (mask_trans rfl k))) h)

theorem State.lpLeave_same (h : State.SameOutside m o s) (k : 8798240505856 ||| m = m) :
    State.SameOutside m o (State.lpLeave s) := by
  unfold State.lpLeave
  exact (State.SameOutside.ite (State.evt_same (State.fset_same h (mask_trans rfl k) (pageMask_pwr (mask_trans rfl k))) (mask_trans rfl k) (pageMask_pwr (mask_trans rfl k))) h)

theorem State.stopWork_same (h : State.SameOutside m o s) (k : 37289808215377226624 ||| m = m) :
    State.SameOutside m o (State.stopWork s b1) := by
  unfold State.stopWork
  split
  · rename_i x0 x1 x2
    extract_lets -merge -useContext -underBinder x3
    exact (State.SameOutside.set_cmp h (mask_trans rfl k))
  · rename_i x4 x5 x6
    extract_lets -merge -useContext -underBinder x7
    exact (State.fset_same (State.SameOutside.set_cad h (mask_trans rfl k)) (mask_trans rfl k) (pageMask_cad (mask_trans rfl k)))
  · rename_i x8 x9 x10
    exact (State.fset_same h (mask_trans rfl k) (pageMask_matte (mask_trans rfl k)))
  · rename_i x11 x12 x13
    extract_lets -merge -useContext -underBinder x14
    exact (State.fset_same (State.SameOutside.set_diag h (mask_trans rfl k)) (mask_trans rfl k) (pageMask_diag (mask_trans rfl k)))
  · rename_i x15 x16 x17
    extract_lets -merge -useContext -underBinder x18
    exact (State.SameOutside.set_mem h (mask_trans rfl k))
  · rename_i x19 x20 x21
    exact (State.abandonRing_same h (mask_trans rfl k))
  · rename_i x22 x23 x24
    exact (State.jobDrop_same (State.setFw_same h (mask_trans rfl k)) (mask_trans rfl k))
  · rename_i x25 x26 x27 x28 x29 x30 x31 x32
    exact h

theorem State.abandonCmd_same (h : State.SameOutside m o s) (k : 37289808215377226624 ||| m = m) (kp1 : pageMask b1 ||| m = m) :
    State.SameOutside m o (State.abandonCmd s b1) := by
  unfold State.abandonCmd
  exact (State.SameOutside.ite (State.cmdFail_same (State.stopWork_same h (mask_trans rfl k)) (mask_trans rfl k) kp1) h)

theorem State.quiesce_same (h : State.SameOutside m o s) (k : 73786975197542788072 ||| m = m) :
    State.SameOutside m o (State.quiesce s b1) := by
  unfold State.quiesce
  extract_lets -merge -useContext -underBinder x0 x1 x2
  have h3 : State.SameOutside m o x0 := (State.SameOutside.foldl h (fun a6 s4 h5 => (State.abandonCmd_same h5 (mask_trans rfl k) (pageMask_any _ (mask_trans rfl k)))))
  have h7 : State.SameOutside m o x1 := (State.SameOutside.ite (State.lanesDomainOff_same h3 (mask_trans rfl k)) h3)
  have h8 : State.SameOutside m o x2 := (State.SameOutside.ite (State.SameOutside.foldl h7 (fun a11 s9 h10 => (State.SameOutside.ite (State.abandonRing_same h10 (mask_trans rfl k)) h10))) h7)
  exact (State.SameOutside.ite (State.fset_same h8 (mask_trans rfl k) (pageMask_mem (mask_trans rfl k))) h8)

theorem State.memResume_same (h : State.SameOutside m o s) (k : 2251799813718016 ||| m = m) :
    State.SameOutside m o (State.memResume s) := by
  unfold State.memResume
  exact (State.SameOutside.ite h (State.memStart_same h (mask_trans rfl k)))

theorem State.clearDomain_same (h : State.SameOutside m o s) (k : 1715322744 ||| m = m) :
    State.SameOutside m o (State.clearDomain s b1) := by
  unfold State.clearDomain
  extract_lets -merge -useContext -underBinder x0 x1 x2 x3 x4 x5 x6 x7 x8 x9
  subst x0
  have h10 : State.SameOutside m o x6 := (State.SameOutside.foldl h (fun a13 s11 h12 => (State.setLane_same h12 (mask_trans rfl k))))
  have h14 : State.SameOutside m o x7 := (State.SameOutside.set_trains_links h10 (mask_trans rfl k))
  exact (State.SameOutside.ite (State.SameOutside.set_safe_boot_waiting h (mask_trans rfl k)) (State.SameOutside.ite (State.SameOutside.set_gaf_chks_reels_sram_pair_fw_boot_waiting h (mask_trans rfl k)) (State.SameOutside.ite (State.SameOutside.set_cmp h (mask_trans rfl k)) (State.SameOutside.ite (State.SameOutside.set_cad h (mask_trans rfl k)) (State.SameOutside.ite (State.SameOutside.set_transport_cad_matte_diag_mem_arb h (mask_trans rfl k)) (State.SameOutside.ite (State.SameOutside.ite (State.SameOutside.set_transport h14 (mask_trans rfl k)) (State.SameOutside.ite (State.SameOutside.set_transport h14 (mask_trans rfl k)) h14)) (State.SameOutside.foldl h (fun a17 s15 h16 => (State.SameOutside.ite (State.setDud_same h16 (mask_trans rfl k)) h16)))))))))

theorem State.domainLost_same (h : State.SameOutside m o s) (k : 73786975199189385080 ||| m = m) :
    State.SameOutside m o (State.domainLost s b1) := by
  unfold State.domainLost
  extract_lets -merge -useContext -underBinder x0 x1 x2 x3 x4 x5 x6
  have h7 : State.SameOutside m o x2 := (State.SameOutside.foldl h (fun a10 s8 h9 => (State.resetPage_same h9 (mask_trans rfl k) (pageMask_any _ (mask_trans rfl k)))))
  have h11 : State.SameOutside m o x3 := (State.clearDomain_same (State.SameOutside.foldl h7 (fun a14 s12 h13 => (State.breakLocksOf_same h13 (mask_trans rfl k)))) (mask_trans rfl k))
  have h15 : State.SameOutside m o x4 := (State.SameOutside.ite (State.showVersion_same (State.fset_same (State.fset_same h11 (mask_trans rfl k) (pageMask_fw (mask_trans rfl k))) (mask_trans rfl k) (pageMask_fw (mask_trans rfl k))) (mask_trans rfl k)) (State.SameOutside.ite (State.showVersion_same (State.fset_same (State.fset_same h11 (mask_trans rfl k) (pageMask_fw (mask_trans rfl k))) (mask_trans rfl k) (pageMask_fw (mask_trans rfl k))) (mask_trans rfl k)) h11))
  have h16 : State.SameOutside m o x5 := (State.SameOutside.ite (State.showKey_same h15 (mask_trans rfl k)) h15)
  have h17 : State.SameOutside m o x6 := (State.SameOutside.ite (State.fset_same h16 (mask_trans rfl k) (pageMask_sys (mask_trans rfl k))) (State.SameOutside.ite (State.fset_same h16 (mask_trans rfl k) (pageMask_sys (mask_trans rfl k))) h16))
  exact (State.showOtp_same h17 (mask_trans rfl k))

theorem State.reqRecord_same (h : State.SameOutside m o s) (k : 8796093022208 ||| m = m) :
    State.SameOutside m o (State.reqRecord s b1 b2 b3 b4) := by
  unfold State.reqRecord
  exact (State.fset_same (State.fset_same (State.fset_same (State.fset_same h (mask_trans rfl k) (pageMask_pwr (mask_trans rfl k))) (mask_trans rfl k) (pageMask_pwr (mask_trans rfl k))) (mask_trans rfl k) (pageMask_pwr (mask_trans rfl k))) (mask_trans rfl k) (pageMask_pwr (mask_trans rfl k)))

theorem State.refuseCount_same (h : State.SameOutside m o s) (k : 8796093022208 ||| m = m) :
    State.SameOutside m o (State.refuseCount s b1 b2 b3) := by
  unfold State.refuseCount
  exact (State.fset_same (State.fset_same (State.fset_same (State.finc_same h (mask_trans rfl k) (pageMask_pwr (mask_trans rfl k))) (mask_trans rfl k) (pageMask_pwr (mask_trans rfl k))) (mask_trans rfl k) (pageMask_pwr (mask_trans rfl k))) (mask_trans rfl k) (pageMask_pwr (mask_trans rfl k)))

theorem State.refuseReq_same (h : State.SameOutside m o s) (k : 8798240505856 ||| m = m) :
    State.SameOutside m o (State.refuseReq s b1 b2 b3 b4) := by
  unfold State.refuseReq
  exact (State.reqRecord_same (State.evt_same (State.refuseCount_same h (mask_trans rfl k)) (mask_trans rfl k) (pageMask_pwr (mask_trans rfl k))) (mask_trans rfl k))

theorem State.startEntry_same (h : State.SameOutside m o s) (k : 73786975197546982376 ||| m = m) :
    State.SameOutside m o (State.startEntry s b1 b2) := by
  unfold State.startEntry
  extract_lets -merge -useContext -underBinder x0 x1
  have h2 : State.SameOutside m o x1 := (State.setTrans_same h (mask_trans rfl k))
  exact (State.SameOutside.ite (State.quiesce_same h2 (mask_trans rfl k)) h2)

theorem State.startExit_same (h : State.SameOutside m o s) (k : 8798244700160 ||| m = m) :
    State.SameOutside m o (State.startExit s b1) := by
  unfold State.startExit
  extract_lets -merge -useContext -underBinder x0
  exact (State.lpLeave_same (State.setTrans_same h (mask_trans rfl k)) (mask_trans rfl k))

theorem State.idleReq_same (h : State.SameOutside m o s) (k : 73786975197546982376 ||| m = m) :
    State.SameOutside m o (State.idleReq s b1 b2 b3) := by
  unfold State.idleReq
  extract_lets -merge -useContext -underBinder x0
  exact (State.SameOutside.ite (State.reqRecord_same h (mask_trans rfl k)) (State.SameOutside.ite (by
    split
    · rename_i x1 x2 x3
      split
      · rename_i x4 x5 x6
        exact (State.SameOutside.ite (State.reqRecord_same (State.setHeld_same h (mask_trans rfl k)) (mask_trans rfl k)) (State.reqRecord_same h (mask_trans rfl k)))
      · rename_i x7 x8
        exact (State.SameOutside.ite (State.reqRecord_same (State.startExit_same h (mask_trans rfl k)) (mask_trans rfl k)) (State.reqRecord_same h (mask_trans rfl k)))
    · rename_i x9 x10
      exact (State.reqRecord_same (State.startExit_same h (mask_trans rfl k)) (mask_trans rfl k))) (State.SameOutside.ite (State.refuseReq_same h (mask_trans rfl k)) (by
    split
    · rename_i x11 x12 x13 x14
      exact (State.refuseReq_same h (mask_trans rfl k))
    · rename_i x15 x16
      exact (State.reqRecord_same (State.startEntry_same h (mask_trans rfl k)) (mask_trans rfl k))))))

theorem State.enqueueReq_same (h : State.SameOutside m o s) (k : 8796097216512 ||| m = m) :
    State.SameOutside m o (State.enqueueReq s b1 b2 b3) := by
  unfold State.enqueueReq
  exact (State.reqRecord_same (State.setQueued_same h (mask_trans rfl k)) (mask_trans rfl k))

theorem State.request_same (h : State.SameOutside m o s) (k : 73786975197546982376 ||| m = m) :
    State.SameOutside m o (State.request s b1 b2 b3) := by
  unfold State.request
  split
  · rename_i x0 x1
    exact (State.SameOutside.ite (State.SameOutside.ite (State.reqRecord_same (State.setQueued_same h (mask_trans rfl k)) (mask_trans rfl k)) (State.enqueueReq_same h (mask_trans rfl k))) (State.idleReq_same h (mask_trans rfl k)))
  · rename_i x2 x3 x4
    exact (State.SameOutside.ite (State.SameOutside.ite (State.reqRecord_same (State.setQueued_same h (mask_trans rfl k)) (mask_trans rfl k)) (State.enqueueReq_same h (mask_trans rfl k))) (State.SameOutside.ite (State.reqRecord_same (State.setQueued_same (State.setTrans_same h (mask_trans rfl k)) (mask_trans rfl k)) (mask_trans rfl k)) (State.SameOutside.ite (State.reqRecord_same (State.setQueued_same h (mask_trans rfl k)) (mask_trans rfl k)) (State.SameOutside.ite (State.refuseReq_same h (mask_trans rfl k)) (State.enqueueReq_same h (mask_trans rfl k))))))

theorem State.domainReq_same (h : State.SameOutside m o s) (k : 73786975197546982376 ||| m = m) :
    State.SameOutside m o (State.domainReq s b1 b2 b3) := by
  unfold State.domainReq
  exact (State.SameOutside.ite (State.refuseReq_same h (mask_trans rfl k)) (State.request_same h (mask_trans rfl k)))

theorem State.runQueued_same (h : State.SameOutside m o s) (k : 73786975197546982376 ||| m = m) :
    State.SameOutside m o (State.runQueued s b1) := by
  unfold State.runQueued
  split
  · rename_i x0 x1 x2 x3
    exact (State.request_same (State.setQueued_same h (mask_trans rfl k)) (mask_trans rfl k))
  · rename_i x4 x5
    exact h

theorem State.breakExpired_same (h : State.SameOutside m o s) (k : 73786975197474062336 ||| m = m) :
    State.SameOutside m o (State.breakExpired s b1) := by
  unfold State.breakExpired
  exact (State.SameOutside.foldl h (fun a2 s0 h1 => (State.SameOutside.ite (State.breakLock_same h1 (mask_trans rfl k) (pageMask_any _ (mask_trans rfl k))) h1)))

theorem State.startHeld_same (h : State.SameOutside m o s) (k : 8798244700160 ||| m = m) :
    State.SameOutside m o (State.startHeld s b1) := by
  unfold State.startHeld
  exact (State.SameOutside.foldl h (fun a2 s0 h1 => (State.SameOutside.ite (State.startExit_same (State.setHeld_same h1 (mask_trans rfl k)) (mask_trans rfl k)) h1)))

theorem State.restartActivity_same (h : State.SameOutside m o s) (k : 18448995873523269656 ||| m = m) :
    State.SameOutside m o (State.restartActivity s b1) := by
  unfold State.restartActivity
  extract_lets -merge -useContext -underBinder x0
  have h1 : State.SameOutside m o x0 := (State.SameOutside.ite (State.memResume_same h (mask_trans rfl k)) h)
  exact (State.SameOutside.ite (State.laneEnable_same h1 (mask_trans rfl k)) h1)

theorem State.entryAbandon_same (h : State.SameOutside m o s) (k : 73786975197546982394 ||| m = m) :
    State.SameOutside m o (State.entryAbandon s b1) := by
  unfold State.entryAbandon
  split
  · rename_i x0 x1
    exact h
  · rename_i x2 x3 x4
    split
    · rename_i x5 x6
      exact h
    · rename_i x7 x8 x9
      extract_lets -merge -useContext -underBinder x10 x11
      have h12 : State.SameOutside m o x10 := by
        unfold x10
        split
        · rename_i x13 x14 x15
          exact (State.advanceTo_same h (mask_trans rfl k))
        · rename_i x16 x17
          exact h
      have h18 : State.SameOutside m o x11 := (State.evt_same (State.refuseCount_same h12 (mask_trans rfl k)) (mask_trans rfl k) (pageMask_pwr (mask_trans rfl k)))
      exact (State.runQueued_same (State.breakExpired_same (State.restartActivity_same (State.setTrans_same h18 (mask_trans rfl k)) (mask_trans rfl k)) (mask_trans rfl k)) (mask_trans rfl k))

theorem State.entryDone_same (h : State.SameOutside m o s) (k : 73786975199193595898 ||| m = m) :
    State.SameOutside m o (State.entryDone s b1) := by
  unfold State.entryDone
  split
  · rename_i x0 x1
    exact h
  · rename_i x2 x3 x4
    extract_lets -merge -useContext -underBinder x5 x6 x7 x8 x9 x10 x11 x12 x13
    have h14 : State.SameOutside m o x5 := (State.advanceTo_same h (mask_trans rfl k))
    have h15 : State.SameOutside m o x7 := (State.finc_same (State.fset_same h14 (mask_trans rfl k) (pageMask_pwr (mask_trans rfl k))) (mask_trans rfl k) (pageMask_pwr (mask_trans rfl k)))
    have h16 : State.SameOutside m o x8 := (State.SameOutside.ite (State.domainLost_same h15 (mask_trans rfl k)) h15)
    have h17 : State.SameOutside m o x9 := (State.SameOutside.ite (State.SameOutside.set_dram h16 (mask_trans rfl k)) h16)
    have h18 : State.SameOutside m o x10 := (State.SameOutside.ite (State.fset_same h17 (mask_trans rfl k) (pageMask_mem (mask_trans rfl k))) h17)
    have h19 : State.SameOutside m o x11 := (State.evt_same (State.setTrans_same h18 (mask_trans rfl k)) (mask_trans rfl k) (pageMask_pwr (mask_trans rfl k)))
    have h20 : State.SameOutside m o x13 := (State.SameOutside.ite (State.SameOutside.set_pwr h19 (mask_trans rfl k)) h19)
    exact (State.SameOutside.ite h (State.runQueued_same h20 (mask_trans rfl k)))

theorem State.exitDone_same (h : State.SameOutside m o s) (k : 73786975197563759610 ||| m = m) :
    State.SameOutside m o (State.exitDone s b1) := by
  unfold State.exitDone
  split
  · rename_i x0 x1
    exact h
  · rename_i x2 x3 x4
    extract_lets -merge -useContext -underBinder x5 x6 x7 x8 x9
    have h10 : State.SameOutside m o x5 := (State.advanceTo_same h (mask_trans rfl k))
    have h11 : State.SameOutside m o x7 := (State.finc_same (State.fset_same h10 (mask_trans rfl k) (pageMask_pwr (mask_trans rfl k))) (mask_trans rfl k) (pageMask_pwr (mask_trans rfl k)))
    have h12 : State.SameOutside m o x8 := (State.SameOutside.ite (State.SameOutside.foldl (State.fset_same h11 (mask_trans rfl k) (pageMask_pwr (mask_trans rfl k))) (fun a15 s13 h14 => (by
    extract_lets -merge -useContext -underBinder x16
    exact (State.setHdr_same h14 (mask_trans rfl k) (pageMask_any _ (mask_trans rfl k)))))) h11)
    have h17 : State.SameOutside m o x9 := (State.scalDomainOn_same (State.evt_same (State.setTrans_same h12 (mask_trans rfl k)) (mask_trans rfl k) (pageMask_pwr (mask_trans rfl k))) (mask_trans rfl k))
    exact (State.SameOutside.ite h (State.runQueued_same (State.startHeld_same (State.restartActivity_same (State.breakExpired_same h17 (mask_trans rfl k)) (mask_trans rfl k)) (mask_trans rfl k)) (mask_trans rfl k)))

theorem State.wake_same (h : State.SameOutside m o s) (k : 73786975197546982376 ||| m = m) :
    State.SameOutside m o (State.wake s b1 b2) := by
  unfold State.wake
  extract_lets -merge -useContext -underBinder x0 x1
  have h2 : State.SameOutside m o x0 := (State.request_same h (mask_trans rfl k))
  exact (State.SameOutside.ite h (State.SameOutside.ite h2 (State.setWord_same h2 (mask_trans rfl k) (pageMask_addr (pageMask_pwr (mask_trans rfl k))))))

theorem State.signalDetect_same (h : State.SameOutside m o s) (k : 73786975197546982376 ||| m = m) :
    State.SameOutside m o (State.signalDetect s b1) := by
  unfold State.signalDetect
  extract_lets -merge -useContext -underBinder x0
  have h1 : State.SameOutside m o x0 := (State.fset_same h (mask_trans rfl k) (pageMask_pwr (mask_trans rfl k)))
  exact (State.SameOutside.ite (State.wake_same h1 (mask_trans rfl k)) h)

theorem State.wakeTimer_same (h : State.SameOutside m o s) (k : 73786975197546982378 ||| m = m) :
    State.SameOutside m o (State.wakeTimer s) := by
  unfold State.wakeTimer
  extract_lets -merge -useContext -underBinder x0 x1 x2 x3
  have h4 : State.SameOutside m o x1 := (State.advanceTo_same h (mask_trans rfl k))
  have h5 : State.SameOutside m o x2 := (State.fset_same h4 (mask_trans rfl k) (pageMask_pwr (mask_trans rfl k)))
  exact (State.SameOutside.ite (State.SameOutside.foldl h5 (fun a8 s6 h7 => (State.SameOutside.ite (State.wake_same h7 (mask_trans rfl k)) h7))) h)

theorem State.markLost_same (h : State.SameOutside m o s) (k : 73786975199193579384 ||| m = m) :
    State.SameOutside m o (State.markLost s b1) := by
  unfold State.markLost
  extract_lets -merge -useContext -underBinder x0
  have h1 : State.SameOutside m o x0 := (State.domainLost_same (State.fset_same (State.fset_same h (mask_trans rfl k) (pageMask_pwr (mask_trans rfl k))) (mask_trans rfl k) (pageMask_pwr (mask_trans rfl k))) (mask_trans rfl k))
  split
  · rename_i x2 x3
    exact h1
  · rename_i x4 x5 x6
    exact (State.setTrans_same h1 (mask_trans rfl k))

theorem State.brownout_same (h : State.SameOutside m o s) (k : 73786975199210487804 ||| m = m) :
    State.SameOutside m o (State.brownout s) := by
  unfold State.brownout
  extract_lets -merge -useContext -underBinder x0 x1 x2 x3
  have h4 : State.SameOutside m o x0 := (State.lpLeave_same (State.fset_same h (mask_trans rfl k) (pageMask_pwr (mask_trans rfl k))) (mask_trans rfl k))
  have h5 : State.SameOutside m o x2 := (State.SameOutside.foldl h4 (fun a8 s6 h7 => (State.markLost_same h7 (mask_trans rfl k))))
  have h9 : State.SameOutside m o x3 := (State.fset64_same (State.fset_same (State.finc_same h5 (mask_trans rfl k) (pageMask_pwr (mask_trans rfl k))) (mask_trans rfl k) (pageMask_pwr (mask_trans rfl k))) (mask_trans rfl k) (pageMask_pwr (mask_trans rfl k)))
  exact (State.reportDrop_same (State.evt_same h9 (mask_trans rfl k) (pageMask_pwr (mask_trans rfl k))) (mask_trans rfl k))

end Sys2Proof.Machine
end

