-- ==== Sys2Proof/Laws/Frame/Dly.lean ====
section
/-! SUPPORT. What every command leaves alone: one lemma for each function of Machine/Dly.lean that changes the state. -/

namespace Sys2Proof.Machine

variable {o s : State} {m : Nat}

theorem State.dailyRecord_same (h : State.SameOutside m o s) (k : 4 ||| m = m) :
    State.SameOutside m o (State.dailyRecord s b1 b2 b3).2 := by
  unfold State.dailyRecord
  split
  · rename_i x0 x1 x2 x3
    have h4 : State.SameOutside m o x2 := State.SameOutside.of_eq2 x3 (by
    split
    · rename_i x5 x6 x7
      exact (State.SameOutside.pr2 h)
    · rename_i x8 x9
      split
      · rename_i x10 x11 x12 x13
        have h14 : State.SameOutside m o x12 := State.SameOutside.of_eq2 x13 (State.fresh_same h (mask_trans rfl k))
        split
        · rename_i x15 x16 x17 x18
          have h19 : State.SameOutside m o x17 := State.SameOutside.of_eq2 x18 (State.fresh_same h14 (mask_trans rfl k))
          exact (State.SameOutside.pr2 h19))
    split
    · rename_i x20 x21 x22 x23
      have h24 : State.SameOutside m o x22 := State.SameOutside.of_eq2 x23 (State.roundFree_same h4 (mask_trans rfl k))
      extract_lets -merge -useContext -underBinder x25 x26 x27
      exact (State.SameOutside.pr2 h24)

theorem State.dailyForm_same (h : State.SameOutside m o s) (k : 5188146772946976772 ||| m = m) :
    State.SameOutside m o (State.dailyForm s b1 b2) := by
  unfold State.dailyForm
  extract_lets -merge -useContext -underBinder x0
  split
  · rename_i x1 x2 x3 x4
    have h5 : State.SameOutside m o x3 := State.SameOutside.of_eq2 x4 (State.dailyRecord_same h (mask_trans rfl k))
    extract_lets -merge -useContext -underBinder x6 x7 x8 x9 x10
    have h11 : State.SameOutside m o x6 := (State.fset_same h5 (mask_trans rfl k) (pageMask_dly (mask_trans rfl k)))
    have h12 : State.SameOutside m o x10 := (State.flashQueue_same h11 (mask_trans rfl k))
    exact (State.SameOutside.ite (State.reelPush_same h12 (mask_trans rfl k)) h12)

theorem State.dailySkip_same (h : State.SameOutside m o s) (k : 576460754518016000 ||| m = m) :
    State.SameOutside m o (State.dailySkip s) := by
  unfold State.dailySkip
  extract_lets -merge -useContext -underBinder x0
  exact (State.SameOutside.ite (State.evt_same (State.finc_same (State.jobDrop_same h (mask_trans rfl k)) (mask_trans rfl k) (pageMask_dly (mask_trans rfl k))) (mask_trans rfl k) (pageMask_dly (mask_trans rfl k))) h)

theorem State.dailiesPeriod_same (h : State.SameOutside m o s) (k : 5188146772946976902 ||| m = m) :
    State.SameOutside m o (State.dailiesPeriod s) := by
  unfold State.dailiesPeriod
  extract_lets -merge -useContext -underBinder x0 x1
  have h2 : State.SameOutside m o x0 := (State.advanceTo_same h (mask_trans rfl k))
  exact (State.SameOutside.ite (State.dailyForm_same (State.setFw_same (State.dailySkip_same h2 (mask_trans rfl k)) (mask_trans rfl k)) (mask_trans rfl k)) h)

theorem State.dailyRead_same (h : State.SameOutside m o s) (k : 576460754450907136 ||| m = m) :
    State.SameOutside m o (State.dailyRead s) := by
  unfold State.dailyRead
  split
  · rename_i x0 x1 x2 x3
    exact (State.SameOutside.ite (State.cmdFail_same h (mask_trans rfl k) (pageMask_dly (mask_trans rfl k))) (State.SameOutside.ite (State.cmdFail_same h (mask_trans rfl k) (pageMask_dly (mask_trans rfl k))) (State.cmdDone_same (State.SameOutside.foldl h (fun a6 s4 h5 => (State.fset_same h5 (mask_trans rfl k) (pageMask_dly (mask_trans rfl k))))) (mask_trans rfl k) (pageMask_dly (mask_trans rfl k)))))

theorem State.dailyStart_same (h : State.SameOutside m o s) (k : 5188146772946976772 ||| m = m) :
    State.SameOutside m o (State.dailyStart s) := by
  unfold State.dailyStart
  extract_lets best t now u
  have ht : State.SameOutside m o t := by
    unfold t
    clear_value best
    split
    · exact State.fset_same (State.fset_same h (mask_trans rfl k) (pageMask_dly (mask_trans rfl k))) (mask_trans rfl k)
        (pageMask_dly (mask_trans rfl k))
    · exact h
  exact State.SameOutside.ite (State.dailyForm_same (State.setFw_same ht (mask_trans rfl k)) (mask_trans rfl k))
    (State.setFw_same ht (mask_trans rfl k))

end Sys2Proof.Machine
end

