-- ==== Sys2Proof/Laws/Frame/Boot.lean ====
section
/-! SUPPORT. What every command leaves alone: one lemma for each function of Machine/Boot.lean that changes the state. -/

namespace Sys2Proof.Machine

variable {o s : State} {m : Nat}

theorem State.cleared_same (_ : State.SameOutside m o s) (k : fullMask ||| m = m) :
    State.SameOutside m o (State.cleared s) :=
  State.SameOutside.any k

theorem State.sampleStraps_same (h : State.SameOutside m o s) (k : 1099511627776 ||| m = m) :
    State.SameOutside m o (State.sampleStraps s b1) := by
  unfold State.sampleStraps
  exact (State.fsetB_same (State.fset_same h (mask_trans rfl k) (pageMask_sys (mask_trans rfl k))) (mask_trans rfl k) (pageMask_sys (mask_trans rfl k)))

theorem State.powerOnReset_same (h : State.SameOutside m o s) (k : 73786976294838206463 ||| m = m) :
    State.SameOutside m o (State.powerOnReset s b1) := by
  unfold State.powerOnReset
  exact (State.sampleStraps_same (State.showKey_same (State.showOtp_same (State.cleared_same h (mask_trans rfl k)) (mask_trans rfl k)) (mask_trans rfl k)) (mask_trans rfl k))

theorem State.deviceReset_same (h : State.SameOutside m o s) (k : 73786976294838206463 ||| m = m) :
    State.SameOutside m o (State.deviceReset s b1 b2) := by
  unfold State.deviceReset
  extract_lets -merge -useContext -underBinder x0 x1 x2
  have h3 : State.SameOutside m o x0 := (State.sampleStraps_same (State.showKey_same (State.showOtp_same (State.cleared_same h (mask_trans rfl k)) (mask_trans rfl k)) (mask_trans rfl k)) (mask_trans rfl k))
  have h4 : State.SameOutside m o x1 := (State.SameOutside.foldl h3 (fun a7 s5 h6 => (State.setSnapWord_same (State.setWord_same h6 (mask_trans rfl k) (pageMask_addr (pageMask_pwr (mask_trans rfl k)))) (mask_trans rfl k) (pageMask_addr (pageMask_pwr (mask_trans rfl k))))))
  have h8 : State.SameOutside m o x2 := (State.fset_same h4 (mask_trans rfl k) (pageMask_sys (mask_trans rfl k)))
  exact (State.finc_same (State.fset_same h8 (mask_trans rfl k) (pageMask_sys (mask_trans rfl k))) (mask_trans rfl k) (pageMask_sys (mask_trans rfl k)))

theorem State.nreset_same (h : State.SameOutside m o s) (k : 73786976294838206463 ||| m = m) :
    State.SameOutside m o (State.nreset s b1) := by
  unfold State.nreset
  exact (State.deviceReset_same h (mask_trans rfl k))

theorem State.commandedReset_same (h : State.SameOutside m o s) (k : 73786976294838206463 ||| m = m) :
    State.SameOutside m o (State.commandedReset s b1) := by
  unfold State.commandedReset
  exact (State.deviceReset_same h (mask_trans rfl k))

theorem State.powerDown_same (h : State.SameOutside m o s) (k : 73786976294838206463 ||| m = m) :
    State.SameOutside m o (State.powerDown s) := by
  unfold State.powerDown
  extract_lets -merge -useContext -underBinder x0
  have h1 : State.SameOutside m o x0 := (State.cleared_same h (mask_trans rfl k))
  exact (State.SameOutside.set_boot h1 (mask_trans rfl k))

theorem State.live_same (h : State.SameOutside m o s) (k : 0 ||| m = m) (kf1 : ∀ s, State.SameOutside m o s → State.SameOutside m o (b1 s)) :
    State.SameOutside m o (State.live s b1) := by
  unfold State.live
  exact (State.SameOutside.ite (kf1 _ h) h)

theorem State.setLoader_same (h : State.SameOutside m o s) (k : 536870912 ||| m = m) :
    State.SameOutside m o (State.setLoader s b1) := by
  unfold State.setLoader
  extract_lets -merge -useContext -underBinder x0
  exact (State.SameOutside.set_boot h (mask_trans rfl k))

theorem State.setRunning_same (h : State.SameOutside m o s) (k : 282575025209344 ||| m = m) :
    State.SameOutside m o (State.setRunning s b1 b2) := by
  unfold State.setRunning
  extract_lets -merge -useContext -underBinder x0 x1 x2
  have h3 : State.SameOutside m o x2 := (State.SameOutside.ite (State.SameOutside.set_boot h (mask_trans rfl k)) (State.SameOutside.set_boot h (mask_trans rfl k)))
  exact (State.showVersion_same (State.fsetB_same h3 (mask_trans rfl k) (pageMask_sys (mask_trans rfl k))) (mask_trans rfl k))

theorem State.loadBank_same (h : State.SameOutside m o s) (k : 281475513581568 ||| m = m) :
    State.SameOutside m o (State.loadBank s b1 b2 b3) := by
  unfold State.loadBank
  exact (State.fset_same (State.setRunSlot_same (State.fset_same (State.setBank_same h (mask_trans rfl k)) (mask_trans rfl k) (pageMask_fw (mask_trans rfl k))) (mask_trans rfl k)) (mask_trans rfl k) (pageMask_fw (mask_trans rfl k)))

theorem State.loadOne_same (h : State.SameOutside m o s) (k : 282575025209344 ||| m = m) :
    State.SameOutside m o (State.loadOne s b1).1 := by
  unfold State.loadOne
  split
  · rename_i x0 x1
    exact (State.SameOutside.pr1 h)
  · rename_i x2 x3 x4 x5
    extract_lets -merge -useContext -underBinder x6 x7 x8
    split
    · rename_i x9 x10
      exact (State.SameOutside.pr1 (State.loadBank_same h (mask_trans rfl k)))
    · rename_i x11 x12 x13
      extract_lets -merge -useContext -underBinder x14 x15
      have h16 : State.SameOutside m o x14 := (State.fset_same h (mask_trans rfl k) (pageMask_sys (mask_trans rfl k)))
      split
      · rename_i x17 x18
        exact (State.SameOutside.pr1 (State.loadBank_same (State.fset_same h16 (mask_trans rfl k) (pageMask_sys (mask_trans rfl k))) (mask_trans rfl k)))
      · rename_i x19 x20 x21
        exact (State.SameOutside.pr1 h16)

theorem State.loaderStep2_same (h : State.SameOutside m o s) (k : 35184908959874 ||| m = m) :
    State.SameOutside m o (State.loaderStep2 s) := by
  unfold State.loaderStep2
  exact (State.setLoader_same (State.advanceTo_same (State.fset_same h (mask_trans rfl k) (pageMask_scal (mask_trans rfl k))) (mask_trans rfl k)) (mask_trans rfl k))

theorem State.loaderStep3_same (h : State.SameOutside m o s) (k : 9295712205917913282 ||| m = m) :
    State.SameOutside m o (State.loaderStep3 s b1) := by
  unfold State.loaderStep3
  extract_lets -merge -useContext -underBinder x0 x1 x2 x3 x4 x5 x6
  have h7 : State.SameOutside m o x0 := (State.advanceTo_same h (mask_trans rfl k))
  have h8 : State.SameOutside m o x1 := by
    unfold x1
    split
    · rename_i x9 x10 x11 x12
      extract_lets -merge -useContext -underBinder x13
      exact (State.showKey_same (State.SameOutside.set_transport h7 (mask_trans rfl k)) (mask_trans rfl k))
    · rename_i x14 x15
      exact h7
  have h16 : State.SameOutside m o x4 := (State.fsetB_same (State.showOtp_same (State.showDir_same h8 (mask_trans rfl k)) (mask_trans rfl k)) (mask_trans rfl k) (pageMask_sys (mask_trans rfl k)))
  have h17 : State.SameOutside m o x5 := (State.fset_same h16 (mask_trans rfl k) (pageMask_sys (mask_trans rfl k)))
  exact (State.SameOutside.ite (State.SameOutside.set_boot h17 (mask_trans rfl k)) (State.setLoader_same h16 (mask_trans rfl k)))

theorem State.started_same (h : State.SameOutside m o s) (k : 5188146772946976772 ||| m = m) :
    State.SameOutside m o (State.started s) := by
  unfold State.started
  extract_lets -merge -useContext -underBinder x0
  exact (State.dailyStart_same (State.setFw_same h (mask_trans rfl k)) (mask_trans rfl k))

theorem State.mgtReloaded_same (h : State.SameOutside m o s) (k : 5188429347972186116 ||| m = m) :
    State.SameOutside m o (State.mgtReloaded s) := by
  unfold State.mgtReloaded
  have ht : State.SameOutside m o { s with boot := { s.boot with loader := none, mgtOnly := false } } :=
    State.SameOutside.set_boot h (mask_trans rfl k)
  exact State.SameOutside.ite (State.fset_same ht (mask_trans rfl k) (pageMask_sys (mask_trans rfl k)))
    (State.SameOutside.ite (State.dailyStart_same (State.evt_same (State.setRunning_same ht (mask_trans rfl k))
      (mask_trans rfl k) (pageMask_sys (mask_trans rfl k))) (mask_trans rfl k)) ht)

theorem State.loaderStep4_same (h : State.SameOutside m o s) (k : 5188429347972186246 ||| m = m) :
    State.SameOutside m o (State.loaderStep4 s b1) := by
  unfold State.loaderStep4
  extract_lets -merge -useContext -underBinder x0 x1
  subst x0
  have h2 : State.SameOutside m o x1 := (State.advanceTo_same (State.loadOne_same h (mask_trans rfl k)) (mask_trans rfl k))
  exact (State.SameOutside.ite (State.mgtReloaded_same h2 (mask_trans rfl k)) (State.setLoader_same h2 (mask_trans rfl k)))

theorem State.loaderStep5_same (h : State.SameOutside m o s) (k : 282575025209474 ||| m = m) :
    State.SameOutside m o (State.loaderStep5 s b1) := by
  unfold State.loaderStep5
  extract_lets -merge -useContext -underBinder x0 x1
  subst x0
  have h2 : State.SameOutside m o x1 := (State.advanceTo_same (State.loadOne_same h (mask_trans rfl k)) (mask_trans rfl k))
  exact (State.setLoader_same h2 (mask_trans rfl k))

theorem State.loaderStep6_same (h : State.SameOutside m o s) (k : 5188499716718461062 ||| m = m) :
    State.SameOutside m o (State.loaderStep6 s b1) := by
  unfold State.loaderStep6
  extract_lets -merge -useContext -underBinder x0 x1 x2
  have h3 : State.SameOutside m o x0 := (State.setLoader_same (State.advanceTo_same h (mask_trans rfl k)) (mask_trans rfl k))
  have h4 : State.SameOutside m o x1 := (State.fset_same h3 (mask_trans rfl k) (pageMask_sys (mask_trans rfl k)))
  have h5 : State.SameOutside m o x2 := (State.SameOutside.ite (State.started_same (State.setRunning_same h4 (mask_trans rfl k)) (mask_trans rfl k)) h4)
  exact (State.SameOutside.ite (State.fset_same h3 (mask_trans rfl k) (pageMask_sys (mask_trans rfl k))) (State.SameOutside.ite (State.evalGroups_same (State.setRunning_same h5 (mask_trans rfl k)) (mask_trans rfl k)) h5))

theorem State.loaderStep_same (h : State.SameOutside m o s) (k : 14483964531983253702 ||| m = m) :
    State.SameOutside m o (State.loaderStep s) := by
  unfold State.loaderStep
  split
  · rename_i x0 x1 x2
    exact (State.loaderStep2_same h (mask_trans rfl k))
  · rename_i x3 x4 x5
    exact (State.loaderStep3_same h (mask_trans rfl k))
  · rename_i x6 x7 x8
    exact (State.loaderStep4_same h (mask_trans rfl k))
  · rename_i x9 x10 x11
    exact (State.loaderStep5_same h (mask_trans rfl k))
  · rename_i x12 x13 x14
    exact (State.loaderStep6_same h (mask_trans rfl k))
  · rename_i x15 x16 x17 x18 x19 x20
    exact h

theorem State.abandonMgt_same (h : State.SameOutside m o s) (k : 37289808215377226624 ||| m = m) :
    State.SameOutside m o (State.abandonMgt s) := by
  unfold State.abandonMgt
  extract_lets -merge -useContext -underBinder x0
  have h1 : State.SameOutside m o x0 := by
    unfold x0
    split
    · rename_i x2 x3 x4
      extract_lets -merge -useContext -underBinder x5
      exact (State.SameOutside.ite (State.fset_same (State.SameOutside.set_cad h (mask_trans rfl k)) (mask_trans rfl k) (pageMask_cad (mask_trans rfl k))) h)
    · rename_i x6 x7
      exact h
  split
  · rename_i x8 x9 x10
    exact (State.SameOutside.ite (State.abandonCmd_same h1 (mask_trans rfl k) (pageMask_cad (mask_trans rfl k))) h1)
  · rename_i x11 x12
    exact h1

theorem State.mgtRestart_same (h : State.SameOutside m o s) (k : 73786975199189385208 ||| m = m) :
    State.SameOutside m o (State.mgtRestart s b1) := by
  unfold State.mgtRestart
  extract_lets -merge -useContext -underBinder x0 x1 x2 x3
  have h4 : State.SameOutside m o x0 := (State.abandonMgt_same h (mask_trans rfl k))
  have h5 : State.SameOutside m o x1 := (State.domainLost_same (State.breakLocksOf_same h4 (mask_trans rfl k)) (mask_trans rfl k))
  have h6 : State.SameOutside m o x2 := (State.finc_same (State.fset_same h5 (mask_trans rfl k) (pageMask_sys (mask_trans rfl k))) (mask_trans rfl k) (pageMask_sys (mask_trans rfl k)))
  exact (State.SameOutside.set_boot h6 (mask_trans rfl k))

theorem State.mgtHalt_same (h : State.SameOutside m o s) (k : 73786975199206293500 ||| m = m) :
    State.SameOutside m o (State.mgtHalt s b1) := by
  unfold State.mgtHalt
  extract_lets -merge -useContext -underBinder x0 x1
  have h2 : State.SameOutside m o x0 := (State.report_same h (mask_trans rfl k))
  have h3 : State.SameOutside m o x1 := (State.setRunning_same h2 (mask_trans rfl k))
  exact (State.SameOutside.ite h (State.SameOutside.ite (State.revert_same h2 (mask_trans rfl k)) (State.SameOutside.ite (State.mgtRestart_same h3 (mask_trans rfl k)) h3)))

theorem State.setBenchWords_same (h : State.SameOutside m o s) (k : 1100048498688 ||| m = m) :
    State.SameOutside m o (State.setBenchWords s b1 b2) := by
  unfold State.setBenchWords
  extract_lets -merge -useContext -underBinder x0 x1 x2
  have h3 : State.SameOutside m o x2 := (State.SameOutside.ite (State.SameOutside.set_boot h (mask_trans rfl k)) (State.SameOutside.ite (State.SameOutside.set_boot h (mask_trans rfl k)) h))
  exact (State.fset_same h3 (mask_trans rfl k) (pageMask_sys (mask_trans rfl k)))

theorem State.benchData_same (h : State.SameOutside m o s) (k : 1100048498688 ||| m = m) :
    State.SameOutside m o (State.benchData s b1) := by
  unfold State.benchData
  extract_lets -merge -useContext -underBinder x0 x1
  exact (State.SameOutside.ite (State.setBenchWords_same h (mask_trans rfl k)) h)

theorem State.benchStart_same (h : State.SameOutside m o s) (k : 5188499716718460932 ||| m = m) :
    State.SameOutside m o (State.benchStart s) := by
  unfold State.benchStart
  extract_lets -merge -useContext -underBinder x0 x1 x2 x3 x4
  have h5 : State.SameOutside m o x0 := (State.fset_same h (mask_trans rfl k) (pageMask_sys (mask_trans rfl k)))
  have h6 : State.SameOutside m o x1 := (State.SameOutside.ite (State.started_same (State.setRunning_same h5 (mask_trans rfl k)) (mask_trans rfl k)) h5)
  have h7 : State.SameOutside m o x4 := (State.setBenchWords_same h (mask_trans rfl k))
  exact (State.SameOutside.ite (State.SameOutside.ite (State.evalGroups_same (State.setRunning_same h6 (mask_trans rfl k)) (mask_trans rfl k)) h6) (State.SameOutside.ite (by
    split
    · rename_i x8 x9 x10
      exact (State.fset_same h7 (mask_trans rfl k) (pageMask_sys (mask_trans rfl k)))
    · rename_i x11 x12
      extract_lets -merge -useContext -underBinder x13 x14
      have h15 : State.SameOutside m o x13 := (State.setRunning_same (State.loadBank_same h7 (mask_trans rfl k)) (mask_trans rfl k))
      have h16 : State.SameOutside m o x14 := (State.SameOutside.ite (State.started_same h15 (mask_trans rfl k)) (State.evalGroups_same h15 (mask_trans rfl k)))
      exact (State.SameOutside.ite (State.fset_same h16 (mask_trans rfl k) (pageMask_sys (mask_trans rfl k))) h16)) h))

end Sys2Proof.Machine
end

