-- ==== Sys2Proof/Laws/Frame/Commit.lean ====
section
/-! SUPPORT. What every command leaves alone: one lemma for each function of Machine/Commit.lean that changes the state. -/

namespace Sys2Proof.Machine

variable {o s : State} {m : Nat}

theorem State.refuseCommit_same (h : State.SameOutside m o s) (k : 1101659111424 ||| m = m) (kp2 : pageMask b2 ||| m = m) :
    State.SameOutside m o (State.refuseCommit s b1 b2 b3) := by
  unfold State.refuseCommit
  split
  · rename_i x0 x1
    exact h
  · rename_i x2 x3 x4
    extract_lets -merge -useContext -underBinder x5 x6
    have h7 : State.SameOutside m o x5 := (State.SameOutside.ite (by
    split
    · rename_i x8 x9 x10 x11 x12
      exact (State.fset_same (State.fset_same h (mask_trans rfl k) (pageMask_sys (mask_trans rfl k))) (mask_trans rfl k) (pageMask_sys (mask_trans rfl k)))
    · rename_i x13 x14
      exact h) h)
    exact (State.SameOutside.ite h (State.evt_same (State.setHdr_same h7 (mask_trans rfl k) kp2) (mask_trans rfl k) kp2))

theorem State.tellCommit_same (h : State.SameOutside m o s) (k : 562952134459392 ||| m = m) :
    State.SameOutside m o (State.tellCommit s b1 b2 b3) := by
  unfold State.tellCommit
  exact (State.mirrorActive_same h (mask_trans rfl k))

theorem State.captureCommit_same (h : State.SameOutside m o s) (k : 562952134459392 ||| m = m) (kp1 : pageMask b1 ||| m = m) :
    State.SameOutside m o (State.captureCommit s b1 b2 b3) := by
  unfold State.captureCommit
  extract_lets -merge -useContext -underBinder x0 x1 x2 x3
  have h4 : State.SameOutside m o x0 := (State.capture_same h (mask_trans rfl k) kp1)
  have h5 : State.SameOutside m o x2 := (State.SameOutside.ite (State.tellCommit_same h4 (mask_trans rfl k)) h4)
  exact (State.setHdr_same h5 (mask_trans rfl k) kp1)

theorem State.reelApplied_same (h : State.SameOutside m o s) (k : 524288 ||| m = m) :
    State.SameOutside m o (State.reelApplied s b1 b2) := by
  unfold State.reelApplied
  exact (State.SameOutside.ite (State.reelEmpty_same h (mask_trans rfl k)) h)

theorem State.fieldApplied_same (h : State.SameOutside m o s) (k : 1099511627776 ||| m = m) :
    State.SameOutside m o (State.fieldApplied s) := by
  unfold State.fieldApplied
  exact (State.fset_same (State.fset_same h (mask_trans rfl k) (pageMask_sys (mask_trans rfl k))) (mask_trans rfl k) (pageMask_sys (mask_trans rfl k)))

theorem State.pairApplied_same (h : State.SameOutside m o s) (k : 562952201570308 ||| m = m) :
    State.SameOutside m o (State.pairApplied s b1) := by
  unfold State.pairApplied
  extract_lets -merge -useContext -underBinder x0 x1
  have h2 : State.SameOutside m o x0 := (State.roleApplied_same h (mask_trans rfl k))
  exact (State.SameOutside.ite (State.writeKeys_same h2 (mask_trans rfl k)) h2)

theorem State.messageApplied_same (h : State.SameOutside m o s) (k : 70370893758464 ||| m = m) :
    State.SameOutside m o (State.messageApplied s) := by
  unfold State.messageApplied
  split
  · rename_i x0 x1
    exact h
  · rename_i x2 x3 x4
    extract_lets -merge -useContext -underBinder x5 x6 x7
    subst x5
    have h8 : State.SameOutside m o x6 := (State.SameOutside.set_safe h (mask_trans rfl k))
    have h9 : State.SameOutside m o x7 := (State.fset_same (State.fset_same h8 (mask_trans rfl k) (pageMask_saf (mask_trans rfl k))) (mask_trans rfl k) (pageMask_saf (mask_trans rfl k)))
    exact (State.evt_same (State.fset_same (State.fset_same h9 (mask_trans rfl k) (pageMask_saf (mask_trans rfl k))) (mask_trans rfl k) (pageMask_saf (mask_trans rfl k))) (mask_trans rfl k) (pageMask_saf (mask_trans rfl k)))

theorem State.pageApplied_same (h : State.SameOutside m o s) (k : 46669363679987252196 ||| m = m) :
    State.SameOutside m o (State.pageApplied s b1 b2) := by
  unfold State.pageApplied
  split
  · rename_i x0 x1 x2
    exact (State.fieldApplied_same h (mask_trans rfl k))
  · rename_i x3 x4 x5
    exact (State.timeApplied_same h (mask_trans rfl k))
  · rename_i x6 x7 x8
    exact (State.scalApplied_same h (mask_trans rfl k))
  · rename_i x9 x10 x11
    exact (State.safApplied_same h (mask_trans rfl k))
  · rename_i x12 x13 x14
    exact (State.safApplied_same h (mask_trans rfl k))
  · rename_i x15 x16 x17
    exact (State.pairApplied_same h (mask_trans rfl k))
  · rename_i x18 x19 x20
    exact (State.memApplied_same h (mask_trans rfl k))
  · rename_i x21 x22 x23
    exact (State.lyrApplied_same h (mask_trans rfl k))
  · rename_i x24 x25 x26
    exact (State.commitInWindow_same (State.messageApplied_same h (mask_trans rfl k)) (mask_trans rfl k))
  · rename_i x27 x28 x29
    exact (State.commitInWindow_same (State.matteApplied_same h (mask_trans rfl k)) (mask_trans rfl k))
  · rename_i x30 x31 x32
    exact (State.cadApplied_same h (mask_trans rfl k))
  · rename_i x33 x34 x35
    exact (State.gafApplied_same h (mask_trans rfl k))
  · rename_i x36 x37 x38
    exact (State.diagApplied_same h (mask_trans rfl k))
  · rename_i x39 x40 x41
    exact (State.reelApplied_same h (mask_trans rfl k))
  · rename_i x42 x43 x44
    exact (State.linkApplied_same h (mask_trans rfl k))
  · rename_i x45 x46 x47
    exact (State.dudApplied_same h (mask_trans rfl k))
  · rename_i x48 x49 x50 x51 x52 x53 x54 x55 x56 x57 x58 x59 x60 x61 x62 x63 x64
    exact h

theorem State.blocksApplied_same (h : State.SameOutside m o s) (k : 73786975197595188220 ||| m = m) :
    State.SameOutside m o (State.blocksApplied s b1 b2) := by
  unfold State.blocksApplied
  extract_lets -merge -useContext -underBinder x0 x1 x2
  have h3 : State.SameOutside m o x0 := (State.SameOutside.foldl h (fun a6 s4 h5 => (State.pageApplied_same h5 (mask_trans rfl k))))
  have h7 : State.SameOutside m o x1 := (State.SameOutside.foldl h3 (fun a10 s8 h9 => (State.lanesApplied_same h9 (mask_trans rfl k))))
  exact (State.SameOutside.ite (State.SameOutside.set_time h7 (mask_trans rfl k)) h7)

theorem carriedAddrs_page {a p : Nat} (h : a ∈ carriedAddrs p) : a / 0x1000 = p := by
  have h := (List.mem_filter.mp h).1
  unfold rwsAddrs at h
  split at h
  · simp only [List.mem_flatMap, List.mem_map] at h
    obtain ⟨r, _, i, _, rfl⟩ := h
    exact addrOf_page _ _
  · cases h

theorem State.mergePage_same (h : State.SameOutside m o s) (k : 0 ||| m = m) (kp1 : pageMask b1 ||| m = m) :
    State.SameOutside m o (State.mergePage s b1) := by
  unfold State.mergePage
  refine State.SameOutside.ite (State.mergeCapture_same (State.SameOutside.foldlMem h fun a ha s h => ?_) k kp1)
    (State.mergeCapture_same h k kp1)
  have hq : a / 0x1000 = b1 := carriedAddrs_page ha
  exact h.of_page kp1 rfl fun p hp => ⟨rfl, fun off => ⟨rfl, rfl, SMap.read_write_other _ _ _
    (addrOf_of_page a ▸ addrOf_ne (hq ▸ hp)) _, rfl⟩⟩

theorem State.applyPages_same (h : State.SameOutside m o s) (k : 73786975197595188220 ||| m = m) :
    State.SameOutside m o (State.applyPages s b1) := by
  unfold State.applyPages
  extract_lets -merge -useContext -underBinder x0 x1 x2
  have h3 : State.SameOutside m o x0 := h
  have h4 : State.SameOutside m o x1 := (State.SameOutside.foldl h (fun a7 s5 h6 => (by
    extract_lets -merge -useContext -underBinder x8
    have h9 : State.SameOutside m o x8 := (State.mergePage_same h6 (mask_trans rfl k) (pageMask_any _ (mask_trans rfl k)))
    exact (State.setHdr_same h9 (mask_trans rfl k) (pageMask_any _ (mask_trans rfl k))))))
  have h10 : State.SameOutside m o x2 := (State.SameOutside.foldl h4 (fun a13 s11 h12 => (State.evt_same h12 (mask_trans rfl k) (pageMask_any _ (mask_trans rfl k)))))
  exact (State.blocksApplied_same h10 (mask_trans rfl k))

theorem State.tellOutcome_same (h : State.SameOutside m o s) (k : 562952134459392 ||| m = m) :
    State.SameOutside m o (State.tellOutcome s b1 b2 b3) := by
  unfold State.tellOutcome
  exact (State.SameOutside.ite (State.mirrorActive_same h (mask_trans rfl k)) h)

theorem State.applyAtBoundary_same (h : State.SameOutside m o s) (k : 73786975197595188220 ||| m = m) :
    State.SameOutside m o (State.applyAtBoundary s b1) := by
  unfold State.applyAtBoundary
  extract_lets -merge -useContext -underBinder x0 x1
  have h2 : State.SameOutside m o x1 := (State.applyPages_same h (mask_trans rfl k))
  exact (State.SameOutside.foldl h2 (fun a5 s3 h4 => (State.tellOutcome_same h4 (mask_trans rfl k))))

theorem State.deferCommit_same (h : State.SameOutside m o s) (k : 5066551761829888 ||| m = m) (kp1 : pageMask b1 ||| m = m) :
    State.SameOutside m o (State.deferCommit s b1) := by
  unfold State.deferCommit
  split
  · rename_i x0 x1
    exact h
  · rename_i x2 x3 x4
    extract_lets -merge -useContext -underBinder x5 x6 x7
    have h8 : State.SameOutside m o x6 := (State.setHdr_same h (mask_trans rfl k) kp1)
    have h9 : State.SameOutside m o x7 := (State.SameOutside.ite (State.evt_same (State.finc_same h8 (mask_trans rfl k) (pageMask_cmp (mask_trans rfl k))) (mask_trans rfl k) (pageMask_cmp (mask_trans rfl k))) h8)
    exact (State.tellOutcome_same h9 (mask_trans rfl k))

theorem State.abandonCommit_same (h : State.SameOutside m o s) (k : 5066551761829888 ||| m = m) (kp1 : pageMask b1 ||| m = m) :
    State.SameOutside m o (State.abandonCommit s b1 b2) := by
  unfold State.abandonCommit
  split
  · rename_i x0 x1
    exact h
  · rename_i x2 x3 x4
    extract_lets -merge -useContext -underBinder x5 x6 x7 x8
    have h9 : State.SameOutside m o x6 := (State.setHdr_same (State.dropCapture_same h (mask_trans rfl k) kp1) (mask_trans rfl k) kp1)
    have h10 : State.SameOutside m o x7 := (State.evt_same h9 (mask_trans rfl k) kp1)
    have h11 : State.SameOutside m o x8 := (State.SameOutside.ite (State.evt_same (State.finc_same h10 (mask_trans rfl k) (pageMask_cmp (mask_trans rfl k))) (mask_trans rfl k) (pageMask_cmp (mask_trans rfl k))) h10)
    exact (State.tellOutcome_same h11 (mask_trans rfl k))

theorem State.lateCommit_same (h : State.SameOutside m o s) (k : 5066551761829888 ||| m = m) (kp1 : pageMask b1 ||| m = m) :
    State.SameOutside m o (State.lateCommit s b1) := by
  unfold State.lateCommit
  split
  · rename_i x0 x1
    exact h
  · rename_i x2 x3 x4
    exact (State.SameOutside.ite (State.deferCommit_same h (mask_trans rfl k) kp1) (State.abandonCommit_same h (mask_trans rfl k) kp1))

theorem State.acceptCommit_same (h : State.SameOutside m o s) (k : 73786975197595188220 ||| m = m) (kp1 : pageMask b1 ||| m = m) :
    State.SameOutside m o (State.acceptCommit s b1 b2) := by
  unfold State.acceptCommit
  extract_lets -merge -useContext -underBinder x0
  have h1 : State.SameOutside m o x0 := (State.captureCommit_same h (mask_trans rfl k) kp1)
  exact (State.SameOutside.ite (State.applyPages_same h1 (mask_trans rfl k)) h1)

theorem State.commitGo_same (h : State.SameOutside m o s) (k : 73786975197595188220 ||| m = m) (kp2 : pageMask b2 ||| m = m) :
    State.SameOutside m o (State.commitGo s b1 b2 b3) := by
  unfold State.commitGo
  split
  · rename_i x0 x1 x2
    exact (State.refuseCommit_same h (mask_trans rfl k) kp2)
  · rename_i x3 x4
    exact (State.acceptCommit_same h (mask_trans rfl k) kp2)

theorem State.setGroupFail_same (h : State.SameOutside m o s) (k : 1099511627776 ||| m = m) :
    State.SameOutside m o (State.setGroupFail s b1) := by
  unfold State.setGroupFail
  exact (State.SameOutside.foldl h (fun a2 s0 h1 => (State.fset_same h1 (mask_trans rfl k) (pageMask_sys (mask_trans rfl k)))))

theorem State.groupApplied_same (h : State.SameOutside m o s) (k : 1103806595072 ||| m = m) :
    State.SameOutside m o (State.groupApplied s) := by
  unfold State.groupApplied
  extract_lets -merge -useContext -underBinder x0 x1
  subst x0
  have h2 : State.SameOutside m o x1 := (State.SameOutside.upd_group h (mask_trans rfl k))
  exact (State.fwrap_same (State.fset_same h2 (mask_trans rfl k) (pageMask_sys (mask_trans rfl k))) (mask_trans rfl k) (pageMask_sys (mask_trans rfl k)))

theorem State.groupGo_same (h : State.SameOutside m o s) (k : 73786975201890155516 ||| m = m) :
    State.SameOutside m o (State.groupGo s b1 b2) := by
  unfold State.groupGo
  extract_lets -merge -useContext -underBinder x0 x1 x2 x3 x4
  have h5 : State.SameOutside m o x2 := (State.SameOutside.foldl (State.setGroupFail_same h (mask_trans rfl k)) (fun a8 s6 h7 => (State.captureCommit_same h7 (mask_trans rfl k) (pageMask_any _ (mask_trans rfl k)))))
  subst x3
  have h9 : State.SameOutside m o x4 := (State.SameOutside.foldl h (fun a12 s10 h11 => (State.refuseCommit_same h11 (mask_trans rfl k) (pageMask_any _ (mask_trans rfl k)))))
  exact (State.SameOutside.ite (State.fset_same h (mask_trans rfl k) (pageMask_sys (mask_trans rfl k))) (State.SameOutside.ite (State.SameOutside.ite (State.groupApplied_same (State.applyPages_same h5 (mask_trans rfl k)) (mask_trans rfl k)) (State.fset_same (State.SameOutside.upd_group h5 (mask_trans rfl k)) (mask_trans rfl k) (pageMask_sys (mask_trans rfl k)))) (State.fset_same (State.fset_same (State.setGroupFail_same h9 (mask_trans rfl k)) (mask_trans rfl k) (pageMask_sys (mask_trans rfl k))) (mask_trans rfl k) (pageMask_sys (mask_trans rfl k)))))

theorem State.lateGroup_same (h : State.SameOutside m o s) (k : 73786975201802584064 ||| m = m) :
    State.SameOutside m o (State.lateGroup s b1) := by
  unfold State.lateGroup
  extract_lets -merge -useContext -underBinder x0 x1 x2 x3 x4 x5 x6 x7
  have h8 : State.SameOutside m o x2 := (State.SameOutside.foldl h (fun a11 s9 h10 => (State.deferCommit_same h10 (mask_trans rfl k) (pageMask_any _ (mask_trans rfl k)))))
  subst x3
  have h12 : State.SameOutside m o x5 := (State.SameOutside.foldl h (fun a15 s13 h14 => (State.abandonCommit_same h14 (mask_trans rfl k) (pageMask_any _ (mask_trans rfl k)))))
  subst x6
  have h16 : State.SameOutside m o x7 := (State.setGroupFail_same (State.SameOutside.upd_group h12 (mask_trans rfl k)) (mask_trans rfl k))
  exact (State.SameOutside.ite (State.fset_same (State.SameOutside.upd_group h8 (mask_trans rfl k)) (mask_trans rfl k) (pageMask_sys (mask_trans rfl k))) (State.fset_same (State.fset_same h16 (mask_trans rfl k) (pageMask_sys (mask_trans rfl k))) (mask_trans rfl k) (pageMask_sys (mask_trans rfl k))))

theorem State.boundaryCommits_same (h : State.SameOutside m o s) (k : 73786975201890155516 ||| m = m) :
    State.SameOutside m o (State.boundaryCommits s b1) := by
  unfold State.boundaryCommits
  extract_lets -merge -useContext -underBinder x0 x1 x2
  split
  · rename_i x3 x4 x5
    exact (State.SameOutside.ite (State.SameOutside.ite (State.SameOutside.foldl (State.groupApplied_same (State.applyAtBoundary_same h (mask_trans rfl k)) (mask_trans rfl k)) (fun a8 s6 h7 => (State.lateCommit_same h7 (mask_trans rfl k) (pageMask_any _ (mask_trans rfl k))))) (State.lateGroup_same (State.SameOutside.foldl (State.applyAtBoundary_same h (mask_trans rfl k)) (fun a11 s9 h10 => (State.lateCommit_same h10 (mask_trans rfl k) (pageMask_any _ (mask_trans rfl k))))) (mask_trans rfl k))) (State.SameOutside.foldl (State.applyAtBoundary_same h (mask_trans rfl k)) (fun a14 s12 h13 => (State.lateCommit_same h13 (mask_trans rfl k) (pageMask_any _ (mask_trans rfl k))))))
  · rename_i x15 x16
    exact (State.SameOutside.foldl (State.applyAtBoundary_same h (mask_trans rfl k)) (fun a19 s17 h18 => (State.lateCommit_same h18 (mask_trans rfl k) (pageMask_any _ (mask_trans rfl k)))))

theorem State.messageCommit_same (h : State.SameOutside m o s) (k : 18648818901843968 ||| m = m) :
    State.SameOutside m o (State.messageCommit s b1) := by
  unfold State.messageCommit
  extract_lets -merge -useContext -underBinder x0 x1 x2 x3 x4 x5
  have h6 : State.SameOutside m o x2 := (State.setShadow_same (State.setShadow_same h (mask_trans rfl k) (pageMask_addr (pageMask_ovl (mask_trans rfl k)))) (mask_trans rfl k) (pageMask_addr (pageMask_ovl (mask_trans rfl k))))
  have h7 : State.SameOutside m o x3 := (State.setShadow_same (State.setShadow_same h6 (mask_trans rfl k) (pageMask_addr (pageMask_ovl (mask_trans rfl k)))) (mask_trans rfl k) (pageMask_addr (pageMask_ovl (mask_trans rfl k))))
  have h8 : State.SameOutside m o x4 := (State.setShadow_same h7 (mask_trans rfl k) (pageMask_addr (pageMask_ovl (mask_trans rfl k))))
  have h9 : State.SameOutside m o x5 := (State.setShadow_same (State.setShadow_same (State.setShadow_same h8 (mask_trans rfl k) (pageMask_addr (pageMask_ovl (mask_trans rfl k)))) (mask_trans rfl k) (pageMask_addr (pageMask_ovl (mask_trans rfl k)))) (mask_trans rfl k) (pageMask_addr (pageMask_ovl (mask_trans rfl k))))
  split
  · rename_i x10 x11
    extract_lets -merge -useContext -underBinder x12 x13
    have h14 : State.SameOutside m o x12 := (State.captureCommit_same h9 (mask_trans rfl k) (pageMask_ovl (mask_trans rfl k)))
    subst x13
    exact (State.SameOutside.set_safe h14 (mask_trans rfl k))
  · rename_i x15 x16 x17
    extract_lets -merge -useContext -underBinder x18 x19
    have h20 : State.SameOutside m o x18 := (State.refuseCommit_same h9 (mask_trans rfl k) (pageMask_ovl (mask_trans rfl k)))
    subst x19
    exact (State.evt_same (State.sendStatus_same (State.SameOutside.set_safe h20 (mask_trans rfl k)) (mask_trans rfl k)) (mask_trans rfl k) (pageMask_saf (mask_trans rfl k)))

theorem State.message_same (h : State.SameOutside m o s) (k : 18648818901843968 ||| m = m) :
    State.SameOutside m o (State.message s b1) := by
  unfold State.message
  extract_lets -merge -useContext -underBinder x0
  subst x0
  exact (State.SameOutside.ite (State.SameOutside.set_safe h (mask_trans rfl k)) (State.messageCommit_same h (mask_trans rfl k)))

theorem State.messageWaiting_same (h : State.SameOutside m o s) (k : 18648818901843968 ||| m = m) :
    State.SameOutside m o (State.messageWaiting s) := by
  unfold State.messageWaiting
  split
  · rename_i x0 x1 x2
    extract_lets -merge -useContext -underBinder x3
    subst x3
    exact (State.SameOutside.ite h (State.messageCommit_same (State.SameOutside.set_safe h (mask_trans rfl k)) (mask_trans rfl k)))
  · rename_i x4 x5
    exact h

theorem State.leaseExpiry_same (h : State.SameOutside m o s) (k : 2147483778 ||| m = m) (kp1 : pageMask b1 ||| m = m) :
    State.SameOutside m o (State.leaseExpiry s b1) := by
  unfold State.leaseExpiry
  extract_lets -merge -useContext -underBinder x0 x1
  have h2 : State.SameOutside m o x1 := (State.advanceTo_same h (mask_trans rfl k))
  exact (State.SameOutside.ite (State.SameOutside.ite (State.breakLock_same h2 (mask_trans rfl k) kp1) h2) h)

theorem State.discardShadow_same (h : State.SameOutside m o s) (k : 0 ||| m = m) (kp1 : pageMask b1 ||| m = m) :
    State.SameOutside m o (State.discardShadow s b1) := by
  unfold State.discardShadow
  extract_lets -merge -useContext -underBinder x0 x1
  have h2 : State.SameOutside m o x0 := (State.reloadShadows_same h (mask_trans rfl k) kp1)
  exact (State.setHdr_same h2 (mask_trans rfl k) kp1)

theorem State.snapshot_same (h : State.SameOutside m o s) (k : 18446744073709551624 ||| m = m) (kp1 : pageMask b1 ||| m = m) :
    State.SameOutside m o (State.snapshot s b1) := by
  unfold State.snapshot
  extract_lets -merge -useContext -underBinder x0 x1 x2
  have h3 : State.SameOutside m o x0 := by
    unfold x0
    split
    · rename_i x4 x5 x6
      exact (State.prbsCatch_same h (mask_trans rfl k))
    · rename_i x7 x8
      exact h
  have h9 : State.SameOutside m o x1 := (State.copyCounters_same h3 (mask_trans rfl k) kp1)
  exact (State.setHdr_same h9 (mask_trans rfl k) kp1)

theorem State.snapshotDone_same (h : State.SameOutside m o s) (k : 18446744073709551624 ||| m = m) (kp1 : pageMask b1 ||| m = m) :
    State.SameOutside m o (State.snapshotDone s b1) := by
  unfold State.snapshotDone
  exact (State.SameOutside.ite (State.snapshot_same h (mask_trans rfl k) kp1) h)

theorem State.groupSnapshot_same (h : State.SameOutside m o s) (k : 73786975195326578696 ||| m = m) :
    State.SameOutside m o (State.groupSnapshot s) := by
  unfold State.groupSnapshot
  extract_lets -merge -useContext -underBinder x0 x1
  exact (State.SameOutside.foldl (State.setGroupFail_same h (mask_trans rfl k)) (fun a4 s2 h3 => (State.snapshot_same h3 (mask_trans rfl k) (pageMask_any _ (mask_trans rfl k)))))

end Sys2Proof.Machine
end

