-- ==== Sys2Proof/Laws/Frame/Pair.lean ====
section
/-! SUPPORT. What every command leaves alone: one lemma for each function of Machine/Pair.lean that changes the state. -/

namespace Sys2Proof.Machine

variable {o s : State} {m : Nat}

theorem State.settle_same (h : State.SameOutside m o s) (k : 73786975197507616768 ||| m = m) :
    State.SameOutside m o (State.settle s) := by
  unfold State.settle
  exact (State.flushMirror_same (State.readyCheck_same (State.link4Lost_same h (mask_trans rfl k)) (mask_trans rfl k)) (mask_trans rfl k))

theorem State.mirrorRx_same (h : State.SameOutside m o s) (k : 562952134459392 ||| m = m) (kf2 : ∀ s, State.SameOutside m o s → State.SameOutside m o (b2 s)) :
    State.SameOutside m o (State.mirrorRx s b1 b2) := by
  unfold State.mirrorRx
  extract_lets -merge -useContext -underBinder x0 x1
  have h2 : State.SameOutside m o x1 := (State.fset_same h (mask_trans rfl k) (pageMask_pair (mask_trans rfl k)))
  exact (State.SameOutside.ite (kf2 _ (State.SameOutside.ite (State.clearReady_same h2 (mask_trans rfl k)) h2)) h)

theorem State.setMirrorPend_same (h : State.SameOutside m o s) (k : 33554432 ||| m = m) :
    State.SameOutside m o (State.setMirrorPend s b1 b2) := by
  unfold State.setMirrorPend
  exact (State.setPair_same h (mask_trans rfl k))

theorem State.withEntries_same (h : State.SameOutside m o s) (k : 0 ||| m = m) (kp1 : pageMask b1 ||| m = m) :
    State.SameOutside m o (State.withEntries s b1 b2) := by
  unfold State.withEntries
  extract_lets -merge -useContext -underBinder x0 x1 x2
  have h3 : State.SameOutside m o x0 := (State.reloadShadows_same h (mask_trans rfl k) kp1)
  have h4 : State.SameOutside m o x1 := (State.SameOutside.foldl h3 (fun a7 s5 h6 => (by
    extract_lets -merge -useContext -underBinder x8
    exact (State.SameOutside.ite h6 (State.setShadow_same h6 (mask_trans rfl k) (pageMask_addr kp1))))))
  exact (State.setHdr_same h4 (mask_trans rfl k) kp1)

theorem State.putEntries_same (h : State.SameOutside m o s) (k : 0 ||| m = m) (kp1 : pageMask b1 ||| m = m) :
    State.SameOutside m o (State.putEntries s b1 b2) := by
  unfold State.putEntries
  exact (State.SameOutside.foldl h (fun a2 s0 h1 => (by
    extract_lets -merge -useContext -underBinder x3 x4 x5
    exact (State.SameOutside.ite h1 (State.setShadow_same (State.setWord_same h1 (mask_trans rfl k) (pageMask_addr kp1)) (mask_trans rfl k) (pageMask_addr kp1))))))

theorem State.mirrorApply_same (h : State.SameOutside m o s) (k : 73786975197595188220 ||| m = m) (kp1 : pageMask b1 ||| m = m) :
    State.SameOutside m o (State.mirrorApply s b1 b2) := by
  unfold State.mirrorApply
  extract_lets -merge -useContext -underBinder x0 x1 x2 x3 x4 x5
  have h6 : State.SameOutside m o x0 := h
  have h7 : State.SameOutside m o x2 := (State.putEntries_same h (mask_trans rfl k) kp1)
  have h8 : State.SameOutside m o x3 := (State.evt_same (State.setHdr_same h7 (mask_trans rfl k) kp1) (mask_trans rfl k) kp1)
  have h9 : State.SameOutside m o x4 := (State.blocksApplied_same h8 (mask_trans rfl k))
  exact (State.SameOutside.ite h9 (State.clearReady_same h9 (mask_trans rfl k)))

theorem State.mirrorCommitRx_same (h : State.SameOutside m o s) (k : 73786975197595188220 ||| m = m) (kp1 : pageMask b1 ||| m = m) :
    State.SameOutside m o (State.mirrorCommitRx s b1 b2) := by
  unfold State.mirrorCommitRx
  extract_lets -merge -useContext -underBinder x0 x1
  exact (State.SameOutside.ite h (State.SameOutside.ite (State.clearReady_same (State.refuseCommit_same h (mask_trans rfl k) kp1) (mask_trans rfl k)) (State.SameOutside.ite (State.setHdr_same (State.setMirrorPend_same h (mask_trans rfl k)) (mask_trans rfl k) kp1) (by
    split
    · rename_i x2 x3 x4
      try unfold x0
      exact (State.clearReady_same (State.refuseCommit_same h (mask_trans rfl k) kp1) (mask_trans rfl k))
    · rename_i x5 x6
      extract_lets -merge -useContext -underBinder x7
      exact (State.SameOutside.ite (State.mirrorApply_same h (mask_trans rfl k) kp1) (State.setHdr_same (State.setMirrorPend_same h (mask_trans rfl k)) (mask_trans rfl k) kp1))))))

theorem State.mirrorAbandon_same (h : State.SameOutside m o s) (k : 4503601808408576 ||| m = m) (kp1 : pageMask b1 ||| m = m) :
    State.SameOutside m o (State.mirrorAbandon s b1) := by
  unfold State.mirrorAbandon
  extract_lets -merge -useContext -underBinder x0 x1 x2
  have h3 : State.SameOutside m o x1 := (State.setHdr_same (State.setMirrorPend_same h (mask_trans rfl k)) (mask_trans rfl k) kp1)
  have h4 : State.SameOutside m o x2 := (State.evt_same h3 (mask_trans rfl k) kp1)
  exact (State.SameOutside.ite (State.evt_same (State.finc_same h4 (mask_trans rfl k) (pageMask_cmp (mask_trans rfl k))) (mask_trans rfl k) (pageMask_cmp (mask_trans rfl k))) h4)

theorem State.mirrorDefer_same (h : State.SameOutside m o s) (k : 4503601808408576 ||| m = m) (kp1 : pageMask b1 ||| m = m) :
    State.SameOutside m o (State.mirrorDefer s b1 b2) := by
  unfold State.mirrorDefer
  extract_lets -merge -useContext -underBinder x0 x1
  have h2 : State.SameOutside m o x1 := (State.setHdr_same (State.setMirrorPend_same h (mask_trans rfl k)) (mask_trans rfl k) kp1)
  exact (State.SameOutside.ite (State.evt_same (State.finc_same h2 (mask_trans rfl k) (pageMask_cmp (mask_trans rfl k))) (mask_trans rfl k) (pageMask_cmp (mask_trans rfl k))) h2)

theorem State.outcomeRx_same (h : State.SameOutside m o s) (k : 73786975197595188220 ||| m = m) (kp1 : pageMask b1 ||| m = m) :
    State.SameOutside m o (State.outcomeRx s b1 b2) := by
  unfold State.outcomeRx
  exact (State.SameOutside.ite h (by
    split
    · rename_i x0 x1
      exact (State.clearReady_same h (mask_trans rfl k))
    · rename_i x2 x3 x4
      exact (State.SameOutside.ite (by
    split
    · rename_i x5 x6
      exact (State.mirrorApply_same (State.setMirrorPend_same h (mask_trans rfl k)) (mask_trans rfl k) kp1)
    · rename_i x7 x8 x9
      exact (State.clearReady_same (State.mirrorAbandon_same h (mask_trans rfl k) kp1) (mask_trans rfl k))) (State.SameOutside.ite (State.mirrorDefer_same h (mask_trans rfl k) kp1) (State.mirrorAbandon_same h (mask_trans rfl k) kp1)))))

theorem State.mirrorBoundary_same (h : State.SameOutside m o s) (k : 33554432 ||| m = m) :
    State.SameOutside m o (State.mirrorBoundary s b1) := by
  unfold State.mirrorBoundary
  extract_lets -merge -useContext -underBinder x0
  exact (State.setPair_same h (mask_trans rfl k))

theorem State.outcomeExpiry_same (h : State.SameOutside m o s) (k : 5066551761830018 ||| m = m) (kp1 : pageMask b1 ||| m = m) :
    State.SameOutside m o (State.outcomeExpiry s b1) := by
  unfold State.outcomeExpiry
  split
  · rename_i x0 x1 x2
    split
    · rename_i x3 x4 x5
      exact (State.clearReady_same (State.mirrorAbandon_same (State.advanceTo_same h (mask_trans rfl k)) (mask_trans rfl k) kp1) (mask_trans rfl k))
    · rename_i x6 x7
      exact h
  · rename_i x8 x9
    exact h

theorem State.mirrorBlockRx_same (h : State.SameOutside m o s) (k : 2814751948193792 ||| m = m) :
    State.SameOutside m o (State.mirrorBlockRx s b1 b2 b3 b4) := by
  unfold State.mirrorBlockRx
  exact (State.SameOutside.ite (State.admitWrite_same h (mask_trans rfl k)) h)

theorem State.mirrorRebuildRx_same (h : State.SameOutside m o s) (k : 562952134459392 ||| m = m) :
    State.SameOutside m o (State.mirrorRebuildRx s b1 b2 b3 b4) := by
  unfold State.mirrorRebuildRx
  exact (State.SameOutside.ite h (State.SameOutside.ite (State.clearReady_same h (mask_trans rfl k)) (State.setPair_same h (mask_trans rfl k))))

theorem State.mirrorRebuildBoundary_same (h : State.SameOutside m o s) (k : 1224979100825813120 ||| m = m) :
    State.SameOutside m o (State.mirrorRebuildBoundary s b1) := by
  unfold State.mirrorRebuildBoundary
  split
  · rename_i x0 x1 x2 x3 x4 x5
    extract_lets -merge -useContext -underBinder x6 x7
    have h8 : State.SameOutside m o x6 := (State.setPair_same h (mask_trans rfl k))
    have h9 : State.SameOutside m o x7 := (State.SameOutside.foldl h8 (fun a12 s10 h11 => (State.SameOutside.ite (State.setCeiling_same h11 (mask_trans rfl k)) h11)))
    exact (State.SameOutside.ite h (State.effSwitch_same (State.fset_same h9 (mask_trans rfl k) (pageMask_cad (mask_trans rfl k))) (mask_trans rfl k)))
  · rename_i x13 x14
    exact h

theorem State.mirrorListRx_same (h : State.SameOutside m o s) (k : 562952134467584 ||| m = m) :
    State.SameOutside m o (State.mirrorListRx s b1 b2 b3 b4) := by
  unfold State.mirrorListRx
  extract_lets -merge -useContext -underBinder x0 x1
  exact (State.SameOutside.ite h (State.SameOutside.ite (State.clearReady_same h (mask_trans rfl k)) (State.SameOutside.set_diag h (mask_trans rfl k))))

theorem State.splitRx_same (h : State.SameOutside m o s) (k : 36893488149566588932 ||| m = m) :
    State.SameOutside m o (State.splitRx s b1 b2 b3 b4) := by
  unfold State.splitRx
  extract_lets -merge -useContext -underBinder x0
  exact (State.SameOutside.ite h (State.SameOutside.ite (State.setDud_same h (mask_trans rfl k)) (State.SameOutside.ite (State.claimStart_same h (mask_trans rfl k)) h)))

theorem State.diagRespRx_same (h : State.SameOutside m o s) (k : 73786975197527473124 ||| m = m) :
    State.SameOutside m o (State.diagRespRx s b1 b2 b3 b4) := by
  unfold State.diagRespRx
  exact (State.SameOutside.ite (State.diagTake_same h (mask_trans rfl k)) h)

theorem State.takeCause_same (h : State.SameOutside m o s) (k : 562952134459392 ||| m = m) :
    State.SameOutside m o (State.takeCause s b1) := by
  unfold State.takeCause
  exact (State.SameOutside.ite h (State.SameOutside.ite (State.evt_same h (mask_trans rfl k) (pageMask_pair (mask_trans rfl k))) (State.SameOutside.ite h (State.setPair_same h (mask_trans rfl k)))))

theorem State.yieldRx_same (h : State.SameOutside m o s) (k : 562952134459392 ||| m = m) :
    State.SameOutside m o (State.yieldRx s b1) := by
  unfold State.yieldRx
  exact (State.takeCause_same h (mask_trans rfl k))

theorem State.takenRx_same (h : State.SameOutside m o s) (k : 36894054398088452224 ||| m = m) :
    State.SameOutside m o (State.takenRx s) := by
  unfold State.takenRx
  exact (State.demote_same h (mask_trans rfl k))

theorem State.heartbeatMiss_same (h : State.SameOutside m o s) (k : 562952134459522 ||| m = m) :
    State.SameOutside m o (State.heartbeatMiss s) := by
  unfold State.heartbeatMiss
  split
  · rename_i x0 x1
    exact h
  · rename_i x2 x3 x4
    extract_lets -merge -useContext -underBinder x5 x6 x7
    have h8 : State.SameOutside m o x5 := (State.advanceTo_same h (mask_trans rfl k))
    have h9 : State.SameOutside m o x6 := (State.setPair_same h8 (mask_trans rfl k))
    have h10 : State.SameOutside m o x7 := (State.evt_same (State.finc_same h9 (mask_trans rfl k) (pageMask_pair (mask_trans rfl k))) (mask_trans rfl k) (pageMask_pair (mask_trans rfl k)))
    exact (State.SameOutside.ite (State.SameOutside.ite (State.takeCause_same h10 (mask_trans rfl k)) (State.clearReady_same h10 (mask_trans rfl k))) h10)

theorem State.adoptCommits_same (h : State.SameOutside m o s) (k : 73786975199655100416 ||| m = m) :
    State.SameOutside m o (State.adoptCommits s) := by
  unfold State.adoptCommits
  extract_lets -merge -useContext -underBinder x0 x1 x2
  have h3 : State.SameOutside m o x2 := (State.SameOutside.foldl h (fun a6 s4 h5 => (by
    extract_lets -merge -useContext -underBinder x7 x8
    have h9 : State.SameOutside m o x7 := (State.capture_same (State.withEntries_same h5 (mask_trans rfl k) (pageMask_any _ (mask_trans rfl k))) (mask_trans rfl k) (pageMask_any _ (mask_trans rfl k)))
    exact (State.setMirrorPend_same (State.setHdr_same h9 (mask_trans rfl k) (pageMask_any _ (mask_trans rfl k))) (mask_trans rfl k)))))
  split
  · rename_i x10 x11
    exact h3
  · rename_i x12 x13 x14 x15
    extract_lets -merge -useContext -underBinder x16
    subst x16
    exact (State.SameOutside.ite h3 (State.SameOutside.upd_group h3 (mask_trans rfl k)))

theorem State.adoptedBoundary_same (h : State.SameOutside m o s) (k : 73786975197595188220 ||| m = m) :
    State.SameOutside m o (State.adoptedBoundary s b1) := by
  unfold State.adoptedBoundary
  exact (State.SameOutside.ite (State.SameOutside.foldl h (fun a2 s0 h1 => (State.SameOutside.ite (State.mirrorApply_same (State.setMirrorPend_same h1 (mask_trans rfl k)) (mask_trans rfl k) (pageMask_any _ (mask_trans rfl k))) h1))) h)

theorem State.takeover_same (h : State.SameOutside m o s) (k : 73786975201802586116 ||| m = m) :
    State.SameOutside m o (State.takeover s b1) := by
  unfold State.takeover
  split
  · rename_i x0 x1
    exact h
  · rename_i x2 x3 x4
    extract_lets -merge -useContext -underBinder x5 x6 x7 x8 x9 x10 x11 x12 x13
    have h14 : State.SameOutside m o x5 := (State.setPair_same h (mask_trans rfl k))
    have h15 : State.SameOutside m o x7 := (State.adoptCommits_same (State.pairUnlock_same h14 (mask_trans rfl k)) (mask_trans rfl k))
    have h16 : State.SameOutside m o x8 := (State.setPair_same h15 (mask_trans rfl k))
    have h17 : State.SameOutside m o x9 := (State.fset_same h16 (mask_trans rfl k) (pageMask_pair (mask_trans rfl k)))
    have h18 : State.SameOutside m o x10 := (State.SameOutside.foldl h17 (fun a21 s19 h20 => (State.SameOutside.ite (State.startPhase_same (State.fset_same h20 (mask_trans rfl k) (pageMask_dud _ (mask_trans rfl k))) (mask_trans rfl k)) (State.fset_same h20 (mask_trans rfl k) (pageMask_dud _ (mask_trans rfl k))))))
    have h22 : State.SameOutside m o x11 := (State.SameOutside.foldl h18 (fun a25 s23 h24 => (State.SameOutside.ite h24 (State.startPhase_same h24 (mask_trans rfl k)))))
    have h26 : State.SameOutside m o x12 := (State.mirror_same (State.setPairState_same h22 (mask_trans rfl k)) (mask_trans rfl k))
    have h27 : State.SameOutside m o x13 := (State.fset_same (State.fset_same (State.fset_same h26 (mask_trans rfl k) (pageMask_pair (mask_trans rfl k))) (mask_trans rfl k) (pageMask_pair (mask_trans rfl k))) (mask_trans rfl k) (pageMask_pair (mask_trans rfl k)))
    exact (State.SameOutside.ite h (State.SameOutside.ite h14 (State.evt_same (State.finc_same h27 (mask_trans rfl k) (pageMask_pair (mask_trans rfl k))) (mask_trans rfl k) (pageMask_pair (mask_trans rfl k)))))

theorem State.enterShadow_same (h : State.SameOutside m o s) (k : 73786975197474068608 ||| m = m) :
    State.SameOutside m o (State.enterShadow s) := by
  unfold State.enterShadow
  extract_lets -merge -useContext -underBinder x0 x1 x2
  have h3 : State.SameOutside m o x0 := (State.SameOutside.foldl h (fun a6 s4 h5 => (State.disown_same h5 (mask_trans rfl k))))
  have h7 : State.SameOutside m o x2 := (State.SameOutside.set_gaf h3 (mask_trans rfl k))
  exact (State.pairLock_same (State.setPairState_same (State.fset_same h7 (mask_trans rfl k) (pageMask_pair (mask_trans rfl k))) (mask_trans rfl k)) (mask_trans rfl k))

theorem State.switchoverSlot_same (h : State.SameOutside m o s) (k : 73786975197507623040 ||| m = m) :
    State.SameOutside m o (State.switchoverSlot s) := by
  unfold State.switchoverSlot
  split
  · rename_i x0 x1
    exact h
  · rename_i x2 x3 x4
    exact (State.SameOutside.ite (State.cmdDone_same (State.setPair_same h (mask_trans rfl k)) (mask_trans rfl k) (pageMask_pair (mask_trans rfl k))) (State.SameOutside.ite (State.cmdDone_same (State.setPair_same (State.enterShadow_same h (mask_trans rfl k)) (mask_trans rfl k)) (mask_trans rfl k) (pageMask_pair (mask_trans rfl k))) (State.SameOutside.ite (State.mirror_same (State.setPair_same h (mask_trans rfl k)) (mask_trans rfl k)) h)))

theorem State.pairSlot_same (h : State.SameOutside m o s) (k : 73786975201802590342 ||| m = m) :
    State.SameOutside m o (State.pairSlot s b1) := by
  unfold State.pairSlot
  extract_lets -merge -useContext -underBinder x0 x1 x2
  have h3 : State.SameOutside m o x0 := by
    unfold x0
    split
    · rename_i x4 x5 x6
      exact (State.SameOutside.ite (State.heartbeatMiss_same h (mask_trans rfl k)) h)
    · rename_i x7 x8
      exact h
  have h9 : State.SameOutside m o x1 := (State.heartbeat_same (State.switchoverSlot_same (State.takeover_same h3 (mask_trans rfl k)) (mask_trans rfl k)) (mask_trans rfl k))
  exact (State.SameOutside.ite h9 (State.setPair_same h9 (mask_trans rfl k)))

theorem State.resyncStart_same (h : State.SameOutside m o s) (k : 562952134459392 ||| m = m) :
    State.SameOutside m o (State.resyncStart s) := by
  unfold State.resyncStart
  extract_lets -merge -useContext -underBinder x0 x1 x2 x3 x4
  have h5 : State.SameOutside m o x0 := (State.mirror_same (State.fset_same (State.fset_same h (mask_trans rfl k) (pageMask_pair (mask_trans rfl k))) (mask_trans rfl k) (pageMask_pair (mask_trans rfl k))) (mask_trans rfl k))
  have h6 : State.SameOutside m o x1 := (State.SameOutside.foldl h5 (fun a9 s7 h8 => (State.mirror_same h8 (mask_trans rfl k))))
  have h10 : State.SameOutside m o x3 := (State.SameOutside.ite (State.mirror_same h6 (mask_trans rfl k)) h6)
  have h11 : State.SameOutside m o x4 := (State.SameOutside.foldl h10 (fun a14 s12 h13 => (State.mirror_same h13 (mask_trans rfl k))))
  exact (State.setPair_same h11 (mask_trans rfl k))

theorem State.resyncCopyDone_same (h : State.SameOutside m o s) (k : 562952134459392 ||| m = m) :
    State.SameOutside m o (State.resyncCopyDone s) := by
  unfold State.resyncCopyDone
  extract_lets -merge -useContext -underBinder x0 x1 x2
  have h3 : State.SameOutside m o x1 := (State.SameOutside.foldl h (fun a6 s4 h5 => (State.SameOutside.foldl h5 (fun a9 s7 h8 => (by
    extract_lets -merge -useContext -underBinder x10
    exact (State.mirror_same h8 (mask_trans rfl k)))))))
  have h11 : State.SameOutside m o x2 := (State.mirror_same (State.fset_same (State.fset_same h3 (mask_trans rfl k) (pageMask_pair (mask_trans rfl k))) (mask_trans rfl k) (pageMask_pair (mask_trans rfl k))) (mask_trans rfl k))
  exact (State.SameOutside.ite h (State.evt_same (State.finc_same h11 (mask_trans rfl k) (pageMask_pair (mask_trans rfl k))) (mask_trans rfl k) (pageMask_pair (mask_trans rfl k))))

theorem State.resyncRx_same (h : State.SameOutside m o s) (k : 73786975197507618820 ||| m = m) :
    State.SameOutside m o (State.resyncRx s b1) := by
  unfold State.resyncRx
  extract_lets -merge -useContext -underBinder x0 x1 x2
  have h3 : State.SameOutside m o x1 := (State.setPair_same h (mask_trans rfl k))
  have h4 : State.SameOutside m o x2 := (State.pairLock_same (State.setPairState_same (State.fset_same h3 (mask_trans rfl k) (pageMask_pair (mask_trans rfl k))) (mask_trans rfl k)) (mask_trans rfl k))
  exact (State.SameOutside.ite h (State.SameOutside.ite (State.SameOutside.ite (State.setPair_same h (mask_trans rfl k)) h) (State.SameOutside.ite (State.SameOutside.foldl h4 (fun a7 s5 h6 => (State.queryStart_same h6 (mask_trans rfl k)))) h4)))

theorem State.resyncProgress_same (h : State.SameOutside m o s) (k : 562952134459392 ||| m = m) :
    State.SameOutside m o (State.resyncProgress s b1) := by
  unfold State.resyncProgress
  split
  · rename_i x0 x1
    exact h
  · rename_i x2 x3 x4
    extract_lets -merge -useContext -underBinder x5
    have h6 : State.SameOutside m o x5 := (State.setPair_same h (mask_trans rfl k))
    exact (State.SameOutside.ite h (State.SameOutside.ite (State.setPair_same h (mask_trans rfl k)) (State.SameOutside.ite (State.setPair_same h (mask_trans rfl k)) (State.fset_same (State.fset_same (State.setPairState_same h6 (mask_trans rfl k)) (mask_trans rfl k) (pageMask_pair (mask_trans rfl k))) (mask_trans rfl k) (pageMask_pair (mask_trans rfl k))))))

theorem State.resyncByHeartbeat_same (h : State.SameOutside m o s) (k : 562952134459392 ||| m = m) :
    State.SameOutside m o (State.resyncByHeartbeat s b1) := by
  unfold State.resyncByHeartbeat
  exact (State.SameOutside.ite h (State.SameOutside.ite (State.SameOutside.ite (State.resyncStart_same h (mask_trans rfl k)) (State.setPair_same h (mask_trans rfl k))) (State.SameOutside.ite (State.resyncStart_same h (mask_trans rfl k)) h)))

theorem State.heartbeatRx_same (h : State.SameOutside m o s) (k : 562952134461444 ||| m = m) :
    State.SameOutside m o (State.heartbeatRx s b1) := by
  unfold State.heartbeatRx
  extract_lets -merge -useContext -underBinder x0 x1 x2 x3 x4 x5
  have h6 : State.SameOutside m o x0 := (State.setPair_same h (mask_trans rfl k))
  have h7 : State.SameOutside m o x1 := (State.showOffset_same (State.fset_same h6 (mask_trans rfl k) (pageMask_pair (mask_trans rfl k))) (mask_trans rfl k))
  have h8 : State.SameOutside m o x3 := (State.SameOutside.ite (State.clearReady_same h7 (mask_trans rfl k)) h7)
  have h9 : State.SameOutside m o x4 := (State.resyncByHeartbeat_same (State.resyncProgress_same (State.readyCheck_same h8 (mask_trans rfl k)) (mask_trans rfl k)) (mask_trans rfl k))
  have h10 : State.SameOutside m o x5 := (State.SameOutside.ite (State.evt_same h9 (mask_trans rfl k) (pageMask_pair (mask_trans rfl k))) h9)
  exact (State.SameOutside.ite h (State.resolveLinking_same h10 (mask_trans rfl k)))

theorem State.verifyErr_same (h : State.SameOutside m o s) (k : 562952100904960 ||| m = m) :
    State.SameOutside m o (State.verifyErr s) := by
  unfold State.verifyErr
  exact (State.evt_same (State.finc_same h (mask_trans rfl k) (pageMask_pair (mask_trans rfl k))) (mask_trans rfl k) (pageMask_pair (mask_trans rfl k)))

theorem State.tailPacket_same (h : State.SameOutside m o s) (k : 562952134461440 ||| m = m) :
    State.SameOutside m o (State.tailPacket s b1 b2 b3) := by
  unfold State.tailPacket
  extract_lets -merge -useContext -underBinder x0 x1 x2 x3 x4
  have h5 : State.SameOutside m o x1 := (State.setDud_same h (mask_trans rfl k))
  have h6 : State.SameOutside m o x2 := by
    unfold x2
    split
    · rename_i x7 x8 x9
      exact (State.SameOutside.ite h5 (State.verifyErr_same h5 (mask_trans rfl k)))
    · rename_i x10 x11
      exact h5
  exact (State.SameOutside.ite h (State.SameOutside.ite h5 (State.SameOutside.ite (State.verifyErr_same h5 (mask_trans rfl k)) (State.SameOutside.ite (State.SameOutside.foldl h6 (fun a14 s12 h13 => (State.setPair_same h13 (mask_trans rfl k)))) h6))))

theorem State.tailBoundary_same (h : State.SameOutside m o s) (k : 562952134459392 ||| m = m) :
    State.SameOutside m o (State.tailBoundary s) := by
  unfold State.tailBoundary
  extract_lets -merge -useContext -underBinder x0 x1
  have h2 : State.SameOutside m o x1 := (State.SameOutside.ite (State.SameOutside.foldl h (fun a5 s3 h4 => (State.SameOutside.ite (State.SameOutside.foldl h4 (fun a8 s6 h7 => (State.SameOutside.ite h7 (State.verifyErr_same h7 (mask_trans rfl k))))) h4))) h)
  exact (State.setPair_same h2 (mask_trans rfl k))

end Sys2Proof.Machine
end

