-- ==== Sys2Proof/Laws/Frame/Cmd.lean ====
section
/-! SUPPORT. What every command leaves alone: one lemma for each function of Machine/Cmd.lean that changes the state. -/

namespace Sys2Proof.Machine

variable {o s : State} {m : Nat}

theorem State.laneCmd_same (h : State.SameOutside m o s) (k : 73786975197475635320 ||| m = m) :
    State.SameOutside m o (State.laneCmd s b1 b2 b3) := by
  unfold State.laneCmd
  extract_lets -merge -useContext -underBinder x0 x1 x2
  exact (State.SameOutside.ite (State.cmdDone_same (State.commandedRestart_same h (mask_trans rfl k)) (mask_trans rfl k) (pageMask_lane _ (mask_trans rfl k))) (State.SameOutside.ite (State.cmdDone_same (State.testEnter_same h (mask_trans rfl k)) (mask_trans rfl k) (pageMask_lane _ (mask_trans rfl k))) (State.SameOutside.ite (State.setLane_same h (mask_trans rfl k)) (State.SameOutside.ite (State.cmdDone_same (State.testExit_same h (mask_trans rfl k)) (mask_trans rfl k) (pageMask_lane _ (mask_trans rfl k))) (State.cmdDone_same (State.resetCeiling_same h (mask_trans rfl k)) (mask_trans rfl k) (pageMask_lane _ (mask_trans rfl k)))))))

theorem State.linkCmd_same (h : State.SameOutside m o s) (k : 9223372039069368384 ||| m = m) :
    State.SameOutside m o (State.linkCmd s b1 b2) := by
  unfold State.linkCmd
  extract_lets -merge -useContext -underBinder x0 x1 x2 x3
  have h4 : State.SameOutside m o x2 := (State.SameOutside.ite (State.keyLoad_same h (mask_trans rfl k)) (State.keyClear_same h (mask_trans rfl k)))
  exact (State.SameOutside.ite (State.cmdDone_same (State.SameOutside.set_transport h (mask_trans rfl k)) (mask_trans rfl k) (pageMask_link _ (mask_trans rfl k))) (State.cmdDone_same (State.writeKeys_same h4 (mask_trans rfl k)) (mask_trans rfl k) (pageMask_link _ (mask_trans rfl k))))

theorem State.cadTrigger_same (h : State.SameOutside m o s) (k : 512 ||| m = m) (kf2 : ∀ s, State.SameOutside m o s → State.SameOutside m o (b2 s)) :
    State.SameOutside m o (State.cadTrigger s b1 b2) := by
  unfold State.cadTrigger
  extract_lets -merge -useContext -underBinder x0 x1
  have h2 : State.SameOutside m o x0 := (kf2 _ h)
  exact (State.SameOutside.ite (State.SameOutside.set_cad h2 (mask_trans rfl k)) h2)

theorem State.cadCmd_same (h : State.SameOutside m o s) (k : 75153821298377220 ||| m = m) :
    State.SameOutside m o (State.cadCmd s b1 b2 b3) := by
  unfold State.cadCmd
  extract_lets -merge -useContext -underBinder x0
  exact (State.SameOutside.ite (State.cmdDone_same (State.sealAndPack_same h (mask_trans rfl k)) (mask_trans rfl k) (pageMask_cad (mask_trans rfl k))) (State.SameOutside.ite (by
    try unfold x0
    extract_lets -merge -useContext -underBinder x1
    exact (State.fset_same (State.SameOutside.set_cad h (mask_trans rfl k)) (mask_trans rfl k) (pageMask_cad (mask_trans rfl k)))) (State.SameOutside.ite (State.cadTrigger_same h (mask_trans rfl k) (fun s2 h3 => (State.applyUser_same h3 (mask_trans rfl k)))) (State.SameOutside.ite (by
    try unfold x0
    extract_lets -merge -useContext -underBinder x5
    exact (State.fset_same (State.SameOutside.set_cad h (mask_trans rfl k)) (mask_trans rfl k) (pageMask_cad (mask_trans rfl k)))) (State.SameOutside.ite (State.cmdDone_same (State.cadTrigger_same h (mask_trans rfl k) (fun s6 h7 => (State.periodicTrigger_same h7 (mask_trans rfl k)))) (mask_trans rfl k) (pageMask_cad (mask_trans rfl k))) (State.SameOutside.ite (State.cmdDone_same (State.cadTrigger_same h (mask_trans rfl k) (fun s9 h10 => (State.doseReset_same h10 (mask_trans rfl k)))) (mask_trans rfl k) (pageMask_cad (mask_trans rfl k))) h))))))

theorem State.dudCmd_same (h : State.SameOutside m o s) (k : 36893491448101472388 ||| m = m) :
    State.SameOutside m o (State.dudCmd s b1 b2 b3) := by
  unfold State.dudCmd
  exact (State.SameOutside.ite (State.enumerateStart_same h (mask_trans rfl k)) (State.SameOutside.ite (State.claimStart_same h (mask_trans rfl k)) (State.SameOutside.ite (State.queryStart_same h (mask_trans rfl k)) (State.SameOutside.ite (State.sendConfigStart_same h (mask_trans rfl k)) (State.readmitStart_same h (mask_trans rfl k))))))

theorem State.diagCmd_same (h : State.SameOutside m o s) (k : 73786975197527473124 ||| m = m) :
    State.SameOutside m o (State.diagCmd s b1 b2) := by
  unfold State.diagCmd
  extract_lets -merge -useContext -underBinder x0
  exact (State.SameOutside.ite (State.fset_same (State.SameOutside.set_diag h (mask_trans rfl k)) (mask_trans rfl k) (pageMask_diag (mask_trans rfl k))) (State.SameOutside.ite (State.fset_same h (mask_trans rfl k) (pageMask_diag (mask_trans rfl k))) (State.SameOutside.ite (State.cmdDone_same (State.relearn_same h (mask_trans rfl k)) (mask_trans rfl k) (pageMask_diag (mask_trans rfl k))) (State.cmdDone_same (State.clearVerdict_same h (mask_trans rfl k)) (mask_trans rfl k) (pageMask_diag (mask_trans rfl k))))))

theorem State.memCmd_same (h : State.SameOutside m o s) (k : 2251801961201664 ||| m = m) :
    State.SameOutside m o (State.memCmd s b1 b2) := by
  unfold State.memCmd
  extract_lets -merge -useContext -underBinder x0 x1
  exact (State.SameOutside.ite (State.SameOutside.set_mem h (mask_trans rfl k)) (State.SameOutside.ite (State.fset_same (State.SameOutside.set_mem h (mask_trans rfl k)) (mask_trans rfl k) (pageMask_mem (mask_trans rfl k))) (State.cmdDone_same (State.fset_same h (mask_trans rfl k) (pageMask_mem (mask_trans rfl k))) (mask_trans rfl k) (pageMask_mem (mask_trans rfl k)))))

theorem State.fwCmd_same (h : State.SameOutside m o s) (k : 73786975198399871972 ||| m = m) :
    State.SameOutside m o (State.fwCmd s b1 b2 b3) := by
  unfold State.fwCmd
  extract_lets -merge -useContext -underBinder x0 x1
  exact (State.SameOutside.ite (State.cmdDone_same (State.SameOutside.ite (State.updateStart_same h (mask_trans rfl k)) h) (mask_trans rfl k) (pageMask_fw (mask_trans rfl k))) (State.SameOutside.ite (State.cmdDone_same (State.updateAbort_same h (mask_trans rfl k)) (mask_trans rfl k) (pageMask_fw (mask_trans rfl k))) (State.SameOutside.ite h (State.SameOutside.ite (State.cmdDone_same (State.fwHandover_same h (mask_trans rfl k)) (mask_trans rfl k) (pageMask_fw (mask_trans rfl k))) (State.SameOutside.ite (State.confirm_same h (mask_trans rfl k)) (State.SameOutside.ite (State.cmdDone_same (State.SameOutside.ite (State.svnAdvance_same h (mask_trans rfl k)) h) (mask_trans rfl k) (pageMask_fw (mask_trans rfl k))) (State.SameOutside.ite (State.cmdDone_same (State.revokeKey_same h (mask_trans rfl k)) (mask_trans rfl k) (pageMask_fw (mask_trans rfl k))) (State.ckptNow_same h (mask_trans rfl k)))))))))

theorem State.safCmd_same (h : State.SameOutside m o s) (k : 36893702554403211396 ||| m = m) :
    State.SameOutside m o (State.safCmd s b1 b2) := by
  unfold State.safCmd
  exact (State.cmdDone_same (State.SameOutside.ite (State.clearLockout_same h (mask_trans rfl k)) (State.SameOutside.ite (State.handoverBegin_same h (mask_trans rfl k)) (State.SameOutside.ite (State.handoverHolds_same (State.evalGroups_same (State.closeWindow_same h (mask_trans rfl k)) (mask_trans rfl k)) (mask_trans rfl k)) (State.evalGroups_same (State.trip_same h (mask_trans rfl k)) (mask_trans rfl k))))) (mask_trans rfl k) (pageMask_saf (mask_trans rfl k)))

theorem State.cmdRun_same (h : State.SameOutside m o s) (k : 73786976294838206463 ||| m = m) (kp2 : pageMask b2 ||| m = m) :
    State.SameOutside m o (State.cmdRun s b1 b2 b3 b4) := by
  unfold State.cmdRun
  exact (State.SameOutside.ite (State.cmdDone_same h (mask_trans rfl k) kp2) (State.SameOutside.ite (State.cmdDone_same (State.discardShadow_same h (mask_trans rfl k) kp2) (mask_trans rfl k) kp2) (State.SameOutside.ite (State.cmdDone_same (State.clearCounters_same h (mask_trans rfl k) kp2) (mask_trans rfl k) kp2) (by
    split
    · rename_i x0 x1 x2
      exact (State.SameOutside.ite (State.commandedReset_same (State.cmdDone_same h (mask_trans rfl k) kp2) (mask_trans rfl k)) (State.mgtRestart_same (State.cmdDone_same h (mask_trans rfl k) kp2) (mask_trans rfl k)))
    · rename_i x3 x4 x5
      extract_lets -merge -useContext -underBinder x6
      exact (State.cmdDone_same (State.SameOutside.ite (State.setTime_same h (mask_trans rfl k)) (State.SameOutside.ite (State.SameOutside.set_time h (mask_trans rfl k)) (State.clapRestart_same h (mask_trans rfl k)))) (mask_trans rfl k) kp2)
    · rename_i x7 x8 x9
      exact (State.scalRun_same h (mask_trans rfl k))
    · rename_i x10 x11 x12
      exact (State.safCmd_same h (mask_trans rfl k))
    · rename_i x13 x14 x15
      exact (State.fwCmd_same h (mask_trans rfl k))
    · rename_i x16 x17 x18
      exact (State.SameOutside.ite (State.setPair_same h (mask_trans rfl k)) (State.cmdDone_same (State.resyncStart_same h (mask_trans rfl k)) (mask_trans rfl k) kp2))
    · rename_i x19 x20 x21
      exact (State.memCmd_same h (mask_trans rfl k))
    · rename_i x22 x23 x24
      extract_lets -merge -useContext -underBinder x25
      exact (State.cmdDone_same (State.SameOutside.set_cmp h (mask_trans rfl k)) (mask_trans rfl k) kp2)
    · rename_i x26 x27 x28
      exact (State.SameOutside.ite h (State.cmdDone_same (State.fset_same h (mask_trans rfl k) (pageMask_ovl (mask_trans rfl k))) (mask_trans rfl k) kp2))
    · rename_i x29 x30 x31
      exact (State.fset_same h (mask_trans rfl k) (pageMask_matte (mask_trans rfl k)))
    · rename_i x32 x33 x34
      exact (State.cadCmd_same h (mask_trans rfl k))
    · rename_i x35 x36 x37
      exact (State.readStatus_same h (mask_trans rfl k))
    · rename_i x38 x39 x40
      exact (State.diagCmd_same h (mask_trans rfl k))
    · rename_i x41 x42 x43
      exact (State.SameOutside.ite (State.dailyRead_same h (mask_trans rfl k)) (State.cmdDone_same (State.dailyForm_same h (mask_trans rfl k)) (mask_trans rfl k) kp2))
    · rename_i x44 x45 x46
      exact (State.cmdDone_same (State.SameOutside.ite (State.chkSeal_same h (mask_trans rfl k)) (State.chkRestart_same h (mask_trans rfl k))) (mask_trans rfl k) kp2)
    · rename_i x47 x48 x49
      exact (State.cmdDone_same (State.reelEmpty_same h (mask_trans rfl k)) (mask_trans rfl k) kp2)
    · rename_i x50 x51 x52
      exact (State.linkCmd_same h (mask_trans rfl k))
    · rename_i x53 x54 x55
      exact (State.laneCmd_same h (mask_trans rfl k))
    · rename_i x56 x57 x58
      exact (State.dudCmd_same h (mask_trans rfl k))
    · rename_i x59 x60 x61 x62 x63 x64 x65 x66 x67 x68 x69 x70 x71 x72 x73 x74 x75 x76 x77 x78
      exact (State.cmdDone_same h (mask_trans rfl k) kp2)))))

theorem State.cmdWrite_same (h : State.SameOutside m o s) (k : 73786976294838206463 ||| m = m) (kp2 : pageMask b2 ||| m = m) :
    State.SameOutside m o (State.cmdWrite s b1 b2 b3 b4) := by
  unfold State.cmdWrite
  extract_lets -merge -useContext -underBinder x0
  exact (State.SameOutside.ite (State.evt_same (State.usage_same (State.setHdr_same h (mask_trans rfl k) kp2) (mask_trans rfl k) kp2) (mask_trans rfl k) kp2) (State.SameOutside.ite (State.cmdEnd_same (State.usage_same h (mask_trans rfl k) kp2) (mask_trans rfl k) kp2) (by
    split
    · rename_i x1 x2 x3
      exact (State.cmdEnd_same (State.usage_same h (mask_trans rfl k) kp2) (mask_trans rfl k) kp2)
    · rename_i x4 x5
      exact (State.cmdRun_same (State.cmdStart_same h (mask_trans rfl k) kp2) (mask_trans rfl k) kp2))))

theorem State.mirrorCommandRx_same (h : State.SameOutside m o s) (k : 73786976294838206463 ||| m = m) (kp1 : pageMask b1 ||| m = m) :
    State.SameOutside m o (State.mirrorCommandRx s b1 b2 b3) := by
  unfold State.mirrorCommandRx
  extract_lets -merge -useContext -underBinder x0
  have h1 : State.SameOutside m o x0 := (State.cmdWrite_same h (mask_trans rfl k) kp1)
  exact (State.SameOutside.ite (by
    split
    · rename_i x2 x3 x4
      exact (State.SameOutside.ite (State.setPair_same h1 (mask_trans rfl k)) (State.clearReady_same h1 (mask_trans rfl k)))
    · rename_i x5 x6
      exact (State.clearReady_same h1 (mask_trans rfl k))) h)

theorem State.verifyEnd_same (h : State.SameOutside m o s) (k : 36591749153424384 ||| m = m) :
    State.SameOutside m o (State.verifyEnd s) := by
  unfold State.verifyEnd
  extract_lets -merge -useContext -underBinder x0 x1 x2
  have h3 : State.SameOutside m o x1 := (State.verifyDone_same h (mask_trans rfl k))
  have h4 : State.SameOutside m o x2 := (State.setPair_same h3 (mask_trans rfl k))
  exact (State.SameOutside.ite (State.SameOutside.ite h4 (State.clearReady_same h4 (mask_trans rfl k))) h3)

end Sys2Proof.Machine
end

