-- ==== Sys2Proof/Laws/Frame/Bus.lean ====
section
/-! SUPPORT. What every command leaves alone: one lemma for each function of Machine/Bus.lean that changes the state. -/

namespace Sys2Proof.Machine

variable {o s : State} {m : Nat}

theorem State.readHeader_same (h : State.SameOutside m o s) (k : 0 ||| m = m) (kp1 : pageMask b1 ||| m = m) :
    State.SameOutside m o (State.readHeader s b1 b2 b3).2 := by
  unfold State.readHeader
  extract_lets -merge -useContext -underBinder x0
  exact (State.SameOutside.pr2 (State.SameOutside.ite (State.setHdr_same h (mask_trans rfl k) kp1) h))

theorem State.readBlock_same (h : State.SameOutside m o s) (k : 73786975197527456740 ||| m = m) (ka1 : pageMask (b1 / 0x1000) ||| m = m) :
    State.SameOutside m o (State.readBlock s b1 b2).2 := by
  unfold State.readBlock
  split
  · rename_i x0 x1 x2
    exact (State.SameOutside.ite2 (State.SameOutside.pr2 (State.readNow_same h (mask_trans rfl k))) (State.SameOutside.pr2 (State.setWord_same h (mask_trans rfl k) ka1)))
  · rename_i x3 x4 x5
    exact (State.SameOutside.ite2 (State.SameOutside.pr2 (State.libRead_same h (mask_trans rfl k))) (State.SameOutside.pr2 (State.setWord_same h (mask_trans rfl k) ka1)))
  · rename_i x6 x7 x8
    exact (State.SameOutside.ite2 (State.SameOutside.pr2 (State.reelRead_same h (mask_trans rfl k))) (State.SameOutside.pr2 (State.setWord_same h (mask_trans rfl k) ka1)))
  · rename_i x9 x10 x11 x12
    exact (State.SameOutside.pr2 (State.setWord_same h (mask_trans rfl k) ka1))

theorem State.lockWrite_same (h : State.SameOutside m o s) (k : 2147483648 ||| m = m) (kp2 : pageMask b2 ||| m = m) :
    State.SameOutside m o (State.lockWrite s b1 b2 b3) := by
  unfold State.lockWrite
  extract_lets -merge -useContext -underBinder x0 x1
  exact (State.SameOutside.ite (State.breakLock_same h (mask_trans rfl k) kp2) (State.SameOutside.ite (State.SameOutside.ite h (State.setHdr_same h (mask_trans rfl k) kp2)) (State.SameOutside.ite (State.SameOutside.ite (State.setHdr_same h (mask_trans rfl k) kp2) (State.setHdr_same h (mask_trans rfl k) kp2)) h)))

theorem State.commitWrite_same (h : State.SameOutside m o s) (k : 73786975197595188220 ||| m = m) (kp2 : pageMask b2 ||| m = m) :
    State.SameOutside m o (State.commitWrite s b1 b2 b3) := by
  unfold State.commitWrite
  extract_lets -merge -useContext -underBinder x0
  exact (State.SameOutside.ite (State.commitGo_same (State.SameOutside.ite (State.setHdr_same h (mask_trans rfl k) kp2) h) (mask_trans rfl k) kp2) h)

theorem State.evtClear_same (h : State.SameOutside m o s) (k : 2147483648 ||| m = m) (kp1 : pageMask b1 ||| m = m) :
    State.SameOutside m o (State.evtClear s b1 b2) := by
  unfold State.evtClear
  extract_lets -merge -useContext -underBinder x0
  exact (State.setEvtRegs_same h (mask_trans rfl k) kp1)

theorem State.evtForce_same (h : State.SameOutside m o s) (k : 2147483648 ||| m = m) (kp1 : pageMask b1 ||| m = m) :
    State.SameOutside m o (State.evtForce s b1 b2) := by
  unfold State.evtForce
  exact (State.evts_same h (mask_trans rfl k) kp1)

theorem State.evtEnable_same (h : State.SameOutside m o s) (k : 2147483648 ||| m = m) (kp1 : pageMask b1 ||| m = m) :
    State.SameOutside m o (State.evtEnable s b1 b2) := by
  unfold State.evtEnable
  extract_lets -merge -useContext -underBinder x0
  exact (State.setEvtRegs_same h (mask_trans rfl k) kp1)

theorem State.snapTake_same (h : State.SameOutside m o s) (k : 0 ||| m = m) (kp1 : pageMask b1 ||| m = m) :
    State.SameOutside m o (State.snapTake s b1 b2) := by
  unfold State.snapTake
  extract_lets -merge -useContext -underBinder x0
  exact (State.SameOutside.ite (State.setHdr_same h (mask_trans rfl k) kp1) h)

theorem State.writeHeader_same (h : State.SameOutside m o s) (k : 73786976294838206463 ||| m = m) (kp2 : pageMask b2 ||| m = m) :
    State.SameOutside m o (State.writeHeader s b1 b2 b3 b4).2 := by
  unfold State.writeHeader
  extract_lets -merge -useContext -underBinder x0 x1
  exact (State.SameOutside.ite2 (State.SameOutside.pr2 h) (by
    split
    · rename_i x2
      extract_lets -merge -useContext -underBinder x3
      exact (State.SameOutside.pr2 (State.setHdr_same h (mask_trans rfl k) kp2))
    · rename_i x4
      exact (State.SameOutside.pr2 (State.evtClear_same h (mask_trans rfl k) kp2))
    · rename_i x5
      exact (State.SameOutside.pr2 (State.evtEnable_same h (mask_trans rfl k) kp2))
    · rename_i x6
      exact (State.SameOutside.pr2 (State.evtForce_same h (mask_trans rfl k) kp2))
    · rename_i x7
      exact (State.SameOutside.ite2 (State.SameOutside.pr2 h) (State.SameOutside.ite2 (State.SameOutside.pr2 h) (State.SameOutside.pr2 (State.cmdWrite_same h (mask_trans rfl k) kp2))))
    · rename_i x8
      exact (State.SameOutside.ite2 (State.SameOutside.pr2 h) (State.SameOutside.pr2 (State.lockWrite_same h (mask_trans rfl k) kp2)))
    · rename_i x9
      exact (State.SameOutside.pr2 (State.commitWrite_same h (mask_trans rfl k) kp2))
    · rename_i x10
      exact (State.SameOutside.pr2 (State.snapTake_same h (mask_trans rfl k) kp2))
    · rename_i x11 x12 x13 x14 x15 x16 x17 x18 x19
      exact (State.SameOutside.pr2 h)))

theorem State.storeBlock_same (h : State.SameOutside m o s) (k : 0 ||| m = m) (ka1 : pageMask (b1 / 0x1000) ||| m = m) :
    State.SameOutside m o (State.storeBlock s b1 b2 b3) := by
  unfold State.storeBlock
  extract_lets -merge -useContext -underBinder x0 x1 x2 x3 x4 x5 x6 x7 x8 x9
  have h10 : State.SameOutside m o x7 := (State.setWord_same h (mask_trans rfl k) ka1)
  have h11 : State.SameOutside m o x8 := (State.setShadow_same h10 (mask_trans rfl k) ka1)
  exact (State.SameOutside.ite h10 (State.setHdr_same h11 (mask_trans rfl k) ka1))

theorem State.groupWrite_same (h : State.SameOutside m o s) (k : 73786975201890155516 ||| m = m) :
    State.SameOutside m o (State.groupWrite s b1 b2) := by
  unfold State.groupWrite
  exact (State.SameOutside.ite (State.SameOutside.ite (State.groupSnapshot_same h (mask_trans rfl k)) (State.groupGo_same h (mask_trans rfl k))) h)

theorem State.benchCtl_same (h : State.SameOutside m o s) (k : 5188499716718460932 ||| m = m) :
    State.SameOutside m o (State.benchCtl s b1) := by
  unfold State.benchCtl
  extract_lets -merge -useContext -underBinder x0 x1
  have h2 : State.SameOutside m o x1 := (State.fset_same h (mask_trans rfl k) (pageMask_sys (mask_trans rfl k)))
  exact (State.SameOutside.ite (State.benchStart_same h2 (mask_trans rfl k)) h2)

theorem State.benchWord_same (h : State.SameOutside m o s) (k : 1100048498688 ||| m = m) :
    State.SameOutside m o (State.benchWord s b1) := by
  unfold State.benchWord
  exact (State.SameOutside.ite (State.benchData_same h (mask_trans rfl k)) h)

theorem State.reelReadOp_same (h : State.SameOutside m o s) (k : 4611686020576444416 ||| m = m) :
    State.SameOutside m o (State.reelReadOp s b1 b2) := by
  unfold State.reelReadOp
  exact (State.SameOutside.ite (State.reelMark_same h (mask_trans rfl k)) (State.SameOutside.ite (State.reelRewindRead_same h (mask_trans rfl k)) (State.reelUnstall_same (State.reelRelease_same h (mask_trans rfl k)) (mask_trans rfl k))))

theorem State.reelRdCtl_same (h : State.SameOutside m o s) (k : 4611686020576444420 ||| m = m) :
    State.SameOutside m o (State.reelRdCtl s b1 b2) := by
  unfold State.reelRdCtl
  extract_lets -merge -useContext -underBinder x0 x1 x2 x3 x4 x5
  subst x1
  exact (State.SameOutside.ite (State.SameOutside.foldl h (fun a8 s6 h7 => (State.reelReadOp_same h7 (mask_trans rfl k)))) (State.SameOutside.foldl (State.fresh_same h (mask_trans rfl k)) (fun a11 s9 h10 => (State.reelReadOp_same h10 (mask_trans rfl k)))))

theorem State.reelWrCtl_same (h : State.SameOutside m o s) (k : 4611686020576444420 ||| m = m) :
    State.SameOutside m o (State.reelWrCtl s b1 b2) := by
  unfold State.reelWrCtl
  split
  · rename_i x0 x1 x2 x3
    exact (State.reelEnd_same h (mask_trans rfl k))
  · rename_i x4 x5 x6 x7
    exact (State.reelAbort_same h (mask_trans rfl k))
  · rename_i x8 x9 x10 x11
    extract_lets -merge -useContext -underBinder x12
    subst x12
    exact (State.SameOutside.ite (State.reelAbort_same (State.reelEnd_same (State.fresh_same h (mask_trans rfl k)) (mask_trans rfl k)) (mask_trans rfl k)) (State.reelEnd_same (State.reelAbort_same (State.fresh_same h (mask_trans rfl k)) (mask_trans rfl k)) (mask_trans rfl k)))
  · rename_i x13 x14 x15 x16
    exact h

theorem State.blockHook_same (h : State.SameOutside m o s) (k : 73786975202439904252 ||| m = m) :
    State.SameOutside m o (State.blockHook s b1 b2 b3 b4) := by
  unfold State.blockHook
  split
  · rename_i x0 x1 x2
    exact (State.SameOutside.ite (State.groupWrite_same h (mask_trans rfl k)) (State.SameOutside.ite (State.benchCtl_same h (mask_trans rfl k)) (State.SameOutside.ite (State.benchWord_same h (mask_trans rfl k)) h)))
  · rename_i x3 x4 x5
    exact (State.SameOutside.ite (State.captAck_same h (mask_trans rfl k)) h)
  · rename_i x6 x7 x8
    exact (State.SameOutside.ite (State.domainReq_same h (mask_trans rfl k)) h)
  · rename_i x9 x10 x11
    exact (State.SameOutside.ite (State.demand_same h (mask_trans rfl k)) h)
  · rename_i x12 x13 x14
    exact (State.SameOutside.ite (State.aliveWrite_same h (mask_trans rfl k)) h)
  · rename_i x15 x16 x17
    exact (State.SameOutside.ite (State.fwAlive_same h (mask_trans rfl k)) h)
  · rename_i x18 x19 x20
    exact (State.SameOutside.ite (State.chkFeed_same h (mask_trans rfl k)) (State.SameOutside.ite (State.chkFeed_same h (mask_trans rfl k)) (State.SameOutside.ite (State.chkFeed_same h (mask_trans rfl k)) h)))
  · rename_i x21 x22 x23
    exact (State.SameOutside.ite (State.reelWord_same h (mask_trans rfl k)) (State.SameOutside.ite (State.reelWrCtl_same h (mask_trans rfl k)) (State.SameOutside.ite (State.reelRdCtl_same h (mask_trans rfl k)) h)))
  · rename_i x24 x25 x26
    exact (State.SameOutside.ite (State.libWrite_same h (mask_trans rfl k)) h)
  · rename_i x27 x28 x29
    exact (State.SameOutside.ite (State.sealWrite_same h (mask_trans rfl k)) h)
  · rename_i x30 x31 x32 x33 x34 x35 x36 x37 x38 x39 x40
    exact h

theorem State.writeBlockReg_same (h : State.SameOutside m o s) (k : 73786975202439904252 ||| m = m) (ka2 : pageMask (b2 / 0x1000) ||| m = m) :
    State.SameOutside m o (State.writeBlockReg s b1 b2 b3 b4).2 := by
  unfold State.writeBlockReg
  extract_lets -merge -useContext -underBinder x0 x1 x2
  have h3 : State.SameOutside m o x2 := (State.SameOutside.ite h (State.storeBlock_same h (mask_trans rfl k) ka2))
  exact (State.SameOutside.ite2 (State.SameOutside.pr2 h) (State.SameOutside.ite2 (State.SameOutside.pr2 h) (State.SameOutside.pr2 (State.blockHook_same h3 (mask_trans rfl k)))))

theorem State.countStatus_same (h : State.SameOutside m o s) (k : 73786975197474062336 ||| m = m) :
    State.SameOutside m o (State.countStatus s b1 b2) := by
  unfold State.countStatus
  extract_lets -merge -useContext -underBinder x0 x1
  exact (State.SameOutside.ite h (State.SameOutside.ite (State.usage_same h (mask_trans rfl k) (pageMask_sys (mask_trans rfl k))) (State.SameOutside.ite h (State.SameOutside.ite h (State.usage_same h (mask_trans rfl k) (pageMask_any _ (mask_trans rfl k)))))))

theorem State.headerAccess_same (h : State.SameOutside m o s) (k : 73786976294838206463 ||| m = m) (kp2 : pageMask b2 ||| m = m) :
    State.SameOutside m o (State.headerAccess s b1 b2 b3 b4).2.2 := by
  unfold State.headerAccess
  split
  · rename_i x0
    exact (State.SameOutside.pr22 h)
  · rename_i x1 x2
    extract_lets -merge -useContext -underBinder x3 x4
    subst x3
    subst x4
    exact (State.SameOutside.ite22 (State.SameOutside.pr22 (State.writeHeader_same h (mask_trans rfl k) kp2)) (State.SameOutside.pr22 (State.readHeader_same h (mask_trans rfl k) kp2)))

theorem State.blockAccess_same (h : State.SameOutside m o s) (k : 73786975202440035324 ||| m = m) (ka2 : pageMask (b2 / 0x1000) ||| m = m) :
    State.SameOutside m o (State.blockAccess s b1 b2 b3).2.2 := by
  unfold State.blockAccess
  split
  · rename_i x0
    exact (State.SameOutside.pr22 h)
  · rename_i x1 x2
    extract_lets -merge -useContext -underBinder x3 x4
    subst x3
    subst x4
    exact (State.SameOutside.ite22 (State.SameOutside.pr22 (State.writeBlockReg_same h (mask_trans rfl k) ka2)) (State.SameOutside.pr22 (State.readBlock_same h (mask_trans rfl k) ka2)))

theorem State.accessAt_same (h : State.SameOutside m o s) (k : 73786976294838206463 ||| m = m) (ka2 : pageMask (b2 / 0x1000) ||| m = m) :
    State.SameOutside m o (State.accessAt s b1 b2).2.2 := by
  unfold State.accessAt
  exact (State.SameOutside.ite22 (State.headerAccess_same h (mask_trans rfl k) ka2) (State.blockAccess_same h (mask_trans rfl k) ka2))

theorem State.accessReg_same (h : State.SameOutside m o s) (k : 73786976294838206463 ||| m = m) :
    State.SameOutside m o (State.accessReg s b1).2.2 := by
  unfold State.accessReg
  exact (State.accessAt_same h (mask_trans rfl k) (pageMask_any _ (mask_trans rfl k)))

theorem State.accessChecked_same (h : State.SameOutside m o s) (k : 73786976294838206463 ||| m = m) :
    State.SameOutside m o (State.accessChecked s b1 b2).2.2 := by
  unfold State.accessChecked
  split
  · rename_i x0 x1
    exact (State.SameOutside.pr22 h)
  · rename_i x2
    exact (State.accessReg_same h (mask_trans rfl k))

theorem State.perform_same (_ : State.SameOutside m o s) (k : fullMask ||| m = m) :
    State.SameOutside m o (State.perform s b1).2.2 :=
  State.SameOutside.any k

end Sys2Proof.Machine
end

