-- ==== Sys2Proof/Laws/Frame/Ctl.lean ====
section
/-! SUPPORT. What every command leaves alone: one lemma for each function of Machine/Ctl.lean that changes the state. -/

namespace Sys2Proof.Machine

variable {o s : State} {m : Nat}

theorem State.ctlResult_same (h : State.SameOutside m o s) (k : 32 ||| m = m) :
    State.SameOutside m o (State.ctlResult s b1 b2 b3) := by
  unfold State.ctlResult
  split
  · rename_i x0 x1
    exact h
  · rename_i x2 x3 x4 x5
    extract_lets -merge -useContext -underBinder x6
    exact (State.setLink_same h (mask_trans rfl k))

theorem State.deliver_same (h : State.SameOutside m o s) (k : 2147483680 ||| m = m) :
    State.SameOutside m o (State.deliver s b1 b2 b3) := by
  unfold State.deliver
  exact (State.SameOutside.ite (State.ctlResult_same h (mask_trans rfl k)) (State.emit_same h (mask_trans rfl k)))

theorem State.dropHeldWrites_same (h : State.SameOutside m o s) (k : 3221225504 ||| m = m) :
    State.SameOutside m o (State.dropHeldWrites s b1) := by
  unfold State.dropHeldWrites
  exact (State.SameOutside.foldl h (fun a2 s0 h1 => (State.deliver_same (State.SameOutside.set_waiting h1 (mask_trans rfl k)) (mask_trans rfl k))))

theorem State.doAccess_same (h : State.SameOutside m o s) (k : 73786976294838206463 ||| m = m) :
    State.SameOutside m o (State.doAccess s b1).2.2 := by
  unfold State.doAccess
  extract_lets -merge -useContext -underBinder x0
  subst x0
  split
  · rename_i x1 x2 x3
    exact (State.SameOutside.pr22 (State.dropHeldWrites_same (State.perform_same h (mask_trans rfl k)) (mask_trans rfl k)))
  · rename_i x4 x5
    exact (State.perform_same h (mask_trans rfl k))

theorem State.ctlFinish_same (h : State.SameOutside m o s) (k : 2147483680 ||| m = m) :
    State.SameOutside m o (State.ctlFinish s b1 b2 b3) := by
  unfold State.ctlFinish
  extract_lets -merge -useContext -underBinder x0 x1 x2
  have h3 : State.SameOutside m o x2 := (State.setLink_same h (mask_trans rfl k))
  exact (State.SameOutside.ite h3 (State.emit_same h3 (mask_trans rfl k)))

theorem State.ctlDrive_same (_ : State.SameOutside m o s) (k : fullMask ||| m = m) :
    State.SameOutside m o (State.ctlDrive b0 b1 s) :=
  State.SameOutside.any k

theorem State.ctlRun_same (h : State.SameOutside m o s) (k : 73786976294838206463 ||| m = m) :
    State.SameOutside m o (State.ctlRun s b1) := by
  unfold State.ctlRun
  exact (State.ctlDrive_same h (mask_trans rfl k))

theorem State.resumeN_same (_ : State.SameOutside m o s) (k : fullMask ||| m = m) :
    State.SameOutside m o (State.resumeN b0 s) :=
  State.SameOutside.any k

theorem State.resume_same (h : State.SameOutside m o s) (k : 73786976294838206463 ||| m = m) :
    State.SameOutside m o (State.resume s) := by
  unfold State.resume
  extract_lets -merge -useContext -underBinder x0
  exact (State.SameOutside.foldl (State.resumeN_same h (mask_trans rfl k)) (fun a3 s1 h2 => (State.ctlRun_same h2 (mask_trans rfl k))))

theorem State.issue_same (h : State.SameOutside m o s) (k : 73786976294838206463 ||| m = m) :
    State.SameOutside m o (State.issue s b1 b2 b3 b4) := by
  unfold State.issue
  extract_lets -merge -useContext -underBinder x0 x1 x2
  subst x1
  have h3 : State.SameOutside m o x2 := (State.deliver_same (State.doAccess_same h (mask_trans rfl k)) (mask_trans rfl k))
  exact (State.SameOutside.ite (State.SameOutside.set_waiting h (mask_trans rfl k)) (State.SameOutside.ite (State.resume_same h3 (mask_trans rfl k)) h3))

theorem State.writeReg_same (h : State.SameOutside m o s) (k : 73786976294838206463 ||| m = m) :
    State.SameOutside m o (State.writeReg s b1 b2 b3 b4) := by
  unfold State.writeReg
  exact (State.issue_same h (mask_trans rfl k))

theorem State.readReg_same (h : State.SameOutside m o s) (k : 73786976294838206463 ||| m = m) :
    State.SameOutside m o (State.readReg s b1 b2 b3) := by
  unfold State.readReg
  exact (State.issue_same h (mask_trans rfl k))

theorem State.command_same (h : State.SameOutside m o s) (k : 73786976294838206463 ||| m = m) :
    State.SameOutside m o (State.command s b1 b2 b3 b4) := by
  unfold State.command
  exact (State.writeReg_same h (mask_trans rfl k))

theorem State.reelResume_same (h : State.SameOutside m o s) (k : 73786976294838206463 ||| m = m) :
    State.SameOutside m o (State.reelResume s b1) := by
  unfold State.reelResume
  exact (State.resume_same (State.reelUnstall_same h (mask_trans rfl k)) (mask_trans rfl k))

theorem State.reelFault_same (h : State.SameOutside m o s) (k : 73786976294838206463 ||| m = m) :
    State.SameOutside m o (State.reelFault s b1) := by
  unfold State.reelFault
  exact (State.resume_same (State.dropHeldWrites_same (State.reelPtrReset_same h (mask_trans rfl k)) (mask_trans rfl k)) (mask_trans rfl k))

theorem State.replayExpiry_same (h : State.SameOutside m o s) (k : 162 ||| m = m) :
    State.SameOutside m o (State.replayExpiry s b1) := by
  unfold State.replayExpiry
  split
  · rename_i x0 x1
    exact h
  · rename_i x2 x3 x4 x5
    extract_lets -merge -useContext -underBinder x6 x7
    have h8 : State.SameOutside m o x6 := (State.advanceTo_same h (mask_trans rfl k))
    exact (State.setLink_same h8 (mask_trans rfl k))

theorem State.ctlMailbox_same (h : State.SameOutside m o s) (k : 4611686020576444448 ||| m = m) :
    State.SameOutside m o (State.ctlMailbox s b1 b2 b3) := by
  unfold State.ctlMailbox
  extract_lets -merge -useContext -underBinder x0 x1 x2 x3
  have h4 : State.SameOutside m o x2 := (State.SameOutside.ite (State.reelPacket_same h (mask_trans rfl k)) h)
  exact (State.setLink_same h4 (mask_trans rfl k))

theorem State.ctlAccept_same (h : State.SameOutside m o s) (k : 73786976294838206463 ||| m = m) :
    State.SameOutside m o (State.ctlAccept s b1 b2 b3) := by
  unfold State.ctlAccept
  extract_lets -merge -useContext -underBinder x0 x1 x2 x3 x4 x5 x6
  have h7 : State.SameOutside m o x3 := (State.setLink_same h (mask_trans rfl k))
  have h8 : State.SameOutside m o x6 := (State.SameOutside.ite (State.ctlMailbox_same h7 (mask_trans rfl k)) (State.setLink_same h7 (mask_trans rfl k)))
  exact (State.ctlRun_same h8 (mask_trans rfl k))

theorem State.ctlTake_same (h : State.SameOutside m o s) (k : 73786976294838206463 ||| m = m) :
    State.SameOutside m o (State.ctlTake s b1 b2 b3) := by
  unfold State.ctlTake
  extract_lets -merge -useContext -underBinder x0 x1 x2 x3
  have h4 : State.SameOutside m o x3 := (State.setLink_same h (mask_trans rfl k))
  exact (State.SameOutside.ite (State.emit_same (State.finc_same h (mask_trans rfl k) (pageMask_link _ (mask_trans rfl k))) (mask_trans rfl k)) (by
    split
    · rename_i x5 x6 x7
      extract_lets -merge -useContext -underBinder x8
      have h9 : State.SameOutside m o x8 := (State.finc_same h4 (mask_trans rfl k) (pageMask_link _ (mask_trans rfl k)))
      exact (State.SameOutside.ite h9 (State.emit_same h9 (mask_trans rfl k)))
    · rename_i x10 x11
      exact (State.ctlAccept_same h4 (mask_trans rfl k))))

theorem State.ctlDrop_same (h : State.SameOutside m o s) (k : 9223372039002259456 ||| m = m) :
    State.SameOutside m o (State.ctlDrop s b1 b2) := by
  unfold State.ctlDrop
  exact (State.evt_same (State.finc_same h (mask_trans rfl k) (pageMask_link _ (mask_trans rfl k))) (mask_trans rfl k) (pageMask_link _ (mask_trans rfl k)))

theorem State.ctlRx_same (h : State.SameOutside m o s) (k : 73786976294838206463 ||| m = m) :
    State.SameOutside m o (State.ctlRx s b1 b2) := by
  unfold State.ctlRx
  extract_lets -merge -useContext -underBinder x0 x1 x2 x3 x4 x5
  subst x0
  have h6 : State.SameOutside m o x2 := (State.checkCells_same h (mask_trans rfl k))
  have h7 : State.SameOutside m o x4 := (State.SameOutside.foldl h6 (fun a10 s8 h9 => (State.SameOutside.foldl h9 (fun a13 s11 h12 => (State.emit_same h12 (mask_trans rfl k))))))
  have h14 : State.SameOutside m o x5 := (State.unrouted_same h7 (mask_trans rfl k))
  exact (State.SameOutside.ite h (State.SameOutside.ite (State.wrongType_same h6 (mask_trans rfl k)) (State.SameOutside.ite h6 (State.SameOutside.ite h14 (State.SameOutside.ite (State.ctlDrop_same h14 (mask_trans rfl k)) (State.SameOutside.ite (State.ctlDrop_same h14 (mask_trans rfl k)) (by
    split
    · rename_i x15 x16
      exact (State.ctlDrop_same h14 (mask_trans rfl k))
    · rename_i x17 x18 x19
      exact (State.ctlTake_same h14 (mask_trans rfl k)))))))))

end Sys2Proof.Machine
end

