-- ==== Sys2Proof/Laws/Frame/Boundary.lean ====
section
/-! SUPPORT. What every command leaves alone: one lemma for each function of Machine/Boundary.lean that changes the state. -/

namespace Sys2Proof.Machine

variable {o s : State} {m : Nat}

theorem State.underrunEvent_same (h : State.SameOutside m o s) (k : 2201170739200 ||| m = m) :
    State.SameOutside m o (State.underrunEvent s) := by
  unfold State.underrunEvent
  exact (State.SameOutside.ite (State.evt_same (State.finc_same h (mask_trans rfl k) (pageMask_time (mask_trans rfl k))) (mask_trans rfl k) (pageMask_time (mask_trans rfl k))) h)

theorem State.endFrame_same (h : State.SameOutside m o s) (k : 73786975197527474148 ||| m = m) :
    State.SameOutside m o (State.endFrame s b1 b2) := by
  unfold State.endFrame
  extract_lets -merge -useContext -underBinder x0 x1 x2 x3 x4 x5 x6
  have h7 : State.SameOutside m o x1 := (State.SameOutside.set_cmp h (mask_trans rfl k))
  have h8 : State.SameOutside m o x2 := (State.dropFrameCapture_same (State.keepLast_same (State.monitorFrame_same (State.underrunEvent_same (State.countUnderrun_same h7 (mask_trans rfl k)) (mask_trans rfl k)) (mask_trans rfl k)) (mask_trans rfl k)) (mask_trans rfl k))
  have h9 : State.SameOutside m o x4 := (State.SameOutside.ite h8 (State.SameOutside.set_cad h8 (mask_trans rfl k)))
  have h10 : State.SameOutside m o x5 := (State.keepMatte_same (State.borrowBoundary_same (State.doseBoundary_same h9 (mask_trans rfl k)) (mask_trans rfl k)) (mask_trans rfl k))
  exact (State.SameOutside.set_time h10 (mask_trans rfl k))

theorem State.commitsAt_same (h : State.SameOutside m o s) (k : 73786975201890155516 ||| m = m) :
    State.SameOutside m o (State.commitsAt s b1) := by
  unfold State.commitsAt
  exact (State.mirrorBoundary_same (State.adoptedBoundary_same (State.boundaryCommits_same h (mask_trans rfl k)) (mask_trans rfl k)) (mask_trans rfl k))

theorem State.permitBoundary_same (h : State.SameOutside m o s) (k : 2097152 ||| m = m) :
    State.SameOutside m o (State.permitBoundary s) := by
  unfold State.permitBoundary
  extract_lets -merge -useContext -underBinder x0
  subst x0
  exact (State.SameOutside.set_safe h (mask_trans rfl k))

theorem State.composeBoundary_same (h : State.SameOutside m o s) (k : 13510798882111744 ||| m = m) :
    State.SameOutside m o (State.composeBoundary s) := by
  unfold State.composeBoundary
  extract_lets -merge -useContext -underBinder x0 x1 x2 x3 x4
  have h5 : State.SameOutside m o x1 := (State.SameOutside.ite (State.setReadRate_same (State.selectWindows_same h (mask_trans rfl k)) (mask_trans rfl k)) h)
  have h6 : State.SameOutside m o x4 := (State.SameOutside.set_cmp h5 (mask_trans rfl k))
  exact (State.SameOutside.ite h6 (State.startCapture_same h6 (mask_trans rfl k)))

theorem State.tileBoundary_same (h : State.SameOutside m o s) (k : 2560 ||| m = m) :
    State.SameOutside m o (State.tileBoundary s b1 b2) := by
  unfold State.tileBoundary
  extract_lets -merge -useContext -underBinder x0 x1 x2 x3
  have h4 : State.SameOutside m o x2 := (State.SameOutside.foldl h (fun a7 s5 h6 => (by
    extract_lets -merge -useContext -underBinder x8
    exact (State.SameOutside.ite (State.setDud_same h6 (mask_trans rfl k)) h6))))
  exact (State.SameOutside.set_cad h4 (mask_trans rfl k))

theorem State.portsBoundary_same (h : State.SameOutside m o s) (k : 36893491448101472388 ||| m = m) :
    State.SameOutside m o (State.portsBoundary s b1 b2 b3) := by
  unfold State.portsBoundary
  exact (State.SameOutside.foldl h (fun a2 s0 h1 => (State.portBoundary_same h1 (mask_trans rfl k))))

theorem State.afterCommits_same (h : State.SameOutside m o s) (k : 47700652810198625252 ||| m = m) :
    State.SameOutside m o (State.afterCommits s b1 b2 b3) := by
  unfold State.afterCommits
  extract_lets -merge -useContext -underBinder x0 x1 x2 x3 x4 x5 x6
  have h7 : State.SameOutside m o x1 := (State.boundaryUp_same (State.messageWaiting_same h (mask_trans rfl k)) (mask_trans rfl k))
  have h8 : State.SameOutside m o x2 := (State.clapBoundary_same (State.applyPhases_same (State.slateBoundary_same h7 (mask_trans rfl k)) (mask_trans rfl k)) (mask_trans rfl k))
  have h9 : State.SameOutside m o x3 := (State.stillBoundary_same (State.mirrorRebuildBoundary_same (State.rebuildBoundary_same h8 (mask_trans rfl k)) (mask_trans rfl k)) (mask_trans rfl k))
  have h10 : State.SameOutside m o x4 := (State.zoneBoundary_same (State.matteBoundary_same (State.composeBoundary_same h9 (mask_trans rfl k)) (mask_trans rfl k)) (mask_trans rfl k))
  have h11 : State.SameOutside m o x5 := (State.portsBoundary_same (State.windowBoundary_same h10 (mask_trans rfl k)) (mask_trans rfl k))
  have h12 : State.SameOutside m o x6 := (State.tileBoundary_same (State.diagBoundary_same h11 (mask_trans rfl k)) (mask_trans rfl k))
  exact (State.tailBoundary_same (State.resolveLinking_same (State.evalGroups_same h12 (mask_trans rfl k)) (mask_trans rfl k)) (mask_trans rfl k))

theorem State.frameBoundary_same (h : State.SameOutside m o s) (k : 73786975201890598910 ||| m = m) :
    State.SameOutside m o (State.frameBoundary s b1 b2) := by
  unfold State.frameBoundary
  extract_lets -merge -useContext -underBinder x0 x1 x2 x3 x4 x5
  have h6 : State.SameOutside m o x2 := (State.openFrame_same (State.endFrame_same h (mask_trans rfl k)) (mask_trans rfl k))
  have h7 : State.SameOutside m o x3 := (State.stageBoundary_same (State.latchWindows_same (State.permitBoundary_same h6 (mask_trans rfl k)) (mask_trans rfl k)) (mask_trans rfl k))
  have h8 : State.SameOutside m o x4 := (State.commitsAt_same (State.commitsAt_same h7 (mask_trans rfl k)) (mask_trans rfl k))
  have h9 : State.SameOutside m o x5 := (State.afterCommits_same h8 (mask_trans rfl k))
  exact (State.settle_same (State.pairSlot_same h9 (mask_trans rfl k)) (mask_trans rfl k))

theorem State.slotBoundary_same (h : State.SameOutside m o s) (k : 73786975201890155518 ||| m = m) :
    State.SameOutside m o (State.slotBoundary s b1) := by
  unfold State.slotBoundary
  extract_lets -merge -useContext -underBinder x0 x1
  have h2 : State.SameOutside m o x1 := (State.advanceSys_same h (mask_trans rfl k))
  exact (State.SameOutside.ite h (State.settle_same (State.pairSlot_same (State.commitsAt_same h2 (mask_trans rfl k)) (mask_trans rfl k)) (mask_trans rfl k)))

theorem State.frameLate_same (h : State.SameOutside m o s) (k : 2201170739328 ||| m = m) :
    State.SameOutside m o (State.frameLate s) := by
  unfold State.frameLate
  extract_lets -merge -useContext -underBinder x0
  exact (State.SameOutside.ite (State.evt_same (State.finc_same (State.SameOutside.set_time h (mask_trans rfl k)) (mask_trans rfl k) (pageMask_time (mask_trans rfl k))) (mask_trans rfl k) (pageMask_time (mask_trans rfl k))) h)

theorem State.beginBlanking_same (h : State.SameOutside m o s) (k : 128 ||| m = m) :
    State.SameOutside m o (State.beginBlanking s) := by
  unfold State.beginBlanking
  extract_lets -merge -useContext -underBinder x0
  exact (State.SameOutside.set_time h (mask_trans rfl k))

theorem State.blankingStart_same (h : State.SameOutside m o s) (k : 2201170741382 ||| m = m) :
    State.SameOutside m o (State.blankingStart s) := by
  unfold State.blankingStart
  extract_lets -merge -useContext -underBinder x0
  have h1 : State.SameOutside m o x0 := (State.frameLate_same (State.beginBlanking_same (State.advanceSys_same h (mask_trans rfl k)) (mask_trans rfl k)) (mask_trans rfl k))
  exact (State.SameOutside.ite h (State.SameOutside.foldl h1 (fun a4 s2 h3 => (State.portBlanking_same h3 (mask_trans rfl k)))))

theorem State.cue_same (h : State.SameOutside m o s) (k : 2201170739200 ||| m = m) :
    State.SameOutside m o (State.cue s) := by
  unfold State.cue
  exact (State.SameOutside.ite h (State.evt_same h (mask_trans rfl k) (pageMask_time (mask_trans rfl k))))

theorem State.idle_same (h : State.SameOutside m o s) (k : 9223372039002259650 ||| m = m) :
    State.SameOutside m o (State.idle s) := by
  unfold State.idle
  exact (State.live_same h (mask_trans rfl k) (fun s0 h1 => (State.flushUpward_same (State.advanceTo_same h1 (mask_trans rfl k)) (mask_trans rfl k))))

end Sys2Proof.Machine
end

