-- ==== Sys2Proof/Laws/Frame/ExecPages.lean ====
section
/-! SUPPORT. What every command leaves alone: one lemma for each function of Machine/ExecPages.lean that changes the state. -/

namespace Sys2Proof.Machine

variable {o s : State} {m : Nat}

theorem execRegisterWrite_same (h : State.SameOutside m o s) (k : 73786976294838206463 ||| m = m) :
    ∃ t, execRegisterWrite a0 a1 a2 s = .next t ∧ State.SameOutside m o t := by
  refine ⟨_, rfl, ?_⟩
  exact (State.live_same h (mask_trans rfl k) (fun s0 h1 => (State.issue_same h1 (mask_trans rfl k))))

theorem execRcRead_same (h : State.SameOutside m o s) (k : 73786976294838206463 ||| m = m) :
    ∃ t, execRcRead a0 a1 s = .next t ∧ State.SameOutside m o t := by
  refine ⟨_, rfl, ?_⟩
  exact (State.live_same h (mask_trans rfl k) (fun s0 h1 => (State.issue_same h1 (mask_trans rfl k))))

theorem execNowLoRead_same (h : State.SameOutside m o s) (k : 73786976294838206463 ||| m = m) :
    ∃ t, execNowLoRead a0 s = .next t ∧ State.SameOutside m o t := by
  refine ⟨_, rfl, ?_⟩
  exact (State.live_same h (mask_trans rfl k) (fun s0 h1 => (State.readReg_same h1 (mask_trans rfl k))))

theorem execPageCommitGo_same (h : State.SameOutside m o s) (k : 73786976294838206463 ||| m = m) :
    ∃ t, execPageCommitGo a0 a1 a2 s = .next t ∧ State.SameOutside m o t := by
  refine ⟨_, rfl, ?_⟩
  exact (State.live_same h (mask_trans rfl k) (fun s0 h1 => (State.writeReg_same h1 (mask_trans rfl k))))

theorem execCommitGroup_same (h : State.SameOutside m o s) (k : 73786976294838206463 ||| m = m) :
    ∃ t, execCommitGroup a0 a1 s = .next t ∧ State.SameOutside m o t := by
  refine ⟨_, rfl, ?_⟩
  exact (State.live_same h (mask_trans rfl k) (fun s0 h1 => (State.writeReg_same h1 (mask_trans rfl k))))

theorem execGroupSnapshot_same (h : State.SameOutside m o s) (k : 73786976294838206463 ||| m = m) :
    ∃ t, execGroupSnapshot a0 s = .next t ∧ State.SameOutside m o t := by
  refine ⟨_, rfl, ?_⟩
  exact (State.live_same h (mask_trans rfl k) (fun s0 h1 => (State.writeReg_same h1 (mask_trans rfl k))))

theorem execLockLease_same (h : State.SameOutside m o s) (k : 73786976294838206463 ||| m = m) :
    ∃ t, execLockLease a0 a1 a2 s = .next t ∧ State.SameOutside m o t := by
  refine ⟨_, rfl, ?_⟩
  exact (State.live_same h (mask_trans rfl k) (fun s0 h1 => (State.writeReg_same h1 (mask_trans rfl k))))

theorem execLockRelease_same (h : State.SameOutside m o s) (k : 73786976294838206463 ||| m = m) :
    ∃ t, execLockRelease a0 a1 s = .next t ∧ State.SameOutside m o t := by
  refine ⟨_, rfl, ?_⟩
  exact (State.live_same h (mask_trans rfl k) (fun s0 h1 => (State.writeReg_same h1 (mask_trans rfl k))))

theorem execLockBreak_same (h : State.SameOutside m o s) (k : 73786976294838206463 ||| m = m) :
    ∃ t, execLockBreak a0 a1 s = .next t ∧ State.SameOutside m o t := by
  refine ⟨_, rfl, ?_⟩
  exact (State.live_same h (mask_trans rfl k) (fun s0 h1 => (State.writeReg_same h1 (mask_trans rfl k))))

theorem execLeaseExpiry_same (h : State.SameOutside m o s) (k : 73786975197474062466 ||| m = m) :
    ∃ t, execLeaseExpiry a0 s = .next t ∧ State.SameOutside m o t := by
  refine ⟨_, rfl, ?_⟩
  exact (State.live_same h (mask_trans rfl k) (fun s0 h1 => (State.leaseExpiry_same h1 (mask_trans rfl k) (pageMask_any _ (mask_trans rfl k)))))

theorem execCmdNone_same (h : State.SameOutside m o s) (k : 73786976294838206463 ||| m = m) :
    ∃ t, execCmdNone a0 a1 s = .next t ∧ State.SameOutside m o t := by
  refine ⟨_, rfl, ?_⟩
  exact (State.live_same h (mask_trans rfl k) (fun s0 h1 => (State.command_same h1 (mask_trans rfl k))))

theorem execDiscardShadow_same (h : State.SameOutside m o s) (k : 73786976294838206463 ||| m = m) :
    ∃ t, execDiscardShadow a0 a1 s = .next t ∧ State.SameOutside m o t := by
  refine ⟨_, rfl, ?_⟩
  exact (State.live_same h (mask_trans rfl k) (fun s0 h1 => (State.command_same h1 (mask_trans rfl k))))

theorem execClearCounters_same (h : State.SameOutside m o s) (k : 73786976294838206463 ||| m = m) :
    ∃ t, execClearCounters a0 a1 s = .next t ∧ State.SameOutside m o t := by
  refine ⟨_, rfl, ?_⟩
  exact (State.live_same h (mask_trans rfl k) (fun s0 h1 => (State.command_same h1 (mask_trans rfl k))))

theorem execEvtClear_same (h : State.SameOutside m o s) (k : 73786976294838206463 ||| m = m) :
    ∃ t, execEvtClear a0 a1 a2 s = .next t ∧ State.SameOutside m o t := by
  refine ⟨_, rfl, ?_⟩
  exact (State.live_same h (mask_trans rfl k) (fun s0 h1 => (State.writeReg_same h1 (mask_trans rfl k))))

theorem execEvtForce_same (h : State.SameOutside m o s) (k : 73786976294838206463 ||| m = m) :
    ∃ t, execEvtForce a0 a1 a2 s = .next t ∧ State.SameOutside m o t := by
  refine ⟨_, rfl, ?_⟩
  exact (State.live_same h (mask_trans rfl k) (fun s0 h1 => (State.writeReg_same h1 (mask_trans rfl k))))

theorem execEvtEnableWrite_same (h : State.SameOutside m o s) (k : 73786976294838206463 ||| m = m) :
    ∃ t, execEvtEnableWrite a0 a1 a2 s = .next t ∧ State.SameOutside m o t := by
  refine ⟨_, rfl, ?_⟩
  exact (State.live_same h (mask_trans rfl k) (fun s0 h1 => (State.writeReg_same h1 (mask_trans rfl k))))

theorem execSnapshotTake_same (h : State.SameOutside m o s) (k : 73786976294838206463 ||| m = m) :
    ∃ t, execSnapshotTake a0 a1 s = .next t ∧ State.SameOutside m o t := by
  refine ⟨_, rfl, ?_⟩
  exact (State.live_same h (mask_trans rfl k) (fun s0 h1 => (State.writeReg_same h1 (mask_trans rfl k))))

theorem execSnapshotDone_same (h : State.SameOutside m o s) (k : 73786975195326578696 ||| m = m) :
    ∃ t, execSnapshotDone a0 s = .next t ∧ State.SameOutside m o t := by
  refine ⟨_, rfl, ?_⟩
  exact (State.live_same h (mask_trans rfl k) (fun s0 h1 => (State.snapshotDone_same h1 (mask_trans rfl k) (pageMask_any _ (mask_trans rfl k)))))

end Sys2Proof.Machine
end

