-- ==== Sys2Proof/Laws/Frame/ExecRaster.lean ====
section
/-! SUPPORT. What every command leaves alone: one lemma for each function of Machine/ExecRaster.lean that changes the state. -/

namespace Sys2Proof.Machine

variable {o s : State} {m : Nat}

theorem execFrameBoundary_same (h : State.SameOutside m o s) (k : 73786975201890598910 ||| m = m) :
    ∃ t, execFrameBoundary a0 a1 s = .next t ∧ State.SameOutside m o t := by
  refine ⟨_, rfl, ?_⟩
  exact (State.live_same h (mask_trans rfl k) (fun s0 h1 => (State.frameBoundary_same h1 (mask_trans rfl k))))

theorem execSlotBoundary_same (h : State.SameOutside m o s) (k : 73786975201890155518 ||| m = m) :
    ∃ t, execSlotBoundary a0 s = .next t ∧ State.SameOutside m o t := by
  refine ⟨_, rfl, ?_⟩
  exact (State.live_same h (mask_trans rfl k) (fun s0 h1 => (State.slotBoundary_same h1 (mask_trans rfl k))))

theorem execBlankingStart_same (h : State.SameOutside m o s) (k : 2201170741382 ||| m = m) :
    ∃ t, execBlankingStart s = .next t ∧ State.SameOutside m o t := by
  refine ⟨_, rfl, ?_⟩
  exact (State.live_same h (mask_trans rfl k) (fun s0 h1 => (State.blankingStart_same h1 (mask_trans rfl k))))

theorem execCue_same (h : State.SameOutside m o s) (k : 2201170739200 ||| m = m) :
    ∃ t, execCue s = .next t ∧ State.SameOutside m o t := by
  refine ⟨_, rfl, ?_⟩
  exact (State.live_same h (mask_trans rfl k) (fun s0 h1 => (State.cue_same h1 (mask_trans rfl k))))

theorem execPeTileDone_same (h : State.SameOutside m o s) (k : 73786975197527474148 ||| m = m) :
    ∃ t, execPeTileDone a0 a1 s = .next t ∧ State.SameOutside m o t := by
  refine ⟨_, rfl, ?_⟩
  exact (State.live_same h (mask_trans rfl k) (fun s0 h1 => (State.peTileDone_same h1 (mask_trans rfl k))))

theorem execTileSignatureDeadline_same (h : State.SameOutside m o s) (k : 73786975197527456742 ||| m = m) :
    ∃ t, execTileSignatureDeadline a0 s = .next t ∧ State.SameOutside m o t := by
  refine ⟨_, rfl, ?_⟩
  exact (State.live_same h (mask_trans rfl k) (fun s0 h1 => (State.signatureDeadline_same h1 (mask_trans rfl k))))

end Sys2Proof.Machine
end

