-- ==== Sys2Proof/Laws/Frame/ExecLanes.lean ====
section
/-! SUPPORT. What every command leaves alone: one lemma for each function of Machine/ExecLanes.lean that changes the state. -/

namespace Sys2Proof.Machine

variable {o s : State} {m : Nat}

theorem execLaneEnable_same (h : State.SameOutside m o s) (k : 73786975197507616792 ||| m = m) :
    ∃ t, execLaneEnable a0 s = .next t ∧ State.SameOutside m o t := by
  refine ⟨_, rfl, ?_⟩
  exact (State.live_same h (mask_trans rfl k) (fun s0 h1 => (State.settle_same (State.laneEnable_same h1 (mask_trans rfl k)) (mask_trans rfl k))))

theorem execSeekDwellEnd_same (h : State.SameOutside m o s) (k : 73786975197507616926 ||| m = m) :
    ∃ t, execSeekDwellEnd a0 s = .next t ∧ State.SameOutside m o t := by
  refine ⟨_, rfl, ?_⟩
  exact (State.live_same h (mask_trans rfl k) (fun s0 h1 => (State.settle_same (State.seekDwellEnd_same h1 (mask_trans rfl k)) (mask_trans rfl k))))

theorem execSeekMessageRx_same (h : State.SameOutside m o s) (k : 73786975197509189756 ||| m = m) :
    ∃ t, execSeekMessageRx a0 a1 s = .next t ∧ State.SameOutside m o t := by
  refine ⟨_, rfl, ?_⟩
  exact (State.live_same h (mask_trans rfl k) (fun s0 h1 => (State.settle_same (State.seekMessage_same h1 (mask_trans rfl k)) (mask_trans rfl k))))

theorem execLeaderMessageRx_same (h : State.SameOutside m o s) (k : 73786975197509189756 ||| m = m) :
    ∃ t, execLeaderMessageRx a0 a1 a2 a3 s = .next t ∧ State.SameOutside m o t := by
  refine ⟨_, rfl, ?_⟩
  exact (State.live_same h (mask_trans rfl k) (fun s0 h1 => (State.settle_same (State.leaderMessage_same h1 (mask_trans rfl k)) (mask_trans rfl k))))

theorem execTrainTimeout_same (h : State.SameOutside m o s) (k : 73786975197509189882 ||| m = m) :
    ∃ t, execTrainTimeout a0 s = .next t ∧ State.SameOutside m o t := by
  refine ⟨_, rfl, ?_⟩
  exact (State.live_same h (mask_trans rfl k) (fun s0 h1 => (State.settle_same (State.trainTimeout_same h1 (mask_trans rfl k)) (mask_trans rfl k))))

theorem execLaneLock_same (h : State.SameOutside m o s) (k : 73786975197507616792 ||| m = m) :
    ∃ t, execLaneLock a0 s = .next t ∧ State.SameOutside m o t := by
  refine ⟨_, rfl, ?_⟩
  exact (State.live_same h (mask_trans rfl k) (fun s0 h1 => (State.settle_same (State.laneLock_same h1 (mask_trans rfl k)) (mask_trans rfl k))))

theorem execTrainingFrameRx_same (h : State.SameOutside m o s) (k : 73786975197509189756 ||| m = m) :
    ∃ t, execTrainingFrameRx a0 a1 a2 a3 a4 a5 a6 a7 a8 s = .next t ∧ State.SameOutside m o t := by
  refine ⟨_, rfl, ?_⟩
  exact (State.live_same h (mask_trans rfl k) (fun s0 h1 => (State.settle_same (State.trainingFrame_same h1 (mask_trans rfl k)) (mask_trans rfl k))))

theorem execFomWindowDone_same (h : State.SameOutside m o s) (k : 73786975197507616792 ||| m = m) :
    ∃ t, execFomWindowDone a0 a1 a2 a3 a4 s = .next t ∧ State.SameOutside m o t := by
  refine ⟨_, rfl, ?_⟩
  exact (State.live_same h (mask_trans rfl k) (fun s0 h1 => (State.settle_same (State.fomWindow_same h1 (mask_trans rfl k)) (mask_trans rfl k))))

theorem execConfirmMeasureDone_same (h : State.SameOutside m o s) (k : 73786975197509189886 ||| m = m) :
    ∃ t, execConfirmMeasureDone a0 a1 a2 s = .next t ∧ State.SameOutside m o t := by
  refine ⟨_, rfl, ?_⟩
  exact (State.live_same h (mask_trans rfl k) (fun s0 h1 => (State.settle_same (State.confirmMeasure_same h1 (mask_trans rfl k)) (mask_trans rfl k))))

theorem execFomFail_same (h : State.SameOutside m o s) (k : 73786975197509189882 ||| m = m) :
    ∃ t, execFomFail a0 s = .next t ∧ State.SameOutside m o t := by
  refine ⟨_, rfl, ?_⟩
  exact (State.live_same h (mask_trans rfl k) (fun s0 h1 => (State.settle_same (State.fomFail_same h1 (mask_trans rfl k)) (mask_trans rfl k))))

theorem execLossOfSignal_same (h : State.SameOutside m o s) (k : 73786975197509189752 ||| m = m) :
    ∃ t, execLossOfSignal a0 a1 s = .next t ∧ State.SameOutside m o t := by
  refine ⟨_, rfl, ?_⟩
  exact (State.live_same h (mask_trans rfl k) (fun s0 h1 => (State.settle_same (State.lossOfSignal_same h1 (mask_trans rfl k)) (mask_trans rfl k))))

theorem execRunStable_same (h : State.SameOutside m o s) (k : 18446744073709551746 ||| m = m) :
    ∃ t, execRunStable a0 s = .next t ∧ State.SameOutside m o t := by
  refine ⟨_, rfl, ?_⟩
  exact (State.live_same h (mask_trans rfl k) (fun s0 h1 => (State.runStable_same h1 (mask_trans rfl k))))

theorem execRetrain_same (h : State.SameOutside m o s) (k : 73786976294838206463 ||| m = m) :
    ∃ t, execRetrain a0 a1 s = .next t ∧ State.SameOutside m o t := by
  refine ⟨_, rfl, ?_⟩
  exact (State.live_same h (mask_trans rfl k) (fun s0 h1 => (State.settle_same (State.command_same h1 (mask_trans rfl k)) (mask_trans rfl k))))

theorem execTestEnter_same (h : State.SameOutside m o s) (k : 73786976294838206463 ||| m = m) :
    ∃ t, execTestEnter a0 a1 s = .next t ∧ State.SameOutside m o t := by
  refine ⟨_, rfl, ?_⟩
  exact (State.live_same h (mask_trans rfl k) (fun s0 h1 => (State.settle_same (State.command_same h1 (mask_trans rfl k)) (mask_trans rfl k))))

theorem execInject_same (h : State.SameOutside m o s) (k : 73786976294838206463 ||| m = m) :
    ∃ t, execInject a0 a1 a2 s = .next t ∧ State.SameOutside m o t := by
  refine ⟨_, rfl, ?_⟩
  exact (State.live_same h (mask_trans rfl k) (fun s0 h1 => (State.command_same h1 (mask_trans rfl k))))

theorem execTestExit_same (h : State.SameOutside m o s) (k : 73786976294838206463 ||| m = m) :
    ∃ t, execTestExit a0 a1 s = .next t ∧ State.SameOutside m o t := by
  refine ⟨_, rfl, ?_⟩
  exact (State.live_same h (mask_trans rfl k) (fun s0 h1 => (State.settle_same (State.command_same h1 (mask_trans rfl k)) (mask_trans rfl k))))

theorem execResetCeiling_same (h : State.SameOutside m o s) (k : 73786976294838206463 ||| m = m) :
    ∃ t, execResetCeiling a0 a1 s = .next t ∧ State.SameOutside m o t := by
  refine ⟨_, rfl, ?_⟩
  exact (State.live_same h (mask_trans rfl k) (fun s0 h1 => (State.command_same h1 (mask_trans rfl k))))

theorem execSentinelCellRx_same (h : State.SameOutside m o s) (k : 73786975197507616776 ||| m = m) :
    ∃ t, execSentinelCellRx a0 a1 s = .next t ∧ State.SameOutside m o t := by
  refine ⟨_, rfl, ?_⟩
  exact (State.live_same h (mask_trans rfl k) (fun s0 h1 => (State.settle_same (State.sentinelRx_same h1 (mask_trans rfl k)) (mask_trans rfl k))))

theorem execMarkerRx_same (h : State.SameOutside m o s) (k : 73786975197509189752 ||| m = m) :
    ∃ t, execMarkerRx a0 a1 a2 s = .next t ∧ State.SameOutside m o t := by
  refine ⟨_, rfl, ?_⟩
  exact (State.live_same h (mask_trans rfl k) (fun s0 h1 => (State.settle_same (State.markerRx_same h1 (mask_trans rfl k)) (mask_trans rfl k))))

theorem execPrbsLock_same (h : State.SameOutside m o s) (k : 18446744073709551624 ||| m = m) :
    ∃ t, execPrbsLock a0 s = .next t ∧ State.SameOutside m o t := by
  refine ⟨_, rfl, ?_⟩
  exact (State.live_same h (mask_trans rfl k) (fun s0 h1 => (State.prbsLock_same h1 (mask_trans rfl k))))

theorem execPrbsLockLoss_same (h : State.SameOutside m o s) (k : 18446744075857035272 ||| m = m) :
    ∃ t, execPrbsLockLoss a0 a1 s = .next t ∧ State.SameOutside m o t := by
  refine ⟨_, rfl, ?_⟩
  exact (State.live_same h (mask_trans rfl k) (fun s0 h1 => (State.prbsLoss_same h1 (mask_trans rfl k))))

theorem execInjectDone_same (h : State.SameOutside m o s) (k : 18446744075857035272 ||| m = m) :
    ∃ t, execInjectDone a0 a1 s = .next t ∧ State.SameOutside m o t := by
  refine ⟨_, rfl, ?_⟩
  exact (State.live_same h (mask_trans rfl k) (fun s0 h1 => (State.injectDone_same h1 (mask_trans rfl k))))

end Sys2Proof.Machine
end

