-- ==== Sys2Proof/Laws/Frame/ExecLinks.lean ====
section
/-! SUPPORT. What every command leaves alone: one lemma for each function of Machine/ExecLinks.lean that changes the state. -/

namespace Sys2Proof.Machine

variable {o s : State} {m : Nat}

theorem execVideoBurstRx_same (h : State.SameOutside m o s) (k : 73786975197527456740 ||| m = m) :
    ∃ t, execVideoBurstRx a0 a1 s = .next t ∧ State.SameOutside m o t := by
  refine ⟨_, rfl, ?_⟩
  exact (State.live_same h (mask_trans rfl k) (fun s0 h1 => (State.videoRx_same h1 (mask_trans rfl k))))

theorem execIngestBlockWrite_same (h : State.SameOutside m o s) (k : 9226186788802969920 ||| m = m) :
    ∃ t, execIngestBlockWrite s = .next t ∧ State.SameOutside m o t := by
  refine ⟨_, rfl, ?_⟩
  exact (State.live_same h (mask_trans rfl k) (fun s0 h1 => (State.ingestOne_same h1 (mask_trans rfl k))))

theorem execCtlRead_same (h : State.SameOutside m o s) (k : 73786976294838206463 ||| m = m) :
    ∃ t, execCtlRead a0 a1 s = .next t ∧ State.SameOutside m o t := by
  refine ⟨_, rfl, ?_⟩
  exact (State.live_same h (mask_trans rfl k) (fun s0 h1 => (State.settle_same (State.ctlRx_same h1 (mask_trans rfl k)) (mask_trans rfl k))))

theorem execCtlWrite_same (h : State.SameOutside m o s) (k : 73786976294838206463 ||| m = m) :
    ∃ t, execCtlWrite a0 a1 s = .next t ∧ State.SameOutside m o t := by
  refine ⟨_, rfl, ?_⟩
  exact (State.live_same h (mask_trans rfl k) (fun s0 h1 => (State.settle_same (State.ctlRx_same h1 (mask_trans rfl k)) (mask_trans rfl k))))

theorem execCtlMailbox_same (h : State.SameOutside m o s) (k : 73786976294838206463 ||| m = m) :
    ∃ t, execCtlMailbox a0 a1 s = .next t ∧ State.SameOutside m o t := by
  refine ⟨_, rfl, ?_⟩
  exact (State.live_same h (mask_trans rfl k) (fun s0 h1 => (State.ctlRx_same h1 (mask_trans rfl k))))

theorem execReplayEntryExpiry_same (h : State.SameOutside m o s) (k : 162 ||| m = m) :
    ∃ t, execReplayEntryExpiry a0 s = .next t ∧ State.SameOutside m o t := by
  refine ⟨_, rfl, ?_⟩
  exact (State.live_same h (mask_trans rfl k) (fun s0 h1 => (State.replayExpiry_same h1 (mask_trans rfl k))))

theorem execUpwardMessageRx_same (h : State.SameOutside m o s) (k : 73786975197527456740 ||| m = m) :
    ∃ t, execUpwardMessageRx a0 a1 s = .next t ∧ State.SameOutside m o t := by
  refine ⟨_, rfl, ?_⟩
  exact (State.live_same h (mask_trans rfl k) (fun s0 h1 => (State.upwardRx_same h1 (mask_trans rfl k))))

theorem execAuthProofRx_same (h : State.SameOutside m o s) (k : 73786975197528505316 ||| m = m) :
    ∃ t, execAuthProofRx a0 a1 s = .next t ∧ State.SameOutside m o t := by
  refine ⟨_, rfl, ?_⟩
  exact (State.live_same h (mask_trans rfl k) (fun s0 h1 => (State.settle_same (State.authRx_same h1 (mask_trans rfl k)) (mask_trans rfl k))))

theorem execAuthChallengeRx_same (h : State.SameOutside m o s) (k : 73786975197528505316 ||| m = m) :
    ∃ t, execAuthChallengeRx a0 a1 s = .next t ∧ State.SameOutside m o t := by
  refine ⟨_, rfl, ?_⟩
  exact (State.live_same h (mask_trans rfl k) (fun s0 h1 => (State.settle_same (State.authRx_same h1 (mask_trans rfl k)) (mask_trans rfl k))))

theorem execAuthTimeout_same (h : State.SameOutside m o s) (k : 73786975197509189858 ||| m = m) :
    ∃ t, execAuthTimeout a0 s = .next t ∧ State.SameOutside m o t := by
  refine ⟨_, rfl, ?_⟩
  exact (State.live_same h (mask_trans rfl k) (fun s0 h1 => (State.settle_same (State.authTimeout_same h1 (mask_trans rfl k)) (mask_trans rfl k))))

theorem execAuthRetry_same (h : State.SameOutside m o s) (k : 73786975197507616934 ||| m = m) :
    ∃ t, execAuthRetry a0 s = .next t ∧ State.SameOutside m o t := by
  refine ⟨_, rfl, ?_⟩
  exact (State.live_same h (mask_trans rfl k) (fun s0 h1 => (State.settle_same (State.authRetry_same h1 (mask_trans rfl k)) (mask_trans rfl k))))

theorem execRevertHoldoff_same (h : State.SameOutside m o s) (k : 130 ||| m = m) :
    ∃ t, execRevertHoldoff s = .next t ∧ State.SameOutside m o t := by
  refine ⟨_, rfl, ?_⟩
  exact (State.live_same h (mask_trans rfl k) (fun s0 h1 => (State.revertHoldoff_same h1 (mask_trans rfl k))))

theorem execSwitchUpstream_same (h : State.SameOutside m o s) (k : 73786976294838206463 ||| m = m) :
    ∃ t, execSwitchUpstream a0 a1 s = .next t ∧ State.SameOutside m o t := by
  refine ⟨_, rfl, ?_⟩
  exact (State.live_same h (mask_trans rfl k) (fun s0 h1 => (State.command_same h1 (mask_trans rfl k))))

theorem execKeyLoad_same (h : State.SameOutside m o s) (k : 73786976294838206463 ||| m = m) :
    ∃ t, execKeyLoad a0 a1 s = .next t ∧ State.SameOutside m o t := by
  refine ⟨_, rfl, ?_⟩
  exact (State.live_same h (mask_trans rfl k) (fun s0 h1 => (State.command_same h1 (mask_trans rfl k))))

theorem execKeyClear_same (h : State.SameOutside m o s) (k : 73786976294838206463 ||| m = m) :
    ∃ t, execKeyClear a0 a1 s = .next t ∧ State.SameOutside m o t := by
  refine ⟨_, rfl, ?_⟩
  exact (State.live_same h (mask_trans rfl k) (fun s0 h1 => (State.command_same h1 (mask_trans rfl k))))

end Sys2Proof.Machine
end

