-- ==== Sys2Proof/Laws/Frame/ExecTime.lean ====
section
/-! SUPPORT. What every command leaves alone: one lemma for each function of Machine/ExecTime.lean that changes the state. -/

namespace Sys2Proof.Machine

variable {o s : State} {m : Nat}

theorem State.timeCell_same (h : State.SameOutside m o s) (k : 73786975197527456740 ||| m = m) :
    State.SameOutside m o (State.timeCell s b1 b2 b3) := by
  unfold State.timeCell
  split
  · rename_i x0 x1 x2
    have h3 : State.SameOutside m o x1 := State.SameOutside.of_eq2 x2 (State.singleCell_same h (mask_trans rfl k))
    exact h3
  · rename_i x4 x5 x6 x7
    have h8 : State.SameOutside m o x6 := State.SameOutside.of_eq2 x7 (State.singleCell_same h (mask_trans rfl k))
    split
    · rename_i x9 x10
      exact (State.syncRx_same h8 (mask_trans rfl k))
    · rename_i x11 x12
      exact (State.phaseRx_same h8 (mask_trans rfl k))
    · rename_i x13 x14 x15
      exact h8

theorem execTimeSyncRx_same (h : State.SameOutside m o s) (k : 73786975197527456740 ||| m = m) :
    ∃ t, execTimeSyncRx a0 a1 a2 s = .next t ∧ State.SameOutside m o t := by
  refine ⟨_, rfl, ?_⟩
  exact (State.live_same h (mask_trans rfl k) (fun s0 h1 => (State.settle_same (State.timeCell_same h1 (mask_trans rfl k)) (mask_trans rfl k))))

theorem execTimePhaseRx_same (h : State.SameOutside m o s) (k : 73786975197527456740 ||| m = m) :
    ∃ t, execTimePhaseRx a0 a1 a2 s = .next t ∧ State.SameOutside m o t := by
  refine ⟨_, rfl, ?_⟩
  exact (State.live_same h (mask_trans rfl k) (fun s0 h1 => (State.settle_same (State.timeCell_same h1 (mask_trans rfl k)) (mask_trans rfl k))))

theorem execSyncCellTx_same (h : State.SameOutside m o s) (k : 2147483776 ||| m = m) :
    ∃ t, execSyncCellTx a0 a1 s = .next t ∧ State.SameOutside m o t := by
  refine ⟨_, rfl, ?_⟩
  exact (State.live_same h (mask_trans rfl k) (fun s0 h1 => (State.syncTx_same h1 (mask_trans rfl k))))

theorem execPhaseCellTx_same (h : State.SameOutside m o s) (k : 2147483648 ||| m = m) :
    ∃ t, execPhaseCellTx s = .next t ∧ State.SameOutside m o t := by
  refine ⟨_, rfl, ?_⟩
  exact (State.live_same h (mask_trans rfl k) (fun s0 h1 => (State.phaseTx_same h1 (mask_trans rfl k))))

theorem execParentLost_same (h : State.SameOutside m o s) (k : 73786975197509714048 ||| m = m) :
    ∃ t, execParentLost s = .next t ∧ State.SameOutside m o t := by
  refine ⟨_, rfl, ?_⟩
  exact (State.live_same h (mask_trans rfl k) (fun s0 h1 => (State.settle_same (State.parentLost_same h1 (mask_trans rfl k)) (mask_trans rfl k))))

theorem execHoldoverExpiry_same (h : State.SameOutside m o s) (k : 73786975197509714050 ||| m = m) :
    ∃ t, execHoldoverExpiry s = .next t ∧ State.SameOutside m o t := by
  refine ⟨_, rfl, ?_⟩
  exact (State.live_same h (mask_trans rfl k) (fun s0 h1 => (State.settle_same (State.holdoverExpiry_same h1 (mask_trans rfl k)) (mask_trans rfl k))))

theorem execSetTime_same (h : State.SameOutside m o s) (k : 73786976294838206463 ||| m = m) :
    ∃ t, execSetTime a0 s = .next t ∧ State.SameOutside m o t := by
  refine ⟨_, rfl, ?_⟩
  exact (State.live_same h (mask_trans rfl k) (fun s0 h1 => (State.settle_same (State.command_same h1 (mask_trans rfl k)) (mask_trans rfl k))))

theorem execStillExit_same (h : State.SameOutside m o s) (k : 73786976294838206463 ||| m = m) :
    ∃ t, execStillExit a0 s = .next t ∧ State.SameOutside m o t := by
  refine ⟨_, rfl, ?_⟩
  exact (State.live_same h (mask_trans rfl k) (fun s0 h1 => (State.command_same h1 (mask_trans rfl k))))

theorem execClapRestart_same (h : State.SameOutside m o s) (k : 73786976294838206463 ||| m = m) :
    ∃ t, execClapRestart a0 a1 s = .next t ∧ State.SameOutside m o t := by
  refine ⟨_, rfl, ?_⟩
  exact (State.live_same h (mask_trans rfl k) (fun s0 h1 => (State.command_same h1 (mask_trans rfl k))))

theorem execClapEdge_same (h : State.SameOutside m o s) (k : 2201170739328 ||| m = m) :
    ∃ t, execClapEdge a0 a1 s = .next t ∧ State.SameOutside m o t := by
  refine ⟨_, rfl, ?_⟩
  exact (State.live_same h (mask_trans rfl k) (fun s0 h1 => (State.clapEdge_same h1 (mask_trans rfl k))))

end Sys2Proof.Machine
end

