-- ==== Sys2Proof/Laws/Frame/ExecCompose.lean ====
section
/-! SUPPORT. What every command leaves alone: one lemma for each function of Machine/ExecCompose.lean that changes the state. -/

namespace Sys2Proof.Machine

variable {o s : State} {m : Nat}

theorem execRetireFence_same (h : State.SameOutside m o s) (k : 13510801029595392 ||| m = m) :
    ∃ t, execRetireFence a0 a1 s = .next t ∧ State.SameOutside m o t := by
  refine ⟨_, rfl, ?_⟩
  exact (State.live_same h (mask_trans rfl k) (fun s0 h1 => (State.retireFence_same h1 (mask_trans rfl k))))

theorem execOvlSignaturePost_same (h : State.SameOutside m o s) (k : 18014398509481984 ||| m = m) :
    ∃ t, execOvlSignaturePost s = .next t ∧ State.SameOutside m o t := by
  refine ⟨_, rfl, ?_⟩
  exact (State.live_same h (mask_trans rfl k) (fun s0 h1 => (State.postOverlaySig_same h1 (mask_trans rfl k))))

theorem execLibDataWrite_same (h : State.SameOutside m o s) (k : 73786976294838206463 ||| m = m) :
    ∃ t, execLibDataWrite a0 a1 s = .next t ∧ State.SameOutside m o t := by
  refine ⟨_, rfl, ?_⟩
  exact (State.live_same h (mask_trans rfl k) (fun s0 h1 => (State.writeReg_same h1 (mask_trans rfl k))))

theorem execLibDataRead_same (h : State.SameOutside m o s) (k : 73786976294838206463 ||| m = m) :
    ∃ t, execLibDataRead a0 s = .next t ∧ State.SameOutside m o t := by
  refine ⟨_, rfl, ?_⟩
  exact (State.live_same h (mask_trans rfl k) (fun s0 h1 => (State.readReg_same h1 (mask_trans rfl k))))

theorem execOvlSeal_same (h : State.SameOutside m o s) (k : 73786976294838206463 ||| m = m) :
    ∃ t, execOvlSeal a0 s = .next t ∧ State.SameOutside m o t := by
  refine ⟨_, rfl, ?_⟩
  exact (State.live_same h (mask_trans rfl k) (fun s0 h1 => (State.command_same h1 (mask_trans rfl k))))

theorem execOvlUnseal_same (h : State.SameOutside m o s) (k : 73786976294838206463 ||| m = m) :
    ∃ t, execOvlUnseal a0 s = .next t ∧ State.SameOutside m o t := by
  refine ⟨_, rfl, ?_⟩
  exact (State.live_same h (mask_trans rfl k) (fun s0 h1 => (State.command_same h1 (mask_trans rfl k))))

theorem execCapture_same (h : State.SameOutside m o s) (k : 73786976294838206463 ||| m = m) :
    ∃ t, execCapture a0 s = .next t ∧ State.SameOutside m o t := by
  refine ⟨_, rfl, ?_⟩
  exact (State.live_same h (mask_trans rfl k) (fun s0 h1 => (State.command_same h1 (mask_trans rfl k))))

theorem execCapDone_same (h : State.SameOutside m o s) (k : 6755401588556032 ||| m = m) :
    ∃ t, execCapDone s = .next t ∧ State.SameOutside m o t := by
  refine ⟨_, rfl, ?_⟩
  exact (State.live_same h (mask_trans rfl k) (fun s0 h1 => (State.capDone_same h1 (mask_trans rfl k))))

theorem execLibSealDone_same (h : State.SameOutside m o s) (k : 18014400656965632 ||| m = m) :
    ∃ t, execLibSealDone s = .next t ∧ State.SameOutside m o t := by
  refine ⟨_, rfl, ?_⟩
  exact (State.live_same h (mask_trans rfl k) (fun s0 h1 => (State.libSealDone_same h1 (mask_trans rfl k))))

end Sys2Proof.Machine
end

