-- ==== Sys2Proof/Laws/Frame/ExecColour.lean ====
section
/-! SUPPORT. What every command leaves alone: one lemma for each function of Machine/ExecColour.lean that changes the state. -/

namespace Sys2Proof.Machine

variable {o s : State} {m : Nat}

theorem State.wearPeriod_same (h : State.SameOutside m o s) (k : 642 ||| m = m) :
    State.SameOutside m o (State.wearPeriod s) := by
  unfold State.wearPeriod
  exact (State.periodicTrigger_same (State.advanceTo_same h (mask_trans rfl k)) (mask_trans rfl k))

theorem State.userCopied_same (h : State.SameOutside m o s) (k : 75153821029941764 ||| m = m) :
    State.SameOutside m o (State.userCopied s) := by
  unfold State.userCopied
  split
  · rename_i x0 x1
    exact (State.userBackup_same (State.userCopyDone_same h (mask_trans rfl k)) (mask_trans rfl k))
  · rename_i x2 x3
    exact (State.userCopyDone_same h (mask_trans rfl k))

theorem execRebuildStart_same (h : State.SameOutside m o s) (k : 1224979098644775424 ||| m = m) :
    ∃ t, execRebuildStart s = .next t ∧ State.SameOutside m o t := by
  refine ⟨_, rfl, ?_⟩
  exact (State.live_same h (mask_trans rfl k) (fun s0 h1 => (State.rebuildStart_same h1 (mask_trans rfl k))))

theorem execWearPhaseDone_same (h : State.SameOutside m o s) (k : 74872345986122240 ||| m = m) :
    ∃ t, execWearPhaseDone s = .next t ∧ State.SameOutside m o t := by
  refine ⟨_, rfl, ?_⟩
  exact (State.live_same h (mask_trans rfl k) (fun s0 h1 => (State.wearPhaseDone_same h1 (mask_trans rfl k))))

theorem execRebuildDone_same (h : State.SameOutside m o s) (k : 74872345986122240 ||| m = m) :
    ∃ t, execRebuildDone s = .next t ∧ State.SameOutside m o t := by
  refine ⟨_, rfl, ?_⟩
  exact (State.live_same h (mask_trans rfl k) (fun s0 h1 => (State.rebuildDone_same h1 (mask_trans rfl k))))

theorem execWearPeriodExpiry_same (h : State.SameOutside m o s) (k : 642 ||| m = m) :
    ∃ t, execWearPeriodExpiry s = .next t ∧ State.SameOutside m o t := by
  refine ⟨_, rfl, ?_⟩
  exact (State.live_same h (mask_trans rfl k) (fun s0 h1 => (State.wearPeriod_same h1 (mask_trans rfl k))))

theorem execTempStale_same (h : State.SameOutside m o s) (k : 72057596185411714 ||| m = m) :
    ∃ t, execTempStale a0 s = .next t ∧ State.SameOutside m o t := by
  refine ⟨_, rfl, ?_⟩
  exact (State.live_same h (mask_trans rfl k) (fun s0 h1 => (State.tempStale_same h1 (mask_trans rfl k))))

theorem execBuildFactory_same (h : State.SameOutside m o s) (k : 73786976294838206463 ||| m = m) :
    ∃ t, execBuildFactory a0 s = .next t ∧ State.SameOutside m o t := by
  refine ⟨_, rfl, ?_⟩
  exact (State.live_same h (mask_trans rfl k) (fun s0 h1 => (State.command_same h1 (mask_trans rfl k))))

theorem execBuildFactoryDone_same (h : State.SameOutside m o s) (k : 74872345986122240 ||| m = m) :
    ∃ t, execBuildFactoryDone s = .next t ∧ State.SameOutside m o t := by
  refine ⟨_, rfl, ?_⟩
  exact (State.live_same h (mask_trans rfl k) (fun s0 h1 => (State.buildFactoryDone_same h1 (mask_trans rfl k))))

theorem execLoadFactory_same (h : State.SameOutside m o s) (k : 73786976294838206463 ||| m = m) :
    ∃ t, execLoadFactory a0 s = .next t ∧ State.SameOutside m o t := by
  refine ⟨_, rfl, ?_⟩
  exact (State.live_same h (mask_trans rfl k) (fun s0 h1 => (State.command_same h1 (mask_trans rfl k))))

theorem execLoadFactoryDone_same (h : State.SameOutside m o s) (k : 74872345986122240 ||| m = m) :
    ∃ t, execLoadFactoryDone s = .next t ∧ State.SameOutside m o t := by
  refine ⟨_, rfl, ?_⟩
  exact (State.live_same h (mask_trans rfl k) (fun s0 h1 => (State.loadFactoryDone_same h1 (mask_trans rfl k))))

theorem execSealFactory_same (h : State.SameOutside m o s) (k : 73786976294838206463 ||| m = m) :
    ∃ t, execSealFactory a0 s = .next t ∧ State.SameOutside m o t := by
  refine ⟨_, rfl, ?_⟩
  exact (State.live_same h (mask_trans rfl k) (fun s0 h1 => (State.command_same h1 (mask_trans rfl k))))

theorem execWriteUser_same (h : State.SameOutside m o s) (k : 73786976294838206463 ||| m = m) :
    ∃ t, execWriteUser a0 a1 s = .next t ∧ State.SameOutside m o t := by
  refine ⟨_, rfl, ?_⟩
  exact (State.live_same h (mask_trans rfl k) (fun s0 h1 => (State.command_same h1 (mask_trans rfl k))))

theorem execWriteUserDone_same (h : State.SameOutside m o s) (k : 74872345986122240 ||| m = m) :
    ∃ t, execWriteUserDone s = .next t ∧ State.SameOutside m o t := by
  refine ⟨_, rfl, ?_⟩
  exact (State.live_same h (mask_trans rfl k) (fun s0 h1 => (State.writeUserDone_same h1 (mask_trans rfl k))))

theorem execApplyUser_same (h : State.SameOutside m o s) (k : 73786976294838206463 ||| m = m) :
    ∃ t, execApplyUser a0 s = .next t ∧ State.SameOutside m o t := by
  refine ⟨_, rfl, ?_⟩
  exact (State.live_same h (mask_trans rfl k) (fun s0 h1 => (State.command_same h1 (mask_trans rfl k))))

theorem execRestoreFactory_same (h : State.SameOutside m o s) (k : 73786976294838206463 ||| m = m) :
    ∃ t, execRestoreFactory a0 s = .next t ∧ State.SameOutside m o t := by
  refine ⟨_, rfl, ?_⟩
  exact (State.live_same h (mask_trans rfl k) (fun s0 h1 => (State.command_same h1 (mask_trans rfl k))))

theorem execUserCopyDone_same (h : State.SameOutside m o s) (k : 75153821029941764 ||| m = m) :
    ∃ t, execUserCopyDone s = .next t ∧ State.SameOutside m o t := by
  refine ⟨_, rfl, ?_⟩
  exact (State.live_same h (mask_trans rfl k) (fun s0 h1 => (State.userCopied_same h1 (mask_trans rfl k))))

theorem execCadRebuild_same (h : State.SameOutside m o s) (k : 73786976294838206463 ||| m = m) :
    ∃ t, execCadRebuild a0 s = .next t ∧ State.SameOutside m o t := by
  refine ⟨_, rfl, ?_⟩
  exact (State.live_same h (mask_trans rfl k) (fun s0 h1 => (State.command_same h1 (mask_trans rfl k))))

theorem execDoseReset_same (h : State.SameOutside m o s) (k : 73786976294838206463 ||| m = m) :
    ∃ t, execDoseReset a0 a1 s = .next t ∧ State.SameOutside m o t := by
  refine ⟨_, rfl, ?_⟩
  exact (State.live_same h (mask_trans rfl k) (fun s0 h1 => (State.command_same h1 (mask_trans rfl k))))

theorem execMatteVerify_same (h : State.SameOutside m o s) (k : 73786976294838206463 ||| m = m) :
    ∃ t, execMatteVerify a0 a1 s = .next t ∧ State.SameOutside m o t := by
  refine ⟨_, rfl, ?_⟩
  exact (State.live_same h (mask_trans rfl k) (fun s0 h1 => (State.command_same h1 (mask_trans rfl k))))

theorem execVerifyDone_same (h : State.SameOutside m o s) (k : 73786975197507617792 ||| m = m) :
    ∃ t, execVerifyDone s = .next t ∧ State.SameOutside m o t := by
  refine ⟨_, rfl, ?_⟩
  exact (State.live_same h (mask_trans rfl k) (fun s0 h1 => (State.settle_same (State.verifyEnd_same h1 (mask_trans rfl k)) (mask_trans rfl k))))

theorem execMatteSealWrite_same (h : State.SameOutside m o s) (k : 73786976294838206463 ||| m = m) :
    ∃ t, execMatteSealWrite a0 a1 a2 a3 s = .next t ∧ State.SameOutside m o t := by
  refine ⟨_, rfl, ?_⟩
  exact (State.live_same h (mask_trans rfl k) (fun s0 h1 => (State.writeReg_same h1 (mask_trans rfl k))))

theorem execProxyTapCode_same (h : State.SameOutside m o s) (k : 36893702554336102532 ||| m = m) :
    ∃ t, execProxyTapCode a0 a1 a2 s = .next t ∧ State.SameOutside m o t := by
  refine ⟨_, rfl, ?_⟩
  exact (State.live_same h (mask_trans rfl k) (fun s0 h1 => (State.tapCode_same h1 (mask_trans rfl k))))

end Sys2Proof.Machine
end

