-- ==== Sys2Proof/Laws/Frame/ExecRings.lean ====
section
/-! SUPPORT. What every command leaves alone: one lemma for each function of Machine/ExecRings.lean that changes the state. -/

namespace Sys2Proof.Machine

variable {o s : State} {m : Nat}

theorem State.portTimeout_same (h : State.SameOutside m o s) (k : 73786975197527456740 ||| m = m) :
    State.SameOutside m o (State.portTimeout s b1 b2) := by
  unfold State.portTimeout
  exact (State.SameOutside.ite (State.diagTimeout_same h (mask_trans rfl k)) (State.responseTimeout_same h (mask_trans rfl k)))

theorem execTallyRespRx_same (h : State.SameOutside m o s) (k : 73786975197528505316 ||| m = m) :
    ∃ t, execTallyRespRx a0 a1 s = .next t ∧ State.SameOutside m o t := by
  refine ⟨_, rfl, ?_⟩
  exact (State.live_same h (mask_trans rfl k) (fun s0 h1 => (State.tallyRx_same h1 (mask_trans rfl k))))

theorem execAckRx_same (h : State.SameOutside m o s) (k : 73786975197528505316 ||| m = m) :
    ∃ t, execAckRx a0 a1 s = .next t ∧ State.SameOutside m o t := by
  refine ⟨_, rfl, ?_⟩
  exact (State.live_same h (mask_trans rfl k) (fun s0 h1 => (State.ackRx_same h1 (mask_trans rfl k))))

theorem execQueryRespRx_same (h : State.SameOutside m o s) (k : 73786975197528505316 ||| m = m) :
    ∃ t, execQueryRespRx a0 a1 s = .next t ∧ State.SameOutside m o t := by
  refine ⟨_, rfl, ?_⟩
  exact (State.live_same h (mask_trans rfl k) (fun s0 h1 => (State.queryRx_same h1 (mask_trans rfl k))))

theorem execDiagRespRx_same (h : State.SameOutside m o s) (k : 73786975197528521700 ||| m = m) :
    ∃ t, execDiagRespRx a0 a1 s = .next t ∧ State.SameOutside m o t := by
  refine ⟨_, rfl, ?_⟩
  exact (State.live_same h (mask_trans rfl k) (fun s0 h1 => (State.diagRx_same h1 (mask_trans rfl k))))

theorem execEventRx_same (h : State.SameOutside m o s) (k : 41505174167995549696 ||| m = m) :
    ∃ t, execEventRx a0 a1 s = .next t ∧ State.SameOutside m o t := by
  refine ⟨_, rfl, ?_⟩
  exact (State.live_same h (mask_trans rfl k) (fun s0 h1 => (State.eventRx_same h1 (mask_trans rfl k))))

theorem execEnumLoopedRx_same (h : State.SameOutside m o s) (k : 36893488147419105280 ||| m = m) :
    ∃ t, execEnumLoopedRx a0 a1 s = .next t ∧ State.SameOutside m o t := by
  refine ⟨_, rfl, ?_⟩
  exact (State.live_same h (mask_trans rfl k) (fun s0 h1 => (State.enumLooped_same h1 (mask_trans rfl k))))

theorem execResponseTimeout_same (h : State.SameOutside m o s) (k : 73786975197527456740 ||| m = m) :
    ∃ t, execResponseTimeout a0 a1 s = .next t ∧ State.SameOutside m o t := by
  refine ⟨_, rfl, ?_⟩
  exact (State.live_same h (mask_trans rfl k) (fun s0 h1 => (State.portTimeout_same h1 (mask_trans rfl k))))

theorem execDeliveryDone_same (h : State.SameOutside m o s) (k : 2147485700 ||| m = m) :
    ∃ t, execDeliveryDone a0 s = .next t ∧ State.SameOutside m o t := by
  refine ⟨_, rfl, ?_⟩
  exact (State.live_same h (mask_trans rfl k) (fun s0 h1 => (State.deliveryDone_same h1 (mask_trans rfl k))))

theorem execEnumerate_same (h : State.SameOutside m o s) (k : 73786976294838206463 ||| m = m) :
    ∃ t, execEnumerate a0 a1 s = .next t ∧ State.SameOutside m o t := by
  refine ⟨_, rfl, ?_⟩
  exact (State.live_same h (mask_trans rfl k) (fun s0 h1 => (State.command_same h1 (mask_trans rfl k))))

theorem execDudClaim_same (h : State.SameOutside m o s) (k : 73786976294838206463 ||| m = m) :
    ∃ t, execDudClaim a0 a1 a2 a3 s = .next t ∧ State.SameOutside m o t := by
  refine ⟨_, rfl, ?_⟩
  exact (State.live_same h (mask_trans rfl k) (fun s0 h1 => (State.command_same h1 (mask_trans rfl k))))

theorem execDudQuery_same (h : State.SameOutside m o s) (k : 73786976294838206463 ||| m = m) :
    ∃ t, execDudQuery a0 a1 s = .next t ∧ State.SameOutside m o t := by
  refine ⟨_, rfl, ?_⟩
  exact (State.live_same h (mask_trans rfl k) (fun s0 h1 => (State.command_same h1 (mask_trans rfl k))))

theorem execSendConfig_same (h : State.SameOutside m o s) (k : 73786976294838206463 ||| m = m) :
    ∃ t, execSendConfig a0 a1 a2 s = .next t ∧ State.SameOutside m o t := by
  refine ⟨_, rfl, ?_⟩
  exact (State.live_same h (mask_trans rfl k) (fun s0 h1 => (State.command_same h1 (mask_trans rfl k))))

theorem execReadmit_same (h : State.SameOutside m o s) (k : 73786976294838206463 ||| m = m) :
    ∃ t, execReadmit a0 a1 s = .next t ∧ State.SameOutside m o t := by
  refine ⟨_, rfl, ?_⟩
  exact (State.live_same h (mask_trans rfl k) (fun s0 h1 => (State.command_same h1 (mask_trans rfl k))))

theorem execAutoReadmit_same (h : State.SameOutside m o s) (k : 2147485700 ||| m = m) :
    ∃ t, execAutoReadmit a0 s = .next t ∧ State.SameOutside m o t := by
  refine ⟨_, rfl, ?_⟩
  exact (State.live_same h (mask_trans rfl k) (fun s0 h1 => (State.autoReadmit_same h1 (mask_trans rfl k))))

theorem execHbForceWrite_same (h : State.SameOutside m o s) (k : 73786976294838206463 ||| m = m) :
    ∃ t, execHbForceWrite a0 a1 a2 s = .next t ∧ State.SameOutside m o t := by
  refine ⟨_, rfl, ?_⟩
  exact (State.live_same h (mask_trans rfl k) (fun s0 h1 => (State.writeReg_same h1 (mask_trans rfl k))))

theorem execIdleFrameset_same (h : State.SameOutside m o s) (k : 2147485830 ||| m = m) :
    ∃ t, execIdleFrameset a0 s = .next t ∧ State.SameOutside m o t := by
  refine ⟨_, rfl, ?_⟩
  exact (State.live_same h (mask_trans rfl k) (fun s0 h1 => (State.idleFrameset_same h1 (mask_trans rfl k))))

theorem execHeadroomStep_same (h : State.SameOutside m o s) (k : 73786975197535845350 ||| m = m) :
    ∃ t, execHeadroomStep s = .next t ∧ State.SameOutside m o t := by
  refine ⟨_, rfl, ?_⟩
  exact (State.live_same h (mask_trans rfl k) (fun s0 h1 => (State.headroomStep_same h1 (mask_trans rfl k))))

theorem execRailPoll_same (h : State.SameOutside m o s) (k : 144115190223343746 ||| m = m) :
    ∃ t, execRailPoll s = .next t ∧ State.SameOutside m o t := by
  refine ⟨_, rfl, ?_⟩
  exact (State.live_same h (mask_trans rfl k) (fun s0 h1 => (State.railPoll_same h1 (mask_trans rfl k))))

theorem execPmbAlert_same (h : State.SameOutside m o s) (k : 144115190223343616 ||| m = m) :
    ∃ t, execPmbAlert a0 a1 s = .next t ∧ State.SameOutside m o t := by
  refine ⟨_, rfl, ?_⟩
  exact (State.live_same h (mask_trans rfl k) (fun s0 h1 => (State.pmbAlert_same h1 (mask_trans rfl k))))

theorem execPmbusTransactionDone_same (h : State.SameOutside m o s) (k : 73786975197527456740 ||| m = m) :
    ∃ t, execPmbusTransactionDone a0 a1 a2 s = .next t ∧ State.SameOutside m o t := by
  refine ⟨_, rfl, ?_⟩
  exact (State.live_same h (mask_trans rfl k) (fun s0 h1 => (State.pmbusDone_same h1 (mask_trans rfl k))))

theorem execPmbusRetry_same (h : State.SameOutside m o s) (k : 144115190223343746 ||| m = m) :
    ∃ t, execPmbusRetry a0 s = .next t ∧ State.SameOutside m o t := by
  refine ⟨_, rfl, ?_⟩
  exact (State.live_same h (mask_trans rfl k) (fun s0 h1 => (State.pmbusRetry_same h1 (mask_trans rfl k))))

theorem execReadStatus_same (h : State.SameOutside m o s) (k : 73786976294838206463 ||| m = m) :
    ∃ t, execReadStatus a0 s = .next t ∧ State.SameOutside m o t := by
  refine ⟨_, rfl, ?_⟩
  exact (State.live_same h (mask_trans rfl k) (fun s0 h1 => (State.command_same h1 (mask_trans rfl k))))

theorem execRingLockLoss_same (h : State.SameOutside m o s) (k : 2048 ||| m = m) :
    ∃ t, execRingLockLoss a0 s = .next t ∧ State.SameOutside m o t := by
  refine ⟨_, rfl, ?_⟩
  exact (State.live_same h (mask_trans rfl k) (fun s0 h1 => (State.ringLockLoss_same h1 (mask_trans rfl k))))

end Sys2Proof.Machine
end

