-- ==== Sys2Proof/Laws/Frame/ExecDiag.lean ====
section
/-! SUPPORT. What every command leaves alone: one lemma for each function of Machine/ExecDiag.lean that changes the state. -/

namespace Sys2Proof.Machine

variable {o s : State} {m : Nat}

theorem execDiagVisit_same (h : State.SameOutside m o s) (k : 73786975197527473124 ||| m = m) :
    ∃ t, execDiagVisit a0 a1 a2 a3 s = .next t ∧ State.SameOutside m o t := by
  refine ⟨_, rfl, ?_⟩
  exact (State.live_same h (mask_trans rfl k) (fun s0 h1 => (State.diagVisit_same h1 (mask_trans rfl k))))

theorem execDiagReportWrite_same (h : State.SameOutside m o s) (k : 4611686020576452608 ||| m = m) :
    ∃ t, execDiagReportWrite s = .next t ∧ State.SameOutside m o t := by
  refine ⟨_, rfl, ?_⟩
  exact (State.live_same h (mask_trans rfl k) (fun s0 h1 => (State.diagReportWrite_same h1 (mask_trans rfl k))))

theorem execInitMap_same (h : State.SameOutside m o s) (k : 73786976294838206463 ||| m = m) :
    ∃ t, execInitMap a0 a1 s = .next t ∧ State.SameOutside m o t := by
  refine ⟨_, rfl, ?_⟩
  exact (State.live_same h (mask_trans rfl k) (fun s0 h1 => (State.command_same h1 (mask_trans rfl k))))

theorem execInitMapDone_same (h : State.SameOutside m o s) (k : 291045128099913728 ||| m = m) :
    ∃ t, execInitMapDone s = .next t ∧ State.SameOutside m o t := by
  refine ⟨_, rfl, ?_⟩
  exact (State.live_same h (mask_trans rfl k) (fun s0 h1 => (State.initMapDone_same h1 (mask_trans rfl k))))

theorem execBuildList_same (h : State.SameOutside m o s) (k : 73786976294838206463 ||| m = m) :
    ∃ t, execBuildList a0 s = .next t ∧ State.SameOutside m o t := by
  refine ⟨_, rfl, ?_⟩
  exact (State.live_same h (mask_trans rfl k) (fun s0 h1 => (State.command_same h1 (mask_trans rfl k))))

theorem execBuildListDone_same (h : State.SameOutside m o s) (k : 73786975197527473124 ||| m = m) :
    ∃ t, execBuildListDone s = .next t ∧ State.SameOutside m o t := by
  refine ⟨_, rfl, ?_⟩
  exact (State.live_same h (mask_trans rfl k) (fun s0 h1 => (State.buildListDone_same h1 (mask_trans rfl k))))

theorem execRelearn_same (h : State.SameOutside m o s) (k : 73786976294838206463 ||| m = m) :
    ∃ t, execRelearn a0 a1 s = .next t ∧ State.SameOutside m o t := by
  refine ⟨_, rfl, ?_⟩
  exact (State.live_same h (mask_trans rfl k) (fun s0 h1 => (State.command_same h1 (mask_trans rfl k))))

theorem execClearVerdict_same (h : State.SameOutside m o s) (k : 73786976294838206463 ||| m = m) :
    ∃ t, execClearVerdict a0 a1 s = .next t ∧ State.SameOutside m o t := by
  refine ⟨_, rfl, ?_⟩
  exact (State.live_same h (mask_trans rfl k) (fun s0 h1 => (State.command_same h1 (mask_trans rfl k))))

end Sys2Proof.Machine
end

