-- ==== Sys2Proof/Laws/Frame/ExecMemory.lean ====
section
/-! SUPPORT. What every command leaves alone: one lemma for each function of Machine/ExecMemory.lean that changes the state. -/

namespace Sys2Proof.Machine

variable {o s : State} {m : Nat}

theorem execDramTransfer_same (h : State.SameOutside m o s) (k : 73786975197527538660 ||| m = m) :
    ∃ t, execDramTransfer a0 s = .next t ∧ State.SameOutside m o t := by
  refine ⟨_, rfl, ?_⟩
  exact (State.live_same h (mask_trans rfl k) (fun s0 h1 => (State.dramTransfer_same h1 (mask_trans rfl k))))

theorem execRefreshDue_same (h : State.SameOutside m o s) (k : 3395294054088834 ||| m = m) :
    ∃ t, execRefreshDue a0 s = .next t ∧ State.SameOutside m o t := by
  refine ⟨_, rfl, ?_⟩
  exact (State.live_same h (mask_trans rfl k) (fun s0 h1 => (State.refresh_same h1 (mask_trans rfl k))))

theorem execRowIdleTimeout_same (h : State.SameOutside m o s) (k : 32898 ||| m = m) :
    ∃ t, execRowIdleTimeout a0 s = .next t ∧ State.SameOutside m o t := by
  refine ⟨_, rfl, ?_⟩
  exact (State.live_same h (mask_trans rfl k) (fun s0 h1 => (State.rowIdle_same h1 (mask_trans rfl k))))

theorem execSwitchSet_same (h : State.SameOutside m o s) (k : 73786976294838206463 ||| m = m) :
    ∃ t, execSwitchSet a0 a1 s = .next t ∧ State.SameOutside m o t := by
  refine ⟨_, rfl, ?_⟩
  exact (State.live_same h (mask_trans rfl k) (fun s0 h1 => (State.command_same h1 (mask_trans rfl k))))

theorem execSwitchWindowOpen_same (h : State.SameOutside m o s) (k : 9226186788802969920 ||| m = m) :
    ∃ t, execSwitchWindowOpen s = .next t ∧ State.SameOutside m o t := by
  refine ⟨_, rfl, ?_⟩
  exact (State.live_same h (mask_trans rfl k) (fun s0 h1 => (State.switchWindow_same h1 (mask_trans rfl k))))

theorem execTrainSet_same (h : State.SameOutside m o s) (k : 73786976294838206463 ||| m = m) :
    ∃ t, execTrainSet a0 a1 s = .next t ∧ State.SameOutside m o t := by
  refine ⟨_, rfl, ?_⟩
  exact (State.live_same h (mask_trans rfl k) (fun s0 h1 => (State.command_same h1 (mask_trans rfl k))))

theorem execTrainingDone_same (h : State.SameOutside m o s) (k : 73786975197594581988 ||| m = m) :
    ∃ t, execTrainingDone a0 a1 s = .next t ∧ State.SameOutside m o t := by
  refine ⟨_, rfl, ?_⟩
  exact (State.live_same h (mask_trans rfl k) (fun s0 h1 => (State.restore_same (State.trainingDone_same h1 (mask_trans rfl k)) (mask_trans rfl k))))

theorem execScrubNow_same (h : State.SameOutside m o s) (k : 73786976294838206463 ||| m = m) :
    ∃ t, execScrubNow a0 s = .next t ∧ State.SameOutside m o t := by
  refine ⟨_, rfl, ?_⟩
  exact (State.live_same h (mask_trans rfl k) (fun s0 h1 => (State.command_same h1 (mask_trans rfl k))))

theorem execScrubVisit_same (h : State.SameOutside m o s) (k : 73786975197527473124 ||| m = m) :
    ∃ t, execScrubVisit a0 s = .next t ∧ State.SameOutside m o t := by
  refine ⟨_, rfl, ?_⟩
  exact (State.live_same h (mask_trans rfl k) (fun s0 h1 => (State.scrubVisit_same h1 (mask_trans rfl k))))

theorem execScrubRepairVisit_same (h : State.SameOutside m o s) (k : 73786975197527473124 ||| m = m) :
    ∃ t, execScrubRepairVisit a0 s = .next t ∧ State.SameOutside m o t := by
  refine ⟨_, rfl, ?_⟩
  exact (State.live_same h (mask_trans rfl k) (fun s0 h1 => (State.scrubRepair_same h1 (mask_trans rfl k))))

theorem execSramPatrol_same (h : State.SameOutside m o s) (k : 73786975197528505316 ||| m = m) :
    ∃ t, execSramPatrol a0 s = .next t ∧ State.SameOutside m o t := by
  refine ⟨_, rfl, ?_⟩
  exact (State.live_same h (mask_trans rfl k) (fun s0 h1 => (State.sramPatrol_same h1 (mask_trans rfl k))))

theorem execArbCfgWrite_same (h : State.SameOutside m o s) (k : 73786976294838206463 ||| m = m) :
    ∃ t, execArbCfgWrite a0 a1 a2 s = .next t ∧ State.SameOutside m o t := by
  refine ⟨_, rfl, ?_⟩
  exact (State.live_same h (mask_trans rfl k) (fun s0 h1 => (State.writeReg_same h1 (mask_trans rfl k))))

theorem execPortCycle_same (h : State.SameOutside m o s) (k : 1125902054424706 ||| m = m) :
    ∃ t, execPortCycle a0 s = .next t ∧ State.SameOutside m o t := by
  refine ⟨_, rfl, ?_⟩
  exact (State.live_same h (mask_trans rfl k) (fun s0 h1 => (State.portStep_same h1 (mask_trans rfl k))))

theorem execErrorReport_same (h : State.SameOutside m o s) (k : 73786975197527456740 ||| m = m) :
    ∃ t, execErrorReport a0 a1 a2 a3 a4 a5 a6 a7 a8 s = .next t ∧ State.SameOutside m o t := by
  refine ⟨_, rfl, ?_⟩
  exact (State.live_same h (mask_trans rfl k) (fun s0 h1 => (State.report_same h1 (mask_trans rfl k))))

theorem execBrokenWire_same (h : State.SameOutside m o s) (k : 73786975197527325668 ||| m = m) :
    ∃ t, execBrokenWire a0 s = .next t ∧ State.SameOutside m o t := by
  refine ⟨_, rfl, ?_⟩
  exact (State.live_same h (mask_trans rfl k) (fun s0 h1 => (State.breakWire_same h1 (mask_trans rfl k))))

theorem execBrokenWireClear_same (h : State.SameOutside m o s) (k : 73786975197527456740 ||| m = m) :
    ∃ t, execBrokenWireClear a0 s = .next t ∧ State.SameOutside m o t := by
  refine ⟨_, rfl, ?_⟩
  exact (State.live_same h (mask_trans rfl k) (fun s0 h1 => (State.mendWire_same h1 (mask_trans rfl k))))

theorem execCaptAckWrite_same (h : State.SameOutside m o s) (k : 73786976294838206463 ||| m = m) :
    ∃ t, execCaptAckWrite a0 a1 s = .next t ∧ State.SameOutside m o t := by
  refine ⟨_, rfl, ?_⟩
  exact (State.live_same h (mask_trans rfl k) (fun s0 h1 => (State.writeReg_same h1 (mask_trans rfl k))))

end Sys2Proof.Machine
end

