-- ==== Sys2Proof/Laws/Frame/ExecSafety.lean ====
section
/-! SUPPORT. What every command leaves alone: one lemma for each function of Machine/ExecSafety.lean that changes the state. -/

namespace Sys2Proof.Machine

variable {o s : State} {m : Nat}

theorem State.safetyFrame_same (h : State.SameOutside m o s) (k : 73786975197527456740 ||| m = m) :
    State.SameOutside m o (State.safetyFrame s b1 b2) := by
  unfold State.safetyFrame
  split
  · rename_i x0 x1 x2 x3
    have h4 : State.SameOutside m o x2 := State.SameOutside.of_eq2 x3 (State.safetyRx_same h (mask_trans rfl k))
    exact (State.message_same h4 (mask_trans rfl k))
  · rename_i x5 x6 x7
    have h8 : State.SameOutside m o x6 := State.SameOutside.of_eq2 x7 (State.safetyRx_same h (mask_trans rfl k))
    exact h8

theorem execSafeInChange_same (h : State.SameOutside m o s) (k : 70370893758464 ||| m = m) :
    ∃ t, execSafeInChange a0 a1 a2 s = .next t ∧ State.SameOutside m o t := by
  refine ⟨_, rfl, ?_⟩
  exact (State.live_same h (mask_trans rfl k) (fun s0 h1 => (State.safeInChange_same h1 (mask_trans rfl k))))

theorem execSafeInDemand_same (h : State.SameOutside m o s) (k : 36893702554336102534 ||| m = m) :
    ∃ t, execSafeInDemand a0 a1 s = .next t ∧ State.SameOutside m o t := by
  refine ⟨_, rfl, ?_⟩
  exact (State.live_same h (mask_trans rfl k) (fun s0 h1 => (State.safeInDemand_same h1 (mask_trans rfl k))))

theorem execInDisc_same (h : State.SameOutside m o s) (k : 36893702554336102534 ||| m = m) :
    ∃ t, execInDisc a0 s = .next t ∧ State.SameOutside m o t := by
  refine ⟨_, rfl, ?_⟩
  exact (State.live_same h (mask_trans rfl k) (fun s0 h1 => (State.inDisc_same h1 (mask_trans rfl k))))

theorem execSafetyFrameRx_same (h : State.SameOutside m o s) (k : 73786975197527456740 ||| m = m) :
    ∃ t, execSafetyFrameRx a0 a1 s = .next t ∧ State.SameOutside m o t := by
  refine ⟨_, rfl, ?_⟩
  exact (State.live_same h (mask_trans rfl k) (fun s0 h1 => (State.safetyFrame_same h1 (mask_trans rfl k))))

theorem execWatchdog_same (h : State.SameOutside m o s) (k : 36893702554336102534 ||| m = m) :
    ∃ t, execWatchdog a0 s = .next t ∧ State.SameOutside m o t := by
  refine ⟨_, rfl, ?_⟩
  exact (State.live_same h (mask_trans rfl k) (fun s0 h1 => (State.watchdog_same h1 (mask_trans rfl k))))

theorem execStatusFrameTx_same (h : State.SameOutside m o s) (k : 70370893758594 ||| m = m) :
    ∃ t, execStatusFrameTx s = .next t ∧ State.SameOutside m o t := by
  refine ⟨_, rfl, ?_⟩
  exact (State.live_same h (mask_trans rfl k) (fun s0 h1 => (State.statusTx_same h1 (mask_trans rfl k))))

theorem execTapSilent_same (h : State.SameOutside m o s) (k : 36893702554336102534 ||| m = m) :
    ∃ t, execTapSilent a0 s = .next t ∧ State.SameOutside m o t := by
  refine ⟨_, rfl, ?_⟩
  exact (State.live_same h (mask_trans rfl k) (fun s0 h1 => (State.tapSilent_same h1 (mask_trans rfl k))))

theorem execMatteSigCheck_same (h : State.SameOutside m o s) (k : 36893702554336102532 ||| m = m) :
    ∃ t, execMatteSigCheck s = .next t ∧ State.SameOutside m o t := by
  refine ⟨_, rfl, ?_⟩
  exact (State.live_same h (mask_trans rfl k) (fun s0 h1 => (State.matteSigCheck_same h1 (mask_trans rfl k))))

theorem execOvlSigCheck_same (h : State.SameOutside m o s) (k : 36893702554336102532 ||| m = m) :
    ∃ t, execOvlSigCheck a0 a1 s = .next t ∧ State.SameOutside m o t := by
  refine ⟨_, rfl, ?_⟩
  exact (State.live_same h (mask_trans rfl k) (fun s0 h1 => (State.ovlSigCheck_same h1 (mask_trans rfl k))))

theorem execFbChange_same (h : State.SameOutside m o s) (k : 70370893758592 ||| m = m) :
    ∃ t, execFbChange a0 a1 s = .next t ∧ State.SameOutside m o t := by
  refine ⟨_, rfl, ?_⟩
  exact (State.live_same h (mask_trans rfl k) (fun s0 h1 => (State.fbChange_same h1 (mask_trans rfl k))))

theorem execFbDisagree_same (h : State.SameOutside m o s) (k : 36893702554336102534 ||| m = m) :
    ∃ t, execFbDisagree a0 s = .next t ∧ State.SameOutside m o t := by
  refine ⟨_, rfl, ?_⟩
  exact (State.live_same h (mask_trans rfl k) (fun s0 h1 => (State.fbDisagree_same h1 (mask_trans rfl k))))

theorem execFbCloseTimeout_same (h : State.SameOutside m o s) (k : 36893702554336102534 ||| m = m) :
    ∃ t, execFbCloseTimeout a0 s = .next t ∧ State.SameOutside m o t := by
  refine ⟨_, rfl, ?_⟩
  exact (State.live_same h (mask_trans rfl k) (fun s0 h1 => (State.fbCloseTimeout_same h1 (mask_trans rfl k))))

theorem execFbOpenTimeout_same (h : State.SameOutside m o s) (k : 70370893758594 ||| m = m) :
    ∃ t, execFbOpenTimeout a0 s = .next t ∧ State.SameOutside m o t := by
  refine ⟨_, rfl, ?_⟩
  exact (State.live_same h (mask_trans rfl k) (fun s0 h1 => (State.fbOpenTimeout_same h1 (mask_trans rfl k))))

theorem execTestPulse_same (h : State.SameOutside m o s) (k : 36893702554336102532 ||| m = m) :
    ∃ t, execTestPulse a0 a1 a2 a3 s = .next t ∧ State.SameOutside m o t := by
  refine ⟨_, rfl, ?_⟩
  exact (State.live_same h (mask_trans rfl k) (fun s0 h1 => (State.testPulse_same h1 (mask_trans rfl k))))

theorem execSafeResetEdge_same (h : State.SameOutside m o s) (k : 70370893758464 ||| m = m) :
    ∃ t, execSafeResetEdge a0 s = .next t ∧ State.SameOutside m o t := by
  refine ⟨_, rfl, ?_⟩
  exact (State.live_same h (mask_trans rfl k) (fun s0 h1 => (State.resetEdge_same h1 (mask_trans rfl k))))

theorem execResetRejected_same (h : State.SameOutside m o s) (k : 70370893758594 ||| m = m) :
    ∃ t, execResetRejected s = .next t ∧ State.SameOutside m o t := by
  refine ⟨_, rfl, ?_⟩
  exact (State.live_same h (mask_trans rfl k) (fun s0 h1 => (State.resetRejected_same h1 (mask_trans rfl k))))

theorem execSafeResetLowHeld_same (h : State.SameOutside m o s) (k : 70370893758594 ||| m = m) :
    ∃ t, execSafeResetLowHeld s = .next t ∧ State.SameOutside m o t := by
  refine ⟨_, rfl, ?_⟩
  exact (State.live_same h (mask_trans rfl k) (fun s0 h1 => (State.resetLowHeld_same h1 (mask_trans rfl k))))

theorem execSafeXinLow_same (h : State.SameOutside m o s) (k : 73786975197509716100 ||| m = m) :
    ∃ t, execSafeXinLow s = .next t ∧ State.SameOutside m o t := by
  refine ⟨_, rfl, ?_⟩
  exact (State.live_same h (mask_trans rfl k) (fun s0 h1 => (State.settle_same (State.xinLow_same h1 (mask_trans rfl k)) (mask_trans rfl k))))

theorem execSafeXinHigh_same (h : State.SameOutside m o s) (k : 73786975197509713920 ||| m = m) :
    ∃ t, execSafeXinHigh s = .next t ∧ State.SameOutside m o t := by
  refine ⟨_, rfl, ?_⟩
  exact (State.live_same h (mask_trans rfl k) (fun s0 h1 => (State.settle_same (State.xinUp_same h1 (mask_trans rfl k)) (mask_trans rfl k))))

theorem execClearLockout_same (h : State.SameOutside m o s) (k : 73786976294838206463 ||| m = m) :
    ∃ t, execClearLockout a0 a1 s = .next t ∧ State.SameOutside m o t := by
  refine ⟨_, rfl, ?_⟩
  exact (State.live_same h (mask_trans rfl k) (fun s0 h1 => (State.command_same h1 (mask_trans rfl k))))

theorem execHandoverBegin_same (h : State.SameOutside m o s) (k : 73786976294838206463 ||| m = m) :
    ∃ t, execHandoverBegin a0 s = .next t ∧ State.SameOutside m o t := by
  refine ⟨_, rfl, ?_⟩
  exact (State.live_same h (mask_trans rfl k) (fun s0 h1 => (State.command_same h1 (mask_trans rfl k))))

theorem execHandoverEnd_same (h : State.SameOutside m o s) (k : 73786976294838206463 ||| m = m) :
    ∃ t, execHandoverEnd a0 s = .next t ∧ State.SameOutside m o t := by
  refine ⟨_, rfl, ?_⟩
  exact (State.live_same h (mask_trans rfl k) (fun s0 h1 => (State.command_same h1 (mask_trans rfl k))))

theorem execSafTrip_same (h : State.SameOutside m o s) (k : 73786976294838206463 ||| m = m) :
    ∃ t, execSafTrip a0 a1 s = .next t ∧ State.SameOutside m o t := by
  refine ⟨_, rfl, ?_⟩
  exact (State.live_same h (mask_trans rfl k) (fun s0 h1 => (State.command_same h1 (mask_trans rfl k))))

theorem execHandoverExpired_same (h : State.SameOutside m o s) (k : 36893702554336102534 ||| m = m) :
    ∃ t, execHandoverExpired s = .next t ∧ State.SameOutside m o t := by
  refine ⟨_, rfl, ?_⟩
  exact (State.live_same h (mask_trans rfl k) (fun s0 h1 => (State.handoverExpired_same h1 (mask_trans rfl k))))

theorem execGrdAliveWrite_same (h : State.SameOutside m o s) (k : 73786976294838206463 ||| m = m) :
    ∃ t, execGrdAliveWrite a0 a1 s = .next t ∧ State.SameOutside m o t := by
  refine ⟨_, rfl, ?_⟩
  exact (State.live_same h (mask_trans rfl k) (fun s0 h1 => (State.writeReg_same h1 (mask_trans rfl k))))

theorem execSafSilent_same (h : State.SameOutside m o s) (k : 36893702554336102534 ||| m = m) :
    ∃ t, execSafSilent s = .next t ∧ State.SameOutside m o t := by
  refine ⟨_, rfl, ?_⟩
  exact (State.live_same h (mask_trans rfl k) (fun s0 h1 => (State.aliveTimeout_same h1 (mask_trans rfl k))))

theorem execSelfTestStart_same (h : State.SameOutside m o s) (k : 2097152 ||| m = m) :
    ∃ t, execSelfTestStart a0 s = .next t ∧ State.SameOutside m o t := by
  refine ⟨_, rfl, ?_⟩
  exact (State.live_same h (mask_trans rfl k) (fun s0 h1 => (State.selfTestStart_same h1 (mask_trans rfl k))))

theorem execSelfTestDone_same (h : State.SameOutside m o s) (k : 70370893758464 ||| m = m) :
    ∃ t, execSelfTestDone a0 a1 s = .next t ∧ State.SameOutside m o t := by
  refine ⟨_, rfl, ?_⟩
  exact (State.live_same h (mask_trans rfl k) (fun s0 h1 => (State.selfTestDone_same h1 (mask_trans rfl k))))

theorem execSafeOutCurrentLimit_same (h : State.SameOutside m o s) (k : 36893702554336102532 ||| m = m) :
    ∃ t, execSafeOutCurrentLimit a0 s = .next t ∧ State.SameOutside m o t := by
  refine ⟨_, rfl, ?_⟩
  exact (State.live_same h (mask_trans rfl k) (fun s0 h1 => (State.currentLimit_same h1 (mask_trans rfl k))))

end Sys2Proof.Machine
end

