-- ==== Sys2Proof/Laws/Frame/ExecPower.lean ====
section
/-! SUPPORT. What every command leaves alone: one lemma for each function of Machine/ExecPower.lean that changes the state. -/

namespace Sys2Proof.Machine

variable {o s : State} {m : Nat}

theorem State.madcPosted_same (h : State.SameOutside m o s) (k : 316661580169220 ||| m = m) :
    State.SameOutside m o (State.madcPosted s b1 b2) := by
  unfold State.madcPosted
  extract_lets -merge -useContext -underBinder x0
  have h1 : State.SameOutside m o x0 := (State.madcConversion_same h (mask_trans rfl k))
  exact (State.SameOutside.ite (State.flashIssue_same h1 (mask_trans rfl k)) h1)

theorem execDomainReqOn_same (h : State.SameOutside m o s) (k : 73786976294838206463 ||| m = m) :
    ∃ t, execDomainReqOn a0 a1 s = .next t ∧ State.SameOutside m o t := by
  refine ⟨_, rfl, ?_⟩
  exact (State.live_same h (mask_trans rfl k) (fun s0 h1 => (State.writeReg_same h1 (mask_trans rfl k))))

theorem execDomainReqRet_same (h : State.SameOutside m o s) (k : 73786976294838206463 ||| m = m) :
    ∃ t, execDomainReqRet a0 a1 s = .next t ∧ State.SameOutside m o t := by
  refine ⟨_, rfl, ?_⟩
  exact (State.live_same h (mask_trans rfl k) (fun s0 h1 => (State.writeReg_same h1 (mask_trans rfl k))))

theorem execDomainReqOff_same (h : State.SameOutside m o s) (k : 73786976294838206463 ||| m = m) :
    ∃ t, execDomainReqOff a0 a1 s = .next t ∧ State.SameOutside m o t := by
  refine ⟨_, rfl, ?_⟩
  exact (State.live_same h (mask_trans rfl k) (fun s0 h1 => (State.writeReg_same h1 (mask_trans rfl k))))

theorem execDomainReqIllegal_same (h : State.SameOutside m o s) (k : 73786976294838206463 ||| m = m) :
    ∃ t, execDomainReqIllegal a0 a1 a2 s = .next t ∧ State.SameOutside m o t := by
  refine ⟨_, rfl, ?_⟩
  exact (State.live_same h (mask_trans rfl k) (fun s0 h1 => (State.writeReg_same h1 (mask_trans rfl k))))

theorem execEntryAbandon_same (h : State.SameOutside m o s) (k : 73786976294838206463 ||| m = m) :
    ∃ t, execEntryAbandon a0 s = .next t ∧ State.SameOutside m o t := by
  refine ⟨_, rfl, ?_⟩
  exact (State.live_same h (mask_trans rfl k) (fun s0 h1 => (State.resume_same (State.entryAbandon_same h1 (mask_trans rfl k)) (mask_trans rfl k))))

theorem execDomainEntryDone_same (h : State.SameOutside m o s) (k : 73786976294838206463 ||| m = m) :
    ∃ t, execDomainEntryDone a0 s = .next t ∧ State.SameOutside m o t := by
  refine ⟨_, rfl, ?_⟩
  exact (State.live_same h (mask_trans rfl k) (fun s0 h1 => (State.resume_same (State.entryDone_same h1 (mask_trans rfl k)) (mask_trans rfl k))))

theorem execDomainExitDone_same (h : State.SameOutside m o s) (k : 73786976294838206463 ||| m = m) :
    ∃ t, execDomainExitDone a0 s = .next t ∧ State.SameOutside m o t := by
  refine ⟨_, rfl, ?_⟩
  exact (State.live_same h (mask_trans rfl k) (fun s0 h1 => (State.resume_same (State.exitDone_same h1 (mask_trans rfl k)) (mask_trans rfl k))))

theorem execSignalDetect_same (h : State.SameOutside m o s) (k : 73786975197546982376 ||| m = m) :
    ∃ t, execSignalDetect a0 s = .next t ∧ State.SameOutside m o t := by
  refine ⟨_, rfl, ?_⟩
  exact (State.live_same h (mask_trans rfl k) (fun s0 h1 => (State.signalDetect_same h1 (mask_trans rfl k))))

theorem execWakeTimer_same (h : State.SameOutside m o s) (k : 73786975197546982378 ||| m = m) :
    ∃ t, execWakeTimer s = .next t ∧ State.SameOutside m o t := by
  refine ⟨_, rfl, ?_⟩
  exact (State.live_same h (mask_trans rfl k) (fun s0 h1 => (State.wakeTimer_same h1 (mask_trans rfl k))))

theorem execLpEnter_same (h : State.SameOutside m o s) (k : 8798240505986 ||| m = m) :
    ∃ t, execLpEnter s = .next t ∧ State.SameOutside m o t := by
  refine ⟨_, rfl, ?_⟩
  exact (State.live_same h (mask_trans rfl k) (fun s0 h1 => (State.lpEnter_same h1 (mask_trans rfl k))))

theorem execBrownout_same (h : State.SameOutside m o s) (k : 73786976294838206463 ||| m = m) :
    ∃ t, execBrownout s = .next t ∧ State.SameOutside m o t := by
  refine ⟨_, rfl, ?_⟩
  exact (State.live_same h (mask_trans rfl k) (fun s0 h1 => (State.resume_same (State.brownout_same h1 (mask_trans rfl k)) (mask_trans rfl k))))

theorem execThmDemand_same (h : State.SameOutside m o s) (k : 73786976294838206463 ||| m = m) :
    ∃ t, execThmDemand a0 a1 a2 s = .next t ∧ State.SameOutside m o t := by
  refine ⟨_, rfl, ?_⟩
  exact (State.live_same h (mask_trans rfl k) (fun s0 h1 => (State.writeReg_same h1 (mask_trans rfl k))))

theorem execGuardDemand_same (h : State.SameOutside m o s) (k : 17592198660226 ||| m = m) :
    ∃ t, execGuardDemand s = .next t ∧ State.SameOutside m o t := by
  refine ⟨_, rfl, ?_⟩
  exact (State.live_same h (mask_trans rfl k) (fun s0 h1 => (State.guardDemand_same h1 (mask_trans rfl k))))

theorem execThmConversionDone_same (h : State.SameOutside m o s) (k : 73786975197535845348 ||| m = m) :
    ∃ t, execThmConversionDone a0 a1 s = .next t ∧ State.SameOutside m o t := by
  refine ⟨_, rfl, ?_⟩
  exact (State.live_same h (mask_trans rfl k) (fun s0 h1 => (State.conversionDone_same h1 (mask_trans rfl k))))

theorem execScalCheck_same (h : State.SameOutside m o s) (k : 17592211243138 ||| m = m) :
    ∃ t, execScalCheck s = .next t ∧ State.SameOutside m o t := by
  refine ⟨_, rfl, ?_⟩
  exact (State.live_same h (mask_trans rfl k) (fun s0 h1 => (State.scalCheck_same h1 (mask_trans rfl k))))

theorem execScalRun_same (h : State.SameOutside m o s) (k : 73786976294838206463 ||| m = m) :
    ∃ t, execScalRun a0 a1 s = .next t ∧ State.SameOutside m o t := by
  refine ⟨_, rfl, ?_⟩
  exact (State.live_same h (mask_trans rfl k) (fun s0 h1 => (State.command_same h1 (mask_trans rfl k))))

theorem execScalRunStart_same (h : State.SameOutside m o s) (k : 35184388866048 ||| m = m) :
    ∃ t, execScalRunStart s = .next t ∧ State.SameOutside m o t := by
  refine ⟨_, rfl, ?_⟩
  exact (State.live_same h (mask_trans rfl k) (fun s0 h1 => (State.scalRunStart_same h1 (mask_trans rfl k))))

theorem execScalMemberDone_same (h : State.SameOutside m o s) (k : 73786975197527456740 ||| m = m) :
    ∃ t, execScalMemberDone a0 a1 a2 a3 s = .next t ∧ State.SameOutside m o t := by
  refine ⟨_, rfl, ?_⟩
  exact (State.live_same h (mask_trans rfl k) (fun s0 h1 => (State.scalMemberDone_same h1 (mask_trans rfl k))))

theorem execScalRunDone_same (h : State.SameOutside m o s) (k : 35186536349696 ||| m = m) :
    ∃ t, execScalRunDone s = .next t ∧ State.SameOutside m o t := by
  refine ⟨_, rfl, ?_⟩
  exact (State.live_same h (mask_trans rfl k) (fun s0 h1 => (State.scalRunDone_same h1 (mask_trans rfl k))))

theorem execMadcConversion_same (h : State.SameOutside m o s) (k : 316661580169220 ||| m = m) :
    ∃ t, execMadcConversion a0 a1 s = .next t ∧ State.SameOutside m o t := by
  refine ⟨_, rfl, ?_⟩
  exact (State.live_same h (mask_trans rfl k) (fun s0 h1 => (State.madcPosted_same h1 (mask_trans rfl k))))

theorem execRefinGate_same (h : State.SameOutside m o s) (k : 35186536349696 ||| m = m) :
    ∃ t, execRefinGate a0 s = .next t ∧ State.SameOutside m o t := by
  refine ⟨_, rfl, ?_⟩
  exact (State.live_same h (mask_trans rfl k) (fun s0 h1 => (State.refinGate_same h1 (mask_trans rfl k))))

theorem execRefinLoss_same (h : State.SameOutside m o s) (k : 35186536349696 ||| m = m) :
    ∃ t, execRefinLoss s = .next t ∧ State.SameOutside m o t := by
  refine ⟨_, rfl, ?_⟩
  exact (State.live_same h (mask_trans rfl k) (fun s0 h1 => (State.refinLoss_same h1 (mask_trans rfl k))))

theorem execOscCountDone_same (h : State.SameOutside m o s) (k : 73786975197527456740 ||| m = m) :
    ∃ t, execOscCountDone a0 s = .next t ∧ State.SameOutside m o t := by
  refine ⟨_, rfl, ?_⟩
  exact (State.live_same h (mask_trans rfl k) (fun s0 h1 => (State.oscCountDone_same h1 (mask_trans rfl k))))

end Sys2Proof.Machine
end

