-- ==== Sys2Proof/Laws/Frame/ExecPair.lean ====
section
/-! SUPPORT. What every command leaves alone: one lemma for each function of Machine/ExecPair.lean that changes the state. -/

namespace Sys2Proof.Machine

variable {o s : State} {m : Nat}

theorem execMirrorHeartbeatRx_same (h : State.SameOutside m o s) (k : 73786975197507618820 ||| m = m) :
    ∃ t, execMirrorHeartbeatRx a0 a1 a2 a3 a4 a5 a6 a7 a8 s = .next t ∧ State.SameOutside m o t := by
  refine ⟨_, rfl, ?_⟩
  exact (State.live_same h (mask_trans rfl k) (fun s0 h1 => (State.settle_same (State.mirrorRx_same h1 (mask_trans rfl k) (fun s3 h4 => (State.heartbeatRx_same h4 (mask_trans rfl k)))) (mask_trans rfl k))))

theorem execMirrorCommitRx_same (h : State.SameOutside m o s) (k : 73786975197595188220 ||| m = m) :
    ∃ t, execMirrorCommitRx a0 a1 a2 a3 a4 a5 s = .next t ∧ State.SameOutside m o t := by
  refine ⟨_, rfl, ?_⟩
  exact (State.live_same h (mask_trans rfl k) (fun s0 h1 => (State.settle_same (State.mirrorRx_same h1 (mask_trans rfl k) (fun s3 h4 => (State.mirrorCommitRx_same h4 (mask_trans rfl k) (pageMask_any _ (mask_trans rfl k))))) (mask_trans rfl k))))

theorem execMirrorOutcomeRx_same (h : State.SameOutside m o s) (k : 73786975197595188220 ||| m = m) :
    ∃ t, execMirrorOutcomeRx a0 a1 a2 s = .next t ∧ State.SameOutside m o t := by
  refine ⟨_, rfl, ?_⟩
  exact (State.live_same h (mask_trans rfl k) (fun s0 h1 => (State.settle_same (State.mirrorRx_same h1 (mask_trans rfl k) (fun s3 h4 => (State.outcomeRx_same h4 (mask_trans rfl k) (pageMask_any _ (mask_trans rfl k))))) (mask_trans rfl k))))

theorem execOutcomeWaitExpiry_same (h : State.SameOutside m o s) (k : 73786975197507616898 ||| m = m) :
    ∃ t, execOutcomeWaitExpiry a0 s = .next t ∧ State.SameOutside m o t := by
  refine ⟨_, rfl, ?_⟩
  exact (State.live_same h (mask_trans rfl k) (fun s0 h1 => (State.settle_same (State.outcomeExpiry_same h1 (mask_trans rfl k) (pageMask_any _ (mask_trans rfl k))) (mask_trans rfl k))))

theorem execMirrorBlockRx_same (h : State.SameOutside m o s) (k : 73786975197507665920 ||| m = m) :
    ∃ t, execMirrorBlockRx a0 a1 a2 a3 a4 s = .next t ∧ State.SameOutside m o t := by
  refine ⟨_, rfl, ?_⟩
  exact (State.live_same h (mask_trans rfl k) (fun s0 h1 => (State.settle_same (State.mirrorRx_same h1 (mask_trans rfl k) (fun s3 h4 => (State.mirrorBlockRx_same h4 (mask_trans rfl k)))) (mask_trans rfl k))))

theorem execMirrorRebuildRx_same (h : State.SameOutside m o s) (k : 73786975197507616768 ||| m = m) :
    ∃ t, execMirrorRebuildRx a0 a1 a2 a3 a4 s = .next t ∧ State.SameOutside m o t := by
  refine ⟨_, rfl, ?_⟩
  exact (State.live_same h (mask_trans rfl k) (fun s0 h1 => (State.settle_same (State.mirrorRx_same h1 (mask_trans rfl k) (fun s3 h4 => (State.mirrorRebuildRx_same h4 (mask_trans rfl k)))) (mask_trans rfl k))))

theorem execMirrorListRx_same (h : State.SameOutside m o s) (k : 73786975197507624960 ||| m = m) :
    ∃ t, execMirrorListRx a0 a1 a2 a3 a4 s = .next t ∧ State.SameOutside m o t := by
  refine ⟨_, rfl, ?_⟩
  exact (State.live_same h (mask_trans rfl k) (fun s0 h1 => (State.settle_same (State.mirrorRx_same h1 (mask_trans rfl k) (fun s3 h4 => (State.mirrorListRx_same h4 (mask_trans rfl k)))) (mask_trans rfl k))))

theorem execMirrorCommandRx_same (h : State.SameOutside m o s) (k : 73786976294838206463 ||| m = m) :
    ∃ t, execMirrorCommandRx a0 a1 a2 a3 s = .next t ∧ State.SameOutside m o t := by
  refine ⟨_, rfl, ?_⟩
  exact (State.live_same h (mask_trans rfl k) (fun s0 h1 => (State.settle_same (State.mirrorRx_same h1 (mask_trans rfl k) (fun s3 h4 => (State.mirrorCommandRx_same h4 (mask_trans rfl k) (pageMask_any _ (mask_trans rfl k))))) (mask_trans rfl k))))

theorem execMirrorSplitRx_same (h : State.SameOutside m o s) (k : 73786975197507618820 ||| m = m) :
    ∃ t, execMirrorSplitRx a0 a1 a2 a3 a4 s = .next t ∧ State.SameOutside m o t := by
  refine ⟨_, rfl, ?_⟩
  exact (State.live_same h (mask_trans rfl k) (fun s0 h1 => (State.settle_same (State.mirrorRx_same h1 (mask_trans rfl k) (fun s3 h4 => (State.splitRx_same h4 (mask_trans rfl k)))) (mask_trans rfl k))))

theorem execMirrorYieldRx_same (h : State.SameOutside m o s) (k : 73786975197507616768 ||| m = m) :
    ∃ t, execMirrorYieldRx a0 a1 s = .next t ∧ State.SameOutside m o t := by
  refine ⟨_, rfl, ?_⟩
  exact (State.live_same h (mask_trans rfl k) (fun s0 h1 => (State.settle_same (State.mirrorRx_same h1 (mask_trans rfl k) (fun s3 h4 => (State.yieldRx_same h4 (mask_trans rfl k)))) (mask_trans rfl k))))

theorem execMirrorTakenRx_same (h : State.SameOutside m o s) (k : 73786975197507623040 ||| m = m) :
    ∃ t, execMirrorTakenRx a0 s = .next t ∧ State.SameOutside m o t := by
  refine ⟨_, rfl, ?_⟩
  exact (State.live_same h (mask_trans rfl k) (fun s0 h1 => (State.settle_same (State.mirrorRx_same h1 (mask_trans rfl k) (fun s3 h4 => (State.takenRx_same h4 (mask_trans rfl k)))) (mask_trans rfl k))))

theorem execMirrorResyncRx_same (h : State.SameOutside m o s) (k : 73786975197507618820 ||| m = m) :
    ∃ t, execMirrorResyncRx a0 a1 s = .next t ∧ State.SameOutside m o t := by
  refine ⟨_, rfl, ?_⟩
  exact (State.live_same h (mask_trans rfl k) (fun s0 h1 => (State.settle_same (State.mirrorRx_same h1 (mask_trans rfl k) (fun s3 h4 => (State.resyncRx_same h4 (mask_trans rfl k)))) (mask_trans rfl k))))

theorem execMirrorDiagrespRx_same (h : State.SameOutside m o s) (k : 73786975197527473124 ||| m = m) :
    ∃ t, execMirrorDiagrespRx a0 a1 a2 a3 a4 s = .next t ∧ State.SameOutside m o t := by
  refine ⟨_, rfl, ?_⟩
  exact (State.live_same h (mask_trans rfl k) (fun s0 h1 => (State.settle_same (State.mirrorRx_same h1 (mask_trans rfl k) (fun s3 h4 => (State.diagRespRx_same h4 (mask_trans rfl k)))) (mask_trans rfl k))))

theorem execHeartbeatMiss_same (h : State.SameOutside m o s) (k : 73786975197507616898 ||| m = m) :
    ∃ t, execHeartbeatMiss s = .next t ∧ State.SameOutside m o t := by
  refine ⟨_, rfl, ?_⟩
  exact (State.live_same h (mask_trans rfl k) (fun s0 h1 => (State.settle_same (State.heartbeatMiss_same h1 (mask_trans rfl k)) (mask_trans rfl k))))

theorem execTakeover_same (h : State.SameOutside m o s) (k : 73786975201802586116 ||| m = m) :
    ∃ t, execTakeover a0 s = .next t ∧ State.SameOutside m o t := by
  refine ⟨_, rfl, ?_⟩
  exact (State.live_same h (mask_trans rfl k) (fun s0 h1 => (State.settle_same (State.takeover_same h1 (mask_trans rfl k)) (mask_trans rfl k))))

theorem execTailPacketRx_same (h : State.SameOutside m o s) (k : 73786975197507618816 ||| m = m) :
    ∃ t, execTailPacketRx a0 a1 a2 s = .next t ∧ State.SameOutside m o t := by
  refine ⟨_, rfl, ?_⟩
  exact (State.live_same h (mask_trans rfl k) (fun s0 h1 => (State.settle_same (State.tailPacket_same h1 (mask_trans rfl k)) (mask_trans rfl k))))

theorem execPairLeaseRenew_same (h : State.SameOutside m o s) (k : 73786975195326578688 ||| m = m) :
    ∃ t, execPairLeaseRenew s = .next t ∧ State.SameOutside m o t := by
  refine ⟨_, rfl, ?_⟩
  exact (State.live_same h (mask_trans rfl k) (fun s0 h1 => (State.leaseRenew_same h1 (mask_trans rfl k))))

theorem execResync_same (h : State.SameOutside m o s) (k : 73786976294838206463 ||| m = m) :
    ∃ t, execResync a0 s = .next t ∧ State.SameOutside m o t := by
  refine ⟨_, rfl, ?_⟩
  exact (State.live_same h (mask_trans rfl k) (fun s0 h1 => (State.settle_same (State.command_same h1 (mask_trans rfl k)) (mask_trans rfl k))))

theorem execResyncCopyDone_same (h : State.SameOutside m o s) (k : 73786975197507616768 ||| m = m) :
    ∃ t, execResyncCopyDone s = .next t ∧ State.SameOutside m o t := by
  refine ⟨_, rfl, ?_⟩
  exact (State.live_same h (mask_trans rfl k) (fun s0 h1 => (State.settle_same (State.resyncCopyDone_same h1 (mask_trans rfl k)) (mask_trans rfl k))))

theorem execSwitchover_same (h : State.SameOutside m o s) (k : 73786976294838206463 ||| m = m) :
    ∃ t, execSwitchover a0 s = .next t ∧ State.SameOutside m o t := by
  refine ⟨_, rfl, ?_⟩
  exact (State.live_same h (mask_trans rfl k) (fun s0 h1 => (State.settle_same (State.command_same h1 (mask_trans rfl k)) (mask_trans rfl k))))

end Sys2Proof.Machine
end

