-- ==== Sys2Proof/Laws/Frame/ExecFirmware.lean ====
section
/-! SUPPORT. What every command leaves alone: one lemma for each function of Machine/ExecFirmware.lean that changes the state. -/

namespace Sys2Proof.Machine

variable {o s : State} {m : Nat}

theorem State.stateVersion_same (h : State.SameOutside m o s) (k : 536870912 ||| m = m) :
    State.SameOutside m o (State.stateVersion s b1 b2) := by
  unfold State.stateVersion
  extract_lets -merge -useContext -underBinder x0
  exact (State.SameOutside.set_boot h (mask_trans rfl k))

theorem execUpdateStart_same (h : State.SameOutside m o s) (k : 73786976294838206463 ||| m = m) :
    ∃ t, execUpdateStart a0 a1 s = .next t ∧ State.SameOutside m o t := by
  refine ⟨_, rfl, ?_⟩
  exact (State.live_same h (mask_trans rfl k) (fun s0 h1 => (State.command_same h1 (mask_trans rfl k))))

theorem execUpdateAbort_same (h : State.SameOutside m o s) (k : 73786976294838206463 ||| m = m) :
    ∃ t, execUpdateAbort a0 s = .next t ∧ State.SameOutside m o t := by
  refine ⟨_, rfl, ?_⟩
  exact (State.live_same h (mask_trans rfl k) (fun s0 h1 => (State.command_same h1 (mask_trans rfl k))))

theorem execUpdateBlock_same (h : State.SameOutside m o s) (k : 73786975197594565604 ||| m = m) :
    ∃ t, execUpdateBlock s = .next t ∧ State.SameOutside m o t := by
  refine ⟨_, rfl, ?_⟩
  exact (State.live_same h (mask_trans rfl k) (fun s0 h1 => (State.updateBlock_same h1 (mask_trans rfl k))))

theorem execFwActivate_same (h : State.SameOutside m o s) (k : 73786976294838206463 ||| m = m) :
    ∃ t, execFwActivate a0 s = .next t ∧ State.SameOutside m o t := by
  refine ⟨_, rfl, ?_⟩
  exact (State.live_same h (mask_trans rfl k) (fun s0 h1 => (State.command_same h1 (mask_trans rfl k))))

theorem execActivateDone_same (h : State.SameOutside m o s) (k : 281477661065216 ||| m = m) :
    ∃ t, execActivateDone s = .next t ∧ State.SameOutside m o t := by
  refine ⟨_, rfl, ?_⟩
  exact (State.live_same h (mask_trans rfl k) (fun s0 h1 => (State.activateDone_same h1 (mask_trans rfl k))))

theorem execFwHandover_same (h : State.SameOutside m o s) (k : 73786976294838206463 ||| m = m) :
    ∃ t, execFwHandover a0 a1 a2 s = .next t ∧ State.SameOutside m o t := by
  refine ⟨_, rfl, ?_⟩
  exact (State.live_same h (mask_trans rfl k) (fun s0 h1 => (State.command_same (State.stateVersion_same h1 (mask_trans rfl k)) (mask_trans rfl k))))

theorem execFwAliveWrite_same (h : State.SameOutside m o s) (k : 73786976294838206463 ||| m = m) :
    ∃ t, execFwAliveWrite a0 a1 s = .next t ∧ State.SameOutside m o t := by
  refine ⟨_, rfl, ?_⟩
  exact (State.live_same h (mask_trans rfl k) (fun s0 h1 => (State.writeReg_same h1 (mask_trans rfl k))))

theorem execHandoverRevert_same (h : State.SameOutside m o s) (k : 281477728174210 ||| m = m) :
    ∃ t, execHandoverRevert s = .next t ∧ State.SameOutside m o t := by
  refine ⟨_, rfl, ?_⟩
  exact (State.live_same h (mask_trans rfl k) (fun s0 h1 => (State.handoverRevert_same h1 (mask_trans rfl k))))

theorem execFwConfirm_same (h : State.SameOutside m o s) (k : 73786976294838206463 ||| m = m) :
    ∃ t, execFwConfirm a0 s = .next t ∧ State.SameOutside m o t := by
  refine ⟨_, rfl, ?_⟩
  exact (State.live_same h (mask_trans rfl k) (fun s0 h1 => (State.command_same h1 (mask_trans rfl k))))

theorem execSvnAdvance_same (h : State.SameOutside m o s) (k : 73786976294838206463 ||| m = m) :
    ∃ t, execSvnAdvance a0 a1 s = .next t ∧ State.SameOutside m o t := by
  refine ⟨_, rfl, ?_⟩
  exact (State.live_same h (mask_trans rfl k) (fun s0 h1 => (State.command_same h1 (mask_trans rfl k))))

theorem execRevokeKey_same (h : State.SameOutside m o s) (k : 73786976294838206463 ||| m = m) :
    ∃ t, execRevokeKey a0 a1 s = .next t ∧ State.SameOutside m o t := by
  refine ⟨_, rfl, ?_⟩
  exact (State.live_same h (mask_trans rfl k) (fun s0 h1 => (State.command_same h1 (mask_trans rfl k))))

theorem execCkptNow_same (h : State.SameOutside m o s) (k : 73786976294838206463 ||| m = m) :
    ∃ t, execCkptNow a0 s = .next t ∧ State.SameOutside m o t := by
  refine ⟨_, rfl, ?_⟩
  exact (State.live_same h (mask_trans rfl k) (fun s0 h1 => (State.command_same h1 (mask_trans rfl k))))

theorem execWearCheckpoint_same (h : State.SameOutside m o s) (k : 73786975197594565606 ||| m = m) :
    ∃ t, execWearCheckpoint s = .next t ∧ State.SameOutside m o t := by
  refine ⟨_, rfl, ?_⟩
  exact (State.live_same h (mask_trans rfl k) (fun s0 h1 => (State.wearCheckpoint_same h1 (mask_trans rfl k))))

theorem execDiagCheckpoint_same (h : State.SameOutside m o s) (k : 67108994 ||| m = m) :
    ∃ t, execDiagCheckpoint s = .next t ∧ State.SameOutside m o t := by
  refine ⟨_, rfl, ?_⟩
  exact (State.live_same h (mask_trans rfl k) (fun s0 h1 => (State.diagCheckpoint_same h1 (mask_trans rfl k))))

theorem execFlashOpIssue_same (h : State.SameOutside m o s) (k : 281477191303172 ||| m = m) :
    ∃ t, execFlashOpIssue s = .next t ∧ State.SameOutside m o t := by
  refine ⟨_, rfl, ?_⟩
  exact (State.live_same h (mask_trans rfl k) (fun s0 h1 => (State.flashIssue_same h1 (mask_trans rfl k))))

theorem execFlashOpDone_same (h : State.SameOutside m o s) (k : 73786975197728783332 ||| m = m) :
    ∃ t, execFlashOpDone a0 s = .next t ∧ State.SameOutside m o t := by
  refine ⟨_, rfl, ?_⟩
  exact (State.live_same h (mask_trans rfl k) (fun s0 h1 => (State.flashDone_same h1 (mask_trans rfl k))))

theorem execHoldTimeout_same (h : State.SameOutside m o s) (k : 576742229494726786 ||| m = m) :
    ∃ t, execHoldTimeout s = .next t ∧ State.SameOutside m o t := by
  refine ⟨_, rfl, ?_⟩
  exact (State.live_same h (mask_trans rfl k) (fun s0 h1 => (State.holdTimeout_same h1 (mask_trans rfl k))))

theorem execDailiesPeriod_same (h : State.SameOutside m o s) (k : 5188146772946976902 ||| m = m) :
    ∃ t, execDailiesPeriod s = .next t ∧ State.SameOutside m o t := by
  refine ⟨_, rfl, ?_⟩
  exact (State.live_same h (mask_trans rfl k) (fun s0 h1 => (State.dailiesPeriod_same h1 (mask_trans rfl k))))

theorem execDlyRead_same (h : State.SameOutside m o s) (k : 73786976294838206463 ||| m = m) :
    ∃ t, execDlyRead a0 s = .next t ∧ State.SameOutside m o t := by
  refine ⟨_, rfl, ?_⟩
  exact (State.live_same h (mask_trans rfl k) (fun s0 h1 => (State.command_same h1 (mask_trans rfl k))))

theorem execDlyMark_same (h : State.SameOutside m o s) (k : 73786976294838206463 ||| m = m) :
    ∃ t, execDlyMark a0 a1 s = .next t ∧ State.SameOutside m o t := by
  refine ⟨_, rfl, ?_⟩
  exact (State.live_same h (mask_trans rfl k) (fun s0 h1 => (State.command_same h1 (mask_trans rfl k))))

end Sys2Proof.Machine
end

