-- ==== Sys2Proof/Laws/Frame/ExecReset.lean ====
section
/-! SUPPORT. What every command leaves alone: one lemma for each function of Machine/ExecReset.lean that changes the state. -/

namespace Sys2Proof.Machine

variable {o s : State} {m : Nat}

theorem State.bench_same (h : State.SameOutside m o s) (k : 73786976294838206463 ||| m = m) :
    State.SameOutside m o (State.bench s b1 b2 b3) := by
  unfold State.bench
  exact (State.SameOutside.ite (State.issue_same h (mask_trans rfl k)) h)

theorem execPowerOnReset_same (h : State.SameOutside m o s) (k : 73786976294838206463 ||| m = m) :
    ∃ t, execPowerOnReset a0 s = .next t ∧ State.SameOutside m o t := by
  refine ⟨_, rfl, ?_⟩
  exact (State.powerOnReset_same h (mask_trans rfl k))

theorem execNreset_same (h : State.SameOutside m o s) (k : 73786976294838206463 ||| m = m) :
    ∃ t, execNreset a0 s = .next t ∧ State.SameOutside m o t := by
  refine ⟨_, rfl, ?_⟩
  exact (State.live_same h (mask_trans rfl k) (fun s0 h1 => (State.nreset_same h1 (mask_trans rfl k))))

theorem execDeviceReset_same (h : State.SameOutside m o s) (k : 73786976294838206463 ||| m = m) :
    ∃ t, execDeviceReset a0 s = .next t ∧ State.SameOutside m o t := by
  refine ⟨_, rfl, ?_⟩
  exact (State.live_same h (mask_trans rfl k) (fun s0 h1 => (State.command_same h1 (mask_trans rfl k))))

theorem execMgtRestart_same (h : State.SameOutside m o s) (k : 73786976294838206463 ||| m = m) :
    ∃ t, execMgtRestart a0 s = .next t ∧ State.SameOutside m o t := by
  refine ⟨_, rfl, ?_⟩
  exact (State.live_same h (mask_trans rfl k) (fun s0 h1 => (State.command_same h1 (mask_trans rfl k))))

theorem execMgtHalt_same (h : State.SameOutside m o s) (k : 73786975199206293500 ||| m = m) :
    ∃ t, execMgtHalt a0 s = .next t ∧ State.SameOutside m o t := by
  refine ⟨_, rfl, ?_⟩
  exact (State.live_same h (mask_trans rfl k) (fun s0 h1 => (State.mgtHalt_same h1 (mask_trans rfl k))))

theorem execLoaderStepDone_same (h : State.SameOutside m o s) (k : 14483964531983253702 ||| m = m) :
    ∃ t, execLoaderStepDone s = .next t ∧ State.SameOutside m o t := by
  refine ⟨_, rfl, ?_⟩
  exact (State.live_same h (mask_trans rfl k) (fun s0 h1 => (State.loaderStep_same h1 (mask_trans rfl k))))

theorem execBenchAccess_same (h : State.SameOutside m o s) (k : 73786976294838206463 ||| m = m) :
    ∃ t, execBenchAccess a0 a1 a2 s = .next t ∧ State.SameOutside m o t := by
  refine ⟨_, rfl, ?_⟩
  exact (State.live_same h (mask_trans rfl k) (fun s0 h1 => (State.bench_same h1 (mask_trans rfl k))))

theorem execBenchDataWrite_same (h : State.SameOutside m o s) (k : 73786976294838206463 ||| m = m) :
    ∃ t, execBenchDataWrite a0 s = .next t ∧ State.SameOutside m o t := by
  refine ⟨_, rfl, ?_⟩
  exact (State.live_same h (mask_trans rfl k) (fun s0 h1 => (State.bench_same h1 (mask_trans rfl k))))

theorem execBenchStart_same (h : State.SameOutside m o s) (k : 73786976294838206463 ||| m = m) :
    ∃ t, execBenchStart a0 s = .next t ∧ State.SameOutside m o t := by
  refine ⟨_, rfl, ?_⟩
  exact (State.live_same h (mask_trans rfl k) (fun s0 h1 => (State.bench_same h1 (mask_trans rfl k))))

theorem execPowerDown_same (h : State.SameOutside m o s) (k : 73786976294838206463 ||| m = m) :
    ∃ t, execPowerDown s = .next t ∧ State.SameOutside m o t := by
  refine ⟨_, rfl, ?_⟩
  exact (State.powerDown_same h (mask_trans rfl k))

end Sys2Proof.Machine
end

