-- ==== Sys2Proof/Laws/Kept.lean ====
section
/-! SUPPORT. What every command keeps, in one relation between the state at its start and every state on its way: the
canonical stores, the safe switches, one-time-programmable storage, the queue of commands, and that no group comes nearer to
light than its origin allows. One lemma for each way of changing a state; the files of Laws/Kept/ apply them. -/

namespace Sys2Proof.Machine

/-- Where a command started: its one-time-programmable storage, its queue, and the groups that may be found in CLOSING and in
PERMIT on its way. -/
structure Origin where
  otp : OtpSt
  pending : List Instr
  mayClose : Nat → Prop
  mayPermit : Nat → Prop

/-- What holds of every state on the way of a command. -/
def State.Kept (o : Origin) (s : State) : Prop :=
  s.Canonical ∧ s.SwitchesOk ∧ o.otp.Before s.otp ∧ s.pending = o.pending ∧
  ∀ g, ((s.group g).state = .closing → o.mayClose g) ∧ ((s.group g).state = .permit → o.mayPermit g)

variable {o : Origin} {s t : State}

/-- A change outside the stores, the groups, one-time-programmable storage and the queue. -/
theorem State.Kept.of_parts (h : State.Kept o s) (ep : t.pages = s.pages) (ed : t.dram = s.dram)
    (er : t.sram.words = s.sram.words) (eo : t.otp = s.otp) (eq : t.pending = s.pending)
    (eg : t.safe.groups = s.safe.groups) : State.Kept o t := by
  unfold State.Kept State.Canonical State.SwitchesOk State.group at *
  rw [ep, ed, er, eo, eq, eg]; exact h

/-- The same, field by field, for a change written out. -/
theorem State.Kept.mk {x : State} {mono free lanes trains links transport time cmp cad matte duds gaf diag mem arb flt
    chks reels pwr thm scal pair fw flash boot waiting out} {pages dram otp pending} {sram : QueueSram} {safe : SafeSt}
    (h : State.Kept o x) (ep : pages = x.pages) (ed : dram = x.dram) (er : sram = x.sram) (eo : otp = x.otp)
    (eq : pending = x.pending) (eg : safe = x.safe) :
    State.Kept o ⟨pending, mono, free, pages, lanes, trains, links, transport, time, cmp, cad, matte, duds, gaf, diag,
      dram, mem, arb, flt, chks, reels, sram, safe, pwr, thm, scal, pair, fw, flash, otp, boot, waiting, out⟩ := by
  subst ep ed er eo eq eg
  exact h

/-- The same for a change beside the groups in what SAF and GRD hold. -/
theorem State.Kept.mk_safe {x : State} {mono free lanes trains links transport time cmp cad matte duds gaf diag mem arb
    flt chks reels pwr thm scal pair fw flash boot waiting out} {inputs conns rstHigh rstRise rstFall rstReady rstQual
    rstRejected rstLowHeld xinHigh handover aliveInWindow aliveAt lastStatus msgRefused msgNext msgWait msgFrom sums
    zcap zcount marks permitNow permitPrev} {pages dram otp pending} {sram : QueueSram} {groups : SMap GroupSt}
    (h : State.Kept o x) (ep : pages = x.pages) (ed : dram = x.dram) (er : sram = x.sram) (eo : otp = x.otp)
    (eq : pending = x.pending) (eg : groups = x.safe.groups) :
    State.Kept o ⟨pending, mono, free, pages, lanes, trains, links, transport, time, cmp, cad, matte, duds, gaf, diag,
      dram, mem, arb, flt, chks, reels, sram, ⟨groups, inputs, conns, rstHigh, rstRise, rstFall, rstReady, rstQual,
      rstRejected, rstLowHeld, xinHigh, handover, aliveInWindow, aliveAt, lastStatus, msgRefused, msgNext, msgWait,
      msgFrom, sums, zcap, zcount, marks, permitNow, permitPrev⟩, pwr, thm, scal, pair, fw, flash, otp, boot, waiting,
      out⟩ := by
  subst ep ed er eo eq eg
  exact h

/-- The same for a change of the poisoned blocks of the queue SRAM. -/
theorem State.Kept.mk_sram {x : State} {mono free lanes trains links transport time cmp cad matte duds gaf diag mem arb
    flt chks reels pwr thm scal pair fw flash boot waiting out} {pages dram otp pending} {words : SMap Word} {poison :
    List Nat} {safe : SafeSt}
    (h : State.Kept o x) (ep : pages = x.pages) (ed : dram = x.dram) (er : words = x.sram.words) (eo : otp = x.otp)
    (eq : pending = x.pending) (eg : safe = x.safe) :
    State.Kept o ⟨pending, mono, free, pages, lanes, trains, links, transport, time, cmp, cad, matte, duds, gaf, diag,
      dram, mem, arb, flt, chks, reels, ⟨words, poison⟩, safe, pwr, thm, scal, pair, fw, flash, otp, boot, waiting, out⟩
      := by
  subst ep ed er eo eq eg
  exact h

/-- The same for a change that gives the queue SRAM other words in canonical form. -/
theorem State.Kept.mk_words {x : State} {mono free lanes trains links transport time cmp cad matte duds gaf diag mem arb flt
    chks reels pwr thm scal pair fw flash boot waiting out} {pages dram otp pending} {sram : QueueSram} {safe : SafeSt}
    (h : State.Kept o x) (ep : pages = x.pages) (ed : dram = x.dram) (er : SMap.wf (fun _ => 0) sram.words = true)
    (eo : otp = x.otp) (eq : pending = x.pending) (eg : safe = x.safe) :
    State.Kept o ⟨pending, mono, free, pages, lanes, trains, links, transport, time, cmp, cad, matte, duds, gaf, diag,
      dram, mem, arb, flt, chks, reels, sram, safe, pwr, thm, scal, pair, fw, flash, otp, boot, waiting, out⟩ := by
  subst ep ed eo eq eg
  exact ⟨⟨h.1.1, h.1.2.1, er⟩, h.2⟩

/-- The same for a change that gives DRAM other contents in canonical form. -/
theorem State.Kept.mk_dram {x : State} {mono free lanes trains links transport time cmp cad matte duds gaf diag mem arb flt
    chks reels pwr thm scal pair fw flash boot waiting out} {pages dram otp pending} {sram : QueueSram} {safe : SafeSt}
    (h : State.Kept o x) (ep : pages = x.pages) (ed : Memory.wf dram = true) (er : sram = x.sram)
    (eo : otp = x.otp) (eq : pending = x.pending) (eg : safe = x.safe) :
    State.Kept o ⟨pending, mono, free, pages, lanes, trains, links, transport, time, cmp, cad, matte, duds, gaf, diag,
      dram, mem, arb, flt, chks, reels, sram, safe, pwr, thm, scal, pair, fw, flash, otp, boot, waiting, out⟩ := by
  subst ep er eo eq eg
  exact ⟨⟨h.1.1, ed, h.1.2.2⟩, h.2⟩

/-- A change of the register file alone. -/
theorem State.Kept.of_pages (h : State.Kept o s) {p : Pages} (hp : s.pages.wf = true → p.wf = true) :
    State.Kept o { s with pages := p } :=
  ⟨⟨hp h.1.1, h.1.2⟩, h.2⟩

/-- A change of DRAM alone. -/
theorem State.Kept.of_dram (h : State.Kept o s) {m : DramSt} (hm : Memory.wf s.dram = true → Memory.wf m = true) :
    State.Kept o { s with dram := m } :=
  ⟨⟨h.1.1, hm h.1.2.1, h.1.2.2⟩, h.2⟩

/-- A change of one-time-programmable storage that only adds. -/
theorem State.Kept.of_otp (h : State.Kept o s) {p : OtpSt} (hp : s.otp.Before p) : State.Kept o { s with otp := p } := by
  obtain ⟨hc, hs, hb, hq⟩ := h
  refine ⟨hc, hs, ?_, hq⟩
  obtain ⟨a1, a2, a3, a4, a5, a6⟩ := hb
  obtain ⟨b1, b2, b3, b4, b5, b6⟩ := hp
  refine ⟨a1.trans b1, ?_, Nat.le_trans a3 b3, Nat.le_trans a4 b4, b5 ∘ a5, b6 ∘ a6⟩
  rw [← b2, ← Nat.or_assoc, a2]

theorem State.Kept.ite {a b : State} {c : Prop} [Decidable c] (ha : State.Kept o a) (hb : State.Kept o b) :
    State.Kept o (if c then a else b) := by
  split <;> assumption

/-! The same for results in which a state stands beside other values. -/

theorem State.Kept.ite1 {α : Type} {a b : State × α} {c : Prop} [Decidable c] (ha : State.Kept o a.1)
    (hb : State.Kept o b.1) : State.Kept o (if c then a else b).1 := by
  split <;> assumption

theorem State.Kept.ite2 {α : Type} {a b : α × State} {c : Prop} [Decidable c] (ha : State.Kept o a.2)
    (hb : State.Kept o b.2) : State.Kept o (if c then a else b).2 := by
  split <;> assumption

theorem State.Kept.ite22 {α β : Type} {a b : α × β × State} {c : Prop} [Decidable c] (ha : State.Kept o a.2.2)
    (hb : State.Kept o b.2.2) : State.Kept o (if c then a else b).2.2 := by
  split <;> assumption

theorem State.Kept.of_eq1 {α : Type} {p q : State × α} (e : p = q) (h : State.Kept o p.1) : State.Kept o q.1 := e ▸ h

theorem State.Kept.of_eq2 {α : Type} {p q : α × State} (e : p = q) (h : State.Kept o p.2) : State.Kept o q.2 := e ▸ h

theorem State.Kept.of_eq22 {α β : Type} {p q : α × β × State} (e : p = q) (h : State.Kept o p.2.2) :
    State.Kept o q.2.2 := e ▸ h

theorem State.Kept.pr1 {α : Type} {a : α} (h : State.Kept o s) : State.Kept o (s, a).1 := h

theorem State.Kept.pr2 {α : Type} {a : α} (h : State.Kept o s) : State.Kept o (a, s).2 := h

theorem State.Kept.pr22 {α β : Type} {a : α} {b : β} (h : State.Kept o s) : State.Kept o (a, b, s).2.2 := h

theorem State.Kept.foldl {α : Type} {l : List α} {f : State → α → State} (h : State.Kept o s)
    (k : ∀ a s, State.Kept o s → State.Kept o (f s a)) : State.Kept o (l.foldl f s) := by
  induction l generalizing s with
  | nil => exact h
  | cons a l ih => exact ih (k a s h)

/-- A loop whose steps may use that their element is one of the list. -/
theorem State.Kept.foldlMem {α : Type} {l : List α} {f : State → α → State} (h : State.Kept o s)
    (k : ∀ a ∈ l, ∀ s, State.Kept o s → State.Kept o (f s a)) : State.Kept o (l.foldl f s) := by
  induction l generalizing s with
  | nil => exact h
  | cons a l ih =>
    exact ih (k a (List.mem_cons_self ..) s h) fun b hb => k b (List.mem_cons_of_mem _ hb)

/-- A loop that carries a state beside other values. -/
theorem State.Kept.foldlP {α β : Type} (p : β → Prop) {l : List α} {f : β → α → β} {b : β} (h : p b)
    (k : ∀ a b, p b → p (f b a)) : p (l.foldl f b) := by
  induction l generalizing b with
  | nil => exact h
  | cons a l ih => exact ih (k a b h)

end Sys2Proof.Machine
end

