-- ==== Sys2Proof/Laws/Kept/Ops.lean ====
section
/-! SUPPORT. What every command keeps: one lemma for each function of Machine/Ops.lean that changes the state. -/

namespace Sys2Proof.Machine

variable {o : Origin} {s : State}

theorem State.setWord_kept (h : State.Kept o s) : State.Kept o (s.setWord a w) := by
  refine h.of_pages fun hp => ?_
  simp only [Pages.wf, Bool.and_eq_true] at hp ⊢
  exact ⟨⟨⟨SMap.write_wf (d := resetWord) hp.1.1.1 a w, hp.1.1.2⟩, hp.1.2⟩, hp.2⟩

theorem State.setShadow_kept (h : State.Kept o s) : State.Kept o (s.setShadow a w) := by
  refine h.of_pages fun hp => ?_
  simp only [Pages.wf, Bool.and_eq_true] at hp ⊢
  exact ⟨⟨⟨hp.1.1.1, SMap.write_wf (d := fun a => resetWord a &&& BitVec.ofNat 32 (rwsMask a)) hp.1.1.2 a w⟩, hp.1.2⟩, hp.2⟩

theorem State.setSnapWord_kept (h : State.Kept o s) : State.Kept o (s.setSnapWord a w) := by
  refine h.of_pages fun hp => ?_
  simp only [Pages.wf, Bool.and_eq_true] at hp ⊢
  exact ⟨⟨hp.1.1, SMap.write_wf (d := fun _ => 0) hp.1.2 a w⟩, hp.2⟩

theorem State.fset_kept (h : State.Kept o s) : State.Kept o (State.fset s a1 a2 a3) := by
  unfold State.fset
  exact (State.setWord_kept h)

theorem State.fsetB_kept (h : State.Kept o s) : State.Kept o (State.fsetB s a1 a2 a3) := by
  unfold State.fsetB
  exact (State.fset_kept h)

theorem State.fsetI_kept (h : State.Kept o s) : State.Kept o (State.fsetI s a1 a2 a3) := by
  unfold State.fsetI
  exact (State.fset_kept h)

theorem State.fadd_kept (h : State.Kept o s) : State.Kept o (State.fadd s a1 a2 a3) := by
  unfold State.fadd
  exact (State.fset_kept h)

theorem State.finc_kept (h : State.Kept o s) : State.Kept o (State.finc s a1 a2) := by
  unfold State.finc
  exact (State.fadd_kept h)

theorem State.fwrap_kept (h : State.Kept o s) : State.Kept o (State.fwrap s a1 a2) := by
  unfold State.fwrap
  exact (State.fset_kept h)

theorem State.fset64_kept (h : State.Kept o s) : State.Kept o (State.fset64 s a1 a2 a3 a4) := by
  unfold State.fset64
  exact (State.fset_kept (State.fset_kept h))

theorem State.fadd64_kept (h : State.Kept o s) : State.Kept o (State.fadd64 s a1 a2 a3 a4) := by
  unfold State.fadd64
  exact (State.fset64_kept h)

theorem State.setHdr_kept (h : State.Kept o s) : State.Kept o (s.setHdr p x) := by
  refine h.of_pages fun hp => ?_
  simp only [Pages.wf, Bool.and_eq_true] at hp ⊢
  exact ⟨hp.1, SMap.write_wf (d := fun _ => {}) hp.2 p x⟩

theorem State.advanceTo_kept (h : State.Kept o s) : State.Kept o (State.advanceTo s a1) := by
  unfold State.advanceTo
  extract_lets -merge -useContext -underBinder x0
  exact (State.Kept.ite (State.Kept.mk h rfl rfl rfl rfl rfl rfl) h)

theorem State.emit_kept (h : State.Kept o s) : State.Kept o (State.emit s a1) := by
  unfold State.emit
  exact (State.Kept.mk h rfl rfl rfl rfl rfl rfl)

theorem State.fresh_kept (h : State.Kept o s) : State.Kept o (State.fresh s a1).2 := by
  unfold State.fresh
  exact (State.Kept.pr2 (State.Kept.mk h rfl rfl rfl rfl rfl rfl))

theorem State.roundFree_kept (h : State.Kept o s) : State.Kept o (State.roundFree s a1 a2).2 := by
  unfold State.roundFree
  exact (State.Kept.ite2 (State.Kept.pr2 h) (by
    split
    · rename_i x0 x1 x2 x3
      have h4 : State.Kept o x2 := State.Kept.of_eq2 x3 (State.fresh_kept h)
      exact (State.Kept.pr2 h4)))

theorem State.fit16_kept (h : State.Kept o s) : State.Kept o (State.fit16 s a1 a2 a3).2 := by
  unfold State.fit16
  exact (State.Kept.ite2 (State.Kept.pr2 h) (by
    split
    · rename_i x0 x1 x2 x3
      have h4 : State.Kept o x2 := State.Kept.of_eq2 x3 (State.fresh_kept h)
      exact (State.Kept.pr2 h4)))

theorem State.noticeIfRisen_kept (h : State.Kept o s) : State.Kept o (State.noticeIfRisen s a1 a2) := by
  unfold State.noticeIfRisen
  exact (State.Kept.ite (State.emit_kept h) h)

theorem State.setEvtRegs_kept (h : State.Kept o s) : State.Kept o (State.setEvtRegs s a1 a2) := by
  unfold State.setEvtRegs
  exact (State.noticeIfRisen_kept (State.setHdr_kept h))

theorem State.evt_kept (h : State.Kept o s) : State.Kept o (State.evt s a1 a2) := by
  unfold State.evt
  extract_lets -merge -useContext -underBinder x0
  exact (State.Kept.ite (State.setHdr_kept h) (State.setEvtRegs_kept h))

theorem State.evts_kept (h : State.Kept o s) : State.Kept o (State.evts s a1 a2) := by
  unfold State.evts
  exact (State.Kept.foldl h (fun a2 s0 h1 => (State.evt_kept h1)))

theorem State.usage_kept (h : State.Kept o s) : State.Kept o (State.usage s a1) := by
  unfold State.usage
  extract_lets -merge -useContext -underBinder x0
  exact (State.Kept.ite (State.evt_kept (State.setHdr_kept h)) h)

theorem State.faultCount_kept (h : State.Kept o s) : State.Kept o (State.faultCount s a1 a2) := by
  unfold State.faultCount
  extract_lets -merge -useContext -underBinder x0
  exact (State.Kept.ite (State.evt_kept (State.setHdr_kept h)) h)

theorem mapRegs_kept (h : State.Kept o s) (k : ∀ r i s, State.Kept o s → State.Kept o (f r i s)) :
    State.Kept o (mapRegs rs f s) :=
  State.Kept.foldl h fun r _ h => State.Kept.foldl h fun i s h => k r i s h

theorem State.copyCounters_kept (h : State.Kept o s) : State.Kept o (s.copyCounters p) := by
  unfold State.copyCounters
  split
  · exact h
  · exact State.setHdr_kept (mapRegs_kept h fun r i s h => State.setWord_kept (State.setSnapWord_kept h))

theorem State.clearCounters_kept (h : State.Kept o s) : State.Kept o (s.clearCounters p) := by
  unfold State.clearCounters
  split
  · exact h
  · exact State.setHdr_kept (mapRegs_kept h fun r i s h => State.setSnapWord_kept (State.setWord_kept h))

theorem State.reloadShadows_kept (h : State.Kept o s) : State.Kept o (s.reloadShadows p) := by
  unfold State.reloadShadows
  refine State.setHdr_kept (State.Kept.foldl ?_ fun a s h => State.Kept.ite h (State.setShadow_kept h))
  refine h.of_pages fun hp => ?_
  simp only [Pages.wf, Bool.and_eq_true] at hp ⊢
  exact ⟨⟨⟨hp.1.1.1, SMap.clear_wf hp.1.1.2 _ _⟩, hp.1.2⟩, hp.2⟩

/-- The captured sets stand outside the canonical form. -/
theorem State.Kept.of_captured (h : State.Kept o s) : State.Kept o { s with pages := { s.pages with pnd := m } } :=
  h.of_pages fun hp => hp

/-- So does the pending group. -/
theorem State.Kept.of_group (h : State.Kept o s) : State.Kept o { s with pages := { s.pages with group := g } } :=
  h.of_pages fun hp => hp

theorem State.capture_kept (h : State.Kept o s) : State.Kept o (s.capture p) := h.of_captured

theorem State.dropCapture_kept (h : State.Kept o s) : State.Kept o (s.dropCapture p) := h.of_captured

theorem State.mergeCapture_kept (h : State.Kept o s) : State.Kept o (State.mergeCapture s a1) := by
  unfold State.mergeCapture
  extract_lets -merge -useContext -underBinder x0 x1 x2 x3
  have h4 : State.Kept o x3 := (State.Kept.foldl h (fun a7 s5 h6 => (State.Kept.ite h6 (State.setWord_kept h6))))
  exact (State.dropCapture_kept h4)

theorem State.resetPage_kept (h : State.Kept o s) : State.Kept o (s.resetPage p) := by
  refine h.of_pages fun hp => ?_
  simp only [Pages.wf, Bool.and_eq_true] at hp ⊢
  exact ⟨⟨⟨SMap.clear_wf hp.1.1.1 _ _, SMap.clear_wf hp.1.1.2 _ _⟩, SMap.clear_wf hp.1.2 _ _⟩, SMap.del_wf hp.2 _⟩

theorem State.breakLock_kept (h : State.Kept o s) : State.Kept o (State.breakLock s a1) := by
  unfold State.breakLock
  extract_lets -merge -useContext -underBinder x0 x1
  have h2 : State.Kept o x0 := (State.reloadShadows_kept h)
  exact (State.Kept.ite (State.evt_kept (State.setHdr_kept h2)) h)

theorem State.breakLocksOf_kept (h : State.Kept o s) : State.Kept o (State.breakLocksOf s a1) := by
  unfold State.breakLocksOf
  exact (State.Kept.foldl h (fun a2 s0 h1 => (State.Kept.ite (State.breakLock_kept h1) h1)))

theorem State.cmdEnd_kept (h : State.Kept o s) : State.Kept o (State.cmdEnd s a1 a2 a3 a4 a5) := by
  unfold State.cmdEnd
  extract_lets -merge -useContext -underBinder x0
  exact (State.evt_kept (State.setHdr_kept h))

theorem State.cmdDone_kept (h : State.Kept o s) : State.Kept o (State.cmdDone s a1) := by
  unfold State.cmdDone
  split
  · rename_i x0 x1
    exact h
  · rename_i x2 x3 x4
    extract_lets -merge -useContext -underBinder x5
    exact (State.cmdEnd_kept (State.setHdr_kept h))

theorem State.cmdFail_kept (h : State.Kept o s) : State.Kept o (State.cmdFail s a1 a2) := by
  unfold State.cmdFail
  split
  · rename_i x0 x1
    exact h
  · rename_i x2 x3 x4
    extract_lets -merge -useContext -underBinder x5
    exact (State.cmdEnd_kept (State.setHdr_kept h))

theorem State.cmdStart_kept (h : State.Kept o s) : State.Kept o (State.cmdStart s a1 a2 a3 a4) := by
  unfold State.cmdStart
  extract_lets -merge -useContext -underBinder x0
  exact (State.setHdr_kept h)

theorem State.setDud_kept (h : State.Kept o s) : State.Kept o (State.setDud s a1 a2) := by
  unfold State.setDud
  exact (State.Kept.mk h rfl rfl rfl rfl rfl rfl)

end Sys2Proof.Machine
end

