-- ==== Sys2Proof/Laws/Kept/Mirror.lean ====
section
/-! SUPPORT. What every command keeps: one lemma for each function of Machine/Mirror.lean that changes the state. -/

namespace Sys2Proof.Machine

variable {o : Origin} {s : State}

theorem State.sendMirror_kept (h : State.Kept o s) : State.Kept o (State.sendMirror s a1) := by
  unfold State.sendMirror
  extract_lets -merge -useContext -underBinder x0
  exact (State.emit_kept (State.fset_kept h))

theorem State.flushMirror_kept (h : State.Kept o s) : State.Kept o (State.flushMirror s) := by
  unfold State.flushMirror
  extract_lets -merge -useContext -underBinder x0 x1
  exact (State.Kept.ite (State.Kept.foldl (State.Kept.mk h rfl rfl rfl rfl rfl rfl) (fun a4 s2 h3 => (State.sendMirror_kept h3))) h)

theorem State.queueMirror_kept (h : State.Kept o s) : State.Kept o (State.queueMirror s a1) := by
  unfold State.queueMirror
  extract_lets -merge -useContext -underBinder x0 x1
  exact (State.Kept.ite (State.Kept.mk h rfl rfl rfl rfl rfl rfl) (State.evt_kept (State.fset_kept h)))

theorem State.mirror_kept (h : State.Kept o s) : State.Kept o (State.mirror s a1) := by
  unfold State.mirror
  exact (State.Kept.ite (State.sendMirror_kept (State.flushMirror_kept h)) (State.Kept.ite h (State.queueMirror_kept h)))

theorem State.mirrorActive_kept (h : State.Kept o s) : State.Kept o (State.mirrorActive s a1) := by
  unfold State.mirrorActive
  exact (State.Kept.ite (State.mirror_kept h) h)

end Sys2Proof.Machine
end

