-- ==== Sys2Proof/Laws/Kept/Ring.lean ====
section
/-! SUPPORT. What every command keeps: one lemma for each function of Machine/Ring.lean that changes the state. -/

namespace Sys2Proof.Machine

variable {o : Origin} {s : State}

theorem State.setTileLive_kept (h : State.Kept o s) : State.Kept o (State.setTileLive s a1 a2) := by
  unfold State.setTileLive
  extract_lets -merge -useContext -underBinder x0
  exact (State.fset_kept h)

theorem State.setMask_kept (h : State.Kept o s) : State.Kept o (State.setMask s a1 a2 a3) := by
  unfold State.setMask
  exact (State.Kept.foldl h (fun a2 s0 h1 => (State.fset_kept h1)))

theorem State.showRing_kept (h : State.Kept o s) : State.Kept o (State.showRing s a1) := by
  unfold State.showRing
  extract_lets -merge -useContext -underBinder x0 x1 x2 x3 x4 x5 x6 x7 x8
  have h9 : State.Kept o x2 := (State.fset_kept (State.setMask_kept (State.setMask_kept h)))
  have h10 : State.Kept o x3 := (State.fset_kept h9)
  have h11 : State.Kept o x4 := (State.fsetB_kept h10)
  have h12 : State.Kept o x5 := (State.Kept.foldl h11 (fun a15 s13 h14 => (State.fsetB_kept (State.fsetB_kept h14))))
  have h16 : State.Kept o x8 := (State.fset_kept h12)
  exact (State.Kept.ite (State.Kept.ite (State.evt_kept h16) h16) h12)

theorem State.ringSend_kept (h : State.Kept o s) : State.Kept o (State.ringSend s a1 a2 a3 a4) := by
  unfold State.ringSend
  exact (State.Kept.ite h (by
    split
    · rename_i x0 x1 x2 x3
      have h4 : State.Kept o x2 := State.Kept.of_eq2 x3 (State.fresh_kept h)
      extract_lets -merge -useContext -underBinder x5
      exact (State.emit_kept (State.setDud_kept h4))))

theorem State.sendSinkConfig_kept (h : State.Kept o s) : State.Kept o (State.sendSinkConfig s a1 a2) := by
  unfold State.sendSinkConfig
  exact (State.Kept.foldl h (fun a2 s0 h1 => (State.ringSend_kept h1)))

theorem State.sendDrives_kept (h : State.Kept o s) : State.Kept o (State.sendDrives s a1 a2 a3) := by
  unfold State.sendDrives
  exact (State.Kept.foldl h (fun a2 s0 h1 => (State.ringSend_kept h1)))

theorem State.frameDoneCheck_kept (h : State.Kept o s) : State.Kept o (State.frameDoneCheck s) := by
  unfold State.frameDoneCheck
  extract_lets -merge -useContext -underBinder x0
  exact (State.Kept.ite (State.evt_kept (State.Kept.mk h rfl rfl rfl rfl rfl rfl)) h)

theorem State.sendPhase_kept (h : State.Kept o s) : State.Kept o (State.sendPhase s a1 a2 a3) := by
  unfold State.sendPhase
  extract_lets -merge -useContext -underBinder x0
  split
  · rename_i x1 x2
    split
    · rename_i x3 x4 x5
      exact (State.ringSend_kept h)
    · rename_i x6 x7
      split
      · rename_i x8 x9 x10 x11
        have h12 : State.Kept o x10 := State.Kept.of_eq2 x11 (State.fresh_kept h)
        exact (State.ringSend_kept h12)
  · rename_i x13 x14
    split
    · rename_i x15 x16 x17
      exact (State.ringSend_kept h)
    · rename_i x18 x19
      exact (State.sendSinkConfig_kept h)
  · rename_i x20 x21 x22
    exact (State.ringSend_kept h)

theorem State.startPhase_kept (h : State.Kept o s) : State.Kept o (State.startPhase s a1 a2) := by
  unfold State.startPhase
  extract_lets -merge -useContext -underBinder x0 x1
  have h2 : State.Kept o x0 := (State.sendPhase_kept h)
  exact (State.setDud_kept h2)

theorem State.startOn_kept (h : State.Kept o s) : State.Kept o (State.startOn s a1 a2 a3) := by
  unfold State.startOn
  exact (State.Kept.ite h (State.startPhase_kept h))

end Sys2Proof.Machine
end

