-- ==== Sys2Proof/Laws/Kept/Dram.lean ====
section
/-! SUPPORT. What every command keeps: one lemma for each function of Machine/Dram.lean that changes the state. -/

namespace Sys2Proof.Machine

variable {o : Origin} {s : State}

theorem State.setByte_kept (h : State.Kept o s) : State.Kept o (s.setByte a v) := by
  refine h.of_dram fun hm => ?_
  simp only [Memory.wf, Bool.and_eq_true] at hm ⊢
  exact ⟨⟨⟨SMap.write_wf (d := fun _ => dramDefault) hm.1.1.1 a _, hm.1.1.2⟩, hm.1.2⟩, hm.2⟩

theorem State.setTag_kept (h : State.Kept o s) : State.Kept o (s.setTag b t p) := by
  refine h.of_dram fun hm => ?_
  simp only [Memory.wf, Bool.and_eq_true] at hm ⊢
  exact ⟨⟨⟨hm.1.1.1, SMap.write_wf (d := fun _ => 0) hm.1.1.2 b _⟩, SMap.write_wf (d := fun _ => false) hm.1.2 b _⟩,
    SMap.del_wf hm.2 _⟩

theorem State.writeBlock_kept (h : State.Kept o s) : State.Kept o (State.writeBlock s a1 a2 a3 a4) := by
  unfold State.writeBlock
  exact (State.setTag_kept (State.Kept.foldl h (fun a2 s0 h1 => (State.setByte_kept h1))))

theorem State.putBlock_kept (h : State.Kept o s) : State.Kept o (State.putBlock s a1 a2 a3 a4) := by
  unfold State.putBlock
  exact (State.Kept.ite h (State.writeBlock_kept (State.fset_kept h)))

theorem State.admitWrite_kept (h : State.Kept o s) : State.Kept o (State.admitWrite s a1 a2 a3 a4 a5) := by
  unfold State.admitWrite
  extract_lets -merge -useContext -underBinder x0 x1 x2
  have h3 : State.Kept o x1 := (State.Kept.ite (State.finc_kept (State.Kept.mk h rfl rfl rfl rfl rfl rfl)) h)
  have h4 : State.Kept o x2 := (State.putBlock_kept h3)
  exact (State.Kept.ite h (State.Kept.ite (State.mirrorActive_kept h4) h4))

theorem State.writeBytes_kept (h : State.Kept o s) : State.Kept o (State.writeBytes s a1 a2 a3 a4 a5) := by
  unfold State.writeBytes
  exact (State.Kept.foldl h (fun a2 s0 h1 => (State.admitWrite_kept h1)))

theorem State.writeNat_kept (h : State.Kept o s) : State.Kept o (State.writeNat s a1 a2 a3 a4 a5) := by
  unfold State.writeNat
  exact (State.writeBytes_kept h)

end Sys2Proof.Machine
end

