-- ==== Sys2Proof/Laws/Kept/Engine.lean ====
section
/-! SUPPORT. What every command keeps: one lemma for each function of Machine/Engine.lean that changes the state. -/

namespace Sys2Proof.Machine

variable {o : Origin} {s : State}

theorem State.putResidual_kept (h : State.Kept o s) : State.Kept o (State.putResidual s a1 a2 a3 a4) := by
  unfold State.putResidual
  extract_lets -merge -useContext -underBinder x0
  exact (State.Kept.ite (State.writeBytes_kept h) h)

theorem State.putCode_kept (h : State.Kept o s) : State.Kept o (State.putCode s a1 a2 a3 a4 a5) := by
  unfold State.putCode
  extract_lets -merge -useContext -underBinder x0 x1
  have h2 : State.Kept o x0 := (State.putResidual_kept h)
  exact (State.Kept.mk h2 rfl rfl rfl rfl rfl rfl)

theorem State.probe_kept (h : State.Kept o s) : State.Kept o (State.probe s a1 a2 a3 a4 a5 a6 a7 a8) := by
  unfold State.probe
  extract_lets -merge -useContext -underBinder x0 x1
  have h2 : State.Kept o x1 := (State.Kept.foldl h (fun a5 s3 h4 => (by
    extract_lets -merge -useContext -underBinder x6
    have h7 : State.Kept o x6 := (State.fset_kept (State.fset_kept h4))
    exact (State.fset_kept (State.fset_kept (State.fset_kept h7))))))
  exact (State.Kept.ite (State.fset_kept (State.fset_kept h2)) h)

theorem State.peBank_kept (h : State.Kept o s) : State.Kept o (State.peBank s a1 a2 a3 a4 a5 a6) := by
  unfold State.peBank
  extract_lets -merge -useContext -underBinder x0 x1 x2
  exact (State.Kept.ite (State.Kept.foldl h (fun a5 s3 h4 => (State.putCode_kept h4))) (by
    split
    · rename_i x6 x7 x8 x9
      extract_lets -merge -useContext -underBinder x10 x11 x12 x13
      have h14 : State.Kept o x10 := (State.Kept.ite (State.finc_kept h) h)
      have h15 : State.Kept o x13 := (State.Kept.foldl h14 (fun a18 s16 h17 => (State.putCode_kept h17)))
      exact (State.probe_kept h15)))

theorem State.pePixel_kept (h : State.Kept o s) : State.Kept o (State.pePixel s a1 a2 a3) := by
  unfold State.pePixel
  extract_lets -merge -useContext -underBinder x0 x1 x2 x3 x4 x5 x6 x7 x8 x9 x10
  have h11 : State.Kept o x5 := (State.Kept.ite (State.finc_kept h) h)
  have h12 : State.Kept o x7 := (State.finc_kept h11)
  have h13 : State.Kept o x9 := (State.Kept.ite (State.Kept.mk h12 rfl rfl rfl rfl rfl rfl) h11)
  exact (State.Kept.foldl h13 (fun a16 s14 h15 => (State.peBank_kept h15)))

theorem State.peTile_kept (h : State.Kept o s) : State.Kept o (State.peTile s a1) := by
  unfold State.peTile
  exact (State.Kept.foldl h (fun a2 s0 h1 => (State.Kept.foldl h1 (fun a5 s3 h4 => (State.pePixel_kept h4)))))

end Sys2Proof.Machine
end

