-- ==== Sys2Proof/Laws/Kept/SafeCore.lean ====
section
/-! SUPPORT. What every command keeps: one lemma for each function of Machine/SafeCore.lean that changes the state. -/

namespace Sys2Proof.Machine

variable {o : Origin} {s : State}

/-- Setting a group keeps what it must when the new record keeps its switches safe and comes no nearer to light. -/
theorem State.setGroup_kept (h : State.Kept o s) (hx : x.switchesOk) (hc : x.state = .closing → o.mayClose g)
    (hp : x.state = .permit → o.mayPermit g) : State.Kept o (s.setGroup g x) := by
  obtain ⟨h1, h2, h3, h4, h5⟩ := h
  have e (g') : (s.setGroup g x).group g' = if g' = g then x else s.group g' := by
    by_cases hg : g' = g
    · subst hg; simp [State.setGroup, State.group]
    · simp [State.setGroup, State.group, SMap.read_write_other _ _ _ hg, hg]
  refine ⟨h1, fun g' => ?_, h3, h4, fun g' => ?_⟩
  · rw [e]; split
    · exact hx
    · exact h2 g'
  · rw [e]; split
    · next hg => subst hg; exact ⟨hc, hp⟩
    · exact h5 g'

/-- A change of a group that leaves its state and its switches alone. -/
theorem State.setGroup_same_kept (h : State.Kept o s) (hs : x.state = (s.group g).state) (ha : x.swA = (s.group g).swA)
    (hb : x.swB = (s.group g).swB) : State.Kept o (s.setGroup g x) := by
  refine State.setGroup_kept h ?_ ?_ ?_
  · have := h.2.1 g; unfold GroupSt.switchesOk at *; rw [hs, ha, hb]; exact this
  · rw [hs]; exact (h.2.2.2.2 g).1
  · rw [hs]; exact (h.2.2.2.2 g).2

/-- A group that has both switches open, in a state without light. -/
theorem State.setGroup_off_kept (h : State.Kept o s) (ha : x.swA = false) (hb : x.swB = false) (hc : x.state ≠ .closing)
    (hp : x.state ≠ .permit) : State.Kept o (s.setGroup g x) :=
  State.setGroup_kept h (fun hx => by simp [ha, hb] at hx) (fun e => absurd e hc) (fun e => absurd e hp)

/-- In a state other than CLOSING and PERMIT both switches are open. -/
theorem State.Kept.switches_open (h : State.Kept o s) (hc : (s.group g).state ≠ .closing)
    (hp : (s.group g).state ≠ .permit) : (s.group g).swA = false ∧ (s.group g).swB = false := by
  have := h.2.1 g
  unfold GroupSt.switchesOk at this
  refine ⟨Bool.eq_false_iff.mpr fun e => ?_, Bool.eq_false_iff.mpr fun e => ?_⟩
  · rcases this (.inl e) with e | e <;> contradiction
  · rcases this (.inr e) with e | e <;> contradiction

theorem State.setInput_kept (h : State.Kept o s) : State.Kept o (State.setInput s a1 a2) := by
  unfold State.setInput
  extract_lets -merge -useContext -underBinder x0
  subst x0
  exact (State.Kept.mk_safe h rfl rfl rfl rfl rfl rfl)

theorem State.setConn_kept (h : State.Kept o s) : State.Kept o (State.setConn s a1 a2) := by
  unfold State.setConn
  extract_lets -merge -useContext -underBinder x0
  subst x0
  exact (State.Kept.mk_safe h rfl rfl rfl rfl rfl rfl)

theorem State.sendStatus_kept (h : State.Kept o s) : State.Kept o (State.sendStatus s) := by
  unfold State.sendStatus
  extract_lets -merge -useContext -underBinder x0 x1 x2 x3
  have h4 : State.Kept o x2 := (State.emit_kept (State.fset_kept h))
  subst x3
  exact (State.Kept.ite (State.Kept.mk_safe h4 rfl rfl rfl rfl rfl rfl) h)

theorem State.statusIfMoved_kept (h : State.Kept o s) : State.Kept o (State.statusIfMoved s a1) := by
  unfold State.statusIfMoved
  exact (State.Kept.ite (State.sendStatus_kept h) h)

theorem State.enterLockout_kept (h : State.Kept o s) : State.Kept o (s.enterLockout g c) :=
  State.evt_kept (State.finc_kept (State.fset_kept (State.setGroup_off_kept h rfl rfl (by simp) (by simp))))

theorem State.stopPort_kept (h : State.Kept o s) : State.Kept o (State.stopPort s a1) := by
  unfold State.stopPort
  extract_lets -merge -useContext -underBinder x0 x1
  have h2 : State.Kept o x0 := (State.setTileLive_kept h)
  exact (State.frameDoneCheck_kept (State.setDud_kept h2))

theorem State.abandonRing_kept (h : State.Kept o s) : State.Kept o (State.abandonRing s a1) := by
  unfold State.abandonRing
  extract_lets -merge -useContext -underBinder x0 x1 x2
  have h3 : State.Kept o x0 := (State.stopPort_kept h)
  have h4 : State.Kept o x2 := (State.setDud_kept h3)
  exact (State.Kept.ite (State.fset_kept h4) (State.showRing_kept h4))

theorem State.setPairState_kept (h : State.Kept o s) : State.Kept o (State.setPairState s a1) := by
  unfold State.setPairState
  exact (State.Kept.ite h (State.evt_kept (State.fset_kept h)))

theorem State.disown_kept (h : State.Kept o s) : State.Kept o (State.disown s a1) := by
  unfold State.disown
  extract_lets -merge -useContext -underBinder x0 x1 x2
  have h3 : State.Kept o x0 := (State.abandonRing_kept h)
  have h4 : State.Kept o x2 := (State.setDud_kept h3)
  exact (State.showRing_kept (State.fset_kept (State.fset_kept (State.fset_kept h4))))

theorem State.demote_kept (h : State.Kept o s) : State.Kept o (State.demote s) := by
  unfold State.demote
  extract_lets -merge -useContext -underBinder x0 x1 x2 x3
  have h4 : State.Kept o x0 := (State.Kept.foldl h (fun a7 s5 h6 => (State.disown_kept h6)))
  have h8 : State.Kept o x3 := (State.Kept.mk h4 rfl rfl rfl rfl rfl rfl)
  exact (State.Kept.ite (State.setPairState_kept (State.fset_kept h8)) h)

theorem State.darkTile_kept (h : State.Kept o s) : State.Kept o (State.darkTile s a1) := by
  unfold State.darkTile
  extract_lets -merge -useContext -underBinder x0
  have h1 : State.Kept o x0 := (State.startOn_kept (State.stopPort_kept h))
  exact (State.showRing_kept h1)

theorem State.openGroup_kept (h : State.Kept o s) : State.Kept o (s.openGroup g c) := by
  have h1 : State.Kept o (s.setGroup g { s.group g with
      state := .opening, since := s.mono, lockCause := c, swA := false, swB := false }) :=
    State.setGroup_off_kept h rfl rfl (by simp) (by simp)
  exact State.Kept.foldl (h1.of_parts rfl rfl rfl rfl rfl rfl) fun _ _ h => State.darkTile_kept h

theorem State.tripGroup_kept (h : State.Kept o s) : State.Kept o (State.tripGroup lock c s g) := by
  unfold State.tripGroup
  extract_lets x
  split
  · exact State.openGroup_kept h
  · exact State.openGroup_kept h
  · exact State.openGroup_kept h
  · exact State.Kept.ite (State.setGroup_same_kept h rfl rfl rfl) h
  · exact State.Kept.ite (State.enterLockout_kept h) h
  · exact h
  · exact h

theorem State.recordTrip_kept (h : State.Kept o s) : State.Kept o (State.recordTrip s a1 a2) := by
  unfold State.recordTrip
  extract_lets -merge -useContext -underBinder x0 x1 x2
  have h3 : State.Kept o x0 := (State.finc_kept (State.finc_kept h))
  have h4 : State.Kept o x1 := (State.fset_kept (State.fset_kept h3))
  have h5 : State.Kept o x2 := (State.fset_kept h4)
  exact (State.evt_kept (State.evt_kept h5))

theorem State.tripWith_kept (h : State.Kept o s) : State.Kept o (State.tripWith s a1 a2 a3) := by
  unfold State.tripWith
  extract_lets -merge -useContext -underBinder x0 x1 x2
  have h3 : State.Kept o x1 := (State.Kept.foldl h (fun a6 s4 h5 => (State.tripGroup_kept h5)))
  have h7 : State.Kept o x2 := (State.Kept.ite (State.recordTrip_kept h3) h3)
  exact (State.statusIfMoved_kept h7)

theorem State.trip_kept (h : State.Kept o s) : State.Kept o (State.trip s a1 a2) := by
  unfold State.trip
  exact (State.tripWith_kept h)

theorem State.openingDone_kept (h : State.Kept o s) : State.Kept o (s.openingDone g) := by
  unfold State.openingDone
  extract_lets x
  split
  · next hx =>
    have hs : (s.group g).state = .opening := by simp only [Bool.and_eq_true, decide_eq_true_eq] at hx; exact hx.1
    obtain ⟨ha, hb⟩ := h.switches_open (by rw [hs]; simp) (by rw [hs]; simp)
    exact State.Kept.ite (State.setGroup_off_kept h ha hb (by simp) (by simp)) (State.enterLockout_kept h)
  · exact h

theorem State.evalGroup_kept (h : State.Kept o s) : State.Kept o (s.evalGroup g) := by
  unfold State.evalGroup
  extract_lets x
  split
  · next hs =>
    obtain ⟨ha, hb⟩ := h.switches_open (by rw [hs]; simp) (by rw [hs]; simp)
    exact State.Kept.ite (State.evt_kept (State.setGroup_off_kept h ha hb (by simp) (by simp))) h
  · next hs =>
    obtain ⟨ha, hb⟩ := h.switches_open (by rw [hs]; simp) (by rw [hs]; simp)
    exact State.Kept.ite h (State.setGroup_off_kept h ha hb (by simp) (by simp))
  · exact h

theorem State.evalGroups_kept (h : State.Kept o s) : State.Kept o (State.evalGroups s) := by
  unfold State.evalGroups
  extract_lets -merge -useContext -underBinder x0 x1
  have h2 : State.Kept o x0 := (State.Kept.foldl h (fun a5 s3 h4 => (State.openingDone_kept h4)))
  have h6 : State.Kept o x1 := (State.Kept.foldl h2 (fun a9 s7 h8 => (State.evalGroup_kept h8)))
  exact (State.statusIfMoved_kept h6)

end Sys2Proof.Machine
end

