-- ==== Sys2Proof/Laws/Kept/Flt.lean ====
section
/-! SUPPORT. What every command keeps: one lemma for each function of Machine/Flt.lean that changes the state. -/

namespace Sys2Proof.Machine

variable {o : Origin} {s : State}

theorem State.mergeReport_kept (h : State.Kept o s) : State.Kept o (State.mergeReport s a1) := by
  unfold State.mergeReport
  extract_lets -merge -useContext -underBinder x0 x1
  have h2 : State.Kept o x0 := (State.fadd_kept h)
  exact (State.fset_kept h2)

theorem State.captureReport_kept (h : State.Kept o s) : State.Kept o (State.captureReport s a1 a2) := by
  unfold State.captureReport
  extract_lets -merge -useContext -underBinder x0 x1 x2 x3
  have h4 : State.Kept o x0 := (State.fset_kept (State.fset_kept (State.fset_kept (State.fset_kept (State.fsetB_kept (State.fset_kept h))))))
  have h5 : State.Kept o x1 := (State.fset_kept (State.fset_kept (State.fset_kept h4)))
  have h6 : State.Kept o x2 := (State.fset_kept (State.fset64_kept h5))
  have h7 : State.Kept o x3 := (State.fwrap_kept (State.fset_kept h6))
  exact (State.evt_kept h7)

theorem State.countReport_kept (h : State.Kept o s) : State.Kept o (State.countReport s a1) := by
  unfold State.countReport
  extract_lets -merge -useContext -underBinder x0
  have h1 : State.Kept o x0 := (State.fadd_kept h)
  exact (State.Kept.ite (State.faultCount_kept h1) (State.Kept.ite (State.fadd_kept h1) h1))

theorem State.signalPair_kept (h : State.Kept o s) : State.Kept o (State.signalPair s a1) := by
  unfold State.signalPair
  exact (State.mirrorActive_kept h)

theorem State.blockReset_kept (h : State.Kept o s) : State.Kept o (State.blockReset s a1) := by
  unfold State.blockReset
  split
  · rename_i x0 x1 x2 x3
    have h4 : State.Kept o x2 := State.Kept.of_eq2 x3 (State.fresh_kept h)
    extract_lets -merge -useContext -underBinder x5
    have h6 : State.Kept o x5 := (State.cmdFail_kept h4)
    split
    · rename_i x7 x8 x9
      extract_lets -merge -useContext -underBinder x10
      exact (State.fset_kept (State.Kept.mk h6 rfl rfl rfl rfl rfl rfl))
    · rename_i x11 x12 x13
      extract_lets -merge -useContext -underBinder x14 x15
      exact (State.Kept.mk h6 rfl rfl rfl rfl rfl rfl)
    · rename_i x16 x17 x18
      extract_lets -merge -useContext -underBinder x19
      exact (State.fset_kept (State.fset_kept (State.Kept.mk h6 rfl rfl rfl rfl rfl rfl)))
    · rename_i x20 x21 x22
      exact (State.fset_kept h6)
    · rename_i x23 x24 x25
      extract_lets -merge -useContext -underBinder x26
      exact (State.fset_kept (State.fset_kept (State.Kept.mk h6 rfl rfl rfl rfl rfl rfl)))
    · rename_i x27 x28 x29
      exact (State.abandonRing_kept h6)
    · rename_i x30 x31 x32
      extract_lets -merge -useContext -underBinder x33
      exact (State.Kept.mk h6 rfl rfl rfl rfl rfl rfl)
    · rename_i x34 x35 x36
      extract_lets -merge -useContext -underBinder x37
      exact (State.fset_kept (State.Kept.mk h6 rfl rfl rfl rfl rfl rfl))
    · rename_i x38 x39 x40
      extract_lets -merge -useContext -underBinder x41 x42
      have h43 : State.Kept o x41 := (State.Kept.mk h6 rfl rfl rfl rfl rfl rfl)
      exact (State.Kept.ite (State.Kept.mk h43 rfl rfl rfl rfl rfl rfl) h43)
    · rename_i x44 x45 x46
      exact (State.Kept.mk h6 rfl rfl rfl rfl rfl rfl)
    · rename_i x47 x48 x49
      exact (State.Kept.mk h6 rfl rfl rfl rfl rfl rfl)
    · rename_i x50 x51 x52 x53 x54 x55 x56 x57 x58 x59 x60 x61
      extract_lets -merge -useContext -underBinder x62 x63
      exact (State.Kept.ite (State.Kept.mk h6 rfl rfl rfl rfl rfl rfl) (State.Kept.ite (State.Kept.mk h6 rfl rfl rfl rfl rfl rfl) h6))

theorem State.react_kept (h : State.Kept o s) : State.Kept o (State.react s a1 a2) := by
  unfold State.react
  extract_lets -merge -useContext -underBinder x0 x1 x2
  have h3 : State.Kept o x0 := (State.Kept.ite (State.tripWith_kept h) h)
  have h4 : State.Kept o x1 := (State.Kept.ite (State.signalPair_kept h3) h3)
  have h5 : State.Kept o x2 := (State.Kept.ite (State.evt_kept h4) h4)
  exact (State.Kept.ite (State.Kept.ite (State.finc_kept h5) (State.blockReset_kept h5)) h5)

theorem State.intake_kept (h : State.Kept o s) : State.Kept o (State.intake s a1 a2) := by
  unfold State.intake
  extract_lets -merge -useContext -underBinder x0
  have h1 : State.Kept o x0 := (State.Kept.ite (State.mergeReport_kept h) (State.captureReport_kept h))
  exact (State.react_kept (State.countReport_kept h1))

theorem State.report_kept (h : State.Kept o s) : State.Kept o (State.report s a1) := by
  unfold State.report
  extract_lets -merge -useContext -underBinder x0
  exact (State.Kept.ite (State.Kept.mk h rfl rfl rfl rfl rfl rfl) (State.intake_kept h))

theorem State.reportDrop_kept (h : State.Kept o s) : State.Kept o (State.reportDrop s a1) := by
  unfold State.reportDrop
  exact (State.report_kept h)

theorem State.reportUsage_kept (h : State.Kept o s) : State.Kept o (State.reportUsage s a1 a2 a3 a4 a5) := by
  unfold State.reportUsage
  exact (State.report_kept h)

theorem State.breakWire_kept (h : State.Kept o s) : State.Kept o (State.breakWire s a1) := by
  unfold State.breakWire
  extract_lets -merge -useContext -underBinder x0 x1
  have h2 : State.Kept o x1 := (State.fset_kept h)
  exact (State.Kept.ite h (State.intake_kept (State.evt_kept h2)))

theorem State.mendWire_kept (h : State.Kept o s) : State.Kept o (State.mendWire s a1) := by
  unfold State.mendWire
  extract_lets -merge -useContext -underBinder x0 x1 x2 x3 x4
  have h5 : State.Kept o x1 := (State.fset_kept h)
  have h6 : State.Kept o x4 := (State.Kept.mk h5 rfl rfl rfl rfl rfl rfl)
  exact (State.Kept.foldl h6 (fun a9 s7 h8 => (State.intake_kept h8)))

theorem State.captAck_kept (h : State.Kept o s) : State.Kept o (State.captAck s a1) := by
  unfold State.captAck
  extract_lets -merge -useContext -underBinder x0
  have h1 : State.Kept o x0 := (State.fset_kept (State.fset_kept h))
  exact (State.Kept.ite (State.Kept.foldl h1 (fun a4 s2 h3 => (State.fset_kept h3))) h)

end Sys2Proof.Machine
end

