-- ==== Sys2Proof/Laws/Kept/Reel.lean ====
section
/-! SUPPORT. What every command keeps: one lemma for each function of Machine/Reel.lean that changes the state. -/

namespace Sys2Proof.Machine

variable {o : Origin} {s : State}

theorem State.setReel_kept (h : State.Kept o s) : State.Kept o (State.setReel s a1 a2) := by
  unfold State.setReel
  exact (State.Kept.mk h rfl rfl rfl rfl rfl rfl)

theorem State.setSram_kept (h : State.Kept o s) : State.Kept o (s.setSram a w) :=
  ⟨⟨h.1.1, h.1.2.1, SMap.write_wf (d := fun _ => 0) h.1.2.2 a w⟩, h.2⟩

theorem State.reelRewind_kept (h : State.Kept o s) : State.Kept o (State.reelRewind s a1) := by
  unfold State.reelRewind
  extract_lets -merge -useContext -underBinder x0
  exact (State.finc_kept (State.setReel_kept h))

theorem State.reelWord_kept (h : State.Kept o s) : State.Kept o (State.reelWord s a1 a2) := by
  unfold State.reelWord
  extract_lets -merge -useContext -underBinder x0 x1 x2 x3 x4 x5
  have h6 : State.Kept o x1 := (State.reelRewind_kept h)
  have h7 : State.Kept o x3 := (State.finc_kept (State.setReel_kept h6))
  have h8 : State.Kept o x5 := (State.setSram_kept h)
  exact (State.Kept.ite h (State.Kept.ite (State.evt_kept h7) (State.setReel_kept h8)))

theorem State.reelEnd_kept (h : State.Kept o s) : State.Kept o (State.reelEnd s a1) := by
  unfold State.reelEnd
  extract_lets -merge -useContext -underBinder x0 x1 x2
  have h3 : State.Kept o x1 := (State.setSram_kept h)
  have h4 : State.Kept o x2 := (State.setReel_kept h3)
  exact (State.Kept.ite (State.setReel_kept h) (State.Kept.ite (State.usage_kept h) (State.evt_kept (State.finc_kept h4))))

theorem State.reelAbort_kept (h : State.Kept o s) : State.Kept o (State.reelAbort s a1) := by
  unfold State.reelAbort
  extract_lets -merge -useContext -underBinder x0 x1
  have h2 : State.Kept o x0 := (State.reelRewind_kept h)
  exact (State.setReel_kept h2)

theorem State.reelPacket_kept (h : State.Kept o s) : State.Kept o (State.reelPacket s a1 a2) := by
  unfold State.reelPacket
  exact (State.reelEnd_kept (State.Kept.foldl h (fun a2 s0 h1 => (State.reelWord_kept h1))))

theorem State.reelPush_kept (h : State.Kept o s) : State.Kept o (State.reelPush s a1 a2 a3) := by
  unfold State.reelPush
  extract_lets -merge -useContext -underBinder x0
  exact (State.Kept.ite (State.finc_kept h) (State.Kept.ite h (State.Kept.ite (State.reelPacket_kept h) (State.setReel_kept h))))

theorem State.reelUnstall_kept (h : State.Kept o s) : State.Kept o (State.reelUnstall s a1) := by
  unfold State.reelUnstall
  extract_lets -merge -useContext -underBinder x0
  split
  · rename_i x1 x2
    exact h
  · rename_i x3 x4 x5 x6
    exact (State.Kept.ite (State.reelPacket_kept (State.setReel_kept h)) h)

theorem State.reelRead_kept (h : State.Kept o s) : State.Kept o (State.reelRead s a1).2 := by
  unfold State.reelRead
  extract_lets -merge -useContext -underBinder x0
  split
  · rename_i x1 x2
    exact (State.Kept.pr2 (State.usage_kept h))
  · rename_i x3 x4 x5 x6
    extract_lets -merge -useContext -underBinder x7 x8 x9 x10
    have h11 : State.Kept o x10 := (State.evt_kept (State.setReel_kept h))
    exact (State.Kept.ite2 (State.Kept.pr2 (State.usage_kept h)) (State.Kept.ite2 (State.Kept.pr2 (State.Kept.ite h11 (State.report_kept h11))) (State.Kept.pr2 (State.setReel_kept h))))

theorem State.reelMark_kept (h : State.Kept o s) : State.Kept o (State.reelMark s a1) := by
  unfold State.reelMark
  extract_lets -merge -useContext -underBinder x0
  exact (State.setReel_kept h)

theorem State.reelRewindRead_kept (h : State.Kept o s) : State.Kept o (State.reelRewindRead s a1) := by
  unfold State.reelRewindRead
  extract_lets -merge -useContext -underBinder x0
  exact (State.setReel_kept h)

theorem State.reelRelease_kept (h : State.Kept o s) : State.Kept o (State.reelRelease s a1) := by
  unfold State.reelRelease
  extract_lets -merge -useContext -underBinder x0
  split
  · rename_i x1 x2
    exact h
  · rename_i x3 x4 x5 x6
    exact (State.setReel_kept h)

theorem State.reelEmpty_kept (h : State.Kept o s) : State.Kept o (State.reelEmpty s a1) := by
  unfold State.reelEmpty
  exact (State.setReel_kept h)

theorem State.reelPtrReset_kept (h : State.Kept o s) : State.Kept o (State.reelPtrReset s a1) := by
  unfold State.reelPtrReset
  extract_lets -merge -useContext -underBinder x0
  have h1 : State.Kept o x0 := (State.evt_kept (State.finc_kept (State.reelEmpty_kept h)))
  exact (State.reportDrop_kept h1)

theorem State.setChk_kept (h : State.Kept o s) : State.Kept o (State.setChk s a1 a2) := by
  unfold State.setChk
  exact (State.Kept.mk h rfl rfl rfl rfl rfl rfl)

theorem State.chkFeed_kept (h : State.Kept o s) : State.Kept o (State.chkFeed s a1 a2) := by
  unfold State.chkFeed
  exact (State.fadd_kept (State.setChk_kept h))

theorem State.chkSeal_kept (h : State.Kept o s) : State.Kept o (State.chkSeal s a1) := by
  unfold State.chkSeal
  extract_lets -merge -useContext -underBinder x0 x1 x2 x3 x4 x5 x6
  have h7 : State.Kept o x4 := (State.fset_kept (State.fset_kept (State.fset_kept h)))
  have h8 : State.Kept o x5 := (State.Kept.ite (State.Kept.ite (State.fset_kept h7) (State.evt_kept (State.finc_kept (State.fset_kept h7)))) h7)
  have h9 : State.Kept o x6 := (State.setChk_kept (State.fset_kept h8))
  exact (State.evt_kept (State.finc_kept (State.fset_kept h9)))

theorem State.chkRestart_kept (h : State.Kept o s) : State.Kept o (State.chkRestart s a1) := by
  unfold State.chkRestart
  exact (State.fset_kept (State.setChk_kept h))

end Sys2Proof.Machine
end

