-- ==== Sys2Proof/Laws/Kept/Cmp.lean ====
section
/-! SUPPORT. What every command keeps: one lemma for each function of Machine/Cmp.lean that changes the state. -/

namespace Sys2Proof.Machine

variable {o : Origin} {s : State}

theorem State.lyrApplied_kept (h : State.Kept o s) : State.Kept o (State.lyrApplied s a1 a2) := by
  unfold State.lyrApplied
  extract_lets -merge -useContext -underBinder x0 x1 x2 x3 x4
  have h5 : State.Kept o x1 := (State.Kept.ite (State.fset_kept h) h)
  exact (State.Kept.ite (State.Kept.mk h5 rfl rfl rfl rfl rfl rfl) h5)

theorem State.setReadRate_kept (h : State.Kept o s) : State.Kept o (State.setReadRate s) := by
  unfold State.setReadRate
  exact (State.fset_kept h)

theorem State.latchWindows_kept (h : State.Kept o s) : State.Kept o (State.latchWindows s a1) := by
  unfold State.latchWindows
  extract_lets -merge -useContext -underBinder x0 x1 x2 x3
  exact (State.Kept.mk h rfl rfl rfl rfl rfl rfl)

theorem State.selectOne_kept (h : State.Kept o s) : State.Kept o (State.selectOne s a1 a2) := by
  unfold State.selectOne
  extract_lets -merge -useContext -underBinder x0 x1 x2 x3 x4 x5
  have h6 : State.Kept o x5 := (State.Kept.mk h rfl rfl rfl rfl rfl rfl)
  exact (State.fsetB_kept (State.fset_kept h6))

theorem State.selectWindows_kept (h : State.Kept o s) : State.Kept o (State.selectWindows s) := by
  unfold State.selectWindows
  extract_lets -merge -useContext -underBinder x0 x1
  have h2 : State.Kept o x0 := (State.Kept.foldl h (fun a5 s3 h4 => (State.Kept.foldl h4 (fun a8 s6 h7 => (State.selectOne_kept h7)))))
  exact (State.fset_kept h2)

theorem State.retireFence_kept (h : State.Kept o s) : State.Kept o (State.retireFence s a1 a2) := by
  unfold State.retireFence
  extract_lets -merge -useContext -underBinder x0 x1
  have h2 : State.Kept o x0 := (State.Kept.foldl h (fun a5 s3 h4 => (by
    split
    · rename_i x6 x7
      exact h4
    · rename_i x8 x9 x10
      extract_lets -merge -useContext -underBinder x11 x12 x13
      have h14 : State.Kept o x13 := (State.Kept.mk h4 rfl rfl rfl rfl rfl rfl)
      exact (State.evt_kept (State.fset_kept (State.fwrap_kept h14))))))
  exact (State.Kept.ite h2 (State.evt_kept (State.fset_kept h2)))

theorem State.earlyRelease_kept (h : State.Kept o s) : State.Kept o (State.earlyRelease s a1 a2 a3 a4 a5) := by
  unfold State.earlyRelease
  extract_lets -merge -useContext -underBinder x0 x1 x2 x3 x4 x5
  have h6 : State.Kept o x1 := (State.Kept.mk h rfl rfl rfl rfl rfl rfl)
  have h7 : State.Kept o x3 := (State.Kept.mk h6 rfl rfl rfl rfl rfl rfl)
  have h8 : State.Kept o x4 := (State.Kept.ite h7 (State.fset_kept (State.fset_kept (State.fset_kept (State.fset_kept (State.fset_kept h7))))))
  have h9 : State.Kept o x5 := (State.evt_kept (State.evt_kept (State.finc_kept h8)))
  exact (State.Kept.ite h6 (State.reportUsage_kept h9))

theorem State.leafError_kept (h : State.Kept o s) : State.Kept o (State.leafError s) := by
  unfold State.leafError
  exact (State.reportDrop_kept (State.evt_kept (State.finc_kept h)))

theorem State.cmpReceive_kept (h : State.Kept o s) : State.Kept o (State.cmpReceive s a1 a2) := by
  unfold State.cmpReceive
  extract_lets -merge -useContext -underBinder x0 x1 x2 x3
  have h4 : State.Kept o x2 := (State.Kept.foldl h (fun a7 s5 h6 => (State.Kept.ite (State.earlyRelease_kept h6) h6)))
  have h8 : State.Kept o x3 := (State.Kept.ite (State.report_kept (State.evt_kept (State.finc_kept h4))) h4)
  exact (State.Kept.foldl h8 (fun a11 s9 h10 => (by
    extract_lets -merge -useContext -underBinder x12 x13
    exact (State.Kept.ite h10 (State.Kept.foldl h10 (fun a16 s14 h15 => (State.leafError_kept h15)))))))

theorem State.countUnderrun_kept (h : State.Kept o s) : State.Kept o (State.countUnderrun s) := by
  unfold State.countUnderrun
  extract_lets -merge -useContext -underBinder x0 x1 x2 x3
  have h4 : State.Kept o x1 := (State.Kept.foldl h (fun a7 s5 h6 => (State.fadd_kept h6)))
  have h8 : State.Kept o x2 := (State.reportDrop_kept (State.evt_kept h4))
  exact (State.Kept.ite h (State.Kept.mk h8 rfl rfl rfl rfl rfl rfl))

theorem State.keepLast_kept (h : State.Kept o s) : State.Kept o (State.keepLast s) := by
  unfold State.keepLast
  extract_lets -merge -useContext -underBinder x0 x1 x2
  exact (State.Kept.mk h rfl rfl rfl rfl rfl rfl)

theorem State.monBurst_kept (h : State.Kept o s) : State.Kept o (State.monBurst s a1 a2) := by
  unfold State.monBurst
  exact (State.emit_kept h)

theorem State.monitorFrame_kept (h : State.Kept o s) : State.Kept o (State.monitorFrame s a1) := by
  unfold State.monitorFrame
  extract_lets -merge -useContext -underBinder x0 x1 x2
  have h3 : State.Kept o x2 := (State.Kept.foldl h (fun a6 s4 h5 => (State.monBurst_kept h5)))
  exact (State.Kept.ite h (State.Kept.ite h3 (State.evt_kept (State.fadd_kept h3))))

theorem State.dropFrameCapture_kept (h : State.Kept o s) : State.Kept o (State.dropFrameCapture s) := by
  unfold State.dropFrameCapture
  split
  · rename_i x0 x1
    exact h
  · rename_i x2 x3 x4
    extract_lets -merge -useContext -underBinder x5 x6
    have h7 : State.Kept o x6 := (State.Kept.mk h rfl rfl rfl rfl rfl rfl)
    exact (State.evt_kept (State.finc_kept (State.fset_kept h7)))

theorem State.startCapture_kept (h : State.Kept o s) : State.Kept o (State.startCapture s) := by
  unfold State.startCapture
  extract_lets -merge -useContext -underBinder x0 x1
  have h2 : State.Kept o x1 := (State.Kept.mk h rfl rfl rfl rfl rfl rfl)
  exact (State.Kept.ite (State.fset_kept h2) h)

theorem State.capDone_kept (h : State.Kept o s) : State.Kept o (State.capDone s) := by
  unfold State.capDone
  split
  · rename_i x0 x1
    exact h
  · rename_i x2 x3 x4
    extract_lets -merge -useContext -underBinder x5 x6 x7 x8 x9
    have h10 : State.Kept o x7 := (State.Kept.foldl h (fun a13 s11 h12 => (State.putBlock_kept h12)))
    have h14 : State.Kept o x9 := (State.Kept.mk h10 rfl rfl rfl rfl rfl rfl)
    exact (State.evt_kept (State.fset_kept (State.fset_kept h14)))

theorem State.libWrite_kept (h : State.Kept o s) : State.Kept o (State.libWrite s a1) := by
  unfold State.libWrite
  extract_lets -merge -useContext -underBinder x0 x1
  exact (State.fwrap_kept (State.Kept.mk h rfl rfl rfl rfl rfl rfl))

theorem State.libRead_kept (h : State.Kept o s) : State.Kept o (State.libRead s).2 := by
  unfold State.libRead
  exact (State.Kept.pr2 (State.fwrap_kept h))

theorem State.libSealDone_kept (h : State.Kept o s) : State.Kept o (State.libSealDone s) := by
  unfold State.libSealDone
  extract_lets -merge -useContext -underBinder x0 x1 x2 x3
  have h4 : State.Kept o x3 := (State.fset_kept (State.fset_kept (State.fset_kept h)))
  exact (State.Kept.ite h (State.Kept.ite (State.cmdDone_kept (State.evt_kept h4)) (State.cmdFail_kept (State.evt_kept (State.fset_kept h)))))

theorem State.postOverlaySig_kept (h : State.Kept o s) : State.Kept o (State.postOverlaySig s) := by
  unfold State.postOverlaySig
  extract_lets -merge -useContext -underBinder x0
  have h1 : State.Kept o x0 := (State.fset_kept (State.fset_kept h))
  exact (State.Kept.ite (State.fset_kept (State.fset_kept h1)) (State.fset_kept h1))

end Sys2Proof.Machine
end

