-- ==== Sys2Proof/Laws/Kept/Cad.lean ====
section
/-! SUPPORT. What every command keeps: one lemma for each function of Machine/Cad.lean that changes the state. -/

namespace Sys2Proof.Machine

variable {o : Origin} {s : State}

theorem State.periodicTrigger_kept (h : State.Kept o s) : State.Kept o (State.periodicTrigger s a1) := by
  unfold State.periodicTrigger
  extract_lets -merge -useContext -underBinder x0
  exact (State.Kept.mk h rfl rfl rfl rfl rfl rfl)

theorem State.contentTrigger_kept (h : State.Kept o s) : State.Kept o (State.contentTrigger s) := by
  unfold State.contentTrigger
  split
  · rename_i x0 x1 x2
    extract_lets -merge -useContext -underBinder x3 x4 x5
    have h6 : State.Kept o x5 := (State.Kept.mk h rfl rfl rfl rfl rfl rfl)
    exact (State.Kept.ite (State.Kept.mk h rfl rfl rfl rfl rfl rfl) (State.evt_kept (State.fset_kept h6)))
  · rename_i x7 x8
    extract_lets -merge -useContext -underBinder x9
    exact (State.Kept.mk h rfl rfl rfl rfl rfl rfl)

theorem State.rebuildStart_kept (h : State.Kept o s) : State.Kept o (State.rebuildStart s) := by
  unfold State.rebuildStart
  extract_lets -merge -useContext -underBinder x0 x1 x2 x3 x4
  have h5 : State.Kept o x3 := (State.Kept.mk h rfl rfl rfl rfl rfl rfl)
  have h6 : State.Kept o x4 := (State.Kept.foldl h5 (fun a9 s7 h8 => (by
    extract_lets -merge -useContext -underBinder x10
    exact (State.fset_kept (State.fset_kept h8)))))
  exact (State.Kept.ite (State.fset_kept h6) h)

theorem State.setCeiling_kept (h : State.Kept o s) : State.Kept o (State.setCeiling s a1 a2) := by
  unfold State.setCeiling
  exact (State.fset_kept h)

theorem State.setGains_kept (h : State.Kept o s) : State.Kept o (State.setGains s a1) := by
  unfold State.setGains
  exact (State.Kept.foldl h (fun a2 s0 h1 => (by
    split
    · rename_i x3 x4
      exact h1
    · rename_i x5 x6 x7
      extract_lets -merge -useContext -underBinder x8
      exact (State.writeNat_kept h1))))

theorem State.setWearFlags_kept (h : State.Kept o s) : State.Kept o (State.setWearFlags s a1) := by
  unfold State.setWearFlags
  exact (State.Kept.foldl h (fun a2 s0 h1 => (by
    split
    · rename_i x3 x4
      exact h1
    · rename_i x5 x6 x7
      extract_lets -merge -useContext -underBinder x8 x9
      have h10 : State.Kept o x9 := (State.writeNat_kept h1)
      exact (State.writeNat_kept h10))))

theorem State.wearPhase_kept (h : State.Kept o s) : State.Kept o (State.wearPhase s) := by
  unfold State.wearPhase
  extract_lets -merge -useContext -underBinder x0 x1 x2 x3 x4 x5 x6 x7 x8 x9 x10
  have h11 : State.Kept o x1 := (State.setGains_kept h)
  have h12 : State.Kept o x4 := (State.Kept.foldl h11 (fun a15 s13 h14 => (State.setCeiling_kept h14)))
  have h16 : State.Kept o x5 := (State.setWearFlags_kept h12)
  have h17 : State.Kept o x8 := (State.fset_kept h16)
  have h18 : State.Kept o x9 := (State.Kept.ite (State.evt_kept h17) h17)
  exact (State.Kept.ite (State.evt_kept h18) h18)

theorem State.wearPhaseDone_kept (h : State.Kept o s) : State.Kept o (State.wearPhaseDone s) := by
  unfold State.wearPhaseDone
  split
  · rename_i x0 x1 x2
    extract_lets -merge -useContext -underBinder x3 x4
    have h5 : State.Kept o x3 := (State.wearPhase_kept h)
    exact (State.Kept.ite (State.Kept.mk h5 rfl rfl rfl rfl rfl rfl) h)
  · rename_i x6 x7
    exact h

theorem State.lfsrRun_kept (h : State.Kept o s) : State.Kept o (State.lfsrRun s a1) := by
  unfold State.lfsrRun
  extract_lets -merge -useContext -underBinder x0
  exact (State.Kept.mk h rfl rfl rfl rfl rfl rfl)

theorem State.doseAdd_kept (h : State.Kept o s) : State.Kept o (State.doseAdd s a1 a2 a3) := by
  unfold State.doseAdd
  extract_lets -merge -useContext -underBinder x0 x1 x2
  exact (State.writeNat_kept h)

theorem State.doseOne_kept (h : State.Kept o s) : State.Kept o (State.doseOne s a1) := by
  unfold State.doseOne
  extract_lets -merge -useContext -underBinder x0 x1
  have h2 : State.Kept o x1 := (State.lfsrRun_kept h)
  exact (State.Kept.ite h2 (by
    split
    · rename_i x3 x4
      exact h2
    · rename_i x5 x6 x7
      exact (State.doseAdd_kept h2)))

theorem State.doseBoundary_kept (h : State.Kept o s) : State.Kept o (State.doseBoundary s) := by
  unfold State.doseBoundary
  extract_lets -merge -useContext -underBinder x0 x1 x2 x3 x4 x5 x6
  have h7 : State.Kept o x0 := (State.Kept.foldl h (fun a10 s8 h9 => (State.doseOne_kept h9)))
  have h11 : State.Kept o x2 := (State.Kept.ite (State.Kept.mk h7 rfl rfl rfl rfl rfl rfl) h)
  have h12 : State.Kept o x4 := (State.Kept.ite (by
    split
    · rename_i x13 x14 x15 x16
      have h17 : State.Kept o x15 := State.Kept.of_eq2 x16 (State.fresh_kept h11)
      extract_lets -merge -useContext -underBinder x18
      exact (State.Kept.mk h17 rfl rfl rfl rfl rfl rfl)) h11)
  exact (State.Kept.ite h11 (State.Kept.ite (State.Kept.mk h12 rfl rfl rfl rfl rfl rfl) h12))

theorem State.rebuildRecord_kept (h : State.Kept o s) : State.Kept o (State.rebuildRecord s a1 a2 a3 a4 a5) := by
  unfold State.rebuildRecord
  extract_lets -merge -useContext -underBinder x0 x1 x2
  split
  · rename_i x3 x4
    exact (State.writeBytes_kept h)
  · rename_i x5 x6 x7
    extract_lets -merge -useContext -underBinder x8 x9 x10 x11
    exact (State.writeNat_kept (State.fadd_kept h))

theorem State.rebuildDone_kept (h : State.Kept o s) : State.Kept o (State.rebuildDone s) := by
  unfold State.rebuildDone
  split
  · rename_i x0 x1 x2
    extract_lets -merge -useContext -underBinder x3 x4 x5
    have h6 : State.Kept o x3 := (State.Kept.foldl h (fun a9 s7 h8 => (State.Kept.foldl h8 (fun a12 s10 h11 => (State.rebuildRecord_kept h11)))))
    have h13 : State.Kept o x5 := (State.Kept.mk h6 rfl rfl rfl rfl rfl rfl)
    exact (State.Kept.ite (State.mirrorActive_kept h13) h)
  · rename_i x14 x15
    exact h

theorem State.effSwitch_kept (h : State.Kept o s) : State.Kept o (State.effSwitch s a1) := by
  unfold State.effSwitch
  extract_lets -merge -useContext -underBinder x0 x1 x2 x3
  have h4 : State.Kept o x1 := (State.Kept.foldl h (fun a7 s5 h6 => (State.fset_kept (State.fset_kept (State.fset_kept h6)))))
  have h8 : State.Kept o x2 := (State.evt_kept (State.fset_kept h4))
  exact (State.Kept.mk h8 rfl rfl rfl rfl rfl rfl)

theorem State.exchangeUsers_kept (h : State.Kept o s) : State.Kept o (State.exchangeUsers s a1) := by
  unfold State.exchangeUsers
  extract_lets -merge -useContext -underBinder x0 x1 x2
  have h3 : State.Kept o x0 := (State.fset_kept h)
  have h4 : State.Kept o x2 := (State.Kept.mk h3 rfl rfl rfl rfl rfl rfl)
  exact (State.Kept.ite (State.cmdDone_kept (State.fset_kept h4)) h)

theorem State.rebuildBoundary_kept (h : State.Kept o s) : State.Kept o (State.rebuildBoundary s) := by
  unfold State.rebuildBoundary
  split
  · rename_i x0 x1 x2
    split
    · rename_i x3 x4 x5
      extract_lets -merge -useContext -underBinder x6 x7
      have h8 : State.Kept o x7 := (State.Kept.mk h rfl rfl rfl rfl rfl rfl)
      exact (State.Kept.ite (State.exchangeUsers_kept (State.effSwitch_kept (State.fset_kept h8))) h)
    · rename_i x9 x10
      exact h
  · rename_i x11 x12
    exact h

theorem State.sinkTemperature_kept (h : State.Kept o s) : State.Kept o (State.sinkTemperature s a1 a2 a3) := by
  unfold State.sinkTemperature
  extract_lets -merge -useContext -underBinder x0 x1 x2
  have h3 : State.Kept o x1 := (State.Kept.mk h rfl rfl rfl rfl rfl rfl)
  split
  · rename_i x4 x5
    exact h3
  · rename_i x6 x7 x8
    extract_lets -merge -useContext -underBinder x9 x10 x11 x12
    have h13 : State.Kept o x10 := (State.Kept.mk h3 rfl rfl rfl rfl rfl rfl)
    have h14 : State.Kept o x11 := (State.fset_kept h13)
    exact (State.Kept.ite (State.periodicTrigger_kept h14) h14)

theorem State.tempStale_kept (h : State.Kept o s) : State.Kept o (State.tempStale s a1) := by
  unfold State.tempStale
  split
  · rename_i x0 x1
    exact h
  · rename_i x2 x3 x4
    extract_lets -merge -useContext -underBinder x5
    have h6 : State.Kept o x5 := (State.advanceTo_kept h)
    exact (State.Kept.ite h6 (State.evt_kept (State.fset_kept h6)))

theorem State.storeRecords_kept (h : State.Kept o s) : State.Kept o (State.storeRecords s a1 a2 a3) := by
  unfold State.storeRecords
  exact (State.Kept.foldl h (fun a2 s0 h1 => (by
    split
    · rename_i x3 x4 x5
      exact (State.writeNat_kept h1)
    · rename_i x6 x7 x8
      exact h1)))

theorem State.copyEnd_kept (h : State.Kept o s) : State.Kept o (s.copyEnd a f l r).1 := by
  cases r with
  | none => exact State.storeRecords_kept h
  | some x => exact State.fset_kept (State.fset_kept h)

theorem State.copyRecords_kept (h : State.Kept o s) : State.Kept o (s.copyRecords a t f).1 := State.copyEnd_kept h

theorem State.cadEnd_kept (h : State.Kept o s) : State.Kept o (State.cadEnd s a1) := by
  unfold State.cadEnd
  split
  · rename_i x0 x1
    exact (State.cmdFail_kept h)
  · rename_i x2
    exact (State.cmdDone_kept h)

theorem State.writeUserDone_kept (h : State.Kept o s) : State.Kept o (State.writeUserDone s) := by
  unfold State.writeUserDone
  split
  · rename_i x0 x1 x2
    extract_lets -merge -useContext -underBinder x3 x4 x5 x6
    subst x3
    have h7 : State.Kept o x4 := (State.copyRecords_kept h)
    have h8 : State.Kept o x6 := (State.Kept.mk h7 rfl rfl rfl rfl rfl rfl)
    exact (State.cadEnd_kept (State.fset_kept h8))
  · rename_i x9 x10
    exact h

theorem State.applyUser_kept (h : State.Kept o s) : State.Kept o (State.applyUser s) := by
  unfold State.applyUser
  extract_lets -merge -useContext -underBinder x0
  exact (State.contentTrigger_kept (State.Kept.mk h rfl rfl rfl rfl rfl rfl))

theorem State.copyCaddy_kept (h : State.Kept o s) : State.Kept o (State.copyCaddy s a1 a2) := by
  unfold State.copyCaddy
  extract_lets -merge -useContext -underBinder x0
  exact (State.Kept.foldl h (fun a3 s1 h2 => (by
    extract_lets -merge -useContext -underBinder x4
    exact (State.admitWrite_kept h2))))

theorem State.userCopyDone_kept (h : State.Kept o s) : State.Kept o (State.userCopyDone s) := by
  unfold State.userCopyDone
  extract_lets -merge -useContext -underBinder x0
  split
  · rename_i x1 x2
    extract_lets -merge -useContext -underBinder x3 x4
    have h5 : State.Kept o x3 := (State.copyCaddy_kept h)
    exact (State.applyUser_kept (State.fset_kept (State.Kept.mk h5 rfl rfl rfl rfl rfl rfl)))
  · rename_i x6 x7
    extract_lets -merge -useContext -underBinder x8 x9
    have h10 : State.Kept o x8 := (State.copyCaddy_kept h)
    exact (State.fset_kept (State.Kept.mk h10 rfl rfl rfl rfl rfl rfl))
  · rename_i x11 x12 x13
    exact h

theorem State.copyBins_kept (h : State.Kept o s) : State.Kept o (State.copyBins s) := by
  unfold State.copyBins
  exact (State.Kept.foldl h (fun a2 s0 h1 => (by
    split
    · rename_i x3 x4 x5 x6 x7 x8
      exact (State.writeNat_kept h1)
    · rename_i x9 x10 x11 x12 x13
      exact (State.writeNat_kept h1)
    · rename_i x14 x15 x16
      exact h1)))

theorem State.factoryChanged_kept (h : State.Kept o s) : State.Kept o (State.factoryChanged s a1) := by
  unfold State.factoryChanged
  split
  · rename_i x0 x1
    exact (State.cmdFail_kept h)
  · rename_i x2
    extract_lets -merge -useContext -underBinder x3 x4
    have h5 : State.Kept o x4 := (State.Kept.mk h rfl rfl rfl rfl rfl rfl)
    exact (State.cmdDone_kept (State.Kept.ite (State.contentTrigger_kept h5) h5))

theorem State.buildFactoryDone_kept (h : State.Kept o s) : State.Kept o (State.buildFactoryDone s) := by
  unfold State.buildFactoryDone
  exact (State.Kept.ite h (by
    split
    · rename_i x0 x1
      exact (State.cmdFail_kept h)
    · rename_i x2 x3 x4
      extract_lets -merge -useContext -underBinder x5
      subst x5
      exact (State.factoryChanged_kept (State.Kept.ite (State.copyBins_kept (State.copyRecords_kept h)) (State.copyRecords_kept h)))))

theorem State.loadFactoryDone_kept (h : State.Kept o s) : State.Kept o (State.loadFactoryDone s) := by
  unfold State.loadFactoryDone
  extract_lets -merge -useContext -underBinder x0
  subst x0
  exact (State.Kept.ite h (State.factoryChanged_kept (State.copyRecords_kept h)))

theorem State.sealFactory_kept (h : State.Kept o s) : State.Kept o (State.sealFactory s) := by
  unfold State.sealFactory
  extract_lets -merge -useContext -underBinder x0 x1
  exact (State.fset_kept (State.Kept.mk h rfl rfl rfl rfl rfl rfl))

theorem State.checkFactory_kept (h : State.Kept o s) : State.Kept o (State.checkFactory s) := by
  unfold State.checkFactory
  extract_lets -merge -useContext -underBinder x0 x1
  exact (State.Kept.ite h (State.Kept.ite (State.fset_kept (State.Kept.mk h rfl rfl rfl rfl rfl rfl)) (State.evt_kept (State.fset_kept (State.Kept.mk h rfl rfl rfl rfl rfl rfl)))))

theorem State.doseReset_kept (h : State.Kept o s) : State.Kept o (State.doseReset s a1) := by
  unfold State.doseReset
  extract_lets -merge -useContext -underBinder x0
  have h1 : State.Kept o x0 := (State.Kept.foldl h (fun a4 s2 h3 => (by
    split
    · rename_i x5 x6 x7
      exact (State.writeNat_kept h3)
    · rename_i x8 x9
      exact (State.writeNat_kept h3))))
  exact (State.contentTrigger_kept h1)

theorem State.cadApplied_kept (h : State.Kept o s) : State.Kept o (State.cadApplied s a1) := by
  unfold State.cadApplied
  extract_lets -merge -useContext -underBinder x0 x1
  exact (State.Kept.ite (State.contentTrigger_kept h) h)

end Sys2Proof.Machine
end

