-- ==== Sys2Proof/Laws/Kept/Matte.lean ====
section
/-! SUPPORT. What every command keeps: one lemma for each function of Machine/Matte.lean that changes the state. -/

namespace Sys2Proof.Machine

variable {o : Origin} {s : State}

theorem State.setVerified_kept (h : State.Kept o s) : State.Kept o (State.setVerified s a1 a2) := by
  unfold State.setVerified
  exact (State.Kept.ite (State.fsetB_kept h) (State.fsetB_kept h))

theorem State.unverify_kept (h : State.Kept o s) : State.Kept o (State.unverify s a1) := by
  unfold State.unverify
  exact (State.Kept.ite (State.evt_kept (State.setVerified_kept h)) h)

theorem State.matteApplied_kept (h : State.Kept o s) : State.Kept o (State.matteApplied s a1) := by
  unfold State.matteApplied
  exact (State.Kept.ite (State.fset_kept (State.unverify_kept (State.unverify_kept h))) (State.Kept.ite (State.fset_kept h) h))

theorem State.sealWrite_kept (h : State.Kept o s) : State.Kept o (State.sealWrite s a1 a2) := by
  unfold State.sealWrite
  exact (State.unverify_kept (State.fset_kept h))

theorem State.verifyDone_kept (h : State.Kept o s) : State.Kept o (State.verifyDone s) := by
  unfold State.verifyDone
  split
  · rename_i x0 x1 x2
    extract_lets -merge -useContext -underBinder x3 x4
    have h5 : State.Kept o x4 := (State.fset_kept h)
    exact (State.Kept.ite h (by
    split
    · rename_i x6 x7 x8 x9
      exact (State.cmdFail_kept (State.fset_kept (State.setVerified_kept h5)))
    · rename_i x10 x11
      extract_lets -merge -useContext -underBinder x12 x13 x14
      have h15 : State.Kept o x14 := (State.Kept.mk h5 rfl rfl rfl rfl rfl rfl)
      exact (State.mirrorActive_kept (State.cmdDone_kept (State.setVerified_kept h15)))))
  · rename_i x16 x17
    exact h

theorem State.matteBoundary_kept (h : State.Kept o s) : State.Kept o (State.matteBoundary s) := by
  unfold State.matteBoundary
  extract_lets -merge -useContext -underBinder x0 x1 x2 x3 x4
  have h5 : State.Kept o x1 := (State.Kept.foldl h (fun a8 s6 h7 => (State.fset_kept h7)))
  subst x4
  exact (State.Kept.mk_safe h5 rfl rfl rfl rfl rfl rfl)

theorem State.borrowBoundary_kept (h : State.Kept o s) : State.Kept o (State.borrowBoundary s) := by
  unfold State.borrowBoundary
  extract_lets -merge -useContext -underBinder x0 x1 x2 x3 x4
  have h5 : State.Kept o x2 := (State.fset_kept h)
  have h6 : State.Kept o x4 := (State.Kept.mk h5 rfl rfl rfl rfl rfl rfl)
  exact (State.Kept.ite (State.Kept.ite (State.evt_kept h6) h6) h)

theorem State.freeze_kept (h : State.Kept o s) : State.Kept o (State.freeze s a1) := by
  unfold State.freeze
  extract_lets -merge -useContext -underBinder x0 x1
  have h2 : State.Kept o x0 := (State.fset_kept h)
  have h3 : State.Kept o x1 := (State.evt_kept (State.finc_kept h2))
  exact (State.report_kept h3)

theorem State.postSignature_kept (h : State.Kept o s) : State.Kept o (State.postSignature s a1) := by
  unfold State.postSignature
  extract_lets -merge -useContext -underBinder x0 x1 x2 x3 x4 x5 x6 x7
  have h8 : State.Kept o x4 := (State.fset_kept (State.fset_kept h))
  have h9 : State.Kept o x6 := (State.Kept.mk h8 rfl rfl rfl rfl rfl rfl)
  exact (State.Kept.ite (State.freeze_kept h9) h9)

theorem State.postReadSig_kept (h : State.Kept o s) : State.Kept o (State.postReadSig s a1) := by
  unfold State.postReadSig
  split
  · rename_i x0 x1 x2 x3
    extract_lets -merge -useContext -underBinder x4 x5 x6
    have h7 : State.Kept o x4 := (State.fset_kept h)
    exact (State.fset_kept (State.fset_kept h7))

theorem State.peTileDone_kept (h : State.Kept o s) : State.Kept o (State.peTileDone s a1 a2) := by
  unfold State.peTileDone
  extract_lets -merge -useContext -underBinder x0 x1 x2 x3 x4 x5 x6 x7 x8 x9
  have h10 : State.Kept o x1 := (State.Kept.mk h rfl rfl rfl rfl rfl rfl)
  have h11 : State.Kept o x3 := (State.Kept.mk h10 rfl rfl rfl rfl rfl rfl)
  have h12 : State.Kept o x4 := (State.postReadSig_kept (State.postSignature_kept (State.peTile_kept h11)))
  have h13 : State.Kept o x6 := (State.Kept.mk h12 rfl rfl rfl rfl rfl rfl)
  have h14 : State.Kept o x8 := (State.Kept.ite (State.evt_kept h13) h13)
  subst x9
  exact (State.Kept.ite h (State.Kept.ite (State.Kept.mk_safe h14 rfl rfl rfl rfl rfl rfl) h13))

theorem State.signatureDeadline_kept (h : State.Kept o s) : State.Kept o (State.signatureDeadline s a1) := by
  unfold State.signatureDeadline
  exact (State.Kept.ite (State.freeze_kept (State.advanceTo_kept h)) h)

end Sys2Proof.Machine
end

