-- ==== Sys2Proof/Laws/Kept/Mem.lean ====
section
/-! SUPPORT. What every command keeps: one lemma for each function of Machine/Mem.lean that changes the state. -/

namespace Sys2Proof.Machine

variable {o : Origin} {s : State}

theorem State.setTrained_kept (h : State.Kept o s) : State.Kept o (State.setTrained s a1 a2) := by
  unfold State.setTrained
  exact (State.Kept.ite (State.fsetB_kept h) (State.fsetB_kept h))

theorem State.calcSet_kept (h : State.Kept o s) : State.Kept o (State.calcSet s a1) := by
  unfold State.calcSet
  extract_lets -merge -useContext -underBinder x0 x1
  exact (State.fset_kept (State.fset_kept h))

theorem State.memApplied_kept (h : State.Kept o s) : State.Kept o (State.memApplied s a1) := by
  unfold State.memApplied
  extract_lets -merge -useContext -underBinder x0
  have h1 : State.Kept o x0 := (State.Kept.foldl h (fun a4 s2 h3 => (State.Kept.ite (State.setTrained_kept h3) h3)))
  exact (State.calcSet_kept (State.calcSet_kept h1))

theorem State.memOffline_kept (h : State.Kept o s) : State.Kept o (State.memOffline s a1 a2) := by
  unfold State.memOffline
  extract_lets -merge -useContext -underBinder x0
  have h1 : State.Kept o x0 := (State.finc_kept h)
  exact (State.Kept.ite (State.report_kept h1) h1)

theorem State.memRange_kept (h : State.Kept o s) : State.Kept o (State.memRange s a1 a2) := by
  unfold State.memRange
  exact (State.report_kept (State.evt_kept (State.finc_kept h)))

theorem State.queueRepair_kept (h : State.Kept o s) : State.Kept o (State.queueRepair s a1) := by
  unfold State.queueRepair
  extract_lets -merge -useContext -underBinder x0 x1
  exact (State.Kept.ite (State.fset_kept (State.Kept.mk h rfl rfl rfl rfl rfl rfl)) h)

theorem State.memDecode_kept (h : State.Kept o s) : State.Kept o (State.memDecode s a1 a2) := by
  unfold State.memDecode
  split
  · rename_i x0 x1 x2 x3
    exact h
  · rename_i x4 x5 x6 x7 x8
    exact (State.queueRepair_kept (State.report_kept (State.finc_kept h)))
  · rename_i x9 x10 x11
    exact (State.report_kept (State.evt_kept (State.finc_kept h)))

theorem State.flip_kept (h : State.Kept o s) : State.Kept o (s.flip b x) := by
  refine h.of_dram fun hm => ?_
  simp only [Memory.wf, Bool.and_eq_true] at hm ⊢
  exact ⟨hm.1, SMap.write_wf (d := fun _ => 0) hm.2 b _⟩

theorem State.touchRow_kept (h : State.Kept o s) : State.Kept o (State.touchRow s a1) := by
  unfold State.touchRow
  extract_lets -merge -useContext -underBinder x0 x1 x2 x3 x4 x5
  exact (State.Kept.mk h rfl rfl rfl rfl rfl rfl)

theorem State.peDamage_kept (h : State.Kept o s) : State.Kept o (State.peDamage s a1 a2) := by
  unfold State.peDamage
  extract_lets -merge -useContext -underBinder x0 x1 x2 x3 x4
  exact (State.Kept.ite (State.Kept.ite (State.report_kept (State.evt_kept (State.finc_kept h))) h) (State.Kept.ite (State.Kept.ite (State.report_kept (State.finc_kept h)) h) (State.Kept.ite (State.Kept.ite (State.report_kept (State.evt_kept (State.finc_kept h))) h) h)))

theorem State.cadDamage_kept (h : State.Kept o s) : State.Kept o (State.cadDamage s a1) := by
  unfold State.cadDamage
  extract_lets -merge -useContext -underBinder x0 x1
  exact (State.Kept.ite (State.report_kept (State.evt_kept (State.fadd_kept h))) h)

theorem State.diagDamage_kept (h : State.Kept o s) : State.Kept o (State.diagDamage s a1) := by
  unfold State.diagDamage
  extract_lets -merge -useContext -underBinder x0 x1 x2 x3
  exact (State.Kept.ite (State.report_kept (State.evt_kept (State.finc_kept (State.admitWrite_kept h)))) h)

theorem State.consume_kept (h : State.Kept o s) : State.Kept o (State.consume s a1 a2) := by
  unfold State.consume
  exact (State.Kept.ite (State.cmpReceive_kept h) (State.Kept.ite (State.peDamage_kept h) (State.Kept.ite (State.cadDamage_kept h) (State.Kept.ite (State.diagDamage_kept h) h))))

theorem State.transferBlock_kept (h : State.Kept o s) : State.Kept o (State.transferBlock s a1 a2 a3 a4 a5 a6) := by
  unfold State.transferBlock
  extract_lets -merge -useContext -underBinder x0
  have h1 : State.Kept o x0 := (State.flip_kept h)
  exact (State.Kept.ite (State.Kept.ite h (State.consume_kept h)) (State.Kept.ite (State.admitWrite_kept h) (State.consume_kept (State.memDecode_kept h1))))

theorem State.requestCheck_kept (h : State.Kept o s) : State.Kept o (State.requestCheck s a1) := by
  unfold State.requestCheck
  extract_lets -merge -useContext -underBinder x0
  exact (State.Kept.ite (State.memRange_kept h) (State.Kept.ite (State.memOffline_kept h) (State.touchRow_kept h)))

theorem State.endWait_kept (h : State.Kept o s) : State.Kept o (State.endWait s a1) := by
  unfold State.endWait
  split
  · rename_i x0 x1
    exact h
  · rename_i x2 x3 x4
    extract_lets -merge -useContext -underBinder x5 x6 x7
    have h8 : State.Kept o x7 := (State.Kept.mk h rfl rfl rfl rfl rfl rfl)
    exact (State.fset_kept h8)

theorem State.dramTransfer_kept (h : State.Kept o s) : State.Kept o (State.dramTransfer s a1) := by
  unfold State.dramTransfer
  extract_lets -merge -useContext -underBinder x0 x1 x2
  have h3 : State.Kept o x0 := (State.requestCheck_kept h)
  have h4 : State.Kept o x1 := (State.Kept.ite (State.transferBlock_kept h3) h3)
  have h5 : State.Kept o x2 := (State.Kept.ite (State.transferBlock_kept h4) h4)
  exact (State.endWait_kept h5)

theorem State.rowIdle_kept (h : State.Kept o s) : State.Kept o (State.rowIdle s a1) := by
  unfold State.rowIdle
  split
  · rename_i x0 x1
    exact h
  · rename_i x2 x3 x4
    extract_lets -merge -useContext -underBinder x5 x6
    have h7 : State.Kept o x5 := (State.advanceTo_kept h)
    exact (State.Kept.mk h7 rfl rfl rfl rfl rfl rfl)

theorem State.mr4_kept (h : State.Kept o s) : State.Kept o (State.mr4 s a1) := by
  unfold State.mr4
  extract_lets -merge -useContext -underBinder x0 x1 x2 x3 x4 x5
  have h6 : State.Kept o x0 := (State.fsetB_kept (State.fsetB_kept h))
  have h7 : State.Kept o x1 := by
    unfold x1
    split
    · rename_i x8 x9
      exact (State.fset_kept (State.fset_kept h6))
    · rename_i x10
      exact h6
  have h11 : State.Kept o x5 := (State.Kept.mk h7 rfl rfl rfl rfl rfl rfl)
  exact (State.Kept.ite h11 (State.evt_kept (State.fset_kept h11)))

theorem State.refresh_kept (h : State.Kept o s) : State.Kept o (State.refresh s a1) := by
  unfold State.refresh
  extract_lets -merge -useContext -underBinder x0 x1 x2 x3 x4 x5
  have h6 : State.Kept o x0 := (State.advanceTo_kept h)
  have h7 : State.Kept o x3 := (State.finc_kept h6)
  have h8 : State.Kept o x4 := (State.Kept.ite (State.mr4_kept h7) h7)
  exact (State.Kept.ite h (State.Kept.mk h8 rfl rfl rfl rfl rfl rfl))

theorem State.windowDone_kept (h : State.Kept o s) : State.Kept o (State.windowDone s a1 a2) := by
  unfold State.windowDone
  extract_lets -merge -useContext -underBinder x0 x1
  have h2 : State.Kept o x0 := (State.evt_kept (State.fwrap_kept (State.fset_kept h)))
  exact (State.Kept.mk h2 rfl rfl rfl rfl rfl rfl)

theorem State.ingestOne_kept (h : State.Kept o s) : State.Kept o (State.ingestOne s) := by
  unfold State.ingestOne
  split
  · rename_i x0 x1
    exact h
  · rename_i x2 x3 x4 x5
    extract_lets -merge -useContext -underBinder x6 x7
    have h8 : State.Kept o x7 := (State.admitWrite_kept (State.Kept.mk h rfl rfl rfl rfl rfl rfl))
    split
    · rename_i x9 x10 x11 x12
      exact (State.windowDone_kept h8)
    · rename_i x13 x14
      exact h8

theorem State.drainIngest_kept (h : State.Kept o s) : State.Kept o (State.drainIngest s) := by
  unfold State.drainIngest
  exact (State.Kept.foldl h (fun a2 s0 h1 => (State.ingestOne_kept h1)))

theorem State.switchWindow_kept (h : State.Kept o s) : State.Kept o (State.switchWindow s) := by
  unfold State.switchWindow
  split
  · rename_i x0 x1 x2
    extract_lets -merge -useContext -underBinder x3 x4 x5 x6 x7 x8
    have h9 : State.Kept o x3 := (State.drainIngest_kept h)
    have h10 : State.Kept o x5 := (State.Kept.mk h9 rfl rfl rfl rfl rfl rfl)
    have h11 : State.Kept o x6 := (State.fset_kept h10)
    have h12 : State.Kept o x8 := (State.Kept.mk h11 rfl rfl rfl rfl rfl rfl)
    exact (State.Kept.ite (State.cmdDone_kept (State.evt_kept h12)) h)
  · rename_i x13 x14
    exact h

theorem State.windowBoundary_kept (h : State.Kept o s) : State.Kept o (State.windowBoundary s) := by
  unfold State.windowBoundary
  extract_lets -merge -useContext -underBinder x0 x1 x2
  exact (State.Kept.ite (State.Kept.ite (State.cmdFail_kept (State.Kept.mk h rfl rfl rfl rfl rfl rfl)) (State.Kept.mk h rfl rfl rfl rfl rfl rfl)) h)

theorem State.trainingDone_kept (h : State.Kept o s) : State.Kept o (State.trainingDone s a1 a2) := by
  unfold State.trainingDone
  split
  · rename_i x0 x1
    exact h
  · rename_i x2 x3 x4
    extract_lets -merge -useContext -underBinder x5 x6 x7 x8 x9 x10 x11 x12 x13 x14 x15
    have h16 : State.Kept o x6 := (State.Kept.mk h rfl rfl rfl rfl rfl rfl)
    have h17 : State.Kept o x8 := (State.fset_kept (State.fset_kept (State.setTrained_kept h16)))
    have h18 : State.Kept o x9 := (State.fset_kept h17)
    have h19 : State.Kept o x11 := (State.Kept.mk h18 rfl rfl rfl rfl rfl rfl)
    have h20 : State.Kept o x12 := (State.fset_kept (State.fset_kept h16))
    have h21 : State.Kept o x13 := (State.evt_kept (State.setTrained_kept h20))
    have h22 : State.Kept o x14 := (State.fset_kept h21)
    have h23 : State.Kept o x15 := (State.Kept.ite (State.report_kept h22) h22)
    exact (State.Kept.ite (State.Kept.ite h19 (State.cmdDone_kept h19)) (State.Kept.ite h23 (State.cmdFail_kept h23)))

theorem State.memStart_kept (h : State.Kept o s) : State.Kept o (State.memStart s) := by
  unfold State.memStart
  extract_lets -merge -useContext -underBinder x0 x1 x2
  have h3 : State.Kept o x0 := (State.fset_kept h)
  exact (State.Kept.ite (State.Kept.mk h3 rfl rfl rfl rfl rfl rfl) (State.fset_kept (State.Kept.mk h rfl rfl rfl rfl rfl rfl)))

theorem State.writeBackPair_kept (h : State.Kept o s) : State.Kept o (State.writeBackPair s a1) := by
  unfold State.writeBackPair
  exact (State.Kept.foldl h (fun a2 s0 h1 => (by
    split
    · rename_i x3 x4 x5 x6 x7
      exact (State.admitWrite_kept h1)
    · rename_i x8 x9
      exact h1)))

theorem State.flushWriteBack_kept (h : State.Kept o s) : State.Kept o (State.flushWriteBack s) := by
  unfold State.flushWriteBack
  extract_lets -merge -useContext -underBinder x0 x1
  exact (State.Kept.foldl (State.Kept.mk h rfl rfl rfl rfl rfl rfl) (fun a4 s2 h3 => (State.writeBackPair_kept h3)))

theorem State.scrubGroup_kept (h : State.Kept o s) : State.Kept o (State.scrubGroup s a1) := by
  unfold State.scrubGroup
  extract_lets -merge -useContext -underBinder x0 x1 x2 x3 x4 x5
  have h6 : State.Kept o x0 := (State.flushWriteBack_kept h)
  have h7 : State.Kept o x1 := (State.Kept.foldl h6 (fun a10 s8 h9 => (State.memDecode_kept h9)))
  exact (State.Kept.mk h7 rfl rfl rfl rfl rfl rfl)

theorem State.flips_kept (h : State.Kept o s) : State.Kept o (State.flips s a1) := by
  unfold State.flips
  exact (State.Kept.foldl h (fun a2 s0 h1 => (State.flip_kept h1)))

theorem State.scrubVisit_kept (h : State.Kept o s) : State.Kept o (State.scrubVisit s a1) := by
  unfold State.scrubVisit
  extract_lets -merge -useContext -underBinder x0 x1 x2 x3
  have h4 : State.Kept o x0 := (State.flips_kept h)
  have h5 : State.Kept o x2 := (State.scrubGroup_kept h4)
  have h6 : State.Kept o x3 := (State.fset_kept h5)
  exact (State.Kept.ite h (State.Kept.ite (State.evt_kept (State.finc_kept h6)) h6))

theorem State.scrubRepair_kept (h : State.Kept o s) : State.Kept o (State.scrubRepair s a1) := by
  unfold State.scrubRepair
  split
  · rename_i x0 x1
    exact h
  · rename_i x2 x3 x4 x5
    extract_lets -merge -useContext -underBinder x6 x7 x8
    have h9 : State.Kept o x6 := (State.flips_kept h)
    have h10 : State.Kept o x8 := (State.Kept.mk h9 rfl rfl rfl rfl rfl rfl)
    exact (State.Kept.ite h (State.scrubGroup_kept (State.fset_kept h10)))

theorem State.sramPatrol_kept (h : State.Kept o s) : State.Kept o (State.sramPatrol s a1) := by
  unfold State.sramPatrol
  exact (State.Kept.foldl h (fun a2 s0 h1 => (by
    split
    · rename_i x3 x4 x5 x6 x7
      extract_lets -merge -useContext -underBinder x8 x9
      subst x8
      have h10 : State.Kept o x9 := (State.Kept.ite (State.Kept.mk_sram h1 rfl rfl rfl rfl rfl rfl) h1)
      exact (State.report_kept h10))))

theorem State.occupy_kept (h : State.Kept o s) : State.Kept o (State.occupy s a1) := by
  unfold State.occupy
  split
  · rename_i x0 x1
    extract_lets -merge -useContext -underBinder x2
    exact (State.Kept.mk h rfl rfl rfl rfl rfl rfl)
  · rename_i x3 x4 x5
    extract_lets -merge -useContext -underBinder x6 x7 x8 x9 x10
    have h11 : State.Kept o x10 := (State.Kept.mk h rfl rfl rfl rfl rfl rfl)
    exact (State.finc_kept h11)
  · rename_i x12 x13 x14 x15
    extract_lets -merge -useContext -underBinder x16 x17 x18
    have h19 : State.Kept o x17 := (State.Kept.mk h rfl rfl rfl rfl rfl rfl)
    exact (State.Kept.ite h19 (State.finc_kept (State.Kept.mk h rfl rfl rfl rfl rfl rfl)))

theorem State.observe_kept (h : State.Kept o s) : State.Kept o (State.observe s a1) := by
  unfold State.observe
  exact (State.Kept.foldl h (fun a2 s0 h1 => (by
    split
    · rename_i x3 x4 x5
      extract_lets -merge -useContext -underBinder x6 x7 x8 x9 x10 x11
      have h12 : State.Kept o x8 := (State.fset_kept (State.fsetB_kept (State.fsetB_kept h1)))
      have h13 : State.Kept o x9 := (State.Kept.ite (State.evt_kept (State.fset_kept h12)) h12)
      exact (State.Kept.mk h13 rfl rfl rfl rfl rfl rfl))))

theorem State.portTick_kept (h : State.Kept o s) : State.Kept o (State.portTick s) := by
  unfold State.portTick
  extract_lets -merge -useContext -underBinder x0 x1
  exact (State.advanceTo_kept (State.Kept.mk h rfl rfl rfl rfl rfl rfl))

theorem State.stalledCycle_kept (h : State.Kept o s) : State.Kept o (State.stalledCycle s a1) := by
  unfold State.stalledCycle
  split
  · rename_i x0 x1 x2
    extract_lets -merge -useContext -underBinder x3 x4 x5
    have h6 : State.Kept o x4 := (State.occupy_kept (State.Kept.mk h rfl rfl rfl rfl rfl rfl))
    exact (State.Kept.mk h6 rfl rfl rfl rfl rfl rfl)
  · rename_i x7 x8
    extract_lets -merge -useContext -underBinder x9
    exact (State.Kept.mk h rfl rfl rfl rfl rfl rfl)

theorem State.grantCycle_kept (h : State.Kept o s) : State.Kept o (State.grantCycle s a1) := by
  unfold State.grantCycle
  extract_lets -merge -useContext -underBinder x0 x1 x2 x3
  have h4 : State.Kept o x0 := (State.occupy_kept h)
  have h5 : State.Kept o x2 := by
    unfold x2
    split
    · rename_i x6 x7 x8 x9 x10 x11 x12
      exact (State.finc_kept h4)
    · rename_i x13 x14 x15
      exact h4
  exact (State.Kept.mk h5 rfl rfl rfl rfl rfl rfl)

theorem State.portStep_kept (h : State.Kept o s) : State.Kept o (State.portStep s a1) := by
  unfold State.portStep
  extract_lets -merge -useContext -underBinder x0 x1 x2
  have h3 : State.Kept o x1 := (State.fset_kept (State.fsetB_kept h))
  have h4 : State.Kept o x2 := (State.Kept.ite (State.stalledCycle_kept h3) (State.grantCycle_kept h3))
  exact (State.portTick_kept (State.observe_kept h4))

end Sys2Proof.Machine
end

