-- ==== Sys2Proof/Laws/Kept/Scal.lean ====
section
/-! SUPPORT. What every command keeps: one lemma for each function of Machine/Scal.lean that changes the state. -/

namespace Sys2Proof.Machine

variable {o : Origin} {s : State}

theorem State.scalPend_kept (h : State.Kept o s) : State.Kept o (State.scalPend s a1) := by
  unfold State.scalPend
  exact (State.fset_kept h)

theorem State.scalDomainOn_kept (h : State.Kept o s) : State.Kept o (State.scalDomainOn s a1) := by
  unfold State.scalDomainOn
  extract_lets -merge -useContext -underBinder x0 x1 x2 x3
  have h4 : State.Kept o x1 := (State.scalPend_kept h)
  exact (State.Kept.mk h4 rfl rfl rfl rfl rfl rfl)

theorem State.compensate_kept (h : State.Kept o s) : State.Kept o (State.compensate s a1 a2) := by
  unfold State.compensate
  extract_lets -merge -useContext -underBinder x0 x1
  have h2 : State.Kept o x0 := (State.Kept.foldl h (fun a5 s3 h4 => (by
    extract_lets -merge -useContext -underBinder x6 x7
    have h8 : State.Kept o x6 := by
      unfold x6
      split
      · rename_i x9 x10 x11
        extract_lets -merge -useContext -underBinder x12
        exact (State.Kept.mk h4 rfl rfl rfl rfl rfl rfl)
      · rename_i x13 x14
        exact h4
    exact (State.Kept.ite h8 (State.Kept.mk h8 rfl rfl rfl rfl rfl rfl)))))
  exact (State.Kept.ite (State.Kept.mk h2 rfl rfl rfl rfl rfl rfl) h2)

theorem State.scalReading_kept (h : State.Kept o s) : State.Kept o (State.scalReading s a1 a2) := by
  unfold State.scalReading
  extract_lets -merge -useContext -underBinder x0 x1
  exact (State.scalPend_kept h)

theorem State.scalBroken_kept (h : State.Kept o s) : State.Kept o (State.scalBroken s a1) := by
  unfold State.scalBroken
  exact (State.scalPend_kept h)

theorem State.scalRunStart_kept (h : State.Kept o s) : State.Kept o (State.scalRunStart s) := by
  unfold State.scalRunStart
  split
  · rename_i x0 x1 x2 x3 x4
    extract_lets -merge -useContext -underBinder x5 x6 x7 x8 x9
    have h10 : State.Kept o x5 := (State.fset_kept h)
    have h11 : State.Kept o x7 := (State.Kept.ite (State.fset_kept h10) h10)
    have h12 : State.Kept o x8 := (State.fset_kept (State.fset_kept h11))
    exact (State.Kept.ite h (State.Kept.mk h12 rfl rfl rfl rfl rfl rfl))
  · rename_i x13 x14 x15
    exact h

theorem State.interpTable_kept (h : State.Kept o s) : State.Kept o (s.interpTable l).2 := by
  unfold State.interpTable
  refine State.Kept.foldlP (fun x : Nat × List Nat × State => State.Kept o x.2.2) (l := l) h ?_
  intro a b hb
  have := State.roundFree_kept hb (a1 := 100000 * b.1) (a2 := 1048576)
  exact this

theorem State.useSpare_kept (h : State.Kept o s) : State.Kept o (State.useSpare s a1 a2) := by
  unfold State.useSpare
  extract_lets -merge -useContext -underBinder x0 x1 x2
  have h3 : State.Kept o x1 := (State.Kept.mk h rfl rfl rfl rfl rfl rfl)
  have h4 : State.Kept o x2 := (State.Kept.ite (State.fset_kept h3) (State.fset_kept h3))
  exact (State.evt_kept h4)

theorem State.memberResult_kept (h : State.Kept o s) : State.Kept o (State.memberResult s a1 a2 a3) := by
  unfold State.memberResult
  extract_lets -merge -useContext -underBinder x0 x1 x2 x3 x4 x5
  have h6 : State.Kept o x2 := (State.reportDrop_kept (State.useSpare_kept h))
  have h7 : State.Kept o x4 := (State.report_kept h)
  exact (State.Kept.ite (State.Kept.mk h rfl rfl rfl rfl rfl rfl) (State.Kept.ite (State.Kept.mk h6 rfl rfl rfl rfl rfl rfl) (State.Kept.mk h7 rfl rfl rfl rfl rfl rfl)))

theorem State.scalMemberDone_kept (h : State.Kept o s) : State.Kept o (State.scalMemberDone s a1 a2 a3 a4) := by
  unfold State.scalMemberDone
  split
  · rename_i x0 x1
    exact h
  · rename_i x2 x3 x4
    extract_lets -merge -useContext -underBinder x5 x6 x7 x8 x9 x10 x11 x12 x13 x14 x15 x16
    have h17 : State.Kept o x9 := (State.Kept.ite (by
    split
    · rename_i x18 x19 x20 x21
      have h22 : State.Kept o x20 := State.Kept.of_eq2 x21 (State.interpTable_kept h)
      extract_lets -merge -useContext -underBinder x23
      exact (State.Kept.mk h22 rfl rfl rfl rfl rfl rfl)) h)
    have h24 : State.Kept o x12 := (State.Kept.ite (State.Kept.mk h17 rfl rfl rfl rfl rfl rfl) h17)
    have h25 : State.Kept o x16 := (State.Kept.ite (State.Kept.mk h rfl rfl rfl rfl rfl rfl) h)
    exact (State.Kept.ite h (State.Kept.ite (State.memberResult_kept h24) (State.memberResult_kept h25)))

theorem State.oscCountDone_kept (h : State.Kept o s) : State.Kept o (State.oscCountDone s a1) := by
  unfold State.oscCountDone
  split
  · rename_i x0 x1
    exact h
  · rename_i x2 x3 x4
    extract_lets -merge -useContext -underBinder x5 x6 x7 x8 x9
    have h10 : State.Kept o x7 := (State.Kept.foldl h (fun a13 s11 h12 => (State.Kept.ite (State.reportDrop_kept h12) (by
    split
    · rename_i x14 x15 x16 x17
      have h18 : State.Kept o x16 := State.Kept.of_eq2 x17 (State.fresh_kept h12)
      split
      · rename_i x19 x20 x21 x22
        have h23 : State.Kept o x21 := State.Kept.of_eq2 x22 (State.fresh_kept h18)
        extract_lets -merge -useContext -underBinder x24 x25
        exact (State.Kept.mk h23 rfl rfl rfl rfl rfl rfl)))))
    exact (State.Kept.ite h (State.Kept.mk h10 rfl rfl rfl rfl rfl rfl))

theorem State.scalCmdCheck_kept (h : State.Kept o s) : State.Kept o (State.scalCmdCheck s) := by
  unfold State.scalCmdCheck
  exact (State.Kept.ite (State.Kept.ite (State.cmdFail_kept h) (State.cmdDone_kept h)) h)

theorem State.scalRunDone_kept (h : State.Kept o s) : State.Kept o (State.scalRunDone s) := by
  unfold State.scalRunDone
  split
  · rename_i x0 x1
    exact h
  · rename_i x2 x3 x4
    extract_lets -merge -useContext -underBinder x5 x6 x7 x8 x9 x10 x11 x12 x13 x14 x15 x16 x17 x18 x19 x20
    have h21 : State.Kept o x8 := (State.fset_kept h)
    have h22 : State.Kept o x9 := (State.fsetB_kept (State.fsetB_kept h21))
    have h23 : State.Kept o x10 := (State.finc_kept (State.fwrap_kept h22))
    have h24 : State.Kept o x11 := (State.Kept.ite (State.finc_kept h23) h23)
    have h25 : State.Kept o x12 := by
      unfold x12
      split
      · rename_i x26 x27 x28 x29
        exact (State.fset_kept (State.fset_kept h24))
      · rename_i x30 x31
        exact h24
    have h32 : State.Kept o x13 := (State.fset_kept (State.fset_kept h25))
    have h33 : State.Kept o x18 := (State.Kept.mk h32 rfl rfl rfl rfl rfl rfl)
    have h34 : State.Kept o x19 := (State.evt_kept h33)
    have h35 : State.Kept o x20 := (State.Kept.ite (State.evt_kept (State.fset_kept h34)) h34)
    exact (State.Kept.ite h (State.scalCmdCheck_kept h35))

theorem State.refValid_kept (h : State.Kept o s) : State.Kept o (State.refValid s a1 a2) := by
  unfold State.refValid
  extract_lets -merge -useContext -underBinder x0 x1 x2 x3
  have h4 : State.Kept o x2 := (State.evt_kept (State.fsetB_kept (State.fsetB_kept h)))
  have h5 : State.Kept o x3 := by
    unfold x3
    split
    · rename_i x6 x7 x8
      extract_lets -merge -useContext -underBinder x9 x10
      have h11 : State.Kept o x9 := (State.fset_kept (State.fset_kept h4))
      exact (State.Kept.ite (State.Kept.mk h11 rfl rfl rfl rfl rfl rfl) h4)
    · rename_i x12 x13
      exact h4
  exact (State.Kept.ite h (State.scalPend_kept h5))

theorem State.refinGate_kept (h : State.Kept o s) : State.Kept o (State.refinGate s a1) := by
  unfold State.refinGate
  extract_lets -merge -useContext -underBinder x0 x1 x2 x3 x4 x5 x6
  have h7 : State.Kept o x1 := (State.fsetI_kept h)
  have h8 : State.Kept o x2 := (State.refValid_kept h7)
  have h9 : State.Kept o x6 := (State.Kept.mk h7 rfl rfl rfl rfl rfl rfl)
  exact (State.Kept.ite h (State.Kept.ite (State.Kept.mk h8 rfl rfl rfl rfl rfl rfl) (State.Kept.ite (State.refValid_kept h9) h9)))

theorem State.refinLoss_kept (h : State.Kept o s) : State.Kept o (State.refinLoss s) := by
  unfold State.refinLoss
  extract_lets -merge -useContext -underBinder x0 x1
  have h2 : State.Kept o x0 := (State.refValid_kept h)
  exact (State.Kept.mk h2 rfl rfl rfl rfl rfl rfl)

theorem State.vrefCheck_kept (h : State.Kept o s) : State.Kept o (State.vrefCheck s) := by
  unfold State.vrefCheck
  extract_lets -merge -useContext -underBinder x0 x1 x2 x3 x4 x5 x6
  have h7 : State.Kept o x6 := (State.Kept.mk h rfl rfl rfl rfl rfl rfl)
  exact (State.Kept.ite h (State.Kept.ite (State.refValid_kept h7) (State.Kept.ite (State.refValid_kept h7) h7)))

theorem State.madcConversion_kept (h : State.Kept o s) : State.Kept o (State.madcConversion s a1 a2) := by
  unfold State.madcConversion
  extract_lets -merge -useContext -underBinder x0
  split
  · rename_i x1 x2 x3 x4
    have h5 : State.Kept o x3 := State.Kept.of_eq2 x4 (State.fit16_kept h)
    extract_lets -merge -useContext -underBinder x6
    have h7 : State.Kept o x6 := (State.fset_kept (State.fset_kept h5))
    exact (State.Kept.ite (State.vrefCheck_kept h7) h7)

theorem State.scalApplied_kept (h : State.Kept o s) : State.Kept o (State.scalApplied s a1) := by
  unfold State.scalApplied
  extract_lets -merge -useContext -underBinder x0 x1 x2
  have h3 : State.Kept o x0 := (State.Kept.ite (State.refinLoss_kept h) h)
  have h4 : State.Kept o x1 := (State.refValid_kept h3)
  exact (State.Kept.ite h3 (State.Kept.mk h4 rfl rfl rfl rfl rfl rfl))

theorem State.scalRun_kept (h : State.Kept o s) : State.Kept o (State.scalRun s a1) := by
  unfold State.scalRun
  extract_lets -merge -useContext -underBinder x0 x1 x2
  have h3 : State.Kept o x1 := (State.scalPend_kept h)
  exact (State.scalCmdCheck_kept (State.Kept.mk h3 rfl rfl rfl rfl rfl rfl))

end Sys2Proof.Machine
end

