-- ==== Sys2Proof/Laws/Kept/Thm.lean ====
section
/-! SUPPORT. What every command keeps: one lemma for each function of Machine/Thm.lean that changes the state. -/

namespace Sys2Proof.Machine

variable {o : Origin} {s : State}

theorem State.convert_kept (h : State.Kept o s) : State.Kept o (State.convert s a1 a2) := by
  unfold State.convert
  extract_lets -merge -useContext -underBinder x0 x1 x2 x3
  have h4 : State.Kept o x0 := (State.fset_kept h)
  have h5 : State.Kept o x2 := (State.Kept.mk h4 rfl rfl rfl rfl rfl rfl)
  exact (State.Kept.ite (State.Kept.mk h5 rfl rfl rfl rfl rfl rfl) h5)

theorem State.demand_kept (h : State.Kept o s) : State.Kept o (State.demand s a1 a2 a3) := by
  unfold State.demand
  extract_lets -merge -useContext -underBinder x0 x1 x2
  have h3 : State.Kept o x0 := (State.finc_kept h)
  exact (State.Kept.ite (State.Kept.mk h3 rfl rfl rfl rfl rfl rfl) (State.convert_kept h3))

theorem State.guardDemand_kept (h : State.Kept o s) : State.Kept o (State.guardDemand s) := by
  unfold State.guardDemand
  extract_lets -merge -useContext -underBinder x0 x1 x2
  have h3 : State.Kept o x0 := (State.advanceTo_kept h)
  have h4 : State.Kept o x2 := (State.Kept.mk h3 rfl rfl rfl rfl rfl rfl)
  exact (State.Kept.ite (State.demand_kept h4) h4)

theorem State.scalCheck_kept (h : State.Kept o s) : State.Kept o (State.scalCheck s) := by
  unfold State.scalCheck
  extract_lets -merge -useContext -underBinder x0 x1 x2
  have h3 : State.Kept o x0 := (State.advanceTo_kept h)
  have h4 : State.Kept o x2 := (State.Kept.mk h3 rfl rfl rfl rfl rfl rfl)
  exact (State.Kept.ite (State.demand_kept h4) h4)

theorem State.thmStat_kept (h : State.Kept o s) : State.Kept o (State.thmStat s) := by
  unfold State.thmStat
  extract_lets -merge -useContext -underBinder x0 x1
  have h2 : State.Kept o x1 := (State.fsetB_kept (State.fsetB_kept h))
  exact (State.fsetB_kept (State.fsetB_kept h2))

theorem State.tripReport_kept (h : State.Kept o s) : State.Kept o (State.tripReport s a1 a2) := by
  unfold State.tripReport
  exact (State.Kept.ite (State.report_kept h) h)

theorem State.judge_kept (h : State.Kept o s) : State.Kept o (State.judge s a1 a2 a3) := by
  unfold State.judge
  extract_lets -merge -useContext -underBinder x0 x1 x2 x3 x4
  have h5 : State.Kept o x2 := by
    unfold x2
    try unfold x1
    extract_lets -merge -useContext -underBinder x6 x7 x8
    have h9 : State.Kept o x8 := (State.fsetB_kept h)
    exact (State.Kept.ite (State.evt_kept h9) h9)
  have h10 : State.Kept o x3 := by
    unfold x3
    try unfold x1
    extract_lets -merge -useContext -underBinder x11 x12 x13
    have h14 : State.Kept o x13 := (State.fsetB_kept h5)
    exact (State.Kept.ite (State.evt_kept h14) h14)
  have h15 : State.Kept o x4 := by
    unfold x4
    try unfold x1
    extract_lets -merge -useContext -underBinder x16 x17 x18
    have h19 : State.Kept o x18 := (State.fsetB_kept h10)
    exact (State.Kept.ite (State.evt_kept h19) h19)
  exact (State.tripReport_kept (State.thmStat_kept h15))

theorem State.tileBit_kept (h : State.Kept o s) : State.Kept o (State.tileBit s a1 a2 a3) := by
  unfold State.tileBit
  exact (State.fset_kept h)

theorem State.judgeTile_kept (h : State.Kept o s) : State.Kept o (State.judgeTile s a1) := by
  unfold State.judgeTile
  extract_lets -merge -useContext -underBinder x0 x1 x2 x3 x4 x5
  have h6 : State.Kept o x3 := by
    unfold x3
    try unfold x2
    extract_lets -merge -useContext -underBinder x7 x8 x9
    have h10 : State.Kept o x9 := (State.tileBit_kept h)
    exact (State.Kept.ite (State.evt_kept h10) h10)
  have h11 : State.Kept o x4 := by
    unfold x4
    try unfold x2
    extract_lets -merge -useContext -underBinder x12 x13 x14
    have h15 : State.Kept o x14 := (State.tileBit_kept h6)
    exact (State.Kept.ite (State.evt_kept h15) h15)
  have h16 : State.Kept o x5 := by
    unfold x5
    try unfold x2
    extract_lets -merge -useContext -underBinder x17 x18 x19
    have h20 : State.Kept o x19 := (State.tileBit_kept h11)
    exact (State.Kept.ite (State.evt_kept h20) h20)
  exact (State.tripReport_kept (State.thmStat_kept h16))

theorem State.rate_kept (h : State.Kept o s) : State.Kept o (State.rate s a1 a2).1 := by
  unfold State.rate
  split
  · rename_i x0 x1
    extract_lets -merge -useContext -underBinder x2
    exact (State.Kept.pr1 (State.Kept.mk h rfl rfl rfl rfl rfl rfl))
  · rename_i x3 x4 x5 x6
    extract_lets -merge -useContext -underBinder x7 x8 x9
    exact (State.Kept.ite1 (State.Kept.pr1 h) (by
    split
    · rename_i x10 x11 x12 x13
      have h14 : State.Kept o x12 := State.Kept.of_eq2 x13 (State.roundFree_kept h)
      split
      · rename_i x15 x16 x17 x18
        have h19 : State.Kept o x17 := State.Kept.of_eq2 x18 (State.fit16_kept h14)
        extract_lets -merge -useContext -underBinder x20 x21 x22
        have h23 : State.Kept o x20 := (State.fsetB_kept (State.fset_kept h19))
        have h24 : State.Kept o x22 := (State.Kept.mk h23 rfl rfl rfl rfl rfl rfl)
        exact (State.Kept.ite1 (State.Kept.pr1 (State.evt_kept (State.finc_kept h24))) (State.Kept.pr1 h24))))

theorem State.bandgapMedian_kept (h : State.Kept o s) : State.Kept o (State.bandgapMedian s) := by
  unfold State.bandgapMedian
  extract_lets -merge -useContext -underBinder x0 x1
  split
  · rename_i x2 x3 x4
    extract_lets -merge -useContext -underBinder x5
    exact (State.Kept.mk h rfl rfl rfl rfl rfl rfl)
  · rename_i x6 x7
    exact h

theorem State.reading_kept (h : State.Kept o s) : State.Kept o (State.reading s a1 a2 a3) := by
  unfold State.reading
  extract_lets -merge -useContext -underBinder x0 x1 x2 x3 x4 x5 x6 x7 x8
  have h9 : State.Kept o x2 := (State.fset_kept (State.fset_kept h))
  have h10 : State.Kept o x3 := (State.fsetB_kept h9)
  have h11 : State.Kept o x4 := (State.fset_kept h10)
  have h12 : State.Kept o x6 := (State.Kept.mk h10 rfl rfl rfl rfl rfl rfl)
  have h13 : State.Kept o x7 := (State.evt_kept (State.finc_kept (State.fset_kept h12)))
  have h14 : State.Kept o x8 := (State.scalBroken_kept (State.judge_kept h13))
  exact (State.Kept.ite (by
    split
    · rename_i x15 x16 x17 x18
      have h19 : State.Kept o x16 := State.Kept.of_eq1 x18 (State.rate_kept h11)
      exact (State.scalReading_kept (State.compensate_kept (State.judge_kept h19)))) (State.Kept.ite (State.bandgapMedian_kept h14) h14))

theorem State.conversionDone_kept (h : State.Kept o s) : State.Kept o (State.conversionDone s a1 a2) := by
  unfold State.conversionDone
  extract_lets -merge -useContext -underBinder x0 x1 x2 x3 x4 x5
  have h6 : State.Kept o x0 := (State.Kept.foldl h (fun a9 s7 h8 => (State.reading_kept h8)))
  have h10 : State.Kept o x1 := (State.finc_kept (State.fset64_kept h6))
  have h11 : State.Kept o x2 := (State.fset_kept h10)
  have h12 : State.Kept o x4 := (State.Kept.mk h11 rfl rfl rfl rfl rfl rfl)
  have h13 : State.Kept o x5 := (State.evt_kept h12)
  exact (State.Kept.ite h (by
    split
    · rename_i x14 x15 x16 x17
      extract_lets -merge -useContext -underBinder x18
      exact (State.convert_kept (State.Kept.mk h13 rfl rfl rfl rfl rfl rfl))
    · rename_i x19 x20
      exact h13))

end Sys2Proof.Machine
end

