-- ==== Sys2Proof/Laws/Kept/Gaf.lean ====
section
/-! SUPPORT. What every command keeps: one lemma for each function of Machine/Gaf.lean that changes the state. -/

namespace Sys2Proof.Machine

variable {o : Origin} {s : State}

theorem State.scaled_kept (h : State.Kept o s) : State.Kept o (State.scaled s a1 a2).2 := by
  unfold State.scaled
  split
  · rename_i x0 x1 x2 x3
    have h4 : State.Kept o x2 := State.Kept.of_eq2 x3 (State.Kept.ite2 (State.roundFree_kept h) (State.Kept.pr2 h))
    exact (State.fit16_kept h4)

theorem State.fromLinear16_kept (h : State.Kept o s) : State.Kept o (State.fromLinear16 s a1 a2).2 := by
  unfold State.fromLinear16
  exact (State.scaled_kept h)

theorem State.fromLinear11_kept (h : State.Kept o s) : State.Kept o (State.fromLinear11 s a1).2 := by
  unfold State.fromLinear11
  exact (State.scaled_kept h)

theorem State.gafShow_kept (h : State.Kept o s) : State.Kept o (State.gafShow s) := by
  unfold State.gafShow
  extract_lets -merge -useContext -underBinder x0
  have h1 : State.Kept o x0 := (State.fset_kept h)
  exact (State.fset_kept h1)

theorem State.setSegQueue_kept (h : State.Kept o s) : State.Kept o (State.setSegQueue s a1 a2) := by
  unfold State.setSegQueue
  extract_lets -merge -useContext -underBinder x0 x1 x2 x3
  have h4 : State.Kept o x2 := (State.Kept.mk h rfl rfl rfl rfl rfl rfl)
  have h5 : State.Kept o x3 := by
    unfold x3
    split
    · rename_i x6 x7 x8
      exact (State.Kept.ite h4 (State.emit_kept h4))
    · rename_i x9 x10
      exact h4
  exact (State.gafShow_kept h5)

theorem State.pmbus_kept (h : State.Kept o s) : State.Kept o (State.pmbus s a1) := by
  unfold State.pmbus
  extract_lets -merge -useContext -underBinder x0 x1
  exact (State.Kept.ite h (State.Kept.ite h (State.setSegQueue_kept h)))

theorem State.pmbusAhead_kept (h : State.Kept o s) : State.Kept o (State.pmbusAhead s a1 a2) := by
  unfold State.pmbusAhead
  exact (State.Kept.ite h (by
    split
    · rename_i x0 x1
      exact (State.setSegQueue_kept h)
    · rename_i x2 x3 x4 x5
      exact (State.setSegQueue_kept h)))

theorem State.writeVout_kept (h : State.Kept o s) : State.Kept o (State.writeVout s a1) := by
  unfold State.writeVout
  extract_lets -merge -useContext -underBinder x0
  split
  · rename_i x1 x2 x3 x4
    have h5 : State.Kept o x3 := State.Kept.of_eq2 x4 (State.fit16_kept h)
    exact (State.pmbus_kept h5)

theorem State.headroom_kept (h : State.Kept o s) : State.Kept o (State.headroom s a1 a2) := by
  unfold State.headroom
  extract_lets -merge -useContext -underBinder x0 x1 x2
  have h3 : State.Kept o x2 := (State.Kept.mk h rfl rfl rfl rfl rfl rfl)
  exact (State.Kept.ite h (State.Kept.ite (State.reportDrop_kept (State.evt_kept (State.finc_kept h3))) h3))

theorem State.railStep_kept (h : State.Kept o s) : State.Kept o (State.railStep s a1) := by
  unfold State.railStep
  extract_lets -merge -useContext -underBinder x0 x1 x2 x3 x4 x5 x6 x7 x8 x9 x10 x11
  have h12 : State.Kept o x1 := (State.fsetB_kept h)
  have h13 : State.Kept o x9 := (State.fsetB_kept (State.fset_kept h12))
  have h14 : State.Kept o x10 := (State.Kept.ite (State.reportDrop_kept (State.evt_kept h13)) h13)
  exact (State.Kept.ite h12 (State.Kept.ite (State.writeVout_kept h14) h14))

theorem State.headroomStep_kept (h : State.Kept o s) : State.Kept o (State.headroomStep s) := by
  unfold State.headroomStep
  extract_lets -merge -useContext -underBinder x0 x1 x2 x3
  have h4 : State.Kept o x0 := (State.advanceTo_kept h)
  have h5 : State.Kept o x1 := (State.Kept.ite (State.Kept.foldl h4 (fun a8 s6 h7 => (State.Kept.ite (State.railStep_kept h7) h7))) h4)
  have h9 : State.Kept o x2 := (State.Kept.ite (State.demand_kept h5) h5)
  exact (State.Kept.mk h9 rfl rfl rfl rfl rfl rfl)

theorem State.railPoll_kept (h : State.Kept o s) : State.Kept o (State.railPoll s) := by
  unfold State.railPoll
  extract_lets -merge -useContext -underBinder x0 x1 x2 x3 x4
  have h5 : State.Kept o x0 := (State.advanceTo_kept h)
  have h6 : State.Kept o x3 := (State.Kept.foldl h5 (fun a9 s7 h8 => (by
    extract_lets -merge -useContext -underBinder x10
    have h11 : State.Kept o x10 := (State.pmbus_kept (State.pmbus_kept h8))
    exact (State.Kept.ite (State.Kept.ite (State.pmbus_kept h11) h11) h8))))
  exact (State.Kept.mk h6 rfl rfl rfl rfl rfl rfl)

theorem State.pmbAlert_kept (h : State.Kept o s) : State.Kept o (State.pmbAlert s a1 a2) := by
  unfold State.pmbAlert
  extract_lets -merge -useContext -underBinder x0 x1
  have h2 : State.Kept o x1 := (State.fset_kept h)
  exact (State.Kept.ite h (State.Kept.ite (State.pmbusAhead_kept h2) h2))

theorem State.railFault_kept (h : State.Kept o s) : State.Kept o (State.railFault s a1) := by
  unfold State.railFault
  exact (State.reportDrop_kept (State.gafShow_kept (State.evt_kept (State.fset_kept h))))

theorem State.readStatusCheck_kept (h : State.Kept o s) : State.Kept o (State.readStatusCheck s) := by
  unfold State.readStatusCheck
  extract_lets -merge -useContext -underBinder x0
  exact (State.Kept.ite (State.Kept.ite (State.cmdFail_kept h) (State.cmdDone_kept h)) h)

theorem State.readStatus_kept (h : State.Kept o s) : State.Kept o (State.readStatus s) := by
  unfold State.readStatus
  extract_lets -merge -useContext -underBinder x0 x1 x2
  have h3 : State.Kept o x2 := (State.Kept.mk h rfl rfl rfl rfl rfl rfl)
  exact (State.readStatusCheck_kept (State.Kept.foldl h3 (fun a6 s4 h5 => (State.pmbus_kept h5))))

theorem State.pmbusOk_kept (h : State.Kept o s) : State.Kept o (State.pmbusOk s a1 a2 a3) := by
  unfold State.pmbusOk
  extract_lets -merge -useContext -underBinder x0
  have h1 : State.Kept o x0 := (State.fset_kept h)
  exact (State.Kept.ite (by
    split
    · rename_i x2 x3 x4
      exact (State.evt_kept (State.pmbusAhead_kept h))
    · rename_i x5 x6
      exact (State.finc_kept h)) (State.Kept.ite (by
    split
    · rename_i x7 x8 x9 x10
      have h11 : State.Kept o x9 := State.Kept.of_eq2 x10 (State.fromLinear16_kept h)
      exact (State.fset_kept h11)) (State.Kept.ite (by
    split
    · rename_i x12 x13 x14 x15
      have h16 : State.Kept o x14 := State.Kept.of_eq2 x15 (State.fromLinear11_kept h)
      exact (State.fset_kept h16)) (State.Kept.ite (State.Kept.ite (State.Kept.ite (State.railFault_kept h1) h1) (State.gafShow_kept (State.fset_kept h1))) h))))

theorem State.pmbusDone_kept (h : State.Kept o s) : State.Kept o (State.pmbusDone s a1 a2 a3) := by
  unfold State.pmbusDone
  split
  · rename_i x0 x1
    exact h
  · rename_i x2 x3 x4 x5
    extract_lets -merge -useContext -underBinder x6 x7 x8 x9 x10 x11
    have h12 : State.Kept o x6 := (State.setSegQueue_kept h)
    have h13 : State.Kept o x7 := (State.Kept.ite (State.finc_kept h12) (State.Kept.ite (State.finc_kept h12) h12))
    have h14 : State.Kept o x10 := (State.Kept.ite (State.Kept.mk h13 rfl rfl rfl rfl rfl rfl) h13)
    have h15 : State.Kept o x11 := (State.Kept.ite (State.pmbusOk_kept h13) (State.Kept.ite (State.Kept.mk h13 rfl rfl rfl rfl rfl rfl) (State.Kept.ite h14 (State.railFault_kept h14))))
    exact (State.readStatusCheck_kept h15)

theorem State.pmbusRetry_kept (h : State.Kept o s) : State.Kept o (State.pmbusRetry s a1) := by
  unfold State.pmbusRetry
  split
  · rename_i x0 x1
    exact h
  · rename_i x2 x3 x4
    extract_lets -merge -useContext -underBinder x5 x6 x7
    have h8 : State.Kept o x5 := (State.advanceTo_kept h)
    have h9 : State.Kept o x7 := (State.Kept.mk h8 rfl rfl rfl rfl rfl rfl)
    exact (State.pmbusAhead_kept h9)

theorem State.gafApplied_kept (h : State.Kept o s) : State.Kept o (State.gafApplied s a1) := by
  unfold State.gafApplied
  extract_lets -merge -useContext -underBinder x0
  have h1 : State.Kept o x0 := (State.Kept.foldl h (fun a4 s2 h3 => (by
    extract_lets -merge -useContext -underBinder x5
    have h6 : State.Kept o x5 := (State.fset_kept h3)
    exact (State.Kept.ite (State.pmbus_kept (State.writeVout_kept h6)) (State.Kept.ite (State.pmbus_kept h3) h3)))))
  exact (State.Kept.foldl h1 (fun a9 s7 h8 => (State.Kept.ite (State.startOn_kept h8) h8)))

end Sys2Proof.Machine
end

