-- ==== Sys2Proof/Laws/Kept/Dud.lean ====
section
/-! SUPPORT. What every command keeps: one lemma for each function of Machine/Dud.lean that changes the state. -/

namespace Sys2Proof.Machine

variable {o : Origin} {s : State}

theorem State.setSink_kept (h : State.Kept o s) : State.Kept o (State.setSink s a1 a2 a3) := by
  unfold State.setSink
  extract_lets -merge -useContext -underBinder x0
  exact (State.setDud_kept h)

theorem State.checkEpoch_kept (h : State.Kept o s) : State.Kept o (State.checkEpoch s a1 a2 a3) := by
  unfold State.checkEpoch
  exact (State.Kept.ite (State.demote_kept h) h)

theorem State.rxOk_kept (h : State.Kept o s) : State.Kept o (State.rxOk s a1 a2).2 := by
  unfold State.rxOk
  extract_lets -merge -useContext -underBinder x0 x1
  have h2 : State.Kept o x1 := (State.setDud_kept h)
  exact (State.Kept.ite2 (State.Kept.pr2 h2) (State.Kept.pr2 (State.finc_kept h2)))

theorem State.toReel2_kept (h : State.Kept o s) : State.Kept o (State.toReel2 s a1 a2) := by
  unfold State.toReel2
  exact (State.reelPush_kept h)

theorem State.offerSplit_kept (h : State.Kept o s) : State.Kept o (State.offerSplit s a1) := by
  unfold State.offerSplit
  extract_lets -merge -useContext -underBinder x0 x1 x2 x3 x4 x5 x6
  exact (State.Kept.ite (State.mirrorActive_kept (State.fset_kept (State.fset_kept (State.fset_kept h)))) h)

theorem State.loseSinks_kept (h : State.Kept o s) : State.Kept o (State.loseSinks s a1 a2) := by
  unfold State.loseSinks
  extract_lets -merge -useContext -underBinder x0 x1 x2 x3 x4 x5 x6 x7
  have h8 : State.Kept o x2 := (State.Kept.foldl h (fun a11 s9 h10 => (State.ringSend_kept h10)))
  have h12 : State.Kept o x4 := (State.setDud_kept h8)
  have h13 : State.Kept o x5 := (State.Kept.ite (State.stopPort_kept h12) h12)
  have h14 : State.Kept o x6 := (State.evt_kept (State.evt_kept (State.showRing_kept h13)))
  have h15 : State.Kept o x7 := (State.offerSplit_kept h14)
  exact (State.Kept.ite h (State.report_kept h15))

theorem State.tallyRound_kept (h : State.Kept o s) : State.Kept o (State.tallyRound s a1 a2 a3) := by
  unfold State.tallyRound
  extract_lets -merge -useContext -underBinder x0 x1
  have h2 : State.Kept o x0 := (State.ringSend_kept h)
  exact (State.setDud_kept h2)

theorem State.deliveryDone_kept (h : State.Kept o s) : State.Kept o (State.deliveryDone s a1) := by
  unfold State.deliveryDone
  extract_lets -merge -useContext -underBinder x0
  exact (State.Kept.ite (State.tallyRound_kept h) h)

theorem State.endRounds_kept (h : State.Kept o s) : State.Kept o (State.endRounds s a1) := by
  unfold State.endRounds
  extract_lets -merge -useContext -underBinder x0 x1 x2 x3 x4 x5 x6 x7
  have h8 : State.Kept o x2 := (State.Kept.foldl h (fun a11 s9 h10 => (State.finc_kept h10)))
  have h12 : State.Kept o x5 := (State.setDud_kept h8)
  have h13 : State.Kept o x6 := (State.loseSinks_kept h12)
  exact (State.frameDoneCheck_kept (State.setDud_kept h13))

theorem State.roundOver_kept (h : State.Kept o s) : State.Kept o (State.roundOver s a1) := by
  unfold State.roundOver
  extract_lets -merge -useContext -underBinder x0 x1
  exact (State.Kept.ite h (State.Kept.ite (by
    split
    · rename_i x2 x3
      exact (State.tallyRound_kept h)
    · rename_i x4 x5 x6
      extract_lets -merge -useContext -underBinder x7 x8
      exact (State.Kept.ite (State.tallyRound_kept (State.fadd_kept (State.sendDrives_kept h))) (State.endRounds_kept h))) (State.endRounds_kept h)))

theorem State.tallyReport_kept (h : State.Kept o s) : State.Kept o (State.tallyReport s a1 a2 a3 a4) := by
  unfold State.tallyReport
  extract_lets -merge -useContext -underBinder x0 x1 x2 x3 x4 x5 x6 x7 x8 x9 x10 x11 x12 x13 x14 x15 x16 x17 x18
  have h19 : State.Kept o x3 := (State.fsetB_kept (State.fsetB_kept (State.fsetB_kept (State.fsetB_kept h))))
  have h20 : State.Kept o x4 := (State.fset_kept (State.fset_kept h19))
  have h21 : State.Kept o x7 := (State.fadd_kept (State.fadd_kept (State.fadd_kept h20)))
  have h22 : State.Kept o x8 := (State.Kept.ite (State.evt_kept h21) h21)
  have h23 : State.Kept o x9 := (State.Kept.ite (State.evt_kept h22) h22)
  have h24 : State.Kept o x10 := (State.Kept.ite (State.evt_kept h23) h23)
  have h25 : State.Kept o x11 := (State.Kept.ite (State.evt_kept h24) h24)
  have h26 : State.Kept o x14 := (State.Kept.mk h25 rfl rfl rfl rfl rfl rfl)
  have h27 : State.Kept o x16 := (State.sinkTemperature_kept (State.fset_kept h26))
  have h28 : State.Kept o x18 := (State.Kept.ite (State.judgeTile_kept (State.fsetI_kept h27)) h26)
  exact (State.Kept.ite (State.headroom_kept (State.headroom_kept h28)) h28)

theorem State.tallyRx_kept (h : State.Kept o s) : State.Kept o (State.tallyRx s a1 a2) := by
  unfold State.tallyRx
  split
  · rename_i x0 x1 x2 x3
    have h4 : State.Kept o x2 := State.Kept.of_eq2 x3 (State.rxOk_kept h)
    extract_lets -merge -useContext -underBinder x5 x6 x7 x8 x9 x10 x11 x12
    have h13 : State.Kept o x6 := (State.checkEpoch_kept h4)
    have h14 : State.Kept o x8 := (State.tallyReport_kept h13)
    have h15 : State.Kept o x12 := (State.Kept.ite (State.fset_kept (State.setDud_kept h14)) (State.setDud_kept h14))
    exact (State.Kept.ite h4 (State.Kept.ite (State.toReel2_kept h13) (State.Kept.ite (State.toReel2_kept h14) (State.roundOver_kept h15))))

theorem State.tallyTimeout_kept (h : State.Kept o s) : State.Kept o (State.tallyTimeout s a1) := by
  unfold State.tallyTimeout
  extract_lets -merge -useContext -underBinder x0 x1 x2
  exact (State.Kept.ite h (State.roundOver_kept (State.setDud_kept h)))

theorem State.showD_kept (h : State.Kept o s) : State.Kept o (State.showD s a1) := by
  unfold State.showD
  exact (State.fset_kept h)

theorem State.showCaps_kept (h : State.Kept o s) : State.Kept o (State.showCaps s a1 a2) := by
  unfold State.showCaps
  extract_lets -merge -useContext -underBinder x0 x1
  exact (State.Kept.ite h (State.fset_kept (State.fset_kept (State.fset_kept h))))

theorem State.showRtt_kept (h : State.Kept o s) : State.Kept o (State.showRtt s a1 a2) := by
  unfold State.showRtt
  exact (State.Kept.ite (State.fset_kept h) h)

theorem State.showResult_kept (h : State.Kept o s) : State.Kept o (State.showResult s a1 a2) := by
  unfold State.showResult
  exact (State.setMask_kept h)

theorem State.enumFail_kept (h : State.Kept o s) : State.Kept o (State.enumFail s a1 a2) := by
  unfold State.enumFail
  extract_lets -merge -useContext -underBinder x0 x1 x2
  have h3 : State.Kept o x1 := (State.setDud_kept h)
  have h4 : State.Kept o x2 := (State.fset_kept (State.fset_kept h3))
  exact (State.cmdFail_kept (State.showRing_kept h4))

theorem State.ringFound_kept (h : State.Kept o s) : State.Kept o (State.ringFound s a1 a2 a3) := by
  unfold State.ringFound
  extract_lets -merge -useContext -underBinder x0
  have h1 : State.Kept o x0 := (State.fset_kept h)
  exact (State.showD_kept (State.showCaps_kept (State.showRtt_kept h1)))

theorem State.enumPhase_kept (h : State.Kept o s) : State.Kept o (State.enumPhase s a1 a2) := by
  unfold State.enumPhase
  extract_lets -merge -useContext -underBinder x0 x1
  split
  · rename_i x2 x3
    split
    · rename_i x4 x5 x6
      exact (State.enumFail_kept h)
    · rename_i x7 x8
      extract_lets -merge -useContext -underBinder x9 x10
      have h11 : State.Kept o x10 := (State.ringSend_kept (State.fset_kept h))
      exact (State.Kept.ite (State.enumFail_kept h) (State.startPhase_kept h11))
  · rename_i x12 x13
    split
    · rename_i x14 x15 x16
      exact (State.enumFail_kept h)
    · rename_i x17 x18
      extract_lets -merge -useContext -underBinder x19
      have h20 : State.Kept o x19 := (State.ringFound_kept h)
      exact (State.Kept.ite (State.enumFail_kept h) (State.startPhase_kept h20))
  · rename_i x21 x22
    exact (State.Kept.ite (State.startPhase_kept h) (State.enumFail_kept h))
  · rename_i x23 x24 x25 x26
    extract_lets -merge -useContext -underBinder x27 x28
    have h29 : State.Kept o x28 := (State.setDud_kept h)
    exact (State.Kept.ite (State.cmdDone_kept (State.showRing_kept (State.fset_kept h29))) (State.enumFail_kept h))

theorem State.endOp_kept (h : State.Kept o s) : State.Kept o (State.endOp s a1 a2 a3) := by
  unfold State.endOp
  exact (State.Kept.ite (State.Kept.ite (State.cmdDone_kept h) (State.cmdFail_kept h)) h)

theorem State.takeoverTally_kept (h : State.Kept o s) : State.Kept o (State.takeoverTally s a1 a2) := by
  unfold State.takeoverTally
  extract_lets -merge -useContext -underBinder x0 x1 x2 x3 x4 x5
  have h6 : State.Kept o x1 := (State.Kept.ite h (State.startPhase_kept h))
  have h7 : State.Kept o x3 := (State.setDud_kept h6)
  have h8 : State.Kept o x5 := (State.Kept.mk h7 rfl rfl rfl rfl rfl rfl)
  exact (State.Kept.ite h6 (State.tallyRound_kept (State.showRing_kept (State.setTileLive_kept h8))))

theorem State.claimPhase_kept (h : State.Kept o s) : State.Kept o (State.claimPhase s a1 a2 a3) := by
  unfold State.claimPhase
  extract_lets -merge -useContext -underBinder x0 x1 x2 x3 x4 x5 x6 x7 x8 x9
  have h10 : State.Kept o x4 := (State.setDud_kept h)
  have h11 : State.Kept o x6 := (State.Kept.ite (State.fset_kept (State.fset_kept (State.fset_kept h10))) h10)
  have h12 : State.Kept o x7 := (State.showRing_kept h11)
  have h13 : State.Kept o x8 := (State.Kept.ite (State.evt_kept h12) h12)
  have h14 : State.Kept o x9 := (State.Kept.ite h13 (State.takeoverTally_kept h13))
  exact (State.Kept.ite (State.Kept.ite (State.Kept.ite (State.cmdFail_kept h) h) (State.startPhase_kept (State.fset_kept h))) (State.endOp_kept h14))

theorem State.linkingAnswer_kept (h : State.Kept o s) : State.Kept o (State.linkingAnswer s a1 a2) := by
  unfold State.linkingAnswer
  extract_lets -merge -useContext -underBinder x0 x1 x2 x3 x4
  have h5 : State.Kept o x4 := (State.Kept.mk h rfl rfl rfl rfl rfl rfl)
  exact (State.Kept.ite (State.Kept.ite h5 (State.Kept.ite (State.fset_kept h5) (State.fset_kept (State.setPairState_kept h5)))) h)

theorem State.queryPhase_kept (h : State.Kept o s) : State.Kept o (State.queryPhase s a1 a2 a3) := by
  unfold State.queryPhase
  extract_lets -merge -useContext -underBinder x0 x1
  have h2 : State.Kept o x1 := (State.linkingAnswer_kept (State.showD_kept (State.showCaps_kept (State.showRtt_kept h))))
  exact (State.Kept.ite (by
    split
    · rename_i x3 x4 x5
      exact (State.endOp_kept h2)
    · rename_i x6 x7
      extract_lets -merge -useContext -underBinder x8
      have h9 : State.Kept o x8 := (State.fset_kept (State.ringFound_kept h2))
      exact (State.endOp_kept (State.showRing_kept h9))) (State.endOp_kept h2))

theorem State.readmitPhase_kept (h : State.Kept o s) : State.Kept o (State.readmitPhase s a1 a2 a3) := by
  unfold State.readmitPhase
  extract_lets -merge -useContext -underBinder x0 x1 x2 x3 x4 x5 x6
  have h7 : State.Kept o x3 := (State.Kept.ite (State.mirrorActive_kept (State.setDud_kept h)) h)
  have h8 : State.Kept o x6 := (State.setDud_kept h7)
  exact (State.Kept.ite (State.endOp_kept h7) (State.Kept.ite (State.startPhase_kept h7) (State.endOp_kept h8)))

theorem State.phaseEnd_kept (h : State.Kept o s) : State.Kept o (State.phaseEnd s a1 a2) := by
  unfold State.phaseEnd
  extract_lets -merge -useContext -underBinder x0
  have h1 : State.Kept o x0 := (State.showResult_kept h)
  split
  · rename_i x2 x3
    exact (State.enumPhase_kept h1)
  · rename_i x4 x5 x6 x7 x8
    exact (State.claimPhase_kept h1)
  · rename_i x9 x10 x11
    exact (State.queryPhase_kept h1)
  · rename_i x12 x13 x14
    exact (State.endOp_kept h1)
  · rename_i x15 x16 x17
    exact (State.readmitPhase_kept h1)
  · rename_i x18 x19 x20
    exact (State.loseSinks_kept h1)
  · rename_i x21 x22
    exact h1
  · rename_i x23 x24
    exact h1

theorem State.opAnswer_kept (h : State.Kept o s) : State.Kept o (State.opAnswer s a1 a2 a3 a4 a5) := by
  unfold State.opAnswer
  extract_lets -merge -useContext -underBinder x0
  split
  · rename_i x1 x2
    exact (State.toReel2_kept h)
  · rename_i x3 x4 x5 x6 x7
    extract_lets -merge -useContext -underBinder x8 x9 x10
    exact (State.Kept.ite (State.phaseEnd_kept (State.setDud_kept h)) (State.setDud_kept h))

theorem State.opTimeout_kept (h : State.Kept o s) : State.Kept o (State.opTimeout s a1 a2) := by
  unfold State.opTimeout
  split
  · rename_i x0 x1
    exact h
  · rename_i x2 x3 x4 x5 x6
    extract_lets -merge -useContext -underBinder x7 x8 x9 x10
    have h11 : State.Kept o x8 := (State.sendPhase_kept h)
    exact (State.Kept.ite (State.setDud_kept h11) (State.phaseEnd_kept (State.setDud_kept h)))

theorem State.ackRx_kept (h : State.Kept o s) : State.Kept o (State.ackRx s a1 a2) := by
  unfold State.ackRx
  split
  · rename_i x0 x1 x2 x3
    have h4 : State.Kept o x2 := State.Kept.of_eq2 x3 (State.rxOk_kept h)
    extract_lets -merge -useContext -underBinder x5
    exact (State.Kept.ite h4 (State.opAnswer_kept (State.checkEpoch_kept h4)))

theorem State.recordSink_kept (h : State.Kept o s) : State.Kept o (State.recordSink s a1 a2 a3) := by
  unfold State.recordSink
  extract_lets -merge -useContext -underBinder x0 x1 x2
  exact (State.setSink_kept h)

theorem State.queryRx_kept (h : State.Kept o s) : State.Kept o (State.queryRx s a1 a2) := by
  unfold State.queryRx
  split
  · rename_i x0 x1 x2 x3
    have h4 : State.Kept o x2 := State.Kept.of_eq2 x3 (State.rxOk_kept h)
    extract_lets -merge -useContext -underBinder x5 x6 x7 x8 x9 x10
    have h11 : State.Kept o x9 := (State.checkEpoch_kept (State.recordSink_kept h4))
    exact (State.Kept.ite h4 (State.opAnswer_kept h11))

theorem State.enumLooped_kept (h : State.Kept o s) : State.Kept o (State.enumLooped s a1 a2) := by
  unfold State.enumLooped
  split
  · rename_i x0 x1 x2 x3
    have h4 : State.Kept o x2 := State.Kept.of_eq2 x3 (State.rxOk_kept h)
    extract_lets -merge -useContext -underBinder x5
    exact (State.Kept.ite h4 (State.setDud_kept h4))

theorem State.responseTimeout_kept (h : State.Kept o s) : State.Kept o (State.responseTimeout s a1 a2) := by
  unfold State.responseTimeout
  exact (State.Kept.ite (State.tallyTimeout_kept h) (State.opTimeout_kept h))

theorem State.eventRx_kept (h : State.Kept o s) : State.Kept o (State.eventRx s a1 a2) := by
  unfold State.eventRx
  split
  · rename_i x0 x1 x2 x3
    have h4 : State.Kept o x2 := State.Kept.of_eq2 x3 (State.rxOk_kept h)
    exact (State.Kept.ite (State.toReel2_kept h4) h4)

theorem State.enumerateStart_kept (h : State.Kept o s) : State.Kept o (State.enumerateStart s a1) := by
  unfold State.enumerateStart
  extract_lets -merge -useContext -underBinder x0 x1 x2
  have h3 : State.Kept o x1 := (State.setDud_kept (State.stopPort_kept h))
  have h4 : State.Kept o x2 := (State.fset_kept (State.fset_kept h3))
  exact (State.startPhase_kept (State.showRing_kept h4))

theorem State.queryStart_kept (h : State.Kept o s) : State.Kept o (State.queryStart s a1 a2) := by
  unfold State.queryStart
  extract_lets -merge -useContext -underBinder x0 x1
  exact (State.startPhase_kept h)

theorem State.claimStart_kept (h : State.Kept o s) : State.Kept o (State.claimStart s a1 a2 a3 a4) := by
  unfold State.claimStart
  extract_lets -merge -useContext -underBinder x0
  exact (State.Kept.ite (State.endOp_kept h) (State.startPhase_kept h))

theorem State.readmitStart_kept (h : State.Kept o s) : State.Kept o (State.readmitStart s a1 a2) := by
  unfold State.readmitStart
  extract_lets -merge -useContext -underBinder x0
  exact (State.Kept.ite h (State.startPhase_kept h))

theorem State.sendConfigStart_kept (h : State.Kept o s) : State.Kept o (State.sendConfigStart s a1 a2) := by
  unfold State.sendConfigStart
  extract_lets -merge -useContext -underBinder x0 x1
  exact (State.Kept.ite (State.cmdFail_kept h) (by
    split
    · rename_i x2 x3 x4 x5
      have h6 : State.Kept o x4 := State.Kept.of_eq2 x5 (State.fresh_kept h)
      extract_lets -merge -useContext -underBinder x7
      exact (State.startOn_kept h6)))

theorem State.autoReadmit_kept (h : State.Kept o s) : State.Kept o (State.autoReadmit s a1) := by
  unfold State.autoReadmit
  exact (State.Kept.ite (State.readmitStart_kept h) h)

theorem State.idleFrameset_kept (h : State.Kept o s) : State.Kept o (State.idleFrameset s a1) := by
  unfold State.idleFrameset
  extract_lets -merge -useContext -underBinder x0
  have h1 : State.Kept o x0 := (State.advanceTo_kept h)
  exact (State.Kept.ite (State.ringSend_kept h1) h)

theorem State.ringLockLoss_kept (h : State.Kept o s) : State.Kept o (State.ringLockLoss s a1) := by
  unfold State.ringLockLoss
  extract_lets -merge -useContext -underBinder x0
  exact (State.setDud_kept h)

theorem State.dudApplied_kept (h : State.Kept o s) : State.Kept o (State.dudApplied s a1 a2) := by
  unfold State.dudApplied
  extract_lets -merge -useContext -underBinder x0
  have h1 : State.Kept o x0 := (State.Kept.ite (State.startOn_kept h) h)
  exact (State.showD_kept h1)

theorem State.rejoinSinks_kept (h : State.Kept o s) : State.Kept o (State.rejoinSinks s a1) := by
  unfold State.rejoinSinks
  extract_lets -merge -useContext -underBinder x0 x1 x2 x3
  have h4 : State.Kept o x2 := (State.setDud_kept h)
  have h5 : State.Kept o x3 := (State.Kept.foldl h4 (fun a8 s6 h7 => (State.fset_kept h7)))
  exact (State.Kept.ite h (State.evt_kept (State.showRing_kept h5)))

theorem State.portBoundary_kept (h : State.Kept o s) : State.Kept o (State.portBoundary s a1 a2 a3 a4) := by
  unfold State.portBoundary
  extract_lets -merge -useContext -underBinder x0 x1 x2 x3 x4 x5 x6 x7 x8 x9 x10 x11 x12
  have h13 : State.Kept o x1 := (State.setDud_kept h)
  have h14 : State.Kept o x2 := (State.rejoinSinks_kept h13)
  have h15 : State.Kept o x4 := (State.Kept.ite (State.disown_kept h14) (State.Kept.ite (State.claimStart_kept (State.setDud_kept h14)) h14))
  have h16 : State.Kept o x5 := (State.startOn_kept (State.stopPort_kept h15))
  have h17 : State.Kept o x9 := (State.setDud_kept h15)
  have h18 : State.Kept o x11 := (State.Kept.mk h17 rfl rfl rfl rfl rfl rfl)
  have h19 : State.Kept o x12 := (State.showRing_kept (State.setTileLive_kept h18))
  exact (State.Kept.ite (State.showRing_kept (State.setDud_kept h16)) (State.Kept.ite (State.sendDrives_kept h19) h15))

theorem State.portBlanking_kept (h : State.Kept o s) : State.Kept o (State.portBlanking s a1 a2) := by
  unfold State.portBlanking
  extract_lets -merge -useContext -underBinder x0 x1 x2
  have h3 : State.Kept o x2 := (State.ringSend_kept h)
  exact (State.Kept.ite h (by
    split
    · rename_i x4 x5
      exact (State.startOn_kept h3)
    · rename_i x6
      exact h3))

end Sys2Proof.Machine
end

