-- ==== Sys2Proof/Laws/Kept/Diag.lean ====
section
/-! SUPPORT. What every command keeps: one lemma for each function of Machine/Diag.lean that changes the state. -/

namespace Sys2Proof.Machine

variable {o : Origin} {s : State}

theorem State.record_kept (h : State.Kept o s) : State.Kept o (State.record s a1).2 := by
  unfold State.record
  extract_lets -merge -useContext -underBinder x0
  have h1 : State.Kept o x0 := (State.diagDamage_kept h)
  exact (State.Kept.ite2 (State.Kept.pr2 h) (State.Kept.pr2 h1))

theorem State.setRecord_kept (h : State.Kept o s) : State.Kept o (State.setRecord s a1 a2) := by
  unfold State.setRecord
  extract_lets -merge -useContext -underBinder x0
  exact (State.admitWrite_kept h)

theorem State.diagReport_kept (h : State.Kept o s) : State.Kept o (State.diagReport s a1 a2 a3 a4 a5 a6) := by
  unfold State.diagReport
  extract_lets -merge -useContext -underBinder x0 x1
  exact (State.Kept.ite (State.finc_kept h) (State.Kept.mk h rfl rfl rfl rfl rfl rfl))

theorem State.reportVerdict_kept (h : State.Kept o s) : State.Kept o (State.reportVerdict s a1 a2 a3) := by
  unfold State.reportVerdict
  extract_lets -merge -useContext -underBinder x0
  exact (State.Kept.ite h (State.evt_kept (State.diagReport_kept h)))

theorem State.diagReportWrite_kept (h : State.Kept o s) : State.Kept o (State.diagReportWrite s) := by
  unfold State.diagReportWrite
  split
  · rename_i x0 x1
    exact h
  · rename_i x2 x3 x4 x5
    extract_lets -merge -useContext -underBinder x6 x7
    exact (State.Kept.ite (State.reelPush_kept (State.Kept.mk h rfl rfl rfl rfl rfl rfl)) h)

theorem State.postChange_kept (h : State.Kept o s) : State.Kept o (State.postChange s a1 a2 a3) := by
  unfold State.postChange
  extract_lets -merge -useContext -underBinder x0 x1 x2
  have h3 : State.Kept o x2 := (State.Kept.mk h rfl rfl rfl rfl rfl rfl)
  exact (State.mirrorActive_kept h3)

theorem State.postInto_kept (h : State.Kept o s) : State.Kept o (State.postInto s a1 a2 a3) := by
  unfold State.postInto
  extract_lets -merge -useContext -underBinder x0 x1 x2
  have h3 : State.Kept o x2 := (State.evt_kept (State.finc_kept h))
  exact (State.Kept.ite h (State.Kept.ite (State.postChange_kept h) (State.reportDrop_kept (State.diagReport_kept h3))))

theorem State.postOut_kept (h : State.Kept o s) : State.Kept o (State.postOut s a1 a2) := by
  unfold State.postOut
  exact (State.Kept.ite h (State.postChange_kept h))

theorem State.postCode_kept (h : State.Kept o s) : State.Kept o (State.postCode s a1 a2) := by
  unfold State.postCode
  exact (State.Kept.ite (State.postInto_kept h) (State.postOut_kept h))

theorem State.listBoundary_kept (h : State.Kept o s) : State.Kept o (State.listBoundary s a1) := by
  unfold State.listBoundary
  extract_lets -merge -useContext -underBinder x0 x1 x2 x3 x4
  have h5 : State.Kept o x4 := (State.Kept.mk h rfl rfl rfl rfl rfl rfl)
  exact (State.fsetB_kept (State.fset_kept h5))

theorem State.result_kept (h : State.Kept o s) : State.Kept o (State.result s a1 a2 a3 a4) := by
  unfold State.result
  split
  · rename_i x0 x1 x2 x3
    have h4 : State.Kept o x2 := State.Kept.of_eq2 x3 (State.record_kept h)
    split
    · rename_i x5
      exact h4
    · rename_i x6 x7
      split
      · rename_i x8 x9 x10 x11
        split
        · rename_i x12
          exact h4
        · rename_i x13 x14
          extract_lets -merge -useContext -underBinder x15 x16
          have h17 : State.Kept o x16 := (State.setRecord_kept h4)
          exact (State.Kept.ite h17 (State.reportVerdict_kept (State.postCode_kept h17)))

theorem State.markDue_kept (h : State.Kept o s) : State.Kept o (State.markDue s a1 a2 a3) := by
  unfold State.markDue
  extract_lets -merge -useContext -underBinder x0 x1
  exact (State.Kept.mk h rfl rfl rfl rfl rfl rfl)

theorem State.sendProbe_kept (h : State.Kept o s) : State.Kept o (State.sendProbe s a1 a2) := by
  unfold State.sendProbe
  extract_lets -merge -useContext -underBinder x0 x1 x2 x3 x4 x5
  have h6 : State.Kept o x4 := (State.ringSend_kept h)
  exact (State.Kept.ite h (State.fadd_kept (State.Kept.mk h6 rfl rfl rfl rfl rfl rfl)))

theorem State.sendProbes_kept (h : State.Kept o s) : State.Kept o (State.sendProbes s a1) := by
  unfold State.sendProbes
  extract_lets -merge -useContext -underBinder x0 x1 x2
  have h3 : State.Kept o x2 := (State.Kept.mk h rfl rfl rfl rfl rfl rfl)
  exact (State.Kept.foldl h3 (fun a6 s4 h5 => (State.Kept.ite (State.sendProbe_kept h5) h5)))

theorem State.diagRequest_kept (h : State.Kept o s) : State.Kept o (State.diagRequest s a1 a2 a3) := by
  unfold State.diagRequest
  extract_lets -merge -useContext -underBinder x0 x1
  have h2 : State.Kept o x0 := (State.ringSend_kept h)
  exact (State.Kept.ite h (State.Kept.mk h2 rfl rfl rfl rfl rfl rfl))

theorem State.diagEntry_kept (h : State.Kept o s) : State.Kept o (State.diagEntry s a1 a2 a3 a4) := by
  unfold State.diagEntry
  extract_lets -merge -useContext -underBinder x0 x1
  split
  · rename_i x2 x3 x4
    extract_lets -merge -useContext -underBinder x5 x6 x7
    have h8 : State.Kept o x6 := (State.Kept.mk h rfl rfl rfl rfl rfl rfl)
    have h9 : State.Kept o x7 := (State.result_kept h8)
    exact (State.Kept.ite (State.Kept.ite (State.finc_kept h8) (by
    split
    · rename_i x10 x11 x12 x13
      have h14 : State.Kept o x12 := State.Kept.of_eq2 x13 (State.record_kept h9)
      split
      · rename_i x15 x16
        exact (State.Kept.ite (State.markDue_kept h14) h14)
      · rename_i x17
        exact h14)) (State.result_kept h))
  · rename_i x18 x19
    exact (State.result_kept h)

theorem State.diagTake_kept (h : State.Kept o s) : State.Kept o (State.diagTake s a1 a2 a3 a4) := by
  unfold State.diagTake
  extract_lets -merge -useContext -underBinder x0 x1 x2 x3 x4 x5
  have h6 : State.Kept o x4 := (State.Kept.mk h rfl rfl rfl rfl rfl rfl)
  have h7 : State.Kept o x5 := (State.Kept.foldl h6 (fun a10 s8 h9 => (State.diagEntry_kept h9)))
  exact (State.Kept.ite h6 (State.sendProbes_kept h7))

theorem State.diagRx_kept (h : State.Kept o s) : State.Kept o (State.diagRx s a1 a2) := by
  unfold State.diagRx
  split
  · rename_i x0 x1 x2 x3
    have h4 : State.Kept o x2 := State.Kept.of_eq2 x3 (State.rxOk_kept h)
    extract_lets -merge -useContext -underBinder x5 x6 x7
    have h8 : State.Kept o x6 := (State.checkEpoch_kept h4)
    exact (State.Kept.ite h4 (by
    split
    · rename_i x9 x10
      exact (State.toReel2_kept h8)
    · rename_i x11 x12 x13
      extract_lets -merge -useContext -underBinder x14 x15 x16 x17
      have h18 : State.Kept o x17 := (State.Kept.mk h8 rfl rfl rfl rfl rfl rfl)
      exact (State.Kept.ite (State.mirror_kept h18) (State.diagTake_kept h18))))

theorem State.diagTimeout_kept (h : State.Kept o s) : State.Kept o (State.diagTimeout s a1) := by
  unfold State.diagTimeout
  split
  · rename_i x0 x1
    exact h
  · rename_i x2 x3 x4
    extract_lets -merge -useContext -underBinder x5
    exact (State.finc_kept (State.Kept.mk h rfl rfl rfl rfl rfl rfl))

theorem State.visitEmitter_kept (h : State.Kept o s) : State.Kept o (State.visitEmitter s a1 a2) := by
  unfold State.visitEmitter
  split
  · rename_i x0 x1 x2 x3
    have h4 : State.Kept o x2 := State.Kept.of_eq2 x3 (State.record_kept h)
    split
    · rename_i x5
      exact h4
    · rename_i x6 x7
      extract_lets -merge -useContext -underBinder x8 x9 x10 x11
      have h12 : State.Kept o x10 := (State.setRecord_kept h4)
      have h13 : State.Kept o x11 := (State.Kept.ite (State.postInto_kept h12) h12)
      exact (State.Kept.ite (State.markDue_kept h13) h13)

theorem State.sweepEnd_kept (h : State.Kept o s) : State.Kept o (State.sweepEnd s) := by
  unfold State.sweepEnd
  extract_lets -merge -useContext -underBinder x0 x1 x2 x3 x4 x5 x6 x7
  have h8 : State.Kept o x2 := (State.Kept.foldl h (fun a11 s9 h10 => (by
    extract_lets -merge -useContext -underBinder x12 x13 x14
    have h15 : State.Kept o x13 := (State.Kept.ite h10 (State.evt_kept (State.diagReport_kept h10)))
    have h16 : State.Kept o x14 := (State.Kept.ite h15 (State.evt_kept (State.diagReport_kept h15)))
    try unfold x1
    exact (State.Kept.ite h16 (State.evt_kept (State.diagReport_kept h16))))))
  have h17 : State.Kept o x5 := (State.Kept.foldl h8 (fun a20 s18 h19 => (State.fset_kept h19)))
  have h21 : State.Kept o x7 := (State.Kept.mk h17 rfl rfl rfl rfl rfl rfl)
  exact (State.evt_kept (State.fwrap_kept h21))

theorem State.diagVisit_kept (h : State.Kept o s) : State.Kept o (State.diagVisit s a1 a2 a3 a4) := by
  unfold State.diagVisit
  extract_lets -merge -useContext -underBinder x0 x1 x2 x3 x4
  have h5 : State.Kept o x2 := (State.Kept.mk h rfl rfl rfl rfl rfl rfl)
  have h6 : State.Kept o x3 := (State.Kept.foldl h5 (fun a9 s7 h8 => (State.Kept.foldl h8 (fun a12 s10 h11 => (State.visitEmitter_kept h11)))))
  have h13 : State.Kept o x4 := (State.Kept.ite h (State.Kept.ite (State.sendProbes_kept (State.diagRequest_kept h6)) h6))
  exact (State.Kept.ite h (State.Kept.ite (State.sweepEnd_kept h13) h13))

theorem State.initMapDone_kept (h : State.Kept o s) : State.Kept o (State.initMapDone s) := by
  unfold State.initMapDone
  extract_lets -merge -useContext -underBinder x0 x1 x2 x3 x4 x5
  have h6 : State.Kept o x1 := (State.Kept.foldl h (fun a9 s7 h8 => (State.postOut_kept (State.setRecord_kept h8))))
  have h10 : State.Kept o x4 := (State.Kept.mk h6 rfl rfl rfl rfl rfl rfl)
  have h11 : State.Kept o x5 := (State.Kept.ite (State.fset_kept h10) h10)
  exact (State.Kept.ite h (State.cmdDone_kept (State.fset_kept h11)))

theorem State.buildListDone_kept (h : State.Kept o s) : State.Kept o (State.buildListDone s) := by
  unfold State.buildListDone
  extract_lets -merge -useContext -underBinder x0
  have h1 : State.Kept o x0 := (State.Kept.foldl h (fun a4 s2 h3 => (by
    split
    · rename_i x5 x6 x7 x8
      have h9 : State.Kept o x7 := State.Kept.of_eq2 x8 (State.record_kept h3)
      split
      · rename_i x10 x11
        exact (State.Kept.ite (State.postInto_kept h9) (State.postOut_kept h9))
      · rename_i x12
        exact h9)))
  exact (State.Kept.ite h (State.cmdDone_kept (State.fset_kept (State.fset_kept h1))))

theorem State.relearn_kept (h : State.Kept o s) : State.Kept o (State.relearn s a1) := by
  unfold State.relearn
  exact (State.Kept.foldl h (fun a2 s0 h1 => (by
    split
    · rename_i x3 x4 x5 x6
      have h7 : State.Kept o x5 := State.Kept.of_eq2 x6 (State.record_kept h1)
      split
      · rename_i x8 x9
        extract_lets -merge -useContext -underBinder x10
        exact (State.reportVerdict_kept (State.setRecord_kept h7))
      · rename_i x11
        exact h7)))

theorem State.clearVerdict_kept (h : State.Kept o s) : State.Kept o (State.clearVerdict s a1) := by
  unfold State.clearVerdict
  split
  · rename_i x0 x1 x2 x3
    have h4 : State.Kept o x2 := State.Kept.of_eq2 x3 (State.record_kept h)
    split
    · rename_i x5 x6
      exact (State.postOut_kept (State.setRecord_kept h4))
    · rename_i x7
      exact (State.postOut_kept h4)

theorem State.diagApplied_kept (h : State.Kept o s) : State.Kept o (State.diagApplied s a1) := by
  unfold State.diagApplied
  extract_lets -merge -useContext -underBinder x0 x1
  have h2 : State.Kept o x0 := (State.fset_kept h)
  exact (State.Kept.ite (State.Kept.mk h2 rfl rfl rfl rfl rfl rfl) h)

theorem State.probeBlocked_kept (h : State.Kept o s) : State.Kept o (State.probeBlocked s) := by
  unfold State.probeBlocked
  extract_lets -merge -useContext -underBinder x0 x1 x2
  have h3 : State.Kept o x2 := (State.fsetB_kept h)
  exact (State.Kept.ite (State.evt_kept h3) h3)

theorem State.probeRequests_kept (h : State.Kept o s) : State.Kept o (State.probeRequests s a1) := by
  unfold State.probeRequests
  extract_lets -merge -useContext -underBinder x0
  exact (State.Kept.foldl h (fun a3 s1 h2 => (by
    extract_lets -merge -useContext -underBinder x4
    exact (State.Kept.foldl h2 (fun a7 s5 h6 => (State.diagRequest_kept h6))))))

theorem State.keepMatte_kept (h : State.Kept o s) : State.Kept o (State.keepMatte s) := by
  unfold State.keepMatte
  extract_lets -merge -useContext -underBinder x0
  exact (State.Kept.mk h rfl rfl rfl rfl rfl rfl)

theorem State.diagBoundary_kept (h : State.Kept o s) : State.Kept o (State.diagBoundary s a1) := by
  unfold State.diagBoundary
  extract_lets -merge -useContext -underBinder x0 x1 x2 x3 x4 x5
  have h6 : State.Kept o x0 := (State.listBoundary_kept h)
  have h7 : State.Kept o x2 := (State.Kept.ite (State.Kept.mk h6 rfl rfl rfl rfl rfl rfl) h6)
  have h8 : State.Kept o x4 := (State.Kept.mk h7 rfl rfl rfl rfl rfl rfl)
  have h9 : State.Kept o x5 := (State.probeBlocked_kept h8)
  exact (State.Kept.ite (State.Kept.foldl (State.probeRequests_kept h9) (fun a12 s10 h11 => (State.sendProbes_kept h11))) h9)

end Sys2Proof.Machine
end

