-- ==== Sys2Proof/Laws/Kept/LinkCore.lean ====
section
/-! SUPPORT. What every command keeps: one lemma for each function of Machine/LinkCore.lean that changes the state. -/

namespace Sys2Proof.Machine

variable {o : Origin} {s : State}

theorem State.setLink_kept (h : State.Kept o s) : State.Kept o (State.setLink s a1 a2) := by
  unfold State.setLink
  exact (State.Kept.mk h rfl rfl rfl rfl rfl rfl)

theorem State.truncate_kept (h : State.Kept o s) : State.Kept o (State.truncate s a1 a2) := by
  unfold State.truncate
  extract_lets -merge -useContext -underBinder x0
  split
  · rename_i x1 x2
    exact h
  · rename_i x3 x4 x5
    exact (State.fadd_kept (State.setLink_kept h))

theorem State.truncateAll_kept (h : State.Kept o s) : State.Kept o (State.truncateAll s a1) := by
  unfold State.truncateAll
  exact (State.Kept.foldl h (fun a2 s0 h1 => (State.truncate_kept h1)))

theorem State.showActive_kept (h : State.Kept o s) : State.Kept o (State.showActive s) := by
  unfold State.showActive
  extract_lets -merge -useContext -underBinder x0 x1
  have h2 : State.Kept o x1 := (State.fsetB_kept (State.fsetB_kept h))
  exact (State.fsetB_kept h2)

theorem State.switchUp_kept (h : State.Kept o s) : State.Kept o (State.switchUp s a1) := by
  unfold State.switchUp
  extract_lets -merge -useContext -underBinder x0 x1 x2 x3 x4
  have h5 : State.Kept o x1 := (State.Kept.ite (State.truncateAll_kept h) h)
  have h6 : State.Kept o x3 := (State.Kept.mk h5 rfl rfl rfl rfl rfl rfl)
  have h7 : State.Kept o x4 := (State.finc_kept (State.fset_kept (State.fset_kept h6)))
  exact (State.showActive_kept (State.evt_kept (State.evt_kept h7)))

theorem State.trackPref_kept (h : State.Kept o s) : State.Kept o (State.trackPref s) := by
  unfold State.trackPref
  extract_lets -merge -useContext -underBinder x0 x1
  exact (State.Kept.mk h rfl rfl rfl rfl rfl rfl)

theorem State.evalUp_kept (h : State.Kept o s) : State.Kept o (State.evalUp s) := by
  unfold State.evalUp
  extract_lets -merge -useContext -underBinder x0 x1 x2
  have h3 : State.Kept o x0 := (State.trackPref_kept h)
  exact (State.Kept.ite (State.switchUp_kept h3) (State.showActive_kept h3))

theorem State.unseeBurst_kept (h : State.Kept o s) : State.Kept o (State.unseeBurst s a1) := by
  unfold State.unseeBurst
  extract_lets -merge -useContext -underBinder x0
  exact (State.setLink_kept h)

theorem State.boundaryUp_kept (h : State.Kept o s) : State.Kept o (State.boundaryUp s) := by
  unfold State.boundaryUp
  extract_lets -merge -useContext -underBinder x0 x1 x2 x3 x4 x5 x6 x7 x8 x9 x10 x11
  have h12 : State.Kept o x5 := (State.unseeBurst_kept (State.unseeBurst_kept (State.Kept.mk h rfl rfl rfl rfl rfl rfl)))
  have h13 : State.Kept o x6 := (State.evalUp_kept h12)
  have h14 : State.Kept o x11 := (State.Kept.mk h13 rfl rfl rfl rfl rfl rfl)
  exact (State.Kept.ite h13 (State.Kept.ite (State.switchUp_kept h13) (State.Kept.ite (State.switchUp_kept h14) (State.Kept.ite (State.switchUp_kept h14) h14))))

theorem State.revertHoldoff_kept (h : State.Kept o s) : State.Kept o (State.revertHoldoff s) := by
  unfold State.revertHoldoff
  split
  · rename_i x0 x1 x2
    exact (State.advanceTo_kept h)
  · rename_i x3 x4
    exact h

theorem State.setLinkState_kept (h : State.Kept o s) : State.Kept o (State.setLinkState s a1 a2 a3) := by
  unfold State.setLinkState
  extract_lets -merge -useContext -underBinder x0 x1 x2 x3
  have h4 : State.Kept o x1 := (State.fset_kept (State.fset_kept h))
  have h5 : State.Kept o x3 := (State.Kept.ite h4 (State.reelPush_kept h4))
  exact (State.evalUp_kept h5)

theorem State.sendAuth_kept (h : State.Kept o s) : State.Kept o (State.sendAuth s a1 a2 a3) := by
  unfold State.sendAuth
  extract_lets -merge -useContext -underBinder x0
  exact (State.emit_kept h)

theorem State.sendProof_kept (h : State.Kept o s) : State.Kept o (State.sendProof s a1) := by
  unfold State.sendProof
  extract_lets -merge -useContext -underBinder x0
  split
  · rename_i x1 x2 x3
    extract_lets -merge -useContext -underBinder x4
    exact (State.sendAuth_kept h)
  · rename_i x5 x6
    exact h

theorem State.authFail_kept (h : State.Kept o s) : State.Kept o (State.authFail s a1 a2) := by
  unfold State.authFail
  extract_lets -merge -useContext -underBinder x0 x1 x2
  have h3 : State.Kept o x1 := (State.setLink_kept h)
  have h4 : State.Kept o x2 := (State.setLinkState_kept (State.finc_kept h3))
  exact (State.evt_kept h4)

theorem State.authOk_kept (h : State.Kept o s) : State.Kept o (State.authOk s a1 a2) := by
  unfold State.authOk
  extract_lets -merge -useContext -underBinder x0 x1 x2 x3 x4
  have h5 : State.Kept o x1 := (State.Kept.ite (State.Kept.mk h rfl rfl rfl rfl rfl rfl) h)
  have h6 : State.Kept o x3 := (State.setLink_kept h5)
  have h7 : State.Kept o x4 := (State.evt_kept (State.setLinkState_kept (State.finc_kept h6)))
  exact (State.Kept.ite (State.flushMirror_kept h7) h7)

theorem State.authProof_kept (h : State.Kept o s) : State.Kept o (State.authProof s a1 a2) := by
  unfold State.authProof
  extract_lets -merge -useContext -underBinder x0
  exact (State.Kept.ite h (by
    split
    · rename_i x1 x2
      exact (State.authFail_kept h)
    · rename_i x3 x4 x5
      extract_lets -merge -useContext -underBinder x6 x7
      exact (State.Kept.ite (State.authFail_kept h) (State.Kept.ite (State.authOk_kept h) (State.authFail_kept h)))))

theorem State.authChallenge_kept (h : State.Kept o s) : State.Kept o (State.authChallenge s a1 a2) := by
  unfold State.authChallenge
  extract_lets -merge -useContext -underBinder x0
  exact (State.Kept.ite h (State.sendProof_kept (State.setLink_kept h)))

theorem State.authTimeout_kept (h : State.Kept o s) : State.Kept o (State.authTimeout s a1) := by
  unfold State.authTimeout
  extract_lets -merge -useContext -underBinder x0
  exact (State.Kept.ite h (State.authFail_kept (State.advanceTo_kept h)))

theorem State.authRetry_kept (h : State.Kept o s) : State.Kept o (State.authRetry s a1) := by
  unfold State.authRetry
  extract_lets -merge -useContext -underBinder x0 x1
  have h2 : State.Kept o x1 := (State.advanceTo_kept h)
  exact (State.Kept.ite h (by
    split
    · rename_i x3 x4 x5 x6
      have h7 : State.Kept o x5 := State.Kept.of_eq2 x6 (State.fresh_kept h2)
      extract_lets -merge -useContext -underBinder x8
      have h9 : State.Kept o x8 := (State.setLink_kept h7)
      exact (State.sendAuth_kept h9)))

theorem State.linkUp_kept (h : State.Kept o s) : State.Kept o (State.linkUp s a1 a2 a3 a4 a5 a6) := by
  unfold State.linkUp
  extract_lets -merge -useContext -underBinder x0 x1 x2 x3
  have h4 : State.Kept o x0 := (State.fset_kept (State.fsetB_kept (State.fset_kept h)))
  have h5 : State.Kept o x2 := (State.setLink_kept h4)
  have h6 : State.Kept o x3 := (State.evt_kept (State.setLinkState_kept h5))
  exact (State.sendProof_kept h6)

theorem State.linkDown_kept (h : State.Kept o s) : State.Kept o (State.linkDown s a1) := by
  unfold State.linkDown
  extract_lets -merge -useContext -underBinder x0 x1 x2 x3
  have h4 : State.Kept o x0 := (State.truncateAll_kept h)
  have h5 : State.Kept o x2 := (State.setLink_kept h4)
  have h6 : State.Kept o x3 := (State.setLinkState_kept (State.fset_kept (State.fset_kept h5)))
  exact (State.breakLocksOf_kept (State.evt_kept h6))

theorem State.showKey_kept (h : State.Kept o s) : State.Kept o (State.showKey s) := by
  unfold State.showKey
  split
  · rename_i x0 x1 x2
    exact (State.fset_kept (State.fset_kept h))
  · rename_i x3 x4
    exact (State.fset_kept (State.fset_kept h))

theorem State.keyLoad_kept (h : State.Kept o s) : State.Kept o (State.keyLoad s) := by
  unfold State.keyLoad
  extract_lets -merge -useContext -underBinder x0 x1 x2 x3
  have h4 : State.Kept o x2 := (State.Kept.foldl h (fun a7 s5 h6 => (State.fset_kept h6)))
  exact (State.showKey_kept (State.Kept.mk h4 rfl rfl rfl rfl rfl rfl))

theorem State.keyClear_kept (h : State.Kept o s) : State.Kept o (State.keyClear s) := by
  unfold State.keyClear
  extract_lets -merge -useContext -underBinder x0
  exact (State.showKey_kept (State.Kept.mk h rfl rfl rfl rfl rfl rfl))

end Sys2Proof.Machine
end

