-- ==== Sys2Proof/Laws/Kept/Lanes.lean ====
section
/-! SUPPORT. What every command keeps: one lemma for each function of Machine/Lanes.lean that changes the state. -/

namespace Sys2Proof.Machine

variable {o : Origin} {s : State}

theorem State.setLane_kept (h : State.Kept o s) : State.Kept o (State.setLane s a1 a2) := by
  unfold State.setLane
  exact (State.Kept.mk h rfl rfl rfl rfl rfl rfl)

theorem State.setTrain_kept (h : State.Kept o s) : State.Kept o (State.setTrain s a1 a2) := by
  unfold State.setTrain
  exact (State.Kept.mk h rfl rfl rfl rfl rfl rfl)

theorem State.allLanes_kept (h : State.Kept o s) : State.Kept o (State.allLanes s a1 a2 a3) := by
  unfold State.allLanes
  exact (State.Kept.foldl h (fun a2 s0 h1 => (State.fset_kept h1)))

theorem State.lanesEvt_kept (h : State.Kept o s) : State.Kept o (State.lanesEvt s a1 a2) := by
  unfold State.lanesEvt
  exact (State.Kept.foldl h (fun a2 s0 h1 => (State.evt_kept h1)))

theorem State.mapLanes_kept (h : State.Kept o s) : State.Kept o (State.mapLanes s a1 a2) := by
  unfold State.mapLanes
  exact (State.Kept.foldl h (fun a2 s0 h1 => (State.setLane_kept h1)))

theorem State.enterSeek_kept (h : State.Kept o s) : State.Kept o (State.enterSeek s a1) := by
  unfold State.enterSeek
  extract_lets -merge -useContext -underBinder x0 x1 x2 x3
  have h4 : State.Kept o x1 := (State.allLanes_kept (State.allLanes_kept (State.allLanes_kept h)))
  have h5 : State.Kept o x2 := (State.mapLanes_kept (State.allLanes_kept h4))
  exact (State.setTrain_kept h5)

theorem State.leaveRun_kept (h : State.Kept o s) : State.Kept o (State.leaveRun s a1) := by
  unfold State.leaveRun
  extract_lets -merge -useContext -underBinder x0
  have h1 : State.Kept o x0 := (State.Kept.foldl h (fun a4 s2 h3 => (State.fset_kept h3)))
  exact (State.Kept.ite (State.lanesEvt_kept (State.linkDown_kept h1)) h)

theorem State.lowerCeiling_kept (h : State.Kept o s) : State.Kept o (State.lowerCeiling s a1) := by
  unfold State.lowerCeiling
  extract_lets -merge -useContext -underBinder x0
  exact (State.Kept.ite (State.lanesEvt_kept (State.allLanes_kept h)) h)

theorem State.recordFail_kept (h : State.Kept o s) : State.Kept o (State.recordFail s a1 a2) := by
  unfold State.recordFail
  exact (State.allLanes_kept (State.allLanes_kept h))

theorem State.trainFail_kept (h : State.Kept o s) : State.Kept o (State.trainFail s a1 a2 a3) := by
  unfold State.trainFail
  extract_lets -merge -useContext -underBinder x0 x1 x2
  have h3 : State.Kept o x0 := (State.Kept.ite (State.lowerCeiling_kept h) h)
  have h4 : State.Kept o x1 := (State.Kept.foldl (State.recordFail_kept h3) (fun a7 s5 h6 => (State.finc_kept h6)))
  have h8 : State.Kept o x2 := (State.leaveRun_kept (State.lanesEvt_kept h4))
  exact (State.enterSeek_kept (State.allLanes_kept h8))

theorem State.commandedRestart_kept (h : State.Kept o s) : State.Kept o (State.commandedRestart s a1 a2) := by
  unfold State.commandedRestart
  exact (State.enterSeek_kept (State.allLanes_kept (State.leaveRun_kept (State.recordFail_kept h))))

theorem State.enterOff_kept (h : State.Kept o s) : State.Kept o (State.enterOff s a1) := by
  unfold State.enterOff
  extract_lets -merge -useContext -underBinder x0
  have h1 : State.Kept o x0 := (State.leaveRun_kept h)
  exact (State.Kept.foldl h1 (fun a4 s2 h3 => (by
    extract_lets -merge -useContext -underBinder x5
    have h6 : State.Kept o x5 := (State.fset_kept (State.fset_kept (State.fset_kept h3)))
    exact (State.Kept.ite h3 (State.setLane_kept h6)))))

theorem State.laneEnable_kept (h : State.Kept o s) : State.Kept o (State.laneEnable s a1) := by
  unfold State.laneEnable
  exact (State.Kept.ite (State.enterSeek_kept (State.allLanes_kept h)) h)

theorem State.setTaps_kept (h : State.Kept o s) : State.Kept o (State.setTaps s a1 a2 a3 a4 a5) := by
  unfold State.setTaps
  exact (State.fsetI_kept (State.fsetI_kept (State.fsetI_kept (State.fsetI_kept h))))

theorem State.startTaps_kept (h : State.Kept o s) : State.Kept o (State.startTaps s a1) := by
  unfold State.startTaps
  exact (State.Kept.ite (State.setTaps_kept h) (State.setTaps_kept h))

theorem State.enterClimb_kept (h : State.Kept o s) : State.Kept o (State.enterClimb s a1 a2) := by
  unfold State.enterClimb
  extract_lets -merge -useContext -underBinder x0 x1
  have h2 : State.Kept o x0 := (State.mapLanes_kept (State.allLanes_kept h))
  exact (State.setTrain_kept h2)

theorem State.enterChange_kept (h : State.Kept o s) : State.Kept o (State.enterChange s a1 a2) := by
  unfold State.enterChange
  extract_lets -merge -useContext -underBinder x0 x1
  have h2 : State.Kept o x0 := (State.enterClimb_kept (State.allLanes_kept h))
  have h3 : State.Kept o x1 := (State.mapLanes_kept h2)
  exact (State.Kept.foldl h3 (fun a6 s4 h5 => (State.startTaps_kept h5)))

theorem State.agreeSnf_kept (h : State.Kept o s) : State.Kept o (State.agreeSnf s a1).2 := by
  unfold State.agreeSnf
  extract_lets -merge -useContext -underBinder x0
  exact (State.Kept.ite2 (by
    split
    · rename_i x1 x2 x3 x4
      have h5 : State.Kept o x3 := State.Kept.of_eq2 x4 (State.fresh_kept h)
      exact (State.Kept.pr2 h5)) (State.Kept.pr2 h))

theorem State.enterRun_kept (h : State.Kept o s) : State.Kept o (State.enterRun s a1) := by
  unfold State.enterRun
  extract_lets -merge -useContext -underBinder x0 x1 x2 x3 x4 x5
  have h6 : State.Kept o x0 := (State.mapLanes_kept (State.enterClimb_kept h))
  have h7 : State.Kept o x1 := (State.Kept.foldl h6 (fun a10 s8 h9 => (State.finc_kept h9)))
  have h11 : State.Kept o x4 := (State.setTrain_kept h7)
  subst x5
  exact (State.lanesEvt_kept (State.linkUp_kept (State.agreeSnf_kept h11)))

theorem State.trySeek_kept (h : State.Kept o s) : State.Kept o (State.trySeek s a1) := by
  unfold State.trySeek
  exact (State.Kept.ite (by
    split
    · rename_i x0 x1 x2 x3
      have h4 : State.Kept o x2 := State.Kept.of_eq2 x3 (State.fresh_kept h)
      extract_lets -merge -useContext -underBinder x5 x6
      have h7 : State.Kept o x5 := (State.allLanes_kept h4)
      exact (State.setTrain_kept (State.mapLanes_kept h7))) h)

theorem State.seekDwellEnd_kept (h : State.Kept o s) : State.Kept o (State.seekDwellEnd s a1) := by
  unfold State.seekDwellEnd
  extract_lets -merge -useContext -underBinder x0 x1
  have h2 : State.Kept o x0 := (State.advanceTo_kept h)
  exact (State.Kept.ite (State.trySeek_kept (State.setTrain_kept h2)) h)

theorem State.countMessage_kept (h : State.Kept o s) : State.Kept o (State.countMessage s a1 a2 a3) := by
  unfold State.countMessage
  extract_lets -merge -useContext -underBinder x0 x1
  have h2 : State.Kept o x1 := (State.setLane_kept h)
  exact (State.Kept.ite (State.fsetB_kept h2) h2)

theorem State.seekMessage_kept (h : State.Kept o s) : State.Kept o (State.seekMessage s a1 a2) := by
  unfold State.seekMessage
  extract_lets -merge -useContext -underBinder x0
  exact (State.Kept.ite (State.trySeek_kept (State.countMessage_kept h)) (State.Kept.ite (State.trainFail_kept h) h))

theorem State.showPartner_kept (h : State.Kept o s) : State.Kept o (State.showPartner s a1 a2) := by
  unfold State.showPartner
  extract_lets -merge -useContext -underBinder x0
  exact (State.fsetB_kept (State.fsetB_kept (State.fset_kept (State.fset_kept (State.fset_kept (State.fset_kept h))))))

theorem State.tryLeader_kept (h : State.Kept o s) : State.Kept o (State.tryLeader s a1) := by
  unfold State.tryLeader
  extract_lets -merge -useContext -underBinder x0 x1 x2 x3 x4
  have h5 : State.Kept o x3 := (State.Kept.ite (State.allLanes_kept h) h)
  exact (State.Kept.ite (by
    split
    · rename_i x6 x7 x8
      exact (State.trainFail_kept h5)
    · rename_i x9 x10
      extract_lets -merge -useContext -underBinder x11 x12
      exact (State.enterChange_kept (State.setTrain_kept h5))) h)

theorem State.leaderMessage_kept (h : State.Kept o s) : State.Kept o (State.leaderMessage s a1 a2 a3 a4) := by
  unfold State.leaderMessage
  extract_lets -merge -useContext -underBinder x0 x1 x2 x3 x4 x5 x6 x7
  have h8 : State.Kept o x4 := (State.showPartner_kept (State.countMessage_kept h))
  have h9 : State.Kept o x6 := (State.setLane_kept h8)
  exact (State.Kept.ite h (State.Kept.ite (State.setLane_kept h) (State.Kept.ite h (State.Kept.ite (State.seekMessage_kept h) (State.Kept.ite h (State.Kept.ite (State.trySeek_kept (State.setTrain_kept h9)) (State.tryLeader_kept h9)))))))

theorem State.trainTimeout_kept (h : State.Kept o s) : State.Kept o (State.trainTimeout s a1) := by
  unfold State.trainTimeout
  extract_lets -merge -useContext -underBinder x0
  split
  · rename_i x1 x2
    exact h
  · rename_i x3 x4 x5
    exact (State.trainFail_kept (State.advanceTo_kept h))

theorem State.lossOfSignal_kept (h : State.Kept o s) : State.Kept o (State.lossOfSignal s a1 a2) := by
  unfold State.lossOfSignal
  extract_lets -merge -useContext -underBinder x0 x1 x2 x3
  have h4 : State.Kept o x2 := (State.setLane_kept h)
  exact (State.Kept.ite (State.trainFail_kept h4) h4)

theorem State.laneLock_kept (h : State.Kept o s) : State.Kept o (State.laneLock s a1) := by
  unfold State.laneLock
  exact (State.Kept.ite (State.enterClimb_kept (State.mapLanes_kept h)) h)

theorem State.runStable_kept (h : State.Kept o s) : State.Kept o (State.runStable s a1) := by
  unfold State.runStable
  exact (State.Kept.ite (State.allLanes_kept (State.advanceTo_kept h)) h)

theorem State.laneSkew_kept (h : State.Kept o s) : State.Kept o (State.laneSkew s a1 a2) := by
  unfold State.laneSkew
  extract_lets -merge -useContext -underBinder x0 x1 x2 x3 x4
  have h5 : State.Kept o x2 := (State.setLane_kept h)
  have h6 : State.Kept o x4 := (State.fset_kept h5)
  exact (State.Kept.ite (State.trainFail_kept h6) h6)

theorem State.markerRx_kept (h : State.Kept o s) : State.Kept o (State.markerRx s a1 a2 a3) := by
  unfold State.markerRx
  extract_lets -merge -useContext -underBinder x0 x1 x2 x3
  have h4 : State.Kept o x3 := (State.setLane_kept h)
  exact (State.Kept.ite h (State.Kept.ite (State.laneSkew_kept (State.setLane_kept h)) (State.Kept.ite (State.lossOfSignal_kept h4) h4)))

theorem State.coefRequest_kept (h : State.Kept o s) : State.Kept o (State.coefRequest s a1 a2 a3 a4 a5) := by
  unfold State.coefRequest
  extract_lets -merge -useContext -underBinder x0 x1 x2 x3
  exact (State.Kept.ite h (State.Kept.ite (State.setTaps_kept h) h))

theorem State.tryTune_kept (h : State.Kept o s) : State.Kept o (State.tryTune s a1) := by
  unfold State.tryTune
  exact (State.Kept.ite (State.enterClimb_kept h) h)

theorem State.tryConfirm_kept (h : State.Kept o s) : State.Kept o (State.tryConfirm s a1) := by
  unfold State.tryConfirm
  exact (State.Kept.ite (State.Kept.ite (State.enterRun_kept h) (State.enterChange_kept h)) h)

theorem State.trainingFrame_kept (h : State.Kept o s) : State.Kept o (State.trainingFrame s a1 a2 a3 a4 a5 a6 a7 a8 a9) := by
  unfold State.trainingFrame
  extract_lets -merge -useContext -underBinder x0 x1 x2 x3 x4 x5
  have h6 : State.Kept o x2 := (State.Kept.ite (State.coefRequest_kept h) h)
  have h7 : State.Kept o x4 := (State.setLane_kept h6)
  have h8 : State.Kept o x5 := (State.laneSkew_kept h7)
  exact (State.Kept.ite h (State.Kept.ite (State.trainFail_kept h) (State.Kept.ite (State.tryConfirm_kept (State.tryTune_kept h8)) h8)))

theorem State.judgeStep_kept (h : State.Kept o s) : State.Kept o (State.judgeStep s a1 a2) := by
  unfold State.judgeStep
  extract_lets -merge -useContext -underBinder x0 x1
  split
  · rename_i x2 x3
    exact (State.setLane_kept h)
  · rename_i x4 x5 x6 x7 x8
    extract_lets -merge -useContext -underBinder x9
    exact (State.Kept.ite (State.setLane_kept h) (State.fset_kept (State.setLane_kept h)))

theorem State.tryStep_kept (h : State.Kept o s) : State.Kept o (State.tryStep s a1 a2 a3) := by
  unfold State.tryStep
  extract_lets -merge -useContext -underBinder x0 x1
  exact (State.Kept.ite h (State.fset_kept (State.setLane_kept h)))

theorem State.showEq_kept (h : State.Kept o s) : State.Kept o (State.showEq s a1 a2 a3) := by
  unfold State.showEq
  extract_lets -merge -useContext -underBinder x0 x1
  have h2 : State.Kept o x1 := (State.fset_kept (State.fset_kept (State.fset_kept h)))
  exact (State.Kept.foldl h2 (fun a5 s3 h4 => (State.fset_kept h4)))

theorem State.fomWindow_kept (h : State.Kept o s) : State.Kept o (State.fomWindow s a1 a2 a3 a4 a5) := by
  unfold State.fomWindow
  extract_lets -merge -useContext -underBinder x0 x1 x2 x3 x4 x5 x6 x7 x8 x9 x10 x11 x12 x13 x14
  have h15 : State.Kept o x3 := (State.fset_kept h)
  have h16 : State.Kept o x4 := (State.fset_kept h15)
  have h17 : State.Kept o x6 := (State.showEq_kept (State.judgeStep_kept h16))
  have h18 : State.Kept o x7 := (State.Kept.ite (by
    split
    · rename_i x19 x20
      exact (State.tryStep_kept h17)
    · rename_i x21
      exact h17) h16)
  have h22 : State.Kept o x9 := (State.setLane_kept h18)
  have h23 : State.Kept o x11 := (State.Kept.ite (State.setLane_kept h22) h22)
  have h24 : State.Kept o x13 := (State.Kept.ite (State.evt_kept h18) h18)
  exact (State.Kept.ite h (State.Kept.ite (State.tryTune_kept h23) (State.Kept.ite (State.Kept.ite (State.setLane_kept h18) h18) (State.Kept.ite (State.setLane_kept h24) h18))))

theorem State.confirmMeasure_kept (h : State.Kept o s) : State.Kept o (State.confirmMeasure s a1 a2 a3) := by
  unfold State.confirmMeasure
  extract_lets -merge -useContext -underBinder x0 x1 x2
  have h3 : State.Kept o x1 := (State.advanceTo_kept h)
  exact (State.Kept.ite h (State.Kept.ite (State.tryConfirm_kept (State.setLane_kept h3)) (State.trainFail_kept h3)))

theorem State.fomFail_kept (h : State.Kept o s) : State.Kept o (State.fomFail s a1) := by
  unfold State.fomFail
  split
  · rename_i x0 x1 x2
    exact (State.Kept.ite (State.trainFail_kept (State.advanceTo_kept h)) h)
  · rename_i x3 x4
    exact h

theorem State.sentinelRx_kept (h : State.Kept o s) : State.Kept o (State.sentinelRx s a1 a2) := by
  unfold State.sentinelRx
  extract_lets -merge -useContext -underBinder x0 x1
  exact (State.Kept.ite h (by
    split
    · rename_i x2 x3
      exact (State.fset_kept (State.setLane_kept h))
    · rename_i x4 x5 x6
      split
      · rename_i x7 x8 x9 x10
        exact (State.Kept.ite (State.evt_kept (State.finc_kept (State.setLane_kept h))) (State.fadd64_kept (State.fadd_kept (State.setLane_kept h))))))

theorem State.prbsCatch_kept (h : State.Kept o s) : State.Kept o (State.prbsCatch s a1) := by
  unfold State.prbsCatch
  extract_lets -merge -useContext -underBinder x0 x1
  split
  · rename_i x2 x3 x4
    extract_lets -merge -useContext -underBinder x5
    exact (State.fadd64_kept (State.setLane_kept h))
  · rename_i x6 x7
    exact h

theorem State.prbsStop_kept (h : State.Kept o s) : State.Kept o (State.prbsStop s a1) := by
  unfold State.prbsStop
  extract_lets -merge -useContext -underBinder x0 x1
  have h2 : State.Kept o x0 := (State.prbsCatch_kept h)
  exact (State.fset_kept (State.setLane_kept h2))

theorem State.prbsLock_kept (h : State.Kept o s) : State.Kept o (State.prbsLock s a1) := by
  unfold State.prbsLock
  extract_lets -merge -useContext -underBinder x0
  exact (State.Kept.ite (State.fset_kept (State.setLane_kept h)) h)

theorem State.prbsLoss_kept (h : State.Kept o s) : State.Kept o (State.prbsLoss s a1 a2) := by
  unfold State.prbsLoss
  extract_lets -merge -useContext -underBinder x0
  have h1 : State.Kept o x0 := (State.fadd_kept (State.prbsStop_kept h))
  exact (State.Kept.ite (State.evt_kept (State.finc_kept h1)) h)

theorem State.injectDone_kept (h : State.Kept o s) : State.Kept o (State.injectDone s a1 a2) := by
  unfold State.injectDone
  split
  · rename_i x0 x1
    exact h
  · rename_i x2 x3 x4
    extract_lets -merge -useContext -underBinder x5 x6 x7 x8
    have h9 : State.Kept o x7 := (State.setLane_kept h)
    have h10 : State.Kept o x8 := (State.Kept.ite (State.fadd_kept h9) h9)
    exact (State.Kept.ite (State.cmdDone_kept h10) h10)

theorem State.leaveTest_kept (h : State.Kept o s) : State.Kept o (State.leaveTest s a1) := by
  unfold State.leaveTest
  extract_lets -merge -useContext -underBinder x0 x1 x2 x3
  have h4 : State.Kept o x0 := (State.prbsStop_kept h)
  have h5 : State.Kept o x2 := (State.setLane_kept h4)
  have h6 : State.Kept o x3 := (State.Kept.ite (State.cmdFail_kept h5) h5)
  exact (State.fset_kept (State.fset_kept h6))

theorem State.showPeers_kept (h : State.Kept o s) : State.Kept o (State.showPeers s a1) := by
  unfold State.showPeers
  extract_lets -merge -useContext -underBinder x0 x1
  exact (State.Kept.foldl h (fun a4 s2 h3 => (State.Kept.ite h3 (State.Kept.ite (State.fset_kept h3) (State.Kept.ite (State.fset_kept h3) h3)))))

theorem State.testEnter_kept (h : State.Kept o s) : State.Kept o (State.testEnter s a1) := by
  unfold State.testEnter
  extract_lets -merge -useContext -underBinder x0 x1 x2 x3
  have h4 : State.Kept o x1 := (State.enterOff_kept h)
  have h5 : State.Kept o x2 := (State.fset_kept (State.fset_kept h4))
  have h6 : State.Kept o x3 := (State.Kept.ite (State.startTaps_kept h5) h5)
  exact (State.showPeers_kept h6)

theorem State.testExit_kept (h : State.Kept o s) : State.Kept o (State.testExit s a1) := by
  unfold State.testExit
  extract_lets -merge -useContext -underBinder x0
  exact (State.laneEnable_kept (State.showPeers_kept (State.leaveTest_kept h)))

theorem State.resetCeiling_kept (h : State.Kept o s) : State.Kept o (State.resetCeiling s a1) := by
  unfold State.resetCeiling
  exact (State.allLanes_kept h)

theorem State.lanesApplied_kept (h : State.Kept o s) : State.Kept o (State.lanesApplied s a1 a2) := by
  unfold State.lanesApplied
  extract_lets -merge -useContext -underBinder x0 x1 x2 x3 x4 x5 x6 x7
  have h8 : State.Kept o x6 := (State.Kept.foldl h (fun a11 s9 h10 => (by
    extract_lets -merge -useContext -underBinder x12
    have h13 : State.Kept o x12 := (State.Kept.ite (State.prbsCatch_kept h10) (State.prbsStop_kept h10))
    exact (State.Kept.ite (State.Kept.ite (State.leaveTest_kept h10) (State.fset_kept h13)) h10))))
  have h14 : State.Kept o x7 := (State.allLanes_kept h8)
  exact (State.Kept.ite (State.showPeers_kept (State.enterOff_kept h8)) (State.Kept.ite (State.showPeers_kept h8) (State.Kept.ite (State.commandedRestart_kept h14) h14)))

theorem State.lanesDomainOff_kept (h : State.Kept o s) : State.Kept o (State.lanesDomainOff s a1) := by
  unfold State.lanesDomainOff
  extract_lets -merge -useContext -underBinder x0
  have h1 : State.Kept o x0 := (State.Kept.foldl h (fun a4 s2 h3 => (State.Kept.ite (State.leaveTest_kept h3) h3)))
  exact (State.enterOff_kept h1)

end Sys2Proof.Machine
end

