-- ==== Sys2Proof/Laws/Kept/Links.lean ====
section
/-! SUPPORT. What every command keeps: one lemma for each function of Machine/Links.lean that changes the state. -/

namespace Sys2Proof.Machine

variable {o : Origin} {s : State}

theorem State.checkCell_kept (h : State.Kept o s) : State.Kept o (State.checkCell s a1 a2).2 := by
  unfold State.checkCell
  extract_lets -merge -useContext -underBinder x0
  split
  · rename_i x1 x2 x3 x4
    extract_lets -merge -useContext -underBinder x5
    exact (State.Kept.pr2 (State.Kept.ite h (State.fadd64_kept h)))
  · rename_i x6 x7 x8 x9 x10
    extract_lets -merge -useContext -underBinder x11
    have h12 : State.Kept o x11 := (State.finc_kept (State.fadd64_kept h))
    exact (State.Kept.pr2 (State.report_kept h12))
  · rename_i x13 x14 x15
    extract_lets -merge -useContext -underBinder x16
    have h17 : State.Kept o x16 := (State.finc_kept (State.fadd64_kept h))
    exact (State.Kept.pr2 (State.report_kept h17))

theorem State.wrongType_kept (h : State.Kept o s) : State.Kept o (State.wrongType s a1) := by
  unfold State.wrongType
  exact (State.finc_kept h)

theorem State.forwardCell_kept (h : State.Kept o s) : State.Kept o (State.forwardCell s a1 a2) := by
  unfold State.forwardCell
  exact (State.Kept.foldl h (fun a2 s0 h1 => (State.emit_kept h1)))

theorem State.unrouted_kept (h : State.Kept o s) : State.Kept o (State.unrouted s a1 a2 a3) := by
  unfold State.unrouted
  extract_lets -merge -useContext -underBinder x0 x1
  exact (State.Kept.ite (State.finc_kept h) h)

theorem State.burstData_kept (h : State.Kept o s) : State.Kept o (State.burstData s a1 a2 a3) := by
  unfold State.burstData
  extract_lets -merge -useContext -underBinder x0 x1
  exact (State.Kept.ite (State.Kept.ite (State.finc_kept h) h) (by
    split
    · rename_i x2 x3 x4 x5 x6 x7
      extract_lets -merge -useContext -underBinder x8
      exact (State.Kept.ite (by
    try unfold x1
    split
    · rename_i x9 x10 x11 x12
      exact (State.windowDone_kept (State.Kept.ite (State.finc_kept (State.evt_kept (State.finc_kept h))) (State.evt_kept (State.finc_kept h))))
    · rename_i x13 x14
      try unfold x0
      exact (State.Kept.ite (State.finc_kept (State.evt_kept (State.finc_kept h))) (State.evt_kept (State.finc_kept h)))) (State.Kept.mk h rfl rfl rfl rfl rfl rfl))
    · rename_i x15 x16 x17 x18
      try unfold x1
      split
      · rename_i x19 x20 x21 x22
        exact (State.windowDone_kept (State.Kept.ite (State.finc_kept h) h))
      · rename_i x23 x24
        try unfold x0
        exact (State.Kept.ite (State.finc_kept h) h)))

theorem State.burstOpen_kept (h : State.Kept o s) : State.Kept o (State.burstOpen s a1 a2 a3).2 := by
  unfold State.burstOpen
  extract_lets -merge -useContext -underBinder x0 x1
  split
  · rename_i x2
    exact (State.Kept.pr2 h)
  · rename_i x3 x4
    extract_lets -merge -useContext -underBinder x5 x6 x7 x8 x9 x10 x11 x12 x13 x14 x15 x16 x17
    have h18 : State.Kept o x10 := (State.unrouted_kept h)
    have h19 : State.Kept o x15 := (State.Kept.ite (State.setLink_kept h18) h18)
    have h20 : State.Kept o x16 := (State.Kept.ite (State.finc_kept h19) h19)
    exact (State.Kept.pr2 h20)

theorem State.videoCell_kept (h : State.Kept o s) : State.Kept o (State.videoCell s a1 a2) := by
  unfold State.videoCell
  split
  · rename_i x0 x1 x2 x3
    have h4 : State.Kept o x2 := State.Kept.of_eq2 x3 (State.checkCell_kept h)
    extract_lets -merge -useContext -underBinder x5 x6 x7
    have h8 : State.Kept o x7 := (State.Kept.ite (State.truncate_kept (State.finc_kept h4)) h4)
    exact (State.Kept.ite h4 (State.Kept.ite (State.wrongType_kept h4) (State.Kept.ite (by
    split
    · rename_i x9 x10 x11 x12
      have h13 : State.Kept o x11 := State.Kept.of_eq2 x12 (State.burstOpen_kept h8)
      extract_lets -merge -useContext -underBinder x14
      have h15 : State.Kept o x14 := (State.forwardCell_kept h13)
      exact (State.Kept.ite h15 (State.Kept.ite (State.truncate_kept (by
    try unfold x6
    extract_lets -merge -useContext -underBinder x16
    exact (State.setLink_kept h15))) (by
    try unfold x6
    extract_lets -merge -useContext -underBinder x17
    exact (State.setLink_kept h15))))) (by
    split
    · rename_i x18 x19
      exact (State.finc_kept h4)
    · rename_i x20 x21 x22
      extract_lets -merge -useContext -underBinder x23 x24
      have h25 : State.Kept o x23 := (State.burstData_kept (State.forwardCell_kept h4))
      have h26 : State.Kept o x24 := by
        unfold x24
        try unfold x6
        extract_lets -merge -useContext -underBinder x27
        exact (State.setLink_kept h25)
      exact (State.Kept.ite (State.truncate_kept h26) h26)))))

theorem State.videoRx_kept (h : State.Kept o s) : State.Kept o (State.videoRx s a1 a2) := by
  unfold State.videoRx
  extract_lets -merge -useContext -underBinder x0
  exact (State.Kept.ite h (State.Kept.foldl h (fun a3 s1 h2 => (State.videoCell_kept h2))))

theorem State.pushUpward_kept (h : State.Kept o s) : State.Kept o (State.pushUpward s a1 a2 a3) := by
  unfold State.pushUpward
  extract_lets -merge -useContext -underBinder x0
  exact (State.Kept.ite (State.Kept.mk h rfl rfl rfl rfl rfl rfl) (State.finc_kept h))

theorem State.flushUpward_kept (h : State.Kept o s) : State.Kept o (State.flushUpward s) := by
  unfold State.flushUpward
  split
  · rename_i x0 x1
    exact h
  · rename_i x2 x3 x4
    extract_lets -merge -useContext -underBinder x5 x6
    have h7 : State.Kept o x6 := (State.Kept.mk h rfl rfl rfl rfl rfl rfl)
    split
    · rename_i x8 x9 x10
      exact (State.Kept.foldl h7 (fun a13 s11 h12 => (State.emit_kept h12)))
    · rename_i x14 x15
      exact (State.finc_kept h7)

theorem State.checkNext_kept {x : List CellView × Bool × State} (h : State.Kept o x.2.2) :
    State.Kept o (State.checkNext n x c).2.2 := by
  simp only [State.checkNext]
  exact State.checkCell_kept h

theorem State.checkCells_kept (h : State.Kept o s) : State.Kept o (s.checkCells n l).2.2 :=
  State.Kept.foldlP (fun x : List CellView × Bool × State => State.Kept o x.2.2) h fun _ _ h => State.checkNext_kept h

theorem State.upwardRx_kept (h : State.Kept o s) : State.Kept o (State.upwardRx s a1 a2) := by
  unfold State.upwardRx
  exact (State.Kept.ite h (by
    split
    · rename_i x0 x1 x2 x3 x4
      have h5 : State.Kept o x3 := State.Kept.of_eq22 x4 (State.checkCells_kept h)
      extract_lets -merge -useContext -underBinder x6 x7
      exact (State.Kept.ite h5 (State.Kept.ite (State.wrongType_kept h5) (State.Kept.ite (State.Kept.ite (State.pushUpward_kept h5) h5) (State.Kept.ite (State.pushUpward_kept h5) h5))))))

theorem State.linkApplied_kept (h : State.Kept o s) : State.Kept o (State.linkApplied s a1 a2) := by
  unfold State.linkApplied
  extract_lets -merge -useContext -underBinder x0 x1
  have h2 : State.Kept o x1 := (State.Kept.ite (State.Kept.mk h rfl rfl rfl rfl rfl rfl) h)
  exact (State.evalUp_kept h2)

theorem State.singleCell_kept (h : State.Kept o s) : State.Kept o (State.singleCell s a1 a2 a3).2 := by
  unfold State.singleCell
  exact (State.Kept.ite2 (State.Kept.pr2 h) (by
    split
    · rename_i x0 x1 x2 x3
      have h4 : State.Kept o x2 := State.Kept.of_eq2 x3 (State.checkCell_kept h)
      split
      · rename_i x5
        exact (State.Kept.pr2 h4)
      · rename_i x6 x7
        exact (State.Kept.ite2 (State.Kept.pr2 (State.wrongType_kept h4)) (State.Kept.ite2 (State.Kept.pr2 h4) (State.Kept.pr2 h4)))))

theorem State.authRx_kept (h : State.Kept o s) : State.Kept o (State.authRx s a1 a2) := by
  unfold State.authRx
  exact (State.Kept.ite h (by
    split
    · rename_i x0 x1 x2
      have h3 : State.Kept o x1 := State.Kept.of_eq2 x2 (State.checkCell_kept h)
      exact h3
    · rename_i x4 x5 x6 x7
      have h8 : State.Kept o x6 := State.Kept.of_eq2 x7 (State.checkCell_kept h)
      exact (State.Kept.ite h8 (by
    split
    · rename_i x9 x10
      exact (State.authProof_kept h8)
    · rename_i x11 x12
      exact (State.authChallenge_kept h8)
    · rename_i x13 x14 x15
      exact h8))))

end Sys2Proof.Machine
end

