-- ==== Sys2Proof/Laws/Kept/Time.lean ====
section
/-! SUPPORT. What every command keeps: one lemma for each function of Machine/Time.lean that changes the state. -/

namespace Sys2Proof.Machine

variable {o : Origin} {s : State}

theorem State.advanceSys_kept (h : State.Kept o s) : State.Kept o (State.advanceSys s a1) := by
  unfold State.advanceSys
  exact (State.Kept.ite (State.advanceTo_kept h) h)

theorem State.stepCount_kept (h : State.Kept o s) : State.Kept o (State.stepCount s a1) := by
  unfold State.stepCount
  extract_lets -merge -useContext -underBinder x0 x1 x2
  have h3 : State.Kept o x2 := (State.Kept.mk h rfl rfl rfl rfl rfl rfl)
  exact (State.fset_kept h3)

theorem State.openFrame_kept (h : State.Kept o s) : State.Kept o (State.openFrame s) := by
  unfold State.openFrame
  extract_lets -merge -useContext -underBinder x0 x1 x2 x3
  have h4 : State.Kept o x1 := (State.advanceSys_kept h)
  have h5 : State.Kept o x3 := (State.Kept.mk h4 rfl rfl rfl rfl rfl rfl)
  exact (State.evt_kept (State.fset_kept h5))

theorem State.setSync_kept (h : State.Kept o s) : State.Kept o (State.setSync s a1 a2) := by
  unfold State.setSync
  extract_lets -merge -useContext -underBinder x0
  exact (State.Kept.mk h rfl rfl rfl rfl rfl rfl)

theorem State.setSyncState_kept (h : State.Kept o s) : State.Kept o (State.setSyncState s a1) := by
  unfold State.setSyncState
  extract_lets -merge -useContext -underBinder x0 x1 x2 x3 x4 x5 x6 x7
  have h8 : State.Kept o x1 := (State.fset_kept h)
  have h9 : State.Kept o x2 := (State.Kept.ite (State.evt_kept h8) h8)
  have h10 : State.Kept o x3 := (State.Kept.ite (State.evt_kept h9) h9)
  have h11 : State.Kept o x5 := (State.Kept.mk h10 rfl rfl rfl rfl rfl rfl)
  have h12 : State.Kept o x7 := (State.Kept.ite (State.Kept.mk h11 rfl rfl rfl rfl rfl rfl) h11)
  exact (State.Kept.ite h (State.evalGroups_kept h12))

theorem State.showRoot_kept (h : State.Kept o s) : State.Kept o (State.showRoot s a1) := by
  unfold State.showRoot
  exact (State.Kept.ite h (State.evt_kept (State.fset_kept h)))

theorem State.follow_kept (h : State.Kept o s) : State.Kept o (State.follow s a1) := by
  unfold State.follow
  split
  · rename_i x0 x1
    extract_lets -merge -useContext -underBinder x2
    have h3 : State.Kept o x2 := (State.fset_kept (State.fset_kept (State.fset_kept h)))
    exact (State.showRoot_kept h3)
  · rename_i x4
    exact (State.fset_kept (State.fset_kept h))

theorem State.evalSync_kept (h : State.Kept o s) : State.Kept o (State.evalSync s) := by
  unfold State.evalSync
  extract_lets -merge -useContext -underBinder x0 x1
  have h2 : State.Kept o x1 := (State.fset_kept (State.fset_kept h))
  exact (State.Kept.ite (State.setSyncState_kept (State.showRoot_kept h2)) (by
    split
    · rename_i x3 x4 x5
      exact (State.follow_kept h)
    · rename_i x6 x7
      extract_lets -merge -useContext -underBinder x8 x9 x10
      have h11 : State.Kept o x10 := (State.follow_kept h)
      split
      · rename_i x12 x13 x14 x15 x16
        exact (State.setSyncState_kept h11)
      · rename_i x17 x18 x19 x20 x21
        exact (State.setSyncState_kept h11)
      · rename_i x22 x23 x24 x25 x26
        exact (State.setSyncState_kept h11)
      · rename_i x27 x28 x29 x30
        exact (State.setSyncState_kept h11)
      · rename_i x31 x32 x33 x34
        exact (State.setSyncState_kept h11)
      · rename_i x35 x36 x37 x38 x39
        extract_lets -merge -useContext -underBinder x40
        exact (State.Kept.ite (State.Kept.mk h11 rfl rfl rfl rfl rfl rfl) h11)
      · rename_i x41 x42 x43 x44
        exact (State.setSyncState_kept h11)
      · rename_i x45 x46 x47 x48 x49 x50 x51 x52 x53
        exact h11))

theorem State.parentLost_kept (h : State.Kept o s) : State.Kept o (State.parentLost s) := by
  unfold State.parentLost
  split
  · rename_i x0 x1 x2
    extract_lets -merge -useContext -underBinder x3
    exact (State.evalSync_kept (State.setSync_kept h))
  · rename_i x4 x5
    exact (State.evalSync_kept h)

theorem State.holdoverExpiry_kept (h : State.Kept o s) : State.Kept o (State.holdoverExpiry s) := by
  unfold State.holdoverExpiry
  exact (State.Kept.ite (State.setSyncState_kept (State.advanceTo_kept h)) h)

theorem State.steer_kept (h : State.Kept o s) : State.Kept o (State.steer s a1 a2) := by
  unfold State.steer
  split
  · rename_i x0 x1 x2 x3
    have h4 : State.Kept o x2 := State.Kept.of_eq2 x3 (State.fresh_kept h)
    extract_lets -merge -useContext -underBinder x5 x6
    exact (State.Kept.mk h4 rfl rfl rfl rfl rfl rfl)

theorem State.exchange_kept (h : State.Kept o s) : State.Kept o (State.exchange s a1 a2) := by
  unfold State.exchange
  split
  · rename_i x0 x1 x2 x3
    have h4 : State.Kept o x2 := State.Kept.of_eq2 x3 (State.roundFree_kept h)
    split
    · rename_i x5 x6 x7 x8
      have h9 : State.Kept o x7 := State.Kept.of_eq2 x8 (State.roundFree_kept h4)
      extract_lets -merge -useContext -underBinder x10 x11 x12 x13 x14 x15 x16
      have h17 : State.Kept o x10 := (State.fsetI_kept h9)
      have h18 : State.Kept o x11 := (State.fset_kept h17)
      have h19 : State.Kept o x16 := (State.Kept.mk h18 rfl rfl rfl rfl rfl rfl)
      split
      · rename_i x20 x21
        extract_lets -merge -useContext -underBinder x22 x23 x24 x25
        have h26 : State.Kept o x24 := (State.Kept.mk h19 rfl rfl rfl rfl rfl rfl)
        have h27 : State.Kept o x25 := (State.Kept.ite (State.Kept.ite (State.steer_kept h26) (State.stepCount_kept h26)) (State.steer_kept h26))
        exact (State.Kept.ite (State.setSyncState_kept h27) h27)
      · rename_i x28 x29
        extract_lets -merge -useContext -underBinder x30 x31 x32 x33
        have h34 : State.Kept o x32 := (State.Kept.mk h19 rfl rfl rfl rfl rfl rfl)
        have h35 : State.Kept o x33 := (State.steer_kept h34)
        exact (State.Kept.ite (State.setSyncState_kept h35) h35)
      · rename_i x36 x37 x38
        exact h19

theorem State.syncRx_kept (h : State.Kept o s) : State.Kept o (s.syncRx n a b) := by
  unfold State.syncRx
  extract_lets x t1 t2 t4 asym sent y
  clear_value sent
  split
  · exact State.evalSync_kept (State.setSync_kept h)
  · extract_lets u num t
    have ht : State.Kept o t := State.evalSync_kept (State.setSync_kept h)
    exact State.Kept.ite (State.exchange_kept ht) ht

theorem State.syncTx_kept (h : State.Kept o s) : State.Kept o (State.syncTx s a1 a2) := by
  unfold State.syncTx
  extract_lets -merge -useContext -underBinder x0 x1 x2 x3 x4
  have h5 : State.Kept o x4 := (State.setSync_kept h)
  exact (State.Kept.ite h (State.emit_kept h5))

theorem State.sendPhases_kept (h : State.Kept o s) : State.Kept o (State.sendPhases s a1) := by
  unfold State.sendPhases
  exact (State.Kept.foldl h (fun a2 s0 h1 => (State.emit_kept h1)))

theorem State.phaseTx_kept (h : State.Kept o s) : State.Kept o (State.phaseTx s) := by
  unfold State.phaseTx
  split
  · rename_i x0 x1 x2
    exact (State.Kept.ite (State.sendPhases_kept h) h)
  · rename_i x3 x4
    exact h

theorem State.phaseRx_kept (h : State.Kept o s) : State.Kept o (State.phaseRx s a1 a2) := by
  unfold State.phaseRx
  extract_lets -merge -useContext -underBinder x0 x1 x2
  have h3 : State.Kept o x2 := (State.Kept.mk h rfl rfl rfl rfl rfl rfl)
  exact (State.Kept.ite h (State.sendPhases_kept h3))

theorem State.showPhases_kept (h : State.Kept o s) : State.Kept o (State.showPhases s) := by
  unfold State.showPhases
  exact (State.Kept.foldl h (fun a2 s0 h1 => (by
    extract_lets -merge -useContext -underBinder x3
    exact (State.fset_kept h1))))

theorem State.applyPhases_kept (h : State.Kept o s) : State.Kept o (State.applyPhases s) := by
  unfold State.applyPhases
  extract_lets -merge -useContext -underBinder x0 x1 x2 x3
  exact (State.showPhases_kept (State.Kept.mk h rfl rfl rfl rfl rfl rfl))

theorem State.setClap_kept (h : State.Kept o s) : State.Kept o (State.setClap s a1 a2) := by
  unfold State.setClap
  extract_lets -merge -useContext -underBinder x0
  exact (State.Kept.mk h rfl rfl rfl rfl rfl rfl)

theorem State.setBitOf_kept (h : State.Kept o s) : State.Kept o (State.setBitOf s a1 a2 a3) := by
  unfold State.setBitOf
  exact (State.fset_kept h)

theorem State.restartClap_kept (h : State.Kept o s) : State.Kept o (State.restartClap s a1 a2) := by
  unfold State.restartClap
  extract_lets -merge -useContext -underBinder x0 x1 x2
  have h3 : State.Kept o x1 := (State.setClap_kept h)
  have h4 : State.Kept o x2 := (State.setBitOf_kept h3)
  exact (State.Kept.foldl h4 (fun a7 s5 h6 => (State.setBitOf_kept h6)))

theorem State.showClap_kept (h : State.Kept o s) : State.Kept o (State.showClap s a1) := by
  unfold State.showClap
  extract_lets -merge -useContext -underBinder x0 x1
  exact (State.fset_kept h)

theorem State.deriveStart_kept (h : State.Kept o s) : State.Kept o (State.deriveStart s a1 a2) := by
  unfold State.deriveStart
  extract_lets -merge -useContext -underBinder x0 x1 x2 x3 x4 x5 x6 x7 x8 x9 x10 x11 x12
  have h13 : State.Kept o x7 := (State.setBitOf_kept h)
  exact (State.Kept.ite (State.Kept.ite h13 (State.Kept.mk h13 rfl rfl rfl rfl rfl rfl)) (State.Kept.ite h (State.evt_kept (State.setBitOf_kept h))))

theorem State.acceptPhase_kept (h : State.Kept o s) : State.Kept o (State.acceptPhase s a1 a2) := by
  unfold State.acceptPhase
  extract_lets -merge -useContext -underBinder x0 x1 x2 x3 x4 x5
  have h6 : State.Kept o x3 := (State.setClap_kept h)
  have h7 : State.Kept o x4 := (State.Kept.ite (State.setBitOf_kept h6) h6)
  have h8 : State.Kept o x5 := (State.showClap_kept h7)
  exact (State.Kept.ite (State.Kept.foldl h8 (fun a11 s9 h10 => (State.deriveStart_kept h10))) h8)

theorem State.clapEdge_kept (h : State.Kept o s) : State.Kept o (State.clapEdge s a1 a2) := by
  unfold State.clapEdge
  extract_lets -merge -useContext -underBinder x0 x1 x2 x3 x4 x5 x6 x7
  have h8 : State.Kept o x1 := (State.setClap_kept h)
  have h9 : State.Kept o x3 := (State.setBitOf_kept h8)
  exact (State.Kept.ite h (State.Kept.ite (State.acceptPhase_kept h9) (State.Kept.ite (State.Kept.ite (State.setClap_kept h9) (State.evt_kept (State.showClap_kept (State.restartClap_kept h9)))) (State.acceptPhase_kept h9))))

theorem State.clapBoundary_kept (h : State.Kept o s) : State.Kept o (State.clapBoundary s) := by
  unfold State.clapBoundary
  exact (State.Kept.ite h (State.Kept.foldl h (fun a2 s0 h1 => (by
    extract_lets -merge -useContext -underBinder x3 x4
    have h5 : State.Kept o x4 := (State.setClap_kept h1)
    exact (State.Kept.ite h1 (State.Kept.ite (State.setClap_kept h1) (State.Kept.ite (State.evt_kept (State.setBitOf_kept (State.showClap_kept (State.restartClap_kept h5)))) h5)))))))

theorem State.timeApplied_kept (h : State.Kept o s) : State.Kept o (State.timeApplied s a1) := by
  unfold State.timeApplied
  extract_lets -merge -useContext -underBinder x0 x1 x2 x3 x4 x5 x6 x7 x8 x9 x10
  have h11 : State.Kept o x3 := (State.Kept.mk h rfl rfl rfl rfl rfl rfl)
  have h12 : State.Kept o x4 := (State.fset64_kept h11)
  have h13 : State.Kept o x5 := (State.fset_kept h12)
  have h14 : State.Kept o x9 := (State.Kept.ite (State.showPhases_kept (State.Kept.mk h13 rfl rfl rfl rfl rfl rfl)) h)
  have h15 : State.Kept o x10 := (State.Kept.foldl h14 (fun a18 s16 h17 => (by
    extract_lets -merge -useContext -underBinder x19
    have h20 : State.Kept o x19 := (State.setClap_kept (State.restartClap_kept h17))
    exact (State.Kept.ite (State.setBitOf_kept (State.showClap_kept h20)) h17))))
  exact (State.evalSync_kept h15)

theorem State.stageBoundary_kept (h : State.Kept o s) : State.Kept o (State.stageBoundary s) := by
  unfold State.stageBoundary
  split
  · rename_i x0 x1
    exact (State.fset_kept h)
  · rename_i x2 x3
    exact (State.evt_kept (State.fset_kept (State.fset_kept h)))
  · rename_i x4 x5 x6
    exact h

theorem State.slate_kept (h : State.Kept o s) : State.Kept o (State.slate s a1) := by
  unfold State.slate
  extract_lets -merge -useContext -underBinder x0 x1 x2 x3
  have h4 : State.Kept o x1 := by
    unfold x1
    split
    · rename_i x5 x6 x7
      split
      · rename_i x8 x9 x10
        exact (State.fset_kept h)
      · rename_i x11 x12
        exact h
    · rename_i x13 x14
      exact h
  have h15 : State.Kept o x3 := (State.fsetB_kept h4)
  exact (State.Kept.ite (State.fwrap_kept h15) h15)

theorem State.slateBoundary_kept (h : State.Kept o s) : State.Kept o (State.slateBoundary s) := by
  unfold State.slateBoundary
  extract_lets -merge -useContext -underBinder x0 x1 x2 x3 x4 x5
  have h6 : State.Kept o x1 := (State.Kept.foldl h (fun a9 s7 h8 => (State.slate_kept h8)))
  have h10 : State.Kept o x3 := (State.Kept.ite h6 (State.Kept.mk h6 rfl rfl rfl rfl rfl rfl))
  exact (State.Kept.mk h10 rfl rfl rfl rfl rfl rfl)

theorem State.stillBoundary_kept (h : State.Kept o s) : State.Kept o (State.stillBoundary s) := by
  unfold State.stillBoundary
  extract_lets -merge -useContext -underBinder x0 x1 x2 x3 x4 x5 x6 x7
  have h8 : State.Kept o x5 := (State.Kept.mk h rfl rfl rfl rfl rfl rfl)
  have h9 : State.Kept o x6 := (State.fset_kept h8)
  have h10 : State.Kept o x7 := (State.finc_kept h8)
  exact (State.Kept.ite (State.Kept.ite (State.evt_kept (State.fset_kept h9)) h9) (State.Kept.ite (State.evt_kept (State.finc_kept (State.fset_kept h10))) h10))

theorem State.setTime_kept (h : State.Kept o s) : State.Kept o (State.setTime s) := by
  unfold State.setTime
  exact (State.stepCount_kept h)

theorem State.clapRestart_kept (h : State.Kept o s) : State.Kept o (State.clapRestart s a1) := by
  unfold State.clapRestart
  exact (State.showClap_kept (State.restartClap_kept h))

theorem State.readNow_kept (h : State.Kept o s) : State.Kept o (State.readNow s).2 := by
  unfold State.readNow
  extract_lets -merge -useContext -underBinder x0
  have h1 : State.Kept o x0 := (State.fset_kept (State.fset_kept h))
  exact (State.Kept.pr2 h1)

end Sys2Proof.Machine
end

