-- ==== Sys2Proof/Laws/Kept/Safe.lean ====
section
/-! SUPPORT. What every command keeps: one lemma for each function of Machine/Safe.lean that changes the state. -/

namespace Sys2Proof.Machine

variable {o : Origin} {s : State}

theorem State.setBit_kept (h : State.Kept o s) : State.Kept o (State.setBit s a1 a2 a3 a4) := by
  unfold State.setBit
  exact (State.fset_kept h)

theorem State.showInput_kept (h : State.Kept o s) : State.Kept o (State.showInput s a1) := by
  unfold State.showInput
  extract_lets -merge -useContext -underBinder x0 x1
  have h2 : State.Kept o x1 := (State.setBit_kept (State.setBit_kept h))
  exact (State.setBit_kept h2)

theorem State.safeInChange_kept (h : State.Kept o s) : State.Kept o (State.safeInChange s a1 a2 a3) := by
  unfold State.safeInChange
  extract_lets -merge -useContext -underBinder x0 x1 x2 x3
  exact (State.evalGroups_kept (State.showInput_kept (State.setInput_kept h)))

theorem State.safeInDemand_kept (h : State.Kept o s) : State.Kept o (State.safeInDemand s a1 a2) := by
  unfold State.safeInDemand
  extract_lets -merge -useContext -underBinder x0 x1 x2
  have h3 : State.Kept o x1 := (State.advanceTo_kept h)
  exact (State.Kept.ite h (State.evalGroups_kept (State.trip_kept (State.showInput_kept (State.setInput_kept h3)))))

theorem State.inDisc_kept (h : State.Kept o s) : State.Kept o (State.inDisc s a1) := by
  unfold State.inDisc
  extract_lets -merge -useContext -underBinder x0 x1
  have h2 : State.Kept o x1 := (State.advanceTo_kept h)
  exact (State.Kept.ite h (State.evalGroups_kept (State.trip_kept (State.setBit_kept h2))))

theorem State.rxReject_kept (h : State.Kept o s) : State.Kept o (State.rxReject s a1) := by
  unfold State.rxReject
  exact (State.evt_kept (State.finc_kept h))

theorem State.rxAccept_kept (h : State.Kept o s) : State.Kept o (State.rxAccept s a1 a2) := by
  unfold State.rxAccept
  extract_lets -merge -useContext -underBinder x0 x1 x2 x3 x4 x5
  have h6 : State.Kept o x1 := (State.fset_kept (State.fset_kept (State.fset_kept h)))
  have h7 : State.Kept o x2 := (State.finc_kept (State.fset_kept h6))
  have h8 : State.Kept o x4 := (State.setConn_kept h7)
  exact (State.evalGroups_kept (State.Kept.ite h8 (State.trip_kept h8)))

theorem State.rxChecks_kept (h : State.Kept o s) : State.Kept o (State.rxChecks s a1).2 := by
  unfold State.rxChecks
  split
  · rename_i x0 x1
    exact (State.Kept.pr2 h)
  · rename_i x2 x3 x4
    extract_lets -merge -useContext -underBinder x5 x6 x7 x8 x9
    exact (State.Kept.ite2 (State.Kept.pr2 (State.rxReject_kept h)) (State.Kept.ite2 (State.Kept.pr2 (State.rxReject_kept h)) (State.Kept.ite2 (State.Kept.pr2 (State.rxReject_kept h)) (State.Kept.ite2 (State.Kept.pr2 (State.finc_kept h)) (State.Kept.ite2 (State.Kept.pr2 (State.rxReject_kept h)) (State.Kept.pr2 (State.rxAccept_kept h)))))))

theorem State.safetyRx_kept (h : State.Kept o s) : State.Kept o (State.safetyRx s a1 a2).2 := by
  unfold State.safetyRx
  extract_lets -merge -useContext -underBinder x0 x1
  have h2 : State.Kept o x1 := (State.forwardCell_kept h)
  exact (State.Kept.ite2 (State.Kept.pr2 (State.upwardRx_kept h)) (by
    split
    · rename_i x3 x4 x5
      have h6 : State.Kept o x4 := State.Kept.of_eq2 x5 (State.singleCell_kept h2)
      exact (State.Kept.pr2 h6)
    · rename_i x7 x8 x9 x10
      have h11 : State.Kept o x9 := State.Kept.of_eq2 x10 (State.singleCell_kept h2)
      exact (State.Kept.ite2 (State.Kept.pr2 h11) (State.Kept.ite2 (State.Kept.pr2 (State.rxReject_kept h11)) (State.rxChecks_kept h11)))))

theorem State.watchdog_kept (h : State.Kept o s) : State.Kept o (State.watchdog s a1) := by
  unfold State.watchdog
  extract_lets -merge -useContext -underBinder x0 x1 x2 x3 x4 x5
  have h6 : State.Kept o x3 := (State.advanceTo_kept h)
  have h7 : State.Kept o x4 := (State.fset_kept h6)
  have h8 : State.Kept o x5 := (State.Kept.ite (State.evt_kept h7) h7)
  exact (State.Kept.ite h (State.evalGroups_kept (State.trip_kept h8)))

theorem State.statusTx_kept (h : State.Kept o s) : State.Kept o (State.statusTx s) := by
  unfold State.statusTx
  exact (State.Kept.ite (State.sendStatus_kept (State.advanceTo_kept h)) h)

theorem State.recordZone_kept (h : State.Kept o s) : State.Kept o (State.recordZone s a1 a2 a3 a4) := by
  unfold State.recordZone
  extract_lets -merge -useContext -underBinder x0 x1
  have h2 : State.Kept o x0 := (State.fset_kept (State.fset_kept (State.fset_kept h)))
  have h3 : State.Kept o x1 := (State.fset_kept (State.fsetB_kept h2))
  exact (State.fset_kept (State.fset_kept h3))

theorem State.tripZone_kept (h : State.Kept o s) : State.Kept o (State.tripZone s a1 a2 a3 a4) := by
  unfold State.tripZone
  extract_lets -merge -useContext -underBinder x0
  exact (State.trip_kept (State.Kept.ite h (State.recordZone_kept h)))

theorem State.tapJudge_kept (h : State.Kept o s) : State.Kept o (State.tapJudge s a1 a2 a3 a4 a5) := by
  unfold State.tapJudge
  exact (State.Kept.ite (State.tripZone_kept h) (State.Kept.ite (State.tripZone_kept h) h))

theorem State.tapCode_kept (h : State.Kept o s) : State.Kept o (State.tapCode s a1 a2 a3) := by
  unfold State.tapCode
  extract_lets -merge -useContext -underBinder x0 x1 x2 x3
  subst x3
  exact (State.Kept.ite (State.tapJudge_kept (State.Kept.mk_safe h rfl rfl rfl rfl rfl rfl)) h)

theorem State.tapSilent_kept (h : State.Kept o s) : State.Kept o (State.tapSilent s a1) := by
  unfold State.tapSilent
  extract_lets -merge -useContext -underBinder x0
  have h1 : State.Kept o x0 := (State.advanceTo_kept h)
  exact (State.Kept.ite h (State.trip_kept (State.finc_kept h1)))

theorem State.zoneBoundary_kept (h : State.Kept o s) : State.Kept o (State.zoneBoundary s) := by
  unfold State.zoneBoundary
  extract_lets -merge -useContext -underBinder x0 x1 x2 x3
  subst x0
  have h4 : State.Kept o x1 := (State.Kept.mk_safe h rfl rfl rfl rfl rfl rfl)
  have h5 : State.Kept o x3 := (State.fset_kept h4)
  exact (State.Kept.ite (State.Kept.ite h5 (State.trip_kept h5)) h4)

theorem State.matteSigCheck_kept (h : State.Kept o s) : State.Kept o (State.matteSigCheck s) := by
  unfold State.matteSigCheck
  extract_lets -merge -useContext -underBinder x0 x1 x2 x3
  exact (State.Kept.ite h (State.Kept.ite (State.trip_kept h) h))

theorem State.ovlSigCheck_kept (h : State.Kept o s) : State.Kept o (State.ovlSigCheck s a1 a2) := by
  unfold State.ovlSigCheck
  extract_lets -merge -useContext -underBinder x0 x1 x2
  have h3 : State.Kept o x2 := (State.fsetB_kept h)
  exact (State.Kept.ite h (State.Kept.ite (State.trip_kept h3) (State.Kept.ite (State.trip_kept h3) h3)))

/-- FB_CHANGE may take a group from CLOSING into PERMIT, and does nothing else that comes nearer to light. -/
theorem State.fbChange_kept (h : State.Kept o s) (hcp : ∀ g, o.mayClose g → o.mayPermit g) :
    State.Kept o (s.fbChange g b) := by
  unfold State.fbChange
  extract_lets g0 t g1 u g2 v
  have ht : State.Kept o t := State.setGroup_same_kept h rfl rfl rfl
  refine if hc : (decide ((t.group g).state = .closing) && !b) = true then ?_ else ?_
  · have hs : (t.group g).state = .closing := by
      simp only [Bool.and_eq_true, decide_eq_true_eq] at hc
      exact hc.1
    have hu : State.Kept o u := by
      refine State.setGroup_kept ht (fun _ => .inr rfl) (fun e => ?_) (fun _ => ?_)
      · cases e
      · exact hcp g ((ht.2.2.2.2 g).1 hs)
    rw [if_pos hc]
    exact State.statusIfMoved_kept (State.evt_kept (hu.of_parts rfl rfl rfl rfl rfl rfl))
  · rw [if_neg hc]
    exact State.evalGroups_kept ht

theorem State.fbDisagree_kept (h : State.Kept o s) : State.Kept o (State.fbDisagree s a1) := by
  unfold State.fbDisagree
  extract_lets -merge -useContext -underBinder x0
  exact (State.Kept.ite (State.trip_kept (State.advanceTo_kept h)) h)

theorem State.fbCloseTimeout_kept (h : State.Kept o s) : State.Kept o (State.fbCloseTimeout s a1) := by
  unfold State.fbCloseTimeout
  extract_lets -merge -useContext -underBinder x0
  exact (State.Kept.ite (State.evalGroups_kept (State.trip_kept (State.advanceTo_kept h))) h)

theorem State.fbOpenTimeout_kept (h : State.Kept o s) : State.Kept o (State.fbOpenTimeout s a1) := by
  unfold State.fbOpenTimeout
  extract_lets -merge -useContext -underBinder x0 x1
  have h2 : State.Kept o x1 := (State.enterLockout_kept (State.advanceTo_kept h))
  exact (State.Kept.ite (State.statusIfMoved_kept h2) h)

theorem State.testPulse_kept (h : State.Kept o s) : State.Kept o (s.testPulse g a b c) := by
  unfold State.testPulse
  extract_lets x t
  have ht : State.Kept o t := State.setGroup_same_kept h rfl rfl rfl
  exact State.Kept.ite (State.Kept.ite (State.evalGroups_kept (State.trip_kept h)) h)
    (State.evalGroups_kept (State.Kept.ite (State.trip_kept ht) ht))

theorem State.currentLimit_kept (h : State.Kept o s) : State.Kept o (s.currentLimit g) := by
  refine State.evalGroups_kept (State.trip_kept (State.setGroup_kept h ?_ (h.2.2.2.2 g).1 (h.2.2.2.2 g).2))
  intro hx
  simp at hx

/-- SAFE_RESET_EDGE may take a group from READY into CLOSING, and does nothing else that comes nearer to light. -/
theorem State.resetEdge_kept (h : State.Kept o s) (hr : ∀ g, (s.group g).state = .ready → o.mayClose g) :
    State.Kept o (s.resetEdge b) := by
  unfold State.resetEdge
  extract_lets t qual sf held ok tooLong go v w x y
  have ht : State.Kept o t := State.fsetB_kept h
  have hv : State.Kept o v := ht.of_parts rfl rfl rfl rfl rfl rfl
  have hw : State.Kept o w := State.Kept.ite (State.evt_kept (State.finc_kept hv)) hv
  have hx : State.Kept o x := State.finc_kept hw
  have hy : State.Kept o y := by
    refine State.Kept.foldlMem hx fun g hg s' h' => State.setGroup_kept h' (fun _ => .inl rfl) (fun _ => ?_) (fun e => ?_)
    · have hb := (mem_bitsSet hg).2
      unfold go at hb
      rw [bit_and, Bool.and_eq_true] at hb
      exact hr g (mem_groupsIn hb.2).2
    · cases e
  exact State.Kept.ite ht (State.Kept.ite (ht.of_parts rfl rfl rfl rfl rfl rfl)
    (State.Kept.ite (State.statusIfMoved_kept hy) hw))

theorem State.resetRejected_kept (h : State.Kept o s) : State.Kept o (State.resetRejected s) := by
  unfold State.resetRejected
  extract_lets -merge -useContext -underBinder x0 x1 x2
  have h3 : State.Kept o x0 := (State.advanceTo_kept h)
  subst x1
  have h4 : State.Kept o x2 := (State.Kept.mk_safe h3 rfl rfl rfl rfl rfl rfl)
  exact (State.Kept.ite (State.evt_kept (State.finc_kept h4)) h)

theorem State.resetLowHeld_kept (h : State.Kept o s) : State.Kept o (State.resetLowHeld s) := by
  unfold State.resetLowHeld
  extract_lets -merge -useContext -underBinder x0 x1
  have h2 : State.Kept o x0 := (State.advanceTo_kept h)
  subst x1
  exact (State.Kept.ite h (State.evalGroups_kept (State.Kept.mk_safe h2 rfl rfl rfl rfl rfl rfl)))

theorem State.xinLow_kept (h : State.Kept o s) : State.Kept o (State.xinLow s) := by
  unfold State.xinLow
  extract_lets -merge -useContext -underBinder x0 x1 x2
  subst x0
  have h3 : State.Kept o x1 := (State.Kept.mk_safe h rfl rfl rfl rfl rfl rfl)
  have h4 : State.Kept o x2 := (State.fset_kept (State.fset_kept h3))
  exact (State.Kept.ite (State.evalGroups_kept (State.trip_kept h4)) h4)

theorem State.xinUp_kept (h : State.Kept o s) : State.Kept o (State.xinUp s) := by
  unfold State.xinUp
  extract_lets -merge -useContext -underBinder x0 x1
  subst x0
  have h2 : State.Kept o x1 := (State.Kept.mk_safe h rfl rfl rfl rfl rfl rfl)
  exact (State.evalGroups_kept (State.fset_kept (State.fset_kept h2)))

theorem State.clearLockout_kept (h : State.Kept o s) : State.Kept o (s.clearLockout a) := by
  unfold State.clearLockout
  extract_lets m t u
  have ht : State.Kept o t := by
    -- the groups of the mask are in LOCKOUT, with both switches open, until each has been moved
    have key : ∀ (l : List Nat) (w : State), State.Kept o w →
        (∀ g ∈ l, (w.group g).swA = false ∧ (w.group g).swB = false) →
        State.Kept o (l.foldl (fun s g =>
          (s.setGroup g { s.group g with state := .safe, since := s.mono }).fset pgSaf (SAF.LOCK_CAUSE.CAUSE g) 0) w) := by
      intro l
      induction l with
      | nil => intro w hw _; exact hw
      | cons g l ih =>
        intro w hw hl
        obtain ⟨ha, hb⟩ := hl g (by simp)
        refine ih _ (State.fset_kept (State.setGroup_off_kept hw ha hb (by simp) (by simp))) fun g' hg' => ?_
        show ((w.setGroup g _).group g').swA = false ∧ ((w.setGroup g _).group g').swB = false
        unfold State.setGroup State.group
        by_cases e : g' = g
        · subst e; simp only [SMap.read_write_self]; exact ⟨ha, hb⟩
        · simp only [SMap.read_write_other _ _ _ e]; exact hl g' (by simp [hg'])
    refine key _ s h fun g hg => ?_
    have hb : bit m g = true := (mem_bitsSet hg).2
    have hs : (s.group g).state = .lockout := by
      unfold m State.lockedOf at hb
      rw [bit_and, Bool.and_eq_true] at hb
      exact (mem_groupsIn hb.2).2
    exact h.switches_open (by rw [hs]; simp) (by rw [hs]; simp)
  have hu : State.Kept o u := State.Kept.foldl ht fun n s h => State.Kept.ite (State.setBit_kept h) h
  exact State.evalGroups_kept (State.statusIfMoved_kept hu)

theorem State.handoverBegin_kept (h : State.Kept o s) : State.Kept o (State.handoverBegin s) := by
  unfold State.handoverBegin
  extract_lets -merge -useContext -underBinder x0 x1 x2
  subst x0
  have h3 : State.Kept o x1 := (State.Kept.mk_safe h rfl rfl rfl rfl rfl rfl)
  have h4 : State.Kept o x2 := (State.Kept.foldl h3 (fun a7 s5 h6 => (by
    extract_lets -merge -useContext -underBinder x8
    exact (State.setConn_kept h6))))
  exact (State.evalGroups_kept (State.evt_kept (State.fset_kept (State.fset_kept h4))))

theorem State.closeWindow_kept (h : State.Kept o s) : State.Kept o (State.closeWindow s) := by
  unfold State.closeWindow
  extract_lets -merge -useContext -underBinder x0 x1 x2
  subst x0
  have h3 : State.Kept o x1 := (State.Kept.mk_safe h rfl rfl rfl rfl rfl rfl)
  have h4 : State.Kept o x2 := (State.Kept.foldl h3 (fun a7 s5 h6 => (by
    extract_lets -merge -useContext -underBinder x8
    exact (State.Kept.ite (State.setConn_kept h6) h6))))
  exact (State.fset_kept (State.fset_kept h4))

theorem State.handoverTrip_kept (h : State.Kept o s) : State.Kept o (State.handoverTrip s) := by
  unfold State.handoverTrip
  extract_lets -merge -useContext -underBinder x0 x1 x2
  have h3 : State.Kept o x0 := (State.closeWindow_kept h)
  subst x1
  have h4 : State.Kept o x2 := (State.Kept.mk_safe h3 rfl rfl rfl rfl rfl rfl)
  exact (State.evalGroups_kept (State.trip_kept h4))

theorem State.handoverExpired_kept (h : State.Kept o s) : State.Kept o (State.handoverExpired s) := by
  unfold State.handoverExpired
  split
  · rename_i x0 x1 x2
    exact (State.handoverTrip_kept (State.evt_kept (State.advanceTo_kept h)))
  · rename_i x3 x4
    exact h

theorem State.commitInWindow_kept (h : State.Kept o s) : State.Kept o (State.commitInWindow s) := by
  unfold State.commitInWindow
  exact (State.Kept.ite (State.handoverTrip_kept h) h)

theorem State.safSilent_kept (h : State.Kept o s) : State.Kept o (State.safSilent s) := by
  unfold State.safSilent
  extract_lets -merge -useContext -underBinder x0 x1
  subst x0
  have h2 : State.Kept o x1 := (State.Kept.mk_safe h rfl rfl rfl rfl rfl rfl)
  exact (State.evalGroups_kept (State.trip_kept (State.evt_kept (State.fset_kept h2))))

theorem State.aliveWrite_kept (h : State.Kept o s) : State.Kept o (State.aliveWrite s a1) := by
  unfold State.aliveWrite
  extract_lets -merge -useContext -underBinder x0 x1 x2 x3 x4 x5
  have h6 : State.Kept o x3 := (State.fset_kept h)
  subst x4
  have h7 : State.Kept o x5 := (State.Kept.mk_safe h6 rfl rfl rfl rfl rfl rfl)
  exact (State.Kept.ite (State.fset_kept h7) (State.safSilent_kept h6))

theorem State.aliveTimeout_kept (h : State.Kept o s) : State.Kept o (State.aliveTimeout s) := by
  unfold State.aliveTimeout
  split
  · rename_i x0 x1 x2
    exact (State.Kept.ite h (State.safSilent_kept (State.advanceTo_kept h)))
  · rename_i x3 x4
    exact h

theorem State.selfTestStart_kept (h : State.Kept o s) : State.Kept o (s.selfTestStart g) := by
  unfold State.selfTestStart
  exact State.Kept.ite (State.setGroup_same_kept h rfl rfl rfl) h

theorem State.selfTestDone_kept (h : State.Kept o s) : State.Kept o (s.selfTestDone g b) := by
  unfold State.selfTestDone
  extract_lets x s1 agree
  refine if hc : (x.testing.isNone || x.state != .start) = true then ?_ else ?_
  · rw [if_pos hc]
    exact h
  · rw [if_neg hc]
    have hx : (s.group g).state = .start := by
      simp only [Bool.or_eq_true, not_or, bne_iff_ne, ne_eq, Decidable.not_not] at hc
      exact hc.2
    have h1 : State.Kept o s1 := State.setGroup_same_kept h rfl rfl rfl
    obtain ⟨ha, hb⟩ := h.switches_open (g := g) (by rw [hx]; simp) (by rw [hx]; simp)
    refine State.Kept.ite (State.evalGroups_kept (State.statusIfMoved_kept
      (State.setGroup_off_kept h1 ?_ ?_ (by simp) (by simp)))) (State.statusIfMoved_kept (State.enterLockout_kept h1))
    · show ((s.setGroup g _).group g).swA = false
      unfold State.setGroup State.group
      simp only [SMap.read_write_self]
      exact ha
    · show ((s.setGroup g _).group g).swB = false
      unfold State.setGroup State.group
      simp only [SMap.read_write_self]
      exact hb

theorem State.safApplied_kept (h : State.Kept o s) : State.Kept o (State.safApplied s a1) := by
  unfold State.safApplied
  extract_lets -merge -useContext -underBinder x0 x1 x2
  have h3 : State.Kept o x0 := (State.Kept.foldl h (fun a6 s4 h5 => (by
    extract_lets -merge -useContext -underBinder x7 x8 x9
    have h10 : State.Kept o x8 := (State.Kept.ite (State.setInput_kept h5) h5)
    exact (State.Kept.ite h10 (State.setBit_kept (State.setInput_kept h10))))))
  have h11 : State.Kept o x1 := (State.Kept.foldl h3 (fun a14 s12 h13 => (State.Kept.ite (State.fset_kept (State.fset_kept (State.fset_kept h13))) h13)))
  have h15 : State.Kept o x2 := (State.Kept.ite (State.trip_kept h11) h11)
  exact (State.evalGroups_kept h15)

end Sys2Proof.Machine
end

