-- ==== Sys2Proof/Laws/Kept/PairCore.lean ====
section
/-! SUPPORT. What every command keeps: one lemma for each function of Machine/PairCore.lean that changes the state. -/

namespace Sys2Proof.Machine

variable {o : Origin} {s : State}

theorem State.setPair_kept (h : State.Kept o s) : State.Kept o (State.setPair s a1) := by
  unfold State.setPair
  exact (State.Kept.mk h rfl rfl rfl rfl rfl rfl)

theorem State.clearReady_kept (h : State.Kept o s) : State.Kept o (State.clearReady s a1) := by
  unfold State.clearReady
  extract_lets -merge -useContext -underBinder x0 x1
  have h2 : State.Kept o x0 := (State.setPair_kept h)
  have h3 : State.Kept o x1 := (State.Kept.ite (State.fset_kept (State.fset_kept h2)) h2)
  exact (State.Kept.ite (State.Kept.ite (State.evt_kept h3) h3) h)

theorem State.showOffset_kept (h : State.Kept o s) : State.Kept o (State.showOffset s) := by
  unfold State.showOffset
  exact (State.fsetI_kept h)

theorem State.readyCheck_kept (h : State.Kept o s) : State.Kept o (State.readyCheck s) := by
  unfold State.readyCheck
  extract_lets -merge -useContext -underBinder x0
  have h1 : State.Kept o x0 := (State.showOffset_kept h)
  exact (State.Kept.ite (State.Kept.ite (State.clearReady_kept h1) (State.Kept.ite (State.clearReady_kept h1) h1)) h1)

theorem State.heartbeat_kept (h : State.Kept o s) : State.Kept o (State.heartbeat s a1) := by
  unfold State.heartbeat
  exact (State.Kept.ite h (State.mirror_kept h))

theorem State.pairLock_kept (h : State.Kept o s) : State.Kept o (State.pairLock s) := by
  unfold State.pairLock
  exact (State.Kept.foldl h (fun a2 s0 h1 => (by
    extract_lets -merge -useContext -underBinder x3 x4
    have h5 : State.Kept o x3 := (State.Kept.ite h1 (State.breakLock_kept h1))
    exact (State.setHdr_kept h5))))

theorem State.leaseRenew_kept (h : State.Kept o s) : State.Kept o (State.leaseRenew s) := by
  unfold State.leaseRenew
  exact (State.Kept.ite (State.Kept.foldl h (fun a2 s0 h1 => (by
    extract_lets -merge -useContext -underBinder x3
    exact (State.Kept.ite (State.setHdr_kept h1) h1)))) h)

theorem State.pairUnlock_kept (h : State.Kept o s) : State.Kept o (State.pairUnlock s) := by
  unfold State.pairUnlock
  exact (State.Kept.foldl h (fun a2 s0 h1 => (by
    extract_lets -merge -useContext -underBinder x3
    exact (State.Kept.ite (State.setHdr_kept h1) h1))))

theorem State.askRings_kept (h : State.Kept o s) : State.Kept o (State.askRings s) := by
  unfold State.askRings
  extract_lets -merge -useContext -underBinder x0 x1
  have h2 : State.Kept o x1 := (State.setPair_kept h)
  exact (State.Kept.foldl h2 (fun a5 s3 h4 => (State.queryStart_kept h4)))

theorem State.resolveLinking_kept (h : State.Kept o s) : State.Kept o (s.resolveLinking) := by
  unfold State.resolveLinking
  refine State.Kept.ite h ?_
  extract_lets x
  clear_value x
  split
  · exact State.Kept.ite h (State.askRings_kept h)
  · exact State.askRings_kept h

theorem State.link4Lost_kept (h : State.Kept o s) : State.Kept o (State.link4Lost s) := by
  unfold State.link4Lost
  exact (State.Kept.ite (State.setPairState_kept (State.pairUnlock_kept (State.setPair_kept h))) h)

theorem State.roleApplied_kept (h : State.Kept o s) : State.Kept o (State.roleApplied s a1) := by
  unfold State.roleApplied
  extract_lets -merge -useContext -underBinder x0 x1
  have h2 : State.Kept o x1 := (State.setPair_kept h)
  exact (State.Kept.ite h (State.Kept.ite (State.setPairState_kept h2) (State.Kept.ite h2 (State.resolveLinking_kept (State.setPairState_kept h2)))))

end Sys2Proof.Machine
end

