-- ==== Sys2Proof/Laws/Kept/Fw.lean ====
section
/-! SUPPORT. What every command keeps: one lemma for each function of Machine/Fw.lean that changes the state. -/

namespace Sys2Proof.Machine

variable {o : Origin} {s : State}

theorem State.setRunSlot_kept (h : State.Kept o s) : State.Kept o (State.setRunSlot s a1 a2) := by
  unfold State.setRunSlot
  extract_lets -merge -useContext -underBinder x0 x1
  exact (State.Kept.ite (State.Kept.mk h rfl rfl rfl rfl rfl rfl) (State.Kept.mk h rfl rfl rfl rfl rfl rfl))

theorem State.setBank_kept (h : State.Kept o s) : State.Kept o (State.setBank s a1 a2 a3) := by
  unfold State.setBank
  extract_lets -merge -useContext -underBinder x0
  exact (State.Kept.mk h rfl rfl rfl rfl rfl rfl)

theorem State.showVersion_kept (h : State.Kept o s) : State.Kept o (State.showVersion s a1) := by
  unfold State.showVersion
  exact (State.fset_kept h)

theorem State.showHoldup_kept (h : State.Kept o s) : State.Kept o (State.showHoldup s) := by
  unfold State.showHoldup
  split
  · rename_i x0 x1 x2 x3
    have h4 : State.Kept o x2 := State.Kept.of_eq2 x3 (State.roundFree_kept h)
    exact (State.fsetI_kept h4)

theorem State.setFw_kept (h : State.Kept o s) : State.Kept o (State.setFw s a1) := by
  unfold State.setFw
  exact (State.Kept.mk h rfl rfl rfl rfl rfl rfl)

theorem State.flashIssue_kept (h : State.Kept o s) : State.Kept o (State.flashIssue s) := by
  unfold State.flashIssue
  split
  · rename_i x0 x1
    exact h
  · rename_i x2 x3 x4 x5 x6
    extract_lets -merge -useContext -underBinder x7 x8
    have h9 : State.Kept o x7 := (State.showHoldup_kept h)
    exact (State.Kept.ite h (State.Kept.ite (State.fset_kept (State.setFw_kept h9)) (State.Kept.ite h9 (State.evt_kept (State.finc_kept (State.fset_kept (State.setFw_kept h9)))))))

theorem State.flashQueue_kept (h : State.Kept o s) : State.Kept o (State.flashQueue s a1 a2) := by
  unfold State.flashQueue
  exact (State.setFw_kept h)

theorem State.jobDrop_kept (h : State.Kept o s) : State.Kept o (State.jobDrop s a1) := by
  unfold State.jobDrop
  exact (State.setFw_kept h)

theorem State.writeDir_kept (h : State.Kept o s) : State.Kept o (State.writeDir s a1 a2) := by
  unfold State.writeDir
  split
  · rename_i x0 x1 x2 x3
    extract_lets -merge -useContext -underBinder x4
    exact (State.flashQueue_kept h)

theorem State.writeKeys_kept (h : State.Kept o s) : State.Kept o (State.writeKeys s a1) := by
  unfold State.writeKeys
  split
  · rename_i x0 x1 x2 x3
    extract_lets -merge -useContext -underBinder x4
    exact (State.flashQueue_kept h)

theorem State.updateFail_kept (h : State.Kept o s) : State.Kept o (State.updateFail s a1) := by
  unfold State.updateFail
  split
  · rename_i x0 x1
    exact h
  · rename_i x2 x3 x4
    extract_lets -merge -useContext -underBinder x5
    have h6 : State.Kept o x5 := (State.jobDrop_kept (State.setFw_kept h))
    exact (State.cmdEnd_kept (State.fset_kept h6))

theorem State.updateVerify_kept (h : State.Kept o s) : State.Kept o (State.updateVerify s) := by
  unfold State.updateVerify
  split
  · rename_i x0 x1
    exact h
  · rename_i x2 x3 x4
    extract_lets -merge -useContext -underBinder x5 x6
    have h7 : State.Kept o x6 := (State.setFw_kept h)
    split
    · rename_i x8 x9
      exact (State.evt_kept (State.fset_kept (State.fset_kept h7)))
    · rename_i x10 x11 x12
      exact (State.evt_kept (State.fset_kept (State.fset_kept h7)))

theorem State.updateStart_kept (h : State.Kept o s) : State.Kept o (State.updateStart s a1 a2) := by
  unfold State.updateStart
  extract_lets -merge -useContext -underBinder x0 x1
  have h2 : State.Kept o x0 := (State.setFw_kept h)
  have h3 : State.Kept o x1 := (State.fset_kept (State.fwrap_kept h2))
  exact (State.fset_kept (State.fset_kept h3))

theorem State.updateAbort_kept (h : State.Kept o s) : State.Kept o (State.updateAbort s) := by
  unfold State.updateAbort
  exact (State.fset_kept (State.jobDrop_kept (State.setFw_kept h)))

theorem State.takePacket_kept (h : State.Kept o s) : State.Kept o (s.takePacket q).2 := by
  unfold State.takePacket
  refine State.reelRelease_kept (State.Kept.foldlP (fun x : List Nat × State => State.Kept o x.2) h ?_)
  intro a b hb
  exact State.reelRead_kept hb

theorem State.blockReject_kept (h : State.Kept o s) : State.Kept o (State.blockReject s a1) := by
  unfold State.blockReject
  exact (State.evt_kept (State.fset_kept (State.finc_kept h)))

theorem State.updateWrite_kept (h : State.Kept o s) : State.Kept o (State.updateWrite s a1 a2) := by
  unfold State.updateWrite
  extract_lets -merge -useContext -underBinder x0 x1 x2 x3 x4 x5
  have h6 : State.Kept o x4 := (State.setFw_kept h)
  have h7 : State.Kept o x5 := (State.flashQueue_kept h6)
  exact (State.Kept.ite (State.updateVerify_kept h7) h7)

theorem State.updateBlock_kept (h : State.Kept o s) : State.Kept o (State.updateBlock s) := by
  unfold State.updateBlock
  exact (State.Kept.ite h (by
    split
    · rename_i x0 x1 x2 x3
      have h4 : State.Kept o x2 := State.Kept.of_eq2 x3 (State.takePacket_kept h)
      extract_lets -merge -useContext -underBinder x5 x6 x7 x8
      split
      · rename_i x9 x10
        exact (State.blockReject_kept h4)
      · rename_i x11 x12 x13
        extract_lets -merge -useContext -underBinder x14 x15 x16 x17 x18
        have h19 : State.Kept o x16 := (State.setFw_kept (State.fset_kept h4))
        exact (State.Kept.ite (State.blockReject_kept h4) (State.Kept.ite (State.blockReject_kept h4) (State.Kept.ite (State.blockReject_kept h4) (State.Kept.ite (State.blockReject_kept h4) (State.Kept.ite (State.finc_kept h4) (by
    split
    · rename_i x20 x21 x22
      exact (State.updateFail_kept h19)
    · rename_i x23 x24
      exact (State.updateWrite_kept h19)))))))))

theorem State.activateDone_kept (h : State.Kept o s) : State.Kept o (State.activateDone s) := by
  unfold State.activateDone
  extract_lets -merge -useContext -underBinder x0 x1
  exact (State.Kept.ite h (by
    split
    · rename_i x2 x3
      exact (State.cmdDone_kept (State.fset_kept (State.setBank_kept h)))
    · rename_i x4 x5 x6
      exact (State.cmdFail_kept (State.fset_kept h))))

theorem State.flipBank_kept (h : State.Kept o s) : State.Kept o (State.flipBank s a1) := by
  unfold State.flipBank
  extract_lets -merge -useContext -underBinder x0
  have h1 : State.Kept o x0 := (State.fset_kept h)
  exact (State.showVersion_kept (State.setRunSlot_kept h1))

theorem State.fwHandover_kept (h : State.Kept o s) : State.Kept o (State.fwHandover s a1 a2) := by
  unfold State.fwHandover
  extract_lets -merge -useContext -underBinder x0 x1 x2 x3 x4
  have h5 : State.Kept o x1 := (State.Kept.mk h rfl rfl rfl rfl rfl rfl)
  have h6 : State.Kept o x3 := (State.setFw_kept (State.flipBank_kept h5))
  have h7 : State.Kept o x4 := (State.fset_kept (State.fset_kept (State.fset_kept h6)))
  exact (State.writeDir_kept (State.evt_kept h7))

theorem State.revert_kept (h : State.Kept o s) : State.Kept o (State.revert s a1) := by
  unfold State.revert
  extract_lets -merge -useContext -underBinder x0 x1
  have h2 : State.Kept o x0 := (State.setFw_kept (State.flipBank_kept h))
  have h3 : State.Kept o x1 := (State.fset_kept (State.fset_kept h2))
  exact (State.writeDir_kept (State.evt_kept h3))

theorem State.handoverRevert_kept (h : State.Kept o s) : State.Kept o (State.handoverRevert s) := by
  unfold State.handoverRevert
  split
  · rename_i x0 x1 x2 x3
    exact (State.revert_kept (State.advanceTo_kept h))
  · rename_i x4 x5
    exact h

theorem State.handoverHolds_kept (h : State.Kept o s) : State.Kept o (State.handoverHolds s a1) := by
  unfold State.handoverHolds
  split
  · rename_i x0 x1 x2 x3
    exact (State.Kept.ite (State.setFw_kept h) h)
  · rename_i x4 x5
    exact h

theorem State.fwAlive_kept (h : State.Kept o s) : State.Kept o (State.fwAlive s a1 a2) := by
  unfold State.fwAlive
  extract_lets -merge -useContext -underBinder x0
  have h1 : State.Kept o x0 := (State.fset_kept h)
  exact (State.Kept.ite (State.handoverHolds_kept h1) h1)

theorem State.confirm_kept (h : State.Kept o s) : State.Kept o (State.confirm s) := by
  unfold State.confirm
  extract_lets -merge -useContext -underBinder x0 x1 x2 x3
  exact (State.writeDir_kept h)

theorem State.showDir_kept (h : State.Kept o s) : State.Kept o (State.showDir s) := by
  unfold State.showDir
  split
  · rename_i x0 x1 x2 x3
    exact (State.fset_kept (State.fset_kept h))
  · rename_i x4 x5
    exact h

theorem State.showOtp_kept (h : State.Kept o s) : State.Kept o (State.showOtp s) := by
  unfold State.showOtp
  extract_lets -merge -useContext -underBinder x0
  have h1 : State.Kept o x0 := (State.fset_kept (State.fset_kept (State.fset_kept h)))
  exact (State.fsetB_kept (State.fsetB_kept h1))

theorem State.svnAdvance_kept (h : State.Kept o s) : State.Kept o (s.svnAdvance t) := by
  refine State.showOtp_kept (h.of_otp ?_)
  split
  · exact ⟨rfl, Nat.or_self _, Nat.le_max_left _ _, Nat.le_refl _, id, id⟩
  · exact ⟨rfl, Nat.or_self _, Nat.le_refl _, Nat.le_max_left _ _, id, id⟩

theorem State.revokeKey_kept (h : State.Kept o s) : State.Kept o (s.revokeKey k) := by
  refine State.showOtp_kept (h.of_otp ⟨rfl, ?_, Nat.le_refl _, Nat.le_refl _, id, id⟩)
  show s.otp.revoked ||| (s.otp.revoked ||| 1 <<< k) = s.otp.revoked ||| 1 <<< k
  rw [← Nat.or_assoc, Nat.or_self]

theorem State.recordLost_kept (h : State.Kept o s) : State.Kept o (State.recordLost s) := by
  unfold State.recordLost
  exact (State.reportDrop_kept (State.evt_kept (State.finc_kept h)))

theorem State.addCode_kept (h : State.Kept o s) (l : List Nat) (r : Option Nat) : State.Kept o (s.addCode l r).2 := by
  cases r with
  | some v => exact h
  | none => exact State.fresh_kept (State.recordLost_kept h) (a1 := 16)



theorem State.codeStep_kept (h : State.Kept o a.2) : State.Kept o (State.codeStep n a i).2 := by
  unfold State.codeStep
  exact State.addCode_kept h _ _

theorem State.codesFrom_kept (h : State.Kept o s) : State.Kept o (s.codesFrom a n).2 := by
  unfold State.codesFrom
  exact State.Kept.foldlP (fun x : List Nat × State => State.Kept o x.2) h fun _ _ h' => State.codeStep_kept h'

theorem State.sliceCodes_kept (h : State.Kept o s) : State.Kept o (s.sliceCodes k).2 := State.codesFrom_kept h

theorem State.wearWrite_kept (h : State.Kept o s) : State.Kept o (State.wearWrite s a1 a2) := by
  unfold State.wearWrite
  extract_lets -merge -useContext -underBinder x0 x1 x2 x3 x4 x5 x6
  have h7 : State.Kept o x6 := (State.setFw_kept h)
  exact (State.flashQueue_kept h7)

theorem State.wearStart_kept (h : State.Kept o s) : State.Kept o s.wearStart :=
  State.wearWrite_kept (State.sliceCodes_kept h)

theorem State.diagCkptStart_kept (h : State.Kept o s) : State.Kept o (State.diagCkptStart s) := by
  unfold State.diagCkptStart
  extract_lets -merge -useContext -underBinder x0 x1 x2 x3 x4 x5
  have h6 : State.Kept o x5 := (State.setFw_kept h)
  exact (State.flashQueue_kept h6)

theorem State.wearCheckpoint_kept (h : State.Kept o s) : State.Kept o (State.wearCheckpoint s) := by
  unfold State.wearCheckpoint
  extract_lets -merge -useContext -underBinder x0
  have h1 : State.Kept o x0 := (State.advanceTo_kept h)
  exact (State.Kept.ite (State.wearStart_kept h1) h1)

theorem State.diagCheckpoint_kept (h : State.Kept o s) : State.Kept o (State.diagCheckpoint s) := by
  unfold State.diagCheckpoint
  extract_lets -merge -useContext -underBinder x0
  have h1 : State.Kept o x0 := (State.advanceTo_kept h)
  exact (State.Kept.ite (State.diagCkptStart_kept h1) h1)

theorem State.ckptNow_kept (h : State.Kept o s) : State.Kept o (State.ckptNow s) := by
  unfold State.ckptNow
  exact (State.setFw_kept (State.diagCkptStart_kept (State.wearStart_kept h)))

theorem State.ckptEnd_kept (h : State.Kept o s) : State.Kept o (State.ckptEnd s a1) := by
  unfold State.ckptEnd
  extract_lets -merge -useContext -underBinder x0
  have h1 : State.Kept o x0 := by
    unfold x0
    split
    · rename_i x2
      exact (State.evt_kept (State.finc_kept h))
    · rename_i x3 x4
      exact h
  exact (State.Kept.ite h1 (by
    split
    · rename_i x5 x6
      exact (State.cmdFail_kept (State.setFw_kept h1))
    · rename_i x7
      extract_lets -merge -useContext -underBinder x8
      have h9 : State.Kept o x8 := (State.setFw_kept h1)
      exact (State.Kept.ite (State.cmdDone_kept h9) h9)))

theorem State.packStart_kept (h : State.Kept o s) : State.Kept o (State.packStart s a1 a2) := by
  unfold State.packStart
  split
  · rename_i x0 x1 x2 x3
    have h4 : State.Kept o x2 := State.Kept.of_eq2 x3 (State.fresh_kept h)
    extract_lets -merge -useContext -underBinder x5 x6 x7
    have h8 : State.Kept o x5 := (State.fset_kept h4)
    exact (State.Kept.ite h8 (State.flashQueue_kept h8))

theorem State.sealAndPack_kept (h : State.Kept o s) : State.Kept o (s.sealAndPack) := by
  refine State.packStart_kept ((State.sealFactory_kept h).of_otp ⟨rfl, Nat.or_self _, Nat.le_refl _, Nat.le_refl _, id, ?_⟩)
  exact fun _ => rfl

theorem State.userBackup_kept (h : State.Kept o s) : State.Kept o (State.userBackup s) := by
  unfold State.userBackup
  exact (State.packStart_kept h)

theorem State.jobDone_kept (h : State.Kept o s) : State.Kept o (State.jobDone s a1) := by
  unfold State.jobDone
  split
  · rename_i x0
    exact (State.Kept.ite (State.updateVerify_kept h) h)
  · rename_i x1
    exact h
  · rename_i x2
    extract_lets -merge -useContext -underBinder x3
    have h4 : State.Kept o x3 := (State.fset_kept (State.fset_kept h))
    exact (State.cmdDone_kept (State.showDir_kept h4))
  · rename_i x5 x6 x7
    extract_lets -merge -useContext -underBinder x8 x9
    have h10 : State.Kept o x8 := (State.fset_kept h)
    have h11 : State.Kept o x9 := (State.fset_kept h10)
    exact (State.ckptEnd_kept h11)
  · rename_i x12 x13
    extract_lets -merge -useContext -underBinder x14
    exact (State.ckptEnd_kept (State.Kept.mk h rfl rfl rfl rfl rfl rfl))
  · rename_i x15 x16
    exact h
  · rename_i x17
    exact h
  · rename_i x18
    exact h

theorem State.jobFail_kept (h : State.Kept o s) : State.Kept o (State.jobFail s a1 a2) := by
  unfold State.jobFail
  extract_lets -merge -useContext -underBinder x0
  have h1 : State.Kept o x0 := (State.jobDrop_kept h)
  split
  · rename_i x2
    exact (State.updateFail_kept h1)
  · rename_i x3
    exact (State.cmdFail_kept h1)
  · rename_i x4 x5 x6
    exact (State.ckptEnd_kept h1)
  · rename_i x7 x8
    exact (State.ckptEnd_kept h1)
  · rename_i x9
    exact (State.evt_kept (State.finc_kept h1))
  · rename_i x10 x11 x12 x13 x14 x15
    exact h1

theorem State.dailyWritten_kept (h : State.Kept o s) : State.Kept o (State.dailyWritten s) := by
  unfold State.dailyWritten
  extract_lets -merge -useContext -underBinder x0 x1
  have h2 : State.Kept o x1 := (State.Kept.ite (State.finc_kept h) h)
  exact (State.evt_kept (State.finc_kept (State.fset_kept h2)))

theorem State.flashDone_kept (h : State.Kept o s) : State.Kept o (State.flashDone s a1) := by
  unfold State.flashDone
  exact (State.Kept.ite h (by
    split
    · rename_i x0 x1
      exact h
    · rename_i x2 x3 x4 x5 x6
      extract_lets -merge -useContext -underBinder x7 x8 x9
      have h10 : State.Kept o x7 := (State.setFw_kept h)
      have h11 : State.Kept o x8 := (State.Kept.mk h10 rfl rfl rfl rfl rfl rfl)
      have h12 : State.Kept o x9 := (State.finc_kept h10)
      exact (State.Kept.ite (State.Kept.ite (by
    split
    · rename_i x13 x14 x15
      exact (State.dailyWritten_kept h11)
    · rename_i x16 x17
      exact h11) (State.Kept.ite h11 (State.jobDone_kept h11))) (State.jobFail_kept (State.reportDrop_kept (State.evt_kept h12))))))

theorem State.holdTimeout_kept (h : State.Kept o s) : State.Kept o (State.holdTimeout s) := by
  unfold State.holdTimeout
  split
  · rename_i x0 x1 x2 x3 x4 x5 x6 x7
    extract_lets -merge -useContext -underBinder x8 x9
    have h10 : State.Kept o x8 := (State.advanceTo_kept h)
    have h11 : State.Kept o x9 := (State.setFw_kept h10)
    exact (State.jobFail_kept (State.finc_kept (State.fset_kept h11)))
  · rename_i x12 x13 x14
    exact h

theorem State.restoreCaddy_kept (h : State.Kept o s) : State.Kept o (State.restoreCaddy s a1 a2) := by
  unfold State.restoreCaddy
  exact (State.Kept.foldl h (fun a2 s0 h1 => (State.writeNat_kept h1)))

theorem State.restoreWear_kept (h : State.Kept o s) : State.Kept o (State.restoreWear s) := by
  unfold State.restoreWear
  exact (State.Kept.foldl h (fun a2 s0 h1 => (by
    split
    · rename_i x3 x4 x5 x6
      have h7 : State.Kept o x5 := State.Kept.of_eq2 x6 (by
    split
    · rename_i x8 x9 x10
      exact (State.Kept.pr2 h1)
    · rename_i x11 x12
      exact (State.Kept.pr2 (State.recordLost_kept h1)))
      exact (State.Kept.foldl h7 (fun a15 s13 h14 => (by
    extract_lets -merge -useContext -underBinder x16 x17
    exact (State.writeNat_kept h14)))))))

theorem State.restoreDiag_kept (h : State.Kept o s) : State.Kept o (State.restoreDiag s) := by
  unfold State.restoreDiag
  extract_lets -merge -useContext -underBinder x0
  have h1 : State.Kept o x0 := (State.Kept.foldl h (fun a4 s2 h3 => (State.setRecord_kept h3)))
  split
  · rename_i x5 x6
    exact h1
  · rename_i x7 x8 x9
    extract_lets -merge -useContext -underBinder x10 x11
    exact (State.Kept.foldl h1 (fun a14 s12 h13 => (State.setRecord_kept h13)))

theorem State.restore_kept (h : State.Kept o s) : State.Kept o (State.restore s) := by
  unfold State.restore
  extract_lets -merge -useContext -underBinder x0 x1 x2 x3
  have h4 : State.Kept o x0 := (State.setFw_kept h)
  have h5 : State.Kept o x1 := by
    unfold x1
    split
    · rename_i x6 x7 x8
      extract_lets -merge -useContext -underBinder x9 x10
      have h11 : State.Kept o x9 := (State.restoreCaddy_kept h4)
      exact (State.checkFactory_kept (State.Kept.mk h11 rfl rfl rfl rfl rfl rfl))
    · rename_i x12 x13
      exact h4
  have h14 : State.Kept o x2 := by
    unfold x2
    split
    · rename_i x15 x16 x17
      exact (State.restoreCaddy_kept h5)
    · rename_i x18 x19
      exact h5
  have h20 : State.Kept o x3 := (State.restoreDiag_kept (State.restoreWear_kept h14))
  exact (State.Kept.ite h (State.Kept.ite h20 (State.fset_kept (State.cmdStart_kept h20))))

end Sys2Proof.Machine
end

