-- ==== Sys2Proof/Laws/Kept/Pwr.lean ====
section
/-! SUPPORT. What every command keeps: one lemma for each function of Machine/Pwr.lean that changes the state. -/

namespace Sys2Proof.Machine

variable {o : Origin} {s : State}

theorem State.setTrans_kept (h : State.Kept o s) : State.Kept o (State.setTrans s a1 a2) := by
  unfold State.setTrans
  extract_lets -merge -useContext -underBinder x0 x1
  have h2 : State.Kept o x1 := (State.Kept.mk h rfl rfl rfl rfl rfl rfl)
  exact (State.fset_kept (State.fsetB_kept h2))

theorem State.setQueued_kept (h : State.Kept o s) : State.Kept o (State.setQueued s a1 a2) := by
  unfold State.setQueued
  extract_lets -merge -useContext -underBinder x0 x1
  have h2 : State.Kept o x1 := (State.Kept.mk h rfl rfl rfl rfl rfl rfl)
  exact (State.fset_kept (State.fsetB_kept h2))

theorem State.setHeld_kept (h : State.Kept o s) : State.Kept o (State.setHeld s a1 a2) := by
  unfold State.setHeld
  extract_lets -merge -useContext -underBinder x0 x1
  have h2 : State.Kept o x1 := (State.Kept.mk h rfl rfl rfl rfl rfl rfl)
  exact (State.fsetB_kept h2)

theorem State.lpEnter_kept (h : State.Kept o s) : State.Kept o (State.lpEnter s) := by
  unfold State.lpEnter
  exact (State.Kept.ite (State.evt_kept (State.fset_kept (State.advanceTo_kept h))) h)

theorem State.lpLeave_kept (h : State.Kept o s) : State.Kept o (State.lpLeave s) := by
  unfold State.lpLeave
  exact (State.Kept.ite (State.evt_kept (State.fset_kept h)) h)

theorem State.stopWork_kept (h : State.Kept o s) : State.Kept o (State.stopWork s a1) := by
  unfold State.stopWork
  split
  · rename_i x0 x1 x2
    extract_lets -merge -useContext -underBinder x3
    exact (State.Kept.mk h rfl rfl rfl rfl rfl rfl)
  · rename_i x4 x5 x6
    extract_lets -merge -useContext -underBinder x7
    exact (State.fset_kept (State.Kept.mk h rfl rfl rfl rfl rfl rfl))
  · rename_i x8 x9 x10
    exact (State.fset_kept h)
  · rename_i x11 x12 x13
    extract_lets -merge -useContext -underBinder x14
    exact (State.fset_kept (State.Kept.mk h rfl rfl rfl rfl rfl rfl))
  · rename_i x15 x16 x17
    extract_lets -merge -useContext -underBinder x18
    exact (State.Kept.mk h rfl rfl rfl rfl rfl rfl)
  · rename_i x19 x20 x21
    exact (State.abandonRing_kept h)
  · rename_i x22 x23 x24
    exact (State.jobDrop_kept (State.setFw_kept h))
  · rename_i x25 x26 x27 x28 x29 x30 x31 x32
    exact h

theorem State.abandonCmd_kept (h : State.Kept o s) : State.Kept o (State.abandonCmd s a1) := by
  unfold State.abandonCmd
  exact (State.Kept.ite (State.cmdFail_kept (State.stopWork_kept h)) h)

theorem State.quiesce_kept (h : State.Kept o s) : State.Kept o (State.quiesce s a1) := by
  unfold State.quiesce
  extract_lets -merge -useContext -underBinder x0 x1 x2
  have h3 : State.Kept o x0 := (State.Kept.foldl h (fun a6 s4 h5 => (State.abandonCmd_kept h5)))
  have h7 : State.Kept o x1 := (State.Kept.ite (State.lanesDomainOff_kept h3) h3)
  have h8 : State.Kept o x2 := (State.Kept.ite (State.Kept.foldl h7 (fun a11 s9 h10 => (State.Kept.ite (State.abandonRing_kept h10) h10))) h7)
  exact (State.Kept.ite (State.fset_kept h8) h8)

theorem State.memResume_kept (h : State.Kept o s) : State.Kept o (State.memResume s) := by
  unfold State.memResume
  exact (State.Kept.ite h (State.memStart_kept h))

theorem State.clearDomain_kept (h : State.Kept o s) : State.Kept o (State.clearDomain s a1) := by
  unfold State.clearDomain
  extract_lets -merge -useContext -underBinder x0 x1 x2 x3 x4 x5 x6 x7 x8 x9
  subst x0
  have h10 : State.Kept o x6 := (State.Kept.foldl h (fun a13 s11 h12 => (State.setLane_kept h12)))
  have h14 : State.Kept o x7 := (State.Kept.mk h10 rfl rfl rfl rfl rfl rfl)
  exact (State.Kept.ite (State.Kept.mk_safe h rfl rfl rfl rfl rfl rfl) (State.Kept.ite (State.Kept.mk_words h rfl rfl rfl rfl rfl rfl) (State.Kept.ite (State.Kept.mk h rfl rfl rfl rfl rfl rfl) (State.Kept.ite (State.Kept.mk h rfl rfl rfl rfl rfl rfl) (State.Kept.ite (State.Kept.mk h rfl rfl rfl rfl rfl rfl) (State.Kept.ite (State.Kept.ite (State.Kept.mk h14 rfl rfl rfl rfl rfl rfl) (State.Kept.ite (State.Kept.mk h14 rfl rfl rfl rfl rfl rfl) h14)) (State.Kept.foldl h (fun a17 s15 h16 => (State.Kept.ite (State.setDud_kept h16) h16)))))))))

theorem State.domainLost_kept (h : State.Kept o s) : State.Kept o (State.domainLost s a1) := by
  unfold State.domainLost
  extract_lets -merge -useContext -underBinder x0 x1 x2 x3 x4 x5 x6
  have h7 : State.Kept o x2 := (State.Kept.foldl h (fun a10 s8 h9 => (State.resetPage_kept h9)))
  have h11 : State.Kept o x3 := (State.clearDomain_kept (State.Kept.foldl h7 (fun a14 s12 h13 => (State.breakLocksOf_kept h13))))
  have h15 : State.Kept o x4 := (State.Kept.ite (State.showVersion_kept (State.fset_kept (State.fset_kept h11))) (State.Kept.ite (State.showVersion_kept (State.fset_kept (State.fset_kept h11))) h11))
  have h16 : State.Kept o x5 := (State.Kept.ite (State.showKey_kept h15) h15)
  have h17 : State.Kept o x6 := (State.Kept.ite (State.fset_kept h16) (State.Kept.ite (State.fset_kept h16) h16))
  exact (State.showOtp_kept h17)

theorem State.reqRecord_kept (h : State.Kept o s) : State.Kept o (State.reqRecord s a1 a2 a3 a4) := by
  unfold State.reqRecord
  exact (State.fset_kept (State.fset_kept (State.fset_kept (State.fset_kept h))))

theorem State.refuseCount_kept (h : State.Kept o s) : State.Kept o (State.refuseCount s a1 a2 a3) := by
  unfold State.refuseCount
  exact (State.fset_kept (State.fset_kept (State.fset_kept (State.finc_kept h))))

theorem State.refuseReq_kept (h : State.Kept o s) : State.Kept o (State.refuseReq s a1 a2 a3 a4) := by
  unfold State.refuseReq
  exact (State.reqRecord_kept (State.evt_kept (State.refuseCount_kept h)))

theorem State.startEntry_kept (h : State.Kept o s) : State.Kept o (State.startEntry s a1 a2) := by
  unfold State.startEntry
  extract_lets -merge -useContext -underBinder x0 x1
  have h2 : State.Kept o x1 := (State.setTrans_kept h)
  exact (State.Kept.ite (State.quiesce_kept h2) h2)

theorem State.startExit_kept (h : State.Kept o s) : State.Kept o (State.startExit s a1) := by
  unfold State.startExit
  extract_lets -merge -useContext -underBinder x0
  exact (State.lpLeave_kept (State.setTrans_kept h))

theorem State.idleReq_kept (h : State.Kept o s) : State.Kept o (State.idleReq s a1 a2 a3) := by
  unfold State.idleReq
  extract_lets -merge -useContext -underBinder x0
  exact (State.Kept.ite (State.reqRecord_kept h) (State.Kept.ite (by
    split
    · rename_i x1 x2 x3
      split
      · rename_i x4 x5 x6
        exact (State.Kept.ite (State.reqRecord_kept (State.setHeld_kept h)) (State.reqRecord_kept h))
      · rename_i x7 x8
        exact (State.Kept.ite (State.reqRecord_kept (State.startExit_kept h)) (State.reqRecord_kept h))
    · rename_i x9 x10
      exact (State.reqRecord_kept (State.startExit_kept h))) (State.Kept.ite (State.refuseReq_kept h) (by
    split
    · rename_i x11 x12 x13 x14
      exact (State.refuseReq_kept h)
    · rename_i x15 x16
      exact (State.reqRecord_kept (State.startEntry_kept h))))))

theorem State.enqueueReq_kept (h : State.Kept o s) : State.Kept o (State.enqueueReq s a1 a2 a3) := by
  unfold State.enqueueReq
  exact (State.reqRecord_kept (State.setQueued_kept h))

theorem State.request_kept (h : State.Kept o s) : State.Kept o (State.request s a1 a2 a3) := by
  unfold State.request
  split
  · rename_i x0 x1
    exact (State.Kept.ite (State.Kept.ite (State.reqRecord_kept (State.setQueued_kept h)) (State.enqueueReq_kept h)) (State.idleReq_kept h))
  · rename_i x2 x3 x4
    exact (State.Kept.ite (State.Kept.ite (State.reqRecord_kept (State.setQueued_kept h)) (State.enqueueReq_kept h)) (State.Kept.ite (State.reqRecord_kept (State.setQueued_kept (State.setTrans_kept h))) (State.Kept.ite (State.reqRecord_kept (State.setQueued_kept h)) (State.Kept.ite (State.refuseReq_kept h) (State.enqueueReq_kept h)))))

theorem State.domainReq_kept (h : State.Kept o s) : State.Kept o (State.domainReq s a1 a2 a3) := by
  unfold State.domainReq
  exact (State.Kept.ite (State.refuseReq_kept h) (State.request_kept h))

theorem State.runQueued_kept (h : State.Kept o s) : State.Kept o (State.runQueued s a1) := by
  unfold State.runQueued
  split
  · rename_i x0 x1 x2 x3
    exact (State.request_kept (State.setQueued_kept h))
  · rename_i x4 x5
    exact h

theorem State.breakExpired_kept (h : State.Kept o s) : State.Kept o (State.breakExpired s a1) := by
  unfold State.breakExpired
  exact (State.Kept.foldl h (fun a2 s0 h1 => (State.Kept.ite (State.breakLock_kept h1) h1)))

theorem State.startHeld_kept (h : State.Kept o s) : State.Kept o (State.startHeld s a1) := by
  unfold State.startHeld
  exact (State.Kept.foldl h (fun a2 s0 h1 => (State.Kept.ite (State.startExit_kept (State.setHeld_kept h1)) h1)))

theorem State.restartActivity_kept (h : State.Kept o s) : State.Kept o (State.restartActivity s a1) := by
  unfold State.restartActivity
  extract_lets -merge -useContext -underBinder x0
  have h1 : State.Kept o x0 := (State.Kept.ite (State.memResume_kept h) h)
  exact (State.Kept.ite (State.laneEnable_kept h1) h1)

theorem State.entryAbandon_kept (h : State.Kept o s) : State.Kept o (State.entryAbandon s a1) := by
  unfold State.entryAbandon
  split
  · rename_i x0 x1
    exact h
  · rename_i x2 x3 x4
    split
    · rename_i x5 x6
      exact h
    · rename_i x7 x8 x9
      extract_lets -merge -useContext -underBinder x10 x11
      have h12 : State.Kept o x10 := by
        unfold x10
        split
        · rename_i x13 x14 x15
          exact (State.advanceTo_kept h)
        · rename_i x16 x17
          exact h
      have h18 : State.Kept o x11 := (State.evt_kept (State.refuseCount_kept h12))
      exact (State.runQueued_kept (State.breakExpired_kept (State.restartActivity_kept (State.setTrans_kept h18))))

theorem State.entryDone_kept (h : State.Kept o s) : State.Kept o (State.entryDone s a1) := by
  unfold State.entryDone
  split
  · rename_i x0 x1
    exact h
  · rename_i x2 x3 x4
    extract_lets -merge -useContext -underBinder x5 x6 x7 x8 x9 x10 x11 x12 x13
    have h14 : State.Kept o x5 := (State.advanceTo_kept h)
    have h15 : State.Kept o x7 := (State.finc_kept (State.fset_kept h14))
    have h16 : State.Kept o x8 := (State.Kept.ite (State.domainLost_kept h15) h15)
    have h17 : State.Kept o x9 := (State.Kept.ite (State.Kept.mk_dram h16 rfl rfl rfl rfl rfl rfl) h16)
    have h18 : State.Kept o x10 := (State.Kept.ite (State.fset_kept h17) h17)
    have h19 : State.Kept o x11 := (State.evt_kept (State.setTrans_kept h18))
    have h20 : State.Kept o x13 := (State.Kept.ite (State.Kept.mk h19 rfl rfl rfl rfl rfl rfl) h19)
    exact (State.Kept.ite h (State.runQueued_kept h20))

theorem State.exitDone_kept (h : State.Kept o s) : State.Kept o (State.exitDone s a1) := by
  unfold State.exitDone
  split
  · rename_i x0 x1
    exact h
  · rename_i x2 x3 x4
    extract_lets -merge -useContext -underBinder x5 x6 x7 x8 x9
    have h10 : State.Kept o x5 := (State.advanceTo_kept h)
    have h11 : State.Kept o x7 := (State.finc_kept (State.fset_kept h10))
    have h12 : State.Kept o x8 := (State.Kept.ite (State.Kept.foldl (State.fset_kept h11) (fun a15 s13 h14 => (by
    extract_lets -merge -useContext -underBinder x16
    exact (State.setHdr_kept h14)))) h11)
    have h17 : State.Kept o x9 := (State.scalDomainOn_kept (State.evt_kept (State.setTrans_kept h12)))
    exact (State.Kept.ite h (State.runQueued_kept (State.startHeld_kept (State.restartActivity_kept (State.breakExpired_kept h17)))))

theorem State.wake_kept (h : State.Kept o s) : State.Kept o (State.wake s a1 a2) := by
  unfold State.wake
  extract_lets -merge -useContext -underBinder x0 x1
  have h2 : State.Kept o x0 := (State.request_kept h)
  exact (State.Kept.ite h (State.Kept.ite h2 (State.setWord_kept h2)))

theorem State.signalDetect_kept (h : State.Kept o s) : State.Kept o (State.signalDetect s a1) := by
  unfold State.signalDetect
  extract_lets -merge -useContext -underBinder x0
  have h1 : State.Kept o x0 := (State.fset_kept h)
  exact (State.Kept.ite (State.wake_kept h1) h)

theorem State.wakeTimer_kept (h : State.Kept o s) : State.Kept o (State.wakeTimer s) := by
  unfold State.wakeTimer
  extract_lets -merge -useContext -underBinder x0 x1 x2 x3
  have h4 : State.Kept o x1 := (State.advanceTo_kept h)
  have h5 : State.Kept o x2 := (State.fset_kept h4)
  exact (State.Kept.ite (State.Kept.foldl h5 (fun a8 s6 h7 => (State.Kept.ite (State.wake_kept h7) h7))) h)

theorem State.markLost_kept (h : State.Kept o s) : State.Kept o (State.markLost s a1) := by
  unfold State.markLost
  extract_lets -merge -useContext -underBinder x0
  have h1 : State.Kept o x0 := (State.domainLost_kept (State.fset_kept (State.fset_kept h)))
  split
  · rename_i x2 x3
    exact h1
  · rename_i x4 x5 x6
    exact (State.setTrans_kept h1)

theorem State.brownout_kept (h : State.Kept o s) : State.Kept o (State.brownout s) := by
  unfold State.brownout
  extract_lets -merge -useContext -underBinder x0 x1 x2 x3
  have h4 : State.Kept o x0 := (State.lpLeave_kept (State.fset_kept h))
  have h5 : State.Kept o x2 := (State.Kept.foldl h4 (fun a8 s6 h7 => (State.markLost_kept h7)))
  have h9 : State.Kept o x3 := (State.fset64_kept (State.fset_kept (State.finc_kept h5)))
  exact (State.reportDrop_kept (State.evt_kept h9))

end Sys2Proof.Machine
end

