-- ==== Sys2Proof/Laws/Kept/Dly.lean ====
section
/-! SUPPORT. What every command keeps: one lemma for each function of Machine/Dly.lean that changes the state. -/

namespace Sys2Proof.Machine

variable {o : Origin} {s : State}

theorem State.dailyRecord_kept (h : State.Kept o s) : State.Kept o (State.dailyRecord s a1 a2 a3).2 := by
  unfold State.dailyRecord
  split
  · rename_i x0 x1 x2 x3
    have h4 : State.Kept o x2 := State.Kept.of_eq2 x3 (by
    split
    · rename_i x5 x6 x7
      exact (State.Kept.pr2 h)
    · rename_i x8 x9
      split
      · rename_i x10 x11 x12 x13
        have h14 : State.Kept o x12 := State.Kept.of_eq2 x13 (State.fresh_kept h)
        split
        · rename_i x15 x16 x17 x18
          have h19 : State.Kept o x17 := State.Kept.of_eq2 x18 (State.fresh_kept h14)
          exact (State.Kept.pr2 h19))
    split
    · rename_i x20 x21 x22 x23
      have h24 : State.Kept o x22 := State.Kept.of_eq2 x23 (State.roundFree_kept h4)
      extract_lets -merge -useContext -underBinder x25 x26 x27
      exact (State.Kept.pr2 h24)

theorem State.dailyForm_kept (h : State.Kept o s) : State.Kept o (State.dailyForm s a1 a2) := by
  unfold State.dailyForm
  extract_lets -merge -useContext -underBinder x0
  split
  · rename_i x1 x2 x3 x4
    have h5 : State.Kept o x3 := State.Kept.of_eq2 x4 (State.dailyRecord_kept h)
    extract_lets -merge -useContext -underBinder x6 x7 x8 x9 x10
    have h11 : State.Kept o x6 := (State.fset_kept h5)
    have h12 : State.Kept o x10 := (State.flashQueue_kept h11)
    exact (State.Kept.ite (State.reelPush_kept h12) h12)

theorem State.dailySkip_kept (h : State.Kept o s) : State.Kept o (State.dailySkip s) := by
  unfold State.dailySkip
  extract_lets -merge -useContext -underBinder x0
  exact (State.Kept.ite (State.evt_kept (State.finc_kept (State.jobDrop_kept h))) h)

theorem State.dailiesPeriod_kept (h : State.Kept o s) : State.Kept o (State.dailiesPeriod s) := by
  unfold State.dailiesPeriod
  extract_lets -merge -useContext -underBinder x0 x1
  have h2 : State.Kept o x0 := (State.advanceTo_kept h)
  exact (State.Kept.ite (State.dailyForm_kept (State.setFw_kept (State.dailySkip_kept h2))) h)

theorem State.dailyRead_kept (h : State.Kept o s) : State.Kept o (State.dailyRead s) := by
  unfold State.dailyRead
  split
  · rename_i x0 x1 x2 x3
    exact (State.Kept.ite (State.cmdFail_kept h) (State.Kept.ite (State.cmdFail_kept h) (State.cmdDone_kept (State.Kept.foldl h (fun a6 s4 h5 => (State.fset_kept h5))))))

theorem State.dailyStart_kept (h : State.Kept o s) : State.Kept o (s.dailyStart) := by
  unfold State.dailyStart
  extract_lets best t now u
  have ht : State.Kept o t := by
    unfold t
    clear_value best
    split
    · exact State.fset_kept (State.fset_kept h)
    · exact h
  exact State.Kept.ite (State.dailyForm_kept (State.setFw_kept ht)) (State.setFw_kept ht)

end Sys2Proof.Machine
end

