-- ==== Sys2Proof/Laws/Kept/Boot.lean ====
section
/-! SUPPORT. What every command keeps: one lemma for each function of Machine/Boot.lean that changes the state. -/

namespace Sys2Proof.Machine

variable {o : Origin} {s : State}

theorem State.Kept.canonical_empty : ({} : Pages).wf = true ∧ Memory.wf {} = true := by decide

/-- What no reset touches keeps what it must: the register file and the memories are empty, and every group is in START. -/
theorem State.cleared_kept (h : State.Kept o s) : State.Kept o (s.cleared) := by
  have hg (g) : (s.cleared.group g).state = .start ∧ (s.cleared.group g).swA = false ∧ (s.cleared.group g).swB = false := by
    show (SMap.read {} ((List.range 4).foldl (fun m g => SMap.write {} m g ({ fbOpen := (s.group g).fbOpen } : GroupSt)) []) g).state
      = .start ∧ _ ∧ _
    refine State.Kept.foldlP (fun m : SMap GroupSt => (SMap.read {} m g).state = .start ∧ (SMap.read {} m g).swA = false ∧
      (SMap.read {} m g).swB = false) ⟨rfl, rfl, rfl⟩ fun a m hm => ?_
    by_cases e : g = a
    · subst e; simp
    · rw [SMap.read_write_other _ _ _ e]; exact hm
  refine ⟨⟨State.Kept.canonical_empty.1, State.Kept.canonical_empty.2, rfl⟩, fun g hx => ?_, h.2.2.1, h.2.2.2.1, fun g => ?_⟩
  · simp [hg g] at hx
  · simp [hg g]

theorem State.sampleStraps_kept (h : State.Kept o s) : State.Kept o (State.sampleStraps s a1) := by
  unfold State.sampleStraps
  exact (State.fsetB_kept (State.fset_kept h))

theorem State.powerOnReset_kept (h : State.Kept o s) : State.Kept o (State.powerOnReset s a1) := by
  unfold State.powerOnReset
  exact (State.sampleStraps_kept (State.showKey_kept (State.showOtp_kept (State.cleared_kept h))))

theorem State.deviceReset_kept (h : State.Kept o s) : State.Kept o (State.deviceReset s a1 a2) := by
  unfold State.deviceReset
  extract_lets -merge -useContext -underBinder x0 x1 x2
  have h3 : State.Kept o x0 := (State.sampleStraps_kept (State.showKey_kept (State.showOtp_kept (State.cleared_kept h))))
  have h4 : State.Kept o x1 := (State.Kept.foldl h3 (fun a7 s5 h6 => (State.setSnapWord_kept (State.setWord_kept h6))))
  have h8 : State.Kept o x2 := (State.fset_kept h4)
  exact (State.finc_kept (State.fset_kept h8))

theorem State.nreset_kept (h : State.Kept o s) : State.Kept o (State.nreset s a1) := by
  unfold State.nreset
  exact (State.deviceReset_kept h)

theorem State.commandedReset_kept (h : State.Kept o s) : State.Kept o (State.commandedReset s a1) := by
  unfold State.commandedReset
  exact (State.deviceReset_kept h)

theorem State.powerDown_kept (h : State.Kept o s) : State.Kept o (State.powerDown s) := by
  unfold State.powerDown
  extract_lets -merge -useContext -underBinder x0
  have h1 : State.Kept o x0 := (State.cleared_kept h)
  exact (State.Kept.mk h1 rfl rfl rfl rfl rfl rfl)

theorem State.live_kept (h : State.Kept o s) (k1 : ∀ s, State.Kept o s → State.Kept o (a1 s)) : State.Kept o (State.live s a1) := by
  unfold State.live
  exact (State.Kept.ite (k1 _ h) h)

theorem State.setLoader_kept (h : State.Kept o s) : State.Kept o (State.setLoader s a1) := by
  unfold State.setLoader
  extract_lets -merge -useContext -underBinder x0
  exact (State.Kept.mk h rfl rfl rfl rfl rfl rfl)

theorem State.setRunning_kept (h : State.Kept o s) : State.Kept o (State.setRunning s a1 a2) := by
  unfold State.setRunning
  extract_lets -merge -useContext -underBinder x0 x1 x2
  have h3 : State.Kept o x2 := (State.Kept.ite (State.Kept.mk h rfl rfl rfl rfl rfl rfl) (State.Kept.mk h rfl rfl rfl rfl rfl rfl))
  exact (State.showVersion_kept (State.fsetB_kept h3))

theorem State.loadBank_kept (h : State.Kept o s) : State.Kept o (State.loadBank s a1 a2 a3) := by
  unfold State.loadBank
  exact (State.fset_kept (State.setRunSlot_kept (State.fset_kept (State.setBank_kept h))))

theorem State.loadOne_kept (h : State.Kept o s) : State.Kept o (State.loadOne s a1).1 := by
  unfold State.loadOne
  split
  · rename_i x0 x1
    exact (State.Kept.pr1 h)
  · rename_i x2 x3 x4 x5
    extract_lets -merge -useContext -underBinder x6 x7 x8
    split
    · rename_i x9 x10
      exact (State.Kept.pr1 (State.loadBank_kept h))
    · rename_i x11 x12 x13
      extract_lets -merge -useContext -underBinder x14 x15
      have h16 : State.Kept o x14 := (State.fset_kept h)
      split
      · rename_i x17 x18
        exact (State.Kept.pr1 (State.loadBank_kept (State.fset_kept h16)))
      · rename_i x19 x20 x21
        exact (State.Kept.pr1 h16)

theorem State.loaderStep2_kept (h : State.Kept o s) : State.Kept o (State.loaderStep2 s) := by
  unfold State.loaderStep2
  exact (State.setLoader_kept (State.advanceTo_kept (State.fset_kept h)))

theorem State.loaderStep3_kept (h : State.Kept o s) : State.Kept o (State.loaderStep3 s a1) := by
  unfold State.loaderStep3
  extract_lets -merge -useContext -underBinder x0 x1 x2 x3 x4 x5 x6
  have h7 : State.Kept o x0 := (State.advanceTo_kept h)
  have h8 : State.Kept o x1 := by
    unfold x1
    split
    · rename_i x9 x10 x11 x12
      extract_lets -merge -useContext -underBinder x13
      exact (State.showKey_kept (State.Kept.mk h7 rfl rfl rfl rfl rfl rfl))
    · rename_i x14 x15
      exact h7
  have h16 : State.Kept o x4 := (State.fsetB_kept (State.showOtp_kept (State.showDir_kept h8)))
  have h17 : State.Kept o x5 := (State.fset_kept h16)
  exact (State.Kept.ite (State.Kept.mk h17 rfl rfl rfl rfl rfl rfl) (State.setLoader_kept h16))

theorem State.started_kept (h : State.Kept o s) : State.Kept o (State.started s) := by
  unfold State.started
  extract_lets -merge -useContext -underBinder x0
  exact (State.dailyStart_kept (State.setFw_kept h))

theorem State.mgtReloaded_kept (h : State.Kept o s) : State.Kept o (s.mgtReloaded) := by
  unfold State.mgtReloaded
  have ht : State.Kept o { s with boot := { s.boot with loader := none, mgtOnly := false } } :=
    h.of_parts rfl rfl rfl rfl rfl rfl
  exact State.Kept.ite (State.fset_kept ht) (State.Kept.ite (State.dailyStart_kept (State.evt_kept (State.setRunning_kept ht))) ht)

theorem State.loaderStep4_kept (h : State.Kept o s) : State.Kept o (State.loaderStep4 s a1) := by
  unfold State.loaderStep4
  extract_lets -merge -useContext -underBinder x0 x1
  subst x0
  have h2 : State.Kept o x1 := (State.advanceTo_kept (State.loadOne_kept h))
  exact (State.Kept.ite (State.mgtReloaded_kept h2) (State.setLoader_kept h2))

theorem State.loaderStep5_kept (h : State.Kept o s) : State.Kept o (State.loaderStep5 s a1) := by
  unfold State.loaderStep5
  extract_lets -merge -useContext -underBinder x0 x1
  subst x0
  have h2 : State.Kept o x1 := (State.advanceTo_kept (State.loadOne_kept h))
  exact (State.setLoader_kept h2)

theorem State.loaderStep6_kept (h : State.Kept o s) : State.Kept o (State.loaderStep6 s a1) := by
  unfold State.loaderStep6
  extract_lets -merge -useContext -underBinder x0 x1 x2
  have h3 : State.Kept o x0 := (State.setLoader_kept (State.advanceTo_kept h))
  have h4 : State.Kept o x1 := (State.fset_kept h3)
  have h5 : State.Kept o x2 := (State.Kept.ite (State.started_kept (State.setRunning_kept h4)) h4)
  exact (State.Kept.ite (State.fset_kept h3) (State.Kept.ite (State.evalGroups_kept (State.setRunning_kept h5)) h5))

theorem State.loaderStep_kept (h : State.Kept o s) : State.Kept o (State.loaderStep s) := by
  unfold State.loaderStep
  split
  · rename_i x0 x1 x2
    exact (State.loaderStep2_kept h)
  · rename_i x3 x4 x5
    exact (State.loaderStep3_kept h)
  · rename_i x6 x7 x8
    exact (State.loaderStep4_kept h)
  · rename_i x9 x10 x11
    exact (State.loaderStep5_kept h)
  · rename_i x12 x13 x14
    exact (State.loaderStep6_kept h)
  · rename_i x15 x16 x17 x18 x19 x20
    exact h

theorem State.abandonMgt_kept (h : State.Kept o s) : State.Kept o (State.abandonMgt s) := by
  unfold State.abandonMgt
  extract_lets -merge -useContext -underBinder x0
  have h1 : State.Kept o x0 := by
    unfold x0
    split
    · rename_i x2 x3 x4
      extract_lets -merge -useContext -underBinder x5
      exact (State.Kept.ite (State.fset_kept (State.Kept.mk h rfl rfl rfl rfl rfl rfl)) h)
    · rename_i x6 x7
      exact h
  split
  · rename_i x8 x9 x10
    exact (State.Kept.ite (State.abandonCmd_kept h1) h1)
  · rename_i x11 x12
    exact h1

theorem State.mgtRestart_kept (h : State.Kept o s) : State.Kept o (State.mgtRestart s a1) := by
  unfold State.mgtRestart
  extract_lets -merge -useContext -underBinder x0 x1 x2 x3
  have h4 : State.Kept o x0 := (State.abandonMgt_kept h)
  have h5 : State.Kept o x1 := (State.domainLost_kept (State.breakLocksOf_kept h4))
  have h6 : State.Kept o x2 := (State.finc_kept (State.fset_kept h5))
  exact (State.Kept.mk h6 rfl rfl rfl rfl rfl rfl)

theorem State.mgtHalt_kept (h : State.Kept o s) : State.Kept o (State.mgtHalt s a1) := by
  unfold State.mgtHalt
  extract_lets -merge -useContext -underBinder x0 x1
  have h2 : State.Kept o x0 := (State.report_kept h)
  have h3 : State.Kept o x1 := (State.setRunning_kept h2)
  exact (State.Kept.ite h (State.Kept.ite (State.revert_kept h2) (State.Kept.ite (State.mgtRestart_kept h3) h3)))

theorem State.setBenchWords_kept (h : State.Kept o s) : State.Kept o (State.setBenchWords s a1 a2) := by
  unfold State.setBenchWords
  extract_lets -merge -useContext -underBinder x0 x1 x2
  have h3 : State.Kept o x2 := (State.Kept.ite (State.Kept.mk h rfl rfl rfl rfl rfl rfl) (State.Kept.ite (State.Kept.mk h rfl rfl rfl rfl rfl rfl) h))
  exact (State.fset_kept h3)

theorem State.benchData_kept (h : State.Kept o s) : State.Kept o (State.benchData s a1) := by
  unfold State.benchData
  extract_lets -merge -useContext -underBinder x0 x1
  exact (State.Kept.ite (State.setBenchWords_kept h) h)

theorem State.benchStart_kept (h : State.Kept o s) : State.Kept o (State.benchStart s) := by
  unfold State.benchStart
  extract_lets -merge -useContext -underBinder x0 x1 x2 x3 x4
  have h5 : State.Kept o x0 := (State.fset_kept h)
  have h6 : State.Kept o x1 := (State.Kept.ite (State.started_kept (State.setRunning_kept h5)) h5)
  have h7 : State.Kept o x4 := (State.setBenchWords_kept h)
  exact (State.Kept.ite (State.Kept.ite (State.evalGroups_kept (State.setRunning_kept h6)) h6) (State.Kept.ite (by
    split
    · rename_i x8 x9 x10
      exact (State.fset_kept h7)
    · rename_i x11 x12
      extract_lets -merge -useContext -underBinder x13 x14
      have h15 : State.Kept o x13 := (State.setRunning_kept (State.loadBank_kept h7))
      have h16 : State.Kept o x14 := (State.Kept.ite (State.started_kept h15) (State.evalGroups_kept h15))
      exact (State.Kept.ite (State.fset_kept h16) h16)) h))

end Sys2Proof.Machine
end

