-- ==== Sys2Proof/Laws/Kept/Commit.lean ====
section
/-! SUPPORT. What every command keeps: one lemma for each function of Machine/Commit.lean that changes the state. -/

namespace Sys2Proof.Machine

variable {o : Origin} {s : State}

theorem State.refuseCommit_kept (h : State.Kept o s) : State.Kept o (State.refuseCommit s a1 a2 a3) := by
  unfold State.refuseCommit
  split
  · rename_i x0 x1
    exact h
  · rename_i x2 x3 x4
    extract_lets -merge -useContext -underBinder x5 x6
    have h7 : State.Kept o x5 := (State.Kept.ite (by
    split
    · rename_i x8 x9 x10 x11 x12
      exact (State.fset_kept (State.fset_kept h))
    · rename_i x13 x14
      exact h) h)
    exact (State.Kept.ite h (State.evt_kept (State.setHdr_kept h7)))

theorem State.tellCommit_kept (h : State.Kept o s) : State.Kept o (State.tellCommit s a1 a2 a3) := by
  unfold State.tellCommit
  exact (State.mirrorActive_kept h)

theorem State.captureCommit_kept (h : State.Kept o s) : State.Kept o (State.captureCommit s a1 a2 a3) := by
  unfold State.captureCommit
  extract_lets -merge -useContext -underBinder x0 x1 x2 x3
  have h4 : State.Kept o x0 := (State.capture_kept h)
  have h5 : State.Kept o x2 := (State.Kept.ite (State.tellCommit_kept h4) h4)
  exact (State.setHdr_kept h5)

theorem State.reelApplied_kept (h : State.Kept o s) : State.Kept o (State.reelApplied s a1 a2) := by
  unfold State.reelApplied
  exact (State.Kept.ite (State.reelEmpty_kept h) h)

theorem State.fieldApplied_kept (h : State.Kept o s) : State.Kept o (State.fieldApplied s) := by
  unfold State.fieldApplied
  exact (State.fset_kept (State.fset_kept h))

theorem State.pairApplied_kept (h : State.Kept o s) : State.Kept o (State.pairApplied s a1) := by
  unfold State.pairApplied
  extract_lets -merge -useContext -underBinder x0 x1
  have h2 : State.Kept o x0 := (State.roleApplied_kept h)
  exact (State.Kept.ite (State.writeKeys_kept h2) h2)

theorem State.messageApplied_kept (h : State.Kept o s) : State.Kept o (State.messageApplied s) := by
  unfold State.messageApplied
  split
  · rename_i x0 x1
    exact h
  · rename_i x2 x3 x4
    extract_lets -merge -useContext -underBinder x5 x6 x7
    subst x5
    have h8 : State.Kept o x6 := (State.Kept.mk_safe h rfl rfl rfl rfl rfl rfl)
    have h9 : State.Kept o x7 := (State.fset_kept (State.fset_kept h8))
    exact (State.evt_kept (State.fset_kept (State.fset_kept h9)))

theorem State.pageApplied_kept (h : State.Kept o s) : State.Kept o (State.pageApplied s a1 a2) := by
  unfold State.pageApplied
  split
  · rename_i x0 x1 x2
    exact (State.fieldApplied_kept h)
  · rename_i x3 x4 x5
    exact (State.timeApplied_kept h)
  · rename_i x6 x7 x8
    exact (State.scalApplied_kept h)
  · rename_i x9 x10 x11
    exact (State.safApplied_kept h)
  · rename_i x12 x13 x14
    exact (State.safApplied_kept h)
  · rename_i x15 x16 x17
    exact (State.pairApplied_kept h)
  · rename_i x18 x19 x20
    exact (State.memApplied_kept h)
  · rename_i x21 x22 x23
    exact (State.lyrApplied_kept h)
  · rename_i x24 x25 x26
    exact (State.commitInWindow_kept (State.messageApplied_kept h))
  · rename_i x27 x28 x29
    exact (State.commitInWindow_kept (State.matteApplied_kept h))
  · rename_i x30 x31 x32
    exact (State.cadApplied_kept h)
  · rename_i x33 x34 x35
    exact (State.gafApplied_kept h)
  · rename_i x36 x37 x38
    exact (State.diagApplied_kept h)
  · rename_i x39 x40 x41
    exact (State.reelApplied_kept h)
  · rename_i x42 x43 x44
    exact (State.linkApplied_kept h)
  · rename_i x45 x46 x47
    exact (State.dudApplied_kept h)
  · rename_i x48 x49 x50 x51 x52 x53 x54 x55 x56 x57 x58 x59 x60 x61 x62 x63 x64
    exact h

theorem State.blocksApplied_kept (h : State.Kept o s) : State.Kept o (State.blocksApplied s a1 a2) := by
  unfold State.blocksApplied
  extract_lets -merge -useContext -underBinder x0 x1 x2
  have h3 : State.Kept o x0 := (State.Kept.foldl h (fun a6 s4 h5 => (State.pageApplied_kept h5)))
  have h7 : State.Kept o x1 := (State.Kept.foldl h3 (fun a10 s8 h9 => (State.lanesApplied_kept h9)))
  exact (State.Kept.ite (State.Kept.mk h7 rfl rfl rfl rfl rfl rfl) h7)

theorem State.mergePage_kept (h : State.Kept o s) : State.Kept o (s.mergePage p) :=
  State.Kept.ite (State.mergeCapture_kept (State.Kept.foldl h fun _ _ h => h.of_captured)) (State.mergeCapture_kept h)

theorem State.applyPages_kept (h : State.Kept o s) : State.Kept o (State.applyPages s a1) := by
  unfold State.applyPages
  extract_lets -merge -useContext -underBinder x0 x1 x2
  have h3 : State.Kept o x0 := h
  have h4 : State.Kept o x1 := (State.Kept.foldl h (fun a7 s5 h6 => (by
    extract_lets -merge -useContext -underBinder x8
    have h9 : State.Kept o x8 := (State.mergePage_kept h6)
    exact (State.setHdr_kept h9))))
  have h10 : State.Kept o x2 := (State.Kept.foldl h4 (fun a13 s11 h12 => (State.evt_kept h12)))
  exact (State.blocksApplied_kept h10)

theorem State.tellOutcome_kept (h : State.Kept o s) : State.Kept o (State.tellOutcome s a1 a2 a3) := by
  unfold State.tellOutcome
  exact (State.Kept.ite (State.mirrorActive_kept h) h)

theorem State.applyAtBoundary_kept (h : State.Kept o s) : State.Kept o (State.applyAtBoundary s a1) := by
  unfold State.applyAtBoundary
  extract_lets -merge -useContext -underBinder x0 x1
  have h2 : State.Kept o x1 := (State.applyPages_kept h)
  exact (State.Kept.foldl h2 (fun a5 s3 h4 => (State.tellOutcome_kept h4)))

theorem State.deferCommit_kept (h : State.Kept o s) : State.Kept o (State.deferCommit s a1) := by
  unfold State.deferCommit
  split
  · rename_i x0 x1
    exact h
  · rename_i x2 x3 x4
    extract_lets -merge -useContext -underBinder x5 x6 x7
    have h8 : State.Kept o x6 := (State.setHdr_kept h)
    have h9 : State.Kept o x7 := (State.Kept.ite (State.evt_kept (State.finc_kept h8)) h8)
    exact (State.tellOutcome_kept h9)

theorem State.abandonCommit_kept (h : State.Kept o s) : State.Kept o (State.abandonCommit s a1 a2) := by
  unfold State.abandonCommit
  split
  · rename_i x0 x1
    exact h
  · rename_i x2 x3 x4
    extract_lets -merge -useContext -underBinder x5 x6 x7 x8
    have h9 : State.Kept o x6 := (State.setHdr_kept (State.dropCapture_kept h))
    have h10 : State.Kept o x7 := (State.evt_kept h9)
    have h11 : State.Kept o x8 := (State.Kept.ite (State.evt_kept (State.finc_kept h10)) h10)
    exact (State.tellOutcome_kept h11)

theorem State.lateCommit_kept (h : State.Kept o s) : State.Kept o (State.lateCommit s a1) := by
  unfold State.lateCommit
  split
  · rename_i x0 x1
    exact h
  · rename_i x2 x3 x4
    exact (State.Kept.ite (State.deferCommit_kept h) (State.abandonCommit_kept h))

theorem State.acceptCommit_kept (h : State.Kept o s) : State.Kept o (State.acceptCommit s a1 a2) := by
  unfold State.acceptCommit
  extract_lets -merge -useContext -underBinder x0
  have h1 : State.Kept o x0 := (State.captureCommit_kept h)
  exact (State.Kept.ite (State.applyPages_kept h1) h1)

theorem State.commitGo_kept (h : State.Kept o s) : State.Kept o (State.commitGo s a1 a2 a3) := by
  unfold State.commitGo
  split
  · rename_i x0 x1 x2
    exact (State.refuseCommit_kept h)
  · rename_i x3 x4
    exact (State.acceptCommit_kept h)

theorem State.setGroupFail_kept (h : State.Kept o s) : State.Kept o (State.setGroupFail s a1) := by
  unfold State.setGroupFail
  exact (State.Kept.foldl h (fun a2 s0 h1 => (State.fset_kept h1)))

theorem State.groupApplied_kept (h : State.Kept o s) : State.Kept o (s.groupApplied) :=
  State.fwrap_kept (State.fset_kept h.of_group)

theorem State.groupGo_kept (h : State.Kept o s) : State.Kept o (s.groupGo m b) := by
  unfold State.groupGo
  refine State.Kept.ite (State.fset_kept h) ?_
  extract_lets ps fails t u
  have ht : State.Kept o t := State.Kept.foldl (State.setGroupFail_kept h) fun _ _ h => State.captureCommit_kept h
  refine State.Kept.ite (State.Kept.ite (State.groupApplied_kept (State.applyPages_kept ht)) (State.fset_kept ht.of_group)) ?_
  exact State.fset_kept (State.fset_kept (State.setGroupFail_kept (State.Kept.foldl h fun _ _ h => State.refuseCommit_kept h)))

theorem State.lateGroup_kept (h : State.Kept o s) : State.Kept o (s.lateGroup g) := by
  unfold State.lateGroup
  extract_lets limits limit t src own u v
  refine State.Kept.ite (State.fset_kept (State.Kept.foldl h fun _ _ h => State.deferCommit_kept h).of_group) ?_
  have hu : State.Kept o u := State.Kept.foldl h fun _ _ h => State.abandonCommit_kept h
  exact State.fset_kept (State.fset_kept (State.setGroupFail_kept hu.of_group))

theorem State.boundaryCommits_kept (h : State.Kept o s) : State.Kept o (State.boundaryCommits s a1) := by
  unfold State.boundaryCommits
  extract_lets -merge -useContext -underBinder x0 x1 x2
  split
  · rename_i x3 x4 x5
    exact (State.Kept.ite (State.Kept.ite (State.Kept.foldl (State.groupApplied_kept (State.applyAtBoundary_kept h)) (fun a8 s6 h7 => (State.lateCommit_kept h7))) (State.lateGroup_kept (State.Kept.foldl (State.applyAtBoundary_kept h) (fun a11 s9 h10 => (State.lateCommit_kept h10))))) (State.Kept.foldl (State.applyAtBoundary_kept h) (fun a14 s12 h13 => (State.lateCommit_kept h13))))
  · rename_i x15 x16
    exact (State.Kept.foldl (State.applyAtBoundary_kept h) (fun a19 s17 h18 => (State.lateCommit_kept h18)))

theorem State.messageCommit_kept (h : State.Kept o s) : State.Kept o (State.messageCommit s a1) := by
  unfold State.messageCommit
  extract_lets -merge -useContext -underBinder x0 x1 x2 x3 x4 x5
  have h6 : State.Kept o x2 := (State.setShadow_kept (State.setShadow_kept h))
  have h7 : State.Kept o x3 := (State.setShadow_kept (State.setShadow_kept h6))
  have h8 : State.Kept o x4 := (State.setShadow_kept h7)
  have h9 : State.Kept o x5 := (State.setShadow_kept (State.setShadow_kept (State.setShadow_kept h8)))
  split
  · rename_i x10 x11
    extract_lets -merge -useContext -underBinder x12 x13
    have h14 : State.Kept o x12 := (State.captureCommit_kept h9)
    subst x13
    exact (State.Kept.mk_safe h14 rfl rfl rfl rfl rfl rfl)
  · rename_i x15 x16 x17
    extract_lets -merge -useContext -underBinder x18 x19
    have h20 : State.Kept o x18 := (State.refuseCommit_kept h9)
    subst x19
    exact (State.evt_kept (State.sendStatus_kept (State.Kept.mk_safe h20 rfl rfl rfl rfl rfl rfl)))

theorem State.message_kept (h : State.Kept o s) : State.Kept o (State.message s a1) := by
  unfold State.message
  extract_lets -merge -useContext -underBinder x0
  subst x0
  exact (State.Kept.ite (State.Kept.mk_safe h rfl rfl rfl rfl rfl rfl) (State.messageCommit_kept h))

theorem State.messageWaiting_kept (h : State.Kept o s) : State.Kept o (State.messageWaiting s) := by
  unfold State.messageWaiting
  split
  · rename_i x0 x1 x2
    extract_lets -merge -useContext -underBinder x3
    subst x3
    exact (State.Kept.ite h (State.messageCommit_kept (State.Kept.mk_safe h rfl rfl rfl rfl rfl rfl)))
  · rename_i x4 x5
    exact h

theorem State.leaseExpiry_kept (h : State.Kept o s) : State.Kept o (State.leaseExpiry s a1) := by
  unfold State.leaseExpiry
  extract_lets -merge -useContext -underBinder x0 x1
  have h2 : State.Kept o x1 := (State.advanceTo_kept h)
  exact (State.Kept.ite (State.Kept.ite (State.breakLock_kept h2) h2) h)

theorem State.discardShadow_kept (h : State.Kept o s) : State.Kept o (State.discardShadow s a1) := by
  unfold State.discardShadow
  extract_lets -merge -useContext -underBinder x0 x1
  have h2 : State.Kept o x0 := (State.reloadShadows_kept h)
  exact (State.setHdr_kept h2)

theorem State.snapshot_kept (h : State.Kept o s) : State.Kept o (State.snapshot s a1) := by
  unfold State.snapshot
  extract_lets -merge -useContext -underBinder x0 x1 x2
  have h3 : State.Kept o x0 := by
    unfold x0
    split
    · rename_i x4 x5 x6
      exact (State.prbsCatch_kept h)
    · rename_i x7 x8
      exact h
  have h9 : State.Kept o x1 := (State.copyCounters_kept h3)
  exact (State.setHdr_kept h9)

theorem State.snapshotDone_kept (h : State.Kept o s) : State.Kept o (State.snapshotDone s a1) := by
  unfold State.snapshotDone
  exact (State.Kept.ite (State.snapshot_kept h) h)

theorem State.groupSnapshot_kept (h : State.Kept o s) : State.Kept o (State.groupSnapshot s) := by
  unfold State.groupSnapshot
  extract_lets -merge -useContext -underBinder x0 x1
  exact (State.Kept.foldl (State.setGroupFail_kept h) (fun a4 s2 h3 => (State.snapshot_kept h3)))

end Sys2Proof.Machine
end

