-- ==== Sys2Proof/Laws/Kept/Pair.lean ====
section
/-! SUPPORT. What every command keeps: one lemma for each function of Machine/Pair.lean that changes the state. -/

namespace Sys2Proof.Machine

variable {o : Origin} {s : State}

theorem State.settle_kept (h : State.Kept o s) : State.Kept o (State.settle s) := by
  unfold State.settle
  exact (State.flushMirror_kept (State.readyCheck_kept (State.link4Lost_kept h)))

theorem State.mirrorRx_kept (h : State.Kept o s) (k2 : ∀ s, State.Kept o s → State.Kept o (a2 s)) : State.Kept o (State.mirrorRx s a1 a2) := by
  unfold State.mirrorRx
  extract_lets -merge -useContext -underBinder x0 x1
  have h2 : State.Kept o x1 := (State.fset_kept h)
  exact (State.Kept.ite (k2 _ (State.Kept.ite (State.clearReady_kept h2) h2)) h)

theorem State.setMirrorPend_kept (h : State.Kept o s) : State.Kept o (State.setMirrorPend s a1 a2) := by
  unfold State.setMirrorPend
  exact (State.setPair_kept h)

theorem State.withEntries_kept (h : State.Kept o s) : State.Kept o (State.withEntries s a1 a2) := by
  unfold State.withEntries
  extract_lets -merge -useContext -underBinder x0 x1 x2
  have h3 : State.Kept o x0 := (State.reloadShadows_kept h)
  have h4 : State.Kept o x1 := (State.Kept.foldl h3 (fun a7 s5 h6 => (by
    extract_lets -merge -useContext -underBinder x8
    exact (State.Kept.ite h6 (State.setShadow_kept h6)))))
  exact (State.setHdr_kept h4)

theorem State.putEntries_kept (h : State.Kept o s) : State.Kept o (State.putEntries s a1 a2) := by
  unfold State.putEntries
  exact (State.Kept.foldl h (fun a2 s0 h1 => (by
    extract_lets -merge -useContext -underBinder x3 x4 x5
    exact (State.Kept.ite h1 (State.setShadow_kept (State.setWord_kept h1))))))

theorem State.mirrorApply_kept (h : State.Kept o s) : State.Kept o (State.mirrorApply s a1 a2) := by
  unfold State.mirrorApply
  extract_lets -merge -useContext -underBinder x0 x1 x2 x3 x4 x5
  have h6 : State.Kept o x0 := h
  have h7 : State.Kept o x2 := (State.putEntries_kept h)
  have h8 : State.Kept o x3 := (State.evt_kept (State.setHdr_kept h7))
  have h9 : State.Kept o x4 := (State.blocksApplied_kept h8)
  exact (State.Kept.ite h9 (State.clearReady_kept h9))

theorem State.mirrorCommitRx_kept (h : State.Kept o s) : State.Kept o (State.mirrorCommitRx s a1 a2) := by
  unfold State.mirrorCommitRx
  extract_lets -merge -useContext -underBinder x0 x1
  exact (State.Kept.ite h (State.Kept.ite (State.clearReady_kept (State.refuseCommit_kept h)) (State.Kept.ite (State.setHdr_kept (State.setMirrorPend_kept h)) (by
    split
    · rename_i x2 x3 x4
      try unfold x0
      exact (State.clearReady_kept (State.refuseCommit_kept h))
    · rename_i x5 x6
      extract_lets -merge -useContext -underBinder x7
      exact (State.Kept.ite (State.mirrorApply_kept h) (State.setHdr_kept (State.setMirrorPend_kept h)))))))

theorem State.mirrorAbandon_kept (h : State.Kept o s) : State.Kept o (State.mirrorAbandon s a1) := by
  unfold State.mirrorAbandon
  extract_lets -merge -useContext -underBinder x0 x1 x2
  have h3 : State.Kept o x1 := (State.setHdr_kept (State.setMirrorPend_kept h))
  have h4 : State.Kept o x2 := (State.evt_kept h3)
  exact (State.Kept.ite (State.evt_kept (State.finc_kept h4)) h4)

theorem State.mirrorDefer_kept (h : State.Kept o s) : State.Kept o (State.mirrorDefer s a1 a2) := by
  unfold State.mirrorDefer
  extract_lets -merge -useContext -underBinder x0 x1
  have h2 : State.Kept o x1 := (State.setHdr_kept (State.setMirrorPend_kept h))
  exact (State.Kept.ite (State.evt_kept (State.finc_kept h2)) h2)

theorem State.outcomeRx_kept (h : State.Kept o s) : State.Kept o (State.outcomeRx s a1 a2) := by
  unfold State.outcomeRx
  exact (State.Kept.ite h (by
    split
    · rename_i x0 x1
      exact (State.clearReady_kept h)
    · rename_i x2 x3 x4
      exact (State.Kept.ite (by
    split
    · rename_i x5 x6
      exact (State.mirrorApply_kept (State.setMirrorPend_kept h))
    · rename_i x7 x8 x9
      exact (State.clearReady_kept (State.mirrorAbandon_kept h))) (State.Kept.ite (State.mirrorDefer_kept h) (State.mirrorAbandon_kept h)))))

theorem State.mirrorBoundary_kept (h : State.Kept o s) : State.Kept o (State.mirrorBoundary s a1) := by
  unfold State.mirrorBoundary
  extract_lets -merge -useContext -underBinder x0
  exact (State.setPair_kept h)

theorem State.outcomeExpiry_kept (h : State.Kept o s) : State.Kept o (State.outcomeExpiry s a1) := by
  unfold State.outcomeExpiry
  split
  · rename_i x0 x1 x2
    split
    · rename_i x3 x4 x5
      exact (State.clearReady_kept (State.mirrorAbandon_kept (State.advanceTo_kept h)))
    · rename_i x6 x7
      exact h
  · rename_i x8 x9
    exact h

theorem State.mirrorBlockRx_kept (h : State.Kept o s) : State.Kept o (State.mirrorBlockRx s a1 a2 a3 a4) := by
  unfold State.mirrorBlockRx
  exact (State.Kept.ite (State.admitWrite_kept h) h)

theorem State.mirrorRebuildRx_kept (h : State.Kept o s) : State.Kept o (State.mirrorRebuildRx s a1 a2 a3 a4) := by
  unfold State.mirrorRebuildRx
  exact (State.Kept.ite h (State.Kept.ite (State.clearReady_kept h) (State.setPair_kept h)))

theorem State.mirrorRebuildBoundary_kept (h : State.Kept o s) : State.Kept o (State.mirrorRebuildBoundary s a1) := by
  unfold State.mirrorRebuildBoundary
  split
  · rename_i x0 x1 x2 x3 x4 x5
    extract_lets -merge -useContext -underBinder x6 x7
    have h8 : State.Kept o x6 := (State.setPair_kept h)
    have h9 : State.Kept o x7 := (State.Kept.foldl h8 (fun a12 s10 h11 => (State.Kept.ite (State.setCeiling_kept h11) h11)))
    exact (State.Kept.ite h (State.effSwitch_kept (State.fset_kept h9)))
  · rename_i x13 x14
    exact h

theorem State.mirrorListRx_kept (h : State.Kept o s) : State.Kept o (State.mirrorListRx s a1 a2 a3 a4) := by
  unfold State.mirrorListRx
  extract_lets -merge -useContext -underBinder x0 x1
  exact (State.Kept.ite h (State.Kept.ite (State.clearReady_kept h) (State.Kept.mk h rfl rfl rfl rfl rfl rfl)))

theorem State.splitRx_kept (h : State.Kept o s) : State.Kept o (State.splitRx s a1 a2 a3 a4) := by
  unfold State.splitRx
  extract_lets -merge -useContext -underBinder x0
  exact (State.Kept.ite h (State.Kept.ite (State.setDud_kept h) (State.Kept.ite (State.claimStart_kept h) h)))

theorem State.diagRespRx_kept (h : State.Kept o s) : State.Kept o (State.diagRespRx s a1 a2 a3 a4) := by
  unfold State.diagRespRx
  exact (State.Kept.ite (State.diagTake_kept h) h)

theorem State.takeCause_kept (h : State.Kept o s) : State.Kept o (State.takeCause s a1) := by
  unfold State.takeCause
  exact (State.Kept.ite h (State.Kept.ite (State.evt_kept h) (State.Kept.ite h (State.setPair_kept h))))

theorem State.yieldRx_kept (h : State.Kept o s) : State.Kept o (State.yieldRx s a1) := by
  unfold State.yieldRx
  exact (State.takeCause_kept h)

theorem State.takenRx_kept (h : State.Kept o s) : State.Kept o (State.takenRx s) := by
  unfold State.takenRx
  exact (State.demote_kept h)

theorem State.heartbeatMiss_kept (h : State.Kept o s) : State.Kept o (State.heartbeatMiss s) := by
  unfold State.heartbeatMiss
  split
  · rename_i x0 x1
    exact h
  · rename_i x2 x3 x4
    extract_lets -merge -useContext -underBinder x5 x6 x7
    have h8 : State.Kept o x5 := (State.advanceTo_kept h)
    have h9 : State.Kept o x6 := (State.setPair_kept h8)
    have h10 : State.Kept o x7 := (State.evt_kept (State.finc_kept h9))
    exact (State.Kept.ite (State.Kept.ite (State.takeCause_kept h10) (State.clearReady_kept h10)) h10)

theorem State.adoptCommits_kept (h : State.Kept o s) : State.Kept o (s.adoptCommits) := by
  unfold State.adoptCommits
  extract_lets own mine t
  have ht : State.Kept o t := State.Kept.foldl h fun _ _ h =>
    State.setMirrorPend_kept (State.setHdr_kept (State.capture_kept (State.withEntries_kept h)))
  split
  · exact ht
  · exact State.Kept.ite ht ht.of_group

theorem State.adoptedBoundary_kept (h : State.Kept o s) : State.Kept o (State.adoptedBoundary s a1) := by
  unfold State.adoptedBoundary
  exact (State.Kept.ite (State.Kept.foldl h (fun a2 s0 h1 => (State.Kept.ite (State.mirrorApply_kept (State.setMirrorPend_kept h1)) h1))) h)

theorem State.takeover_kept (h : State.Kept o s) : State.Kept o (State.takeover s a1) := by
  unfold State.takeover
  split
  · rename_i x0 x1
    exact h
  · rename_i x2 x3 x4
    extract_lets -merge -useContext -underBinder x5 x6 x7 x8 x9 x10 x11 x12 x13
    have h14 : State.Kept o x5 := (State.setPair_kept h)
    have h15 : State.Kept o x7 := (State.adoptCommits_kept (State.pairUnlock_kept h14))
    have h16 : State.Kept o x8 := (State.setPair_kept h15)
    have h17 : State.Kept o x9 := (State.fset_kept h16)
    have h18 : State.Kept o x10 := (State.Kept.foldl h17 (fun a21 s19 h20 => (State.Kept.ite (State.startPhase_kept (State.fset_kept h20)) (State.fset_kept h20))))
    have h22 : State.Kept o x11 := (State.Kept.foldl h18 (fun a25 s23 h24 => (State.Kept.ite h24 (State.startPhase_kept h24))))
    have h26 : State.Kept o x12 := (State.mirror_kept (State.setPairState_kept h22))
    have h27 : State.Kept o x13 := (State.fset_kept (State.fset_kept (State.fset_kept h26)))
    exact (State.Kept.ite h (State.Kept.ite h14 (State.evt_kept (State.finc_kept h27))))

theorem State.enterShadow_kept (h : State.Kept o s) : State.Kept o (State.enterShadow s) := by
  unfold State.enterShadow
  extract_lets -merge -useContext -underBinder x0 x1 x2
  have h3 : State.Kept o x0 := (State.Kept.foldl h (fun a6 s4 h5 => (State.disown_kept h5)))
  have h7 : State.Kept o x2 := (State.Kept.mk h3 rfl rfl rfl rfl rfl rfl)
  exact (State.pairLock_kept (State.setPairState_kept (State.fset_kept h7)))

theorem State.switchoverSlot_kept (h : State.Kept o s) : State.Kept o (State.switchoverSlot s) := by
  unfold State.switchoverSlot
  split
  · rename_i x0 x1
    exact h
  · rename_i x2 x3 x4
    exact (State.Kept.ite (State.cmdDone_kept (State.setPair_kept h)) (State.Kept.ite (State.cmdDone_kept (State.setPair_kept (State.enterShadow_kept h))) (State.Kept.ite (State.mirror_kept (State.setPair_kept h)) h)))

theorem State.pairSlot_kept (h : State.Kept o s) : State.Kept o (State.pairSlot s a1) := by
  unfold State.pairSlot
  extract_lets -merge -useContext -underBinder x0 x1 x2
  have h3 : State.Kept o x0 := by
    unfold x0
    split
    · rename_i x4 x5 x6
      exact (State.Kept.ite (State.heartbeatMiss_kept h) h)
    · rename_i x7 x8
      exact h
  have h9 : State.Kept o x1 := (State.heartbeat_kept (State.switchoverSlot_kept (State.takeover_kept h3)))
  exact (State.Kept.ite h9 (State.setPair_kept h9))

theorem State.resyncStart_kept (h : State.Kept o s) : State.Kept o (State.resyncStart s) := by
  unfold State.resyncStart
  extract_lets -merge -useContext -underBinder x0 x1 x2 x3 x4
  have h5 : State.Kept o x0 := (State.mirror_kept (State.fset_kept (State.fset_kept h)))
  have h6 : State.Kept o x1 := (State.Kept.foldl h5 (fun a9 s7 h8 => (State.mirror_kept h8)))
  have h10 : State.Kept o x3 := (State.Kept.ite (State.mirror_kept h6) h6)
  have h11 : State.Kept o x4 := (State.Kept.foldl h10 (fun a14 s12 h13 => (State.mirror_kept h13)))
  exact (State.setPair_kept h11)

theorem State.resyncCopyDone_kept (h : State.Kept o s) : State.Kept o (State.resyncCopyDone s) := by
  unfold State.resyncCopyDone
  extract_lets -merge -useContext -underBinder x0 x1 x2
  have h3 : State.Kept o x1 := (State.Kept.foldl h (fun a6 s4 h5 => (State.Kept.foldl h5 (fun a9 s7 h8 => (by
    extract_lets -merge -useContext -underBinder x10
    exact (State.mirror_kept h8))))))
  have h11 : State.Kept o x2 := (State.mirror_kept (State.fset_kept (State.fset_kept h3)))
  exact (State.Kept.ite h (State.evt_kept (State.finc_kept h11)))

theorem State.resyncRx_kept (h : State.Kept o s) : State.Kept o (State.resyncRx s a1) := by
  unfold State.resyncRx
  extract_lets -merge -useContext -underBinder x0 x1 x2
  have h3 : State.Kept o x1 := (State.setPair_kept h)
  have h4 : State.Kept o x2 := (State.pairLock_kept (State.setPairState_kept (State.fset_kept h3)))
  exact (State.Kept.ite h (State.Kept.ite (State.Kept.ite (State.setPair_kept h) h) (State.Kept.ite (State.Kept.foldl h4 (fun a7 s5 h6 => (State.queryStart_kept h6))) h4)))

theorem State.resyncProgress_kept (h : State.Kept o s) : State.Kept o (State.resyncProgress s a1) := by
  unfold State.resyncProgress
  split
  · rename_i x0 x1
    exact h
  · rename_i x2 x3 x4
    extract_lets -merge -useContext -underBinder x5
    have h6 : State.Kept o x5 := (State.setPair_kept h)
    exact (State.Kept.ite h (State.Kept.ite (State.setPair_kept h) (State.Kept.ite (State.setPair_kept h) (State.fset_kept (State.fset_kept (State.setPairState_kept h6))))))

theorem State.resyncByHeartbeat_kept (h : State.Kept o s) : State.Kept o (State.resyncByHeartbeat s a1) := by
  unfold State.resyncByHeartbeat
  exact (State.Kept.ite h (State.Kept.ite (State.Kept.ite (State.resyncStart_kept h) (State.setPair_kept h)) (State.Kept.ite (State.resyncStart_kept h) h)))

theorem State.heartbeatRx_kept (h : State.Kept o s) : State.Kept o (State.heartbeatRx s a1) := by
  unfold State.heartbeatRx
  extract_lets -merge -useContext -underBinder x0 x1 x2 x3 x4 x5
  have h6 : State.Kept o x0 := (State.setPair_kept h)
  have h7 : State.Kept o x1 := (State.showOffset_kept (State.fset_kept h6))
  have h8 : State.Kept o x3 := (State.Kept.ite (State.clearReady_kept h7) h7)
  have h9 : State.Kept o x4 := (State.resyncByHeartbeat_kept (State.resyncProgress_kept (State.readyCheck_kept h8)))
  have h10 : State.Kept o x5 := (State.Kept.ite (State.evt_kept h9) h9)
  exact (State.Kept.ite h (State.resolveLinking_kept h10))

theorem State.verifyErr_kept (h : State.Kept o s) : State.Kept o (State.verifyErr s) := by
  unfold State.verifyErr
  exact (State.evt_kept (State.finc_kept h))

theorem State.tailPacket_kept (h : State.Kept o s) : State.Kept o (State.tailPacket s a1 a2 a3) := by
  unfold State.tailPacket
  extract_lets -merge -useContext -underBinder x0 x1 x2 x3 x4
  have h5 : State.Kept o x1 := (State.setDud_kept h)
  have h6 : State.Kept o x2 := by
    unfold x2
    split
    · rename_i x7 x8 x9
      exact (State.Kept.ite h5 (State.verifyErr_kept h5))
    · rename_i x10 x11
      exact h5
  exact (State.Kept.ite h (State.Kept.ite h5 (State.Kept.ite (State.verifyErr_kept h5) (State.Kept.ite (State.Kept.foldl h6 (fun a14 s12 h13 => (State.setPair_kept h13))) h6))))

theorem State.tailBoundary_kept (h : State.Kept o s) : State.Kept o (State.tailBoundary s) := by
  unfold State.tailBoundary
  extract_lets -merge -useContext -underBinder x0 x1
  have h2 : State.Kept o x1 := (State.Kept.ite (State.Kept.foldl h (fun a5 s3 h4 => (State.Kept.ite (State.Kept.foldl h4 (fun a8 s6 h7 => (State.Kept.ite h7 (State.verifyErr_kept h7)))) h4))) h)
  exact (State.setPair_kept h2)

end Sys2Proof.Machine
end

