-- ==== Sys2Proof/Laws/Kept/Cmd.lean ====
section
/-! SUPPORT. What every command keeps: one lemma for each function of Machine/Cmd.lean that changes the state. -/

namespace Sys2Proof.Machine

variable {o : Origin} {s : State}

theorem State.laneCmd_kept (h : State.Kept o s) : State.Kept o (State.laneCmd s a1 a2 a3) := by
  unfold State.laneCmd
  extract_lets -merge -useContext -underBinder x0 x1 x2
  exact (State.Kept.ite (State.cmdDone_kept (State.commandedRestart_kept h)) (State.Kept.ite (State.cmdDone_kept (State.testEnter_kept h)) (State.Kept.ite (State.setLane_kept h) (State.Kept.ite (State.cmdDone_kept (State.testExit_kept h)) (State.cmdDone_kept (State.resetCeiling_kept h))))))

theorem State.linkCmd_kept (h : State.Kept o s) : State.Kept o (State.linkCmd s a1 a2) := by
  unfold State.linkCmd
  extract_lets -merge -useContext -underBinder x0 x1 x2 x3
  have h4 : State.Kept o x2 := (State.Kept.ite (State.keyLoad_kept h) (State.keyClear_kept h))
  exact (State.Kept.ite (State.cmdDone_kept (State.Kept.mk h rfl rfl rfl rfl rfl rfl)) (State.cmdDone_kept (State.writeKeys_kept h4)))

theorem State.cadTrigger_kept (h : State.Kept o s) (k2 : ∀ s, State.Kept o s → State.Kept o (a2 s)) : State.Kept o (State.cadTrigger s a1 a2) := by
  unfold State.cadTrigger
  extract_lets -merge -useContext -underBinder x0 x1
  have h2 : State.Kept o x0 := (k2 _ h)
  exact (State.Kept.ite (State.Kept.mk h2 rfl rfl rfl rfl rfl rfl) h2)

theorem State.cadCmd_kept (h : State.Kept o s) : State.Kept o (State.cadCmd s a1 a2 a3) := by
  unfold State.cadCmd
  extract_lets -merge -useContext -underBinder x0
  exact (State.Kept.ite (State.cmdDone_kept (State.sealAndPack_kept h)) (State.Kept.ite (by
    try unfold x0
    extract_lets -merge -useContext -underBinder x1
    exact (State.fset_kept (State.Kept.mk h rfl rfl rfl rfl rfl rfl))) (State.Kept.ite (State.cadTrigger_kept h (fun s2 h3 => (State.applyUser_kept h3))) (State.Kept.ite (by
    try unfold x0
    extract_lets -merge -useContext -underBinder x5
    exact (State.fset_kept (State.Kept.mk h rfl rfl rfl rfl rfl rfl))) (State.Kept.ite (State.cmdDone_kept (State.cadTrigger_kept h (fun s6 h7 => (State.periodicTrigger_kept h7)))) (State.Kept.ite (State.cmdDone_kept (State.cadTrigger_kept h (fun s9 h10 => (State.doseReset_kept h10)))) h))))))

theorem State.dudCmd_kept (h : State.Kept o s) : State.Kept o (State.dudCmd s a1 a2 a3) := by
  unfold State.dudCmd
  exact (State.Kept.ite (State.enumerateStart_kept h) (State.Kept.ite (State.claimStart_kept h) (State.Kept.ite (State.queryStart_kept h) (State.Kept.ite (State.sendConfigStart_kept h) (State.readmitStart_kept h)))))

theorem State.diagCmd_kept (h : State.Kept o s) : State.Kept o (State.diagCmd s a1 a2) := by
  unfold State.diagCmd
  extract_lets -merge -useContext -underBinder x0
  exact (State.Kept.ite (State.fset_kept (State.Kept.mk h rfl rfl rfl rfl rfl rfl)) (State.Kept.ite (State.fset_kept h) (State.Kept.ite (State.cmdDone_kept (State.relearn_kept h)) (State.cmdDone_kept (State.clearVerdict_kept h)))))

theorem State.memCmd_kept (h : State.Kept o s) : State.Kept o (State.memCmd s a1 a2) := by
  unfold State.memCmd
  extract_lets -merge -useContext -underBinder x0 x1
  exact (State.Kept.ite (State.Kept.mk h rfl rfl rfl rfl rfl rfl) (State.Kept.ite (State.fset_kept (State.Kept.mk h rfl rfl rfl rfl rfl rfl)) (State.cmdDone_kept (State.fset_kept h))))

theorem State.fwCmd_kept (h : State.Kept o s) : State.Kept o (State.fwCmd s a1 a2 a3) := by
  unfold State.fwCmd
  extract_lets -merge -useContext -underBinder x0 x1
  exact (State.Kept.ite (State.cmdDone_kept (State.Kept.ite (State.updateStart_kept h) h)) (State.Kept.ite (State.cmdDone_kept (State.updateAbort_kept h)) (State.Kept.ite h (State.Kept.ite (State.cmdDone_kept (State.fwHandover_kept h)) (State.Kept.ite (State.confirm_kept h) (State.Kept.ite (State.cmdDone_kept (State.Kept.ite (State.svnAdvance_kept h) h)) (State.Kept.ite (State.cmdDone_kept (State.revokeKey_kept h)) (State.ckptNow_kept h))))))))

theorem State.safCmd_kept (h : State.Kept o s) : State.Kept o (State.safCmd s a1 a2) := by
  unfold State.safCmd
  exact (State.cmdDone_kept (State.Kept.ite (State.clearLockout_kept h) (State.Kept.ite (State.handoverBegin_kept h) (State.Kept.ite (State.handoverHolds_kept (State.evalGroups_kept (State.closeWindow_kept h))) (State.evalGroups_kept (State.trip_kept h))))))

theorem State.cmdRun_kept (h : State.Kept o s) : State.Kept o (State.cmdRun s a1 a2 a3 a4) := by
  unfold State.cmdRun
  exact (State.Kept.ite (State.cmdDone_kept h) (State.Kept.ite (State.cmdDone_kept (State.discardShadow_kept h)) (State.Kept.ite (State.cmdDone_kept (State.clearCounters_kept h)) (by
    split
    · rename_i x0 x1 x2
      exact (State.Kept.ite (State.commandedReset_kept (State.cmdDone_kept h)) (State.mgtRestart_kept (State.cmdDone_kept h)))
    · rename_i x3 x4 x5
      extract_lets -merge -useContext -underBinder x6
      exact (State.cmdDone_kept (State.Kept.ite (State.setTime_kept h) (State.Kept.ite (State.Kept.mk h rfl rfl rfl rfl rfl rfl) (State.clapRestart_kept h))))
    · rename_i x7 x8 x9
      exact (State.scalRun_kept h)
    · rename_i x10 x11 x12
      exact (State.safCmd_kept h)
    · rename_i x13 x14 x15
      exact (State.fwCmd_kept h)
    · rename_i x16 x17 x18
      exact (State.Kept.ite (State.setPair_kept h) (State.cmdDone_kept (State.resyncStart_kept h)))
    · rename_i x19 x20 x21
      exact (State.memCmd_kept h)
    · rename_i x22 x23 x24
      extract_lets -merge -useContext -underBinder x25
      exact (State.cmdDone_kept (State.Kept.mk h rfl rfl rfl rfl rfl rfl))
    · rename_i x26 x27 x28
      exact (State.Kept.ite h (State.cmdDone_kept (State.fset_kept h)))
    · rename_i x29 x30 x31
      exact (State.fset_kept h)
    · rename_i x32 x33 x34
      exact (State.cadCmd_kept h)
    · rename_i x35 x36 x37
      exact (State.readStatus_kept h)
    · rename_i x38 x39 x40
      exact (State.diagCmd_kept h)
    · rename_i x41 x42 x43
      exact (State.Kept.ite (State.dailyRead_kept h) (State.cmdDone_kept (State.dailyForm_kept h)))
    · rename_i x44 x45 x46
      exact (State.cmdDone_kept (State.Kept.ite (State.chkSeal_kept h) (State.chkRestart_kept h)))
    · rename_i x47 x48 x49
      exact (State.cmdDone_kept (State.reelEmpty_kept h))
    · rename_i x50 x51 x52
      exact (State.linkCmd_kept h)
    · rename_i x53 x54 x55
      exact (State.laneCmd_kept h)
    · rename_i x56 x57 x58
      exact (State.dudCmd_kept h)
    · rename_i x59 x60 x61 x62 x63 x64 x65 x66 x67 x68 x69 x70 x71 x72 x73 x74 x75 x76 x77 x78
      exact (State.cmdDone_kept h)))))

theorem State.cmdWrite_kept (h : State.Kept o s) : State.Kept o (State.cmdWrite s a1 a2 a3 a4) := by
  unfold State.cmdWrite
  extract_lets -merge -useContext -underBinder x0
  exact (State.Kept.ite (State.evt_kept (State.usage_kept (State.setHdr_kept h))) (State.Kept.ite (State.cmdEnd_kept (State.usage_kept h)) (by
    split
    · rename_i x1 x2 x3
      exact (State.cmdEnd_kept (State.usage_kept h))
    · rename_i x4 x5
      exact (State.cmdRun_kept (State.cmdStart_kept h)))))

theorem State.mirrorCommandRx_kept (h : State.Kept o s) : State.Kept o (State.mirrorCommandRx s a1 a2 a3) := by
  unfold State.mirrorCommandRx
  extract_lets -merge -useContext -underBinder x0
  have h1 : State.Kept o x0 := (State.cmdWrite_kept h)
  exact (State.Kept.ite (by
    split
    · rename_i x2 x3 x4
      exact (State.Kept.ite (State.setPair_kept h1) (State.clearReady_kept h1))
    · rename_i x5 x6
      exact (State.clearReady_kept h1)) h)

theorem State.verifyEnd_kept (h : State.Kept o s) : State.Kept o (State.verifyEnd s) := by
  unfold State.verifyEnd
  extract_lets -merge -useContext -underBinder x0 x1 x2
  have h3 : State.Kept o x1 := (State.verifyDone_kept h)
  have h4 : State.Kept o x2 := (State.setPair_kept h3)
  exact (State.Kept.ite (State.Kept.ite h4 (State.clearReady_kept h4)) h3)

end Sys2Proof.Machine
end

