-- ==== Sys2Proof/Laws/Kept/Bus.lean ====
section
/-! SUPPORT. What every command keeps: one lemma for each function of Machine/Bus.lean that changes the state. -/

namespace Sys2Proof.Machine

variable {o : Origin} {s : State}

theorem State.readHeader_kept (h : State.Kept o s) : State.Kept o (State.readHeader s a1 a2 a3).2 := by
  unfold State.readHeader
  extract_lets -merge -useContext -underBinder x0
  exact (State.Kept.pr2 (State.Kept.ite (State.setHdr_kept h) h))

theorem State.readBlock_kept (h : State.Kept o s) : State.Kept o (State.readBlock s a1 a2).2 := by
  unfold State.readBlock
  split
  · rename_i x0 x1 x2
    exact (State.Kept.ite2 (State.Kept.pr2 (State.readNow_kept h)) (State.Kept.pr2 (State.setWord_kept h)))
  · rename_i x3 x4 x5
    exact (State.Kept.ite2 (State.Kept.pr2 (State.libRead_kept h)) (State.Kept.pr2 (State.setWord_kept h)))
  · rename_i x6 x7 x8
    exact (State.Kept.ite2 (State.Kept.pr2 (State.reelRead_kept h)) (State.Kept.pr2 (State.setWord_kept h)))
  · rename_i x9 x10 x11 x12
    exact (State.Kept.pr2 (State.setWord_kept h))

theorem State.lockWrite_kept (h : State.Kept o s) : State.Kept o (State.lockWrite s a1 a2 a3) := by
  unfold State.lockWrite
  extract_lets -merge -useContext -underBinder x0 x1
  exact (State.Kept.ite (State.breakLock_kept h) (State.Kept.ite (State.Kept.ite h (State.setHdr_kept h)) (State.Kept.ite (State.Kept.ite (State.setHdr_kept h) (State.setHdr_kept h)) h)))

theorem State.commitWrite_kept (h : State.Kept o s) : State.Kept o (State.commitWrite s a1 a2 a3) := by
  unfold State.commitWrite
  extract_lets -merge -useContext -underBinder x0
  exact (State.Kept.ite (State.commitGo_kept (State.Kept.ite (State.setHdr_kept h) h)) h)

theorem State.evtClear_kept (h : State.Kept o s) : State.Kept o (State.evtClear s a1 a2) := by
  unfold State.evtClear
  extract_lets -merge -useContext -underBinder x0
  exact (State.setEvtRegs_kept h)

theorem State.evtForce_kept (h : State.Kept o s) : State.Kept o (State.evtForce s a1 a2) := by
  unfold State.evtForce
  exact (State.evts_kept h)

theorem State.evtEnable_kept (h : State.Kept o s) : State.Kept o (State.evtEnable s a1 a2) := by
  unfold State.evtEnable
  extract_lets -merge -useContext -underBinder x0
  exact (State.setEvtRegs_kept h)

theorem State.snapTake_kept (h : State.Kept o s) : State.Kept o (State.snapTake s a1 a2) := by
  unfold State.snapTake
  extract_lets -merge -useContext -underBinder x0
  exact (State.Kept.ite (State.setHdr_kept h) h)

theorem State.writeHeader_kept (h : State.Kept o s) : State.Kept o (State.writeHeader s a1 a2 a3 a4).2 := by
  unfold State.writeHeader
  extract_lets -merge -useContext -underBinder x0 x1
  exact (State.Kept.ite2 (State.Kept.pr2 h) (by
    split
    · rename_i x2
      extract_lets -merge -useContext -underBinder x3
      exact (State.Kept.pr2 (State.setHdr_kept h))
    · rename_i x4
      exact (State.Kept.pr2 (State.evtClear_kept h))
    · rename_i x5
      exact (State.Kept.pr2 (State.evtEnable_kept h))
    · rename_i x6
      exact (State.Kept.pr2 (State.evtForce_kept h))
    · rename_i x7
      exact (State.Kept.ite2 (State.Kept.pr2 h) (State.Kept.ite2 (State.Kept.pr2 h) (State.Kept.pr2 (State.cmdWrite_kept h))))
    · rename_i x8
      exact (State.Kept.ite2 (State.Kept.pr2 h) (State.Kept.pr2 (State.lockWrite_kept h)))
    · rename_i x9
      exact (State.Kept.pr2 (State.commitWrite_kept h))
    · rename_i x10
      exact (State.Kept.pr2 (State.snapTake_kept h))
    · rename_i x11 x12 x13 x14 x15 x16 x17 x18 x19
      exact (State.Kept.pr2 h)))

theorem State.storeBlock_kept (h : State.Kept o s) : State.Kept o (State.storeBlock s a1 a2 a3) := by
  unfold State.storeBlock
  extract_lets -merge -useContext -underBinder x0 x1 x2 x3 x4 x5 x6 x7 x8 x9
  have h10 : State.Kept o x7 := (State.setWord_kept h)
  have h11 : State.Kept o x8 := (State.setShadow_kept h10)
  exact (State.Kept.ite h10 (State.setHdr_kept h11))

theorem State.groupWrite_kept (h : State.Kept o s) : State.Kept o (State.groupWrite s a1 a2) := by
  unfold State.groupWrite
  exact (State.Kept.ite (State.Kept.ite (State.groupSnapshot_kept h) (State.groupGo_kept h)) h)

theorem State.benchCtl_kept (h : State.Kept o s) : State.Kept o (State.benchCtl s a1) := by
  unfold State.benchCtl
  extract_lets -merge -useContext -underBinder x0 x1
  have h2 : State.Kept o x1 := (State.fset_kept h)
  exact (State.Kept.ite (State.benchStart_kept h2) h2)

theorem State.benchWord_kept (h : State.Kept o s) : State.Kept o (State.benchWord s a1) := by
  unfold State.benchWord
  exact (State.Kept.ite (State.benchData_kept h) h)

theorem State.reelReadOp_kept (h : State.Kept o s) : State.Kept o (State.reelReadOp s a1 a2) := by
  unfold State.reelReadOp
  exact (State.Kept.ite (State.reelMark_kept h) (State.Kept.ite (State.reelRewindRead_kept h) (State.reelUnstall_kept (State.reelRelease_kept h))))

theorem State.reelRdCtl_kept (h : State.Kept o s) : State.Kept o (State.reelRdCtl s a1 a2) := by
  unfold State.reelRdCtl
  extract_lets -merge -useContext -underBinder x0 x1 x2 x3 x4 x5
  subst x1
  exact (State.Kept.ite (State.Kept.foldl h (fun a8 s6 h7 => (State.reelReadOp_kept h7))) (State.Kept.foldl (State.fresh_kept h) (fun a11 s9 h10 => (State.reelReadOp_kept h10))))

theorem State.reelWrCtl_kept (h : State.Kept o s) : State.Kept o (State.reelWrCtl s a1 a2) := by
  unfold State.reelWrCtl
  split
  · rename_i x0 x1 x2 x3
    exact (State.reelEnd_kept h)
  · rename_i x4 x5 x6 x7
    exact (State.reelAbort_kept h)
  · rename_i x8 x9 x10 x11
    extract_lets -merge -useContext -underBinder x12
    subst x12
    exact (State.Kept.ite (State.reelAbort_kept (State.reelEnd_kept (State.fresh_kept h))) (State.reelEnd_kept (State.reelAbort_kept (State.fresh_kept h))))
  · rename_i x13 x14 x15 x16
    exact h

theorem State.blockHook_kept (h : State.Kept o s) : State.Kept o (State.blockHook s a1 a2 a3 a4) := by
  unfold State.blockHook
  split
  · rename_i x0 x1 x2
    exact (State.Kept.ite (State.groupWrite_kept h) (State.Kept.ite (State.benchCtl_kept h) (State.Kept.ite (State.benchWord_kept h) h)))
  · rename_i x3 x4 x5
    exact (State.Kept.ite (State.captAck_kept h) h)
  · rename_i x6 x7 x8
    exact (State.Kept.ite (State.domainReq_kept h) h)
  · rename_i x9 x10 x11
    exact (State.Kept.ite (State.demand_kept h) h)
  · rename_i x12 x13 x14
    exact (State.Kept.ite (State.aliveWrite_kept h) h)
  · rename_i x15 x16 x17
    exact (State.Kept.ite (State.fwAlive_kept h) h)
  · rename_i x18 x19 x20
    exact (State.Kept.ite (State.chkFeed_kept h) (State.Kept.ite (State.chkFeed_kept h) (State.Kept.ite (State.chkFeed_kept h) h)))
  · rename_i x21 x22 x23
    exact (State.Kept.ite (State.reelWord_kept h) (State.Kept.ite (State.reelWrCtl_kept h) (State.Kept.ite (State.reelRdCtl_kept h) h)))
  · rename_i x24 x25 x26
    exact (State.Kept.ite (State.libWrite_kept h) h)
  · rename_i x27 x28 x29
    exact (State.Kept.ite (State.sealWrite_kept h) h)
  · rename_i x30 x31 x32 x33 x34 x35 x36 x37 x38 x39 x40
    exact h

theorem State.writeBlockReg_kept (h : State.Kept o s) : State.Kept o (State.writeBlockReg s a1 a2 a3 a4).2 := by
  unfold State.writeBlockReg
  extract_lets -merge -useContext -underBinder x0 x1 x2
  have h3 : State.Kept o x2 := (State.Kept.ite h (State.storeBlock_kept h))
  exact (State.Kept.ite2 (State.Kept.pr2 h) (State.Kept.ite2 (State.Kept.pr2 h) (State.Kept.pr2 (State.blockHook_kept h3))))

theorem State.countStatus_kept (h : State.Kept o s) : State.Kept o (State.countStatus s a1 a2) := by
  unfold State.countStatus
  extract_lets -merge -useContext -underBinder x0 x1
  exact (State.Kept.ite h (State.Kept.ite (State.usage_kept h) (State.Kept.ite h (State.Kept.ite h (State.usage_kept h)))))

theorem State.headerAccess_kept (h : State.Kept o s) (c : Option Cap) : State.Kept o (s.headerAccess a p f c).2.2 := by
  cases c with
  | none => exact h
  | some c => exact State.Kept.ite22 (State.Kept.pr22 (State.writeHeader_kept h)) (State.Kept.pr22 (State.readHeader_kept h))

theorem State.blockAccess_kept (h : State.Kept o s) (r : Option Reg) : State.Kept o (s.blockAccess a p r).2.2 := by
  cases r with
  | none => exact h
  | some r => exact State.Kept.ite22 (State.Kept.pr22 (State.writeBlockReg_kept h)) (State.Kept.pr22 (State.readBlock_kept h))

theorem State.accessAt_kept (h : State.Kept o s) (n : Nat) : State.Kept o (s.accessAt a n).2.2 := by
  unfold State.accessAt
  exact State.Kept.ite22 (State.headerAccess_kept h _) (State.blockAccess_kept h _)

theorem State.accessReg_kept (h : State.Kept o s) : State.Kept o (s.accessReg a).2.2 := by
  unfold State.accessReg
  exact State.accessAt_kept h _

theorem State.accessChecked_kept (h : State.Kept o s) (r : Option Nat) : State.Kept o (s.accessChecked a r).2.2 := by
  cases r with
  | none =>
    simp only [State.accessChecked]
    exact State.accessReg_kept h
  | some _ => exact h

theorem State.counted_kept {r : Nat × Nat × State} (h : State.Kept o r.2.2) : State.Kept o (State.counted a r).2.2 := by
  unfold State.counted
  exact State.countStatus_kept h

theorem State.perform_kept (h : State.Kept o s) : State.Kept o (s.perform a).2.2 := by
  unfold State.perform
  exact State.counted_kept (State.accessChecked_kept h _)

end Sys2Proof.Machine
end

