-- ==== Sys2Proof/Laws/Kept/Ctl.lean ====
section
/-! SUPPORT. What every command keeps: one lemma for each function of Machine/Ctl.lean that changes the state. -/

namespace Sys2Proof.Machine

variable {o : Origin} {s : State}

theorem State.ctlResult_kept (h : State.Kept o s) : State.Kept o (State.ctlResult s a1 a2 a3) := by
  unfold State.ctlResult
  split
  · rename_i x0 x1
    exact h
  · rename_i x2 x3 x4 x5
    extract_lets -merge -useContext -underBinder x6
    exact (State.setLink_kept h)

theorem State.deliver_kept (h : State.Kept o s) : State.Kept o (State.deliver s a1 a2 a3) := by
  unfold State.deliver
  exact (State.Kept.ite (State.ctlResult_kept h) (State.emit_kept h))

theorem State.dropHeldWrites_kept (h : State.Kept o s) : State.Kept o (State.dropHeldWrites s a1) := by
  unfold State.dropHeldWrites
  exact (State.Kept.foldl h (fun a2 s0 h1 => (State.deliver_kept (State.Kept.mk h1 rfl rfl rfl rfl rfl rfl))))

theorem State.doAccess_kept (h : State.Kept o s) : State.Kept o (State.doAccess s a1).2.2 := by
  unfold State.doAccess
  extract_lets -merge -useContext -underBinder x0
  subst x0
  split
  · rename_i x1 x2 x3
    exact (State.Kept.pr22 (State.dropHeldWrites_kept (State.perform_kept h)))
  · rename_i x4 x5
    exact (State.perform_kept h)

theorem State.ctlFinish_kept (h : State.Kept o s) : State.Kept o (State.ctlFinish s a1 a2 a3) := by
  unfold State.ctlFinish
  extract_lets -merge -useContext -underBinder x0 x1 x2
  have h3 : State.Kept o x2 := (State.setLink_kept h)
  exact (State.Kept.ite h3 (State.emit_kept h3))

theorem State.ctlAdvance_kept (h : State.Kept o s) (e : s.ctlAdvance n = some t) : State.Kept o t := by
  unfold State.ctlAdvance at e
  split at e
  · cases e
  · split at e
    · cases e
    · split at e
      · cases e; exact State.ctlFinish_kept h
      · split at e
        · cases e; exact State.setLink_kept h
        · simp only at e
          split at e
          · cases e; exact h.of_parts rfl rfl rfl rfl rfl rfl
          · cases e; exact State.deliver_kept (State.doAccess_kept h)

theorem State.ctlDrive_kept (h : State.Kept o s) : State.Kept o (State.ctlDrive n k s) := by
  induction k generalizing s with
  | zero => exact h
  | succ k ih =>
    unfold State.ctlDrive
    split
    · next e => exact ih (State.ctlAdvance_kept h e)
    · exact h

theorem State.ctlRun_kept (h : State.Kept o s) : State.Kept o (State.ctlRun s a1) := by
  unfold State.ctlRun
  exact (State.ctlDrive_kept h)

theorem State.resumeOne_kept (h : State.Kept o s) (e : s.resumeOne = some t) : State.Kept o t := by
  unfold State.resumeOne at e
  split at e
  · cases e
  · cases e
    have h2 (a : Access) := State.deliver_kept (a1 := a) (a2 := 0) (a3 := 0) h
    have h1 (a : Access) : State.Kept o { s with waiting := s.waiting.erase a } := h.of_parts rfl rfl rfl rfl rfl rfl
    exact State.Kept.ite (State.ctlRun_kept (State.deliver_kept (State.doAccess_kept (h1 _))))
      (State.deliver_kept (State.doAccess_kept (h1 _)))

theorem State.resumeN_kept (h : State.Kept o s) : State.Kept o (State.resumeN k s) := by
  induction k generalizing s with
  | zero => exact h
  | succ k ih =>
    unfold State.resumeN
    split
    · next e => exact ih (State.resumeOne_kept h e)
    · exact h

theorem State.resume_kept (h : State.Kept o s) : State.Kept o (State.resume s) := by
  unfold State.resume
  extract_lets -merge -useContext -underBinder x0
  exact (State.Kept.foldl (State.resumeN_kept h) (fun a3 s1 h2 => (State.ctlRun_kept h2)))

theorem State.issue_kept (h : State.Kept o s) : State.Kept o (State.issue s a1 a2 a3 a4) := by
  unfold State.issue
  extract_lets -merge -useContext -underBinder x0 x1 x2
  subst x1
  have h3 : State.Kept o x2 := (State.deliver_kept (State.doAccess_kept h))
  exact (State.Kept.ite (State.Kept.mk h rfl rfl rfl rfl rfl rfl) (State.Kept.ite (State.resume_kept h3) h3))

theorem State.writeReg_kept (h : State.Kept o s) : State.Kept o (State.writeReg s a1 a2 a3 a4) := by
  unfold State.writeReg
  exact (State.issue_kept h)

theorem State.readReg_kept (h : State.Kept o s) : State.Kept o (State.readReg s a1 a2 a3) := by
  unfold State.readReg
  exact (State.issue_kept h)

theorem State.command_kept (h : State.Kept o s) : State.Kept o (State.command s a1 a2 a3 a4) := by
  unfold State.command
  exact (State.writeReg_kept h)

theorem State.reelResume_kept (h : State.Kept o s) : State.Kept o (State.reelResume s a1) := by
  unfold State.reelResume
  exact (State.resume_kept (State.reelUnstall_kept h))

theorem State.reelFault_kept (h : State.Kept o s) : State.Kept o (State.reelFault s a1) := by
  unfold State.reelFault
  exact (State.resume_kept (State.dropHeldWrites_kept (State.reelPtrReset_kept h)))

theorem State.replayExpiry_kept (h : State.Kept o s) : State.Kept o (State.replayExpiry s a1) := by
  unfold State.replayExpiry
  split
  · rename_i x0 x1
    exact h
  · rename_i x2 x3 x4 x5
    extract_lets -merge -useContext -underBinder x6 x7
    have h8 : State.Kept o x6 := (State.advanceTo_kept h)
    exact (State.setLink_kept h8)

theorem State.ctlMailbox_kept (h : State.Kept o s) : State.Kept o (State.ctlMailbox s a1 a2 a3) := by
  unfold State.ctlMailbox
  extract_lets -merge -useContext -underBinder x0 x1 x2 x3
  have h4 : State.Kept o x2 := (State.Kept.ite (State.reelPacket_kept h) h)
  exact (State.setLink_kept h4)

theorem State.ctlAccept_kept (h : State.Kept o s) : State.Kept o (State.ctlAccept s a1 a2 a3) := by
  unfold State.ctlAccept
  extract_lets -merge -useContext -underBinder x0 x1 x2 x3 x4 x5 x6
  have h7 : State.Kept o x3 := (State.setLink_kept h)
  have h8 : State.Kept o x6 := (State.Kept.ite (State.ctlMailbox_kept h7) (State.setLink_kept h7))
  exact (State.ctlRun_kept h8)

theorem State.ctlTake_kept (h : State.Kept o s) : State.Kept o (State.ctlTake s a1 a2 a3) := by
  unfold State.ctlTake
  extract_lets -merge -useContext -underBinder x0 x1 x2 x3
  have h4 : State.Kept o x3 := (State.setLink_kept h)
  exact (State.Kept.ite (State.emit_kept (State.finc_kept h)) (by
    split
    · rename_i x5 x6 x7
      extract_lets -merge -useContext -underBinder x8
      have h9 : State.Kept o x8 := (State.finc_kept h4)
      exact (State.Kept.ite h9 (State.emit_kept h9))
    · rename_i x10 x11
      exact (State.ctlAccept_kept h4)))

theorem State.ctlDrop_kept (h : State.Kept o s) : State.Kept o (State.ctlDrop s a1 a2) := by
  unfold State.ctlDrop
  exact (State.evt_kept (State.finc_kept h))

theorem State.ctlRx_kept (h : State.Kept o s) : State.Kept o (State.ctlRx s a1 a2) := by
  unfold State.ctlRx
  extract_lets -merge -useContext -underBinder x0 x1 x2 x3 x4 x5
  subst x0
  have h6 : State.Kept o x2 := (State.checkCells_kept h)
  have h7 : State.Kept o x4 := (State.Kept.foldl h6 (fun a10 s8 h9 => (State.Kept.foldl h9 (fun a13 s11 h12 => (State.emit_kept h12)))))
  have h14 : State.Kept o x5 := (State.unrouted_kept h7)
  exact (State.Kept.ite h (State.Kept.ite (State.wrongType_kept h6) (State.Kept.ite h6 (State.Kept.ite h14 (State.Kept.ite (State.ctlDrop_kept h14) (State.Kept.ite (State.ctlDrop_kept h14) (by
    split
    · rename_i x15 x16
      exact (State.ctlDrop_kept h14)
    · rename_i x17 x18 x19
      exact (State.ctlTake_kept h14))))))))

end Sys2Proof.Machine
end

