-- ==== Sys2Proof/Laws/Kept/Boundary.lean ====
section
/-! SUPPORT. What every command keeps: one lemma for each function of Machine/Boundary.lean that changes the state. -/

namespace Sys2Proof.Machine

variable {o : Origin} {s : State}

theorem State.underrunEvent_kept (h : State.Kept o s) : State.Kept o (State.underrunEvent s) := by
  unfold State.underrunEvent
  exact (State.Kept.ite (State.evt_kept (State.finc_kept h)) h)

theorem State.endFrame_kept (h : State.Kept o s) : State.Kept o (State.endFrame s a1 a2) := by
  unfold State.endFrame
  extract_lets -merge -useContext -underBinder x0 x1 x2 x3 x4 x5 x6
  have h7 : State.Kept o x1 := (State.Kept.mk h rfl rfl rfl rfl rfl rfl)
  have h8 : State.Kept o x2 := (State.dropFrameCapture_kept (State.keepLast_kept (State.monitorFrame_kept (State.underrunEvent_kept (State.countUnderrun_kept h7)))))
  have h9 : State.Kept o x4 := (State.Kept.ite h8 (State.Kept.mk h8 rfl rfl rfl rfl rfl rfl))
  have h10 : State.Kept o x5 := (State.keepMatte_kept (State.borrowBoundary_kept (State.doseBoundary_kept h9)))
  exact (State.Kept.mk h10 rfl rfl rfl rfl rfl rfl)

theorem State.commitsAt_kept (h : State.Kept o s) : State.Kept o (State.commitsAt s a1) := by
  unfold State.commitsAt
  exact (State.mirrorBoundary_kept (State.adoptedBoundary_kept (State.boundaryCommits_kept h)))

theorem State.permitBoundary_kept (h : State.Kept o s) : State.Kept o (State.permitBoundary s) := by
  unfold State.permitBoundary
  extract_lets -merge -useContext -underBinder x0
  subst x0
  exact (State.Kept.mk_safe h rfl rfl rfl rfl rfl rfl)

theorem State.composeBoundary_kept (h : State.Kept o s) : State.Kept o (State.composeBoundary s) := by
  unfold State.composeBoundary
  extract_lets -merge -useContext -underBinder x0 x1 x2 x3 x4
  have h5 : State.Kept o x1 := (State.Kept.ite (State.setReadRate_kept (State.selectWindows_kept h)) h)
  have h6 : State.Kept o x4 := (State.Kept.mk h5 rfl rfl rfl rfl rfl rfl)
  exact (State.Kept.ite h6 (State.startCapture_kept h6))

theorem State.tileBoundary_kept (h : State.Kept o s) : State.Kept o (State.tileBoundary s a1 a2) := by
  unfold State.tileBoundary
  extract_lets -merge -useContext -underBinder x0 x1 x2 x3
  have h4 : State.Kept o x2 := (State.Kept.foldl h (fun a7 s5 h6 => (by
    extract_lets -merge -useContext -underBinder x8
    exact (State.Kept.ite (State.setDud_kept h6) h6))))
  exact (State.Kept.mk h4 rfl rfl rfl rfl rfl rfl)

theorem State.portsBoundary_kept (h : State.Kept o s) : State.Kept o (State.portsBoundary s a1 a2 a3) := by
  unfold State.portsBoundary
  exact (State.Kept.foldl h (fun a2 s0 h1 => (State.portBoundary_kept h1)))

theorem State.afterCommits_kept (h : State.Kept o s) : State.Kept o (State.afterCommits s a1 a2 a3) := by
  unfold State.afterCommits
  extract_lets -merge -useContext -underBinder x0 x1 x2 x3 x4 x5 x6
  have h7 : State.Kept o x1 := (State.boundaryUp_kept (State.messageWaiting_kept h))
  have h8 : State.Kept o x2 := (State.clapBoundary_kept (State.applyPhases_kept (State.slateBoundary_kept h7)))
  have h9 : State.Kept o x3 := (State.stillBoundary_kept (State.mirrorRebuildBoundary_kept (State.rebuildBoundary_kept h8)))
  have h10 : State.Kept o x4 := (State.zoneBoundary_kept (State.matteBoundary_kept (State.composeBoundary_kept h9)))
  have h11 : State.Kept o x5 := (State.portsBoundary_kept (State.windowBoundary_kept h10))
  have h12 : State.Kept o x6 := (State.tileBoundary_kept (State.diagBoundary_kept h11))
  exact (State.tailBoundary_kept (State.resolveLinking_kept (State.evalGroups_kept h12)))

theorem State.frameBoundary_kept (h : State.Kept o s) : State.Kept o (State.frameBoundary s a1 a2) := by
  unfold State.frameBoundary
  extract_lets -merge -useContext -underBinder x0 x1 x2 x3 x4 x5
  have h6 : State.Kept o x2 := (State.openFrame_kept (State.endFrame_kept h))
  have h7 : State.Kept o x3 := (State.stageBoundary_kept (State.latchWindows_kept (State.permitBoundary_kept h6)))
  have h8 : State.Kept o x4 := (State.commitsAt_kept (State.commitsAt_kept h7))
  have h9 : State.Kept o x5 := (State.afterCommits_kept h8)
  exact (State.settle_kept (State.pairSlot_kept h9))

theorem State.slotBoundary_kept (h : State.Kept o s) : State.Kept o (State.slotBoundary s a1) := by
  unfold State.slotBoundary
  extract_lets -merge -useContext -underBinder x0 x1
  have h2 : State.Kept o x1 := (State.advanceSys_kept h)
  exact (State.Kept.ite h (State.settle_kept (State.pairSlot_kept (State.commitsAt_kept h2))))

theorem State.frameLate_kept (h : State.Kept o s) : State.Kept o (State.frameLate s) := by
  unfold State.frameLate
  extract_lets -merge -useContext -underBinder x0
  exact (State.Kept.ite (State.evt_kept (State.finc_kept (State.Kept.mk h rfl rfl rfl rfl rfl rfl))) h)

theorem State.beginBlanking_kept (h : State.Kept o s) : State.Kept o (State.beginBlanking s) := by
  unfold State.beginBlanking
  extract_lets -merge -useContext -underBinder x0
  exact (State.Kept.mk h rfl rfl rfl rfl rfl rfl)

theorem State.blankingStart_kept (h : State.Kept o s) : State.Kept o (State.blankingStart s) := by
  unfold State.blankingStart
  extract_lets -merge -useContext -underBinder x0
  have h1 : State.Kept o x0 := (State.frameLate_kept (State.beginBlanking_kept (State.advanceSys_kept h)))
  exact (State.Kept.ite h (State.Kept.foldl h1 (fun a4 s2 h3 => (State.portBlanking_kept h3))))

theorem State.cue_kept (h : State.Kept o s) : State.Kept o (State.cue s) := by
  unfold State.cue
  exact (State.Kept.ite h (State.evt_kept h))

theorem State.idle_kept (h : State.Kept o s) : State.Kept o (State.idle s) := by
  unfold State.idle
  exact (State.live_kept h (fun s0 h1 => (State.flushUpward_kept (State.advanceTo_kept h1))))

end Sys2Proof.Machine
end

