-- ==== Sys2Proof/Laws/Kept/ExecPages.lean ====
section
/-! SUPPORT. What every command keeps: one lemma for each function of Machine/ExecPages.lean that changes the state. -/

namespace Sys2Proof.Machine

variable {o : Origin} {s : State}

theorem execRegisterWrite_kept (h : State.Kept o s) : ∃ t, execRegisterWrite a0 a1 a2 s = .next t ∧ State.Kept o t := by
  refine ⟨_, rfl, ?_⟩
  exact (State.live_kept h (fun s0 h1 => (State.issue_kept h1)))

theorem execRcRead_kept (h : State.Kept o s) : ∃ t, execRcRead a0 a1 s = .next t ∧ State.Kept o t := by
  refine ⟨_, rfl, ?_⟩
  exact (State.live_kept h (fun s0 h1 => (State.issue_kept h1)))

theorem execNowLoRead_kept (h : State.Kept o s) : ∃ t, execNowLoRead a0 s = .next t ∧ State.Kept o t := by
  refine ⟨_, rfl, ?_⟩
  exact (State.live_kept h (fun s0 h1 => (State.readReg_kept h1)))

theorem execPageCommitGo_kept (h : State.Kept o s) : ∃ t, execPageCommitGo a0 a1 a2 s = .next t ∧ State.Kept o t := by
  refine ⟨_, rfl, ?_⟩
  exact (State.live_kept h (fun s0 h1 => (State.writeReg_kept h1)))

theorem execCommitGroup_kept (h : State.Kept o s) : ∃ t, execCommitGroup a0 a1 s = .next t ∧ State.Kept o t := by
  refine ⟨_, rfl, ?_⟩
  exact (State.live_kept h (fun s0 h1 => (State.writeReg_kept h1)))

theorem execGroupSnapshot_kept (h : State.Kept o s) : ∃ t, execGroupSnapshot a0 s = .next t ∧ State.Kept o t := by
  refine ⟨_, rfl, ?_⟩
  exact (State.live_kept h (fun s0 h1 => (State.writeReg_kept h1)))

theorem execLockLease_kept (h : State.Kept o s) : ∃ t, execLockLease a0 a1 a2 s = .next t ∧ State.Kept o t := by
  refine ⟨_, rfl, ?_⟩
  exact (State.live_kept h (fun s0 h1 => (State.writeReg_kept h1)))

theorem execLockRelease_kept (h : State.Kept o s) : ∃ t, execLockRelease a0 a1 s = .next t ∧ State.Kept o t := by
  refine ⟨_, rfl, ?_⟩
  exact (State.live_kept h (fun s0 h1 => (State.writeReg_kept h1)))

theorem execLockBreak_kept (h : State.Kept o s) : ∃ t, execLockBreak a0 a1 s = .next t ∧ State.Kept o t := by
  refine ⟨_, rfl, ?_⟩
  exact (State.live_kept h (fun s0 h1 => (State.writeReg_kept h1)))

theorem execLeaseExpiry_kept (h : State.Kept o s) : ∃ t, execLeaseExpiry a0 s = .next t ∧ State.Kept o t := by
  refine ⟨_, rfl, ?_⟩
  exact (State.live_kept h (fun s0 h1 => (State.leaseExpiry_kept h1)))

theorem execCmdNone_kept (h : State.Kept o s) : ∃ t, execCmdNone a0 a1 s = .next t ∧ State.Kept o t := by
  refine ⟨_, rfl, ?_⟩
  exact (State.live_kept h (fun s0 h1 => (State.command_kept h1)))

theorem execDiscardShadow_kept (h : State.Kept o s) : ∃ t, execDiscardShadow a0 a1 s = .next t ∧ State.Kept o t := by
  refine ⟨_, rfl, ?_⟩
  exact (State.live_kept h (fun s0 h1 => (State.command_kept h1)))

theorem execClearCounters_kept (h : State.Kept o s) : ∃ t, execClearCounters a0 a1 s = .next t ∧ State.Kept o t := by
  refine ⟨_, rfl, ?_⟩
  exact (State.live_kept h (fun s0 h1 => (State.command_kept h1)))

theorem execEvtClear_kept (h : State.Kept o s) : ∃ t, execEvtClear a0 a1 a2 s = .next t ∧ State.Kept o t := by
  refine ⟨_, rfl, ?_⟩
  exact (State.live_kept h (fun s0 h1 => (State.writeReg_kept h1)))

theorem execEvtForce_kept (h : State.Kept o s) : ∃ t, execEvtForce a0 a1 a2 s = .next t ∧ State.Kept o t := by
  refine ⟨_, rfl, ?_⟩
  exact (State.live_kept h (fun s0 h1 => (State.writeReg_kept h1)))

theorem execEvtEnableWrite_kept (h : State.Kept o s) : ∃ t, execEvtEnableWrite a0 a1 a2 s = .next t ∧ State.Kept o t := by
  refine ⟨_, rfl, ?_⟩
  exact (State.live_kept h (fun s0 h1 => (State.writeReg_kept h1)))

theorem execSnapshotTake_kept (h : State.Kept o s) : ∃ t, execSnapshotTake a0 a1 s = .next t ∧ State.Kept o t := by
  refine ⟨_, rfl, ?_⟩
  exact (State.live_kept h (fun s0 h1 => (State.writeReg_kept h1)))

theorem execSnapshotDone_kept (h : State.Kept o s) : ∃ t, execSnapshotDone a0 s = .next t ∧ State.Kept o t := by
  refine ⟨_, rfl, ?_⟩
  exact (State.live_kept h (fun s0 h1 => (State.snapshotDone_kept h1)))

end Sys2Proof.Machine
end

