-- ==== Sys2Proof/Laws/Kept/ExecRaster.lean ====
section
/-! SUPPORT. What every command keeps: one lemma for each function of Machine/ExecRaster.lean that changes the state. -/

namespace Sys2Proof.Machine

variable {o : Origin} {s : State}

theorem execFrameBoundary_kept (h : State.Kept o s) : ∃ t, execFrameBoundary a0 a1 s = .next t ∧ State.Kept o t := by
  refine ⟨_, rfl, ?_⟩
  exact (State.live_kept h (fun s0 h1 => (State.frameBoundary_kept h1)))

theorem execSlotBoundary_kept (h : State.Kept o s) : ∃ t, execSlotBoundary a0 s = .next t ∧ State.Kept o t := by
  refine ⟨_, rfl, ?_⟩
  exact (State.live_kept h (fun s0 h1 => (State.slotBoundary_kept h1)))

theorem execBlankingStart_kept (h : State.Kept o s) : ∃ t, execBlankingStart s = .next t ∧ State.Kept o t := by
  refine ⟨_, rfl, ?_⟩
  exact (State.live_kept h (fun s0 h1 => (State.blankingStart_kept h1)))

theorem execCue_kept (h : State.Kept o s) : ∃ t, execCue s = .next t ∧ State.Kept o t := by
  refine ⟨_, rfl, ?_⟩
  exact (State.live_kept h (fun s0 h1 => (State.cue_kept h1)))

theorem execPeTileDone_kept (h : State.Kept o s) : ∃ t, execPeTileDone a0 a1 s = .next t ∧ State.Kept o t := by
  refine ⟨_, rfl, ?_⟩
  exact (State.live_kept h (fun s0 h1 => (State.peTileDone_kept h1)))

theorem execTileSignatureDeadline_kept (h : State.Kept o s) : ∃ t, execTileSignatureDeadline a0 s = .next t ∧ State.Kept o t := by
  refine ⟨_, rfl, ?_⟩
  exact (State.live_kept h (fun s0 h1 => (State.signatureDeadline_kept h1)))

end Sys2Proof.Machine
end

