-- ==== Sys2Proof/Laws/Kept/ExecLanes.lean ====
section
/-! SUPPORT. What every command keeps: one lemma for each function of Machine/ExecLanes.lean that changes the state. -/

namespace Sys2Proof.Machine

variable {o : Origin} {s : State}

theorem execLaneEnable_kept (h : State.Kept o s) : ∃ t, execLaneEnable a0 s = .next t ∧ State.Kept o t := by
  refine ⟨_, rfl, ?_⟩
  exact (State.live_kept h (fun s0 h1 => (State.settle_kept (State.laneEnable_kept h1))))

theorem execSeekDwellEnd_kept (h : State.Kept o s) : ∃ t, execSeekDwellEnd a0 s = .next t ∧ State.Kept o t := by
  refine ⟨_, rfl, ?_⟩
  exact (State.live_kept h (fun s0 h1 => (State.settle_kept (State.seekDwellEnd_kept h1))))

theorem execSeekMessageRx_kept (h : State.Kept o s) : ∃ t, execSeekMessageRx a0 a1 s = .next t ∧ State.Kept o t := by
  refine ⟨_, rfl, ?_⟩
  exact (State.live_kept h (fun s0 h1 => (State.settle_kept (State.seekMessage_kept h1))))

theorem execLeaderMessageRx_kept (h : State.Kept o s) : ∃ t, execLeaderMessageRx a0 a1 a2 a3 s = .next t ∧ State.Kept o t := by
  refine ⟨_, rfl, ?_⟩
  exact (State.live_kept h (fun s0 h1 => (State.settle_kept (State.leaderMessage_kept h1))))

theorem execTrainTimeout_kept (h : State.Kept o s) : ∃ t, execTrainTimeout a0 s = .next t ∧ State.Kept o t := by
  refine ⟨_, rfl, ?_⟩
  exact (State.live_kept h (fun s0 h1 => (State.settle_kept (State.trainTimeout_kept h1))))

theorem execLaneLock_kept (h : State.Kept o s) : ∃ t, execLaneLock a0 s = .next t ∧ State.Kept o t := by
  refine ⟨_, rfl, ?_⟩
  exact (State.live_kept h (fun s0 h1 => (State.settle_kept (State.laneLock_kept h1))))

theorem execTrainingFrameRx_kept (h : State.Kept o s) : ∃ t, execTrainingFrameRx a0 a1 a2 a3 a4 a5 a6 a7 a8 s = .next t ∧ State.Kept o t := by
  refine ⟨_, rfl, ?_⟩
  exact (State.live_kept h (fun s0 h1 => (State.settle_kept (State.trainingFrame_kept h1))))

theorem execFomWindowDone_kept (h : State.Kept o s) : ∃ t, execFomWindowDone a0 a1 a2 a3 a4 s = .next t ∧ State.Kept o t := by
  refine ⟨_, rfl, ?_⟩
  exact (State.live_kept h (fun s0 h1 => (State.settle_kept (State.fomWindow_kept h1))))

theorem execConfirmMeasureDone_kept (h : State.Kept o s) : ∃ t, execConfirmMeasureDone a0 a1 a2 s = .next t ∧ State.Kept o t := by
  refine ⟨_, rfl, ?_⟩
  exact (State.live_kept h (fun s0 h1 => (State.settle_kept (State.confirmMeasure_kept h1))))

theorem execFomFail_kept (h : State.Kept o s) : ∃ t, execFomFail a0 s = .next t ∧ State.Kept o t := by
  refine ⟨_, rfl, ?_⟩
  exact (State.live_kept h (fun s0 h1 => (State.settle_kept (State.fomFail_kept h1))))

theorem execLossOfSignal_kept (h : State.Kept o s) : ∃ t, execLossOfSignal a0 a1 s = .next t ∧ State.Kept o t := by
  refine ⟨_, rfl, ?_⟩
  exact (State.live_kept h (fun s0 h1 => (State.settle_kept (State.lossOfSignal_kept h1))))

theorem execRunStable_kept (h : State.Kept o s) : ∃ t, execRunStable a0 s = .next t ∧ State.Kept o t := by
  refine ⟨_, rfl, ?_⟩
  exact (State.live_kept h (fun s0 h1 => (State.runStable_kept h1)))

theorem execRetrain_kept (h : State.Kept o s) : ∃ t, execRetrain a0 a1 s = .next t ∧ State.Kept o t := by
  refine ⟨_, rfl, ?_⟩
  exact (State.live_kept h (fun s0 h1 => (State.settle_kept (State.command_kept h1))))

theorem execTestEnter_kept (h : State.Kept o s) : ∃ t, execTestEnter a0 a1 s = .next t ∧ State.Kept o t := by
  refine ⟨_, rfl, ?_⟩
  exact (State.live_kept h (fun s0 h1 => (State.settle_kept (State.command_kept h1))))

theorem execInject_kept (h : State.Kept o s) : ∃ t, execInject a0 a1 a2 s = .next t ∧ State.Kept o t := by
  refine ⟨_, rfl, ?_⟩
  exact (State.live_kept h (fun s0 h1 => (State.command_kept h1)))

theorem execTestExit_kept (h : State.Kept o s) : ∃ t, execTestExit a0 a1 s = .next t ∧ State.Kept o t := by
  refine ⟨_, rfl, ?_⟩
  exact (State.live_kept h (fun s0 h1 => (State.settle_kept (State.command_kept h1))))

theorem execResetCeiling_kept (h : State.Kept o s) : ∃ t, execResetCeiling a0 a1 s = .next t ∧ State.Kept o t := by
  refine ⟨_, rfl, ?_⟩
  exact (State.live_kept h (fun s0 h1 => (State.command_kept h1)))

theorem execSentinelCellRx_kept (h : State.Kept o s) : ∃ t, execSentinelCellRx a0 a1 s = .next t ∧ State.Kept o t := by
  refine ⟨_, rfl, ?_⟩
  exact (State.live_kept h (fun s0 h1 => (State.settle_kept (State.sentinelRx_kept h1))))

theorem execMarkerRx_kept (h : State.Kept o s) : ∃ t, execMarkerRx a0 a1 a2 s = .next t ∧ State.Kept o t := by
  refine ⟨_, rfl, ?_⟩
  exact (State.live_kept h (fun s0 h1 => (State.settle_kept (State.markerRx_kept h1))))

theorem execPrbsLock_kept (h : State.Kept o s) : ∃ t, execPrbsLock a0 s = .next t ∧ State.Kept o t := by
  refine ⟨_, rfl, ?_⟩
  exact (State.live_kept h (fun s0 h1 => (State.prbsLock_kept h1)))

theorem execPrbsLockLoss_kept (h : State.Kept o s) : ∃ t, execPrbsLockLoss a0 a1 s = .next t ∧ State.Kept o t := by
  refine ⟨_, rfl, ?_⟩
  exact (State.live_kept h (fun s0 h1 => (State.prbsLoss_kept h1)))

theorem execInjectDone_kept (h : State.Kept o s) : ∃ t, execInjectDone a0 a1 s = .next t ∧ State.Kept o t := by
  refine ⟨_, rfl, ?_⟩
  exact (State.live_kept h (fun s0 h1 => (State.injectDone_kept h1)))

end Sys2Proof.Machine
end

