-- ==== Sys2Proof/Laws/Kept/ExecLinks.lean ====
section
/-! SUPPORT. What every command keeps: one lemma for each function of Machine/ExecLinks.lean that changes the state. -/

namespace Sys2Proof.Machine

variable {o : Origin} {s : State}

theorem execVideoBurstRx_kept (h : State.Kept o s) : ∃ t, execVideoBurstRx a0 a1 s = .next t ∧ State.Kept o t := by
  refine ⟨_, rfl, ?_⟩
  exact (State.live_kept h (fun s0 h1 => (State.videoRx_kept h1)))

theorem execIngestBlockWrite_kept (h : State.Kept o s) : ∃ t, execIngestBlockWrite s = .next t ∧ State.Kept o t := by
  refine ⟨_, rfl, ?_⟩
  exact (State.live_kept h (fun s0 h1 => (State.ingestOne_kept h1)))

theorem execCtlRead_kept (h : State.Kept o s) : ∃ t, execCtlRead a0 a1 s = .next t ∧ State.Kept o t := by
  refine ⟨_, rfl, ?_⟩
  exact (State.live_kept h (fun s0 h1 => (State.settle_kept (State.ctlRx_kept h1))))

theorem execCtlWrite_kept (h : State.Kept o s) : ∃ t, execCtlWrite a0 a1 s = .next t ∧ State.Kept o t := by
  refine ⟨_, rfl, ?_⟩
  exact (State.live_kept h (fun s0 h1 => (State.settle_kept (State.ctlRx_kept h1))))

theorem execCtlMailbox_kept (h : State.Kept o s) : ∃ t, execCtlMailbox a0 a1 s = .next t ∧ State.Kept o t := by
  refine ⟨_, rfl, ?_⟩
  exact (State.live_kept h (fun s0 h1 => (State.ctlRx_kept h1)))

theorem execReplayEntryExpiry_kept (h : State.Kept o s) : ∃ t, execReplayEntryExpiry a0 s = .next t ∧ State.Kept o t := by
  refine ⟨_, rfl, ?_⟩
  exact (State.live_kept h (fun s0 h1 => (State.replayExpiry_kept h1)))

theorem execUpwardMessageRx_kept (h : State.Kept o s) : ∃ t, execUpwardMessageRx a0 a1 s = .next t ∧ State.Kept o t := by
  refine ⟨_, rfl, ?_⟩
  exact (State.live_kept h (fun s0 h1 => (State.upwardRx_kept h1)))

theorem execAuthProofRx_kept (h : State.Kept o s) : ∃ t, execAuthProofRx a0 a1 s = .next t ∧ State.Kept o t := by
  refine ⟨_, rfl, ?_⟩
  exact (State.live_kept h (fun s0 h1 => (State.settle_kept (State.authRx_kept h1))))

theorem execAuthChallengeRx_kept (h : State.Kept o s) : ∃ t, execAuthChallengeRx a0 a1 s = .next t ∧ State.Kept o t := by
  refine ⟨_, rfl, ?_⟩
  exact (State.live_kept h (fun s0 h1 => (State.settle_kept (State.authRx_kept h1))))

theorem execAuthTimeout_kept (h : State.Kept o s) : ∃ t, execAuthTimeout a0 s = .next t ∧ State.Kept o t := by
  refine ⟨_, rfl, ?_⟩
  exact (State.live_kept h (fun s0 h1 => (State.settle_kept (State.authTimeout_kept h1))))

theorem execAuthRetry_kept (h : State.Kept o s) : ∃ t, execAuthRetry a0 s = .next t ∧ State.Kept o t := by
  refine ⟨_, rfl, ?_⟩
  exact (State.live_kept h (fun s0 h1 => (State.settle_kept (State.authRetry_kept h1))))

theorem execRevertHoldoff_kept (h : State.Kept o s) : ∃ t, execRevertHoldoff s = .next t ∧ State.Kept o t := by
  refine ⟨_, rfl, ?_⟩
  exact (State.live_kept h (fun s0 h1 => (State.revertHoldoff_kept h1)))

theorem execSwitchUpstream_kept (h : State.Kept o s) : ∃ t, execSwitchUpstream a0 a1 s = .next t ∧ State.Kept o t := by
  refine ⟨_, rfl, ?_⟩
  exact (State.live_kept h (fun s0 h1 => (State.command_kept h1)))

theorem execKeyLoad_kept (h : State.Kept o s) : ∃ t, execKeyLoad a0 a1 s = .next t ∧ State.Kept o t := by
  refine ⟨_, rfl, ?_⟩
  exact (State.live_kept h (fun s0 h1 => (State.command_kept h1)))

theorem execKeyClear_kept (h : State.Kept o s) : ∃ t, execKeyClear a0 a1 s = .next t ∧ State.Kept o t := by
  refine ⟨_, rfl, ?_⟩
  exact (State.live_kept h (fun s0 h1 => (State.command_kept h1)))

end Sys2Proof.Machine
end

