-- ==== Sys2Proof/Laws/Kept/ExecTime.lean ====
section
/-! SUPPORT. What every command keeps: one lemma for each function of Machine/ExecTime.lean that changes the state. -/

namespace Sys2Proof.Machine

variable {o : Origin} {s : State}

theorem State.timeCell_kept (h : State.Kept o s) : State.Kept o (State.timeCell s a1 a2 a3) := by
  unfold State.timeCell
  split
  · rename_i x0 x1 x2
    have h3 : State.Kept o x1 := State.Kept.of_eq2 x2 (State.singleCell_kept h)
    exact h3
  · rename_i x4 x5 x6 x7
    have h8 : State.Kept o x6 := State.Kept.of_eq2 x7 (State.singleCell_kept h)
    split
    · rename_i x9 x10
      exact (State.syncRx_kept h8)
    · rename_i x11 x12
      exact (State.phaseRx_kept h8)
    · rename_i x13 x14 x15
      exact h8

theorem execTimeSyncRx_kept (h : State.Kept o s) : ∃ t, execTimeSyncRx a0 a1 a2 s = .next t ∧ State.Kept o t := by
  refine ⟨_, rfl, ?_⟩
  exact (State.live_kept h (fun s0 h1 => (State.settle_kept (State.timeCell_kept h1))))

theorem execTimePhaseRx_kept (h : State.Kept o s) : ∃ t, execTimePhaseRx a0 a1 a2 s = .next t ∧ State.Kept o t := by
  refine ⟨_, rfl, ?_⟩
  exact (State.live_kept h (fun s0 h1 => (State.settle_kept (State.timeCell_kept h1))))

theorem execSyncCellTx_kept (h : State.Kept o s) : ∃ t, execSyncCellTx a0 a1 s = .next t ∧ State.Kept o t := by
  refine ⟨_, rfl, ?_⟩
  exact (State.live_kept h (fun s0 h1 => (State.syncTx_kept h1)))

theorem execPhaseCellTx_kept (h : State.Kept o s) : ∃ t, execPhaseCellTx s = .next t ∧ State.Kept o t := by
  refine ⟨_, rfl, ?_⟩
  exact (State.live_kept h (fun s0 h1 => (State.phaseTx_kept h1)))

theorem execParentLost_kept (h : State.Kept o s) : ∃ t, execParentLost s = .next t ∧ State.Kept o t := by
  refine ⟨_, rfl, ?_⟩
  exact (State.live_kept h (fun s0 h1 => (State.settle_kept (State.parentLost_kept h1))))

theorem execHoldoverExpiry_kept (h : State.Kept o s) : ∃ t, execHoldoverExpiry s = .next t ∧ State.Kept o t := by
  refine ⟨_, rfl, ?_⟩
  exact (State.live_kept h (fun s0 h1 => (State.settle_kept (State.holdoverExpiry_kept h1))))

theorem execSetTime_kept (h : State.Kept o s) : ∃ t, execSetTime a0 s = .next t ∧ State.Kept o t := by
  refine ⟨_, rfl, ?_⟩
  exact (State.live_kept h (fun s0 h1 => (State.settle_kept (State.command_kept h1))))

theorem execStillExit_kept (h : State.Kept o s) : ∃ t, execStillExit a0 s = .next t ∧ State.Kept o t := by
  refine ⟨_, rfl, ?_⟩
  exact (State.live_kept h (fun s0 h1 => (State.command_kept h1)))

theorem execClapRestart_kept (h : State.Kept o s) : ∃ t, execClapRestart a0 a1 s = .next t ∧ State.Kept o t := by
  refine ⟨_, rfl, ?_⟩
  exact (State.live_kept h (fun s0 h1 => (State.command_kept h1)))

theorem execClapEdge_kept (h : State.Kept o s) : ∃ t, execClapEdge a0 a1 s = .next t ∧ State.Kept o t := by
  refine ⟨_, rfl, ?_⟩
  exact (State.live_kept h (fun s0 h1 => (State.clapEdge_kept h1)))

end Sys2Proof.Machine
end

