-- ==== Sys2Proof/Laws/Kept/ExecCompose.lean ====
section
/-! SUPPORT. What every command keeps: one lemma for each function of Machine/ExecCompose.lean that changes the state. -/

namespace Sys2Proof.Machine

variable {o : Origin} {s : State}

theorem execRetireFence_kept (h : State.Kept o s) : ∃ t, execRetireFence a0 a1 s = .next t ∧ State.Kept o t := by
  refine ⟨_, rfl, ?_⟩
  exact (State.live_kept h (fun s0 h1 => (State.retireFence_kept h1)))

theorem execOvlSignaturePost_kept (h : State.Kept o s) : ∃ t, execOvlSignaturePost s = .next t ∧ State.Kept o t := by
  refine ⟨_, rfl, ?_⟩
  exact (State.live_kept h (fun s0 h1 => (State.postOverlaySig_kept h1)))

theorem execLibDataWrite_kept (h : State.Kept o s) : ∃ t, execLibDataWrite a0 a1 s = .next t ∧ State.Kept o t := by
  refine ⟨_, rfl, ?_⟩
  exact (State.live_kept h (fun s0 h1 => (State.writeReg_kept h1)))

theorem execLibDataRead_kept (h : State.Kept o s) : ∃ t, execLibDataRead a0 s = .next t ∧ State.Kept o t := by
  refine ⟨_, rfl, ?_⟩
  exact (State.live_kept h (fun s0 h1 => (State.readReg_kept h1)))

theorem execOvlSeal_kept (h : State.Kept o s) : ∃ t, execOvlSeal a0 s = .next t ∧ State.Kept o t := by
  refine ⟨_, rfl, ?_⟩
  exact (State.live_kept h (fun s0 h1 => (State.command_kept h1)))

theorem execOvlUnseal_kept (h : State.Kept o s) : ∃ t, execOvlUnseal a0 s = .next t ∧ State.Kept o t := by
  refine ⟨_, rfl, ?_⟩
  exact (State.live_kept h (fun s0 h1 => (State.command_kept h1)))

theorem execCapture_kept (h : State.Kept o s) : ∃ t, execCapture a0 s = .next t ∧ State.Kept o t := by
  refine ⟨_, rfl, ?_⟩
  exact (State.live_kept h (fun s0 h1 => (State.command_kept h1)))

theorem execCapDone_kept (h : State.Kept o s) : ∃ t, execCapDone s = .next t ∧ State.Kept o t := by
  refine ⟨_, rfl, ?_⟩
  exact (State.live_kept h (fun s0 h1 => (State.capDone_kept h1)))

theorem execLibSealDone_kept (h : State.Kept o s) : ∃ t, execLibSealDone s = .next t ∧ State.Kept o t := by
  refine ⟨_, rfl, ?_⟩
  exact (State.live_kept h (fun s0 h1 => (State.libSealDone_kept h1)))

end Sys2Proof.Machine
end

