-- ==== Sys2Proof/Laws/Kept/ExecColour.lean ====
section
/-! SUPPORT. What every command keeps: one lemma for each function of Machine/ExecColour.lean that changes the state. -/

namespace Sys2Proof.Machine

variable {o : Origin} {s : State}

theorem State.wearPeriod_kept (h : State.Kept o s) : State.Kept o (State.wearPeriod s) := by
  unfold State.wearPeriod
  exact (State.periodicTrigger_kept (State.advanceTo_kept h))

theorem State.userCopied_kept (h : State.Kept o s) : State.Kept o (State.userCopied s) := by
  unfold State.userCopied
  split
  · rename_i x0 x1
    exact (State.userBackup_kept (State.userCopyDone_kept h))
  · rename_i x2 x3
    exact (State.userCopyDone_kept h)

theorem execRebuildStart_kept (h : State.Kept o s) : ∃ t, execRebuildStart s = .next t ∧ State.Kept o t := by
  refine ⟨_, rfl, ?_⟩
  exact (State.live_kept h (fun s0 h1 => (State.rebuildStart_kept h1)))

theorem execWearPhaseDone_kept (h : State.Kept o s) : ∃ t, execWearPhaseDone s = .next t ∧ State.Kept o t := by
  refine ⟨_, rfl, ?_⟩
  exact (State.live_kept h (fun s0 h1 => (State.wearPhaseDone_kept h1)))

theorem execRebuildDone_kept (h : State.Kept o s) : ∃ t, execRebuildDone s = .next t ∧ State.Kept o t := by
  refine ⟨_, rfl, ?_⟩
  exact (State.live_kept h (fun s0 h1 => (State.rebuildDone_kept h1)))

theorem execWearPeriodExpiry_kept (h : State.Kept o s) : ∃ t, execWearPeriodExpiry s = .next t ∧ State.Kept o t := by
  refine ⟨_, rfl, ?_⟩
  exact (State.live_kept h (fun s0 h1 => (State.wearPeriod_kept h1)))

theorem execTempStale_kept (h : State.Kept o s) : ∃ t, execTempStale a0 s = .next t ∧ State.Kept o t := by
  refine ⟨_, rfl, ?_⟩
  exact (State.live_kept h (fun s0 h1 => (State.tempStale_kept h1)))

theorem execBuildFactory_kept (h : State.Kept o s) : ∃ t, execBuildFactory a0 s = .next t ∧ State.Kept o t := by
  refine ⟨_, rfl, ?_⟩
  exact (State.live_kept h (fun s0 h1 => (State.command_kept h1)))

theorem execBuildFactoryDone_kept (h : State.Kept o s) : ∃ t, execBuildFactoryDone s = .next t ∧ State.Kept o t := by
  refine ⟨_, rfl, ?_⟩
  exact (State.live_kept h (fun s0 h1 => (State.buildFactoryDone_kept h1)))

theorem execLoadFactory_kept (h : State.Kept o s) : ∃ t, execLoadFactory a0 s = .next t ∧ State.Kept o t := by
  refine ⟨_, rfl, ?_⟩
  exact (State.live_kept h (fun s0 h1 => (State.command_kept h1)))

theorem execLoadFactoryDone_kept (h : State.Kept o s) : ∃ t, execLoadFactoryDone s = .next t ∧ State.Kept o t := by
  refine ⟨_, rfl, ?_⟩
  exact (State.live_kept h (fun s0 h1 => (State.loadFactoryDone_kept h1)))

theorem execSealFactory_kept (h : State.Kept o s) : ∃ t, execSealFactory a0 s = .next t ∧ State.Kept o t := by
  refine ⟨_, rfl, ?_⟩
  exact (State.live_kept h (fun s0 h1 => (State.command_kept h1)))

theorem execWriteUser_kept (h : State.Kept o s) : ∃ t, execWriteUser a0 a1 s = .next t ∧ State.Kept o t := by
  refine ⟨_, rfl, ?_⟩
  exact (State.live_kept h (fun s0 h1 => (State.command_kept h1)))

theorem execWriteUserDone_kept (h : State.Kept o s) : ∃ t, execWriteUserDone s = .next t ∧ State.Kept o t := by
  refine ⟨_, rfl, ?_⟩
  exact (State.live_kept h (fun s0 h1 => (State.writeUserDone_kept h1)))

theorem execApplyUser_kept (h : State.Kept o s) : ∃ t, execApplyUser a0 s = .next t ∧ State.Kept o t := by
  refine ⟨_, rfl, ?_⟩
  exact (State.live_kept h (fun s0 h1 => (State.command_kept h1)))

theorem execRestoreFactory_kept (h : State.Kept o s) : ∃ t, execRestoreFactory a0 s = .next t ∧ State.Kept o t := by
  refine ⟨_, rfl, ?_⟩
  exact (State.live_kept h (fun s0 h1 => (State.command_kept h1)))

theorem execUserCopyDone_kept (h : State.Kept o s) : ∃ t, execUserCopyDone s = .next t ∧ State.Kept o t := by
  refine ⟨_, rfl, ?_⟩
  exact (State.live_kept h (fun s0 h1 => (State.userCopied_kept h1)))

theorem execCadRebuild_kept (h : State.Kept o s) : ∃ t, execCadRebuild a0 s = .next t ∧ State.Kept o t := by
  refine ⟨_, rfl, ?_⟩
  exact (State.live_kept h (fun s0 h1 => (State.command_kept h1)))

theorem execDoseReset_kept (h : State.Kept o s) : ∃ t, execDoseReset a0 a1 s = .next t ∧ State.Kept o t := by
  refine ⟨_, rfl, ?_⟩
  exact (State.live_kept h (fun s0 h1 => (State.command_kept h1)))

theorem execMatteVerify_kept (h : State.Kept o s) : ∃ t, execMatteVerify a0 a1 s = .next t ∧ State.Kept o t := by
  refine ⟨_, rfl, ?_⟩
  exact (State.live_kept h (fun s0 h1 => (State.command_kept h1)))

theorem execVerifyDone_kept (h : State.Kept o s) : ∃ t, execVerifyDone s = .next t ∧ State.Kept o t := by
  refine ⟨_, rfl, ?_⟩
  exact (State.live_kept h (fun s0 h1 => (State.settle_kept (State.verifyEnd_kept h1))))

theorem execMatteSealWrite_kept (h : State.Kept o s) : ∃ t, execMatteSealWrite a0 a1 a2 a3 s = .next t ∧ State.Kept o t := by
  refine ⟨_, rfl, ?_⟩
  exact (State.live_kept h (fun s0 h1 => (State.writeReg_kept h1)))

theorem execProxyTapCode_kept (h : State.Kept o s) : ∃ t, execProxyTapCode a0 a1 a2 s = .next t ∧ State.Kept o t := by
  refine ⟨_, rfl, ?_⟩
  exact (State.live_kept h (fun s0 h1 => (State.tapCode_kept h1)))

end Sys2Proof.Machine
end

