-- ==== Sys2Proof/Laws/Kept/ExecRings.lean ====
section
/-! SUPPORT. What every command keeps: one lemma for each function of Machine/ExecRings.lean that changes the state. -/

namespace Sys2Proof.Machine

variable {o : Origin} {s : State}

theorem State.portTimeout_kept (h : State.Kept o s) : State.Kept o (State.portTimeout s a1 a2) := by
  unfold State.portTimeout
  exact (State.Kept.ite (State.diagTimeout_kept h) (State.responseTimeout_kept h))

theorem execTallyRespRx_kept (h : State.Kept o s) : ∃ t, execTallyRespRx a0 a1 s = .next t ∧ State.Kept o t := by
  refine ⟨_, rfl, ?_⟩
  exact (State.live_kept h (fun s0 h1 => (State.tallyRx_kept h1)))

theorem execAckRx_kept (h : State.Kept o s) : ∃ t, execAckRx a0 a1 s = .next t ∧ State.Kept o t := by
  refine ⟨_, rfl, ?_⟩
  exact (State.live_kept h (fun s0 h1 => (State.ackRx_kept h1)))

theorem execQueryRespRx_kept (h : State.Kept o s) : ∃ t, execQueryRespRx a0 a1 s = .next t ∧ State.Kept o t := by
  refine ⟨_, rfl, ?_⟩
  exact (State.live_kept h (fun s0 h1 => (State.queryRx_kept h1)))

theorem execDiagRespRx_kept (h : State.Kept o s) : ∃ t, execDiagRespRx a0 a1 s = .next t ∧ State.Kept o t := by
  refine ⟨_, rfl, ?_⟩
  exact (State.live_kept h (fun s0 h1 => (State.diagRx_kept h1)))

theorem execEventRx_kept (h : State.Kept o s) : ∃ t, execEventRx a0 a1 s = .next t ∧ State.Kept o t := by
  refine ⟨_, rfl, ?_⟩
  exact (State.live_kept h (fun s0 h1 => (State.eventRx_kept h1)))

theorem execEnumLoopedRx_kept (h : State.Kept o s) : ∃ t, execEnumLoopedRx a0 a1 s = .next t ∧ State.Kept o t := by
  refine ⟨_, rfl, ?_⟩
  exact (State.live_kept h (fun s0 h1 => (State.enumLooped_kept h1)))

theorem execResponseTimeout_kept (h : State.Kept o s) : ∃ t, execResponseTimeout a0 a1 s = .next t ∧ State.Kept o t := by
  refine ⟨_, rfl, ?_⟩
  exact (State.live_kept h (fun s0 h1 => (State.portTimeout_kept h1)))

theorem execDeliveryDone_kept (h : State.Kept o s) : ∃ t, execDeliveryDone a0 s = .next t ∧ State.Kept o t := by
  refine ⟨_, rfl, ?_⟩
  exact (State.live_kept h (fun s0 h1 => (State.deliveryDone_kept h1)))

theorem execEnumerate_kept (h : State.Kept o s) : ∃ t, execEnumerate a0 a1 s = .next t ∧ State.Kept o t := by
  refine ⟨_, rfl, ?_⟩
  exact (State.live_kept h (fun s0 h1 => (State.command_kept h1)))

theorem execDudClaim_kept (h : State.Kept o s) : ∃ t, execDudClaim a0 a1 a2 a3 s = .next t ∧ State.Kept o t := by
  refine ⟨_, rfl, ?_⟩
  exact (State.live_kept h (fun s0 h1 => (State.command_kept h1)))

theorem execDudQuery_kept (h : State.Kept o s) : ∃ t, execDudQuery a0 a1 s = .next t ∧ State.Kept o t := by
  refine ⟨_, rfl, ?_⟩
  exact (State.live_kept h (fun s0 h1 => (State.command_kept h1)))

theorem execSendConfig_kept (h : State.Kept o s) : ∃ t, execSendConfig a0 a1 a2 s = .next t ∧ State.Kept o t := by
  refine ⟨_, rfl, ?_⟩
  exact (State.live_kept h (fun s0 h1 => (State.command_kept h1)))

theorem execReadmit_kept (h : State.Kept o s) : ∃ t, execReadmit a0 a1 s = .next t ∧ State.Kept o t := by
  refine ⟨_, rfl, ?_⟩
  exact (State.live_kept h (fun s0 h1 => (State.command_kept h1)))

theorem execAutoReadmit_kept (h : State.Kept o s) : ∃ t, execAutoReadmit a0 s = .next t ∧ State.Kept o t := by
  refine ⟨_, rfl, ?_⟩
  exact (State.live_kept h (fun s0 h1 => (State.autoReadmit_kept h1)))

theorem execHbForceWrite_kept (h : State.Kept o s) : ∃ t, execHbForceWrite a0 a1 a2 s = .next t ∧ State.Kept o t := by
  refine ⟨_, rfl, ?_⟩
  exact (State.live_kept h (fun s0 h1 => (State.writeReg_kept h1)))

theorem execIdleFrameset_kept (h : State.Kept o s) : ∃ t, execIdleFrameset a0 s = .next t ∧ State.Kept o t := by
  refine ⟨_, rfl, ?_⟩
  exact (State.live_kept h (fun s0 h1 => (State.idleFrameset_kept h1)))

theorem execHeadroomStep_kept (h : State.Kept o s) : ∃ t, execHeadroomStep s = .next t ∧ State.Kept o t := by
  refine ⟨_, rfl, ?_⟩
  exact (State.live_kept h (fun s0 h1 => (State.headroomStep_kept h1)))

theorem execRailPoll_kept (h : State.Kept o s) : ∃ t, execRailPoll s = .next t ∧ State.Kept o t := by
  refine ⟨_, rfl, ?_⟩
  exact (State.live_kept h (fun s0 h1 => (State.railPoll_kept h1)))

theorem execPmbAlert_kept (h : State.Kept o s) : ∃ t, execPmbAlert a0 a1 s = .next t ∧ State.Kept o t := by
  refine ⟨_, rfl, ?_⟩
  exact (State.live_kept h (fun s0 h1 => (State.pmbAlert_kept h1)))

theorem execPmbusTransactionDone_kept (h : State.Kept o s) : ∃ t, execPmbusTransactionDone a0 a1 a2 s = .next t ∧ State.Kept o t := by
  refine ⟨_, rfl, ?_⟩
  exact (State.live_kept h (fun s0 h1 => (State.pmbusDone_kept h1)))

theorem execPmbusRetry_kept (h : State.Kept o s) : ∃ t, execPmbusRetry a0 s = .next t ∧ State.Kept o t := by
  refine ⟨_, rfl, ?_⟩
  exact (State.live_kept h (fun s0 h1 => (State.pmbusRetry_kept h1)))

theorem execReadStatus_kept (h : State.Kept o s) : ∃ t, execReadStatus a0 s = .next t ∧ State.Kept o t := by
  refine ⟨_, rfl, ?_⟩
  exact (State.live_kept h (fun s0 h1 => (State.command_kept h1)))

theorem execRingLockLoss_kept (h : State.Kept o s) : ∃ t, execRingLockLoss a0 s = .next t ∧ State.Kept o t := by
  refine ⟨_, rfl, ?_⟩
  exact (State.live_kept h (fun s0 h1 => (State.ringLockLoss_kept h1)))

end Sys2Proof.Machine
end

