-- ==== Sys2Proof/Laws/Kept/ExecDiag.lean ====
section
/-! SUPPORT. What every command keeps: one lemma for each function of Machine/ExecDiag.lean that changes the state. -/

namespace Sys2Proof.Machine

variable {o : Origin} {s : State}

theorem execDiagVisit_kept (h : State.Kept o s) : ∃ t, execDiagVisit a0 a1 a2 a3 s = .next t ∧ State.Kept o t := by
  refine ⟨_, rfl, ?_⟩
  exact (State.live_kept h (fun s0 h1 => (State.diagVisit_kept h1)))

theorem execDiagReportWrite_kept (h : State.Kept o s) : ∃ t, execDiagReportWrite s = .next t ∧ State.Kept o t := by
  refine ⟨_, rfl, ?_⟩
  exact (State.live_kept h (fun s0 h1 => (State.diagReportWrite_kept h1)))

theorem execInitMap_kept (h : State.Kept o s) : ∃ t, execInitMap a0 a1 s = .next t ∧ State.Kept o t := by
  refine ⟨_, rfl, ?_⟩
  exact (State.live_kept h (fun s0 h1 => (State.command_kept h1)))

theorem execInitMapDone_kept (h : State.Kept o s) : ∃ t, execInitMapDone s = .next t ∧ State.Kept o t := by
  refine ⟨_, rfl, ?_⟩
  exact (State.live_kept h (fun s0 h1 => (State.initMapDone_kept h1)))

theorem execBuildList_kept (h : State.Kept o s) : ∃ t, execBuildList a0 s = .next t ∧ State.Kept o t := by
  refine ⟨_, rfl, ?_⟩
  exact (State.live_kept h (fun s0 h1 => (State.command_kept h1)))

theorem execBuildListDone_kept (h : State.Kept o s) : ∃ t, execBuildListDone s = .next t ∧ State.Kept o t := by
  refine ⟨_, rfl, ?_⟩
  exact (State.live_kept h (fun s0 h1 => (State.buildListDone_kept h1)))

theorem execRelearn_kept (h : State.Kept o s) : ∃ t, execRelearn a0 a1 s = .next t ∧ State.Kept o t := by
  refine ⟨_, rfl, ?_⟩
  exact (State.live_kept h (fun s0 h1 => (State.command_kept h1)))

theorem execClearVerdict_kept (h : State.Kept o s) : ∃ t, execClearVerdict a0 a1 s = .next t ∧ State.Kept o t := by
  refine ⟨_, rfl, ?_⟩
  exact (State.live_kept h (fun s0 h1 => (State.command_kept h1)))

end Sys2Proof.Machine
end

