-- ==== Sys2Proof/Laws/Kept/ExecMemory.lean ====
section
/-! SUPPORT. What every command keeps: one lemma for each function of Machine/ExecMemory.lean that changes the state. -/

namespace Sys2Proof.Machine

variable {o : Origin} {s : State}

theorem execDramTransfer_kept (h : State.Kept o s) : ∃ t, execDramTransfer a0 s = .next t ∧ State.Kept o t := by
  refine ⟨_, rfl, ?_⟩
  exact (State.live_kept h (fun s0 h1 => (State.dramTransfer_kept h1)))

theorem execRefreshDue_kept (h : State.Kept o s) : ∃ t, execRefreshDue a0 s = .next t ∧ State.Kept o t := by
  refine ⟨_, rfl, ?_⟩
  exact (State.live_kept h (fun s0 h1 => (State.refresh_kept h1)))

theorem execRowIdleTimeout_kept (h : State.Kept o s) : ∃ t, execRowIdleTimeout a0 s = .next t ∧ State.Kept o t := by
  refine ⟨_, rfl, ?_⟩
  exact (State.live_kept h (fun s0 h1 => (State.rowIdle_kept h1)))

theorem execSwitchSet_kept (h : State.Kept o s) : ∃ t, execSwitchSet a0 a1 s = .next t ∧ State.Kept o t := by
  refine ⟨_, rfl, ?_⟩
  exact (State.live_kept h (fun s0 h1 => (State.command_kept h1)))

theorem execSwitchWindowOpen_kept (h : State.Kept o s) : ∃ t, execSwitchWindowOpen s = .next t ∧ State.Kept o t := by
  refine ⟨_, rfl, ?_⟩
  exact (State.live_kept h (fun s0 h1 => (State.switchWindow_kept h1)))

theorem execTrainSet_kept (h : State.Kept o s) : ∃ t, execTrainSet a0 a1 s = .next t ∧ State.Kept o t := by
  refine ⟨_, rfl, ?_⟩
  exact (State.live_kept h (fun s0 h1 => (State.command_kept h1)))

theorem execTrainingDone_kept (h : State.Kept o s) : ∃ t, execTrainingDone a0 a1 s = .next t ∧ State.Kept o t := by
  refine ⟨_, rfl, ?_⟩
  exact (State.live_kept h (fun s0 h1 => (State.restore_kept (State.trainingDone_kept h1))))

theorem execScrubNow_kept (h : State.Kept o s) : ∃ t, execScrubNow a0 s = .next t ∧ State.Kept o t := by
  refine ⟨_, rfl, ?_⟩
  exact (State.live_kept h (fun s0 h1 => (State.command_kept h1)))

theorem execScrubVisit_kept (h : State.Kept o s) : ∃ t, execScrubVisit a0 s = .next t ∧ State.Kept o t := by
  refine ⟨_, rfl, ?_⟩
  exact (State.live_kept h (fun s0 h1 => (State.scrubVisit_kept h1)))

theorem execScrubRepairVisit_kept (h : State.Kept o s) : ∃ t, execScrubRepairVisit a0 s = .next t ∧ State.Kept o t := by
  refine ⟨_, rfl, ?_⟩
  exact (State.live_kept h (fun s0 h1 => (State.scrubRepair_kept h1)))

theorem execSramPatrol_kept (h : State.Kept o s) : ∃ t, execSramPatrol a0 s = .next t ∧ State.Kept o t := by
  refine ⟨_, rfl, ?_⟩
  exact (State.live_kept h (fun s0 h1 => (State.sramPatrol_kept h1)))

theorem execArbCfgWrite_kept (h : State.Kept o s) : ∃ t, execArbCfgWrite a0 a1 a2 s = .next t ∧ State.Kept o t := by
  refine ⟨_, rfl, ?_⟩
  exact (State.live_kept h (fun s0 h1 => (State.writeReg_kept h1)))

theorem execPortCycle_kept (h : State.Kept o s) : ∃ t, execPortCycle a0 s = .next t ∧ State.Kept o t := by
  refine ⟨_, rfl, ?_⟩
  exact (State.live_kept h (fun s0 h1 => (State.portStep_kept h1)))

theorem execErrorReport_kept (h : State.Kept o s) : ∃ t, execErrorReport a0 a1 a2 a3 a4 a5 a6 a7 a8 s = .next t ∧ State.Kept o t := by
  refine ⟨_, rfl, ?_⟩
  exact (State.live_kept h (fun s0 h1 => (State.report_kept h1)))

theorem execBrokenWire_kept (h : State.Kept o s) : ∃ t, execBrokenWire a0 s = .next t ∧ State.Kept o t := by
  refine ⟨_, rfl, ?_⟩
  exact (State.live_kept h (fun s0 h1 => (State.breakWire_kept h1)))

theorem execBrokenWireClear_kept (h : State.Kept o s) : ∃ t, execBrokenWireClear a0 s = .next t ∧ State.Kept o t := by
  refine ⟨_, rfl, ?_⟩
  exact (State.live_kept h (fun s0 h1 => (State.mendWire_kept h1)))

theorem execCaptAckWrite_kept (h : State.Kept o s) : ∃ t, execCaptAckWrite a0 a1 s = .next t ∧ State.Kept o t := by
  refine ⟨_, rfl, ?_⟩
  exact (State.live_kept h (fun s0 h1 => (State.writeReg_kept h1)))

end Sys2Proof.Machine
end

