-- ==== Sys2Proof/Laws/Kept/ExecQueues.lean ====
section
/-! SUPPORT. What every command keeps: one lemma for each function of Machine/ExecQueues.lean that changes the state. -/

namespace Sys2Proof.Machine

variable {o : Origin} {s : State}

theorem execChkDataByte_kept (h : State.Kept o s) : ∃ t, execChkDataByte a0 a1 a2 s = .next t ∧ State.Kept o t := by
  refine ⟨_, rfl, ?_⟩
  exact (State.live_kept h (fun s0 h1 => (State.writeReg_kept h1)))

theorem execChkDataHalf_kept (h : State.Kept o s) : ∃ t, execChkDataHalf a0 a1 a2 s = .next t ∧ State.Kept o t := by
  refine ⟨_, rfl, ?_⟩
  exact (State.live_kept h (fun s0 h1 => (State.writeReg_kept h1)))

theorem execChkDataWord_kept (h : State.Kept o s) : ∃ t, execChkDataWord a0 a1 a2 s = .next t ∧ State.Kept o t := by
  refine ⟨_, rfl, ?_⟩
  exact (State.live_kept h (fun s0 h1 => (State.writeReg_kept h1)))

theorem execChkSeal_kept (h : State.Kept o s) : ∃ t, execChkSeal a0 a1 s = .next t ∧ State.Kept o t := by
  refine ⟨_, rfl, ?_⟩
  exact (State.live_kept h (fun s0 h1 => (State.command_kept h1)))

theorem execChkRestart_kept (h : State.Kept o s) : ∃ t, execChkRestart a0 a1 s = .next t ∧ State.Kept o t := by
  refine ⟨_, rfl, ?_⟩
  exact (State.live_kept h (fun s0 h1 => (State.command_kept h1)))

theorem execReelWrData_kept (h : State.Kept o s) : ∃ t, execReelWrData a0 a1 a2 s = .next t ∧ State.Kept o t := by
  refine ⟨_, rfl, ?_⟩
  exact (State.live_kept h (fun s0 h1 => (State.writeReg_kept h1)))

theorem execReelWriteResume_kept (h : State.Kept o s) : ∃ t, execReelWriteResume a0 s = .next t ∧ State.Kept o t := by
  refine ⟨_, rfl, ?_⟩
  exact (State.live_kept h (fun s0 h1 => (State.reelResume_kept h1)))

theorem execReelEnd_kept (h : State.Kept o s) : ∃ t, execReelEnd a0 a1 s = .next t ∧ State.Kept o t := by
  refine ⟨_, rfl, ?_⟩
  exact (State.live_kept h (fun s0 h1 => (State.writeReg_kept h1)))

theorem execReelAbort_kept (h : State.Kept o s) : ∃ t, execReelAbort a0 a1 s = .next t ∧ State.Kept o t := by
  refine ⟨_, rfl, ?_⟩
  exact (State.live_kept h (fun s0 h1 => (State.writeReg_kept h1)))

theorem execReelRdData_kept (h : State.Kept o s) : ∃ t, execReelRdData a0 a1 s = .next t ∧ State.Kept o t := by
  refine ⟨_, rfl, ?_⟩
  exact (State.live_kept h (fun s0 h1 => (State.readReg_kept h1)))

theorem execReelMark_kept (h : State.Kept o s) : ∃ t, execReelMark a0 a1 s = .next t ∧ State.Kept o t := by
  refine ⟨_, rfl, ?_⟩
  exact (State.live_kept h (fun s0 h1 => (State.writeReg_kept h1)))

theorem execReelRewind_kept (h : State.Kept o s) : ∃ t, execReelRewind a0 a1 s = .next t ∧ State.Kept o t := by
  refine ⟨_, rfl, ?_⟩
  exact (State.live_kept h (fun s0 h1 => (State.writeReg_kept h1)))

theorem execReelRelease_kept (h : State.Kept o s) : ∃ t, execReelRelease a0 a1 s = .next t ∧ State.Kept o t := by
  refine ⟨_, rfl, ?_⟩
  exact (State.live_kept h (fun s0 h1 => (State.writeReg_kept h1)))

theorem execReelFlush_kept (h : State.Kept o s) : ∃ t, execReelFlush a0 a1 s = .next t ∧ State.Kept o t := by
  refine ⟨_, rfl, ?_⟩
  exact (State.live_kept h (fun s0 h1 => (State.command_kept h1)))

theorem execPtrReset_kept (h : State.Kept o s) : ∃ t, execPtrReset a0 s = .next t ∧ State.Kept o t := by
  refine ⟨_, rfl, ?_⟩
  exact (State.live_kept h (fun s0 h1 => (State.reelFault_kept h1)))

end Sys2Proof.Machine
end

