-- ==== Sys2Proof/Laws/Kept/ExecSafety.lean ====
section
/-! SUPPORT. What every command keeps: one lemma for each function of Machine/ExecSafety.lean that changes the state. -/

namespace Sys2Proof.Machine

variable {o : Origin} {s : State}

theorem State.safetyFrame_kept (h : State.Kept o s) : State.Kept o (State.safetyFrame s a1 a2) := by
  unfold State.safetyFrame
  split
  · rename_i x0 x1 x2 x3
    have h4 : State.Kept o x2 := State.Kept.of_eq2 x3 (State.safetyRx_kept h)
    exact (State.message_kept h4)
  · rename_i x5 x6 x7
    have h8 : State.Kept o x6 := State.Kept.of_eq2 x7 (State.safetyRx_kept h)
    exact h8

theorem execSafeInChange_kept (h : State.Kept o s) : ∃ t, execSafeInChange a0 a1 a2 s = .next t ∧ State.Kept o t := by
  refine ⟨_, rfl, ?_⟩
  exact (State.live_kept h (fun s0 h1 => (State.safeInChange_kept h1)))

theorem execSafeInDemand_kept (h : State.Kept o s) : ∃ t, execSafeInDemand a0 a1 s = .next t ∧ State.Kept o t := by
  refine ⟨_, rfl, ?_⟩
  exact (State.live_kept h (fun s0 h1 => (State.safeInDemand_kept h1)))

theorem execInDisc_kept (h : State.Kept o s) : ∃ t, execInDisc a0 s = .next t ∧ State.Kept o t := by
  refine ⟨_, rfl, ?_⟩
  exact (State.live_kept h (fun s0 h1 => (State.inDisc_kept h1)))

theorem execSafetyFrameRx_kept (h : State.Kept o s) : ∃ t, execSafetyFrameRx a0 a1 s = .next t ∧ State.Kept o t := by
  refine ⟨_, rfl, ?_⟩
  exact (State.live_kept h (fun s0 h1 => (State.safetyFrame_kept h1)))

theorem execWatchdog_kept (h : State.Kept o s) : ∃ t, execWatchdog a0 s = .next t ∧ State.Kept o t := by
  refine ⟨_, rfl, ?_⟩
  exact (State.live_kept h (fun s0 h1 => (State.watchdog_kept h1)))

theorem execStatusFrameTx_kept (h : State.Kept o s) : ∃ t, execStatusFrameTx s = .next t ∧ State.Kept o t := by
  refine ⟨_, rfl, ?_⟩
  exact (State.live_kept h (fun s0 h1 => (State.statusTx_kept h1)))

theorem execTapSilent_kept (h : State.Kept o s) : ∃ t, execTapSilent a0 s = .next t ∧ State.Kept o t := by
  refine ⟨_, rfl, ?_⟩
  exact (State.live_kept h (fun s0 h1 => (State.tapSilent_kept h1)))

theorem execMatteSigCheck_kept (h : State.Kept o s) : ∃ t, execMatteSigCheck s = .next t ∧ State.Kept o t := by
  refine ⟨_, rfl, ?_⟩
  exact (State.live_kept h (fun s0 h1 => (State.matteSigCheck_kept h1)))

theorem execOvlSigCheck_kept (h : State.Kept o s) : ∃ t, execOvlSigCheck a0 a1 s = .next t ∧ State.Kept o t := by
  refine ⟨_, rfl, ?_⟩
  exact (State.live_kept h (fun s0 h1 => (State.ovlSigCheck_kept h1)))

/-- FB_CHANGE takes a group from CLOSING into PERMIT. -/
theorem execFbChange_kept (h : State.Kept o s) (hp : ∀ g, o.mayClose g → o.mayPermit g) :
    ∃ t, execFbChange a0 a1 s = .next t ∧ State.Kept o t :=
  ⟨_, rfl, State.Kept.ite (State.fbChange_kept h hp) h⟩

theorem execFbDisagree_kept (h : State.Kept o s) : ∃ t, execFbDisagree a0 s = .next t ∧ State.Kept o t := by
  refine ⟨_, rfl, ?_⟩
  exact (State.live_kept h (fun s0 h1 => (State.fbDisagree_kept h1)))

theorem execFbCloseTimeout_kept (h : State.Kept o s) : ∃ t, execFbCloseTimeout a0 s = .next t ∧ State.Kept o t := by
  refine ⟨_, rfl, ?_⟩
  exact (State.live_kept h (fun s0 h1 => (State.fbCloseTimeout_kept h1)))

theorem execFbOpenTimeout_kept (h : State.Kept o s) : ∃ t, execFbOpenTimeout a0 s = .next t ∧ State.Kept o t := by
  refine ⟨_, rfl, ?_⟩
  exact (State.live_kept h (fun s0 h1 => (State.fbOpenTimeout_kept h1)))

theorem execTestPulse_kept (h : State.Kept o s) : ∃ t, execTestPulse a0 a1 a2 a3 s = .next t ∧ State.Kept o t := by
  refine ⟨_, rfl, ?_⟩
  exact (State.live_kept h (fun s0 h1 => (State.testPulse_kept h1)))

/-- SAFE_RESET_EDGE takes a group from READY into CLOSING. -/
theorem execSafeResetEdge_kept (h : State.Kept o s) (hr : ∀ g, (s.group g).state = .ready → o.mayClose g) :
    ∃ t, execSafeResetEdge a0 s = .next t ∧ State.Kept o t :=
  ⟨_, rfl, State.Kept.ite (State.resetEdge_kept h hr) h⟩

theorem execResetRejected_kept (h : State.Kept o s) : ∃ t, execResetRejected s = .next t ∧ State.Kept o t := by
  refine ⟨_, rfl, ?_⟩
  exact (State.live_kept h (fun s0 h1 => (State.resetRejected_kept h1)))

theorem execSafeResetLowHeld_kept (h : State.Kept o s) : ∃ t, execSafeResetLowHeld s = .next t ∧ State.Kept o t := by
  refine ⟨_, rfl, ?_⟩
  exact (State.live_kept h (fun s0 h1 => (State.resetLowHeld_kept h1)))

theorem execSafeXinLow_kept (h : State.Kept o s) : ∃ t, execSafeXinLow s = .next t ∧ State.Kept o t := by
  refine ⟨_, rfl, ?_⟩
  exact (State.live_kept h (fun s0 h1 => (State.settle_kept (State.xinLow_kept h1))))

theorem execSafeXinHigh_kept (h : State.Kept o s) : ∃ t, execSafeXinHigh s = .next t ∧ State.Kept o t := by
  refine ⟨_, rfl, ?_⟩
  exact (State.live_kept h (fun s0 h1 => (State.settle_kept (State.xinUp_kept h1))))

theorem execClearLockout_kept (h : State.Kept o s) : ∃ t, execClearLockout a0 a1 s = .next t ∧ State.Kept o t := by
  refine ⟨_, rfl, ?_⟩
  exact (State.live_kept h (fun s0 h1 => (State.command_kept h1)))

theorem execHandoverBegin_kept (h : State.Kept o s) : ∃ t, execHandoverBegin a0 s = .next t ∧ State.Kept o t := by
  refine ⟨_, rfl, ?_⟩
  exact (State.live_kept h (fun s0 h1 => (State.command_kept h1)))

theorem execHandoverEnd_kept (h : State.Kept o s) : ∃ t, execHandoverEnd a0 s = .next t ∧ State.Kept o t := by
  refine ⟨_, rfl, ?_⟩
  exact (State.live_kept h (fun s0 h1 => (State.command_kept h1)))

theorem execSafTrip_kept (h : State.Kept o s) : ∃ t, execSafTrip a0 a1 s = .next t ∧ State.Kept o t := by
  refine ⟨_, rfl, ?_⟩
  exact (State.live_kept h (fun s0 h1 => (State.command_kept h1)))

theorem execHandoverExpired_kept (h : State.Kept o s) : ∃ t, execHandoverExpired s = .next t ∧ State.Kept o t := by
  refine ⟨_, rfl, ?_⟩
  exact (State.live_kept h (fun s0 h1 => (State.handoverExpired_kept h1)))

theorem execGrdAliveWrite_kept (h : State.Kept o s) : ∃ t, execGrdAliveWrite a0 a1 s = .next t ∧ State.Kept o t := by
  refine ⟨_, rfl, ?_⟩
  exact (State.live_kept h (fun s0 h1 => (State.writeReg_kept h1)))

theorem execSafSilent_kept (h : State.Kept o s) : ∃ t, execSafSilent s = .next t ∧ State.Kept o t := by
  refine ⟨_, rfl, ?_⟩
  exact (State.live_kept h (fun s0 h1 => (State.aliveTimeout_kept h1)))

theorem execSelfTestStart_kept (h : State.Kept o s) : ∃ t, execSelfTestStart a0 s = .next t ∧ State.Kept o t := by
  refine ⟨_, rfl, ?_⟩
  exact (State.live_kept h (fun s0 h1 => (State.selfTestStart_kept h1)))

theorem execSelfTestDone_kept (h : State.Kept o s) : ∃ t, execSelfTestDone a0 a1 s = .next t ∧ State.Kept o t := by
  refine ⟨_, rfl, ?_⟩
  exact (State.live_kept h (fun s0 h1 => (State.selfTestDone_kept h1)))

theorem execSafeOutCurrentLimit_kept (h : State.Kept o s) : ∃ t, execSafeOutCurrentLimit a0 s = .next t ∧ State.Kept o t := by
  refine ⟨_, rfl, ?_⟩
  exact (State.live_kept h (fun s0 h1 => (State.currentLimit_kept h1)))

end Sys2Proof.Machine
end

