-- ==== Sys2Proof/Laws/Kept/ExecPower.lean ====
section
/-! SUPPORT. What every command keeps: one lemma for each function of Machine/ExecPower.lean that changes the state. -/

namespace Sys2Proof.Machine

variable {o : Origin} {s : State}

theorem State.madcPosted_kept (h : State.Kept o s) : State.Kept o (State.madcPosted s a1 a2) := by
  unfold State.madcPosted
  extract_lets -merge -useContext -underBinder x0
  have h1 : State.Kept o x0 := (State.madcConversion_kept h)
  exact (State.Kept.ite (State.flashIssue_kept h1) h1)

theorem execDomainReqOn_kept (h : State.Kept o s) : ∃ t, execDomainReqOn a0 a1 s = .next t ∧ State.Kept o t := by
  refine ⟨_, rfl, ?_⟩
  exact (State.live_kept h (fun s0 h1 => (State.writeReg_kept h1)))

theorem execDomainReqRet_kept (h : State.Kept o s) : ∃ t, execDomainReqRet a0 a1 s = .next t ∧ State.Kept o t := by
  refine ⟨_, rfl, ?_⟩
  exact (State.live_kept h (fun s0 h1 => (State.writeReg_kept h1)))

theorem execDomainReqOff_kept (h : State.Kept o s) : ∃ t, execDomainReqOff a0 a1 s = .next t ∧ State.Kept o t := by
  refine ⟨_, rfl, ?_⟩
  exact (State.live_kept h (fun s0 h1 => (State.writeReg_kept h1)))

theorem execDomainReqIllegal_kept (h : State.Kept o s) : ∃ t, execDomainReqIllegal a0 a1 a2 s = .next t ∧ State.Kept o t := by
  refine ⟨_, rfl, ?_⟩
  exact (State.live_kept h (fun s0 h1 => (State.writeReg_kept h1)))

theorem execEntryAbandon_kept (h : State.Kept o s) : ∃ t, execEntryAbandon a0 s = .next t ∧ State.Kept o t := by
  refine ⟨_, rfl, ?_⟩
  exact (State.live_kept h (fun s0 h1 => (State.resume_kept (State.entryAbandon_kept h1))))

theorem execDomainEntryDone_kept (h : State.Kept o s) : ∃ t, execDomainEntryDone a0 s = .next t ∧ State.Kept o t := by
  refine ⟨_, rfl, ?_⟩
  exact (State.live_kept h (fun s0 h1 => (State.resume_kept (State.entryDone_kept h1))))

theorem execDomainExitDone_kept (h : State.Kept o s) : ∃ t, execDomainExitDone a0 s = .next t ∧ State.Kept o t := by
  refine ⟨_, rfl, ?_⟩
  exact (State.live_kept h (fun s0 h1 => (State.resume_kept (State.exitDone_kept h1))))

theorem execSignalDetect_kept (h : State.Kept o s) : ∃ t, execSignalDetect a0 s = .next t ∧ State.Kept o t := by
  refine ⟨_, rfl, ?_⟩
  exact (State.live_kept h (fun s0 h1 => (State.signalDetect_kept h1)))

theorem execWakeTimer_kept (h : State.Kept o s) : ∃ t, execWakeTimer s = .next t ∧ State.Kept o t := by
  refine ⟨_, rfl, ?_⟩
  exact (State.live_kept h (fun s0 h1 => (State.wakeTimer_kept h1)))

theorem execLpEnter_kept (h : State.Kept o s) : ∃ t, execLpEnter s = .next t ∧ State.Kept o t := by
  refine ⟨_, rfl, ?_⟩
  exact (State.live_kept h (fun s0 h1 => (State.lpEnter_kept h1)))

theorem execBrownout_kept (h : State.Kept o s) : ∃ t, execBrownout s = .next t ∧ State.Kept o t := by
  refine ⟨_, rfl, ?_⟩
  exact (State.live_kept h (fun s0 h1 => (State.resume_kept (State.brownout_kept h1))))

theorem execThmDemand_kept (h : State.Kept o s) : ∃ t, execThmDemand a0 a1 a2 s = .next t ∧ State.Kept o t := by
  refine ⟨_, rfl, ?_⟩
  exact (State.live_kept h (fun s0 h1 => (State.writeReg_kept h1)))

theorem execGuardDemand_kept (h : State.Kept o s) : ∃ t, execGuardDemand s = .next t ∧ State.Kept o t := by
  refine ⟨_, rfl, ?_⟩
  exact (State.live_kept h (fun s0 h1 => (State.guardDemand_kept h1)))

theorem execThmConversionDone_kept (h : State.Kept o s) : ∃ t, execThmConversionDone a0 a1 s = .next t ∧ State.Kept o t := by
  refine ⟨_, rfl, ?_⟩
  exact (State.live_kept h (fun s0 h1 => (State.conversionDone_kept h1)))

theorem execScalCheck_kept (h : State.Kept o s) : ∃ t, execScalCheck s = .next t ∧ State.Kept o t := by
  refine ⟨_, rfl, ?_⟩
  exact (State.live_kept h (fun s0 h1 => (State.scalCheck_kept h1)))

theorem execScalRun_kept (h : State.Kept o s) : ∃ t, execScalRun a0 a1 s = .next t ∧ State.Kept o t := by
  refine ⟨_, rfl, ?_⟩
  exact (State.live_kept h (fun s0 h1 => (State.command_kept h1)))

theorem execScalRunStart_kept (h : State.Kept o s) : ∃ t, execScalRunStart s = .next t ∧ State.Kept o t := by
  refine ⟨_, rfl, ?_⟩
  exact (State.live_kept h (fun s0 h1 => (State.scalRunStart_kept h1)))

theorem execScalMemberDone_kept (h : State.Kept o s) : ∃ t, execScalMemberDone a0 a1 a2 a3 s = .next t ∧ State.Kept o t := by
  refine ⟨_, rfl, ?_⟩
  exact (State.live_kept h (fun s0 h1 => (State.scalMemberDone_kept h1)))

theorem execScalRunDone_kept (h : State.Kept o s) : ∃ t, execScalRunDone s = .next t ∧ State.Kept o t := by
  refine ⟨_, rfl, ?_⟩
  exact (State.live_kept h (fun s0 h1 => (State.scalRunDone_kept h1)))

theorem execMadcConversion_kept (h : State.Kept o s) : ∃ t, execMadcConversion a0 a1 s = .next t ∧ State.Kept o t := by
  refine ⟨_, rfl, ?_⟩
  exact (State.live_kept h (fun s0 h1 => (State.madcPosted_kept h1)))

theorem execRefinGate_kept (h : State.Kept o s) : ∃ t, execRefinGate a0 s = .next t ∧ State.Kept o t := by
  refine ⟨_, rfl, ?_⟩
  exact (State.live_kept h (fun s0 h1 => (State.refinGate_kept h1)))

theorem execRefinLoss_kept (h : State.Kept o s) : ∃ t, execRefinLoss s = .next t ∧ State.Kept o t := by
  refine ⟨_, rfl, ?_⟩
  exact (State.live_kept h (fun s0 h1 => (State.refinLoss_kept h1)))

theorem execOscCountDone_kept (h : State.Kept o s) : ∃ t, execOscCountDone a0 s = .next t ∧ State.Kept o t := by
  refine ⟨_, rfl, ?_⟩
  exact (State.live_kept h (fun s0 h1 => (State.oscCountDone_kept h1)))

end Sys2Proof.Machine
end

