-- ==== Sys2Proof/Laws/Kept/ExecPair.lean ====
section
/-! SUPPORT. What every command keeps: one lemma for each function of Machine/ExecPair.lean that changes the state. -/

namespace Sys2Proof.Machine

variable {o : Origin} {s : State}

theorem execMirrorHeartbeatRx_kept (h : State.Kept o s) : ∃ t, execMirrorHeartbeatRx a0 a1 a2 a3 a4 a5 a6 a7 a8 s = .next t ∧ State.Kept o t := by
  refine ⟨_, rfl, ?_⟩
  exact (State.live_kept h (fun s0 h1 => (State.settle_kept (State.mirrorRx_kept h1 (fun s3 h4 => (State.heartbeatRx_kept h4))))))

theorem execMirrorCommitRx_kept (h : State.Kept o s) : ∃ t, execMirrorCommitRx a0 a1 a2 a3 a4 a5 s = .next t ∧ State.Kept o t := by
  refine ⟨_, rfl, ?_⟩
  exact (State.live_kept h (fun s0 h1 => (State.settle_kept (State.mirrorRx_kept h1 (fun s3 h4 => (State.mirrorCommitRx_kept h4))))))

theorem execMirrorOutcomeRx_kept (h : State.Kept o s) : ∃ t, execMirrorOutcomeRx a0 a1 a2 s = .next t ∧ State.Kept o t := by
  refine ⟨_, rfl, ?_⟩
  exact (State.live_kept h (fun s0 h1 => (State.settle_kept (State.mirrorRx_kept h1 (fun s3 h4 => (State.outcomeRx_kept h4))))))

theorem execOutcomeWaitExpiry_kept (h : State.Kept o s) : ∃ t, execOutcomeWaitExpiry a0 s = .next t ∧ State.Kept o t := by
  refine ⟨_, rfl, ?_⟩
  exact (State.live_kept h (fun s0 h1 => (State.settle_kept (State.outcomeExpiry_kept h1))))

theorem execMirrorBlockRx_kept (h : State.Kept o s) : ∃ t, execMirrorBlockRx a0 a1 a2 a3 a4 s = .next t ∧ State.Kept o t := by
  refine ⟨_, rfl, ?_⟩
  exact (State.live_kept h (fun s0 h1 => (State.settle_kept (State.mirrorRx_kept h1 (fun s3 h4 => (State.mirrorBlockRx_kept h4))))))

theorem execMirrorRebuildRx_kept (h : State.Kept o s) : ∃ t, execMirrorRebuildRx a0 a1 a2 a3 a4 s = .next t ∧ State.Kept o t := by
  refine ⟨_, rfl, ?_⟩
  exact (State.live_kept h (fun s0 h1 => (State.settle_kept (State.mirrorRx_kept h1 (fun s3 h4 => (State.mirrorRebuildRx_kept h4))))))

theorem execMirrorListRx_kept (h : State.Kept o s) : ∃ t, execMirrorListRx a0 a1 a2 a3 a4 s = .next t ∧ State.Kept o t := by
  refine ⟨_, rfl, ?_⟩
  exact (State.live_kept h (fun s0 h1 => (State.settle_kept (State.mirrorRx_kept h1 (fun s3 h4 => (State.mirrorListRx_kept h4))))))

theorem execMirrorCommandRx_kept (h : State.Kept o s) : ∃ t, execMirrorCommandRx a0 a1 a2 a3 s = .next t ∧ State.Kept o t := by
  refine ⟨_, rfl, ?_⟩
  exact (State.live_kept h (fun s0 h1 => (State.settle_kept (State.mirrorRx_kept h1 (fun s3 h4 => (State.mirrorCommandRx_kept h4))))))

theorem execMirrorSplitRx_kept (h : State.Kept o s) : ∃ t, execMirrorSplitRx a0 a1 a2 a3 a4 s = .next t ∧ State.Kept o t := by
  refine ⟨_, rfl, ?_⟩
  exact (State.live_kept h (fun s0 h1 => (State.settle_kept (State.mirrorRx_kept h1 (fun s3 h4 => (State.splitRx_kept h4))))))

theorem execMirrorYieldRx_kept (h : State.Kept o s) : ∃ t, execMirrorYieldRx a0 a1 s = .next t ∧ State.Kept o t := by
  refine ⟨_, rfl, ?_⟩
  exact (State.live_kept h (fun s0 h1 => (State.settle_kept (State.mirrorRx_kept h1 (fun s3 h4 => (State.yieldRx_kept h4))))))

theorem execMirrorTakenRx_kept (h : State.Kept o s) : ∃ t, execMirrorTakenRx a0 s = .next t ∧ State.Kept o t := by
  refine ⟨_, rfl, ?_⟩
  exact (State.live_kept h (fun s0 h1 => (State.settle_kept (State.mirrorRx_kept h1 (fun s3 h4 => (State.takenRx_kept h4))))))

theorem execMirrorResyncRx_kept (h : State.Kept o s) : ∃ t, execMirrorResyncRx a0 a1 s = .next t ∧ State.Kept o t := by
  refine ⟨_, rfl, ?_⟩
  exact (State.live_kept h (fun s0 h1 => (State.settle_kept (State.mirrorRx_kept h1 (fun s3 h4 => (State.resyncRx_kept h4))))))

theorem execMirrorDiagrespRx_kept (h : State.Kept o s) : ∃ t, execMirrorDiagrespRx a0 a1 a2 a3 a4 s = .next t ∧ State.Kept o t := by
  refine ⟨_, rfl, ?_⟩
  exact (State.live_kept h (fun s0 h1 => (State.settle_kept (State.mirrorRx_kept h1 (fun s3 h4 => (State.diagRespRx_kept h4))))))

theorem execHeartbeatMiss_kept (h : State.Kept o s) : ∃ t, execHeartbeatMiss s = .next t ∧ State.Kept o t := by
  refine ⟨_, rfl, ?_⟩
  exact (State.live_kept h (fun s0 h1 => (State.settle_kept (State.heartbeatMiss_kept h1))))

theorem execTakeover_kept (h : State.Kept o s) : ∃ t, execTakeover a0 s = .next t ∧ State.Kept o t := by
  refine ⟨_, rfl, ?_⟩
  exact (State.live_kept h (fun s0 h1 => (State.settle_kept (State.takeover_kept h1))))

theorem execTailPacketRx_kept (h : State.Kept o s) : ∃ t, execTailPacketRx a0 a1 a2 s = .next t ∧ State.Kept o t := by
  refine ⟨_, rfl, ?_⟩
  exact (State.live_kept h (fun s0 h1 => (State.settle_kept (State.tailPacket_kept h1))))

theorem execPairLeaseRenew_kept (h : State.Kept o s) : ∃ t, execPairLeaseRenew s = .next t ∧ State.Kept o t := by
  refine ⟨_, rfl, ?_⟩
  exact (State.live_kept h (fun s0 h1 => (State.leaseRenew_kept h1)))

theorem execResync_kept (h : State.Kept o s) : ∃ t, execResync a0 s = .next t ∧ State.Kept o t := by
  refine ⟨_, rfl, ?_⟩
  exact (State.live_kept h (fun s0 h1 => (State.settle_kept (State.command_kept h1))))

theorem execResyncCopyDone_kept (h : State.Kept o s) : ∃ t, execResyncCopyDone s = .next t ∧ State.Kept o t := by
  refine ⟨_, rfl, ?_⟩
  exact (State.live_kept h (fun s0 h1 => (State.settle_kept (State.resyncCopyDone_kept h1))))

theorem execSwitchover_kept (h : State.Kept o s) : ∃ t, execSwitchover a0 s = .next t ∧ State.Kept o t := by
  refine ⟨_, rfl, ?_⟩
  exact (State.live_kept h (fun s0 h1 => (State.settle_kept (State.command_kept h1))))

end Sys2Proof.Machine
end

