-- ==== Sys2Proof/Laws/Kept/ExecFirmware.lean ====
section
/-! SUPPORT. What every command keeps: one lemma for each function of Machine/ExecFirmware.lean that changes the state. -/

namespace Sys2Proof.Machine

variable {o : Origin} {s : State}

theorem State.stateVersion_kept (h : State.Kept o s) : State.Kept o (State.stateVersion s a1 a2) := by
  unfold State.stateVersion
  extract_lets -merge -useContext -underBinder x0
  exact (State.Kept.mk h rfl rfl rfl rfl rfl rfl)

theorem execUpdateStart_kept (h : State.Kept o s) : ∃ t, execUpdateStart a0 a1 s = .next t ∧ State.Kept o t := by
  refine ⟨_, rfl, ?_⟩
  exact (State.live_kept h (fun s0 h1 => (State.command_kept h1)))

theorem execUpdateAbort_kept (h : State.Kept o s) : ∃ t, execUpdateAbort a0 s = .next t ∧ State.Kept o t := by
  refine ⟨_, rfl, ?_⟩
  exact (State.live_kept h (fun s0 h1 => (State.command_kept h1)))

theorem execUpdateBlock_kept (h : State.Kept o s) : ∃ t, execUpdateBlock s = .next t ∧ State.Kept o t := by
  refine ⟨_, rfl, ?_⟩
  exact (State.live_kept h (fun s0 h1 => (State.updateBlock_kept h1)))

theorem execFwActivate_kept (h : State.Kept o s) : ∃ t, execFwActivate a0 s = .next t ∧ State.Kept o t := by
  refine ⟨_, rfl, ?_⟩
  exact (State.live_kept h (fun s0 h1 => (State.command_kept h1)))

theorem execActivateDone_kept (h : State.Kept o s) : ∃ t, execActivateDone s = .next t ∧ State.Kept o t := by
  refine ⟨_, rfl, ?_⟩
  exact (State.live_kept h (fun s0 h1 => (State.activateDone_kept h1)))

theorem execFwHandover_kept (h : State.Kept o s) : ∃ t, execFwHandover a0 a1 a2 s = .next t ∧ State.Kept o t := by
  refine ⟨_, rfl, ?_⟩
  exact (State.live_kept h (fun s0 h1 => (State.command_kept (State.stateVersion_kept h1))))

theorem execFwAliveWrite_kept (h : State.Kept o s) : ∃ t, execFwAliveWrite a0 a1 s = .next t ∧ State.Kept o t := by
  refine ⟨_, rfl, ?_⟩
  exact (State.live_kept h (fun s0 h1 => (State.writeReg_kept h1)))

theorem execHandoverRevert_kept (h : State.Kept o s) : ∃ t, execHandoverRevert s = .next t ∧ State.Kept o t := by
  refine ⟨_, rfl, ?_⟩
  exact (State.live_kept h (fun s0 h1 => (State.handoverRevert_kept h1)))

theorem execFwConfirm_kept (h : State.Kept o s) : ∃ t, execFwConfirm a0 s = .next t ∧ State.Kept o t := by
  refine ⟨_, rfl, ?_⟩
  exact (State.live_kept h (fun s0 h1 => (State.command_kept h1)))

theorem execSvnAdvance_kept (h : State.Kept o s) : ∃ t, execSvnAdvance a0 a1 s = .next t ∧ State.Kept o t := by
  refine ⟨_, rfl, ?_⟩
  exact (State.live_kept h (fun s0 h1 => (State.command_kept h1)))

theorem execRevokeKey_kept (h : State.Kept o s) : ∃ t, execRevokeKey a0 a1 s = .next t ∧ State.Kept o t := by
  refine ⟨_, rfl, ?_⟩
  exact (State.live_kept h (fun s0 h1 => (State.command_kept h1)))

theorem execCkptNow_kept (h : State.Kept o s) : ∃ t, execCkptNow a0 s = .next t ∧ State.Kept o t := by
  refine ⟨_, rfl, ?_⟩
  exact (State.live_kept h (fun s0 h1 => (State.command_kept h1)))

theorem execWearCheckpoint_kept (h : State.Kept o s) : ∃ t, execWearCheckpoint s = .next t ∧ State.Kept o t := by
  refine ⟨_, rfl, ?_⟩
  exact (State.live_kept h (fun s0 h1 => (State.wearCheckpoint_kept h1)))

theorem execDiagCheckpoint_kept (h : State.Kept o s) : ∃ t, execDiagCheckpoint s = .next t ∧ State.Kept o t := by
  refine ⟨_, rfl, ?_⟩
  exact (State.live_kept h (fun s0 h1 => (State.diagCheckpoint_kept h1)))

theorem execFlashOpIssue_kept (h : State.Kept o s) : ∃ t, execFlashOpIssue s = .next t ∧ State.Kept o t := by
  refine ⟨_, rfl, ?_⟩
  exact (State.live_kept h (fun s0 h1 => (State.flashIssue_kept h1)))

theorem execFlashOpDone_kept (h : State.Kept o s) : ∃ t, execFlashOpDone a0 s = .next t ∧ State.Kept o t := by
  refine ⟨_, rfl, ?_⟩
  exact (State.live_kept h (fun s0 h1 => (State.flashDone_kept h1)))

theorem execHoldTimeout_kept (h : State.Kept o s) : ∃ t, execHoldTimeout s = .next t ∧ State.Kept o t := by
  refine ⟨_, rfl, ?_⟩
  exact (State.live_kept h (fun s0 h1 => (State.holdTimeout_kept h1)))

theorem execDailiesPeriod_kept (h : State.Kept o s) : ∃ t, execDailiesPeriod s = .next t ∧ State.Kept o t := by
  refine ⟨_, rfl, ?_⟩
  exact (State.live_kept h (fun s0 h1 => (State.dailiesPeriod_kept h1)))

theorem execDlyRead_kept (h : State.Kept o s) : ∃ t, execDlyRead a0 s = .next t ∧ State.Kept o t := by
  refine ⟨_, rfl, ?_⟩
  exact (State.live_kept h (fun s0 h1 => (State.command_kept h1)))

theorem execDlyMark_kept (h : State.Kept o s) : ∃ t, execDlyMark a0 a1 s = .next t ∧ State.Kept o t := by
  refine ⟨_, rfl, ?_⟩
  exact (State.live_kept h (fun s0 h1 => (State.command_kept h1)))

end Sys2Proof.Machine
end

