-- ==== Sys2Proof/Laws/Kept/ExecReset.lean ====
section
/-! SUPPORT. What every command keeps: one lemma for each function of Machine/ExecReset.lean that changes the state. -/

namespace Sys2Proof.Machine

variable {o : Origin} {s : State}

theorem State.bench_kept (h : State.Kept o s) : State.Kept o (State.bench s a1 a2 a3) := by
  unfold State.bench
  exact (State.Kept.ite (State.issue_kept h) h)

theorem execPowerOnReset_kept (h : State.Kept o s) : ∃ t, execPowerOnReset a0 s = .next t ∧ State.Kept o t := by
  refine ⟨_, rfl, ?_⟩
  exact (State.powerOnReset_kept h)

theorem execNreset_kept (h : State.Kept o s) : ∃ t, execNreset a0 s = .next t ∧ State.Kept o t := by
  refine ⟨_, rfl, ?_⟩
  exact (State.live_kept h (fun s0 h1 => (State.nreset_kept h1)))

theorem execDeviceReset_kept (h : State.Kept o s) : ∃ t, execDeviceReset a0 s = .next t ∧ State.Kept o t := by
  refine ⟨_, rfl, ?_⟩
  exact (State.live_kept h (fun s0 h1 => (State.command_kept h1)))

theorem execMgtRestart_kept (h : State.Kept o s) : ∃ t, execMgtRestart a0 s = .next t ∧ State.Kept o t := by
  refine ⟨_, rfl, ?_⟩
  exact (State.live_kept h (fun s0 h1 => (State.command_kept h1)))

theorem execMgtHalt_kept (h : State.Kept o s) : ∃ t, execMgtHalt a0 s = .next t ∧ State.Kept o t := by
  refine ⟨_, rfl, ?_⟩
  exact (State.live_kept h (fun s0 h1 => (State.mgtHalt_kept h1)))

theorem execLoaderStepDone_kept (h : State.Kept o s) : ∃ t, execLoaderStepDone s = .next t ∧ State.Kept o t := by
  refine ⟨_, rfl, ?_⟩
  exact (State.live_kept h (fun s0 h1 => (State.loaderStep_kept h1)))

theorem execBenchAccess_kept (h : State.Kept o s) : ∃ t, execBenchAccess a0 a1 a2 s = .next t ∧ State.Kept o t := by
  refine ⟨_, rfl, ?_⟩
  exact (State.live_kept h (fun s0 h1 => (State.bench_kept h1)))

theorem execBenchDataWrite_kept (h : State.Kept o s) : ∃ t, execBenchDataWrite a0 s = .next t ∧ State.Kept o t := by
  refine ⟨_, rfl, ?_⟩
  exact (State.live_kept h (fun s0 h1 => (State.bench_kept h1)))

theorem execBenchStart_kept (h : State.Kept o s) : ∃ t, execBenchStart a0 s = .next t ∧ State.Kept o t := by
  refine ⟨_, rfl, ?_⟩
  exact (State.live_kept h (fun s0 h1 => (State.bench_kept h1)))

theorem execPowerDown_kept (h : State.Kept o s) : ∃ t, execPowerDown s = .next t ∧ State.Kept o t := by
  refine ⟨_, rfl, ?_⟩
  exact (State.powerDown_kept h)

end Sys2Proof.Machine
end

