-- ==== Sys2Proof/Laws/Kept/Exec.lean ====
section
/-! SUPPORT. Every command completes and keeps what the origin says: the one lemma the invariants of a step are read from. -/

namespace Sys2Proof.Machine

variable {o : Origin} {s : State}

/-- Every command answers a next state, and what holds on the way of a command holds of it. Only FB_CHANGE needs that a group
found in CLOSING may be found in PERMIT, and only SAFE_RESET_EDGE that a group in READY may be found in CLOSING. -/
theorem exec_kept (i : Instr) (h : State.Kept o s)
    (hp : (∃ g b, i = .fbChange g b) → ∀ g, o.mayClose g → o.mayPermit g)
    (hr : (∃ b, i = .safeResetEdge b) → ∀ g, (s.group g).state = .ready → o.mayClose g) :
    ∃ t, exec i s = .next t ∧ State.Kept o t :=
  match i with
  | .registerWrite _ _ _ => execRegisterWrite_kept h
  | .rcRead _ _ => execRcRead_kept h
  | .nowLoRead _ => execNowLoRead_kept h
  | .pageCommitGo _ _ _ => execPageCommitGo_kept h
  | .commitGroup _ _ => execCommitGroup_kept h
  | .groupSnapshot _ => execGroupSnapshot_kept h
  | .lockLease _ _ _ => execLockLease_kept h
  | .lockRelease _ _ => execLockRelease_kept h
  | .lockBreak _ _ => execLockBreak_kept h
  | .leaseExpiry _ => execLeaseExpiry_kept h
  | .cmdNone _ _ => execCmdNone_kept h
  | .discardShadow _ _ => execDiscardShadow_kept h
  | .clearCounters _ _ => execClearCounters_kept h
  | .evtClear _ _ _ => execEvtClear_kept h
  | .evtForce _ _ _ => execEvtForce_kept h
  | .evtEnableWrite _ _ _ => execEvtEnableWrite_kept h
  | .snapshotTake _ _ => execSnapshotTake_kept h
  | .snapshotDone _ => execSnapshotDone_kept h
  | .frameBoundary _ _ => execFrameBoundary_kept h
  | .slotBoundary _ => execSlotBoundary_kept h
  | .blankingStart => execBlankingStart_kept h
  | .cue => execCue_kept h
  | .peTileDone _ _ => execPeTileDone_kept h
  | .tileSignatureDeadline _ => execTileSignatureDeadline_kept h
  | .laneEnable _ => execLaneEnable_kept h
  | .seekDwellEnd _ => execSeekDwellEnd_kept h
  | .seekMessageRx _ _ => execSeekMessageRx_kept h
  | .leaderMessageRx _ _ _ _ => execLeaderMessageRx_kept h
  | .trainTimeout _ => execTrainTimeout_kept h
  | .laneLock _ => execLaneLock_kept h
  | .trainingFrameRx _ _ _ _ _ _ _ _ _ => execTrainingFrameRx_kept h
  | .fomWindowDone _ _ _ _ _ => execFomWindowDone_kept h
  | .confirmMeasureDone _ _ _ => execConfirmMeasureDone_kept h
  | .fomFail _ => execFomFail_kept h
  | .lossOfSignal _ _ => execLossOfSignal_kept h
  | .runStable _ => execRunStable_kept h
  | .retrain _ _ => execRetrain_kept h
  | .testEnter _ _ => execTestEnter_kept h
  | .inject _ _ _ => execInject_kept h
  | .testExit _ _ => execTestExit_kept h
  | .resetCeiling _ _ => execResetCeiling_kept h
  | .sentinelCellRx _ _ => execSentinelCellRx_kept h
  | .markerRx _ _ _ => execMarkerRx_kept h
  | .videoBurstRx _ _ => execVideoBurstRx_kept h
  | .ingestBlockWrite => execIngestBlockWrite_kept h
  | .ctlRead _ _ => execCtlRead_kept h
  | .ctlWrite _ _ => execCtlWrite_kept h
  | .ctlMailbox _ _ => execCtlMailbox_kept h
  | .replayEntryExpiry _ => execReplayEntryExpiry_kept h
  | .upwardMessageRx _ _ => execUpwardMessageRx_kept h
  | .authProofRx _ _ => execAuthProofRx_kept h
  | .authChallengeRx _ _ => execAuthChallengeRx_kept h
  | .authTimeout _ => execAuthTimeout_kept h
  | .authRetry _ => execAuthRetry_kept h
  | .revertHoldoff => execRevertHoldoff_kept h
  | .switchUpstream _ _ => execSwitchUpstream_kept h
  | .keyLoad _ _ => execKeyLoad_kept h
  | .keyClear _ _ => execKeyClear_kept h
  | .timeSyncRx _ _ _ => execTimeSyncRx_kept h
  | .timePhaseRx _ _ _ => execTimePhaseRx_kept h
  | .syncCellTx _ _ => execSyncCellTx_kept h
  | .phaseCellTx => execPhaseCellTx_kept h
  | .parentLost => execParentLost_kept h
  | .holdoverExpiry => execHoldoverExpiry_kept h
  | .setTime _ => execSetTime_kept h
  | .stillExit _ => execStillExit_kept h
  | .clapRestart _ _ => execClapRestart_kept h
  | .clapEdge _ _ => execClapEdge_kept h
  | .retireFence _ _ => execRetireFence_kept h
  | .ovlSignaturePost => execOvlSignaturePost_kept h
  | .libDataWrite _ _ => execLibDataWrite_kept h
  | .libDataRead _ => execLibDataRead_kept h
  | .ovlSeal _ => execOvlSeal_kept h
  | .ovlUnseal _ => execOvlUnseal_kept h
  | .capture _ => execCapture_kept h
  | .capDone => execCapDone_kept h
  | .dramTransfer _ => execDramTransfer_kept h
  | .rebuildStart => execRebuildStart_kept h
  | .wearPhaseDone => execWearPhaseDone_kept h
  | .rebuildDone => execRebuildDone_kept h
  | .wearPeriodExpiry => execWearPeriodExpiry_kept h
  | .tempStale _ => execTempStale_kept h
  | .buildFactory _ => execBuildFactory_kept h
  | .buildFactoryDone => execBuildFactoryDone_kept h
  | .loadFactory _ => execLoadFactory_kept h
  | .loadFactoryDone => execLoadFactoryDone_kept h
  | .sealFactory _ => execSealFactory_kept h
  | .writeUser _ _ => execWriteUser_kept h
  | .writeUserDone => execWriteUserDone_kept h
  | .applyUser _ => execApplyUser_kept h
  | .restoreFactory _ => execRestoreFactory_kept h
  | .userCopyDone => execUserCopyDone_kept h
  | .cadRebuild _ => execCadRebuild_kept h
  | .doseReset _ _ => execDoseReset_kept h
  | .matteVerify _ _ => execMatteVerify_kept h
  | .verifyDone => execVerifyDone_kept h
  | .matteSealWrite _ _ _ _ => execMatteSealWrite_kept h
  | .proxyTapCode _ _ _ => execProxyTapCode_kept h
  | .tallyRespRx _ _ => execTallyRespRx_kept h
  | .ackRx _ _ => execAckRx_kept h
  | .queryRespRx _ _ => execQueryRespRx_kept h
  | .diagRespRx _ _ => execDiagRespRx_kept h
  | .eventRx _ _ => execEventRx_kept h
  | .enumLoopedRx _ _ => execEnumLoopedRx_kept h
  | .responseTimeout _ _ => execResponseTimeout_kept h
  | .deliveryDone _ => execDeliveryDone_kept h
  | .enumerate _ _ => execEnumerate_kept h
  | .dudClaim _ _ _ _ => execDudClaim_kept h
  | .dudQuery _ _ => execDudQuery_kept h
  | .sendConfig _ _ _ => execSendConfig_kept h
  | .readmit _ _ => execReadmit_kept h
  | .autoReadmit _ => execAutoReadmit_kept h
  | .hbForceWrite _ _ _ => execHbForceWrite_kept h
  | .idleFrameset _ => execIdleFrameset_kept h
  | .headroomStep => execHeadroomStep_kept h
  | .railPoll => execRailPoll_kept h
  | .pmbAlert _ _ => execPmbAlert_kept h
  | .pmbusTransactionDone _ _ _ => execPmbusTransactionDone_kept h
  | .pmbusRetry _ => execPmbusRetry_kept h
  | .readStatus _ => execReadStatus_kept h
  | .diagVisit _ _ _ _ => execDiagVisit_kept h
  | .diagReportWrite => execDiagReportWrite_kept h
  | .initMap _ _ => execInitMap_kept h
  | .initMapDone => execInitMapDone_kept h
  | .buildList _ => execBuildList_kept h
  | .buildListDone => execBuildListDone_kept h
  | .relearn _ _ => execRelearn_kept h
  | .clearVerdict _ _ => execClearVerdict_kept h
  | .refreshDue _ => execRefreshDue_kept h
  | .rowIdleTimeout _ => execRowIdleTimeout_kept h
  | .switchSet _ _ => execSwitchSet_kept h
  | .switchWindowOpen => execSwitchWindowOpen_kept h
  | .trainSet _ _ => execTrainSet_kept h
  | .trainingDone _ _ => execTrainingDone_kept h
  | .scrubNow _ => execScrubNow_kept h
  | .scrubVisit _ => execScrubVisit_kept h
  | .scrubRepairVisit _ => execScrubRepairVisit_kept h
  | .sramPatrol _ => execSramPatrol_kept h
  | .arbCfgWrite _ _ _ => execArbCfgWrite_kept h
  | .errorReport _ _ _ _ _ _ _ _ _ => execErrorReport_kept h
  | .brokenWire _ => execBrokenWire_kept h
  | .captAckWrite _ _ => execCaptAckWrite_kept h
  | .chkDataByte _ _ _ => execChkDataByte_kept h
  | .chkDataHalf _ _ _ => execChkDataHalf_kept h
  | .chkDataWord _ _ _ => execChkDataWord_kept h
  | .chkSeal _ _ => execChkSeal_kept h
  | .chkRestart _ _ => execChkRestart_kept h
  | .reelWrData _ _ _ => execReelWrData_kept h
  | .reelWriteResume _ => execReelWriteResume_kept h
  | .reelEnd _ _ => execReelEnd_kept h
  | .reelAbort _ _ => execReelAbort_kept h
  | .reelRdData _ _ => execReelRdData_kept h
  | .reelMark _ _ => execReelMark_kept h
  | .reelRewind _ _ => execReelRewind_kept h
  | .reelRelease _ _ => execReelRelease_kept h
  | .reelFlush _ _ => execReelFlush_kept h
  | .ptrReset _ => execPtrReset_kept h
  | .safeInChange _ _ _ => execSafeInChange_kept h
  | .safeInDemand _ _ => execSafeInDemand_kept h
  | .inDisc _ => execInDisc_kept h
  | .safetyFrameRx _ _ => execSafetyFrameRx_kept h
  | .watchdog _ => execWatchdog_kept h
  | .statusFrameTx => execStatusFrameTx_kept h
  | .tapSilent _ => execTapSilent_kept h
  | .matteSigCheck => execMatteSigCheck_kept h
  | .ovlSigCheck _ _ => execOvlSigCheck_kept h
  | .fbChange _ _ => execFbChange_kept h (hp ⟨_, _, rfl⟩)
  | .fbDisagree _ => execFbDisagree_kept h
  | .fbCloseTimeout _ => execFbCloseTimeout_kept h
  | .fbOpenTimeout _ => execFbOpenTimeout_kept h
  | .testPulse _ _ _ _ => execTestPulse_kept h
  | .safeResetEdge _ => execSafeResetEdge_kept h (hr ⟨_, rfl⟩)
  | .resetRejected => execResetRejected_kept h
  | .safeXinLow => execSafeXinLow_kept h
  | .clearLockout _ _ => execClearLockout_kept h
  | .handoverBegin _ => execHandoverBegin_kept h
  | .handoverEnd _ => execHandoverEnd_kept h
  | .safTrip _ _ => execSafTrip_kept h
  | .handoverExpired => execHandoverExpired_kept h
  | .grdAliveWrite _ _ => execGrdAliveWrite_kept h
  | .safSilent => execSafSilent_kept h
  | .selfTestStart _ => execSelfTestStart_kept h
  | .selfTestDone _ _ => execSelfTestDone_kept h
  | .safeOutCurrentLimit _ => execSafeOutCurrentLimit_kept h
  | .domainReqOn _ _ => execDomainReqOn_kept h
  | .domainReqRet _ _ => execDomainReqRet_kept h
  | .domainReqOff _ _ => execDomainReqOff_kept h
  | .domainReqIllegal _ _ _ => execDomainReqIllegal_kept h
  | .entryAbandon _ => execEntryAbandon_kept h
  | .domainEntryDone _ => execDomainEntryDone_kept h
  | .domainExitDone _ => execDomainExitDone_kept h
  | .signalDetect _ => execSignalDetect_kept h
  | .wakeTimer => execWakeTimer_kept h
  | .lpEnter => execLpEnter_kept h
  | .brownout => execBrownout_kept h
  | .thmDemand _ _ _ => execThmDemand_kept h
  | .guardDemand => execGuardDemand_kept h
  | .thmConversionDone _ _ => execThmConversionDone_kept h
  | .scalCheck => execScalCheck_kept h
  | .scalRun _ _ => execScalRun_kept h
  | .scalRunStart => execScalRunStart_kept h
  | .scalMemberDone _ _ _ _ => execScalMemberDone_kept h
  | .scalRunDone => execScalRunDone_kept h
  | .madcConversion _ _ => execMadcConversion_kept h
  | .refinGate _ => execRefinGate_kept h
  | .refinLoss => execRefinLoss_kept h
  | .oscCountDone _ => execOscCountDone_kept h
  | .mirrorHeartbeatRx _ _ _ _ _ _ _ _ _ => execMirrorHeartbeatRx_kept h
  | .mirrorCommitRx _ _ _ _ _ _ => execMirrorCommitRx_kept h
  | .mirrorOutcomeRx _ _ _ => execMirrorOutcomeRx_kept h
  | .outcomeWaitExpiry _ => execOutcomeWaitExpiry_kept h
  | .mirrorBlockRx _ _ _ _ _ => execMirrorBlockRx_kept h
  | .mirrorRebuildRx _ _ _ _ _ => execMirrorRebuildRx_kept h
  | .mirrorListRx _ _ _ _ _ => execMirrorListRx_kept h
  | .mirrorCommandRx _ _ _ _ => execMirrorCommandRx_kept h
  | .mirrorSplitRx _ _ _ _ _ => execMirrorSplitRx_kept h
  | .mirrorYieldRx _ _ => execMirrorYieldRx_kept h
  | .mirrorTakenRx _ => execMirrorTakenRx_kept h
  | .mirrorResyncRx _ _ => execMirrorResyncRx_kept h
  | .mirrorDiagrespRx _ _ _ _ _ => execMirrorDiagrespRx_kept h
  | .heartbeatMiss => execHeartbeatMiss_kept h
  | .takeover _ => execTakeover_kept h
  | .tailPacketRx _ _ _ => execTailPacketRx_kept h
  | .pairLeaseRenew => execPairLeaseRenew_kept h
  | .resync _ => execResync_kept h
  | .resyncCopyDone => execResyncCopyDone_kept h
  | .switchover _ => execSwitchover_kept h
  | .updateStart _ _ => execUpdateStart_kept h
  | .updateAbort _ => execUpdateAbort_kept h
  | .updateBlock => execUpdateBlock_kept h
  | .fwActivate _ => execFwActivate_kept h
  | .activateDone => execActivateDone_kept h
  | .fwHandover _ _ _ => execFwHandover_kept h
  | .fwAliveWrite _ _ => execFwAliveWrite_kept h
  | .handoverRevert => execHandoverRevert_kept h
  | .fwConfirm _ => execFwConfirm_kept h
  | .svnAdvance _ _ => execSvnAdvance_kept h
  | .revokeKey _ _ => execRevokeKey_kept h
  | .ckptNow _ => execCkptNow_kept h
  | .wearCheckpoint => execWearCheckpoint_kept h
  | .diagCheckpoint => execDiagCheckpoint_kept h
  | .flashOpIssue => execFlashOpIssue_kept h
  | .flashOpDone _ => execFlashOpDone_kept h
  | .holdTimeout => execHoldTimeout_kept h
  | .dailiesPeriod => execDailiesPeriod_kept h
  | .dlyRead _ => execDlyRead_kept h
  | .dlyMark _ _ => execDlyMark_kept h
  | .powerOnReset _ => execPowerOnReset_kept h
  | .nreset _ => execNreset_kept h
  | .deviceReset _ => execDeviceReset_kept h
  | .mgtRestart _ => execMgtRestart_kept h
  | .mgtHalt _ => execMgtHalt_kept h
  | .loaderStepDone => execLoaderStepDone_kept h
  | .benchAccess _ _ _ => execBenchAccess_kept h
  | .benchDataWrite _ => execBenchDataWrite_kept h
  | .benchStart _ => execBenchStart_kept h
  | .portCycle _ => execPortCycle_kept h
  | .brokenWireClear _ => execBrokenWireClear_kept h
  | .safeXinHigh => execSafeXinHigh_kept h
  | .safeResetLowHeld => execSafeResetLowHeld_kept h
  | .prbsLock _ => execPrbsLock_kept h
  | .prbsLockLoss _ _ => execPrbsLockLoss_kept h
  | .ringLockLoss _ => execRingLockLoss_kept h
  | .libSealDone => execLibSealDone_kept h
  | .injectDone _ _ => execInjectDone_kept h
  | .powerDown => execPowerDown_kept h

/-- What a command finds, where each group may stay in CLOSING or in PERMIT if it was found there. -/
def State.origin (s : State) : Origin :=
  { otp := s.otp, pending := s.pending,
    mayClose := fun g => (s.group g).state = .closing, mayPermit := fun g => (s.group g).state = .permit }

theorem State.Inv.kept_origin (h : s.Inv) : State.Kept s.origin s :=
  ⟨h.1, h.2, ⟨rfl, Nat.or_self _, Nat.le_refl _, Nat.le_refl _, id, id⟩, rfl, fun _ => ⟨id, id⟩⟩

end Sys2Proof.Machine
end

