-- ==== Sys2Proof/Laws/State.lean ====
section
/-! SUPPORT. What reads back after each basic operation: one small lemma for each operation and each part of the state, so that
no proof unfolds a record update. -/

namespace Sys2Proof.Machine

variable (s : State) (p q a b v w b1 off n : Nat)

/-! ### Fields of State that an operation leaves alone -/

@[simp] theorem State.setWord_pending (x : Word) : (s.setWord a x).pending = s.pending := rfl
@[simp] theorem State.setWord_mono (x : Word) : (s.setWord a x).mono = s.mono := rfl
@[simp] theorem State.setWord_free (x : Word) : (s.setWord a x).free = s.free := rfl
@[simp] theorem State.setWord_lanes (x : Word) : (s.setWord a x).lanes = s.lanes := rfl
@[simp] theorem State.setWord_trains (x : Word) : (s.setWord a x).trains = s.trains := rfl
@[simp] theorem State.setWord_links (x : Word) : (s.setWord a x).links = s.links := rfl
@[simp] theorem State.setWord_transport (x : Word) : (s.setWord a x).transport = s.transport := rfl
@[simp] theorem State.setWord_time (x : Word) : (s.setWord a x).time = s.time := rfl
@[simp] theorem State.setWord_cmp (x : Word) : (s.setWord a x).cmp = s.cmp := rfl
@[simp] theorem State.setWord_cad (x : Word) : (s.setWord a x).cad = s.cad := rfl
@[simp] theorem State.setWord_matte (x : Word) : (s.setWord a x).matte = s.matte := rfl
@[simp] theorem State.setWord_duds (x : Word) : (s.setWord a x).duds = s.duds := rfl
@[simp] theorem State.setWord_gaf (x : Word) : (s.setWord a x).gaf = s.gaf := rfl
@[simp] theorem State.setWord_diag (x : Word) : (s.setWord a x).diag = s.diag := rfl
@[simp] theorem State.setWord_dram (x : Word) : (s.setWord a x).dram = s.dram := rfl
@[simp] theorem State.setWord_mem (x : Word) : (s.setWord a x).mem = s.mem := rfl
@[simp] theorem State.setWord_arb (x : Word) : (s.setWord a x).arb = s.arb := rfl
@[simp] theorem State.setWord_flt (x : Word) : (s.setWord a x).flt = s.flt := rfl
@[simp] theorem State.setWord_chks (x : Word) : (s.setWord a x).chks = s.chks := rfl
@[simp] theorem State.setWord_reels (x : Word) : (s.setWord a x).reels = s.reels := rfl
@[simp] theorem State.setWord_sram (x : Word) : (s.setWord a x).sram = s.sram := rfl
@[simp] theorem State.setWord_safe (x : Word) : (s.setWord a x).safe = s.safe := rfl
@[simp] theorem State.setWord_pwr (x : Word) : (s.setWord a x).pwr = s.pwr := rfl
@[simp] theorem State.setWord_thm (x : Word) : (s.setWord a x).thm = s.thm := rfl
@[simp] theorem State.setWord_scal (x : Word) : (s.setWord a x).scal = s.scal := rfl
@[simp] theorem State.setWord_pair (x : Word) : (s.setWord a x).pair = s.pair := rfl
@[simp] theorem State.setWord_fw (x : Word) : (s.setWord a x).fw = s.fw := rfl
@[simp] theorem State.setWord_flash (x : Word) : (s.setWord a x).flash = s.flash := rfl
@[simp] theorem State.setWord_otp (x : Word) : (s.setWord a x).otp = s.otp := rfl
@[simp] theorem State.setWord_boot (x : Word) : (s.setWord a x).boot = s.boot := rfl
@[simp] theorem State.setWord_waiting (x : Word) : (s.setWord a x).waiting = s.waiting := rfl
@[simp] theorem State.setWord_out (x : Word) : (s.setWord a x).out = s.out := rfl
@[simp] theorem State.setShadow_pending (x : Word) : (s.setShadow a x).pending = s.pending := rfl
@[simp] theorem State.setShadow_mono (x : Word) : (s.setShadow a x).mono = s.mono := rfl
@[simp] theorem State.setShadow_free (x : Word) : (s.setShadow a x).free = s.free := rfl
@[simp] theorem State.setShadow_lanes (x : Word) : (s.setShadow a x).lanes = s.lanes := rfl
@[simp] theorem State.setShadow_trains (x : Word) : (s.setShadow a x).trains = s.trains := rfl
@[simp] theorem State.setShadow_links (x : Word) : (s.setShadow a x).links = s.links := rfl
@[simp] theorem State.setShadow_transport (x : Word) : (s.setShadow a x).transport = s.transport := rfl
@[simp] theorem State.setShadow_time (x : Word) : (s.setShadow a x).time = s.time := rfl
@[simp] theorem State.setShadow_cmp (x : Word) : (s.setShadow a x).cmp = s.cmp := rfl
@[simp] theorem State.setShadow_cad (x : Word) : (s.setShadow a x).cad = s.cad := rfl
@[simp] theorem State.setShadow_matte (x : Word) : (s.setShadow a x).matte = s.matte := rfl
@[simp] theorem State.setShadow_duds (x : Word) : (s.setShadow a x).duds = s.duds := rfl
@[simp] theorem State.setShadow_gaf (x : Word) : (s.setShadow a x).gaf = s.gaf := rfl
@[simp] theorem State.setShadow_diag (x : Word) : (s.setShadow a x).diag = s.diag := rfl
@[simp] theorem State.setShadow_dram (x : Word) : (s.setShadow a x).dram = s.dram := rfl
@[simp] theorem State.setShadow_mem (x : Word) : (s.setShadow a x).mem = s.mem := rfl
@[simp] theorem State.setShadow_arb (x : Word) : (s.setShadow a x).arb = s.arb := rfl
@[simp] theorem State.setShadow_flt (x : Word) : (s.setShadow a x).flt = s.flt := rfl
@[simp] theorem State.setShadow_chks (x : Word) : (s.setShadow a x).chks = s.chks := rfl
@[simp] theorem State.setShadow_reels (x : Word) : (s.setShadow a x).reels = s.reels := rfl
@[simp] theorem State.setShadow_sram (x : Word) : (s.setShadow a x).sram = s.sram := rfl
@[simp] theorem State.setShadow_safe (x : Word) : (s.setShadow a x).safe = s.safe := rfl
@[simp] theorem State.setShadow_pwr (x : Word) : (s.setShadow a x).pwr = s.pwr := rfl
@[simp] theorem State.setShadow_thm (x : Word) : (s.setShadow a x).thm = s.thm := rfl
@[simp] theorem State.setShadow_scal (x : Word) : (s.setShadow a x).scal = s.scal := rfl
@[simp] theorem State.setShadow_pair (x : Word) : (s.setShadow a x).pair = s.pair := rfl
@[simp] theorem State.setShadow_fw (x : Word) : (s.setShadow a x).fw = s.fw := rfl
@[simp] theorem State.setShadow_flash (x : Word) : (s.setShadow a x).flash = s.flash := rfl
@[simp] theorem State.setShadow_otp (x : Word) : (s.setShadow a x).otp = s.otp := rfl
@[simp] theorem State.setShadow_boot (x : Word) : (s.setShadow a x).boot = s.boot := rfl
@[simp] theorem State.setShadow_waiting (x : Word) : (s.setShadow a x).waiting = s.waiting := rfl
@[simp] theorem State.setShadow_out (x : Word) : (s.setShadow a x).out = s.out := rfl
@[simp] theorem State.setSnapWord_pending (x : Word) : (s.setSnapWord a x).pending = s.pending := rfl
@[simp] theorem State.setSnapWord_mono (x : Word) : (s.setSnapWord a x).mono = s.mono := rfl
@[simp] theorem State.setSnapWord_free (x : Word) : (s.setSnapWord a x).free = s.free := rfl
@[simp] theorem State.setSnapWord_lanes (x : Word) : (s.setSnapWord a x).lanes = s.lanes := rfl
@[simp] theorem State.setSnapWord_trains (x : Word) : (s.setSnapWord a x).trains = s.trains := rfl
@[simp] theorem State.setSnapWord_links (x : Word) : (s.setSnapWord a x).links = s.links := rfl
@[simp] theorem State.setSnapWord_transport (x : Word) : (s.setSnapWord a x).transport = s.transport := rfl
@[simp] theorem State.setSnapWord_time (x : Word) : (s.setSnapWord a x).time = s.time := rfl
@[simp] theorem State.setSnapWord_cmp (x : Word) : (s.setSnapWord a x).cmp = s.cmp := rfl
@[simp] theorem State.setSnapWord_cad (x : Word) : (s.setSnapWord a x).cad = s.cad := rfl
@[simp] theorem State.setSnapWord_matte (x : Word) : (s.setSnapWord a x).matte = s.matte := rfl
@[simp] theorem State.setSnapWord_duds (x : Word) : (s.setSnapWord a x).duds = s.duds := rfl
@[simp] theorem State.setSnapWord_gaf (x : Word) : (s.setSnapWord a x).gaf = s.gaf := rfl
@[simp] theorem State.setSnapWord_diag (x : Word) : (s.setSnapWord a x).diag = s.diag := rfl
@[simp] theorem State.setSnapWord_dram (x : Word) : (s.setSnapWord a x).dram = s.dram := rfl
@[simp] theorem State.setSnapWord_mem (x : Word) : (s.setSnapWord a x).mem = s.mem := rfl
@[simp] theorem State.setSnapWord_arb (x : Word) : (s.setSnapWord a x).arb = s.arb := rfl
@[simp] theorem State.setSnapWord_flt (x : Word) : (s.setSnapWord a x).flt = s.flt := rfl
@[simp] theorem State.setSnapWord_chks (x : Word) : (s.setSnapWord a x).chks = s.chks := rfl
@[simp] theorem State.setSnapWord_reels (x : Word) : (s.setSnapWord a x).reels = s.reels := rfl
@[simp] theorem State.setSnapWord_sram (x : Word) : (s.setSnapWord a x).sram = s.sram := rfl
@[simp] theorem State.setSnapWord_safe (x : Word) : (s.setSnapWord a x).safe = s.safe := rfl
@[simp] theorem State.setSnapWord_pwr (x : Word) : (s.setSnapWord a x).pwr = s.pwr := rfl
@[simp] theorem State.setSnapWord_thm (x : Word) : (s.setSnapWord a x).thm = s.thm := rfl
@[simp] theorem State.setSnapWord_scal (x : Word) : (s.setSnapWord a x).scal = s.scal := rfl
@[simp] theorem State.setSnapWord_pair (x : Word) : (s.setSnapWord a x).pair = s.pair := rfl
@[simp] theorem State.setSnapWord_fw (x : Word) : (s.setSnapWord a x).fw = s.fw := rfl
@[simp] theorem State.setSnapWord_flash (x : Word) : (s.setSnapWord a x).flash = s.flash := rfl
@[simp] theorem State.setSnapWord_otp (x : Word) : (s.setSnapWord a x).otp = s.otp := rfl
@[simp] theorem State.setSnapWord_boot (x : Word) : (s.setSnapWord a x).boot = s.boot := rfl
@[simp] theorem State.setSnapWord_waiting (x : Word) : (s.setSnapWord a x).waiting = s.waiting := rfl
@[simp] theorem State.setSnapWord_out (x : Word) : (s.setSnapWord a x).out = s.out := rfl
@[simp] theorem State.setHdr_pending (x : Hdr) : (s.setHdr p x).pending = s.pending := rfl
@[simp] theorem State.setHdr_mono (x : Hdr) : (s.setHdr p x).mono = s.mono := rfl
@[simp] theorem State.setHdr_free (x : Hdr) : (s.setHdr p x).free = s.free := rfl
@[simp] theorem State.setHdr_lanes (x : Hdr) : (s.setHdr p x).lanes = s.lanes := rfl
@[simp] theorem State.setHdr_trains (x : Hdr) : (s.setHdr p x).trains = s.trains := rfl
@[simp] theorem State.setHdr_links (x : Hdr) : (s.setHdr p x).links = s.links := rfl
@[simp] theorem State.setHdr_transport (x : Hdr) : (s.setHdr p x).transport = s.transport := rfl
@[simp] theorem State.setHdr_time (x : Hdr) : (s.setHdr p x).time = s.time := rfl
@[simp] theorem State.setHdr_cmp (x : Hdr) : (s.setHdr p x).cmp = s.cmp := rfl
@[simp] theorem State.setHdr_cad (x : Hdr) : (s.setHdr p x).cad = s.cad := rfl
@[simp] theorem State.setHdr_matte (x : Hdr) : (s.setHdr p x).matte = s.matte := rfl
@[simp] theorem State.setHdr_duds (x : Hdr) : (s.setHdr p x).duds = s.duds := rfl
@[simp] theorem State.setHdr_gaf (x : Hdr) : (s.setHdr p x).gaf = s.gaf := rfl
@[simp] theorem State.setHdr_diag (x : Hdr) : (s.setHdr p x).diag = s.diag := rfl
@[simp] theorem State.setHdr_dram (x : Hdr) : (s.setHdr p x).dram = s.dram := rfl
@[simp] theorem State.setHdr_mem (x : Hdr) : (s.setHdr p x).mem = s.mem := rfl
@[simp] theorem State.setHdr_arb (x : Hdr) : (s.setHdr p x).arb = s.arb := rfl
@[simp] theorem State.setHdr_flt (x : Hdr) : (s.setHdr p x).flt = s.flt := rfl
@[simp] theorem State.setHdr_chks (x : Hdr) : (s.setHdr p x).chks = s.chks := rfl
@[simp] theorem State.setHdr_reels (x : Hdr) : (s.setHdr p x).reels = s.reels := rfl
@[simp] theorem State.setHdr_sram (x : Hdr) : (s.setHdr p x).sram = s.sram := rfl
@[simp] theorem State.setHdr_safe (x : Hdr) : (s.setHdr p x).safe = s.safe := rfl
@[simp] theorem State.setHdr_pwr (x : Hdr) : (s.setHdr p x).pwr = s.pwr := rfl
@[simp] theorem State.setHdr_thm (x : Hdr) : (s.setHdr p x).thm = s.thm := rfl
@[simp] theorem State.setHdr_scal (x : Hdr) : (s.setHdr p x).scal = s.scal := rfl
@[simp] theorem State.setHdr_pair (x : Hdr) : (s.setHdr p x).pair = s.pair := rfl
@[simp] theorem State.setHdr_fw (x : Hdr) : (s.setHdr p x).fw = s.fw := rfl
@[simp] theorem State.setHdr_flash (x : Hdr) : (s.setHdr p x).flash = s.flash := rfl
@[simp] theorem State.setHdr_otp (x : Hdr) : (s.setHdr p x).otp = s.otp := rfl
@[simp] theorem State.setHdr_boot (x : Hdr) : (s.setHdr p x).boot = s.boot := rfl
@[simp] theorem State.setHdr_waiting (x : Hdr) : (s.setHdr p x).waiting = s.waiting := rfl
@[simp] theorem State.setHdr_out (x : Hdr) : (s.setHdr p x).out = s.out := rfl
@[simp] theorem State.fset_pending (f : Fld) : (s.fset p f v).pending = s.pending := rfl
@[simp] theorem State.fset_mono (f : Fld) : (s.fset p f v).mono = s.mono := rfl
@[simp] theorem State.fset_free (f : Fld) : (s.fset p f v).free = s.free := rfl
@[simp] theorem State.fset_lanes (f : Fld) : (s.fset p f v).lanes = s.lanes := rfl
@[simp] theorem State.fset_trains (f : Fld) : (s.fset p f v).trains = s.trains := rfl
@[simp] theorem State.fset_links (f : Fld) : (s.fset p f v).links = s.links := rfl
@[simp] theorem State.fset_transport (f : Fld) : (s.fset p f v).transport = s.transport := rfl
@[simp] theorem State.fset_time (f : Fld) : (s.fset p f v).time = s.time := rfl
@[simp] theorem State.fset_cmp (f : Fld) : (s.fset p f v).cmp = s.cmp := rfl
@[simp] theorem State.fset_cad (f : Fld) : (s.fset p f v).cad = s.cad := rfl
@[simp] theorem State.fset_matte (f : Fld) : (s.fset p f v).matte = s.matte := rfl
@[simp] theorem State.fset_duds (f : Fld) : (s.fset p f v).duds = s.duds := rfl
@[simp] theorem State.fset_gaf (f : Fld) : (s.fset p f v).gaf = s.gaf := rfl
@[simp] theorem State.fset_diag (f : Fld) : (s.fset p f v).diag = s.diag := rfl
@[simp] theorem State.fset_dram (f : Fld) : (s.fset p f v).dram = s.dram := rfl
@[simp] theorem State.fset_mem (f : Fld) : (s.fset p f v).mem = s.mem := rfl
@[simp] theorem State.fset_arb (f : Fld) : (s.fset p f v).arb = s.arb := rfl
@[simp] theorem State.fset_flt (f : Fld) : (s.fset p f v).flt = s.flt := rfl
@[simp] theorem State.fset_chks (f : Fld) : (s.fset p f v).chks = s.chks := rfl
@[simp] theorem State.fset_reels (f : Fld) : (s.fset p f v).reels = s.reels := rfl
@[simp] theorem State.fset_sram (f : Fld) : (s.fset p f v).sram = s.sram := rfl
@[simp] theorem State.fset_safe (f : Fld) : (s.fset p f v).safe = s.safe := rfl
@[simp] theorem State.fset_pwr (f : Fld) : (s.fset p f v).pwr = s.pwr := rfl
@[simp] theorem State.fset_thm (f : Fld) : (s.fset p f v).thm = s.thm := rfl
@[simp] theorem State.fset_scal (f : Fld) : (s.fset p f v).scal = s.scal := rfl
@[simp] theorem State.fset_pair (f : Fld) : (s.fset p f v).pair = s.pair := rfl
@[simp] theorem State.fset_fw (f : Fld) : (s.fset p f v).fw = s.fw := rfl
@[simp] theorem State.fset_flash (f : Fld) : (s.fset p f v).flash = s.flash := rfl
@[simp] theorem State.fset_otp (f : Fld) : (s.fset p f v).otp = s.otp := rfl
@[simp] theorem State.fset_boot (f : Fld) : (s.fset p f v).boot = s.boot := rfl
@[simp] theorem State.fset_waiting (f : Fld) : (s.fset p f v).waiting = s.waiting := rfl
@[simp] theorem State.fset_out (f : Fld) : (s.fset p f v).out = s.out := rfl
@[simp] theorem State.emit_pending (x : Out) : (s.emit x).pending = s.pending := rfl
@[simp] theorem State.emit_mono (x : Out) : (s.emit x).mono = s.mono := rfl
@[simp] theorem State.emit_free (x : Out) : (s.emit x).free = s.free := rfl
@[simp] theorem State.emit_pages (x : Out) : (s.emit x).pages = s.pages := rfl
@[simp] theorem State.emit_lanes (x : Out) : (s.emit x).lanes = s.lanes := rfl
@[simp] theorem State.emit_trains (x : Out) : (s.emit x).trains = s.trains := rfl
@[simp] theorem State.emit_links (x : Out) : (s.emit x).links = s.links := rfl
@[simp] theorem State.emit_transport (x : Out) : (s.emit x).transport = s.transport := rfl
@[simp] theorem State.emit_time (x : Out) : (s.emit x).time = s.time := rfl
@[simp] theorem State.emit_cmp (x : Out) : (s.emit x).cmp = s.cmp := rfl
@[simp] theorem State.emit_cad (x : Out) : (s.emit x).cad = s.cad := rfl
@[simp] theorem State.emit_matte (x : Out) : (s.emit x).matte = s.matte := rfl
@[simp] theorem State.emit_duds (x : Out) : (s.emit x).duds = s.duds := rfl
@[simp] theorem State.emit_gaf (x : Out) : (s.emit x).gaf = s.gaf := rfl
@[simp] theorem State.emit_diag (x : Out) : (s.emit x).diag = s.diag := rfl
@[simp] theorem State.emit_dram (x : Out) : (s.emit x).dram = s.dram := rfl
@[simp] theorem State.emit_mem (x : Out) : (s.emit x).mem = s.mem := rfl
@[simp] theorem State.emit_arb (x : Out) : (s.emit x).arb = s.arb := rfl
@[simp] theorem State.emit_flt (x : Out) : (s.emit x).flt = s.flt := rfl
@[simp] theorem State.emit_chks (x : Out) : (s.emit x).chks = s.chks := rfl
@[simp] theorem State.emit_reels (x : Out) : (s.emit x).reels = s.reels := rfl
@[simp] theorem State.emit_sram (x : Out) : (s.emit x).sram = s.sram := rfl
@[simp] theorem State.emit_safe (x : Out) : (s.emit x).safe = s.safe := rfl
@[simp] theorem State.emit_pwr (x : Out) : (s.emit x).pwr = s.pwr := rfl
@[simp] theorem State.emit_thm (x : Out) : (s.emit x).thm = s.thm := rfl
@[simp] theorem State.emit_scal (x : Out) : (s.emit x).scal = s.scal := rfl
@[simp] theorem State.emit_pair (x : Out) : (s.emit x).pair = s.pair := rfl
@[simp] theorem State.emit_fw (x : Out) : (s.emit x).fw = s.fw := rfl
@[simp] theorem State.emit_flash (x : Out) : (s.emit x).flash = s.flash := rfl
@[simp] theorem State.emit_otp (x : Out) : (s.emit x).otp = s.otp := rfl
@[simp] theorem State.emit_boot (x : Out) : (s.emit x).boot = s.boot := rfl
@[simp] theorem State.emit_waiting (x : Out) : (s.emit x).waiting = s.waiting := rfl
@[simp] theorem State.emit_out (x : Out) : (s.emit x).out = s.out ++ [x] := rfl
@[simp] theorem State.noticeIfRisen_pending (x : Bool) : (s.noticeIfRisen x p).pending = s.pending := by unfold State.noticeIfRisen; split <;> rfl
@[simp] theorem State.noticeIfRisen_mono (x : Bool) : (s.noticeIfRisen x p).mono = s.mono := by unfold State.noticeIfRisen; split <;> rfl
@[simp] theorem State.noticeIfRisen_free (x : Bool) : (s.noticeIfRisen x p).free = s.free := by unfold State.noticeIfRisen; split <;> rfl
@[simp] theorem State.noticeIfRisen_lanes (x : Bool) : (s.noticeIfRisen x p).lanes = s.lanes := by unfold State.noticeIfRisen; split <;> rfl
@[simp] theorem State.noticeIfRisen_trains (x : Bool) : (s.noticeIfRisen x p).trains = s.trains := by unfold State.noticeIfRisen; split <;> rfl
@[simp] theorem State.noticeIfRisen_links (x : Bool) : (s.noticeIfRisen x p).links = s.links := by unfold State.noticeIfRisen; split <;> rfl
@[simp] theorem State.noticeIfRisen_transport (x : Bool) : (s.noticeIfRisen x p).transport = s.transport := by unfold State.noticeIfRisen; split <;> rfl
@[simp] theorem State.noticeIfRisen_time (x : Bool) : (s.noticeIfRisen x p).time = s.time := by unfold State.noticeIfRisen; split <;> rfl
@[simp] theorem State.noticeIfRisen_cmp (x : Bool) : (s.noticeIfRisen x p).cmp = s.cmp := by unfold State.noticeIfRisen; split <;> rfl
@[simp] theorem State.noticeIfRisen_cad (x : Bool) : (s.noticeIfRisen x p).cad = s.cad := by unfold State.noticeIfRisen; split <;> rfl
@[simp] theorem State.noticeIfRisen_matte (x : Bool) : (s.noticeIfRisen x p).matte = s.matte := by unfold State.noticeIfRisen; split <;> rfl
@[simp] theorem State.noticeIfRisen_duds (x : Bool) : (s.noticeIfRisen x p).duds = s.duds := by unfold State.noticeIfRisen; split <;> rfl
@[simp] theorem State.noticeIfRisen_gaf (x : Bool) : (s.noticeIfRisen x p).gaf = s.gaf := by unfold State.noticeIfRisen; split <;> rfl
@[simp] theorem State.noticeIfRisen_diag (x : Bool) : (s.noticeIfRisen x p).diag = s.diag := by unfold State.noticeIfRisen; split <;> rfl
@[simp] theorem State.noticeIfRisen_dram (x : Bool) : (s.noticeIfRisen x p).dram = s.dram := by unfold State.noticeIfRisen; split <;> rfl
@[simp] theorem State.noticeIfRisen_mem (x : Bool) : (s.noticeIfRisen x p).mem = s.mem := by unfold State.noticeIfRisen; split <;> rfl
@[simp] theorem State.noticeIfRisen_arb (x : Bool) : (s.noticeIfRisen x p).arb = s.arb := by unfold State.noticeIfRisen; split <;> rfl
@[simp] theorem State.noticeIfRisen_flt (x : Bool) : (s.noticeIfRisen x p).flt = s.flt := by unfold State.noticeIfRisen; split <;> rfl
@[simp] theorem State.noticeIfRisen_chks (x : Bool) : (s.noticeIfRisen x p).chks = s.chks := by unfold State.noticeIfRisen; split <;> rfl
@[simp] theorem State.noticeIfRisen_reels (x : Bool) : (s.noticeIfRisen x p).reels = s.reels := by unfold State.noticeIfRisen; split <;> rfl
@[simp] theorem State.noticeIfRisen_sram (x : Bool) : (s.noticeIfRisen x p).sram = s.sram := by unfold State.noticeIfRisen; split <;> rfl
@[simp] theorem State.noticeIfRisen_safe (x : Bool) : (s.noticeIfRisen x p).safe = s.safe := by unfold State.noticeIfRisen; split <;> rfl
@[simp] theorem State.noticeIfRisen_pwr (x : Bool) : (s.noticeIfRisen x p).pwr = s.pwr := by unfold State.noticeIfRisen; split <;> rfl
@[simp] theorem State.noticeIfRisen_thm (x : Bool) : (s.noticeIfRisen x p).thm = s.thm := by unfold State.noticeIfRisen; split <;> rfl
@[simp] theorem State.noticeIfRisen_scal (x : Bool) : (s.noticeIfRisen x p).scal = s.scal := by unfold State.noticeIfRisen; split <;> rfl
@[simp] theorem State.noticeIfRisen_pair (x : Bool) : (s.noticeIfRisen x p).pair = s.pair := by unfold State.noticeIfRisen; split <;> rfl
@[simp] theorem State.noticeIfRisen_fw (x : Bool) : (s.noticeIfRisen x p).fw = s.fw := by unfold State.noticeIfRisen; split <;> rfl
@[simp] theorem State.noticeIfRisen_flash (x : Bool) : (s.noticeIfRisen x p).flash = s.flash := by unfold State.noticeIfRisen; split <;> rfl
@[simp] theorem State.noticeIfRisen_otp (x : Bool) : (s.noticeIfRisen x p).otp = s.otp := by unfold State.noticeIfRisen; split <;> rfl
@[simp] theorem State.noticeIfRisen_boot (x : Bool) : (s.noticeIfRisen x p).boot = s.boot := by unfold State.noticeIfRisen; split <;> rfl
@[simp] theorem State.noticeIfRisen_waiting (x : Bool) : (s.noticeIfRisen x p).waiting = s.waiting := by unfold State.noticeIfRisen; split <;> rfl
@[simp] theorem State.noticeIfRisen_pages (x : Bool) : (s.noticeIfRisen x p).pages = s.pages := by unfold State.noticeIfRisen; split <;> rfl
@[simp] theorem State.setEvtRegs_pending (x : Hdr) : (s.setEvtRegs p x).pending = s.pending := by simp [State.setEvtRegs]
@[simp] theorem State.setEvtRegs_mono (x : Hdr) : (s.setEvtRegs p x).mono = s.mono := by simp [State.setEvtRegs]
@[simp] theorem State.setEvtRegs_free (x : Hdr) : (s.setEvtRegs p x).free = s.free := by simp [State.setEvtRegs]
@[simp] theorem State.setEvtRegs_lanes (x : Hdr) : (s.setEvtRegs p x).lanes = s.lanes := by simp [State.setEvtRegs]
@[simp] theorem State.setEvtRegs_trains (x : Hdr) : (s.setEvtRegs p x).trains = s.trains := by simp [State.setEvtRegs]
@[simp] theorem State.setEvtRegs_links (x : Hdr) : (s.setEvtRegs p x).links = s.links := by simp [State.setEvtRegs]
@[simp] theorem State.setEvtRegs_transport (x : Hdr) : (s.setEvtRegs p x).transport = s.transport := by simp [State.setEvtRegs]
@[simp] theorem State.setEvtRegs_time (x : Hdr) : (s.setEvtRegs p x).time = s.time := by simp [State.setEvtRegs]
@[simp] theorem State.setEvtRegs_cmp (x : Hdr) : (s.setEvtRegs p x).cmp = s.cmp := by simp [State.setEvtRegs]
@[simp] theorem State.setEvtRegs_cad (x : Hdr) : (s.setEvtRegs p x).cad = s.cad := by simp [State.setEvtRegs]
@[simp] theorem State.setEvtRegs_matte (x : Hdr) : (s.setEvtRegs p x).matte = s.matte := by simp [State.setEvtRegs]
@[simp] theorem State.setEvtRegs_duds (x : Hdr) : (s.setEvtRegs p x).duds = s.duds := by simp [State.setEvtRegs]
@[simp] theorem State.setEvtRegs_gaf (x : Hdr) : (s.setEvtRegs p x).gaf = s.gaf := by simp [State.setEvtRegs]
@[simp] theorem State.setEvtRegs_diag (x : Hdr) : (s.setEvtRegs p x).diag = s.diag := by simp [State.setEvtRegs]
@[simp] theorem State.setEvtRegs_dram (x : Hdr) : (s.setEvtRegs p x).dram = s.dram := by simp [State.setEvtRegs]
@[simp] theorem State.setEvtRegs_mem (x : Hdr) : (s.setEvtRegs p x).mem = s.mem := by simp [State.setEvtRegs]
@[simp] theorem State.setEvtRegs_arb (x : Hdr) : (s.setEvtRegs p x).arb = s.arb := by simp [State.setEvtRegs]
@[simp] theorem State.setEvtRegs_flt (x : Hdr) : (s.setEvtRegs p x).flt = s.flt := by simp [State.setEvtRegs]
@[simp] theorem State.setEvtRegs_chks (x : Hdr) : (s.setEvtRegs p x).chks = s.chks := by simp [State.setEvtRegs]
@[simp] theorem State.setEvtRegs_reels (x : Hdr) : (s.setEvtRegs p x).reels = s.reels := by simp [State.setEvtRegs]
@[simp] theorem State.setEvtRegs_sram (x : Hdr) : (s.setEvtRegs p x).sram = s.sram := by simp [State.setEvtRegs]
@[simp] theorem State.setEvtRegs_safe (x : Hdr) : (s.setEvtRegs p x).safe = s.safe := by simp [State.setEvtRegs]
@[simp] theorem State.setEvtRegs_pwr (x : Hdr) : (s.setEvtRegs p x).pwr = s.pwr := by simp [State.setEvtRegs]
@[simp] theorem State.setEvtRegs_thm (x : Hdr) : (s.setEvtRegs p x).thm = s.thm := by simp [State.setEvtRegs]
@[simp] theorem State.setEvtRegs_scal (x : Hdr) : (s.setEvtRegs p x).scal = s.scal := by simp [State.setEvtRegs]
@[simp] theorem State.setEvtRegs_pair (x : Hdr) : (s.setEvtRegs p x).pair = s.pair := by simp [State.setEvtRegs]
@[simp] theorem State.setEvtRegs_fw (x : Hdr) : (s.setEvtRegs p x).fw = s.fw := by simp [State.setEvtRegs]
@[simp] theorem State.setEvtRegs_flash (x : Hdr) : (s.setEvtRegs p x).flash = s.flash := by simp [State.setEvtRegs]
@[simp] theorem State.setEvtRegs_otp (x : Hdr) : (s.setEvtRegs p x).otp = s.otp := by simp [State.setEvtRegs]
@[simp] theorem State.setEvtRegs_boot (x : Hdr) : (s.setEvtRegs p x).boot = s.boot := by simp [State.setEvtRegs]
@[simp] theorem State.setEvtRegs_waiting (x : Hdr) : (s.setEvtRegs p x).waiting = s.waiting := by simp [State.setEvtRegs]
@[simp] theorem State.setEvtRegs_pages (x : Hdr) : (s.setEvtRegs p x).pages = (s.setHdr p x).pages := by simp [State.setEvtRegs]
@[simp] theorem State.evt_pending : (s.evt p n).pending = s.pending := by simp only [State.evt]; split <;> simp
@[simp] theorem State.evt_mono : (s.evt p n).mono = s.mono := by simp only [State.evt]; split <;> simp
@[simp] theorem State.evt_free : (s.evt p n).free = s.free := by simp only [State.evt]; split <;> simp
@[simp] theorem State.evt_lanes : (s.evt p n).lanes = s.lanes := by simp only [State.evt]; split <;> simp
@[simp] theorem State.evt_trains : (s.evt p n).trains = s.trains := by simp only [State.evt]; split <;> simp
@[simp] theorem State.evt_links : (s.evt p n).links = s.links := by simp only [State.evt]; split <;> simp
@[simp] theorem State.evt_transport : (s.evt p n).transport = s.transport := by simp only [State.evt]; split <;> simp
@[simp] theorem State.evt_time : (s.evt p n).time = s.time := by simp only [State.evt]; split <;> simp
@[simp] theorem State.evt_cmp : (s.evt p n).cmp = s.cmp := by simp only [State.evt]; split <;> simp
@[simp] theorem State.evt_cad : (s.evt p n).cad = s.cad := by simp only [State.evt]; split <;> simp
@[simp] theorem State.evt_matte : (s.evt p n).matte = s.matte := by simp only [State.evt]; split <;> simp
@[simp] theorem State.evt_duds : (s.evt p n).duds = s.duds := by simp only [State.evt]; split <;> simp
@[simp] theorem State.evt_gaf : (s.evt p n).gaf = s.gaf := by simp only [State.evt]; split <;> simp
@[simp] theorem State.evt_diag : (s.evt p n).diag = s.diag := by simp only [State.evt]; split <;> simp
@[simp] theorem State.evt_dram : (s.evt p n).dram = s.dram := by simp only [State.evt]; split <;> simp
@[simp] theorem State.evt_mem : (s.evt p n).mem = s.mem := by simp only [State.evt]; split <;> simp
@[simp] theorem State.evt_arb : (s.evt p n).arb = s.arb := by simp only [State.evt]; split <;> simp
@[simp] theorem State.evt_flt : (s.evt p n).flt = s.flt := by simp only [State.evt]; split <;> simp
@[simp] theorem State.evt_chks : (s.evt p n).chks = s.chks := by simp only [State.evt]; split <;> simp
@[simp] theorem State.evt_reels : (s.evt p n).reels = s.reels := by simp only [State.evt]; split <;> simp
@[simp] theorem State.evt_sram : (s.evt p n).sram = s.sram := by simp only [State.evt]; split <;> simp
@[simp] theorem State.evt_safe : (s.evt p n).safe = s.safe := by simp only [State.evt]; split <;> simp
@[simp] theorem State.evt_pwr : (s.evt p n).pwr = s.pwr := by simp only [State.evt]; split <;> simp
@[simp] theorem State.evt_thm : (s.evt p n).thm = s.thm := by simp only [State.evt]; split <;> simp
@[simp] theorem State.evt_scal : (s.evt p n).scal = s.scal := by simp only [State.evt]; split <;> simp
@[simp] theorem State.evt_pair : (s.evt p n).pair = s.pair := by simp only [State.evt]; split <;> simp
@[simp] theorem State.evt_fw : (s.evt p n).fw = s.fw := by simp only [State.evt]; split <;> simp
@[simp] theorem State.evt_flash : (s.evt p n).flash = s.flash := by simp only [State.evt]; split <;> simp
@[simp] theorem State.evt_otp : (s.evt p n).otp = s.otp := by simp only [State.evt]; split <;> simp
@[simp] theorem State.evt_boot : (s.evt p n).boot = s.boot := by simp only [State.evt]; split <;> simp
@[simp] theorem State.evt_waiting : (s.evt p n).waiting = s.waiting := by simp only [State.evt]; split <;> simp
@[simp] theorem State.fsetB_pending (f : Fld) (x : Bool) : (s.fsetB p f x).pending = s.pending := rfl
@[simp] theorem State.fsetB_mono (f : Fld) (x : Bool) : (s.fsetB p f x).mono = s.mono := rfl
@[simp] theorem State.fsetB_free (f : Fld) (x : Bool) : (s.fsetB p f x).free = s.free := rfl
@[simp] theorem State.fsetB_lanes (f : Fld) (x : Bool) : (s.fsetB p f x).lanes = s.lanes := rfl
@[simp] theorem State.fsetB_trains (f : Fld) (x : Bool) : (s.fsetB p f x).trains = s.trains := rfl
@[simp] theorem State.fsetB_links (f : Fld) (x : Bool) : (s.fsetB p f x).links = s.links := rfl
@[simp] theorem State.fsetB_transport (f : Fld) (x : Bool) : (s.fsetB p f x).transport = s.transport := rfl
@[simp] theorem State.fsetB_time (f : Fld) (x : Bool) : (s.fsetB p f x).time = s.time := rfl
@[simp] theorem State.fsetB_cmp (f : Fld) (x : Bool) : (s.fsetB p f x).cmp = s.cmp := rfl
@[simp] theorem State.fsetB_cad (f : Fld) (x : Bool) : (s.fsetB p f x).cad = s.cad := rfl
@[simp] theorem State.fsetB_matte (f : Fld) (x : Bool) : (s.fsetB p f x).matte = s.matte := rfl
@[simp] theorem State.fsetB_duds (f : Fld) (x : Bool) : (s.fsetB p f x).duds = s.duds := rfl
@[simp] theorem State.fsetB_gaf (f : Fld) (x : Bool) : (s.fsetB p f x).gaf = s.gaf := rfl
@[simp] theorem State.fsetB_diag (f : Fld) (x : Bool) : (s.fsetB p f x).diag = s.diag := rfl
@[simp] theorem State.fsetB_dram (f : Fld) (x : Bool) : (s.fsetB p f x).dram = s.dram := rfl
@[simp] theorem State.fsetB_mem (f : Fld) (x : Bool) : (s.fsetB p f x).mem = s.mem := rfl
@[simp] theorem State.fsetB_arb (f : Fld) (x : Bool) : (s.fsetB p f x).arb = s.arb := rfl
@[simp] theorem State.fsetB_flt (f : Fld) (x : Bool) : (s.fsetB p f x).flt = s.flt := rfl
@[simp] theorem State.fsetB_chks (f : Fld) (x : Bool) : (s.fsetB p f x).chks = s.chks := rfl
@[simp] theorem State.fsetB_reels (f : Fld) (x : Bool) : (s.fsetB p f x).reels = s.reels := rfl
@[simp] theorem State.fsetB_sram (f : Fld) (x : Bool) : (s.fsetB p f x).sram = s.sram := rfl
@[simp] theorem State.fsetB_safe (f : Fld) (x : Bool) : (s.fsetB p f x).safe = s.safe := rfl
@[simp] theorem State.fsetB_pwr (f : Fld) (x : Bool) : (s.fsetB p f x).pwr = s.pwr := rfl
@[simp] theorem State.fsetB_thm (f : Fld) (x : Bool) : (s.fsetB p f x).thm = s.thm := rfl
@[simp] theorem State.fsetB_scal (f : Fld) (x : Bool) : (s.fsetB p f x).scal = s.scal := rfl
@[simp] theorem State.fsetB_pair (f : Fld) (x : Bool) : (s.fsetB p f x).pair = s.pair := rfl
@[simp] theorem State.fsetB_fw (f : Fld) (x : Bool) : (s.fsetB p f x).fw = s.fw := rfl
@[simp] theorem State.fsetB_flash (f : Fld) (x : Bool) : (s.fsetB p f x).flash = s.flash := rfl
@[simp] theorem State.fsetB_otp (f : Fld) (x : Bool) : (s.fsetB p f x).otp = s.otp := rfl
@[simp] theorem State.fsetB_boot (f : Fld) (x : Bool) : (s.fsetB p f x).boot = s.boot := rfl
@[simp] theorem State.fsetB_waiting (f : Fld) (x : Bool) : (s.fsetB p f x).waiting = s.waiting := rfl
@[simp] theorem State.fsetB_out (f : Fld) (x : Bool) : (s.fsetB p f x).out = s.out := rfl
@[simp] theorem State.fsetI_pending (f : Fld) (x : Int) : (s.fsetI p f x).pending = s.pending := rfl
@[simp] theorem State.fsetI_mono (f : Fld) (x : Int) : (s.fsetI p f x).mono = s.mono := rfl
@[simp] theorem State.fsetI_free (f : Fld) (x : Int) : (s.fsetI p f x).free = s.free := rfl
@[simp] theorem State.fsetI_lanes (f : Fld) (x : Int) : (s.fsetI p f x).lanes = s.lanes := rfl
@[simp] theorem State.fsetI_trains (f : Fld) (x : Int) : (s.fsetI p f x).trains = s.trains := rfl
@[simp] theorem State.fsetI_links (f : Fld) (x : Int) : (s.fsetI p f x).links = s.links := rfl
@[simp] theorem State.fsetI_transport (f : Fld) (x : Int) : (s.fsetI p f x).transport = s.transport := rfl
@[simp] theorem State.fsetI_time (f : Fld) (x : Int) : (s.fsetI p f x).time = s.time := rfl
@[simp] theorem State.fsetI_cmp (f : Fld) (x : Int) : (s.fsetI p f x).cmp = s.cmp := rfl
@[simp] theorem State.fsetI_cad (f : Fld) (x : Int) : (s.fsetI p f x).cad = s.cad := rfl
@[simp] theorem State.fsetI_matte (f : Fld) (x : Int) : (s.fsetI p f x).matte = s.matte := rfl
@[simp] theorem State.fsetI_duds (f : Fld) (x : Int) : (s.fsetI p f x).duds = s.duds := rfl
@[simp] theorem State.fsetI_gaf (f : Fld) (x : Int) : (s.fsetI p f x).gaf = s.gaf := rfl
@[simp] theorem State.fsetI_diag (f : Fld) (x : Int) : (s.fsetI p f x).diag = s.diag := rfl
@[simp] theorem State.fsetI_dram (f : Fld) (x : Int) : (s.fsetI p f x).dram = s.dram := rfl
@[simp] theorem State.fsetI_mem (f : Fld) (x : Int) : (s.fsetI p f x).mem = s.mem := rfl
@[simp] theorem State.fsetI_arb (f : Fld) (x : Int) : (s.fsetI p f x).arb = s.arb := rfl
@[simp] theorem State.fsetI_flt (f : Fld) (x : Int) : (s.fsetI p f x).flt = s.flt := rfl
@[simp] theorem State.fsetI_chks (f : Fld) (x : Int) : (s.fsetI p f x).chks = s.chks := rfl
@[simp] theorem State.fsetI_reels (f : Fld) (x : Int) : (s.fsetI p f x).reels = s.reels := rfl
@[simp] theorem State.fsetI_sram (f : Fld) (x : Int) : (s.fsetI p f x).sram = s.sram := rfl
@[simp] theorem State.fsetI_safe (f : Fld) (x : Int) : (s.fsetI p f x).safe = s.safe := rfl
@[simp] theorem State.fsetI_pwr (f : Fld) (x : Int) : (s.fsetI p f x).pwr = s.pwr := rfl
@[simp] theorem State.fsetI_thm (f : Fld) (x : Int) : (s.fsetI p f x).thm = s.thm := rfl
@[simp] theorem State.fsetI_scal (f : Fld) (x : Int) : (s.fsetI p f x).scal = s.scal := rfl
@[simp] theorem State.fsetI_pair (f : Fld) (x : Int) : (s.fsetI p f x).pair = s.pair := rfl
@[simp] theorem State.fsetI_fw (f : Fld) (x : Int) : (s.fsetI p f x).fw = s.fw := rfl
@[simp] theorem State.fsetI_flash (f : Fld) (x : Int) : (s.fsetI p f x).flash = s.flash := rfl
@[simp] theorem State.fsetI_otp (f : Fld) (x : Int) : (s.fsetI p f x).otp = s.otp := rfl
@[simp] theorem State.fsetI_boot (f : Fld) (x : Int) : (s.fsetI p f x).boot = s.boot := rfl
@[simp] theorem State.fsetI_waiting (f : Fld) (x : Int) : (s.fsetI p f x).waiting = s.waiting := rfl
@[simp] theorem State.fsetI_out (f : Fld) (x : Int) : (s.fsetI p f x).out = s.out := rfl
@[simp] theorem State.fadd_pending (f : Fld) : (s.fadd p f n).pending = s.pending := rfl
@[simp] theorem State.fadd_mono (f : Fld) : (s.fadd p f n).mono = s.mono := rfl
@[simp] theorem State.fadd_free (f : Fld) : (s.fadd p f n).free = s.free := rfl
@[simp] theorem State.fadd_lanes (f : Fld) : (s.fadd p f n).lanes = s.lanes := rfl
@[simp] theorem State.fadd_trains (f : Fld) : (s.fadd p f n).trains = s.trains := rfl
@[simp] theorem State.fadd_links (f : Fld) : (s.fadd p f n).links = s.links := rfl
@[simp] theorem State.fadd_transport (f : Fld) : (s.fadd p f n).transport = s.transport := rfl
@[simp] theorem State.fadd_time (f : Fld) : (s.fadd p f n).time = s.time := rfl
@[simp] theorem State.fadd_cmp (f : Fld) : (s.fadd p f n).cmp = s.cmp := rfl
@[simp] theorem State.fadd_cad (f : Fld) : (s.fadd p f n).cad = s.cad := rfl
@[simp] theorem State.fadd_matte (f : Fld) : (s.fadd p f n).matte = s.matte := rfl
@[simp] theorem State.fadd_duds (f : Fld) : (s.fadd p f n).duds = s.duds := rfl
@[simp] theorem State.fadd_gaf (f : Fld) : (s.fadd p f n).gaf = s.gaf := rfl
@[simp] theorem State.fadd_diag (f : Fld) : (s.fadd p f n).diag = s.diag := rfl
@[simp] theorem State.fadd_dram (f : Fld) : (s.fadd p f n).dram = s.dram := rfl
@[simp] theorem State.fadd_mem (f : Fld) : (s.fadd p f n).mem = s.mem := rfl
@[simp] theorem State.fadd_arb (f : Fld) : (s.fadd p f n).arb = s.arb := rfl
@[simp] theorem State.fadd_flt (f : Fld) : (s.fadd p f n).flt = s.flt := rfl
@[simp] theorem State.fadd_chks (f : Fld) : (s.fadd p f n).chks = s.chks := rfl
@[simp] theorem State.fadd_reels (f : Fld) : (s.fadd p f n).reels = s.reels := rfl
@[simp] theorem State.fadd_sram (f : Fld) : (s.fadd p f n).sram = s.sram := rfl
@[simp] theorem State.fadd_safe (f : Fld) : (s.fadd p f n).safe = s.safe := rfl
@[simp] theorem State.fadd_pwr (f : Fld) : (s.fadd p f n).pwr = s.pwr := rfl
@[simp] theorem State.fadd_thm (f : Fld) : (s.fadd p f n).thm = s.thm := rfl
@[simp] theorem State.fadd_scal (f : Fld) : (s.fadd p f n).scal = s.scal := rfl
@[simp] theorem State.fadd_pair (f : Fld) : (s.fadd p f n).pair = s.pair := rfl
@[simp] theorem State.fadd_fw (f : Fld) : (s.fadd p f n).fw = s.fw := rfl
@[simp] theorem State.fadd_flash (f : Fld) : (s.fadd p f n).flash = s.flash := rfl
@[simp] theorem State.fadd_otp (f : Fld) : (s.fadd p f n).otp = s.otp := rfl
@[simp] theorem State.fadd_boot (f : Fld) : (s.fadd p f n).boot = s.boot := rfl
@[simp] theorem State.fadd_waiting (f : Fld) : (s.fadd p f n).waiting = s.waiting := rfl
@[simp] theorem State.fadd_out (f : Fld) : (s.fadd p f n).out = s.out := rfl
@[simp] theorem State.finc_pending (f : Fld) : (s.finc p f).pending = s.pending := rfl
@[simp] theorem State.finc_mono (f : Fld) : (s.finc p f).mono = s.mono := rfl
@[simp] theorem State.finc_free (f : Fld) : (s.finc p f).free = s.free := rfl
@[simp] theorem State.finc_lanes (f : Fld) : (s.finc p f).lanes = s.lanes := rfl
@[simp] theorem State.finc_trains (f : Fld) : (s.finc p f).trains = s.trains := rfl
@[simp] theorem State.finc_links (f : Fld) : (s.finc p f).links = s.links := rfl
@[simp] theorem State.finc_transport (f : Fld) : (s.finc p f).transport = s.transport := rfl
@[simp] theorem State.finc_time (f : Fld) : (s.finc p f).time = s.time := rfl
@[simp] theorem State.finc_cmp (f : Fld) : (s.finc p f).cmp = s.cmp := rfl
@[simp] theorem State.finc_cad (f : Fld) : (s.finc p f).cad = s.cad := rfl
@[simp] theorem State.finc_matte (f : Fld) : (s.finc p f).matte = s.matte := rfl
@[simp] theorem State.finc_duds (f : Fld) : (s.finc p f).duds = s.duds := rfl
@[simp] theorem State.finc_gaf (f : Fld) : (s.finc p f).gaf = s.gaf := rfl
@[simp] theorem State.finc_diag (f : Fld) : (s.finc p f).diag = s.diag := rfl
@[simp] theorem State.finc_dram (f : Fld) : (s.finc p f).dram = s.dram := rfl
@[simp] theorem State.finc_mem (f : Fld) : (s.finc p f).mem = s.mem := rfl
@[simp] theorem State.finc_arb (f : Fld) : (s.finc p f).arb = s.arb := rfl
@[simp] theorem State.finc_flt (f : Fld) : (s.finc p f).flt = s.flt := rfl
@[simp] theorem State.finc_chks (f : Fld) : (s.finc p f).chks = s.chks := rfl
@[simp] theorem State.finc_reels (f : Fld) : (s.finc p f).reels = s.reels := rfl
@[simp] theorem State.finc_sram (f : Fld) : (s.finc p f).sram = s.sram := rfl
@[simp] theorem State.finc_safe (f : Fld) : (s.finc p f).safe = s.safe := rfl
@[simp] theorem State.finc_pwr (f : Fld) : (s.finc p f).pwr = s.pwr := rfl
@[simp] theorem State.finc_thm (f : Fld) : (s.finc p f).thm = s.thm := rfl
@[simp] theorem State.finc_scal (f : Fld) : (s.finc p f).scal = s.scal := rfl
@[simp] theorem State.finc_pair (f : Fld) : (s.finc p f).pair = s.pair := rfl
@[simp] theorem State.finc_fw (f : Fld) : (s.finc p f).fw = s.fw := rfl
@[simp] theorem State.finc_flash (f : Fld) : (s.finc p f).flash = s.flash := rfl
@[simp] theorem State.finc_otp (f : Fld) : (s.finc p f).otp = s.otp := rfl
@[simp] theorem State.finc_boot (f : Fld) : (s.finc p f).boot = s.boot := rfl
@[simp] theorem State.finc_waiting (f : Fld) : (s.finc p f).waiting = s.waiting := rfl
@[simp] theorem State.finc_out (f : Fld) : (s.finc p f).out = s.out := rfl
@[simp] theorem State.fwrap_pending (f : Fld) : (s.fwrap p f).pending = s.pending := rfl
@[simp] theorem State.fwrap_mono (f : Fld) : (s.fwrap p f).mono = s.mono := rfl
@[simp] theorem State.fwrap_free (f : Fld) : (s.fwrap p f).free = s.free := rfl
@[simp] theorem State.fwrap_lanes (f : Fld) : (s.fwrap p f).lanes = s.lanes := rfl
@[simp] theorem State.fwrap_trains (f : Fld) : (s.fwrap p f).trains = s.trains := rfl
@[simp] theorem State.fwrap_links (f : Fld) : (s.fwrap p f).links = s.links := rfl
@[simp] theorem State.fwrap_transport (f : Fld) : (s.fwrap p f).transport = s.transport := rfl
@[simp] theorem State.fwrap_time (f : Fld) : (s.fwrap p f).time = s.time := rfl
@[simp] theorem State.fwrap_cmp (f : Fld) : (s.fwrap p f).cmp = s.cmp := rfl
@[simp] theorem State.fwrap_cad (f : Fld) : (s.fwrap p f).cad = s.cad := rfl
@[simp] theorem State.fwrap_matte (f : Fld) : (s.fwrap p f).matte = s.matte := rfl
@[simp] theorem State.fwrap_duds (f : Fld) : (s.fwrap p f).duds = s.duds := rfl
@[simp] theorem State.fwrap_gaf (f : Fld) : (s.fwrap p f).gaf = s.gaf := rfl
@[simp] theorem State.fwrap_diag (f : Fld) : (s.fwrap p f).diag = s.diag := rfl
@[simp] theorem State.fwrap_dram (f : Fld) : (s.fwrap p f).dram = s.dram := rfl
@[simp] theorem State.fwrap_mem (f : Fld) : (s.fwrap p f).mem = s.mem := rfl
@[simp] theorem State.fwrap_arb (f : Fld) : (s.fwrap p f).arb = s.arb := rfl
@[simp] theorem State.fwrap_flt (f : Fld) : (s.fwrap p f).flt = s.flt := rfl
@[simp] theorem State.fwrap_chks (f : Fld) : (s.fwrap p f).chks = s.chks := rfl
@[simp] theorem State.fwrap_reels (f : Fld) : (s.fwrap p f).reels = s.reels := rfl
@[simp] theorem State.fwrap_sram (f : Fld) : (s.fwrap p f).sram = s.sram := rfl
@[simp] theorem State.fwrap_safe (f : Fld) : (s.fwrap p f).safe = s.safe := rfl
@[simp] theorem State.fwrap_pwr (f : Fld) : (s.fwrap p f).pwr = s.pwr := rfl
@[simp] theorem State.fwrap_thm (f : Fld) : (s.fwrap p f).thm = s.thm := rfl
@[simp] theorem State.fwrap_scal (f : Fld) : (s.fwrap p f).scal = s.scal := rfl
@[simp] theorem State.fwrap_pair (f : Fld) : (s.fwrap p f).pair = s.pair := rfl
@[simp] theorem State.fwrap_fw (f : Fld) : (s.fwrap p f).fw = s.fw := rfl
@[simp] theorem State.fwrap_flash (f : Fld) : (s.fwrap p f).flash = s.flash := rfl
@[simp] theorem State.fwrap_otp (f : Fld) : (s.fwrap p f).otp = s.otp := rfl
@[simp] theorem State.fwrap_boot (f : Fld) : (s.fwrap p f).boot = s.boot := rfl
@[simp] theorem State.fwrap_waiting (f : Fld) : (s.fwrap p f).waiting = s.waiting := rfl
@[simp] theorem State.fwrap_out (f : Fld) : (s.fwrap p f).out = s.out := rfl
@[simp] theorem State.fset64_pending (f g : Fld) : (s.fset64 p f g v).pending = s.pending := rfl
@[simp] theorem State.fset64_mono (f g : Fld) : (s.fset64 p f g v).mono = s.mono := rfl
@[simp] theorem State.fset64_free (f g : Fld) : (s.fset64 p f g v).free = s.free := rfl
@[simp] theorem State.fset64_lanes (f g : Fld) : (s.fset64 p f g v).lanes = s.lanes := rfl
@[simp] theorem State.fset64_trains (f g : Fld) : (s.fset64 p f g v).trains = s.trains := rfl
@[simp] theorem State.fset64_links (f g : Fld) : (s.fset64 p f g v).links = s.links := rfl
@[simp] theorem State.fset64_transport (f g : Fld) : (s.fset64 p f g v).transport = s.transport := rfl
@[simp] theorem State.fset64_time (f g : Fld) : (s.fset64 p f g v).time = s.time := rfl
@[simp] theorem State.fset64_cmp (f g : Fld) : (s.fset64 p f g v).cmp = s.cmp := rfl
@[simp] theorem State.fset64_cad (f g : Fld) : (s.fset64 p f g v).cad = s.cad := rfl
@[simp] theorem State.fset64_matte (f g : Fld) : (s.fset64 p f g v).matte = s.matte := rfl
@[simp] theorem State.fset64_duds (f g : Fld) : (s.fset64 p f g v).duds = s.duds := rfl
@[simp] theorem State.fset64_gaf (f g : Fld) : (s.fset64 p f g v).gaf = s.gaf := rfl
@[simp] theorem State.fset64_diag (f g : Fld) : (s.fset64 p f g v).diag = s.diag := rfl
@[simp] theorem State.fset64_dram (f g : Fld) : (s.fset64 p f g v).dram = s.dram := rfl
@[simp] theorem State.fset64_mem (f g : Fld) : (s.fset64 p f g v).mem = s.mem := rfl
@[simp] theorem State.fset64_arb (f g : Fld) : (s.fset64 p f g v).arb = s.arb := rfl
@[simp] theorem State.fset64_flt (f g : Fld) : (s.fset64 p f g v).flt = s.flt := rfl
@[simp] theorem State.fset64_chks (f g : Fld) : (s.fset64 p f g v).chks = s.chks := rfl
@[simp] theorem State.fset64_reels (f g : Fld) : (s.fset64 p f g v).reels = s.reels := rfl
@[simp] theorem State.fset64_sram (f g : Fld) : (s.fset64 p f g v).sram = s.sram := rfl
@[simp] theorem State.fset64_safe (f g : Fld) : (s.fset64 p f g v).safe = s.safe := rfl
@[simp] theorem State.fset64_pwr (f g : Fld) : (s.fset64 p f g v).pwr = s.pwr := rfl
@[simp] theorem State.fset64_thm (f g : Fld) : (s.fset64 p f g v).thm = s.thm := rfl
@[simp] theorem State.fset64_scal (f g : Fld) : (s.fset64 p f g v).scal = s.scal := rfl
@[simp] theorem State.fset64_pair (f g : Fld) : (s.fset64 p f g v).pair = s.pair := rfl
@[simp] theorem State.fset64_fw (f g : Fld) : (s.fset64 p f g v).fw = s.fw := rfl
@[simp] theorem State.fset64_flash (f g : Fld) : (s.fset64 p f g v).flash = s.flash := rfl
@[simp] theorem State.fset64_otp (f g : Fld) : (s.fset64 p f g v).otp = s.otp := rfl
@[simp] theorem State.fset64_boot (f g : Fld) : (s.fset64 p f g v).boot = s.boot := rfl
@[simp] theorem State.fset64_waiting (f g : Fld) : (s.fset64 p f g v).waiting = s.waiting := rfl
@[simp] theorem State.fset64_out (f g : Fld) : (s.fset64 p f g v).out = s.out := rfl
@[simp] theorem State.cmdEnd_pending : (s.cmdEnd p v n a b).pending = s.pending := by simp [State.cmdEnd]
@[simp] theorem State.cmdEnd_mono : (s.cmdEnd p v n a b).mono = s.mono := by simp [State.cmdEnd]
@[simp] theorem State.cmdEnd_free : (s.cmdEnd p v n a b).free = s.free := by simp [State.cmdEnd]
@[simp] theorem State.cmdEnd_lanes : (s.cmdEnd p v n a b).lanes = s.lanes := by simp [State.cmdEnd]
@[simp] theorem State.cmdEnd_trains : (s.cmdEnd p v n a b).trains = s.trains := by simp [State.cmdEnd]
@[simp] theorem State.cmdEnd_links : (s.cmdEnd p v n a b).links = s.links := by simp [State.cmdEnd]
@[simp] theorem State.cmdEnd_transport : (s.cmdEnd p v n a b).transport = s.transport := by simp [State.cmdEnd]
@[simp] theorem State.cmdEnd_time : (s.cmdEnd p v n a b).time = s.time := by simp [State.cmdEnd]
@[simp] theorem State.cmdEnd_cmp : (s.cmdEnd p v n a b).cmp = s.cmp := by simp [State.cmdEnd]
@[simp] theorem State.cmdEnd_cad : (s.cmdEnd p v n a b).cad = s.cad := by simp [State.cmdEnd]
@[simp] theorem State.cmdEnd_matte : (s.cmdEnd p v n a b).matte = s.matte := by simp [State.cmdEnd]
@[simp] theorem State.cmdEnd_duds : (s.cmdEnd p v n a b).duds = s.duds := by simp [State.cmdEnd]
@[simp] theorem State.cmdEnd_gaf : (s.cmdEnd p v n a b).gaf = s.gaf := by simp [State.cmdEnd]
@[simp] theorem State.cmdEnd_diag : (s.cmdEnd p v n a b).diag = s.diag := by simp [State.cmdEnd]
@[simp] theorem State.cmdEnd_dram : (s.cmdEnd p v n a b).dram = s.dram := by simp [State.cmdEnd]
@[simp] theorem State.cmdEnd_mem : (s.cmdEnd p v n a b).mem = s.mem := by simp [State.cmdEnd]
@[simp] theorem State.cmdEnd_arb : (s.cmdEnd p v n a b).arb = s.arb := by simp [State.cmdEnd]
@[simp] theorem State.cmdEnd_flt : (s.cmdEnd p v n a b).flt = s.flt := by simp [State.cmdEnd]
@[simp] theorem State.cmdEnd_chks : (s.cmdEnd p v n a b).chks = s.chks := by simp [State.cmdEnd]
@[simp] theorem State.cmdEnd_reels : (s.cmdEnd p v n a b).reels = s.reels := by simp [State.cmdEnd]
@[simp] theorem State.cmdEnd_sram : (s.cmdEnd p v n a b).sram = s.sram := by simp [State.cmdEnd]
@[simp] theorem State.cmdEnd_safe : (s.cmdEnd p v n a b).safe = s.safe := by simp [State.cmdEnd]
@[simp] theorem State.cmdEnd_pwr : (s.cmdEnd p v n a b).pwr = s.pwr := by simp [State.cmdEnd]
@[simp] theorem State.cmdEnd_thm : (s.cmdEnd p v n a b).thm = s.thm := by simp [State.cmdEnd]
@[simp] theorem State.cmdEnd_scal : (s.cmdEnd p v n a b).scal = s.scal := by simp [State.cmdEnd]
@[simp] theorem State.cmdEnd_pair : (s.cmdEnd p v n a b).pair = s.pair := by simp [State.cmdEnd]
@[simp] theorem State.cmdEnd_fw : (s.cmdEnd p v n a b).fw = s.fw := by simp [State.cmdEnd]
@[simp] theorem State.cmdEnd_flash : (s.cmdEnd p v n a b).flash = s.flash := by simp [State.cmdEnd]
@[simp] theorem State.cmdEnd_otp : (s.cmdEnd p v n a b).otp = s.otp := by simp [State.cmdEnd]
@[simp] theorem State.cmdEnd_boot : (s.cmdEnd p v n a b).boot = s.boot := by simp [State.cmdEnd]
@[simp] theorem State.cmdEnd_waiting : (s.cmdEnd p v n a b).waiting = s.waiting := by simp [State.cmdEnd]
@[simp] theorem State.cmdDone_pending : (s.cmdDone p).pending = s.pending := by unfold State.cmdDone; split <;> simp
@[simp] theorem State.cmdDone_mono : (s.cmdDone p).mono = s.mono := by unfold State.cmdDone; split <;> simp
@[simp] theorem State.cmdDone_free : (s.cmdDone p).free = s.free := by unfold State.cmdDone; split <;> simp
@[simp] theorem State.cmdDone_lanes : (s.cmdDone p).lanes = s.lanes := by unfold State.cmdDone; split <;> simp
@[simp] theorem State.cmdDone_trains : (s.cmdDone p).trains = s.trains := by unfold State.cmdDone; split <;> simp
@[simp] theorem State.cmdDone_links : (s.cmdDone p).links = s.links := by unfold State.cmdDone; split <;> simp
@[simp] theorem State.cmdDone_transport : (s.cmdDone p).transport = s.transport := by unfold State.cmdDone; split <;> simp
@[simp] theorem State.cmdDone_time : (s.cmdDone p).time = s.time := by unfold State.cmdDone; split <;> simp
@[simp] theorem State.cmdDone_cmp : (s.cmdDone p).cmp = s.cmp := by unfold State.cmdDone; split <;> simp
@[simp] theorem State.cmdDone_cad : (s.cmdDone p).cad = s.cad := by unfold State.cmdDone; split <;> simp
@[simp] theorem State.cmdDone_matte : (s.cmdDone p).matte = s.matte := by unfold State.cmdDone; split <;> simp
@[simp] theorem State.cmdDone_duds : (s.cmdDone p).duds = s.duds := by unfold State.cmdDone; split <;> simp
@[simp] theorem State.cmdDone_gaf : (s.cmdDone p).gaf = s.gaf := by unfold State.cmdDone; split <;> simp
@[simp] theorem State.cmdDone_diag : (s.cmdDone p).diag = s.diag := by unfold State.cmdDone; split <;> simp
@[simp] theorem State.cmdDone_dram : (s.cmdDone p).dram = s.dram := by unfold State.cmdDone; split <;> simp
@[simp] theorem State.cmdDone_mem : (s.cmdDone p).mem = s.mem := by unfold State.cmdDone; split <;> simp
@[simp] theorem State.cmdDone_arb : (s.cmdDone p).arb = s.arb := by unfold State.cmdDone; split <;> simp
@[simp] theorem State.cmdDone_flt : (s.cmdDone p).flt = s.flt := by unfold State.cmdDone; split <;> simp
@[simp] theorem State.cmdDone_chks : (s.cmdDone p).chks = s.chks := by unfold State.cmdDone; split <;> simp
@[simp] theorem State.cmdDone_reels : (s.cmdDone p).reels = s.reels := by unfold State.cmdDone; split <;> simp
@[simp] theorem State.cmdDone_sram : (s.cmdDone p).sram = s.sram := by unfold State.cmdDone; split <;> simp
@[simp] theorem State.cmdDone_safe : (s.cmdDone p).safe = s.safe := by unfold State.cmdDone; split <;> simp
@[simp] theorem State.cmdDone_pwr : (s.cmdDone p).pwr = s.pwr := by unfold State.cmdDone; split <;> simp
@[simp] theorem State.cmdDone_thm : (s.cmdDone p).thm = s.thm := by unfold State.cmdDone; split <;> simp
@[simp] theorem State.cmdDone_scal : (s.cmdDone p).scal = s.scal := by unfold State.cmdDone; split <;> simp
@[simp] theorem State.cmdDone_pair : (s.cmdDone p).pair = s.pair := by unfold State.cmdDone; split <;> simp
@[simp] theorem State.cmdDone_fw : (s.cmdDone p).fw = s.fw := by unfold State.cmdDone; split <;> simp
@[simp] theorem State.cmdDone_flash : (s.cmdDone p).flash = s.flash := by unfold State.cmdDone; split <;> simp
@[simp] theorem State.cmdDone_otp : (s.cmdDone p).otp = s.otp := by unfold State.cmdDone; split <;> simp
@[simp] theorem State.cmdDone_boot : (s.cmdDone p).boot = s.boot := by unfold State.cmdDone; split <;> simp
@[simp] theorem State.cmdDone_waiting : (s.cmdDone p).waiting = s.waiting := by unfold State.cmdDone; split <;> simp
@[simp] theorem State.cmdStart_pending : (s.cmdStart p v n a).pending = s.pending := rfl
@[simp] theorem State.cmdStart_mono : (s.cmdStart p v n a).mono = s.mono := rfl
@[simp] theorem State.cmdStart_free : (s.cmdStart p v n a).free = s.free := rfl
@[simp] theorem State.cmdStart_lanes : (s.cmdStart p v n a).lanes = s.lanes := rfl
@[simp] theorem State.cmdStart_trains : (s.cmdStart p v n a).trains = s.trains := rfl
@[simp] theorem State.cmdStart_links : (s.cmdStart p v n a).links = s.links := rfl
@[simp] theorem State.cmdStart_transport : (s.cmdStart p v n a).transport = s.transport := rfl
@[simp] theorem State.cmdStart_time : (s.cmdStart p v n a).time = s.time := rfl
@[simp] theorem State.cmdStart_cmp : (s.cmdStart p v n a).cmp = s.cmp := rfl
@[simp] theorem State.cmdStart_cad : (s.cmdStart p v n a).cad = s.cad := rfl
@[simp] theorem State.cmdStart_matte : (s.cmdStart p v n a).matte = s.matte := rfl
@[simp] theorem State.cmdStart_duds : (s.cmdStart p v n a).duds = s.duds := rfl
@[simp] theorem State.cmdStart_gaf : (s.cmdStart p v n a).gaf = s.gaf := rfl
@[simp] theorem State.cmdStart_diag : (s.cmdStart p v n a).diag = s.diag := rfl
@[simp] theorem State.cmdStart_dram : (s.cmdStart p v n a).dram = s.dram := rfl
@[simp] theorem State.cmdStart_mem : (s.cmdStart p v n a).mem = s.mem := rfl
@[simp] theorem State.cmdStart_arb : (s.cmdStart p v n a).arb = s.arb := rfl
@[simp] theorem State.cmdStart_flt : (s.cmdStart p v n a).flt = s.flt := rfl
@[simp] theorem State.cmdStart_chks : (s.cmdStart p v n a).chks = s.chks := rfl
@[simp] theorem State.cmdStart_reels : (s.cmdStart p v n a).reels = s.reels := rfl
@[simp] theorem State.cmdStart_sram : (s.cmdStart p v n a).sram = s.sram := rfl
@[simp] theorem State.cmdStart_safe : (s.cmdStart p v n a).safe = s.safe := rfl
@[simp] theorem State.cmdStart_pwr : (s.cmdStart p v n a).pwr = s.pwr := rfl
@[simp] theorem State.cmdStart_thm : (s.cmdStart p v n a).thm = s.thm := rfl
@[simp] theorem State.cmdStart_scal : (s.cmdStart p v n a).scal = s.scal := rfl
@[simp] theorem State.cmdStart_pair : (s.cmdStart p v n a).pair = s.pair := rfl
@[simp] theorem State.cmdStart_fw : (s.cmdStart p v n a).fw = s.fw := rfl
@[simp] theorem State.cmdStart_flash : (s.cmdStart p v n a).flash = s.flash := rfl
@[simp] theorem State.cmdStart_otp : (s.cmdStart p v n a).otp = s.otp := rfl
@[simp] theorem State.cmdStart_boot : (s.cmdStart p v n a).boot = s.boot := rfl
@[simp] theorem State.cmdStart_waiting : (s.cmdStart p v n a).waiting = s.waiting := rfl
@[simp] theorem State.cmdStart_out : (s.cmdStart p v n a).out = s.out := rfl
@[simp] theorem State.usage_pending : (s.usage p).pending = s.pending := by simp only [State.usage]; split <;> simp
@[simp] theorem State.usage_mono : (s.usage p).mono = s.mono := by simp only [State.usage]; split <;> simp
@[simp] theorem State.usage_free : (s.usage p).free = s.free := by simp only [State.usage]; split <;> simp
@[simp] theorem State.usage_lanes : (s.usage p).lanes = s.lanes := by simp only [State.usage]; split <;> simp
@[simp] theorem State.usage_trains : (s.usage p).trains = s.trains := by simp only [State.usage]; split <;> simp
@[simp] theorem State.usage_links : (s.usage p).links = s.links := by simp only [State.usage]; split <;> simp
@[simp] theorem State.usage_transport : (s.usage p).transport = s.transport := by simp only [State.usage]; split <;> simp
@[simp] theorem State.usage_time : (s.usage p).time = s.time := by simp only [State.usage]; split <;> simp
@[simp] theorem State.usage_cmp : (s.usage p).cmp = s.cmp := by simp only [State.usage]; split <;> simp
@[simp] theorem State.usage_cad : (s.usage p).cad = s.cad := by simp only [State.usage]; split <;> simp
@[simp] theorem State.usage_matte : (s.usage p).matte = s.matte := by simp only [State.usage]; split <;> simp
@[simp] theorem State.usage_duds : (s.usage p).duds = s.duds := by simp only [State.usage]; split <;> simp
@[simp] theorem State.usage_gaf : (s.usage p).gaf = s.gaf := by simp only [State.usage]; split <;> simp
@[simp] theorem State.usage_diag : (s.usage p).diag = s.diag := by simp only [State.usage]; split <;> simp
@[simp] theorem State.usage_dram : (s.usage p).dram = s.dram := by simp only [State.usage]; split <;> simp
@[simp] theorem State.usage_mem : (s.usage p).mem = s.mem := by simp only [State.usage]; split <;> simp
@[simp] theorem State.usage_arb : (s.usage p).arb = s.arb := by simp only [State.usage]; split <;> simp
@[simp] theorem State.usage_flt : (s.usage p).flt = s.flt := by simp only [State.usage]; split <;> simp
@[simp] theorem State.usage_chks : (s.usage p).chks = s.chks := by simp only [State.usage]; split <;> simp
@[simp] theorem State.usage_reels : (s.usage p).reels = s.reels := by simp only [State.usage]; split <;> simp
@[simp] theorem State.usage_sram : (s.usage p).sram = s.sram := by simp only [State.usage]; split <;> simp
@[simp] theorem State.usage_safe : (s.usage p).safe = s.safe := by simp only [State.usage]; split <;> simp
@[simp] theorem State.usage_pwr : (s.usage p).pwr = s.pwr := by simp only [State.usage]; split <;> simp
@[simp] theorem State.usage_thm : (s.usage p).thm = s.thm := by simp only [State.usage]; split <;> simp
@[simp] theorem State.usage_scal : (s.usage p).scal = s.scal := by simp only [State.usage]; split <;> simp
@[simp] theorem State.usage_pair : (s.usage p).pair = s.pair := by simp only [State.usage]; split <;> simp
@[simp] theorem State.usage_fw : (s.usage p).fw = s.fw := by simp only [State.usage]; split <;> simp
@[simp] theorem State.usage_flash : (s.usage p).flash = s.flash := by simp only [State.usage]; split <;> simp
@[simp] theorem State.usage_otp : (s.usage p).otp = s.otp := by simp only [State.usage]; split <;> simp
@[simp] theorem State.usage_boot : (s.usage p).boot = s.boot := by simp only [State.usage]; split <;> simp
@[simp] theorem State.usage_waiting : (s.usage p).waiting = s.waiting := by simp only [State.usage]; split <;> simp

/-! ### Registers and headers that an operation leaves alone -/

@[simp] theorem State.setHdr_word (x : Hdr) : (s.setHdr p x).word a = s.word a := rfl
@[simp] theorem State.setHdr_shadow (x : Hdr) : (s.setHdr p x).shadow a = s.shadow a := rfl
@[simp] theorem State.setHdr_captured (x : Hdr) : (s.setHdr p x).captured a = s.captured a := rfl
@[simp] theorem State.setHdr_snapWord (x : Hdr) : (s.setHdr p x).snapWord a = s.snapWord a := rfl
@[simp] theorem State.setWord_shadow (x : Word) : (s.setWord b x).shadow a = s.shadow a := rfl
@[simp] theorem State.setWord_captured (x : Word) : (s.setWord b x).captured a = s.captured a := rfl
@[simp] theorem State.setWord_snapWord (x : Word) : (s.setWord b x).snapWord a = s.snapWord a := rfl
@[simp] theorem State.setWord_hdr (x : Word) : (s.setWord b x).hdr p = s.hdr p := rfl
@[simp] theorem State.setShadow_word (x : Word) : (s.setShadow b x).word a = s.word a := rfl
@[simp] theorem State.setShadow_captured (x : Word) : (s.setShadow b x).captured a = s.captured a := rfl
@[simp] theorem State.setShadow_snapWord (x : Word) : (s.setShadow b x).snapWord a = s.snapWord a := rfl
@[simp] theorem State.setShadow_hdr (x : Word) : (s.setShadow b x).hdr p = s.hdr p := rfl
@[simp] theorem State.setSnapWord_word (x : Word) : (s.setSnapWord b x).word a = s.word a := rfl
@[simp] theorem State.setSnapWord_shadow (x : Word) : (s.setSnapWord b x).shadow a = s.shadow a := rfl
@[simp] theorem State.setSnapWord_captured (x : Word) : (s.setSnapWord b x).captured a = s.captured a := rfl
@[simp] theorem State.setSnapWord_hdr (x : Word) : (s.setSnapWord b x).hdr p = s.hdr p := rfl
@[simp] theorem State.fset_shadow (f : Fld) : (s.fset p f v).shadow a = s.shadow a := rfl
@[simp] theorem State.fset_captured (f : Fld) : (s.fset p f v).captured a = s.captured a := rfl
@[simp] theorem State.fset_snapWord (f : Fld) : (s.fset p f v).snapWord a = s.snapWord a := rfl
@[simp] theorem State.fset_hdr (f : Fld) : (s.fset q f v).hdr p = s.hdr p := rfl
@[simp] theorem State.fsetB_shadow (f : Fld) (x : Bool) : (s.fsetB q f x).shadow a = s.shadow a := rfl
@[simp] theorem State.fsetB_captured (f : Fld) (x : Bool) : (s.fsetB q f x).captured a = s.captured a := rfl
@[simp] theorem State.fsetB_snapWord (f : Fld) (x : Bool) : (s.fsetB q f x).snapWord a = s.snapWord a := rfl
@[simp] theorem State.fsetB_hdr (f : Fld) (x : Bool) : (s.fsetB q f x).hdr p = s.hdr p := rfl
@[simp] theorem State.fsetI_shadow (f : Fld) (x : Int) : (s.fsetI q f x).shadow a = s.shadow a := rfl
@[simp] theorem State.fsetI_captured (f : Fld) (x : Int) : (s.fsetI q f x).captured a = s.captured a := rfl
@[simp] theorem State.fsetI_snapWord (f : Fld) (x : Int) : (s.fsetI q f x).snapWord a = s.snapWord a := rfl
@[simp] theorem State.fsetI_hdr (f : Fld) (x : Int) : (s.fsetI q f x).hdr p = s.hdr p := rfl
@[simp] theorem State.fadd_shadow (f : Fld) : (s.fadd q f n).shadow a = s.shadow a := rfl
@[simp] theorem State.fadd_captured (f : Fld) : (s.fadd q f n).captured a = s.captured a := rfl
@[simp] theorem State.fadd_snapWord (f : Fld) : (s.fadd q f n).snapWord a = s.snapWord a := rfl
@[simp] theorem State.fadd_hdr (f : Fld) : (s.fadd q f n).hdr p = s.hdr p := rfl
@[simp] theorem State.finc_shadow (f : Fld) : (s.finc q f).shadow a = s.shadow a := rfl
@[simp] theorem State.finc_captured (f : Fld) : (s.finc q f).captured a = s.captured a := rfl
@[simp] theorem State.finc_snapWord (f : Fld) : (s.finc q f).snapWord a = s.snapWord a := rfl
@[simp] theorem State.finc_hdr (f : Fld) : (s.finc q f).hdr p = s.hdr p := rfl
@[simp] theorem State.fwrap_shadow (f : Fld) : (s.fwrap q f).shadow a = s.shadow a := rfl
@[simp] theorem State.fwrap_captured (f : Fld) : (s.fwrap q f).captured a = s.captured a := rfl
@[simp] theorem State.fwrap_snapWord (f : Fld) : (s.fwrap q f).snapWord a = s.snapWord a := rfl
@[simp] theorem State.fwrap_hdr (f : Fld) : (s.fwrap q f).hdr p = s.hdr p := rfl
@[simp] theorem State.emit_word (x : Out) : (s.emit x).word a = s.word a := rfl
@[simp] theorem State.emit_shadow (x : Out) : (s.emit x).shadow a = s.shadow a := rfl
@[simp] theorem State.emit_captured (x : Out) : (s.emit x).captured a = s.captured a := rfl
@[simp] theorem State.emit_snapWord (x : Out) : (s.emit x).snapWord a = s.snapWord a := rfl
@[simp] theorem State.emit_hdr (x : Out) : (s.emit x).hdr p = s.hdr p := rfl
@[simp] theorem State.noticeIfRisen_word (x : Bool) : (s.noticeIfRisen x p).word a = s.word a := by unfold State.noticeIfRisen; split <;> rfl
@[simp] theorem State.noticeIfRisen_shadow (x : Bool) : (s.noticeIfRisen x p).shadow a = s.shadow a := by unfold State.noticeIfRisen; split <;> rfl
@[simp] theorem State.noticeIfRisen_captured (x : Bool) : (s.noticeIfRisen x p).captured a = s.captured a := by unfold State.noticeIfRisen; split <;> rfl
@[simp] theorem State.noticeIfRisen_snapWord (x : Bool) : (s.noticeIfRisen x p).snapWord a = s.snapWord a := by unfold State.noticeIfRisen; split <;> rfl
@[simp] theorem State.noticeIfRisen_hdr (x : Bool) : (s.noticeIfRisen x q).hdr p = s.hdr p := by unfold State.noticeIfRisen; split <;> rfl
@[simp] theorem State.evt_word : (s.evt p n).word a = s.word a := by simp only [State.evt, State.setEvtRegs]; split <;> simp
@[simp] theorem State.cmdEnd_word : (s.cmdEnd p v n w b).word a = s.word a := by simp [State.cmdEnd]
@[simp] theorem State.cmdDone_word : (s.cmdDone p).word a = s.word a := by unfold State.cmdDone; split <;> simp
@[simp] theorem State.cmdStart_word : (s.cmdStart p v n w).word a = s.word a := rfl
@[simp] theorem State.usage_word : (s.usage p).word a = s.word a := by simp only [State.usage]; split <;> simp
@[simp] theorem State.evt_shadow : (s.evt p n).shadow a = s.shadow a := by simp only [State.evt, State.setEvtRegs]; split <;> simp
@[simp] theorem State.cmdEnd_shadow : (s.cmdEnd p v n w b).shadow a = s.shadow a := by simp [State.cmdEnd]
@[simp] theorem State.cmdDone_shadow : (s.cmdDone p).shadow a = s.shadow a := by unfold State.cmdDone; split <;> simp
@[simp] theorem State.cmdStart_shadow : (s.cmdStart p v n w).shadow a = s.shadow a := rfl
@[simp] theorem State.usage_shadow : (s.usage p).shadow a = s.shadow a := by simp only [State.usage]; split <;> simp
@[simp] theorem State.evt_captured : (s.evt p n).captured a = s.captured a := by simp only [State.evt, State.setEvtRegs]; split <;> simp
@[simp] theorem State.cmdEnd_captured : (s.cmdEnd p v n w b).captured a = s.captured a := by simp [State.cmdEnd]
@[simp] theorem State.cmdDone_captured : (s.cmdDone p).captured a = s.captured a := by unfold State.cmdDone; split <;> simp
@[simp] theorem State.cmdStart_captured : (s.cmdStart p v n w).captured a = s.captured a := rfl
@[simp] theorem State.usage_captured : (s.usage p).captured a = s.captured a := by simp only [State.usage]; split <;> simp
@[simp] theorem State.evt_snapWord : (s.evt p n).snapWord a = s.snapWord a := by simp only [State.evt, State.setEvtRegs]; split <;> simp
@[simp] theorem State.cmdEnd_snapWord : (s.cmdEnd p v n w b).snapWord a = s.snapWord a := by simp [State.cmdEnd]
@[simp] theorem State.cmdDone_snapWord : (s.cmdDone p).snapWord a = s.snapWord a := by unfold State.cmdDone; split <;> simp
@[simp] theorem State.cmdStart_snapWord : (s.cmdStart p v n w).snapWord a = s.snapWord a := rfl
@[simp] theorem State.usage_snapWord : (s.usage p).snapWord a = s.snapWord a := by simp only [State.usage]; split <;> simp
@[simp] theorem State.emit_fget (f : Fld) (x : Out) : (s.emit x).fget p f = s.fget p f := by simp [State.fget]
@[simp] theorem State.emit_fbit (f : Fld) (x : Out) : (s.emit x).fbit p f = s.fbit p f := by simp [State.fbit]
@[simp] theorem State.evt_fget (f : Fld)  : (s.evt q n).fget p f = s.fget p f := by simp [State.fget]
@[simp] theorem State.evt_fbit (f : Fld)  : (s.evt q n).fbit p f = s.fbit p f := by simp [State.fbit]
@[simp] theorem State.setHdr_fget (f : Fld) (x : Hdr) : (s.setHdr q x).fget p f = s.fget p f := by simp [State.fget]
@[simp] theorem State.setHdr_fbit (f : Fld) (x : Hdr) : (s.setHdr q x).fbit p f = s.fbit p f := by simp [State.fbit]
@[simp] theorem State.cmdDone_fget (f : Fld)  : (s.cmdDone q).fget p f = s.fget p f := by simp [State.fget]
@[simp] theorem State.cmdDone_fbit (f : Fld)  : (s.cmdDone q).fbit p f = s.fbit p f := by simp [State.fbit]
@[simp] theorem State.cmdStart_fget (f : Fld)  : (s.cmdStart q v n w).fget p f = s.fget p f := by simp [State.fget]
@[simp] theorem State.cmdStart_fbit (f : Fld)  : (s.cmdStart q v n w).fbit p f = s.fbit p f := by simp [State.fbit]
@[simp] theorem State.cmdEnd_fget (f : Fld)  : (s.cmdEnd q v n w b).fget p f = s.fget p f := by simp [State.fget]
@[simp] theorem State.cmdEnd_fbit (f : Fld)  : (s.cmdEnd q v n w b).fbit p f = s.fbit p f := by simp [State.fbit]
@[simp] theorem State.setShadow_fget (f : Fld) (x : Word) : (s.setShadow b x).fget p f = s.fget p f := by simp [State.fget]
@[simp] theorem State.setShadow_fbit (f : Fld) (x : Word) : (s.setShadow b x).fbit p f = s.fbit p f := by simp [State.fbit]

/-! ### What an operation sets -/

@[simp] theorem State.setWord_word_self (x : Word) : (s.setWord a x).word a = x := SMap.read_write_self ..

theorem State.setWord_word_other (x : Word) (h : a ≠ b) : (s.setWord b x).word a = s.word a := SMap.read_write_other _ _ _ h _

@[simp] theorem State.setShadow_shadow_self (x : Word) : (s.setShadow a x).shadow a = x := SMap.read_write_self ..

theorem State.setShadow_shadow_other (x : Word) (h : a ≠ b) : (s.setShadow b x).shadow a = s.shadow a :=
  SMap.read_write_other _ _ _ h _

@[simp] theorem State.setSnapWord_snapWord_self (x : Word) : (s.setSnapWord a x).snapWord a = x := SMap.read_write_self ..

@[simp] theorem State.setHdr_hdr_self (x : Hdr) : (s.setHdr p x).hdr p = x := SMap.read_write_self ..

theorem State.setHdr_hdr_other (x : Hdr) (h : p ≠ q) : (s.setHdr q x).hdr p = s.hdr p := SMap.read_write_other _ _ _ h _

/-! ### Fields of registers -/

theorem bitsOf_testBit (lo i : Nat) : (bitsOf v lo w).testBit i = (decide (i < w) && v.testBit (lo + i)) := by
  unfold bitsOf
  rw [Nat.testBit_mod_two_pow, Nat.testBit_shiftRight]

theorem putBits_testBit (lo x i : Nat) : (putBits v lo w x).testBit i =
    if lo ≤ i ∧ i < lo + w then x.testBit (i - lo) else v.testBit i := by
  unfold putBits
  simp only [Nat.testBit_or, Nat.testBit_shiftLeft, Nat.testBit_shiftRight, Nat.testBit_mod_two_pow]
  by_cases h1 : lo ≤ i
  · by_cases h2 : i < lo + w
    · simp [h1, h2, show ¬ lo + w ≤ i by omega, show i - lo < w by omega, show ¬ i < lo by omega]
    · simp [h1, h2, show lo + w ≤ i by omega, show ¬ i - lo < w by omega, show ¬ i < lo by omega,
        show lo + w + (i - (lo + w)) = i by omega]
  · simp [h1, show ¬ lo + w ≤ i by omega, show i < lo by omega]

theorem bitsOf_putBits_self (lo x : Nat) : bitsOf (putBits v lo w x) lo w = x % 2 ^ w := by
  apply Nat.eq_of_testBit_eq
  intro i
  rw [bitsOf_testBit, putBits_testBit, Nat.testBit_mod_two_pow]
  by_cases h : i < w
  · simp [h]
  · simp [h]

theorem bitsOf_putBits_other (lo lo' w' x : Nat) (h : lo' + w' ≤ lo ∨ lo + w ≤ lo') :
    bitsOf (putBits v lo w x) lo' w' = bitsOf v lo' w' := by
  apply Nat.eq_of_testBit_eq
  intro i
  rw [bitsOf_testBit, bitsOf_testBit, putBits_testBit]
  by_cases hi : i < w'
  · rw [if_neg (by omega)]
  · simp [hi]

theorem putBits_lt (lo x : Nat) (hv : v < 2 ^ 32) (h : lo + w ≤ 32) : putBits v lo w x < 2 ^ 32 := by
  apply Nat.lt_pow_two_of_testBit
  intro i hi
  rw [putBits_testBit, if_neg (by omega)]
  exact Nat.testBit_lt_two_pow (Nat.lt_of_lt_of_le hv (Nat.pow_le_pow_right (by decide) hi))

/-- A field that fits its register reads back what was set. -/
theorem State.fget_fset_self (f : Fld) (h : f.lo + f.w ≤ 32) : (s.fset p f v).fget p f = v % 2 ^ f.w := by
  unfold State.fset State.fget
  rw [State.setWord_word_self, BitVec.toNat_ofNat, Nat.mod_eq_of_lt (putBits_lt _ _ _ _ (BitVec.isLt _) h),
    bitsOf_putBits_self]

/-- A field of another register, or beside the one set, keeps its value. -/
theorem State.fget_fset_other (f g : Fld) (hf : f.lo + f.w ≤ 32)
    (h : addrOf q g.off ≠ addrOf p f.off ∨ g.lo + g.w ≤ f.lo ∨ f.lo + f.w ≤ g.lo) :
    (s.fset p f v).fget q g = s.fget q g := by
  unfold State.fset State.fget
  by_cases e : addrOf q g.off = addrOf p f.off
  · rw [e, State.setWord_word_self, BitVec.toNat_ofNat, Nat.mod_eq_of_lt (putBits_lt _ _ _ _ (BitVec.isLt _) hf),
      bitsOf_putBits_other]
    rcases h with h | h
    · exact absurd e h
    · exact h
  · rw [State.setWord_word_other _ _ _ _ e]

theorem State.fget_fset_page (f g : Fld) (h : q ≠ p) : (s.fset p f v).fget q g = s.fget q g := by
  unfold State.fset State.fget
  rw [State.setWord_word_other _ _ _ _ (addrOf_ne h)]

/-! ### Events and commands -/

theorem State.evt_hdr_other (h : p ≠ q) : (s.evt q n).hdr p = s.hdr p := by
  simp only [State.evt, State.setEvtRegs]
  split <;> simp [State.setHdr_hdr_other _ _ _ _ h]

@[simp] theorem State.setEvtRegs_hdr_self (x : Hdr) : (s.setEvtRegs p x).hdr p = x := by simp [State.setEvtRegs]

/-- The flag is set, whatever it was. -/
theorem State.evt_set (h : n < 32) : ((s.evt p n).hdr p).evt.getLsbD n = true := by
  unfold State.evt
  simp only
  split
  · next e => rw [State.setHdr_hdr_self]; exact e
  · rw [State.setEvtRegs_hdr_self]
    simp only [BitVec.getLsbD_or, BitVec.getLsbD_ofNat, Nat.one_shiftLeft, Nat.testBit_two_pow_self, h, decide_true,
      Bool.and_self, Bool.or_true]

/-- A set flag stays set while others are set. -/
theorem State.evt_keeps (i : Nat) (h : (s.hdr p).evt.getLsbD i = true) : ((s.evt q n).hdr p).evt.getLsbD i = true := by
  by_cases e : p = q
  · subst e
    unfold State.evt
    simp only
    split
    · rw [State.setHdr_hdr_self]; exact h
    · rw [State.setEvtRegs_hdr_self]; simp [h]
  · rw [State.evt_hdr_other _ _ _ _ e]; exact h

@[simp] theorem State.evt_hdr_view : ((s.evt q n).hdr p).view = (s.hdr p).view := by
  by_cases e : p = q
  · subst e; unfold State.evt; simp only; split <;> simp
  · rw [State.evt_hdr_other _ _ _ _ e]
@[simp] theorem State.evt_hdr_owner : ((s.evt q n).hdr p).owner = (s.hdr p).owner := by
  by_cases e : p = q
  · subst e; unfold State.evt; simp only; split <;> simp
  · rw [State.evt_hdr_other _ _ _ _ e]
@[simp] theorem State.evt_hdr_leaseEnd : ((s.evt q n).hdr p).leaseEnd = (s.hdr p).leaseEnd := by
  by_cases e : p = q
  · subst e; unfold State.evt; simp only; split <;> simp
  · rw [State.evt_hdr_other _ _ _ _ e]
@[simp] theorem State.evt_hdr_boundary : ((s.evt q n).hdr p).boundary = (s.hdr p).boundary := by
  by_cases e : p = q
  · subst e; unfold State.evt; simp only; split <;> simp
  · rw [State.evt_hdr_other _ _ _ _ e]
@[simp] theorem State.evt_hdr_commitState : ((s.evt q n).hdr p).commitState = (s.hdr p).commitState := by
  by_cases e : p = q
  · subst e; unfold State.evt; simp only; split <;> simp
  · rw [State.evt_hdr_other _ _ _ _ e]
@[simp] theorem State.evt_hdr_commitReason : ((s.evt q n).hdr p).commitReason = (s.hdr p).commitReason := by
  by_cases e : p = q
  · subst e; unfold State.evt; simp only; split <;> simp
  · rw [State.evt_hdr_other _ _ _ _ e]
@[simp] theorem State.evt_hdr_gen : ((s.evt q n).hdr p).gen = (s.hdr p).gen := by
  by_cases e : p = q
  · subst e; unfold State.evt; simp only; split <;> simp
  · rw [State.evt_hdr_other _ _ _ _ e]
@[simp] theorem State.evt_hdr_pend : ((s.evt q n).hdr p).pend = (s.hdr p).pend := by
  by_cases e : p = q
  · subst e; unfold State.evt; simp only; split <;> simp
  · rw [State.evt_hdr_other _ _ _ _ e]
@[simp] theorem State.evt_hdr_dirty : ((s.evt q n).hdr p).dirty = (s.hdr p).dirty := by
  by_cases e : p = q
  · subst e; unfold State.evt; simp only; split <;> simp
  · rw [State.evt_hdr_other _ _ _ _ e]
@[simp] theorem State.evt_hdr_dirtyAfter : ((s.evt q n).hdr p).dirtyAfter = (s.hdr p).dirtyAfter := by
  by_cases e : p = q
  · subst e; unfold State.evt; simp only; split <;> simp
  · rw [State.evt_hdr_other _ _ _ _ e]
@[simp] theorem State.evt_hdr_lost : ((s.evt q n).hdr p).lost = (s.hdr p).lost := by
  by_cases e : p = q
  · subst e; unfold State.evt; simp only; split <;> simp
  · rw [State.evt_hdr_other _ _ _ _ e]
@[simp] theorem State.evt_hdr_cmdState : ((s.evt q n).hdr p).cmdState = (s.hdr p).cmdState := by
  by_cases e : p = q
  · subst e; unfold State.evt; simp only; split <;> simp
  · rw [State.evt_hdr_other _ _ _ _ e]
@[simp] theorem State.evt_hdr_cmdOpcode : ((s.evt q n).hdr p).cmdOpcode = (s.hdr p).cmdOpcode := by
  by_cases e : p = q
  · subst e; unfold State.evt; simp only; split <;> simp
  · rw [State.evt_hdr_other _ _ _ _ e]
@[simp] theorem State.evt_hdr_cmdReason : ((s.evt q n).hdr p).cmdReason = (s.hdr p).cmdReason := by
  by_cases e : p = q
  · subst e; unfold State.evt; simp only; split <;> simp
  · rw [State.evt_hdr_other _ _ _ _ e]
@[simp] theorem State.evt_hdr_cmdIssuer : ((s.evt q n).hdr p).cmdIssuer = (s.hdr p).cmdIssuer := by
  by_cases e : p = q
  · subst e; unfold State.evt; simp only; split <;> simp
  · rw [State.evt_hdr_other _ _ _ _ e]
@[simp] theorem State.evt_hdr_run : ((s.evt q n).hdr p).run = (s.hdr p).run := by
  by_cases e : p = q
  · subst e; unfold State.evt; simp only; split <;> simp
  · rw [State.evt_hdr_other _ _ _ _ e]
@[simp] theorem State.evt_hdr_evtEn : ((s.evt q n).hdr p).evtEn = (s.hdr p).evtEn := by
  by_cases e : p = q
  · subst e; unfold State.evt; simp only; split <;> simp
  · rw [State.evt_hdr_other _ _ _ _ e]
@[simp] theorem State.evt_hdr_usage : ((s.evt q n).hdr p).usage = (s.hdr p).usage := by
  by_cases e : p = q
  · subst e; unfold State.evt; simp only; split <;> simp
  · rw [State.evt_hdr_other _ _ _ _ e]
@[simp] theorem State.evt_hdr_fault : ((s.evt q n).hdr p).fault = (s.hdr p).fault := by
  by_cases e : p = q
  · subst e; unfold State.evt; simp only; split <;> simp
  · rw [State.evt_hdr_other _ _ _ _ e]
@[simp] theorem State.evt_hdr_usageCopy : ((s.evt q n).hdr p).usageCopy = (s.hdr p).usageCopy := by
  by_cases e : p = q
  · subst e; unfold State.evt; simp only; split <;> simp
  · rw [State.evt_hdr_other _ _ _ _ e]
@[simp] theorem State.evt_hdr_faultCopy : ((s.evt q n).hdr p).faultCopy = (s.hdr p).faultCopy := by
  by_cases e : p = q
  · subst e; unfold State.evt; simp only; split <;> simp
  · rw [State.evt_hdr_other _ _ _ _ e]
@[simp] theorem State.evt_hdr_snapBusy : ((s.evt q n).hdr p).snapBusy = (s.hdr p).snapBusy := by
  by_cases e : p = q
  · subst e; unfold State.evt; simp only; split <;> simp
  · rw [State.evt_hdr_other _ _ _ _ e]
@[simp] theorem State.evt_hdr_snapSeq : ((s.evt q n).hdr p).snapSeq = (s.hdr p).snapSeq := by
  by_cases e : p = q
  · subst e; unfold State.evt; simp only; split <;> simp
  · rw [State.evt_hdr_other _ _ _ _ e]

/-- A command that runs ends DONE. -/
theorem State.cmdDone_done {o g m : Nat} (h : (s.hdr p).run = some ⟨o, g, m⟩) : (s.cmdDone p).Done p o m := by
  have : s.cmdDone p = (s.setHdr p { s.hdr p with run := none }).cmdEnd p o m 2 0 := by
    unfold State.cmdDone
    rw [h]
  rw [this]
  unfold State.cmdEnd
  simp only [if_true]
  refine ⟨?_, ?_, ?_, ?_, ?_, State.evt_set _ _ _ (by decide)⟩ <;> simp

theorem State.cmdStart_run {o g m : Nat} : ((s.cmdStart p o g m).hdr p).run = some ⟨o, g, m⟩ := by
  unfold State.cmdStart
  rw [State.setHdr_hdr_self]

theorem State.cmdStart_runs {o g m : Nat} : (s.cmdStart p o g m).Runs p o g m := by
  unfold State.cmdStart State.Runs
  rw [State.setHdr_hdr_self]
  exact ⟨rfl, rfl, rfl, rfl⟩

theorem State.emit_answers (x : Out) : (s.emit x).Answers x := by
  unfold State.Answers
  rw [State.emit_out]
  simp

end Sys2Proof.Machine
end

