-- ==== Sys2Proof/Laws/Pages.lean ====
section
/-! SUPPORT. The register pages: shadows reloaded, locks broken, pages that an operation leaves alone. -/

namespace Sys2Proof.Machine

variable {s : State} {p q a : Nat}

/-! ### Stores -/

theorem SMap.find?_none {V : Type} {m : SMap V} {k : Nat} (h : ∀ e ∈ m, e.1 ≠ k) : SMap.find? m k = none := by
  induction m with
  | nil => rfl
  | cons e r ih =>
    have := h e (List.mem_cons_self ..)
    simp [SMap.find?, this, ih fun a ha => h a (List.mem_cons_of_mem _ ha)]

theorem SMap.find?_mem {V : Type} {m : SMap V} {k : Nat} {v : V} (h : SMap.find? m k = some v) : (k, v) ∈ m := by
  induction m with
  | nil => cases h
  | cons e r ih =>
    obtain ⟨a, b⟩ := e
    unfold SMap.find? at h
    split at h
    · next e => cases h; subst e; exact List.mem_cons_self ..
    · exact List.mem_cons_of_mem _ (ih h)

/-- In canonical form a key is listed once. -/
theorem SMap.find?_of_mem {V : Type} [DecidableEq V] {d : Nat → V} {m : SMap V} (h : SMap.wf d m = true) {e : Nat × V}
    (he : e ∈ m) : SMap.find? m e.1 = some e.2 := by
  induction m with
  | nil => cases he
  | cons x r ih =>
    obtain ⟨h1, h2, h3⟩ := SMap.wf_cons.mp h
    rcases List.mem_cons.mp he with rfl | he
    · simp [SMap.find?]
    · have := h2 e he
      simp [SMap.find?, show x.1 ≠ e.1 by omega, ih h3 he]

/-- Writing what stands there changes nothing. -/
theorem SMap.write_read {V : Type} [DecidableEq V] {d : Nat → V} {m : SMap V} (h : SMap.wf d m = true) (k : Nat) :
    SMap.write (d k) m k (SMap.read (d k) m k) = m := by
  cases hf : SMap.find? m k with
  | none =>
    have : SMap.read (d k) m k = d k := by unfold SMap.read; rw [hf]; rfl
    rw [this]
    unfold SMap.write SMap.del
    rw [if_pos rfl]
    refine List.filter_eq_self.mpr fun e he => ?_
    by_cases hk : e.1 = k
    · have := SMap.find?_of_mem h he
      rw [hk, hf] at this
      cases this
    · simpa using hk
  | some v =>
    have hr : SMap.read (d k) m k = v := by unfold SMap.read; rw [hf]; rfl
    have hm := SMap.find?_mem hf
    rw [hr]
    unfold SMap.write
    rw [if_neg (SMap.wf_mem h hm)]
    clear hr hf
    induction m with
    | nil => cases hm
    | cons x r ih =>
      obtain ⟨h1, h2, h3⟩ := SMap.wf_cons.mp h
      obtain ⟨a, b⟩ := x
      rcases List.mem_cons.mp hm with e | hm
      · cases e; simp [SMap.put]
      · have : a < k := h2 _ hm
        unfold SMap.put
        rw [if_neg (by omega), if_neg (by omega), ih h3 hm]

theorem State.setWord_self (h : s.pages.wf = true) (a : Nat) : s.setWord a (s.word a) = s := by
  simp only [Pages.wf, Bool.and_eq_true] at h
  unfold State.setWord State.word
  rw [SMap.write_read (d := resetWord) h.1.1.1]

/-! ### Shadows (R46, R48) -/

/-- Reloading leaves the values in effect. -/
theorem State.reloadShadows_word (a : Nat) : (s.reloadShadows p).word a = s.word a := by
  unfold State.reloadShadows
  simp only [State.setHdr_word]
  have (l : List (Nat × Word)) (t : State) (h : t.word a = s.word a) :
      (l.foldl (fun s e => if rwsMask e.1 = 0 then s else s.setShadow e.1 (e.2 &&& BitVec.ofNat 32 (rwsMask e.1))) t).word a =
        s.word a := by
    induction l generalizing t with
    | nil => exact h
    | cons e r ih => refine ih _ ?_; beta_reduce; split <;> simpa using h
  exact this _ _ rfl

/-- Every shadow of the page stands at the value in effect. -/
theorem State.reloadShadows_shadow (hw : s.pages.wf = true) (off : Nat) :
    (s.reloadShadows p).shadow (addrOf p off) = s.word (addrOf p off) &&& BitVec.ofNat 32 (rwsMask (addrOf p off)) := by
  simp only [Pages.wf, Bool.and_eq_true] at hw
  have hwf := hw.1.1.1
  unfold State.reloadShadows
  show State.shadow _ _ = _
  rw [State.setHdr_shadow]
  -- a listed word is loaded, an unlisted one has been cleared to its reset value
  have key (l : List (Nat × Word)) (t : State) (hl : ∀ e ∈ l, e ∈ s.pages.eff)
      (h : t.shadow (addrOf p off) = s.word (addrOf p off) &&& BitVec.ofNat 32 (rwsMask (addrOf p off)) ∨
        ∃ e ∈ l, e.1 = addrOf p off ∧ rwsMask e.1 ≠ 0) :
      (l.foldl (fun s e => if rwsMask e.1 = 0 then s else s.setShadow e.1 (e.2 &&& BitVec.ofNat 32 (rwsMask e.1))) t).shadow
        (addrOf p off) = s.word (addrOf p off) &&& BitVec.ofNat 32 (rwsMask (addrOf p off)) := by
    induction l generalizing t with
    | nil => rcases h with h | ⟨e, he, _⟩; exacts [h, absurd he (List.not_mem_nil)]
    | cons e r ih =>
      refine ih _ (fun x hx => hl x (List.mem_cons_of_mem _ hx)) ?_
      beta_reduce
      by_cases he : e.1 = addrOf p off
      · by_cases hm : rwsMask e.1 = 0
        · rw [if_pos hm]
          rcases h with h | ⟨x, hx, h1, h2⟩
          · exact .inl h
          · rw [he, ← h1] at hm
            exact absurd hm h2
        · rw [if_neg hm, ← he, State.setShadow_shadow_self]
          left
          congr 1
          unfold State.word SMap.read
          rw [SMap.find?_of_mem hwf (hl e (List.mem_cons_self ..))]
          rfl
      · have hs : (if rwsMask e.1 = 0 then t else t.setShadow e.1 (e.2 &&& BitVec.ofNat 32 (rwsMask e.1))).shadow
            (addrOf p off) = t.shadow (addrOf p off) := by
          split
          · rfl
          · exact State.setShadow_shadow_other _ _ _ _ (Ne.symm he)
        rw [hs]
        rcases h with h | ⟨x, hx, h1, h2⟩
        · exact .inl h
        · rcases List.mem_cons.mp hx with rfl | hx
          · exact absurd h1 he
          · exact .inr ⟨x, hx, h1, h2⟩
  refine key _ _ (fun e he => (List.mem_filter.mp he).1) ?_
  -- the cleared store reads as reset
  have hclear : State.shadow { s with pages := { s.pages with
      shd := SMap.clear s.pages.shd (addrOf p 0) (addrOf (p + 1) 0) } } (addrOf p off) =
      resetWord (addrOf p off) &&& BitVec.ofNat 32 (rwsMask (addrOf p off)) := by
    unfold State.shadow SMap.read
    rw [SMap.find?_none]
    · rfl
    · intro e he e'
      have := (List.mem_filter.mp he).2
      rw [e'] at this
      rw [Bool.or_eq_true] at this
      rcases this with h | h <;> (have h := of_decide_eq_true h; unfold addrOf at h; omega)
  rw [hclear]
  cases hf : SMap.find? s.pages.eff (addrOf p off) with
  | none =>
    left
    congr 1
    unfold State.word SMap.read
    rw [hf]
    rfl
  | some v =>
    by_cases hm : rwsMask (addrOf p off) = 0
    · left; rw [hm]; simp
    · right
      refine ⟨(addrOf p off, v), List.mem_filter.mpr ⟨SMap.find?_mem hf, ?_⟩, rfl, hm⟩
      simp only [Bool.and_eq_true, decide_eq_true_eq]
      unfold addrOf
      omega

/-- Its header loses DIRTY and nothing else; the headers of other pages stand. -/
theorem State.reloadShadows_hdr (q : Nat) : (s.reloadShadows p).hdr q =
    if q = p then { s.hdr p with dirty := false, dirtyAfter := false } else s.hdr q := by
  have (l : List (Nat × Word)) (t : State) (k : Nat) :
      (l.foldl (fun s e => if rwsMask e.1 = 0 then s else s.setShadow e.1 (e.2 &&& BitVec.ofNat 32 (rwsMask e.1))) t).hdr k =
        t.hdr k := by
    induction l generalizing t with
    | nil => rfl
    | cons e r ih => rw [List.foldl_cons, ih]; split <;> rfl
  unfold State.reloadShadows
  by_cases h : q = p
  · subst h
    rw [if_pos rfl]
    simp only [State.setHdr_hdr_self]
    rw [this]
    rfl
  · rw [if_neg h]
    simp only [State.setHdr_hdr_other _ _ _ _ h]
    rw [this]
    rfl

/-- Pages of one number apart: an operation that touches one page leaves the others. -/
theorem State.SamePage.of_setHdr {x : Hdr} (h : q ≠ p) : State.SamePage q s (s.setHdr p x) :=
  ⟨State.setHdr_hdr_other _ _ _ _ h, fun _ => ⟨rfl, rfl, rfl, rfl⟩⟩

theorem State.SamePage.of_evt {n : Nat} (h : q ≠ p) : State.SamePage q s (s.evt p n) :=
  ⟨State.evt_hdr_other _ _ _ _ h, fun _ => ⟨by simp, by simp, by simp, by simp⟩⟩

theorem State.SamePage.of_emit {x : Out} : State.SamePage q s (s.emit x) := State.samePage_of_pages q rfl

theorem State.SamePage.of_reload (h : q ≠ p) : State.SamePage q s (s.reloadShadows p) := by
  refine ⟨by rw [State.reloadShadows_hdr, if_neg h], fun off => ⟨State.reloadShadows_word _, ?_, ?_, ?_⟩⟩
  · unfold State.reloadShadows
    show State.shadow _ _ = _
    rw [State.setHdr_shadow]
    have (l : List (Nat × Word)) (t : State) (hl : ∀ e ∈ l, e.1 / 0x1000 = p)
        (h' : t.shadow (addrOf q off) = s.shadow (addrOf q off)) :
        (l.foldl (fun s e => if rwsMask e.1 = 0 then s else s.setShadow e.1 (e.2 &&& BitVec.ofNat 32 (rwsMask e.1))) t).shadow
          (addrOf q off) = s.shadow (addrOf q off) := by
      induction l generalizing t with
      | nil => exact h'
      | cons e r ih =>
        refine ih _ (fun x hx => hl x (List.mem_cons_of_mem _ hx)) ?_
        beta_reduce
        split
        · exact h'
        · rw [State.setShadow_shadow_other _ _ _ _ fun e' => h ?_, h']
          rw [← hl e (List.mem_cons_self ..), ← e', addrOf_page]
    exact this _ _ (fun e he => SMap.mem_range he) (SMap.read_clear_other _ _ h off)
  all_goals
    have this (l : List (Nat × Word)) (t : State) :
        (l.foldl (fun s e => if rwsMask e.1 = 0 then s else s.setShadow e.1 (e.2 &&& BitVec.ofNat 32 (rwsMask e.1))) t).captured
          (addrOf q off) = t.captured (addrOf q off) ∧
        (l.foldl (fun s e => if rwsMask e.1 = 0 then s else s.setShadow e.1 (e.2 &&& BitVec.ofNat 32 (rwsMask e.1))) t).snapWord
          (addrOf q off) = t.snapWord (addrOf q off) := by
      induction l generalizing t with
      | nil => exact ⟨rfl, rfl⟩
      | cons e r ih =>
        obtain ⟨h1, h2⟩ := ih (if rwsMask e.1 = 0 then t else t.setShadow e.1 (e.2 &&& BitVec.ofNat 32 (rwsMask e.1)))
        refine ⟨h1.trans ?_, h2.trans ?_⟩ <;> split <;> rfl
    unfold State.reloadShadows
    simp only [State.setHdr_captured, State.setHdr_snapWord]
    first
      | exact (this _ _).1
      | exact (this _ _).2

/-- Breaking a lock that is held (R46). -/
theorem State.breakLock_broken (h : (s.hdr p).owner ≠ none) (hw : s.pages.wf = true) : State.Broken p s (s.breakLock p) := by
  unfold State.breakLock
  rw [if_pos (by cases e : (s.hdr p).owner <;> simp_all)]
  refine ⟨by simp, by simp [State.reloadShadows_hdr], State.evt_set _ _ _ (by decide), by simp [State.reloadShadows_hdr],
    fun off => ?_, fun a => ?_, fun q hq => ?_⟩
  · simp only [State.evt_shadow, State.setHdr_shadow, State.evt_word, State.setHdr_word, State.reloadShadows_word]
    exact State.reloadShadows_shadow hw off
  · simp only [State.evt_word, State.setHdr_word, State.reloadShadows_word]
  · exact (State.SamePage.of_reload hq).trans ((State.SamePage.of_setHdr hq).trans (State.SamePage.of_evt hq))

end Sys2Proof.Machine
end

