-- ==== Sys2Proof/WellFormed.lean ====
section
/-! DEFINITION. The operands that the manual admits for each command, as far as their types do not say so already. -/

namespace Sys2Proof

open Sys2Proof.Machine

/-- A page that the register map lists (R26). -/
def pageListed (p : Nat) : Bool := (pageOf p).isSome

/-- A source of errors: a page that the register map lists, or one of the five sources without a page (R369). -/
def sourceListed (src : Nat) : Bool := pageListed src || (0x80 ≤ src && src ≤ 0x84)

/-- A DRAM transfer of R328: twelve requesters, 2^27 / 2 pairs, a mask of the two blocks, and blocks with their tag; a row
pair is named for a compositor read alone, and 512 names none. -/
def Transfer.wellFormed (x : Transfer) : Bool :=
  x.req < 12 && x.master < 64 && x.pair < 2 ^ 26 && x.mask < 4 && x.mask != 0 &&
  x.data0 < 2 ^ 256 && x.data1 < 2 ^ 256 && x.tag0 < 256 && x.tag1 < 256 &&
  x.flips0 < 2 ^ 288 && x.flips1 < 2 ^ 288 && x.rowPair ≤ 512

/-- A packet whose fields have the widths of R266. -/
def Packet.wellFormed (k : Packet) : Bool :=
  k.type < 64 && k.dst < 256 && k.epoch < 65536 && k.owner < 512 && k.tag < 128 &&
  k.words.length ≤ 4095 && k.words.all (· < 2 ^ 64)

/-- A requester in a port cycle: it shows one pair of the address space (R347). -/
def PortRequest.wellFormed (r : PortRequest) : Bool := r.pair < 2 ^ 26

/-- An MR4 read: two codes of three bits, and a rate of R336. -/
def Mr4.wellFormed (m : Mr4) : Bool := m.die0 < 8 && m.die1 < 8 && m.rate ≤ 2

/-- An upset: a block of DRAM and the bits of its codeword that flipped (R361, R362). -/
def upsetOk (e : Nat × Nat) : Bool := e.1 < 2 ^ 27 && e.2 < 2 ^ 288

/-- The operands of a command lie in the ranges that the manual gives them. -/
def Instr.wellFormed : Instr → Bool
  | .pageCommitGo _ page _ | .lockRelease _ page | .lockBreak _ page | .leaseExpiry page | .cmdNone _ page
  | .discardShadow _ page | .clearCounters _ page | .evtClear _ page _ | .evtForce _ page _ | .evtEnableWrite _ page _
  | .snapshotTake _ page | .snapshotDone page => pageListed page
  | .lockLease _ page lease => pageListed page && lease != 0
  | .frameBoundary produced missed => produced ≤ 512 && missed.all (· < 2048)
  | .peTileDone _ late => late.all (· < 4 * 2 ^ 20)
  | .leaderMessageRx _ _ _ bytes => bytes.length = 32
  | .fomWindowDone _ _ ffe dfe _ => ffe < 2 ^ 32 && dfe < 2 ^ 32
  | .confirmMeasureDone _ errs bits => errs ≤ bits
  | .prbsLockLoss _ errs => errs < 2 ^ 64
  | .videoBurstRx _ cells => cells != []
  | .ctlRead _ cells | .ctlWrite _ cells => cells != [] && cells.length ≤ 6
  | .ctlMailbox _ cells => cells != [] && cells.length ≤ 43
  | .upwardMessageRx _ cells => cells != []
  | .dramTransfer x => x.wellFormed
  | .proxyTapCode _ _ lam => lam < 2 ^ 24
  | .tallyRespRx _ k | .ackRx _ k | .queryRespRx _ k | .diagRespRx _ k | .eventRx _ k | .enumLoopedRx _ k
  | .tailPacketRx _ _ k => k.wellFormed
  | .diagVisit _ _ rows _ => rows != 0
  | .refreshDue mr4 => (mr4.map Mr4.wellFormed).getD true
  | .rowIdleTimeout bank => bank < 64
  | .scrubVisit upsets | .scrubRepairVisit upsets => upsets.all upsetOk
  | .sramPatrol upsets => upsets.all (fun e => sourceListed e.1 && e.2.1 < 65536 && e.2.2.1 < 2 ^ 19)
  | .errorReport src _ _ _ _ _ _ _ count => sourceListed src && count != 0
  | .brokenWire src | .brokenWireClear src => sourceListed src
  | .domainReqOn _ d | .domainReqRet _ d | .domainReqOff _ d => 1 ≤ d.toNat && d.toNat ≤ 18
  | .domainReqIllegal _ d target => target = 3 || d = 0 || 18 < d.toNat
  | .thmConversionDone values _ => values.length ≤ 12
  | .scalMemberDone hits _ _ _ => hits.length ≤ 1024
  | .mirrorCommitRx _ page _ _ _ _ => pageListed page
  | .mirrorOutcomeRx _ page _ | .mirrorCommandRx _ page _ _ | .outcomeWaitExpiry page => pageListed page
  | .portCycle requests => requests.length ≤ 12 && requests.all PortRequest.wellFormed
  | .registerWrite .. | .rcRead .. | .nowLoRead .. | .commitGroup .. | .groupSnapshot .. | .slotBoundary ..
  | .blankingStart .. | .cue .. | .tileSignatureDeadline .. | .laneEnable .. | .seekDwellEnd .. | .seekMessageRx ..
  | .trainTimeout .. | .laneLock .. | .trainingFrameRx .. | .fomFail .. | .lossOfSignal .. | .runStable ..
  | .retrain .. | .testEnter .. | .inject .. | .testExit .. | .resetCeiling .. | .sentinelCellRx .. | .markerRx ..
  | .ingestBlockWrite .. | .replayEntryExpiry .. | .authProofRx .. | .authChallengeRx .. | .authTimeout ..
  | .authRetry .. | .revertHoldoff .. | .switchUpstream .. | .keyLoad .. | .keyClear .. | .timeSyncRx ..
  | .timePhaseRx .. | .syncCellTx .. | .phaseCellTx .. | .parentLost .. | .holdoverExpiry .. | .setTime ..
  | .stillExit .. | .clapRestart .. | .clapEdge .. | .retireFence .. | .ovlSignaturePost .. | .libDataWrite ..
  | .libDataRead .. | .ovlSeal .. | .ovlUnseal .. | .capture .. | .capDone .. | .rebuildStart .. | .wearPhaseDone ..
  | .rebuildDone .. | .wearPeriodExpiry .. | .tempStale .. | .buildFactory .. | .buildFactoryDone ..
  | .loadFactory .. | .loadFactoryDone .. | .sealFactory .. | .writeUser .. | .writeUserDone .. | .applyUser ..
  | .restoreFactory .. | .userCopyDone .. | .cadRebuild .. | .doseReset .. | .matteVerify .. | .verifyDone ..
  | .matteSealWrite .. | .responseTimeout .. | .deliveryDone .. | .enumerate .. | .dudClaim .. | .dudQuery ..
  | .sendConfig .. | .readmit .. | .autoReadmit .. | .hbForceWrite .. | .idleFrameset .. | .headroomStep ..
  | .railPoll .. | .pmbAlert .. | .pmbusTransactionDone .. | .pmbusRetry .. | .readStatus .. | .diagReportWrite ..
  | .initMap .. | .initMapDone .. | .buildList .. | .buildListDone .. | .relearn .. | .clearVerdict ..
  | .switchSet .. | .switchWindowOpen .. | .trainSet .. | .trainingDone .. | .scrubNow .. | .arbCfgWrite ..
  | .captAckWrite .. | .chkDataByte .. | .chkDataHalf .. | .chkDataWord .. | .chkSeal .. | .chkRestart ..
  | .reelWrData .. | .reelWriteResume .. | .reelEnd .. | .reelAbort .. | .reelRdData .. | .reelMark ..
  | .reelRewind .. | .reelRelease .. | .reelFlush .. | .ptrReset .. | .safeInChange .. | .safeInDemand ..
  | .inDisc .. | .safetyFrameRx .. | .watchdog .. | .statusFrameTx .. | .tapSilent .. | .matteSigCheck ..
  | .ovlSigCheck .. | .fbChange .. | .fbDisagree .. | .fbCloseTimeout .. | .fbOpenTimeout .. | .testPulse ..
  | .safeResetEdge .. | .resetRejected .. | .safeXinLow .. | .clearLockout .. | .handoverBegin .. | .handoverEnd ..
  | .safTrip .. | .handoverExpired .. | .grdAliveWrite .. | .safSilent .. | .selfTestStart .. | .selfTestDone ..
  | .safeOutCurrentLimit .. | .entryAbandon .. | .domainEntryDone .. | .domainExitDone .. | .signalDetect ..
  | .wakeTimer .. | .lpEnter .. | .brownout .. | .thmDemand .. | .guardDemand .. | .scalCheck .. | .scalRun ..
  | .scalRunStart .. | .scalRunDone .. | .madcConversion .. | .refinGate .. | .refinLoss .. | .oscCountDone ..
  | .mirrorHeartbeatRx .. | .mirrorBlockRx .. | .mirrorRebuildRx .. | .mirrorListRx .. | .mirrorSplitRx ..
  | .mirrorYieldRx .. | .mirrorTakenRx .. | .mirrorResyncRx .. | .mirrorDiagrespRx .. | .heartbeatMiss ..
  | .takeover .. | .pairLeaseRenew .. | .resync .. | .resyncCopyDone .. | .switchover .. | .updateStart ..
  | .updateAbort .. | .updateBlock .. | .fwActivate .. | .activateDone .. | .fwHandover .. | .fwAliveWrite ..
  | .handoverRevert .. | .fwConfirm .. | .svnAdvance .. | .revokeKey .. | .ckptNow .. | .wearCheckpoint ..
  | .diagCheckpoint .. | .flashOpIssue .. | .flashOpDone .. | .holdTimeout .. | .dailiesPeriod .. | .dlyRead ..
  | .dlyMark .. | .powerOnReset .. | .nreset .. | .deviceReset .. | .mgtRestart .. | .mgtHalt .. | .loaderStepDone ..
  | .benchAccess .. | .benchDataWrite .. | .benchStart .. | .safeXinHigh .. | .safeResetLowHeld .. | .prbsLock ..
  | .ringLockLoss .. | .libSealDone .. | .injectDone .. | .powerDown .. => true

end Sys2Proof
end

section
/-! PROOFS. Frame and slot boundaries, the start of blanking and CUE (R16, R145, R146, R151, R153, R157, R283). -/

namespace Sys2Proof.Machine

variable {s : State} {v : Nat}

/-! ### The clock runs until the count reaches a value -/

/-- Of the time, only the count runs with the clock. -/
theorem State.advanceSys_time_eq (s : State) (v : Nat) :
    (s.advanceSys v).time = { s.time with sys := (s.advanceSys v).time.sys } := by
  unfold State.advanceSys State.advanceTo
  split
  · split <;> rfl
  · rfl

@[simp] theorem State.advanceSys_pages (s : State) (v : Nat) : (s.advanceSys v).pages = s.pages := by
  unfold State.advanceSys State.advanceTo
  split
  · split <;> rfl
  · rfl

theorem State.le_advanceSys_mono (s : State) (v : Nat) : s.mono ≤ (s.advanceSys v).mono := by
  unfold State.advanceSys State.advanceTo
  split
  · split
    · exact Nat.le_add_right _ _
    · exact Nat.le_refl _
  · exact Nat.le_refl _

/-- A count short of a value stops within a nanosecond after it, as the clock runs in whole nanoseconds; the bound keeps the
80-bit count from wrapping. -/
theorem State.advanceSys_sys_bounds (h : s.time.sys ≤ v) (hv : v < 2 ^ 80 - 65536) :
    v ≤ (s.advanceSys v).time.sys ∧ (s.advanceSys v).time.sys < v + 65536 := by
  unfold State.advanceSys
  split
  next hlt =>
    have hc : v - s.time.sys ≤ ceilDiv (v - s.time.sys) 65536 * 65536 ∧
        ceilDiv (v - s.time.sys) 65536 * 65536 < v - s.time.sys + 65536 := by
      unfold ceilDiv
      omega
    generalize ceilDiv (v - s.time.sys) 65536 = c at hc
    have hsys : (s.advanceTo (s.mono + c)).time.sys = (s.time.sys + c * 2 ^ 16) % 2 ^ 80 := by
      unfold State.advanceTo
      rw [if_pos (by omega), Nat.add_sub_cancel_left]
    rw [hsys]
    omega
  next hge => omega

/-! ### The frame that begins -/

/-- The next frame is open from this instant, and its blanking has not begun. -/
theorem State.openFrame_time_eq (s : State) :
    s.openFrame.time = { (s.advanceSys (s.boundarySys (s.time.k + 1))).time with
      k := s.time.k + 1, boundaryAt := s.openFrame.mono, blanking := false } := by
  unfold State.openFrame
  simp

theorem State.openFrame_boundary (s : State) : (s.openFrame.hdr pgTime).evt.getLsbD 11 = true :=
  State.evt_set _ _ _ (by decide)

theorem State.frameAt_lt (s : State) (k : Int) : s.frameAt k < 2 ^ 16 := by
  unfold State.frameAt
  omega

/-- FRAME shows the number of the frame that has opened. -/
theorem State.openFrame_number (s : State) :
    s.openFrame.fget pgTime TIME.FRAME.NUMBER = s.openFrame.frameAt s.openFrame.time.k := by
  have hn : s.openFrame.frameAt s.openFrame.time.k = s.frameAt (s.time.k + 1) := by
    unfold State.frameAt
    rw [State.openFrame_time_eq, State.advanceSys_time_eq]
  have hf : s.openFrame.fget pgTime TIME.FRAME.NUMBER = s.openFrame.frameAt s.openFrame.time.k % 2 ^ 16 := by
    rw [hn]
    unfold State.openFrame
    rw [State.evt_fget, State.fget_fset_self _ _ _ _ (by decide)]
    unfold State.frameAt
    rw [State.advanceSys_time_eq]
    rfl
  rw [hf, Nat.mod_eq_of_lt (State.frameAt_lt _ _)]

theorem exec_frameBoundary_on (h : s.boot.powered = true) (produced : Nat) (missed : List Nat) :
    exec (.frameBoundary produced missed) s = .next (s.frameBoundary produced missed) :=
  congrArg Host.Outcome.next (State.live_on h _)

/-! ### The slots of a frame -/

theorem exec_slotBoundary_on (h : s.boot.powered = true) (j : Fin 4) :
    exec (.slotBoundary j) s = .next (s.slotBoundary j) :=
  congrArg Host.Outcome.next (State.live_on h _)

/-- A slot that starts after its frame meets the commits that wait for slots once the count has reached its phase. -/
theorem State.slotBoundary_of_later {j : Nat} (hj : j < s.takes) (hp : s.fget pgTime (TIME.SLOT_PHASE.PHASE j) ≠ 0) :
    s.slotBoundary j =
      (((s.advanceSys (s.boundarySys s.time.k + s.fget pgTime (TIME.SLOT_PHASE.PHASE j) * 1024)).commitsAt 1).pairSlot
        j).settle := by
  unfold State.slotBoundary
  rw [if_neg]
  simp [hj, hp]

/-- No slot of its own starts for a take from T on, nor for a phase of 0. -/
theorem State.slotBoundary_of_none {j : Nat} (h : s.takes ≤ j ∨ s.fget pgTime (TIME.SLOT_PHASE.PHASE j) = 0) :
    s.slotBoundary j = s := by
  unfold State.slotBoundary
  rw [if_pos]
  simpa using h

/-! ### Blanking -/

theorem exec_blankingStart_on (h : s.boot.powered = true) : exec .blankingStart s = .next s.blankingStart :=
  congrArg Host.Outcome.next (State.live_on h _)

/-- FRAME_LATE of codes that are delivered and not acknowledged. -/
theorem State.frameLate_of_late (h : s.time.frameAwaited = true ∧ s.time.frameDone = false) :
    s.frameLate.time = { s.time with frameLate := true } ∧ (s.frameLate.hdr pgTime).evt.getLsbD 14 = true := by
  unfold State.frameLate
  rw [if_pos (by simp [h])]
  refine ⟨?_, State.evt_set _ _ _ (by decide)⟩
  rw [State.evt_time]
  rfl

theorem State.frameLate_of_not_late (h : ¬ (s.time.frameAwaited = true ∧ s.time.frameDone = false)) : s.frameLate = s := by
  unfold State.frameLate
  rw [if_neg]
  simpa using h

theorem State.frameLate_mono (s : State) : s.frameLate.mono = s.mono := by
  unfold State.frameLate
  split
  · rw [State.evt_mono]
    rfl
  · rfl

theorem State.frameLate_blanking (s : State) : s.frameLate.time.blanking = s.time.blanking := by
  by_cases h : s.time.frameAwaited = true ∧ s.time.frameDone = false
  · rw [(State.frameLate_of_late h).1]
  · rw [State.frameLate_of_not_late h]

@[simp] theorem State.beginBlanking_time (s : State) : s.beginBlanking.time = { s.time with blanking := true } := rfl
@[simp] theorem State.beginBlanking_mono (s : State) : s.beginBlanking.mono = s.mono := rfl
@[simp] theorem State.beginBlanking_hdr (s : State) (p : Nat) : s.beginBlanking.hdr p = s.hdr p := rfl

/-- The frame has reached its blanking, on the clock and in the raster. -/
def State.blankingReached (s : State) : State :=
  (s.advanceSys (s.boundarySys (s.time.k + 1) - s.fget pgTime TIME.BLANK.US * 65536000)).beginBlanking

/-- Reaching the blanking moves the count and marks the frame; nothing else of the time changes. -/
theorem State.blankingReached_time (s : State) :
    ∃ c, s.blankingReached.time = { s.time with sys := c, blanking := true } := by
  unfold State.blankingReached
  rw [State.beginBlanking_time, State.advanceSys_time_eq]
  exact ⟨_, rfl⟩

theorem State.blankingReached_hdr (s : State) (p : Nat) : s.blankingReached.hdr p = s.hdr p := by
  unfold State.blankingReached
  rw [State.beginBlanking_hdr]
  unfold State.hdr
  rw [State.advanceSys_pages]

theorem State.le_blankingReached_mono (s : State) : s.mono ≤ s.blankingReached.mono := by
  unfold State.blankingReached
  rw [State.beginBlanking_mono]
  exact State.le_advanceSys_mono _ _

/-- What goes out on the rings in blanking changes the ports, free values and what has left the device, and nothing else. -/
theorem State.blankingStart_rings (h : s.time.blanking = false) :
    State.SameBut [.free, .duds, .out] s.blankingReached.frameLate s.blankingStart := by
  unfold State.blankingStart
  rw [if_neg (by simp [h])]
  exact State.SameOutside.foldl (State.SameOutside.refl _ _) fun t u hu => State.portBlanking_same hu rfl

theorem State.blankingStart_time (h : s.time.blanking = false) : s.blankingStart.time = s.blankingReached.frameLate.time :=
  State.blankingStart_rings h .time (by decide)

theorem State.blankingStart_mono (h : s.time.blanking = false) : s.blankingStart.mono = s.blankingReached.mono :=
  Eq.trans (State.blankingStart_rings h .mono (by decide)) (State.frameLate_mono _)

theorem State.blankingStart_hdr_time (h : s.time.blanking = false) :
    s.blankingStart.hdr pgTime = s.blankingReached.frameLate.hdr pgTime :=
  (State.blankingStart_rings h (.page .time) (by decide) pgTime rfl).1

theorem State.blankingStart_blanking (h : s.time.blanking = false) : s.blankingStart.time.blanking = true := by
  obtain ⟨c, hc⟩ := s.blankingReached_time
  rw [State.blankingStart_time h, State.frameLate_blanking, hc]

/-- Codes that are late when blanking begins are late in the frame as it was before. -/
theorem State.blankingReached_late_iff (s : State) :
    (s.blankingReached.time.frameAwaited = true ∧ s.blankingReached.time.frameDone = false) ↔
      (s.time.frameAwaited = true ∧ s.time.frameDone = false) := by
  obtain ⟨c, hc⟩ := s.blankingReached_time
  rw [hc]

theorem State.blankingStart_of_late (h : s.time.blanking = false)
    (hl : s.time.frameAwaited = true ∧ s.time.frameDone = false) :
    s.blankingStart.time.frameLate = true ∧ (s.blankingStart.hdr pgTime).evt.getLsbD 14 = true := by
  obtain ⟨htime, hevt⟩ := State.frameLate_of_late ((State.blankingReached_late_iff s).mpr hl)
  rw [State.blankingStart_time h, State.blankingStart_hdr_time h, htime]
  exact ⟨rfl, hevt⟩

theorem State.blankingStart_of_not_late (h : s.time.blanking = false)
    (hl : ¬ (s.time.frameAwaited = true ∧ s.time.frameDone = false)) :
    s.blankingStart.time.frameLate = s.time.frameLate ∧ s.blankingStart.hdr pgTime = s.hdr pgTime := by
  obtain ⟨c, hc⟩ := s.blankingReached_time
  rw [State.blankingStart_time h, State.blankingStart_hdr_time h,
    State.frameLate_of_not_late (mt (State.blankingReached_late_iff s).mp hl), State.blankingReached_hdr, hc]
  exact ⟨rfl, rfl⟩

/-- Blanking begins once in a frame. -/
theorem State.blankingStart_again (h : s.time.blanking = true) : s.blankingStart = s := if_pos h

/-! ### CUE -/

theorem exec_cue_on (h : s.boot.powered = true) : exec .cue s = .next s.cue :=
  congrArg Host.Outcome.next (State.live_on h _)

theorem State.cue_of_still (h : s.fbit pgTime TIME.STILL_STAT.STILL = true) : s.cue = s := if_pos h

theorem State.cue_of_composed (h : s.fbit pgTime TIME.STILL_STAT.STILL = false) : s.cue = s.evt pgTime 12 :=
  if_neg (by simp [h])

theorem State.cue_word (s : State) (a : Nat) : s.cue.word a = s.word a := by
  cases h : s.fbit pgTime TIME.STILL_STAT.STILL
  · rw [State.cue_of_composed h, State.evt_word]
  · rw [State.cue_of_still h]

/-! ### The statement -/

/-- Settles O14: each of the four commands is its function on a powered device, and the lemmas above say what that function
does. -/
theorem framesOpenBlankAndCue : Obligations.FramesOpenBlankAndCue := by
  unfold Obligations.FramesOpenBlankAndCue
  refine ⟨⟨fun s produced missed hon => ?_, fun s j hon => ⟨fun ⟨hj, hp⟩ => ?_, fun hnone => ?_⟩⟩,
    fun s hon hb => ?_, fun s hon hb => ?_, fun s hon => ?_⟩
  case refine_1 =>
    refine ⟨_, _, _, rfl, rfl, ?_, State.openFrame_boundary _, State.openFrame_number _, ?_, ?_, rfl,
      exec_frameBoundary_on hon produced missed⟩ <;> rw [State.openFrame_time_eq]
  case refine_2 =>
    refine ⟨_, ?_, State.advanceSys_sys_bounds, State.advanceSys_same (State.SameOutside.refl _ s) rfl⟩
    rw [exec_slotBoundary_on hon, State.slotBoundary_of_later hj hp]
  case refine_3 => rw [exec_slotBoundary_on hon, State.slotBoundary_of_none hnone]
  case refine_4 =>
    refine ⟨_, exec_blankingStart_on hon, State.blankingStart_blanking hb, ?_, State.blankingStart_of_late hb,
      State.blankingStart_of_not_late hb, State.blankingStart_same (State.SameOutside.refl _ s) rfl⟩
    rw [State.blankingStart_mono hb]
    exact State.le_blankingReached_mono s
  case refine_5 => rw [exec_blankingStart_on hon, State.blankingStart_again hb]
  case refine_6 =>
    refine ⟨_, exec_cue_on hon, fun hs => ?_, State.cue_of_still, State.cue_word s,
      State.cue_same (State.SameOutside.refl _ s) rfl⟩
    rw [State.cue_of_composed hs]
    exact State.evt_set _ _ _ (by decide)

end Sys2Proof.Machine
end

section
/-! PROOFS. Writes of the page headers and their statuses; locks taken, renewed, freed and broken (R28, R45, R46). -/

namespace Sys2Proof.Machine

variable {s t : State} {m p off v : Nat}

/-! ### The status of a write -/

/-- The checks let no access outside the register space through (R26). -/
theorem State.accessCheck_inSpace {a : Access} (h : s.accessCheck a = none) :
    0x02000000 ≤ a.addr ∧ a.addr ≤ 0x0207FFFF := by
  unfold State.accessCheck at h
  simp only at h
  split at h
  · cases h
  · split at h
    · cases h
    · next c hcap =>
      split at hcap
      · next hin => simpa using hin
      · cases hcap

theorem State.writes_checked (h : s.writes m p off v = true) : s.accessCheck (writeAccess m p off v) = none := by
  simp only [State.writes, Bool.and_eq_true, Option.isNone_iff_eq_none] at h
  exact h.1.2

/-- The page of a write that goes through is one that the register map lists. -/
theorem State.writes_cap (h : s.writes m p off v = true) : ∃ c, capOf p = some c := by
  obtain ⟨c, hc⟩ := State.accessCheck_cap (State.writes_checked h)
  rw [writeAccess_rel, addrOf_page] at hc
  exact ⟨c, hc⟩

/-- A register write that NOT_OWNER turns away counts on its page, whatever else it did (R28). -/
theorem State.countStatus_notOwner (h : s.writes m p off v = true) :
    t.countStatus (writeAccess m p off v) 4 = t.usage p := by
  obtain ⟨hlo, hhi⟩ := State.accessCheck_inSpace (State.writes_checked h)
  obtain ⟨c, hc⟩ := State.writes_cap h
  unfold State.countStatus
  simp [writeAccess_rel, hlo, hhi, hc]

/-- A header write with status OK. -/
theorem State.writeHeader_ok (h : s.writes m p off v = true) (ho : off < 0x040) (hn : off ≠ 0x020) (hv : v < 2 ^ 32)
    (e : s.writeHeader m p off v = (0, t)) : s.writeReg m p off v = t.emit (.access m 0 0) := by
  rw [State.writeHeader_eq h ho hn hv, e]
  rfl

/-- A header write with status NOT_OWNER. -/
theorem State.writeHeader_notOwner (h : s.writes m p off v = true) (ho : off < 0x040) (hn : off ≠ 0x020) (hv : v < 2 ^ 32)
    (e : s.writeHeader m p off v = (4, t)) : s.writeReg m p off v = (t.usage p).emit (.access m 4 0) := by
  rw [State.writeHeader_eq h ho hn hv, e, State.countStatus_notOwner h]

/-! ### Who holds a lock -/

theorem State.holds_iff : s.holds m p = true ↔ (s.hdr p).owner = some m := by
  unfold State.holds
  exact beq_iff_eq

/-- No other master holds the lock. -/
theorem State.lockFree_iff : ((s.hdr p).owner.isSome && !s.holds m p) = false ↔
    (s.hdr p).owner = none ∨ (s.hdr p).owner = some m := by
  rw [← State.holds_iff]
  cases (s.hdr p).owner <;> simp

/-! ### Writes of PAGE_LOCK (R45, R46) -/

theorem State.writeHeader_lock : s.writeHeader m p 0x028 v =
    if ((s.hdr p).owner.isSome && !s.holds m p) && !bit v 7 then (4, s)
    else (if v &&& 0x7F = 0 then 0 else 3, s.lockWrite m p v) := rfl

/-- A lease stands above the owner, the flags and BREAK. -/
theorem lease_low (lease : Nat) : lease * 256 &&& 0x7F = 0 ∧ bit (lease * 256) 7 = false := by
  have hlow : ∀ i < 8, (lease * 256).testBit i = false := fun i hi => by
    rw [show lease * 256 = lease <<< 8 by rw [Nat.shiftLeft_eq], Nat.testBit_shiftLeft]
    simp [show ¬ 8 ≤ i by omega]
  refine ⟨?_, by rw [bit_eq_testBit, hlow 7 (by decide)]⟩
  rw [show (0x7F : Nat) = 2 ^ 7 - 1 by rfl, Nat.and_two_pow_sub_one_eq_mod]
  omega

/-- A write of a lease by the holder of the lock or of a free one. -/
theorem State.writeLease_eq {lease : Nat} (h : s.writes m p 0x028 (lease * 256) = true) (hl : lease < 2 ^ 24)
    (ho : (s.hdr p).owner = none ∨ (s.hdr p).owner = some m) :
    s.writeReg m p 0x028 (lease * 256) = (s.lockWrite m p (lease * 256)).emit (.access m 0 0) := by
  refine State.writeHeader_ok h (by decide) (by decide) (by omega) ?_
  rw [State.writeHeader_lock, State.lockFree_iff.mpr ho, (lease_low lease).1]
  rfl

/-- A write of a lease to a lock of another master. -/
theorem State.writeLease_notOwner {lease o : Nat} (h : s.writes m p 0x028 (lease * 256) = true) (hl : lease < 2 ^ 24)
    (ho : (s.hdr p).owner = some o) (hne : o ≠ m) :
    s.writeReg m p 0x028 (lease * 256) = (s.usage p).emit (.access m 4 0) := by
  have hother : ((s.hdr p).owner.isSome && !s.holds m p) = true := by
    rw [Bool.eq_iff_iff]
    simp [State.holds, ho, hne]
  refine State.writeHeader_notOwner h (by decide) (by decide) (by omega) ?_
  rw [State.writeHeader_lock, hother, (lease_low lease).2]
  rfl

/-- A lease takes a free lock and renews the owner's. -/
theorem State.lockWrite_lease {lease : Nat} (hl : lease < 2 ^ 24) (h0 : lease ≠ 0)
    (ho : (s.hdr p).owner = none ∨ (s.hdr p).owner = some m) :
    s.lockWrite m p (lease * 256) =
      s.setHdr p { s.hdr p with owner := some m, leaseEnd := s.mono + lease * 1000 } := by
  have hlease : lease * 256 / 2 ^ 8 % 2 ^ 24 = lease := by omega
  unfold State.lockWrite
  simp only [(lease_low lease).2, hlease, Bool.false_eq_true, if_false, h0]
  rcases ho with ho | ho
  · rw [if_pos ho]
  · rw [if_neg (by simp [ho]), if_pos ho, ← ho]

/-- A lease of 0 frees the owner's lock. -/
theorem State.lockWrite_release (ho : (s.hdr p).owner = some m) :
    s.lockWrite m p 0 = s.setHdr p { s.hdr p with owner := none, leaseEnd := 0 } := by
  unfold State.lockWrite
  rw [if_neg (by decide), if_neg (by simp [ho]), if_pos ho]
  rfl

theorem State.lockWrite_break : s.lockWrite m p 0x80 = s.breakLock p := rfl

/-- A write of BREAK, whoever holds the lock. -/
theorem State.writeBreak_eq (h : s.writes m p 0x028 0x80 = true) :
    s.writeReg m p 0x028 0x80 = (s.breakLock p).emit (.access m 0 0) := by
  refine State.writeHeader_ok h (by decide) (by decide) (by decide) ?_
  rw [State.writeHeader_lock, if_neg (by simp [show bit 0x80 7 = true by rfl])]
  rfl

/-! ### Commands on a powered device -/

theorem exec_lockLease_on (h : s.boot.powered = true) (m : Master) (p : Fin 128) (lease : BitVec 24) :
    exec (.lockLease m p lease) s = .next (s.writeReg m.id p 0x028 (lease.toNat * 256)) :=
  congrArg Host.Outcome.next (State.live_on h _)

theorem exec_lockRelease_on (h : s.boot.powered = true) (m : Master) (p : Fin 128) :
    exec (.lockRelease m p) s = .next (s.writeReg m.id p 0x028 0) :=
  congrArg Host.Outcome.next (State.live_on h _)

theorem exec_lockBreak_on (h : s.boot.powered = true) (m : Master) (p : Fin 128) :
    exec (.lockBreak m p) s = .next (s.writeReg m.id p 0x028 0x80) :=
  congrArg Host.Outcome.next (State.live_on h _)

theorem exec_leaseExpiry_on (h : s.boot.powered = true) (p : Fin 128) :
    exec (.leaseExpiry p) s = .next (s.leaseExpiry p) :=
  congrArg Host.Outcome.next (State.live_on h _)

/-! ### Locks taken, kept and released -/

/-- Settles O7: a write of PAGE_LOCK answers by whether another master holds the lock, and then by its lease. -/
theorem locksAreTakenKeptAndReleased : Obligations.LocksAreTakenKeptAndReleased := by
  unfold Obligations.LocksAreTakenKeptAndReleased
  refine ⟨fun s m p lease hw h0 ho => ?_, fun s m p hw ho => ?_, fun s m p lease o hw ho hne => ?_,
    fun s m p o hw ho hne => ?_⟩
  case refine_1 =>
    have h0 : lease.toNat ≠ 0 := fun e => h0 (BitVec.eq_of_toNat_eq e)
    rw [exec_lockLease_on (State.writes_powered hw), State.writeLease_eq hw lease.isLt ho,
      State.lockWrite_lease lease.isLt h0 ho]
  case refine_2 =>
    rw [exec_lockRelease_on (State.writes_powered hw),
      State.writeLease_eq (lease := 0) hw (by decide) (.inr ho), State.lockWrite_release ho]
  case refine_3 =>
    rw [exec_lockLease_on (State.writes_powered hw), State.writeLease_notOwner hw lease.isLt ho hne]
  case refine_4 =>
    rw [exec_lockRelease_on (State.writes_powered hw),
      State.writeLease_notOwner (lease := 0) hw (by decide) ho hne]

/-! ### Locks that break -/

/-- A broken lock shows in the register pages alone. -/
theorem State.Broken.of_pages {s' t' : State} (h : State.Broken p s t) (hs : s'.pages = s.pages)
    (ht : t'.pages = t.pages) : State.Broken p s' t' := by
  unfold State.Broken State.SamePage State.hdr State.word State.shadow State.captured State.snapWord at h ⊢
  rw [hs, ht]
  exact h

@[simp] theorem State.advanceTo_pages (s : State) (i : Nat) : (s.advanceTo i).pages = s.pages := by
  unfold State.advanceTo
  split <;> rfl

@[simp] theorem State.advanceTo_hdr (s : State) (i q : Nat) : (s.advanceTo i).hdr q = s.hdr q := by
  unfold State.hdr
  rw [State.advanceTo_pages]

theorem State.advanceTo_mono (s : State) (i : Nat) : (s.advanceTo i).mono = max s.mono i := by
  unfold State.advanceTo
  split
  next h => exact (Nat.max_eq_right (Nat.le_of_lt h)).symm
  next h => exact (Nat.max_eq_left (Nat.le_of_not_lt h)).symm

/-- Breaking a lock takes no time. -/
theorem State.breakLock_mono (s : State) (p : Nat) : (s.breakLock p).mono = s.mono :=
  State.breakLock_same (m := 1 <<< 31 ||| pagesMask) (State.SameOutside.refl _ s) (by decide)
    (pageMask_any p (by decide)) .mono (by decide)

/-- A lease that runs out on a page whose domain is ON breaks the lock at its end. -/
theorem State.leaseExpiry_eq (ho : (s.hdr p).owner ≠ none) (hd : s.domOn (domainOf p) = true) :
    s.leaseExpiry p = (s.advanceTo (s.hdr p).leaseEnd).breakLock p := by
  have hd' : (s.advanceTo (s.hdr p).leaseEnd).domOn (domainOf p) = true := by
    unfold State.domOn State.fget State.word at hd ⊢
    rw [State.advanceTo_pages]
    exact hd
  unfold State.leaseExpiry
  rw [if_pos (Option.isSome_iff_ne_none.mpr ho), if_pos hd']

/-- Settles O8: BREAK and the end of the lease both come to `breakLock`, the latter at the instant at which the lease ends. -/
theorem lockBreaks : Obligations.LockBreaks := by
  unfold Obligations.LockBreaks
  refine ⟨fun s m p hw ho hwf => ?_, fun s p hon ho hd hwf => ?_⟩
  case refine_1 =>
    refine ⟨_, exec_lockBreak_on (State.writes_powered hw) m p, ?_⟩
    rw [State.writeBreak_eq hw]
    exact ⟨(State.breakLock_broken ho hwf).of_pages rfl rfl, State.emit_answers _ _⟩
  case refine_2 =>
    refine ⟨_, exec_leaseExpiry_on hon p, ?_⟩
    rw [State.leaseExpiry_eq ho hd]
    have hpages := State.advanceTo_pages s (s.hdr p).leaseEnd
    have hbroken := State.breakLock_broken (s := s.advanceTo (s.hdr p).leaseEnd) (p := p)
      (by rwa [State.advanceTo_hdr]) (by rwa [hpages])
    refine ⟨hbroken.of_pages hpages.symm rfl, ?_⟩
    rw [State.breakLock_mono, State.advanceTo_mono]

end Sys2Proof.Machine
end

section
/-! PROOFS. Writes of block registers: the bits that their access codes let a write change (R29, R34). -/

namespace Sys2Proof.Machine

variable {s : State} {m p off v a b : Nat} {r : Reg}

/-! ### Sets of parts as masks -/

/-- The bits of a mask are the numbers of the parts listed. -/
theorem partsMask_testBit (l : List Part) (i : Nat) : (partsMask l).testBit i = decide (i ∈ l.map Part.num) := by
  rw [← bit_maskOf, bit_eq_testBit]
  unfold partsMask maskOf
  rw [List.foldl_map]

/-- The mask of a list lies in that of a longer one. -/
theorem partsMask_of_subset {k l : List Part} (h : k ⊆ l) : partsMask k ||| partsMask l = partsMask l := by
  refine Nat.eq_of_testBit_eq fun i => ?_
  rw [Nat.testBit_or, partsMask_testBit, partsMask_testBit]
  by_cases hi : i ∈ k.map Part.num
  · rw [decide_eq_true (List.map_subset _ h hi), Bool.or_true]
  · rw [decide_eq_false hi, Bool.false_or]

/-- A page lies in the mask of every list that names its kind. -/
theorem pageMask_of_mem {ty : PageType} {l : List Part} (hty : (pageOf p).map Prod.fst = some ty) (h : Part.page ty ∈ l) :
    pageMask p ||| partsMask l = partsMask l := by
  obtain ⟨x, hx, rfl⟩ := Option.map_eq_some_iff.mp hty
  have e : pageMask p = partsMask [.page x.1] := by
    unfold pageMask
    rw [hx]
    exact (Nat.zero_or _).symm
  rw [e]
  exact partsMask_of_subset (List.cons_subset.mpr ⟨h, List.nil_subset _⟩)

/-! ### What a store of a block register sets -/

theorem word_testBit (b : Nat) (h : b < 32) : (0xFFFFFFFF : Nat).testBit b = true := by
  rw [show (0xFFFFFFFF : Nat) = 2 ^ 32 - 1 by rfl, Nat.testBit_two_pow_sub_one]
  exact decide_eq_true h

/-- The bits in effect of the register written: W1C bits written as 1 clear, RW bits take what is written. -/
theorem State.storeBlock_word_self (hwo : r.wo = 0) (hb : b < 32) : ((s.storeBlock a v r).word a).getLsbD b =
    if r.w1c.testBit b && v.testBit b && (servedBits a).testBit b then false
    else if r.rw.testBit b && (servedBits a).testBit b then v.testBit b
    else (s.word a).getLsbD b := by
  have hword : (s.storeBlock a v r).word a = BitVec.ofNat 32
      ((((s.word a).toNat &&& (0xFFFFFFFF ^^^ (r.rw &&& servedBits a))) |||
        ((v &&& servedBits a) &&& (r.rw &&& servedBits a))) &&& (0xFFFFFFFF ^^^ ((v &&& servedBits a) &&& r.w1c))) := by
    unfold State.storeBlock
    simp only [hwo, ite_self, Nat.or_zero]
    split <;> simp
  rw [hword]
  simp only [BitVec.getLsbD_ofNat, hb, decide_true, Bool.true_and, Nat.testBit_and, Nat.testBit_or, Nat.testBit_xor,
    word_testBit b hb, BitVec.testBit_toNat]
  cases r.w1c.testBit b <;> cases v.testBit b <;> cases (servedBits a).testBit b <;> cases r.rw.testBit b <;> simp

theorem State.storeBlock_word_other (h : b ≠ a) : (s.storeBlock a v r).word b = s.word b := by
  unfold State.storeBlock
  simp only
  split <;> simp [State.setWord_word_other _ _ _ _ h]

/-- A register with RWS bits takes them into its shadow. -/
theorem State.storeBlock_shadow_self (h : r.rws ≠ 0) :
    (s.storeBlock a v r).shadow a = BitVec.ofNat 32 (v &&& servedBits a &&& r.rws) := by
  unfold State.storeBlock
  simp only
  rw [if_neg h]
  simp

theorem State.storeBlock_shadow_other (h : b ≠ a) : (s.storeBlock a v r).shadow b = s.shadow b := by
  unfold State.storeBlock
  simp only
  split <;> simp [State.setShadow_shadow_other _ _ _ _ h]

/-- A register without RWS bits leaves every shadow and every header. -/
theorem State.storeBlock_shadow_direct (h : r.rws = 0) : (s.storeBlock a v r).shadow b = s.shadow b := by
  unfold State.storeBlock
  simp only
  rw [if_pos h, State.setWord_shadow]

theorem State.storeBlock_hdr_direct (h : r.rws = 0) : (s.storeBlock a v r).hdr b = s.hdr b := by
  unfold State.storeBlock
  simp only
  rw [if_pos h, State.setWord_hdr]

theorem State.storeBlock_dirty (h : r.rws ≠ 0) : ((s.storeBlock (addrOf p off) v r).hdr p).dirty = true := by
  unfold State.storeBlock
  simp only [addrOf_page]
  rw [if_neg h, State.setHdr_hdr_self]

/-! ### The write -/

/-- A word that has none of some bits as a word has none of them as a number. -/
theorem toNat_and_eq_zero {d : Word} {x : Nat} (h : d &&& BitVec.ofNat 32 x = 0) : d.toNat &&& x = 0 := by
  have h := congrArg BitVec.toNat h
  rw [BitVec.toNat_and, BitVec.toNat_ofNat] at h
  calc d.toNat &&& x
      = (d.toNat &&& x) % 2 ^ 32 := (Nat.mod_eq_of_lt (Nat.lt_of_le_of_lt Nat.and_le_left d.isLt)).symm
    _ = d.toNat % 2 ^ 32 &&& x % 2 ^ 32 := Nat.and_mod_two_pow
    _ = d.toNat &&& x % 2 ^ 32 := by rw [Nat.mod_eq_of_lt d.isLt]
    _ = 0 := h

/-- A register with RWS bits turns away a master that does not hold the lock. -/
theorem State.writeBlock_notOwner {i : Nat} (h : s.writes m p off v = true) (ho : 0x040 ≤ off) (ho' : off < 0x1000)
    (hr : regOf (addrOf p off) = some (r, i)) (hv : v < 2 ^ 32) (hs : r.rws ≠ 0) (hown : s.holds m p = false) :
    s.writeReg m p off v = (s.usage p).emit (.access m 4 0) := by
  have hx : s.writeBlockReg m (addrOf p off) v r = (4, s) := by
    unfold State.writeBlockReg
    simp only [addrOf_page]
    rw [if_pos (by simp [hs, hown])]
  rw [State.writeBlock_eq h ho ho' hr hv, hx, State.countStatus_notOwner h]

theorem exec_registerWrite_on (h : s.boot.powered = true) (m : Master) {addr data : BitVec 32}
    (ha : addr.toNat = 0x02000000 + addrOf p off) :
    exec (.registerWrite m addr data) s = .next (s.writeReg m.id p off data.toNat) := by
  refine congrArg Host.Outcome.next ((State.live_on h _).trans ?_)
  rw [ha]
  rfl

/-- Settles O11: a write that does nothing else is `storeBlock` where the lock lets it through. -/
theorem writesFollowAccessCodes : Obligations.WritesFollowAccessCodes := by
  unfold Obligations.WritesFollowAccessCodes
  intro s m p off ty r i addr data haddr hlo hhi hty hr hwo hstores hhook hw
  rw [exec_registerWrite_on (State.writes_powered hw) m haddr]
  refine ⟨fun hs hwr hz => ?_, fun hs hown => ?_⟩
  case refine_1 =>
    have heq : s.writeReg m.id p off data.toNat =
        (s.storeBlock (addrOf p off) data.toNat r).emit (.access m.id 0 0) := by
      rw [State.writeBlock_ok hw hlo hhi hr data.isLt hs (by rwa [hwo, Nat.or_zero]) (toNat_and_eq_zero hz),
        hstores, hhook]
      rfl
    refine ⟨_, congrArg _ heq, State.emit_answers _ _, fun b hb => ?_, ?_, fun a ha => ⟨?_, ?_⟩, ?_⟩
    · rw [State.emit_word, State.storeBlock_word_self hwo hb, BitVec.testBit_toNat]
    · split
      next h0 => exact fun a => State.storeBlock_shadow_direct h0
      next h0 =>
        refine ⟨?_, State.storeBlock_dirty h0⟩
        rw [State.emit_shadow, State.storeBlock_shadow_self h0, Nat.and_assoc, BitVec.ofNat_and, BitVec.ofNat_toNat,
          BitVec.setWidth_eq]
    · exact State.storeBlock_word_other ha
    · exact State.storeBlock_shadow_other ha
    · exact State.emit_same (State.storeBlock_same (State.SameOutside.refl _ s) (Nat.zero_or _)
        (pageMask_addr (pageMask_of_mem hty (by simp)))) (partsMask_of_subset (k := [.out]) (by simp))
  case refine_2 =>
    rw [State.writeBlock_notOwner hw hlo hhi hr data.isLt hs hown]

end Sys2Proof.Machine
end

section
/-! PROOFS. Commit requests of one page: captured, applied or refused (R35 to R37, R40). -/

namespace Sys2Proof.Machine

variable {s : State} {m p v b : Nat}

/-! ### Capturing the shadows (R37) -/

/-- Listing the entries of a canonical store in another: what the first lists hides what stood there. -/
theorem SMap.find?_puts {V : Type} [DecidableEq V] {d : Nat → V} {l : SMap V} (h : SMap.wf d l = true) (x : SMap V)
    (k : Nat) :
    SMap.find? (l.foldl (fun m e => SMap.put m e.1 e.2) x) k = (SMap.find? l k).or (SMap.find? x k) := by
  induction l generalizing x with
  | nil => rfl
  | cons e r ih =>
    obtain ⟨-, hrise, hr⟩ := SMap.wf_cons.mp h
    rw [List.foldl_cons, ih hr]
    by_cases hk : k = e.1
    · subst hk
      rw [SMap.find?_none fun a ha => (Nat.ne_of_gt (hrise a ha)), SMap.find?_put_self]
      simp [SMap.find?]
    · rw [SMap.find?_put_other _ hk]
      simp [SMap.find?, Ne.symm hk]

/-- The shadows of a canonical register file are canonical. -/
theorem Pages.wf_shadows {g : Pages} (h : g.wf = true) :
    SMap.wf (fun a => resetWord a &&& BitVec.ofNat 32 (rwsMask a)) g.shd = true := by
  simp only [Pages.wf, Bool.and_eq_true] at h
  exact h.1.1.2

/-- A captured page holds its shadows. -/
theorem State.capture_captured (hwf : SMap.wf (fun a => resetWord a &&& BitVec.ofNat 32 (rwsMask a)) s.pages.shd = true)
    (off : Nat) : (s.capture p).captured (addrOf p off) = s.shadow (addrOf p off) := by
  have hin : addrOf p 0 ≤ addrOf p off ∧ addrOf p off < addrOf (p + 1) 0 := by
    unfold addrOf
    omega
  have hkept : SMap.find? (SMap.range s.pages.shd (addrOf p 0) (addrOf (p + 1) 0)) (addrOf p off) =
      SMap.find? s.pages.shd (addrOf p off) := SMap.find?_filter _ _ fun v => by simpa using hin
  have hcleared : SMap.find? (SMap.clear s.pages.pnd (addrOf p 0) (addrOf (p + 1) 0)) (addrOf p off) = none := by
    refine SMap.find?_none fun e he hk => ?_
    have := (List.mem_filter.mp he).2
    rw [hk] at this
    simp only [Bool.or_eq_true, decide_eq_true_eq] at this
    omega
  unfold State.captured State.shadow State.capture SMap.read
  simp only [List.append_nil]
  rw [SMap.find?_puts (show SMap.wf _ (SMap.range _ _ _) = true from SMap.filter_wf hwf _), hkept, hcleared, Option.or_none]

/-! ### Telling the partner (R485) -/

@[simp] theorem State.sendMirror_shadow (s : State) (x : Mirror) (a : Nat) : (s.sendMirror x).shadow a = s.shadow a := by
  simp [State.sendMirror]

@[simp] theorem State.flushMirror_shadow (s : State) (a : Nat) : s.flushMirror.shadow a = s.shadow a := by
  unfold State.flushMirror
  split
  · exact List.foldlRecOn _ _ (motive := fun t : State => t.shadow a = s.shadow a) rfl fun t ht x _ => by simp [ht]
  · rfl

@[simp] theorem State.queueMirror_shadow (s : State) (x : Mirror) (a : Nat) : (s.queueMirror x).shadow a = s.shadow a := by
  unfold State.queueMirror
  simp only
  split
  · rfl
  · simp

@[simp] theorem State.tellCommit_shadow (s : State) (p b : Nat) (g : Bool) (a : Nat) :
    (s.tellCommit p b g).shadow a = s.shadow a := by
  unfold State.tellCommit State.mirrorActive State.mirror
  split
  · split
    · simp
    · split <;> simp
  · rfl

/-- PAIR's own page is none of those that are mirrored. -/
theorem mirrored_not_pair : ∀ p ∈ wholePages ++ partPages,
    (pageOf p).isSome = true ∧ (pageOf p).map Prod.fst ≠ some .pair := by decide

/-- A message to the partner leaves the page that it tells of as it is. -/
theorem State.tellCommit_samePage {g : Bool} (h : s.mirrors p = true) : State.SamePage p s (s.tellCommit p b g) := by
  have hp : p ∈ wholePages ++ partPages := by
    simp only [State.mirrors, Bool.and_eq_true, Bool.or_eq_true, List.contains_iff_mem] at h
    obtain ⟨-, h | ⟨h, -⟩⟩ := h
    · exact List.mem_append_left _ h
    · exact List.mem_append_right _ h
  obtain ⟨hsome, hne⟩ := mirrored_not_pair p hp
  obtain ⟨⟨ty, i⟩, hx⟩ := Option.isSome_iff_exists.mp hsome
  rw [hx] at hne
  have hbit : Nat.testBit 562952134459392 (Part.page ty).num = false := by
    cases ty with
    | pair => exact absurd rfl hne
    | _ => rfl
  exact State.tellCommit_same (State.SameOutside.refl _ s) rfl (.page ty) hbit p (by rw [hx]; rfl)

/-! ### Capturing a commit -/

/-- A page whose commit is captured, before its header shows it: captured, and told of where it is mirrored. -/
def State.capturedTold (s : State) (p b : Nat) (group : Bool) : State :=
  if (s.capture p).mirrors p then (s.capture p).tellCommit p b group else s.capture p

theorem State.captureCommit_eq (s : State) (p b : Nat) (group : Bool) : s.captureCommit p b group =
    (s.capturedTold p b group).setHdr p { (s.capturedTold p b group).hdr p with
      pend := some ⟨b, 0, group, (s.capture p).mirrors p⟩, commitState := 1, commitReason := 0, dirtyAfter := false } := rfl

theorem State.capturedTold_samePage (s : State) (p b : Nat) (group : Bool) :
    State.SamePage p (s.capture p) (s.capturedTold p b group) := by
  unfold State.capturedTold
  split
  next h => exact State.tellCommit_samePage h
  next => exact State.SamePage.refl p _

theorem State.captureCommit_hdr (s : State) (p b : Nat) (group : Bool) : (s.captureCommit p b group).hdr p =
    { s.hdr p with
      pend := some ⟨b, 0, group, (s.capture p).mirrors p⟩, commitState := 1, commitReason := 0, dirtyAfter := false } := by
  rw [State.captureCommit_eq, State.setHdr_hdr_self, (s.capturedTold_samePage p b group).1]
  rfl

/-- The pending set of the page is its shadows. -/
theorem State.captureCommit_captured {group : Bool}
    (hwf : SMap.wf (fun a => resetWord a &&& BitVec.ofNat 32 (rwsMask a)) s.pages.shd = true) (off : Nat) :
    (s.captureCommit p b group).captured (addrOf p off) = s.shadow (addrOf p off) := by
  rw [State.captureCommit_eq, State.setHdr_captured, ((s.capturedTold_samePage p b group).2 off).2.2.1,
    State.capture_captured hwf]

/-- Capturing changes no value in effect. -/
theorem State.captureCommit_word {group : Bool} (off : Nat) :
    (s.captureCommit p b group).word (addrOf p off) = s.word (addrOf p off) := by
  rw [State.captureCommit_eq, State.setHdr_word, ((s.capturedTold_samePage p b group).2 off).1]
  rfl

theorem State.captureCommit_shadow {group : Bool} (a : Nat) :
    (s.captureCommit p b group).shadow a = s.shadow a := by
  rw [State.captureCommit_eq, State.setHdr_shadow]
  unfold State.capturedTold
  split
  · rw [State.tellCommit_shadow]
    rfl
  · rfl

/-! ### Refusing a request (R36, R40) -/

/-- What a page with shadows records of a refused request; what it holds stays. -/
theorem State.refuseCommit_spec {c : Cap} {ps : List Nat} {reason : Nat} (hc : capOf p = some c) (hs : c.shadow = true) :
    ((s.refuseCommit ps p reason).hdr p).commitState = 3 ∧ ((s.refuseCommit ps p reason).hdr p).commitReason = reason ∧
    ((s.refuseCommit ps p reason).hdr p).evt.getLsbD 1 = true ∧
    ((s.refuseCommit ps p reason).hdr p).pend = (s.hdr p).pend ∧
    ∀ a, (s.refuseCommit ps p reason).shadow a = s.shadow a ∧ (s.refuseCommit ps p reason).captured a = s.captured a := by
  -- SYS records the case of R15 first; that is a change of values in effect alone
  have hrecorded : ∃ u : State, s.refuseCommit ps p reason =
      (u.setHdr p { u.hdr p with commitState := 3, commitReason := reason }).evt p 1 ∧
      u.hdr p = s.hdr p ∧ ∀ a, u.shadow a = s.shadow a ∧ u.captured a = s.captured a := by
    unfold State.refuseCommit
    rw [hc]
    simp only [hs, Bool.not_true, Bool.false_eq_true, if_false]
    refine ⟨_, rfl, ?_⟩
    split
    · split <;> simp
    · simp
  obtain ⟨u, hu, hhdr, hregs⟩ := hrecorded
  rw [hu]
  refine ⟨by simp, by simp, State.evt_set _ _ _ (by decide), by simp [hhdr], fun a => ?_⟩
  rw [State.evt_shadow, State.evt_captured]
  exact hregs a

/-! ### Writes of PAGE_COMMIT -/

/-- A page on which PAGE_COMMIT can be written has shadows (R26, R31). -/
theorem State.writes_commit_shadow (h : s.writes m p 0x02C v = true) : ∃ c, capOf p = some c ∧ c.shadow = true := by
  obtain ⟨c, hc⟩ := State.writes_cap h
  refine ⟨c, hc, ?_⟩
  have hcheck := State.writes_checked h
  obtain ⟨hlo, hhi⟩ := State.accessCheck_inSpace hcheck
  by_contra hs
  rw [Bool.not_eq_true] at hs
  unfold State.accessCheck at hcheck
  simp only [writeAccess_rel, addrOf_page, addrOf_off, hlo, hhi, hc, decide_true, Bool.and_self, if_true] at hcheck
  split at hcheck
  · cases hcheck
  · simp [headerExists, hs] at hcheck

/-- GO with a boundary reads back as that boundary. -/
theorem commitWord_bits (b : Fin 4) : bit (1 + 2 * b) 0 = true ∧ bitsOf (1 + 2 * b) 1 2 = b := by
  revert b
  decide

theorem State.writeHeader_commit : s.writeHeader m p 0x02C v = (if s.holds m p then 0 else 4, s.commitWrite m p v) := rfl

/-- The holder's request is checked with the boundary that it names. -/
theorem State.writeCommit_holder (b : Fin 4) (h : s.writes m p 0x02C (1 + 2 * b) = true) (ho : s.holds m p = true) :
    s.writeReg m p 0x02C (1 + 2 * b) =
      ((s.setHdr p { s.hdr p with boundary := b }).commitGo m p b).emit (.access m 0 0) := by
  obtain ⟨hgo, hb⟩ := commitWord_bits b
  refine State.writeHeader_ok h (by decide) (by decide) (by omega) ?_
  rw [State.writeHeader_commit, if_pos ho]
  unfold State.commitWrite
  rw [if_pos hgo, if_pos ho, hb]

/-- Another master's request is recorded as refused, and its write counts as NOT_OWNER. -/
theorem State.writeCommit_other (b : Fin 4) (h : s.writes m p 0x02C (1 + 2 * b) = true) (ho : s.holds m p = false) :
    s.writeReg m p 0x02C (1 + 2 * b) = ((s.refuseCommit [p] p 1).usage p).emit (.access m 4 0) := by
  obtain ⟨hgo, hb⟩ := commitWord_bits b
  refine State.writeHeader_notOwner h (by decide) (by decide) (by omega) ?_
  have hcheck : s.commitCheck [p] m p b = some 1 := by
    unfold State.commitCheck
    simp [ho]
  rw [State.writeHeader_commit, ho, if_neg Bool.false_ne_true]
  unfold State.commitWrite
  rw [if_pos hgo, if_neg (by simp [ho]), hb]
  unfold State.commitGo
  rw [hcheck]

/-- A request that passes its checks waits for its boundary. -/
theorem State.commitGo_waits (h : s.commitCheck [p] m p b = none) (hb : b ≠ 2) :
    s.commitGo m p b = s.captureCommit p b false := by
  unfold State.commitGo State.acceptCommit
  rw [h]
  exact if_neg hb

/-- An immediate one is applied as it is captured. -/
theorem State.commitGo_immediate (h : s.commitCheck [p] m p b = none) (hb : b = 2) :
    s.commitGo m p b = (s.captureCommit p 2 false).applyPages [p] := by
  subst hb
  unfold State.commitGo
  rw [h]
  rfl

theorem State.commitGo_refused {reason : Nat} (h : s.commitCheck [p] m p b = some reason) :
    s.commitGo m p b = s.refuseCommit [p] p reason := by
  unfold State.commitGo
  rw [h]

/-- Counting a usage error keeps what a page records of its commits. -/
theorem State.usage_commit (s : State) (q : Nat) :
    ((s.usage q).hdr p).pend = (s.hdr p).pend ∧ ((s.usage q).hdr p).commitState = (s.hdr p).commitState ∧
    ((s.usage q).hdr p).commitReason = (s.hdr p).commitReason := by
  unfold State.usage
  simp only
  split
  · by_cases e : p = q
    · subst e
      simp
    · simp [State.setHdr_hdr_other _ _ _ _ e]
  · exact ⟨rfl, rfl, rfl⟩

theorem exec_pageCommitGo_on (h : s.boot.powered = true) (m : Master) (p : Fin 128) (b : Fin 4) :
    exec (.pageCommitGo m p b) s = .next (s.writeReg m.id p 0x02C (1 + 2 * b)) :=
  congrArg Host.Outcome.next (State.live_on h _)

/-- Settles O12: the holder's request is captured, applied or refused by its checks; another master's is refused. -/
theorem commitIsCapturedOrRefused : Obligations.CommitIsCapturedOrRefused := by
  unfold Obligations.CommitIsCapturedOrRefused
  intro s u m p b ty hty hw
  obtain ⟨c, hc, hshadow⟩ := State.writes_commit_shadow hw
  rw [exec_pageCommitGo_on (State.writes_powered hw)]
  refine ⟨fun ho hu => ?_, fun ho => ?_⟩
  case refine_1 =>
    rw [State.writeCommit_holder b hw ho, ← hu]
    have hus : ∀ l, Part.page ty ∈ l → State.SameBut l s u := fun l hl =>
      hu ▸ State.setHdr_same (State.SameOutside.refl _ s) (Nat.zero_or _) (pageMask_of_mem hty hl)
    refine ⟨fun hcheck hb hwf => ?_, fun hcheck hb => ?_, fun reason hcheck => ?_⟩
    · have hshd : SMap.wf (fun a => resetWord a &&& BitVec.ofNat 32 (rwsMask a)) u.pages.shd = true := by
        rw [hu]
        exact Pages.wf_shadows (g := s.pages) hwf
      rw [State.commitGo_waits hcheck fun e => hb (Fin.ext e)]
      refine ⟨_, _, rfl, State.emit_answers _ _, State.captureCommit_hdr u p b false, fun off => ?_, fun off => ?_,
        fun a => ?_, ?_⟩
      · rw [State.emit_captured, State.captureCommit_captured hshd, hu, State.setHdr_shadow]
      · rw [State.emit_word, State.captureCommit_word, hu, State.setHdr_word]
      · rw [State.emit_shadow, State.captureCommit_shadow, hu, State.setHdr_shadow]
      · exact State.emit_same (State.captureCommit_same (hus _ (by simp))
          (partsMask_of_subset (k := [.pair, .out, .page .pair]) (by simp)) (pageMask_of_mem hty (by simp)))
          (partsMask_of_subset (k := [.out]) (by simp))
    · rw [State.commitGo_immediate hcheck (congrArg Fin.val hb)]
    · rw [State.commitGo_refused hcheck]
      obtain ⟨hstate, hreason, hevt, hpend, hregs⟩ :=
        State.refuseCommit_spec (s := u) (ps := [p.val]) (reason := reason) hc hshadow
      refine ⟨_, rfl, State.emit_answers _ _, hstate, hreason, hevt, ?_, fun a => ?_, ?_⟩
      · rw [State.emit_hdr, hpend, hu, State.setHdr_hdr_self]
      · rw [State.emit_shadow, State.emit_captured, (hregs a).1, (hregs a).2, hu]
        exact ⟨rfl, rfl⟩
      · exact State.emit_same (State.refuseCommit_same (hus _ (by simp))
          (partsMask_of_subset (k := [.out, .page .sys]) (by simp)) (pageMask_of_mem hty (by simp)))
          (partsMask_of_subset (k := [.out]) (by simp))
  case refine_2 =>
    rw [State.writeCommit_other b hw ho]
    obtain ⟨hstate, hreason, -, hpend, -⟩ :=
      State.refuseCommit_spec (s := s) (ps := [p.val]) (reason := 1) hc hshadow
    obtain ⟨upend, ustate, ureason⟩ := State.usage_commit (p := p) (s.refuseCommit [p.val] p 1) p
    exact ⟨_, rfl, State.emit_answers _ _, upend.trans hpend, ustate.trans hstate, ureason.trans hreason⟩

end Sys2Proof.Machine
end

section
/-! PROOFS. Snapshots: the registers of a page copied in one cycle, one page or the pages of a group (R57 to R59). -/

namespace Sys2Proof.Machine

variable {s : State} {m p q v a : Nat} {l : List (Reg × Nat)} {x : Reg × Nat} {ty : PageType}

/-! ### The registers of a table -/

/-- A register that a table has at an offset is one that it lists, at the place of its number. -/
theorem regAt_mem {rs : List Reg} {off i : Nat} {r : Reg} (h : regAt rs off = some (r, i)) :
    r ∈ rs ∧ i < r.n ∧ off = r.off + r.stride * i := by
  induction rs with
  | nil => cases h
  | cons e rest ih =>
    have hfound : r = e ∧ i < e.n ∧ off = e.off + e.stride * i ∨ regAt rest off = some (r, i) := by
      unfold regAt at h
      by_cases hn : e.n = 1
      · simp only [hn, if_true] at h
        split at h
        next hc =>
          cases h
          exact .inl ⟨rfl, by omega, hc.2⟩
        next => exact .inr h
      · simp only [if_neg hn] at h
        split at h
        next hc =>
          obtain ⟨hle, hdvd, hlt⟩ := hc
          cases h
          rw [Nat.mul_div_cancel' (Nat.dvd_of_mod_eq_zero hdvd)]
          exact .inl ⟨rfl, hlt, by omega⟩
        next => exact .inr h
    rcases hfound with ⟨rfl, hi, hoff⟩ | h
    · exact ⟨List.mem_cons_self .., hi, hoff⟩
    · obtain ⟨hr, hi⟩ := ih h
      exact ⟨List.mem_cons_of_mem _ hr, hi⟩

/-- The snapshot counters of a kind of page, each with its number. -/
def snapRegs (ty : PageType) : List (Reg × Nat) :=
  (ty.regs.filter (fun r => r.snap != 0)).flatMap fun r => (List.range r.n).map (Prod.mk r)

/-- A register that the map has at an address of a page, if it holds a snapshot counter. -/
theorem mem_snapRegs {r : Reg} {off i : Nat} (hty : (pageOf p).map Prod.fst = some ty)
    (hr : regOf (addrOf p off) = some (r, i)) (ho : off < 0x1000) (hs : r.snap ≠ 0) :
    (r, i) ∈ snapRegs ty ∧ off = r.off + r.stride * i := by
  obtain ⟨⟨ty', j⟩, hx, rfl⟩ := Option.map_eq_some_iff.mp hty
  have hat : regAt ty'.regs off = some (r, i) := by
    unfold regOf at hr
    rw [addrOf_page, hx, addrOf_off, Nat.mod_eq_of_lt ho] at hr
    simp only at hr
    split at hr
    · cases hr
    · exact hr
  obtain ⟨hmem, hi, hoff⟩ := regAt_mem hat
  refine ⟨List.mem_flatMap.mpr ⟨r, List.mem_filter.mpr ⟨hmem, by simpa using hs⟩, ?_⟩, hoff⟩
  exact List.mem_map_of_mem (List.mem_range.mpr hi)

/-- No two snapshot counters of a page share a word. -/
theorem snapRegs_nodup (ty : PageType) (p : Nat) : ((snapRegs ty).map fun x => regAddr p x.1 x.2).Nodup := by
  have hoffs : ((snapRegs ty).map fun x => (x.1.off + x.1.stride * x.2) % 0x1000).Nodup := by
    cases ty <;> decide
  have haddr : ((snapRegs ty).map fun x => regAddr p x.1 x.2) =
      ((snapRegs ty).map fun x => (x.1.off + x.1.stride * x.2) % 0x1000).map (0x1000 * p + ·) := by
    rw [List.map_map]
    rfl
  rw [haddr]
  exact hoffs.map (add_right_injective _)

/-! ### Copying the counters -/

/-- The copy of one counter; a snapshot register then starts again from its reset value. -/
def State.copyReg (p : Nat) (s : State) (x : Reg × Nat) : State :=
  (s.setSnapWord (regAddr p x.1 x.2) (s.word (regAddr p x.1 x.2) &&& BitVec.ofNat 32 x.1.snap)).setWord (regAddr p x.1 x.2)
    ((s.word (regAddr p x.1 x.2) &&& BitVec.ofNat 32 (0xFFFFFFFF - x.1.sreg)) |||
      (resetWord (regAddr p x.1 x.2) &&& BitVec.ofNat 32 x.1.sreg))

/-- A change of every register, number by number. -/
theorem mapRegs_eq (rs : List Reg) (f : Reg → Nat → State → State) (s : State) :
    mapRegs rs f s = (rs.flatMap fun r => (List.range r.n).map (Prod.mk r)).foldl (fun s x => f x.1 x.2 s) s := by
  unfold mapRegs
  rw [List.foldl_flatMap]
  simp only [List.foldl_map]

/-- The counters of a listed page are copied one by one, then those of its header. -/
theorem State.copyCounters_eq (hty : (pageOf p).map Prod.fst = some ty) : s.copyCounters p =
    ((snapRegs ty).foldl (State.copyReg p) s).setHdr p { ((snapRegs ty).foldl (State.copyReg p) s).hdr p with
      usageCopy := (((snapRegs ty).foldl (State.copyReg p) s).hdr p).usage
      faultCopy := (((snapRegs ty).foldl (State.copyReg p) s).hdr p).fault } := by
  obtain ⟨⟨ty', j⟩, hx, rfl⟩ := Option.map_eq_some_iff.mp hty
  unfold State.copyCounters
  rw [hx]
  simp only [mapRegs_eq]
  rfl

theorem State.copyReg_snapWord_self : (s.copyReg p x).snapWord (regAddr p x.1 x.2) =
    s.word (regAddr p x.1 x.2) &&& BitVec.ofNat 32 x.1.snap := by
  unfold State.copyReg
  rw [State.setWord_snapWord, State.setSnapWord_snapWord_self]

theorem State.copyReg_other (h : a ≠ regAddr p x.1 x.2) :
    (s.copyReg p x).word a = s.word a ∧ (s.copyReg p x).snapWord a = s.snapWord a := by
  unfold State.copyReg
  rw [State.setWord_word_other _ _ _ _ h, State.setWord_snapWord]
  exact ⟨rfl, SMap.read_write_other _ _ _ h _⟩

theorem State.copyRegs_hdr (q : Nat) : (l.foldl (State.copyReg p) s).hdr q = s.hdr q :=
  List.foldlRecOn l _ (motive := fun t : State => t.hdr q = s.hdr q) rfl fun _ ht _ _ => ht

theorem State.copyRegs_shadow (a : Nat) : (l.foldl (State.copyReg p) s).shadow a = s.shadow a :=
  List.foldlRecOn l _ (motive := fun t : State => t.shadow a = s.shadow a) rfl fun _ ht _ _ => ht

theorem State.copyRegs_other (h : ∀ x ∈ l, a ≠ regAddr p x.1 x.2) :
    (l.foldl (State.copyReg p) s).snapWord a = s.snapWord a :=
  List.foldlRecOn l _ (motive := fun t : State => t.snapWord a = s.snapWord a) rfl fun _ ht x hx =>
    (State.copyReg_other (h x hx)).2.trans ht

/-- Each counter is copied as it stood before the first of them. -/
theorem State.copyRegs_snapWord (hnd : (l.map fun x => regAddr p x.1 x.2).Nodup) (hx : x ∈ l) :
    (l.foldl (State.copyReg p) s).snapWord (regAddr p x.1 x.2) =
      s.word (regAddr p x.1 x.2) &&& BitVec.ofNat 32 x.1.snap := by
  induction l generalizing s with
  | nil => cases hx
  | cons e rest ih =>
    rw [List.map_cons, List.nodup_cons] at hnd
    obtain ⟨hfresh, hrest⟩ := hnd
    rw [List.foldl_cons]
    rcases List.mem_cons.mp hx with rfl | hx
    · rw [State.copyRegs_other fun y hy e => hfresh (List.mem_map.mpr ⟨y, hy, e.symm⟩), State.copyReg_snapWord_self]
    · have hne : regAddr p x.1 x.2 ≠ regAddr p e.1 e.2 := fun e => hfresh (List.mem_map.mpr ⟨x, hx, e⟩)
      rw [ih hrest hx, (State.copyReg_other hne).1]

theorem State.copyCounters_hdr_self (hty : (pageOf p).map Prod.fst = some ty) : (s.copyCounters p).hdr p =
    { s.hdr p with usageCopy := (s.hdr p).usage, faultCopy := (s.hdr p).fault } := by
  rw [State.copyCounters_eq hty, State.setHdr_hdr_self, State.copyRegs_hdr]

theorem State.copyCounters_hdr_other (h : q ≠ p) : (s.copyCounters p).hdr q = s.hdr q := by
  cases hx : pageOf p with
  | none => simp [State.copyCounters, hx]
  | some e =>
    rw [State.copyCounters_eq (p := p) (ty := e.1) (by rw [hx]; rfl), State.setHdr_hdr_other _ _ _ _ h,
      State.copyRegs_hdr]

theorem State.copyCounters_shadow (hty : (pageOf p).map Prod.fst = some ty) (a : Nat) :
    (s.copyCounters p).shadow a = s.shadow a := by
  rw [State.copyCounters_eq hty, State.setHdr_shadow, State.copyRegs_shadow]

theorem State.copyCounters_snapWord {r : Reg} {off i : Nat} (hty : (pageOf p).map Prod.fst = some ty)
    (hr : regOf (addrOf p off) = some (r, i)) (ho : off < 0x1000) (hs : r.snap ≠ 0) :
    (s.copyCounters p).snapWord (addrOf p off) = s.word (addrOf p off) &&& BitVec.ofNat 32 r.snap := by
  obtain ⟨hmem, hoff⟩ := mem_snapRegs hty hr ho hs
  rw [State.copyCounters_eq hty, State.setHdr_snapWord, hoff]
  exact State.copyRegs_snapWord (snapRegs_nodup ty p) hmem

/-! ### The snapshot of a page -/

/-- The checker of a lane counts up to the snapshot in its own registers. -/
theorem State.prbsCatch_pages (s : State) (l : Nat) :
    (∀ q, (s.prbsCatch l).hdr q = s.hdr q) ∧ ∀ a, (s.prbsCatch l).shadow a = s.shadow a := by
  unfold State.prbsCatch State.fadd64 State.fset64
  simp only
  split
  · refine ⟨fun q => ?_, fun a => ?_⟩
    · simp only [State.fset_hdr]
      rfl
    · simp only [State.fset_shadow]
      rfl
  · exact ⟨fun _ => rfl, fun _ => rfl⟩

/-- A snapshot copies the counters, on a LANE page those that its checker has caught up with. -/
theorem State.snapshot_eq (s : State) (p : Nat) : ∃ u : State,
    s.snapshot p = (u.copyCounters p).setHdr p { (u.copyCounters p).hdr p with
      snapBusy := false, snapSeq := (((u.copyCounters p).hdr p).snapSeq + 1) % 65536 } ∧
    (∀ q, u.hdr q = s.hdr q) ∧ (∀ a, u.shadow a = s.shadow a) ∧ ((pageOf p).map Prod.fst ≠ some .lane → u = s) := by
  unfold State.snapshot
  refine ⟨_, rfl, ?_⟩
  split
  next l hx =>
    obtain ⟨hhdr, hshadow⟩ := s.prbsCatch_pages l
    exact ⟨hhdr, hshadow, fun h => absurd (by rw [hx]; rfl) h⟩
  next => exact ⟨fun _ => rfl, fun _ => rfl, fun _ => rfl⟩

theorem State.snapshot_hdr_self (hty : (pageOf p).map Prod.fst = some ty) : (s.snapshot p).hdr p =
    { s.hdr p with
      usageCopy := (s.hdr p).usage, faultCopy := (s.hdr p).fault, snapBusy := false
      snapSeq := ((s.hdr p).snapSeq + 1) % 65536 } := by
  obtain ⟨u, hu, hhdr, -, -⟩ := s.snapshot_eq p
  rw [hu, State.setHdr_hdr_self, State.copyCounters_hdr_self hty, hhdr]

theorem State.snapshot_hdr_other (h : q ≠ p) : (s.snapshot p).hdr q = s.hdr q := by
  obtain ⟨u, hu, hhdr, -, -⟩ := s.snapshot_eq p
  rw [hu, State.setHdr_hdr_other _ _ _ _ h, State.copyCounters_hdr_other h, hhdr]

theorem State.snapshot_shadow (hty : (pageOf p).map Prod.fst = some ty) (a : Nat) :
    (s.snapshot p).shadow a = s.shadow a := by
  obtain ⟨u, hu, -, hshadow, -⟩ := s.snapshot_eq p
  rw [hu, State.setHdr_shadow, State.copyCounters_shadow hty, hshadow]

theorem State.snapshot_snapWord {r : Reg} {off i : Nat} (hty : (pageOf p).map Prod.fst = some ty) (hl : ty ≠ .lane)
    (hr : regOf (addrOf p off) = some (r, i)) (ho : off < 0x1000) (hs : r.snap ≠ 0) :
    (s.snapshot p).snapWord (addrOf p off) = s.word (addrOf p off) &&& BitVec.ofNat 32 r.snap := by
  obtain ⟨u, hu, -, -, heq⟩ := s.snapshot_eq p
  obtain rfl := heq (by rw [hty]; exact fun e => hl (Option.some.inj e))
  rw [hu, State.setHdr_snapWord, State.copyCounters_snapWord hty hr ho hs]

/-- A snapshot changes its own page, and on a LANE page the lane. -/
theorem State.snapshot_sameBut (hty : (pageOf p).map Prod.fst = some ty) :
    State.SameBut [.lanes, .page ty] s (s.snapshot p) := by
  have hp : pageMask p ||| partsMask [.lanes, .page ty] = partsMask [.lanes, .page ty] := pageMask_of_mem hty (by simp)
  by_cases hl : ty = .lane
  · subst hl
    exact State.snapshot_same (State.SameOutside.refl _ s) rfl hp
  · obtain ⟨u, hu, -, -, heq⟩ := s.snapshot_eq p
    obtain rfl := heq (by rw [hty]; exact fun e => hl (Option.some.inj e))
    rw [hu]
    exact State.setHdr_same (State.copyCounters_same (State.SameOutside.refl _ u) (Nat.zero_or _) hp) (Nat.zero_or _) hp

/-! ### The snapshot of a group -/

/-- The pages of a group, each once, complete a snapshot; every other page stays as it is. -/
theorem State.snapshots_marks {l : List Nat} (hnd : l.Nodup) (hl : ∀ q ∈ l, (capOf q).isSome = true) (p : Nat) :
    (((l.foldl State.snapshot s).hdr p).snapBusy, ((l.foldl State.snapshot s).hdr p).snapSeq) =
      if p ∈ l then (false, ((s.hdr p).snapSeq + 1) % 65536) else ((s.hdr p).snapBusy, (s.hdr p).snapSeq) := by
  induction l generalizing s with
  | nil => rfl
  | cons e rest ih =>
    obtain ⟨hfresh, hrest⟩ := List.nodup_cons.mp hnd
    rw [List.foldl_cons, ih hrest fun q hq => hl q (List.mem_cons_of_mem _ hq)]
    by_cases hp : p = e
    · subst hp
      obtain ⟨c, hc⟩ := Option.isSome_iff_exists.mp (hl p (List.mem_cons_self ..))
      obtain ⟨x, hx, -⟩ := Option.map_eq_some_iff.mp hc
      rw [if_neg hfresh, if_pos (List.mem_cons_self ..), State.snapshot_hdr_self (ty := x.1) (by rw [hx]; rfl)]
    · rw [State.snapshot_hdr_other hp]
      simp only [List.mem_cons, hp, false_or]

/-- A page is selected once. -/
theorem State.groupSelected_nodup (s : State) : s.groupSelected.Nodup := by
  unfold State.groupSelected
  refine List.nodup_flatMap.mpr ⟨fun k _ => ?_, ?_⟩
  · exact (List.nodup_range.filter _).map (add_right_injective _)
  · refine List.nodup_range.pairwise_of_forall_ne fun i _ j _ hij => ?_
    refine List.disjoint_left.mpr fun x hi hj => hij ?_
    obtain ⟨b, hb, rfl⟩ := List.mem_map.mp hi
    obtain ⟨c, hc, hx⟩ := List.mem_map.mp hj
    have hb := (mem_bitsSet hb).1
    have hc := (mem_bitsSet hc).1
    omega

theorem State.setGroupFail_hdr (ps : List Nat) (q : Nat) : (s.setGroupFail ps).hdr q = s.hdr q :=
  List.foldlRecOn _ _ (motive := fun t : State => t.hdr q = s.hdr q) rfl fun _ ht _ _ => (State.fset_hdr ..).trans ht

/-- Every selected page that is ON completes a snapshot. -/
theorem State.groupSnapshot_marks (p : Nat) :
    ((s.groupSnapshot.hdr p).snapBusy, (s.groupSnapshot.hdr p).snapSeq) =
      if s.groupSelected.contains p && (capOf p).isSome && s.domOn (domainOf p) then
        (false, ((s.hdr p).snapSeq + 1) % 65536)
      else ((s.hdr p).snapBusy, (s.hdr p).snapSeq) := by
  unfold State.groupSnapshot
  rw [State.snapshots_marks (s.groupSelected_nodup.filter _), State.setGroupFail_hdr]
  · simp only [List.mem_filter, Bool.and_eq_true, List.contains_iff_mem, and_assoc]
  · intro q hq
    have := (List.mem_filter.mp hq).2
    rw [Bool.and_eq_true] at this
    exact this.1

/-! ### Commands that take snapshots -/

/-- TAKE raises BUSY (R58). -/
theorem State.writeSnap_eq (h : s.writes m p 0x038 1 = true) :
    s.writeReg m p 0x038 1 = (s.setHdr p { s.hdr p with snapBusy := true }).emit (.access m 0 0) :=
  State.writeHeader_ok h (by decide) (by decide) (by decide) rfl

/-- The request for a group snapshot as COMMIT_GROUP keeps it: OP and the boundary, while GO starts the snapshot. -/
def State.groupRequest (s : State) : State :=
  s.storeBlock (addrOf pgSys SYS.COMMIT_GROUP.GO.off) 9 { off := 0x080, rw := 0xE, wo := 1 }

theorem State.writeGroupSnapshot_eq (h : s.writes m pgSys SYS.COMMIT_GROUP.GO.off 9 = true) :
    s.writeReg m pgSys SYS.COMMIT_GROUP.GO.off 9 = s.groupRequest.groupSnapshot.emit (.access m 0 0) :=
  State.writeBlock_ok (r := { off := 0x080, rw := 0xE, wo := 1 }) (i := 0) h (by decide) (by decide) rfl (by decide)
    (.inl rfl) (by decide) (by decide)

theorem State.groupRequest_hdr (s : State) (q : Nat) : s.groupRequest.hdr q = s.hdr q := State.storeBlock_hdr_direct rfl

theorem State.groupRequest_fget {f : Fld} (h : addrOf q f.off ≠ addrOf pgSys SYS.COMMIT_GROUP.GO.off) :
    s.groupRequest.fget q f = s.fget q f := by
  unfold State.fget State.groupRequest
  rw [State.storeBlock_word_other h]

theorem State.groupRequest_domOn (s : State) (d : Nat) : s.groupRequest.domOn d = s.domOn d := by
  unfold State.domOn
  rw [State.groupRequest_fget (addrOf_ne (by decide)), State.groupRequest_fget (addrOf_ne (by decide))]

theorem State.groupRequest_selected (s : State) : s.groupRequest.groupSelected = s.groupSelected := by
  unfold State.groupSelected
  refine List.flatMap_congr fun k hk => ?_
  have hk := List.mem_range.mp hk
  rw [State.groupRequest_fget]
  show addrOf 0 (0x084 + 4 * k) ≠ addrOf 0 0x080
  unfold addrOf
  omega

end Sys2Proof.Machine
end

section
/-! PROOFS. Reads that clear or latch what they show (R34, R55, R135), and the statement on snapshots and reads. -/

namespace Sys2Proof.Machine

variable {s : State} {m p off : Nat} {r : Reg}

/-! ### Reads of a header -/

/-- A read of a header register. -/
theorem State.readHeader_eq (h : s.reads m p off = true) (ho : off < 0x040) : ∃ c, capOf p = some c ∧
    s.readReg m p off = (s.readHeader p off c).2.emit (.access m 0 (s.readHeader p off c).1) := by
  have hcheck := h
  simp only [State.reads, Bool.and_eq_true, Option.isNone_iff_eq_none] at hcheck
  obtain ⟨c, hc⟩ := State.accessCheck_cap hcheck.1.2
  simp only [addrOf_rel, addrOf_page] at hc
  have hx : s.accessAt (readAccess m p off) (addrOf p off) =
      (0, (s.readHeader p off c).1, (s.readHeader p off c).2) := by
    unfold State.accessAt
    rw [addrOf_off, addrOf_page, hc, Nat.mod_eq_of_lt (by omega), if_pos ho]
    rfl
  refine ⟨c, hc, ?_⟩
  rw [State.readReg_eq h hx]
  rfl

/-- Reading PAGE_EVT_MISS returns its two counts and clears them (R55). -/
theorem State.readMiss_eq (h : s.reads m p 0x01C = true) : s.readReg m p 0x01C =
    (s.setHdr p { s.hdr p with missCount := 0, missBit := 0 }).emit
      (.access m 0 ((s.hdr p).missCount + (s.hdr p).missBit * 2 ^ 16)) := by
  obtain ⟨c, -, heq⟩ := State.readHeader_eq h (by decide)
  rw [heq]
  rfl

/-! ### Reads of TIME -/

/-- A read of a register of TIME but NOW_LO clears its RC bits. -/
theorem State.readBlock_time (ho : off < 0x1000) (hn : off ≠ TIME.NOW_LO.NS.off) : s.readBlock (addrOf pgTime off) r =
    (s.blockWord (addrOf pgTime off) r, s.setWord (addrOf pgTime off)
      (s.word (addrOf pgTime off) &&& BitVec.ofNat 32 (0xFFFFFFFF ^^^ r.rc))) := by
  unfold State.readBlock
  rw [addrOf_page, addrOf_off, Nat.mod_eq_of_lt ho]
  exact if_neg hn

theorem State.readBlock_now : s.readBlock (addrOf pgTime TIME.NOW_LO.NS.off) r = (s.readNow.1.toNat, s.readNow.2) := by
  unfold State.readBlock
  rw [addrOf_page]
  exact if_pos rfl

/-- The RC bits of a register of TIME read as they stand, where they are neither shadowed nor copied. -/
theorem State.blockWord_time_rc (h : (r.snap ||| r.rws) &&& r.rc = 0) :
    s.blockWord (addrOf pgTime off) r &&& r.rc = (s.word (addrOf pgTime off)).toNat &&& r.rc := by
  have hshown : s.shownWord (addrOf pgTime off) = (s.word (addrOf pgTime off)).toNat := by
    unfold State.shownWord
    rw [addrOf_page]
    rfl
  have hserved : servedBits (addrOf pgTime off) = 0xFFFFFFFF := by
    unfold servedBits
    rw [addrOf_page]
    rfl
  refine Nat.eq_of_testBit_eq fun i => ?_
  have hi := congrArg (Nat.testBit · i) h
  simp only [Nat.testBit_and, Nat.testBit_or, Nat.zero_testBit] at hi
  unfold State.blockWord
  simp only [hshown, hserved, Nat.testBit_and, Nat.testBit_or, Nat.testBit_xor]
  by_cases hb : i < 32
  · rw [word_testBit i hb]
    cases hrc : r.rc.testBit i
    · simp
    · rw [hrc, Bool.and_true, Bool.or_eq_false_iff] at hi
      simp [hi]
  · have hword : (s.word (addrOf pgTime off)).toNat.testBit i = false := by
      rw [BitVec.testBit_toNat]
      exact BitVec.getLsbD_of_ge _ _ (by omega)
    have hmask : (0xFFFFFFFF : Nat).testBit i = false := by
      rw [show (0xFFFFFFFF : Nat) = 2 ^ 32 - 1 by rfl, Nat.testBit_two_pow_sub_one]
      exact decide_eq_false hb
    simp [hword, hmask]

/-- A word without some bits. -/
theorem word_without (w : Word) (x : Nat) : w &&& BitVec.ofNat 32 (0xFFFFFFFF ^^^ x) = w &&& ~~~ BitVec.ofNat 32 x := by
  refine BitVec.eq_of_getLsbD_eq fun i hi => ?_
  simp only [BitVec.getLsbD_and, BitVec.getLsbD_not, BitVec.getLsbD_ofNat, hi, decide_true, Bool.true_and,
    Nat.testBit_xor, word_testBit i hi, Bool.true_xor]

/-- The latch of the time that a read of NOW_LO starts. -/
theorem State.readNow_latches (s : State) : s.readNow.1.toNat = s.now % 2 ^ 32 ∧
    s.readNow.2.fget pgTime TIME.NOW_HI.NS = s.now / 2 ^ 32 % 2 ^ 32 ∧
    s.readNow.2.fget pgTime TIME.NOW_FRAC.FRAC = s.time.sys % 65536 := by
  unfold State.readNow
  refine ⟨BitVec.toNat_ofNat _ _, ?_, ?_⟩
  · rw [State.fget_fset_other _ _ _ _ _ _ (by decide) (.inl (by decide)), State.fget_fset_self _ _ _ _ (by decide)]
    rfl
  · rw [State.fget_fset_self _ _ _ _ (by decide)]
    exact Nat.mod_mod _ _

/-! ### Commands on a powered device -/

theorem exec_snapshotTake_on (h : s.boot.powered = true) (m : Master) (p : Fin 128) :
    exec (.snapshotTake m p) s = .next (s.writeReg m.id p 0x038 1) :=
  congrArg Host.Outcome.next (State.live_on h _)

theorem exec_snapshotDone_on (h : s.boot.powered = true) (p : Fin 128) (hb : (s.hdr p).snapBusy = true) :
    exec (.snapshotDone p) s = .next (s.snapshot p) :=
  congrArg Host.Outcome.next ((State.live_on h _).trans (if_pos hb))

theorem exec_groupSnapshot_on (h : s.boot.powered = true) (m : Master) :
    exec (.groupSnapshot m) s = .next (s.writeReg m.id pgSys SYS.COMMIT_GROUP.GO.off 9) :=
  congrArg Host.Outcome.next (State.live_on h _)

theorem exec_rcRead_on (h : s.boot.powered = true) (m : Master) {addr : BitVec 32}
    (ha : addr.toNat = 0x02000000 + addrOf p off) : exec (.rcRead m addr) s = .next (s.readReg m.id p off) := by
  refine congrArg Host.Outcome.next ((State.live_on h _).trans ?_)
  rw [ha]
  rfl

theorem exec_nowLoRead_on (h : s.boot.powered = true) (m : Master) :
    exec (.nowLoRead m) s = .next (s.readReg m.id pgTime TIME.NOW_LO.NS.off) :=
  congrArg Host.Outcome.next (State.live_on h _)

/-- Settles O10: a snapshot copies registers that do not share a word, a group selects each page once, and a read of TIME
changes the register that it reads, or the latch of the time. -/
theorem snapshotsAndReadsCopyOut : Obligations.SnapshotsAndReadsCopyOut := by
  unfold Obligations.SnapshotsAndReadsCopyOut
  refine ⟨⟨fun s m p hw => ?_, fun s p ty hty hon hbusy => ?_, fun s m hw => ?_⟩,
    fun s m addr off r i haddr hlo hhi hoff hreg hrc hr => ?_, fun s m addr p ty _ haddr hr => ?_, fun s m hr => ?_⟩
  case refine_1 =>
    rw [exec_snapshotTake_on (State.writes_powered hw), State.writeSnap_eq hw]
  case refine_2 =>
    exact ⟨_, exec_snapshotDone_on hon p hbusy, State.snapshot_hdr_self hty,
      fun hl r i off hreg ho hs => State.snapshot_snapWord hty hl hreg ho hs, State.snapshot_shadow hty,
      State.snapshot_sameBut hty⟩
  case refine_3 =>
    rw [exec_groupSnapshot_on (State.writes_powered hw), State.writeGroupSnapshot_eq hw]
    refine ⟨_, rfl, State.emit_answers _ _, fun p => ?_⟩
    rw [State.emit_hdr, State.groupSnapshot_marks, State.groupRequest_selected, State.groupRequest_domOn,
      State.groupRequest_hdr]
  case refine_4 =>
    rw [exec_rcRead_on (State.reads_powered hr) m haddr, State.readBlock_eq hr hlo hhi hreg,
      State.readBlock_time hhi hoff]
    refine ⟨_, _, rfl, State.emit_answers _ _, State.blockWord_time_rc hrc, ?_, fun a ha => ?_, ?_⟩
    · rw [State.emit_word, State.setWord_word_self, word_without]
    · rw [State.emit_word, State.setWord_word_other _ _ _ _ ha]
    · exact State.emit_same (State.setWord_same (State.SameOutside.refl _ s) rfl (pageMask_addr rfl)) rfl
  case refine_5 =>
    rw [exec_rcRead_on (State.reads_powered hr) m haddr, State.readMiss_eq hr]
  case refine_6 =>
    obtain ⟨hlow, hhigh, hfrac⟩ := s.readNow_latches
    have heq : s.readReg m.id pgTime TIME.NOW_LO.NS.off = s.readNow.2.emit (.access m.id 0 (s.now % 2 ^ 32)) := by
      rw [State.readBlock_eq hr (by decide) (by decide) (show regOf _ = some (_, 0) from rfl), State.readBlock_now, hlow]
    rw [exec_nowLoRead_on (State.reads_powered hr), heq]
    exact ⟨_, rfl, State.emit_answers _ _, hhigh, hfrac,
      State.emit_same (State.readNow_same (State.SameOutside.refl _ s) rfl) rfl⟩

end Sys2Proof.Machine
end

section
/-! PROOFS. The registers and the receivers of serial lanes: what each operation of chapter 03 that others are made of sets,
and which fields and lanes it leaves alone. -/

namespace Sys2Proof.Machine

variable {s t : State} {p q n l k v b off m : Nat} {f g : Fld}

/-! ### Fields of one page -/

/-- Two fields without a common bit, the first within its register. -/
abbrev Fld.Apart (f g : Fld) : Prop :=
  f.lo + f.w ≤ 32 ∧ (g.off % 0x1000 ≠ f.off % 0x1000 ∨ g.lo + g.w ≤ f.lo ∨ f.lo + f.w ≤ g.lo)

theorem State.fset_fget_apart (h : f.Apart g) : (s.fset p f v).fget q g = s.fget q g := by
  refine State.fget_fset_other _ _ _ _ _ _ h.1 (h.2.imp_left fun hne e => hne ?_)
  rw [← addrOf_off q g.off, e, addrOf_off]

theorem State.fsetB_fget_apart {x : Bool} (h : f.Apart g) : (s.fsetB p f x).fget q g = s.fget q g :=
  State.fset_fget_apart h

theorem State.fsetI_fget_apart {x : Int} (h : f.Apart g) : (s.fsetI p f x).fget q g = s.fget q g :=
  State.fset_fget_apart h

theorem State.fadd_fget_apart (h : f.Apart g) : (s.fadd p f v).fget q g = s.fget q g := State.fset_fget_apart h

theorem State.finc_fget_apart (h : f.Apart g) : (s.finc p f).fget q g = s.fget q g := State.fset_fget_apart h

theorem State.fadd64_fget_apart {f' : Fld} (h : f.Apart g) (h' : f'.Apart g) :
    (s.fadd64 p f f' v).fget q g = s.fget q g :=
  (State.fset_fget_apart h').trans (State.fset_fget_apart h)

theorem State.fget_lt (s : State) (p : Nat) (f : Fld) : s.fget p f < 2 ^ f.w := Nat.mod_lt _ (Nat.two_pow_pos _)

/-- A value that fits a field reads back. -/
theorem State.fset_fget (h : f.lo + f.w ≤ 32) (hv : v < 2 ^ f.w) : (s.fset p f v).fget p f = v :=
  (State.fget_fset_self _ _ _ _ h).trans (Nat.mod_eq_of_lt hv)

/-- A count goes up and stops at its greatest value. -/
theorem State.fadd_fget (h : f.lo + f.w ≤ 32) : (s.fadd p f v).fget p f = min (s.fget p f + v) (2 ^ f.w - 1) :=
  State.fset_fget h (Nat.lt_of_le_of_lt (Nat.min_le_right _ _) (Nat.sub_lt (Nat.two_pow_pos _) Nat.zero_lt_one))

theorem State.finc_fget (h : f.lo + f.w ≤ 32) : (s.finc p f).fget p f = min (s.fget p f + 1) (2 ^ f.w - 1) :=
  State.fadd_fget h

/-! ### What depends on the pages alone -/

theorem State.fget_of_pages (h : t.pages = s.pages) (p : Nat) (f : Fld) : t.fget p f = s.fget p f := by
  unfold State.fget State.word
  rw [h]

@[simp] theorem State.advanceTo_lane (s : State) (i : Nat) : (s.advanceTo i).lane l = s.lane l := by
  unfold State.advanceTo
  split <;> rfl

/-- States that agree in the pages of a kind hold the same fields there. -/
theorem State.SameOutside.fget {ty : PageType} (h : State.SameOutside m s t) (hp : (pageOf p).map Prod.fst = some ty)
    (hm : m.testBit (Part.page ty).num = false) : t.fget p f = s.fget p f := by
  unfold State.fget
  rw [((h (.page ty) hm p hp).2 f.off).1]

theorem pageOf_lane_type (l : Nat) : (pageOf (pgLane l)).map Prod.fst = some .lane := by rw [pageOf_lane]; rfl

theorem pageOf_link_type (n : Nat) : (pageOf (pgLink n)).map Prod.fst = some .link := by rw [pageOf_link]; rfl

/-! ### Lanes and the machines that train them -/

@[simp] theorem State.setLane_pages (s : State) (l : Nat) (x : LaneSt) : (s.setLane l x).pages = s.pages := rfl
@[simp] theorem State.setLane_mono (s : State) (l : Nat) (x : LaneSt) : (s.setLane l x).mono = s.mono := rfl
@[simp] theorem State.setLane_fget (s : State) (l : Nat) (x : LaneSt) : (s.setLane l x).fget p f = s.fget p f :=
  State.fget_of_pages rfl p f
@[simp] theorem State.setLane_hdr (s : State) (l : Nat) (x : LaneSt) : (s.setLane l x).hdr p = s.hdr p := rfl
@[simp] theorem State.setTrain_fget (s : State) (n : Nat) (x : TrainSt) : (s.setTrain n x).fget p f = s.fget p f :=
  State.fget_of_pages rfl p f
@[simp] theorem State.setTrain_hdr (s : State) (n : Nat) (x : TrainSt) : (s.setTrain n x).hdr p = s.hdr p := rfl
@[simp] theorem State.setTrain_lane (s : State) (n : Nat) (x : TrainSt) : (s.setTrain n x).lane l = s.lane l := rfl
@[simp] theorem State.fset_lane (s : State) : (s.fset p f v).lane l = s.lane l := rfl
@[simp] theorem State.fsetB_lane (s : State) (x : Bool) : (s.fsetB p f x).lane l = s.lane l := rfl

@[simp] theorem State.setLane_lane_self (s : State) (l : Nat) (x : LaneSt) : (s.setLane l x).lane l = x :=
  SMap.read_write_self ..

theorem State.setLane_lane_other {x : LaneSt} (h : k ≠ l) : (s.setLane l x).lane k = s.lane k :=
  SMap.read_write_other _ _ _ h _

@[simp] theorem State.setTrain_train_self (s : State) (n : Nat) (x : TrainSt) : (s.setTrain n x).train n = x :=
  SMap.read_write_self ..

theorem State.evt_lane (s : State) : (s.evt p b).lane l = s.lane l := by
  unfold State.lane
  rw [State.evt_lanes]

/-! ### The four lanes of a link -/

theorem lanesOf_nodup (n : Nat) : (lanesOf n).Nodup := by simp [lanesOf]

/-- A lane is one of the lanes of its link. -/
theorem mem_lanesOf_div (l : Nat) : l ∈ lanesOf (l / 4) := by
  simp only [lanesOf, List.mem_cons, List.not_mem_nil, or_false]
  omega

theorem first_mem_lanesOf (n : Nat) : 4 * n ∈ lanesOf n := List.mem_cons_self ..

/-- Lanes of the device have pages of their own. -/
theorem pgLane_ne (hl : l < 24) (hk : k < 24) (h : k ≠ l) : pgLane k ≠ pgLane l := by
  unfold pgLane
  omega

/-- Every lane of a link goes through the change once. -/
theorem State.mapLanes_lane (s : State) (n : Nat) (u : LaneSt → LaneSt) (l : Nat) :
    (s.mapLanes n u).lane l = if l ∈ lanesOf n then u (s.lane l) else s.lane l := by
  unfold State.mapLanes
  have h := lanesOf_nodup n
  generalize lanesOf n = L at h
  induction L generalizing s with
  | nil => rfl
  | cons e r ih =>
    obtain ⟨hfresh, hr⟩ := List.nodup_cons.mp h
    rw [List.foldl_cons, ih _ hr]
    by_cases he : l = e
    · subst he
      rw [if_neg hfresh, if_pos (List.mem_cons_self ..), State.setLane_lane_self]
    · rw [State.setLane_lane_other he]
      simp [he]

theorem State.mapLanes_lane_mem {u : LaneSt → LaneSt} (h : l ∈ lanesOf n) : (s.mapLanes n u).lane l = u (s.lane l) := by
  rw [State.mapLanes_lane, if_pos h]

@[simp] theorem State.mapLanes_pages (s : State) (n : Nat) (u : LaneSt → LaneSt) : (s.mapLanes n u).pages = s.pages := rfl
@[simp] theorem State.mapLanes_mono (s : State) (n : Nat) (u : LaneSt → LaneSt) : (s.mapLanes n u).mono = s.mono := rfl
@[simp] theorem State.mapLanes_fget (s : State) (n : Nat) (u : LaneSt → LaneSt) :
    (s.mapLanes n u).fget p f = s.fget p f :=
  State.fget_of_pages rfl p f
@[simp] theorem State.mapLanes_hdr (s : State) (n : Nat) (u : LaneSt → LaneSt) : (s.mapLanes n u).hdr p = s.hdr p := rfl
@[simp] theorem State.mapLanes_train (s : State) (u : LaneSt → LaneSt) : (s.mapLanes k u).train n = s.train n := rfl

/-- A field that the four lanes of a link share holds what was set. -/
theorem State.allLanes_fget (hf : f.lo + f.w ≤ 32) (hv : v < 2 ^ f.w) (hl : l ∈ lanesOf n) :
    (s.allLanes n f v).fget (pgLane l) f = v := by
  unfold State.allLanes
  generalize lanesOf n = L at hl
  induction L generalizing s with
  | nil => cases hl
  | cons e r ih =>
    rw [List.foldl_cons]
    by_cases hr : l ∈ r
    · exact ih hr
    · obtain rfl : l = e := (List.mem_cons.mp hl).resolve_right hr
      refine List.foldlRecOn r _ (motive := fun t : State => t.fget (pgLane l) f = v) (State.fset_fget hf hv)
        fun t ht a _ => ?_
      by_cases ha : pgLane l = pgLane a
      · rw [ha]
        exact State.fset_fget hf hv
      · rw [State.fget_fset_page _ _ _ _ _ _ ha, ht]

theorem State.allLanes_fget_apart (h : f.Apart g) : (s.allLanes n f v).fget p g = s.fget p g :=
  List.foldlRecOn _ _ (motive := fun t : State => t.fget p g = s.fget p g) rfl fun _ ht _ _ =>
    (State.fset_fget_apart h).trans ht

@[simp] theorem State.allLanes_hdr (s : State) : (s.allLanes n f v).hdr p = s.hdr p := rfl
@[simp] theorem State.allLanes_lane (s : State) : (s.allLanes n f v).lane l = s.lane l := rfl
@[simp] theorem State.allLanes_train (s : State) : (s.allLanes k f v).train n = s.train n := rfl
@[simp] theorem State.allLanes_mono (s : State) : (s.allLanes n f v).mono = s.mono := rfl

@[simp] theorem State.lanesEvt_fget (s : State) : (s.lanesEvt n b).fget p f = s.fget p f :=
  List.foldlRecOn _ _ (motive := fun t : State => t.fget p f = s.fget p f) rfl fun _ ht _ _ =>
    (State.evt_fget ..).trans ht

@[simp] theorem State.lanesEvt_run (s : State) : ((s.lanesEvt n b).hdr p).run = (s.hdr p).run :=
  List.foldlRecOn _ _ (motive := fun t : State => (t.hdr p).run = (s.hdr p).run) rfl fun _ ht _ _ =>
    (State.evt_hdr_run ..).trans ht

theorem State.lanesEvt_keeps (h : (s.hdr p).evt.getLsbD k = true) : ((s.lanesEvt n b).hdr p).evt.getLsbD k = true :=
  List.foldlRecOn _ _ (motive := fun t : State => (t.hdr p).evt.getLsbD k = true) h fun _ ht _ _ =>
    State.evt_keeps _ _ _ _ _ ht

/-- An event of the link is set on each of its lane pages (R100). -/
theorem State.lanesEvt_set (hb : b < 32) (hl : l ∈ lanesOf n) :
    ((s.lanesEvt n b).hdr (pgLane l)).evt.getLsbD b = true := by
  unfold State.lanesEvt
  generalize lanesOf n = L at hl
  induction L generalizing s with
  | nil => cases hl
  | cons e r ih =>
    rw [List.foldl_cons]
    by_cases hr : l ∈ r
    · exact ih hr
    · obtain rfl : l = e := (List.mem_cons.mp hl).resolve_right hr
      exact List.foldlRecOn r _ (motive := fun t : State => (t.hdr (pgLane l)).evt.getLsbD b = true)
        (State.evt_set _ _ _ hb) fun _ ht _ _ => State.evt_keeps _ _ _ _ _ ht

/-! ### The state of a link's machine -/

/-- The state of the machine rests on the states that its lanes show. -/
theorem State.trainState_congr (h : ∀ l, t.laneState l = s.laneState l) : t.trainState n = s.trainState n := by
  unfold State.trainState
  simp only [h]

theorem State.trainState_of_pages (h : t.pages = s.pages) : t.trainState n = s.trainState n :=
  State.trainState_congr fun _ => State.fget_of_pages h _ _

theorem State.laneState_lt (s : State) (l : Nat) : s.laneState l < 8 := State.fget_lt ..

theorem State.trainState_lt (s : State) (n : Nat) : s.trainState n < 8 := by
  unfold State.trainState
  split
  · decide
  · exact s.laneState_lt _

/-- Lanes that all show one state other than TEST give it to their machine. -/
theorem State.trainState_of_all (h : ∀ l ∈ lanesOf n, s.laneState l = v) (hv : v ≠ 7) : s.trainState n = v := by
  unfold State.trainState
  rw [if_neg, h _ (first_mem_lanesOf n)]
  simp only [List.any_eq_true, decide_eq_true_eq, not_exists, not_and]
  exact fun l hl e => hv ((h l hl).symm.trans e)

end Sys2Proof.Machine
end

section
/-! PROOFS. How an attempt ends: a link that goes DOWN, the record of state and reason, and SEEK with its dwell (R82 to R87). -/

namespace Sys2Proof.Machine

variable {s t : State} {p q n l k v m reason : Nat} {f g : Fld}

/-! ### Locks that break leave values, commands and flags (R46) -/

theorem State.breakLocksOf_word (s : State) (o a : Nat) : (s.breakLocksOf o).word a = s.word a := by
  refine List.foldlRecOn _ _ (motive := fun t : State => t.word a = s.word a) rfl fun t ht q _ => ?_
  unfold State.breakLock
  split
  · split
    · simp [State.reloadShadows_word, ht]
    · exact ht
  · exact ht

/-- A lock that breaks ends no command and clears no flag. -/
theorem State.breakLock_hdr (s : State) (q p : Nat) : ((s.breakLock q).hdr p).run = (s.hdr p).run ∧
    ∀ i, (s.hdr p).evt.getLsbD i = true → ((s.breakLock q).hdr p).evt.getLsbD i = true := by
  unfold State.breakLock
  split
  · have hfreed : ∀ x : State, (x.hdr p).run = (s.hdr p).run ∧ (x.hdr p).evt = (s.hdr p).evt →
        ((x.evt q 2).hdr p).run = (s.hdr p).run ∧
        ∀ i, (s.hdr p).evt.getLsbD i = true → ((x.evt q 2).hdr p).evt.getLsbD i = true := fun x hx =>
      ⟨(State.evt_hdr_run ..).trans hx.1, fun i hi => State.evt_keeps _ _ _ _ _ (hx.2 ▸ hi)⟩
    refine hfreed _ ?_
    by_cases e : p = q
    · subst e
      simp [State.reloadShadows_hdr]
    · simp [State.setHdr_hdr_other _ _ _ _ e, State.reloadShadows_hdr, e]
  · exact ⟨rfl, fun _ h => h⟩

theorem State.breakLocksOf_hdr (s : State) (o p : Nat) : ((s.breakLocksOf o).hdr p).run = (s.hdr p).run ∧
    ∀ i, (s.hdr p).evt.getLsbD i = true → ((s.breakLocksOf o).hdr p).evt.getLsbD i = true := by
  refine List.foldlRecOn _ _ (motive := fun t : State => (t.hdr p).run = (s.hdr p).run ∧
    ∀ i, (s.hdr p).evt.getLsbD i = true → (t.hdr p).evt.getLsbD i = true) ⟨rfl, fun _ h => h⟩ fun t ht q _ => ?_
  split
  · obtain ⟨hrun, hevt⟩ := t.breakLock_hdr q p
    exact ⟨hrun.trans ht.1, fun i hi => hevt i (ht.2 i hi)⟩
  · exact ht

/-! ### A link goes DOWN (R87) -/

/-- A link that is DOWN, before the locks of its host break. -/
def State.linkEnded (s : State) (n : Nat) : State :=
  let u := (s.truncateAll n).setLink n { (s.truncateAll n).link n with exchanging := false, bursts := [] }
  (((u.fset (pgLink n) LINK.LINK_STAT.RATE 0).fset (pgLink n) LINK.LINK_STAT.SNF 0).setLinkState n 0 0).evt (pgLink n) 9

theorem State.linkDown_eq (s : State) (n : Nat) : s.linkDown n = (s.linkEnded n).breakLocksOf (n + 1) := rfl

/-- Until the locks break, nothing changes on LANE pages. -/
theorem State.linkEnded_same (s : State) (n : Nat) : State.SameOutside 13835058057431220320 s (s.linkEnded n) :=
  State.evt_same (State.setLinkState_same (State.fset_same (State.fset_same (State.setLink_same
    (State.truncateAll_same (State.SameOutside.refl _ s) rfl) rfl) rfl (pageMask_link _ rfl)) rfl (pageMask_link _ rfl)) rfl)
    rfl (pageMask_link _ rfl)

theorem State.linkDown_fget (s : State) (n l : Nat) : (s.linkDown n).fget (pgLane l) g = s.fget (pgLane l) g := by
  rw [State.linkDown_eq, ← (s.linkEnded_same n).fget (pageOf_lane_type l) rfl]
  unfold State.fget
  rw [State.breakLocksOf_word]

theorem State.linkDown_hdr (s : State) (n l : Nat) :
    ((s.linkDown n).hdr (pgLane l)).run = (s.hdr (pgLane l)).run ∧
    ∀ i, (s.hdr (pgLane l)).evt.getLsbD i = true → ((s.linkDown n).hdr (pgLane l)).evt.getLsbD i = true := by
  rw [State.linkDown_eq, ← (s.linkEnded_same n (.page .lane) rfl (pgLane l) (pageOf_lane_type l)).1]
  exact State.breakLocksOf_hdr _ _ _

/-! Judging the upstreams marks them and moves no link's state (R126). -/

theorem State.showActive_linkState (s : State) (n : Nat) : s.showActive.linkState n = s.linkState n := by
  unfold State.showActive State.linkState
  simp (disch := decide) only [State.fsetB_fget_apart]

theorem State.truncateAll_linkState (s : State) (k n : Nat) : (s.truncateAll k).linkState n = s.linkState n := by
  refine List.foldlRecOn _ _ (motive := fun t : State => t.linkState n = s.linkState n) rfl fun t ht h _ => ?_
  unfold State.truncate
  simp only
  split
  · exact ht
  · rw [← ht]
    unfold State.linkState
    rw [State.fadd_fget_apart (by decide)]
    exact State.fget_of_pages rfl _ _

theorem State.switchUp_linkState (s : State) (c n : Nat) : (s.switchUp c).linkState n = s.linkState n := by
  have htruncate := s.truncateAll_linkState s.activeUp n
  unfold State.switchUp
  rw [State.showActive_linkState]
  unfold State.linkState at htruncate ⊢
  simp (disch := decide) only [State.evt_fget, State.finc_fget_apart, State.fset_fget_apart]
  split
  · rw [← htruncate]
    generalize s.truncateAll s.activeUp = u
    exact State.fget_of_pages rfl _ _
  · exact State.fget_of_pages rfl _ _

theorem State.evalUp_linkState (s : State) (n : Nat) : s.evalUp.linkState n = s.linkState n := by
  have hpref : s.trackPref.linkState n = s.linkState n := State.fget_of_pages rfl _ _
  unfold State.evalUp
  simp only
  split
  · rw [State.switchUp_linkState, hpref]
  · rw [State.showActive_linkState, hpref]

theorem State.setLinkState_linkState {st auth : Nat} (h : st < 8) : (s.setLinkState n st auth).linkState n = st := by
  unfold State.setLinkState
  rw [State.evalUp_linkState]
  have hset : ∀ u : State, ((u.fset (pgLink n) LINK.LINK_STAT.STATE st).fset (pgLink n)
      LINK.LINK_STAT.AUTH_RESULT auth).linkState n = st := fun u => by
    unfold State.linkState
    rw [State.fset_fget_apart (by decide), State.fset_fget (by decide) h]
  simp only
  split
  · exact hset s
  · exact ((State.reelPush_same (State.SameOutside.refl 4611686020576444416 _) rfl).fget (pageOf_link_type n) rfl).trans (hset s)

theorem State.linkDown_linkState (s : State) (n : Nat) : (s.linkDown n).linkState n = 0 := by
  rw [State.linkDown_eq]
  unfold State.linkState State.fget
  rw [State.breakLocksOf_word]
  exact (State.evt_fget ..).trans (State.setLinkState_linkState (by decide))

/-! ### Leaving RUN -/

theorem State.leaveRun_fget (h : LANE.SENT_STAT.SYNC.Apart g) :
    (s.leaveRun n).fget (pgLane l) g = s.fget (pgLane l) g := by
  unfold State.leaveRun
  split
  · rw [State.lanesEvt_fget, State.linkDown_fget]
    exact List.foldlRecOn _ _ (motive := fun t : State => t.fget (pgLane l) g = s.fget (pgLane l) g) rfl
      fun _ ht _ _ => (State.fset_fget_apart h).trans ht
  · rfl

theorem State.leaveRun_hdr (s : State) (n l : Nat) :
    ((s.leaveRun n).hdr (pgLane l)).run = (s.hdr (pgLane l)).run ∧
    ∀ i, (s.hdr (pgLane l)).evt.getLsbD i = true → ((s.leaveRun n).hdr (pgLane l)).evt.getLsbD i = true := by
  unfold State.leaveRun
  split
  · have hsync : ((lanesOf n).foldl (fun s l => s.fset (pgLane l) LANE.SENT_STAT.SYNC 0) s).hdr (pgLane l) =
        s.hdr (pgLane l) :=
      List.foldlRecOn _ _ (motive := fun t : State => t.hdr (pgLane l) = s.hdr (pgLane l)) rfl fun _ ht _ _ => ht
    obtain ⟨hrun, hevt⟩ := State.linkDown_hdr ((lanesOf n).foldl (fun s l => s.fset (pgLane l) LANE.SENT_STAT.SYNC 0) s) n l
    rw [hsync] at hrun hevt
    exact ⟨(State.lanesEvt_run _).trans hrun, fun i hi => State.lanesEvt_keeps (hevt i hi)⟩
  · exact ⟨rfl, fun _ h => h⟩

theorem State.leaveRun_down (h : s.trainState n = 6) : (s.leaveRun n).linkState n = 0 := by
  unfold State.leaveRun
  rw [if_pos h]
  exact (State.lanesEvt_fget _).trans (State.linkDown_linkState _ n)

/-! ### SEEK and its dwell (R73, R82, R84) -/

theorem dwellMs_le (k : Nat) : dwellMs k ≤ 1000 := by
  unfold dwellMs
  split
  · decide
  · exact Nat.min_le_right _ _

/-- The fields that a link sets on its lanes when it enters SEEK. -/
def seekFields : List Fld := [LANE.TRAIN_STAT.STATE, LANE.TRAIN_STAT.RATE, LANE.TRAIN_STAT.POL_INV, LANE.DWELL.MS]

theorem State.enterSeek_fget_apart (h : ∀ f ∈ seekFields, f.Apart g) : (s.enterSeek n).fget p g = s.fget p g := by
  simp only [seekFields, List.forall_mem_cons] at h
  obtain ⟨hstate, hrate, hpol, hdwell, -⟩ := h
  unfold State.enterSeek
  simp only [State.setTrain_fget, State.mapLanes_fget]
  rw [State.allLanes_fget_apart hdwell, State.allLanes_fget_apart hpol, State.allLanes_fget_apart hrate,
    State.allLanes_fget_apart hstate]

@[simp] theorem State.enterSeek_hdr (s : State) : (s.enterSeek n).hdr p = s.hdr p := by
  unfold State.enterSeek
  simp only [State.setTrain_hdr, State.mapLanes_hdr, State.allLanes_hdr]

/-- In SEEK the lanes rest at the base rate for the dwell of their failed attempts. -/
theorem State.enterSeek_lanes (hl : l ∈ lanesOf n) :
    (s.enterSeek n).laneState l = 1 ∧ (s.enterSeek n).fget (pgLane l) LANE.TRAIN_STAT.RATE = 0 ∧
    (s.enterSeek n).fget (pgLane l) LANE.DWELL.MS = dwellMs (s.attempts n) := by
  unfold State.enterSeek State.laneState
  simp only [State.setTrain_fget, State.mapLanes_fget]
  refine ⟨?_, ?_, ?_⟩
  · rw [State.allLanes_fget_apart (by decide), State.allLanes_fget_apart (by decide), State.allLanes_fget_apart (by decide)]
    exact State.allLanes_fget (by decide) (by decide) hl
  · rw [State.allLanes_fget_apart (by decide), State.allLanes_fget_apart (by decide)]
    exact State.allLanes_fget (by decide) (by decide) hl
  · exact State.allLanes_fget (by decide) (Nat.lt_of_le_of_lt (dwellMs_le _) (by decide)) hl

theorem State.enterSeek_train (s : State) (n : Nat) : (s.enterSeek n).train n = { s.train n with
    since := s.mono, dwellEnd := s.mono + dwellMs (s.attempts n) * 1000000, dwellOver := dwellMs (s.attempts n) = 0 } := by
  unfold State.enterSeek
  simp only [State.setTrain_train_self, State.mapLanes_train, State.allLanes_train, State.mapLanes_mono, State.allLanes_mono]

/-- A receiver starts again in SEEK with its signal alone. -/
theorem State.enterSeek_lane (hl : l ∈ lanesOf n) : (s.enterSeek n).lane l = (s.lane l).restart := by
  unfold State.enterSeek
  rw [State.setTrain_lane, State.mapLanes_lane_mem hl]
  simp only [State.allLanes_lane]

/-! ### The record of a failed attempt (R82, R83, R567) -/

theorem State.lowerCeiling_fget (h : LANE.TRAIN_STAT.CEILING.Apart g) : (s.lowerCeiling n).fget p g = s.fget p g := by
  unfold State.lowerCeiling
  simp only
  split
  · rw [State.lanesEvt_fget, State.allLanes_fget_apart h]
  · rfl

theorem State.recordFail_fget_apart (h : LANE.TRAIN_STAT.FAIL_STATE.Apart g) (h' : LANE.TRAIN_STAT.FAIL_REASON.Apart g) :
    (s.recordFail n reason).fget p g = s.fget p g :=
  (State.allLanes_fget_apart h').trans (State.allLanes_fget_apart h)

@[simp] theorem State.recordFail_hdr (s : State) : (s.recordFail n reason).hdr p = s.hdr p := by
  unfold State.recordFail
  rw [State.allLanes_hdr, State.allLanes_hdr]

theorem State.recordFail_lanes (hr : reason < 32) (hl : l ∈ lanesOf n) :
    (s.recordFail n reason).fget (pgLane l) LANE.TRAIN_STAT.FAIL_STATE = s.trainState n ∧
    (s.recordFail n reason).fget (pgLane l) LANE.TRAIN_STAT.FAIL_REASON = reason :=
  ⟨(State.allLanes_fget_apart (by decide)).trans (State.allLanes_fget (by decide) (s.trainState_lt n) hl),
    State.allLanes_fget (by decide) hr hl⟩

/-! ### "Fail" (R82) -/

/-- A failed attempt on record: ceiling, state and reason, count and event. -/
def State.failRecorded (s : State) (n reason : Nat) (lower : Bool) : State :=
  ((lanesOf n).foldl (fun s l => s.finc (pgLane l) LANE.TRAIN_CNT.FAILS)
    ((if lower then s.lowerCeiling n else s).recordFail n reason)).lanesEvt n 10

/-- The attempt is counted, and the link leaves RUN if it was there. -/
def State.failCounted (s : State) (n reason : Nat) (lower : Bool) : State :=
  ((s.failRecorded n reason lower).leaveRun n).allLanes n LANE.TRAIN_STAT.ATTEMPTS
    (min (((s.failRecorded n reason lower).leaveRun n).attempts n + 1) 255)

theorem State.trainFail_eq (s : State) (n reason : Nat) (lower : Bool) :
    s.trainFail n reason lower = (s.failCounted n reason lower).enterSeek n := rfl

/-- The fields that a failed attempt sets before its link rests in SEEK. -/
def failFields : List Fld :=
  [LANE.TRAIN_STAT.CEILING, LANE.TRAIN_STAT.FAIL_STATE, LANE.TRAIN_STAT.FAIL_REASON, LANE.TRAIN_CNT.FAILS,
    LANE.SENT_STAT.SYNC, LANE.TRAIN_STAT.ATTEMPTS]

theorem State.lowered_fget {lower : Bool} (h : LANE.TRAIN_STAT.CEILING.Apart g) :
    (if lower then s.lowerCeiling n else s).fget p g = s.fget p g := by
  split
  · exact State.lowerCeiling_fget h
  · rfl

theorem State.failCount_fget (h : LANE.TRAIN_CNT.FAILS.Apart g) :
    ((lanesOf n).foldl (fun s l => s.finc (pgLane l) LANE.TRAIN_CNT.FAILS) s).fget p g = s.fget p g :=
  List.foldlRecOn _ _ (motive := fun t : State => t.fget p g = s.fget p g) rfl fun _ ht _ _ =>
    (State.finc_fget_apart h).trans ht

theorem State.failRecorded_fget {lower : Bool} (h : ∀ f ∈ failFields, f.Apart g) :
    (s.failRecorded n reason lower).fget p g = s.fget p g := by
  simp only [failFields, List.forall_mem_cons] at h
  obtain ⟨hceiling, hstate, hreason, hfails, -⟩ := h
  unfold State.failRecorded
  rw [State.lanesEvt_fget, State.failCount_fget hfails, State.recordFail_fget_apart hstate hreason,
    State.lowered_fget hceiling]

theorem State.failRecorded_trainState (s : State) (n reason : Nat) (lower : Bool) :
    (s.failRecorded n reason lower).trainState n = s.trainState n :=
  State.trainState_congr fun _ => State.failRecorded_fget (by decide)

theorem State.failRecorded_attempts (s : State) (n reason : Nat) (lower : Bool) :
    ((s.failRecorded n reason lower).leaveRun n).attempts n = s.attempts n := by
  unfold State.attempts
  rw [State.leaveRun_fget (by decide)]
  unfold State.failRecorded
  rw [State.lanesEvt_fget, State.failCount_fget (by decide), State.recordFail_fget_apart (by decide) (by decide),
    State.lowered_fget (by decide)]

theorem State.failRecorded_lanes {lower : Bool} (hr : reason < 32) (hl : l ∈ lanesOf n) :
    (s.failRecorded n reason lower).fget (pgLane l) LANE.TRAIN_STAT.FAIL_STATE = s.trainState n ∧
    (s.failRecorded n reason lower).fget (pgLane l) LANE.TRAIN_STAT.FAIL_REASON = reason := by
  obtain ⟨hstate, hreason⟩ := State.recordFail_lanes (s := if lower then s.lowerCeiling n else s) hr hl
  have hsame : (if lower then s.lowerCeiling n else s).trainState n = s.trainState n :=
    State.trainState_congr fun _ => State.lowered_fget (by decide)
  unfold State.failRecorded
  rw [State.lanesEvt_fget, State.lanesEvt_fget, State.failCount_fget (by decide), State.failCount_fget (by decide), hstate,
    hreason, hsame]
  exact ⟨rfl, rfl⟩

theorem State.trainFail_fget {lower : Bool} (h : ∀ f ∈ failFields, f.Apart g) (h' : ∀ f ∈ seekFields, f.Apart g) :
    (s.trainFail n reason lower).fget (pgLane l) g = s.fget (pgLane l) g := by
  rw [State.trainFail_eq, State.enterSeek_fget_apart h']
  unfold State.failCounted
  rw [State.allLanes_fget_apart (h _ (by decide)), State.leaveRun_fget (h _ (by decide)), State.failRecorded_fget h]

/-- What is left of a failed attempt. -/
theorem State.trainFail_attemptFailed {lower : Bool} (hr : reason < 32) :
    State.AttemptFailed n reason s (s.trainFail n reason lower) := by
  have hk : min (s.attempts n + 1) 255 < 2 ^ 8 := Nat.lt_of_le_of_lt (Nat.min_le_right _ _) (by decide)
  have hcount : ∀ l ∈ lanesOf n, (s.failCounted n reason lower).fget (pgLane l) LANE.TRAIN_STAT.ATTEMPTS =
      min (s.attempts n + 1) 255 := fun l hl => by
    unfold State.failCounted
    rw [State.failRecorded_attempts]
    exact State.allLanes_fget (by decide) hk hl
  have hkept : ∀ {l : Nat} {g : Fld}, LANE.TRAIN_STAT.ATTEMPTS.Apart g → LANE.SENT_STAT.SYNC.Apart g →
      (s.failCounted n reason lower).fget (pgLane l) g = (s.failRecorded n reason lower).fget (pgLane l) g := fun h h' =>
    (State.allLanes_fget_apart h).trans (State.leaveRun_fget h')
  rw [State.trainFail_eq]
  refine ⟨fun l hl => ?_, fun hrun => ?_⟩
  · obtain ⟨hstate, hrate, hdwell⟩ := State.enterSeek_lanes (s := s.failCounted n reason lower) hl
    obtain ⟨hfs, hfr⟩ := State.failRecorded_lanes (s := s) (lower := lower) hr hl
    refine ⟨hstate, hrate, ?_, ?_, ?_, ?_, ?_⟩
    · rw [State.enterSeek_fget_apart (by decide), hkept (by decide) (by decide), hfs]
    · rw [State.enterSeek_fget_apart (by decide), hkept (by decide) (by decide), hfr]
    · rw [State.enterSeek_fget_apart (by decide), hcount l hl]
    · rw [hdwell, State.attempts, hcount _ (first_mem_lanesOf n)]
    · rw [State.enterSeek_hdr, State.failCounted, State.allLanes_hdr]
      exact (State.leaveRun_hdr _ n l).2 10 (State.lanesEvt_set (by decide) hl)
  · rw [← State.failRecorded_trainState s n reason lower] at hrun
    have hseek := State.enterSeek_same (State.SameOutside.refl 18446744073709551640 (s.failCounted n reason lower)) (b1 := n) rfl
    have hall := State.allLanes_same (State.SameOutside.refl 18446744073709551616
      ((s.failRecorded n reason lower).leaveRun n)) (b1 := n) (b2 := LANE.TRAIN_STAT.ATTEMPTS)
      (b3 := min (((s.failRecorded n reason lower).leaveRun n).attempts n + 1) 255) rfl
    exact (hseek.fget (pageOf_link_type n) rfl).trans ((hall.fget (pageOf_link_type n) rfl).trans (State.leaveRun_down hrun))

/-- A failed attempt is judged by the pages as they were. -/
theorem State.AttemptFailed.of_pages {u : State} (h : State.AttemptFailed n reason u t) (hu : u.pages = s.pages) :
    State.AttemptFailed n reason s t := by
  have hstate : u.trainState n = s.trainState n := State.trainState_of_pages hu
  have hk : u.attempts n = s.attempts n := State.fget_of_pages hu _ _
  unfold State.AttemptFailed at h ⊢
  rwa [hstate, hk] at h

theorem State.trainFail_mono (s : State) (n reason : Nat) (lower : Bool) : (s.trainFail n reason lower).mono = s.mono :=
  State.trainFail_same (State.SameOutside.refl 73786975197475635320 s) rfl .mono (by decide)

/-! ### A commanded restart (R567) -/

theorem State.commandedRestart_eq (s : State) (n reason : Nat) : s.commandedRestart n reason =
    (((s.recordFail n reason).leaveRun n).allLanes n LANE.TRAIN_STAT.ATTEMPTS 0).enterSeek n := rfl

/-- A restart comes to SEEK without a dwell, and records its reason. -/
theorem State.commandedRestart_lanes (hr : reason < 32) (hl : l ∈ lanesOf n) :
    (s.commandedRestart n reason).laneState l = 1 ∧
    (s.commandedRestart n reason).fget (pgLane l) LANE.TRAIN_STAT.ATTEMPTS = 0 ∧
    (s.commandedRestart n reason).fget (pgLane l) LANE.TRAIN_STAT.FAIL_REASON = reason ∧
    (s.commandedRestart n reason).fget (pgLane l) LANE.DWELL.MS = 0 := by
  have hzero : ∀ l ∈ lanesOf n, (((s.recordFail n reason).leaveRun n).allLanes n LANE.TRAIN_STAT.ATTEMPTS 0).fget
      (pgLane l) LANE.TRAIN_STAT.ATTEMPTS = 0 := fun l hl => State.allLanes_fget (by decide) (by decide) hl
  obtain ⟨hstate, -, hdwell⟩ :=
    State.enterSeek_lanes (s := ((s.recordFail n reason).leaveRun n).allLanes n LANE.TRAIN_STAT.ATTEMPTS 0) hl
  rw [State.commandedRestart_eq]
  refine ⟨hstate, ?_, ?_, ?_⟩
  · rw [State.enterSeek_fget_apart (by decide), hzero l hl]
  · rw [State.enterSeek_fget_apart (by decide), State.allLanes_fget_apart (by decide), State.leaveRun_fget (by decide)]
    exact (State.recordFail_lanes hr hl).2
  · rw [hdwell, State.attempts, hzero _ (first_mem_lanesOf n)]
    rfl

theorem State.commandedRestart_run (s : State) (n reason l : Nat) :
    ((s.commandedRestart n reason).hdr (pgLane l)).run = (s.hdr (pgLane l)).run := by
  rw [State.commandedRestart_eq, State.enterSeek_hdr, State.allLanes_hdr, ((s.recordFail n reason).leaveRun_hdr n l).1,
    State.recordFail_hdr]

end Sys2Proof.Machine
end

section
/-! PROOFS. A link climbs: OFF, SEEK and LEADER at the base rate, CHANGE to TUNE (R79 to R82). -/

namespace Sys2Proof.Machine

variable {s t : State} {p q n l k v m st : Nat} {f g : Fld}

/-! ### States of the climb (R82) -/

theorem State.enterClimb_fget_apart (h : LANE.TRAIN_STAT.STATE.Apart g) : (s.enterClimb n st).fget p g = s.fget p g := by
  unfold State.enterClimb
  simp only [State.setTrain_fget, State.mapLanes_fget]
  exact State.allLanes_fget_apart h

theorem State.enterClimb_laneState (hst : st < 8) (hl : l ∈ lanesOf n) : (s.enterClimb n st).laneState l = st := by
  unfold State.enterClimb State.laneState
  simp only [State.setTrain_fget, State.mapLanes_fget]
  exact State.allLanes_fget (by decide) hst hl

theorem State.enterClimb_lane (hl : l ∈ lanesOf n) : (s.enterClimb n st).lane l = (s.lane l).entering := by
  unfold State.enterClimb
  rw [State.setTrain_lane, State.mapLanes_lane_mem hl, State.allLanes_lane]

theorem State.enterClimb_train (s : State) (n st : Nat) :
    (s.enterClimb n st).train n = { s.train n with since := s.mono } := by
  unfold State.enterClimb
  simp only [State.setTrain_train_self, State.mapLanes_train, State.allLanes_train, State.mapLanes_mono, State.allLanes_mono]

/-- The taps that a transmitter applies. -/
def tapFields : List Fld := [LANE.TX_FIR.CM2, LANE.TX_FIR.CM1, LANE.TX_FIR.C0, LANE.TX_FIR.CP1]

/-- The fields that a link sets on its lanes when it changes its rate. -/
def changeFields : List Fld := LANE.TRAIN_STAT.STATE :: LANE.TRAIN_STAT.RATE :: tapFields

theorem State.setTaps_fget {cm2 cm1 c0 cp1 : Int} (h : ∀ f ∈ tapFields, f.Apart g) :
    (s.setTaps l cm2 cm1 c0 cp1).fget p g = s.fget p g := by
  unfold State.setTaps
  rw [State.fsetI_fget_apart (h _ (by decide)), State.fsetI_fget_apart (h _ (by decide)),
    State.fsetI_fget_apart (h _ (by decide)), State.fsetI_fget_apart (h _ (by decide))]

theorem State.startTaps_fget (h : ∀ f ∈ tapFields, f.Apart g) : (s.startTaps l).fget p g = s.fget p g := by
  unfold State.startTaps
  split
  · exact State.setTaps_fget h
  · exact State.setTaps_fget h

theorem State.enterChange_fget {rate : Nat} (h : ∀ f ∈ changeFields, f.Apart g) :
    (s.enterChange n rate).fget p g = s.fget p g := by
  unfold State.enterChange
  refine List.foldlRecOn _ _ (motive := fun t : State => t.fget p g = s.fget p g) ?_ fun _ ht _ _ =>
    (State.startTaps_fget (List.forall_mem_cons.mp (List.forall_mem_cons.mp h).2).2).trans ht
  rw [State.mapLanes_fget, State.enterClimb_fget_apart (h _ (by decide)), State.allLanes_fget_apart (h _ (by decide))]

/-! ### LANE_ENABLE -/

theorem State.laneEnable_of_may (hmay : s.mayTrain n = true) (hoff : s.trainState n = 0) :
    s.laneEnable n = (s.allLanes n LANE.TRAIN_STAT.ATTEMPTS 0).enterSeek n := by
  unfold State.laneEnable
  rw [if_pos (by simp [hmay, hoff])]

theorem State.laneEnable_of_not (h : s.mayTrain n = false ∨ s.trainState n ≠ 0) : s.laneEnable n = s := by
  unfold State.laneEnable
  rw [if_neg]
  rcases h with h | h <;> simp [h]

/-- SEEK without failed attempts has no dwell. -/
theorem State.seekAfresh_lanes (hl : l ∈ lanesOf n) :
    ((s.allLanes n LANE.TRAIN_STAT.ATTEMPTS 0).enterSeek n).laneState l = 1 ∧
    ((s.allLanes n LANE.TRAIN_STAT.ATTEMPTS 0).enterSeek n).fget (pgLane l) LANE.TRAIN_STAT.RATE = 0 ∧
    ((s.allLanes n LANE.TRAIN_STAT.ATTEMPTS 0).enterSeek n).fget (pgLane l) LANE.TRAIN_STAT.ATTEMPTS = 0 ∧
    ((s.allLanes n LANE.TRAIN_STAT.ATTEMPTS 0).enterSeek n).fget (pgLane l) LANE.DWELL.MS = 0 ∧
    (((s.allLanes n LANE.TRAIN_STAT.ATTEMPTS 0).enterSeek n).train n).dwellOver = true := by
  have hzero : ∀ l ∈ lanesOf n, (s.allLanes n LANE.TRAIN_STAT.ATTEMPTS 0).fget (pgLane l) LANE.TRAIN_STAT.ATTEMPTS = 0 :=
    fun l hl => State.allLanes_fget (by decide) (by decide) hl
  have hk : (s.allLanes n LANE.TRAIN_STAT.ATTEMPTS 0).attempts n = 0 := hzero _ (first_mem_lanesOf n)
  obtain ⟨hstate, hrate, hdwell⟩ := State.enterSeek_lanes (s := s.allLanes n LANE.TRAIN_STAT.ATTEMPTS 0) hl
  refine ⟨hstate, hrate, ?_, ?_, ?_⟩
  · rw [State.enterSeek_fget_apart (by decide), hzero l hl]
  · rw [hdwell, hk]
    rfl
  · rw [State.enterSeek_train, hk]
    rfl

/-! ### SEEK to LEADER -/

/-- What SEEK waits for on the lanes of a link. -/
def State.Heeded (s : State) (n : Nat) : Prop :=
  ∀ l ∈ lanesOf n, (s.lane l).signal = true ∧ (s.lane l).lock = true ∧ 4 ≤ (s.lane l).validRun

/-- A link enters LEADER with a nonce of its own. -/
def State.enterLeader (s : State) (n : Nat) : State :=
  let u := ((s.fresh 128).2.allLanes n LANE.TRAIN_STAT.STATE 2).mapLanes n (fun x => { x with leader := none, ackRun := 0 })
  u.setTrain n { ((s.fresh 128).2.allLanes n LANE.TRAIN_STAT.STATE 2).train n with
    since := ((s.fresh 128).2.allLanes n LANE.TRAIN_STAT.STATE 2).mono, ownNonce := (s.fresh 128).1.toNat }

theorem State.trySeek_of_heeded (hst : s.trainState n = 1) (hd : s.dwellOver n = true) (h : s.Heeded n) :
    s.trySeek n = s.enterLeader n := by
  unfold State.trySeek
  rw [if_pos]
  · rfl
  · simp only [hst, hd, decide_true, Bool.and_self, Bool.true_and, List.all_eq_true, Bool.and_eq_true, decide_eq_true_eq]
    exact fun l hl => and_assoc.mpr (h l hl)

theorem State.trySeek_of_not_heeded (h : ¬ s.Heeded n) : s.trySeek n = s := by
  unfold State.trySeek
  rw [if_neg]
  simp only [Bool.and_eq_true, decide_eq_true_eq, List.all_eq_true, not_and]
  exact fun _ hl => h fun l hm => and_assoc.mp (hl l hm)

/-- Whether or not SEEK is left. -/
theorem State.trySeek_cases (s : State) (n : Nat) : s.trySeek n = s.enterLeader n ∨ s.trySeek n = s := by
  unfold State.trySeek
  split
  · exact .inl rfl
  · exact .inr rfl

theorem State.enterLeader_fget (h : LANE.TRAIN_STAT.STATE.Apart g) : (s.enterLeader n).fget p g = s.fget p g := by
  unfold State.enterLeader
  simp only [State.setTrain_fget, State.mapLanes_fget]
  rw [State.allLanes_fget_apart h]
  exact State.fget_of_pages rfl _ _

theorem State.enterLeader_laneState (hl : l ∈ lanesOf n) : (s.enterLeader n).laneState l = 2 := by
  unfold State.enterLeader State.laneState
  simp only [State.setTrain_fget, State.mapLanes_fget]
  exact State.allLanes_fget (by decide) (by decide) hl

theorem State.trySeek_fget (h : LANE.TRAIN_STAT.STATE.Apart g) : (s.trySeek n).fget p g = s.fget p g := by
  rcases s.trySeek_cases n with e | e <;> rw [e]
  exact State.enterLeader_fget h

/-- Leaving SEEK keeps what the receivers have counted. -/
theorem State.trySeek_lane (s : State) (n l : Nat) : ((s.trySeek n).lane l).signal = (s.lane l).signal ∧
    ((s.trySeek n).lane l).lock = (s.lane l).lock ∧ ((s.trySeek n).lane l).validRun = (s.lane l).validRun := by
  rcases s.trySeek_cases n with e | e <;> rw [e]
  · have hfresh : ((s.fresh 128).2.allLanes n LANE.TRAIN_STAT.STATE 2).lane l = s.lane l := rfl
    unfold State.enterLeader
    rw [State.setTrain_lane, State.mapLanes_lane, hfresh]
    split
    · exact ⟨rfl, rfl, rfl⟩
    · exact ⟨rfl, rfl, rfl⟩
  · exact ⟨rfl, rfl, rfl⟩

theorem State.trySeek_train (s : State) (n : Nat) : ((s.trySeek n).train n).dwellOver = (s.train n).dwellOver := by
  rcases s.trySeek_cases n with e | e <;> rw [e]
  unfold State.enterLeader
  rw [State.setTrain_train_self]
  rfl

/-! ### SEEK_DWELL_END -/

/-- The dwell of SEEK has elapsed on the clock. -/
def State.dwellElapsed (s : State) (n : Nat) : State :=
  (s.advanceTo (s.train n).dwellEnd).setTrain n
    { (s.advanceTo (s.train n).dwellEnd).train n with dwellOver := true }

theorem State.seekDwellEnd_of_seek (h : s.trainState n = 1) : s.seekDwellEnd n = (s.dwellElapsed n).trySeek n := if_pos h

theorem State.seekDwellEnd_of_other (h : s.trainState n ≠ 1) : s.seekDwellEnd n = s := if_neg h

theorem State.dwellElapsed_pages (s : State) (n : Nat) : (s.dwellElapsed n).pages = s.pages :=
  State.advanceTo_pages _ _

theorem State.dwellElapsed_train (s : State) (n : Nat) : ((s.dwellElapsed n).train n).dwellOver = true := by
  unfold State.dwellElapsed
  rw [State.setTrain_train_self]

theorem State.dwellElapsed_heeded : (s.dwellElapsed n).Heeded n ↔ s.Heeded n := by
  unfold State.Heeded State.dwellElapsed
  simp only [State.setTrain_lane, State.advanceTo_lane]

theorem State.seekDwellEnd_mono (h : s.trainState n = 1) : (s.seekDwellEnd n).mono = max s.mono (s.train n).dwellEnd := by
  rw [State.seekDwellEnd_of_seek h]
  calc ((s.dwellElapsed n).trySeek n).mono
      = (s.dwellElapsed n).mono :=
        State.trySeek_same (State.SameOutside.refl 18446744073709551644 _) rfl .mono (by decide)
    _ = (s.advanceTo (s.train n).dwellEnd).mono := rfl
    _ = max s.mono (s.train n).dwellEnd := State.advanceTo_mono _ _

theorem State.seekDwellEnd_heeded (h : s.trainState n = 1) (hh : s.Heeded n) (hl : l ∈ lanesOf n) :
    (s.seekDwellEnd n).laneState l = 2 := by
  have hseek : (s.dwellElapsed n).trainState n = 1 := (State.trainState_of_pages (s.dwellElapsed_pages n)).trans h
  have hover : (s.dwellElapsed n).dwellOver n = true := by
    unfold State.dwellOver
    rw [State.dwellElapsed_train]
    rfl
  rw [State.seekDwellEnd_of_seek h, State.trySeek_of_heeded hseek hover (State.dwellElapsed_heeded.mpr hh)]
  exact State.enterLeader_laneState hl

theorem State.seekDwellEnd_word (h : s.trainState n = 1) (hh : ¬ s.Heeded n) (a : Nat) :
    (s.seekDwellEnd n).word a = s.word a := by
  rw [State.seekDwellEnd_of_seek h, State.trySeek_of_not_heeded (mt State.dwellElapsed_heeded.mp hh)]
  unfold State.word
  rw [State.dwellElapsed_pages]

/-! ### LANE_LOCK -/

theorem State.laneLock_of_change (h : s.trainState n = 3) : s.laneLock n =
    (s.mapLanes n (fun x => { x with signal := true, lock := true, aligned := true })).enterClimb n 4 := if_pos h

theorem State.laneLock_of_other (h : s.trainState n ≠ 3) : s.laneLock n = s := if_neg h

/-- Lock on every lane takes a link from CHANGE to TUNE. -/
theorem State.laneLock_lanes (h : s.trainState n = 3) (hl : l ∈ lanesOf n) :
    (s.laneLock n).laneState l = 4 ∧ ((s.laneLock n).lane l).signal = true ∧ ((s.laneLock n).lane l).lock = true ∧
    ((s.laneLock n).lane l).aligned = true := by
  rw [State.laneLock_of_change h, State.enterClimb_lane hl, State.mapLanes_lane_mem hl]
  exact ⟨State.enterClimb_laneState (by decide) hl, rfl, rfl, rfl⟩

theorem State.laneLock_since (h : s.trainState n = 3) : ((s.laneLock n).train n).since = s.mono := by
  rw [State.laneLock_of_change h, State.enterClimb_train]
  rfl

/-! ### Commands on a powered device -/

theorem exec_laneEnable_on (h : s.boot.powered = true) (n : Fin 6) : exec (.laneEnable n) s = .next (s.laneEnable n).settle :=
  congrArg Host.Outcome.next (State.live_on h _)

theorem exec_seekDwellEnd_on (h : s.boot.powered = true) (n : Fin 6) :
    exec (.seekDwellEnd n) s = .next (s.seekDwellEnd n).settle :=
  congrArg Host.Outcome.next (State.live_on h _)

theorem exec_laneLock_on (h : s.boot.powered = true) (n : Fin 6) : exec (.laneLock n) s = .next (s.laneLock n).settle :=
  congrArg Host.Outcome.next (State.live_on h _)

/-- Settles O19: each of the three commands is its function on a powered device, and moves the link from one state of the
climb alone. -/
theorem linkClimbs : Obligations.LinkClimbs := by
  unfold Obligations.LinkClimbs
  refine fun s n hon => ⟨fun hmay hoff => ?_, fun hnot => ?_, fun hseek => ?_, fun hother => ?_, fun hchange => ?_,
    fun hother => ?_⟩
  case refine_1 =>
    refine ⟨_, exec_laneEnable_on hon n, ?_, ?_, State.laneEnable_same (State.SameOutside.refl _ s) rfl⟩ <;>
      rw [State.laneEnable_of_may hmay hoff]
    · intro l hl
      obtain ⟨hstate, hrate, hk, hdwell, -⟩ := State.seekAfresh_lanes (s := s) hl
      exact ⟨hstate, hrate, hk, hdwell⟩
    · obtain ⟨-, -, -, -, hover⟩ := State.seekAfresh_lanes (s := s) (first_mem_lanesOf n)
      exact hover
  case refine_2 => rw [exec_laneEnable_on hon, State.laneEnable_of_not hnot]
  case refine_3 =>
    refine ⟨_, exec_seekDwellEnd_on hon n, State.seekDwellEnd_mono hseek, ?_,
      fun hh l hl => State.seekDwellEnd_heeded hseek hh hl, fun hh => State.seekDwellEnd_word hseek hh,
      State.seekDwellEnd_same (State.SameOutside.refl _ s) rfl⟩
    rw [State.seekDwellEnd_of_seek hseek, State.trySeek_train, State.dwellElapsed_train]
  case refine_4 => rw [exec_seekDwellEnd_on hon, State.seekDwellEnd_of_other hother]
  case refine_5 =>
    exact ⟨_, exec_laneLock_on hon n, fun l hl => State.laneLock_lanes hchange hl, State.laneLock_since hchange,
      State.laneLock_same (State.SameOutside.refl _ s) rfl⟩
  case refine_6 => rw [exec_laneLock_on hon, State.laneLock_of_other hother]

end Sys2Proof.Machine
end

section
/-! PROOFS. Base-rate messages: what SEEK and leader messages do to a lane and its link (R73, R79 to R82). -/

namespace Sys2Proof.Machine

variable {s t : State} {p q n l k v m : Nat} {f g : Fld} {swapped ack codeOk : Bool} {bytes : List Nat}

/-! ### A message counts -/

/-- A receiver that has taken one more valid message. -/
def LaneSt.counted (x : LaneSt) (ack : Bool) : LaneSt :=
  { x with signal := true, lock := true, validRun := x.validRun + 1, ackRun := if ack then x.ackRun + 1 else 0 }

theorem State.countMessage_eq (s : State) (l : Nat) (swapped ack : Bool) : s.countMessage l swapped ack =
    if (s.setLane l ((s.lane l).counted ack)).trainState (l / 4) = 1 then
      (s.setLane l ((s.lane l).counted ack)).fsetB (pgLane l) LANE.TRAIN_STAT.POL_INV swapped
    else s.setLane l ((s.lane l).counted ack) := rfl

theorem State.countMessage_lane (s : State) (l : Nat) :
    (s.countMessage l swapped ack).lane l = (s.lane l).counted ack := by
  rw [State.countMessage_eq]
  split
  · rw [State.fsetB_lane, State.setLane_lane_self]
  · rw [State.setLane_lane_self]

/-! ### SEEK messages -/

theorem State.seekMessage_of_seek (h : s.trainState (l / 4) = 1) :
    s.seekMessage l swapped = (s.countMessage l swapped false).trySeek (l / 4) := if_pos h

theorem State.seekMessage_of_leader (h : s.trainState (l / 4) = 2) :
    s.seekMessage l swapped = s.trainFail (l / 4) 3 false := by
  unfold State.seekMessage
  rw [if_neg (by omega), if_pos h]

theorem State.seekMessage_of_other (h : s.trainState (l / 4) ≠ 1) (h' : s.trainState (l / 4) ≠ 2) :
    s.seekMessage l swapped = s := by
  unfold State.seekMessage
  rw [if_neg h, if_neg h']

/-- In SEEK a message counts on its lane. -/
theorem State.seekMessage_lane (h : s.trainState (l / 4) = 1) : ((s.seekMessage l swapped).lane l).signal = true ∧
    ((s.seekMessage l swapped).lane l).lock = true ∧
    ((s.seekMessage l swapped).lane l).validRun = (s.lane l).validRun + 1 := by
  obtain ⟨hsignal, hlock, hrun⟩ := (s.countMessage l swapped false).trySeek_lane (l / 4) l
  rw [State.seekMessage_of_seek h, hsignal, hlock, hrun, State.countMessage_lane]
  exact ⟨rfl, rfl, rfl⟩

/-! ### Leader messages -/

theorem State.leaderMessage_of_other (h : s.trainState (l / 4) ≠ 1) (h' : s.trainState (l / 4) ≠ 2) :
    s.leaderMessage l codeOk swapped bytes = s := if_pos ⟨h, h'⟩

/-- A message that does not decode breaks the runs of its lane. -/
theorem State.leaderMessage_undecoded (h : s.trainState (l / 4) = 1 ∨ s.trainState (l / 4) = 2) :
    s.leaderMessage l false swapped bytes = s.setLane l { s.lane l with validRun := 0, ackRun := 0 } := by
  unfold State.leaderMessage
  simp only
  rw [if_neg (by omega), if_pos (by decide)]

/-- A message is intact: its length and its CRC are right (R80). -/
def Intact (bytes : List Nat) : Prop := bytes.length = 32 ∧ crc32c (bytes.take 28) = ofLeBytes (bytes.drop 28)

theorem State.leaderMessage_damaged (h : s.trainState (l / 4) = 1 ∨ s.trainState (l / 4) = 2) (hd : ¬ Intact bytes) :
    s.leaderMessage l true swapped bytes = s := by
  unfold State.leaderMessage
  simp only
  rw [if_neg (by omega), if_neg (by decide), if_pos]
  unfold Intact at hd
  by_cases hlen : bytes.length = 32 <;> simp_all

/-- A leader message has been taken on a lane: it counts, and the lane keeps and shows what it says (R80, R97). -/
def State.leaderTaken (s : State) (l : Nat) (swapped : Bool) (i : LeaderInfo) : State :=
  let u := (s.countMessage l swapped i.ack).showPartner l i
  u.setLane l { u.lane l with leader := some i }

theorem State.leaderMessage_intact (h : s.trainState (l / 4) = 1 ∨ s.trainState (l / 4) = 2) (hi : Intact bytes) :
    s.leaderMessage l true swapped bytes =
      if bytes.headD 0 = 0x53 then s.seekMessage l swapped else if bytes.headD 0 ≠ 0x4C then s
      else if s.trainState (l / 4) = 1 then
        let v := s.leaderTaken l swapped (leaderOf (ofLeBytes bytes))
        (v.setTrain (l / 4) { v.train (l / 4) with
          dwellOver := true, dwellEnd := min (v.train (l / 4)).dwellEnd v.mono }).trySeek (l / 4)
      else (s.leaderTaken l swapped (leaderOf (ofLeBytes bytes))).tryLeader (l / 4) := by
  obtain ⟨hlen, hcrc⟩ := hi
  unfold State.leaderMessage
  simp only
  rw [if_neg (by omega), if_neg (by decide), if_neg (by simp [hlen, hcrc])]
  rfl

/-! ### What the partner shows -/

theorem leaderOf_fits (x : Nat) : (leaderOf x).deviceId < 2 ^ 9 ∧ (leaderOf x).link < 2 ^ 3 :=
  ⟨Nat.mod_lt _ (by decide), Nat.mod_lt _ (by decide)⟩

theorem State.leaderTaken_partner {i : LeaderInfo} (hid : i.deviceId < 2 ^ 9) (hlink : i.link < 2 ^ 3) :
    (s.leaderTaken l swapped i).fget (pgLane l) LANE.PARTNER.DEVICE_ID = i.deviceId ∧
    (s.leaderTaken l swapped i).fget (pgLane l) LANE.PARTNER.LINK = i.link := by
  unfold State.leaderTaken State.showPartner
  simp (disch := decide) only [State.setLane_fget, State.fsetB_fget_apart, State.fset_fget_apart]
  exact ⟨State.fset_fget (by decide) hid, State.fset_fget (by decide) hlink⟩

/-- Leaving LEADER, for CHANGE or by a failed check, keeps what the partner has shown. -/
theorem State.tryLeader_fget (h : ∀ f ∈ failFields, f.Apart g) (h' : ∀ f ∈ seekFields, f.Apart g)
    (h'' : ∀ f ∈ changeFields, f.Apart g) : (s.tryLeader n).fget (pgLane l) g = s.fget (pgLane l) g := by
  have hceiling : ∀ c : Bool, (if c then s.allLanes n LANE.TRAIN_STAT.CEILING 3 else s).fget (pgLane l) g =
      s.fget (pgLane l) g := fun c => by
    split
    · exact State.allLanes_fget_apart (h _ (by decide))
    · rfl
  unfold State.tryLeader
  simp only
  split
  · split
    · rw [State.trainFail_fget h h', hceiling]
    · rw [State.enterChange_fget h'', State.setTrain_fget, hceiling]
  · rfl

/-! ### Commands on a powered device -/

theorem exec_seekMessageRx_on (h : s.boot.powered = true) (lane : Fin 24) (swapped : Bool) :
    exec (.seekMessageRx lane swapped) s = .next (s.seekMessage lane swapped).settle :=
  congrArg Host.Outcome.next (State.live_on h _)

theorem exec_leaderMessageRx_on (h : s.boot.powered = true) (lane : Fin 24) (codeOk swapped : Bool)
    (bytes : List (BitVec 8)) : exec (.leaderMessageRx lane codeOk swapped bytes) s =
      .next (s.leaderMessage lane codeOk swapped (bytes.map BitVec.toNat)).settle :=
  congrArg Host.Outcome.next (State.live_on h _)

theorem headD_toNat {bytes : List (BitVec 8)} {b : BitVec 8} (h : bytes.head? = some b) :
    (bytes.map BitVec.toNat).headD 0 = b.toNat := by
  obtain ⟨r, rfl⟩ := List.head?_eq_some_iff.mp h
  rfl

/-- Settles O20: what a message comes to, by the state of its link, its code groups, its CRC and its first byte. -/
theorem baseRateMessagesAreHeard : Obligations.BaseRateMessagesAreHeard := by
  unfold Obligations.BaseRateMessagesAreHeard
  refine fun s lane swapped bytes hon => ⟨fun hseek => ?_, fun hleader => ?_, fun hother => ⟨?_, fun codeOk => ?_⟩,
    fun hbase => ⟨?_, fun hdamaged => ?_, fun hlen hcrc hhead => ?_, fun hlen hcrc hhead => ?_⟩⟩
  case refine_1 =>
    obtain ⟨hsignal, hlock, hrun⟩ := State.seekMessage_lane (swapped := swapped) hseek
    refine ⟨_, exec_seekMessageRx_on hon lane swapped, hsignal, hlock, hrun, ?_⟩
    rw [State.seekMessage_of_seek hseek]
    exact State.trySeek_same (State.countMessage_same (State.SameOutside.refl _ s) rfl) rfl
  case refine_2 =>
    refine ⟨_, exec_seekMessageRx_on hon lane swapped, ?_⟩
    rw [State.seekMessage_of_leader hleader]
    exact State.trainFail_attemptFailed (by decide)
  case refine_3 => rw [exec_seekMessageRx_on hon, State.seekMessage_of_other hother.1 hother.2]
  case refine_4 => rw [exec_leaderMessageRx_on hon, State.leaderMessage_of_other hother.1 hother.2]
  case refine_5 => rw [exec_leaderMessageRx_on hon, State.leaderMessage_undecoded hbase]
  case refine_6 =>
    have hnot : ¬ Intact (bytes.map BitVec.toNat) := fun hi =>
      hdamaged.elim (fun hlen => hlen (List.length_map BitVec.toNat ▸ hi.1)) fun hcrc => hcrc hi.2
    rw [exec_leaderMessageRx_on hon, State.leaderMessage_damaged hbase hnot]
  case refine_7 =>
    have hi : Intact (bytes.map BitVec.toNat) := ⟨(List.length_map _).trans hlen, hcrc⟩
    rw [exec_leaderMessageRx_on hon, exec_seekMessageRx_on hon, State.leaderMessage_intact hbase hi,
      if_pos (show _ = 0x53 from headD_toNat hhead)]
  case refine_8 =>
    have hi : Intact (bytes.map BitVec.toNat) := ⟨(List.length_map _).trans hlen, hcrc⟩
    have hfirst : (bytes.map BitVec.toNat).headD 0 = 0x4C := headD_toNat hhead
    obtain ⟨hid, hlink⟩ := leaderOf_fits (ofLeBytes (bytes.map BitVec.toNat))
    obtain ⟨hpid, hplink⟩ := State.leaderTaken_partner (s := s) (l := lane) (swapped := swapped) hid hlink
    refine ⟨_, exec_leaderMessageRx_on hon lane true swapped bytes, ?_⟩
    rw [State.leaderMessage_intact hbase hi, hfirst, if_neg (by decide), if_neg (by decide)]
    simp only
    split
    · refine ⟨?_, ?_, fun _ => ?_⟩
      · rw [State.trySeek_fget (by decide), State.setTrain_fget, hpid]
      · rw [State.trySeek_fget (by decide), State.setTrain_fget, hplink]
      · rw [State.trySeek_train, State.setTrain_train_self]
    next hseek =>
      refine ⟨?_, ?_, fun h => absurd h hseek⟩
      · rw [State.tryLeader_fget (by decide) (by decide) (by decide), hpid]
      · rw [State.tryLeader_fget (by decide) (by decide) (by decide), hplink]

end Sys2Proof.Machine
end

section
/-! PROOFS. What ends an attempt: timeouts, loss of signal or lock, bad windows and bad markers; a second of RUN (R77, R82 to
R84, R87, R103). -/

namespace Sys2Proof.Machine

variable {s t : State} {n l d i reason marker skew : Nat} {lower signal : Bool}

/-! ### An attempt that fails at its instant -/

theorem State.trainFail_at (hr : reason < 32) :
    State.AttemptFailed n reason s ((s.advanceTo i).trainFail n reason lower) ∧
    ((s.advanceTo i).trainFail n reason lower).mono = max s.mono i :=
  ⟨(State.trainFail_attemptFailed hr).of_pages (State.advanceTo_pages s i),
    (State.trainFail_mono ..).trans (State.advanceTo_mono s i)⟩

theorem State.trainTimeout_of_limit (h : trainLimit (s.trainState n) = some d) : s.trainTimeout n =
    (s.advanceTo ((if s.trainState n = 1 then (s.train n).dwellEnd else (s.train n).since) + d)).trainFail n 2
      (s.trainState n = 4) := by
  unfold State.trainTimeout
  simp only
  rw [h]

theorem State.trainTimeout_of_none (h : trainLimit (s.trainState n) = none) : s.trainTimeout n = s := by
  unfold State.trainTimeout
  simp only
  rw [h]

theorem State.fomFail_of_run (hs : (s.lane l).failSince = some i) (h : s.trainState (l / 4) = 6) :
    s.fomFail l = (s.advanceTo (i + 1000000)).trainFail (l / 4) 11 false := by
  unfold State.fomFail
  rw [hs]
  exact if_pos h

/-! ### Loss of signal or lock (R87) -/

/-- A receiver that has lost its lock, and its signal too where that is gone. -/
def LaneSt.lost (x : LaneSt) (signal : Bool) : LaneSt :=
  { x with signal := x.signal && signal, lock := false, aligned := false, validRun := 0, ackRun := 0 }

theorem State.lossOfSignal_eq (s : State) (l : Nat) (signal : Bool) : s.lossOfSignal l signal =
    if s.trainState (l / 4) ∈ [2, 4, 5, 6] then (s.setLane l ((s.lane l).lost signal)).trainFail (l / 4) 1 false
    else s.setLane l ((s.lane l).lost signal) := by
  have hst : (s.setLane l ((s.lane l).lost signal)).trainState (l / 4) = s.trainState (l / 4) :=
    State.trainState_of_pages rfl
  rw [← hst]
  refine if_congr ?_ rfl rfl
  simp only [Bool.or_eq_true, decide_eq_true_eq, List.mem_cons, List.not_mem_nil, or_false, or_assoc]
  rfl

theorem State.lossOfSignal_fails (h : s.trainState (l / 4) ∈ [2, 4, 5, 6]) :
    State.AttemptFailed (l / 4) 1 s (s.lossOfSignal l signal) := by
  rw [State.lossOfSignal_eq, if_pos h]
  exact (State.trainFail_attemptFailed (by decide)).of_pages rfl

theorem State.lossOfSignal_rests (h : s.trainState (l / 4) ∉ [2, 4, 5, 6]) :
    s.lossOfSignal l signal = s.setLane l ((s.lane l).lost signal) := by
  rw [State.lossOfSignal_eq, if_neg h]

/-! ### A second of RUN (R84) -/

theorem State.runStable_of_run (h : s.trainState n = 6) : s.runStable n =
    (s.advanceTo ((s.train n).runSince + 1000000000)).allLanes n LANE.TRAIN_STAT.ATTEMPTS 0 := if_pos h

/-! ### Alignment markers (R103, R105) -/

theorem State.markerRx_good (hrun : s.laneState l = 6) (hm : markerOk marker = true) : s.markerRx l marker skew =
    (s.setLane l { s.lane l with
      goodMarkers := (s.lane l).goodMarkers + 1, badMarkers := 0
      aligned := (s.lane l).aligned || 2 ≤ (s.lane l).goodMarkers + 1 }).laneSkew l skew := by
  unfold State.markerRx
  rw [if_neg (by simp [hrun]), if_pos hm]

/-- A receiver that has met one more bad marker. -/
def LaneSt.badMarker (x : LaneSt) : LaneSt := { x with goodMarkers := 0, badMarkers := x.badMarkers + 1 }

theorem State.markerRx_bad (hrun : s.laneState l = 6) (hm : markerOk marker = false) : s.markerRx l marker skew =
    if 3 ≤ (s.lane l).badMarkers + 1 then (s.setLane l (s.lane l).badMarker).lossOfSignal l true
    else s.setLane l (s.lane l).badMarker := by
  unfold State.markerRx
  rw [if_neg (by simp [hrun]), if_neg (by simp [hm])]
  rfl

/-- The third bad marker in a row counts as a loss of lock. -/
theorem State.markerRx_third (hrun : s.laneState l = 6) (hm : markerOk marker = false) (hb : 2 ≤ (s.lane l).badMarkers)
    (h : s.trainState (l / 4) = 6) : State.AttemptFailed (l / 4) 1 s (s.markerRx l marker skew) := by
  have hst : (s.setLane l (s.lane l).badMarker).trainState (l / 4) = 6 := (State.trainState_of_pages rfl).trans h
  rw [State.markerRx_bad hrun hm, if_pos (by omega)]
  exact (State.lossOfSignal_fails (by rw [hst]; decide)).of_pages rfl

/-! ### Commands on a powered device -/

theorem exec_trainTimeout_on (h : s.boot.powered = true) (n : Fin 6) :
    exec (.trainTimeout n) s = .next (s.trainTimeout n).settle :=
  congrArg Host.Outcome.next (State.live_on h _)

theorem exec_lossOfSignal_on (h : s.boot.powered = true) (lane : Fin 24) (signal : Bool) :
    exec (.lossOfSignal lane signal) s = .next (s.lossOfSignal lane signal).settle :=
  congrArg Host.Outcome.next (State.live_on h _)

theorem exec_fomFail_on (h : s.boot.powered = true) (lane : Fin 24) :
    exec (.fomFail lane) s = .next (s.fomFail lane).settle :=
  congrArg Host.Outcome.next (State.live_on h _)

theorem exec_runStable_on (h : s.boot.powered = true) (n : Fin 6) : exec (.runStable n) s = .next (s.runStable n) :=
  congrArg Host.Outcome.next (State.live_on h _)

theorem exec_markerRx_on (h : s.boot.powered = true) (lane : Fin 24) (marker : BitVec 288) (skew : Nat) :
    exec (.markerRx lane marker skew) s = .next (s.markerRx lane marker.toNat skew).settle :=
  congrArg Host.Outcome.next (State.live_on h _)

/-- Settles O22: every cause comes to `trainFail`, on the state at its instant and with its reason. -/
theorem attemptsFailWithTheirReason : Obligations.AttemptsFailWithTheirReason := by
  unfold Obligations.AttemptsFailWithTheirReason
  refine fun s hon => ⟨fun n d hlimit => ?_, fun n hnone => ?_, fun lane signal => ⟨fun hst => ?_, fun hst => ?_⟩,
    fun lane since hsince hrun => ?_, fun n hrun => ?_,
    fun lane marker skew hrun => ⟨fun hgood => ?_, fun hbad hfew => ?_, fun hbad hmany hst => ?_⟩⟩
  case refine_1 =>
    refine ⟨_, exec_trainTimeout_on hon n, ?_⟩
    rw [State.trainTimeout_of_limit hlimit]
    exact State.trainFail_at (by decide)
  case refine_2 => rw [exec_trainTimeout_on hon, State.trainTimeout_of_none hnone]
  case refine_3 => exact ⟨_, exec_lossOfSignal_on hon lane signal, State.lossOfSignal_fails hst⟩
  case refine_4 =>
    rw [exec_lossOfSignal_on hon, State.lossOfSignal_rests hst]
    rfl
  case refine_5 =>
    refine ⟨_, exec_fomFail_on hon lane, ?_⟩
    rw [State.fomFail_of_run hsince hrun]
    exact State.trainFail_at (by decide)
  case refine_6 =>
    refine ⟨_, exec_runStable_on hon n, ?_, ?_, State.runStable_same (State.SameOutside.refl _ s) rfl⟩ <;>
      rw [State.runStable_of_run hrun]
    · exact fun l hl => State.allLanes_fget (by decide) (by decide) hl
    · rw [State.allLanes_mono, State.advanceTo_mono]
  case refine_7 =>
    have haligned : decide (2 ≤ (s.lane lane).goodMarkers + 1) = decide (1 ≤ (s.lane lane).goodMarkers) :=
      decide_eq_decide.mpr Nat.succ_le_succ_iff
    rw [exec_markerRx_on hon, State.markerRx_good hrun hgood, haligned]
  case refine_8 =>
    rw [exec_markerRx_on hon, State.markerRx_bad hrun hbad, if_neg (by omega)]
    rfl
  case refine_9 => exact ⟨_, exec_markerRx_on hon lane marker skew, State.markerRx_third hrun hbad hmany hst⟩

end Sys2Proof.Machine
end

section
/-! PROOFS. Training at a PAM4 rate: frames of the partner, windows of the figure of merit, the measurement of CONFIRM (R74 to
R77, R82, R83, R105). -/

namespace Sys2Proof.Machine

variable {s t : State} {p n l v errs bits fom ffe dfe skew : Nat} {f g : Fld} {ready confirm fail : Bool} {d2 d1 d0 dp : Int}
  {step : Option Bool}

/-! ### Training frames (R74, R82) -/

theorem State.coefRequest_lane (s : State) (l k : Nat) (d2 d1 d0 dp : Int) :
    (s.coefRequest l d2 d1 d0 dp).lane k = s.lane k := by
  unfold State.coefRequest
  split
  · rfl
  · simp only
    split
    · rfl
    · rfl

/-- A training frame before its marker is measured: coefficients requested in TUNE, and the flags of the partner. -/
def State.frameTaken (s : State) (l : Nat) (ready confirm : Bool) (d2 d1 d0 dp : Int) : State :=
  (if s.trainState (l / 4) = 4 then s.coefRequest l d2 d1 d0 dp else s).setLane l { s.lane l with
    readyRcvd := (s.lane l).readyRcvd || (s.trainState (l / 4) == 4 && ready)
    confRcvd := (s.lane l).confRcvd || (s.trainState (l / 4) == 5 && confirm) }

theorem State.frameTaken_same (s : State) (l : Nat) (ready confirm : Bool) (d2 d1 d0 dp : Int) :
    State.SameBut [.lanes, .page .lane] s (s.frameTaken l ready confirm d2 d1 d0 dp) :=
  State.setLane_same (State.SameOutside.ite (State.coefRequest_same (State.SameOutside.refl _ s) rfl)
    (State.SameOutside.refl _ s)) rfl

theorem State.frameTaken_lane_self (s : State) (l : Nat) : (s.frameTaken l ready confirm d2 d1 d0 dp).lane l =
    { s.lane l with
      readyRcvd := (s.lane l).readyRcvd || (s.trainState (l / 4) == 4 && ready)
      confRcvd := (s.lane l).confRcvd || (s.trainState (l / 4) == 5 && confirm) } :=
  State.setLane_lane_self _ _ _

theorem State.frameTaken_lane_other {k : Nat} (h : k ≠ l) :
    (s.frameTaken l ready confirm d2 d1 d0 dp).lane k = s.lane k := by
  unfold State.frameTaken
  rw [State.setLane_lane_other h]
  split
  · exact State.coefRequest_lane ..
  · rfl

theorem State.trainingFrame_of_other (h : s.trainState (l / 4) ∉ [3, 4, 5]) :
    s.trainingFrame l ready confirm fail d2 d1 d0 dp skew = s := by
  simp only [List.mem_cons, List.not_mem_nil, or_false, not_or] at h
  exact if_pos h

/-- FAIL in CONFIRM. -/
theorem State.trainingFrame_fail (h : s.trainState (l / 4) = 5) :
    s.trainingFrame l ready confirm true d2 d1 d0 dp skew = s.trainFail (l / 4) 4 true := by
  unfold State.trainingFrame
  simp only
  rw [if_neg (by omega), if_pos (by simp [h])]

theorem State.trainingFrame_taken (h : s.trainState (l / 4) ∈ [3, 4, 5]) (hf : s.trainState (l / 4) = 5 → fail = false) :
    s.trainingFrame l ready confirm fail d2 d1 d0 dp skew =
      if ((s.frameTaken l ready confirm d2 d1 d0 dp).laneSkew l skew).trainState (l / 4) = s.trainState (l / 4) then
        (((s.frameTaken l ready confirm d2 d1 d0 dp).laneSkew l skew).tryTune (l / 4)).tryConfirm (l / 4)
      else (s.frameTaken l ready confirm d2 d1 d0 dp).laneSkew l skew := by
  have hlane : (if s.trainState (l / 4) = 4 then s.coefRequest l d2 d1 d0 dp else s).lane l = s.lane l := by
    split
    · exact State.coefRequest_lane ..
    · rfl
  have hnofail : ¬ (decide (s.trainState (l / 4) = 5) && fail) = true := by
    rw [Bool.and_eq_true, decide_eq_true_eq]
    exact fun ⟨h5, hfail⟩ => Bool.false_ne_true ((hf h5).symm.trans hfail)
  simp only [List.mem_cons, List.not_mem_nil, or_false] at h
  unfold State.trainingFrame
  simp only
  rw [if_neg (by omega), if_neg hnofail, hlane]
  rfl

/-! ### The measurement of CONFIRM (R82, R83) -/

theorem State.confirmMeasure_of_other (h : s.trainState (l / 4) ≠ 5) : s.confirmMeasure l errs bits = s := if_pos h

theorem State.confirmMeasure_of_confirm (h : s.trainState (l / 4) = 5) : s.confirmMeasure l errs bits =
    let u := s.advanceTo ((s.train (l / 4)).since + 1000000)
    if (s.lane l).fomBad = false ∧ errs * 1000000 ≤ bits then
      (u.setLane l { s.lane l with passed := true }).tryConfirm (l / 4)
    else u.trainFail (l / 4) 10 true := by
  unfold State.confirmMeasure
  simp only
  rw [if_neg (not_not.mpr h), State.advanceTo_lane]
  refine if_congr ?_ rfl rfl
  rw [Bool.and_eq_true, Bool.not_eq_true', decide_eq_true_eq]

/-! ### Equalisation (R75) -/

/-- The fields that adaptation moves. -/
def eqFields : List Fld := [LANE.RX_EQ.CTLE, LANE.RX_EQ.FM1, LANE.RX_EQ.F0, LANE.RX_EQ.FP1] ++
  (List.range 12).map (fun i => LANE.DFE.TAP (i / 4) (i % 4))

theorem State.judgeStep_fget (h : LANE.RX_EQ.CTLE.Apart g) : (s.judgeStep l fom).fget p g = s.fget p g := by
  unfold State.judgeStep
  simp only
  split
  · exact State.setLane_fget ..
  · split
    · exact State.setLane_fget ..
    · rw [State.fset_fget_apart h, State.setLane_fget]

theorem State.tryStep_fget {up : Bool} (h : LANE.RX_EQ.CTLE.Apart g) : (s.tryStep l fom up).fget p g = s.fget p g := by
  unfold State.tryStep
  simp only
  split
  · rfl
  · rw [State.fset_fget_apart h, State.setLane_fget]

theorem State.showEq_fget (h : ∀ f ∈ eqFields, f.Apart g) : (s.showEq l ffe dfe).fget p g = s.fget p g := by
  unfold State.showEq
  refine List.foldlRecOn _ _ (motive := fun t : State => t.fget p g = s.fget p g) ?_ fun _ ht i hi =>
    (State.fset_fget_apart (h _ ?_)).trans ht
  · rw [State.fset_fget_apart (h _ (by decide)), State.fset_fget_apart (h _ (by decide)),
      State.fset_fget_apart (h _ (by decide))]
  · exact List.mem_append_right _ (List.mem_map_of_mem hi)

/-! ### A window of the figure of merit (R76) -/

/-- The figure of merit of a window is posted, with the lowest so far. -/
def State.fomPosted (s : State) (l fom : Nat) : State :=
  (s.fset (pgLane l) LANE.FOM.NOW fom).fset (pgLane l) LANE.FOM.MIN
    (min fom ((s.fset (pgLane l) LANE.FOM.NOW fom).fget (pgLane l) LANE.FOM.MIN))

theorem State.fomPosted_fget (h : fom < 1024) : (s.fomPosted l fom).fget (pgLane l) LANE.FOM.NOW = fom ∧
    (s.fomPosted l fom).fget (pgLane l) LANE.FOM.MIN = min fom (s.fget (pgLane l) LANE.FOM.MIN) := by
  unfold State.fomPosted
  refine ⟨?_, ?_⟩
  · rw [State.fset_fget_apart (by decide), State.fset_fget (by decide) h]
  · rw [State.fset_fget (by decide) (Nat.lt_of_le_of_lt (Nat.min_le_left _ _) h), State.fset_fget_apart (by decide)]

theorem State.fomPosted_fget_apart (h : LANE.FOM.NOW.Apart g) (h' : LANE.FOM.MIN.Apart g) :
    (s.fomPosted l fom).fget p g = s.fget p g :=
  (State.fset_fget_apart h').trans (State.fset_fget_apart h)

/-- The equaliser adapts to a window. -/
def State.fomAdapted (s : State) (l fom ffe dfe : Nat) (step : Option Bool) : State :=
  match step with
  | some up => ((s.judgeStep l fom).showEq l ffe dfe).tryStep l fom up
  | none => (s.judgeStep l fom).showEq l ffe dfe

theorem State.fomAdapted_fget (h : ∀ f ∈ eqFields, f.Apart g) : (s.fomAdapted l fom ffe dfe step).fget p g = s.fget p g := by
  unfold State.fomAdapted
  split
  · rw [State.tryStep_fget (h _ (by decide)), State.showEq_fget h, State.judgeStep_fget (h _ (by decide))]
  · rw [State.showEq_fget h, State.judgeStep_fget (h _ (by decide))]

/-- What a window means to the state that its lane is in (R77, R82). -/
def State.fomJudged (s : State) (l st fom : Nat) : State :=
  if st = 4 then
    let u := s.setLane l { s.lane l with fomHist := keepHist s.mono ((s.mono, fom) :: (s.lane l).fomHist) }
    (if u.readyNow l fom then u.setLane l { u.lane l with readySent := true } else u).tryTune (l / 4)
  else if st = 5 then
    if fom < s.fget (pgLane l) LANE.FOM_THR.CONFIRM then s.setLane l { s.lane l with fomBad := true } else s
  else if st = 6 then
    let u := if fom < s.fget (pgLane l) LANE.FOM_THR.LOW then s.evt (pgLane l) 12 else s
    u.setLane l { u.lane l with
      failSince := if fom < u.fget (pgLane l) LANE.FOM_THR.FAIL then some ((u.lane l).failSince.getD u.mono) else none }
  else s

theorem State.tryTune_fget (h : LANE.TRAIN_STAT.STATE.Apart g) : (s.tryTune n).fget p g = s.fget p g := by
  unfold State.tryTune
  split
  · exact State.enterClimb_fget_apart h
  · rfl

theorem State.fomJudged_fget {st : Nat} (h : LANE.TRAIN_STAT.STATE.Apart g) :
    (s.fomJudged l st fom).fget p g = s.fget p g := by
  unfold State.fomJudged
  simp only
  split
  · rw [State.tryTune_fget h]
    split <;> simp only [State.setLane_fget]
  · split
    · split
      · exact State.setLane_fget ..
      · rfl
    · split
      · rw [State.setLane_fget]
        split
        · exact State.evt_fget ..
        · rfl
      · rfl

theorem State.fomWindow_of_off (h : s.laneState l = 0) : s.fomWindow l fom ffe dfe step = s := if_pos h

/-- The equaliser adapts in TUNE, RUN and TEST while it is not frozen. -/
theorem State.fomWindow_eq (hfom : fom < 1024) (h : s.laneState l ≠ 0) : s.fomWindow l fom ffe dfe step =
    (if ((s.laneState l = 4 || s.laneState l = 6 || s.laneState l = 7) &&
        !(s.fomPosted l fom).fbit (pgLane l) LANE.ADAPT_CTL.FREEZE) = true then
      (s.fomPosted l fom).fomAdapted l fom ffe dfe step
    else s.fomPosted l fom).fomJudged l (s.laneState l) fom := by
  unfold State.fomWindow
  simp only
  rw [if_neg h, Nat.min_eq_left (Nat.le_of_lt_succ hfom)]
  rfl

theorem State.fomWindow_fget (hfom : fom < 1024) (h : s.laneState l ≠ 0) (he : ∀ f ∈ eqFields, f.Apart g)
    (hs : LANE.TRAIN_STAT.STATE.Apart g) :
    (s.fomWindow l fom ffe dfe step).fget p g = (s.fomPosted l fom).fget p g := by
  rw [State.fomWindow_eq hfom h, State.fomJudged_fget hs]
  split
  · exact State.fomAdapted_fget he
  · rfl

/-- A window below LOW in RUN raises FOM_LOW. -/
theorem State.fomWindow_low (hfom : fom < 1024) (h : s.laneState l = 6)
    (hlow : fom < s.fget (pgLane l) LANE.FOM_THR.LOW) :
    ((s.fomWindow l fom ffe dfe step).hdr (pgLane l)).evt.getLsbD 12 = true := by
  have hjudged : ∀ u : State, fom < u.fget (pgLane l) LANE.FOM_THR.LOW →
      ((u.fomJudged l 6 fom).hdr (pgLane l)).evt.getLsbD 12 = true := fun u hu => by
    unfold State.fomJudged
    rw [if_neg (by decide), if_neg (by decide), if_pos rfl]
    simp only
    rw [if_pos hu, State.setLane_hdr]
    exact State.evt_set _ _ _ (by decide)
  rw [State.fomWindow_eq hfom (by omega), h]
  refine hjudged _ ?_
  split
  · rwa [State.fomAdapted_fget (by decide), State.fomPosted_fget_apart (by decide) (by decide)]
  · rwa [State.fomPosted_fget_apart (by decide) (by decide)]

/-! ### Commands on a powered device -/

theorem exec_trainingFrameRx_on (h : s.boot.powered = true) (lane : Fin 24) (ready confirm fail : Bool)
    (d2 d1 d0 dp : Int) (skew : Nat) : exec (.trainingFrameRx lane ready confirm fail d2 d1 d0 dp skew) s =
      .next (s.trainingFrame lane ready confirm fail d2 d1 d0 dp skew).settle :=
  congrArg Host.Outcome.next (State.live_on h _)

theorem exec_confirmMeasureDone_on (h : s.boot.powered = true) (lane : Fin 24) (errs bits : Nat) :
    exec (.confirmMeasureDone lane errs bits) s = .next (s.confirmMeasure lane errs bits).settle :=
  congrArg Host.Outcome.next (State.live_on h _)

theorem exec_fomWindowDone_on (h : s.boot.powered = true) (lane : Fin 24) (fom : BitVec 10) (ffe dfe : Nat)
    (step : Option Bool) : exec (.fomWindowDone lane fom ffe dfe step) s =
      .next (s.fomWindow lane fom.toNat ffe dfe step).settle :=
  congrArg Host.Outcome.next (State.live_on h _)

/-! ### One clause after the other -/

/-- A lane whose measurement is good has passed, 1 ms after CONFIRM began. -/
def State.confirmPassed (s : State) (l : Nat) : State :=
  (s.advanceTo ((s.train (l / 4)).since + 1000000)).setLane l { s.lane l with passed := true }

theorem State.confirmMeasure_good (h : s.trainState (l / 4) = 5) (hgood : (s.lane l).fomBad = false)
    (herrs : errs * 1000000 ≤ bits) : s.confirmMeasure l errs bits = (s.confirmPassed l).tryConfirm (l / 4) := by
  rw [State.confirmMeasure_of_confirm h]
  exact if_pos ⟨hgood, herrs⟩

theorem State.confirmPassed_mono : (s.confirmPassed l).mono = max s.mono ((s.train (l / 4)).since + 1000000) :=
  (State.setLane_mono _ _ _).trans (State.advanceTo_mono _ _)

theorem State.confirmPassed_same : State.SameBut [.mono, .lanes, .time] s (s.confirmPassed l) :=
  State.setLane_same (State.advanceTo_same (State.SameOutside.refl _ s) rfl) rfl

theorem State.confirmMeasure_bad (h : s.trainState (l / 4) = 5)
    (hbad : (s.lane l).fomBad = true ∨ bits < errs * 1000000) :
    State.AttemptFailed (l / 4) 10 s (s.confirmMeasure l errs bits) := by
  have hnot : ¬ ((s.lane l).fomBad = false ∧ errs * 1000000 ≤ bits) := fun ⟨hgood, herrs⟩ =>
    hbad.elim (fun hb => Bool.false_ne_true (hgood.symm.trans hb)) (Nat.not_lt.mpr herrs)
  rw [State.confirmMeasure_of_confirm h]
  simp only
  rw [if_neg hnot]
  exact (State.trainFail_at (by decide)).1

theorem State.fomWindow_posts (hfom : fom < 1024) (h : s.laneState l ≠ 0) :
    (s.fomWindow l fom ffe dfe step).fget (pgLane l) LANE.FOM.NOW = fom ∧
    (s.fomWindow l fom ffe dfe step).fget (pgLane l) LANE.FOM.MIN = min fom (s.fget (pgLane l) LANE.FOM.MIN) := by
  rw [State.fomWindow_fget hfom h (by decide) (by decide), State.fomWindow_fget hfom h (by decide) (by decide)]
  exact State.fomPosted_fget hfom

/-- Settles O21: a frame, a measurement and a window each come to their function, by the state that the link is in. -/
theorem pam4TrainingProceeds : Obligations.Pam4TrainingProceeds := by
  unfold Obligations.Pam4TrainingProceeds
  refine fun s lane hon => ⟨fun ready confirm fail d2 d1 d0 dp skew => ⟨fun hst hfail => ?_, fun hst hfail => ?_,
    fun hst => ?_⟩, fun errs bits => ⟨fun hst hgood herrs => ?_, fun hst hbad => ?_, fun hst => ?_⟩,
    fun fom ffe dfe step => ⟨fun hst => ?_, fun hst => ?_⟩⟩
  case refine_1 =>
    subst hfail
    refine ⟨_, exec_trainingFrameRx_on hon lane ready confirm true d2 d1 d0 dp skew, ?_⟩
    rw [State.trainingFrame_fail hst]
    exact State.trainFail_attemptFailed (by decide)
  case refine_2 =>
    refine ⟨s.frameTaken lane ready confirm d2 d1 d0 dp, _, ?_, ?_, fun l hl => State.frameTaken_lane_other hl,
      s.frameTaken_same lane ready confirm d2 d1 d0 dp, rfl, ?_⟩
    · rw [State.frameTaken_lane_self]
    · rw [State.frameTaken_lane_self]
    · rw [exec_trainingFrameRx_on hon, State.trainingFrame_taken hst hfail]
  case refine_3 => rw [exec_trainingFrameRx_on hon, State.trainingFrame_of_other hst]
  case refine_4 =>
    refine ⟨s.confirmPassed lane, ?_, State.setLane_lane_self _ _ _, State.confirmPassed_mono, State.confirmPassed_same⟩
    rw [exec_confirmMeasureDone_on hon, State.confirmMeasure_good hst hgood herrs]
  case refine_5 => exact ⟨_, exec_confirmMeasureDone_on hon lane errs bits, State.confirmMeasure_bad hst hbad⟩
  case refine_6 => rw [exec_confirmMeasureDone_on hon, State.confirmMeasure_of_other hst]
  case refine_7 =>
    obtain ⟨hnow, hmin⟩ := State.fomWindow_posts (ffe := ffe) (dfe := dfe) (step := step) fom.isLt hst
    exact ⟨_, exec_fomWindowDone_on hon lane fom ffe dfe step, hnow, hmin, State.fomWindow_low fom.isLt,
      State.fomWindow_same (State.SameOutside.refl _ s) rfl⟩
  case refine_8 => rw [exec_fomWindowDone_on hon, State.fomWindow_of_off hst]

end Sys2Proof.Machine
end

section
/-! PROOFS. Lane commands: a restart, the lane test with its peers, a burst of inverted bits, the ceiling (R86, R93, R95, R99,
R566, R567). -/

namespace Sys2Proof.Machine

variable {s : State} {p q n l k m op arg : Nat} {f g : Fld}

/-- What one step of a walk establishes, and no step undoes, holds at its end. -/
theorem foldl_establishes {α β : Type} {step : β → α → β} {Q P : β → Prop} {a : α} (hQ : ∀ b x, Q b → Q (step b x))
    (hset : ∀ b, Q b → P (step b a)) (hkeep : ∀ b x, Q b → P b → P (step b x)) (L : List α) (ha : a ∈ L) (b : β)
    (hb : Q b) : P (L.foldl step b) := by
  induction L generalizing b with
  | nil => cases ha
  | cons x r ih =>
    rw [List.foldl_cons]
    by_cases hr : a ∈ r
    · exact ih hr _ (hQ b x hb)
    · obtain rfl : a = x := (List.mem_cons.mp ha).resolve_right hr
      exact (List.foldlRecOn r step (motive := fun b => Q b ∧ P b) ⟨hQ b a hb, hset b hb⟩
        fun b hb x _ => ⟨hQ b x hb.1, hkeep b x hb.1 hb.2⟩).2

/-! ### Lanes beside a lane in TEST (R85, R86) -/

/-- The fields that a lane sets when it enters OFF. -/
def offFields : List Fld := [LANE.TRAIN_STAT.STATE, LANE.TRAIN_STAT.RATE, LANE.DWELL.MS]

/-- A lane enters OFF, unless it is in TEST. -/
def State.laneOff (s : State) (l : Nat) : State :=
  if s.laneState l = 7 then s
  else
    let s := ((s.fset (pgLane l) LANE.TRAIN_STAT.STATE 0).fset (pgLane l) LANE.TRAIN_STAT.RATE 0).fset (pgLane l)
      LANE.DWELL.MS 0
    s.setLane l (s.lane l).restart

theorem State.enterOff_eq (s : State) (n : Nat) : s.enterOff n = (lanesOf n).foldl State.laneOff (s.leaveRun n) := rfl

theorem State.laneOff_fget_apart (h : ∀ f ∈ offFields, f.Apart g) : (s.laneOff k).fget p g = s.fget p g := by
  unfold State.laneOff
  split
  · rfl
  · simp only [State.setLane_fget]
    rw [State.fset_fget_apart (h _ (by decide)), State.fset_fget_apart (h _ (by decide)),
      State.fset_fget_apart (h _ (by decide))]

theorem State.laneOff_off (h : s.laneState l ≠ 7) : (s.laneOff l).laneState l = 0 := by
  unfold State.laneOff
  rw [if_neg h]
  unfold State.laneState
  simp only [State.setLane_fget]
  rw [State.fset_fget_apart (by decide), State.fset_fget_apart (by decide), State.fset_fget (by decide) (by decide)]

/-- A lane that enters OFF moves no other lane. -/
theorem State.laneOff_laneState (s : State) (k l : Nat) :
    (s.laneOff k).laneState l = 0 ∨ (s.laneOff k).laneState l = s.laneState l := by
  by_cases hp : pgLane l = pgLane k
  · have hsame : ∀ u : State, u.laneState l = u.laneState k := fun u => by unfold State.laneState; rw [hp]
    by_cases h7 : s.laneState k = 7
    · exact .inr (by unfold State.laneOff; rw [if_pos h7])
    · exact .inl ((hsame _).trans (State.laneOff_off h7))
  · refine .inr ?_
    unfold State.laneOff
    split
    · rfl
    · unfold State.laneState
      simp only [State.setLane_fget]
      rw [State.fget_fset_page _ _ _ _ _ _ hp, State.fget_fset_page _ _ _ _ _ _ hp, State.fget_fset_page _ _ _ _ _ _ hp]

theorem State.laneOff_hdr (s : State) (k : Nat) : (s.laneOff k).hdr p = s.hdr p := by
  unfold State.laneOff
  split
  · rfl
  · simp only [State.setLane_hdr, State.fset_hdr]

theorem State.enterOff_fget_apart (h : ∀ f ∈ offFields, f.Apart g) (hs : LANE.SENT_STAT.SYNC.Apart g) :
    (s.enterOff n).fget (pgLane l) g = s.fget (pgLane l) g :=
  List.foldlRecOn _ _ (motive := fun t : State => t.fget (pgLane l) g = s.fget (pgLane l) g) (State.leaveRun_fget hs)
    fun _ ht _ _ => (State.laneOff_fget_apart h).trans ht

theorem State.enterOff_laneState (hl : l ∈ lanesOf n) (h : s.laneState l ≠ 7) : (s.enterOff n).laneState l = 0 := by
  rw [State.enterOff_eq]
  refine foldl_establishes (Q := fun t : State => t.laneState l ≠ 7) (P := fun t : State => t.laneState l = 0)
    (fun t k ht => ?_) (fun t ht => State.laneOff_off ht) (fun t k _ ht => ?_) _ hl _ ?_
  · rcases t.laneOff_laneState k l with e | e <;> rw [e]
    · decide
    · exact ht
  · exact (t.laneOff_laneState k l).elim id fun e => e.trans ht
  · have hrun : (s.leaveRun n).laneState l = s.laneState l := State.leaveRun_fget (by decide)
    rwa [hrun]

theorem State.enterOff_run (s : State) (n l : Nat) : ((s.enterOff n).hdr (pgLane l)).run = (s.hdr (pgLane l)).run :=
  List.foldlRecOn _ _ (motive := fun t : State => (t.hdr (pgLane l)).run = (s.hdr (pgLane l)).run) (s.leaveRun_hdr n l).1
    fun t ht k _ => (congrArg Hdr.run (t.laneOff_hdr k)).trans ht

/-- The reason for which a lane rests in OFF beside a lane in TEST, or beside a disabled one. -/
def State.peerShown (test disabled : Bool) (s : State) (l : Nat) : State :=
  if s.laneState l ≠ 0 then s
  else if disabled && s.fbit (pgLane l) LANE.LANE_CFG.ENABLE && !test then
    s.fset (pgLane l) LANE.TRAIN_STAT.FAIL_REASON 15
  else if test then
    s.fset (pgLane l) LANE.TRAIN_STAT.FAIL_REASON (if s.fbit (pgLane l) LANE.LANE_CFG.ENABLE then 14 else 15)
  else s

theorem State.showPeers_eq (s : State) (n : Nat) : s.showPeers n =
    (lanesOf n).foldl (State.peerShown ((lanesOf n).any (fun l => s.laneState l = 7))
      ((lanesOf n).any (fun l => !s.fbit (pgLane l) LANE.LANE_CFG.ENABLE))) s := rfl

/-- A lane's reason is the only thing that is shown. -/
theorem State.peerShown_cases (test disabled : Bool) (s : State) (k : Nat) :
    s.peerShown test disabled k = s ∨ ∃ v, s.peerShown test disabled k = s.fset (pgLane k) LANE.TRAIN_STAT.FAIL_REASON v := by
  unfold State.peerShown
  split
  · exact .inl rfl
  · split
    · exact .inr ⟨_, rfl⟩
    · split
      · exact .inr ⟨_, rfl⟩
      · exact .inl rfl

variable {test disabled : Bool}

theorem State.peerShown_fget (h : LANE.TRAIN_STAT.FAIL_REASON.Apart g) :
    (s.peerShown test disabled k).fget p g = s.fget p g := by
  obtain e | ⟨v, e⟩ := State.peerShown_cases test disabled s k <;> rw [e]
  exact State.fset_fget_apart h

theorem State.peerShown_hdr (s : State) (k : Nat) : (s.peerShown test disabled k).hdr p = s.hdr p := by
  obtain e | ⟨v, e⟩ := State.peerShown_cases test disabled s k <;> rw [e]
  exact State.fset_hdr ..

theorem State.peerShown_lane (s : State) (k : Nat) : (s.peerShown test disabled k).lane l = s.lane l := by
  obtain e | ⟨v, e⟩ := State.peerShown_cases test disabled s k <;> rw [e]
  exact State.fset_lane _

/-- Beside a lane in TEST, an enabled lane in OFF shows PEER_TEST and a disabled one PEER_DISABLED. -/
theorem State.peerShown_reason (h : s.laneState l = 0) :
    (s.peerShown true disabled l).fget (pgLane l) LANE.TRAIN_STAT.FAIL_REASON =
      if s.fbit (pgLane l) LANE.LANE_CFG.ENABLE then 14 else 15 := by
  unfold State.peerShown
  rw [if_neg (not_not.mpr h), if_neg (by simp), if_pos rfl]
  exact State.fset_fget (by decide) (by split <;> decide)

theorem State.peerShown_reason_other (hp : pgLane l ≠ pgLane k) :
    (s.peerShown test disabled k).fget (pgLane l) g = s.fget (pgLane l) g := by
  obtain e | ⟨v, e⟩ := State.peerShown_cases test disabled s k <;> rw [e]
  exact State.fget_fset_page _ _ _ _ _ _ hp

theorem State.showPeers_fget (h : LANE.TRAIN_STAT.FAIL_REASON.Apart g) : (s.showPeers n).fget p g = s.fget p g :=
  List.foldlRecOn _ _ (motive := fun t : State => t.fget p g = s.fget p g) rfl fun _ ht _ _ =>
    (State.peerShown_fget h).trans ht

theorem State.showPeers_laneState (s : State) (n l : Nat) : (s.showPeers n).laneState l = s.laneState l :=
  State.showPeers_fget (by decide)

theorem State.showPeers_hdr (s : State) (n : Nat) : (s.showPeers n).hdr p = s.hdr p :=
  List.foldlRecOn _ _ (motive := fun t : State => t.hdr p = s.hdr p) rfl fun t ht k _ => (t.peerShown_hdr k).trans ht

theorem State.showPeers_lane (s : State) (n : Nat) : (s.showPeers n).lane l = s.lane l :=
  List.foldlRecOn _ _ (motive := fun t : State => t.lane l = s.lane l) rfl fun t ht k _ => (t.peerShown_lane k).trans ht

theorem State.showPeers_reason (hk : k ∈ lanesOf n) (htest : s.laneState k = 7) (hl : l ∈ lanesOf n) (h : s.laneState l = 0) :
    (s.showPeers n).fget (pgLane l) LANE.TRAIN_STAT.FAIL_REASON =
      if s.fbit (pgLane l) LANE.LANE_CFG.ENABLE then 14 else 15 := by
  have hany : (lanesOf n).any (fun l => s.laneState l = 7) = true := List.any_eq_true.mpr ⟨k, hk, decide_eq_true htest⟩
  have hreason : ∀ (t : State), t.laneState l = 0 ∧ t.fbit (pgLane l) LANE.LANE_CFG.ENABLE =
      s.fbit (pgLane l) LANE.LANE_CFG.ENABLE → ∀ d, (t.peerShown true d l).fget (pgLane l) LANE.TRAIN_STAT.FAIL_REASON =
        if s.fbit (pgLane l) LANE.LANE_CFG.ENABLE then 14 else 15 := fun t ht d => by
    rw [State.peerShown_reason ht.1, ht.2]
  rw [State.showPeers_eq, hany]
  refine foldl_establishes
    (Q := fun t : State => t.laneState l = 0 ∧ t.fbit (pgLane l) LANE.LANE_CFG.ENABLE = s.fbit (pgLane l) LANE.LANE_CFG.ENABLE)
    (P := fun t : State => t.fget (pgLane l) LANE.TRAIN_STAT.FAIL_REASON =
      if s.fbit (pgLane l) LANE.LANE_CFG.ENABLE then 14 else 15)
    (fun t x ht => ?_) (fun t ht => hreason t ht _) (fun t x ht hv => ?_) _ hl _ ⟨h, rfl⟩
  · unfold State.laneState State.fbit at ht ⊢
    rwa [State.peerShown_fget (by decide), State.peerShown_fget (by decide)]
  · by_cases hp : pgLane l = pgLane x
    · have hx : t.peerShown true ((lanesOf n).any fun l => !s.fbit (pgLane l) LANE.LANE_CFG.ENABLE) x =
          t.peerShown true ((lanesOf n).any fun l => !s.fbit (pgLane l) LANE.LANE_CFG.ENABLE) l := by
        unfold State.peerShown State.laneState
        rw [hp]
      rw [hx]
      exact hreason t ht _
    · rwa [State.peerShown_reason_other hp]

/-! ### TEST_ENTER (R93, R99) -/

/-- A lane enters TEST at the rate of PRBS_CTL. -/
def State.inTest (s : State) (l : Nat) : State :=
  let s := (s.fset (pgLane l) LANE.TRAIN_STAT.STATE 7).fset (pgLane l) LANE.TRAIN_STAT.RATE
    (s.fget (pgLane l) LANE.PRBS_CTL.RATE)
  if s.fbit (pgLane l) LANE.LANE_CFG.FIR_MODE then s.startTaps l else s

theorem State.testEnter_eq (s : State) (l : Nat) : s.testEnter l = ((s.enterOff (l / 4)).inTest l).showPeers (l / 4) := rfl

theorem State.inTest_fget (h : ∀ f ∈ tapFields, f.Apart g) : (s.inTest l).fget p g =
    ((s.fset (pgLane l) LANE.TRAIN_STAT.STATE 7).fset (pgLane l) LANE.TRAIN_STAT.RATE
      (s.fget (pgLane l) LANE.PRBS_CTL.RATE)).fget p g := by
  unfold State.inTest
  simp only
  split
  · exact State.startTaps_fget h
  · rfl

theorem State.inTest_laneState (s : State) (l : Nat) : (s.inTest l).laneState l = 7 := by
  unfold State.laneState
  rw [State.inTest_fget (by decide), State.fset_fget_apart (by decide), State.fset_fget (by decide) (by decide)]

theorem State.inTest_rate (s : State) (l : Nat) :
    (s.inTest l).fget (pgLane l) LANE.TRAIN_STAT.RATE = s.fget (pgLane l) LANE.PRBS_CTL.RATE := by
  have hrate : s.fget (pgLane l) LANE.PRBS_CTL.RATE < 2 ^ LANE.TRAIN_STAT.RATE.w := s.fget_lt _ _
  rw [State.inTest_fget (by decide), State.fset_fget (by decide) hrate]

theorem State.inTest_laneState_other (h : pgLane k ≠ pgLane l) : (s.inTest l).laneState k = s.laneState k := by
  unfold State.laneState
  rw [State.inTest_fget (by decide), State.fget_fset_page _ _ _ _ _ _ h, State.fget_fset_page _ _ _ _ _ _ h]

theorem State.startTaps_hdr (s : State) (l : Nat) : (s.startTaps l).hdr p = s.hdr p := by
  unfold State.startTaps State.setTaps State.fsetI
  split <;> simp only [State.fset_hdr]

theorem State.inTest_hdr (s : State) (l : Nat) : (s.inTest l).hdr p = s.hdr p := by
  unfold State.inTest
  simp only
  split
  · rw [State.startTaps_hdr, State.fset_hdr, State.fset_hdr]
  · rw [State.fset_hdr, State.fset_hdr]

theorem State.testEnter_laneState (s : State) (l : Nat) : (s.testEnter l).laneState l = 7 := by
  rw [State.testEnter_eq, State.showPeers_laneState, State.inTest_laneState]

theorem State.testEnter_rate (s : State) (l : Nat) :
    (s.testEnter l).fget (pgLane l) LANE.TRAIN_STAT.RATE = s.fget (pgLane l) LANE.PRBS_CTL.RATE := by
  rw [State.testEnter_eq, State.showPeers_fget (by decide), State.inTest_rate,
    State.enterOff_fget_apart (by decide) (by decide)]

/-- The peers of a lane in TEST rest in OFF. -/
theorem State.testEnter_peers (hk : k ∈ lanesOf (l / 4)) (hp : pgLane k ≠ pgLane l) (h : s.laneState k ≠ 7) :
    (s.testEnter l).laneState k = 0 ∧ (s.testEnter l).fget (pgLane k) LANE.TRAIN_STAT.FAIL_REASON =
      if s.fbit (pgLane k) LANE.LANE_CFG.ENABLE then 14 else 15 := by
  have hoff : ((s.enterOff (l / 4)).inTest l).laneState k = 0 :=
    (State.inTest_laneState_other hp).trans (State.enterOff_laneState hk h)
  have henable : ((s.enterOff (l / 4)).inTest l).fbit (pgLane k) LANE.LANE_CFG.ENABLE =
      s.fbit (pgLane k) LANE.LANE_CFG.ENABLE := by
    unfold State.fbit
    rw [State.inTest_fget (by decide), State.fset_fget_apart (by decide), State.fset_fget_apart (by decide),
      State.enterOff_fget_apart (by decide) (by decide)]
  rw [State.testEnter_eq]
  refine ⟨(State.showPeers_laneState _ _ _).trans hoff, ?_⟩
  rw [State.showPeers_reason (mem_lanesOf_div l) (State.inTest_laneState _ l) hk hoff, henable]

theorem State.testEnter_run (s : State) (l : Nat) : ((s.testEnter l).hdr (pgLane l)).run = (s.hdr (pgLane l)).run := by
  rw [State.testEnter_eq, State.showPeers_hdr, State.inTest_hdr, State.enterOff_run]

/-! ### The end of a lane test (R92, R566) -/

/-- The checker's count runs up to the present, in BITS alone. -/
theorem State.prbsCatch_fget (h : LANE.PRBS_BITS_LO.COUNT.Apart g) (h' : LANE.PRBS_BITS_HI.COUNT.Apart g) :
    (s.prbsCatch l).fget p g = s.fget p g := by
  unfold State.prbsCatch
  simp only
  split
  · rw [State.fadd64_fget_apart h h', State.setLane_fget]
  · rfl

theorem State.prbsCatch_hdr (s : State) (l : Nat) : (s.prbsCatch l).hdr p = s.hdr p := by
  unfold State.prbsCatch State.fadd64 State.fset64
  simp only
  split
  · simp only [State.fset_hdr, State.setLane_hdr]
  · rfl

theorem State.prbsStop_fget (h : ∀ f ∈ [LANE.PRBS_BITS_LO.COUNT, LANE.PRBS_BITS_HI.COUNT, LANE.PRBS_STAT.LOCK], f.Apart g) :
    (s.prbsStop l).fget p g = s.fget p g := by
  unfold State.prbsStop
  simp only
  rw [State.fset_fget_apart (h _ (by decide)), State.setLane_fget, State.prbsCatch_fget (h _ (by decide)) (h _ (by decide))]

theorem State.prbsStop_hdr (s : State) (l : Nat) : (s.prbsStop l).hdr p = s.hdr p := by
  unfold State.prbsStop
  simp only [State.fset_hdr, State.setLane_hdr, State.prbsCatch_hdr]

theorem State.prbsStop_countedTo (s : State) (l : Nat) : ((s.prbsStop l).lane l).countedTo = none := by
  unfold State.prbsStop
  simp only [State.fset_lane, State.setLane_lane_self]

theorem State.prbsStop_lock (s : State) (l : Nat) : (s.prbsStop l).fget (pgLane l) LANE.PRBS_STAT.LOCK = 0 := by
  unfold State.prbsStop
  exact State.fset_fget (by decide) (by decide)

/-- Nothing of the test is left on its lane, and no burst runs. -/
def State.testLeft (s : State) (l : Nat) : State :=
  (((s.prbsStop l).setLane l { (s.prbsStop l).lane l with inject := none }).fset (pgLane l) LANE.TRAIN_STAT.STATE 0).fset
    (pgLane l) LANE.TRAIN_STAT.RATE 0

theorem State.running_of_run {r : Running} (h : (s.hdr p).run = some r) (ho : r.opcode ≠ op) : s.running p op = false := by
  unfold State.running
  rw [h]
  exact beq_eq_false_iff_ne.mpr ho

theorem State.leaveTest_eq (h : s.running (pgLane l) 0x12 = false) : s.leaveTest l = s.testLeft l := by
  have hrun : ((s.prbsStop l).setLane l { (s.prbsStop l).lane l with inject := none }).running (pgLane l) 0x12 = false := by
    unfold State.running at h ⊢
    rwa [State.setLane_hdr, State.prbsStop_hdr]
  unfold State.leaveTest
  simp only
  rw [if_neg (Bool.eq_false_iff.mp hrun)]
  rfl

theorem State.testLeft_fget
    (h : ∀ f ∈ [LANE.PRBS_BITS_LO.COUNT, LANE.PRBS_BITS_HI.COUNT, LANE.PRBS_STAT.LOCK], f.Apart g)
    (h' : ∀ f ∈ [LANE.TRAIN_STAT.STATE, LANE.TRAIN_STAT.RATE], f.Apart g) :
    (s.testLeft l).fget p g = s.fget p g := by
  unfold State.testLeft
  rw [State.fset_fget_apart (h' _ (by decide)), State.fset_fget_apart (h' _ (by decide)), State.setLane_fget,
    State.prbsStop_fget h]

theorem State.testLeft_laneState (s : State) (l : Nat) : (s.testLeft l).laneState l = 0 := by
  unfold State.testLeft State.laneState
  rw [State.fset_fget_apart (by decide), State.fset_fget (by decide) (by decide)]

theorem State.testLeft_laneState_other (h : pgLane k ≠ pgLane l) : (s.testLeft l).laneState k = s.laneState k := by
  unfold State.testLeft State.laneState
  rw [State.fget_fset_page _ _ _ _ _ _ h, State.fget_fset_page _ _ _ _ _ _ h, State.setLane_fget,
    State.prbsStop_fget (by decide)]

theorem State.testLeft_hdr (s : State) (l : Nat) : (s.testLeft l).hdr p = s.hdr p := by
  unfold State.testLeft
  rw [State.fset_hdr, State.fset_hdr, State.setLane_hdr, State.prbsStop_hdr]

theorem State.testLeft_countedTo (s : State) (l : Nat) : ((s.testLeft l).lane l).countedTo = none := by
  unfold State.testLeft
  rw [State.fset_lane, State.fset_lane, State.setLane_lane_self]
  exact s.prbsStop_countedTo l

/-! ### TEST_EXIT (R99) -/

theorem State.testExit_eq (h : s.running (pgLane l) 0x12 = false) :
    s.testExit l = ((s.testLeft l).showPeers (l / 4)).laneEnable (l / 4) := by
  unfold State.testExit
  simp only
  rw [State.leaveTest_eq h]

theorem State.laneEnable_cases (s : State) (n : Nat) :
    s.laneEnable n = (s.allLanes n LANE.TRAIN_STAT.ATTEMPTS 0).enterSeek n ∨ s.laneEnable n = s := by
  unfold State.laneEnable
  split
  · exact .inl rfl
  · exact .inr rfl

theorem State.testExit_run (h : s.running (pgLane l) 0x12 = false) : (s.testExit l).hdr (pgLane l) = s.hdr (pgLane l) := by
  rw [State.testExit_eq h]
  rcases ((s.testLeft l).showPeers (l / 4)).laneEnable_cases (l / 4) with e | e <;> rw [e]
  · rw [State.enterSeek_hdr, State.allLanes_hdr, State.showPeers_hdr, State.testLeft_hdr]
  · rw [State.showPeers_hdr, State.testLeft_hdr]

theorem State.testExit_countedTo (h : s.running (pgLane l) 0x12 = false) : ((s.testExit l).lane l).countedTo = none := by
  rw [State.testExit_eq h]
  rcases ((s.testLeft l).showPeers (l / 4)).laneEnable_cases (l / 4) with e | e <;> rw [e]
  · rw [State.enterSeek_lane (mem_lanesOf_div l)]
    rfl
  · rw [State.showPeers_lane, State.testLeft_countedTo]

theorem State.mayTrain_iff : s.mayTrain n = true ↔ s.domOn (9 + n) = true ∧
    ∀ l ∈ lanesOf n, s.fbit (pgLane l) LANE.LANE_CFG.ENABLE = true ∧ s.laneState l ≠ 7 := by
  simp only [State.mayTrain, Bool.and_eq_true, List.all_eq_true, bne_iff_ne]

theorem State.testLeft_shown_enable (s : State) (l n k : Nat) : ((s.testLeft l).showPeers n).fbit (pgLane k)
    LANE.LANE_CFG.ENABLE = s.fbit (pgLane k) LANE.LANE_CFG.ENABLE := by
  unfold State.fbit
  rw [State.showPeers_fget (by decide), State.testLeft_fget (by decide) (by decide)]

/-- No test touches the power domains. -/
theorem State.testLeft_shown_domOn (h : s.running (pgLane l) 0x12 = false) (d : Nat) :
    ((s.testLeft l).showPeers n).domOn d = s.domOn d := by
  have hpwr : State.SameOutside 18446744075857035272 s ((s.testLeft l).showPeers n) :=
    State.showPeers_same (State.leaveTest_eq h ▸ State.leaveTest_same (State.SameOutside.refl _ s) rfl) rfl
  unfold State.domOn
  rw [hpwr.fget (ty := .pwr) rfl rfl, hpwr.fget (ty := .pwr) rfl rfl]

/-- Without a disabled lane or another lane in TEST, the link trains again. -/
theorem State.testExit_trains (h : s.running (pgLane l) 0x12 = false) (hon : s.domOn (9 + l / 4) = true)
    (hen : ∀ k ∈ lanesOf (l / 4), s.fbit (pgLane k) LANE.LANE_CFG.ENABLE = true ∧ (pgLane k ≠ pgLane l → s.laneState k = 0))
    (hk : k ∈ lanesOf (l / 4)) : (s.testExit l).laneState k = 1 := by
  have hoff : ∀ k ∈ lanesOf (l / 4), ((s.testLeft l).showPeers (l / 4)).laneState k = 0 := fun k hk => by
    rw [State.showPeers_laneState]
    by_cases hp : pgLane k = pgLane l
    · unfold State.laneState
      rw [hp]
      exact s.testLeft_laneState l
    · rw [State.testLeft_laneState_other hp]
      exact (hen k hk).2 hp
  have hmay : ((s.testLeft l).showPeers (l / 4)).mayTrain (l / 4) = true := by
    refine State.mayTrain_iff.mpr ⟨(State.testLeft_shown_domOn h _).trans hon, fun k hk => ⟨?_, ?_⟩⟩
    · rw [State.testLeft_shown_enable]
      exact (hen k hk).1
    · rw [hoff k hk]
      decide
  rw [State.testExit_eq h, State.laneEnable_of_may hmay (State.trainState_of_all hoff (by decide))]
  exact (State.seekAfresh_lanes hk).1

/-- A disabled lane, or another lane in TEST, keeps the link in OFF. -/
theorem State.testExit_rests (h : s.running (pgLane l) 0x12 = false) (hk : k ∈ lanesOf (l / 4))
    (hbad : s.fbit (pgLane k) LANE.LANE_CFG.ENABLE = false ∨ pgLane k ≠ pgLane l ∧ s.laneState k = 7) :
    (s.testExit l).laneState l = 0 := by
  have hmay : ((s.testLeft l).showPeers (l / 4)).mayTrain (l / 4) = false := by
    refine Bool.eq_false_iff.mpr fun hmay => ?_
    obtain ⟨henable, hstate⟩ := (State.mayTrain_iff.mp hmay).2 k hk
    rw [State.testLeft_shown_enable] at henable
    rcases hbad with hbad | ⟨hp, hbad⟩
    · exact Bool.false_ne_true (hbad.symm.trans henable)
    · rw [State.showPeers_laneState, State.testLeft_laneState_other hp] at hstate
      exact hstate hbad
  rw [State.testExit_eq h, State.laneEnable_of_not (.inl hmay), State.showPeers_laneState, State.testLeft_laneState]

/-! ### Commands of a lane page -/

theorem pgLane_ne_pgReel (l q : Nat) : pgLane l ≠ pgReel q := by
  unfold pgLane pgReel
  omega

/-- A lane command that its page takes runs. -/
theorem State.laneCommand_eq (lane : Fin 24) (h : s.accepts m (pgLane lane) op arg = true) (hop : 0x10 ≤ op)
    (ho : op < 256) (ha : arg < 2 ^ 24) : s.command m (pgLane lane) op arg =
      ((s.cmdStart (pgLane lane) op arg m).laneCmd lane op arg).emit (.access m 0 0) := by
  rw [State.command_eq h ho ha (.inr fun q _ => pgLane_ne_pgReel lane q)]
  unfold State.cmdRun
  rw [if_neg (by omega), if_neg (by omega), if_neg (by omega), pageOf_lane, Nat.mod_eq_of_lt lane.isLt]

/-! What each opcode does (R99). -/

theorem State.laneCmd_retrain (s : State) (l arg : Nat) :
    s.laneCmd l 0x10 arg = (s.commandedRestart (l / 4) 12).cmdDone (pgLane l) := by
  simp only [State.laneCmd, Nat.reduceEqDiff, if_true, if_false]

theorem State.laneCmd_testEnter (s : State) (l arg : Nat) :
    s.laneCmd l 0x11 arg = (s.testEnter l).cmdDone (pgLane l) := by
  simp only [State.laneCmd, Nat.reduceEqDiff, if_true, if_false]

theorem State.laneCmd_inject (s : State) (l arg : Nat) :
    s.laneCmd l 0x12 arg = s.setLane l { s.lane l with inject := some (max 1 (arg % 256)) } := by
  simp only [State.laneCmd, Nat.reduceEqDiff, if_true, if_false]

theorem State.laneCmd_testExit (s : State) (l arg : Nat) :
    s.laneCmd l 0x13 arg = (s.testExit l).cmdDone (pgLane l) := by
  simp only [State.laneCmd, Nat.reduceEqDiff, if_true, if_false]

theorem State.laneCmd_resetCeiling (s : State) (l arg : Nat) :
    s.laneCmd l 0x14 arg = (s.resetCeiling (l / 4)).cmdDone (pgLane l) := by
  simp only [State.laneCmd, Nat.reduceEqDiff, if_false]

/-- A command that runs ends DONE and its write is answered. -/
theorem State.ended_done (h : (s.hdr p).run = some ⟨op, arg, m⟩) :
    ((s.cmdDone p).emit (.access m 0 0)).Done p op m ∧ ((s.cmdDone p).emit (.access m 0 0)).Answers (.access m 0 0) := by
  refine ⟨?_, State.emit_answers _ _⟩
  have hdone := State.cmdDone_done s p h
  unfold State.Done at hdone ⊢
  rwa [State.emit_hdr]

theorem State.ended_fget {x : Out} : ((s.cmdDone q).emit x).fget p f = s.fget p f := by
  rw [State.emit_fget, State.cmdDone_fget]

theorem State.ended_laneState {x : Out} : ((s.cmdDone q).emit x).laneState l = s.laneState l := State.ended_fget

theorem State.ended_lane {x : Out} : ((s.cmdDone q).emit x).lane l = s.lane l := by
  unfold State.lane
  rw [State.emit_lanes, State.cmdDone_lanes]

theorem State.cmdStart_laneState : (s.cmdStart p op arg m).laneState l = s.laneState l := State.cmdStart_fget ..

theorem State.cmdStart_domOn (d : Nat) : (s.cmdStart p op arg m).domOn d = s.domOn d := by
  unfold State.domOn
  rw [State.cmdStart_fget, State.cmdStart_fget]

theorem State.cmdStart_lane : (s.cmdStart p op arg m).lane l = s.lane l := by
  unfold State.lane
  rw [State.cmdStart_lanes]

theorem exec_retrain_on (h : s.boot.powered = true) (m : Master) (lane : Fin 24) :
    exec (.retrain m lane) s = .next (s.command m.id (pgLane lane) 0x10 0).settle :=
  congrArg Host.Outcome.next (State.live_on h _)

theorem exec_testEnter_on (h : s.boot.powered = true) (m : Master) (lane : Fin 24) :
    exec (.testEnter m lane) s = .next (s.command m.id (pgLane lane) 0x11 0).settle :=
  congrArg Host.Outcome.next (State.live_on h _)

theorem exec_inject_on (h : s.boot.powered = true) (m : Master) (lane : Fin 24) (length : BitVec 8) :
    exec (.inject m lane length) s = .next (s.command m.id (pgLane lane) 0x12 length.toNat) :=
  congrArg Host.Outcome.next (State.live_on h _)

theorem exec_testExit_on (h : s.boot.powered = true) (m : Master) (lane : Fin 24) :
    exec (.testExit m lane) s = .next (s.command m.id (pgLane lane) 0x13 0).settle :=
  congrArg Host.Outcome.next (State.live_on h _)

theorem exec_resetCeiling_on (h : s.boot.powered = true) (m : Master) (lane : Fin 24) :
    exec (.resetCeiling m lane) s = .next (s.command m.id (pgLane lane) 0x14 0) :=
  congrArg Host.Outcome.next (State.live_on h _)

/-! ### The commands one by one -/

/-- RETRAIN as far as its answer. -/
def State.retrained (s : State) (m l : Nat) : State :=
  (((s.cmdStart (pgLane l) 0x10 0 m).commandedRestart (l / 4) 12).cmdDone (pgLane l)).emit (.access m 0 0)

theorem State.retrain_command (lane : Fin 24) (h : s.accepts m (pgLane lane) 0x10 0 = true) :
    s.command m (pgLane lane) 0x10 0 = s.retrained m lane := by
  rw [State.laneCommand_eq lane h (by decide) (by decide) (by decide), State.laneCmd_retrain]
  rfl

theorem State.retrained_done (s : State) (m l : Nat) :
    (s.retrained m l).Done (pgLane l) 0x10 m ∧ (s.retrained m l).Answers (.access m 0 0) :=
  State.ended_done ((State.commandedRestart_run _ _ _ _).trans (State.cmdStart_run ..))

/-- TEST_ENTER as far as its answer. -/
def State.testEntered (s : State) (m l : Nat) : State :=
  (((s.cmdStart (pgLane l) 0x11 0 m).testEnter l).cmdDone (pgLane l)).emit (.access m 0 0)

theorem State.testEnter_command (lane : Fin 24) (h : s.accepts m (pgLane lane) 0x11 0 = true) :
    s.command m (pgLane lane) 0x11 0 = s.testEntered m lane := by
  rw [State.laneCommand_eq lane h (by decide) (by decide) (by decide), State.laneCmd_testEnter]
  rfl

theorem State.testEntered_done (s : State) (m l : Nat) :
    (s.testEntered m l).Done (pgLane l) 0x11 m ∧ (s.testEntered m l).Answers (.access m 0 0) :=
  State.ended_done ((State.testEnter_run _ _).trans (State.cmdStart_run ..))

theorem State.testEntered_rate (s : State) (m l : Nat) :
    (s.testEntered m l).fget (pgLane l) LANE.TRAIN_STAT.RATE = s.fget (pgLane l) LANE.PRBS_CTL.RATE := by
  unfold State.testEntered
  rw [State.ended_fget, State.testEnter_rate, State.cmdStart_fget]

theorem State.testEntered_laneState (s : State) (m l : Nat) : (s.testEntered m l).laneState l = 7 :=
  State.ended_laneState.trans (State.testEnter_laneState _ l)

theorem State.testEntered_peers (hk : k ∈ lanesOf (l / 4)) (hp : pgLane k ≠ pgLane l) (h : s.laneState k ≠ 7) :
    (s.testEntered m l).laneState k = 0 ∧ (s.testEntered m l).fget (pgLane k) LANE.TRAIN_STAT.FAIL_REASON =
      if s.fbit (pgLane k) LANE.LANE_CFG.ENABLE then 14 else 15 := by
  have hstart : (s.cmdStart (pgLane l) 0x11 0 m).laneState k ≠ 7 := fun e => h (State.cmdStart_laneState.symm.trans e)
  obtain ⟨hstate, hreason⟩ := State.testEnter_peers hk hp hstart
  unfold State.testEntered
  rw [State.ended_laneState, State.ended_fget, hreason, State.cmdStart_fbit]
  exact ⟨hstate, rfl⟩

/-- INJECT as far as its answer. -/
def State.injecting (s : State) (m l len : Nat) : State :=
  ((s.cmdStart (pgLane l) 0x12 len m).setLane l { s.lane l with inject := some (max 1 len) }).emit (.access m 0 0)

theorem State.inject_command (lane : Fin 24) {len : Nat} (h : s.accepts m (pgLane lane) 0x12 len = true) (hlen : len < 256) :
    s.command m (pgLane lane) 0x12 len = s.injecting m lane len := by
  rw [State.laneCommand_eq lane h (by decide) (by decide) (by omega), State.laneCmd_inject, Nat.mod_eq_of_lt hlen,
    State.cmdStart_lane]
  rfl

theorem State.injecting_runs (s : State) (m l len : Nat) : (s.injecting m l len).Runs (pgLane l) 0x12 len m := by
  have hruns := s.cmdStart_runs (pgLane l) (o := 0x12) (g := len) (m := m)
  unfold State.injecting
  unfold State.Runs at hruns ⊢
  rwa [State.emit_hdr, State.setLane_hdr]

theorem State.injecting_lane (s : State) (m l len : Nat) :
    (s.injecting m l len).lane l = { s.lane l with inject := some (max 1 len) } := by
  unfold State.injecting State.lane
  rw [State.emit_lanes]
  exact State.setLane_lane_self _ _ _

theorem State.injecting_word (s : State) (m l len a : Nat) : (s.injecting m l len).word a = s.word a := by
  unfold State.injecting
  rw [State.emit_word]
  unfold State.word
  rw [State.setLane_pages]
  exact State.cmdStart_word ..

theorem State.injecting_same (s : State) (m l len : Nat) :
    State.SameBut [.lanes, .out, .page .lane] s (s.injecting m l len) :=
  State.emit_same (State.setLane_same (State.cmdStart_same (State.SameOutside.refl _ s) rfl (pageMask_lane _ rfl)) rfl) rfl

/-- TEST_EXIT as far as its answer. -/
def State.testExited (s : State) (m l : Nat) : State :=
  (((s.cmdStart (pgLane l) 0x13 0 m).testExit l).cmdDone (pgLane l)).emit (.access m 0 0)

theorem State.testExit_command (lane : Fin 24) (h : s.accepts m (pgLane lane) 0x13 0 = true) :
    s.command m (pgLane lane) 0x13 0 = s.testExited m lane := by
  rw [State.laneCommand_eq lane h (by decide) (by decide) (by decide), State.laneCmd_testExit]
  rfl

/-- While TEST_EXIT runs, no INJECT does. -/
theorem State.testExit_noInject (s : State) (m l : Nat) :
    (s.cmdStart (pgLane l) 0x13 0 m).running (pgLane l) 0x12 = false :=
  State.running_of_run (State.cmdStart_run ..) (Nat.succ_ne_self 0x12)

theorem State.testExited_done (s : State) (m l : Nat) :
    (s.testExited m l).Done (pgLane l) 0x13 m ∧ (s.testExited m l).Answers (.access m 0 0) :=
  State.ended_done ((congrArg Hdr.run (State.testExit_run (s.testExit_noInject m l))).trans (State.cmdStart_run ..))

theorem State.testExited_countedTo (s : State) (m l : Nat) : ((s.testExited m l).lane l).countedTo = none := by
  unfold State.testExited
  rw [State.ended_lane, State.testExit_countedTo (s.testExit_noInject m l)]

theorem State.testExited_trains (hon : s.domOn (9 + l / 4) = true)
    (hen : ∀ k ∈ lanesOf (l / 4), s.fbit (pgLane k) LANE.LANE_CFG.ENABLE = true ∧ (pgLane k ≠ pgLane l → s.laneState k = 0))
    (hk : k ∈ lanesOf (l / 4)) : (s.testExited m l).laneState k = 1 := by
  refine State.ended_laneState.trans (State.testExit_trains (s.testExit_noInject m l) ?_ (fun k hk => ⟨?_, fun hp => ?_⟩) hk)
  · rwa [State.cmdStart_domOn]
  · rw [State.cmdStart_fbit]
    exact (hen k hk).1
  · rw [State.cmdStart_laneState]
    exact (hen k hk).2 hp

theorem State.testExited_rests (hk : k ∈ lanesOf (l / 4))
    (hbad : s.fbit (pgLane k) LANE.LANE_CFG.ENABLE = false ∨ pgLane k ≠ pgLane l ∧ s.laneState k = 7) :
    (s.testExited m l).laneState l = 0 := by
  refine State.ended_laneState.trans (State.testExit_rests (s.testExit_noInject m l) hk ?_)
  rwa [State.cmdStart_fbit, State.cmdStart_laneState]

/-- RESET_CEILING as far as its answer. -/
def State.ceilingReset (s : State) (m l : Nat) : State :=
  (((s.cmdStart (pgLane l) 0x14 0 m).resetCeiling (l / 4)).cmdDone (pgLane l)).emit (.access m 0 0)

theorem State.resetCeiling_command (lane : Fin 24) (h : s.accepts m (pgLane lane) 0x14 0 = true) :
    s.command m (pgLane lane) 0x14 0 = s.ceilingReset m lane := by
  rw [State.laneCommand_eq lane h (by decide) (by decide) (by decide), State.laneCmd_resetCeiling]
  rfl

theorem State.ceilingReset_done (s : State) (m l : Nat) :
    (s.ceilingReset m l).Done (pgLane l) 0x14 m ∧ (s.ceilingReset m l).Answers (.access m 0 0) := by
  refine State.ended_done (arg := 0) ?_
  unfold State.resetCeiling
  rw [State.allLanes_hdr]
  exact State.cmdStart_run ..

theorem State.ceilingReset_ceiling (hk : k ∈ lanesOf (l / 4)) :
    (s.ceilingReset m l).fget (pgLane k) LANE.TRAIN_STAT.CEILING = 3 := by
  unfold State.ceilingReset
  rw [State.ended_fget]
  exact State.allLanes_fget (by decide) (by decide) hk

theorem State.ceilingReset_same (s : State) (m l : Nat) : State.SameBut [.out, .page .lane] s (s.ceilingReset m l) :=
  State.emit_same (State.cmdDone_same (State.resetCeiling_same (State.cmdStart_same (State.SameOutside.refl _ s) rfl
    (pageMask_lane _ rfl)) rfl) rfl (pageMask_lane _ rfl)) rfl

/-- Lanes of one link other than this one have pages of their own. -/
theorem pgLane_ne_of_link (lane : Fin 24) {k : Nat} (hk : k ∈ lanesOf (lane / 4)) (h : k ≠ lane.val) :
    pgLane k ≠ pgLane lane := by
  refine pgLane_ne lane.isLt ?_ h
  simp only [lanesOf, List.mem_cons, List.not_mem_nil, or_false] at hk
  omega

/-- Settles O23: each command starts, does its work and ends, and only INJECT stays running. -/
theorem laneCommandsTakeEffect : Obligations.LaneCommandsTakeEffect := by
  unfold Obligations.LaneCommandsTakeEffect
  refine fun s m lane => ⟨fun h => ?_, fun h => ?_, fun length h => ?_, fun h => ?_, fun h => ?_⟩
  all_goals have hon := State.accepts_powered h
  case refine_1 =>
    obtain ⟨hdone, hanswers⟩ := s.retrained_done m.id lane
    refine ⟨s.retrained m.id lane, ?_, hdone, hanswers, fun l hl => ?_⟩
    · rw [exec_retrain_on hon, State.retrain_command lane h]
    · obtain ⟨hstate, hk, hreason, hdwell⟩ :=
        State.commandedRestart_lanes (s := s.cmdStart (pgLane lane) 0x10 0 m.id) (reason := 12) (by decide) hl
      exact ⟨State.ended_laneState.trans hstate, State.ended_fget.trans hk, State.ended_fget.trans hreason,
        State.ended_fget.trans hdwell⟩
  case refine_2 =>
    obtain ⟨hdone, hanswers⟩ := s.testEntered_done m.id lane
    refine ⟨s.testEntered m.id lane, ?_, hdone, hanswers, s.testEntered_laneState m.id lane, s.testEntered_rate m.id lane,
      fun k hk hne h7 => State.testEntered_peers hk (pgLane_ne_of_link lane hk hne) h7⟩
    rw [exec_testEnter_on hon, State.testEnter_command lane h]
  case refine_3 =>
    refine ⟨s.injecting m.id lane length.toNat, ?_, s.injecting_runs .., State.emit_answers _ _, s.injecting_lane ..,
      fun _ => s.injecting_word .., s.injecting_same m.id lane length.toNat⟩
    rw [exec_inject_on hon, State.inject_command lane h length.isLt]
  case refine_4 =>
    obtain ⟨hdone, hanswers⟩ := s.testExited_done m.id lane
    refine ⟨s.testExited m.id lane, ?_, hdone, hanswers, s.testExited_countedTo m.id lane, fun ⟨hdom, hen⟩ k hk => ?_,
      fun ⟨k, hk, hbad⟩ => ?_⟩
    · rw [exec_testExit_on hon, State.testExit_command lane h]
    · exact State.testExited_trains hdom (fun k hk => ⟨(hen k hk).1, fun hp => (hen k hk).2 fun e => hp (congrArg pgLane e)⟩) hk
    · exact State.testExited_rests hk (hbad.imp_right fun ⟨hne, h7⟩ => ⟨pgLane_ne_of_link lane hk hne, h7⟩)
  case refine_5 =>
    obtain ⟨hdone, hanswers⟩ := s.ceilingReset_done m.id lane
    refine ⟨s.ceilingReset m.id lane, ?_, hdone, hanswers, fun k hk => State.ceilingReset_ceiling hk,
      s.ceilingReset_same m.id lane⟩
    rw [exec_resetCeiling_on hon, State.resetCeiling_command lane h]

end Sys2Proof.Machine
end

section
/-! PROOFS. The checkers of a lane: sentinel slots, the PRBS of a lane test, a burst that has left (R91 to R95). -/

namespace Sys2Proof.Machine

variable {s : State} {p l n v errs len : Nat} {f g : Fld}

/-! ### The sentinel checker (R91) -/

theorem State.sentinelRx_none (hl : 16 ≤ l ∧ l ≤ 19) (hst : s.laneState l = 6) (h : (s.lane l).sentinel = none) :
    s.sentinelRx l v =
      (s.setLane l { s.lane l with sentinel := some (prbsSeed v) }).fset (pgLane l) LANE.SENT_STAT.SYNC 1 := by
  unfold State.sentinelRx
  simp only
  rw [if_neg (by omega), h]

/-- More than 64 bits that differ are a loss of synchronisation. -/
theorem State.sentinelRx_loss (hl : 16 ≤ l ∧ l ≤ 19) (hst : s.laneState l = 6) (h : (s.lane l).sentinel = some n)
    (herrs : 64 < (prbsCompare n v 256).1) : s.sentinelRx l v =
      ((s.setLane l { s.lane l with sentinel := some (prbsSeed v) }).finc (pgLane l) LANE.SENT_STAT.SYNC_LOSS).evt
        (pgLane l) 14 := by
  unfold State.sentinelRx
  simp only
  rw [if_neg (by omega), h]
  exact if_pos herrs

theorem State.sentinelRx_count (hl : 16 ≤ l ∧ l ≤ 19) (hst : s.laneState l = 6) (h : (s.lane l).sentinel = some n)
    (herrs : (prbsCompare n v 256).1 ≤ 64) : s.sentinelRx l v =
      ((s.setLane l { s.lane l with sentinel := some (prbsCompare n v 256).2 }).fadd (pgLane l) LANE.SENT_ERR.COUNT
        (prbsCompare n v 256).1).fadd64 (pgLane l) LANE.SENT_BITS_LO.COUNT LANE.SENT_BITS_HI.COUNT 256 := by
  unfold State.sentinelRx
  simp only
  rw [if_neg (by omega), h]
  exact if_neg (Nat.not_lt.mpr herrs)

@[simp] theorem State.fadd_lane (s : State) : (s.fadd p f n).lane l = s.lane l := State.fset_lane s

@[simp] theorem State.finc_lane (s : State) : (s.finc p f).lane l = s.lane l := State.fset_lane s

@[simp] theorem State.fadd64_lane (s : State) : (s.fadd64 p f g n).lane l = s.lane l := by
  unfold State.fadd64 State.fset64
  rw [State.fset_lane, State.fset_lane]

/-! ### The PRBS checker (R92) -/

theorem State.prbsLock_eq (hst : s.laneState l = 7) (hchk : s.fbit (pgLane l) LANE.PRBS_CTL.CHK_EN = true)
    (hlock : s.fbit (pgLane l) LANE.PRBS_STAT.LOCK = false) : s.prbsLock l =
      (s.setLane l { s.lane l with countedTo := some s.mono }).fset (pgLane l) LANE.PRBS_STAT.LOCK 1 := by
  unfold State.prbsLock
  rw [if_pos (by rw [hst, hchk, hlock]; rfl)]

theorem State.prbsLoss_eq (h : s.fbit (pgLane l) LANE.PRBS_STAT.LOCK = true) : s.prbsLoss l errs =
    (((s.prbsStop l).fadd (pgLane l) LANE.PRBS_ERR.COUNT errs).finc (pgLane l) LANE.PRBS_STAT.LOCK_LOSS).evt (pgLane l) 13 :=
  if_pos h

theorem State.prbsLoss_countedTo (h : s.fbit (pgLane l) LANE.PRBS_STAT.LOCK = true) :
    ((s.prbsLoss l errs).lane l).countedTo = none := by
  rw [State.prbsLoss_eq h, State.evt_lane, State.finc_lane, State.fadd_lane, State.prbsStop_countedTo]

theorem State.prbsLoss_lock (h : s.fbit (pgLane l) LANE.PRBS_STAT.LOCK = true) :
    (s.prbsLoss l errs).fbit (pgLane l) LANE.PRBS_STAT.LOCK = false := by
  unfold State.fbit
  rw [State.prbsLoss_eq h, State.evt_fget, State.finc_fget_apart (by decide), State.fadd_fget_apart (by decide),
    State.prbsStop_lock]
  rfl

theorem State.prbsLoss_counts (h : s.fbit (pgLane l) LANE.PRBS_STAT.LOCK = true) :
    (s.prbsLoss l errs).fget (pgLane l) LANE.PRBS_STAT.LOCK_LOSS =
      min (s.fget (pgLane l) LANE.PRBS_STAT.LOCK_LOSS + 1) 65535 ∧
    (s.prbsLoss l errs).fget (pgLane l) LANE.PRBS_ERR.COUNT =
      min (s.fget (pgLane l) LANE.PRBS_ERR.COUNT + errs) (2 ^ 32 - 1) := by
  rw [State.prbsLoss_eq h, State.evt_fget, State.evt_fget]
  refine ⟨?_, ?_⟩
  · rw [State.finc_fget (by decide), State.fadd_fget_apart (by decide), State.prbsStop_fget (by decide)]
    rfl
  · rw [State.finc_fget_apart (by decide), State.fadd_fget (by decide), State.prbsStop_fget (by decide)]
    rfl

/-! ### A burst of inverted bits has left (R94, R95) -/

/-- The burst is gone, and a locked checker has counted it. -/
def State.burstLeft (s : State) (l len errs : Nat) : State :=
  let u := s.setLane l { s.lane l with inject := none }
  if u.fbit (pgLane l) LANE.PRBS_STAT.LOCK then
    u.fadd (pgLane l) LANE.PRBS_ERR.COUNT
      (if s.fget (pgLane l) LANE.PRBS_CTL.LOOPBACK = 1 || s.fget (pgLane l) LANE.PRBS_CTL.LOOPBACK = 2 then len else errs)
  else u

theorem State.injectDone_eq (h : (s.lane l).inject = some len) : s.injectDone l errs =
    if (s.burstLeft l len errs).running (pgLane l) 0x12 then (s.burstLeft l len errs).cmdDone (pgLane l)
    else s.burstLeft l len errs := by
  unfold State.injectDone
  rw [h]
  rfl

theorem State.burstLeft_lane (s : State) (l len errs : Nat) :
    (s.burstLeft l len errs).lane l = { s.lane l with inject := none } := by
  unfold State.burstLeft
  simp only
  split
  · rw [State.fadd_lane, State.setLane_lane_self]
  · rw [State.setLane_lane_self]

theorem State.burstLeft_hdr (s : State) (l len errs : Nat) : (s.burstLeft l len errs).hdr p = s.hdr p := by
  unfold State.burstLeft
  simp only
  split
  · rw [State.fadd_hdr, State.setLane_hdr]
  · rw [State.setLane_hdr]

theorem State.injectDone_lane (h : (s.lane l).inject = some len) :
    (s.injectDone l errs).lane l = { s.lane l with inject := none } := by
  rw [State.injectDone_eq h]
  split
  · unfold State.lane
    rw [State.cmdDone_lanes]
    exact s.burstLeft_lane l len errs
  · exact s.burstLeft_lane l len errs

/-- INJECT ends with its burst. -/
theorem State.injectDone_done {arg i : Nat} (h : (s.lane l).inject = some len)
    (hrun : (s.hdr (pgLane l)).run = some ⟨0x12, arg, i⟩) : (s.injectDone l errs).Done (pgLane l) 0x12 i := by
  have hleft : ((s.burstLeft l len errs).hdr (pgLane l)).run = some ⟨0x12, arg, i⟩ := by rw [State.burstLeft_hdr, hrun]
  have hruns : (s.burstLeft l len errs).running (pgLane l) 0x12 = true := by
    unfold State.running
    rw [hleft]
    rfl
  rw [State.injectDone_eq h, if_pos hruns]
  exact State.cmdDone_done _ _ hleft

/-! ### Commands on a powered device -/

theorem exec_sentinelCellRx_on (h : s.boot.powered = true) (lane : Fin 24) (payload : BitVec 256) :
    exec (.sentinelCellRx lane payload) s = .next (s.sentinelRx lane payload.toNat).settle :=
  congrArg Host.Outcome.next (State.live_on h _)

theorem exec_prbsLock_on (h : s.boot.powered = true) (lane : Fin 24) : exec (.prbsLock lane) s = .next (s.prbsLock lane) :=
  congrArg Host.Outcome.next (State.live_on h _)

theorem exec_prbsLockLoss_on (h : s.boot.powered = true) (lane : Fin 24) (errs : Nat) :
    exec (.prbsLockLoss lane errs) s = .next (s.prbsLoss lane errs) :=
  congrArg Host.Outcome.next (State.live_on h _)

theorem exec_injectDone_on (h : s.boot.powered = true) (lane : Fin 24) (errs : Nat) :
    exec (.injectDone lane errs) s = .next (s.injectDone lane errs) :=
  congrArg Host.Outcome.next (State.live_on h _)

/-- Settles O24: each checker compares, counts and falls back as its own function does. -/
theorem checkersCount : Obligations.CheckersCount := by
  unfold Obligations.CheckersCount
  refine fun s lane hon => ⟨fun payload hlo hhi hst => ?_, fun hst hchk hlock => ?_, fun errs hlock => ?_,
    fun errs len hinject => ?_⟩
  case refine_1 =>
    refine ⟨_, exec_sentinelCellRx_on hon lane payload, fun hnone => ?_, fun n hsome => ⟨fun herrs => ?_, fun herrs => ?_⟩,
      State.sentinelRx_same (State.SameOutside.refl _ s) rfl⟩
    · rw [State.sentinelRx_none ⟨hlo, hhi⟩ hst hnone, State.fset_fget (by decide) (by decide), State.fset_lane,
        State.setLane_lane_self]
      exact ⟨rfl, rfl⟩
    · rw [State.sentinelRx_loss ⟨hlo, hhi⟩ hst hsome herrs, State.evt_lane, State.finc_lane, State.setLane_lane_self,
        State.evt_fget, State.finc_fget (by decide), State.setLane_fget]
      exact ⟨State.evt_set _ _ _ (by decide), rfl, rfl⟩
    · rw [State.sentinelRx_count ⟨hlo, hhi⟩ hst hsome herrs, State.fadd64_lane, State.fadd_lane, State.setLane_lane_self,
        State.fadd64_fget_apart (by decide) (by decide), State.fadd_fget (by decide), State.setLane_fget]
      exact ⟨rfl, rfl⟩
  case refine_2 =>
    refine ⟨_, exec_prbsLock_on hon lane, ?_, ?_, State.prbsLock_same (State.SameOutside.refl _ s) rfl⟩
    · rw [State.prbsLock_eq hst hchk hlock]
      unfold State.fbit
      rw [State.fset_fget (by decide) (by decide)]
      rfl
    · rw [State.prbsLock_eq hst hchk hlock, State.fset_lane, State.setLane_lane_self]
  case refine_3 =>
    obtain ⟨hloss, herrs⟩ := State.prbsLoss_counts (errs := errs) hlock
    refine ⟨_, exec_prbsLockLoss_on hon lane errs, State.prbsLoss_lock hlock, State.prbsLoss_countedTo hlock, hloss, herrs,
      ?_, State.prbsLoss_same (State.SameOutside.refl _ s) rfl⟩
    rw [State.prbsLoss_eq hlock]
    exact State.evt_set _ _ _ (by decide)
  case refine_4 =>
    exact ⟨_, exec_injectDone_on hon lane errs, State.injectDone_lane hinject,
      fun arg i hrun => State.injectDone_done hinject hrun, State.injectDone_same (State.SameOutside.refl _ s) rfl⟩

end Sys2Proof.Machine
end

section
/-! PROOFS. CONTROL requests for this device: stale, repeated and new ones (R116 to R119). -/

namespace Sys2Proof.Machine

variable {s u : State} {n : Nat} {cells : List Nat} {vs : List CellView} {q : Request} {e : Replay}

/-! ### Links as parts of the state -/

@[simp] theorem State.setLink_link_self (s : State) (n : Nat) (l : LinkSt) : (s.setLink n l).link n = l :=
  SMap.read_write_self ..

@[simp] theorem State.setLink_mono (s : State) (n : Nat) (l : LinkSt) : (s.setLink n l).mono = s.mono := rfl

/-! ### A request that reaches its device (R117, R121, R127) -/

theorem State.foldl_emit {α : Type} (f : α → Out) (l : List α) (s : State) :
    l.foldl (fun t a => t.emit (f a)) s = { s with out := s.out ++ l.map f } := by
  induction l generalizing s with
  | nil => rw [List.map_nil, List.append_nil]; rfl
  | cons a r ih =>
    rw [List.foldl_cons, ih, List.map_cons]
    simp only [State.emit, List.append_assoc, List.cons_append, List.nil_append]

/-- A message goes out as received, cell by cell, on one link after the other. -/
theorem State.foldl_forward (cells ds : List Nat) (s : State) :
    ds.foldl (fun t d => cells.foldl (fun t c => t.emit (.cell d c)) t) s =
      { s with out := s.out ++ ds.flatMap fun d => cells.map (Out.cell d) } := by
  induction ds generalizing s with
  | nil => rw [List.flatMap_nil, List.append_nil]; rfl
  | cons d r ih =>
    rw [List.foldl_cons, State.foldl_emit, ih, List.flatMap_cons]
    simp only [List.append_assoc]

/-- What is addressed to this device is routed. -/
theorem State.unrouted_self (s : State) (n : Nat) : s.unrouted n s.deviceId s.deviceId = s := by
  simp [State.unrouted]

/-- A request for this device is taken once its cells are counted and forwarded. -/
theorem State.ctlRx_requested (h : s.Requested n cells u vs q) : s.ctlRx n cells = u.ctlTake n q vs := by
  obtain ⟨hup, hcells, hn, w, hcheck, htype, hctl, hdev, hu, hmac, hreq⟩ := h
  have hfwd : (((w.routes n (ctlDev cells) (ctlDev cells)).filter w.ctlOk).foldl
      (fun t d => cells.foldl (fun t c => t.emit (.cell d c)) t) w).unrouted n (ctlDev cells) (ctlDev cells) = u := by
    rw [State.foldl_forward, ← hu, hdev, show w.deviceId = u.deviceId by rw [hu]; rfl, State.unrouted_self]
  have hhere : ctlDev cells = u.deviceId := by rw [hdev, hu]; rfl
  have hkey : u.noKey n = w.noKey n := by rw [hu]; rfl
  have htypes : vs.any (fun v => v.type ≠ 2) = false := by simpa using htype
  have hlink : (n = 0 || n = 1 || n = 5 : Bool) = true := by simpa [or_assoc] using hn
  have hauth : (!u.noKey n && !vs.all u.safetyMacOk) = false := by
    rw [hkey]
    rcases hmac with hmac | hmac <;> rw [hmac]
    · rfl
    · exact Bool.and_false _
  unfold State.ctlRx
  rw [if_neg (by simp [hup, hcells])]
  simp only [hcheck, htypes, hlink, hctl, hfwd, hauth, hreq, ← hhere, Bool.not_true, Bool.or_self, Bool.false_eq_true,
    ne_eq, not_true_eq_false, if_false]

theorem exec_ctlRead_on (h : s.boot.powered = true) (link : Fin 6) (cells : List (BitVec 288)) :
    exec (.ctlRead link cells) s = .next (s.ctlRx link (cells.map BitVec.toNat)).settle :=
  congrArg Host.Outcome.next (State.live_on h _)

theorem exec_ctlWrite_on (h : s.boot.powered = true) (link : Fin 6) (cells : List (BitVec 288)) :
    exec (.ctlWrite link cells) s = .next (s.ctlRx link (cells.map BitVec.toNat)).settle :=
  congrArg Host.Outcome.next (State.live_on h _)

/-! ### Stale requests and repetitions (R117, R119) -/

/-- The entries of the replay cache that have not lived their time. -/
def State.liveReplay (s : State) (n : Nat) : List Replay :=
  (s.link n).replay.filter fun e => s.mono < e.at_ + s.replayLife n

/-- The entry of the cache for a request, if it is a repetition. -/
def State.repeats (s : State) (n : Nat) (q : Request) : Option Replay :=
  (s.liveReplay n).find? fun e => e.txn = q.txn && e.reqTime = q.reqTime

/-- A link without the entries that have lived their time. -/
def State.pruneReplay (s : State) (n : Nat) : State := s.setLink n { s.link n with replay := s.liveReplay n }

theorem State.pruneReplay_link (s : State) (n : Nat) :
    (s.pruneReplay n).link n = { s.link n with replay := s.liveReplay n } := State.setLink_link_self ..

theorem State.ctlTake_stale (h : u.ctlTimely n q.reqTime = false) (hop : q.op ≠ 2) : u.ctlTake n q vs =
    (u.finc (pgLink n) LINK.CTL_STAT.STALE).emit (.response n q.txn q.op (List.replicate q.count (0, 9))) := by
  unfold State.ctlTake
  rw [if_pos (by simp [h]), if_neg hop]

theorem State.ctlTake_repeated (h : u.ctlTimely n q.reqTime = true) (hf : u.repeats n q = some e) (he : e.resp ≠ []) :
    u.ctlTake n q vs = ((u.pruneReplay n).finc (pgLink n) LINK.CTL_STAT.REPLAY).emit (.response n e.txn e.op e.resp) := by
  unfold State.repeats State.liveReplay at hf
  unfold State.ctlTake
  rw [if_neg (by simp [h])]
  simp only [hf]
  rw [if_neg (by simpa using he)]
  rfl

theorem State.ctlTake_new (h : u.ctlTimely n q.reqTime = true) (hf : u.repeats n q = none) :
    u.ctlTake n q vs = (u.pruneReplay n).ctlAccept n q vs := by
  unfold State.repeats State.liveReplay at hf
  unfold State.ctlTake
  rw [if_neg (by simp [h])]
  simp only [hf]
  rfl

/-! ### New requests (R118, R119) -/

/-- The replay cache with a request that begins: 32 entries at most, and one for each TXN. -/
def State.cacheWith (s : State) (n : Nat) (q : Request) : List Replay :=
  let kept := (s.link n).replay.filter fun e => e.txn ≠ q.txn
  kept.drop (kept.length - 31) ++ [⟨q.txn, q.reqTime, q.op, [], s.mono⟩]

theorem State.cacheWith_length_le (s : State) (n : Nat) (q : Request) : (s.cacheWith n q).length ≤ 32 := by
  simp only [State.cacheWith, List.length_append, List.length_drop, List.length_cons, List.length_nil]
  omega

theorem State.cacheWith_mem (s : State) (n : Nat) (q : Request) :
    ∃ e ∈ s.cacheWith n q, e.txn = q.txn ∧ e.reqTime = q.reqTime :=
  ⟨⟨q.txn, q.reqTime, q.op, [], s.mono⟩, List.mem_append_right _ (List.mem_singleton_self _), rfl, rfl⟩

/-- A link that has entered a request in its replay cache. -/
def State.cacheRequest (s : State) (n : Nat) (q : Request) : State :=
  s.setLink n { s.link n with replay := s.cacheWith n q }

/-- The entries of a READ or WRITE request, as address and data. -/
def Request.entries (q : Request) (vs : List CellView) : List (Nat × Nat) :=
  ((ctlUnits vs 64).take q.count).map fun e => (e % 2 ^ 32, e / 2 ^ 32)

theorem Request.entries_length_le (q : Request) (vs : List CellView) : (q.entries vs).length ≤ q.count := by
  unfold Request.entries
  rw [List.length_map]
  exact List.length_take_le ..

/-- A link with one more request in execution. -/
def State.queueRun (s : State) (n : Nat) (r : CtlRun) : State :=
  s.setLink n { s.link n with ctl := (s.link n).ctl ++ [r] }

theorem State.queueRun_link (s : State) (n : Nat) (r : CtlRun) :
    (s.queueRun n r).link n = { s.link n with ctl := (s.link n).ctl ++ [r] } := State.setLink_link_self ..

/-- A link whose replay cache has lost what has lived its time and holds a new request. -/
def State.requestCached (u : State) (n : Nat) (q : Request) : State := (u.pruneReplay n).cacheRequest n q

theorem State.requestCached_link (u : State) (n : Nat) (q : Request) :
    (u.requestCached n q).link n = { u.link n with replay := (u.pruneReplay n).cacheWith n q } := by
  unfold State.requestCached State.cacheRequest
  rw [State.setLink_link_self, State.pruneReplay_link]

theorem State.requestCached_same (u : State) (n : Nat) (q : Request) : State.SameBut [.links] u (u.requestCached n q) :=
  State.setLink_same (State.setLink_same (State.SameOutside.refl _ u) rfl) rfl

/-- A READ or WRITE request as it begins. -/
def Request.begun (q : Request) (vs : List CellView) : CtlRun := ⟨q.txn, q.reqTime, q.op, q.stop, q.entries vs, []⟩

theorem State.ctlAccept_entries (hop : q.op ≠ 2) :
    s.ctlAccept n q vs = ((s.cacheRequest n q).queueRun n (q.begun vs)).ctlRun n :=
  congrArg (State.ctlRun · n) (if_neg hop)

/-- Settles O26: a request for this device comes to `ctlTake`, which judges its time and then the replay cache. -/
theorem controlRequestsAreTakenOnce : Obligations.ControlRequestsAreTakenOnce := by
  unfold Obligations.ControlRequestsAreTakenOnce
  intro s u link cells vs q c hon hreq hc
  have hop : q.op ≠ 2 := by rcases hc with ⟨h, -⟩ | ⟨h, -⟩ <;> omega
  have hexec : exec c s = .next (u.ctlTake link q vs).settle := by
    rcases hc with ⟨-, rfl⟩ | ⟨-, rfl⟩
    · rw [exec_ctlRead_on hon, State.ctlRx_requested hreq]
    · rw [exec_ctlWrite_on hon, State.ctlRx_requested hreq]
  refine ⟨fun hstale => ?_, fun htimely => ⟨fun e hfound hresp => ?_, fun hnew => ?_⟩⟩
  case refine_1 => rw [hexec, State.ctlTake_stale hstale hop]
  case refine_2 =>
    refine ⟨_, hexec, ?_, ?_⟩ <;> rw [State.ctlTake_repeated htimely hfound hresp]
    · exact State.emit_answers _ _
    · exact State.emit_same (State.finc_same (State.setLink_same (State.SameOutside.refl _ u) rfl) rfl
        (pageMask_link _ rfl)) rfl
  case refine_3 =>
    refine ⟨(u.requestCached link q).queueRun link (q.begun vs), ?_, ?_, ?_, ?_,
      State.setLink_same (u.requestCached_same link q) rfl⟩
    · rw [hexec, State.ctlTake_new htimely hnew, State.ctlAccept_entries hop]
      rfl
    all_goals rw [State.queueRun_link, State.requestCached_link]
    · exact ⟨_, rfl, rfl, rfl, rfl, q.entries_length_le vs⟩
    · exact State.cacheWith_mem _ _ q
    · exact State.cacheWith_length_le _ _ q

end Sys2Proof.Machine
end

section
/-! PROOFS. MAILBOX requests, the life of a replay entry, and what a child sends upward (R117 to R119, R125). -/

namespace Sys2Proof.Machine

variable {s u : State} {n : Nat} {cells words : List Nat} {v : CellView} {vs : List CellView} {q : Request} {e : Replay}
  {r : List Replay}

/-! ### MAILBOX requests (R118) -/

theorem exec_ctlMailbox_on (h : s.boot.powered = true) (link : Fin 6) (cells : List (BitVec 288)) :
    exec (.ctlMailbox link cells) s = .next (s.ctlRx link (cells.map BitVec.toNat)) :=
  congrArg Host.Outcome.next (State.live_on h _)

/-- A request whose TXN the replay cache does not hold repeats none. -/
theorem State.repeats_none (h : ∀ e ∈ (u.link n).replay, e.txn ≠ q.txn) : u.repeats n q = none := by
  refine List.find?_eq_none.mpr fun e he => ?_
  have hne : e.txn ≠ q.txn := h e (List.mem_of_mem_filter he)
  simp [hne]

theorem State.ctlAccept_mailbox (hop : q.op = 2) : s.ctlAccept n q vs =
    ((s.cacheRequest n q).ctlMailbox n q ((ctlUnits vs 32).take q.count)).ctlRun n :=
  congrArg (State.ctlRun · n) (if_pos hop)

/-- A MAILBOX request that has ended with a status and waits for its response. -/
def Request.answered (q : Request) (st : Nat) : CtlRun := ⟨q.txn, q.reqTime, 2, false, [], [(0, st)]⟩

theorem State.ctlMailbox_full (hon : s.domOn (domainOf (pgReel 0)) = true) (hfull : s.reelSpace 0 < words.length + 1) :
    s.ctlMailbox n q words = s.queueRun n (q.answered 8) := by
  unfold State.ctlMailbox
  simp only [hon, hfull, Bool.not_true, Bool.false_eq_true, decide_true, if_true, if_false]
  rfl

theorem State.ctlMailbox_fits (hon : s.domOn (domainOf (pgReel 0)) = true) (hfits : words.length + 1 ≤ s.reelSpace 0) :
    s.ctlMailbox n q words = (s.reelPacket 0 words).queueRun n (q.answered 0) := by
  unfold State.ctlMailbox
  simp only [hon, Nat.not_lt.mpr hfits, Bool.not_true, Bool.false_eq_true, decide_false, if_true, if_false]
  rfl

theorem State.requestCached_fget (u : State) (n p : Nat) (q : Request) (f : Fld) :
    (u.requestCached n q).fget p f = u.fget p f := State.fget_of_pages rfl p f

theorem State.requestCached_domOn (u : State) (n d : Nat) (q : Request) : (u.requestCached n q).domOn d = u.domOn d := by
  unfold State.domOn
  rw [State.requestCached_fget, State.requestCached_fget]

theorem State.requestCached_reelSpace (u : State) (n k : Nat) (q : Request) :
    (u.requestCached n q).reelSpace k = u.reelSpace k := by
  unfold State.reelSpace State.reelSize
  rw [State.requestCached_fget]
  rfl

/-! ### The life of a replay entry (R119) -/

theorem exec_replayEntryExpiry_on (h : s.boot.powered = true) (link : Fin 6) :
    exec (.replayEntryExpiry link) s = .next (s.replayExpiry link) :=
  congrArg Host.Outcome.next (State.live_on h _)

theorem State.replayExpiry_nil (h : (s.link n).replay = []) : s.replayExpiry n = s := by
  unfold State.replayExpiry
  rw [h]

theorem State.advanceTo_link (s : State) (i n : Nat) : (s.advanceTo i).link n = s.link n := by
  unfold State.advanceTo
  split <;> rfl

theorem State.replayExpiry_cons (h : (s.link n).replay = e :: r) :
    s.replayExpiry n = (s.advanceTo (e.at_ + s.replayLife n)).setLink n { s.link n with replay := r } := by
  unfold State.replayExpiry
  rw [h]
  simp only [State.advanceTo_link]

theorem State.replayExpiry_link (h : (s.link n).replay = e :: r) :
    (s.replayExpiry n).link n = { s.link n with replay := r } := by
  rw [State.replayExpiry_cons h, State.setLink_link_self]

theorem State.replayExpiry_mono (h : (s.link n).replay = e :: r) :
    (s.replayExpiry n).mono = max s.mono (e.at_ + 2 * s.fget (pgLink n) LINK.CTL_WINDOW.MS * 1000000) := by
  rw [State.replayExpiry_cons h, State.setLink_mono, State.advanceTo_mono, State.replayLife]

/-! ### Upward messages (R101, R125) -/

theorem exec_upwardMessageRx_on (h : s.boot.powered = true) (link : Fin 6) (cells : List (BitVec 288)) :
    exec (.upwardMessageRx link cells) s = .next (s.upwardRx link (cells.map BitVec.toNat)) :=
  congrArg Host.Outcome.next (State.live_on h _)

/-- The cells of a message as they go on upward: coded afresh. -/
def recoded (vs : List CellView) : List Nat := vs.map fun v => bchEncode v.body v.tag

section UpwardMessage

variable (hup : s.linkState n ≠ 0) (hcells : cells ≠ []) (hcheck : s.checkCells n cells = (v :: vs, true, u))

include hup hcells hcheck

/-- A message whose cells can all be used is judged by its link and by its first cell. -/
theorem State.upwardRx_checked : s.upwardRx n cells =
    if !(n = 2 || n = 3) || (v.type ≠ 2 && v.type ≠ 3) || (v.type = 2 && !bit v.body 28) then u.wrongType n
    else if v.type = 3 then (if u.linkState n = 2 then u.pushUpward n 0 (recoded (v :: vs)) else u)
    else if u.ctlOk n then u.pushUpward n 2 (recoded (v :: vs)) else u := by
  unfold State.upwardRx
  rw [if_neg (by simp [hup, hcells]), hcheck]
  rfl

theorem State.upwardRx_safety (hn : n = 2 ∨ n = 3) (ht : v.type = 3) (hlink : u.linkState n = 2) :
    s.upwardRx n cells = u.pushUpward n 0 (recoded (v :: vs)) := by
  rw [State.upwardRx_checked hup hcells hcheck, if_neg (by simpa [ht, ← or_iff_not_imp_left] using hn), if_pos ht,
    if_pos hlink]

theorem State.upwardRx_control (hn : n = 2 ∨ n = 3) (ht : v.type = 2) (hanswer : bit v.body 28 = true)
    (hlink : u.ctlOk n = true) : s.upwardRx n cells = u.pushUpward n 2 (recoded (v :: vs)) := by
  rw [State.upwardRx_checked hup hcells hcheck, if_neg (by simpa [ht, hanswer, ← or_iff_not_imp_left] using hn),
    if_neg (by omega), if_pos hlink]

theorem State.upwardRx_wrongType
    (hbad : n ≠ 2 ∧ n ≠ 3 ∨ v.type ≠ 2 ∧ v.type ≠ 3 ∨ v.type = 2 ∧ bit v.body 28 = false) :
    s.upwardRx n cells = u.wrongType n := by
  rw [State.upwardRx_checked hup hcells hcheck, if_pos (by simpa [or_assoc] using hbad)]

end UpwardMessage

/-! ### The statement -/

/-- Settles O27: a MAILBOX request ends with its status at once, the oldest entry of a replay cache leaves at its instant, and
an upward message is judged by its link and its first cell. -/
theorem mailboxAndUpwardTraffic : Obligations.MailboxAndUpwardTraffic := by
  unfold Obligations.MailboxAndUpwardTraffic
  refine ⟨fun s u link cells vs q hon hreq hop htimely hfresh hdom => ?_, fun s link hon => ⟨fun hnil => ?_, fun e r hcons => ?_⟩,
    fun s u link cells v vs hon hup hcells hcheck => ?_⟩
  case refine_1 =>
    rw [← State.requestCached_domOn u link _ q] at hdom
    rw [← State.requestCached_reelSpace u link 0 q]
    refine ⟨(u.requestCached link q).ctlMailbox link q ((ctlUnits vs 32).take q.count), ?_, fun hfull => ?_, fun hfits => ?_⟩
    · rw [exec_ctlMailbox_on hon, State.ctlRx_requested hreq, State.ctlTake_new htimely (State.repeats_none hfresh),
        State.ctlAccept_mailbox hop]
      rfl
    · rw [State.ctlMailbox_full hdom hfull]
      refine ⟨?_, rfl, rfl⟩
      rw [State.queueRun_link, State.requestCached_link]
      rfl
    · rw [State.ctlMailbox_fits hdom hfits]
      exact ⟨u.requestCached link q, u.requestCached_same link q, rfl, rfl⟩
  case refine_2 => rw [exec_replayEntryExpiry_on hon, State.replayExpiry_nil hnil]
  case refine_3 =>
    exact ⟨_, exec_replayEntryExpiry_on hon link, State.replayExpiry_link hcons, State.replayExpiry_mono hcons,
      State.replayExpiry_same (State.SameOutside.refl _ s) rfl⟩
  case refine_4 =>
    have hne : cells.map BitVec.toNat ≠ [] := mt List.map_eq_nil_iff.mp hcells
    refine ⟨fun hn ht hlink => ?_, fun hn ht hanswer hlink => ?_, fun hbad => ?_⟩ <;>
      rw [exec_upwardMessageRx_on hon]
    · rw [State.upwardRx_safety hup hne hcheck hn ht hlink]
      rfl
    · rw [State.upwardRx_control hup hne hcheck hn ht hanswer hlink]
      rfl
    · rw [State.upwardRx_wrongType hup hne hcheck hbad]
      rfl

end Sys2Proof.Machine
end

section
/-! PROOFS. Commands of a link page: the upstream asked for, the installation key loaded and erased; the instant of a revert (R126,
R129, R133). -/

namespace Sys2Proof.Machine

variable {s : State} {p n i m op : Nat} {g : Fld}

/-! ### Commands of a link page -/

theorem pgLink_ne_pgReel (n q : Nat) : pgLink n ≠ pgReel q := by
  unfold pgLink pgReel
  omega

/-- A link command that its page takes runs. -/
theorem State.linkCommand_eq (link : Fin 6) (h : s.accepts m (pgLink link) op 0 = true) (hop : 0x10 ≤ op) (ho : op < 256) :
    s.command m (pgLink link) op 0 = ((s.cmdStart (pgLink link) op 0 m).linkCmd link op).emit (.access m 0 0) := by
  rw [State.command_eq h ho (by decide) (.inr fun q _ => pgLink_ne_pgReel link q)]
  unfold State.cmdRun
  rw [if_neg (by omega), if_neg (by omega), if_neg (by omega), pageOf_link, Nat.mod_eq_of_lt link.isLt]

theorem exec_switchUpstream_on (h : s.boot.powered = true) (m : Master) (link : Fin 6) :
    exec (.switchUpstream m link) s = .next (s.command m.id (pgLink link) 0x10 0) :=
  congrArg Host.Outcome.next (State.live_on h _)

theorem exec_keyLoad_on (h : s.boot.powered = true) (m : Master) (link : Fin 6) :
    exec (.keyLoad m link) s = .next (s.command m.id (pgLink link) 0x11 0) :=
  congrArg Host.Outcome.next (State.live_on h _)

theorem exec_keyClear_on (h : s.boot.powered = true) (m : Master) (link : Fin 6) :
    exec (.keyClear m link) s = .next (s.command m.id (pgLink link) 0x12 0) :=
  congrArg Host.Outcome.next (State.live_on h _)

theorem State.ended_transport {x : Out} : ((s.cmdDone p).emit x).transport = s.transport := by
  rw [State.emit_transport, State.cmdDone_transport]

/-! ### SWITCH_UPSTREAM (R126) -/

/-- A switch of cause COMMAND is asked for. -/
def State.switchAsked (s : State) : State := { s with transport := { s.transport with commandPending := true } }

theorem State.linkCmd_switch (s : State) (n : Nat) : s.linkCmd n 0x10 = s.switchAsked.cmdDone (pgLink n) := by
  simp only [State.linkCmd, if_true]
  rfl

/-- SWITCH_UPSTREAM as far as its answer. -/
def State.upstreamSwitched (s : State) (m n : Nat) : State :=
  ((s.cmdStart (pgLink n) 0x10 0 m).switchAsked.cmdDone (pgLink n)).emit (.access m 0 0)

theorem State.switchUpstream_command (link : Fin 6) (h : s.accepts m (pgLink link) 0x10 0 = true) :
    s.command m (pgLink link) 0x10 0 = s.upstreamSwitched m link := by
  rw [State.linkCommand_eq link h (by decide) (by decide), State.linkCmd_switch]
  rfl

theorem State.upstreamSwitched_done (s : State) (m n : Nat) :
    (s.upstreamSwitched m n).Done (pgLink n) 0x10 m ∧ (s.upstreamSwitched m n).Answers (.access m 0 0) :=
  State.ended_done (State.cmdStart_run ..)

theorem State.upstreamSwitched_word (s : State) (m n a : Nat) : (s.upstreamSwitched m n).word a = s.word a := by
  unfold State.upstreamSwitched
  rw [State.emit_word, State.cmdDone_word]
  rfl

theorem State.upstreamSwitched_same (s : State) (m n : Nat) :
    State.SameBut [.transport, .out, .page .link] s (s.upstreamSwitched m n) :=
  State.emit_same (State.cmdDone_same (State.SameOutside.set_transport (State.cmdStart_same (State.SameOutside.refl _ s) rfl
    (pageMask_link _ rfl)) rfl) rfl (pageMask_link _ rfl)) rfl

/-! ### The installation key (R129) -/

/-- Four words side by side. The steps are written out: `simp` leaves a proof in which the kernel counts out the powers. -/
theorem foldl_fourWords (f : Nat → Nat) : (List.range 4).foldl (fun v i => v + f i * 2 ^ (32 * i)) 0 =
    f 0 + f 1 * 2 ^ 32 + f 2 * 2 ^ 64 + f 3 * 2 ^ 96 := by
  rw [show List.range 4 = [0, 1, 2, 3] from rfl, List.foldl_cons, List.foldl_cons, List.foldl_cons, List.foldl_cons,
    List.foldl_nil, Nat.zero_add, Nat.mul_zero, Nat.pow_zero, Nat.mul_one]

/-- The installation key as the registers AUTH_KEY0 to AUTH_KEY3 hold it. -/
def State.keyWords (s : State) : Nat :=
  (List.range 4).foldl (fun v i => v + s.fget (pgLink 0) (LINK.AUTH_KEY.KEY i) * 2 ^ (32 * i)) 0

theorem State.keyWords_eq (s : State) : s.keyWords =
    s.fget (pgLink 0) (LINK.AUTH_KEY.KEY 0) + s.fget (pgLink 0) (LINK.AUTH_KEY.KEY 1) * 2 ^ 32 +
      s.fget (pgLink 0) (LINK.AUTH_KEY.KEY 2) * 2 ^ 64 + s.fget (pgLink 0) (LINK.AUTH_KEY.KEY 3) * 2 ^ 96 :=
  foldl_fourWords fun i => s.fget (pgLink 0) (LINK.AUTH_KEY.KEY i)

/-- The registers AUTH_KEY0 to AUTH_KEY3 are zeroed. -/
def State.zeroKeyWords (s : State) : State :=
  (List.range 4).foldl (fun s i => s.fset (pgLink 0) (LINK.AUTH_KEY.KEY i) 0) s

/-- The device holds a key, or none, and shows it. -/
def State.withKey (s : State) (k : Option Nat) : State := { s with transport := { s.transport with key := k } }.showKey

/-- KEY_LOAD takes the key and zeroes its registers. -/
theorem State.keyLoad_eq (s : State) : s.keyLoad = s.zeroKeyWords.withKey (some s.keyWords) := rfl

theorem State.keyClear_eq (s : State) : s.keyClear = s.withKey none := rfl

/-- KEY_STAT lies beside a field. -/
abbrev Fld.BesideKeyStat (g : Fld) : Prop := LINK.KEY_STAT.PRESENT.Apart g ∧ LINK.KEY_STAT.KCV.Apart g

theorem State.withKey_transport (s : State) (k : Option Nat) : (s.withKey k).transport = { s.transport with key := k } := by
  cases k <;> rfl

theorem State.withKey_hdr (s : State) (k : Option Nat) : (s.withKey k).hdr p = s.hdr p := by cases k <;> rfl

theorem State.withKey_fget_apart {k : Option Nat} (h : g.BesideKeyStat) : (s.withKey k).fget p g = s.fget p g := by
  obtain ⟨hpresent, hkcv⟩ := h
  cases k <;> exact (State.fset_fget_apart hkcv).trans (State.fset_fget_apart hpresent)

theorem State.withKey_some_present (s : State) (k : Nat) : (s.withKey (some k)).fget (pgLink 0) LINK.KEY_STAT.PRESENT = 1 :=
  (State.fset_fget_apart (by decide)).trans (State.fset_fget (by decide) (by decide))

theorem State.withKey_none_present (s : State) : (s.withKey none).fget (pgLink 0) LINK.KEY_STAT.PRESENT = 0 :=
  (State.fset_fget_apart (by decide)).trans (State.fset_fget (by decide) (by decide))

theorem State.withKey_none_check (s : State) : (s.withKey none).fget (pgLink 0) LINK.KEY_STAT.KCV = 0 :=
  State.fset_fget (by decide) (by decide)

theorem State.zeroKeyWords_transport (s : State) : s.zeroKeyWords.transport = s.transport := rfl

theorem State.zeroKeyWords_hdr (s : State) : s.zeroKeyWords.hdr p = s.hdr p := rfl

theorem State.zeroKeyWords_eq (s : State) : s.zeroKeyWords =
    (((s.fset (pgLink 0) (LINK.AUTH_KEY.KEY 0) 0).fset (pgLink 0) (LINK.AUTH_KEY.KEY 1) 0).fset (pgLink 0)
      (LINK.AUTH_KEY.KEY 2) 0).fset (pgLink 0) (LINK.AUTH_KEY.KEY 3) 0 := rfl

theorem State.zeroKeyWords_fget (s : State) (hi : i < 4) : s.zeroKeyWords.fget (pgLink 0) (LINK.AUTH_KEY.KEY i) = 0 := by
  have hzero : ∀ (t : State) (i : Nat), (t.fset (pgLink 0) (LINK.AUTH_KEY.KEY i) 0).fget (pgLink 0) (LINK.AUTH_KEY.KEY i) = 0 :=
    fun t i => State.fset_fget (Nat.le_refl 32) (Nat.two_pow_pos _)
  rw [State.zeroKeyWords_eq]
  match i, hi with
  | 3, _ => exact hzero _ 3
  | 2, _ => rw [State.fset_fget_apart (by decide), hzero]
  | 1, _ => rw [State.fset_fget_apart (by decide), State.fset_fget_apart (by decide), hzero]
  | 0, _ =>
    rw [State.fset_fget_apart (by decide), State.fset_fget_apart (by decide), State.fset_fget_apart (by decide), hzero]

/-! ### The key store (R129, R133) -/

theorem State.writeKeys_pages (s : State) (f : KeyCopy → KeyCopy) : (s.writeKeys f).pages = s.pages := by
  unfold State.writeKeys
  split
  rfl

theorem State.writeKeys_transport (s : State) (f : KeyCopy → KeyCopy) : (s.writeKeys f).transport = s.transport := by
  unfold State.writeKeys
  split
  rfl

/-- The key is kept in the key store. -/
def State.storeKey (s : State) : State := s.writeKeys fun k => { k with key := s.transport.key }

theorem State.storeKey_fget (s : State) : s.storeKey.fget p g = s.fget p g := State.fget_of_pages (s.writeKeys_pages _) p g

theorem State.storeKey_hdr (s : State) : s.storeKey.hdr p = s.hdr p := by
  unfold State.hdr State.storeKey
  rw [State.writeKeys_pages]

theorem State.storeKey_transport (s : State) : s.storeKey.transport = s.transport := s.writeKeys_transport _

theorem State.linkCmd_keyLoad (s : State) (n : Nat) : s.linkCmd n 0x11 = s.keyLoad.storeKey.cmdDone (pgLink n) := by
  simp only [State.linkCmd, Nat.reduceEqDiff, if_true, if_false]
  rfl

theorem State.linkCmd_keyClear (s : State) (n : Nat) : s.linkCmd n 0x12 = s.keyClear.storeKey.cmdDone (pgLink n) := by
  simp only [State.linkCmd, Nat.reduceEqDiff, if_false]
  rfl

/-! ### KEY_LOAD (R129, R133) -/

/-- KEY_LOAD as far as its answer. -/
def State.keyLoaded (s : State) (m n : Nat) : State :=
  ((s.cmdStart (pgLink n) 0x11 0 m).keyLoad.storeKey.cmdDone (pgLink n)).emit (.access m 0 0)

theorem State.keyLoad_command (link : Fin 6) (h : s.accepts m (pgLink link) 0x11 0 = true) :
    s.command m (pgLink link) 0x11 0 = s.keyLoaded m link := by
  rw [State.linkCommand_eq link h (by decide) (by decide), State.linkCmd_keyLoad]
  rfl

theorem State.keyLoaded_done (s : State) (m n : Nat) :
    (s.keyLoaded m n).Done (pgLink n) 0x11 m ∧ (s.keyLoaded m n).Answers (.access m 0 0) := by
  refine State.ended_done (arg := 0) ?_
  rw [State.storeKey_hdr, State.keyLoad_eq, State.withKey_hdr, State.zeroKeyWords_hdr]
  exact State.cmdStart_run ..

theorem State.keyLoaded_key (s : State) (m n : Nat) : (s.keyLoaded m n).transport.key = some s.keyWords := by
  have hstart : (s.cmdStart (pgLink n) 0x11 0 m).keyWords = s.keyWords := by
    unfold State.keyWords
    simp only [State.cmdStart_fget]
  unfold State.keyLoaded
  rw [State.ended_transport, State.storeKey_transport, State.keyLoad_eq, State.withKey_transport, hstart]

theorem authKey_besideKeyStat (hi : i < 4) : (LINK.AUTH_KEY.KEY i).BesideKeyStat := by
  interval_cases i <;> decide

theorem State.keyLoaded_zeroed (s : State) (m n : Nat) (hi : i < 4) :
    (s.keyLoaded m n).fget (pgLink 0) (LINK.AUTH_KEY.KEY i) = 0 := by
  unfold State.keyLoaded
  rw [State.ended_fget, State.storeKey_fget, State.keyLoad_eq, State.withKey_fget_apart (authKey_besideKeyStat hi),
    State.zeroKeyWords_fget _ hi]

theorem State.keyLoaded_present (s : State) (m n : Nat) : (s.keyLoaded m n).fget (pgLink 0) LINK.KEY_STAT.PRESENT = 1 := by
  unfold State.keyLoaded
  rw [State.ended_fget, State.storeKey_fget, State.keyLoad_eq, State.withKey_some_present]

theorem State.keyLoaded_same (s : State) (m n : Nat) :
    State.SameBut [.transport, .fw, .out, .page .link] s (s.keyLoaded m n) :=
  State.emit_same (State.cmdDone_same (State.writeKeys_same (State.keyLoad_same (State.cmdStart_same
    (State.SameOutside.refl _ s) rfl (pageMask_link _ rfl)) rfl) rfl) rfl (pageMask_link _ rfl)) rfl

/-! ### KEY_CLEAR (R133) -/

/-- KEY_CLEAR as far as its answer. -/
def State.keyCleared (s : State) (m n : Nat) : State :=
  ((s.cmdStart (pgLink n) 0x12 0 m).keyClear.storeKey.cmdDone (pgLink n)).emit (.access m 0 0)

theorem State.keyClear_command (link : Fin 6) (h : s.accepts m (pgLink link) 0x12 0 = true) :
    s.command m (pgLink link) 0x12 0 = s.keyCleared m link := by
  rw [State.linkCommand_eq link h (by decide) (by decide), State.linkCmd_keyClear]
  rfl

theorem State.keyCleared_done (s : State) (m n : Nat) :
    (s.keyCleared m n).Done (pgLink n) 0x12 m ∧ (s.keyCleared m n).Answers (.access m 0 0) := by
  refine State.ended_done (arg := 0) ?_
  rw [State.storeKey_hdr, State.keyClear_eq, State.withKey_hdr]
  exact State.cmdStart_run ..

theorem State.keyCleared_key (s : State) (m n : Nat) : (s.keyCleared m n).transport.key = none := by
  unfold State.keyCleared
  rw [State.ended_transport, State.storeKey_transport, State.keyClear_eq, State.withKey_transport]

theorem State.keyCleared_shown (s : State) (m n : Nat) : (s.keyCleared m n).fget (pgLink 0) LINK.KEY_STAT.PRESENT = 0 ∧
    (s.keyCleared m n).fget (pgLink 0) LINK.KEY_STAT.KCV = 0 := by
  unfold State.keyCleared
  rw [State.ended_fget, State.ended_fget, State.storeKey_fget, State.storeKey_fget, State.keyClear_eq]
  exact ⟨State.withKey_none_present _, State.withKey_none_check _⟩

theorem State.keyCleared_same (s : State) (m n : Nat) :
    State.SameBut [.transport, .fw, .out, .page .link] s (s.keyCleared m n) :=
  State.emit_same (State.cmdDone_same (State.writeKeys_same (State.keyClear_same (State.cmdStart_same
    (State.SameOutside.refl _ s) rfl (pageMask_link _ rfl)) rfl) rfl) rfl (pageMask_link _ rfl)) rfl

/-! ### The revert (R126) -/

theorem exec_revertHoldoff_on (h : s.boot.powered = true) : exec .revertHoldoff s = .next s.revertHoldoff :=
  congrArg Host.Outcome.next (State.live_on h _)

theorem State.revertHoldoff_some (h : s.transport.prefUsableSince = some i) :
    s.revertHoldoff = s.advanceTo (i + s.fget (pgLink 0) LINK.UPSEL.HOLDOFF_MS * 1000000) := by
  unfold State.revertHoldoff
  rw [h]

theorem State.revertHoldoff_none (h : s.transport.prefUsableSince = none) : s.revertHoldoff = s := by
  unfold State.revertHoldoff
  rw [h]

/-! ### The statement -/

/-- Settles O29: each command starts, does its work and ends DONE, and the revert carries the clock to its instant. -/
theorem linkCommandsTakeEffect : Obligations.LinkCommandsTakeEffect := by
  unfold Obligations.LinkCommandsTakeEffect
  refine fun s m link => ⟨fun h => ?_, fun h => ?_, fun h => ?_, fun hon => ⟨fun since hs => ?_, fun hs => ?_⟩⟩
  case refine_1 =>
    obtain ⟨hdone, hanswers⟩ := s.upstreamSwitched_done m.id link
    refine ⟨s.upstreamSwitched m.id link, ?_, hdone, hanswers, State.ended_transport, s.upstreamSwitched_word m.id link,
      s.upstreamSwitched_same m.id link⟩
    rw [exec_switchUpstream_on (State.accepts_powered h), State.switchUpstream_command link h]
  case refine_2 =>
    obtain ⟨hdone, hanswers⟩ := s.keyLoaded_done m.id link
    refine ⟨s.keyLoaded m.id link, ?_, hdone, hanswers, ?_, fun i hi => s.keyLoaded_zeroed m.id link hi,
      s.keyLoaded_present m.id link, s.keyLoaded_same m.id link⟩
    · rw [exec_keyLoad_on (State.accepts_powered h), State.keyLoad_command link h]
    · rw [State.keyLoaded_key, State.keyWords_eq]
  case refine_3 =>
    obtain ⟨hdone, hanswers⟩ := s.keyCleared_done m.id link
    obtain ⟨hpresent, hcheck⟩ := s.keyCleared_shown m.id link
    refine ⟨s.keyCleared m.id link, ?_, hdone, hanswers, s.keyCleared_key m.id link, hpresent, hcheck,
      s.keyCleared_same m.id link⟩
    rw [exec_keyClear_on (State.accepts_powered h), State.keyClear_command link h]
  case refine_4 => rw [exec_revertHoldoff_on hon, State.revertHoldoff_some hs]
  case refine_5 => rw [exec_revertHoldoff_on hon, State.revertHoldoff_none hs]

end Sys2Proof.Machine
end

section
/-! PROOFS. Synchronisation and the clapper inputs: what each operation of chapter 05 that others are made of sets, and what it
leaves alone (R138 to R140, R143, R148). -/

namespace Sys2Proof.Machine

variable {s : State} {n l c d i v : Nat} {f g : Fld}

/-! ### What the links tell (R138, R139) -/

theorem State.setSync_sync_self {x : SyncSt} : (s.setSync n x).sync n = x := SMap.read_write_self ..

theorem State.setSync_sync_other {x : SyncSt} (h : l ≠ n) : (s.setSync n x).sync l = s.sync l :=
  SMap.read_write_other _ _ _ h _

theorem State.sync_of_syncs {t : State} (h : t.time.syncs = s.time.syncs) (n : Nat) : t.sync n = s.sync n := by
  unfold State.sync
  rw [h]

/-! ### Synchronisation states (R139, R140, R143) -/

/-- A synchronisation state is entered; the READY conditions are not judged yet. -/
def State.syncEntered (s : State) (st : Nat) : State :=
  let u := s.fset pgTime TIME.SYNC_STAT.STATE st
  let u := if s.syncState = 2 || s.syncState = 4 then u.evt pgTime 9 else u
  let u := if st = 2 then u.evt pgTime 8 else u
  let u := { u with time := { u.time with goodRun := 0, badRun := 0 } }
  if st = 3 then { u with time := { u.time with holdover := u.mono } } else u

theorem State.setSyncState_self (h : s.syncState = v) : s.setSyncState v = s := if_pos h

theorem State.setSyncState_eq (h : s.syncState ≠ v) : s.setSyncState v = (s.syncEntered v).evalGroups := if_neg h

theorem State.syncEntered_syncs (s : State) (st : Nat) : (s.syncEntered st).time.syncs = s.time.syncs := by
  unfold State.syncEntered
  extract_lets u v w wt x
  have hv : v.time = s.time := by unfold v; split <;> simp [u]
  have hw : w.time = v.time := by unfold w; split <;> simp
  have hx : x.time.syncs = s.time.syncs := by rw [← hv, ← hw]
  split <;> exact hx

theorem State.syncEntered_syncState (s : State) (hv : v < 8) : (s.syncEntered v).syncState = v := by
  unfold State.syncEntered
  extract_lets u u' w wt x
  have hu : u.syncState = v := State.fset_fget (by decide) hv
  have hu' : u'.syncState = v := by unfold u'; split <;> simpa [State.syncState] using hu
  have hw : w.syncState = v := by unfold w; split <;> simpa [State.syncState] using hu'
  split <;> exact hw

theorem State.evalGroups_frame (s : State) : State.SameBut [.safe, .out, .page .saf] s s.evalGroups :=
  State.evalGroups_same (State.SameOutside.refl _ s) rfl

theorem State.evalGroups_time (s : State) : s.evalGroups.time = s.time := s.evalGroups_frame .time (by decide)

theorem State.setSyncState_syncs (s : State) (v : Nat) : (s.setSyncState v).time.syncs = s.time.syncs := by
  by_cases h : s.syncState = v
  · rw [State.setSyncState_self h]
  · rw [State.setSyncState_eq h, State.evalGroups_time, State.syncEntered_syncs]

theorem State.setSyncState_syncState (s : State) (hv : v < 8) : (s.setSyncState v).syncState = v := by
  by_cases h : s.syncState = v
  · rw [State.setSyncState_self h, h]
  · rw [State.setSyncState_eq h]
    exact ((s.syncEntered v).evalGroups_frame.fget rfl (by decide)).trans (State.syncEntered_syncState s hv)

theorem State.showRoot_syncs (s : State) (v : Nat) : (s.showRoot v).time.syncs = s.time.syncs := by
  unfold State.showRoot
  split
  · rfl
  · rw [State.evt_time, State.fset_time]

theorem State.follow_syncs (s : State) (o : Option Nat) : (s.follow o).time.syncs = s.time.syncs := by
  cases o with
  | none => rfl
  | some n => exact State.showRoot_syncs _ _

/-- Judging root, parent and state does not touch what the links have told. -/
theorem State.evalSync_syncs (s : State) : s.evalSync.time.syncs = s.time.syncs := by
  unfold State.evalSync
  extract_lets root u parent had w wt
  split
  · rw [State.setSyncState_syncs, State.showRoot_syncs]
    rfl
  · split
    · exact s.follow_syncs _
    · have hw : w.time.syncs = s.time.syncs := s.follow_syncs _
      split
      case h_6 => split <;> exact hw
      case h_8 => exact hw
      all_goals exact (State.setSyncState_syncs w _).trans hw

/-! ### Clapper inputs (R148) -/

theorem State.setClap_clap_self {x : ClapSt} : (s.setClap c x).clap c = x := SMap.read_write_self ..

theorem State.setClap_clap_other {x : ClapSt} (h : d ≠ c) : (s.setClap c x).clap d = s.clap d :=
  SMap.read_write_other _ _ _ h _

theorem State.clap_of_claps {t : State} (h : t.time.claps = s.time.claps) (c : Nat) : t.clap c = s.clap c := by
  unfold State.clap
  rw [h]

theorem State.setBitOf_fget_apart {b : Bool} (h : f.Apart g) : (s.setBitOf f i b).fget pgTime g = s.fget pgTime g :=
  State.fset_fget_apart h

/-- A bit of a field reads back what was set. -/
theorem State.setBitOf_bit {b : Bool} (hf : f.lo + f.w ≤ 32) (hi : i < f.w) :
    bit ((s.setBitOf f i b).fget pgTime f) i = b := by
  have hread : (s.setBitOf f i b).fget pgTime f = putBits (s.fget pgTime f) i 1 (b2n b) % 2 ^ f.w :=
    State.fget_fset_self _ _ _ _ hf
  rw [hread, bit_eq_testBit, Nat.testBit_mod_two_pow, putBits_testBit]
  cases b <;> simp [hi, b2n]

/-- The conflicts of an input's slots end: only CONFLICT of CLAP_STAT changes. -/
def State.clearConflicts (s : State) (js : List Nat) : State :=
  js.foldl (fun s j => s.setBitOf TIME.CLAP_STAT.CONFLICT j false) s

theorem State.clearConflicts_time (s : State) (js : List Nat) : (s.clearConflicts js).time = s.time :=
  List.foldlRecOn js _ (motive := fun t : State => t.time = s.time) rfl fun _ ht _ _ => ht

theorem State.clearConflicts_hdr (s : State) (js : List Nat) (p : Nat) : (s.clearConflicts js).hdr p = s.hdr p :=
  List.foldlRecOn js _ (motive := fun t : State => t.hdr p = s.hdr p) rfl fun _ ht _ _ => ht

theorem State.clearConflicts_fget_apart (js : List Nat) (h : TIME.CLAP_STAT.CONFLICT.Apart g) :
    (s.clearConflicts js).fget pgTime g = s.fget pgTime g :=
  List.foldlRecOn js _ (motive := fun t : State => t.fget pgTime g = s.fget pgTime g) rfl fun _ ht _ _ =>
    (State.setBitOf_fget_apart h).trans ht

/-- An average starts anew from some phases, without LOCK and without conflicts. -/
theorem State.restartClap_eq (s : State) (c : Nat) (ps : List Nat) : ∃ js, s.restartClap c ps =
    ((s.setClap c { s.clap c with phases := ps, rejects := 0 }).setBitOf TIME.CLAP_STAT.LOCK c false).clearConflicts js :=
  ⟨_, rfl⟩

theorem State.restartClap_time (s : State) (c : Nat) (ps : List Nat) :
    (s.restartClap c ps).time = (s.setClap c { s.clap c with phases := ps, rejects := 0 }).time := by
  obtain ⟨js, h⟩ := s.restartClap_eq c ps
  rw [h, State.clearConflicts_time]
  rfl

theorem State.restartClap_clap_self (s : State) (c : Nat) (ps : List Nat) :
    (s.restartClap c ps).clap c = { s.clap c with phases := ps, rejects := 0 } :=
  (State.clap_of_claps (by rw [State.restartClap_time]) c).trans State.setClap_clap_self

theorem State.restartClap_clap_other (s : State) (ps : List Nat) (h : d ≠ c) : (s.restartClap c ps).clap d = s.clap d :=
  (State.clap_of_claps (by rw [State.restartClap_time]) d).trans (State.setClap_clap_other h)

theorem State.restartClap_hdr (s : State) (c : Nat) (ps : List Nat) (p : Nat) :
    (s.restartClap c ps).hdr p = s.hdr p := by
  obtain ⟨js, h⟩ := s.restartClap_eq c ps
  rw [h, State.clearConflicts_hdr]
  rfl

theorem State.restartClap_lock (s : State) (ps : List Nat) (hc : c < 4) :
    bit ((s.restartClap c ps).fget pgTime TIME.CLAP_STAT.LOCK) c = false := by
  obtain ⟨js, h⟩ := s.restartClap_eq c ps
  rw [h, State.clearConflicts_fget_apart js (by decide), State.setBitOf_bit (by decide) hc]

theorem State.restartClap_lost (s : State) (c : Nat) (ps : List Nat) :
    (s.restartClap c ps).fget pgTime TIME.CLAP_STAT.LOST = s.fget pgTime TIME.CLAP_STAT.LOST := by
  obtain ⟨js, h⟩ := s.restartClap_eq c ps
  rw [h, State.clearConflicts_fget_apart js (by decide), State.setBitOf_fget_apart (by decide)]
  rfl

theorem State.showClap_hdr (s : State) (c p : Nat) : (s.showClap c).hdr p = s.hdr p := rfl

/-- CLAP_STAT does not share a register with the averages shown. -/
theorem State.showClap_fget_apart (s : State) (hc : c < 4) (h : g.off = TIME.CLAP_STAT.LOCK.off) :
    (s.showClap c).fget pgTime g = s.fget pgTime g :=
  State.fset_fget_apart ⟨Nat.le_refl 32, .inl (by
    rw [h]
    simp only [TIME.CLAP_PHASE.PHASE, TIME.CLAP_STAT.LOCK]
    omega)⟩

/-- An empty average shows 0. -/
theorem State.showClap_empty (h : (s.clap c).phases = []) :
    (s.showClap c).fget pgTime (TIME.CLAP_PHASE.PHASE c) = 0 := by
  unfold State.showClap
  simp only [h, List.length_nil, if_true]
  exact State.fset_fget (Nat.le_refl 32) (Nat.two_pow_pos _)

end Sys2Proof.Machine
end

section
/-! PROOFS. Commands of TIME: the count stepped, still mode ended, the average of a clapper input emptied (R142, R145, R148,
R158, R161). -/

namespace Sys2Proof.Machine

variable {s : State} {m op arg c d : Nat}

/-! ### Commands of the page -/

/-- What each opcode of TIME does (R161). -/
def State.timeCmd (s : State) (opcode arg : Nat) : State :=
  if opcode = 0x10 then s.setTime
  else if opcode = 0x11 then { s with time := { s.time with stillExit := true } }
  else s.clapRestart (arg % 4)

/-- A command of TIME that the page takes runs and ends DONE. -/
theorem State.timeCommand_eq (h : s.accepts m pgTime op arg = true) (hop : 0x10 ≤ op) (ho : op < 256) (ha : arg < 2 ^ 24) :
    s.command m pgTime op arg =
      (((s.cmdStart pgTime op arg m).timeCmd op arg).cmdDone pgTime).emit (.access m 0 0) := by
  rw [State.command_eq h ho ha (.inr fun q _ => by unfold pgTime pgReel; omega)]
  unfold State.cmdRun
  rw [if_neg (by omega), if_neg (by omega), if_neg (by omega)]
  rfl

theorem State.ended_time {p : Nat} {x : Out} : ((s.cmdDone p).emit x).time = s.time := by
  rw [State.emit_time, State.cmdDone_time]

theorem State.ended_period {p : Nat} {x : Out} : ((s.cmdDone p).emit x).period = s.period := by
  unfold State.period
  rw [State.ended_fget, State.ended_fget]

theorem State.ended_boundarySys {p : Nat} {x : Out} (k : Int) :
    ((s.cmdDone p).emit x).boundarySys k = s.boundarySys k := by
  unfold State.boundarySys
  rw [State.ended_time, State.ended_period]

theorem State.ended_frameAt {p : Nat} {x : Out} (k : Int) : ((s.cmdDone p).emit x).frameAt k = s.frameAt k := by
  unfold State.frameAt
  rw [State.ended_time]

/-! ### SET_TIME (R142, R145) -/

theorem exec_setTime_on (h : s.boot.powered = true) (m : Master) :
    exec (.setTime m) s = .next (s.command m.id pgTime 0x10 0).settle :=
  congrArg Host.Outcome.next (State.live_on h _)

/-- The boundaries since ORIGIN at a value of the count. -/
def State.boundariesAt (s : State) (v : Nat) : Int := ((v : Int) - s.time.origin) / (max 1 s.period : Nat)

theorem State.stepCount_time (s : State) (v : Nat) :
    (s.stepCount v).time = { s.time with sys := v % 2 ^ 80, k := s.boundariesAt v } := rfl

theorem State.stepCount_period (s : State) (v : Nat) : (s.stepCount v).period = s.period :=
  congrArg₂ periodOf (State.fset_fget_apart (by decide)) (State.fset_fget_apart (by decide))

theorem State.stepCount_boundarySys (s : State) (v : Nat) (k : Int) :
    (s.stepCount v).boundarySys k = s.boundarySys k := by
  unfold State.boundarySys
  rw [State.stepCount_time, State.stepCount_period]

/-- A value lies in the frame that its boundaries count: the division of R145 rounds down. -/
theorem State.boundariesAt_bounds (v : Nat) (hp : 0 < s.period) :
    s.boundarySys (s.boundariesAt v) ≤ v ∧ v < s.boundarySys (s.boundariesAt v + 1) := by
  have hk : s.boundariesAt v = ((v : Int) - s.time.origin) / (s.period : Int) := by
    unfold State.boundariesAt
    rw [Nat.max_eq_right hp]
  have hlow : s.boundariesAt v * s.period ≤ (v : Int) - s.time.origin := hk ▸ Int.ediv_mul_le _ (by omega)
  have hhigh : (v : Int) - s.time.origin < (s.boundariesAt v + 1) * s.period :=
    hk ▸ Int.lt_ediv_add_one_mul_self _ (by omega)
  unfold State.boundarySys
  omega

/-- FRAME shows the number of the frame that the count has stepped into. -/
theorem State.stepCount_number (s : State) (v : Nat) :
    (s.stepCount v).fget pgTime TIME.FRAME.NUMBER = (s.stepCount v).frameAt (s.stepCount v).time.k :=
  State.fset_fget (by decide) (s.frameAt_lt (s.boundariesAt v))

/-- The value that SET_TIME gives the count. -/
def State.timeToSet (s : State) : Nat := s.fget64 pgTime TIME.SET_LO.NS TIME.SET_HI.NS * 65536

/-- SET_TIME as far as its answer. -/
def State.timeSet (s : State) (m : Nat) : State :=
  (((s.cmdStart pgTime 0x10 0 m).stepCount s.timeToSet).cmdDone pgTime).emit (.access m 0 0)

theorem State.setTime_command (h : s.accepts m pgTime 0x10 0 = true) : s.command m pgTime 0x10 0 = s.timeSet m := by
  have hv : (s.cmdStart pgTime 0x10 0 m).timeToSet = s.timeToSet := by
    unfold State.timeToSet State.fget64
    rw [State.cmdStart_fget, State.cmdStart_fget]
  unfold State.timeSet
  rw [State.timeCommand_eq h (by decide) (by decide) (by decide), ← hv]
  rfl

theorem State.timeSet_done (s : State) (m : Nat) :
    (s.timeSet m).Done pgTime 0x10 m ∧ (s.timeSet m).Answers (.access m 0 0) :=
  State.ended_done (arg := 0) (State.cmdStart_run ..)

theorem State.timeSet_sys (s : State) (m : Nat) : (s.timeSet m).time.sys = s.timeToSet % 2 ^ 80 :=
  congrArg TimeSt.sys State.ended_time

theorem State.timeSet_k (s : State) (m : Nat) : (s.timeSet m).time.k = s.boundariesAt s.timeToSet :=
  congrArg TimeSt.k State.ended_time

theorem State.timeSet_boundarySys (s : State) (m : Nat) (k : Int) : (s.timeSet m).boundarySys k = s.boundarySys k := by
  unfold State.timeSet
  rw [State.ended_boundarySys, State.stepCount_boundarySys]
  rfl

theorem State.timeSet_bounds (m : Nat) (hp : 0 < s.period) :
    (s.timeSet m).boundarySys (s.timeSet m).time.k ≤ s.timeToSet ∧
      s.timeToSet < (s.timeSet m).boundarySys ((s.timeSet m).time.k + 1) := by
  rw [State.timeSet_boundarySys, State.timeSet_boundarySys, State.timeSet_k]
  exact State.boundariesAt_bounds _ hp

theorem State.timeSet_number (s : State) (m : Nat) :
    (s.timeSet m).fget pgTime TIME.FRAME.NUMBER = (s.timeSet m).frameAt (s.timeSet m).time.k := by
  unfold State.timeSet
  rw [State.ended_fget, State.ended_frameAt, State.ended_time, State.stepCount_number]

theorem State.timeSet_same (s : State) (m : Nat) : State.SameBut [.time, .out, .page .time] s (s.timeSet m) :=
  State.emit_same (State.cmdDone_same (State.stepCount_same (State.cmdStart_same (State.SameOutside.refl _ s) rfl
    (pageMask_time rfl)) rfl) rfl (pageMask_time rfl)) rfl

/-! ### STILL_EXIT (R158) -/

theorem exec_stillExit_on (h : s.boot.powered = true) (m : Master) :
    exec (.stillExit m) s = .next (s.command m.id pgTime 0x11 0) :=
  congrArg Host.Outcome.next (State.live_on h _)

/-- Still mode ends at the next boundary. -/
def State.askStillExit (s : State) : State := { s with time := { s.time with stillExit := true } }

/-- STILL_EXIT as far as its answer. -/
def State.stillExited (s : State) (m : Nat) : State :=
  ((s.cmdStart pgTime 0x11 0 m).askStillExit.cmdDone pgTime).emit (.access m 0 0)

theorem State.stillExit_command (h : s.accepts m pgTime 0x11 0 = true) :
    s.command m pgTime 0x11 0 = s.stillExited m := by
  rw [State.timeCommand_eq h (by decide) (by decide) (by decide)]
  rfl

theorem State.stillExited_done (s : State) (m : Nat) :
    (s.stillExited m).Done pgTime 0x11 m ∧ (s.stillExited m).Answers (.access m 0 0) :=
  State.ended_done (arg := 0) (State.cmdStart_run ..)

theorem State.stillExited_word (s : State) (m a : Nat) : (s.stillExited m).word a = s.word a := by
  unfold State.stillExited
  rw [State.emit_word, State.cmdDone_word]
  rfl

theorem State.stillExited_same (s : State) (m : Nat) :
    State.SameBut [.time, .out, .page .time] s (s.stillExited m) :=
  State.emit_same (State.cmdDone_same (State.SameOutside.set_time (State.cmdStart_same (State.SameOutside.refl _ s) rfl
    (pageMask_time rfl)) rfl) rfl (pageMask_time rfl)) rfl

/-! ### CLAP_RESTART (R148) -/

theorem exec_clapRestart_on (h : s.boot.powered = true) (m : Master) (clap : Fin 4) :
    exec (.clapRestart m clap) s = .next (s.command m.id pgTime 0x12 clap) :=
  congrArg Host.Outcome.next (State.live_on h _)

/-- CLAP_RESTART as far as its answer. -/
def State.clapRestarted (s : State) (m c : Nat) : State :=
  (((s.cmdStart pgTime 0x12 c m).clapRestart c).cmdDone pgTime).emit (.access m 0 0)

theorem State.clapRestart_command (clap : Fin 4) (h : s.accepts m pgTime 0x12 clap = true) :
    s.command m pgTime 0x12 clap = s.clapRestarted m clap := by
  rw [State.timeCommand_eq h (by decide) (by decide) (by omega)]
  unfold State.timeCmd
  rw [if_neg (by decide), if_neg (by decide), Nat.mod_eq_of_lt clap.isLt]
  rfl

theorem State.clapRestarted_done (s : State) (m c : Nat) :
    (s.clapRestarted m c).Done pgTime 0x12 m ∧ (s.clapRestarted m c).Answers (.access m 0 0) :=
  State.ended_done (arg := c) (by
    unfold State.clapRestart
    rw [State.showClap_hdr, State.restartClap_hdr, State.cmdStart_run])

theorem State.clapRestarted_clap (s : State) (m c d : Nat) :
    (s.clapRestarted m c).clap d = ((s.cmdStart pgTime 0x12 c m).restartClap c []).clap d :=
  State.clap_of_claps (congrArg TimeSt.claps State.ended_time) d

theorem State.clapRestarted_phases (s : State) (m c : Nat) : ((s.clapRestarted m c).clap c).phases = [] := by
  rw [State.clapRestarted_clap, State.restartClap_clap_self]

theorem State.clapRestarted_clap_other (m : Nat) (h : d ≠ c) : (s.clapRestarted m c).clap d = s.clap d := by
  rw [State.clapRestarted_clap, State.restartClap_clap_other _ _ h]
  rfl

/-- The registers show an empty average without LOCK. -/
theorem State.clapRestarted_shown (s : State) (m : Nat) (hc : c < 4) :
    (s.clapRestarted m c).fget pgTime (TIME.CLAP_PHASE.PHASE c) = 0 ∧
      bit ((s.clapRestarted m c).fget pgTime TIME.CLAP_STAT.LOCK) c = false := by
  unfold State.clapRestarted State.clapRestart
  rw [State.ended_fget, State.ended_fget, State.showClap_empty (by rw [State.restartClap_clap_self]),
    State.showClap_fget_apart _ hc rfl]
  exact ⟨rfl, State.restartClap_lock _ _ hc⟩

theorem State.clapRestarted_same (s : State) (m c : Nat) :
    State.SameBut [.time, .out, .page .time] s (s.clapRestarted m c) :=
  State.emit_same (State.cmdDone_same (State.clapRestart_same (State.cmdStart_same (State.SameOutside.refl _ s) rfl
    (pageMask_time rfl)) rfl) rfl (pageMask_time rfl)) rfl

/-! ### The statement -/

/-- Settles O16: each command starts, does its work and ends DONE. -/
theorem timeCommandsTakeEffect : Obligations.TimeCommandsTakeEffect := by
  unfold Obligations.TimeCommandsTakeEffect
  refine fun s m => ⟨fun h => ?_, fun h => ?_, fun c h => ?_⟩
  case refine_1 =>
    obtain ⟨hdone, hanswers⟩ := s.timeSet_done m.id
    refine ⟨s.timeSet m.id, ?_, hdone, hanswers, s.timeSet_sys m.id, fun hp _ => State.timeSet_bounds m.id hp,
      s.timeSet_number m.id, s.timeSet_same m.id⟩
    rw [exec_setTime_on (State.accepts_powered h), State.setTime_command h]
  case refine_2 =>
    obtain ⟨hdone, hanswers⟩ := s.stillExited_done m.id
    refine ⟨s.stillExited m.id, ?_, hdone, hanswers, State.ended_time, s.stillExited_word m.id, s.stillExited_same m.id⟩
    rw [exec_stillExit_on (State.accepts_powered h), State.stillExit_command h]
  case refine_3 =>
    obtain ⟨hdone, hanswers⟩ := s.clapRestarted_done m.id c
    obtain ⟨hphase, hlock⟩ := s.clapRestarted_shown m.id c.isLt
    refine ⟨s.clapRestarted m.id c, ?_, hdone, hanswers, s.clapRestarted_phases m.id c, hphase, hlock,
      fun d hd => State.clapRestarted_clap_other m.id hd, s.clapRestarted_same m.id c⟩
    rw [exec_clapRestart_on (State.accepts_powered h), State.clapRestart_command c h]

end Sys2Proof.Machine
end

section
/-! PROOFS. TIME cells: SYNC cells that arrive and leave, sets of slot phases taken and passed on (R136 to R141, R149). -/

namespace Sys2Proof.Machine

variable {s u : State} {n sub body word l : Nat} {v : CellView} {x : PhaseSet}

/-! ### A TIME cell by its KIND (R136) -/

theorem exec_timeSyncRx_on (h : s.boot.powered = true) (link : Fin 6) (sub : BitVec 16) (cell : BitVec 288) :
    exec (.timeSyncRx link sub cell) s = .next (s.timeCell link sub.toNat cell.toNat).settle :=
  congrArg Host.Outcome.next (State.live_on h _)

theorem exec_timePhaseRx_on (h : s.boot.powered = true) (link : Fin 6) (sub : BitVec 16) (cell : BitVec 288) :
    exec (.timePhaseRx link sub cell) s = .next (s.timeCell link sub.toNat cell.toNat).settle :=
  congrArg Host.Outcome.next (State.live_on h _)

theorem State.timeCell_sync (h : s.singleCell n 4 word = (some v, u)) (hk : bitsOf v.body 0 4 = 0) :
    s.timeCell n sub word = u.syncRx n sub v.body := by
  unfold State.timeCell
  simp only [h, hk]

theorem State.timeCell_phase (h : s.singleCell n 4 word = (some v, u)) (hk : bitsOf v.body 0 4 = 1) :
    s.timeCell n sub word = u.phaseRx n v.body := by
  unfold State.timeCell
  simp only [h, hk]

theorem State.timeCell_other (h : s.singleCell n 4 word = (some v, u))
    (hk : bitsOf v.body 0 4 ≠ 0 ∧ bitsOf v.body 0 4 ≠ 1) : s.timeCell n sub word = u := by
  obtain ⟨hsync, hphase⟩ := hk
  unfold State.timeCell
  simp only [h]

/-! ### A SYNC cell arrives (R136 to R141) -/

theorem State.roundFree_time (s : State) (num : Int) (den : Nat) : (s.roundFree num den).2.time = s.time := by
  unfold State.roundFree
  split <;> rfl

theorem State.steer_syncs (s : State) (off : Int) (limit : Nat) : (s.steer off limit).time.syncs = s.time.syncs := rfl

theorem State.stepCount_syncs (s : State) (v : Nat) : (s.stepCount v).time.syncs = s.time.syncs := rfl

/-- An exchange with the time parent steers the count and moves the state; what the links have told stays. -/
theorem State.exchange_syncs (s : State) (num delay : Int) : (s.exchange num delay).time.syncs = s.time.syncs := by
  unfold State.exchange
  split
  next ps s₁ h₁ =>
  split
  next dly s₂ h₂ =>
  extract_lets offset delayed thr off gap time shown good time' acquiring stepped bad locked steered
  have hshown : shown.time.syncs = s.time.syncs := by
    have hround : s₂.time = s.time := by
      rw [← s.roundFree_time num 131072, ← (s.roundFree num 131072).2.roundFree_time delay 131072, h₁, h₂]
    calc shown.time.syncs = s₂.time.syncs := rfl
      _ = s.time.syncs := by rw [hround]
  have hstate {w : State} {c : Prop} [Decidable c] (k : Nat) (hw : w.time.syncs = s.time.syncs) :
      (if c then w.setSyncState k else w).time.syncs = s.time.syncs := by
    split
    · rw [State.setSyncState_syncs, hw]
    · exact hw
  have hstepped : stepped.time.syncs = s.time.syncs := by
    unfold stepped
    split
    · split
      · exact (State.steer_syncs ..).trans hshown
      · exact (State.stepCount_syncs ..).trans hshown
    · exact (State.steer_syncs ..).trans hshown
  split
  · exact hstate 2 hstepped
  · exact hstate 1 ((State.steer_syncs ..).trans hshown)
  · exact hshown

/-- What a link tells once a SYNC cell has come in; the offset is what an exchange measures. -/
def State.syncHeard (s : State) (n sub body : Nat) (offset : Int) : SyncSt :=
  { s.sync n with
    rxAt := s.stamp sub, rxSeq := bitsOf body 192 16, rxSeen := true, hops := bitsOf body 22 5
    rootId := bitsOf body 13 9, locked := bit body 27, offset := offset }

theorem State.syncRx_sync (s : State) (n sub body : Nat) :
    ∃ offset, (s.syncRx n sub body).sync n = s.syncHeard n sub body offset := by
  unfold State.syncRx
  extract_lets x t1 t2 t4 asym sent heard
  clear_value sent
  have hset {t : State} {y : SyncSt} (h : t.time.syncs = (s.setSync n y).time.syncs) : t.sync n = y :=
    (State.sync_of_syncs h n).trans State.setSync_sync_self
  split
  · exact ⟨_, hset (State.evalSync_syncs _)⟩
  · extract_lets back num followed
    have hfollowed : followed.time.syncs = (s.setSync n (s.syncHeard n sub body (num / 131072))).time.syncs :=
      State.evalSync_syncs _
    refine ⟨num / 131072, hset ?_⟩
    split
    · rw [State.exchange_syncs, hfollowed]
    · exact hfollowed

theorem State.syncRx_frame (s : State) (n sub body : Nat) :
    State.SameBut [.free, .time, .safe, .out, .page .time, .page .saf] s (s.syncRx n sub body) :=
  State.syncRx_same (State.SameOutside.refl _ s) rfl

theorem State.stamp_of_fraction (s : State) (sub : BitVec 16) :
    s.stamp sub.toNat = s.time.sys / 65536 * 65536 + sub.toNat := by
  unfold State.stamp
  rw [Nat.mod_eq_of_lt sub.isLt]

/-! ### Sets of slot phases (R149) -/

/-- The cells of a set on the downstream links that are UP. -/
def State.phaseCells (s : State) (x : PhaseSet) : List Out :=
  ([2, 3].filter (fun d => s.linkState d != 0)).map (fun d => Out.cell d (s.phaseCell x))

theorem State.emit_phaseCell (s : State) (o : Out) (x : PhaseSet) : (s.emit o).phaseCell x = s.phaseCell x := by
  unfold State.phaseCell State.deviceId
  rw [State.emit_fget, State.emit_fget]

/-- The loop builds each cell from the state as it is by then: sending changes nothing that a cell is built from. -/
theorem State.sendPhases_eq (s : State) (x : PhaseSet) : s.sendPhases x = { s with out := s.out ++ s.phaseCells x } := by
  have hcell (ds : List Nat) (t : State) (ht : t.phaseCell x = s.phaseCell x) :
      ds.foldl (fun t d => t.emit (.cell d (t.phaseCell x))) t =
        ds.foldl (fun t d => t.emit (.cell d (s.phaseCell x))) t := by
    induction ds generalizing t with
    | nil => rw [List.foldl_nil, List.foldl_nil]
    | cons d ds ih => rw [List.foldl_cons, List.foldl_cons, ih _ ((t.emit_phaseCell _ x).trans ht), ht]
  unfold State.sendPhases
  rw [hcell _ s rfl, State.foldl_emit (fun d => Out.cell d (s.phaseCell x))]
  rfl

/-- The set that a PHASE cell carries. -/
def phasesOf (body : Nat) : PhaseSet :=
  ⟨bitsOf body 48 16, bitsOf body 64 4,
    [bitsOf body 96 32, bitsOf body 128 32, bitsOf body 160 32, bitsOf body 192 32]⟩

/-- A set is taken: it waits for its frame. -/
def State.takePhases (s : State) (x : PhaseSet) : State :=
  { s with time := { s.time with phaseSets := s.time.phaseSets ++ [x], phaseLast := some x } }

theorem State.phaseRx_parent (body : Nat) (h : s.parent = some n) :
    s.phaseRx n body = (s.takePhases (phasesOf body)).sendPhases (phasesOf body) := by
  unfold State.phaseRx
  rw [if_neg (not_not_intro h)]
  rfl

theorem State.phaseRx_stranger (body : Nat) (h : s.parent ≠ some n) : s.phaseRx n body = s := if_pos h

theorem State.phaseRx_time (body : Nat) (h : s.parent = some n) :
    (s.phaseRx n body).time = (s.takePhases (phasesOf body)).time := by
  rw [State.phaseRx_parent body h, State.sendPhases_eq]

theorem exec_phaseCellTx_on (h : s.boot.powered = true) : exec .phaseCellTx s = .next s.phaseTx :=
  congrArg Host.Outcome.next (State.live_on h _)

theorem State.phaseTx_root (h : s.time.phaseLast = some x) (hroot : s.syncState = 4) :
    s.phaseTx = { s with out := s.out ++ s.phaseCells x } := by
  unfold State.phaseTx
  rw [h]
  exact (if_pos hroot).trans (s.sendPhases_eq x)

theorem State.phaseTx_nothing (h : s.time.phaseLast = none ∨ s.syncState ≠ 4) : s.phaseTx = s := by
  unfold State.phaseTx
  split
  next e =>
    rcases h with h | h
    · exact absurd (h.symm.trans e) (by simp)
    · exact if_neg h
  next => rfl

/-! ### A SYNC cell leaves (R137) -/

theorem exec_syncCellTx_on (h : s.boot.powered = true) (link : Fin 6) (sub : BitVec 16) :
    exec (.syncCellTx link sub) s = .next (s.syncTx link sub.toNat) :=
  congrArg Host.Outcome.next (State.live_on h _)

/-- The body of a SYNC cell that leaves now. -/
def State.syncBody (s : State) (n sub : Nat) : Nat :=
  s.deviceId * 2 ^ 4 + s.fget pgTime TIME.ROOT_CFG.ROOT_ID * 2 ^ 13 +
    s.fget pgTime TIME.SYNC_STAT.HOPS * 2 ^ 22 + b2n (s.syncState = 4 || s.syncState = 2) * 2 ^ 27 +
    s.stamp sub / 65536 * 2 ^ 32 + s.stamp sub % 65536 * 2 ^ 96 + (s.sync n).rxAt / 65536 * 2 ^ 112 +
    (s.sync n).rxAt % 65536 * 2 ^ 176 + (s.sync n).txSeq * 2 ^ 192 + (s.sync n).rxSeq * 2 ^ 208

/-- What a link tells is counted on by a cell that leaves. -/
def State.syncSent (s : State) (n sub : Nat) : SyncSt :=
  { s.sync n with
    txSeq := ((s.sync n).txSeq + 1) % 65536, sent := (((s.sync n).txSeq, s.stamp sub) :: (s.sync n).sent).take 16 }

theorem State.syncTx_up (sub : Nat) (h : s.linkState n ≠ 0) (ha : linkAccepts n 4 = true) :
    s.syncTx n sub =
      (s.setSync n (s.syncSent n sub)).emit (.cell n (bchEncode (s.syncBody n sub) (singleTag 4))) := by
  unfold State.syncTx
  rw [if_neg (by simp [h, ha])]
  rfl

theorem State.syncTx_silent (sub : Nat) (h : s.linkState n = 0 ∨ linkAccepts n 4 = false) : s.syncTx n sub = s := by
  unfold State.syncTx
  rw [if_pos (by simpa using h)]

/-- The sender and its time stand in the cell. -/
theorem State.syncBody_fields (s : State) (n : Nat) (sub : BitVec 16) (hsys : s.time.sys < 2 ^ 80) :
    bitsOf (s.syncBody n sub.toNat) 4 9 = s.deviceId ∧
      bitsOf (s.syncBody n sub.toNat) 32 64 = s.time.sys / 65536 % 2 ^ 64 ∧
      bitsOf (s.syncBody n sub.toNat) 96 16 = sub.toNat := by
  have hid : s.deviceId < 2 ^ 9 := State.fget_lt ..
  have hroot : s.fget pgTime TIME.ROOT_CFG.ROOT_ID < 2 ^ 9 := State.fget_lt ..
  have hhops : s.fget pgTime TIME.SYNC_STAT.HOPS < 2 ^ 5 := State.fget_lt ..
  have hsub := sub.isLt
  have hns : s.stamp sub.toNat / 65536 = s.time.sys / 65536 := by
    rw [s.stamp_of_fraction sub]
    omega
  have hfrac : s.stamp sub.toNat % 65536 = sub.toNat := by
    rw [s.stamp_of_fraction sub]
    omega
  have hlock : b2n (s.syncState = 4 || s.syncState = 2) < 2 := by
    unfold b2n
    split <;> decide
  have htime : s.time.sys / 65536 < 2 ^ 64 := by omega
  unfold State.syncBody bitsOf
  rw [hns, hfrac, Nat.mod_eq_of_lt htime]
  simp only [Nat.shiftRight_eq_div_pow]
  generalize b2n _ = lock at hlock
  generalize s.time.sys / 65536 = ns at htime
  omega

/-! ### The statement -/

/-- Settles O17: the lemmas above say for each KIND what its cell does, and what leaves. -/
theorem timeCellsComeAndGo : Obligations.TimeCellsComeAndGo := by
  unfold Obligations.TimeCellsComeAndGo
  refine ⟨fun s u link sub cell v hon h => ⟨fun hk => ?_, fun hk => ?_, fun hk => ?_⟩,
    fun s hon => ⟨fun link sub => ⟨fun ⟨hup, ha, hsys⟩ => ?_, fun hno => ?_⟩, fun x hx hroot => ?_, fun hno => ?_⟩⟩
  case refine_1 =>
    obtain ⟨offset, hsync⟩ := u.syncRx_sync link sub.toNat v.body
    rw [hsync]
    refine ⟨?_, rfl, rfl, rfl, rfl, u.stamp_of_fraction sub, u.syncRx_frame link sub.toNat v.body⟩
    rw [exec_timeSyncRx_on hon, State.timeCell_sync h hk]
  case refine_2 =>
    refine ⟨u.phaseRx link v.body, ?_, fun hp => ?_, State.phaseRx_stranger v.body,
      State.phaseRx_same (State.SameOutside.refl _ u) rfl⟩
    · rw [exec_timePhaseRx_on hon, State.timeCell_phase h hk]
    · rw [State.phaseRx_time v.body hp]
      exact ⟨rfl, rfl⟩
  case refine_3 => rw [exec_timeSyncRx_on hon, State.timeCell_other h hk]
  case refine_4 =>
    obtain ⟨hid, htime, hfrac⟩ := s.syncBody_fields link sub hsys
    refine ⟨s.syncTx link sub.toNat, s.syncBody link sub.toNat, exec_syncCellTx_on hon link sub, ?_, hid, htime, hfrac, ?_,
      fun l hl => ?_, State.syncTx_same (State.SameOutside.refl _ s) rfl⟩ <;> rw [State.syncTx_up sub.toNat hup ha]
    · exact State.emit_answers _ _
    · exact congrArg SyncSt.txSeq State.setSync_sync_self
    · exact State.setSync_sync_other hl
  case refine_5 => rw [exec_syncCellTx_on hon, State.syncTx_silent sub.toNat hno]
  case refine_6 => rw [exec_phaseCellTx_on hon, State.phaseTx_root hx hroot]; rfl
  case refine_7 => rw [exec_phaseCellTx_on hon, State.phaseTx_nothing hno]

end Sys2Proof.Machine
end

section
/-! PROOFS. Synchronisation lost in time: a parent no longer heard, the end of HOLDOVER, the clapper edges that the root counts
(R139, R140, R148). -/

namespace Sys2Proof.Machine

variable {s t u : State} {c d j n sub : Nat} {f : Fld}

/-! ### A lost parent (R139) -/

theorem exec_parentLost_on (h : s.boot.powered = true) : exec .parentLost s = .next s.parentLost.settle :=
  congrArg Host.Outcome.next (State.live_on h _)

theorem State.parentLost_none (h : s.parent = none) : s.parentLost = s.evalSync := by
  unfold State.parentLost
  rw [h]

theorem State.parentLost_some (h : s.parent = some n) :
    s.parentLost = (s.setSync n { s.sync n with rxSeen := false }).evalSync := by
  unfold State.parentLost
  rw [h]

/-! ### The end of HOLDOVER (R140) -/

theorem exec_holdoverExpiry_on (h : s.boot.powered = true) : exec .holdoverExpiry s = .next s.holdoverExpiry.settle :=
  congrArg Host.Outcome.next (State.live_on h _)

theorem State.setSyncState_frame (s : State) (st : Nat) :
    State.SameBut [.time, .safe, .out, .page .time, .page .saf] s (s.setSyncState st) :=
  State.setSyncState_same (State.SameOutside.refl _ s) rfl

theorem State.holdoverExpiry_eq (h : s.syncState = 3) : s.holdoverExpiry =
    (s.advanceTo (s.time.holdover + s.fget pgTime TIME.LOCK_CFG.HOLDOVER_MS * 1000000)).setSyncState 0 := if_pos h

theorem State.holdoverExpiry_none (h : s.syncState ≠ 3) : s.holdoverExpiry = s := if_neg h

theorem State.holdoverExpiry_mono (h : s.syncState = 3) : s.holdoverExpiry.mono =
    max s.mono (s.time.holdover + s.fget pgTime TIME.LOCK_CFG.HOLDOVER_MS * 1000000) := by
  rw [State.holdoverExpiry_eq h]
  exact Eq.trans (State.setSyncState_frame _ 0 .mono (by decide)) (State.advanceTo_mono _ _)

/-! ### Clapper edges (R148) -/

theorem exec_clapEdge_on (h : s.boot.powered = true) (clap : Fin 4) (sub : BitVec 16) :
    exec (.clapEdge clap sub) s = .next (s.clapEdge clap sub.toNat) :=
  congrArg Host.Outcome.next (State.live_on h _)

/-- What an edge leaves of its counting: the count of the frame, the frames without an edge, and LOST. -/
def State.EdgeKept (c : Nat) (s t : State) : Prop :=
  (t.clap c).counted = (s.clap c).counted ∧ (t.clap c).noEdge = (s.clap c).noEdge ∧
    t.fget pgTime TIME.CLAP_STAT.LOST = s.fget pgTime TIME.CLAP_STAT.LOST

theorem State.EdgeKept.refl (c : Nat) (s : State) : State.EdgeKept c s s := ⟨rfl, rfl, rfl⟩

theorem State.EdgeKept.trans (h : State.EdgeKept c s t) (h' : State.EdgeKept c t u) : State.EdgeKept c s u := by
  obtain ⟨hcounted, hnone, hlost⟩ := h
  obtain ⟨hcounted', hnone', hlost'⟩ := h'
  exact ⟨hcounted'.trans hcounted, hnone'.trans hnone, hlost'.trans hlost⟩

theorem State.EdgeKept.of_claps (h : t.time.claps = s.time.claps)
    (hl : t.fget pgTime TIME.CLAP_STAT.LOST = s.fget pgTime TIME.CLAP_STAT.LOST) : State.EdgeKept c s t := by
  unfold State.EdgeKept
  rw [State.clap_of_claps h]
  exact ⟨rfl, rfl, hl⟩

theorem State.EdgeKept.setClap {x : ClapSt} (hc : x.counted = (s.clap c).counted) (hn : x.noEdge = (s.clap c).noEdge) :
    State.EdgeKept c s (s.setClap c x) := by
  unfold State.EdgeKept
  rw [State.setClap_clap_self]
  exact ⟨hc, hn, rfl⟩

theorem State.EdgeKept.setBitOf {b : Bool} {i : Nat} (hf : f.Apart TIME.CLAP_STAT.LOST) :
    State.EdgeKept c s (s.setBitOf f i b) := .of_claps rfl (State.setBitOf_fget_apart hf)

theorem State.EdgeKept.evt {i : Nat} : State.EdgeKept c s (s.evt pgTime i) :=
  .of_claps (by rw [State.evt_time]) (State.evt_fget ..)

theorem State.EdgeKept.showClap (hc : c < 4) : State.EdgeKept c s (s.showClap c) :=
  .of_claps rfl (s.showClap_fget_apart hc rfl)

theorem State.EdgeKept.restartClap (ps : List Nat) : State.EdgeKept c s (s.restartClap c ps) := by
  unfold State.EdgeKept
  rw [State.restartClap_clap_self]
  exact ⟨rfl, rfl, s.restartClap_lost c ps⟩

theorem State.EdgeKept.deriveStart (x : ClapSt) : State.EdgeKept c s (s.deriveStart j x) := by
  unfold State.deriveStart
  extract_lets
  have hconflict (b : Bool) : State.EdgeKept c s (s.setBitOf TIME.CLAP_STAT.CONFLICT j b) := .setBitOf (by decide)
  split
  · split
    · exact hconflict false
    · exact (hconflict false).trans (.of_claps rfl rfl)
  · split
    · exact .refl c s
    · exact (hconflict true).trans .evt

/-- An accepted phase counts no edge, and finds none. -/
theorem State.EdgeKept.acceptPhase (hc : c < 4) (phase : Nat) : State.EdgeKept c s (s.acceptPhase c phase) := by
  unfold State.acceptPhase
  extract_lets len x y entered locked shown
  have hentered : State.EdgeKept c s entered := .setClap rfl rfl
  have hlocked : State.EdgeKept c s locked := by
    unfold locked
    split
    · exact hentered.trans (.setBitOf (by decide))
    · exact hentered
  have hshown : State.EdgeKept c s shown := hlocked.trans (.showClap hc)
  split
  · exact List.foldlRecOn _ _ (motive := fun t : State => State.EdgeKept c s t) hshown fun _ ht _ _ =>
      ht.trans (.deriveStart _)
  · exact hshown

/-- An input has had its edge of the frame, and is not lost. -/
def State.edgeCounted (s : State) (c : Nat) : State :=
  (s.setClap c { s.clap c with counted := true, noEdge := 0 }).setBitOf TIME.CLAP_STAT.LOST c false

theorem State.edgeCounted_clap (s : State) (c : Nat) :
    (s.edgeCounted c).clap c = { s.clap c with counted := true, noEdge := 0 } := State.setClap_clap_self

theorem State.edgeCounted_lost (s : State) (hc : c < 4) :
    bit ((s.edgeCounted c).fget pgTime TIME.CLAP_STAT.LOST) c = false := State.setBitOf_bit (by decide) hc

/-- Whatever its phase leads to, an edge that counts stays counted. -/
theorem State.clapEdge_kept_edge (hc : c < 4)
    (h : s.syncState = 4 ∧ s.fbit pgTime (TIME.CLAP_CFG.EN c) = true ∧ (s.clap c).counted = false) :
    State.EdgeKept c (s.edgeCounted c) (s.clapEdge c sub) := by
  unfold State.clapEdge
  rw [if_neg (by simp [h])]
  extract_lets
  split
  · exact .acceptPhase hc _
  · split
    · split
      · exact .setClap rfl rfl
      · exact (State.EdgeKept.restartClap _).trans ((State.EdgeKept.showClap hc).trans .evt)
    · exact .acceptPhase hc _

theorem State.clapEdge_counted (hc : c < 4)
    (h : s.syncState = 4 ∧ s.fbit pgTime (TIME.CLAP_CFG.EN c) = true ∧ (s.clap c).counted = false) :
    ((s.clapEdge c sub).clap c).counted = true ∧ ((s.clapEdge c sub).clap c).noEdge = 0 ∧
      bit ((s.clapEdge c sub).fget pgTime TIME.CLAP_STAT.LOST) c = false := by
  obtain ⟨hcounted, hnone, hlost⟩ := State.clapEdge_kept_edge (sub := sub) hc h
  rw [hcounted, hnone, hlost, State.edgeCounted_clap]
  exact ⟨rfl, rfl, s.edgeCounted_lost hc⟩

theorem State.clapEdge_ignored
    (h : s.syncState ≠ 4 ∨ s.fbit pgTime (TIME.CLAP_CFG.EN c) = false ∨ (s.clap c).counted = true) :
    s.clapEdge c sub = s := by
  unfold State.clapEdge
  rw [if_pos]
  simpa [or_assoc] using h

/-! ### The statement -/

/-- Settles O18: each of the three is its function on a powered device, and the lemmas above say what that function does. -/
theorem synchronisationIsLostInTime : Obligations.SynchronisationIsLostInTime := by
  unfold Obligations.SynchronisationIsLostInTime
  refine fun s hon => ⟨fun hp => ?_, fun n hp => ?_, fun hst => ?_, fun hst => ?_, fun c sub => ⟨fun h => ?_, fun h => ?_⟩⟩
  case refine_1 => rw [exec_parentLost_on hon, State.parentLost_none hp]
  case refine_2 => rw [exec_parentLost_on hon, State.parentLost_some hp]
  case refine_3 =>
    refine ⟨s.holdoverExpiry, exec_holdoverExpiry_on hon, ?_, State.holdoverExpiry_mono hst,
      State.holdoverExpiry_same (State.SameOutside.refl _ s) rfl⟩
    rw [State.holdoverExpiry_eq hst, State.setSyncState_syncState _ (by decide)]
  case refine_4 => rw [exec_holdoverExpiry_on hon, State.holdoverExpiry_none hst]
  case refine_5 =>
    obtain ⟨hcounted, hnone, hlost⟩ := State.clapEdge_counted (sub := sub.toNat) c.isLt h
    exact ⟨s.clapEdge c sub.toNat, exec_clapEdge_on hon c sub, hcounted, hnone, hlost,
      State.clapEdge_same (State.SameOutside.refl _ s) rfl⟩
  case refine_6 => rw [exec_clapEdge_on hon, State.clapEdge_ignored h]

end Sys2Proof.Machine
end

section
/-! PROOFS. The tiles of a frame: one that is computed and signed, and one that is frozen at its deadline (R159, R192, R241,
R251). -/

namespace Sys2Proof.Machine

variable {s v : State} {tile q : Nat}

/-! ### A tile is computed (R159, R251) -/

theorem exec_peTileDone_on (h : s.boot.powered = true) (tile : Fin 16) (late : List Nat) :
    exec (.peTileDone tile late) s = .next (s.peTileDone tile late) :=
  congrArg Host.Outcome.next (State.live_on h _)

/-- The composite pixels of a tile that were not ready for it are late (R192). -/
def State.noteLate (s : State) (tile : Nat) (late : List Nat) : State :=
  { s with
    cmp := { s.cmp with late := s.cmp.late ++ late.filter (fun v =>
      v / 2 ^ 20 < s.takes && tileOfPixel (v % 1024) (v % 2 ^ 20 / 1024) = tile) } }

/-- The pixel-banks of a tile that borrow are counted (R241). -/
def State.noteBorrowers (s : State) (tile : Nat) : State :=
  { s with matte := { s.matte with borrowNow := s.matte.borrowNow + s.tileBorrowers tile, borrowSeen := true } }

/-- A tile is computed pixel by pixel and both its signatures are posted. -/
def State.tileSigned (s : State) (tile : Nat) : State := ((s.peTile tile).postSignature tile).postReadSig tile

/-- A tile counts as done. -/
def State.markDone (s : State) (tile : Nat) : State :=
  { s with cad := { s.cad with done := s.cad.done ||| 1 <<< tile } }

/-- Of the tiles that an engine computes in a frame, every one is done. -/
def engineDone (computing done q : Nat) : Bool := (tilesOfQuadrant q).all (fun u => !bit computing u || bit done u)

/-- The event of an engine that has met a saturated pixel in this frame. -/
def State.noteSaturation (s : State) (q : Nat) : State := if bit s.cad.satSeen q then s.evt (pgPe q) 9 else s

/-- An engine's end-of-frame mark. -/
def State.markFrame (s : State) (q : Nat) : State :=
  { s.noteSaturation q with safe := { (s.noteSaturation q).safe with marks := (s.noteSaturation q).safe.marks ||| 1 <<< q } }

/-- A signed tile counts as done, and the last one of its quadrant brings the engine's mark. -/
def State.tileCounted (s : State) (tile : Nat) : State :=
  if engineDone (s.markDone tile).cad.computing (s.markDone tile).cad.done (portGroup tile) then
    (s.markDone tile).markFrame (portGroup tile)
  else s.markDone tile

theorem State.peTileDone_computed (late : List Nat) (h : s.tileComputed tile = true) : s.peTileDone tile late =
    (((s.noteLate tile late).noteBorrowers tile).tileSigned tile).tileCounted tile := by
  unfold State.peTileDone
  rw [if_neg (by simp [h])]
  rfl

theorem State.peTileDone_idle (late : List Nat) (h : s.tileComputed tile = false) : s.peTileDone tile late = s := by
  unfold State.peTileDone
  rw [if_pos (by simp [h])]

theorem State.noteSaturation_cad (s : State) (q : Nat) : (s.noteSaturation q).cad = s.cad := by
  unfold State.noteSaturation
  split
  · exact State.evt_cad ..
  · rfl

theorem State.noteSaturation_safe (s : State) (q : Nat) : (s.noteSaturation q).safe = s.safe := by
  unfold State.noteSaturation
  split
  · exact State.evt_safe ..
  · rfl

theorem State.markFrame_marks (s : State) (q : Nat) : (s.markFrame q).safe.marks = s.safe.marks ||| 1 <<< q := by
  unfold State.markFrame
  rw [State.noteSaturation_safe]

theorem State.markFrame_cad (s : State) (q : Nat) : (s.markFrame q).cad = s.cad := s.noteSaturation_cad q

theorem State.tileCounted_done (s : State) (tile : Nat) : (s.tileCounted tile).cad.done = s.cad.done ||| 1 <<< tile := by
  unfold State.tileCounted
  split
  · rw [State.markFrame_cad]
    rfl
  · rfl

theorem State.tileCounted_eq (s : State) (tile : Nat) : s.tileCounted tile =
    if engineDone s.cad.computing (s.cad.done ||| 1 <<< tile) (portGroup tile) then
      (s.markDone tile).markFrame (portGroup tile)
    else s.markDone tile := rfl

theorem State.tileCounted_last (h : engineDone s.cad.computing (s.cad.done ||| 1 <<< tile) (portGroup tile) = true) :
    (s.tileCounted tile).safe.marks = s.safe.marks ||| 1 <<< portGroup tile := by
  rw [State.tileCounted_eq, if_pos h, State.markFrame_marks]
  rfl

theorem State.tileCounted_not_last (h : engineDone s.cad.computing (s.cad.done ||| 1 <<< tile) (portGroup tile) = false) :
    (s.tileCounted tile).safe = s.safe := by
  rw [State.tileCounted_eq, if_neg (by simp [h])]
  rfl

theorem State.tileCounted_same (s : State) (tile : Nat) :
    State.SameBut [.cad, .safe, .out, .page .pe] s (s.tileCounted tile) := by
  have hdone : State.SameBut [.cad, .safe, .out, .page .pe] s (s.markDone tile) :=
    State.SameOutside.set_cad (State.SameOutside.refl _ s) rfl
  refine State.SameOutside.ite (State.SameOutside.set_safe (State.SameOutside.ite ?_ hdone) rfl) hdone
  exact State.evt_same hdone rfl (pageMask_pe _ rfl)

/-! ### A tile is frozen at its deadline (R159) -/

theorem exec_tileSignatureDeadline_on (h : s.boot.powered = true) (tile : Fin 16) :
    exec (.tileSignatureDeadline tile) s = .next (s.signatureDeadline tile) :=
  congrArg Host.Outcome.next (State.live_on h _)

/-- A tile awaits its signature. -/
def State.signatureDue (s : State) (tile : Nat) : Bool :=
  bit s.cad.computing tile && !bit s.cad.done tile && !s.fbit pgTime TIME.STILL_STAT.STILL

/-- A frozen tile is shown, counted and raises FREEZE. -/
def State.frozen (s : State) (tile : Nat) : State :=
  ((s.fset pgTime TIME.FREEZE_STAT.TILES (s.fget pgTime TIME.FREEZE_STAT.TILES ||| 1 <<< tile)).finc pgTime
    TIME.FREEZE_STAT.COUNT).evt pgTime 18

theorem State.freeze_eq (s : State) (tile : Nat) :
    s.freeze tile = (s.frozen tile).report { src := pgPe (portGroup tile), cls := 4 } := rfl

/-- The deadline of the signatures of a frame, on the model's clock. -/
def State.signatureLimit (s : State) : Nat := s.time.boundaryAt + s.period * 92 / 100 / 65536

theorem State.signatureDeadline_due (h : s.signatureDue tile = true) : s.signatureDeadline tile =
    ((s.advanceTo s.signatureLimit).frozen tile).report { src := pgPe (portGroup tile), cls := 4 } :=
  (if_pos h).trans (State.freeze_eq _ tile)

theorem State.signatureDeadline_met (h : s.signatureDue tile = false) : s.signatureDeadline tile = s :=
  if_neg (by rw [← State.signatureDue, h]; decide)

theorem State.frozen_shown (s : State) (ht : tile < 16) :
    bit ((s.frozen tile).fget pgTime TIME.FREEZE_STAT.TILES) tile = true := by
  have hread : (s.frozen tile).fget pgTime TIME.FREEZE_STAT.TILES =
      (s.fget pgTime TIME.FREEZE_STAT.TILES ||| 1 <<< tile) % 2 ^ 16 := by
    unfold State.frozen
    rw [State.evt_fget, State.finc_fget_apart (by decide)]
    exact State.fget_fset_self _ _ _ _ (by decide)
  rw [hread, bit_eq_testBit, Nat.testBit_mod_two_pow, ← bit_eq_testBit, bit_or, bit_one_shiftLeft]
  simp [ht]

theorem State.frozen_count (s : State) (tile : Nat) : (s.frozen tile).fget pgTime TIME.FREEZE_STAT.COUNT =
    min (s.fget pgTime TIME.FREEZE_STAT.COUNT + 1) 65535 := by
  unfold State.frozen
  rw [State.evt_fget, State.finc_fget (by decide), State.fset_fget_apart (by decide)]
  rfl

theorem State.frozen_event (s : State) (tile : Nat) : ((s.frozen tile).hdr pgTime).evt.getLsbD 18 = true :=
  State.evt_set _ _ _ (by decide)

theorem State.frozen_mono (s : State) (tile : Nat) : (s.frozen tile).mono = s.mono := by
  unfold State.frozen
  rw [State.evt_mono, State.finc_mono, State.fset_mono]

theorem State.frozen_at_limit_same (s : State) (i tile : Nat) :
    State.SameBut [.mono, .time, .out, .page .time] s ((s.advanceTo i).frozen tile) := by
  unfold State.frozen
  exact State.evt_same (State.finc_same (State.fset_same (State.advanceTo_same (State.SameOutside.refl _ s) rfl) rfl
    (pageMask_time rfl)) rfl (pageMask_time rfl)) rfl (pageMask_time rfl)

/-! ### The statement -/

/-- Settles O15: a tile that is computed is signed and counted, one that is due at the deadline is frozen and reported, and any
other changes nothing. -/
theorem tilesAreDoneOrFrozen : Obligations.TilesAreDoneOrFrozen := by
  unfold Obligations.TilesAreDoneOrFrozen
  refine fun s tile late hon => ⟨fun h => ?_, fun h => ?_, fun h => ?_, fun h => ?_⟩
  case refine_1 =>
    refine ⟨_, _, rfl, rfl, _, ?_, State.tileCounted_done _ tile, State.tileCounted_last, State.tileCounted_not_last,
      State.tileCounted_same _ tile⟩
    rw [exec_peTileDone_on hon, State.peTileDone_computed late h]
    rfl
  case refine_2 => rw [exec_peTileDone_on hon, State.peTileDone_idle late h]
  case refine_3 =>
    refine ⟨(s.advanceTo s.signatureLimit).frozen tile, ?_, State.frozen_shown _ tile.isLt, ?_, State.frozen_event _ tile, ?_,
      s.frozen_at_limit_same _ tile⟩
    · rw [exec_tileSignatureDeadline_on hon, State.signatureDeadline_due h]
    · rw [State.frozen_count, State.fget_of_pages (State.advanceTo_pages ..)]
    · rw [State.frozen_mono, State.advanceTo_mono]
      rfl
  case refine_4 => rw [exec_tileSignatureDeadline_on hon, State.signatureDeadline_met h]

end Sys2Proof.Machine
end

section
/-! PROOFS. The overlay library: its words written and read at LIB_ADDR, the library sealed once it is checked, and opened
again (R178, R179, R204). -/

namespace Sys2Proof.Machine

variable {s : State} {m arg i reason : Nat} {data : BitVec 32}

/-! ### LIB_DATA (R178) -/

theorem exec_libDataWrite_on (h : s.boot.powered = true) (m : Master) (data : BitVec 32) :
    exec (.libDataWrite m data) s = .next (s.writeReg m.id pgOvl OVL.LIB_DATA.DATA.off data.toNat) :=
  congrArg Host.Outcome.next (State.live_on h _)

theorem exec_libDataRead_on (h : s.boot.powered = true) (m : Master) :
    exec (.libDataRead m) s = .next (s.readReg m.id pgOvl OVL.LIB_DATA.DATA.off) :=
  congrArg Host.Outcome.next (State.live_on h _)

/-- A write of LIB_DATA that goes through stores in the library alone. -/
theorem State.writeLibData_eq (h : s.writes m pgOvl OVL.LIB_DATA.DATA.off data.toNat = true) :
    s.writeReg m pgOvl OVL.LIB_DATA.DATA.off data.toNat = (s.libWrite data).emit (.access m 0 0) := by
  have hreg : regOf (addrOf pgOvl OVL.LIB_DATA.DATA.off) = some ({ off := 0x068, rw := 0xFFFFFFFF }, 0) := rfl
  have hhook (t : State) : t.blockHook m pgOvl OVL.LIB_DATA.DATA.off data.toNat = t.libWrite (BitVec.ofNat 32 data.toNat) :=
    rfl
  rw [State.writeBlock_ok h (by decide) (by decide) hreg data.isLt (.inl rfl) (by decide) (Nat.and_zero _),
    if_pos (by decide), hhook, BitVec.ofNat_toNat, BitVec.setWidth_eq]

/-- A read of LIB_DATA that goes through answers with the word at LIB_ADDR. -/
theorem State.readLibData_eq (h : s.reads m pgOvl OVL.LIB_DATA.DATA.off = true) :
    s.readReg m pgOvl OVL.LIB_DATA.DATA.off = s.libRead.2.emit (.access m 0 s.libRead.1.toNat) :=
  State.readBlock_eq h (by decide) (by decide) (show regOf _ = some (_, 0) from rfl)

/-- LIB_ADDR moves on by one word, from the last to the first. -/
theorem State.fwrap_libAddr (s : State) : (s.fwrap pgOvl OVL.LIB_ADDR.WORD).fget pgOvl OVL.LIB_ADDR.WORD =
    (s.fget pgOvl OVL.LIB_ADDR.WORD + 1) % 65536 :=
  State.fget_fset_self _ _ _ _ (by decide)

theorem State.libWrite_libAddr (s : State) (w : Word) : (s.libWrite w).fget pgOvl OVL.LIB_ADDR.WORD =
    (s.fget pgOvl OVL.LIB_ADDR.WORD + 1) % 65536 :=
  State.fwrap_libAddr _

theorem State.libWrite_lib (s : State) (w : Word) (a : Nat) : SMap.read 0 (s.libWrite w).cmp.lib a =
    if a = s.fget pgOvl OVL.LIB_ADDR.WORD then w else SMap.read 0 s.cmp.lib a := by
  unfold State.libWrite
  rw [State.fwrap_cmp]
  split
  · next h => rw [h, SMap.read_write_self]
  · next h => exact SMap.read_write_other _ _ _ h _

/-! ### SEAL and UNSEAL start (R179, R204) -/

theorem exec_ovlSeal_on (h : s.boot.powered = true) (m : Master) :
    exec (.ovlSeal m) s = .next (s.command m.id pgOvl 0x10 0) :=
  congrArg Host.Outcome.next (State.live_on h _)

theorem exec_ovlUnseal_on (h : s.boot.powered = true) (m : Master) :
    exec (.ovlUnseal m) s = .next (s.command m.id pgOvl 0x11 0) :=
  congrArg Host.Outcome.next (State.live_on h _)

theorem pgOvl_ne_pgReel (q : Nat) : pgOvl ≠ pgReel q := by
  unfold pgOvl pgReel
  omega

/-- SEAL stays running: its check of the library takes its time. -/
theorem State.seal_command (h : s.accepts m pgOvl 0x10 0 = true) :
    s.command m pgOvl 0x10 0 = (s.cmdStart pgOvl 0x10 0 m).emit (.access m 0 0) := by
  rw [State.command_eq h (by decide) (by decide) (.inr fun q _ => pgOvl_ne_pgReel q)]
  rfl

/-- UNSEAL as far as its answer. -/
def State.libUnsealed (s : State) (m : Nat) : State :=
  (((s.cmdStart pgOvl 0x11 0 m).fset pgOvl OVL.LIB_STAT.SEALED 0).cmdDone pgOvl).emit (.access m 0 0)

theorem State.unseal_command (h : s.accepts m pgOvl 0x11 0 = true) : s.command m pgOvl 0x11 0 = s.libUnsealed m := by
  rw [State.command_eq h (by decide) (by decide) (.inr fun q _ => pgOvl_ne_pgReel q)]
  rfl

theorem State.libUnsealed_done (s : State) (m : Nat) :
    (s.libUnsealed m).Done pgOvl 0x11 m ∧ (s.libUnsealed m).Answers (.access m 0 0) :=
  State.ended_done (arg := 0) (State.cmdStart_run ..)

theorem State.libUnsealed_sealed (s : State) (m : Nat) : (s.libUnsealed m).fbit pgOvl OVL.LIB_STAT.SEALED = false := by
  unfold State.libUnsealed State.fbit
  rw [State.ended_fget, State.fset_fget (by decide) (by decide)]
  rfl

theorem State.libUnsealed_same (s : State) (m : Nat) : State.SameBut [.out, .page .ovl] s (s.libUnsealed m) :=
  State.emit_same (State.cmdDone_same (State.fset_same (State.cmdStart_same (State.SameOutside.refl _ s) rfl
    (pageMask_ovl rfl)) rfl (pageMask_ovl rfl)) rfl (pageMask_ovl rfl)) rfl

/-! ### The check of SEAL ends (R179) -/

theorem exec_libSealDone_on (h : s.boot.powered = true) : exec .libSealDone s = .next s.libSealDone :=
  congrArg Host.Outcome.next (State.live_on h _)

/-- The entries of the directory that are present. -/
def State.symbolsPresent (s : State) : List Nat := (List.range 64).filter s.symbolPresent

/-- A library without fault is sealed. -/
def State.libSealed (s : State) : State :=
  ((((s.fset pgOvl OVL.LIB_STAT.SEALED 1).fset pgOvl OVL.LIB_STAT.SEAL_FAIL 0).fset pgOvl OVL.LIB_STAT.SYMBOLS
    s.symbolsPresent.length).evt pgOvl 8).cmdDone pgOvl

/-- A library with a fault is not. -/
def State.libSealFailed (s : State) (reason : Nat) : State :=
  ((s.fset pgOvl OVL.LIB_STAT.SEAL_FAIL 1).evt pgOvl 9).cmdFail pgOvl reason

theorem State.libSealDone_idle (h : s.running pgOvl 0x10 = false) : s.libSealDone = s := by
  unfold State.libSealDone
  rw [h]
  rfl

theorem State.libSealDone_eq (h : s.running pgOvl 0x10 = true) : s.libSealDone =
    if s.libCrc = s.fget pgOvl OVL.LIB_SEAL.CRC ∧ s.symbolsPresent.all s.symbolOk = true then s.libSealed
    else s.libSealFailed (if s.libCrc = s.fget pgOvl OVL.LIB_SEAL.CRC then 0x25 else 0x24) := by
  unfold State.libSealDone
  simp only [h, Bool.not_true, Bool.false_eq_true, if_false, Bool.and_eq_true, decide_eq_true_eq]
  rfl

theorem State.running_of_run_self {p op : Nat} (h : (s.hdr p).run = some ⟨op, arg, i⟩) : s.running p op = true := by
  unfold State.running
  rw [h]
  exact beq_self_eq_true op

theorem State.symbolsPresent_length (s : State) : s.symbolsPresent.length < 2 ^ 7 :=
  Nat.lt_of_le_of_lt (List.length_filter_le _ _) (by rw [List.length_range]; decide)

theorem State.libSealed_done (h : (s.hdr pgOvl).run = some ⟨0x10, arg, i⟩) : s.libSealed.Done pgOvl 0x10 i :=
  State.cmdDone_done (g := arg) _ _ ((State.evt_hdr_run ..).trans h)

theorem State.libSealed_sealed (s : State) : s.libSealed.fbit pgOvl OVL.LIB_STAT.SEALED = true := by
  unfold State.libSealed State.fbit
  rw [State.cmdDone_fget, State.evt_fget, State.fset_fget_apart (by decide), State.fset_fget_apart (by decide),
    State.fset_fget (by decide) (by decide)]
  rfl

theorem State.libSealed_symbols (s : State) :
    s.libSealed.fget pgOvl OVL.LIB_STAT.SYMBOLS = s.symbolsPresent.length := by
  unfold State.libSealed
  rw [State.cmdDone_fget, State.evt_fget, State.fset_fget (by decide) s.symbolsPresent_length]

/-- A flag that is set stays set when a command ends. -/
theorem State.cmdDone_keeps {p q k : Nat} (h : (s.hdr p).evt.getLsbD k = true) :
    ((s.cmdDone q).hdr p).evt.getLsbD k = true := by
  unfold State.cmdDone
  split
  · exact h
  · refine State.evt_keeps _ _ _ _ _ ?_
    by_cases hp : p = q
    · subst hp
      simp only [State.setHdr_hdr_self]
      exact h
    · rw [State.setHdr_hdr_other _ _ _ _ hp, State.setHdr_hdr_other _ _ _ _ hp]
      exact h

theorem State.libSealed_event (s : State) : (s.libSealed.hdr pgOvl).evt.getLsbD 8 = true :=
  State.cmdDone_keeps (State.evt_set _ _ _ (by decide))

/-- A command that runs ends FAILED with a reason. -/
theorem State.cmdFail_failed {p op : Nat} (h : (s.hdr p).run = some ⟨op, arg, i⟩) :
    (s.cmdFail p reason).Failed p op i reason := by
  have heq : s.cmdFail p reason = (s.setHdr p { s.hdr p with run := none }).cmdEnd p op i 6 reason := by
    unfold State.cmdFail
    rw [h]
  rw [heq]
  unfold State.cmdEnd
  rw [if_neg (by decide)]
  refine ⟨?_, ?_, ?_, ?_, ?_, State.evt_set _ _ _ (by decide)⟩ <;> simp

theorem State.libSealFailed_failed (h : (s.hdr pgOvl).run = some ⟨0x10, arg, i⟩) :
    (s.libSealFailed reason).Failed pgOvl 0x10 i reason :=
  State.cmdFail_failed (arg := arg) ((State.evt_hdr_run ..).trans h)

/-! ### The statement -/

/-- Settles O30: LIB_DATA comes to `libWrite` and `libRead`, SEAL stays running until the check, which comes to `libSealed` or
`libSealFailed`, and UNSEAL ends at once. -/
theorem overlayLibraryIsSealed : Obligations.OverlayLibraryIsSealed := by
  unfold Obligations.OverlayLibraryIsSealed
  refine fun s m => ⟨fun data h => ?_, fun h => ?_, fun h => ?_, fun h => ?_, fun arg i hon hrun => ?_, fun hon hidle => ?_⟩
  case refine_1 =>
    refine ⟨(s.libWrite data).emit (.access m.id 0 0), ?_, State.emit_answers _ _, s.libWrite_lib data,
      s.libWrite_libAddr data, State.emit_same (State.libWrite_same (State.SameOutside.refl _ s) rfl) rfl⟩
    rw [exec_libDataWrite_on (State.writes_powered h), State.writeLibData_eq h]
  case refine_2 =>
    refine ⟨s.libRead.2.emit (.access m.id 0 s.libRead.1.toNat), ?_, State.emit_answers _ _, s.fwrap_libAddr,
      State.emit_same (State.libRead_same (State.SameOutside.refl _ s) rfl) rfl⟩
    rw [exec_libDataRead_on (State.reads_powered h), State.readLibData_eq h]
  case refine_3 =>
    refine ⟨(s.cmdStart pgOvl 0x10 0 m.id).emit (.access m.id 0 0), ?_, State.cmdStart_runs .., State.emit_answers _ _,
      fun _ => rfl, State.emit_same (State.cmdStart_same (State.SameOutside.refl _ s) rfl (pageMask_ovl rfl)) rfl⟩
    rw [exec_ovlSeal_on (State.accepts_powered h), State.seal_command h]
  case refine_4 =>
    obtain ⟨hdone, hanswers⟩ := s.libUnsealed_done m.id
    refine ⟨s.libUnsealed m.id, ?_, hdone, hanswers, s.libUnsealed_sealed m.id, s.libUnsealed_same m.id⟩
    rw [exec_ovlUnseal_on (State.accepts_powered h), State.unseal_command h]
  case refine_5 =>
    have heq := State.libSealDone_eq (State.running_of_run_self hrun)
    refine ⟨s.libSealDone, exec_libSealDone_on hon, fun hcrc hdir => ?_, fun hcrc => ?_, fun hcrc hdir => ?_,
      State.libSealDone_same (State.SameOutside.refl _ s) rfl⟩
    · rw [heq, if_pos ⟨hcrc, hdir⟩]
      exact ⟨State.libSealed_done hrun, s.libSealed_sealed, s.libSealed_event, s.libSealed_symbols⟩
    · rw [heq, if_neg fun hok => hcrc hok.1, if_neg hcrc]
      exact State.libSealFailed_failed hrun
    · rw [heq, if_neg fun hok => Bool.false_ne_true (hdir.symm.trans hok.2), if_pos hcrc]
      exact State.libSealFailed_failed hrun
  case refine_6 => rw [exec_libSealDone_on hon, State.libSealDone_idle hidle]

end Sys2Proof.Machine
end

section
/-! PROOFS. Fences, the overlay signature and captures: surfaces retired and windows freed, the signature of the frame posted, a
capture asked for and completed (R182, R189, R190, R196). -/

namespace Sys2Proof.Machine

variable {s t u v : State} {p q l k b : Nat} {f g : Fld}

/-! ### Pages and bits -/

theorem State.SamePage.of_fset (x : Nat) (h : q ≠ p) : State.SamePage q s (s.fset p f x) :=
  ⟨rfl, fun _ => ⟨State.setWord_word_other _ _ _ _ (addrOf_ne h), rfl, rfl, rfl⟩⟩

theorem State.SamePage.fget (h : State.SamePage p s t) (f : Fld) : t.fget p f = s.fget p f := by
  unfold State.fget
  rw [(h.2 f.off).1]

theorem and_mod_two (x a : Nat) : (x &&& a) % 2 = x % 2 * (a % 2) := by
  rw [show (x &&& a) % 2 = x % 2 &&& a % 2 from Nat.and_mod_two_pow (n := 1)]
  rcases Nat.mod_two_eq_zero_or_one x with hx | hx <;> rw [hx]
  · rw [Nat.zero_and, Nat.zero_mul]
  · rw [Nat.one_mul, Nat.and_comm, Nat.and_one_is_mod, Nat.mod_mod]

/-- Bits that a number has are taken from it without a borrow. -/
theorem bit_sub_and (a x i : Nat) : bit (a - (x &&& a)) i = (bit a i && !bit x i) := by
  simp only [bit_eq_testBit]
  induction i generalizing a x with
  | zero =>
    have hle : x &&& a ≤ a := Nat.and_le_right
    have hlow := and_mod_two x a
    simp only [Nat.testBit_zero]
    rcases Nat.mod_two_eq_zero_or_one x with hx | hx
    · have hkept : (a - (x &&& a)) % 2 = a % 2 := by rw [hx, Nat.zero_mul] at hlow; omega
      simp [hkept, hx]
    · have hgone : (a - (x &&& a)) % 2 = 0 := by rw [hx, Nat.one_mul] at hlow; omega
      simp [hgone, hx]
  | succ i ih =>
    have hhalf : (a - (x &&& a)) / 2 = a / 2 - (x / 2 &&& a / 2) := by
      have hle : x &&& a ≤ a := Nat.and_le_right
      have hlow : (x &&& a) % 2 ≤ a % 2 := by
        rw [and_mod_two]
        exact (Nat.mul_le_mul_right _ (Nat.le_of_lt_succ (Nat.mod_lt x (by decide)))).trans_eq (Nat.one_mul _)
      rw [← Nat.and_div_two]
      omega
    rw [Nat.testBit_succ, hhalf, ih, Nat.testBit_succ, Nat.testBit_succ]

/-- The bits of a mask that another lacks. -/
theorem bit_lacking (v : Nat) {w : Nat} (hw : w < 16) : bit (0xFFFF - v % 0x10000) w = !bit v w := by
  have hsucc : 0xFFFF - v % 0x10000 = 2 ^ 16 - (v % 2 ^ 16 + 1) := by omega
  rw [hsucc, bit_eq_testBit, Nat.testBit_two_pow_sub_succ (Nat.mod_lt _ (by decide)), Nat.testBit_mod_two_pow, bit_eq_testBit]
  simp [hw]

theorem bitsSet_nodup (v n : Nat) : (bitsSet v n).Nodup := List.nodup_range.filter _

theorem mem_bitsSet_iff {v n i : Nat} : i ∈ bitsSet v n ↔ i < n ∧ bit v i = true := by
  unfold bitsSet
  rw [List.mem_filter, List.mem_range]

/-! ### A fence retires surfaces (R189) -/

theorem exec_retireFence_on (h : s.boot.powered = true) (layers : BitVec 8) (windows : BitVec 16) :
    exec (.retireFence layers windows) s = .next (s.retireFence layers.toNat windows.toNat) :=
  congrArg Host.Outcome.next (State.live_on h _)

/-- The surface of a layer that waits for its fence is retired. -/
def State.surfaceRetired (s : State) (l b : Nat) : State :=
  ((({ s with cmp := { s.cmp with retiring := SMap.write none s.cmp.retiring l none } } : State).fwrap (pgLyr l)
    LYR.RETIRE.SEQ).fset (pgLyr l) LYR.RETIRE_BASE.BASE b).evt (pgLyr l) 8

/-- The last read of a layer has returned. -/
def State.layerFenced (s : State) (l : Nat) : State :=
  match SMap.read none s.cmp.retiring l with
  | none => s
  | some b => s.surfaceRetired l b

/-- The last reads of several layers have returned. -/
def State.layersFenced (s : State) (layers : Nat) : State := (bitsSet layers 8).foldl State.layerFenced s

theorem State.layerFenced_some (h : SMap.read none s.cmp.retiring l = some b) : s.layerFenced l = s.surfaceRetired l b := by
  unfold State.layerFenced
  rw [h]

theorem State.layerFenced_none (h : SMap.read none s.cmp.retiring l = none) : s.layerFenced l = s := by
  unfold State.layerFenced
  rw [h]

theorem State.surfaceRetired_cmp (s : State) (l b : Nat) : (s.surfaceRetired l b).cmp =
    { s.cmp with retiring := SMap.write none s.cmp.retiring l none } :=
  State.evt_cmp ..

theorem State.surfaceRetired_retiring (s : State) (l b : Nat) :
    SMap.read none (s.surfaceRetired l b).cmp.retiring l = none := by
  rw [State.surfaceRetired_cmp]
  exact SMap.read_write_self _ s.cmp.retiring l none

theorem State.surfaceRetired_base (s : State) (l b : Nat) :
    (s.surfaceRetired l b).fget (pgLyr l) LYR.RETIRE_BASE.BASE = b % 2 ^ 27 :=
  (State.evt_fget ..).trans (State.fget_fset_self _ _ _ _ (by decide))

theorem State.surfaceRetired_seq (s : State) (l b : Nat) : (s.surfaceRetired l b).fget (pgLyr l) LYR.RETIRE.SEQ =
    (s.fget (pgLyr l) LYR.RETIRE.SEQ + 1) % 65536 := by
  unfold State.surfaceRetired
  rw [State.evt_fget, State.fset_fget_apart (by decide)]
  exact State.fget_fset_self _ _ _ _ (by decide)

theorem State.surfaceRetired_event (s : State) (l b : Nat) :
    ((s.surfaceRetired l b).hdr (pgLyr l)).evt.getLsbD 8 = true :=
  State.evt_set _ _ _ (by decide)

/-- The page of a layer and the surface that it waits for are as they were. -/
def State.LayerKept (l : Nat) (s t : State) : Prop :=
  State.SamePage (pgLyr l) s t ∧ SMap.read none t.cmp.retiring l = SMap.read none s.cmp.retiring l

theorem State.LayerKept.refl (l : Nat) (s : State) : State.LayerKept l s s := ⟨State.SamePage.refl _ s, rfl⟩

theorem State.LayerKept.trans (h : State.LayerKept l s t) (h' : State.LayerKept l t u) : State.LayerKept l s u :=
  ⟨h.1.trans h'.1, h'.2.trans h.2⟩

/-- The replaced surface of a layer has retired: its page shows the surface, counts it and has RETIRED set. -/
def State.LayerRetired (l b : Nat) (s t : State) : Prop :=
  SMap.read none t.cmp.retiring l = none ∧ t.fget (pgLyr l) LYR.RETIRE_BASE.BASE = b % 2 ^ 27 ∧
    t.fget (pgLyr l) LYR.RETIRE.SEQ = (s.fget (pgLyr l) LYR.RETIRE.SEQ + 1) % 65536 ∧
    (t.hdr (pgLyr l)).evt.getLsbD 8 = true

theorem State.surfaceRetired_retired (s : State) (l b : Nat) : State.LayerRetired l b s (s.surfaceRetired l b) :=
  ⟨s.surfaceRetired_retiring l b, s.surfaceRetired_base l b, s.surfaceRetired_seq l b, s.surfaceRetired_event l b⟩

/-- What leaves a layer alone may come before and after its surface is retired. -/
theorem State.LayerKept.retired (h : State.LayerKept l s t) (hr : State.LayerRetired l b t u)
    (h' : State.LayerKept l u v) : State.LayerRetired l b s v := by
  obtain ⟨hnone, hbase, hseq, hevt⟩ := hr
  refine ⟨h'.2.trans hnone, (h'.1.fget _).trans hbase, (h'.1.fget _).trans (hseq.trans ?_), ?_⟩
  · rw [h.1.fget]
  · rw [h'.1.1, hevt]

theorem pgLyr_ne (hk : k < 8) (hl : l < 8) (h : k ≠ l) : pgLyr k ≠ pgLyr l := by
  unfold pgLyr
  omega

/-- The fence of one layer leaves the others alone. -/
theorem State.layerFenced_other (hk : k < 8) (hl : l < 8) (h : k ≠ l) : State.LayerKept k s (s.layerFenced l) := by
  have hp := pgLyr_ne hk hl h
  cases e : SMap.read none s.cmp.retiring l with
  | none =>
    rw [State.layerFenced_none e]
    exact State.LayerKept.refl k s
  | some b =>
    rw [State.layerFenced_some e]
    refine ⟨((State.samePage_of_pages _ rfl).trans (State.SamePage.of_fset _ hp)).trans
      ((State.SamePage.of_fset _ hp).trans (State.SamePage.of_evt hp)), ?_⟩
    rw [State.surfaceRetired_cmp]
    exact SMap.read_write_other none none s.cmp.retiring h none

theorem State.foldl_layerFenced_other {ls : List Nat} (hk : k < 8) (h : ∀ l ∈ ls, l < 8 ∧ k ≠ l) :
    State.LayerKept k s (ls.foldl State.layerFenced s) :=
  List.foldlRecOn ls _ (motive := State.LayerKept k s) (State.LayerKept.refl k s) fun _ ht l hl =>
    ht.trans (State.layerFenced_other hk (h l hl).1 (h l hl).2)

theorem State.layersFenced_other {layers : Nat} (hk : k < 8) (h : bit layers k = false) :
    State.LayerKept k s (s.layersFenced layers) :=
  State.foldl_layerFenced_other hk fun _ hl => ⟨(mem_bitsSet hl).1, fun e =>
    Bool.false_ne_true (h.symm.trans (e ▸ (mem_bitsSet hl).2))⟩

/-- A layer that is named is fenced once, before and after the others. -/
theorem State.layersFenced_named {layers : Nat} (hl : l < 8) (h : bit layers l = true) :
    ∃ u, State.LayerKept l s u ∧ State.LayerKept l (u.layerFenced l) (s.layersFenced layers) := by
  obtain ⟨before, after, hsplit⟩ := List.append_of_mem (mem_bitsSet_iff.mpr ⟨hl, h⟩)
  have hnodup : (before ++ l :: after).Nodup := hsplit ▸ bitsSet_nodup layers 8
  have hlt : ∀ k ∈ before ++ l :: after, k < 8 := fun k hk => (mem_bitsSet (hsplit.symm ▸ hk)).1
  rw [List.nodup_middle, List.nodup_cons, List.mem_append, not_or] at hnodup
  obtain ⟨⟨hbefore, hafter⟩, -⟩ := hnodup
  unfold State.layersFenced
  rw [hsplit, List.foldl_append, List.foldl_cons]
  exact ⟨_,
    State.foldl_layerFenced_other hl fun k hk => ⟨hlt k (by simp [hk]), fun e => hbefore (e ▸ hk)⟩,
    State.foldl_layerFenced_other hl fun k hk => ⟨hlt k (by simp [hk]), fun e => hafter (e ▸ hk)⟩⟩

/-- A layer without a replaced surface keeps its page, whether it is named or not. -/
theorem State.layersFenced_samePage {layers : Nat} (hl : l < 8)
    (h : bit layers l = false ∨ SMap.read none s.cmp.retiring l = none) :
    State.SamePage (pgLyr l) s (s.layersFenced layers) := by
  cases hbit : bit layers l with
  | false => exact (State.layersFenced_other hl hbit).1
  | true =>
    obtain ⟨u, ⟨hpage, hwaits⟩, hafter⟩ := State.layersFenced_named (s := s) hl hbit
    have hnone := h.resolve_left (by simp [hbit])
    rw [State.layerFenced_none (hwaits.trans hnone)] at hafter
    exact hpage.trans hafter.1

/-- A layer that is named and has a replaced surface retires it. -/
theorem State.layersFenced_retired {layers : Nat} (hl : l < 8) (hbit : bit layers l = true)
    (h : SMap.read none s.cmp.retiring l = some b) : State.LayerRetired l b s (s.layersFenced layers) := by
  obtain ⟨u, hbefore, hafter⟩ := State.layersFenced_named (s := s) hl hbit
  rw [State.layerFenced_some (hbefore.2.trans h)] at hafter
  exact hbefore.retired (u.surfaceRetired_retired l b) hafter

theorem State.layerFenced_same (h : State.SameBut [.cmp, .out, .page .lyr] t s) (l : Nat) :
    State.SameBut [.cmp, .out, .page .lyr] t (s.layerFenced l) := by
  cases e : SMap.read none s.cmp.retiring l with
  | none => rwa [State.layerFenced_none e]
  | some b =>
    rw [State.layerFenced_some e]
    exact State.evt_same (State.fset_same (State.fwrap_same (State.SameOutside.set_cmp h rfl) rfl (pageMask_lyr _ rfl)) rfl
      (pageMask_lyr _ rfl)) rfl (pageMask_lyr _ rfl)

theorem State.layersFenced_same (s : State) (layers : Nat) :
    State.SameBut [.cmp, .out, .page .lyr] s (s.layersFenced layers) :=
  State.SameOutside.foldl (State.SameOutside.refl _ s) fun l _ h => State.layerFenced_same h l

theorem State.layerFenced_sels (s : State) (l : Nat) : (s.layerFenced l).cmp.sels = s.cmp.sels := by
  cases e : SMap.read none s.cmp.retiring l with
  | none => rw [State.layerFenced_none e]
  | some b => rw [State.layerFenced_some e, State.surfaceRetired_cmp]

theorem State.layersFenced_selectedMask (s : State) (layers : Nat) :
    (s.layersFenced layers).selectedMask = s.selectedMask := by
  have hsels : (s.layersFenced layers).cmp.sels = s.cmp.sels :=
    List.foldlRecOn _ _ (motive := fun t : State => t.cmp.sels = s.cmp.sels) rfl fun t ht l _ =>
      (t.layerFenced_sels l).trans ht
  unfold State.selectedMask
  rw [hsels]

/-! ### A fence frees windows (R190) -/

/-- The busy windows that a fence names and no layer has selected. -/
def State.windowsDone (s : State) (windows : Nat) : Nat :=
  windows &&& s.fget pgCmp CMP.WIN_BUSY.BUSY &&& (0xFFFF - s.selectedMask % 0x10000)

/-- They are no longer busy. -/
def State.windowsFenced (s : State) (windows : Nat) : State :=
  if s.windowsDone windows = 0 then s
  else (s.fset pgCmp CMP.WIN_BUSY.BUSY (s.fget pgCmp CMP.WIN_BUSY.BUSY - s.windowsDone windows)).evt pgCmp 16

/-- A fence deals with its layers and then with its windows. -/
theorem State.retireFence_eq (s : State) (layers windows : Nat) :
    s.retireFence layers windows = (s.layersFenced layers).windowsFenced windows := rfl

theorem State.windowsFenced_fget (s : State) (windows : Nat) : (s.windowsFenced windows).fget pgCmp CMP.WIN_BUSY.BUSY =
    s.fget pgCmp CMP.WIN_BUSY.BUSY - s.windowsDone windows := by
  unfold State.windowsFenced
  split
  · next h => rw [h, Nat.sub_zero]
  · rw [State.evt_fget, State.fset_fget (by decide) (Nat.lt_of_le_of_lt (Nat.sub_le ..) (State.fget_lt ..))]

theorem State.windowsFenced_busy (s : State) (windows : Nat) {w : Nat} (hw : w < 16) :
    bit ((s.windowsFenced windows).fget pgCmp CMP.WIN_BUSY.BUSY) w =
      (bit (s.fget pgCmp CMP.WIN_BUSY.BUSY) w && !(bit windows w && !bit s.selectedMask w)) := by
  rw [State.windowsFenced_fget]
  unfold State.windowsDone
  rw [Nat.and_right_comm, bit_sub_and, bit_and, bit_lacking _ hw]

theorem State.windowsFenced_cmp (s : State) (windows : Nat) : (s.windowsFenced windows).cmp = s.cmp := by
  unfold State.windowsFenced
  split
  · rfl
  · exact State.evt_cmp ..

theorem State.windowsFenced_same (s : State) (windows : Nat) :
    State.SameBut [.out, .page .cmp] s (s.windowsFenced windows) :=
  State.SameOutside.ite (State.SameOutside.refl _ s)
    (State.evt_same (State.fset_same (State.SameOutside.refl _ s) rfl (pageMask_cmp rfl)) rfl (pageMask_cmp rfl))

theorem pageOf_lyr_type (l : Nat) : (pageOf (pgLyr l)).map Prod.fst = some .lyr := by rw [pageOf_lyr]; rfl

theorem State.windowsFenced_layer (s : State) (windows l : Nat) : State.SamePage (pgLyr l) s (s.windowsFenced windows) :=
  s.windowsFenced_same windows (.page .lyr) rfl _ (pageOf_lyr_type l)

theorem State.windowsFenced_kept (s : State) (windows l : Nat) : State.LayerKept l s (s.windowsFenced windows) :=
  ⟨s.windowsFenced_layer windows l, by rw [State.windowsFenced_cmp]⟩

/-! ### What a fence comes to -/

theorem State.retireFence_retired {layers : Nat} (windows : Nat) (hl : l < 8) (hbit : bit layers l = true)
    (h : SMap.read none s.cmp.retiring l = some b) : State.LayerRetired l b s (s.retireFence layers windows) :=
  (State.LayerKept.refl l s).retired (State.layersFenced_retired hl hbit h) (State.windowsFenced_kept ..)

theorem State.retireFence_busy (s : State) (layers windows : Nat) {w : Nat} (hw : w < 16) :
    bit ((s.retireFence layers windows).fget pgCmp CMP.WIN_BUSY.BUSY) w =
      (bit (s.fget pgCmp CMP.WIN_BUSY.BUSY) w && !(bit windows w && !bit s.selectedMask w)) := by
  rw [State.retireFence_eq, State.windowsFenced_busy _ _ hw, State.layersFenced_selectedMask,
    (s.layersFenced_same layers).fget (ty := .cmp) rfl rfl]

/-! ### The overlay signature (R182) -/

theorem exec_ovlSignaturePost_on (h : s.boot.powered = true) : exec .ovlSignaturePost s = .next s.postOverlaySig :=
  congrArg Host.Outcome.next (State.live_on h _)

/-- SIG_FRAME shows the frame and the phase of its heartbeat. -/
def State.sigFrameShown (s : State) : State :=
  (s.fset pgOvl OVL.SIG_FRAME.FRAME s.frame).fset pgOvl OVL.SIG_FRAME.HB_PHASE (s.frame % 2)

theorem State.sigFrameShown_fget (h : OVL.SIG_FRAME.FRAME.Apart g ∧ OVL.SIG_FRAME.HB_PHASE.Apart g) :
    s.sigFrameShown.fget p g = s.fget p g :=
  (State.fset_fget_apart h.2).trans (State.fset_fget_apart h.1)

theorem State.sigFrameShown_drawn (s : State) : s.sigFrameShown.overlayDrawn = s.overlayDrawn := by
  unfold State.overlayDrawn State.takes
  rw [State.sigFrameShown_fget (by decide), State.sigFrameShown_fget (by decide)]

theorem State.sigFrameShown_symbolWords (s : State) : s.sigFrameShown.symbolWords = s.symbolWords := by
  unfold State.symbolWords
  rw [State.sigFrameShown_fget (by decide)]
  rfl

/-- The signature does not cover the register that names its frame. -/
theorem State.sigFrameShown_sig (s : State) : s.sigFrameShown.overlaySig = s.overlaySig := by
  have hcolour : s.sigFrameShown.word (addrOf pgOvl 0x048) = s.word (addrOf pgOvl 0x048) :=
    (State.setWord_word_other _ _ _ _ (by decide)).trans (State.setWord_word_other _ _ _ _ (by decide))
  unfold State.overlaySig State.frame
  simp (disch := decide) only [State.sigFrameShown_fget, State.sigFrameShown_symbolWords, hcolour]

theorem State.postOverlaySig_drawn (h : s.overlayDrawn = true) : s.postOverlaySig =
    (s.sigFrameShown.fset pgOvl OVL.SIG.CRC s.overlaySig).fset pgOvl OVL.SIG_FRAME.DRAWN 1 := by
  rw [← State.sigFrameShown_sig]
  exact if_pos (s.sigFrameShown_drawn.trans h)

theorem State.postOverlaySig_hidden (h : s.overlayDrawn = false) :
    s.postOverlaySig = s.sigFrameShown.fset pgOvl OVL.SIG_FRAME.DRAWN 0 :=
  if_neg (by rw [← State.sigFrameShown, State.sigFrameShown_drawn, h]; decide)

/-- Whether or not the overlay is drawn, the frame and the phase of its heartbeat stand. -/
theorem State.postOverlaySig_fget (h : OVL.SIG.CRC.Apart g) (h' : OVL.SIG_FRAME.DRAWN.Apart g) :
    s.postOverlaySig.fget p g = s.sigFrameShown.fget p g := by
  cases hdrawn : s.overlayDrawn with
  | true => rw [State.postOverlaySig_drawn hdrawn, State.fset_fget_apart h', State.fset_fget_apart h]
  | false => rw [State.postOverlaySig_hidden hdrawn, State.fset_fget_apart h']

theorem State.postOverlaySig_frame (s : State) :
    s.postOverlaySig.fget pgOvl OVL.SIG_FRAME.FRAME = s.frame % 65536 := by
  rw [State.postOverlaySig_fget (by decide) (by decide)]
  exact (State.fset_fget_apart (by decide)).trans (State.fget_fset_self _ _ _ _ (by decide))

theorem State.postOverlaySig_phase (s : State) :
    s.postOverlaySig.fget pgOvl OVL.SIG_FRAME.HB_PHASE = s.frame % 2 := by
  rw [State.postOverlaySig_fget (by decide) (by decide)]
  exact State.fset_fget (by decide) (Nat.mod_lt _ (by decide))

theorem State.postOverlaySig_flag (s : State) :
    s.postOverlaySig.fbit pgOvl OVL.SIG_FRAME.DRAWN = s.overlayDrawn := by
  unfold State.fbit
  cases hdrawn : s.overlayDrawn with
  | true =>
    rw [State.postOverlaySig_drawn hdrawn, State.fset_fget (by decide) (by decide)]
    rfl
  | false =>
    rw [State.postOverlaySig_hidden hdrawn, State.fset_fget (by decide) (by decide)]
    rfl

theorem State.postOverlaySig_crc (h : s.overlayDrawn = true) :
    s.postOverlaySig.fget pgOvl OVL.SIG.CRC = s.overlaySig % 2 ^ 32 := by
  rw [State.postOverlaySig_drawn h, State.fset_fget_apart (by decide)]
  exact State.fget_fset_self _ _ _ _ (by decide)

/-! ### CAPTURE (R196) -/

theorem exec_capture_on (h : s.boot.powered = true) (m : Master) :
    exec (.capture m) s = .next (s.command m.id pgCmp 0x10 0) :=
  congrArg Host.Outcome.next (State.live_on h _)

theorem pgCmp_ne_pgReel (q : Nat) : pgCmp ≠ pgReel q := by
  unfold pgCmp pgReel
  omega

/-- The next whole frame is to be captured. -/
def State.captureArmed (s : State) : State := { s with cmp := { s.cmp with armed := true } }

/-- CAPTURE as far as its answer. -/
def State.captureAsked (s : State) (m : Nat) : State :=
  ((s.cmdStart pgCmp 0x10 0 m).captureArmed.cmdDone pgCmp).emit (.access m 0 0)

theorem State.capture_command (h : s.accepts m pgCmp 0x10 0 = true) : s.command m pgCmp 0x10 0 = s.captureAsked m := by
  rw [State.command_eq h (by decide) (by decide) (.inr fun q _ => pgCmp_ne_pgReel q)]
  rfl

theorem State.captureAsked_done (s : State) (m : Nat) :
    (s.captureAsked m).Done pgCmp 0x10 m ∧ (s.captureAsked m).Answers (.access m 0 0) :=
  State.ended_done (arg := 0) (State.cmdStart_run ..)

theorem State.captureAsked_cmp (s : State) (m : Nat) : (s.captureAsked m).cmp = { s.cmp with armed := true } := by
  unfold State.captureAsked
  rw [State.emit_cmp, State.cmdDone_cmp]
  rfl

theorem State.captureAsked_word (s : State) (m a : Nat) : (s.captureAsked m).word a = s.word a := by
  unfold State.captureAsked
  rw [State.emit_word, State.cmdDone_word]
  rfl

theorem State.captureAsked_same (s : State) (m : Nat) : State.SameBut [.cmp, .out, .page .cmp] s (s.captureAsked m) :=
  State.emit_same (State.cmdDone_same (State.SameOutside.set_cmp (State.cmdStart_same (State.SameOutside.refl _ s) rfl
    (pageMask_cmp rfl)) rfl) rfl (pageMask_cmp rfl)) rfl

/-! ### A capture is complete (R196) -/

theorem exec_capDone_on (h : s.boot.powered = true) : exec .capDone s = .next s.capDone :=
  congrArg Host.Outcome.next (State.live_on h _)

/-- The blocks of a monitor frame are in DRAM. -/
def State.captureStored (s : State) : State :=
  (List.range 262144).foldl (fun (u : State) i => u.putBlock (s.fget pgCmp CMP.CAP_BASE.BASE + i)
    (s.monBlock (i / 256) (i % 256)) (s.fget pgCmp CMP.CAP_CFG.TAG) false) s

theorem State.putBlock_cmp (s : State) (b data tag : Nat) (poison : Bool) : (s.putBlock b data tag poison).cmp = s.cmp :=
  State.putBlock_same (m := 2251799813701632) (State.SameOutside.refl _ s) rfl .cmp rfl

theorem State.captureStored_cmp (s : State) : s.captureStored.cmp = s.cmp :=
  List.foldlRecOn _ _ (motive := fun u : State => u.cmp = s.cmp) rfl fun _ hu _ _ =>
    (State.putBlock_cmp ..).trans hu

/-- CAP_STAT shows a capture as ended. -/
def State.captureEnded (s : State) (frame : Nat) : State :=
  ((({ s with cmp := { s.cmp with capturing := none } } : State).fset pgCmp CMP.CAP_STAT.BUSY 0).fset pgCmp
    CMP.CAP_STAT.FRAME frame).evt pgCmp 14

theorem State.capDone_some {frame : Nat} (h : s.cmp.capturing = some frame) :
    s.capDone = s.captureStored.captureEnded frame := by
  unfold State.capDone
  simp only [h]
  rw [← State.captureStored]
  rfl

theorem State.capDone_none (h : s.cmp.capturing = none) : s.capDone = s := by
  unfold State.capDone
  rw [h]

theorem State.captureEnded_cmp (s : State) (frame : Nat) :
    (s.captureEnded frame).cmp = { s.cmp with capturing := none } :=
  State.evt_cmp ..

theorem State.captureEnded_dram (s : State) (frame : Nat) : (s.captureEnded frame).dram = s.dram := State.evt_dram ..

theorem State.captureEnded_frame (s : State) (frame : Nat) :
    (s.captureEnded frame).fget pgCmp CMP.CAP_STAT.FRAME = frame % 65536 :=
  (State.evt_fget ..).trans (State.fget_fset_self _ _ _ _ (by decide))

theorem State.captureEnded_busy (s : State) (frame : Nat) : (s.captureEnded frame).fget pgCmp CMP.CAP_STAT.BUSY = 0 := by
  unfold State.captureEnded
  rw [State.evt_fget, State.fset_fget_apart (by decide), State.fset_fget (by decide) (by decide)]

theorem State.captureEnded_event (s : State) (frame : Nat) :
    ((s.captureEnded frame).hdr pgCmp).evt.getLsbD 14 = true :=
  State.evt_set _ _ _ (by decide)

/-! ### The statement -/

/-- Settles O31: a fence deals with its layers and then with its windows, the signature does not rest on the registers that show
it, and a capture is asked for by `captureAsked` and stands in DRAM before `captureEnded` shows it. -/
theorem fencesSignaturesAndCaptures : Obligations.FencesSignaturesAndCaptures := by
  unfold Obligations.FencesSignaturesAndCaptures
  refine fun s => ⟨fun layers windows hon => ?_, fun hon => ?_, fun m h => ?_, fun frame hon hcap => ?_, fun hon hcap => ?_⟩
  case refine_1 =>
    have hlayer (l : Nat) : layers.getLsbD l = bit layers.toNat l := (bit_eq_testBit ..).symm
    have hwindow (w : Nat) : windows.getLsbD w = bit windows.toNat w := (bit_eq_testBit ..).symm
    refine ⟨s.retireFence layers.toNat windows.toNat, exec_retireFence_on hon layers windows, fun l b hl hb => ?_,
      fun l hl h => ?_, fun w hw => ?_, State.retireFence_same (State.SameOutside.refl _ s) rfl⟩
    · exact State.retireFence_retired _ (BitVec.lt_of_getLsbD hl) (hlayer l ▸ hl) hb
    · rw [hlayer] at h
      exact (State.layersFenced_samePage hl h).trans (State.windowsFenced_layer ..)
    · rw [hwindow]
      exact s.retireFence_busy _ _ hw
  case refine_2 =>
    exact ⟨s.postOverlaySig, exec_ovlSignaturePost_on hon, s.postOverlaySig_frame, s.postOverlaySig_phase,
      s.postOverlaySig_flag, State.postOverlaySig_crc, State.postOverlaySig_same (State.SameOutside.refl _ s) rfl⟩
  case refine_3 =>
    obtain ⟨hdone, hanswers⟩ := s.captureAsked_done m.id
    refine ⟨s.captureAsked m.id, ?_, hdone, hanswers, s.captureAsked_cmp m.id, s.captureAsked_word m.id,
      s.captureAsked_same m.id⟩
    rw [exec_capture_on (State.accepts_powered h), State.capture_command h]
  case refine_4 =>
    refine ⟨s.captureStored.captureEnded frame, ?_, ?_, State.captureEnded_frame .., State.captureEnded_busy ..,
      State.captureEnded_event .., State.captureEnded_dram .., ?_⟩
    · rw [exec_capDone_on hon, State.capDone_some hcap]
    · rw [State.captureEnded_cmp, State.captureStored_cmp]
    · rw [← State.capDone_some hcap]
      exact State.capDone_same (State.SameOutside.refl _ s) rfl
  case refine_5 => rw [exec_capDone_on hon, State.capDone_none hcap]

end Sys2Proof.Machine
end

section
/-! PROOFS. Rebuilds: the temperatures in hand give each tile its factor, the wear phase and the records follow, and a trigger
falls due when WEAR_PERIOD_S is over; temperatures that have become stale (R216 to R220, R223). -/

namespace Sys2Proof.Machine

variable {s t : State} {r : Rebuild} {k n i : Nat}

/-! ### A rebuild starts (R217 to R219) -/

theorem exec_rebuildStart_on (h : s.boot.powered = true) : exec .rebuildStart s = .next s.rebuildStart :=
  congrArg Host.Outcome.next (State.live_on h _)

/-- The rebuild that the trigger in hand asks for. -/
def State.rebuildAsked (s : State) : Rebuild :=
  ⟨s.cad.due.getD false, !s.cad.due.getD false, 1 - s.fget (pgPe 0) PE.STAT.EFF_BUF, s.mono, none, s.cad.dueMgt,
    s.cad.exchange⟩

/-- The trigger is served: its rebuild runs, from the temperatures in hand. -/
def State.rebuildBegun (s : State) : State :=
  { s with cad := { s.cad with
      rebuild := some s.rebuildAsked, due := none, dueContent := false, dueMgt := false, lastStart := some s.mono,
      tempUsed := s.cad.temp } }

/-- A tile shows its factor and the temperature that gives it. -/
def State.tileFactor (s : State) (k : Nat) : State :=
  (s.fset (pgPe (portGroup k)) (PE.TILE_PHI.PHI (localTile k)) (s.phiOf (s.tileTemp k))).fset (pgPe (portGroup k))
    (PE.TILE_PHI.TEMP (localTile k)) (SMap.read 0 s.cad.temp k)

/-- The first tiles show theirs. -/
def State.tileFactors (s : State) (n : Nat) : State := (List.range n).foldl State.tileFactor s

theorem State.rebuildStart_due (h : s.rebuildMayStart = true) :
    s.rebuildStart = (s.rebuildBegun.tileFactors 16).fset pgCad CAD.STAT.REBUILD_BUSY 1 :=
  if_pos h

theorem State.rebuildStart_idle (h : s.rebuildMayStart = false) : s.rebuildStart = s :=
  if_neg (Bool.eq_false_iff.mp h)

theorem clampI_fits (x : Int) : (clampI 0 4095 x).toNat < 2 ^ 12 := by
  unfold clampI
  split
  · decide
  · split <;> omega

theorem State.phiOf_lt (s : State) (temp : Int) : s.phiOf temp < 2 ^ 12 := clampI_fits _

/-- Two tiles show their factors in different registers. -/
theorem tileRegister_inj (hk : k < 16) (hn : n < 16) (h : addrOf (pgPe (portGroup k)) (0x048 + 4 * localTile k) =
    addrOf (pgPe (portGroup n)) (0x048 + 4 * localTile n)) : k = n := by
  unfold addrOf pgPe portGroup localTile at h
  omega

theorem State.tileFactor_phi_self (s : State) (k : Nat) :
    (s.tileFactor k).fget (pgPe (portGroup k)) (PE.TILE_PHI.PHI (localTile k)) = s.phiOf (s.tileTemp k) :=
  (State.fset_fget_apart ⟨(by decide : 16 + 16 ≤ 32), .inr (.inl (by decide : 0 + 12 ≤ 16))⟩).trans
    (State.fset_fget (by decide : 0 + 12 ≤ 32) (s.phiOf_lt _))

theorem State.tileFactor_phi_other (hk : k < 16) (hn : n < 16) (h : k ≠ n) :
    (s.tileFactor n).fget (pgPe (portGroup k)) (PE.TILE_PHI.PHI (localTile k)) =
      s.fget (pgPe (portGroup k)) (PE.TILE_PHI.PHI (localTile k)) := by
  have haddr := fun e => h (tileRegister_inj hk hn e)
  exact (State.fget_fset_other _ _ _ _ _ _ (by decide : 16 + 16 ≤ 32) (.inl haddr)).trans
    (State.fget_fset_other _ _ _ _ _ _ (by decide : 0 + 12 ≤ 32) (.inl haddr))

theorem State.tileFactors_same (s : State) (n : Nat) : State.SameBut [.page .pe] s (s.tileFactors n) :=
  State.SameOutside.foldl (State.SameOutside.refl _ s) fun _ _ h =>
    State.fset_same (State.fset_same h rfl (pageMask_pe _ rfl)) rfl (pageMask_pe _ rfl)

/-- The factor of a tile rests on its temperature and on the reference temperatures of CAD. -/
theorem State.tilePhi_of_same (h : State.SameBut [.page .pe] s t) (k : Nat) :
    t.phiOf (t.tileTemp k) = s.phiOf (s.tileTemp k) := by
  have hcad : t.cad = s.cad := h .cad rfl
  unfold State.phiOf State.tileTemp State.fgetI
  rw [hcad, State.SameOutside.fget (ty := .cad) h rfl rfl, State.SameOutside.fget (ty := .cad) h rfl rfl]

theorem State.tileFactors_phi (hn : n ≤ 16) (hk : k < n) :
    (s.tileFactors n).fget (pgPe (portGroup k)) (PE.TILE_PHI.PHI (localTile k)) = s.phiOf (s.tileTemp k) := by
  induction n with
  | zero => exact absurd hk (Nat.not_lt_zero k)
  | succ n ih =>
    have hstep : s.tileFactors (n + 1) = (s.tileFactors n).tileFactor n := by
      unfold State.tileFactors
      rw [List.range_succ, List.foldl_append, List.foldl_cons, List.foldl_nil]
    rw [hstep]
    by_cases e : k = n
    · rw [e, State.tileFactor_phi_self, State.tilePhi_of_same (s.tileFactors_same n)]
    · rw [State.tileFactor_phi_other (by omega) (by omega) e, ih (by omega) (by omega)]

theorem State.rebuildStart_cad (h : s.rebuildMayStart = true) : s.rebuildStart.cad = s.rebuildBegun.cad := by
  rw [State.rebuildStart_due h, State.fset_cad]
  exact s.rebuildBegun.tileFactors_same 16 .cad rfl

theorem State.rebuildStart_busy (h : s.rebuildMayStart = true) : s.rebuildStart.fget pgCad CAD.STAT.REBUILD_BUSY = 1 := by
  rw [State.rebuildStart_due h]
  exact State.fset_fget (by decide) (by decide)

theorem State.rebuildStart_phi (h : s.rebuildMayStart = true) (hk : k < 16) :
    s.rebuildStart.fget (pgPe (portGroup k)) (PE.TILE_PHI.PHI (localTile k)) = s.phiOf (s.tileTemp k) := by
  have hpage : pgPe (portGroup k) ≠ pgCad := by
    unfold pgPe pgCad
    omega
  rw [State.rebuildStart_due h, State.fget_fset_page _ _ _ _ _ _ hpage]
  exact State.tileFactors_phi (Nat.le_refl 16) hk

/-! ### The wear phase ends (R223) -/

theorem exec_wearPhaseDone_on (h : s.boot.powered = true) : exec .wearPhaseDone s = .next s.wearPhaseDone :=
  congrArg Host.Outcome.next (State.live_on h _)

/-- A wear phase has no part in the clock. -/
theorem State.wearPhase_mono (s : State) : s.wearPhase.mono = s.mono :=
  State.wearPhase_same (m := 74872345986121728) (State.SameOutside.refl _ s) rfl .mono rfl

theorem State.wearPhaseDone_running (h : s.cad.rebuild = some r) (hwear : r.wear = true) (hdone : r.wearDone = false) :
    s.wearPhaseDone = { s.wearPhase with
      cad := { s.wearPhase.cad with rebuild := some { r with wearDone := true }, lastWear := s.mono } } := by
  have hgo : (r.wear && !r.wearDone) = true := by rw [hwear, hdone]; rfl
  unfold State.wearPhaseDone
  simp only [h]
  rw [if_pos hgo, State.wearPhase_mono]

/-! ### The records are written (R218, R220) -/

theorem exec_rebuildDone_on (h : s.boot.powered = true) : exec .rebuildDone s = .next s.rebuildDone :=
  congrArg Host.Outcome.next (State.live_on h _)

/-- Every record of the new buffer is written. -/
def State.recordsRebuilt (s : State) (r : Rebuild) : State :=
  (List.range 1048576).foldl (fun u i =>
    u.banks.foldl (fun u b => u.rebuildRecord r.swap r.buffer (i % 1024) (i / 1024) b) u) s

/-- The buffer waits for a boundary from now on. -/
def State.bufferWritten (s : State) (r : Rebuild) : State :=
  { s with cad := { s.cad with rebuild := some { r with written := some s.mono } } }

/-- Once the records are written the buffer waits, and an ACTIVE device tells its partner. -/
theorem State.rebuildDone_running (h : s.cad.rebuild = some r) (hdone : r.wearDone = true) (hnone : r.written = none) :
    ∃ x, s.rebuildDone = ((s.recordsRebuilt r).bufferWritten r).mirrorActive x := by
  have hgo : (r.wearDone && r.written.isNone) = true := by rw [hdone, hnone]; rfl
  unfold State.rebuildDone
  simp only [h]
  rw [if_pos hgo, ← State.recordsRebuilt]
  exact ⟨_, rfl⟩

theorem State.recordsRebuilt_same (s : State) (r : Rebuild) :
    State.SameBut [.dram, .mem, .pair, .out, .page .pair, .page .mem, .page .cad] s (s.recordsRebuilt r) :=
  State.SameOutside.foldl (State.SameOutside.refl _ s) fun _ _ h =>
    State.SameOutside.foldl h fun _ _ h => State.rebuildRecord_same h rfl

theorem State.bufferWritten_dram (s : State) (r : Rebuild) : (s.bufferWritten r).dram = s.dram := rfl

theorem State.bufferWritten_cad (s : State) (r : Rebuild) : ((s.recordsRebuilt r).bufferWritten r).cad =
    { s.cad with rebuild := some { r with written := some s.mono } } := by
  have hcad : (s.recordsRebuilt r).cad = s.cad := s.recordsRebuilt_same r .cad rfl
  have hmono : (s.recordsRebuilt r).mono = s.mono := s.recordsRebuilt_same r .mono rfl
  unfold State.bufferWritten
  rw [hcad, hmono]

theorem State.mirrorActive_cad (s : State) (x : Mirror) : (s.mirrorActive x).cad = s.cad :=
  State.mirrorActive_same (m := 562952134459392) (State.SameOutside.refl _ s) rfl .cad rfl

theorem State.mirrorActive_dram (s : State) (x : Mirror) : (s.mirrorActive x).dram = s.dram :=
  State.mirrorActive_same (m := 562952134459392) (State.SameOutside.refl _ s) rfl .dram rfl

/-! ### WEAR_PERIOD_S is over (R219) -/

theorem exec_wearPeriodExpiry_on (h : s.boot.powered = true) : exec .wearPeriodExpiry s = .next s.wearPeriod :=
  congrArg Host.Outcome.next (State.live_on h _)

theorem State.advanceTo_cad (s : State) (i : Nat) : (s.advanceTo i).cad = s.cad := by
  unfold State.advanceTo
  split <;> rfl

theorem State.periodicTrigger_mono (s : State) (wear : Bool) : (s.periodicTrigger wear).mono = s.mono := rfl

/-- The trigger asks for a wear phase, whatever was due before. -/
theorem State.wearPeriod_cad (s : State) : s.wearPeriod.cad = { s.cad with due := some true } := by
  unfold State.wearPeriod State.periodicTrigger
  rw [State.advanceTo_cad, Bool.true_or]

theorem State.wearPeriod_mono (s : State) : s.wearPeriod.mono =
    max s.mono (s.cad.lastWear + s.fget pgCad CAD.WEAR_CFG.WEAR_PERIOD_S * 1000000000) := by
  unfold State.wearPeriod
  rw [State.periodicTrigger_mono, State.advanceTo_mono]

/-! ### Stale temperatures (R216) -/

theorem exec_tempStale_on (h : s.boot.powered = true) (k : Fin 16) : exec (.tempStale k) s = .next (s.tempStale k) :=
  congrArg Host.Outcome.next (State.live_on h _)

/-- TEMP_STALE names one more tile. -/
def State.staleMarked (s : State) (k : Nat) : State :=
  (s.fset pgCad CAD.TEMP_STALE.TILES (s.fget pgCad CAD.TEMP_STALE.TILES ||| 1 <<< k)).evt pgCad 10

/-- A tile that TEMP_STALE does not name yet is marked 10 s after its last valid temperature. -/
theorem State.tempStale_some (h : SMap.read none s.cad.tempAt k = some i) : s.tempStale k =
    if bit (s.fget pgCad CAD.TEMP_STALE.TILES) k = true then s.advanceTo (i + 10000000000)
    else (s.advanceTo (i + 10000000000)).staleMarked k := by
  unfold State.tempStale State.staleMarked
  simp only [h, State.fget_of_pages (State.advanceTo_pages s (i + 10000000000))]

theorem State.staleMarked_bit (s : State) (hk : k < 16) :
    bit ((s.staleMarked k).fget pgCad CAD.TEMP_STALE.TILES) k = true := by
  have hbit : bit (1 <<< k) k = true := by rw [bit_one_shiftLeft, decide_eq_true rfl]
  have hlt : s.fget pgCad CAD.TEMP_STALE.TILES ||| 1 <<< k < 2 ^ 16 :=
    Nat.or_lt_two_pow (State.fget_lt ..) (by rw [Nat.one_shiftLeft]; exact Nat.pow_lt_pow_right (by decide) hk)
  unfold State.staleMarked
  rw [State.evt_fget, State.fset_fget (by decide) hlt, bit_or, hbit, Bool.or_true]

theorem State.tempStale_bit (h : SMap.read none s.cad.tempAt k = some i) (hk : k < 16) :
    bit ((s.tempStale k).fget pgCad CAD.TEMP_STALE.TILES) k = true := by
  rw [State.tempStale_some h]
  split
  · next hbit => rwa [State.fget_of_pages (State.advanceTo_pages ..)]
  · exact State.staleMarked_bit _ hk

theorem State.tempStale_mono (h : SMap.read none s.cad.tempAt k = some i) :
    (s.tempStale k).mono = max s.mono (i + 10000000000) := by
  have hmarked (u : State) : (u.staleMarked k).mono = u.mono := State.evt_mono ..
  rw [State.tempStale_some h]
  split
  · exact State.advanceTo_mono ..
  · rw [hmarked, State.advanceTo_mono]

theorem State.tempStale_event (h : SMap.read none s.cad.tempAt k = some i)
    (hbit : bit (s.fget pgCad CAD.TEMP_STALE.TILES) k = false) : ((s.tempStale k).hdr pgCad).evt.getLsbD 10 = true := by
  rw [State.tempStale_some h, if_neg (Bool.eq_false_iff.mp hbit)]
  exact State.evt_set _ _ _ (by decide)

/-! ### The statement -/

/-- Settles O32: a rebuild that starts shows the factor of every tile, the end of its wear phase and of its records leaves only
what the phase and the records come to, and both instants carry the clock. -/
theorem rebuildsRun : Obligations.RebuildsRun := by
  unfold Obligations.RebuildsRun
  refine fun s hon => ⟨fun hmay => ?_, fun hmay => ?_, fun r hr hwear hdone => ?_, fun r hr hdone hnone => ?_, ?_,
    fun k i hi => ?_⟩
  case refine_1 =>
    exact ⟨s.rebuildStart, exec_rebuildStart_on hon, State.rebuildStart_cad hmay, State.rebuildStart_busy hmay,
      fun k hk => State.rebuildStart_phi hmay hk, State.rebuildStart_same (State.SameOutside.refl _ s) rfl⟩
  case refine_2 => rw [exec_rebuildStart_on hon, State.rebuildStart_idle hmay]
  case refine_3 =>
    have heq := State.wearPhaseDone_running hr hwear hdone
    refine ⟨s.wearPhaseDone, exec_wearPhaseDone_on hon, ?_, ?_, ?_,
      State.wearPhaseDone_same (State.SameOutside.refl _ s) rfl⟩ <;> rw [heq]
  case refine_4 =>
    obtain ⟨x, heq⟩ := State.rebuildDone_running hr hdone hnone
    refine ⟨s.rebuildDone, exec_rebuildDone_on hon, ?_, ?_, State.rebuildDone_same (State.SameOutside.refl _ s) rfl⟩
    · rw [heq, State.mirrorActive_cad, State.bufferWritten_cad]
    · rw [heq, State.mirrorActive_dram, State.bufferWritten_dram, State.recordsRebuilt]
  case refine_5 =>
    exact ⟨s.wearPeriod, exec_wearPeriodExpiry_on hon, s.wearPeriod_cad, s.wearPeriod_mono,
      State.wearPeriod_same (State.SameOutside.refl _ s) rfl⟩
  case refine_6 =>
    exact ⟨s.tempStale k, exec_tempStale_on hon k, State.tempStale_bit hi k.isLt, State.tempStale_mono hi,
      State.tempStale_event hi, State.tempStale_same (State.SameOutside.refl _ s) rfl⟩

end Sys2Proof.Machine
end

section
/-! PROOFS. States that differ in page headers and in what has left the device alone: what they read from DRAM agrees, and a write
leaves them so (R328, R365, R487). -/

namespace Sys2Proof.Machine

variable {s t u : State}

/-- A state with other page headers and another output. -/
def State.withHeaders (s : State) (h : SMap Hdr) (o : List Out) : State :=
  { s with pages := { s.pages with hdr := h }, out := o }

/-- Two states agree but for page headers and output. -/
def State.Alike (s t : State) : Prop := ∃ h o, t = s.withHeaders h o

theorem State.Alike.refl (s : State) : State.Alike s s := ⟨_, _, rfl⟩

theorem State.Alike.symm (h : State.Alike s t) : State.Alike t s := by
  obtain ⟨_, _, rfl⟩ := h
  exact ⟨s.pages.hdr, s.out, rfl⟩

theorem State.Alike.trans (h : State.Alike s t) (h' : State.Alike t u) : State.Alike s u := by
  obtain ⟨_, _, rfl⟩ := h
  obtain ⟨hd, o, rfl⟩ := h'
  exact ⟨hd, o, rfl⟩

theorem State.Alike.foldl {α : Type} {f : State → α → State} (hf : ∀ a s t, State.Alike s t → State.Alike (f s a) (f t a))
    (l : List α) (h : State.Alike s t) : State.Alike (l.foldl f s) (l.foldl f t) := by
  induction l generalizing s t with
  | nil => exact h
  | cons a l ih => exact ih (hf a s t h)

theorem State.alike_cmdStart (s : State) (p op arg m : Nat) : State.Alike s (s.cmdStart p op arg m) := ⟨_, _, rfl⟩

theorem State.alike_evt (s : State) (p n : Nat) : State.Alike s (s.evt p n) := by
  unfold State.evt State.setEvtRegs State.noticeIfRisen
  simp only
  split
  · exact ⟨_, _, rfl⟩
  · split <;> exact ⟨_, _, rfl⟩

/-! ### What alike states read -/

theorem State.Alike.dram (h : State.Alike s t) : t.dram = s.dram := by
  obtain ⟨_, _, rfl⟩ := h
  rfl

theorem State.Alike.fget (h : State.Alike s t) (p : Nat) (f : Fld) : t.fget p f = s.fget p f := by
  obtain ⟨_, _, rfl⟩ := h
  rfl

theorem State.Alike.readByte (h : State.Alike s t) (tag a : Nat) : t.readByte tag a = s.readByte tag a := by
  obtain ⟨_, _, rfl⟩ := h
  rfl

theorem State.Alike.readNat (h : State.Alike s t) (tag a n : Nat) : t.readNat tag a n = s.readNat tag a n := by
  induction n generalizing a with
  | zero => rfl
  | succ n ih =>
    unfold State.readNat
    rw [h.readByte, ih]

theorem State.Alike.regionTag (h : State.Alike s t) : t.regionTag = s.regionTag := h.fget ..

theorem State.Alike.caddyAt (h : State.Alike s t) (off p b : Nat) : t.caddyAt off p b = s.caddyAt off p b := by
  obtain ⟨_, _, rfl⟩ := h
  rfl

theorem State.Alike.wearAt (h : State.Alike s t) (e : Nat) : t.wearAt e = s.wearAt e := by
  obtain ⟨_, _, rfl⟩ := h
  rfl

theorem State.Alike.wearRecord (h : State.Alike s t) (e : Nat) : t.wearRecord e = s.wearRecord e := by
  unfold State.wearRecord
  rw [h.regionTag, h.wearAt, h.readNat]

theorem State.Alike.factoryCrc (h : State.Alike s t) (k : Nat) : t.factoryCrc k = s.factoryCrc k := by
  unfold State.factoryCrc
  simp only [h.regionTag, h.caddyAt, h.readNat]

/-! ### What alike states write -/

theorem State.Alike.evt (h : State.Alike s t) (p n : Nat) : State.Alike (s.evt p n) (t.evt p n) :=
  ((s.alike_evt p n).symm.trans h).trans (t.alike_evt p n)

theorem State.Alike.sendMirror (h : State.Alike s t) (x : Mirror) : State.Alike (s.sendMirror x) (t.sendMirror x) := by
  obtain ⟨_, _, rfl⟩ := h
  exact ⟨_, _, rfl⟩

theorem State.Alike.flushMirror (h : State.Alike s t) : State.Alike s.flushMirror t.flushMirror := by
  obtain ⟨hd, o, rfl⟩ := h
  have hup : (s.withHeaders hd o).link4Trusted = s.link4Trusted := rfl
  unfold State.flushMirror
  rw [hup]
  split
  · exact State.Alike.foldl (fun x _ _ h => h.sendMirror x) s.pair.queue ⟨hd, o, rfl⟩
  · exact ⟨hd, o, rfl⟩

theorem State.Alike.queueMirror (h : State.Alike s t) (x : Mirror) : State.Alike (s.queueMirror x) (t.queueMirror x) := by
  obtain ⟨hd, o, rfl⟩ := h
  have hpair : (s.withHeaders hd o).pair = s.pair := rfl
  unfold State.queueMirror
  simp only [hpair]
  split
  · exact ⟨hd, o, rfl⟩
  · exact State.Alike.evt ⟨hd, o, rfl⟩ _ _

theorem State.Alike.mirrorActive (h : State.Alike s t) (x : Mirror) :
    State.Alike (s.mirrorActive x) (t.mirrorActive x) := by
  have hactive : t.pairActive = s.pairActive := by obtain ⟨_, _, rfl⟩ := h; rfl
  have hup : t.link4Trusted = s.link4Trusted := by obtain ⟨_, _, rfl⟩ := h; rfl
  unfold State.mirrorActive State.mirror
  rw [hactive, hup]
  split
  · split
    · exact h.flushMirror.sendMirror x
    · split
      · exact h
      · exact h.queueMirror x
  · exact h

theorem State.Alike.setByte (h : State.Alike s t) (a v : Nat) : State.Alike (s.setByte a v) (t.setByte a v) := by
  obtain ⟨_, _, rfl⟩ := h
  exact ⟨_, _, rfl⟩

theorem State.Alike.setTag (h : State.Alike s t) (b tag : Nat) (poison : Bool) :
    State.Alike (s.setTag b tag poison) (t.setTag b tag poison) := by
  obtain ⟨_, _, rfl⟩ := h
  exact ⟨_, _, rfl⟩

theorem State.Alike.writeBlock (h : State.Alike s t) (b data tag : Nat) (poison : Bool) :
    State.Alike (s.writeBlock b data tag poison) (t.writeBlock b data tag poison) := by
  unfold State.writeBlock
  exact (State.Alike.foldl (fun e _ _ h => h.setByte (32 * b + e.2) e.1) _ h).setTag b tag poison

theorem State.Alike.putBlock (h : State.Alike s t) (b data tag : Nat) (poison : Bool) :
    State.Alike (s.putBlock b data tag poison) (t.putBlock b data tag poison) := by
  obtain ⟨hd, o, rfl⟩ := h
  have honline : (s.withHeaders hd o).memOnline = s.memOnline := rfl
  unfold State.putBlock
  rw [honline]
  split
  · exact ⟨hd, o, rfl⟩
  · exact State.Alike.writeBlock ⟨hd, o, rfl⟩ b data tag poison

/-- The write-back that SCRUB holds for the pair of a block is cancelled by a write of another requester (R343). -/
def State.scrubCancelled (s : State) (master b : Nat) : State :=
  if master ≠ 0x18 && s.mem.writeBack.contains (b / 2) then
    { s with mem := { s.mem with writeBack := s.mem.writeBack.filter (· ≠ b / 2) } }.finc pgMem MEM.SCRUB_CNT.CANCELLED
  else s

theorem State.Alike.scrubCancelled (h : State.Alike s t) (master b : Nat) :
    State.Alike (s.scrubCancelled master b) (t.scrubCancelled master b) := by
  obtain ⟨hd, o, rfl⟩ := h
  have hmem : (s.withHeaders hd o).mem = s.mem := rfl
  unfold State.scrubCancelled
  rw [hmem]
  split <;> exact ⟨hd, o, rfl⟩

theorem State.Alike.mirrored (h : State.Alike s t) (b : Nat) : t.mirrored b = s.mirrored b := by
  obtain ⟨_, _, rfl⟩ := h
  rfl

theorem State.admitWrite_eq (s : State) (master b data tag : Nat) (poison : Bool) : s.admitWrite master b data tag poison =
    if s.pairFollows && s.mirrored b && master ≠ 0x0C then s
    else if ((s.scrubCancelled master b).putBlock b data tag poison).mirrored b then
      ((s.scrubCancelled master b).putBlock b data tag poison).mirrorActive (.block b tag poison data)
    else (s.scrubCancelled master b).putBlock b data tag poison := rfl

theorem State.Alike.admitWrite (h : State.Alike s t) (master b data tag : Nat) (poison : Bool) :
    State.Alike (s.admitWrite master b data tag poison) (t.admitWrite master b data tag poison) := by
  have hfollows : t.pairFollows = s.pairFollows := by obtain ⟨_, _, rfl⟩ := h; rfl
  have hput := (h.scrubCancelled master b).putBlock b data tag poison
  rw [State.admitWrite_eq, State.admitWrite_eq, hfollows, h.mirrored, hput.mirrored]
  split
  · exact h
  · split
    · exact hput.mirrorActive _
    · exact hput

theorem State.Alike.writeNat (h : State.Alike s t) (master tag a v n : Nat) :
    State.Alike (s.writeNat master tag a v n) (t.writeNat master tag a v n) := by
  unfold State.writeNat State.writeBytes
  refine State.Alike.foldl (fun b s t h => ?_) _ h
  have hraw : t.rawBlock b = s.rawBlock b := by obtain ⟨_, _, rfl⟩ := h; rfl
  rw [hraw]
  exact h.admitWrite master b _ tag false

end Sys2Proof.Machine
end

section
/-! PROOFS. The commands of CAD: copies that start, the factory caddy sealed, and the triggers of rebuilds (R219, R226 to R228,
R236). -/

namespace Sys2Proof.Machine

variable {s : State} {m op arg p n k : Nat} {f : State → State}

/-! ### Commands of the page -/

/-- A command of CAD that the page takes starts and does its work. -/
theorem State.cadCommand_eq (h : s.accepts m pgCad op arg = true) (hop : 0x10 ≤ op) (ho : op < 256) (ha : arg < 2 ^ 24) :
    s.command m pgCad op arg = ((s.cmdStart pgCad op arg m).cadCmd m op arg).emit (.access m 0 0) := by
  rw [State.command_eq h ho ha (.inr fun q _ => by unfold pgCad pgReel; omega)]
  unfold State.cmdRun
  rw [if_neg (by omega), if_neg (by omega), if_neg (by omega)]
  rfl

theorem State.cadStarted_same (s : State) (op arg m : Nat) : State.SameBut [.page .cad] s (s.cmdStart pgCad op arg m) :=
  State.cmdStart_same (State.SameOutside.refl _ s) rfl (pageMask_cad rfl)

theorem tiles_fit (tiles : BitVec 16) : tiles.toNat < 2 ^ 24 ∧ tiles.toNat % 65536 = tiles.toNat :=
  ⟨Nat.lt_trans tiles.isLt (by decide), Nat.mod_eq_of_lt tiles.isLt⟩

/-! ### A command that runs -/

theorem State.Runs.evt (h : s.Runs p op arg m) (q n : Nat) : (s.evt q n).Runs p op arg m := by
  unfold State.Runs at h ⊢
  simpa using h

theorem State.Runs.emit (h : s.Runs p op arg m) (x : Out) : (s.emit x).Runs p op arg m := h

theorem State.Runs.fset (h : s.Runs p op arg m) (q : Nat) (f : Fld) (v : Nat) : (s.fset q f v).Runs p op arg m := h

theorem State.Runs.set_cad (h : s.Runs p op arg m) (x : CadSt) : ({ s with cad := x } : State).Runs p op arg m := h

/-- A page that is as it was runs the command that it ran. -/
theorem State.Runs.of_samePage {t : State} (h : s.Runs p op arg m) (hp : State.SamePage p s t) : t.Runs p op arg m := by
  unfold State.Runs
  rwa [hp.1]

/-! ### BUILD_FACTORY and LOAD_FACTORY (R226) -/

theorem exec_buildFactory_on (h : s.boot.powered = true) (m : Master) :
    exec (.buildFactory m) s = .next (s.command m.id pgCad 0x10 0) :=
  congrArg Host.Outcome.next (State.live_on h _)

theorem exec_loadFactory_on (h : s.boot.powered = true) (m : Master) :
    exec (.loadFactory m) s = .next (s.command m.id pgCad 0x11 0) :=
  congrArg Host.Outcome.next (State.live_on h _)

/-- A build or a load does nothing until its records are written. -/
theorem State.factoryCommand_eq (h : s.accepts m pgCad op 0 = true) (hop : op = 0x10 ∨ op = 0x11) :
    s.command m pgCad op 0 = (s.cmdStart pgCad op 0 m).emit (.access m 0 0) := by
  rw [State.cadCommand_eq h (by omega) (by omega) (by decide)]
  rcases hop with rfl | rfl <;> rfl

/-! ### WRITE_USER and RESTORE_FACTORY start a copy (R228) -/

theorem exec_writeUser_on (h : s.boot.powered = true) (m : Master) (tiles : BitVec 16) :
    exec (.writeUser m tiles) s = .next (s.command m.id pgCad 0x13 tiles.toNat) :=
  congrArg Host.Outcome.next (State.live_on h _)

theorem exec_restoreFactory_on (h : s.boot.powered = true) (m : Master) :
    exec (.restoreFactory m) s = .next (s.command m.id pgCad 0x15 0) :=
  congrArg Host.Outcome.next (State.live_on h _)

/-- A copy is in progress and shown. -/
def State.copyBegun (s : State) (c : CopyKind) : State :=
  { s with cad := { s.cad with copy := some c } }.fset pgCad CAD.STAT.COPY_BUSY 1

/-- A command that starts a copy, as far as its answer. -/
def State.copyAsked (s : State) (op arg m : Nat) (c : CopyKind) : State :=
  ((s.cmdStart pgCad op arg m).copyBegun c).emit (.access m 0 0)

theorem State.writeUser_command (tiles : BitVec 16) (h : s.accepts m pgCad 0x13 tiles.toNat = true) :
    s.command m pgCad 0x13 tiles.toNat = s.copyAsked 0x13 tiles.toNat m (.writeUser tiles.toNat) := by
  rw [State.cadCommand_eq h (by decide) (by decide) (tiles_fit tiles).1]
  unfold State.cadCmd
  rw [(tiles_fit tiles).2]
  rfl

theorem State.restoreFactory_command (h : s.accepts m pgCad 0x15 0 = true) :
    s.command m pgCad 0x15 0 = s.copyAsked 0x15 0 m .restore := by
  rw [State.cadCommand_eq h (by decide) (by decide) (by decide)]
  rfl

theorem State.copyAsked_runs (s : State) (op arg m : Nat) (c : CopyKind) :
    (s.copyAsked op arg m c).Runs pgCad op arg m :=
  (((s.cmdStart_runs pgCad).set_cad _).fset ..).emit _

theorem State.copyAsked_answers (s : State) (op arg m : Nat) (c : CopyKind) :
    (s.copyAsked op arg m c).Answers (.access m 0 0) :=
  State.emit_answers _ _

theorem State.copyAsked_cad (s : State) (op arg m : Nat) (c : CopyKind) :
    (s.copyAsked op arg m c).cad = { s.cad with copy := some c } := rfl

theorem State.copyAsked_busy (s : State) (op arg m : Nat) (c : CopyKind) :
    (s.copyAsked op arg m c).fget pgCad CAD.STAT.COPY_BUSY = 1 :=
  (State.emit_fget ..).trans (State.fset_fget (by decide) (by decide))

theorem State.copyAsked_same (s : State) (op arg m : Nat) (c : CopyKind) :
    State.SameBut [.cad, .out, .page .cad] s (s.copyAsked op arg m c) :=
  State.emit_same (State.fset_same (State.SameOutside.set_cad ((s.cadStarted_same op arg m).mono rfl) rfl) rfl
    (pageMask_cad rfl)) rfl

/-! ### SEAL_FACTORY (R227) -/

theorem exec_sealFactory_on (h : s.boot.powered = true) (m : Master) :
    exec (.sealFactory m) s = .next (s.command m.id pgCad 0x12 0) :=
  congrArg Host.Outcome.next (State.live_on h _)

theorem SMap.read_foldl_write {V : Type} [DecidableEq V] (x : V) (g : Nat → V) (l : SMap V) (h : k < n) :
    SMap.read x ((List.range n).foldl (fun l i => SMap.write x l i (g i)) l) k = g k := by
  induction n with
  | zero => exact absurd h (Nat.not_lt_zero k)
  | succ n ih =>
    rw [List.range_succ, List.foldl_append, List.foldl_cons, List.foldl_nil]
    by_cases e : k = n
    · rw [e, SMap.read_write_self]
    · rw [SMap.read_write_other _ _ _ e, ih (by omega)]

theorem State.sealFactory_seals (s : State) (hk : k < 16) :
    SMap.read 0 s.sealFactory.cad.seals k = s.factoryCrc k :=
  SMap.read_foldl_write 0 s.factoryCrc s.cad.seals hk

theorem State.sealFactory_shown (s : State) : s.sealFactory.fbit pgCad CAD.STAT.FACTORY_SEALED = true :=
  decide_eq_true (State.fset_fget (by decide) (by decide))

/-- The caddy is sealed in the device for good. -/
def State.sealedForGood (s : State) : State :=
  { s.sealFactory with otp := { s.sealFactory.otp with factorySealed := true } }

theorem State.sealedForGood_otp (s : State) : s.sealedForGood.otp = { s.otp with factorySealed := true } := rfl

/-- What the seal of the caddy comes to rests; its package is for the flash alone. -/
theorem State.sealAndPack_same_sealed (s : State) : State.SameBut [.free, .fw, .page .fw] s.sealedForGood s.sealAndPack :=
  State.packStart_same (State.SameOutside.refl _ _) rfl

theorem State.sealAndPack_cad (s : State) : s.sealAndPack.cad = s.sealFactory.cad := s.sealAndPack_same_sealed .cad rfl

theorem State.sealAndPack_otp (s : State) : s.sealAndPack.otp = { s.otp with factorySealed := true } := by
  have hotp : s.sealAndPack.otp = s.sealedForGood.otp := s.sealAndPack_same_sealed .otp rfl
  rw [hotp, State.sealedForGood_otp]

theorem State.sealAndPack_shown (s : State) : s.sealAndPack.fbit pgCad CAD.STAT.FACTORY_SEALED = true := by
  unfold State.fbit
  rw [s.sealAndPack_same_sealed.fget (ty := .cad) rfl rfl]
  exact s.sealFactory_shown

theorem State.Runs.sealAndPack (h : s.Runs pgCad op arg m) : s.sealAndPack.Runs pgCad op arg m :=
  State.Runs.of_samePage (s := s.sealedForGood) h (s.sealAndPack_same_sealed (.page .cad) rfl pgCad rfl)

/-- SEAL_FACTORY as far as its answer. -/
def State.factorySealed (s : State) (m : Nat) : State :=
  ((s.cmdStart pgCad 0x12 0 m).sealAndPack.cmdDone pgCad).emit (.access m 0 0)

theorem State.sealFactory_command (h : s.accepts m pgCad 0x12 0 = true) : s.command m pgCad 0x12 0 = s.factorySealed m := by
  rw [State.cadCommand_eq h (by decide) (by decide) (by decide)]
  rfl

theorem State.factorySealed_done (s : State) (m : Nat) :
    (s.factorySealed m).Done pgCad 0x12 m ∧ (s.factorySealed m).Answers (.access m 0 0) :=
  State.ended_done (s.cmdStart_runs pgCad (g := 0)).sealAndPack.1

theorem State.factorySealed_shown (s : State) (m : Nat) :
    (s.factorySealed m).fbit pgCad CAD.STAT.FACTORY_SEALED = true := by
  unfold State.factorySealed
  rw [State.emit_fbit, State.cmdDone_fbit, State.sealAndPack_shown]

theorem State.factorySealed_otp (s : State) (m : Nat) :
    (s.factorySealed m).otp = { s.otp with factorySealed := true } := by
  unfold State.factorySealed
  rw [State.emit_otp, State.cmdDone_otp, State.sealAndPack_otp]
  rfl

theorem State.factorySealed_seals (s : State) (m : Nat) (hk : k < 16) :
    SMap.read 0 (s.factorySealed m).cad.seals k = s.factoryCrc k := by
  unfold State.factorySealed
  rw [State.emit_cad, State.cmdDone_cad, State.sealAndPack_cad, State.sealFactory_seals _ hk,
    (s.alike_cmdStart pgCad 0x12 0 m).factoryCrc]

theorem State.factorySealed_same (s : State) (m : Nat) :
    State.SameBut [.free, .cad, .fw, .otp, .out, .page .fw, .page .cad] s (s.factorySealed m) :=
  State.emit_same (State.cmdDone_same (State.sealAndPack_same ((s.cadStarted_same 0x12 0 m).mono rfl) rfl) rfl
    (pageMask_cad rfl)) rfl

/-! ### Triggers by a command (R219, R536) -/

/-- A trigger by a command does what any other does, and is marked as one of MGT where MGT gave it. -/
theorem State.cadTrigger_eq (s : State) (m : Nat) (f : State → State) : s.cadTrigger m f = { f s with cad := { (f s).cad with
    dueMgt := if m = 9 then (f s).cad.due.isSome else (f s).cad.dueMgt } } := by
  unfold State.cadTrigger
  split <;> rfl

theorem State.Runs.cadTrigger (h : (f s).Runs p op arg n) (m : Nat) : (s.cadTrigger m f).Runs p op arg n := by
  rw [State.cadTrigger_eq]
  exact h

/-- A rebuild of the content is due. -/
def CadSt.ContentDue (c : CadSt) : Prop := c.due.isSome = true ∧ c.dueContent = true

theorem State.contentTrigger_due (s : State) : s.contentTrigger.cad.ContentDue := by
  unfold State.contentTrigger
  split
  · split
    · exact ⟨rfl, rfl⟩
    · rw [State.evt_cad]
      exact ⟨rfl, rfl⟩
  · exact ⟨rfl, rfl⟩

theorem State.contentTrigger_exchange (s : State) : s.contentTrigger.cad.exchange = s.cad.exchange := by
  unfold State.contentTrigger
  split
  · split
    · rfl
    · rw [State.evt_cad]
      rfl
  · rfl

theorem State.contentTrigger_dram (s : State) : s.contentTrigger.dram = s.dram :=
  State.contentTrigger_same (m := 72057596185412096) (State.SameOutside.refl _ s) rfl .dram rfl

theorem State.Runs.contentTrigger (h : s.Runs p op arg m) : s.contentTrigger.Runs p op arg m := by
  unfold State.contentTrigger
  split
  · split
    · exact h
    · exact State.Runs.evt (State.Runs.fset (State.Runs.set_cad h _) _ _ _) _ _
  · exact h

/-! ### APPLY_USER (R228) -/

theorem exec_applyUser_on (h : s.boot.powered = true) (m : Master) :
    exec (.applyUser m) s = .next (s.command m.id pgCad 0x14 0) :=
  congrArg Host.Outcome.next (State.live_on h _)

/-- APPLY_USER as far as its answer. -/
def State.userApplied (s : State) (m : Nat) : State :=
  ((s.cmdStart pgCad 0x14 0 m).cadTrigger m State.applyUser).emit (.access m 0 0)

theorem State.applyUser_command (h : s.accepts m pgCad 0x14 0 = true) : s.command m pgCad 0x14 0 = s.userApplied m := by
  rw [State.cadCommand_eq h (by decide) (by decide) (by decide)]
  rfl

theorem State.userApplied_runs (s : State) (m : Nat) : (s.userApplied m).Runs pgCad 0x14 0 m :=
  State.Runs.emit (State.Runs.cadTrigger (State.Runs.contentTrigger ((s.cmdStart_runs pgCad).set_cad _)) m) _

theorem State.userApplied_due (s : State) (m : Nat) : (s.userApplied m).cad.ContentDue := by
  unfold State.userApplied
  rw [State.cadTrigger_eq]
  exact State.contentTrigger_due _

theorem State.userApplied_exchange (s : State) (m : Nat) : (s.userApplied m).cad.exchange = true := by
  unfold State.userApplied
  rw [State.cadTrigger_eq]
  exact State.contentTrigger_exchange _

theorem State.userApplied_same (s : State) (m : Nat) : State.SameBut [.cad, .out, .page .cad] s (s.userApplied m) :=
  State.emit_same (State.cadTrigger_same ((s.cadStarted_same 0x14 0 m).mono rfl) rfl
    fun _ h => State.applyUser_same h rfl) rfl

/-! ### REBUILD (R219) -/

theorem exec_cadRebuild_on (h : s.boot.powered = true) (m : Master) :
    exec (.cadRebuild m) s = .next (s.command m.id pgCad 0x16 0) :=
  congrArg Host.Outcome.next (State.live_on h _)

/-- REBUILD as far as its answer. -/
def State.rebuildCommanded (s : State) (m : Nat) : State :=
  (((s.cmdStart pgCad 0x16 0 m).cadTrigger m fun s => s.periodicTrigger false).cmdDone pgCad).emit (.access m 0 0)

theorem State.cadRebuild_command (h : s.accepts m pgCad 0x16 0 = true) :
    s.command m pgCad 0x16 0 = s.rebuildCommanded m := by
  rw [State.cadCommand_eq h (by decide) (by decide) (by decide)]
  rfl

theorem State.rebuildCommanded_done (s : State) (m : Nat) :
    (s.rebuildCommanded m).Done pgCad 0x16 m ∧ (s.rebuildCommanded m).Answers (.access m 0 0) :=
  State.ended_done (State.Runs.cadTrigger ((s.cmdStart_runs pgCad (g := 0)).set_cad _) m).1

theorem State.rebuildCommanded_due (s : State) (m : Nat) :
    (s.rebuildCommanded m).cad.due = some (s.cad.due.getD false) := by
  unfold State.rebuildCommanded
  rw [State.emit_cad, State.cmdDone_cad, State.cadTrigger_eq]
  exact congrArg some (Bool.false_or _)

theorem State.rebuildCommanded_word (s : State) (m a : Nat) : (s.rebuildCommanded m).word a = s.word a := by
  unfold State.rebuildCommanded
  rw [State.emit_word, State.cmdDone_word, State.cadTrigger_eq]
  rfl

theorem State.rebuildCommanded_same (s : State) (m : Nat) :
    State.SameBut [.cad, .out, .page .cad] s (s.rebuildCommanded m) :=
  State.emit_same (State.cmdDone_same (State.cadTrigger_same ((s.cadStarted_same 0x16 0 m).mono rfl) rfl
    fun _ h => State.periodicTrigger_same h rfl) rfl (pageMask_cad rfl)) rfl

/-! ### DOSE_RESET (R236) -/

theorem exec_doseReset_on (h : s.boot.powered = true) (m : Master) (tiles : BitVec 16) :
    exec (.doseReset m tiles) s = .next (s.command m.id pgCad 0x17 tiles.toNat) :=
  congrArg Host.Outcome.next (State.live_on h _)

/-- A wear record that starts again: DOSE is 0 and GAIN is 1, and the rest stands where the record can be read. -/
def wearRestarted : Option Nat → Nat
  | some v => putBits (putBits v 0 32 0) 32 16 0x8000
  | none => 0x8000 * 2 ^ 32

/-- The wear record of an emitter starts again. -/
def State.doseCleared (s : State) (e : Nat) : State :=
  s.writeNat 9 s.regionTag (s.wearAt e) (wearRestarted (s.wearRecord e)) 8

/-- The wear records of some tiles start again. -/
def State.dosesCleared (s : State) (tiles : Nat) : State :=
  ((bitsSet tiles 16).flatMap s.tileEmitters).foldl State.doseCleared s

theorem State.doseReset_eq (s : State) (tiles : Nat) : s.doseReset tiles = (s.dosesCleared tiles).contentTrigger := by
  unfold State.doseReset State.dosesCleared
  refine congrArg (fun g => (List.foldl g s _).contentTrigger) (funext fun u => funext fun e => ?_)
  unfold State.doseCleared
  cases u.wearRecord e <;> rfl

theorem State.Alike.doseCleared {t : State} (h : State.Alike s t) (e : Nat) :
    State.Alike (s.doseCleared e) (t.doseCleared e) := by
  unfold State.doseCleared
  rw [h.wearRecord, h.regionTag, h.wearAt]
  exact h.writeNat ..

theorem State.Alike.dosesCleared {t : State} (h : State.Alike s t) (tiles : Nat) :
    State.Alike (s.dosesCleared tiles) (t.dosesCleared tiles) := by
  have hemitters : t.tileEmitters = s.tileEmitters := by obtain ⟨_, _, rfl⟩ := h; rfl
  unfold State.dosesCleared
  rw [hemitters]
  exact State.Alike.foldl (fun e _ _ h => h.doseCleared e) _ h

theorem State.dosesCleared_same (s : State) (tiles : Nat) :
    State.SameBut [.dram, .mem, .pair, .out, .page .pair, .page .mem] s (s.dosesCleared tiles) :=
  State.SameOutside.foldl (State.SameOutside.refl _ s) fun _ _ h => State.writeNat_same h rfl

theorem State.Runs.doseReset (h : s.Runs pgCad op arg m) (tiles : Nat) : (s.doseReset tiles).Runs pgCad op arg m := by
  rw [State.doseReset_eq]
  exact (h.of_samePage (s.dosesCleared_same tiles (.page .cad) rfl pgCad rfl)).contentTrigger

/-- DOSE_RESET as far as its answer. -/
def State.dosesReset (s : State) (m tiles : Nat) : State :=
  (((s.cmdStart pgCad 0x17 tiles m).cadTrigger m fun s => s.doseReset tiles).cmdDone pgCad).emit (.access m 0 0)

theorem State.doseReset_command (tiles : BitVec 16) (h : s.accepts m pgCad 0x17 tiles.toNat = true) :
    s.command m pgCad 0x17 tiles.toNat = s.dosesReset m tiles.toNat := by
  rw [State.cadCommand_eq h (by decide) (by decide) (tiles_fit tiles).1]
  unfold State.cadCmd
  rw [(tiles_fit tiles).2]
  rfl

theorem State.dosesReset_done (s : State) (m tiles : Nat) :
    (s.dosesReset m tiles).Done pgCad 0x17 m ∧ (s.dosesReset m tiles).Answers (.access m 0 0) :=
  State.ended_done (State.Runs.cadTrigger ((s.cmdStart_runs pgCad).doseReset tiles) m).1

theorem State.dosesReset_due (s : State) (m tiles : Nat) : (s.dosesReset m tiles).cad.ContentDue := by
  unfold State.dosesReset
  rw [State.emit_cad, State.cmdDone_cad, State.cadTrigger_eq]
  exact State.contentTrigger_due _

/-- The command that runs has no part in what the records come to. -/
theorem State.dosesReset_dram (s : State) (m tiles : Nat) : (s.dosesReset m tiles).dram = (s.doseReset tiles).dram := by
  have halike := (s.alike_cmdStart pgCad 0x17 tiles m).dosesCleared tiles
  unfold State.dosesReset
  rw [State.emit_dram, State.cmdDone_dram, State.cadTrigger_eq]
  show ((s.cmdStart pgCad 0x17 tiles m).doseReset tiles).dram = _
  rw [State.doseReset_eq, State.doseReset_eq, State.contentTrigger_dram, State.contentTrigger_dram, halike.dram]

theorem State.dosesReset_same (s : State) (m tiles : Nat) :
    State.SameBut [.cad, .dram, .mem, .pair, .out, .page .pair, .page .mem, .page .cad] s (s.dosesReset m tiles) :=
  State.emit_same (State.cmdDone_same (State.cadTrigger_same ((s.cadStarted_same 0x17 tiles m).mono rfl) rfl
    fun _ h => State.doseReset_same h rfl) rfl (pageMask_cad rfl)) rfl

/-! ### The statement -/

/-- Settles O33: each command starts and comes to its state as far as its answer: the copies stay running, the seal ends at once,
and the three triggers make a rebuild due. -/
theorem calibrationCommandsTakeEffect : Obligations.CalibrationCommandsTakeEffect := by
  unfold Obligations.CalibrationCommandsTakeEffect
  refine fun s m => ⟨fun h => ?_, fun h => ?_, fun h => ?_, fun tiles h => ?_, fun h => ?_, fun h => ?_, fun h => ?_,
    fun tiles h => ?_⟩
  case refine_1 => rw [exec_buildFactory_on (State.accepts_powered h), State.factoryCommand_eq h (.inl rfl)]
  case refine_2 => rw [exec_loadFactory_on (State.accepts_powered h), State.factoryCommand_eq h (.inr rfl)]
  case refine_3 =>
    obtain ⟨hdone, hanswers⟩ := s.factorySealed_done m.id
    refine ⟨s.factorySealed m.id, ?_, hdone, hanswers, s.factorySealed_shown m.id, s.factorySealed_otp m.id,
      fun k hk => s.factorySealed_seals m.id hk, s.factorySealed_same m.id⟩
    rw [exec_sealFactory_on (State.accepts_powered h), State.sealFactory_command h]
  case refine_4 =>
    refine ⟨s.copyAsked 0x13 tiles.toNat m.id (.writeUser tiles.toNat), ?_, State.copyAsked_runs ..,
      State.copyAsked_answers .., State.copyAsked_cad .., State.copyAsked_busy .., s.copyAsked_same _ _ _ _⟩
    rw [exec_writeUser_on (State.accepts_powered h), State.writeUser_command tiles h]
  case refine_5 =>
    obtain ⟨hdue, hcontent⟩ := s.userApplied_due m.id
    refine ⟨s.userApplied m.id, ?_, s.userApplied_runs m.id, State.emit_answers _ _, s.userApplied_exchange m.id, hdue,
      hcontent, s.userApplied_same m.id⟩
    rw [exec_applyUser_on (State.accepts_powered h), State.applyUser_command h]
  case refine_6 =>
    refine ⟨s.copyAsked 0x15 0 m.id .restore, ?_, State.copyAsked_runs .., State.copyAsked_answers ..,
      State.copyAsked_cad .., State.copyAsked_busy .., s.copyAsked_same _ _ _ _⟩
    rw [exec_restoreFactory_on (State.accepts_powered h), State.restoreFactory_command h]
  case refine_7 =>
    obtain ⟨hdone, hanswers⟩ := s.rebuildCommanded_done m.id
    refine ⟨s.rebuildCommanded m.id, ?_, hdone, hanswers, s.rebuildCommanded_due m.id, s.rebuildCommanded_word m.id,
      s.rebuildCommanded_same m.id⟩
    rw [exec_cadRebuild_on (State.accepts_powered h), State.cadRebuild_command h]
  case refine_8 =>
    obtain ⟨hdone, hanswers⟩ := s.dosesReset_done m.id tiles.toNat
    obtain ⟨hdue, hcontent⟩ := s.dosesReset_due m.id tiles.toNat
    refine ⟨s.dosesReset m.id tiles.toNat, ?_, hdone, hanswers, hdue, hcontent, s.dosesReset_dram m.id tiles.toNat,
      s.dosesReset_same m.id tiles.toNat⟩
    rw [exec_doseReset_on (State.accepts_powered h), State.doseReset_command tiles h]

end Sys2Proof.Machine
end

section
/-! PROOFS. Copies of the mattes verified, their seals written, and the taps' luminances summed against their caps (R249, R251,
R256, R405, R406). -/

namespace Sys2Proof.Machine

variable {s t : State} {op arg m n i p copy tile reason : Nat} {f : Fld}

/-! ### VERIFY starts (R256) -/

theorem exec_matteVerify_on (h : s.boot.powered = true) (m : Master) (copy : Fin 2) :
    exec (.matteVerify m copy) s = .next (s.command m.id pgMatte 0x10 copy) :=
  congrArg Host.Outcome.next (State.live_on h _)

theorem pgMatte_ne_pgReel (q : Nat) : pgMatte ≠ pgReel q := by
  unfold pgMatte pgReel
  omega

/-- VERIFY as far as its answer: it runs, and shows that it does. -/
def State.verifyAsked (s : State) (copy m : Nat) : State :=
  ((s.cmdStart pgMatte 0x10 copy m).fset pgMatte MATTE.STAT.VERIFY_BUSY 1).emit (.access m 0 0)

theorem State.verify_command (h : s.accepts m pgMatte 0x10 copy = true) (hcopy : copy < 2) :
    s.command m pgMatte 0x10 copy = s.verifyAsked copy m := by
  rw [State.command_eq h (by decide) (by omega) (.inr fun q _ => pgMatte_ne_pgReel q)]
  rfl

theorem State.verifyAsked_runs (s : State) (copy m : Nat) : (s.verifyAsked copy m).Runs pgMatte 0x10 copy m :=
  ((s.cmdStart_runs pgMatte).fset ..).emit _

theorem State.verifyAsked_busy (s : State) (copy m : Nat) :
    (s.verifyAsked copy m).fbit pgMatte MATTE.STAT.VERIFY_BUSY = true :=
  decide_eq_true ((State.emit_fget ..).trans (State.fset_fget (by decide) (by decide)))

theorem State.verifyAsked_same (s : State) (copy m : Nat) :
    State.SameBut [.out, .page .matte] s (s.verifyAsked copy m) :=
  State.emit_same (State.fset_same (State.cmdStart_same (State.SameOutside.refl _ s) rfl (pageMask_matte rfl)) rfl
    (pageMask_matte rfl)) rfl

/-! ### VERIFIED of a copy (R249, R256) -/

/-- The field that shows whether a copy is verified. -/
def verifiedFld (m : Nat) : Fld := if m = 0 then MATTE.STAT.VERIFIED0 else MATTE.STAT.VERIFIED1

theorem verifiedFld_fits (m : Nat) : (verifiedFld m).lo + (verifiedFld m).w ≤ 32 ∧ (verifiedFld m).w = 1 := by
  unfold verifiedFld
  split <;> decide

theorem State.verified_eq (s : State) (m : Nat) : s.verified m = s.fbit pgMatte (verifiedFld m) := by
  unfold State.verified verifiedFld
  split <;> rfl

theorem State.setVerified_eq (s : State) (m : Nat) (b : Bool) :
    s.setVerified m b = s.fsetB pgMatte (verifiedFld m) b := by
  unfold State.setVerified verifiedFld
  split <;> rfl

/-- VERIFIED of a copy rests on its field alone. -/
theorem State.verified_of_fget (h : t.fget pgMatte (verifiedFld m) = s.fget pgMatte (verifiedFld m)) :
    t.verified m = s.verified m := by
  rw [State.verified_eq, State.verified_eq, State.fbit, h, ← State.fbit]

theorem State.setVerified_verified (s : State) (m : Nat) (b : Bool) : (s.setVerified m b).verified m = b := by
  obtain ⟨hfits, hw⟩ := verifiedFld_fits m
  have hb : b2n b < 2 ^ (verifiedFld m).w := by rw [hw]; cases b <;> decide
  rw [State.verified_eq, State.setVerified_eq, State.fbit, State.fsetB, State.fset_fget hfits hb]
  cases b <;> rfl

theorem State.setVerified_fget {b : Bool} (h : (verifiedFld m).Apart f) :
    (s.setVerified m b).fget p f = s.fget p f := by
  rw [State.setVerified_eq, State.fsetB_fget_apart h]

/-- The two copies have fields of their own. -/
theorem verifiedFld_apart (h : m = 0 ↔ n ≠ 0) : (verifiedFld m).Apart (verifiedFld n) := by
  unfold verifiedFld
  by_cases hm : m = 0
  · rw [if_pos hm, if_neg (h.mp hm)]
    decide
  · rw [if_neg hm, if_pos (Decidable.not_not.mp fun hn => hm (h.mpr hn))]
    decide

/-- A field of another register, or beside both bits, is apart from VERIFIED of either copy. -/
theorem verifiedFld_apart_of (h0 : MATTE.STAT.VERIFIED0.Apart f) (h1 : MATTE.STAT.VERIFIED1.Apart f) :
    (verifiedFld m).Apart f := by
  unfold verifiedFld
  split
  · exact h0
  · exact h1

/-- A field of another register, or beside both bits, is set without VERIFIED. -/
theorem State.fset_verified {v : Nat} (h0 : f.Apart MATTE.STAT.VERIFIED0) (h1 : f.Apart MATTE.STAT.VERIFIED1) :
    (s.fset p f v).verified m = s.verified m := by
  refine State.verified_of_fget (State.fset_fget_apart ?_)
  unfold verifiedFld
  split
  · exact h0
  · exact h1

theorem State.emit_verified (s : State) (x : Out) (m : Nat) : (s.emit x).verified m = s.verified m := rfl

theorem State.SamePage.verified (h : State.SamePage pgMatte s t) (m : Nat) : t.verified m = s.verified m :=
  State.verified_of_fget (h.fget _)

/-! ### VERIFY has read its copy (R249, R256) -/

theorem exec_verifyDone_on (h : s.boot.powered = true) : exec .verifyDone s = .next s.verifyEnd.settle :=
  congrArg Host.Outcome.next (State.live_on h _)

/-- The first tile of a copy that does not pass, and why. -/
def State.copyFault (s : State) (copy : Nat) : Option (Nat × Nat) :=
  (List.range 16).findSome? (fun k => (s.verifyTile copy k).map (fun r => (k, r)))

theorem State.copyFault_none (h : (List.range 16).all (fun k => (s.verifyTile copy k).isNone) = true) :
    s.copyFault copy = none := by
  refine List.findSome?_eq_none_iff.mpr fun k hk => ?_
  rw [Option.isNone_iff_eq_none.mp (List.all_eq_true.mp h k hk), Option.map_none]

theorem State.copyFault_tile (h : s.copyFault copy = some (tile, reason)) : tile < 16 := by
  obtain ⟨k, hk, hfault⟩ := List.exists_of_findSome?_eq_some h
  obtain ⟨r, -, hr⟩ := Option.map_eq_some_iff.mp hfault
  cases hr
  exact List.mem_range.mp hk

/-- The copy has been read to its end. -/
def State.copyRead (s : State) : State := s.fset pgMatte MATTE.STAT.VERIFY_BUSY 0

theorem State.copyRead_fget (h : MATTE.STAT.VERIFY_BUSY.Apart f) : s.copyRead.fget p f = s.fget p f :=
  State.fset_fget_apart h

theorem State.copyRead_memOnline (s : State) : s.copyRead.memOnline = s.memOnline := by
  have hfget {q : Nat} (f : Fld) (hq : q ≠ pgMatte) : s.copyRead.fget q f = s.fget q f := State.fget_fset_page _ _ _ _ _ _ hq
  unfold State.memOnline State.domOn
  rw [hfget _ (by decide), hfget _ (by decide), hfget _ (by decide)]

theorem State.copyRead_readNat (s : State) (tag a n : Nat) : s.copyRead.readNat tag a n = s.readNat tag a n := by
  have hbyte (a : Nat) : s.copyRead.readByte tag a = s.readByte tag a := by
    unfold State.readByte State.block
    rw [State.copyRead_memOnline]
    rfl
  induction n generalizing a with
  | zero => rfl
  | succ n ih =>
    unfold State.readNat
    rw [hbyte, ih]

/-- What VERIFY finds in a tile does not rest on the bit that shows it at work. -/
theorem State.copyRead_verifyTile (hcopy : copy < 2) (htile : tile < 16) :
    s.copyRead.verifyTile copy tile = s.verifyTile copy tile := by
  have hseal : MATTE.STAT.VERIFY_BUSY.Apart (MATTE.SEAL.CRC (16 * copy + tile)) :=
    ⟨by decide, .inl (by unfold MATTE.SEAL.CRC MATTE.STAT.VERIFY_BUSY; dsimp only; omega)⟩
  unfold State.verifyTile State.matteByte
  rw [State.copyRead_fget (f := MATTE.TAG.TAG) (by decide), State.copyRead_fget (f := MATTE.BASE.BASE) (by decide),
    State.copyRead_fget hseal]
  simp only [State.copyRead_readNat]

theorem State.copyRead_copyFault (hcopy : copy < 2) : s.copyRead.copyFault copy = s.copyFault copy := by
  unfold State.copyFault
  rw [← List.head?_filterMap, ← List.head?_filterMap,
    List.filterMap_congr fun k hk => by rw [State.copyRead_verifyTile hcopy (List.mem_range.mp hk)]]

/-- The counts of zone members, those of a copy as it stands in DRAM. -/
def State.zoneCounts (s : State) (copy : Nat) : SMap Nat :=
  (List.range 64).foldl (fun c z => SMap.write 0 c (64 * copy + z) (s.zoneMembers copy z)) s.matte.counts

/-- The zones of a copy are counted for the frames to come. -/
def State.zonesCounted (s : State) (copy : Nat) : State :=
  { s with matte := { s.matte with counts := s.zoneCounts copy } }

theorem State.zonesCounted_pages (s : State) (copy : Nat) : (s.zonesCounted copy).pages = s.pages := by
  unfold State.zonesCounted
  rfl

theorem State.zonesCounted_fget (s : State) (copy p : Nat) (f : Fld) : (s.zonesCounted copy).fget p f = s.fget p f :=
  State.fget_of_pages (s.zonesCounted_pages copy) p f

/-- A copy without fault is verified, as far as the end of the command. -/
def State.copyPassed (s : State) (copy : Nat) : State :=
  ((s.copyRead.zonesCounted copy).setVerified copy true).cmdDone pgMatte

/-- A copy with a fault is not, and the tile stands. -/
def State.copyFailed (s : State) (copy tile reason : Nat) : State :=
  ((s.copyRead.setVerified copy false).fset pgMatte MATTE.STAT.FAIL_TILE tile).cmdFail pgMatte reason

theorem State.verifyDone_passed (hrun : (s.hdr pgMatte).run = some ⟨0x10, copy, i⟩) (hcopy : copy < 2)
    (h : s.copyFault copy = none) :
    s.verifyDone = (s.copyPassed copy).mirrorActive (.command pgMatte 0x10 copy) := by
  rw [← State.copyRead_copyFault hcopy] at h
  unfold State.copyFault State.copyRead at h
  unfold State.verifyDone
  simp only [hrun, Nat.mod_eq_of_lt hcopy, ne_eq, not_true_eq_false, if_false, h]
  rfl

theorem State.verifyDone_failed (hrun : (s.hdr pgMatte).run = some ⟨0x10, copy, i⟩) (hcopy : copy < 2)
    (h : s.copyFault copy = some (tile, reason)) : s.verifyDone = s.copyFailed copy tile reason := by
  rw [← State.copyRead_copyFault hcopy] at h
  unfold State.copyFault State.copyRead at h
  unfold State.verifyDone
  simp only [hrun, Nat.mod_eq_of_lt hcopy, ne_eq, not_true_eq_false, if_false, h]
  rfl

theorem State.SamePage.done (h : State.SamePage p s t) (hdone : s.Done p op i) : t.Done p op i := by
  unfold State.Done
  rwa [h.1]

theorem State.SamePage.failed (h : State.SamePage p s t) (hfailed : s.Failed p op i reason) : t.Failed p op i reason := by
  unfold State.Failed
  rwa [h.1]

theorem State.mirrorActive_samePage (s : State) (x : Mirror) : State.SamePage pgMatte s (s.mirrorActive x) := by
  have hsame : State.SameBut [.pair, .out, .page .pair] s (s.mirrorActive x) :=
    State.mirrorActive_same (State.SameOutside.refl _ s) rfl
  exact hsame (.page .matte) rfl pgMatte rfl

/-- What a failure means to the pair does not touch the page. -/
theorem State.verifyEnd_samePage (s : State) : State.SamePage pgMatte s.verifyDone s.verifyEnd := by
  have hjudged {u : State} (h : State.SameBut [.pair, .out, .page .pair] s.verifyDone u) :
      State.SamePage pgMatte s.verifyDone u := h (.page .matte) rfl pgMatte rfl
  have hset (f : PairSt → PairSt) : State.SameBut [.pair, .out, .page .pair] s.verifyDone (s.verifyDone.setPair f) :=
    State.setPair_same (State.SameOutside.refl _ _) rfl
  unfold State.verifyEnd
  exact hjudged (State.SameOutside.ite (State.SameOutside.ite (hset _) (State.clearReady_same (hset _) rfl))
    (State.SameOutside.refl _ _))

theorem State.copyPassed_done (hrun : (s.hdr pgMatte).run = some ⟨0x10, copy, i⟩) :
    (s.copyPassed copy).Done pgMatte 0x10 i := by
  refine State.cmdDone_done (g := copy) _ _ ?_
  rw [State.setVerified_eq]
  exact hrun

theorem State.copyPassed_verified (s : State) (copy : Nat) : (s.copyPassed copy).verified copy = true :=
  (State.verified_of_fget (State.cmdDone_fget ..)).trans (State.setVerified_verified ..)

theorem State.copyPassed_busy (s : State) (copy : Nat) :
    (s.copyPassed copy).fget pgMatte MATTE.STAT.VERIFY_BUSY = 0 := by
  unfold State.copyPassed
  rw [State.cmdDone_fget, State.setVerified_fget (verifiedFld_apart_of (by decide) (by decide)), State.zonesCounted_fget]
  exact State.fset_fget (by decide) (by decide)

/-- A command that fails leaves every field as it is. -/
theorem State.cmdFail_fget (s : State) (q reason p : Nat) (f : Fld) : (s.cmdFail q reason).fget p f = s.fget p f := by
  unfold State.cmdFail
  split
  · rfl
  · rw [State.cmdEnd_fget, State.setHdr_fget]

theorem State.copyFailed_failed (hrun : (s.hdr pgMatte).run = some ⟨0x10, copy, i⟩) :
    (s.copyFailed copy tile reason).Failed pgMatte 0x10 i reason := by
  refine State.cmdFail_failed (arg := copy) ?_
  rw [State.setVerified_eq]
  exact hrun

theorem State.copyFailed_verified (s : State) (copy tile reason : Nat) :
    (s.copyFailed copy tile reason).verified copy = false :=
  calc (s.copyFailed copy tile reason).verified copy
    _ = ((s.copyRead.setVerified copy false).fset pgMatte MATTE.STAT.FAIL_TILE tile).verified copy :=
        State.verified_of_fget (State.cmdFail_fget ..)
    _ = (s.copyRead.setVerified copy false).verified copy := State.fset_verified (by decide) (by decide)
    _ = false := State.setVerified_verified ..

theorem State.copyFailed_tile (htile : tile < 16) :
    (s.copyFailed copy tile reason).fget pgMatte MATTE.STAT.FAIL_TILE = tile := by
  unfold State.copyFailed
  rw [State.cmdFail_fget, State.fset_fget (by decide) htile]

theorem State.copyFailed_busy (s : State) (copy tile reason : Nat) :
    (s.copyFailed copy tile reason).fget pgMatte MATTE.STAT.VERIFY_BUSY = 0 := by
  unfold State.copyFailed
  rw [State.cmdFail_fget, State.fset_fget_apart (by decide),
    State.setVerified_fget (verifiedFld_apart_of (by decide) (by decide))]
  exact State.fset_fget (by decide) (by decide)

theorem State.verifyEnd_passed (hrun : (s.hdr pgMatte).run = some ⟨0x10, copy, i⟩) (hcopy : copy < 2)
    (h : s.copyFault copy = none) : State.SamePage pgMatte (s.copyPassed copy) s.verifyEnd := by
  refine State.SamePage.trans ?_ s.verifyEnd_samePage
  rw [State.verifyDone_passed hrun hcopy h]
  exact State.mirrorActive_samePage ..

theorem State.verifyEnd_failed (hrun : (s.hdr pgMatte).run = some ⟨0x10, copy, i⟩) (hcopy : copy < 2)
    (h : s.copyFault copy = some (tile, reason)) :
    State.SamePage pgMatte (s.copyFailed copy tile reason) s.verifyEnd := by
  rw [← State.verifyDone_failed hrun hcopy h]
  exact s.verifyEnd_samePage

/-- Whether or not the copy passes, VERIFY is no longer shown at work. -/
theorem State.verifyEnd_idle (hrun : (s.hdr pgMatte).run = some ⟨0x10, copy, i⟩) (hcopy : copy < 2) :
    s.verifyEnd.fbit pgMatte MATTE.STAT.VERIFY_BUSY = false := by
  have hbusy : s.verifyEnd.fget pgMatte MATTE.STAT.VERIFY_BUSY = 0 := by
    cases hfault : s.copyFault copy with
    | none => rw [(State.verifyEnd_passed hrun hcopy hfault).fget, State.copyPassed_busy]
    | some e => rw [(State.verifyEnd_failed hrun hcopy hfault).fget, State.copyFailed_busy]
  unfold State.fbit
  rw [hbusy]
  rfl

/-! ### A SEAL is written (R249) -/

theorem exec_matteSealWrite_on (h : s.boot.powered = true) (m : Master) (copy : Fin 2) (tile : Fin 16) (crc : BitVec 32) :
    exec (.matteSealWrite m copy tile crc) s =
      .next (s.writeReg m.id pgMatte (MATTE.SEAL.CRC (16 * copy + tile)).off crc.toNat) :=
  congrArg Host.Outcome.next (State.live_on h _)

theorem regOf_seal (i : Fin 32) : regOf (addrOf pgMatte (MATTE.SEAL.CRC i).off) =
    some ({ off := 0x080, n := 32, stride := 4, rw := 0xFFFFFFFF }, i.val) := by
  revert i
  decide

/-- A write of a SEAL that goes through stores it, as `sealWrite` says. -/
theorem State.writeSeal_eq {crc : BitVec 32} (hn : n < 32)
    (h : s.writes m pgMatte (MATTE.SEAL.CRC n).off crc.toNat = true) :
    s.writeReg m pgMatte (MATTE.SEAL.CRC n).off crc.toNat = (s.sealWrite n crc.toNat).emit (.access m 0 0) := by
  have hoff : (MATTE.SEAL.CRC n).off = 0x080 + 4 * n := rfl
  have hrange : (decide (0x080 ≤ (MATTE.SEAL.CRC n).off) && decide ((MATTE.SEAL.CRC n).off < 0x100)) = true := by
    rw [hoff, Bool.and_eq_true, decide_eq_true_eq, decide_eq_true_eq]
    omega
  have hstores : hookStores pgMatte (MATTE.SEAL.CRC n).off = true := by
    unfold hookStores
    rw [decide_eq_true (rfl : pgMatte = pgMatte), Bool.true_and, hrange, Bool.or_true]
  have hindex : ((MATTE.SEAL.CRC n).off - 0x080) / 4 = n := by omega
  have hhook : s.blockHook m pgMatte (MATTE.SEAL.CRC n).off crc.toNat = s.sealWrite n crc.toNat :=
    (if_pos hrange).trans (by rw [hindex])
  rw [State.writeBlock_ok h (by omega) (by omega) (regOf_seal ⟨n, hn⟩) crc.isLt (.inl rfl) (by decide) (Nat.and_zero _),
    if_pos hstores, hhook]

theorem State.unverify_fget (h : (verifiedFld m).Apart f) : (s.unverify m).fget p f = s.fget p f := by
  unfold State.unverify
  split
  · rw [State.evt_fget, State.setVerified_fget h]
  · rfl

theorem State.unverify_verified (s : State) (m : Nat) : (s.unverify m).verified m = false := by
  unfold State.unverify
  split
  · exact (State.verified_of_fget (State.evt_fget ..)).trans (State.setVerified_verified ..)
  · next h => exact Bool.eq_false_of_not_eq_true h

theorem State.unverify_event (h : s.verified m = true) : ((s.unverify m).hdr pgMatte).evt.getLsbD 10 = true := by
  unfold State.unverify
  rw [if_pos h]
  exact State.evt_set _ _ _ (by decide)

/-- The registers of the seals are apart from the one that shows VERIFIED. -/
theorem verifiedFld_apart_seal (m : Nat) (hn : n < 32) :
    (verifiedFld m).Apart (MATTE.SEAL.CRC n) ∧ (MATTE.SEAL.CRC n).Apart (verifiedFld m) := by
  have hoff : (verifiedFld m).off = 0x044 := by
    unfold verifiedFld
    split <;> rfl
  have hregs : 0x044 % 0x1000 ≠ (MATTE.SEAL.CRC n).off % 0x1000 := by
    unfold MATTE.SEAL.CRC
    dsimp only
    omega
  exact ⟨⟨(verifiedFld_fits m).1, .inl (hoff ▸ hregs.symm)⟩, ⟨Nat.le_refl 32, .inl (hoff ▸ hregs)⟩⟩

/-- Storing a SEAL leaves VERIFIED of both copies as it is, for `unverify` to clear. -/
theorem State.sealStored_verified {w : Nat} (hn : n < 32) :
    (s.fset p (MATTE.SEAL.CRC n) w).verified m = s.verified m :=
  State.verified_of_fget (State.fset_fget_apart (verifiedFld_apart_seal m hn).2)

theorem State.sealWrite_verified (s : State) (w : Nat) (hm : n / 16 = m) : (s.sealWrite n w).verified m = false :=
  hm ▸ State.unverify_verified ..

theorem State.sealWrite_verified_other {w : Nat} (hn : n < 32) (hm : n / 16 = 0 ↔ m ≠ 0) :
    (s.sealWrite n w).verified m = s.verified m :=
  (State.verified_of_fget (State.unverify_fget (verifiedFld_apart hm))).trans (State.sealStored_verified hn)

theorem State.sealWrite_seal (s : State) (crc : BitVec 32) (hn : n < 32) :
    (s.sealWrite n crc.toNat).fget pgMatte (MATTE.SEAL.CRC n) = crc.toNat :=
  (State.unverify_fget (verifiedFld_apart_seal _ hn).1).trans (State.fset_fget (Nat.le_refl 32) crc.isLt)

theorem State.sealWrite_event {w : Nat} (hn : n < 32) (hm : n / 16 = m) (h : s.verified m = true) :
    ((s.sealWrite n w).hdr pgMatte).evt.getLsbD 10 = true :=
  State.unverify_event ((State.sealStored_verified hn).trans (hm.symm ▸ h))

/-! ### A tap's luminance (R405, R406) -/

theorem exec_proxyTapCode_on (h : s.boot.powered = true) (zone : Fin 64) (take : Fin 4) (lam : Nat) :
    exec (.proxyTapCode zone take lam) s = .next (s.tapCode zone take lam) :=
  congrArg Host.Outcome.next (State.live_on h _)

theorem State.tapCode_disabled {zone take lam : Nat} (h : bit (SMap.read 0 s.safe.zcap zone) 31 = false) :
    s.tapCode zone take lam = s :=
  if_neg (by rw [h]; decide)

/-- The luminance added to the sum of its zone and take. -/
def State.tapSummed (s : State) (zone take sum : Nat) : State :=
  { s with safe := { s.safe with sums := SMap.write 0 s.safe.sums (4 * zone + take) sum } }

theorem State.tapCode_enabled {zone take lam : Nat} (h : bit (SMap.read 0 s.safe.zcap zone) 31 = true) :
    s.tapCode zone take lam =
      (s.tapSummed zone take ((SMap.read 0 s.safe.sums (4 * zone + take) + lam) % 2 ^ 48)).tapJudge zone take lam
        (SMap.read 0 s.safe.zcap zone % 2 ^ 31) ((SMap.read 0 s.safe.sums (4 * zone + take) + lam) % 2 ^ 48) :=
  if_pos h

/-! ### The statement -/

/-- Settles O35: VERIFY stays running until its copy has been read, which comes to `copyPassed` or to `copyFailed` at the first
tile with a fault; a SEAL is stored by `sealWrite`; and a luminance is judged once it is in its zone's sum. -/
theorem mattesAreVerified : Obligations.MattesAreVerified := by
  unfold Obligations.MattesAreVerified
  refine fun s => ⟨fun m copy h => ?_, fun copy i hon hrun => ?_, fun m copy tile crc h => ?_,
    fun zone take lam cap sum u hon hcap hsum hu => ?_⟩
  case refine_1 =>
    refine ⟨s.verifyAsked copy m.id, ?_, s.verifyAsked_runs copy m.id, State.emit_answers _ _, s.verifyAsked_busy copy m.id,
      s.verifyAsked_same copy m.id⟩
    rw [exec_matteVerify_on (State.accepts_powered h), State.verify_command h copy.isLt]
  case refine_2 =>
    refine ⟨s.verifyEnd, exec_verifyDone_on hon, State.verifyEnd_idle hrun copy.isLt, fun hpass => ?_, fun k r hfault => ?_,
      State.verifyEnd_same (State.SameOutside.refl _ s) rfl⟩
    · have hpage := State.verifyEnd_passed hrun copy.isLt (State.copyFault_none hpass)
      exact ⟨hpage.done (State.copyPassed_done hrun), (hpage.verified copy).trans (s.copyPassed_verified copy)⟩
    · have hpage := State.verifyEnd_failed hrun copy.isLt hfault
      exact ⟨hpage.failed (State.copyFailed_failed hrun), (hpage.verified copy).trans (s.copyFailed_verified copy k r),
        (hpage.fget _).trans (State.copyFailed_tile (State.copyFault_tile hfault))⟩
  case refine_3 =>
    have hn : 16 * copy.val + tile.val < 32 := by omega
    have hcopy : (16 * copy.val + tile.val) / 16 = copy.val := by omega
    refine ⟨(s.sealWrite (16 * copy + tile) crc.toNat).emit (.access m.id 0 0), ?_, State.emit_answers _ _, ?_, ?_, ?_,
      fun hverified => ?_, State.emit_same (State.sealWrite_same (State.SameOutside.refl _ s) rfl) rfl⟩
    · rw [exec_matteSealWrite_on (State.writes_powered h), State.writeSeal_eq hn h]
    · rw [State.emit_verified]
      exact s.sealWrite_verified _ hcopy
    · rw [State.emit_verified]
      exact State.sealWrite_verified_other hn (by omega)
    · rw [State.emit_fget]
      exact s.sealWrite_seal crc hn
    · rw [State.emit_hdr]
      exact State.sealWrite_event hn hcopy hverified
  case refine_4 =>
    subst hcap hsum hu
    refine ⟨fun hoff => ?_, fun henabled => ?_⟩
    · rw [exec_proxyTapCode_on hon, State.tapCode_disabled hoff]
    · rw [exec_proxyTapCode_on hon, State.tapCode_enabled henabled]
      rfl

end Sys2Proof.Machine
end

section
/-! PROOFS. Dudun ports: what a port holds reads back, and what the packets that it sends leave as it is (R266, R284). -/

namespace Sys2Proof.Machine

variable {s u v : State} {t n p type m : Nat} {d : DudSt} {o : RingOp} {ws : List Nat}

/-! ### What a port holds -/

theorem pageOf_dud_type (t : Nat) : (pageOf (pgDud t)).map Prod.fst = some .dud := by rw [pageOf_dud]; rfl

@[simp] theorem State.setDud_dud_self (s : State) (t : Nat) (d : DudSt) : (s.setDud t d).dud t = d :=
  SMap.read_write_self ..

theorem State.setDud_dud_other (h : n ≠ t) : (s.setDud t d).dud n = s.dud n := SMap.read_write_other _ _ _ h _

@[simp] theorem State.setDud_fget (s : State) (t : Nat) (d : DudSt) (p : Nat) (f : Fld) :
    (s.setDud t d).fget p f = s.fget p f := rfl

theorem State.dud_of_duds (h : u.duds = s.duds) (t : Nat) : u.dud t = s.dud t := by
  unfold State.dud
  rw [h]

@[simp] theorem State.emit_dud (s : State) (x : Out) (t : Nat) : (s.emit x).dud t = s.dud t :=
  State.dud_of_duds (State.emit_duds ..) t

@[simp] theorem State.fset_dud (s : State) (p : Nat) (f : Fld) (k t : Nat) : (s.fset p f k).dud t = s.dud t :=
  State.dud_of_duds (State.fset_duds ..) t

@[simp] theorem State.cmdStart_dud (s : State) (p op arg i t : Nat) : (s.cmdStart p op arg i).dud t = s.dud t :=
  State.dud_of_duds (State.cmdStart_duds ..) t

/-! ### Packets leave -/

/-- A port may send: the device is not DEMOTED and the domain of the port is ON (R438, R499). -/
def State.MaySend (s : State) (t : Nat) : Prop := s.pairState ≠ 5 ∧ s.domOn (15 + portGroup t) = true

/-- A port that may send puts its packet out. -/
theorem State.ringSend_eq (h : s.MaySend t) (hm : m ≠ 0) (type : Nat) (ws : List Nat) : s.ringSend t type m ws =
    ((s.fresh 7).2.setDud t { s.dud t with lastTx := s.mono }).emit
      (.ring t type m (s.fget (pgDud t) DUD.OWN.EPOCH) s.deviceId (s.fresh 7).1.toNat ws) := by
  obtain ⟨hpair, hon⟩ := h
  unfold State.ringSend
  rw [if_neg (by simp [hpair, hm, hon])]
  rfl

theorem State.ringSend_answers (h : s.MaySend t) (hm : m ≠ 0) (type : Nat) (ws : List Nat) :
    ∃ tag, (s.ringSend t type m ws).Answers (.ring t type m (s.fget (pgDud t) DUD.OWN.EPOCH) s.deviceId tag ws) :=
  ⟨_, State.ringSend_eq h hm type ws ▸ State.emit_answers _ _⟩

theorem State.ringSend_lastTx (h : s.MaySend t) (hm : m ≠ 0) (type : Nat) (ws : List Nat) :
    ((s.ringSend t type m ws).dud t).lastTx = s.mono := by
  rw [State.ringSend_eq h hm, State.emit_dud, State.setDud_dud_self]

/-- From one state to another a port has at most sent packets. -/
def State.PortSent (t : Nat) (s u : State) : Prop := ∃ i, u.dud t = { s.dud t with lastTx := i }

theorem State.PortSent.refl (t : Nat) (s : State) : State.PortSent t s s := ⟨_, rfl⟩

theorem State.PortSent.trans (h : State.PortSent t s u) (h' : State.PortSent t u v) : State.PortSent t s v := by
  obtain ⟨_, h⟩ := h
  obtain ⟨i, h'⟩ := h'
  exact ⟨i, by rw [h', h]⟩

theorem State.ringSend_sent (s : State) (t type m : Nat) (ws : List Nat) :
    State.PortSent t s (s.ringSend t type m ws) := by
  unfold State.ringSend
  split
  · exact State.PortSent.refl t s
  · exact ⟨s.mono, State.setDud_dud_self ..⟩

theorem State.sendSinkConfig_sent (s : State) (t m : Nat) : State.PortSent t s (s.sendSinkConfig t m) :=
  List.foldlRecOn _ _ (State.PortSent.refl t s) fun _ h _ _ => h.trans (State.ringSend_sent ..)

theorem State.sendPhase_sent (s : State) (t : Nat) (o : RingOp) (m : Option Nat) :
    State.PortSent t s (s.sendPhase t o m) := by
  unfold State.sendPhase
  split
  · split
    · exact State.ringSend_sent ..
    · exact State.PortSent.trans ⟨_, rfl⟩ (State.ringSend_sent (s.fresh 16).2 ..)
  · split
    · exact State.ringSend_sent ..
    · exact State.sendSinkConfig_sent ..
  · exact State.ringSend_sent ..

/-- What sending takes of the machine. -/
theorem State.sendPhase_sends (s : State) (t : Nat) (o : RingOp) (m : Option Nat) :
    State.SameBut [.free, .duds, .out] s (s.sendPhase t o m) := State.sendPhase_same (State.SameOutside.refl _ s) rfl

/-! ### Operations start -/

/-- An operation whose phase goes out at an instant: nobody has answered. -/
def RingOp.begun (o : RingOp) (now : Nat) : RingOp :=
  { o with answered := 0, refused := 0, retried := false, sentAt := now, rttSink := none }

/-- The operation joins those in progress. -/
theorem State.startPhase_dud (s : State) (t : Nat) (o : RingOp) :
    ∃ i, (s.startPhase t o).dud t = { s.dud t with lastTx := i, ops := (s.dud t).ops ++ [o.begun s.mono] } := by
  obtain ⟨i, hsent⟩ := s.sendPhase_sent t o o.targets
  have hmono : (s.sendPhase t o o.targets).mono = s.mono := s.sendPhase_sends t o o.targets .mono rfl
  refine ⟨i, (State.setDud_dud_self ..).trans ?_⟩
  rw [hsent, hmono]
  rfl

theorem State.startPhase_ops (s : State) (t : Nat) (o : RingOp) :
    ((s.startPhase t o).dud t).ops = (s.dud t).ops ++ [o.begun s.mono] := by
  obtain ⟨i, h⟩ := s.startPhase_dud t o
  rw [h]

theorem State.startPhase_sends (s : State) (t : Nat) (o : RingOp) :
    State.SameBut [.free, .duds, .out] s (s.startPhase t o) := State.startPhase_same (State.SameOutside.refl _ s) rfl

end Sys2Proof.Machine
end

section
/-! PROOFS. Ports in time: deliveries that end, timeouts, readmission once a second, idle framesets, a lost lock (R280,
R281, R284, R286, R288, R493). -/

namespace Sys2Proof.Machine

variable {s : State} {t m type : Nat} {o : RingOp} {pre post : List RingOp}

/-! ### A delivery ends (R280) -/

theorem exec_deliveryDone_on (h : s.boot.powered = true) (tile : Fin 16) :
    exec (.deliveryDone tile) s = .next (s.deliveryDone tile) :=
  congrArg Host.Outcome.next (State.live_on h _)

theorem State.deliveryDone_eq (hround : (s.dud t).round = 0) (hlive : (s.dud t).live ≠ 0)
    (hcomplete : (s.dud t).complete = false) (hon : s.domOn (15 + portGroup t) = true) :
    s.deliveryDone t = s.tallyRound t 1 (s.dud t).live :=
  if_pos (by simp [hround, hlive, hcomplete, hon])

theorem State.tallyRound_dud (s : State) (t r m : Nat) :
    ∃ i, (s.tallyRound t r m).dud t = { s.dud t with lastTx := i, round := r, awaited := m, incomplete := 0 } := by
  obtain ⟨i, hsent⟩ := s.ringSend_sent t 0x0A m []
  refine ⟨i, (State.setDud_dud_self ..).trans ?_⟩
  rw [hsent]

theorem State.tallyRound_answers (h : s.MaySend t) (hm : m ≠ 0) (r : Nat) : ∃ tag, (s.tallyRound t r m).Answers
    (.ring t 0x0A m (s.fget (pgDud t) DUD.OWN.EPOCH) s.deviceId tag []) :=
  State.ringSend_answers h hm 0x0A []

/-! ### A response timeout (R284) -/

theorem exec_responseTimeout_on (h : s.boot.powered = true) (tile : Fin 16) (type : BitVec 8) :
    exec (.responseTimeout tile type) s = .next (s.portTimeout tile type.toNat) :=
  congrArg Host.Outcome.next (State.live_on h _)

/-- A request that is neither DIAG_REQ nor TALLY belongs to an operation. -/
theorem State.portTimeout_op {type : BitVec 8} (hdiag : type ≠ 0x05) (htally : type ≠ 0x0A) :
    s.portTimeout t type.toNat = s.opTimeout t type.toNat :=
  (if_neg fun h => hdiag (BitVec.eq_of_toNat_eq h)).trans (if_neg fun h => htally (BitVec.eq_of_toNat_eq h))

/-- The silent targets of an operation are sent its command once more. -/
def State.sentAgain (s : State) (t : Nat) (pre : List RingOp) (o : RingOp) (post : List RingOp) (silent : Nat) : State :=
  (s.sendPhase t o (some silent)).setDud t
    { (s.sendPhase t o (some silent)).dud t with ops := pre ++ { o with retried := true } :: post }

theorem State.sentAgain_ops (silent : Nat) :
    ((s.sentAgain t pre o post silent).dud t).ops = pre ++ { o with retried := true } :: post :=
  congrArg DudSt.ops (State.setDud_dud_self ..)

theorem State.sentAgain_same (s : State) (t : Nat) (pre : List RingOp) (o : RingOp) (post : List RingOp) (silent : Nat) :
    State.SameBut [.free, .duds, .out] s (s.sentAgain t pre o post silent) :=
  State.setDud_same (s.sendPhase_sends t o (some silent)) rfl

theorem State.opTimeout_first (h : findType type (s.dud t).ops = some (pre, o, post)) (htargets : o.targets = some m)
    (hsilent : without m (o.answered ||| o.refused) ≠ 0) (hretried : o.retried = false) :
    s.opTimeout t type = s.sentAgain t pre o post (without m (o.answered ||| o.refused)) := by
  have hsome : o.targets.isSome = true := by rw [htargets]; rfl
  obtain rfl : o.targets.getD 0 = m := by rw [htargets]; rfl
  unfold State.opTimeout
  simp only [h]
  exact if_pos (by simp [hsome, hsilent, hretried])

theorem State.opTimeout_second (h : findType type (s.dud t).ops = some (pre, o, post)) (hretried : o.retried = true) :
    s.opTimeout t type = (s.setDud t { s.dud t with ops := pre ++ post }).phaseEnd t o := by
  unfold State.opTimeout
  simp only [h]
  rw [if_neg (by simp [hretried])]

/-! ### Readmission once a second (R288) -/

theorem exec_autoReadmit_on (h : s.boot.powered = true) (tile : Fin 16) :
    exec (.autoReadmit tile) s = .next (s.autoReadmit tile) :=
  congrArg Host.Outcome.next (State.live_on h _)

/-- A port that does nothing else queries the lost sinks that do not wait to rejoin. -/
theorem State.autoReadmit_eq (hauto : s.fbit (pgDud t) DUD.CTL.AUTO_READMIT = true)
    (hon : s.domOn (15 + portGroup t) = true) (hops : (s.dud t).ops = [])
    (hlost : without (s.dud t).lost (s.dud t).rejoin ≠ 0) : s.autoReadmit t =
      s.startPhase t { kind := .readmit false, targets := some (without (s.dud t).lost (s.dud t).rejoin) } :=
  (if_pos (by simp [hauto, hon, hops])).trans (if_neg hlost)

/-- The first phase of a readmission is a QUERY. -/
theorem State.startReadmit_answers (h : s.MaySend t) (hm : m ≠ 0) (c : Bool) :
    ∃ tag, (s.startPhase t { kind := .readmit c, targets := some m }).Answers
      (.ring t 0x08 m (s.fget (pgDud t) DUD.OWN.EPOCH) s.deviceId tag []) :=
  State.ringSend_answers h hm 0x08 []

/-! ### Idle framesets (R493) -/

theorem exec_idleFrameset_on (h : s.boot.powered = true) (tile : Fin 16) :
    exec (.idleFrameset tile) s = .next (s.idleFrameset tile) :=
  congrArg Host.Outcome.next (State.live_on h _)

/-- The instant at which a port has sent nothing for 100 µs. -/
def State.portIdle (s : State) (t : Nat) : State := s.advanceTo ((s.dud t).lastTx + 100000)

theorem State.portIdle_pages (s : State) (t : Nat) : (s.portIdle t).pages = s.pages := State.advanceTo_pages ..

theorem State.portIdle_fget (s : State) (t p : Nat) (f : Fld) : (s.portIdle t).fget p f = s.fget p f :=
  State.fget_of_pages (s.portIdle_pages t) p f

theorem State.portIdle_maySend (h : s.MaySend t) : (s.portIdle t).MaySend t := by
  unfold State.MaySend State.pairState State.domOn at h ⊢
  simpa only [State.portIdle_fget] using h

/-- An idle port has sent a FRAMESET for the next frame. -/
def State.framesetSent (s : State) (t : Nat) : State :=
  (s.portIdle t).ringSend t 0x09 (2 ^ 128 - 1) [(s.frame + 1) % 65536]

theorem State.idleFrameset_eq (hactive : s.pairActive = true) (hhead : s.fget (pgDud t) DUD.CTL.ROLE = 1) :
    s.idleFrameset t = s.framesetSent t := by
  have hframe : (s.portIdle t).frame = s.frame := s.portIdle_fget t pgTime TIME.FRAME.NUMBER
  unfold State.framesetSent
  rw [← hframe]
  exact if_pos (by simp [hactive, hhead])

theorem State.framesetSent_answers (h : s.MaySend t) : ∃ tag, (s.framesetSent t).Answers (.ring t 0x09 (2 ^ 128 - 1)
    (s.fget (pgDud t) DUD.OWN.EPOCH) s.deviceId tag [(s.frame + 1) % 65536]) := by
  have hdevice : (s.portIdle t).deviceId = s.deviceId := s.portIdle_fget t pgPair PAIR.IDENT.DEVICE_ID
  rw [← s.portIdle_fget t, ← hdevice]
  exact State.ringSend_answers (State.portIdle_maySend h) (by decide) 0x09 _

theorem State.framesetSent_instant (s : State) (t : Nat) : (s.framesetSent t).mono = (s.portIdle t).mono := by
  have hsent : State.SameBut [.free, .duds, .out] (s.portIdle t) (s.framesetSent t) :=
    State.ringSend_same (State.SameOutside.refl _ _) rfl
  exact hsent .mono rfl

theorem State.framesetSent_mono (s : State) (t : Nat) :
    (s.framesetSent t).mono = max s.mono ((s.dud t).lastTx + 100000) :=
  (s.framesetSent_instant t).trans (State.advanceTo_mono ..)

theorem State.framesetSent_lastTx (h : s.MaySend t) : ((s.framesetSent t).dud t).lastTx = (s.framesetSent t).mono :=
  (State.ringSend_lastTx (State.portIdle_maySend h) (by decide) ..).trans (s.framesetSent_instant t).symm

theorem State.framesetSent_same (s : State) (t : Nat) :
    State.SameBut [.mono, .free, .time, .duds, .out] s (s.framesetSent t) :=
  State.ringSend_same (State.advanceTo_same (State.SameOutside.refl _ s) rfl) rfl

/-! ### The receiver loses lock (R286) -/

theorem exec_ringLockLoss_on (h : s.boot.powered = true) (tile : Fin 16) :
    exec (.ringLockLoss tile) s = .next (s.ringLockLoss tile) :=
  congrArg Host.Outcome.next (State.live_on h _)

theorem State.ringLockLoss_dud (s : State) (t : Nat) : (s.ringLockLoss t).dud t = { s.dud t with locked := false } := by
  unfold State.ringLockLoss
  rw [State.setDud_dud_self]

/-! ### The statement -/

/-- Settles O37: a delivery that ends comes to `tallyRound`, a first timeout to `sentAgain` and a second to `phaseEnd`, a
readmission to `startPhase`, and an idle port comes to `framesetSent`. -/
theorem portsActInTime : Obligations.PortsActInTime := by
  unfold Obligations.PortsActInTime
  intro s tile hpowered hpair hon
  have hsend : s.MaySend tile := ⟨hpair, hon⟩
  refine ⟨fun hround hlive hcomplete => ?_, fun type pre o post m hdiag htally hfind htargets =>
    ⟨fun hsilent hretried => ?_, fun hretried => ?_⟩, fun hauto hlost hops => ?_, fun hactive hhead => ?_, ?_⟩
  case refine_1 =>
    obtain ⟨i, hdud⟩ := s.tallyRound_dud tile 1 (s.dud tile).live
    refine ⟨s.tallyRound tile 1 (s.dud tile).live, ?_, ?_, ?_, ?_, State.tallyRound_answers hsend hlive 1,
      State.tallyRound_same (State.SameOutside.refl _ s) rfl⟩
    · rw [exec_deliveryDone_on hpowered, State.deliveryDone_eq hround hlive hcomplete hon]
    all_goals rw [hdud]
  case refine_2 =>
    refine ⟨s.sentAgain tile pre o post (without m (o.answered ||| o.refused)), ?_, State.sentAgain_ops _,
      s.sentAgain_same tile pre o post _⟩
    rw [exec_responseTimeout_on hpowered, State.portTimeout_op hdiag htally,
      State.opTimeout_first hfind htargets hsilent hretried]
  case refine_3 =>
    rw [exec_responseTimeout_on hpowered, State.portTimeout_op hdiag htally, State.opTimeout_second hfind hretried]
  case refine_4 =>
    refine ⟨_, ?_, ?_, State.startReadmit_answers hsend hlost false, s.startPhase_sends tile _⟩
    · rw [exec_autoReadmit_on hpowered, State.autoReadmit_eq hauto hon hops hlost]
    · rw [State.startPhase_ops, hops]
      rfl
  case refine_5 =>
    refine ⟨s.framesetSent tile, ?_, s.framesetSent_mono tile, State.framesetSent_lastTx hsend,
      State.framesetSent_answers hsend, s.framesetSent_same tile⟩
    rw [exec_idleFrameset_on hpowered, State.idleFrameset_eq hactive hhead]
  case refine_6 =>
    exact ⟨s.ringLockLoss tile, exec_ringLockLoss_on hpowered tile, s.ringLockLoss_dud tile,
      fun n hn => State.setDud_dud_other (Fin.val_ne_of_ne hn), State.ringLockLoss_same (State.SameOutside.refl _ s) rfl⟩

end Sys2Proof.Machine
end

section
/-! PROOFS. The commands of DUD: enumeration, operations that a command starts or that it is refused, and the hard blank of
a tile (R265, R277, R284, R287, R288, R296). -/

namespace Sys2Proof.Machine

variable {s : State} {p t op arg m n k reason : Nat} {f : Fld} {o : RingOp} {g : Nat → Fld}

/-! ### Commands of the page -/

theorem pgDud_ne_pgReel (t q : Nat) : pgDud t ≠ pgReel q := by
  unfold pgDud pgReel
  omega

/-- A command of DUD that the page takes starts and does its work. -/
theorem State.dudCommand_eq (tile : Fin 16) (h : s.accepts m (pgDud tile) op arg = true) (hop : 0x10 ≤ op) (ho : op < 256)
    (ha : arg < 2 ^ 24) : s.command m (pgDud tile) op arg =
      ((s.cmdStart (pgDud tile) op arg m).dudCmd tile op arg).emit (.access m 0 0) := by
  rw [State.command_eq h ho ha (.inr fun q _ => pgDud_ne_pgReel tile q)]
  unfold State.cmdRun
  rw [if_neg (by omega), if_neg (by omega), if_neg (by omega), pageOf_dud, Nat.mod_eq_of_lt tile.isLt]

theorem exec_enumerate_on (h : s.boot.powered = true) (m : Master) (tile : Fin 16) :
    exec (.enumerate m tile) s = .next (s.command m.id (pgDud tile) 0x10 0) :=
  congrArg Host.Outcome.next (State.live_on h _)

theorem exec_dudClaim_on (h : s.boot.powered = true) (m : Master) (tile : Fin 16) (lo hi : BitVec 8) :
    exec (.dudClaim m tile lo hi) s = .next (s.command m.id (pgDud tile) 0x11 (lo.toNat + 256 * hi.toNat)) :=
  congrArg Host.Outcome.next (State.live_on h _)

theorem exec_dudQuery_on (h : s.boot.powered = true) (m : Master) (tile : Fin 16) :
    exec (.dudQuery m tile) s = .next (s.command m.id (pgDud tile) 0x12 0) :=
  congrArg Host.Outcome.next (State.live_on h _)

theorem exec_sendConfig_on (h : s.boot.powered = true) (m : Master) (tile : Fin 16) (count : BitVec 4) :
    exec (.sendConfig m tile count) s = .next (s.command m.id (pgDud tile) 0x13 count.toNat) :=
  congrArg Host.Outcome.next (State.live_on h _)

theorem exec_readmit_on (h : s.boot.powered = true) (m : Master) (tile : Fin 16) :
    exec (.readmit m tile) s = .next (s.command m.id (pgDud tile) 0x14 0) :=
  congrArg Host.Outcome.next (State.live_on h _)

theorem exec_hbForceWrite_on (h : s.boot.powered = true) (m : Master) (tile : Fin 16) (force : Bool) :
    exec (.hbForceWrite m tile force) s = .next (s.writeReg m.id (pgDud tile) DUD.HB.FORCE.off (b2n force)) :=
  congrArg Host.Outcome.next (State.live_on h _)

/-! ### A command as an operation of its port (R284) -/

/-- A command that its port takes up as an operation, as far as its answer. -/
def State.opAsked (s : State) (t op arg m : Nat) (o : RingOp) : State :=
  ((s.cmdStart (pgDud t) op arg m).startPhase t o).emit (.access m 0 0)

theorem State.opAsked_runs (s : State) (t op arg m : Nat) (o : RingOp) : (s.opAsked t op arg m o).Runs (pgDud t) op arg m :=
  ((s.cmdStart_runs (pgDud t)).of_samePage
    (State.startPhase_sends _ t o (.page .dud) rfl (pgDud t) (pageOf_dud_type t))).emit _

theorem State.opAsked_ops (s : State) (t op arg m : Nat) (o : RingOp) :
    ((s.opAsked t op arg m o).dud t).ops = (s.dud t).ops ++ [o.begun s.mono] := by
  unfold State.opAsked
  rw [State.emit_dud, State.startPhase_ops, State.cmdStart_dud, State.cmdStart_mono]

theorem State.opAsked_same (s : State) (t op arg m : Nat) (o : RingOp) :
    State.SameBut [.free, .duds, .out, .page .dud] s (s.opAsked t op arg m o) :=
  State.emit_same (State.startPhase_same (State.cmdStart_same (State.SameOutside.refl _ s) rfl (pageMask_dud t rfl)) rfl) rfl

/-- A command without sinks to serve, as far as its answer. -/
def State.opFailed (s : State) (t op arg m reason : Nat) : State :=
  ((s.cmdStart (pgDud t) op arg m).cmdFail (pgDud t) reason).emit (.access m 0 0)

theorem State.opFailed_failed (s : State) (t op arg m reason : Nat) :
    (s.opFailed t op arg m reason).Failed (pgDud t) op m reason :=
  State.cmdFail_failed (s.cmdStart_run (pgDud t) (g := arg))

theorem State.opFailed_same (s : State) (t op arg m reason : Nat) :
    State.SameBut [.out, .page .dud] s (s.opFailed t op arg m reason) :=
  State.emit_same (State.cmdFail_same (State.cmdStart_same (State.SameOutside.refl _ s) rfl (pageMask_dud t rfl)) rfl
    (pageMask_dud t rfl)) rfl

theorem State.opFailed_duds (s : State) (t op arg m reason : Nat) : (s.opFailed t op arg m reason).duds = s.duds :=
  s.opFailed_same t op arg m reason .duds rfl

/-! ### CLAIM (R287) -/

theorem claim_arg (lo hi : BitVec 8) : lo.toNat + 256 * hi.toNat < 2 ^ 24 ∧
    (lo.toNat + 256 * hi.toNat) % 256 = lo.toNat ∧ (lo.toNat + 256 * hi.toNat) / 256 % 256 = hi.toNat := by
  have hlo := lo.isLt
  have hhi := hi.isLt
  omega

/-- CLAIM is for the sinks of its range that the ring has. -/
theorem State.claim_command (tile : Fin 16) (lo hi : BitVec 8)
    (h : s.accepts m (pgDud tile) 0x11 (lo.toNat + 256 * hi.toNat) = true) :
    s.command m (pgDud tile) 0x11 (lo.toNat + 256 * hi.toNat) =
      if sinkRange lo.toNat hi.toNat &&& s.allSinks tile = 0 then
        s.opFailed tile 0x11 (lo.toNat + 256 * hi.toNat) m 0x30
      else s.opAsked tile 0x11 (lo.toNat + 256 * hi.toNat) m
        { kind := .claim lo.toNat hi.toNat true, targets := some (sinkRange lo.toNat hi.toNat &&& s.allSinks tile) } := by
  obtain ⟨hfits, hlow, hhigh⟩ := claim_arg lo hi
  have hcmd : (s.cmdStart (pgDud tile) 0x11 (lo.toNat + 256 * hi.toNat) m).dudCmd tile 0x11 (lo.toNat + 256 * hi.toNat) =
      (s.cmdStart (pgDud tile) 0x11 (lo.toNat + 256 * hi.toNat) m).claimStart tile lo.toNat hi.toNat true := by
    simp only [State.dudCmd, Nat.reduceEqDiff, if_true, if_false, hlow, hhigh]
  rw [State.dudCommand_eq tile h (by decide) (by decide) hfits, hcmd]
  split
  next hnone => exact congrArg (State.emit · (.access m 0 0)) (if_pos hnone)
  next hsome => exact congrArg (State.emit · (.access m 0 0)) (if_neg hsome)

/-! ### QUERY (R284) -/

/-- Whom QUERY goes to: the live sinks; without any, those enumerated; else whichever answer. -/
def State.queryTargets (s : State) (t : Nat) : Option Nat :=
  if (s.dud t).live ≠ 0 then some (s.dud t).live else if s.enumerated t = true then some (s.allSinks t) else none

theorem State.queryStart_eq (s : State) (t : Nat) (c : Bool) :
    s.queryStart t c = s.startPhase t { kind := .query c, targets := s.queryTargets t } := by
  unfold State.queryStart State.queryTargets
  simp only [bne_iff_ne]

theorem State.query_command (tile : Fin 16) (h : s.accepts m (pgDud tile) 0x12 0 = true) :
    s.command m (pgDud tile) 0x12 0 =
      s.opAsked tile 0x12 0 m { kind := .query true, targets := s.queryTargets tile } := by
  rw [State.dudCommand_eq tile h (by decide) (by decide) (by decide)]
  exact congrArg (State.emit · (.access m 0 0)) (State.queryStart_eq ..)

/-! ### SEND_CONFIG (R296) -/

/-- How many entries a count stands for; outside 1 to 8 the spec does not say (log 56). -/
def State.configLength (s : State) (count : Nat) : Nat :=
  if 1 ≤ count ∧ count ≤ 8 then count else (s.fresh 3).1.toNat + 1

theorem State.configLength_bounds (s : State) (count : Nat) :
    1 ≤ s.configLength count ∧ s.configLength count ≤ 8 ∧ (1 ≤ count → count ≤ 8 → s.configLength count = count) := by
  have hfree := (s.fresh 3).1.isLt
  unfold State.configLength
  split <;> omega

/-- The entries as the registers give them. -/
def State.configEntries (s : State) (t n : Nat) : List (Nat × Nat) :=
  (List.range n).map fun i => (s.fget (pgDud t) (DUD.SC_REG.REG i), s.fget (pgDud t) (DUD.SC_DATA.DATA i))

/-- SEND_CONFIG as an operation. -/
def State.configOp (s : State) (t count : Nat) : RingOp :=
  { kind := .sendConfig (s.configEntries t (s.configLength count))
    targets := some (s.getMask (pgDud t) DUD.SC_MASK.SINKS) }

/-- SEND_CONFIG with sinks to send to takes a free value, whatever its count. -/
theorem State.sendConfigStart_eq (s : State) (t count : Nat) : s.sendConfigStart t count =
    if s.getMask (pgDud t) DUD.SC_MASK.SINKS = 0 then s.cmdFail (pgDud t) 0x35
    else (s.fresh 3).2.startPhase t (s.configOp t count) := by
  unfold State.sendConfigStart State.startOn
  by_cases hmask : s.getMask (pgDud t) DUD.SC_MASK.SINKS = 0
  · simp only [if_pos hmask]
  · simp only [if_neg hmask]
    rfl

theorem State.cmdStart_getMask (s : State) (q op arg m p : Nat) (g : Nat → Fld) :
    (s.cmdStart q op arg m).getMask p g = s.getMask p g := by
  unfold State.getMask
  simp only [State.cmdStart_fget]

theorem State.cmdStart_configOp (s : State) (q op arg m t count : Nat) :
    (s.cmdStart q op arg m).configOp t count = s.configOp t count := by
  unfold State.configOp State.configEntries State.configLength
  simp only [State.cmdStart_fget, State.cmdStart_getMask]
  rfl

theorem State.sendConfig_command (tile : Fin 16) (count : BitVec 4)
    (h : s.accepts m (pgDud tile) 0x13 count.toNat = true) :
    s.command m (pgDud tile) 0x13 count.toNat =
      if s.getMask (pgDud tile) DUD.SC_MASK.SINKS = 0 then s.opFailed tile 0x13 count.toNat m 0x35
      else (s.fresh 3).2.opAsked tile 0x13 count.toNat m (s.configOp tile count.toNat) := by
  have hcount : count.toNat < 16 := count.isLt
  have hcmd : (s.cmdStart (pgDud tile) 0x13 count.toNat m).dudCmd tile 0x13 count.toNat =
      (s.cmdStart (pgDud tile) 0x13 count.toNat m).sendConfigStart tile (count.toNat % 16) := by
    simp only [State.dudCmd, Nat.reduceEqDiff, if_true, if_false]
  rw [State.dudCommand_eq tile h (by decide) (by decide) (by omega), hcmd, Nat.mod_eq_of_lt hcount,
    State.sendConfigStart_eq, State.cmdStart_getMask, State.cmdStart_configOp]
  exact apply_ite (fun u : State => u.emit (.access m 0 0)) _ _ _

/-! ### READMIT (R288) -/

/-- READMIT is refused while no sink is lost. -/
theorem State.accepts_readmit (tile : Fin 16) (h : s.accepts m (pgDud tile) 0x14 0 = true) : (s.dud tile).lost ≠ 0 := by
  intro hlost
  have hrefused : s.cmdRefused m (pgDud tile) 0x14 0 = some 0x23 := by
    unfold State.cmdRefused
    rw [if_neg (by decide), pageOf_dud, Nat.mod_eq_of_lt tile.isLt]
    simp [State.dudRefused, firstReason, reasons, hlost]
  simp [State.accepts, hrefused] at h

theorem State.readmit_command (tile : Fin 16) (h : s.accepts m (pgDud tile) 0x14 0 = true) :
    s.command m (pgDud tile) 0x14 0 =
      s.opAsked tile 0x14 0 m { kind := .readmit true, targets := some (s.dud tile).lost } := by
  rw [State.dudCommand_eq tile h (by decide) (by decide) (by decide)]
  exact congrArg (State.emit · (.access m 0 0)) (if_neg (State.accepts_readmit tile h))

/-! ### What a port shows of its ring (R285, R294) -/

/-- The registers that follow from the sets of sinks alone. -/
def State.sinksShown (s : State) (t : Nat) : State :=
  let p := pgDud t
  let d := s.dud t
  let s := ((s.setMask p DUD.LIVE.SINKS d.live).setMask p DUD.LOST.SINKS d.lost).fset p DUD.STAT.LIVE_CNT
    (sinksOf d.live).length
  let s := s.fset p DUD.STAT.FAULT_AT ((sinksOf d.lost).headD 0xFF)
  let s := s.fsetB p DUD.OWN.OWNS (d.owned != 0)
  (List.range 128).foldl (fun s i =>
    (s.fsetB p (DUD.SINK_B.LIVE i) (bit d.live i)).fsetB p (DUD.SINK_B.LOST i) (bit d.lost i)) s

/-- A ring that is not enumerated has no state to show. -/
theorem State.showRing_eq (h : (s.sinksShown t).enumerated t = false) : s.showRing t = s.sinksShown t := by
  unfold State.showRing
  exact if_neg (by rw [Bool.and_eq_true]; exact fun hboth => Bool.false_ne_true (h.symm.trans hboth.1))

theorem State.setMask_fget_apart (h : ∀ i < 4, (g i).Apart f) (q v : Nat) :
    (s.setMask q g v).fget p f = s.fget p f :=
  List.foldlRecOn _ _ (motive := fun u : State => u.fget p f = s.fget p f) rfl fun _ hu i hi =>
    (State.fset_fget_apart (h i (List.mem_range.mp hi))).trans hu

theorem State.Runs.setMask (h : s.Runs p op arg m) (q : Nat) (g : Nat → Fld) (v : Nat) : (s.setMask q g v).Runs p op arg m :=
  List.foldlRecOn _ _ (motive := fun u : State => u.Runs p op arg m) h fun _ hu _ _ => hu.fset ..

/-- STATE and SINKS of STAT are none of them. -/
theorem State.sinksShown_fget (s : State) (t : Nat) (hoff : f.off = 0x048) (hlow : f.lo + f.w ≤ 16) :
    (s.sinksShown t).fget p f = s.fget p f := by
  have hsink (i : Nat) : (DUD.SINK_B.LIVE i).Apart f ∧ (DUD.SINK_B.LOST i).Apart f := by
    unfold Fld.Apart DUD.SINK_B.LIVE DUD.SINK_B.LOST
    dsimp only
    omega
  refine List.foldlRecOn _ _ (motive := fun u : State => u.fget p f = s.fget p f) ?_ fun _ hu i _ =>
    (State.fsetB_fget_apart (hsink i).2).trans ((State.fsetB_fget_apart (hsink i).1).trans hu)
  rw [State.fsetB_fget_apart, State.fset_fget_apart, State.fset_fget_apart, State.setMask_fget_apart,
    State.setMask_fget_apart]
  all_goals
    unfold Fld.Apart
    simp only [DUD.OWN.OWNS, DUD.STAT.FAULT_AT, DUD.STAT.LIVE_CNT, DUD.LOST.SINKS, DUD.LIVE.SINKS]
    omega

theorem State.Runs.sinksShown (h : s.Runs p op arg m) (t : Nat) : (s.sinksShown t).Runs p op arg m :=
  List.foldlRecOn _ _ (motive := fun u : State => u.Runs p op arg m)
    (((((h.setMask ..).setMask ..).fset ..).fset ..).fset ..) fun _ hu _ _ => (hu.fset ..).fset ..

/-! ### ENUMERATE (R277) -/

theorem State.frameDoneCheck_fget (s : State) (p : Nat) (f : Fld) : s.frameDoneCheck.fget p f = s.fget p f := by
  unfold State.frameDoneCheck
  split
  · exact State.evt_fget ..
  · rfl

/-- The tile of a port that stops is not live. -/
theorem State.stopPort_tileLive (s : State) (ht : t < 16) : (s.stopPort t).tileLive t = false := by
  have hbit : 1 <<< t % 0x10000 = 1 <<< t :=
    Nat.mod_eq_of_lt (by rw [Nat.one_shiftLeft]; exact Nat.pow_lt_pow_right (by decide) ht)
  have hlive : (s.stopPort t).fget pgSys SYS.FIELD_STAT.TILE_LIVE =
      s.fget pgSys SYS.FIELD_STAT.TILE_LIVE &&& (0xFFFF - 1 <<< t) := by
    unfold State.stopPort State.setTileLive
    rw [State.frameDoneCheck_fget, State.setDud_fget]
    exact State.fset_fget (by decide) (Nat.lt_of_le_of_lt Nat.and_le_left (State.fget_lt ..))
  unfold State.tileLive
  rw [hlive, bit_and, ← hbit, bit_lacking _ ht, bit_one_shiftLeft, decide_eq_true rfl, Bool.not_true, Bool.and_false]

/-- A port forgets its ring: it delivers nothing, does nothing and knows no sinks, and its state is ENUMERATING. -/
def State.ringForgotten (s : State) (t : Nat) : State :=
  (((s.stopPort t).setDud t { (s.stopPort t).dud t with ops := [], live := 0, lost := 0, owned := 0, rejoin := 0 }).fset
    (pgDud t) DUD.STAT.SINKS 0).fset (pgDud t) DUD.STAT.STATE 2

theorem State.ringForgotten_dud (s : State) (t : Nat) : (s.ringForgotten t).dud t =
    { (s.stopPort t).dud t with ops := [], live := 0, lost := 0, owned := 0, rejoin := 0 } := by
  unfold State.ringForgotten
  rw [State.fset_dud, State.fset_dud, State.setDud_dud_self]

theorem State.ringForgotten_state (s : State) (t : Nat) : (s.ringForgotten t).fget (pgDud t) DUD.STAT.STATE = 2 :=
  State.fset_fget (by decide) (by decide)

theorem State.ringForgotten_sinks (s : State) (t : Nat) : (s.ringForgotten t).fget (pgDud t) DUD.STAT.SINKS = 0 :=
  (State.fset_fget_apart (by decide)).trans (State.fset_fget (by decide) (by decide))

theorem State.Runs.stopPort (h : s.Runs (pgDud t) op arg m) (k : Nat) : (s.stopPort k).Runs (pgDud t) op arg m := by
  have hsame : State.SameBut [.time, .duds, .out, .page .sys, .page .time] s (s.stopPort k) :=
    State.stopPort_same (State.SameOutside.refl _ s) rfl
  exact h.of_samePage (hsame (.page .dud) rfl (pgDud t) (pageOf_dud_type t))

/-- What the port shows of a ring that it has forgotten. -/
theorem State.ringForgotten_showRing (s : State) (t : Nat) :
    (s.ringForgotten t).showRing t = (s.ringForgotten t).sinksShown t := by
  refine State.showRing_eq ?_
  unfold State.enumerated
  rw [State.sinksShown_fget _ t rfl (by decide), State.ringForgotten_sinks]
  rfl

/-- ENUMERATE as far as its answer. -/
def State.enumerateAsked (s : State) (t m : Nat) : State :=
  ((s.cmdStart (pgDud t) 0x10 0 m).enumerateStart t).emit (.access m 0 0)

theorem State.enumerate_command (tile : Fin 16) (h : s.accepts m (pgDud tile) 0x10 0 = true) :
    s.command m (pgDud tile) 0x10 0 = s.enumerateAsked tile m := by
  rw [State.dudCommand_eq tile h (by decide) (by decide) (by decide)]
  rfl

theorem State.enumerateStart_eq (s : State) (t : Nat) :
    s.enumerateStart t = ((s.ringForgotten t).showRing t).startPhase t { kind := .enumerate } := rfl

/-- What the QUERY that it starts with leaves as it is. -/
theorem State.enumerateStart_samePage (s : State) (t : Nat) :
    State.SamePage (pgDud t) ((s.ringForgotten t).sinksShown t) (s.enumerateStart t) := by
  rw [State.enumerateStart_eq, State.ringForgotten_showRing]
  exact State.startPhase_sends _ t _ (.page .dud) rfl (pgDud t) (pageOf_dud_type t)

theorem State.enumerateStart_runs (h : s.Runs (pgDud t) op arg m) : (s.enumerateStart t).Runs (pgDud t) op arg m := by
  have hforgotten : (s.ringForgotten t).Runs (pgDud t) op arg m := ((h.stopPort t).fset ..).fset ..
  exact (hforgotten.sinksShown t).of_samePage (s.enumerateStart_samePage t)

theorem State.enumerateStart_state (s : State) (t : Nat) : (s.enumerateStart t).fget (pgDud t) DUD.STAT.STATE = 2 := by
  rw [(s.enumerateStart_samePage t).fget, State.sinksShown_fget _ t rfl (by decide), State.ringForgotten_state]

theorem State.enumerateStart_sinks (s : State) (t : Nat) : (s.enumerateStart t).fget (pgDud t) DUD.STAT.SINKS = 0 := by
  rw [(s.enumerateStart_samePage t).fget, State.sinksShown_fget _ t rfl (by decide), State.ringForgotten_sinks]

/-- The port does nothing but enumerate, and knows no sinks. -/
theorem State.enumerateStart_dud (s : State) (t : Nat) : ∃ d : DudSt, (s.enumerateStart t).dud t =
    { d with ops := [{ kind := .enumerate, sentAt := s.mono }], live := 0, lost := 0, owned := 0 } := by
  have hshown : State.SameBut [.out, .page .dud] (s.ringForgotten t) ((s.ringForgotten t).showRing t) :=
    State.showRing_same (State.SameOutside.refl _ _) rfl
  have hstopped : State.SameBut [.time, .duds, .out, .page .sys, .page .time] s (s.stopPort t) :=
    State.stopPort_same (State.SameOutside.refl _ s) rfl
  have hdud : ((s.ringForgotten t).showRing t).dud t = _ :=
    (State.dud_of_duds (hshown .duds rfl) t).trans (s.ringForgotten_dud t)
  have hforgotten : (s.ringForgotten t).mono = s.mono := hstopped .mono rfl
  have hshow : ((s.ringForgotten t).showRing t).mono = (s.ringForgotten t).mono := hshown .mono rfl
  obtain ⟨i, hstart⟩ := ((s.ringForgotten t).showRing t).startPhase_dud t { kind := .enumerate }
  refine ⟨{ (s.stopPort t).dud t with rejoin := 0, lastTx := i }, ?_⟩
  rw [State.enumerateStart_eq, hstart, hdud, hshow, hforgotten]
  rfl

theorem State.enumerateStart_tileLive (s : State) (ht : t < 16) : (s.enumerateStart t).tileLive t = false := by
  have hsame : State.SameBut [.free, .duds, .out, .page .dud] (s.stopPort t) (s.enumerateStart t) :=
    State.startPhase_same (State.showRing_same (State.fset_same (State.fset_same
      (State.setDud_same (State.SameOutside.refl _ _) rfl) rfl (pageMask_dud t rfl)) rfl (pageMask_dud t rfl)) rfl) rfl
  unfold State.tileLive
  rw [hsame.fget (ty := .sys) rfl rfl]
  exact s.stopPort_tileLive ht

theorem State.enumerateAsked_dud (s : State) (t m : Nat) : ∃ d : DudSt, (s.enumerateAsked t m).dud t =
    { d with ops := [{ kind := .enumerate, sentAt := s.mono }], live := 0, lost := 0, owned := 0 } := by
  unfold State.enumerateAsked
  rw [State.emit_dud]
  exact State.cmdStart_mono s .. ▸ State.enumerateStart_dud _ t

theorem State.enumerateAsked_runs (s : State) (t m : Nat) : (s.enumerateAsked t m).Runs (pgDud t) 0x10 0 m :=
  (State.enumerateStart_runs (s.cmdStart_runs (pgDud t))).emit _

theorem State.enumerateAsked_stat (s : State) (t m : Nat) : (s.enumerateAsked t m).fget (pgDud t) DUD.STAT.STATE = 2 ∧
    (s.enumerateAsked t m).fget (pgDud t) DUD.STAT.SINKS = 0 := by
  unfold State.enumerateAsked
  rw [State.emit_fget, State.emit_fget]
  exact ⟨State.enumerateStart_state .., State.enumerateStart_sinks ..⟩

theorem State.enumerateAsked_tileLive (s : State) (m : Nat) (ht : t < 16) :
    (s.enumerateAsked t m).tileLive t = false := by
  unfold State.enumerateAsked State.tileLive
  rw [State.emit_fget]
  exact State.enumerateStart_tileLive _ ht

theorem State.enumerateAsked_same (s : State) (t m : Nat) :
    State.SameBut [.free, .time, .duds, .out, .page .sys, .page .time, .page .dud] s (s.enumerateAsked t m) :=
  State.emit_same (State.enumerateStart_same (State.cmdStart_same (State.SameOutside.refl _ s) rfl (pageMask_dud t rfl)) rfl)
    rfl

/-! ### The hard blank (R265, R417) -/

/-- The register HB. -/
def hbReg : Reg := { off := 0x068, rst := [2], rw := 1, ro := 0xE }

theorem regOf_hb (tile : Fin 16) : regOf (addrOf (pgDud tile) 0x068) = some (hbReg, 0) := by
  revert tile
  decide

theorem hookStores_hb (tile : Fin 16) : hookStores (pgDud tile) 0x068 = false := by
  revert tile
  decide

theorem hb_served (tile : Fin 16) : servedBits (addrOf (pgDud tile) 0x068) = 0xFFFFFFFF := by
  unfold servedBits
  rw [addrOf_page, pageOf_dud]

/-- HB as a write of FORCE leaves it. -/
def State.hbStored (s : State) (t : Nat) (force : Bool) : State :=
  s.storeBlock (addrOf (pgDud t) 0x068) (b2n force) hbReg

theorem State.writeHb_eq (tile : Fin 16) {force : Bool} (h : s.writes m (pgDud tile) 0x068 (b2n force) = true) :
    s.writeReg m (pgDud tile) 0x068 (b2n force) = (s.hbStored tile force).emit (.access m 0 0) := by
  have hhook (u : State) : u.blockHook m (pgDud tile) 0x068 (b2n force) = u := by
    unfold State.blockHook
    rw [pageOf_dud]
  have hfits : b2n force < 2 ^ 32 ∧ b2n force &&& (hbReg.ro ||| hbReg.rc) = 0 := by cases force <;> decide
  rw [State.writeBlock_ok h (by decide) (by decide) (regOf_hb tile) hfits.1 (.inl rfl) (by decide) hfits.2,
    hookStores_hb tile, hhook]
  rfl

/-- A field of one bit is a bit of its register. -/
theorem State.fbit_eq_getLsbD (s : State) (p : Nat) (hw : f.w = 1) :
    s.fbit p f = (s.word (addrOf p f.off)).getLsbD f.lo := by
  unfold State.fbit State.fget bitsOf
  rw [hw, Nat.pow_one, ← BitVec.testBit_toNat]
  exact bit_eq_testBit _ _

theorem State.hbStored_force (tile : Fin 16) (force : Bool) :
    (s.hbStored tile force).fbit (pgDud tile) DUD.HB.FORCE = force := by
  have hbit : ((s.hbStored tile force).word (addrOf (pgDud tile) 0x068)).getLsbD 0 = force := by
    unfold State.hbStored
    rw [State.storeBlock_word_self rfl (by decide), hb_served]
    cases force <;> rfl
  exact (State.fbit_eq_getLsbD _ _ rfl).trans hbit

theorem State.hbStored_same (s : State) (t : Nat) (force : Bool) :
    State.SameBut [.page .dud] s (s.hbStored t force) :=
  State.storeBlock_same (State.SameOutside.refl _ s) rfl (pageMask_addr (pageMask_dud t rfl))

/-- Light and the domain of the port are as they were; FORCE decides. -/
theorem State.hbStored_blanked (tile : Fin 16) (force : Bool) : (s.hbStored tile force).blanked tile =
    (!s.lightTile tile || force || !s.domOn (15 + portGroup tile)) := by
  have hsafe : (s.hbStored tile force).safe = s.safe := s.hbStored_same tile force .safe rfl
  have hlight : (s.hbStored tile force).lightTile tile = s.lightTile tile := by
    unfold State.lightTile State.group
    rw [hsafe]
  have hdomain : (s.hbStored tile force).domOn (15 + portGroup tile) = s.domOn (15 + portGroup tile) := by
    unfold State.domOn
    rw [(s.hbStored_same tile force).fget (ty := .pwr) rfl rfl, (s.hbStored_same tile force).fget (ty := .pwr) rfl rfl]
  unfold State.blanked
  rw [hlight, State.hbStored_force, hdomain]

/-! ### The statement -/

/-- Settles O38: ENUMERATE comes to `enumerateStart`, the other commands to `opAsked` or, where no sink is named, to
`opFailed`, and a write of HB.FORCE to `hbStored`. -/
theorem ringCommandsStart : Obligations.RingCommandsStart := by
  unfold Obligations.RingCommandsStart
  refine fun s m tile => ⟨fun h => ?_, fun lo hi a ha h => ?_, fun h => ?_, fun count h => ?_, fun h => ?_,
    fun force h => ?_⟩
  case refine_1 =>
    obtain ⟨d, hdud⟩ := s.enumerateAsked_dud tile m.id
    obtain ⟨hstate, hsinks⟩ := s.enumerateAsked_stat tile m.id
    refine ⟨s.enumerateAsked tile m.id, ?_, s.enumerateAsked_runs tile m.id, State.emit_answers _ _, ?_, ?_, ?_, ?_,
      hstate, hsinks, s.enumerateAsked_tileLive m.id tile.isLt, s.enumerateAsked_same tile m.id⟩
    · rw [exec_enumerate_on (State.accepts_powered h), State.enumerate_command tile h]
    all_goals rw [hdud]
  case refine_2 =>
    subst ha
    rw [exec_dudClaim_on (State.accepts_powered h), State.claim_command tile lo hi h]
    split
    next hnone =>
      exact ⟨_, rfl, State.emit_answers _ _, fun hsome => absurd hnone hsome,
        fun _ => ⟨State.opFailed_failed .., State.opFailed_duds ..⟩,
        (s.opFailed_same tile _ _ m.id _).mono rfl⟩
    next hsome =>
      exact ⟨_, rfl, State.emit_answers _ _, fun _ => ⟨State.opAsked_runs .., State.opAsked_ops ..⟩,
        fun hnone => absurd hnone hsome, s.opAsked_same tile _ _ m.id _⟩
  case refine_3 =>
    rw [exec_dudQuery_on (State.accepts_powered h), State.query_command tile h]
    exact ⟨_, rfl, State.opAsked_runs .., State.emit_answers _ _, State.opAsked_ops .., s.opAsked_same tile _ _ m.id _⟩
  case refine_4 =>
    rw [exec_sendConfig_on (State.accepts_powered h), State.sendConfig_command tile count h]
    split
    next hnone =>
      exact ⟨_, rfl, State.emit_answers _ _, fun hsome => absurd hnone hsome,
        fun _ => ⟨State.opFailed_failed .., State.opFailed_duds ..⟩,
        (s.opFailed_same tile _ _ m.id _).mono rfl⟩
    next hsome =>
      obtain ⟨hleast, hmost, hcount⟩ := s.configLength_bounds count.toNat
      have hfresh : State.SameBut [.free, .duds, .out, .page .dud] s (s.fresh 3).2 :=
        State.fresh_same (State.SameOutside.refl _ s) rfl
      exact ⟨_, rfl, State.emit_answers _ _, fun _ => ⟨State.opAsked_runs .., _, hleast, hmost, hcount,
        State.opAsked_ops (s.fresh 3).2 ..⟩, fun hnone => absurd hnone hsome,
        hfresh.trans (State.opAsked_same _ tile _ _ m.id _)⟩
  case refine_5 =>
    rw [exec_readmit_on (State.accepts_powered h), State.readmit_command tile h]
    exact ⟨_, rfl, State.opAsked_runs .., State.emit_answers _ _, State.opAsked_ops .., s.opAsked_same tile _ _ m.id _⟩
  case refine_6 =>
    refine ⟨_, (exec_hbForceWrite_on (State.writes_powered h) m tile force).trans
      (congrArg Host.Outcome.next (State.writeHb_eq tile h)), State.emit_answers _ _,
      (State.emit_fbit ..).trans (State.hbStored_force tile force),
      State.hbStored_blanked (s := s) tile force, fun a ha => State.storeBlock_word_other ha,
      State.emit_same ((s.hbStored_same tile force).mono rfl) rfl⟩

end Sys2Proof.Machine
end

section
/-! PROOFS. Packets that a port receives: bad ones dropped, answers matched with the operations that await them, reports of
tally rounds, diagnosis and events passed on (R266, R274, R277, R280, R281, R284, R307, R379). -/

namespace Sys2Proof.Machine

variable {s u : State} {t a type e : Nat} {k : Packet} {o : RingOp} {pre post : List RingOp}

/-! ### A packet arrives (R266) -/

/-- A packet tells that the receiver of the port is locked and when it last received. -/
def State.heard (s : State) (t : Nat) : State := s.setDud t { s.dud t with lastRx := s.mono, locked := true }

theorem State.heard_dud (s : State) (t : Nat) :
    (s.heard t).dud t = { s.dud t with lastRx := s.mono, locked := true } := State.setDud_dud_self ..

theorem State.heard_fget (s : State) (t p : Nat) (f : Fld) : (s.heard t).fget p f = s.fget p f := State.setDud_fget ..

/-- A bad packet is counted. -/
def State.dropped (s : State) (t : Nat) : State := (s.heard t).finc (pgDud t) DUD.CNT_CRC.PORT

theorem State.rxOk_good (h : k.crcOk = true) : s.rxOk t k = (true, s.heard t) := if_pos h

theorem State.rxOk_bad (h : k.crcOk = false) : s.rxOk t k = (false, s.dropped t) := if_neg (by rw [h]; decide)

theorem State.dropped_dud (s : State) (t : Nat) :
    (s.dropped t).dud t = { s.dud t with lastRx := s.mono, locked := true } :=
  (State.dud_of_duds (State.finc_duds ..) t).trans (s.heard_dud t)

theorem State.dropped_dud_other {n : Nat} (h : n ≠ t) : (s.dropped t).dud n = s.dud n :=
  (State.dud_of_duds (State.finc_duds ..) n).trans (State.setDud_dud_other h)

theorem State.dropped_count (s : State) (t : Nat) : (s.dropped t).fget (pgDud t) DUD.CNT_CRC.PORT =
    min (s.fget (pgDud t) DUD.CNT_CRC.PORT + 1) 65535 := by
  unfold State.dropped
  rw [State.finc_fget (by decide), State.heard_fget]
  rfl

theorem State.dropped_same (s : State) (t : Nat) : State.SameBut [.duds, .page .dud] s (s.dropped t) :=
  State.finc_same (State.setDud_same (State.SameOutside.refl _ s) rfl) rfl (pageMask_dud t rfl)

theorem exec_tallyRespRx_on (h : s.boot.powered = true) (tile : Fin 16) (k : Packet) :
    exec (.tallyRespRx tile k) s = .next (s.tallyRx tile k) := congrArg Host.Outcome.next (State.live_on h _)

theorem exec_ackRx_on (h : s.boot.powered = true) (tile : Fin 16) (k : Packet) :
    exec (.ackRx tile k) s = .next (s.ackRx tile k) := congrArg Host.Outcome.next (State.live_on h _)

theorem exec_queryRespRx_on (h : s.boot.powered = true) (tile : Fin 16) (k : Packet) :
    exec (.queryRespRx tile k) s = .next (s.queryRx tile k) := congrArg Host.Outcome.next (State.live_on h _)

theorem exec_diagRespRx_on (h : s.boot.powered = true) (tile : Fin 16) (k : Packet) :
    exec (.diagRespRx tile k) s = .next (s.diagRx tile k) := congrArg Host.Outcome.next (State.live_on h _)

theorem exec_eventRx_on (h : s.boot.powered = true) (tile : Fin 16) (k : Packet) :
    exec (.eventRx tile k) s = .next (s.eventRx tile k) := congrArg Host.Outcome.next (State.live_on h _)

theorem exec_enumLoopedRx_on (h : s.boot.powered = true) (tile : Fin 16) (k : Packet) :
    exec (.enumLoopedRx tile k) s = .next (s.enumLooped tile k) := congrArg Host.Outcome.next (State.live_on h _)

/-- Whatever a bad packet is, it is dropped. -/
theorem exec_packet_bad (h : s.boot.powered = true) (tile : Fin 16) (hbad : k.crcOk = false) :
    ∀ c ∈ [Instr.tallyRespRx tile k, .ackRx tile k, .queryRespRx tile k, .diagRespRx tile k, .eventRx tile k,
      .enumLoopedRx tile k], exec c s = .next (s.dropped tile) := by
  have hrx : s.rxOk tile k = (false, s.dropped tile) := State.rxOk_bad hbad
  simp only [List.forall_mem_cons, List.not_mem_nil, false_imp_iff, implies_true, and_true, exec_tallyRespRx_on h,
    exec_ackRx_on h, exec_queryRespRx_on h, exec_diagRespRx_on h, exec_eventRx_on h, exec_enumLoopedRx_on h]
  refine ⟨?_, ?_, ?_, ?_, ?_, ?_⟩
  · unfold State.tallyRx; rw [hrx]; rfl
  · unfold State.ackRx; rw [hrx]; rfl
  · unfold State.queryRx; rw [hrx]; rfl
  · unfold State.diagRx; rw [hrx]; rfl
  · unfold State.eventRx; rw [hrx]; rfl
  · unfold State.enumLooped; rw [hrx]; rfl

/-! ### Answers (R274, R277, R284) -/

/-- An answer under the port's own epoch or an older one says nothing of another owner. -/
theorem State.checkEpoch_own (h : e ≤ s.fget (pgDud t) DUD.OWN.EPOCH) : s.checkEpoch t a e = s :=
  if_neg (by simp [Nat.not_lt.mpr h])

/-- An operation that notes an answer. -/
def RingOp.noted (o : RingOp) (a : Nat) (ok : Bool) : RingOp :=
  if ok then { o with answered := o.answered ||| 1 <<< a } else { o with refused := o.refused ||| 1 <<< a }

/-- A port with another list of operations. -/
def State.withOps (s : State) (t : Nat) (l : List RingOp) : State := s.setDud t { s.dud t with ops := l }

theorem State.withOps_dud (s : State) (t : Nat) (l : List RingOp) :
    (s.withOps t l).dud t = { s.dud t with ops := l } := State.setDud_dud_self ..

theorem State.withOps_sink (s : State) (t a : Nat) (l : List RingOp) : (s.withOps t l).sink t a = s.sink t a := by
  unfold State.sink
  rw [State.withOps_dud]

/-- The oldest operation that awaits an answer notes it, and stays until its last target has answered. -/
theorem State.opAnswer_open {ok : Bool} {f : RingOp → RingOp} (h : findOp type k.dst (s.dud t).ops = some (pre, o, post))
    (hopen : (f (o.noted k.dst ok)).full = false) : s.opAnswer t type k ok f =
      s.withOps t (pre ++ f (o.noted k.dst ok) :: post) := by
  unfold State.opAnswer
  simp only [h]
  exact if_neg (by rw [← RingOp.noted, hopen]; decide)

/-- An operation that does not know its sinks yet stays. -/
theorem RingOp.full_unknown (h : o.targets = none) : o.full = false := by
  unfold RingOp.full
  rw [h]

/-- ACK answers the request that it names. -/
theorem State.ackRx_eq (hgood : k.crcOk = true) (hdst : k.dst < 128) (he : k.epoch ≤ s.fget (pgDud t) DUD.OWN.EPOCH) :
    s.ackRx t k = (s.heard t).opAnswer t (bitsOf (k.words.getD 0 0) 8 8) k (bitsOf (k.words.getD 0 0) 0 8 = 0) id := by
  unfold State.ackRx
  rw [State.rxOk_good hgood]
  exact (if_neg (by simp [hdst])).trans (by rw [State.checkEpoch_own (by rwa [State.heard_fget])])

/-- An ACK that is not the last one that its operation awaits. -/
theorem State.ackRx_open (hgood : k.crcOk = true) (hdst : k.dst < 128) (he : k.epoch ≤ s.fget (pgDud t) DUD.OWN.EPOCH)
    (h : findOp (bitsOf (k.words.getD 0 0) 8 8) k.dst (s.dud t).ops = some (pre, o, post))
    (hopen : (o.noted k.dst (bitsOf (k.words.getD 0 0) 0 8 = 0)).full = false) :
    s.ackRx t k = (s.heard t).withOps t (pre ++ o.noted k.dst (bitsOf (k.words.getD 0 0) 0 8 = 0) :: post) := by
  have hfind : findOp (bitsOf (k.words.getD 0 0) 8 8) k.dst ((s.heard t).dud t).ops = some (pre, o, post) := by
    rw [State.heard_dud]
    exact h
  rw [State.ackRx_eq hgood hdst he, State.opAnswer_open hfind hopen]
  rfl

/-- No sink farther from the port has answered a QUERY yet. -/
def RingOp.farthest (o : RingOp) (a : Nat) (tail : Prop) [Decidable tail] : Bool :=
  match o.rttSink with
  | none => true
  | some b => if tail then a ≤ b else b ≤ a

/-- An operation that notes a QUERY_RESP: the time of the farthest sink, and whether the sink is the one known before. -/
def RingOp.queried (o : RingOp) (a now : Nat) (tail same : Prop) [Decidable tail] [Decidable same] : RingOp :=
  let o := if o.farthest a tail then { o with rtt := now - o.sentAt, rttSink := some a } else o
  if same then { o with passed := o.passed ||| 1 <<< a } else o

theorem RingOp.queried_eq (o : RingOp) (a now : Nat) (tail same : Prop) [Decidable tail] [Decidable same] :
    ∃ r far passed, o.queried a now tail same = { o with rtt := r, rttSink := far, passed := passed } := by
  unfold RingOp.queried
  split <;> split <;> exact ⟨_, _, _, rfl⟩

/-- SERIAL is recorded while the ring is enumerated, or at the first QUERY of a TAIL port. -/
def State.serialDue (s : State) (t : Nat) : Bool :=
  s.fget (pgDud t) DUD.STAT.STATE = 2 || (s.fget (pgDud t) DUD.CTL.ROLE = 2 && !s.enumerated t)

/-- QUERY_RESP is recorded and answers a QUERY. -/
theorem State.queryRx_eq (hgood : k.crcOk = true) (hdst : k.dst < 128)
    (he : k.epoch ≤ s.fget (pgDud t) DUD.OWN.EPOCH) : s.queryRx t k =
      ((s.heard t).recordSink t k (s.serialDue t)).opAnswer t 0x08 k true fun o =>
        o.queried k.dst s.mono (s.fget (pgDud t) DUD.CTL.ROLE = 2)
          (((s.heard t).sink t k.dst).serial = k.words.getD 2 0) := by
  have hown (b : Bool) : ((s.heard t).recordSink t k b).checkEpoch t k.dst k.epoch = (s.heard t).recordSink t k b :=
    State.checkEpoch_own he
  unfold State.queryRx
  rw [State.rxOk_good hgood]
  refine (if_neg (by simp [hdst])).trans ?_
  dsimp only
  rw [hown]
  rfl

/-- What a QUERY_RESP leaves of its sink. -/
def State.sinkRecord (s : State) (t : Nat) (k : Packet) (serial : Bool) : SinkSt :=
  { s.sink t k.dst with
    serial := if serial then k.words.getD 2 0 else (s.sink t k.dst).serial
    epoch := k.epoch, owned := bit (k.words.getD 1 0) 16, owner := k.owner, side := bitsOf (k.words.getD 1 0) 17 1
    minRow := bitsOf (k.words.getD 1 0) 0 16, cols := bitsOf (k.words.getD 0 0) 40 8
    rows := bitsOf (k.words.getD 0 0) 48 8, maxTakes := bitsOf (k.words.getD 0 0) 56 3
    maxMul := bitsOf (k.words.getD 0 0) 59 5 }

theorem State.recordSink_dud (s : State) (t : Nat) (k : Packet) (serial : Bool) : (s.recordSink t k serial).dud t =
    { s.dud t with sinks := SMap.write {} (s.dud t).sinks k.dst (s.sinkRecord t k serial) } := State.setDud_dud_self ..

theorem State.recordSink_sink (s : State) (t : Nat) (k : Packet) (serial : Bool) :
    (s.recordSink t k serial).sink t k.dst = s.sinkRecord t k serial := by
  unfold State.sink
  rw [State.recordSink_dud, SMap.read_write_self]

/-- The state that a QUERY_RESP leaves when the operations of its port are those listed. -/
def State.queryTaken (s : State) (t : Nat) (k : Packet) (l : List RingOp) : State :=
  ((s.heard t).recordSink t k (s.serialDue t)).withOps t l

theorem State.queryTaken_sink (s : State) (t : Nat) (k : Packet) (l : List RingOp) :
    (s.queryTaken t k l).sink t k.dst = (s.heard t).sinkRecord t k (s.serialDue t) :=
  (State.withOps_sink ..).trans (State.recordSink_sink ..)

theorem State.queryTaken_serial (l : List RingOp) (h : s.fget (pgDud t) DUD.STAT.STATE = 2) :
    ((s.queryTaken t k l).sink t k.dst).serial = k.words.getD 2 0 := by
  have hdue : s.serialDue t = true := by
    unfold State.serialDue
    rw [h]
    rfl
  rw [State.queryTaken_sink, hdue]
  rfl

theorem State.queryTaken_ops (s : State) (t : Nat) (k : Packet) (l : List RingOp) :
    ((s.queryTaken t k l).dud t).ops = l := by
  unfold State.queryTaken
  rw [State.withOps_dud]

theorem State.queryTaken_same (s : State) (t : Nat) (k : Packet) (l : List RingOp) :
    State.SameBut [.duds] s (s.queryTaken t k l) :=
  State.setDud_same (State.recordSink_same (State.setDud_same (State.SameOutside.refl _ s) rfl) rfl) rfl

/-- A QUERY to whichever sinks answer notes each that does. -/
theorem State.queryRx_open (hgood : k.crcOk = true) (hdst : k.dst < 128) (he : k.epoch ≤ s.fget (pgDud t) DUD.OWN.EPOCH)
    (h : findOp 0x08 k.dst (s.dud t).ops = some (pre, o, post)) (ho : o.targets = none) :
    ∃ o' : RingOp, s.queryRx t k = s.queryTaken t k (pre ++ o' :: post) ∧ o'.kind = o.kind ∧ o'.phase = o.phase ∧
      o'.answered = o.answered ||| 1 <<< k.dst ∧ o'.refused = o.refused := by
  have hfind : findOp 0x08 k.dst (((s.heard t).recordSink t k (s.serialDue t)).dud t).ops = some (pre, o, post) := by
    rw [State.recordSink_dud, State.heard_dud]
    exact h
  obtain ⟨r, far, passed, hnoted⟩ := (o.noted k.dst true).queried_eq k.dst s.mono (s.fget (pgDud t) DUD.CTL.ROLE = 2)
    (((s.heard t).sink t k.dst).serial = k.words.getD 2 0)
  refine ⟨{ o.noted k.dst true with rtt := r, rttSink := far, passed := passed }, ?_, rfl, rfl, rfl, rfl⟩
  rw [State.queryRx_eq hgood hdst he, State.opAnswer_open hfind, hnoted]
  · rfl
  · rw [hnoted]
    exact RingOp.full_unknown ho

/-! ### Reports of a tally round (R274, R281) -/

/-- A report of a live sink, once it is taken down, counts for the round that awaits it. -/
def State.tallyCounted (s : State) (t : Nat) (k : Packet) : State :=
  if (s.dud t).round = 0 || !bit (s.dud t).awaited k.dst then s.toReel2 t k
  else
    let miss := match (s.dud t).delivering with
      | some f => missingGroups f (s.dud t).takes (k.words.getD 0 0)
      | none => 0
    let d := { s.dud t with awaited := without (s.dud t).awaited (1 <<< k.dst) }
    let s :=
      if miss = 0 then (s.setDud t d).fset (pgDud t) (DUD.SINK_B.MISSES k.dst) 0
      else s.setDud t { d with incomplete := d.incomplete ||| 1 <<< k.dst, missing := SMap.write 0 d.missing k.dst miss }
    s.roundOver t

/-- TALLY_RESP of a live sink is taken down, and that of any other goes to REEL2. -/
theorem State.tallyRx_eq (hgood : k.crcOk = true) (hdst : k.dst < 128) (he : k.epoch ≤ s.fget (pgDud t) DUD.OWN.EPOCH) :
    s.tallyRx t k = if bit (s.dud t).live k.dst = true then
      ((s.heard t).tallyReport t k.dst (k.words.getD 0 0) (k.words.getD 1 0)).tallyCounted t k
      else (s.heard t).toReel2 t k := by
  have hown : (s.heard t).checkEpoch t k.dst k.epoch = s.heard t := State.checkEpoch_own he
  have hlive : bit ((s.heard t).dud t).live k.dst = bit (s.dud t).live k.dst := by rw [State.heard_dud]
  unfold State.tallyRx
  rw [State.rxOk_good hgood]
  refine (if_neg (by simp [hdst])).trans ?_
  dsimp only
  rw [hown, hlive]
  cases bit (s.dud t).live k.dst <;> rfl

theorem State.tallyCounted_late (h : (s.dud t).round = 0 ∨ bit (s.dud t).awaited k.dst = false) :
    s.tallyCounted t k = s.toReel2 t k :=
  if_pos (by simpa using h)

theorem State.tallyCounted_due {f : Nat} (hround : (s.dud t).round ≠ 0) (hdue : bit (s.dud t).awaited k.dst = true)
    (hframe : (s.dud t).delivering = some f) : s.tallyCounted t k = State.roundOver (
      if missingGroups f (s.dud t).takes (k.words.getD 0 0) = 0 then
        (s.setDud t { s.dud t with awaited := without (s.dud t).awaited (1 <<< k.dst) }).fset (pgDud t)
          (DUD.SINK_B.MISSES k.dst) 0
      else s.setDud t { s.dud t with
        awaited := without (s.dud t).awaited (1 <<< k.dst)
        incomplete := (s.dud t).incomplete ||| 1 <<< k.dst
        missing := SMap.write 0 (s.dud t).missing k.dst (missingGroups f (s.dud t).takes (k.words.getD 0 0)) }) t := by
  unfold State.tallyCounted
  rw [if_neg (by simp [hround, hdue])]
  simp only [hframe]

/-! ### Diagnosis and events (R307, R379) -/

/-- DIAG_RESP is taken in by the request that it answers, which waits for the rows that are left. -/
theorem State.diagRx_eq {r : DiagReq} (hgood : k.crcOk = true) (hdst : k.dst < 128)
    (he : k.epoch ≤ s.fget (pgDud t) DUD.OWN.EPOCH) (hshadow : s.pairShadow = false)
    (h : s.diag.requests.find? (fun r => r.tile = t ∧ r.sink = k.dst ∧ bit r.rows (bitsOf (k.words.getD 0 0) 0 6)) =
      some r) : s.diagRx t k = ({ s.heard t with diag := { (s.heard t).diag with
        requests :=
          if r.rows &&& (2 ^ 64 - 1 - 1 <<< bitsOf (k.words.getD 0 0) 0 6) = 0 then s.diag.requests.erase r
          else { r with rows := r.rows &&& (2 ^ 64 - 1 - 1 <<< bitsOf (k.words.getD 0 0) 0 6) } ::
            s.diag.requests.erase r } } : State).diagTake t k.dst r.frame k.words := by
  have hown : (s.heard t).checkEpoch t k.dst k.epoch = s.heard t := State.checkEpoch_own he
  have hfind : (s.heard t).diag.requests.find? (fun r => r.tile = t ∧ r.sink = k.dst ∧
      bit r.rows (bitsOf (k.words.getD 0 0) 0 6)) = some r := h
  unfold State.diagRx
  rw [State.rxOk_good hgood]
  refine (if_neg (by simp [hdst])).trans ?_
  dsimp only
  rw [hown]
  simp only [hfind]
  exact if_neg (Bool.eq_false_iff.mp hshadow)

theorem State.eventRx_eq (hgood : k.crcOk = true) : s.eventRx t k = (s.heard t).toReel2 t k := by
  unfold State.eventRx
  rw [State.rxOk_good hgood]
  rfl

/-! ### The looped ENUM (R277) -/

/-- An enumeration that awaits the looped ENUM keeps its NEXT_ADDR. -/
def RingOp.withNext (next : Nat) (o : RingOp) : RingOp :=
  if o.kind = .enumerate ∧ o.phase = 1 then { o with looped := some next } else o

theorem RingOp.withNext_looped {next : Nat} (hkind : (o.withNext next).kind = .enumerate)
    (hphase : (o.withNext next).phase = 1) : (o.withNext next).looped = some next := by
  by_cases hawaits : o.kind = .enumerate ∧ o.phase = 1
  · have hkept : o.withNext next = { o with looped := some next } := if_pos hawaits
    rw [hkept]
  · have hother : o.withNext next = o := if_neg hawaits
    rw [hother] at hkind hphase
    exact absurd ⟨hkind, hphase⟩ hawaits

theorem State.enumLooped_eq (hgood : k.crcOk = true) : s.enumLooped t k =
    (s.heard t).withOps t ((s.dud t).ops.map (RingOp.withNext (k.words.getD 0 0 % 256))) := by
  have hops : ((s.heard t).dud t).ops = (s.dud t).ops := by rw [State.heard_dud]
  unfold State.enumLooped
  rw [State.rxOk_good hgood, ← hops]
  rfl

/-! ### The statement -/

/-- Settles O36: a bad packet comes to `dropped`; of the good ones an answer comes to `withOps` or `queryTaken`, a report to
`tallyCounted`, and the rest to what the unit that they are for makes of them. -/
theorem ringPacketsAreTaken : Obligations.RingPacketsAreTaken := by
  unfold Obligations.RingPacketsAreTaken
  refine ⟨fun s tile k hon hbad => ?_, fun s tile k u hon hgood hu => ⟨fun hdst he => ⟨?_, ?_, ?_, ?_, ?_⟩, ?_, ?_⟩⟩
  case refine_1 =>
    exact ⟨s.dropped tile, exec_packet_bad hon tile hbad, s.dropped_dud tile,
      fun n hn => State.dropped_dud_other (Fin.val_ne_of_ne hn), s.dropped_count tile, s.dropped_same tile⟩
  all_goals obtain rfl : u = s.heard tile := hu
  case refine_2 =>
    intro pre o post o' hfind ho' hopen
    obtain rfl : o' = o.noted k.dst (bitsOf (k.words.getD 0 0) 0 8 = 0) :=
      ho'.trans (by unfold RingOp.noted; simp only [decide_eq_true_eq])
    exact (exec_ackRx_on hon tile k).trans (congrArg _ (State.ackRx_open hgood hdst he hfind hopen))
  case refine_3 =>
    intro pre o post hfind ho
    obtain ⟨o', hrx, hkind, hphase, hanswered, hrefused⟩ := State.queryRx_open hgood hdst he hfind ho
    refine ⟨s.queryTaken tile k (pre ++ o' :: post), (exec_queryRespRx_on hon tile k).trans (congrArg _ hrx), ?_, ?_, ?_, ?_,
      ?_, fun h => State.queryTaken_serial _ h,
      ⟨o', s.queryTaken_ops tile k _, hkind, hphase, hanswered, hrefused⟩, s.queryTaken_same tile k _⟩
    all_goals
      rw [State.queryTaken_sink]
      rfl
  case refine_4 =>
    rintro hlive v rfl
    rw [exec_tallyRespRx_on hon, State.tallyRx_eq hgood hdst he, if_pos hlive]
    exact ⟨fun hlate => congrArg _ (State.tallyCounted_late hlate),
      fun f hround hdue hframe => congrArg _ (State.tallyCounted_due hround hdue hframe)⟩
  case refine_5 =>
    intro hlive
    rw [exec_tallyRespRx_on hon, State.tallyRx_eq hgood hdst he, if_neg (Bool.eq_false_iff.mp hlive)]
  case refine_6 =>
    intro r hfind hshadow
    rw [exec_diagRespRx_on hon, State.diagRx_eq hgood hdst he hshadow hfind]
  case refine_7 => rw [exec_eventRx_on hon, State.eventRx_eq hgood]
  case refine_8 =>
    refine ⟨_, (exec_enumLoopedRx_on hon tile k).trans (congrArg _ (State.enumLooped_eq hgood)), ?_, ?_,
      State.setDud_same (State.setDud_same (State.SameOutside.refl _ s) rfl) rfl⟩
    · rw [State.withOps_dud]
      intro o ho hkind hphase
      obtain ⟨o, -, rfl⟩ := List.mem_map.mp ho
      exact RingOp.withNext_looped hkind hphase
    · rw [State.withOps_dud, List.length_map]

end Sys2Proof.Machine
end

section
/-! PROOFS. Transfers of DRAM: a block that is written reads back and the others stand, a block that is read is checked for
its reader, and a transfer that MEM turns away writes nothing (R328 to R331, R338, R354, R487). -/

namespace Sys2Proof.Machine

variable {s t u : State} {b c p n m data tag flips master : Nat} {poison on : Bool} {x : Transfer} {f : Fld}

/-! ### Bytes of a block (R326, R328) -/

theorem leBytes_length (v n : Nat) : (leBytes v n).length = n := by
  induction n generalizing v with
  | zero => rfl
  | succ n ih => exact congrArg (· + 1) (ih _)

theorem leBytes_lt {v n i : Nat} (h : i < (leBytes v n).length) : (leBytes v n)[i] < 256 := by
  induction n generalizing v i with
  | zero => exact absurd h (Nat.not_lt_zero _)
  | succ n ih =>
    cases i with
    | zero => exact Nat.mod_lt _ (by decide)
    | succ i => exact ih (Nat.lt_of_succ_lt_succ h)

theorem ofLeBytes_leBytes (v n : Nat) : ofLeBytes (leBytes v n) = v % 256 ^ n := by
  induction n generalizing v with
  | zero => exact (Nat.mod_one v).symm
  | succ n ih =>
    unfold leBytes ofLeBytes
    rw [ih, Nat.mod_mod, Nat.pow_succ', Nat.mod_mul]

theorem State.setByte_byte_self (s : State) (a v : Nat) : (s.setByte a v).byte a = v % 256 := by
  unfold State.setByte State.byte
  rw [SMap.read_write_self, BitVec.toNat_ofNat]

theorem State.setByte_byte_other {a a' v : Nat} (h : a' ≠ a) : (s.setByte a v).byte a' = s.byte a' :=
  congrArg BitVec.toNat (SMap.read_write_other _ _ _ h _)

/-- Bytes stored one after another from an address on. -/
def State.setBytes (s : State) (a : Nat) (l : List Nat) : State :=
  l.zipIdx.foldl (fun s e => s.setByte (a + e.2) e.1) s

theorem State.setBytes_cons (s : State) (a v : Nat) (l : List Nat) :
    s.setBytes a (v :: l) = (s.setByte a v).setBytes (a + 1) l := by
  unfold State.setBytes
  rw [List.zipIdx_cons, List.foldl_cons, List.zipIdx_succ, List.foldl_map]
  simp only [Nat.add_right_comm, Nat.add_assoc, Nat.add_zero]

theorem State.setBytes_byte_outside {a a' : Nat} {l : List Nat} (h : a' < a ∨ a + l.length ≤ a') :
    (s.setBytes a l).byte a' = s.byte a' := by
  induction l generalizing s a with
  | nil => rfl
  | cons v l ih =>
    rw [List.length_cons] at h
    rw [State.setBytes_cons, ih (by omega), State.setByte_byte_other (by omega)]

theorem State.setBytes_byte {a i : Nat} {l : List Nat} (h : i < l.length) : (s.setBytes a l).byte (a + i) = l[i] % 256 := by
  induction l generalizing s a i with
  | nil => exact absurd h (Nat.not_lt_zero _)
  | cons v l ih =>
    rw [State.setBytes_cons]
    cases i with
    | zero => exact (State.setBytes_byte_outside (.inl (Nat.lt_succ_self a))).trans (State.setByte_byte_self ..)
    | succ i =>
      rw [show a + (i + 1) = a + 1 + i by omega]
      exact ih (Nat.lt_of_succ_lt_succ h)

theorem State.writeBlock_eq_setBytes (s : State) (b data tag : Nat) (poison : Bool) :
    s.writeBlock b data tag poison = (s.setBytes (32 * b) (leBytes data 32)).setTag b tag poison := rfl

/-! ### A block that is written (R328, R362, R365) -/

theorem State.setTag_byte (s : State) (b tag a : Nat) (poison : Bool) : (s.setTag b tag poison).byte a = s.byte a := rfl

theorem State.writeBlock_rawBlock (s : State) (b data tag : Nat) (poison : Bool) :
    (s.writeBlock b data tag poison).rawBlock b = data % 2 ^ 256 := by
  have hbytes : (List.range 32).map (fun i => (s.writeBlock b data tag poison).byte (32 * b + i)) = leBytes data 32 := by
    refine List.ext_getElem (by rw [List.length_map, List.length_range, leBytes_length]) fun i _ hi => ?_
    rw [List.getElem_map, List.getElem_range, State.writeBlock_eq_setBytes, State.setTag_byte, State.setBytes_byte hi,
      Nat.mod_eq_of_lt (leBytes_lt hi)]
  unfold State.rawBlock
  rw [hbytes, ofLeBytes_leBytes, show 256 ^ 32 = 2 ^ 256 by decide]

theorem State.writeBlock_rawBlock_other (h : c ≠ b) :
    (s.writeBlock b data tag poison).rawBlock c = s.rawBlock c := by
  unfold State.rawBlock
  refine congrArg ofLeBytes (List.map_congr_left fun i hi => ?_)
  have hi := List.mem_range.mp hi
  rw [State.writeBlock_eq_setBytes, State.setTag_byte, State.setBytes_byte_outside (by rw [leBytes_length]; omega)]

theorem SMap.read_del_self {V : Type} (d : V) (m : SMap V) (k : Nat) : SMap.read d (SMap.del m k) k = d := by
  unfold SMap.read
  rw [SMap.find?_del_self]
  rfl

theorem SMap.read_del_other {V : Type} {d : V} {m : SMap V} {k k' : Nat} (h : k' ≠ k) :
    SMap.read d (SMap.del m k) k' = SMap.read d m k' := by
  unfold SMap.read
  rw [SMap.find?_del_other _ h]

/-- Storing bytes leaves tags, poison and flips alone. -/
theorem State.setBytes_dram (s : State) (a : Nat) (l : List Nat) :
    (s.setBytes a l).dram = { s.dram with bytes := (s.setBytes a l).dram.bytes } := by
  induction l generalizing s a with
  | nil => rfl
  | cons v l ih => rw [State.setBytes_cons]; exact ih _ _

/-- A block that has just been written is read as it was written: its check bits are fresh. -/
theorem State.writeBlock_decode (s : State) (b data tag : Nat) (poison : Bool) :
    (s.writeBlock b data tag poison).decodeBlock b = .clean (data % 2 ^ 256) (tag % 256 + 256 * b2n poison) := by
  have htags : (s.writeBlock b data tag poison).tagBits b = tag % 256 + 256 * b2n poison :=
    congrArg₂ (fun g q => g + 256 * b2n q) (SMap.read_write_self ..) (SMap.read_write_self ..)
  unfold State.decodeBlock
  rw [State.writeBlock_rawBlock, htags]
  exact if_pos (SMap.read_del_self ..)

theorem State.writeBlock_decode_other (h : c ≠ b) :
    (s.writeBlock b data tag poison).decodeBlock c = s.decodeBlock c := by
  have htags : (s.writeBlock b data tag poison).tagBits c = s.tagBits c := by
    unfold State.tagBits
    rw [State.writeBlock_eq_setBytes]
    unfold State.setTag
    rw [State.setBytes_dram]
    simp only [SMap.read_write_other _ _ _ h]
  have hflips : SMap.read 0 (s.writeBlock b data tag poison).dram.flips c = SMap.read 0 s.dram.flips c := by
    rw [State.writeBlock_eq_setBytes]
    unfold State.setTag
    rw [State.setBytes_dram]
    exact SMap.read_del_other h
  unfold State.decodeBlock State.storedWord
  rw [State.writeBlock_rawBlock_other h, htags, hflips]

theorem State.decodeBlock_of_dram (h : t.dram = s.dram) (b : Nat) : t.decodeBlock b = s.decodeBlock b := by
  unfold State.decodeBlock State.storedWord State.rawBlock State.tagBits State.byte
  rw [h]

/-! ### Whether MEM serves (R338) -/

theorem State.memOnline_of_fget (hstate : t.fget pgMem MEM.STAT.STATE = s.fget pgMem MEM.STAT.STATE)
    (hpwr : ∀ f, t.fget pgPwr f = s.fget pgPwr f) : t.memOnline = s.memOnline := by
  unfold State.memOnline State.domOn
  rw [hstate, hpwr, hpwr]

theorem State.block_of_decode (honline : t.memOnline = s.memOnline) (h : t.decodeBlock b = s.decodeBlock b) :
    t.block b = s.block b := by
  unfold State.block
  rw [honline, h]

/-- States that agree in the pages of MEM and PWR agree in whether MEM serves. -/
theorem State.SameOutside.memOnline (h : State.SameOutside m s t) (hmem : m.testBit (Part.page .mem).num = false)
    (hpwr : m.testBit (Part.page .pwr).num = false) : t.memOnline = s.memOnline :=
  State.memOnline_of_fget (h.fget rfl hmem) fun _ => h.fget rfl hpwr

/-- States that agree in DRAM and in whether MEM serves deliver the same blocks. -/
theorem State.SameOutside.block (h : State.SameOutside m s t) (hdram : m.testBit Part.dram.num = false)
    (hmem : m.testBit (Part.page .mem).num = false) (hpwr : m.testBit (Part.page .pwr).num = false) (b : Nat) :
    t.block b = s.block b :=
  State.block_of_decode (h.memOnline hmem hpwr) (State.decodeBlock_of_dram (h .dram hdram) b)

theorem tagBits_parts (tag : Nat) (poison : Bool) :
    bit (tag % 256 + 256 * b2n poison) 8 = poison ∧ (tag % 256 + 256 * b2n poison) % 256 = tag % 256 := by
  unfold bit
  rw [Nat.shiftRight_eq_div_pow]
  cases poison
  · rw [show b2n false = 0 from rfl]
    exact ⟨decide_eq_false (by omega), by omega⟩
  · rw [show b2n true = 1 from rfl]
    exact ⟨decide_eq_true (by omega), by omega⟩

/-- A block whose codeword is intact is delivered with its data, tag and poison. -/
theorem State.block_of_clean (honline : s.memOnline = true) (hb : b < dramBlocks)
    (h : s.decodeBlock b = .clean data (tag % 256 + 256 * b2n poison)) : s.block b = ⟨poison, data, tag % 256⟩ := by
  obtain ⟨hpoison, htag⟩ := tagBits_parts tag poison
  unfold State.block
  rw [honline, decide_eq_false (Nat.not_le.mpr hb), h]
  simp only [Bool.not_true, Bool.or_self, Bool.false_eq_true, if_false, hpoison, htag]

/-! ### Messages to the partner leave the pair's state (R477, R481) -/

theorem State.sendMirror_fget (h : PAIR.MGEN_TX.MGEN.Apart f) (s : State) (y : Mirror) (p : Nat) :
    (s.sendMirror y).fget p f = s.fget p f :=
  (State.emit_fget ..).trans (State.fset_fget_apart h)

theorem State.flushMirror_fget (h : PAIR.MGEN_TX.MGEN.Apart f) (s : State) (p : Nat) :
    s.flushMirror.fget p f = s.fget p f := by
  unfold State.flushMirror
  split
  · exact List.foldlRecOn _ _ (motive := fun u : State => u.fget p f = s.fget p f) rfl fun u hu y _ =>
      (State.sendMirror_fget h u y p).trans hu
  · rfl

theorem State.queueMirror_fget (h : PAIR.MGEN_TX.MGEN.Apart f) (s : State) (y : Mirror) (p : Nat) :
    (s.queueMirror y).fget p f = s.fget p f := by
  unfold State.queueMirror
  extract_lets used
  split
  · rfl
  · rw [State.evt_fget, State.fset_fget_apart h]

theorem State.mirrorActive_fget (h : PAIR.MGEN_TX.MGEN.Apart f) (s : State) (y : Mirror) (p : Nat) :
    (s.mirrorActive y).fget p f = s.fget p f := by
  unfold State.mirrorActive State.mirror
  split_ifs
  · rw [State.sendMirror_fget h, State.flushMirror_fget h]
  · rfl
  · exact State.queueMirror_fget h ..
  · rfl

theorem State.pairFollows_of_fget (h : t.fget pgPair PAIR.STAT.STATE = s.fget pgPair PAIR.STAT.STATE) :
    t.pairFollows = s.pairFollows := by
  unfold State.pairFollows State.pairState
  rw [h]

/-! ### A write that the port admits (R330, R343, R487) -/

theorem State.scrubCancelled_same (s : State) (master b : Nat) :
    State.SameBut [.mem, .page .mem] s (s.scrubCancelled master b) := by
  unfold State.scrubCancelled
  exact State.SameOutside.ite (State.finc_same (State.SameOutside.set_mem (State.SameOutside.refl _ s) rfl) rfl
    (pageMask_mem rfl)) (State.SameOutside.refl _ s)

/-- What the writes of a transfer leave as it is beside the blocks. -/
structure State.WritesOn (s t : State) : Prop where
  online : t.memOnline = s.memOnline
  follows : t.pairFollows = s.pairFollows
  rows : t.mem.rows = s.mem.rows
  rowUsed : t.mem.rowUsed = s.mem.rowUsed

theorem State.WritesOn.refl (s : State) : State.WritesOn s s := ⟨rfl, rfl, rfl, rfl⟩

theorem State.WritesOn.trans (h : State.WritesOn s t) (h' : State.WritesOn t u) : State.WritesOn s u :=
  ⟨h'.online.trans h.online, h'.follows.trans h.follows, h'.rows.trans h.rows, h'.rowUsed.trans h.rowUsed⟩

theorem State.scrubCancelled_writesOn (s : State) (master b : Nat) : State.WritesOn s (s.scrubCancelled master b) := by
  have hother {p : Nat} (u : State) (f : Fld) (hp : p ≠ pgMem) :
      (u.finc pgMem MEM.SCRUB_CNT.CANCELLED).fget p f = u.fget p f := State.fget_fset_page _ _ _ _ _ _ hp
  unfold State.scrubCancelled
  split
  · exact ⟨State.memOnline_of_fget (State.finc_fget_apart (by decide)) fun f => hother _ f (by decide),
      State.pairFollows_of_fget (hother _ _ (by decide)), rfl, rfl⟩
  · exact State.WritesOn.refl s

theorem State.putBlock_served (honline : s.memOnline = true) (hb : b < dramBlocks) :
    s.putBlock b data tag poison = (s.fset pgMem MEM.STAT.WRITTEN 1).writeBlock b data tag poison := by
  unfold State.putBlock
  rw [honline, decide_eq_false (Nat.not_le.mpr hb)]
  rfl

theorem State.fset_written_writesOn (s : State) : State.WritesOn s (s.fset pgMem MEM.STAT.WRITTEN 1) :=
  ⟨State.memOnline_of_fget (State.fset_fget_apart (by decide)) fun _ => State.fget_fset_page _ _ _ _ _ _ (by decide),
    State.pairFollows_of_fget (State.fget_fset_page _ _ _ _ _ _ (by decide)), rfl, rfl⟩

theorem State.writeBlock_writesOn (s : State) (b data tag : Nat) (poison : Bool) :
    State.WritesOn s (s.writeBlock b data tag poison) := by
  have hsame : State.SameBut [.dram] s (s.writeBlock b data tag poison) :=
    State.writeBlock_same (State.SameOutside.refl _ s) rfl
  have hmem : (s.writeBlock b data tag poison).mem = s.mem := hsame .mem rfl
  exact ⟨hsame.memOnline rfl rfl, State.pairFollows_of_fget (hsame.fget (ty := .pair) rfl rfl), congrArg MemSt.rows hmem,
    congrArg MemSt.rowUsed hmem⟩

theorem State.putBlock_writesOn (s : State) (b data tag : Nat) (poison : Bool) :
    State.WritesOn s (s.putBlock b data tag poison) := by
  unfold State.putBlock
  split
  · exact State.WritesOn.refl s
  · exact s.fset_written_writesOn.trans (State.writeBlock_writesOn ..)

theorem State.mirrorActive_writesOn (s : State) (y : Mirror) : State.WritesOn s (s.mirrorActive y) := by
  have hsame : State.SameBut [.pair, .out, .page .pair] s (s.mirrorActive y) :=
    State.mirrorActive_same (State.SameOutside.refl _ s) rfl
  have hmem : (s.mirrorActive y).mem = s.mem := hsame .mem rfl
  exact ⟨hsame.memOnline rfl rfl, State.pairFollows_of_fget (State.mirrorActive_fget (by decide) ..),
    congrArg MemSt.rows hmem, congrArg MemSt.rowUsed hmem⟩

theorem State.admitWrite_writesOn (s : State) (master b data tag : Nat) (poison : Bool) :
    State.WritesOn s (s.admitWrite master b data tag poison) := by
  have hput := (s.scrubCancelled_writesOn master b).trans (State.putBlock_writesOn _ b data tag poison)
  rw [State.admitWrite_eq]
  split_ifs
  · exact State.WritesOn.refl s
  · exact hput.trans (State.mirrorActive_writesOn ..)
  · exact hput

/-- On a device that does not follow its partner, every write is carried out. -/
theorem State.admitWrite_dram (h : s.pairFollows = false) : (s.admitWrite master b data tag poison).dram =
    ((s.scrubCancelled master b).putBlock b data tag poison).dram := by
  rw [State.admitWrite_eq, h, Bool.false_and, Bool.false_and, if_neg Bool.false_ne_true]
  split
  · exact State.mirrorActive_dram ..
  · rfl

/-- What is written is a block that MEM serves, over the DRAM as it was. -/
theorem State.admitWrite_decode (h : s.pairFollows = false) (honline : s.memOnline = true) (hb : b < dramBlocks) (c : Nat) :
    ∃ v : State, v.dram = s.dram ∧
      (s.admitWrite master b data tag poison).decodeBlock c = (v.writeBlock b data tag poison).decodeBlock c := by
  have hcancel := s.scrubCancelled_writesOn master b
  refine ⟨(s.scrubCancelled master b).fset pgMem MEM.STAT.WRITTEN 1, s.scrubCancelled_same master b .dram rfl,
    State.decodeBlock_of_dram ?_ c⟩
  rw [State.admitWrite_dram h, State.putBlock_served (hcancel.online.trans honline) hb]

/-! ### One block of a write, if the mask names it -/

/-- A block is written if the mask of the transfer names it. -/
def State.maskedWrite (s : State) (on : Bool) (master b data tag : Nat) (poison : Bool) : State :=
  if on then s.admitWrite master b data tag poison else s

theorem State.maskedWrite_writesOn (s : State) (on : Bool) (master b data tag : Nat) (poison : Bool) :
    State.WritesOn s (s.maskedWrite on master b data tag poison) := by
  unfold State.maskedWrite
  split
  · exact State.admitWrite_writesOn ..
  · exact State.WritesOn.refl s

theorem State.maskedWrite_block (hon : on = true) (h : s.pairFollows = false) (honline : s.memOnline = true)
    (hb : b < dramBlocks) :
    (s.maskedWrite on master b data tag poison).block b = ⟨poison, data % 2 ^ 256, tag % 256⟩ := by
  obtain ⟨v, -, hdecode⟩ := State.admitWrite_decode (master := master) (data := data) (tag := tag) (poison := poison) h
    honline hb b
  unfold State.maskedWrite
  rw [if_pos hon]
  refine State.block_of_clean ((State.admitWrite_writesOn ..).online.trans honline) hb ?_
  rw [hdecode, State.writeBlock_decode]

theorem State.maskedWrite_block_other (hc : c = b → on = false) (h : s.pairFollows = false) (honline : s.memOnline = true)
    (hb : b < dramBlocks) : (s.maskedWrite on master b data tag poison).block c = s.block c := by
  unfold State.maskedWrite
  split
  next hon =>
    obtain ⟨v, hv, hdecode⟩ := State.admitWrite_decode (master := master) (data := data) (tag := tag) (poison := poison) h
      honline hb c
    have hne : c ≠ b := fun e => Bool.false_ne_true ((hc e).symm.trans hon)
    refine State.block_of_decode (State.admitWrite_writesOn ..).online ?_
    rw [hdecode, State.writeBlock_decode_other hne, State.decodeBlock_of_dram hv]
  next => rfl

/-! ### What MEM makes of a request (R328, R330, R331, R338) -/

theorem exec_dramTransfer_on (h : s.boot.powered = true) (x : Transfer) :
    exec (.dramTransfer x) s = .next (s.dramTransfer x) :=
  congrArg Host.Outcome.next (State.live_on h _)

/-- The block that a report of a transfer names. -/
theorem transfer_first_le (x : Transfer) : 2 * x.pair + b2n (!bit x.mask 0) ≤ 2 * x.pair + 1 := by
  unfold b2n
  split <;> omega

theorem State.requestCheck_served (honline : s.memOnline = true) (hb : 2 * x.pair + 1 < dramBlocks) :
    s.requestCheck x = s.touchRow x.pair := by
  have hfirst := transfer_first_le x
  unfold State.requestCheck
  rw [honline]
  simp only [if_neg (Nat.not_le.mpr (Nat.lt_of_le_of_lt hfirst hb)), Bool.not_true, Bool.false_eq_true, if_false]

theorem State.requestCheck_range (hb : dramBlocks ≤ 2 * x.pair) :
    s.requestCheck x = s.memRange (2 * x.pair + b2n (!bit x.mask 0)) x.master :=
  if_pos (Nat.le_trans hb (Nat.le_add_right _ _))

theorem State.requestCheck_offline (honline : s.memOnline = false) (hb : 2 * x.pair + 1 < dramBlocks) :
    s.requestCheck x = s.memOffline (2 * x.pair + b2n (!bit x.mask 0)) x.master := by
  have hfirst := transfer_first_le x
  unfold State.requestCheck
  rw [honline]
  simp only [if_neg (Nat.not_le.mpr (Nat.lt_of_le_of_lt hfirst hb)), Bool.not_false, if_true]

/-- A block that MEM turns away is not written. -/
theorem State.transferBlock_lost (hw : x.write = true) (h : dramBlocks ≤ b ∨ s.memOnline = false) :
    s.transferBlock x b data tag poison flips = s := by
  have hlost : (decide (dramBlocks ≤ b) || !s.memOnline) = true := by
    rcases h with h | h
    · rw [decide_eq_true h, Bool.true_or]
    · rw [h, Bool.not_false, Bool.or_true]
  unfold State.transferBlock
  rw [if_pos hlost, if_pos hw]

/-- A block that MEM serves is written, or checked for the reader that then takes it. -/
theorem State.transferBlock_served (honline : s.memOnline = true) (hb : b < dramBlocks) :
    s.transferBlock x b data tag poison flips =
      if x.write then s.admitWrite x.master b data tag poison
      else ((s.flip b flips).memDecode b x.master).consume x b := by
  unfold State.transferBlock
  rw [honline, decide_eq_false (Nat.not_le.mpr hb)]
  rfl

theorem State.dramTransfer_turnedAway (hw : x.write = true) (hcheck : s.requestCheck x = u)
    (h : dramBlocks ≤ 2 * x.pair ∨ u.memOnline = false) : s.dramTransfer x = u.endWait x.req := by
  have hsecond : dramBlocks ≤ 2 * x.pair + 1 ∨ u.memOnline = false := h.imp_left (Nat.le_trans · (Nat.le_succ _))
  unfold State.dramTransfer
  simp only [hcheck, State.transferBlock_lost hw h, State.transferBlock_lost hw hsecond, ite_self]

theorem State.touchRow_online (s : State) (pair : Nat) : (s.touchRow pair).memOnline = s.memOnline :=
  (State.touchRow_same (m := 32768) (State.SameOutside.refl _ s) rfl).memOnline rfl rfl

/-- The first and the second block of a transfer that MEM serves are dealt with in turn. -/
theorem State.dramTransfer_served (honline : s.memOnline = true) (hb : 2 * x.pair + 1 < dramBlocks)
    (hu : u = if bit x.mask 0 then
      (s.touchRow x.pair).transferBlock x (2 * x.pair) x.data0 x.tag0 x.poison0 x.flips0 else s.touchRow x.pair) :
    s.dramTransfer x = (if bit x.mask 1 then
      u.transferBlock x (2 * x.pair + 1) x.data1 x.tag1 x.poison1 x.flips1 else u).endWait x.req := by
  subst hu
  unfold State.dramTransfer
  rw [State.requestCheck_served honline hb]

/-! ### A write (R328, R331) -/

theorem State.touchRow_row (s : State) (pair : Nat) :
    SMap.read none (s.touchRow pair).mem.rows (s.bankKey (rowGroup (2 * pair))) = some (rowGroup (2 * pair) / 64) ∧
    SMap.read 0 (s.touchRow pair).mem.rowUsed (s.bankKey (rowGroup (2 * pair))) = s.mono :=
  ⟨SMap.read_write_self none s.mem.rows (s.bankKey (rowGroup (2 * pair))) (some (rowGroup (2 * pair) / 64)),
    SMap.read_write_self 0 s.mem.rowUsed (s.bankKey (rowGroup (2 * pair))) s.mono⟩

/-- A write that MEM serves has opened its row and stored the first block. -/
def State.firstWritten (s : State) (x : Transfer) : State :=
  (s.touchRow x.pair).maskedWrite (bit x.mask 0) x.master (2 * x.pair) x.data0 x.tag0 x.poison0

/-- It has stored both. -/
def State.bothWritten (s : State) (x : Transfer) : State :=
  (s.firstWritten x).maskedWrite (bit x.mask 1) x.master (2 * x.pair + 1) x.data1 x.tag1 x.poison1

theorem State.firstWritten_writesOn (s : State) (x : Transfer) : State.WritesOn (s.touchRow x.pair) (s.firstWritten x) :=
  State.maskedWrite_writesOn ..

theorem State.bothWritten_writesOn (s : State) (x : Transfer) : State.WritesOn (s.touchRow x.pair) (s.bothWritten x) :=
  (s.firstWritten_writesOn x).trans (State.maskedWrite_writesOn ..)

theorem State.dramTransfer_write (honline : s.memOnline = true) (hb : 2 * x.pair + 1 < dramBlocks) (hw : x.write = true) :
    s.dramTransfer x = (s.bothWritten x).endWait x.req := by
  have htouch : (s.touchRow x.pair).memOnline = true := (s.touchRow_online _).trans honline
  have hfirst : s.firstWritten x = if bit x.mask 0 then
      (s.touchRow x.pair).transferBlock x (2 * x.pair) x.data0 x.tag0 x.poison0 x.flips0 else s.touchRow x.pair := by
    rw [State.transferBlock_served htouch (Nat.lt_of_succ_lt hb), if_pos hw]
    rfl
  rw [State.dramTransfer_served honline hb hfirst,
    State.transferBlock_served ((s.firstWritten_writesOn x).online.trans htouch) hb, if_pos hw]
  rfl

theorem State.endWait_block (s : State) (r b : Nat) : (s.endWait r).block b = s.block b :=
  (State.endWait_same (m := 1125899906908160) (State.SameOutside.refl _ s) rfl).block rfl rfl rfl b

theorem State.endWait_mem (s : State) (r : Nat) : (s.endWait r).mem = s.mem :=
  State.endWait_same (m := 1125899906908160) (State.SameOutside.refl _ s) rfl .mem rfl

/-- The requester no longer counts as URGENT since an instant. -/
theorem State.endWait_urgentAt (s : State) (r : Nat) : SMap.read none (s.endWait r).arb.urgentAt r = none := by
  unfold State.endWait
  split
  next h => exact h
  next => exact SMap.read_write_self none s.arb.urgentAt r none

theorem State.bothWritten_first (h : s.pairFollows = false) (honline : s.memOnline = true)
    (hb : 2 * x.pair + 1 < dramBlocks) (hmask : bit x.mask 0 = true) :
    (s.bothWritten x).block (2 * x.pair) = ⟨x.poison0, x.data0 % 2 ^ 256, x.tag0 % 256⟩ := by
  have hfirst := s.firstWritten_writesOn x
  have honline := (s.touchRow_online x.pair).trans honline
  exact (State.maskedWrite_block_other (fun e => absurd e (by omega)) (hfirst.follows.trans h)
    (hfirst.online.trans honline) hb).trans (State.maskedWrite_block hmask h honline (Nat.lt_of_succ_lt hb))

theorem State.bothWritten_second (h : s.pairFollows = false) (honline : s.memOnline = true)
    (hb : 2 * x.pair + 1 < dramBlocks) (hmask : bit x.mask 1 = true) :
    (s.bothWritten x).block (2 * x.pair + 1) = ⟨x.poison1, x.data1 % 2 ^ 256, x.tag1 % 256⟩ := by
  have hfirst := s.firstWritten_writesOn x
  exact State.maskedWrite_block hmask (hfirst.follows.trans h)
    (hfirst.online.trans ((s.touchRow_online x.pair).trans honline)) hb

theorem State.bothWritten_other (h : s.pairFollows = false) (honline : s.memOnline = true)
    (hb : 2 * x.pair + 1 < dramBlocks) (hfst : c = 2 * x.pair → bit x.mask 0 = false)
    (hsnd : c = 2 * x.pair + 1 → bit x.mask 1 = false) : (s.bothWritten x).block c = s.block c := by
  have hfirst := s.firstWritten_writesOn x
  have honline := (s.touchRow_online x.pair).trans honline
  calc (s.bothWritten x).block c
    _ = (s.firstWritten x).block c :=
      State.maskedWrite_block_other hsnd (hfirst.follows.trans h) (hfirst.online.trans honline) hb
    _ = (s.touchRow x.pair).block c := State.maskedWrite_block_other hfst h honline (Nat.lt_of_succ_lt hb)
    _ = s.block c := (State.touchRow_same (m := 32768) (State.SameOutside.refl _ s) rfl).block rfl rfl rfl c

theorem State.bothWritten_rows (s : State) (x : Transfer) :
    SMap.read none (s.bothWritten x).mem.rows (s.bankKey (rowGroup (2 * x.pair))) = some (rowGroup (2 * x.pair) / 64) ∧
    SMap.read 0 (s.bothWritten x).mem.rowUsed (s.bankKey (rowGroup (2 * x.pair))) = s.mono := by
  rw [(s.bothWritten_writesOn x).rows, (s.bothWritten_writesOn x).rowUsed]
  exact s.touchRow_row x.pair

theorem State.maskedWrite_same (h : State.SameBut [.dram, .mem, .pair, .out, .page .pair, .page .mem] s t) :
    State.SameBut [.dram, .mem, .pair, .out, .page .pair, .page .mem] s (t.maskedWrite on master b data tag poison) :=
  State.SameOutside.ite (State.admitWrite_same h rfl) h

theorem State.bothWritten_same (s : State) (x : Transfer) :
    State.SameBut [.dram, .mem, .pair, .out, .page .pair, .page .mem] s (s.bothWritten x) :=
  State.maskedWrite_same (State.maskedWrite_same (State.touchRow_same (State.SameOutside.refl _ s) rfl))

/-! ### The statement -/

/-- Settles O41: a write that MEM serves comes to `bothWritten`, a read to the check of each block for its reader, and a write
that MEM turns away to what the request is counted as. -/
theorem transfersReachTheirBlocks : Obligations.TransfersReachTheirBlocks := by
  unfold Obligations.TransfersReachTheirBlocks
  refine fun s x hpow => ⟨fun honline hb hw hfollows => ?_, fun honline hb hr => ?_, fun hb hw => ?_, fun honline hb hw => ?_⟩
  case refine_1 =>
    obtain ⟨hrow, hused⟩ := s.bothWritten_rows x
    refine ⟨(s.bothWritten x).endWait x.req, ?_, fun hmask => ?_, fun hmask => ?_, fun c hfst hsnd => ?_, ?_, ?_,
      State.endWait_urgentAt _ _, State.endWait_same ((s.bothWritten_same x).mono rfl) rfl⟩
    · rw [exec_dramTransfer_on hpow, State.dramTransfer_write honline hb hw]
    · rw [State.endWait_block, State.bothWritten_first hfollows honline hb hmask]
    · rw [State.endWait_block, State.bothWritten_second hfollows honline hb hmask]
    · rw [State.endWait_block, State.bothWritten_other hfollows honline hb hfst hsnd]
    · rw [State.endWait_mem, hrow]
    · rw [State.endWait_mem, hused]
  case refine_2 =>
    refine ⟨_, _, rfl, fun hu => ⟨rfl, ?_⟩⟩
    have hread {v : State} (hv : v.memOnline = true) (b data tag flips : Nat) (poison : Bool) (hlt : b < dramBlocks) :
        v.transferBlock x b data tag poison flips = ((v.flip b flips).memDecode b x.master).consume x b := by
      rw [State.transferBlock_served hv hlt, if_neg (by rw [hr]; exact Bool.false_ne_true)]
    have hfirst := hread ((s.touchRow_online x.pair).trans honline) (2 * x.pair) x.data0 x.tag0 x.flips0 x.poison0
      (Nat.lt_of_succ_lt hb)
    rw [exec_dramTransfer_on hpow, State.dramTransfer_served honline hb (by rw [hfirst]), hread hu _ _ _ _ _ hb]
  case refine_3 =>
    rw [exec_dramTransfer_on hpow, State.dramTransfer_turnedAway hw (State.requestCheck_range hb) (.inl hb)]
  case refine_4 =>
    refine ⟨_, rfl, fun hu => ?_⟩
    rw [exec_dramTransfer_on hpow, State.dramTransfer_turnedAway hw (State.requestCheck_offline honline hb) (.inr hu)]

end Sys2Proof.Machine
end

section
/-! PROOFS. Refresh, open rows and timing sets: a stall begins at its time with what an MR4 read tells, a row that is idle
closes, and the set in force changes in a window or is trained (R331, R333 to R336, R339, R340). -/

namespace Sys2Proof.Machine

variable {s t : State} {p k n m op arg i set bank failed step : Nat} {reading : Option Mr4} {f : Fld}

/-! ### MR4 (R336) -/

/-- The derate factor that an MR4 read asks for; a read that fails asks for the greatest. -/
def mr4Code (reading : Option Mr4) : Nat :=
  match reading with
  | some v => min v.rate 2
  | none => 2

theorem mr4Code_lt (reading : Option Mr4) : mr4Code reading < 2 ^ 2 := by
  cases reading
  · decide
  · exact Nat.lt_of_le_of_lt (Nat.min_le_right _ _) (by decide)

/-- THM shows an MR4 read, or that it failed. -/
def State.mr4Shown (s : State) (reading : Option Mr4) : State :=
  let s := (s.fsetB pgThm THM.MR4.VALID reading.isSome).fsetB pgThm THM.MR4.FAIL reading.isNone
  match reading with
  | some v => (s.fset pgThm THM.MR4.DIE0 v.die0).fset pgThm THM.MR4.DIE1 v.die1
  | none => s

/-- The demand for an MR4 read is met. -/
def State.mr4Met (s : State) : State := { s with mem := { s.mem with mr4Due := false } }

/-- MEM takes a derate factor, and tells of a change. -/
def State.derated (s : State) (code : Nat) : State :=
  if s.fget pgMem MEM.STAT.DERATE = code then s else (s.fset pgMem MEM.STAT.DERATE code).evt pgMem 10

theorem State.mr4Met_fget (s : State) (p : Nat) (f : Fld) : s.mr4Met.fget p f = s.fget p f := State.fget_of_pages rfl p f

theorem State.mr4_eq (s : State) (reading : Option Mr4) :
    s.mr4 reading = (s.mr4Shown reading).mr4Met.derated (mr4Code reading) := by
  unfold State.derated
  rw [State.mr4Met_fget]
  cases reading <;> rfl

theorem State.derated_fget (h : MEM.STAT.DERATE.Apart f) (s : State) (code p : Nat) :
    (s.derated code).fget p f = s.fget p f := by
  unfold State.derated
  split
  · rfl
  · rw [State.evt_fget, State.fset_fget_apart h]

theorem State.derated_mem (s : State) (code : Nat) : (s.derated code).mem = s.mem := by
  unfold State.derated
  split
  · rfl
  · rw [State.evt_mem, State.fset_mem]

theorem State.mr4_mem (s : State) (reading : Option Mr4) : (s.mr4 reading).mem = { s.mem with mr4Due := false } := by
  rw [State.mr4_eq, State.derated_mem]
  cases reading <;> rfl

theorem State.mr4_mono (s : State) (reading : Option Mr4) : (s.mr4 reading).mono = s.mono :=
  State.mr4_same (m := 2269394147246080) (State.SameOutside.refl _ s) rfl .mono rfl

theorem State.mr4_derate (s : State) (reading : Option Mr4) :
    (s.mr4 reading).fget pgMem MEM.STAT.DERATE = mr4Code reading := by
  rw [State.mr4_eq]
  unfold State.derated
  split
  next h => exact h
  next => rw [State.evt_fget, State.fset_fget (by decide) (mr4Code_lt reading)]

theorem b2n_eq_one (b : Bool) : decide (b2n b % 2 = 1) = b := by cases b <;> rfl

/-- A bit that has been set to a value reads as that value. -/
theorem State.fsetB_fbit (h : f.lo + f.w ≤ 32) (hw : f.w = 1) (s : State) (p : Nat) (b : Bool) :
    (s.fsetB p f b).fbit p f = b := by
  unfold State.fbit State.fsetB
  rw [State.fget_fset_self _ _ _ _ h, hw]
  exact b2n_eq_one b

theorem State.fbit_of_fget (h : t.fget p f = s.fget p f) : t.fbit p f = s.fbit p f :=
  congrArg (fun v => decide (v = 1)) h

/-- The flags of an MR4 read stand as set, whatever the dies have answered. -/
theorem State.mr4Shown_flags (h0 : THM.MR4.DIE0.Apart f) (h1 : THM.MR4.DIE1.Apart f) (s : State) (reading : Option Mr4) :
    (s.mr4Shown reading).fget pgThm f =
      ((s.fsetB pgThm THM.MR4.VALID reading.isSome).fsetB pgThm THM.MR4.FAIL reading.isNone).fget pgThm f := by
  cases reading with
  | none => rfl
  | some v => exact (State.fset_fget_apart h1).trans (State.fset_fget_apart h0)

theorem State.mr4_fget (h : MEM.STAT.DERATE.Apart f) (s : State) (reading : Option Mr4) (p : Nat) :
    (s.mr4 reading).fget p f = (s.mr4Shown reading).fget p f := by
  rw [State.mr4_eq, State.derated_fget h, State.mr4Met_fget]

theorem State.mr4_valid (s : State) (reading : Option Mr4) :
    (s.mr4 reading).fbit pgThm THM.MR4.VALID = reading.isSome := by
  rw [State.fbit_of_fget (State.mr4_fget (by decide) ..),
    State.fbit_of_fget (State.mr4Shown_flags (by decide) (by decide) ..),
    State.fbit_of_fget (State.fsetB_fget_apart (by decide))]
  exact State.fsetB_fbit (by decide) rfl ..

theorem State.mr4_fail (s : State) (reading : Option Mr4) :
    (s.mr4 reading).fbit pgThm THM.MR4.FAIL = reading.isNone := by
  rw [State.fbit_of_fget (State.mr4_fget (by decide) ..),
    State.fbit_of_fget (State.mr4Shown_flags (by decide) (by decide) ..)]
  exact State.fsetB_fbit (by decide) rfl ..

/-! ### A refresh falls due (R334, R335) -/

theorem exec_refreshDue_on (h : s.boot.powered = true) (reading : Option Mr4) :
    exec (.refreshDue reading) s = .next (s.refresh reading) :=
  congrArg Host.Outcome.next (State.live_on h _)

/-- The clock is at the refresh, and its stall counts. -/
def State.stallCounted (s : State) : State := (s.advanceTo s.mem.refreshDue).finc pgArb ARB.STALL_CNT.COUNT

/-- A demand that waits for an MR4 read is met. -/
def State.mr4Taken (s : State) (reading : Option Mr4) : State := if s.mem.mr4Due then s.mr4 reading else s

/-- Every row is closed for a stall of a length; `dqs` is the last reading of the oscillators. -/
def State.stalled (s : State) (len : Nat) (dqs : Option Nat) : State :=
  { s with mem := { s.mem with
      stallEnd := s.mono + len, refreshDue := s.mono + s.refreshInterval, dqsRead := dqs, rows := [] } }

theorem State.refresh_idle (h : s.fget pgMem MEM.STAT.STATE ≠ 2) : s.refresh reading = s := if_pos h

theorem State.refresh_ready (h : s.fget pgMem MEM.STAT.STATE = 2) (reading : Option Mr4) : ∃ dqs,
    s.refresh reading = (s.stallCounted.mr4Taken reading).stalled
      (s.fget pgMem MEM.REFRESH_T.RPAB_NS + s.fget pgMem MEM.REFRESH_T.RFC_NS) dqs := by
  have hpages : (s.advanceTo s.mem.refreshDue).pages = s.pages := State.advanceTo_pages ..
  rw [← State.fget_of_pages hpages, ← State.fget_of_pages hpages]
  exact ⟨_, if_neg (not_not_intro h)⟩

theorem State.advanceTo_mem (s : State) (i : Nat) : (s.advanceTo i).mem = s.mem := by
  unfold State.advanceTo
  split <;> rfl

theorem State.stallCounted_mono (s : State) : s.stallCounted.mono = max s.mono s.mem.refreshDue := State.advanceTo_mono ..

theorem State.stallCounted_mr4Due (s : State) : s.stallCounted.mem.mr4Due = s.mem.mr4Due :=
  congrArg MemSt.mr4Due (State.advanceTo_mem ..)

theorem State.stallCounted_fget (h : ARB.STALL_CNT.COUNT.Apart f) (s : State) (p : Nat) :
    s.stallCounted.fget p f = s.fget p f :=
  (State.finc_fget_apart h).trans (State.fget_of_pages (State.advanceTo_pages ..) p f)

theorem State.stallCounted_count (s : State) : s.stallCounted.fget pgArb ARB.STALL_CNT.COUNT =
    min (s.fget pgArb ARB.STALL_CNT.COUNT + 1) (2 ^ 32 - 1) := by
  unfold State.stallCounted
  rw [State.finc_fget (by decide), State.fget_of_pages (State.advanceTo_pages ..)]
  rfl

theorem State.mr4Taken_mono (s : State) (reading : Option Mr4) : (s.mr4Taken reading).mono = s.mono := by
  unfold State.mr4Taken
  split
  · exact State.mr4_mono ..
  · rfl

theorem State.mr4Taken_due (s : State) (reading : Option Mr4) : (s.mr4Taken reading).mem.mr4Due = false := by
  unfold State.mr4Taken
  split
  next => rw [State.mr4_mem]
  next h => exact Bool.eq_false_of_not_eq_true h

/-- An MR4 read does not touch ARB. -/
theorem State.mr4Taken_arb (s : State) (reading : Option Mr4) (f : Fld) :
    (s.mr4Taken reading).fget pgArb f = s.fget pgArb f := by
  unfold State.mr4Taken
  split
  · exact (State.mr4_same (m := 2269394147246080) (State.SameOutside.refl _ s) rfl).fget (ty := .arb) rfl rfl
  · rfl

theorem State.stalled_fget (s : State) (len : Nat) (dqs : Option Nat) (p : Nat) (f : Fld) :
    (s.stalled len dqs).fget p f = s.fget p f :=
  State.fget_of_pages rfl p f

theorem State.stalled_interval (s : State) (len : Nat) (dqs : Option Nat) :
    (s.stalled len dqs).refreshInterval = s.refreshInterval := by
  unfold State.refreshInterval
  rw [State.stalled_fget, State.stalled_fget]

/-- The rows, the demand and the two instants of a stall that begins. -/
theorem State.stalled_mem (s : State) (len : Nat) (dqs : Option Nat) :
    (s.stalled len dqs).mem.rows = [] ∧ (s.stalled len dqs).mem.mr4Due = s.mem.mr4Due ∧
    (s.stalled len dqs).mem.stallEnd = s.mono + len ∧ (s.stalled len dqs).mem.refreshDue = s.mono + s.refreshInterval :=
  ⟨rfl, rfl, rfl, rfl⟩

/-! ### A row is idle (R331) -/

theorem exec_rowIdleTimeout_on (h : s.boot.powered = true) (bank : Nat) :
    exec (.rowIdleTimeout bank) s = .next (s.rowIdle bank) :=
  congrArg Host.Outcome.next (State.live_on h _)

/-- The row of a bank is closed. -/
def State.rowClosed (s : State) (bank : Nat) : State :=
  { s with mem := { s.mem with rows := SMap.write none s.mem.rows bank none } }

theorem State.rowIdle_open {row : Nat} (h : SMap.read none s.mem.rows bank = some row) :
    s.rowIdle bank = (s.advanceTo (SMap.read 0 s.mem.rowUsed bank + 200)).rowClosed bank := by
  unfold State.rowIdle
  rw [h]
  rfl

theorem State.rowIdle_closed (h : SMap.read none s.mem.rows bank = none) : s.rowIdle bank = s := by
  unfold State.rowIdle
  rw [h]

theorem State.rowClosed_rows (s : State) (bank k : Nat) :
    SMap.read none (s.rowClosed bank).mem.rows k = if k = bank then none else SMap.read none s.mem.rows k := by
  split
  next h => rw [h]; exact SMap.read_write_self none s.mem.rows bank none
  next h => exact SMap.read_write_other none none s.mem.rows h none

/-! ### Commands of MEM (R339, R340) -/

/-- A command of MEM that the page takes starts and does its work. -/
theorem State.memCommand_eq (h : s.accepts m pgMem op arg = true) (hop : 0x10 ≤ op) (ho : op < 256) (ha : arg < 2 ^ 24) :
    s.command m pgMem op arg = ((s.cmdStart pgMem op arg m).memCmd op arg).emit (.access m 0 0) := by
  rw [State.command_eq h ho ha (.inr fun q _ => by unfold pgMem pgReel; omega)]
  unfold State.cmdRun
  rw [if_neg (by omega), if_neg (by omega), if_neg (by omega)]
  rfl

theorem State.memStarted_same (s : State) (op arg m : Nat) : State.SameBut [.page .mem] s (s.cmdStart pgMem op arg m) :=
  State.cmdStart_same (State.SameOutside.refl _ s) rfl (pageMask_mem rfl)

theorem set_fits (set : Fin 2) : set.val < 2 ^ 24 ∧ set.val % 2 = set.val :=
  ⟨Nat.lt_trans set.isLt (by decide), Nat.mod_eq_of_lt set.isLt⟩

theorem exec_switchSet_on (h : s.boot.powered = true) (m : Master) (set : Fin 2) :
    exec (.switchSet m set) s = .next (s.command m.id pgMem 0x10 set) :=
  congrArg Host.Outcome.next (State.live_on h _)

theorem exec_trainSet_on (h : s.boot.powered = true) (m : Master) (set : Fin 2) :
    exec (.trainSet m set) s = .next (s.command m.id pgMem 0x11 set) :=
  congrArg Host.Outcome.next (State.live_on h _)

/-- SWITCH_SET has begun to wait for a window. -/
def State.windowAwaited (s : State) : State := { s with mem := { s.mem with windowWait := 0 } }

/-- SWITCH_SET as far as its answer. -/
def State.setSwitchAsked (s : State) (m set : Nat) : State :=
  (s.cmdStart pgMem 0x10 set m).windowAwaited.emit (.access m 0 0)

theorem State.switchSet_command (set : Fin 2) (h : s.accepts m pgMem 0x10 set = true) :
    s.command m pgMem 0x10 set = s.setSwitchAsked m set := by
  rw [State.memCommand_eq h (by decide) (by decide) (set_fits set).1]
  rfl

theorem State.setSwitchAsked_runs (s : State) (m set : Nat) : (s.setSwitchAsked m set).Runs pgMem 0x10 set m :=
  State.cmdStart_runs ..

theorem State.setSwitchAsked_mem (s : State) (m set : Nat) :
    (s.setSwitchAsked m set).mem = { s.mem with windowWait := 0 } := rfl

theorem State.setSwitchAsked_same (s : State) (m set : Nat) :
    State.SameBut [.mem, .out, .page .mem] s (s.setSwitchAsked m set) :=
  State.emit_same (State.SameOutside.set_mem ((s.memStarted_same 0x10 set m).mono rfl) rfl) rfl

/-- MEM is training a set. -/
def State.inTraining (s : State) (set : Nat) : State :=
  ({ s with mem := { s.mem with training := some set } } : State).fset pgMem MEM.STAT.STATE 1

/-- TRAIN_SET as far as its answer. -/
def State.trainAsked (s : State) (m set : Nat) : State :=
  ((s.cmdStart pgMem 0x11 set m).inTraining set).emit (.access m 0 0)

theorem State.trainSet_command (set : Fin 2) (h : s.accepts m pgMem 0x11 set = true) :
    s.command m pgMem 0x11 set = s.trainAsked m set := by
  obtain ⟨hlt, hmod⟩ := set_fits set
  rw [State.memCommand_eq h (by decide) (by decide) hlt]
  unfold State.memCmd
  rw [if_neg (by decide), if_pos rfl, hmod]
  rfl

theorem State.trainAsked_runs (s : State) (m set : Nat) : (s.trainAsked m set).Runs pgMem 0x11 set m :=
  State.cmdStart_runs ..

theorem State.trainAsked_mem (s : State) (m set : Nat) :
    (s.trainAsked m set).mem = { s.mem with training := some set } := rfl

theorem State.trainAsked_state (s : State) (m set : Nat) : (s.trainAsked m set).fget pgMem MEM.STAT.STATE = 1 :=
  (State.emit_fget ..).trans (State.fset_fget (by decide) (by decide))

theorem State.trainAsked_same (s : State) (m set : Nat) :
    State.SameBut [.mem, .out, .page .mem] s (s.trainAsked m set) :=
  State.emit_same (State.fset_same (State.SameOutside.set_mem ((s.memStarted_same 0x11 set m).mono rfl) rfl) rfl
    (pageMask_mem rfl)) rfl

/-! ### The INGEST buffer is written out (R115, R339) -/

/-- States that agree in the pages of a kind hold the same headers there. -/
theorem State.SameOutside.hdr {ty : PageType} (h : State.SameOutside n s t) (hp : (pageOf p).map Prod.fst = some ty)
    (hm : n.testBit (Part.page ty).num = false) : t.hdr p = s.hdr p :=
  (h (.page ty) hm p hp).1

theorem State.admitWrite_hdr (s : State) (master b data tag : Nat) (poison : Bool) :
    (s.admitWrite master b data tag poison).hdr pgMem = s.hdr pgMem := by
  have hcancel : (s.scrubCancelled master b).hdr pgMem = s.hdr pgMem := by
    unfold State.scrubCancelled
    split <;> rfl
  have hwrite (u : State) : (u.writeBlock b data tag poison).hdr pgMem = u.hdr pgMem :=
    (State.writeBlock_same (m := 16384) (State.SameOutside.refl _ u) rfl).hdr (ty := .mem) rfl rfl
  have hput (u : State) : (u.putBlock b data tag poison).hdr pgMem = u.hdr pgMem := by
    unfold State.putBlock
    split
    · rfl
    · rw [hwrite, State.fset_hdr]
  have hmirror (u : State) (y : Mirror) : (u.mirrorActive y).hdr pgMem = u.hdr pgMem :=
    (State.mirrorActive_same (m := 562952134459392) (State.SameOutside.refl _ u) rfl).hdr (ty := .mem) rfl rfl
  rw [State.admitWrite_eq]
  split_ifs
  · rfl
  · rw [hmirror, hput, hcancel]
  · rw [hput, hcancel]

theorem State.windowDone_link_same (s : State) (w frame : Nat) :
    State.SameBut [.cmp, .out, .page .link] s (s.windowDone w frame) :=
  State.windowDone_same (State.SameOutside.refl _ s) rfl

/-- One block leaves the buffer; the header of MEM stands. -/
theorem State.ingestOne_keeps (s : State) :
    s.ingestOne.transport.ingest = s.transport.ingest.tail ∧ s.ingestOne.hdr pgMem = s.hdr pgMem := by
  have hadmit (u : State) (master b data tag : Nat) : (u.admitWrite master b data tag false).transport = u.transport :=
    State.admitWrite_same (m := 2814751948193792) (State.SameOutside.refl _ u) rfl .transport rfl
  unfold State.ingestOne
  split
  next h => rw [h]; exact ⟨rfl, rfl⟩
  next b r h =>
    extract_lets u v
    have hv : v.transport.ingest = s.transport.ingest.tail ∧ v.hdr pgMem = s.hdr pgMem := by
      refine ⟨?_, State.admitWrite_hdr ..⟩
      rw [h]
      exact congrArg TransportSt.ingest (hadmit ..)
    split
    next w frame _ =>
      have hsame := v.windowDone_link_same w frame
      have htransport : (v.windowDone w frame).transport = v.transport := hsame .transport rfl
      exact ⟨(congrArg TransportSt.ingest htransport).trans hv.1, (hsame.hdr (ty := .mem) rfl rfl).trans hv.2⟩
    next => exact hv

theorem State.ingestSome_keeps {α : Type} (l : List α) (s : State) :
    (l.foldl (fun s _ => s.ingestOne) s).transport.ingest = s.transport.ingest.drop l.length ∧
    (l.foldl (fun s _ => s.ingestOne) s).hdr pgMem = s.hdr pgMem := by
  induction l generalizing s with
  | nil => exact ⟨rfl, rfl⟩
  | cons _ l ih =>
    obtain ⟨hone, hhdr⟩ := s.ingestOne_keeps
    obtain ⟨hrest, hrun⟩ := ih s.ingestOne
    refine ⟨?_, hrun.trans hhdr⟩
    rw [List.foldl_cons, hrest, hone, List.drop_tail, List.length_cons]

theorem State.drainIngest_ingest (s : State) : s.drainIngest.transport.ingest = [] :=
  (State.ingestSome_keeps s.transport.ingest s).1.trans List.drop_length

theorem State.drainIngest_hdr (s : State) : s.drainIngest.hdr pgMem = s.hdr pgMem := (State.ingestSome_keeps _ s).2

/-! ### A switch window (R339) -/

theorem exec_switchWindowOpen_on (h : s.boot.powered = true) : exec .switchWindowOpen s = .next s.switchWindow :=
  congrArg Host.Outcome.next (State.live_on h _)

/-- The next refresh is due one interval from now. -/
def State.refreshSet (s : State) : State := { s with mem := { s.mem with refreshDue := s.mono + s.refreshInterval } }

theorem State.refreshSet_fget (s : State) (p : Nat) (f : Fld) : s.refreshSet.fget p f = s.fget p f :=
  State.fget_of_pages rfl p f

/-- The INGEST buffer has been written out, no transfer is queued and no row is open; what else MEM holds beside its page, its
pending write-backs among it, is as it was before the buffer was written. -/
def State.grantsStopped (s : State) : State :=
  { s.drainIngest with mem := { s.mem with queues := [], rows := [], windowWait := 0 } }

/-- The switch has run: a set is in force. -/
def State.switched (s : State) (set : Nat) : State :=
  (((s.grantsStopped.fset pgMem MEM.STAT.SET set).refreshSet).evt pgMem 9).cmdDone pgMem

theorem State.switchWindow_open (hrun : (s.hdr pgMem).run = some ⟨0x10, arg, i⟩) (h : s.windowOpen = true) :
    s.switchWindow = s.switched (arg % 2) := by
  unfold State.switchWindow
  simp only [hrun, h, decide_true, Bool.and_self, if_true]
  rfl

theorem State.switchWindow_shut (hrun : (s.hdr pgMem).run = some ⟨0x10, arg, i⟩) (h : s.windowOpen = false) :
    s.switchWindow = s := by
  unfold State.switchWindow
  simp only [hrun, h, Bool.and_false, Bool.false_eq_true, if_false]

theorem State.switched_set (hset : set < 2) (s : State) : (s.switched set).fget pgMem MEM.STAT.SET = set := by
  unfold State.switched
  rw [State.cmdDone_fget, State.evt_fget, State.refreshSet_fget, State.fset_fget (by decide) hset]

theorem State.switched_done (hrun : (s.hdr pgMem).run = some ⟨0x10, arg, i⟩) (set : Nat) :
    (s.switched set).Done pgMem 0x10 i :=
  State.cmdDone_done (g := arg) _ _ (by rw [State.evt_hdr_run]; exact s.drainIngest_hdr ▸ hrun)

theorem State.switched_event (s : State) (set : Nat) : ((s.switched set).hdr pgMem).evt.getLsbD 9 = true :=
  State.cmdDone_keeps (State.evt_set _ _ _ (by decide))

theorem State.switched_mem (s : State) (set : Nat) :
    (s.switched set).mem.rows = [] ∧ (s.switched set).mem.queues = [] := by
  unfold State.switched
  rw [State.cmdDone_mem, State.evt_mem]
  exact ⟨rfl, rfl⟩

theorem State.switched_ingest (s : State) (set : Nat) : (s.switched set).transport.ingest = [] := by
  unfold State.switched
  rw [State.cmdDone_transport, State.evt_transport]
  exact s.drainIngest_ingest

/-! ### Training ends (R333, R340) -/

theorem exec_trainingDone_on (h : s.boot.powered = true) (failed step : BitVec 4) :
    exec (.trainingDone failed step) s = .next (s.trainingDone failed.toNat step.toNat).restore :=
  congrArg Host.Outcome.next (State.live_on h _)

/-- The bit that shows a set as trained. -/
def trainedFld (k : Nat) : Fld := if k = 0 then MEM.STAT.TRAINED_A else MEM.STAT.TRAINED_B

theorem State.trained_eq (s : State) (k : Nat) : s.trained k = s.fbit pgMem (trainedFld k) := by
  unfold State.trained trainedFld
  split <;> rfl

theorem State.setTrained_eq (s : State) (k : Nat) (b : Bool) : s.setTrained k b = s.fsetB pgMem (trainedFld k) b := by
  unfold State.setTrained trainedFld
  split <;> rfl

theorem State.setTrained_trained (s : State) (k : Nat) (b : Bool) : (s.setTrained k b).trained k = b := by
  rw [State.trained_eq, State.setTrained_eq]
  unfold trainedFld
  split <;> exact State.fsetB_fbit (by decide) rfl ..

theorem State.setTrained_fget (hA : MEM.STAT.TRAINED_A.Apart f) (hB : MEM.STAT.TRAINED_B.Apart f) (s : State) (k p : Nat)
    (b : Bool) : (s.setTrained k b).fget p f = s.fget p f := by
  unfold State.setTrained
  split
  · exact State.fsetB_fget_apart hA
  · exact State.fsetB_fget_apart hB

theorem State.trained_of_fget (h : ∀ g ∈ [MEM.STAT.TRAINED_A, MEM.STAT.TRAINED_B], t.fget pgMem g = s.fget pgMem g)
    (k : Nat) : t.trained k = s.trained k := by
  rw [State.trained_eq, State.trained_eq]
  unfold trainedFld
  split
  · exact State.fbit_of_fget (h _ (by decide))
  · exact State.fbit_of_fget (h _ (by decide))

/-- No set is in training. -/
def State.trainingOver (s : State) : State := { s with mem := { s.mem with training := none } }

/-- What MEM shows of the training of a set: the channels that failed, and the step. -/
def State.trainShown (s : State) (failed step : Nat) : State :=
  (s.fset pgMem MEM.STAT.TRAIN_FAIL_CH failed).fset pgMem MEM.STAT.TRAIN_FAIL_STEP step

/-- MEM serves again. -/
def State.memReady (s : State) : State := (s.fset pgMem MEM.STAT.STATE 2).refreshSet

/-- A set has passed the training that TRAIN_SET asked for. -/
def State.trainPassed (s : State) (k : Nat) : State :=
  (((s.trainingOver.setTrained k true).trainShown 0 0).memReady).cmdDone pgMem

/-- A set has failed it. -/
def State.trainFailed (s : State) (k failed step : Nat) : State :=
  ((((s.trainingOver.trainShown failed step).setTrained k false).evt pgMem 8).fset pgMem MEM.STAT.STATE 2).cmdFail pgMem 0x31

theorem State.trainingDone_idle (h : s.mem.training = none) : s.trainingDone failed step = s := by
  unfold State.trainingDone
  rw [h]

theorem State.trainingDone_eq (htrain : s.mem.training = some k) (hrun : s.running pgMem 0x11 = true) (hlt : failed < 16) :
    s.trainingDone failed step = if failed = 0 then s.trainPassed k else s.trainFailed k failed step := by
  have hover : s.trainingOver.running pgMem 0x11 = true := hrun
  unfold State.trainingDone
  rw [htrain, Nat.mod_eq_of_lt hlt]
  unfold State.trainingOver at hover
  simp only [hover, Bool.not_true, Bool.false_and, Bool.false_eq_true, if_false]
  rfl

theorem State.trainShown_fget (hc : MEM.STAT.TRAIN_FAIL_CH.Apart f) (hs : MEM.STAT.TRAIN_FAIL_STEP.Apart f) (s : State)
    (failed step p : Nat) : (s.trainShown failed step).fget p f = s.fget p f :=
  (State.fset_fget_apart hs).trans (State.fset_fget_apart hc)

theorem State.trainShown_channels (h : failed < 16) (s : State) (step : Nat) :
    (s.trainShown failed step).fget pgMem MEM.STAT.TRAIN_FAIL_CH = failed :=
  (State.fset_fget_apart (by decide)).trans (State.fset_fget (by decide) h)

theorem State.trainShown_step (s : State) (failed step : Nat) :
    (s.trainShown failed step).fget pgMem MEM.STAT.TRAIN_FAIL_STEP = step % 8 :=
  State.fget_fset_self _ _ _ _ (by decide)

theorem State.memReady_fget (h : MEM.STAT.STATE.Apart f) (s : State) (p : Nat) : s.memReady.fget p f = s.fget p f :=
  (State.refreshSet_fget ..).trans (State.fset_fget_apart h)

theorem State.memReady_state (s : State) : s.memReady.fget pgMem MEM.STAT.STATE = 2 :=
  (State.refreshSet_fget ..).trans (State.fset_fget (by decide) (by decide))

theorem State.trainPassed_fget (s : State) (k : Nat) (f : Fld) : (s.trainPassed k).fget pgMem f =
    ((s.trainingOver.setTrained k true).trainShown 0 0).memReady.fget pgMem f :=
  State.cmdDone_fget ..

theorem State.trainPassed_trained (s : State) (k : Nat) : (s.trainPassed k).trained k = true := by
  refine (State.trained_of_fget (s := s.trainingOver.setTrained k true) (fun g hg => ?_) k).trans
    (State.setTrained_trained ..)
  have hstate : MEM.STAT.STATE.Apart g := by revert g; decide
  have hshown : MEM.STAT.TRAIN_FAIL_CH.Apart g ∧ MEM.STAT.TRAIN_FAIL_STEP.Apart g := by revert g; decide
  rw [State.trainPassed_fget, State.memReady_fget hstate, State.trainShown_fget hshown.1 hshown.2]

theorem State.trainPassed_state (s : State) (k : Nat) : (s.trainPassed k).fget pgMem MEM.STAT.STATE = 2 :=
  (s.trainPassed_fget k _).trans (State.memReady_state _)

theorem State.trainPassed_channels (s : State) (k : Nat) : (s.trainPassed k).fget pgMem MEM.STAT.TRAIN_FAIL_CH = 0 := by
  rw [State.trainPassed_fget, State.memReady_fget (by decide), State.trainShown_channels (by decide)]

theorem State.trainPassed_training (s : State) (k : Nat) : (s.trainPassed k).mem.training = none := by
  unfold State.trainPassed
  rw [State.cmdDone_mem, State.setTrained_eq]
  rfl

theorem State.trainPassed_done (hrun : (s.hdr pgMem).run = some ⟨0x11, arg, i⟩) (k : Nat) :
    (s.trainPassed k).Done pgMem 0x11 i :=
  State.cmdDone_done (g := arg) _ _ (by rw [State.setTrained_eq]; exact hrun)

theorem State.trainFailed_fget (s : State) (k failed step : Nat) (h : MEM.STAT.STATE.Apart f) :
    (s.trainFailed k failed step).fget pgMem f =
      ((s.trainingOver.trainShown failed step).setTrained k false).fget pgMem f := by
  unfold State.trainFailed
  rw [State.cmdFail_fget, State.fset_fget_apart h, State.evt_fget]

theorem State.trainFailed_trained (s : State) (k failed step : Nat) : (s.trainFailed k failed step).trained k = false := by
  refine (State.trained_of_fget (fun g hg => s.trainFailed_fget k failed step ?_) k).trans (State.setTrained_trained ..)
  revert g
  decide

theorem State.trainFailed_state (s : State) (k failed step : Nat) :
    (s.trainFailed k failed step).fget pgMem MEM.STAT.STATE = 2 :=
  (State.cmdFail_fget ..).trans (State.fset_fget (by decide) (by decide))

theorem State.trainFailed_channels (h : failed < 16) (s : State) (k step : Nat) :
    (s.trainFailed k failed step).fget pgMem MEM.STAT.TRAIN_FAIL_CH = failed := by
  rw [State.trainFailed_fget _ _ _ _ (by decide), State.setTrained_fget (by decide) (by decide), State.trainShown_channels h]

theorem State.trainFailed_step (s : State) (k failed step : Nat) :
    (s.trainFailed k failed step).fget pgMem MEM.STAT.TRAIN_FAIL_STEP = step % 8 := by
  rw [State.trainFailed_fget _ _ _ _ (by decide), State.setTrained_fget (by decide) (by decide), State.trainShown_step]

theorem State.cmdFail_mem (s : State) (q reason : Nat) : (s.cmdFail q reason).mem = s.mem := by
  unfold State.cmdFail
  split
  · rfl
  · rw [State.cmdEnd_mem, State.setHdr_mem]

theorem State.trainFailed_training (s : State) (k failed step : Nat) :
    (s.trainFailed k failed step).mem.training = none := by
  unfold State.trainFailed
  rw [State.cmdFail_mem, State.fset_mem, State.evt_mem, State.setTrained_eq]
  rfl

theorem State.trainFailed_failed (hrun : (s.hdr pgMem).run = some ⟨0x11, arg, i⟩) (k failed step : Nat) :
    (s.trainFailed k failed step).Failed pgMem 0x11 i 0x31 :=
  State.cmdFail_failed (arg := arg) (by rw [State.fset_hdr, State.evt_hdr_run, State.setTrained_eq]; exact hrun)

/-- A flag that is set stays set when a command fails. -/
theorem State.cmdFail_keeps {q reason b : Nat} (h : (s.hdr p).evt.getLsbD b = true) :
    ((s.cmdFail q reason).hdr p).evt.getLsbD b = true := by
  unfold State.cmdFail
  split
  · exact h
  · refine State.evt_keeps _ _ _ _ _ ?_
    by_cases hp : p = q
    · subst hp
      simp only [State.setHdr_hdr_self]
      exact h
    · rw [State.setHdr_hdr_other _ _ _ _ hp, State.setHdr_hdr_other _ _ _ _ hp]
      exact h

theorem State.trainFailed_event (s : State) (k failed step : Nat) :
    ((s.trainFailed k failed step).hdr pgMem).evt.getLsbD 8 = true :=
  State.cmdFail_keeps (State.evt_set _ _ _ (by decide))

theorem State.trainOutcome_same (s : State) (k failed step : Nat) :
    State.SameBut [.mem, .out, .page .mem] s (s.trainPassed k) ∧
    State.SameBut [.mem, .out, .page .mem] s (s.trainFailed k failed step) := by
  have hover : State.SameBut [.mem, .out, .page .mem] s s.trainingOver :=
    State.SameOutside.set_mem (State.SameOutside.refl _ s) rfl
  have hset {u : State} (h : State.SameBut [.mem, .out, .page .mem] s u) (f : Fld) (v : Nat) :
      State.SameBut [.mem, .out, .page .mem] s (u.fset pgMem f v) := State.fset_same h rfl (pageMask_mem rfl)
  exact ⟨State.cmdDone_same (State.SameOutside.set_mem (hset (hset (hset (State.setTrained_same hover rfl) _ _) _ _) _ _) rfl)
    rfl (pageMask_mem rfl),
    State.cmdFail_same (hset (State.evt_same (State.setTrained_same (hset (hset hover _ _) _ _) rfl) rfl
      (pageMask_mem rfl)) _ _) rfl (pageMask_mem rfl)⟩

/-! ### The statement -/

/-- Settles O42: a refresh comes to `stalled`, an idle row to `rowClosed`, a window to `switched`, and the end of a training
to `trainPassed` or `trainFailed`. -/
theorem refreshAndSetsProceed : Obligations.RefreshAndSetsProceed := by
  unfold Obligations.RefreshAndSetsProceed
  refine fun s => ⟨fun mr4 hon hready => ?_, fun mr4 hon hidle => ?_, fun bank row hon hrow => ?_, fun bank hon hrow => ?_,
    fun m set h => ?_, fun set i hon hrun => ⟨fun hopen => ?_, fun hshut => ?_⟩, fun m set h => ?_,
    fun k failed step i hon htrain hrun => ?_, fun failed step hon htrain => ?_⟩
  case refine_1 =>
    obtain ⟨dqs, heq⟩ := State.refresh_ready hready mr4
    obtain ⟨hrows, hmr4, hend, hdue⟩ := (s.stallCounted.mr4Taken mr4).stalled_mem
      (s.fget pgMem MEM.REFRESH_T.RPAB_NS + s.fget pgMem MEM.REFRESH_T.RFC_NS) dqs
    have hmono : (s.stallCounted.mr4Taken mr4).mono = max s.mono s.mem.refreshDue :=
      (State.mr4Taken_mono ..).trans s.stallCounted_mono
    refine ⟨s.refresh mr4, exec_refreshDue_on hon mr4, ?_, ?_, ?_, ?_, ?_, ?_, fun h => ?_, fun h => ?_,
      State.refresh_same (State.SameOutside.refl _ s) rfl⟩
    all_goals rw [heq]
    · exact hmono
    · exact hrows
    · rw [hmr4, State.mr4Taken_due]
    · rw [hend, Nat.add_assoc]
      rfl
    · rw [hdue, State.stalled_interval]
      rfl
    · rw [State.stalled_fget, State.mr4Taken_arb, State.stallCounted_count]
    · have htaken : s.stallCounted.mr4Taken mr4 = s.stallCounted.mr4 mr4 := if_pos (s.stallCounted_mr4Due.trans h)
      rw [htaken, State.fbit_of_fget (State.stalled_fget ..), State.fbit_of_fget (State.stalled_fget ..), State.stalled_fget,
        State.mr4_valid, State.mr4_fail, State.mr4_derate]
      exact ⟨rfl, rfl, by cases mr4 <;> rfl⟩
    · have htaken : s.stallCounted.mr4Taken mr4 = s.stallCounted :=
        if_neg (Bool.eq_false_iff.mp (s.stallCounted_mr4Due.trans h))
      rw [htaken, State.stalled_fget, State.stallCounted_fget (by decide)]
  case refine_2 => rw [exec_refreshDue_on hon, State.refresh_idle hidle]
  case refine_3 =>
    refine ⟨s.rowIdle bank, exec_rowIdleTimeout_on hon bank, ?_, fun k => ?_,
      State.rowIdle_same (State.SameOutside.refl _ s) rfl⟩
    · rw [State.rowIdle_open hrow]
      exact State.advanceTo_mono ..
    · rw [State.rowIdle_open hrow, State.rowClosed_rows, State.advanceTo_mem]
  case refine_4 => rw [exec_rowIdleTimeout_on hon, State.rowIdle_closed hrow]
  case refine_5 =>
    refine ⟨s.setSwitchAsked m.id set, ?_, s.setSwitchAsked_runs m.id set, State.emit_answers _ _,
      s.setSwitchAsked_mem m.id set, s.setSwitchAsked_same m.id set⟩
    rw [exec_switchSet_on (State.accepts_powered h), State.switchSet_command set h]
  case refine_6 =>
    obtain ⟨hrows, hqueues⟩ := s.switched_mem set
    have heq : s.switchWindow = s.switched set := by rw [State.switchWindow_open hrun hopen, (set_fits set).2]
    refine ⟨s.switched set, ?_, State.switched_done hrun set, State.switched_set set.isLt s, s.switched_ingest set, hrows,
      hqueues, s.switched_event set, ?_⟩
    · rw [exec_switchWindowOpen_on hon, heq]
    · rw [← heq]
      exact State.switchWindow_same (State.SameOutside.refl _ s) rfl
  case refine_7 => rw [exec_switchWindowOpen_on hon, State.switchWindow_shut hrun hshut]
  case refine_8 =>
    refine ⟨s.trainAsked m.id set, ?_, s.trainAsked_runs m.id set, State.emit_answers _ _, s.trainAsked_mem m.id set,
      s.trainAsked_state m.id set, s.trainAsked_same m.id set⟩
    rw [exec_trainSet_on (State.accepts_powered h), State.trainSet_command set h]
  case refine_9 =>
    obtain ⟨hpassed, hfailed⟩ := s.trainOutcome_same k failed.toNat step.toNat
    have heq := State.trainingDone_eq (step := step.toNat) htrain (State.running_of_run_self hrun) failed.isLt
    by_cases hzero : failed = 0
    · subst hzero
      refine ⟨s.trainPassed k, ?_, s.trainPassed_trained k, s.trainPassed_training k, s.trainPassed_state k,
        s.trainPassed_channels k, fun _ => State.trainPassed_done hrun k, fun h => absurd rfl h, hpassed⟩
      rw [exec_trainingDone_on hon, heq]
      rfl
    · have hnat : failed.toNat ≠ 0 := fun h => hzero (BitVec.eq_of_toNat_eq h)
      refine ⟨s.trainFailed k failed.toNat step.toNat, ?_, ?_, State.trainFailed_training .., State.trainFailed_state ..,
        State.trainFailed_channels failed.isLt .., fun h => absurd h hzero,
        fun _ => ⟨State.trainFailed_failed hrun .., State.trainFailed_step .., State.trainFailed_event ..⟩, hfailed⟩
      · rw [exec_trainingDone_on hon, heq, if_neg hnat]
      · rw [State.trainFailed_trained, beq_eq_false_iff_ne.mpr hzero]
  case refine_10 => rw [exec_trainingDone_on hon, State.trainingDone_idle htrain]

end Sys2Proof.Machine
end

section
/-! PROOFS. The scrubber: the ordered pass restarted and carried on, the repair queue, and the patrol of the protected SRAMs
(R341 to R345, R364). -/

namespace Sys2Proof.Machine

variable {s t u : State} {g m r src a y b : Nat} {ok : Bool} {l : List (Nat × Nat)} {f : Fld}

/-! ### SCRUB_NOW (R341) -/

theorem exec_scrubNow_on (h : s.boot.powered = true) (m : Master) :
    exec (.scrubNow m) s = .next (s.command m.id pgMem 0x12 0) :=
  congrArg Host.Outcome.next (State.live_on h _)

/-- SCRUB_NOW as far as its answer. -/
def State.passRestarted (s : State) (m : Nat) : State :=
  (((s.cmdStart pgMem 0x12 0 m).fset pgMem MEM.SCRUB_STAT.POS 0).cmdDone pgMem).emit (.access m 0 0)

theorem State.scrubNow_command (h : s.accepts m pgMem 0x12 0 = true) : s.command m pgMem 0x12 0 = s.passRestarted m := by
  rw [State.memCommand_eq h (by decide) (by decide) (by decide)]
  rfl

theorem State.passRestarted_done (s : State) (m : Nat) :
    (s.passRestarted m).Done pgMem 0x12 m ∧ (s.passRestarted m).Answers (.access m 0 0) :=
  State.ended_done (arg := 0) (State.cmdStart_run ..)

theorem State.passRestarted_pos (s : State) (m : Nat) : (s.passRestarted m).fget pgMem MEM.SCRUB_STAT.POS = 0 :=
  State.ended_fget.trans (State.fset_fget (by decide) (by decide))

theorem State.passRestarted_same (s : State) (m : Nat) : State.SameBut [.out, .page .mem] s (s.passRestarted m) :=
  State.emit_same (State.cmdDone_same (State.fset_same ((s.memStarted_same 0x12 0 m).mono rfl) rfl (pageMask_mem rfl)) rfl
    (pageMask_mem rfl)) rfl

/-! ### A visit of the ordered pass (R341) -/

theorem exec_scrubVisit_on (h : s.boot.powered = true) (l : List (Nat × Nat)) :
    exec (.scrubVisit l) s = .next (s.scrubVisit l) :=
  congrArg Host.Outcome.next (State.live_on h _)

theorem State.flips_dram_same (s : State) (l : List (Nat × Nat)) : State.SameBut [.dram] s (s.flips l) :=
  State.flips_same (State.SameOutside.refl _ s) rfl

/-- The pass moves on from a row group; the last one ends it. -/
def State.passMoved (s : State) (g : Nat) : State :=
  if g + 1 = 2097152 then ((s.fset pgMem MEM.SCRUB_STAT.POS (g + 1)).finc pgMem MEM.SCRUB_CNT.PASSES).evt pgMem 11
  else s.fset pgMem MEM.SCRUB_STAT.POS (g + 1)

theorem State.scrubVisit_on (hen : s.fbit pgMem MEM.CTL.SCRUB_EN = true) (hready : s.fget pgMem MEM.STAT.STATE = 2)
    (hg : g = s.fget pgMem MEM.SCRUB_STAT.POS) : s.scrubVisit l = ((s.flips l).scrubGroup g).passMoved g := by
  have hpos : (s.flips l).fget pgMem MEM.SCRUB_STAT.POS = g := ((s.flips_dram_same l).fget (ty := .mem) rfl rfl).trans hg.symm
  unfold State.scrubVisit
  simp only [hen, hready, hpos, Bool.not_true, Bool.false_or, ne_eq, not_true_eq_false, decide_false, Bool.false_eq_true,
    if_false]
  rfl

theorem State.scrubVisit_off (h : s.fbit pgMem MEM.CTL.SCRUB_EN = false ∨ s.fget pgMem MEM.STAT.STATE ≠ 2) :
    s.scrubVisit l = s := by
  unfold State.scrubVisit
  rw [if_pos]
  rcases h with h | h
  · rw [h, Bool.not_false, Bool.true_or]
  · rw [decide_eq_true h, Bool.or_true]

theorem State.passMoved_pos (s : State) (g : Nat) :
    (s.passMoved g).fget pgMem MEM.SCRUB_STAT.POS = (g + 1) % 2097152 := by
  unfold State.passMoved
  split
  · rw [State.evt_fget, State.finc_fget_apart (by decide)]
    exact State.fget_fset_self _ _ _ _ (by decide)
  · exact State.fget_fset_self _ _ _ _ (by decide)

/-- The end of a pass counts and raises its event. -/
theorem State.passMoved_last (s : State) : ((s.passMoved 2097151).hdr pgMem).evt.getLsbD 11 = true ∧
    (s.passMoved 2097151).fget pgMem MEM.SCRUB_CNT.PASSES = min (s.fget pgMem MEM.SCRUB_CNT.PASSES + 1) 65535 := by
  unfold State.passMoved
  rw [if_pos rfl]
  refine ⟨State.evt_set _ _ _ (by decide), ?_⟩
  rw [State.evt_fget, State.finc_fget (by decide), State.fset_fget_apart (by decide)]
  rfl

theorem State.passMoved_same (s : State) (g : Nat) : State.SameBut [.out, .page .mem] s (s.passMoved g) := by
  have hmoved : State.SameBut [.out, .page .mem] s (s.fset pgMem MEM.SCRUB_STAT.POS (g + 1)) :=
    State.fset_same (State.SameOutside.refl _ s) rfl (pageMask_mem rfl)
  exact State.SameOutside.ite (State.evt_same (State.finc_same hmoved rfl (pageMask_mem rfl)) rfl (pageMask_mem rfl)) hmoved

/-! ### A repair visit (R344) -/

theorem exec_scrubRepairVisit_on (h : s.boot.powered = true) (l : List (Nat × Nat)) :
    exec (.scrubRepairVisit l) s = .next (s.scrubRepair l) :=
  congrArg Host.Outcome.next (State.live_on h _)

/-- The oldest entry has left the repair queue, and the flips that its row group has suffered stand in DRAM. -/
def State.repairTaken (s : State) (l : List (Nat × Nat)) (rest : List Nat) : State :=
  ({ s.flips l with mem := { s.mem with repair := rest } } : State).fset pgMem MEM.SCRUB_STAT.REPAIR rest.length

theorem State.scrubRepair_some {rest : List Nat} (h : s.mem.repair = g :: rest) (hready : s.fget pgMem MEM.STAT.STATE = 2) :
    s.scrubRepair l = (s.repairTaken l rest).scrubGroup g := by
  unfold State.scrubRepair
  rw [h]
  exact if_neg (not_not_intro hready)

theorem State.scrubRepair_idle (h : s.mem.repair = [] ∨ s.fget pgMem MEM.STAT.STATE ≠ 2) : s.scrubRepair l = s := by
  unfold State.scrubRepair
  split
  next => rfl
  next g rest hsome => exact if_pos (h.resolve_left fun hnil => List.cons_ne_nil g rest (hsome.symm.trans hnil))

theorem State.repairTaken_count (s : State) (l : List (Nat × Nat)) (rest : List Nat) :
    (s.repairTaken l rest).fget pgMem MEM.SCRUB_STAT.REPAIR = rest.length % 128 :=
  State.fget_fset_self _ _ _ _ (by decide)

theorem State.repairTaken_same (s : State) (l : List (Nat × Nat)) (rest : List Nat) :
    State.SameBut [.dram, .mem, .page .mem] s (s.repairTaken l rest) :=
  State.fset_same (State.SameOutside.set_mem ((s.flips_dram_same l).mono rfl) rfl) rfl (pageMask_mem rfl)

/-! ### The patrol of the protected SRAMs (R345, R364) -/

theorem exec_sramPatrol_on (h : s.boot.powered = true) (l : List (Nat × Nat × Nat × Bool)) :
    exec (.sramPatrol l) s = .next (s.sramPatrol l) :=
  congrArg Host.Outcome.next (State.live_on h _)

/-- A source is a reel, whose words lie in the queue SRAM. -/
def reelSource (src : Nat) : Bool :=
  match pageOf src with
  | some (.reel, _) => true
  | _ => false

theorem reelSource_eq (src : Nat) : reelSource src = decide ((pageOf src).map Prod.fst = some .reel) := by
  unfold reelSource
  rcases pageOf src with _ | ⟨ty, i⟩
  · rfl
  · cases ty <;> rfl

/-- A block of the queue SRAM that could not be corrected is poisoned. -/
def State.upsetPoisoned (s : State) (src a : Nat) (ok : Bool) : State :=
  if !ok && reelSource src then
    { s with sram := { s.sram with poison := (a / 8) :: s.sram.poison.filter (· ≠ a / 8) } }
  else s

/-- The report of an upset block. -/
def upsetErr (src a y : Nat) (ok : Bool) : ErrRec :=
  { src := src, cls := if ok then 0 else 1, typ := 1, space := 3, addr := a, master := 0x18, synd := y,
    kind := if ok then 1 else 2 }

theorem State.sramPatrol_cons (s : State) (src a y : Nat) (ok : Bool) (l : List (Nat × Nat × Nat × Bool)) :
    s.sramPatrol ((src, a, y, ok) :: l) = ((s.upsetPoisoned src a ok).report (upsetErr src a y ok)).sramPatrol l := rfl

theorem State.upsetPoisoned_words (s : State) (src a : Nat) (ok : Bool) :
    (s.upsetPoisoned src a ok).sram.words = s.sram.words := by
  unfold State.upsetPoisoned
  split <;> rfl

theorem contains_cons_filter_ne (l : List Nat) (k b : Nat) :
    (k :: l.filter (· ≠ k)).contains b = (l.contains b || b == k) := by
  rw [List.contains_cons]
  by_cases h : b = k
  · rw [beq_iff_eq.mpr h, Bool.true_or, Bool.or_true]
  · rw [beq_eq_false_iff_ne.mpr h, Bool.false_or, Bool.or_false, Bool.eq_iff_iff, List.contains_iff_mem,
      List.contains_iff_mem, List.mem_filter]
    exact ⟨fun hmem => hmem.1, fun hmem => ⟨hmem, decide_eq_true h⟩⟩

theorem State.upsetPoisoned_poison (s : State) (src a b : Nat) (ok : Bool) :
    (s.upsetPoisoned src a ok).sram.poison.contains b =
      (s.sram.poison.contains b || (b == a / 8 && !ok && reelSource src)) := by
  unfold State.upsetPoisoned
  rw [Bool.and_assoc]
  split
  next h => rw [h, Bool.and_true]; exact contains_cons_filter_ne ..
  next h => rw [Bool.eq_false_of_not_eq_true h, Bool.and_false, Bool.or_false]

theorem State.upsetPoisoned_same (s : State) (src a : Nat) (ok : Bool) :
    State.SameBut [.sram] s (s.upsetPoisoned src a ok) :=
  State.SameOutside.ite (State.SameOutside.set_sram (State.SameOutside.refl _ s) rfl) (State.SameOutside.refl _ s)

theorem State.report_boot (s : State) (e : ErrRec) : (s.report e).boot = s.boot :=
  State.report_same (m := 73786975197527456740) (State.SameOutside.refl _ s) rfl .boot rfl

/-! ### The statement -/

/-- Settles O43: SCRUB_NOW comes to `passRestarted`, a visit moves the pass on by `passMoved`, a repair visit reads what
`repairTaken` has taken from its queue, and a patrol meets its upset blocks one by one. -/
theorem scrubbingGoesOn : Obligations.ScrubbingGoesOn := by
  unfold Obligations.ScrubbingGoesOn
  refine fun s => ⟨fun m h => ?_, fun l hon => ⟨fun hen hready => ?_, fun hoff => ?_, fun g rest hrepair hready => ?_,
    fun hidle => ?_⟩, fun hon => ?_, fun src a y ok l hon => ?_⟩
  case refine_1 =>
    obtain ⟨hdone, hanswers⟩ := s.passRestarted_done m.id
    refine ⟨s.passRestarted m.id, ?_, hdone, hanswers, s.passRestarted_pos m.id, s.passRestarted_same m.id⟩
    rw [exec_scrubNow_on (State.accepts_powered h), State.scrubNow_command h]
  case refine_2 =>
    refine ⟨_, _, rfl, ?_, State.passMoved_pos .., fun hlast => ?_, State.passMoved_same _ _⟩
    · rw [exec_scrubVisit_on hon, State.scrubVisit_on hen hready rfl]
    · rw [hlast]
      exact State.passMoved_last _
  case refine_3 => rw [exec_scrubVisit_on hon, State.scrubVisit_off hoff]
  case refine_4 =>
    refine ⟨s.repairTaken l rest, ?_, rfl, rfl, s.repairTaken_count l rest, s.repairTaken_same l rest⟩
    rw [exec_scrubRepairVisit_on hon, State.scrubRepair_some hrepair hready]
  case refine_5 => rw [exec_scrubRepairVisit_on hon, State.scrubRepair_idle hidle]
  case refine_6 =>
    rw [exec_sramPatrol_on hon]
    rfl
  case refine_7 =>
    have hboot : ((s.upsetPoisoned src a ok).report (upsetErr src a y ok)).boot = s.boot :=
      (State.report_boot ..).trans (s.upsetPoisoned_same src a ok .boot rfl)
    refine ⟨s.upsetPoisoned src a ok, _, ?_, rfl, s.upsetPoisoned_words src a ok, fun b => ?_, s.upsetPoisoned_same src a ok⟩
    · rw [exec_sramPatrol_on hon, State.sramPatrol_cons]
      exact (exec_sramPatrol_on (by rw [hboot]; exact hon) l).symm
    · rw [State.upsetPoisoned_poison, reelSource_eq]

end Sys2Proof.Machine
end

section
/-! PROOFS. Registers of a page, and writes of those that keep nothing of what is written (R34). -/

namespace Sys2Proof.Machine

variable {s : State} {p q off a v b n m i : Nat} {r : Reg} {g : Fld} {ty : PageType}

/-! ### Registers of one page -/

/-- The register at an offset of a page is the one that the table of its kind lists there. -/
theorem regOf_addrOf (hp : pageOf p = some (ty, i)) (hty : ty ≠ .link) :
    regOf (addrOf p off) = regAt ty.regs (off % 0x1000) := by
  unfold regOf
  rw [addrOf_page, addrOf_off, hp]
  simp only [hty, decide_false, Bool.false_and, Bool.false_eq_true, if_false]

theorem hookStores_other (hgrd : p ≠ pgGrd) (hfw : p ≠ pgFw) (hovl : p ≠ pgOvl) (hmatte : p ≠ pgMatte) :
    hookStores p off = false := by
  unfold hookStores
  simp only [hgrd, hfw, hovl, hmatte, decide_false, Bool.false_and, Bool.or_self]

/-! ### Write-only registers -/

/-- A register whose writable bits are all write-only. -/
abbrev Reg.WriteOnly (r : Reg) : Prop := r.rw = 0 ∧ r.rws = 0 ∧ r.w1c = 0

/-- Every word reads as before once a write-only register has been written; only the installation key is kept. -/
theorem State.storeBlock_writeOnly_word (hr : r.WriteOnly) (ha : a / 0x1000 ≠ pgLink 0) :
    (s.storeBlock a v r).word b = s.word b := by
  obtain ⟨hrw, hrws, hw1c⟩ := hr
  have hkey : (List.range 4).any (fun i => a = addrOf (pgLink 0) (LINK.AUTH_KEY.KEY i).off) = false := by
    refine List.any_eq_false.mpr fun i _ => ?_
    rw [decide_eq_true_eq]
    exact fun e => ha (by rw [e, addrOf_page])
  have hfull (w : Word) : BitVec.ofNat 32 (w.toNat &&& 0xFFFFFFFF) = w := by
    rw [show (0xFFFFFFFF : Nat) = 2 ^ 32 - 1 from rfl, Nat.and_two_pow_sub_one_eq_mod, Nat.mod_eq_of_lt w.isLt,
      BitVec.ofNat_toNat, BitVec.setWidth_eq]
  by_cases hb : b = a
  · subst hb
    unfold State.storeBlock
    simp only [hkey, hrw, hrws, hw1c, Bool.false_eq_true, if_false, if_true, Nat.zero_and, Nat.and_zero,
      Nat.xor_zero, Nat.or_zero, Nat.and_assoc, Nat.and_self, State.setWord_word_self, hfull]
  · exact State.storeBlock_word_other hb

/-- A write of a write-only register stores nothing. -/
theorem State.storeBlock_writeOnly_same (hr : r.WriteOnly) (ha : a / 0x1000 ≠ pgLink 0) :
    State.SameOutside n s (s.storeBlock a v r) := by
  intro part hpart
  cases part with
  | page ty =>
    intro p _
    refine ⟨State.storeBlock_hdr_direct hr.2.1, fun off => ⟨State.storeBlock_writeOnly_word hr ha,
      State.storeBlock_shadow_direct hr.2.1, ?_, ?_⟩⟩ <;>
    · unfold State.storeBlock
      simp only [hr.2.1, if_true]
      rfl
  | _ =>
    unfold State.storeBlock
    simp only [hr.2.1, if_true]
    rfl

theorem State.ended_fbit {x : Out} : ((s.cmdDone q).emit x).fbit p g = s.fbit p g :=
  congrArg (fun x => decide (x = 1)) State.ended_fget

/-- A write of a write-only register of a block without stores of its own is its hook alone. -/
theorem State.writeReg_writeOnly {ty : PageType} {i j : Nat} {r : Reg} (h : s.writes m p off v = true) (hlo : 0x040 ≤ off)
    (hhi : off < 0x1000) (hp : pageOf p = some (ty, i)) (hty : ty ≠ .link) (hreg : regAt ty.regs (off % 0x1000) = some (r, j))
    (hr : r.WriteOnly) (hwo : r.wo ≠ 0) (hro : r.ro ||| r.rc = 0) (hv : v < 2 ^ 32) (hstore : hookStores p off = false) :
    s.writeReg m p off v = ((s.storeBlock (addrOf p off) v r).blockHook m p off v).emit (.access m 0 0) := by
  rw [State.writeBlock_ok h hlo hhi ((regOf_addrOf hp hty).trans hreg) hv (.inl hr.2.1)
    (by rw [hr.1, hr.2.1, hr.2.2]; simpa using hwo) (by rw [hro, Nat.and_zero]), hstore]
  rfl

end Sys2Proof.Machine
end

section
/-! PROOFS. The check-value channels: data fed in, values posted and compared, channels restarted (R377, R378). -/

namespace Sys2Proof.Machine

variable {s : State} {p off m v c : Nat} {r : Reg} {g : Fld}

/-! ### Data (R377) -/

theorem State.setChk_chk_self {x : ChkSt} : (s.setChk c x).chk c = x := SMap.read_write_self ..

@[simp] theorem State.setChk_fget (s : State) (c : Nat) (x : ChkSt) : (s.setChk c x).fget p g = s.fget p g :=
  State.fget_of_pages rfl p g

@[simp] theorem State.setChk_hdr (s : State) (c : Nat) (x : ChkSt) : (s.setChk c x).hdr p = s.hdr p := rfl

theorem State.chk_of_chks {t : State} (h : t.chks = s.chks) (c : Nat) : t.chk c = s.chk c := by
  unfold State.chk
  rw [h]

theorem pageOf_chk_fin (c : Fin 8) : pageOf (pgChk c) = some (.chk, c.val) := by
  rw [pageOf_chk, Nat.mod_eq_of_lt c.isLt]

theorem pageOf_chk_type (c : Nat) : (pageOf (pgChk c)).map Prod.fst = some .chk := by rw [pageOf_chk]; rfl

theorem pgChk_ne_pgLink (c : Nat) : pgChk c ≠ pgLink 0 := by
  unfold pgChk pgLink
  omega

theorem pgChk_ne_pgReel (c q : Nat) : pgChk c ≠ pgReel q := by
  unfold pgChk pgReel
  omega

theorem exec_chkDataByte_on (h : s.boot.powered = true) (m : Master) (c : Fin 8) (data : BitVec 8) :
    exec (.chkDataByte m c data) s = .next (s.writeReg m.id (pgChk c) CHK.DATA_B.BYTE.off data.toNat) :=
  congrArg Host.Outcome.next (State.live_on h _)

theorem exec_chkDataHalf_on (h : s.boot.powered = true) (m : Master) (c : Fin 8) (data : BitVec 16) :
    exec (.chkDataHalf m c data) s = .next (s.writeReg m.id (pgChk c) CHK.DATA_H.HALF.off data.toNat) :=
  congrArg Host.Outcome.next (State.live_on h _)

theorem exec_chkDataWord_on (h : s.boot.powered = true) (m : Master) (c : Fin 8) (data : BitVec 32) :
    exec (.chkDataWord m c data) s = .next (s.writeReg m.id (pgChk c) CHK.DATA_W.WORD.off data.toNat) :=
  congrArg Host.Outcome.next (State.live_on h _)

theorem hookStores_chk (c : Nat) : hookStores (pgChk c) off = false :=
  hookStores_other (by unfold pgChk pgGrd; omega) (by unfold pgChk pgFw; omega) (by unfold pgChk pgOvl; omega)
    (by unfold pgChk pgMatte; omega)

theorem State.chkFeed_crc (s : State) (c : Nat) (bytes : List Nat) :
    ((s.chkFeed c bytes).chk c).crc = crcBytes (s.chk c).crc bytes := by
  unfold State.chkFeed
  rw [State.chk_of_chks (State.fadd_chks ..), State.setChk_chk_self]

theorem State.chkFeed_bytes (s : State) (c : Nat) (bytes : List Nat) : (s.chkFeed c bytes).fget (pgChk c) CHK.STAT.BYTES =
    min (s.fget (pgChk c) CHK.STAT.BYTES + bytes.length) 65535 := by
  unfold State.chkFeed
  rw [State.fadd_fget (by decide), State.setChk_fget]
  rfl

/-- The bytes of a write have been fed to a channel and counted, and the write has been answered. -/
def State.Fed (m c : Nat) (bytes : List Nat) (s t : State) : Prop :=
  t.Answers (.access m 0 0) ∧ (t.chk c).crc = crcBytes (s.chk c).crc bytes ∧
  t.fget (pgChk c) CHK.STAT.BYTES = min (s.fget (pgChk c) CHK.STAT.BYTES + bytes.length) 65535 ∧
  State.SameBut [.chks, .out, .page .chk] s t

/-- A write of a data register feeds its bytes. -/
theorem State.writeData_fed (c : Fin 8) {bytes : List Nat} (h : s.writes m (pgChk c) off v = true) (hlo : 0x040 ≤ off)
    (hhi : off < 0x1000) (hreg : regAt CHK.regs (off % 0x1000) = some (r, 0)) (hr : r.WriteOnly) (hwo : r.wo ≠ 0)
    (hro : r.ro ||| r.rc = 0) (hv : v < 2 ^ 32)
    (hhook : ∀ u : State, u.blockHook m (pgChk c) off v = u.chkFeed c bytes) :
    State.Fed m c bytes s (s.writeReg m (pgChk c) off v) := by
  have hkept : State.SameOutside (partsMask []) s (s.storeBlock (addrOf (pgChk c) off) v r) :=
    State.storeBlock_writeOnly_same hr (by rw [addrOf_page]; exact pgChk_ne_pgLink c)
  have heq : s.writeReg m (pgChk c) off v =
      ((s.storeBlock (addrOf (pgChk c) off) v r).chkFeed c bytes).emit (.access m 0 0) := by
    rw [State.writeReg_writeOnly h hlo hhi (pageOf_chk_fin c) (by decide) hreg hr hwo hro hv (hookStores_chk ..), hhook]
  rw [heq]
  refine ⟨State.emit_answers _ _, ?_, ?_, State.emit_same (State.chkFeed_same (hkept.mono rfl) rfl) rfl⟩
  · rw [State.chk_of_chks (State.emit_chks ..), State.chkFeed_crc, State.chk_of_chks (hkept .chks rfl)]
  · rw [State.emit_fget, State.chkFeed_bytes, hkept.fget (pageOf_chk_type c) rfl]

/-! ### SEAL and RESTART (R378) -/

theorem exec_chkSeal_on (h : s.boot.powered = true) (m : Master) (c : Fin 8) :
    exec (.chkSeal m c) s = .next (s.command m.id (pgChk c) 0x10 0) :=
  congrArg Host.Outcome.next (State.live_on h _)

theorem exec_chkRestart_on (h : s.boot.powered = true) (m : Master) (c : Fin 8) :
    exec (.chkRestart m c) s = .next (s.command m.id (pgChk c) 0x11 0) :=
  congrArg Host.Outcome.next (State.live_on h _)

/-- A command of a channel that its page takes runs and ends. -/
theorem State.chkCommand_eq {op : Nat} (c : Fin 8) (h : s.accepts m (pgChk c) op 0 = true) (hop : 0x10 ≤ op) (ho : op < 256) :
    s.command m (pgChk c) op 0 = ((if op = 0x10 then (s.cmdStart (pgChk c) op 0 m).chkSeal c
      else (s.cmdStart (pgChk c) op 0 m).chkRestart c).cmdDone (pgChk c)).emit (.access m 0 0) := by
  rw [State.command_eq h ho (by decide) (.inr fun q _ => pgChk_ne_pgReel c q)]
  unfold State.cmdRun
  rw [if_neg (by omega), if_neg (by omega), if_neg (by omega), pageOf_chk_fin]

/-- The values of a seal are posted: what was fed, the same with ALIVE, and the ALIVE used. -/
def State.sealPosted (s : State) (c raw result : Nat) : State :=
  ((s.fset (pgChk c) CHK.RAW.CRC raw).fset (pgChk c) CHK.RESULT.CRC result).fset (pgChk c) CHK.STAT.ALIVE_USED
    (s.fget (pgChk c) CHK.ALIVE.COUNT)

/-- Where CHECK_EN says so, the value is compared with EXPECT. -/
def State.sealCompared (s : State) (c result : Nat) : State :=
  if s.fbit (pgChk c) CHK.CTL.CHECK_EN then
    if result = s.fget (pgChk c) CHK.EXPECT.CRC then s.fset (pgChk c) CHK.STAT.MATCH 1
    else ((s.fset (pgChk c) CHK.STAT.MATCH 0).finc (pgChk c) CHK.SEALS.MISMATCH).evt (pgChk c) 9
  else s

/-- ALIVE moves on, the channel starts again from SEED, and the seal is counted. -/
def State.sealEnded (s : State) (c alive : Nat) : State :=
  ((((s.fset (pgChk c) CHK.ALIVE.COUNT (alive + 1)).setChk c { crc := s.fget (pgChk c) CHK.SEED.SEED }).fset (pgChk c)
    CHK.STAT.BYTES 0).finc (pgChk c) CHK.SEALS.SEALS).evt (pgChk c) 8

theorem State.chkSeal_eq (s : State) (c : Nat) {result : Nat}
    (hresult : result = crcByte (s.chk c).crc (s.fget (pgChk c) CHK.ALIVE.COUNT) ^^^ 0xFFFFFFFF) : s.chkSeal c =
    ((s.sealPosted c ((s.chk c).crc ^^^ 0xFFFFFFFF) result).sealCompared c result).sealEnded c
      (s.fget (pgChk c) CHK.ALIVE.COUNT) := by
  subst hresult
  rfl

theorem State.sealPosted_fget_apart {raw result : Nat} (hraw : CHK.RAW.CRC.Apart g) (hres : CHK.RESULT.CRC.Apart g)
    (hused : CHK.STAT.ALIVE_USED.Apart g) : (s.sealPosted c raw result).fget p g = s.fget p g :=
  (State.fset_fget_apart hused).trans ((State.fset_fget_apart hres).trans (State.fset_fget_apart hraw))

theorem State.sealCompared_fget_apart {result : Nat} (hmatch : CHK.STAT.MATCH.Apart g) (hmis : CHK.SEALS.MISMATCH.Apart g) :
    (s.sealCompared c result).fget p g = s.fget p g := by
  unfold State.sealCompared
  split
  · split
    · exact State.fset_fget_apart hmatch
    · rw [State.evt_fget, State.finc_fget_apart hmis, State.fset_fget_apart hmatch]
  · rfl

theorem State.sealEnded_fget_apart {alive : Nat} (hal : CHK.ALIVE.COUNT.Apart g) (hby : CHK.STAT.BYTES.Apart g)
    (hse : CHK.SEALS.SEALS.Apart g) : (s.sealEnded c alive).fget p g = s.fget p g := by
  unfold State.sealEnded
  rw [State.evt_fget, State.finc_fget_apart hse, State.fset_fget_apart hby, State.setChk_fget, State.fset_fget_apart hal]

/-- The comparison shows in MATCH; a mismatch counts and raises its event. -/
theorem State.sealCompared_match {result : Nat} (hen : s.fbit (pgChk c) CHK.CTL.CHECK_EN = true) :
    (s.sealCompared c result).fbit (pgChk c) CHK.STAT.MATCH = (result == s.fget (pgChk c) CHK.EXPECT.CRC) ∧
    (result ≠ s.fget (pgChk c) CHK.EXPECT.CRC → ((s.sealCompared c result).hdr (pgChk c)).evt.getLsbD 9 = true ∧
      (s.sealCompared c result).fget (pgChk c) CHK.SEALS.MISMATCH =
        min (s.fget (pgChk c) CHK.SEALS.MISMATCH + 1) 65535) := by
  unfold State.sealCompared
  rw [if_pos hen]
  by_cases heq : result = s.fget (pgChk c) CHK.EXPECT.CRC
  · rw [if_pos heq]
    refine ⟨?_, fun hne => absurd heq hne⟩
    unfold State.fbit
    rw [State.fset_fget (by decide) (by decide), beq_iff_eq.mpr heq]
    rfl
  · rw [if_neg heq]
    refine ⟨?_, fun _ => ⟨State.evt_set _ _ _ (by decide), ?_⟩⟩
    · rw [State.evt_fbit]
      unfold State.fbit
      rw [State.finc_fget_apart (by decide), State.fset_fget (by decide) (by decide), beq_eq_false_iff_ne.mpr heq]
      rfl
    · rw [State.evt_fget, State.finc_fget (by decide), State.fset_fget_apart (by decide)]
      rfl

theorem State.sealCompared_off {result : Nat} (hen : s.fbit (pgChk c) CHK.CTL.CHECK_EN = false) : s.sealCompared c result = s :=
  if_neg (Bool.eq_false_iff.mp hen)

theorem State.sealEnded_keeps {alive k : Nat} (h : (s.hdr p).evt.getLsbD k = true) :
    ((s.sealEnded c alive).hdr p).evt.getLsbD k = true := State.evt_keeps _ _ _ _ _ h

/-- The value of a seal: what was fed, with ALIVE. -/
def State.sealValue (s : State) (c : Nat) : Nat :=
  crcByte (s.chk c).crc (s.fget (pgChk c) CHK.ALIVE.COUNT) ^^^ 0xFFFFFFFF

theorem State.chkSeal_raw (s : State) (c : Nat) :
    (s.chkSeal c).fget (pgChk c) CHK.RAW.CRC = ((s.chk c).crc ^^^ 0xFFFFFFFF) % 2 ^ 32 := by
  rw [State.chkSeal_eq s c rfl, State.sealEnded_fget_apart (by decide) (by decide) (by decide),
    State.sealCompared_fget_apart (by decide) (by decide)]
  unfold State.sealPosted
  rw [State.fset_fget_apart (by decide), State.fset_fget_apart (by decide)]
  exact State.fget_fset_self _ _ _ _ (by decide)

theorem State.chkSeal_result (s : State) (c : Nat) :
    (s.chkSeal c).fget (pgChk c) CHK.RESULT.CRC = s.sealValue c % 2 ^ 32 := by
  rw [State.chkSeal_eq s c rfl, State.sealEnded_fget_apart (by decide) (by decide) (by decide),
    State.sealCompared_fget_apart (by decide) (by decide)]
  unfold State.sealPosted
  rw [State.fset_fget_apart (by decide)]
  exact State.fget_fset_self _ _ _ _ (by decide)

theorem State.chkSeal_used (s : State) (c : Nat) :
    (s.chkSeal c).fget (pgChk c) CHK.STAT.ALIVE_USED = s.fget (pgChk c) CHK.ALIVE.COUNT := by
  rw [State.chkSeal_eq s c rfl, State.sealEnded_fget_apart (by decide) (by decide) (by decide),
    State.sealCompared_fget_apart (by decide) (by decide)]
  exact State.fset_fget (by decide) (State.fget_lt ..)

theorem State.chkSeal_alive (s : State) (c : Nat) :
    (s.chkSeal c).fget (pgChk c) CHK.ALIVE.COUNT = (s.fget (pgChk c) CHK.ALIVE.COUNT + 1) % 256 := by
  rw [State.chkSeal_eq s c rfl]
  unfold State.sealEnded
  rw [State.evt_fget, State.finc_fget_apart (by decide), State.fset_fget_apart (by decide), State.setChk_fget]
  exact State.fget_fset_self _ _ _ _ (by decide)

/-- The state that the comparison of a seal finds has every field but those posted. -/
theorem State.chkSeal_compared (s : State) (c : Nat) (hen : s.fbit (pgChk c) CHK.CTL.CHECK_EN = true) :
    (s.chkSeal c).fbit (pgChk c) CHK.STAT.MATCH = (s.sealValue c == s.fget (pgChk c) CHK.EXPECT.CRC) ∧
    (s.sealValue c ≠ s.fget (pgChk c) CHK.EXPECT.CRC → ((s.chkSeal c).hdr (pgChk c)).evt.getLsbD 9 = true ∧
      (s.chkSeal c).fget (pgChk c) CHK.SEALS.MISMATCH = min (s.fget (pgChk c) CHK.SEALS.MISMATCH + 1) 65535) := by
  have hposted {g : Fld} (hraw : CHK.RAW.CRC.Apart g) (hres : CHK.RESULT.CRC.Apart g) (hused : CHK.STAT.ALIVE_USED.Apart g) :
      (s.sealPosted c ((s.chk c).crc ^^^ 0xFFFFFFFF) (s.sealValue c)).fget (pgChk c) g = s.fget (pgChk c) g :=
    State.sealPosted_fget_apart hraw hres hused
  obtain ⟨hmatch, hmis⟩ := State.sealCompared_match (result := s.sealValue c)
    (s := s.sealPosted c ((s.chk c).crc ^^^ 0xFFFFFFFF) (s.sealValue c)) (c := c)
    (by unfold State.fbit; rw [hposted (by decide) (by decide) (by decide)]; exact hen)
  rw [hposted (by decide) (by decide) (by decide)] at hmatch hmis
  rw [hposted (by decide) (by decide) (by decide)] at hmis
  rw [State.chkSeal_eq s c rfl]
  refine ⟨?_, fun hne => ⟨State.sealEnded_keeps (hmis hne).1, ?_⟩⟩
  · refine Eq.trans ?_ hmatch
    unfold State.fbit
    rw [State.sealEnded_fget_apart (by decide) (by decide) (by decide)]
    rfl
  · refine Eq.trans ?_ (hmis hne).2
    unfold State.sealEnded
    rw [State.evt_fget, State.finc_fget_apart (by decide), State.fset_fget_apart (by decide), State.setChk_fget,
      State.fset_fget_apart (by decide)]
    rfl

theorem State.chkSeal_uncompared (s : State) (c : Nat) (hen : s.fbit (pgChk c) CHK.CTL.CHECK_EN = false) :
    (s.chkSeal c).fbit (pgChk c) CHK.STAT.MATCH = s.fbit (pgChk c) CHK.STAT.MATCH := by
  have hoff : (s.sealPosted c ((s.chk c).crc ^^^ 0xFFFFFFFF) (s.sealValue c)).fbit (pgChk c) CHK.CTL.CHECK_EN = false := by
    unfold State.fbit
    rw [State.sealPosted_fget_apart (by decide) (by decide) (by decide)]
    exact hen
  rw [State.chkSeal_eq s c rfl]
  unfold State.fbit
  rw [State.sealEnded_fget_apart (by decide) (by decide) (by decide)]
  refine congrArg (fun x => decide (x = 1)) ?_
  exact (congrArg (·.fget (pgChk c) CHK.STAT.MATCH) (State.sealCompared_off hoff)).trans
    (State.sealPosted_fget_apart (by decide) (by decide) (by decide))

theorem State.sealEnded_crc (s : State) (c alive : Nat) :
    ((s.sealEnded c alive).chk c).crc = s.fget (pgChk c) CHK.SEED.SEED := by
  unfold State.sealEnded
  rw [State.chk_of_chks ((State.evt_chks ..).trans ((State.finc_chks ..).trans (State.fset_chks ..))), State.setChk_chk_self]

theorem State.chkSeal_restarted (s : State) (c : Nat) : ((s.chkSeal c).chk c).crc = s.fget (pgChk c) CHK.SEED.SEED ∧
    (s.chkSeal c).fget (pgChk c) CHK.STAT.BYTES = 0 := by
  rw [State.chkSeal_eq s c rfl]
  refine ⟨?_, ?_⟩
  · rw [State.sealEnded_crc, State.sealCompared_fget_apart (by decide) (by decide)]
    exact State.sealPosted_fget_apart (by decide) (by decide) (by decide)
  · unfold State.sealEnded
    rw [State.evt_fget, State.finc_fget_apart (by decide), State.fset_fget (by decide) (by decide)]

theorem State.chkSeal_counted (s : State) (c : Nat) : (s.chkSeal c).fget (pgChk c) CHK.SEALS.SEALS =
    min (s.fget (pgChk c) CHK.SEALS.SEALS + 1) 65535 ∧ ((s.chkSeal c).hdr (pgChk c)).evt.getLsbD 8 = true := by
  rw [State.chkSeal_eq s c rfl]
  refine ⟨?_, State.evt_set _ _ _ (by decide)⟩
  unfold State.sealEnded
  rw [State.evt_fget, State.finc_fget (by decide), State.fset_fget_apart (by decide), State.setChk_fget,
    State.fset_fget_apart (by decide), State.sealCompared_fget_apart (by decide) (by decide),
    State.sealPosted_fget_apart (by decide) (by decide) (by decide)]
  rfl

/-- SEAL as far as its answer. -/
def State.chkSealed (s : State) (m c : Nat) : State :=
  (((s.cmdStart (pgChk c) 0x10 0 m).chkSeal c).cmdDone (pgChk c)).emit (.access m 0 0)

/-- RESTART as far as its answer. -/
def State.chkRestarted (s : State) (m c : Nat) : State :=
  (((s.cmdStart (pgChk c) 0x11 0 m).chkRestart c).cmdDone (pgChk c)).emit (.access m 0 0)

theorem State.chkSeal_command (c : Fin 8) (h : s.accepts m (pgChk c) 0x10 0 = true) :
    s.command m (pgChk c) 0x10 0 = s.chkSealed m c := State.chkCommand_eq c h (by decide) (by decide)

theorem State.chkRestart_command (c : Fin 8) (h : s.accepts m (pgChk c) 0x11 0 = true) :
    s.command m (pgChk c) 0x11 0 = s.chkRestarted m c := State.chkCommand_eq c h (by decide) (by decide)

theorem State.ended_chk {x : Out} : ((s.cmdDone p).emit x).chk c = s.chk c :=
  State.chk_of_chks ((State.emit_chks ..).trans (State.cmdDone_chks ..)) c

/-- The comparison leaves the command running. -/
theorem State.sealCompared_run {result : Nat} : ((s.sealCompared c result).hdr p).run = (s.hdr p).run := by
  unfold State.sealCompared
  split
  · split
    · rfl
    · exact State.evt_hdr_run ..
  · rfl

theorem State.chkSealed_done (s : State) (m c : Nat) :
    (s.chkSealed m c).Done (pgChk c) 0x10 m ∧ (s.chkSealed m c).Answers (.access m 0 0) := by
  refine State.ended_done (arg := 0) ?_
  rw [State.chkSeal_eq _ c rfl]
  unfold State.sealEnded
  rw [State.evt_hdr_run, State.finc_hdr, State.fset_hdr, State.setChk_hdr, State.fset_hdr, State.sealCompared_run]
  unfold State.sealPosted
  rw [State.fset_hdr, State.fset_hdr, State.fset_hdr, State.cmdStart_run]

theorem State.chkRestarted_done (s : State) (m c : Nat) :
    (s.chkRestarted m c).Done (pgChk c) 0x11 m ∧ (s.chkRestarted m c).Answers (.access m 0 0) := by
  refine State.ended_done (arg := 0) ?_
  unfold State.chkRestart
  rw [State.fset_hdr, State.setChk_hdr, State.cmdStart_run]

theorem State.chkSealed_same (s : State) (m c : Nat) : State.SameBut [.chks, .out, .page .chk] s (s.chkSealed m c) :=
  State.emit_same (State.cmdDone_same (State.chkSeal_same (State.cmdStart_same (State.SameOutside.refl _ s) rfl
    (pageMask_chk c rfl)) rfl) rfl (pageMask_chk c rfl)) rfl

theorem State.chkRestarted_same (s : State) (m c : Nat) : State.SameBut [.chks, .out, .page .chk] s (s.chkRestarted m c) :=
  State.emit_same (State.cmdDone_same (State.chkRestart_same (State.cmdStart_same (State.SameOutside.refl _ s) rfl
    (pageMask_chk c rfl)) rfl) rfl (pageMask_chk c rfl)) rfl

theorem State.chkRestart_restarted (s : State) (c : Nat) :
    ((s.chkRestart c).chk c).crc = s.fget (pgChk c) CHK.SEED.SEED ∧ (s.chkRestart c).fget (pgChk c) CHK.STAT.BYTES = 0 ∧
    (s.chkRestart c).fget (pgChk c) CHK.ALIVE.COUNT = s.fget (pgChk c) CHK.ALIVE.COUNT := by
  unfold State.chkRestart
  refine ⟨?_, State.fset_fget (by decide) (by decide), ?_⟩
  · rw [State.chk_of_chks (State.fset_chks ..), State.setChk_chk_self]
  · rw [State.fset_fget_apart (by decide), State.setChk_fget]

/-! ### The statement -/

/-- Settles O50: a data register feeds its bytes by `chkFeed`, SEAL comes to `chkSealed` and RESTART to `chkRestarted`. -/
theorem checkValuesAreSealed : Obligations.CheckValuesAreSealed := by
  unfold Obligations.CheckValuesAreSealed
  refine fun s m c => ⟨fun data h => ?_, fun data h => ?_, fun data h => ?_, fun result hresult h => ?_, fun h => ?_⟩
  case refine_1 =>
    have hbytes : leBytes data.toNat 1 = [data.toNat] := congrArg (· :: []) (Nat.mod_eq_of_lt data.isLt)
    rw [exec_chkDataByte_on (State.writes_powered h)]
    exact ⟨_, rfl, State.writeData_fed c h (by decide) (by decide) rfl (by decide) (by decide) rfl
      (Nat.lt_trans data.isLt (by decide)) fun u => by unfold State.blockHook; rw [pageOf_chk_fin, ← hbytes]; rfl⟩
  case refine_2 =>
    rw [exec_chkDataHalf_on (State.writes_powered h)]
    exact ⟨_, rfl, State.writeData_fed c h (by decide) (by decide) rfl (by decide) (by decide) rfl
      (Nat.lt_trans data.isLt (by decide)) fun u => by unfold State.blockHook; rw [pageOf_chk_fin]; rfl⟩
  case refine_3 =>
    rw [exec_chkDataWord_on (State.writes_powered h)]
    exact ⟨_, rfl, State.writeData_fed c h (by decide) (by decide) rfl (by decide) (by decide) rfl data.isLt
      fun u => by unfold State.blockHook; rw [pageOf_chk_fin]; rfl⟩
  case refine_4 =>
    subst hresult
    obtain ⟨hdone, hanswers⟩ := s.chkSealed_done m.id c
    rw [exec_chkSeal_on (State.accepts_powered h), State.chkSeal_command c h]
    refine ⟨s.chkSealed m.id c, rfl, hdone, hanswers, State.ended_fget.trans (State.chkSeal_raw _ c),
      State.ended_fget.trans (State.chkSeal_result _ c), State.ended_fget.trans (State.chkSeal_used _ c),
      State.ended_fget.trans (State.chkSeal_alive _ c), fun hen => ?_, fun hen => ?_,
      (congrArg ChkSt.crc State.ended_chk).trans (State.chkSeal_restarted _ c).1,
      State.ended_fget.trans (State.chkSeal_restarted _ c).2, State.ended_fget.trans (State.chkSeal_counted _ c).1,
      State.cmdDone_keeps (State.chkSeal_counted _ c).2, s.chkSealed_same m.id c⟩
    · obtain ⟨hmatch, hmis⟩ := State.chkSeal_compared (s.cmdStart (pgChk c) 0x10 0 m.id) c hen
      exact ⟨State.ended_fbit.trans hmatch, fun hne => ⟨State.cmdDone_keeps (hmis hne).1,
        State.ended_fget.trans (hmis hne).2⟩⟩
    · exact State.ended_fbit.trans (State.chkSeal_uncompared (s.cmdStart (pgChk c) 0x10 0 m.id) c hen)
  case refine_5 =>
    obtain ⟨hdone, hanswers⟩ := s.chkRestarted_done m.id c
    obtain ⟨hcrc, hbytes, halive⟩ := (s.cmdStart (pgChk c) 0x11 0 m.id).chkRestart_restarted c
    rw [exec_chkRestart_on (State.accepts_powered h), State.chkRestart_command c h]
    exact ⟨_, rfl, hdone, hanswers, (congrArg ChkSt.crc State.ended_chk).trans hcrc, State.ended_fget.trans hbytes,
      State.ended_fget.trans halive, s.chkRestarted_same m.id c⟩

end Sys2Proof.Machine
end

section
/-! PROOFS. The fault collector: reports captured, merged and counted, wires that break and work again, a capture released
(R365 to R375). -/

namespace Sys2Proof.Machine

variable {s t : State} {p q m v n k off src seq a : Nat} {f g : Fld} {e : ErrRec} {broken : Bool}

/-! ### Words and bits of the collector's page -/

theorem addrOf_off_ne {off' : Nat} (h : off % 0x1000 ≠ off' % 0x1000) : addrOf p off ≠ addrOf q off' := fun heq =>
  h (by rw [← addrOf_off p off, heq, addrOf_off])

theorem State.fset_word_other (h : off % 0x1000 ≠ f.off % 0x1000) : (s.fset p f v).word (addrOf q off) = s.word (addrOf q off) :=
  State.setWord_word_other _ _ _ _ (addrOf_off_ne h)

theorem State.fget_of_word (h : t.word (addrOf p f.off) = s.word (addrOf p f.off)) : t.fget p f = s.fget p f := by
  unfold State.fget
  rw [h]

theorem State.fset64_fget64 {lo hi : Fld} (hlo : lo.lo + lo.w ≤ 32) (hhi : hi.lo + hi.w ≤ 32) (hwlo : lo.w = 32)
    (hwhi : hi.w = 32) (hne : hi.off % 0x1000 ≠ lo.off % 0x1000) : (s.fset64 p lo hi v).fget64 p lo hi = v % 2 ^ 64 := by
  unfold State.fset64 State.fget64
  rw [State.fset_fget_apart ⟨hhi, .inl hne.symm⟩, State.fget_fset_self _ _ _ _ hlo, State.fget_fset_self _ _ _ _ hhi,
    hwlo, hwhi]
  omega

/-- A bit of a field that fills its register reads back what was set. -/
theorem State.fset_bit (hf : f.lo + f.w ≤ 32) (hw : f.w = 32) (hk : k < 32) : bit ((s.fset p f v).fget p f) k = bit v k := by
  rw [State.fget_fset_self _ _ _ _ hf, hw, bit_eq_testBit, Nat.testBit_mod_two_pow, bit_eq_testBit, decide_eq_true hk,
    Bool.true_and]

theorem bit_word_without (hn : n < 32) (hk : k < 32) : bit (0xFFFFFFFF - 1 <<< k) n = decide (n ≠ k) := by
  have hmask : 0xFFFFFFFF - 1 <<< k = 0xFFFFFFFF - (1 <<< k &&& 0xFFFFFFFF) := by
    rw [show (0xFFFFFFFF : Nat) = 2 ^ 32 - 1 from rfl, Nat.and_two_pow_sub_one_eq_mod, Nat.one_shiftLeft,
      Nat.mod_eq_of_lt (Nat.pow_lt_pow_right (by decide) hk)]
  rw [hmask, bit_sub_and, bit_one_shiftLeft, bit_eq_testBit, word_testBit n hn, Bool.true_and]
  by_cases h : n = k <;> simp [h, eq_comm]

/-! ### A report is captured, merged and counted (R370, R371, R373) -/

/-- A report whose fields fit their registers, of a source and a class that there are. -/
structure ErrRec.Fits (e : ErrRec) : Prop where
  src : e.src < 133
  cls : e.cls < 5
  typ : e.typ < 8
  space : e.space < 4
  addr : e.addr < 2 ^ 32
  master : e.master < 64
  synd : e.synd < 2 ^ 19
  kind : e.kind < 4
  count : e.count < 256

/-- A report has been captured or merged, and counted; it has not been reacted to. -/
def State.taken (s : State) (e : ErrRec) (broken : Bool) : State :=
  (if s.fbit pgFlt FLT.CAPT_STAT.VALID then s.mergeReport e else s.captureReport e broken).countReport e

theorem State.intake_eq (s : State) (e : ErrRec) (broken : Bool) : s.intake e broken = (s.taken e broken).react e broken := rfl

theorem State.faultCount_word (s : State) (p n a : Nat) : (s.faultCount p n).word a = s.word a := by
  simp only [State.faultCount]
  split <;> simp

theorem State.faultCount_keeps (h : (s.hdr p).evt.getLsbD k = true) : ((s.faultCount q n).hdr p).evt.getLsbD k = true := by
  simp only [State.faultCount]
  split
  · refine State.evt_keeps _ _ _ _ _ ?_
    by_cases hp : p = q
    · rw [hp, State.setHdr_hdr_self, ← hp, h]
    · rw [State.setHdr_hdr_other _ _ _ _ hp, h]
  · exact h

/-- The counts of a report stand above the registers of the capture, the merges and the broken wires. -/
theorem State.countReport_word (hcls : e.cls < 5) (hsrc : e.src < 133) (hoff : off < 0x0A0) :
    (s.countReport e).word (addrOf pgFlt off) = s.word (addrOf pgFlt off) := by
  have hclass : (s.fadd pgFlt (FLT.CLASS_CNT.COUNT e.cls) e.count).word (addrOf pgFlt off) = s.word (addrOf pgFlt off) :=
    State.fset_word_other (by simp only [FLT.CLASS_CNT.COUNT]; omega)
  unfold State.countReport
  simp only
  split
  · rw [State.faultCount_word, hclass]
  · refine Eq.trans (State.fset_word_other ?_) hclass
    simp only [FLT.SRC_CNT.COUNT]
    omega

theorem State.countReport_keeps (h : (s.hdr p).evt.getLsbD k = true) : ((s.countReport e).hdr p).evt.getLsbD k = true := by
  unfold State.countReport
  simp only
  split
  · exact State.faultCount_keeps h
  · split <;> exact h

/-- A report counts in its class. -/
theorem State.countReport_class (hcls : e.cls < 5) (hsrc : e.src < 133) :
    (s.countReport e).fget pgFlt (FLT.CLASS_CNT.COUNT e.cls) =
      min (s.fget pgFlt (FLT.CLASS_CNT.COUNT e.cls) + e.count) (2 ^ 32 - 1) := by
  have hclass : (s.fadd pgFlt (FLT.CLASS_CNT.COUNT e.cls) e.count).fget pgFlt (FLT.CLASS_CNT.COUNT e.cls) =
      min (s.fget pgFlt (FLT.CLASS_CNT.COUNT e.cls) + e.count) (2 ^ 32 - 1) := State.fadd_fget (Nat.le_refl 32)
  unfold State.countReport
  simp only
  split
  · exact (State.fget_of_word (State.faultCount_word ..)).trans hclass
  · refine Eq.trans (State.fadd_fget_apart ⟨Nat.le_refl 32, .inl ?_⟩) hclass
    simp only [FLT.SRC_CNT.COUNT, FLT.CLASS_CNT.COUNT]
    omega

/-- Merging touches MERGE_CNT and the merged sources alone. -/
theorem State.mergeReport_word (hsrc : e.src < 133) (hoff : off < 0x054 ∨ 0x074 ≤ off) (hlt : off < 0x1000) :
    (s.mergeReport e).word (addrOf pgFlt off) = s.word (addrOf pgFlt off) := by
  unfold State.mergeReport
  refine (State.fset_word_other ?_).trans (State.fset_word_other ?_)
  · simp only [FLT.MERGE_SRC.SOURCES]
    omega
  · simp only [FLT.CAPT_SEQ.MERGE_CNT]
    omega

theorem State.mergeReport_count (hsrc : e.src < 133) : (s.mergeReport e).fget pgFlt FLT.CAPT_SEQ.MERGE_CNT =
    min (s.fget pgFlt FLT.CAPT_SEQ.MERGE_CNT + e.count) 65535 := by
  unfold State.mergeReport
  refine Eq.trans (State.fset_fget_apart ⟨Nat.le_refl 32, .inl ?_⟩) (State.fadd_fget (by decide))
  simp only [FLT.MERGE_SRC.SOURCES, FLT.CAPT_SEQ.MERGE_CNT]
  omega

theorem State.mergeReport_source (s : State) (e : ErrRec) :
    bit ((s.mergeReport e).fget pgFlt (FLT.MERGE_SRC.SOURCES (e.src / 32))) (e.src % 32) = true := by
  unfold State.mergeReport
  refine (State.fset_bit (f := FLT.MERGE_SRC.SOURCES _) (Nat.le_refl 32) rfl (Nat.mod_lt _ (by decide))).trans ?_
  rw [bit_or, bit_one_shiftLeft, decide_eq_true rfl, Bool.or_true]

/-- CAPT_STAT shows a report. -/
def State.statusShown (s : State) (e : ErrRec) (broken : Bool) : State :=
  (((((((s.fset pgFlt FLT.CAPT_STAT.VALID 1).fsetB pgFlt FLT.CAPT_STAT.BROKEN broken).fset pgFlt
    FLT.CAPT_STAT.CLASS e.cls).fset pgFlt FLT.CAPT_STAT.TYPE e.typ).fset pgFlt FLT.CAPT_STAT.SOURCE e.src).fset
    pgFlt FLT.CAPT_STAT.MASTER e.master).fset pgFlt FLT.CAPT_STAT.SPACE e.space).fset pgFlt FLT.CAPT_STAT.COUNT e.count

/-- The registers after CAPT_STAT show a report: its address, the time and its syndrome. -/
def State.detailShown (s : State) (e : ErrRec) : State :=
  let s := s.fset pgFlt FLT.CAPT_ADDR.ADDR e.addr
  ((s.fset64 pgFlt FLT.CAPT_TIME_LO.NS FLT.CAPT_TIME_HI.NS s.now).fset pgFlt FLT.CAPT_SYND.SYNDROME e.synd).fset
    pgFlt FLT.CAPT_SYND.KIND e.kind

theorem State.captureReport_eq (s : State) (e : ErrRec) (broken : Bool) : s.captureReport e broken =
    ((((s.statusShown e broken).detailShown e).fwrap pgFlt FLT.CAPT_SEQ.SEQ).evt pgFlt 14) := by
  unfold State.captureReport State.detailShown State.statusShown
  rfl

theorem State.fset_now (s : State) (p : Nat) (f : Fld) (v : Nat) : (s.fset p f v).now = s.now := rfl

theorem State.statusShown_now (s : State) (e : ErrRec) (broken : Bool) : (s.statusShown e broken).now = s.now := by
  unfold State.statusShown State.fsetB
  iterate 8 rw [State.fset_now]

theorem State.statusShown_word (hlo : 0x044 ≤ off) (hlt : off < 0x1000) :
    (s.statusShown e broken).word (addrOf p off) = s.word (addrOf p off) := by
  have hset {u : State} {f : Fld} {x : Nat} (hf : f.off = 0x040) : (u.fset pgFlt f x).word (addrOf p off) =
      u.word (addrOf p off) := State.fset_word_other (by omega)
  unfold State.statusShown State.fsetB
  iterate 8 rw [hset rfl]

theorem State.detailShown_word (hoff : off < 0x044 ∨ 0x054 ≤ off) (hlt : off < 0x1000) :
    (s.detailShown e).word (addrOf p off) = s.word (addrOf p off) := by
  have hset {u : State} {f : Fld} {x : Nat} (hf : 0x044 ≤ f.off ∧ f.off < 0x054) : (u.fset pgFlt f x).word (addrOf p off) =
      u.word (addrOf p off) := State.fset_word_other (by omega)
  unfold State.detailShown State.fset64
  iterate 5 rw [hset (by decide)]

/-- A capture stands below the registers of the merges. -/
theorem State.captureReport_word (hoff : 0x058 ≤ off) (hlt : off < 0x1000) :
    (s.captureReport e broken).word (addrOf pgFlt off) = s.word (addrOf pgFlt off) := by
  have hseq : off % 0x1000 ≠ FLT.CAPT_SEQ.SEQ.off % 0x1000 := by
    simp only [FLT.CAPT_SEQ.SEQ]
    omega
  rw [State.captureReport_eq, State.evt_word]
  exact (State.fset_word_other hseq).trans ((State.detailShown_word (.inr (by omega)) hlt).trans
    (State.statusShown_word (by omega) hlt))

/-- What CAPT_STAT shows of a report. -/
def State.ShowsStatus (e : ErrRec) (t : State) : Prop :=
  t.fbit pgFlt FLT.CAPT_STAT.VALID = true ∧ t.fget pgFlt FLT.CAPT_STAT.CLASS = e.cls ∧
  t.fget pgFlt FLT.CAPT_STAT.TYPE = e.typ ∧ t.fget pgFlt FLT.CAPT_STAT.SOURCE = e.src ∧
  t.fget pgFlt FLT.CAPT_STAT.MASTER = e.master ∧ t.fget pgFlt FLT.CAPT_STAT.SPACE = e.space ∧
  t.fget pgFlt FLT.CAPT_STAT.COUNT = e.count

/-- What the registers after CAPT_STAT show of a report that was captured at a time. -/
def State.ShowsDetail (e : ErrRec) (now : Nat) (t : State) : Prop :=
  t.fget pgFlt FLT.CAPT_ADDR.ADDR = e.addr ∧ t.fget pgFlt FLT.CAPT_SYND.SYNDROME = e.synd ∧
  t.fget pgFlt FLT.CAPT_SYND.KIND = e.kind ∧
  t.fget64 pgFlt FLT.CAPT_TIME_LO.NS FLT.CAPT_TIME_HI.NS = now % 2 ^ 64

theorem State.statusShown_shows (he : e.Fits) (broken : Bool) : (s.statusShown e broken).ShowsStatus e := by
  obtain ⟨hsrc, hcls, htyp, hspace, -, hmaster, -, -, hcount⟩ := he
  unfold State.statusShown State.ShowsStatus State.fbit
  simp (disch := decide) only [State.fsetB_fget_apart, State.fset_fget_apart, State.fget_fset_self]
  exact ⟨rfl, Nat.mod_eq_of_lt (Nat.lt_trans hcls (by decide)), Nat.mod_eq_of_lt htyp,
    Nat.mod_eq_of_lt (Nat.lt_trans hsrc (by decide)), Nat.mod_eq_of_lt hmaster, Nat.mod_eq_of_lt hspace,
    Nat.mod_eq_of_lt hcount⟩

theorem State.detailShown_shows (he : e.Fits) : (s.detailShown e).ShowsDetail e s.now := by
  obtain ⟨-, -, -, -, haddr, -, hsynd, hkind, -⟩ := he
  have htime : (s.detailShown e).fget64 pgFlt FLT.CAPT_TIME_LO.NS FLT.CAPT_TIME_HI.NS = s.now % 2 ^ 64 := by
    unfold State.detailShown State.fget64
    rw [State.fset_fget_apart (by decide), State.fset_fget_apart (by decide), State.fset_fget_apart (by decide),
      State.fset_fget_apart (by decide), ← State.fset_now s pgFlt FLT.CAPT_ADDR.ADDR e.addr]
    exact State.fset64_fget64 (by decide) (by decide) rfl rfl (by decide)
  refine ⟨?_, ?_, ?_, htime⟩ <;> unfold State.detailShown
  · unfold State.fset64
    rw [State.fset_fget_apart (by decide), State.fset_fget_apart (by decide), State.fset_fget_apart (by decide),
      State.fset_fget_apart (by decide), State.fset_fget (by decide) haddr]
  · rw [State.fset_fget_apart (by decide), State.fset_fget (by decide) hsynd]
  · rw [State.fset_fget (by decide) hkind]

/-- The status of a report stays while CAPT_STAT does. -/
theorem State.ShowsStatus.of_word (h : s.ShowsStatus e)
    (hw : t.word (addrOf pgFlt 0x040) = s.word (addrOf pgFlt 0x040)) : t.ShowsStatus e := by
  obtain ⟨hvalid, hcls, htyp, hsrc, hmaster, hspace, hcount⟩ := h
  have hread {f : Fld} (hf : f.off = 0x040) : t.fget pgFlt f = s.fget pgFlt f := State.fget_of_word (by rw [hf, hw])
  unfold State.ShowsStatus State.fbit
  rw [hread rfl, hread rfl, hread rfl, hread rfl, hread rfl, hread rfl, hread rfl]
  exact ⟨hvalid, hcls, htyp, hsrc, hmaster, hspace, hcount⟩

/-- The details of a report stay while their registers do. -/
theorem State.ShowsDetail.of_word {now : Nat} (h : s.ShowsDetail e now)
    (hw : ∀ off, 0x044 ≤ off → off < 0x054 → t.word (addrOf pgFlt off) = s.word (addrOf pgFlt off)) : t.ShowsDetail e now := by
  obtain ⟨haddr, hsynd, hkind, htime⟩ := h
  have hread {f : Fld} (hlo : 0x044 ≤ f.off) (hlt : f.off < 0x054) : t.fget pgFlt f = s.fget pgFlt f :=
    State.fget_of_word (hw _ hlo hlt)
  unfold State.ShowsDetail State.fget64
  rw [hread (by decide) (by decide), hread (by decide) (by decide), hread (by decide) (by decide),
    hread (by decide) (by decide), hread (by decide) (by decide)]
  exact ⟨haddr, hsynd, hkind, htime⟩

/-- With no capture held, a report is captured. -/
theorem State.taken_captured (he : e.Fits) (h : s.fbit pgFlt FLT.CAPT_STAT.VALID = false) :
    (s.taken e broken).ShowsStatus e ∧ (s.taken e broken).ShowsDetail e s.now ∧
    (s.taken e broken).fget pgFlt FLT.CAPT_SEQ.SEQ = (s.fget pgFlt FLT.CAPT_SEQ.SEQ + 1) % 65536 ∧
    ((s.taken e broken).hdr pgFlt).evt.getLsbD 14 = true := by
  have heq : s.taken e broken = (s.captureReport e broken).countReport e := by
    unfold State.taken
    rw [h]
    rfl
  have hcount {off : Nat} (hoff : off < 0x0A0) : (s.taken e broken).word (addrOf pgFlt off) =
      (s.captureReport e broken).word (addrOf pgFlt off) := by
    rw [heq]
    exact State.countReport_word he.cls he.src hoff
  have hcapture {off : Nat} (hoff : off < 0x054) : (s.captureReport e broken).word (addrOf pgFlt off) =
      ((s.statusShown e broken).detailShown e).word (addrOf pgFlt off) := by
    rw [State.captureReport_eq, State.evt_word]
    refine State.fset_word_other ?_
    simp only [FLT.CAPT_SEQ.SEQ]
    omega
  rw [← State.statusShown_now s e broken]
  refine ⟨(State.statusShown_shows (s := s) he broken).of_word ?_, (State.detailShown_shows (s := s.statusShown e broken) he).of_word
    fun off _ hlt => (hcount (by omega)).trans (hcapture hlt), ?_, ?_⟩
  · rw [hcount (by decide), hcapture (by decide), State.detailShown_word (.inl (by decide)) (by decide)]
  · refine (State.fget_of_word (hcount (by decide))).trans ?_
    rw [State.captureReport_eq, State.evt_fget]
    refine (State.fget_fset_self _ _ _ _ (by decide)).trans ?_
    rw [State.fget_of_word (State.detailShown_word (.inr (by decide)) (by decide)),
      State.fget_of_word (State.statusShown_word (by decide) (by decide))]
    rfl
  · rw [heq]
    exact State.countReport_keeps (State.evt_set _ _ _ (by decide))

/-- While a capture is held, a report is merged into it. -/
theorem State.taken_merged (he : e.Fits) (h : s.fbit pgFlt FLT.CAPT_STAT.VALID = true) :
    (s.taken e broken).fget pgFlt FLT.CAPT_SEQ.MERGE_CNT = min (s.fget pgFlt FLT.CAPT_SEQ.MERGE_CNT + e.count) 65535 ∧
    bit ((s.taken e broken).fget pgFlt (FLT.MERGE_SRC.SOURCES (e.src / 32))) (e.src % 32) = true ∧
    (s.taken e broken).word (addrOf pgFlt 0x040) = s.word (addrOf pgFlt 0x040) := by
  have heq : s.taken e broken = (s.mergeReport e).countReport e := by
    unfold State.taken
    rw [h]
    rfl
  have hsrc := he.src
  have hcount {off : Nat} (hoff : off < 0x0A0) : (s.taken e broken).word (addrOf pgFlt off) =
      (s.mergeReport e).word (addrOf pgFlt off) := by
    rw [heq]
    exact State.countReport_word he.cls he.src hoff
  refine ⟨?_, ?_, ?_⟩
  · rw [State.fget_of_word (hcount (by decide)), State.mergeReport_count hsrc]
  · rw [State.fget_of_word (hcount (by simp only [FLT.MERGE_SRC.SOURCES]; omega)), State.mergeReport_source]
  · rw [hcount (by decide), State.mergeReport_word hsrc (.inl (by decide)) (by decide)]

theorem State.taken_class (he : e.Fits) : (s.taken e broken).fget pgFlt (FLT.CLASS_CNT.COUNT e.cls) =
    min (s.fget pgFlt (FLT.CLASS_CNT.COUNT e.cls) + e.count) (2 ^ 32 - 1) := by
  have hcls := he.cls
  have hoff : 0x074 ≤ (FLT.CLASS_CNT.COUNT e.cls).off ∧ (FLT.CLASS_CNT.COUNT e.cls).off < 0x1000 := by
    simp only [FLT.CLASS_CNT.COUNT]
    omega
  unfold State.taken
  rw [State.countReport_class hcls he.src]
  split
  · rw [State.fget_of_word (State.mergeReport_word he.src (.inr hoff.1) hoff.2)]
  · rw [State.fget_of_word (State.captureReport_word (by omega) hoff.2)]

/-! ### Reports, and the wires they come by (R367, R368) -/

theorem exec_errorReport_on (h : s.boot.powered = true) (src : Fin 133) (cls : Fin 5) (typ : Fin 6) (space : Fin 4)
    (addr : BitVec 32) (owner : BitVec 6) (synd : BitVec 19) (kind : Fin 3) (count : BitVec 8) :
    exec (.errorReport src cls typ space addr owner synd kind count) s = .next (s.report
      ⟨src, cls, typ, space, addr.toNat, owner.toNat, synd.toNat, kind, count.toNat⟩) :=
  congrArg Host.Outcome.next (State.live_on h _)

theorem exec_brokenWire_on (h : s.boot.powered = true) (src : Fin 133) : exec (.brokenWire src) s = .next (s.breakWire src) :=
  congrArg Host.Outcome.next (State.live_on h _)

theorem exec_brokenWireClear_on (h : s.boot.powered = true) (src : Fin 133) :
    exec (.brokenWireClear src) s = .next (s.mendWire src) :=
  congrArg Host.Outcome.next (State.live_on h _)

theorem exec_captAckWrite_on (h : s.boot.powered = true) (m : Master) (seq : BitVec 16) :
    exec (.captAckWrite m seq) s = .next (s.writeReg m.id pgFlt FLT.CAPT_ACK.SEQ.off seq.toNat) :=
  congrArg Host.Outcome.next (State.live_on h _)

theorem State.report_held (h : s.wireBroken e.src = true) :
    s.report e = { s with flt := { s.flt with held := collectErr s.flt.held e } } := if_pos h

theorem State.report_sound (h : s.wireBroken e.src = false) : s.report e = (s.taken e false).react e false := by
  unfold State.report
  rw [h, if_neg Bool.false_ne_true, State.intake_eq]

/-- The report of ERROR_REPORT's operands fits its registers. -/
theorem ErrRec.fits_operands (src : Fin 133) (cls : Fin 5) (typ : Fin 6) (space : Fin 4) (addr : BitVec 32)
    (owner : BitVec 6) (synd : BitVec 19) (kind : Fin 3) (count : BitVec 8) :
    ErrRec.Fits ⟨src, cls, typ, space, addr.toNat, owner.toNat, synd.toNat, kind, count.toNat⟩ where
  src := src.isLt
  cls := cls.isLt
  typ := Nat.lt_trans typ.isLt (by decide)
  space := space.isLt
  addr := addr.isLt
  master := owner.isLt
  synd := synd.isLt
  kind := Nat.lt_trans kind.isLt (by decide)
  count := count.isLt

/-- The mark of a broken wire is written among its source's word of marks; every other word of them stays. -/
theorem State.wireBroken_fset (hsrc : src < 133) (hn : n < 133) :
    (s.fset pgFlt (FLT.BROKEN.SOURCES (src / 32)) v).wireBroken n =
      if n / 32 = src / 32 then bit v (n % 32) else s.wireBroken n := by
  unfold State.wireBroken
  split
  next h =>
    rw [h]
    exact State.fset_bit (f := FLT.BROKEN.SOURCES _) (Nat.le_refl 32) rfl (Nat.mod_lt _ (by decide))
  next h =>
    rw [State.fset_fget_apart (f := FLT.BROKEN.SOURCES _) ⟨Nat.le_refl 32, .inl ?_⟩]
    simp only [FLT.BROKEN.SOURCES]
    omega

/-- The mark of a source's wire is set. -/
def State.wireMarked (s : State) (src : Nat) : State :=
  (s.fset pgFlt (FLT.BROKEN.SOURCES (src / 32))
    (s.fget pgFlt (FLT.BROKEN.SOURCES (src / 32)) ||| 1 <<< (src % 32))).evt pgFlt 13

theorem State.breakWire_broken (h : s.wireBroken src = true) : s.breakWire src = s := if_pos h

theorem State.breakWire_sound (h : s.wireBroken src = false) :
    s.breakWire src = (s.wireMarked src).intake { src := src, cls := 3 } true := by
  unfold State.breakWire
  rw [h]
  rfl

theorem State.wireMarked_broken (hsrc : src < 133) (hn : n < 133) :
    (s.wireMarked src).wireBroken n = (s.wireBroken n || decide (n = src)) := by
  have hevt : (s.wireMarked src).wireBroken n = (s.fset pgFlt (FLT.BROKEN.SOURCES (src / 32))
      (s.fget pgFlt (FLT.BROKEN.SOURCES (src / 32)) ||| 1 <<< (src % 32))).wireBroken n :=
    congrArg (bit · (n % 32)) (State.evt_fget ..)
  rw [hevt, State.wireBroken_fset hsrc hn]
  split
  next h =>
    rw [bit_or, bit_one_shiftLeft, ← h]
    exact congrArg₂ _ rfl (decide_eq_decide.mpr (by omega))
  next h => rw [decide_eq_false (fun hne : n = src => h (by rw [hne])), Bool.or_false]

theorem State.wireMarked_same (s : State) (src : Nat) : State.SameBut [.out, .page .flt] s (s.wireMarked src) :=
  State.evt_same (State.fset_same (State.SameOutside.refl _ s) rfl (pageMask_flt rfl)) rfl (pageMask_flt rfl)

/-- The mark of a source's wire is cleared, and its source holds nothing any more. -/
def State.wireCleared (s : State) (src : Nat) : State :=
  let f := FLT.BROKEN.SOURCES (src / 32)
  let s := s.fset pgFlt f (s.fget pgFlt f &&& (0xFFFFFFFF - 1 <<< (src % 32)))
  { s with flt := { s.flt with held := s.flt.held.filter (fun e => e.src ≠ src) } }

theorem State.mendWire_eq (s : State) (src : Nat) : s.mendWire src =
    (sendOrder (s.flt.held.filter (fun e => e.src = src))).foldl (fun w e => w.intake e false) (s.wireCleared src) := rfl

theorem State.wireCleared_same (s : State) (src : Nat) : State.SameBut [.flt, .page .flt] s (s.wireCleared src) :=
  State.SameOutside.set_flt (State.fset_same (State.SameOutside.refl _ s) rfl (pageMask_flt rfl)) rfl

theorem State.wireCleared_broken (hsrc : src < 133) (hn : n < 133) :
    (s.wireCleared src).wireBroken n = (s.wireBroken n && decide (n ≠ src)) := by
  have hmark : (s.wireCleared src).wireBroken n = (s.fset pgFlt (FLT.BROKEN.SOURCES (src / 32))
      (s.fget pgFlt (FLT.BROKEN.SOURCES (src / 32)) &&& (0xFFFFFFFF - 1 <<< (src % 32)))).wireBroken n :=
    congrArg (bit · (n % 32)) (State.fget_of_pages rfl _ _)
  rw [hmark, State.wireBroken_fset hsrc hn]
  split
  next h =>
    rw [bit_and, bit_word_without (Nat.mod_lt _ (by decide)) (Nat.mod_lt _ (by decide)), ← h]
    exact congrArg₂ _ rfl (decide_eq_decide.mpr (by omega))
  next h => rw [decide_eq_true (p := n ≠ src) (fun hne => h (by rw [hne])), Bool.and_true]

/-! ### A capture is released (R372) -/

/-- The capture is released and the merges start again. -/
theorem State.captAck_present (h : seq = s.fget pgFlt FLT.CAPT_SEQ.SEQ) :
    (s.captAck seq).fbit pgFlt FLT.CAPT_STAT.VALID = false ∧ (s.captAck seq).fget pgFlt FLT.CAPT_SEQ.MERGE_CNT = 0 ∧
    ∀ n, n < 5 → (s.captAck seq).fget pgFlt (FLT.MERGE_SRC.SOURCES n) = 0 := by
  have heq : s.captAck seq =
      (((((((s.fset pgFlt FLT.CAPT_STAT.VALID 0).fset pgFlt FLT.CAPT_SEQ.MERGE_CNT 0).fset pgFlt
        (FLT.MERGE_SRC.SOURCES 0) 0).fset pgFlt (FLT.MERGE_SRC.SOURCES 1) 0).fset pgFlt (FLT.MERGE_SRC.SOURCES 2) 0).fset
        pgFlt (FLT.MERGE_SRC.SOURCES 3) 0).fset pgFlt (FLT.MERGE_SRC.SOURCES 4) 0) := if_pos h
  rw [heq]
  refine ⟨?_, ?_, fun n hn => ?_⟩
  · unfold State.fbit
    iterate 6 rw [State.fset_fget_apart (by decide)]
    rw [State.fset_fget (by decide) (by decide)]
    rfl
  · iterate 5 rw [State.fset_fget_apart (by decide)]
    rw [State.fset_fget (by decide) (by decide)]
  · interval_cases n
    · iterate 4 rw [State.fset_fget_apart (by decide)]
      rw [State.fset_fget (by decide) (by decide)]
    · iterate 3 rw [State.fset_fget_apart (by decide)]
      rw [State.fset_fget (by decide) (by decide)]
    · iterate 2 rw [State.fset_fget_apart (by decide)]
      rw [State.fset_fget (by decide) (by decide)]
    · rw [State.fset_fget_apart (by decide), State.fset_fget (by decide) (by decide)]
    · rw [State.fset_fget (by decide) (by decide)]

theorem State.captAck_other (h : seq ≠ s.fget pgFlt FLT.CAPT_SEQ.SEQ) : s.captAck seq = s := if_neg h

theorem State.captAckWrite_eq (h : s.writes m pgFlt FLT.CAPT_ACK.SEQ.off v = true) (hv : v < 2 ^ 16) :
    s.writeReg m pgFlt FLT.CAPT_ACK.SEQ.off v = ((s.storeBlock (addrOf pgFlt FLT.CAPT_ACK.SEQ.off) v
      { off := 0x058, wo := 0xFFFF }).captAck v).emit (.access m 0 0) := by
  rw [State.writeReg_writeOnly (ty := .flt) (i := 0) (j := 0) (r := { off := 0x058, wo := 0xFFFF }) h (by decide) (by decide) rfl
    (by decide) rfl (by decide) (by decide) (by decide) (Nat.lt_trans hv (by decide))
    (hookStores_other (by decide) (by decide) (by decide) (by decide))]
  unfold State.blockHook
  rw [show pageOf pgFlt = some (.flt, 0) from rfl, Nat.mod_eq_of_lt hv]
  rfl

/-- Settles O45: a sound wire hands its report over, a broken one holds it back; `State.taken` says what FLT shows of it. -/
theorem errorsAreCollected : Obligations.ErrorsAreCollected := by
  unfold Obligations.ErrorsAreCollected
  intro s src
  refine ⟨fun cls typ space addr owner synd kind count hp => ⟨fun hb => ?_, fun hb => ?_⟩, fun hp hb => ?_, fun hp hb => ?_,
    fun hp => ?_, fun m seq h => ?_⟩
  · exact ⟨_, (exec_errorReport_on hp ..).trans (congrArg Host.Outcome.next (State.report_held hb)), rfl,
      State.SameOutside.set_flt (State.SameOutside.refl _ _) rfl⟩
  · have he := ErrRec.fits_operands src cls typ space addr owner synd kind count
    refine ⟨s.taken _ false, (exec_errorReport_on hp ..).trans (congrArg Host.Outcome.next (State.report_sound hb)), State.taken_class he, fun hv => ?_,
      fun hv => State.taken_merged he hv⟩
    obtain ⟨⟨hvalid, hcls, htyp, hsrc, hmaster, hspace, hcount⟩, ⟨haddr, hsynd, hkind, htime⟩, hseq, hevt⟩ :=
      State.taken_captured (broken := false) he hv
    exact ⟨hvalid, hcls, htyp, hsrc, hmaster, hspace, hcount, haddr, hsynd, hkind, htime, hseq, hevt⟩
  · rw [exec_brokenWire_on hp, State.breakWire_broken hb]
  · refine ⟨s.wireMarked src, by rw [exec_brokenWire_on hp, State.breakWire_sound hb], ?_, State.evt_set _ _ _ (by decide),
      fun n hn hne => ?_, State.wireMarked_same s src⟩
    · rw [State.wireMarked_broken src.isLt src.isLt, decide_eq_true rfl, Bool.or_true]
    · rw [State.wireMarked_broken src.isLt hn, decide_eq_false hne, Bool.or_false]
  · refine ⟨s.wireCleared src, by rw [exec_brokenWireClear_on hp, State.mendWire_eq], ?_, rfl, fun n hn hne => ?_,
      State.wireCleared_same s src⟩
    · rw [State.wireCleared_broken src.isLt src.isLt, decide_eq_false (not_not_intro rfl), Bool.and_false]
    · rw [State.wireCleared_broken src.isLt hn, decide_eq_true hne, Bool.and_true]
  · have hw (a : Nat) : (s.storeBlock (addrOf pgFlt FLT.CAPT_ACK.SEQ.off) seq.toNat { off := 0x058, wo := 0xFFFF }).word a =
        s.word a := State.storeBlock_writeOnly_word (by decide) (by decide)
    refine ⟨_, (exec_captAckWrite_on (State.writes_powered h) ..).trans
      (congrArg Host.Outcome.next (State.captAckWrite_eq h seq.isLt)), State.emit_answers _ _, fun hseq => ?_, fun hseq a => ?_, State.emit_same (State.captAck_same
        ((State.storeBlock_writeOnly_same (n := partsMask []) (by decide) (by decide)).mono rfl) rfl) rfl⟩
    · exact State.captAck_present (hseq.trans (State.fget_of_word (hw _)).symm)
    · rw [State.emit_word, State.captAck_other (by rwa [State.fget_of_word (hw _)]), hw]

end Sys2Proof.Machine
end

section
/-! PROOFS. The packet queues: words, commits, reads and releases, flushes, and held writes that complete (R380 to R392). -/

namespace Sys2Proof.Machine

variable {s t u : State} {p q m v n off : Nat} {r : Reg} {w : Word} {x : ReelSt} {out : Out}

/-! ### Reels and the queue SRAM -/

@[simp] theorem State.setReel_reel (s : State) (q : Nat) (x : ReelSt) : (s.setReel q x).reel q = x := SMap.read_write_self ..

theorem State.setReel_reel_other (h : n ≠ q) : (s.setReel q x).reel n = s.reel n := SMap.read_write_other _ _ _ h _

theorem State.reel_of_reels (h : t.reels = s.reels) (q : Nat) : t.reel q = s.reel q := by
  unfold State.reel
  rw [h]

@[simp] theorem State.setReel_fget (s : State) (q : Nat) (x : ReelSt) (p : Nat) (f : Fld) :
    (s.setReel q x).fget p f = s.fget p f := rfl

@[simp] theorem State.setReel_hdr (s : State) (q : Nat) (x : ReelSt) (p : Nat) : (s.setReel q x).hdr p = s.hdr p := rfl

@[simp] theorem State.setReel_sram (s : State) (q : Nat) (x : ReelSt) : (s.setReel q x).sram = s.sram := rfl

@[simp] theorem State.setSram_reels (s : State) (a : Nat) (w : Word) : (s.setSram a w).reels = s.reels := rfl

theorem State.setSram_words (s : State) (k : Nat) (w : Word) (a : Nat) :
    SMap.read 0 (s.setSram k w).sram.words a = if a = k then w else SMap.read 0 s.sram.words a := by
  unfold State.setSram
  split
  next h => rw [h, SMap.read_write_self]
  next h => rw [SMap.read_write_other _ _ _ h]

/-! ### The open packet (R380, R381) -/

theorem ReelSt.withWr_self (x : ReelSt) (c : BitVec 16) : (x.withWr c.toNat).wr = c := by
  unfold ReelSt.withWr
  exact BitVec.ofNat_toNat .. |>.trans (BitVec.setWidth_eq c)

theorem ReelSt.withCm_self (x : ReelSt) (c : BitVec 16) : (x.withCm c.toNat).cm = c := by
  unfold ReelSt.withCm
  exact BitVec.ofNat_toNat .. |>.trans (BitVec.setWidth_eq c)

/-- The open packet of a reel has been rewound. -/
def ReelSt.rewound (x : ReelSt) : ReelSt := { x with openLen := 0 }.withWr x.cm.toNat

theorem State.reelRewind_reel (s : State) (q : Nat) : (s.reelRewind q).reel q = (s.reel q).rewound :=
  (State.reel_of_reels (State.finc_reels ..) q).trans (State.setReel_reel ..)

theorem State.reelWord_discard (h : (s.reel q).discard = true) : s.reelWord q w = s := if_pos h

/-- A packet that is too long has been rewound. -/
def State.reelCut (s : State) (q : Nat) : State :=
  ((s.reelRewind q).setReel q { (s.reel q).rewound with discard := true }).finc (pgReel q) REEL.CNT2.TOO_LONG

theorem State.reelWord_tooLong (hd : (s.reel q).discard = false) (hl : s.reelTooLong q = true) :
    s.reelWord q w = (s.reelCut q).evt (pgReel q) 10 := by
  unfold State.reelWord State.reelCut
  simp only
  rw [if_neg (Bool.eq_false_iff.mp hd), if_pos hl, State.reelRewind_reel]

theorem State.reelCut_reel (s : State) (q : Nat) : (s.reelCut q).reel q = { (s.reel q).rewound with discard := true } :=
  (State.reel_of_reels (State.finc_reels ..) q).trans (State.setReel_reel ..)

theorem State.reelCut_count (s : State) (q : Nat) : (s.reelCut q).fget (pgReel q) REEL.CNT2.TOO_LONG =
    min (s.fget (pgReel q) REEL.CNT2.TOO_LONG + 1) 65535 := by
  unfold State.reelCut
  rw [State.finc_fget (by decide), State.setReel_fget]
  unfold State.reelRewind
  rw [State.finc_fget_apart (by decide), State.setReel_fget]
  rfl

/-- A word has entered the open packet. -/
theorem State.reelWord_fits (hd : (s.reel q).discard = false) (hl : s.reelTooLong q = false) :
    ((s.reelWord q w).reel q).openLen = (s.reel q).openLen + 1 ∧
    ((s.reelWord q w).reel q).packets = (s.reel q).packets ∧ ((s.reelWord q w).reel q).cm = (s.reel q).cm ∧
    ∀ a, SMap.read 0 (s.reelWord q w).sram.words a =
      if a = s.reelAddr q ((s.reel q).cm.toNat + 1 + (s.reel q).openLen) then w else SMap.read 0 s.sram.words a := by
  unfold State.reelWord
  simp only
  rw [if_neg (Bool.eq_false_iff.mp hd), hl, if_neg Bool.false_ne_true, State.setReel_reel, State.setReel_sram]
  exact ⟨rfl, rfl, rfl, State.setSram_words s _ w⟩

/-- END after TOO_LONG commits nothing. -/
theorem State.reelEnd_discard (h : (s.reel q).discard = true) :
    s.reelEnd q = s.setReel q { s.reel q with discard := false } := if_pos h

/-- END without an open packet is a usage. -/
theorem State.reelEnd_none (hd : (s.reel q).discard = false) (h : (s.reel q).openLen = 0) : s.reelEnd q = s.usage (pgReel q) := by
  unfold State.reelEnd
  simp only
  rw [if_neg (Bool.eq_false_iff.mp hd), if_pos h]

theorem State.usage_count (s : State) (p : Nat) :
    ((s.usage p).hdr p).usage = min ((s.hdr p).usage + 1) (max 65535 (s.hdr p).usage) := by
  unfold State.usage
  simp only
  split
  · rw [State.evt_hdr_usage, State.setHdr_hdr_self]
    simp only
    omega
  · omega

/-- The open packet of a reel has been committed. -/
def ReelSt.committed (x : ReelSt) : ReelSt :=
  { x with openLen := 0, packets := x.packets ++ [x.openLen] }.withCm x.wr.toNat

/-- END commits the open packet, its length in its header word. -/
theorem State.reelEnd_commits (hd : (s.reel q).discard = false) (h : (s.reel q).openLen ≠ 0) : s.reelEnd q =
    ((((s.setSram (s.reelAddr q (s.reel q).cm.toNat) (BitVec.ofNat 32 (s.reel q).openLen)).setReel q
      (s.reel q).committed).finc (pgReel q) REEL.CNT.PACKETS_IN).evt (pgReel q) 8) := by
  unfold State.reelEnd
  simp only
  rw [if_neg (Bool.eq_false_iff.mp hd), if_neg h]
  rfl

theorem State.reelAbort_reel (s : State) (q : Nat) :
    (s.reelAbort q).reel q = { (s.reel q).rewound with discard := false } := by
  unfold State.reelAbort
  simp only
  rw [State.reelRewind_reel]
  exact State.setReel_reel ..

theorem State.reelAbort_count (s : State) (q : Nat) : (s.reelAbort q).fget (pgReel q) REEL.CNT.ABORTS =
    min (s.fget (pgReel q) REEL.CNT.ABORTS + 1) 65535 := by
  unfold State.reelAbort
  rw [State.setReel_fget]
  unfold State.reelRewind
  rw [State.finc_fget (by decide), State.setReel_fget]
  rfl

/-! ### The head (R382, R384) -/

/-- A read beyond the head's last word returns 0 and is a usage. -/
theorem State.reelRead_beyond (h : (s.reel q).packets.headD 0 ≤ (s.reel q).pos) : s.reelRead q = (0, s.usage (pgReel q)) := by
  unfold State.reelRead
  simp only
  split
  · rfl
  next l _ hp =>
    rw [hp] at h
    exact if_pos h

/-- A word of the head that is sound is read. -/
theorem State.reelRead_sound {a : Nat} (h : (s.reel q).pos < (s.reel q).packets.headD 0)
    (ha : a = s.reelAddr q ((s.reel q).rd.toNat + 1 + (s.reel q).pos)) (hp : s.sram.poison.contains (a / 8) = false) :
    s.reelRead q = (SMap.read 0 s.sram.words a, s.setReel q { s.reel q with pos := (s.reel q).pos + 1 }) := by
  unfold State.reelRead
  simp only
  split
  next hn =>
    rw [hn] at h
    exact absurd h (Nat.not_lt_zero _)
  next l _ hl =>
    rw [hl, List.headD_cons] at h
    rw [if_neg (Nat.not_le.mpr h), ← ha, hp, if_neg Bool.false_ne_true]

/-- A poisoned word of the head has been read. -/
def State.reelPoisoned (s : State) (q a : Nat) : State :=
  let r := s.reel q
  (s.setReel q { r with pos := r.pos + 1, poisonRead := true, poisonSeen := a / 8 :: r.poisonSeen }).evt (pgReel q) 11

/-- A poisoned word of the head reads as 0 and is reported once for its block. -/
theorem State.reelRead_poisoned {a : Nat} (h : (s.reel q).pos < (s.reel q).packets.headD 0)
    (ha : a = s.reelAddr q ((s.reel q).rd.toNat + 1 + (s.reel q).pos)) (hp : s.sram.poison.contains (a / 8) = true) :
    s.reelRead q = (0, if (s.reel q).poisonSeen.contains (a / 8) = true then s.reelPoisoned q a
      else (s.reelPoisoned q a).report { src := pgReel q, cls := 1, typ := 1, space := 3, addr := a, kind := 2 }) := by
  unfold State.reelRead
  simp only
  split
  next hn =>
    rw [hn] at h
    exact absurd h (Nat.not_lt_zero _)
  next l _ hl =>
    rw [hl, List.headD_cons] at h
    rw [if_neg (Nat.not_le.mpr h), ← ha, hp, if_pos rfl]
    rfl

/-- RELEASE frees the head. -/
theorem State.reelRelease_head {l : Nat} {rest : List Nat} (h : (s.reel q).packets = l :: rest) : s.reelRelease q =
    s.setReel q ({ s.reel q with packets := rest, pos := 0, mark := none, poisonRead := false, poisonSeen := [] }.withRd
      (((s.reel q).rd.toNat + l + 1) % s.reelSize q)) := by
  unfold State.reelRelease
  simp only [h]

theorem State.reelRelease_none (h : (s.reel q).packets = []) : s.reelRelease q = s := by
  unfold State.reelRelease
  simp only [h]

theorem State.reelRelease_other (h : n ≠ q) : (s.reelRelease q).reel n = s.reel n := by
  unfold State.reelRelease
  simp only
  split
  · rfl
  · exact State.setReel_reel_other h

/-! ### Writes of the registers of a reel -/

theorem pageOf_reel_fin (q : Fin 16) : pageOf (pgReel q) = some (.reel, q.val) := by
  rw [pageOf_reel, Nat.mod_eq_of_lt q.isLt]

theorem pageOf_reel_type (q : Nat) : (pageOf (pgReel q)).map Prod.fst = some .reel := by rw [pageOf_reel]; rfl

theorem hookStores_reel (q : Fin 16) : hookStores (pgReel q) off = false :=
  hookStores_other (by revert q; decide) (by revert q; decide) (by revert q; decide) (by revert q; decide)

theorem pgReel_ne_pgLink (q : Fin 16) : pgReel q ≠ pgLink 0 := by revert q; decide

/-- A state that agrees with another in every part. -/
abbrev State.ReadsAs (s u : State) : Prop := State.SameBut [] s u

theorem State.ReadsAs.reel {u : State} (h : s.ReadsAs u) (q : Nat) : u.reel q = s.reel q := State.reel_of_reels (h .reels rfl) q

theorem State.ReadsAs.fget {u : State} (h : s.ReadsAs u) (q : Nat) (f : Fld) : u.fget (pgReel q) f = s.fget (pgReel q) f :=
  State.SameOutside.fget h (pageOf_reel_type q) rfl

theorem State.ReadsAs.hdr {u : State} (h : s.ReadsAs u) (q : Nat) : u.hdr (pgReel q) = s.hdr (pgReel q) :=
  State.SameOutside.hdr h (pageOf_reel_type q) rfl

theorem State.ReadsAs.sram {u : State} (h : s.ReadsAs u) : u.sram = s.sram := h .sram rfl

theorem State.ReadsAs.reelSize {u : State} (h : s.ReadsAs u) (q : Nat) : u.reelSize q = s.reelSize q :=
  h.fget q REEL.CFG.SIZE

theorem State.ReadsAs.reelAddr {u : State} (h : s.ReadsAs u) (q k : Nat) : u.reelAddr q k = s.reelAddr q k := by
  unfold State.reelAddr
  rw [h.fget, h.reelSize]

theorem State.ReadsAs.reelTooLong {u : State} (h : s.ReadsAs u) (q : Nat) : u.reelTooLong q = s.reelTooLong q := by
  unfold State.reelTooLong
  rw [h.reel, h.reelSize]

/-- A write of a write-only register of a reel does what its hook does; nothing is stored. -/
theorem State.reelWrite_hook {i : Nat} (q : Fin 16) (h : s.writes m (pgReel q) off v = true) (hlo : 0x040 ≤ off)
    (hhi : off < 0x1000) (hreg : regAt REEL.regs (off % 0x1000) = some (r, i)) (hr : r.WriteOnly) (hwo : r.wo ≠ 0)
    (hro : r.ro ||| r.rc = 0) (hv : v < 2 ^ 32) : ∃ u : State, s.ReadsAs u ∧
    s.writeReg m (pgReel q) off v = (u.blockHook m (pgReel q) off v).emit (.access m 0 0) :=
  ⟨_, State.storeBlock_writeOnly_same hr (by rw [addrOf_page]; exact pgReel_ne_pgLink q),
    State.writeReg_writeOnly h hlo hhi (pageOf_reel_fin q) (by decide) hreg hr hwo hro hv (hookStores_reel q)⟩

theorem State.writeWord_hook (q : Fin 16) (data : Word) (h : s.writes m (pgReel q) REEL.WR_DATA.WORD.off data.toNat = true) :
    ∃ u : State, s.ReadsAs u ∧ s.writeReg m (pgReel q) REEL.WR_DATA.WORD.off data.toNat =
      (u.reelWord q data).emit (.access m 0 0) := by
  obtain ⟨u, hu, heq⟩ := State.reelWrite_hook (i := 0) (r := { off := 0x04C, wo := 0xFFFFFFFF }) q h (by decide) (by decide) rfl
    (by decide) (by decide) (by decide) data.isLt
  refine ⟨u, hu, heq.trans ?_⟩
  unfold State.blockHook
  rw [pageOf_reel_fin]
  simp only [if_true]
  rw [BitVec.ofNat_toNat, BitVec.setWidth_eq]

theorem State.writeCtl_hook (q : Fin 16) (h : s.writes m (pgReel q) REEL.WR_CTL.END.off v = true) (hv : v < 2 ^ 32) :
    ∃ u : State, s.ReadsAs u ∧ s.writeReg m (pgReel q) REEL.WR_CTL.END.off v = (u.reelWrCtl q v).emit (.access m 0 0) := by
  obtain ⟨u, hu, heq⟩ := State.reelWrite_hook (i := 0) (r := { off := 0x050, wo := 3 }) q h (by decide) (by decide) rfl
    (by decide) (by decide) (by decide) hv
  refine ⟨u, hu, heq.trans ?_⟩
  unfold State.blockHook
  rw [pageOf_reel_fin]
  rfl

theorem State.readCtl_hook (q : Fin 16) (h : s.writes m (pgReel q) REEL.RD_CTL.MARK.off v = true) (hv : v < 2 ^ 32) :
    ∃ u : State, s.ReadsAs u ∧ s.writeReg m (pgReel q) REEL.RD_CTL.MARK.off v = (u.reelRdCtl q v).emit (.access m 0 0) := by
  obtain ⟨u, hu, heq⟩ := State.reelWrite_hook (i := 0) (r := { off := 0x060, wo := 7 }) q h (by decide) (by decide) rfl
    (by decide) (by decide) (by decide) hv
  refine ⟨u, hu, heq.trans ?_⟩
  unfold State.blockHook
  rw [pageOf_reel_fin]
  rfl

theorem State.reelRead_hook (q : Fin 16) (h : s.reads m (pgReel q) REEL.RD_DATA.WORD.off = true) :
    s.readReg m (pgReel q) REEL.RD_DATA.WORD.off =
      (s.reelRead q).2.emit (.access m 0 (s.reelRead q).1.toNat) := by
  have hread : s.readBlock (addrOf (pgReel q) REEL.RD_DATA.WORD.off) { off := 0x05C, ro := 0xFFFFFFFF } =
      ((s.reelRead q).1.toNat, (s.reelRead q).2) := by
    unfold State.readBlock
    rw [addrOf_page, pageOf_reel_fin, addrOf_off]
    exact if_pos rfl
  rw [State.readBlock_eq (r := { off := 0x05C, ro := 0xFFFFFFFF }) (i := 0) h (by decide) (by decide)
    ((regOf_addrOf (pageOf_reel_fin q) (by decide)).trans rfl), hread]

/-! ### FLUSH (R392) -/

/-- The access of a command that its page takes starts the command and runs it. -/
theorem State.accepts_access {opcode arg : Nat} (h : s.accepts m p opcode arg = true) (ho : opcode < 256) (ha : arg < 2 ^ 24) :
    s.accessAt (writeAccess m p 0x020 (opcode + 256 * arg)) (addrOf p 0x020) =
      (0, 0, (s.cmdStart p opcode arg m).cmdRun m p opcode arg) := by
  simp only [State.accepts, State.writes, Bool.and_eq_true, Bool.not_eq_true', Option.isNone_iff_eq_none,
    Bool.or_eq_true] at h
  obtain ⟨⟨⟨⟨⟨⟨⟨-, hcheck⟩, -⟩, howner⟩, hdenied⟩, hrun⟩, hknown⟩, hrefused⟩ := h
  have hother : ((s.hdr p).owner.isSome && !s.holds m p) = false := by
    rcases howner with hfree | hheld
    · rw [hfree]; rfl
    · rw [hheld]; simp
  have hop : (opcode + 256 * arg) % 256 = opcode := by omega
  have harg : (opcode + 256 * arg) / 256 % 2 ^ 24 = arg := by omega
  have hwrite : s.writeHeader m p 0x20 (opcode + 256 * arg) = (0, (s.cmdStart p opcode arg m).cmdRun m p opcode arg) := by
    unfold State.writeHeader
    simp only [headerFixed, List.contains_cons]
    simp (config := { decide := true }) only [hother, Bool.false_eq_true, if_false, hop, harg, hdenied]
    unfold State.cmdWrite
    simp [hrun, hknown, hrefused]
  obtain ⟨c, hcap⟩ := State.accessCheck_cap hcheck
  simp only [addrOf_rel, addrOf_page] at hcap
  unfold State.accessAt
  rw [addrOf_off, addrOf_page, hcap, if_pos (by decide), show (0x20 % 0x1000 : Nat) = 0x20 from rfl]
  unfold State.headerAccess
  simp only [writeAccess_data (m := m) (p := p) (off := 0x020) (show opcode + 256 * arg < 2 ^ 32 by omega)]
  exact congrArg (fun r : Nat × State => (r.1, 0, r.2)) hwrite

/-- A reel has been flushed. -/
def State.reelFlushed (s : State) (m q : Nat) : State :=
  ((((s.cmdStart (pgReel q) 0x10 0 m).reelEmpty q).cmdDone (pgReel q)).dropHeldWrites q).emit (.access m 0 0)

theorem flushes_reel (q : Fin 16) : (writeAccess m (pgReel q) 0x020 0x10).flushes = some q.val := by
  have hfind : (List.range 16).find? (fun k => 0x02000000 + addrOf (pgReel q) 0x020 = 0x02000000 + addrOf (pgReel k) 0x020) =
      some q.val := by
    revert q
    decide
  exact (if_pos rfl).trans hfind

/-- An access that flushes a reel lets the held accesses go on. -/
theorem State.issue_flushes {data addr : Nat} {wr : Bool} {a : Access} (e : a = ⟨m, wr, addr, BitVec.ofNat 32 data, false⟩)
    (hw : s.waits m = false) (hh : s.accessHeld a = false) (hf : a.flushes.isSome = true) :
    s.issue m wr addr data = ((s.doAccess a).2.2.deliver a (s.doAccess a).1 (s.doAccess a).2.1).resume := by
  unfold State.issue
  rw [← e]
  simp only [hw, hh, hf, Bool.or_self, Bool.false_eq_true, if_false, if_true]

theorem State.flush_eq (q : Fin 16) (h : s.accepts m (pgReel q) 0x10 0 = true) :
    s.command m (pgReel q) 0x10 0 = (s.reelFlushed m q).resume := by
  have haccess := State.accepts_access h (by decide) (by decide)
  have hrun : (s.cmdStart (pgReel q) 0x10 0 m).cmdRun m (pgReel q) 0x10 0 =
      ((s.cmdStart (pgReel q) 0x10 0 m).reelEmpty q).cmdDone (pgReel q) := by
    unfold State.cmdRun
    rw [pageOf_reel_fin]
    rfl
  simp only [State.accepts, State.writes, Bool.and_eq_true, Bool.not_eq_true', Option.isNone_iff_eq_none] at h
  obtain ⟨⟨⟨⟨⟨⟨⟨⟨-, hwaits⟩, hcheck⟩, hheld⟩, -⟩, -⟩, -⟩, -⟩, -⟩ := h
  have hperform : s.perform (writeAccess m (pgReel q) 0x020 0x10) =
      (0, 0, ((s.cmdStart (pgReel q) 0x10 0 m).reelEmpty q).cmdDone (pgReel q)) := by
    unfold State.perform
    rw [show s.accessCheck (writeAccess m (pgReel q) 0x020 0x10) = none from hcheck]
    unfold State.accessChecked State.accessReg
    rw [writeAccess_rel]
    rw [haccess, hrun]
    rfl
  have hdo : s.doAccess (writeAccess m (pgReel q) 0x020 0x10) = (0, 0,
      (((s.cmdStart (pgReel q) 0x10 0 m).reelEmpty q).cmdDone (pgReel q)).dropHeldWrites q) := by
    unfold State.doAccess
    rw [hperform, flushes_reel]
    rfl
  have hissue := State.issue_flushes (s := s) (a := writeAccess m (pgReel q) 0x020 0x10) (data := 0x10) rfl hwaits hheld
    (by rw [flushes_reel]; rfl)
  rw [hdo] at hissue
  exact hissue

/-! ### What the writes come to -/

theorem State.emit_reel (s : State) (out : Out) (q : Nat) : (s.emit out).reel q = s.reel q := rfl

theorem ReelSt.rewound_wr (x : ReelSt) : x.rewound.wr = x.cm := ReelSt.withWr_self { x with openLen := 0 } x.cm

/-- A word of a packet that is one too many, or that enters the open packet, as the states before and after it show. -/
theorem State.wordWritten (hu : s.ReadsAs u) (data : Word) (ht : t = (u.reelWord q data).emit out) :
    ((s.reel q).discard = true → t.reels = s.reels ∧ t.sram = s.sram) ∧
    ((s.reel q).discard = false → s.reelTooLong q = true → (t.reel q).openLen = 0 ∧ (t.reel q).discard = true ∧
      (t.reel q).wr = (s.reel q).cm ∧ (t.reel q).packets = (s.reel q).packets ∧
      (t.hdr (pgReel q)).evt.getLsbD 10 = true ∧
      t.fget (pgReel q) REEL.CNT2.TOO_LONG = min (s.fget (pgReel q) REEL.CNT2.TOO_LONG + 1) 65535 ∧ t.sram = s.sram) ∧
    ((s.reel q).discard = false → s.reelTooLong q = false → (t.reel q).openLen = (s.reel q).openLen + 1 ∧
      (t.reel q).packets = (s.reel q).packets ∧ (t.reel q).cm = (s.reel q).cm ∧
      (∀ a, SMap.read 0 t.sram.words a =
        if a = s.reelAddr q ((s.reel q).cm.toNat + 1 + (s.reel q).openLen) then data else SMap.read 0 s.sram.words a)) ∧
    State.SameBut [.reels, .sram, .out, .page .reel] s t := by
  subst ht
  refine ⟨fun hd => ?_, fun hd hl => ?_, fun hd hl => ?_, State.emit_same (State.reelWord_same (hu.mono rfl) rfl) rfl⟩
  · rw [State.reelWord_discard (by rw [hu.reel, hd])]
    exact ⟨hu .reels rfl, hu.sram⟩
  · have hreel : ((u.reelCut q).evt (pgReel q) 10).reel q = { (s.reel q).rewound with discard := true } := by
      rw [State.reel_of_reels (State.evt_reels ..), State.reelCut_reel, hu.reel]
    rw [State.reelWord_tooLong (by rw [hu.reel, hd]) (by rw [hu.reelTooLong, hl]), State.emit_reel, hreel]
    refine ⟨rfl, rfl, (s.reel q).rewound_wr, rfl, State.evt_set _ _ _ (by decide), ?_, ?_⟩
    · rw [State.emit_fget, State.evt_fget, State.reelCut_count, hu.fget]
    · rw [State.emit_sram, State.evt_sram]
      exact hu.sram
  · obtain ⟨hlen, hpackets, hcm, hsram⟩ := State.reelWord_fits (w := data) (show (u.reel q).discard = false by rw [hu.reel, hd])
      (show u.reelTooLong q = false by rw [hu.reelTooLong, hl])
    rw [hu.reel] at hlen hpackets hcm hsram
    refine ⟨hlen, hpackets, hcm, fun a => ?_⟩
    rw [State.emit_sram, hsram, hu.reelAddr, hu.sram]

/-- What END commits. -/
theorem State.endWritten (hu : s.ReadsAs u) (ht : t = (u.reelEnd q).emit out) :
    ((s.reel q).discard = true → t.reel q = { s.reel q with discard := false } ∧ t.sram = s.sram) ∧
    ((s.reel q).discard = false → (s.reel q).openLen = 0 → t.reels = s.reels ∧
      (t.hdr (pgReel q)).usage = min ((s.hdr (pgReel q)).usage + 1) (max 65535 (s.hdr (pgReel q)).usage)) ∧
    ((s.reel q).discard = false → (s.reel q).openLen ≠ 0 → (t.reel q).packets = (s.reel q).packets ++ [(s.reel q).openLen] ∧
      (t.reel q).openLen = 0 ∧ (t.reel q).cm = (s.reel q).wr ∧ (t.hdr (pgReel q)).evt.getLsbD 8 = true ∧
      t.fget (pgReel q) REEL.CNT.PACKETS_IN = min (s.fget (pgReel q) REEL.CNT.PACKETS_IN + 1) 65535 ∧
      (∀ a, SMap.read 0 t.sram.words a =
        if a = s.reelAddr q (s.reel q).cm.toNat then BitVec.ofNat 32 (s.reel q).openLen else SMap.read 0 s.sram.words a)) ∧
    State.SameBut [.reels, .sram, .out, .page .reel] s t := by
  subst ht
  refine ⟨fun hd => ?_, fun hd h => ?_, fun hd h => ?_, State.emit_same (State.reelEnd_same (hu.mono rfl) rfl) rfl⟩
  · rw [State.reelEnd_discard (by rw [hu.reel, hd]), State.emit_reel, State.setReel_reel, hu.reel]
    exact ⟨rfl, hu.sram⟩
  · rw [State.reelEnd_none (by rw [hu.reel, hd]) (by rw [hu.reel, h])]
    refine ⟨(State.usage_reels ..).trans (hu .reels rfl), ?_⟩
    rw [← hu.hdr]
    exact State.usage_count ..
  · rw [State.reelEnd_commits (by rw [hu.reel, hd]) (by rwa [hu.reel]), State.emit_reel,
      State.reel_of_reels (State.evt_reels ..), State.reel_of_reels (State.finc_reels ..), State.setReel_reel, hu.reel]
    refine ⟨rfl, rfl, ReelSt.withCm_self _ _, State.evt_set _ _ _ (by decide), ?_, fun a => ?_⟩
    · rw [State.emit_fget, State.evt_fget, State.finc_fget (by decide), State.setReel_fget, ← hu.fget]
      rfl
    · rw [State.emit_sram, State.evt_sram, State.finc_sram, State.setReel_sram, State.setSram_words, hu.reelAddr, hu.sram]

/-- What ABORT rewinds. -/
theorem State.abortWritten (hu : s.ReadsAs u) (ht : t = (u.reelAbort q).emit out) :
    (t.reel q).openLen = 0 ∧ (t.reel q).wr = (s.reel q).cm ∧ (t.reel q).discard = false ∧
    (t.reel q).packets = (s.reel q).packets ∧
    t.fget (pgReel q) REEL.CNT.ABORTS = min (s.fget (pgReel q) REEL.CNT.ABORTS + 1) 65535 ∧
    State.SameBut [.reels, .out, .page .reel] s t := by
  subst ht
  rw [State.emit_reel, State.reelAbort_reel, hu.reel]
  refine ⟨rfl, (s.reel q).rewound_wr, rfl, rfl, ?_, State.emit_same (State.reelAbort_same (hu.mono rfl) rfl) rfl⟩
  rw [State.emit_fget, State.reelAbort_count, hu.fget]

/-- Setting a reel sets no other. -/
theorem State.reelSet (hu : s.ReadsAs u) (ht : t = (u.setReel q x).emit out) :
    t.reel q = x ∧ (∀ n, n ≠ q → t.reel n = s.reel n) ∧ State.SameBut [.reels, .out] s t := by
  subst ht
  refine ⟨State.setReel_reel .., fun n hn => (State.setReel_reel_other hn).trans (hu.reel n),
    State.emit_same (State.setReel_same (hu.mono rfl) rfl) rfl⟩

theorem State.reelWrCtl_end (s : State) (q : Nat) : s.reelWrCtl q 1 = s.reelEnd q := rfl

theorem State.reelWrCtl_abort (s : State) (q : Nat) : s.reelWrCtl q 2 = s.reelAbort q := rfl

theorem State.reelRdCtl_mark (s : State) (q : Nat) : s.reelRdCtl q 1 = s.reelMark q := rfl

theorem State.reelRdCtl_rewind (s : State) (q : Nat) : s.reelRdCtl q 2 = s.reelRewindRead q := rfl

theorem State.reelRdCtl_release (s : State) (q : Nat) : s.reelRdCtl q 4 = (s.reelRelease q).reelUnstall q := rfl

/-! ### Accesses that were held (R61, R381) -/

theorem State.reelFlushed_reel (s : State) (m q : Nat) : (s.reelFlushed m q).reel q = {} := by
  have hdrop : State.SameOutside 3221225504 _
      ((((s.cmdStart (pgReel q) 0x10 0 m).reelEmpty q).cmdDone (pgReel q)).dropHeldWrites q) :=
    State.dropHeldWrites_same (State.SameOutside.refl _ _) rfl
  exact (State.reel_of_reels (hdrop .reels rfl) q).trans
    ((State.reel_of_reels (State.cmdDone_reels ..) q).trans (State.setReel_reel ..))

theorem State.reelFlushed_done (s : State) (m q : Nat) : (s.reelFlushed m q).Done (pgReel q) 0x10 m := by
  have hdrop : State.SameOutside 3221225504 _
      ((((s.cmdStart (pgReel q) 0x10 0 m).reelEmpty q).cmdDone (pgReel q)).dropHeldWrites q) :=
    State.dropHeldWrites_same (State.SameOutside.refl _ _) rfl
  have hhdr : (s.reelFlushed m q).hdr (pgReel q) =
      (((s.cmdStart (pgReel q) 0x10 0 m).reelEmpty q).cmdDone (pgReel q)).hdr (pgReel q) := by
    unfold State.reelFlushed
    rw [State.emit_hdr]
    exact State.SameOutside.hdr hdrop (pageOf_reel_type q) rfl
  unfold State.Done
  rw [hhdr]
  exact State.cmdDone_done _ _ (State.cmdStart_run s (pgReel q) (g := 0))

theorem State.reelFlushed_same (s : State) (m q : Nat) :
    State.SameBut [.reels, .links, .waiting, .out, .page .reel] s (s.reelFlushed m q) :=
  State.emit_same (State.dropHeldWrites_same (State.cmdDone_same (State.reelEmpty_same (State.cmdStart_same
    (State.SameOutside.refl _ _) rfl (pageMask_reel _ rfl)) rfl) rfl (pageMask_reel _ rfl)) rfl) rfl

/-- The positions of a reel disagreed: it is empty, and RESETS counts. -/
def State.reelReset (s : State) (q : Nat) : State := ((s.reelEmpty q).finc (pgReel q) REEL.CNT2.RESETS).evt (pgReel q) 9

theorem State.reelFault_eq (s : State) (q : Nat) :
    s.reelFault q = (((s.reelReset q).reportDrop (pgReel q)).dropHeldWrites q).resume := rfl

theorem State.reelReset_reel (s : State) (q : Nat) : (s.reelReset q).reel q = {} :=
  (State.reel_of_reels (State.evt_reels ..) q).trans (State.setReel_reel s q {})

theorem State.reelReset_count (s : State) (q : Nat) : (s.reelReset q).fget (pgReel q) REEL.CNT2.RESETS =
    min (s.fget (pgReel q) REEL.CNT2.RESETS + 1) 65535 := by
  unfold State.reelReset
  rw [State.evt_fget, State.finc_fget (by decide)]
  rfl

theorem State.reelReset_same (s : State) (q : Nat) : State.SameBut [.reels, .out, .page .reel] s (s.reelReset q) :=
  State.evt_same (State.finc_same (State.reelEmpty_same (State.SameOutside.refl _ _) rfl) rfl (pageMask_reel _ rfl)) rfl
    (pageMask_reel _ rfl)

/-- With no request on any link, the only access that waits completes, and that is all. -/
theorem State.resume_one {a : Access} (hw : s.waiting = [a]) (hh : s.accessHeld a = false) (hctl : a.ctl = false)
    (ht : t = ({ s with waiting := [] }.doAccess a).2.2.deliver a ({ s with waiting := [] }.doAccess a).1
      ({ s with waiting := [] }.doAccess a).2.1)
    (hwait : t.waiting = []) (hlinks : ∀ n, n < 6 → (t.link n).ctl = []) : s.resume = t := by
  have hone : s.resumeOne = some t := by
    unfold State.resumeOne
    simp [hw, hh, hctl, ← ht]
  have hnone : t.resumeOne = none := by
    unfold State.resumeOne
    rw [hwait]
    rfl
  have hrest (k : Nat) : State.resumeN k t = t := by
    cases k with
    | zero => rfl
    | succ k =>
      unfold State.resumeN
      rw [hnone]
  have hlink {n : Nat} (hn : n < 6) : t.ctlRun n = t := by
    unfold State.ctlRun State.ctlSteps
    rw [hlinks n hn]
    unfold State.ctlDrive State.ctlAdvance
    simp [hlinks n hn]
  have hall (l : List Nat) (hl : ∀ n ∈ l, n < 6) : l.foldl (fun s n => s.ctlRun n) t = t := by
    induction l with
    | nil => rfl
    | cons n l ih => rw [List.foldl_cons, hlink (hl n (.head _)), ih fun k hk => hl k (.tail _ hk)]
  unfold State.resume
  simp only
  rw [hw, List.length_singleton, Nat.add_comm]
  unfold State.resumeN
  rw [hone]
  simp only
  rw [hrest, hall _ fun n hn => List.mem_range.mp hn]

theorem State.accessCheck_waiting (s : State) (l : List Access) (a : Access) :
    { s with waiting := l }.accessCheck a = s.accessCheck a := by
  have hon : { s with waiting := l }.domOn = s.domOn := rfl
  have hdenied : { s with waiting := l }.denied = s.denied := rfl
  unfold State.accessCheck
  rw [hon, hdenied]

theorem State.accessHeld_waiting (s : State) (l : List Access) (a : Access) :
    { s with waiting := l }.accessHeld a = s.accessHeld a := by
  have hbusy : { s with waiting := l }.fbit = s.fbit := rfl
  have hfull : { s with waiting := l }.reelFull = s.reelFull := rfl
  unfold State.accessHeld
  rw [State.accessCheck_waiting, hbusy, hfull]

/-- A word that waited for space of its reel, with nothing else to do, is written. -/
theorem State.resume_word {a : Access} {data : Word} (q : Fin 16) (hp : s.boot.powered = true)
    (ha : a = { master := m, write := true, addr := 0x02000000 + addrOf (pgReel q) REEL.WR_DATA.WORD.off, data := data })
    (hw : s.waiting = [a]) (hc : s.accessCheck a = none) (hh : s.accessHeld a = false)
    (hlinks : ∀ n, n < 6 → (s.link n).ctl = []) : ∃ u : State, State.ReadsAs { s with waiting := [] } u ∧
      s.resume = (u.reelWord q data).emit (.access m 0 0) := by
  have hacc : a = writeAccess m (pgReel q) REEL.WR_DATA.WORD.off data.toNat := by
    rw [ha]
    unfold writeAccess
    rw [BitVec.ofNat_toNat, BitVec.setWidth_eq]
  have hwrites : { s with waiting := [] }.writes m (pgReel q) REEL.WR_DATA.WORD.off data.toNat = true := by
    rw [hacc] at hc hh
    simp only [State.writes, Bool.and_eq_true, Bool.not_eq_true', Option.isNone_iff_eq_none]
    rw [State.accessCheck_waiting, State.accessHeld_waiting]
    exact ⟨⟨⟨hp, rfl⟩, hc⟩, hh⟩
  obtain ⟨u, hu, heq⟩ := State.writeWord_hook q data hwrites
  have hkept : State.SameBut [.reels, .sram, .out, .page .reel] { s with waiting := [] }
      ((u.reelWord q data).emit (.access m 0 0)) := State.emit_same (State.reelWord_same (hu.mono rfl) rfl) rfl
  refine ⟨u, hu, State.resume_one hw hh (by rw [ha]) ?_ (hkept .waiting rfl) fun n hn => ?_⟩
  · rw [← heq, hacc]
    exact State.issue_once rfl rfl ((State.accessHeld_waiting ..).trans (hacc ▸ hh)) (writeAccess_flushes (by decide) (by decide))
  · unfold State.link
    rw [hkept .links rfl]
    exact hlinks n hn

/-! ### The obligation -/

theorem exec_reelWrData_on (h : s.boot.powered = true) (m : Master) (q : Fin 16) (data : BitVec 32) :
    exec (.reelWrData m q data) s = .next (s.writeReg m.id (pgReel q) REEL.WR_DATA.WORD.off data.toNat) :=
  congrArg Host.Outcome.next (State.live_on h _)

theorem exec_reelEnd_on (h : s.boot.powered = true) (m : Master) (q : Fin 16) :
    exec (.reelEnd m q) s = .next (s.writeReg m.id (pgReel q) REEL.WR_CTL.END.off 1) :=
  congrArg Host.Outcome.next (State.live_on h _)

theorem exec_reelAbort_on (h : s.boot.powered = true) (m : Master) (q : Fin 16) :
    exec (.reelAbort m q) s = .next (s.writeReg m.id (pgReel q) REEL.WR_CTL.END.off 2) :=
  congrArg Host.Outcome.next (State.live_on h _)

theorem exec_reelRdData_on (h : s.boot.powered = true) (m : Master) (q : Fin 16) :
    exec (.reelRdData m q) s = .next (s.readReg m.id (pgReel q) REEL.RD_DATA.WORD.off) :=
  congrArg Host.Outcome.next (State.live_on h _)

theorem exec_reelMark_on (h : s.boot.powered = true) (m : Master) (q : Fin 16) :
    exec (.reelMark m q) s = .next (s.writeReg m.id (pgReel q) REEL.RD_CTL.MARK.off 1) :=
  congrArg Host.Outcome.next (State.live_on h _)

theorem exec_reelRewind_on (h : s.boot.powered = true) (m : Master) (q : Fin 16) :
    exec (.reelRewind m q) s = .next (s.writeReg m.id (pgReel q) REEL.RD_CTL.MARK.off 2) :=
  congrArg Host.Outcome.next (State.live_on h _)

theorem exec_reelRelease_on (h : s.boot.powered = true) (m : Master) (q : Fin 16) :
    exec (.reelRelease m q) s = .next (s.writeReg m.id (pgReel q) REEL.RD_CTL.MARK.off 4) :=
  congrArg Host.Outcome.next (State.live_on h _)

theorem exec_reelFlush_on (h : s.boot.powered = true) (m : Master) (q : Fin 16) :
    exec (.reelFlush m q) s = .next (s.command m.id (pgReel q) 0x10 0) :=
  congrArg Host.Outcome.next (State.live_on h _)

theorem exec_ptrReset_on (h : s.boot.powered = true) (q : Fin 16) : exec (.ptrReset q) s = .next (s.reelFault q) :=
  congrArg Host.Outcome.next (State.live_on h _)

theorem exec_reelWriteResume_on (h : s.boot.powered = true) (q : Fin 16) :
    exec (.reelWriteResume q) s = .next (s.reelResume q) :=
  congrArg Host.Outcome.next (State.live_on h _)

/-- What a read of RD_DATA returns, of a head read to its end, of a sound word and of a poisoned one. -/
theorem State.headRead (q : Fin 16) (h : s.reads m (pgReel q) REEL.RD_DATA.WORD.off = true) :
    ((s.reel q).packets.headD 0 ≤ (s.reel q).pos → ∃ t : State, s.readReg m (pgReel q) REEL.RD_DATA.WORD.off = t ∧
      t.Answers (.access m 0 0) ∧ t.reels = s.reels ∧ State.SameBut [.out, .page .reel] s t) ∧
    (∀ a, (s.reel q).pos < (s.reel q).packets.headD 0 → a = s.reelAddr q ((s.reel q).rd.toNat + 1 + (s.reel q).pos) →
      (s.sram.poison.contains (a / 8) = false → ∃ t : State, s.readReg m (pgReel q) REEL.RD_DATA.WORD.off = t ∧
        t.Answers (.access m 0 (SMap.read 0 s.sram.words a).toNat) ∧
        t.reel q = { s.reel q with pos := (s.reel q).pos + 1 } ∧
        (∀ n, n ≠ q.val → t.reel n = s.reel n) ∧ State.SameBut [.reels, .out] s t) ∧
      (s.sram.poison.contains (a / 8) = true → s.readReg m (pgReel q) REEL.RD_DATA.WORD.off = State.emit (
        if (s.reel q).poisonSeen.contains (a / 8) = true then s.reelPoisoned q a
        else (s.reelPoisoned q a).report { src := pgReel q, cls := 1, typ := 1, space := 3, addr := a, kind := 2 })
        (.access m 0 0))) := by
  have hread := State.reelRead_hook q h
  refine ⟨fun hb => ?_, fun a hlt ha => ⟨fun hs => ?_, fun hp => ?_⟩⟩
  · rw [State.reelRead_beyond hb] at hread
    exact ⟨_, hread, State.emit_answers _ _, State.usage_reels ..,
      State.emit_same (State.usage_same (State.SameOutside.refl _ _) rfl (pageMask_reel _ rfl)) rfl⟩
  · rw [State.reelRead_sound hlt ha hs] at hread
    exact ⟨_, hread, State.emit_answers _ _, State.reelSet (State.SameOutside.refl _ _) rfl⟩
  · rw [State.reelRead_poisoned hlt ha hp] at hread
    exact hread

theorem State.reelPoisoned_reel (s : State) (q a : Nat) : (s.reelPoisoned q a).reel q =
    { s.reel q with pos := (s.reel q).pos + 1, poisonRead := true, poisonSeen := a / 8 :: (s.reel q).poisonSeen } :=
  (State.reel_of_reels (State.evt_reels ..) q).trans (State.setReel_reel ..)

theorem State.reelPoisoned_same (s : State) (q a : Nat) :
    State.SameBut [.reels, .out, .page .reel] s (s.reelPoisoned q a) :=
  State.evt_same (State.setReel_same (State.SameOutside.refl _ _) rfl) rfl (pageMask_reel _ rfl)

/-- Settles O51: each register of a reel does what the law of its own operation says; a held word is written as any other. -/
theorem reelsHoldPackets : Obligations.ReelsHoldPackets := by
  unfold Obligations.ReelsHoldPackets
  rintro s m q _ rfl
  refine ⟨fun data h => ?_, fun h => ?_, fun h => ?_, fun h => ?_, fun h => ?_, fun h => ?_, fun h => ?_, fun h => ?_,
    fun hp => ?_, fun a data hp hst ha hw hc hh hd hl hlinks => ?_⟩
  · obtain ⟨u, hu, heq⟩ := State.writeWord_hook q data h
    exact ⟨_, (exec_reelWrData_on (State.writes_powered h) ..).trans (congrArg Host.Outcome.next heq),
      State.emit_answers _ _, State.wordWritten hu data rfl⟩
  · obtain ⟨u, hu, heq⟩ := State.writeCtl_hook q h (by decide)
    rw [State.reelWrCtl_end] at heq
    exact ⟨_, (exec_reelEnd_on (State.writes_powered h) ..).trans (congrArg Host.Outcome.next heq),
      State.emit_answers _ _, State.endWritten hu rfl⟩
  · obtain ⟨u, hu, heq⟩ := State.writeCtl_hook q h (by decide)
    rw [State.reelWrCtl_abort] at heq
    exact ⟨_, (exec_reelAbort_on (State.writes_powered h) ..).trans (congrArg Host.Outcome.next heq),
      State.emit_answers _ _, State.abortWritten hu rfl⟩
  · rw [exec_reelRdData_on (State.reads_powered h)]
    obtain ⟨hbeyond, hword⟩ := State.headRead q h
    refine ⟨fun hb => ?_, fun a hlt ha => ⟨fun hs => ?_, fun hpoison => ?_⟩⟩
    · obtain ⟨t, heq, hrest⟩ := hbeyond hb
      exact ⟨t, congrArg Host.Outcome.next heq, hrest⟩
    · obtain ⟨t, heq, hrest⟩ := (hword a hlt ha).1 hs
      exact ⟨t, congrArg Host.Outcome.next heq, hrest⟩
    · exact ⟨s.reelPoisoned q a, State.reelPoisoned_reel .., State.evt_set _ _ _ (by decide), State.reelPoisoned_same _ _ _,
        congrArg Host.Outcome.next ((hword a hlt ha).2 hpoison)⟩
  · obtain ⟨u, hu, heq⟩ := State.readCtl_hook q h (by decide)
    rw [State.reelRdCtl_mark] at heq
    unfold State.reelMark at heq
    rw [hu.reel] at heq
    exact ⟨_, (exec_reelMark_on (State.writes_powered h) ..).trans (congrArg Host.Outcome.next heq),
      State.emit_answers _ _, State.reelSet hu rfl⟩
  · obtain ⟨u, hu, heq⟩ := State.readCtl_hook q h (by decide)
    rw [State.reelRdCtl_rewind] at heq
    unfold State.reelRewindRead at heq
    rw [hu.reel] at heq
    exact ⟨_, (exec_reelRewind_on (State.writes_powered h) ..).trans (congrArg Host.Outcome.next heq),
      State.emit_answers _ _, State.reelSet hu rfl⟩
  · obtain ⟨u, hu, heq⟩ := State.readCtl_hook q h (by decide)
    rw [State.reelRdCtl_release] at heq
    refine ⟨u.reelRelease q, (exec_reelRelease_on (State.writes_powered h) ..).trans (congrArg Host.Outcome.next heq),
      fun hn => ?_, fun l rest hl => ?_, fun n hn => (State.reelRelease_other hn).trans (hu.reel n),
      State.reelRelease_same (hu.mono rfl) rfl⟩
    · rw [State.reelRelease_none (by rw [hu.reel, hn])]
      exact hu .reels rfl
    · rw [State.reelRelease_head (show (u.reel q).packets = l :: rest by rw [hu.reel, hl]), State.setReel_reel, hu.reel,
        hu.reelSize]
      exact ⟨rfl, rfl, rfl, rfl, rfl, rfl, rfl⟩
  · exact ⟨s.reelFlushed m.id q, (exec_reelFlush_on (State.accepts_powered h) ..).trans
      (congrArg Host.Outcome.next (State.flush_eq q h)), State.reelFlushed_reel .., State.reelFlushed_done ..,
      State.emit_answers _ _, State.reelFlushed_same _ _ _⟩
  · exact ⟨s.reelReset q, (exec_ptrReset_on hp q).trans (congrArg Host.Outcome.next (State.reelFault_eq s q)),
      State.reelReset_reel .., State.reelReset_count .., State.evt_set _ _ _ (by decide), State.reelReset_same _ _⟩
  · obtain ⟨u, hu, heq⟩ := State.resume_word q hp ha hw hc hh hlinks
    obtain ⟨-, -, hfits, hsame⟩ := State.wordWritten hu data (out := .access m.id 0 0) rfl
    obtain ⟨hlen, hpackets, -, -⟩ := hfits hd hl
    have hres : s.reelResume q = s.resume := by
      unfold State.reelResume State.reelUnstall
      simp only [hst]
    exact ⟨_, (exec_reelWriteResume_on hp q).trans (congrArg Host.Outcome.next (hres.trans heq)), hsame .waiting rfl,
      State.emit_answers _ _, hlen, hpackets,
      (State.SameOutside.set_waiting (State.SameOutside.refl _ s) rfl).trans (hsame.mono rfl)⟩

end Sys2Proof.Machine
end

section
/-! PROOFS. Resets, the loader, restarts of MGT, the bench port and loss of supply (R366, R533 to R547, R554). -/

namespace Sys2Proof.Machine

variable {s t u x y : State} {p q m v n off cause straps op i tg slot r at_ : Nat} {f g : Fld}
  {l l' : List Nat} {w : Word} {out : Out} {img : List Nat} {d : DirCopy}

/-! ### Changes of the registers of some pages alone -/

/-- Only registers of listed pages have changed, and no header. -/
structure State.Shows (l : List Nat) (s t : State) : Prop where
  rest : t = { s with pages := t.pages }
  hdr : t.pages.hdr = s.pages.hdr
  group : t.pages.group = s.pages.group
  other : ∀ p, p ∉ l → State.SamePage p s t

theorem State.Shows.refl (l : List Nat) (s : State) : State.Shows l s s where
  rest := rfl
  hdr := rfl
  group := rfl
  other p _ := State.SamePage.refl p s

theorem State.Shows.trans (h : State.Shows l s t) (h' : State.Shows l t u) : State.Shows l s u where
  rest := h'.rest.trans (congrArg (fun y : State => { y with pages := u.pages }) h.rest)
  hdr := h'.hdr.trans h.hdr
  group := h'.group.trans h.group
  other p hp := (h.other p hp).trans (h'.other p hp)

theorem State.Shows.mono (h : State.Shows l s t) (hl : l ⊆ l') : State.Shows l' s t where
  rest := h.rest
  hdr := h.hdr
  group := h.group
  other p hp := h.other p fun hmem => hp (hl hmem)

theorem State.Shows.setWord (h : State.Shows l s t) (hp : p ∈ l) (off : Nat) (w : Word) :
    State.Shows l s (t.setWord (addrOf p off) w) :=
  h.trans ⟨rfl, rfl, rfl, fun _ hq => ⟨rfl, fun _ =>
    ⟨State.setWord_word_other _ _ _ _ (addrOf_ne fun e => hq (e ▸ hp)), rfl, rfl, rfl⟩⟩⟩

theorem State.Shows.setSnapWord (h : State.Shows l s t) (hp : p ∈ l) (off : Nat) (w : Word) :
    State.Shows l s (t.setSnapWord (addrOf p off) w) :=
  h.trans ⟨rfl, rfl, rfl, fun q hq => ⟨rfl, fun _ =>
    ⟨rfl, rfl, rfl, SMap.read_write_other 0 0 _ (addrOf_ne (p := q) (q := p) fun e => hq (e ▸ hp)) w⟩⟩⟩

theorem State.Shows.fset (h : State.Shows l s t) (hp : p ∈ l) (f : Fld) (v : Nat) : State.Shows l s (t.fset p f v) :=
  h.setWord hp f.off _

theorem State.Shows.fsetB (h : State.Shows l s t) (hp : p ∈ l) (f : Fld) (b : Bool) : State.Shows l s (t.fsetB p f b) :=
  h.fset hp f _

theorem State.Shows.page_hdr (h : State.Shows l s t) (p : Nat) : t.hdr p = s.hdr p := by
  unfold State.hdr
  rw [h.hdr]

/-! ### What every reset clears (R533) -/

/-- The pages that show more than their reset values after a power-on. -/
def shownPages : List Nat := [pgSys, pgFw, pgCad, pgLink 0]

theorem State.showOtp_shows (s : State) : State.Shows shownPages s s.showOtp :=
  (((((State.Shows.refl _ s).fset (p := pgFw) (by decide) _ _).fset (by decide) _ _).fset (by decide) _ _).fsetB
    (by decide) _ _).fsetB (by decide) _ _

theorem State.showKey_shows (s : State) : State.Shows shownPages s s.showKey := by
  unfold State.showKey
  split
  · exact ((State.Shows.refl _ s).fset (by decide) _ _).fset (by decide) _ _
  · exact ((State.Shows.refl _ s).fset (by decide) _ _).fset (by decide) _ _

theorem State.sampleStraps_shows (s : State) (pins : Nat) : State.Shows shownPages s (s.sampleStraps pins) :=
  ((State.Shows.refl _ s).fset (by decide) _ _).fsetB (by decide) _ _

theorem State.powerOnReset_shows (s : State) (pins : Nat) : State.Shows shownPages s.cleared (s.powerOnReset pins) :=
  (s.cleared.showOtp_shows.trans (State.showKey_shows _)).trans (State.sampleStraps_shows _ pins)

theorem State.cleared_lanes (s : State) (hn : n < 24) :
    SMap.read {} s.cleared.lanes n = { signal := (SMap.read {} s.lanes n).signal } :=
  SMap.read_foldl_write {} (fun l => ({ signal := (SMap.read {} s.lanes l).signal } : LaneSt)) [] hn

/-- Every switch is open after a reset. -/
theorem State.cleared_group (s : State) (g : Nat) :
    (s.cleared.group g).state = .start ∧ (s.cleared.group g).swA = false ∧ (s.cleared.group g).swB = false := by
  refine List.foldlRecOn (motive := fun y : SMap GroupSt => (SMap.read {} y g).state = .start ∧
    (SMap.read {} y g).swA = false ∧ (SMap.read {} y g).swB = false) (List.range 4)
    (fun y k => SMap.write {} y k { fbOpen := (s.group k).fbOpen }) ⟨rfl, rfl, rfl⟩ fun y hy k _ => ?_
  by_cases hk : g = k
  · rw [hk, SMap.read_write_self]
    exact ⟨rfl, rfl, rfl⟩
  · rw [SMap.read_write_other _ _ _ hk]
    exact hy

/-- A device that shows its storage, key and straps after clearing is as after power-on. -/
theorem State.Shows.cleared (h : State.Shows (pgPwr :: shownPages) s.cleared t) : State.Cleared s t := by
  have hout : t.out = s.out := by rw [h.rest]; rfl
  have hlanes : t.lanes = s.cleared.lanes := by rw [h.rest]
  have hsafe : t.safe = s.cleared.safe := by rw [h.rest]
  have hgroup (g : Nat) : t.group g = s.cleared.group g := by
    unfold State.group
    rw [hsafe]
  refine ⟨?_, fun p hsys hpwr hfw hcad hlink => ?_, fun p => (h.page_hdr p).trans rfl, h.group, fun l hl => ?_, fun g => ?_⟩
  · refine h.rest.trans ?_
    rw [hout, hlanes, hsafe]
    rfl
  · refine (State.samePage_of_pages (s := State.reset) p rfl).trans (h.other p ?_)
    simp [shownPages, hsys, hpwr, hfw, hcad, hlink]
  · rw [hlanes, s.cleared_lanes hl]
  · rw [hgroup]
    exact s.cleared_group g

theorem State.powerOnReset_cleared (s : State) (pins : Nat) : State.Cleared s (s.powerOnReset pins) :=
  ((s.powerOnReset_shows pins).mono (List.subset_cons_self ..)).cleared

theorem State.powerOnReset_out (s : State) (pins : Nat) : (s.powerOnReset pins).out = s.out := by
  rw [(s.powerOnReset_shows pins).rest]
  rfl

theorem State.showOtp_fget_sys (h : SYS.BOOT_STAT.BENCH_OFF.Apart f) : s.showOtp.fget pgSys f = s.fget pgSys f := by
  have hfw {y : State} {g : Fld} {k : Nat} : (y.fset pgFw g k).fget pgSys f = y.fget pgSys f :=
    (State.SamePage.of_fset k (by decide)).fget f
  unfold State.showOtp State.fsetB
  rw [(State.SamePage.of_fset (p := pgCad) _ (by decide)).fget f, State.fset_fget_apart h, hfw, hfw, hfw]

theorem State.showKey_fget_sys (s : State) (f : Fld) : s.showKey.fget pgSys f = s.fget pgSys f := by
  have hlink {y : State} {g : Fld} {k : Nat} : (y.fset (pgLink 0) g k).fget pgSys f = y.fget pgSys f :=
    (State.SamePage.of_fset k (by decide)).fget f
  unfold State.showKey
  split <;> rw [hlink, hlink]

theorem State.powerOnReset_straps (hpins : straps < 8) :
    (s.powerOnReset straps).fget pgSys SYS.BOOT_STAT.STRAPS = straps ∧
    (s.powerOnReset straps).fbit pgSys SYS.BOOT_STAT.STRAP_BAD = decide (4 ≤ straps) := by
  unfold State.powerOnReset State.sampleStraps
  refine ⟨?_, ?_⟩
  · rw [State.fsetB_fget_apart (by decide), State.fset_fget (by decide) hpins]
  · rw [State.fsetB_fbit (by decide) rfl, Nat.mod_eq_of_lt hpins]

/-- A power-on shows nothing in RESET_STAT. -/
theorem State.powerOnReset_reset (hbench : SYS.BOOT_STAT.BENCH_OFF.Apart f) (hstraps : SYS.BOOT_STAT.STRAPS.Apart f)
    (hbad : SYS.BOOT_STAT.STRAP_BAD.Apart f) : (s.powerOnReset straps).fget pgSys f = State.reset.fget pgSys f := by
  unfold State.powerOnReset State.sampleStraps
  rw [State.fsetB_fget_apart hbad, State.fset_fget_apart hstraps, State.showKey_fget_sys, State.showOtp_fget_sys hbench]
  exact State.fget_of_pages rfl _ _

/-! ### Device resets (R533, R537, R547) -/

/-- The brownout registers show what another state's do. -/
def State.brownoutFrom (t s : State) : State :=
  [PWR.BO_STAT.BO_CNT.off, PWR.BO_MASK.DOMAINS.off, PWR.BO_TIME_LO.NS.off, PWR.BO_TIME_HI.NS.off].foldl
    (fun t o => (t.setWord (addrOf pgPwr o) (s.word (addrOf pgPwr o))).setSnapWord (addrOf pgPwr o)
      (s.snapWord (addrOf pgPwr o))) t

/-- RESET_STAT goes on counting, and shows a cause. -/
def State.resetCounted (t : State) (count cause : Nat) : State :=
  ((t.fset pgSys SYS.RESET_STAT.DEVICE_RESETS count).fset pgSys SYS.RESET_STAT.CAUSE cause).finc pgSys
    SYS.RESET_STAT.DEVICE_RESETS

theorem State.deviceReset_eq (s : State) (cause pins : Nat) : s.deviceReset cause pins =
    ((s.powerOnReset pins).brownoutFrom s).resetCounted (s.fget pgSys SYS.RESET_STAT.DEVICE_RESETS) cause := rfl

theorem State.brownoutFrom_shows (t s : State) : State.Shows [pgPwr] t (t.brownoutFrom s) :=
  List.foldlRecOn (motive := State.Shows [pgPwr] t) _ _ (State.Shows.refl _ t) fun _ hy o _ =>
    (hy.setWord (by decide) o _).setSnapWord (by decide) o _

theorem State.brownoutFrom_word (t s : State) {o : Nat}
    (ho : o ∈ [PWR.BO_STAT.BO_CNT.off, PWR.BO_MASK.DOMAINS.off, PWR.BO_TIME_LO.NS.off, PWR.BO_TIME_HI.NS.off]) :
    (t.brownoutFrom s).word (addrOf pgPwr o) = s.word (addrOf pgPwr o) := by
  refine foldl_establishes (Q := fun _ => True) (P := fun y : State => y.word (addrOf pgPwr o) = s.word (addrOf pgPwr o))
    (fun _ _ _ => trivial) (fun y _ => ?_) (fun y k _ hy => ?_) _ ho t trivial
  · rw [State.setSnapWord_word, State.setWord_word_self]
  · rw [State.setSnapWord_word]
    by_cases hk : addrOf pgPwr o = addrOf pgPwr k
    · rw [hk, State.setWord_word_self]
    · rw [State.setWord_word_other _ _ _ _ hk, hy]

theorem State.resetCounted_shows (t : State) (count cause : Nat) : State.Shows [pgSys] t (t.resetCounted count cause) :=
  (((State.Shows.refl _ t).fset (by decide) _ _).fset (by decide) _ _).fset (by decide) _ _

theorem State.resetCounted_cause {count : Nat} (hc : cause < 8) :
    (t.resetCounted count cause).fget pgSys SYS.RESET_STAT.CAUSE = cause := by
  unfold State.resetCounted
  rw [State.finc_fget_apart (by decide), State.fset_fget (by decide) hc]

theorem State.resetCounted_count {count : Nat} (hc : count < 65536) :
    (t.resetCounted count cause).fget pgSys SYS.RESET_STAT.DEVICE_RESETS = min (count + 1) 65535 := by
  unfold State.resetCounted
  rw [State.finc_fget (by decide), State.fset_fget_apart (by decide), State.fset_fget (by decide) hc]
  rfl

theorem State.resetCounted_boot {count : Nat} (hf : f.off = 0x0D8) :
    (t.resetCounted count cause).fget pgSys f = t.fget pgSys f := by
  have happ {g : Fld} (hg : g.lo + g.w ≤ 32) (hoff : g.off = 0x0D4) : g.Apart f := ⟨hg, .inl (by omega)⟩
  unfold State.resetCounted
  rw [State.finc_fget_apart (happ (by decide) rfl), State.fset_fget_apart (happ (by decide) rfl),
    State.fset_fget_apart (happ (by decide) rfl)]

theorem State.deviceReset_shows (s : State) (cause pins : Nat) :
    State.Shows (pgPwr :: shownPages) s.cleared (s.deviceReset cause pins) := by
  rw [State.deviceReset_eq]
  exact (((s.powerOnReset_shows pins).mono (by decide)).trans ((State.brownoutFrom_shows _ s).mono (by decide))).trans
    ((State.resetCounted_shows _ _ cause).mono (by decide))

theorem State.deviceReset_resetBy (hc : cause < 8) (hpins : straps < 8) :
    State.ResetBy cause straps s (s.deviceReset cause straps) := by
  have hboot {f : Fld} (hf : f.off = 0x0D8) :
      (s.deviceReset cause straps).fget pgSys f = (s.powerOnReset straps).fget pgSys f := by
    rw [State.deviceReset_eq, State.resetCounted_boot hf]
    exact ((State.brownoutFrom_shows _ s).other pgSys (by decide)).fget f
  obtain ⟨hstraps, hbad⟩ := State.powerOnReset_straps (s := s) hpins
  refine ⟨(s.deviceReset_shows cause straps).cleared, ?_, ?_, (hboot rfl).trans hstraps, ?_, fun o ho => ?_⟩
  · rw [State.deviceReset_eq, State.resetCounted_cause hc]
  · rw [State.deviceReset_eq, State.resetCounted_count (State.fget_lt ..)]
  · unfold State.fbit at hbad ⊢
    rw [hboot rfl, hbad]
  · rw [State.deviceReset_eq, (((State.resetCounted_shows _ _ cause).other pgPwr (by decide)).2 o).1,
      State.brownoutFrom_word _ s ho]

/-- Output does not count in what a reset clears. -/
theorem State.Cleared.emit (h : State.Cleared s t) (out : Out) : State.Cleared s (t.emit out) := by
  obtain ⟨hrest, hpages, hhdr, hgroup, hlanes, hgroups⟩ := h
  refine ⟨?_, fun p h1 h2 h3 h4 h5 => (hpages p h1 h2 h3 h4 h5).trans State.SamePage.of_emit, hhdr, hgroup, hlanes, hgroups⟩
  exact congrArg (fun y : State => y.emit out) hrest

theorem State.ResetBy.emit (h : State.ResetBy cause straps s t) (out : Out) : State.ResetBy cause straps s (t.emit out) := by
  obtain ⟨hcleared, hcause, hcount, hstraps, hbad, hbrown⟩ := h
  exact ⟨hcleared.emit out, hcause, hcount, hstraps, hbad, hbrown⟩

/-- A command of SYS that starts changes nothing that a reset shows. -/
theorem State.ResetBy.of_started (h : State.ResetBy cause straps u t) (hs : State.SameBut [.out, .page .sys] s u)
    (hw : ∀ a, u.word a = s.word a) : State.ResetBy cause straps s t := by
  obtain ⟨⟨hrest, hpages, hhdr, hgroup, hlanes, hgroups⟩, hcause, hcount, hstraps, hbad, hbrown⟩ := h
  refine ⟨⟨?_, hpages, hhdr, hgroup, fun l hl => ?_, hgroups⟩, hcause, ?_, hstraps, hbad, fun o ho => ?_⟩
  · rw [hs .pending rfl, hs .free rfl, hs .flash rfl, hs .otp rfl, hs .cad rfl, hs .transport rfl] at hrest
    exact hrest
  · rw [hlanes l hl, hs .lanes rfl]
  · rw [hcount, State.fget_of_word (hw _)]
  · rw [hbrown o ho, hw]

/-! ### What the loader and the processors leave alone -/

theorem State.strapMode_of_fget (h : t.fget pgSys SYS.BOOT_STAT.STRAPS = s.fget pgSys SYS.BOOT_STAT.STRAPS) :
    t.strapMode = s.strapMode := congrArg (min · 3) h

theorem State.advanceTo_boot (s : State) (i : Nat) : (s.advanceTo i).boot = s.boot := by
  unfold State.advanceTo
  split <;> rfl

theorem State.advanceTo_flash (s : State) (i : Nat) : (s.advanceTo i).flash = s.flash := by
  unfold State.advanceTo
  split <;> rfl

theorem State.advanceTo_fget (s : State) (i p : Nat) (f : Fld) : (s.advanceTo i).fget p f = s.fget p f :=
  State.fget_of_pages (State.advanceTo_pages s i) p f

/-- Fields of the FW page read as before when another page has been written. -/
theorem State.fset_sys_fw : (s.fset pgSys f v).fget pgFw g = s.fget pgFw g := (State.SamePage.of_fset v (by decide)).fget g

theorem State.fset_fw_sys : (s.fset pgFw f v).fget pgSys g = s.fget pgSys g := (State.SamePage.of_fset v (by decide)).fget g

/-- What a processor fetches is the bank that FW names. -/
theorem State.loaded_of (hb : t.boot.banks = s.boot.banks)
    (hm : t.fget pgFw FW.STAT.MGT_BANK = s.fget pgFw FW.STAT.MGT_BANK)
    (hs : t.fget pgFw FW.STAT.SAF_BANK = s.fget pgFw FW.STAT.SAF_BANK) (tg : Nat) : t.loaded tg = s.loaded tg := by
  unfold State.loaded State.bankImage State.bankNow
  rw [hb]
  split
  · rw [hm]
  · rw [hs]

/-! ### A processor runs or halts -/

theorem State.showVersion_fget_sys (s : State) (tg : Nat) (f : Fld) : (s.showVersion tg).fget pgSys f = s.fget pgSys f :=
  State.fset_fw_sys

theorem State.showVersion_fget_fw (hf : f.off = 0x040) : (s.showVersion tg).fget pgFw f = s.fget pgFw f := by
  unfold State.showVersion
  split
  · exact State.fset_fget_apart ⟨by decide, .inl (by rw [hf]; decide)⟩
  · exact State.fset_fget_apart ⟨by decide, .inl (by rw [hf]; decide)⟩

theorem State.setRunning_mgt_boot (s : State) (b : Bool) :
    (s.setRunning 1 b).boot = { s.boot with mgtRunning := b } := rfl

theorem State.setRunning_fget_sys {b : Bool} (h : (okFld tg).Apart f) : (s.setRunning tg b).fget pgSys f = s.fget pgSys f := by
  unfold State.setRunning
  rw [State.showVersion_fget_sys, State.fsetB_fget_apart h]
  split <;> exact State.fget_of_pages rfl _ _

theorem State.setRunning_ok (s : State) (b : Bool) : (s.setRunning 1 b).fget pgSys SYS.BOOT_STAT.MGT_OK = b.toNat := by
  unfold State.setRunning
  rw [State.showVersion_fget_sys]
  exact (State.fset_fget (by decide) (by cases b <;> decide)).trans (by cases b <;> rfl)

theorem State.setRunning_fget_fw {b : Bool} (hf : f.off = 0x040) : (s.setRunning tg b).fget pgFw f = s.fget pgFw f := by
  unfold State.setRunning
  rw [State.showVersion_fget_fw hf]
  refine State.fset_sys_fw.trans ?_
  split <;> exact State.fget_of_pages rfl _ _

/-- MGT runs, and start-up does its part. -/
def State.mgtUp (s : State) : State := (s.setRunning 1 true).started

/-- SAF runs, and the groups are judged. -/
def State.safUp (s : State) : State := (s.setRunning 2 true).evalGroups

theorem State.started_frame (s : State) :
    State.SameBut [.free, .reels, .sram, .fw, .out, .page .dly, .page .reel] s s.started :=
  State.started_same (State.SameOutside.refl _ s) rfl

theorem State.mgtUp_boot (s : State) : s.mgtUp.boot = { s.boot with mgtRunning := true } :=
  State.started_frame _ .boot rfl

theorem State.mgtUp_fget_sys (h : SYS.BOOT_STAT.MGT_OK.Apart f) : s.mgtUp.fget pgSys f = s.fget pgSys f :=
  ((State.started_frame _).fget (ty := .sys) rfl rfl).trans (State.setRunning_fget_sys (tg := 1) h)

theorem State.mgtUp_fget_fw (hf : f.off = 0x040) : s.mgtUp.fget pgFw f = s.fget pgFw f :=
  ((State.started_frame _).fget (ty := .fw) rfl rfl).trans (State.setRunning_fget_fw hf)

theorem State.safUp_boot (s : State) : s.safUp.boot = { s.boot with safRunning := true } :=
  State.evalGroups_frame _ .boot rfl

theorem State.safUp_fget_sys (h : SYS.BOOT_STAT.SAF_OK.Apart f) : s.safUp.fget pgSys f = s.fget pgSys f :=
  ((State.evalGroups_frame _).fget (ty := .sys) rfl rfl).trans (State.setRunning_fget_sys (tg := 2) h)

theorem State.mgtUp_loaded (s : State) (tg : Nat) : s.mgtUp.loaded tg = s.loaded tg :=
  State.loaded_of (by rw [State.mgtUp_boot]) (State.mgtUp_fget_fw rfl) (State.mgtUp_fget_fw rfl) tg

/-- MGT runs where that is due, and SAF where it has an image. -/
def State.released (s : State) (mgt : Bool) : State :=
  let s := if mgt then s.mgtUp else s
  if s.loaded 2 then s.safUp else s

theorem State.released_eq (s : State) (mgt : Bool) : s.released mgt =
    if s.loaded 2 = true then (if mgt then s.mgtUp else s).safUp else if mgt then s.mgtUp else s := by
  have hloaded : (if mgt then s.mgtUp else s).loaded 2 = s.loaded 2 := by
    split
    · exact s.mgtUp_loaded 2
    · rfl
  unfold State.released
  simp only [hloaded]

theorem State.released_boot (s : State) (mgt : Bool) : (s.released mgt).boot =
    { s.boot with mgtRunning := mgt || s.boot.mgtRunning, safRunning := s.loaded 2 || s.boot.safRunning } := by
  have hmgt : (if mgt then s.mgtUp else s).boot = { s.boot with mgtRunning := mgt || s.boot.mgtRunning } := by
    cases mgt with
    | false => rfl
    | true => exact s.mgtUp_boot
  rw [State.released_eq]
  cases hl : s.loaded 2 with
  | false =>
    rw [if_neg Bool.false_ne_true, hmgt, Bool.false_or]
  | true =>
    rw [if_pos rfl, State.safUp_boot, hmgt, Bool.true_or]

theorem State.released_fget_sys {mgt : Bool} (hm : SYS.BOOT_STAT.MGT_OK.Apart f) (hs : SYS.BOOT_STAT.SAF_OK.Apart f) :
    (s.released mgt).fget pgSys f = s.fget pgSys f := by
  have hmgt : (if mgt then s.mgtUp else s).fget pgSys f = s.fget pgSys f := by
    split
    · exact State.mgtUp_fget_sys hm
    · rfl
  rw [State.released_eq]
  split
  · exact (State.safUp_fget_sys hs).trans hmgt
  · exact hmgt

/-! ### An image is loaded (R538) -/

theorem State.setRunSlot_pages (s : State) (tg : Nat) (k : Option Nat) : (s.setRunSlot tg k).pages = s.pages := by
  unfold State.setRunSlot
  split <;> rfl

theorem State.setRunSlot_banks (s : State) (tg : Nat) (k : Option Nat) : (s.setRunSlot tg k).boot.banks = s.boot.banks := by
  unfold State.setRunSlot
  split <;> rfl

theorem State.setRunSlot_runSlot (s : State) (tg : Nat) (k : Option Nat) : (s.setRunSlot tg k).runSlot tg = k := by
  unfold State.setRunSlot State.runSlot
  split <;> rfl

theorem State.loadBank_image (s : State) (tg : Nat) (img : List Nat) (k : Option Nat) :
    (s.loadBank tg img k).bankImage tg 0 = img := by
  have hbanks : (s.loadBank tg img k).boot.banks = (s.setBank tg 0 img).boot.banks := State.setRunSlot_banks ..
  unfold State.bankImage
  rw [hbanks]
  exact SMap.read_write_self ..

theorem State.loadBank_runSlot (s : State) (tg : Nat) (img : List Nat) (k : Option Nat) :
    (s.loadBank tg img k).runSlot tg = k := State.setRunSlot_runSlot _ tg k

theorem State.loadBank_trial (s : State) (tg : Nat) (img : List Nat) (k : Option Nat) :
    (s.loadBank tg img k).fget pgFw (trialFld tg) = 0 :=
  State.fset_fget (by unfold trialFld; split <;> decide) (by unfold trialFld; split <;> decide)

theorem State.loadBank_bank (htg : tg = 1 ∨ tg = 2) (img : List Nat) (k : Option Nat) :
    (s.loadBank tg img k).bankNow tg = 0 := by
  have hpages {y : State} {g : Fld} : (y.setRunSlot tg k).fget pgFw g = y.fget pgFw g :=
    State.fget_of_pages (State.setRunSlot_pages ..) _ _
  unfold State.loadBank State.bankNow
  rcases htg with rfl | rfl
  · rw [State.fset_fget_apart (by decide), hpages, State.fset_fget (by decide) (by decide)]
  · rw [State.fset_fget_apart (by decide), hpages, State.fset_fget (by decide) (by decide)]

theorem State.loadBank_fget_sys (s : State) (tg : Nat) (img : List Nat) (k : Option Nat) (f : Fld) :
    (s.loadBank tg img k).fget pgSys f = s.fget pgSys f := by
  have hpages {y : State} : (y.setRunSlot tg k).fget pgSys f = y.fget pgSys f :=
    State.fget_of_pages (State.setRunSlot_pages ..) _ _
  unfold State.loadBank
  rw [State.fset_fw_sys, hpages, State.fset_fw_sys]
  rfl

theorem State.loadBank_boot (s : State) (tg : Nat) (img : List Nat) (k : Option Nat) :
    (s.loadBank tg img k).boot.loader = s.boot.loader ∧ (s.loadBank tg img k).boot.mgtOnly = s.boot.mgtOnly ∧
    (s.loadBank tg img k).boot.mgtRunning = s.boot.mgtRunning ∧ (s.loadBank tg img k).boot.safRunning = s.boot.safRunning ∧
    (s.loadBank tg img k).boot.benchMgt = s.boot.benchMgt ∧ (s.loadBank tg img k).boot.benchSaf = s.boot.benchSaf := by
  have hslot (y : State) : (y.setRunSlot tg k).boot.loader = y.boot.loader ∧ (y.setRunSlot tg k).boot.mgtOnly = y.boot.mgtOnly ∧
      (y.setRunSlot tg k).boot.mgtRunning = y.boot.mgtRunning ∧ (y.setRunSlot tg k).boot.safRunning = y.boot.safRunning ∧
      (y.setRunSlot tg k).boot.benchMgt = y.boot.benchMgt ∧ (y.setRunSlot tg k).boot.benchSaf = y.boot.benchSaf := by
    unfold State.setRunSlot
    split <;> exact ⟨rfl, rfl, rfl, rfl, rfl, rfl⟩
  exact hslot _

/-- The slot that the loader tries first. -/
def State.firstSlot (s : State) (tg : Nat) (d : DirCopy) : Nat :=
  if s.strapMode = 1 then 1 - (if tg = 1 then d.mgtSlot else d.safSlot) else if tg = 1 then d.mgtSlot else d.safSlot

theorem State.loadOne_none (h : s.flash.dirNow = none) : s.loadOne tg = (s, 0) := by
  unfold State.loadOne
  rw [h]

theorem State.loadOne_first {c : Nat} (hd : s.flash.dirNow = some (c, d))
    (hf : imageFail s.otp tg (s.flash.image tg (s.firstSlot tg d)) = none) : s.loadOne tg =
      (s.loadBank tg (s.flash.image tg (s.firstSlot tg d)) (some (s.firstSlot tg d)), 1) := by
  unfold State.firstSlot at hf
  unfold State.loadOne State.firstSlot
  rw [hd]
  simp only [hf]

theorem State.loadOne_second {c : Nat} (hd : s.flash.dirNow = some (c, d))
    (hf : imageFail s.otp tg (s.flash.image tg (s.firstSlot tg d)) = some r)
    (hf' : imageFail s.otp tg (s.flash.image tg (1 - s.firstSlot tg d)) = none) : s.loadOne tg =
      (((s.fset pgSys (failFld tg) r).fset pgSys (fallbackFld tg) 1).loadBank tg
        (s.flash.image tg (1 - s.firstSlot tg d)) (some (1 - s.firstSlot tg d)), 2) := by
  unfold State.firstSlot at hf hf'
  unfold State.loadOne State.firstSlot
  rw [hd]
  simp only [hf, State.fset_otp, State.fset_flash, hf']

theorem State.loadOne_failed {c r' : Nat} (hd : s.flash.dirNow = some (c, d))
    (hf : imageFail s.otp tg (s.flash.image tg (s.firstSlot tg d)) = some r)
    (hf' : imageFail s.otp tg (s.flash.image tg (1 - s.firstSlot tg d)) = some r') :
    s.loadOne tg = (s.fset pgSys (failFld tg) r, 2) := by
  unfold State.firstSlot at hf hf'
  unfold State.loadOne
  rw [hd]
  simp only [hf, State.fset_otp, State.fset_flash, hf']

/-- The codes of R511 fit their fields. -/
theorem imageFail_lt {o : OtpSt} (h : imageFail o tg img = some r) : r < 16 := by
  unfold imageFail at h
  simp only at h
  repeat' split at h
  all_goals cases h
  all_goals decide

theorem failFld_fget (hr : r < 16) : (s.fset pgSys (failFld tg) r).fget pgSys (failFld tg) = r :=
  State.fset_fget (by unfold failFld; split <;> decide) (by unfold failFld; split <;> exact hr)

theorem fallbackFld_apart (tg : Nat) : (fallbackFld tg).Apart (failFld tg) := by
  unfold failFld fallbackFld
  split <;> decide

/-- Loading leaves the straps and the loader's own progress alone. -/
theorem State.loadOne_keeps (s : State) (tg : Nat) :
    (s.loadOne tg).1.strapMode = s.strapMode ∧ (s.loadOne tg).1.boot.mgtOnly = s.boot.mgtOnly := by
  have hfail (y : State) (k : Nat) : (y.fset pgSys (failFld tg) k).fget pgSys SYS.BOOT_STAT.STRAPS =
      y.fget pgSys SYS.BOOT_STAT.STRAPS := State.fset_fget_apart (by unfold failFld; split <;> decide)
  have hback (y : State) (k : Nat) : (y.fset pgSys (fallbackFld tg) k).fget pgSys SYS.BOOT_STAT.STRAPS =
      y.fget pgSys SYS.BOOT_STAT.STRAPS := State.fset_fget_apart (by unfold fallbackFld; split <;> decide)
  cases hd : s.flash.dirNow with
  | none =>
    rw [State.loadOne_none hd]
    exact ⟨rfl, rfl⟩
  | some cd =>
    obtain ⟨c, d⟩ := cd
    cases hf : imageFail s.otp tg (s.flash.image tg (s.firstSlot tg d)) with
    | none =>
      rw [State.loadOne_first hd hf]
      obtain ⟨-, honly, -⟩ := s.loadBank_boot tg (s.flash.image tg (s.firstSlot tg d)) (some (s.firstSlot tg d))
      exact ⟨State.strapMode_of_fget (State.loadBank_fget_sys ..), honly⟩
    | some r =>
      cases hf' : imageFail s.otp tg (s.flash.image tg (1 - s.firstSlot tg d)) with
      | none =>
        rw [State.loadOne_second hd hf hf']
        obtain ⟨-, honly, -⟩ := ((s.fset pgSys (failFld tg) r).fset pgSys (fallbackFld tg) 1).loadBank_boot tg
          (s.flash.image tg (1 - s.firstSlot tg d)) (some (1 - s.firstSlot tg d))
        exact ⟨State.strapMode_of_fget ((State.loadBank_fget_sys ..).trans ((hback ..).trans (hfail ..))), honly⟩
      | some r' =>
        rw [State.loadOne_failed hd hf hf']
        exact ⟨State.strapMode_of_fget (hfail ..), rfl⟩

/-- What a slot's image and the other slot's come to (R538). -/
theorem State.loadOne_outcome {c : Nat} (htg : tg = 1 ∨ tg = 2) (hd : s.flash.dirNow = some (c, d))
    (hslot : slot = s.firstSlot tg d) (hu : s.loadOne tg = (u, n)) :
    (imageFail s.otp tg (s.flash.image tg slot) = none → n = 1 ∧ u.bankNow tg = 0 ∧
      u.bankImage tg 0 = s.flash.image tg slot ∧ u.runSlot tg = some slot ∧ u.fget pgFw (trialFld tg) = 0) ∧
    (∀ r, imageFail s.otp tg (s.flash.image tg slot) = some r → n = 2 ∧ u.fget pgSys (failFld tg) = r ∧
      (imageFail s.otp tg (s.flash.image tg (1 - slot)) = none → u.bankImage tg 0 = s.flash.image tg (1 - slot) ∧
        u.fget pgSys (fallbackFld tg) = 1 ∧ u.runSlot tg = some (1 - slot)) ∧
      (imageFail s.otp tg (s.flash.image tg (1 - slot)) ≠ none → u.boot = s.boot)) := by
  subst hslot
  refine ⟨fun hf => ?_, fun r hf => ?_⟩
  · rw [State.loadOne_first hd hf] at hu
    obtain ⟨rfl, rfl⟩ := Prod.mk.injEq .. ▸ hu
    exact ⟨rfl, State.loadBank_bank htg _ _, State.loadBank_image .., State.loadBank_runSlot .., State.loadBank_trial ..⟩
  · cases hf' : imageFail s.otp tg (s.flash.image tg (1 - s.firstSlot tg d)) with
    | none =>
      rw [State.loadOne_second hd hf hf'] at hu
      obtain ⟨rfl, rfl⟩ := Prod.mk.injEq .. ▸ hu
      refine ⟨rfl, ?_, fun _ => ⟨State.loadBank_image .., ?_, State.loadBank_runSlot ..⟩, fun h => absurd rfl h⟩
      · rw [State.loadBank_fget_sys, State.fset_fget_apart (fallbackFld_apart tg), failFld_fget (imageFail_lt hf)]
      · rw [State.loadBank_fget_sys]
        exact State.fset_fget (by unfold fallbackFld; split <;> decide) (by unfold fallbackFld; split <;> decide)
    | some r' =>
      rw [State.loadOne_failed hd hf hf'] at hu
      obtain ⟨rfl, rfl⟩ := Prod.mk.injEq .. ▸ hu
      exact ⟨rfl, failFld_fget (imageFail_lt hf), fun h => absurd h (by simp), fun _ => rfl⟩

/-! ### The loader's steps (R539) -/

theorem exec_loaderStepDone_on (h : s.boot.powered = true) : exec .loaderStepDone s = .next s.loaderStep :=
  congrArg Host.Outcome.next (State.live_on h _)

theorem State.loaderStep_none (h : s.boot.loader = none) : s.loaderStep = s := by
  unfold State.loaderStep
  rw [h]

theorem State.loaderStep_straps (h : s.boot.loader = some (1, at_)) : s.loaderStep = s.loaderStep2 := by
  unfold State.loaderStep
  simp only [h]

theorem State.loaderStep_stores (h : s.boot.loader = some (2, at_)) : s.loaderStep = s.loaderStep3 at_ := by
  unfold State.loaderStep
  simp only [h]

theorem State.loaderStep_mgt (h : s.boot.loader = some (3, at_)) : s.loaderStep = s.loaderStep4 at_ := by
  unfold State.loaderStep
  simp only [h]

theorem State.loaderStep_saf (h : s.boot.loader = some (4, at_)) : s.loaderStep = s.loaderStep5 at_ := by
  unfold State.loaderStep
  simp only [h]

theorem State.loaderStep_start (h : s.boot.loader = some (5, at_)) : s.loaderStep = s.loaderStep6 at_ := by
  unfold State.loaderStep
  simp only [h]

/-- The first runs of the SCAL units are due. -/
theorem State.loaderStep2_outcome (s : State) : s.loaderStep2.mono = max s.mono 50000 ∧
    s.loaderStep2.boot.loader = some (2, 50000) ∧ s.loaderStep2.fget pgScal SCAL.PENDING.UNITS = 2 ^ 21 - 1 ∧
    State.SameBut [.mono, .time, .boot, .page .scal] s s.loaderStep2 := by
  refine ⟨State.advanceTo_mono .., rfl, ?_, State.setLoader_same (State.advanceTo_same (State.fset_same
    (State.SameOutside.refl _ s) rfl (pageMask_scal rfl)) rfl) rfl⟩
  refine (State.advanceTo_fget ..).trans ?_
  exact State.fset_fget (by decide) (by decide)

/-- The key of the key store is taken. -/
def State.keyTaken (s : State) : State :=
  match s.flash.keysNow with
  | some (_, k) => { s with transport := { s.transport with key := k.key } }.showKey
  | none => s

/-- Whether the key store names the device. -/
def FlashSt.named (fl : FlashSt) : Bool := (fl.keysNow.map (fun k => k.2.ident.isSome)).getD false

/-- The directory and the key store have been read. -/
def State.storesRead (s : State) : State :=
  (s.keyTaken.showDir.showOtp).fsetB pgSys SYS.BOOT_STAT.FIRST_BOOT (!s.flash.dirNow.isSome || !s.flash.named)

/-- The loader has ended. -/
def State.loaderEnded (s : State) : State := { s with boot := { s.boot with loader := none, mgtOnly := false } }

/-- What has been read says whether the loader goes on. -/
def State.storesJudged (s : State) : State :=
  if s.storesRead.strapMode = 2 || !s.flash.dirNow.isSome then
    (s.storesRead.fset pgSys SYS.BOOT_STAT.ROM (if s.storesRead.strapMode = 2 then 2 else 3)).loaderEnded
  else s.storesRead.setLoader (some (3, s.storesRead.mono))

theorem State.showKey_flash (s : State) : s.showKey.flash = s.flash := by
  unfold State.showKey
  split <;> rfl

theorem State.showKey_transport (s : State) : s.showKey.transport = s.transport := by
  unfold State.showKey
  split <;> rfl

/-- The wait of 5 ms stays opaque in the comparison of the two. -/
theorem State.loaderStep3_eq (s : State) (at_ : Nat) : s.loaderStep3 at_ = (s.advanceTo (at_ + 5000000)).storesJudged := by
  unfold State.loaderStep3
  generalize s.advanceTo (at_ + 5000000) = y
  as_aux_lemma =>
    unfold State.storesJudged State.loaderEnded State.storesRead State.keyTaken FlashSt.named
    cases hk : y.flash.keysNow with
    | none => simp only [hk, Option.map_none, Option.getD_none]
    | some ck => simp only [hk, State.showKey_flash, Option.map_some, Option.getD_some]

theorem State.keyTaken_frame (s : State) : State.SameBut [.transport, .page .link] s s.keyTaken := by
  unfold State.keyTaken
  split
  · exact State.showKey_same (State.SameOutside.set_transport (State.SameOutside.refl _ s) rfl) rfl
  · exact State.SameOutside.refl _ s

theorem State.keyTaken_key {c : Nat} {k : KeyCopy} (h : s.flash.keysNow = some (c, k)) : s.keyTaken.transport.key = k.key := by
  unfold State.keyTaken
  rw [h]
  exact congrArg TransportSt.key (State.showKey_transport _)

theorem State.storesRead_frame (s : State) :
    State.SameBut [.page .sys, .page .fw, .page .cad] s.keyTaken s.storesRead :=
  State.fsetB_same (State.showOtp_same (State.showDir_same (State.SameOutside.refl _ _) rfl) rfl) rfl (pageMask_sys rfl)

theorem State.showDir_fget_sys (s : State) (f : Fld) : s.showDir.fget pgSys f = s.fget pgSys f := by
  unfold State.showDir
  split
  · rw [State.fset_fw_sys, State.fset_fw_sys]
  · rfl

theorem State.storesRead_straps (s : State) : s.storesRead.strapMode = s.strapMode := by
  refine State.strapMode_of_fget ?_
  unfold State.storesRead
  rw [State.fsetB_fget_apart (by decide), State.showOtp_fget_sys (by decide), State.showDir_fget_sys]
  exact s.keyTaken_frame.fget (ty := .sys) rfl rfl

theorem State.storesRead_firstBoot (s : State) : s.storesRead.fbit pgSys SYS.BOOT_STAT.FIRST_BOOT =
    (!s.flash.dirNow.isSome || !s.flash.named) := by
  unfold State.storesRead
  rw [State.fsetB_fbit (by decide) rfl]

theorem State.showOtp_fget_fw (hf : f.off = 0x040) : s.showOtp.fget pgFw f = s.fget pgFw f := by
  have hcad {y : State} {g : Fld} {k : Nat} : (y.fset pgCad g k).fget pgFw f = y.fget pgFw f :=
    (State.SamePage.of_fset k (by decide)).fget f
  have hfw {y : State} {g : Fld} {k : Nat} (hg : g.lo + g.w ≤ 32) (hoff : g.off % 0x1000 ≠ 0x040) :
      (y.fset pgFw g k).fget pgFw f = y.fget pgFw f := State.fset_fget_apart ⟨hg, .inl (by omega)⟩
  unfold State.showOtp State.fsetB
  rw [hcad, State.fset_sys_fw, hfw (by decide) (by decide), hfw (by decide) (by decide), hfw (by decide) (by decide)]

theorem State.storesRead_slots {c : Nat} (h : s.flash.dirNow = some (c, d)) :
    s.storesRead.fget pgFw FW.STAT.MGT_BOOT = d.mgtSlot % 2 ∧ s.storesRead.fget pgFw FW.STAT.SAF_BOOT = d.safSlot % 2 := by
  have hflash : s.keyTaken.flash = s.flash := s.keyTaken_frame .flash rfl
  unfold State.storesRead State.fsetB
  rw [State.fset_sys_fw, State.fset_sys_fw, State.showOtp_fget_fw rfl, State.showOtp_fget_fw rfl]
  unfold State.showDir
  rw [hflash, h]
  simp only
  rw [State.fset_fget_apart (by decide), State.fget_fset_self _ _ _ _ (by decide), State.fget_fset_self _ _ _ _ (by decide)]
  exact ⟨rfl, rfl⟩

theorem State.loaderEnded_fget (s : State) (p : Nat) (f : Fld) : s.loaderEnded.fget p f = s.fget p f := rfl

theorem State.setLoader_fget (s : State) (l : Option (Nat × Nat)) (p : Nat) (f : Fld) :
    (s.setLoader l).fget p f = s.fget p f := rfl

theorem State.setLoader_loader (s : State) (l : Option (Nat × Nat)) : (s.setLoader l).boot.loader = l := rfl

theorem State.setLoader_mono (s : State) (l : Option (Nat × Nat)) : (s.setLoader l).mono = s.mono := rfl

/-- Without an image to load, the loader ends and waits for the bench port. -/
theorem State.storesJudged_waits (h : s.strapMode = 2 ∨ s.flash.dirNow = none) : s.storesJudged.boot.loader = none ∧
    s.storesJudged.rom = if s.strapMode = 2 then 2 else 3 := by
  have hcond : (s.strapMode = 2 || !s.flash.dirNow.isSome) = true := by
    rcases h with h | h <;> simp [h]
  unfold State.storesJudged State.rom
  rw [State.storesRead_straps, if_pos hcond]
  refine ⟨rfl, ?_⟩
  rw [State.loaderEnded_fget]
  exact State.fset_fget (by decide) (by split <;> decide)

/-- With a directory, the loader goes on to MGT's image. -/
theorem State.storesJudged_loads {c : Nat} (h : s.strapMode ≠ 2) (hd : s.flash.dirNow = some (c, d)) :
    s.storesJudged = s.storesRead.setLoader (some (3, s.storesRead.mono)) := by
  unfold State.storesJudged
  rw [State.storesRead_straps, hd, if_neg (by simp [h])]

/-- Whatever comes next, the stores show in the same way. -/
theorem State.storesJudged_keeps (s : State) : s.storesJudged.mono = s.storesRead.mono ∧
    s.storesJudged.transport = s.storesRead.transport ∧
    s.storesJudged.fbit pgSys SYS.BOOT_STAT.FIRST_BOOT = s.storesRead.fbit pgSys SYS.BOOT_STAT.FIRST_BOOT := by
  unfold State.storesJudged
  generalize s.storesRead = y
  split
  · have hrom (k : Nat) : (y.fset pgSys SYS.BOOT_STAT.ROM k).fbit pgSys SYS.BOOT_STAT.FIRST_BOOT =
        y.fbit pgSys SYS.BOOT_STAT.FIRST_BOOT := congrArg (fun v => decide (v = 1)) (State.fset_fget_apart (by decide))
    exact ⟨rfl, rfl, hrom _⟩
  · exact ⟨rfl, rfl, rfl⟩

theorem State.loaderStep3_outcome (s : State) (at_ : Nat) : (s.loaderStep3 at_).mono = max s.mono (at_ + 5000000) ∧
    (∀ c k, s.flash.keysNow = some (c, k) → (s.loaderStep3 at_).transport.key = k.key) ∧
    (s.loaderStep3 at_).fbit pgSys SYS.BOOT_STAT.FIRST_BOOT =
      (s.flash.dirNow.isNone || !((s.flash.keysNow.map (fun k => k.2.ident.isSome)).getD false)) ∧
    (s.strapMode = 2 → (s.loaderStep3 at_).boot.loader = none ∧ (s.loaderStep3 at_).rom = 2) ∧
    (s.strapMode ≠ 2 → s.flash.dirNow = none → (s.loaderStep3 at_).boot.loader = none ∧ (s.loaderStep3 at_).rom = 3) ∧
    (∀ c d, s.strapMode ≠ 2 → s.flash.dirNow = some (c, d) →
      (s.loaderStep3 at_).boot.loader = some (3, (s.loaderStep3 at_).mono) ∧
      (s.loaderStep3 at_).fget pgFw FW.STAT.MGT_BOOT = d.mgtSlot % 2 ∧
      (s.loaderStep3 at_).fget pgFw FW.STAT.SAF_BOOT = d.safSlot % 2) := by
  rw [State.loaderStep3_eq]
  have hmono := State.advanceTo_mono s (at_ + 5000000)
  have hflash := State.advanceTo_flash s (at_ + 5000000)
  have hstraps := State.strapMode_of_fget (State.advanceTo_fget s (at_ + 5000000) pgSys SYS.BOOT_STAT.STRAPS)
  generalize s.advanceTo (at_ + 5000000) = y at *
  rw [← hflash, ← hstraps, ← hmono]
  obtain ⟨hm, htransport, hfirst⟩ := y.storesJudged_keeps
  refine ⟨hm.trans ?_, fun c k hk => ?_, hfirst.trans ?_, fun h => ?_, fun h hd => ?_, fun c d h hd => ?_⟩
  · exact Eq.trans (b := y.keyTaken.mono) (y.storesRead_frame .mono rfl) (y.keyTaken_frame .mono rfl)
  · have htaken : y.storesRead.transport = y.keyTaken.transport := y.storesRead_frame .transport rfl
    rw [htransport, htaken, State.keyTaken_key hk]
  · rw [State.storesRead_firstBoot]
    unfold FlashSt.named
    cases y.flash.dirNow <;> rfl
  · obtain ⟨hloader, hrom⟩ := State.storesJudged_waits (s := y) (.inl h)
    exact ⟨hloader, hrom.trans (if_pos h)⟩
  · obtain ⟨hloader, hrom⟩ := State.storesJudged_waits (s := y) (.inr hd)
    exact ⟨hloader, hrom.trans (if_neg h)⟩
  · rw [State.storesJudged_loads h hd, State.setLoader_loader, State.setLoader_mono, State.setLoader_fget,
      State.setLoader_fget]
    exact ⟨rfl, State.storesRead_slots hd⟩

theorem State.loadOne_mono (hu : s.loadOne tg = (u, n)) : u.mono = s.mono := by
  have h : (s.loadOne tg).1.mono = s.mono := State.loadOne_same (State.SameOutside.refl 282575025209344 s) rfl .mono rfl
  rwa [hu] at h

theorem State.loaderStep4_eq (hu : s.loadOne 1 = (u, n)) : s.loaderStep4 at_ =
    if (u.advanceTo (at_ + n * 60000000)).boot.mgtOnly then (u.advanceTo (at_ + n * 60000000)).mgtReloaded
    else (u.advanceTo (at_ + n * 60000000)).setLoader (some (4, (u.advanceTo (at_ + n * 60000000)).mono)) := by
  unfold State.loaderStep4
  simp only [hu]

theorem State.loaderStep5_eq (hu : s.loadOne 2 = (u, n)) : s.loaderStep5 at_ =
    (u.advanceTo (at_ + n * 30000000)).setLoader (some (5, (u.advanceTo (at_ + n * 30000000)).mono)) := by
  unfold State.loaderStep5
  simp only [hu]

/-- A step that has loaded an image waits for the next one. -/
theorem State.stepLoaded {k e : Nat} (hm : u.mono = s.mono)
    (ht : t = (u.advanceTo e).setLoader (some (k, (u.advanceTo e).mono))) :
    t.mono = max s.mono e ∧ t.boot.loader = some (k, t.mono) ∧ State.SameBut [.mono, .time, .boot] u t := by
  subst ht
  rw [State.setLoader_loader, State.setLoader_mono, State.advanceTo_mono, hm]
  exact ⟨rfl, rfl, State.setLoader_same (State.advanceTo_same (State.SameOutside.refl _ u) rfl) rfl⟩

theorem State.mgtReloaded_held (h : s.strapMode = 3) :
    s.mgtReloaded = s.loaderEnded.fset pgSys SYS.BOOT_STAT.ROM 4 := if_pos h

theorem State.mgtReloaded_runs (h : s.strapMode ≠ 3) (hl : s.loaded 1 = true) :
    s.mgtReloaded = ((s.loaderEnded.setRunning 1 true).evt pgSys 8).dailyStart :=
  (if_neg h).trans (if_pos hl)

theorem State.mgtReloaded_stays (h : s.strapMode ≠ 3) (hl : s.loaded 1 = false) : s.mgtReloaded = s.loaderEnded :=
  (if_neg h).trans (if_neg (Bool.eq_false_iff.mp hl))

theorem State.dailyStart_frame (s : State) :
    State.SameBut [.free, .reels, .sram, .fw, .out, .page .dly, .page .reel] s s.dailyStart :=
  State.dailyStart_same (State.SameOutside.refl _ s) rfl

/-- An MGT restart has ended. -/
theorem State.mgtReloaded_outcome (s : State) : s.mgtReloaded.boot.loader = none ∧ s.mgtReloaded.boot.mgtOnly = false ∧
    (s.strapMode = 3 → s.mgtReloaded.rom = 4) ∧
    (s.strapMode ≠ 3 → s.loaded 1 = true → s.mgtReloaded.boot.mgtRunning = true ∧
      s.mgtReloaded.fget pgSys SYS.BOOT_STAT.MGT_OK = 1 ∧ (s.mgtReloaded.hdr pgSys).evt.getLsbD 8 = true) := by
  by_cases h : s.strapMode = 3
  · rw [State.mgtReloaded_held h]
    exact ⟨rfl, rfl, fun _ => State.fset_fget (by decide) (by decide), fun hne => absurd h hne⟩
  · cases hl : s.loaded 1 with
    | false =>
      rw [State.mgtReloaded_stays h hl]
      exact ⟨rfl, rfl, fun he => absurd he h, fun _ hne => absurd hne Bool.false_ne_true⟩
    | true =>
      have hframe := ((s.loaderEnded.setRunning 1 true).evt pgSys 8).dailyStart_frame
      have hboot : (((s.loaderEnded.setRunning 1 true).evt pgSys 8).dailyStart).boot =
          { s.boot with loader := none, mgtOnly := false, mgtRunning := true } :=
        Eq.trans (b := ((s.loaderEnded.setRunning 1 true).evt pgSys 8).boot) (hframe .boot rfl) (State.evt_boot ..)
      rw [State.mgtReloaded_runs h hl, hboot]
      refine ⟨rfl, rfl, fun he => absurd he h, fun _ _ => ⟨rfl, ?_, ?_⟩⟩
      · rw [hframe.fget (ty := .sys) rfl rfl, State.evt_fget, State.setRunning_ok]
        rfl
      · rw [hframe.hdr (ty := .sys) rfl rfl]
        exact State.evt_set _ _ _ (by decide)

/-- MGT's image is loaded; after an MGT restart it starts. -/
theorem State.loaderStep4_restarts (hu : s.loadOne 1 = (u, n)) (h : s.boot.mgtOnly = true) :
    (s.loaderStep4 at_).boot.loader = none ∧ (s.loaderStep4 at_).boot.mgtOnly = false ∧
    (s.strapMode = 3 → (s.loaderStep4 at_).rom = 4) ∧
    (s.strapMode ≠ 3 → u.loaded 1 = true → (s.loaderStep4 at_).boot.mgtRunning = true ∧
      (s.loaderStep4 at_).fget pgSys SYS.BOOT_STAT.MGT_OK = 1 ∧ ((s.loaderStep4 at_).hdr pgSys).evt.getLsbD 8 = true) := by
  obtain ⟨hstraps, honly⟩ := s.loadOne_keeps 1
  rw [hu] at hstraps honly
  rw [State.loaderStep4_eq hu, if_pos (by rw [State.advanceTo_boot, honly, h]), ← hstraps,
    ← State.strapMode_of_fget (State.advanceTo_fget u (at_ + n * 60000000) pgSys SYS.BOOT_STAT.STRAPS),
    ← State.loaded_of (t := u.advanceTo (at_ + n * 60000000)) (by rw [State.advanceTo_boot]) (State.advanceTo_fget ..)
      (State.advanceTo_fget ..) 1]
  exact State.mgtReloaded_outcome _

theorem State.loaderStep4_loads (hu : s.loadOne 1 = (u, n)) (h : s.boot.mgtOnly = false) :
    s.loaderStep4 at_ = (u.advanceTo (at_ + n * 60000000)).setLoader (some (4, (u.advanceTo (at_ + n * 60000000)).mono)) := by
  obtain ⟨-, honly⟩ := s.loadOne_keeps 1
  rw [hu] at honly
  rw [State.loaderStep4_eq hu, if_neg (by rw [State.advanceTo_boot, honly, h]; exact Bool.false_ne_true)]

theorem State.rom_fset (hv : v < 8) : (s.fset pgSys SYS.BOOT_STAT.ROM v).rom = v :=
  State.fset_fget (f := SYS.BOOT_STAT.ROM) (by decide) hv

theorem State.released_rom (s : State) (mgt : Bool) : (s.released mgt).rom = s.rom :=
  State.released_fget_sys (f := SYS.BOOT_STAT.ROM) (by decide) (by decide)

/-- The state in which the last step finds the device. -/
def State.loaderDone (s : State) (at_ : Nat) : State := (s.advanceTo (at_ + 10000)).setLoader none

theorem State.loaderStep6_eq (s : State) (at_ : Nat) : s.loaderStep6 at_ =
    if (s.loaderDone at_).strapMode = 3 then (s.loaderDone at_).fset pgSys SYS.BOOT_STAT.ROM 4
    else ((s.loaderDone at_).fset pgSys SYS.BOOT_STAT.ROM 1).released
      (((s.loaderDone at_).fset pgSys SYS.BOOT_STAT.ROM 1).loaded 1) := by
  unfold State.loaderStep6 State.loaderDone
  generalize (s.advanceTo (at_ + 10000)).setLoader none = y
  as_aux_lemma =>
    unfold State.released State.mgtUp State.safUp
    rfl

theorem State.loaderStep6_outcome (s : State) (at_ : Nat) : (s.loaderStep6 at_).boot.loader = none ∧
    (s.strapMode = 3 → (s.loaderStep6 at_).rom = 4 ∧ (s.loaderStep6 at_).boot.mgtRunning = s.boot.mgtRunning ∧
      (s.loaderStep6 at_).boot.safRunning = s.boot.safRunning) ∧
    (s.strapMode ≠ 3 → (s.loaderStep6 at_).rom = 1 ∧ (s.loaded 1 = true → (s.loaderStep6 at_).boot.mgtRunning = true) ∧
      (s.loaded 2 = true → (s.loaderStep6 at_).boot.safRunning = true)) := by
  have hboot : (s.loaderDone at_).boot = { s.boot with loader := none } :=
    congrArg (fun b : BootSt => { b with loader := none }) (s.advanceTo_boot (at_ + 10000))
  have hfget (p : Nat) (f : Fld) : (s.loaderDone at_).fget p f = s.fget p f := State.advanceTo_fget ..
  have hstraps : (s.loaderDone at_).strapMode = s.strapMode := State.strapMode_of_fget (hfget ..)
  have hloaded (tg : Nat) : (s.loaderDone at_).loaded tg = s.loaded tg :=
    State.loaded_of (by rw [hboot]) (hfget ..) (hfget ..) tg
  rw [State.loaderStep6_eq]
  generalize s.loaderDone at_ = y at *
  rw [← hstraps, ← hloaded, ← hloaded]
  by_cases h : y.strapMode = 3
  · rw [if_pos h]
    refine ⟨?_, fun _ => ⟨State.rom_fset (by decide), ?_, ?_⟩, fun hne => absurd h hne⟩ <;>
      rw [State.fset_boot, hboot]
  · have hrom (tg : Nat) : (y.fset pgSys SYS.BOOT_STAT.ROM 1).loaded tg = y.loaded tg :=
      State.loaded_of (by rw [State.fset_boot]) State.fset_sys_fw State.fset_sys_fw tg
    rw [if_neg h, State.released_boot, hrom, hrom]
    refine ⟨?_, fun he => absurd he h, fun _ => ⟨?_, fun hl => ?_, fun hl => ?_⟩⟩
    · simp only [State.fset_boot, hboot]
    · rw [State.released_rom, State.rom_fset (by decide)]
    · simp only [hl, Bool.true_or]
    · simp only [hl, Bool.true_or]

/-! ### Locks that break, and pages that are reset -/

/-- The owner of a page whose lock breaks is nobody; every other page keeps its owner. -/
theorem State.breakLock_owner (s : State) (q p : Nat) :
    ((s.breakLock q).hdr p).owner = if p = q then none else (s.hdr p).owner := by
  unfold State.breakLock
  split
  · simp only
    by_cases h : p = q
    · rw [if_pos h, State.evt_hdr_owner, h, State.setHdr_hdr_self]
    · rw [if_neg h, State.evt_hdr_owner, State.setHdr_hdr_other _ _ _ _ h, State.reloadShadows_hdr, if_neg h]
  next hfree =>
    split
    next h =>
      rw [h]
      exact Option.not_isSome_iff_eq_none.mp hfree
    · rfl

/-- A lock that breaks leaves the record of the page's last command. -/
theorem State.breakLock_done (h : s.Done p op i) (q : Nat) : (s.breakLock q).Done p op i := by
  obtain ⟨hrun, hstate, hop, hreason, hissuer, hevt⟩ := h
  have hfreed (y : State) (hy : (y.hdr p).cmdState = (s.hdr p).cmdState ∧ (y.hdr p).cmdOpcode = (s.hdr p).cmdOpcode ∧
      (y.hdr p).cmdReason = (s.hdr p).cmdReason ∧ (y.hdr p).cmdIssuer = (s.hdr p).cmdIssuer) :
      ((y.evt q 2).hdr p).cmdState = 2 ∧ ((y.evt q 2).hdr p).cmdOpcode = op ∧ ((y.evt q 2).hdr p).cmdReason = 0 ∧
      ((y.evt q 2).hdr p).cmdIssuer = i := by
    obtain ⟨h1, h2, h3, h4⟩ := hy
    rw [State.evt_hdr_cmdState, State.evt_hdr_cmdOpcode, State.evt_hdr_cmdReason, State.evt_hdr_cmdIssuer, h1, h2, h3, h4]
    exact ⟨hstate, hop, hreason, hissuer⟩
  obtain ⟨hkeepsRun, hkeepsEvt⟩ := s.breakLock_hdr q p
  have hrecord : ((s.breakLock q).hdr p).cmdState = 2 ∧ ((s.breakLock q).hdr p).cmdOpcode = op ∧
      ((s.breakLock q).hdr p).cmdReason = 0 ∧ ((s.breakLock q).hdr p).cmdIssuer = i := by
    unfold State.breakLock
    split
    · refine hfreed _ ?_
      by_cases h : p = q
      · rw [h, State.setHdr_hdr_self, State.reloadShadows_hdr, if_pos rfl]
        exact ⟨rfl, rfl, rfl, rfl⟩
      · rw [State.setHdr_hdr_other _ _ _ _ h, State.reloadShadows_hdr, if_neg h]
        exact ⟨rfl, rfl, rfl, rfl⟩
    · exact ⟨hstate, hop, hreason, hissuer⟩
  obtain ⟨h1, h2, h3, h4⟩ := hrecord
  exact ⟨hkeepsRun.trans hrun, h1, h2, h3, h4, hkeepsEvt 3 hevt⟩

theorem State.breakLocksOf_done (h : s.Done p op i) (m : Nat) : (s.breakLocksOf m).Done p op i :=
  List.foldlRecOn (motive := fun y : State => y.Done p op i) _ _ h fun y hy q _ => by
    split
    · exact State.breakLock_done hy q
    · exact hy

/-- No page of the machine is locked by a master. -/
def State.Unheld (m : Nat) (s : State) : Prop := ∀ p ∈ allPages, (s.hdr p).owner ≠ some m

theorem State.Unheld.breakLock (h : s.Unheld m) (q : Nat) : (s.breakLock q).Unheld m := fun p hp => by
  rw [State.breakLock_owner]
  split
  · simp
  · exact h p hp

theorem State.Unheld.breakLocksOf (h : s.Unheld m) (n : Nat) : (s.breakLocksOf n).Unheld m :=
  List.foldlRecOn (motive := fun y : State => y.Unheld m) _ _ h fun y hy q _ => by
    split
    · exact hy.breakLock q
    · exact hy

theorem State.breakLocksOf_unheld (s : State) (m : Nat) : (s.breakLocksOf m).Unheld m := fun p hp => by
  refine foldl_establishes (Q := fun _ => True) (P := fun y : State => (y.hdr p).owner ≠ some m) (fun _ _ _ => trivial)
    (fun y _ => ?_) (fun y q _ hy => ?_) _ hp s trivial
  · split
    · rw [State.breakLock_owner, if_pos rfl]
      simp
    next hfree => exact fun he => hfree (by rw [State.holds, he]; simp)
  · split
    · rw [State.breakLock_owner]
      split
      · simp
      · exact hy
    · exact hy

theorem State.SamePage.of_resetPage (h : q ≠ p) : State.SamePage q s (s.resetPage p) := by
  refine ⟨?_, fun off => ⟨SMap.read_clear_other _ _ h off, SMap.read_clear_other _ _ h off,
    SMap.read_clear_other _ _ h off, SMap.read_clear_other _ _ h off⟩⟩
  unfold State.hdr SMap.read
  exact congrArg (Option.getD · _) (SMap.find?_del_other _ h)

theorem State.resetPage_hdr_self (s : State) (p : Nat) : (s.resetPage p).hdr p = {} := by
  unfold State.hdr SMap.read
  show (SMap.find? (SMap.del s.pages.hdr p) p).getD {} = {}
  rw [SMap.find?_del_self]
  rfl

theorem State.Unheld.resetPage (h : s.Unheld m) (q : Nat) : (s.resetPage q).Unheld m := fun p hp => by
  by_cases hq : p = q
  · rw [hq, State.resetPage_hdr_self]
    simp
  · rw [(State.SamePage.of_resetPage hq).1]
    exact h p hp

/-! ### MGT's domain is lost (R431, R536) -/

/-- The pages of MGT's domain are reset and its blocks have forgotten. -/
def State.mgtCleared (s : State) : State :=
  (((pagesOfDomain 2).foldl State.resetPage s).breakLocksOf 9 |>.breakLocksOf 0xC).clearDomain 2

/-- What SAF's part of the shared pages showed stays, and MGT does not run. -/
def State.mgtLossShown (s t : State) : State :=
  ((((t.fset pgFw FW.STAT.SAF_BANK (s.fget pgFw FW.STAT.SAF_BANK)).fset pgFw FW.STAT.SAF_TRIAL
    (s.fget pgFw FW.STAT.SAF_TRIAL)).showVersion 2).fset pgSys SYS.BOOT_STAT.MGT_OK 0).showOtp

theorem State.domainLost_mgt (s : State) : s.domainLost 2 = s.mgtLossShown s.mgtCleared := by
  unfold State.domainLost State.mgtLossShown State.mgtCleared mastersOf
  simp only [↓reduceIte, Nat.reduceEqDiff, List.foldl_cons, List.foldl_nil]

theorem State.mgtLossShown_shows (s t : State) : State.Shows shownPages t (s.mgtLossShown t) :=
  State.Shows.trans (((((State.Shows.refl _ t).fset (p := pgFw) (by decide) _ _).fset (by decide) _ _).fset (p := pgFw)
    (by decide) _ _).fset (by decide) _ _) (State.showOtp_shows _)

theorem State.mgtLossShown_fget_sys (hok : SYS.BOOT_STAT.MGT_OK.Apart f) (hoff : SYS.BOOT_STAT.BENCH_OFF.Apart f) :
    (s.mgtLossShown t).fget pgSys f = t.fget pgSys f := by
  unfold State.mgtLossShown
  rw [State.showOtp_fget_sys hoff, State.fset_fget_apart hok, State.showVersion_fget_sys, State.fset_fw_sys,
    State.fset_fw_sys]

theorem State.mgtLossShown_ok (s t : State) : (s.mgtLossShown t).fget pgSys SYS.BOOT_STAT.MGT_OK = 0 := by
  unfold State.mgtLossShown
  rw [State.showOtp_fget_sys (by decide), State.fset_fget (by decide) (by decide)]

theorem State.clearDomain_pages (s : State) : (s.clearDomain 2).pages = s.pages := by
  unfold State.clearDomain
  rw [if_neg (by decide), if_pos rfl]

theorem mem_pagesOfDomain_mgt (h : p ∈ pagesOfDomain 2) : p ≠ pgSys := by
  revert h p
  decide

/-- The pages that are reset are not SYS. -/
theorem State.resetMgtPages_sys (s : State) : State.SamePage pgSys s ((pagesOfDomain 2).foldl State.resetPage s) :=
  List.foldlRecOn (motive := State.SamePage pgSys s) _ _ (State.SamePage.refl _ s) fun _ hy _ hp =>
    hy.trans (State.SamePage.of_resetPage (mem_pagesOfDomain_mgt hp).symm)

theorem State.mgtCleared_word (s : State) (off : Nat) : s.mgtCleared.word (addrOf pgSys off) = s.word (addrOf pgSys off) := by
  unfold State.mgtCleared
  rw [((State.samePage_of_pages pgSys (State.clearDomain_pages _)).2 off).1, State.breakLocksOf_word, State.breakLocksOf_word]
  exact (s.resetMgtPages_sys.2 off).1

theorem State.mgtCleared_done (h : s.Done pgSys op i) : s.mgtCleared.Done pgSys op i :=
  (State.samePage_of_pages pgSys (State.clearDomain_pages _)).done
    (State.breakLocksOf_done (State.breakLocksOf_done (s.resetMgtPages_sys.done h) 9) 0xC)

theorem State.mgtCleared_unheld (h : s.Unheld 9) : s.mgtCleared.Unheld 9 := by
  have hreset : ((pagesOfDomain 2).foldl State.resetPage s).Unheld 9 :=
    List.foldlRecOn (motive := fun y : State => y.Unheld 9) _ _ h fun _ hy q _ => hy.resetPage q
  intro p hp
  unfold State.mgtCleared
  rw [(State.samePage_of_pages p (State.clearDomain_pages _)).1]
  exact ((hreset.breakLocksOf 9).breakLocksOf 0xC) p hp

theorem State.Shows.done {l : List Nat} (h : State.Shows l s t) (hd : s.Done p op i) : t.Done p op i := by
  unfold State.Done
  rw [h.page_hdr]
  exact hd

theorem State.Shows.unheld {l : List Nat} (h : State.Shows l s t) (hu : s.Unheld m) : t.Unheld m := fun p hp => by
  rw [h.page_hdr]
  exact hu p hp

/-! ### MGT restarts (R536) -/

/-- What MGT had started is abandoned on CAD alone. -/
theorem State.abandonMgt_frame (s : State) : State.SameBut [.cad, .out, .page .cad] s s.abandonMgt := by
  have hstop {y : State} (hy : State.SameBut [.cad, .out, .page .cad] s y) :
      State.SameBut [.cad, .out, .page .cad] s (y.abandonCmd pgCad) := by
    unfold State.abandonCmd
    refine State.SameOutside.ite (State.cmdFail_same ?_ rfl (pageMask_cad rfl)) hy
    exact State.fset_same (State.SameOutside.set_cad hy rfl) rfl (pageMask_cad rfl)
  unfold State.abandonMgt
  extract_lets -merge -useContext -underBinder y
  have hrebuild : State.SameBut [.cad, .out, .page .cad] s y := by
    unfold y
    split
    · exact State.SameOutside.ite (State.fset_same (State.SameOutside.set_cad (State.SameOutside.refl _ s) rfl) rfl
        (pageMask_cad rfl)) (State.SameOutside.refl _ s)
    · exact State.SameOutside.refl _ s
  split
  · exact State.SameOutside.ite (hstop hrebuild) hrebuild
  · exact hrebuild

/-- MGT is down: its locks have broken and its domain is lost. -/
def State.mgtDown (s : State) : State := (s.abandonMgt.breakLocksOf 9).domainLost 2

/-- RESET_STAT counts a restart of MGT and shows its cause. -/
def State.restartCounted (s : State) (cause : Nat) : State :=
  (s.fset pgSys SYS.RESET_STAT.MGT_CAUSE cause).finc pgSys SYS.RESET_STAT.MGT_RESTARTS

/-- The loader runs for MGT alone. -/
def State.loadsMgt (s : State) : State := { s with boot := { s.boot with loader := some (2, s.mono), mgtOnly := true } }

theorem State.mgtRestart_eq (s : State) (cause : Nat) : s.mgtRestart cause =
    (s.mgtDown.restartCounted cause).loadsMgt := by
  unfold State.mgtRestart State.loadsMgt State.restartCounted State.mgtDown
  rfl

theorem State.restartCounted_shows (s : State) (cause : Nat) : State.Shows [pgSys] s (s.restartCounted cause) :=
  ((State.Shows.refl _ s).fset (by decide) _ _).fset (by decide) _ _

theorem State.loadsMgt_pages (s : State) : s.loadsMgt.pages = s.pages := rfl

theorem State.loadsMgt_loader (s : State) : s.loadsMgt.boot.loader = some (2, s.mono) := rfl

theorem State.restartCounted_mono (s : State) (cause : Nat) : (s.restartCounted cause).mono = s.mono := rfl

theorem State.loadsMgt_fget (s : State) (p : Nat) (f : Fld) : s.loadsMgt.fget p f = s.fget p f := rfl

theorem State.mgtDown_done (h : s.Done pgSys op i) : s.mgtDown.Done pgSys op i := by
  have habandoned : s.abandonMgt.Done pgSys op i := by
    unfold State.Done
    rw [s.abandonMgt_frame.hdr (ty := .sys) rfl rfl]
    exact h
  unfold State.mgtDown
  rw [State.domainLost_mgt]
  exact (State.mgtLossShown_shows ..).done (State.mgtCleared_done (State.breakLocksOf_done habandoned 9))

theorem State.mgtDown_unheld (s : State) : s.mgtDown.Unheld 9 := by
  unfold State.mgtDown
  rw [State.domainLost_mgt]
  exact (State.mgtLossShown_shows ..).unheld (State.mgtCleared_unheld (State.breakLocksOf_unheld _ 9))

theorem State.mgtDown_fget (hok : SYS.BOOT_STAT.MGT_OK.Apart f) (hoff : SYS.BOOT_STAT.BENCH_OFF.Apart f) :
    s.mgtDown.fget pgSys f = s.fget pgSys f := by
  unfold State.mgtDown
  rw [State.domainLost_mgt, State.mgtLossShown_fget_sys hok hoff, State.fget_of_word (State.mgtCleared_word ..),
    State.fget_of_word (State.breakLocksOf_word ..)]
  exact s.abandonMgt_frame.fget (ty := .sys) rfl rfl

theorem State.mgtDown_ok (s : State) : s.mgtDown.fget pgSys SYS.BOOT_STAT.MGT_OK = 0 := by
  unfold State.mgtDown
  rw [State.domainLost_mgt]
  exact State.mgtLossShown_ok ..

theorem State.mgtDown_mono (s : State) : s.mgtDown.mono = s.mono :=
  State.domainLost_same (State.breakLocksOf_same (s.abandonMgt_frame.mono (n := 73786975199189385080) rfl) rfl) rfl .mono rfl

/-- An MGT restart breaks MGT's locks, counts, and lets the loader run for MGT alone. -/
theorem State.mgtRestart_outcome (hd : s.Done pgSys op i) (hc : cause < 4) : (s.mgtRestart cause).Done pgSys op i ∧
    (∀ p ∈ allPages, ((s.mgtRestart cause).hdr p).owner ≠ some 9) ∧
    (s.mgtRestart cause).fget pgSys SYS.RESET_STAT.MGT_CAUSE = cause ∧
    (s.mgtRestart cause).fget pgSys SYS.RESET_STAT.MGT_RESTARTS =
      min (s.fget pgSys SYS.RESET_STAT.MGT_RESTARTS + 1) 255 ∧
    (s.mgtRestart cause).fget pgSys SYS.BOOT_STAT.MGT_OK = 0 ∧
    (s.mgtRestart cause).boot.loader = some (2, s.mono) ∧ (s.mgtRestart cause).boot.mgtOnly = true := by
  rw [State.mgtRestart_eq]
  have hcounted := s.mgtDown.restartCounted_shows cause
  refine ⟨(State.samePage_of_pages pgSys (State.loadsMgt_pages _)).done (hcounted.done (State.mgtDown_done hd)), ?_, ?_, ?_, ?_,
    ?_, rfl⟩
  · intro p hp
    rw [(State.samePage_of_pages p (State.loadsMgt_pages _)).1]
    exact hcounted.unheld s.mgtDown_unheld p hp
  · rw [State.loadsMgt_fget]
    unfold State.restartCounted
    rw [State.finc_fget_apart (by decide), State.fset_fget (by decide) hc]
  · rw [State.loadsMgt_fget]
    unfold State.restartCounted
    rw [State.finc_fget (by decide), State.fset_fget_apart (by decide), State.mgtDown_fget (by decide) (by decide)]
    rfl
  · rw [State.loadsMgt_fget]
    unfold State.restartCounted
    rw [State.finc_fget_apart (by decide), State.fset_fget_apart (by decide), State.mgtDown_ok]
  · rw [State.loadsMgt_loader, State.restartCounted_mono, State.mgtDown_mono]

/-! ### MGT halts (R366, R520) -/

/-- The report of a poisoned fetch of MGT. -/
def mgtFetchReport (addr : Nat) : ErrRec := { src := 0x80, cls := 4, typ := 3, space := 3, addr := addr, master := 9 }

theorem exec_mgtHalt_on (h : s.boot.powered = true) (addr : BitVec 32) :
    exec (.mgtHalt addr) s = .next (s.mgtHalt addr.toNat) := congrArg Host.Outcome.next (State.live_on h _)

theorem State.mgtHalt_idle {addr : Nat} (h : s.boot.mgtRunning = false) : s.mgtHalt addr = s := by
  unfold State.mgtHalt
  rw [h]
  rfl

theorem State.mgtHalt_trial {addr : Nat} (h : s.boot.mgtRunning = true)
    (ht : (s.report (mgtFetchReport addr)).fbit pgFw FW.STAT.MGT_TRIAL = true) :
    s.mgtHalt addr = (s.report (mgtFetchReport addr)).revert 1 := by
  unfold State.mgtHalt
  rw [h]
  exact if_pos ht

theorem State.mgtHalt_halts {addr : Nat} (h : s.boot.mgtRunning = true)
    (ht : (s.report (mgtFetchReport addr)).fbit pgFw FW.STAT.MGT_TRIAL = false) : s.mgtHalt addr =
      if (s.report (mgtFetchReport addr)).fbit pgSys SYS.RESET_CTL.MGT_AUTO = true then
        ((s.report (mgtFetchReport addr)).setRunning 1 false).mgtRestart 3
      else (s.report (mgtFetchReport addr)).setRunning 1 false := by
  have hauto : ((s.report (mgtFetchReport addr)).setRunning 1 false).fbit pgSys SYS.RESET_CTL.MGT_AUTO =
      (s.report (mgtFetchReport addr)).fbit pgSys SYS.RESET_CTL.MGT_AUTO :=
    congrArg (fun k => decide (k = 1)) (State.setRunning_fget_sys (by decide))
  rw [← hauto]
  unfold State.mgtHalt
  rw [h]
  exact if_neg (Bool.eq_false_iff.mp ht)

/-! ### The bench port takes words (R545) -/

/-- A check that refuses nothing has denied nothing. -/
theorem State.accessCheck_allowed {a : Access} (h : s.accessCheck a = none) :
    s.denied a.master ((a.addr - 0x02000000) / 0x1000) a.write ((a.addr - 0x02000000) % 0x1000) a.data.toNat = false := by
  unfold State.accessCheck at h
  simp only at h
  split at h
  · cases h
  · split at h
    · cases h
    · split at h
      · cases h
      · split at h
        · cases h
        · split at h
          · cases h
          · split at h
            · cases h
            next hdenied => exact Bool.eq_false_iff.mpr hdenied

/-- A word for the bench port's image is refused unless the loader takes one or holds. -/
theorem State.benchData_loads (hv : v < 2 ^ 32) (h : s.writes m pgSys SYS.BENCH_DATA.WORD.off v = true) :
    s.benchLoads = true ∨ s.rom = 4 := by
  have hdenied := State.accessCheck_allowed (State.writes_checked h)
  rw [writeAccess_rel, addrOf_page, addrOf_off, writeAccess_data hv] at hdenied
  unfold State.denied at hdenied
  rw [show pageOf pgSys = some (.sys, 0) from rfl] at hdenied
  simp only [Bool.or_eq_false_iff] at hdenied
  obtain ⟨-, hsys⟩ := hdenied
  change (decide (m ≠ 8) || (true && !(s.benchLoads || decide (s.rom = 4)))) = false at hsys
  rw [Bool.or_eq_false_iff, Bool.true_and, Bool.not_eq_false', Bool.or_eq_true, decide_eq_true_eq] at hsys
  exact hsys.2

/-- The words of a target are stored; WORDS does not count them yet. -/
def State.benchStored (s : State) (tg : Nat) (ws : List Nat) : State :=
  if tg = 1 then { s with boot := { s.boot with benchMgt := ws } }
  else if tg = 2 then { s with boot := { s.boot with benchSaf := ws } }
  else s

theorem State.benchStored_pages (s : State) (tg : Nat) (ws : List Nat) : (s.benchStored tg ws).pages = s.pages := by
  unfold State.benchStored
  split
  · rfl
  · split <;> rfl

theorem State.benchStored_words (htg : tg = 1 ∨ tg = 2) (ws : List Nat) : (s.benchStored tg ws).benchWords tg = ws := by
  rcases htg with rfl | rfl <;> rfl

theorem State.benchStored_keeps (s : State) (tg : Nat) (ws : List Nat) :
    (s.benchStored tg ws).boot.mgtRunning = s.boot.mgtRunning ∧ (s.benchStored tg ws).boot.safRunning = s.boot.safRunning := by
  unfold State.benchStored
  split
  · exact ⟨rfl, rfl⟩
  · split <;> exact ⟨rfl, rfl⟩

theorem State.setBenchWords_eq (htg : tg = 1 ∨ tg = 2) (hs : s.fget pgSys SYS.BENCH_CTL.TARGET = tg) (ws : List Nat) :
    s.setBenchWords tg ws = (s.benchStored tg ws).fset pgSys SYS.BENCH_CTL.WORDS ws.length := by
  have hcount : ((s.benchStored tg ws).benchWords ((s.benchStored tg ws).fget pgSys SYS.BENCH_CTL.TARGET)).length =
      ws.length := by
    rw [State.fget_of_pages (State.benchStored_pages ..), hs, State.benchStored_words htg]
  rw [← hcount]
  rfl

theorem State.benchData_room (htg : tg = 1 ∨ tg = 2) (hs : s.fget pgSys SYS.BENCH_CTL.TARGET = tg)
    (hlen : (s.benchWords tg).length < 64 + bankSize tg / 4) :
    s.benchData v = s.setBenchWords tg (s.benchWords tg ++ [v]) := by
  subst hs
  refine if_pos ?_
  rw [Bool.and_eq_true, Bool.or_eq_true, decide_eq_true_eq, decide_eq_true_eq, decide_eq_true_eq]
  exact ⟨htg, hlen⟩

theorem State.benchData_full (hs : s.fget pgSys SYS.BENCH_CTL.TARGET = tg)
    (h : ¬(tg = 1 ∨ tg = 2) ∨ 64 + bankSize tg / 4 ≤ (s.benchWords tg).length) : s.benchData v = s := by
  subst hs
  refine if_neg ?_
  rw [Bool.and_eq_true, Bool.or_eq_true, decide_eq_true_eq, decide_eq_true_eq, decide_eq_true_eq]
  rintro ⟨htg, hlen⟩
  rcases h with h | h
  · exact h htg
  · exact absurd hlen (Nat.not_lt.mpr h)

/-! ### The bench port starts an image (R545) -/

/-- The write-only bits of a register outside the key are not stored. -/
theorem State.storeBlock_withoutKey {a : Nat} {r : Reg} (ha : a / 0x1000 ≠ pgLink 0) :
    s.storeBlock a v r = s.storeBlock a v { r with wo := 0 } := by
  have hkey : (List.range 4).any (fun i => a = addrOf (pgLink 0) (LINK.AUTH_KEY.KEY i).off) = false := by
    refine List.any_eq_false.mpr fun i _ => ?_
    rw [decide_eq_true_eq]
    exact fun e => ha (by rw [e, addrOf_page])
  unfold State.storeBlock
  simp only [hkey, Bool.false_eq_true, if_false]

/-- BENCH_CTL. -/
def benchCtlReg : Reg := { off := 0x0DC, rw := 3, wo := 4, ro := 0xFFFFF000 }

theorem benchCtl_low : ∀ tg : Fin 4, ∀ b < 2, (tg.val + 4).testBit b = tg.val.testBit b := by decide

/-- A write of BENCH_CTL names the target. -/
theorem State.benchCtl_target (tg : Fin 4) :
    (s.storeBlock (addrOf pgSys 0x0DC) (tg + 4) benchCtlReg).fget pgSys SYS.BENCH_CTL.TARGET = tg := by
  refine Nat.eq_of_testBit_eq fun b => ?_
  unfold State.fget
  rw [bitsOf_testBit]
  rw [show SYS.BENCH_CTL.TARGET.w = 2 from rfl, show SYS.BENCH_CTL.TARGET.lo + b = b from Nat.zero_add b]
  by_cases hb : b < 2
  · have hbit := State.storeBlock_word_self (s := s) (a := addrOf pgSys 0x0DC) (v := tg + 4) (r := { benchCtlReg with wo := 0 })
      rfl (show b < 32 by omega)
    rw [← State.storeBlock_withoutKey (by decide), show servedBits (addrOf pgSys 0x0DC) = 0xFFFFFFFF from rfl] at hbit
    have hvalue : ((s.storeBlock (addrOf pgSys 0x0DC) (tg + 4) benchCtlReg).word (addrOf pgSys 0x0DC)).getLsbD b =
        (tg.val + 4).testBit b := by
      interval_cases b <;> exact hbit
    rw [decide_eq_true hb, Bool.true_and]
    exact hvalue.trans (benchCtl_low tg b hb)
  · rw [decide_eq_false hb, Bool.false_and, Nat.testBit_lt_two_pow]
    exact Nat.lt_of_lt_of_le tg.isLt (Nat.pow_le_pow_right (by decide) (Nat.not_lt.mp hb) : 2 ^ 2 ≤ 2 ^ b)

/-! ### An image of the bench port is checked and started (R545) -/

/-- A processor takes up the image that was loaded for it. -/
def State.imageUp (s : State) (tg : Nat) : State := if tg = 1 then s.mgtUp else s.safUp

theorem State.imageUp_boot (s : State) (tg : Nat) : (s.imageUp tg).boot =
    if tg = 1 then { s.boot with mgtRunning := true } else { s.boot with safRunning := true } := by
  unfold State.imageUp
  split
  · exact s.mgtUp_boot
  · exact s.safUp_boot

theorem State.imageUp_runs (s : State) (tg : Nat) :
    (if tg = 1 then (s.imageUp tg).boot.mgtRunning else (s.imageUp tg).boot.safRunning) = true := by
  rw [State.imageUp_boot]
  split <;> rfl

theorem State.imageUp_keeps (s : State) (tg : Nat) : (s.imageUp tg).boot.banks = s.boot.banks ∧
    (s.imageUp tg).runSlot tg = s.runSlot tg ∧ (s.imageUp tg).benchWords tg = s.benchWords tg := by
  unfold State.runSlot State.benchWords
  rw [State.imageUp_boot]
  split <;> exact ⟨rfl, rfl, rfl⟩

theorem State.imageUp_target (s : State) (tg : Nat) :
    (s.imageUp tg).fget pgSys SYS.BENCH_CTL.TARGET = s.fget pgSys SYS.BENCH_CTL.TARGET := by
  unfold State.imageUp
  split
  · exact State.mgtUp_fget_sys (by decide)
  · exact State.safUp_fget_sys (by decide)

/-- ROM shows that both processors run. -/
def State.bothShown (s : State) : State :=
  if s.boot.mgtRunning && s.boot.safRunning then s.fset pgSys SYS.BOOT_STAT.ROM 1 else s

theorem State.bothShown_boot (s : State) : s.bothShown.boot = s.boot := by
  unfold State.bothShown
  split
  · exact State.fset_boot ..
  · rfl

theorem State.bothShown_target (s : State) :
    s.bothShown.fget pgSys SYS.BENCH_CTL.TARGET = s.fget pgSys SYS.BENCH_CTL.TARGET := by
  unfold State.bothShown
  split
  · exact State.fset_fget_apart (by decide)
  · rfl

/-- The image that the bench port has stored for a target. -/
def State.benchImage (s : State) (tg : Nat) : List Nat := (s.benchWords tg).flatMap (fun w => leBytes w 4)

theorem State.benchStored_otp (s : State) (tg : Nat) (ws : List Nat) : (s.benchStored tg ws).otp = s.otp := by
  unfold State.benchStored
  split
  · rfl
  · split <;> rfl

theorem State.setBenchWords_otp (htg : tg = 1 ∨ tg = 2) (hs : s.fget pgSys SYS.BENCH_CTL.TARGET = tg) (ws : List Nat) :
    (s.setBenchWords tg ws).otp = s.otp := by
  rw [State.setBenchWords_eq htg hs, State.fset_otp, State.benchStored_otp]

theorem State.setBenchWords_boot (htg : tg = 1 ∨ tg = 2) (hs : s.fget pgSys SYS.BENCH_CTL.TARGET = tg) (ws : List Nat) :
    (s.setBenchWords tg ws).boot = (s.benchStored tg ws).boot := by
  rw [State.setBenchWords_eq htg hs, State.fset_boot]

theorem State.setBenchWords_target (htg : tg = 1 ∨ tg = 2) (hs : s.fget pgSys SYS.BENCH_CTL.TARGET = tg) (ws : List Nat) :
    (s.setBenchWords tg ws).fget pgSys SYS.BENCH_CTL.TARGET = tg := by
  rw [State.setBenchWords_eq htg hs, State.fset_fget_apart (by decide),
    State.fget_of_pages (State.benchStored_pages ..), hs]

theorem State.benchStart_holds (h : s.rom = 4) : s.benchStart = (s.fset pgSys SYS.BOOT_STAT.ROM 1).released
    ((s.fset pgSys SYS.BOOT_STAT.ROM 1).loaded 1 && !(s.fset pgSys SYS.BOOT_STAT.ROM 1).boot.mgtRunning) := by
  unfold State.benchStart State.released State.mgtUp State.safUp
  rw [if_pos h]

theorem State.benchStart_fails (h : s.rom ≠ 4) (htg : tg = 1 ∨ tg = 2) (hs : s.fget pgSys SYS.BENCH_CTL.TARGET = tg)
    (hf : imageFail s.otp tg (s.benchImage tg) = some r) :
    s.benchStart = (s.setBenchWords tg []).fset pgSys (failFld tg) r := by
  have hotp := State.setBenchWords_otp htg hs []
  unfold State.benchImage at hf
  subst hs
  unfold State.benchStart
  rw [if_neg h]
  simp only [Bool.or_eq_true, decide_eq_true_eq, if_pos htg, hotp, hf]

theorem State.benchStart_runs (h : s.rom ≠ 4) (htg : tg = 1 ∨ tg = 2) (hs : s.fget pgSys SYS.BENCH_CTL.TARGET = tg)
    (hf : imageFail s.otp tg (s.benchImage tg) = none) :
    s.benchStart = (((s.setBenchWords tg []).loadBank tg (s.benchImage tg) none).imageUp tg).bothShown := by
  have hotp := State.setBenchWords_otp htg hs []
  unfold State.benchImage at hf ⊢
  unfold State.benchStart
  rw [if_neg h]
  simp only [hs, Bool.or_eq_true, decide_eq_true_eq, if_pos htg, hotp, hf]
  unfold State.bothShown State.imageUp State.mgtUp State.safUp
  rcases htg with rfl | rfl
  · simp only [if_pos]
  · simp only [if_neg (show ¬(2 = 1) by decide)]

theorem State.benchStart_idle (h : s.rom ≠ 4) (htg : ¬(s.fget pgSys SYS.BENCH_CTL.TARGET = 1 ∨
    s.fget pgSys SYS.BENCH_CTL.TARGET = 2)) : s.benchStart = s := by
  unfold State.benchStart
  rw [if_neg h]
  simp only [Bool.or_eq_true, decide_eq_true_eq, if_neg htg]

theorem State.benchStart_target (s : State) :
    s.benchStart.fget pgSys SYS.BENCH_CTL.TARGET = s.fget pgSys SYS.BENCH_CTL.TARGET := by
  by_cases h : s.rom = 4
  · rw [State.benchStart_holds h, State.released_fget_sys (by decide) (by decide), State.fset_fget_apart (by decide)]
  by_cases htg : s.fget pgSys SYS.BENCH_CTL.TARGET = 1 ∨ s.fget pgSys SYS.BENCH_CTL.TARGET = 2
  · cases hf : imageFail s.otp (s.fget pgSys SYS.BENCH_CTL.TARGET) (s.benchImage (s.fget pgSys SYS.BENCH_CTL.TARGET)) with
    | some r =>
      rw [State.benchStart_fails h htg rfl hf, State.fset_fget_apart (by unfold failFld; split <;> decide),
        State.setBenchWords_target htg rfl]
    | none =>
      rw [State.benchStart_runs h htg rfl hf, State.bothShown_target, State.imageUp_target, State.loadBank_fget_sys,
        State.setBenchWords_target htg rfl]
  · rw [State.benchStart_idle h htg]

theorem State.benchStart_releases (h : s.rom = 4) : s.benchStart.rom = 1 ∧
    (s.loaded 1 = true → s.benchStart.boot.mgtRunning = true) ∧
    (s.loaded 2 = true → s.benchStart.boot.safRunning = true) := by
  have hrom (tg : Nat) : (s.fset pgSys SYS.BOOT_STAT.ROM 1).loaded tg = s.loaded tg :=
    State.loaded_of (by rw [State.fset_boot]) State.fset_sys_fw State.fset_sys_fw tg
  rw [State.benchStart_holds h, State.released_rom, State.rom_fset (by decide), State.released_boot, hrom, hrom,
    State.fset_boot]
  refine ⟨rfl, fun hl => ?_, fun hl => ?_⟩
  · show (s.loaded 1 && !s.boot.mgtRunning || s.boot.mgtRunning) = true
    rw [hl]
    cases s.boot.mgtRunning <;> rfl
  · show (s.loaded 2 || s.boot.safRunning) = true
    rw [hl]
    rfl

theorem State.benchStart_refuses (h : s.rom ≠ 4) (htg : tg = 1 ∨ tg = 2) (hs : s.fget pgSys SYS.BENCH_CTL.TARGET = tg)
    (hf : imageFail s.otp tg (s.benchImage tg) = some r) : s.benchStart.benchWords tg = [] ∧
    s.benchStart.fget pgSys (failFld tg) = r ∧ s.benchStart.boot.mgtRunning = s.boot.mgtRunning ∧
    s.benchStart.boot.safRunning = s.boot.safRunning := by
  have hboot : s.benchStart.boot = (s.benchStored tg []).boot := by
    rw [State.benchStart_fails h htg hs hf, State.fset_boot, State.setBenchWords_boot htg hs]
  refine ⟨?_, ?_, ?_⟩
  · rw [← State.benchStored_words (s := s) htg []]
    unfold State.benchWords
    rw [hboot]
  · rw [State.benchStart_fails h htg hs hf, failFld_fget (imageFail_lt hf)]
  · rw [hboot]
    exact State.benchStored_keeps ..

theorem State.benchStart_starts (h : s.rom ≠ 4) (htg : tg = 1 ∨ tg = 2) (hs : s.fget pgSys SYS.BENCH_CTL.TARGET = tg)
    (hf : imageFail s.otp tg (s.benchImage tg) = none) : s.benchStart.benchWords tg = [] ∧
    s.benchStart.bankImage tg 0 = s.benchImage tg ∧ s.benchStart.runSlot tg = none ∧
    (if tg = 1 then s.benchStart.boot.mgtRunning else s.benchStart.boot.safRunning) = true := by
  rw [State.benchStart_runs h htg hs hf]
  have hstored := State.setBenchWords_boot htg hs []
  have hempty := State.benchStored_words (s := s) htg []
  have himage := (s.setBenchWords tg []).loadBank_image tg (s.benchImage tg) none
  have hslot := (s.setBenchWords tg []).loadBank_runSlot tg (s.benchImage tg) none
  obtain ⟨-, -, -, -, hmgt, hsaf⟩ := (s.setBenchWords tg []).loadBank_boot tg (s.benchImage tg) none
  rw [hstored] at hmgt hsaf
  generalize (s.setBenchWords tg []).loadBank tg (s.benchImage tg) none = z at *
  obtain ⟨hbanks, hruns, hwords⟩ := z.imageUp_keeps tg
  have hboot := (z.imageUp tg).bothShown_boot
  refine ⟨?_, ?_, ?_, ?_⟩
  · rw [← hempty]
    refine Eq.trans (b := z.benchWords tg) ?_ ?_
    · rw [← hwords]
      unfold State.benchWords
      rw [hboot]
    · unfold State.benchWords
      rw [hmgt, hsaf]
  · rw [← himage]
    unfold State.bankImage
    rw [hboot, hbanks]
  · rw [← hslot, ← hruns]
    unfold State.runSlot
    rw [hboot]
  · rw [hboot]
    exact z.imageUp_runs tg

/-! ### What the bench port writes (R544 to R546) -/

theorem bankSize_le (tg : Nat) : bankSize tg / 4 ≤ 0x20000 := by
  unfold bankSize
  split <;> decide

/-- BENCH_DATA. -/
def benchDataReg : Reg := { off := 0x0E0, wo := 0xFFFFFFFF }

theorem State.benchData_eq (h : s.writes m pgSys SYS.BENCH_DATA.WORD.off v = true) (hv : v < 2 ^ 32) :
    s.writeReg m pgSys SYS.BENCH_DATA.WORD.off v =
      ((s.storeBlock (addrOf pgSys SYS.BENCH_DATA.WORD.off) v benchDataReg).benchWord v).emit (.access m 0 0) := by
  rw [State.writeReg_writeOnly (ty := .sys) (i := 0) (j := 0) (r := benchDataReg) h (by decide) (by decide) rfl (by decide) rfl
    (by decide) (by decide) (by decide) hv (hookStores_other (by decide) (by decide) (by decide) (by decide))]
  unfold State.blockHook
  rw [show pageOf pgSys = some (.sys, 0) from rfl]
  rfl

theorem State.benchCtl_eq (tg : Fin 4) (h : s.writes m pgSys SYS.BENCH_CTL.START.off (tg + 4) = true) :
    s.writeReg m pgSys SYS.BENCH_CTL.START.off (tg + 4) =
      ((s.storeBlock (addrOf pgSys 0x0DC) (tg + 4) benchCtlReg).benchCtl (tg + 4)).emit (.access m 0 0) := by
  have hfits : ∀ tg : Fin 4, tg.val + 4 < 2 ^ 32 ∧ (tg.val + 4) &&& (benchCtlReg.ro ||| benchCtlReg.rc) = 0 := by decide
  rw [State.writeBlock_ok (r := benchCtlReg) (i := 0) h (by decide) (by decide)
    (regOf_addrOf (show pageOf pgSys = some (.sys, 0) from rfl) (by decide)) (hfits tg).1 (.inl rfl) (by decide) (hfits tg).2,
    hookStores_other (by decide) (by decide) (by decide) (by decide)]
  unfold State.blockHook
  rw [show pageOf pgSys = some (.sys, 0) from rfl]
  rfl

theorem State.rom_of_fget (h : t.fget pgSys SYS.BOOT_STAT.ROM = s.fget pgSys SYS.BOOT_STAT.ROM) : t.rom = s.rom := h

theorem State.benchLoads_of_rom (h : t.rom = s.rom) : t.benchLoads = s.benchLoads := by
  unfold State.benchLoads
  rw [h]

theorem State.benchWords_of_boot (h : t.boot = s.boot) (tg : Nat) : t.benchWords tg = s.benchWords tg := by
  unfold State.benchWords
  rw [h]

/-- A word enters the image of the target while the loader takes one. -/
theorem State.benchWord_loads (h : s.benchLoads = true) (v : Nat) : s.benchWord v = s.benchData v := if_pos h

theorem State.benchWord_stays (h : s.benchLoads = false) (v : Nat) : s.benchWord v = s :=
  if_neg (Bool.eq_false_iff.mp h)

theorem State.benchLoads_of_held (h : s.rom = 4) : s.benchLoads = false := by
  unfold State.benchLoads
  rw [h]
  rfl

theorem State.benchData_stored (htg : tg = 1 ∨ tg = 2) (hs : s.fget pgSys SYS.BENCH_CTL.TARGET = tg)
    (hlen : (s.benchWords tg).length < 64 + bankSize tg / 4) :
    (s.benchData v).benchWords tg = s.benchWords tg ++ [v] ∧
    (s.benchData v).fget pgSys SYS.BENCH_CTL.WORDS = (s.benchWords tg).length + 1 := by
  have hsize := bankSize_le tg
  have hfits : (s.benchWords tg).length + 1 < 2 ^ SYS.BENCH_CTL.WORDS.w := by
    rw [show SYS.BENCH_CTL.WORDS.w = 20 from rfl]
    omega
  rw [State.benchData_room htg hs hlen, State.setBenchWords_eq htg hs]
  refine ⟨?_, ?_⟩
  · exact (State.benchWords_of_boot (State.fset_boot ..) tg).trans (State.benchStored_words htg _)
  · rw [List.length_append, List.length_singleton, State.fset_fget (by decide) hfits]

/-- BENCH_DATA: what a word that is taken, and one that is not, does. -/
theorem State.benchDataWrite_outcome (h : s.writes m pgSys SYS.BENCH_DATA.WORD.off v = true) (hv : v < 2 ^ 32)
    (htg : tg = s.fget pgSys SYS.BENCH_CTL.TARGET) (ht : t = s.writeReg m pgSys SYS.BENCH_DATA.WORD.off v) :
    t.Answers (.access m 0 0) ∧
    (s.rom ≠ 4 → tg = 1 ∨ tg = 2 → (s.benchWords tg).length < 64 + bankSize tg / 4 →
      t.benchWords tg = s.benchWords tg ++ [v] ∧
      t.fget pgSys SYS.BENCH_CTL.WORDS = (s.benchWords tg).length + 1) ∧
    (s.rom = 4 ∨ ¬(tg = 1 ∨ tg = 2) ∨ 64 + bankSize tg / 4 ≤ (s.benchWords tg).length → t.boot = s.boot) ∧
    State.SameBut [.boot, .out, .page .sys] s t := by
  have hstored {n : Nat} : State.SameOutside n s (s.storeBlock (addrOf pgSys SYS.BENCH_DATA.WORD.off) v benchDataReg) :=
    State.storeBlock_writeOnly_same (by decide) (by decide)
  rw [ht, State.benchData_eq h hv]
  have hframe : State.SameBut [.boot, .out, .page .sys] s
      (((s.storeBlock (addrOf pgSys SYS.BENCH_DATA.WORD.off) v benchDataReg).benchWord v).emit (.access m 0 0)) :=
    State.emit_same (State.benchWord_same hstored rfl) rfl
  generalize s.storeBlock (addrOf pgSys SYS.BENCH_DATA.WORD.off) v benchDataReg = w at *
  have hboot : w.boot = s.boot := hstored (n := 0) .boot rfl
  have hfget (f : Fld) : w.fget pgSys f = s.fget pgSys f := (hstored (n := 0)).fget (ty := .sys) rfl rfl
  have hloads : w.benchLoads = s.benchLoads := State.benchLoads_of_rom (hfget _)
  have hwords : w.benchWords tg = s.benchWords tg := State.benchWords_of_boot hboot tg
  have htarget : w.fget pgSys SYS.BENCH_CTL.TARGET = tg := (hfget _).trans htg.symm
  refine ⟨State.emit_answers _ _, fun hrom hsel hlen => ?_, fun hfull => ?_, hframe⟩
  · have hloading : s.benchLoads = true := (State.benchData_loads hv h).resolve_right hrom
    rw [State.benchWord_loads (hloads.trans hloading), ← hwords]
    exact State.benchData_stored hsel htarget (by rwa [hwords])
  · refine Eq.trans (b := (w.benchWord v).boot) rfl ?_
    rcases hfull with hrom | hfull
    · rw [State.benchWord_stays (hloads.trans (State.benchLoads_of_held hrom)), hboot]
    · rw [← hwords] at hfull
      rw [← hboot]
      unfold State.benchWord
      split
      · rw [State.benchData_full htarget hfull]
      · rfl

/-- The state in which START finds the device: WORDS follows the target that the write names. -/
def State.benchNamed (s : State) (tg : Nat) : State :=
  (s.storeBlock (addrOf pgSys 0x0DC) (tg + 4) benchCtlReg).fset pgSys SYS.BENCH_CTL.WORDS
    ((s.storeBlock (addrOf pgSys 0x0DC) (tg + 4) benchCtlReg).benchWords
      ((s.storeBlock (addrOf pgSys 0x0DC) (tg + 4) benchCtlReg).fget pgSys SYS.BENCH_CTL.TARGET)).length

theorem State.benchCtl_start (tg : Fin 4) :
    (s.storeBlock (addrOf pgSys 0x0DC) (tg + 4) benchCtlReg).benchCtl (tg + 4) = (s.benchNamed tg).benchStart := by
  have hstart : ∀ tg : Fin 4, bit (tg.val + 4) 2 = true := by decide
  unfold State.benchCtl
  exact if_pos (hstart tg)

theorem State.benchNamed_frame (s : State) (tg : Nat) : State.SameBut [.page .sys] s (s.benchNamed tg) :=
  State.fset_same (State.storeBlock_same (State.SameOutside.refl _ s) rfl rfl) rfl rfl

theorem State.benchNamed_target (s : State) (tg : Fin 4) : (s.benchNamed tg).fget pgSys SYS.BENCH_CTL.TARGET = tg := by
  unfold State.benchNamed
  rw [State.fset_fget_apart (by decide), State.benchCtl_target]

theorem State.benchNamed_rom (s : State) (tg : Nat) : (s.benchNamed tg).rom = s.rom := by
  refine State.rom_of_fget ?_
  unfold State.benchNamed
  rw [State.fset_fget_apart (by decide)]
  exact State.fget_of_word (State.storeBlock_word_other (by decide))

theorem State.benchNamed_loaded (s : State) (tg k : Nat) : (s.benchNamed tg).loaded k = s.loaded k :=
  State.loaded_of (by rw [State.benchNamed_frame s tg .boot rfl]) ((State.benchNamed_frame s tg).fget (ty := .fw) rfl rfl)
    ((State.benchNamed_frame s tg).fget (ty := .fw) rfl rfl) k

/-- BENCH_CTL with START. -/
theorem State.benchStart_outcome (tg : Fin 4) (h : s.writes m pgSys SYS.BENCH_CTL.START.off (tg + 4) = true)
    (ht : t = s.writeReg m pgSys SYS.BENCH_CTL.START.off (tg + 4)) :
    t.Answers (.access m 0 0) ∧ t.fget pgSys SYS.BENCH_CTL.TARGET = tg ∧
    (s.rom = 4 → t.rom = 1 ∧ (s.loaded 1 = true → t.boot.mgtRunning = true) ∧
      (s.loaded 2 = true → t.boot.safRunning = true)) ∧
    (∀ img, s.rom ≠ 4 → tg.val = 1 ∨ tg.val = 2 → img = (s.benchWords tg).flatMap (fun w => leBytes w 4) →
      t.benchWords tg = [] ∧
      (∀ r, imageFail s.otp tg img = some r → t.fget pgSys (failFld tg) = r ∧
        t.boot.mgtRunning = s.boot.mgtRunning ∧ t.boot.safRunning = s.boot.safRunning) ∧
      (imageFail s.otp tg img = none → t.bankImage tg 0 = img ∧ t.runSlot tg = none ∧
        (if tg.val = 1 then t.boot.mgtRunning else t.boot.safRunning) = true)) := by
  rw [ht, State.benchCtl_eq tg h, State.benchCtl_start]
  have htarget := s.benchNamed_target tg
  have hboot : (s.benchNamed tg).boot = s.boot := State.benchNamed_frame s tg .boot rfl
  have hotp : (s.benchNamed tg).otp = s.otp := State.benchNamed_frame s tg .otp rfl
  have himage : (s.benchNamed tg).benchImage tg = (s.benchWords tg).flatMap (fun w => leBytes w 4) := by
    unfold State.benchImage
    rw [State.benchWords_of_boot hboot]
  rw [← s.benchNamed_rom tg, ← s.benchNamed_loaded tg, ← s.benchNamed_loaded tg, ← himage, ← hotp, ← hboot]
  generalize s.benchNamed tg = w at *
  refine ⟨State.emit_answers _ _, w.benchStart_target.trans htarget, fun hrom => State.benchStart_releases hrom,
    fun img hrom hsel himg => ?_⟩
  subst himg
  cases hf : imageFail w.otp tg (w.benchImage tg) with
  | some r =>
    obtain ⟨hempty, hfail, hruns⟩ := State.benchStart_refuses hrom hsel htarget hf
    refine ⟨hempty, fun r' hr' => ?_, fun hnone => nomatch hnone⟩
    cases hr'
    exact ⟨hfail, hruns⟩
  | none =>
    obtain ⟨hempty, hstarts⟩ := State.benchStart_starts hrom hsel htarget hf
    exact ⟨hempty, fun r' hr' => absurd hr' nofun, fun _ => hstarts⟩

/-! ### The bench port's commands (R543, R544) -/

theorem exec_benchAccess_on (h : s.boot.powered = true) (w : Bool) (addr data : BitVec 32) :
    exec (.benchAccess w addr data) s = .next (s.bench w addr.toNat data.toNat) :=
  congrArg Host.Outcome.next (State.live_on h _)

theorem State.bench_idle (h : s.benchServes = false) (w : Bool) (addr data : Nat) : s.bench w addr data = s :=
  if_neg (Bool.eq_false_iff.mp h)

theorem State.bench_serves (h : s.benchServes = true) (w : Bool) (addr data : Nat) :
    s.bench w addr data = s.issue 8 w addr (if w then data else 0) := if_pos h

theorem exec_benchDataWrite_on (hp : s.boot.powered = true) (h : s.benchServes = true) (data : BitVec 32) :
    exec (.benchDataWrite data) s = .next (s.writeReg 8 pgSys SYS.BENCH_DATA.WORD.off data.toNat) :=
  congrArg Host.Outcome.next ((State.live_on hp _).trans (State.bench_serves h true _ _))

theorem exec_benchStart_on (hp : s.boot.powered = true) (h : s.benchServes = true) (tg : Fin 4) :
    exec (.benchStart tg) s = .next (s.writeReg 8 pgSys SYS.BENCH_CTL.START.off (tg + 4)) :=
  congrArg Host.Outcome.next ((State.live_on hp _).trans (State.bench_serves h true _ _))

/-! ### Commands of SYS (R536, R547) -/

/-- SYS takes a command and ends it before the reset or the restart. -/
def State.sysCommanded (s : State) (op m : Nat) : State := (s.cmdStart pgSys op 0 m).cmdDone pgSys

theorem State.sysCommanded_frame (s : State) (op m : Nat) : State.SameBut [.out, .page .sys] s (s.sysCommanded op m) :=
  State.cmdDone_same (State.cmdStart_same (State.SameOutside.refl _ s) rfl rfl) rfl rfl

theorem State.sysCommanded_word (s : State) (op m a : Nat) : (s.sysCommanded op m).word a = s.word a := by
  unfold State.sysCommanded
  rw [State.cmdDone_word, State.cmdStart_word]

theorem State.sysCommanded_done (s : State) (op m : Nat) : (s.sysCommanded op m).Done pgSys op m :=
  State.cmdDone_done _ _ (State.cmdStart_run _ _)

theorem exec_deviceReset_eq {m : Master} (h : s.accepts m.id pgSys 0x10 0 = true) : exec (.deviceReset m) s =
    .next (((s.sysCommanded 0x10 m.id).commandedReset m.id).emit (.access m.id 0 0)) := by
  refine congrArg Host.Outcome.next ((State.live_on (State.accepts_powered h) _).trans ?_)
  rw [State.command_eq h (by decide) (by decide) (.inr fun q _ => by unfold pgSys pgReel; omega)]
  rfl

theorem exec_mgtRestart_eq {m : Master} (h : s.accepts m.id pgSys 0x11 0 = true) : exec (.mgtRestart m) s =
    .next (((s.sysCommanded 0x11 m.id).mgtRestart (if m.id = 8 then 2 else 1)).emit (.access m.id 0 0)) := by
  refine congrArg Host.Outcome.next ((State.live_on (State.accepts_powered h) _).trans ?_)
  rw [State.command_eq h (by decide) (by decide) (.inl (by decide))]
  unfold State.cmdRun State.sysCommanded
  rw [if_neg (by decide), if_neg (by decide), if_neg (by decide), show pageOf pgSys = some (.sys, 0) from rfl]
  simp only [if_neg (show ¬(0x11 = 0x10) by decide)]

/-- A device reset by command keeps the straps (R537). -/
theorem State.commandedReset_resetBy (s : State) (m : Nat) :
    State.ResetBy (if m = 8 then 3 else 2) (s.fget pgSys SYS.BOOT_STAT.STRAPS) s
      ((s.sysCommanded 0x10 m).commandedReset m) := by
  have hstraps : (s.sysCommanded 0x10 m).fget pgSys SYS.BOOT_STAT.STRAPS = s.fget pgSys SYS.BOOT_STAT.STRAPS :=
    State.fget_of_word (s.sysCommanded_word ..)
  refine State.ResetBy.of_started (u := s.sysCommanded 0x10 m) ?_ (s.sysCommanded_frame 0x10 m) (s.sysCommanded_word 0x10 m)
  rw [← hstraps]
  exact State.deviceReset_resetBy (by split <;> decide) (State.fget_lt ..)

/-- MGT_RESTART: what `State.mgtRestart_outcome` says, of the state that answers. -/
theorem State.sysCommanded_restarts {out : Out}
    (ht : t = ((s.sysCommanded op m).mgtRestart (if m = 8 then 2 else 1)).emit out) : t.Done pgSys op m ∧
    (∀ p ∈ allPages, (t.hdr p).owner ≠ some 9) ∧
    t.fget pgSys SYS.RESET_STAT.MGT_CAUSE = (if m = 8 then 2 else 1) ∧
    t.fget pgSys SYS.RESET_STAT.MGT_RESTARTS = min (s.fget pgSys SYS.RESET_STAT.MGT_RESTARTS + 1) 255 ∧
    t.fget pgSys SYS.BOOT_STAT.MGT_OK = 0 ∧ t.boot.loader = some (2, s.mono) ∧ t.boot.mgtOnly = true := by
  have hcount : (s.sysCommanded op m).fget pgSys SYS.RESET_STAT.MGT_RESTARTS = s.fget pgSys SYS.RESET_STAT.MGT_RESTARTS :=
    State.fget_of_word (s.sysCommanded_word ..)
  have hmono : (s.sysCommanded op m).mono = s.mono := s.sysCommanded_frame op m .mono rfl
  have hcause : (if m = 8 then 2 else 1) < 4 := by split <;> decide
  have hrestart := State.mgtRestart_outcome (s.sysCommanded_done op m) hcause
  rw [hcount, hmono] at hrestart
  subst ht
  generalize (s.sysCommanded op m).mgtRestart (if m = 8 then 2 else 1) = z at *
  exact hrestart

/-! ### Power-on and loss of supply (R533, R554) -/

theorem State.powerOnReset_pwr (s : State) (pins : Nat) : State.SamePage pgPwr State.reset (s.powerOnReset pins) :=
  (State.samePage_of_pages (s := State.reset) (t := s.cleared) pgPwr rfl).trans
    ((s.powerOnReset_shows pins).other pgPwr (by decide))

theorem State.powerOnReset_counts (s : State) (pins : Nat) : (s.powerOnReset pins).fget pgSys SYS.RESET_STAT.CAUSE = 0 ∧
    (s.powerOnReset pins).fget pgSys SYS.RESET_STAT.DEVICE_RESETS = 0 := by
  rw [State.powerOnReset_reset (by decide) (by decide) (by decide),
    State.powerOnReset_reset (by decide) (by decide) (by decide)]
  decide

theorem State.nreset_out (s : State) (pins : Nat) : (s.nreset pins).out = s.out := by
  unfold State.nreset
  rw [(s.deviceReset_shows 1 pins).rest]
  rfl

theorem State.powerDown_group (s : State) (g : Nat) :
    (s.powerDown.group g).swA = false ∧ (s.powerDown.group g).swB = false := (s.cleared_group g).2

/-- Settles O60: each reset, step and access by the lemma that says what it leaves. -/
theorem resetsAndStarts : Obligations.ResetsAndStarts := by
  unfold Obligations.ResetsAndStarts
  intro s
  refine ⟨fun straps => ?_, fun straps hp => ?_, fun m h => ?_, ?_, fun m h => ?_, fun addr hp hrun => ?_,
    fun addr u hp hrun hu => ?_, fun hp => ?_, fun tg htg => ?_, fun addr data hp => ?_, fun data tg hb h htg => ?_,
    fun tg hb h => ?_⟩
  · obtain ⟨hcause, hcount⟩ := s.powerOnReset_counts straps.toNat
    obtain ⟨hstraps, hbad⟩ := State.powerOnReset_straps (s := s) straps.isLt
    exact ⟨_, rfl, s.powerOnReset_cleared _, s.powerOnReset_out _, s.powerOnReset_pwr _, hcause, hcount, hstraps, hbad⟩
  · exact ⟨_, congrArg Host.Outcome.next (State.live_on hp _), State.deviceReset_resetBy (by decide) straps.isLt,
      s.nreset_out _⟩
  · exact ⟨_, exec_deviceReset_eq h, (s.commandedReset_resetBy m.id).emit _, State.emit_answers _ _⟩
  · exact ⟨s.powerDown, rfl, rfl, rfl, rfl, rfl, rfl, rfl, rfl, rfl, s.powerDown_group⟩
  · exact ⟨_, exec_mgtRestart_eq h, State.emit_answers _ _, State.sysCommanded_restarts rfl⟩
  · rw [exec_mgtHalt_on hp, State.mgtHalt_idle hrun]
  · subst hu
    refine ⟨fun ht => ?_, fun ht => ⟨_, State.setRunning_mgt_boot _ false, State.setRunning_ok _ false,
      State.setRunning_same (State.SameOutside.refl _ _) rfl, ?_⟩⟩
    · rw [exec_mgtHalt_on hp, State.mgtHalt_trial hrun ht]
      rfl
    · rw [exec_mgtHalt_on hp, State.mgtHalt_halts hrun ht]
      rfl
  · rw [exec_loaderStepDone_on hp]
    refine ⟨fun h => ?_, fun at_ h => ?_, fun at_ h => ?_, fun at_ u n h honly hu => ?_, fun at_ u n h honly hu => ?_,
      fun at_ u n h hu => ?_, fun at_ h => ?_⟩
    · rw [State.loaderStep_none h]
    · rw [State.loaderStep_straps h]
      exact ⟨_, rfl, s.loaderStep2_outcome⟩
    · rw [State.loaderStep_stores h]
      exact ⟨_, rfl, s.loaderStep3_outcome at_⟩
    · rw [State.loaderStep_mgt h]
      exact ⟨_, rfl, State.stepLoaded (State.loadOne_mono hu) (State.loaderStep4_loads hu honly)⟩
    · rw [State.loaderStep_mgt h]
      exact ⟨_, rfl, State.loaderStep4_restarts hu honly⟩
    · rw [State.loaderStep_saf h]
      exact ⟨_, rfl, State.stepLoaded (State.loadOne_mono hu) (State.loaderStep5_eq hu)⟩
    · rw [State.loaderStep_start h]
      exact ⟨_, rfl, s.loaderStep6_outcome at_⟩
  · exact ⟨State.loadOne_none, fun c d slot hd hslot u n hu => State.loadOne_outcome htg hd hslot hu⟩
  · simp only [exec_benchAccess_on hp]
    refine ⟨fun hb w => by rw [State.bench_idle hb], fun hb => ?_⟩
    rw [State.bench_serves hb, State.bench_serves hb]
    exact ⟨⟨_, rfl, congrArg Host.Outcome.next (State.live_on hp _)⟩,
      ⟨_, rfl, congrArg Host.Outcome.next (State.live_on hp _)⟩⟩
  · exact ⟨_, exec_benchDataWrite_on (State.writes_powered h) hb data, State.benchDataWrite_outcome h data.isLt htg rfl⟩
  · exact ⟨_, exec_benchStart_on (State.writes_powered h) hb tg, State.benchStart_outcome tg h rfl⟩

end Sys2Proof.Machine
end

section
/-! PROOFS. Every step: the front command or the idle step, the invariant, programmed storage, and which commands bring a
group nearer to light (R394, R396, R410, R413, R511, R522, R529, R530, R533, R554). -/

namespace Sys2Proof.Machine

variable {s t : State}

/-! ### The step -/

theorem step_idle (h : s.pending = []) : step s = .next s.idle := by
  unfold step
  rw [h]

theorem step_front {c : Instr} {rest : List Instr} (h : s.pending = c :: rest) :
    step s = exec c { s with pending := rest } := by
  unfold step
  rw [h]

theorem State.live_off (h : s.boot.powered = false) (f : State → State) : s.live f = s := if_neg (by simp [h])

theorem State.flushUpward_mono (s : State) : s.flushUpward.mono = s.mono :=
  (State.flushUpward_same (m := fullMask ^^^ 2) (State.SameOutside.refl _ s) (by decide)) .mono (by decide)

theorem State.idle_mono (h : s.boot.powered = true) : s.idle.mono = s.mono + 1 := by
  unfold State.idle
  rw [State.live_on h, State.flushUpward_mono, State.advanceTo_mono]
  omega

/-- Every command but the return of the supplies and their further loss acts on a device that has its supplies. -/
theorem exec_off (c : Instr) (h : s.boot.powered = false) (hon : ∀ straps, c ≠ .powerOnReset straps) (hoff : c ≠ .powerDown) :
    exec c s = .next s := by
  cases c
  case powerOnReset straps => exact absurd rfl (hon straps)
  case powerDown => exact absurd rfl hoff
  all_goals exact congrArg Host.Outcome.next (State.live_off h _)

/-- What stands in the queue behind the front command has no part in the invariant. -/
theorem State.Inv.of_pending (h : s.Inv) (q : List Instr) : State.Inv { s with pending := q } := h

theorem exec_answers (c : Instr) (s : State) : ∃ t, exec c s = .next t := by
  cases c <;> exact ⟨_, rfl⟩

/-! ### What a command finds and keeps -/

/-- The origin of a command, where each group may be found in CLOSING if it was there or a condition lets it enter, and
likewise in PERMIT. -/
def State.originWith (s : State) (close permit : Nat → Prop) : Origin :=
  { s.origin with
    mayClose := fun g => (s.group g).state = .closing ∨ close g
    mayPermit := fun g => (s.group g).state = .permit ∨ permit g }

theorem State.Inv.kept (h : s.Inv) (close permit : Nat → Prop) : State.Kept (s.originWith close permit) s := by
  obtain ⟨hcan, hsw, hotp, hpend, -⟩ := h.kept_origin
  exact ⟨hcan, hsw, hotp, hpend, fun _ => ⟨.inl, .inl⟩⟩

/-- From a sound state a command keeps everything but how near to light a group is. -/
theorem State.Inv.exec (h : s.Inv) (c : Instr) :
    ∃ t, Machine.exec c s = .next t ∧ State.Kept (s.originWith (fun _ => True) (fun _ => True)) t :=
  exec_kept c (h.kept _ _) (fun _ _ _ => .inr trivial) (fun _ _ _ => .inr trivial)

theorem State.Inv.idle (h : s.Inv) : State.Kept s.origin s.idle := State.idle_kept h.kept_origin

/-- What every step keeps: the invariant, and one-time-programmable storage as it is or further programmed. -/
theorem State.Inv.step (h : s.Inv) (hs : Machine.step s = .next t) : t.Inv ∧ s.otp.Before t.otp := by
  cases hq : s.pending with
  | nil =>
    rw [step_idle hq] at hs
    cases hs
    obtain ⟨hcan, hsw, hotp, -⟩ := h.idle
    exact ⟨⟨hcan, hsw⟩, hotp⟩
  | cons c rest =>
    rw [step_front hq] at hs
    obtain ⟨u, hu, hcan, hsw, hotp, -⟩ := (h.of_pending rest).exec c
    cases hu.symm.trans hs
    exact ⟨⟨hcan, hsw⟩, hotp⟩

/-- Settles O4: the invariant of every step. -/
theorem everyStepKeepsTheInvariant : Obligations.EveryStepKeepsTheInvariant := by
  unfold Obligations.EveryStepKeepsTheInvariant
  exact fun s t h hs => (h.step hs).1

/-- Settles O5: the storage that every step leaves or programs further. -/
theorem programmedStorageStays : Obligations.ProgrammedStorageStays := by
  unfold Obligations.ProgrammedStorageStays
  exact fun s t h hs => (h.step hs).2

/-! ### SAFE_RESET and the groups (R413, R414) -/

@[simp] theorem State.setGroup_group_self (s : State) (g : Nat) (x : GroupSt) : (s.setGroup g x).group g = x :=
  SMap.read_write_self ..

theorem State.setGroup_group_other {x : GroupSt} {g k : Nat} (h : k ≠ g) : (s.setGroup g x).group k = s.group k :=
  SMap.read_write_other _ _ _ h _

theorem State.group_of_safe (h : t.safe.groups = s.safe.groups) (g : Nat) : t.group g = s.group g := by
  unfold State.group
  rw [h]

theorem State.setGroup_group (s : State) (a : Nat) (x : GroupSt) (g : Nat) :
    (s.setGroup a x).group g = if a = g then x else s.group g := by
  split
  · next h => rw [h, State.setGroup_group_self]
  · next h => exact State.setGroup_group_other fun e => h e.symm

/-- What a loop over distinct numbers leaves of a view that one of them alone changes, under what every step keeps. -/
theorem foldl_view {α β : Type} [DecidableEq α] {step : State → α → State} {P : State → Prop} (g : α)
    (view : State → β) (change : β → β) {l : List α} (hP : ∀ u, P u → ∀ a ∈ l, P (step u a))
    (hstep : ∀ u, P u → ∀ a ∈ l, view (step u a) = if a = g then change (view u) else view u) (hl : l.Nodup) (h : P s) :
    view (l.foldl step s) = if g ∈ l then change (view s) else view s := by
  induction l generalizing s with
  | nil => rfl
  | cons a l ih =>
    obtain ⟨ha, hl⟩ := List.nodup_cons.mp hl
    have hm : a ∈ a :: l := List.mem_cons_self ..
    rw [List.foldl_cons, ih (fun u hu b hb => hP u hu b (List.mem_cons_of_mem _ hb))
      (fun u hu b hb => hstep u hu b (List.mem_cons_of_mem _ hb)) hl (hP s h a hm), hstep s h a hm]
    by_cases e : a = g
    · subst e
      simp [ha]
    · simp [e, Ne.symm e]

@[simp] theorem State.evt_group (s : State) (p n g : Nat) : (s.evt p n).group g = s.group g :=
  State.group_of_safe (by rw [State.evt_safe]) g

@[simp] theorem State.fset_group (s : State) (p : Nat) (f : Fld) (v g : Nat) : (s.fset p f v).group g = s.group g := rfl
@[simp] theorem State.fsetB_group (s : State) (p : Nat) (f : Fld) (b : Bool) (g : Nat) : (s.fsetB p f b).group g = s.group g := rfl
@[simp] theorem State.finc_group (s : State) (p : Nat) (f : Fld) (g : Nat) : (s.finc p f).group g = s.group g := rfl

theorem State.sendStatus_groups (s : State) : s.sendStatus.safe.groups = s.safe.groups := by
  unfold State.sendStatus
  split <;> rfl

@[simp] theorem State.statusIfMoved_group (s old : State) (g : Nat) : (s.statusIfMoved old).group g = s.group g := by
  unfold State.statusIfMoved
  split
  · exact State.group_of_safe s.sendStatus_groups g
  · rfl

theorem bit_groupsIn (s : State) (st : GState) (g : Nat) :
    bit (s.groupsIn st) g = decide (g < 4 ∧ (s.group g).state = st) := by
  unfold State.groupsIn
  rw [bit_maskOf]
  simp [List.mem_filter]

/-- SAFE_RESET at the level it has: only the pin is shown. -/
theorem State.resetEdge_again {high : Bool} (h : high = s.safe.rstHigh) :
    s.resetEdge high = s.fsetB pgSaf SAF.IN_STAT.RESET_PIN high := if_pos h

/-- A rise of SAFE_RESET notes when it came, which groups are in READY, and whether it followed 50 ms of low (R414). -/
theorem State.resetEdge_rise (h : s.safe.rstHigh = false) :
    s.resetEdge true = { s.fsetB pgSaf SAF.IN_STAT.RESET_PIN true with safe := { s.safe with
      rstHigh := true, rstRise := s.mono, rstReady := s.groupsIn .ready, rstQual := s.resetLowLong
      rstRejected := false, rstLowHeld := false } } := by
  unfold State.resetEdge
  rw [if_neg (by simp [h]), if_pos rfl]
  rfl

/-- The state after a fall of SAFE_RESET, before any group restarts: a high of more than 3 s is rejected and counted (R414). -/
def State.resetFallen (s : State) : State :=
  let u : State := { s.fsetB pgSaf SAF.IN_STAT.RESET_PIN false with
    safe := { s.safe with rstHigh := false, rstFall := s.mono, rstQual := false } }
  if 3000000000 < s.mono - s.safe.rstRise && !s.safe.rstRejected then (u.finc pgSaf SAF.RESET_CNT.REJECTED).evt pgSaf 14
  else u

/-- The record of a group whose restart begins. -/
def GroupSt.closes (now : Nat) (x : GroupSt) : GroupSt := { x with state := .closing, since := now, swA := true, swB := true }

/-- The groups of a mask begin their restart, and the restart is counted (R414). -/
def State.restart (s : State) (groups : Nat) : State :=
  ((bitsSet groups 4).foldl (fun s g => s.setGroup g ((s.group g).closes s.mono)) (s.finc pgSaf SAF.RESET_CNT.QUALIFIED)).statusIfMoved
    (s.finc pgSaf SAF.RESET_CNT.QUALIFIED)

/-- A fall of SAFE_RESET ends a pulse that R414 qualifies. -/
def State.resetQualified (s : State) : Bool :=
  s.safe.rstQual && !s.safe.rstRejected && 50000000 ≤ s.mono - s.safe.rstRise && s.mono - s.safe.rstRise ≤ 3000000000

theorem State.resetEdge_fall (h : s.safe.rstHigh = true) :
    s.resetEdge false = if s.resetQualified = true then s.resetFallen.restart (s.safe.rstReady &&& s.groupsIn .ready)
      else s.resetFallen := by
  unfold State.resetEdge
  rw [if_neg (by simp [h]), if_neg (by simp)]
  rfl

theorem State.resetFallen_group (s : State) (g : Nat) : s.resetFallen.group g = s.group g := by
  unfold State.resetFallen
  split
  · rw [State.evt_group]
    rfl
  · rfl

theorem State.resetFallen_mono (s : State) : s.resetFallen.mono = s.mono := by
  unfold State.resetFallen
  split
  · rw [State.evt_mono]
    rfl
  · rfl

theorem State.restart_group (s : State) (groups g : Nat) :
    (s.restart groups).group g = if g < 4 ∧ bit groups g = true then (s.group g).closes s.mono else s.group g := by
  unfold State.restart
  rw [State.statusIfMoved_group]
  refine (foldl_view (P := fun u => u.mono = s.mono) g (fun u => u.group g) (·.closes s.mono) ?_ (fun u hu a _ => ?_)
    (bitsSet_nodup _ _) ?_).trans ?_
  · exact fun _ hu _ _ => hu
  · rw [State.setGroup_group, hu]
    by_cases e : a = g <;> simp [e]
  · rfl
  · simp only [mem_bitsSet_iff, State.finc_group]

/-- A qualified fall takes to CLOSING the groups that were in READY at the rise, and are so still, and no other group. -/
theorem State.resetEdge_fall_group (h : s.safe.rstHigh = true) (g : Nat) :
    (s.resetEdge false).group g =
      if s.resetQualified = true ∧ g < 4 ∧ bit s.safe.rstReady g = true ∧ (s.group g).state = .ready then
        (s.group g).closes s.mono else s.group g := by
  rw [State.resetEdge_fall h]
  by_cases hq : s.resetQualified = true
  · rw [if_pos hq, State.restart_group, State.resetFallen_group, State.resetFallen_mono, bit_and, bit_groupsIn]
    refine if_congr ?_ rfl rfl
    simp only [Bool.and_eq_true, decide_eq_true_eq, hq, true_and]
    constructor
    · rintro ⟨hg, hr, -, hs⟩
      exact ⟨hg, hr, hs⟩
    · rintro ⟨hg, hr, hs⟩
      exact ⟨hg, hr, hg, hs⟩
  · rw [if_neg hq, if_neg fun hc => hq hc.1, State.resetFallen_group]

/-- A group is in CLOSING after an edge of SAFE_RESET only if it was, or the edge ends a pulse that takes it there (R413). -/
theorem State.resetEdge_closing {high : Bool} {g : Nat} (h : ((s.resetEdge high).group g).state = .closing) :
    (s.group g).state = .closing ∨ (s.group g).state = .ready ∧ high = false ∧ s.safe.rstHigh = true ∧
      s.resetQualified = true ∧ bit s.safe.rstReady g = true := by
  by_cases hh : high = s.safe.rstHigh
  · rw [State.resetEdge_again hh] at h
    exact .inl h
  cases high with
  | true =>
    rw [State.resetEdge_rise (by simpa using hh)] at h
    exact .inl h
  | false =>
    have hr : s.safe.rstHigh = true := by simpa using hh
    rw [State.resetEdge_fall_group hr] at h
    split at h
    · next hc =>
      obtain ⟨hq, -, hb, hs⟩ := hc
      exact .inr ⟨hs, rfl, hr, hq, hb⟩
    · exact .inl h

/-! ### Light (R413) -/

/-- A command other than SAFE_RESET_EDGE and FB_CHANGE brings no group nearer to light. -/
theorem exec_no_nearer {c : Instr} (h : s.Inv) (hf : ∀ k b, c ≠ .fbChange k b) (hr : ∀ b, c ≠ .safeResetEdge b)
    (ht : exec c s = .next t) (g : Nat) :
    ((t.group g).state = .closing → (s.group g).state = .closing) ∧
      ((t.group g).state = .permit → (s.group g).state = .permit) := by
  obtain ⟨u, hu, -, -, -, -, hg⟩ := exec_kept c h.kept_origin (fun ⟨k, b, e⟩ => absurd e (hf k b))
    (fun ⟨b, e⟩ => absurd e (hr b))
  cases hu.symm.trans ht
  exact hg g

/-- After FB_CHANGE a group is in CLOSING only if it was, and in PERMIT only if it was in one of the two. -/
theorem exec_fbChange_nearer {k : Fin 4} {b : Bool} (h : s.Inv) (ht : exec (.fbChange k b) s = .next t) (g : Nat) :
    ((t.group g).state = .closing → (s.group g).state = .closing) ∧
      ((t.group g).state = .permit → (s.group g).state = .permit ∨ (s.group g).state = .closing) := by
  obtain ⟨u, hu, -, -, -, -, hg⟩ := exec_kept (.fbChange k b) (h.kept (fun _ => False) fun g => (s.group g).state = .closing)
    (fun _ _ hc => .inr (hc.resolve_right id)) (fun ⟨_, e⟩ => by cases e)
  cases hu.symm.trans ht
  exact ⟨fun hc => ((hg g).1 hc).resolve_right id, (hg g).2⟩

/-- After SAFE_RESET_EDGE a group is in PERMIT only if it was. -/
theorem exec_safeResetEdge_permit {b : Bool} (h : s.Inv) (ht : exec (.safeResetEdge b) s = .next t) (g : Nat)
    (hp : (t.group g).state = .permit) : (s.group g).state = .permit := by
  obtain ⟨u, hu, -, -, -, -, hg⟩ := exec_kept (.safeResetEdge b) (h.kept (fun _ => True) fun _ => False)
    (fun ⟨_, _, e⟩ => by cases e) (fun _ _ _ => .inr trivial)
  cases hu.symm.trans ht
  exact ((hg g).2 hp).resolve_right id

/-- Settles O6: only a qualified fall of SAFE_RESET leads into CLOSING, and only feedback from there into PERMIT. -/
theorem lightComesOnlyByResetAndFeedback : Obligations.LightComesOnlyByResetAndFeedback := by
  unfold Obligations.LightComesOnlyByResetAndFeedback
  intro c s t h ht g
  by_cases hf : ∃ k b, c = .fbChange k b
  · obtain ⟨k, b, rfl⟩ := hf
    obtain ⟨hc, hp⟩ := exec_fbChange_nearer h ht g
    exact ⟨fun e => .inl (hc e), fun e => (hp e).imp_right fun hs => ⟨hs, k, b, rfl⟩⟩
  by_cases hr : ∃ b, c = .safeResetEdge b
  · obtain ⟨b, rfl⟩ := hr
    refine ⟨fun e => ?_, fun e => .inl (exec_safeResetEdge_permit h ht g e)⟩
    cases hp : s.boot.powered with
    | false =>
      rw [exec_off _ hp (fun _ => by simp) (by simp)] at ht
      cases ht
      exact .inl e
    | true =>
      cases (congrArg Host.Outcome.next (State.live_on hp fun s => s.resetEdge b)).symm.trans ht
      refine (State.resetEdge_closing e).imp_right fun ⟨hs, hb, hh, hq, hg⟩ => ?_
      simp only [State.resetQualified, Bool.and_eq_true, Bool.not_eq_true', decide_eq_true_eq] at hq
      obtain ⟨⟨⟨hqual, hrej⟩, hlo⟩, hhi⟩ := hq
      exact ⟨hs, by rw [hb], hh, hqual, hrej, hg, hlo, hhi⟩
  · obtain ⟨hc, hp⟩ := exec_no_nearer h (fun k b e => hf ⟨k, b, e⟩) (fun b e => hr ⟨b, e⟩) ht g
    exact ⟨fun e => .inl (hc e), fun e => .inl (hp e)⟩

/-! ### The state after reset, and every command -/

/-- Settles O3: the state after reset, part by part. -/
theorem resetIsSafe : Obligations.ResetIsSafe := by
  unfold Obligations.ResetIsSafe
  have hg : ∀ g, State.reset.group g = {} := fun _ => rfl
  refine ⟨⟨⟨rfl, rfl, rfl⟩, fun g => ?_⟩, rfl, rfl, fun g => ⟨rfl, rfl, rfl⟩, fun p => ⟨rfl, rfl⟩⟩
  rw [hg]
  rintro (h | h) <;> cases h

/-- Settles O2: what a command keeps, and that it does nothing without supplies. -/
theorem everyCommandAnswers : Obligations.EveryCommandAnswers := by
  unfold Obligations.EveryCommandAnswers
  intro c s
  refine ⟨?_, exec_off c⟩
  obtain ⟨t, ht⟩ := exec_answers c s
  refine ⟨t, ht, fun h => ?_⟩
  obtain ⟨u, hu, -, -, -, hq, -⟩ := h.exec c
  cases hu.symm.trans ht
  exact hq

/-- Settles O1: a step unfolds to the front command or to the idle step. -/
theorem aStepRunsTheFrontCommand : Obligations.AStepRunsTheFrontCommand := by
  unfold Obligations.AStepRunsTheFrontCommand
  refine ⟨fun c s => step_front rfl, fun c rest s h => step_front h, fun s h => ⟨_, step_idle h, fun hi => ?_,
    fun hp => State.live_off hp _, State.idle_mono⟩⟩
  obtain ⟨-, -, -, hq, -⟩ := hi.idle
  exact hq.trans h

end Sys2Proof.Machine
end

section
/-! PROOFS. What a cause does to each group, and how feedback and the conditions of READY judge the groups (R394, R395, R397,
R398). -/

namespace Sys2Proof.Machine

variable {s t : State} {g a k cause groups : Nat} {lock : Bool} {f : Fld}

/-! ### The records of a group -/

/-- A group that opens: both switches off (R399). -/
def GroupSt.opened (lockCause now : Nat) (x : GroupSt) : GroupSt :=
  { x with state := .opening, since := now, lockCause := lockCause, swA := false, swB := false }

/-- A group that enters LOCKOUT: both switches off, and no cause left to end in (R398). -/
def GroupSt.locked (now : Nat) (x : GroupSt) : GroupSt :=
  { x with state := .lockout, since := now, lockCause := 0, swA := false, swB := false }

/-- A group's record, and the cause that LOCK_CAUSE shows of it. -/
def State.groupView (s : State) (g : Nat) : GroupSt × Nat := (s.group g, s.fget pgSaf (SAF.LOCK_CAUSE.CAUSE g))

theorem State.groupView_fst (s : State) (g : Nat) : (s.groupView g).1 = s.group g := rfl

theorem State.groupView_snd (s : State) (g : Nat) : (s.groupView g).2 = s.fget pgSaf (SAF.LOCK_CAUSE.CAUSE g) := rfl

/-- What a cause makes of a group and of its LOCK_CAUSE (R398). -/
def tripView (lock : Bool) (cause now : Nat) (en : Bool) (v : GroupSt × Nat) : GroupSt × Nat :=
  match v.1.state with
  | .ready | .closing | .permit => (v.1.opened (if lock then cause else 0) now, v.2)
  | .opening => if lock && v.1.lockCause = 0 then ({ v.1 with lockCause := cause }, v.2) else v
  | .safe => if lock && en then (v.1.locked now, cause % 32) else v
  | .start | .lockout => v

/-- What feedback that shows open makes of a group that opens, and of its LOCK_CAUSE (R394). -/
def openView (now : Nat) (v : GroupSt × Nat) : GroupSt × Nat :=
  if v.1.state = .opening && v.1.fbOpen then
    if v.1.lockCause = 0 then ({ v.1 with state := .safe, since := now }, v.2) else (v.1.locked now, v.1.lockCause % 32)
  else v

/-- A group's record as the conditions of READY judge it: it may go between SAFE and READY, and is else as it was (R395). -/
def GroupSt.Judged (x y : GroupSt) : Prop :=
  y = x ∨ (x.state = .safe ∨ x.state = .ready) ∧ (y.state = .safe ∨ y.state = .ready) ∧
    y = { x with state := y.state, since := y.since }

theorem GroupSt.Judged.refl (x : GroupSt) : GroupSt.Judged x x := .inl rfl

theorem GroupSt.Judged.trans {x y z : GroupSt} (h : x.Judged y) (h' : y.Judged z) : x.Judged z := by
  rcases h with rfl | ⟨hx, hy, ey⟩
  · exact h'
  · rcases h' with rfl | ⟨-, hz, ez⟩
    · exact .inr ⟨hx, hy, ey⟩
    · refine .inr ⟨hx, hz, ?_⟩
      rw [ez, ey]

/-- A group that is neither in SAFE nor in READY is left as it is. -/
theorem GroupSt.Judged.eq {x y : GroupSt} (h : x.Judged y) (hs : x.state ≠ .safe) (hr : x.state ≠ .ready) : y = x :=
  h.resolve_right fun ⟨hx, _⟩ => hx.elim hs hr

theorem GroupSt.Judged.state {x y : GroupSt} (h : x.Judged y) (hx : x.state = .safe ∨ x.state = .ready) :
    y.state = .safe ∨ y.state = .ready := by
  rcases h with rfl | ⟨-, hy, -⟩
  · exact hx
  · exact hy

/-! ### Fields that a group's change of state touches -/

/-- The fields of SAF that change with the states of the groups: the causes of lockout and their count, and the sequence number
of the STATUS frame. -/
def groupFields : List Fld :=
  [SAF.LOCK_CAUSE.CAUSE 0, SAF.LOCK_CAUSE.CAUSE 1, SAF.LOCK_CAUSE.CAUSE 2, SAF.LOCK_CAUSE.CAUSE 3, SAF.TRIP_CNT.LOCKOUTS,
    SAF.TX_STAT.SEQ]

theorem lockCause_mem_groupFields (hg : g < 4) : SAF.LOCK_CAUSE.CAUSE g ∈ groupFields := by
  interval_cases g <;> simp [groupFields]

theorem lockCause_apart (hg : g < 4) (_ : k < 4) (h : g ≠ k) : (SAF.LOCK_CAUSE.CAUSE g).Apart (SAF.LOCK_CAUSE.CAUSE k) := by
  constructor
  · show 8 * g + 5 ≤ 32
    omega
  · right
    show 8 * k + 5 ≤ 8 * g ∨ 8 * g + 5 ≤ 8 * k
    omega

theorem lockCause_fits (hg : g < 4) : (SAF.LOCK_CAUSE.CAUSE g).lo + (SAF.LOCK_CAUSE.CAUSE g).w ≤ 32 := by
  show 8 * g + 5 ≤ 32
  omega

@[simp] theorem State.setGroup_fget (s : State) (a : Nat) (x : GroupSt) (p : Nat) : (s.setGroup a x).fget p f = s.fget p f := rfl

theorem State.sendStatus_fget (h : SAF.TX_STAT.SEQ.Apart f) (p : Nat) : s.sendStatus.fget p f = s.fget p f := by
  unfold State.sendStatus
  split
  · exact (State.fget_of_pages (s := s.fset pgSaf SAF.TX_STAT.SEQ _) rfl p f).trans (State.fset_fget_apart h)
  · rfl

theorem State.statusIfMoved_fget (h : SAF.TX_STAT.SEQ.Apart f) (p : Nat) (old : State) :
    (s.statusIfMoved old).fget p f = s.fget p f := by
  unfold State.statusIfMoved
  split
  · exact State.sendStatus_fget h p
  · rfl

@[simp] theorem State.sendStatus_hdr (s : State) (p : Nat) : s.sendStatus.hdr p = s.hdr p := by
  unfold State.sendStatus
  split <;> rfl

@[simp] theorem State.statusIfMoved_hdr (s old : State) (p : Nat) : (s.statusIfMoved old).hdr p = s.hdr p := by
  unfold State.statusIfMoved
  split <;> simp

/-! ### One group -/

theorem State.enterLockout_group (s : State) (a c g : Nat) :
    (s.enterLockout a c).group g = if a = g then (s.group a).locked s.mono else s.group g := by
  unfold State.enterLockout
  rw [State.evt_group, State.finc_group, State.fset_group, State.setGroup_group]
  rfl

theorem State.enterLockout_fget_apart (ha : (SAF.LOCK_CAUSE.CAUSE a).Apart f) (hf : SAF.TRIP_CNT.LOCKOUTS.Apart f) (c p : Nat) :
    (s.enterLockout a c).fget p f = s.fget p f := by
  unfold State.enterLockout
  rw [State.evt_fget, State.finc_fget_apart hf, State.fset_fget_apart ha, State.setGroup_fget]

theorem State.enterLockout_fget (ha : a < 4) (hf : ∀ k ∈ groupFields, k.Apart f) (c p : Nat) :
    (s.enterLockout a c).fget p f = s.fget p f :=
  State.enterLockout_fget_apart (hf _ (lockCause_mem_groupFields ha)) (hf _ (by simp [groupFields])) c p

theorem State.enterLockout_cause (ha : a < 4) (c : Nat) :
    (s.enterLockout a c).fget pgSaf (SAF.LOCK_CAUSE.CAUSE a) = c % 32 := by
  unfold State.enterLockout
  rw [State.evt_fget, State.finc_fget_apart ⟨by decide, .inl (show 0x05C % 0x1000 ≠ 0x0B0 % 0x1000 by decide)⟩]
  exact State.fget_fset_self _ _ _ _ (lockCause_fits ha)

theorem State.enterLockout_view (ha : a < 4) (hg : g < 4) (c : Nat) :
    (s.enterLockout a c).groupView g = if a = g then ((s.group g).locked s.mono, c % 32) else s.groupView g := by
  unfold State.groupView
  rw [State.enterLockout_group]
  split
  · next e => rw [← e, State.enterLockout_cause ha]
  · next e =>
    rw [State.enterLockout_fget_apart (lockCause_apart ha hg e) ⟨by decide, .inl (show 0x05C % 0x1000 ≠ 0x0B0 % 0x1000 by decide)⟩]

theorem State.openGroup_group (s : State) (a c g : Nat) :
    (s.openGroup a c).group g = if a = g then (s.group a).opened c s.mono else s.group g := by
  have hdark (l : List Nat) (u : State) : (l.foldl State.darkTile u).safe = u.safe :=
    List.foldlRecOn l _ (motive := fun t : State => t.safe = u.safe) rfl fun t ht b _ =>
      Eq.trans (State.darkTile_same (m := 36893491448101472388) (State.SameOutside.refl _ t) rfl .safe (by decide)) ht
  unfold State.openGroup
  refine (State.group_of_safe (congrArg SafeSt.groups (hdark _ _)) g).trans ?_
  exact (State.group_of_safe (s := s.setGroup a ((s.group a).opened c s.mono)) rfl g).trans (State.setGroup_group ..)

theorem State.openGroup_fget (s : State) (a c : Nat) : (s.openGroup a c).fget pgSaf f = s.fget pgSaf f :=
  (State.openGroup_same (m := 36893491448103569540) (State.SameOutside.refl _ s) rfl).fget rfl (by decide)

theorem State.openGroup_view (s : State) (a c g : Nat) :
    (s.openGroup a c).groupView g = if a = g then ((s.group g).opened c s.mono, (s.groupView g).2) else s.groupView g := by
  unfold State.groupView
  rw [State.openGroup_group, State.openGroup_fget]
  split
  · next e => rw [e]
  · rfl

theorem State.setGroup_view (s : State) (a : Nat) (x : GroupSt) (g : Nat) :
    (s.setGroup a x).groupView g = if a = g then (x, (s.groupView g).2) else s.groupView g := by
  unfold State.groupView
  rw [State.setGroup_group]
  split <;> rfl

/-! ### A trip -/

/-- A group that could be lit opens. -/
theorem State.tripGroup_lit (h : (s.group a).state = .ready ∨ (s.group a).state = .closing ∨ (s.group a).state = .permit) :
    State.tripGroup lock cause s a = s.openGroup a (if lock then cause else 0) := by
  unfold State.tripGroup
  rcases h with h | h | h <;> simp only [h]

theorem State.tripGroup_opening (h : (s.group a).state = .opening) :
    State.tripGroup lock cause s a =
      if lock && (s.group a).lockCause = 0 then s.setGroup a { s.group a with lockCause := cause } else s := by
  unfold State.tripGroup
  simp only [h]

theorem State.tripGroup_safe (h : (s.group a).state = .safe) :
    State.tripGroup lock cause s a = if lock && s.groupEn a then s.enterLockout a cause else s := by
  unfold State.tripGroup
  simp only [h]

theorem State.tripGroup_rest (h : (s.group a).state = .start ∨ (s.group a).state = .lockout) :
    State.tripGroup lock cause s a = s := by
  unfold State.tripGroup
  rcases h with h | h <;> simp only [h]

/-- The four ways in which a cause meets a group. -/
theorem GState.trip_cases (x : GState) :
    (x = .ready ∨ x = .closing ∨ x = .permit) ∨ x = .opening ∨ x = .safe ∨ (x = .start ∨ x = .lockout) := by
  cases x <;> simp

theorem tripView_lit {v : GroupSt × Nat} {now : Nat} {en : Bool}
    (h : v.1.state = .ready ∨ v.1.state = .closing ∨ v.1.state = .permit) :
    tripView lock cause now en v = (v.1.opened (if lock then cause else 0) now, v.2) := by
  unfold tripView
  rcases h with h | h | h <;> simp only [h]

theorem tripView_opening {v : GroupSt × Nat} {now : Nat} {en : Bool} (h : v.1.state = .opening) :
    tripView lock cause now en v = if lock && v.1.lockCause = 0 then ({ v.1 with lockCause := cause }, v.2) else v := by
  unfold tripView
  simp only [h]

theorem tripView_safe {v : GroupSt × Nat} {now : Nat} {en : Bool} (h : v.1.state = .safe) :
    tripView lock cause now en v = if lock && en then (v.1.locked now, cause % 32) else v := by
  unfold tripView
  simp only [h]

theorem tripView_rest {v : GroupSt × Nat} {now : Nat} {en : Bool} (h : v.1.state = .start ∨ v.1.state = .lockout) :
    tripView lock cause now en v = v := by
  unfold tripView
  rcases h with h | h <;> simp only [h]

theorem State.tripGroup_view_self (ha : a < 4) :
    (State.tripGroup lock cause s a).groupView a = tripView lock cause s.mono (s.groupEn a) (s.groupView a) := by
  rcases (s.group a).state.trip_cases with h | h | h | h
  · rw [State.tripGroup_lit h, State.openGroup_view, if_pos rfl]
    exact (tripView_lit (v := s.groupView a) h).symm
  · rw [State.tripGroup_opening h, apply_ite (State.groupView · a), State.setGroup_view, if_pos rfl]
    exact (tripView_opening (v := s.groupView a) h).symm
  · rw [State.tripGroup_safe h, apply_ite (State.groupView · a), State.enterLockout_view ha ha, if_pos rfl]
    exact (tripView_safe (v := s.groupView a) h).symm
  · rw [State.tripGroup_rest h]
    exact (tripView_rest (v := s.groupView a) h).symm

theorem State.tripGroup_view_other (ha : a < 4) (hg : g < 4) (e : a ≠ g) :
    (State.tripGroup lock cause s a).groupView g = s.groupView g := by
  rcases (s.group a).state.trip_cases with h | h | h | h
  · rw [State.tripGroup_lit h, State.openGroup_view, if_neg e]
  · rw [State.tripGroup_opening h, apply_ite (State.groupView · g), State.setGroup_view, if_neg e, ite_self]
  · rw [State.tripGroup_safe h, apply_ite (State.groupView · g), State.enterLockout_view ha hg, if_neg e, ite_self]
  · rw [State.tripGroup_rest h]

theorem State.tripGroup_view (ha : a < 4) (hg : g < 4) :
    (State.tripGroup lock cause s a).groupView g =
      if a = g then tripView lock cause s.mono (s.groupEn g) (s.groupView g) else s.groupView g := by
  split
  · next e => rw [e, State.tripGroup_view_self hg]
  · next e => exact State.tripGroup_view_other ha hg e

theorem State.tripGroup_fget (ha : a < 4) (hf : ∀ k ∈ groupFields, k.Apart f) :
    (State.tripGroup lock cause s a).fget pgSaf f = s.fget pgSaf f := by
  rcases (s.group a).state.trip_cases with h | h | h | h
  · rw [State.tripGroup_lit h, State.openGroup_fget]
  · rw [State.tripGroup_opening h]
    split <;> rfl
  · rw [State.tripGroup_safe h]
    split
    · exact State.enterLockout_fget ha hf _ _
    · rfl
  · rw [State.tripGroup_rest h]

/-- What a loop of trips leaves as it was: the clock, the registers of GRD, and the fields of SAF that no group's change touches. -/
def State.TripKept (s u : State) : Prop :=
  u.mono = s.mono ∧ (∀ f, u.fget pgGrd f = s.fget pgGrd f) ∧
    ∀ f, (∀ k ∈ groupFields, k.Apart f) → u.fget pgSaf f = s.fget pgSaf f

theorem State.TripKept.groupEn (h : State.TripKept s t) (g : Nat) : t.groupEn g = s.groupEn g := by
  obtain ⟨-, hgrd, hsaf⟩ := h
  unfold State.groupEn
  rw [hgrd, hsaf _ (by decide)]

theorem State.TripKept.tripGroup (h : State.TripKept s t) (ha : a < 4) :
    State.TripKept s (State.tripGroup lock cause t a) := by
  obtain ⟨hmono, hgrd, hsaf⟩ := h
  have hsame := State.tripGroup_same (m := 36893561816847747204) (b0 := lock) (b1 := cause) (b3 := a) (State.SameOutside.refl _ t) rfl
  exact ⟨Eq.trans (hsame .mono (by decide)) hmono, fun f => (hsame.fget rfl (by decide)).trans (hgrd f),
    fun f hf => (State.tripGroup_fget ha hf).trans (hsaf f hf)⟩

/-- The groups of a mask, one by one, as a cause meets them. -/
def State.tripLoop (s : State) (lock : Bool) (cause groups : Nat) : State :=
  (bitsSet groups 4).foldl (State.tripGroup lock cause) s

theorem State.tripLoop_kept (s : State) (lock : Bool) (cause groups : Nat) :
    State.TripKept s (s.tripLoop lock cause groups) :=
  List.foldlRecOn _ _ (motive := State.TripKept s) ⟨rfl, fun _ => rfl, fun _ _ => rfl⟩
    fun _ ht _ ha => ht.tripGroup ((mem_bitsSet_iff ..).mp ha).1

theorem State.tripLoop_view (hg : g < 4) :
    (s.tripLoop lock cause groups).groupView g =
      if bit groups g = true then tripView lock cause s.mono (s.groupEn g) (s.groupView g) else s.groupView g := by
  refine (foldl_view (P := State.TripKept s) g (fun u => u.groupView g) (tripView lock cause s.mono (s.groupEn g)) ?_ ?_
    (bitsSet_nodup _ _) ?_).trans ?_
  · exact fun u hu a ha => hu.tripGroup ((mem_bitsSet_iff ..).mp ha).1
  · intro u hu a ha
    rw [State.tripGroup_view ((mem_bitsSet_iff ..).mp ha).1 hg, hu.groupEn, hu.1]
  · exact ⟨rfl, fun _ => rfl, fun _ _ => rfl⟩
  · simp [mem_bitsSet_iff, hg]

theorem State.tripGroup_group_other (e : a ≠ g) : (State.tripGroup lock cause s a).group g = s.group g := by
  rcases (s.group a).state.trip_cases with h | h | h | h
  · rw [State.tripGroup_lit h, State.openGroup_group, if_neg e]
  · rw [State.tripGroup_opening h, apply_ite (State.group · g), State.setGroup_group, if_neg e, ite_self]
  · rw [State.tripGroup_safe h, apply_ite (State.group · g), State.enterLockout_group, if_neg e, ite_self]
  · rw [State.tripGroup_rest h]

/-- A group outside the mask is left alone. -/
theorem State.tripLoop_group_other (h : bit groups g = false) : (s.tripLoop lock cause groups).group g = s.group g := by
  refine List.foldlRecOn _ _ (motive := fun u : State => u.group g = s.group g) rfl fun u hu a ha => ?_
  refine (State.tripGroup_group_other fun e => ?_).trans hu
  rw [← e, ((mem_bitsSet_iff ..).mp ha).2] at h
  cases h

/-! ### The record of a trip (R398) -/

/-- The groups of a mask that a cause makes open. -/
def State.opens (s : State) (groups : Nat) : Nat :=
  groups &&& (s.groupsIn .ready ||| s.groupsIn .closing ||| s.groupsIn .permit)

/-- A trip before its STATUS frame: the groups have met the cause, and the trip is recorded if a group opens. -/
def State.causeMet (s : State) (lock : Bool) (cause groups : Nat) : State :=
  if s.opens groups ≠ 0 then (s.tripLoop lock cause groups).recordTrip cause (s.opens groups) else s.tripLoop lock cause groups

theorem State.tripWith_eq (s : State) (lock : Bool) (cause groups : Nat) :
    s.tripWith lock cause groups = (s.causeMet lock cause groups).statusIfMoved s := by
  unfold State.tripWith State.causeMet
  simp only [bne_iff_ne]
  rfl

@[simp] theorem State.recordTrip_group (s : State) (cause moved g : Nat) : (s.recordTrip cause moved).group g = s.group g := by
  simp [State.recordTrip]

/-- The fields in which a trip is recorded. -/
def recordFields : List Fld :=
  [SAF.TRIP_CNT.TRIPS, GRD.CNT.TRIPS, SAF.TRIP_INFO.CAUSE, SAF.TRIP_INFO.GROUPS, GRD.STAT.LAST_CAUSE]

theorem State.recordTrip_fget (h : ∀ k ∈ recordFields, k.Apart f) (cause moved p : Nat) :
    (s.recordTrip cause moved).fget p f = s.fget p f := by
  simp only [recordFields, List.mem_cons, List.not_mem_nil, or_false, forall_eq_or_imp, forall_eq] at h
  obtain ⟨h1, h2, h3, h4, h5⟩ := h
  unfold State.recordTrip
  rw [State.evt_fget, State.evt_fget, State.fset_fget_apart h5, State.fset_fget_apart h4, State.fset_fget_apart h3,
    State.finc_fget_apart h2, State.finc_fget_apart h1]

@[simp] theorem State.statusIfMoved_view (hg : g < 4) (old : State) : (s.statusIfMoved old).groupView g = s.groupView g := by
  unfold State.groupView
  rw [State.statusIfMoved_group, State.statusIfMoved_fget]
  interval_cases g <;> decide

theorem State.recordTrip_view (hg : g < 4) (cause moved : Nat) : (s.recordTrip cause moved).groupView g = s.groupView g := by
  unfold State.groupView
  rw [State.recordTrip_group, State.recordTrip_fget]
  interval_cases g <;> decide

/-- What a trip makes of a group of its mask. -/
theorem State.tripWith_view (hg : g < 4) (hb : bit groups g = true) :
    (s.tripWith lock cause groups).groupView g = tripView lock cause s.mono (s.groupEn g) (s.groupView g) := by
  rw [State.tripWith_eq, State.statusIfMoved_view hg, State.causeMet, apply_ite (State.groupView · g), State.recordTrip_view hg,
    ite_self, State.tripLoop_view hg, if_pos hb]

theorem State.tripWith_group_other (h : bit groups g = false) : (s.tripWith lock cause groups).group g = s.group g := by
  rw [State.tripWith_eq, State.statusIfMoved_group, State.causeMet, apply_ite (State.group · g), State.recordTrip_group, ite_self,
    State.tripLoop_group_other h]

/-- Both channels name the cause of a trip and count it. -/
theorem State.recordTrip_records {moved : Nat} (hc : cause < 32) (hm : moved < 16) :
    (s.recordTrip cause moved).fget pgSaf SAF.TRIP_INFO.CAUSE = cause ∧
      (s.recordTrip cause moved).fget pgSaf SAF.TRIP_INFO.GROUPS = moved ∧
      (s.recordTrip cause moved).fget pgSaf SAF.TRIP_CNT.TRIPS = min (s.fget pgSaf SAF.TRIP_CNT.TRIPS + 1) 65535 ∧
      (s.recordTrip cause moved).fget pgGrd GRD.STAT.LAST_CAUSE = cause ∧
      (s.recordTrip cause moved).fget pgGrd GRD.CNT.TRIPS = min (s.fget pgGrd GRD.CNT.TRIPS + 1) 65535 ∧
      ((s.recordTrip cause moved).hdr pgSaf).evt.getLsbD 8 = true ∧
      ((s.recordTrip cause moved).hdr pgGrd).evt.getLsbD 8 = true := by
  unfold State.recordTrip
  simp only [State.evt_fget]
  refine ⟨?_, ?_, ?_, ?_, ?_, State.evt_keeps _ _ _ _ _ (State.evt_set _ _ _ (by decide)), State.evt_set _ _ _ (by decide)⟩
  · rw [State.fset_fget_apart (by decide), State.fset_fget_apart (by decide)]
    exact State.fset_fget (by decide) hc
  · rw [State.fset_fget_apart (by decide)]
    exact State.fset_fget (by decide) hm
  · rw [State.fset_fget_apart (by decide), State.fset_fget_apart (by decide), State.fset_fget_apart (by decide),
      State.finc_fget_apart (by decide)]
    exact State.finc_fget (by decide)
  · exact State.fset_fget (by decide) hc
  · rw [State.fset_fget_apart (by decide), State.fset_fget_apart (by decide), State.fset_fget_apart (by decide),
      State.finc_fget (by decide), State.finc_fget_apart (by decide)]
    rfl

/-- A trip that makes a group open is recorded. -/
theorem State.tripWith_records (hc : cause < 32) (hg : groups < 16) (h : s.opens groups ≠ 0) :
    (s.tripWith lock cause groups).fget pgSaf SAF.TRIP_INFO.CAUSE = cause ∧
      (s.tripWith lock cause groups).fget pgSaf SAF.TRIP_INFO.GROUPS = s.opens groups ∧
      (s.tripWith lock cause groups).fget pgSaf SAF.TRIP_CNT.TRIPS = min (s.fget pgSaf SAF.TRIP_CNT.TRIPS + 1) 65535 ∧
      (s.tripWith lock cause groups).fget pgGrd GRD.STAT.LAST_CAUSE = cause ∧
      (s.tripWith lock cause groups).fget pgGrd GRD.CNT.TRIPS = min (s.fget pgGrd GRD.CNT.TRIPS + 1) 65535 ∧
      ((s.tripWith lock cause groups).hdr pgSaf).evt.getLsbD 8 = true ∧
      ((s.tripWith lock cause groups).hdr pgGrd).evt.getLsbD 8 = true := by
  obtain ⟨-, hgrd, hsaf⟩ := s.tripLoop_kept lock cause groups
  have hsent (p : Nat) (f : Fld) (hf : SAF.TX_STAT.SEQ.Apart f) :
      (s.tripWith lock cause groups).fget p f =
        ((s.tripLoop lock cause groups).recordTrip cause (s.opens groups)).fget p f := by
    rw [State.tripWith_eq, State.causeMet, if_pos h, State.statusIfMoved_fget hf]
  have hhdr (p : Nat) : (s.tripWith lock cause groups).hdr p =
      ((s.tripLoop lock cause groups).recordTrip cause (s.opens groups)).hdr p := by
    rw [State.tripWith_eq, State.causeMet, if_pos h, State.statusIfMoved_hdr]
  rw [hsent _ _ (by decide), hsent _ _ (by decide), hsent _ _ (by decide), hsent _ _ (by decide), hsent _ _ (by decide), hhdr, hhdr,
    ← hsaf SAF.TRIP_CNT.TRIPS (by decide), ← hgrd GRD.CNT.TRIPS]
  exact State.recordTrip_records hc (Nat.lt_of_le_of_lt Nat.and_le_left hg)

/-- A trip that makes no group open is not recorded. -/
theorem State.tripWith_unrecorded (h : s.opens groups = 0) :
    (∀ f, (∀ k ∈ groupFields, k.Apart f) → (s.tripWith lock cause groups).fget pgSaf f = s.fget pgSaf f) ∧
      ∀ f, SAF.TX_STAT.SEQ.Apart f → (s.tripWith lock cause groups).fget pgGrd f = s.fget pgGrd f := by
  obtain ⟨-, hgrd, hsaf⟩ := s.tripLoop_kept lock cause groups
  have heq : s.causeMet lock cause groups = s.tripLoop lock cause groups := if_neg (not_not.mpr h)
  rw [State.tripWith_eq, heq]
  refine ⟨fun f hf => ?_, fun f hf => ?_⟩
  · rw [State.statusIfMoved_fget (hf _ (by simp [groupFields])), hsaf f hf]
  · rw [State.statusIfMoved_fget hf, hgrd]

/-- The field that is a whole register. -/
def wholeWord (off : Nat) : Fld := ⟨off, 0, 32⟩

theorem State.word_of_whole {p off : Nat} (h : t.fget p (wholeWord off) = s.fget p (wholeWord off)) :
    t.word (addrOf p off) = s.word (addrOf p off) := by
  unfold State.fget bitsOf wholeWord at h
  simp only [Nat.shiftRight_zero] at h
  rw [Nat.mod_eq_of_lt (t.word _).isLt, Nat.mod_eq_of_lt (s.word _).isLt] at h
  exact BitVec.eq_of_toNat_eq h

/-- The record of a group that the cause of a trip meets. -/
theorem State.tripWith_tripped (hc : cause < 32) (hg : groups < 16) :
    State.Tripped lock cause groups s (s.tripWith lock cause groups) := by
  refine ⟨fun g hg4 hb => ?_, fun g hb => State.tripWith_group_other hb, State.tripWith_records hc hg, fun h => ?_⟩
  · have hv := State.tripWith_view (s := s) (lock := lock) (cause := cause) hg4 hb
    have hgr : (s.tripWith lock cause groups).group g = (tripView lock cause s.mono (s.groupEn g) (s.groupView g)).1 :=
      congrArg Prod.fst hv
    have hcs : (s.tripWith lock cause groups).fget pgSaf (SAF.LOCK_CAUSE.CAUSE g) =
      (tripView lock cause s.mono (s.groupEn g) (s.groupView g)).2 := congrArg Prod.snd hv
    refine ⟨fun h => ?_, fun h => ?_, fun h hl he => ?_, fun h hn => ?_, fun h => ?_⟩
    · rw [hgr, tripView_lit (v := s.groupView g) h]
      exact ⟨rfl, rfl, rfl, rfl, rfl⟩
    · rw [hgr, tripView_opening (v := s.groupView g) h]
      have hiff : (lock && decide ((s.groupView g).1.lockCause = 0)) = true ↔ lock = true ∧ (s.group g).lockCause = 0 := by
        rw [Bool.and_eq_true, decide_eq_true_eq]
        rfl
      by_cases hl : lock = true ∧ (s.group g).lockCause = 0
      · rw [if_pos hl, if_pos (hiff.mpr hl)]
        exact ⟨h, rfl⟩
      · rw [if_neg hl, if_neg fun e => hl (hiff.mp e)]
        exact ⟨h, rfl⟩
    · rw [hgr, hcs, tripView_safe (v := s.groupView g) h, if_pos (by simp [hl, he])]
      exact ⟨rfl, rfl, rfl, Nat.mod_eq_of_lt hc⟩
    · rw [hgr, tripView_safe (v := s.groupView g) h, if_neg (by rcases hn with e | e <;> simp [e])]
      rfl
    · rw [hgr, tripView_rest (v := s.groupView g) h]
      rfl
  · obtain ⟨hsaf, hgrd⟩ := State.tripWith_unrecorded (lock := lock) (cause := cause) h
    exact ⟨State.word_of_whole (hsaf _ (by decide)), hsaf _ (by decide), hgrd _ (by decide), hgrd _ (by decide)⟩

/-! ### Groups are judged (R394, R395) -/

theorem State.openingDone_view_self (ha : a < 4) : (s.openingDone a).groupView a = openView s.mono (s.groupView a) := by
  unfold State.openingDone openView
  rw [apply_ite (State.groupView · a), apply_ite (State.groupView · a), State.setGroup_view, State.enterLockout_view ha ha,
    if_pos rfl, if_pos rfl]
  rfl

theorem State.openingDone_view_other (ha : a < 4) (hg : g < 4) (e : a ≠ g) : (s.openingDone a).groupView g = s.groupView g := by
  unfold State.openingDone
  rw [apply_ite (State.groupView · g), apply_ite (State.groupView · g), State.setGroup_view, State.enterLockout_view ha hg,
    if_neg e, if_neg e, ite_self, ite_self]

theorem State.openingDone_group_other (e : a ≠ g) : (s.openingDone a).group g = s.group g := by
  unfold State.openingDone
  rw [apply_ite (State.group · g), apply_ite (State.group · g), State.setGroup_group, State.enterLockout_group, if_neg e, if_neg e,
    ite_self, ite_self]

theorem State.openingDone_fget (ha : a < 4) (hf : ∀ k ∈ groupFields, k.Apart f) (p : Nat) :
    (s.openingDone a).fget p f = s.fget p f := by
  unfold State.openingDone
  rw [apply_ite (State.fget · p f), apply_ite (State.fget · p f), State.setGroup_fget, State.enterLockout_fget ha hf, ite_self,
    ite_self]

@[simp] theorem State.evalGroup_fget (s : State) (a p : Nat) : (s.evalGroup a).fget p f = s.fget p f := by
  unfold State.evalGroup
  dsimp only
  split
  · split
    · rw [State.evt_fget, State.setGroup_fget]
    · rfl
  · split <;> rfl
  · rfl

/-- READY comes and goes with its conditions; what else a group's record holds stays. -/
theorem State.evalGroup_judged (s : State) (a g : Nat) : (s.group g).Judged ((s.evalGroup a).group g) := by
  have hset (x : GroupSt) (hx : (s.group a).Judged x) : (s.group g).Judged ((s.setGroup a x).group g) := by
    rw [State.setGroup_group]
    split
    · next e => rwa [← e]
    · exact GroupSt.Judged.refl _
  unfold State.evalGroup
  dsimp only
  split
  · next h =>
    split
    · rw [State.evt_group]
      exact hset _ (.inr ⟨.inl h, .inr rfl, rfl⟩)
    · exact GroupSt.Judged.refl _
  · next h =>
    split
    · exact GroupSt.Judged.refl _
    · exact hset _ (.inr ⟨.inr h, .inl rfl, rfl⟩)
  · exact GroupSt.Judged.refl _

/-- In a handover window the conditions of READY do not hold (R422). -/
theorem State.readyHolds_handover (h : s.safe.handover.isSome = true) (g : Nat) : s.readyHolds g = false := by
  unfold State.readyHolds
  rw [Option.isNone_eq_false_iff.mpr h, Bool.and_false]

theorem State.evalGroup_not_ready (h : s.safe.handover.isSome = true) (g : Nat) : ((s.evalGroup g).group g).state ≠ .ready := by
  unfold State.evalGroup
  dsimp only
  rw [State.readyHolds_handover h]
  split
  · next hs => simp [hs]
  · simp
  · next hr => exact hr

theorem State.evalGroup_group_other (e : a ≠ g) : (s.evalGroup a).group g = s.group g := by
  unfold State.evalGroup
  dsimp only
  split
  · split
    · rw [State.evt_group, State.setGroup_group, if_neg e]
    · rfl
  · split
    · rfl
    · rw [State.setGroup_group, if_neg e]
  · rfl

/-- Two safety channels that differ in the states of the groups alone, and in what is known of the STATUS frame. -/
def SafeSt.SameElse (x y : SafeSt) : Prop :=
  y = { x with groups := y.groups, lastStatus := y.lastStatus, msgRefused := y.msgRefused }

theorem SafeSt.SameElse.refl (x : SafeSt) : SafeSt.SameElse x x := rfl

theorem SafeSt.SameElse.trans {x y z : SafeSt} (h : x.SameElse y) (h' : y.SameElse z) : x.SameElse z := by
  unfold SafeSt.SameElse at *
  rw [h', h]

theorem State.setGroup_else (s : State) (a : Nat) (x : GroupSt) : s.safe.SameElse (s.setGroup a x).safe := rfl

theorem State.enterLockout_else (s : State) (a c : Nat) : s.safe.SameElse (s.enterLockout a c).safe := by
  unfold State.enterLockout
  rw [State.evt_safe, State.finc_safe, State.fset_safe]
  exact State.setGroup_else ..

theorem State.sendStatus_else (s : State) : s.safe.SameElse s.sendStatus.safe := by
  unfold State.sendStatus
  split <;> rfl

theorem State.statusIfMoved_else (s old : State) : s.safe.SameElse (s.statusIfMoved old).safe := by
  unfold State.statusIfMoved
  split
  · exact s.sendStatus_else
  · rfl

theorem State.openingDone_else (s : State) (a : Nat) : s.safe.SameElse (s.openingDone a).safe := by
  unfold State.openingDone
  dsimp only
  split
  · split
    · exact State.setGroup_else ..
    · exact State.enterLockout_else ..
  · rfl

theorem State.evalGroup_else (s : State) (a : Nat) : s.safe.SameElse (s.evalGroup a).safe := by
  unfold State.evalGroup
  dsimp only
  split
  · split
    · rw [State.evt_safe]
      exact State.setGroup_else ..
    · rfl
  · split
    · rfl
    · exact State.setGroup_else ..
  · rfl

/-- The groups after feedback, before the conditions of READY. -/
def State.feedbackSeen (s : State) : State := (List.range 4).foldl State.openingDone s

theorem State.evalGroups_eq (s : State) :
    s.evalGroups = ((List.range 4).foldl State.evalGroup s.feedbackSeen).statusIfMoved s := rfl

theorem State.feedbackSeen_else (s : State) : s.safe.SameElse s.feedbackSeen.safe :=
  List.foldlRecOn _ _ (motive := fun u : State => s.safe.SameElse u.safe) (SafeSt.SameElse.refl _)
    fun u hu a _ => hu.trans (u.openingDone_else a)

/-- Judging the groups changes nothing of the channels but their states. -/
theorem State.evalGroups_else (s : State) : s.safe.SameElse s.evalGroups.safe := by
  refine SafeSt.SameElse.trans ?_ (State.statusIfMoved_else _ s)
  exact s.feedbackSeen_else.trans (List.foldlRecOn _ _ (motive := fun u : State => s.feedbackSeen.safe.SameElse u.safe)
    (SafeSt.SameElse.refl _) fun u hu a _ => hu.trans (u.evalGroup_else a))

theorem State.openingDone_mono (s : State) (a : Nat) : (s.openingDone a).mono = s.mono :=
  State.openingDone_same (m := 70370893758464) (State.SameOutside.refl _ s) rfl .mono (by decide)

theorem State.feedbackSeen_view (hg : g < 4) : s.feedbackSeen.groupView g = openView s.mono (s.groupView g) := by
  refine (foldl_view (P := fun u => u.mono = s.mono) g (fun u => u.groupView g) (openView s.mono) ?_ ?_ List.nodup_range ?_).trans
    (if_pos (List.mem_range.mpr hg))
  · exact fun u hu a _ => (u.openingDone_mono a).trans hu
  · intro u hu a ha
    split
    · next e => rw [e, State.openingDone_view_self hg, hu]
    · next e => exact State.openingDone_view_other (List.mem_range.mp ha) hg e
  · rfl

theorem State.feedbackSeen_fget (hf : ∀ k ∈ groupFields, k.Apart f) (p : Nat) : s.feedbackSeen.fget p f = s.fget p f :=
  List.foldlRecOn _ _ (motive := fun u : State => u.fget p f = s.fget p f) rfl
    fun _ hu _ ha => (State.openingDone_fget (List.mem_range.mp ha) hf p).trans hu

theorem State.judged_loop (l : List Nat) (g : Nat) : (s.group g).Judged ((l.foldl State.evalGroup s).group g) :=
  List.foldlRecOn l _ (motive := fun u : State => (s.group g).Judged (u.group g)) (GroupSt.Judged.refl _)
    fun u hu a _ => hu.trans (u.evalGroup_judged a g)

theorem State.judged_loop_fget (l : List Nat) (p : Nat) : (l.foldl State.evalGroup s).fget p f = s.fget p f :=
  List.foldlRecOn l _ (motive := fun u : State => u.fget p f = s.fget p f) rfl fun u hu a _ => (u.evalGroup_fget a p).trans hu

/-- What feedback made of a group is judged by the conditions of READY. -/
theorem State.evalGroups_group (hg : g < 4) :
    (openView s.mono (s.groupView g)).1.Judged (s.evalGroups.group g) := by
  rw [State.evalGroups_eq, State.statusIfMoved_group, ← State.feedbackSeen_view hg, State.groupView_fst]
  exact State.judged_loop _ g

theorem State.evalGroups_cause (hg : g < 4) :
    s.evalGroups.fget pgSaf (SAF.LOCK_CAUSE.CAUSE g) = (openView s.mono (s.groupView g)).2 := by
  rw [State.evalGroups_eq, ← State.feedbackSeen_view hg, State.statusIfMoved_fget (by interval_cases g <;> decide)]
  exact State.judged_loop_fget ..

theorem State.evalGroups_fget (hf : ∀ k ∈ groupFields, k.Apart f) (p : Nat) : s.evalGroups.fget p f = s.fget p f := by
  rw [State.evalGroups_eq, State.statusIfMoved_fget (hf _ (by simp [groupFields])), State.judged_loop_fget,
    State.feedbackSeen_fget hf]

/-- A group that does not open, or whose feedback does not show open, is as it was before the conditions of READY. -/
theorem openView_closed {v : GroupSt × Nat} {now : Nat} (h : v.1.state ≠ .opening ∨ v.1.fbOpen = false) : openView now v = v := by
  unfold openView
  rw [if_neg]
  rcases h with h | h <;> simp [h]

/-- A group in START, CLOSING, PERMIT or LOCKOUT is left alone. -/
theorem State.evalGroups_rest (hs : (s.group g).state ≠ .safe) (hr : (s.group g).state ≠ .ready)
    (ho : (s.group g).state ≠ .opening) : s.evalGroups.group g = s.group g := by
  have hfb : s.feedbackSeen.group g = s.group g := by
    refine List.foldlRecOn _ _ (motive := fun u : State => u.group g = s.group g) rfl fun u hu a _ => ?_
    by_cases e : a = g
    · subst e
      rw [State.openingDone, if_neg (by simp [hu, ho]), hu]
    · rw [State.openingDone_group_other e, hu]
  rw [State.evalGroups_eq, State.statusIfMoved_group]
  refine (State.judged_loop _ g).eq ?_ ?_ |>.trans hfb
  · rwa [hfb]
  · rwa [hfb]

/-- In a handover window no group is in READY once the groups are judged (R422). -/
theorem State.evalGroups_not_ready (h : s.safe.handover.isSome = true) (hg : g < 4) : (s.evalGroups.group g).state ≠ .ready := by
  have hfb : s.feedbackSeen.safe.handover = s.safe.handover := by
    rw [s.feedbackSeen_else]
  rw [State.evalGroups_eq, State.statusIfMoved_group]
  refine foldl_establishes (Q := fun u : State => u.safe.handover.isSome = true) (P := fun u => (u.group g).state ≠ .ready)
    (fun u a hu => ?_) (fun u hu => State.evalGroup_not_ready hu g) (fun u a hu hp => ?_) _ (List.mem_range.mpr hg) _ (by rwa [hfb])
  · rwa [u.evalGroup_else a]
  · by_cases e : a = g
    · rw [e]
      exact State.evalGroup_not_ready hu g
    · rwa [State.evalGroup_group_other e]

end Sys2Proof.Machine
end

section
/-! PROOFS. Trips in states that differ in page headers and in what has left the device alone (R397, R398, R427). -/

namespace Sys2Proof.Machine

variable {s t u v : State}

/-! ### Ports of alike states -/

theorem State.Alike.ite {p q : Prop} [Decidable p] [Decidable q] (h : p ↔ q) (ht : State.Alike s t) (hu : State.Alike u v) :
    State.Alike (if p then s else u) (if q then t else v) := by
  by_cases hp : p
  · rwa [if_pos hp, if_pos (h.mp hp)]
  · rwa [if_neg hp, if_neg fun hq => hp (h.mpr hq)]

theorem State.Alike.fset (h : State.Alike s t) (p : Nat) (f : Fld) (x : Nat) : State.Alike (s.fset p f x) (t.fset p f x) := by
  obtain ⟨_, _, rfl⟩ := h
  exact ⟨_, _, rfl⟩

theorem State.Alike.fsetB (h : State.Alike s t) (p : Nat) (f : Fld) (x : Bool) : State.Alike (s.fsetB p f x) (t.fsetB p f x) :=
  h.fset ..

theorem State.Alike.finc (h : State.Alike s t) (p : Nat) (f : Fld) : State.Alike (s.finc p f) (t.finc p f) := by
  obtain ⟨_, _, rfl⟩ := h
  exact ⟨_, _, rfl⟩

theorem State.Alike.setMask (h : State.Alike s t) (p : Nat) (f : Nat → Fld) (x : Nat) :
    State.Alike (s.setMask p f x) (t.setMask p f x) :=
  State.Alike.foldl (f := fun s i => s.fset p (f i) (x >>> (32 * i))) (fun i _ _ h => h.fset p (f i) (x >>> (32 * i))) _ h

theorem State.Alike.setDud (h : State.Alike s t) (n : Nat) (x : DudSt) : State.Alike (s.setDud n x) (t.setDud n x) := by
  obtain ⟨_, _, rfl⟩ := h
  exact ⟨_, _, rfl⟩

theorem State.Alike.duds (h : State.Alike s t) : t.duds = s.duds := by
  obtain ⟨_, _, rfl⟩ := h
  rfl

theorem State.Alike.dud (h : State.Alike s t) (n : Nat) : t.dud n = s.dud n := by
  unfold State.dud
  rw [h.duds]

theorem State.Alike.safe (h : State.Alike s t) : t.safe = s.safe := by
  obtain ⟨_, _, rfl⟩ := h
  rfl

theorem State.Alike.group (h : State.Alike s t) (g : Nat) : t.group g = s.group g :=
  State.group_of_safe (congrArg SafeSt.groups h.safe) g

theorem State.Alike.word (h : State.Alike s t) (a : Nat) : t.word a = s.word a := by
  obtain ⟨_, _, rfl⟩ := h
  rfl

theorem State.Alike.frameDoneCheck (h : State.Alike s t) : State.Alike s.frameDoneCheck t.frameDoneCheck := by
  obtain ⟨hd, o, rfl⟩ := h
  unfold State.frameDoneCheck
  exact State.Alike.ite Iff.rfl (State.Alike.evt ⟨hd, o, rfl⟩ ..) ⟨hd, o, rfl⟩

theorem State.Alike.stopPort (h : State.Alike s t) (n : Nat) : State.Alike (s.stopPort n) (t.stopPort n) := by
  unfold State.stopPort
  refine State.Alike.frameDoneCheck ?_
  obtain ⟨hd, o, rfl⟩ := h
  exact ⟨hd, o, rfl⟩

theorem State.Alike.ringSend (h : State.Alike s t) (n type targets : Nat) (words : List Nat) :
    State.Alike (s.ringSend n type targets words) (t.ringSend n type targets words) := by
  obtain ⟨hd, o, rfl⟩ := h
  unfold State.ringSend
  exact State.Alike.ite Iff.rfl ⟨hd, o, rfl⟩ ⟨_, _, rfl⟩

theorem State.Alike.startDark (h : State.Alike s t) (n targets : Nat) :
    State.Alike (s.startOn n .dark targets) (t.startOn n .dark targets) := by
  unfold State.startOn
  refine State.Alike.ite Iff.rfl h ?_
  have hsent := h.ringSend n 0x0B targets []
  obtain ⟨hd, o, he⟩ := hsent
  refine ⟨hd, o, ?_⟩
  unfold State.startPhase
  rw [show t.sendPhase n { kind := .dark, targets := some targets } (some targets) = t.ringSend n 0x0B targets [] from rfl, he]
  rfl

/-- The registers of one sink. -/
def State.sinkShown (p : Nat) (d : DudSt) (s : State) (i : Nat) : State :=
  (s.fsetB p (DUD.SINK_B.LIVE i) (bit d.live i)).fsetB p (DUD.SINK_B.LOST i) (bit d.lost i)

/-- The registers of a ring's sets of sinks. -/
def State.setsShown (s : State) (p : Nat) (d : DudSt) : State :=
  ((((s.setMask p DUD.LIVE.SINKS d.live).setMask p DUD.LOST.SINKS d.lost).fset p DUD.STAT.LIVE_CNT (sinksOf d.live).length).fset p
    DUD.STAT.FAULT_AT ((sinksOf d.lost).headD 0xFF)).fsetB p DUD.OWN.OWNS (d.owned != 0)

theorem State.sinksShown_eq (s : State) (n : Nat) :
    s.sinksShown n = (List.range 128).foldl (State.sinkShown (pgDud n) (s.dud n)) (s.setsShown (pgDud n) (s.dud n)) := by
  unfold State.sinksShown State.setsShown
  dsimp only
  rfl

theorem State.Alike.sinksShown (h : State.Alike s t) (n : Nat) : State.Alike (s.sinksShown n) (t.sinksShown n) := by
  rw [State.sinksShown_eq, State.sinksShown_eq, h.dud]
  refine State.Alike.foldl (fun i _ _ h => ?_) _ ?_
  · exact (h.fsetB ..).fsetB ..
  · exact ((((h.setMask ..).setMask ..).fset ..).fset ..).fsetB ..

theorem State.showRing_shown (s : State) (n : Nat) :
    s.showRing n = if (s.sinksShown n).enumerated n && (s.sinksShown n).fget (pgDud n) DUD.STAT.STATE != 2 then
      if (s.sinksShown n).ringStateOf n = 4 && (s.sinksShown n).fget (pgDud n) DUD.STAT.STATE != 4 then
        ((s.sinksShown n).fset (pgDud n) DUD.STAT.STATE ((s.sinksShown n).ringStateOf n)).evt (pgDud n) 8
      else (s.sinksShown n).fset (pgDud n) DUD.STAT.STATE ((s.sinksShown n).ringStateOf n)
    else s.sinksShown n := by
  unfold State.showRing State.sinksShown
  dsimp only

theorem State.Alike.showRing (h : State.Alike s t) (n : Nat) : State.Alike (s.showRing n) (t.showRing n) := by
  have hshown := h.sinksShown n
  rw [State.showRing_shown, State.showRing_shown]
  generalize s.sinksShown n = u at hshown
  generalize t.sinksShown n = v at hshown
  have henum : v.enumerated n = u.enumerated n := by rw [State.enumerated, State.enumerated, hshown.fget]
  have hring : v.ringStateOf n = u.ringStateOf n := by
    rw [State.ringStateOf, State.ringStateOf, hshown.dud, State.tileLive, State.tileLive, hshown.fget]
  rw [henum, hring, hshown.fget]
  exact State.Alike.ite Iff.rfl (State.Alike.ite Iff.rfl ((hshown.fset ..).evt ..) (hshown.fset ..)) hshown

theorem State.Alike.darkTile (h : State.Alike s t) (n : Nat) : State.Alike (s.darkTile n) (t.darkTile n) := by
  unfold State.darkTile
  rw [h.dud]
  exact ((h.stopPort n).startDark ..).showRing n

/-! ### Groups of alike states -/

theorem State.Alike.setGroup (h : State.Alike s t) (g : Nat) (x : GroupSt) : State.Alike (s.setGroup g x) (t.setGroup g x) := by
  obtain ⟨_, _, rfl⟩ := h
  exact ⟨_, _, rfl⟩

theorem State.Alike.enterLockout (h : State.Alike s t) (g c : Nat) : State.Alike (s.enterLockout g c) (t.enterLockout g c) := by
  unfold State.enterLockout
  refine State.Alike.evt ?_ ..
  obtain ⟨_, _, rfl⟩ := h
  exact ⟨_, _, rfl⟩

theorem State.Alike.openGroup (h : State.Alike s t) (g c : Nat) : State.Alike (s.openGroup g c) (t.openGroup g c) := by
  unfold State.openGroup
  refine State.Alike.foldl (fun n _ _ h => h.darkTile n) _ ?_
  obtain ⟨_, _, rfl⟩ := h
  exact ⟨_, _, rfl⟩

theorem State.Alike.sendStatus (h : State.Alike s t) : State.Alike s.sendStatus t.sendStatus := by
  obtain ⟨hd, o, rfl⟩ := h
  unfold State.sendStatus
  exact State.Alike.ite Iff.rfl ⟨_, _, rfl⟩ ⟨hd, o, rfl⟩

theorem State.Alike.statusIfMoved (h : State.Alike s t) (h' : State.Alike u v) :
    State.Alike (s.statusIfMoved u) (t.statusIfMoved v) := by
  unfold State.statusIfMoved
  refine State.Alike.ite ?_ h.sendStatus h
  simp only [h.group, h'.group]

theorem State.Alike.tripGroup (h : State.Alike s t) (lock : Bool) (c g : Nat) :
    State.Alike (State.tripGroup lock c s g) (State.tripGroup lock c t g) := by
  have hg := h.group g
  rcases (s.group g).state.trip_cases with hs | hs | hs | hs
  · rw [State.tripGroup_lit hs, State.tripGroup_lit (by rwa [hg])]
    exact h.openGroup ..
  · rw [State.tripGroup_opening hs, State.tripGroup_opening (by rwa [hg]), hg]
    exact State.Alike.ite Iff.rfl (h.setGroup ..) h
  · rw [State.tripGroup_safe hs, State.tripGroup_safe (by rwa [hg])]
    refine State.Alike.ite ?_ (h.enterLockout ..) h
    rw [State.groupEn, State.groupEn, h.fget, h.fget]
  · rwa [State.tripGroup_rest hs, State.tripGroup_rest (by rwa [hg])]

theorem State.Alike.tripWith (h : State.Alike s t) (lock : Bool) (c groups : Nat) :
    State.Alike (s.tripWith lock c groups) (t.tripWith lock c groups) := by
  rw [State.tripWith_eq, State.tripWith_eq]
  refine State.Alike.statusIfMoved ?_ h
  have hopens : t.opens groups = s.opens groups := by
    unfold State.opens State.groupsIn
    simp only [h.group]
  have hloop : State.Alike (s.tripLoop lock c groups) (t.tripLoop lock c groups) :=
    State.Alike.foldl (fun g _ _ h => h.tripGroup lock c g) _ h
  unfold State.causeMet
  rw [hopens]
  refine State.Alike.ite Iff.rfl ?_ hloop
  exact (((((hloop.finc ..).finc ..).fset ..).fset ..).fset .. |>.evt ..).evt ..

theorem State.Alike.openingDone (h : State.Alike s t) (g : Nat) : State.Alike (s.openingDone g) (t.openingDone g) := by
  unfold State.openingDone
  rw [h.group, show t.mono = s.mono by obtain ⟨_, _, rfl⟩ := h; rfl]
  exact State.Alike.ite Iff.rfl (State.Alike.ite Iff.rfl (h.setGroup ..) (h.enterLockout ..)) h

theorem State.Alike.evalGroup (h : State.Alike s t) (g : Nat) : State.Alike (s.evalGroup g) (t.evalGroup g) := by
  obtain ⟨hd, o, rfl⟩ := h
  unfold State.evalGroup
  rw [show (s.withHeaders hd o).group g = s.group g from rfl]
  dsimp only
  split
  · exact State.Alike.ite Iff.rfl (State.Alike.evt ⟨_, _, rfl⟩ ..) ⟨_, _, rfl⟩
  · exact State.Alike.ite Iff.rfl ⟨_, _, rfl⟩ ⟨_, _, rfl⟩
  · exact ⟨_, _, rfl⟩

theorem State.Alike.evalGroups (h : State.Alike s t) : State.Alike s.evalGroups t.evalGroups :=
  State.Alike.statusIfMoved (State.Alike.foldl (fun g _ _ h => h.evalGroup g) _
    (State.Alike.foldl (fun g _ _ h => h.openingDone g) _ h)) h

theorem State.alike_cmdDone (s : State) (p : Nat) : State.Alike s (s.cmdDone p) := by
  unfold State.cmdDone
  split
  · exact State.Alike.refl s
  · refine State.Alike.trans ?_ (State.alike_evt _ _ _)
    exact ⟨_, _, rfl⟩

theorem State.alike_emit (s : State) (x : Out) : State.Alike s (s.emit x) := ⟨_, _, rfl⟩

end Sys2Proof.Machine
end

section
/-! PROOFS. The commands that are trips: SAF's TRIP, a current limit, a lost ALIVE, an expired handover window, a silent engine,
wrong signatures, and a low SAFE_XIN (R397, R398, R407 to R409, R420, R423, R425, R427, R558). -/

namespace Sys2Proof.Machine

variable {s t : State} {g k m cause groups : Nat} {lock : Bool} {f : Fld}

/-! ### The running command of SAF -/

theorem State.enterLockout_run (s : State) (g c p : Nat) : ((s.enterLockout g c).hdr p).run = (s.hdr p).run := by
  unfold State.enterLockout
  rw [State.evt_hdr_run]
  rfl

theorem State.openGroup_hdr (s : State) (g c : Nat) : (s.openGroup g c).hdr pgSaf = s.hdr pgSaf :=
  (State.openGroup_same (m := 36893491448103569540) (State.SameOutside.refl _ s) rfl (.page .saf) (by decide) pgSaf rfl).1

theorem State.tripGroup_run (s : State) (lock : Bool) (c g : Nat) :
    ((State.tripGroup lock c s g).hdr pgSaf).run = (s.hdr pgSaf).run := by
  rcases (s.group g).state.trip_cases with h | h | h | h
  · rw [State.tripGroup_lit h, State.openGroup_hdr]
  · rw [State.tripGroup_opening h]
    split <;> rfl
  · rw [State.tripGroup_safe h]
    split
    · exact s.enterLockout_run ..
    · rfl
  · rw [State.tripGroup_rest h]

theorem State.tripWith_run (s : State) (lock : Bool) (c groups : Nat) :
    ((s.tripWith lock c groups).hdr pgSaf).run = (s.hdr pgSaf).run := by
  have hloop : ((s.tripLoop lock c groups).hdr pgSaf).run = (s.hdr pgSaf).run :=
    List.foldlRecOn _ _ (motive := fun u : State => (u.hdr pgSaf).run = (s.hdr pgSaf).run) rfl
      fun u hu g _ => (u.tripGroup_run lock c g).trans hu
  rw [State.tripWith_eq, State.statusIfMoved_hdr, ← hloop]
  unfold State.causeMet
  split
  · unfold State.recordTrip
    rw [State.evt_hdr_run, State.evt_hdr_run]
    rfl
  · rfl

theorem State.openingDone_run (s : State) (g : Nat) : ((s.openingDone g).hdr pgSaf).run = (s.hdr pgSaf).run := by
  unfold State.openingDone
  dsimp only
  split
  · split
    · rfl
    · exact s.enterLockout_run ..
  · rfl

theorem State.evalGroup_run (s : State) (g : Nat) : ((s.evalGroup g).hdr pgSaf).run = (s.hdr pgSaf).run := by
  unfold State.evalGroup
  dsimp only
  split
  · split
    · rw [State.evt_hdr_run]
      rfl
    · rfl
  · split <;> rfl
  · rfl

theorem State.evalGroups_run (s : State) : (s.evalGroups.hdr pgSaf).run = (s.hdr pgSaf).run := by
  rw [State.evalGroups_eq, State.statusIfMoved_hdr]
  refine List.foldlRecOn _ _ (motive := fun u : State => (u.hdr pgSaf).run = (s.hdr pgSaf).run) ?_
    fun u hu g _ => (u.evalGroup_run g).trans hu
  exact List.foldlRecOn _ _ (motive := fun u : State => (u.hdr pgSaf).run = (s.hdr pgSaf).run) rfl
    fun u hu g _ => (u.openingDone_run g).trans hu

/-! ### SAF's TRIP (R427) -/

theorem State.cmdRun_saf {op arg : Nat} (h : 2 < op) : s.cmdRun m pgSaf op arg = s.safCmd op arg := by
  unfold State.cmdRun
  rw [if_neg (by omega), if_neg (by omega), if_neg (by omega)]
  rfl

/-- A command of SAF does what safCmd says, and its write answers OK. -/
theorem State.saf_command {op arg : Nat} (h : s.accepts m pgSaf op arg = true) (h2 : 2 < op) (ho : op < 256) (ha : arg < 2 ^ 24) :
    s.command m pgSaf op arg = ((s.cmdStart pgSaf op arg m).safCmd op arg).emit (.access m 0 0) := by
  rw [State.command_eq h ho ha (.inr fun q _ => by unfold pgSaf pgReel; omega), State.cmdRun_saf h2]

theorem State.safCmd_trip {arg : Nat} (h : arg < 16) :
    s.safCmd 0x13 arg = (s.tripWith false 18 arg).evalGroups.cmdDone pgSaf := by
  unfold State.safCmd
  rw [if_neg (by decide), if_neg (by decide), if_neg (by decide), Nat.mod_eq_of_lt h]
  rfl

theorem exec_safTrip_on (h : s.boot.powered = true) (m : Master) (groups : BitVec 4) :
    exec (.safTrip m groups) s = .next (s.command m.id pgSaf 0x13 groups.toNat) :=
  congrArg Host.Outcome.next (State.live_on h _)

theorem exec_safTrip_trips (m : Master) (groups : BitVec 4) (h : s.accepts m.id pgSaf 0x13 groups.toNat = true) :
    ∃ t : State, exec (.safTrip m groups) s = .next t ∧ State.Alike (s.tripWith false 18 groups.toNat).evalGroups t ∧
      t.Done pgSaf 0x13 m.id ∧ t.Answers (.access m.id 0 0) := by
  have hrun : (((s.cmdStart pgSaf 0x13 groups.toNat m.id).tripWith false 18 groups.toNat).evalGroups.hdr pgSaf).run =
      some ⟨0x13, groups.toNat, m.id⟩ := by
    rw [State.evalGroups_run, State.tripWith_run, State.cmdStart_run]
  have hg : groups.toNat < 16 := groups.isLt
  rw [exec_safTrip_on (State.accepts_powered h), State.saf_command h (by decide) (by decide) (by omega), State.safCmd_trip hg]
  refine ⟨_, rfl, ?_, State.ended_done hrun⟩
  exact (((s.alike_cmdStart ..).tripWith ..).evalGroups.trans (State.alike_cmdDone ..)).trans (State.alike_emit ..)

/-! ### What each cause leaves before its trip -/

/-- A switch that has been limited for too long is off (R558). -/
def State.switchedOff (s : State) (g : Nat) : State := s.setGroup g { s.group g with swA := false, swB := false }

/-- ALIVE has failed: SAF does not run (R425). -/
def State.aliveFailed (s : State) : State :=
  ({ s with safe := { s.safe with aliveAt := none } }.fset pgGrd GRD.STAT.SAF_OK 0).evt pgGrd 9

theorem State.safSilent_eq (s : State) : s.safSilent = (s.aliveFailed.tripWith true 15 15).evalGroups := rfl

theorem State.aliveFailed_safe (s : State) : s.aliveFailed.safe = { s.safe with aliveAt := none } := by
  unfold State.aliveFailed
  rw [State.evt_safe]
  rfl

theorem State.aliveFailed_mono (s : State) : s.aliveFailed.mono = s.mono := by
  unfold State.aliveFailed
  rw [State.evt_mono]
  rfl

theorem State.aliveFailed_ok (s : State) : s.aliveFailed.fbit pgGrd GRD.STAT.SAF_OK = false := by
  unfold State.aliveFailed
  rw [State.evt_fbit, State.fbit, State.fset_fget (by decide) (by decide)]
  rfl

theorem State.aliveFailed_event (s : State) : (s.aliveFailed.hdr pgGrd).evt.getLsbD 9 = true :=
  State.evt_set _ _ _ (by decide)

theorem State.aliveFailed_same {o : State} (h : State.SameOutside k o s) (hk : partsMask [.safe, .out, .page .grd] ||| k = k) :
    State.SameOutside k o s.aliveFailed :=
  State.evt_same (State.fset_same (State.SameOutside.set_safe h (mask_trans rfl hk)) (mask_trans rfl hk)
    (pageMask_grd (mask_trans rfl hk))) (mask_trans rfl hk) (pageMask_grd (mask_trans rfl hk))

theorem State.advanceTo_safe (s : State) (i : Nat) : (s.advanceTo i).safe = s.safe :=
  State.advanceTo_same (m := 130) (State.SameOutside.refl _ s) rfl .safe (by decide)

theorem State.aliveTimeout_on {a : Nat} (ha : s.safe.aliveAt = some a) (hh : s.safe.handover = none) :
    s.aliveTimeout = ((s.advanceTo (a + 1000000)).aliveFailed.tripWith true 15 15).evalGroups := by
  unfold State.aliveTimeout
  simp only [ha, hh, Option.isSome_none, Bool.false_eq_true, if_false]
  rfl

theorem State.aliveTimeout_off (h : s.safe.aliveAt = none ∨ s.safe.handover.isSome = true) : s.aliveTimeout = s := by
  unfold State.aliveTimeout
  rcases h with h | h
  · rw [h]
  · simp only [h, if_true]
    split <;> rfl

/-- A handover window that expires has closed, and the next ALIVE write counts as a first one (R423). -/
def State.windowLost (s : State) : State :=
  { s.closeWindow with safe := { s.closeWindow.safe with aliveAt := none } }

theorem State.handoverExpired_on {e : Nat} (h : s.safe.handover = some e) :
    s.handoverExpired = ((((s.advanceTo e).evt pgGrd 10).windowLost).tripWith true 16 15).evalGroups := by
  unfold State.handoverExpired
  rw [h]
  rfl

theorem State.handoverExpired_off (h : s.safe.handover = none) : s.handoverExpired = s := by
  unfold State.handoverExpired
  rw [h]

/-- The window closes, as far as the times of ALIVE (R423). -/
def State.windowShut (s : State) : State :=
  { s with safe := { s.safe with
    handover := none, aliveAt := s.safe.aliveAt.map (fun _ => s.mono), aliveInWindow := false } }

/-- A connection that was alive when the window opened is timed anew (R423). -/
def State.connTimed (s : State) (c : Nat) : State :=
  if (s.conn c).wasAlive then s.setConn c { s.conn c with lastAccept := s.mono } else s

theorem State.closeWindow_eq (s : State) :
    s.closeWindow = (((List.range 2).foldl State.connTimed s.windowShut).fset pgSaf SAF.GROUP_STAT.HANDOVER 0).fset pgGrd
      GRD.STAT.HANDOVER 0 := rfl

/-- Timing connections changes nothing else. -/
theorem State.connsTimed_eq (s : State) (l : List Nat) :
    ∃ cs, l.foldl State.connTimed s = { s with safe := { s.safe with conns := cs } } := by
  refine List.foldlRecOn l _ (motive := fun u : State => ∃ cs, u = { s with safe := { s.safe with conns := cs } }) ⟨_, rfl⟩
    fun u hu c _ => ?_
  obtain ⟨cs, rfl⟩ := hu
  unfold State.connTimed
  split <;> exact ⟨_, rfl⟩

theorem State.closeWindow_safe (s : State) :
    ∃ cs, s.closeWindow.safe = { s.windowShut.safe with conns := cs } := by
  rw [State.closeWindow_eq, State.fset_safe, State.fset_safe]
  obtain ⟨cs, he⟩ := s.windowShut.connsTimed_eq (List.range 2)
  exact ⟨cs, by rw [he]⟩

theorem State.closeWindow_fget (h : SAF.GROUP_STAT.HANDOVER.Apart f) (h' : GRD.STAT.HANDOVER.Apart f) (p : Nat) :
    s.closeWindow.fget p f = s.fget p f := by
  obtain ⟨cs, he⟩ := s.windowShut.connsTimed_eq (List.range 2)
  rw [State.closeWindow_eq, State.fset_fget_apart h', State.fset_fget_apart h, he]
  rfl

theorem State.closeWindow_shown (s : State) :
    s.closeWindow.fbit pgSaf SAF.GROUP_STAT.HANDOVER = false ∧ s.closeWindow.fbit pgGrd GRD.STAT.HANDOVER = false := by
  rw [State.closeWindow_eq, State.fbit, State.fbit, State.fset_fget (by decide) (by decide),
    State.fset_fget_apart (p := pgGrd) (by decide), State.fset_fget (by decide) (by decide)]
  exact ⟨rfl, rfl⟩

theorem State.windowLost_safe (s : State) :
    s.windowLost.safe.handover = none ∧ s.windowLost.safe.aliveAt = none ∧ s.windowLost.safe.groups = s.safe.groups := by
  obtain ⟨cs, he⟩ := s.closeWindow_safe
  unfold State.windowLost
  dsimp only
  rw [he]
  exact ⟨rfl, rfl, rfl⟩

theorem State.windowLost_shown (s : State) :
    s.windowLost.fbit pgSaf SAF.GROUP_STAT.HANDOVER = false ∧ s.windowLost.fbit pgGrd GRD.STAT.HANDOVER = false := by
  have hpages (p : Nat) (f : Fld) : s.windowLost.fbit p f = s.closeWindow.fbit p f := State.fbit_of_fget (State.fget_of_pages rfl p f)
  rw [hpages, hpages]
  exact s.closeWindow_shown

theorem State.windowLost_mono (s : State) : s.windowLost.mono = s.mono :=
  State.closeWindow_same (m := fullMask ^^^ 2) (State.SameOutside.refl _ s) rfl .mono (by decide)

theorem State.windowLost_event (h : (s.hdr pgGrd).evt.getLsbD k = true) : (s.windowLost.hdr pgGrd).evt.getLsbD k = true := by
  obtain ⟨cs, he⟩ := s.windowShut.connsTimed_eq (List.range 2)
  have hh : s.windowLost.hdr pgGrd = s.hdr pgGrd := by
    show s.closeWindow.hdr pgGrd = _
    rw [State.closeWindow_eq, he]
    rfl
  rwa [hh]

/-- An engine that has sent no end-of-frame mark is counted (R407). -/
def State.tapLate (s : State) : State :=
  (s.advanceTo (s.time.boundaryAt + s.period * 92 / 100 / 65536 + 10000)).finc pgGrd GRD.CNT.TAP_LATE

theorem State.tapLate_count (s : State) :
    s.tapLate.fget pgGrd GRD.CNT.TAP_LATE = min (s.fget pgGrd GRD.CNT.TAP_LATE + 1) 65535 := by
  rw [State.tapLate, State.finc_fget (by decide), State.advanceTo_fget]
  rfl

/-- An engine that computes a live tile owes its end-of-frame mark (R407). -/
theorem State.tapSilent_on {q : Nat} (hs : s.fbit pgTime TIME.STILL_STAT.STILL = false) (hm : bit s.safe.marks q = false)
    (h : ∃ k ∈ tilesOfQuadrant q, bit s.cad.computing k = true ∧ s.tileLive k = true) :
    s.tapSilent q = s.tapLate.tripWith true 7 15 := by
  have hany : (tilesOfQuadrant q).any (fun t => bit s.cad.computing t && s.tileLive t) = true := by
    rw [List.any_eq_true]
    obtain ⟨k, hk, hc, hl⟩ := h
    exact ⟨k, hk, by rw [hc, hl]; rfl⟩
  unfold State.tapSilent
  rw [hs, hm, hany]
  exact if_neg (by decide)

theorem State.tapSilent_off {q : Nat} (h : s.fbit pgTime TIME.STILL_STAT.STILL = true ∨ bit s.safe.marks q = true ∨
    ∀ k ∈ tilesOfQuadrant q, bit s.cad.computing k = false ∨ s.tileLive k = false) : s.tapSilent q = s := by
  unfold State.tapSilent
  refine if_pos ?_
  rcases h with h | h | h
  · simp [h]
  · simp [h]
  · have hany : (tilesOfQuadrant q).any (fun t => bit s.cad.computing t && s.tileLive t) = false := by
      rw [List.any_eq_false]
      intro k hk
      rcases h k hk with e | e <;> simp [e]
    simp [hany]

/-- The read signature of a live tile that is not what the seal in force says (R408). -/
def State.sigWrong (s : State) (k : Nat) : Prop :=
  bit (s.fget pgMatte MATTE.READ_STAT.VALID) k = false ∨
    s.fget pgMatte (MATTE.READ_SIG.CRC k) ≠ s.fget pgMatte (MATTE.SEAL.CRC (16 * s.fget pgMatte MATTE.CTL.ACTIVE + k))

theorem State.matteSigCheck_bad (hr : s.safRuns = true) (hh : s.safe.handover = none)
    (h : ∃ k, k < 16 ∧ s.tileLive k = true ∧ s.sigWrong k) : s.matteSigCheck = s.tripWith false 9 15 := by
  obtain ⟨k, hk, hl, hw⟩ := h
  unfold State.matteSigCheck
  rw [if_neg (by simp [hr, hh])]
  refine if_pos (List.any_eq_true.mpr ⟨k, List.mem_range.mpr hk, ?_⟩)
  rw [hl, Bool.true_and]
  rcases hw with hw | hw
  · simp [hw]
  · simp [hw]

theorem State.matteSigCheck_good (hr : s.safRuns = true) (hh : s.safe.handover = none)
    (h : ∀ k, k < 16 → s.tileLive k = true → s.fget pgMatte MATTE.READ_STAT.FRAME = s.frame ∧ ¬ s.sigWrong k) :
    s.matteSigCheck = s := by
  unfold State.matteSigCheck
  rw [if_neg (by simp [hr, hh])]
  refine if_neg ?_
  rw [Bool.not_eq_true, List.any_eq_false]
  intro k hk
  by_cases hl : s.tileLive k = true
  · obtain ⟨hf, hw⟩ := h k (List.mem_range.mp hk) hl
    simp only [State.sigWrong, not_or, Bool.not_eq_false, not_not] at hw
    obtain ⟨hv, he⟩ := hw
    simp [hf, hv, he]
  · simp [hl]

/-- The overlay's signature of a frame is not the one that SAF has computed (R409). -/
def State.ovlWrong (s : State) (k sig : Nat) : Bool :=
  !s.fbit pgOvl OVL.SIG_FRAME.DRAWN || s.fget pgOvl OVL.SIG_FRAME.FRAME ≠ k || s.fget pgOvl OVL.SIG.CRC ≠ sig

theorem State.ovlWrong_iff {sig : Nat} : s.ovlWrong k sig = true ↔ s.fbit pgOvl OVL.SIG_FRAME.DRAWN = false ∨
    s.fget pgOvl OVL.SIG_FRAME.FRAME ≠ k ∨ s.fget pgOvl OVL.SIG.CRC ≠ sig := by
  simp only [State.ovlWrong, Bool.or_eq_true, Bool.not_eq_true', decide_eq_true_eq, or_assoc]

/-- What SIG_OK shows of a frame (R409). -/
def State.ovlShown (s : State) (k sig : Nat) : State :=
  s.fsetB pgSaf SAF.MSG_STAT.SIG_OK (!s.ovlWrong k sig && !(s.fget pgOvl OVL.SIG_FRAME.HB_PHASE ≠ k % 2))

theorem State.ovlSigCheck_on {sig : Nat} (hr : s.safRuns = true) (hh : s.safe.handover = none)
    (ht : s.fget pgSaf SAF.MSG_STAT.TAKES ≠ 0) (hk : (k + 65536 - s.safe.msgFrom) % 65536 < 32768) :
    s.ovlSigCheck k sig = if s.ovlWrong k sig = true then (s.ovlShown k sig).tripWith false 10 15
      else if s.fget pgOvl OVL.SIG_FRAME.HB_PHASE ≠ k % 2 then (s.ovlShown k sig).tripWith false 11 15
      else s.ovlShown k sig := by
  unfold State.ovlSigCheck
  rw [if_neg (by simpa [hr, hh, ht] using hk)]
  simp only
  rfl

/-- SAFE_XIN is low (R420). -/
def State.xinFallen (s : State) : State :=
  ({ s with safe := { s.safe with xinHigh := false } }.fset pgSaf SAF.IN_STAT.XIN 0).fset pgGrd GRD.STAT.XIN 0

theorem State.xinLow_eq (s : State) :
    s.xinLow = if s.pairEn = true then (s.xinFallen.tripWith false 17 15).evalGroups else s.xinFallen := by
  have hp : s.xinFallen.pairEn = s.pairEn := by
    have hf (p : Nat) (f : Fld) (h : SAF.IN_STAT.XIN.Apart f) (h' : GRD.STAT.XIN.Apart f) : s.xinFallen.fbit p f = s.fbit p f :=
      State.fbit_of_fget ((State.fset_fget_apart h').trans (State.fset_fget_apart h))
    rw [State.pairEn, State.pairEn, hf _ _ (by decide) (by decide), hf _ _ (by decide) (by decide)]
  rw [← hp]
  rfl

theorem State.xinFallen_shown (s : State) :
    s.xinFallen.fget pgSaf SAF.IN_STAT.XIN = 0 ∧ s.xinFallen.fget pgGrd GRD.STAT.XIN = 0 := by
  unfold State.xinFallen
  rw [State.fset_fget_apart (by decide), State.fset_fget (by decide) (by decide), State.fset_fget (by decide) (by decide)]
  exact ⟨rfl, rfl⟩

/-! ### The statement -/

section
variable (hon : s.boot.powered = true)
include hon

theorem exec_safeOutCurrentLimit_on (g : Fin 4) : exec (.safeOutCurrentLimit g) s = .next (s.currentLimit g) :=
  congrArg Host.Outcome.next (State.live_on hon _)

theorem exec_safSilent_on : exec .safSilent s = .next s.aliveTimeout := congrArg Host.Outcome.next (State.live_on hon _)

theorem exec_handoverExpired_on : exec .handoverExpired s = .next s.handoverExpired :=
  congrArg Host.Outcome.next (State.live_on hon _)

theorem exec_tapSilent_on (q : Fin 4) : exec (.tapSilent q) s = .next (s.tapSilent q) :=
  congrArg Host.Outcome.next (State.live_on hon _)

theorem exec_matteSigCheck_on : exec .matteSigCheck s = .next s.matteSigCheck :=
  congrArg Host.Outcome.next (State.live_on hon _)

theorem exec_ovlSigCheck_on (k : BitVec 16) (sig : BitVec 32) :
    exec (.ovlSigCheck k sig) s = .next (s.ovlSigCheck k.toNat sig.toNat) :=
  congrArg Host.Outcome.next (State.live_on hon _)

theorem exec_safeXinLow_on : exec .safeXinLow s = .next s.xinLow.settle := congrArg Host.Outcome.next (State.live_on hon _)

end

/-- Settles O46: a cause as it meets each group, and each command as the state it leaves before its trip. -/
theorem tripsFollowTheirCause : Obligations.TripsFollowTheirCause := by
  unfold Obligations.TripsFollowTheirCause
  refine fun s => ⟨fun lock cause groups hc hg => State.tripWith_tripped hc hg, fun m groups h => ?_, fun hon =>
    ⟨fun g => ?_, fun a ha hh => ?_, fun h => ?_, fun e he => ?_, fun h => ?_, fun q => ⟨fun hs hm h => ?_, fun h => ?_⟩,
      fun hr hh h => ?_, fun hr hh h => ?_, fun k sig hr hh ht hk => ?_, ?_⟩⟩
  case refine_1 =>
    obtain ⟨t, ht, halike, hdone, hans⟩ := exec_safTrip_trips m groups h
    exact ⟨_, t, rfl, ht, halike.safe, halike.duds, halike.word, hdone, hans⟩
  case refine_2 =>
    exact ⟨s.switchedOff g, exec_safeOutCurrentLimit_on hon g, State.setGroup_group_self .., fun h hne => State.setGroup_group_other hne,
      State.setGroup_same (State.SameOutside.refl _ s) rfl⟩
  case refine_3 =>
    rw [exec_safSilent_on hon, State.aliveTimeout_on ha hh]
    refine ⟨(s.advanceTo (a + 1000000)).aliveFailed, rfl, ?_, ?_, State.aliveFailed_ok _, State.aliveFailed_event _,
      State.aliveFailed_same (State.advanceTo_same (State.SameOutside.refl _ s) rfl) rfl⟩
    · rw [State.aliveFailed_mono, State.advanceTo_mono]
    · rw [State.aliveFailed_safe, State.advanceTo_safe]
  case refine_4 => rw [exec_safSilent_on hon, State.aliveTimeout_off h]
  case refine_5 =>
    rw [exec_handoverExpired_on hon, State.handoverExpired_on he]
    obtain ⟨hnone, halive, hgroups⟩ := ((s.advanceTo e).evt pgGrd 10).windowLost_safe
    obtain ⟨hsaf, hgrd⟩ := ((s.advanceTo e).evt pgGrd 10).windowLost_shown
    refine ⟨_, rfl, ?_, hnone, halive, ?_, hsaf, hgrd, State.windowLost_event (State.evt_set _ _ _ (by decide)), ?_⟩
    · rw [State.windowLost_mono, State.evt_mono, State.advanceTo_mono]
    · rw [hgroups, State.evt_safe, State.advanceTo_safe]
    · exact State.SameOutside.set_safe (State.closeWindow_same (State.evt_same (State.advanceTo_same (State.SameOutside.refl _ s) rfl)
        rfl rfl) rfl) rfl
  case refine_6 => rw [exec_handoverExpired_on hon, State.handoverExpired_off h]
  case refine_7 =>
    rw [exec_tapSilent_on hon, State.tapSilent_on hs hm h]
    exact ⟨s.tapLate, rfl, State.advanceTo_mono .., s.tapLate_count,
      State.finc_same (State.advanceTo_same (State.SameOutside.refl _ s) rfl) rfl rfl⟩
  case refine_8 => rw [exec_tapSilent_on hon, State.tapSilent_off h]
  case refine_9 =>
    rw [exec_matteSigCheck_on hon, State.matteSigCheck_good hr hh fun k hk hl => ?_]
    obtain ⟨hf, hv, he⟩ := h k hk hl
    exact ⟨hf, fun hw => hw.elim (fun e => by rw [hv] at e; cases e) fun e => e he⟩
  case refine_10 => rw [exec_matteSigCheck_on hon, State.matteSigCheck_bad hr hh h]
  case refine_11 =>
    rw [exec_ovlSigCheck_on hon, State.ovlSigCheck_on hr hh ht hk]
    refine ⟨s.ovlShown k.toNat sig.toNat, State.fsetB_same (State.SameOutside.refl _ s) rfl rfl, ?_, ?_⟩
    · rw [State.ovlShown, State.fsetB_fbit (by decide) rfl]
      simp only [State.ovlWrong, Bool.not_or, Bool.not_not, ne_eq, decide_not, beq_eq_decide]
    · exact congrArg Host.Outcome.next (if_congr State.ovlWrong_iff rfl rfl)
  case refine_12 =>
    obtain ⟨hsaf, hgrd⟩ := s.xinFallen_shown
    refine ⟨s.xinFallen, rfl, hsaf, hgrd, ?_, ?_⟩
    · exact State.fset_same (State.fset_same (State.SameOutside.set_safe (State.SameOutside.refl _ s) rfl) rfl rfl) rfl rfl
    · rw [exec_safeXinLow_on hon, State.xinLow_eq]

end Sys2Proof.Machine
end

section
/-! PROOFS. Feedback, the readbacks of the output stage, the self-test, SAFE_RESET and SAFE_XIN as they move the groups (R394 to
R396, R411, R412, R414, R415, R429). -/

namespace Sys2Proof.Machine

variable {s t : State} {g k : Nat} {f : Fld}

/-! ### Feedback (R394, R396, R412) -/

/-- A feedback input shows a level. -/
def State.fbShown (s : State) (g : Nat) (isOpen : Bool) : State := s.setGroup g { s.group g with fbOpen := isOpen, fbSince := s.mono }

/-- A group enters PERMIT: frames go on with a disturbance on record (R396). -/
def State.permitted (s : State) (g : Nat) : State :=
  let u := s.setGroup g { s.group g with state := .permit, since := s.mono, mid := true, outp := true }
  { u with time := { u.time with disturbed := true } }.evt pgSaf 9

@[simp] theorem State.fbShown_group_self (s : State) (g : Nat) (b : Bool) :
    (s.fbShown g b).group g = { s.group g with fbOpen := b, fbSince := s.mono } := State.setGroup_group_self ..

theorem State.fbShown_group_other {b : Bool} (h : k ≠ g) : (s.fbShown g b).group k = s.group k := State.setGroup_group_other h

theorem State.permitted_group (s : State) (g k : Nat) :
    (s.permitted g).group k =
      if g = k then { s.group g with state := .permit, since := s.mono, mid := true, outp := true } else s.group k := by
  unfold State.permitted
  rw [State.evt_group]
  exact State.setGroup_group ..

theorem State.permitted_time (s : State) (g : Nat) : (s.permitted g).time = { s.time with disturbed := true } := by
  unfold State.permitted
  rw [State.evt_time]
  rfl

theorem State.fbChange_closes {isOpen : Bool} (hs : (s.group g).state = .closing) (ho : isOpen = false) :
    s.fbChange g isOpen = ((s.fbShown g false).permitted g).statusIfMoved (s.fbShown g false) := by
  subst ho
  have hc : ((s.fbShown g false).group g).state = .closing := by rwa [State.fbShown_group_self]
  exact if_pos (show (decide (((s.fbShown g false).group g).state = .closing) && !false) = true by rw [hc]; rfl)

theorem State.fbChange_judged {isOpen : Bool} (h : (s.group g).state ≠ .closing ∨ isOpen = true) :
    s.fbChange g isOpen = (s.fbShown g isOpen).evalGroups := by
  refine if_neg ?_
  have hc : ((s.fbShown g isOpen).group g).state = (s.group g).state := by rw [State.fbShown_group_self]
  rw [← State.fbShown, hc]
  rcases h with h | h <;> simp [h]

/-- Feedback that shows open ends OPENING in SAFE, from where the conditions of READY go on (R394, R395). -/
theorem State.evalGroups_opened (hg : g < 4) (hs : (s.group g).state = .opening) (hf : (s.group g).fbOpen = true)
    (hc : (s.group g).lockCause = 0) : (s.evalGroups.group g).state = .safe ∨ (s.evalGroups.group g).state = .ready := by
  have hj := State.evalGroups_group (s := s) hg
  unfold openView at hj
  rw [State.groupView_fst, if_pos (by simp [hs, hf]), if_pos hc] at hj
  exact hj.state (.inl rfl)

/-- A lockout cause that has met a group in OPENING ends it in LOCKOUT (R394). -/
theorem State.evalGroups_locked (hg : g < 4) (hs : (s.group g).state = .opening) (hf : (s.group g).fbOpen = true)
    (hc : (s.group g).lockCause ≠ 0) : (s.evalGroups.group g).state = .lockout ∧
      s.evalGroups.fget pgSaf (SAF.LOCK_CAUSE.CAUSE g) = (s.group g).lockCause % 32 := by
  have hj := State.evalGroups_group (s := s) hg
  have hv := State.evalGroups_cause (s := s) hg
  unfold openView at hj hv
  rw [State.groupView_fst, if_pos (by simp [hs, hf]), if_neg hc] at hj hv
  refine ⟨?_, hv⟩
  rw [hj.eq (by simp [GroupSt.locked]) (by simp [GroupSt.locked])]
  rfl

theorem State.fbDisagree_on (he : s.groupEn g = true) (h : (s.group g).state = .permit ∧ (s.group g).fbOpen = true ∨
    (s.group g).state = .safe ∧ (s.group g).fbOpen = false) :
    s.fbDisagree g = (s.advanceTo (max (s.group g).fbSince (s.group g).since + 10000000)).tripWith true 12 (1 <<< g) := by
  unfold State.fbDisagree
  refine if_pos ?_
  rcases h with ⟨hs, hf⟩ | ⟨hs, hf⟩ <;> simp [he, hs, hf]

theorem State.fbDisagree_off (h : s.groupEn g = false ∨ ((s.group g).state = .permit → (s.group g).fbOpen = false) ∧
    ((s.group g).state = .safe → (s.group g).fbOpen = true)) : s.fbDisagree g = s := by
  unfold State.fbDisagree
  refine if_neg ?_
  rcases h with h | ⟨hp, hsafe⟩
  · simp [h]
  · simp only [Bool.and_eq_true, Bool.or_eq_true, decide_eq_true_eq, Bool.not_eq_true']
    rintro ⟨-, ⟨hs, hf⟩ | ⟨hs, hf⟩⟩
    · rw [hp hs] at hf
      cases hf
    · rw [hsafe hs] at hf
      cases hf

theorem State.fbCloseTimeout_on (h : (s.group g).state = .closing) :
    s.fbCloseTimeout g = ((s.advanceTo ((s.group g).since + s.fget pgSaf SAF.FB_TIMING.FB_CLOSE_MS * 1000000)).tripWith true 12
      (1 <<< g)).evalGroups := if_pos h

theorem State.fbCloseTimeout_off (h : (s.group g).state ≠ .closing) : s.fbCloseTimeout g = s := if_neg h

theorem State.fbOpenTimeout_on (hs : (s.group g).state = .opening) (hf : (s.group g).fbOpen = false) :
    s.fbOpenTimeout g =
      ((s.advanceTo ((s.group g).since + s.fget pgSaf SAF.FB_TIMING.FB_OPEN_MS * 1000000)).enterLockout g 12).statusIfMoved s :=
  if_pos (by simp [hs, hf])

theorem State.fbOpenTimeout_off (h : (s.group g).state ≠ .opening ∨ (s.group g).fbOpen = true) : s.fbOpenTimeout g = s :=
  if_neg (by rcases h with h | h <;> simp [h])

/-- A group that is locked out, and what a STATUS frame that follows leaves of it. -/
theorem State.enterLockout_shown (hg : g < 4) {cause : Nat} (hc : cause < 32) (old : State) :
    ((s.enterLockout g cause).statusIfMoved old).group g = (s.group g).locked s.mono ∧
      ((s.enterLockout g cause).statusIfMoved old).fget pgSaf (SAF.LOCK_CAUSE.CAUSE g) = cause := by
  have hv : ((s.enterLockout g cause).statusIfMoved old).groupView g = ((s.group g).locked s.mono, cause % 32) := by
    rw [State.statusIfMoved_view hg, State.enterLockout_view hg hg, if_pos rfl]
  exact ⟨congrArg Prod.fst hv, (congrArg Prod.snd hv).trans (Nat.mod_eq_of_lt hc)⟩

theorem State.enterLockout_mono (s : State) (g c : Nat) : (s.enterLockout g c).mono = s.mono :=
  State.enterLockout_same (m := 70370893758464) (State.SameOutside.refl _ s) rfl .mono (by decide)

theorem State.statusIfMoved_mono (s old : State) : (s.statusIfMoved old).mono = s.mono :=
  State.statusIfMoved_same (m := 70370893758464) (State.SameOutside.refl _ s) rfl .mono (by decide)

/-! ### The output stage (R411) -/

/-- The readbacks of a group that is off. -/
def State.readBack (s : State) (g : Nat) (mid outp : Bool) : State := s.setGroup g { s.group g with mid := mid, outp := outp }

theorem State.testPulse_on {mid outp : Bool} {coil : Nat} (h : (s.group g).state = .closing ∨ (s.group g).state = .permit) :
    s.testPulse g mid outp coil =
      if outp = true ∨ coil < 5 then (s.tripWith true 13 (1 <<< g)).evalGroups else s := by
  refine (if_pos (by simpa using h)).trans (if_congr ?_ rfl rfl)
  simp

theorem State.testPulse_off {mid outp : Bool} {coil : Nat} (hc : (s.group g).state ≠ .closing) (hp : (s.group g).state ≠ .permit) :
    s.testPulse g mid outp coil =
      (if mid = true ∨ outp = true then (s.readBack g mid outp).tripWith true 13 (1 <<< g) else s.readBack g mid outp).evalGroups := by
  refine (if_neg (by simp [hc, hp])).trans (congrArg State.evalGroups (if_congr ?_ rfl rfl))
  simp

/-! ### The self-test (R394, R429) -/

theorem State.selfTestStart_on (hs : (s.group g).state = .start) (ht : (s.group g).testing = none) (he : s.groupEn g = true)
    (hok : s.fbit pgGrd GRD.STAT.SAF_OK = true) : s.selfTestStart g = s.setGroup g { s.group g with testing := some s.mono } :=
  if_pos (by simp [hs, ht, he, hok])

theorem State.selfTestStart_off (h : (s.group g).state ≠ .start ∨ (s.group g).testing.isSome = true ∨ s.groupEn g = false ∨
    s.fbit pgGrd GRD.STAT.SAF_OK = false) : s.selfTestStart g = s := by
  refine if_neg ?_
  rcases h with h | h | h | h
  · simp [h]
  · simp [Option.isNone_eq_false_iff.mpr h]
  · simp [h]
  · simp [h]

/-- The end of a self-test, before its outcome. -/
def State.testEnded (s : State) (g : Nat) : State := s.setGroup g { s.group g with testing := none }

/-- The two pins of every enabled input agree (R429). -/
def State.pinsAgree (s : State) : Bool := (List.range 4).all (fun n => !s.inEn n || (s.input n).pinA = (s.input n).pinB)

/-- A group that has passed its self-test (R394). -/
def State.testPassed (s : State) (g : Nat) : State :=
  s.setGroup g { s.group g with state := .safe, since := s.mono, mid := false, outp := false }

theorem State.selfTestDone_off {ok : Bool} (h : (s.group g).testing = none ∨ (s.group g).state ≠ .start) :
    s.selfTestDone g ok = s := by
  refine if_pos ?_
  rcases h with h | h <;> simp [h]

theorem State.selfTestDone_on {ok : Bool} (ht : (s.group g).testing.isSome = true) (hs : (s.group g).state = .start) :
    s.selfTestDone g ok = if ok && (s.group g).fbOpen && s.pinsAgree then
        (((s.testEnded g).testPassed g).statusIfMoved (s.testEnded g)).evalGroups
      else ((s.testEnded g).enterLockout g 19).statusIfMoved (s.testEnded g) := by
  refine (if_neg ?_).trans rfl
  simp [Option.isNone_eq_false_iff.mpr ht, hs]

/-- A passed self-test leads to SAFE, from where the conditions of READY go on. -/
theorem State.testPassed_judged (hg : g < 4) (old : State) :
    ({ s.group g with state := .safe, since := s.mono, mid := false, outp := false } : GroupSt).Judged
      ((((s.testPassed g).statusIfMoved old).evalGroups).group g) := by
  have hj := State.evalGroups_group (s := (s.testPassed g).statusIfMoved old) hg
  have hgr : ((s.testPassed g).statusIfMoved old).group g =
      { s.group g with state := .safe, since := s.mono, mid := false, outp := false } := by
    rw [State.statusIfMoved_group]
    exact State.setGroup_group_self ..
  rwa [openView_closed (.inl (by rw [State.groupView_fst, hgr]; simp)), State.groupView_fst, hgr] at hj

/-! ### SAFE_RESET (R414, R415) -/

/-- The pin shows low, and the pulse has ended. -/
def State.pulseEnded (s : State) : State :=
  { s.fsetB pgSaf SAF.IN_STAT.RESET_PIN false with
    safe := { s.safe with rstHigh := false, rstFall := s.mono, rstQual := false } }

theorem State.resetFallen_eq (s : State) :
    s.resetFallen = if 3000000000 < s.mono - s.safe.rstRise && !s.safe.rstRejected then
      (s.pulseEnded.finc pgSaf SAF.RESET_CNT.REJECTED).evt pgSaf 14 else s.pulseEnded := rfl

theorem State.pulseEnded_fget (s : State) (p : Nat) (f : Fld) :
    s.pulseEnded.fget p f = (s.fsetB pgSaf SAF.IN_STAT.RESET_PIN false).fget p f := State.fget_of_pages rfl p f

theorem State.resetFallen_safe (s : State) :
    s.resetFallen.safe = { s.safe with rstHigh := false, rstFall := s.mono, rstQual := false } := by
  rw [State.resetFallen_eq]
  split
  · rw [State.evt_safe]
    rfl
  · rfl

theorem State.resetFallen_pin (s : State) : s.resetFallen.fbit pgSaf SAF.IN_STAT.RESET_PIN = false := by
  have hset : s.pulseEnded.fbit pgSaf SAF.IN_STAT.RESET_PIN = false :=
    (State.fbit_of_fget (s.pulseEnded_fget ..)).trans (State.fsetB_fbit (by decide) rfl s pgSaf false)
  rw [State.resetFallen_eq]
  split
  · rw [State.evt_fbit]
    exact (State.fbit_of_fget (State.finc_fget_apart (by decide))).trans hset
  · exact hset

/-- A high of more than 3 s that has not been told yet is rejected at its fall (R414). -/
theorem State.resetFallen_rejected (hl : s.safe.rstRise + 3000000000 < s.mono) (hr : s.safe.rstRejected = false) :
    (s.resetFallen.hdr pgSaf).evt.getLsbD 14 = true ∧
      s.resetFallen.fget pgSaf SAF.RESET_CNT.REJECTED = min (s.fget pgSaf SAF.RESET_CNT.REJECTED + 1) 65535 := by
  have hc : (decide (3000000000 < s.mono - s.safe.rstRise) && !s.safe.rstRejected) = true := by
    rw [hr, Bool.not_false, Bool.and_true, decide_eq_true_eq]
    omega
  rw [State.resetFallen_eq, if_pos hc]
  refine ⟨State.evt_set _ _ _ (by decide), ?_⟩
  rw [State.evt_fget, State.finc_fget (by decide), State.pulseEnded_fget, State.fsetB_fget_apart (by decide)]
  rfl

/-- The loop of a restart changes groups and nothing else. -/
theorem State.restart_loop_else (l : List Nat) (s : State) :
    s.safe.SameElse (l.foldl (fun s g => s.setGroup g ((s.group g).closes s.mono)) s).safe :=
  List.foldlRecOn l _ (motive := fun u : State => s.safe.SameElse u.safe) (SafeSt.SameElse.refl _)
    fun u hu a _ => hu.trans (u.setGroup_else a _)

theorem State.restart_else (s : State) (groups : Nat) : s.safe.SameElse (s.restart groups).safe := by
  unfold State.restart
  have hinc : s.safe.SameElse (s.finc pgSaf SAF.RESET_CNT.QUALIFIED).safe := SafeSt.SameElse.refl _
  exact (hinc.trans (State.restart_loop_else ..)).trans (State.statusIfMoved_else ..)

theorem State.restart_fget (h : SAF.RESET_CNT.QUALIFIED.Apart f) (h' : SAF.TX_STAT.SEQ.Apart f) (groups p : Nat) :
    (s.restart groups).fget p f = s.fget p f := by
  unfold State.restart
  rw [State.statusIfMoved_fget h']
  exact List.foldlRecOn _ _ (motive := fun u : State => u.fget p f = s.fget p f) (State.finc_fget_apart h) fun _ hu _ _ => hu

theorem State.resetEdge_pin (s : State) (high : Bool) : (s.resetEdge high).fbit pgSaf SAF.IN_STAT.RESET_PIN = high := by
  by_cases h : high = s.safe.rstHigh
  · rw [State.resetEdge_again h]
    exact State.fsetB_fbit (by decide) rfl s pgSaf high
  · cases high
    · rw [State.resetEdge_fall (by simpa using h)]
      split
      · exact (State.fbit_of_fget (State.restart_fget (by decide) (by decide) _ _)).trans s.resetFallen_pin
      · exact s.resetFallen_pin
    · rw [State.resetEdge_rise (by simpa using h)]
      exact State.fsetB_fbit (by decide) rfl s pgSaf true

/-- After a fall the pulse has ended now, and nothing is qualified any more. -/
theorem State.resetEdge_fall_safe (h : s.safe.rstHigh = true) :
    (s.resetEdge false).safe.rstHigh = false ∧ (s.resetEdge false).safe.rstFall = s.mono := by
  rw [State.resetEdge_fall h]
  split
  · rw [State.restart_else, State.resetFallen_safe]
    exact ⟨rfl, rfl⟩
  · rw [State.resetFallen_safe]
    exact ⟨rfl, rfl⟩

theorem State.resetEdge_high (s : State) (high : Bool) : (s.resetEdge high).safe.rstHigh = high := by
  by_cases h : high = s.safe.rstHigh
  · rw [State.resetEdge_again h]
    exact h.symm
  · cases high
    · exact (State.resetEdge_fall_safe (by simpa using h)).1
    · rw [State.resetEdge_rise (by simpa using h)]

/-- A pulse that is rejected at its fall restarts nothing. -/
theorem State.resetEdge_fall_rejected (h : s.safe.rstHigh = true) (hl : s.safe.rstRise + 3000000000 < s.mono) :
    s.resetEdge false = s.resetFallen := by
  rw [State.resetEdge_fall h, if_neg]
  simp only [State.resetQualified, Bool.and_eq_true, decide_eq_true_eq]
  omega

/-- At an instant SAFE_RESET has been high for too long (R414). -/
def State.highTooLong (s : State) (i : Nat) : State :=
  { s.advanceTo i with safe := { (s.advanceTo i).safe with rstRejected := true } }

theorem State.highTooLong_safe (s : State) (i : Nat) : (s.highTooLong i).safe = { s.safe with rstRejected := true } := by
  unfold State.highTooLong
  dsimp only
  rw [State.advanceTo_safe]

theorem State.highTooLong_mono (s : State) (i : Nat) : (s.highTooLong i).mono = max s.mono i := State.advanceTo_mono ..

theorem State.highTooLong_fget (s : State) (i p : Nat) (f : Fld) : (s.highTooLong i).fget p f = s.fget p f :=
  (State.fget_of_pages (s := s.advanceTo i) rfl p f).trans (State.advanceTo_fget ..)

theorem State.resetRejected_on (hh : s.safe.rstHigh = true) (hr : s.safe.rstRejected = false) :
    s.resetRejected = ((s.highTooLong (s.safe.rstRise + 3000000001)).finc pgSaf SAF.RESET_CNT.REJECTED).evt pgSaf 14 := if_pos (by simp [hh, hr])

theorem State.resetRejected_off (h : s.safe.rstHigh = false ∨ s.safe.rstRejected = true) : s.resetRejected = s :=
  if_neg (by rcases h with h | h <;> simp [h])

/-- SAFE_RESET has been low for its 50 ms at an instant (R395). -/
def State.lowHeld (s : State) (i : Nat) : State :=
  { s.advanceTo i with safe := { (s.advanceTo i).safe with rstLowHeld := true } }

theorem State.lowHeld_safe (s : State) (i : Nat) : (s.lowHeld i).safe = { s.safe with rstLowHeld := true } := by
  unfold State.lowHeld
  dsimp only
  rw [State.advanceTo_safe]

theorem State.lowHeld_mono (s : State) (i : Nat) : (s.lowHeld i).mono = max s.mono i := State.advanceTo_mono ..

theorem State.resetLowHeld_on (h : s.safe.rstHigh = false) :
    s.resetLowHeld = (s.lowHeld (s.safe.rstFall + 50000000)).evalGroups := if_neg (by simp [h])

theorem State.resetLowHeld_off (h : s.safe.rstHigh = true) : s.resetLowHeld = s := if_pos h

/-- SAFE_XIN is high (R395). -/
def State.xinRisen (s : State) : State :=
  ({ s with safe := { s.safe with xinHigh := true } }.fset pgSaf SAF.IN_STAT.XIN 1).fset pgGrd GRD.STAT.XIN 1

theorem State.xinUp_eq (s : State) : s.xinUp = s.xinRisen.evalGroups := rfl

theorem State.xinRisen_shown (s : State) :
    s.xinRisen.fget pgSaf SAF.IN_STAT.XIN = 1 ∧ s.xinRisen.fget pgGrd GRD.STAT.XIN = 1 := by
  unfold State.xinRisen
  rw [State.fset_fget_apart (by decide), State.fset_fget (by decide) (by decide), State.fset_fget (by decide) (by decide)]
  exact ⟨rfl, rfl⟩

/-! ### The statement -/

section
variable (hon : s.boot.powered = true)
include hon

theorem exec_fbChange_on (g : Fin 4) (isOpen : Bool) : exec (.fbChange g isOpen) s = .next (s.fbChange g isOpen) :=
  congrArg Host.Outcome.next (State.live_on hon _)

theorem exec_fbDisagree_on (g : Fin 4) : exec (.fbDisagree g) s = .next (s.fbDisagree g) :=
  congrArg Host.Outcome.next (State.live_on hon _)

theorem exec_fbCloseTimeout_on (g : Fin 4) : exec (.fbCloseTimeout g) s = .next (s.fbCloseTimeout g) :=
  congrArg Host.Outcome.next (State.live_on hon _)

theorem exec_fbOpenTimeout_on (g : Fin 4) : exec (.fbOpenTimeout g) s = .next (s.fbOpenTimeout g) :=
  congrArg Host.Outcome.next (State.live_on hon _)

theorem exec_testPulse_on (g : Fin 4) (mid outp : Bool) (coil : Nat) :
    exec (.testPulse g mid outp coil) s = .next (s.testPulse g mid outp coil) :=
  congrArg Host.Outcome.next (State.live_on hon _)

theorem exec_selfTestStart_on (g : Fin 4) : exec (.selfTestStart g) s = .next (s.selfTestStart g) :=
  congrArg Host.Outcome.next (State.live_on hon _)

theorem exec_selfTestDone_on (g : Fin 4) (ok : Bool) : exec (.selfTestDone g ok) s = .next (s.selfTestDone g ok) :=
  congrArg Host.Outcome.next (State.live_on hon _)

theorem exec_safeResetEdge_on (high : Bool) : exec (.safeResetEdge high) s = .next (s.resetEdge high) :=
  congrArg Host.Outcome.next (State.live_on hon _)

theorem exec_resetRejected_on : exec .resetRejected s = .next s.resetRejected := congrArg Host.Outcome.next (State.live_on hon _)

theorem exec_safeResetLowHeld_on : exec .safeResetLowHeld s = .next s.resetLowHeld :=
  congrArg Host.Outcome.next (State.live_on hon _)

theorem exec_safeXinHigh_on : exec .safeXinHigh s = .next s.xinUp.settle := congrArg Host.Outcome.next (State.live_on hon _)

/-- FB_CHANGE as the group and the conditions of READY take it. -/
theorem fbChange_moves (g : Fin 4) (isOpen : Bool) :
    ((s.group g).state = .closing → isOpen = false → ∃ t : State, exec (.fbChange g isOpen) s = .next t ∧
        t.group g = { s.group g with fbOpen := false, fbSince := s.mono, state := .permit, since := s.mono,
                                     mid := true, outp := true } ∧
        (∀ h, h ≠ g.val → t.group h = s.group h) ∧ (t.hdr pgSaf).evt.getLsbD 9 = true ∧
        t.time = { s.time with disturbed := true } ∧ State.SameBut [.time, .safe, .out, .page .saf] s t) ∧
      ((s.group g).state ≠ .closing ∨ isOpen = true → ∃ u : State, exec (.fbChange g isOpen) s = .next u.evalGroups ∧
        u.group g = { s.group g with fbOpen := isOpen, fbSince := s.mono } ∧
        (∀ h, h ≠ g.val → u.group h = s.group h) ∧ State.SameBut [.safe] s u ∧
        ((s.group g).state = .opening → isOpen = true →
          ((s.group g).lockCause = 0 → (u.evalGroups.group g).state = .safe ∨ (u.evalGroups.group g).state = .ready) ∧
          ((s.group g).lockCause ≠ 0 → (u.evalGroups.group g).state = .lockout ∧
            u.evalGroups.fget pgSaf (SAF.LOCK_CAUSE.CAUSE g) = (s.group g).lockCause % 32))) := by
  rw [exec_fbChange_on hon]
  refine ⟨fun hs ho => ?_, fun h => ?_⟩
  · rw [State.fbChange_closes hs ho]
    refine ⟨_, rfl, ?_, fun k hk => ?_, ?_, ?_, ?_⟩
    · rw [State.statusIfMoved_group, State.permitted_group, if_pos rfl, State.fbShown_group_self]
      rfl
    · rw [State.statusIfMoved_group, State.permitted_group, if_neg fun e => hk e.symm, State.fbShown_group_other hk]
    · rw [State.statusIfMoved_hdr]
      exact State.evt_set _ _ _ (by decide)
    · have ht : ((s.fbShown g false).permitted g |>.statusIfMoved (s.fbShown g false)).time = ((s.fbShown g false).permitted g).time :=
        State.statusIfMoved_same (m := 70370893758464) (State.SameOutside.refl _ _) rfl .time (by decide)
      rw [ht, State.permitted_time]
      rfl
    · refine State.statusIfMoved_same (State.evt_same (State.SameOutside.set_time ?_ rfl) rfl rfl) rfl
      exact State.setGroup_same (State.setGroup_same (State.SameOutside.refl _ s) rfl) rfl
  · rw [State.fbChange_judged h]
    have hself := State.fbShown_group_self s g isOpen
    refine ⟨_, rfl, hself, fun k hk => State.fbShown_group_other hk, State.setGroup_same (State.SameOutside.refl _ s) rfl,
      fun hs ho => ⟨fun hc => ?_, fun hc => ?_⟩⟩
    · exact State.evalGroups_opened g.isLt (by rw [hself]; exact hs) (by rw [hself]; exact ho) (by rw [hself]; exact hc)
    · obtain ⟨hst, hcause⟩ := State.evalGroups_locked (s := s.fbShown g isOpen) g.isLt (by rw [hself]; exact hs)
        (by rw [hself]; exact ho) (by rw [hself]; exact hc)
      exact ⟨hst, by rw [hcause, hself]⟩

/-- The ways in which feedback that disagrees or is late acts. -/
theorem feedback_trips (g : Fin 4) :
    (s.groupEn g = true → ((s.group g).state = .permit ∧ (s.group g).fbOpen = true ∨
        (s.group g).state = .safe ∧ (s.group g).fbOpen = false) → ∃ u : State,
      exec (.fbDisagree g) s = .next (u.tripWith true 12 (1 <<< g.val)) ∧
      u.mono = max s.mono (max (s.group g).fbSince (s.group g).since + 10000000) ∧ State.SameBut [.mono, .time] s u) ∧
    (s.groupEn g = false ∨ ((s.group g).state = .permit → (s.group g).fbOpen = false) ∧
        ((s.group g).state = .safe → (s.group g).fbOpen = true) → exec (.fbDisagree g) s = .next s) ∧
    ((s.group g).state = .closing → ∃ u : State,
      exec (.fbCloseTimeout g) s = .next (u.tripWith true 12 (1 <<< g.val)).evalGroups ∧
      u.mono = max s.mono ((s.group g).since + s.fget pgSaf SAF.FB_TIMING.FB_CLOSE_MS * 1000000) ∧
      State.SameBut [.mono, .time] s u) ∧
    ((s.group g).state ≠ .closing → exec (.fbCloseTimeout g) s = .next s) ∧
    ((s.group g).state = .opening → (s.group g).fbOpen = false → ∃ t : State,
      exec (.fbOpenTimeout g) s = .next t ∧ (t.group g).state = .lockout ∧ (t.group g).swA = false ∧
      (t.group g).swB = false ∧ t.fget pgSaf (SAF.LOCK_CAUSE.CAUSE g) = 12 ∧
      t.mono = max s.mono ((s.group g).since + s.fget pgSaf SAF.FB_TIMING.FB_OPEN_MS * 1000000) ∧
      (∀ h, h ≠ g.val → t.group h = s.group h) ∧ State.SameBut [.mono, .time, .safe, .out, .page .saf] s t) ∧
    ((s.group g).state ≠ .opening ∨ (s.group g).fbOpen = true → exec (.fbOpenTimeout g) s = .next s) := by
  rw [exec_fbDisagree_on hon, exec_fbCloseTimeout_on hon, exec_fbOpenTimeout_on hon]
  have hadv (i : Nat) : State.SameBut [.mono, .time] s (s.advanceTo i) := State.advanceTo_same (State.SameOutside.refl _ s) rfl
  refine ⟨fun he h => ?_, fun h => ?_, fun h => ?_, fun h => ?_, fun hs hf => ?_, fun h => ?_⟩
  · rw [State.fbDisagree_on he h]
    exact ⟨_, rfl, State.advanceTo_mono .., hadv _⟩
  · rw [State.fbDisagree_off h]
  · rw [State.fbCloseTimeout_on h]
    exact ⟨_, rfl, State.advanceTo_mono .., hadv _⟩
  · rw [State.fbCloseTimeout_off h]
  · rw [State.fbOpenTimeout_on hs hf]
    generalize hi : (s.group g).since + s.fget pgSaf SAF.FB_TIMING.FB_OPEN_MS * 1000000 = i
    obtain ⟨hgr, hcause⟩ := State.enterLockout_shown (s := s.advanceTo i) g.isLt (cause := 12) (by decide) s
    refine ⟨_, rfl, ?_, ?_, ?_, hcause, ?_, fun k hk => ?_, ?_⟩
    · rw [hgr]
      rfl
    · rw [hgr]
      rfl
    · rw [hgr]
      rfl
    · rw [State.statusIfMoved_mono, State.enterLockout_mono, State.advanceTo_mono]
    · rw [State.statusIfMoved_group, State.enterLockout_group, if_neg fun e => hk e.symm]
      exact State.group_of_safe (congrArg SafeSt.groups (s.advanceTo_safe i)) k
    · exact State.statusIfMoved_same (State.enterLockout_same (State.advanceTo_same (State.SameOutside.refl _ s) rfl) rfl) rfl
  · rw [State.fbOpenTimeout_off h]

/-- The end of a self-test. -/
theorem selfTestDone_moves (g : Fin 4) (ok : Bool) :
    ((s.group g).testing = none ∨ (s.group g).state ≠ .start → exec (.selfTestDone g ok) s = .next s) ∧
      ((s.group g).testing.isSome = true → (s.group g).state = .start → ∃ t : State,
        exec (.selfTestDone g ok) s = .next t ∧ (t.group g).testing = none ∧
        (ok = true → (s.group g).fbOpen = true →
          (∀ n, n < 4 → s.inEn n = true → (s.input n).pinA = (s.input n).pinB) →
          (t.group g).state = .safe ∨ (t.group g).state = .ready) ∧
        (ok = false ∨ (s.group g).fbOpen = false →
          (t.group g).state = .lockout ∧ t.fget pgSaf (SAF.LOCK_CAUSE.CAUSE g) = 19) ∧
        State.SameBut [.safe, .out, .page .saf] s t) := by
  rw [exec_selfTestDone_on hon]
  refine ⟨fun h => by rw [State.selfTestDone_off h], fun ht hs => ?_⟩
  have hended : (s.testEnded g).group g = { s.group g with testing := none } := State.setGroup_group_self ..
  rw [State.selfTestDone_on ht hs]
  split
  · next hc =>
    obtain ⟨⟨hok, hfb⟩, -⟩ : (ok = true ∧ (s.group g).fbOpen = true) ∧ s.pinsAgree = true := by simpa using hc
    have hj := State.testPassed_judged (s := s.testEnded g) g.isLt (s.testEnded g)
    refine ⟨_, rfl, ?_, fun _ _ _ => hj.state (.inl rfl), ?_, ?_⟩
    · rcases hj with e | ⟨-, -, e⟩ <;> rw [e, hended]
    · rw [hok, hfb]
      rintro (e | e) <;> cases e
    · exact State.evalGroups_same (State.statusIfMoved_same (State.setGroup_same (State.setGroup_same (State.SameOutside.refl _ s)
        rfl) rfl) rfl) rfl
  · next hc =>
    obtain ⟨hgr, hcause⟩ := State.enterLockout_shown (s := s.testEnded g) g.isLt (cause := 19) (by decide) (s.testEnded g)
    refine ⟨_, rfl, ?_, fun hok hfb hpins => ?_, fun _ => ⟨?_, hcause⟩, ?_⟩
    · rw [hgr, hended]
      rfl
    · refine absurd ?_ hc
      have hagree : s.pinsAgree = true := by
        refine List.all_eq_true.mpr fun n hn => ?_
        cases he : s.inEn n with
        | false => rfl
        | true => simpa using hpins n (List.mem_range.mp hn) he
      rw [hok, hfb, hagree]
      rfl
    · rw [hgr]
      rfl
    · exact State.statusIfMoved_same (State.enterLockout_same (State.setGroup_same (State.SameOutside.refl _ s) rfl) rfl) rfl

/-- An edge of SAFE_RESET. -/
theorem safeResetEdge_moves (high : Bool) :
    ∃ t : State, exec (.safeResetEdge high) s = .next t ∧
      t.fbit pgSaf SAF.IN_STAT.RESET_PIN = high ∧ t.safe.rstHigh = high ∧
      (high = s.safe.rstHigh → t.safe = s.safe) ∧
      (high = true → s.safe.rstHigh = false → t.safe.rstRise = s.mono ∧ t.safe.rstReady = s.groupsIn .ready ∧
        t.safe.rstQual = s.resetLowLong ∧ t.safe.rstRejected = false ∧ t.safe.groups = s.safe.groups) ∧
      (high = false → s.safe.rstHigh = true → t.safe.rstFall = s.mono ∧
        (∀ g, t.group g =
          if s.safe.rstQual = true ∧ s.safe.rstRejected = false ∧ s.safe.rstRise + 50000000 ≤ s.mono ∧
            s.mono ≤ s.safe.rstRise + 3000000000 ∧ g < 4 ∧ bit s.safe.rstReady g = true ∧ (s.group g).state = .ready then
            { s.group g with state := .closing, since := s.mono, swA := true, swB := true }
          else s.group g) ∧
        (s.safe.rstRise + 3000000000 < s.mono → s.safe.rstRejected = false → (t.hdr pgSaf).evt.getLsbD 14 = true ∧
          t.fget pgSaf SAF.RESET_CNT.REJECTED = min (s.fget pgSaf SAF.RESET_CNT.REJECTED + 1) 65535)) ∧
      State.SameBut [.safe, .out, .page .saf] s t := by
  refine ⟨s.resetEdge high, exec_safeResetEdge_on hon high, s.resetEdge_pin high, s.resetEdge_high high, fun h => ?_, fun hh hl => ?_,
    fun hl hh => ?_, State.resetEdge_same (State.SameOutside.refl _ s) rfl⟩
  · rw [State.resetEdge_again h]
    rfl
  · subst hh
    rw [State.resetEdge_rise hl]
    exact ⟨rfl, rfl, rfl, rfl, rfl⟩
  · subst hl
    refine ⟨(State.resetEdge_fall_safe hh).2, fun g => ?_, fun hlong hr => ?_⟩
    · rw [State.resetEdge_fall_group hh]
      refine if_congr ?_ rfl rfl
      simp only [State.resetQualified, Bool.and_eq_true, Bool.not_eq_true', decide_eq_true_eq]
      constructor
      · rintro ⟨⟨⟨⟨hq, hr⟩, hlo⟩, hhi⟩, hrest⟩
        exact ⟨hq, hr, by omega, by omega, hrest⟩
      · rintro ⟨hq, hr, hlo, hhi, hrest⟩
        exact ⟨⟨⟨⟨hq, hr⟩, by omega⟩, by omega⟩, hrest⟩
    · rw [State.resetEdge_fall_rejected hh hlong]
      exact State.resetFallen_rejected hlong hr

end

/-- Settles O48: feedback, readbacks, self-test, SAFE_RESET and SAFE_XIN, one by one. -/
theorem feedbackAndRestartMoveGroups : Obligations.FeedbackAndRestartMoveGroups := by
  unfold Obligations.FeedbackAndRestartMoveGroups
  intro s hon
  refine ⟨fbChange_moves hon, feedback_trips hon, fun g mid outp coil => ⟨fun h => ?_, fun hc hp => ?_⟩,
    fun g => ⟨fun hs ht he hok => ?_, fun h => ?_, selfTestDone_moves hon g⟩, safeResetEdge_moves hon, fun hh hr => ?_, fun h => ?_,
    fun h => ?_, fun h => ?_, ?_⟩
  case refine_1 => rw [exec_testPulse_on hon, State.testPulse_on h]
  case refine_2 =>
    rw [exec_testPulse_on hon, State.testPulse_off hc hp]
    exact ⟨_, State.setGroup_group_self .., fun k hk => State.setGroup_group_other hk,
      State.setGroup_same (State.SameOutside.refl _ s) rfl, rfl⟩
  case refine_3 =>
    rw [exec_selfTestStart_on hon, State.selfTestStart_on hs ht he hok]
    exact ⟨_, rfl, State.setGroup_group_self .., fun k hk => State.setGroup_group_other hk,
      State.setGroup_same (State.SameOutside.refl _ s) rfl⟩
  case refine_4 => rw [exec_selfTestStart_on hon, State.selfTestStart_off h]
  case refine_5 =>
    rw [exec_resetRejected_on hon, State.resetRejected_on hh hr]
    refine ⟨_, rfl, ?_, ?_, ?_, State.evt_set _ _ _ (by decide), ?_⟩
    · rw [State.evt_mono, State.finc_mono, State.highTooLong_mono]
    · rw [State.evt_safe, State.finc_safe, State.highTooLong_safe]
    · rw [State.evt_fget, State.finc_fget (by decide), State.highTooLong_fget]
      rfl
    · exact State.evt_same (State.finc_same (State.SameOutside.set_safe (State.advanceTo_same (State.SameOutside.refl _ s) rfl) rfl)
        rfl rfl) rfl rfl
  case refine_6 => rw [exec_resetRejected_on hon, State.resetRejected_off h]
  case refine_7 =>
    rw [exec_safeResetLowHeld_on hon, State.resetLowHeld_on h]
    exact ⟨_, rfl, s.lowHeld_mono _, s.lowHeld_safe _,
      State.SameOutside.set_safe (State.advanceTo_same (State.SameOutside.refl _ s) rfl) rfl⟩
  case refine_8 => rw [exec_safeResetLowHeld_on hon, State.resetLowHeld_off h]
  case refine_9 =>
    obtain ⟨hsaf, hgrd⟩ := s.xinRisen_shown
    rw [exec_safeXinHigh_on hon, State.xinUp_eq]
    exact ⟨s.xinRisen, rfl, rfl, hsaf, hgrd,
      State.fset_same (State.fset_same (State.SameOutside.set_safe (State.SameOutside.refl _ s) rfl) rfl rfl) rfl rfl⟩

end Sys2Proof.Machine
end

section
/-! PROOFS. The commands of SAF and the ALIVE write: CLEAR_LOCKOUT, the handover window, and the count that shows that SAF runs
(R422, R423, R425, R427). -/

namespace Sys2Proof.Machine

variable {s t : State} {g k p m groups : Nat} {f : Fld}

/-! ### What ends a command -/

theorem State.ended_safe {x : Out} : ((s.cmdDone p).emit x).safe = s.safe := by rw [State.emit_safe, State.cmdDone_safe]

theorem State.ended_group {x : Out} (g : Nat) : ((s.cmdDone p).emit x).group g = s.group g :=
  State.group_of_safe (congrArg SafeSt.groups State.ended_safe) g

theorem State.safStarted_same (s : State) (op arg m : Nat) : State.SameBut [.page .saf] s (s.cmdStart pgSaf op arg m) :=
  State.cmdStart_same (State.SameOutside.refl _ s) rfl (pageMask_saf rfl)

/-- A flag that stands on a page stays while the groups are judged. -/
theorem State.evalGroups_keeps (h : (s.hdr p).evt.getLsbD k = true) : (s.evalGroups.hdr p).evt.getLsbD k = true := by
  have hopen (u : State) (a : Nat) (hu : (u.hdr p).evt.getLsbD k = true) : ((u.openingDone a).hdr p).evt.getLsbD k = true := by
    unfold State.openingDone
    dsimp only
    split
    · split
      · exact hu
      · exact State.evt_keeps _ _ _ _ _ hu
    · exact hu
  have hjudge (u : State) (a : Nat) (hu : (u.hdr p).evt.getLsbD k = true) : ((u.evalGroup a).hdr p).evt.getLsbD k = true := by
    unfold State.evalGroup
    dsimp only
    split
    · split
      · exact State.evt_keeps _ _ _ _ _ hu
      · exact hu
    · split <;> exact hu
    · exact hu
  rw [State.evalGroups_eq, State.statusIfMoved_hdr]
  exact List.foldlRecOn _ _ (motive := fun u : State => (u.hdr p).evt.getLsbD k = true)
    (List.foldlRecOn _ _ (motive := fun u : State => (u.hdr p).evt.getLsbD k = true) h fun u hu a _ => hopen u a hu)
    fun u hu a _ => hjudge u a hu

/-! ### CLEAR_LOCKOUT (R427) -/

/-- A group comes back from LOCKOUT. -/
def State.unlocked (s : State) (g : Nat) : State :=
  (s.setGroup g { s.group g with state := .safe, since := s.mono }).fset pgSaf (SAF.LOCK_CAUSE.CAUSE g) 0

/-- The discrepancy of an input of a group that comes back is forgotten. -/
def State.discCleared (m : Nat) (s : State) (n : Nat) : State :=
  if (s.fget pgSaf (SAF.IN_CFG.MAP n) ||| s.fget pgGrd (GRD.IN_MAP.MAP n)) &&& m != 0 then s.setBit pgSaf SAF.IN_STAT.DISC n false
  else s

/-- The groups of a mask are back from LOCKOUT, and the discrepancies of their inputs forgotten. -/
def State.lockoutCleared (s : State) (m : Nat) : State :=
  (List.range 4).foldl (State.discCleared m) ((bitsSet m 4).foldl State.unlocked s)

theorem State.clearLockout_eq (s : State) (groups : Nat) :
    s.clearLockout groups = ((s.lockoutCleared (s.lockedOf groups)).statusIfMoved s).evalGroups := rfl

theorem State.discCleared_group (s : State) (m n g : Nat) : (s.discCleared m n).group g = s.group g := by
  unfold State.discCleared
  split <;> rfl

theorem State.discCleared_fget (h : SAF.IN_STAT.DISC.Apart f) (m n p : Nat) : (s.discCleared m n).fget p f = s.fget p f := by
  unfold State.discCleared
  split
  · exact State.fset_fget_apart h
  · rfl

theorem State.lockoutCleared_group (s : State) (m g : Nat) :
    (s.lockoutCleared m).group g =
      if g < 4 ∧ bit m g = true then { s.group g with state := .safe, since := s.mono } else s.group g := by
  have hloop : ((bitsSet m 4).foldl State.unlocked s).group g =
      if g ∈ bitsSet m 4 then { s.group g with state := .safe, since := s.mono } else s.group g := by
    refine foldl_view (P := fun u : State => u.mono = s.mono) g (fun u => u.group g)
      (fun x => { x with state := .safe, since := s.mono }) (fun u hu a _ => hu) (fun u hu a _ => ?_) (bitsSet_nodup _ _) rfl
    rw [State.unlocked, State.fset_group, State.setGroup_group, hu]
    by_cases e : a = g <;> simp [e]
  refine Eq.trans ?_ (hloop.trans (if_congr (mem_bitsSet_iff ..) rfl rfl))
  exact List.foldlRecOn _ _ (motive := fun u : State => u.group g = ((bitsSet m 4).foldl State.unlocked s).group g) rfl
    fun u hu n _ => (u.discCleared_group m n g).trans hu

/-- No cause of lockout is left of a group that comes back. -/
theorem State.lockoutCleared_cause (hg : g < 4) (hb : bit m g = true) :
    (s.lockoutCleared m).fget pgSaf (SAF.LOCK_CAUSE.CAUSE g) = 0 := by
  have hloop : ((bitsSet m 4).foldl State.unlocked s).fget pgSaf (SAF.LOCK_CAUSE.CAUSE g) = 0 := by
    refine (foldl_view (P := fun _ => True) g (fun u : State => u.fget pgSaf (SAF.LOCK_CAUSE.CAUSE g)) (fun _ => 0)
      (fun _ _ _ _ => trivial) (fun u _ a ha => ?_) (bitsSet_nodup _ _) trivial).trans (if_pos ((mem_bitsSet_iff ..).mpr ⟨hg, hb⟩))
    split
    · next e =>
      subst e
      exact State.fset_fget (lockCause_fits hg) (Nat.two_pow_pos _)
    · next e => exact State.fset_fget_apart (lockCause_apart ((mem_bitsSet_iff ..).mp ha).1 hg e)
  exact List.foldlRecOn _ _ (motive := fun u : State => u.fget pgSaf (SAF.LOCK_CAUSE.CAUSE g) = 0) hloop
    fun u hu n _ => (State.discCleared_fget (by interval_cases g <;> decide) m n pgSaf).trans hu

/-- A named group that is locked out. -/
theorem State.bit_lockedOf (s : State) (groups g : Nat) :
    bit (s.lockedOf groups) g = (bit groups g && decide (g < 4 ∧ (s.group g).state = .lockout)) := by
  rw [State.lockedOf, bit_and, bit_groupsIn]

/-- A named group that is locked out comes to SAFE, from where the conditions of READY go on. -/
theorem State.clearLockout_back (hg : g < 4) (hb : bit groups g = true) (hs : (s.group g).state = .lockout) :
    (((s.clearLockout groups).group g).state = .safe ∨ ((s.clearLockout groups).group g).state = .ready) ∧
      (s.clearLockout groups).fget pgSaf (SAF.LOCK_CAUSE.CAUSE g) = 0 := by
  have hm : bit (s.lockedOf groups) g = true := by rw [State.bit_lockedOf, hb, hs]; simp [hg]
  have hv : ((s.lockoutCleared (s.lockedOf groups)).statusIfMoved s).groupView g =
      ({ s.group g with state := .safe, since := s.mono }, 0) := by
    rw [State.statusIfMoved_view hg, State.groupView, State.lockoutCleared_group, if_pos ⟨hg, hm⟩, State.lockoutCleared_cause hg hm]
  have hopen (now : Nat) := openView_closed (v := (({ s.group g with state := .safe, since := s.mono } : GroupSt), 0)) (now := now)
    (.inl (by simp))
  rw [State.clearLockout_eq]
  have hj := State.evalGroups_group (s := (s.lockoutCleared (s.lockedOf groups)).statusIfMoved s) hg
  have hc := State.evalGroups_cause (s := (s.lockoutCleared (s.lockedOf groups)).statusIfMoved s) hg
  rw [hv, hopen] at hj hc
  exact ⟨hj.state (.inl rfl), hc⟩

/-- A group that is not locked out, or not named, and that READY and feedback do not concern, is left alone. -/
theorem State.clearLockout_rest (h : (s.group g).state = .start ∨ (s.group g).state = .closing ∨ (s.group g).state = .permit ∨
    (s.group g).state = .lockout ∧ bit groups g = false) : (s.clearLockout groups).group g = s.group g := by
  have hm : ¬ (g < 4 ∧ bit (s.lockedOf groups) g = true) := by
    rw [State.bit_lockedOf]
    rcases h with h | h | h | ⟨-, hb⟩
    · simp [h]
    · simp [h]
    · simp [h]
    · simp [hb]
  have hgr : ((s.lockoutCleared (s.lockedOf groups)).statusIfMoved s).group g = s.group g := by
    rw [State.statusIfMoved_group, State.lockoutCleared_group, if_neg hm]
  rw [State.clearLockout_eq, State.evalGroups_rest, hgr] <;> rw [hgr] <;> rcases h with h | h | h | ⟨h, -⟩ <;> simp [h]

theorem State.lockoutCleared_hdr (s : State) (m p : Nat) : (s.lockoutCleared m).hdr p = s.hdr p := by
  refine List.foldlRecOn _ _ (motive := fun u : State => u.hdr p = s.hdr p) ?_ fun u hu n _ => ?_
  · exact List.foldlRecOn _ _ (motive := fun u : State => u.hdr p = s.hdr p) rfl fun _ hu _ _ => hu
  · refine Eq.trans ?_ hu
    unfold State.discCleared
    split <;> rfl

theorem State.clearLockout_run (s : State) (groups : Nat) : ((s.clearLockout groups).hdr pgSaf).run = (s.hdr pgSaf).run := by
  rw [State.clearLockout_eq, State.evalGroups_run, State.statusIfMoved_hdr, State.lockoutCleared_hdr]

/-! ### The handover window (R422, R423) -/

/-- The window opens, as far as the times of ALIVE. -/
def State.windowOpened (s : State) : State :=
  { s with safe := { s.safe with handover := some (s.mono + 50000000), aliveInWindow := false } }

/-- Whether a connection is alive as the window opens. -/
def State.connNoted (s : State) (c : Nat) : State :=
  s.setConn c { s.conn c with wasAlive := s.fbit pgSaf (SAF.RX_STAT.ALIVE c) }

/-- The window stands open, and both channels show it. -/
def State.windowShown (s : State) : State :=
  ((((List.range 2).foldl State.connNoted s.windowOpened).fset pgSaf SAF.GROUP_STAT.HANDOVER 1).fset pgGrd GRD.STAT.HANDOVER 1).evt
    pgSaf 15

theorem State.handoverBegin_eq (s : State) : s.handoverBegin = s.windowShown.evalGroups := rfl

theorem State.connsNoted_eq (s : State) (l : List Nat) :
    ∃ cs, l.foldl State.connNoted s = { s with safe := { s.safe with conns := cs } } := by
  refine List.foldlRecOn l _ (motive := fun u : State => ∃ cs, u = { s with safe := { s.safe with conns := cs } }) ⟨_, rfl⟩
    fun u hu c _ => ?_
  obtain ⟨cs, rfl⟩ := hu
  exact ⟨_, rfl⟩

theorem State.windowShown_safe (s : State) : ∃ cs, s.windowShown.safe = { s.windowOpened.safe with conns := cs } := by
  obtain ⟨cs, he⟩ := s.windowOpened.connsNoted_eq (List.range 2)
  refine ⟨cs, ?_⟩
  rw [State.windowShown, State.evt_safe, State.fset_safe, State.fset_safe, he]

theorem State.windowShown_group (s : State) (g : Nat) : s.windowShown.group g = s.group g := by
  obtain ⟨cs, he⟩ := s.windowShown_safe
  exact State.group_of_safe (by rw [he]; rfl) g

theorem State.windowShown_bits (s : State) : s.windowShown.fbit pgSaf SAF.GROUP_STAT.HANDOVER = true ∧
    s.windowShown.fbit pgGrd GRD.STAT.HANDOVER = true := by
  rw [State.windowShown, State.evt_fbit, State.evt_fbit, State.fbit, State.fbit, State.fset_fget (by decide) (by decide),
    State.fset_fget_apart (p := pgGrd) (by decide), State.fset_fget (by decide) (by decide)]
  exact ⟨rfl, rfl⟩

theorem State.windowShown_run (s : State) : (s.windowShown.hdr pgSaf).run = (s.hdr pgSaf).run := by
  obtain ⟨cs, he⟩ := s.windowOpened.connsNoted_eq (List.range 2)
  rw [State.windowShown, State.evt_hdr_run, he]
  rfl

/-- A connection that was alive when the window opened is timed anew from its end (R423). -/
theorem State.closeWindow_conn {c : Nat} (hc : c < 2) (h : (s.conn c).wasAlive = true) :
    (s.closeWindow.conn c).lastAccept = s.mono := by
  have hloop : ((List.range 2).foldl State.connTimed s.windowShut).conn c = { s.conn c with lastAccept := s.mono } := by
    refine (foldl_view (P := fun u : State => u.mono = s.mono) c (fun u => u.conn c)
      (fun x => if x.wasAlive then { x with lastAccept := s.mono } else x) (fun u hu a _ => ?_) (fun u hu a _ => ?_) List.nodup_range
      ?_).trans ?_
    · unfold State.connTimed
      split <;> exact hu
    · unfold State.connTimed
      by_cases e : a = c
      · subst e
        rw [if_pos rfl, ← hu]
        split
        · exact SMap.read_write_self ..
        · rfl
      · rw [if_neg e]
        split
        · exact SMap.read_write_other _ _ _ (fun h => e h.symm) _
        · rfl
    · rfl
    · rw [if_pos (List.mem_range.mpr hc)]
      exact if_pos h
  show (((List.range 2).foldl State.connTimed s.windowShut).conn c).lastAccept = s.mono
  rw [hloop]

theorem State.closeWindow_run (s : State) : (s.closeWindow.hdr pgSaf).run = (s.hdr pgSaf).run := by
  obtain ⟨cs, he⟩ := s.windowShut.connsTimed_eq (List.range 2)
  rw [State.closeWindow_eq, he]
  rfl

/-- The window is shut and the groups are judged. -/
def State.windowEnded (s : State) : State := s.closeWindow.evalGroups.handoverHolds 2

theorem State.handoverHolds_keeps (s : State) (t : Nat) :
    (s.handoverHolds t).safe = s.safe ∧ (s.handoverHolds t).pages = s.pages := by
  unfold State.handoverHolds
  split
  · split <;> exact ⟨rfl, rfl⟩
  · exact ⟨rfl, rfl⟩

theorem State.windowEnded_safe (s : State) : s.closeWindow.safe.SameElse s.windowEnded.safe := by
  rw [State.windowEnded, (State.handoverHolds_keeps _ _).1]
  exact State.evalGroups_else _

theorem State.windowEnded_conn (s : State) (c : Nat) : s.windowEnded.conn c = s.closeWindow.conn c := by
  rw [State.conn, s.windowEnded_safe]
  rfl

theorem State.windowEnded_fbit (hf : ∀ k ∈ groupFields, k.Apart f) (p : Nat) : s.windowEnded.fbit p f = s.closeWindow.fbit p f :=
  State.fbit_of_fget ((State.fget_of_pages (State.handoverHolds_keeps _ _).2 p f).trans (State.evalGroups_fget hf p))

theorem State.windowEnded_run (s : State) : (s.windowEnded.hdr pgSaf).run = (s.hdr pgSaf).run := by
  rw [State.windowEnded, State.hdr, (State.handoverHolds_keeps _ _).2]
  exact s.closeWindow.evalGroups_run.trans s.closeWindow_run

/-! ### ALIVE (R425) -/

/-- A count that is the first one, or the next one, shows that SAF runs. -/
def State.aliveGood (s : State) (v : Nat) : State :=
  { s.fset pgGrd GRD.ALIVE.COUNT v with safe := { s.safe with
      aliveAt := some s.mono
      aliveInWindow := s.safe.aliveInWindow || (s.safe.handover.isSome && v == (s.fget pgGrd GRD.ALIVE.COUNT + 1) % 256) } }.fset
    pgGrd GRD.STAT.SAF_OK 1

theorem State.aliveWrite_good {v : Nat} (hv : v < 256)
    (h : s.safe.aliveAt = none ∨ v = (s.fget pgGrd GRD.ALIVE.COUNT + 1) % 256) : s.aliveWrite v = s.aliveGood v := by
  unfold State.aliveWrite
  rw [Nat.mod_eq_of_lt hv]
  exact if_pos (by rcases h with h | h <;> simp [h])

theorem State.aliveWrite_bad {v : Nat} (hv : v < 256) (ha : s.safe.aliveAt.isSome = true)
    (h : v ≠ (s.fget pgGrd GRD.ALIVE.COUNT + 1) % 256) :
    s.aliveWrite v = (((s.fset pgGrd GRD.ALIVE.COUNT v).aliveFailed).tripWith true 15 15).evalGroups := by
  unfold State.aliveWrite
  rw [Nat.mod_eq_of_lt hv]
  exact if_neg (by simp [h, Option.isNone_eq_false_iff.mpr ha])

/-- A write of ALIVE counts, and its write answers OK. -/
theorem State.writeReg_alive {v : Nat} (hv : v < 256) (h : s.writes m pgGrd GRD.ALIVE.COUNT.off v = true) :
    s.writeReg m pgGrd GRD.ALIVE.COUNT.off v = (s.aliveWrite v).emit (.access m 0 0) := by
  rw [State.writeBlock_ok h (by decide) (by decide) (show regOf _ = some ({ off := 0x054, rw := 0xFF }, 0) from rfl) (by omega) (.inl rfl)
    (by decide) (by simp)]
  have hhook : s.blockHook m pgGrd GRD.ALIVE.COUNT.off v = s.aliveWrite (v % 256) := rfl
  rw [show hookStores pgGrd GRD.ALIVE.COUNT.off = true from rfl, if_pos rfl, hhook, Nat.mod_eq_of_lt hv]

theorem State.aliveFailed_fget (h : GRD.STAT.SAF_OK.Apart f) (p : Nat) : s.aliveFailed.fget p f = s.fget p f := by
  unfold State.aliveFailed
  rw [State.evt_fget, State.fset_fget_apart h]
  exact State.fget_of_pages rfl p f

theorem State.aliveGood_shown {v : Nat} (hv : v < 256) :
    (s.aliveGood v).fget pgGrd GRD.ALIVE.COUNT = v ∧ (s.aliveGood v).fbit pgGrd GRD.STAT.SAF_OK = true := by
  unfold State.aliveGood
  refine ⟨(State.fset_fget_apart (by decide)).trans ((State.fget_of_pages (s := s.fset pgGrd GRD.ALIVE.COUNT v) rfl ..).trans
    (State.fset_fget (by decide) hv)), ?_⟩
  rw [State.fbit, State.fset_fget (by decide) (by decide)]
  rfl

/-! ### The statement -/

section
variable (hon : s.boot.powered = true)
include hon

theorem exec_clearLockout_on (m : Master) (groups : BitVec 4) :
    exec (.clearLockout m groups) s = .next (s.command m.id pgSaf 0x10 groups.toNat) :=
  congrArg Host.Outcome.next (State.live_on hon _)

theorem exec_handoverBegin_on (m : Master) : exec (.handoverBegin m) s = .next (s.command m.id pgSaf 0x11 0) :=
  congrArg Host.Outcome.next (State.live_on hon _)

theorem exec_handoverEnd_on (m : Master) : exec (.handoverEnd m) s = .next (s.command m.id pgSaf 0x12 0) :=
  congrArg Host.Outcome.next (State.live_on hon _)

theorem exec_grdAliveWrite_on (m : Master) (count : BitVec 8) :
    exec (.grdAliveWrite m count) s = .next (s.writeReg m.id pgGrd GRD.ALIVE.COUNT.off count.toNat) :=
  congrArg Host.Outcome.next (State.live_on hon _)

end

theorem State.safCmd_clear {arg : Nat} (h : arg < 16) : s.safCmd 0x10 arg = (s.clearLockout arg).cmdDone pgSaf := by
  unfold State.safCmd
  rw [if_pos rfl, Nat.mod_eq_of_lt h]

theorem State.safCmd_begin : s.safCmd 0x11 0 = s.windowShown.evalGroups.cmdDone pgSaf := by
  unfold State.safCmd
  rw [if_neg (by decide), if_pos rfl, State.handoverBegin_eq]

theorem State.safCmd_end : s.safCmd 0x12 0 = s.windowEnded.cmdDone pgSaf := by
  unfold State.safCmd
  rw [if_neg (by decide), if_neg (by decide), if_pos rfl, ← State.windowEnded]

/-- CLEAR_LOCKOUT as SAF's page takes it. -/
theorem exec_clearLockout_back (m : Master) (groups : BitVec 4) (h : s.accepts m.id pgSaf 0x10 groups.toNat = true) :
    ∃ t : State, exec (.clearLockout m groups) s = .next t ∧ t.Done pgSaf 0x10 m.id ∧ t.Answers (.access m.id 0 0) ∧
      (∀ g, g < 4 → bit groups.toNat g = true → (s.group g).state = .lockout →
        ((t.group g).state = .safe ∨ (t.group g).state = .ready) ∧ t.fget pgSaf (SAF.LOCK_CAUSE.CAUSE g) = 0) ∧
      (∀ g, (s.group g).state = .start ∨ (s.group g).state = .closing ∨ (s.group g).state = .permit ∨
        ((s.group g).state = .lockout ∧ bit groups.toNat g = false) → t.group g = s.group g) ∧
      State.SameBut [.safe, .out, .page .saf] s t := by
  have hg : groups.toNat < 16 := groups.isLt
  have hgr (g : Nat) : (s.cmdStart pgSaf 0x10 groups.toNat m.id).group g = s.group g := (s.alike_cmdStart ..).group g
  have hrun := (State.clearLockout_run (s.cmdStart pgSaf 0x10 groups.toNat m.id) groups.toNat).trans (State.cmdStart_run ..)
  obtain ⟨hdone, hans⟩ := State.ended_done hrun
  rw [exec_clearLockout_on (State.accepts_powered h), State.saf_command h (by decide) (by decide) (by omega), State.safCmd_clear hg]
  refine ⟨_, rfl, hdone, hans, fun g hg4 hb hs => ?_, fun g hs => ?_, ?_⟩
  · rw [State.ended_group, State.ended_fget]
    exact State.clearLockout_back hg4 hb (by rw [hgr]; exact hs)
  · rw [State.ended_group, State.clearLockout_rest (by rw [hgr]; exact hs), hgr]
  · exact State.emit_same (State.cmdDone_same (State.clearLockout_same (State.cmdStart_same (State.SameOutside.refl _ s) rfl rfl) rfl)
      rfl rfl) rfl

/-- HANDOVER_BEGIN as SAF's page takes it. -/
theorem exec_handoverBegin_opens (m : Master) (h : s.accepts m.id pgSaf 0x11 0 = true) :
    ∃ t : State, exec (.handoverBegin m) s = .next t ∧ t.Done pgSaf 0x11 m.id ∧
      t.Answers (.access m.id 0 0) ∧ t.safe.handover = some (s.mono + 50000000) ∧ t.safe.aliveInWindow = false ∧
      t.fbit pgSaf SAF.GROUP_STAT.HANDOVER = true ∧ t.fbit pgGrd GRD.STAT.HANDOVER = true ∧
      (t.hdr pgSaf).evt.getLsbD 15 = true ∧ (∀ g, g < 4 → (t.group g).state ≠ .ready) ∧
      (∀ g, (s.group g).state = .permit → t.group g = s.group g) ∧
      State.SameBut [.safe, .out, .page .saf, .page .grd] s t := by
  have hgr (g : Nat) : (s.cmdStart pgSaf 0x11 0 m.id).group g = s.group g := (s.alike_cmdStart ..).group g
  have hsame : State.SameBut [.safe, .out, .page .saf, .page .grd] s (s.cmdStart pgSaf 0x11 0 m.id).windowShown.evalGroups :=
    State.handoverBegin_same (State.cmdStart_same (State.SameOutside.refl _ s) rfl rfl) rfl
  rw [exec_handoverBegin_on (State.accepts_powered h), State.saf_command h (by decide) (by decide) (by decide), State.safCmd_begin]
  have hmono : (s.cmdStart pgSaf 0x11 0 m.id).mono = s.mono := rfl
  have hrun := State.cmdStart_run s pgSaf (o := 0x11) (g := 0) (m := m.id)
  generalize s.cmdStart pgSaf 0x11 0 m.id = v at *
  rw [← v.windowShown_run, ← State.evalGroups_run] at hrun
  obtain ⟨hdone, hans⟩ := State.ended_done hrun
  obtain ⟨cs, hsafe⟩ := v.windowShown_safe
  have helse := v.windowShown.evalGroups_else
  obtain ⟨hbs, hbg⟩ := v.windowShown_bits
  have hbit (p : Nat) (f : Fld) (hf : ∀ k ∈ groupFields, k.Apart f) :
      ((v.windowShown.evalGroups.cmdDone pgSaf).emit (.access m.id 0 0)).fbit p f = v.windowShown.fbit p f :=
    State.ended_fbit.trans (State.fbit_of_fget (State.evalGroups_fget hf p))
  refine ⟨_, rfl, hdone, hans, ?_, ?_, ?_, ?_, ?_, fun g hg => ?_, fun g hs => ?_, ?_⟩
  · rw [State.ended_safe, helse, hsafe, ← hmono]
    rfl
  · rw [State.ended_safe, helse, hsafe]
    rfl
  · rw [hbit _ _ (by decide), hbs]
  · rw [hbit _ _ (by decide), hbg]
  · rw [State.emit_hdr]
    exact State.cmdDone_keeps (State.evalGroups_keeps (State.evt_set _ _ _ (by decide)))
  · rw [State.ended_group]
    exact State.evalGroups_not_ready (by rw [hsafe]; rfl) hg
  · have hv : v.windowShown.group g = s.group g := (v.windowShown_group g).trans (hgr g)
    rw [State.ended_group, State.evalGroups_rest, hv] <;> rw [hv, hs] <;> decide
  · exact State.emit_same (State.cmdDone_same hsame rfl rfl) rfl

/-- HANDOVER_END as SAF's page takes it. -/
theorem exec_handoverEnd_closes (m : Master) (h : s.accepts m.id pgSaf 0x12 0 = true) :
    ∃ t : State, exec (.handoverEnd m) s = .next t ∧ t.Done pgSaf 0x12 m.id ∧
      t.Answers (.access m.id 0 0) ∧ t.safe.handover = none ∧ t.fbit pgSaf SAF.GROUP_STAT.HANDOVER = false ∧
      t.fbit pgGrd GRD.STAT.HANDOVER = false ∧ t.safe.aliveAt = s.safe.aliveAt.map (fun _ => s.mono) ∧
      (∀ c, c < 2 → (s.conn c).wasAlive = true → (t.conn c).lastAccept = s.mono) ∧
      State.SameBut [.safe, .fw, .out, .page .saf, .page .grd] s t := by
  have hsafe0 : (s.cmdStart pgSaf 0x12 0 m.id).safe = s.safe := (s.alike_cmdStart ..).safe
  have hsame : State.SameBut [.safe, .fw, .out, .page .saf, .page .grd] s (s.cmdStart pgSaf 0x12 0 m.id).windowEnded :=
    State.handoverHolds_same (State.evalGroups_same (State.closeWindow_same (State.cmdStart_same (State.SameOutside.refl _ s) rfl rfl)
      rfl) rfl) rfl
  rw [exec_handoverEnd_on (State.accepts_powered h), State.saf_command h (by decide) (by decide) (by decide), State.safCmd_end]
  have hmono : (s.cmdStart pgSaf 0x12 0 m.id).mono = s.mono := rfl
  have hrun := State.cmdStart_run s pgSaf (o := 0x12) (g := 0) (m := m.id)
  generalize s.cmdStart pgSaf 0x12 0 m.id = v at *
  rw [← v.windowEnded_run] at hrun
  obtain ⟨hdone, hans⟩ := State.ended_done hrun
  obtain ⟨cs, hsafe⟩ := v.closeWindow_safe
  obtain ⟨hbs, hbg⟩ := v.closeWindow_shown
  refine ⟨_, rfl, hdone, hans, ?_, ?_, ?_, ?_, fun c hc hw => ?_, ?_⟩
  · rw [State.ended_safe, v.windowEnded_safe, hsafe]
    rfl
  · rw [State.ended_fbit, State.windowEnded_fbit (by decide), hbs]
  · rw [State.ended_fbit, State.windowEnded_fbit (by decide), hbg]
  · rw [State.ended_safe, v.windowEnded_safe, hsafe, ← hmono, ← hsafe0]
    rfl
  · have hconn : (((v.windowEnded.cmdDone pgSaf).emit (.access m.id 0 0)).conn c) = v.windowEnded.conn c := by
      rw [State.conn, State.ended_safe]
      rfl
    rw [hconn, v.windowEnded_conn, State.closeWindow_conn hc (by rw [State.conn, hsafe0]; exact hw), hmono]
  · exact State.emit_same (State.cmdDone_same hsame rfl rfl) rfl

/-- Settles O49: the commands of SAF and the ALIVE write, one by one. -/
theorem safetyCommandsTakeEffect : Obligations.SafetyCommandsTakeEffect := by
  unfold Obligations.SafetyCommandsTakeEffect
  refine fun s m => ⟨exec_clearLockout_back m, exec_handoverBegin_opens m, exec_handoverEnd_closes m, fun count h => ?_⟩
  have hv : count.toNat < 256 := count.isLt
  rw [exec_grdAliveWrite_on (State.writes_powered h), State.writeReg_alive hv h]
  refine ⟨fun hgood => ?_, fun ha hne => ?_⟩
  · rw [State.aliveWrite_good hv hgood]
    obtain ⟨hcount, hok⟩ := State.aliveGood_shown (s := s) hv
    exact ⟨_, rfl, State.emit_answers _ _, hcount, hok, rfl,
      State.emit_same (State.fset_same (State.SameOutside.set_safe (State.fset_same (State.SameOutside.refl _ s) rfl rfl) rfl) rfl rfl) rfl⟩
  · rw [State.aliveWrite_bad hv ha hne]
    refine ⟨_, rfl, ?_, State.aliveFailed_ok _, State.aliveFailed_safe _,
      State.aliveFailed_same (State.fset_same (State.SameOutside.refl _ s) rfl rfl) rfl⟩
    rw [State.aliveFailed_fget (by decide), State.fset_fget (by decide) hv]

end Sys2Proof.Machine
end

section
/-! PROOFS. Demand inputs, safety frames, and their watchdogs (R400 to R404). -/

namespace Sys2Proof.Machine

variable {s t : State} {n k p c groups i : Nat} {f : Fld}

/-! ### Bits of a field -/

theorem State.setBit_bit {b : Bool} (hf : f.lo + f.w ≤ 32) (hi : i < f.w) (s : State) (p : Nat) :
    bit ((s.setBit p f i b).fget p f) i = b := by
  unfold State.setBit
  rw [State.fget_fset_self _ _ _ _ hf, bit_eq_testBit, Nat.testBit_mod_two_pow, putBits_testBit]
  cases b <;> simp [hi, b2n]

theorem State.setBit_fget_apart {b : Bool} {f' : Fld} (h : f.Apart f') (q : Nat) : (s.setBit p f i b).fget q f' = s.fget q f' :=
  State.fset_fget_apart h

/-! ### Demand inputs (R400, R401) -/

@[simp] theorem State.setInput_self (s : State) (n : Nat) (x : InputSt) : (s.setInput n x).input n = x := SMap.read_write_self ..

theorem State.setInput_other {x : InputSt} (h : k ≠ n) : (s.setInput n x).input k = s.input k := SMap.read_write_other _ _ _ h _

/-- An input's record as a change of a pin leaves it. -/
def InputSt.changed (now : Nat) (pinB high : Bool) (x : InputSt) : InputSt :=
  let differed := x.pinA != x.pinB
  let x := if pinB then
      { x with pinB := high, lowB := if x.pinB && !high then now else x.lowB, demB := x.demB && !high }
    else { x with pinA := high, lowA := if x.pinA && !high then now else x.lowA, demA := x.demA && !high }
  { x with differ := if (x.pinA != x.pinB) && !differed then now else x.differ }

/-- An input's record with a demand of a pin. -/
def InputSt.demanded (pinB : Bool) (x : InputSt) : InputSt := if pinB then { x with demB := true } else { x with demA := true }

/-- An input with a new record, and what IN_STAT shows of it. -/
def State.inputShown (s : State) (n : Nat) (x : InputSt) : State := (s.setInput n x).showInput n

theorem State.safeInChange_eq (s : State) (n : Nat) (pinB high : Bool) :
    s.safeInChange n pinB high = (s.inputShown n ((s.input n).changed s.mono pinB high)).evalGroups := rfl

@[simp] theorem State.showInput_input (s : State) (n k : Nat) : (s.showInput n).input k = s.input k := rfl

theorem State.inputShown_self (s : State) (n : Nat) (x : InputSt) : (s.inputShown n x).input n = x := by
  rw [State.inputShown, State.showInput_input, State.setInput_self]

theorem State.inputShown_other {x : InputSt} (h : k ≠ n) : (s.inputShown n x).input k = s.input k := by
  rw [State.inputShown, State.showInput_input, State.setInput_other h]

/-- DEMAND shows an input's demand. -/
theorem State.inputShown_demand (hn : n < 4) (x : InputSt) :
    bit ((s.inputShown n x).fget pgSaf SAF.IN_STAT.DEMAND) n = (x.demA || x.demB) := by
  unfold State.inputShown State.showInput
  rw [State.setInput_self]
  exact State.setBit_bit (by decide) hn _ _

theorem State.inputShown_same (s : State) (n : Nat) (x : InputSt) {o : State} {m : Nat} (h : State.SameOutside m o s)
    (hm : partsMask [.safe, .page .saf] ||| m = m) : State.SameOutside m o (s.inputShown n x) :=
  State.showInput_same (State.SameOutside.set_safe h (mask_trans rfl hm)) (mask_trans rfl hm)

theorem State.inputShown_mono (s : State) (n : Nat) (x : InputSt) : (s.inputShown n x).mono = s.mono :=
  State.inputShown_same s n x (m := partsMask [.safe, .page .saf]) (State.SameOutside.refl _ s) rfl .mono (by decide)

/-- A change of a pin starts its filter anew and ends its demand. -/
theorem InputSt.changed_fields (now : Nat) (pinB high : Bool) (x : InputSt) :
    (x.changed now pinB high).pinA = (if pinB = true then x.pinA else high) ∧
      (x.changed now pinB high).pinB = (if pinB = true then high else x.pinB) ∧
      (x.changed now pinB high).demA = (x.demA && (pinB || !high)) ∧
      (x.changed now pinB high).demB = (x.demB && (!pinB || !high)) ∧
      (pinB = false → x.pinA = true → high = false → (x.changed now pinB high).lowA = now) ∧
      (pinB = true → x.pinB = true → high = false → (x.changed now pinB high).lowB = now) := by
  unfold InputSt.changed
  cases pinB
  · refine ⟨rfl, rfl, rfl, by simp, fun _ ha hh => ?_, fun h => (by cases h)⟩
    simp [ha, hh]
  · refine ⟨rfl, rfl, by simp, by simp, fun h => (by cases h), fun _ hb hh => ?_⟩
    simp [hb, hh]

theorem State.advanceTo_input (s : State) (i n : Nat) : (s.advanceTo i).input n = s.input n := by
  unfold State.input
  rw [State.advanceTo_safe]

theorem State.advanceTo_inGroups (s : State) (i n : Nat) : (s.advanceTo i).inGroups n = s.inGroups n := by
  unfold State.inGroups State.inEnSaf State.inEnGrd State.fbit State.fget State.word
  rw [State.advanceTo_pages]

/-- The pin of an input, and since when it has been low. -/
def InputSt.pin (pinB : Bool) (x : InputSt) : Bool := if pinB then x.pinB else x.pinA
def InputSt.low (pinB : Bool) (x : InputSt) : Nat := if pinB then x.lowB else x.lowA

/-- The state in which a demand of an input trips its groups. -/
def State.inputDemanded (s : State) (n : Nat) (pinB : Bool) : State :=
  (s.advanceTo (max ((s.input n).low pinB) (s.input n).enSince + s.filterNs n)).inputShown n ((s.input n).demanded pinB)

theorem State.safeInDemand_on {pinB : Bool} (he : s.inEn n = true) (hp : (s.input n).pin pinB = false) :
    s.safeInDemand n pinB = ((s.inputDemanded n pinB).tripWith false 1 (s.inGroups n)).evalGroups := by
  rw [← s.advanceTo_inGroups (max ((s.input n).low pinB) (s.input n).enSince + s.filterNs n)]
  exact if_neg (by rw [he, show (if pinB then (s.input n).pinB else (s.input n).pinA) = false from hp]; decide)

theorem State.safeInDemand_off {pinB : Bool} (h : s.inEn n = false ∨ (s.input n).pin pinB = true) : s.safeInDemand n pinB = s := by
  refine if_pos ?_
  rcases h with h | h
  · rw [h]
    rfl
  · rw [show (if pinB then (s.input n).pinB else (s.input n).pinA) = true from h, Bool.or_true]

/-- The pins of an input have differed for too long. -/
def State.discShown (s : State) (n : Nat) : State :=
  (s.advanceTo (max (s.input n).differ (s.input n).enSince + s.discNs n)).setBit pgSaf SAF.IN_STAT.DISC n true

theorem State.inDisc_on (he : s.inEn n = true) (hp : (s.input n).pinA ≠ (s.input n).pinB) :
    s.inDisc n = ((s.discShown n).tripWith true 2 (s.inGroups n)).evalGroups := by
  rw [← s.advanceTo_inGroups (max (s.input n).differ (s.input n).enSince + s.discNs n)]
  exact if_neg (by simp [he, hp])

theorem State.inDisc_off (h : s.inEn n = false ∨ (s.input n).pinA = (s.input n).pinB) : s.inDisc n = s :=
  if_pos (by rcases h with h | h <;> simp [h])

/-! ### Safety frames (R402, R403) -/

/-- The links on which a SAFETY cell goes on (R121). -/
def State.safetyForward (s : State) (n word : Nat) : State :=
  s.forwardCell ([2, 3].filter (fun d =>
    (s.linkState n = 2 && (rawView word).type = 3) && s.fbit (pgLink d) LINK.POLICY.FWD_EN && s.sourceFeed d = n && s.linkState d = 2))
    word

theorem State.safetyFrame_child {word : Nat} (h : n = 2 ∨ n = 3) : s.safetyFrame n word = s.upwardRx n [word] := by
  have he : s.safetyRx n word = (none, s.upwardRx n [word]) := if_pos (by rcases h with h | h <;> simp [h])
  unfold State.safetyFrame
  rw [he]

theorem State.safetyRx_of {word : Nat} (h2 : n ≠ 2) (h3 : n ≠ 3) : s.safetyRx n word =
    match (s.safetyForward n word).singleCell n 3 word with
    | (none, s) => (none, s)
    | (some v, s) =>
      if s.linkState n ≠ 2 || !s.safRuns || s.safe.handover.isSome then (none, s)
      else if !s.safetyMacOk v then (none, s.rxReject SAF.RX_REJ2.MAC_FORMAT)
      else s.rxChecks v.body := if_neg (by simp [h2, h3])

/-- A cell that cannot be used has no message. -/
theorem State.safetyFrame_unusable {word : Nat} {u : State} (h2 : n ≠ 2) (h3 : n ≠ 3)
    (h : (s.safetyForward n word).singleCell n 3 word = (none, u)) : s.safetyFrame n word = u := by
  unfold State.safetyFrame
  rw [State.safetyRx_of h2 h3, h]

/-- What an evaluation leaves, with the message it hands on. -/
def State.told (r : Option Nat × State) : State :=
  match r with
  | (some v, s) => s.message v
  | (none, s) => s

theorem State.safetyFrame_usable {word : Nat} {u : State} {v : CellView} (h2 : n ≠ 2) (h3 : n ≠ 3)
    (h : (s.safetyForward n word).singleCell n 3 word = (some v, u)) : s.safetyFrame n word =
      State.told (if u.linkState n ≠ 2 || !u.safRuns || u.safe.handover.isSome then (none, u)
        else if !u.safetyMacOk v then (none, u.rxReject SAF.RX_REJ2.MAC_FORMAT) else u.rxChecks v.body) := by
  have he : s.safetyRx n word = if u.linkState n ≠ 2 || !u.safRuns || u.safe.handover.isSome then (none, u)
      else if !u.safetyMacOk v then (none, u.rxReject SAF.RX_REJ2.MAC_FORMAT) else u.rxChecks v.body := by
    rw [State.safetyRx_of h2 h3, h]
  unfold State.safetyFrame
  rw [he]
  rfl

/-- Without LINK service, without a running SAF, and in a handover window no frame is evaluated (R422). -/
theorem State.safetyFrame_idle {word : Nat} {u : State} {v : CellView} (h2 : n ≠ 2) (h3 : n ≠ 3)
    (h : (s.safetyForward n word).singleCell n 3 word = (some v, u))
    (hu : u.linkState n ≠ 2 ∨ u.safRuns = false ∨ u.safe.handover.isSome = true) : s.safetyFrame n word = u := by
  rw [State.safetyFrame_usable h2 h3 h, if_pos (by rcases hu with e | e | e <;> simp [e])]
  rfl

theorem State.safetyFrame_badMac {word : Nat} {u : State} {v : CellView} (h2 : n ≠ 2) (h3 : n ≠ 3)
    (h : (s.safetyForward n word).singleCell n 3 word = (some v, u)) (hl : u.linkState n = 2) (hr : u.safRuns = true)
    (hh : u.safe.handover = none) (hm : u.safetyMacOk v = false) : s.safetyFrame n word = u.rxReject SAF.RX_REJ2.MAC_FORMAT := by
  rw [State.safetyFrame_usable h2 h3 h, if_neg (by simp [hl, hr, hh]), if_pos (by simp [hm])]
  rfl

theorem State.safetyFrame_checked {word : Nat} {u : State} {v : CellView} (h2 : n ≠ 2) (h3 : n ≠ 3)
    (h : (s.safetyForward n word).singleCell n 3 word = (some v, u)) (hl : u.linkState n = 2) (hr : u.safRuns = true)
    (hh : u.safe.handover = none) (hm : u.safetyMacOk v = true) : s.safetyFrame n word = State.told (u.rxChecks v.body) := by
  rw [State.safetyFrame_usable h2 h3 h, if_neg (by simp [hl, hr, hh]), if_neg (by simp [hm])]

/-! The checks 3 to 6 of R402, on the connection that a frame names. -/

/-- How old a frame is, from its timestamp. -/
def State.frameAge (s : State) (body : Nat) : Int := sgn 48 ((s.now % 2 ^ 48 + 2 ^ 48 - bitsOf body 64 48) % 2 ^ 48)

/-- How old a frame of a connection may be. -/
def State.frameWindow (s : State) (c body : Nat) : Nat := min (bitsOf body 112 16) (s.fget pgSaf (SAF.RX_CFG.WIN_MAX_US c)) * 1000

/-- How far a frame's sequence number is from the last one. -/
def State.frameStep (s : State) (c body : Nat) : Nat := (bitsOf body 32 16 + 65536 - s.fget pgSaf (SAF.RX_STAT.LAST_SEQ c)) % 65536

/-- The CRC of a frame on a connection. -/
def State.frameCrc (s : State) (c body : Nat) : Nat := crc32cSeeded (s.fget pgSaf (SAF.RX_SEED.SEED c)) (leBytes body 20)

/-- A frame's kind is known and its reserved bits are clear. -/
def frameFormed (body : Nat) : Prop := (bitsOf body 48 4 = 1 ∨ bitsOf body 48 4 = 2) ∧ safetyReserved body = true

/-- A frame is in time. -/
def State.frameTimely (s : State) (c body : Nat) : Prop :=
  s.timeLocked = true ∧ -100000 ≤ s.frameAge body ∧ s.frameAge body ≤ (s.frameWindow c body : Int)

theorem State.rxChecks_named {body : Nat} (h : s.rxNamed (bitsOf body 0 32) = some c) : s.rxChecks body =
    if s.frameCrc c body ≠ bitsOf body 160 32 then (none, s.rxReject SAF.RX_REJ.CRC)
    else if !(bitsOf body 48 4 = 1 || bitsOf body 48 4 = 2) || !safetyReserved body then (none, s.rxReject SAF.RX_REJ2.MAC_FORMAT)
    else if !s.timeLocked || !(-100000 ≤ s.frameAge body && s.frameAge body ≤ (s.frameWindow c body : Int)) then
      (none, s.rxReject SAF.RX_REJ2.TIME)
    else if !s.fbit pgSaf (SAF.RX_STAT.FRESH c) && s.frameStep c body = 0 then (none, s.finc pgSaf SAF.RX_CNT.DUP)
    else if !s.fbit pgSaf (SAF.RX_STAT.FRESH c) && 1024 < s.frameStep c body then (none, s.rxReject SAF.RX_REJ.SEQ)
    else (if bitsOf body 48 4 = 2 then some (bitsOf body 128 32) else none, s.rxAccept c body) := by
  unfold State.rxChecks
  rw [h]
  rfl

theorem State.rxChecks_unnamed {body : Nat} (h : s.rxNamed (bitsOf body 0 32) = none) : s.rxChecks body = (none, s) := by
  unfold State.rxChecks
  rw [h]

section
variable {body : Nat} (hc : s.rxNamed (bitsOf body 0 32) = some c)
include hc

theorem State.told_badCrc (h : s.frameCrc c body ≠ bitsOf body 160 32) : State.told (s.rxChecks body) = s.rxReject SAF.RX_REJ.CRC := by
  rw [State.rxChecks_named hc, if_pos h]
  rfl

theorem State.told_badFormat (hcrc : s.frameCrc c body = bitsOf body 160 32) (h : ¬ frameFormed body) :
    State.told (s.rxChecks body) = s.rxReject SAF.RX_REJ2.MAC_FORMAT := by
  rw [State.rxChecks_named hc, if_neg (not_not.mpr hcrc), if_pos]
  · rfl
  · simpa [frameFormed, or_iff_not_imp_left] using h

theorem State.rxChecks_formed (hcrc : s.frameCrc c body = bitsOf body 160 32) (hf : frameFormed body) : s.rxChecks body =
    if !s.timeLocked || !(-100000 ≤ s.frameAge body && s.frameAge body ≤ (s.frameWindow c body : Int)) then
      (none, s.rxReject SAF.RX_REJ2.TIME)
    else if !s.fbit pgSaf (SAF.RX_STAT.FRESH c) && s.frameStep c body = 0 then (none, s.finc pgSaf SAF.RX_CNT.DUP)
    else if !s.fbit pgSaf (SAF.RX_STAT.FRESH c) && 1024 < s.frameStep c body then (none, s.rxReject SAF.RX_REJ.SEQ)
    else (if bitsOf body 48 4 = 2 then some (bitsOf body 128 32) else none, s.rxAccept c body) := by
  obtain ⟨hk, hr⟩ := hf
  rw [State.rxChecks_named hc, if_neg (not_not.mpr hcrc), if_neg (by simpa [hr, or_iff_not_imp_left] using hk)]

theorem State.told_untimely (hcrc : s.frameCrc c body = bitsOf body 160 32) (hf : frameFormed body)
    (h : s.timeLocked = false ∨ s.frameAge body < -100000 ∨ (s.frameWindow c body : Int) < s.frameAge body) :
    State.told (s.rxChecks body) = s.rxReject SAF.RX_REJ2.TIME := by
  rw [State.rxChecks_formed hc hcrc hf, if_pos]
  · rfl
  · rcases h with h | h | h <;> simp [h]

theorem State.rxChecks_timely (hcrc : s.frameCrc c body = bitsOf body 160 32) (hf : frameFormed body) (ht : s.frameTimely c body) : s.rxChecks body =
    if !s.fbit pgSaf (SAF.RX_STAT.FRESH c) && s.frameStep c body = 0 then (none, s.finc pgSaf SAF.RX_CNT.DUP)
    else if !s.fbit pgSaf (SAF.RX_STAT.FRESH c) && 1024 < s.frameStep c body then (none, s.rxReject SAF.RX_REJ.SEQ)
    else (if bitsOf body 48 4 = 2 then some (bitsOf body 128 32) else none, s.rxAccept c body) := by
  obtain ⟨hl, hlo, hhi⟩ := ht
  rw [State.rxChecks_formed hc hcrc hf, if_neg (by simp [hl, hlo, hhi])]

theorem State.told_repeated (hcrc : s.frameCrc c body = bitsOf body 160 32) (hf : frameFormed body) (ht : s.frameTimely c body)
    (hfr : s.fbit pgSaf (SAF.RX_STAT.FRESH c) = false) (hs : s.frameStep c body = 0) :
    State.told (s.rxChecks body) = s.finc pgSaf SAF.RX_CNT.DUP := by
  rw [State.rxChecks_timely hc hcrc hf ht, if_pos (by simp [hfr, hs])]
  rfl

theorem State.told_outOfSequence (hcrc : s.frameCrc c body = bitsOf body 160 32) (hf : frameFormed body) (ht : s.frameTimely c body)
    (hfr : s.fbit pgSaf (SAF.RX_STAT.FRESH c) = false) (hs : 1024 < s.frameStep c body) :
    State.told (s.rxChecks body) = s.rxReject SAF.RX_REJ.SEQ := by
  rw [State.rxChecks_timely hc hcrc hf ht, if_neg (by simp [hfr]; omega), if_pos (by simp [hfr, hs])]
  rfl

theorem State.told_accepted (hcrc : s.frameCrc c body = bitsOf body 160 32) (hf : frameFormed body) (ht : s.frameTimely c body)
    (h : s.fbit pgSaf (SAF.RX_STAT.FRESH c) = true ∨ (1 ≤ s.frameStep c body ∧ s.frameStep c body ≤ 1024)) :
    State.told (s.rxChecks body) =
      if bitsOf body 48 4 = 2 then (s.rxAccept c body).message (bitsOf body 128 32) else s.rxAccept c body := by
  have hz : ¬ (!s.fbit pgSaf (SAF.RX_STAT.FRESH c) && decide (s.frameStep c body = 0)) = true := by
    rcases h with h | h
    · simp [h]
    · simp; omega
  have hw : ¬ (!s.fbit pgSaf (SAF.RX_STAT.FRESH c) && decide (1024 < s.frameStep c body)) = true := by
    rcases h with h | h
    · simp [h]
    · simp; omega
  rw [State.rxChecks_timely hc hcrc hf ht, if_neg hz, if_neg hw]
  split <;> rfl

end

/-! What an accepted frame leaves (R402, R403). -/

theorem State.rxNamed_lt {id : Nat} (h : s.rxNamed id = some c) : c < 2 := by
  have hm := List.mem_of_mem_head? h
  have := (List.mem_filter.mp hm).1
  simp only [List.mem_cons, List.not_mem_nil, or_false] at this
  omega

theorem State.setConn_fget (s : State) (c : Nat) (x : ConnSt) (p : Nat) (f : Fld) : (s.setConn c x).fget p f = s.fget p f := rfl

/-- The registers of a connection that has accepted a frame. -/
def State.safetyNoted (s : State) (c body : Nat) : State :=
  ((((s.fset pgSaf (SAF.RX_STAT.LAST_SEQ c) (bitsOf body 32 16)).fset pgSaf (SAF.RX_STAT.FRESH c) 0).fset pgSaf
    (SAF.RX_STAT.ALIVE c) 1).fset pgSaf (SAF.RX_STAT.DEMAND c) (bitsOf body 52 4)).finc pgSaf SAF.RX_CNT.ACCEPTED

/-- A connection that has accepted a frame, before the demand trips its groups. -/
def State.safetyTaken (s : State) (c body : Nat) : State :=
  (s.safetyNoted c body).setConn c { (s.safetyNoted c body).conn c with lastAccept := s.mono }

theorem State.safetyTaken_fget (s : State) (c body p : Nat) (f : Fld) :
    (s.safetyTaken c body).fget p f = (s.safetyNoted c body).fget p f := by
  rw [State.safetyTaken, State.setConn_fget]

theorem State.safetyNoted_map (hc : c < 2) (body : Nat) :
    (s.safetyNoted c body).fget pgSaf (SAF.RX_CFG.MAP c) = s.fget pgSaf (SAF.RX_CFG.MAP c) := by
  unfold State.safetyNoted
  interval_cases c <;>
    rw [State.finc_fget_apart (by decide), State.fset_fget_apart (by decide), State.fset_fget_apart (by decide),
      State.fset_fget_apart (by decide), State.fset_fget_apart (by decide)]

theorem bitsOf_lt (v lo w : Nat) : bitsOf v lo w < 2 ^ w := Nat.mod_lt _ (Nat.two_pow_pos _)

theorem State.safetyNoted_seq (hc : c < 2) (body : Nat) :
    (s.safetyNoted c body).fget pgSaf (SAF.RX_STAT.LAST_SEQ c) = bitsOf body 32 16 := by
  have hv : bitsOf body 32 16 < 2 ^ 16 := bitsOf_lt ..
  unfold State.safetyNoted
  interval_cases c <;>
    rw [State.finc_fget_apart (by decide), State.fset_fget_apart (by decide), State.fset_fget_apart (by decide),
      State.fset_fget_apart (by decide), State.fset_fget (by decide) hv]

theorem State.safetyNoted_fresh (hc : c < 2) (body : Nat) : (s.safetyNoted c body).fget pgSaf (SAF.RX_STAT.FRESH c) = 0 := by
  unfold State.safetyNoted
  interval_cases c <;>
    rw [State.finc_fget_apart (by decide), State.fset_fget_apart (by decide), State.fset_fget_apart (by decide),
      State.fset_fget (by decide) (by decide)]

theorem State.safetyNoted_alive (hc : c < 2) (body : Nat) : (s.safetyNoted c body).fget pgSaf (SAF.RX_STAT.ALIVE c) = 1 := by
  unfold State.safetyNoted
  interval_cases c <;>
    rw [State.finc_fget_apart (by decide), State.fset_fget_apart (by decide), State.fset_fget (by decide) (by decide)]

theorem State.safetyNoted_demand (hc : c < 2) (body : Nat) :
    (s.safetyNoted c body).fget pgSaf (SAF.RX_STAT.DEMAND c) = bitsOf body 52 4 := by
  have hv : bitsOf body 52 4 < 2 ^ 4 := bitsOf_lt ..
  unfold State.safetyNoted
  interval_cases c <;> rw [State.finc_fget_apart (by decide), State.fset_fget (by decide) hv]

theorem State.safetyTaken_conn (s : State) (c body : Nat) : ((s.safetyTaken c body).conn c).lastAccept = s.mono := by
  have hself : (s.safetyTaken c body).conn c = { (s.safetyNoted c body).conn c with lastAccept := s.mono } := SMap.read_write_self ..
  rw [hself]

theorem State.safetyTaken_same (s : State) (c body : Nat) : State.SameBut [.safe, .page .saf] s (s.safetyTaken c body) :=
  State.setConn_same (State.finc_same (State.fset_same (State.fset_same (State.fset_same (State.fset_same
    (State.SameOutside.refl _ s) rfl rfl) rfl rfl) rfl rfl) rfl rfl) rfl rfl) rfl

theorem State.rxAccept_eq (hc : c < 2) (body : Nat) : s.rxAccept c body =
    (if bitsOf body 52 4 &&& s.fget pgSaf (SAF.RX_CFG.MAP c) = 0 then s.safetyTaken c body
      else (s.safetyTaken c body).tripWith false 3 (bitsOf body 52 4 &&& s.fget pgSaf (SAF.RX_CFG.MAP c))).evalGroups := by
  rw [← s.safetyNoted_map hc body, ← s.safetyTaken_fget c body]
  rfl

/-! ### Watchdogs (R402) -/

/-- How long a connection may go without a frame. -/
def State.watchMs (s : State) (c : Nat) : Nat :=
  let saf := s.fget pgSaf (SAF.RX_CFG.WD_MS c)
  let grd := if c = 0 then s.fget pgGrd GRD.CONN.WD0_MS else s.fget pgGrd GRD.CONN.WD1_MS
  if !s.rxEnGrd c then saf else if !s.rxEn c then grd else min saf grd

/-- A connection that has gone without a frame for too long is no longer alive. -/
def State.connLost (s : State) (c : Nat) : State :=
  (s.advanceTo ((s.conn c).lastAccept + s.watchMs c * 1000000)).fset pgSaf (SAF.RX_STAT.ALIVE c) 0

theorem State.connLost_fget (h : (SAF.RX_STAT.ALIVE c).Apart f) (p : Nat) : (s.connLost c).fget p f = s.fget p f :=
  (State.fset_fget_apart h).trans (State.advanceTo_fget ..)

/-- What the groups of a connection rest on. -/
theorem State.connLost_enabled (hc : c < 2) : (s.connLost c).rxEn c = s.rxEn c ∧ (s.connLost c).rxEnGrd c = s.rxEnGrd c ∧
    (s.connLost c).rxGroups c = s.rxGroups c := by
  have hen : (s.connLost c).rxEn c = s.rxEn c := by
    unfold State.rxEn State.fbit
    rw [State.connLost_fget (by interval_cases c <;> decide), State.connLost_fget (by interval_cases c <;> decide)]
  have hgrd : (s.connLost c).rxEnGrd c = s.rxEnGrd c := by
    unfold State.rxEnGrd State.fbit
    rw [State.connLost_fget (by interval_cases c <;> decide), State.connLost_fget (by interval_cases c <;> decide)]
  refine ⟨hen, hgrd, ?_⟩
  unfold State.rxGroups State.rxMapGrd
  rw [hen, hgrd, State.connLost_fget (by interval_cases c <;> decide), State.connLost_fget (by interval_cases c <;> decide),
    State.connLost_fget (by interval_cases c <;> decide)]

/-- A lost connection that is in use is told (R402). -/
def State.connTold (s : State) (c : Nat) : State :=
  if s.rxEn c || s.rxEnGrd c then (s.connLost c).evt pgSaf 13 else s.connLost c

theorem State.connTold_groups (hc : c < 2) : (s.connTold c).rxGroups c = s.rxGroups c := by
  have hp (u : State) : (u.evt pgSaf 13).rxGroups c = u.rxGroups c := by
    unfold State.rxGroups State.rxMapGrd State.rxEn State.rxEnGrd
    simp only [State.evt_fbit, State.evt_fget]
  unfold State.connTold
  split
  · rw [hp, (s.connLost_enabled hc).2.2]
  · exact (s.connLost_enabled hc).2.2

theorem State.watchdog_on (hc : c < 2) (ha : s.fbit pgSaf (SAF.RX_STAT.ALIVE c) = true) (hh : s.safe.handover = none) :
    s.watchdog c = ((s.connTold c).tripWith false 4 (s.rxGroups c)).evalGroups := by
  obtain ⟨hen, hgrd, -⟩ := s.connLost_enabled hc
  have htold : s.connTold c = if (s.connLost c).rxEn c || (s.connLost c).rxEnGrd c then (s.connLost c).evt pgSaf 13
      else s.connLost c := by rw [hen, hgrd]; rfl
  rw [← s.connTold_groups hc, htold]
  exact if_neg (by simp [ha, hh])

theorem State.watchdog_off (h : s.fbit pgSaf (SAF.RX_STAT.ALIVE c) = false ∨ s.safe.handover.isSome = true) : s.watchdog c = s :=
  if_pos (by rcases h with h | h <;> simp [h])

theorem State.connTold_alive (hc : c < 2) : (s.connTold c).fbit pgSaf (SAF.RX_STAT.ALIVE c) = false := by
  have hl : (s.connLost c).fbit pgSaf (SAF.RX_STAT.ALIVE c) = false := by
    rw [State.fbit, State.connLost, State.fset_fget (by interval_cases c <;> decide) (by interval_cases c <;> decide)]
    rfl
  unfold State.connTold
  split
  · rwa [State.evt_fbit]
  · exact hl

theorem State.connTold_mono (s : State) (c : Nat) :
    (s.connTold c).mono = max s.mono ((s.conn c).lastAccept + s.watchMs c * 1000000) := by
  have hl : (s.connLost c).mono = max s.mono ((s.conn c).lastAccept + s.watchMs c * 1000000) := by
    rw [State.connLost, State.fset_mono, State.advanceTo_mono]
  unfold State.connTold
  split
  · rwa [State.evt_mono]
  · exact hl

/-! ### The STATUS frame (R404) -/

/-- The instant of the next STATUS frame. -/
def State.statusDue (s : State) : State := s.advanceTo (s.safe.lastStatus + s.fget pgSaf SAF.TX_CFG.PERIOD_MS * 1000000)

theorem State.statusTx_off (h : s.fbit pgSaf SAF.CTL.TX_EN = false) : s.statusTx = s := if_neg (by simp [h])

theorem State.statusTx_on (h : s.fbit pgSaf SAF.CTL.TX_EN = true) : s.statusTx = s.statusDue.sendStatus := if_pos h

theorem State.sendStatus_sent (ht : s.fbit pgSaf SAF.CTL.TX_EN = true) (hd : s.domOn 1 = true) :
    s.sendStatus.fget pgSaf SAF.TX_STAT.SEQ = (s.fget pgSaf SAF.TX_STAT.SEQ + 1) % 65536 ∧
      s.sendStatus.Answers (.safetyFrame (s.statusBody ((s.fget pgSaf SAF.TX_STAT.SEQ + 1) % 65536))) ∧
      s.sendStatus.safe = { s.safe with lastStatus := s.mono, msgRefused := false } ∧ s.sendStatus.mono = s.mono := by
  have hseq : (s.fget pgSaf SAF.TX_STAT.SEQ + 1) % 65536 < 2 ^ 16 := Nat.mod_lt _ (by decide)
  unfold State.sendStatus
  rw [if_pos (by simp [ht, hd])]
  refine ⟨?_, State.emit_answers _ _, rfl, rfl⟩
  exact (State.fget_of_pages (s := s.fset pgSaf SAF.TX_STAT.SEQ ((s.fget pgSaf SAF.TX_STAT.SEQ + 1) % 65536)) rfl ..).trans
    (State.fset_fget (by decide) hseq)

/-! ### The statement -/

section
variable (hon : s.boot.powered = true)
include hon

theorem exec_safeInChange_on (n : Fin 4) (pinB high : Bool) :
    exec (.safeInChange n pinB high) s = .next (s.safeInChange n pinB high) :=
  congrArg Host.Outcome.next (State.live_on hon _)

theorem exec_safeInDemand_on (n : Fin 4) (pinB : Bool) : exec (.safeInDemand n pinB) s = .next (s.safeInDemand n pinB) :=
  congrArg Host.Outcome.next (State.live_on hon _)

theorem exec_inDisc_on (n : Fin 4) : exec (.inDisc n) s = .next (s.inDisc n) := congrArg Host.Outcome.next (State.live_on hon _)

theorem exec_safetyFrameRx_on (n : Fin 6) (cell : BitVec 288) :
    exec (.safetyFrameRx n cell) s = .next (s.safetyFrame n cell.toNat) :=
  congrArg Host.Outcome.next (State.live_on hon _)

theorem exec_watchdog_on (c : Fin 2) : exec (.watchdog c) s = .next (s.watchdog c) :=
  congrArg Host.Outcome.next (State.live_on hon _)

theorem exec_statusFrameTx_on : exec .statusFrameTx s = .next s.statusTx := congrArg Host.Outcome.next (State.live_on hon _)

end

/-- An accepted frame, up to its message. -/
theorem State.told_taken {body : Nat} (hc : s.rxNamed (bitsOf body 0 32) = some c)
    (hcrc : s.frameCrc c body = bitsOf body 160 32) (hf : frameFormed body) (ht : s.frameTimely c body)
    (h : s.fbit pgSaf (SAF.RX_STAT.FRESH c) = true ∨ (1 ≤ s.frameStep c body ∧ s.frameStep c body ≤ 1024)) :
    ∃ x : State, x.fget pgSaf (SAF.RX_STAT.LAST_SEQ c) = bitsOf body 32 16 ∧
      x.fbit pgSaf (SAF.RX_STAT.FRESH c) = false ∧ x.fbit pgSaf (SAF.RX_STAT.ALIVE c) = true ∧
      x.fget pgSaf (SAF.RX_STAT.DEMAND c) = bitsOf body 52 4 ∧ (x.conn c).lastAccept = s.mono ∧
      State.SameBut [.safe, .page .saf] s x ∧
      ∃ y : State, y = State.evalGroups (
        if bitsOf body 52 4 &&& s.fget pgSaf (SAF.RX_CFG.MAP c) = 0 then x
        else x.tripWith false 3 (bitsOf body 52 4 &&& s.fget pgSaf (SAF.RX_CFG.MAP c))) ∧
        State.told (s.rxChecks body) = if bitsOf body 48 4 = 2 then y.message (bitsOf body 128 32) else y := by
  have hlt := State.rxNamed_lt hc
  refine ⟨s.safetyTaken c body, ?_, ?_, ?_, ?_, s.safetyTaken_conn c body, s.safetyTaken_same c body, _, rfl, ?_⟩
  · rw [State.safetyTaken_fget, State.safetyNoted_seq hlt]
  · rw [State.fbit, State.safetyTaken_fget, State.safetyNoted_fresh hlt]
    rfl
  · rw [State.fbit, State.safetyTaken_fget, State.safetyNoted_alive hlt]
    rfl
  · rw [State.safetyTaken_fget, State.safetyNoted_demand hlt]
  · rw [← State.rxAccept_eq hlt]
    exact State.told_accepted hc hcrc hf ht h

/-- Settles O47: inputs, safety frames check by check, watchdogs and the STATUS frame. -/
theorem inputsAndFramesAreWatched : Obligations.InputsAndFramesAreWatched := by
  unfold Obligations.InputsAndFramesAreWatched
  intro s hon
  refine ⟨fun n pinB high => ?_, fun n pinB => ⟨fun he hp => ?_, fun h => ?_⟩, fun n => ⟨fun he hp => ?_, fun h => ?_⟩,
    fun n cell => ⟨fun h => ?_, fun w h2 h3 hw => ⟨fun u h => ?_, fun v u h => ⟨fun hu => ?_, fun hl hr hh => ⟨fun hm => ?_,
      fun hm hc => ?_, fun c hm hc => ?_⟩⟩⟩⟩, fun c => ⟨fun ha hh => ?_, fun h => ?_⟩, fun h => ?_, fun ht hd => ?_⟩
  case refine_1 =>
    obtain ⟨hA, hB, hdA, hdB, hlA, hlB⟩ := InputSt.changed_fields s.mono pinB high (s.input n)
    rw [exec_safeInChange_on hon, State.safeInChange_eq]
    refine ⟨_, rfl, ?_, ?_, ?_, ?_, ?_, ?_, ?_, fun k hk => State.inputShown_other hk,
      State.inputShown_same _ _ _ (State.SameOutside.refl _ s) rfl⟩
    case refine_7 => rw [State.inputShown_demand n.isLt, State.inputShown_self]
    all_goals rw [State.inputShown_self]; assumption
  case refine_2 =>
    have hself := State.inputShown_self (s.advanceTo (max ((s.input n).low pinB) (s.input n).enSince + s.filterNs n)) n
      ((s.input n).demanded pinB)
    rw [exec_safeInDemand_on hon, State.safeInDemand_on he hp]
    refine ⟨_, rfl, by rw [State.inputDemanded, State.inputShown_mono, State.advanceTo_mono]; rfl, fun hB => ?_, fun hA => ?_, ?_,
      State.inputShown_same _ _ _ (State.advanceTo_same (State.SameOutside.refl _ s) rfl) rfl⟩
    · rw [State.inputDemanded, hself, hB]
      rfl
    · rw [State.inputDemanded, hself, hA]
      rfl
    · rw [State.inputDemanded, State.inputShown_demand n.isLt]
      cases pinB <;> simp [InputSt.demanded]
  case refine_3 => rw [exec_safeInDemand_on hon, State.safeInDemand_off h]
  case refine_4 =>
    rw [exec_inDisc_on hon, State.inDisc_on he hp]
    exact ⟨_, rfl, by rw [State.discShown, State.setBit, State.fset_mono, State.advanceTo_mono], State.setBit_bit (by decide) n.isLt _ _,
      State.setBit_same (State.advanceTo_same (State.SameOutside.refl _ s) rfl) rfl rfl⟩
  case refine_5 => rw [exec_inDisc_on hon, State.inDisc_off h]
  case refine_6 => rw [exec_safetyFrameRx_on hon, State.safetyFrame_child h]
  case refine_7 =>
    subst hw
    rw [exec_safetyFrameRx_on hon, State.safetyFrame_unusable h2 h3 h]
  case refine_8 =>
    subst hw
    rw [exec_safetyFrameRx_on hon, State.safetyFrame_idle h2 h3 h hu]
  case refine_9 =>
    subst hw
    rw [exec_safetyFrameRx_on hon, State.safetyFrame_badMac h2 h3 h hl hr hh hm]
  case refine_10 =>
    subst hw
    rw [exec_safetyFrameRx_on hon, State.safetyFrame_checked h2 h3 h hl hr hh hm, State.rxChecks_unnamed hc]
    rfl
  case refine_11 =>
    subst hw
    rw [exec_safetyFrameRx_on hon, State.safetyFrame_checked h2 h3 h hl hr hh hm]
    refine ⟨fun hcrc => by rw [State.told_badCrc hc hcrc], fun hcrc => ⟨fun hbad => ?_, fun hk hres age step hage hstep => ?_⟩⟩
    · rw [State.told_badFormat hc hcrc fun ⟨hk, hres⟩ => ?_]
      rcases hbad with ⟨h1, h2⟩ | hres'
      · exact hk.elim h1 h2
      · rw [hres] at hres'
        cases hres'
    · subst hage hstep
      have hf : frameFormed v.body := ⟨hk, hres⟩
      refine ⟨fun hlate => by rw [State.told_untimely hc hcrc hf hlate], fun hlk hlo hhi => ?_⟩
      have ht : u.frameTimely c v.body := ⟨hlk, hlo, hhi⟩
      refine ⟨fun hfr hs => by rw [State.told_repeated hc hcrc hf ht hfr hs],
        fun hfr hs => by rw [State.told_outOfSequence hc hcrc hf ht hfr hs], fun hs => ?_⟩
      obtain ⟨x, h1, h2, h3, h4, h5, h6, y, hy, he⟩ := State.told_taken hc hcrc hf ht hs
      exact ⟨x, h1, h2, h3, h4, h5, h6, y, hy, congrArg Host.Outcome.next he⟩
  case refine_12 =>
    rw [exec_watchdog_on hon, State.watchdog_on c.isLt ha hh]
    refine ⟨_, rfl, State.connTold_alive c.isLt, fun hen => ?_, fun hen hgrd => ?_, ?_⟩
    · rw [State.connTold, if_pos (by simpa using hen)]
      exact State.evt_set _ _ _ (by decide)
    · rw [State.connTold_mono, State.watchMs, hen, hgrd]
      rfl
    · unfold State.connTold
      split
      · exact State.evt_same (State.fset_same (State.advanceTo_same (State.SameOutside.refl _ s) rfl) rfl rfl) rfl rfl
      · exact State.fset_same (State.advanceTo_same (State.SameOutside.refl _ s) rfl) rfl rfl
  case refine_13 => rw [exec_watchdog_on hon, State.watchdog_off h]
  case refine_14 => rw [exec_statusFrameTx_on hon, State.statusTx_off h]
  case refine_15 =>
    have hfget (f : Fld) (p : Nat) : s.statusDue.fget p f = s.fget p f := State.advanceTo_fget ..
    obtain ⟨hseq, hans, hsafe, hmono⟩ := State.sendStatus_sent (s := s.statusDue) (by rwa [State.fbit, hfget])
      (by rwa [State.domOn, hfget, hfget])
    rw [hfget] at hseq hans
    rw [exec_statusFrameTx_on hon, State.statusTx_on ht]
    refine ⟨_, s.statusDue, rfl, rfl, hmono, hseq, hans, ?_, State.sendStatus_same (State.advanceTo_same (State.SameOutside.refl _ s)
      rfl) rfl⟩
    rw [hsafe, hmono, State.statusDue, State.advanceTo_safe]

end Sys2Proof.Machine
end

section
/-! PROOFS. Demands for conversions, and what a conversion takes of its readings (R448 to R453, R464). -/

namespace Sys2Proof.Machine

variable {s t : State} {n k p q i v value sensors : Nat} {f g src : Fld} {mr4 : Bool}

/-! ### Conversions and demands (R448, R449) -/

theorem State.domOn_of_fget (h : ∀ f, t.fget pgPwr f = s.fget pgPwr f) (d : Nat) : t.domOn d = s.domOn d := by
  unfold State.domOn
  rw [h, h]

/-- Whether a conversion asks MEM for an MR4 read (R449). -/
def State.asksMr4 (s : State) (mr4 : Bool) : Bool := mr4 && s.domOn 8 && s.fget pgMem MEM.STAT.STATE = 2

theorem State.asksMr4_of_fget (h : ∀ f, t.fget pgPwr f = s.fget pgPwr f) (h' : t.fget pgMem MEM.STAT.STATE = s.fget pgMem MEM.STAT.STATE) :
    t.asksMr4 mr4 = s.asksMr4 mr4 := by
  unfold State.asksMr4
  rw [State.domOn_of_fget h, h']

/-- A conversion of some sensors runs. -/
def State.convertRuns (s : State) (sensors : Nat) : State :=
  { s.fset pgThm THM.STAT.BUSY 1 with thm := { s.thm with converting := sensors &&& s.fget pgThm THM.CFG.EN } }

theorem State.convertRuns_fget (s : State) (sensors p : Nat) (f : Fld) :
    (s.convertRuns sensors).fget p f = (s.fset pgThm THM.STAT.BUSY 1).fget p f := State.fget_of_pages rfl p f

theorem State.convertRuns_asksMr4 (s : State) (sensors : Nat) : (s.convertRuns sensors).asksMr4 mr4 = s.asksMr4 mr4 := by
  refine State.asksMr4_of_fget (fun f => ?_) ?_
  · rw [State.convertRuns_fget, State.fget_fset_page _ _ _ _ _ _ (by decide)]
  · rw [State.convertRuns_fget, State.fget_fset_page _ _ _ _ _ _ (by decide)]

theorem State.convert_eq (s : State) (sensors : Nat) (mr4 : Bool) : s.convert sensors mr4 =
    if s.asksMr4 mr4 = true then { s.convertRuns sensors with mem := { s.mem with mr4Due := true } }
    else s.convertRuns sensors := by
  have hruns : { s.fset pgThm THM.STAT.BUSY 1 with
      thm := { s.thm with converting := sensors &&& (s.fset pgThm THM.STAT.BUSY 1).fget pgThm THM.CFG.EN } } =
      s.convertRuns sensors := by
    rw [State.fset_fget_apart (by decide)]
    rfl
  rw [← s.convertRuns_asksMr4 sensors, ← hruns]
  rfl

theorem State.convert_thm (s : State) (sensors : Nat) (mr4 : Bool) :
    (s.convert sensors mr4).thm = { s.thm with converting := sensors &&& s.fget pgThm THM.CFG.EN } := by
  rw [State.convert_eq]
  split <;> rfl

theorem State.convert_mem (h : s.asksMr4 mr4 = true) : (s.convert sensors mr4).mem = { s.mem with mr4Due := true } := by
  rw [State.convert_eq, if_pos h]

theorem State.convert_fget (s : State) (sensors : Nat) (mr4 : Bool) (p : Nat) (f : Fld) :
    (s.convert sensors mr4).fget p f = (s.fset pgThm THM.STAT.BUSY 1).fget p f := by
  rw [State.convert_eq, ← s.convertRuns_fget sensors]
  split
  · exact State.fget_of_pages rfl p f
  · rfl

theorem State.convert_hdr (s : State) (sensors : Nat) (mr4 : Bool) (p : Nat) : (s.convert sensors mr4).hdr p = s.hdr p := by
  rw [State.convert_eq]
  split <;> rfl

theorem State.convert_busy (s : State) (sensors : Nat) (mr4 : Bool) : (s.convert sensors mr4).fbit pgThm THM.STAT.BUSY = true := by
  unfold State.fbit
  rw [State.convert_fget, State.fset_fget (by decide) (by decide), decide_eq_true rfl]

/-- The demands that wait once another has come. -/
def ThmSt.joined (x : ThmSt) (sensors : Nat) (mr4 : Bool) : ThmSt :=
  { x with waiting := some (match x.waiting with
      | some (k, r) => (k ||| sensors, r || mr4)
      | none => (sensors, mr4)) }

theorem State.demand_idle (hs : src.lo + src.w ≤ 32) (hoff : src.off % 0x1000 ≠ 0x044) (h : s.fbit pgThm THM.STAT.BUSY = false) :
    s.demand src sensors mr4 = (s.finc pgThm src).convert sensors mr4 := by
  have hb : (s.finc pgThm src).fbit pgThm THM.STAT.BUSY = false := by
    rw [← h]
    exact State.fbit_of_fget (State.finc_fget_apart ⟨hs, .inl hoff.symm⟩)
  exact if_neg (by rw [hb]; decide)

theorem State.demand_waits (hs : src.lo + src.w ≤ 32) (hoff : src.off % 0x1000 ≠ 0x044) (h : s.fbit pgThm THM.STAT.BUSY = true) :
    s.demand src sensors mr4 = { s.finc pgThm src with thm := s.thm.joined sensors mr4 } := by
  have hb : (s.finc pgThm src).fbit pgThm THM.STAT.BUSY = true := by
    rw [← h]
    exact State.fbit_of_fget (State.finc_fget_apart ⟨hs, .inl hoff.symm⟩)
  exact if_pos hb

/-- What a demand of a source leaves: it is counted, a conversion runs, and it starts one or joins those that wait. -/
theorem State.demand_keeps (hs : src.lo + src.w ≤ 32) (hoff : src.off = 0x04C) (s : State) (sensors : Nat) (mr4 : Bool) :
    (s.demand src sensors mr4).fget pgThm src = min (s.fget pgThm src + 1) (2 ^ src.w - 1) ∧
      (s.demand src sensors mr4).fbit pgThm THM.STAT.BUSY = true ∧
      (s.fbit pgThm THM.STAT.BUSY = false →
        (s.demand src sensors mr4).thm = { s.thm with converting := sensors &&& s.fget pgThm THM.CFG.EN } ∧
        (s.asksMr4 mr4 = true → (s.demand src sensors mr4).mem = { s.mem with mr4Due := true })) ∧
      (s.fbit pgThm THM.STAT.BUSY = true → (s.demand src sensors mr4).mem = s.mem ∧
        (s.demand src sensors mr4).thm = s.thm.joined sensors mr4) := by
  have hoff' : src.off % 0x1000 ≠ 0x044 := by rw [hoff]; decide
  have hne : src.off % 0x1000 ≠ THM.STAT.BUSY.off % 0x1000 := hoff'
  have hcfg : (s.finc pgThm src).fget pgThm THM.CFG.EN = s.fget pgThm THM.CFG.EN :=
    State.finc_fget_apart ⟨hs, .inl (by rw [hoff]; decide)⟩
  have hasks : (s.finc pgThm src).asksMr4 mr4 = s.asksMr4 mr4 :=
    State.asksMr4_of_fget (fun f => State.fget_fset_page _ _ _ _ _ _ (by decide)) (State.fget_fset_page _ _ _ _ _ _ (by decide))
  cases h : s.fbit pgThm THM.STAT.BUSY with
  | false =>
    rw [State.demand_idle hs hoff' h]
    refine ⟨?_, State.convert_busy .., fun _ => ⟨?_, fun ha => ?_⟩, fun hc => absurd hc (by decide)⟩
    · rw [State.convert_fget, State.fset_fget_apart ⟨by decide, .inl hne⟩, State.finc_fget hs]
    · rw [State.convert_thm, hcfg, State.finc_thm]
    · rw [State.convert_mem (hasks.trans ha)]
      rfl
  | true =>
    rw [State.demand_waits hs hoff' h]
    refine ⟨?_, ?_, fun hc => absurd hc (by decide), fun _ => ⟨rfl, rfl⟩⟩
    · rw [← State.finc_fget hs]
      exact State.fget_of_pages rfl _ _
    · rw [← h]
      exact State.fbit_of_fget ((State.fget_of_pages (s := s.finc pgThm src) rfl _ _).trans (State.finc_fget_apart ⟨hs, .inl hoff'.symm⟩))


/-! ### The demands of a master, the guard and SCAL (R448, R464) -/

theorem State.blockHook_demand (s : State) (m v : Nat) : s.blockHook m pgThm THM.DEMAND.MR4.off v =
    s.demand THM.DEMAND_CNT.REG (v % 4096) (bit v 12) := by
  unfold State.blockHook
  rw [show pageOf pgThm = some (.thm, 0) from rfl]
  rfl

theorem exec_thmDemand_on (h : s.boot.powered = true) (m : Master) (sensors : BitVec 12) (mr4 : Bool) :
    exec (.thmDemand m sensors mr4) s = .next (s.writeReg m.id pgThm THM.DEMAND.MR4.off (sensors.toNat + 4096 * b2n mr4)) :=
  congrArg Host.Outcome.next (State.live_on h _)

theorem exec_guardDemand_on (h : s.boot.powered = true) : exec .guardDemand s = .next s.guardDemand :=
  congrArg Host.Outcome.next (State.live_on h _)

theorem exec_scalCheck_on (h : s.boot.powered = true) : exec .scalCheck s = .next s.scalCheck :=
  congrArg Host.Outcome.next (State.live_on h _)

theorem exec_thmConversionDone_on (h : s.boot.powered = true) (values : List (BitVec 16)) (bad : BitVec 12) :
    exec (.thmConversionDone values bad) s = .next (s.conversionDone (values.map BitVec.toNat) bad.toNat) :=
  congrArg Host.Outcome.next (State.live_on h _)

/-- The state that a write of DEMAND stores, in which no word has changed. -/
def State.demandStored (s : State) (v : Nat) : State := s.storeBlock (addrOf pgThm THM.DEMAND.MR4.off) v { off := 0x040, wo := 0x1FFF }

theorem State.demandStored_fget (s : State) (v p : Nat) (f : Fld) : (s.demandStored v).fget p f = s.fget p f :=
  State.fget_of_word (State.storeBlock_writeOnly_word (by decide) (by decide))

theorem State.demandStored_same (s : State) (v m : Nat) : State.SameOutside m s (s.demandStored v) :=
  State.storeBlock_writeOnly_same (by decide) (by decide)

theorem State.demandWrite_eq {m : Nat} {sensors : BitVec 12} (h : s.writes m pgThm THM.DEMAND.MR4.off (sensors.toNat + 4096 * b2n mr4) = true) :
    s.writeReg m pgThm THM.DEMAND.MR4.off (sensors.toNat + 4096 * b2n mr4) =
      ((s.demandStored (sensors.toNat + 4096 * b2n mr4)).demand THM.DEMAND_CNT.REG sensors.toNat mr4).emit (.access m 0 0) := by
  have hsensors := sensors.isLt
  have hv : sensors.toNat + 4096 * b2n mr4 < 2 ^ 13 := by cases mr4 <;> simp [b2n] <;> omega
  have hbit : bit (sensors.toNat + 4096 * b2n mr4) 12 = mr4 := by
    unfold bit
    cases mr4 <;> simp [b2n, Nat.shiftRight_eq_div_pow] <;> omega
  have hlow : (sensors.toNat + 4096 * b2n mr4) % 4096 = sensors.toNat := by omega
  rw [State.writeReg_writeOnly (ty := .thm) (i := 0) (j := 0) (r := { off := 0x040, wo := 0x1FFF }) h (by decide) (by decide) rfl
    (by decide) rfl (by decide) (by decide) (by decide) (Nat.lt_trans hv (by decide))
    (hookStores_other (by decide) (by decide) (by decide) (by decide)), State.blockHook_demand, hbit, hlow]
  rfl

/-- The clock at an instant that PWR's guard remembers as its last. -/
def State.guardAt (s : State) (i : Nat) : State := { s.advanceTo i with pwr := { s.pwr with lastGuard := (s.advanceTo i).mono } }

theorem State.guardAt_fget (s : State) (i p : Nat) (f : Fld) : (s.guardAt i).fget p f = s.fget p f :=
  State.fget_of_pages (State.advanceTo_pages s i) p f

theorem State.guardAt_same (s : State) (i : Nat) : State.SameBut [.mono, .time, .pwr] s (s.guardAt i) :=
  State.SameOutside.set_pwr (State.advanceTo_same (State.SameOutside.refl _ s) rfl) rfl

theorem State.guardAt_domOn (s : State) (i d : Nat) : (s.guardAt i).domOn d = s.domOn d :=
  State.domOn_of_fget (fun f => s.guardAt_fget i pgPwr f) d

theorem any_domOn_iff : (List.range 18).any (fun d => s.domOn (d + 1)) = true ↔ ∃ d, 1 ≤ d ∧ d ≤ 18 ∧ s.domOn d = true := by
  rw [List.any_eq_true]
  constructor
  · rintro ⟨d, hd, hon⟩
    exact ⟨d + 1, by omega, by have := List.mem_range.mp hd; omega, hon⟩
  · rintro ⟨d, h1, h18, hon⟩
    exact ⟨d - 1, List.mem_range.mpr (by omega), by rwa [Nat.sub_add_cancel h1]⟩

/-- A guard that comes at an instant demands the enabled sensors while a domain is ON. -/
def State.guardComes (s : State) (i : Nat) : State :=
  if (List.range 18).any (fun d => s.domOn (d + 1)) = true then
    (s.guardAt i).demand THM.DEMAND_CNT.PWR (s.fget pgThm THM.CFG.EN) (s.domOn 8)
  else s.guardAt i

theorem State.guardDemand_eq (s : State) :
    s.guardDemand = s.guardComes (s.pwr.lastGuard + s.fget pgThm THM.CFG.GUARD_MS * 1000000) := by
  unfold State.guardDemand
  generalize s.pwr.lastGuard + s.fget pgThm THM.CFG.GUARD_MS * 1000000 = i
  unfold State.guardComes
  rw [← s.guardAt_fget i pgThm, ← s.guardAt_domOn i 8]
  simp only [← s.guardAt_domOn i]
  have hpwr : (s.advanceTo i).pwr = s.pwr := State.advanceTo_same (m := partsMask [.mono, .time]) (State.SameOutside.refl _ s) rfl .pwr (by decide)
  rw [hpwr]
  rfl

/-- The clock at an instant that SCAL remembers as its last check. -/
def State.scalAt (s : State) (i : Nat) : State := { s.advanceTo i with scal := { s.scal with lastCheck := (s.advanceTo i).mono } }

theorem State.scalAt_fget (s : State) (i p : Nat) (f : Fld) : (s.scalAt i).fget p f = s.fget p f :=
  State.fget_of_pages (State.advanceTo_pages s i) p f

theorem State.scalAt_same (s : State) (i : Nat) : State.SameBut [.mono, .time, .scal] s (s.scalAt i) :=
  State.SameOutside.set_scal (State.advanceTo_same (State.SameOutside.refl _ s) rfl) rfl

/-- A check of SCAL that comes at an instant demands every sensor while SCAL is enabled. -/
def State.scalComes (s : State) (i : Nat) : State :=
  if s.fbit pgScal SCAL.CTL.EN = true then (s.scalAt i).demand THM.DEMAND_CNT.SCAL 0xFFF false else s.scalAt i

theorem State.scalCheck_eq (s : State) :
    s.scalCheck = s.scalComes (s.scal.lastCheck + s.fget pgScal SCAL.CTL.CHECK_MS * 1000000) := by
  unfold State.scalCheck
  generalize s.scal.lastCheck + s.fget pgScal SCAL.CTL.CHECK_MS * 1000000 = i
  unfold State.scalComes
  rw [← State.fbit_of_fget (s.scalAt_fget i pgScal SCAL.CTL.EN)]
  have hscal : (s.advanceTo i).scal = s.scal := State.advanceTo_same (m := partsMask [.mono, .time]) (State.SameOutside.refl _ s) rfl .scal (by decide)
  dsimp only
  rw [hscal]
  rfl

/-- All sensors of a demand are the enabled ones. -/
theorem State.all_and_enabled (s : State) : 0xFFF &&& s.fget pgThm THM.CFG.EN = s.fget pgThm THM.CFG.EN := by
  rw [Nat.and_comm, show (0xFFF : Nat) = 2 ^ 12 - 1 from rfl, Nat.and_two_pow_sub_one_eq_mod]
  exact Nat.mod_eq_of_lt (State.fget_lt ..)

/-! ### What a reading leaves (R450 to R453) -/

/-- A field of THM that judging a sensor's reading leaves alone. -/
def Fld.OutsideJudging (n : Nat) (f : Fld) : Prop :=
  f.off % 0x1000 ≠ 0x044 ∧ f.off % 0x1000 ≠ 0x0F8 ∧ f.off % 0x1000 ≠ 0x100 + 4 * n ∧
    (f.off % 0x1000 ≠ 0x0C0 + 4 * n ∨ f.lo + f.w ≤ 20)

theorem State.roundFree_pages (s : State) (num : Int) (den : Nat) : (s.roundFree num den).2.pages = s.pages := by
  unfold State.roundFree
  split <;> rfl

theorem State.fit16_pages (s : State) (lo hi x : Int) : (s.fit16 lo hi x).2.pages = s.pages := by
  unfold State.fit16
  split <;> rfl

theorem State.compensate_thm_fget (s : State) (n value : Nat) (f : Fld) : (s.compensate n value).fget pgThm f = s.fget pgThm f :=
  (State.compensate_same (m := 16777216) (State.SameOutside.refl _ s) rfl).fget (ty := .thm) rfl (by decide)

theorem State.thmStat_fget (h : f.off % 0x1000 ≠ 0x044) (s : State) : s.thmStat.fget pgThm f = s.fget pgThm f := by
  unfold State.thmStat
  dsimp only
  iterate 4 rw [State.fsetB_fget_apart ⟨by decide, .inl h⟩]

/-- A sensor's flag of one level, judged against it; reaching it is an event. -/
def State.levelJudged (s : State) (t h : Int) (f : Fld) (l : Int) (force : Bool) (e : Nat) : State :=
  let was := s.fbit pgThm f
  let now := levelHeld was t l h || force
  let s := s.fsetB pgThm f now
  if now && !was then s.evt pgThm e else s

theorem State.levelJudged_fget {t h l : Int} {force : Bool} {e : Nat} (hg : g.Apart f) :
    (s.levelJudged t h g l force e).fget pgThm f = s.fget pgThm f := by
  unfold State.levelJudged
  dsimp only
  rw [apply_ite (fun u : State => u.fget pgThm f), State.evt_fget, ite_self, State.fsetB_fget_apart hg]

/-- The levels of a sensor judged. -/
def State.levelsJudged (s : State) (n : Nat) (t : Int) (rise : Bool) : State :=
  let h : Int := s.fget pgThm (THM.TS_LIM.HYST n)
  let u := s.levelJudged t h (THM.TS.WARN n) (s.level (THM.TS_LIM.WARN n)) false 8
  let w := u.levelJudged t h (THM.TS.DERATE n) (u.level (THM.TS_LIM.DERATE n)) rise 9
  w.levelJudged t h (THM.TS.TRIP n) (w.level (THM.TS_LIM.TRIP n)) false 10

theorem State.levelsJudged_fget (hn : n < 12) (h : f.OutsideJudging n) (s : State) (t : Int) (rise : Bool) :
    (s.levelsJudged n t rise).fget pgThm f = s.fget pgThm f := by
  obtain ⟨-, -, -, hts⟩ := h
  have hapart (g : Fld) (ho : g.off = 0x0C0 + 4 * n) (hlo : 20 ≤ g.lo) (hw : g.lo + g.w ≤ 32) : g.Apart f := ⟨hw, by omega⟩
  unfold State.levelsJudged
  dsimp only
  rw [State.levelJudged_fget (hapart (THM.TS.TRIP n) rfl (by simp [THM.TS.TRIP]) (by simp [THM.TS.TRIP])),
    State.levelJudged_fget (hapart (THM.TS.DERATE n) rfl (by simp [THM.TS.DERATE]) (by simp [THM.TS.DERATE])),
    State.levelJudged_fget (hapart (THM.TS.WARN n) rfl (by simp [THM.TS.WARN]) (by simp [THM.TS.WARN]))]

theorem State.judge_eq (s : State) (n : Nat) (x : Int) (rise : Bool) : s.judge n x rise =
    (s.levelsJudged n x rise).thmStat.tripReport x ((s.levelsJudged n x rise).level (THM.TS_LIM.TRIP n)) := rfl

theorem Fld.outsideJudging_trip (hn : n < 12) : (THM.TS_LIM.TRIP n).OutsideJudging n := by
  simp only [Fld.OutsideJudging, THM.TS_LIM.TRIP]
  omega

/-- A reading below TRIP is judged without a report. -/
theorem State.judge_below {x : Int} (hn : n < 12) (s : State) (rise : Bool) (h : x < 16 * s.level (THM.TS_LIM.TRIP n)) :
    s.judge n x rise = (s.levelsJudged n x rise).thmStat := by
  have hlevel : (s.levelsJudged n x rise).level (THM.TS_LIM.TRIP n) = s.level (THM.TS_LIM.TRIP n) := by
    unfold State.level State.fgetI
    rw [State.levelsJudged_fget hn (Fld.outsideJudging_trip hn)]
  rw [State.judge_eq, hlevel]
  exact if_neg (not_le.mpr h)

/-- A sensor's reference for the next rate is taken (R453). -/
def State.refTaken (s : State) (n value : Nat) : State :=
  { s with thm := { s.thm with ref := SMap.write none s.thm.ref n (some (value, s.mono)) } }

theorem State.refTaken_fget (s : State) (n value p : Nat) (f : Fld) : (s.refTaken n value).fget p f = s.fget p f :=
  State.fget_of_pages rfl p f

/-- A sensor's rate is shown, and whether it exceeds the limit; its reference is taken. -/
def State.rateShown (s : State) (n value rate : Nat) (rise : Bool) : State :=
  ((s.fset pgThm (THM.TS_RATE.RATE n) rate).fsetB pgThm (THM.TS.RISE n) rise).refTaken n value

theorem State.rateShown_fget (hn : n < 12) (h : f.OutsideJudging n) (s : State) (value rate : Nat) (rise : Bool) :
    (s.rateShown n value rate rise).fget pgThm f = s.fget pgThm f := by
  obtain ⟨-, -, hrate, hts⟩ := h
  unfold State.rateShown
  rw [State.refTaken_fget, State.fsetB_fget_apart ⟨by simp [THM.TS.RISE], by simp only [THM.TS.RISE]; omega⟩,
    State.fset_fget_apart ⟨by simp [THM.TS_RATE.RATE], .inl (by simp only [THM.TS_RATE.RATE]; omega)⟩]

/-- A rate is not taken, takes a first reference, or is shown and, beyond the limit, counted. -/
theorem State.rate_cases (s : State) (n value : Nat) : (s.rate n value).1 = s ∨ (s.rate n value).1 = s.refTaken n value ∨
    ∃ (u : State) (x : Nat) (rise : Bool), u.pages = s.pages ∧ ((s.rate n value).1 = u.rateShown n value x rise ∨
      (s.rate n value).1 = ((u.rateShown n value x rise).finc pgThm THM.RISE_CNT.COUNT).evt pgThm 12) := by
  unfold State.rate
  split
  · exact .inr (.inl rfl)
  · rename_i r since _
    dsimp only
    split
    · exact .inl rfl
    · let quotient := s.roundFree ((sgn 16 value - sgn 16 r) * 1000000000) (s.mono - since)
      let shown := quotient.2.fit16 (-32768) 32767 quotient.1
      refine .inr (.inr ⟨shown.2, shown.1, decide ((s.fget pgThm (THM.TS_RISE.RISE n) : Int) * 16 * ((s.mono - since : Nat) : Int) <
        (sgn 16 value - sgn 16 r) * 1000000000), (State.fit16_pages ..).trans (State.roundFree_pages ..), ?_⟩)
      split
      · exact .inr rfl
      · exact .inl rfl

/-- The rate of a reading leaves the reading and the limits alone. -/
theorem State.rate_fget (hn : n < 12) (h : f.OutsideJudging n) (s : State) (value : Nat) :
    (s.rate n value).1.fget pgThm f = s.fget pgThm f := by
  rcases s.rate_cases n value with he | he | ⟨u, x, rise, hu, he | he⟩
  · rw [he]
  · rw [he, State.refTaken_fget]
  · rw [he, State.rateShown_fget hn h, State.fget_of_pages hu]
  · rw [he, State.evt_fget, State.finc_fget_apart ⟨by decide, .inl h.2.1⟩, State.rateShown_fget hn h, State.fget_of_pages hu]

/-- A reading of a sensor shown as sound. -/
def State.readingShown (s : State) (n value : Nat) : State :=
  (((s.fset pgThm (THM.TS.VALID n) 1).fset pgThm (THM.TS.KIND n) 0).fsetB pgThm (THM.TS.BROKEN n) false).fset pgThm
    (THM.TS.VALUE n) value

/-- A sound reading with its rate, its levels and its trims. -/
def State.readingTaken (s : State) (n value : Nat) : State :=
  let r := (s.readingShown n value).rate n value
  (r.1.judge n (sgn 16 value) r.2).compensate n value

theorem State.reading_sound (hlo : -800 ≤ sgn 16 value) (hhi : sgn 16 value ≤ 2400) (s : State) (n : Nat) :
    s.reading n value false = (s.readingTaken n value).scalReading n value := by
  have hkind : (if false = true then 1 else if sgn 16 value < -800 then 2 else if 2400 < sgn 16 value then 3 else 0) = 0 := by
    rw [if_neg (by decide), if_neg (by omega), if_neg (by omega)]
  unfold State.reading
  dsimp -zeta only
  extract_lets t kind shown sound valued
  have h0 : kind = 0 := hkind
  have hvalued : valued = s.readingShown n value := by
    simp only [valued, sound, shown, h0, ne_eq, not_true_eq_false, decide_false]
    rfl
  rw [if_pos h0, hvalued]
  rfl

theorem State.readingShown_fget (hn : n < 12) (hv : value < 65536) (s : State) :
    (s.readingShown n value).fget pgThm (THM.TS.VALUE n) = value ∧ (s.readingShown n value).fget pgThm (THM.TS.VALID n) = 1 ∧
      (s.readingShown n value).fget pgThm (THM.TS.BROKEN n) = 0 ∧
      (s.readingShown n value).fget pgThm (THM.TS_LIM.TRIP n) = s.fget pgThm (THM.TS_LIM.TRIP n) := by
  have hapart (g h : Fld) (hw : g.lo + g.w ≤ 32) (hg : h.lo + h.w ≤ g.lo ∨ g.lo + g.w ≤ h.lo) : g.Apart h := ⟨hw, .inr hg⟩
  have hlim (g : Fld) (ho : g.off = 0x0C0 + 4 * n) (hw : g.lo + g.w ≤ 32) : g.Apart (THM.TS_LIM.TRIP n) :=
    ⟨hw, .inl (by simp only [THM.TS_LIM.TRIP]; omega)⟩
  unfold State.readingShown
  refine ⟨State.fset_fget (by simp [THM.TS.VALUE]) (by simpa [THM.TS.VALUE]), ?_, ?_, ?_⟩
  · rw [State.fset_fget_apart (hapart _ _ (by simp [THM.TS.VALUE]) (by simp [THM.TS.VALUE, THM.TS.VALID])),
      State.fsetB_fget_apart (hapart _ _ (by simp [THM.TS.BROKEN]) (by simp [THM.TS.BROKEN, THM.TS.VALID])),
      State.fset_fget_apart (hapart _ _ (by simp [THM.TS.KIND]) (by simp [THM.TS.KIND, THM.TS.VALID])),
      State.fset_fget (by simp [THM.TS.VALID]) (by simp [THM.TS.VALID])]
  · rw [State.fset_fget_apart (hapart _ _ (by simp [THM.TS.VALUE]) (by simp [THM.TS.VALUE, THM.TS.BROKEN]))]
    exact State.fset_fget (by simp [THM.TS.BROKEN]) (Nat.two_pow_pos _)
  · rw [State.fset_fget_apart (hlim _ rfl (by simp [THM.TS.VALUE])), State.fsetB_fget_apart (hlim _ rfl (by simp [THM.TS.BROKEN])),
      State.fset_fget_apart (hlim _ rfl (by simp [THM.TS.KIND])), State.fset_fget_apart (hlim _ rfl (by simp [THM.TS.VALID]))]

/-- A sound reading below TRIP stands in its register once it has been taken. -/
theorem State.readingTaken_fget (hn : n < 12) (hf : f.OutsideJudging n) (h : sgn 16 value < 16 * s.level (THM.TS_LIM.TRIP n))
    (hv : value < 65536) : (s.readingTaken n value).fget pgThm f = (s.readingShown n value).fget pgThm f := by
  have hlevel : ((s.readingShown n value).rate n value).1.level (THM.TS_LIM.TRIP n) = s.level (THM.TS_LIM.TRIP n) := by
    unfold State.level State.fgetI
    rw [State.rate_fget hn (Fld.outsideJudging_trip hn), (State.readingShown_fget hn hv s).2.2.2]
  unfold State.readingTaken
  dsimp only
  rw [State.compensate_thm_fget, State.judge_below hn _ _ (by rwa [hlevel]), State.thmStat_fget hf.1, State.levelsJudged_fget hn hf,
    State.rate_fget hn hf]

/-! ### The end of a conversion (R449) -/

/-- The readings of a conversion, in the order of their sensors. -/
def State.readingsTaken (s : State) (values : List Nat) (bad : Nat) : State :=
  (bitsSet s.thm.converting 12).foldl (fun s n => s.reading n (values.getD n 0) (bit bad n)) s

/-- When a conversion ended is shown and counted, and that none runs. -/
def State.conversionShown (s : State) : State :=
  ((s.fset64 pgThm THM.LAST_CONV_LO.NS THM.LAST_CONV_HI.NS s.now).finc pgThm THM.STAT.CONVERSIONS).fset pgThm THM.STAT.BUSY 0

/-- No sensor is converted. -/
def State.convertsNone (s : State) : State := { s with thm := { s.thm with converting := 0 } }

theorem State.convertsNone_fget (s : State) (p : Nat) (f : Fld) : s.convertsNone.fget p f = s.fget p f := State.fget_of_pages rfl p f

/-- A conversion has ended. -/
def State.conversionEnded (s : State) : State := s.conversionShown.convertsNone.evt pgThm 13

/-- The demands that wait start the next conversion. -/
def State.waitingServed (s : State) : State :=
  match s.thm.waiting with
  | some (m, r) => { s with thm := { s.thm with waiting := none } }.convert m r
  | none => s

theorem State.conversionDone_idle (h : s.fbit pgThm THM.STAT.BUSY = false) (values : List Nat) (bad : Nat) :
    s.conversionDone values bad = s := if_pos (by rw [h]; rfl)

theorem State.conversionDone_busy (h : s.fbit pgThm THM.STAT.BUSY = true) (values : List Nat) (bad : Nat) :
    s.conversionDone values bad = (s.readingsTaken values bad).conversionEnded.waitingServed := if_neg (by rw [h]; decide)

theorem State.conversionEnded_same (s : State) : State.SameBut [.thm, .out, .page .thm] s s.conversionEnded :=
  State.evt_same (State.SameOutside.set_thm (State.fset_same (State.finc_same
    (State.fset64_same (State.SameOutside.refl _ s) rfl rfl) rfl rfl) rfl rfl) rfl) rfl rfl

theorem State.conversionEnded_thm (s : State) : s.conversionEnded.thm = { s.thm with converting := 0 } :=
  (State.evt_same (m := partsMask [.out, .page .thm]) (State.SameOutside.refl _ _) rfl rfl) .thm (by decide)

theorem State.conversionEnded_fget (s : State) (f : Fld) : s.conversionEnded.fget pgThm f = s.conversionShown.fget pgThm f :=
  (State.evt_fget ..).trans (s.conversionShown.convertsNone_fget pgThm f)

theorem State.conversionShown_fget (h : THM.STAT.BUSY.Apart f) (h' : THM.STAT.CONVERSIONS.Apart f) (s : State) :
    s.conversionShown.fget pgThm f = (s.fset64 pgThm THM.LAST_CONV_LO.NS THM.LAST_CONV_HI.NS s.now).fget pgThm f := by
  unfold State.conversionShown
  rw [State.fset_fget_apart h, State.finc_fget_apart h']

theorem State.lastConv_fget (h : THM.LAST_CONV_LO.NS.Apart f) (h' : THM.LAST_CONV_HI.NS.Apart f) (s : State) (v : Nat) :
    (s.fset64 pgThm THM.LAST_CONV_LO.NS THM.LAST_CONV_HI.NS v).fget pgThm f = s.fget pgThm f :=
  (State.fset_fget_apart h').trans (State.fset_fget_apart h)

theorem State.conversionEnded_last (s : State) :
    s.conversionEnded.fget64 pgThm THM.LAST_CONV_LO.NS THM.LAST_CONV_HI.NS = s.now % 2 ^ 64 := by
  rw [← State.fset64_fget64 (s := s) (p := pgThm) (v := s.now) (lo := THM.LAST_CONV_LO.NS) (hi := THM.LAST_CONV_HI.NS)
    (by decide) (by decide) rfl rfl (by decide)]
  unfold State.fget64
  rw [State.conversionEnded_fget, State.conversionEnded_fget, State.conversionShown_fget (by decide) (by decide),
    State.conversionShown_fget (by decide) (by decide)]

theorem State.conversionEnded_count (s : State) :
    s.conversionEnded.fget pgThm THM.STAT.CONVERSIONS = min (s.fget pgThm THM.STAT.CONVERSIONS + 1) 65535 := by
  rw [State.conversionEnded_fget, State.conversionShown, State.fset_fget_apart (by decide), State.finc_fget (by decide),
    State.lastConv_fget (by decide) (by decide)]
  rfl

theorem State.conversionEnded_busy (s : State) : s.conversionEnded.fget pgThm THM.STAT.BUSY = 0 := by
  rw [State.conversionEnded_fget, State.conversionShown, State.fset_fget (by decide) (by decide)]

theorem State.conversionEnded_enabled (s : State) : s.conversionEnded.fget pgThm THM.CFG.EN = s.fget pgThm THM.CFG.EN := by
  rw [State.conversionEnded_fget, State.conversionShown_fget (by decide) (by decide), State.lastConv_fget (by decide) (by decide)]

theorem State.waitingServed_same (s : State) : State.SameBut [.mem, .thm, .page .thm] s s.waitingServed := by
  unfold State.waitingServed
  split
  · exact State.convert_same (State.SameOutside.set_thm (State.SameOutside.refl _ s) rfl) rfl
  · exact State.SameOutside.refl _ s

theorem State.waitingServed_fget (h : f.off % 0x1000 ≠ 0x044 ∨ 1 ≤ f.lo) (s : State) : s.waitingServed.fget pgThm f = s.fget pgThm f := by
  unfold State.waitingServed
  split
  · rw [State.convert_fget, State.fset_fget_apart ⟨by decide, h.imp_right fun h => .inr h⟩]
    exact State.fget_of_pages rfl _ _
  · rfl

theorem State.waitingServed_hdr (s : State) (p : Nat) : s.waitingServed.hdr p = s.hdr p := by
  unfold State.waitingServed
  split
  · exact State.convert_hdr ..
  · rfl

/-- A conversion runs on for the demands that waited, and none waits. -/
theorem State.waitingServed_busy (h : s.fget pgThm THM.STAT.BUSY = 0) (hc : s.thm.converting = 0) :
    s.waitingServed.fbit pgThm THM.STAT.BUSY = s.thm.waiting.isSome ∧ s.waitingServed.thm.waiting = none ∧
      s.waitingServed.thm.converting = (match s.thm.waiting with
        | some (k, _) => k &&& s.fget pgThm THM.CFG.EN
        | none => 0) := by
  unfold State.waitingServed
  cases hw : s.thm.waiting with
  | none => exact ⟨decide_eq_false (by rw [h]; decide), hw, hc⟩
  | some w =>
    refine ⟨State.convert_busy .., by rw [State.convert_thm], ?_⟩
    rw [State.convert_thm]
    exact congrArg (w.1 &&& ·) (State.fget_of_pages rfl _ _)

theorem State.guardAt_mono (s : State) (i : Nat) : (s.guardAt i).mono = max s.mono i := State.advanceTo_mono s i

theorem State.scalAt_mono (s : State) (i : Nat) : (s.scalAt i).mono = max s.mono i := State.advanceTo_mono s i

theorem State.scalAt_pages (s : State) (i : Nat) : (s.scalAt i).pages = s.pages := State.advanceTo_pages s i

theorem State.guardAt_pages (s : State) (i : Nat) : (s.guardAt i).pages = s.pages := State.advanceTo_pages s i

theorem State.demand_same_own (s : State) (src : Fld) (sensors : Nat) (mr4 : Bool) :
    State.SameBut [.mem, .thm, .page .thm] s (s.demand src sensors mr4) := State.demand_same (State.SameOutside.refl _ s) rfl

/-- A guard that comes at an instant: it is remembered, and demands the enabled sensors while a domain is ON. -/
theorem State.guardComes_keeps (s : State) (i : Nat) :
    (s.guardComes i).mono = max s.mono i ∧ (s.guardComes i).pwr = { s.pwr with lastGuard := (s.guardComes i).mono } ∧
      ((∀ d, 1 ≤ d → d ≤ 18 → s.domOn d = false) → (s.guardComes i).thm = s.thm ∧ (s.guardComes i).pages = s.pages) ∧
      ((∃ d, 1 ≤ d ∧ d ≤ 18 ∧ s.domOn d = true) → (s.guardComes i).fbit pgThm THM.STAT.BUSY = true ∧
        (s.guardComes i).fget pgThm THM.DEMAND_CNT.PWR = min (s.fget pgThm THM.DEMAND_CNT.PWR + 1) 255 ∧
        (s.fbit pgThm THM.STAT.BUSY = false → (s.guardComes i).thm.converting = s.fget pgThm THM.CFG.EN)) ∧
      State.SameBut [.mono, .time, .mem, .pwr, .thm, .page .thm] s (s.guardComes i) := by
  unfold State.guardComes
  by_cases h : (List.range 18).any (fun d => s.domOn (d + 1)) = true
  · rw [if_pos h]
    have hsame := State.demand_same_own (s.guardAt i) THM.DEMAND_CNT.PWR (s.fget pgThm THM.CFG.EN) (s.domOn 8)
    obtain ⟨hcnt, hbusy, hidle, -⟩ := State.demand_keeps (src := THM.DEMAND_CNT.PWR) (by decide) rfl (s.guardAt i)
      (s.fget pgThm THM.CFG.EN) (s.domOn 8)
    have hmono := Eq.trans (hsame .mono (by decide)) (s.guardAt_mono i)
    refine ⟨hmono, ?_, fun hoff => ?_, fun _ => ⟨hbusy, ?_, fun hb => ?_⟩, ?_⟩
    · rw [hmono, ← s.guardAt_mono i]
      exact hsame .pwr (by decide)
    · obtain ⟨d, h1, h18, hon⟩ := any_domOn_iff.mp h
      rw [hoff d h1 h18] at hon
      cases hon
    · rw [hcnt, s.guardAt_fget i pgThm]
      rfl
    · rw [(hidle (by rwa [State.fbit_of_fget (s.guardAt_fget i pgThm THM.STAT.BUSY)])).1, s.guardAt_fget i pgThm]
      exact Nat.and_self _
    · exact ((s.guardAt_same i).mono (n := partsMask [.mono, .time, .mem, .pwr, .thm, .page .thm]) rfl).trans (hsame.mono rfl)
  · rw [if_neg h]
    refine ⟨s.guardAt_mono i, rfl, fun _ => ⟨(s.guardAt_same i) .thm (by decide), s.guardAt_pages i⟩, fun hon => absurd (any_domOn_iff.mpr hon) h,
      (s.guardAt_same i).mono rfl⟩

/-- A check of SCAL that comes at an instant: it is remembered, and demands every sensor while SCAL is enabled. -/
theorem State.scalComes_keeps (s : State) (i : Nat) :
    (s.scalComes i).mono = max s.mono i ∧ (s.scalComes i).scal = { s.scal with lastCheck := (s.scalComes i).mono } ∧
      (s.fbit pgScal SCAL.CTL.EN = false → (s.scalComes i).thm = s.thm ∧ (s.scalComes i).pages = s.pages) ∧
      (s.fbit pgScal SCAL.CTL.EN = true → (s.scalComes i).fbit pgThm THM.STAT.BUSY = true ∧
        (s.scalComes i).fget pgThm THM.DEMAND_CNT.SCAL = min (s.fget pgThm THM.DEMAND_CNT.SCAL + 1) 255 ∧
        (s.fbit pgThm THM.STAT.BUSY = false → (s.scalComes i).thm.converting = s.fget pgThm THM.CFG.EN)) ∧
      State.SameBut [.mono, .time, .mem, .thm, .scal, .page .thm] s (s.scalComes i) := by
  unfold State.scalComes
  by_cases h : s.fbit pgScal SCAL.CTL.EN = true
  · rw [if_pos h]
    have hsame := State.demand_same_own (s.scalAt i) THM.DEMAND_CNT.SCAL 0xFFF false
    obtain ⟨hcnt, hbusy, hidle, -⟩ := State.demand_keeps (src := THM.DEMAND_CNT.SCAL) (by decide) rfl (s.scalAt i) 0xFFF false
    have hmono := Eq.trans (hsame .mono (by decide)) (s.scalAt_mono i)
    refine ⟨hmono, ?_, fun hoff => ?_, fun _ => ⟨hbusy, ?_, fun hb => ?_⟩, ?_⟩
    · rw [hmono, ← s.scalAt_mono i]
      exact hsame .scal (by decide)
    · rw [hoff] at h
      cases h
    · rw [hcnt, s.scalAt_fget i pgThm]
      rfl
    · rw [(hidle (by rwa [State.fbit_of_fget (s.scalAt_fget i pgThm THM.STAT.BUSY)])).1, ← s.scalAt_fget i pgThm]
      exact State.all_and_enabled _
    · exact ((s.scalAt_same i).mono (n := partsMask [.mono, .time, .mem, .thm, .scal, .page .thm]) rfl).trans (hsame.mono rfl)
  · rw [if_neg h]
    exact ⟨s.scalAt_mono i, rfl, fun _ => ⟨(s.scalAt_same i) .thm (by decide), s.scalAt_pages i⟩, fun hon => absurd hon h,
      (s.scalAt_same i).mono rfl⟩

/-- Settles O54: `State.demand_keeps` says what a demand does, for the master, the guard and SCAL alike. -/
theorem conversionsFollowDemands : Obligations.ConversionsFollowDemands := by
  unfold Obligations.ConversionsFollowDemands
  intro s
  refine ⟨fun m sensors mr4 h => ?_, fun hon => ?_, fun hon => ?_, fun values bad hon => ⟨fun hb => ?_, fun hb => ?_,
    fun n value hn hlo hhi hv htrip => ?_⟩⟩
  · let u := s.demandStored (sensors.toNat + 4096 * b2n mr4)
    have hu (p : Nat) (f : Fld) : u.fget p f = s.fget p f := s.demandStored_fget _ p f
    have hsame (m : Nat) : State.SameOutside m s u := s.demandStored_same _ m
    have hthm : u.thm = s.thm := hsame 0 .thm (by decide)
    have hmem : u.mem = s.mem := hsame 0 .mem (by decide)
    have hbusy : u.fbit pgThm THM.STAT.BUSY = s.fbit pgThm THM.STAT.BUSY := State.fbit_of_fget (hu ..)
    obtain ⟨hcnt, hnow, hidle, hwaits⟩ := State.demand_keeps (src := THM.DEMAND_CNT.REG) (by decide) rfl u sensors.toNat mr4
    rw [hu] at hcnt
    rw [hbusy, hthm, hmem, hu, State.asksMr4_of_fget (hu pgPwr) (hu ..)] at hidle
    rw [hbusy, hthm, hmem] at hwaits
    refine ⟨_, (exec_thmDemand_on (State.writes_powered h) ..).trans (congrArg Host.Outcome.next (State.demandWrite_eq h)),
      State.emit_answers _ _, hcnt, hnow, fun hb => ⟨(hidle hb).1, fun hr hon8 hst => (hidle hb).2 ?_⟩, hwaits,
      State.emit_same (State.demand_same (hsame _) rfl) rfl⟩
    unfold State.asksMr4
    rw [hr, hon8, hst, decide_eq_true rfl]
    rfl
  · rw [exec_guardDemand_on hon, State.guardDemand_eq]
    exact ⟨_, rfl, State.guardComes_keeps s _⟩
  · rw [exec_scalCheck_on hon, State.scalCheck_eq]
    exact ⟨_, rfl, State.scalComes_keeps s _⟩
  · rw [exec_thmConversionDone_on hon, State.conversionDone_idle hb]
  · let u := s.readingsTaken (values.map BitVec.toNat) bad.toNat
    have hthm := u.conversionEnded_thm
    obtain ⟨hbusy, hnone, hconv⟩ := u.conversionEnded.waitingServed_busy u.conversionEnded_busy (by rw [hthm])
    rw [hthm] at hbusy hconv
    rw [u.conversionEnded_enabled] at hconv
    refine ⟨u, u.conversionEnded.waitingServed, ?_, rfl, ?_, ?_, ?_, hbusy, hnone, hconv, ?_⟩
    · rw [exec_thmConversionDone_on hon, State.conversionDone_busy hb]
    · rw [State.waitingServed_hdr]
      exact State.evt_set _ _ _ (by decide)
    · rw [← u.conversionEnded_last]
      unfold State.fget64
      rw [State.waitingServed_fget (by decide), State.waitingServed_fget (by decide)]
    · rw [State.waitingServed_fget (by decide), State.conversionEnded_count]
    · exact u.conversionEnded_same.mono (n := partsMask [.mem, .thm, .out, .page .thm]) rfl |>.trans
        (u.conversionEnded.waitingServed_same.mono rfl)
  · have hout {f : Fld} (ho : f.off = 0x0C0 + 4 * n) (hw : f.lo + f.w ≤ 20) : f.OutsideJudging n := by
      unfold Fld.OutsideJudging
      omega
    obtain ⟨hvalue, hvalid, hbroken, -⟩ := State.readingShown_fget hn hv s
    refine ⟨s.readingTaken n value, State.reading_sound hlo hhi s n, ?_, ?_, ?_⟩
    · rw [State.readingTaken_fget hn (hout rfl (by simp [THM.TS.VALUE])) htrip hv, hvalue]
    · unfold State.fbit
      rw [State.readingTaken_fget hn (hout rfl (by simp [THM.TS.VALID])) htrip hv, hvalid, decide_eq_true rfl]
    · unfold State.fbit
      rw [State.readingTaken_fget hn (hout rfl (by simp [THM.TS.BROKEN])) htrip hv, hbroken, decide_eq_false (by decide)]

end Sys2Proof.Machine
end

section
/-! PROOFS. PWR's registers and records, and what the quiescing or the loss of another domain leaves of them (R431 to R443). -/

namespace Sys2Proof.Machine

variable {s t u o : State} {d k m n p st who reason refuser outcome : Nat} {f g : Fld} {x : Option Trans}

/-! ### What leaves PWR alone -/

/-- PWR's records, its registers and the clock are as they were. -/
structure State.PowerKept (o s : State) : Prop where
  pwr : s.pwr = o.pwr
  mono : s.mono = o.mono
  fget : ∀ f, s.fget pgPwr f = o.fget pgPwr f

theorem State.PowerKept.refl (s : State) : State.PowerKept s s := ⟨rfl, rfl, fun _ => rfl⟩

theorem State.PowerKept.trans (h : State.PowerKept s t) (h' : State.PowerKept t u) : State.PowerKept s u :=
  ⟨h'.pwr.trans h.pwr, h'.mono.trans h.mono, fun f => (h'.fget f).trans (h.fget f)⟩

theorem State.PowerKept.of_same (h : State.SameOutside m s t) (hmono : m.testBit 1 = false) (hpwr : m.testBit 22 = false)
    (hpage : m.testBit 43 = false) : State.PowerKept s t :=
  ⟨h .pwr hpwr, h .mono hmono, fun _ => h.fget (ty := .pwr) rfl hpage⟩

theorem State.PowerKept.step (h : State.PowerKept s t) (h' : State.SameOutside m t u) (hmono : m.testBit 1 = false)
    (hpwr : m.testBit 22 = false) (hpage : m.testBit 43 = false) : State.PowerKept s u :=
  h.trans (.of_same h' hmono hpwr hpage)

theorem State.PowerKept.ite {c : Prop} [Decidable c] (h : State.PowerKept o s) (h' : State.PowerKept o t) :
    State.PowerKept o (if c then s else t) := by
  split
  · exact h
  · exact h'

theorem State.PowerKept.foldl {α : Type} {l : List α} {step : State → α → State} (h : State.PowerKept o s)
    (hstep : ∀ a ∈ l, ∀ u, State.PowerKept u (step u a)) : State.PowerKept o (l.foldl step s) :=
  List.foldlRecOn l step h fun u hu a ha => hu.trans (hstep a ha u)

/-- Locks that break leave the values of every page. -/
theorem State.breakLocksOf_powerKept (s : State) (who : Nat) : State.PowerKept s (s.breakLocksOf who) := by
  have hsame : State.SameOutside 73786975197474062336 s (s.breakLocksOf who) := State.breakLocksOf_same (State.SameOutside.refl _ s) rfl
  exact ⟨hsame .pwr (by decide), hsame .mono (by decide), fun f => State.fget_of_word (State.breakLocksOf_word ..)⟩

theorem State.linkDown_powerKept (s : State) (n : Nat) : State.PowerKept s (s.linkDown n) := by
  rw [State.linkDown_eq]
  exact (State.PowerKept.of_same (s.linkEnded_same n) (by decide) (by decide) (by decide)).trans (State.breakLocksOf_powerKept _ _)

theorem State.fset_powerKept {ty : PageType} (hp : (pageOf p).map Prod.fst = some ty) (hty : ty ≠ .pwr) (s : State) (f : Fld) (v : Nat) :
    State.PowerKept s (s.fset p f v) :=
  ⟨rfl, rfl, fun g => State.fget_fset_page _ _ _ _ _ _ fun e => hty (by
    rw [← e] at hp
    exact (Option.some.inj hp).symm)⟩

theorem State.lanesEvt_powerKept (s : State) (n e : Nat) : State.PowerKept s (s.lanesEvt n e) :=
  .of_same (State.lanesEvt_same (m := 18446744075857035264) (State.SameOutside.refl _ s) rfl) (by decide) (by decide) (by decide)

theorem State.leaveRun_powerKept (s : State) (n : Nat) : State.PowerKept s (s.leaveRun n) :=
  .ite (((State.PowerKept.foldl (.refl s) fun l _ u => State.fset_powerKept (pageOf_lane_type l) (by decide) u _ _).trans
    (State.linkDown_powerKept _ _)).trans (State.lanesEvt_powerKept _ _ _)) (.refl s)

theorem State.laneOff_same (s : State) (l : Nat) : State.SameBut [.lanes, .page .lane] s (s.laneOff l) := by
  unfold State.laneOff
  exact State.SameOutside.ite (State.SameOutside.refl _ s) (State.setLane_same (State.fset_same (State.fset_same (State.fset_same
    (State.SameOutside.refl _ s) rfl (pageMask_lane _ rfl)) rfl (pageMask_lane _ rfl)) rfl (pageMask_lane _ rfl)) rfl)

theorem State.enterOff_powerKept (s : State) (n : Nat) : State.PowerKept s (s.enterOff n) := by
  rw [State.enterOff_eq]
  exact (s.leaveRun_powerKept n).foldl fun l _ u => .of_same (u.laneOff_same l) (by decide) (by decide) (by decide)

theorem State.lanesDomainOff_powerKept (s : State) (n : Nat) : State.PowerKept s (s.lanesDomainOff n) := by
  unfold State.lanesDomainOff
  refine (State.PowerKept.foldl (.refl s) fun l _ u => .ite ?_ (.refl u)).trans (State.enterOff_powerKept _ n)
  exact .of_same (State.leaveTest_same (m := 18446744075857035272) (State.SameOutside.refl _ u) rfl) (by decide) (by decide) (by decide)

/-! ### A domain other than PWR's is quiesced or lost (R431, R438) -/

/-- Every part but the clock, PWR's records and its page. -/
def notPowerMask : Nat := 2 ^ 66 - 1 - 2 ^ 43 - 2 ^ 22 - 2

theorem pageMask_notPower (h : (pageOf p).map Prod.fst ≠ some .pwr) : pageMask p ||| notPowerMask = notPowerMask := by
  unfold pageMask
  split
  · next ty i e =>
    rw [e] at h
    cases ty with
    | pwr => exact absurd rfl h
    | _ => rfl
  · exact Nat.zero_or _

theorem State.PowerKept.of_notPower (h : State.SameOutside notPowerMask s t) : State.PowerKept s t :=
  .of_same h (by decide) (by decide) (by decide)

/-- A domain that can be switched off is not PWR's. -/
theorem pagesOfDomain_not_pwr (h : 1 ≤ d) (hp : p ∈ pagesOfDomain d) : (pageOf p).map Prod.fst ≠ some .pwr := fun e => by
  have hd : domainOf p = d := of_decide_eq_true (List.mem_filter.mp hp).2
  obtain ⟨⟨ty, i⟩, he, hty⟩ := Option.map_eq_some_iff.mp e
  unfold domainOf at hd
  rw [he] at hd
  subst hty
  exact absurd hd.symm (Nat.pos_iff_ne_zero.mp h)

theorem State.abandonCmd_powerKept (h : (pageOf p).map Prod.fst ≠ some .pwr) (s : State) : State.PowerKept s (s.abandonCmd p) :=
  .of_notPower (State.abandonCmd_same (State.SameOutside.refl _ s) (by decide) (pageMask_notPower h))

theorem State.abandonRing_powerKept (s : State) (n : Nat) : State.PowerKept s (s.abandonRing n) :=
  .of_notPower (State.abandonRing_same (State.SameOutside.refl _ s) (by decide))

/-- Quiescing a domain leaves PWR and the clock alone. -/
theorem State.quiesce_powerKept (h : 1 ≤ d) (s : State) : State.PowerKept s (s.quiesce d) := by
  have hcmds : State.PowerKept s ((pagesOfDomain d).foldl State.abandonCmd s) :=
    (State.PowerKept.refl s).foldl fun p hp u => State.abandonCmd_powerKept (pagesOfDomain_not_pwr h hp) u
  unfold State.quiesce
  extract_lets commands lanes rings
  have hlanes : State.PowerKept s lanes := (hcmds.trans (State.lanesDomainOff_powerKept _ _)).ite hcmds
  have hrings : State.PowerKept s rings :=
    (hlanes.foldl fun n _ u => (State.abandonRing_powerKept u n).ite (.refl u)).ite hlanes
  exact (hrings.trans (State.fset_powerKept (ty := .mem) rfl (by decide) _ _ _)).ite hrings

/-- A domain's loss leaves PWR and the clock alone. -/
theorem State.domainLost_powerKept (h : 1 ≤ d) (s : State) : State.PowerKept s (s.domainLost d) := by
  unfold State.domainLost
  extract_lets bank trial reset cleared shown keyed ok
  have hreset : State.PowerKept s reset := (State.PowerKept.refl s).foldl fun p hp u =>
    .of_notPower (State.resetPage_same (State.SameOutside.refl _ u) rfl (pageMask_notPower (pagesOfDomain_not_pwr h hp)))
  have hcleared : State.PowerKept s cleared := (hreset.foldl fun m _ u => u.breakLocksOf_powerKept m).trans
    (.of_notPower (State.clearDomain_same (State.SameOutside.refl _ _) (by decide)))
  have hfw (a b : Nat) : State.PowerKept s
      (((cleared.fset pgFw FW.STAT.SAF_BANK a).fset pgFw FW.STAT.SAF_TRIAL b).showVersion 2) :=
    hcleared.trans (.of_notPower (State.showVersion_same (State.fset_same (State.fset_same (State.SameOutside.refl _ _)
      (by decide) (by decide)) (by decide) (by decide)) (by decide)))
  have hshown : State.PowerKept s shown := (hfw _ _).ite ((hfw _ _).ite hcleared)
  have hkeyed : State.PowerKept s keyed := (hshown.trans
    (.of_notPower (State.showKey_same (State.SameOutside.refl _ _) (by decide)))).ite hshown
  have hok : State.PowerKept s ok := (hkeyed.trans (State.fset_powerKept (ty := .sys) rfl (by decide) _ _ _)).ite
    ((hkeyed.trans (State.fset_powerKept (ty := .sys) rfl (by decide) _ _ _)).ite hkeyed)
  exact hok.trans (.of_notPower (State.showOtp_same (State.SameOutside.refl _ _) (by decide)))

/-! ### The records of a domain, and DOM_STAT (R456) -/

theorem State.setTrans_trans_self (s : State) (d : Nat) (x : Option Trans) : (s.setTrans d x).trans d = x := SMap.read_write_self ..

theorem State.setTrans_trans_other (h : k ≠ d) (s : State) (x : Option Trans) : (s.setTrans d x).trans k = s.trans k :=
  SMap.read_write_other _ _ _ h _

theorem State.setQueued_queuedReq (s : State) (d : Nat) (q : Option (Nat × Nat)) : (s.setQueued d q).queuedReq d = q :=
  SMap.read_write_self ..

theorem State.trans_of_pwr (h : t.pwr = s.pwr) (d : Nat) : t.trans d = s.trans d := by
  unfold State.trans
  rw [h]

theorem State.queuedReq_of_pwr (h : t.pwr = s.pwr) (d : Nat) : t.queuedReq d = s.queuedReq d := by
  unfold State.queuedReq
  rw [h]

theorem State.setQueued_trans (s : State) (d k : Nat) (q : Option (Nat × Nat)) : (s.setQueued d q).trans k = s.trans k := rfl

theorem State.setTrans_queuedReq (s : State) (d k : Nat) (x : Option Trans) : (s.setTrans d x).queuedReq k = s.queuedReq k := rfl

theorem State.setTrans_fget (h : (PWR.DOM_STAT.BUSY d).Apart f) (h' : (PWR.DOM_STAT.TARGET d).Apart f) (s : State) (x : Option Trans) :
    (s.setTrans d x).fget p f = s.fget p f :=
  (State.fset_fget_apart h').trans ((State.fsetB_fget_apart h).trans (State.fget_of_pages (s := s) rfl p f))

theorem State.setQueued_fget (h : (PWR.DOM_STAT.QVALID d).Apart f) (h' : (PWR.DOM_STAT.QSTATE d).Apart f) (s : State)
    (q : Option (Nat × Nat)) : (s.setQueued d q).fget p f = s.fget p f :=
  (State.fset_fget_apart h').trans ((State.fsetB_fget_apart h).trans (State.fget_of_pages (s := s) rfl p f))

theorem State.setTrans_busy (s : State) (d : Nat) (x : Option Trans) :
    (s.setTrans d x).fbit pgPwr (PWR.DOM_STAT.BUSY d) = x.isSome := by
  unfold State.setTrans
  rw [State.fbit_of_fget (State.fset_fget_apart ⟨by simp [PWR.DOM_STAT.TARGET], .inr (by simp [PWR.DOM_STAT.TARGET, PWR.DOM_STAT.BUSY])⟩),
    State.fsetB_fbit (by simp [PWR.DOM_STAT.BUSY]) rfl]

/-! ### REQ_STAT, REFUSE_CNT and LAST_REFUSER (R437, R456) -/

theorem State.reqRecord_fget_other (h : f.off % 0x1000 ≠ 0x044) (s : State) (d outcome reason who : Nat) :
    (s.reqRecord d outcome reason who).fget p f = s.fget p f := by
  unfold State.reqRecord
  iterate 4 rw [State.fset_fget_apart ⟨by decide, .inl h⟩]

/-- What REQ_STAT shows of a request. -/
theorem State.reqRecord_fget (hd : d < 32) (ho : outcome < 8) (hr : reason < 16) (s : State) (who : Nat) :
    (s.reqRecord d outcome reason who).fget pgPwr PWR.REQ_STAT.DOMAIN = d ∧
      (s.reqRecord d outcome reason who).fget pgPwr PWR.REQ_STAT.OUTCOME = outcome ∧
      (s.reqRecord d outcome reason who).fget pgPwr PWR.REQ_STAT.REASON = reason ∧
      (s.reqRecord d outcome reason who).fget pgPwr PWR.REQ_STAT.MASTER = if who < 0x40 then who else 0 := by
  unfold State.reqRecord
  refine ⟨?_, ?_, ?_, State.fset_fget (by decide) ?_⟩
  · iterate 3 rw [State.fset_fget_apart (by decide)]
    rw [State.fset_fget (by decide) hd]
  · iterate 2 rw [State.fset_fget_apart (by decide)]
    rw [State.fset_fget (by decide) ho]
  · rw [State.fset_fget_apart (by decide), State.fset_fget (by decide) hr]
  · rw [show PWR.REQ_STAT.MASTER.w = 6 from rfl]
    split <;> omega

theorem State.refuseCount_fget_other (h : f.off % 0x1000 ≠ 0x048) (h' : f.off % 0x1000 ≠ 0x04C) (s : State) (d reason who : Nat) :
    (s.refuseCount d reason who).fget p f = s.fget p f := by
  unfold State.refuseCount
  iterate 3 rw [State.fset_fget_apart ⟨by decide, .inl h'⟩]
  rw [State.finc_fget_apart ⟨by decide, .inl h⟩]

/-- A refusal is counted, and its refuser shown. -/
theorem State.refuseCount_fget (hr : reason < 16) (hw : who < 256) (s : State) (d : Nat) :
    (s.refuseCount d reason who).fget pgPwr PWR.REFUSE_CNT.COUNT = min (s.fget pgPwr PWR.REFUSE_CNT.COUNT + 1) (2 ^ 32 - 1) ∧
      (s.refuseCount d reason who).fget pgPwr PWR.LAST_REFUSER.REASON = reason ∧
      (s.refuseCount d reason who).fget pgPwr PWR.LAST_REFUSER.WHO = who := by
  unfold State.refuseCount
  refine ⟨?_, ?_, State.fset_fget (by decide) hw⟩
  · iterate 3 rw [State.fset_fget_apart (by decide)]
    rw [State.finc_fget (by decide)]
    rfl
  · rw [State.fset_fget_apart (by decide), State.fset_fget (by decide) hr]

/-- A refused request: its reason, its refuser, and its count. -/
theorem State.refuseReq_fget (hd : d < 32) (hr : reason < 16) (hw : refuser < 256) (s : State) (who : Nat) :
    (s.refuseReq d reason refuser who).fget pgPwr PWR.REQ_STAT.OUTCOME = 6 ∧
      (s.refuseReq d reason refuser who).fget pgPwr PWR.REQ_STAT.REASON = reason ∧
      (s.refuseReq d reason refuser who).fget pgPwr PWR.REFUSE_CNT.COUNT =
        min (s.fget pgPwr PWR.REFUSE_CNT.COUNT + 1) (2 ^ 32 - 1) ∧
      (s.refuseReq d reason refuser who).fget pgPwr PWR.LAST_REFUSER.WHO = refuser := by
  obtain ⟨-, houtcome, hreason, -⟩ := State.reqRecord_fget hd (by decide : 6 < 8) hr ((s.refuseCount d reason refuser).evt pgPwr 9) who
  obtain ⟨hcount, -, hwho⟩ := State.refuseCount_fget hr hw s d
  unfold State.refuseReq
  refine ⟨houtcome, hreason, ?_, ?_⟩
  · rw [State.reqRecord_fget_other (by decide), State.evt_fget, hcount]
  · rw [State.reqRecord_fget_other (by decide), State.evt_fget, hwho]

theorem State.refuseReq_hdr (s : State) (d reason refuser who : Nat) :
    ((s.refuseReq d reason refuser who).hdr pgPwr).evt.getLsbD 9 = true := by
  unfold State.refuseReq State.reqRecord
  iterate 4 rw [State.fset_hdr]
  exact State.evt_set _ _ _ (by decide)

/-! ### Entries and exits (R438, R439, R444) -/

theorem State.lpLeave_trans (s : State) (d : Nat) : s.lpLeave.trans d = s.trans d := by
  refine State.trans_of_pwr ?_ d
  unfold State.lpLeave
  split <;> simp

theorem State.lpLeave_mono (s : State) : s.lpLeave.mono = s.mono := by
  unfold State.lpLeave
  split <;> simp

theorem State.lpLeave_fget (h : PWR.LP_CTL.LP_NOW.Apart f) (s : State) : s.lpLeave.fget p f = s.fget p f := by
  unfold State.lpLeave
  split
  · rw [State.evt_fget, State.fset_fget_apart h]
  · rfl

theorem State.lpLeave_now (s : State) : s.lpLeave.fbit pgPwr PWR.LP_CTL.LP_NOW = false := by
  unfold State.lpLeave
  split
  · unfold State.fbit
    rw [State.evt_fget, State.fset_fget (by decide) (by decide), decide_eq_false (by decide)]
  · next h => exact Bool.eq_false_iff.mpr h

/-- An exit that starts: its transition, and the regulator in normal mode. -/
theorem State.startExit_keeps (s : State) (d : Nat) :
    (s.startExit d).trans d = some { target := 0, source := s.domState d,
                                     start := s.mono + if s.fbit pgPwr PWR.LP_CTL.LP_NOW then 5000 else 0 } ∧
      (s.startExit d).fbit pgPwr PWR.LP_CTL.LP_NOW = false := by
  unfold State.startExit
  exact ⟨(State.lpLeave_trans ..).trans (State.setTrans_trans_self ..), State.lpLeave_now _⟩

/-- An entry that starts: its transition, and the domain busy. -/
theorem State.startEntry_keeps (hd : 1 ≤ d) (hon : s.domState d = 0) (target : Nat) :
    (s.startEntry d target).trans d = some { target := target, source := 0, start := s.mono } ∧
      (s.startEntry d target).fbit pgPwr (PWR.DOM_STAT.BUSY d) = true := by
  have hstart : s.startEntry d target = (s.setTrans d (some { target := target, source := s.domState d, start := s.mono })).quiesce d :=
    if_pos hon
  have hkept := (s.setTrans d (some { target := target, source := s.domState d, start := s.mono })).quiesce_powerKept hd
  rw [hstart]
  refine ⟨(State.trans_of_pwr hkept.pwr d).trans ?_, (State.fbit_of_fget (hkept.fget _)).trans (State.setTrans_busy ..)⟩
  rw [State.setTrans_trans_self, hon]

/-! ### Requests (R434 to R437, R442) -/

theorem State.request_idle (ht : s.trans d = none) (hh : SMap.read none s.pwr.held d = none) (who st : Nat) :
    s.request who d st = s.idleReq who d st := by
  unfold State.request
  rw [ht, hh]
  rfl

theorem State.idleReq_present (s : State) (who d : Nat) : s.idleReq who d (s.domState d) = s.reqRecord d 5 0 who := if_pos rfl

theorem State.idleReq_exit (hc : s.domState d ≠ 0) (hp : parentOf d = none ∨ s.trans 8 = none ∧ s.domState 8 = 0) (who : Nat) :
    s.idleReq who d 0 = (s.startExit d).reqRecord d 1 0 who := by
  unfold State.idleReq
  rw [if_neg hc.symm, if_pos rfl]
  rcases hp with hp | ⟨ht, h8⟩
  · rw [hp]
  · unfold parentOf
    by_cases h : 3 ≤ d ∧ d ≤ 7
    · rw [if_pos h]
      simp only [ht]
      exact if_pos h8
    · rw [if_neg h]

theorem State.idleReq_orphan (hc : s.domState d ≠ 0) (hp : parentOf d = some 8) (ht : s.trans 8 = none) (h8 : s.domState 8 ≠ 0)
    (who : Nat) : s.idleReq who d 0 = s.reqRecord d 6 2 who := by
  unfold State.idleReq
  rw [if_neg hc.symm, if_pos rfl, hp]
  simp only [ht]
  exact if_neg h8

theorem State.idleReq_entry (hc : s.domState d = 0) (hst : st ≠ 0) (he : s.entryCheck d = none) (who : Nat) :
    s.idleReq who d st = (s.startEntry d st).reqRecord d 1 0 who := by
  unfold State.idleReq
  rw [if_neg (by rwa [hc]), if_neg hst, if_neg (fun h => absurd (hc.symm.trans h.2) (by decide)), he]

theorem State.idleReq_refused (hc : s.domState d = 0) (hst : st ≠ 0) (he : s.entryCheck d = some (reason, refuser)) (who : Nat) :
    s.idleReq who d st = s.refuseReq d reason refuser who := by
  unfold State.idleReq
  rw [if_neg (by rwa [hc]), if_neg hst, if_neg (fun h => absurd (hc.symm.trans h.2) (by decide)), he]

/-- A request that a running transition lets wait. -/
theorem State.request_waits {x : Trans} (ht : s.trans d = some x) (hx : x.target = 0 ∨ x.abandon.isSome = true) (hst : st ≠ 0)
    (who : Nat) : s.request who d st = s.enqueueReq who d st := by
  have hb : (x.target = 0 || x.abandon.isSome) = true := by simpa using hx
  unfold State.request
  rw [ht]
  simp only [hb, if_true]
  exact if_neg hst

/-- A request for ON that turns an entry back. -/
theorem State.request_abandons {x : Trans} (ht : s.trans d = some x) (htgt : x.target ≠ 0) (hab : x.abandon = none)
    (hsrc : x.source = 0) (hc : s.mono - x.start < x.pointC d) (who : Nat) : s.request who d 0 =
    ((s.setTrans d (some { x with abandon := some who })).setQueued d none).reqRecord d 4 0 who := by
  have hb : (decide (x.target = 0) || x.abandon.isSome) = false := by simp [htgt, hab]
  unfold State.request
  rw [ht]
  simp only [hb]
  exact (if_neg (by decide)).trans (if_pos (by simp [hsrc, hc]))

/-- A request for the state that a transition leads to. -/
theorem State.request_agrees {x : Trans} (ht : s.trans d = some x) (hab : x.abandon = none) (who : Nat) :
    s.request who d x.target = (s.setQueued d none).reqRecord d 5 0 who := by
  unfold State.request
  rw [ht]
  by_cases h : x.target = 0
  · simp [h]
  · simp [h, hab]

/-- A state that records a request in REQ_STAT as its last step. -/
def State.Records (d who : Nat) (t : State) : Prop :=
  ∃ (u : State) (outcome reason : Nat), outcome < 8 ∧ reason < 16 ∧ t = u.reqRecord d outcome reason who

theorem State.reqRecord_records (u : State) (ho : outcome < 8) (hr : reason < 16) :
    State.Records d who (u.reqRecord d outcome reason who) := ⟨u, outcome, reason, ho, hr, rfl⟩

theorem State.refuseReq_records (s : State) (hr : reason < 16) : State.Records d who (s.refuseReq d reason refuser who) :=
  State.reqRecord_records _ (by decide) hr

theorem State.enqueueReq_records (s : State) (who d st : Nat) : State.Records d who (s.enqueueReq who d st) :=
  State.reqRecord_records _ (by split <;> decide) (by decide)

/-- The first check that fails has its reason, and a domain or a source as its refuser. -/
theorem State.entryCheck_range (h : s.entryCheck d = some (reason, refuser)) : reason < 16 ∧ refuser < 256 := by
  unfold State.entryCheck at h
  split at h
  · next c hfind =>
    have hmem := List.mem_of_find?_eq_some hfind
    simp only [Option.some.injEq, Prod.mk.injEq] at h
    obtain ⟨rfl, rfl⟩ := h
    unfold domains at hmem
    simp only [List.mem_map, List.mem_range] at hmem
    omega
  · split_ifs at h <;>
    · simp only [Option.some.injEq, Prod.mk.injEq] at h
      omega

theorem State.idleReq_records (s : State) (who d st : Nat) : State.Records d who (s.idleReq who d st) := by
  unfold State.idleReq
  dsimp only
  split
  · exact State.reqRecord_records _ (by decide) (by decide)
  · split
    · split
      · split
        · split <;> exact State.reqRecord_records _ (by decide) (by decide)
        · split <;> exact State.reqRecord_records _ (by decide) (by decide)
      · exact State.reqRecord_records _ (by decide) (by decide)
    · split
      · exact State.refuseReq_records s (by decide)
      · split
        · next he => exact State.refuseReq_records s (State.entryCheck_range he).1
        · exact State.reqRecord_records _ (by decide) (by decide)

theorem State.request_records (s : State) (who d st : Nat) : State.Records d who (s.request who d st) := by
  unfold State.request
  split
  · split
    · split
      · exact State.reqRecord_records _ (by decide) (by decide)
      · exact State.enqueueReq_records ..
    · exact State.idleReq_records ..
  · split
    · split
      · exact State.reqRecord_records _ (by decide) (by decide)
      · exact State.enqueueReq_records ..
    · split
      · exact State.reqRecord_records _ (by decide) (by decide)
      · split
        · exact State.reqRecord_records _ (by decide) (by decide)
        · split
          · exact State.refuseReq_records s (by decide)
          · exact State.enqueueReq_records ..

theorem State.Records.fget (h : State.Records d who t) (hd : d < 32) : t.fget pgPwr PWR.REQ_STAT.DOMAIN = d ∧
    t.fget pgPwr PWR.REQ_STAT.MASTER = if who < 0x40 then who else 0 := by
  obtain ⟨u, outcome, reason, ho, hr, rfl⟩ := h
  obtain ⟨hdom, -, -, hmaster⟩ := State.reqRecord_fget hd ho hr u who
  exact ⟨hdom, hmaster⟩

/-! ### Writes of REQ (R434) -/

theorem State.blockHook_req (s : State) (m v : Nat) : s.blockHook m pgPwr PWR.REQ.DOMAIN.off v =
    s.domainReq m (bitsOf v 0 5) (bitsOf v 5 2) := by
  unfold State.blockHook
  rw [show pageOf pgPwr = some (.pwr, 0) from rfl]
  rfl

/-- The state that a write of REQ stores, in which no word has changed. -/
def State.reqStored (s : State) (v : Nat) : State := s.storeBlock (addrOf pgPwr PWR.REQ.DOMAIN.off) v { off := 0x040, wo := 0x7F }

theorem State.reqStored_word (s : State) (v a : Nat) : (s.reqStored v).word a = s.word a :=
  State.storeBlock_writeOnly_word (by decide) (by decide)

theorem State.reqStored_same (s : State) (v m : Nat) : State.SameOutside m s (s.reqStored v) :=
  State.storeBlock_writeOnly_same (by decide) (by decide)

theorem State.reqWrite_eq {k : Nat} (hd : d < 32) (hk : k < 4) (h : s.writes m pgPwr PWR.REQ.DOMAIN.off (d + 32 * k) = true) :
    s.writeReg m pgPwr PWR.REQ.DOMAIN.off (d + 32 * k) =
      ((s.reqStored (d + 32 * k)).domainReq m d k).emit (.access m 0 0) := by
  have hdom : bitsOf (d + 32 * k) 0 5 = d := by
    unfold bitsOf
    rw [Nat.shiftRight_zero]
    omega
  have hst : bitsOf (d + 32 * k) 5 2 = k := by
    unfold bitsOf
    rw [Nat.shiftRight_eq_div_pow]
    omega
  rw [State.writeReg_writeOnly (ty := .pwr) (i := 0) (j := 0) (r := { off := 0x040, wo := 0x7F }) h (by decide) (by decide) rfl
    (by decide) rfl (by decide) (by decide) (by decide) (by omega)
    (hookStores_other (by decide) (by decide) (by decide) (by decide)), State.blockHook_req, hdom, hst]
  rfl

theorem State.reqWrites_of {c : Instr} {dom : BitVec 5} {j : Fin 4} {w : Master}
    (hc : c ∈ [Instr.domainReqOn w dom, .domainReqRet w dom, .domainReqOff w dom, .domainReqIllegal w dom j])
    (h0 : c = .domainReqOn w dom → j = 0) (h1 : c = .domainReqRet w dom → j = 1) (h2 : c = .domainReqOff w dom → j = 2)
    (hon : s.boot.powered = true) :
    exec c s = .next (s.writeReg w.id pgPwr PWR.REQ.DOMAIN.off (dom.toNat + 32 * j)) := by
  simp only [List.mem_cons, List.not_mem_nil, or_false] at hc
  rcases hc with hc | hc | hc | hc
  · obtain rfl := h0 hc
    subst hc
    exact congrArg Host.Outcome.next (State.live_on hon _)
  · obtain rfl := h1 hc
    subst hc
    exact congrArg Host.Outcome.next (State.live_on hon _)
  · obtain rfl := h2 hc
    subst hc
    exact congrArg Host.Outcome.next (State.live_on hon _)
  · subst hc
    exact congrArg Host.Outcome.next (State.live_on hon _)

theorem masterId_lt (m : Master) : m.id < 0x40 := by
  cases m <;> simp only [Master.id] <;> omega

/-- While a transition runs, a request touches PWR alone. -/
theorem State.request_running_same {x : Trans} (ht : s.trans d = some x) (who st : Nat) :
    State.SameBut [.pwr, .out, .page .pwr] s (s.request who d st) := by
  have hrefl : State.SameBut [.pwr, .out, .page .pwr] s s := State.SameOutside.refl _ s
  unfold State.request
  rw [ht]
  exact State.SameOutside.ite
    (State.SameOutside.ite (State.reqRecord_same (State.setQueued_same hrefl rfl) rfl) (State.enqueueReq_same hrefl rfl))
    (State.SameOutside.ite (State.reqRecord_same (State.setQueued_same (State.setTrans_same hrefl rfl) rfl) rfl)
      (State.SameOutside.ite (State.reqRecord_same (State.setQueued_same hrefl rfl) rfl)
        (State.SameOutside.ite (State.refuseReq_same hrefl rfl) (State.enqueueReq_same hrefl rfl))))

theorem State.reqRecord_trans (s : State) (d outcome reason who k : Nat) :
    (s.reqRecord d outcome reason who).trans k = s.trans k := rfl

theorem State.reqRecord_queuedReq (s : State) (d outcome reason who k : Nat) :
    (s.reqRecord d outcome reason who).queuedReq k = s.queuedReq k := rfl

theorem State.reqRecord_pwr (s : State) (d outcome reason who : Nat) : (s.reqRecord d outcome reason who).pwr = s.pwr := rfl

/-- What a request of a domain without a transition or a held exit does. -/
theorem State.request_idle_keeps (hd : 1 ≤ d) (hd18 : d ≤ 18) (ht : s.trans d = none) (hh : SMap.read none s.pwr.held d = none)
    (who st : Nat) :
    (s.domState d = st → (s.request who d st).fget pgPwr PWR.REQ_STAT.OUTCOME = 5 ∧
      State.SameBut [.out, .page .pwr] s (s.request who d st)) ∧
    (st = 0 → s.domState d ≠ 0 →
      (parentOf d = none ∨ (s.trans 8 = none ∧ s.domState 8 = 0) →
        (s.request who d st).fget pgPwr PWR.REQ_STAT.OUTCOME = 1 ∧
        (s.request who d st).trans d = some { target := 0, source := s.domState d,
                                              start := s.mono + if s.fbit pgPwr PWR.LP_CTL.LP_NOW then 5000 else 0 } ∧
        (s.request who d st).fbit pgPwr PWR.LP_CTL.LP_NOW = false ∧
        State.SameBut [.pwr, .out, .page .pwr] s (s.request who d st)) ∧
      (parentOf d = some 8 → s.trans 8 = none → s.domState 8 ≠ 0 →
        (s.request who d st).fget pgPwr PWR.REQ_STAT.OUTCOME = 6 ∧ (s.request who d st).fget pgPwr PWR.REQ_STAT.REASON = 2 ∧
        (s.request who d st).pwr = s.pwr)) ∧
    (st ≠ 0 → s.domState d = 0 →
      (s.entryCheck d = none → (s.request who d st).fget pgPwr PWR.REQ_STAT.OUTCOME = 1 ∧
        (s.request who d st).trans d = some { target := st, source := 0, start := s.mono } ∧
        (s.request who d st).fbit pgPwr (PWR.DOM_STAT.BUSY d) = true) ∧
      (∀ reason refuser, s.entryCheck d = some (reason, refuser) →
        (s.request who d st).fget pgPwr PWR.REQ_STAT.OUTCOME = 6 ∧
        (s.request who d st).fget pgPwr PWR.REQ_STAT.REASON = reason ∧
        (s.request who d st).fget pgPwr PWR.LAST_REFUSER.WHO = refuser ∧
        State.SameBut [.out, .page .pwr] s (s.request who d st))) := by
  have hd32 : d < 32 := by omega
  have hbusy : (PWR.DOM_STAT.BUSY d).off % 0x1000 ≠ 0x044 := by
    simp only [PWR.DOM_STAT.BUSY]
    omega
  rw [State.request_idle ht hh]
  refine ⟨fun hst => ?_, fun hst hc => ⟨fun hp => ?_, fun hp ht8 h8 => ?_⟩, fun hst hc => ⟨fun he => ?_, fun reason refuser he => ?_⟩⟩
  · rw [← hst, State.idleReq_present]
    exact ⟨(State.reqRecord_fget hd32 (by decide) (by decide) s who).2.1, State.reqRecord_same (State.SameOutside.refl _ s) rfl⟩
  · obtain ⟨htrans, hlp⟩ := s.startExit_keeps d
    rw [hst, State.idleReq_exit hc hp]
    refine ⟨(State.reqRecord_fget hd32 (by decide) (by decide) _ who).2.1, htrans, ?_,
      State.reqRecord_same (State.startExit_same (State.SameOutside.refl _ s) rfl) rfl⟩
    rw [State.fbit_of_fget (State.reqRecord_fget_other (by decide) ..), hlp]
  · rw [hst, State.idleReq_orphan hc hp ht8 h8]
    obtain ⟨-, houtcome, hreason, -⟩ := State.reqRecord_fget hd32 (by decide : 6 < 8) (by decide : 2 < 16) s who
    exact ⟨houtcome, hreason, rfl⟩
  · obtain ⟨htrans, hb⟩ := State.startEntry_keeps hd hc st
    rw [State.idleReq_entry hc hst he]
    refine ⟨(State.reqRecord_fget hd32 (by decide) (by decide) _ who).2.1, htrans, ?_⟩
    rw [State.fbit_of_fget (State.reqRecord_fget_other hbusy ..), hb]
  · obtain ⟨hr, hw⟩ := State.entryCheck_range he
    obtain ⟨houtcome, hreason, -, hwho⟩ := State.refuseReq_fget hd32 hr hw s who
    rw [State.idleReq_refused hc hst he]
    exact ⟨houtcome, hreason, hwho, State.refuseReq_same (State.SameOutside.refl _ s) rfl⟩

/-- What a request of a domain in a transition does. -/
theorem State.request_running_keeps {x : Trans} (hd18 : d ≤ 18) (ht : s.trans d = some x) (who st : Nat) :
    (x.target = 0 ∨ x.abandon.isSome = true → st ≠ 0 → (s.request who d st).queuedReq d = some (st, who) ∧
      (s.request who d st).trans d = some x ∧
      (s.request who d st).fget pgPwr PWR.REQ_STAT.OUTCOME = if (s.queuedReq d).isSome = true then 3 else 2) ∧
    (x.target ≠ 0 → x.abandon = none → x.source = 0 → s.mono - x.start < x.pointC d → st = 0 →
      (s.request who d st).trans d = some { x with abandon := some who } ∧ (s.request who d st).queuedReq d = none ∧
      (s.request who d st).fget pgPwr PWR.REQ_STAT.OUTCOME = 4) ∧
    (x.target = st → x.abandon = none → (s.request who d st).trans d = some x ∧ (s.request who d st).queuedReq d = none ∧
      (s.request who d st).fget pgPwr PWR.REQ_STAT.OUTCOME = 5) ∧
    State.SameBut [.pwr, .out, .page .pwr] s (s.request who d st) := by
  have hd32 : d < 32 := by omega
  refine ⟨fun hx hst => ?_, fun htgt hab hsrc hc hst => ?_, fun htgt hab => ?_, State.request_running_same ht who st⟩
  · rw [State.request_waits ht hx hst]
    exact ⟨(State.reqRecord_queuedReq ..).trans (State.setQueued_queuedReq ..), (State.reqRecord_trans ..).trans ht, (State.reqRecord_fget hd32 (by split <;> decide) (by decide) _ _).2.1⟩
  · rw [hst, State.request_abandons ht htgt hab hsrc hc]
    refine ⟨?_, (State.reqRecord_queuedReq ..).trans (State.setQueued_queuedReq ..), (State.reqRecord_fget hd32 (by decide) (by decide) _ who).2.1⟩
    rw [State.reqRecord_trans, State.setQueued_trans, State.setTrans_trans_self]
  · rw [← htgt, State.request_agrees ht hab]
    exact ⟨(State.reqRecord_trans ..).trans ht, (State.reqRecord_queuedReq ..).trans (State.setQueued_queuedReq ..), (State.reqRecord_fget hd32 (by decide) (by decide) _ who).2.1⟩

end Sys2Proof.Machine
end

section
/-! PROOFS. Requests for the state of a domain, and wakes (R434 to R437, R440 to R443). -/

namespace Sys2Proof.Machine

variable {s t u : State} {d k m n who st : Nat} {f : Fld}

/-! ### The state that a write of REQ stores -/

theorem State.reqStored_pwr (s : State) (v : Nat) : (s.reqStored v).pwr = s.pwr := s.reqStored_same v 0 .pwr (by decide)

theorem State.reqStored_mono (s : State) (v : Nat) : (s.reqStored v).mono = s.mono := s.reqStored_same v 0 .mono (by decide)

theorem State.reqStored_fget (s : State) (v p : Nat) (f : Fld) : (s.reqStored v).fget p f = s.fget p f :=
  State.fget_of_word (State.reqStored_word ..)

theorem State.reqStored_trans (s : State) (v d : Nat) : (s.reqStored v).trans d = s.trans d := State.trans_of_pwr (s.reqStored_pwr v) d

theorem State.reqStored_queuedReq (s : State) (v d : Nat) : (s.reqStored v).queuedReq d = s.queuedReq d :=
  State.queuedReq_of_pwr (s.reqStored_pwr v) d

theorem State.reqStored_domState (s : State) (v d : Nat) : (s.reqStored v).domState d = s.domState d := s.reqStored_fget ..

theorem State.reqStored_entryCheck (s : State) (v d : Nat) : (s.reqStored v).entryCheck d = s.entryCheck d := by
  have hsafe : (s.reqStored v).safe = s.safe := s.reqStored_same v 0 .safe (by decide)
  have hlight : (s.reqStored v).lightAny = s.lightAny := by
    unfold State.lightAny State.groupsIn State.group
    rw [hsafe]
  have hcounts : (s.reqStored v).countsOn = s.countsOn := by
    funext c
    unfold State.countsOn
    rw [s.reqStored_domState, s.reqStored_trans, s.reqStored_pwr]
  unfold State.entryCheck
  rw [hlight, hcounts, s.reqStored_fget, s.reqStored_fget, s.reqStored_fget]

/-! ### Requests and their answers -/

theorem State.domainReq_legal (h1 : 1 ≤ d) (h18 : d ≤ 18) (hk : k ≠ 3) : s.domainReq m d k = s.request m d k :=
  if_neg (by simp; omega)

theorem State.domainReq_illegal (h : d = 0 ∨ 18 < d ∨ k = 3) : s.domainReq m d k = s.refuseReq d 6 m m :=
  if_pos (by simp; omega)

theorem State.emit_trans (s : State) (y : Out) (d : Nat) : (s.emit y).trans d = s.trans d := rfl

theorem State.emit_queuedReq (s : State) (y : Out) (d : Nat) : (s.emit y).queuedReq d = s.queuedReq d := rfl

/-! ### Wakes (R443) -/

/-- A wake of a domain without a parent that has left ON starts its exit, and leaves REQ_STAT as it was. -/
theorem State.wake_exits (hd : d < 32) (hc : s.domState d ≠ 0) (hp : parentOf d = none) (ht : s.trans d = none)
    (hh : SMap.read none s.pwr.held d = none) (who : Nat) : s.wake who d =
    ((s.startExit d).reqRecord d 1 0 who).setWord (addrOf pgPwr PWR.REQ_STAT.DOMAIN.off)
      (s.word (addrOf pgPwr PWR.REQ_STAT.DOMAIN.off)) := by
  have hreq : s.request who d 0 = (s.startExit d).reqRecord d 1 0 who := by
    rw [State.request_idle ht hh, State.idleReq_exit hc (.inl hp)]
  have hout : ((s.startExit d).reqRecord d 1 0 who).fget pgPwr PWR.REQ_STAT.OUTCOME ≠ 6 := by
    rw [(State.reqRecord_fget hd (by decide) (by decide) _ who).2.1]
    decide
  unfold State.wake
  rw [if_neg (by simp [hc]), hreq]
  exact if_neg hout

/-- LINK_WAKE.SEEN shows a link. -/
def State.seenShown (s : State) (n : Nat) : State := s.fset pgPwr PWR.LINK_WAKE.SEEN (s.fget pgPwr PWR.LINK_WAKE.SEEN ||| 1 <<< n)

theorem State.seenShown_bit (hn : n < 6) (s : State) : bit ((s.seenShown n).fget pgPwr PWR.LINK_WAKE.SEEN) n = true := by
  unfold State.seenShown
  rw [State.fget_fset_self _ _ _ _ (by decide), bit_eq_testBit, Nat.testBit_mod_two_pow, Nat.testBit_or, ← bit_eq_testBit,
    ← bit_eq_testBit, bit_one_shiftLeft]
  simp [hn, PWR.LINK_WAKE.SEEN]

theorem State.seenShown_fget (h : PWR.LINK_WAKE.SEEN.Apart f) (s : State) (n p : Nat) : (s.seenShown n).fget p f = s.fget p f :=
  State.fset_fget_apart h

theorem bit_double (x k : Nat) : bit (x * 2) k = (decide (1 ≤ k) && bit x (k - 1)) := by
  rw [bit_eq_testBit, bit_eq_testBit, Nat.mul_comm]
  cases k with
  | zero => simp
  | succ k => simp [Nat.testBit_succ]

theorem exec_signalDetect_on (h : s.boot.powered = true) (n : Fin 6) : exec (.signalDetect n) s = .next (s.signalDetect n) :=
  congrArg Host.Outcome.next (State.live_on h _)

theorem exec_wakeTimer_on (h : s.boot.powered = true) : exec .wakeTimer s = .next s.wakeTimer :=
  congrArg Host.Outcome.next (State.live_on h _)

theorem State.signalDetect_ignored (h : bit (s.fget pgPwr PWR.LINK_WAKE.EN) n = false ∨ s.domState (9 + n) ≠ 1) :
    s.signalDetect n = s := if_neg (by rcases h with h | h <;> simp [h])

/-- A link in RET that is to be woken comes ON. -/
theorem State.signalDetect_keeps (hn : n < 6) (he : bit (s.fget pgPwr PWR.LINK_WAKE.EN) n = true) (hs : s.domState (9 + n) = 1)
    (ht : s.trans (9 + n) = none) (hh : SMap.read none s.pwr.held (9 + n) = none) :
    bit ((s.signalDetect n).fget pgPwr PWR.LINK_WAKE.SEEN) n = true ∧
      (s.signalDetect n).trans (9 + n) = some { target := 0, source := 1,
                                                start := s.mono + if s.fbit pgPwr PWR.LP_CTL.LP_NOW then 5000 else 0 } ∧
      (s.signalDetect n).word (addrOf pgPwr 0x044) = s.word (addrOf pgPwr 0x044) ∧
      State.SameBut [.pwr, .out, .page .pwr] s (s.signalDetect n) := by
  have hstate : (s.seenShown n).domState (9 + n) = 1 :=
    (State.seenShown_fget ⟨by decide, .inl (by simp only [PWR.DOM_STAT.STATE, PWR.LINK_WAKE.SEEN]; omega)⟩ s n pgPwr).trans hs
  have hwake : s.signalDetect n = (s.seenShown n).wake (0x40 + n) (9 + n) := if_pos (by simp [he, hs])
  have hparent : parentOf (9 + n) = none := if_neg (by omega)
  obtain ⟨htrans, -⟩ := (s.seenShown n).startExit_keeps (9 + n)
  rw [hwake, State.wake_exits (s := s.seenShown n) (by omega) (by rw [hstate]; decide) hparent ht hh]
  have hseen : PWR.LINK_WAKE.SEEN.off % 0x1000 ≠ 0x044 := by decide
  refine ⟨?_, ?_, ?_, ?_⟩
  · rw [State.fget_of_word (State.setWord_word_other _ _ _ _ (addrOf_off_ne (by decide))), State.reqRecord_fget_other hseen,
      State.startExit, State.lpLeave_fget (by decide), State.setTrans_fget ⟨by simp [PWR.DOM_STAT.BUSY], .inl ?_⟩
      ⟨by simp [PWR.DOM_STAT.TARGET], .inl ?_⟩, State.seenShown_bit hn]
    · simp only [PWR.DOM_STAT.BUSY, PWR.LINK_WAKE.SEEN]
      omega
    · simp only [PWR.DOM_STAT.TARGET, PWR.LINK_WAKE.SEEN]
      omega
  · rw [hstate] at htrans
    refine Eq.trans ?_ (htrans.trans ?_)
    · rfl
    · rw [State.fbit_of_fget (State.seenShown_fget (by decide) s n pgPwr)]
      rfl
  · exact (State.setWord_word_self ..).trans (State.fset_word_other (by decide))
  · exact State.setWord_same (State.reqRecord_same (State.startExit_same (State.fset_same (State.SameOutside.refl _ s) rfl rfl) rfl) rfl) rfl rfl

/-- WAKE_MASK is disarmed when the wake instant has come. -/
def State.wakeDisarmed (s : State) (i : Nat) : State := (s.advanceTo i).fset pgPwr PWR.WAKE_MASK.ARMED 0

theorem State.wakeTimer_off (h : s.fbit pgPwr PWR.WAKE_MASK.ARMED = false) : s.wakeTimer = s := if_neg (by rw [h]; decide)

/-- The domains that an armed WAKE_MASK names, MEM first, are woken. -/
theorem State.wakeTimer_armed (h : s.fbit pgPwr PWR.WAKE_MASK.ARMED = true) : s.wakeTimer =
    (8 :: domains.filter (· != 8)).foldl (fun w k =>
      if 1 ≤ k && bit (s.fget pgPwr PWR.WAKE_MASK.DOMAINS) (k - 1) then w.wake 0x48 k else w)
      (s.wakeDisarmed (s.mono + (s.fget64 pgPwr PWR.WAKE_AT_LO.NS PWR.WAKE_AT_HI.NS - s.now))) := by
  have hmask (i : Nat) : (s.wakeDisarmed i).fget pgPwr PWR.WAKE_MASK.DOMAINS = s.fget pgPwr PWR.WAKE_MASK.DOMAINS := by
    unfold State.wakeDisarmed
    rw [State.fset_fget_apart (by decide), State.advanceTo_fget]
  unfold State.wakeTimer
  rw [if_pos h]
  dsimp only
  generalize s.mono + (s.fget64 pgPwr PWR.WAKE_AT_LO.NS PWR.WAKE_AT_HI.NS - s.now) = i
  simp only [← hmask i, ← bit_double]
  rfl

theorem State.wakeDisarmed_same (s : State) (i : Nat) : State.SameBut [.mono, .time, .page .pwr] s (s.wakeDisarmed i) :=
  State.fset_same (State.advanceTo_same (State.SameOutside.refl _ s) rfl) rfl rfl

theorem State.wakeDisarmed_armed (s : State) (i : Nat) : (s.wakeDisarmed i).fbit pgPwr PWR.WAKE_MASK.ARMED = false := by
  unfold State.fbit State.wakeDisarmed
  rw [State.fset_fget (by decide) (by decide), decide_eq_false (by decide)]

theorem State.wakeDisarmed_mono (s : State) (i : Nat) : (s.wakeDisarmed i).mono = max s.mono i := by
  unfold State.wakeDisarmed
  rw [State.fset_mono, State.advanceTo_mono]

/-- Settles O52: `State.request_idle_keeps` and `State.request_running_keeps` say what a request does; a write of REQ stores
nothing that they depend on. -/
theorem domainsAreRequested : Obligations.DomainsAreRequested := by
  unfold Obligations.DomainsAreRequested
  intro s m d
  refine ⟨fun k c hc h0 h1 h2 hw => ?_, fun n hon => ⟨fun h => ?_, fun he hs ht hh => ?_⟩, fun hon h => ?_, fun hon h => ?_⟩
  · have hexec := (State.reqWrites_of hc h0 h1 h2 (State.writes_powered hw)).trans
      (congrArg Host.Outcome.next (State.reqWrite_eq d.isLt k.isLt hw))
    have hm := masterId_lt m
    refine ⟨fun hbad => ?_, fun hlo hhi hk => ?_⟩
    · rw [State.domainReq_illegal (hbad.imp_right (Or.imp_right (congrArg Fin.val)))] at hexec
      generalize hu : s.reqStored (d.toNat + 32 * k) = u at hexec
      have hsame : State.SameBut [.out, .page .pwr] s u := hu ▸ s.reqStored_same _ _
      have hcount : u.fget pgPwr PWR.REFUSE_CNT.COUNT = s.fget pgPwr PWR.REFUSE_CNT.COUNT := hu ▸ s.reqStored_fget ..
      obtain ⟨houtcome, hreason, hcnt, hwho⟩ := State.refuseReq_fget d.isLt (by decide : 6 < 16) (Nat.lt_trans hm (by decide)) u m.id
      obtain ⟨hdom, hmaster⟩ := (State.refuseReq_records (d := d.toNat) (who := m.id) (refuser := m.id) u (by decide : 6 < 16)).fget d.isLt
      rw [if_pos hm] at hmaster
      rw [hcount] at hcnt
      refine ⟨_, hexec, State.emit_answers _ _, ?_⟩
      simp only [State.emit_fget, State.emit_hdr]
      exact ⟨hdom, houtcome, hreason, hmaster, hcnt, hwho, State.refuseReq_hdr ..,
        State.emit_same (State.refuseReq_same hsame rfl) rfl⟩
    · rw [State.domainReq_legal hlo hhi (fun e => hk (Fin.ext e))] at hexec
      have hstored (l : List Part) : State.SameBut l s (s.reqStored (d.toNat + 32 * k)) := s.reqStored_same _ _
      have hidle := State.request_idle_keeps (s := s.reqStored (d.toNat + 32 * k)) hlo hhi
      have hrunning := fun x => State.request_running_keeps (s := s.reqStored (d.toNat + 32 * k)) (x := x) hhi
      rw [s.reqStored_domState, s.reqStored_domState, s.reqStored_trans, s.reqStored_trans, s.reqStored_pwr, s.reqStored_mono,
        s.reqStored_entryCheck, State.fbit_of_fget (s.reqStored_fget _ pgPwr PWR.LP_CTL.LP_NOW)] at hidle
      simp only [s.reqStored_trans, s.reqStored_queuedReq, s.reqStored_mono] at hrunning
      obtain ⟨hdom, hmaster⟩ := (State.request_records (s.reqStored (d.toNat + 32 * k)) m.id d.toNat k).fget d.isLt
      rw [if_pos hm] at hmaster
      refine ⟨_, hexec, State.emit_answers _ _, ?_⟩
      simp only [State.emit_fget, State.emit_fbit, State.emit_trans, State.emit_queuedReq, State.emit_pwr]
      refine ⟨hdom, hmaster, fun ht hh => ?_, fun x hx => ?_⟩
      · obtain ⟨hpresent, hexit, hentry⟩ := hidle ht hh m.id k
        refine ⟨fun he => ?_, fun hk0 hc => ⟨fun hp => ?_, hexit (congrArg Fin.val hk0) hc |>.2⟩, fun hk0 hc => ⟨?_, fun reason who he => ?_⟩⟩
        · obtain ⟨houtcome, hsame⟩ := hpresent he
          exact ⟨houtcome, State.emit_same ((hstored _).trans hsame) rfl⟩
        · obtain ⟨houtcome, htrans, hlp, hsame⟩ := (hexit (congrArg Fin.val hk0) hc).1 hp
          exact ⟨houtcome, htrans, hlp, State.emit_same ((hstored _).trans hsame) rfl⟩
        · exact (hentry (fun e => hk0 (Fin.ext e)) hc).1
        · obtain ⟨houtcome, hreason, hwho, hsame⟩ := (hentry (fun e => hk0 (Fin.ext e)) hc).2 reason who he
          exact ⟨houtcome, hreason, hwho, State.emit_same ((hstored _).trans hsame) rfl⟩
      · obtain ⟨hwaits, hback, hagrees, hsame⟩ := hrunning x hx m.id k
        refine ⟨fun ht hk0 => hwaits ht (fun e => hk0 (Fin.ext e)), fun ht hab hsrc hc hk0 => hback ht hab hsrc hc (congrArg Fin.val hk0),
          hagrees, State.emit_same ((hstored _).trans hsame) rfl⟩
  · rw [exec_signalDetect_on hon, State.signalDetect_ignored h]
  · exact ⟨_, exec_signalDetect_on hon n, State.signalDetect_keeps n.isLt he hs ht hh⟩
  · rw [exec_wakeTimer_on hon, State.wakeTimer_off h]
  · refine ⟨s.wakeDisarmed (s.mono + (s.fget64 pgPwr PWR.WAKE_AT_LO.NS PWR.WAKE_AT_HI.NS - s.now)), ?_, State.wakeDisarmed_armed ..,
      State.wakeDisarmed_same _ _, (exec_wakeTimer_on hon).trans (congrArg Host.Outcome.next (State.wakeTimer_armed h))⟩
    rw [State.wakeDisarmed_mono]
    exact Nat.max_eq_right (Nat.le_add_right _ _)

end Sys2Proof.Machine
end

section
/-! PROOFS. The ends of transitions, the always-on regulator, and brown-outs (R431, R433, R438 to R446, R570). -/

namespace Sys2Proof.Machine

variable {s t u : State} {d k i n p st who : Nat} {f : Fld} {x : Trans}

/-! ### A domain's fields -/

/-- The fields of DOM_STAT that end with a transition, of one domain apart from another's. -/
theorem domStat_apart {g f : Fld} (hk : k ≤ 18) (hd : d ≤ 18) (hne : k ≠ d) (hg : g.off = 0x100 + 4 * k) (hf : f.off = 0x100 + 4 * d)
    (hw : g.lo + g.w ≤ 32) : g.Apart f := ⟨hw, .inl (by omega)⟩

/-- A domain's state and its count of transitions when a transition ends. -/
def State.domainMoved (s : State) (i d st : Nat) : State :=
  ((s.advanceTo i).fset pgPwr (PWR.DOM_STAT.STATE d) st).finc pgPwr (PWR.DOM_STAT.TRANSITIONS d)

theorem State.domainMoved_same (s : State) (i d st : Nat) : State.SameBut [.mono, .time, .page .pwr] s (s.domainMoved i d st) :=
  State.finc_same (State.fset_same (State.advanceTo_same (State.SameOutside.refl _ s) rfl) rfl rfl) rfl rfl

theorem State.domainMoved_mono (s : State) (i d st : Nat) : (s.domainMoved i d st).mono = max s.mono i := by
  unfold State.domainMoved
  rw [State.finc_mono, State.fset_mono, State.advanceTo_mono]

theorem State.domainMoved_domState (s : State) (i d st : Nat) : (s.domainMoved i d st).domState d = st % 4 := by
  unfold State.domainMoved State.domState
  rw [State.finc_fget_apart ⟨by simp [PWR.DOM_STAT.TRANSITIONS], .inr (by simp [PWR.DOM_STAT.TRANSITIONS, PWR.DOM_STAT.STATE])⟩,
    State.fget_fset_self _ _ _ _ (by simp [PWR.DOM_STAT.STATE])]
  rfl

theorem State.domainMoved_lost (s : State) (i d st : Nat) :
    (s.domainMoved i d st).fbit pgPwr (PWR.DOM_STAT.LOST d) = s.fbit pgPwr (PWR.DOM_STAT.LOST d) := by
  refine State.fbit_of_fget ?_
  unfold State.domainMoved
  rw [State.finc_fget_apart ⟨by simp [PWR.DOM_STAT.TRANSITIONS], .inr (by simp [PWR.DOM_STAT.TRANSITIONS, PWR.DOM_STAT.LOST])⟩,
    State.fset_fget_apart ⟨by simp [PWR.DOM_STAT.STATE], .inr (by simp [PWR.DOM_STAT.STATE, PWR.DOM_STAT.LOST])⟩,
    State.advanceTo_fget]

/-- A transition has ended. -/
def State.transEnded (s : State) (d : Nat) : State := (s.setTrans d none).evt pgPwr 8

theorem State.transEnded_same (s : State) (d : Nat) : State.SameBut [.pwr, .out, .page .pwr] s (s.transEnded d) :=
  State.evt_same (State.setTrans_same (State.SameOutside.refl _ s) rfl) rfl rfl

theorem State.evt_trans (s : State) (p n d : Nat) : (s.evt p n).trans d = s.trans d := State.trans_of_pwr (by simp) d

theorem State.transEnded_trans (s : State) (d : Nat) : (s.transEnded d).trans d = none := by
  unfold State.transEnded
  rw [State.evt_trans, State.setTrans_trans_self]

theorem State.transEnded_evt (s : State) (d : Nat) : ((s.transEnded d).hdr pgPwr).evt.getLsbD 8 = true :=
  State.evt_set _ _ _ (by decide)

theorem State.transEnded_fget (h : (PWR.DOM_STAT.BUSY d).Apart f) (h' : (PWR.DOM_STAT.TARGET d).Apart f) (s : State) (p : Nat) :
    (s.transEnded d).fget p f = s.fget p f := by
  unfold State.transEnded
  rw [State.evt_fget, State.setTrans_fget h h']

theorem State.transEnded_busy (s : State) (d : Nat) : (s.transEnded d).fbit pgPwr (PWR.DOM_STAT.BUSY d) = false := by
  unfold State.transEnded
  rw [State.evt_fbit, State.setTrans_busy]
  rfl

theorem State.setTrans_domState (s : State) (d : Nat) (x : Option Trans) : (s.setTrans d x).domState d = s.domState d :=
  State.setTrans_fget ⟨by simp [PWR.DOM_STAT.BUSY], .inr (by simp [PWR.DOM_STAT.BUSY, PWR.DOM_STAT.STATE])⟩
    ⟨by simp [PWR.DOM_STAT.TARGET], .inr (by simp [PWR.DOM_STAT.TARGET, PWR.DOM_STAT.STATE])⟩ s x

/-- A field of PWR below DOM_STAT. -/
theorem State.setTrans_fget_below (hd : d ≤ 18) (hf : f.off < 0x100) (s : State) (x : Option Trans) (p : Nat) :
    (s.setTrans d x).fget p f = s.fget p f :=
  State.setTrans_fget ⟨by simp [PWR.DOM_STAT.BUSY], .inl (by simp only [PWR.DOM_STAT.BUSY]; omega)⟩
    ⟨by simp [PWR.DOM_STAT.TARGET], .inl (by simp only [PWR.DOM_STAT.TARGET]; omega)⟩ s x

theorem State.transEnded_domState (s : State) (d : Nat) : (s.transEnded d).domState d = s.domState d :=
  State.transEnded_fget ⟨by simp [PWR.DOM_STAT.BUSY], .inr (by simp [PWR.DOM_STAT.BUSY, PWR.DOM_STAT.STATE])⟩
    ⟨by simp [PWR.DOM_STAT.TARGET], .inr (by simp [PWR.DOM_STAT.TARGET, PWR.DOM_STAT.STATE])⟩ s pgPwr

theorem State.transEnded_lost (s : State) (d : Nat) :
    (s.transEnded d).fbit pgPwr (PWR.DOM_STAT.LOST d) = s.fbit pgPwr (PWR.DOM_STAT.LOST d) :=
  State.fbit_of_fget (State.transEnded_fget ⟨by simp [PWR.DOM_STAT.BUSY], .inr (by simp [PWR.DOM_STAT.BUSY, PWR.DOM_STAT.LOST])⟩
    ⟨by simp [PWR.DOM_STAT.TARGET], .inr (by simp [PWR.DOM_STAT.TARGET, PWR.DOM_STAT.LOST])⟩ s pgPwr)

/-! ### Entries (R431, R433, R438) -/

/-- What a domain loses that ends in a state: nothing, or all its state, and MEM its DRAM. -/
def State.domainEmptied (s : State) (d st : Nat) (lost : Bool) : State :=
  let s := if st = 2 then s.domainLost d else s
  let s := if d = 8 ∧ st = 2 ∧ !lost then { s with dram := {} } else s
  if d = 8 ∧ st = 2 then s.fset pgMem MEM.STAT.STATE 0 else s

theorem State.domainEmptied_retained {lost : Bool} (h : st ≠ 2) : s.domainEmptied d st lost = s := by
  unfold State.domainEmptied
  rw [if_neg h, if_neg (by tauto), if_neg (by tauto)]

theorem State.domainEmptied_powerKept (hd : 1 ≤ d) (s : State) (st : Nat) (lost : Bool) :
    State.PowerKept s (s.domainEmptied d st lost) := by
  unfold State.domainEmptied
  extract_lets cleared drained
  have hcleared : State.PowerKept s cleared := (s.domainLost_powerKept hd).ite (.refl s)
  have hdrained : State.PowerKept s drained :=
    (hcleared.step (State.SameOutside.set_dram (m := partsMask [.dram]) (State.SameOutside.refl _ cleared) rfl)
      (by decide) (by decide) (by decide)).ite hcleared
  exact (hdrained.trans (State.fset_powerKept (ty := .mem) rfl (by decide) _ _ _)).ite hdrained

theorem State.domainLost_mem (s : State) : (s.domainLost 8).mem = {} := by
  unfold State.domainLost
  extract_lets bank trial reset cleared shown keyed ok
  have hshown : shown = cleared := (if_neg (by decide)).trans (if_neg (by decide))
  have hkeyed : keyed = shown := if_neg (by decide)
  have hok : ok = keyed := (if_neg (by decide)).trans (if_neg (by decide))
  have hclear (u : State) : (u.clearDomain 8).mem = {} := rfl
  refine Eq.trans (State.showOtp_same (m := partsMask [.page .fw, .page .cad, .page .sys]) (State.SameOutside.refl _ ok) rfl .mem (by decide)) ?_
  rw [hok, hkeyed, hshown]
  exact hclear _

/-- MEM that goes OFF loses its records and the DRAM. -/
theorem State.domainEmptied_mem (s : State) : (s.domainEmptied 8 2 false).dram = {} ∧ (s.domainEmptied 8 2 false).mem = {} := by
  unfold State.domainEmptied
  extract_lets cleared drained
  have hdrained : drained = { cleared with dram := {} } := if_pos (by decide)
  have hmem : cleared.mem = {} := by rw [show cleared = s.domainLost 8 from if_pos rfl, State.domainLost_mem]
  rw [if_pos (by decide), State.fset_dram, State.fset_mem, hdrained]
  clear_value cleared
  exact ⟨rfl, hmem⟩

/-- When the last domain has left ON. -/
def State.allOffNoted (s : State) : State := if s.noneOn then { s with pwr := { s.pwr with allOffAt := s.mono } } else s

theorem State.allOffNoted_cases (s : State) : s.allOffNoted = s ∨
    s.allOffNoted = { s with pwr := { s.pwr with allOffAt := s.mono } } := by
  unfold State.allOffNoted
  split
  · exact .inr rfl
  · exact .inl rfl

theorem State.allOffNoted_same (s : State) : State.SameBut [.pwr] s s.allOffNoted := by
  unfold State.allOffNoted
  exact State.SameOutside.ite (State.SameOutside.set_pwr (State.SameOutside.refl _ s) rfl) (State.SameOutside.refl _ s)

theorem State.allOffNoted_trans (s : State) (d : Nat) : s.allOffNoted.trans d = s.trans d := by
  rcases s.allOffNoted_cases with h | h <;> rw [h]
  rfl

theorem State.allOffNoted_fget (s : State) (p : Nat) (f : Fld) : s.allOffNoted.fget p f = s.fget p f := by
  rcases s.allOffNoted_cases with h | h <;> rw [h]
  exact State.fget_of_pages rfl p f

/-- An entry that has ended in a state, before the request that waits runs. -/
def State.entryEnded (s : State) (i d st : Nat) (lost : Bool) : State :=
  (((s.domainMoved i d st).domainEmptied d st lost).transEnded d).allOffNoted

theorem State.entryDone_eq (ht : s.trans d = some x) (htgt : x.target ≠ 0) (hab : x.abandon = none) : s.entryDone d =
    (s.entryEnded (x.start + x.length d) d (if x.lost then 2 else x.target) x.lost).runQueued d := by
  unfold State.entryDone
  rw [ht]
  simp only [htgt, hab, decide_false, Option.isSome_none, Bool.or_false, Bool.false_eq_true, if_false]
  rfl

theorem State.entryEnded_keeps (hd : 1 ≤ d) (s : State) (i st : Nat) (lost : Bool) :
    (s.entryEnded i d st lost).trans d = none ∧ (s.entryEnded i d st lost).domState d = st % 4 ∧
      (s.entryEnded i d st lost).mono = max s.mono i ∧
      (s.entryEnded i d st lost).fbit pgPwr (PWR.DOM_STAT.BUSY d) = false ∧
      ((s.entryEnded i d st lost).hdr pgPwr).evt.getLsbD 8 = true := by
  let emptied := (s.domainMoved i d st).domainEmptied d st lost
  have hkept : State.PowerKept (s.domainMoved i d st) emptied := State.domainEmptied_powerKept hd _ st lost
  have hpage : State.SamePage pgPwr (emptied.transEnded d) (s.entryEnded i d st lost) := (emptied.transEnded d).allOffNoted_same (.page .pwr) (by decide) _ rfl
  refine ⟨?_, ?_, ?_, ?_, ?_⟩
  · rw [State.entryEnded, State.allOffNoted_trans, State.transEnded_trans]
  · rw [State.entryEnded, State.domState, State.allOffNoted_fget]
    exact (emptied.transEnded_domState d).trans ((hkept.fget _).trans (s.domainMoved_domState i d st))
  · refine Eq.trans ((emptied.transEnded d).allOffNoted_same .mono (by decide)) (Eq.trans (emptied.transEnded_same d .mono (by decide)) ?_)
    exact hkept.mono.trans (s.domainMoved_mono i d st)
  · exact (State.fbit_of_fget (State.allOffNoted_fget ..)).trans (emptied.transEnded_busy d)
  · rw [hpage.1]
    exact emptied.transEnded_evt d

/-- An entry into RET keeps everything. -/
theorem State.entryEnded_same (h : st ≠ 2) (s : State) (i d : Nat) (lost : Bool) :
    State.SameBut [.mono, .time, .pwr, .out, .page .pwr] s (s.entryEnded i d st lost) := by
  unfold State.entryEnded
  rw [State.domainEmptied_retained h]
  exact (((s.domainMoved_same i d st).mono (n := partsMask [.mono, .time, .pwr, .out, .page .pwr]) rfl).trans
    ((State.transEnded_same _ d).mono rfl)).trans ((State.allOffNoted_same _).mono rfl)

theorem State.entryEnded_mem (s : State) (i : Nat) : (s.entryEnded i 8 2 false).dram = {} ∧ (s.entryEnded i 8 2 false).mem = {} := by
  let emptied := (s.domainMoved i 8 2).domainEmptied 8 2 false
  have hsame : State.SameBut [.pwr, .out, .page .pwr] emptied (s.entryEnded i 8 2 false) :=
    (emptied.transEnded_same 8).trans ((State.allOffNoted_same _).mono rfl)
  obtain ⟨hdram, hmem⟩ := (s.domainMoved i 8 2).domainEmptied_mem
  exact ⟨Eq.trans (hsame .dram (by decide)) hdram, Eq.trans (hsame .mem (by decide)) hmem⟩

/-! ### Exits (R431, R439, R442) -/

/-- The pages of a domain that had lost its state show LOST. -/
def State.lostShown (s : State) (d : Nat) (lost : Bool) : State :=
  if lost then (pagesOfDomain d).foldl (fun s p => s.setHdr p { s.hdr p with lost := true }) (s.fset pgPwr (PWR.DOM_STAT.LOST d) 0)
  else s

/-- An exit that has ended, before what it lets go on goes on. -/
def State.exitEnded (s : State) (i d : Nat) (lost : Bool) : State := ((s.domainMoved i d 0).lostShown d lost).transEnded d

theorem State.exitDone_eq (ht : s.trans d = some x) (htgt : x.target = 0) : s.exitDone d =
    (((((s.exitEnded (x.start + x.length d) d (s.fbit pgPwr (PWR.DOM_STAT.LOST d))).scalDomainOn d).breakExpired d).restartActivity
      d).startHeld d).runQueued d := by
  have hlost (i : Nat) : (s.advanceTo i).fbit pgPwr (PWR.DOM_STAT.LOST d) = s.fbit pgPwr (PWR.DOM_STAT.LOST d) :=
    State.fbit_of_fget (State.advanceTo_fget ..)
  rw [← hlost (x.start + x.length d)]
  unfold State.exitDone
  rw [ht]
  simp only [htgt, bne_self_eq_false, Bool.false_eq_true, if_false]
  rfl

/-- LOST shown in the headers of some pages. -/
def State.pagesLost (s : State) (l : List Nat) : State := l.foldl (fun s p => s.setHdr p { s.hdr p with lost := true }) s

theorem State.pagesLost_fget (s : State) (l : List Nat) (p : Nat) (f : Fld) : (s.pagesLost l).fget p f = s.fget p f :=
  List.foldlRecOn _ _ (motive := fun t : State => t.fget p f = s.fget p f) rfl fun _ ht _ _ => (State.setHdr_fget ..).trans ht

theorem State.pagesLost_powerKept (s : State) (l : List Nat) : State.PowerKept s (s.pagesLost l) :=
  ⟨List.foldlRecOn _ _ (motive := fun t : State => t.pwr = s.pwr) rfl fun _ ht _ _ => ht,
    List.foldlRecOn _ _ (motive := fun t : State => t.mono = s.mono) rfl fun _ ht _ _ => ht, fun f => s.pagesLost_fget l pgPwr f⟩

theorem State.pagesLost_hdr {l : List Nat} (h : p ∈ l) (s : State) : ((s.pagesLost l).hdr p).lost = true := by
  refine foldl_establishes (Q := fun _ => True) (P := fun t : State => (t.hdr p).lost = true) (fun _ _ _ => trivial) (fun t _ => ?_)
    (fun t q _ ht => ?_) l h s trivial
  · rw [State.setHdr_hdr_self]
  · by_cases e : p = q
    · subst e
      rw [State.setHdr_hdr_self]
    · rwa [State.setHdr_hdr_other _ _ _ _ e]

theorem State.lostShown_lost (s : State) (d : Nat) :
    s.lostShown d true = (s.fset pgPwr (PWR.DOM_STAT.LOST d) 0).pagesLost (pagesOfDomain d) := rfl

theorem State.lostShown_found (s : State) (d : Nat) : s.lostShown d false = s := rfl

/-- Showing LOST on a domain's pages takes it from DOM_STAT and leaves the other fields of PWR. -/
theorem State.lostShown_keeps (s : State) (d : Nat) (lost : Bool) : (s.lostShown d lost).pwr = s.pwr ∧
    (s.lostShown d lost).mono = s.mono ∧ ∀ f, (PWR.DOM_STAT.LOST d).Apart f → (s.lostShown d lost).fget pgPwr f = s.fget pgPwr f := by
  cases lost with
  | false => exact ⟨rfl, rfl, fun _ _ => rfl⟩
  | true =>
    have hkept := (s.fset pgPwr (PWR.DOM_STAT.LOST d) 0).pagesLost_powerKept (pagesOfDomain d)
    exact ⟨hkept.pwr, hkept.mono, fun f hf => (hkept.fget f).trans (State.fset_fget_apart hf)⟩

theorem State.lostShown_off {lost : Bool} (h : lost = false → s.fbit pgPwr (PWR.DOM_STAT.LOST d) = false) :
    (s.lostShown d lost).fbit pgPwr (PWR.DOM_STAT.LOST d) = false := by
  cases lost with
  | false => exact h rfl
  | true =>
    unfold State.fbit
    rw [State.lostShown_lost, State.pagesLost_fget, State.fset_fget (by simp [PWR.DOM_STAT.LOST]) (Nat.two_pow_pos _),
      decide_eq_false (by decide)]

theorem State.exitEnded_keeps (s : State) (i d : Nat) (lost : Bool) (h : s.fbit pgPwr (PWR.DOM_STAT.LOST d) = lost) :
    (s.exitEnded i d lost).trans d = none ∧ (s.exitEnded i d lost).domState d = 0 ∧
      (s.exitEnded i d lost).fbit pgPwr (PWR.DOM_STAT.LOST d) = false ∧ (s.exitEnded i d lost).mono = max s.mono i ∧
      ((s.exitEnded i d lost).hdr pgPwr).evt.getLsbD 8 = true := by
  obtain ⟨-, hmono, hfget⟩ := (s.domainMoved i d 0).lostShown_keeps d lost
  unfold State.exitEnded
  refine ⟨State.transEnded_trans .., ?_, ?_, ?_, State.transEnded_evt ..⟩
  · rw [State.transEnded_domState]
    exact (hfget _ ⟨by simp [PWR.DOM_STAT.LOST], .inr (by simp [PWR.DOM_STAT.LOST, PWR.DOM_STAT.STATE])⟩).trans
      (s.domainMoved_domState i d 0)
  · rw [State.transEnded_lost]
    exact State.lostShown_off fun hl => by rw [State.domainMoved_lost, h, hl]
  · exact Eq.trans (State.transEnded_same _ d .mono (by decide)) (hmono.trans (s.domainMoved_mono i d 0))

/-- An exit of a domain that has kept its state leaves everything else alone. -/
theorem State.exitEnded_same (s : State) (i d : Nat) :
    State.SameBut [.mono, .time, .pwr, .out, .page .pwr] s (s.exitEnded i d false) :=
  ((s.domainMoved_same i d 0).mono rfl).trans ((State.transEnded_same _ d).mono rfl)

theorem State.exitEnded_hdr (hd : 1 ≤ d) (hp : p ∈ pagesOfDomain d) (s : State) (i : Nat) :
    ((s.exitEnded i d true).hdr p).lost = true := by
  have hne : p ≠ pgPwr := fun e => pagesOfDomain_not_pwr hd hp (by rw [e]; rfl)
  unfold State.exitEnded State.transEnded
  rw [State.evt_hdr_other _ _ _ _ hne]
  exact State.pagesLost_hdr hp _

/-! ### Entries that are undone (R441) -/

/-- The clock at the abort point that an entry comes to next. -/
def State.atAbort (s : State) (d : Nat) (x : Trans) : State :=
  match (x.abortPoints d).find? (fun e => s.mono - x.start ≤ e) with
  | some e => s.advanceTo (x.start + e)
  | none => s

theorem State.atAbort_cases (s : State) (d : Nat) (x : Trans) : ∃ i, s.atAbort d x = s.advanceTo i := by
  unfold State.atAbort
  split
  · exact ⟨_, rfl⟩
  · exact ⟨0, (if_neg (Nat.not_lt_zero _)).symm⟩

/-- An entry that has been undone, before what it lets go on goes on. -/
def State.entryUndone (s : State) (i d who : Nat) : State :=
  (((s.advanceTo i).refuseCount d 8 who).evt pgPwr 10).setTrans d none

theorem State.entryAbandon_eq (ht : s.trans d = some x) (hab : x.abandon = some who) : ∃ i, s.entryAbandon d =
    ((((s.entryUndone i d who).restartActivity d).breakExpired d).runQueued d) := by
  obtain ⟨i, hi⟩ := s.atAbort_cases d x
  refine ⟨i, ?_⟩
  unfold State.entryUndone
  rw [← hi]
  unfold State.entryAbandon
  rw [ht]
  simp only [hab]
  rfl

theorem State.entryUndone_keeps (hd : d ≤ 18) (s : State) (i who : Nat) : (s.entryUndone i d who).trans d = none ∧
    (s.entryUndone i d who).fget pgPwr PWR.LAST_REFUSER.REASON = 8 ∧
    ((s.entryUndone i d who).hdr pgPwr).evt.getLsbD 10 = true ∧ (s.entryUndone i d who).domState d = s.domState d ∧
    s.mono ≤ (s.entryUndone i d who).mono ∧ State.SameBut [.mono, .time, .pwr, .out, .page .pwr] s (s.entryUndone i d who) := by
  unfold State.entryUndone
  refine ⟨State.setTrans_trans_self .., ?_, State.evt_set _ _ _ (by decide), ?_, ?_,
    State.setTrans_same (State.evt_same (State.refuseCount_same (State.advanceTo_same (State.SameOutside.refl _ s) rfl) rfl) rfl rfl) rfl⟩
  · rw [State.setTrans_fget_below hd (by decide), State.evt_fget, State.refuseCount, State.fset_fget_apart (by decide),
      State.fset_fget (by decide) (by decide)]
  · have hoff : (PWR.DOM_STAT.STATE d).off % 0x1000 = 0x100 + 4 * d := Nat.mod_eq_of_lt (by simp only [PWR.DOM_STAT.STATE]; omega)
    rw [State.setTrans_domState]
    unfold State.domState
    rw [State.evt_fget, State.refuseCount_fget_other (by omega) (by omega), State.advanceTo_fget]
  · have hundone : State.SameBut [.pwr, .out, .page .pwr] (s.advanceTo i)
        ((((s.advanceTo i).refuseCount d 8 who).evt pgPwr 10).setTrans d none) :=
      State.setTrans_same (State.evt_same (State.refuseCount_same (State.SameOutside.refl _ _) rfl) rfl rfl) rfl
    rw [show _ = (s.advanceTo i).mono from hundone .mono (by decide), State.advanceTo_mono]
    exact Nat.le_max_left ..

/-! ### The always-on regulator (R444) -/

theorem mem_domains : d ∈ domains ↔ 1 ≤ d ∧ d ≤ 18 := by
  unfold domains
  simp only [List.mem_map, List.mem_range]
  constructor
  · rintro ⟨k, hk, rfl⟩
    omega
  · rintro ⟨h1, h18⟩
    exact ⟨d - 1, by omega, by omega⟩

/-- Whether every domain has left ON, with no transition running or queued. -/
def State.allOff (s : State) : Prop := ∀ d, 1 ≤ d → d ≤ 18 → s.domState d ≠ 0 ∧ s.trans d = none ∧ s.queuedReq d = none

theorem State.allOff_iff : (s.noneOn && domains.all (fun d => (s.trans d).isNone && (s.queuedReq d).isNone)) = true ↔ s.allOff := by
  unfold State.noneOn State.allOff
  simp only [Bool.and_eq_true, List.all_eq_true, mem_domains, bne_iff_ne, Option.isNone_iff_eq_none]
  exact ⟨fun h d h1 h18 => ⟨h.1 d ⟨h1, h18⟩, h.2 d ⟨h1, h18⟩⟩, fun h => ⟨fun d hd => (h d hd.1 hd.2).1, fun d hd => (h d hd.1 hd.2).2⟩⟩

/-- The regulator is in low-power mode from an instant on. -/
def State.lpEntered (s : State) (i : Nat) : State := ((s.advanceTo i).fset pgPwr PWR.LP_CTL.LP_NOW 1).evt pgPwr 12

theorem State.lpEnter_on (he : s.fbit pgPwr PWR.LP_CTL.LP_EN = true) (hn : s.fbit pgPwr PWR.LP_CTL.LP_NOW = false) (h : s.allOff) :
    s.lpEnter = s.lpEntered (s.pwr.allOffAt + 10000) := by
  refine if_pos ?_
  rw [he, hn, Bool.and_assoc, State.allOff_iff.mpr h]
  rfl

theorem State.lpEnter_off (h : s.fbit pgPwr PWR.LP_CTL.LP_EN = false ∨ s.fbit pgPwr PWR.LP_CTL.LP_NOW = true ∨ ¬ s.allOff) :
    s.lpEnter = s := by
  refine if_neg fun hc => ?_
  rw [Bool.and_assoc, Bool.and_eq_true, State.allOff_iff, Bool.and_eq_true] at hc
  obtain ⟨⟨he, hn⟩, hoff⟩ := hc
  rcases h with h | h | h
  · simp [h] at he
  · simp [h] at hn
  · exact h hoff

theorem State.lpEntered_keeps (s : State) (i : Nat) : (s.lpEntered i).fbit pgPwr PWR.LP_CTL.LP_NOW = true ∧
    (s.lpEntered i).mono = max s.mono i ∧ ((s.lpEntered i).hdr pgPwr).evt.getLsbD 12 = true ∧
    State.SameBut [.mono, .time, .out, .page .pwr] s (s.lpEntered i) := by
  unfold State.lpEntered
  refine ⟨?_, ?_, State.evt_set _ _ _ (by decide),
    State.evt_same (State.fset_same (State.advanceTo_same (State.SameOutside.refl _ s) rfl) rfl rfl) rfl rfl⟩
  · unfold State.fbit
    rw [State.evt_fget, State.fset_fget (by decide) (by decide), decide_eq_true rfl]
  · rw [State.evt_mono, State.fset_mono, State.advanceTo_mono]

/-! ### Brown-outs (R446) -/

/-- A transition of a domain that a brown-out marks: an entry ends in OFF, an exit runs as from OFF. -/
def Trans.markedLost (x : Trans) : Trans :=
  { x with lost := true, source := if x.target = 0 then 2 else x.source, target := if x.target = 0 then 0 else 2 }

/-- A domain's state, whether it has lost it, and its transition. -/
def State.domainView (s : State) (d : Nat) : Nat × Bool × Option Trans :=
  (s.domState d, s.fbit pgPwr (PWR.DOM_STAT.LOST d), s.trans d)

/-- What a brown-out makes of a domain that it marks. -/
def lostView (v : Nat × Bool × Option Trans) : Nat × Bool × Option Trans := (2, true, v.2.2.map Trans.markedLost)

theorem State.PowerKept.domainView (h : State.PowerKept s t) (d : Nat) : t.domainView d = s.domainView d := by
  unfold State.domainView State.domState
  rw [h.fget, State.fbit_of_fget (h.fget _), State.trans_of_pwr h.pwr]

/-- DOM_STAT shows a domain as OFF, its state lost. -/
def State.domainShownLost (s : State) (d : Nat) : State := (s.fset pgPwr (PWR.DOM_STAT.STATE d) 2).fset pgPwr (PWR.DOM_STAT.LOST d) 1

theorem State.domainShownLost_view_self (s : State) (d : Nat) : (s.domainShownLost d).domainView d = (2, true, s.trans d) := by
  unfold State.domainView State.domainShownLost State.domState State.fbit
  rw [State.fset_fget_apart ⟨by simp [PWR.DOM_STAT.LOST], .inr (by simp [PWR.DOM_STAT.LOST, PWR.DOM_STAT.STATE])⟩,
    State.fset_fget (by simp [PWR.DOM_STAT.STATE]) (by simp [PWR.DOM_STAT.STATE]),
    State.fset_fget (by simp [PWR.DOM_STAT.LOST]) (by simp [PWR.DOM_STAT.LOST]), decide_eq_true rfl]
  rfl

theorem State.domainShownLost_view_other (hk : k ≤ 18) (hd : d ≤ 18) (h : k ≠ d) (s : State) :
    (s.domainShownLost k).domainView d = s.domainView d := by
  have hother {f : Fld} (hf : f.off = 0x100 + 4 * d) : (s.domainShownLost k).fget pgPwr f = s.fget pgPwr f :=
    (State.fset_fget_apart (domStat_apart (g := PWR.DOM_STAT.LOST k) hk hd h rfl hf (by simp [PWR.DOM_STAT.LOST]))).trans
      (State.fset_fget_apart (domStat_apart (g := PWR.DOM_STAT.STATE k) hk hd h rfl hf (by simp [PWR.DOM_STAT.STATE])))
  unfold State.domainView State.domState
  rw [hother rfl, State.fbit_of_fget (hother rfl)]
  rfl

theorem State.domainShownLost_fget_below (hk : k ≤ 18) (hf : f.off < 0x100) (s : State) :
    (s.domainShownLost k).fget pgPwr f = s.fget pgPwr f :=
  (State.fset_fget_apart ⟨by simp [PWR.DOM_STAT.LOST], .inl (by simp only [PWR.DOM_STAT.LOST]; omega)⟩).trans
    (State.fset_fget_apart ⟨by simp [PWR.DOM_STAT.STATE], .inl (by simp only [PWR.DOM_STAT.STATE]; omega)⟩)

/-- A marked domain's transition goes on as one that loses its state. -/
def State.transMarked (s : State) (d : Nat) : State :=
  match s.trans d with
  | none => s
  | some x => s.setTrans d (some x.markedLost)

theorem State.markLost_eq (s : State) (d : Nat) : s.markLost d = ((s.domainShownLost d).domainLost d).transMarked d := rfl

theorem State.transMarked_trans_self (s : State) (d : Nat) : (s.transMarked d).trans d = (s.trans d).map Trans.markedLost := by
  unfold State.transMarked
  cases h : s.trans d with
  | none => exact h
  | some x => exact State.setTrans_trans_self ..

theorem State.transMarked_trans_other (h : d ≠ k) (s : State) : (s.transMarked k).trans d = s.trans d := by
  unfold State.transMarked
  split
  · rfl
  · exact State.setTrans_trans_other h ..

theorem State.transMarked_fget (h : (PWR.DOM_STAT.BUSY k).Apart f) (h' : (PWR.DOM_STAT.TARGET k).Apart f) (s : State) :
    (s.transMarked k).fget p f = s.fget p f := by
  unfold State.transMarked
  split
  · rfl
  · exact State.setTrans_fget h h' ..

theorem State.transMarked_state (s : State) (k d : Nat) : (s.transMarked k).domState d = s.domState d ∧
    (s.transMarked k).fbit pgPwr (PWR.DOM_STAT.LOST d) = s.fbit pgPwr (PWR.DOM_STAT.LOST d) :=
  ⟨State.transMarked_fget ⟨by simp [PWR.DOM_STAT.BUSY], .inr (by simp [PWR.DOM_STAT.BUSY, PWR.DOM_STAT.STATE])⟩
      ⟨by simp [PWR.DOM_STAT.TARGET], .inr (by simp [PWR.DOM_STAT.TARGET, PWR.DOM_STAT.STATE])⟩ s,
    State.fbit_of_fget (State.transMarked_fget ⟨by simp [PWR.DOM_STAT.BUSY], .inr (by simp [PWR.DOM_STAT.BUSY, PWR.DOM_STAT.LOST])⟩
      ⟨by simp [PWR.DOM_STAT.TARGET], .inr (by simp [PWR.DOM_STAT.TARGET, PWR.DOM_STAT.LOST])⟩ s)⟩

/-- Marking a domain changes its view alone. -/
theorem State.markLost_view (hk : k ∈ domains) (hd : d ∈ domains) (s : State) :
    (s.markLost k).domainView d = if k = d then lostView (s.domainView d) else s.domainView d := by
  obtain ⟨hk1, hk18⟩ := mem_domains.mp hk
  obtain ⟨-, hd18⟩ := mem_domains.mp hd
  have hkept := ((s.domainShownLost k).domainLost_powerKept hk1).domainView d
  obtain ⟨hstate, hlost⟩ := ((s.domainShownLost k).domainLost k).transMarked_state k d
  rw [State.markLost_eq]
  by_cases e : k = d
  · subst e
    rw [s.domainShownLost_view_self] at hkept
    obtain ⟨h1, h2, h3⟩ : _ ∧ _ ∧ _ := ⟨congrArg Prod.fst hkept, congrArg (Prod.fst ∘ Prod.snd) hkept, congrArg (Prod.snd ∘ Prod.snd) hkept⟩
    rw [if_pos rfl, lostView]
    refine Prod.ext (hstate.trans h1) (Prod.ext (hlost.trans h2) ?_)
    exact (State.transMarked_trans_self ..).trans (congrArg (Option.map Trans.markedLost) h3)
  · rw [s.domainShownLost_view_other hk18 hd18 e] at hkept
    rw [if_neg e, ← hkept]
    exact Prod.ext hstate (Prod.ext hlost (State.transMarked_trans_other (Ne.symm e) _))

theorem State.markLost_fget_below (hk : k ∈ domains) (hf : f.off < 0x100) (s : State) :
    (s.markLost k).fget pgPwr f = s.fget pgPwr f := by
  obtain ⟨hk1, hk18⟩ := mem_domains.mp hk
  rw [State.markLost_eq, State.transMarked_fget ⟨by simp [PWR.DOM_STAT.BUSY], .inl (by simp only [PWR.DOM_STAT.BUSY]; omega)⟩
    ⟨by simp [PWR.DOM_STAT.TARGET], .inl (by simp only [PWR.DOM_STAT.TARGET]; omega)⟩, (State.domainLost_powerKept hk1 _).fget,
    State.domainShownLost_fget_below hk18 hf]

/-- Some domains marked, one after the other. -/
def State.marked (s : State) (l : List Nat) : State := l.foldl State.markLost s

theorem State.marked_view {l : List Nat} (hl : ∀ k ∈ l, k ∈ domains) (hnodup : l.Nodup) (hd : d ∈ domains) (s : State) :
    (s.marked l).domainView d = if d ∈ l then lostView (s.domainView d) else s.domainView d :=
  foldl_view (P := fun _ => True) d (fun u => u.domainView d) lostView (fun _ _ _ _ => trivial)
    (fun u _ k hk => State.markLost_view (hl k hk) hd u) hnodup trivial

theorem State.marked_fget_below {l : List Nat} (hl : ∀ k ∈ l, k ∈ domains) (hf : f.off < 0x100) (s : State) :
    (s.marked l).fget pgPwr f = s.fget pgPwr f :=
  List.foldlRecOn _ _ (motive := fun t : State => t.fget pgPwr f = s.fget pgPwr f) rfl fun u hu k hk =>
    (State.markLost_fget_below (hl k hk) hf u).trans hu

theorem State.marked_same (s : State) (l : List Nat) : State.SameOutside 73786975199193579384 s (s.marked l) :=
  State.SameOutside.foldl (State.SameOutside.refl _ s) fun _ _ h => State.markLost_same h rfl

/-- The regulator leaves low-power mode at a brown-out, and may not enter it. -/
def State.brownoutBegun (s : State) : State := (s.fset pgPwr PWR.LP_CTL.LP_EN 0).lpLeave

/-- A brown-out is counted, and shows which domains it marked and when. -/
def State.brownoutNoted (s : State) (l : List Nat) : State :=
  (((s.finc pgPwr PWR.BO_STAT.BO_CNT).fset pgPwr PWR.BO_MASK.DOMAINS (maskOf l)).fset64 pgPwr PWR.BO_TIME_LO.NS
    PWR.BO_TIME_HI.NS s.now).evt pgPwr 11

/-- A brown-out that marks some domains, before it is reported. -/
def State.brownoutTaken (s : State) (l : List Nat) : State := (s.brownoutBegun.marked l).brownoutNoted l

theorem State.onlyRetained_congr (h : t.domState d = s.domState d) (h' : t.trans d = s.trans d) (hm : t.mono = s.mono) :
    t.onlyRetained d = s.onlyRetained d := by
  unfold State.onlyRetained
  rw [h, h', hm]

theorem State.brownoutBegun_fget (h : PWR.LP_CTL.LP_EN.Apart f) (h' : PWR.LP_CTL.LP_NOW.Apart f) (s : State) :
    s.brownoutBegun.fget pgPwr f = s.fget pgPwr f := by
  unfold State.brownoutBegun
  rw [State.lpLeave_fget h', State.fset_fget_apart h]

theorem State.brownoutBegun_same (s : State) : State.SameBut [.out, .page .pwr] s s.brownoutBegun :=
  State.lpLeave_same (State.fset_same (State.SameOutside.refl _ s) rfl rfl) rfl

theorem State.brownoutBegun_trans (s : State) (d : Nat) : s.brownoutBegun.trans d = s.trans d :=
  State.trans_of_pwr (s.brownoutBegun_same .pwr (by decide)) d

theorem State.brownoutBegun_domState (hd : d ∈ domains) (s : State) : s.brownoutBegun.domState d = s.domState d := by
  have hd18 := (mem_domains.mp hd).2
  exact State.brownoutBegun_fget ⟨by decide, .inl (by simp only [PWR.DOM_STAT.STATE, PWR.LP_CTL.LP_EN]; omega)⟩
    ⟨by decide, .inl (by simp only [PWR.DOM_STAT.STATE, PWR.LP_CTL.LP_NOW]; omega)⟩ s

theorem State.brownoutBegun_retained (s : State) : domains.filter s.brownoutBegun.onlyRetained = domains.filter s.onlyRetained :=
  List.filter_congr fun d hd => State.onlyRetained_congr (s.brownoutBegun_domState hd) (s.brownoutBegun_trans d)
    (s.brownoutBegun_same .mono (by decide))

theorem State.brownout_eq (s : State) : s.brownout = (s.brownoutTaken (domains.filter s.onlyRetained)).reportDrop pgPwr := by
  rw [← s.brownoutBegun_retained]
  rfl

theorem State.brownoutNoted_same (s : State) (l : List Nat) : State.SameBut [.out, .page .pwr] s (s.brownoutNoted l) :=
  State.evt_same (State.fset64_same (State.fset_same (State.finc_same (State.SameOutside.refl _ s) rfl rfl) rfl rfl) rfl rfl) rfl rfl

/-- A field beside those of the brown-out. -/
theorem State.brownoutNoted_fget (h : f.off % 0x1000 ≠ 0x054) (h' : f.off % 0x1000 ≠ 0x058) (hlo : f.off % 0x1000 ≠ 0x05C)
    (hhi : f.off % 0x1000 ≠ 0x060) (s : State) (l : List Nat) : (s.brownoutNoted l).fget pgPwr f = s.fget pgPwr f := by
  unfold State.brownoutNoted State.fset64
  rw [State.evt_fget, State.fset_fget_apart ⟨by decide, .inl hhi⟩, State.fset_fget_apart ⟨by decide, .inl hlo⟩,
    State.fset_fget_apart ⟨by decide, .inl h'⟩, State.finc_fget_apart ⟨by decide, .inl h⟩]

theorem State.brownoutNoted_count (s : State) (l : List Nat) :
    (s.brownoutNoted l).fget pgPwr PWR.BO_STAT.BO_CNT = min (s.fget pgPwr PWR.BO_STAT.BO_CNT + 1) 65535 ∧
      (s.brownoutNoted l).fget pgPwr PWR.BO_MASK.DOMAINS = maskOf l % 2 ^ 19 := by
  unfold State.brownoutNoted State.fset64
  refine ⟨?_, ?_⟩
  · rw [State.evt_fget, State.fset_fget_apart (by decide), State.fset_fget_apart (by decide), State.fset_fget_apart (by decide),
      State.finc_fget (by decide)]
    rfl
  · rw [State.evt_fget, State.fset_fget_apart (by decide), State.fset_fget_apart (by decide), State.fget_fset_self _ _ _ _ (by decide)]
    rfl

theorem domStat_view_fget {f : Fld} (hd : d ∈ domains) (hf : f.off = 0x100 + 4 * d) (s : State) (l : List Nat) :
    (s.brownoutNoted l).fget pgPwr f = s.fget pgPwr f := by
  have hd18 := (mem_domains.mp hd).2
  exact State.brownoutNoted_fget (by omega) (by omega) (by omega) (by omega) s l

/-- What a brown-out leaves of a domain's view. -/
theorem State.brownoutTaken_view (hd : d ∈ domains) (s : State) :
    (s.brownoutTaken (domains.filter s.onlyRetained)).domainView d =
      if s.onlyRetained d = true then lostView (s.brownoutBegun.domainView d) else s.brownoutBegun.domainView d := by
  have hsub : ∀ k ∈ domains.filter s.onlyRetained, k ∈ domains := fun k hk => List.mem_of_mem_filter hk
  have hmem : d ∈ domains.filter s.onlyRetained ↔ s.onlyRetained d = true := by
    rw [List.mem_filter, and_iff_right hd]
  have hmarked := State.marked_view hsub ((List.nodup_range.map (add_left_injective 1)).filter _) hd s.brownoutBegun
  unfold State.brownoutTaken
  generalize domains.filter s.onlyRetained = l at *
  have hnoted : ((s.brownoutBegun.marked l).brownoutNoted l).domainView d = (s.brownoutBegun.marked l).domainView d := by
    unfold State.domainView State.domState
    rw [domStat_view_fget hd rfl, State.fbit_of_fget (domStat_view_fget hd rfl _ _),
      State.trans_of_pwr ((s.brownoutBegun.marked l).brownoutNoted_same l .pwr (by decide))]
  rw [hnoted, hmarked]
  simp only [hmem]

theorem State.brownoutBegun_lp (s : State) : s.brownoutBegun.fbit pgPwr PWR.LP_CTL.LP_EN = false ∧
    s.brownoutBegun.fbit pgPwr PWR.LP_CTL.LP_NOW = false := by
  refine ⟨?_, State.lpLeave_now _⟩
  unfold State.brownoutBegun State.fbit
  rw [State.lpLeave_fget (by decide), State.fset_fget (by decide) (by decide), decide_eq_false (by decide)]

/-- What a brown-out that marks some domains leaves: no low-power mode, its count and its mask. -/
theorem State.brownoutTaken_keeps {l : List Nat} (hl : ∀ k ∈ l, k ∈ domains) (s : State) :
    (s.brownoutTaken l).fbit pgPwr PWR.LP_CTL.LP_EN = false ∧ (s.brownoutTaken l).fbit pgPwr PWR.LP_CTL.LP_NOW = false ∧
      ((s.brownoutTaken l).hdr pgPwr).evt.getLsbD 11 = true ∧
      (s.brownoutTaken l).fget pgPwr PWR.BO_STAT.BO_CNT = min (s.fget pgPwr PWR.BO_STAT.BO_CNT + 1) 65535 ∧
      (s.brownoutTaken l).fget pgPwr PWR.BO_MASK.DOMAINS = maskOf l % 2 ^ 19 := by
  obtain ⟨hen, hnow⟩ := s.brownoutBegun_lp
  obtain ⟨hcount, hmask⟩ := (s.brownoutBegun.marked l).brownoutNoted_count l
  have hlp {f : Fld} (hf : f.off = 0x050) : (s.brownoutTaken l).fget pgPwr f = s.brownoutBegun.fget pgPwr f :=
    (State.brownoutNoted_fget (by omega) (by omega) (by omega) (by omega) _ l).trans (State.marked_fget_below hl (by omega) _)
  refine ⟨(State.fbit_of_fget (hlp rfl)).trans hen, (State.fbit_of_fget (hlp rfl)).trans hnow, State.evt_set _ _ _ (by decide), ?_, hmask⟩
  refine hcount.trans ?_
  rw [State.marked_fget_below hl (by decide), State.brownoutBegun_fget (by decide) (by decide)]

theorem State.brownoutTaken_same (s : State) (l : List Nat) : State.SameOutside 73786975199193579384 s (s.brownoutTaken l) :=
  ((s.brownoutBegun_same.mono rfl).trans (State.marked_same _ l)).trans ((State.brownoutNoted_same _ l).mono rfl)

/-! ### The commands -/

theorem exec_domainEntryDone_on (h : s.boot.powered = true) (d : Fin 19) :
    exec (.domainEntryDone d) s = .next (s.entryDone d).resume := congrArg Host.Outcome.next (State.live_on h _)

theorem exec_domainExitDone_on (h : s.boot.powered = true) (d : Fin 19) :
    exec (.domainExitDone d) s = .next (s.exitDone d).resume := congrArg Host.Outcome.next (State.live_on h _)

theorem exec_entryAbandon_on (h : s.boot.powered = true) (d : Fin 19) :
    exec (.entryAbandon d) s = .next (s.entryAbandon d).resume := congrArg Host.Outcome.next (State.live_on h _)

theorem exec_lpEnter_on (h : s.boot.powered = true) : exec .lpEnter s = .next s.lpEnter :=
  congrArg Host.Outcome.next (State.live_on h _)

theorem exec_brownout_on (h : s.boot.powered = true) : exec .brownout s = .next s.brownout.resume :=
  congrArg Host.Outcome.next (State.live_on h _)

theorem State.entryDone_none (h : s.trans d = none) : s.entryDone d = s := by
  unfold State.entryDone
  rw [h]

theorem State.exitDone_none (h : s.trans d = none) : s.exitDone d = s := by
  unfold State.exitDone
  rw [h]

theorem State.entryAbandon_none (h : s.trans d = none) : s.entryAbandon d = s := by
  unfold State.entryAbandon
  rw [h]

/-- Settles O53: a transition ends in its own lemma of each kind, and a brown-out marks each domain that was only retained. -/
theorem transitionsEnd : Obligations.TransitionsEnd := by
  unfold Obligations.TransitionsEnd
  intro s hon
  refine ⟨fun d ht => ?_, fun d x hd ht => ⟨fun htgt hab => ?_, fun htgt => ?_, fun who hab => ?_⟩, fun he hn hoff => ?_, fun h => ?_, ?_⟩
  · rw [exec_domainEntryDone_on hon, exec_domainExitDone_on hon, exec_entryAbandon_on hon, State.entryDone_none ht,
      State.exitDone_none ht, State.entryAbandon_none ht]
    exact ⟨rfl, rfl, rfl⟩
  · obtain ⟨htrans, hstate, hmono, hbusy, hevt⟩ := s.entryEnded_keeps hd (x.start + x.length d) (if x.lost = true then 2 else x.target) x.lost
    refine ⟨_, ?_, htrans, hstate, hmono, hbusy, hevt, fun hl h1 => ?_, fun h8 hl h2 => ?_⟩
    · rw [exec_domainEntryDone_on hon, State.entryDone_eq ht htgt hab]
    · exact State.entryEnded_same (by rw [hl, if_neg (by decide), h1]; decide) s _ d _
    · rw [hl, if_neg (by decide), h2, h8]
      exact s.entryEnded_mem _
  · obtain ⟨htrans, hstate, hlost, hmono, hevt⟩ := s.exitEnded_keeps (x.start + x.length d) d _ rfl
    refine ⟨_, ?_, htrans, hstate, hlost, hmono, hevt, fun hl p hp => ?_, fun hl => ?_⟩
    · rw [exec_domainExitDone_on hon, State.exitDone_eq ht htgt]
    · rw [hl]
      exact State.exitEnded_hdr hd hp s _
    · rw [hl]
      exact s.exitEnded_same _ d
  · obtain ⟨i, hi⟩ := State.entryAbandon_eq ht hab
    exact ⟨s.entryUndone i d who, by rw [exec_entryAbandon_on hon, hi], State.entryUndone_keeps (Nat.le_of_lt_succ d.isLt) s i who⟩
  · rw [exec_lpEnter_on hon, State.lpEnter_on he hn hoff]
    obtain ⟨hlp, hmono, hevt, hsame⟩ := s.lpEntered_keeps (s.pwr.allOffAt + 10000)
    exact ⟨_, rfl, hlp, hmono, hevt, hsame⟩
  · rw [exec_lpEnter_on hon, State.lpEnter_off (h.imp_right (Or.imp_right ?_))]
    rintro ⟨d, h1, h18, hd⟩ hoff
    obtain ⟨hstate, htrans, hqueued⟩ := hoff d h1 h18
    rcases hd with hd | hd | hd
    · exact hstate hd
    · exact hd htrans
    · exact hd hqueued
  · let l := domains.filter s.onlyRetained
    obtain ⟨hen, hnow, hevt, hcount, hmask⟩ := s.brownoutTaken_keeps (l := l) fun k hk => List.mem_of_mem_filter hk
    have hsame := s.brownoutTaken_same l
    refine ⟨s.brownoutTaken l, by rw [exec_brownout_on hon, State.brownout_eq], hen, hnow, hevt, hcount, hmask, fun d h1 h18 ht hs => ?_,
      fun d h1 h18 hr => ?_, hsame .mono (by decide), hsame .dram (by decide), hsame .otp (by decide), hsame .flash (by decide)⟩
    · have hr : s.onlyRetained d = true := by
        unfold State.onlyRetained
        rw [ht]
        exact decide_eq_true hs
      have hview := State.brownoutTaken_view (mem_domains.mpr ⟨h1, h18⟩) s
      rw [if_pos hr] at hview
      exact ⟨congrArg Prod.fst hview, congrArg (Prod.fst ∘ Prod.snd) hview⟩
    · have hview := State.brownoutTaken_view (mem_domains.mpr ⟨h1, h18⟩) s
      rw [hr, if_neg (by decide)] at hview
      exact ⟨(congrArg Prod.fst hview).trans (s.brownoutBegun_domState (mem_domains.mpr ⟨h1, h18⟩)),
        (congrArg (Prod.snd ∘ Prod.snd) hview).trans (s.brownoutBegun_trans d)⟩

end Sys2Proof.Machine
end

section
/-! PROOFS. Self-calibration's command, its runs, its references and the MADC (R461 to R470, R474). -/

namespace Sys2Proof.Machine

variable {s t u o : State} {d k i n p v w m c arg : Nat} {f g : Fld} {r : ScalRun}

/-! ### Bits of a mask -/

theorem bit_mask_without (hk : k < w) (i : Nat) : bit (2 ^ w - 1 - 1 <<< k) i = (decide (i < w) && decide (i ≠ k)) := by
  have hmask : 2 ^ w - 1 - 1 <<< k = 2 ^ w - 1 - (1 <<< k &&& (2 ^ w - 1)) := by
    rw [Nat.and_two_pow_sub_one_eq_mod, Nat.one_shiftLeft, Nat.mod_eq_of_lt (Nat.pow_lt_pow_right (by decide) hk)]
  rw [hmask, bit_sub_and, bit_one_shiftLeft, bit_eq_testBit, Nat.testBit_two_pow_sub_one]
  by_cases h : i = k
  · subst h
    simp
  · simp [h, Ne.symm h]

theorem bit_mod_two_pow (v w i : Nat) : bit (v % 2 ^ w) i = (decide (i < w) && bit v i) := by
  rw [bit_eq_testBit, Nat.testBit_mod_two_pow, bit_eq_testBit]

/-- A bit of a field that has been set. -/
theorem State.fset_bit_lt (hf : f.lo + f.w ≤ 32) (hi : i < f.w) (s : State) (p v : Nat) : bit ((s.fset p f v).fget p f) i = bit v i := by
  rw [State.fget_fset_self _ _ _ _ hf, bit_mod_two_pow, decide_eq_true hi, Bool.true_and]

/-! ### RUN (R464, R474) -/

/-- The units that a RUN names: those of its mask, or all. -/
def runUnits (units : Nat) : Nat := if units = 0 then 0x1FFFFF else units

theorem State.scalPend_fget (h : v < 2 ^ 21) (s : State) : (s.scalPend v).fget pgScal SCAL.PENDING.UNITS =
    s.fget pgScal SCAL.PENDING.UNITS ||| v := by
  unfold State.scalPend
  rw [Nat.mod_eq_of_lt h]
  exact State.fset_fget (by decide) (Nat.or_lt_two_pow (State.fget_lt ..) h)

theorem State.scalPend_fget_other (h : f.off % 0x1000 ≠ 0x048) (s : State) (v p : Nat) : (s.scalPend v).fget p f = s.fget p f :=
  State.fset_fget_apart ⟨by decide, .inl h⟩

/-- The units of a RUN are asked for. -/
def State.runAsked (s : State) (k : Nat) : State := { s.scalPend k with scal := { s.scal with cmdUnits := k, cmdFailed := false } }

theorem State.scalRun_eq {units : Nat} (h : units < 2 ^ 21) (s : State) : s.scalRun units = s.runAsked (runUnits units) := by
  have hk : (if units = 0 then 0x1FFFFF else units % 2 ^ 21) = runUnits units := by rw [Nat.mod_eq_of_lt h]; rfl
  have hne : runUnits units ≠ 0 := by
    unfold runUnits
    split
    · decide
    · assumption
  unfold State.scalRun
  rw [hk]
  exact if_neg (by
    rw [Bool.and_eq_true]
    exact fun hc => hne (of_decide_eq_true hc.2))

theorem State.cmdRun_scal {op : Nat} (h : 2 < op) : s.cmdRun m pgScal op arg = s.scalRun arg := by
  unfold State.cmdRun
  rw [if_neg (by omega), if_neg (by omega), if_neg (by omega)]
  rfl

theorem State.scalRun_command {units : Nat} (h : s.accepts m pgScal 0x10 units = true) (hu : units < 2 ^ 21) :
    s.command m pgScal 0x10 units = ((s.cmdStart pgScal 0x10 units m).runAsked (runUnits units)).emit (.access m 0 0) := by
  rw [State.command_eq h (by decide) (by omega) (.inr fun q _ => by unfold pgScal pgReel; omega), State.cmdRun_scal (by decide),
    State.scalRun_eq hu]

/-! ### Starts of runs (R465) -/

/-- A unit is no longer pending. -/
def State.pendingTaken (s : State) (k : Nat) : State :=
  s.fset pgScal SCAL.PENDING.UNITS (s.fget pgScal SCAL.PENDING.UNITS &&& (0x1FFFFF - 1 <<< k))

/-- The temperature at a run's start, where the unit's sensor has a sound reading. -/
def State.startTemp (s : State) (k : Nat) : State :=
  if s.fbit pgThm (THM.TS.VALID (sensorOf k)) && !s.fbit pgThm (THM.TS.BROKEN (sensorOf k)) then
    s.fset pgScal (SCAL.UNIT_STAT.TEMP k) (s.fget pgThm (THM.TS.VALUE (sensorOf k)))
  else s

/-- A unit's run is shown. -/
def State.unitShown (s : State) (k : Nat) : State := (s.fset pgScal SCAL.STAT.BUSY 1).fset pgScal SCAL.STAT.UNIT k

/-- A unit's run has started. -/
def State.runStarted (s : State) (k : Nat) : State :=
  { ((s.pendingTaken k).startTemp k).unitShown k with
    scal := { (((s.pendingTaken k).startTemp k).unitShown k).scal with run := some { unit := k } } }

theorem State.scalRunStart_on (hr : s.scal.run = none) (he : s.fbit pgScal SCAL.CTL.EN = true)
    (hu : (bitsSet (s.fget pgScal SCAL.PENDING.UNITS) 21).head? = some k) : s.scalRunStart = s.runStarted k := by
  unfold State.scalRunStart
  rw [hr, hu]
  exact if_neg (by rw [he]; decide)

theorem State.scalRunStart_off (h : s.scal.run.isSome = true ∨ s.fget pgScal SCAL.PENDING.UNITS = 0 ∨ s.fbit pgScal SCAL.CTL.EN = false) :
    s.scalRunStart = s := by
  unfold State.scalRunStart
  split
  · next k hr hu =>
    refine if_pos ?_
    rcases h with h | h | h
    · rw [hr] at h
      cases h
    · rw [h] at hu
      rw [show bitsSet 0 21 = [] by decide] at hu
      cases hu
    · rw [h]
      rfl
  · rfl

theorem State.startTemp_fget (h : (SCAL.UNIT_STAT.TEMP k).Apart f) (s : State) : (s.startTemp k).fget p f = s.fget p f := by
  unfold State.startTemp
  split
  · exact State.fset_fget_apart h
  · rfl

theorem State.startTemp_same (s : State) (k : Nat) : State.SameBut [.page .scal] s (s.startTemp k) := by
  unfold State.startTemp
  exact State.SameOutside.ite (State.fset_same (State.SameOutside.refl _ s) rfl rfl) (State.SameOutside.refl _ s)

theorem State.runStarted_fget (s : State) (k p : Nat) (f : Fld) :
    (s.runStarted k).fget p f = (((s.pendingTaken k).startTemp k).unitShown k).fget p f := State.fget_of_pages rfl p f

theorem State.runStarted_same (s : State) (k : Nat) : State.SameBut [.scal, .page .scal] s (s.runStarted k) :=
  State.SameOutside.set_scal (State.fset_same (State.fset_same (((State.fset_same (State.SameOutside.refl _ s) rfl rfl)).trans
    ((State.startTemp_same _ k).mono rfl)) rfl rfl) rfl rfl) rfl

theorem State.runStarted_scal (s : State) (k : Nat) : (s.runStarted k).scal = { s.scal with run := some { unit := k } } := by
  have h : (((s.pendingTaken k).startTemp k).unitShown k).scal = s.scal := (s.pendingTaken k).startTemp_same k .scal (by decide)
  unfold State.runStarted
  dsimp only
  rw [h]

/-- What a run's start shows: its unit busy, no longer pending, at its sensor's temperature. -/
theorem State.runStarted_keeps (hk : k < 21) (s : State) :
    (∀ v, v < 21 → bit ((s.runStarted k).fget pgScal SCAL.PENDING.UNITS) v = (bit (s.fget pgScal SCAL.PENDING.UNITS) v && decide (v ≠ k))) ∧
      (s.runStarted k).fbit pgScal SCAL.STAT.BUSY = true ∧ (s.runStarted k).fget pgScal SCAL.STAT.UNIT = k ∧
      (s.fbit pgThm (THM.TS.VALID (sensorOf k)) = true → s.fbit pgThm (THM.TS.BROKEN (sensorOf k)) = false →
        (s.runStarted k).fget pgScal (SCAL.UNIT_STAT.TEMP k) = s.fget pgThm (THM.TS.VALUE (sensorOf k))) := by
  have htemp (f : Fld) (hf : f.off < 0x080) : (SCAL.UNIT_STAT.TEMP k).Apart f :=
    ⟨by simp [SCAL.UNIT_STAT.TEMP], .inl (by simp only [SCAL.UNIT_STAT.TEMP]; omega)⟩
  refine ⟨fun v hv => ?_, ?_, ?_, fun hvalid hbroken => ?_⟩
  · rw [State.runStarted_fget, State.unitShown, State.fset_fget_apart (by decide), State.fset_fget_apart (by decide),
      State.startTemp_fget (htemp _ (by decide)), State.pendingTaken, State.fset_bit_lt (by decide) hv, bit_and,
      show (0x1FFFFF : Nat) = 2 ^ 21 - 1 from rfl, bit_mask_without hk, decide_eq_true hv, Bool.true_and]
  · unfold State.fbit
    rw [State.runStarted_fget, State.unitShown, State.fset_fget_apart (by decide), State.fset_fget (by decide) (by decide), decide_eq_true rfl]
  · rw [State.runStarted_fget, State.unitShown, State.fset_fget (by decide) (Nat.lt_trans hk (by decide))]
  · have hthm (f : Fld) : (s.pendingTaken k).fget pgThm f = s.fget pgThm f := State.fget_fset_page _ _ _ _ _ _ (by decide)
    have hoff : (SCAL.UNIT_STAT.TEMP k).off % 0x1000 ≠ 0x044 := by
      simp only [SCAL.UNIT_STAT.TEMP]
      omega
    rw [State.runStarted_fget, State.unitShown, State.fset_fget_apart ⟨by decide, .inl hoff⟩, State.fset_fget_apart ⟨by decide, .inl hoff⟩,
      State.startTemp, State.fbit_of_fget (hthm _), State.fbit_of_fget (hthm _), hvalid, hbroken, hthm]
    exact State.fset_fget (by simp [SCAL.UNIT_STAT.TEMP]) (State.fget_lt ..)

/-! ### References (R468 to R470) -/

/-- A change of a reference's validity is shown, and its mark of untraced results with it. -/
def State.refShown (s : State) (osc valid : Bool) : State :=
  ((s.fsetB pgScal (if osc then SCAL.STAT.REFIN_VALID else SCAL.STAT.VREF_VALID) valid).fsetB pgScal
    (if osc then SCAL.STAT.TIME_UNTRACED else SCAL.STAT.VOLT_UNTRACED) (!valid)).evt pgScal (if valid then 11 else 10)

/-- A run that uses a reference is given up. -/
def State.refRunEnded (s : State) (osc : Bool) : State :=
  match s.scal.run with
  | some r =>
    if (if osc then 9 ≤ r.unit else r.unit = 8) then
      { (s.fset pgScal SCAL.STAT.BUSY 0).fset pgScal SCAL.STAT.UNIT 0 with scal := { s.scal with run := none } }
    else s
  | none => s

theorem State.refValid_changed {osc valid : Bool}
    (h : s.fbit pgScal (if osc then SCAL.STAT.REFIN_VALID else SCAL.STAT.VREF_VALID) ≠ valid) :
    s.refValid osc valid = ((s.refShown osc valid).refRunEnded osc).scalPend (if osc then 0x1FFE00 else 0x100) := if_neg h

theorem State.refValid_unchanged {osc valid : Bool}
    (h : s.fbit pgScal (if osc then SCAL.STAT.REFIN_VALID else SCAL.STAT.VREF_VALID) = valid) : s.refValid osc valid = s := if_pos h

theorem State.refRunEnded_cases (s : State) (osc : Bool) : s.refRunEnded osc = s ∨ s.refRunEnded osc =
    { (s.fset pgScal SCAL.STAT.BUSY 0).fset pgScal SCAL.STAT.UNIT 0 with scal := { s.scal with run := none } } := by
  unfold State.refRunEnded
  split
  · next r _ =>
    by_cases hu : if osc then 9 ≤ r.unit else r.unit = 8
    · exact .inr (if_pos hu)
    · exact .inl (if_neg hu)
  · exact .inl rfl

theorem State.refRunEnded_fget (h : SCAL.STAT.BUSY.Apart f) (h' : SCAL.STAT.UNIT.Apart f) (s : State) (osc : Bool) :
    (s.refRunEnded osc).fget p f = s.fget p f := by
  rcases s.refRunEnded_cases osc with e | e <;> rw [e]
  exact (State.fget_of_pages (s := (s.fset pgScal SCAL.STAT.BUSY 0).fset pgScal SCAL.STAT.UNIT 0) rfl p f).trans
    ((State.fset_fget_apart h').trans (State.fset_fget_apart h))

theorem State.refRunEnded_hdr (s : State) (osc : Bool) (p : Nat) : (s.refRunEnded osc).hdr p = s.hdr p := by
  rcases s.refRunEnded_cases osc with e | e <;> rw [e]
  rfl

/-- A run as the loss or the return of REFIN leaves it. -/
def runAfterRefin (x : Option ScalRun) : Option ScalRun := x.bind fun r => if 9 ≤ r.unit then none else some r

theorem State.refRunEnded_scal (s : State) : (s.refRunEnded true).scal = { s.scal with run := runAfterRefin s.scal.run } := by
  rcases hs : s.scal with ⟨run⟩
  unfold State.refRunEnded
  rw [hs]
  cases run with
  | none => exact hs
  | some r =>
    unfold runAfterRefin
    by_cases h9 : 9 ≤ r.unit
    · simp [h9]
    · simp [h9, hs]

theorem State.refShown_scal (s : State) (osc valid : Bool) : (s.refShown osc valid).scal = s.scal := State.evt_scal ..

/-- A field that no reference shows. -/
theorem State.refValid_fget (h : f.off % 0x1000 ≠ 0x044) (h' : f.off % 0x1000 ≠ 0x048) (s : State) (osc valid : Bool) :
    (s.refValid osc valid).fget p f = s.fget p f := by
  by_cases hv : s.fbit pgScal (if osc then SCAL.STAT.REFIN_VALID else SCAL.STAT.VREF_VALID) = valid
  · rw [State.refValid_unchanged hv]
  · rw [State.refValid_changed hv, State.scalPend_fget_other h', State.refRunEnded_fget ⟨by decide, .inl h⟩ ⟨by decide, .inl h⟩,
      State.refShown, State.evt_fget, State.fsetB_fget_apart, State.fsetB_fget_apart]
    · cases osc <;> exact ⟨by decide, .inl h⟩
    · cases osc <;> exact ⟨by decide, .inl h⟩

theorem State.refValid_same_own (s : State) (osc valid : Bool) : State.SameBut [.scal, .out, .page .scal] s (s.refValid osc valid) :=
  State.refValid_same (State.SameOutside.refl _ s) rfl

/-- What a change of REFIN's validity leaves: its bit, its mark, its event, its units pending, and a run given up. -/
theorem State.refValid_keeps {valid : Bool} (h : s.fbit pgScal SCAL.STAT.REFIN_VALID ≠ valid) :
    (s.refValid true valid).fbit pgScal SCAL.STAT.REFIN_VALID = valid ∧
      (s.refValid true valid).fbit pgScal SCAL.STAT.TIME_UNTRACED = !valid ∧
      ((s.refValid true valid).hdr pgScal).evt.getLsbD (if valid then 11 else 10) = true ∧
      (s.refValid true valid).fget pgScal SCAL.PENDING.UNITS = s.fget pgScal SCAL.PENDING.UNITS ||| 0x1FFE00 ∧
      (s.refValid true valid).scal = { s.scal with run := runAfterRefin s.scal.run } := by
  have hshown : s.refShown true valid = ((s.fsetB pgScal SCAL.STAT.REFIN_VALID valid).fsetB pgScal SCAL.STAT.TIME_UNTRACED (!valid)).evt
    pgScal (if valid then 11 else 10) := rfl
  rw [State.refValid_changed (osc := true) h, if_pos rfl]
  refine ⟨?_, ?_, ?_, ?_, ?_⟩
  · rw [State.fbit_of_fget (State.scalPend_fget_other (by decide) ..), State.fbit_of_fget (State.refRunEnded_fget (by decide) (by decide) ..),
      hshown, State.evt_fbit, State.fbit_of_fget (State.fsetB_fget_apart (by decide)), State.fsetB_fbit (by decide) rfl]
  · rw [State.fbit_of_fget (State.scalPend_fget_other (by decide) ..), State.fbit_of_fget (State.refRunEnded_fget (by decide) (by decide) ..),
      hshown, State.evt_fbit, State.fsetB_fbit (by decide) rfl]
  · rw [State.scalPend, State.fset_hdr, State.refRunEnded_hdr]
    exact State.evt_set _ _ _ (by split <;> decide)
  · rw [State.scalPend_fget (by decide), State.refRunEnded_fget (by decide) (by decide), hshown, State.evt_fget,
      State.fsetB_fget_apart (by decide), State.fsetB_fget_apart (by decide)]
  · rw [State.scalPend, State.fset_scal, State.refRunEnded_scal, State.refShown_scal]

/-- REFIN's validity is as asked for afterwards, and the counts of good gates as before. -/
theorem State.refValid_valid (s : State) (valid : Bool) : (s.refValid true valid).fbit pgScal SCAL.STAT.REFIN_VALID = valid ∧
    (s.refValid true valid).scal.refinGood = s.scal.refinGood := by
  by_cases h : s.fbit pgScal SCAL.STAT.REFIN_VALID = valid
  · rw [State.refValid_unchanged (osc := true) h]
    exact ⟨h, rfl⟩
  · obtain ⟨hvalid, -, -, -, hscal⟩ := State.refValid_keeps h
    rw [hscal]
    exact ⟨hvalid, rfl⟩

/-! ### Gates of REFIN and its loss (R468) -/

/-- The count of good gates in a row. -/
def State.refinCounted (s : State) (k : Nat) : State := { s with scal := { s.scal with refinGood := k } }

theorem State.refinCounted_fget (s : State) (k p : Nat) (f : Fld) : (s.refinCounted k).fget p f = s.fget p f := State.fget_of_pages rfl p f

/-- The offset that a gate has measured. -/
def State.gateShown (s : State) (ofs : Int) : State := s.fsetI pgScal SCAL.REFIN_PPM.OFFSET ofs

theorem State.gateShown_ppm (s : State) (ofs : Int) : (s.gateShown ofs).fget pgScal SCAL.REFIN_PPM.OFFSET = unsgn 32 ofs := by
  refine State.fset_fget (by decide) ?_
  rw [show SCAL.REFIN_PPM.OFFSET.w = 32 from rfl]
  unfold unsgn
  omega

theorem State.gateShown_fget (h : SCAL.REFIN_PPM.OFFSET.Apart f) (s : State) (ofs : Int) (p : Nat) :
    (s.gateShown ofs).fget p f = s.fget p f := State.fsetI_fget_apart h

theorem State.refinGate_off {ofs : Int} (h : s.fget pgScal SCAL.CTL.REFIN_SEL = 0) : s.refinGate ofs = s := if_pos h

theorem State.refinGate_far {ofs : Int} (h : s.fget pgScal SCAL.CTL.REFIN_SEL ≠ 0) (ho : 200000 < ofs.natAbs) :
    s.refinGate ofs = ((s.gateShown ofs).refValid true false).refinCounted 0 := (if_neg h).trans (if_pos ho)

theorem State.refinGate_near {ofs : Int} (h : s.fget pgScal SCAL.CTL.REFIN_SEL ≠ 0) (ho : ofs.natAbs ≤ 200000) : s.refinGate ofs =
    if min (s.scal.refinGood + 1) 3 = 3 then ((s.gateShown ofs).refinCounted (min (s.scal.refinGood + 1) 3)).refValid true true
    else (s.gateShown ofs).refinCounted (min (s.scal.refinGood + 1) 3) := (if_neg h).trans (if_neg (by omega))

theorem State.refinLoss_eq (s : State) : s.refinLoss = (s.refValid true false).refinCounted 0 := rfl

/-- A gate within 200 ppm counts as good; the third in a row makes REFIN valid. -/
theorem State.refinGate_near_keeps {ofs : Int} (h : s.fget pgScal SCAL.CTL.REFIN_SEL ≠ 0) (ho : ofs.natAbs ≤ 200000) :
    (s.refinGate ofs).scal.refinGood = min (s.scal.refinGood + 1) 3 ∧
      (s.refinGate ofs).fbit pgScal SCAL.STAT.REFIN_VALID = (s.fbit pgScal SCAL.STAT.REFIN_VALID || decide (2 ≤ s.scal.refinGood)) := by
  rw [State.refinGate_near h ho]
  have hkeep : ((s.gateShown ofs).refinCounted (min (s.scal.refinGood + 1) 3)).fbit pgScal SCAL.STAT.REFIN_VALID =
      s.fbit pgScal SCAL.STAT.REFIN_VALID := by
    rw [State.fbit_of_fget (State.refinCounted_fget ..), State.fbit_of_fget (State.gateShown_fget (by decide) ..)]
  by_cases h2 : 2 ≤ s.scal.refinGood
  · obtain ⟨hvalid, hgood⟩ := ((s.gateShown ofs).refinCounted (min (s.scal.refinGood + 1) 3)).refValid_valid true
    rw [if_pos (by omega), hvalid, hgood, decide_eq_true h2, Bool.or_true]
    exact ⟨rfl, rfl⟩
  · rw [if_neg (by omega), hkeep, decide_eq_false h2, Bool.or_false]
    exact ⟨rfl, rfl⟩

theorem State.refinGate_ppm {ofs : Int} (h : s.fget pgScal SCAL.CTL.REFIN_SEL ≠ 0) :
    (s.refinGate ofs).fget pgScal SCAL.REFIN_PPM.OFFSET = unsgn 32 ofs := by
  rcases Nat.lt_or_ge 200000 ofs.natAbs with ho | ho
  · rw [State.refinGate_far h ho, State.refinCounted_fget, State.refValid_fget (by decide) (by decide), State.gateShown_ppm]
  · rw [State.refinGate_near h ho]
    split
    · rw [State.refValid_fget (by decide) (by decide), State.refinCounted_fget, State.gateShown_ppm]
    · rw [State.refinCounted_fget, State.gateShown_ppm]

/-! ### Conversions of the MADC (R462) -/

/-- A corrected code is posted. -/
def State.codePosted (s : State) (c x : Nat) : State := (s.fset pgScal (SCAL.MADC_RES.VALUE c) x).fset pgScal (SCAL.MADC_RES.VALID c) 1

/-- The code of a raw conversion, corrected. -/
def State.corrected (s : State) (raw : Nat) : Int :=
  rshift (((raw : Int) - s.fgetI pgScal SCAL.MADC_CAL.OFFSET) * s.fget pgScal SCAL.MADC_CAL.GAIN) 15

theorem State.madcConversion_eq (s : State) (c raw : Nat) : s.madcConversion c raw =
    if c = 0 then ((s.fit16 0 65535 (s.corrected raw)).2.codePosted c (s.fit16 0 65535 (s.corrected raw)).1).vrefCheck
    else (s.fit16 0 65535 (s.corrected raw)).2.codePosted c (s.fit16 0 65535 (s.corrected raw)).1 := rfl

/-- The check of VREF_IN leaves the results of the channels alone. -/
theorem State.vrefCheck_fget (h : f.off % 0x1000 ≠ 0x044) (h' : f.off % 0x1000 ≠ 0x048) (s : State) :
    s.vrefCheck.fget p f = s.fget p f := by
  have hset (x : ScalSt) : State.fget { s with scal := x } p f = s.fget p f := State.fget_of_pages rfl p f
  unfold State.vrefCheck
  split
  · rfl
  · extract_lets vref bandgap ok good bad source judged
    have hjudged : judged.fget p f = s.fget p f := hset _
    by_cases hgood : good = 3
    · rw [if_pos hgood, State.refValid_fget h h', hjudged]
    · by_cases hbad : bad = 3
      · rw [if_neg hgood, if_pos hbad, State.refValid_fget h h', hjudged]
      · rw [if_neg hgood, if_neg hbad, hjudged]

theorem State.vrefCheck_same_own (s : State) : State.SameBut [.scal, .out, .page .scal] s s.vrefCheck :=
  State.vrefCheck_same (State.SameOutside.refl _ s) rfl

theorem State.codePosted_fget {x : Nat} (hx : x < 2 ^ 16) (s : State) :
    (s.codePosted c x).fget pgScal (SCAL.MADC_RES.VALUE c) = x ∧ (s.codePosted c x).fget pgScal (SCAL.MADC_RES.VALID c) = 1 := by
  unfold State.codePosted
  refine ⟨?_, State.fset_fget (by simp [SCAL.MADC_RES.VALID]) (by simp [SCAL.MADC_RES.VALID])⟩
  rw [State.fset_fget_apart ⟨by simp [SCAL.MADC_RES.VALID], .inr (by simp [SCAL.MADC_RES.VALID, SCAL.MADC_RES.VALUE])⟩]
  exact State.fset_fget (by simp [SCAL.MADC_RES.VALUE]) hx

theorem State.fit16_lt (s : State) (lo hi v : Int) : (s.fit16 lo hi v).1 < 2 ^ 16 := by
  unfold State.fit16
  split
  · unfold unsgn
    omega
  · exact BitVec.isLt _

/-- A code within 16 bits is posted as it is. -/
theorem State.fit16_within {v : Int} (h0 : 0 ≤ v) (h1 : v ≤ 65535) (s : State) :
    ((s.fit16 0 65535 v).1 : Int) = v ∧ (s.fit16 0 65535 v).2 = s := by
  unfold State.fit16
  rw [if_pos ⟨h0, h1⟩]
  refine ⟨?_, rfl⟩
  unfold unsgn
  omega

theorem State.madcConversion_keeps (hc : c < 12) (s : State) (raw : Nat) :
    (s.madcConversion c raw).fget pgScal (SCAL.MADC_RES.VALUE c) = (s.fit16 0 65535 (s.corrected raw)).1 ∧
      (s.madcConversion c raw).fbit pgScal (SCAL.MADC_RES.VALID c) = true ∧
      (s.madcConversion c raw).free = (s.fit16 0 65535 (s.corrected raw)).2.free := by
  obtain ⟨hvalue, hvalid⟩ := State.codePosted_fget (c := c) (s.fit16_lt 0 65535 (s.corrected raw)) (s.fit16 0 65535 (s.corrected raw)).2
  have hoff {g : Fld} (hg : g.off = 0x100 + 4 * c) : g.off % 0x1000 ≠ 0x044 ∧ g.off % 0x1000 ≠ 0x048 := by omega
  unfold State.fbit
  rw [State.madcConversion_eq]
  split
  · rw [State.vrefCheck_fget (hoff rfl).1 (hoff rfl).2, State.vrefCheck_fget (hoff rfl).1 (hoff rfl).2, hvalid, hvalue, decide_eq_true rfl]
    exact ⟨rfl, rfl, Eq.trans (State.vrefCheck_same_own _ .free (by decide)) rfl⟩
  · rw [hvalid, hvalue, decide_eq_true rfl]
    exact ⟨rfl, rfl, rfl⟩

/-! ### Members of a run (R461, R465, R467, R472) -/

/-- Adding up hits gives one entry of the table per hit. -/
theorem State.interpTable_length (s : State) (hits : List Nat) : (s.interpTable hits).1.length = hits.length := by
  have hfold (l : List Nat) (a : Nat × List Nat × State) : (l.foldl (fun (a : Nat × List Nat × State) h =>
      (a.1 + h, (a.2.2.roundFree (100000 * a.1) 1048576).1.toNat :: a.2.1, (a.2.2.roundFree (100000 * a.1) 1048576).2)) a).2.1.length =
      a.2.1.length + l.length := by
    induction l generalizing a with
    | nil => rfl
    | cons h l ih =>
      rw [List.foldl_cons, ih]
      simp only [List.length_cons]
      omega
  unfold State.interpTable
  dsimp only
  rw [List.length_reverse]
  exact (hfold hits (0, [], s)).trans (Nat.zero_add _)

/-- Whether an interpolator's calibration has gone well: its line spans the period, and every tap was hit. -/
def hitsGood (hits : List Nat) (reaches : Bool) : Bool := reaches && hits.length = 1024 && hits.all (· ≠ 0)

/-- A table taken from hits. -/
def State.tableTaken (s : State) (key : Nat) (hits : List Nat) : State :=
  { (s.interpTable hits).2 with
    scal := { (s.interpTable hits).2.scal with tables := SMap.write [] (s.interpTable hits).2.scal.tables key (s.interpTable hits).1 } }

/-- Whether a group's spare is good, once it has been calibrated. -/
def State.spareJudged (s : State) (r : ScalRun) (good bad : Nat) (ok : Bool) : State :=
  if r.next = 0 && SMap.read none s.scal.replaced r.unit = none then
    { s with scal := { s.scal with spareGood := if ok then s.scal.spareGood ||| good else s.scal.spareGood &&& bad } }
  else s

/-- The member that a run has calibrated, 0 for its spare. -/
def State.memberOf (s : State) (r : ScalRun) : Nat := if r.next = 0 then 0 else (s.scalMembers r.unit).getD (r.next - 1) 0

theorem State.scalMemberDone_interp (hr : s.scal.run = some r) (hu : r.unit < 8) (hn : r.next ≤ (s.scalMembers r.unit).length)
    (hits : List Nat) (reaches : Bool) (raw2 rawRef : Nat) : s.scalMemberDone hits reaches raw2 rawRef =
    ((if hitsGood hits reaches = true then s.tableTaken (if r.next = 0 then 64 + r.unit else s.memberOf r) hits else s).spareJudged r
      (1 <<< r.unit) (0x1FF - 1 <<< r.unit) (hitsGood hits reaches)).memberResult r (s.memberOf r) (hitsGood hits reaches) := by
  unfold State.scalMemberDone
  rw [hr]
  dsimp only
  rw [if_neg (by simp; omega), if_pos hu]
  rfl

theorem State.scalMemberDone_madc (hr : s.scal.run = some r) (hu : r.unit = 8) (hn : r.next ≤ (s.scalMembers 8).length)
    (hits : List Nat) (reaches : Bool) (raw2 rawRef : Nat) : s.scalMemberDone hits reaches raw2 rawRef =
    (s.spareJudged r 0x100 0xFF (s.madcCal raw2 rawRef).isSome).memberResult
      { r with cal := if (s.madcCal raw2 rawRef).isSome then s.madcCal raw2 rawRef else r.cal } (s.memberOf r)
      (s.madcCal raw2 rawRef).isSome := by
  unfold State.scalMemberDone State.spareJudged
  rw [hr]
  dsimp only
  rw [hu, if_neg (by simp; omega), if_neg (by decide)]
  unfold State.memberOf
  rw [hu]

theorem State.scalMemberDone_off (hr : s.scal.run = some r) (h : 9 ≤ r.unit ∨ (s.scalMembers r.unit).length < r.next)
    (hits : List Nat) (reaches : Bool) (raw2 rawRef : Nat) : s.scalMemberDone hits reaches raw2 rawRef = s := by
  unfold State.scalMemberDone
  rw [hr]
  exact if_pos (by simpa using h)

theorem State.memberResult_good (s : State) (r : ScalRun) (k : Nat) : s.memberResult r k true =
    { s with scal := { s.scal with run := some { r with next := r.next + 1 } } } := rfl

theorem State.memberResult_spared (hn : r.next ≠ 0) (hs : bit s.scal.spareGood r.unit = true) (k : Nat) : s.memberResult r k false =
    { (s.useSpare r.unit k).reportDrop 5 with
      scal := { ((s.useSpare r.unit k).reportDrop 5).scal with run := some { r with next := r.next + 1, failed := true } } } := by
  unfold State.memberResult
  dsimp only
  rw [if_neg (by decide), if_pos (by simp [hn, hs])]

/-! ### Counts of oscillator units (R463, R467) -/

/-- An island's trim and coefficient from a count, at its sensor's temperature. -/
def State.islandCounted (n : Nat) (s : State) (i : Nat) : State :=
  let a := s.fresh 16
  let b := a.2.fresh 16
  { b.2 with scal := { b.2.scal with
    oscs := SMap.write none b.2.scal.oscs i (some ⟨a.1.toNat, b.1.toNat, b.2.fget pgThm (THM.TS.VALUE n)⟩) } }

theorem State.islandCounted_same (n : Nat) (s : State) (i : Nat) : State.SameBut [.free, .scal] s (s.islandCounted n i) :=
  State.SameOutside.set_scal (State.fresh_same (State.fresh_same (State.SameOutside.refl _ s) rfl) rfl) rfl

/-- The count leaves the island's sensor temperature in its record. -/
theorem State.islandCounted_self (n : Nat) (s : State) (i : Nat) :
    ∃ x : OscSt, SMap.read none (s.islandCounted n i).scal.oscs i = some x ∧ x.temp = s.fget pgThm (THM.TS.VALUE n) :=
  ⟨⟨(s.fresh 16).1.toNat, ((s.fresh 16).2.fresh 16).1.toNat, ((s.fresh 16).2.fresh 16).2.fget pgThm (THM.TS.VALUE n)⟩,
    by unfold State.islandCounted; simp only [SMap.read_write_self], State.fget_of_pages (s := s) rfl pgThm _⟩

theorem State.islandCounted_other (h : k ≠ i) (n : Nat) (s : State) :
    SMap.read none (s.islandCounted n i).scal.oscs k = SMap.read none s.scal.oscs k := by
  unfold State.islandCounted
  dsimp only
  rw [SMap.read_write_other _ _ _ h]
  rfl

/-- The islands of a unit in domains that are ON, with their numbers. -/
def State.islandsOn (s : State) (n : Nat) : List (Nat × Nat) := (islandsOf n).zipIdx.filter (fun e => s.domOn (islandDomain e.1))

/-- The oscillator records of islands that have been counted. -/
def State.islandsCounted (s : State) (n : Nat) (l : List (Nat × Nat)) : State := l.foldl (fun s e => s.islandCounted n e.1) s

theorem State.islandsCounted_same (s : State) (n : Nat) (l : List (Nat × Nat)) : State.SameBut [.free, .scal] s (s.islandsCounted n l) :=
  List.foldlRecOn l _ (motive := fun t : State => State.SameBut [.free, .scal] s t) (State.SameOutside.refl _ s) fun u hu e _ =>
    hu.trans (State.islandCounted_same n u e.1)

theorem State.islandsCounted_osc {l : List (Nat × Nat)} {e : Nat × Nat} (he : e ∈ l) (s : State) (n : Nat) :
    ∃ o, SMap.read none (s.islandsCounted n l).scal.oscs e.1 = some o ∧ o.temp = s.fget pgThm (THM.TS.VALUE n) := by
  refine foldl_establishes (Q := fun t : State => t.fget pgThm (THM.TS.VALUE n) = s.fget pgThm (THM.TS.VALUE n))
    (P := fun t : State => ∃ o, SMap.read none t.scal.oscs e.1 = some o ∧ o.temp = s.fget pgThm (THM.TS.VALUE n))
    (fun t x ht => ?_) (fun t ht => ?_) (fun t x ht hp => ?_) l he s rfl
  · exact ((State.islandCounted_same n t x.1).fget (ty := .thm) rfl (by decide)).trans ht
  · obtain ⟨o, ho, htemp⟩ := State.islandCounted_self n t e.1
    exact ⟨o, ho, htemp.trans ht⟩
  · by_cases hx : e.1 = x.1
    · obtain ⟨o, ho, htemp⟩ := State.islandCounted_self n t x.1
      exact ⟨o, hx ▸ ho, htemp.trans ht⟩
    · rw [State.islandCounted_other hx]
      exact hp

/-- A unit whose count has ended. -/
def State.unitCounted (s : State) (r : ScalRun) (bad : Bool) : State :=
  { s with scal := { s.scal with run := some { r with counted := true, failed := bad } } }

theorem State.oscCountDone_good {ends : Nat} (hr : s.scal.run = some r) (h9 : 9 ≤ r.unit) (hc : r.counted = false)
    (hgood : ∀ e ∈ s.islandsOn (r.unit - 9), bit ends e.2 = false) :
    s.oscCountDone ends = (s.islandsCounted (r.unit - 9) (s.islandsOn (r.unit - 9))).unitCounted r false := by
  have hbad : (s.islandsOn (r.unit - 9)).any (fun e => bit ends e.2) = false :=
    List.any_eq_false.mpr fun e he => by rw [hgood e he]; decide
  unfold State.oscCountDone
  rw [hr]
  dsimp only
  rw [if_neg (by simp [hc]; omega)]
  unfold State.islandsOn at hbad hgood
  rw [hbad, List.foldl_ext _ (fun s e => s.islandCounted (r.unit - 9) e.1) s fun u e he => by rw [hgood e he]; rfl]
  rfl

theorem State.oscCountDone_off {ends : Nat} (hr : s.scal.run = some r) (h : r.unit < 9 ∨ r.counted = true) : s.oscCountDone ends = s := by
  unfold State.oscCountDone
  rw [hr]
  exact if_pos (by simpa using h)

/-! ### Ends of runs (R465, R467, R474) -/

/-- A run's end in the registers of its unit and in the counts. -/
def State.runShown (s : State) (r : ScalRun) : State :=
  let f := s.fget pgScal SCAL.FAILED.UNITS
  let t := s.fset pgScal SCAL.FAILED.UNITS (if r.failed then f ||| 1 <<< r.unit else f &&& (0x1FFFFF - 1 <<< r.unit))
  let t := (t.fsetB pgScal (SCAL.UNIT_STAT.FAILED r.unit) r.failed).fsetB pgScal (SCAL.UNIT_STAT.UNTRACED r.unit) (t.untraced r.unit)
  (t.fwrap pgScal (SCAL.UNIT_STAT.RUNS r.unit)).finc pgScal SCAL.RUN_CNT.RUNS

/-- A failed run is counted as such. -/
def State.runFailed (s : State) (failed : Bool) : State := if failed then s.finc pgScal SCAL.RUN_CNT.FAILS else s

/-- OFFSET and GAIN of a MADC that has been calibrated. -/
def State.calShown (s : State) (cal : Option (Nat × Nat)) : State :=
  match cal with
  | some (o, g) => (s.fset pgScal SCAL.MADC_CAL.OFFSET o).fset pgScal SCAL.MADC_CAL.GAIN g
  | none => s

/-- No unit runs. -/
def State.unitCleared (s : State) : State := (s.fset pgScal SCAL.STAT.BUSY 0).fset pgScal SCAL.STAT.UNIT 0

/-- The registers at a run's end. -/
def State.runRegisters (s : State) (r : ScalRun) : State := (((s.runShown r).runFailed r.failed).calShown r.cal).unitCleared

/-- SCAL's record at a run's end. -/
def ScalSt.ended (now : Nat) (r : ScalRun) (x : ScalSt) : ScalSt :=
  { x with
    run := none
    completed := x.completed ||| 1 <<< r.unit
    lastRun := SMap.write 0 x.lastRun r.unit now
    cmdUnits := x.cmdUnits &&& (0x1FFFFF - 1 <<< r.unit)
    cmdFailed := x.cmdFailed || (bit x.cmdUnits r.unit && r.failed) }

/-- Every unit has completed for the first time. -/
def State.firstPassShown (s : State) (first : Bool) : State := if first then (s.fset pgScal SCAL.STAT.FIRST_PASS 1).evt pgScal 13 else s

/-- A run that has ended, before the RUN command that waits for it is judged. -/
def State.runEnded (s : State) (r : ScalRun) : State :=
  let t := s.runRegisters r
  let first := t.scal.completed ||| 1 <<< r.unit = 0x1FFFFF && t.scal.completed ≠ 0x1FFFFF
  ({ t with scal := t.scal.ended t.mono r }.evt pgScal (if r.failed then 9 else 8)).firstPassShown first

theorem State.scalRunDone_past (hr : s.scal.run = some r) (h : if r.unit < 9 then (s.scalMembers r.unit).length < r.next else r.counted = true) :
    s.scalRunDone = (s.runEnded r).scalCmdCheck := by
  unfold State.scalRunDone
  rw [hr]
  dsimp only
  rw [if_neg (by rw [decide_eq_true h]; decide)]
  rfl

theorem State.scalRunDone_off (hr : s.scal.run = some r) (h : if r.unit < 9 then r.next ≤ (s.scalMembers r.unit).length else r.counted = false) :
    s.scalRunDone = s := by
  unfold State.scalRunDone
  rw [hr]
  dsimp only
  refine if_pos ?_
  split at h
  · next hu => simpa [hu] using h
  · next hu => simpa [hu] using h

/-- A field of a unit's register, apart from the registers that all units share. -/
theorem unitStat_apart {g f : Fld} (hk : k < 21) (hg : g.off = 0x080 + 4 * k) (hw : g.lo + g.w ≤ 32) (hf : f.off < 0x080) : g.Apart f :=
  ⟨hw, .inl (by omega)⟩

/-- What a run's end shows in FAILED, in its unit's register, and in RUN_CNT. -/
theorem State.runShown_keeps (hu : r.unit < 21) (s : State) :
    bit ((s.runShown r).fget pgScal SCAL.FAILED.UNITS) r.unit = r.failed ∧
      (s.runShown r).fbit pgScal (SCAL.UNIT_STAT.FAILED r.unit) = r.failed ∧
      (s.runShown r).fget pgScal (SCAL.UNIT_STAT.RUNS r.unit) = (s.fget pgScal (SCAL.UNIT_STAT.RUNS r.unit) + 1) % 4096 ∧
      (s.runShown r).fget pgScal SCAL.RUN_CNT.RUNS = min (s.fget pgScal SCAL.RUN_CNT.RUNS + 1) 65535 := by
  have hshared {g f : Fld} (hg : g.off = 0x080 + 4 * r.unit) (hw : g.lo + g.w ≤ 32) (hf : f.off < 0x080) : g.Apart f :=
    unitStat_apart hu hg hw hf
  have hunit {g f : Fld} (hg : g.off < 0x080) (hw : g.lo + g.w ≤ 32) (hf : f.off = 0x080 + 4 * r.unit) : g.Apart f :=
    ⟨hw, .inl (by omega)⟩
  have hbits {g f : Fld} (hw : g.lo + g.w ≤ 32) (h : f.lo + f.w ≤ g.lo ∨ g.lo + g.w ≤ f.lo) : g.Apart f := ⟨hw, .inr h⟩
  unfold State.runShown State.fwrap
  dsimp only
  refine ⟨?_, ?_, ?_, ?_⟩
  · rw [State.finc_fget_apart (by decide), State.fset_fget_apart (hshared rfl (by simp [SCAL.UNIT_STAT.RUNS]) (by decide)),
      State.fsetB_fget_apart (hshared rfl (by simp [SCAL.UNIT_STAT.UNTRACED]) (by decide)),
      State.fsetB_fget_apart (hshared rfl (by simp [SCAL.UNIT_STAT.FAILED]) (by decide)), State.fset_bit_lt (by decide) hu]
    cases hfail : r.failed with
    | false =>
      rw [if_neg (by decide), bit_and, show (0x1FFFFF : Nat) = 2 ^ 21 - 1 from rfl, bit_mask_without hu]
      simp
    | true =>
      rw [if_pos rfl, bit_or, bit_one_shiftLeft]
      simp
  · rw [State.fbit_of_fget (State.finc_fget_apart (hunit (by decide) (by decide) rfl)),
      State.fbit_of_fget (State.fset_fget_apart (hbits (by simp [SCAL.UNIT_STAT.RUNS]) (by simp [SCAL.UNIT_STAT.RUNS, SCAL.UNIT_STAT.FAILED]))),
      State.fbit_of_fget (State.fsetB_fget_apart (hbits (by simp [SCAL.UNIT_STAT.UNTRACED]) (by simp [SCAL.UNIT_STAT.UNTRACED, SCAL.UNIT_STAT.FAILED]))),
      State.fsetB_fbit (by simp [SCAL.UNIT_STAT.FAILED]) rfl]
  · rw [State.finc_fget_apart (hunit (by decide) (by decide) rfl), State.fget_fset_self _ _ _ _ (by simp [SCAL.UNIT_STAT.RUNS]),
      State.fsetB_fget_apart (hbits (by simp [SCAL.UNIT_STAT.UNTRACED]) (by simp [SCAL.UNIT_STAT.RUNS, SCAL.UNIT_STAT.UNTRACED])),
      State.fsetB_fget_apart (hbits (by simp [SCAL.UNIT_STAT.FAILED]) (by simp [SCAL.UNIT_STAT.RUNS, SCAL.UNIT_STAT.FAILED])),
      State.fset_fget_apart (hunit (by decide) (by decide) rfl)]
    rfl
  · rw [State.finc_fget (by decide), State.fset_fget_apart (hshared rfl (by simp [SCAL.UNIT_STAT.RUNS]) (by decide)),
      State.fsetB_fget_apart (hshared rfl (by simp [SCAL.UNIT_STAT.UNTRACED]) (by decide)),
      State.fsetB_fget_apart (hshared rfl (by simp [SCAL.UNIT_STAT.FAILED]) (by decide)), State.fset_fget_apart (by decide)]
    rfl

theorem State.runFailed_fget (h : SCAL.RUN_CNT.FAILS.Apart f) (s : State) (failed : Bool) : (s.runFailed failed).fget p f = s.fget p f := by
  unfold State.runFailed
  split
  · exact State.finc_fget_apart h
  · rfl

theorem State.calShown_fget (h : f.off % 0x1000 ≠ 0x058) (s : State) (cal : Option (Nat × Nat)) : (s.calShown cal).fget p f = s.fget p f := by
  unfold State.calShown
  split
  · rw [State.fset_fget_apart ⟨by decide, .inl h⟩, State.fset_fget_apart ⟨by decide, .inl h⟩]
  · rfl

theorem State.calShown_cal {o g : Nat} (s : State) : (s.calShown (some (o, g))).fget pgScal SCAL.MADC_CAL.OFFSET = o % 65536 ∧
    (s.calShown (some (o, g))).fget pgScal SCAL.MADC_CAL.GAIN = g % 65536 := by
  unfold State.calShown
  refine ⟨?_, ?_⟩
  · rw [State.fset_fget_apart (by decide), State.fget_fset_self _ _ _ _ (by decide)]
    rfl
  · rw [State.fget_fset_self _ _ _ _ (by decide)]
    rfl

theorem State.unitCleared_fget (h : f.off % 0x1000 ≠ 0x044) (s : State) : s.unitCleared.fget p f = s.fget p f := by
  unfold State.unitCleared
  rw [State.fset_fget_apart ⟨by decide, .inl h⟩, State.fset_fget_apart ⟨by decide, .inl h⟩]

theorem State.unitCleared_busy (s : State) : s.unitCleared.fget pgScal SCAL.STAT.BUSY = 0 := by
  unfold State.unitCleared
  rw [State.fset_fget_apart (by decide), State.fset_fget (by decide) (by decide)]

theorem State.firstPassShown_fget (h : SCAL.STAT.FIRST_PASS.Apart f) (s : State) (first : Bool) :
    (s.firstPassShown first).fget p f = s.fget p f := by
  unfold State.firstPassShown
  split
  · rw [State.evt_fget, State.fset_fget_apart h]
  · rfl

theorem State.firstPassShown_scal (s : State) (first : Bool) : (s.firstPassShown first).scal = s.scal := by
  unfold State.firstPassShown
  split
  · rw [State.evt_scal, State.fset_scal]
  · rfl

theorem State.firstPassShown_keeps (h : (s.hdr p).evt.getLsbD n = true) (first : Bool) : ((s.firstPassShown first).hdr p).evt.getLsbD n = true := by
  unfold State.firstPassShown
  split
  · exact State.evt_keeps _ _ _ _ _ h
  · exact h

theorem State.scalCmdCheck_cases (s : State) : s.scalCmdCheck = s ∨ s.scalCmdCheck = s.cmdFail pgScal 0x30 ∨
    s.scalCmdCheck = s.cmdDone pgScal := by
  unfold State.scalCmdCheck
  split
  · split
    · exact .inr (.inl rfl)
    · exact .inr (.inr rfl)
  · exact .inl rfl

/-- Judging the RUN command changes no word and no record, and keeps the flags that are set. -/
theorem State.scalCmdCheck_keeps (s : State) : (∀ f, s.scalCmdCheck.fget pgScal f = s.fget pgScal f) ∧ s.scalCmdCheck.scal = s.scal ∧
    ∀ n, (s.hdr pgScal).evt.getLsbD n = true → (s.scalCmdCheck.hdr pgScal).evt.getLsbD n = true := by
  rcases s.scalCmdCheck_cases with h | h | h <;> rw [h]
  · exact ⟨fun _ => rfl, rfl, fun _ hn => hn⟩
  · exact ⟨fun f => State.cmdFail_fget .., State.cmdFail_same (m := partsMask [.out, .page .scal]) (State.SameOutside.refl _ s) rfl rfl .scal (by decide),
      fun n hn => State.cmdFail_keeps hn⟩
  · exact ⟨fun f => State.cmdDone_fget .., State.cmdDone_scal .., fun n hn => State.cmdDone_keeps hn⟩

/-- A run's record taken into SCAL's. -/
def State.runRecorded (s : State) (r : ScalRun) : State := { s with scal := s.scal.ended s.mono r }

theorem State.runRecorded_fget (s : State) (r : ScalRun) (p : Nat) (f : Fld) : (s.runRecorded r).fget p f = s.fget p f :=
  State.fget_of_pages rfl p f

theorem State.runEnded_eq (s : State) (r : ScalRun) : ∃ first, s.runEnded r =
    (((s.runRegisters r).runRecorded r).evt pgScal (if r.failed then 9 else 8)).firstPassShown first := ⟨_, rfl⟩

theorem State.runEnded_fget (h : SCAL.STAT.FIRST_PASS.Apart f) (s : State) (r : ScalRun) :
    (s.runEnded r).fget pgScal f = (s.runRegisters r).fget pgScal f := by
  obtain ⟨first, he⟩ := s.runEnded_eq r
  rw [he, State.firstPassShown_fget h, State.evt_fget, State.runRecorded_fget]

theorem State.runShown_same (s : State) (r : ScalRun) : State.SameBut [.page .scal] s (s.runShown r) :=
  State.finc_same (State.fwrap_same (State.fsetB_same (State.fsetB_same (State.fset_same (State.SameOutside.refl _ s) rfl rfl) rfl rfl)
    rfl rfl) rfl rfl) rfl rfl

theorem State.runFailed_same (s : State) (failed : Bool) : State.SameBut [.page .scal] s (s.runFailed failed) := by
  unfold State.runFailed
  exact State.SameOutside.ite (State.finc_same (State.SameOutside.refl _ s) rfl rfl) (State.SameOutside.refl _ s)

theorem State.calShown_same (s : State) (cal : Option (Nat × Nat)) : State.SameBut [.page .scal] s (s.calShown cal) := by
  unfold State.calShown
  split
  · exact State.fset_same (State.fset_same (State.SameOutside.refl _ s) rfl rfl) rfl rfl
  · exact State.SameOutside.refl _ s

theorem State.runRegisters_same (s : State) (r : ScalRun) : State.SameBut [.page .scal] s (s.runRegisters r) :=
  State.fset_same (State.fset_same (((s.runShown_same r).trans (State.runFailed_same _ r.failed)).trans (State.calShown_same _ r.cal))
    rfl rfl) rfl rfl

theorem State.runRegisters_fget (h : f.off % 0x1000 ≠ 0x044) (h' : f.off % 0x1000 ≠ 0x058) (hf : SCAL.RUN_CNT.FAILS.Apart f)
    (s : State) (r : ScalRun) : (s.runRegisters r).fget pgScal f = (s.runShown r).fget pgScal f := by
  unfold State.runRegisters
  rw [State.unitCleared_fget h, State.calShown_fget h', State.runFailed_fget hf]

theorem State.runRegisters_cal {o g : Nat} (h : r.cal = some (o, g)) (s : State) :
    (s.runRegisters r).fget pgScal SCAL.MADC_CAL.OFFSET = o % 65536 ∧ (s.runRegisters r).fget pgScal SCAL.MADC_CAL.GAIN = g % 65536 := by
  unfold State.runRegisters
  rw [State.unitCleared_fget (by decide), State.unitCleared_fget (by decide), h]
  exact State.calShown_cal _

/-- What SCAL's record holds once a run has ended. -/
theorem State.runEnded_scal (s : State) (r : ScalRun) : (s.runEnded r).scal = s.scal.ended s.mono r := by
  obtain ⟨first, he⟩ := s.runEnded_eq r
  have hscal : (s.runRegisters r).scal = s.scal := s.runRegisters_same r .scal (by decide)
  have hmono : (s.runRegisters r).mono = s.mono := s.runRegisters_same r .mono (by decide)
  rw [he, State.firstPassShown_scal, State.evt_scal, State.runRecorded, hscal, hmono]

theorem State.runEnded_evt (s : State) (r : ScalRun) :
    ((s.runEnded r).hdr pgScal).evt.getLsbD (if r.failed = true then 9 else 8) = true := by
  obtain ⟨first, he⟩ := s.runEnded_eq r
  rw [he]
  exact State.firstPassShown_keeps (State.evt_set _ _ _ (by split <;> decide)) first

theorem ScalSt.ended_fields (now : Nat) (r : ScalRun) (x : ScalSt) : (x.ended now r).run = none ∧
    bit (x.ended now r).completed r.unit = true ∧ SMap.read 0 (x.ended now r).lastRun r.unit = now := by
  refine ⟨rfl, ?_, SMap.read_write_self ..⟩
  unfold ScalSt.ended
  rw [bit_or, bit_one_shiftLeft]
  simp

/-! ### The commands -/

theorem exec_scalRun_on (h : s.boot.powered = true) (m : Master) (units : BitVec 21) :
    exec (.scalRun m units) s = .next (s.command m.id pgScal 0x10 units.toNat) := congrArg Host.Outcome.next (State.live_on h _)

theorem exec_scalRunStart_on (h : s.boot.powered = true) : exec .scalRunStart s = .next s.scalRunStart :=
  congrArg Host.Outcome.next (State.live_on h _)

theorem exec_scalMemberDone_on (h : s.boot.powered = true) (hits : List Nat) (reaches : Bool) (raw2 rawRef : Nat) :
    exec (.scalMemberDone hits reaches raw2 rawRef) s = .next (s.scalMemberDone hits reaches raw2 rawRef) :=
  congrArg Host.Outcome.next (State.live_on h _)

theorem exec_scalRunDone_on (h : s.boot.powered = true) : exec .scalRunDone s = .next s.scalRunDone :=
  congrArg Host.Outcome.next (State.live_on h _)

theorem exec_oscCountDone_on (h : s.boot.powered = true) (ends : BitVec 19) :
    exec (.oscCountDone ends) s = .next (s.oscCountDone ends.toNat) := congrArg Host.Outcome.next (State.live_on h _)

theorem exec_madcConversion_on (h : s.boot.powered = true) (c : Fin 12) (raw : BitVec 16) :
    exec (.madcConversion c raw) s = .next (s.madcPosted c raw.toNat) := congrArg Host.Outcome.next (State.live_on h _)

theorem exec_refinGate_on (h : s.boot.powered = true) (ofs : Int) : exec (.refinGate ofs) s = .next (s.refinGate ofs) :=
  congrArg Host.Outcome.next (State.live_on h _)

theorem exec_refinLoss_on (h : s.boot.powered = true) : exec .refinLoss s = .next s.refinLoss :=
  congrArg Host.Outcome.next (State.live_on h _)

end Sys2Proof.Machine
end

section
/-! PROOFS. Self-calibration runs unit by unit, and its references are watched (R461 to R470, R474). -/

namespace Sys2Proof.Machine

variable {s t u o : State} {d k i n p v w m c : Nat} {f g : Fld} {r : ScalRun}

/-! ### Members (R461, R465, R467, R472) -/

theorem hitsGood_of {hits : List Nat} (hl : hits.length = 1024) (hh : ∀ h ∈ hits, h ≠ 0) : hitsGood hits true = true := by
  unfold hitsGood
  simp only [Bool.true_and, Bool.and_eq_true, decide_eq_true_eq, List.all_eq_true]
  exact ⟨hl, hh⟩

theorem State.tableTaken_same (s : State) (key : Nat) (hits : List Nat) : State.SameBut [.free, .scal] s (s.tableTaken key hits) :=
  State.SameOutside.set_scal (State.interpTable_same (State.SameOutside.refl _ s) rfl) rfl

theorem State.tableTaken_table (s : State) (key : Nat) (hits : List Nat) :
    (SMap.read [] (s.tableTaken key hits).scal.tables key).length = hits.length := by
  unfold State.tableTaken
  dsimp only
  rw [SMap.read_write_self, State.interpTable_length]

theorem State.spareJudged_same (s : State) (r : ScalRun) (good bad : Nat) (ok : Bool) :
    State.SameBut [.scal] s (s.spareJudged r good bad ok) := by
  unfold State.spareJudged
  exact State.SameOutside.ite (State.SameOutside.set_scal (State.SameOutside.refl _ s) rfl) (State.SameOutside.refl _ s)

theorem State.spareJudged_tables (s : State) (r : ScalRun) (good bad : Nat) (ok : Bool) :
    (s.spareJudged r good bad ok).scal.tables = s.scal.tables := by
  unfold State.spareJudged
  split <;> rfl

theorem State.spareJudged_good (hn : r.next = 0) (hr : SMap.read none s.scal.replaced r.unit = none) (good bad : Nat) :
    (s.spareJudged r good bad true).scal.spareGood = s.scal.spareGood ||| good := by
  unfold State.spareJudged
  rw [if_pos (by rw [hr, hn]; rfl)]
  rfl

theorem State.spareJudged_later (hn : r.next ≠ 0) (good bad : Nat) (ok : Bool) : s.spareJudged r good bad ok = s :=
  if_neg (by simp [hn])

/-- A member whose line spans the period and whose taps were all hit has its table, and the run goes on. -/
theorem State.scalMemberDone_good {hits : List Nat} (hr : s.scal.run = some r) (hu : r.unit < 8) (hn : r.next ≤ (s.scalMembers r.unit).length)
    (hl : hits.length = 1024) (hh : ∀ h ∈ hits, h ≠ 0) (raw2 rawRef : Nat) :
    (s.scalMemberDone hits true raw2 rawRef).scal.run = some { r with next := r.next + 1 } ∧
      (SMap.read [] (s.scalMemberDone hits true raw2 rawRef).scal.tables
        (if r.next = 0 then 64 + r.unit else (s.scalMembers r.unit).getD (r.next - 1) 0)).length = 1024 ∧
      (r.next = 0 → SMap.read none s.scal.replaced r.unit = none →
        bit (s.scalMemberDone hits true raw2 rawRef).scal.spareGood r.unit = true) ∧
      State.SameBut [.free, .scal] s (s.scalMemberDone hits true raw2 rawRef) := by
  have hkey : (if r.next = 0 then 64 + r.unit else s.memberOf r) =
      if r.next = 0 then 64 + r.unit else (s.scalMembers r.unit).getD (r.next - 1) 0 := by
    unfold State.memberOf
    split <;> rfl
  rw [State.scalMemberDone_interp hr hu hn, hitsGood_of hl hh, if_pos rfl, hkey, State.memberResult_good]
  generalize (if r.next = 0 then 64 + r.unit else (s.scalMembers r.unit).getD (r.next - 1) 0) = key
  have hscal : (s.interpTable hits).2.scal = s.scal :=
    State.interpTable_same (m := partsMask [.free]) (State.SameOutside.refl _ s) rfl .scal (by decide)
  have hreplaced : (s.tableTaken key hits).scal.replaced = s.scal.replaced := by
    unfold State.tableTaken
    dsimp only
    rw [hscal]
  refine ⟨rfl, ?_, fun h0 hrep => ?_, State.SameOutside.set_scal ((s.tableTaken_same key hits).trans ((State.spareJudged_same _ r _ _ _).mono rfl)) rfl⟩
  · dsimp only
    rw [State.spareJudged_tables, State.tableTaken_table, hl]
  · dsimp only
    rw [State.spareJudged_good h0 (by rw [hreplaced, hrep]), bit_or, bit_one_shiftLeft]
    simp

/-- A MADC that has been calibrated within its limits has its offset and gain, and the run goes on. -/
theorem State.scalMemberDone_madc_good (hr : s.scal.run = some r) (hu : r.unit = 8) (hn : r.next ≤ (s.scalMembers 8).length)
    {raw2 rawRef : Nat} (hc : (s.madcCal raw2 rawRef).isSome = true) (hits : List Nat) (reaches : Bool) :
    (s.scalMemberDone hits reaches raw2 rawRef).scal.run = some { r with next := r.next + 1, cal := s.madcCal raw2 rawRef } ∧
      State.SameBut [.scal] s (s.scalMemberDone hits reaches raw2 rawRef) := by
  rw [State.scalMemberDone_madc hr hu hn, hc, if_pos rfl, State.memberResult_good]
  exact ⟨rfl, State.SameOutside.set_scal (s.spareJudged_same r _ _ _) rfl⟩

/-- A member that fails while its group's spare is good is replaced and reported. -/
theorem State.scalMemberDone_spared (hr : s.scal.run = some r) (hu : r.unit < 8) (hn : r.next ≤ (s.scalMembers r.unit).length)
    (h0 : r.next ≠ 0) (hs : bit s.scal.spareGood r.unit = true) (hits : List Nat) (raw2 rawRef : Nat) :
    s.scalMemberDone hits false raw2 rawRef =
      { (s.useSpare r.unit ((s.scalMembers r.unit).getD (r.next - 1) 0)).reportDrop 5 with
        scal := { ((s.useSpare r.unit ((s.scalMembers r.unit).getD (r.next - 1) 0)).reportDrop 5).scal with
          run := some { r with next := r.next + 1, failed := true } } } := by
  have hmember : s.memberOf r = (s.scalMembers r.unit).getD (r.next - 1) 0 := if_neg h0
  rw [State.scalMemberDone_interp hr hu hn, show hitsGood hits false = false from rfl, if_neg (by decide), State.spareJudged_later h0,
    State.memberResult_spared h0 hs, hmember]

/-! ### Counts of oscillator units (R463) -/

theorem mem_islandsOn {e : Nat × Nat} : e ∈ s.islandsOn n ↔ e ∈ (islandsOf n).zipIdx ∧ s.domOn (islandDomain e.1) = true :=
  List.mem_filter

/-- A count in which no island's trim lies at the end of its range. -/
theorem State.oscCountDone_keeps {ends : Nat} (hr : s.scal.run = some r) (h9 : 9 ≤ r.unit) (hc : r.counted = false)
    (hgood : ((islandsOf (r.unit - 9)).zipIdx.all (fun e => !(s.domOn (islandDomain e.1) && bit ends e.2))) = true) :
    (s.oscCountDone ends).scal.run = some { r with counted := true, failed := false } ∧
      (∀ i ∈ islandsOf (r.unit - 9), s.domOn (islandDomain i) = true → ∃ x : OscSt, SMap.read none (s.oscCountDone ends).scal.oscs i = some x ∧
        x.temp = s.fget pgThm (THM.TS.VALUE (r.unit - 9))) ∧ State.SameBut [.free, .scal] s (s.oscCountDone ends) := by
  have hends : ∀ e ∈ s.islandsOn (r.unit - 9), bit ends e.2 = false := fun e he => by
    obtain ⟨hmem, hon⟩ := mem_islandsOn.mp he
    have h := List.all_eq_true.mp hgood e hmem
    rwa [hon, Bool.true_and, Bool.not_eq_true'] at h
  rw [State.oscCountDone_good hr h9 hc hends]
  refine ⟨rfl, fun i hi hon => ?_, State.SameOutside.set_scal (State.islandsCounted_same s _ _) rfl⟩
  obtain ⟨j, hj, hij⟩ := List.mem_iff_getElem.mp hi
  have hmem : (i, j) ∈ s.islandsOn (r.unit - 9) :=
    mem_islandsOn.mpr ⟨List.mk_mem_zipIdx_iff_getElem?.mpr (by rw [List.getElem?_eq_getElem hj, hij]), hon⟩
  exact State.islandsCounted_osc hmem s (r.unit - 9)

/-! ### Ends of runs (R465, R467) -/

/-- What the end of a run leaves. -/
theorem State.scalRunDone_keeps (hr : s.scal.run = some r) (hu : r.unit < 21)
    (h : if r.unit < 9 then (s.scalMembers r.unit).length < r.next else r.counted = true) :
    s.scalRunDone.scal.run = none ∧ bit (s.scalRunDone.fget pgScal SCAL.FAILED.UNITS) r.unit = r.failed ∧
      s.scalRunDone.fbit pgScal (SCAL.UNIT_STAT.FAILED r.unit) = r.failed ∧
      s.scalRunDone.fget pgScal (SCAL.UNIT_STAT.RUNS r.unit) = (s.fget pgScal (SCAL.UNIT_STAT.RUNS r.unit) + 1) % 4096 ∧
      s.scalRunDone.fget pgScal SCAL.RUN_CNT.RUNS = min (s.fget pgScal SCAL.RUN_CNT.RUNS + 1) 65535 ∧
      bit s.scalRunDone.scal.completed r.unit = true ∧ SMap.read 0 s.scalRunDone.scal.lastRun r.unit = s.mono ∧
      s.scalRunDone.fbit pgScal SCAL.STAT.BUSY = false ∧
      (s.scalRunDone.hdr pgScal).evt.getLsbD (if r.failed = true then 9 else 8) = true ∧
      (∀ o g, r.cal = some (o, g) → s.scalRunDone.fget pgScal SCAL.MADC_CAL.OFFSET = o % 65536 ∧
        s.scalRunDone.fget pgScal SCAL.MADC_CAL.GAIN = g % 65536) ∧
      State.SameBut [.scal, .out, .page .scal] s s.scalRunDone := by
  have hsame : State.SameBut [.scal, .out, .page .scal] s s.scalRunDone := State.scalRunDone_same (State.SameOutside.refl _ s) rfl
  obtain ⟨hfget, hscal, hevt⟩ := (s.runEnded r).scalCmdCheck_keeps
  obtain ⟨hfailed, hunit, hruns, hcount⟩ := State.runShown_keeps hu s
  obtain ⟨hrun, hcompleted, hlast⟩ := s.scal.ended_fields s.mono r
  rw [State.scalRunDone_past hr h] at hsame ⊢
  rw [State.runEnded_scal] at hscal
  have hshown {f : Fld} (h1 : f.off % 0x1000 ≠ 0x044) (h2 : f.off % 0x1000 ≠ 0x058) (h3 : SCAL.RUN_CNT.FAILS.Apart f) :
      (s.runEnded r).scalCmdCheck.fget pgScal f = (s.runShown r).fget pgScal f := by
    rw [hfget, State.runEnded_fget ⟨by decide, .inl h1⟩, State.runRegisters_fget h1 h2 h3]
  have hunitOff {f : Fld} (hf : f.off = 0x080 + 4 * r.unit) : f.off % 0x1000 = 0x080 + 4 * r.unit := by omega
  have hunitShown {f : Fld} (hf : f.off = 0x080 + 4 * r.unit) : (s.runEnded r).scalCmdCheck.fget pgScal f = (s.runShown r).fget pgScal f :=
    hshown (by rw [hunitOff hf]; omega) (by rw [hunitOff hf]; omega) ⟨by decide, .inl (by rw [hunitOff hf]; simp only [SCAL.RUN_CNT.FAILS]; omega)⟩
  rw [hscal]
  refine ⟨hrun, ?_, ?_, ?_, ?_, hcompleted, hlast, ?_, hevt _ (s.runEnded_evt r), fun o g hcal => ?_, hsame⟩
  · rw [hshown (by decide) (by decide) (by decide), hfailed]
  · rw [State.fbit_of_fget (hunitShown rfl), hunit]
  · rw [hunitShown rfl, hruns]
  · rw [hshown (by decide) (by decide) (by decide), hcount]
  · unfold State.fbit
    rw [hfget, State.runEnded_fget (by decide), State.runRegisters, State.unitCleared_busy, decide_eq_false (by decide)]
  · rw [hfget, hfget, State.runEnded_fget (by decide), State.runEnded_fget (by decide)]
    exact State.runRegisters_cal hcal s

/-! ### Units asked for, REFIN -/

theorem State.runAsked_same (s : State) (k : Nat) : State.SameBut [.scal, .page .scal] s (s.runAsked k) :=
  State.SameOutside.set_scal (State.scalPend_same (State.SameOutside.refl _ s) rfl) rfl

theorem State.runAsked_fget (s : State) (k p : Nat) (f : Fld) : (s.runAsked k).fget p f = (s.scalPend k).fget p f :=
  State.fget_of_pages rfl p f

theorem State.runAsked_hdr (s : State) (k p : Nat) : (s.runAsked k).hdr p = s.hdr p := rfl

theorem runUnits_lt {units : Nat} (h : units < 2 ^ 21) : runUnits units < 2 ^ 21 := by
  unfold runUnits
  split
  · decide
  · exact h

/-- The loss of REFIN: it is not valid, and if it was, its results are untraced and its units pending. -/
theorem State.refinLoss_keeps (s : State) : s.refinLoss.fbit pgScal SCAL.STAT.REFIN_VALID = false ∧ s.refinLoss.scal.refinGood = 0 ∧
    (s.fbit pgScal SCAL.STAT.REFIN_VALID = true → s.refinLoss.fbit pgScal SCAL.STAT.TIME_UNTRACED = true ∧
      (s.refinLoss.hdr pgScal).evt.getLsbD 10 = true ∧
      s.refinLoss.fget pgScal SCAL.PENDING.UNITS = s.fget pgScal SCAL.PENDING.UNITS ||| 0x1FFE00 ∧
      (∀ r, s.scal.run = some r → s.refinLoss.scal.run = if 9 ≤ r.unit then none else some r)) ∧
    State.SameBut [.scal, .out, .page .scal] s s.refinLoss := by
  rw [State.refinLoss_eq]
  refine ⟨?_, rfl, fun hv => ?_, State.SameOutside.set_scal (s.refValid_same_own true false) rfl⟩
  · rw [State.fbit_of_fget (State.refinCounted_fget ..), (s.refValid_valid false).1]
  · obtain ⟨-, huntraced, hevt, hpending, hscal⟩ := State.refValid_keeps (s := s) (valid := false) (by rw [hv]; decide)
    refine ⟨?_, hevt, ?_, fun r hr => ?_⟩
    · rw [State.fbit_of_fget (State.refinCounted_fget ..), huntraced]
      rfl
    · rw [State.refinCounted_fget, hpending]
    · unfold State.refinCounted
      dsimp only
      rw [hscal, hr]
      rfl

/-- Settles O55: each row in its own lemma, over the stages that its function takes. -/
theorem selfCalibrationRuns : Obligations.SelfCalibrationRuns := by
  unfold Obligations.SelfCalibrationRuns
  intro s
  refine ⟨fun m units k h hk => ?_, fun u hon hr he hu => ?_, fun hon h => ?_, fun r hits reaches raw2 rawRef hon hr => ⟨?_, ?_, ?_, ?_, ?_, ?_, ?_, ?_⟩,
    fun c raw v hon hv hc => ?_, fun ofs hon => ⟨fun h => ?_, fun h => ?_⟩, fun hon => ?_⟩
  · have hunits : k = runUnits units.toNat := by
      rw [hk]
      unfold runUnits
      by_cases h0 : units = 0
      · rw [if_pos h0, if_pos (by rw [h0]; rfl)]
      · rw [if_neg h0, if_neg (fun e : units.toNat = 0 => h0 (BitVec.eq_of_toNat_eq e))]
    have hrun : (s.cmdStart pgScal 0x10 units.toNat m.id).Runs pgScal 0x10 units.toNat m.id := State.cmdStart_runs ..
    refine ⟨_, (exec_scalRun_on (State.accepts_powered h) m units).trans
      (congrArg Host.Outcome.next (State.scalRun_command h units.isLt)), ?_, State.emit_answers _ _, ?_, ?_, ?_⟩
    · exact State.Runs.emit (p := pgScal) (by
        unfold State.Runs at hrun ⊢
        rwa [State.runAsked_hdr]) _
    · rw [State.emit_fget, State.runAsked_fget, State.scalPend_fget (runUnits_lt units.isLt), State.cmdStart_fget, hunits]
    · rw [hunits]
      rfl
    · exact State.emit_same ((State.cmdStart_same (State.SameOutside.refl _ s) rfl rfl).trans
        ((State.runAsked_same _ _).mono rfl)) rfl
  · have hlt : u < 21 := (mem_bitsSet (List.mem_of_head? hu)).1
    obtain ⟨hpending, hbusy, hunit, htemp⟩ := State.runStarted_keeps hlt s
    rw [exec_scalRunStart_on hon, State.scalRunStart_on hr he hu]
    refine ⟨_, rfl, s.runStarted_scal u, ?_, fun v hv hne => ?_, hbusy, hunit, htemp, s.runStarted_same u⟩
    · rw [hpending u hlt, decide_eq_false (not_not_intro rfl), Bool.and_false]
    · rw [hpending v hv, decide_eq_true hne, Bool.and_true]
  · rw [exec_scalRunStart_on hon, State.scalRunStart_off h]
  · intro hu hn hl hh hreach
    rw [exec_scalMemberDone_on hon, hreach]
    exact ⟨_, rfl, State.scalMemberDone_good hr hu hn hl hh raw2 rawRef⟩
  · intro hu hn hc
    rw [exec_scalMemberDone_on hon]
    exact ⟨_, rfl, State.scalMemberDone_madc_good hr hu hn hc hits reaches⟩
  · intro hu hn hreach h0 hs
    rw [exec_scalMemberDone_on hon, hreach, State.scalMemberDone_spared hr hu hn h0 hs]
    exact ⟨_, _, rfl, rfl, rfl⟩
  · intro h
    rw [exec_scalMemberDone_on hon, State.scalMemberDone_off hr h]
  · intro ends h9 hc hgood
    rw [exec_oscCountDone_on hon]
    exact ⟨_, rfl, State.oscCountDone_keeps hr h9 hc hgood⟩
  · intro ends h
    rw [exec_oscCountDone_on hon, State.oscCountDone_off hr h]
  · intro hu h
    rw [exec_scalRunDone_on hon]
    exact ⟨_, rfl, State.scalRunDone_keeps hr hu h⟩
  · intro h
    rw [exec_scalRunDone_on hon, State.scalRunDone_off hr h]
  · have hpost : s.madcPosted c raw.toNat = s.madcConversion c raw.toNat := by
      have hfw : (s.madcConversion c raw.toNat).fw = s.fw :=
        State.madcConversion_same (m := partsMask [.free, .scal, .out, .page .scal]) (State.SameOutside.refl _ s) rfl .fw (by decide)
      refine if_neg ?_
      rw [hfw, Bool.and_eq_true, decide_eq_true_eq]
      rintro ⟨hc3, hw⟩
      rcases hc with hc | hc
      · exact hc (Fin.ext hc3)
      · rw [hc] at hw
        cases hw
    obtain ⟨hvalue, hvalid, hfree⟩ := State.madcConversion_keeps c.isLt s raw.toNat
    rw [exec_madcConversion_on hon, hpost]
    refine ⟨_, rfl, hvalid, fun h0 h1 => ?_, State.madcConversion_same (State.SameOutside.refl _ s) rfl⟩
    have hcorrected : s.corrected raw.toNat = v := hv.symm
    obtain ⟨hfit, hstate⟩ := State.fit16_within h0 h1 s
    rw [hvalue, hfree, hcorrected, hstate]
    exact ⟨hfit, rfl⟩
  · rw [exec_refinGate_on hon, State.refinGate_off h]
  · rw [exec_refinGate_on hon]
    refine ⟨_, rfl, State.refinGate_ppm h, fun ho => ?_, State.refinGate_near_keeps h, State.refinGate_same (State.SameOutside.refl _ s) rfl⟩
    rw [State.refinGate_far h ho, State.fbit_of_fget (State.refinCounted_fget ..), (State.refValid_valid _ false).1]
    exact ⟨rfl, rfl⟩
  · rw [exec_refinLoss_on hon]
    exact ⟨_, rfl, s.refinLoss_keeps⟩

end Sys2Proof.Machine
end

section
/-! PROOFS. FW's page, its job queue and the hold-up check before an operation (R512, R515). -/

namespace Sys2Proof.Machine

variable {s t u o : State} {d k i n p v w m c : Nat} {f g : Fld} {j : FlashJob} {op : FlashOp} {l : List Nat} {r : List (FlashJob × FlashOp)}

/-! ### FW's own state -/

@[simp] theorem State.setFw_fw (s : State) (x : FwSt → FwSt) : (s.setFw x).fw = x s.fw := rfl

@[simp] theorem State.setFw_mono (s : State) (x : FwSt → FwSt) : (s.setFw x).mono = s.mono := rfl

@[simp] theorem State.setFw_hdr (s : State) (x : FwSt → FwSt) (p : Nat) : (s.setFw x).hdr p = s.hdr p := rfl

@[simp] theorem State.setFw_fget (s : State) (x : FwSt → FwSt) (p : Nat) (f : Fld) : (s.setFw x).fget p f = s.fget p f :=
  State.fget_of_pages rfl p f

@[simp] theorem State.setFw_fbit (s : State) (x : FwSt → FwSt) (p : Nat) (f : Fld) : (s.setFw x).fbit p f = s.fbit p f :=
  State.fbit_of_fget (s.setFw_fget x p f)

@[simp] theorem State.flashQueue_fget (s : State) (j : FlashJob) (l : List FlashOp) (p : Nat) (f : Fld) :
    (s.flashQueue j l).fget p f = s.fget p f := s.setFw_fget ..

@[simp] theorem State.flashQueue_mono (s : State) (j : FlashJob) (l : List FlashOp) : (s.flashQueue j l).mono = s.mono := rfl

theorem State.flashQueue_fw (s : State) (j : FlashJob) (l : List FlashOp) :
    (s.flashQueue j l).fw = { s.fw with queue := s.fw.queue ++ l.map (fun o => (j, o)) } := rfl

theorem State.advanceTo_fw (s : State) (i : Nat) : (s.advanceTo i).fw = s.fw :=
  State.advanceTo_same (State.SameOutside.refl 130 s) rfl .fw (by decide)

theorem State.ended_fw {x : Out} : ((s.cmdDone p).emit x).fw = s.fw := by
  unfold State.cmdDone
  split <;> simp

/-! ### The commands of FW -/

theorem State.cmdRun_fw (h : 2 < c) : s.cmdRun m pgFw c v = s.fwCmd m c v := by
  unfold State.cmdRun
  rw [if_neg (by omega), if_neg (by omega), if_neg (by omega)]
  rfl

/-- A command that FW's page takes starts and runs. -/
theorem State.fw_command (h : s.accepts m pgFw c v = true) (h2 : 2 < c) (hc : c < 256) (hv : v < 2 ^ 24) :
    s.command m pgFw c v = ((s.cmdStart pgFw c v m).fwCmd m c v).emit (.access m 0 0) := by
  rw [State.command_eq h hc hv (.inr fun q _ => by unfold pgFw pgReel; omega), State.cmdRun_fw h2]

/-! ### FLASH_OP_ISSUE (R515) -/

theorem exec_flashOpIssue_on (h : s.boot.powered = true) : exec .flashOpIssue s = .next s.flashIssue :=
  congrArg Host.Outcome.next (State.live_on h _)

theorem State.flashIssue_idle (h : s.fw.queue = [] ∨ s.fw.issued = true) : s.flashIssue = s := by
  unfold State.flashIssue
  split
  · rfl
  · next hq => rw [if_pos (h.resolve_left (by simp [hq]))]

theorem State.showHoldup_eq (s : State) : s.showHoldup =
    (s.roundFree s.holdupNum holdupDen).2.fsetI pgFw FW.HOLDUP_E.E_MJ (s.roundFree s.holdupNum holdupDen).1 := rfl

theorem State.showHoldup_same' (s : State) : State.SameBut [.free, .page .fw] s s.showHoldup :=
  State.showHoldup_same (State.SameOutside.refl _ s) rfl

theorem State.showHoldup_fw (s : State) : s.showHoldup.fw = s.fw := s.showHoldup_same' .fw (by decide)

theorem State.showHoldup_mono (s : State) : s.showHoldup.mono = s.mono := s.showHoldup_same' .mono (by decide)

theorem State.showHoldup_hdr (s : State) (p : Nat) : s.showHoldup.hdr p = s.hdr p := by
  rw [State.showHoldup_eq, State.fsetI_hdr, State.hdr, State.roundFree_pages]
  rfl

theorem State.showHoldup_fget (h : FW.HOLDUP_E.E_MJ.Apart f) : s.showHoldup.fget p f = s.fget p f := by
  rw [State.showHoldup_eq, State.fsetI_fget_apart h]
  exact State.fget_of_pages (State.roundFree_pages ..) p f

theorem State.showHoldup_need (s : State) (op : FlashOp) : s.showHoldup.holdupNeed op = s.holdupNeed op := by
  cases op <;> exact State.showHoldup_fget (by decide)

theorem State.showHoldup_num (s : State) : s.showHoldup.holdupNum = s.holdupNum := by
  unfold State.holdupNum
  rw [State.showHoldup_fget (f := FW.HOLDUP_V.DIV) (by decide), State.showHoldup_fget (f := FW.HOLDUP_V.VMIN_MV) (by decide),
    State.showHoldup_fget (f := FW.HOLDUP_C.C_UF) (by decide), s.showHoldup_same'.fget (ty := .scal) rfl (by decide)]

/-- The energy suffices: the operation is with the flash. -/
def State.flashGoes (s : State) : State :=
  (s.setFw (fun f => { f with issued := true, waitSince := none })).fset pgFw FW.STAT.HOLD_WAIT 0

/-- The energy does not suffice: the wait begins. -/
def State.flashWaits (s : State) : State :=
  (((s.setFw (fun f => { f with waitSince := some s.mono })).fset pgFw FW.STAT.HOLD_WAIT 1).finc pgFw
    FW.HOLD_CNT.WAITS).evt pgFw 13

/-- An operation in front that has not been issued is judged with the energy shown. -/
theorem State.flashIssue_eq (hq : s.fw.queue = (j, op) :: r) (hi : s.fw.issued = false) : s.flashIssue =
    if (s.holdupNeed op * holdupDen : Nat) ≤ s.holdupNum then s.showHoldup.flashGoes
    else if s.fw.waitSince.isSome then s.showHoldup else s.showHoldup.flashWaits := by
  unfold State.flashIssue
  rw [hq]
  dsimp only
  rw [hi, if_neg (by decide), State.showHoldup_need, State.showHoldup_num, State.showHoldup_fw]
  rfl

theorem exec_flashOpIssue_goes (hp : s.boot.powered = true) (hq : s.fw.queue = (j, op) :: r) (hi : s.fw.issued = false)
    (h : (s.holdupNeed op * holdupDen : Nat) ≤ s.holdupNum) : ∃ t : State, exec .flashOpIssue s = .next t ∧
      t.fw = { s.fw with issued := true, waitSince := none } ∧ t.fget pgFw FW.STAT.HOLD_WAIT = 0 ∧
      State.SameBut [.free, .fw, .out, .page .fw] s t := by
  rw [exec_flashOpIssue_on hp, State.flashIssue_eq hq hi, if_pos h]
  refine ⟨_, rfl, ?_, State.fset_fget (by decide) (by decide), ?_⟩
  · rw [State.flashGoes, State.fset_fw, State.setFw_fw, State.showHoldup_fw]
  · exact State.fset_same (State.setFw_same (s.showHoldup_same'.mono rfl) rfl) rfl rfl

theorem exec_flashOpIssue_waits (hp : s.boot.powered = true) (hq : s.fw.queue = (j, op) :: r) (hi : s.fw.issued = false)
    (h : s.holdupNum < (s.holdupNeed op * holdupDen : Nat)) (hw : s.fw.waitSince = none) : ∃ t : State,
      exec .flashOpIssue s = .next t ∧ t.fw = { s.fw with waitSince := some s.mono } ∧
      t.fget pgFw FW.STAT.HOLD_WAIT = 1 ∧
      t.fget pgFw FW.HOLD_CNT.WAITS = min (s.fget pgFw FW.HOLD_CNT.WAITS + 1) 65535 ∧
      (t.hdr pgFw).evt.getLsbD 13 = true ∧ State.SameBut [.free, .fw, .out, .page .fw] s t := by
  rw [exec_flashOpIssue_on hp, State.flashIssue_eq hq hi, if_neg (by omega), hw, if_neg (by decide)]
  refine ⟨_, rfl, ?_, ?_, ?_, State.evt_set _ _ _ (by decide), ?_⟩
  · rw [State.flashWaits, State.evt_fw, State.finc_fw, State.fset_fw, State.setFw_fw, State.showHoldup_fw, State.showHoldup_mono]
  · rw [State.flashWaits, State.evt_fget, State.finc_fget_apart (by decide), State.fset_fget (by decide) (by decide)]
  · rw [State.flashWaits, State.evt_fget, State.finc_fget (by decide), State.fset_fget_apart (by decide), State.setFw_fget,
      State.showHoldup_fget (by decide)]
    rfl
  · exact State.evt_same (State.finc_same (State.fset_same (State.setFw_same (s.showHoldup_same'.mono rfl) rfl) rfl rfl) rfl rfl)
      rfl rfl

theorem exec_flashOpIssue_stays (hp : s.boot.powered = true) (hq : s.fw.queue = (j, op) :: r) (hi : s.fw.issued = false)
    (h : s.holdupNum < (s.holdupNeed op * holdupDen : Nat)) (hw : s.fw.waitSince.isSome = true) :
    exec .flashOpIssue s = .next s.showHoldup := by
  rw [exec_flashOpIssue_on hp, State.flashIssue_eq hq hi, if_neg (by omega), if_pos hw]

/-! ### FLASH_OP_DONE (R512) -/

theorem exec_flashOpDone_on (h : s.boot.powered = true) (ok : Bool) : exec (.flashOpDone ok) s = .next (s.flashDone ok) :=
  congrArg Host.Outcome.next (State.live_on h _)

theorem State.flashDone_idle (h : s.fw.issued = false ∨ s.fw.queue = []) (ok : Bool) : s.flashDone ok = s := by
  unfold State.flashDone
  rcases h with h | h
  · rw [h]
    rfl
  · rw [h]
    exact ite_self s

/-- The operation in front has left the flash, and the next may be issued. -/
def State.flashEnded (s : State) (r : List (FlashJob × FlashOp)) : State :=
  s.setFw (fun f => { f with queue := r, issued := false })

/-- The operation in front has succeeded. -/
def State.flashKept (s : State) (r : List (FlashJob × FlashOp)) (op : FlashOp) : State :=
  { s with fw := { s.fw with queue := r, issued := false }, flash := s.flash.apply op }

/-- The failures of the kind of an operation. -/
def flashErr : FlashOp → Fld
  | .erase _ => FW.FLASH_ERR.ERASE
  | _ => FW.FLASH_ERR.PROG

/-- An operation of DLY has succeeded: the program of a page is a record, an erase is not. -/
def State.recordDone (s : State) : FlashOp → State
  | .program _ _ => s.dailyWritten
  | _ => s

/-- An operation has succeeded: a record of DLY counts as written, and the last operation of any other job ends it. -/
theorem State.flashDone_good (hi : s.fw.issued = true) (hq : s.fw.queue = (j, op) :: r) : s.flashDone true =
    if j = .daily then (s.flashKept r op).recordDone op
    else if r.any (fun e => e.1 = j) then s.flashKept r op else (s.flashKept r op).jobDone j := by
  unfold State.flashDone
  rw [hi, hq]
  cases op <;> rfl

/-- An operation has failed: it is counted and reported, and its job fails with it. -/
theorem State.flashDone_bad (hi : s.fw.issued = true) (hq : s.fw.queue = (j, op) :: r) : s.flashDone false =
    (((((s.flashEnded r).finc pgFw (flashErr op)).evt pgFw 14).reportDrop pgFw).jobFail j 0x31) := by
  unfold State.flashDone
  rw [hi, hq]
  cases op <;> rfl

/-- The ring wraps as its head leaves the last slot. -/
def State.ringWrapped (s : State) : State :=
  if s.fget pgDly DLY.RING.HEAD = 0xFFFF then s.finc pgDly DLY.RING.WRAPS else s

theorem State.dailyWritten_eq (s : State) : s.dailyWritten =
    ((s.ringWrapped.fset pgDly DLY.RING.HEAD ((s.fget pgDly DLY.RING.HEAD + 1) % 65536)).finc pgDly DLY.CNT.WRITTEN).evt pgDly 8 := rfl

theorem State.ringWrapped_fget (h : DLY.RING.WRAPS.Apart f) : s.ringWrapped.fget pgDly f = s.fget pgDly f := by
  unfold State.ringWrapped
  split
  · exact State.finc_fget_apart h
  · rfl

theorem State.ringWrapped_wraps (s : State) : s.ringWrapped.fget pgDly DLY.RING.WRAPS =
    if s.fget pgDly DLY.RING.HEAD = 0xFFFF then min (s.fget pgDly DLY.RING.WRAPS + 1) 65535 else s.fget pgDly DLY.RING.WRAPS := by
  unfold State.ringWrapped
  split
  · exact State.finc_fget (by decide)
  · rfl

/-- A record that is written takes the head of the ring on, and counts. -/
theorem State.dailyWritten_shown (s : State) : s.dailyWritten.fget pgDly DLY.RING.HEAD = (s.fget pgDly DLY.RING.HEAD + 1) % 65536 ∧
    s.dailyWritten.fget pgDly DLY.RING.WRAPS = (if s.fget pgDly DLY.RING.HEAD = 0xFFFF then
      min (s.fget pgDly DLY.RING.WRAPS + 1) 65535 else s.fget pgDly DLY.RING.WRAPS) ∧
    s.dailyWritten.fget pgDly DLY.CNT.WRITTEN = min (s.fget pgDly DLY.CNT.WRITTEN + 1) 65535 ∧
    (s.dailyWritten.hdr pgDly).evt.getLsbD 8 = true ∧ State.SameBut [.out, .page .dly] s s.dailyWritten := by
  refine ⟨?_, ?_, ?_, State.evt_set _ _ _ (by decide), State.dailyWritten_same (State.SameOutside.refl _ s) rfl⟩
  · rw [State.dailyWritten_eq, State.evt_fget, State.finc_fget_apart (by decide), State.fset_fget (by decide) (by simp only [DLY.RING.HEAD]; omega)]
  · rw [State.dailyWritten_eq, State.evt_fget, State.finc_fget_apart (by decide), State.fset_fget_apart (by decide), State.ringWrapped_wraps]
  · rw [State.dailyWritten_eq, State.evt_fget, State.finc_fget (by decide), State.fset_fget_apart (by decide), State.ringWrapped_fget (by decide)]
    rfl

theorem exec_flashOpDone_record (hp : s.boot.powered = true) (hi : s.fw.issued = true) (hq : s.fw.queue = (.daily, .program i l) :: r) :
    ∃ t : State, exec (.flashOpDone true) s = .next t ∧
      t.fget pgDly DLY.RING.HEAD = (s.fget pgDly DLY.RING.HEAD + 1) % 65536 ∧
      t.fget pgDly DLY.RING.WRAPS = (if s.fget pgDly DLY.RING.HEAD = 0xFFFF then
        min (s.fget pgDly DLY.RING.WRAPS + 1) 65535 else s.fget pgDly DLY.RING.WRAPS) ∧
      t.fget pgDly DLY.CNT.WRITTEN = min (s.fget pgDly DLY.CNT.WRITTEN + 1) 65535 ∧
      (t.hdr pgDly).evt.getLsbD 8 = true ∧ State.SameBut [.out, .page .dly] (s.flashKept r (.program i l)) t := by
  have hk (f : Fld) : (s.flashKept r (.program i l)).fget pgDly f = s.fget pgDly f := State.fget_of_pages rfl pgDly f
  rw [exec_flashOpDone_on hp, State.flashDone_good hi hq, if_pos rfl]
  obtain ⟨hhead, hwraps, hwritten, hevt, hsame⟩ := (s.flashKept r (.program i l)).dailyWritten_shown
  rw [hk] at hhead hwritten
  rw [hk, hk] at hwraps
  exact ⟨_, rfl, hhead, hwraps, hwritten, hevt, hsame⟩

theorem exec_flashOpDone_fails (hp : s.boot.powered = true) (hi : s.fw.issued = true) (hq : s.fw.queue = (j, op) :: r) :
    ∃ v : State, exec (.flashOpDone false) s = .next (((v.evt pgFw 14).reportDrop pgFw).jobFail j 0x31) ∧
      v.fw = { s.fw with queue := r, issued := false } ∧
      (∀ a, op = .erase a → v.fget pgFw FW.FLASH_ERR.ERASE = min (s.fget pgFw FW.FLASH_ERR.ERASE + 1) 65535 ∧
        v.fget pgFw FW.FLASH_ERR.PROG = s.fget pgFw FW.FLASH_ERR.PROG) ∧
      ((∀ a, op ≠ .erase a) → v.fget pgFw FW.FLASH_ERR.PROG = min (s.fget pgFw FW.FLASH_ERR.PROG + 1) 65535 ∧
        v.fget pgFw FW.FLASH_ERR.ERASE = s.fget pgFw FW.FLASH_ERR.ERASE) ∧
      State.SameBut [.fw, .page .fw] s v := by
  rw [exec_flashOpDone_on hp, State.flashDone_bad hi hq]
  refine ⟨_, rfl, State.finc_fw .., ?_, fun hne => ?_, ?_⟩
  · rintro a rfl
    exact ⟨State.finc_fget (f := FW.FLASH_ERR.ERASE) (by decide), State.finc_fget_apart (f := FW.FLASH_ERR.ERASE) (by decide)⟩
  · have herr : flashErr op = FW.FLASH_ERR.PROG := by
      cases op with
      | erase a => exact absurd rfl (hne a)
      | _ => rfl
    rw [herr]
    exact ⟨State.finc_fget (by decide), State.finc_fget_apart (by decide)⟩
  · exact State.finc_same (State.setFw_same (State.SameOutside.refl _ s) rfl) rfl rfl

/-! ### The end of CONFIRM (R522) -/

/-- STAT shows no processor on trial, and the boot slots of the directory. -/
def State.trialsOver (s : State) : State :=
  ((s.fset pgFw FW.STAT.MGT_TRIAL 0).fset pgFw FW.STAT.SAF_TRIAL 0).showDir

theorem State.jobDone_confirm (s : State) : s.jobDone .confirm = s.trialsOver.cmdDone pgFw := rfl

theorem State.showDir_hdr (s : State) (p : Nat) : s.showDir.hdr p = s.hdr p := by
  unfold State.showDir
  split
  · rw [State.fset_hdr, State.fset_hdr]
  · rfl

theorem State.showDir_fget_apart (hm : FW.STAT.MGT_BOOT.Apart f) (hs : FW.STAT.SAF_BOOT.Apart f) :
    s.showDir.fget p f = s.fget p f := by
  unfold State.showDir
  split
  · rw [State.fset_fget_apart hs, State.fset_fget_apart hm]
  · rfl

theorem State.jobDone_confirm_shown (h : (s.hdr pgFw).run = some ⟨0x14, v, i⟩) : (s.jobDone .confirm).Done pgFw 0x14 i ∧
    (s.jobDone .confirm).fget pgFw FW.STAT.MGT_TRIAL = 0 ∧ (s.jobDone .confirm).fget pgFw FW.STAT.SAF_TRIAL = 0 := by
  have hrun : (s.trialsOver.hdr pgFw).run = some ⟨0x14, v, i⟩ := by
    rw [State.trialsOver, State.showDir_hdr, State.fset_hdr, State.fset_hdr, h]
  rw [State.jobDone_confirm, State.cmdDone_fget, State.cmdDone_fget]
  refine ⟨State.cmdDone_done _ _ hrun, ?_, ?_⟩
  · rw [State.trialsOver, State.showDir_fget_apart (by decide) (by decide), State.fset_fget_apart (by decide),
      State.fset_fget (by decide) (by decide)]
  · rw [State.trialsOver, State.showDir_fget_apart (by decide) (by decide), State.fset_fget (by decide) (by decide)]

/-! ### HOLD_TIMEOUT (R515) -/

theorem exec_holdTimeout_on (h : s.boot.powered = true) : exec .holdTimeout s = .next s.holdTimeout :=
  congrArg Host.Outcome.next (State.live_on h _)

theorem State.holdTimeout_idle (h : s.fw.waitSince = none ∨ s.fw.queue = []) : s.holdTimeout = s := by
  unfold State.holdTimeout
  split
  · next hw hq => rcases h with h | h <;> simp [h] at hw hq
  · rfl

/-- The operation in front is given up at an instant. -/
def State.holdGivenUp (s : State) (i : Nat) (r : List (FlashJob × FlashOp)) : State :=
  (((s.advanceTo i).setFw (fun f => { f with queue := r, waitSince := none })).fset pgFw FW.STAT.HOLD_WAIT 0).finc pgFw
    FW.HOLD_CNT.TIMEOUTS

theorem State.holdTimeout_eq (hw : s.fw.waitSince = some i) (hq : s.fw.queue = (j, op) :: r) :
    s.holdTimeout = (s.holdGivenUp (i + s.fget pgFw FW.HOLD_TIMEOUT.S * 1000000000) r).jobFail j 0x32 := by
  unfold State.holdTimeout
  rw [hw, hq]
  dsimp only
  generalize i + s.fget pgFw FW.HOLD_TIMEOUT.S * 1000000000 = n
  rfl

theorem State.holdGivenUp_shown (s : State) (i : Nat) (r : List (FlashJob × FlashOp)) : (s.holdGivenUp i r).mono = max s.mono i ∧
    (s.holdGivenUp i r).fw = { s.fw with queue := r, waitSince := none } ∧
    (s.holdGivenUp i r).fget pgFw FW.STAT.HOLD_WAIT = 0 ∧
    (s.holdGivenUp i r).fget pgFw FW.HOLD_CNT.TIMEOUTS = min (s.fget pgFw FW.HOLD_CNT.TIMEOUTS + 1) 65535 ∧
    State.SameBut [.mono, .time, .fw, .out, .page .fw] s (s.holdGivenUp i r) := by
  refine ⟨?_, ?_, ?_, ?_, ?_⟩
  · rw [State.holdGivenUp, State.finc_mono, State.fset_mono, State.setFw_mono, State.advanceTo_mono]
  · rw [State.holdGivenUp, State.finc_fw, State.fset_fw, State.setFw_fw, State.advanceTo_fw]
  · rw [State.holdGivenUp, State.finc_fget_apart (by decide), State.fset_fget (by decide) (by decide)]
  · rw [State.holdGivenUp, State.finc_fget (by decide), State.fset_fget_apart (by decide), State.setFw_fget, State.advanceTo_fget]
    rfl
  · exact State.finc_same (State.fset_same (State.setFw_same (State.advanceTo_same (State.SameOutside.refl _ s) rfl) rfl) rfl rfl)
      rfl rfl

theorem exec_holdTimeout_fails (hp : s.boot.powered = true) (hw : s.fw.waitSince = some i) (hq : s.fw.queue = (j, op) :: r) :
    ∃ v : State, exec .holdTimeout s = .next (v.jobFail j 0x32) ∧
      v.mono = max s.mono (i + s.fget pgFw FW.HOLD_TIMEOUT.S * 1000000000) ∧
      v.fw = { s.fw with queue := r, waitSince := none } ∧ v.fget pgFw FW.STAT.HOLD_WAIT = 0 ∧
      v.fget pgFw FW.HOLD_CNT.TIMEOUTS = min (s.fget pgFw FW.HOLD_CNT.TIMEOUTS + 1) 65535 ∧
      State.SameBut [.mono, .time, .fw, .out, .page .fw] s v :=
  ⟨_, by rw [exec_holdTimeout_on hp, State.holdTimeout_eq hw hq], State.holdGivenUp_shown ..⟩

end Sys2Proof.Machine
end

section
/-! PROOFS. Checkpoints and dailies (R523 to R526, R528, R530, R532). -/

namespace Sys2Proof.Machine

variable {s t u o : State} {d k i n p v w m c : Nat} {f g : Fld} {j : FlashJob}

/-! ### A lost record of CAD leaves FW alone (R224) -/

theorem State.blockReset_cad_eq (s : State) : s.blockReset pgCad =
    ({ (s.fresh 8).2.cmdFail pgCad (s.fresh 8).1.toNat with
        cad := { ((s.fresh 8).2.cmdFail pgCad (s.fresh 8).1.toNat).cad with rebuild := none, copy := none, exchange := false } }.fset
      pgCad CAD.STAT.REBUILD_BUSY 0).fset pgCad CAD.STAT.COPY_BUSY 0 := rfl

theorem State.blockReset_cad_same (h : State.SameOutside m o s) (k : partsMask [.free, .cad, .out, .page .cad] ||| m = m) :
    State.SameOutside m o (s.blockReset pgCad) := by
  rw [State.blockReset_cad_eq]
  exact State.fset_same (State.fset_same (State.SameOutside.set_cad
    (State.cmdFail_same (State.fresh_same h (mask_trans rfl k)) (mask_trans rfl k) (mask_trans rfl k)) (mask_trans rfl k))
    (mask_trans rfl k) (mask_trans rfl k)) (mask_trans rfl k) (mask_trans rfl k)

/-- What a report of CAD may touch: not FW, nor the clock. -/
def cadReportParts : List Part :=
  [.free, .time, .cad, .duds, .flt, .safe, .pair, .out, .page .sys, .page .time, .page .flt, .page .saf, .page .grd, .page .pair,
    .page .cad, .page .dud]

theorem State.react_cad_same {e : ErrRec} (he : e.src = pgCad) (h : State.SameOutside m o s)
    (k : partsMask cadReportParts ||| m = m) (b : Bool) : State.SameOutside m o (s.react e b) := by
  unfold State.react
  rw [he]
  extract_lets x y z
  have hx : State.SameOutside m o x := State.SameOutside.ite (State.tripWith_same h (mask_trans rfl k)) h
  have hy : State.SameOutside m o y := State.SameOutside.ite (State.signalPair_same hx (mask_trans rfl k)) hx
  have hz : State.SameOutside m o z :=
    State.SameOutside.ite (State.evt_same hy (mask_trans rfl k) (pageMask_flt (mask_trans rfl k))) hy
  exact State.SameOutside.ite (State.SameOutside.ite (State.finc_same hz (mask_trans rfl k) (pageMask_flt (mask_trans rfl k)))
    (State.blockReset_cad_same hz (mask_trans rfl k))) hz

theorem State.reportDrop_cad_same (h : State.SameOutside m o s) (k : partsMask cadReportParts ||| m = m) :
    State.SameOutside m o (s.reportDrop pgCad) := by
  unfold State.reportDrop State.report State.intake State.countReport
  dsimp only
  rw [if_pos (show pgCad < 0x80 by decide)]
  exact State.SameOutside.ite (State.SameOutside.set_flt h (mask_trans rfl k)) (State.react_cad_same rfl
    (State.faultCount_same (State.fadd_same (State.SameOutside.ite (State.mergeReport_same h (mask_trans rfl k))
      (State.captureReport_same h (mask_trans rfl k))) (mask_trans rfl k) (mask_trans rfl k)) (mask_trans rfl k) (mask_trans rfl k)) k _)

theorem State.recordLost_cad_same (h : State.SameOutside m o s) (k : partsMask cadReportParts ||| m = m) :
    State.SameOutside m o s.recordLost :=
  State.reportDrop_cad_same (State.evt_same (State.finc_same h (mask_trans rfl k) (mask_trans rfl k)) (mask_trans rfl k)
    (mask_trans rfl k)) k

theorem State.addCode_cad_same (h : State.SameOutside m o s) (k : partsMask cadReportParts ||| m = m) (codes : List Nat)
    (x : Option Nat) : State.SameOutside m o (s.addCode codes x).2 := by
  cases x with
  | none => exact State.fresh_same (b1 := 16) (State.recordLost_cad_same h k) (mask_trans rfl k)
  | some y => exact h

/-- The dose codes of a slice are read without a touch of FW. -/
theorem State.sliceCodes_keeps (s : State) (k : Nat) : State.SameBut cadReportParts s (s.sliceCodes k).2 :=
  State.SameOutside.foldlP (fun x : List Nat × State => State.SameBut cadReportParts s x.2) (State.SameOutside.refl _ s)
    fun _ _ h => State.addCode_cad_same (m := partsMask cadReportParts) h rfl _ _

/-! ### Checkpoints (R523 to R526, R530) -/

/-- A wear checkpoint queues its operations under its slice and location, and its time counts from now. -/
theorem State.wearWrite_fw (s : State) (k : Nat) (codes : List Nat) : ∃ a : List FlashOp, a ≠ [] ∧
    (s.wearWrite k codes).fw = { s.fw with
      queue := s.fw.queue ++ a.map (fun o => (.wear k s.flash.freeLoc, o)), lastWear := s.mono } :=
  ⟨_, by simp, rfl⟩

theorem State.wearWrite_same' (s : State) (k : Nat) (codes : List Nat) : State.SameBut [.fw] s (s.wearWrite k codes) :=
  State.wearWrite_same (State.SameOutside.refl _ s) rfl

theorem State.wearStart_keeps (s : State) : State.SameBut (.fw :: cadReportParts) s s.wearStart := by
  unfold State.wearStart
  exact State.wearWrite_same ((s.sliceCodes_keeps _).mono rfl) rfl

theorem State.wearStart_fw (s : State) : ∃ (l : Nat) (a : List FlashOp), a ≠ [] ∧
    s.wearStart.fw = { s.fw with
      queue := s.fw.queue ++ a.map (fun o => (.wear (s.fget pgFw FW.CKPT_STAT.NEXT_SLICE) l, o)), lastWear := s.mono } := by
  have hs := s.sliceCodes_keeps (s.fget pgFw FW.CKPT_STAT.NEXT_SLICE)
  have hfw : (s.sliceCodes (s.fget pgFw FW.CKPT_STAT.NEXT_SLICE)).2.fw = s.fw := hs .fw (by decide)
  have hmono : (s.sliceCodes (s.fget pgFw FW.CKPT_STAT.NEXT_SLICE)).2.mono = s.mono := hs .mono (by decide)
  obtain ⟨a, ha, h⟩ := (s.sliceCodes (s.fget pgFw FW.CKPT_STAT.NEXT_SLICE)).2.wearWrite_fw (s.fget pgFw FW.CKPT_STAT.NEXT_SLICE)
    (s.sliceCodes (s.fget pgFw FW.CKPT_STAT.NEXT_SLICE)).1
  rw [hfw, hmono] at h
  exact ⟨_, a, ha, h⟩

theorem State.diagCkptStart_fw (s : State) : ∃ (c : Nat) (b : List FlashOp), b ≠ [] ∧
    s.diagCkptStart.fw = { s.fw with queue := s.fw.queue ++ b.map (fun o => (.diag c, o)), lastDiag := s.mono } :=
  ⟨_, _, by simp, rfl⟩

theorem exec_ckptNow_on (h : s.boot.powered = true) (m : Master) :
    exec (.ckptNow m) s = .next (s.command m.id pgFw 0x17 0) := congrArg Host.Outcome.next (State.live_on h _)

theorem State.fwCmd_ckptNow (s : State) (m v : Nat) : s.fwCmd m 0x17 v = s.ckptNow := rfl

theorem State.ckptNow_eq (s : State) : s.ckptNow = (s.wearStart.diagCkptStart).setFw (fun f => { f with ckptJobs := 2 }) := rfl

/-- CKPT_NOW queues the operations of both checkpoints, and runs until they have ended. -/
theorem exec_ckptNow_starts (m : Master) (h : s.accepts m.id pgFw 0x17 0 = true) :
    ∃ (t : State) (l c : Nat) (a b : List FlashOp), exec (.ckptNow m) s = .next t ∧ t.Runs pgFw 0x17 0 m.id ∧
      t.Answers (.access m.id 0 0) ∧ t.fw.ckptJobs = 2 ∧ a ≠ [] ∧ b ≠ [] ∧
      t.fw.queue = s.fw.queue ++ a.map (fun o => (.wear (s.fget pgFw FW.CKPT_STAT.NEXT_SLICE) l, o)) ++
        b.map (fun o => (.diag c, o)) ∧ t.fw.lastWear = s.mono ∧ t.fw.lastDiag = s.mono := by
  rw [exec_ckptNow_on (State.accepts_powered h), State.fw_command h (by decide) (by decide) (by decide), State.fwCmd_ckptNow]
  have hrun : (s.cmdStart pgFw 0x17 0 m.id).Runs pgFw 0x17 0 m.id := State.cmdStart_runs s pgFw
  have hfw : (s.cmdStart pgFw 0x17 0 m.id).fw = s.fw := rfl
  have hmono : (s.cmdStart pgFw 0x17 0 m.id).mono = s.mono := rfl
  have hslice : (s.cmdStart pgFw 0x17 0 m.id).fget pgFw FW.CKPT_STAT.NEXT_SLICE = s.fget pgFw FW.CKPT_STAT.NEXT_SLICE := rfl
  generalize s.cmdStart pgFw 0x17 0 m.id = v at *
  obtain ⟨l, a, ha, hwear⟩ := v.wearStart_fw
  obtain ⟨c, b, hb, hdiag⟩ := v.wearStart.diagCkptStart_fw
  have hwmono : v.wearStart.mono = v.mono := v.wearStart_keeps .mono (by decide)
  have hsame : State.SameBut (.fw :: cadReportParts) v v.ckptNow :=
    State.setFw_same (State.diagCkptStart_same v.wearStart_keeps rfl) rfl
  have hall : v.ckptNow.fw = { s.fw with
      queue := s.fw.queue ++ a.map (fun o => (.wear (s.fget pgFw FW.CKPT_STAT.NEXT_SLICE) l, o)) ++ b.map (fun o => (.diag c, o)),
      lastWear := s.mono, lastDiag := s.mono, ckptJobs := 2 } := by
    rw [State.ckptNow_eq, State.setFw_fw, hdiag, hwear, hwmono, hfw, hmono, hslice]
  refine ⟨_, l, c, a, b, rfl, (hrun.of_samePage (hsame (.page .fw) (by decide) pgFw rfl)).emit _, State.emit_answers _ _, ?_, ha, hb,
    ?_, ?_, ?_⟩
  all_goals rw [State.emit_fw, hall]

/-- Whether a checkpoint of wear may start. -/
def State.wearGo (s : State) : Bool :=
  s.fbit pgFw FW.BG_CFG.WEAR_EN && s.domOn 2 && s.memOnline && !s.jobQueued (fun j => match j with | .wear _ _ => true | _ => false)

/-- Whether a checkpoint of the status map may start. -/
def State.diagGo (s : State) : Bool :=
  s.fbit pgFw FW.BG_CFG.DIAG_EN && s.domOn 2 && s.memOnline && !s.jobQueued (fun j => match j with | .diag _ => true | _ => false)

theorem State.advanceTo_fbit (s : State) (i p : Nat) (f : Fld) : (s.advanceTo i).fbit p f = s.fbit p f :=
  State.fbit_of_fget (s.advanceTo_fget i p f)

theorem State.advanceTo_domOn (s : State) (i d : Nat) : (s.advanceTo i).domOn d = s.domOn d := State.domOn_of_fget (s.advanceTo_fget i pgPwr) d

theorem State.advanceTo_jobQueued (s : State) (i : Nat) (x : FlashJob → Bool) : (s.advanceTo i).jobQueued x = s.jobQueued x :=
  congrArg (fun y : FwSt => y.queue.any (fun e => x e.1)) (s.advanceTo_fw i)

theorem State.advanceTo_memOnline (s : State) (i : Nat) : (s.advanceTo i).memOnline = s.memOnline := by
  unfold State.memOnline
  rw [State.advanceTo_domOn, State.advanceTo_fget]

theorem State.advanceTo_wearGo (s : State) (i : Nat) : (s.advanceTo i).wearGo = s.wearGo := by
  unfold State.wearGo
  rw [State.advanceTo_fbit, State.advanceTo_domOn, State.advanceTo_memOnline, State.advanceTo_jobQueued]

theorem State.advanceTo_diagGo (s : State) (i : Nat) : (s.advanceTo i).diagGo = s.diagGo := by
  unfold State.diagGo
  rw [State.advanceTo_fbit, State.advanceTo_domOn, State.advanceTo_memOnline, State.advanceTo_jobQueued]

theorem State.wearCheckpoint_eq (s : State) (h : i = s.fw.lastWear + s.fget pgFw FW.BG_CFG.WEAR_MIN * 60000000000) :
    s.wearCheckpoint = if s.wearGo then (s.advanceTo i).wearStart else s.advanceTo i := by
  rw [← s.advanceTo_wearGo i]
  unfold State.wearCheckpoint
  rw [← h]
  rfl

theorem State.diagCheckpoint_eq (s : State) (h : i = s.fw.lastDiag + s.fget pgFw FW.BG_CFG.DIAG_MIN * 60000000000) :
    s.diagCheckpoint = if s.diagGo then (s.advanceTo i).diagCkptStart else s.advanceTo i := by
  rw [← s.advanceTo_diagGo i]
  unfold State.diagCheckpoint
  rw [← h]
  rfl

theorem exec_wearCheckpoint_on (h : s.boot.powered = true) : exec .wearCheckpoint s = .next s.wearCheckpoint :=
  congrArg Host.Outcome.next (State.live_on h _)

theorem exec_diagCheckpoint_on (h : s.boot.powered = true) : exec .diagCheckpoint s = .next s.diagCheckpoint :=
  congrArg Host.Outcome.next (State.live_on h _)

theorem exec_wearCheckpoint_starts (hp : s.boot.powered = true)
    (hi : i = s.fw.lastWear + s.fget pgFw FW.BG_CFG.WEAR_MIN * 60000000000) (hgo : s.wearGo = true) :
    ∃ (t : State) (l : Nat) (a : List FlashOp), exec .wearCheckpoint s = .next t ∧ a ≠ [] ∧
      t.fw.queue = s.fw.queue ++ a.map (fun o => (.wear (s.fget pgFw FW.CKPT_STAT.NEXT_SLICE) l, o)) ∧
      t.mono = max s.mono i ∧ t.fw.lastWear = max s.mono i := by
  rw [exec_wearCheckpoint_on hp, State.wearCheckpoint_eq s hi, if_pos hgo]
  have hmono : (s.advanceTo i).wearStart.mono = (s.advanceTo i).mono := (s.advanceTo i).wearStart_keeps .mono (by decide)
  obtain ⟨l, a, ha, h⟩ := (s.advanceTo i).wearStart_fw
  rw [State.advanceTo_fw, State.advanceTo_fget, State.advanceTo_mono] at h
  refine ⟨_, l, a, rfl, ha, ?_, ?_, ?_⟩
  · rw [h]
  · rw [hmono, State.advanceTo_mono]
  · rw [h]

theorem exec_diagCheckpoint_starts (hp : s.boot.powered = true)
    (hi : i = s.fw.lastDiag + s.fget pgFw FW.BG_CFG.DIAG_MIN * 60000000000) (hgo : s.diagGo = true) :
    ∃ (t : State) (c : Nat) (a : List FlashOp), exec .diagCheckpoint s = .next t ∧ a ≠ [] ∧
      t.fw.queue = s.fw.queue ++ a.map (fun o => (.diag c, o)) ∧ t.mono = max s.mono i ∧
      t.fw.lastDiag = max s.mono i ∧ State.SameBut [.mono, .time, .fw] s t := by
  rw [exec_diagCheckpoint_on hp, State.diagCheckpoint_eq s hi, if_pos hgo]
  have hsame : State.SameBut [.mono, .time, .fw] s (s.advanceTo i).diagCkptStart :=
    State.diagCkptStart_same (State.advanceTo_same (State.SameOutside.refl _ s) rfl) rfl
  obtain ⟨c, a, ha, h⟩ := (s.advanceTo i).diagCkptStart_fw
  rw [State.advanceTo_fw, State.advanceTo_mono] at h
  refine ⟨_, c, a, rfl, ha, ?_, State.advanceTo_mono s i, ?_, hsame⟩
  · rw [h]
  · rw [h]

/-! ### Records of DLY (R528, R532) -/

theorem crcStep_lt {r : Nat} (h : r < 2 ^ 32) (n : Nat) : crcStep r n < 2 ^ 32 := by
  induction n generalizing r with
  | zero => exact h
  | succ n ih =>
    refine ih ?_
    have hhalf : r / 2 < 2 ^ 32 := by omega
    split
    · exact Nat.xor_lt_two_pow hhalf (by decide)
    · exact hhalf

theorem crcByte_lt {r : Nat} (h : r < 2 ^ 32) (b : Nat) : crcByte r b < 2 ^ 32 :=
  crcStep_lt (Nat.xor_lt_two_pow h (by omega)) 8

theorem crc32c_lt (bs : List Nat) : crc32c bs < 2 ^ 32 := by
  have hbytes : ∀ (l : List Nat) (r : Nat), r < 2 ^ 32 → crcBytes r l < 2 ^ 32 := by
    intro l
    induction l with
    | nil => exact fun r h => h
    | cons b l ih => exact fun r h => ih _ (crcByte_lt h b)
  exact Nat.xor_lt_two_pow (hbytes bs _ (by decide)) (by decide)

/-- Bytes with their CRC behind them. -/
def crcSealed (body : List Nat) : List Nat := body ++ leBytes (crc32c body) 4

theorem crcSealed_length (body : List Nat) : (crcSealed body).length = body.length + 4 := by
  rw [crcSealed, List.length_append, leBytes_length]

theorem crcSealed_good {body : List Nat} {n : Nat} (h : body.length = n) :
    crc32c ((crcSealed body).take n) = ofLeBytes ((crcSealed body).drop n) := by
  rw [crcSealed, ← h, List.take_left, List.drop_left, ofLeBytes_leBytes, Nat.mod_eq_of_lt (show crc32c body < 256 ^ 4 from crc32c_lt body)]

theorem note_bytes (a b c d e : Nat) (r : List Nat) :
    ((leBytes a 8 ++ (leBytes b 4 ++ (leBytes c 2 ++ (leBytes d 2 ++ (leBytes e 2 ++ r))))).drop 16).take 2 = leBytes e 2 := rfl

/-- The record of DLY before its CRC, with the die reading and the energy it was given (R528). -/
theorem State.dailyRecord_sealed (s : State) (q n note : Nat) : ∃ body : List Nat, (s.dailyRecord q n note).1 = crcSealed body ∧
    body.length = 124 ∧ (body.drop 16).take 2 = leBytes note 2 := by
  unfold State.dailyRecord
  split
  split
  refine ⟨_, rfl, ?_, ?_⟩
  · simp only [List.length_append, leBytes_length, List.length_flatMap, List.length_cons, List.length_nil, List.map_const',
      List.length_range, List.sum_replicate]
    rfl
  · simp only [List.append_assoc]
    exact note_bytes ..

/-- The number of the next record. -/
def State.nextSeq (s : State) : Nat := (s.fget pgDly DLY.SEQ.SEQ + 1) % 2 ^ 32

/-- The bytes of the next record. -/
def State.dailyBytes (s : State) (kind note : Nat) : List Nat := (s.dailyRecord s.nextSeq kind note).1

/-- The next record's number shows. -/
def State.dailyShown (s : State) (kind note : Nat) : State :=
  (s.dailyRecord s.nextSeq kind note).2.fset pgDly DLY.SEQ.SEQ s.nextSeq

/-- The slot of the ring for the next record, behind those that wait. -/
def State.nextSlot (s : State) : Nat :=
  (s.fget pgDly DLY.RING.HEAD +
    (s.fw.queue.filter (fun e => e.1 = .daily && (match e.2 with | .program _ _ => true | _ => false))).length) % 65536

/-- The next record is formed, and its program waits for the flash. -/
def State.dailyQueued (s : State) (kind note : Nat) : State :=
  (s.dailyShown kind note).flashQueue .daily
    ((if (s.dailyShown kind note).nextSlot % 512 = 0 then
        [FlashOp.erase (0x3800000 + 128 * (s.dailyShown kind note).nextSlot)] else []) ++
      [.program (0x3800000 + 128 * (s.dailyShown kind note).nextSlot) (s.dailyBytes kind note)])

theorem State.dailyForm_eq (s : State) (kind note : Nat) : s.dailyForm kind note =
    if (s.dailyQueued kind note).fbit pgDly DLY.CTL.QUEUE_EN then
      (s.dailyQueued kind note).reelPush ((s.dailyQueued kind note).fget pgDly DLY.CTL.QUEUE) 0x1B
        ((List.range 32).map (fun i => ofLeBytes (((s.dailyBytes kind note).drop (4 * i)).take 4)))
    else s.dailyQueued kind note := rfl

theorem State.dailyBytes_record (s : State) (kind note : Nat) : (s.dailyBytes kind note).length = 128 ∧
    crc32c ((s.dailyBytes kind note).take 124) = ofLeBytes ((s.dailyBytes kind note).drop 124) ∧
    ((s.dailyBytes kind note).drop 16).take 2 = leBytes note 2 := by
  obtain ⟨body, hb, hl, hn⟩ := s.dailyRecord_sealed s.nextSeq kind note
  rw [State.dailyBytes, hb]
  refine ⟨by rw [crcSealed_length, hl], crcSealed_good hl, ?_⟩
  rw [crcSealed, List.drop_append_of_le_length (by omega), List.take_append_of_le_length (by rw [List.length_drop]; omega), hn]

theorem State.dailyRecord_pages (s : State) (q kind note : Nat) : (s.dailyRecord q kind note).2.pages = s.pages := by
  unfold State.dailyRecord
  split
  next hdie =>
    split
    next hround =>
      have hr := congrArg (fun x => x.2.pages) hround
      rw [State.roundFree_pages] at hr
      refine Eq.trans hr.symm ?_
      split at hdie
      · exact (congrArg (fun x => x.2.pages) hdie).symm
      · exact (congrArg (fun x => x.2.pages) hdie).symm

theorem State.dailyRecord_same' (s : State) (q kind note : Nat) : State.SameBut [.free] s (s.dailyRecord q kind note).2 :=
  State.dailyRecord_same (State.SameOutside.refl _ s) rfl

theorem State.dailyShown_fw (s : State) (kind note : Nat) : (s.dailyShown kind note).fw = s.fw := by
  rw [State.dailyShown, State.fset_fw, s.dailyRecord_same' _ _ _ .fw (by decide)]

theorem State.dailyForm_queued (s : State) (kind note : Nat) :
    State.SameBut [.reels, .sram, .out, .page .reel] (s.dailyQueued kind note) (s.dailyForm kind note) := by
  rw [State.dailyForm_eq]
  exact State.SameOutside.ite (State.reelPush_same (State.SameOutside.refl _ _) rfl) (State.SameOutside.refl _ _)

/-- A record that is formed has the next number, and is the last that waits for the flash. -/
theorem State.dailyForm_formed (s : State) (kind note : Nat) :
    (s.dailyForm kind note).fget pgDly DLY.SEQ.SEQ = (s.fget pgDly DLY.SEQ.SEQ + 1) % 2 ^ 32 ∧
    (s.dailyForm kind note).hdr pgDly = s.hdr pgDly ∧ (s.dailyForm kind note).mono = s.mono ∧
    (s.dailyForm kind note).fw.lastDaily = s.fw.lastDaily ∧
    (s.dailyForm kind note).fw.queue.getLast? =
      some (.daily, .program (0x3800000 + 128 * (s.dailyShown kind note).nextSlot) (s.dailyBytes kind note)) := by
  have hsame := s.dailyForm_queued kind note
  have hpage : State.SamePage pgDly (s.dailyQueued kind note) (s.dailyForm kind note) := hsame (.page .dly) (by decide) pgDly rfl
  have hfw : (s.dailyForm kind note).fw = (s.dailyQueued kind note).fw := hsame .fw (by decide)
  refine ⟨?_, ?_, ?_, ?_, ?_⟩
  · rw [hpage.fget, State.dailyQueued, State.flashQueue_fget, State.dailyShown,
      State.fset_fget (by decide) (by simp only [DLY.SEQ.SEQ, State.nextSeq]; omega)]
    rfl
  · rw [hpage.1, State.dailyQueued, State.flashQueue, State.setFw_hdr, State.dailyShown, State.fset_hdr, State.hdr,
      State.dailyRecord_pages]
    rfl
  · rw [hsame .mono (by decide), State.dailyQueued, State.flashQueue_mono, State.dailyShown, State.fset_mono,
      s.dailyRecord_same' _ _ _ .mono (by decide)]
  · rw [hfw, State.dailyQueued, State.flashQueue_fw, State.dailyShown_fw]
  · rw [hfw, State.dailyQueued, State.flashQueue_fw]
    simp

/-! ### DAILIES_PERIOD (R528) -/

theorem exec_dailiesPeriod_on (h : s.boot.powered = true) : exec .dailiesPeriod s = .next s.dailiesPeriod :=
  congrArg Host.Outcome.next (State.live_on h _)

theorem State.dailySkip_same' (s : State) : State.SameBut [.fw, .out, .page .dly] s s.dailySkip :=
  State.dailySkip_same (State.SameOutside.refl _ s) rfl

theorem State.dailySkip_fget (h : DLY.CNT.SKIPPED.Apart f) : s.dailySkip.fget p f = s.fget p f := by
  unfold State.dailySkip
  extract_lets w
  split
  · rw [State.evt_fget, State.finc_fget_apart h, State.jobDrop, State.setFw_fget]
  · rfl

/-- The period has elapsed at an instant: a record that still waits is dropped, and the next one is formed. -/
def State.dailyNext (s : State) (i : Nat) : State :=
  ((s.advanceTo i).dailySkip.setFw (fun f => { f with lastDaily := (s.advanceTo i).mono })).dailyForm 0 0

theorem State.dailiesPeriod_go (h : (s.fbit pgDly DLY.CTL.EN && s.domOn 2) = true)
    (hi : i = s.fw.lastDaily + s.fget pgDly DLY.CTL.PERIOD_S * 1000000000) : s.dailiesPeriod = s.dailyNext i := by
  unfold State.dailiesPeriod
  rw [if_pos h, ← hi]
  rfl

theorem exec_dailiesPeriod_forms (hp : s.boot.powered = true) (h : (s.fbit pgDly DLY.CTL.EN && s.domOn 2) = true)
    (hi : i = s.fw.lastDaily + s.fget pgDly DLY.CTL.PERIOD_S * 1000000000) :
    ∃ (t : State) (bytes : List Nat) (slot : Nat), exec .dailiesPeriod s = .next t ∧ t.mono = max s.mono i ∧
      t.fw.lastDaily = max s.mono i ∧ t.fget pgDly DLY.SEQ.SEQ = (s.fget pgDly DLY.SEQ.SEQ + 1) % 2 ^ 32 ∧
      t.fw.queue.getLast? = some (.daily, .program (0x3800000 + 128 * slot) bytes) ∧ bytes.length = 128 ∧
      crc32c (bytes.take 124) = ofLeBytes (bytes.drop 124) ∧ slot < 65536 := by
  rw [exec_dailiesPeriod_on hp, State.dailiesPeriod_go h hi, State.dailyNext]
  have hmono : (s.advanceTo i).dailySkip.mono = max s.mono i := by
    rw [(s.advanceTo i).dailySkip_same' .mono (by decide), State.advanceTo_mono]
  have hseq : (s.advanceTo i).dailySkip.fget pgDly DLY.SEQ.SEQ = s.fget pgDly DLY.SEQ.SEQ := by
    rw [State.dailySkip_fget (by decide), State.advanceTo_fget]
  rw [State.advanceTo_mono]
  generalize (s.advanceTo i).dailySkip = v at *
  obtain ⟨hs, -, hm, hd, hq⟩ := (v.setFw (fun f => { f with lastDaily := max s.mono i })).dailyForm_formed 0 0
  obtain ⟨hlen, hcrc, -⟩ := (v.setFw (fun f => { f with lastDaily := max s.mono i })).dailyBytes_record 0 0
  exact ⟨_, _, _, rfl, by rw [hm, State.setFw_mono, hmono], hd, by rw [hs, State.setFw_fget, hseq], hq, hlen, hcrc,
    Nat.mod_lt _ (by decide)⟩

/-! ### READ and MARK (R532) -/

theorem State.cmdRun_dly_read (s : State) (m v : Nat) : s.cmdRun m pgDly 0x10 v = s.dailyRead := rfl

theorem State.cmdRun_dly_mark (s : State) (m v : Nat) : s.cmdRun m pgDly 0x11 v = (s.dailyForm 1 (v % 65536)).cmdDone pgDly := rfl

theorem exec_dlyMark_on (h : s.boot.powered = true) (m : Master) (note : BitVec 16) :
    exec (.dlyMark m note) s = .next (s.command m.id pgDly 0x11 note.toNat) := congrArg Host.Outcome.next (State.live_on h _)

theorem exec_dlyRead_on (h : s.boot.powered = true) (m : Master) :
    exec (.dlyRead m) s = .next (s.command m.id pgDly 0x10 0) := congrArg Host.Outcome.next (State.live_on h _)

theorem exec_dlyMark_forms (m : Master) (note : BitVec 16) (h : s.accepts m.id pgDly 0x11 note.toNat = true) :
    ∃ (t : State) (bytes : List Nat) (slot : Nat), exec (.dlyMark m note) s = .next t ∧ t.Done pgDly 0x11 m.id ∧
      t.Answers (.access m.id 0 0) ∧ t.fget pgDly DLY.SEQ.SEQ = (s.fget pgDly DLY.SEQ.SEQ + 1) % 2 ^ 32 ∧
      t.fw.queue.getLast? = some (.daily, .program (0x3800000 + 128 * slot) bytes) ∧ bytes.length = 128 ∧
      (bytes.drop 16).take 2 = leBytes note.toNat 2 := by
  have hn : note.toNat < 65536 := note.isLt
  rw [exec_dlyMark_on (State.accepts_powered h),
    State.command_eq h (by decide) (by omega) (.inr fun q _ => by unfold pgDly pgReel; omega), State.cmdRun_dly_mark,
    Nat.mod_eq_of_lt hn]
  have hrun : ((s.cmdStart pgDly 0x11 note.toNat m.id).hdr pgDly).run = some ⟨0x11, note.toNat, m.id⟩ := State.cmdStart_run s pgDly
  have hseq : (s.cmdStart pgDly 0x11 note.toNat m.id).fget pgDly DLY.SEQ.SEQ = s.fget pgDly DLY.SEQ.SEQ := rfl
  generalize s.cmdStart pgDly 0x11 note.toNat m.id = v at *
  obtain ⟨hs, hh, -, -, hq⟩ := v.dailyForm_formed 1 note.toNat
  obtain ⟨hlen, -, hnote⟩ := v.dailyBytes_record 1 note.toNat
  rw [← hh] at hrun
  obtain ⟨hdone, hans⟩ := State.ended_done hrun
  exact ⟨_, _, _, rfl, hdone, hans, by rw [State.ended_fget, hs, hseq], by rw [State.ended_fw, hq], hlen, hnote⟩

/-- The words of a record that READ shows. -/
def State.recordShown (s : State) (d : List Nat) (n : Nat) : State :=
  (List.range n).foldl (fun s i => s.fset pgDly (DLY.READ_DATA.WORD i) (ofLeBytes ((d.drop (4 * i)).take 4))) s

theorem State.recordShown_succ (s : State) (d : List Nat) (n : Nat) : s.recordShown d (n + 1) =
    (s.recordShown d n).fset pgDly (DLY.READ_DATA.WORD n) (ofLeBytes ((d.drop (4 * n)).take 4)) := by
  rw [State.recordShown, List.range_succ, List.foldl_append]
  rfl

theorem State.recordShown_hdr (s : State) (d : List Nat) (n p : Nat) : (s.recordShown d n).hdr p = s.hdr p := by
  induction n with
  | zero => rfl
  | succ n ih => rw [State.recordShown_succ, State.fset_hdr, ih]

theorem State.recordShown_word (s : State) (d : List Nat) (hn : n ≤ 32) (hi : i < n) :
    (s.recordShown d n).fget pgDly (DLY.READ_DATA.WORD i) = ofLeBytes ((d.drop (4 * i)).take 4) % 2 ^ 32 := by
  induction n with
  | zero => omega
  | succ n ih =>
    rw [State.recordShown_succ]
    by_cases h : i = n
    · rw [h, State.fget_fset_self _ _ _ _ (by simp [DLY.READ_DATA.WORD])]
      rfl
    · rw [State.fset_fget_apart ⟨by simp [DLY.READ_DATA.WORD], .inl (by simp only [DLY.READ_DATA.WORD]; omega)⟩,
        ih (by omega) (by omega)]

/-- READ finds an erased slot, a record with a bad CRC, or a good one, whose words show. -/
theorem State.dailyRead_eq {l : List Nat} {b : Bool} (h : s.flash.daily (s.fget pgDly DLY.READ_IDX.SLOT) = (l, b)) : s.dailyRead =
    if l.all (· = 0xFF) then s.cmdFail pgDly 0x30 else if !b then s.cmdFail pgDly 0x31 else (s.recordShown l 32).cmdDone pgDly := by
  unfold State.dailyRead
  rw [h]
  rfl

theorem exec_dlyRead_shows (m : Master) (l : List Nat) (b : Bool) (h : s.accepts m.id pgDly 0x10 0 = true)
    (hd : s.flash.daily (s.fget pgDly DLY.READ_IDX.SLOT) = (l, b)) : ∃ t : State, exec (.dlyRead m) s = .next t ∧
      t.Answers (.access m.id 0 0) ∧ (l.all (· = 0xFF) = true → t.Failed pgDly 0x10 m.id 0x30) ∧
      (l.all (· = 0xFF) = false → b = false → t.Failed pgDly 0x10 m.id 0x31) ∧
      (l.all (· = 0xFF) = false → b = true → t.Done pgDly 0x10 m.id ∧
        ∀ i, i < 32 → t.fget pgDly (DLY.READ_DATA.WORD i) = ofLeBytes ((l.drop (4 * i)).take 4) % 2 ^ 32) ∧
      State.SameBut [.out, .page .dly] s t := by
  rw [exec_dlyRead_on (State.accepts_powered h),
    State.command_eq h (by decide) (by decide) (.inr fun q _ => by unfold pgDly pgReel; omega), State.cmdRun_dly_read]
  have hrun : ((s.cmdStart pgDly 0x10 0 m.id).hdr pgDly).run = some ⟨0x10, 0, m.id⟩ := State.cmdStart_run s pgDly
  have hd : (s.cmdStart pgDly 0x10 0 m.id).flash.daily ((s.cmdStart pgDly 0x10 0 m.id).fget pgDly DLY.READ_IDX.SLOT) = (l, b) := hd
  have hsame : State.SameBut [.out, .page .dly] s ((s.cmdStart pgDly 0x10 0 m.id).dailyRead.emit (.access m.id 0 0)) :=
    State.emit_same (State.dailyRead_same (State.cmdStart_same (State.SameOutside.refl _ s) rfl rfl) rfl) rfl
  generalize s.cmdStart pgDly 0x10 0 m.id = v at *
  refine ⟨_, rfl, State.emit_answers _ _, fun he => ?_, fun he hb => ?_, fun he hb => ?_, hsame⟩
  · rw [State.dailyRead_eq hd, if_pos he]
    exact State.cmdFail_failed hrun
  · rw [State.dailyRead_eq hd, he, hb]
    exact State.cmdFail_failed hrun
  · rw [State.dailyRead_eq hd, he, hb]
    rw [← v.recordShown_hdr l 32] at hrun
    refine ⟨(State.ended_done hrun).1, fun i hi => ?_⟩
    exact State.ended_fget.trans (State.recordShown_word _ _ (Nat.le_refl _) hi)

/-! ### The obligation -/

/-- Settles O59: the flash and its hold-up check, the checkpoints and the records of DLY, one by one. -/
theorem flashAndDailiesWork : Obligations.FlashAndDailiesWork := by
  unfold Obligations.FlashAndDailiesWork
  refine fun s => ⟨fun hp h => ?_, fun j op r u hp hq hi hu => ⟨exec_flashOpIssue_goes hp hq hi, exec_flashOpIssue_waits hp hq hi, ?_⟩,
    fun ok hp h => ?_, fun j op r u hp hi hq hu => ⟨fun hj hr => ?_, fun hj hr => ?_, ?_, fun hj hop => ?_, ?_⟩,
    fun u v i => State.jobDone_confirm_shown, fun j i op r hp hw hq => exec_holdTimeout_fails hp hw hq, fun hp h => ?_,
    exec_ckptNow_starts, fun i hp hi go hgo => ⟨fun h => exec_wearCheckpoint_starts hp hi (hgo.symm.trans h), fun h => ?_⟩,
    fun i hp hi go hgo => ⟨fun h => exec_diagCheckpoint_starts hp hi (hgo.symm.trans h), fun h => ?_⟩,
    fun i hp hi => ⟨fun h => exec_dailiesPeriod_forms hp h hi, fun h => ?_⟩, exec_dlyRead_shows, exec_dlyMark_forms⟩
  · rw [exec_flashOpIssue_on hp, State.flashIssue_idle h]
  · rw [hu]
    exact exec_flashOpIssue_stays hp hq hi
  · rw [exec_flashOpDone_on hp, State.flashDone_idle h]
  · rw [exec_flashOpDone_on hp, State.flashDone_good hi hq, if_neg hj, if_pos hr, hu]
    rfl
  · rw [exec_flashOpDone_on hp, State.flashDone_good hi hq, if_neg hj, if_neg (by rw [hr]; decide), hu]
    rfl
  · rintro a d rfl rfl
    rw [hu]
    exact exec_flashOpDone_record hp hi hq
  · rw [exec_flashOpDone_on hp, State.flashDone_good hi hq, if_pos hj, hu]
    cases op with
    | program a d => exact absurd rfl (hop a d)
    | _ => rfl
  · obtain ⟨v, hexec, hfw, hrest⟩ := exec_flashOpDone_fails hp hi hq
    exact ⟨v, hexec, by rw [hfw, hu], hrest⟩
  · rw [exec_holdTimeout_on hp, State.holdTimeout_idle h]
  · rw [exec_wearCheckpoint_on hp, State.wearCheckpoint_eq s hi, if_neg (ne_true_of_eq_false (show s.wearGo = false from hgo.symm.trans h))]
  · rw [exec_diagCheckpoint_on hp, State.diagCheckpoint_eq s hi, if_neg (ne_true_of_eq_false (show s.diagGo = false from hgo.symm.trans h))]
  · rw [exec_dailiesPeriod_on hp, State.dailiesPeriod, if_neg (by rw [h]; decide)]

end Sys2Proof.Machine
end

section
/-! PROOFS. Update sessions and their blocks (R516 to R519, R529, R530). -/

namespace Sys2Proof.Machine

variable {s t u o : State} {d k i n p v w m c tg arg : Nat} {f g : Fld} {x : Session} {ws : List Nat}

theorem State.ended_word {z : Out} (a : Nat) : ((s.cmdDone p).emit z).word a = s.word a := by
  rw [State.emit_word]
  exact State.cmdDone_word s ..

/-! ### UPDATE_START (R519) -/

theorem exec_updateStart_on (h : s.boot.powered = true) (m : Master) (tg : Fin 4) :
    exec (.updateStart m tg) s = .next (s.command m.id pgFw 0x10 tg) := congrArg Host.Outcome.next (State.live_on h _)

theorem State.updateStart_eq (s : State) (tg n : Nat) : s.updateStart tg n =
    ((((s.setFw (fun f => { f with session := some { target := tg, issuer := n } })).fwrap pgFw FW.UPD_INFO.SESSION).fset
      pgFw FW.UPD_EXPECT.OFFSET 0).fset pgFw FW.STAT.STATE 1).fset pgFw FW.STAT.TARGET tg := rfl

/-- A session that is opened has the next number, and expects its first byte. -/
theorem State.updateStart_opened (s : State) (htg : tg < 4) (n : Nat) :
    (s.updateStart tg n).fw = { s.fw with session := some { target := tg, issuer := n } } ∧
    (s.updateStart tg n).fget pgFw FW.UPD_INFO.SESSION = (s.fget pgFw FW.UPD_INFO.SESSION + 1) % 65536 ∧
    (s.updateStart tg n).fget pgFw FW.UPD_EXPECT.OFFSET = 0 ∧ (s.updateStart tg n).fget pgFw FW.STAT.STATE = 1 ∧
    (s.updateStart tg n).fget pgFw FW.STAT.TARGET = tg := by
  rw [State.updateStart_eq]
  refine ⟨rfl, ?_, ?_, ?_, State.fset_fget (by decide) htg⟩
  · rw [State.fset_fget_apart (by decide), State.fset_fget_apart (by decide), State.fset_fget_apart (by decide), State.fwrap,
      State.fget_fset_self _ _ _ _ (by decide), State.setFw_fget]
    rfl
  · rw [State.fset_fget_apart (by decide), State.fset_fget_apart (by decide), State.fset_fget (by decide) (by decide)]
  · rw [State.fset_fget_apart (by decide), State.fset_fget (by decide) (by decide)]

theorem State.fwCmd_start (s : State) (m : Nat) (h : arg < 4) : s.fwCmd m 0x10 arg =
    (if arg = 1 ∨ arg = 2 then s.updateStart arg m else s).cmdDone pgFw := by
  unfold State.fwCmd
  dsimp only
  rw [if_pos rfl, Nat.mod_eq_of_lt h]
  simp

theorem exec_updateStart_opens (m : Master) (tg : Fin 4) (h : s.accepts m.id pgFw 0x10 tg = true) : ∃ t : State,
    exec (.updateStart m tg) s = .next t ∧ t.Done pgFw 0x10 m.id ∧ t.Answers (.access m.id 0 0) ∧
      (tg.val = 1 ∨ tg.val = 2 → t.fw = { s.fw with session := some { target := tg, issuer := m.id } } ∧
        t.fget pgFw FW.UPD_INFO.SESSION = (s.fget pgFw FW.UPD_INFO.SESSION + 1) % 65536 ∧
        t.fget pgFw FW.UPD_EXPECT.OFFSET = 0 ∧ t.fget pgFw FW.STAT.STATE = 1 ∧ t.fget pgFw FW.STAT.TARGET = tg) ∧
      (tg.val = 0 ∨ tg.val = 3 → t.fw = s.fw ∧ ∀ a, t.word a = s.word a) ∧ State.SameBut [.fw, .out, .page .fw] s t := by
  have htg : tg.val < 4 := tg.isLt
  rw [exec_updateStart_on (State.accepts_powered h), State.fw_command h (by decide) (by decide) (by omega), State.fwCmd_start _ _ htg]
  have hrun : ((s.cmdStart pgFw 0x10 tg m.id).hdr pgFw).run = some ⟨0x10, tg, m.id⟩ := State.cmdStart_run s pgFw
  have hfw : (s.cmdStart pgFw 0x10 tg m.id).fw = s.fw := rfl
  have hword (a : Nat) : (s.cmdStart pgFw 0x10 tg m.id).word a = s.word a := rfl
  have hget (f : Fld) : (s.cmdStart pgFw 0x10 tg m.id).fget pgFw f = s.fget pgFw f := State.cmdStart_fget ..
  have hsame : State.SameBut [.fw, .out, .page .fw] s (s.cmdStart pgFw 0x10 tg m.id) :=
    State.cmdStart_same (State.SameOutside.refl _ s) rfl rfl
  generalize s.cmdStart pgFw 0x10 tg m.id = v at *
  by_cases hn : tg.val = 1 ∨ tg.val = 2
  · rw [if_pos hn]
    have hdone := State.ended_done (show ((v.updateStart tg m.id).hdr pgFw).run = _ from hrun)
    obtain ⟨h1, h2, h3, h4, h5⟩ := v.updateStart_opened htg m.id
    refine ⟨_, rfl, hdone.1, hdone.2, fun _ => ⟨?_, ?_, ?_, ?_, ?_⟩, fun h => by omega, ?_⟩
    · rw [State.ended_fw, h1, hfw]
    · rw [State.ended_fget, h2, hget]
    · rw [State.ended_fget, h3]
    · rw [State.ended_fget, h4]
    · rw [State.ended_fget, h5]
    · exact State.emit_same (State.cmdDone_same (State.updateStart_same hsame rfl) rfl rfl) rfl
  · rw [if_neg hn]
    have hdone := State.ended_done hrun
    exact ⟨_, rfl, hdone.1, hdone.2, fun h => absurd h hn, fun _ => ⟨by rw [State.ended_fw, hfw], fun a => by rw [State.ended_word, hword]⟩,
      State.emit_same (State.cmdDone_same hsame rfl rfl) rfl⟩

/-! ### UPDATE_ABORT (R519) -/

theorem exec_updateAbort_on (h : s.boot.powered = true) (m : Master) :
    exec (.updateAbort m) s = .next (s.command m.id pgFw 0x11 0) := congrArg Host.Outcome.next (State.live_on h _)

theorem State.fwCmd_abort (s : State) (m v : Nat) : s.fwCmd m 0x11 v = s.updateAbort.cmdDone pgFw := rfl

/-- The operations of a job leave the queue, but for one that the flash executes. -/
theorem State.jobDrop_queue (s : State) (y : FlashJob → Bool) : (s.jobDrop y).fw.queue =
    if s.fw.issued = true then s.fw.queue.take 1 ++ (s.fw.queue.drop 1).filter (fun e => !y e.1)
    else s.fw.queue.filter (fun e => !y e.1) := by
  unfold State.jobDrop
  rw [State.setFw_fw]
  cases hq : s.fw.queue with
  | nil => simp [hq]
  | cons e r =>
    cases hi : s.fw.issued <;> cases hy : y e.1 <;> simp [hy]

theorem State.jobDrop_fw_session (s : State) (y : FlashJob → Bool) : (s.jobDrop y).fw.session = s.fw.session := by
  unfold State.jobDrop
  rw [State.setFw_fw]
  split
  · rfl
  · split
    · rfl
    · split <;> rfl

theorem exec_updateAbort_ends (m : Master) (h : s.accepts m.id pgFw 0x11 0 = true) : ∃ t : State,
    exec (.updateAbort m) s = .next t ∧ t.Done pgFw 0x11 m.id ∧ t.Answers (.access m.id 0 0) ∧ t.fw.session = none ∧
      t.fget pgFw FW.STAT.STATE = 0 ∧
      t.fw.queue = (if s.fw.issued = true then
        s.fw.queue.take 1 ++ (s.fw.queue.drop 1).filter (fun e => e.1 ≠ .update)
        else s.fw.queue.filter (fun e => e.1 ≠ .update)) ∧ State.SameBut [.fw, .out, .page .fw] s t := by
  rw [exec_updateAbort_on (State.accepts_powered h), State.fw_command h (by decide) (by decide) (by decide), State.fwCmd_abort]
  have hrun : ((s.cmdStart pgFw 0x11 0 m.id).updateAbort.hdr pgFw).run = some ⟨0x11, 0, m.id⟩ := State.cmdStart_run s pgFw
  have hfw : (s.cmdStart pgFw 0x11 0 m.id).fw = s.fw := rfl
  have hsame : State.SameBut [.fw, .out, .page .fw] s (s.cmdStart pgFw 0x11 0 m.id).updateAbort :=
    State.updateAbort_same (State.cmdStart_same (State.SameOutside.refl _ s) rfl rfl) rfl
  generalize s.cmdStart pgFw 0x11 0 m.id = v at *
  obtain ⟨hdone, hans⟩ := State.ended_done hrun
  have hne (e : FlashJob × FlashOp) : (!decide (e.1 = .update)) = decide (e.1 ≠ .update) := (decide_not ..).symm
  refine ⟨_, rfl, hdone, hans, ?_, ?_, ?_, State.emit_same (State.cmdDone_same hsame rfl rfl) rfl⟩
  · rw [State.ended_fw, State.updateAbort, State.fset_fw, State.jobDrop_fw_session]
    rfl
  · rw [State.ended_fget, State.updateAbort, State.fset_fget (by decide) (by decide)]
  · rw [State.ended_fw, State.updateAbort, State.fset_fw, State.jobDrop_queue, State.setFw_fw, hfw]
    simp only [hne]

/-! ### UPDATE_BLOCK (R516 to R518) -/

theorem exec_updateBlock_on (h : s.boot.powered = true) : exec .updateBlock s = .next s.updateBlock :=
  congrArg Host.Outcome.next (State.live_on h _)

theorem State.updateBlock_empty (h : (s.reel 1).packets = []) : s.updateBlock = s := by
  unfold State.updateBlock
  rw [h]
  rfl

theorem State.blockReject_shown (s : State) (h : n < 16) :
    (s.blockReject n).fget pgFw FW.UPD_CNT.REJECTS = min (s.fget pgFw FW.UPD_CNT.REJECTS + 1) 65535 ∧
    (s.blockReject n).fget pgFw FW.UPD_INFO.LAST_REJECT = n ∧ ((s.blockReject n).hdr pgFw).evt.getLsbD 8 = true ∧
    (s.blockReject n).fw = s.fw := by
  unfold State.blockReject
  refine ⟨?_, ?_, State.evt_set _ _ _ (by decide), ?_⟩
  · rw [State.evt_fget, State.fset_fget_apart (by decide), State.finc_fget (by decide)]
    rfl
  · rw [State.evt_fget, State.fset_fget (by decide) h]
  · rw [State.evt_fw, State.fset_fw, State.finc_fw]

/-- A word of a packet. -/
def packetWord (ws : List Nat) (i : Nat) : Nat := ws.getD i 0

/-- The bytes behind the header of a packet. -/
def blockBytes (ws : List Nat) : List Nat := (ws.drop 4).flatMap (fun v => leBytes v 4)

/-- The payload of an update block. -/
def blockData (ws : List Nat) : List Nat := (blockBytes ws).take (packetWord ws 2 % 4096)

/-- A packet is not a well-formed update block (R517). -/
def BlockBad (ws : List Nat) : Prop :=
  ws.length < 4 ∨ packetWord ws 0 / 2 ^ 18 ≠ 0 ∨ packetWord ws 2 / 4096 ≠ 0 ∨ packetWord ws 2 % 4096 = 0 ∨ 4080 < packetWord ws 2 % 4096 ∨
    ws.length ≠ 4 + (packetWord ws 2 % 4096 + 3) / 4 ∨ ∃ b ∈ (blockBytes ws).drop (packetWord ws 2 % 4096), b ≠ 0

/-- The session takes a block: the bytes that it has not received are added. -/
def Session.takes (x : Session) (ws : List Nat) (expect : Nat) : Session :=
  { x with delta := x.delta ++ (blockData ws).drop (expect - packetWord ws 1) }

/-- The image that a delta stream builds on: the running one. -/
def State.baseImage (s : State) (tg : Nat) : List Nat :=
  match s.runSlot tg with
  | some k => s.flash.image tg k
  | none => []

/-- The stream of a session goes on with a block that stands. -/
def State.blockTaken (s : State) (x : Session) (next : Nat) : State :=
  (s.fset pgFw FW.UPD_EXPECT.OFFSET next).setFw (fun f => { f with session := some x })

/-- A stream that has failed ends its update; one that has not is written. -/
def State.streamed (s : State) (x : Session) (o : DeltaOut) : State :=
  match o.fail with
  | some r => s.updateFail r
  | none => s.updateWrite x o

theorem blockBad_iff (ws : List Nat) : (ws.length < 4 || packetWord ws 0 / 2 ^ 18 ≠ 0 || packetWord ws 2 / 4096 ≠ 0 ||
    packetWord ws 2 % 4096 = 0 || 4080 < packetWord ws 2 % 4096 || ws.length ≠ 4 + (packetWord ws 2 % 4096 + 3) / 4 ||
    ((blockBytes ws).drop (packetWord ws 2 % 4096)).any (· ≠ 0)) = true ↔ BlockBad ws := by
  unfold BlockBad
  simp only [Bool.or_eq_true, decide_eq_true_eq, List.any_eq_true, or_assoc]

/-- A packet without a session is rejected. -/
theorem State.updateBlock_alone (hne : (s.reel 1).packets ≠ []) (ht : s.takePacket 1 = (ws, u)) (hx : u.fw.session = none) :
    s.updateBlock = u.blockReject 1 := by
  unfold State.updateBlock
  rw [if_neg (by simpa using hne), ht]
  dsimp only
  rw [hx]

/-- What a session makes of a packet: rejected for its session, its form, its CRC or a gap; ignored when all of it stands
already; else taken. -/
theorem State.updateBlock_eq (hne : (s.reel 1).packets ≠ []) (ht : s.takePacket 1 = (ws, u)) (hx : u.fw.session = some x) :
    s.updateBlock =
      if x.ended || packetWord ws 0 % 65536 ≠ u.fget pgFw FW.UPD_INFO.SESSION || bitsOf (packetWord ws 0) 16 2 ≠ x.target then
        u.blockReject 1
      else if ws.length < 4 || packetWord ws 0 / 2 ^ 18 ≠ 0 || packetWord ws 2 / 4096 ≠ 0 || packetWord ws 2 % 4096 = 0 ||
          4080 < packetWord ws 2 % 4096 || ws.length ≠ 4 + (packetWord ws 2 % 4096 + 3) / 4 ||
          ((blockBytes ws).drop (packetWord ws 2 % 4096)).any (· ≠ 0) then u.blockReject 2
      else if crc32c (blockData ws) ≠ packetWord ws 3 then u.blockReject 3
      else if u.fget pgFw FW.UPD_EXPECT.OFFSET < packetWord ws 1 then u.blockReject 4
      else if packetWord ws 1 + packetWord ws 2 % 4096 ≤ u.fget pgFw FW.UPD_EXPECT.OFFSET then u.finc pgFw FW.UPD_CNT.DUPS
      else (u.blockTaken (x.takes ws (u.fget pgFw FW.UPD_EXPECT.OFFSET)) (packetWord ws 1 + packetWord ws 2 % 4096)).streamed
        (x.takes ws (u.fget pgFw FW.UPD_EXPECT.OFFSET))
        (deltaRun ((u.blockTaken (x.takes ws (u.fget pgFw FW.UPD_EXPECT.OFFSET))
            (packetWord ws 1 + packetWord ws 2 % 4096)).baseImage x.target)
          (slotSize x.target) (x.takes ws (u.fget pgFw FW.UPD_EXPECT.OFFSET)).delta) := by
  unfold State.updateBlock
  rw [if_neg (by simpa using hne), ht]
  dsimp only
  rw [hx]
  rfl

theorem State.cmdEnd_reason (s : State) (p op n st reason : Nat) : ((s.cmdEnd p op n st reason).hdr p).cmdReason = reason := by
  unfold State.cmdEnd
  simp

/-- An update that fails ends its session, with its reason at the command that opened it. -/
theorem State.updateFail_shown (hx : s.fw.session = some x) (n : Nat) : (s.updateFail n).fw.session = none ∧
    (s.updateFail n).fget pgFw FW.STAT.STATE = 4 ∧ ((s.updateFail n).hdr pgFw).cmdReason = n := by
  unfold State.updateFail
  rw [hx]
  dsimp only
  refine ⟨?_, ?_, State.cmdEnd_reason ..⟩
  · rw [State.cmdEnd_fw, State.fset_fw, State.jobDrop_fw_session]
    rfl
  · rw [State.cmdEnd_fget, State.fset_fget (by decide) (by decide)]

section

variable (hne : (s.reel 1).packets ≠ []) (ht : s.takePacket 1 = (ws, u)) (hx : u.fw.session = some x)

include hne ht hx

theorem State.updateBlock_foreign (h : x.ended = true ∨ packetWord ws 0 % 65536 ≠ u.fget pgFw FW.UPD_INFO.SESSION ∨
    bitsOf (packetWord ws 0) 16 2 ≠ x.target) : s.updateBlock = u.blockReject 1 := by
  rw [State.updateBlock_eq hne ht hx, if_pos (by simpa [or_assoc] using h)]

variable (he : x.ended = false) (hs : packetWord ws 0 % 65536 = u.fget pgFw FW.UPD_INFO.SESSION)
  (htg : bitsOf (packetWord ws 0) 16 2 = x.target)

include he hs htg

theorem State.updateBlock_bad (h : BlockBad ws) : s.updateBlock = u.blockReject 2 := by
  rw [State.updateBlock_eq hne ht hx, if_neg (by simp [he, hs, htg]), if_pos ((blockBad_iff ws).mpr h)]

variable (hb : ¬BlockBad ws)

include hb

theorem State.updateBlock_good : s.updateBlock =
    if crc32c (blockData ws) ≠ packetWord ws 3 then u.blockReject 3
    else if u.fget pgFw FW.UPD_EXPECT.OFFSET < packetWord ws 1 then u.blockReject 4
    else if packetWord ws 1 + packetWord ws 2 % 4096 ≤ u.fget pgFw FW.UPD_EXPECT.OFFSET then u.finc pgFw FW.UPD_CNT.DUPS
    else (u.blockTaken (x.takes ws (u.fget pgFw FW.UPD_EXPECT.OFFSET)) (packetWord ws 1 + packetWord ws 2 % 4096)).streamed
      (x.takes ws (u.fget pgFw FW.UPD_EXPECT.OFFSET))
      (deltaRun ((u.blockTaken (x.takes ws (u.fget pgFw FW.UPD_EXPECT.OFFSET))
          (packetWord ws 1 + packetWord ws 2 % 4096)).baseImage x.target)
        (slotSize x.target) (x.takes ws (u.fget pgFw FW.UPD_EXPECT.OFFSET)).delta) := by
  rw [State.updateBlock_eq hne ht hx, if_neg (by simp [he, hs, htg]), if_neg (fun h => hb ((blockBad_iff ws).mp h))]

end

/-- What becomes of a packet for the open session (R517, R518). -/
def State.BlockOutcome (s u : State) (ws : List Nat) (x : Session) : Prop :=
  (x.ended = true ∨ packetWord ws 0 % 65536 ≠ u.fget pgFw FW.UPD_INFO.SESSION ∨ bitsOf (packetWord ws 0) 16 2 ≠ x.target →
    exec .updateBlock s = .next (u.blockReject 1)) ∧
  (x.ended = false → packetWord ws 0 % 65536 = u.fget pgFw FW.UPD_INFO.SESSION → bitsOf (packetWord ws 0) 16 2 = x.target →
    (BlockBad ws → exec .updateBlock s = .next (u.blockReject 2)) ∧
    (¬BlockBad ws → crc32c (blockData ws) ≠ packetWord ws 3 → exec .updateBlock s = .next (u.blockReject 3)) ∧
    (¬BlockBad ws → crc32c (blockData ws) = packetWord ws 3 → u.fget pgFw FW.UPD_EXPECT.OFFSET < packetWord ws 1 →
      exec .updateBlock s = .next (u.blockReject 4)) ∧
    (¬BlockBad ws → crc32c (blockData ws) = packetWord ws 3 →
      packetWord ws 1 + packetWord ws 2 % 4096 ≤ u.fget pgFw FW.UPD_EXPECT.OFFSET →
      exec .updateBlock s = .next (u.finc pgFw FW.UPD_CNT.DUPS)) ∧
    (∀ (y : Session) (v : State) (base : List Nat) (o : DeltaOut), ¬BlockBad ws → crc32c (blockData ws) = packetWord ws 3 →
      packetWord ws 1 ≤ u.fget pgFw FW.UPD_EXPECT.OFFSET →
      u.fget pgFw FW.UPD_EXPECT.OFFSET < packetWord ws 1 + packetWord ws 2 % 4096 →
      y = x.takes ws (u.fget pgFw FW.UPD_EXPECT.OFFSET) →
      v = u.blockTaken y (packetWord ws 1 + packetWord ws 2 % 4096) → base = v.baseImage x.target →
      o = deltaRun base (slotSize x.target) y.delta →
      (∀ r, o.fail = some r → exec .updateBlock s = .next (v.updateFail r) ∧ (v.updateFail r).fw.session = none ∧
        (v.updateFail r).fget pgFw FW.STAT.STATE = 4 ∧ ((v.updateFail r).hdr pgFw).cmdReason = r) ∧
      (o.fail = none → exec .updateBlock s = .next (v.updateWrite y o))))

theorem exec_updateBlock_session (hp : s.boot.powered = true) (hne : (s.reel 1).packets ≠ []) (ht : s.takePacket 1 = (ws, u))
    (hx : u.fw.session = some x) : s.BlockOutcome u ws x := by
  unfold State.BlockOutcome
  rw [exec_updateBlock_on hp]
  refine ⟨fun h => by rw [State.updateBlock_foreign hne ht hx h], fun he hs htg => ⟨fun hb => ?_, fun hb hc => ?_, fun hb hc hgap => ?_,
    fun hb hc hdup => ?_, fun y v base o hb hc hle hlt hy hv hbase ho => ?_⟩⟩
  · rw [State.updateBlock_bad hne ht hx he hs htg hb]
  · rw [State.updateBlock_good hne ht hx he hs htg hb, if_pos hc]
  · rw [State.updateBlock_good hne ht hx he hs htg hb, if_neg (not_not.mpr hc), if_pos hgap]
  · rw [State.updateBlock_good hne ht hx he hs htg hb, if_neg (not_not.mpr hc), if_neg (by omega), if_pos hdup]
  · rw [State.updateBlock_good hne ht hx he hs htg hb, if_neg (not_not.mpr hc), if_neg (by omega), if_neg (by omega), ← hy, ← hv,
      ← hbase, ← ho]
    have hsession : v.fw.session = some y := by rw [hv]; rfl
    refine ⟨fun n hf => ⟨?_, State.updateFail_shown hsession n⟩, fun hf => ?_⟩
    · rw [State.streamed, hf]
    · rw [State.streamed, hf]

end Sys2Proof.Machine
end

section
/-! PROOFS. Activation, handover, confirmation and one-time-programmable storage (R511, R520 to R522, R529, R530). -/

namespace Sys2Proof.Machine

variable {s t u o : State} {k i n p q v w m c tg arg : Nat} {f g : Fld} {img : List Nat}

/-! ### ACTIVATE (R520) -/

theorem exec_fwActivate_on (h : s.boot.powered = true) (m : Master) :
    exec (.fwActivate m) s = .next (s.command m.id pgFw 0x12 0) := congrArg Host.Outcome.next (State.live_on h _)

theorem State.fwCmd_activate (s : State) (m v : Nat) : s.fwCmd m 0x12 v = s := rfl

theorem exec_fwActivate_runs (m : Master) (h : s.accepts m.id pgFw 0x12 0 = true) : ∃ t : State, exec (.fwActivate m) s = .next t ∧
    t.Runs pgFw 0x12 0 m.id ∧ t.Answers (.access m.id 0 0) ∧ (∀ a, t.word a = s.word a) ∧ State.SameBut [.out, .page .fw] s t := by
  rw [exec_fwActivate_on (State.accepts_powered h), State.fw_command h (by decide) (by decide) (by decide), State.fwCmd_activate]
  exact ⟨_, rfl, (State.cmdStart_runs s pgFw).emit _, State.emit_answers _ _,
    fun a => by rw [State.emit_word, State.cmdStart_word],
    State.emit_same (State.cmdStart_same (State.SameOutside.refl _ s) rfl rfl) rfl⟩

theorem exec_activateDone_on (h : s.boot.powered = true) : exec .activateDone s = .next s.activateDone :=
  congrArg Host.Outcome.next (State.live_on h _)

theorem State.activateDone_idle (h : s.running pgFw 0x12 = false) : s.activateDone = s := by
  unfold State.activateDone
  rw [h]
  rfl

theorem imageFail_le {o : OtpSt} (h : imageFail o tg img = some n) : n ≤ 5 := by
  unfold imageFail at h
  extract_lets hdr body key at h
  split_ifs at h <;> simp only [Option.some.injEq] at h <;> omega

/-- The verified image is in the other bank. -/
def State.imageLoaded (s : State) (tg : Nat) (img : List Nat) : State :=
  (s.setBank tg (1 - s.bankNow tg) img).fset pgFw FW.STAT.STATE 3

theorem State.activateDone_loads (h : s.running pgFw 0x12 = true) (htg : tg = s.fget pgFw FW.STAT.TARGET)
    (himg : img = s.flash.image tg (s.inactiveSlot tg)) (hok : imageFail s.otp tg img = none) :
    s.activateDone = (s.imageLoaded tg img).cmdDone pgFw := by
  unfold State.activateDone
  rw [h]
  dsimp only
  rw [← htg, ← himg, hok]
  rfl

theorem State.activateDone_fails (h : s.running pgFw 0x12 = true) (htg : tg = s.fget pgFw FW.STAT.TARGET)
    (himg : img = s.flash.image tg (s.inactiveSlot tg)) (hbad : imageFail s.otp tg img = some n) :
    s.activateDone = (s.fset pgFw FW.UPD_INFO.LAST_FAIL n).cmdFail pgFw 0x30 := by
  unfold State.activateDone
  rw [h]
  dsimp only
  rw [← htg, ← himg, hbad]
  rfl

theorem State.bankImage_of_boot (h : t.boot = s.boot) (tg b : Nat) : t.bankImage tg b = s.bankImage tg b := by
  unfold State.bankImage
  rw [h]

theorem State.runSlot_of_boot (h : t.boot = s.boot) (tg : Nat) : t.runSlot tg = s.runSlot tg := by
  unfold State.runSlot
  rw [h]

theorem State.inactiveSlot_of_boot (h : t.boot = s.boot) (tg : Nat) : t.inactiveSlot tg = s.inactiveSlot tg := by
  unfold State.inactiveSlot
  rw [State.runSlot_of_boot h]

theorem State.cmdFail_boot (s : State) (q reason : Nat) : (s.cmdFail q reason).boot = s.boot := by
  unfold State.cmdFail
  split <;> simp

theorem exec_activateDone_ends (hp : s.boot.powered = true) (hrun : (s.hdr pgFw).run = some ⟨0x12, v, i⟩)
    (htg : tg = s.fget pgFw FW.STAT.TARGET) (himg : img = s.flash.image tg (s.inactiveSlot tg)) : ∃ t : State,
    exec .activateDone s = .next t ∧
      (imageFail s.otp tg img = none → t.Done pgFw 0x12 i ∧ t.fget pgFw FW.STAT.STATE = 3 ∧
        t.bankImage tg (1 - s.bankNow tg) = img) ∧
      (∀ r, imageFail s.otp tg img = some r → t.Failed pgFw 0x12 i 0x30 ∧ t.fget pgFw FW.UPD_INFO.LAST_FAIL = r ∧
        t.boot = s.boot) ∧ State.SameBut [.boot, .out, .page .fw] s t := by
  have hr : s.running pgFw 0x12 = true := State.running_of_run_self hrun
  refine ⟨_, exec_activateDone_on hp, fun hok => ?_, fun n hbad => ?_, State.activateDone_same (State.SameOutside.refl _ s) rfl⟩
  · rw [State.activateDone_loads hr htg himg hok]
    refine ⟨State.cmdDone_done _ _ (show ((s.imageLoaded tg img).hdr pgFw).run = _ from hrun), ?_, ?_⟩
    · rw [State.cmdDone_fget]
      exact State.fset_fget (by decide) (by decide)
    · rw [State.bankImage_of_boot (State.cmdDone_boot ..)]
      exact SMap.read_write_self ..
  · have hn := imageFail_le hbad
    rw [State.activateDone_fails hr htg himg hbad]
    refine ⟨State.cmdFail_failed (show ((s.fset pgFw FW.UPD_INFO.LAST_FAIL n).hdr pgFw).run = _ from hrun), ?_, ?_⟩
    · rw [State.cmdFail_fget, State.fset_fget (by decide) (Nat.lt_of_le_of_lt hn (by decide))]
    · rw [State.cmdFail_boot, State.fset_boot]

/-! ### Fetch moves between the banks (R520) -/

/-- The bank that a processor fetches, in STAT. -/
def bankFld (tg : Nat) : Fld := if tg = 1 then FW.STAT.MGT_BANK else FW.STAT.SAF_BANK

/-- The version that a processor runs. -/
def versionFld (tg : Nat) : Fld := if tg = 1 then FW.VER_MGT.VERSION else FW.VER_SAF.VERSION

/-- The bank moves, and with it the slot that the processor runs from. -/
def State.bankMoved (s : State) (tg : Nat) : State :=
  (s.fset pgFw (bankFld tg) (1 - s.bankNow tg)).setRunSlot tg (some (s.inactiveSlot tg))

theorem State.flipBank_eq (s : State) (tg : Nat) : s.flipBank tg = (s.bankMoved tg).fset pgFw (versionFld tg)
    (imgField ((s.bankMoved tg).bankImage tg ((s.bankMoved tg).bankNow tg)) 12 4) := rfl

theorem State.bankMoved_fget (s : State) (tg : Nat) (f : Fld) :
    (s.bankMoved tg).fget pgFw f = (s.fset pgFw (bankFld tg) (1 - s.bankNow tg)).fget pgFw f :=
  State.fget_of_pages (State.setRunSlot_pages ..) pgFw f

theorem State.bankMoved_bankNow (s : State) (tg : Nat) : (s.bankMoved tg).bankNow tg = 1 - s.bankNow tg := by
  have h : (bankFld tg).lo + (bankFld tg).w ≤ 32 ∧ (bankFld tg).w = 1 := by
    unfold bankFld
    split <;> decide
  refine (s.bankMoved_fget tg (bankFld tg)).trans (State.fset_fget h.1 ?_)
  rw [h.2]
  omega

theorem State.bankMoved_bankImage (s : State) (tg b : Nat) : (s.bankMoved tg).bankImage tg b = s.bankImage tg b := by
  unfold State.bankImage
  rw [State.bankMoved, State.setRunSlot_banks, State.fset_boot]

theorem bankFld_apart_version (tg : Nat) : (versionFld tg).Apart (bankFld tg) := by
  unfold versionFld bankFld
  split <;> decide

theorem State.flipBank_bankNow (s : State) (tg : Nat) : (s.flipBank tg).bankNow tg = 1 - s.bankNow tg := by
  rw [State.flipBank_eq, ← State.bankMoved_bankNow]
  exact State.fset_fget_apart (bankFld_apart_version tg)

theorem State.flipBank_runSlot (s : State) (tg : Nat) : (s.flipBank tg).runSlot tg = some (s.inactiveSlot tg) := by
  rw [State.flipBank_eq]
  exact State.setRunSlot_runSlot ..

theorem State.flipBank_version (s : State) (tg : Nat) : (s.flipBank tg).fget pgFw (versionFld tg) =
    imgField (s.bankImage tg (1 - s.bankNow tg)) 12 4 % 2 ^ 32 := by
  have h : (versionFld tg).lo + (versionFld tg).w ≤ 32 ∧ (versionFld tg).w = 32 := by
    unfold versionFld
    split <;> decide
  rw [State.flipBank_eq, State.fget_fset_self _ _ _ _ h.1, h.2, State.bankMoved_bankNow, State.bankMoved_bankImage]

theorem State.flipBank_hdr (s : State) (tg p : Nat) : (s.flipBank tg).hdr p = s.hdr p := by
  rw [State.flipBank_eq, State.fset_hdr, State.hdr, State.bankMoved, State.setRunSlot_pages]
  rfl

theorem trialFld_apart (tg : Nat) : (trialFld tg).Apart (bankFld tg) ∧ (trialFld tg).Apart (versionFld tg) ∧
    (trialFld tg).lo + (trialFld tg).w ≤ 32 ∧ (trialFld tg).w = 1 ∧ FW.STAT.STATE.Apart (trialFld tg) ∧
    FW.STAT.REVERTED.Apart (trialFld tg) := by
  unfold trialFld bankFld versionFld
  split <;> decide

theorem stat_apart (tg : Nat) : FW.STAT.STATE.Apart (bankFld tg) ∧ FW.STAT.REVERTED.Apart (bankFld tg) ∧
    FW.STAT.STATE.Apart (versionFld tg) ∧ FW.STAT.REVERTED.Apart (versionFld tg) := by
  unfold bankFld versionFld
  split <;> decide

/-! ### HANDOVER (R520) -/

theorem State.writeDir_fw (s : State) (j : FlashJob) (z : DirCopy → DirCopy) : ∃ l : List FlashOp,
    (s.writeDir j z).fw = { s.fw with queue := s.fw.queue ++ l.map (fun o => (j, o)) } := ⟨_, rfl⟩

theorem State.writeDir_pages (s : State) (j : FlashJob) (z : DirCopy → DirCopy) : (s.writeDir j z).pages = s.pages := rfl

/-- Fetch has moved: the processor is on trial, or back from it, and step 5 is waited for or not. -/
def State.trialSet (s : State) (tg : Nat) (due : Option (Nat × Nat)) (trial : Nat) : State :=
  ((s.flipBank tg).setFw (fun f => { f with handover := due })).fset pgFw (trialFld tg) trial

theorem State.trialSet_shown (s : State) (tg : Nat) (due : Option (Nat × Nat)) (h : n < 2) :
    (s.trialSet tg due n).bankNow tg = 1 - s.bankNow tg ∧ (s.trialSet tg due n).runSlot tg = some (s.inactiveSlot tg) ∧
    (s.trialSet tg due n).fget pgFw (trialFld tg) = n ∧
    (s.trialSet tg due n).fget pgFw (versionFld tg) = imgField (s.bankImage tg (1 - s.bankNow tg)) 12 4 % 2 ^ 32 ∧
    (s.trialSet tg due n).fw.handover = due := by
  obtain ⟨hbank, hver, hfit, hw, -, -⟩ := trialFld_apart tg
  refine ⟨?_, s.flipBank_runSlot tg, State.fset_fget hfit (by rw [hw]; exact h), ?_, rfl⟩
  · rw [← s.flipBank_bankNow tg]
    exact (State.fset_fget_apart hbank).trans (State.setFw_fget ..)
  · rw [← s.flipBank_version tg]
    exact (State.fset_fget_apart hver).trans (State.setFw_fget ..)

theorem State.trialSet_stateVer (s : State) (tg : Nat) (due : Option (Nat × Nat)) (n : Nat) :
    (s.trialSet tg due n).boot.stateVer = s.boot.stateVer := by
  rw [State.trialSet, State.fset_boot]
  change (s.flipBank tg).boot.stateVer = _
  rw [State.flipBank_eq, State.fset_boot, State.bankMoved, State.setRunSlot]
  split <;> rfl

theorem State.trialSet_hdr (s : State) (tg : Nat) (due : Option (Nat × Nat)) (n p : Nat) : (s.trialSet tg due n).hdr p = s.hdr p := by
  rw [State.trialSet, State.fset_hdr, State.setFw_hdr, State.flipBank_hdr]

theorem State.trialSet_same (h : State.SameOutside m o s) (k : partsMask [.fw, .boot, .page .fw] ||| m = m)
    (tg : Nat) (due : Option (Nat × Nat)) (n : Nat) : State.SameOutside m o (s.trialSet tg due n) :=
  State.fset_same (State.setFw_same (State.flipBank_same h (mask_trans rfl k)) (mask_trans rfl k)) (mask_trans rfl k) (mask_trans rfl k)

/-- The end of a handover's step 4, or of a return: REVERTED, the event, and the directory's TRIAL. -/
def State.trialTold (s : State) (tg reverted flag : Nat) (trial : Bool) : State :=
  ((s.fset pgFw FW.STAT.REVERTED reverted).evt pgFw flag).writeDir .trial (DirCopy.setTrial tg trial)

theorem State.trialTold_fget (h : FW.STAT.REVERTED.Apart f) (tg n i : Nat) (b : Bool) :
    (s.trialTold tg n i b).fget p f = s.fget p f := by
  rw [State.trialTold, State.fget_of_pages (State.writeDir_pages ..), State.evt_fget, State.fset_fget_apart h]

theorem State.trialTold_shown (s : State) (tg : Nat) (b : Bool) (hn : n < 2) (hi : i < 32) :
    (s.trialTold tg n i b).fget pgFw FW.STAT.REVERTED = n ∧ ((s.trialTold tg n i b).hdr pgFw).evt.getLsbD i = true ∧
    (s.trialTold tg n i b).fw.handover = s.fw.handover ∧ (s.trialTold tg n i b).boot = s.boot ∧
    ((s.trialTold tg n i b).hdr pgFw).run = (s.hdr pgFw).run := by
  have hpages : (s.trialTold tg n i b).pages = ((s.fset pgFw FW.STAT.REVERTED n).evt pgFw i).pages := rfl
  have hhdr : (s.trialTold tg n i b).hdr pgFw = ((s.fset pgFw FW.STAT.REVERTED n).evt pgFw i).hdr pgFw := rfl
  refine ⟨?_, ?_, ?_, ?_, ?_⟩
  · rw [State.fget_of_pages hpages, State.evt_fget, State.fset_fget (by decide) hn]
  · rw [hhdr]
    exact State.evt_set _ _ _ hi
  · obtain ⟨l, h⟩ := ((s.fset pgFw FW.STAT.REVERTED n).evt pgFw i).writeDir_fw .trial (DirCopy.setTrial tg b)
    rw [State.trialTold, h, State.evt_fw, State.fset_fw]
  · exact (State.evt_boot ..).trans (State.fset_boot ..)
  · rw [hhdr, State.evt_hdr_run, State.fset_hdr]

theorem State.trialTold_same (h : State.SameOutside m o s) (k : partsMask [.fw, .out, .page .fw] ||| m = m) (tg n i : Nat) (b : Bool) :
    State.SameOutside m o (s.trialTold tg n i b) :=
  State.writeDir_same (State.evt_same (State.fset_same h (mask_trans rfl k) (mask_trans rfl k)) (mask_trans rfl k) (mask_trans rfl k))
    (mask_trans rfl k)

/-- The old image has written the version of its state (R520). -/
theorem State.fwHandover_eq (s : State) (tg ver : Nat) (hi : i = if tg = 1 then s.mono + 100000000 else s.safe.handover.getD s.mono) :
    s.fwHandover tg ver =
      (((s.stateVersion tg ver).trialSet tg (some (tg, i)) 1).fset pgFw FW.STAT.STATE 0).trialTold tg 0 11 true := by
  unfold State.fwHandover
  dsimp only
  rw [← hi]
  rfl

/-- Fetch is at the new image. -/
theorem State.fwHandover_shown (s : State) (tg ver : Nat)
    (hi : i = if tg = 1 then s.mono + 100000000 else s.safe.handover.getD s.mono) :
    SMap.read 0 (s.fwHandover tg ver).boot.stateVer tg = ver ∧ (s.fwHandover tg ver).bankNow tg = 1 - s.bankNow tg ∧
    (s.fwHandover tg ver).runSlot tg = some (s.inactiveSlot tg) ∧ (s.fwHandover tg ver).fget pgFw (trialFld tg) = 1 ∧
    (s.fwHandover tg ver).fget pgFw FW.STAT.STATE = 0 ∧ (s.fwHandover tg ver).fget pgFw FW.STAT.REVERTED = 0 ∧
    ((s.fwHandover tg ver).hdr pgFw).evt.getLsbD 11 = true ∧
    (s.fwHandover tg ver).fget pgFw (versionFld tg) = imgField (s.bankImage tg (1 - s.bankNow tg)) 12 4 % 2 ^ 32 ∧
    (s.fwHandover tg ver).fw.handover = some (tg, i) ∧ ((s.fwHandover tg ver).hdr pgFw).run = (s.hdr pgFw).run := by
  obtain ⟨-, -, -, -, htstate, htrev⟩ := trialFld_apart tg
  obtain ⟨hbstate, hbrev, hvstate, hvrev⟩ := stat_apart tg
  obtain ⟨hbank, hslot, htrial, hver, hdue⟩ := (s.stateVersion tg ver).trialSet_shown tg (some (tg, i)) (n := 1) (by decide)
  have hrun := (s.stateVersion tg ver).trialSet_hdr tg (some (tg, i)) 1 pgFw
  have hstate := State.trialSet_stateVer (s.stateVersion tg ver) tg (some (tg, i)) 1
  rw [State.fwHandover_eq s tg ver hi]
  generalize (s.stateVersion tg ver).trialSet tg (some (tg, i)) 1 = y at *
  obtain ⟨hrev, hevt, hho, hboot, hh⟩ := (y.fset pgFw FW.STAT.STATE 0).trialTold_shown tg true (n := 0) (i := 11) (by decide) (by decide)
  refine ⟨?_, ?_, ?_, ?_, ?_, hrev, hevt, ?_, hho.trans hdue, ?_⟩
  · rw [hboot, State.fset_boot, hstate]
    exact SMap.read_write_self ..
  · exact ((State.trialTold_fget hbrev ..).trans (State.fset_fget_apart hbstate)).trans hbank
  · rw [State.runSlot_of_boot (hboot.trans (State.fset_boot ..)), hslot]
    rfl
  · rw [State.trialTold_fget htrev, State.fset_fget_apart htstate, htrial]
  · rw [State.trialTold_fget (by decide), State.fset_fget (by decide) (by decide)]
  · rw [State.trialTold_fget hvrev, State.fset_fget_apart hvstate, hver]
    rfl
  · rw [hh, State.fset_hdr, hrun]
    rfl

theorem exec_fwHandover_on (h : s.boot.powered = true) (m : Master) (tg : Fin 4) (ver : BitVec 16) :
    exec (.fwHandover m tg ver) s = .next ((s.stateVersion tg ver.toNat).command m.id pgFw 0x13 tg) :=
  congrArg Host.Outcome.next (State.live_on h _)

theorem State.fwCmd_handover (s : State) (m : Nat) (h : arg < 4) :
    s.fwCmd m 0x13 arg = (s.fwHandover arg (SMap.read 0 s.boot.stateVer arg)).cmdDone pgFw := by
  have ha : arg % 4 = arg := Nat.mod_eq_of_lt h
  rw [← ha]
  simp [State.fwCmd]

theorem exec_fwHandover_moves (m : Master) (tg : Fin 4) (ver : BitVec 16)
    (h : (s.stateVersion tg ver.toNat).accepts m.id pgFw 0x13 tg = true) : ∃ t : State,
      exec (.fwHandover m tg ver) s = .next t ∧ t.Done pgFw 0x13 m.id ∧ t.Answers (.access m.id 0 0) ∧
      SMap.read 0 t.boot.stateVer tg = ver.toNat ∧ t.bankNow tg = 1 - s.bankNow tg ∧
      t.runSlot tg = some (s.inactiveSlot tg) ∧ t.fget pgFw (trialFld tg) = 1 ∧ t.fget pgFw FW.STAT.STATE = 0 ∧
      t.fget pgFw FW.STAT.REVERTED = 0 ∧ (t.hdr pgFw).evt.getLsbD 11 = true ∧
      t.fget pgFw (versionFld tg) = imgField (s.bankImage tg (1 - s.bankNow tg)) 12 4 % 2 ^ 32 ∧
      t.fw.handover = some (↑tg, if tg.val = 1 then s.mono + 100000000 else s.safe.handover.getD s.mono) ∧
      State.SameBut [.fw, .boot, .out, .page .fw] s t := by
  have htg : tg.val < 4 := tg.isLt
  have hp : s.boot.powered = true := State.accepts_powered (s := s.stateVersion tg ver.toNat) h
  rw [exec_fwHandover_on hp, State.fw_command h (by decide) (by decide) (by omega), State.fwCmd_handover _ _ htg]
  have hver : SMap.read 0 ((s.stateVersion tg ver.toNat).cmdStart pgFw 0x13 tg m.id).boot.stateVer tg = ver.toNat :=
    SMap.read_write_self ..
  have hrun : (((s.stateVersion tg ver.toNat).cmdStart pgFw 0x13 tg m.id).hdr pgFw).run = some ⟨0x13, tg, m.id⟩ :=
    State.cmdStart_run _ pgFw
  have hsame : State.SameBut [.fw, .boot, .out, .page .fw] s
      (((s.stateVersion tg ver.toNat).cmdStart pgFw 0x13 tg m.id).fwHandover tg ver.toNat) :=
    State.fwHandover_same (State.cmdStart_same (State.SameOutside.set_boot (State.SameOutside.refl _ s) rfl) rfl rfl) rfl
  have hbank : ((s.stateVersion tg ver.toNat).cmdStart pgFw 0x13 tg m.id).bankNow tg = s.bankNow tg := rfl
  have hslot : ((s.stateVersion tg ver.toNat).cmdStart pgFw 0x13 tg m.id).inactiveSlot tg = s.inactiveSlot tg := rfl
  have himg (b : Nat) : ((s.stateVersion tg ver.toNat).cmdStart pgFw 0x13 tg m.id).bankImage tg b = s.bankImage tg b := rfl
  have hmono : ((s.stateVersion tg ver.toNat).cmdStart pgFw 0x13 tg m.id).mono = s.mono := rfl
  have hsafe : ((s.stateVersion tg ver.toNat).cmdStart pgFw 0x13 tg m.id).safe = s.safe := rfl
  rw [hver]
  generalize (s.stateVersion tg ver.toNat).cmdStart pgFw 0x13 tg m.id = v at *
  obtain ⟨h1, h2, h3, h4, h5, h6, h7, h8, h9, h10⟩ := v.fwHandover_shown tg ver.toNat rfl
  obtain ⟨hdone, hans⟩ := State.ended_done (h10.trans hrun)
  rw [hbank, himg] at h8
  rw [hmono, hsafe] at h9
  refine ⟨_, rfl, hdone, hans, ?_, ?_, ?_, ?_, ?_, ?_, ?_, ?_, ?_, State.emit_same (State.cmdDone_same hsame rfl rfl) rfl⟩
  · rw [State.emit_boot, State.cmdDone_boot, h1]
  · exact (State.ended_fget.trans h2).trans (by rw [hbank])
  · rw [State.runSlot_of_boot ((State.emit_boot ..).trans (State.cmdDone_boot ..)), h3, hslot]
  · rw [State.ended_fget, h4]
  · rw [State.ended_fget, h5]
  · rw [State.ended_fget, h6]
  · rw [State.emit_hdr]
    exact State.cmdDone_keeps h7
  · rw [State.ended_fget, h8]
  · rw [State.ended_fw, h9]

/-! ### Step 5 of a handover (R520) -/

theorem exec_fwAliveWrite_on (h : s.boot.powered = true) (m : Master) (count : BitVec 8) :
    exec (.fwAliveWrite m count) s = .next (s.writeReg m.id pgFw FW.ALIVE.COUNT.off count.toNat) :=
  congrArg Host.Outcome.next (State.live_on h _)

theorem State.writeReg_fwAlive (hv : v < 256) (h : s.writes m pgFw FW.ALIVE.COUNT.off v = true) :
    s.writeReg m pgFw FW.ALIVE.COUNT.off v = (s.fwAlive m v).emit (.access m 0 0) := by
  rw [State.writeBlock_ok h (by decide) (by decide) (show regOf _ = some ({ off := 0x074, rw := 0xFF }, 0) from rfl) (by omega) (.inl rfl)
    (by decide) (by simp)]
  have hhook : s.blockHook m pgFw FW.ALIVE.COUNT.off v = s.fwAlive m (v % 256) := rfl
  rw [show hookStores pgFw FW.ALIVE.COUNT.off = true from rfl, if_pos rfl, hhook, Nat.mod_eq_of_lt hv]

theorem State.handoverHolds_pages (s : State) (tg : Nat) : (s.handoverHolds tg).pages = s.pages := by
  unfold State.handoverHolds
  split
  · split <;> rfl
  · rfl

theorem State.handoverHolds_met (h : s.fw.handover = some (tg, i)) : (s.handoverHolds tg).fw = { s.fw with handover := none } := by
  unfold State.handoverHolds
  rw [h]
  dsimp only
  rw [if_pos rfl]
  rfl

theorem State.handoverHolds_other (h : ∀ i, s.fw.handover ≠ some (tg, i)) : s.handoverHolds tg = s := by
  unfold State.handoverHolds
  split
  · next k i hk =>
    rw [if_neg]
    rintro rfl
    exact h i hk
  · rfl

theorem State.fwAlive_mgt (s : State) (v : Nat) : s.fwAlive 9 v = (s.fset pgFw FW.ALIVE.COUNT v).handoverHolds 1 := rfl

theorem State.fwAlive_other (h : m ≠ 9) (v : Nat) : s.fwAlive m v = s.fset pgFw FW.ALIVE.COUNT v := by
  unfold State.fwAlive
  rw [if_neg h]

theorem State.fwAlive_count (s : State) (m : Nat) (h : v < 256) : (s.fwAlive m v).fget pgFw FW.ALIVE.COUNT = v := by
  by_cases hm : m = 9
  · rw [hm, State.fwAlive_mgt, State.fget_of_pages (State.handoverHolds_pages ..), State.fset_fget (by decide) h]
  · rw [State.fwAlive_other hm, State.fset_fget (by decide) h]

theorem exec_fwAliveWrite_shows (m : Master) (count : BitVec 8) (h : s.writes m.id pgFw FW.ALIVE.COUNT.off count.toNat = true) :
    ∃ t : State, exec (.fwAliveWrite m count) s = .next t ∧ t.Answers (.access m.id 0 0) ∧
      t.fget pgFw FW.ALIVE.COUNT = count.toNat ∧
      (∀ due, m.id = 9 → s.fw.handover = some (1, due) → t.fw = { s.fw with handover := none }) ∧
      (m.id ≠ 9 ∨ (∀ due, s.fw.handover ≠ some (1, due)) → t.fw = s.fw) ∧ State.SameBut [.fw, .out, .page .fw] s t := by
  have hv : count.toNat < 256 := count.isLt
  rw [exec_fwAliveWrite_on (State.writes_powered h), State.writeReg_fwAlive hv h]
  refine ⟨_, rfl, State.emit_answers _ _, ?_, fun due hm hd => ?_, fun hno => ?_,
    State.emit_same (State.fwAlive_same (State.SameOutside.refl _ s) rfl) rfl⟩
  · rw [State.emit_fget, State.fwAlive_count _ _ hv]
  · rw [State.emit_fw, hm, State.fwAlive_mgt, State.handoverHolds_met (s := s.fset pgFw FW.ALIVE.COUNT count.toNat) hd]
    rfl
  · by_cases hm : m.id = 9
    · rw [State.emit_fw, hm, State.fwAlive_mgt, State.handoverHolds_other (s := s.fset pgFw FW.ALIVE.COUNT count.toNat)
        (hno.resolve_left (not_not.mpr hm)), State.fset_fw]
    · rw [State.emit_fw, State.fwAlive_other hm, State.fset_fw]

/-! ### HANDOVER_REVERT (R520) -/

theorem exec_handoverRevert_on (h : s.boot.powered = true) : exec .handoverRevert s = .next s.handoverRevert :=
  congrArg Host.Outcome.next (State.live_on h _)

theorem State.revert_eq (s : State) (tg : Nat) : s.revert tg = (s.trialSet tg none 0).trialTold tg 1 12 false := rfl

theorem State.handoverRevert_eq (h : s.fw.handover = some (tg, i)) :
    s.handoverRevert = ((s.advanceTo i).trialSet tg none 0).trialTold tg 1 12 false := by
  unfold State.handoverRevert
  rw [h]
  exact State.revert_eq ..

theorem State.handoverRevert_none (h : s.fw.handover = none) : s.handoverRevert = s := by
  unfold State.handoverRevert
  rw [h]

theorem exec_handoverRevert_returns (hp : s.boot.powered = true) (h : s.fw.handover = some (tg, i)) : ∃ t : State,
    exec .handoverRevert s = .next t ∧ t.mono = max s.mono i ∧ t.bankNow tg = 1 - s.bankNow tg ∧
      t.runSlot tg = some (s.inactiveSlot tg) ∧ t.fget pgFw (trialFld tg) = 0 ∧ t.fget pgFw FW.STAT.REVERTED = 1 ∧
      (t.hdr pgFw).evt.getLsbD 12 = true ∧ t.fw.handover = none ∧
      State.SameBut [.mono, .time, .fw, .boot, .out, .page .fw] s t := by
  rw [exec_handoverRevert_on hp, State.handoverRevert_eq h]
  obtain ⟨-, -, -, -, -, htrev⟩ := trialFld_apart tg
  obtain ⟨-, hbrev, -, -⟩ := stat_apart tg
  obtain ⟨hbank, hslot, htrial, -, hdue⟩ := (s.advanceTo i).trialSet_shown tg none (n := 0) (by decide)
  have hsame : State.SameBut [.mono, .time, .fw, .boot, .out, .page .fw] s ((s.advanceTo i).trialSet tg none 0) :=
    State.trialSet_same (State.advanceTo_same (State.SameOutside.refl _ s) rfl) rfl _ _ _
  have hmono : ((s.advanceTo i).trialSet tg none 0).mono = (s.advanceTo i).mono :=
    State.trialSet_same (m := partsMask [.fw, .boot, .page .fw]) (State.SameOutside.refl _ _) rfl _ _ _ .mono (by decide)
  have hb : (s.advanceTo i).bankNow tg = s.bankNow tg := State.advanceTo_fget ..
  rw [hb] at hbank
  rw [State.inactiveSlot_of_boot (s.advanceTo_boot i)] at hslot
  rw [State.advanceTo_mono] at hmono
  generalize (s.advanceTo i).trialSet tg none 0 = y at *
  obtain ⟨hrev, hevt, hho, hboot, -⟩ := y.trialTold_shown tg false (n := 1) (i := 12) (by decide) (by decide)
  have htold : State.SameBut [.fw, .out, .page .fw] y (y.trialTold tg 1 12 false) := State.trialTold_same (State.SameOutside.refl _ _) rfl _ _ _ _
  refine ⟨_, rfl, ?_, (State.trialTold_fget hbrev ..).trans hbank, ?_, ?_, hrev, hevt, hho.trans hdue, ?_⟩
  · exact Eq.trans (htold .mono (by decide)) hmono
  · rw [State.runSlot_of_boot hboot, hslot]
  · rw [State.trialTold_fget htrev, htrial]
  · exact State.trialTold_same hsame rfl _ _ _ _

/-! ### CONFIRM (R522) -/

theorem exec_fwConfirm_on (h : s.boot.powered = true) (m : Master) :
    exec (.fwConfirm m) s = .next (s.command m.id pgFw 0x14 0) := congrArg Host.Outcome.next (State.live_on h _)

theorem State.fwCmd_confirm (s : State) (m v : Nat) : s.fwCmd m 0x14 v = s.confirm := rfl

/-- The directory in force, or that of a flash without one. -/
def State.dirHeld (s : State) : Nat × DirCopy := s.flash.dirNow.getD (1, ⟨0, 0, false, 0, false⟩)

/-- The directory that CONFIRM writes: the slots on trial are boot slots. -/
def State.dirConfirmed (s : State) (d : DirCopy) : DirCopy where
  seq := (d.seq + 1) % 2 ^ 32
  mgtSlot := if s.fbit pgFw FW.STAT.MGT_TRIAL = true then s.boot.mgtSlot.getD d.mgtSlot else d.mgtSlot
  mgtTrial := d.mgtTrial && !s.fbit pgFw FW.STAT.MGT_TRIAL
  safSlot := if s.fbit pgFw FW.STAT.SAF_TRIAL = true then s.boot.safSlot.getD d.safSlot else d.safSlot
  safTrial := d.safTrial && !s.fbit pgFw FW.STAT.SAF_TRIAL

theorem State.confirm_queue {d : DirCopy} (h : s.dirHeld = (c, d)) : s.confirm.fw.queue =
    s.fw.queue ++ [(.confirm, .erase ((1 - c) * 0x10000)), (.confirm, .dir (1 - c) (s.dirConfirmed d))] := by
  unfold State.confirm State.writeDir
  unfold State.dirHeld at h
  rw [h]
  dsimp only
  rw [State.flashQueue_fw]
  unfold State.dirConfirmed
  cases s.fbit pgFw FW.STAT.MGT_TRIAL <;> cases s.fbit pgFw FW.STAT.SAF_TRIAL <;> simp

theorem exec_fwConfirm_writes (m : Master) {d : DirCopy} (h : s.accepts m.id pgFw 0x14 0 = true) (hd : s.dirHeld = (c, d)) :
    ∃ t : State, exec (.fwConfirm m) s = .next t ∧ t.Runs pgFw 0x14 0 m.id ∧ t.Answers (.access m.id 0 0) ∧
      t.fw.queue = s.fw.queue ++ [(.confirm, .erase ((1 - c) * 0x10000)), (.confirm, .dir (1 - c) (s.dirConfirmed d))] ∧
      State.SameBut [.fw, .out, .page .fw] s t := by
  rw [exec_fwConfirm_on (State.accepts_powered h), State.fw_command h (by decide) (by decide) (by decide), State.fwCmd_confirm]
  have hruns : (s.cmdStart pgFw 0x14 0 m.id).confirm.Runs pgFw 0x14 0 m.id := State.cmdStart_runs s pgFw
  refine ⟨_, rfl, hruns.emit _, State.emit_answers _ _, ?_,
    State.emit_same (State.confirm_same (State.cmdStart_same (State.SameOutside.refl _ s) rfl rfl) rfl) rfl⟩
  have hget (f : Fld) : (s.cmdStart pgFw 0x14 0 m.id).fbit pgFw f = s.fbit pgFw f := State.cmdStart_fbit ..
  rw [State.emit_fw, State.confirm_queue (s := s.cmdStart pgFw 0x14 0 m.id) hd, State.cmdStart_fw]
  unfold State.dirConfirmed
  rw [hget, hget, State.cmdStart_boot]

/-! ### SVN_ADVANCE and REVOKE_KEY (R522, R530) -/

theorem exec_svnAdvance_on (h : s.boot.powered = true) (m : Master) (tg : Fin 4) :
    exec (.svnAdvance m tg) s = .next (s.command m.id pgFw 0x15 tg) := congrArg Host.Outcome.next (State.live_on h _)

theorem exec_revokeKey_on (h : s.boot.powered = true) (m : Master) (key : Fin 4) :
    exec (.revokeKey m key) s = .next (s.command m.id pgFw 0x16 key) := congrArg Host.Outcome.next (State.live_on h _)

theorem State.fset_fget_away (h : q ≠ p) (n : Nat) (f g : Fld) : (s.fset p f n).fget q g = s.fget q g :=
  State.fget_fset_page _ _ _ _ _ _ h

/-- OTP's registers of FW show its storage. -/
theorem State.showOtp_fw (s : State) : s.showOtp.fget pgFw FW.OTP_SVN.MGT = s.otp.svnMgt % 65536 ∧
    s.showOtp.fget pgFw FW.OTP_SVN.SAF = s.otp.svnSaf % 65536 ∧ s.showOtp.fget pgFw FW.OTP_KEYS.REVOKED = s.otp.revoked % 16 := by
  unfold State.showOtp State.fsetB
  refine ⟨?_, ?_, ?_⟩
  · rw [State.fset_fget_away (by decide), State.fset_fget_away (by decide), State.fset_fget_apart (by decide),
      State.fset_fget_apart (by decide), State.fget_fset_self _ _ _ _ (by decide)]
    rfl
  · rw [State.fset_fget_away (by decide), State.fset_fget_away (by decide), State.fset_fget_apart (by decide),
      State.fget_fset_self _ _ _ _ (by decide)]
    rfl
  · rw [State.fset_fget_away (by decide), State.fset_fget_away (by decide), State.fget_fset_self _ _ _ _ (by decide)]
    rfl

theorem State.showOtp_otp (s : State) : s.showOtp.otp = s.otp :=
  State.showOtp_same (m := 72340168526266368) (State.SameOutside.refl _ s) rfl .otp (by decide)

theorem State.showOtp_hdr (s : State) (p : Nat) : s.showOtp.hdr p = s.hdr p := by
  unfold State.showOtp
  rw [State.fsetB_hdr, State.fsetB_hdr, State.fset_hdr, State.fset_hdr, State.fset_hdr]

/-- The storage after SVN_ADVANCE for a target. -/
def OtpSt.advanced (o : OtpSt) (tg v : Nat) : OtpSt :=
  { o with svnMgt := if tg = 1 then max o.svnMgt v else o.svnMgt, svnSaf := if tg = 2 then max o.svnSaf v else o.svnSaf }

/-- The SVN of the image that a processor runs. -/
def State.svnRun (s : State) (tg : Nat) : Nat := imgField (s.bankImage tg (s.bankNow tg)) 16 4 % 65536

/-- The storage takes the SVN of the image. -/
def State.svnTaken (s : State) (tg : Nat) : State := { s with otp := s.otp.advanced tg (s.svnRun tg) }

/-- A target that names no processor leaves everything as it is. -/
def State.svnCommand (s : State) (tg : Nat) : State := if tg = 1 ∨ tg = 2 then (s.svnTaken tg).showOtp else s

theorem State.svnAdvance_eq (h : tg = 1 ∨ tg = 2) : s.svnAdvance tg = (s.svnTaken tg).showOtp := by
  rcases h with rfl | rfl <;> rfl

theorem State.fwCmd_svn (s : State) (m : Nat) (h : arg < 4) : s.fwCmd m 0x15 arg = (s.svnCommand arg).cmdDone pgFw := by
  unfold State.fwCmd State.svnCommand
  simp only [Nat.mod_eq_of_lt h]
  by_cases hn : arg = 1 ∨ arg = 2
  · rw [if_pos hn, ← State.svnAdvance_eq hn]
    simp [hn]
  · rw [if_neg hn]
    simp [hn]

theorem State.svnCommand_shown (s : State) (tg : Nat) :
    (s.svnCommand tg).otp = s.otp.advanced tg (s.svnRun tg) ∧
    (tg = 1 → (s.svnCommand tg).fget pgFw FW.OTP_SVN.MGT = (s.svnCommand tg).otp.svnMgt % 65536) ∧
    (tg = 2 → (s.svnCommand tg).fget pgFw FW.OTP_SVN.SAF = (s.svnCommand tg).otp.svnSaf % 65536) ∧
    (s.svnCommand tg).hdr pgFw = s.hdr pgFw := by
  unfold State.svnCommand
  obtain ⟨hm, hs, -⟩ := (s.svnTaken tg).showOtp_fw
  by_cases hn : tg = 1 ∨ tg = 2
  · rw [if_pos hn, State.showOtp_otp, State.showOtp_hdr]
    exact ⟨rfl, fun _ => hm, fun _ => hs, rfl⟩
  · obtain ⟨h1, h2⟩ := not_or.mp hn
    rw [if_neg hn]
    refine ⟨?_, fun h => absurd h h1, fun h => absurd h h2, rfl⟩
    rw [OtpSt.advanced, if_neg h1, if_neg h2]

theorem State.svnCommand_same (h : State.SameOutside m o s) (k : partsMask [.otp, .page .sys, .page .fw, .page .cad] ||| m = m)
    (tg : Nat) : State.SameOutside m o (s.svnCommand tg) :=
  State.SameOutside.ite (State.showOtp_same (State.SameOutside.set_otp h (mask_trans rfl k)) (mask_trans rfl k)) h

theorem exec_svnAdvance_programs (m : Master) (tg : Fin 4) (h : s.accepts m.id pgFw 0x15 tg = true) : ∃ t : State,
    exec (.svnAdvance m tg) s = .next t ∧ t.Done pgFw 0x15 m.id ∧ t.Answers (.access m.id 0 0) ∧
      t.otp = s.otp.advanced tg (s.svnRun tg) ∧
      (tg.val = 1 → t.fget pgFw FW.OTP_SVN.MGT = t.otp.svnMgt % 65536) ∧
      (tg.val = 2 → t.fget pgFw FW.OTP_SVN.SAF = t.otp.svnSaf % 65536) ∧
      State.SameBut [.otp, .out, .page .sys, .page .fw, .page .cad] s t := by
  have htg : tg.val < 4 := tg.isLt
  rw [exec_svnAdvance_on (State.accepts_powered h), State.fw_command h (by decide) (by decide) (by omega), State.fwCmd_svn _ _ htg]
  have hrun : ((s.cmdStart pgFw 0x15 tg m.id).hdr pgFw).run = some ⟨0x15, tg, m.id⟩ := State.cmdStart_run s pgFw
  have hotp : (s.cmdStart pgFw 0x15 tg m.id).otp.advanced tg ((s.cmdStart pgFw 0x15 tg m.id).svnRun tg) =
    s.otp.advanced tg (s.svnRun tg) := rfl
  have hsame : State.SameBut [.otp, .out, .page .sys, .page .fw, .page .cad] s ((s.cmdStart pgFw 0x15 tg m.id).svnCommand tg) :=
    State.svnCommand_same (State.cmdStart_same (State.SameOutside.refl _ s) rfl rfl) rfl _
  generalize s.cmdStart pgFw 0x15 tg m.id = v at *
  obtain ⟨ho, hm, hs, hh⟩ := v.svnCommand_shown tg
  obtain ⟨hdone, hans⟩ := State.ended_done ((congrArg Hdr.run hh).trans hrun)
  have hout : ((((v.svnCommand tg).cmdDone pgFw).emit (.access m.id 0 0))).otp = (v.svnCommand tg).otp := by
    rw [State.emit_otp, State.cmdDone_otp]
  refine ⟨_, rfl, hdone, hans, (hout.trans ho).trans hotp, fun e => ?_, fun e => ?_,
    State.emit_same (State.cmdDone_same hsame rfl rfl) rfl⟩
  · rw [State.ended_fget, hout, hm e]
  · rw [State.ended_fget, hout, hs e]

/-- The storage takes the revocation of a key. -/
def State.keyRevoked (s : State) (k : Nat) : State := { s with otp := { s.otp with revoked := s.otp.revoked ||| 1 <<< k } }

theorem State.revokeKey_eq (s : State) (k : Nat) : s.revokeKey k = (s.keyRevoked k).showOtp := rfl

theorem State.keyRevoked_otp (s : State) (k : Nat) :
    (s.keyRevoked k).otp = { s.otp with revoked := s.otp.revoked ||| 1 <<< k } := rfl

theorem State.keyRevoked_hdr (s : State) (k p : Nat) : (s.keyRevoked k).hdr p = s.hdr p := rfl

theorem State.fwCmd_revoke (s : State) (m : Nat) (h : arg < 4) : s.fwCmd m 0x16 arg = (s.revokeKey arg).cmdDone pgFw := by
  have ha : arg % 4 = arg := Nat.mod_eq_of_lt h
  rw [← ha]
  simp [State.fwCmd]

theorem exec_revokeKey_programs (m : Master) (key : Fin 4) (h : s.accepts m.id pgFw 0x16 key = true) : ∃ t : State,
    exec (.revokeKey m key) s = .next t ∧ t.Done pgFw 0x16 m.id ∧ t.Answers (.access m.id 0 0) ∧
      t.otp = { s.otp with revoked := s.otp.revoked ||| 1 <<< key.val } ∧
      t.fget pgFw FW.OTP_KEYS.REVOKED = (s.otp.revoked ||| 1 <<< key.val) % 16 ∧
      State.SameBut [.otp, .out, .page .sys, .page .fw, .page .cad] s t := by
  have hk : key.val < 4 := key.isLt
  rw [exec_revokeKey_on (State.accepts_powered h), State.fw_command h (by decide) (by decide) (by omega), State.fwCmd_revoke _ _ hk]
  have hrun : (((s.cmdStart pgFw 0x16 key m.id).revokeKey key).hdr pgFw).run = some ⟨0x16, key, m.id⟩ := by
    rw [State.revokeKey_eq, State.showOtp_hdr, State.keyRevoked_hdr]
    exact State.cmdStart_run s pgFw
  have hotp : (s.cmdStart pgFw 0x16 key m.id).otp = s.otp := rfl
  have hsame : State.SameBut [.otp, .out, .page .sys, .page .fw, .page .cad] s ((s.cmdStart pgFw 0x16 key m.id).revokeKey key) :=
    State.revokeKey_same (State.cmdStart_same (State.SameOutside.refl _ s) rfl rfl) rfl
  generalize s.cmdStart pgFw 0x16 key m.id = v at *
  obtain ⟨hdone, hans⟩ := State.ended_done hrun
  refine ⟨_, rfl, hdone, hans, ?_, ?_, State.emit_same (State.cmdDone_same hsame rfl rfl) rfl⟩
  · rw [State.emit_otp, State.cmdDone_otp, State.revokeKey_eq, State.showOtp_otp, State.keyRevoked_otp, hotp]
  · obtain ⟨-, -, hrev⟩ := (v.keyRevoked key).showOtp_fw
    rw [State.ended_fget, State.revokeKey_eq, hrev, State.keyRevoked_otp, hotp]

/-! ### The obligation -/

/-- Settles O58: sessions and blocks, banks and trials, the directory and one-time-programmable storage, one by one. -/
theorem updatesGoInOrder : Obligations.UpdatesGoInOrder := by
  unfold Obligations.UpdatesGoInOrder
  refine fun s m => ⟨exec_updateStart_opens m, exec_updateAbort_ends m, fun hp h => ?_,
    fun ws u w bytes data hp hne ht hw hb hd => ?_, fun u r => u.blockReject_shown, exec_fwActivate_runs m,
    fun tg img arg i hp hrun htg himg => exec_activateDone_ends hp hrun htg himg, fun hp h => ?_, exec_fwHandover_moves m,
    exec_fwAliveWrite_shows m, fun tg due hp h => exec_handoverRevert_returns hp h, fun hp h => ?_,
    fun c d d' h hd hms hss hmt hst hseq => ?_, fun tg h => ?_, exec_revokeKey_programs m⟩
  · rw [exec_updateBlock_on hp, State.updateBlock_empty h]
  · subst hw hb hd
    refine ⟨fun hx => ?_, fun x hx => ?_⟩
    · rw [exec_updateBlock_on hp, State.updateBlock_alone hne ht hx]
    · obtain ⟨hforeign, hown⟩ := exec_updateBlock_session hp hne ht hx
      refine ⟨hforeign, fun he hs htg bad hbad => ?_⟩
      subst hbad
      exact hown he hs htg
  · rw [exec_activateDone_on hp, State.activateDone_idle h]
  · rw [exec_handoverRevert_on hp, State.handoverRevert_none h]
  · have hd' : d' = s.dirConfirmed d := by
      cases d'
      simp only at hms hss hmt hst hseq
      rw [State.dirConfirmed, hms, hss, hmt, hst, hseq]
    rw [hd']
    exact exec_fwConfirm_writes m h hd
  · obtain ⟨t, hexec, hdone, hans, hotp, hm, hs, hsame⟩ := exec_svnAdvance_programs m tg h
    exact ⟨t, s.svnRun tg, hexec, hdone, hans, rfl, by rw [hotp]; rfl, by rw [hotp]; rfl, by rw [hotp]; rfl, hm, hs, hsame⟩

end Sys2Proof.Machine
end

section
/-! PROOFS. PAIR's messages and its readiness, as later proofs use them (R477, R481, R491). -/

namespace Sys2Proof.Machine

variable {s t u o : State} {d k i n p q v w m c a : Nat} {f g : Fld}

/-! ### PAIR's own state -/

@[simp] theorem State.setPair_pair (s : State) (x : PairSt → PairSt) : (s.setPair x).pair = x s.pair := rfl

@[simp] theorem State.setPair_mono (s : State) (x : PairSt → PairSt) : (s.setPair x).mono = s.mono := rfl

@[simp] theorem State.setPair_hdr (s : State) (x : PairSt → PairSt) (p : Nat) : (s.setPair x).hdr p = s.hdr p := rfl

@[simp] theorem State.setPair_word (s : State) (x : PairSt → PairSt) (a : Nat) : (s.setPair x).word a = s.word a := rfl

@[simp] theorem State.setPair_fget (s : State) (x : PairSt → PairSt) (p : Nat) (f : Fld) : (s.setPair x).fget p f = s.fget p f :=
  State.fget_of_pages rfl p f

@[simp] theorem State.setPair_fbit (s : State) (x : PairSt → PairSt) (p : Nat) (f : Fld) : (s.setPair x).fbit p f = s.fbit p f :=
  State.fbit_of_fget (s.setPair_fget x p f)

theorem State.pairShadow_of_state (h : t.pairState = s.pairState) : t.pairShadow = s.pairShadow := by
  unfold State.pairShadow
  rw [h]

theorem State.pairActive_of_state (h : t.pairState = s.pairState) : t.pairActive = s.pairActive := by
  unfold State.pairActive
  rw [h]

theorem State.pairFollows_iff : s.pairFollows = true ↔ s.pairState = 2 ∨ s.pairState = 3 := by
  simp [State.pairFollows]

theorem State.pairReady_of_fget (h : t.fget pgPair PAIR.STAT.READY = s.fget pgPair PAIR.STAT.READY) : t.pairReady = s.pairReady :=
  State.fbit_of_fget h

theorem State.pairReady_false (h : s.fget pgPair PAIR.STAT.READY = 0) : s.pairReady = false := by
  unfold State.pairReady State.fbit
  rw [h]
  rfl

theorem State.frame_lt (s : State) : s.frame < 65536 := State.fget_lt ..

/-! ### Messages (R481) -/

theorem State.flushMirror_of (P : State → Prop) (h : P s) (hq : ∀ t, P t → P { t with pair := { t.pair with queue := [] } })
    (hsend : ∀ t x, P t → P (t.sendMirror x)) : P s.flushMirror := by
  unfold State.flushMirror
  split
  · exact List.foldlRecOn _ _ (motive := P) (hq s h) fun t ht x _ => hsend t x ht
  · exact h

/-- What an empty queue, a message that leaves, one that is queued and one that is dropped all keep, sending a message keeps. -/
theorem State.mirror_of (P : State → Prop) (h : P s) (hq : ∀ t l, P t → P { t with pair := { t.pair with queue := l } })
    (hset : ∀ t v, P t → P (t.fset pgPair PAIR.MGEN_TX.MGEN v)) (hemit : ∀ t z, P t → P (t.emit z))
    (hevt : ∀ t, P t → P (t.evt pgPair 11)) (x : Mirror) : P (s.mirror x) := by
  have hsend (t : State) (x : Mirror) (ht : P t) : P (t.sendMirror x) := hemit _ _ (hset t _ ht)
  unfold State.mirror
  split
  · exact hsend _ x (State.flushMirror_of P h (fun t => hq t []) hsend)
  · split
    · exact h
    · unfold State.queueMirror
      extract_lets used
      split
      · exact hq s _ h
      · exact hevt _ (hset s _ h)

theorem State.mirror_fget (h : PAIR.MGEN_TX.MGEN.Apart f) (x : Mirror) : (s.mirror x).fget p f = s.fget p f :=
  State.mirror_of (fun t => t.fget p f = s.fget p f) rfl (fun _ _ ht => (State.fget_of_pages rfl ..).trans ht)
    (fun _ _ ht => (State.fset_fget_apart h).trans ht) (fun _ _ ht => (State.emit_fget ..).trans ht)
    (fun _ ht => (State.evt_fget ..).trans ht) x

theorem State.mirror_keeps (h : (s.hdr p).evt.getLsbD k = true) (x : Mirror) : ((s.mirror x).hdr p).evt.getLsbD k = true :=
  State.mirror_of (fun t => (t.hdr p).evt.getLsbD k = true) h (fun _ _ ht => ht) (fun _ _ ht => ht) (fun _ _ ht => ht)
    (fun _ ht => State.evt_keeps _ _ _ _ _ ht) x

theorem State.mirror_run (s : State) (x : Mirror) (p : Nat) : ((s.mirror x).hdr p).run = (s.hdr p).run :=
  State.mirror_of (fun t => (t.hdr p).run = (s.hdr p).run) rfl (fun _ _ ht => ht) (fun _ _ ht => ht) (fun _ _ ht => ht)
    (fun _ ht => (State.evt_hdr_run ..).trans ht) x

/-- PAIR's state but for its queue. -/
def PairSt.quiet (x : PairSt) : PairSt := { x with queue := [] }

theorem State.mirror_quiet (s : State) (x : Mirror) : (s.mirror x).pair.quiet = s.pair.quiet :=
  State.mirror_of (fun t => t.pair.quiet = s.pair.quiet) rfl (fun _ _ ht => ht) (fun _ _ ht => ht) (fun _ _ ht => ht)
    (fun _ ht => (congrArg PairSt.quiet (State.evt_pair ..)).trans ht) x

theorem State.mirror_pairState (s : State) (x : Mirror) : (s.mirror x).pairState = s.pairState := State.mirror_fget (by decide) x

/-! ### READY (R491) -/

/-- READY is lost, and NR_REASON keeps its first cause. -/
def State.readyLost (s : State) (n : Nat) : State :=
  if s.fbit pgPair PAIR.STAT.READY || s.fget pgPair PAIR.STAT.NR_REASON = 0 then
    (s.fset pgPair PAIR.STAT.READY 0).fset pgPair PAIR.STAT.NR_REASON n
  else s

/-- The resynchronisation must start again. -/
def State.hasDiverged (s : State) : State := s.setPair (fun x => { x with diverged := true, goodRun := none })

theorem State.clearReady_eq (s : State) (n : Nat) : s.clearReady n =
    if s.pairFollows then if n = 3 then (s.hasDiverged.readyLost n).evt pgPair 11 else s.hasDiverged.readyLost n else s := rfl

theorem State.clearReady_apart (h : s.pairFollows = false) (n : Nat) : s.clearReady n = s := by
  rw [State.clearReady_eq, h]
  rfl

theorem State.readyLost_pair (s : State) (n : Nat) : (s.readyLost n).pair = s.pair := by
  unfold State.readyLost
  split <;> rfl

theorem State.readyLost_hdr (s : State) (n p : Nat) : (s.readyLost n).hdr p = s.hdr p := by
  unfold State.readyLost
  split <;> rfl

theorem State.readyLost_fget (hr : PAIR.STAT.READY.Apart f) (hn : PAIR.STAT.NR_REASON.Apart f) (n : Nat) :
    (s.readyLost n).fget p f = s.fget p f := by
  unfold State.readyLost
  split
  · rw [State.fset_fget_apart hn, State.fset_fget_apart hr]
  · rfl

theorem State.readyLost_ready (s : State) (n : Nat) : (s.readyLost n).pairReady = false := by
  unfold State.readyLost
  split
  · refine State.pairReady_false ?_
    rw [State.fset_fget_apart (by decide), State.fset_fget (by decide) (by decide)]
  · next h =>
    simp only [Bool.or_eq_true, not_or, Bool.not_eq_true] at h
    exact h.1

theorem State.clearReady_mono (s : State) (n : Nat) : (s.clearReady n).mono = s.mono :=
  State.clearReady_same (m := 562952134459392) (State.SameOutside.refl _ s) rfl .mono (by decide)

theorem State.clearReady_fget (hr : PAIR.STAT.READY.Apart f) (hn : PAIR.STAT.NR_REASON.Apart f) (n : Nat) :
    (s.clearReady n).fget p f = s.fget p f := by
  have h : (s.hasDiverged.readyLost n).fget p f = s.fget p f := (State.readyLost_fget hr hn n).trans (State.setPair_fget ..)
  rw [State.clearReady_eq]
  split
  · split
    · rw [State.evt_fget, h]
    · exact h
  · rfl

theorem State.clearReady_pairState (s : State) (n : Nat) : (s.clearReady n).pairState = s.pairState :=
  State.clearReady_fget (by decide) (by decide) n

theorem State.clearReady_ready (h : s.pairFollows = true) (n : Nat) : (s.clearReady n).pairReady = false := by
  rw [State.clearReady_eq, if_pos h]
  split
  · exact (State.pairReady_of_fget (State.evt_fget ..)).trans (State.readyLost_ready ..)
  · exact State.readyLost_ready ..

theorem State.clearReady_pair (h : s.pairFollows = true) (n : Nat) :
    (s.clearReady n).pair = { s.pair with diverged := true, goodRun := none } := by
  rw [State.clearReady_eq, if_pos h]
  split
  · rw [State.evt_pair, State.readyLost_pair]
    rfl
  · rw [State.readyLost_pair]
    rfl

theorem State.clearReady_keeps (h : (s.hdr p).evt.getLsbD k = true) (n : Nat) : ((s.clearReady n).hdr p).evt.getLsbD k = true := by
  have h' : ((s.hasDiverged.readyLost n).hdr p).evt.getLsbD k = true := by rwa [State.readyLost_hdr]
  rw [State.clearReady_eq]
  split
  · split
    · exact State.evt_keeps _ _ _ _ _ h'
    · exact h'
  · exact h

theorem State.clearReady_same' (s : State) (n : Nat) : State.SameBut [.pair, .out, .page .pair] s (s.clearReady n) :=
  State.clearReady_same (State.SameOutside.refl _ s) rfl

/-- What clearing READY leaves of PAIR's own state. -/
theorem State.clearReady_keepsPair {α : Type} (x : PairSt → α) (hx : ∀ y, x { y with diverged := true, goodRun := none } = x y)
    (s : State) (n : Nat) : x (s.clearReady n).pair = x s.pair := by
  by_cases h : s.pairFollows = true
  · rw [State.clearReady_pair h, hx]
  · rw [State.clearReady_apart (by simpa using h)]

/-! ### What the partner is told leaves everything but the queue and MGEN (R481) -/

/-- Messages alone take one state to another. -/
def State.Told (s t : State) : Prop :=
  (∀ p f, PAIR.MGEN_TX.MGEN.Apart f → t.fget p f = s.fget p f) ∧ (∀ p, (t.hdr p).run = (s.hdr p).run) ∧
  (∀ p k, (s.hdr p).evt.getLsbD k = true → (t.hdr p).evt.getLsbD k = true) ∧ t.pair.quiet = s.pair.quiet

theorem State.Told.refl (s : State) : s.Told s := ⟨fun _ _ _ => rfl, fun _ => rfl, fun _ _ h => h, rfl⟩

theorem State.Told.trans (h : s.Told t) (h' : t.Told u) : s.Told u := by
  obtain ⟨h1, h2, h3, h4⟩ := h
  obtain ⟨g1, g2, g3, g4⟩ := h'
  exact ⟨fun p f hf => (g1 p f hf).trans (h1 p f hf), fun p => (g2 p).trans (h2 p), fun p k hk => g3 p k (h3 p k hk), g4.trans h4⟩

theorem State.told_mirror (s : State) (x : Mirror) : s.Told (s.mirror x) :=
  ⟨fun _ _ h => State.mirror_fget h x, State.mirror_run s x, fun _ _ h => State.mirror_keeps h x, State.mirror_quiet s x⟩

theorem State.Told.foldl {β : Type} {step : State → β → State} (hstep : ∀ (s : State) x, s.Told (step s x)) (l : List β) (s : State) :
    s.Told (l.foldl step s) :=
  List.foldlRecOn _ _ (motive := fun t => s.Told t) (State.Told.refl s) fun t ht x _ => ht.trans (hstep t x)

theorem State.Told.ite {P : Prop} [Decidable P] (h : s.Told t) (h' : s.Told u) : s.Told (if P then t else u) := by
  split
  · exact h
  · exact h'

theorem State.Told.pairState (h : s.Told t) : t.pairState = s.pairState := h.1 pgPair PAIR.STAT.STATE (by decide)

/-- What the queue is not part of, messages leave. -/
theorem State.Told.keepsPair {α : Type} (h : s.Told t) (x : PairSt → α) (hx : ∀ y : PairSt, x y.quiet = x y) : x t.pair = x s.pair := by
  rw [← hx, h.2.2.2, hx]

end Sys2Proof.Machine
end

section
/-! PROOFS. PAIR's own time: outcomes that do not come, heartbeats, TAIL ports and locks (R483, R486, R490, R492). -/

namespace Sys2Proof.Machine

variable {s t u o : State} {d k i n p q v w m c a : Nat} {f g : Fld} {x : MirrorPend}

/-! ### A mirrored commit that is abandoned (R486) -/

theorem exec_outcomeWaitExpiry_on (h : s.boot.powered = true) (p : Fin 128) :
    exec (.outcomeWaitExpiry p) s = .next (s.outcomeExpiry p).settle := congrArg Host.Outcome.next (State.live_on h _)

/-- The page shows that its mirrored commit is abandoned. -/
def State.abandonShown (s : State) (p : Nat) : State :=
  ((s.setMirrorPend p none).setHdr p { s.hdr p with commitState := 5, commitReason := 7 }).evt p 1

theorem State.mirrorAbandon_eq (s : State) (p : Nat) : s.mirrorAbandon p =
    if compositionPages.contains p then ((s.abandonShown p).finc pgCmp CMP.COMMIT_STAT.ABANDONS).evt pgCmp 9 else s.abandonShown p := rfl

theorem State.setMirrorPend_self (s : State) (p : Nat) (c : Option MirrorPend) : (s.setMirrorPend p c).mirrorPend p = c :=
  SMap.read_write_self ..

theorem State.setMirrorPend_other (h : q ≠ p) (c : Option MirrorPend) : (s.setMirrorPend p c).mirrorPend q = s.mirrorPend q := by
  unfold State.setMirrorPend State.mirrorPend
  dsimp only [State.setPair]
  rw [SMap.read_write_other _ _ _ h]

theorem State.mirrorPend_of_pair (h : t.pair = s.pair) (p : Nat) : t.mirrorPend p = s.mirrorPend p := by
  unfold State.mirrorPend
  rw [h]

theorem State.abandonShown_pair (s : State) (p : Nat) : (s.abandonShown p).pair = (s.setMirrorPend p none).pair := by
  rw [State.abandonShown, State.evt_pair]
  rfl

theorem State.abandonShown_hdr (s : State) (p : Nat) : ((s.abandonShown p).hdr p).commitState = 5 ∧
    ((s.abandonShown p).hdr p).commitReason = 7 ∧ ((s.abandonShown p).hdr p).evt.getLsbD 1 = true := by
  refine ⟨?_, ?_, State.evt_set _ _ _ (by decide)⟩
  · rw [State.abandonShown, State.evt_hdr_commitState, State.setHdr_hdr_self]
  · rw [State.abandonShown, State.evt_hdr_commitReason, State.setHdr_hdr_self]

/-- A mirrored commit that is abandoned waits no more, and its page shows it. -/
theorem State.mirrorAbandon_shown (s : State) (p : Nat) : (s.mirrorAbandon p).mirrorPend p = none ∧
    ((s.mirrorAbandon p).hdr p).commitState = 5 ∧ ((s.mirrorAbandon p).hdr p).commitReason = 7 ∧
    ((s.mirrorAbandon p).hdr p).evt.getLsbD 1 = true ∧ (s.mirrorAbandon p).mono = s.mono := by
  obtain ⟨hst, hre, hev⟩ := s.abandonShown_hdr p
  have hpend : (s.abandonShown p).mirrorPend p = none :=
    (State.mirrorPend_of_pair (s.abandonShown_pair p) p).trans (State.setMirrorPend_self ..)
  have hmono : (s.abandonShown p).mono = s.mono := State.evt_mono ..
  rw [State.mirrorAbandon_eq]
  split
  · refine ⟨(State.mirrorPend_of_pair ((State.evt_pair ..).trans (State.finc_pair ..)) p).trans hpend, ?_, ?_,
      State.evt_keeps _ _ _ _ _ hev, ?_⟩
    · rw [State.evt_hdr_commitState, State.finc_hdr, hst]
    · rw [State.evt_hdr_commitReason, State.finc_hdr, hre]
    · rw [State.evt_mono, State.finc_mono, hmono]
  · exact ⟨hpend, hst, hre, hev, hmono⟩

theorem State.outcomeExpiry_waits (hx : s.mirrorPend p = some x) (hb : x.since = some i) :
    s.outcomeExpiry p = ((s.advanceTo (i + 8000)).mirrorAbandon p).clearReady 3 := by
  unfold State.outcomeExpiry
  rw [hx]
  dsimp only
  rw [hb]

theorem State.outcomeExpiry_idle (h : ∀ c, s.mirrorPend p = some c → c.since = none) : s.outcomeExpiry p = s := by
  unfold State.outcomeExpiry
  cases hx : s.mirrorPend p with
  | none => rfl
  | some c =>
    dsimp only
    rw [h c hx]

theorem exec_outcomeWaitExpiry_abandons (p : Fin 128) (hp : s.boot.powered = true) (hx : s.mirrorPend p = some x)
    (hb : x.since = some i) : ∃ t : State, exec (.outcomeWaitExpiry p) s = .next (t.clearReady 3).settle ∧
      t.mono = max s.mono (i + 8000) ∧ t.mirrorPend p = none ∧ (t.hdr p).commitState = 5 ∧ (t.hdr p).commitReason = 7 ∧
      (t.hdr p).evt.getLsbD 1 = true := by
  obtain ⟨h1, h2, h3, h4, h5⟩ := (s.advanceTo (i + 8000)).mirrorAbandon_shown p
  exact ⟨_, by rw [exec_outcomeWaitExpiry_on hp, State.outcomeExpiry_waits hx hb], by rw [h5, State.advanceTo_mono], h1, h2, h3, h4⟩

/-! ### HEARTBEAT_MISS (R492, R494) -/

theorem exec_heartbeatMiss_on (h : s.boot.powered = true) : exec .heartbeatMiss s = .next s.heartbeatMiss.settle :=
  congrArg Host.Outcome.next (State.live_on h _)

theorem State.heartbeatMiss_none (h : s.pair.hbDue = none) : s.heartbeatMiss = s := by
  unfold State.heartbeatMiss
  rw [h]

/-- A heartbeat that is missed at an instant is counted. -/
def State.missCounted (s : State) (i : Nat) : State :=
  (((s.advanceTo i).setPair (fun x => { x with hbDue := none, missRun := x.missRun + 1 })).finc pgPair PAIR.CNT2.HB_MISS).evt pgPair 10

/-- What too many of them mean. -/
def State.missJudged (s : State) : State :=
  if s.fget pgPair PAIR.TIMING.MISS_SLOTS ≤ s.pair.missRun && s.pairShadow && s.pairReady then
    if s.ringsSilent then s.takeCause 2 else s.clearReady 1
  else s

theorem State.heartbeatMiss_some (h : s.pair.hbDue = some d) (hi : i = d + 20000) : s.heartbeatMiss = (s.missCounted i).missJudged := by
  unfold State.heartbeatMiss
  rw [h]
  dsimp only
  rw [← hi]
  rfl

/-- A takeover cause leaves everything but the event and the takeover under way. -/
theorem State.takeCause_keeps (s : State) (n : Nat) : (s.takeCause n).mono = s.mono ∧ (s.takeCause n).pair.hbDue = s.pair.hbDue ∧
    (s.takeCause n).pair.missRun = s.pair.missRun ∧ (∀ p f, (s.takeCause n).fget p f = s.fget p f) ∧
    ∀ p k, (s.hdr p).evt.getLsbD k = true → ((s.takeCause n).hdr p).evt.getLsbD k = true := by
  unfold State.takeCause
  split
  · exact ⟨rfl, rfl, rfl, fun _ _ => rfl, fun _ _ h => h⟩
  · split
    · exact ⟨State.evt_mono .., by rw [State.evt_pair], by rw [State.evt_pair], fun _ _ => State.evt_fget ..,
        fun _ _ h => State.evt_keeps _ _ _ _ _ h⟩
    · split
      · exact ⟨rfl, rfl, rfl, fun _ _ => rfl, fun _ _ h => h⟩
      · exact ⟨rfl, rfl, rfl, fun _ _ => State.setPair_fget .., fun _ _ h => h⟩

theorem State.missJudged_keeps (s : State) : s.missJudged.mono = s.mono ∧ s.missJudged.pair.hbDue = s.pair.hbDue ∧
    s.missJudged.pair.missRun = s.pair.missRun ∧
    s.missJudged.fget pgPair PAIR.CNT2.HB_MISS = s.fget pgPair PAIR.CNT2.HB_MISS ∧
    ((s.hdr pgPair).evt.getLsbD 10 = true → (s.missJudged.hdr pgPair).evt.getLsbD 10 = true) := by
  unfold State.missJudged
  split
  · split
    · obtain ⟨h1, h2, h3, h4, h5⟩ := s.takeCause_keeps 2
      exact ⟨h1, h2, h3, h4 _ _, h5 _ _⟩
    · exact ⟨State.clearReady_mono .., State.clearReady_keepsPair PairSt.hbDue (fun _ => rfl) s 1,
        State.clearReady_keepsPair PairSt.missRun (fun _ => rfl) s 1, State.clearReady_fget (by decide) (by decide) 1,
        fun h => State.clearReady_keeps h 1⟩
  · exact ⟨rfl, rfl, rfl, rfl, fun h => h⟩

theorem State.advanceTo_pair (s : State) (i : Nat) : (s.advanceTo i).pair = s.pair :=
  State.advanceTo_same (m := 130) (State.SameOutside.refl _ s) rfl .pair (by decide)

theorem exec_heartbeatMiss_counts (hp : s.boot.powered = true) (h : s.pair.hbDue = some d) : ∃ t : State,
    exec .heartbeatMiss s = .next t.settle ∧ t.mono = max s.mono (d + 20000) ∧ t.pair.hbDue = none ∧
      t.pair.missRun = s.pair.missRun + 1 ∧
      t.fget pgPair PAIR.CNT2.HB_MISS = min (s.fget pgPair PAIR.CNT2.HB_MISS + 1) 65535 ∧
      (t.hdr pgPair).evt.getLsbD 10 = true := by
  generalize hi : d + 20000 = i
  rw [exec_heartbeatMiss_on hp, State.heartbeatMiss_some h hi.symm]
  obtain ⟨h1, h2, h3, h4, h5⟩ := (s.missCounted i).missJudged_keeps
  have hpair : (s.missCounted i).pair = { s.pair with hbDue := none, missRun := s.pair.missRun + 1 } := by
    rw [State.missCounted, State.evt_pair, State.finc_pair, State.setPair_pair, State.advanceTo_pair]
  refine ⟨_, rfl, ?_, ?_, ?_, ?_, h5 (State.evt_set _ _ _ (by decide))⟩
  · rw [h1, State.missCounted, State.evt_mono, State.finc_mono, State.setPair_mono, State.advanceTo_mono]
  · rw [h2, hpair]
  · rw [h3, hpair]
  · rw [h4, State.missCounted, State.evt_fget, State.finc_fget (by decide), State.setPair_fget, State.advanceTo_fget]
    rfl

/-! ### TAIL_PACKET_RX (R490, R494) -/

theorem exec_tailPacketRx_on (h : s.boot.powered = true) (tile : Fin 16) (targets : BitVec 128) (y : Packet) :
    exec (.tailPacketRx tile targets y) s = .next (s.tailPacket tile targets.toNat y).settle :=
  congrArg Host.Outcome.next (State.live_on h _)

/-- The port has heard the ACTIVE device. -/
def State.tailHeard (s : State) (n : Nat) : State := s.setDud n { s.dud n with lastRx := s.mono }

/-- A packet must show the partner as its owner, at the partner's epoch. -/
def State.ownerChecked (s : State) (y : Packet) : State :=
  match s.pair.partner with
  | some h => if y.owner = s.fget pgPair PAIR.CFG.PARTNER_ID && y.epoch = h.epoch then s else s.verifyErr
  | none => s

/-- A DRIVE packet shows its group to each sink. -/
def State.groupsSeen (s : State) (n targets : Nat) (y : Packet) : State :=
  if y.type = 0x01 then
    (sinksOf targets).foldl (fun s a => s.setPair (fun x => { x with
      tailSeen := SMap.write 0 x.tailSeen (128 * n + a) (SMap.read 0 x.tailSeen (128 * n + a) |||
        1 <<< (4 * bitsOf (y.words.headD 0) 16 2 + bitsOf (y.words.headD 0) 18 2)) })) s
  else s

theorem State.tailPacket_other (h : s.fget (pgDud n) DUD.CTL.ROLE ≠ 2) (k : Nat) (y : Packet) : s.tailPacket n k y = s := by
  unfold State.tailPacket
  rw [if_pos h]

theorem State.tailPacket_tail (h : s.fget (pgDud n) DUD.CTL.ROLE = 2) (k : Nat) (y : Packet) : s.tailPacket n k y =
    if !s.pairShadow then s.tailHeard n
    else if !y.crcOk then (s.tailHeard n).verifyErr
    else ((s.tailHeard n).ownerChecked y).groupsSeen n k y := by
  unfold State.tailPacket
  rw [if_neg (not_not.mpr h)]
  rfl

theorem State.groupsSeen_pages (s : State) (n k : Nat) (y : Packet) : (s.groupsSeen n k y).pages = s.pages := by
  unfold State.groupsSeen
  split
  · exact List.foldlRecOn _ _ (motive := fun t : State => t.pages = s.pages) rfl fun _ ht _ _ => ht
  · rfl

theorem State.verifyErr_count (s : State) : s.verifyErr.fget pgPair PAIR.CNT2.VERIFY_ERR =
    min (s.fget pgPair PAIR.CNT2.VERIFY_ERR + 1) 65535 := by
  rw [State.verifyErr, State.evt_fget, State.finc_fget (by decide)]
  rfl

theorem State.tailPacket_lastRx (h : s.fget (pgDud n) DUD.CTL.ROLE = 2) (k : Nat) (y : Packet) :
    ((s.tailPacket n k y).dud n).lastRx = s.mono := by
  have hheard : ((s.tailHeard n).dud n).lastRx = s.mono := congrArg DudSt.lastRx (State.setDud_dud_self ..)
  have herr (t : State) : t.verifyErr.dud n = t.dud n := by
    unfold State.dud State.verifyErr
    rw [State.evt_duds, State.finc_duds]
  have howner (t : State) : (t.ownerChecked y).dud n = t.dud n := by
    unfold State.ownerChecked
    split
    · split
      · rfl
      · exact herr t
    · rfl
  have hseen (t : State) : (t.groupsSeen n k y).dud n = t.dud n := by
    unfold State.groupsSeen
    split
    · exact List.foldlRecOn _ _ (motive := fun u : State => u.dud n = t.dud n) rfl fun _ hu _ _ => hu
    · rfl
  rw [State.tailPacket_tail h]
  split
  · exact hheard
  · split
    · rw [herr, hheard]
    · rw [hseen, howner, hheard]

theorem State.tailHeard_fget (s : State) (n p : Nat) (f : Fld) : (s.tailHeard n).fget p f = s.fget p f :=
  State.fget_of_pages rfl p f

theorem exec_tailPacketRx_checks (tile : Fin 16) (targets : BitVec 128) (y : Packet) (hp : s.boot.powered = true)
    (h : s.fget (pgDud tile) DUD.CTL.ROLE = 2) : ∃ t : State, exec (.tailPacketRx tile targets y) s = .next t.settle ∧
      (t.dud tile).lastRx = s.mono ∧
      (s.pairShadow = true → y.crcOk = false →
        t.fget pgPair PAIR.CNT2.VERIFY_ERR = min (s.fget pgPair PAIR.CNT2.VERIFY_ERR + 1) 65535 ∧
        (t.hdr pgPair).evt.getLsbD 13 = true) ∧
      (∀ h, s.pairShadow = true → y.crcOk = true → s.pair.partner = some h →
        (y.owner = s.fget pgPair PAIR.CFG.PARTNER_ID ∧ y.epoch = h.epoch →
          t.fget pgPair PAIR.CNT2.VERIFY_ERR = s.fget pgPair PAIR.CNT2.VERIFY_ERR) ∧
        (¬(y.owner = s.fget pgPair PAIR.CFG.PARTNER_ID ∧ y.epoch = h.epoch) →
          t.fget pgPair PAIR.CNT2.VERIFY_ERR = min (s.fget pgPair PAIR.CNT2.VERIFY_ERR + 1) 65535)) ∧
      State.SameBut [.duds, .pair, .out, .page .pair] s t := by
  refine ⟨_, exec_tailPacketRx_on hp tile targets y, State.tailPacket_lastRx h _ _, fun hs hc => ?_, fun z hs hc hz => ?_,
    State.tailPacket_same (State.SameOutside.refl _ s) rfl⟩
  · rw [State.tailPacket_tail h, hs, hc]
    exact ⟨(State.verifyErr_count _).trans (by rw [State.tailHeard_fget]), State.evt_set _ _ _ (by decide)⟩
  · have hpartner : (s.tailHeard tile).pair.partner = some z := hz
    have hchecked : (s.tailHeard tile).ownerChecked y =
        if y.owner = s.fget pgPair PAIR.CFG.PARTNER_ID ∧ y.epoch = z.epoch then s.tailHeard tile else (s.tailHeard tile).verifyErr := by
      unfold State.ownerChecked
      rw [hpartner]
      simp only [State.tailHeard_fget, Bool.and_eq_true, decide_eq_true_eq]
    rw [State.tailPacket_tail h, hs, hc]
    refine ⟨fun hown => ?_, fun hown => ?_⟩
    · refine (State.fget_of_pages (State.groupsSeen_pages ..) ..).trans ?_
      rw [hchecked, if_pos hown, State.tailHeard_fget]
    · refine (State.fget_of_pages (State.groupsSeen_pages ..) ..).trans ?_
      rw [hchecked, if_neg hown, State.verifyErr_count, State.tailHeard_fget]

/-! ### PAIR_LEASE_RENEW (R483) -/

theorem exec_pairLeaseRenew_on (h : s.boot.powered = true) : exec .pairLeaseRenew s = .next s.leaseRenew :=
  congrArg Host.Outcome.next (State.live_on h _)

/-- PAIR renews the lease of a page that it holds. -/
def State.leaseTaken (s : State) (p : Nat) : State :=
  if s.holds 0xC p then s.setHdr p { s.hdr p with leaseEnd := s.mono + pairLease } else s

theorem State.leaseRenew_eq (s : State) : s.leaseRenew = if s.pairFollows then wholePages.foldl State.leaseTaken s else s := rfl

theorem State.leaseTaken_mono (s : State) (q : Nat) : (s.leaseTaken q).mono = s.mono := by
  unfold State.leaseTaken
  split <;> rfl

theorem State.leaseTaken_hdr (s : State) (q p : Nat) : ((s.leaseTaken q).hdr p).owner = (s.hdr p).owner ∧
    ((s.leaseTaken q).hdr p).leaseEnd = if p = q ∧ s.holds 0xC p = true then s.mono + pairLease else (s.hdr p).leaseEnd := by
  unfold State.leaseTaken
  by_cases hh : s.holds 0xC q = true
  · rw [if_pos hh]
    by_cases hq : p = q
    · subst hq
      rw [State.setHdr_hdr_self, if_pos ⟨rfl, hh⟩]
      exact ⟨rfl, rfl⟩
    · rw [State.setHdr_hdr_other _ _ _ _ hq, if_neg (fun e => hq e.1)]
      exact ⟨rfl, rfl⟩
  · rw [if_neg hh, if_neg]
    · exact ⟨rfl, rfl⟩
    · rintro ⟨rfl, e⟩
      exact hh e

theorem State.leasesTaken_hdr (l : List Nat) (s : State) (p : Nat) : ((l.foldl State.leaseTaken s).hdr p).owner = (s.hdr p).owner ∧
    ((l.foldl State.leaseTaken s).hdr p).leaseEnd =
      if p ∈ l ∧ s.holds 0xC p = true then s.mono + pairLease else (s.hdr p).leaseEnd := by
  induction l generalizing s with
  | nil => simp
  | cons q l ih =>
    obtain ⟨ho, hl⟩ := ih (s.leaseTaken q)
    obtain ⟨ho', hl'⟩ := s.leaseTaken_hdr q p
    have hholds : (s.leaseTaken q).holds 0xC p = s.holds 0xC p := by
      unfold State.holds
      rw [ho']
    rw [List.foldl_cons, ho, hl, hl', hholds, State.leaseTaken_mono]
    refine ⟨ho', ?_⟩
    by_cases h : s.holds 0xC p = true
    · simp only [h, and_true, List.mem_cons]
      by_cases hm : p ∈ l
      · rw [if_pos hm, if_pos (.inr hm)]
      · simp only [hm, if_false, or_false]
    · simp only [h, and_false, if_false, Bool.false_eq_true]

theorem exec_pairLeaseRenew_renews (hp : s.boot.powered = true) : ∃ t : State, exec .pairLeaseRenew s = .next t ∧
    (∀ p, (t.hdr p).leaseEnd = if s.pairFollows = true ∧ wholePages.contains p = true ∧ s.holds 0xC p = true
      then s.mono + pairLease else (s.hdr p).leaseEnd) ∧
    ∀ p, (t.hdr p).owner = (s.hdr p).owner := by
  refine ⟨_, exec_pairLeaseRenew_on hp, ?_⟩
  rw [State.leaseRenew_eq]
  by_cases h : s.pairFollows = true
  · simp only [h, if_true, true_and, List.contains_iff_mem]
    exact ⟨fun p => (State.leasesTaken_hdr _ s p).2, fun p => (State.leasesTaken_hdr _ s p).1⟩
  · rw [if_neg h]
    exact ⟨fun p => (if_neg fun e => h e.1).symm, fun _ => rfl⟩

/-! ### RESYNC and SWITCHOVER (R502, R507) -/

theorem State.cmdRun_pair (h : 2 < c) : s.cmdRun m pgPair c v =
    if c = 0x10 then s.setPair (fun x => { x with switchAt := some s.mono, yielded := false })
    else s.resyncStart.cmdDone pgPair := by
  unfold State.cmdRun
  rw [if_neg (by omega), if_neg (by omega), if_neg (by omega)]
  rfl

theorem State.ended_pair {z : Out} : ((s.cmdDone p).emit z).pair = s.pair := by
  rw [State.emit_pair, State.cmdDone_pair]

theorem exec_switchover_on (h : s.boot.powered = true) (m : Master) :
    exec (.switchover m) s = .next (s.command m.id pgPair 0x10 0).settle := congrArg Host.Outcome.next (State.live_on h _)

theorem exec_resync_on (h : s.boot.powered = true) (m : Master) :
    exec (.resync m) s = .next (s.command m.id pgPair 0x11 0).settle := congrArg Host.Outcome.next (State.live_on h _)

theorem exec_switchover_starts (m : Master) (h : s.accepts m.id pgPair 0x10 0 = true) : ∃ t : State,
    exec (.switchover m) s = .next t.settle ∧ t.Runs pgPair 0x10 0 m.id ∧ t.Answers (.access m.id 0 0) ∧
      t.pair = { s.pair with switchAt := some s.mono, yielded := false } ∧ State.SameBut [.pair, .out, .page .pair] s t := by
  rw [exec_switchover_on (State.accepts_powered h),
    State.command_eq h (by decide) (by decide) (.inr fun q _ => by unfold pgPair pgReel; omega), State.cmdRun_pair (by decide),
    if_pos rfl]
  have hruns : (s.cmdStart pgPair 0x10 0 m.id).Runs pgPair 0x10 0 m.id := State.cmdStart_runs s pgPair
  exact ⟨_, rfl, hruns, State.emit_answers _ _, rfl,
    State.emit_same (State.setPair_same (State.cmdStart_same (State.SameOutside.refl _ s) rfl rfl) rfl) rfl⟩

/-- BUSY shows that a resynchronisation runs, from its first block. -/
def State.resyncShown (s : State) : State := (s.fset pgPair PAIR.RESYNC_STAT.BUSY 1).fset pgPair PAIR.RESYNC_STAT.BLOCKS 0

/-- Everything that is mirrored is told. -/
def State.resyncTold (s : State) : State :=
  let s := s.mirror (.resync false)
  let s := mirrorOrder.foldl (fun s p => s.mirror (.commit p (s.hdr p).gen 2 false (entriesOf p s.rwsWord) s.frame)) s
  let next := (s.frame + 1) % 65536
  let s := if s.fbit (pgPe 0) PE.STAT.EFF_VALID then
      s.mirror (.rebuild (s.fget (pgPe 0) PE.STAT.EFF_BUF) (s.fget pgCad CAD.STAT.EFF_GEN) ((List.range 16).map s.ceiling) next)
    else s
  s.diag.inForce.foldl (fun s e => s.mirror (.list_ e.1 (e.2 = 2) false next)) s

theorem State.resyncStart_eq (s : State) : s.resyncStart = s.resyncShown.resyncTold.setPair (fun x => { x with endRun := 0 }) := by
  unfold State.resyncStart State.resyncTold State.resyncShown
  with_reducible rfl

theorem State.told_resync (s : State) : s.Told s.resyncTold := by
  unfold State.resyncTold
  extract_lets a b c d
  have ha : s.Told a := s.told_mirror _
  have hb : s.Told b := ha.trans (State.Told.foldl (fun t x => t.told_mirror _) _ _)
  have hd : s.Told d := State.Told.ite (hb.trans (b.told_mirror _)) hb
  exact hd.trans (State.Told.foldl (fun t x => t.told_mirror _) _ _)

theorem State.resyncStart_shown (s : State) : s.resyncStart.fget pgPair PAIR.RESYNC_STAT.BUSY = 1 ∧
    s.resyncStart.fget pgPair PAIR.RESYNC_STAT.BLOCKS = 0 ∧ s.resyncStart.pair.endRun = 0 ∧
    (s.resyncStart.hdr pgPair).run = (s.hdr pgPair).run := by
  obtain ⟨hget, hrun, -, -⟩ := s.resyncShown.told_resync
  rw [State.resyncStart_eq]
  refine ⟨?_, ?_, rfl, ?_⟩
  · rw [State.setPair_fget, hget _ _ (by decide), State.resyncShown, State.fset_fget_apart (by decide),
      State.fset_fget (by decide) (by decide)]
  · rw [State.setPair_fget, hget _ _ (by decide), State.resyncShown, State.fset_fget (by decide) (by decide)]
  · rw [State.setPair_hdr, hrun]
    rfl

theorem exec_resync_starts (m : Master) (h : s.accepts m.id pgPair 0x11 0 = true) : ∃ t : State,
    exec (.resync m) s = .next t.settle ∧ t.Done pgPair 0x11 m.id ∧ t.Answers (.access m.id 0 0) ∧
      t.fget pgPair PAIR.RESYNC_STAT.BUSY = 1 ∧ t.fget pgPair PAIR.RESYNC_STAT.BLOCKS = 0 ∧ t.pair.endRun = 0 ∧
      State.SameBut [.pair, .out, .page .pair] s t := by
  rw [exec_resync_on (State.accepts_powered h),
    State.command_eq h (by decide) (by decide) (.inr fun q _ => by unfold pgPair pgReel; omega), State.cmdRun_pair (by decide),
    if_neg (by decide)]
  have hrun : ((s.cmdStart pgPair 0x11 0 m.id).hdr pgPair).run = some ⟨0x11, 0, m.id⟩ := State.cmdStart_run s pgPair
  have hsame : State.SameBut [.pair, .out, .page .pair] s (s.cmdStart pgPair 0x11 0 m.id).resyncStart :=
    State.resyncStart_same (State.cmdStart_same (State.SameOutside.refl _ s) rfl rfl) rfl
  generalize s.cmdStart pgPair 0x11 0 m.id = v at *
  obtain ⟨hbusy, hblocks, hend, hh⟩ := v.resyncStart_shown
  obtain ⟨hdone, hans⟩ := State.ended_done (hh.trans hrun)
  exact ⟨_, rfl, hdone, hans, by rw [State.ended_fget, hbusy], by rw [State.ended_fget, hblocks], by rw [State.ended_pair, hend],
    State.emit_same (State.cmdDone_same hsame rfl rfl) rfl⟩

/-! ### RESYNC_COPY_DONE (R502) -/

theorem exec_resyncCopyDone_on (h : s.boot.powered = true) : exec .resyncCopyDone s = .next s.resyncCopyDone.settle :=
  congrArg Host.Outcome.next (State.live_on h _)

theorem State.resyncCopyDone_idle (h : s.fbit pgPair PAIR.RESYNC_STAT.BUSY = false ∨ s.pairActive = false) : s.resyncCopyDone = s := by
  unfold State.resyncCopyDone
  rw [if_pos (by rcases h with h | h <;> simp [h])]

/-- The blocks of the mirrored ranges are told. -/
def State.blocksTold (s : State) : State :=
  s.mirrorRanges.foldl (fun s r => (List.range r.2).foldl (fun s i =>
    s.mirror (.block (r.1 + i) (s.block (r.1 + i)).tag (s.block (r.1 + i)).poisoned (s.block (r.1 + i)).data)) s) s

/-- How many blocks the mirrored ranges hold. -/
def State.rangeBlocks (s : State) : Nat := s.mirrorRanges.foldl (fun n r => n + r.2) 0

/-- The copy is over, and RESYNC with END = 1 follows. -/
def State.copyEnded (s : State) (n : Nat) : State :=
  ((((s.fset pgPair PAIR.RESYNC_STAT.BLOCKS n).fset pgPair PAIR.RESYNC_STAT.BUSY 0).mirror (.resync true)).finc pgPair
    PAIR.CNT.RESYNCS).evt pgPair 12

theorem State.resyncCopyDone_eq (hb : s.fbit pgPair PAIR.RESYNC_STAT.BUSY = true) (ha : s.pairActive = true) :
    s.resyncCopyDone = s.blocksTold.copyEnded (min s.rangeBlocks (2 ^ 24 - 1)) := by
  unfold State.resyncCopyDone
  rw [if_neg (by simp [hb, ha])]
  rfl

theorem State.told_blocks (s : State) : s.Told s.blocksTold :=
  State.Told.foldl (fun t _ => State.Told.foldl (fun u _ => u.told_mirror _) _ t) _ s

theorem State.copyEnded_shown (s : State) (hn : n < 2 ^ 24) : (s.copyEnded n).fget pgPair PAIR.RESYNC_STAT.BUSY = 0 ∧
    (s.copyEnded n).fget pgPair PAIR.RESYNC_STAT.BLOCKS = n ∧
    (s.copyEnded n).fget pgPair PAIR.CNT.RESYNCS = min (s.fget pgPair PAIR.CNT.RESYNCS + 1) 65535 ∧
    ((s.copyEnded n).hdr pgPair).evt.getLsbD 12 = true := by
  unfold State.copyEnded
  refine ⟨?_, ?_, ?_, State.evt_set _ _ _ (by decide)⟩
  · rw [State.evt_fget, State.finc_fget_apart (by decide), State.mirror_fget (by decide), State.fset_fget (by decide) (by decide)]
  · rw [State.evt_fget, State.finc_fget_apart (by decide), State.mirror_fget (by decide), State.fset_fget_apart (by decide),
      State.fset_fget (by decide) hn]
  · rw [State.evt_fget, State.finc_fget (by decide), State.mirror_fget (by decide), State.fset_fget_apart (by decide),
      State.fset_fget_apart (by decide)]
    rfl

theorem exec_resyncCopyDone_ends (hp : s.boot.powered = true) (hb : s.fbit pgPair PAIR.RESYNC_STAT.BUSY = true)
    (ha : s.pairActive = true) : ∃ t : State, exec .resyncCopyDone s = .next t.settle ∧
      t.fget pgPair PAIR.RESYNC_STAT.BUSY = 0 ∧
      t.fget pgPair PAIR.RESYNC_STAT.BLOCKS = min (s.mirrorRanges.foldl (fun n r => n + r.2) 0) (2 ^ 24 - 1) ∧
      t.fget pgPair PAIR.CNT.RESYNCS = min (s.fget pgPair PAIR.CNT.RESYNCS + 1) 65535 ∧
      (t.hdr pgPair).evt.getLsbD 12 = true ∧ State.SameBut [.pair, .out, .page .pair] s t := by
  obtain ⟨hbusy, hblocks, hcount, hevt⟩ := s.blocksTold.copyEnded_shown (n := min s.rangeBlocks (2 ^ 24 - 1)) (by omega)
  obtain ⟨hget, -, -, -⟩ := s.told_blocks
  rw [hget _ _ (by decide)] at hcount
  rw [exec_resyncCopyDone_on hp]
  refine ⟨_, rfl, ?_, ?_, ?_, ?_, State.resyncCopyDone_same (State.SameOutside.refl _ s) rfl⟩
  all_goals rw [State.resyncCopyDone_eq hb ha]
  · exact hbusy
  · exact hblocks
  · exact hcount
  · exact hevt

end Sys2Proof.Machine
end

section
/-! PROOFS. A takeover (R496, R497), and O57. -/

namespace Sys2Proof.Machine

variable {s t u o : State} {d k i n p q v w m c a e : Nat} {f g : Fld} {x : MirrorPend}

/-! ### The commits that wait become the device's own (R484, R496) -/

theorem State.pairUnlock_kept' (s : State) : (∀ a, s.pairUnlock.word a = s.word a) ∧ s.pairUnlock.pair = s.pair := by
  refine List.foldlRecOn _ _ (motive := fun t : State => (∀ a, t.word a = s.word a) ∧ t.pair = s.pair) ⟨fun _ => rfl, rfl⟩
    fun t ht q _ => ?_
  dsimp only
  split
  · exact ht
  · exact ht

theorem State.withEntries_keeps (s : State) (p : Nat) (c : MirrorPend) :
    (∀ a, (s.withEntries p c).word a = s.word a) ∧ (s.withEntries p c).pair = s.pair := by
  unfold State.withEntries
  extract_lets r y
  have hr : (∀ a, r.word a = s.word a) ∧ r.pair = s.pair := ⟨fun a => State.reloadShadows_word .., by
    exact State.reloadShadows_same (m := pagesMask) (State.SameOutside.refl _ s) rfl (pageMask_any _ rfl) .pair (by decide)⟩
  have hy : (∀ a, y.word a = s.word a) ∧ y.pair = s.pair :=
    List.foldlRecOn _ _ (motive := fun t : State => (∀ a, t.word a = s.word a) ∧ t.pair = s.pair) hr fun t ht z _ => by
      dsimp only
      split
      · exact ht
      · exact ⟨fun a => (State.setShadow_word ..).trans (ht.1 a), ht.2⟩
  exact hy

/-- Adopted commits leave every value in effect, and of PAIR's own state all but the commits. -/
theorem State.adoptCommits_keeps (s : State) : (∀ a, s.adoptCommits.word a = s.word a) ∧ s.adoptCommits.pair.take = s.pair.take := by
  unfold State.adoptCommits
  extract_lets own mine y
  have hy : (∀ a, y.word a = s.word a) ∧ y.pair.take = s.pair.take :=
    List.foldlRecOn _ _ (motive := fun t : State => (∀ a, t.word a = s.word a) ∧ t.pair.take = s.pair.take) ⟨fun _ => rfl, rfl⟩
      fun t ht z _ => by
        obtain ⟨hw, hp⟩ := t.withEntries_keeps z.1 z.2
        exact ⟨fun a => (hw a).trans (ht.1 a), (congrArg PairSt.take hp).trans ht.2⟩
  split
  · exact hy
  · split
    · exact hy
    · exact hy

/-! ### The rings are claimed at a new epoch (R496) -/

/-- The locks are free and the waiting commits its own; nothing of following is left. -/
def State.followingLeft (s : State) : State :=
  (s.pairUnlock.adoptCommits.setPair (fun x =>
    { x with missRun := 0, goodRun := none, endRun := 0, yielded := false, switchAt := none })).fset pgPair PAIR.STAT.READY 0

/-- CLAIM of some sinks of a ring, at the new owner's epoch. -/
def State.ringClaimed (s : State) (n sinks : Nat) : State :=
  s.startPhase n { kind := .claim 0 127 false, phase := 1, targets := some sinks, passed := 1 }

/-- A ring has the new epoch; one whose TAIL the device drives is claimed first. -/
def State.tailClaimed (e : Nat) (s : State) (n : Nat) : State :=
  if s.fget (pgDud n) DUD.CTL.ROLE = 2 then (s.fset (pgDud n) DUD.OWN.EPOCH e).ringClaimed n (s.allSinks n)
  else s.fset (pgDud n) DUD.OWN.EPOCH e

/-- The other rings are claimed after them. -/
def State.headClaimed (s : State) (n : Nat) : State :=
  if s.fget (pgDud n) DUD.CTL.ROLE = 2 then s else s.ringClaimed n (s.allSinks n)

/-- Every paired ring is claimed. -/
def State.ringsClaimed (s : State) (e : Nat) : State :=
  (s.pairedRings.foldl (State.tailClaimed e) s).pairedRings.foldl State.headClaimed (s.pairedRings.foldl (State.tailClaimed e) s)

/-- The device is ACTIVE, tells it, and records its takeover. -/
def State.takeShown (s : State) (e cause slot : Nat) : State :=
  (((((((s.setPairState 4).mirror (.taken (e % 65536))).fset pgPair PAIR.LAST_TAKE.CAUSE cause).fset pgPair PAIR.LAST_TAKE.SLOT slot).fset
    pgPair PAIR.LAST_TAKE.FRAME ((s.setPairState 4).mirror (.taken (e % 65536))).frame).finc pgPair PAIR.CNT.TAKEOVERS).evt pgPair 9)

/-- The epoch of a takeover: above the partner's and every one that the device holds. -/
def State.takeEpoch (s : State) : Nat := 1 + max ((s.pair.partner.map (·.epoch)).getD 0) s.epochHeld

/-- The takeover under way is over, whatever becomes of it. -/
def State.takeOver (s : State) : State := s.setPair (fun x => { x with take := none })

theorem exec_takeover_on (h : s.boot.powered = true) (slot : Fin 4) : exec (.takeover slot) s = .next (s.takeover slot).settle :=
  congrArg Host.Outcome.next (State.live_on h _)

theorem State.takeover_early (h : ∀ k, s.pair.take = some k → s.mono < k.found + 2000) (slot : Nat) : s.takeover slot = s := by
  unfold State.takeover
  cases hk : s.pair.take with
  | none => rfl
  | some k => exact if_pos (h k hk)

theorem State.takeover_due {k : TakeSt} (hk : s.pair.take = some k) (hd : k.found + 2000 ≤ s.mono) (slot : Nat) : s.takeover slot =
    if !s.takeOver.pairShadow || s.takeOver.tripped then s.takeOver
    else (s.takeOver.followingLeft.ringsClaimed s.takeOver.takeEpoch).takeShown s.takeOver.takeEpoch k.cause slot := by
  unfold State.takeover
  rw [hk]
  exact if_neg (by omega)

theorem State.followingLeft_fget (h : PAIR.STAT.READY.Apart f) (s : State) (p : Nat) : s.followingLeft.fget p f = s.fget p f := by
  rw [State.followingLeft, State.fset_fget_apart h, State.setPair_fget]
  exact State.fget_of_word ((s.pairUnlock.adoptCommits_keeps.1 _).trans (s.pairUnlock_kept'.1 _))

theorem State.followingLeft_take (s : State) : s.followingLeft.pair.take = s.pair.take := by
  rw [State.followingLeft, State.fset_pair, State.setPair_pair]
  dsimp only
  rw [s.pairUnlock.adoptCommits_keeps.2, s.pairUnlock_kept'.2]

theorem State.followingLeft_ready (s : State) : s.followingLeft.fget pgPair PAIR.STAT.READY = 0 :=
  State.fset_fget (by decide) (by decide)

theorem State.ringClaimed_fget {ty : PageType} (hp : (pageOf p).map Prod.fst = some ty) (s : State) (n k : Nat) (f : Fld) :
    (s.ringClaimed n k).fget p f = s.fget p f :=
  (s.startPhase_sends n _).fget hp (by cases ty <;> rfl)

theorem State.ringClaimed_pair (s : State) (n k : Nat) : (s.ringClaimed n k).pair = s.pair := s.startPhase_sends n _ .pair rfl

theorem State.tailClaimed_fget {ty : PageType} (hp : (pageOf p).map Prod.fst = some ty) (h : DUD.OWN.EPOCH.Apart f) (e : Nat)
    (s : State) (n : Nat) : (s.tailClaimed e n).fget p f = s.fget p f := by
  unfold State.tailClaimed
  split
  · rw [State.ringClaimed_fget hp, State.fset_fget_apart h]
  · rw [State.fset_fget_apart h]

theorem State.tailClaimed_epoch (e : Nat) (s : State) (n : Nat) :
    (s.tailClaimed e n).fget (pgDud n) DUD.OWN.EPOCH = e % 65536 := by
  have hset : (s.fset (pgDud n) DUD.OWN.EPOCH e).fget (pgDud n) DUD.OWN.EPOCH = e % 65536 := State.fget_fset_self _ _ _ _ (by decide)
  unfold State.tailClaimed
  split
  · rw [State.ringClaimed_fget (pageOf_dud_type n), hset]
  · exact hset

theorem State.tailClaimed_epoch_keeps {s : State} (h : s.fget (pgDud i) DUD.OWN.EPOCH = e % 65536) (n : Nat) :
    (s.tailClaimed e n).fget (pgDud i) DUD.OWN.EPOCH = e % 65536 := by
  by_cases hn : pgDud i = pgDud n
  · rw [hn]
    exact State.tailClaimed_epoch e s n
  · unfold State.tailClaimed
    split
    · rw [State.ringClaimed_fget (pageOf_dud_type i), State.fset_fget_away hn, h]
    · rw [State.fset_fget_away hn, h]

theorem State.headClaimed_fget {ty : PageType} (hp : (pageOf p).map Prod.fst = some ty) (s : State) (n : Nat) (f : Fld) :
    (s.headClaimed n).fget p f = s.fget p f := by
  unfold State.headClaimed
  split
  · rfl
  · exact State.ringClaimed_fget hp ..

theorem State.ringsClaimed_fget {ty : PageType} (hp : (pageOf p).map Prod.fst = some ty) (h : DUD.OWN.EPOCH.Apart f) (s : State)
    (e : Nat) : (s.ringsClaimed e).fget p f = s.fget p f :=
  List.foldlRecOn _ _ (motive := fun t : State => t.fget p f = s.fget p f)
    (List.foldlRecOn _ _ (motive := fun t : State => t.fget p f = s.fget p f) rfl fun t ht n _ =>
      (State.tailClaimed_fget hp h e t n).trans ht)
    fun t ht n _ => (State.headClaimed_fget hp t n f).trans ht

theorem State.ringsClaimed_take (s : State) (e : Nat) : (s.ringsClaimed e).pair = s.pair := by
  have htail (t : State) (n : Nat) : (t.tailClaimed e n).pair = t.pair := by
    unfold State.tailClaimed
    split
    · exact State.ringClaimed_pair ..
    · rfl
  have hhead (t : State) (n : Nat) : (t.headClaimed n).pair = t.pair := by
    unfold State.headClaimed
    split
    · rfl
    · exact State.ringClaimed_pair ..
  exact List.foldlRecOn _ _ (motive := fun t : State => t.pair = s.pair)
    (List.foldlRecOn _ _ (motive := fun t : State => t.pair = s.pair) rfl fun t ht n _ => (htail t n).trans ht)
    fun t ht n _ => (hhead t n).trans ht

theorem State.ringsClaimed_epoch (h : n ∈ s.pairedRings) (e : Nat) : (s.ringsClaimed e).fget (pgDud n) DUD.OWN.EPOCH = e % 65536 := by
  refine List.foldlRecOn _ _ (motive := fun t : State => t.fget (pgDud n) DUD.OWN.EPOCH = e % 65536) ?_ fun t ht k _ =>
    (State.headClaimed_fget (pageOf_dud_type n) t k _).trans ht
  exact foldl_establishes (Q := fun _ => True) (P := fun t : State => t.fget (pgDud n) DUD.OWN.EPOCH = e % 65536) (a := n)
    (fun _ _ _ => trivial) (fun t _ => State.tailClaimed_epoch e t n) (fun t k _ ht => State.tailClaimed_epoch_keeps ht k)
    s.pairedRings h s trivial

theorem State.pairedRings_of_fget (h : t.fget pgSys SYS.FIELD_CFG.TILE_EN = s.fget pgSys SYS.FIELD_CFG.TILE_EN)
    (h' : ∀ n, t.fget (pgDud n) DUD.CTL.ROLE = s.fget (pgDud n) DUD.CTL.ROLE) : t.pairedRings = s.pairedRings := by
  unfold State.pairedRings
  simp only [h, h']

/-! ### What a takeover shows (R496) -/

theorem State.setPairState_fget (h : PAIR.STAT.STATE.Apart f) (s : State) (n p : Nat) : (s.setPairState n).fget p f = s.fget p f := by
  unfold State.setPairState
  split
  · rfl
  · rw [State.evt_fget, State.fset_fget_apart h]

theorem State.setPairState_state (s : State) (h : n < 8) : (s.setPairState n).pairState = n := by
  unfold State.setPairState
  split
  · next hs => exact hs
  · exact (State.evt_fget ..).trans (State.fset_fget (by decide) h)

theorem State.setPairState_pair (s : State) (n : Nat) : (s.setPairState n).pair = s.pair := by
  unfold State.setPairState
  split
  · rfl
  · rw [State.evt_pair, State.fset_pair]

/-- What a takeover's record leaves of the registers. -/
theorem State.takeShown_fget {e cause slot : Nat} (h1 : PAIR.LAST_TAKE.CAUSE.Apart f) (h2 : PAIR.LAST_TAKE.SLOT.Apart f)
    (h3 : PAIR.LAST_TAKE.FRAME.Apart f) (hm : PAIR.MGEN_TX.MGEN.Apart f) (hc : PAIR.CNT.TAKEOVERS.Apart f) (s : State) (p : Nat) :
    (s.takeShown e cause slot).fget p f = (s.setPairState 4).fget p f := by
  rw [State.takeShown, State.evt_fget, State.finc_fget_apart hc, State.fset_fget_apart h3, State.fset_fget_apart h2,
    State.fset_fget_apart h1, State.mirror_fget hm]

theorem State.takeShown_take {e cause slot : Nat} (s : State) : (s.takeShown e cause slot).pair.take = s.pair.take := by
  have hquiet := ((s.setPairState 4).told_mirror (.taken (e % 65536))).keepsPair PairSt.take (fun _ => rfl)
  rw [State.takeShown, State.evt_pair, State.finc_pair, State.fset_pair, State.fset_pair, State.fset_pair, hquiet, State.setPairState_pair]

/-- The record of a takeover. -/
theorem State.takeShown_shown {e cause slot : Nat} (s : State) (hslot : slot < 4) :
    (s.takeShown e cause slot).fget pgPair PAIR.LAST_TAKE.CAUSE = cause % 4 ∧
    (s.takeShown e cause slot).fget pgPair PAIR.LAST_TAKE.SLOT = slot ∧
    (s.takeShown e cause slot).fget pgPair PAIR.LAST_TAKE.FRAME = s.frame ∧
    (s.takeShown e cause slot).fget pgPair PAIR.CNT.TAKEOVERS = min (s.fget pgPair PAIR.CNT.TAKEOVERS + 1) 65535 ∧
    ((s.takeShown e cause slot).hdr pgPair).evt.getLsbD 9 = true := by
  have hframe : ((s.setPairState 4).mirror (.taken (e % 65536))).frame = s.frame := by
    rw [State.frame, State.mirror_fget (by decide), State.setPairState_fget (by decide)]
    rfl
  have hcount : ((s.setPairState 4).mirror (.taken (e % 65536))).fget pgPair PAIR.CNT.TAKEOVERS = s.fget pgPair PAIR.CNT.TAKEOVERS := by
    rw [State.mirror_fget (by decide), State.setPairState_fget (by decide)]
  have hlt := s.frame_lt
  unfold State.takeShown
  rw [hframe]
  generalize (s.setPairState 4).mirror (.taken (e % 65536)) = y at *
  refine ⟨?_, ?_, ?_, ?_, State.evt_set _ _ _ (by decide)⟩
  · rw [State.evt_fget, State.finc_fget_apart (by decide), State.fset_fget_apart (by decide), State.fset_fget_apart (by decide),
      State.fget_fset_self _ _ _ _ (by decide)]
    rfl
  · rw [State.evt_fget, State.finc_fget_apart (by decide), State.fset_fget_apart (by decide), State.fset_fget (by decide) hslot]
  · rw [State.evt_fget, State.finc_fget_apart (by decide), State.fset_fget (by decide) hlt]
  · rw [State.evt_fget, State.finc_fget (by decide), State.fset_fget_apart (by decide), State.fset_fget_apart (by decide),
      State.fset_fget_apart (by decide), hcount]
    rfl

/-- The device drives the rings: what PAIR and the rings show of it. -/
def State.TakenOver (s t : State) (cause slot : Nat) : Prop :=
  t.pairState = 4 ∧ t.pairReady = false ∧ t.fget pgPair PAIR.LAST_TAKE.CAUSE = cause % 4 ∧
  t.fget pgPair PAIR.LAST_TAKE.SLOT = slot ∧ t.fget pgPair PAIR.LAST_TAKE.FRAME = s.frame ∧
  t.fget pgPair PAIR.CNT.TAKEOVERS = min (s.fget pgPair PAIR.CNT.TAKEOVERS + 1) 65535 ∧
  (∀ n ∈ s.pairedRings, s.fget (pgDud n) DUD.CTL.ROLE = 2 → t.fget (pgDud n) DUD.OWN.EPOCH =
    (1 + max ((s.pair.partner.map (·.epoch)).getD 0) s.epochHeld) % 65536) ∧
  (t.hdr pgPair).evt.getLsbD 9 = true

theorem State.ringsTaken_shown (s : State) (e cause : Nat) {slot : Nat} (hslot : slot < 4)
    (he : e = 1 + max ((s.pair.partner.map (·.epoch)).getD 0) s.epochHeld) :
    s.TakenOver ((s.followingLeft.ringsClaimed e).takeShown e cause slot) cause slot ∧
    ((s.followingLeft.ringsClaimed e).takeShown e cause slot).pair.take = s.pair.take := by
  obtain ⟨hcause, hsl, hframe, hcount, hevt⟩ := (s.followingLeft.ringsClaimed e).takeShown_shown (e := e) (cause := cause) hslot
  have hrings {f : Fld} (h : PAIR.STAT.READY.Apart f) (h' : DUD.OWN.EPOCH.Apart f) {p : Nat} {ty : PageType}
      (hp : (pageOf p).map Prod.fst = some ty) : (s.followingLeft.ringsClaimed e).fget p f = s.fget p f :=
    (State.ringsClaimed_fget hp h' _ e).trans (State.followingLeft_fget h ..)
  have hready : (s.followingLeft.ringsClaimed e).fget pgPair PAIR.STAT.READY = 0 :=
    (State.ringsClaimed_fget (ty := .pair) rfl (by decide) _ e).trans s.followingLeft_ready
  have hpaired : s.followingLeft.pairedRings = s.pairedRings :=
    State.pairedRings_of_fget (State.followingLeft_fget (by decide) ..) (fun n => State.followingLeft_fget (by decide) ..)
  refine ⟨⟨?_, ?_, hcause, hsl, ?_, ?_, fun n hn _ => ?_, hevt⟩, ?_⟩
  · exact (State.takeShown_fget (by decide) (by decide) (by decide) (by decide) (by decide) ..).trans
      (State.setPairState_state _ (by decide))
  · refine State.pairReady_false ?_
    rw [State.takeShown_fget (by decide) (by decide) (by decide) (by decide) (by decide), State.setPairState_fget (by decide), hready]
  · rw [hframe]
    exact hrings (by decide) (by decide) (ty := .time) rfl
  · rw [hcount, hrings (by decide) (by decide) (ty := .pair) rfl]
  · rw [State.takeShown_fget (by decide) (by decide) (by decide) (by decide) (by decide), State.setPairState_fget (by decide),
      State.ringsClaimed_epoch (by rw [hpaired]; exact hn), he]
  · rw [State.takeShown_take, State.ringsClaimed_take, State.followingLeft_take]

theorem exec_takeover_takes (slot : Fin 4) {k : TakeSt} (hp : s.boot.powered = true) (hk : s.pair.take = some k)
    (hd : k.found + 2000 ≤ s.mono) : ∃ t : State, exec (.takeover slot) s = .next t.settle ∧ t.pair.take = none ∧
      (s.pairShadow = false ∨ s.tripped = true → t = s.takeOver) ∧
      (s.pairShadow = true → s.tripped = false → s.TakenOver t k.cause slot) := by
  have hshadow : s.takeOver.pairShadow = s.pairShadow := rfl
  have htrip : s.takeOver.tripped = s.tripped := rfl
  rw [exec_takeover_on hp, State.takeover_due hk hd, hshadow, htrip]
  refine ⟨_, rfl, ?_⟩
  by_cases h : s.pairShadow = true ∧ s.tripped = false
  · obtain ⟨hs, ht⟩ := h
    rw [hs, ht]
    obtain ⟨htaken, htake⟩ := s.takeOver.ringsTaken_shown s.takeOver.takeEpoch k.cause slot.isLt rfl
    exact ⟨htake, fun h => by simp at h, fun _ _ => htaken⟩
  · have hcond : (!s.pairShadow || s.tripped) = true := by
      cases hs : s.pairShadow <;> cases ht : s.tripped <;> simp_all
    rw [if_pos hcond]
    exact ⟨rfl, fun _ => rfl, fun hs ht => absurd ⟨hs, ht⟩ h⟩

/-! ### The obligation -/

/-- Settles O57: PAIR's time and its commands, one by one. -/
theorem pairTakesOverAndResynchronises : Obligations.PairTakesOverAndResynchronises := by
  unfold Obligations.PairTakesOverAndResynchronises
  refine fun s => ⟨fun p c b hp hc hb => exec_outcomeWaitExpiry_abandons p hp hc hb, fun p hp h => ?_,
    fun d hp h => exec_heartbeatMiss_counts hp h, fun hp h => ?_, fun slot k hp hk hd => exec_takeover_takes slot hp hk hd,
    fun slot hp h => ?_, fun tile targets k hp => ⟨fun h => ?_, exec_tailPacketRx_checks tile targets k hp⟩,
    exec_pairLeaseRenew_renews, exec_resync_starts, exec_resyncCopyDone_ends, fun hp h => ?_, exec_switchover_starts⟩
  · rw [exec_outcomeWaitExpiry_on hp, State.outcomeExpiry_idle h]
  · rw [exec_heartbeatMiss_on hp, State.heartbeatMiss_none h]
  · rw [exec_takeover_on hp, State.takeover_early h]
  · rw [exec_tailPacketRx_on hp, State.tailPacket_other h]
  · rw [exec_resyncCopyDone_on hp, State.resyncCopyDone_idle h]

end Sys2Proof.Machine
end

section
/-! PROOFS. What a MIRROR message does to the device that hears it: commits, outcomes, blocks, lists, commands and rings (R480,
R481, R484 to R488, R494, R500, R501). -/

namespace Sys2Proof.Machine

variable {s t u o : State} {d k i n p q v w m c a : Nat} {f g : Fld} {x : MirrorPend}

/-! ### A message is heard (R480, R481) -/

/-- MGEN_RX has the message's MGEN, and a gap has cleared READY. -/
def State.mirrorHeard (s : State) (n : Nat) : State :=
  if n ≠ (s.fget pgPair PAIR.MGEN_RX.MGEN + 1) % 2 ^ 32 then (s.fset pgPair PAIR.MGEN_RX.MGEN n).clearReady 2
  else s.fset pgPair PAIR.MGEN_RX.MGEN n

theorem State.mirrorRx_trusted (h : s.link4Trusted = true) (n : Nat) (f : State → State) : s.mirrorRx n f = f (s.mirrorHeard n) := by
  unfold State.mirrorRx State.mirrorHeard
  rw [if_pos h]

theorem State.mirrorRx_untrusted (h : s.link4Trusted = false) (n : Nat) (f : State → State) : s.mirrorRx n f = s := by
  unfold State.mirrorRx
  rw [h]
  rfl

/-- Over a trusted LINK4 every message is followed by the state that has heard it. -/
theorem State.mirror_followed (hp : s.boot.powered = true) (h : s.link4Trusted = true) (n : Nat) (f : State → State) :
    (Host.Outcome.next (s.live fun s => (s.mirrorRx n f).settle) : Host.Outcome State Fault Refusal) =
      .next (f (s.mirrorHeard n)).settle := by
  rw [State.live_on hp, State.mirrorRx_trusted h]

/-- Over any other LINK4 no message is heard. -/
theorem State.mirror_unheard (hp : s.boot.powered = true) (h : s.link4Trusted = false) (n : Nat) (f : State → State) :
    (Host.Outcome.next (s.live fun s => (s.mirrorRx n f).settle) : Host.Outcome State Fault Refusal) = .next s.settle := by
  rw [State.live_on hp, State.mirrorRx_untrusted h]

theorem State.clearReady_reason (h : s.pairFollows = true) (hn : n < 16) : (s.clearReady n).fget pgPair PAIR.STAT.NR_REASON =
    if s.pairReady = true ∨ s.fget pgPair PAIR.STAT.NR_REASON = 0 then n else s.fget pgPair PAIR.STAT.NR_REASON := by
  have hlost : (s.hasDiverged.readyLost n).fget pgPair PAIR.STAT.NR_REASON =
      if s.pairReady = true ∨ s.fget pgPair PAIR.STAT.NR_REASON = 0 then n else s.fget pgPair PAIR.STAT.NR_REASON := by
    unfold State.readyLost State.hasDiverged State.pairReady
    simp only [State.setPair_fbit, State.setPair_fget, Bool.or_eq_true, decide_eq_true_eq]
    split
    · exact State.fset_fget (by decide) hn
    · exact State.setPair_fget ..
  rw [State.clearReady_eq, if_pos h]
  split
  · rw [State.evt_fget, hlost]
  · exact hlost

theorem State.mirrorHeard_same (s : State) (n : Nat) : State.SameBut [.pair, .out, .page .pair] s (s.mirrorHeard n) := by
  have hset : State.SameBut [.pair, .out, .page .pair] s (s.fset pgPair PAIR.MGEN_RX.MGEN n) :=
    State.fset_same (State.SameOutside.refl _ s) rfl (pageMask_pair rfl)
  exact State.SameOutside.ite (State.clearReady_same hset rfl) hset

theorem State.mirrorHeard_fget (hm : PAIR.MGEN_RX.MGEN.Apart f) (hr : PAIR.STAT.READY.Apart f) (hn : PAIR.STAT.NR_REASON.Apart f)
    (s : State) (n : Nat) : (s.mirrorHeard n).fget p f = s.fget p f := by
  unfold State.mirrorHeard
  split
  · rw [State.clearReady_fget hr hn, State.fset_fget_apart hm]
  · rw [State.fset_fget_apart hm]

theorem State.mirrorHeard_pairState (s : State) (n : Nat) : (s.mirrorHeard n).pairState = s.pairState :=
  State.mirrorHeard_fget (by decide) (by decide) (by decide) s n

theorem State.mirrorHeard_keepsPair {α : Type} (x : PairSt → α) (hx : ∀ y, x { y with diverged := true, goodRun := none } = x y)
    (s : State) (n : Nat) : x (s.mirrorHeard n).pair = x s.pair := by
  unfold State.mirrorHeard
  split
  · rw [State.clearReady_keepsPair x hx, State.fset_pair]
  · rw [State.fset_pair]

theorem State.mirrorHeard_gap (h : n ≠ (s.fget pgPair PAIR.MGEN_RX.MGEN + 1) % 2 ^ 32) :
    s.mirrorHeard n = (s.fset pgPair PAIR.MGEN_RX.MGEN n).clearReady 2 := if_pos h

theorem State.mirrorHeard_next (h : ¬(n ≠ (s.fget pgPair PAIR.MGEN_RX.MGEN + 1) % 2 ^ 32 ∧ s.pairFollows = true)) :
    s.mirrorHeard n = s.fset pgPair PAIR.MGEN_RX.MGEN n := by
  unfold State.mirrorHeard
  split
  · next hgap =>
    refine State.clearReady_apart ?_ 2
    rw [State.pairFollows_of_fget (t := s.fset pgPair PAIR.MGEN_RX.MGEN n) (s := s) (State.fset_fget_apart (by decide))]
    simpa using fun hf => h ⟨hgap, hf⟩
  · rfl

theorem State.mirrorHeard_heard (s : State) (h : n < 2 ^ 32) : State.Heard n s (s.mirrorHeard n) := by
  refine ⟨?_, s.mirrorHeard_pairState n, fun hnext => ?_, fun hgap hf => ?_, s.mirrorHeard_same n⟩
  · have hset : (s.fset pgPair PAIR.MGEN_RX.MGEN n).fget pgPair PAIR.MGEN_RX.MGEN = n := State.fset_fget (by decide) h
    unfold State.mirrorHeard
    split
    · rw [State.clearReady_fget (by decide) (by decide), hset]
    · exact hset
  · rw [State.mirrorHeard_next fun ⟨hgap, hf⟩ => hnext.elim hgap (by simp [hf])]
    exact ⟨rfl, State.fset_word_other (by decide)⟩
  · have hf' : (s.fset pgPair PAIR.MGEN_RX.MGEN n).pairFollows = true :=
      (State.pairFollows_of_fget (State.fset_fget_apart (by decide))).trans hf
    have hready : (s.fset pgPair PAIR.MGEN_RX.MGEN n).pairReady = s.pairReady :=
      State.pairReady_of_fget (State.fset_fget_apart (by decide))
    rw [State.mirrorHeard_gap hgap]
    refine ⟨State.clearReady_pair hf' 2, State.clearReady_ready hf' 2, ?_⟩
    rw [State.clearReady_reason hf' (by decide), hready, State.fset_fget_apart (by decide)]

theorem State.mirrorHeard_follows (s : State) (n : Nat) : (s.mirrorHeard n).pairFollows = s.pairFollows :=
  State.pairFollows_of_fget (s.mirrorHeard_pairState n)

theorem State.mirrorHeard_shadow (s : State) (n : Nat) : (s.mirrorHeard n).pairShadow = s.pairShadow :=
  State.pairShadow_of_state (s.mirrorHeard_pairState n)

theorem State.mirrorHeard_active (s : State) (n : Nat) : (s.mirrorHeard n).pairActive = s.pairActive :=
  State.pairActive_of_state (s.mirrorHeard_pairState n)

theorem State.mirrorHeard_mono (s : State) (n : Nat) : (s.mirrorHeard n).mono = s.mono := s.mirrorHeard_same n .mono (by decide)

theorem State.mirrorHeard_frame (s : State) (n : Nat) : (s.mirrorHeard n).frame = s.frame := (s.mirrorHeard_same n).fget (ty := .time) rfl (by decide)

/-! ### COMMIT (R485) -/

/-- A mirrored commit waits, and its page shows it. -/
def State.mirrorStored (s : State) (p : Nat) (x : MirrorPend) : State :=
  (s.setMirrorPend p (some x)).setHdr p { s.hdr p with commitState := 1, commitReason := 0 }

/-- A mirrored commit is refused, which is a divergence. -/
def State.mirrorRefused (s : State) (p r : Nat) : State := (s.refuseCommit [p] p r).clearReady 3

theorem exec_mirrorCommitRx_trusted (hp : s.boot.powered = true) (h : s.link4Trusted = true) (mgen : BitVec 32) (p : Fin 128)
    (gen : BitVec 16) (boundary : Fin 4) (group : Bool) (entries : List (BitVec 12 × BitVec 32)) :
    exec (.mirrorCommitRx mgen p gen boundary group entries) s =
      .next ((s.mirrorHeard mgen.toNat).mirrorCommitRx p ⟨gen.toNat, boundary, group,
        entries.map (fun e => (e.1.toNat, e.2.toNat)), none⟩).settle :=
  State.mirror_followed hp h mgen.toNat _

theorem State.mirrorCommitRx_apart (h : s.pairFollows = false ∨ mirroredPage p = false) (x : MirrorPend) : s.mirrorCommitRx p x = s := by
  unfold State.mirrorCommitRx
  exact if_pos (by rcases h with h | h <;> simp [h])

/-- What a device that follows makes of the commit of a mirrored page. -/
theorem State.mirrorCommitRx_follows (h : s.pairFollows = true) (hm : mirroredPage p = true) (x : MirrorPend) :
    s.mirrorCommitRx p x = if (s.mirrorPend p).isSome then s.mirrorRefused p 2
      else if x.group && x.boundary ≠ 2 then s.mirrorStored p x
      else match s.mirrorCheck p x with
        | some r => s.mirrorRefused p r
        | none => if x.boundary = 2 then s.mirrorApply p x else s.mirrorStored p x := by
  unfold State.mirrorCommitRx
  rw [if_neg (by simp [h, hm])]
  rfl

theorem State.mirrorCommitRx_waiting (h : s.pairFollows = true) (hm : mirroredPage p = true) (hw : (s.mirrorPend p).isSome = true)
    (x : MirrorPend) : s.mirrorCommitRx p x = s.mirrorRefused p 2 := by
  rw [State.mirrorCommitRx_follows h hm, if_pos hw]

theorem State.mirrorCommitRx_stored (h : s.pairFollows = true) (hm : mirroredPage p = true) (hw : s.mirrorPend p = none)
    (hx : x.group = true ∧ x.boundary ≠ 2 ∨ s.mirrorCheck p x = none ∧ x.boundary ≠ 2) :
    s.mirrorCommitRx p x = s.mirrorStored p x := by
  rw [State.mirrorCommitRx_follows h hm, hw, if_neg (by simp)]
  split
  · rfl
  · next hg =>
    obtain ⟨hc, hb⟩ := hx.resolve_left (by simpa using hg)
    rw [hc]
    exact if_neg hb

theorem State.mirrorCommitRx_applied (h : s.pairFollows = true) (hm : mirroredPage p = true) (hw : s.mirrorPend p = none)
    (hb : x.boundary = 2) (hc : s.mirrorCheck p x = none) : s.mirrorCommitRx p x = s.mirrorApply p x := by
  rw [State.mirrorCommitRx_follows h hm, hw, if_neg (by simp), if_neg (by simp [hb]), hc]
  exact if_pos hb

theorem State.mirrorCommitRx_refused (h : s.pairFollows = true) (hm : mirroredPage p = true) (hw : s.mirrorPend p = none)
    (hx : x.group = false ∨ x.boundary = 2) (hc : s.mirrorCheck p x = some w) : s.mirrorCommitRx p x = s.mirrorRefused p w := by
  rw [State.mirrorCommitRx_follows h hm, hw, if_neg (by simp), if_neg (by rcases hx with hx | hx <;> simp [hx]), hc]

/-- A commit that waits shows itself on its own page alone. -/
theorem State.mirrorStored_shown (s : State) (p : Nat) (x : MirrorPend) : (s.mirrorStored p x).mirrorPend p = some x ∧
    ((s.mirrorStored p x).hdr p).commitState = 1 ∧ ((s.mirrorStored p x).hdr p).commitReason = 0 ∧
    ∀ q, q ≠ p → (s.mirrorStored p x).hdr q = s.hdr q ∧ (s.mirrorStored p x).mirrorPend q = s.mirrorPend q := by
  have hpend (q : Nat) : (s.mirrorStored p x).mirrorPend q = (s.setMirrorPend p (some x)).mirrorPend q :=
    State.mirrorPend_of_pair rfl q
  unfold State.mirrorStored at *
  refine ⟨(hpend p).trans (State.setMirrorPend_self ..), by rw [State.setHdr_hdr_self], by rw [State.setHdr_hdr_self],
    fun q hq => ⟨State.setHdr_hdr_other _ _ _ _ hq, (hpend q).trans (State.setMirrorPend_other hq _)⟩⟩

/-! ### OUTCOME (R486) -/

theorem exec_mirrorOutcomeRx_trusted (hp : s.boot.powered = true) (h : s.link4Trusted = true) (mgen : BitVec 32) (p : Fin 128)
    (st : Fin 8) : exec (.mirrorOutcomeRx mgen p st) s = .next ((s.mirrorHeard mgen.toNat).outcomeRx p st).settle :=
  State.mirror_followed hp h mgen.toNat (fun s => s.outcomeRx p st)

theorem State.outcomeRx_apart (h : s.pairFollows = false) (p k : Nat) : s.outcomeRx p k = s := by
  unfold State.outcomeRx
  exact if_pos (by simp [h])

theorem State.outcomeRx_none (h : s.pairFollows = true) (hx : s.mirrorPend p = none) (k : Nat) :
    s.outcomeRx p k = s.clearReady 3 := by
  unfold State.outcomeRx
  rw [if_neg (by simp [h]), hx]

/-- The partner has applied a commit: so does the device, if a group that waits is valid here too. -/
def State.outcomeApplied (s : State) (p : Nat) (x : MirrorPend) : State :=
  match (if x.group then s.mirrorCheck p x else none) with
  | none => (s.setMirrorPend p none).mirrorApply p x
  | some _ => (s.mirrorAbandon p).clearReady 3

theorem State.outcomeRx_some (h : s.pairFollows = true) (hx : s.mirrorPend p = some x) (k : Nat) : s.outcomeRx p k =
    if k = 2 then s.outcomeApplied p x else if k = 4 then s.mirrorDefer p x else s.mirrorAbandon p := by
  unfold State.outcomeRx
  rw [if_neg (by simp [h]), hx]
  rfl

theorem State.outcomeRx_applies (h : s.pairFollows = true) (hx : s.mirrorPend p = some x)
    (hc : x.group = false ∨ s.mirrorCheck p x = none) : s.outcomeRx p 2 = (s.setMirrorPend p none).mirrorApply p x := by
  have hnone : (if x.group then s.mirrorCheck p x else none) = none := by
    rcases hc with hc | hc <;> simp [hc]
  rw [State.outcomeRx_some h hx, if_pos rfl, State.outcomeApplied, hnone]

theorem State.outcomeRx_fails (h : s.pairFollows = true) (hx : s.mirrorPend p = some x) (hg : x.group = true)
    (hc : s.mirrorCheck p x ≠ none) : s.outcomeRx p 2 = (s.mirrorAbandon p).clearReady 3 := by
  obtain ⟨r, hr⟩ := Option.ne_none_iff_exists'.mp hc
  rw [State.outcomeRx_some h hx, if_pos rfl, State.outcomeApplied, hg, if_pos rfl, hr]

theorem State.outcomeRx_defers (h : s.pairFollows = true) (hx : s.mirrorPend p = some x) : s.outcomeRx p 4 = s.mirrorDefer p x := by
  rw [State.outcomeRx_some h hx, if_neg (by decide), if_pos rfl]

theorem State.outcomeRx_abandons (h : s.pairFollows = true) (hx : s.mirrorPend p = some x) (h2 : k ≠ 2) (h4 : k ≠ 4) :
    s.outcomeRx p k = s.mirrorAbandon p := by
  rw [State.outcomeRx_some h hx, if_neg h2, if_neg h4]

/-- A mirrored commit that is deferred waits for the next boundary of its kind, and its page shows it. -/
def State.deferShown (s : State) (p : Nat) (x : MirrorPend) : State :=
  (s.setMirrorPend p (some { x with since := none })).setHdr p { s.hdr p with commitState := 4 }

theorem State.mirrorDefer_eq (s : State) (p : Nat) (x : MirrorPend) : s.mirrorDefer p x =
    if compositionPages.contains p then ((s.deferShown p x).finc pgCmp CMP.COMMIT_STAT.DEFERS).evt pgCmp 8 else s.deferShown p x := rfl

theorem State.mirrorDefer_shown (s : State) (p : Nat) (x : MirrorPend) :
    (s.mirrorDefer p x).mirrorPend p = some { x with since := none } ∧ ((s.mirrorDefer p x).hdr p).commitState = 4 := by
  have hpend : (s.deferShown p x).mirrorPend p = some { x with since := none } :=
    (State.mirrorPend_of_pair rfl p).trans (s.setMirrorPend_self p _)
  have hst : ((s.deferShown p x).hdr p).commitState = 4 := by
    rw [State.deferShown, State.setHdr_hdr_self]
  rw [State.mirrorDefer_eq]
  split
  · refine ⟨(State.mirrorPend_of_pair ((State.evt_pair ..).trans (State.finc_pair ..)) p).trans hpend, ?_⟩
    rw [State.evt_hdr_commitState, State.finc_hdr, hst]
  · exact ⟨hpend, hst⟩

/-! ### BLOCK, REBUILD and LIST (R487, R488) -/

theorem exec_mirrorBlockRx_trusted (hp : s.boot.powered = true) (h : s.link4Trusted = true) (mgen : BitVec 32) (block : BitVec 27)
    (tag : BitVec 8) (poison : Bool) (data : BitVec 256) : exec (.mirrorBlockRx mgen block tag poison data) s =
      .next (if s.pairFollows = true ∧ block.toNat < dramBlocks then
        ((s.mirrorHeard mgen.toNat).admitWrite 0xC block.toNat data.toNat tag.toNat poison).settle else (s.mirrorHeard mgen.toNat).settle) := by
  refine (State.mirror_followed hp h mgen.toNat (fun s => s.mirrorBlockRx block.toNat tag.toNat poison data.toNat)).trans ?_
  rw [State.mirrorBlockRx, State.mirrorHeard_follows]
  simp only [Bool.and_eq_true, decide_eq_true_eq, apply_ite State.settle]

theorem State.mirrorHeard_framePassed (s : State) (n k : Nat) : (s.mirrorHeard n).framePassed k = s.framePassed k := by
  unfold State.framePassed
  rw [State.mirrorHeard_frame]

theorem exec_mirrorRebuildRx_trusted (hp : s.boot.powered = true) (h : s.link4Trusted = true) (mgen : BitVec 32) (buffer : Fin 2)
    (gen : BitVec 16) (ceilings : Vector (BitVec 16) 16) (frame : BitVec 16) :
    exec (.mirrorRebuildRx mgen buffer gen ceilings frame) s =
      .next (if s.pairFollows = false then (s.mirrorHeard mgen.toNat).settle
        else if s.framePassed frame.toNat = true then ((s.mirrorHeard mgen.toNat).clearReady 3).settle
        else ((s.mirrorHeard mgen.toNat).setPair (fun x => { x with
          rebuild := some (frame.toNat, buffer.val, gen.toNat, ceilings.toList.map BitVec.toNat) })).settle) := by
  refine (State.mirror_followed hp h mgen.toNat
    (fun s => s.mirrorRebuildRx buffer gen.toNat (ceilings.toList.map BitVec.toNat) frame.toNat)).trans ?_
  rw [State.mirrorRebuildRx, State.mirrorHeard_follows, State.mirrorHeard_framePassed]
  simp only [Bool.not_eq_true', apply_ite State.settle]

/-- A change to the fault list waits for its boundary. -/
def State.listPosted (s : State) (x : ListChange) : State := { s with diag := { s.diag with posted := s.diag.posted ++ [x] } }

theorem State.mirrorListRx_eq (s : State) (e : Nat) (short remove : Bool) (k : Nat) : s.mirrorListRx e short remove k =
    if !s.pairFollows then s else if s.framePassed k then s.clearReady 3
    else s.listPosted ⟨e, if remove then 0 else if short then 2 else 1, s.mono, some k⟩ := rfl

theorem exec_mirrorListRx_trusted (hp : s.boot.powered = true) (h : s.link4Trusted = true) (mgen : BitVec 32) (e : BitVec 23)
    (short remove : Bool) (frame : BitVec 16) : exec (.mirrorListRx mgen e short remove frame) s =
      .next (if s.pairFollows = false then (s.mirrorHeard mgen.toNat).settle
        else if s.framePassed frame.toNat = true then ((s.mirrorHeard mgen.toNat).clearReady 3).settle
        else ((s.mirrorHeard mgen.toNat).listPosted
          ⟨e.toNat, if remove then 0 else if short then 2 else 1, s.mono, some frame.toNat⟩).settle) := by
  refine (State.mirror_followed hp h mgen.toNat (fun s => s.mirrorListRx e.toNat short remove frame.toNat)).trans ?_
  rw [State.mirrorListRx_eq, State.mirrorHeard_follows, State.mirrorHeard_framePassed, State.mirrorHeard_mono]
  simp only [Bool.not_eq_true', apply_ite State.settle]

/-! ### COMMAND (R488) -/

theorem exec_mirrorCommandRx_trusted (hp : s.boot.powered = true) (h : s.link4Trusted = true) (mgen : BitVec 32) (p : Fin 128)
    (opcode : BitVec 8) (arg : BitVec 24) : exec (.mirrorCommandRx mgen p opcode arg) s =
      .next ((s.mirrorHeard mgen.toNat).mirrorCommandRx p opcode.toNat arg.toNat).settle :=
  State.mirror_followed hp h mgen.toNat (fun s => s.mirrorCommandRx p opcode.toNat arg.toNat)

theorem State.mirrorCommandRx_apart (h : ¬(s.pairFollows = true ∧ p = pgMatte ∧ c = 0x10)) (v : Nat) :
    s.mirrorCommandRx p c v = s := by
  unfold State.mirrorCommandRx
  exact if_neg (by simpa [and_assoc] using h)

/-- What comes of the VERIFY that PAIR has issued. -/
def State.verifyFollowed (s : State) : State :=
  match (s.hdr pgMatte).run with
  | some r => if r.issuer = 0xC then s.setPair (fun x => { x with verifying := true }) else s.clearReady 3
  | none => s.clearReady 3

theorem State.mirrorCommandRx_verify (h : s.pairFollows = true) (v : Nat) :
    s.mirrorCommandRx pgMatte 0x10 v = (s.cmdWrite 0xC pgMatte 0x10 v).verifyFollowed := by
  unfold State.mirrorCommandRx
  exact if_pos (by simp [h])

theorem State.cmdRefused_verify (s : State) (m v : Nat) : s.cmdRefused m pgMatte 0x10 v = firstReason [(s.mattePending, 0x20)] := by
  unfold State.cmdRefused
  exact if_neg (by decide)

theorem State.cmdWrite_verify (hr : (s.hdr pgMatte).run = none) (hm : s.mattePending = false) (m v : Nat) :
    s.cmdWrite m pgMatte 0x10 v = (s.cmdStart pgMatte 0x10 v m).fset pgMatte MATTE.STAT.VERIFY_BUSY 1 := by
  have href : s.cmdRefused m pgMatte 0x10 v = none := by
    rw [State.cmdRefused_verify, hm]
    rfl
  unfold State.cmdWrite
  rw [hr, if_neg (by simp), if_neg (by decide), href]
  rfl

theorem State.cmdWrite_verify_refused (hr : (s.hdr pgMatte).run = none) (hm : s.mattePending = true) (m v : Nat) :
    s.cmdWrite m pgMatte 0x10 v = (s.usage pgMatte).cmdEnd pgMatte 0x10 m 3 0x20 := by
  have href : s.cmdRefused m pgMatte 0x10 v = some 0x20 := by
    rw [State.cmdRefused_verify, hm]
    rfl
  unfold State.cmdWrite
  rw [hr, if_neg (by simp), if_neg (by decide), href]

theorem State.mattePending_of (h : State.SamePage pgMatte s t) : t.mattePending = s.mattePending := by
  unfold State.mattePending State.pget
  rw [h.1, (h.2 MATTE.BASE.BASE.off).2.2.1, (h.2 MATTE.TAG.TAG.off).2.2.1, h.fget, h.fget]

theorem State.mirrorHeard_matte (s : State) (n : Nat) : State.SamePage pgMatte s (s.mirrorHeard n) :=
  s.mirrorHeard_same n (.page .matte) (by decide) pgMatte rfl

/-- VERIFY runs for PAIR. -/
def State.verifyAccepted (s : State) (v : Nat) : State :=
  ((s.cmdStart pgMatte 0x10 v 0xC).fset pgMatte MATTE.STAT.VERIFY_BUSY 1).setPair (fun x => { x with verifying := true })

theorem State.mirrorCommandRx_accepted (h : s.pairFollows = true) (hr : (s.hdr pgMatte).run = none) (hm : s.mattePending = false)
    (v : Nat) : s.mirrorCommandRx pgMatte 0x10 v = s.verifyAccepted v := by
  have hrun : (((s.cmdStart pgMatte 0x10 v 0xC).fset pgMatte MATTE.STAT.VERIFY_BUSY 1).hdr pgMatte).run = some ⟨0x10, v, 0xC⟩ :=
    State.cmdStart_run s pgMatte
  rw [State.mirrorCommandRx_verify h, State.cmdWrite_verify hr hm]
  unfold State.verifyFollowed
  rw [hrun]
  rfl

theorem State.verifyAccepted_runs (s : State) (v : Nat) : (s.verifyAccepted v).Runs pgMatte 0x10 v 0xC ∧
    (s.verifyAccepted v).fget pgMatte MATTE.STAT.VERIFY_BUSY = 1 ∧ (s.verifyAccepted v).pair.verifying = true :=
  ⟨(State.cmdStart_runs s pgMatte).fset .., (State.setPair_fget ..).trans (State.fset_fget (by decide) (by decide)), rfl⟩

theorem State.usage_hdr_run (s : State) (p : Nat) : ((s.usage p).hdr p).run = (s.hdr p).run := by
  unfold State.usage
  dsimp only
  split
  · rw [State.evt_hdr_run, State.setHdr_hdr_self]
  · rfl

theorem State.cmdEnd_shown (s : State) (p c m k w : Nat) : ((s.cmdEnd p c m k w).hdr p).run = (s.hdr p).run ∧
    ((s.cmdEnd p c m k w).hdr p).cmdState = k ∧ ((s.cmdEnd p c m k w).hdr p).cmdReason = w ∧
    ((s.cmdEnd p c m k w).hdr p).cmdIssuer = m := by
  unfold State.cmdEnd
  rw [State.evt_hdr_run, State.evt_hdr_cmdState, State.evt_hdr_cmdReason, State.evt_hdr_cmdIssuer, State.setHdr_hdr_self]
  exact ⟨rfl, rfl, rfl, rfl⟩

/-- VERIFY is refused to PAIR. -/
def State.verifyRefused (s : State) : State := (s.usage pgMatte).cmdEnd pgMatte 0x10 0xC 3 0x20

theorem State.verifyRefused_shown (hr : (s.hdr pgMatte).run = none) : (s.verifyRefused.hdr pgMatte).run = none ∧
    (s.verifyRefused.hdr pgMatte).cmdState = 3 ∧ (s.verifyRefused.hdr pgMatte).cmdReason = 0x20 ∧
    (s.verifyRefused.hdr pgMatte).cmdIssuer = 0xC := by
  obtain ⟨hrun, hshown⟩ := (s.usage pgMatte).cmdEnd_shown pgMatte 0x10 0xC 3 0x20
  exact ⟨by rw [State.verifyRefused, hrun, State.usage_hdr_run, hr], hshown⟩

theorem State.mirrorCommandRx_refused (h : s.pairFollows = true) (hr : (s.hdr pgMatte).run = none) (hm : s.mattePending = true)
    (v : Nat) : s.mirrorCommandRx pgMatte 0x10 v = s.verifyRefused.clearReady 3 := by
  rw [State.mirrorCommandRx_verify h, State.cmdWrite_verify_refused hr hm]
  unfold State.verifyFollowed
  rw [← State.verifyRefused, (State.verifyRefused_shown hr).1]

/-! ### SPLIT and YIELD (R494, R500) -/

theorem State.splitRx_eq (s : State) (n lo hi : Nat) (join : Bool) : s.splitRx n lo hi join =
    if s.pairShadow = false then s else if join = true then s.setDud n { s.dud n with joinDue := true }
    else if s.pairReady = true then s.claimStart n lo hi false else s := by
  unfold State.splitRx
  simp only [Bool.not_eq_true']

theorem exec_mirrorSplitRx_trusted (hp : s.boot.powered = true) (h : s.link4Trusted = true) (mgen : BitVec 32) (tile : Fin 16)
    (lo hi : BitVec 8) (join : Bool) : exec (.mirrorSplitRx mgen tile lo hi join) s =
      .next (if s.pairShadow = false then (s.mirrorHeard mgen.toNat).settle
        else if join = true then ((s.mirrorHeard mgen.toNat).setDud tile
          { (s.mirrorHeard mgen.toNat).dud tile with joinDue := true }).settle
        else if (s.mirrorHeard mgen.toNat).pairReady = true then
          ((s.mirrorHeard mgen.toNat).claimStart tile lo.toNat hi.toNat false).settle
        else (s.mirrorHeard mgen.toNat).settle) := by
  refine (State.mirror_followed hp h mgen.toNat (fun s => s.splitRx tile lo.toNat hi.toNat join)).trans ?_
  rw [State.splitRx_eq, State.mirrorHeard_shadow]
  simp only [apply_ite State.settle]

theorem State.takeCause_eq (s : State) (k : Nat) : s.takeCause k =
    if s.pairShadow = false ∨ s.pairReady = false then s else if s.inhibited = true then s.evt pgPair 14
    else if s.pair.take.isSome = true then s else s.setPair (fun x => { x with take := some ⟨k, s.mono⟩ }) := by
  unfold State.takeCause
  simp only [Bool.or_eq_true, Bool.not_eq_true']

theorem State.inhibited_of (hs : t.safe = s.safe) (hsaf : t.fget pgSaf SAF.CTL.GROUP_EN = s.fget pgSaf SAF.CTL.GROUP_EN)
    (hgrd : t.fget pgGrd GRD.CTL.GROUP_EN = s.fget pgGrd GRD.CTL.GROUP_EN) (hp : t.pair.partner = s.pair.partner) :
    t.inhibited = s.inhibited := by
  unfold State.inhibited State.groupEn State.group
  rw [hs, hsaf, hgrd, hp]

theorem State.mirrorHeard_inhibited (s : State) (n : Nat) : (s.mirrorHeard n).inhibited = s.inhibited :=
  State.inhibited_of (s.mirrorHeard_same n .safe (by decide)) ((s.mirrorHeard_same n).fget (ty := .saf) rfl (by decide))
    ((s.mirrorHeard_same n).fget (ty := .grd) rfl (by decide)) (State.mirrorHeard_keepsPair PairSt.partner (fun _ => rfl) s n)

theorem exec_mirrorYieldRx_trusted (hp : s.boot.powered = true) (h : s.link4Trusted = true) (mgen : BitVec 32) (cause : Fin 8) :
    exec (.mirrorYieldRx mgen cause) s =
      .next (if s.pairShadow = false ∨ (s.mirrorHeard mgen.toNat).pairReady = false then (s.mirrorHeard mgen.toNat).settle
        else if s.inhibited = true then ((s.mirrorHeard mgen.toNat).evt pgPair 14).settle
        else if s.pair.take.isSome = true then (s.mirrorHeard mgen.toNat).settle
        else ((s.mirrorHeard mgen.toNat).setPair (fun x => { x with
          take := some ⟨if cause.val = 2 then 3 else 1, s.mono⟩ })).settle) := by
  refine (State.mirror_followed hp h mgen.toNat (fun s => s.yieldRx cause)).trans ?_
  rw [State.yieldRx, State.takeCause_eq, State.mirrorHeard_shadow, State.mirrorHeard_inhibited,
    State.mirrorHeard_keepsPair PairSt.take (fun _ => rfl), State.mirrorHeard_mono]
  simp only [apply_ite State.settle]

/-! ### DIAGRESP (R501) -/

theorem exec_mirrorDiagrespRx_trusted (hp : s.boot.powered = true) (h : s.link4Trusted = true) (mgen : BitVec 32) (tile : Fin 16)
    (sink : Fin 128) (frame : BitVec 16) (words : Vector (BitVec 64) 13) : exec (.mirrorDiagrespRx mgen tile sink frame words) s =
      .next (if s.pairActive = true then
        ((s.mirrorHeard mgen.toNat).diagTake tile sink frame.toNat (words.toList.map BitVec.toNat)).settle
        else (s.mirrorHeard mgen.toNat).settle) := by
  refine (State.mirror_followed hp h mgen.toNat
    (fun s => s.diagRespRx tile sink frame.toNat (words.toList.map BitVec.toNat))).trans ?_
  rw [State.diagRespRx, State.mirrorHeard_active]
  simp only [apply_ite State.settle]

end Sys2Proof.Machine
end

section
/-! PROOFS. What a HEARTBEAT does to the device that hears it (R478, R491, R495, R503). -/

namespace Sys2Proof.Machine

variable {s t u o : State} {d k i n p q v w m c a : Nat} {f g : Fld} {y : PartnerSt}

/-! ### What every stage leaves of the partner's state -/

/-- PAIR shows a partner whose heartbeat has come. -/
def State.SeesPartner (y : PartnerSt) (t : State) : Prop :=
  t.pair.partner = some y ∧ t.pair.hbDue = none ∧ t.pair.missRun = 0 ∧ t.fget pgPair PAIR.STAT.PARTNER_STATE = y.state

theorem State.SeesPartner.of (h : State.SeesPartner y s) (h1 : t.pair.partner = s.pair.partner) (h2 : t.pair.hbDue = s.pair.hbDue)
    (h3 : t.pair.missRun = s.pair.missRun)
    (h4 : t.fget pgPair PAIR.STAT.PARTNER_STATE = s.fget pgPair PAIR.STAT.PARTNER_STATE) : State.SeesPartner y t :=
  ⟨h1.trans h.1, h2.trans h.2.1, h3.trans h.2.2.1, h4.trans h.2.2.2⟩

theorem State.SeesPartner.of_pair (h : State.SeesPartner y s) (hp : t.pair = s.pair)
    (hf : t.fget pgPair PAIR.STAT.PARTNER_STATE = s.fget pgPair PAIR.STAT.PARTNER_STATE) : State.SeesPartner y t :=
  h.of (by rw [hp]) (by rw [hp]) (by rw [hp]) hf

theorem State.SeesPartner.fset (h : State.SeesPartner y s) (hf : f.Apart PAIR.STAT.PARTNER_STATE) (n : Nat) :
    State.SeesPartner y (s.fset p f n) := h.of_pair rfl (State.fset_fget_apart hf)

theorem State.SeesPartner.evt (h : State.SeesPartner y s) (p k : Nat) : State.SeesPartner y (s.evt p k) :=
  h.of_pair (State.evt_pair ..) (State.evt_fget ..)

theorem State.SeesPartner.setPair (h : State.SeesPartner y s) (x : PairSt → PairSt)
    (hx : ∀ z, (x z).partner = z.partner ∧ (x z).hbDue = z.hbDue ∧ (z.missRun = 0 → (x z).missRun = 0)) :
    State.SeesPartner y (s.setPair x) := by
  obtain ⟨h1, h2, h3⟩ := hx s.pair
  exact ⟨h1.trans h.1, h2.trans h.2.1, h3 h.2.2.1, (State.setPair_fget ..).trans h.2.2.2⟩

theorem State.SeesPartner.ite {P : Prop} [Decidable P] (h : State.SeesPartner y s) (h' : State.SeesPartner y t) :
    State.SeesPartner y (if P then s else t) := by
  split
  · exact h
  · exact h'

theorem State.SeesPartner.clearReady (h : State.SeesPartner y s) (n : Nat) : State.SeesPartner y (s.clearReady n) :=
  h.of (State.clearReady_keepsPair PairSt.partner (fun _ => rfl) s n) (State.clearReady_keepsPair PairSt.hbDue (fun _ => rfl) s n)
    (State.clearReady_keepsPair PairSt.missRun (fun _ => rfl) s n) (State.clearReady_fget (by decide) (by decide) n)

theorem State.SeesPartner.setPairState (h : State.SeesPartner y s) (n : Nat) : State.SeesPartner y (s.setPairState n) :=
  h.of_pair (State.setPairState_pair ..) (State.setPairState_fget (by decide) ..)

theorem State.SeesPartner.told (h : State.SeesPartner y s) (ht : s.Told t) : State.SeesPartner y t :=
  h.of (ht.keepsPair PairSt.partner fun _ => rfl) (ht.keepsPair PairSt.hbDue fun _ => rfl) (ht.keepsPair PairSt.missRun fun _ => rfl)
    (ht.1 _ _ (by decide))

theorem State.SeesPartner.resyncStart (h : State.SeesPartner y s) : State.SeesPartner y s.resyncStart := by
  have hshown : State.SeesPartner y s.resyncShown := (h.fset (by decide) _).fset (by decide) _
  rw [State.resyncStart_eq]
  exact (hshown.told s.resyncShown.told_resync).setPair _ fun _ => ⟨rfl, rfl, id⟩

theorem State.SeesPartner.queryStart (h : State.SeesPartner y s) (n : Nat) (b : Bool) : State.SeesPartner y (s.queryStart n b) := by
  rw [State.queryStart_eq]
  exact h.of_pair (s.startPhase_sends n _ .pair (by decide)) ((s.startPhase_sends n _).fget (ty := .pair) rfl (by decide))

theorem State.SeesPartner.showOffset (h : State.SeesPartner y s) : State.SeesPartner y s.showOffset := h.fset (by decide) _

theorem State.SeesPartner.readyCheck (h : State.SeesPartner y s) : State.SeesPartner y s.readyCheck :=
  .ite (.ite (h.showOffset.clearReady 1) (.ite (h.showOffset.clearReady 4) h.showOffset)) h.showOffset

theorem State.SeesPartner.resyncProgress (h : State.SeesPartner y s) (ok : Bool) : State.SeesPartner y (s.resyncProgress ok) := by
  unfold State.resyncProgress
  split
  · exact h
  · refine .ite h (.ite (h.setPair _ fun _ => ⟨rfl, rfl, id⟩) (.ite (h.setPair _ fun _ => ⟨rfl, rfl, id⟩) ?_))
    have hset : State.SeesPartner y (s.setPair (fun x => { x with goodRun := none, missRun := 0 })) :=
      h.setPair _ fun _ => ⟨rfl, rfl, fun _ => rfl⟩
    exact ((hset.setPairState 3).fset (f := PAIR.STAT.READY) (by decide) 1).fset (f := PAIR.STAT.NR_REASON) (by decide) 0

theorem State.SeesPartner.resyncByHeartbeat (h : State.SeesPartner y s) (z : PartnerSt) :
    State.SeesPartner y (s.resyncByHeartbeat z) :=
  .ite h (.ite (.ite h.resyncStart (h.setPair _ fun _ => ⟨rfl, rfl, id⟩)) (.ite h.resyncStart h))

theorem State.SeesPartner.askRings (h : State.SeesPartner y s) : State.SeesPartner y s.askRings :=
  List.foldlRecOn _ _ (motive := State.SeesPartner y) (h.setPair _ fun _ => ⟨rfl, rfl, id⟩) fun _ ht n _ => ht.queryStart n false

theorem State.SeesPartner.resolveLinking (h : State.SeesPartner y s) : State.SeesPartner y s.resolveLinking := by
  unfold State.resolveLinking
  refine State.SeesPartner.ite h ?_
  dsimp only
  generalize (if s.link4Trusted then s.pair.partner else none) = z
  cases z with
  | none => exact h.askRings
  | some z => exact State.SeesPartner.ite h h.askRings

/-! ### The stages of a HEARTBEAT -/

/-- The partner is seen, and so is the offset of LINK4. -/
def State.partnerShown (s : State) (y : PartnerSt) : State :=
  ((s.setPair (fun x => { x with partner := some y, hbDue := none, missRun := 0 })).fset pgPair PAIR.STAT.PARTNER_STATE y.state).showOffset

/-- A SHADOW device out of step with its partner is not ready. -/
def State.stepChecked (s : State) (y : PartnerSt) : State :=
  if s.pairShadow && !decide (y.frame = s.frame) then s.clearReady 5 else s

/-- READY is judged, and a resynchronisation goes on. -/
def State.heartbeatJudged (s : State) (inStep : Bool) (y : PartnerSt) : State :=
  (s.readyCheck.resyncProgress (inStep && s.offsetOk)).resyncByHeartbeat y

/-- Two primaries in LINKING are an error. -/
def State.primariesChecked (s : State) (y : PartnerSt) : State :=
  if s.pairState = 1 && s.fget pgPair PAIR.CFG.ROLE = 1 && y.primary && y.state = 1 then s.evt pgPair 15 else s

theorem State.heartbeatRx_idle (h : s.pairState = 0) (y : PartnerSt) : s.heartbeatRx y = s := if_pos h

theorem State.heartbeatRx_eq (h : s.pairState ≠ 0) (y : PartnerSt) : s.heartbeatRx y =
    ((((s.partnerShown y).stepChecked y).heartbeatJudged (decide (y.frame = (s.partnerShown y).frame)) y).primariesChecked
      y).resolveLinking := by
  unfold State.heartbeatRx
  rw [if_neg h]
  rfl

theorem State.partnerShown_fget (hp : PAIR.STAT.PARTNER_STATE.Apart f) (ho : PAIR.OFFSET_PS.PS.Apart f) (s : State)
    (y : PartnerSt) (p : Nat) : (s.partnerShown y).fget p f = s.fget p f :=
  (State.fset_fget_apart ho).trans ((State.fset_fget_apart hp).trans (State.setPair_fget ..))

theorem State.partnerShown_pairState (s : State) (y : PartnerSt) : (s.partnerShown y).pairState = s.pairState :=
  State.partnerShown_fget (by decide) (by decide) s y _

theorem State.partnerShown_frame (s : State) (y : PartnerSt) : (s.partnerShown y).frame = s.frame :=
  State.partnerShown_fget (by decide) (by decide) s y _

theorem State.partnerShown_sees (s : State) (h : y.state < 8) : State.SeesPartner y (s.partnerShown y) := by
  refine ⟨rfl, rfl, rfl, ?_⟩
  exact (State.fset_fget_apart (by decide)).trans (State.fset_fget (by decide) h)

theorem State.heartbeatRx_sees (hs : s.pairState ≠ 0) (h : y.state < 8) : State.SeesPartner y (s.heartbeatRx y) := by
  have hstep : State.SeesPartner y ((s.partnerShown y).stepChecked y) :=
    .ite ((s.partnerShown_sees h).clearReady 5) (s.partnerShown_sees h)
  rw [State.heartbeatRx_eq hs]
  generalize (s.partnerShown y).stepChecked y = v at hstep
  have hjudged := (hstep.readyCheck.resyncProgress (decide (y.frame = (s.partnerShown y).frame) && v.offsetOk)).resyncByHeartbeat y
  exact (State.SeesPartner.ite (hjudged.evt pgPair 15) hjudged).resolveLinking

/-! ### A device that is not LINKING or ACTIVE has no more to do -/

theorem State.heartbeatEnd (h1 : s.pairState ≠ 1) (y : PartnerSt) : (s.primariesChecked y).resolveLinking = s := by
  have hprim : s.primariesChecked y = s := if_neg (by simp [h1])
  rw [hprim]
  exact if_pos (by simp [h1])

theorem State.resyncByHeartbeat_other (h : s.pairState ≠ 4) (y : PartnerSt) : s.resyncByHeartbeat y = s :=
  if_pos (by simp [State.pairActive, h])

theorem State.readyCheck_unready (h : s.pairShadow = false ∨ s.pairReady = false) : s.readyCheck = s.showOffset := by
  have hshadow : s.showOffset.pairShadow = s.pairShadow := State.pairShadow_of_state (State.fset_fget_apart (by decide))
  have hready : s.showOffset.pairReady = s.pairReady := State.pairReady_of_fget (State.fset_fget_apart (by decide))
  refine if_neg ?_
  rw [hshadow, hready]
  rcases h with h | h <;> simp [h]

theorem State.showOffset_pairState (s : State) : s.showOffset.pairState = s.pairState := State.fset_fget_apart (by decide)

theorem State.resyncProgress_none (h : s.pair.goodRun = none) (ok : Bool) : s.resyncProgress ok = s := by
  unfold State.resyncProgress
  rw [h]

/-! ### A SHADOW device out of step (R491) -/

/-- A SHADOW device that hears another frame than its own loses READY. -/
theorem State.heartbeatRx_outOfStep (h : s.pairState = 3) (hf : y.frame ≠ s.frame) : (s.heartbeatRx y).pairReady = false := by
  have hstate : (s.partnerShown y).pairState = 3 := (s.partnerShown_pairState y).trans h
  have hfollows : (s.partnerShown y).pairFollows = true := State.pairFollows_iff.mpr (.inr hstate)
  have hstep : (s.partnerShown y).stepChecked y = (s.partnerShown y).clearReady 5 :=
    if_pos (by simp [State.pairShadow, hstate, State.partnerShown_frame, hf])
  rw [State.heartbeatRx_eq (by omega), hstep]
  generalize s.partnerShown y = v at hstate hfollows
  have hready := State.clearReady_ready hfollows 5
  have hstate' : (v.clearReady 5).showOffset.pairState = 3 :=
    (State.showOffset_pairState _).trans ((State.clearReady_pairState v 5).trans hstate)
  have hrun : (v.clearReady 5).showOffset.pair.goodRun = none := congrArg PairSt.goodRun (State.clearReady_pair hfollows 5)
  rw [State.heartbeatJudged, State.readyCheck_unready (.inr hready), State.resyncProgress_none hrun,
    State.resyncByHeartbeat_other (by omega), State.heartbeatEnd (by omega)]
  exact (State.pairReady_of_fget (State.fset_fget_apart (by decide))).trans hready

/-! ### A resynchronisation ends (R503) -/

/-- The offset counts as seen on LINK4, whatever OFFSET_PS showed before. -/
theorem State.showOffset_offsetOk (hsync : t.sync 4 = s.sync 4) (hstate : t.syncState = s.syncState)
    (hlimit : t.fget pgPair PAIR.TIMING.OFS_LIMIT_PS = s.fget pgPair PAIR.TIMING.OFS_LIMIT_PS) :
    t.showOffset.offsetOk = s.showOffset.offsetOk := by
  have hsyn (x : State) : x.showOffset.syncState = x.syncState := State.fset_fget_apart (by decide)
  have hlim (x : State) : x.showOffset.fget pgPair PAIR.TIMING.OFS_LIMIT_PS = x.fget pgPair PAIR.TIMING.OFS_LIMIT_PS :=
    State.fset_fget_apart (by decide)
  have hofs : t.showOffset.fgetI pgPair PAIR.OFFSET_PS.PS = s.showOffset.fgetI pgPair PAIR.OFFSET_PS.PS := by
    unfold State.fgetI State.showOffset State.fsetI
    rw [State.fget_fset_self _ _ _ _ (by decide), State.fget_fset_self _ _ _ _ (by decide), hsync]
  unfold State.offsetOk
  rw [hsyn, hsyn, hlim, hlim, hofs, hstate, hlimit]

theorem State.partnerShown_offsetOk (s : State) (y : PartnerSt) : (s.partnerShown y).offsetOk = s.showOffset.offsetOk :=
  State.showOffset_offsetOk rfl ((State.fset_fget_apart (by decide)).trans (State.setPair_fget ..))
    ((State.fset_fget_apart (by decide)).trans (State.setPair_fget ..))

/-- The second good heartbeat makes the device SHADOW, and ready. -/
def State.resyncEnded (s : State) : State :=
  (((s.setPair (fun x => { x with goodRun := none, missRun := 0 })).setPairState 3).fset pgPair PAIR.STAT.READY 1).fset
    pgPair PAIR.STAT.NR_REASON 0

theorem State.resyncProgress_ends (hs : s.pairState = 2) (hr : s.pair.goodRun = some 1) : s.resyncProgress true = s.resyncEnded := by
  unfold State.resyncProgress
  rw [hr]
  dsimp only
  rw [if_neg (not_not.mpr hs), if_neg (by decide), if_neg (by decide)]
  rfl

theorem State.resyncEnded_shown (s : State) : s.resyncEnded.pairState = 3 ∧ s.resyncEnded.pairReady = true ∧
    s.resyncEnded.fget pgPair PAIR.STAT.NR_REASON = 0 := by
  refine ⟨?_, ?_, State.fset_fget (by decide) (by decide)⟩
  · exact (State.fset_fget_apart (by decide)).trans ((State.fset_fget_apart (by decide)).trans (State.setPairState_state _ (by decide)))
  · exact decide_eq_true ((State.fset_fget_apart (by decide)).trans (State.fset_fget (by decide) (by decide)))

/-- The second good heartbeat in a row ends SYNCING. -/
theorem State.heartbeatRx_resynced (h : s.pairState = 2) (hr : s.pair.goodRun = some 1) (hf : y.frame = s.frame)
    (ho : s.showOffset.offsetOk = true) : s.heartbeatRx y = (s.partnerShown y).showOffset.resyncEnded := by
  have hstate : (s.partnerShown y).pairState = 2 := (s.partnerShown_pairState y).trans h
  have hshadow : (s.partnerShown y).pairShadow = false := decide_eq_false (by omega)
  have hstep : (s.partnerShown y).stepChecked y = s.partnerShown y := if_neg (by simp [hshadow])
  have hok : (decide (y.frame = (s.partnerShown y).frame) && (s.partnerShown y).offsetOk) = true := by
    rw [State.partnerShown_frame, State.partnerShown_offsetOk, ho, decide_eq_true hf]
    rfl
  have hrun : (s.partnerShown y).showOffset.pair.goodRun = some 1 := hr
  have hend := (s.partnerShown y).showOffset.resyncEnded_shown.1
  rw [State.heartbeatRx_eq (by omega), hstep, State.heartbeatJudged, hok, State.readyCheck_unready (.inl hshadow),
    State.resyncProgress_ends ((State.showOffset_pairState _).trans hstate) hrun, State.resyncByHeartbeat_other (by omega),
    State.heartbeatEnd (by omega)]

/-! ### The message -/

theorem exec_mirrorHeartbeatRx_trusted (hp : s.boot.powered = true) (h : s.link4Trusted = true) (mgen : BitVec 32) (slot : Fin 4)
    (st : Fin 8) (ready inhibit : Bool) (groups : BitVec 12) (epoch frame : BitVec 16) (primary : Bool) :
    exec (.mirrorHeartbeatRx mgen slot st ready inhibit groups epoch frame primary) s = .next ((s.mirrorHeard mgen.toNat).heartbeatRx
      ⟨slot, st, ready, inhibit, groups.toNat, epoch.toNat, frame.toNat, primary⟩).settle :=
  State.mirror_followed hp h mgen.toNat _

theorem State.heartbeatRx_heard (n : Nat) (y : PartnerSt) :
    State.SameBut [.free, .duds, .pair, .out, .page .pair, .page .dud] s ((s.mirrorHeard n).heartbeatRx y) :=
  State.heartbeatRx_same ((s.mirrorHeard_same n).mono rfl) rfl

end Sys2Proof.Machine
end

section
/-! PROOFS. What TAKEN and RESYNC do to the device that hears them, and all MIRROR messages together (R480, R481, R499, R503). -/

namespace Sys2Proof.Machine

variable {s t u o : State} {d k i n p q v w m c a : Nat} {f g : Fld}

/-! ### A superseded owner lets go of its rings (R499) -/

theorem State.frameDoneCheck_dud (s : State) (n : Nat) : s.frameDoneCheck.dud n = s.dud n := by
  unfold State.frameDoneCheck
  split
  · unfold State.dud
    rw [State.evt_duds]
  · rfl

theorem State.showRing_dud (s : State) (k n : Nat) : (s.showRing k).dud n = s.dud n :=
  congrArg (fun x => SMap.read ({} : DudSt) x n) (State.showRing_same (m := 36893488149566586880) (State.SameOutside.refl _ s) rfl .duds (by decide))

theorem State.abandonRing_dud_other (h : n ≠ k) : (s.abandonRing k).dud n = s.dud n := by
  have hstop : (s.stopPort k).dud n = s.dud n := by
    unfold State.stopPort
    rw [State.frameDoneCheck_dud, State.setDud_dud_other h]
    rfl
  have hops : ((s.stopPort k).setDud k { (s.stopPort k).dud k with ops := [] }).dud n = s.dud n :=
    (State.setDud_dud_other h).trans hstop
  unfold State.abandonRing
  dsimp only
  split
  · exact hops
  · rw [State.showRing_dud, hops]

/-- A port whose sinks are let go of. -/
def State.portCleared (s : State) (k : Nat) : State :=
  (((s.setDud k { s.dud k with live := 0, lost := 0, owned := 0, rejoin := 0, joinDue := false, darkDue := false }).fset (pgDud k)
    DUD.STAT.SPLIT 0).fset (pgDud k) DUD.SPLIT.LO 0).fset (pgDud k) DUD.SPLIT.HI 0

theorem State.portCleared_dud_self (s : State) (k : Nat) : (s.portCleared k).dud k =
    { s.dud k with live := 0, lost := 0, owned := 0, rejoin := 0, joinDue := false, darkDue := false } := by
  rw [State.portCleared, State.fset_dud, State.fset_dud, State.fset_dud, State.setDud_dud_self]

theorem State.portCleared_dud_other (h : n ≠ k) (s : State) : (s.portCleared k).dud n = s.dud n := by
  rw [State.portCleared, State.fset_dud, State.fset_dud, State.fset_dud, State.setDud_dud_other h]

theorem State.disown_eq (s : State) (k : Nat) : s.disown k = ((s.abandonRing k).portCleared k).showRing k := rfl

/-- No sink of a port is live, owned or lost. -/
def State.Bare (n : Nat) (t : State) : Prop := (t.dud n).live = 0 ∧ (t.dud n).owned = 0 ∧ (t.dud n).lost = 0

theorem State.disown_bare (s : State) (n : Nat) : State.Bare n (s.disown n) := by
  have hdud : (s.disown n).dud n = { (s.abandonRing n).dud n with
      live := 0, lost := 0, owned := 0, rejoin := 0, joinDue := false, darkDue := false } := by
    rw [State.disown_eq, State.showRing_dud, State.portCleared_dud_self]
  unfold State.Bare
  rw [hdud]
  exact ⟨rfl, rfl, rfl⟩

theorem State.Bare.disown (h : State.Bare n s) (k : Nat) : State.Bare n (s.disown k) := by
  by_cases hk : n = k
  · subst hk
    exact s.disown_bare n
  · have hdud : (s.disown k).dud n = s.dud n := by
      rw [State.disown_eq, State.showRing_dud, State.portCleared_dud_other hk, State.abandonRing_dud_other hk]
    unfold State.Bare
    rw [hdud]
    exact h

/-- The device lets go of every ring. -/
def State.ringsDisowned (s : State) : State := (List.range 16).foldl State.disown s

theorem State.ringsDisowned_bare (s : State) (h : n < 16) : State.Bare n s.ringsDisowned :=
  foldl_establishes (Q := fun _ => True) (P := State.Bare n) (a := n) (fun _ _ _ => trivial) (fun t _ => t.disown_bare n)
    (fun _ k _ ht => ht.disown k) (List.range 16) (List.mem_range.mpr h) s trivial

theorem State.ringsDisowned_same (s : State) :
    State.SameBut [.time, .duds, .out, .page .sys, .page .time, .page .dud] s s.ringsDisowned :=
  State.SameOutside.foldl (State.SameOutside.refl _ s) fun _ _ h => State.disown_same h rfl

/-- Nothing waits any more for the partner or for the rings. -/
def State.queuesDropped (s : State) : State :=
  { s with pair := { s.pair with queue := [] }, gaf := { s.gaf with queues := [], retries := [] } }

theorem State.queuesDropped_gaf (s : State) : s.queuesDropped.gaf = { s.gaf with queues := [], retries := [] } := rfl

theorem State.demote_active (h : s.pairActive = true) :
    s.demote = (s.ringsDisowned.queuesDropped.fset pgPair PAIR.RESYNC_STAT.BUSY 0).setPairState 5 := if_pos h

theorem State.demote_other (h : s.pairActive = false) : s.demote = s := if_neg (by simp [h])

theorem State.setPairState_same' (s : State) (n : Nat) : State.SameBut [.out, .page .pair] s (s.setPairState n) :=
  State.setPairState_same (State.SameOutside.refl _ s) rfl

theorem State.setPairState_evt (h : s.pairState ≠ n) : ((s.setPairState n).hdr pgPair).evt.getLsbD 8 = true := by
  unfold State.setPairState
  rw [if_neg h]
  exact State.evt_set _ _ _ (by decide)

/-- Nothing waits any more, and no resynchronisation runs. -/
def State.withdrawn (s : State) : State := s.ringsDisowned.queuesDropped.fset pgPair PAIR.RESYNC_STAT.BUSY 0

theorem State.demote_eq (h : s.pairActive = true) : s.demote = s.withdrawn.setPairState 5 := State.demote_active h

theorem State.queuesDropped_dud (s : State) (n : Nat) : s.queuesDropped.dud n = s.dud n := rfl

theorem State.queuesDropped_fget (s : State) (p : Nat) (f : Fld) : s.queuesDropped.fget p f = s.fget p f :=
  State.fget_of_pages rfl p f

theorem State.ringsDisowned_pair (s : State) (f : Fld) : s.ringsDisowned.fget pgPair f = s.fget pgPair f :=
  s.ringsDisowned_same.fget (ty := .pair) rfl (by decide)

theorem State.withdrawn_pairState (s : State) : s.withdrawn.pairState = s.pairState := by
  unfold State.pairState
  rw [State.withdrawn, State.fset_fget_apart (by decide), State.queuesDropped_fget, State.ringsDisowned_pair]

theorem State.withdrawn_gaf (s : State) : s.withdrawn.gaf = { s.gaf with queues := [], retries := [] } := by
  have hgaf : s.ringsDisowned.gaf = s.gaf := s.ringsDisowned_same .gaf (by decide)
  rw [State.withdrawn, State.fset_gaf, State.queuesDropped_gaf, hgaf]

theorem State.withdrawn_queue (s : State) : s.withdrawn.pair.queue = [] := by
  rw [State.withdrawn, State.fset_pair, State.queuesDropped]

theorem State.withdrawn_dud (s : State) (n : Nat) : s.withdrawn.dud n = s.ringsDisowned.dud n := by
  rw [State.withdrawn, State.fset_dud, State.queuesDropped_dud]

/-- A DEMOTED device holds no sink and queues nothing. -/
theorem State.demote_shown (h : s.pairActive = true) : s.demote.pairState = 5 ∧ s.demote.fget pgPair PAIR.RESYNC_STAT.BUSY = 0 ∧
    s.demote.pair.queue = [] ∧ s.demote.gaf = { s.gaf with queues := [], retries := [] } ∧
    (∀ n, n < 16 → State.Bare n s.demote) ∧ (s.demote.hdr pgPair).evt.getLsbD 8 = true := by
  have hstate : s.withdrawn.pairState = 4 := s.withdrawn_pairState.trans (of_decide_eq_true h)
  have hdud (n : Nat) : (s.withdrawn.setPairState 5).dud n = s.withdrawn.dud n := by
    have hduds : (s.withdrawn.setPairState 5).duds = s.withdrawn.duds := s.withdrawn.setPairState_same' 5 .duds (by decide)
    unfold State.dud
    rw [hduds]
  rw [State.demote_eq h]
  refine ⟨State.setPairState_state _ (by decide), ?_, ?_, ?_, fun n hn => ?_, State.setPairState_evt (by omega)⟩
  · rw [State.setPairState_fget (by decide), State.withdrawn, State.fset_fget (by decide) (by decide)]
  · rw [State.setPairState_pair, State.withdrawn_queue]
  · have hgaf : (s.withdrawn.setPairState 5).gaf = s.withdrawn.gaf := s.withdrawn.setPairState_same' 5 .gaf (by decide)
    rw [hgaf, s.withdrawn_gaf]
  · unfold State.Bare
    rw [hdud, State.withdrawn_dud]
    exact s.ringsDisowned_bare hn

theorem exec_mirrorTakenRx_trusted (hp : s.boot.powered = true) (h : s.link4Trusted = true) (mgen : BitVec 32) :
    exec (.mirrorTakenRx mgen) s = .next (s.mirrorHeard mgen.toNat).demote.settle := State.mirror_followed hp h mgen.toNat _

/-! ### PAIR takes its locks (R483) -/

/-- PAIR takes the lock of one page. -/
def State.pageLocked (s : State) (p : Nat) : State :=
  let s := if s.holds 0xC p then s else s.breakLock p
  s.setHdr p { s.hdr p with owner := some 0xC, leaseEnd := s.mono + pairLease }

theorem State.pairLock_eq (s : State) : s.pairLock = wholePages.foldl State.pageLocked s := rfl

theorem State.breakLock_word (s : State) (p a : Nat) : (s.breakLock p).word a = s.word a := by
  unfold State.breakLock
  split
  · rw [State.evt_word]
    exact State.reloadShadows_word a
  · rfl

theorem State.breakLock_hdr_other (h : q ≠ p) : (s.breakLock p).hdr q = s.hdr q := by
  unfold State.breakLock
  split
  · exact (((State.SamePage.of_reload h).trans (State.SamePage.of_setHdr h)).trans (State.SamePage.of_evt h)).1
  · rfl

/-- A lock that was PAIR's or is broken first leaves the words, the clock and the other headers. -/
theorem State.pageLocked_keeps (s : State) (p : Nat) : (∀ a, (s.pageLocked p).word a = s.word a) ∧
    (s.pageLocked p).mono = s.mono ∧ (∀ q, q ≠ p → (s.pageLocked p).hdr q = s.hdr q) ∧
    ((s.pageLocked p).hdr p).owner = some 0xC ∧ ((s.pageLocked p).hdr p).leaseEnd = s.mono + pairLease := by
  unfold State.pageLocked
  dsimp only
  rw [State.setHdr_hdr_self]
  split
  · exact ⟨fun _ => rfl, rfl, fun _ hq => State.setHdr_hdr_other _ _ _ _ hq, rfl, rfl⟩
  · exact ⟨fun a => s.breakLock_word p a, s.breakLock_mono p,
      fun _ hq => (State.setHdr_hdr_other _ _ _ _ hq).trans (State.breakLock_hdr_other hq), rfl,
      congrArg (· + pairLease) (s.breakLock_mono p)⟩

theorem State.pairLock_word (s : State) (a : Nat) : s.pairLock.word a = s.word a :=
  List.foldlRecOn _ _ (motive := fun t : State => t.word a = s.word a) rfl fun t ht p _ => ((t.pageLocked_keeps p).1 a).trans ht

theorem State.pairLock_pair (s : State) : s.pairLock.pair = s.pair :=
  State.pairLock_same (m := 73786975197474062336) (State.SameOutside.refl _ s) rfl .pair (by decide)

/-- PAIR holds a page's lock until an instant. -/
def State.LockedUntil (p i : Nat) (t : State) : Prop := (t.hdr p).owner = some 0xC ∧ (t.hdr p).leaseEnd = i

theorem State.pageLocked_locked (s : State) (p : Nat) : State.LockedUntil p (s.mono + pairLease) (s.pageLocked p) :=
  (s.pageLocked_keeps p).2.2.2

theorem State.LockedUntil.pageLocked (h : State.LockedUntil p (s.mono + pairLease) s) (k : Nat) :
    State.LockedUntil p (s.mono + pairLease) (s.pageLocked k) := by
  by_cases hk : p = k
  · subst hk
    exact s.pageLocked_locked p
  · obtain ⟨-, -, hother, -⟩ := s.pageLocked_keeps k
    unfold State.LockedUntil
    rw [hother p hk]
    exact h

theorem State.pairLock_locked (s : State) (h : p ∈ wholePages) : State.LockedUntil p (s.mono + pairLease) s.pairLock := by
  refine foldl_establishes (step := State.pageLocked) (Q := fun t : State => t.mono = s.mono)
    (P := State.LockedUntil p (s.mono + pairLease)) (a := p) (fun t k ht => ?_) (fun t ht => ?_) (fun t k ht hl => ?_) wholePages h s rfl
  · exact (t.pageLocked_keeps k).2.1.trans ht
  · exact ht ▸ t.pageLocked_locked p
  · rw [← ht] at hl ⊢
    exact hl.pageLocked k

/-! ### RESYNC (R503) -/

theorem exec_mirrorResyncRx_trusted (hp : s.boot.powered = true) (h : s.link4Trusted = true) (mgen : BitVec 32) (ends : Bool) :
    exec (.mirrorResyncRx mgen ends) s = .next ((s.mirrorHeard mgen.toNat).resyncRx ends).settle :=
  State.mirror_followed hp h mgen.toNat _

/-- The device follows its partner from now on. -/
def State.resyncFollowed (s : State) : State :=
  ((s.setPair (fun x => { x with
    diverged := false, goodRun := none, asking := 0, take := none, switchAt := none, yielded := false })).fset
      pgPair PAIR.STAT.READY 0).setPairState 2

/-- The rings whose TAIL the device drives are asked. -/
def State.tailsAsked (s : State) : State :=
  (s.pairedRings.filter (fun t => s.fget (pgDud t) DUD.CTL.ROLE = 2)).foldl (fun s t => s.queryStart t false) s

theorem State.resyncRx_idle (h : s.pairState = 0 ∨ s.pairState = 4) (b : Bool) : s.resyncRx b = s :=
  if_pos (by rcases h with h | h <;> simp [h])

theorem State.resyncRx_end (h0 : s.pairState ≠ 0) (h4 : s.pairState ≠ 4) : s.resyncRx true =
    if s.pairState = 2 ∧ s.pair.diverged = false then s.setPair (fun x => { x with goodRun := some 0 }) else s := by
  unfold State.resyncRx
  rw [if_neg (by simp [h0, h4]), if_pos rfl]
  simp only [Bool.and_eq_true, decide_eq_true_eq, Bool.not_eq_true']

theorem State.resyncRx_begin (h0 : s.pairState ≠ 0) (h4 : s.pairState ≠ 4) : s.resyncRx false =
    if s.pairState ≠ 2 then s.resyncFollowed.pairLock.tailsAsked else s.resyncFollowed.pairLock := by
  unfold State.resyncRx
  rw [if_neg (by simp [h0, h4]), if_neg (by decide)]
  rfl

theorem State.tailsAsked_same (s : State) : State.SameBut [.free, .duds, .out] s s.tailsAsked :=
  State.SameOutside.foldl (State.SameOutside.refl _ s) fun _ _ h => State.queryStart_same h rfl

/-- What a device shows that has begun to follow a resynchronisation. -/
def State.Follows (i : Nat) (t : State) : Prop :=
  t.pairState = 2 ∧ t.pairReady = false ∧ t.pair.diverged = false ∧ t.pair.goodRun = none ∧ t.pair.take = none ∧
  t.pair.switchAt = none ∧ ∀ p ∈ wholePages, (t.hdr p).owner = some 0xC ∧ (t.hdr p).leaseEnd = i

theorem State.resyncFollowed_mono (s : State) : s.resyncFollowed.mono = s.mono :=
  Eq.trans (State.setPairState_same' _ 2 .mono (by decide)) rfl

theorem State.resyncFollowed_pair (s : State) : s.resyncFollowed.pair = { s.pair with
    diverged := false, goodRun := none, asking := 0, take := none, switchAt := none, yielded := false } := by
  rw [State.resyncFollowed, State.setPairState_pair, State.fset_pair, State.setPair_pair]

theorem State.resyncFollowed_state (s : State) : s.resyncFollowed.pairState = 2 := State.setPairState_state _ (by decide)

theorem State.resyncFollowed_ready (s : State) : s.resyncFollowed.fget pgPair PAIR.STAT.READY = 0 :=
  (State.setPairState_fget (by decide) ..).trans (State.fset_fget (by decide) (by decide))

theorem State.resyncLocked_follows (s : State) : State.Follows (s.mono + pairLease) s.resyncFollowed.pairLock := by
  have hget (f : Fld) : s.resyncFollowed.pairLock.fget pgPair f = s.resyncFollowed.fget pgPair f :=
    State.fget_of_word (State.pairLock_word ..)
  have hpair := (State.pairLock_pair s.resyncFollowed).trans s.resyncFollowed_pair
  refine ⟨(hget _).trans s.resyncFollowed_state, State.pairReady_false ((hget _).trans s.resyncFollowed_ready), by rw [hpair],
    by rw [hpair], by rw [hpair], by rw [hpair], fun p hp => ?_⟩
  have hlock := State.pairLock_locked s.resyncFollowed hp
  rw [State.resyncFollowed_mono] at hlock
  exact hlock

theorem wholePages_pageOf : ∀ p ∈ wholePages, (pageOf p).isSome = true := by decide

theorem State.tailsAsked_hdr (s : State) (hp : p ∈ wholePages) : s.tailsAsked.hdr p = s.hdr p := by
  obtain ⟨⟨ty, j⟩, hpage⟩ := Option.isSome_iff_exists.mp (wholePages_pageOf p hp)
  exact s.tailsAsked_same.hdr (ty := ty) (by rw [hpage]; rfl) (by cases ty <;> rfl)

theorem State.Follows.tailsAsked (h : State.Follows i s) : State.Follows i s.tailsAsked := by
  obtain ⟨hstate, hready, hdiv, hgood, htake, hswitch, hlock⟩ := h
  have hget (f : Fld) : s.tailsAsked.fget pgPair f = s.fget pgPair f := s.tailsAsked_same.fget (ty := .pair) rfl (by decide)
  have hpair : s.tailsAsked.pair = s.pair := s.tailsAsked_same .pair (by decide)
  refine ⟨(hget _).trans hstate, (State.pairReady_of_fget (hget _)).trans hready, ?_, ?_, ?_, ?_, fun p hp => ?_⟩
  · rw [hpair, hdiv]
  · rw [hpair, hgood]
  · rw [hpair, htake]
  · rw [hpair, hswitch]
  · rw [State.tailsAsked_hdr s hp]
    exact hlock p hp

theorem State.resyncRx_follows (h0 : s.pairState ≠ 0) (h4 : s.pairState ≠ 4) :
    State.Follows (s.mono + pairLease) (s.resyncRx false) := by
  rw [State.resyncRx_begin h0 h4]
  split
  · exact s.resyncLocked_follows.tailsAsked
  · exact s.resyncLocked_follows

end Sys2Proof.Machine
end

section
/-! PROOFS. MIRROR messages: the obligation (R480, R481, R485 to R488, R491, R494, R499 to R501, R503). -/

namespace Sys2Proof.Machine

variable {s t u o : State} {d k i n p q v w m c a : Nat} {f g : Fld}

/-! ### Each message, as the state that heard it is followed -/

theorem mirrorHeartbeat_followed (hp : s.boot.powered = true) (ht : s.link4Trusted = true) (mgen : BitVec 32) (slot : Fin 4) (st : Fin 8)
    (ready inhibit : Bool) (groups : BitVec 12) (epoch frame : BitVec 16) (primary : Bool) :
    (s.pairState = 0 → exec (.mirrorHeartbeatRx mgen slot st ready inhibit groups epoch frame primary) s =
      .next (s.mirrorHeard mgen.toNat).settle) ∧
    (s.pairState ≠ 0 → ∃ t : State,
      exec (.mirrorHeartbeatRx mgen slot st ready inhibit groups epoch frame primary) s = .next t.settle ∧
      t.pair.partner = some ⟨slot, st, ready, inhibit, groups.toNat, epoch.toNat, frame.toNat, primary⟩ ∧
      t.pair.hbDue = none ∧ t.pair.missRun = 0 ∧ t.fget pgPair PAIR.STAT.PARTNER_STATE = st ∧
      (s.pairState = 3 → frame.toNat ≠ s.frame → t.pairReady = false) ∧
      (s.pairState = 2 → (s.mirrorHeard mgen.toNat).pair.goodRun = some 1 → frame.toNat = s.frame →
        (s.mirrorHeard mgen.toNat).showOffset.offsetOk = true →
        t.pairState = 3 ∧ t.pairReady = true ∧ t.fget pgPair PAIR.STAT.NR_REASON = 0) ∧
      State.SameBut [.free, .duds, .pair, .out, .page .pair, .page .dud] s t) := by
  have hstate := s.mirrorHeard_pairState mgen.toNat
  have hframe := s.mirrorHeard_frame mgen.toNat
  rw [exec_mirrorHeartbeatRx_trusted hp ht]
  refine ⟨fun h => by rw [State.heartbeatRx_idle (hstate.trans h)], fun h => ?_⟩
  obtain ⟨hpartner, hdue, hmiss, hshown⟩ := State.heartbeatRx_sees
    (y := ⟨slot, st, ready, inhibit, groups.toNat, epoch.toNat, frame.toNat, primary⟩) (hstate ▸ h) st.isLt
  refine ⟨_, rfl, hpartner, hdue, hmiss, hshown, fun h3 hf => ?_, fun h2 hrun hf hofs => ?_, State.heartbeatRx_heard _ _⟩
  · exact State.heartbeatRx_outOfStep (hstate.trans h3) (by rw [hframe]; exact hf)
  · rw [State.heartbeatRx_resynced (hstate.trans h2) hrun (by rw [hframe]; exact hf) hofs]
    exact State.resyncEnded_shown _

theorem mirrorCommit_followed (hp : s.boot.powered = true) (ht : s.link4Trusted = true) (mgen : BitVec 32) (p : Fin 128)
    (gen : BitVec 16) (boundary : Fin 4) (group : Bool) (entries : List (BitVec 12 × BitVec 32)) {x : MirrorPend}
    (hx : x = { gen := gen.toNat, boundary := boundary, group := group, entries := entries.map (fun e => (e.1.toNat, e.2.toNat)) })
    (hu : u = s.mirrorHeard mgen.toNat) :
    (s.pairFollows = false ∨ mirroredPage p = false →
      exec (.mirrorCommitRx mgen p gen boundary group entries) s = .next u.settle) ∧
    (s.pairFollows = true → mirroredPage p = true →
      ((u.mirrorPend p).isSome = true → exec (.mirrorCommitRx mgen p gen boundary group entries) s =
        .next ((u.refuseCommit [↑p] p 2).clearReady 3).settle) ∧
      (u.mirrorPend p = none → group = true ∧ boundary.val ≠ 2 ∨ u.mirrorCheck p x = none ∧ boundary.val ≠ 2 → ∃ t : State,
        exec (.mirrorCommitRx mgen p gen boundary group entries) s = .next t.settle ∧ t.mirrorPend p = some x ∧
        (t.hdr p).commitState = 1 ∧ (t.hdr p).commitReason = 0 ∧
        ∀ q, q ≠ p.val → t.hdr q = u.hdr q ∧ t.mirrorPend q = u.mirrorPend q) ∧
      (u.mirrorPend p = none → boundary.val = 2 → u.mirrorCheck p x = none →
        exec (.mirrorCommitRx mgen p gen boundary group entries) s = .next (u.mirrorApply p x).settle) ∧
      (∀ r, u.mirrorPend p = none → group = false ∨ boundary.val = 2 → u.mirrorCheck p x = some r →
        exec (.mirrorCommitRx mgen p gen boundary group entries) s =
          .next ((u.refuseCommit [↑p] p r).clearReady 3).settle)) := by
  have hexec : exec (.mirrorCommitRx mgen p gen boundary group entries) s = .next (u.mirrorCommitRx p x).settle := by
    rw [exec_mirrorCommitRx_trusted hp ht, hu, hx]
  have hgroup : x.group = group := by rw [hx]
  have hboundary : x.boundary = boundary.val := by rw [hx]
  have hfollows : u.pairFollows = s.pairFollows := hu ▸ s.mirrorHeard_follows mgen.toNat
  rw [hexec, ← hfollows, ← hgroup, ← hboundary]
  refine ⟨fun h => by rw [State.mirrorCommitRx_apart h], fun hf hm => ⟨fun hw => ?_, fun hw h => ?_, fun hw hb hc => ?_,
    fun r hw h hc => ?_⟩⟩
  · rw [State.mirrorCommitRx_waiting hf hm hw]
    rfl
  · exact ⟨_, by rw [State.mirrorCommitRx_stored hf hm hw h], u.mirrorStored_shown p x⟩
  · rw [State.mirrorCommitRx_applied hf hm hw hb hc]
  · rw [State.mirrorCommitRx_refused hf hm hw h hc]
    rfl

theorem mirrorOutcome_followed (hp : s.boot.powered = true) (ht : s.link4Trusted = true) (mgen : BitVec 32) (p : Fin 128)
    (st : Fin 8) (hu : u = s.mirrorHeard mgen.toNat) :
    (s.pairFollows = false → exec (.mirrorOutcomeRx mgen p st) s = .next u.settle) ∧
    (s.pairFollows = true → u.mirrorPend p = none → exec (.mirrorOutcomeRx mgen p st) s = .next (u.clearReady 3).settle) ∧
    (∀ c, s.pairFollows = true → u.mirrorPend p = some c →
      (st.val = 2 → c.group = false ∨ u.mirrorCheck p c = none →
        exec (.mirrorOutcomeRx mgen p st) s = .next ((u.setMirrorPend p none).mirrorApply p c).settle) ∧
      (st.val = 2 → c.group = true → u.mirrorCheck p c ≠ none →
        exec (.mirrorOutcomeRx mgen p st) s = .next ((u.mirrorAbandon p).clearReady 3).settle) ∧
      (st.val = 4 → exec (.mirrorOutcomeRx mgen p st) s = .next (u.mirrorDefer p c).settle ∧
        (u.mirrorDefer p c).mirrorPend p = some { c with since := none } ∧ ((u.mirrorDefer p c).hdr p).commitState = 4) ∧
      (st.val ≠ 2 → st.val ≠ 4 → exec (.mirrorOutcomeRx mgen p st) s = .next (u.mirrorAbandon p).settle ∧
        (u.mirrorAbandon p).mirrorPend p = none ∧ ((u.mirrorAbandon p).hdr p).commitState = 5 ∧
        ((u.mirrorAbandon p).hdr p).commitReason = 7)) := by
  have hfollows : u.pairFollows = s.pairFollows := hu ▸ s.mirrorHeard_follows mgen.toNat
  rw [exec_mirrorOutcomeRx_trusted hp ht, ← hu, ← hfollows]
  refine ⟨fun h => by rw [State.outcomeRx_apart h], fun h hx => by rw [State.outcomeRx_none h hx], fun x h hx =>
    ⟨fun h2 hc => by rw [h2, State.outcomeRx_applies h hx hc], fun h2 hg hc => by rw [h2, State.outcomeRx_fails h hx hg hc],
      fun h4 => ⟨by rw [h4, State.outcomeRx_defers h hx], u.mirrorDefer_shown p x⟩, fun h2 h4 => ?_⟩⟩
  obtain ⟨hpend, hst, hre, -, -⟩ := u.mirrorAbandon_shown p
  exact ⟨by rw [State.outcomeRx_abandons h hx h2 h4], hpend, hst, hre⟩

theorem mirrorCommand_followed (hp : s.boot.powered = true) (ht : s.link4Trusted = true) (mgen : BitVec 32) (p : Fin 128)
    (opcode : BitVec 8) (arg : BitVec 24) :
    (s.pairFollows = false ∨ p.val ≠ pgMatte ∨ opcode ≠ 0x10 →
      exec (.mirrorCommandRx mgen p opcode arg) s = .next (s.mirrorHeard mgen.toNat).settle) ∧
    (s.pairFollows = true → p.val = pgMatte → opcode = 0x10 → (s.hdr pgMatte).run = none →
      (s.mattePending = false → ∃ t : State, exec (.mirrorCommandRx mgen p opcode arg) s = .next t.settle ∧
        t.Runs pgMatte 0x10 arg.toNat 0xC ∧ t.fget pgMatte MATTE.STAT.VERIFY_BUSY = 1 ∧ t.pair.verifying = true) ∧
      (s.mattePending = true → ∃ t : State, exec (.mirrorCommandRx mgen p opcode arg) s = .next (t.clearReady 3).settle ∧
        (t.hdr pgMatte).run = none ∧ (t.hdr pgMatte).cmdState = 3 ∧ (t.hdr pgMatte).cmdReason = 0x20 ∧
        (t.hdr pgMatte).cmdIssuer = 0xC)) := by
  have hfollows := s.mirrorHeard_follows mgen.toNat
  have hmatte := s.mirrorHeard_matte mgen.toNat
  have hpending := State.mattePending_of hmatte
  rw [exec_mirrorCommandRx_trusted hp ht]
  refine ⟨fun h => ?_, fun hf hpage hop hrun => ?_⟩
  · rw [State.mirrorCommandRx_apart]
    rintro ⟨hf, hpage, hop⟩
    exact h.elim (fun h => by simp [← hfollows, hf] at h) fun h => h.elim (· hpage) fun h => h (BitVec.eq_of_toNat_eq hop)
  · rw [← hfollows] at hf
    rw [← hmatte.1] at hrun
    rw [hpage, hop, ← hpending]
    refine ⟨fun hm => ⟨_, by rw [show (0x10 : BitVec 8).toNat = 0x10 from rfl, State.mirrorCommandRx_accepted hf hrun hm],
      State.verifyAccepted_runs _ _⟩, fun hm => ⟨_, by rw [show (0x10 : BitVec 8).toNat = 0x10 from rfl,
        State.mirrorCommandRx_refused hf hrun hm], State.verifyRefused_shown hrun⟩⟩

theorem mirrorTaken_followed (hp : s.boot.powered = true) (ht : s.link4Trusted = true) (mgen : BitVec 32)
    (hu : u = s.mirrorHeard mgen.toNat) : ∃ t : State, exec (.mirrorTakenRx mgen) s = .next t.settle ∧ (s.pairActive = false → t = u) ∧
      (s.pairActive = true → t.pairState = 5 ∧ t.fget pgPair PAIR.RESYNC_STAT.BUSY = 0 ∧ t.pair.queue = [] ∧
        t.gaf = { u.gaf with queues := [], retries := [] } ∧
        (∀ n, n < 16 → (t.dud n).live = 0 ∧ (t.dud n).owned = 0 ∧ (t.dud n).lost = 0) ∧
        (t.hdr pgPair).evt.getLsbD 8 = true) := by
  have hactive : u.pairActive = s.pairActive := hu ▸ s.mirrorHeard_active mgen.toNat
  rw [exec_mirrorTakenRx_trusted hp ht, ← hu, ← hactive]
  exact ⟨_, rfl, State.demote_other, State.demote_shown⟩

theorem mirrorResync_followed (hp : s.boot.powered = true) (ht : s.link4Trusted = true) (mgen : BitVec 32) (ends : Bool)
    (hu : u = s.mirrorHeard mgen.toNat) :
    (s.pairState = 0 ∨ s.pairState = 4 → exec (.mirrorResyncRx mgen ends) s = .next u.settle) ∧
    (s.pairState ≠ 0 → s.pairState ≠ 4 → ends = true → exec (.mirrorResyncRx mgen ends) s =
      .next (if s.pairState = 2 ∧ u.pair.diverged = false then (u.setPair (fun x => { x with goodRun := some 0 })).settle
        else u.settle)) ∧
    (s.pairState ≠ 0 → s.pairState ≠ 4 → ends = false → ∃ t : State,
      exec (.mirrorResyncRx mgen ends) s = .next t.settle ∧ State.Follows (s.mono + pairLease) t) := by
  have hstate : u.pairState = s.pairState := hu ▸ s.mirrorHeard_pairState mgen.toNat
  have hmono : u.mono = s.mono := hu ▸ s.mirrorHeard_mono mgen.toNat
  rw [exec_mirrorResyncRx_trusted hp ht, ← hu, ← hstate, ← hmono]
  refine ⟨fun h => by rw [State.resyncRx_idle h], fun h0 h4 he => ?_, fun h0 h4 he => ⟨_, rfl, ?_⟩⟩
  · rw [he, State.resyncRx_end h0 h4, apply_ite State.settle]
  · rw [he]
    exact State.resyncRx_follows h0 h4

/-! ### The obligation -/

/-- Settles O56: a message over an untrusted LINK4 is not heard, and over a trusted one each kind has its own effect on the state
that has heard it. -/
theorem mirrorMessagesAreFollowed : Obligations.MirrorMessagesAreFollowed := by
  unfold Obligations.MirrorMessagesAreFollowed
  refine fun s mgen hp => ⟨fun h => ?_, fun h => ⟨s.mirrorHeard mgen.toNat, s.mirrorHeard_heard mgen.isLt,
    fun slot st ready inhibit groups epoch frame primary =>
      mirrorHeartbeat_followed hp h mgen slot st ready inhibit groups epoch frame primary,
    fun p gen boundary group entries c hc => mirrorCommit_followed hp h mgen p gen boundary group entries hc rfl,
    fun p st => mirrorOutcome_followed hp h mgen p st rfl, fun block tag poison data =>
      exec_mirrorBlockRx_trusted hp h mgen block tag poison data, fun buffer gen ceilings frame v hv => ?_,
    fun e short remove frame c hc => ?_, fun p opcode arg => mirrorCommand_followed hp h mgen p opcode arg,
    fun tile lo hi join => exec_mirrorSplitRx_trusted hp h mgen tile lo hi join, fun cause =>
      exec_mirrorYieldRx_trusted hp h mgen cause, mirrorTaken_followed hp h mgen rfl, fun ends =>
      mirrorResync_followed hp h mgen ends rfl, fun tile sink frame words =>
      exec_mirrorDiagrespRx_trusted hp h mgen tile sink frame words⟩⟩
  · exact ⟨fun a b c d e f g i => State.mirror_unheard hp h mgen.toNat _, fun a b c d e => State.mirror_unheard hp h mgen.toNat _,
      fun a b => State.mirror_unheard hp h mgen.toNat _, fun a b c d => ⟨State.mirror_unheard hp h mgen.toNat _,
        fun v w x y => State.mirror_unheard hp h mgen.toNat _⟩, fun a b c d => State.mirror_unheard hp h mgen.toNat _,
      fun a b c => State.mirror_unheard hp h mgen.toNat _, fun a b c d => State.mirror_unheard hp h mgen.toNat _,
      fun a => State.mirror_unheard hp h mgen.toNat _, State.mirror_unheard hp h mgen.toNat _,
      fun a => State.mirror_unheard hp h mgen.toNat _, fun a b c d => State.mirror_unheard hp h mgen.toNat _⟩
  · rw [hv]
    exact exec_mirrorRebuildRx_trusted hp h mgen buffer gen ceilings frame
  · rw [hc]
    exact exec_mirrorListRx_trusted hp h mgen e short remove frame

end Sys2Proof.Machine
end
